-- ==== Sys2Proof/Word.lean ====
section
/-! DEFINITION. Words of Valper's register space (R6, R36) and plain signed readings of bit patterns (R2). -/

namespace Sys2Proof

/-- A register word: every access moves one whole 64-bit word (R6, R36). -/
abbrev Word := BitVec 64

/-- A draw-schedule entry: 32 bits (R201). -/
abbrev Entry := BitVec 32

end Sys2Proof
end

