-- ==== Sys2Proof/Syntax.lean ====
section
/-! DEFINITION. The commands of the block: one constructor of Instr per row of spec/opcode_table.json, with the row's operands;
rows with operands first, then those without (compiled code can hold no constructor with operands beyond the 244th),
each in the table's order. -/

namespace Sys2Proof

/-- What the flash answers to the JESD216 discovery (R347): a table of JESD216B or later, its density in bytes, its page size,
whether it offers a 4 KiB erase, 4-byte addressing and 1-1-4 read. -/
structure Sfdp where
  revB : Bool
  bytes : Nat
  page : Nat
  erase4k : Bool
  addr4 : Bool
  quad : Bool
  deriving DecidableEq, Repr

/-- A frame of the coordination link: header word, payload words, trailer word (R371). -/
structure LinkFrame where
  header : Word := 0
  payload : List Word := []
  trailer : Word := 0
  deriving DecidableEq, Repr

/-- How a hysteretic pulse ended (R144): its on-time in ps and the window converter's code at its end. -/
structure PulseEnd where
  ton : Nat
  code : Int
  deriving DecidableEq, Repr

/-- A tie switch and the level its VP_TIE_ST takes (R209). -/
structure TieLevel where
  n : Nat
  high : Bool
  deriving DecidableEq, Repr

/-- A command: a row of the opcode table with its operands. `t w p k` are tile, well, pump and cluster; `d` is the word a host writes. -/
inductive Instr where
  /-- REGISTER_WRITE (R36): A host write to a register that has no row of its own stores the whole 64-bit word as each field's access type allows. -/
  | registerWrite (a : Nat) (d : Word)
  /-- STATUS_CLEAR (R8): A write of 1 to a W1C status bit clears it, unless hardware sets the bit in the same cycle. -/
  | statusClear (a : Nat) (d hw : Word)
  /-- COUNTER_CLEAR (R396): A write of zero to an event-counter field clears the count and its SAT flag; a non-zero write leaves the counter unchanged. -/
  | counterClear (a : Nat) (d : Word) (inc : Bool)
  /-- HOST_REQUEST (R34): The host port accepts a request when VP_HREQ and VP_HREADY are both 1, and queues it for an in-order response. -/
  | hostRequest (we : Bool) (a : Nat) (d : Word) (tag : Nat)
  /-- PORT_TIMEOUT (R37): A target that gives no answer within 4,096 port cycles gets the response TIMEOUT. -/
  | portTimeout (landed : Bool)
  /-- BROADCAST_WRITE (R38): A write to the broadcast region is passed to the same offset of every configured Pumphouse and is answered once. -/
  | broadcastWrite (off : Nat) (d : Word) (silent : List Nat)
  /-- WL_LIMIT_WRITE (R27): A host write of CONT_LIM lowers the well's continuous capability and scales PEAK by the same ratio. -/
  | wlLimitWrite (t w : Nat) (d : Word)
  /-- READ (R43): The sideband READ command reads a register through the sideband path. -/
  | sbRead (a : Nat)
  /-- MBOX_WRITE (R43): The sideband MBOX_WRITE command fills HD_SB_MBOX and sets MBOX_FULL, and also MBOX_OVR if the mailbox already held unread data. -/
  | mboxWrite (d : Word)
  /-- STOP_REQUEST (R43): The sideband STOP_REQUEST command with byte 0xA5 sets STOP_REQ and raises SIDEBAND_STOP. -/
  | stopRequest (b : Nat)
  /-- ADDRESS_MATCH_WAKE (R44): A private transfer or direct common command to the target's own address wakes the Wellhead. -/
  | addressMatchWake
  /-- ENEC (R41): The ENEC common command enables IBI. -/
  | enec (b : Nat)
  /-- DISEC (R41): The DISEC common command disables IBI. -/
  | disec (b : Nat)
  /-- ENTDAA (R41): The ENTDAA common command assigns a dynamic address. -/
  | entdaa (addr : Nat)
  /-- SETDASA (R41): The SETDASA common command assigns a dynamic address from the static address. -/
  | setdasa (addr : Nat)
  /-- SETNEWDA (R41): The SETNEWDA common command changes the dynamic address. -/
  | setnewda (addr : Nat)
  /-- SETMWL (R41): The SETMWL common command sets the maximum write length, 16–64 bytes. -/
  | setmwl (n : Nat)
  /-- SETMRL (R41): The SETMRL common command sets the maximum read length, 16–64 bytes. -/
  | setmrl (n : Nat)
  /-- RSTACT (R42): The RSTACT common command resets the I3C target logic alone. -/
  | rstact (b : Nat)
  /-- UNSUPPORTED_CCC (R41): Any other common command is answered with NACK. -/
  | unsupportedCcc (c : Nat)
  /-- IBI_REQUEST (R45): The target raises a pending IBI with its class byte, and retries it after a loss in arbitration. -/
  | ibiRequest (lost : Bool)
  /-- DBG_REG_READ (R47): A DBG_REG read operation reads a register between host-port requests. -/
  | dbgRegRead (a : Nat)
  /-- DBG_REG_WRITE (R47): A DBG_REG write operation writes a register between host-port requests; it is denied in a DBG_AUTH session. -/
  | dbgRegWrite (a : Nat) (d : Word)
  /-- DBG_AUTH (R47): The DBG_AUTH TAP instruction opens a read-only diagnostic session after an accepted DIAG authorisation. -/
  | dbgAuth
  /-- CHALLENGE (R53): LC_CMD CHALLENGE makes a new nonce for the given purpose, unless authorisation is locked out. -/
  | challenge (d : Word)
  /-- CANCEL (R53): LC_CMD CANCEL voids the pending nonce. -/
  | cancel (same : Bool)
  /-- LC_STAGE_WRITE (R50): A write to LC_STAGE stages key material; it is accepted only in BLANK, or in RETURNED after an accepted REENTRY. -/
  | lcStageWrite (n : Nat) (d : Word)
  /-- IMG_START (R69): HD_IMG_CTRL.START starts a load and voids the slot when all wells are dry or safe priming runs, and is otherwise refused. -/
  | imgStart (d : Word)
  /-- IMG_ABORT (R73): HD_IMG_CTRL.ABORT ends a load in progress in VOID with code ABORTED. -/
  | imgAbort (d : Word) (same : Bool)
  /-- SAFE_NOW (R76): HD_IMG_CTRL.SAFE_NOW starts safe priming from EMPTY or VOID. -/
  | safeNow (d : Word)
  /-- SAFE_STOP (R76): HD_IMG_CTRL.SAFE_STOP parks every safe-primed well and ends safe priming, in VOID or EMPTY only. -/
  | safeStop (d : Word)
  /-- HD_IMG_DATA_WRITE (R71): A host write to HD_IMG_DATA adds the next image word; the word that completes the declared length moves the loader to CHECKING. -/
  | hdImgDataWrite (d : Word)
  /-- APPLY_FAIL (R67): A Pumphouse that has not taken its configuration within 1 ms rejects the load as APPLY_FAIL. -/
  | applyFail (t : Nat)
  /-- SAFE_PRIME_STEP (R75): Safe priming moves to its next step once every well of the present step is inside its band. -/
  | safePrimeStep (t : Nat)
  /-- SAFE_PARK_TIMEOUT (R76): 5 ms after a tile's safe parking began, PEN falls on every well that has not reached DRY. -/
  | safeParkTimeout (t : Nat)
  /-- KEEPER_ENABLE (R78): Within 1 ms of the bus rising above UV_LIM, the Pumphouse enables the keeper pumps and primes the keeper well in hysteretic mode. -/
  | keeperEnable (t : Nat)
  /-- KEEPER_HANDOVER (R148): The keeper well is handed to voltage mode once an image is ACTIVE and its engine has passed the self-test. -/
  | keeperHandover (t : Nat)
  /-- CAL (R87): PM_LINK.CAL starts an OFFSET measurement if the pump's PEN is low. -/
  | cal (t w p : Nat) (d : Word)
  /-- OFFSET_MEASURE_DONE (R87): The 64 µs OFFSET measurement ends and stores OFFSET, unless PEN rose first. -/
  | offsetMeasureDone (t w p edges : Nat) (winSum : Int)
  /-- TSNS_PERIOD (R89): A complete VP_TSNS period gives the pump temperature, or a broken reading. -/
  | tsnsPeriod (t w p high period : Nat)
  /-- TSNS_TIMEOUT (R89): 50 µs with no edge on VP_TSNS makes the pump's reading broken. -/
  | tsnsTimeout (t w p : Nat)
  /-- PUMP_FAULT_WIRE_FALL (R90): VP_PFLT_N falls: the Pumphouse holds the pump's PWM low and removes the pump from sharing. -/
  | pumpFaultWireFall (t w p : Nat) (penFell : Bool)
  /-- FAULT_CLASSIFY (R90): 400 ns after the wire fell, the tag is classified, TRIPS is counted for SHORT, and an OVERTEMP retires the pump. -/
  | faultClassify (t w p edges : Nat)
  /-- PUMP_REARM (R92): 10 µs after the fault edge, the Pumphouse drives PEN low for 100 ns, unless the fault is lasting. -/
  | pumpRearm (t w p : Nat)
  /-- REARM_PEN_RELEASE (R92): After the 100 ns low pulse, PEN returns high. -/
  | rearmPenRelease (t w p : Nat)
  /-- REARM_CHECK (R92): A VP_PFLT_N still low 100 ns after PEN returned high counts as a second, lasting fault. -/
  | rearmCheck (t w p : Nat)
  /-- PUMP_FAULT_WIRE_RISE (R90): VP_PFLT_N rises and the pump returns to sharing at its next slot. -/
  | pumpFaultWireRise (t w p : Nat)
  /-- SOFT_SHORT_TRIP (R91): The sense stream passes the image's lower trip value over a 400 ns window, so the Pumphouse drops PEN and records a SHORT. -/
  | softShortTrip (t w p : Nat)
  /-- BUS_FAULT (R96): The bus stays beyond UV_LIM or OV_LIM for 200 ns, which raises the BUS fault source. -/
  | busFault (t : Nat) (ov : Bool)
  /-- DCO_PULL_UPDATE (R100): Every 10 µs the DCO target is updated from the phase, and MODE becomes LOCKED after 100 µs within 20 ps. -/
  | dcoPullUpdate (fref phi : Int)
  /-- PERIOD_OPENING (R82): A well's switching period opens: changes of m and ROT, mode switches and duty replacements take effect. -/
  | periodOpening (t w : Nat)
  /-- INNER_SAMPLE_CLOSE (R240): At a loop-period close the decimator forms X and queues it to the engine; per-period breach values are tested. -/
  | innerSampleClose (t w : Nat) (codes : List Int)
  /-- INNER_EVALUATION (R112): An engine evaluates the PID from a sample and commits a duty. -/
  | innerEvaluation (t w : Nat)
  /-- RESIDUE_VERDICT (R126): A residue verdict or lockstep comparison completes; a failure queues a retry or declares a lasting fault. -/
  | residueVerdict (t w : Nat) (okA okB same : Bool)
  /-- EVALUATION_RETRY (R127): A retry evaluates again from the held inputs: a pass is transient, a failure is lasting. -/
  | evaluationRetry (t w : Nat) (okA okB same : Bool)
  /-- OUTER_EVALUATION (R116): At each outer boundary the well's currents, capability, sharing, load line, checks and deficit reaction are computed. -/
  | outerEvaluation (t w : Nat) (edges : List (List Nat))
  /-- SELF_TEST (R128): An engine runs its reference-vector self-test in the first idle slot after a window boundary; a wrong result is a lasting fault. -/
  | selfTest (t e : Nat) (ok : Bool)
  /-- STEST (R128): PH_ENG_CTRL.STEST requests a self-test on each healthy engine. -/
  | stest (t : Nat) (d : Word)
  /-- MODE_REQ_WRITE (R135): A write with a changed MODE_REQ requests an engine mode and is granted or refused. -/
  | modeReqWrite (t : Nat) (d : Word)
  /-- MODE_CHANGE_APPLY (R134): A granted mode takes effect at the next beat boundary, with each well switching at its next loop-period opening. -/
  | modeChangeApply (t : Nat)
  /-- HOLD_ASSERT (R120): The remote sense falls HOLD_TH below the set-point, and the hold wires of the fed clusters are asserted within 20 ns. -/
  | holdAssert (t w : Nat) (dev : Int)
  /-- HOLD_RELEASE (R120): The deviation recovers to HOLD_TH − HOLD_HYS and the hold wires are released. -/
  | holdRelease (t w : Nat) (dev : Int)
  /-- HOLD_TIMEOUT (R120): HOLD_NS after assertion, the hold wires are released. -/
  | holdTimeout (t w : Nat)
  /-- OV_SUPPRESS (R123): The remote sense rises OV_TH above the set-point, and new rising edges are suppressed. -/
  | ovSuppress (t w : Nat) (dev : Int)
  /-- OV_SUPPRESS_END (R123): The deviation falls below OV_TH − HOLD_HYS, and rising edges resume. -/
  | ovSuppressEnd (t w : Nat) (dev : Int)
  /-- PROFILE_TICK (R139): Every 125 ns the profile generator updates a, v and x toward g under its limit set. -/
  | profileTick (t w : Nat)
  /-- V_CMD_WRITE (R142): A host write to WL_SETPT.V_CMD retargets the well, is stored, or is ignored with HOST_IGN. -/
  | vCmdWrite (t w : Nat) (d : Word)
  /-- HYST_TURN_ON (R144): A hysteretic turn-on goes to the next ready pump. -/
  | hystTurnOn (t w : Nat) (code : Int)
  /-- HYST_PULSE_END (R144): A hysteretic pulse ends at TON_MAX or when the voltage passes x + HB. -/
  | hystPulseEnd (t w p : Nat) (e : PulseEnd)
  /-- HYST_PUMP_READY (R144): A pump becomes ready again after its reset time. -/
  | hystPumpReady (t w p : Nat)
  /-- HANDOVER (R146): A well meeting the HAND conditions is handed to voltage mode at an outer boundary, with duty D_h. -/
  | handover (t w : Nat)
  /-- SQ_START (R158): SQ_CTRL.START starts PROG on a sequencer, or is refused. -/
  | sqStart (n : Nat) (d : Word)
  /-- SQ_ABORT (R164): SQ_CTRL.ABORT takes effect at the next beat: the program stops and ownership is released. -/
  | sqAbort (n : Nat)
  /-- END (R160): The END instruction ends the program, sets DONE and EXIT and raises sequencer-done. -/
  | sqEnd (n : Nat)
  /-- SELT (R160): The SELT instruction selects tiles. -/
  | sqSelt (n : Nat)
  /-- SETV (R160): The SETV instruction sets V_CMD of the selected wells. -/
  | sqSetv (n : Nat)
  /-- PROF (R160): The PROF instruction selects the limit set. -/
  | sqProf (n : Nat)
  /-- PRIME (R153): The PRIME instruction starts priming of the selected dry wells. -/
  | sqPrime (n : Nat)
  /-- HAND (R146): The HAND instruction asks for handover of the selected wells. -/
  | sqHand (n : Nat)
  /-- HYST (R148): The HYST instruction moves the selected wells to hysteretic mode. -/
  | sqHyst (n : Nat)
  /-- PARK (R157): The PARK instruction parks the selected wet wells. -/
  | sqPark (n : Nat)
  /-- WAIT (R160): The WAIT instruction waits for a condition or a delay. -/
  | sqWait (n : Nat)
  /-- JMP (R160): The JMP instruction jumps under its condition. -/
  | sqJmp (n : Nat)
  /-- CLGT (R160): The CLGT instruction asserts or returns the gate controls of the selected wells' clusters. -/
  | sqClgt (n : Nat)
  /-- TIE (R160): The TIE instruction holds or releases the tie switches of the selected wells. -/
  | sqTie (n : Nat)
  /-- PMODE (R160): The PMODE instruction sets AUTO, DE or SYNC conduction in voltage mode. -/
  | sqPmode (n : Nat)
  /-- TRK (R150): The TRK instruction enables or disables tracking relations. -/
  | sqTrk (n : Nat)
  /-- TEST (R236): The TEST instruction runs one in-field test step, or fails with BLOCKED. -/
  | sqTest (n : Nat)
  /-- EVENT (R160): The EVENT instruction sets EVCODE and raises sequencer-event. -/
  | sqEvent (n : Nat)
  /-- INSTRUCTION_COMPLETE (R161): A waiting instruction completes at the beat after every selected well completed or failed, and sets F. -/
  | instructionComplete (n : Nat)
  /-- INSTRUCTION_TIMEOUT (R161): A waiting instruction's timeout expires, with F = 0 and waiting PRIME wells left DRY. -/
  | instructionTimeout (n : Nat)
  /-- PRIME_ADMIT (R154): A waiting well is admitted once headroom and inrush budget have held for eight boundaries. -/
  | primeAdmit (t w : Nat)
  /-- PRIME_RESUME (R155): A paused ramp resumes after eight boundaries of sufficient headroom. -/
  | primeResume (t w : Nat)
  /-- PARK_TIMEOUT (R157): A park's timeout expires: PEN falls on every pump and the well fails. -/
  | parkTimeout (t w : Nat)
  /-- CAPABILITY_EVENT (R33): The Wellhead receives a capability event, which the placement engine and cap governor take up. -/
  | capabilityEvent (n : Nat)
  /-- SCHEDULE_WINDOW_WRITE (R201): A write through the schedule window stores two entries in UNBOUND, or answers DENIED. -/
  | scheduleWindowWrite (t o : Nat) (d : Word)
  /-- BIND (R202): DS_CTRL.BIND starts the slice checks. -/
  | bind (t : Nat) (d : Word)
  /-- BIND_DONE (R202): The checks end: the slice becomes BOUND, or UNBOUND with ERR. -/
  | bindDone (t : Nat)
  /-- UNBIND (R203): DS_CTRL.UNBIND unbinds the slice or aborts a check. -/
  | unbind (t : Nat) (d : Word) (same : Bool)
  /-- DS_START (R203): DS_CTRL.START requests play at the next beat boundary. -/
  | dsStart (t : Nat) (d : Word)
  /-- DS_STOP (R203): DS_CTRL.STOP requests a stop at the next beat boundary. -/
  | dsStop (t : Nat) (d : Word)
  /-- PLAY_START (R203): A pending START makes the slice PLAYING with every stream in its initial state. -/
  | playStart (t : Nat)
  /-- PLAY_STOP (R203): A pending STOP stops every stream, and each well takes i_ff = I_w and V_pre = 0. -/
  | playStop (t : Nat)
  /-- PLAYER_BEAT (R184): At each wafer beat the player advances P and A, executes entries, applies pre-bias and pump counts and decides branches. -/
  | playerBeat (t : Nat)
  /-- NOTICE_POST (R192): A core posts a notice into its ring, and stalls if the ring is full. -/
  | noticePost (t k n : Nat) (m : Word)
  /-- NOTICE_COLLECT (R191): The collector takes a notice from a ring and handles it as a vote, branch notice or arrival. -/
  | noticeCollect (t k n : Nat)
  /-- GATE_COMPLETE (R196): A tile-scoped gate completes when its count reaches COUNT; the parity toggles and bound relocations apply. -/
  | gateComplete (t id : Nat)
  /-- WAFER_GATE_REPORT (R196): A Pumphouse reports a wafer-scoped gate count to the Wellhead. -/
  | waferGateReport (t id : Nat)
  /-- WAFER_GATE_COMPLETE (R196): The Wellhead completes a wafer-scoped gate once every participating tile has reported, and sends the release beat. -/
  | waferGateComplete (id : Nat)
  /-- GATE_RELEASE (R196): At Br, P resumes and beat-sync pulses go to the waiting clusters. -/
  | gateRelease (t id : Nat)
  /-- GATE_TIMEOUT (R197): GATE_TMO expires while a stream waits, which sets TMO and raises GATE_TIMEOUT. -/
  | gateTimeout (t w : Nat)
  /-- FORCE (R197): DS_GATE_CTRL.FORCE completes the selected gate's round on this tile at the next beat. -/
  | force (t : Nat) (d : Word)
  /-- WELL_OVERLOAD (R208): The excess timer reaches 2 ms: OVERLOAD is set and a 15/16 protective rest applies. -/
  | wellOverload (t w : Nat)
  /-- TIE_ACK (R211): VP_TIE_ST rises and the wells merge at the next outer boundary. -/
  | tieAck (t : Nat) (n : TieLevel)
  /-- TIE_ACK_TIMEOUT (R211): No acknowledge by boundary Bk + 1: the tie is dropped and TIE_FAULT is set. -/
  | tieAckTimeout (t n : Nat)
  /-- TIE_OVERCURRENT (R213): TIE_I above TIE_IMAX at eight boundaries fails the tie. -/
  | tieOvercurrent (t n : Nat)
  /-- TIE_OPEN (R214): An unloading tie opens once |TIE_I| ≤ TIE_OPEN_I at two boundaries. -/
  | tieOpen (t n : Nat)
  /-- TIE_FORCED_OPEN (R214): An unload not done within 16 outer periods opens the switch as a forced unload. -/
  | tieForcedOpen (t n : Nat)
  /-- PUMP_OPEN_RETIRE (R222): A pump that counts as open at two boundaries is RETIRED with REASON OPEN. -/
  | pumpOpenRetire (t w p : Nat)
  /-- SENSE_FOLLOW (R224): A pump with failed current sense enters FOLLOW. -/
  | senseFollow (t w p : Nat)
  /-- CRACK_SUSPECT (R227): An R_STEP excess held for 64 boundaries sets CRACK and caps CONT. -/
  | crackSuspect (t w : Nat)
  /-- SENSE_OPEN (R229): The remote sense stands above the local one at two boundaries: SENSE_OPEN, correction and an 8/16 rest. -/
  | senseOpen (t w : Nat)
  /-- TEST_DUE (R231): AGE_H reaches PERIOD_H and the in-field test becomes due. -/
  | testDue (t w : Nat)
  /-- TEST_REQ (R231): WL_TEST.REQ makes the test due at once. -/
  | testReq (t w : Nat) (d : Word)
  /-- TEST_DEFER_EXPIRY (R231): DEFER_MAX_H after becoming due, the test runs in shadow mode instead. -/
  | testDeferExpiry (t w : Nat)
  /-- QUIET_TEST_START (R232): A quiet-window test step starts when R232's conditions hold. -/
  | quietTestStart (t w : Nat)
  /-- SHADOW_TEST_START (R233): A shadow test step starts when R233's conditions hold. -/
  | shadowTestStart (t w : Nat)
  /-- TEST_STEP_END (R235): A test step ends in a pass or a fail, which retires the pump. -/
  | testStepEnd (t w : Nat)
  /-- TEST_OVERDUE (R234): One hour of waiting after deferral sets OVERDUE and raises TEST_OVERDUE. -/
  | testOverdue (t w : Nat)
  /-- RET_ARM (R237): PH_RET_ARM with CODE 0xA5 arms the return of a pump slot. -/
  | retArm (t : Nat) (d : Word)
  /-- RETURN (R237): PM_SVC.RETURN within 1 µs of arming returns a RETIRED pump to OFF, pending a test step. -/
  | returnPump (t w p : Nat) (d : Word)
  /-- AD_WIN_CAL (R241): AD_WIN.CAL measures the window converter's offset on a dry well. -/
  | adWinCal (t w : Nat) (d : Word) (sum : Int)
  /-- CAL_NOW (R243): AD_CTRL.CAL_NOW runs the SAR calibration at once. -/
  | calNow (t : Nat) (d : Word)
  /-- SAR_CONVERSION (R245): A housekeeping conversion completes and feeds its consumers and accumulator. -/
  | sarConversion (t n raw : Nat)
  /-- INJECT_TRIGGER (R249): A trigger starts an injected sequence on converter 3, or is dropped. -/
  | injectTrigger (t n src : Nat) (w : Nat)
  /-- GO (R249): AD_INJ.GO triggers a SOFT injected sequence. -/
  | adGo (t n : Nat) (d : Word)
  /-- BURST_START (R250): An interleaved burst starts at the end of converter 2's next BUS slot. -/
  | burstStart (t : Nat)
  /-- BURST_DONE (R250): An interleaved burst completes and sets BURST_DONE. -/
  | burstDone (t : Nat) (results : List Nat)
  /-- AD_RES_CONFIG_WRITE (R251): A write changing AVG_K or SHIFT restarts the channel accumulator. -/
  | adResConfigWrite (t ch : Nat) (d : Word)
  /-- LP_INHIBIT_WRITE (R252): Setting LP_INHIBIT ends or prevents low-power mode. -/
  | lpInhibitWrite (t : Nat) (d : Word)
  /-- TELEMETRY_WINDOW_CLOSE (R254): At each 4,096-beat boundary the Pumphouse forms window figures, calibrates and cross-checks. -/
  | telemetryWindowClose (t : Nat)
  /-- TILE_TELEMETRY_REPORT (R256): A Pumphouse's window figures reach the aggregator. -/
  | tileTelemetryReport (t : Nat)
  /-- THERMAL_ROUND (R262): The round evaluates a channel against its limits. -/
  | thermalRound (t ch : Nat)
  /-- HOT_LIST_EVAL (R262): Every 25 µs the hot-list channels are evaluated. -/
  | hotListEval (t : Nat)
  /-- THROTTLE_STEP (R266): Every 100 µs in throttle r_th rises by 1/16 while the slope is not negative. -/
  | throttleStep (t w : Nat)
  /-- ORDERLY_STOP_END (R268): The orderly stop ends at the outer boundary after no vote is held, and the hard stop follows. -/
  | orderlyStopEnd (t : Nat)
  /-- ORDERLY_TIMEOUT (R268): ORDERLY_US expires and the hard stop follows. -/
  | orderlyTimeout (t : Nat)
  /-- HARD_STOP (R269): Hold wires and gates are asserted and PEN drops on wells 0–13. -/
  | hardStop (t : Nat)
  /-- STOP_RECORD_SENT (R270): The stop record reaches the Wellhead and STOP reads STOPPED. -/
  | stopRecordSent (t : Nat)
  /-- RESUME (R271): TH_CTRL.RESUME returns a cooled STOPPED tile to RUN, or is refused. -/
  | resume (t : Nat) (d : Word)
  /-- CLR_PEAK (R273): TH_CTRL.CLR_PEAK sets every PEAK to its TEMP. -/
  | clrPeak (t : Nat) (d : Word)
  /-- REST_FRAME (R274): At each 16-beat frame boundary the committed rest duties take effect. -/
  | restFrame (t : Nat)
  /-- CAP_HOST_WRITE (R278): A write to CG_CAP.CAP_HOST sets the host cap, clamped to WAFER_LIM. -/
  | capHostWrite (d : Word)
  /-- JOB_STOP (R285): CG_CTRL.JOB_STOP starts STOP_PROG while STOP_OFFER is set, and is otherwise refused. -/
  | jobStop (d : Word)
  /-- PL_SET (R292): A write to PL_SET sets a region's class, or is refused. -/
  | plSet (d : Word)
  /-- ACCEPT (R295): An ACCEPT message from the remap unit binds the order to a coming gate. -/
  | accept (id : Nat)
  /-- REFUSE (R295): A REFUSE message releases the spare for replanning. -/
  | refuse (id : Nat)
  /-- ACCEPT_TIMEOUT (R295): No answer within ACCEPT_TMO counts as a REFUSE. -/
  | acceptTimeout (id : Nat)
  /-- DONE (R297): A DONE message completes a relocation: TO becomes WORK and FROM becomes SPARE or RETIRED. -/
  | relocDone (id : Nat)
  /-- RELOC_TIMEOUT (R296): No DONE within RELOC_TMO sets RELOC_TMO and raises the source. -/
  | relocTimeout (id : Nat)
  /-- HOLD (R298): PL_CTRL.HOLD stops new relocation orders. -/
  | plHold (d : Word)
  /-- RESET_MAP (R298): PL_CTRL.RESET_MAP restores the identity map when idle, and is otherwise refused. -/
  | resetMap (d : Word)
  /-- HOST_CL_WRITE (R309): A write to PH_HOST_CL sets host cluster votes, and a set bit acts as a WAKE. -/
  | hostClWrite (t half : Nat) (d : Word)
  /-- HOST_HOLD_WRITE (R304): A write to PH_HOST_HOLD sets host votes on wells. -/
  | hostHoldWrite (t : Nat) (d : Word)
  /-- VOTE_GATE (R308): A cluster unwanted for CL_GRACE beats takes C_VOTE. -/
  | voteGate (t k : Nat)
  /-- WAKE_GRACE_EXPIRY (R308): A woken cluster not wanted within WAKE_GRACE takes C_VOTE again. -/
  | wakeGraceExpiry (t k : Nat)
  /-- GATE_CONTROL_RELEASE (R307): At the first beat with no cause, VP_GOFF falls. -/
  | gateControlRelease (t k : Nat)
  /-- GREQ_RELEASE (R306): GON_DLY after VP_GOFF fell, VP_GREQ falls. -/
  | greqRelease (t k : Nat)
  /-- VOTED_PARK (R310): DRY_GRACE expires on a voted well with no vote, and a voted park starts. -/
  | votedPark (t w : Nat)
  /-- PRIMING_ON_WAKE (R312): A dry voted well primes and is handed over without a sequencer. -/
  | primingOnWake (t w : Nat)
  /-- PUMPHOUSE_WAKE_DONE (R313): The engine and DPWM clocks lock after WAKING and the CAL stage can start. -/
  | pumphouseWakeDone (t : Nat)
  /-- SLEEP (R316): HD_PWR_CTRL.SLEEP requests SLEEP, or is refused with a cause. -/
  | sleep (d : Word)
  /-- SLEEP_WAKE (R318): An armed wake source wakes the Wellhead or abandons a sleep request. -/
  | sleepWake (srcs : Nat)
  /-- FAULT_RAISE (R332): A raise reaches the collector and opens or merges into an episode, applying its reaction. -/
  | faultRaise (n : Nat)
  /-- BLOCK_RESET_DONE (R329): A BLOCK reset completes within 20 µs and any reaction program then starts. -/
  | blockResetDone (blk : Nat)
  /-- EPISODE_CLOSE (R335): FC_STAT.OPEN write closes the episode, releasing pins, and re-latches held sources. -/
  | episodeClose (d : Word)
  /-- TRAP_ACK (R336): FC_CTRL.TRAP_ACK releases VP_TRAP. -/
  | trapAck (d : Word)
  /-- INJECT (R337): FC_CTRL.INJECT raises INJECT_SRC as if the fault occurred. -/
  | inject (d : Word)
  /-- INTERRUPT_CLAIM (R341): A read of IC_CLAIM claims the highest eligible source for the target. -/
  | interruptClaim (tgt : Nat)
  /-- INTERRUPT_COMPLETE (R342): A write to IC_CLAIM completes an active source. -/
  | interruptComplete (tgt : Nat) (d : Word)
  /-- SETPEND (R343): IC_SETPEND makes a source pending. -/
  | setpend (d : Word)
  /-- RECORDER_SCAN (R353): The recorder discovers the flash and scans it, setting pointers, PCC and time, then writes POWER_ON. -/
  | recorderScan (sfdp : Option Sfdp)
  /-- SNAPSHOT_START (R355): A trigger starts a register snapshot within 2 µs. -/
  | snapshotStart (trig : Nat)
  /-- RECORD_WRITE_DONE (R358): A record's program, read-back and commit complete or fail. -/
  | recordWriteDone (ok : Bool)
  /-- ERASE_DONE (R349): An erase of a circulating unit completes or fails. -/
  | eraseDone (ok : Bool)
  /-- FREEZE (R360): ER_CTRL.FREEZE sets FROZEN after any flash operation in progress. -/
  | freeze (d : Word)
  /-- THAW (R360): ER_CTRL.THAW ends the freeze. -/
  | thaw (d : Word)
  /-- ER_RD_PTR_WRITE (R361): A write to ER_RD_PTR sets the read position and starts fetching. -/
  | erRdPtrWrite (d : Word)
  /-- RD_ABORT (R361): ER_CTRL.RD_ABORT stops fetching and empties the buffer. -/
  | rdAbort (d : Word) (same : Bool)
  /-- CLEAR (R362): ER_CTRL.CLEAR starts an armed clear of the given scope, or is refused. -/
  | clear (d : Word)
  /-- ER_CFG_WRITE (R397): A write to ER_CFG sets QUAD and DIV and may lock them. -/
  | erCfgWrite (d : Word)
  /-- PORT_SIGNAL_DETECT (R369): Signal detect moves an enabled port to TRAINING. -/
  | portSignalDetect (n : Nat)
  /-- TRAINING_DONE (R369): Link training and PCS lock complete and the port enters HELLO. -/
  | trainingDone (n : Nat)
  /-- TRAINING_TIMEOUT (R369): A port not in HELLO within 600 ms returns to DETECT. -/
  | trainingTimeout (n : Nat)
  /-- HELLO_TX (R370): A port sends HELLO every 10 µs in HELLO or every 5 µs when idle. -/
  | helloTx (n : Nat)
  /-- HELLO (R373): A received HELLO frame moves the port toward AUTH and carries ACKs. -/
  | hello (n : Nat) (f : LinkFrame)
  /-- AUTH (R369): A received AUTH frame's tag is checked: UP or ISOLATED. -/
  | auth (n : Nat) (f : LinkFrame)
  /-- ISOLATION_EXPIRY (R369): After 1 s ISOLATED, the port returns to DETECT. -/
  | isolationExpiry (n : Nat)
  /-- PORT_DOWN (R370): Loss of block lock drops an UP port to DETECT and raises LINK. -/
  | portDown (n : Nat)
  /-- PORT_SILENCE_TIMEOUT (R370): No frame for 20 µs drops an UP port to DETECT. -/
  | portSilenceTimeout (n : Nat)
  /-- FRAME_FORWARD (R372): A frame for another instance is forwarded on its route or discarded. -/
  | frameForward (n : Nat) (f : LinkFrame)
  /-- FRAME_RESEND (R372): An unacknowledged frame waits 4 µs, and it and later frames are resent. -/
  | frameResend (n : Nat)
  /-- MARK_TX (R379): Each UP port sends a MARK every 64 beats. -/
  | markTx (n pos : Nat)
  /-- MARK (R379): A received MARK yields a delay and offset sample. -/
  | mark (n : Nat) (f : LinkFrame) (pos : Nat)
  /-- ADV (R374): A received ADV is held and forwarded, and may reveal an address conflict. -/
  | adv (n : Nat) (f : LinkFrame)
  /-- ADV_EXPIRY (R374): An ADV not renewed in 400 ms is dropped. -/
  | advExpiry (inst : Nat)
  /-- FOLLOW_UPDATE (R380): Every 10 µs in FOLLOW the DCO steers toward the parent's offset. -/
  | followUpdate (fref : Int)
  /-- JOIN (R383): CL_JOB.JOIN requests joining JOB_ID, or is refused. -/
  | join (d : Word)
  /-- LEAVE (R385): CL_JOB.LEAVE leaves the job and clears JOB_ID. -/
  | leave (d : Word)
  /-- JOIN_FRAME (R383): The leader receives a JOIN frame and admits or refuses it. -/
  | joinFrame (n : Nat) (f : LinkFrame)
  /-- ADMIT (R383): A received ADMIT names the first window of membership. -/
  | admitFrame (n : Nat) (f : LinkFrame)
  /-- LEAVE_FRAME (R385): The leader receives a LEAVE frame and removes the member. -/
  | leaveFrame (n : Nat) (f : LinkFrame)
  /-- NEED (R386): The leader receives a member's NEED. -/
  | need (n : Nat) (f : LinkFrame)
  /-- AGREE (R386): A member receives AGREE with r_job and the apply beat. -/
  | agree (n : Nat) (f : LinkFrame)
  /-- SYNC_DONE (R387): The leader receives a SYNC_DONE and, once all are held, sends SYNC_REL. -/
  | syncDone (n : Nat) (f : LinkFrame)
  /-- SYNC_REL (R387): A member receives SYNC_REL and releases at Br or late with SYNC_LATE. -/
  | syncRel (n : Nat) (f : LinkFrame)
  /-- SHARE_REQ (R388): The root receives a SHARE_REQ. -/
  | shareReq (n : Nat) (f : LinkFrame)
  /-- SHARE (R388): A received SHARE sets CG_SHARE. -/
  | share (n : Nat) (f : LinkFrame)
  /-- PULL_GO (R389): CL_PULL.GO sends OPEN to the source. -/
  | pullGo (d : Word)
  /-- OPEN (R389): A source receives OPEN and answers with OFFER. -/
  | pullOpen (n : Nat) (f : LinkFrame)
  /-- OFFER (R389): The puller receives OFFER with a result and length. -/
  | offer (n : Nat) (f : LinkFrame)
  /-- CREDIT (R389): The source receives CREDIT and sends DATA. -/
  | credit (n : Nat) (f : LinkFrame)
  /-- DATA (R389): The puller receives DATA and writes words into the loader or slice. -/
  | pullData (n : Nat) (f : LinkFrame)
  /-- PULL_ABORT (R390): CL_PULL.ABORT aborts the pull and any receiving image load. -/
  | pullAbort (d : Word) (same : Bool)
  /-- POWER_LOSS (R54): Power is lost: the image slot, the nonce, the recorder queue and CLEAR_ARMED are lost, and fuses and flash keep what was already written. -/
  | powerLoss (wiped : Bool)
  /-- BUS_RECOVERY (R96): The intermediate bus returns to within UV_LIM and OV_LIM on the continuous comparators, which ends the held BUS condition at that tile. -/
  | busRecovery (t : Nat)
  /-- RET_ARM_EXPIRY (R237): 1 µs after PH_RET_ARM was armed with no RETURN write, the arming lapses and a later RETURN has no effect. -/
  | retArmExpiry (t : Nat)
  /-- POWER_ON_RESET (R395): Power is applied: registers take their reset values, and the life-cycle fuses are read within 50 µs. -/
  | powerOnReset
  /-- CHIP_RESET (R395): Chip reset forces pump wires low, clears the image slot and the sequencers, and restores every register to its reset value except fused fields, HD_AO_TIME and ER_PCC. -/
  | chipReset
  /-- LIFE_CYCLE_READ (R48): The life-cycle fuses are read; a RETURNED move interrupted by power loss is completed, and VP_ERR_N is released. -/
  | lifeCycleRead
  /-- FREEZE_RECORDER (R43): The sideband FREEZE_RECORDER command freezes the recorder in the same way as ER_CTRL.FREEZE. -/
  | freezeRecorder
  /-- IDENT (R43): The sideband IDENT command returns HD_TOPO and LC_STATE. -/
  | ident
  /-- PRIVATE_READ (R43): A sideband private read returns the status byte and result bytes, in parts no longer than the maximum read length. -/
  | privateRead
  /-- RSTDAA (R41): The RSTDAA common command gives up the dynamic address. -/
  | rstdaa
  /-- GETPID (R41): The GETPID common command returns the provisional ID. -/
  | getpid
  /-- GETBCR (R41): The GETBCR common command returns BCR 0x06. -/
  | getbcr
  /-- GETDCR (R41): The GETDCR common command returns DCR 0x00. -/
  | getdcr
  /-- GETSTATUS (R41): The GETSTATUS common command returns the pending-IBI bits and the protocol-error bit. -/
  | getstatus
  /-- GETMWL (R41): The GETMWL common command returns the maximum write length. -/
  | getmwl
  /-- GETMRL (R41): The GETMRL common command returns the maximum read length. -/
  | getmrl
  /-- TARGET_RESET_PATTERN (R42): The target reset pattern resets the I3C target logic alone. -/
  | targetResetPattern
  /-- IDCODE (R46): The IDCODE TAP instruction selects the 32-bit identification register. -/
  | idcode
  /-- DBG_SCAN (R46): The DBG_SCAN TAP instruction runs the maker's internal scan where the life-cycle state permits it. -/
  | dbgScan
  /-- BYPASS (R46): The BYPASS TAP instruction, or any value not listed, selects the 1-bit bypass register. -/
  | bypass
  /-- TAP_RESET (R47): A TAP reset, by TRST_N or by five TCK cycles with TMS at 1, ends any DBG_AUTH session. -/
  | tapReset
  /-- DBG_SESSION_EXPIRY (R47): A DBG_AUTH session ends 600 s after it opened. -/
  | dbgSessionExpiry
  /-- SUBMIT (R51): LC_CMD SUBMIT starts verifying LC_PUB and LC_SIG against the pending nonce. -/
  | submit
  /-- SUBMIT_VERIFIED (R52): Verification completes within 3 ms with ACCEPTED or a rejection, which is counted toward the lockout and recorded. -/
  | submitVerified
  /-- NONCE_EXPIRY (R53): A nonce becomes void 60 s after it was made. -/
  | nonceExpiry
  /-- PROVISION_COMMIT (R50): LC_CMD PROVISION_COMMIT moves BLANK to PROVISIONED when all 22 LC_STAGE words are written, and is otherwise refused. -/
  | provisionCommit
  /-- ENTER_FIELD (R50): LC_CMD ENTER_FIELD moves PROVISIONED, or RETURNED after an accepted REENTRY, to FIELD. -/
  | enterField
  /-- FUSE_PROGRAM_DONE (R49): Fuse programming ends within 20 ms: the slot is wiped or programmed, the state fuse is blown, and a life-cycle record is queued. -/
  | fuseProgramDone
  /-- IMAGE_STALL (R67): No word for 100 ms during LOADING rejects the load as STALLED. -/
  | imageStall
  /-- IMAGE_CHECKS_DONE (R67): The checks complete: they either reject the image with a code or pass it on toward APPLYING. -/
  | imageChecksDone
  /-- APPLY_START (R76): APPLYING starts at the first outer boundary at which every safe-primed well is DRY. -/
  | applyStart
  /-- IMAGE_ACCEPT (R72): The image takes effect on every tile in one Wellhead cycle: slices unbind, RETIRED pumps return to OFF, and the engines self-test. -/
  | imageAccept
  /-- SAFE_PRIMING_START (R68): Safe priming starts within 10 µs of a VOID load, with fused values and every cluster gated. -/
  | safePrimingStart
  /-- REF_LOST (R98): The reference is declared lost: the DCO enters HOLDOVER, LOSSES is incremented and CLOCK_LOSS is raised. -/
  | refLost
  /-- REF_QUALIFIED (R100): A returning reference that has stayed valid for 1 ms moves MODE to PULL_IN. -/
  | refQualified
  /-- TELEMETRY_SNAPSHOT (R256): 40 µs after the boundary the aggregator completes the snapshot, marking tiles MISSING. -/
  | telemetrySnapshot
  /-- JOB_REST_COMMIT (R287): At the commit beat the member fixes r_job, or applies its own need with LOCK_MISS. -/
  | jobRestCommit
  /-- NAP (R315): With nothing in progress the Wellhead stops its fast clock. -/
  | nap
  /-- SLEEP_ENTER (R317): An accepted request enters SLEEP when no host request is outstanding. -/
  | sleepEnter
  /-- CHIP_REACTION (R330): After the episode record, or 100 µs, a CHIP reaction asserts chip reset. -/
  | chipReaction
  /-- SNAPSHOT_DONE (R355): A snapshot's reads complete and its parts are queued. -/
  | snapshotDone
  /-- HEARTBEAT (R356): HD_AO_TIME passes a multiple of HEART_H and a HEARTBEAT is queued. -/
  | heartbeat
  /-- RECORD_WRITE (R358): The recorder starts programming the next queued record. -/
  | recordWrite
  /-- FREEZE_EXPIRY (R360): A freeze ends 60 s after it was set. -/
  | freezeExpiry
  /-- ER_RD_DATA_READ (R361): A read of ER_RD_DATA returns the next buffered word and advances. -/
  | erRdDataRead
  /-- FETCH_DONE (R361): A flash fetch completes into the read buffer. -/
  | fetchDone
  /-- CLEAR_DONE (R363): A clear's erases complete and its CLEAR record is committed. -/
  | clearDone
  /-- CLEAR_ARM_EXPIRY (R362): CLEAR_ARMED lapses 60 s after acceptance. -/
  | clearArmExpiry
  /-- ADV_TX (R374): The instance floods its ADV every 100 ms or on a change. -/
  | advTx
  /-- ROUTE_RECOMPUTE (R377): Routes, root and parent are recomputed after a change. -/
  | routeRecompute
  /-- ADDR_CONFLICT_CLEAR (R375): 400 ms without a conflicting ADV after a new INSTANCE clears ADDR_CONFLICT. -/
  | addrConflictClear
  /-- PARENT_LOST (R380): No parent MARK for 40 µs puts the DCO in HOLDOVER. -/
  | parentLost
  /-- TIME_OFFSET_EXCEEDED (R382): |OFFSET| above 50 ns for 1 ms makes a step needed. -/
  | timeOffsetExceeded
  /-- TIME_STEP (R382): With every Pumphouse DORMANT, the beat boundary is stepped to the parent's. -/
  | timeStep
  /-- JOIN_RETRY (R383): No ADMIT within 1 ms resends JOIN, refusing UNREACHABLE after three. -/
  | joinRetry
  /-- JOB_MEMBERSHIP_START (R383): At window F the instance becomes MEMBER, or LEADER of a new job. -/
  | jobMembershipStart
  /-- LEADER_TIMEOUT (R385): The leader unreachable for 1 ms, a new leader takes over. -/
  | leaderTimeout
  /-- AGREE_DEADLINE (R386): At W + 192 + LAT the leader sends AGREE with the needs held. -/
  | agreeDeadline
  /-- SHARE_DEADLINE (R388): At W + 512 beats the root answers with the requests held. -/
  | shareDeadline
  /-- PULL_EXPIRY (R389): No load started within 1 s of OFFER fails the pull EXPIRED. -/
  | pullExpiry
  /-- PULL_SOURCE_TIMEOUT (R390): Source unreachable or silent for 1 ms fails the pull SOURCE_LOST. -/
  | pullSourceTimeout
  /-- FAST_CLOCK_RESTART_DONE (R315): The Wellhead fast clock completes its restart from NAP or SLEEP within 1 µs, and VP_HREADY returns to 1. -/
  | fastClockRestartDone
  deriving DecidableEq, Repr

end Sys2Proof
end

