-- ==== Sys2Proof/Config.lean ====
section
/-! DEFINITION. What the spec leaves open: free values and the functions of other standards, without bodies, so that no proof can lean on a value (log entries 2, 5, 6, 90). -/

namespace Sys2Proof

/-- SHA-384 (FIPS 180-4) of a sequence of bytes (R48, R51, R57). -/
opaque Config.sha384 : List Nat → BitVec 384

/-- ECDSA P-384 verification (FIPS 186-5) of a signature over a digest with a public key (R51, R58): key words, signature words. -/
opaque Config.ecdsaVerify : BitVec 384 → List Word → List Word → Bool

/-- HMAC-SHA-384 (FIPS 198-1) of a message under a key (R369). -/
opaque Config.hmac384 : List Nat → List Nat → BitVec 384

/-- The random bits the n-th draw gives: nonces (R51, R369). -/
opaque Config.freeBits : Nat → BitVec 384

/-- A value the spec leaves open: the n-th draw. -/
opaque Config.freeNat : Nat → Nat

/-- GAIN and OFFS of a housekeeping converter for reference readings lo and hi for which R243's formula has no value in the fields
of AD_TRIM (log entry 2). -/
opaque Config.sarGain : Nat → Nat → BitVec 16
opaque Config.sarOffs : Nat → Nat → BitVec 16

/-- The registers a RULES section sets: register word addresses and values read from the section's words; the spec gives the
section no record layout (log entry 6). -/
opaque Config.rulesOf : List Word → List (Nat × Word)

/-- Whether a record of a RULES section is one of its kinds: kind, key, payload words (log entry 6). -/
opaque Config.ruleRecordOk : Nat → Nat → Nat → Bool

/-- The largest pump short-circuit trip a RULES section sets, in 1/64 A (R64, R91; log entry 6). -/
opaque Config.ruleTrip : List Word → Nat

/-- Which word of a RULES section breaks a rule, counted from its first (R67; log entry 90). -/
opaque Config.ruleFailAt : List Word → Nat

/-- The input current of a well, 1/64 A, as the measured bus voltage in mV corrects the sum of current times duty: the spec gives no formula
(R29). -/
opaque Config.busCorrected : Int → Nat → Int

end Sys2Proof
end

