-- ==== Sys2Proof/Machine/Field.lean ====
section
/-! DEFINITION. Named bit fields of 64-bit registers: the `[hi:lo]` of the register tables, read and written as numbers (R2, R36). -/

namespace Sys2Proof.Machine

/-- A field of a register: bits `[hi:lo]`, both ends included. -/
structure Fld where
  hi : Nat
  lo : Nat
  deriving DecidableEq, Repr

/-- How many bits the field has. -/
def Fld.width (f : Fld) : Nat := f.hi + 1 - f.lo

/-- The word with ones in the field's bits. -/
def Fld.mask (f : Fld) : Word := (BitVec.allOnes f.width).setWidth 64 <<< f.lo

/-- The field's value as an unsigned number. -/
def Fld.get (f : Fld) (x : Word) : Nat := (x.extractLsb' f.lo f.width).toNat

/-- The word with the field's bits replaced by the low bits of `v`. -/
def Fld.set (f : Fld) (x : Word) (v : Nat) : Word :=
  (x &&& ~~~f.mask) ||| ((BitVec.ofNat 64 v <<< f.lo) &&& f.mask)

/-- A number below `2^n` read as two's complement in `n` bits. -/
def signed (n v : Nat) : Int := if v % 2 ^ n < 2 ^ (n - 1) then (v % 2 ^ n : Nat) else (v % 2 ^ n : Nat) - (2 ^ n : Nat)

/-- The two's-complement pattern of `v` in `n` bits, as a number. -/
def pattern (n : Nat) (v : Int) : Nat := (v % (2 ^ n : Nat)).toNat

/-- The field's value as a two's-complement number. -/
def Fld.geti (f : Fld) (x : Word) : Int := signed f.width (f.get x)

/-- The word with the field set to the two's-complement pattern of `v`. -/
def Fld.seti (f : Fld) (x : Word) (v : Int) : Word := f.set x (pattern f.width v)

/-- Bit `i` of a number. -/
def bit (v i : Nat) : Bool := v.testBit i

/-- A number with bit `i` set or cleared. -/
def setBit (v i : Nat) (b : Bool) : Nat :=
  if b then v ||| 2 ^ i else v - (if v.testBit i then 2 ^ i else 0)

/-- `1` for true, `0` for false: a one-bit field's value. -/
def b2n (b : Bool) : Nat := if b then 1 else 0

/-- The smallest and the largest of `lo`, `v`, `hi` put in order: `v` held inside `[lo, hi]`. -/
def clampI (lo hi v : Int) : Int := max lo (min hi v)

end Sys2Proof.Machine
end

