-- ==== Sys2Proof/Machine/Arith.lean ====
section
/-! DEFINITION. Rounding to nearest, ties to even, and quotients in the scales the registers use (R281, R98 and the tables' encodings). -/

namespace Sys2Proof.Machine

/-- `n / d` rounded to the nearest integer, ties to even; 0 where `d` is 0. -/
def roundDiv (n : Int) (d : Nat) : Int :=
  if d = 0 then 0
  else
    let q := n / (d : Int)
    let r := n % (d : Int)
    if 2 * r < d then q else if 2 * r > d then q + 1 else if q % 2 = 0 then q else q + 1

/-- The same for a signed divisor. -/
def roundDivI (n d : Int) : Int := if d < 0 then roundDiv (-n) d.natAbs else roundDiv n d.natAbs

/-- Round up: the least natural number at or above `n / d`. -/
def ceilDiv (n d : Nat) : Nat := (n + d - 1) / d

/-- The mean of a list of values, to nearest, ties to even; 0 of none. -/
def meanI (l : List Int) : Int := roundDiv (l.foldl (· + ·) 0) l.length

end Sys2Proof.Machine
end

