-- ==== Sys2Proof/Machine/Table.lean ====
section
/-! DEFINITION. Sparse tables: lists of (key, value) pairs in ONE canonical form, keys strictly rising and no entry equal to what an unlisted key reads as. That writes and the forgetting of entries keep the form is proved here. Registers, slices, the image slot, the flash and every per-unit table are held so. -/

namespace Sys2Proof.Machine

/-- What key `k` holds: the listed value, or the default where nothing is listed. -/
def tget {V : Type} (d : Nat → V) : List (Nat × V) → Nat → V
  | [], k => d k
  | (k', v) :: r, k => if k = k' then v else tget d r k

/-- Put an entry into a rising list, or take it out where it equals the default. -/
def tset {V : Type} [DecidableEq V] (d : Nat → V) : List (Nat × V) → Nat → V → List (Nat × V)
  | [], k, v => if v = d k then [] else [(k, v)]
  | (k', v') :: r, k, v =>
    if k = k' then (if v = d k then tset d r k v else (k, v) :: r)
    else if k < k' ∧ v ≠ d k then (k, v) :: (k', v') :: r
    else (k', v') :: tset d r k v

/-- The canonical form above a bound: keys rise strictly from `lo` on, and no entry equals its default. -/
def twfFrom {V : Type} [DecidableEq V] (d : Nat → V) : Nat → List (Nat × V) → Bool
  | _, [] => true
  | lo, (k, v) :: r => decide (lo ≤ k) && decide (v ≠ d k) && twfFrom d (k + 1) r

/-- The canonical form of a table. -/
def twf {V : Type} [DecidableEq V] (d : Nat → V) (l : List (Nat × V)) : Bool := twfFrom d 0 l

/-- Every entry below the bound forgotten: each key at or above `n` reads its default afterwards too. -/
def tdropFrom {V : Type} (n : Nat) (l : List (Nat × V)) : List (Nat × V) := l.filter (fun e => e.1 < n)

/-- A lower bound may be lowered. -/
theorem twfFrom_le {V : Type} [DecidableEq V] (d : Nat → V) (l : List (Nat × V)) (a b : Nat) (hab : a ≤ b) (h : twfFrom d b l = true) : twfFrom d a l = true := by
  cases l with
  | nil => rfl
  | cons e r =>
    simp only [twfFrom, Bool.and_eq_true, decide_eq_true_eq] at h ⊢
    exact ⟨⟨Nat.le_trans hab h.1.1, h.1.2⟩, h.2⟩

/-- Writing the default keeps the form above any bound. -/
theorem twfFrom_tset_default {V : Type} [DecidableEq V] (d : Nat → V) (l : List (Nat × V)) (lo k : Nat) (h : twfFrom d lo l = true) :
    twfFrom d lo (tset d l k (d k)) = true := by
  induction l generalizing lo with
  | nil => simp [tset, twfFrom]
  | cons e r ih =>
    have h' := h
    simp only [twfFrom, Bool.and_eq_true, decide_eq_true_eq] at h
    by_cases h1 : k = e.1
    · simpa only [tset, if_pos h1, if_pos] using ih lo (twfFrom_le d r lo (e.1 + 1) (by omega) h.2)
    · have h2 : ¬ (k < e.1 ∧ d k ≠ d k) := fun x => x.2 rfl
      simp only [tset, if_neg h1, if_neg h2, twfFrom, Bool.and_eq_true, decide_eq_true_eq]
      exact ⟨h.1, ih (e.1 + 1) h.2⟩

/-- A write keeps the form above a bound not above its key. -/
theorem twfFrom_tset {V : Type} [DecidableEq V] (d : Nat → V) (l : List (Nat × V)) (lo k : Nat) (v : V) (hk : lo ≤ k) (h : twfFrom d lo l = true) :
    twfFrom d lo (tset d l k v) = true := by
  by_cases hv : v = d k
  · subst hv; exact twfFrom_tset_default d l lo k h
  · induction l generalizing lo with
    | nil => simp [tset, twfFrom, hv, hk]
    | cons e r ih =>
      have h' := h
      simp only [twfFrom, Bool.and_eq_true, decide_eq_true_eq] at h
      by_cases h1 : k = e.1
      · simp only [tset, if_pos h1, if_neg hv, twfFrom, Bool.and_eq_true, decide_eq_true_eq]
        exact ⟨⟨hk, hv⟩, h1 ▸ h.2⟩
      · by_cases h2 : k < e.1
        · simp only [tset, if_neg h1, if_pos (And.intro h2 hv), twfFrom, Bool.and_eq_true, decide_eq_true_eq]
          exact ⟨⟨hk, hv⟩, ⟨h2, h.1.2⟩, h.2⟩
        · simp only [tset, if_neg h1, if_neg (fun x : k < e.1 ∧ v ≠ d k => h2 x.1), twfFrom, Bool.and_eq_true, decide_eq_true_eq]
          exact ⟨h.1, ih (e.1 + 1) (by omega) h.2⟩

/-- The canonical form is kept by a write. -/
theorem twf_tset {V : Type} [DecidableEq V] (d : Nat → V) (l : List (Nat × V)) (k : Nat) (v : V) (h : twf d l = true) : twf d (tset d l k v) = true :=
  twfFrom_tset d l 0 k v (Nat.zero_le k) h

/-- Forgetting entries keeps the form above a bound. -/
theorem twfFrom_filter {V : Type} [DecidableEq V] (d : Nat → V) (p : Nat × V → Bool) (l : List (Nat × V)) (lo : Nat)
    (h : twfFrom d lo l = true) : twfFrom d lo (l.filter p) = true := by
  induction l generalizing lo with
  | nil => rfl
  | cons e r ih =>
    simp only [twfFrom, Bool.and_eq_true, decide_eq_true_eq] at h
    by_cases hp : p e = true
    · simp only [List.filter_cons, hp, if_true, twfFrom, Bool.and_eq_true, decide_eq_true_eq]
      exact ⟨h.1, ih (e.1 + 1) h.2⟩
    · simp only [List.filter_cons, hp]
      exact twfFrom_le d _ lo (e.1 + 1) (Nat.le_succ_of_le h.1.1) (ih (e.1 + 1) h.2)

end Sys2Proof.Machine
end

