-- ==== Sys2Proof/Machine/Regs.lean ====
section
/-! DEFINITION. The register map (16_register_index.md R394, R395): every register's word address, its fields, its reset value and how a host write acts on each of its bits (R7, R36, R396). -/

namespace Sys2Proof.Machine

/-- Base of Pumphouse `t` (R6, R394). -/
def phBase (t : Nat) : Nat := 0x100000 + t * 0x10000

/-- Base of the per-well block of well `w` (R6, R394). -/
def wlBase (t w : Nat) : Nat := phBase t + 0x1000 + w * 0x100

/-- HD_TOPO (01_hierarchy.md; R394). -/
def HD_TOPO : Nat := 0x10
/-- HD_TOPO.TILES, bits [31:24], RO. -/
def HD_TOPO.TILES : Fld := ⟨31, 24⟩
/-- HD_TOPO.ROWS, bits [23:20], RO. -/
def HD_TOPO.ROWS : Fld := ⟨23, 20⟩
/-- HD_TOPO.COLS, bits [19:16], RO. -/
def HD_TOPO.COLS : Fld := ⟨19, 16⟩
/-- HD_TOPO.INSTANCE, bits [11:0], RO. -/
def HD_TOPO.INSTANCE : Fld := ⟨11, 0⟩
/-- HD_PORT_STAT (02_host_port.md; R394). -/
def HD_PORT_STAT : Nat := 0x20
/-- HD_PORT_STAT.LAST_ADDR, bits [63:40], RO. -/
def HD_PORT_STAT.LAST_ADDR : Fld := ⟨63, 40⟩
/-- HD_PORT_STAT.LAST_RESP, bits [39:38], RO. -/
def HD_PORT_STAT.LAST_RESP : Fld := ⟨39, 38⟩
/-- HD_PORT_STAT.SAT, bits [37:37], RO. -/
def HD_PORT_STAT.SAT : Fld := ⟨37, 37⟩
/-- HD_PORT_STAT.ERRORS, bits [31:0], RW. -/
def HD_PORT_STAT.ERRORS : Fld := ⟨31, 0⟩
/-- HD_CLK (04_pump_links.md; R394). -/
def HD_CLK : Nat := 0x30
/-- HD_CLK.LOSSES, bits [63:32], RW. -/
def HD_CLK.LOSSES : Fld := ⟨63, 32⟩
/-- HD_CLK.SAT, bits [31:31], RO. -/
def HD_CLK.SAT : Fld := ⟨31, 31⟩
/-- HD_CLK.MODE, bits [17:16], RO. -/
def HD_CLK.MODE : Fld := ⟨17, 16⟩
/-- HD_CLK.OFFSET, bits [15:0], RO. -/
def HD_CLK.OFFSET : Fld := ⟨15, 0⟩
/-- HD_PWR_CTRL (12_power_states.md; R394). -/
def HD_PWR_CTRL : Nat := 0x40
/-- HD_PWR_CTRL.SLEEP, bits [0:0], WO. -/
def HD_PWR_CTRL.SLEEP : Fld := ⟨0, 0⟩
/-- HD_PWR_STAT (12_power_states.md; R394). -/
def HD_PWR_STAT : Nat := 0x41
/-- HD_PWR_STAT.SLEEPS, bits [63:32], RW. -/
def HD_PWR_STAT.SLEEPS : Fld := ⟨63, 32⟩
/-- HD_PWR_STAT.SAT, bits [31:31], RO. -/
def HD_PWR_STAT.SAT : Fld := ⟨31, 31⟩
/-- HD_PWR_STAT.LAST_WAKE, bits [16:12], RO. -/
def HD_PWR_STAT.LAST_WAKE : Fld := ⟨16, 12⟩
/-- HD_PWR_STAT.REF_CAUSE, bits [11:8], RO. -/
def HD_PWR_STAT.REF_CAUSE : Fld := ⟨11, 8⟩
/-- HD_PWR_STAT.RESULT, bits [2:0], RO. -/
def HD_PWR_STAT.RESULT : Fld := ⟨2, 0⟩
/-- HD_WAKE_EN (12_power_states.md; R394). -/
def HD_WAKE_EN : Nat := 0x42
/-- HD_WAKE_EN.IRQ, bits [4:4], RO. -/
def HD_WAKE_EN.IRQ : Fld := ⟨4, 4⟩
/-- HD_WAKE_EN.LINK, bits [3:3], RW. -/
def HD_WAKE_EN.LINK : Fld := ⟨3, 3⟩
/-- HD_WAKE_EN.TIMER, bits [2:2], RW. -/
def HD_WAKE_EN.TIMER : Fld := ⟨2, 2⟩
/-- HD_WAKE_EN.I3C, bits [1:1], RW. -/
def HD_WAKE_EN.I3C : Fld := ⟨1, 1⟩
/-- HD_WAKE_EN.HOST, bits [0:0], RO. -/
def HD_WAKE_EN.HOST : Fld := ⟨0, 0⟩
/-- HD_WAKE_ALARM (16_register_index.md; R394). -/
def HD_WAKE_ALARM : Nat := 0x43
/-- HD_WAKE_ALARM.ALARM, bits [63:0], RW. -/
def HD_WAKE_ALARM.ALARM : Fld := ⟨63, 0⟩
/-- HD_AO_TIME (16_register_index.md; R394). -/
def HD_AO_TIME : Nat := 0x44
/-- HD_AO_TIME.TICKS, bits [63:0], RO. -/
def HD_AO_TIME.TICKS : Fld := ⟨63, 0⟩
/-- LC_STATE (02_host_port.md; R394). -/
def LC_STATE : Nat := 0x1000
/-- LC_STATE.DENIED_TAP, bits [63:32], RO. -/
def LC_STATE.DENIED_TAP : Fld := ⟨63, 32⟩
/-- LC_STATE.FAILS, bits [31:24], RO. -/
def LC_STATE.FAILS : Fld := ⟨31, 24⟩
/-- LC_STATE.SLOT, bits [17:16], RO. -/
def LC_STATE.SLOT : Fld := ⟨17, 16⟩
/-- LC_STATE.UNRECORDED, bits [7:7], RO. -/
def LC_STATE.UNRECORDED : Fld := ⟨7, 7⟩
/-- LC_STATE.SESSION, bits [6:6], RO. -/
def LC_STATE.SESSION : Fld := ⟨6, 6⟩
/-- LC_STATE.STATE, bits [1:0], RO. -/
def LC_STATE.STATE : Fld := ⟨1, 0⟩
/-- LC_CMD (16_register_index.md; R394). -/
def LC_CMD : Nat := 0x1001
/-- LC_CMD.PURPOSE, bits [15:8], WO. -/
def LC_CMD.PURPOSE : Fld := ⟨15, 8⟩
/-- LC_CMD.CMD, bits [7:0], WO. -/
def LC_CMD.CMD : Fld := ⟨7, 0⟩
/-- LC_AUTH_STAT (02_host_port.md; R394). -/
def LC_AUTH_STAT : Nat := 0x1002
/-- LC_AUTH_STAT.PURPOSE, bits [15:8], RO. -/
def LC_AUTH_STAT.PURPOSE : Fld := ⟨15, 8⟩
/-- LC_AUTH_STAT.BUSY, bits [7:7], RO. -/
def LC_AUTH_STAT.BUSY : Fld := ⟨7, 7⟩
/-- LC_AUTH_STAT.ABORT, bits [5:4], RO. -/
def LC_AUTH_STAT.ABORT : Fld := ⟨5, 4⟩
/-- LC_AUTH_STAT.RESULT, bits [3:0], RO. -/
def LC_AUTH_STAT.RESULT : Fld := ⟨3, 0⟩
/-- LC_UID (16_register_index.md; R394). -/
def LC_UID (i : Nat) : Nat := 0x1004 + i
/-- LC_UID.UID, bits [63:0], RO. -/
def LC_UID.UID : Fld := ⟨63, 0⟩
/-- LC_CHAL (16_register_index.md; R394). -/
def LC_CHAL (i : Nat) : Nat := 0x1008 + i
/-- LC_CHAL.NONCE, bits [63:0], RO. -/
def LC_CHAL.NONCE : Fld := ⟨63, 0⟩
/-- LC_PUB (16_register_index.md; R394). -/
def LC_PUB (i : Nat) : Nat := 0x1010 + i
/-- LC_PUB.WORD, bits [63:0], WO. -/
def LC_PUB.WORD : Fld := ⟨63, 0⟩
/-- LC_SIG (16_register_index.md; R394). -/
def LC_SIG (i : Nat) : Nat := 0x1020 + i
/-- LC_SIG.WORD, bits [63:0], WO. -/
def LC_SIG.WORD : Fld := ⟨63, 0⟩
/-- LC_STAGE (16_register_index.md; R394). -/
def LC_STAGE (i : Nat) : Nat := 0x1030 + i
/-- LC_STAGE.WORD, bits [63:0], WO. -/
def LC_STAGE.WORD : Fld := ⟨63, 0⟩
/-- HD_SB_STAT (02_host_port.md; R394). -/
def HD_SB_STAT : Nat := 0x1100
/-- HD_SB_STAT.DA_VALID, bits [31:31], RO. -/
def HD_SB_STAT.DA_VALID : Fld := ⟨31, 31⟩
/-- HD_SB_STAT.DYN_ADDR, bits [30:24], RO. -/
def HD_SB_STAT.DYN_ADDR : Fld := ⟨30, 24⟩
/-- HD_SB_STAT.STATIC_ADDR, bits [22:16], RO. -/
def HD_SB_STAT.STATIC_ADDR : Fld := ⟨22, 16⟩
/-- HD_SB_STAT.IBI_CLASS, bits [15:8], RO. -/
def HD_SB_STAT.IBI_CLASS : Fld := ⟨15, 8⟩
/-- HD_SB_STAT.MODE, bits [7:7], RO. -/
def HD_SB_STAT.MODE : Fld := ⟨7, 7⟩
/-- HD_SB_STAT.IBI_EN, bits [6:6], RO. -/
def HD_SB_STAT.IBI_EN : Fld := ⟨6, 6⟩
/-- HD_SB_STAT.STOP_REQ, bits [2:2], W1C. -/
def HD_SB_STAT.STOP_REQ : Fld := ⟨2, 2⟩
/-- HD_SB_STAT.MBOX_OVR, bits [1:1], W1C. -/
def HD_SB_STAT.MBOX_OVR : Fld := ⟨1, 1⟩
/-- HD_SB_STAT.MBOX_FULL, bits [0:0], W1C. -/
def HD_SB_STAT.MBOX_FULL : Fld := ⟨0, 0⟩
/-- HD_SB_MBOX (16_register_index.md; R394). -/
def HD_SB_MBOX : Nat := 0x1101
/-- HD_SB_MBOX.DATA, bits [63:0], RO. -/
def HD_SB_MBOX.DATA : Fld := ⟨63, 0⟩
/-- HD_IMG_CTRL (03_raormin_image.md; R394). -/
def HD_IMG_CTRL : Nat := 0x2000
/-- HD_IMG_CTRL.LENGTH, bits [63:32], RW. -/
def HD_IMG_CTRL.LENGTH : Fld := ⟨63, 32⟩
/-- HD_IMG_CTRL.SRC, bits [11:8], RW. -/
def HD_IMG_CTRL.SRC : Fld := ⟨11, 8⟩
/-- HD_IMG_CTRL.SAFE_STOP, bits [3:3], WO. -/
def HD_IMG_CTRL.SAFE_STOP : Fld := ⟨3, 3⟩
/-- HD_IMG_CTRL.SAFE_NOW, bits [2:2], WO. -/
def HD_IMG_CTRL.SAFE_NOW : Fld := ⟨2, 2⟩
/-- HD_IMG_CTRL.ABORT, bits [1:1], WO. -/
def HD_IMG_CTRL.ABORT : Fld := ⟨1, 1⟩
/-- HD_IMG_CTRL.START, bits [0:0], WO. -/
def HD_IMG_CTRL.START : Fld := ⟨0, 0⟩
/-- HD_IMG_STAT (03_raormin_image.md; R394). -/
def HD_IMG_STAT : Nat := 0x2001
/-- HD_IMG_STAT.WORDS, bits [63:32], RO. -/
def HD_IMG_STAT.WORDS : Fld := ⟨63, 32⟩
/-- HD_IMG_STAT.ACCEPTED, bits [11:11], W1C. -/
def HD_IMG_STAT.ACCEPTED : Fld := ⟨11, 11⟩
/-- HD_IMG_STAT.REJECTED, bits [10:10], W1C. -/
def HD_IMG_STAT.REJECTED : Fld := ⟨10, 10⟩
/-- HD_IMG_STAT.REFUSED, bits [9:9], W1C. -/
def HD_IMG_STAT.REFUSED : Fld := ⟨9, 9⟩
/-- HD_IMG_STAT.ABORT, bits [7:6], RO. -/
def HD_IMG_STAT.ABORT : Fld := ⟨7, 6⟩
/-- HD_IMG_STAT.SAFE, bits [4:4], RO. -/
def HD_IMG_STAT.SAFE : Fld := ⟨4, 4⟩
/-- HD_IMG_STAT.STATE, bits [3:0], RO. -/
def HD_IMG_STAT.STATE : Fld := ⟨3, 0⟩
/-- HD_IMG_DATA (16_register_index.md; R394). -/
def HD_IMG_DATA : Nat := 0x2002
/-- HD_IMG_DATA.WORD, bits [63:0], WO. -/
def HD_IMG_DATA.WORD : Fld := ⟨63, 0⟩
/-- HD_IMG_ERR (16_register_index.md; R394). -/
def HD_IMG_ERR : Nat := 0x2003
/-- HD_IMG_ERR.CODE, bits [63:56], RO. -/
def HD_IMG_ERR.CODE : Fld := ⟨63, 56⟩
/-- HD_IMG_ERR.SECTION, bits [55:48], RO. -/
def HD_IMG_ERR.SECTION : Fld := ⟨55, 48⟩
/-- HD_IMG_ERR.WORD, bits [47:24], RO. -/
def HD_IMG_ERR.WORD : Fld := ⟨47, 24⟩
/-- HD_IMG_ID (16_register_index.md; R394). -/
def HD_IMG_ID : Nat := 0x2004
/-- HD_IMG_ID.ID, bits [63:0], RO. -/
def HD_IMG_ID.ID : Fld := ⟨63, 0⟩
/-- HD_IMG_BUILD (16_register_index.md; R394). -/
def HD_IMG_BUILD : Nat := 0x2005
/-- HD_IMG_BUILD.BUILD, bits [31:0], RO. -/
def HD_IMG_BUILD.BUILD : Fld := ⟨31, 0⟩
/-- HD_SAFE (03_raormin_image.md; R394). -/
def HD_SAFE : Nat := 0x2008
/-- HD_SAFE.WAFER_LIM, bits [63:40], RO. -/
def HD_SAFE.WAFER_LIM : Fld := ⟨63, 40⟩
/-- HD_SAFE.CORE_V, bits [35:24], RO. -/
def HD_SAFE.CORE_V : Fld := ⟨35, 24⟩
/-- HD_SAFE.SRAM_V, bits [23:12], RO. -/
def HD_SAFE.SRAM_V : Fld := ⟨23, 12⟩
/-- HD_SAFE.CORE_PUMPS, bits [11:8], RO. -/
def HD_SAFE.CORE_PUMPS : Fld := ⟨11, 8⟩
/-- HD_SAFE.SRAM_PUMPS, bits [7:4], RO. -/
def HD_SAFE.SRAM_PUMPS : Fld := ⟨7, 4⟩
/-- IC_SRC (13_interrupts_faults.md; R394). -/
def IC_SRC (i : Nat) : Nat := 0x10000 + i
/-- IC_SRC.PRIO, bits [63:60], RW or RO. -/
def IC_SRC.PRIO : Fld := ⟨63, 60⟩
/-- IC_SRC.TARGETS, bits [59:52], RW or RO. -/
def IC_SRC.TARGETS : Fld := ⟨59, 52⟩
/-- IC_SRC.STEER, bits [51:49], RO. -/
def IC_SRC.STEER : Fld := ⟨51, 49⟩
/-- IC_SRC.PEND, bits [48:48], RO. -/
def IC_SRC.PEND : Fld := ⟨48, 48⟩
/-- IC_SRC.ACTIVE, bits [47:47], RO. -/
def IC_SRC.ACTIVE : Fld := ⟨47, 47⟩
/-- IC_SRC.TYPE, bits [46:46], RO. -/
def IC_SRC.TYPE : Fld := ⟨46, 46⟩
/-- IC_SRC.LEVEL_IN, bits [45:45], RO. -/
def IC_SRC.LEVEL_IN : Fld := ⟨45, 45⟩
/-- IC_SRC.OVR, bits [44:44], W1C. -/
def IC_SRC.OVR : Fld := ⟨44, 44⟩
/-- IC_TGT (13_interrupts_faults.md; R394). -/
def IC_TGT (i : Nat) : Nat := 0x10400 + i
/-- IC_TGT.CLAIMS, bits [63:32], RW. -/
def IC_TGT.CLAIMS : Fld := ⟨63, 32⟩
/-- IC_TGT.SAT, bits [31:31], RO. -/
def IC_TGT.SAT : Fld := ⟨31, 31⟩
/-- IC_TGT.LEVEL, bits [12:9], RO. -/
def IC_TGT.LEVEL : Fld := ⟨12, 9⟩
/-- IC_TGT.LINE, bits [8:8], RO. -/
def IC_TGT.LINE : Fld := ⟨8, 8⟩
/-- IC_TGT.BAD_COMPLETE, bits [7:7], W1C. -/
def IC_TGT.BAD_COMPLETE : Fld := ⟨7, 7⟩
/-- IC_TGT.EN, bits [4:4], RW. -/
def IC_TGT.EN : Fld := ⟨4, 4⟩
/-- IC_TGT.THRESH, bits [3:0], RW. -/
def IC_TGT.THRESH : Fld := ⟨3, 0⟩
/-- IC_CLAIM (13_interrupts_faults.md; R394). -/
def IC_CLAIM (i : Nat) : Nat := 0x10410 + i
/-- IC_CLAIM.SOURCE, bits [8:0], WO. -/
def IC_CLAIM.SOURCE : Fld := ⟨8, 0⟩
/-- IC_SETPEND (16_register_index.md; R394). -/
def IC_SETPEND : Nat := 0x10420
/-- IC_SETPEND.SOURCE, bits [8:0], WO. -/
def IC_SETPEND.SOURCE : Fld := ⟨8, 0⟩
/-- IC_SAT_ADDR (16_register_index.md; R394). -/
def IC_SAT_ADDR : Nat := 0x10421
/-- IC_SAT_ADDR.ADDR, bits [23:0], RO. -/
def IC_SAT_ADDR.ADDR : Fld := ⟨23, 0⟩
/-- IC_PEND (16_register_index.md; R394). -/
def IC_PEND (i : Nat) : Nat := 0x10440 + i
/-- IC_PEND.BITS, bits [63:0], RO. -/
def IC_PEND.BITS : Fld := ⟨63, 0⟩
/-- IC_ACTIVE (16_register_index.md; R394). -/
def IC_ACTIVE (i : Nat) : Nat := 0x10448 + i
/-- IC_ACTIVE.BITS, bits [63:0], RO. -/
def IC_ACTIVE.BITS : Fld := ⟨63, 0⟩
/-- FC_STAT (13_interrupts_faults.md; R394). -/
def FC_STAT : Nat := 0x20000
/-- FC_STAT.MERGED, bits [63:48], RO. -/
def FC_STAT.MERGED : Fld := ⟨63, 48⟩
/-- FC_STAT.RANK, bits [47:44], RO. -/
def FC_STAT.RANK : Fld := ⟨47, 44⟩
/-- FC_STAT.LOGN, bits [43:39], RO. -/
def FC_STAT.LOGN : Fld := ⟨43, 39⟩
/-- FC_STAT.BUSY, bits [7:7], RO. -/
def FC_STAT.BUSY : Fld := ⟨7, 7⟩
/-- FC_STAT.OVF, bits [6:6], RO. -/
def FC_STAT.OVF : Fld := ⟨6, 6⟩
/-- FC_STAT.TRAP, bits [5:5], RO. -/
def FC_STAT.TRAP : Fld := ⟨5, 5⟩
/-- FC_STAT.ERR, bits [4:4], RO. -/
def FC_STAT.ERR : Fld := ⟨4, 4⟩
/-- FC_STAT.RELATCH, bits [3:3], RO. -/
def FC_STAT.RELATCH : Fld := ⟨3, 3⟩
/-- FC_STAT.OPEN, bits [0:0], W1C. -/
def FC_STAT.OPEN : Fld := ⟨0, 0⟩
/-- FC_FIRST (13_interrupts_faults.md; R394). -/
def FC_FIRST : Nat := 0x20001
/-- FC_FIRST.SRC, bits [63:57], RO. -/
def FC_FIRST.SRC : Fld := ⟨63, 57⟩
/-- FC_FIRST.TILE, bits [56:49], RO. -/
def FC_FIRST.TILE : Fld := ⟨56, 49⟩
/-- FC_FIRST.WELL, bits [48:45], RO. -/
def FC_FIRST.WELL : Fld := ⟨48, 45⟩
/-- FC_FIRST.SUB, bits [44:37], RO. -/
def FC_FIRST.SUB : Fld := ⟨44, 37⟩
/-- FC_FIRST.LEVEL, bits [36:33], RO. -/
def FC_FIRST.LEVEL : Fld := ⟨36, 33⟩
/-- FC_FIRST.ERR, bits [32:32], RO. -/
def FC_FIRST.ERR : Fld := ⟨32, 32⟩
/-- FC_FIRST.BEAT, bits [31:0], RO. -/
def FC_FIRST.BEAT : Fld := ⟨31, 0⟩
/-- FC_FIRST_T (16_register_index.md; R394). -/
def FC_FIRST_T : Nat := 0x20002
/-- FC_FIRST_T.TICKS, bits [63:0], RO. -/
def FC_FIRST_T.TICKS : Fld := ⟨63, 0⟩
/-- FC_CTRL (13_interrupts_faults.md; R394). -/
def FC_CTRL : Nat := 0x20003
/-- FC_CTRL.INJECT_SRC, bits [14:8], WO. -/
def FC_CTRL.INJECT_SRC : Fld := ⟨14, 8⟩
/-- FC_CTRL.INJECT, bits [1:1], WO. -/
def FC_CTRL.INJECT : Fld := ⟨1, 1⟩
/-- FC_CTRL.TRAP_ACK, bits [0:0], WO. -/
def FC_CTRL.TRAP_ACK : Fld := ⟨0, 0⟩
/-- FC_RAISED (16_register_index.md; R394). -/
def FC_RAISED (i : Nat) : Nat := 0x20004 + i
/-- FC_RAISED.BITS, bits [63:0], RO. -/
def FC_RAISED.BITS : Fld := ⟨63, 0⟩
/-- FC_HELD (16_register_index.md; R394). -/
def FC_HELD (i : Nat) : Nat := 0x20006 + i
/-- FC_HELD.BITS, bits [63:0], RO. -/
def FC_HELD.BITS : Fld := ⟨63, 0⟩
/-- FC_LOG (13_interrupts_faults.md; R394). -/
def FC_LOG (i : Nat) : Nat := 0x20010 + i
/-- FC_LOG.SRC, bits [63:57], RO. -/
def FC_LOG.SRC : Fld := ⟨63, 57⟩
/-- FC_LOG.TILE, bits [56:49], RO. -/
def FC_LOG.TILE : Fld := ⟨56, 49⟩
/-- FC_LOG.WELL, bits [48:45], RO. -/
def FC_LOG.WELL : Fld := ⟨48, 45⟩
/-- FC_LOG.SUB, bits [44:37], RO. -/
def FC_LOG.SUB : Fld := ⟨44, 37⟩
/-- FC_LOG.LEVEL, bits [36:33], RO. -/
def FC_LOG.LEVEL : Fld := ⟨36, 33⟩
/-- FC_LOG.ERR, bits [32:32], RO. -/
def FC_LOG.ERR : Fld := ⟨32, 32⟩
/-- FC_LOG.BEAT, bits [31:0], RO. -/
def FC_LOG.BEAT : Fld := ⟨31, 0⟩
/-- FC_REACT (13_interrupts_faults.md; R394). -/
def FC_REACT (i : Nat) : Nat := 0x20100 + i
/-- FC_REACT.LEVEL, bits [63:60], RO. -/
def FC_REACT.LEVEL : Fld := ⟨63, 60⟩
/-- FC_REACT.ERR, bits [59:59], RO. -/
def FC_REACT.ERR : Fld := ⟨59, 59⟩
/-- FC_REACT.NARROW, bits [58:58], RO. -/
def FC_REACT.NARROW : Fld := ⟨58, 58⟩
/-- FC_REACT.PRIO, bits [55:52], RO. -/
def FC_REACT.PRIO : Fld := ⟨55, 52⟩
/-- FC_REACT.TARGETS, bits [51:44], RO. -/
def FC_REACT.TARGETS : Fld := ⟨51, 44⟩
/-- FC_REACT.SEQ, bits [43:41], RO. -/
def FC_REACT.SEQ : Fld := ⟨43, 41⟩
/-- FC_REACT.PROG, bits [39:32], RO. -/
def FC_REACT.PROG : Fld := ⟨39, 32⟩
/-- FC_REACT.FIXED, bits [0:0], RO. -/
def FC_REACT.FIXED : Fld := ⟨0, 0⟩
/-- FC_COUNT (13_interrupts_faults.md; R394). -/
def FC_COUNT (i : Nat) : Nat := 0x20200 + i
/-- FC_COUNT.COUNT, bits [63:32], RW. -/
def FC_COUNT.COUNT : Fld := ⟨63, 32⟩
/-- FC_COUNT.SAT, bits [31:31], RO. -/
def FC_COUNT.SAT : Fld := ⟨31, 31⟩
/-- ER_CFG (14_recorder.md; R394). -/
def ER_CFG : Nat := 0x30000
/-- ER_CFG.LOCK, bits [15:15], RW. -/
def ER_CFG.LOCK : Fld := ⟨15, 15⟩
/-- ER_CFG.QUAD, bits [8:8], RWL. -/
def ER_CFG.QUAD : Fld := ⟨8, 8⟩
/-- ER_CFG.DIV, bits [6:0], RWL. -/
def ER_CFG.DIV : Fld := ⟨6, 0⟩
/-- ER_STAT (14_recorder.md; R394). -/
def ER_STAT : Nat := 0x30001
/-- ER_STAT.LOST, bits [63:32], RW. -/
def ER_STAT.LOST : Fld := ⟨63, 32⟩
/-- ER_STAT.SAT, bits [31:31], RO. -/
def ER_STAT.SAT : Fld := ⟨31, 31⟩
/-- ER_STAT.READY, bits [15:15], RO. -/
def ER_STAT.READY : Fld := ⟨15, 15⟩
/-- ER_STAT.NOFLASH, bits [14:14], RO. -/
def ER_STAT.NOFLASH : Fld := ⟨14, 14⟩
/-- ER_STAT.FROZEN, bits [13:13], RO. -/
def ER_STAT.FROZEN : Fld := ⟨13, 13⟩
/-- ER_STAT.CLEARING, bits [12:12], RO. -/
def ER_STAT.CLEARING : Fld := ⟨12, 12⟩
/-- ER_STAT.CLEAR_ARMED, bits [11:11], RO. -/
def ER_STAT.CLEAR_ARMED : Fld := ⟨11, 11⟩
/-- ER_STAT.KEPT_FULL, bits [10:10], RO. -/
def ER_STAT.KEPT_FULL : Fld := ⟨10, 10⟩
/-- ER_STAT.CLEAR_FULL, bits [9:9], RO. -/
def ER_STAT.CLEAR_FULL : Fld := ⟨9, 9⟩
/-- ER_STAT.WRITE_FAIL, bits [8:8], W1C. -/
def ER_STAT.WRITE_FAIL : Fld := ⟨8, 8⟩
/-- ER_STAT.ERASE_FAIL, bits [7:7], W1C. -/
def ER_STAT.ERASE_FAIL : Fld := ⟨7, 7⟩
/-- ER_STAT.REFUSED, bits [6:6], W1C. -/
def ER_STAT.REFUSED : Fld := ⟨6, 6⟩
/-- ER_STAT.QUEUE, bits [5:0], RO. -/
def ER_STAT.QUEUE : Fld := ⟨5, 0⟩
/-- ER_CTRL (14_recorder.md; R394). -/
def ER_CTRL : Nat := 0x30002
/-- ER_CTRL.SCOPE, bits [9:8], WO. -/
def ER_CTRL.SCOPE : Fld := ⟨9, 8⟩
/-- ER_CTRL.CLEAR, bits [3:3], WO. -/
def ER_CTRL.CLEAR : Fld := ⟨3, 3⟩
/-- ER_CTRL.RD_ABORT, bits [2:2], WO. -/
def ER_CTRL.RD_ABORT : Fld := ⟨2, 2⟩
/-- ER_CTRL.THAW, bits [1:1], WO. -/
def ER_CTRL.THAW : Fld := ⟨1, 1⟩
/-- ER_CTRL.FREEZE, bits [0:0], WO. -/
def ER_CTRL.FREEZE : Fld := ⟨0, 0⟩
/-- ER_GEOM (16_register_index.md; R394). -/
def ER_GEOM : Nat := 0x30003
/-- ER_GEOM.SLOTS, bits [63:40], RO. -/
def ER_GEOM.SLOTS : Fld := ⟨63, 40⟩
/-- ER_GEOM.CIRC, bits [39:16], RO. -/
def ER_GEOM.CIRC : Fld := ⟨39, 16⟩
/-- ER_GEOM.UNIT, bits [15:8], RO. -/
def ER_GEOM.UNIT : Fld := ⟨15, 8⟩
/-- ER_GEOM.ADDR4, bits [1:1], RO. -/
def ER_GEOM.ADDR4 : Fld := ⟨1, 1⟩
/-- ER_GEOM.QUAD_OK, bits [0:0], RO. -/
def ER_GEOM.QUAD_OK : Fld := ⟨0, 0⟩
/-- ER_PTR (14_recorder.md; R394). -/
def ER_PTR : Nat := 0x30004
/-- ER_PTR.NEXT_CIRC, bits [63:40], RO. -/
def ER_PTR.NEXT_CIRC : Fld := ⟨63, 40⟩
/-- ER_PTR.KEPT_NEXT, bits [39:27], RO. -/
def ER_PTR.KEPT_NEXT : Fld := ⟨39, 27⟩
/-- ER_PTR.CLEAR_USED, bits [26:22], RO. -/
def ER_PTR.CLEAR_USED : Fld := ⟨26, 22⟩
/-- ER_PCC (16_register_index.md; R394). -/
def ER_PCC : Nat := 0x30005
/-- ER_PCC.PCC, bits [63:32], RO. -/
def ER_PCC.PCC : Fld := ⟨63, 32⟩
/-- ER_PCC.SAT, bits [31:31], RO. -/
def ER_PCC.SAT : Fld := ⟨31, 31⟩
/-- ER_RD_PTR (16_register_index.md; R394). -/
def ER_RD_PTR : Nat := 0x30008
/-- ER_RD_PTR.SLOT, bits [63:40], RW. -/
def ER_RD_PTR.SLOT : Fld := ⟨63, 40⟩
/-- ER_RD_STAT (14_recorder.md; R394). -/
def ER_RD_STAT : Nat := 0x30009
/-- ER_RD_STAT.SLOT, bits [63:40], RO. -/
def ER_RD_STAT.SLOT : Fld := ⟨63, 40⟩
/-- ER_RD_STAT.WORD, bits [39:35], RO. -/
def ER_RD_STAT.WORD : Fld := ⟨39, 35⟩
/-- ER_RD_STAT.ABORT, bits [15:14], RO. -/
def ER_RD_STAT.ABORT : Fld := ⟨15, 14⟩
/-- ER_RD_STAT.UNDERRUN, bits [13:13], W1C. -/
def ER_RD_STAT.UNDERRUN : Fld := ⟨13, 13⟩
/-- ER_RD_STAT.AVAIL, bits [6:0], RO. -/
def ER_RD_STAT.AVAIL : Fld := ⟨6, 0⟩
/-- ER_RD_DATA (16_register_index.md; R394). -/
def ER_RD_DATA : Nat := 0x3000A
/-- ER_RD_DATA.WORD, bits [63:0], RO. -/
def ER_RD_DATA.WORD : Fld := ⟨63, 0⟩
/-- CG_CAP (11_capping_placement.md; R394). -/
def CG_CAP : Nat := 0x40000
/-- CG_CAP.CAP_HOST, bits [63:40], RW. -/
def CG_CAP.CAP_HOST : Fld := ⟨63, 40⟩
/-- CG_CAP.WAFER_LIM, bits [39:16], RO. -/
def CG_CAP.WAFER_LIM : Fld := ⟨39, 16⟩
/-- CG_CTRL (11_capping_placement.md; R394). -/
def CG_CTRL : Nat := 0x40001
/-- CG_CTRL.JOB_STOP, bits [0:0], WO. -/
def CG_CTRL.JOB_STOP : Fld := ⟨0, 0⟩
/-- CG_STAT (11_capping_placement.md; R394). -/
def CG_STAT : Nat := 0x40002
/-- CG_STAT.CAP_EFF, bits [63:40], RO. -/
def CG_STAT.CAP_EFF : Fld := ⟨63, 40⟩
/-- CG_STAT.R_NEED, bits [39:36], RO. -/
def CG_STAT.R_NEED : Fld := ⟨39, 36⟩
/-- CG_STAT.R_JOB, bits [35:32], RO. -/
def CG_STAT.R_JOB : Fld := ⟨35, 32⟩
/-- CG_STAT.R_NEXT, bits [31:28], RO. -/
def CG_STAT.R_NEXT : Fld := ⟨31, 28⟩
/-- CG_STAT.REFUSED, bits [8:8], W1C. -/
def CG_STAT.REFUSED : Fld := ⟨8, 8⟩
/-- CG_STAT.STOP_OFFER, bits [7:7], RO. -/
def CG_STAT.STOP_OFFER : Fld := ⟨7, 7⟩
/-- CG_STAT.FLOOR, bits [6:6], RO. -/
def CG_STAT.FLOOR : Fld := ⟨6, 6⟩
/-- CG_STAT.CAP_UNREACHABLE, bits [5:5], W1C. -/
def CG_STAT.CAP_UNREACHABLE : Fld := ⟨5, 5⟩
/-- CG_STAT.LOCK_MISS, bits [4:4], W1C. -/
def CG_STAT.LOCK_MISS : Fld := ⟨4, 4⟩
/-- CG_STAT.CLAMPED, bits [3:3], W1C. -/
def CG_STAT.CLAMPED : Fld := ⟨3, 3⟩
/-- CG_STAT.SOLO, bits [2:2], RO. -/
def CG_STAT.SOLO : Fld := ⟨2, 2⟩
/-- CG_EST (11_capping_placement.md; R394). -/
def CG_EST : Nat := 0x40003
/-- CG_EST.S, bits [63:40], RO. -/
def CG_EST.S : Fld := ⟨63, 40⟩
/-- CG_EST.D_FULL, bits [39:16], RO. -/
def CG_EST.D_FULL : Fld := ⟨39, 16⟩
/-- CG_EST.WIN, bits [15:0], RO. -/
def CG_EST.WIN : Fld := ⟨15, 0⟩
/-- CG_CAL (11_capping_placement.md; R394). -/
def CG_CAL : Nat := 0x40004
/-- CG_CAL.K, bits [63:48], RO. -/
def CG_CAL.K : Fld := ⟨63, 48⟩
/-- CG_CAL.D_ACT, bits [47:24], RO. -/
def CG_CAL.D_ACT : Fld := ⟨47, 24⟩
/-- CG_CAL.P_MEAS, bits [23:0], RO. -/
def CG_CAL.P_MEAS : Fld := ⟨23, 0⟩
/-- CG_SHARE (11_capping_placement.md; R394). -/
def CG_SHARE : Nat := 0x40005
/-- CG_SHARE.SHARE, bits [63:40], RO. -/
def CG_SHARE.SHARE : Fld := ⟨63, 40⟩
/-- CG_SHARE.VALID, bits [39:39], RO. -/
def CG_SHARE.VALID : Fld := ⟨39, 39⟩
/-- CG_SHARE.AGE, bits [31:16], RO. -/
def CG_SHARE.AGE : Fld := ⟨31, 16⟩
/-- CG_CFG0 (11_capping_placement.md; R394). -/
def CG_CFG0 : Nat := 0x40006
/-- CG_CFG0.P_FIX, bits [63:40], RO. -/
def CG_CFG0.P_FIX : Fld := ⟨63, 40⟩
/-- CG_CFG0.P_IDLE, bits [39:24], RO. -/
def CG_CFG0.P_IDLE : Fld := ⟨39, 24⟩
/-- CG_CFG0.MARGIN, bits [23:16], RO. -/
def CG_CFG0.MARGIN : Fld := ⟨23, 16⟩
/-- CG_CFG0.CAL_SHIFT, bits [15:12], RO. -/
def CG_CFG0.CAL_SHIFT : Fld := ⟨15, 12⟩
/-- CG_CFG0.GATE_POLICY, bits [11:10], RO. -/
def CG_CFG0.GATE_POLICY : Fld := ⟨11, 10⟩
/-- CG_CFG0.APPLY_BEATS, bits [9:0], RO. -/
def CG_CFG0.APPLY_BEATS : Fld := ⟨9, 0⟩
/-- CG_CFG1 (11_capping_placement.md; R394). -/
def CG_CFG1 : Nat := 0x40007
/-- CG_CFG1.REST_I, bits [63:48], RO. -/
def CG_CFG1.REST_I : Fld := ⟨63, 48⟩
/-- CG_CFG1.EFF_NOM, bits [47:40], RO. -/
def CG_CFG1.EFF_NOM : Fld := ⟨47, 40⟩
/-- CG_CFG1.STOP_PROG, bits [39:32], RO. -/
def CG_CFG1.STOP_PROG : Fld := ⟨39, 32⟩
/-- CG_CFG1.STOP_SEQ, bits [31:29], RO. -/
def CG_CFG1.STOP_SEQ : Fld := ⟨31, 29⟩
/-- CG_CFG1.SHARE_TMO, bits [23:16], RO. -/
def CG_CFG1.SHARE_TMO : Fld := ⟨23, 16⟩
/-- CG_CFG1.GON_DLY, bits [15:0], RO. -/
def CG_CFG1.GON_DLY : Fld := ⟨15, 0⟩
/-- CG_TILE (11_capping_placement.md; R394). -/
def CG_TILE (i : Nat) : Nat := 0x40100 + i
/-- CG_TILE.P_PRED, bits [63:40], RO. -/
def CG_TILE.P_PRED : Fld := ⟨63, 40⟩
/-- CG_TILE.R_TILE, bits [39:36], RO. -/
def CG_TILE.R_TILE : Fld := ⟨39, 36⟩
/-- PL_CTRL (11_capping_placement.md; R394). -/
def PL_CTRL : Nat := 0x50000
/-- PL_CTRL.RESET_MAP, bits [1:1], WO. -/
def PL_CTRL.RESET_MAP : Fld := ⟨1, 1⟩
/-- PL_CTRL.HOLD, bits [0:0], RW. -/
def PL_CTRL.HOLD : Fld := ⟨0, 0⟩
/-- PL_STAT (11_capping_placement.md; R394). -/
def PL_STAT : Nat := 0x50001
/-- PL_STAT.ORDERS, bits [63:32], RW. -/
def PL_STAT.ORDERS : Fld := ⟨63, 32⟩
/-- PL_STAT.SAT, bits [31:31], RO. -/
def PL_STAT.SAT : Fld := ⟨31, 31⟩
/-- PL_STAT.OUTSTANDING, bits [23:16], RO. -/
def PL_STAT.OUTSTANDING : Fld := ⟨23, 16⟩
/-- PL_STAT.MIN_SPARES, bits [15:8], RO. -/
def PL_STAT.MIN_SPARES : Fld := ⟨15, 8⟩
/-- PL_STAT.SPARES_OUT, bits [7:7], W1C. -/
def PL_STAT.SPARES_OUT : Fld := ⟨7, 7⟩
/-- PL_STAT.RELOC_TMO, bits [6:6], W1C. -/
def PL_STAT.RELOC_TMO : Fld := ⟨6, 6⟩
/-- PL_STAT.REFUSED, bits [5:5], W1C. -/
def PL_STAT.REFUSED : Fld := ⟨5, 5⟩
/-- PL_STAT.HELD, bits [4:4], RO. -/
def PL_STAT.HELD : Fld := ⟨4, 4⟩
/-- PL_SET (11_capping_placement.md; R394). -/
def PL_SET : Nat := 0x50002
/-- PL_SET.KIND, bits [63:62], WO. -/
def PL_SET.KIND : Fld := ⟨63, 62⟩
/-- PL_SET.REGION, bits [45:32], WO. -/
def PL_SET.REGION : Fld := ⟨45, 32⟩
/-- PL_SET.CLASS, bits [31:28], WO. -/
def PL_SET.CLASS : Fld := ⟨31, 28⟩
/-- PL_SET.LIM, bits [15:0], WO. -/
def PL_SET.LIM : Fld := ⟨15, 0⟩
/-- PL_CFG (11_capping_placement.md; R394). -/
def PL_CFG : Nat := 0x50003
/-- PL_CFG.ORDER_LEAD, bits [63:56], RO. -/
def PL_CFG.ORDER_LEAD : Fld := ⟨63, 56⟩
/-- PL_CFG.RELOC_MAX, bits [55:52], RO. -/
def PL_CFG.RELOC_MAX : Fld := ⟨55, 52⟩
/-- PL_CFG.RELOC_TMO, bits [51:40], RO. -/
def PL_CFG.RELOC_TMO : Fld := ⟨51, 40⟩
/-- PL_CFG.DERATE_CRACK, bits [39:24], RO. -/
def PL_CFG.DERATE_CRACK : Fld := ⟨39, 24⟩
/-- PL_CFG.WATCH_N, bits [23:20], RO. -/
def PL_CFG.WATCH_N : Fld := ⟨23, 20⟩
/-- PL_CFG.WATCH_WIN, bits [19:12], RO. -/
def PL_CFG.WATCH_WIN : Fld := ⟨19, 12⟩
/-- PL_CFG.ACCEPT_TMO, bits [11:4], RO. -/
def PL_CFG.ACCEPT_TMO : Fld := ⟨11, 4⟩
/-- PL_ORDER (11_capping_placement.md; R394). -/
def PL_ORDER (i : Nat) : Nat := 0x50010 + i
/-- PL_ORDER.ID, bits [63:52], RO. -/
def PL_ORDER.ID : Fld := ⟨63, 52⟩
/-- PL_ORDER.TILE, bits [51:44], RO. -/
def PL_ORDER.TILE : Fld := ⟨51, 44⟩
/-- PL_ORDER.LOGICAL, bits [43:37], RO. -/
def PL_ORDER.LOGICAL : Fld := ⟨43, 37⟩
/-- PL_ORDER.FROM, bits [36:30], RO. -/
def PL_ORDER.FROM : Fld := ⟨36, 30⟩
/-- PL_ORDER.TO, bits [29:23], RO. -/
def PL_ORDER.TO : Fld := ⟨29, 23⟩
/-- PL_ORDER.GATE, bits [22:15], RO. -/
def PL_ORDER.GATE : Fld := ⟨22, 15⟩
/-- PL_ORDER.STATUS, bits [14:12], RO. -/
def PL_ORDER.STATUS : Fld := ⟨14, 12⟩
/-- PL_ORDER.LATE, bits [11:11], RO. -/
def PL_ORDER.LATE : Fld := ⟨11, 11⟩
/-- PL_MAP (11_capping_placement.md; R394). -/
def PL_MAP (i : Nat) : Nat := 0x51000 + i
/-- PL_MAP.LOGICAL, bits [55:48], RO. -/
def PL_MAP.LOGICAL : Fld := ⟨55, 48⟩
/-- PL_MAP.STATE, bits [47:44], RO. -/
def PL_MAP.STATE : Fld := ⟨47, 44⟩
/-- PL_MAP.CLASS, bits [43:41], RO. -/
def PL_MAP.CLASS : Fld := ⟨43, 41⟩
/-- PL_MAP.GATED, bits [40:40], RO. -/
def PL_MAP.GATED : Fld := ⟨40, 40⟩
/-- PL_MAP.ORDER, bits [31:20], RO. -/
def PL_MAP.ORDER : Fld := ⟨31, 20⟩
/-- PL_WELL (11_capping_placement.md; R394). -/
def PL_WELL (i : Nat) : Nat := 0x54000 + i
/-- PL_WELL.CLASS, bits [63:60], RO. -/
def PL_WELL.CLASS : Fld := ⟨63, 60⟩
/-- PL_WELL.SOURCE, bits [59:56], RO. -/
def PL_WELL.SOURCE : Fld := ⟨59, 56⟩
/-- PL_WELL.EVENTS, bits [55:48], RO. -/
def PL_WELL.EVENTS : Fld := ⟨55, 48⟩
/-- PL_WELL.DERATE_LIM, bits [47:32], RO. -/
def PL_WELL.DERATE_LIM : Fld := ⟨47, 32⟩
/-- PL_WELL.F, bits [31:16], RO. -/
def PL_WELL.F : Fld := ⟨31, 16⟩
/-- SQ_CTRL (06_setpoint_priming.md; R394). -/
def SQ_CTRL (i : Nat) : Nat := 0x60000 + i * 0x100
/-- SQ_CTRL.PROG, bits [15:8], RW. -/
def SQ_CTRL.PROG : Fld := ⟨15, 8⟩
/-- SQ_CTRL.ABORT, bits [1:1], WO. -/
def SQ_CTRL.ABORT : Fld := ⟨1, 1⟩
/-- SQ_CTRL.START, bits [0:0], WO. -/
def SQ_CTRL.START : Fld := ⟨0, 0⟩
/-- SQ_STAT (06_setpoint_priming.md; R394). -/
def SQ_STAT (i : Nat) : Nat := 0x60001 + i * 0x100
/-- SQ_STAT.PC, bits [63:54], RO. -/
def SQ_STAT.PC : Fld := ⟨63, 54⟩
/-- SQ_STAT.PROG, bits [47:40], RO. -/
def SQ_STAT.PROG : Fld := ⟨47, 40⟩
/-- SQ_STAT.EXIT, bits [39:32], RO. -/
def SQ_STAT.EXIT : Fld := ⟨39, 32⟩
/-- SQ_STAT.EVCODE, bits [31:24], RO. -/
def SQ_STAT.EVCODE : Fld := ⟨31, 24⟩
/-- SQ_STAT.SRC, bits [23:22], RO. -/
def SQ_STAT.SRC : Fld := ⟨23, 22⟩
/-- SQ_STAT.CONFLICT, bits [15:15], W1C. -/
def SQ_STAT.CONFLICT : Fld := ⟨15, 15⟩
/-- SQ_STAT.REFUSED, bits [14:14], W1C. -/
def SQ_STAT.REFUSED : Fld := ⟨14, 14⟩
/-- SQ_STAT.DONE, bits [13:13], W1C. -/
def SQ_STAT.DONE : Fld := ⟨13, 13⟩
/-- SQ_STAT.F, bits [12:12], RO. -/
def SQ_STAT.F : Fld := ⟨12, 12⟩
/-- SQ_STAT.ABORT, bits [11:10], RO. -/
def SQ_STAT.ABORT : Fld := ⟨11, 10⟩
/-- SQ_STAT.STATE, bits [3:0], RO. -/
def SQ_STAT.STATE : Fld := ⟨3, 0⟩
/-- SQ_TILES0 (06_setpoint_priming.md; R394). -/
def SQ_TILES0 (i : Nat) : Nat := 0x60002 + i * 0x100
/-- SQ_TILES0.TILES_LO, bits [63:0], RW. -/
def SQ_TILES0.TILES_LO : Fld := ⟨63, 0⟩
/-- SQ_TILES1 (06_setpoint_priming.md; R394). -/
def SQ_TILES1 (i : Nat) : Nat := 0x60003 + i * 0x100
/-- SQ_TILES1.TILES_HI, bits [31:0], RW. -/
def SQ_TILES1.TILES_HI : Fld := ⟨31, 0⟩
/-- CL_STAT (15_coordination_link.md; R394). -/
def CL_STAT : Nat := 0x70000
/-- CL_STAT.INSTANCE, bits [63:52], RO. -/
def CL_STAT.INSTANCE : Fld := ⟨63, 52⟩
/-- CL_STAT.ROOT, bits [51:40], RO. -/
def CL_STAT.ROOT : Fld := ⟨51, 40⟩
/-- CL_STAT.ROOT_PRIO, bits [39:32], RO. -/
def CL_STAT.ROOT_PRIO : Fld := ⟨39, 32⟩
/-- CL_STAT.ROOT_HOPS, bits [31:28], RO. -/
def CL_STAT.ROOT_HOPS : Fld := ⟨31, 28⟩
/-- CL_STAT.UP, bits [27:24], RO. -/
def CL_STAT.UP : Fld := ⟨27, 24⟩
/-- CL_STAT.NO_ROOT, bits [23:23], RO. -/
def CL_STAT.NO_ROOT : Fld := ⟨23, 23⟩
/-- CL_STAT.ADDR_CONFLICT, bits [22:22], RO. -/
def CL_STAT.ADDR_CONFLICT : Fld := ⟨22, 22⟩
/-- CL_STAT.NODES, bits [12:0], RO. -/
def CL_STAT.NODES : Fld := ⟨12, 0⟩
/-- CL_TIME (15_coordination_link.md; R394). -/
def CL_TIME : Nat := 0x70001
/-- CL_TIME.ALIGNS, bits [63:32], RW. -/
def CL_TIME.ALIGNS : Fld := ⟨63, 32⟩
/-- CL_TIME.SAT, bits [31:31], RO. -/
def CL_TIME.SAT : Fld := ⟨31, 31⟩
/-- CL_TIME.STATE, bits [30:28], RO. -/
def CL_TIME.STATE : Fld := ⟨30, 28⟩
/-- CL_TIME.SRC, bits [27:27], RO. -/
def CL_TIME.SRC : Fld := ⟨27, 27⟩
/-- CL_TIME.PARENT, bits [23:20], RO. -/
def CL_TIME.PARENT : Fld := ⟨23, 20⟩
/-- CL_TIME.OFFSET, bits [15:0], RO. -/
def CL_TIME.OFFSET : Fld := ⟨15, 0⟩
/-- CL_JOB (15_coordination_link.md; R394). -/
def CL_JOB : Nat := 0x70002
/-- CL_JOB.JOB_ID, bits [63:48], RW. -/
def CL_JOB.JOB_ID : Fld := ⟨63, 48⟩
/-- CL_JOB.LEADER, bits [47:36], RO. -/
def CL_JOB.LEADER : Fld := ⟨47, 36⟩
/-- CL_JOB.MEMBERS, bits [35:23], RO. -/
def CL_JOB.MEMBERS : Fld := ⟨35, 23⟩
/-- CL_JOB.LAT, bits [22:16], RO. -/
def CL_JOB.LAT : Fld := ⟨22, 16⟩
/-- CL_JOB.REFUSE, bits [11:8], RO. -/
def CL_JOB.REFUSE : Fld := ⟨11, 8⟩
/-- CL_JOB.STATE, bits [7:5], RO. -/
def CL_JOB.STATE : Fld := ⟨7, 5⟩
/-- CL_JOB.LEAVE, bits [1:1], WO. -/
def CL_JOB.LEAVE : Fld := ⟨1, 1⟩
/-- CL_JOB.JOIN, bits [0:0], WO. -/
def CL_JOB.JOIN : Fld := ⟨0, 0⟩
/-- CL_SYSCAP (16_register_index.md; R394). -/
def CL_SYSCAP : Nat := 0x70003
/-- CL_SYSCAP.SYSCAP, bits [63:32], RW. -/
def CL_SYSCAP.SYSCAP : Fld := ⟨63, 32⟩
/-- CL_PORT (15_coordination_link.md; R394). -/
def CL_PORT (i : Nat) : Nat := 0x70010 + i
/-- CL_PORT.ERRORS, bits [63:32], RW. -/
def CL_PORT.ERRORS : Fld := ⟨63, 32⟩
/-- CL_PORT.SAT, bits [31:31], RO. -/
def CL_PORT.SAT : Fld := ⟨31, 31⟩
/-- CL_PORT.STATE, bits [30:28], RO. -/
def CL_PORT.STATE : Fld := ⟨30, 28⟩
/-- CL_PORT.NEIGHBOUR, bits [27:16], RO. -/
def CL_PORT.NEIGHBOUR : Fld := ⟨27, 16⟩
/-- CL_PORT.NPORT, bits [15:14], RO. -/
def CL_PORT.NPORT : Fld := ⟨15, 14⟩
/-- CL_PORT.DELAY, bits [13:0], RO. -/
def CL_PORT.DELAY : Fld := ⟨13, 0⟩
/-- CL_PULL (15_coordination_link.md; R394). -/
def CL_PULL : Nat := 0x70020
/-- CL_PULL.SRC_INST, bits [63:52], RW. -/
def CL_PULL.SRC_INST : Fld := ⟨63, 52⟩
/-- CL_PULL.OBJ, bits [47:44], RW. -/
def CL_PULL.OBJ : Fld := ⟨47, 44⟩
/-- CL_PULL.TILE, bits [43:36], RW. -/
def CL_PULL.TILE : Fld := ⟨43, 36⟩
/-- CL_PULL.ABORT, bits [1:1], WO. -/
def CL_PULL.ABORT : Fld := ⟨1, 1⟩
/-- CL_PULL.GO, bits [0:0], WO. -/
def CL_PULL.GO : Fld := ⟨0, 0⟩
/-- CL_PULL_STAT (15_coordination_link.md; R394). -/
def CL_PULL_STAT : Nat := 0x70021
/-- CL_PULL_STAT.LENGTH, bits [63:40], RO. -/
def CL_PULL_STAT.LENGTH : Fld := ⟨63, 40⟩
/-- CL_PULL_STAT.DONE_W, bits [39:16], RO. -/
def CL_PULL_STAT.DONE_W : Fld := ⟨39, 16⟩
/-- CL_PULL_STAT.RESULT, bits [11:8], RO. -/
def CL_PULL_STAT.RESULT : Fld := ⟨11, 8⟩
/-- CL_PULL_STAT.ABORT, bits [7:6], RO. -/
def CL_PULL_STAT.ABORT : Fld := ⟨7, 6⟩
/-- CL_PULL_STAT.STATE, bits [2:0], RO. -/
def CL_PULL_STAT.STATE : Fld := ⟨2, 0⟩
/-- CL_PULL_ID (16_register_index.md; R394). -/
def CL_PULL_ID : Nat := 0x70022
/-- CL_PULL_ID.ID, bits [63:0], RO. -/
def CL_PULL_ID.ID : Fld := ⟨63, 0⟩
/-- CL_ROUTE (16_register_index.md; R394). -/
def CL_ROUTE (i : Nat) : Nat := 0x71000 + i
/-- CL_ROUTE.HOPS, bits [7:4], RO. -/
def CL_ROUTE.HOPS : Fld := ⟨7, 4⟩
/-- CL_ROUTE.PORTS, bits [3:0], RO. -/
def CL_ROUTE.PORTS : Fld := ⟨3, 0⟩
/-- HD_TELE_STAT (09_converters_telemetry.md; R394). -/
def HD_TELE_STAT : Nat := 0x80000
/-- HD_TELE_STAT.P_IN, bits [63:40], RO. -/
def HD_TELE_STAT.P_IN : Fld := ⟨63, 40⟩
/-- HD_TELE_STAT.P_OUT, bits [39:16], RO. -/
def HD_TELE_STAT.P_OUT : Fld := ⟨39, 16⟩
/-- HD_TELE_STAT.MISSING, bits [15:8], RO. -/
def HD_TELE_STAT.MISSING : Fld := ⟨15, 8⟩
/-- HD_TELE_WIN (16_register_index.md; R394). -/
def HD_TELE_WIN : Nat := 0x80001
/-- HD_TELE_WIN.WIN, bits [63:0], RO. -/
def HD_TELE_WIN.WIN : Fld := ⟨63, 0⟩
/-- HD_E_IN (16_register_index.md; R394). -/
def HD_E_IN : Nat := 0x80002
/-- HD_E_IN.MJ, bits [63:0], RO. -/
def HD_E_IN.MJ : Fld := ⟨63, 0⟩
/-- HD_E_OUT (16_register_index.md; R394). -/
def HD_E_OUT : Nat := 0x80003
/-- HD_E_OUT.MJ, bits [63:0], RO. -/
def HD_E_OUT.MJ : Fld := ⟨63, 0⟩
/-- HD_TILE_TELE (09_converters_telemetry.md; R394). -/
def HD_TILE_TELE (i : Nat) : Nat := 0x80100 + i
/-- HD_TILE_TELE.P_IN, bits [63:40], RO. -/
def HD_TILE_TELE.P_IN : Fld := ⟨63, 40⟩
/-- HD_TILE_TELE.P_OUT, bits [39:16], RO. -/
def HD_TILE_TELE.P_OUT : Fld := ⟨39, 16⟩
/-- HD_TILE_TELE.MISSING, bits [15:15], RO. -/
def HD_TILE_TELE.MISSING : Fld := ⟨15, 15⟩
/-- HD_TILE_TELE.WIN, bits [11:0], RO. -/
def HD_TILE_TELE.WIN : Fld := ⟨11, 0⟩
/-- PH_CIST (01_hierarchy.md; R394). -/
def PH_CIST (t i : Nat) : Nat := phBase t + 0x200 + i
/-- PH_CIST.LIMIT, bits [63:48], RO. -/
def PH_CIST.LIMIT : Fld := ⟨63, 48⟩
/-- PH_CIST.SUM, bits [47:32], RO. -/
def PH_CIST.SUM : Fld := ⟨47, 32⟩
/-- PH_CIST.HEADROOM, bits [31:16], RO. -/
def PH_CIST.HEADROOM : Fld := ⟨31, 16⟩
/-- PH_CIST.TIES, bits [3:0], RO. -/
def PH_CIST.TIES : Fld := ⟨3, 0⟩
/-- PH_PRIME (06_setpoint_priming.md; R394). -/
def PH_PRIME (t i : Nat) : Nat := phBase t + 0x204 + i
/-- PH_PRIME.PRIME_HEAD, bits [63:48], RO. -/
def PH_PRIME.PRIME_HEAD : Fld := ⟨63, 48⟩
/-- PH_PRIME.INRUSH_USE, bits [47:32], RO. -/
def PH_PRIME.INRUSH_USE : Fld := ⟨47, 32⟩
/-- PH_PRIME.WAITING, bits [7:4], RO. -/
def PH_PRIME.WAITING : Fld := ⟨7, 4⟩
/-- PH_PRIME.PRIMING, bits [3:0], RO. -/
def PH_PRIME.PRIMING : Fld := ⟨3, 0⟩
/-- PH_TILE_CAP (01_hierarchy.md; R394). -/
def PH_TILE_CAP (t : Nat) : Nat := phBase t + 0x210
/-- PH_TILE_CAP.INPUT_CAP, bits [63:40], RO. -/
def PH_TILE_CAP.INPUT_CAP : Fld := ⟨63, 40⟩
/-- PH_TILE_CAP.INPUT_MEAS, bits [39:16], RO. -/
def PH_TILE_CAP.INPUT_MEAS : Fld := ⟨39, 16⟩
/-- PH_TILE_CAP.INPUT_A, bits [15:0], RO. -/
def PH_TILE_CAP.INPUT_A : Fld := ⟨15, 0⟩
/-- PH_BUS (04_pump_links.md; R394). -/
def PH_BUS (t : Nat) : Nat := phBase t + 0x211
/-- PH_BUS.BUS, bits [63:48], RO. -/
def PH_BUS.BUS : Fld := ⟨63, 48⟩
/-- PH_BUS.BUS_MIN, bits [47:32], RO. -/
def PH_BUS.BUS_MIN : Fld := ⟨47, 32⟩
/-- PH_BUS.UV_LIM, bits [31:16], RO. -/
def PH_BUS.UV_LIM : Fld := ⟨31, 16⟩
/-- PH_BUS.OV_LIM, bits [15:0], RO. -/
def PH_BUS.OV_LIM : Fld := ⟨15, 0⟩
/-- PH_PWM (04_pump_links.md; R394). -/
def PH_PWM (t : Nat) : Nat := phBase t + 0x220
/-- PH_PWM.INC, bits [63:32], RO. -/
def PH_PWM.INC : Fld := ⟨63, 32⟩
/-- PH_PWM.FREQ_KHZ, bits [31:16], RO. -/
def PH_PWM.FREQ_KHZ : Fld := ⟨31, 16⟩
/-- PH_ENG_CTRL (05_control_engine.md; R394). -/
def PH_ENG_CTRL (t : Nat) : Nat := phBase t + 0x230
/-- PH_ENG_CTRL.NEST, bits [15:12], RO. -/
def PH_ENG_CTRL.NEST : Fld := ⟨15, 12⟩
/-- PH_ENG_CTRL.DEFAULT, bits [9:8], RO. -/
def PH_ENG_CTRL.DEFAULT : Fld := ⟨9, 8⟩
/-- PH_ENG_CTRL.STEST, bits [5:5], WO. -/
def PH_ENG_CTRL.STEST : Fld := ⟨5, 5⟩
/-- PH_ENG_CTRL.MODE_REQ, bits [1:0], RW. -/
def PH_ENG_CTRL.MODE_REQ : Fld := ⟨1, 0⟩
/-- PH_ENG_STAT (05_control_engine.md; R394). -/
def PH_ENG_STAT (t : Nat) : Nat := phBase t + 0x231
/-- PH_ENG_STAT.TRANSIENTS, bits [63:32], RW. -/
def PH_ENG_STAT.TRANSIENTS : Fld := ⟨63, 32⟩
/-- PH_ENG_STAT.SAT, bits [31:31], RO. -/
def PH_ENG_STAT.SAT : Fld := ⟨31, 31⟩
/-- PH_ENG_STAT.HYST_FALLBACK, bits [15:15], RO. -/
def PH_ENG_STAT.HYST_FALLBACK : Fld := ⟨15, 15⟩
/-- PH_ENG_STAT.FAILED_B, bits [14:14], RO. -/
def PH_ENG_STAT.FAILED_B : Fld := ⟨14, 14⟩
/-- PH_ENG_STAT.FAILED_A, bits [13:13], RO. -/
def PH_ENG_STAT.FAILED_A : Fld := ⟨13, 13⟩
/-- PH_ENG_STAT.REFUSED, bits [12:12], W1C. -/
def PH_ENG_STAT.REFUSED : Fld := ⟨12, 12⟩
/-- PH_ENG_STAT.CAUSE, bits [9:8], RO. -/
def PH_ENG_STAT.CAUSE : Fld := ⟨9, 8⟩
/-- PH_ENG_STAT.LAST_WELL, bits [7:4], RO. -/
def PH_ENG_STAT.LAST_WELL : Fld := ⟨7, 4⟩
/-- PH_ENG_STAT.MODE, bits [1:0], RO. -/
def PH_ENG_STAT.MODE : Fld := ⟨1, 0⟩
/-- PH_ENG_OVR (05_control_engine.md; R394). -/
def PH_ENG_OVR (t : Nat) : Nat := phBase t + 0x232
/-- PH_ENG_OVR.OVERRUNS, bits [63:32], RW. -/
def PH_ENG_OVR.OVERRUNS : Fld := ⟨63, 32⟩
/-- PH_ENG_OVR.SAT, bits [31:31], RO. -/
def PH_ENG_OVR.SAT : Fld := ⟨31, 31⟩
/-- PH_ENG_OVR.LAST_WELL, bits [3:0], RO. -/
def PH_ENG_OVR.LAST_WELL : Fld := ⟨3, 0⟩
/-- PH_ENG_LANES (05_control_engine.md; R394). -/
def PH_ENG_LANES (t : Nat) : Nat := phBase t + 0x233
/-- PH_ENG_LANES.ENGINE_B, bits [14:0], RO. -/
def PH_ENG_LANES.ENGINE_B : Fld := ⟨14, 0⟩
/-- PH_TIE (08_sharing_and_faults.md; R394). -/
def PH_TIE (t : Nat) : Nat := phBase t + 0x240
/-- PH_TIE.R_TIE, bits [47:32], RO. -/
def PH_TIE.R_TIE : Fld := ⟨47, 32⟩
/-- PH_TIE.ACK, bits [23:12], RO. -/
def PH_TIE.ACK : Fld := ⟨23, 12⟩
/-- PH_TIE.ON, bits [11:0], RO. -/
def PH_TIE.ON : Fld := ⟨11, 0⟩
/-- PH_TESTCFG (08_sharing_and_faults.md; R394). -/
def PH_TESTCFG (t : Nat) : Nat := phBase t + 0x242
/-- PH_TESTCFG.PERIOD_H, bits [63:48], RO. -/
def PH_TESTCFG.PERIOD_H : Fld := ⟨63, 48⟩
/-- PH_TESTCFG.DEFER_MAX_H, bits [47:40], RO. -/
def PH_TESTCFG.DEFER_MAX_H : Fld := ⟨47, 40⟩
/-- PH_TESTCFG.TRIM, bits [31:24], RO. -/
def PH_TESTCFG.TRIM : Fld := ⟨31, 24⟩
/-- PH_TESTCFG.GAIN_TOL, bits [23:16], RO. -/
def PH_TESTCFG.GAIN_TOL : Fld := ⟨23, 16⟩
/-- PH_TESTCFG.ALONE_US, bits [15:8], RO. -/
def PH_TESTCFG.ALONE_US : Fld := ⟨15, 8⟩
/-- PH_RET_ARM (08_sharing_and_faults.md; R394). -/
def PH_RET_ARM (t : Nat) : Nat := phBase t + 0x243
/-- PH_RET_ARM.ARMED, bits [16:16], RO. -/
def PH_RET_ARM.ARMED : Fld := ⟨16, 16⟩
/-- PH_RET_ARM.CODE, bits [15:8], WO. -/
def PH_RET_ARM.CODE : Fld := ⟨15, 8⟩
/-- PH_RET_ARM.SLOT, bits [5:0], RW. -/
def PH_RET_ARM.SLOT : Fld := ⟨5, 0⟩
/-- PH_E_IN (16_register_index.md; R394). -/
def PH_E_IN (t : Nat) : Nat := phBase t + 0x250
/-- PH_E_IN.MJ, bits [63:0], RO. -/
def PH_E_IN.MJ : Fld := ⟨63, 0⟩
/-- PH_E_OUT (16_register_index.md; R394). -/
def PH_E_OUT (t : Nat) : Nat := phBase t + 0x251
/-- PH_E_OUT.MJ, bits [63:0], RO. -/
def PH_E_OUT.MJ : Fld := ⟨63, 0⟩
/-- PH_TELE (09_converters_telemetry.md; R394). -/
def PH_TELE (t : Nat) : Nat := phBase t + 0x252
/-- PH_TELE.P_OUT, bits [63:40], RO. -/
def PH_TELE.P_OUT : Fld := ⟨63, 40⟩
/-- PH_TELE.EFF, bits [39:32], RO. -/
def PH_TELE.EFF : Fld := ⟨39, 32⟩
/-- PH_TELE.WIN, bits [15:0], RO. -/
def PH_TELE.WIN : Fld := ⟨15, 0⟩
/-- PH_REST (11_capping_placement.md; R394). -/
def PH_REST (t : Nat) : Nat := phBase t + 0x260
/-- PH_REST.R_JOB, bits [63:60], RO. -/
def PH_REST.R_JOB : Fld := ⟨63, 60⟩
/-- PH_REST.R_TILE, bits [59:56], RO. -/
def PH_REST.R_TILE : Fld := ⟨59, 56⟩
/-- PH_REST.APPLIED, bits [55:0], RO. -/
def PH_REST.APPLIED : Fld := ⟨55, 0⟩
/-- PH_PWR (12_power_states.md; R394). -/
def PH_PWR (t : Nat) : Nat := phBase t + 0x270
/-- PH_PWR.WAKES, bits [63:32], RW. -/
def PH_PWR.WAKES : Fld := ⟨63, 32⟩
/-- PH_PWR.SAT, bits [31:31], RO. -/
def PH_PWR.SAT : Fld := ⟨31, 31⟩
/-- PH_PWR.WAKE_REFUSED, bits [2:2], W1C. -/
def PH_PWR.WAKE_REFUSED : Fld := ⟨2, 2⟩
/-- PH_PWR.STATE, bits [1:0], RO. -/
def PH_PWR.STATE : Fld := ⟨1, 0⟩
/-- PH_HOST_HOLD (12_power_states.md; R394). -/
def PH_HOST_HOLD (t : Nat) : Nat := phBase t + 0x271
/-- PH_HOST_HOLD.WELLS, bits [13:0], RW. -/
def PH_HOST_HOLD.WELLS : Fld := ⟨13, 0⟩
/-- PH_HOST_CL0 (12_power_states.md; R394). -/
def PH_HOST_CL0 (t : Nat) : Nat := phBase t + 0x272
/-- PH_HOST_CL0.CL_LO, bits [63:0], RW. -/
def PH_HOST_CL0.CL_LO : Fld := ⟨63, 0⟩
/-- PH_HOST_CL1 (12_power_states.md; R394). -/
def PH_HOST_CL1 (t : Nat) : Nat := phBase t + 0x273
/-- PH_HOST_CL1.CL_HI, bits [31:0], RW. -/
def PH_HOST_CL1.CL_HI : Fld := ⟨31, 0⟩
/-- PH_CLPWR (12_power_states.md; R394). -/
def PH_CLPWR (t i : Nat) : Nat := phBase t + 0x300 + i
/-- PH_CLPWR.RUN, bits [63:56], RO. -/
def PH_CLPWR.RUN : Fld := ⟨63, 56⟩
/-- PH_CLPWR.RETAIN, bits [55:48], RO. -/
def PH_CLPWR.RETAIN : Fld := ⟨55, 48⟩
/-- PH_CLPWR.GRACE_LEFT, bits [47:32], RO. -/
def PH_CLPWR.GRACE_LEFT : Fld := ⟨47, 32⟩
/-- PH_CLPWR.GATED, bits [31:31], RO. -/
def PH_CLPWR.GATED : Fld := ⟨31, 31⟩
/-- PH_CLPWR.C_DRY, bits [30:30], RO. -/
def PH_CLPWR.C_DRY : Fld := ⟨30, 30⟩
/-- PH_CLPWR.C_SEQ, bits [29:29], RO. -/
def PH_CLPWR.C_SEQ : Fld := ⟨29, 29⟩
/-- PH_CLPWR.C_THERM, bits [28:28], RO. -/
def PH_CLPWR.C_THERM : Fld := ⟨28, 28⟩
/-- PH_CLPWR.C_GOV, bits [27:27], RO. -/
def PH_CLPWR.C_GOV : Fld := ⟨27, 27⟩
/-- PH_CLPWR.C_VOTE, bits [26:26], RO. -/
def PH_CLPWR.C_VOTE : Fld := ⟨26, 26⟩
/-- PH_CLPWR.GREQ_ONLY, bits [25:25], RO. -/
def PH_CLPWR.GREQ_ONLY : Fld := ⟨25, 25⟩
/-- TH_CH (10_thermal.md; R394). -/
def TH_CH (t i : Nat) : Nat := phBase t + 0x800 + i
/-- TH_CH.TEMP, bits [63:52], RO. -/
def TH_CH.TEMP : Fld := ⟨63, 52⟩
/-- TH_CH.PEAK, bits [51:40], RO. -/
def TH_CH.PEAK : Fld := ⟨51, 40⟩
/-- TH_CH.SLOPE, bits [39:28], RO. -/
def TH_CH.SLOPE : Fld := ⟨39, 28⟩
/-- TH_CH.HOT, bits [7:7], RO. -/
def TH_CH.HOT : Fld := ⟨7, 7⟩
/-- TH_CH.BROKEN, bits [6:6], RO. -/
def TH_CH.BROKEN : Fld := ⟨6, 6⟩
/-- TH_CH.OVER_A, bits [5:5], W1C. -/
def TH_CH.OVER_A : Fld := ⟨5, 5⟩
/-- TH_CH.OVER_B, bits [4:4], W1C. -/
def TH_CH.OVER_B : Fld := ⟨4, 4⟩
/-- TH_CH.VALID, bits [0:0], RO. -/
def TH_CH.VALID : Fld := ⟨0, 0⟩
/-- TH_LIM (10_thermal.md; R394). -/
def TH_LIM (t i : Nat) : Nat := phBase t + 0x880 + i
/-- TH_LIM.LIM_A, bits [63:52], RO. -/
def TH_LIM.LIM_A : Fld := ⟨63, 52⟩
/-- TH_LIM.LIM_B, bits [51:40], RO. -/
def TH_LIM.LIM_B : Fld := ⟨51, 40⟩
/-- TH_LIM.OFFSET, bits [39:28], RO. -/
def TH_LIM.OFFSET : Fld := ⟨39, 28⟩
/-- TH_LIM.ALWAYS_HOT, bits [0:0], RO. -/
def TH_LIM.ALWAYS_HOT : Fld := ⟨0, 0⟩
/-- TH_CFG (10_thermal.md; R394). -/
def TH_CFG (t : Nat) : Nat := phBase t + 0x900
/-- TH_CFG.HOT_MARGIN, bits [63:56], RO. -/
def TH_CFG.HOT_MARGIN : Fld := ⟨63, 56⟩
/-- TH_CFG.THR_HYS, bits [55:48], RO. -/
def TH_CFG.THR_HYS : Fld := ⟨55, 48⟩
/-- TH_CFG.HARD_MARGIN, bits [47:40], RO. -/
def TH_CFG.HARD_MARGIN : Fld := ⟨47, 40⟩
/-- TH_CFG.RESUME_MARGIN, bits [39:32], RO. -/
def TH_CFG.RESUME_MARGIN : Fld := ⟨39, 32⟩
/-- TH_CFG.ORDERLY_US, bits [31:16], RO. -/
def TH_CFG.ORDERLY_US : Fld := ⟨31, 16⟩
/-- TH_CFG.RESUME_HOLD_MS, bits [15:0], RO. -/
def TH_CFG.RESUME_HOLD_MS : Fld := ⟨15, 0⟩
/-- TH_STAT (10_thermal.md; R394). -/
def TH_STAT (t : Nat) : Nat := phBase t + 0x901
/-- TH_STAT.THROTTLES, bits [63:32], RW. -/
def TH_STAT.THROTTLES : Fld := ⟨63, 32⟩
/-- TH_STAT.SAT, bits [31:31], RO. -/
def TH_STAT.SAT : Fld := ⟨31, 31⟩
/-- TH_STAT.HOT_COUNT, bits [23:16], RO. -/
def TH_STAT.HOT_COUNT : Fld := ⟨23, 16⟩
/-- TH_STAT.HOT_FULL, bits [15:15], W1C. -/
def TH_STAT.HOT_FULL : Fld := ⟨15, 15⟩
/-- TH_STAT.UNRECORDED, bits [14:14], RO. -/
def TH_STAT.UNRECORDED : Fld := ⟨14, 14⟩
/-- TH_STAT.STOP, bits [13:12], RO. -/
def TH_STAT.STOP : Fld := ⟨13, 12⟩
/-- TH_STAT.REFUSED, bits [11:11], W1C. -/
def TH_STAT.REFUSED : Fld := ⟨11, 11⟩
/-- TH_STAT.KIND, bits [10:9], RO. -/
def TH_STAT.KIND : Fld := ⟨10, 9⟩
/-- TH_STAT.STOP_CH, bits [7:0], RO. -/
def TH_STAT.STOP_CH : Fld := ⟨7, 0⟩
/-- TH_CTRL (10_thermal.md; R394). -/
def TH_CTRL (t : Nat) : Nat := phBase t + 0x902
/-- TH_CTRL.CLR_PEAK, bits [1:1], WO. -/
def TH_CTRL.CLR_PEAK : Fld := ⟨1, 1⟩
/-- TH_CTRL.RESUME, bits [0:0], WO. -/
def TH_CTRL.RESUME : Fld := ⟨0, 0⟩
/-- TH_REST (16_register_index.md; R394). -/
def TH_REST (t : Nat) : Nat := phBase t + 0x903
/-- TH_REST.R_TH, bits [47:0], RO. -/
def TH_REST.R_TH : Fld := ⟨47, 0⟩
/-- AD_WIN (09_converters_telemetry.md; R394). -/
def AD_WIN (t i : Nat) : Nat := phBase t + 0xC00 + i
/-- AD_WIN.VC, bits [63:52], RO. -/
def AD_WIN.VC : Fld := ⟨63, 52⟩
/-- AD_WIN.OFFSET, bits [47:40], RO. -/
def AD_WIN.OFFSET : Fld := ⟨47, 40⟩
/-- AD_WIN.LAST_X, bits [39:29], RO. -/
def AD_WIN.LAST_X : Fld := ⟨39, 29⟩
/-- AD_WIN.RUN, bits [15:15], RO. -/
def AD_WIN.RUN : Fld := ⟨15, 15⟩
/-- AD_WIN.CLIP, bits [14:14], W1C. -/
def AD_WIN.CLIP : Fld := ⟨14, 14⟩
/-- AD_WIN.XFAULT, bits [13:13], W1C. -/
def AD_WIN.XFAULT : Fld := ⟨13, 13⟩
/-- AD_WIN.CAL, bits [0:0], WO. -/
def AD_WIN.CAL : Fld := ⟨0, 0⟩
/-- AD_CTRL (09_converters_telemetry.md; R394). -/
def AD_CTRL (t : Nat) : Nat := phBase t + 0xC20
/-- AD_CTRL.LP_INHIBIT, bits [3:3], RW. -/
def AD_CTRL.LP_INHIBIT : Fld := ⟨3, 3⟩
/-- AD_CTRL.CAL_NOW, bits [2:2], WO. -/
def AD_CTRL.CAL_NOW : Fld := ⟨2, 2⟩
/-- AD_STAT (09_converters_telemetry.md; R394). -/
def AD_STAT (t : Nat) : Nat := phBase t + 0xC21
/-- AD_STAT.TRIG_LOST, bits [63:32], RW. -/
def AD_STAT.TRIG_LOST : Fld := ⟨63, 32⟩
/-- AD_STAT.SAT, bits [31:31], RO. -/
def AD_STAT.SAT : Fld := ⟨31, 31⟩
/-- AD_STAT.LP, bits [7:7], RO. -/
def AD_STAT.LP : Fld := ⟨7, 7⟩
/-- AD_STAT.BURST_DONE, bits [6:6], W1C. -/
def AD_STAT.BURST_DONE : Fld := ⟨6, 6⟩
/-- AD_STAT.BURST_RUN, bits [5:5], RO. -/
def AD_STAT.BURST_RUN : Fld := ⟨5, 5⟩
/-- AD_STAT.INJ_RUN, bits [4:4], RO. -/
def AD_STAT.INJ_RUN : Fld := ⟨4, 4⟩
/-- AD_STAT.CONV_ON, bits [3:0], RO. -/
def AD_STAT.CONV_ON : Fld := ⟨3, 0⟩
/-- AD_TRIM (09_converters_telemetry.md; R394). -/
def AD_TRIM (t i : Nat) : Nat := phBase t + 0xC24 + i
/-- AD_TRIM.GAIN, bits [63:48], RO. -/
def AD_TRIM.GAIN : Fld := ⟨63, 48⟩
/-- AD_TRIM.OFFS, bits [47:32], RO. -/
def AD_TRIM.OFFS : Fld := ⟨47, 32⟩
/-- AD_RSEQ (09_converters_telemetry.md; R394). -/
def AD_RSEQ (t : Nat) : Nat := phBase t + 0xC30
/-- AD_RSEQ.LEN, bits [63:60], RW. -/
def AD_RSEQ.LEN : Fld := ⟨63, 60⟩
/-- AD_RSEQ.SLOTS, bits [55:0], RW. -/
def AD_RSEQ.SLOTS : Fld := ⟨55, 0⟩
/-- AD_INJ (09_converters_telemetry.md; R394). -/
def AD_INJ (t i : Nat) : Nat := phBase t + 0xC32 + i
/-- AD_INJ.LEN_ILV, bits [55:48], RW. -/
def AD_INJ.LEN_ILV : Fld := ⟨55, 48⟩
/-- AD_INJ.SEL, bits [47:44], RW. -/
def AD_INJ.SEL : Fld := ⟨47, 44⟩
/-- AD_INJ.TRIG, bits [43:40], RW. -/
def AD_INJ.TRIG : Fld := ⟨43, 40⟩
/-- AD_INJ.ILV, bits [37:37], RW. -/
def AD_INJ.ILV : Fld := ⟨37, 37⟩
/-- AD_INJ.URGENT, bits [36:36], RW. -/
def AD_INJ.URGENT : Fld := ⟨36, 36⟩
/-- AD_INJ.NSLOT, bits [35:34], RW. -/
def AD_INJ.NSLOT : Fld := ⟨35, 34⟩
/-- AD_INJ.GO, bits [28:28], WO. -/
def AD_INJ.GO : Fld := ⟨28, 28⟩
/-- AD_INJ.SLOTS, bits [27:0], RW. -/
def AD_INJ.SLOTS : Fld := ⟨27, 0⟩
/-- AD_INJRES (09_converters_telemetry.md; R394). -/
def AD_INJRES (t i : Nat) : Nat := phBase t + 0xC34 + i
/-- AD_INJRES.SLOT0_RES, bits [63:48], RO. -/
def AD_INJRES.SLOT0_RES : Fld := ⟨63, 48⟩
/-- AD_INJRES.SLOT1_RES, bits [47:32], RO. -/
def AD_INJRES.SLOT1_RES : Fld := ⟨47, 32⟩
/-- AD_INJRES.SLOT2_RES, bits [31:16], RO. -/
def AD_INJRES.SLOT2_RES : Fld := ⟨31, 16⟩
/-- AD_INJRES.SLOT3_RES, bits [15:0], RO. -/
def AD_INJRES.SLOT3_RES : Fld := ⟨15, 0⟩
/-- AD_BURST (16_register_index.md; R394). -/
def AD_BURST (t i : Nat) : Nat := phBase t + 0xC40 + i
/-- AD_BURST.ENTRIES, bits [63:0], RO. -/
def AD_BURST.ENTRIES : Fld := ⟨63, 0⟩
/-- AD_BURST_T (09_converters_telemetry.md; R394). -/
def AD_BURST_T (t : Nat) : Nat := phBase t + 0xC4C
/-- AD_BURST_T.BEAT, bits [63:16], RO. -/
def AD_BURST_T.BEAT : Fld := ⟨63, 16⟩
/-- AD_BURST_T.CYCLE, bits [8:0], RO. -/
def AD_BURST_T.CYCLE : Fld := ⟨8, 0⟩
/-- AD_RES (09_converters_telemetry.md; R394). -/
def AD_RES (t i : Nat) : Nat := phBase t + 0xC80 + i
/-- AD_RES.RESULT, bits [63:48], RO. -/
def AD_RES.RESULT : Fld := ⟨63, 48⟩
/-- AD_RES.SEQ, bits [47:44], RO. -/
def AD_RES.SEQ : Fld := ⟨47, 44⟩
/-- AD_RES.OVF, bits [43:43], W1C. -/
def AD_RES.OVF : Fld := ⟨43, 43⟩
/-- AD_RES.AVG_K, bits [39:36], RW. -/
def AD_RES.AVG_K : Fld := ⟨39, 36⟩
/-- AD_RES.SHIFT, bits [35:32], RW. -/
def AD_RES.SHIFT : Fld := ⟨35, 32⟩
/-- AD_RES.LAST, bits [31:20], RO. -/
def AD_RES.LAST : Fld := ⟨31, 20⟩
/-- AD_RES.COUNT, bits [19:11], RO. -/
def AD_RES.COUNT : Fld := ⟨19, 11⟩
/-- DS_CTRL (07_draw_schedule.md; R394). -/
def DS_CTRL (t : Nat) : Nat := phBase t + 0x2000
/-- DS_CTRL.PAGE, bits [17:16], RW. -/
def DS_CTRL.PAGE : Fld := ⟨17, 16⟩
/-- DS_CTRL.SRC, bits [8:8], RW. -/
def DS_CTRL.SRC : Fld := ⟨8, 8⟩
/-- DS_CTRL.STOP, bits [3:3], WO. -/
def DS_CTRL.STOP : Fld := ⟨3, 3⟩
/-- DS_CTRL.START, bits [2:2], WO. -/
def DS_CTRL.START : Fld := ⟨2, 2⟩
/-- DS_CTRL.UNBIND, bits [1:1], WO. -/
def DS_CTRL.UNBIND : Fld := ⟨1, 1⟩
/-- DS_CTRL.BIND, bits [0:0], WO. -/
def DS_CTRL.BIND : Fld := ⟨0, 0⟩
/-- DS_STAT (07_draw_schedule.md; R394). -/
def DS_STAT (t : Nat) : Nat := phBase t + 0x2001
/-- DS_STAT.ERR_ENTRY, bits [63:46], RO. -/
def DS_STAT.ERR_ENTRY : Fld := ⟨63, 46⟩
/-- DS_STAT.ERR, bits [39:36], RO. -/
def DS_STAT.ERR : Fld := ⟨39, 36⟩
/-- DS_STAT.ABORT, bits [7:6], RO. -/
def DS_STAT.ABORT : Fld := ⟨7, 6⟩
/-- DS_STAT.REFUSED, bits [5:5], W1C. -/
def DS_STAT.REFUSED : Fld := ⟨5, 5⟩
/-- DS_STAT.STATE, bits [2:0], RO. -/
def DS_STAT.STATE : Fld := ⟨2, 0⟩
/-- DS_CFG (07_draw_schedule.md; R394). -/
def DS_CFG (t : Nat) : Nat := phBase t + 0x2002
/-- DS_CFG.LEAD, bits [63:58], RO. -/
def DS_CFG.LEAD : Fld := ⟨63, 58⟩
/-- DS_CFG.MIN_LEAD, bits [57:52], RO. -/
def DS_CFG.MIN_LEAD : Fld := ⟨57, 52⟩
/-- DS_CFG.NOTICE_LEAD, bits [51:46], RO. -/
def DS_CFG.NOTICE_LEAD : Fld := ⟨51, 46⟩
/-- DS_CFG.DECAY, bits [45:42], RO. -/
def DS_CFG.DECAY : Fld := ⟨45, 42⟩
/-- DS_CFG.PB_MAX, bits [41:32], RO. -/
def DS_CFG.PB_MAX : Fld := ⟨41, 32⟩
/-- DS_CFG.LEVEL_TOL, bits [31:24], RO. -/
def DS_CFG.LEVEL_TOL : Fld := ⟨31, 24⟩
/-- DS_CFG.I_TOL, bits [23:16], RO. -/
def DS_CFG.I_TOL : Fld := ⟨23, 16⟩
/-- DS_CFG.DIDT_TOL, bits [15:8], RO. -/
def DS_CFG.DIDT_TOL : Fld := ⟨15, 8⟩
/-- DS_CFG.GATE_TMO, bits [7:0], RO. -/
def DS_CFG.GATE_TMO : Fld := ⟨7, 0⟩
/-- DS_ID (07_draw_schedule.md; R394). -/
def DS_ID (t : Nat) : Nat := phBase t + 0x2003
/-- DS_ID.SCHED_ID, bits [63:32], RO. -/
def DS_ID.SCHED_ID : Fld := ⟨63, 32⟩
/-- DS_ID.LEN, bits [18:0], RO. -/
def DS_ID.LEN : Fld := ⟨18, 0⟩
/-- DS_NOTICE_STAT (07_draw_schedule.md; R394). -/
def DS_NOTICE_STAT (t : Nat) : Nat := phBase t + 0x2004
/-- DS_NOTICE_STAT.STALLS, bits [63:32], RW. -/
def DS_NOTICE_STAT.STALLS : Fld := ⟨63, 32⟩
/-- DS_NOTICE_STAT.SAT, bits [31:31], RO. -/
def DS_NOTICE_STAT.SAT : Fld := ⟨31, 31⟩
/-- DS_NOTICE_STAT.BUSY_PEAK, bits [13:0], RO. -/
def DS_NOTICE_STAT.BUSY_PEAK : Fld := ⟨13, 0⟩
/-- DS_NOTICE_LATE (07_draw_schedule.md; R394). -/
def DS_NOTICE_LATE (t : Nat) : Nat := phBase t + 0x2005
/-- DS_NOTICE_LATE.LATE, bits [63:32], RW. -/
def DS_NOTICE_LATE.LATE : Fld := ⟨63, 32⟩
/-- DS_NOTICE_LATE.SAT, bits [31:31], RO. -/
def DS_NOTICE_LATE.SAT : Fld := ⟨31, 31⟩
/-- DS_NOTICE_LATE.MALFORMED, bits [15:0], RO. -/
def DS_NOTICE_LATE.MALFORMED : Fld := ⟨15, 0⟩
/-- DS_BREACH_STAT (07_draw_schedule.md; R394). -/
def DS_BREACH_STAT (t : Nat) : Nat := phBase t + 0x2006
/-- DS_BREACH_STAT.TOTAL, bits [63:32], RW. -/
def DS_BREACH_STAT.TOTAL : Fld := ⟨63, 32⟩
/-- DS_BREACH_STAT.SAT, bits [31:31], RO. -/
def DS_BREACH_STAT.SAT : Fld := ⟨31, 31⟩
/-- DS_BREACH_STAT.NEXT, bits [3:0], RO. -/
def DS_BREACH_STAT.NEXT : Fld := ⟨3, 0⟩
/-- DS_GATE_CTRL (07_draw_schedule.md; R394). -/
def DS_GATE_CTRL (t : Nat) : Nat := phBase t + 0x2007
/-- DS_GATE_CTRL.SEL, bits [15:8], RW. -/
def DS_GATE_CTRL.SEL : Fld := ⟨15, 8⟩
/-- DS_GATE_CTRL.FORCE, bits [0:0], WO. -/
def DS_GATE_CTRL.FORCE : Fld := ⟨0, 0⟩
/-- DS_GATE_VIEW (07_draw_schedule.md; R394). -/
def DS_GATE_VIEW (t : Nat) : Nat := phBase t + 0x2008
/-- DS_GATE_VIEW.COUNT0, bits [63:50], RO. -/
def DS_GATE_VIEW.COUNT0 : Fld := ⟨63, 50⟩
/-- DS_GATE_VIEW.COUNT1, bits [49:36], RO. -/
def DS_GATE_VIEW.COUNT1 : Fld := ⟨49, 36⟩
/-- DS_GATE_VIEW.DECL, bits [35:22], RO. -/
def DS_GATE_VIEW.DECL : Fld := ⟨35, 22⟩
/-- DS_GATE_VIEW.PAR, bits [21:21], RO. -/
def DS_GATE_VIEW.PAR : Fld := ⟨21, 21⟩
/-- DS_GATE_VIEW.WAIT, bits [20:20], RO. -/
def DS_GATE_VIEW.WAIT : Fld := ⟨20, 20⟩
/-- DS_GATE_VIEW.DONE, bits [19:19], RO. -/
def DS_GATE_VIEW.DONE : Fld := ⟨19, 19⟩
/-- DS_GATE_VIEW.DUP, bits [18:18], W1C. -/
def DS_GATE_VIEW.DUP : Fld := ⟨18, 18⟩
/-- DS_GATE_VIEW.EXTRA, bits [17:17], W1C. -/
def DS_GATE_VIEW.EXTRA : Fld := ⟨17, 17⟩
/-- DS_GATE_VIEW.TMO, bits [16:16], W1C. -/
def DS_GATE_VIEW.TMO : Fld := ⟨16, 16⟩
/-- DS_GATE_VIEW.SCOPE, bits [1:1], RO. -/
def DS_GATE_VIEW.SCOPE : Fld := ⟨1, 1⟩
/-- DS_GATE_VIEW.SYNC, bits [0:0], RO. -/
def DS_GATE_VIEW.SYNC : Fld := ⟨0, 0⟩
/-- DS_WELL (07_draw_schedule.md; R394). -/
def DS_WELL (t i : Nat) : Nat := phBase t + 0x2010 + i
/-- DS_WELL.PC, bits [63:46], RO. -/
def DS_WELL.PC : Fld := ⟨63, 46⟩
/-- DS_WELL.SEG, bits [45:28], RO. -/
def DS_WELL.SEG : Fld := ⟨45, 28⟩
/-- DS_WELL.STATE, bits [27:25], RO. -/
def DS_WELL.STATE : Fld := ⟨27, 25⟩
/-- DS_WELL.GUARD, bits [24:24], RO. -/
def DS_WELL.GUARD : Fld := ⟨24, 24⟩
/-- DS_WELL.I_FC, bits [23:8], RO. -/
def DS_WELL.I_FC : Fld := ⟨23, 8⟩
/-- DS_WELL.M_REQ, bits [7:4], RO. -/
def DS_WELL.M_REQ : Fld := ⟨7, 4⟩
/-- DS_WELL.DEPTH, bits [3:0], RO. -/
def DS_WELL.DEPTH : Fld := ⟨3, 0⟩
/-- DS_PBEAT (16_register_index.md; R394). -/
def DS_PBEAT (t i : Nat) : Nat := phBase t + 0x2020 + i
/-- DS_PBEAT.PBEAT, bits [63:0], RO. -/
def DS_PBEAT.PBEAT : Fld := ⟨63, 0⟩
/-- DS_BREACH (07_draw_schedule.md; R394). -/
def DS_BREACH (t i : Nat) : Nat := phBase t + 0x2040 + i
/-- DS_BREACH.SEG, bits [63:46], RO. -/
def DS_BREACH.SEG : Fld := ⟨63, 46⟩
/-- DS_BREACH.LOGICAL, bits [45:42], RO. -/
def DS_BREACH.LOGICAL : Fld := ⟨45, 42⟩
/-- DS_BREACH.PHYS, bits [41:38], RO. -/
def DS_BREACH.PHYS : Fld := ⟨41, 38⟩
/-- DS_BREACH.KIND, bits [37:34], RO. -/
def DS_BREACH.KIND : Fld := ⟨37, 34⟩
/-- DS_BREACH.SHARED, bits [33:33], RO. -/
def DS_BREACH.SHARED : Fld := ⟨33, 33⟩
/-- DS_BREACH.SIDE, bits [32:32], RO. -/
def DS_BREACH.SIDE : Fld := ⟨32, 32⟩
/-- DS_BREACH.PBEAT, bits [31:0], RO. -/
def DS_BREACH.PBEAT : Fld := ⟨31, 0⟩
/-- WL_CAP (01_hierarchy.md; R394). -/
def WL_CAP (t w : Nat) : Nat := wlBase t w + 0x10
/-- WL_CAP.CONT, bits [63:48], RO. -/
def WL_CAP.CONT : Fld := ⟨63, 48⟩
/-- WL_CAP.PEAK, bits [47:32], RO. -/
def WL_CAP.PEAK : Fld := ⟨47, 32⟩
/-- WL_CAP.RISE, bits [31:24], RO. -/
def WL_CAP.RISE : Fld := ⟨31, 24⟩
/-- WL_CAP.FALL, bits [23:16], RO. -/
def WL_CAP.FALL : Fld := ⟨23, 16⟩
/-- WL_CAP.LIVE, bits [15:12], RO. -/
def WL_CAP.LIVE : Fld := ⟨15, 12⟩
/-- WL_CAP.FOLLOW, bits [11:8], RO. -/
def WL_CAP.FOLLOW : Fld := ⟨11, 8⟩
/-- WL_CAP.STATE, bits [3:2], RO. -/
def WL_CAP.STATE : Fld := ⟨3, 2⟩
/-- WL_CAP.DERATED, bits [1:1], RO. -/
def WL_CAP.DERATED : Fld := ⟨1, 1⟩
/-- WL_LIMIT (01_hierarchy.md; R394). -/
def WL_LIMIT (t w : Nat) : Nat := wlBase t w + 0x11
/-- WL_LIMIT.CONT_LIM, bits [15:0], RW. -/
def WL_LIMIT.CONT_LIM : Fld := ⟨15, 0⟩
/-- WL_PWM (04_pump_links.md; R394). -/
def WL_PWM (t w : Nat) : Nat := wlBase t w + 0x20
/-- WL_PWM.DUTY, bits [63:48], RO. -/
def WL_PWM.DUTY : Fld := ⟨63, 48⟩
/-- WL_PWM.BASE_PH, bits [47:40], RW. -/
def WL_PWM.BASE_PH : Fld := ⟨47, 40⟩
/-- WL_PWM.ACTIVE, bits [39:36], RO. -/
def WL_PWM.ACTIVE : Fld := ⟨39, 36⟩
/-- WL_PWM.FIRST, bits [35:32], RO. -/
def WL_PWM.FIRST : Fld := ⟨35, 32⟩
/-- WL_PWM.SRC, bits [31:30], RO. -/
def WL_PWM.SRC : Fld := ⟨31, 30⟩
/-- WL_PWM.ROT, bits [29:29], RW. -/
def WL_PWM.ROT : Fld := ⟨29, 29⟩
/-- WL_PWM.CLAMPED, bits [28:28], W1C. -/
def WL_PWM.CLAMPED : Fld := ⟨28, 28⟩
/-- WL_EXP (05_control_engine.md; R394). -/
def WL_EXP (t w : Nat) : Nat := wlBase t w + 0x30
/-- WL_EXP.ERR, bits [59:48], RO. -/
def WL_EXP.ERR : Fld := ⟨59, 48⟩
/-- WL_EXP.P, bits [47:36], RO. -/
def WL_EXP.P : Fld := ⟨47, 36⟩
/-- WL_EXP.I, bits [35:24], RO. -/
def WL_EXP.I : Fld := ⟨35, 24⟩
/-- WL_EXP.D, bits [23:12], RO. -/
def WL_EXP.D : Fld := ⟨23, 12⟩
/-- WL_EXP.SUM, bits [11:0], RO. -/
def WL_EXP.SUM : Fld := ⟨11, 0⟩
/-- WL_GAIN (16_register_index.md; R394). -/
def WL_GAIN (t w i : Nat) : Nat := wlBase t w + 0x31 + i
/-- WL_GAIN.HI, bits [63:32], RO. -/
def WL_GAIN.HI : Fld := ⟨63, 32⟩
/-- WL_GAIN.LO, bits [31:0], RO. -/
def WL_GAIN.LO : Fld := ⟨31, 0⟩
/-- WL_OUTER (05_control_engine.md; R394). -/
def WL_OUTER (t w : Nat) : Nat := wlBase t w + 0x37
/-- WL_OUTER.DMAX, bits [63:48], RO. -/
def WL_OUTER.DMAX : Fld := ⟨63, 48⟩
/-- WL_OUTER.DMIN, bits [47:32], RO. -/
def WL_OUTER.DMIN : Fld := ⟨47, 32⟩
/-- WL_OUTER.SH_LIM, bits [31:24], RO. -/
def WL_OUTER.SH_LIM : Fld := ⟨31, 24⟩
/-- WL_OUTER.K_SH, bits [23:16], RO. -/
def WL_OUTER.K_SH : Fld := ⟨23, 16⟩
/-- WL_OUTER.R_LL, bits [15:0], RO. -/
def WL_OUTER.R_LL : Fld := ⟨15, 0⟩
/-- WL_LOOP0 (05_control_engine.md; R394). -/
def WL_LOOP0 (t w : Nat) : Nat := wlBase t w + 0x38
/-- WL_LOOP0.E_ERR, bits [63:58], RO. -/
def WL_LOOP0.E_ERR : Fld := ⟨63, 58⟩
/-- WL_LOOP0.E_P, bits [57:52], RO. -/
def WL_LOOP0.E_P : Fld := ⟨57, 52⟩
/-- WL_LOOP0.E_I, bits [51:46], RO. -/
def WL_LOOP0.E_I : Fld := ⟨51, 46⟩
/-- WL_LOOP0.E_D, bits [45:40], RO. -/
def WL_LOOP0.E_D : Fld := ⟨45, 40⟩
/-- WL_LOOP0.E_SUM, bits [39:34], RO. -/
def WL_LOOP0.E_SUM : Fld := ⟨39, 34⟩
/-- WL_LOOP0.M_E, bits [31:16], RO. -/
def WL_LOOP0.M_E : Fld := ⟨31, 16⟩
/-- WL_LOOP0.M_P, bits [15:0], RO. -/
def WL_LOOP0.M_P : Fld := ⟨15, 0⟩
/-- WL_LOOP1 (05_control_engine.md; R394). -/
def WL_LOOP1 (t w : Nat) : Nat := wlBase t w + 0x39
/-- WL_LOOP1.M_I, bits [63:48], RO. -/
def WL_LOOP1.M_I : Fld := ⟨63, 48⟩
/-- WL_LOOP1.M_D, bits [47:32], RO. -/
def WL_LOOP1.M_D : Fld := ⟨47, 32⟩
/-- WL_LOOP1.M_SUM, bits [31:16], RO. -/
def WL_LOOP1.M_SUM : Fld := ⟨31, 16⟩
/-- WL_LOOP1.M_W, bits [15:0], RO. -/
def WL_LOOP1.M_W : Fld := ⟨15, 0⟩
/-- WL_LOOP_STAT (05_control_engine.md; R394). -/
def WL_LOOP_STAT (t w : Nat) : Nat := wlBase t w + 0x3A
/-- WL_LOOP_STAT.SEQ, bits [63:48], RO. -/
def WL_LOOP_STAT.SEQ : Fld := ⟨63, 48⟩
/-- WL_LOOP_STAT.SAT, bits [39:34], W1C. -/
def WL_LOOP_STAT.SAT : Fld := ⟨39, 34⟩
/-- WL_LOOP_STAT.RATE, bits [33:32], RO. -/
def WL_LOOP_STAT.RATE : Fld := ⟨33, 32⟩
/-- WL_LOOP_STAT.I_FF, bits [31:16], RO. -/
def WL_LOOP_STAT.I_FF : Fld := ⟨31, 16⟩
/-- WL_SHARE (05_control_engine.md; R394). -/
def WL_SHARE (t w : Nat) : Nat := wlBase t w + 0x3B
/-- WL_SHARE.S3, bits [63:48], RO. -/
def WL_SHARE.S3 : Fld := ⟨63, 48⟩
/-- WL_SHARE.S2, bits [47:32], RO. -/
def WL_SHARE.S2 : Fld := ⟨47, 32⟩
/-- WL_SHARE.S1, bits [31:16], RO. -/
def WL_SHARE.S1 : Fld := ⟨31, 16⟩
/-- WL_SHARE.S0, bits [15:0], RO. -/
def WL_SHARE.S0 : Fld := ⟨15, 0⟩
/-- WL_WIN (05_control_engine.md; R394). -/
def WL_WIN (t w : Nat) : Nat := wlBase t w + 0x3C
/-- WL_WIN.WIN, bits [63:52], RO. -/
def WL_WIN.WIN : Fld := ⟨63, 52⟩
/-- WL_WIN.HOLD_TH, bits [51:40], RO. -/
def WL_WIN.HOLD_TH : Fld := ⟨51, 40⟩
/-- WL_WIN.HOLD_HYS, bits [39:28], RO. -/
def WL_WIN.HOLD_HYS : Fld := ⟨39, 28⟩
/-- WL_WIN.OV_TH, bits [27:16], RO. -/
def WL_WIN.OV_TH : Fld := ⟨27, 16⟩
/-- WL_WIN.HOLD_NS, bits [15:0], RO. -/
def WL_WIN.HOLD_NS : Fld := ⟨15, 0⟩
/-- WL_HOLD (05_control_engine.md; R394). -/
def WL_HOLD (t w : Nat) : Nat := wlBase t w + 0x3D
/-- WL_HOLD.HOLDS, bits [63:32], RW. -/
def WL_HOLD.HOLDS : Fld := ⟨63, 32⟩
/-- WL_HOLD.SAT, bits [31:31], RO. -/
def WL_HOLD.SAT : Fld := ⟨31, 31⟩
/-- WL_HOLD.HOLD, bits [30:30], RO. -/
def WL_HOLD.HOLD : Fld := ⟨30, 30⟩
/-- WL_HOLD.OV, bits [29:29], RO. -/
def WL_HOLD.OV : Fld := ⟨29, 29⟩
/-- WL_HOLD.BREACH, bits [28:28], W1C. -/
def WL_HOLD.BREACH : Fld := ⟨28, 28⟩
/-- WL_HOLD.PEAK_DEV, bits [15:0], RO. -/
def WL_HOLD.PEAK_DEV : Fld := ⟨15, 0⟩
/-- PM_LINK (04_pump_links.md; R394). -/
def PM_LINK (t w p : Nat) : Nat := wlBase t w + 0x40 + p * 4
/-- PM_LINK.SKEW, bits [25:20], RW. -/
def PM_LINK.SKEW : Fld := ⟨25, 20⟩
/-- PM_LINK.GAIN, bits [19:8], RW. -/
def PM_LINK.GAIN : Fld := ⟨19, 8⟩
/-- PM_LINK.CAL, bits [2:2], WO. -/
def PM_LINK.CAL : Fld := ⟨2, 2⟩
/-- PM_LINK.PMD, bits [1:1], RO. -/
def PM_LINK.PMD : Fld := ⟨1, 1⟩
/-- PM_LINK.PEN, bits [0:0], RO. -/
def PM_LINK.PEN : Fld := ⟨0, 0⟩
/-- PM_ISNS (04_pump_links.md; R394). -/
def PM_ISNS (t w p : Nat) : Nat := wlBase t w + 0x41 + p * 4
/-- PM_ISNS.CURRENT, bits [63:48], RO. -/
def PM_ISNS.CURRENT : Fld := ⟨63, 48⟩
/-- PM_ISNS.AVG64, bits [47:32], RO. -/
def PM_ISNS.AVG64 : Fld := ⟨47, 32⟩
/-- PM_ISNS.OFFSET, bits [31:16], RO. -/
def PM_ISNS.OFFSET : Fld := ⟨31, 16⟩
/-- PM_ISNS.COUNT, bits [9:0], RO. -/
def PM_ISNS.COUNT : Fld := ⟨9, 0⟩
/-- PM_STAT (04_pump_links.md; R394). -/
def PM_STAT (t w p : Nat) : Nat := wlBase t w + 0x42 + p * 4
/-- PM_STAT.TRIPS, bits [63:32], RW. -/
def PM_STAT.TRIPS : Fld := ⟨63, 32⟩
/-- PM_STAT.SAT, bits [31:31], RO. -/
def PM_STAT.SAT : Fld := ⟨31, 31⟩
/-- PM_STAT.LAST_FAULT, bits [15:12], RO. -/
def PM_STAT.LAST_FAULT : Fld := ⟨15, 12⟩
/-- PM_STAT.IMPLAUSIBLE, bits [11:11], W1C. -/
def PM_STAT.IMPLAUSIBLE : Fld := ⟨11, 11⟩
/-- PM_STAT.REARM_PEND, bits [10:10], RO. -/
def PM_STAT.REARM_PEND : Fld := ⟨10, 10⟩
/-- PM_STAT.LATCHED, bits [9:9], RO. -/
def PM_STAT.LATCHED : Fld := ⟨9, 9⟩
/-- PM_STAT.SERVICE, bits [1:0], RO. -/
def PM_STAT.SERVICE : Fld := ⟨1, 0⟩
/-- PM_NONE (16_register_index.md; R394). -/
def PM_NONE (t w p : Nat) : Nat := wlBase t w + 0x43 + p * 4
/-- PM_NONE.ZERO, bits [63:0], RO. -/
def PM_NONE.ZERO : Fld := ⟨63, 0⟩
/-- WL_SETPT (06_setpoint_priming.md; R394). -/
def WL_SETPT (t w : Nat) : Nat := wlBase t w + 0x50
/-- WL_SETPT.V_CMD, bits [63:52], RW. -/
def WL_SETPT.V_CMD : Fld := ⟨63, 52⟩
/-- WL_SETPT.V_TGT, bits [51:40], RO. -/
def WL_SETPT.V_TGT : Fld := ⟨51, 40⟩
/-- WL_SETPT.V_SET, bits [39:28], RO. -/
def WL_SETPT.V_SET : Fld := ⟨39, 28⟩
/-- WL_SETPT.OWNER, bits [23:21], RO. -/
def WL_SETPT.OWNER : Fld := ⟨23, 21⟩
/-- WL_SETPT.OWNED, bits [20:20], RO. -/
def WL_SETPT.OWNED : Fld := ⟨20, 20⟩
/-- WL_SETPT.HOST_IGN, bits [19:19], W1C. -/
def WL_SETPT.HOST_IGN : Fld := ⟨19, 19⟩
/-- WL_SETPT.TCLAMP, bits [18:18], W1C. -/
def WL_SETPT.TCLAMP : Fld := ⟨18, 18⟩
/-- WL_SETPT.STAGE, bits [17:15], RO. -/
def WL_SETPT.STAGE : Fld := ⟨17, 15⟩
/-- WL_PROF_STAT (06_setpoint_priming.md; R394). -/
def WL_PROF_STAT (t w : Nat) : Nat := wlBase t w + 0x51
/-- WL_PROF_STAT.VEL, bits [63:48], RO. -/
def WL_PROF_STAT.VEL : Fld := ⟨63, 48⟩
/-- WL_PROF_STAT.ACC, bits [47:32], RO. -/
def WL_PROF_STAT.ACC : Fld := ⟨47, 32⟩
/-- WL_PROF_STAT.SET, bits [31:30], RO. -/
def WL_PROF_STAT.SET : Fld := ⟨31, 30⟩
/-- WL_PROF_STAT.SETTLED, bits [29:29], RO. -/
def WL_PROF_STAT.SETTLED : Fld := ⟨29, 29⟩
/-- WL_PROF_STAT.PAUSED, bits [28:28], RO. -/
def WL_PROF_STAT.PAUSED : Fld := ⟨28, 28⟩
/-- WL_PROF_STAT.TRACKING, bits [27:27], RO. -/
def WL_PROF_STAT.TRACKING : Fld := ⟨27, 27⟩
/-- WL_PROF (06_setpoint_priming.md; R394). -/
def WL_PROF (t w i : Nat) : Nat := wlBase t w + 0x52 + i
/-- WL_PROF.VMAX, bits [63:48], RO. -/
def WL_PROF.VMAX : Fld := ⟨63, 48⟩
/-- WL_PROF.AMAX, bits [47:32], RO. -/
def WL_PROF.AMAX : Fld := ⟨47, 32⟩
/-- WL_PROF.JMAX, bits [31:16], RO. -/
def WL_PROF.JMAX : Fld := ⟨31, 16⟩
/-- WL_PROF.KX, bits [15:8], RO. -/
def WL_PROF.KX : Fld := ⟨15, 8⟩
/-- WL_PROF.KV, bits [7:0], RO. -/
def WL_PROF.KV : Fld := ⟨7, 0⟩
/-- WL_MOTION0 (06_setpoint_priming.md; R394). -/
def WL_MOTION0 (t w : Nat) : Nat := wlBase t w + 0x55
/-- WL_MOTION0.VLO, bits [63:52], RO. -/
def WL_MOTION0.VLO : Fld := ⟨63, 52⟩
/-- WL_MOTION0.VHI, bits [51:40], RO. -/
def WL_MOTION0.VHI : Fld := ⟨51, 40⟩
/-- WL_MOTION0.V_BOOT, bits [39:28], RO. -/
def WL_MOTION0.V_BOOT : Fld := ⟨39, 28⟩
/-- WL_MOTION0.C_OUT, bits [15:0], RO. -/
def WL_MOTION0.C_OUT : Fld := ⟨15, 0⟩
/-- WL_MOTION1 (06_setpoint_priming.md; R394). -/
def WL_MOTION1 (t w : Nat) : Nat := wlBase t w + 0x56
/-- WL_MOTION1.PRIME_LOAD, bits [63:48], RO. -/
def WL_MOTION1.PRIME_LOAD : Fld := ⟨63, 48⟩
/-- WL_MOTION1.HB, bits [47:36], RO. -/
def WL_MOTION1.HB : Fld := ⟨47, 36⟩
/-- WL_MOTION1.IPK, bits [35:20], RO. -/
def WL_MOTION1.IPK : Fld := ⟨35, 20⟩
/-- WL_MOTION1.PARK_TMO, bits [19:4], RO. -/
def WL_MOTION1.PARK_TMO : Fld := ⟨19, 4⟩
/-- WL_TRACK (06_setpoint_priming.md; R394). -/
def WL_TRACK (t w : Nat) : Nat := wlBase t w + 0x57
/-- WL_TRACK.TYPE, bits [63:60], RO. -/
def WL_TRACK.TYPE : Fld := ⟨63, 60⟩
/-- WL_TRACK.LEADER, bits [59:56], RO. -/
def WL_TRACK.LEADER : Fld := ⟨59, 56⟩
/-- WL_TRACK.RATIO, bits [55:40], RO. -/
def WL_TRACK.RATIO : Fld := ⟨55, 40⟩
/-- WL_TRACK.OFFSET, bits [39:28], RO. -/
def WL_TRACK.OFFSET : Fld := ⟨39, 28⟩
/-- WL_TRACK.TRK_DEV, bits [27:16], RO. -/
def WL_TRACK.TRK_DEV : Fld := ⟨27, 16⟩
/-- WL_TRACK.EN, bits [15:15], RO. -/
def WL_TRACK.EN : Fld := ⟨15, 15⟩
/-- WL_TRACK.ACTIVE, bits [14:14], RO. -/
def WL_TRACK.ACTIVE : Fld := ⟨14, 14⟩
/-- WL_TIE (08_sharing_and_faults.md; R394). -/
def WL_TIE (t w : Nat) : Nat := wlBase t w + 0x60
/-- WL_TIE.TIE_I, bits [63:48], RO. -/
def WL_TIE.TIE_I : Fld := ⟨63, 48⟩
/-- WL_TIE.COVER, bits [47:32], RO. -/
def WL_TIE.COVER : Fld := ⟨47, 32⟩
/-- WL_TIE.PARTNER, bits [27:24], RO. -/
def WL_TIE.PARTNER : Fld := ⟨27, 24⟩
/-- WL_TIE.ROLE, bits [23:22], RO. -/
def WL_TIE.ROLE : Fld := ⟨23, 22⟩
/-- WL_TIE.PHASE, bits [21:20], RO. -/
def WL_TIE.PHASE : Fld := ⟨21, 20⟩
/-- WL_TIE.PROT_REST, bits [15:12], RO. -/
def WL_TIE.PROT_REST : Fld := ⟨15, 12⟩
/-- WL_TIE.DEFICIT, bits [11:11], RO. -/
def WL_TIE.DEFICIT : Fld := ⟨11, 11⟩
/-- WL_TIE.TIE_FAULT, bits [10:10], W1C. -/
def WL_TIE.TIE_FAULT : Fld := ⟨10, 10⟩
/-- WL_TIE.CIST_OVER, bits [9:9], W1C. -/
def WL_TIE.CIST_OVER : Fld := ⟨9, 9⟩
/-- WL_TIE.OVERLOAD, bits [8:8], W1C. -/
def WL_TIE.OVERLOAD : Fld := ⟨8, 8⟩
/-- WL_TIE.EXCESS, bits [7:0], RO. -/
def WL_TIE.EXCESS : Fld := ⟨7, 0⟩
/-- WL_CHK (08_sharing_and_faults.md; R394). -/
def WL_CHK (t w : Nat) : Nat := wlBase t w + 0x61
/-- WL_CHK.I_DROP, bits [63:48], RO. -/
def WL_CHK.I_DROP : Fld := ⟨63, 48⟩
/-- WL_CHK.SUM_DIFF, bits [47:32], RO. -/
def WL_CHK.SUM_DIFF : Fld := ⟨47, 32⟩
/-- WL_CHK.R_RL, bits [31:16], RO. -/
def WL_CHK.R_RL : Fld := ⟨31, 16⟩
/-- WL_CHK.R_STEP, bits [15:8], RO. -/
def WL_CHK.R_STEP : Fld := ⟨15, 8⟩
/-- WL_CHK.DROP_OK, bits [7:7], RO. -/
def WL_CHK.DROP_OK : Fld := ⟨7, 7⟩
/-- WL_CHK.SENSE_OPEN, bits [6:6], W1C. -/
def WL_CHK.SENSE_OPEN : Fld := ⟨6, 6⟩
/-- WL_CHK.CRACK, bits [5:5], W1C. -/
def WL_CHK.CRACK : Fld := ⟨5, 5⟩
/-- WL_CHK.REG_OVER, bits [4:4], W1C. -/
def WL_CHK.REG_OVER : Fld := ⟨4, 4⟩
/-- WL_CHK.SUM_MISMATCH, bits [3:3], W1C. -/
def WL_CHK.SUM_MISMATCH : Fld := ⟨3, 3⟩
/-- WL_FRULE0 (08_sharing_and_faults.md; R394). -/
def WL_FRULE0 (t w : Nat) : Nat := wlBase t w + 0x62
/-- WL_FRULE0.OVL_LIM, bits [63:56], RO. -/
def WL_FRULE0.OVL_LIM : Fld := ⟨63, 56⟩
/-- WL_FRULE0.OPEN_I, bits [55:48], RO. -/
def WL_FRULE0.OPEN_I : Fld := ⟨55, 48⟩
/-- WL_FRULE0.SUM_TOL, bits [47:40], RO. -/
def WL_FRULE0.SUM_TOL : Fld := ⟨47, 40⟩
/-- WL_FRULE0.PUMP_TOL, bits [39:32], RO. -/
def WL_FRULE0.PUMP_TOL : Fld := ⟨39, 32⟩
/-- WL_FRULE0.CRACK_STEP, bits [31:24], RO. -/
def WL_FRULE0.CRACK_STEP : Fld := ⟨31, 24⟩
/-- WL_FRULE0.CRACK_IMIN, bits [23:16], RO. -/
def WL_FRULE0.CRACK_IMIN : Fld := ⟨23, 16⟩
/-- WL_FRULE0.REG_LIM, bits [15:8], RO. -/
def WL_FRULE0.REG_LIM : Fld := ⟨15, 8⟩
/-- WL_FRULE0.REG_LIM_FB, bits [7:0], RO. -/
def WL_FRULE0.REG_LIM_FB : Fld := ⟨7, 0⟩
/-- WL_FRULE1 (08_sharing_and_faults.md; R394). -/
def WL_FRULE1 (t w : Nat) : Nat := wlBase t w + 0x63
/-- WL_FRULE1.R_PH, bits [63:48], RO. -/
def WL_FRULE1.R_PH : Fld := ⟨63, 48⟩
/-- WL_FRULE1.TIE_IMAX, bits [47:32], RO. -/
def WL_FRULE1.TIE_IMAX : Fld := ⟨47, 32⟩
/-- WL_FRULE1.TIE_OPEN_I, bits [31:24], RO. -/
def WL_FRULE1.TIE_OPEN_I : Fld := ⟨31, 24⟩
/-- WL_FRULE1.TIE_DV, bits [23:12], RO. -/
def WL_FRULE1.TIE_DV : Fld := ⟨23, 12⟩
/-- WL_FRULE1.SENSE_NEG, bits [11:0], RO. -/
def WL_FRULE1.SENSE_NEG : Fld := ⟨11, 0⟩
/-- WL_TEST (08_sharing_and_faults.md; R394). -/
def WL_TEST (t w : Nat) : Nat := wlBase t w + 0x64
/-- WL_TEST.AGE_H, bits [63:44], RO. -/
def WL_TEST.AGE_H : Fld := ⟨63, 44⟩
/-- WL_TEST.DEFER_H, bits [43:36], RO. -/
def WL_TEST.DEFER_H : Fld := ⟨43, 36⟩
/-- WL_TEST.NEXT_PUMP, bits [35:32], RO. -/
def WL_TEST.NEXT_PUMP : Fld := ⟨35, 32⟩
/-- WL_TEST.VARIANT, bits [27:26], RO. -/
def WL_TEST.VARIANT : Fld := ⟨27, 26⟩
/-- WL_TEST.STATE, bits [25:24], RO. -/
def WL_TEST.STATE : Fld := ⟨25, 24⟩
/-- WL_TEST.ABANDONED, bits [23:23], W1C. -/
def WL_TEST.ABANDONED : Fld := ⟨23, 23⟩
/-- WL_TEST.BLOCKED, bits [22:22], W1C. -/
def WL_TEST.BLOCKED : Fld := ⟨22, 22⟩
/-- WL_TEST.PASS, bits [15:12], RO. -/
def WL_TEST.PASS : Fld := ⟨15, 12⟩
/-- WL_TEST.FAIL, bits [11:8], RO. -/
def WL_TEST.FAIL : Fld := ⟨11, 8⟩
/-- WL_TEST.REQ, bits [0:0], WO. -/
def WL_TEST.REQ : Fld := ⟨0, 0⟩
/-- PM_SVC (08_sharing_and_faults.md; R394). -/
def PM_SVC (t w p : Nat) : Nat := wlBase t w + 0x68 + p
/-- PM_SVC.STEPS, bits [63:32], RW. -/
def PM_SVC.STEPS : Fld := ⟨63, 32⟩
/-- PM_SVC.SAT, bits [31:31], RO. -/
def PM_SVC.SAT : Fld := ⟨31, 31⟩
/-- PM_SVC.REASON, bits [19:16], RO. -/
def PM_SVC.REASON : Fld := ⟨19, 16⟩
/-- PM_SVC.GAIN_MEAS, bits [15:8], RO. -/
def PM_SVC.GAIN_MEAS : Fld := ⟨15, 8⟩
/-- PM_SVC.RETURN, bits [1:1], WO. -/
def PM_SVC.RETURN : Fld := ⟨1, 1⟩
/-- WL_TELE0 (09_converters_telemetry.md; R394). -/
def WL_TELE0 (t w : Nat) : Nat := wlBase t w + 0x70
/-- WL_TELE0.I_MEAN, bits [63:48], RO. -/
def WL_TELE0.I_MEAN : Fld := ⟨63, 48⟩
/-- WL_TELE0.I_PEAK, bits [47:32], RO. -/
def WL_TELE0.I_PEAK : Fld := ⟨47, 32⟩
/-- WL_TELE0.I_MIN, bits [31:16], RO. -/
def WL_TELE0.I_MIN : Fld := ⟨31, 16⟩
/-- WL_TELE0.WIN, bits [15:0], RO. -/
def WL_TELE0.WIN : Fld := ⟨15, 0⟩
/-- WL_TELE1 (09_converters_telemetry.md; R394). -/
def WL_TELE1 (t w : Nat) : Nat := wlBase t w + 0x71
/-- WL_TELE1.P_MEAN, bits [63:40], RO. -/
def WL_TELE1.P_MEAN : Fld := ⟨63, 40⟩
/-- WL_TELE1.V_MEAN, bits [39:28], RO. -/
def WL_TELE1.V_MEAN : Fld := ⟨39, 28⟩
/-- WL_TELE1.WET, bits [27:16], RO. -/
def WL_TELE1.WET : Fld := ⟨27, 16⟩
/-- WL_TELE1.WIN, bits [15:0], RO. -/
def WL_TELE1.WIN : Fld := ⟨15, 0⟩
/-- WL_ENERGY (16_register_index.md; R394). -/
def WL_ENERGY (t w : Nat) : Nat := wlBase t w + 0x72
/-- WL_ENERGY.E_OUT, bits [63:0], RO. -/
def WL_ENERGY.E_OUT : Fld := ⟨63, 0⟩
/-- WL_VOTE (12_power_states.md; R394). -/
def WL_VOTE (t w : Nat) : Nat := wlBase t w + 0x80
/-- WL_VOTE.RUN_CL, bits [63:56], RO. -/
def WL_VOTE.RUN_CL : Fld := ⟨63, 56⟩
/-- WL_VOTE.RETAIN_CL, bits [55:48], RO. -/
def WL_VOTE.RETAIN_CL : Fld := ⟨55, 48⟩
/-- WL_VOTE.GRACE_LEFT, bits [47:36], RO. -/
def WL_VOTE.GRACE_LEFT : Fld := ⟨47, 36⟩
/-- WL_VOTE.PSTATE, bits [35:33], RO. -/
def WL_VOTE.PSTATE : Fld := ⟨35, 33⟩
/-- WL_VOTE.HOST, bits [32:32], RO. -/
def WL_VOTE.HOST : Fld := ⟨32, 32⟩
/-- WL_VOTE.WAKE_PEND, bits [31:31], RO. -/
def WL_VOTE.WAKE_PEND : Fld := ⟨31, 31⟩
/-- WL_VOTE.VPARKED, bits [30:30], W1C. -/
def WL_VOTE.VPARKED : Fld := ⟨30, 30⟩
/-- WL_VOTE_CFG (12_power_states.md; R394). -/
def WL_VOTE_CFG (t w : Nat) : Nat := wlBase t w + 0x81
/-- WL_VOTE_CFG.VOTED, bits [63:63], RO. -/
def WL_VOTE_CFG.VOTED : Fld := ⟨63, 63⟩
/-- WL_VOTE_CFG.CL_GATE, bits [62:62], RO. -/
def WL_VOTE_CFG.CL_GATE : Fld := ⟨62, 62⟩
/-- WL_VOTE_CFG.AUTO_WAKE, bits [61:61], RO. -/
def WL_VOTE_CFG.AUTO_WAKE : Fld := ⟨61, 61⟩
/-- WL_VOTE_CFG.DRY_GRACE, bits [59:48], RO. -/
def WL_VOTE_CFG.DRY_GRACE : Fld := ⟨59, 48⟩
/-- WL_VOTE_CFG.CL_GRACE, bits [47:40], RO. -/
def WL_VOTE_CFG.CL_GRACE : Fld := ⟨47, 40⟩
/-- WL_VOTE_CFG.WAKE_GRACE, bits [39:28], RO. -/
def WL_VOTE_CFG.WAKE_GRACE : Fld := ⟨39, 28⟩

/-- One line of the register index: where the register stands, how many of it, its reset word, and which of its bits a host
write stores (RW, RWL), clears (W1C), takes as a command (WO) and must leave zero (RSV). `cnt` is 1 where bits [63:32] are an
event counter with SAT in bit 31, 2 for HD_PORT_STAT. -/
structure RegRow where
  space : Nat
  off : Nat
  count : Nat
  perTile : Nat
  stride : Nat
  reset : Nat
  rw : Nat
  w1c : Nat
  wo : Nat
  rsv : Nat
  cnt : Nat
  deriving DecidableEq, Repr

/-- Lines of the register index, wellhead space, part 1 (R394). -/
def wellheadRows1 : List RegRow :=
  [⟨0, 0x10, 1, 0, 1, 0x547C0000, 0x0, 0x0, 0x0, 0xFFFFFFFF0000F000, 0⟩ /- HD_TOPO -/,
   ⟨0, 0x20, 1, 0, 1, 0, 0xFFFFFFFF, 0x0, 0x0, 0x1F00000000, 2⟩ /- HD_PORT_STAT -/,
   ⟨0, 0x30, 1, 0, 1, 0x30000, 0xFFFFFFFF00000000, 0x0, 0x0, 0x7FFC0000, 1⟩ /- HD_CLK -/,
   ⟨0, 0x40, 1, 0, 1, 0, 0x0, 0x0, 0x1, 0xFFFFFFFFFFFFFFFE, 0⟩ /- HD_PWR_CTRL -/,
   ⟨0, 0x41, 1, 0, 1, 0, 0xFFFFFFFF00000000, 0x0, 0x0, 0x7FFE00F8, 1⟩ /- HD_PWR_STAT -/,
   ⟨0, 0x42, 1, 0, 1, 0x13, 0xE, 0x0, 0x0, 0xFFFFFFFFFFFFFFE0, 0⟩ /- HD_WAKE_EN -/,
   ⟨0, 0x43, 1, 0, 1, 0, 0xFFFFFFFFFFFFFFFF, 0x0, 0x0, 0x0, 0⟩ /- HD_WAKE_ALARM -/,
   ⟨0, 0x44, 1, 0, 1, 0, 0x0, 0x0, 0x0, 0x0, 0⟩ /- HD_AO_TIME -/,
   ⟨0, 0x1000, 1, 0, 1, 0, 0x0, 0x0, 0x0, 0xFCFF3C, 0⟩ /- LC_STATE -/,
   ⟨0, 0x1001, 1, 0, 1, 0, 0x0, 0x0, 0xFFFF, 0xFFFFFFFFFFFF0000, 0⟩ /- LC_CMD -/,
   ⟨0, 0x1002, 1, 0, 1, 0, 0x0, 0x0, 0x0, 0xFFFFFFFFFFFF0040, 0⟩ /- LC_AUTH_STAT -/,
   ⟨0, 0x1004, 2, 0, 1, 0, 0x0, 0x0, 0x0, 0x0, 0⟩ /- LC_UID -/,
   ⟨0, 0x1008, 6, 0, 1, 0, 0x0, 0x0, 0x0, 0x0, 0⟩ /- LC_CHAL -/,
   ⟨0, 0x1010, 12, 0, 1, 0, 0x0, 0x0, 0xFFFFFFFFFFFFFFFF, 0x0, 0⟩ /- LC_PUB -/,
   ⟨0, 0x1020, 12, 0, 1, 0, 0x0, 0x0, 0xFFFFFFFFFFFFFFFF, 0x0, 0⟩ /- LC_SIG -/,
   ⟨0, 0x1030, 22, 0, 1, 0, 0x0, 0x0, 0xFFFFFFFFFFFFFFFF, 0x0, 0⟩ /- LC_STAGE -/,
   ⟨0, 0x1100, 1, 0, 1, 0x4A0000, 0x0, 0x7, 0x0, 0xFFFFFFFF00800038, 0⟩ /- HD_SB_STAT -/,
   ⟨0, 0x1101, 1, 0, 1, 0, 0x0, 0x0, 0x0, 0x0, 0⟩ /- HD_SB_MBOX -/,
   ⟨0, 0x2000, 1, 0, 1, 0, 0xFFFFFFFF00000F00, 0x0, 0xF, 0xFFFFF0F0, 0⟩ /- HD_IMG_CTRL -/,
   ⟨0, 0x2001, 1, 0, 1, 0, 0x0, 0xE00, 0x0, 0xFFFFF120, 0⟩ /- HD_IMG_STAT -/,
   ⟨0, 0x2002, 1, 0, 1, 0, 0x0, 0x0, 0xFFFFFFFFFFFFFFFF, 0x0, 0⟩ /- HD_IMG_DATA -/,
   ⟨0, 0x2003, 1, 0, 1, 0, 0x0, 0x0, 0x0, 0xFFFFFF, 0⟩ /- HD_IMG_ERR -/,
   ⟨0, 0x2004, 1, 0, 1, 0, 0x0, 0x0, 0x0, 0x0, 0⟩ /- HD_IMG_ID -/,
   ⟨0, 0x2005, 1, 0, 1, 0, 0x0, 0x0, 0x0, 0xFFFFFFFF00000000, 0⟩ /- HD_IMG_BUILD -/]
/-- Lines of the register index, wellhead space, part 2 (R394). -/
def wellheadRows2 : List RegRow :=
  [⟨0, 0x2008, 1, 0, 1, 0x0177000578640430, 0x0, 0x0, 0x0, 0xF00000000F, 0⟩ /- HD_SAFE -/,
   ⟨0, 0x10000, 512, 0, 1, 0, 0xFFF0000000000000, 0x100000000000, 0x0, 0xFFFFFFFFFFF, 0⟩ /- IC_SRC -/,
   ⟨0, 0x10400, 8, 0, 1, 0x10, 0xFFFFFFFF0000001F, 0x80, 0x0, 0x7FFFE060, 1⟩ /- IC_TGT -/,
   ⟨0, 0x10410, 8, 0, 1, 0, 0x0, 0x0, 0x1FF, 0xFFFFFFFFFFFFFE00, 0⟩ /- IC_CLAIM -/,
   ⟨0, 0x10420, 1, 0, 1, 0, 0x0, 0x0, 0x1FF, 0xFFFFFFFFFFFFFE00, 0⟩ /- IC_SETPEND -/,
   ⟨0, 0x10421, 1, 0, 1, 0, 0x0, 0x0, 0x0, 0xFFFFFFFFFF000000, 0⟩ /- IC_SAT_ADDR -/,
   ⟨0, 0x10440, 8, 0, 1, 0, 0x0, 0x0, 0x0, 0x0, 0⟩ /- IC_PEND -/,
   ⟨0, 0x10448, 8, 0, 1, 0, 0x0, 0x0, 0x0, 0x0, 0⟩ /- IC_ACTIVE -/,
   ⟨0, 0x20000, 1, 0, 1, 0, 0x0, 0x1, 0x0, 0x7FFFFFFF06, 0⟩ /- FC_STAT -/,
   ⟨0, 0x20001, 1, 0, 1, 0, 0x0, 0x0, 0x0, 0x0, 0⟩ /- FC_FIRST -/,
   ⟨0, 0x20002, 1, 0, 1, 0, 0x0, 0x0, 0x0, 0x0, 0⟩ /- FC_FIRST_T -/,
   ⟨0, 0x20003, 1, 0, 1, 0, 0x0, 0x0, 0x7F03, 0xFFFFFFFFFFFF80FC, 0⟩ /- FC_CTRL -/,
   ⟨0, 0x20004, 2, 0, 1, 0, 0x0, 0x0, 0x0, 0x0, 0⟩ /- FC_RAISED -/,
   ⟨0, 0x20006, 2, 0, 1, 0, 0x0, 0x0, 0x0, 0x0, 0⟩ /- FC_HELD -/,
   ⟨0, 0x20010, 16, 0, 1, 0, 0x0, 0x0, 0x0, 0x0, 0⟩ /- FC_LOG -/,
   ⟨0, 0x20100, 128, 0, 1, 0, 0x0, 0x0, 0x0, 0x3000100FFFFFFFE, 0⟩ /- FC_REACT -/,
   ⟨0, 0x20200, 128, 0, 1, 0, 0xFFFFFFFF00000000, 0x0, 0x0, 0x7FFFFFFF, 1⟩ /- FC_COUNT -/,
   ⟨0, 0x30000, 1, 0, 1, 0x8, 0x817F, 0x0, 0x0, 0xFFFFFFFFFFFF7E80, 0⟩ /- ER_CFG -/,
   ⟨0, 0x30001, 1, 0, 1, 0, 0xFFFFFFFF00000000, 0x1C0, 0x0, 0x7FFF0000, 1⟩ /- ER_STAT -/,
   ⟨0, 0x30002, 1, 0, 1, 0, 0x0, 0x0, 0x30F, 0xFFFFFFFFFFFFFCF0, 0⟩ /- ER_CTRL -/,
   ⟨0, 0x30003, 1, 0, 1, 0, 0x0, 0x0, 0x0, 0xFC, 0⟩ /- ER_GEOM -/,
   ⟨0, 0x30004, 1, 0, 1, 0, 0x0, 0x0, 0x0, 0x3FFFFF, 0⟩ /- ER_PTR -/,
   ⟨0, 0x30005, 1, 0, 1, 0, 0x0, 0x0, 0x0, 0x7FFFFFFF, 0⟩ /- ER_PCC -/,
   ⟨0, 0x30008, 1, 0, 1, 0, 0xFFFFFF0000000000, 0x0, 0x0, 0xFFFFFFFFFF, 0⟩ /- ER_RD_PTR -/]
/-- Lines of the register index, wellhead space, part 3 (R394). -/
def wellheadRows3 : List RegRow :=
  [⟨0, 0x30009, 1, 0, 1, 0, 0x0, 0x2000, 0x0, 0x7FFFF1F80, 0⟩ /- ER_RD_STAT -/,
   ⟨0, 0x3000A, 1, 0, 1, 0, 0x0, 0x0, 0x0, 0x0, 0⟩ /- ER_RD_DATA -/,
   ⟨0, 0x40000, 1, 0, 1, 0x177000000, 0xFFFFFF0000000000, 0x0, 0x0, 0xFFFF, 0⟩ /- CG_CAP -/,
   ⟨0, 0x40001, 1, 0, 1, 0, 0x0, 0x0, 0x1, 0xFFFFFFFFFFFFFFFE, 0⟩ /- CG_CTRL -/,
   ⟨0, 0x40002, 1, 0, 1, 0x4, 0x0, 0x138, 0x0, 0xFFFFE03, 0⟩ /- CG_STAT -/,
   ⟨0, 0x40003, 1, 0, 1, 0, 0x0, 0x0, 0x0, 0x0, 0⟩ /- CG_EST -/,
   ⟨0, 0x40004, 1, 0, 1, 0x4000000000000000, 0x0, 0x0, 0x0, 0x0, 0⟩ /- CG_CAL -/,
   ⟨0, 0x40005, 1, 0, 1, 0, 0x0, 0x0, 0x0, 0x7F0000FFFF, 0⟩ /- CG_SHARE -/,
   ⟨0, 0x40006, 1, 0, 1, 0x001D400004052200, 0x0, 0x0, 0x0, 0x0, 0⟩ /- CG_CFG0 -/,
   ⟨0, 0x40007, 1, 0, 1, 0x0010E102E0100000, 0x0, 0x0, 0x0, 0x1F000000, 0⟩ /- CG_CFG1 -/,
   ⟨0, 0x40100, 0, 1, 1, 0, 0x0, 0x0, 0x0, 0xFFFFFFFFF, 0⟩ /- CG_TILE -/,
   ⟨0, 0x50000, 1, 0, 1, 0, 0x1, 0x0, 0x2, 0xFFFFFFFFFFFFFFFC, 0⟩ /- PL_CTRL -/,
   ⟨0, 0x50001, 1, 0, 1, 0x400, 0xFFFFFFFF00000000, 0xE0, 0x0, 0x7F00000F, 1⟩ /- PL_STAT -/,
   ⟨0, 0x50002, 1, 0, 1, 0, 0x0, 0x0, 0xC0003FFFF000FFFF, 0x3FFFC0000FFF0000, 0⟩ /- PL_SET -/,
   ⟨0, 0x50003, 1, 0, 1, 0x4041F40D80240100, 0x0, 0x0, 0x0, 0xF, 0⟩ /- PL_CFG -/,
   ⟨0, 0x50010, 16, 0, 1, 0, 0x0, 0x0, 0x0, 0x7FF, 0⟩ /- PL_ORDER -/,
   ⟨0, 0x51000, 0, 96, 1, 0, 0x0, 0x0, 0x0, 0xFF0000FF000FFFFF, 0⟩ /- PL_MAP -/,
   ⟨0, 0x54000, 0, 16, 1, 0, 0x0, 0x0, 0x0, 0xFFFF, 0⟩ /- PL_WELL -/,
   ⟨0, 0x60000, 8, 0, 256, 0, 0xFF00, 0x0, 0x3, 0xFFFFFFFFFFFF00FC, 0⟩ /- SQ_CTRL -/,
   ⟨0, 0x60001, 8, 0, 256, 0x1000, 0x0, 0xE000, 0x0, 0x3F0000003F03F0, 0⟩ /- SQ_STAT -/,
   ⟨0, 0x60002, 8, 0, 256, 0, 0xFFFFFFFFFFFFFFFF, 0x0, 0x0, 0x0, 0⟩ /- SQ_TILES0 -/,
   ⟨0, 0x60003, 8, 0, 256, 0, 0xFFFFFFFF, 0x0, 0x0, 0xFFFFFFFF00000000, 0⟩ /- SQ_TILES1 -/,
   ⟨0, 0x70000, 1, 0, 1, 0x800000, 0x0, 0x0, 0x0, 0x3FE000, 0⟩ /- CL_STAT -/,
   ⟨0, 0x70001, 1, 0, 1, 0xF00000, 0xFFFFFFFF00000000, 0x0, 0x0, 0x70F0000, 1⟩ /- CL_TIME -/]
/-- Lines of the register index, wellhead space, part 4 (R394). -/
def wellheadRows4 : List RegRow :=
  [⟨0, 0x70002, 1, 0, 1, 0, 0xFFFF000000000000, 0x0, 0x3, 0xF01C, 0⟩ /- CL_JOB -/,
   ⟨0, 0x70003, 1, 0, 1, 0, 0xFFFFFFFF00000000, 0x0, 0x0, 0xFFFFFFFF, 0⟩ /- CL_SYSCAP -/,
   ⟨0, 0x70010, 4, 0, 1, 0, 0xFFFFFFFF00000000, 0x0, 0x0, 0x0, 1⟩ /- CL_PORT -/,
   ⟨0, 0x70020, 1, 0, 1, 0, 0xFFF0FFF000000000, 0x0, 0x3, 0xF000FFFFFFFFC, 0⟩ /- CL_PULL -/,
   ⟨0, 0x70021, 1, 0, 1, 0, 0x0, 0x0, 0x0, 0xF038, 0⟩ /- CL_PULL_STAT -/,
   ⟨0, 0x70022, 1, 0, 1, 0, 0x0, 0x0, 0x0, 0x0, 0⟩ /- CL_PULL_ID -/,
   ⟨0, 0x71000, 4096, 0, 1, 0xF0, 0x0, 0x0, 0x0, 0xFFFFFFFFFFFFFF00, 0⟩ /- CL_ROUTE -/,
   ⟨0, 0x80000, 1, 0, 1, 0, 0x0, 0x0, 0x0, 0xFF, 0⟩ /- HD_TELE_STAT -/,
   ⟨0, 0x80001, 1, 0, 1, 0, 0x0, 0x0, 0x0, 0x0, 0⟩ /- HD_TELE_WIN -/,
   ⟨0, 0x80002, 1, 0, 1, 0, 0x0, 0x0, 0x0, 0x0, 0⟩ /- HD_E_IN -/,
   ⟨0, 0x80003, 1, 0, 1, 0, 0x0, 0x0, 0x0, 0x0, 0⟩ /- HD_E_OUT -/,
   ⟨0, 0x80100, 0, 1, 1, 0, 0x0, 0x0, 0x0, 0x7000, 0⟩ /- HD_TILE_TELE -/]
/-- Every line of the register index in wellhead space (R394). -/
def wellheadRows : List RegRow := wellheadRows1 ++ wellheadRows2 ++ wellheadRows3 ++ wellheadRows4

/-- Lines of the register index, pumphouse space, part 1 (R394). -/
def pumphouseRows1 : List RegRow :=
  [⟨1, 0x200, 3, 0, 1, 0, 0x0, 0x0, 0x0, 0xFFF0, 0⟩ /- PH_CIST -/,
   ⟨1, 0x204, 3, 0, 1, 0, 0x0, 0x0, 0x0, 0xFFFFFF00, 0⟩ /- PH_PRIME -/,
   ⟨1, 0x210, 1, 0, 1, 0, 0x0, 0x0, 0x0, 0x0, 0⟩ /- PH_TILE_CAP -/,
   ⟨1, 0x211, 1, 0, 1, 0x14501B58, 0x0, 0x0, 0x0, 0x0, 0⟩ /- PH_BUS -/,
   ⟨1, 0x220, 1, 0, 1, 0x00F5C28F17700000, 0x0, 0x0, 0x0, 0xFFFF, 0⟩ /- PH_PWM -/,
   ⟨1, 0x230, 1, 0, 1, 0x8000, 0x3, 0x0, 0x20, 0xFFFFFFFFFFFF0CDC, 0⟩ /- PH_ENG_CTRL -/,
   ⟨1, 0x231, 1, 0, 1, 0, 0xFFFFFFFF00000000, 0x1000, 0x0, 0x7FFF0C0C, 1⟩ /- PH_ENG_STAT -/,
   ⟨1, 0x232, 1, 0, 1, 0, 0xFFFFFFFF00000000, 0x0, 0x0, 0x7FFFFFF0, 1⟩ /- PH_ENG_OVR -/,
   ⟨1, 0x233, 1, 0, 1, 0x2AAA, 0x0, 0x0, 0x0, 0xFFFFFFFFFFFF8000, 0⟩ /- PH_ENG_LANES -/,
   ⟨1, 0x240, 1, 0, 1, 0x1F400000000, 0x0, 0x0, 0x0, 0xFFFF0000FF000000, 0⟩ /- PH_TIE -/,
   ⟨1, 0x242, 1, 0, 1, 0x00A8080040102000, 0x0, 0x0, 0x0, 0xFF000000FF, 0⟩ /- PH_TESTCFG -/,
   ⟨1, 0x243, 1, 0, 1, 0, 0x3F, 0x0, 0xFF00, 0xFFFFFFFFFFFE00C0, 0⟩ /- PH_RET_ARM -/,
   ⟨1, 0x250, 1, 0, 1, 0, 0x0, 0x0, 0x0, 0x0, 0⟩ /- PH_E_IN -/,
   ⟨1, 0x251, 1, 0, 1, 0, 0x0, 0x0, 0x0, 0x0, 0⟩ /- PH_E_OUT -/,
   ⟨1, 0x252, 1, 0, 1, 0, 0x0, 0x0, 0x0, 0xFFFF0000, 0⟩ /- PH_TELE -/,
   ⟨1, 0x260, 1, 0, 1, 0, 0x0, 0x0, 0x0, 0x0, 0⟩ /- PH_REST -/,
   ⟨1, 0x270, 1, 0, 1, 0x1, 0xFFFFFFFF00000000, 0x4, 0x0, 0x7FFFFFF8, 1⟩ /- PH_PWR -/,
   ⟨1, 0x271, 1, 0, 1, 0, 0x3FFF, 0x0, 0x0, 0xFFFFFFFFFFFFC000, 0⟩ /- PH_HOST_HOLD -/,
   ⟨1, 0x272, 1, 0, 1, 0, 0xFFFFFFFFFFFFFFFF, 0x0, 0x0, 0x0, 0⟩ /- PH_HOST_CL0 -/,
   ⟨1, 0x273, 1, 0, 1, 0, 0xFFFFFFFF, 0x0, 0x0, 0xFFFFFFFF00000000, 0⟩ /- PH_HOST_CL1 -/,
   ⟨1, 0x300, 96, 0, 1, 0xC0000000, 0x0, 0x0, 0x0, 0x1FFFFFF, 0⟩ /- PH_CLPWR -/,
   ⟨1, 0x800, 96, 0, 1, 0, 0x0, 0x30, 0x0, 0xFFFFF0E, 0⟩ /- TH_CH -/,
   ⟨1, 0x880, 96, 0, 1, 0, 0x0, 0x0, 0x0, 0xFFFFFFE, 0⟩ /- TH_LIM -/,
   ⟨1, 0x900, 1, 0, 1, 0x501840A007D003E8, 0x0, 0x0, 0x0, 0x0, 0⟩ /- TH_CFG -/]
/-- Lines of the register index, pumphouse space, part 2 (R394). -/
def pumphouseRows2 : List RegRow :=
  [⟨1, 0x901, 1, 0, 1, 0, 0xFFFFFFFF00000000, 0x8800, 0x0, 0x7F000100, 1⟩ /- TH_STAT -/,
   ⟨1, 0x902, 1, 0, 1, 0, 0x0, 0x0, 0x3, 0xFFFFFFFFFFFFFFFC, 0⟩ /- TH_CTRL -/,
   ⟨1, 0x903, 1, 0, 1, 0, 0x0, 0x0, 0x0, 0xFFFF000000000000, 0⟩ /- TH_REST -/,
   ⟨1, 0xC00, 15, 0, 1, 0, 0x0, 0x6000, 0x1, 0xF00001FFF1FFE, 0⟩ /- AD_WIN -/,
   ⟨1, 0xC20, 1, 0, 1, 0, 0x8, 0x0, 0x4, 0xFFFFFFFFFFFFFFF3, 0⟩ /- AD_CTRL -/,
   ⟨1, 0xC21, 1, 0, 1, 0x84, 0xFFFFFFFF00000000, 0x40, 0x0, 0x7FFFFF00, 1⟩ /- AD_STAT -/,
   ⟨1, 0xC24, 4, 0, 1, 0x8000000000000000, 0x0, 0x0, 0x0, 0xFFFFFFFF, 0⟩ /- AD_TRIM -/,
   ⟨1, 0xC30, 1, 0, 1, 0x1042000000000000, 0xF0FFFFFFFFFFFFFF, 0x0, 0x0, 0xF00000000000000, 0⟩ /- AD_RSEQ -/,
   ⟨1, 0xC32, 2, 0, 1, 0, 0xFFFF3C0FFFFFFF, 0x0, 0x10000000, 0xFF0000C3E0000000, 0⟩ /- AD_INJ -/,
   ⟨1, 0xC34, 2, 0, 1, 0, 0x0, 0x0, 0x0, 0x0, 0⟩ /- AD_INJRES -/,
   ⟨1, 0xC40, 12, 0, 1, 0, 0x0, 0x0, 0x0, 0x0, 0⟩ /- AD_BURST -/,
   ⟨1, 0xC4C, 1, 0, 1, 0, 0x0, 0x0, 0x0, 0xFE00, 0⟩ /- AD_BURST_T -/,
   ⟨1, 0xC80, 72, 0, 1, 0, 0xFF00000000, 0x80000000000, 0x0, 0x700000007FF, 0⟩ /- AD_RES -/,
   ⟨1, 0x2000, 1, 0, 1, 0, 0x30100, 0x0, 0xF, 0xFFFFFFFFFFFCFEF0, 0⟩ /- DS_CTRL -/,
   ⟨1, 0x2001, 1, 0, 1, 0, 0x0, 0x20, 0x0, 0x3F0FFFFFFF18, 0⟩ /- DS_STAT -/,
   ⟨1, 0x2002, 1, 0, 1, 0x2043102010101440, 0x0, 0x0, 0x0, 0x0, 0⟩ /- DS_CFG -/,
   ⟨1, 0x2003, 1, 0, 1, 0, 0x0, 0x0, 0x0, 0xFFF80000, 0⟩ /- DS_ID -/,
   ⟨1, 0x2004, 1, 0, 1, 0, 0xFFFFFFFF00000000, 0x0, 0x0, 0x7FFFC000, 1⟩ /- DS_NOTICE_STAT -/,
   ⟨1, 0x2005, 1, 0, 1, 0, 0xFFFFFFFF00000000, 0x0, 0x0, 0x7FFF0000, 1⟩ /- DS_NOTICE_LATE -/,
   ⟨1, 0x2006, 1, 0, 1, 0, 0xFFFFFFFF00000000, 0x0, 0x0, 0x7FFFFFF0, 1⟩ /- DS_BREACH_STAT -/,
   ⟨1, 0x2007, 1, 0, 1, 0, 0xFF00, 0x0, 0x1, 0xFFFFFFFFFFFF00FE, 0⟩ /- DS_GATE_CTRL -/,
   ⟨1, 0x2008, 1, 0, 1, 0, 0x0, 0x70000, 0x0, 0xFFFC, 0⟩ /- DS_GATE_VIEW -/,
   ⟨1, 0x2010, 14, 0, 1, 0, 0x0, 0x0, 0x0, 0x0, 0⟩ /- DS_WELL -/,
   ⟨1, 0x2020, 14, 0, 1, 0, 0x0, 0x0, 0x0, 0x0, 0⟩ /- DS_PBEAT -/]
/-- Lines of the register index, pumphouse space, part 3 (R394). -/
def pumphouseRows3 : List RegRow :=
  [⟨1, 0x2040, 16, 0, 1, 0, 0x0, 0x0, 0x0, 0x0, 0⟩ /- DS_BREACH -/]
/-- Every line of the register index in pumphouse space (R394). -/
def pumphouseRows : List RegRow := pumphouseRows1 ++ pumphouseRows2 ++ pumphouseRows3

/-- Lines of the register index, well space, part 1 (R394). -/
def wellRows1 : List RegRow :=
  [⟨2, 0x10, 1, 0, 1, 0, 0x0, 0x0, 0x0, 0xF1, 0⟩ /- WL_CAP -/,
   ⟨2, 0x11, 1, 0, 1, 0, 0xFFFF, 0x0, 0x0, 0xFFFFFFFFFFFF0000, 0⟩ /- WL_LIMIT -/,
   ⟨2, 0x20, 1, 0, 1, 0, 0xFF0020000000, 0x10000000, 0x0, 0xFFFFFFF, 0⟩ /- WL_PWM -/,
   ⟨2, 0x30, 1, 0, 1, 0, 0x0, 0x0, 0x0, 0xF000000000000000, 0⟩ /- WL_EXP -/,
   ⟨2, 0x31, 6, 0, 1, 0, 0x0, 0x0, 0x0, 0x0, 0⟩ /- WL_GAIN -/,
   ⟨2, 0x37, 1, 0, 1, 0, 0x0, 0x0, 0x0, 0x0, 0⟩ /- WL_OUTER -/,
   ⟨2, 0x38, 1, 0, 1, 0, 0x0, 0x0, 0x0, 0x300000000, 0⟩ /- WL_LOOP0 -/,
   ⟨2, 0x39, 1, 0, 1, 0, 0x0, 0x0, 0x0, 0x0, 0⟩ /- WL_LOOP1 -/,
   ⟨2, 0x3A, 1, 0, 1, 0, 0x0, 0xFC00000000, 0x0, 0xFF000000FFFF, 0⟩ /- WL_LOOP_STAT -/,
   ⟨2, 0x3B, 1, 0, 1, 0, 0x0, 0x0, 0x0, 0x0, 0⟩ /- WL_SHARE -/,
   ⟨2, 0x3C, 1, 0, 1, 0x0640460140460040, 0x0, 0x0, 0x0, 0x0, 0⟩ /- WL_WIN -/,
   ⟨2, 0x3D, 1, 0, 1, 0, 0xFFFFFFFF00000000, 0x10000000, 0x0, 0xFFF0000, 1⟩ /- WL_HOLD -/,
   ⟨2, 0x40, 4, 0, 4, 0x80000, 0x3FFFF00, 0x0, 0x4, 0xFFFFFFFFFC0000F8, 0⟩ /- PM_LINK -/,
   ⟨2, 0x41, 4, 0, 4, 0x85550000, 0x0, 0x0, 0x0, 0xFC00, 0⟩ /- PM_ISNS -/,
   ⟨2, 0x42, 4, 0, 4, 0, 0xFFFFFFFF00000000, 0x800, 0x0, 0x7FFF01FC, 1⟩ /- PM_STAT -/,
   ⟨2, 0x43, 4, 0, 4, 0, 0x0, 0x0, 0x0, 0x0, 0⟩ /- PM_NONE -/,
   ⟨2, 0x50, 1, 0, 1, 0, 0xFFF0000000000000, 0xC0000, 0x0, 0xF007FFF, 0⟩ /- WL_SETPT -/,
   ⟨2, 0x51, 1, 0, 1, 0, 0x0, 0x0, 0x0, 0x7FFFFFF, 0⟩ /- WL_PROF_STAT -/,
   ⟨2, 0x52, 3, 0, 1, 0, 0x0, 0x0, 0x0, 0x0, 0⟩ /- WL_PROF -/,
   ⟨2, 0x55, 1, 0, 1, 0, 0x0, 0x0, 0x0, 0xFFF0000, 0⟩ /- WL_MOTION0 -/,
   ⟨2, 0x56, 1, 0, 1, 0, 0x0, 0x0, 0x0, 0xF, 0⟩ /- WL_MOTION1 -/,
   ⟨2, 0x57, 1, 0, 1, 0, 0x0, 0x0, 0x0, 0x3FFF, 0⟩ /- WL_TRACK -/,
   ⟨2, 0x60, 1, 0, 1, 0xF000000, 0x0, 0x700, 0x0, 0xF00F0000, 0⟩ /- WL_TIE -/,
   ⟨2, 0x61, 1, 0, 1, 0, 0x0, 0x78, 0x0, 0x7, 0⟩ /- WL_CHK -/]
/-- Lines of the register index, well space, part 2 (R394). -/
def wellRows2 : List RegRow :=
  [⟨2, 0x62, 1, 0, 1, 0x901030284A504C36, 0x0, 0x0, 0x0, 0x0, 0⟩ /- WL_FRULE0 -/,
   ⟨2, 0x63, 1, 0, 1, 0x04B0078018014028, 0x0, 0x0, 0x0, 0x0, 0⟩ /- WL_FRULE1 -/,
   ⟨2, 0x64, 1, 0, 1, 0, 0x0, 0xC00000, 0x1, 0xF03F00FE, 0⟩ /- WL_TEST -/,
   ⟨2, 0x68, 4, 0, 1, 0, 0xFFFFFFFF00000000, 0x0, 0x2, 0x7FF000FD, 1⟩ /- PM_SVC -/,
   ⟨2, 0x70, 1, 0, 1, 0, 0x0, 0x0, 0x0, 0x0, 0⟩ /- WL_TELE0 -/,
   ⟨2, 0x71, 1, 0, 1, 0, 0x0, 0x0, 0x0, 0x0, 0⟩ /- WL_TELE1 -/,
   ⟨2, 0x72, 1, 0, 1, 0, 0x0, 0x0, 0x0, 0x0, 0⟩ /- WL_ENERGY -/,
   ⟨2, 0x80, 1, 0, 1, 0, 0x0, 0x40000000, 0x0, 0x3FFFFFFF, 0⟩ /- WL_VOTE -/,
   ⟨2, 0x81, 1, 0, 1, 0, 0x0, 0x0, 0x0, 0x100000000FFFFFFF, 0⟩ /- WL_VOTE_CFG -/]
/-- Every line of the register index in well space (R394). -/
def wellRows : List RegRow := wellRows1 ++ wellRows2

end Sys2Proof.Machine
end

