-- ==== Sys2Proof/Machine/Map.lean ====
section
/-! DEFINITION. Which register a word address names, what each address holds at reset, and the table of all registers in canonical form (R6, R328, R394, R395). -/

namespace Sys2Proof.Machine

/-- Where a 24-bit word address falls (R6, R37, R394): a Wellhead word, a Pumphouse word below its per-well blocks and
above them, a per-well word, well slot 15, the schedule window, the broadcast region, or no place at all. -/
inductive Place where
  | wellhead (off : Nat)
  | pumphouse (t off : Nat)
  | well (t w off : Nat)
  | slot15 (t : Nat)
  | window (t off : Nat)
  | broadcast (off : Nat)
  | nowhere
  deriving DecidableEq, Repr

/-- The place inside Pumphouse `t` of Pumphouse offset `o` (02_host_port.md address map). -/
def phPlace (t o : Nat) : Place :=
  if o < 0x1000 then .pumphouse t o
  else if o < 0x1F00 then .well t ((o - 0x1000) / 0x100) ((o - 0x1000) % 0x100)
  else if o < 0x2000 then .slot15 t
  else if o < 0x4000 then .pumphouse t o
  else if o < 0x8000 then .nowhere
  else .window t (o - 0x8000)

/-- The place of a word address. -/
def place (a : Nat) : Place :=
  if a < 0x100000 then .wellhead a
  else if a < 0xF00000 then phPlace ((a - 0x100000) / 0x10000) ((a - 0x100000) % 0x10000)
  else if a < 0xF08000 then .broadcast (a - 0xF00000)
  else .nowhere

/-- Does the line of the register index hold this offset, with `n` registers where the count depends on the tiles? -/
def RegRow.holds (r : RegRow) (tiles off : Nat) : Bool :=
  decide (r.off ≤ off) && decide ((off - r.off) % r.stride = 0) &&
    decide ((off - r.off) / r.stride < r.count + r.perTile * tiles)

/-- The line of the index that holds an offset. -/
def findRow (rows : List RegRow) (tiles off : Nat) : Option RegRow := rows.find? (fun r => r.holds tiles off)

/-- LEVEL fault sources and LEVEL event sources (R325). -/
def levelSource (n : Nat) : Bool :=
  n == 4 || n == 7 || n == 12 || n == 15 || n == 18 || n == 20 || n == 26 || n == 29 || n == 145 || n == 149

/-- A source that the fault-source table or the event-source table lists (R323, R325). -/
def listedSource (n : Nat) : Bool := (decide (1 ≤ n) && decide (n ≤ 31)) || (decide (128 ≤ n) && decide (n ≤ 149)) || (decide (496 ≤ n) && decide (n ≤ 511))

/-- The reaction of fault source `n` before an image: fixed for sources 1 to 4, INT at priority 8 to target 0 with ERR for
the others (R325, R328). -/
def reactReset (n : Nat) : Word :=
  if n = 1 ∨ n = 3 then 0x18F0100000000001
  else if n = 2 then 0x10F0100000000001
  else if n = 4 then 0x48F0100000000001
  else if 5 ≤ n ∧ n ≤ 31 then 0x1880100000000000
  else 0

/-- IC_SRC at reset (R328, IC_SRC table). -/
def icSrcReset (n : Nat) : Word :=
  let ty : Word := if levelSource n then 0x400000000000 else 0
  if 1 ≤ n ∧ n ≤ 4 then 0xF010000000000000 ||| ty
  else if 5 ≤ n ∧ n ≤ 31 then 0x8010000000000000 ||| ty
  else ty

/-- Wellhead registers whose reset depends on their number: IC_SRC, FC_REACT and PL_MAP (LOGICAL = k); else the index. -/
def wellheadReset (off : Nat) : Word :=
  if 0x10000 ≤ off ∧ off < 0x10200 then icSrcReset (off - 0x10000)
  else if 0x20100 ≤ off ∧ off < 0x20180 then reactReset (off - 0x20100)
  else if 0x51000 ≤ off ∧ off < 0x51000 + 9216 then BitVec.ofNat 64 (((off - 0x51000) % 96) * 2 ^ 48)
  else match findRow wellheadRows 96 off with
    | some r => BitVec.ofNat 64 r.reset
    | none => 0

/-- Pumphouse registers: TH_LIM differs for die channels and pump channels (16_register_index.md). -/
def pumphouseReset (off : Nat) : Word :=
  if 0x880 ≤ off ∧ off < 0x880 + 24 then 0x3483980000000000
  else if 0x8A0 ≤ off ∧ off < 0x8DC then 0x3E84600000000000
  else if 0x880 ≤ off ∧ off < 0x8E0 then 0
  else match findRow pumphouseRows 96 off with
    | some r => BitVec.ofNat 64 r.reset
    | none => 0

/-- Per-well registers: WL_PWM.BASE_PH is 0x10 w, and the keeper well's fixed motion and outer values of R149. -/
def wellReset (w off : Nat) : Word :=
  if off = 0x20 then BitVec.ofNat 64 (0x20000000 + (0x10 * w) * 2 ^ 40)
  else if w = 14 ∧ off = 0x50 then 0x5DC0000000000000
  else if w = 14 ∧ (off = 0x52 ∨ off = 0x53) then 0x0200020008000840
  else if w = 14 ∧ off = 0x55 then 0x5786405DC00001D6
  else if w = 14 ∧ off = 0x56 then 0x0000014008000000
  else if w = 14 ∧ off = 0x37 then 0x4000000000000000
  else match findRow wellRows 0 off with
    | some r => BitVec.ofNat 64 r.reset
    | none => 0

/-- What a word address holds at reset. -/
def regReset (a : Nat) : Word :=
  match place a with
  | .wellhead off => wellheadReset off
  | .pumphouse _ off => pumphouseReset off
  | .well _ w off => wellReset w off
  | _ => 0

/-- The register table: address and word, in the canonical form of `twf` over the reset values, so that two tables in which
every address reads the same word are the same data. -/
structure RegTable where
  /-- The addresses that do not hold their reset value, rising, each with its word. -/
  cells : List (Nat × Word)
  /-- The canonical form. -/
  form : twf regReset cells = true
  deriving DecidableEq, Repr

/-- What an address holds: the listed word, or its reset value. -/
def RegTable.get (r : RegTable) (a : Nat) : Word := tget regReset r.cells a

/-- Store a whole word at an address. -/
def RegTable.put (r : RegTable) (a : Nat) (d : Word) : RegTable :=
  ⟨tset regReset r.cells a d, twf_tset regReset r.cells a d r.form⟩

/-- Put every address that `p` names back to its reset value. -/
def RegTable.clear (r : RegTable) (p : Nat → Bool) : RegTable :=
  ⟨r.cells.filter (fun e => !p e.1), twfFrom_filter regReset (fun e => !p e.1) r.cells 0 r.form⟩

end Sys2Proof.Machine
end

