-- ==== Sys2Proof/Machine/State.lean ====
section
/-! DEFINITION. The state of the block: every register, counter, buffer, mode and wire the spec gives it, as plain data, and the queue of waiting commands. -/

namespace Sys2Proof.Machine

open Sys2Proof

/-- Why the block would stop with a fault. The spec gives the block no exception entry and names no fault that stops it
(its faults are raises to the collector, R324), so there is none. -/
inductive Fault where
  deriving DecidableEq, Repr

/-- Why a command is refused. -/
inductive Refusal where
  /-- A command without a meaning: raised by its arm of exec only; safe (nothing is claimed about it). -/
  | notModelled (mnemonic : String)
  /-- A host write of a non-zero value to a reserved field (R7: no defined effect): raised by every host register write; safe. -/
  | reservedWrite
  deriving DecidableEq, Repr

/-- A raise of a fault source with its detail (R324). `tile` 0xFF: no tile; `well` 0xF: no well. -/
structure Raise where
  src : Nat
  tile : Nat := 0xFF
  well : Nat := 0xF
  sub : Nat := 0
  /-- Made by FC_CTRL.INJECT (R337). -/
  injected : Bool := false
  deriving DecidableEq, Repr

/-- What a secret-bank slot holds (R48): the hash of the recorder clear key and the licensee secret. A wiped slot reads all
ones (R49). -/
structure Secret where
  clearHash : BitVec 384 := 0
  secret : BitVec 256 := 0
  deriving DecidableEq, Repr

/-- The one-time-programmable fuses (R17, R48, R49, R41, R46). The reset value is a BLANK part with the reference default
topology (DESIGN CHOICE, log entry 3). -/
structure Fuses where
  lcState : Nat := 0
  slot : Nat := 0
  rows : Nat := 7
  cols : Nat := 12
  safe : Word := 0x0177000578640430
  uid : BitVec 128 := 0
  erCfg : Nat := 8
  makerHash : BitVec 384 := 0
  licImgHash : BitVec 384 := 0
  licAuthHash : BitVec 384 := 0
  secret0 : Secret := {}
  secret1 : Secret := {}
  secret2 : Secret := {}
  secret3 : Secret := {}
  jtagMaker : Nat := 0
  mipiMaker : Nat := 0
  /-- The DCO's trim against nominal, 1/3200 ppm (R101). -/
  dcoTrim : Int := 0
  deriving DecidableEq, Repr

/-- The Wellhead's clock (R314, R315, R317). -/
inductive FastClock where
  | run | nap | sleep | restarting
  deriving DecidableEq, Repr

/-- A stretch of the DCO's frequency against nominal in 1/3200 ppm (R98-R100): from `start` ns it moves in a line from `f0` to `f1`
over `dur` ns, then stands at `f1`. -/
structure DcoSeg where
  f0 : Int := 0
  f1 : Int := 0
  start : Nat := 0
  dur : Nat := 0
  deriving DecidableEq, Repr

/-- The DCO's frequency (R98-R100): its present stretch, the stretches before it that reach into the last 1 ms, newest first, and
the successive updates with the phase within 20 ps. -/
structure Dco extends DcoSeg where
  hist : List DcoSeg := []
  near : Nat := 0
  deriving DecidableEq, Repr

/-- The distributed clock and the DCO (R81, R97-R101, R379-R382). Times in nanoseconds of the distributed clock. -/
structure Clk where
  /-- Nanoseconds since power-on (the model's time base; advances on a step with no command waiting). -/
  ns : Nat := 0
  /-- When the block was last reset, in ns: votes are cleared then (R305). -/
  resetAt : Nat := 0
  /-- Fraction of an always-on tick, in 1/10^9 of a tick (32.768 kHz, R314). -/
  aoFrac : Nat := 0
  /-- Ticks counted since power-on, before the recorder's scan raises HD_AO_TIME (R353). -/
  aoCount : Nat := 0
  /-- The wafer beat counter, 250 ns a beat (R81). -/
  beat : Nat := 0
  /-- Nanoseconds left to the next beat boundary. -/
  beatLeft : Nat := 250
  /-- The Wellhead's fast clock (R315, R317). -/
  fast : FastClock := .run
  /-- An accepted SLEEP request waits for its entry (R317). -/
  sleepReq : Bool := false
  /-- A step is being made: the number the next beat boundary takes (R382). -/
  stepTo : Option Nat := none
  dco : Dco := {}
  deriving DecidableEq, Repr

/-- A request accepted at the host port and not yet answered (R34). -/
structure Req where
  we : Bool
  addr : Nat
  data : Word
  tag : Nat
  deriving DecidableEq, Repr

/-- A response of the host port: its tag, code (R37) and read data. -/
structure Resp where
  tag : Nat
  code : Nat
  data : Word
  deriving DecidableEq, Repr

/-- The host port: outstanding requests, oldest first (at most 8, R34), and the responses given so far, oldest first. -/
structure Port where
  outstanding : List Req := []
  answered : List Resp := []
  deriving DecidableEq, Repr

/-- The sideband target beyond HD_SB_STAT and HD_SB_MBOX (R41-R45). -/
structure Sideband where
  /-- A command, with its argument, that waits for the fast clock (R43, R44). -/
  todo : Option (Nat × Word) := none
  /-- Status and result bytes not yet read back, first byte first (R43). -/
  result : List Nat := []
  /-- The bytes the last private read returned (R43). -/
  lastRead : List Nat := []
  /-- Bytes the last common command returned (R41). -/
  cccBytes : List Nat := []
  /-- The last common command was answered with NACK (R41). -/
  nack : Bool := false
  /-- Maximum write and read length (R41). -/
  mwl : Nat := 16
  mrl : Nat := 16
  /-- A protocol error since the last GETSTATUS (R41). -/
  protErr : Bool := false
  /-- Pending in-band interrupts: bit c-1 for class c, one per class (R45). -/
  ibiPend : Nat := 0
  /-- The IBI list in force: bit c-1 for class c (R45); FAULT alone before an image (R66). -/
  ibiList : Nat := 1
  deriving DecidableEq, Repr

/-- The debug port (R46, R47): the instruction in force and what the last access captured. -/
structure Tap where
  ir : Nat := 0x01
  capResp : Nat := 0
  capData : Word := 0
  /-- The 32-bit identification shifted out under IDCODE (R46). -/
  idOut : Nat := 0
  /-- An accepted DIAG authorisation has not yet opened a session (R47). -/
  diagOk : Bool := false
  deriving DecidableEq, Repr

/-- Fuse programming in progress (R49, R50). -/
inductive FuseOp where
  | none | provision | field | returnWipe | reentryField
  deriving DecidableEq, Repr

/-- The life-cycle controller beyond its registers (R49-R53). -/
structure Lc where
  /-- The pending nonce (R53). -/
  nonce : Option (BitVec 384) := none
  /-- A CHALLENGE waits for the recorder's READY (R353). -/
  waiting : Bool := false
  /-- A SUBMIT is being verified (R51). -/
  verifying : Bool := false
  /-- An accepted REENTRY authorisation waits for ENTER_FIELD (R48). -/
  reentry : Bool := false
  /-- Which LC_STAGE words have been written: since reset, or since the accepted REENTRY (R48, R50). -/
  staged : Nat := 0
  fuseOp : FuseOp := .none
  /-- SHA-384 of the LC_PUB that authorised the last accepted submission (R352, R363). -/
  authHash : BitVec 384 := 0
  deriving DecidableEq, Repr

/-- The collector beyond the FC_ registers (R324-R337). -/
structure FaultX where
  /-- Raises found in Pumphouses on their way to the collector (R324). -/
  inflight : List Raise := []
  /-- Raises found in the Wellhead in this cycle, collected before the command ends (R324). -/
  now : List Raise := []
  /-- The places at which LEVEL sources are held now (R324). -/
  held : List Raise := []
  /-- Blocks whose reset of the episode is in progress: 0-95 a Pumphouse, 100 recorder port, 101 link, 102 sideband (R329). -/
  resetting : List Nat := []
  /-- Programs that start once the reset completes: (sequencer, program, raise, narrow) (R329). -/
  progAfter : List (Nat × Nat × Raise × Bool) := []
  /-- A CHIP reaction waits for the episode's record (R330). -/
  chipPend : Bool := false
  /-- VP_ERR_N pulled low by chip reset until the life-cycle state is read (R322). -/
  errReset : Bool := true
  deriving DecidableEq, Repr

/-- The interrupt controller beyond the IC_ registers: which source is active on which target (R338, R341). -/
structure Intc where
  active : List (Nat × Nat) := []
  /-- Sources that became pending with an empty TARGETS mask: steered to no target (R339, R344). -/
  unsteered : List Nat := []
  deriving DecidableEq, Repr

/-- A record waiting in the recorder's queue (R350, R357). -/
structure Rec where
  type : Nat
  part : Nat := 0
  parts : Nat := 1
  payload : List Word := []
  kept : Bool := false
  tmo : Bool := false
  trig : Nat := 0
  ao : Word := 0
  beat : Nat := 0
  /-- The tile whose stop record this is (R270). -/
  tile : Nat := 0xFF
  /-- An EPISODE record that a CHIP reaction waits for (R330). -/
  chip : Bool := false
  /-- SEQ of part 0 of its group, once that part has been written (R350). -/
  group : Nat := 0
  deriving DecidableEq, Repr

/-- A trigger of the TRIGGERS section (R354): list, KEEP, FIRST_ONLY, HOLDOFF_MS. -/
structure Trigger where
  list : Nat
  keep : Bool
  firstOnly : Bool
  holdoffMs : Nat
  deriving DecidableEq, Repr

/-- A snapshot called for by its trigger, then started, and not yet queued (R354, R355). -/
structure Snap where
  trig : Nat
  list : Nat
  keep : Bool
  ao : Word
  beat : Nat
  raise : Word
  started : Bool := false
  deriving DecidableEq, Repr

/-- What the recorder is doing to the flash (R358, R349, R363). -/
inductive FlashOp where
  | idle
  /-- The record at the head of the queue is programmed into a slot: on its second attempt, carrying LOSTBEFORE. -/
  | program (slot : Nat) (second lost : Bool)
  /-- A 4 KiB erase unit of the circulating area is erased. -/
  | erase (unit : Nat)
  /-- A clear runs; its CLEAR record stands in a slot. -/
  | clear (all : Bool) (slot : Nat)
  deriving DecidableEq, Repr

/-- The recorder beyond its registers (R346-R365). -/
structure Recorder where
  queue : List Rec := []
  /-- A record was dropped since the last record written (LOSTBEFORE); records dropped since the last LOST record (R357). -/
  lostBefore : Bool := false
  dropped : Nat := 0
  /-- SEQ of the next record (R350). -/
  seq : Nat := 0
  op : FlashOp := .idle
  /-- A clear of this SCOPE waits for the program or erase in progress; so does a FREEZE (R360, R363). -/
  clearPend : Option Bool := none
  freezePend : Bool := false
  /-- The two came in one cycle: the clear goes first (R365). -/
  clearFirst : Bool := false
  /-- The words fetched and not yet read; fetching is on (R361). -/
  buffer : List Word := []
  fetching : Bool := false
  /-- The start-up scan has been made since chip reset (R353, R364). -/
  scanned : Bool := false
  /-- SHA-384 of the LC_PUB whose RECORDER_CLEAR armed the clear (R363). -/
  clearHash : BitVec 384 := 0
  /-- Snapshot lists and triggers of the image in force, keyed by list number and by source (R354). -/
  lists : List (Nat × List Nat) := []
  triggers : List (Nat × Trigger) := []
  /-- When each trigger last recorded, in ns (R354 HOLDOFF_MS). -/
  lastFire : List (Nat × Nat) := []
  snaps : List Snap := []
  /-- HEART_H; 1 before an image. Heartbeats that are due (R356). -/
  heartH : Nat := 1
  heartDue : Nat := 0
  deriving DecidableEq, Repr

/-- What the image in force sets and no register shows, in the image's own layout (R62, R163, R367). Before an image: the fused
default topology (R17, R74). -/
structure ImageCfg where
  /-- WELL record payloads, keyed 16t + w (R62); an unlisted well has its slot's record of the fused default topology. -/
  topo : List (Nat × Word) := []
  /-- TILE record payloads, keyed t; CISTERN record payloads, keyed 3t + c (R62, R16). -/
  tile : List (Nat × Word) := []
  cist : List (Nat × Word) := []
  /-- Step programs: 32-bit instructions, keyed by program number (R159). -/
  programs : List (Nat × List Nat) := []
  /-- FABRIC: the lane enable mask (R367). -/
  lanes : Nat := 0
  /-- The pump short-circuit trip in 1/64 A: the pump die's own 40 A, or a lower value of the image (R91). -/
  trip : Nat := 2560
  deriving DecidableEq, Repr

/-- The image loader beyond its registers (R54-R76). -/
structure LoadX where
  /-- The image slot: the words received, in image order (R54). -/
  slot : List Word := []
  /-- The declared length, and whether the coordination link supplies the words (R71). -/
  len : Nat := 0
  link : Bool := false
  /-- The checks have passed: the load waits for the parking of the safe-primed wells, then for APPLYING (R76). -/
  passed : Bool := false
  /-- An ABORT waits for the end of APPLYING (R73). -/
  abort : Bool := false
  /-- A rejected load asks for safe priming (R68); the safe-primed wells are being parked (R76). -/
  safeDue : Bool := false
  parking : Bool := false
  /-- A tile has stopped for its temperature in APPLYING: it does not take its configuration (R73, R272). -/
  stopped : Bool := false
  deriving DecidableEq, Repr

/-- A port of the coordination link beyond CL_PORT (R369-R379). -/
structure PortX where
  /-- Own nonce of this attempt, and the peer's nonce and LC_UID from its HELLO (R369). -/
  nonce : BitVec 128 := 0
  peerNonce : BitVec 128 := 0
  peerUid : BitVec 128 := 0
  /-- SEQ of the next frame sent and of the next frame expected (R372). -/
  txSeq : Nat := 0
  rxSeq : Nat := 0
  /-- Frames sent and not acknowledged, at most 128, and frames that wait for a place; oldest first (R372). -/
  resend : List LinkFrame := []
  waiting : List LinkFrame := []
  /-- The peer's last T_TX and this end's receive time of that MARK (R379). -/
  echoTx : Word := 0
  echoRx : Word := 0
  /-- Twice the last 16 delays and offsets, in 1/64 ns, newest first (R379). -/
  delays : List Int := []
  offsets : List Int := []
  deriving DecidableEq, Repr

/-- An ADV held (R373, R374): its origin and its fields. -/
structure AdvX where
  inst : Nat
  uid : BitVec 128
  seq : Nat
  prio : Nat
  job : Nat
  time : Nat
  jobId : Nat
  ports : Word
  deriving DecidableEq, Repr

/-- A member as the leader counts it (R383-R386): its first window, its hops, its last PLAY and its NEED with the window. -/
structure Member where
  inst : Nat
  first : Nat
  play : Bool := true
  need : Option (Nat × Nat) := none
  deriving DecidableEq, Repr

/-- A SYNC completed on one instance (R387): ID, parity, instance, Bc and G. -/
structure SyncX where
  id : Nat
  par : Nat
  src : Nat
  bc : Nat
  g : Nat
  deriving DecidableEq, Repr

/-- Job membership beyond CL_JOB (R383-R387). -/
structure JobX where
  /-- The job joined or being joined (R383). -/
  id : Nat := 0
  /-- JOINs sent and not answered; first window F of the coming membership, and whether it is leadership. -/
  tries : Nat := 0
  first : Option Nat := none
  lead : Bool := false
  /-- The instance leaves at the next window boundary, or joins again as soon as it may (R385). -/
  leavePend : Bool := false
  rejoin : Bool := false
  /-- The leader from the next window boundary (R385). -/
  nextLeader : Option Nat := none
  members : List Member := []
  /-- Last NEED posted: window and r_need; PLAY as last sent; the last window an AGREE was sent for (R386). -/
  posted : Option (Nat × Nat) := none
  play : Bool := false
  agreedWin : Option Nat := none
  /-- The leader's SYNC_DONEs; this instance's own SYNC completions that wait for Br (R387). -/
  syncs : List SyncX := []
  mine : List SyncX := []
  deriving DecidableEq, Repr

/-- A SHARE_REQ the root holds (R388). -/
structure ShareReq where
  inst : Nat
  win : Nat
  d : Nat
  l : Nat
  deriving DecidableEq, Repr

/-- The pull of this instance beyond CL_PULL_STAT (R389, R390): source, object and TILE as GO found them, the tiles to fill, the OPENs not yet answered, the lengths offered
(tile, words), the words held in order of the object now fed, and DATA that came early (tile, offset, words). -/
structure PullX where
  src : Nat := 0
  obj : Nat := 0
  tile : Nat := 0
  opens : List Nat := []
  offers : List (Nat × Nat) := []
  held : Nat := 0
  early : List (Nat × Nat × List Word) := []
  deriving DecidableEq, Repr

/-- A pull this instance serves (R389): puller, object, tile, and the words sent. -/
structure Serve where
  puller : Nat
  obj : Nat
  tile : Nat
  sent : Nat := 0
  deriving DecidableEq, Repr

/-- The coordination link beyond the CL_ registers (R366-R393). -/
structure LinkX where
  ports : List (Nat × PortX) := []
  /-- Frames sent so far, oldest first, with their port. -/
  sent : List (Nat × LinkFrame) := []
  advs : List AdvX := []
  advSeq : Nat := 0
  /-- The turn of DATA frames over the ports of a mask (R377); frames to be routed again (R378). -/
  spread : Nat := 0
  reroute : List (Nat × LinkFrame) := []
  /-- The address conflict: the INSTANCE this end had, and the LC_UID of the other (R375). -/
  conflict : Option (Nat × BitVec 128) := none
  /-- Own timestamps of beats before this one count no more: a step lies between (R379, R382). -/
  stampFrom : Nat := 0
  /-- Keys of the control frames last taken: type, source, ID, key (R373). -/
  taken : List (Nat × Nat × Nat × Nat) := []
  job : JobX := {}
  reqs : List ShareReq := []
  /-- The last window the root answered (R388). -/
  shareWin : Option Nat := none
  pull : PullX := {}
  serves : List Serve := []
  deriving DecidableEq, Repr

/-- A step sequencer beyond SQ_CTRL, SQ_STAT and SQ_TILES (R158-R164). -/
structure SeqX where
  /-- Tiles selected for the following well instructions (R160 SELT). -/
  tiles : List Nat := []
  /-- The tile of the starting fault; 0xFF for none (R161). -/
  faultTile : Nat := 0xFF
  /-- NARROW: only this well slot acts; 0xF for every well (R331). -/
  narrow : Nat := 0xF
  /-- Opcode of the waiting instruction and, for WAIT, its condition (R160, R161). -/
  op : Nat := 0
  cond : Nat := 0
  /-- The wells of the waiting instruction: global well and outcome, 0 waiting, 1 completed, 2 failed (R161). -/
  wells : List (Nat × Nat) := []
  /-- Global wells this sequencer owns (R162). -/
  owned : List Nat := []
  /-- The waiting instruction has timeout 0 (R160: PRIME with ARG 0). -/
  noTimeout : Bool := false
  /-- When the waiting instruction took effect, in ns (R160). -/
  since : Nat := 0
  /-- The beat of the last instruction that issued (R162); ns of the host START that runs (R165). -/
  beat : Option Nat := none
  hostNs : Option Nat := none
  /-- The beat of the last END (R164). -/
  ended : Option Nat := none
  deriving DecidableEq, Repr

/-- Set-point motion, priming and parking of a well (06_setpoint_priming.md). -/
structure Motion where
  /-- Profile generator: position, velocity, acceleration in 2^-16 of mV, mV/us, mV/us^2 (R137). -/
  x : Int := 0
  v : Int := 0
  a : Int := 0
  /-- Fallback target, 2^-16 mV: x when the well entered the fallback (R138). -/
  xFall : Option Int := none
  /-- V_tgt of the latest outer evaluation, 2^-16 mV (R116). -/
  vTgt : Int := 0
  /-- The limit set PROF selected: 0 RUN, 1 PRIME, 2 PARK (R160). -/
  prof : Nat := 0
  /-- PMODE: 0 AUTO, 1 DE, 2 SYNC (R160). -/
  pmode : Nat := 0
  /-- A TIE instruction holds the well's tie switches open (R160). -/
  tieHold : Bool := false
  /-- Priming or parking holds the well's tie switches open (R156, R157). -/
  moveHold : Bool := false
  /-- Peak inrush reserved while ramping, current encoding (R154). -/
  reserved : Int := 0
  /-- Successive boundaries with the admission conditions holding, and with headroom for resuming (R154, R155). -/
  admitRun : Nat := 0
  headRun : Nat := 0
  /-- Successive boundaries with the follower out of TRK_DEV (R152). -/
  trkRun : Nat := 0
  /-- The ramp pauses by a tracking fault (R152). -/
  trkFail : Bool := false
  /-- The CAL stage has ended, so the next boundary is the first admission check (R154). -/
  checked : Bool := false
  /-- The first admission check decides: PRIME with ARG 0 (R160). -/
  oneCheck : Bool := false
  /-- The well's PRIME came from a wake or from safe priming, not from a sequencer (R312, R75). -/
  waking : Bool := false
  safePrime : Bool := false
  /-- A HAND stands on the well: handed over at the first boundary that meets R146. -/
  handReq : Bool := false
  /-- A HYST takes effect at the next switching-period opening (R148). -/
  hystReq : Bool := false
  /-- A PARK (a voted one) or a HYST waits for the split of the well's tie (R216). -/
  parkWait : Bool := false
  parkVoted : Bool := false
  hystWait : Bool := false
  /-- PEN has fallen on every pump: the well is DRY at the next outer boundary (R157, R269). -/
  dropPend : Bool := false
  /-- The park reached its timeout (R157), or is a voted park (R310). -/
  parkTimedOut : Bool := false
  votedPark : Bool := false
  deriving DecidableEq, Repr

/-- A sample of a loop period in 1/16 mV, the loop-period openings passed since it closed, and ns of its close (R104-R106). -/
structure Sample where
  x : Int
  age : Nat := 0
  closed : Nat := 0
  deriving DecidableEq, Repr

/-- What an outer evaluation gives (R116, R118): WL_SHARE of each well of the group, V_tgt, and f_v's numerator and denominator. -/
structure OuterRes where
  shares : List (Nat × Word)
  vTgt : Int
  vIn : Int
  bus : Nat
  deriving DecidableEq, Repr

/-- The loop, converter and hysteretic state of a well beyond its registers (05_control_engine.md, 09, 06). -/
structure Loop where
  /-- Samples X waiting for the engine, oldest first (R104-R106). -/
  queue : List Sample := []
  /-- The well's first opening in voltage mode has come (R146); openings of this parity begin a loop period at half rate (R105, R129). -/
  opened : Bool := true
  par : Nat := 0
  /-- First decimated value of a half-rate loop period (R105). -/
  half : Option Int := none
  /-- Consecutive per-period values beyond WIN (R124). -/
  beyond : Nat := 0
  /-- Sum and number of decimated values of the present outer period, and whether all lay within the band (R146). -/
  sumX : Int := 0
  numX : Nat := 0
  inBand : Bool := true
  /-- The last outer period held values, and all of them lay within the band (R146). -/
  bandOk : Bool := false
  /-- Mean remote sense and mean local sense of the last outer period, 1/16 mV (R146, R153, R223). -/
  vMean : Int := 0
  vLocal : Int := 0
  /-- Numerators and denominators of f_v and of kff_eff: inner set-point in 2^-16 mV and BUS in mV at the last outer
  evaluation (R116). -/
  vIn : Int := 0
  bus : Nat := 6000
  /-- I_w of the last outer evaluation, current encoding (R116). -/
  iW : Int := 0
  /-- Entering voltage mode: the next evaluation starts the loop from this handover duty (R115). -/
  entry : Option Nat := none
  /-- A committed duty for the next opening, the duty applied now and the last verified duty (R105, R106, R126). -/
  next : Option Nat := none
  now : Nat := 0
  verified : Nat := 0
  /-- The applied duty failed its verdict: replaced at the next opening (R126). -/
  bad : Bool := false
  /-- The evaluation whose verdict is out: sample, LOOP0 and LOOP1 before it (R127). -/
  heldX : Option Int := none
  held0 : Word := 0
  held1 : Word := 0
  /-- Its result: the duty, LOOP0, LOOP1 and the saturation flags; withheld in LOCKSTEP until the stages compare (R126). -/
  heldDuty : Nat := 0
  res0 : Word := 0
  res1 : Word := 0
  resSat : Nat := 0
  /-- Openings passed since the sample of the evaluation that is out closed, and whether its overrun was counted (R106). -/
  heldAge : Nat := 0
  counted : Bool := false
  /-- The engine's part of an outer evaluation waits for its turn (R104). -/
  outDue : Bool := false
  /-- The outer evaluation whose verdict is out: the trims by well, V_tgt and the quantities of f_v it gave; its retry is queued, and on
  the first attempt engine A or B failed its residue (R125-R129). -/
  outer : Option OuterRes := none
  outRetry : Bool := false
  outFailA : Bool := false
  outFailB : Bool := false
  /-- A retry is queued (R127); on its first attempt engine A or B failed its residue (R129). -/
  retry : Bool := false
  failA : Bool := false
  failB : Bool := false
  /-- The well has not yet switched to the engine mode granted (R129, R134); it runs in this mode. -/
  modePend : Bool := false
  mode : Nat := 0
  /-- Switching periods opened since the well went wet (R84); BASE_PH as the well took it when it went wet (WL_PWM). -/
  period : Nat := 0
  basePh : Nat := 0
  /-- A change of m or ROT waits for the opening: the number of pumps the player asks for, 0 for every pump (R82). -/
  mReq : Nat := 0
  /-- Hysteretic mode: ns of the last turn-on, the pump the next pulse goes to if it is ready (R144). -/
  lastOn : Option Nat := none
  nextPump : Nat := 0
  /-- Forecast feedforward current, current encoding, and pre-bias, 2^-16 mV, from the player (R117, R185). -/
  iFF : Int := 0
  vPre : Int := 0
  /-- ns of the last release of the hold wires (R120). -/
  relAt : Option Nat := none
  deriving DecidableEq, Repr

/-- A source of rest (R217, R218, R266, R286): the duty decided, the decisions not yet applied with their beats, oldest first, the duty
applied and the frame beat from which it applies. -/
structure Rest where
  want : Nat := 0
  pend : List (Nat × Nat) := []
  app : Nat := 0
  appSince : Nat := 0
  deriving DecidableEq, Repr

/-- Sharing, ties, deficits and connection checks of a well beyond its registers (08_sharing_and_faults.md). -/
structure ShareX where
  /-- I_w of the last outer periods, newest first, for the 64 us average (R207). -/
  hist : List Int := []
  /-- Outer boundaries seen since reset. -/
  outerN : Nat := 0
  /-- Excess timer and the time at or below CONT since, in ns times the switching frequency in kHz (R208). -/
  excess : Nat := 0
  below : Nat := 0
  /-- The 15/16 overload rest stands until a full window at or below CONT (R208). -/
  ovlRest : Bool := false
  windowClean : Bool := true
  /-- Protective rest (R217, R218) and thermal rest (R266). -/
  pr : Rest := {}
  th : Rest := {}
  /-- A full window without a deficit has passed: the tie may be unloaded (R219). -/
  quietWin : Bool := false
  /-- No deficit so far in the running window (R219); beat from which thermal rest has been in force (R291). -/
  winQuiet : Bool := true
  thBeat : Option Nat := none
  /-- Thermal rest was in force for the whole of the window that closed last (R291). -/
  thWhole : Bool := false
  /-- The well stood in a quiet window at its last boundary (R225). -/
  quietNow : Bool := false
  /-- Tie switch (0-3 in the ring) that this lead closes or holds closed; boundary number of the decision (R211). -/
  tie : Option Nat := none
  tieAt : Nat := 0
  /-- The switch a moving lead closes next (R215). -/
  newTie : Option Nat := none
  /-- The tie unloads for a full window without a deficit alone: a deficit keeps it (R219). -/
  quietUnload : Bool := false
  /-- Boundaries with TIE_I over TIE_IMAX, within TIE_OPEN_I, and of the unload (R213, R214). -/
  overRun : Nat := 0
  lowRun : Nat := 0
  unloadN : Nat := 0
  /-- TIE_I samples, newest first (R213). -/
  tieHist : List Int := []
  /-- R_RL learning: sums of the window, fast quotients, mean current of the adopted window, frozen by a crack (R226, R227). -/
  slowSum : Int := 0
  slowN : Nat := 0
  slowI : Int := 0
  fast : List Int := []
  iRef : Int := 0
  adopted : Bool := false
  crackRun : Nat := 0
  /-- Boundaries of a sum mismatch, and the pumps trim-suspect at each of the last four, newest first (R223). -/
  sumRun : Nat := 0
  suspects : List (List Nat) := []
  /-- Remote sense above local at the last boundary, and the correction added to samples, 1/16 mV (R229). -/
  senseRun : Nat := 0
  correct : Int := 0
  /-- Local caps of CONT while CRACK or REG_OVER stands, until the next window after they are cleared (R227, R228). -/
  regCap : Bool := false
  /-- The least of the map's, the host's and the local limits in force: a limit that is lifted waits for the window (R32). -/
  limIn : Option Int := none
  /-- Forecast F of the well, current encoding (R188). -/
  fcast : Int := 0
  /-- The average was above the region limit at the last boundary (R228); the protective rest cannot meet R217's conditions. -/
  regOver : Bool := false
  satur : Bool := false
  /-- The last unload was forced (R214). -/
  forced : Bool := false
  /-- Tie current into the well at the last boundary (R213). -/
  tieI : Int := 0
  /-- In guard: the logical wells that have not yet passed an ENVELOPE (R200). -/
  guard : List Nat := []
  /-- The logical wells the guard was charged to (R200); breaches logged in the running outer period: kind, logical well, segment (R198). -/
  guarded : List Nat := []
  logged : List (Nat × Nat × Nat) := []
  /-- Edges of the last pair of switching periods (R198 DIDT). -/
  lastPair : Option Int := none
  deriving DecidableEq, Repr

/-- In-field tests of a well beyond WL_TEST (R231-R236). -/
structure TestX where
  /-- The pump in a test step, and the kind: 0 none, 1 quiet, 2 shadow. -/
  pump : Nat := 0
  kind : Nat := 0
  /-- A TEST instruction runs the step; the pump of a TEST that waits for the schedule's step to end (R236). -/
  byTest : Bool := false
  queued : Option Nat := none
  /-- AGE in always-on ticks at the last reset of AGE_H; tick at which the test became due (R231). -/
  ageAt : Nat := 0
  dueAt : Option Nat := none
  overdue : Bool := false
  /-- The deferral has ended: a shadow step may run (R231). -/
  shadowOk : Bool := false
  /-- Sums of the shadow step's two halves, or of the alone period of a quiet-window step, and the boundaries of the step so far
  (R232, R233). -/
  half1 : Int := 0
  half2 : Int := 0
  steps : Nat := 0
  /-- Previous OFFSET of the tested pump, and what the step measured (R232, R235). -/
  prevOffset : Nat := 0
  offsetOk : Option Bool := none
  mismatch : Bool := false
  /-- A fault struck another pump of the well during the step (R235). -/
  struck : Bool := false
  /-- The well was in hysteretic mode before its quiet-window step, and stays there after it (R148, R232). -/
  stayHyst : Bool := false
  /-- A stream has declared a step inside its test window (R168). -/
  broken : Bool := false
  /-- LIVE pumps of the well beside the tested one when the step began (R235). -/
  sib : Nat := 0
  deriving DecidableEq, Repr

/-- Votes of a well beyond WL_VOTE (12_power_states.md). -/
structure VoteX where
  /-- When the well's last vote went, in ns (R310); nothing while it holds one, or has held none since the votes were cleared at reset. -/
  graceAt : Option Nat := none
  /-- A WAKE asks for priming on wake of the DRY well (R309, R312). -/
  wakeReq : Bool := false
  deriving DecidableEq, Repr

/-- The telemetry of a well in the running window, and its local and absolute remote senses in the running outer period
(R213, R246, R248, R253-R255, R280). -/
structure Tele where
  /-- Outer periods of the window, and those in which the well was wet. -/
  n : Nat := 0
  wet : Nat := 0
  sumI : Int := 0
  maxI : Option Int := none
  minI : Option Int := none
  /-- Sums of V x I (1/16 mV x 1/64 A) and of V over the wet periods. -/
  sumVI : Int := 0
  sumV : Int := 0
  /-- The energy below 1 uJ, in 1/(128 f) uJ with f in kHz, and that f (R255). -/
  carry : Int := 0
  carryF : Nat := 6000
  /-- Beats of the window, and the sum over them of declared dynamic current x V_SET; the same over beats that are not rest
  beats (R280). -/
  dN : Nat := 0
  dSum : Int := 0
  fN : Nat := 0
  fSum : Int := 0
  /-- Sum of input current x BUS over the window's periods (R29). -/
  inSum : Int := 0
  /-- Input current of the last outer periods, newest first, 1/64 A (R29). -/
  inHist : List Int := []
  /-- Voltage mode throughout the window so far, with the sums of the cross-check of R248 (codes; 1/16 mV). -/
  volt : Bool := false
  vsSum : Nat := 0
  vsN : Nat := 0
  impSum : Int := 0
  impN : Nat := 0
  /-- Local-sense codes of the running outer period and their last mean, 1/16 mV. -/
  vlSum : Nat := 0
  vlN : Nat := 0
  vlMean : Int := 0
  /-- Absolute remote codes of the running outer period, the mean of the last one if any fell there, and the latest code (R246). -/
  vsOSum : Nat := 0
  vsON : Nat := 0
  vsMean : Option Int := none
  vsLast : Nat := 0
  deriving DecidableEq, Repr

/-- A well beyond its registers. -/
structure WellX where
  mo : Motion := {}
  lp : Loop := {}
  sh : ShareX := {}
  te : TestX := {}
  vo : VoteX := {}
  tel : Tele := {}
  deriving DecidableEq, Repr

/-- A pump beyond its registers. -/
structure PumpX where
  /-- ns of the edge of the last fault that counts (R92). -/
  faultAt : Option Nat := none
  /-- ns of the fall of the fault wire now low; the PEN was high before it (R90, R93). -/
  lowAt : Option Nat := none
  counts : Bool := true
  /-- This fault is the second within 1 ms: lasting; the classification that makes it so is still to come (R92). -/
  lasting : Bool := false
  classify : Bool := false
  /-- Retire at the next outer boundary, with this REASON (R92, R222). -/
  retire : Nat := 0
  /-- The PWM is held low and the pump is out of sharing (R92). -/
  pwmHeld : Bool := false
  /-- Re-arm: 0 none, 1 scheduled, 2 PEN held low for 100 ns, 3 PEN high again and the wire watched (R92). -/
  rearm : Nat := 0
  /-- Some part of the present outer period saw the fault wire low or the PWM held (R86). -/
  faultPeriod : Bool := false
  /-- The wire alone was low for some part of it (R88). -/
  wirePeriod : Bool := false
  /-- Sixteenths of a full contribution that the well's capability counts: a rise waits for the window (R23, R32). -/
  capIn : Nat := 0
  /-- The duty that the DPWM applies to the pump, after its bounds; 0 for an on-time it skips (R83, R119). -/
  duty : Nat := 0
  /-- OFFSET is being measured, and it is part of the CAL stage (R87, R153). -/
  measuring : Bool := false
  /-- 256 times the edges of the last outer periods, newest first (R86). -/
  hist : List Nat := []
  /-- Estimated currents of a follower, newest first (R225). -/
  fHist : List Int := []
  /-- Boundary numbers at which the sense was implausible (R224). -/
  impl : List Nat := []
  /-- Boundaries at which the pump counted as open (R222). -/
  openRun : Nat := 0
  /-- The pump is a follower, also while its well is parked: only a retirement, an image acceptance or a passed test step after a return
  ends that (R230). -/
  follower : Bool := false
  /-- Ready to pulse in hysteretic mode, in a pulse (R144), and its on-time in this outer period, in ps (R29). -/
  ready : Bool := true
  pulse : Bool := false
  onPs : Nat := 0
  /-- ns at which the reset time of its last pulse has passed (R144). -/
  readyAt : Nat := 0
  /-- Temperature return: 1/8 degrees C, or broken (R89). -/
  temp : Int := 0
  tempBroken : Bool := false
  /-- Returned by R237 and waiting for its test step; it has passed, and its capability rises with the window (R32, R237). -/
  returned : Bool := false
  rises : Bool := false
  /-- Sharing trim before the test step and the open-loop trim applied in it (R233). -/
  inTest : Bool := false
  deriving DecidableEq, Repr

/-- A cluster beyond PH_CLPWR (R303, R306-R308). -/
structure ClusterX where
  /-- RUN and RETAIN vote of each of its 128 cores (R303). -/
  run : BitVec 128 := 0
  retain : BitVec 128 := 0
  /-- VP_GOFF and VP_GREQ (R306). -/
  goff : Bool := true
  greq : Bool := true
  /-- C_VOTE lifts at the next beat at which nothing else gates the cluster (R308, R309). -/
  lift : Bool := false
  /-- A WAKE lifted C_VOTE: the cluster must become wanted; the beat at which VP_GREQ fell (R308). -/
  waking : Bool := false
  graceBeat : Option Nat := none
  /-- A WAKE of this cluster waits for a sequencer to release a DRY well (R309). -/
  pend : Bool := false
  /-- Beat from which the cluster has not been wanted (R308). -/
  unwanted : Nat := 0
  deriving DecidableEq, Repr

/-- A frame of a cursor's stack (R178): a loop's first body entry and the passes left, or the entry after a branch. -/
inductive PFrame where
  | loop (body left : Nat)
  | branch (join : Nat)
  deriving DecidableEq, Repr

/-- A cursor of a stream: P or A of R184. -/
structure Cursor where
  pc : Nat := 0
  stk : List PFrame := []
  /-- Beats left of the HOLD or RAMP the cursor stands in; 0: it stands at an entry. -/
  left : Nat := 0
  /-- The RAMP in progress: current at its start and its end; the duration of a HOLD or RAMP. -/
  rampFrom : Int := 0
  rampTo : Int := 0
  dur : Nat := 0
  /-- Standing at a GATE or SYNC of this ID. -/
  gate : Option Nat := none
  ended : Bool := false
  /-- Forecast current and segment (ENVELOPE index) at the cursor. -/
  cur : Int := 0
  seg : Nat := 0
  /-- Rounds of each gate ID the cursor has passed. -/
  passed : List (Nat × Nat) := []
  deriving DecidableEq, Repr

/-- A STEP whose PUMPS stand above m: the program beat at which m lowers, the count, the step's program beat, and P has passed it (R187). -/
structure Raised where
  stop : Nat
  pumps : Nat
  beat : Nat
  reached : Bool := false
  deriving DecidableEq, Repr

/-- A STEP that A has passed and P has not: its program beat, change and TT, and the physical wells it was found too steep for (R188,
R204). -/
structure Declared where
  beat : Nat
  change : Int
  tt : Nat
  wells : List Nat
  deriving DecidableEq, Repr

/-- A stream of the slice in play: logical well 0-13 (R184-R188). -/
structure Stream where
  /-- DS_WELL.STATE: 0 none, 1 idle, 2 playing, 3 waiting at a gate, 4 ended, 5 stopped. -/
  st : Nat := 0
  p : Cursor := {}
  a : Cursor := {}
  /-- Program beat of P (R171) and of A; the wafer beat from which P may play its program beat; the gates with a known release that A has
  passed and P has not: program beat and release beat (R184). -/
  pb : Nat := 0
  ab : Nat := 0
  wall : Nat := 0
  ahead : List (Nat × Nat) := []
  /-- Alternatives A has taken and P has not yet come to (R184). -/
  choices : List Nat := []
  /-- Pump count of the last LEVEL at P or lowered STEP; 0: none requested yet (R187). -/
  m : Nat := 0
  /-- Raises of STEPs passed by A (R187); the STEPs themselves (R204). -/
  raises : List Raised := []
  declared : List Declared := []
  /-- Every pump in service until this program beat (R188). -/
  mAll : Nat := 0
  /-- Pre-bias offsets: end program beat, change of current (R186). -/
  offs : List (Nat × Int) := []
  /-- The test windows open at P: end program beat, IMAX (R178 QUIET). -/
  quiet : List (Nat × Int) := []
  /-- P has passed its first GATE or SYNC (R178); program beat of the last one passed; DRIFT logged since (R173). -/
  anchored : Bool := false
  lastGate : Nat := 0
  drifted : Bool := false
  deriving DecidableEq, Repr

/-- A gate ID of a tile (R195, R196). -/
structure GateX where
  par : Nat := 0
  c0 : Nat := 0
  c1 : Nat := 0
  /-- Parity of the last completed round. -/
  donePar : Option Nat := none
  /-- Release beats of the completed rounds, the first round first, and how many of them have been released. -/
  rel : List Nat := []
  released : Nat := 0
  /-- The round is complete on the tile, and the orders due have bound to that completion (R196, R296). -/
  full : Bool := false
  /-- Reported to the Wellhead in this round (R196); a FORCE stands (R197). -/
  reported : Bool := false
  forced : Bool := false
  /-- The latest FORCE came in the beat of completion and is recorded as LATE (R10, R204). -/
  late : Bool := false
  /-- DUP, EXTRA and TMO of the gate's register (R192, R203, R204). -/
  dup : Bool := false
  extra : Bool := false
  tmo : Bool := false
  deriving DecidableEq, Repr

/-- Branch rounds of a logical well's branch ID (R193, R194): highest ALT collected for each parity, the expected parity, the
parity last decided with the alternative played and NALT. -/
structure BranchX where
  r0 : Option Nat := none
  r1 : Option Nat := none
  expect : Nat := 0
  decided : Option Nat := none
  played : Nat := 0
  nalt : Nat := 0
  deriving DecidableEq, Repr

/-- The draw schedule of a tile beyond the DS_ registers (07_draw_schedule.md). -/
structure SliceX where
  startPend : Bool := false
  stopPend : Bool := false
  /-- The slice's 32-bit entries; an unlisted entry is zero. -/
  entries : List (Nat × Entry) := []
  /-- Streams by logical well, gates by ID, branch rounds by 256 L + ID. -/
  streams : List (Nat × Stream) := []
  gates : List (Nat × GateX) := []
  branches : List (Nat × BranchX) := []
  /-- The GATE or SYNC entry of each ID the bound slice holds, with 256 L + ID for the streams that hold it, and 256 L + ID of
  the BRANCH IDs (R183, R190). -/
  gateDecl : List (Nat × Entry) := []
  gateHolders : List Nat := []
  branchHolders : List Nat := []
  /-- Notice rings by core 128 k + i, oldest first: at most four, and a fifth whose post is stalled (R192). -/
  rings : List (Nat × List (BitVec 32)) := []
  /-- ID and parity of each core's last counted arrival (R195). -/
  lastArr : List (Nat × (Nat × Nat)) := []
  /-- Logical wells in a rest beat now: their clusters' rest-beat wires are asserted (R276). -/
  resting : List Nat := []
  /-- Pre-bias offsets of rest transitions by logical well: well, end wafer beat, change of current (R174, R277). -/
  restOffs : List (Nat × Nat × Int) := []
  /-- The beats within two beats of a rest transition by logical well: the first of them and the one after the last (R170, R174). -/
  restNear : List (Nat × (Nat × Nat)) := []
  /-- Breaches without a physical well that were logged last: kind, logical well, segment, outer period of the tile (R198). -/
  logged : List (Nat × Nat × Nat × Nat) := []
  /-- The ring whose turn is next at the collector, by core 128 k + i (R191). -/
  turn : Nat := 0
  /-- Clusters whose beat-sync wires the last release pulsed (R172, R196). -/
  pulsed : List Nat := []
  deriving DecidableEq, Repr

/-- The figures a Pumphouse reports to the aggregator for a window (R256, R280): window number, power in and out, the tile's
energies in mJ at the close, declared dynamic power at work and at full speed in 1/65536 of 1/16 W. -/
structure TeleReport where
  win : Nat
  pIn : Nat
  pOut : Nat
  eIn : Nat
  eOut : Nat
  dAct : Int
  dFull : Int
  deriving DecidableEq, Repr

/-- The telemetry of a tile beyond its registers. -/
structure TileTel where
  /-- Least BUS reading of the running window (R247). -/
  busMin : Option Nat := none
  /-- The energy below 1 mJ of PH_E_IN and PH_E_OUT: in 1/(8000 f) mJ with f in kHz and that f, and in uJ (R255). -/
  carryIn : Int := 0
  carryF : Nat := 6000
  carryOut : Nat := 0
  /-- The figures on their way to the aggregator, and those it holds for the coming snapshot (R256). -/
  report : Option TeleReport := none
  taken : Option TeleReport := none
  /-- The tile's energies as the wafer accumulators last counted them (R256). -/
  eIn : Nat := 0
  eOut : Nat := 0
  /-- The tile's 64 us average input stood above its limit at the last boundary (R29). -/
  overIn : Bool := false
  /-- The wafer beat at which the tile over-input fault last computed a tile rest (R286, R300). -/
  overAt : Nat := 0
  deriving DecidableEq, Repr

/-- One housekeeping converter (R243, R245, R249). -/
structure Conv where
  /-- The slot of the regular sequence that comes next. -/
  pos : Nat := 0
  /-- Calibration: 0 none, 1 REF_LO due, 2 REF_HI due; the raw code of REF_LO; the trim that applies from the next window. -/
  cal : Nat := 0
  lo : Nat := 0
  next : Option (Nat × Nat) := none
  deriving DecidableEq, Repr

/-- The housekeeping converters of a tile beyond the AD_ registers (R243-R252). -/
structure SarX where
  c0 : Conv := {}
  c1 : Conv := {}
  c2 : Conv := {}
  c3 : Conv := {}
  /-- The die sensor and the well that DIE_ROT and VS_ROT serve next; the slot from which VS_ROT serves the wells in CAL or WAIT_HEAD, 0 when
  there are none (R244, R246). -/
  dieRot : Nat := 0
  vsRot : Nat := 0
  headRot : Nat := 0
  /-- Sums of the running accumulations by channel (R251). -/
  acc : List (Nat × Nat) := []
  /-- The injected sequence that runs, with its next slot; the sequences that wait for converter 3 with the slot each goes on at, first
  one first (R249). -/
  inj : Option (Nat × Nat) := none
  injPend : List (Nat × Nat) := []
  /-- Runs of each injected sequence so far: the results' tag. -/
  tag0 : Nat := 0
  tag1 : Nat := 0
  /-- Sequences whose burst waits for its start; the sequence whose burst runs; ns at which the last burst started (R250). -/
  burstPend : List Nat := []
  burst : Option Nat := none
  burstAt : Option Nat := none
  deriving DecidableEq, Repr

/-- A thermal channel beyond TH_CH (R260-R265). -/
structure Chan where
  /-- Trimmed conversions of the last 25 us, newest first: ns and code; the latest code, and whether one was ever made (R260). -/
  codes : List (Nat × Nat) := []
  last : Nat := 0
  seen : Bool := false
  /-- A raw temperature was out of range or jumped since the last round; rounds of valid readings since (R261). -/
  bad : Bool := false
  /-- Readings of the last nine 25 us evaluations, newest first; the reading of the last round (R262). -/
  hist : List Int := []
  round : Option Int := none
  /-- On the hot list: none of R263's conditions has held since the last round. -/
  quiet : Bool := true
  deriving DecidableEq, Repr

/-- The thermal state of a tile beyond the TH_ registers (R260-R271). -/
structure ThermX where
  chans : List (Nat × Chan) := []
  hot : List Nat := []
  /-- ns and operating time of the start of the stop in progress or last made; PEN has fallen in the hard stop, and when in operating
  time (R267-R270). -/
  startNs : Nat := 0
  startAo : Word := 0
  dropped : Bool := false
  hardAo : Word := 0
  /-- Readings and SLOPE of all channels at the start, two channels a word (R270). -/
  record : List Word := []
  /-- ns since which every die channel has read below the resume level, none broken (R271). -/
  coolAt : Option Nat := none
  /-- A part of the latest stop's record has been dropped (R270, R358). -/
  partLost : Bool := false
  /-- HD_AO_TIME and wafer beat at which the stop's raise reached the collector (R350, R354). -/
  fired : Option (Word × Nat) := none
  deriving DecidableEq, Repr

/-- The control engines of a tile beyond the PH_ENG_ registers (R126-R135). -/
structure EngX where
  /-- A granted mode that takes effect at the next beat boundary; a mode change is not yet complete on every well (R134, R135);
  that change was made by a lasting fault (R129). -/
  grant : Option Nat := none
  target : Option Nat := none
  byFault : Bool := false
  /-- Self-tests that are due, on engine A and on engine B; those run since the fallback began (R128, R130, R147). -/
  dueA : Bool := true
  dueB : Bool := true
  ranA : Bool := false
  ranB : Bool := false
  /-- The self-tests due are those of chip reset or acceptance (R131), or of the fallback (R130). -/
  startTest : Bool := true
  /-- The Pumphouse has been DORMANT, and the keeper's engine has not yet passed a self-test since (R313). -/
  wakeTest : Bool := false
  deriving DecidableEq, Repr

/-- Safe priming of a tile (R75, R76): the step it primes or parks now, 0 for none; ns at which its parking began. -/
structure SafeX where
  step : Nat := 0
  parkAt : Option Nat := none
  deriving DecidableEq, Repr

/-- A tile beyond its registers. -/
structure TileX where
  safe : SafeX := {}
  /-- ns of the last admission to priming of each cistern (R154). -/
  admitAt : List (Nat × Nat) := []
  /-- The tile's schedule slice, its telemetry sums, its housekeeping converters, its thermal channels and its control engines. -/
  ds : SliceX := {}
  tt : TileTel := {}
  sar : SarX := {}
  th : ThermX := {}
  en : EngX := {}
  /-- ns at which a return was armed (R237). -/
  armAt : Option Nat := none
  /-- The phase loaded into the NCO, and the beat of that load (R81). -/
  nco : Nat := 0
  ncoBeat : Nat := 0
  /-- Clusters whose VP_GOFF rises at the next beat boundary, their last RUN having gone in an orderly stop (R306, R320). -/
  goffDue : List Nat := []
  /-- ns at which VP_TIE of a switch fell, while it still reports closed (R209). -/
  tieOff : List (Nat × Nat) := []
  /-- A bus fault stands (R96): 0 under, 1 over; the keeper waits to be primed (R78). -/
  busBad : Option Nat := none
  /-- Tile rest (R286). -/
  tr : Rest := {}
  /-- Host writes for units whose clocks have stopped: address and data, oldest first (R37). -/
  held : List (Nat × Word) := []
  deriving DecidableEq, Repr

/-- A relocation order (R295, R296). -/
structure Order where
  id : Nat
  tile : Nat
  logical : Nat
  src : Nat
  dst : Nat
  gate : Nat
  /-- PL_ORDER slot; STATUS as there: 0 SENT, 1 ACCEPTED, 2 BOUND. -/
  slot : Nat
  status : Nat := 0
  /-- Wafer beat of the ACCEPT. -/
  acceptAt : Nat := 0
  /-- The gate whose completion bound the order. -/
  boundGate : Nat := 0
  deriving DecidableEq, Repr

/-- The placement engine beyond its registers (R289-R298). -/
structure PlaceX where
  orders : List Order := []
  nextId : Nat := 0
  nextSlot : Nat := 0
  /-- Messages sent to the remap unit, oldest first (R295). -/
  sent : List Word := []
  /-- Physical wells with a CAPABILITY breach in the window now open, and in the one before, with the logical wells charged: 16 (16 t + w) + l
  (R291, R293). -/
  breached : List Nat := []
  breachedB : List Nat := []
  /-- Logical wells to spread, in the same form (R291, R293). -/
  spread : List Nat := []
  /-- Windows of the REG_OVER events of a well: 16 t + w and window number (R291). -/
  events : List (Nat × Nat) := []
  /-- Clusters lowered from RETIRE: SPARE at the next window boundary, 96 t + k (R292). -/
  unretired : List Nat := []
  deriving DecidableEq, Repr

/-- The cap governor beyond its registers (R278-R288). -/
structure GovX where
  /-- The duty agreed for the coming apply beat, and whether it has been committed (R287). -/
  agreed : Option Nat := none
  committed : Bool := false
  /-- Apply beat of the decision now under way; of the committed duty (R287). -/
  applyAt : Nat := 0
  nextAt : Nat := 0
  /-- Windows that held a hard stop or an image acceptance (R281). -/
  skipWins : List Nat := []
  /-- GATE_POLICY 1: the last decision found the hold on clusters without work needed (R283). -/
  hold : Bool := false
  /-- A share has arrived since the last decision (R279). -/
  renewed : Bool := false
  deriving DecidableEq, Repr

/-- The state of the block. `regs` holds every register as a 64-bit word keyed by its 24-bit word address; an address not
listed holds its reset value (R6, R394, R395). The tables of hidden state are keyed by tile t, well 16t + w, pump
4(16t + w) + p and cluster 96t + k (R4). -/
structure State where
  regs : RegTable := ⟨[], rfl⟩
  fuses : Fuses := {}
  clk : Clk := {}
  port : Port := {}
  sb : Sideband := {}
  tap : Tap := {}
  lc : Lc := {}
  fault : FaultX := {}
  intc : Intc := {}
  img : ImageCfg := {}
  load : LoadX := {}
  link : LinkX := {}
  rcd : Recorder := {}
  /-- The recorder's flash: word 32 s + i is word i of slot s; an unlisted word is erased (R348, R350). -/
  flash : List (Nat × Word) := []
  seqs : List (Nat × SeqX) := []
  wells : List (Nat × WellX) := []
  pumps : List (Nat × PumpX) := []
  clusters : List (Nat × ClusterX) := []
  tiles : List (Nat × TileX) := []
  plan : PlaceX := {}
  gov : GovX := {}
  /-- Capability events on their way to the Wellhead: the global well, and 4096 more for a region over-current (R33, R291). -/
  capEvents : List Nat := []
  /-- Counter of free values drawn so far (the model's own field, log entry 2). -/
  freeCtr : Nat := 0
  /-- Commands waiting, first in first out. -/
  pending : List Instr := []
  deriving DecidableEq, Repr

/-- The block right after reset: every field at its reset value, nothing waiting. -/
def State.reset : State := {}

end Sys2Proof.Machine
end

