-- ==== Sys2Proof/Machine/Ops.lean ====
section
/-! DEFINITION. The named operations every meaning is built from: reading and writing registers and their fields, the tables of hidden state, which units exist, raises, capability events and event interrupts. -/

namespace Sys2Proof.Machine

open Sys2Proof

/-! ### Registers -/

/-- The word a register holds (R36). -/
def State.reg (s : State) (a : Nat) : Word := s.regs.get a

/-- Store a whole word in a register. -/
def State.setReg (s : State) (a : Nat) (d : Word) : State := { s with regs := s.regs.put a d }

/-- A field's value. -/
def State.rd (s : State) (a : Nat) (f : Fld) : Nat := f.get (s.reg a)

/-- A signed field's value. -/
def State.rdi (s : State) (a : Nat) (f : Fld) : Int := f.geti (s.reg a)

/-- A one-bit field. -/
def State.flag (s : State) (a : Nat) (f : Fld) : Bool := s.rd a f == 1

/-- Set a field. -/
def State.wr (s : State) (a : Nat) (f : Fld) (v : Nat) : State := s.setReg a (f.set (s.reg a) v)

/-- Set a signed field. -/
def State.wri (s : State) (a : Nat) (f : Fld) (v : Int) : State := s.setReg a (f.seti (s.reg a) v)

/-- Set a one-bit field. -/
def State.wrb (s : State) (a : Nat) (f : Fld) (b : Bool) : State := s.wr a f (b2n b)

/-- Do something only where a condition holds. -/
def State.on (s : State) (c : Bool) (f : State → State) : State := if c then f s else s

/-- Do something for each element of a list, in order. -/
def State.each {α : Type} (s : State) (l : List α) (f : State → α → State) : State := l.foldl f s

/-! ### Hidden state by unit -/

def State.well (s : State) (t w : Nat) : WellX := tget (fun _ => {}) s.wells (16 * t + w)
def State.setWell (s : State) (t w : Nat) (x : WellX) : State := { s with wells := tset (fun _ => {}) s.wells (16 * t + w) x }
def State.pump (s : State) (t w p : Nat) : PumpX := tget (fun _ => {}) s.pumps (4 * (16 * t + w) + p)
def State.setPump (s : State) (t w p : Nat) (x : PumpX) : State :=
  { s with pumps := tset (fun _ => {}) s.pumps (4 * (16 * t + w) + p) x }
def State.cluster (s : State) (t k : Nat) : ClusterX := tget (fun _ => {}) s.clusters (96 * t + k)
def State.setCluster (s : State) (t k : Nat) (x : ClusterX) : State :=
  { s with clusters := tset (fun _ => {}) s.clusters (96 * t + k) x }
def State.tile (s : State) (t : Nat) : TileX := tget (fun _ => {}) s.tiles t
def State.setTile (s : State) (t : Nat) (x : TileX) : State := { s with tiles := tset (fun _ => {}) s.tiles t x }
def State.sq (s : State) (n : Nat) : SeqX := tget (fun _ => {}) s.seqs n
def State.setSq (s : State) (n : Nat) (x : SeqX) : State := { s with seqs := tset (fun _ => {}) s.seqs n x }

/-- Parts of a well's hidden state. -/
def State.mo (s : State) (t w : Nat) : Motion := (s.well t w).mo
def State.lp (s : State) (t w : Nat) : Loop := (s.well t w).lp
def State.sh (s : State) (t w : Nat) : ShareX := (s.well t w).sh
def State.te (s : State) (t w : Nat) : TestX := (s.well t w).te

/-! ### Which units exist (R4, R14, R15, R18, R62) -/

/-- TILES, ROWS and COLS of HD_TOPO (R17). -/
def State.tileCount (s : State) : Nat := s.rd HD_TOPO HD_TOPO.TILES

/-- The WELL record payload of a slot before an image, from HD_SAFE: CORE_PUMPS or SRAM_PUMPS pumps, N = pumps - 1, the reference
inductance and derate (R17, R62, R74, R149). -/
def topoRef (safe : Word) (w : Nat) : Word :=
  let p := if w < 12 then HD_SAFE.CORE_PUMPS.get safe else HD_SAFE.SRAM_PUMPS.get safe
  if w < 12 then BitVec.ofNat 64 (p * 2 ^ 56 + (p - 1) * 2 ^ 52) ||| 0x0000320400000000
  else if w < 14 then BitVec.ofNat 64 (p * 2 ^ 56 + (p - 1) * 2 ^ 52) ||| 0x1000320400000000
  else 0x2210DC0400000000

/-- The reference TILE and CISTERN record payloads (R62). -/
def tileRef : Word := 0x190017700F2F4F5F
def cistRef : Word := 0x32000F00F0000000

/-- WELL record payload in force (R62). -/
def State.topoWord (s : State) (t w : Nat) : Word := tget (fun g => topoRef s.fuses.safe (g % 16)) s.img.topo (16 * t + w)
def TopoWell.KIND : Fld := ⟨63, 60⟩
def TopoWell.PUMPS : Fld := ⟨59, 56⟩
def TopoWell.RATED : Fld := ⟨55, 52⟩
def TopoWell.LP : Fld := ⟨47, 40⟩
def TopoWell.DERATE : Fld := ⟨35, 32⟩
def State.tileWord (s : State) (t : Nat) : Word := tget (fun _ => tileRef) s.img.tile t
def TopoTile.INLIM : Fld := ⟨63, 48⟩
def TopoTile.KHZ : Fld := ⟨47, 32⟩
def State.cistWord (s : State) (t c : Nat) : Word := tget (fun _ => cistRef) s.img.cist (3 * t + c)
def TopoCist.LIMIT : Fld := ⟨63, 48⟩
def TopoCist.INRUSH : Fld := ⟨47, 32⟩
def TopoCist.TIES : Fld := ⟨31, 28⟩

/-- Kind of a slot: 0 core, 1 SRAM, 2 keeper, 3 absent (R18, R62). -/
def State.wellKind (s : State) (t w : Nat) : Nat := TopoWell.KIND.get (s.topoWord t w)
/-- Installed pumps of a well, in at most its four slots (R15). -/
def State.installed (s : State) (t w : Nat) : Nat := min 4 (TopoWell.PUMPS.get (s.topoWord t w))
/-- N of the rating (R25). -/
def State.ratedN (s : State) (t w : Nat) : Nat := TopoWell.RATED.get (s.topoWord t w)
/-- Inductance of a pump in nH (R24). -/
def State.lpNh (s : State) (t w : Nat) : Nat := TopoWell.LP.get (s.topoWord t w)

/-- A configured tile. -/
def State.tileOk (s : State) (t : Nat) : Bool := decide (t < s.tileCount)
/-- A well slot of a configured tile that holds a well. -/
def State.wellOk (s : State) (t w : Nat) : Bool := s.tileOk t && decide (w < 15) && (s.wellKind t w != 3)
/-- A well that commands of motion, priming and schedules may act on: slots 0 to 13 (R19). -/
def State.voltedOk (s : State) (t w : Nat) : Bool := s.wellOk t w && decide (w < 14)
/-- An installed pump slot (R15). -/
def State.pumpOk (s : State) (t w p : Nat) : Bool := s.wellOk t w && decide (p < s.installed t w)
/-- A cluster of a configured tile. -/
def State.clusterOk (s : State) (t k : Nat) : Bool := s.tileOk t && decide (k < 96)

/-- The installed pumps of a well. -/
def State.pumpsOf (s : State) (t w : Nat) : List Nat := List.range (s.installed t w)
/-- Core well of a cluster (R5). -/
def coreWell (k : Nat) : Nat := k / 8
/-- SRAM well that feeds a cluster (01_hierarchy.md: w 12 feeds 0-47, w 13 feeds 48-95). -/
def sramWell (k : Nat) : Nat := if k < 48 then 12 else 13
/-- Clusters a well feeds (R5, well-kind table). -/
def fedClusters (w : Nat) : List Nat :=
  if w < 12 then (List.range 8).map (8 * w + ·)
  else if w = 12 then List.range 48
  else if w = 13 then (List.range 48).map (48 + ·)
  else []

/-! ### Well stages and pump service (R23, R25, WL_SETPT.STAGE) -/

abbrev stDry := 0
abbrev stCal := 1
abbrev stWait := 2
abbrev stPriming := 3
abbrev stHyst := 4
abbrev stVolt := 5
abbrev stPark := 6

def State.stage (s : State) (t w : Nat) : Nat := s.rd (WL_SETPT t w) WL_SETPT.STAGE
def State.setStage (s : State) (t w v : Nat) : State := s.wr (WL_SETPT t w) WL_SETPT.STAGE v

/-- Service state of a pump: 0 OFF, 1 LIVE, 2 FOLLOW, 3 RETIRED (R23). -/
def State.service (s : State) (t w p : Nat) : Nat := s.rd (PM_STAT t w p) PM_STAT.SERVICE
def State.setService (s : State) (t w p v : Nat) : State := s.wr (PM_STAT t w p) PM_STAT.SERVICE v
/-- In service: LIVE or FOLLOW (R25). -/
def State.inService (s : State) (t w p : Nat) : Bool := s.service t w p == 1 || s.service t w p == 2
def State.servicePumps (s : State) (t w : Nat) : List Nat := (s.pumpsOf t w).filter (fun p => s.inService t w p)
/-- Pumps that are not RETIRED. -/
def State.usablePumps (s : State) (t w : Nat) : List Nat := (s.pumpsOf t w).filter (fun p => s.service t w p != 3)
/-- A well is wet while at least one pump is in service (R25). -/
def State.wet (s : State) (t w : Nat) : Bool := !(s.servicePumps t w).isEmpty

/-- An image is ACTIVE (R55). -/
def State.imgState (s : State) : Nat := s.rd HD_IMG_STAT HD_IMG_STAT.STATE
def State.active (s : State) : Bool := s.imgState == 4

/-! ### Waking the Wellhead (R315, R318) -/

/-- The wake sources that are armed now: HOST and IRQ always, the others by HD_WAKE_EN (R318). -/
def State.armed (s : State) : Nat := (s.reg HD_WAKE_EN).toNat % 32 ||| 0x11

/-- Work restarts the fast clock of a Wellhead in NAP (R315). -/
def State.restart (s : State) : State := if s.clk.fast = .nap then { s with clk := { s.clk with fast := .restarting } } else s

/-- Something the Wellhead must act on: one in NAP restarts, whatever HD_WAKE_EN holds (R44, R315). A sleeping one restarts and reports
WOKEN, and a request not yet entered is ABANDONED, only by an armed source (R318). -/
def State.wake (s : State) (srcs : Nat) : State :=
  let m := srcs &&& s.armed
  if s.clk.fast = .nap && !s.clk.sleepReq then (if srcs = 0 then s else s.restart)
  else if m = 0 then s
  else if s.clk.fast = .sleep then
    { (s.wr HD_PWR_STAT HD_PWR_STAT.RESULT 1).wr HD_PWR_STAT HD_PWR_STAT.LAST_WAKE m with
      clk := { s.clk with fast := .restarting, sleepReq := false } }
  else if s.clk.sleepReq then
    { (s.wr HD_PWR_STAT HD_PWR_STAT.RESULT 3).wr HD_PWR_STAT HD_PWR_STAT.LAST_WAKE m with
      clk := { s.clk with sleepReq := false } }
  else s

/-! ### The interrupt controller's pending side (R338, R339, R354) -/

def State.activeOn (s : State) (n : Nat) : Option Nat := (s.intc.active.find? (fun e => e.1 = n)).map (·.2)

/-- Fault sources 5-31 take their image's reaction only while an image is ACTIVE (R328). -/
def State.plain (s : State) (n : Nat) : Bool := decide (5 ≤ n) && decide (n ≤ 31) && !s.active

/-- PRIO, TARGETS and THRESH as R339 compares them; priority 8 and target 0 for a fault source while no image is ACTIVE (R328). -/
def State.prio (s : State) (n : Nat) : Nat := if s.plain n then 8 else s.rd (IC_SRC n) IC_SRC.PRIO
def State.targets (s : State) (n : Nat) : Nat := if s.plain n then 1 else s.rd (IC_SRC n) IC_SRC.TARGETS
def State.thresh (s : State) (t : Nat) : Nat := s.rd (IC_TGT t) IC_TGT.THRESH
def State.tgtEn (s : State) (t : Nat) : Bool := s.flag (IC_TGT t) IC_TGT.EN

/-- A target's level: the larger of its THRESH and the highest PRIO among the sources it holds active (R339). -/
def State.tgtLevel (s : State) (t : Nat) : Nat :=
  (s.intc.active.filter (fun e => e.2 = t)).foldl (fun m e => max m (s.prio e.1)) (s.thresh t)

/-- The first of a list with the least value of `f`. -/
def argmin (f : Nat → Nat) : List Nat → Option Nat
  | [] => none
  | a :: r => match argmin f r with
    | none => some a
    | some b => if f b < f a then some b else some a

/-- The target a source is steered to as it becomes pending (R339). -/
def State.steer (s : State) (n : Nat) : Nat :=
  let mask := s.targets n
  let inMask := (List.range 8).filter (fun t => bit mask t)
  let fit := inMask.filter (fun t => s.tgtEn t && decide (s.thresh t < s.prio n))
  match argmin s.tgtLevel fit with
  | some t => t
  | none => inMask.headD 0

/-- A source is eligible: pending, not active, above its target's THRESH, and the target enabled (R338); never one that became pending with an
empty mask, since TARGETS written later applies at the next pend (R339, R344). -/
def State.eligible (s : State) (n : Nat) : Bool :=
  let t := s.rd (IC_SRC n) IC_SRC.STEER
  s.flag (IC_SRC n) IC_SRC.PEND && !s.flag (IC_SRC n) IC_SRC.ACTIVE &&
    !s.intc.unsteered.contains n && decide (s.thresh t < s.prio n) && s.tgtEn t

/-- VP_IRQ of a target (R340). -/
def State.irqLine (s : State) (t : Nat) : Bool :=
  (List.range 512).any (fun n => s.eligible n && (s.rd (IC_SRC n) IC_SRC.STEER == t))

/-- A source's pending bit is set and the source is steered; merged with OVR where it pends already (R338, R339). -/
def State.pendOnly (s : State) (n : Nat) : State :=
  if s.flag (IC_SRC n) IC_SRC.PEND then s.wr (IC_SRC n) IC_SRC.OVR 1
  else
    let s1 := (s.wr (IC_SRC n) IC_SRC.STEER (s.steer n)).wr (IC_SRC n) IC_SRC.PEND 1
    let l := s.intc.unsteered.filter (· ≠ n)
    ({ s1 with intc := { s1.intc with unsteered := if s.targets n = 0 then l ++ [n] else l } } : State).wake 0x10

/-- A trigger is inside its hold-off (R354). -/
def State.inHoldOff (s : State) (n : Nat) (tr : Trigger) : Bool :=
  match (s.rcd.lastFire.find? (fun e => e.1 = n)).map (·.2) with
  | none => false
  | some then_ => decide (tr.holdoffMs ≠ 0) && decide (s.clk.ns ≤ then_ + tr.holdoffMs * 1000000)

/-- A trigger calls for its snapshot (R354). -/
def State.callSnap (s : State) (n : Nat) (tr : Trigger) (raiseWord : Word) : State :=
  let sn : Snap := { trig := n, list := tr.list, keep := tr.keep, ao := s.reg HD_AO_TIME, beat := s.clk.beat, raise := raiseWord }
  { s with rcd := { s.rcd with
    lastFire := (n, s.clk.ns) :: s.rcd.lastFire.filter (fun e => e.1 ≠ n)
    snaps := s.rcd.snaps ++ [sn] } }

/-- The trigger of a source, where the image gives it one (R354). -/
def State.triggerOf (s : State) (n : Nat) : Option Trigger := (s.rcd.triggers.find? (fun e => e.1 = n)).map (·.2)

/-- The trigger of COUNTER_SAT fires as LOST itself sticks: held off, LOST has no count left for it (R12, R354). -/
def State.fireSat (s : State) : State :=
  match s.triggerOf 148 with
  | none => s
  | some tr => if s.inHoldOff 148 tr then s else s.callSnap 148 tr 0

/-- A firing inside the hold-off is counted in ER_STAT.LOST (R354, R12). -/
def State.heldOff (s : State) : State :=
  let c := s.rd ER_STAT ER_STAT.LOST
  if c = 0xFFFFFFFF then s
  else
    let s1 := s.wr ER_STAT ER_STAT.LOST (c + 1)
    if c + 1 = 0xFFFFFFFF then
      let s2 := s1.wr ER_STAT ER_STAT.SAT 1
      if s2.prio 148 = 0 then s2
      else ((s2.wr IC_SAT_ADDR IC_SAT_ADDR.ADDR ER_STAT).pendOnly 148).on (!s2.flag (IC_SRC 148) IC_SRC.PEND) State.fireSat
    else s1

/-- A trigger fires: outside its hold-off a snapshot is called for, or counted lost inside it (R354). -/
def State.fireTrigger (s : State) (n : Nat) (opens : Bool) (raiseWord : Word) : State :=
  match s.triggerOf n with
  | none => s
  | some tr =>
    if tr.firstOnly && !opens then s
    else if s.inHoldOff n tr then s.heldOff
    else s.callSnap n tr raiseWord

/-- A source becomes pending by an edge, a fault interrupt or IC_SETPEND (R338); an event source then fires its trigger (R354). -/
def State.pend (s : State) (n : Nat) : State :=
  if n = 0 ∨ 511 < n ∨ listedSource n = false then s
  else
    let fresh := !s.flag (IC_SRC n) IC_SRC.PEND
    (s.pendOnly n).on (fresh && decide (128 ≤ n)) (·.fireTrigger n true 0)

/-- A LEVEL event source's level asserts: pending unless active or pending already (R338). -/
def State.pendLevel (s : State) (n : Nat) : State :=
  if s.flag (IC_SRC n) IC_SRC.ACTIVE || s.flag (IC_SRC n) IC_SRC.PEND then s else s.pend n

/-! ### Event counters (R12, R13, R396) -/

/-- COUNT [63:32] and SAT [31] of a counter register. -/
def ctrCount : Fld := ⟨63, 32⟩
def ctrSat : Fld := ⟨31, 31⟩

/-- A counter sticks: SAT is set, and the counter event is raised while its event enable is set (R12, event source 148). -/
def State.stuck (s : State) (a : Nat) : State :=
  if s.prio 148 = 0 then s else (s.wr IC_SAT_ADDR ⟨23, 0⟩ a).pend 148

/-- An event counter counts one (R12). -/
def State.bump (s : State) (a : Nat) : State :=
  let c := s.rd a ctrCount
  if c = 0xFFFFFFFF then s
  else
    let s1 := s.wr a ctrCount (c + 1)
    if c + 1 = 0xFFFFFFFF then (s1.wr a ctrSat 1).stuck a else s1

/-- A 32-bit counter in another field, without a SAT flag of its own, counts one (R12). -/
def State.bumpFld (s : State) (a : Nat) (f : Fld) : State :=
  let c := s.rd a f
  if c = 0xFFFFFFFF then s
  else
    let s1 := s.wr a f (c + 1)
    if c + 1 = 0xFFFFFFFF then s1.stuck a else s1

/-! ### Raises and capability events (R33, R324) -/

/-- A raise found in a Pumphouse: it goes to the collector (R324). -/
def State.raisePh (s : State) (r : Raise) : State := { s with fault := { s.fault with inflight := s.fault.inflight ++ [r] } }

/-- A raise found in the Wellhead: collected in this cycle (R324). -/
def State.raiseW (s : State) (r : Raise) : State := { s with fault := { s.fault with now := s.fault.now ++ [r] } }

/-- Is a LEVEL source held at this place? (R324) -/
def State.isHeld (s : State) (r : Raise) : Bool := s.fault.held.contains r

/-- A LEVEL condition begins at a place: held, and raised unless it was held already (R324). -/
def State.holdPh (s : State) (r : Raise) : State :=
  if s.isHeld r then s else { s with fault := { s.fault with held := s.fault.held ++ [r] } }.raisePh r

def State.holdW (s : State) (r : Raise) : State :=
  if s.isHeld r then s else { s with fault := { s.fault with held := s.fault.held ++ [r] } }.raiseW r

/-- A LEVEL condition ends at a place (R324). -/
def State.unhold (s : State) (r : Raise) : State := { s with fault := { s.fault with held := s.fault.held.filter (· ≠ r) } }

/-- A capability event is posted to the Wellhead (R33). -/
def State.capEvent (s : State) (t w : Nat) : State := { s with capEvents := s.capEvents ++ [16 * t + w] }

/-- The same for a region over-current, which R291 counts (R228). -/
def State.capEventReg (s : State) (t w : Nat) : State := { s with capEvents := s.capEvents ++ [4096 + 16 * t + w] }

/-- A free value's number is drawn: values the spec leaves open are `Config` constants applied to it (log entry 2). -/
def State.draw (s : State) : State := { s with freeCtr := s.freeCtr + 1 }

end Sys2Proof.Machine
end

