-- ==== Sys2Proof/Machine/Wells.lean ====
section
/-! DEFINITION. What every chapter does to pumps, wells, ties and cluster gates: enabling and disabling pumps, gate causes and hold wires, opening ties, a well going DRY, the start of priming and of a park. -/

namespace Sys2Proof.Machine

open Sys2Proof

/-! ### Updating hidden state in place -/

def State.updMo (s : State) (t w : Nat) (f : Motion → Motion) : State := s.setWell t w { s.well t w with mo := f (s.well t w).mo }
def State.updLp (s : State) (t w : Nat) (f : Loop → Loop) : State := s.setWell t w { s.well t w with lp := f (s.well t w).lp }
def State.updSh (s : State) (t w : Nat) (f : ShareX → ShareX) : State := s.setWell t w { s.well t w with sh := f (s.well t w).sh }
def State.updTe (s : State) (t w : Nat) (f : TestX → TestX) : State := s.setWell t w { s.well t w with te := f (s.well t w).te }
def State.updVo (s : State) (t w : Nat) (f : VoteX → VoteX) : State := s.setWell t w { s.well t w with vo := f (s.well t w).vo }
def State.updPump (s : State) (t w p : Nat) (f : PumpX → PumpX) : State := s.setPump t w p (f (s.pump t w p))
def State.updCl (s : State) (t k : Nat) (f : ClusterX → ClusterX) : State := s.setCluster t k (f (s.cluster t k))
def State.updTile (s : State) (t : Nat) (f : TileX → TileX) : State := s.setTile t (f (s.tile t))
def State.updSq (s : State) (n : Nat) (f : SeqX → SeqX) : State := s.setSq n (f (s.sq n))

/-! ### Cluster gate controls and hold wires (R306, R307, R120) -/

/-- Any cause of R307 stands on the cluster. -/
def State.anyCause (s : State) (t k : Nat) : Bool := s.rd (PH_CLPWR t k) ⟨30, 26⟩ != 0

/-- A gate cause begins: both wires rise in one cycle (R306, R307). -/
def State.gateOn (s : State) (t k : Nat) (cause : Fld) : State :=
  (((s.wr (PH_CLPWR t k) cause 1).wr (PH_CLPWR t k) PH_CLPWR.GATED 1).wr (PH_CLPWR t k) PH_CLPWR.GREQ_ONLY 0).updCl t k
    (fun c => { c with goff := true, greq := true })

/-- The orderly stop asserts VP_GREQ alone where cores still vote RUN (R268, R306). -/
def State.gateReq (s : State) (t k : Nat) : State :=
  let goff := (s.cluster t k).goff || (s.rd (PH_CLPWR t k) PH_CLPWR.RUN == 0)
  (((s.wr (PH_CLPWR t k) PH_CLPWR.C_THERM 1).wr (PH_CLPWR t k) PH_CLPWR.GATED 1).wrb (PH_CLPWR t k) PH_CLPWR.GREQ_ONLY (!goff)).updCl t k
    (fun c => { c with goff := goff, greq := true })

/-- A gate cause ends; the wires fall at the beat boundary of GATE_CONTROL_RELEASE (R307). -/
def State.gateOff (s : State) (t k : Nat) (cause : Fld) : State := s.wr (PH_CLPWR t k) cause 0

/-- The hold wire of a cluster: with C_DRY, with a CLGT hold, in a hard stop or STOPPED tile, and while the hold comparator
of a feeding well asserts it (R120, R153, R160, R269, R307). -/
def State.holdWire (s : State) (t k : Nat) : Bool :=
  s.flag (PH_CLPWR t k) PH_CLPWR.C_DRY || s.flag (PH_CLPWR t k) PH_CLPWR.C_SEQ ||
    decide (2 ≤ s.rd (TH_STAT t) TH_STAT.STOP) || s.flag (WL_HOLD t (coreWell k)) WL_HOLD.HOLD ||
    s.flag (WL_HOLD t (sramWell k)) WL_HOLD.HOLD

/-! ### Pumps -/

/-- PEN falls on one pump: it leaves service unless RETIRED, and a pending re-arm is cancelled (R78, R93). -/
def State.penLow (s : State) (t w p : Nat) : State :=
  let s1 := (s.wr (PM_LINK t w p) PM_LINK.PEN 0).wr (PM_STAT t w p) PM_STAT.REARM_PEND 0
  let s2 := if s1.inService t w p then s1.setService t w p 0 else s1
  s2.updPump t w p (fun q => { q with pwmHeld := false, rearm := 0, ready := true, pulse := false, duty := 0, inTest := false, rises := false })

/-- PEN falls on a pump that is to be retired at the next outer boundary and keeps its service state until then (R265). -/
def State.penCut (s : State) (t w p : Nat) : State :=
  ((s.wr (PM_LINK t w p) PM_LINK.PEN 0).wr (PM_STAT t w p) PM_STAT.REARM_PEND 0).updPump t w p (fun q => { q with
    pwmHeld := true, rearm := 0, pulse := false, duty := 0 })

/-- PEN rises on a pump: an OFFSET measurement in progress is abandoned (R87). -/
def State.penRise (s : State) (t w p : Nat) : State :=
  (s.wr (PM_LINK t w p) PM_LINK.PEN 1).updPump t w p (fun q => { q with measuring := false })

/-- PEN rises on one pump that is not RETIRED: it is in service, in the conduction mode given, a follower as one (R23, R79, R153, R230). -/
def State.penHigh (s : State) (t w p : Nat) (de : Bool) : State :=
  if s.service t w p = 3 then s
  else ((s.penRise t w p).wrb (PM_LINK t w p) PM_LINK.PMD de).setService t w p (if (s.pump t w p).follower then 2 else 1)

/-- The conduction mode of every pump of a well (R79). -/
def State.setPmd (s : State) (t w : Nat) (de : Bool) : State :=
  s.each (s.pumpsOf t w) (fun u p => u.wrb (PM_LINK t w p) PM_LINK.PMD de)

/-! ### Sequencers waiting on a well (R161) -/

/-- A well completes or fails in the waiting instruction of opcode `op` that names it (R161). -/
def State.report (s : State) (t w op : Nat) (ok : Bool) : State :=
  s.each (List.range 8) (fun u n =>
    let q := u.sq n
    if u.rd (SQ_STAT n) SQ_STAT.STATE = 2 ∧ q.op = op then
      u.setSq n { q with wells := q.wells.map (fun e => if e.1 = 16 * t + w ∧ e.2 = 0 then (e.1, if ok then 1 else 2) else e) }
    else u)

/-! ### Ties (R209, R214, R216) -/

/-- The two wells of tie switch n = 4c + j (R28 TIES). -/
def tieWells (n : Nat) : Nat × Nat := (4 * (n / 4) + n % 4, 4 * (n / 4) + (n % 4 + 1) % 4)
/-- The switches at a core well: to its next neighbour and from its previous one. -/
def wellTies (w : Nat) : List Nat := [4 * (w / 4) + w % 4, 4 * (w / 4) + (w % 4 + 3) % 4]
/-- The other well of a switch. -/
def tieOther (n w : Nat) : Nat := if (tieWells n).1 = w then (tieWells n).2 else (tieWells n).1

/-- VP_TIE[n] is driven (R209). -/
def State.tieOn (s : State) (t n : Nat) : Bool := bit (s.rd (PH_TIE t) PH_TIE.ON) n

/-- One well of a broken tie returns to itself, or to the tie it moves to; where the switch it was moving to opens, the move is over and the
old tie stands (R214, R215). -/
def State.untie (s : State) (t w n : Nat) : State :=
  let x := (s.well t w).sh
  if x.newTie = some n then (s.wr (WL_TIE t w) WL_TIE.ROLE 1).updSh t w (fun x => { x with newTie := none })
  else if x.tie = some n ∨ s.rd (WL_TIE t w) WL_TIE.PARTNER = tieOther n w then
    match x.newTie with
    | some m =>
      ((((s.wr (WL_TIE t w) WL_TIE.PARTNER (tieOther m w)).wr (WL_TIE t w) WL_TIE.ROLE 1).wr (WL_TIE t w) WL_TIE.PHASE 2)).updSh t w
        (fun x => { x with tie := some m, newTie := none, quietUnload := false, overRun := 0, lowRun := 0, unloadN := 0, tieHist := [] })
    | none =>
      (((((s.wr (WL_TIE t w) WL_TIE.PARTNER 0xF).wr (WL_TIE t w) WL_TIE.ROLE 0).wr (WL_TIE t w) WL_TIE.PHASE 0).wr
        (WL_TIE t w) WL_TIE.COVER 0).wr (WL_TIE t w) WL_TIE.TIE_I 0).updSh t w
        (fun x => { x with tie := none, quietUnload := false, overRun := 0, lowRun := 0, unloadN := 0, tieHist := [] })
  else s

/-- VP_TIE[n] falls: the switch is to open within 500 ns, and the group splits (R209, R214). -/
def State.openTie (s : State) (t n : Nat) : State :=
  let a := (tieWells n).1
  let b := (tieWells n).2
  let s1 := (s.wr (PH_TIE t) PH_TIE.ON (setBit (s.rd (PH_TIE t) PH_TIE.ON) n false)).updTile t (fun x => { x with
    tieOff := if bit (s.rd (PH_TIE t) PH_TIE.ACK) n then (n, s.clk.ns) :: x.tieOff.filter (fun e => e.1 ≠ n) else x.tieOff })
  let s2 := s1.wr (PH_CIST t (n / 4)) PH_CIST.TIES (setBit (s1.rd (PH_CIST t (n / 4)) PH_CIST.TIES) (n % 4) false)
  (s2.untie t a n).untie t b n

/-- Every closed or closing tie of a core well opens at once (R216). -/
def State.openTies (s : State) (t w : Nat) : State :=
  if w < 12 then s.each (wellTies w) (fun u n => if u.tieOn t n then u.openTie t n else u) else s

/-- Unloading of a tie starts: both wells read UNLOADING (R214); it is not, or no longer, for a quiet window alone (R219). -/
def State.startUnload (s : State) (t n : Nat) : State :=
  [(tieWells n).1, (tieWells n).2].foldl (fun u w =>
    if u.rd (WL_TIE t w) WL_TIE.PARTNER = tieOther n w then
      if u.rd (WL_TIE t w) WL_TIE.PHASE = 3 then u.updSh t w (fun x => { x with quietUnload := false })
      else (u.wr (WL_TIE t w) WL_TIE.PHASE 3).updSh t w (fun x => { x with quietUnload := false, lowRun := 0, unloadN := 0 })
    else u) s

/-- PEN falls on every pump of a well, whose ties open in the same cycle; the well is DRY at the next outer boundary (R157, R216, R269). -/
def State.dropWell (s : State) (t w : Nat) : State :=
  ((s.each (s.pumpsOf t w) (fun u p => u.penLow t w p)).openTies t w).updMo t w (fun m => { m with dropPend := s.stage t w != stDry })

/-- A core well is in a tied group (WL_TIE.PARTNER names its partner). -/
def State.tied (s : State) (t w : Nat) : Bool := decide (w < 12) && (s.rd (WL_TIE t w) WL_TIE.PARTNER != 0xF)

/-- The ties of a well in a group begin to unload (R216). -/
def State.unloadTies (s : State) (t w : Nat) : State :=
  s.each (wellTies w) (fun u n => if u.tieOn t n then u.startUnload t n else u)

/-! ### Votes that power takes away (R305) -/

/-- The number of ones of a core bitmap. -/
def popcount (v : BitVec 128) : Nat := (List.range 128).foldl (fun n i => n + b2n (v.getLsbD i)) 0

/-- The RUN and RETAIN bits of a cluster are replaced; PH_CLPWR counts them (R303). -/
def State.setVotes (s : State) (t k : Nat) (run retain : BitVec 128) : State :=
  ((s.updCl t k (fun c => { c with run := run, retain := retain })).wr (PH_CLPWR t k) PH_CLPWR.RUN (popcount run)).wr
    (PH_CLPWR t k) PH_CLPWR.RETAIN (popcount retain)

/-- State of a physical cluster in the Region Capability Map (R289). -/
def State.mapState (s : State) (t k : Nat) : Nat := s.rd (PL_MAP (96 * t + k)) PL_MAP.STATE

/-- A well of class EVACUATE holds no working cluster any more (R297). -/
def State.emptied (s : State) (t w : Nat) : Bool :=
  (s.rd (PL_WELL (16 * t + w)) PL_WELL.CLASS == 3) && (fedClusters w).all (fun k => s.mapState t k != 0 && s.mapState t k != 4 && s.mapState t k != 5)

/-! ### Wanted clusters, wells that hold a vote, and what a change of votes does (R303, R304, R308, R310) -/

/-- The host's vote on a cluster (PH_HOST_CL, R304). -/
def State.hostCl (s : State) (t k : Nat) : Bool :=
  if k < 64 then bit (s.rd (PH_HOST_CL0 t) PH_HOST_CL0.CL_LO) k else bit (s.rd (PH_HOST_CL1 t) PH_HOST_CL1.CL_HI) (k - 64)

/-- A cluster is wanted (R304). -/
def State.wanted (s : State) (t k : Nat) : Bool := s.rd (PH_CLPWR t k) PH_CLPWR.RUN != 0 || s.hostCl t k

/-- The host's vote on a well (PH_HOST_HOLD, R304). -/
def State.hostHold (s : State) (t w : Nat) : Bool := bit (s.rd (PH_HOST_HOLD t) PH_HOST_HOLD.WELLS) w

/-- A well holds a vote (R304). -/
def State.holdsVote (s : State) (t w : Nat) : Bool :=
  s.hostHold t w || (fedClusters w).any (fun k =>
    s.wanted t k || (decide (12 ≤ w) && (s.rd (PH_CLPWR t k) PH_CLPWR.RETAIN != 0)))

/-- After a change of votes: DRY_GRACE starts with the cycle in which the last vote went and ends with a vote (R310). -/
def State.graceOf (s : State) (t w : Nat) (before : Bool) : State :=
  if s.holdsVote t w then s.updVo t w (fun v => { v with graceAt := none })
  else if before then s.updVo t w (fun v => { v with graceAt := some s.clk.ns })
  else s

/-- After a change of a cluster's votes: when it was last wanted, and whether a woken cluster came to be wanted (R308); the VP_GOFF of a
cluster whose last RUN goes in an orderly stop rises at the next beat boundary (R306, R320). -/
def State.wantOf (s : State) (t k : Nat) (before : Bool) : State :=
  let s0 := if s.flag (PH_CLPWR t k) PH_CLPWR.GREQ_ONLY && (s.rd (PH_CLPWR t k) PH_CLPWR.RUN == 0) then
      s.updTile t (fun x => { x with goffDue := x.goffDue.filter (· ≠ k) ++ [k] })
    else s
  if s0.wanted t k then
    let s1 := s0.updCl t k (fun c => { c with waking := false, graceBeat := none })
    if s1.flag (PH_CLPWR t k) PH_CLPWR.C_VOTE then s1.updCl t k (fun c => { c with lift := true }) else s1
  else if before then s0.updCl t k (fun c => { c with unwanted := s.clk.beat })
  else s0

/-- At a beat boundary VP_GOFF of those clusters rises (R306, R320). -/
def State.goffRise (s : State) (t : Nat) : State :=
  if (s.tile t).goffDue = [] then s
  else (s.each (s.tile t).goffDue (fun u k =>
    if u.flag (PH_CLPWR t k) PH_CLPWR.GREQ_ONLY then (u.wr (PH_CLPWR t k) PH_CLPWR.GREQ_ONLY 0).updCl t k (fun c => { c with goff := true }) else u)).updTile
      t (fun x => { x with goffDue := [] })

/-- A change of one cluster's votes with its consequences for the cluster and for its core and SRAM wells (R303, R310). -/
def State.voteChange (s : State) (t k : Nat) (f : State → State) : State :=
  let wantedB := s.wanted t k
  let coreB := s.holdsVote t (coreWell k)
  let sramB := s.holdsVote t (sramWell k)
  let s1 := f s
  ((s1.wantOf t k wantedB).graceOf t (coreWell k) coreB).graceOf t (sramWell k) sramB

/-! ### Priming reservations of a cistern (PH_PRIME, R154) -/

/-- PH_PRIME's WAITING, PRIMING and INRUSH_USE follow the stages and reservations of the cistern's wells. -/
def State.primeView (s : State) (t c : Nat) : State :=
  let j4 := List.range 4
  let waiting := j4.foldl (fun n j => n + (if s.stage t (4 * c + j) = stWait then 2 ^ j else 0)) 0
  let priming := j4.foldl (fun n j => n + (if (s.mo t (4 * c + j)).reserved ≠ 0 then 2 ^ j else 0)) 0
  let use := j4.foldl (fun n j => n + (s.mo t (4 * c + j)).reserved) 0
  ((s.wr (PH_PRIME t c) PH_PRIME.WAITING waiting).wr (PH_PRIME t c) PH_PRIME.PRIMING priming).wri (PH_PRIME t c) PH_PRIME.INRUSH_USE use

/-- The same, for the cistern of a well if it has one (R16). -/
def State.primeViewOf (s : State) (t w : Nat) : State := if w < 12 then s.primeView t (w / 4) else s

/-! ### A well goes DRY (R25, R26, R153, R305, 95: WELL_DRY) -/

/-- The registers of a well that a DRY well shows at zero: stage, set-point, generator, capability but DERATED (R26), hold and
suppression, DPWM activity, loop rate, tie and deficit figures, sense checks. -/
def State.dryRegs (s : State) (t w : Nat) : State :=
  let d := s.rd (WL_CAP t w) WL_CAP.DERATED
  let s1 := ((s.setStage t w stDry).wr (WL_SETPT t w) WL_SETPT.V_SET 0).setReg (WL_PROF_STAT t w) 0
  let s2 := ((s1.setReg (WL_CAP t w) (WL_CAP.DERATED.set 0 d)).wr (WL_HOLD t w) WL_HOLD.HOLD 0).wr (WL_HOLD t w) WL_HOLD.OV 0
  let s3 := ((s2.wr (WL_PWM t w) WL_PWM.ACTIVE 0).wr (WL_PWM t w) WL_PWM.SRC 0).wr (WL_LOOP_STAT t w) WL_LOOP_STAT.RATE 0
  let s4 := ((s3.wr (WL_TIE t w) WL_TIE.PROT_REST 0).wr (WL_TIE t w) WL_TIE.DEFICIT 0).wr (WL_TIE t w) WL_TIE.EXCESS 0
  let s5 := (s4.wr (WL_CHK t w) WL_CHK.DROP_OK 0).wr (WL_TRACK t w) WL_TRACK.ACTIVE 0
  (s5.wr (AD_WIN t w) AD_WIN.RUN (b2n (w == 14))).wr (AD_WIN t w) AD_WIN.VC 0

/-- A retry of a well that goes DRY is cancelled and counted as transient (R133). -/
def State.dryRetry (s : State) (t w : Nat) : State :=
  if (s.lp t w).retry || (s.lp t w).outRetry then (s.bump (PH_ENG_STAT t)).wr (PH_ENG_STAT t) PH_ENG_STAT.LAST_WELL w else s

/-! ### A change of the engine mode, as a well leaves its loop (R129, R134) -/

def State.en (s : State) (t : Nat) : EngX := (s.tile t).en
def State.updEn (s : State) (t : Nat) (f : EngX → EngX) : State := s.updTile t (fun x => { x with en := f x.en })

/-- A mode change is complete once every well has switched (R135). -/
def State.modeDone (s : State) (t : Nat) : State :=
  match (s.en t).target with
  | some m =>
    if (List.range 15).any (fun w => (s.lp t w).modePend) then s
    else (s.wr (PH_ENG_STAT t) PH_ENG_STAT.MODE m).updEn t (fun e => { e with target := none, byFault := false })
  | none => s

/-- A well takes the mode granted: at its loop-period opening, or as it leaves its loop (R129, R134). -/
def State.takeMode (s : State) (t w : Nat) : State :=
  if (s.lp t w).modePend then
    match (s.en t).target with
    | some m => (s.updLp t w (fun l => { l with mode := m, modePend := false, half := none })).modeDone t
    | none => s.updLp t w (fun l => { l with modePend := false })
  else s

/-- The votes of a DRY well's clusters go: RUN of a core well's, RETAIN of an SRAM well's (R305). -/
def State.dryVotes (s : State) (t w : Nat) : State :=
  s.each (fedClusters w) (fun u k =>
    let c := u.cluster t k
    u.voteChange t k (fun v => if w < 12 then v.setVotes t k 0 c.retain else v.setVotes t k c.run 0))

/-- The followers whose relation to this leader is in force (R151). -/
def State.followersOf (s : State) (t w : Nat) : List Nat :=
  (List.range 14).filter (fun f => s.flag (WL_TRACK t f) WL_TRACK.ACTIVE && (s.rd (WL_TRACK t f) WL_TRACK.LEADER == w) && decide (f ≠ w))

/-- A well leaves its PRIME or PARK: the relations it leads are no longer in force, and its followers go on under their own laws from
where they stand (R141, R151). -/
def State.endTracks (s : State) (t w : Nat) : State :=
  s.each (s.followersOf t w) (fun u f =>
    ((u.wr (WL_TRACK t f) WL_TRACK.ACTIVE 0).wr (WL_PROF_STAT t f) WL_PROF_STAT.TRACKING 0).updMo t f (fun m => { m with v := 0, a := 0 }))

/-- A well's own relation and those it leads are no longer in force (R150, R151). -/
def State.dropTracks (s : State) (t w : Nat) : State :=
  let s1 := s.endTracks t w
  if s1.flag (WL_TRACK t w) WL_TRACK.ACTIVE then
    ((s1.wr (WL_TRACK t w) WL_TRACK.ACTIVE 0).wr (WL_PROF_STAT t w) WL_PROF_STAT.TRACKING 0).updMo t w (fun m => { m with v := 0, a := 0 })
  else s1

/-- A wake fails: WAKE_PEND clears and the wake-failed source is raised (R312). -/
def State.wakeFail (s : State) (t w : Nat) : State :=
  (s.wr (WL_VOTE t w) WL_VOTE.WAKE_PEND 0).raisePh { src := 30, tile := t, well := w }

/-- The clusters of a well that goes DRY take the cause C_DRY: their gate controls and hold wires are asserted (R25, R307). -/
def State.gateDry (s : State) (t w : Nat) : State := s.each (fedClusters w) (fun u k => u.gateOn t k PH_CLPWR.C_DRY)

/-- A well becomes DRY: gates and holds of its clusters first (R25), then ties and pumps, whose PMD is low too (R78); its generator, loop and checks are
cleared, waiting instructions are told, its clusters' votes go, a priming on wake of it fails (R312), and a capability event is posted (R33). -/
def State.goDry (s : State) (t w : Nat) : State :=
  let m := s.mo t w
  let park := s.stage t w = stPark
  let s1 := ((s.gateDry t w).openTies t w).endTracks t w
  let s2 := ((((s1.each (s1.pumpsOf t w) (fun u p => (u.penLow t w p).wr (PM_LINK t w p) PM_LINK.PMD 0)).dryRetry t w).takeMode t w)).dryRegs t w
  let s3 := s2.setWell t w { s2.well t w with
    mo := { tieHold := m.tieHold }
    lp := { vMean := (s2.lp t w).vMean, vLocal := (s2.lp t w).vLocal, bus := (s2.lp t w).bus, mode := (s2.lp t w).mode }
    sh := { outerN := (s2.sh t w).outerN, th := (s2.sh t w).th, limIn := (s2.sh t w).limIn } }
  let s4 := ((s3.dryVotes t w).wrb (WL_VOTE t w) WL_VOTE.VPARKED (decide park && m.votedPark)).primeViewOf t w
  let s5 := (s4.on m.waking (·.wakeFail t w)).unhold { src := 20, tile := t, well := w }
  (((s5.report t w 0x4 false).report t w 0x5 false).report t w 0x7 (decide park && !m.parkTimedOut)).capEvent t w

/-! ### The start of a priming and of a park (R153, R157, R313) -/

/-- The converters' full mode returns (R252). -/
def State.fullPower (s : State) (t : Nat) : State :=
  if s.flag (AD_STAT t) AD_STAT.LP then
    ((s.wr (AD_STAT t) AD_STAT.LP 0).wr (AD_STAT t) AD_STAT.CONV_ON 0xF).updTile t (fun x => { x with sar := { x.sar with
      c2 := { x.sar.c2 with pos := 0 } } })
  else s

/-- A PRIME takes effect on a DRY well: low-power mode ends (R252), gates and holds stand (C_DRY), ties are held open, the CAL stage begins: OFFSET of every
pump is measured, at once in an ACTIVE Pumphouse and after WAKING in a DORMANT one (R153, R313, R87). -/
def State.primeBegin (s : State) (t w : Nat) : State :=
  let awake := s.rd (PH_PWR t) PH_PWR.STATE = 0
  let s0 := s.fullPower t
  let s1 := if s.rd (PH_PWR t) PH_PWR.STATE = 1 then s0.wr (PH_PWR t) PH_PWR.STATE 2 else s0
  let s2 := s1.each (fedClusters w) (fun u k => u.gateOn t k PH_CLPWR.C_DRY)
  let s3 := ((s2.setStage t w stCal).wr (AD_WIN t w) AD_WIN.RUN 1).updMo t w
    (fun m => { m with moveHold := true, checked := false, oneCheck := false, admitRun := 0, headRun := 0, dropPend := false, parkTimedOut := false, votedPark := false })
  s3.each (s3.pumpsOf t w) (fun u p => u.updPump t w p (fun q => { q with measuring := decide awake }))

/-- Fewer than RATED_N pumps that are not RETIRED: the well cannot be primed (R153, R312). -/
def State.primable (s : State) (t w : Nat) : Bool := decide (s.ratedN t w ≤ (s.usablePumps t w).length)

/-- A park begins: gates and holds of the well's clusters, ties held open, PARK limits with g = VLO; DE, unless PMODE forces SYNC on a
well in voltage mode (R143, R157). -/
def State.parkBegin (s : State) (t w : Nat) (voted : Bool) : State :=
  let s1 := s.each (fedClusters w) (fun u k => u.gateOn t k PH_CLPWR.C_DRY)
  let s2 := ((s1.setStage t w stPark).wr (WL_PROF_STAT t w) WL_PROF_STAT.SET 2).wr (WL_PROF_STAT t w) WL_PROF_STAT.PAUSED 0
  let s3 := s2.setPmd t w (s.stage t w != stVolt || !((s2.mo t w).pmode == 2))
  (s3.updMo t w (fun m => { m with
    moveHold := true, votedPark := voted, parkTimedOut := false, handReq := false
    hystReq := false, parkWait := false, waking := false, reserved := 0 })).primeViewOf t w

/-- A park, or a park that waits for the split of the well's tie, or for the boundary that abandons its test step (R157, R216, R235); a relation
of an earlier PRIME is in force no more (R151). -/
def State.parkOrWait (s : State) (t w : Nat) (voted : Bool) : State :=
  let s1 := s.dropTracks t w
  if s1.tied t w ∨ (s1.te t w).kind ≠ 0 then
    (s1.on (s1.tied t w) (·.unloadTies t w)).updMo t w (fun m => { m with parkWait := true, parkVoted := voted })
  else s1.parkBegin t w voted

end Sys2Proof.Machine
end

