-- ==== Sys2Proof/Machine/Votes.lean ====
section
/-! DEFINITION. Votes and what follows from them: wanted clusters, wells that hold a vote, wakes and priming on wake (R302-R312). -/

namespace Sys2Proof.Machine

open Sys2Proof

/-- A tile is STOPPED (R269, TH_STAT.STOP). -/
def State.stopped (s : State) (t : Nat) : Bool := s.rd (TH_STAT t) TH_STAT.STOP == 3

/-- A sequencer owns the well (R162). -/
def State.owned (s : State) (t w : Nat) : Bool := s.flag (WL_SETPT t w) WL_SETPT.OWNED

/-- Priming on wake of a DRY well (R312): steps 1 to 6 of R153 with the present V_CMD and no timeout, handed over afterwards;
WAKES counts it. A well with too few pumps, or on a STOPPED tile, fails the wake. -/
def State.wakePrime (s : State) (t w : Nat) : State :=
  let s0 := s.updVo t w (fun v => { v with wakeReq := false })
  if s0.primable t w && !s0.stopped t then
    (((s0.wr (WL_VOTE t w) WL_VOTE.WAKE_PEND 0).bump (PH_PWR t)).primeBegin t w).updMo t w (fun m => { m with waking := true })
  else s0.wakeFail t w

/-- WAKE_REFUSED is set (R309). -/
def State.wakeRefuse (s : State) (t : Nat) : State := s.wr (PH_PWR t) PH_PWR.WAKE_REFUSED 1

/-- The well is off: DRY, also in CAL and WAIT_HEAD, where its ramp has not begun (R25, R153). -/
def State.isOff (s : State) (t w : Nat) : Bool := s.stage t w == stDry || s.stage t w == stCal || s.stage t w == stWait

/-- The wells among core and SRAM well of a cluster that are DRY, or parking (R309). -/
def State.downWells (s : State) (t k : Nat) : List Nat :=
  [coreWell k, sramWell k].filter (fun w => s.isOff t w || s.stage t w == stPark)

/-- Wakes prime the well: an image is ACTIVE, so neither a load nor safe priming runs (R70, R74), and the well is VOTED with AUTO_WAKE (R309). -/
def State.autoWake (s : State) (t w : Nat) : Bool :=
  s.active && s.flag (WL_VOTE_CFG t w) WL_VOTE_CFG.VOTED && s.flag (WL_VOTE_CFG t w) WL_VOTE_CFG.AUTO_WAKE

/-- A WAKE may prime a well of a tile that is not STOPPED (R309). -/
def State.canWake (s : State) (t w : Nat) : Bool := s.autoWake t w && !s.stopped t

/-- A WAKE acts on a physical cluster by the first fitting row of R309. -/
def State.wakeCluster (s : State) (t k : Nat) : State :=
  let c := PH_CLPWR t k
  if s.flag c PH_CLPWR.GATED = false then s
  else if s.flag c PH_CLPWR.C_SEQ || s.flag c PH_CLPWR.C_THERM || s.flag c PH_CLPWR.C_GOV then s.wakeRefuse t
  else
    let down := s.downWells t k
    let dryOwned := down.filter (fun w => s.isOff t w && s.owned t w)
    if dryOwned ≠ [] then
      (s.updCl t k (fun c => { c with pend := true })).each dryOwned (fun u w => u.wr (WL_VOTE t w) WL_VOTE.WAKE_PEND 1)
    else if down.any (fun w => s.canWake t w) then
      (s.updCl t k (fun c => { c with lift := true, waking := true })).each (down.filter (fun w => s.canWake t w)) (fun u w =>
        if u.stage t w = stPark then u.wr (WL_VOTE t w) WL_VOTE.WAKE_PEND 1
        else if u.stage t w = stDry then u.updVo t w (fun v => { v with wakeReq := true })
        else u)
    else if down.any (fun w => s.isOff t w) then s.wakeRefuse t
    else if s.flag c PH_CLPWR.C_VOTE && !s.flag c PH_CLPWR.C_DRY then
      s.updCl t k (fun c => { c with lift := true, waking := true })
    else s

/-- The wakes held for a DRY well whose ownership has been released act: each such cluster's wells prime and its C_VOTE lifts, or
the wake is refused (R309). -/
def State.pendWakes (s : State) (t w : Nat) : State :=
  let ks := (fedClusters w).filter (fun k => (s.cluster t k).pend)
  let go := ks.filter (fun k => (s.downWells t k).any (fun v => s.autoWake t v))
  let s1 := s.each ks (fun u k => u.updCl t k (fun c => { c with pend := false }))
  let s2 := s1.each go (fun u k =>
    (u.updCl t k (fun c => { c with lift := true, waking := true })).each
      ((u.downWells t k).filter (fun v => v != w && u.stage t v == stDry && !u.owned t v && u.autoWake t v))
      (fun u v => u.updVo t v (fun o => { o with wakeReq := true })))
  if s2.autoWake t w then s2.wakePrime t w
  else
    let s3 := (s2.wr (WL_VOTE t w) WL_VOTE.WAKE_PEND 0).updVo t w (fun v => { v with wakeReq := false })
    if go = [] then s3.wakeRefuse t else s3

/-- C_DRY of a cluster may clear: both its wells are in voltage mode (R153, R307, R312). -/
def State.bothVolt (s : State) (t k : Nat) : Bool :=
  (s.stage t (coreWell k) == stVolt) && (s.stage t (sramWell k) == stVolt)

end Sys2Proof.Machine
end

