-- ==== Sys2Proof/Machine/Queue.lean ====
section
/-! DEFINITION. The recorder's queue and the sideband's pending in-band interrupts: what other units hand to them (R45, R352, R357). -/

namespace Sys2Proof.Machine

open Sys2Proof

/-- An event of an IBI class: pending while IBI is enabled and the list includes the class; repeats merge (R45). -/
def State.ibi (s : State) (cls : Nat) : State :=
  if s.flag HD_SB_STAT HD_SB_STAT.IBI_EN && bit s.sb.ibiList (cls - 1) then
    { s with sb := { s.sb with ibiPend := setBit s.sb.ibiPend (cls - 1) true } }
  else s

/-- LIFE_CYCLE, THERMAL_STOP, CLEAR and KEEP records may use the reserved places (R357). -/
def Rec.reserved (r : Rec) : Bool := r.kept || r.type == 3 || r.type == 4 || r.type == 5

/-- ER_STAT.QUEUE follows the queue. -/
def State.setQueue (s : State) (q : List Rec) : State :=
  ({ s with rcd := { s.rcd with queue := q } } : State).wr ER_STAT ER_STAT.QUEUE q.length

/-- A LIFE_CYCLE or THERMAL_STOP record could not be written: its origin shows UNRECORDED and RECORDER is raised with SUB 6
(R48, R270, R358). -/
def State.unrecorded (s : State) (r : Rec) : State :=
  if r.type = 3 then (s.wr LC_STATE LC_STATE.UNRECORDED 1).raiseW { src := 25, sub := 6 }
  else if r.type = 4 then
    ((s.wr (TH_STAT r.tile) TH_STAT.UNRECORDED 1).raiseW { src := 25, sub := 6, tile := r.tile }).updTile r.tile (fun x => { x with
      th := { x.th with partLost := true } })
  else s

/-- A record that finds no place is dropped: LOST counts it and the next record carries LOSTBEFORE (R357). -/
def State.dropRec (s : State) (r : Rec) : State :=
  let s1 := s.bump ER_STAT
  ({ s1 with rcd := { s1.rcd with lostBefore := true, dropped := s1.rcd.dropped + 1 } } : State).unrecorded r

/-- Is there a queue place for the record? 32 places, 4 of them reserved (R357). -/
def State.hasPlace (s : State) (r : Rec) : Bool :=
  decide (s.rcd.queue.length < 32) &&
    (r.reserved || decide ((s.rcd.queue.filter (fun q => !q.reserved)).length < 28))

/-- A record is queued, for which the fast clock must run (R315, R358); with NOFLASH nothing is ever written (R353, R357). -/
def State.enq (s : State) (r : Rec) : State :=
  if s.flag ER_STAT ER_STAT.NOFLASH then s.unrecorded r
  else if s.hasPlace r then (s.setQueue (s.rcd.queue ++ [r])).restart
  else s.dropRec r

/-- A record of this moment: operating time and wafer beat are those of its trigger (R350). -/
def State.record (s : State) (type trig : Nat) (payload : List Word) : State :=
  s.enq { type := type, payload := payload, trig := trig, ao := s.reg HD_AO_TIME, beat := s.clk.beat }

/-- The same for a record of the kept-for-ever area. -/
def State.recordKept (s : State) (type trig : Nat) (payload : List Word) : State :=
  s.enq { type := type, payload := payload, trig := trig, ao := s.reg HD_AO_TIME, beat := s.clk.beat, kept := true }

/-- An EVENT record: the register written and its address (R352). -/
def State.recordEvent (s : State) (a : Nat) (d : Word) : State := s.record 9 0 [d, BitVec.ofNat 64 (a % 2 ^ 24)]

end Sys2Proof.Machine
end

