-- ==== Sys2Proof/Machine/Clock.lean ====
section
/-! DEFINITION. The reference clock: the mode of HD_CLK, the DCO's frequency and the loss of the source it follows (R97-R101, R380); the NCO of a Pumphouse (R81, R82). -/

namespace Sys2Proof.Machine

open Sys2Proof

/-- The DCO's frequency now, in 1/3200 ppm (R98-R100). -/
def State.dcoNow (s : State) : Int :=
  let d := s.clk.dco
  if d.start + d.dur ≤ s.clk.ns then d.f1 else d.f0 + (d.f1 - d.f0) * ((s.clk.ns - d.start : Nat) : Int) / (d.dur : Int)

abbrev ckLocked := 0
abbrev ckHoldover := 1
abbrev ckPullIn := 2
abbrev ckFree := 3

def State.ckMode (s : State) : Nat := s.rd HD_CLK HD_CLK.MODE

def State.setDco (s : State) (f : Dco → Dco) : State := { s with clk := { s.clk with dco := f s.clk.dco } }

/-- From now on the DCO moves from its present frequency to `f1` over `dur` ns; the stretches before that reach into the last 1 ms are
kept (R98-R100). -/
def State.moveDco (s : State) (f1 : Int) (dur : Nat) : State :=
  let f0 := s.dcoNow
  s.setDco (fun d => { d with
    f0 := f0, f1 := f1, start := s.clk.ns, dur := dur
    hist := d.toDcoSeg :: (d.hist.zip (d.start :: d.hist.map (·.start))).filterMap (fun e => if s.clk.ns < e.2 + 1000000 then some e.1 else none) })

/-- The DCO slews from its present frequency to `f1`, at 200 ppm/ms: 0.64 of 1/3200 ppm each ns (R99). -/
def State.slewDco (s : State) (f1 : Int) : State :=
  (s.moveDco f1 (ceilDiv ((f1 - s.dcoNow).natAbs * 100) 64)).setDco (fun d => { d with near := 0 })

/-- Twice the integral of a stretch's frequency from its start over `n` ns. -/
def DcoSeg.twice (g : DcoSeg) (n : Nat) : Int :=
  if n ≤ g.dur then 2 * g.f0 * n + roundDiv ((g.f1 - g.f0) * (n * n : Nat)) g.dur
  else (g.f0 + g.f1) * g.dur + 2 * g.f1 * (n - g.dur : Nat)

/-- The same from the stretch's start, or from `from_` where that is later, to `to_`. -/
def DcoSeg.between (g : DcoSeg) (from_ to_ : Nat) : Int :=
  if to_ ≤ max g.start from_ then 0 else g.twice (to_ - g.start) - g.twice (max g.start from_ - g.start)

/-- Twice the integral over the stretches of a history, newest first, that end at `to_`. -/
def dcoArea (from_ : Nat) : List DcoSeg → Nat → Int
  | [], _ => 0
  | g :: l, to_ => g.between from_ to_ + dcoArea from_ l (min to_ g.start)

/-- The mean frequency of the DCO over the preceding 1 ms, or since its first stretch began (R98). -/
def State.dcoMean (s : State) : Int :=
  let l := s.clk.dco.toDcoSeg :: s.clk.dco.hist
  let first := (l.getLast?.map (·.start)).getD 0
  let from_ := max first (s.clk.ns - 1000000)
  if s.clk.ns ≤ from_ then s.dcoNow else roundDiv (dcoArea from_ l s.clk.ns) (2 * (s.clk.ns - from_))

/-- The source the DCO follows is lost: HOLDOVER at the mean of the preceding 1 ms, from PULL_IN at the present frequency (R98, R101,
R380). While no source is followed, only the qualification restarts (R101). -/
def State.sourceLost (s : State) : State :=
  if s.ckMode = ckLocked ∨ s.ckMode = ckPullIn then
    let hold := if s.ckMode = ckPullIn then s.dcoNow else s.dcoMean
    (((s.wr HD_CLK HD_CLK.MODE ckHoldover).slewDco hold).bump HD_CLK).raiseW { src := 6 }
  else s

/-! ### The NCO (R81, R82) -/

/-- Every NCO of the wafer holds INC x 400 x B at beat B; a Pumphouse loads it at a beat boundary (R81). -/
def State.loadNco (s : State) (t : Nat) : State :=
  s.updTile t (fun x => { x with nco := s.rd (PH_PWM t) PH_PWM.INC * 400 * s.clk.beat % 2 ^ 32, ncoBeat := s.clk.beat })

/-- The NCO's phase now: INC is added in each of the 400 DPWM cycles of a beat (R81). -/
def State.ncoPhase (s : State) (t : Nat) : Nat :=
  let cycles := 400 * (s.clk.beat - (s.tile t).ncoBeat) + (250 - s.clk.beatLeft) * 8 / 5
  ((s.tile t).nco + s.rd (PH_PWM t) PH_PWM.INC * cycles) % 2 ^ 32

/-- The phase at which slot `i` of `m` rises; slot 0 opens the well's period (R82). -/
def State.slotPhase (s : State) (t w i m : Nat) : Nat := ((s.lp t w).basePh * 2 ^ 24 + i * 2 ^ 32 / max 1 m) % 2 ^ 32

end Sys2Proof.Machine
end

