-- ==== Sys2Proof/Machine/Crc.lean ====
section
/-! DEFINITION. CRC-32C and the byte order of words (R351, R56): the first byte of a word lies in its highest bits. -/

namespace Sys2Proof.Machine

open Sys2Proof

/-- One bit of the reflected CRC-32C (polynomial 0x1EDC6F41, reflected 0x82F63B78; PRESUMED, log entry 7). -/
def crcBit (c : BitVec 32) : BitVec 32 := if c.getLsbD 0 then (c >>> 1) ^^^ 0x82F63B78 else c >>> 1

/-- One byte. -/
def crcByte (c : BitVec 32) (b : Nat) : BitVec 32 :=
  let x := c ^^^ BitVec.ofNat 32 b
  crcBit (crcBit (crcBit (crcBit (crcBit (crcBit (crcBit (crcBit x)))))))

/-- CRC-32C of bytes: initial value and final XOR of all ones (R351). -/
def crc32c (l : List Nat) : BitVec 32 := (l.foldl crcByte 0xFFFFFFFF) ^^^ 0xFFFFFFFF

/-- The eight bytes of a word, first byte first. -/
def wordBytes (w : Word) : List Nat := (List.range 8).map (fun i => (w.extractLsb' (8 * (7 - i)) 8).toNat)

/-- The four bytes of a 32-bit entry, first byte first (R175). -/
def entryBytes (e : Entry) : List Nat := (List.range 4).map (fun i => (e.extractLsb' (8 * (3 - i)) 8).toNat)

/-- The 48 bytes of a 384-bit value and the 16 of a 128-bit one. -/
def bytesOf (n : Nat) {w : Nat} (v : BitVec w) : List Nat := (List.range n).map (fun i => (v.extractLsb' (8 * (n - 1 - i)) 8).toNat)

/-- Bytes joined into a number, first byte highest. -/
def joinBytes (l : List Nat) : Nat := l.foldl (fun x b => x * 256 + b % 256) 0

end Sys2Proof.Machine
end

