-- ==== Sys2Proof/Machine/SeqBase.lean ====
section
/-! DEFINITION. Starting, aborting and ending a program on a sequencer, and the ownership of wells (R158, R161, R162, R164). -/

namespace Sys2Proof.Machine

open Sys2Proof

def State.sqState (s : State) (n : Nat) : Nat := s.rd (SQ_STAT n) SQ_STAT.STATE

/-- A program of the image in force: its instructions, or none where the image holds no such program (R158). -/
def State.program (s : State) (p : Nat) : Option (List Nat) := (s.img.programs.find? (fun e => e.1 = p)).map (·.2)

/-- The configured tiles. -/
def State.allTiles (s : State) : List Nat := List.range s.tileCount

/-- With its ownership a well that is no longer DRY loses a wake held for it; one that parks keeps it until it is DRY (R309, R311). -/
def State.dropPend (s : State) (t w : Nat) : State :=
  if s.stage t w = stDry ∨ s.stage t w = stPark ∨ s.flag (WL_VOTE t w) WL_VOTE.WAKE_PEND = false then s
  else
    let pending := fun (u : State) (v : Nat) => u.flag (WL_VOTE t v) WL_VOTE.WAKE_PEND
    (s.wr (WL_VOTE t w) WL_VOTE.WAKE_PEND 0).each (fedClusters w) (fun u k =>
      if pending u (coreWell k) || pending u (sramWell k) then u else u.updCl t k (fun c => { c with pend := false }))

/-- A sequencer gives up every well it owns (R160, R162); a wake held for one of them acts with PRIMING_ON_WAKE (R309). -/
def State.releaseWells (s : State) (n : Nat) : State :=
  let ws := (s.sq n).owned
  let s1 := s.updSq n (fun q => { q with owned := [] })
  s1.each ws (fun u g =>
    ((u.wr (WL_SETPT (g / 16) (g % 16)) WL_SETPT.OWNED 0).wr (WL_SETPT (g / 16) (g % 16)) WL_SETPT.OWNER 0).dropPend (g / 16) (g % 16))

/-- A well still waiting in a PRIME stays DRY: it loses its tie hold and leaves admission (R161, R164). -/
def State.unprime (s : State) (t w : Nat) : State :=
  if s.stage t w = stCal ∨ s.stage t w = stWait then
    let s1 := (((s.setStage t w stDry).endTracks t w).wr (AD_WIN t w) AD_WIN.RUN 0).wr (WL_TRACK t w) WL_TRACK.ACTIVE 0 |>.updMo t w
      (fun m => { m with moveHold := false, admitRun := 0, checked := false, waking := false })
    (s1.each (s1.pumpsOf t w) (fun u p => u.updPump t w p (fun q => { q with measuring := false }))).primeViewOf t w
  else s

/-- What an abort or a timeout leaves of the waiting instruction: waiting PRIME wells stay DRY, HAND wells not handed stay in
hysteretic mode, a TEST step that has not begun does not begin; nothing done is undone (R161, R164). -/
def State.cancelWait (s : State) (n : Nat) : State :=
  let q := s.sq n
  let open_ := (q.wells.filter (fun e => e.2 = 0)).map (·.1)
  if s.sqState n ≠ 2 then s
  else if q.op = 4 then s.each open_ (fun u g => u.unprime (g / 16) (g % 16))
  else if q.op = 5 then s.each open_ (fun u g => u.updMo (g / 16) (g % 16) (fun m => { m with handReq := false }))
  else if q.op = 0xE then s.each open_ (fun u g => u.updTe (g / 16) (g % 16) (fun x => { x with queued := none }))
  else s

/-- A program stops: the waiting instruction ends, ownership is released, ABORT reads the outcome (R164). -/
def State.seqAbort (s : State) (n code : Nat) : State :=
  let s1 := (s.cancelWait n).updSq n (fun q => { q with wells := [], op := 0 })
  ((s1.wr (SQ_STAT n) SQ_STAT.ABORT code).wr (SQ_STAT n) SQ_STAT.STATE 0).releaseWells n

/-- A program starts at instruction 0 with F = 1 (R158, R161). Start source 0 host, 1 AUTO_PRIME, 2 reaction. -/
def State.seqStart (s : State) (n prog src tile narrow : Nat) : State :=
  let tiles := if src = 2 then (if tile < s.tileCount then [tile] else []) else s.allTiles
  let s1 := ((((s.wr (SQ_STAT n) SQ_STAT.PC 0).wr (SQ_STAT n) SQ_STAT.PROG prog).wr (SQ_STAT n) SQ_STAT.SRC src).wr
    (SQ_STAT n) SQ_STAT.F 1).wr (SQ_STAT n) SQ_STAT.STATE 1
  s1.updSq n (fun q => { q with tiles := tiles, faultTile := tile, narrow := narrow, wells := [], op := 0, hostNs := none, beat := none })

/-- LOADING, CHECKING or APPLYING: no step program runs (R70). -/
def State.loaderBusy (s : State) : Bool := s.imgState == 1 || s.imgState == 2 || s.imgState == 3

/-- A fault reaction starts a program: it pre-empts a host or AUTO_PRIME program, and is dropped where a reaction's program
already runs or the loader is busy (R70, R158; 95: REACTION_PROGRAM_START); a host START of this very cycle is refused instead (R165). -/
def State.reactionStart (s : State) (n prog : Nat) (r : Raise) (narrow : Bool) : State :=
  let nw := if narrow then r.well else 0xF
  if s.loaderBusy then s.wr (SQ_STAT n) SQ_STAT.REFUSED 1
  else if s.sqState n = 0 then s.seqStart n prog 2 r.tile nw
  else if s.rd (SQ_STAT n) SQ_STAT.SRC = 2 then s.wr (SQ_STAT n) SQ_STAT.REFUSED 1
  else if (s.sq n).hostNs = some s.clk.ns then (s.wr (SQ_STAT n) SQ_STAT.REFUSED 1).seqStart n prog 2 r.tile nw
  else (s.seqAbort n 3).seqStart n prog 2 r.tile nw

end Sys2Proof.Machine
end

