-- ==== Sys2Proof/Machine/SliceBase.lean ====
section
/-! DEFINITION. The slice of a tile: its state, its streams, and stopping it (R201, R203). -/

namespace Sys2Proof.Machine

open Sys2Proof

abbrev dsUnbound := 0
abbrev dsChecking := 1
abbrev dsBound := 2
abbrev dsPlaying := 3
abbrev dsStopped := 4

def State.ds (s : State) (t : Nat) : SliceX := (s.tile t).ds
def State.updDs (s : State) (t : Nat) (f : SliceX → SliceX) : State := s.updTile t (fun x => { x with ds := f x.ds })

/-- Slice state of a tile (R201). -/
def State.dsState (s : State) (t : Nat) : Nat := s.rd (DS_STAT t) DS_STAT.STATE
def State.setDs (s : State) (t v : Nat) : State := s.wr (DS_STAT t) DS_STAT.STATE v

/-- An entry of the slice. -/
def State.entry (s : State) (t i : Nat) : Entry := tget (fun _ => 0) (s.ds t).entries i

/-- The stream of a logical well. -/
def State.stream (s : State) (t l : Nat) : Stream := tget (fun _ => {}) (s.ds t).streams l
def State.setStream (s : State) (t l : Nat) (x : Stream) : State :=
  s.updDs t (fun d => { d with streams := tset (fun _ => {}) d.streams l x })
def State.updStream (s : State) (t l : Nat) (f : Stream → Stream) : State := s.setStream t l (f (s.stream t l))

/-- A stream is playing: P advances or waits at a gate. -/
def Stream.live (x : Stream) : Bool := x.st == 2 || x.st == 3

/-- The streams of a tile that play. -/
def State.liveStreams (s : State) (t : Nat) : List Nat := (List.range 14).filter (fun l => (s.stream t l).live)

/-- The places held by GATE_TIMEOUT on a tile end where the stream no longer waits at that gate with TMO set (R197, R325). -/
def State.gateHeld (s : State) (t : Nat) : State :=
  let ends := fun r : Raise => r.src == 15 && r.tile == t &&
    !((s.stream t r.well).st == 3 && (s.stream t r.well).p.gate == some r.sub && (tget (fun _ => ({} : GateX)) (s.ds t).gates r.sub).tmo)
  { s with fault := { s.fault with held := s.fault.held.filter (fun r => !ends r) } }

/-- The player leaves a physical well: i_ff = I_w, V_pre = 0 and every pump in service (R203). -/
def State.unplay (s : State) (t w : Nat) : State :=
  s.setWell t w { s.well t w with
    lp := { (s.well t w).lp with iFF := 0, vPre := 0, mReq := 0 }
    sh := { (s.well t w).sh with fcast := 0, guard := [] } }

/-- STOP takes effect: every stream stops, the slice stays bound, and no release stays due: cores at a gate wait on (R203). -/
def State.stopNow (s : State) (t : Nat) : State :=
  let s1 := s.each (List.range 14) (fun u l =>
    if (u.stream t l).live then u.updStream t l (fun x => { x with st := 5 }) else u)
  let s2 := (s1.each (List.range 14) (fun u w => u.unplay t w)).setDs t dsStopped
  (s2.updDs t (fun d => { d with
    stopPend := false
    startPend := false
    gates := d.gates.map (fun e => (e.1, { e.2 with released := e.2.rel.length })) })).gateHeld t

/-- A slice is stopped as by STOP: pending until the next beat boundary; a pending START is dropped (R203, R329, R267). -/
def State.stopSlice (s : State) (t : Nat) : State :=
  if s.dsState t = dsPlaying then s.updDs t (fun d => { d with stopPend := true, startPend := false })
  else s.updDs t (fun d => { d with startPend := false })

end Sys2Proof.Machine
end

