-- ==== Sys2Proof/Machine/ImageBase.lean ====
section
/-! DEFINITION. The end of a load in VOID, the parking of safe-primed wells and the reactions to faults in safe priming (R68, R74-R76). -/

namespace Sys2Proof.Machine

open Sys2Proof

/-- Safe priming is running (R55). -/
def State.safeOn (s : State) : Bool := s.flag HD_IMG_STAT HD_IMG_STAT.SAFE

def State.updLoad (s : State) (f : LoadX → LoadX) : State := { s with load := f s.load }

/-- HD_IMG_ERR (R67). -/
def imgErr (code sect word : Nat) : Word := HD_IMG_ERR.CODE.set (HD_IMG_ERR.SECTION.set (HD_IMG_ERR.WORD.set 0 word) sect) code

/-- Safe priming has ended: every tile has parked, and no accepted load waits for it (R76). -/
def State.safeOver (s : State) : State :=
  if s.safeOn && s.load.parking && !s.load.passed && s.allTiles.all (fun t => (s.tile t).safe.step == 0) then
    (s.wr HD_IMG_STAT HD_IMG_STAT.SAFE 0).updLoad (fun l => { l with parking := false })
  else s

/-- A load ends in VOID (R68; 95: IMAGE_REJECT): the source is raised, the rejection recorded, and safe priming starts unless it is
running and not being parked; parking that waited for the load alone has ended then (R76). -/
def State.voidLoad (s : State) (code sect word : Nat) : State :=
  let err := imgErr code sect word
  let s1 := ((s.wr HD_IMG_STAT HD_IMG_STAT.STATE 5).wr HD_IMG_STAT HD_IMG_STAT.REJECTED 1).setReg HD_IMG_ERR err
  let s2 := s1.updLoad (fun l => { l with
    slot := []
    passed := false
    abort := false
    safeDue := !s.safeOn || l.parking })
  ((s2.safeOver.raiseW { src := 1 }).record 6 0 [err, s2.reg HD_IMG_ID]).pend 144

/-- A load in progress is aborted (R73, R390). -/
def State.abortLoad (s : State) : State := (s.voidLoad 0x0F 0xFF 0).wr HD_IMG_STAT HD_IMG_STAT.ABORT 1

/-! ### Parking of safe-primed wells (R76) -/

/-- The wells of a step of safe priming (R75). -/
def safeWells : Nat → List Nat
  | 1 => [12, 13]
  | 2 => [0, 4, 8]
  | 3 => [1, 5, 9]
  | 4 => [2, 6, 10]
  | 5 => [3, 7, 11]
  | _ => []

/-- A safe-primed well parks; one whose ramp has not started stays DRY (R74, R76). -/
def State.parkSafe (s : State) (t w : Nat) : State :=
  let st := s.stage t w
  if st = stCal ∨ st = stWait then (s.unprime t w).updMo t w (fun m => { m with safePrime := false })
  else if stPriming ≤ st ∧ st ≤ stVolt then s.parkBegin t w false
  else s

/-- Every well of the step is DRY. -/
def State.stepDry (s : State) (t k : Nat) : Bool := (safeWells k).all (fun w => s.stage t w == stDry)

def State.setSafe (s : State) (t : Nat) (f : SafeX → SafeX) : State := s.updTile t (fun x => { x with safe := f x.safe })

/-- The wells of step k park, and those of a lower step as soon as all of them are DRY: the reverse of the priming order (R76). -/
def parkDown : Nat → Nat → State → State
  | _, 0, s => s
  | t, k + 1, s =>
    let u := (s.each (safeWells (k + 1)) (fun v w => v.parkSafe t w)).setSafe t (fun x => { x with step := k + 1 })
    if u.stepDry t (k + 1) then parkDown t k (u.setSafe t (fun x => { x with step := k })) else u

/-- A tile begins to park its safe-primed wells; the 5 ms count from here (R76). -/
def State.parkTile (s : State) (t : Nat) : State :=
  if (s.tile t).safe.parkAt.isSome then s
  else parkDown t (s.tile t).safe.step (s.setSafe t (fun x => { x with parkAt := some s.clk.ns }))

/-- All tiles park (R76). -/
def State.parkAll (s : State) : State := ((s.updLoad (fun l => { l with parking := true })).each s.allTiles (fun u t => u.parkTile t)).safeOver

/-- At an outer boundary a parking tile goes on with the step below once the wells of this one are DRY (R76). -/
def State.safeAdvance (s : State) (t : Nat) : State :=
  let x := (s.tile t).safe
  if x.parkAt.isSome && decide (0 < x.step) && s.stepDry t x.step then
    (parkDown t (x.step - 1) (s.setSafe t (fun y => { y with step := x.step - 1 }))).safeOver
  else s

/-! ### Faults in safe priming (R74) -/

/-- Fault sources that are a fault of the well they name (R74). -/
def wellFault (n : Nat) : Bool := [10, 13, 16, 19, 20, 21, 23, 30].contains n

/-- A well fault parks a safe-primed well (R74). -/
def State.safeFault (s : State) (r : Raise) : State :=
  if s.safeOn && wellFault r.src && s.tileOk r.tile && decide (r.well < 14) && (s.mo r.tile r.well).safePrime then
    s.parkSafe r.tile r.well
  else s

end Sys2Proof.Machine
end

