-- ==== Sys2Proof/Machine/LinkBase.lean ====
section
/-! DEFINITION. The coordination link: frames and their sending, ports, routes as registers hold them, leaving a job, the end of a pull and the block reset (R367-R378, R385, R390-R392). -/

namespace Sys2Proof.Machine

open Sys2Proof

/-! ### Frames (R371, R373) -/

def FR.TYPE : Fld := ⟨63, 56⟩
def FR.DST : Fld := ⟨55, 44⟩
def FR.SRC : Fld := ⟨43, 32⟩
def FR.HOPS : Fld := ⟨31, 28⟩
def FR.CLASS : Fld := ⟨27, 26⟩
def FR.RSV : Fld := ⟨25, 25⟩
def FR.LEN : Fld := ⟨24, 16⟩
def FR.SEQ : Fld := ⟨15, 8⟩
def FR.ACK : Fld := ⟨7, 0⟩
def FR.CRC : Fld := ⟨63, 32⟩

/-- A header field of a frame. -/
def frd (f : LinkFrame) (x : Fld) : Nat := x.get f.header
/-- Payload word i, from 1 (R373). -/
def pay (f : LinkFrame) (i : Nat) : Word := f.payload.getD (i - 1) 0
/-- Bits hi to lo of payload word i. -/
def payBits (f : LinkFrame) (i hi lo : Nat) : Nat := (⟨hi, lo⟩ : Fld).get (pay f i)

/-- CRC-32C over the header and the payload (R371). -/
def frameCrc (f : LinkFrame) : Nat := (crc32c ((f.header :: f.payload).flatMap wordBytes)).toNat

/-- The frame is whole: its CRC holds, LEN counts its payload, reserved bits are zero (R371). -/
def frameOk (f : LinkFrame) : Bool :=
  (FR.CRC.get f.trailer == frameCrc f) && (frd f FR.LEN == f.payload.length) && (frd f FR.RSV == 0) && (f.trailer.extractLsb' 0 32 == 0)

/-- A new frame of this instance; SEQ, ACK and CRC are set as it is sent. -/
def mkFrame (type dst src cls : Nat) (payload : List Word) : LinkFrame :=
  { header := FR.TYPE.set (FR.DST.set (FR.SRC.set (FR.HOPS.set (FR.CLASS.set (FR.LEN.set 0 payload.length) cls) 15) src) dst) type
    payload := payload }

/-- SEQ and ACK are written and the CRC is formed. -/
def sealFrame (f : LinkFrame) (seq ack : Nat) : LinkFrame :=
  let g := { f with header := FR.SEQ.set (FR.ACK.set f.header ack) seq }
  { g with trailer := FR.CRC.set 0 (frameCrc g) }

/-! ### Ports (R367, R369, R372) -/

def State.inst (s : State) : Nat := s.rd CL_STAT CL_STAT.INSTANCE
def State.port_ (s : State) (n : Nat) : PortX := tget (fun _ => {}) s.link.ports n
def State.updLink (s : State) (f : LinkX → LinkX) : State := { s with link := f s.link }
def State.updPort (s : State) (n : Nat) (f : PortX → PortX) : State :=
  s.updLink (fun l => { l with ports := tset (fun _ => {}) l.ports n (f (tget (fun _ => {}) l.ports n)) })
def State.updJob (s : State) (f : JobX → JobX) : State := s.updLink (fun l => { l with job := f l.job })

abbrev poOff := 0
abbrev poDetect := 1
abbrev poTraining := 2
abbrev poHello := 3
abbrev poAuth := 4
abbrev poUp := 5
abbrev poIsolated := 6

def State.portState (s : State) (n : Nat) : Nat := if n < 4 then s.rd (CL_PORT n) CL_PORT.STATE else poOff
def State.portUp (s : State) (n : Nat) : Bool := s.portState n == poUp
/-- A port's state changes; CL_STAT.UP follows. -/
def State.setPort (s : State) (n v : Nat) : State :=
  (s.wr (CL_PORT n) CL_PORT.STATE v).wr CL_STAT CL_STAT.UP (setBit (s.rd CL_STAT CL_STAT.UP) n (v == poUp))

/-- A port is enabled: LANES of the last accepted image, in PROVISIONED and FIELD (R367). -/
def State.portOn (s : State) (n : Nat) : Bool :=
  decide (n < 4) && bit s.img.lanes n && (s.fuses.lcState == 1 || s.fuses.lcState == 2)

/-- A frame leaves on a port. -/
def State.emit (s : State) (n : Nat) (f : LinkFrame) : State := s.updLink (fun l => { l with sent := l.sent ++ [(n, f)] })

/-- SEQ of the last frame accepted on a port (R371). -/
def PortX.ack (p : PortX) : Nat := (p.rxSeq + 255) % 256

/-- A frame waits for a place in the resend buffer: class 1 before class 2, each in its order (R372). -/
def enterWaiting (l : List LinkFrame) (f : LinkFrame) : List LinkFrame :=
  if frd f FR.CLASS = 1 then l.filter (fun g => frd g FR.CLASS == 1) ++ f :: l.filter (fun g => frd g FR.CLASS != 1) else l ++ [f]

/-- A frame is sent on a port: class 0 as it is, class 1 and 2 with the next SEQ while fewer than 128 frames wait for their ACK (R372). -/
def State.sendOn (s : State) (n : Nat) (f : LinkFrame) : State :=
  let p := s.port_ n
  if frd f FR.CLASS = 0 then s.emit n (sealFrame f 0 p.ack)
  else if p.resend.length < 128 then
    let g := sealFrame f p.txSeq p.ack
    (s.updPort n (fun q => { q with txSeq := (q.txSeq + 1) % 256, resend := q.resend ++ [g] })).emit n g
  else s.updPort n (fun q => { q with waiting := enterWaiting q.waiting f })

/-! ### Pulls that are served (R389, R390) -/

/-- An object this instance serves is stable (R389). -/
def State.stableObj (s : State) (obj tile : Nat) : Bool :=
  if obj = 1 then s.tileOk tile && (s.dsState tile == dsBound || s.dsState tile == dsPlaying || s.dsState tile == dsStopped) else s.active

/-- Words of an object. -/
def State.objLength (s : State) (obj tile : Nat) : Nat := if obj = 1 then (s.rd (DS_ID tile) DS_ID.LEN + 1) / 2 else s.load.slot.length

/-- A DATA frame of a pull that is served. -/
def Serve.owns (v : Serve) (f : LinkFrame) : Bool := (frd f FR.TYPE == 0x32) && (frd f FR.DST == v.puller) && (payBits f 1 63 56 == v.tile)

/-- DATA of a pull still waits for its turn on a port (R372). -/
def State.dataWaits (s : State) (v : Serve) : Bool := (List.range 4).any (fun n => (s.port_ n).waiting.any v.owns) || s.link.reroute.any (fun e => v.owns e.2)

/-- The last word of a pull has been sent: it is served no more (R389). -/
def State.servedOut (s : State) (v : Serve) : Bool := decide (s.objLength v.obj v.tile ≤ v.sent) && !s.dataWaits v

/-- DATA that waits for its turn and belongs to none of the pulls that are served goes out no more. -/
def State.purgeData (s : State) (gone : List Serve) : State :=
  let stays := fun f => gone.all (fun v => !v.owns f)
  (s.each (List.range 4) (fun u n => u.updPort n (fun p => { p with waiting := p.waiting.filter stays }))).updLink
    (fun l => { l with reroute := l.reroute.filter (fun e => stays e.2) })

/-- A pull is served no more once its last word has been sent, or once its object is no longer stable: what waits of it then goes out no more (R389, R390,
R393). -/
def State.dropServes (s : State) : State :=
  if s.link.serves = [] then s
  else
    let gone := s.link.serves.filter (fun v => !s.stableObj v.obj v.tile)
    let s1 := if gone = [] then s else s.purgeData gone
    s1.updLink (fun l => { l with serves := l.serves.filter (fun v => s.stableObj v.obj v.tile && !s.servedOut v) })

/-- The frames that an ACK acknowledges leave the resend buffer; waiting frames take their places (R372). -/
def State.ackPort (s0 : State) (n ack : Nat) : State :=
  let s := s0.dropServes
  let p := s.port_ n
  let base := (p.resend.head?).elim 0 (fun f => frd f FR.SEQ)
  let k := (ack + 257 - base) % 256
  if k = 0 ∨ p.resend.length < k then s
  else
    let room := 128 - (p.resend.length - k)
    (s.updPort n (fun q => { q with resend := q.resend.drop k, waiting := q.waiting.drop room })).each (p.waiting.take room) (fun u f => u.sendOn n f)

/-- A discarded frame is counted (R372). -/
def State.discard (s : State) (n : Nat) : State := s.bump (CL_PORT n)

/-- A frame arrives at a port: the fast clock must run for it (R315). HELLO is taken from HELLO on, AUTH in AUTH, all others in UP. One that
fails its CRC, or of class 1 or 2 that is not the next SEQ, is discarded, and so is one that a port in HELLO or AUTH does not take (R369, R372). -/
def State.takeFrame (s0 : State) (n : Nat) (f : LinkFrame) (k : State → State) : State :=
  let s := s0.restart
  let st := s.portState n
  let ty := frd f FR.TYPE
  if n < 4 ∧ (st = poUp ∨ (st = poAuth ∧ ty ≤ 2) ∨ (st = poHello ∧ ty = 1)) then
    let cls := frd f FR.CLASS
    if !frameOk f || (cls != 0 && frd f FR.SEQ != (s.port_ n).rxSeq) then s.discard n
    else
      let s1 := if cls = 0 then s else s.updPort n (fun p => { p with rxSeq := (p.rxSeq + 1) % 256 })
      k (s1.ackPort n (frd f FR.ACK))
  else if st = poHello ∨ st = poAuth then s.discard n
  else s0

/-- The same for a frame of one type. -/
def State.acceptType (s : State) (n ty : Nat) (f : LinkFrame) (k : State → State) : State :=
  if frd f FR.TYPE = ty then s.takeFrame n f k else s

/-- The same for a frame addressed to this instance. -/
def State.acceptMine (s : State) (n ty : Nat) (f : LinkFrame) (k : State → State) : State :=
  if frd f FR.DST = s.inst then s.acceptType n ty f k else s

/-- A control frame whose type and key repeat those of one already taken from its source is discarded (R373). -/
def State.once (s : State) (n : Nat) (f : LinkFrame) (id key : Nat) (k : State → State) : State :=
  let ty := frd f FR.TYPE
  let src := frd f FR.SRC
  if s.link.taken.contains (ty, src, id, key) then s.discard n
  else k (s.updLink (fun l => { l with
    taken := (ty, src, id, key) :: l.taken.filter (fun e => !((e.1 == ty) && (e.2.1 == src) && (e.2.2.1 == id))) }))

/-! ### Routes as CL_ROUTE holds them (R377) -/

def State.routeMask (s : State) (d : Nat) : Nat := s.rd (CL_ROUTE d) CL_ROUTE.PORTS
def State.routeHops (s : State) (d : Nat) : Nat := s.rd (CL_ROUTE d) CL_ROUTE.HOPS
/-- An instance is reachable: this one, or one with a route. -/
def State.reaches (s : State) (d : Nat) : Bool := d == s.inst || s.routeMask d != 0
/-- The ports of a mask. -/
def maskPorts (m : Nat) : List Nat := (List.range 4).filter (fun n => bit m n)

/-- A frame leaves on its route: the lowest port of the mask, the ports in turn for DATA; without a route it is discarded and counted at port
`n` (R372, R377, R378). -/
def State.routeFrom (s : State) (n : Nat) (f : LinkFrame) : State :=
  let ps := maskPorts (s.routeMask (frd f FR.DST))
  if ps = [] then s.discard n
  else if frd f FR.CLASS = 2 then
    (s.updLink (fun l => { l with spread := l.spread + 1 })).sendOn (ps.getD (s.link.spread % ps.length) 0) f
  else s.sendOn (ps.headD 0) f

/-- The port that counts a frame of this instance that has no route, since it was on no port: the lowest enabled one (DESIGN CHOICE, log entry
60). -/
def State.ownPort (s : State) : Nat := ((List.range 4).find? (fun n => s.portOn n)).getD 0

/-- A frame of this instance to another. -/
def State.sendTo (s : State) (dst type cls : Nat) (payload : List Word) : State :=
  s.routeFrom s.ownPort (mkFrame type dst s.inst cls payload)

/-- Link raises: cause and port (R391). -/
def State.linkRaise (s : State) (cause port : Nat) : State := s.raiseW { src := 31, sub := 16 * cause + port }

/-! ### A port falls (R370, R378, R380) -/

/-- The instance follows its parent: FOLLOW or OUT_OF_STEP (R380, R382). -/
def State.follows (s : State) : Bool := s.flag CL_TIME CL_TIME.SRC

/-- A port goes to another state with nothing in its buffers; frames addressed beyond the neighbour are kept for their new
routes (R378). -/
def State.clearPort (s : State) (n v : Nat) : State :=
  let p := s.port_ n
  let beyond := (p.resend ++ p.waiting).filter (fun f => decide (0x20 ≤ frd f FR.TYPE) && (frd f FR.DST != s.rd (CL_PORT n) CL_PORT.NEIGHBOUR))
  let up := s.portUp n
  let s1 := (s.setPort n v).updLink (fun l => { l with
    ports := tset (fun _ => {}) l.ports n {}
    reroute := if up then l.reroute ++ beyond.map (fun f => (n, f)) else l.reroute })
  if up && s.follows && (s.rd CL_TIME CL_TIME.PARENT == n) then s1.sourceLost else s1

/-! ### Leaving a job (R385) -/

abbrev jbSolo := 0
abbrev jbJoining := 1
abbrev jbMember := 2
abbrev jbLeader := 3
abbrev jbLeaving := 4

def State.jobState (s : State) : Nat := s.rd CL_JOB CL_JOB.STATE
def State.jobId (s : State) : Nat := s.rd CL_JOB CL_JOB.JOB_ID
def State.jobLeader (s : State) : Nat := s.rd CL_JOB CL_JOB.LEADER
def State.setJob (s : State) (v : Nat) : State := s.wr CL_JOB CL_JOB.STATE v

/-- JOB_ID as JOIN, ADMIT and LEAVE carry it. -/
def jobWord (id : Nat) : Word := (⟨63, 48⟩ : Fld).set 0 id

/-- The instance leaves its job now: LEAVE to a reachable leader, SOLO, no share received in a job any more and no agreement held, so that
its own r_need applies (R279, R288, R385, R388); it joins again unless host software made it leave. -/
def State.leaveNow (s : State) (again : Bool) : State :=
  if s.jobState = jbSolo then s
  else
    let ld := s.jobLeader
    let told := (s.jobState == jbMember || s.jobState == jbLeaving) && (ld != s.inst) && s.reaches ld
    let s1 := if told then s.sendTo ld 0x22 1 [jobWord s.link.job.id] else s
    let s2 := (((((s1.setJob jbSolo).wr CL_JOB CL_JOB.LEADER 0).wr CL_JOB CL_JOB.MEMBERS 0).wr CL_JOB CL_JOB.LAT 0).wr CG_STAT CG_STAT.SOLO 1).wr CG_SHARE
      CG_SHARE.VALID 0
    let s3 : State := { s2 with gov := { s2.gov with agreed := none } }
    s3.updJob (fun j => { rejoin := again, mine := j.mine, play := j.play })

/-- The instance leaves at the next window boundary, LEAVING until then; one that is still joining leaves at once (R385). -/
def State.leaveSoon (s : State) (again : Bool) : State :=
  if s.jobState = jbSolo then s
  else if s.jobState = jbJoining then s.leaveNow again
  else (s.setJob jbLeaving).updJob (fun j => { j with leavePend := true, rejoin := again })

/-! ### The end of a pull (R390) -/

def State.pullState (s : State) : Nat := s.rd CL_PULL_STAT CL_PULL_STAT.STATE
/-- OPENING, OFFERED or RUNNING. -/
def State.pulling (s : State) : Bool := decide (1 ≤ s.pullState) && decide (s.pullState ≤ 3)

/-- A pull ends FAILED with a result; a receiving image load is aborted (R390). -/
def State.endPull (s : State) (result : Nat) : State :=
  let s1 := ((s.wr CL_PULL_STAT CL_PULL_STAT.STATE 5).wr CL_PULL_STAT CL_PULL_STAT.RESULT result).updLink (fun l => { l with pull := {} })
  if s.pullState = 3 ∧ s.link.pull.obj ≠ 1 ∧ s.imgState = 1 ∧ s.load.link then s1.abortLoad else s1

/-- A failure other than a host ABORT raises LINK (R390). -/
def State.failPull (s : State) (result : Nat) : State := (s.endPull result).linkRaise 7 0xF

/-- CREDIT for words of a tile's object: those held in order, and all of it (R389). -/
def State.sendCredit (s : State) (tile held len : Nat) : State :=
  s.sendTo s.link.pull.src 0x33 1 [(⟨63, 56⟩ : Fld).set (BitVec.ofNat 64 (held % 2 ^ 32)) tile, BitVec.ofNat 64 len]

/-- A slice takes the words of a pull (R203, R389). -/
def State.sliceOpen (s : State) (t : Nat) : Bool := s.tileOk t && (s.dsState t == dsUnbound) && (s.rd (DS_CTRL t) DS_CTRL.SRC == 1)

/-- With the OFFER made and the receiving load started, the link sends its first CREDIT; a load of another LENGTH is aborted, and
the pull fails MISMATCH (R389). -/
def State.pullFeed (s : State) : State :=
  let p := s.link.pull
  let len := s.rd CL_PULL_STAT CL_PULL_STAT.LENGTH
  let (t, n) := p.offers.headD (0, 0)
  if s.pullState = 2 then
    if p.obj = 1 then (if s.sliceOpen t then (s.wr CL_PULL_STAT CL_PULL_STAT.STATE 3).sendCredit t 0 n else s)
    else if s.imgState = 1 ∧ s.load.link then
      (if s.load.len = len then (s.wr CL_PULL_STAT CL_PULL_STAT.STATE 3).sendCredit t 0 n else s.abortLoad.failPull 4)
    else s
  else s

/-! ### Reset and sleep (R392, R370, R315) -/

/-- Every enabled port goes to DETECT. -/
def State.allDetect (s : State) : State := s.each (List.range 4) (fun u n => if u.portState n = poOff then u else u.clearPort n poDetect)

/-- A BLOCK reset of the link (R392). -/
def State.linkReset (s : State) : State :=
  let s1 := s.leaveNow true
  let s2 := s1.allDetect.updLink (fun l => { l with reroute := [], serves := [] })
  if s2.pulling then s2.failPull 5 else s2

/-- Entering SLEEP leaves the lanes in signal detect (R317, R370). -/
def State.linkSleep (s : State) : State := s.allDetect.updLink (fun l => { l with reroute := [] })

/-- Coordination traffic is in progress: frames wait for their ACK, or a pull runs or is served (R315). -/
def State.linkBusy (s : State) : Bool :=
  s.pulling || !s.link.serves.isEmpty || (List.range 4).any (fun n => !(s.port_ n).resend.isEmpty || !(s.port_ n).waiting.isEmpty)

/-- Ports that became enabled go to DETECT, others OFF (R367). -/
def State.linkPorts (s : State) : State :=
  s.each (List.range 4) (fun u n =>
    if u.portOn n then (if u.portState n = poOff then u.clearPort n poDetect else u)
    else if u.portState n = poOff then u else u.clearPort n poOff)

/-- The fabric identity of an accepted image: INSTANCE, ROOT_PRIO, the enabled lanes; the job is left at the next window boundary
(R66, R72, R367, R385). -/
def State.linkIdentity (s : State) (inst prio lanes : Nat) : State :=
  let s1 := (s.wr CL_STAT CL_STAT.INSTANCE inst).wr CL_STAT CL_STAT.ROOT_PRIO prio
  (({ s1 with img := { s1.img with lanes := lanes } } : State).linkPorts).leaveSoon true

end Sys2Proof.Machine
end

