-- ==== Sys2Proof/Machine/Collect.lean ====
section
/-! DEFINITION. The fault collector: a raise opens or merges into an episode and its reaction is applied; block resets; what every command does last (R324-R334). -/

namespace Sys2Proof.Machine

open Sys2Proof

/-! ### The raise word and the reaction -/

/-- A raise in the layout of FC_FIRST (R332). -/
def raiseWord (r : Raise) (level : Nat) (err : Bool) (beat : Nat) : Word :=
  FC_FIRST.SRC.set (FC_FIRST.TILE.set (FC_FIRST.WELL.set (FC_FIRST.SUB.set (FC_FIRST.LEVEL.set
    (FC_FIRST.ERR.set (BitVec.ofNat 64 (beat % 2 ^ 32)) (b2n err)) level) r.sub) r.well) r.tile) r.src

/-- Block of a fault source (R325): 0 none, 1 Pumphouse, 2 sideband, 3 recorder port, 4 coordination link. -/
def blockOf (n : Nat) : Nat :=
  if n = 5 then 2
  else if n = 25 then 3
  else if n = 27 ∨ n = 31 then 4
  else if n = 4 ∨ (7 ≤ n ∧ n ≤ 13) ∨ (15 ≤ n ∧ n ≤ 21) ∨ n = 23 ∨ n = 29 ∨ n = 30 then 1
  else 0

/-- The collector asserts VP_ERR_N; a new assertion is an IBI event (R322, R326). -/
def State.assertErr (s : State) : State :=
  if s.flag FC_STAT FC_STAT.ERR then s else (s.wr FC_STAT FC_STAT.ERR 1).ibi 1

/-! ### Block resets (R329, R42, R364, R392) -/

/-- Clear the W1C status bits of the registers of a row that lie in Pumphouse `t`. -/
def w1cMask (a : Nat) : Nat :=
  match place a with
  | .pumphouse _ off => (findRow pumphouseRows 96 off).elim 0 (·.w1c)
  | .well _ _ off => (findRow wellRows 96 off).elim 0 (·.w1c)
  | _ => 0

/-- A Pumphouse's W1C status bits are cleared (R329). -/
def State.clearStatus (s : State) (t : Nat) : State :=
  let mine := (s.regs.cells.map (·.1)).filter (fun a => decide (phBase t ≤ a) && decide (a < phBase t + 0x10000))
  let s1 := s.each mine (fun u a => u.setReg a (u.reg a &&& ~~~(BitVec.ofNat 64 (w1cMask a))))
  (s1.updDs t (fun d => { d with gates := d.gates.map (fun e => (e.1, { e.2 with dup := false, extra := false, tmo := false })) })).gateHeld t

/-- The loop state of a well is cleared (R329). -/
def State.clearLoop (s : State) (t w : Nat) : State :=
  ((s.setReg (WL_LOOP0 t w) (regReset (WL_LOOP0 t w))).setReg (WL_LOOP1 t w) (regReset (WL_LOOP1 t w))).updLp t w
    (fun l => { bus := l.bus, mode := l.mode, vMean := l.vMean, vLocal := l.vLocal })

/-- The first cycle of a Pumphouse's reset (R329): hold wires and gate controls of all clusters, PEN of wells 0-13 (the
keeper's too under KEEPER), ties opened, the slice stopped; W1C bits and loop states cleared. -/
def State.pumphouseReset (s : State) (t : Nat) (keeper : Bool) : State :=
  let wells := List.range (if keeper then 15 else 14)
  let s1 := s.each (List.range 96) (fun u k => u.gateOn t k PH_CLPWR.C_DRY)
  let s2 := s1.each wells (fun u w => if u.wellOk t w then ((u.openTies t w).dropWell t w).clearLoop t w else u)
  (s2.stopSlice t).clearStatus t

/-- A reset of the sideband target (R42): without a dynamic address it answers as an I2C target (R41). -/
def State.sidebandReset (s : State) : State :=
  let s1 := ((s.wr HD_SB_STAT HD_SB_STAT.DYN_ADDR 0).wr HD_SB_STAT HD_SB_STAT.DA_VALID 0).wr HD_SB_STAT HD_SB_STAT.IBI_EN 0
  let s2 := s1.wr HD_SB_STAT HD_SB_STAT.MODE 0
  { s2 with sb := { s2.sb with todo := none } }

/-- A reset of the recorder port (R364): READY falls until the flash is scanned again; a clear accepted and not yet begun waits. -/
def State.recorderReset (s : State) : State :=
  let s1 := ((s.wr ER_STAT ER_STAT.READY 0).wr ER_STAT ER_STAT.FROZEN 0).wr ER_RD_STAT ER_RD_STAT.AVAIL 0
  let s2 := (s1.setReg ER_RD_PTR 0).setReg ER_RD_STAT (ER_RD_STAT.WORD.set (ER_RD_STAT.SLOT.set (s1.reg ER_RD_STAT) 0) 0)
  let redo := match s.rcd.op with
    | .erase u => .erase u
    | _ => .idle
  let lost := match s.rcd.op with
    | .program _ _ b => b
    | _ => false
  { s2 with rcd := { s2.rcd with op := redo, lostBefore := s2.rcd.lostBefore || lost, freezePend := false, clearFirst := false, buffer := [], fetching := false } }

/-- The block that a raise's reaction resets: a Pumphouse by its tile, 100 the recorder port, 101 the link, 102 the sideband. -/
def blockPlace (r : Raise) : Nat := if blockOf r.src = 1 then r.tile else if blockOf r.src = 2 then 102 else if blockOf r.src = 3 then 100 else 101

/-- A block's reset is in progress. -/
def State.nowResetting (s : State) (blk : Nat) : State :=
  { s with fault := { s.fault with resetting := s.fault.resetting.filter (· ≠ blk) ++ [blk] } }

/-- The block of source `n` is reset at the place of the detail (R329); FC_STAT.BUSY until it completes. -/
def State.blockReset (s : State) (r : Raise) : State :=
  let s1 := match blockOf r.src with
    | 1 => (s.pumphouseReset r.tile (decide (r.src = 4))).nowResetting (blockPlace r)
    | 2 => s.sidebandReset.nowResetting (blockPlace r)
    | 3 => s.recorderReset.nowResetting (blockPlace r)
    | 4 => s.linkReset.nowResetting (blockPlace r)
    | _ => s
  s1.wrb FC_STAT FC_STAT.BUSY (decide (s1.fault.resetting ≠ []))

/-! ### Reactions (R326-R331) -/

/-- A reaction, as FC_REACT holds it. -/
structure React where
  level : Nat
  err : Bool
  narrow : Bool
  seq : Nat
  prog : Nat
  deriving DecidableEq, Repr

/-- The reaction of a source; INT with ERR for sources 5-31 while no image is ACTIVE (R325, R328, R74). -/
def State.react (s : State) (n : Nat) : React :=
  let a := FC_REACT n
  if s.plain n then ⟨1, true, false, 0, 0⟩ else ⟨s.rd a FC_REACT.LEVEL, s.flag a FC_REACT.ERR, s.flag a FC_REACT.NARROW, s.rd a FC_REACT.SEQ, s.rd a FC_REACT.PROG⟩

/-- The raise resets a block: level BLOCK, not injected, and a place is named for a Pumphouse source (R329, R337). -/
def React.resets (x : React) (s : State) (r : Raise) : Bool :=
  (x.level == 4) && !r.injected && (blockOf r.src != 0) && !((blockOf r.src == 1) && !s.tileOk r.tile)

/-- The program of a reaction starts, or waits for the block reset of the same reaction (R326, R329). -/
def State.reactProgram (s : State) (r : Raise) (x : React) (resets : Bool) : State :=
  if x.level < 2 ∨ x.prog = 0 then s
  else if resets then { s with fault := { s.fault with progAfter := s.fault.progAfter ++ [(x.seq, x.prog, r, x.narrow)] } }
  else s.reactionStart x.seq x.prog r x.narrow

/-- The records a CHIP reaction waits for go to the head of the queue, behind the one that is being written (R357). -/
def chipFirst (writing : Bool) (q : List Rec) : List Rec :=
  let busy := if writing then q.take 1 else []
  let l := if writing then q.drop 1 else q
  busy ++ l.filter (·.chip) ++ l.filter (fun r => !r.chip)

/-- A record is being programmed. -/
def flashWriting : FlashOp → Bool
  | .program .. => true
  | _ => false

/-- A CHIP reaction waits for the episode's record, which goes to the head of the queue; the freeze ends (R330, R357, R360). -/
def State.chipReact (s : State) : State :=
  let s1 := s.wr ER_STAT ER_STAT.FROZEN 0
  let mark := fun r : Rec => if r.type = 8 then { r with chip := true } else r
  let q := s1.rcd.queue.map mark
  { s1 with fault := { s1.fault with chipPend := true }
            rcd := { s1.rcd with queue := chipFirst (flashWriting s1.rcd.op) q, freezePend := false } }

/-- A reaction is applied in full (R326). -/
def State.applyReaction (s : State) (r : Raise) (x : React) : State :=
  let resets := x.resets s r
  let s1 := s.on x.err State.assertErr
  let s2 := s1.on (decide (1 ≤ x.level)) (·.pend r.src)
  let s3 := s2.on (decide (3 ≤ x.level)) (·.wr FC_STAT FC_STAT.TRAP 1)
  let s4 := (s3.on resets (·.blockReset r)).reactProgram r x resets
  s4.on (decide (5 ≤ x.level)) State.chipReact

/-! ### Episodes (R332-R334) -/

/-- FC_RAISED0 and FC_RAISED1. -/
def State.markRaised (s : State) (n : Nat) : State :=
  s.setReg (FC_RAISED (n / 64)) (s.reg (FC_RAISED (n / 64)) ||| (1 <<< (n % 64)))

/-- The level a reaction is applied at: a BLOCK that resets nothing, no place being named, acts as TRAP (R329, R337; DEDUCED: RANK too). -/
def React.rank (x : React) (s : State) (r : Raise) : Nat := if x.level = 4 ∧ x.resets s r = false then 3 else x.level

/-- A raise opens an episode (R332). -/
def State.openEpisode (s : State) (r : Raise) : State :=
  let x := s.react r.src
  let word := raiseWord r x.level x.err s.clk.beat
  let s1 := ((s.wr FC_STAT FC_STAT.OPEN 1).wr FC_STAT FC_STAT.RANK (x.rank s r)).setReg FC_FIRST word
  let s2 := (s1.setReg FC_FIRST_T (s1.reg HD_AO_TIME)).markRaised r.src
  let s3 := (s2.record 8 r.src [word]).applyReaction r x
  (s3.fireTrigger r.src true word).wake 0x10

/-- A merged raise enters FC_LOG, or sets OVF (R334). -/
def State.logMerged (s : State) (word : Word) : State :=
  let n := s.rd FC_STAT FC_STAT.LOGN
  let m := s.rd FC_STAT FC_STAT.MERGED
  let s1 := if m = 0xFFFF then s else s.wr FC_STAT FC_STAT.MERGED (m + 1)
  if n < 16 then (s1.setReg (FC_LOG n) word).wr FC_STAT FC_STAT.LOGN (n + 1) else s1.wr FC_STAT FC_STAT.OVF 1

/-- A raise is merged into the open episode (R333); sources 1 to 4 follow R328. -/
def State.mergeRaise (s : State) (r : Raise) : State :=
  let x := s.react r.src
  let word := raiseWord r x.level x.err s.clk.beat
  let rank := s.rd FC_STAT FC_STAT.RANK
  let s1 := (s.logMerged word).markRaised r.src
  let s2 := if rank < x.rank s r then (s1.wr FC_STAT FC_STAT.RANK (x.rank s r)).applyReaction r x
    else if r.src ≤ 4 then s1.applyReaction r x else s1
  (s2.fireTrigger r.src false word).wake 0x10

/-- The raise of a thermal stop gives the stop's record its times (R350, R354). -/
def State.stampStop (s : State) (r : Raise) : State :=
  if r.src = 24 ∧ s.tileOk r.tile ∧ (s.tile r.tile).th.fired = none then
    s.updTile r.tile (fun x => { x with th := { x.th with fired := some (s.reg HD_AO_TIME, s.clk.beat) } })
  else s

/-- A raise reaches the collector (R332, R333). -/
def State.collect (s : State) (r : Raise) : State :=
  let s1 := ((s.bump (FC_COUNT r.src)).safeFault r).stampStop r
  if s1.flag FC_STAT FC_STAT.OPEN then s1.mergeRaise r else s1.openEpisode r

/-- Which of several raises of one cycle comes first: the lowest source, then the lowest tile (R332). -/
def Raise.before (a b : Raise) : Bool :=
  decide (a.src < b.src) || (decide (a.src = b.src) && (decide (a.tile < b.tile) ||
    (decide (a.tile = b.tile) && (decide (a.well < b.well) || (decide (a.well = b.well) && decide (a.sub ≤ b.sub))))))

/-- The first raise of a list in that order, and the others. -/
def takeFirst : List Raise → Option (Raise × List Raise)
  | [] => none
  | a :: l => match takeFirst l with
    | none => some (a, [])
    | some (b, r) => if a.before b then some (a, b :: r) else some (b, a :: r)

/-- The raises found in the Wellhead in this cycle are collected, each once; what a collection raises follows. Past the bound
what is left goes to the collector as a Pumphouse's raises do, so that none is lost. -/
def settleN : Nat → State → State
  | 0, s => { s with fault := { s.fault with now := [], inflight := s.fault.inflight ++ s.fault.now } }
  | n + 1, s =>
    if s.flag FC_STAT FC_STAT.OPEN then
      match s.fault.now with
      | [] => s
      | r :: l => settleN n ({ s with fault := { s.fault with now := l } }.collect r)
    else
      match takeFirst s.fault.now with
      | none => s
      | some (r, l) => settleN n ({ s with fault := { s.fault with now := l } }.collect r)

/-- The end of every command: nothing to do where the Wellhead raised nothing (R324). -/
def State.settle (s : State) : State :=
  if s.fault.now = [] then s else settleN (s.fault.now.length + 16) s

/-- Every command ends so: the next state, with the Wellhead's own raises collected. -/
def done (s : State) : Host.Outcome State Fault Refusal := .next s.settle

end Sys2Proof.Machine
end

