-- ==== Sys2Proof/Machine/Read.lean ====
section
/-! DEFINITION. What a read of a register returns (R36, R37): its stored word, with the fields that report other state computed. -/

namespace Sys2Proof.Machine

open Sys2Proof

abbrev rOkay := 0
abbrev rDenied := 1
abbrev rUnmapped := 2
abbrev rTimeout := 3

/-! ### Views of Wellhead state -/

/-- LC_STATE: STATE and SLOT are fuses (R48). -/
def State.viewLcState (s : State) (x : Word) : Word :=
  LC_STATE.STATE.set (LC_STATE.SLOT.set x s.fuses.slot) s.fuses.lcState

/-- A 384-bit value as six words, the first byte in bits [63:56] of word 0. -/
def word384 (v : BitVec 384) (i : Nat) : Word := v.extractLsb' (64 * (5 - i)) 64

/-- LC_CHAL reads zero unless RESULT is CHAL_READY. -/
def State.viewChal (s : State) (i : Nat) : Word :=
  if s.rd LC_AUTH_STAT LC_AUTH_STAT.RESULT = 1 then (s.lc.nonce.elim 0 (word384 · i)) else 0

/-- A LEVEL source's present level (R324, R325). -/
def State.levelIn (s : State) (n : Nat) : Bool :=
  if n = 145 then s.flag HD_SB_STAT HD_SB_STAT.MBOX_FULL
  else if n = 149 then s.flag CG_STAT CG_STAT.STOP_OFFER
  else s.fault.held.any (fun r => r.src == n)

/-- A bitmap of 64 sources from 64 i. -/
def bits64 (f : Nat → Bool) (i : Nat) : Word := (List.range 64).foldl (fun x j => if f (64 * i + j) then x ||| (1 <<< j) else x) 0

/-- IC_SRC with LEVEL_IN, IC_TGT with LEVEL and LINE, IC_PEND, IC_ACTIVE, FC_HELD. -/
def State.viewIc (s : State) (off : Nat) (x : Word) : Word :=
  if off < 0x10200 then
    let n := off - 0x10000
    if levelSource n then IC_SRC.LEVEL_IN.set x (b2n (s.levelIn n)) else x
  else if 0x10400 ≤ off ∧ off < 0x10408 then
    IC_TGT.LEVEL.set (IC_TGT.LINE.set x (b2n (s.irqLine (off - 0x10400)))) (s.tgtLevel (off - 0x10400))
  else if 0x10440 ≤ off ∧ off < 0x10448 then bits64 (fun n => s.flag (IC_SRC n) IC_SRC.PEND) (off - 0x10440)
  else if 0x10448 ≤ off ∧ off < 0x10450 then bits64 (fun n => s.flag (IC_SRC n) IC_SRC.ACTIVE) (off - 0x10448)
  else x

/-- A Wellhead register as read. -/
def State.viewWellhead (s : State) (off : Nat) (x : Word) : Word :=
  if off = LC_STATE then s.viewLcState x
  else if off = ER_PCC ∧ (s.flag ER_STAT ER_STAT.READY = false ∨ s.flag ER_STAT ER_STAT.NOFLASH) then 0
  else if off = 0x1004 then s.fuses.uid.extractLsb' 64 64
  else if off = 0x1005 then s.fuses.uid.extractLsb' 0 64
  else if 0x1008 ≤ off ∧ off < 0x100E then s.viewChal (off - 0x1008)
  else if off = HD_SAFE then s.fuses.safe
  else if off = HD_CLK then HD_CLK.OFFSET.seti x (roundDiv s.dcoNow 100)
  else if 0x10000 ≤ off ∧ off < 0x20000 then s.viewIc off x
  else if off = 0x20006 ∨ off = 0x20007 then bits64 (fun n => s.fault.held.any (fun r => r.src == n)) (off - 0x20006)
  else x

/-! ### Views of votes (R303-R311) -/

/-- GRACE_LEFT of WL_VOTE: the rest of DRY_GRACE in 16 us units (R310). -/
def State.dryGraceLeft (s : State) (t w : Nat) : Nat :=
  if s.holdsVote t w then 0
  else (s.rd (WL_VOTE_CFG t w) WL_VOTE_CFG.DRY_GRACE * 16000 - (s.clk.ns - (s.well t w).vo.graceAt.getD s.clk.resetAt) + 15999) / 16000

/-- PSTATE of WL_VOTE. -/
def State.pstate (s : State) (t w : Nat) : Nat :=
  if s.flag (WL_VOTE_CFG t w) WL_VOTE_CFG.VOTED = false ∨ s.owned t w then 5
  else if s.stage t w = stDry then 0
  else if s.stage t w = stPark then 3
  else if (s.mo t w).waking then 4
  else if s.holdsVote t w then 1 else 2

/-- WL_VOTE as read. -/
def State.viewVote (s : State) (t w : Nat) (x : Word) : Word :=
  let fed := fedClusters w
  let run := (fed.filter (fun k => s.wanted t k)).length
  let ret := if w < 12 then 0 else (fed.filter (fun k => s.rd (PH_CLPWR t k) PH_CLPWR.RETAIN != 0)).length
  WL_VOTE.RUN_CL.set (WL_VOTE.RETAIN_CL.set (WL_VOTE.GRACE_LEFT.set (WL_VOTE.PSTATE.set
    (WL_VOTE.HOST.set x (b2n (s.hostHold t w))) (s.pstate t w)) (s.dryGraceLeft t w)) ret) run

/-- GRACE_LEFT of PH_CLPWR: CL_GRACE or WAKE_GRACE remaining, in beats (R308). -/
def State.clGraceLeft (s : State) (t k : Nat) : Nat :=
  let cfg := WL_VOTE_CFG t (coreWell k)
  let c := s.cluster t k
  if s.wanted t k then 0
  else match c.graceBeat with
    | some b => s.rd cfg WL_VOTE_CFG.WAKE_GRACE * 16 - (s.clk.beat - b)
    | none => if s.flag (PH_CLPWR t k) PH_CLPWR.C_VOTE then 0 else s.rd cfg WL_VOTE_CFG.CL_GRACE - (s.clk.beat - c.unwanted)

/-! ### Views of the draw schedule -/

/-- Pump count a stream asks for at P: its raises, and its last LEVEL or lowered STEP; 0, every pump, until one is
named (R187). -/
def Stream.mReq (x : Stream) : Nat := if x.m = 0 then 0 else x.raises.foldl (fun m r => max m r.pumps) x.m

/-- DS_WELL as read. -/
def State.viewDsWell (s : State) (t l : Nat) : Word :=
  let x := s.stream t l
  let guard := (List.range 14).any (fun w => (s.sh t w).guard ≠ [] && (s.sh t w).guarded.contains l)
  DS_WELL.PC.set (DS_WELL.SEG.set (DS_WELL.STATE.set (DS_WELL.GUARD.set (DS_WELL.I_FC.seti (DS_WELL.M_REQ.set
    (DS_WELL.DEPTH.set 0 x.p.stk.length) x.mReq) x.p.cur) (b2n guard)) x.st) x.p.seg) x.p.pc

/-- A gate's record. -/
def State.gate (s : State) (t id : Nat) : GateX := tget (fun _ => {}) (s.ds t).gates id
def State.setGate (s : State) (t id : Nat) (g : GateX) : State :=
  s.updDs t (fun d => { d with gates := tset (fun _ => {}) d.gates id g })
def State.updGate (s : State) (t id : Nat) (f : GateX → GateX) : State := s.setGate t id (f (s.gate t id))

/-- The GATE or SYNC entry of an ID in the bound slice. -/
def State.gateEntry (s : State) (t id : Nat) : Option Entry := ((s.ds t).gateDecl.find? (fun e => e.1 = id)).map (·.2)

/-- Bits [hi:lo] of an entry. -/
def ebits (e : Entry) (hi lo : Nat) : Nat := (e.extractLsb' lo (hi + 1 - lo)).toNat
def ekind (e : Entry) : Nat := ebits e 31 28

/-- DS_GATE_VIEW as read: the gate SEL names. -/
def State.viewGate (s : State) (t : Nat) : Word :=
  let id := s.rd (DS_GATE_CTRL t) DS_GATE_CTRL.SEL
  let g := s.gate t id
  let e := s.gateEntry t id
  let waits := (List.range 14).any (fun l => (s.stream t l).st == 3 && (s.stream t l).p.gate == some id)
  let sync := e.any (fun e => ekind e == 0xB)
  let scope := sync || e.any (fun e => ebits e 19 19 == 1)
  DS_GATE_VIEW.COUNT0.set (DS_GATE_VIEW.COUNT1.set (DS_GATE_VIEW.DECL.set (DS_GATE_VIEW.PAR.set (DS_GATE_VIEW.WAIT.set
    (DS_GATE_VIEW.DONE.set (DS_GATE_VIEW.DUP.set (DS_GATE_VIEW.EXTRA.set (DS_GATE_VIEW.TMO.set (DS_GATE_VIEW.SCOPE.set
    (DS_GATE_VIEW.SYNC.set 0 (b2n sync)) (b2n scope)) (b2n g.tmo)) (b2n g.extra)) (b2n g.dup))
    (b2n (decide (g.released < g.rel.length)))) (b2n waits)) g.par) (e.elim 0 (fun e => ebits e 13 0))) g.c1) g.c0

/-- A Pumphouse register as read. -/
def State.viewPumphouse (s : State) (t off : Nat) (x : Word) : Word :=
  if 0x300 ≤ off ∧ off < 0x360 then PH_CLPWR.GRACE_LEFT.set x (s.clGraceLeft t (off - 0x300))
  else if off = 0x2008 then s.viewGate t
  else if 0x2010 ≤ off ∧ off < 0x201E then s.viewDsWell t (off - 0x2010)
  else if 0x2020 ≤ off ∧ off < 0x202E then BitVec.ofNat 64 (s.stream t (off - 0x2020)).pb
  else x

/-! ### A view of the in-field tests -/

/-- Always-on ticks in an operating hour. -/
def hourTicks : Nat := 117964800

/-- AGE_H and DEFER_H of WL_TEST (R231). -/
def State.viewTest (s : State) (t w : Nat) (x : Word) : Word :=
  let ao := (s.reg HD_AO_TIME).toNat
  let hours := fun (a : Nat) => (ao - a) / hourTicks
  WL_TEST.AGE_H.set (WL_TEST.DEFER_H.set x ((s.te t w).dueAt.elim 0 (fun a => min 255 (hours a)))) (hours (s.te t w).ageAt)

/-! ### Reads -/

/-- The pump of a per-pump register of a per-well block, if the offset is one. -/
def pumpOfOff (off : Nat) : Option Nat :=
  if 0x40 ≤ off ∧ off < 0x50 then some ((off - 0x40) / 4) else if 0x68 ≤ off ∧ off < 0x6C then some (off - 0x68) else none

/-- Thermal channel of TH_CH and TH_LIM offsets. -/
def thermalOfOff (off : Nat) : Option Nat :=
  if 0x800 ≤ off ∧ off < 0x860 then some (off - 0x800) else if 0x880 ≤ off ∧ off < 0x8E0 then some (off - 0x880) else none

/-- A thermal channel whose sensor or pump exists (R259). -/
def State.channelOk (s : State) (t ch : Nat) : Bool :=
  decide (ch < 24) || (decide (32 ≤ ch) && decide (ch < 92) && s.pumpOk t ((ch - 32) / 4) ((ch - 32) % 4))

/-- A reserved channel number of the housekeeping converters (R244); 0x7D and 0x7E are rotations. -/
def reservedChannel (ch : Nat) : Bool :=
  ch == 0x0F || ch == 0x1F || (decide (0x25 ≤ ch) && decide (ch < 0x30)) || (decide (0x48 ≤ ch) && decide (ch < 0x7D)) || decide (0x7F ≤ ch)

/-- An instance the map holds that addresses nothing (R4, R15, R244, R259, R323). -/
def State.emptyAt (s : State) (a : Nat) : Bool :=
  match place a with
  | .slot15 _ => true
  | .well t w off => (pumpOfOff off).any (fun p => decide (s.installed t w ≤ p))
  | .pumphouse t off => (thermalOfOff off).any (fun c => !s.channelOk t c) ||
    (decide (0xC80 ≤ off) && decide (off < 0xCC8) && reservedChannel (off - 0xC80))
  | .wellhead off =>
    (decide (0x54000 ≤ off) && decide (off < 0x54000 + 1536) && decide (off % 16 = 15)) ||
    (decide (0x10000 ≤ off) && decide (off < 0x10200) && !listedSource (off - 0x10000)) ||
    (decide (0x20100 ≤ off) && decide (off < 0x20180) && !listedSource (off - 0x20100)) ||
    (decide (0x20200 ≤ off) && decide (off < 0x20280) && !listedSource (off - 0x20200))
  | _ => false

/-- The line of the register index that an address falls on (R394). -/
def State.rowOf (s : State) (a : Nat) : Option RegRow :=
  match place a with
  | .wellhead off => findRow wellheadRows s.tileCount off
  | .pumphouse t off => if s.tileOk t then findRow pumphouseRows s.tileCount off else none
  | .well t _ off => if s.tileOk t then findRow wellRows s.tileCount off else none
  | _ => none

/-- A word of the schedule window: two entries of the page shown (R201). -/
def State.windowWord (s : State) (t o : Nat) : Word :=
  let i := 65536 * s.rd (DS_CTRL t) DS_CTRL.PAGE + 2 * o
  (s.entry t i).setWidth 64 <<< 32 ||| (s.entry t (i + 1)).setWidth 64

/-- What a mapped register reads: views in place, WO fields zero (R7). -/
def State.readWord (s : State) (a : Nat) (r : RegRow) : Word :=
  let x := s.reg a
  let v := match place a with
    | .wellhead off => s.viewWellhead off x
    | .pumphouse t off => s.viewPumphouse t off x
    | .well t w off => if off = 0x80 then s.viewVote t w x else if off = 0x64 then s.viewTest t w x else x
    | _ => x
  v &&& ~~~(BitVec.ofNat 64 r.wo)

/-- From the fall of PEN in a hard stop until the stop record has been sent the register slice of the tile does not answer (R269). -/
def State.silent (s : State) (t : Nat) : Bool := (s.rd (TH_STAT t) TH_STAT.STOP == 2) && (s.tile t).th.dropped

/-- The tile whose register slice serves an address. -/
def tileAt (a : Nat) : Option Nat :=
  match place a with
  | .pumphouse t _ => some t
  | .well t _ _ => some t
  | .window t _ => some t
  | .slot15 t => some t
  | _ => none

/-- No answer comes from the target of an access (R37, R269). -/
def State.unreached (s : State) (a : Nat) : Bool := (tileAt a).any (fun t => s.tileOk t && s.silent t)

/-- Response code and data of a read: TIMEOUT where the target does not answer (R37). A Pumphouse whose reset is in progress may answer
TIMEOUT too (R329); the model's reads of it answer (log entry 9). -/
def State.readReg (s : State) (a : Nat) : Nat × Word :=
  if s.unreached a then (rTimeout, 0)
  else match place a with
  | .broadcast _ => (rDenied, 0)
  | .nowhere => (rUnmapped, 0)
  | .slot15 t => if s.tileOk t then (rOkay, 0) else (rUnmapped, 0)
  | .window t o => if s.tileOk t then (rOkay, s.windowWord t o) else (rUnmapped, 0)
  | _ =>
    match s.rowOf a with
    | none => (rUnmapped, 0)
    | some r => if s.emptyAt a then (rOkay, 0) else (rOkay, s.readWord a r)

/-- Registers whose read has a side effect: IC_CLAIM and ER_RD_DATA (R40). -/
def sideRead (a : Nat) : Bool := (decide (0x10410 ≤ a) && decide (a < 0x10418)) || a == 0x3000A

end Sys2Proof.Machine
end

