-- ==== Sys2Proof/Machine/ConvBase.lean ====
section
/-! DEFINITION. The housekeeping converters: their state, their regular and injected sequences, and low-power mode (R244, R245, R249, R252). -/

namespace Sys2Proof.Machine

open Sys2Proof

/-! ### Parts of the converters' state -/

def State.sar (s : State) (t : Nat) : SarX := (s.tile t).sar
def State.updSar (s : State) (t : Nat) (f : SarX → SarX) : State := s.updTile t (fun x => { x with sar := f x.sar })

def SarX.conv (x : SarX) (n : Nat) : Conv := if n = 0 then x.c0 else if n = 1 then x.c1 else if n = 2 then x.c2 else x.c3

def SarX.setConv (x : SarX) (n : Nat) (c : Conv) : SarX :=
  if n = 0 then { x with c0 := c } else if n = 1 then { x with c1 := c } else if n = 2 then { x with c2 := c } else { x with c3 := c }

def State.conv (s : State) (t n : Nat) : Conv := (s.sar t).conv n
def State.updConv (s : State) (t n : Nat) (f : Conv → Conv) : State := s.updSar t (fun x => x.setConv n (f (x.conv n)))

def State.lpMode (s : State) (t : Nat) : Bool := s.flag (AD_STAT t) AD_STAT.LP

/-! ### Channels and sequences (R244, R245, R249, R252) -/

abbrev chBus := 0x20
abbrev chKeep := 0x21
abbrev chRefLo := 0x22
abbrev chRefHi := 0x23
abbrev chDieRot := 0x7D
abbrev chVsRot := 0x7E

/-- The channels of `n` 7-bit slots of a word, slot 0 highest at bit `top`; reserved numbers are ignored (R244). -/
def slotChannels (d : Word) (top n : Nat) : List Nat :=
  ((List.range n).map (fun j => (d.extractLsb' (top - 6 - 7 * j) 7).toNat)).filter (fun c => !reservedChannel c)

/-- The regular sequence of a converter (R245, R252). -/
def State.regular (s : State) (t n : Nat) : List Nat :=
  if n = 0 then List.range 8
  else if n = 1 then [8, 9, 10, 11, 12, 13, 14, chVsRot]
  else if n = 2 then
    if s.lpMode t then [chBus, 14, chBus, chKeep, chBus, chDieRot, chBus, chDieRot]
    else chBus :: List.replicate 24 chDieRot
  else slotChannels (s.reg (AD_RSEQ t)) 55 (min 8 (s.rd (AD_RSEQ t) AD_RSEQ.LEN))

/-- Which of the `n` slots of a word hold a channel number that is not reserved. -/
def slotNumbers (d : Word) (top n : Nat) : List Nat :=
  (List.range n).filter (fun j => !reservedChannel (d.extractLsb' (top - 6 - 7 * j) 7).toNat)

/-- The slot of an injected sequence whose channel is the k-th that it converts: its result's place in AD_INJRES (R249). -/
def State.injSlot (s : State) (t i k : Nat) : Nat :=
  (slotNumbers (s.reg (AD_INJ t i)) 27 (s.rd (AD_INJ t i) AD_INJ.NSLOT + 1)).getD k 0

/-- The channels of an injected sequence (R249). -/
def State.injected (s : State) (t i : Nat) : List Nat :=
  slotChannels (s.reg (AD_INJ t i)) 27 (s.rd (AD_INJ t i) AD_INJ.NSLOT + 1)

/-! ### Injected sequences and low power (R249, R252) -/

def State.setInjRun (s : State) (t : Nat) : State := s.wrb (AD_STAT t) AD_STAT.INJ_RUN (s.sar t).inj.isSome

/-- Converter 3 in low-power mode is powered for host sequences alone, and for a burst that has not ended (R252). -/
def State.power3 (s : State) (t : Nat) : State :=
  if s.lpMode t then s.wr (AD_STAT t) AD_STAT.CONV_ON (if (s.sar t).inj.isSome || (s.sar t).burst.isSome then 0xC else 4) else s

/-- A calibration of converter 3 is due and has a slot to take (R243). -/
def State.cal3 (s : State) (t : Nat) : Bool :=
  decide ((s.sar t).c3.cal ≠ 0) && (s.regular t 3 == [] || (s.regular t 3).any (fun c => c != chBus))

/-- Where converter 3 is free for it, the first waiting sequence goes on: no calibration due, no sequence and no burst running (R249). -/
def State.startInj (s : State) (t : Nat) : State :=
  let x := s.sar t
  match x.injPend with
  | e :: rest =>
    if x.inj.isNone && x.burst.isNone && !s.cal3 t then
      ((s.updSar t (fun x => { x with inj := some e, injPend := rest })).setInjRun t).power3 t
    else s
  | [] => s

def State.allDry (s : State) (t : Nat) : Bool := (List.range 14).all (fun w => s.stage t w == stDry)

/-- What low-power mode leaves of the converters' state: bursts that wait are dropped, and converter 2 alone is calibrated (R252). -/
def SarX.lowPower (x : SarX) : SarX := { x with
  c0 := { x.c0 with pos := 0, cal := 0 }
  c1 := { x.c1 with pos := 0, cal := 0 }
  c2 := { x.c2 with pos := 0 }
  c3 := { x.c3 with cal := 0 }
  burstPend := [] }

/-- Converters enter low-power mode (R252); a host sequence that runs or waits goes on. -/
def State.lowPower (s : State) (t : Nat) : State :=
  if s.allDry t && !s.flag (AD_CTRL t) AD_CTRL.LP_INHIBIT && !s.lpMode t then
    let s1 := s.each (s.sar t).burstPend (fun u _ => u.bump (AD_STAT t))
    (((s1.wr (AD_STAT t) AD_STAT.LP 1).updSar t SarX.lowPower).power3 t).startInj t
  else s

end Sys2Proof.Machine
end

