-- ==== Sys2Proof/Machine/HostBase.lean ====
section
/-! DEFINITION. The host port's answers and the plain effect of a register write (R7, R12, R34-R37, R396): what every write command shares. -/

namespace Sys2Proof.Machine

open Sys2Proof

/-! ### Answers -/

/-- HD_PORT_STAT counts a response other than OKAY and keeps its address and code (02_host_port.md). -/
def State.portError (s : State) (a code : Nat) : State :=
  if code = 0 then s
  else
    let s1 := (s.wr HD_PORT_STAT HD_PORT_STAT.LAST_ADDR a).wr HD_PORT_STAT HD_PORT_STAT.LAST_RESP code
    let s2 := s1.bumpFld HD_PORT_STAT HD_PORT_STAT.ERRORS
    s2.on (s2.rd HD_PORT_STAT HD_PORT_STAT.ERRORS == 0xFFFFFFFF) (·.wr HD_PORT_STAT HD_PORT_STAT.SAT 1)

/-- The oldest outstanding request is answered; read data is zero for any response other than OKAY (R34, R37). -/
def State.respond (s : State) (a code : Nat) (data : Word) : State :=
  let tag := (s.port.outstanding.head?).elim 0 (·.tag)
  let r : Resp := ⟨tag, code, if code = 0 then data else 0⟩
  ({ s with port := { outstanding := s.port.outstanding.tail, answered := s.port.answered ++ [r] } } : State).portError a code

/-- Plain reads at the head of the outstanding requests are served in order (R34); a write, and a read with a side effect,
waits for its own command, and any request of a silent tile for the tile or for PORT_TIMEOUT (R37). -/
def State.drainN : Nat → State → State
  | 0, s => s
  | n + 1, s =>
    match s.port.outstanding with
    | [] => s
    | q :: _ =>
      if q.we || sideRead q.addr || s.unreached q.addr then s
      else State.drainN n (s.respond q.addr (s.readReg q.addr).1 (s.readReg q.addr).2)

def State.drain (s : State) : State := State.drainN s.port.outstanding.length s

/-- Answer the request this command performs, then serve the reads behind it. -/
def State.answer (s : State) (a code : Nat) (data : Word) : State := (s.respond a code data).drain

/-! ### Writes -/

/-- Bits of reserved fields that a write of `d` would set (R7). -/
def State.reservedBits (s : State) (a : Nat) (d : Word) : Bool :=
  match s.rowOf a with
  | some r => !s.emptyAt a && (d &&& BitVec.ofNat 64 r.rsv != 0)
  | none => false

/-- The Pumphouse's engine and DPWM clocks have stopped or not yet locked (R313, R314). -/
def State.clocksOff (s : State) (t : Nat) : Bool := s.rd (PH_PWR t) PH_PWR.STATE != 0

/-- A register whose write sets a unit of those clocks to work: PH_ENG_CTRL, PH_RET_ARM, DS_CTRL and DS_GATE_CTRL, and of wells 0-13 PM_LINK
(an OFFSET measurement), WL_TEST (a test request), WL_LIMIT and PM_SVC (a return) (R24, R87, R128, R135, R197, R203, R231, R237). -/
def startsWork (a : Nat) : Bool :=
  match place a with
  | .pumphouse _ off => [0x230, 0x243, 0x2000, 0x2007].contains off
  | .well _ w off => decide (w < 14) && (off == 0x11 || off == 0x64 || (decide (0x68 ≤ off) && decide (off < 0x6C)) ||
      (decide (0x40 ≤ off) && decide (off < 0x50) && off % 4 == 0))
  | _ => false

/-- A write is held for a dry Pumphouse: the register shows its RW fields (R7), and its work waits until the Pumphouse goes wet (R37). -/
def State.holds (s : State) (a : Nat) : Bool := startsWork a && (tileAt a).any (fun t => s.clocksOff t)
def State.holdWrite (s : State) (a : Nat) (d : Word) : State :=
  match s.rowOf a, tileAt a with
  | some r, some t => (s.setReg a ((s.reg a &&& ~~~(BitVec.ofNat 64 r.rw)) ||| (d &&& BitVec.ofNat 64 r.rw))).updTile t (fun x => { x with
      held := x.held ++ [(a, d)] })
  | _, _ => s

/-- A host write at an address, which has no effect while its target does not answer (R37): refused by the model where a reserved field is set (R7 gives it no effect), UNMAPPED where no
register is, without effect where an empty instance is; else the effect, answered OKAY. -/
def hostOp (s : State) (a : Nat) (d : Word) (f : State → State) : Host.Outcome State Fault Refusal :=
  if s.reservedBits a d then .refused .reservedWrite
  else if s.unreached a then done s
  else if (s.rowOf a).isNone then done (s.answer a rUnmapped 0)
  else if s.emptyAt a then done (s.answer a rOkay 0)
  else done ((if s.holds a then s.holdWrite a d else f s).answer a rOkay 0)

/-- The count and the flags a zero write of a counter field clears (R12, R396): COUNT and SAT, and what the register's table names
beside them. -/
def clearCounter (a : Nat) (x : Word) : Word :=
  let y := ctrSat.set (ctrCount.set x 0) 0
  match place a with
  | .well _ _ 0x3D => WL_HOLD.PEAK_DEV.set y 0
  | .pumphouse _ 0x2004 => DS_NOTICE_STAT.BUSY_PEAK.set y 0
  | .pumphouse _ 0x2005 => DS_NOTICE_LATE.MALFORMED.set y 0
  | .pumphouse _ 0x2006 => DS_BREACH_STAT.NEXT.set y 0
  | _ => y

/-- A register's counter field is cleared if the write holds zero there, and left alone otherwise (R396). -/
def writeCounter (r : RegRow) (a : Nat) (d x : Word) : Word :=
  if r.cnt = 1 then (if ctrCount.get d = 0 then clearCounter a x else x)
  else if r.cnt = 2 then (if HD_PORT_STAT.ERRORS.get d = 0 then HD_PORT_STAT.SAT.set (HD_PORT_STAT.ERRORS.set x 0) 0 else x)
  else x

/-- The counter field's bits of a register. -/
def cntMask (r : RegRow) : Word := if r.cnt = 1 then ctrCount.mask else if r.cnt = 2 then HD_PORT_STAT.ERRORS.mask else 0

/-- The plain effect of a write (R7, R36): RW fields take the value, ones clear W1C bits, RO fields keep theirs. -/
def plainWord (r : RegRow) (a : Nat) (d x : Word) : Word :=
  let rw := BitVec.ofNat 64 r.rw &&& ~~~(cntMask r)
  let w1c := BitVec.ofNat 64 r.w1c
  writeCounter r a d (((x &&& ~~~rw) ||| (d &&& rw)) &&& ~~~(d &&& w1c))

/-- A write's plain effect on a register of the index. -/
def State.plainWrite (s : State) (a : Nat) (d : Word) : State :=
  match s.rowOf a with
  | some r => s.setReg a (plainWord r a d (s.reg a))
  | none => s

end Sys2Proof.Machine
end

