-- ==== Sys2Proof/Machine/MapOps.lean ====
section
/-! DEFINITION. The Region Capability Map as the player and the collector use it, shares of a logical well, and rest duties (R22, R185, R189, R274-R277, R289). -/

namespace Sys2Proof.Machine

open Sys2Proof

/-! ### The map (R289) -/

def State.mapAddr (t k : Nat) : Nat := PL_MAP (96 * t + k)

/-- Logical cluster a physical cluster carries, if any. -/
def State.logicalAt (s : State) (t k : Nat) : Option Nat :=
  let l := s.rd (PL_MAP (96 * t + k)) PL_MAP.LOGICAL
  if l < 96 then some l else none

/-- The physical cluster that carries a logical cluster. -/
def State.physOf (s : State) (t lk : Nat) : Option Nat := (List.range 96).find? (fun k => s.logicalAt t k == some lk)

/-- Core well slot a cluster number belongs to, and its SRAM slot (R190). -/
def logicalWells (lk : Nat) : List Nat := [coreWell lk, sramWell lk]

/-- How many of logical well L's logical clusters lie on physical well w (R22, R185). -/
def State.shareNum (s : State) (t l w : Nat) : Nat :=
  if (l < 12 ∧ w < 12) ∨ (12 ≤ l ∧ 12 ≤ w) then
    ((fedClusters w).filter (fun k => (s.logicalAt t k).any (fun lk => (logicalWells lk).contains l))).length
  else 0

/-- A logical well's current splits in eighths, an SRAM logical well's in 48ths; in 48ths both (R22, R185). -/
def State.share48 (s : State) (t l w : Nat) : Nat := if l < 12 then 6 * s.shareNum t l w else s.shareNum t l w

/-- The logical wells with a share in a physical well. -/
def State.logicalsOn (s : State) (t w : Nat) : List Nat := (List.range 14).filter (fun l => s.shareNum t l w != 0)

/-- The physical wells that carry a logical well. -/
def State.physOn (s : State) (t l : Nat) : List Nat := (List.range 14).filter (fun w => s.shareNum t l w != 0)

/-- Physical well w carries a logical cluster of logical well L: a cluster's core logical well rests with the SRAM well that feeds the
cluster too (R217, R275). -/
def State.carries (s : State) (t l w : Nat) : Bool :=
  (s.shareNum t l w != 0) ||
    (decide (l < 12) && decide (12 ≤ w) && (fedClusters w).any (fun k => (s.logicalAt t k).any (fun lk => coreWell lk == l)))

/-- A playing stream serves the physical well (R185). -/
def State.served (s : State) (t w : Nat) : Bool := (s.logicalsOn t w).any (fun l => (s.stream t l).live)

/-! ### Rest duties (R274-R277) -/

/-- What a source of rest applies from a frame boundary: the latest change decided at least LEAD beats before; a fall only once the duty
has stood for a full frame (R218, R266, R286). -/
def Rest.frame (r : Rest) (beat lead : Nat) : Rest :=
  let ready := r.pend.filter (fun e => decide (e.2 + lead ≤ beat))
  match ready.getLast? with
  | none => r
  | some e =>
    let later := r.pend.filter (fun e => !decide (e.2 + lead ≤ beat))
    if e.1 = r.app then { r with pend := later }
    else if r.app < e.1 ∨ r.appSince + 16 ≤ beat then { r with app := e.1, appSince := beat, pend := later }
    else r

/-- A new duty is decided; decisions before it still take effect at the frame boundaries they reach (R218). -/
def Rest.decide (r : Rest) (v beat : Nat) : Rest := if v = r.want then r else { r with want := v, pend := r.pend ++ [(v, beat)] }

def State.lead (s : State) (t : Nat) : Nat := s.rd (DS_CFG t) DS_CFG.LEAD

/-- Job rest from a frame boundary on: the committed duty from its apply beat (R287). -/
def State.jobRestAt (s : State) (beat : Nat) : Nat :=
  if s.gov.committed ∧ s.gov.nextAt ≤ beat then s.rd CG_STAT CG_STAT.R_NEXT else s.rd CG_STAT CG_STAT.R_JOB

/-- The duty of a logical well in the frame that begins at `beat`: the largest of its sources (R275). -/
def State.dutyFrom (s : State) (t l beat : Nat) : Nat :=
  let ld := s.lead t
  let wells := (List.range 14).filter (fun w => s.carries t l w)
  let pr := wells.foldl (fun m w => max m (max ((s.sh t w).pr.frame beat ld).app ((s.sh t w).th.frame beat ld).app)) 0
  max (s.jobRestAt beat) (max ((s.tile t).tr.frame beat ld).app pr)

/-- The duty applied to a logical well in the present frame (PH_REST.APPLIED). -/
def State.dutyNow (s : State) (t l : Nat) : Nat := s.rd (PH_REST t) ⟨4 * l + 3, 4 * l⟩

/-- Is a beat of the present frame or the next one a rest beat of the logical well? (R274) -/
def State.restBeat (s : State) (t l beat : Nat) : Bool :=
  let frame := s.clk.beat / 16
  let r := if beat / 16 ≤ frame then s.dutyNow t l else s.dutyFrom t l (beat / 16 * 16)
  decide (16 ≤ beat % 16 + r)

end Sys2Proof.Machine
end

