-- ==== Sys2Proof/Machine/SliceCheck.lean ====
section
/-! DEFINITION. The bind check: header, stream descriptors and the rules of the streams, in the order of R202 (R175-R183). -/

namespace Sys2Proof.Machine

open Sys2Proof

/-! ### Entries (R177) -/

def enEnd := 0x0
def enLevel := 0x1
def enStep := 0x2
def enRamp := 0x3
def enHold := 0x4
def enGate := 0x5
def enBranch := 0x6
def enLoop := 0x7
def enLoopEnd := 0x8
def enQuiet := 0x9
def enEnvelope := 0xA
def enSync := 0xB

/-- The current of a LEVEL, STEP or RAMP, in 1/64 A. -/
def eCur (e : Entry) : Int := signed 16 (ebits e 27 12)

/-- HOLD, RAMP, GATE and SYNC take time. -/
def takesTime (e : Entry) : Bool := let k := ekind e; k == 3 || k == 4 || k == 5 || k == 0xB

def isGate (e : Entry) : Bool := ekind e == 5 || ekind e == 0xB

/-- Kind, reserved fields and ranges of an entry (R177). -/
def entryOk (e : Entry) : Bool :=
  match ekind e with
  | 0x0 => ebits e 27 1 == 0
  | 0x1 => ebits e 27 27 == 0 && ebits e 11 4 == 0 && decide (ebits e 3 0 ≤ 4)
  | 0x2 => ebits e 27 27 == 0 && ebits e 11 4 != 0 && decide (ebits e 3 0 ≤ 4)
  | 0x3 => ebits e 27 27 == 0 && ebits e 11 0 != 0
  | 0x4 => ebits e 27 12 == 0 && ebits e 11 0 != 0
  | 0x5 => ebits e 14 14 == 0 && decide (ebits e 13 0 ≤ 12288) && (ebits e 13 0 != 0 || ebits e 19 19 == 1)
  | 0x6 => decide (ebits e 19 18 ≤ ebits e 17 16) && decide (2 ≤ ebits e 15 0)
  | 0x7 => ebits e 27 24 == 0 && ebits e 23 0 != 0
  | 0x8 => ebits e 27 0 == 0
  | 0x9 => ebits e 27 16 != 0 && ebits e 15 15 == 0
  | 0xA => true
  | 0xB => ebits e 19 19 == 0 && ebits e 14 14 == 0 && decide (ebits e 13 0 ≤ 12288)
  | _ => false

/-! ### Walking a stream's paths -/

/-- An enclosing loop (its LOOP entry and the passes left, the present one among them) or branch alternative (its BRANCH entry, end of the block, join). -/
inductive CFrame where
  | loop (head left : Nat)
  | alt (head blockEnd join : Nat)
  deriving DecidableEq, Repr

/-- A place on a path: the entry, what encloses it, and how many entries ran at this beat before it (R179). -/
structure Node where
  pc : Nat
  stk : List CFrame
  run : Nat
  deriving DecidableEq, Repr

/-- The passes of a loop that a walk makes: its COUNT, and no more than change what the checks carry: of a path with no time no more than
33 (R179), of one with time no more than the 65,520 beats of the longest QUIET (R177, R181). -/
def passes (count : Nat) : Nat := min count 70000

/-- What follows an entry on every path play can take: a LOOP's body runs COUNT times (R178, R181): places, without the run. -/
def nexts (e : Entry) (n : Node) : List (Nat × List CFrame) :=
  match ekind e with
  | 0x0 => if ebits e 0 0 = 1 then
      match n.stk with
      | .alt _ _ join :: r => [(join, r)]
      | _ => []
    else []
  | 0x6 =>
    let off := ebits e 15 0
    let alts := ebits e 17 16 + 1
    (List.range alts).map (fun a => (n.pc + 1 + a * off, .alt n.pc (n.pc + 1 + (a + 1) * off) (n.pc + 1 + alts * off) :: n.stk))
  | 0x7 => [(n.pc + 1, .loop n.pc (passes (ebits e 23 0)) :: n.stk)]
  | 0x8 => match n.stk with
    | .loop head left :: r => if 2 ≤ left then [(head + 1, .loop head (left - 1) :: r)] else [(n.pc + 1, r)]
    | _ => []
  | _ => if 0xB < ekind e then [] else [(n.pc + 1, n.stk)]

/-- The walk: every place reachable from the places still to visit; a run longer than 32 entries goes on, counted as 33 (R202). -/
def walk (ent : Nat → Entry) (len : Nat) : Nat → List Node → List Node → List Node
  | 0, _, seen => seen
  | _, [], seen => seen
  | f + 1, n :: todo, seen =>
    if seen.contains n then walk ent len f todo seen
    else if len ≤ n.pc then walk ent len f todo (n :: seen)
    else
      let e := ent n.pc
      let run := if takesTime e then 0 else min 33 (n.run + 1)
      walk ent len f ((nexts e n).map (fun x => ⟨x.1, x.2, run⟩) ++ todo) (n :: seen)

/-- More steps than any walk over a slice takes before it repeats itself. -/
def walkFuel : Nat := 2 ^ 200

/-! ### Structure (R179) -/

def loopDepth (l : List CFrame) : Nat := (l.filter (fun f => match f with | .loop _ _ => true | _ => false)).length

/-- The entry that breaks R179 at a place, if any. -/
def structErr (ent : Nat → Entry) (len : Nat) (n : Node) : Option Nat :=
  if len ≤ n.pc then some (len - 1)
  else
    let e := ent n.pc
    let outOfBlock := match n.stk with
      | .alt _ stop _ :: _ => decide (stop ≤ n.pc)
      | _ => false
    if outOfBlock then some (n.stk.head?.elim n.pc (fun f => match f with | .alt h _ _ => h | .loop h _ => h))
    else if n.run = 32 then some n.pc
    else match ekind e with
    | 0x0 =>
      if ebits e 0 0 = 1 then
        match n.stk with
        | .alt _ _ _ :: _ => none
        | .loop h _ :: _ => some h
        | [] => some n.pc
      else match n.stk with
        | [] => none
        | .loop h _ :: _ => some h
        | .alt _ _ _ :: _ => some n.pc
    | 0x6 =>
      if 12 ≤ n.stk.length then some n.pc
      else if len ≤ n.pc + 1 + ebits e 17 16 * ebits e 15 0 then some n.pc else none
    | 0x7 => if 12 ≤ n.stk.length ∨ 4 ≤ loopDepth n.stk then some n.pc else none
    | 0x8 => match n.stk with
      | .loop h _ :: _ =>
        if (List.range (n.pc - h)).any (fun i => takesTime (ent (h + i))) then none else some h
      | _ => some n.pc
    | _ => none

def least (l : List Nat) : Option Nat := l.foldl (fun m a => match m with | none => some a | some b => some (min a b)) none

/-! ### The prologue (R180) -/

/-- The first entry that breaks the prologue's order. -/
def prologueErr (ent : Nat → Entry) : Nat → Nat → Option Nat
  | 0, pc => some pc
  | f + 1, pc =>
    let k := ekind (ent pc)
    if k == 1 || k == 9 then prologueErr ent f (pc + 1) else if k == 5 || k == 0xB then none else some pc

/-! ### Rates and leads (R181, R182) -/

/-- A place with what the checks carry along a path: the current before it, the segment's ENVELOPE, beats left of the test
windows opened at an earlier beat and at this one, and GAP_eff and beats since the last gate. -/
structure PathSt where
  pc : Nat
  stk : List CFrame
  cur : Int
  seg : Nat
  qOld : Nat
  qNew : Nat
  gap : Nat
  since : Nat
  deriving DecidableEq, Repr

/-- The capability a stream was rated for (R176): N, Lp in nH and V_OP in the voltage encoding. -/
structure Rated where
  n : Nat
  lp : Nat
  vop : Nat

def envImax (e : Entry) : Nat := ebits e 27 16
def envRise (e : Entry) : Nat := ebits e 15 8
def envFall (e : Entry) : Nat := ebits e 7 0

/-- ENVELOPE within the rated capability: IMAX in 1/8 A against N x 28 A, rates in 2 A/us. -/
def envelopeOk (r : Rated) (e : Entry) : Bool :=
  decide (envImax e ≤ 224 * r.n) && decide (4 * envRise e * r.lp ≤ r.n * (10800 - r.vop)) &&
    decide (4 * envFall e * r.lp ≤ r.n * r.vop)

/-- A change of `d` over a time of `u` sixty-fourths of a microsecond keeps within RISE or FALL: `|d| / u` is in A/us. -/
def rateOk (env : Entry) (d : Int) (u : Nat) : Bool := decide (d.natAbs ≤ 2 * u * (if 0 ≤ d then envRise env else envFall env))

/-- R181 at a place. -/
def overRated (ent : Nat → Entry) (r : Rated) (p : PathSt) : Bool :=
  let e := ent p.pc
  let env := ent p.seg
  let within := decide (eCur e ≤ (8 * envImax env : Nat))
  match ekind e with
  | 0x1 => !within
  | 0x2 => !(within && rateOk env (eCur e - p.cur) (ebits e 11 4))
  | 0x3 => !(within && rateOk env (eCur e - p.cur) (16 * ebits e 11 0))
  | 0xA => !envelopeOk r e || p.qOld != 0
  | _ => false

/-- R182 at a place: a STEP less than LEAD beats after a gate. -/
def shortLead (ent : Nat → Entry) (lead minLead : Nat) (p : PathSt) : Bool :=
  ekind (ent p.pc) == 2 && decide (p.since < lead) && decide (p.gap + p.since < minLead)

/-- GAP_eff of a gate (R182). -/
def gapEff (e : Entry) : Nat :=
  let g := ebits e 18 15
  if ekind e = 0xB ∨ ebits e 19 19 = 1 then max g 4 else g

/-- What an entry does to what the path carries; `lead` bounds the count of beats since a gate. -/
def pathAfter (ent : Nat → Entry) (lead : Nat) (p : PathSt) : PathSt :=
  let e := ent p.pc
  let pass := fun (d : Nat) (q : PathSt) =>
    { q with qOld := max q.qOld q.qNew - d, qNew := 0, since := min lead (q.since + d) }
  match ekind e with
  | 0x1 => { p with cur := eCur e }
  | 0x2 => { p with cur := eCur e }
  | 0x3 => pass (ebits e 11 0) { p with cur := eCur e }
  | 0x4 => pass (ebits e 11 0) p
  | 0x5 => { pass 0 p with gap := gapEff e, since := 0 }
  | 0xB => { pass 0 p with gap := gapEff e, since := 0 }
  | 0x9 => { p with qNew := max p.qNew (16 * ebits e 27 16) }
  | 0xA => { p with seg := p.pc }
  | _ => p

/-- The walk with what the checks carry. -/
def pathWalk (ent : Nat → Entry) (lead : Nat) : Nat → List PathSt → List PathSt → List PathSt
  | 0, _, seen => seen
  | _, [], seen => seen
  | f + 1, p :: todo, seen =>
    if seen.contains p then pathWalk ent lead f todo seen
    else
      let q := pathAfter ent lead p
      pathWalk ent lead f ((nexts (ent p.pc) ⟨p.pc, p.stk, 0⟩).map (fun x => { q with pc := x.1, stk := x.2 }) ++ todo) (p :: seen)

/-! ### The whole check (R202) -/

/-- Codes of DS_STAT.ERR with the failing entry. -/
abbrev BindErr := Nat × Nat

/-- One stream under R177 and R179 to R182. -/
def streamErr (ent : Nat → Entry) (len start lead minLead : Nat) (r : Rated) : Option BindErr :=
  let nodes := walk ent len walkFuel [⟨start, [], 0⟩] []
  match least ((nodes.filter (fun n => decide (n.pc < len) && !entryOk (ent n.pc))).map (·.pc)) with
  | some i => some (0x7, i)
  | none =>
    match least (nodes.filterMap (structErr ent len)) with
    | some i => some (0x8, i)
    | none =>
      match (if ekind (ent start) = 0xA then prologueErr ent 262144 (start + 1) else some start) with
      | some i => some (0x9, i)
      | none =>
        let paths := pathWalk ent lead walkFuel [⟨start, [], 0, start, 0, 0, 0, lead⟩] []
        match least ((paths.filter (overRated ent r)).map (·.pc)) with
        | some i => some (0xB, i)
        | none => (least ((paths.filter (shortLead ent lead minLead)).map (·.pc))).map (fun i => (0xA, i))

/-- The GATE and SYNC entries a stream can reach. -/
def streamGates (ent : Nat → Entry) (len start : Nat) : List Nat :=
  ((walk ent len walkFuel [⟨start, [], 0⟩] []).map (·.pc)).filter (fun i => decide (i < len) && isGate (ent i))

/-- The BRANCH entries a stream can reach. -/
def streamBranches (ent : Nat → Entry) (len start : Nat) : List Nat :=
  ((walk ent len walkFuel [⟨start, [], 0⟩] []).map (·.pc)).filter (fun i => decide (i < len) && (ekind (ent i) == 6))

/-- R183: the lowest GATE or SYNC that disagrees with an earlier entry of its ID in kind, SCOPE, GAP or COUNT. -/
def gateErr (ent : Nat → Entry) (l : List Nat) : Option BindErr :=
  (least (l.filter (fun i => l.any (fun j => decide (j < i) && (ebits (ent j) 27 20 == ebits (ent i) 27 20) &&
    (ent j != ent i))))).map (fun i => (0xC, i))

/-- START and V_OP of logical well l (R175). -/
def streamStart (ent : Nat → Entry) (l : Nat) : Nat := ebits (ent (6 + l)) 29 12
def streamVop (ent : Nat → Entry) (l : Nat) : Nat := ebits (ent (6 + l)) 11 0

/-- A stream descriptor or header entry that fails (R202 check 6). -/
def State.descErr (s : State) (t : Nat) (ent : Nat → Entry) (len : Nat) : Option BindErr :=
  let bad := fun l =>
    let st := streamStart ent l
    ebits (ent (6 + l)) 31 30 != 0 || (st != 0 && (decide (st < 32) || decide (len ≤ st) || !s.voltedOk t l))
  (least (((List.range 14).filter bad).map (6 + ·) ++ ((List.range 11).map (20 + ·)).filter (fun i => ent i != 0))).map (fun i => (0x6, i))

/-- CRC-32C over the bytes of entries 0 to LEN - 1, entry 31 taken as zero (R175). -/
def sliceCrc (ent : Nat → Entry) (len : Nat) : BitVec 32 :=
  crc32c ((List.range len).flatMap (fun i => entryBytes (if i = 31 then 0 else ent i)))

def State.rated (s : State) (t l : Nat) (ent : Nat → Entry) : Rated := ⟨s.ratedN t l, s.lpNh t l, streamVop ent l⟩

/-- The streams, one at a time in ascending logical well, then R183 (R202 check 7). -/
def State.streamsErr (s : State) (t : Nat) (ent : Nat → Entry) (len : Nat) : Option BindErr :=
  let lead := s.rd (DS_CFG t) DS_CFG.LEAD
  let minLead := s.rd (DS_CFG t) DS_CFG.MIN_LEAD
  let ls := (List.range 14).filter (fun l => streamStart ent l != 0)
  match ls.findSome? (fun l => streamErr ent len (streamStart ent l) lead minLead (s.rated t l ent)) with
  | some e => some e
  | none => gateErr ent (ls.flatMap (fun l => streamGates ent len (streamStart ent l)))

/-- The first check of R202 that fails; none: the slice passes. -/
def State.bindErr (s : State) (t : Nat) : Option BindErr :=
  let ent := s.entry t
  let id := s.reg HD_IMG_ID
  let len := ebits (ent 4) 18 0
  if ent 0 ≠ 0x44534C31 then some (0x1, 0)
  else if !s.active || ent 2 != id.extractLsb' 32 32 || ent 3 != id.extractLsb' 0 32 then some (0x2, 0)
  else if ebits (ent 5) 31 8 ≠ 0 ∨ ebits (ent 5) 7 0 ≠ t then some (0x3, 0)
  else if ebits (ent 4) 31 19 ≠ 0 ∨ len < 32 ∨ 262144 < len then some (0x4, 0)
  else if ent 31 ≠ sliceCrc ent len then some (0x5, 0)
  else match s.descErr t ent len with
  | some e => some e
  | none => s.streamsErr t ent len

end Sys2Proof.Machine
end

