-- ==== Sys2Proof/Machine/Player.lean ====
section
/-! DEFINITION. The forecast player: cursors P and A, pre-bias, pump counts, branch decisions, breaches (R171-R189, R198-R200). -/

namespace Sys2Proof.Machine

open Sys2Proof

/-! ### Breaches (R170, R198-R200) -/

def bkCurrent := 1
def bkDidt := 2
def bkHold := 3
def bkWindow := 4
def bkLate := 5
def bkJump := 6
def bkQuiet := 7
def bkDrift := 8
def bkCapability := 9

/-- An entry of the breach log (DS_BREACH layout); SIDE 0 raises ENVELOPE_BREACH (R199). -/
def State.logBreach (s : State) (t l phys kind seg : Nat) (shared side1 : Bool) (pbeat : Nat) : State :=
  let n := s.rd (DS_BREACH_STAT t) DS_BREACH_STAT.NEXT
  let word : Word := DS_BREACH.SEG.set (DS_BREACH.LOGICAL.set (DS_BREACH.PHYS.set (DS_BREACH.KIND.set (DS_BREACH.SHARED.set
    (DS_BREACH.SIDE.set (BitVec.ofNat 64 (pbeat % 2 ^ 32)) (b2n side1)) (b2n shared)) kind) phys) l) seg
  let s1 := ((s.setReg (DS_BREACH t n) word).wr (DS_BREACH_STAT t) DS_BREACH_STAT.NEXT ((n + 1) % 16)).bump (DS_BREACH_STAT t)
  if side1 then s1 else s1.raisePh { src := 14, tile := t, well := phys, sub := kind }

/-- Time in ns since beat 0. -/
def State.beatNs (s : State) : Nat := 250 * s.clk.beat + (250 - s.clk.beatLeft)

/-- An entry of the breach log, unless one of its kind, segment and logical well was logged in this outer period of the physical well (R198).
Where there is no physical well the tile's outer periods are counted from beat 0 (DESIGN CHOICE, log entry 78). -/
def State.logOnce (s : State) (t l phys kind seg : Nat) (shared side1 : Bool) (pbeat : Nat) : State :=
  if phys < 15 then
    if (s.sh t phys).logged.contains (kind, l, seg) then s
    else (s.updSh t phys (fun h => { h with logged := (kind, l, seg) :: h.logged })).logBreach t l phys kind seg shared side1 pbeat
  else
    let n := s.beatNs * s.rd (PH_PWM t) PH_PWM.FREQ_KHZ / 8000000
    if (s.ds t).logged.contains (kind, l, seg, n) then s
    else (s.updDs t (fun d => { d with logged := (kind, l, seg, n) :: d.logged.filter (fun e => e.2.2.2 == n) })).logBreach t l phys kind seg
      shared side1 pbeat

/-- A physical well enters guard for a breach charged to a logical well (R200). -/
def State.enterGuard (s : State) (t l phys : Nat) : State :=
  let ls := (s.logicalsOn t phys).filter (fun l => (s.stream t l).live)
  s.updSh t phys (fun h => { h with guard := ls, guarded := l :: (if h.guard = [] then [] else h.guarded.filter (· ≠ l)) })

/-- A breach charged to a logical well at its segment at P (R199); SIDE 0 of kinds CURRENT, DIDT, HOLD and WINDOW puts the physical well in
guard (R200). -/
def State.charge (s : State) (t l phys kind : Nat) (shared side1 : Bool) : State :=
  let x := s.stream t l
  let s1 := s.logOnce t l phys kind x.p.seg shared side1 x.pb
  if kind ≤ 4 ∧ side1 = false ∧ phys < 14 then s1.enterGuard t l phys else s1

/-- A beat within two beats of a rest transition of a logical well on the physical well meets the time from `a` up to `b` (R170, R174). -/
def State.restClose (s : State) (t w a b : Nat) : Bool :=
  (s.ds t).restNear.any (fun e => (s.logicalsOn t w).contains e.1 && decide (a < 250 * e.2.2) && decide (250 * e.2.1 < b))

/-- SIDE 1 of R170: the well was SHORT, its CONT below its forecast, or a rest-beat transition lay within two beats of the breach: of its
moment, or of the outer period that a check at a boundary judges. -/
def State.sideValper (s : State) (t w kind : Nat) : Bool :=
  let now := s.beatNs
  let a := if kind = bkHold ∨ kind = bkWindow then now else now - 8000000 / max 1 (s.rd (PH_PWM t) PH_PWM.FREQ_KHZ)
  (s.rd (WL_CAP t w) WL_CAP.STATE == 1) || decide (s.rdi (WL_CAP t w) WL_CAP.CONT < (s.sh t w).fcast) || s.restClose t w a (now + 1)

/-- SIDE 1 of a breach without a physical well: a rest-beat transition of the logical well lies within two beats (R170). -/
def State.sideRest (s : State) (t l : Nat) : Bool :=
  (s.ds t).restNear.any (fun e => e.1 == l && decide (e.2.1 ≤ s.clk.beat) && decide (s.clk.beat < e.2.2))

/-- A breach found on a physical well: charged to every logical well with a share (R199); HOLD and WINDOW are logged for logical
wells that do not play too, with SEG 0 and SIDE 1. -/
def State.breachWell (s : State) (t w kind : Nat) : State :=
  let ls := s.logicalsOn t w
  let shared := decide (1 < ls.length)
  let side1 := s.sideValper t w kind
  s.each ls (fun u l =>
    if (u.stream t l).live then u.charge t l w kind shared side1
    else if kind = bkHold ∨ kind = bkWindow then u.logOnce t l w kind 0 shared true 0
    else u)

/-! ### Pre-bias and pump counts (R186, R187) -/

/-- A step's change over TT, declared di/dt |d| / TT in A/us, is faster than a wet physical well's present RISE or FALL, in 2 A/us (R188). -/
def State.tooSteep (s : State) (t w : Nat) (d : Int) (tt : Nat) : Bool :=
  s.wet t w && decide (2 * (s.rd (WL_CAP t w) (if 0 ≤ d then WL_CAP.RISE else WL_CAP.FALL)) * tt < d.natAbs)

/-- A passes a STEP: an offset of R_LL x change from A's beat until the step's beat plus DECAY, and its PUMPS (R186, R187); `steep` are the
physical wells it is too steep for. -/
def Stream.passStep (x : Stream) (e : Entry) (decay : Nat) (steep : List Nat) : Stream :=
  let d := eCur e - x.a.cur
  let pumps := ebits e 3 0
  { x with
    a := { x.a with cur := eCur e, pc := x.a.pc + 1 }
    offs := x.offs ++ [(x.ab + decay, d)]
    raises := if pumps = 0 then x.raises else x.raises ++ [⟨x.ab + decay, pumps, x.ab, false⟩]
    declared := x.declared ++ [⟨x.ab, d, ebits e 11 4, steep⟩] }

/-- P executes a STEP: a LEVEL after it may set m over its PUMPS (R187). -/
def Stream.reach (x : Stream) (e : Entry) : Stream :=
  let mark := fun (acc : List Raised × Bool) (r : Raised) =>
    if acc.2 = false ∧ r.reached = false ∧ r.beat = x.pb then (acc.1 ++ [{ r with reached := true }], true) else (acc.1 ++ [r], acc.2)
  { x with
    p := { x.p with cur := eCur e, pc := x.p.pc + 1 }
    raises := if ebits e 3 0 = 0 then x.raises else (x.raises.foldl mark ([], false)).1 }

/-- A step beyond the present capability of physical wells: every pump in service until the step's beat plus DECAY, and a CAPABILITY breach
with SIDE 1, charged to every logical well with a share (R188, R199); the wells are remembered for R291. -/
def State.capBreach (s : State) (t l : Nat) (b decay : Nat) (ws : List Nat) : State :=
  let s1 := s.updStream t l (fun x => { x with mAll := max x.mAll (b + decay) })
  s1.each ws (fun u w =>
    let ls := u.logicalsOn t w
    let v := u.each (ls.filter (fun l => (u.stream t l).live)) (fun v l => v.charge t l w bkCapability (decide (1 < ls.length)) true)
    let keys := (ls.filter (fun l => (u.stream t l).live)).map (fun l => 16 * (16 * t + w) + l)
    { v with plan := { v.plan with breached := keys ++ v.plan.breached.filter (fun g => !keys.contains g) } })

/-- At an outer boundary the STEPs that A has passed and P has not are held against the well's capability now (R188, R204). -/
def State.recheckSteps (s : State) (t w : Nat) : State :=
  let decay := s.rd (DS_CFG t) DS_CFG.DECAY
  s.each ((s.logicalsOn t w).filter (fun l => (s.stream t l).live)) (fun u l =>
    let x := u.stream t l
    let due := fun (e : Declared) => decide (x.pb ≤ e.beat) && !e.wells.contains w && u.tooSteep t w e.change e.tt
    u.each (x.declared.filter due) (fun v e =>
      (v.updStream t l (fun y => { y with declared := y.declared.map (fun f => if f = e then { f with wells := w :: f.wells } else f) })).capBreach
        t l e.beat decay [w]))

/-! ### Branches (R193) -/

def State.branch (s : State) (t l id : Nat) : BranchX := tget (fun _ => {}) (s.ds t).branches (256 * l + id)
def State.setBranch (s : State) (t l id : Nat) (b : BranchX) : State :=
  s.updDs t (fun d => { d with branches := tset (fun _ => {}) d.branches (256 * l + id) b })

/-- The alternative A takes: the highest ALT collected in the round of the expected parity, else DEFAULT; an ALT above NALT is
NALT (R193). -/
def State.decideBranch (s : State) (t l : Nat) (e : Entry) : State × Nat :=
  let id := ebits e 27 20
  let b := s.branch t l id
  let nalt := ebits e 17 16
  let alt := min nalt ((if b.expect = 0 then b.r0 else b.r1).getD (ebits e 19 18))
  let b1 : BranchX := { b with
    r0 := if b.expect = 0 then none else b.r0
    r1 := if b.expect = 0 then b.r1 else none
    expect := 1 - b.expect
    decided := some b.expect
    played := alt
    nalt := nalt }
  (s.setBranch t l id b1, alt)

/-- Rounds of a gate that a cursor has passed, and one more. -/
def Cursor.passedOf (c : Cursor) (id : Nat) : Nat := ((c.passed.find? (fun e => e.1 = id)).map (·.2)).getD 0
def Cursor.pass (c : Cursor) (id : Nat) : Cursor :=
  { c with passed := (id, c.passedOf id + 1) :: c.passed.filter (fun e => e.1 ≠ id), gate := none, pc := c.pc + 1 }

/-- The cursor after an entry of control flow: END JOIN, LOOP, LOOPEND, a BRANCH whose alternative is known. -/
def Cursor.jump (c : Cursor) (e : Entry) (alt : Nat) : Cursor :=
  match ekind e with
  | 0x0 => if ebits e 0 0 = 1 then
      match c.stk with
      | .branch j :: r => { c with pc := j, stk := r }
      | _ => { c with ended := true }
    else { c with ended := true }
  | 0x6 =>
    let off := ebits e 15 0
    { c with pc := c.pc + 1 + alt * off, stk := .branch (c.pc + 1 + (ebits e 17 16 + 1) * off) :: c.stk }
  | 0x7 => { c with pc := c.pc + 1, stk := .loop (c.pc + 1) (ebits e 23 0) :: c.stk }
  | 0x8 => match c.stk with
    | .loop body left :: r => if 2 ≤ left then { c with pc := body, stk := .loop body (left - 1) :: r } else { c with pc := c.pc + 1, stk := r }
    | _ => { c with ended := true }
  | _ => { c with pc := c.pc + 1 }

/-- The cursor enters a HOLD or a RAMP. -/
def Cursor.enter (c : Cursor) (e : Entry) : Cursor :=
  let d := ebits e 11 0
  if ekind e = 3 then { c with left := d, dur := d, rampFrom := c.cur, rampTo := eCur e }
  else { c with left := d, dur := d, rampFrom := c.cur, rampTo := c.cur }

/-- One beat of a HOLD or RAMP: the forecast moves by 1/DUR of the change, the last boundary lands on I (R178). -/
def Cursor.beat (c : Cursor) : Cursor :=
  let left := c.left - 1
  let cur := c.rampFrom + roundDiv ((c.rampTo - c.rampFrom) * ((c.dur - left : Nat) : Int)) c.dur
  { c with left := left, cur := cur, pc := if left = 0 then c.pc + 1 else c.pc }

/-! ### The look-ahead cursor A (R184) -/

/-- The wafer beat at which P is expected at A's place: P waits at each gate on the way for its release (R184). -/
def Stream.aWall (x : Stream) : Nat :=
  let e := x.ahead.foldl (fun (e : Nat × Nat) g => (g.1, max (e.2 + (g.1 - e.1)) g.2)) (x.pb, x.wall)
  e.2 + (x.ab - e.1)

/-- A passes a gate whose release beat is known (R184). -/
def Stream.aPass (x : Stream) (id br : Nat) : Stream := { x with a := x.a.pass id, ahead := x.ahead ++ [(x.ab, br)] }

/-- A's walk: it executes what it passes until it stands beyond `limit`, at a gate that has not completed, or at
the end. -/
def State.runA : Nat → Nat → Nat → Nat → State → State
  | 0, _, _, _, s => s
  | f + 1, limit, t, l, s =>
    let x := s.stream t l
    let decay := s.rd (DS_CFG t) DS_CFG.DECAY
    if x.a.ended ∨ limit < x.aWall then s
    else if 0 < x.a.left then
      if x.aWall < limit then State.runA f limit t l (s.updStream t l (fun x => { x with a := x.a.beat, ab := x.ab + 1 }))
      else s
    else
      let e := s.entry t x.a.pc
      match ekind e with
      | 0x1 => State.runA f limit t l (s.updStream t l (fun x => { x with a := { x.a with cur := eCur e, pc := x.a.pc + 1 } }))
      | 0x2 =>
        let d := eCur e - x.a.cur
        let steep := (s.physOn t l).filter (fun w => s.tooSteep t w d (ebits e 11 4))
        let s1 := s.updStream t l (fun x => x.passStep e decay steep)
        State.runA f limit t l (if steep = [] then s1 else s1.capBreach t l x.ab decay steep)
      | 0x3 => State.runA f limit t l (s.updStream t l (fun x => { x with a := x.a.enter e }))
      | 0x4 => State.runA f limit t l (s.updStream t l (fun x => { x with a := x.a.enter e }))
      | 0x6 =>
        let r := s.decideBranch t l e
        State.runA f limit t l (r.1.updStream t l (fun x => { x with a := x.a.jump e r.2, choices := x.choices ++ [r.2] }))
      | 0x9 => State.runA f limit t l (s.updStream t l (fun x => { x with a := { x.a with pc := x.a.pc + 1 } }))
      | 0xA => State.runA f limit t l (s.updStream t l (fun x => { x with a := { x.a with seg := x.a.pc, pc := x.a.pc + 1 } }))
      | 0x5 =>
        let id := ebits e 27 20
        match (s.gate t id).rel[x.a.passedOf id]? with
        | some br => State.runA f limit t l (s.updStream t l (fun x => x.aPass id br))
        | none => s.updStream t l (fun x => { x with a := { x.a with gate := some id } })
      | 0xB =>
        let id := ebits e 27 20
        match (s.gate t id).rel[x.a.passedOf id]? with
        | some br => State.runA f limit t l (s.updStream t l (fun x => x.aPass id br))
        | none => s.updStream t l (fun x => { x with a := { x.a with gate := some id } })
      | _ => State.runA f limit t l (s.updStream t l (fun x => { x with a := x.a.jump e 0 }))

/-- Enough for every entry A can pass in LEAD beats: 32 at one beat (R179). -/
def aFuel : Nat := 4096

/-- A moves to its limit: LEAD beats of wall time ahead (R184). -/
def State.moveA (s : State) (t l : Nat) : State := State.runA aFuel (s.clk.beat + s.lead t) t l s

/-! ### The present cursor P (R184) -/

/-- P passes an ENVELOPE: its segment; the guard of its physical wells no longer waits for it (R200). -/
def State.passEnvelope (s : State) (t l : Nat) : State :=
  let s1 := s.updStream t l (fun x => { x with p := { x.p with seg := x.p.pc, pc := x.p.pc + 1 } })
  s1.each (List.range 14) (fun u w => u.updSh t w (fun h => { h with guard := h.guard.filter (· ≠ l) }))

/-- A declared step or ramp inside a test window: a QUIET breach on the wet physical wells that carry the stream, charged to every logical well
with a share, and the test step in progress there is abandoned; with the last of them DRY it is logged on no well (R168, R199, R204). -/
def State.quietStep (s : State) (t l : Nat) : State :=
  if (s.stream t l).quiet = [] then s
  else
    let ws := (s.physOn t l).filter (fun w => s.wet t w)
    (s.on ws.isEmpty (·.charge t l 0xF bkQuiet false false)).each ws (fun u w => (u.breachWell t w bkQuiet).updTe t w (fun x => { x with broken := true }))

/-- P executes a LEVEL: a change above LEVEL_TOL after the first gate is a LEVEL_JUMP (R178). -/
def State.passLevel (s : State) (t l : Nat) (e : Entry) : State :=
  let x := s.stream t l
  let tol := 8 * s.rd (DS_CFG t) DS_CFG.LEVEL_TOL
  let jump := x.anchored && decide (tol < (eCur e - x.p.cur).natAbs)
  let pumps := ebits e 3 0
  let s1 := s.updStream t l (fun x => { x with
    p := { x.p with cur := eCur e, pc := x.p.pc + 1 }
    m := if pumps = 0 then x.m else pumps
    raises := if pumps = 0 then x.raises else x.raises.filter (fun r => !r.reached) })
  if jump then s1.charge t l 0xF bkJump false (s1.sideRest t l) else s1

/-- P executes the entries at its beat until one that takes time, a gate, or the end (R184). -/
def State.runP : Nat → Nat → Nat → State → State
  | 0, _, _, s => s
  | f + 1, t, l, s =>
    let x := s.stream t l
    if x.p.ended ∨ 0 < x.p.left ∨ x.p.gate ≠ none then s
    else
      let e := s.entry t x.p.pc
      match ekind e with
      | 0x1 => State.runP f t l (s.passLevel t l e)
      | 0x2 => State.runP f t l ((s.quietStep t l).updStream t l (fun x => x.reach e))
      | 0x3 => (s.quietStep t l).updStream t l (fun x => { x with p := x.p.enter e })
      | 0x4 => s.updStream t l (fun x => { x with p := x.p.enter e })
      | 0x6 => State.runP f t l (s.updStream t l (fun x => { x with p := x.p.jump e (x.choices.headD (ebits e 19 18)), choices := x.choices.tail }))
      | 0x9 => State.runP f t l (s.updStream t l (fun x => { x with
          p := { x.p with pc := x.p.pc + 1 }
          quiet := (x.pb + 16 * ebits e 27 16, signed 16 (ebits e 15 0)) :: x.quiet }))
      | 0xA => State.runP f t l (s.passEnvelope t l)
      | 0x5 => s.updStream t l (fun x => { x with p := { x.p with gate := some (ebits e 27 20) } })
      | 0xB => s.updStream t l (fun x => { x with p := { x.p with gate := some (ebits e 27 20) } })
      | _ => State.runP f t l (s.updStream t l (fun x => { x with p := x.p.jump e 0 }))

/-- P passes the gate it stands at: the stream goes on (R196). -/
def Stream.goOn (x : Stream) (id : Nat) : Stream :=
  { x with p := x.p.pass id, ahead := x.ahead.tail, st := 2, anchored := true, lastGate := x.pb, drifted := false }

/-- P at a gate: passed at once where its round has been released already, else the stream waits (R184, R196). -/
def State.atGate : Nat → Nat → Nat → State → State
  | 0, _, _, s => s
  | f + 1, t, l, s =>
    let s1 := State.runP 64 t l s
    let x := s1.stream t l
    match x.p.gate with
    | none => s1
    | some id =>
      if x.p.passedOf id < (s1.gate t id).released then State.atGate f t l (s1.updStream t l (fun x => x.goOn id))
      else if x.st = 3 then s1
      else s1.updStream t l (fun x => { x with st := 3 })

/-- What ends at the stream's program beat: offsets, raises (m lowers), test windows, declared steps (R178, R186, R187, R204). -/
def Stream.expire (x : Stream) : Stream :=
  let due := x.raises.filter (fun r => r.stop ≤ x.pb)
  { x with
    offs := x.offs.filter (fun e => x.pb < e.1)
    raises := x.raises.filter (fun r => x.pb < r.stop)
    m := due.foldl (fun _ r => r.pumps) x.m
    declared := x.declared.filter (fun e => x.pb ≤ e.beat)
    quiet := x.quiet.filter (fun q => x.pb < q.1) }

/-- 65,536 program beats without a GATE or SYNC: a DRIFT breach, once (R173). -/
def State.drift (s : State) (t l : Nat) : State :=
  let x := s.stream t l
  if x.lastGate + 65536 ≤ x.pb ∧ x.drifted = false then
    (s.updStream t l (fun x => { x with drifted := true })).charge t l 0xF bkDrift false (s.sideRest t l)
  else s

/-- One beat of a playing stream (R184). -/
def State.streamBeat (s : State) (t l : Nat) : State :=
  let s1 := State.atGate 8 t l (s.updStream t l Stream.expire)
  let x := s1.stream t l
  let s2 :=
    if x.p.ended then s1.updStream t l (fun x => { x with st := 4, quiet := [], offs := [], raises := [], declared := [] })
    else if x.p.gate ≠ none then s1.updStream t l (fun x => { x with wall := s.clk.beat + 1 })
    else (s1.updStream t l (fun x => { x with p := x.p.beat, pb := x.pb + 1, wall := s.clk.beat + 1 })).drift t l
  if (s2.stream t l).live then s2.moveA t l else s2

/-- A stream in a rest beat: both cursors hold (R174), and P goes on no earlier than in the next beat. -/
def State.streamRest (s : State) (t l : Nat) : State := s.updStream t l (fun x => { x with wall := s.clk.beat + 1 })

/-! ### What the player gives the wells (R185-R189, R277) -/

/-- i_ff of a physical well in 1/64 A: the shares of its playing streams' currents; a resting logical cluster contributes REST_I
(R185, R277). -/
def State.wellForecast (s : State) (t w : Nat) : Int :=
  let restI := s.rdi CG_CFG1 CG_CFG1.REST_I
  let n := ((s.logicalsOn t w).filter (fun l => (s.stream t l).live)).foldl (fun (a : Int) l =>
    if (s.ds t).resting.contains l then a + 48 * restI * (s.shareNum t l w : Nat)
    else a + (s.stream t l).p.cur * (s.share48 t l w : Nat)) 0
  roundDiv n 48

/-- Offsets of a logical well's stream and of its rest transitions in force (R174, R186). -/
def State.offsetSum (s : State) (t l : Nat) : Int :=
  (s.stream t l).offs.foldl (fun (a : Int) e => a + e.2) 0 +
    ((s.ds t).restOffs.filter (fun e => e.1 = l)).foldl (fun (a : Int) e => a + e.2.2) 0

/-- V_pre of a physical well in 2^-16 mV: R_LL (uOhm) x the offsets' shares (1/64 A), clamped to PB_MAX (0.5 mV) (R186). -/
def State.wellPrebias (s : State) (t w : Nat) : Int :=
  let ls := (s.logicalsOn t w).filter (fun l => (s.stream t l).live)
  let sum := ls.foldl (fun (a : Int) l => a + s.offsetSum t l * (s.share48 t l w : Nat)) 0
  let v := roundDiv (sum * (s.rd (WL_OUTER t w) WL_OUTER.R_LL : Nat) * 65536) (48 * 64000)
  let m : Int := (s.rd (DS_CFG t) DS_CFG.PB_MAX : Nat) * 32768
  clampI (-m) m v

/-- The pump count asked of a physical well: 0 for every pump in service (R187, R188, R200). -/
def State.wellPumps (s : State) (t w : Nat) : Nat :=
  match s.logicalsOn t w with
  | [l] =>
    let x := s.stream t l
    if x.live = false ∨ (s.sh t w).guard ≠ [] ∨ x.pb < x.mAll then 0 else x.mReq
  | _ => 0

/-- The forecast for the coming segment: the IMAX shares at A of the segments the well's logical wells are in (R188), in 1/64 A. -/
def State.wellSegment (s : State) (t w : Nat) : Int :=
  let n := ((s.logicalsOn t w).filter (fun l => (s.stream t l).live)).foldl (fun a l =>
    a + 8 * envImax (s.entry t (s.stream t l).a.seg) * s.share48 t l w) 0
  (roundDiv (n : Nat) 48)

/-- The player's figures of a physical well; V_pre keeps its value in a rest beat of one of its logical wells (R174). No share falls on a DRY
well (R204). -/
def State.applyWell (s : State) (t w : Nat) : State :=
  if s.served t w && s.wet t w then
    let hold := (s.logicalsOn t w).any (fun l => (s.ds t).resting.contains l)
    let x := s.well t w
    s.setWell t w { x with
      lp := { x.lp with
        iFF := s.wellForecast t w
        vPre := if hold then x.lp.vPre else s.wellPrebias t w
        mReq := s.wellPumps t w }
      sh := { x.sh with fcast := s.wellSegment t w } }
  else s.unplay t w

def State.applyPlay (s : State) (t : Nat) : State := s.each (List.range 14) (fun u w => if u.voltedOk t w then u.applyWell t w else u)

/-- Declared dynamic current of a physical well at this beat, and whether the beat is a rest beat for it (R280): the shares of its
playing streams less those that rest; I_w where nothing plays on it. -/
def State.wellDynamic (s : State) (t w : Nat) : Int × Bool :=
  let ls := (s.logicalsOn t w).filter (fun l => (s.stream t l).live)
  if ls = [] then ((s.lp t w).iW, false)
  else
    let n := (ls.filter (fun l => !(s.ds t).resting.contains l)).foldl (fun (a : Int) l => a + (s.stream t l).p.cur * (s.share48 t l w : Nat)) 0
    (roundDiv n 48, ls.any (fun l => (s.ds t).resting.contains l))

/-- The player's sums for the cap governor: one beat of one well (R280). -/
def State.declare (s : State) (t w : Nat) : State :=
  let d := s.wellDynamic t w
  let x := s.well t w
  let p := d.1 * (s.rd (WL_SETPT t w) WL_SETPT.V_SET : Nat)
  s.setWell t w { x with tel := { x.tel with
    dN := x.tel.dN + 1
    dSum := x.tel.dSum + p
    fN := if d.2 then x.tel.fN else x.tel.fN + 1
    fSum := if d.2 then x.tel.fSum else x.tel.fSum + p } }

def State.declareAll (s : State) (t : Nat) : State := s.each (List.range 14) (fun u w => if u.voltedOk t w then u.declare t w else u)

/-! ### The beat (R184, R274-R277) -/

/-- The beats within two beats of the latest rest transitions of a logical well, the coming two beats' transitions among them, newest first;
each is kept for 16 beats, longer than an outer period (R170, R174). -/
def State.restSpans (s : State) (t l : Nat) (resting : Bool) : List (Nat × Nat) :=
  let b := s.clk.beat
  let turn := fun i => s.restBeat t l (b + i) != s.restBeat t l (b + i + 1)
  let stop := if resting != (s.ds t).resting.contains l then b + 2 else if turn 0 || turn 1 then b + 1 else 0
  let old := ((s.ds t).restNear.filter (fun e => e.1 == l && decide (b < e.2.2 + 16))).map (·.2)
  if stop = 0 then old
  else match old with
  | (a, e) :: r => if b ≤ e then (a, max e stop) :: r else (b, stop) :: old
  | [] => [(b, stop)]

/-- The rest-beat wires at the opening of a beat, and the pre-bias of the transition LEAD beats ahead (R174, R276, R277). -/
def State.restWires (s : State) (t : Nat) : State :=
  let b := s.clk.beat
  let ahead := b + s.lead t
  let decay := s.rd (DS_CFG t) DS_CFG.DECAY
  let ls := List.range 14
  let now := ls.filter (fun l => s.restBeat t l b)
  let restI := s.rdi CG_CFG1 CG_CFG1.REST_I
  let offs := ls.filterMap (fun l =>
    let x := s.stream t l
    let into := s.restBeat t l ahead
    if x.live ∧ into ≠ s.restBeat t l (ahead - 1) then
      let d : Int := (if l < 12 then 8 else 48) * restI - x.a.cur
      some (l, ahead + decay, if into then d else -d)
    else none)
  let spans := ls.flatMap (fun l => (s.restSpans t l (now.contains l)).map (fun e => (l, e)))
  s.updDs t (fun d => { d with
    resting := now
    restOffs := d.restOffs.filter (fun e => b < e.2.1) ++ offs
    restNear := spans })

/-- Every stream has reached its END: the slice becomes STOPPED by itself (R203). -/
def State.endPlay (s : State) (t : Nat) : State :=
  if s.liveStreams t = [] then (s.each (List.range 14) (fun u w => u.unplay t w)).setDs t dsStopped else s

/-- PLAYER_BEAT: the player's work at a wafer beat boundary (R184). -/
def State.playerBeat (s : State) (t : Nat) : State :=
  if s.tileOk t then
    let s1 := s.restWires t
    if s1.dsState t = dsPlaying then
      let s2 := s1.each (s1.liveStreams t) (fun u l => if (u.ds t).resting.contains l then u.streamRest t l else u.streamBeat t l)
      ((s2.applyPlay t).declareAll t).endPlay t
    else s1.declareAll t
  else s

end Sys2Proof.Machine
end

