-- ==== Sys2Proof/Machine/Capability.lean ====
section
/-! DEFINITION. Capability of wells and cisterns, averages over 64 us, and the capability events they post (R24-R33, R207). -/

namespace Sys2Proof.Machine

open Sys2Proof

/-- The tile's switching frequency in kHz (PH_PWM). -/
def State.khz (s : State) (t : Nat) : Nat := s.rd (PH_PWM t) PH_PWM.FREQ_KHZ

/-- The outer periods in 64 us: 8 f, f in MHz (R86). -/
def State.n64 (s : State) (t : Nat) : Nat := s.khz t * 8 / 1000

/-- I_w of the last outer period, and its 64 us average (R116, R207), in 1/64 A. -/
def State.iW (s : State) (t w : Nat) : Int := (s.lp t w).iW
def State.avgI (s : State) (t w : Nat) : Int := meanI (s.sh t w).hist

/-- CONT and PEAK in force. -/
def State.cont (s : State) (t w : Nat) : Int := s.rdi (WL_CAP t w) WL_CAP.CONT
def State.peak (s : State) (t w : Nat) : Int := s.rdi (WL_CAP t w) WL_CAP.PEAK

/-! ### A well's capability (R23-R29, R143, R227, R228) -/

/-- Sixteenths of its full contribution that a pump gives: all when LIVE, less FOLLOW_DERATE when FOLLOW (R23). -/
def State.pumpShare (s : State) (t w p : Nat) : Nat :=
  match s.service t w p with
  | 1 => 16
  | 2 => 16 - TopoWell.DERATE.get (s.topoWord t w)
  | _ => 0

/-- A pump's contribution, 1/64 A, of a full one: 18 A continuous and 28 A peak (R23). -/
def State.pumpCap (s : State) (t w p full : Nat) : Nat := full * s.pumpShare t w p / 16

def State.pumpSum (s : State) (t w full : Nat) : Nat := (s.pumpsOf t w).foldl (fun n p => n + s.pumpCap t w p full) 0

/-- DERATE_LIM of a well in class DERATE (R27, R290); none otherwise. -/
def State.mapLimit (s : State) (t w : Nat) : Option Int :=
  let a := PL_WELL (16 * t + w)
  if s.rd a PL_WELL.CLASS = 2 ∧ s.rd a PL_WELL.DERATE_LIM ≠ 0 then some (s.rdi a PL_WELL.DERATE_LIM) else none

/-- CONT_LIM: none at zero; a negative value is treated as zero (R27). -/
def State.hostLimit (s : State) (t w : Nat) : Option Int :=
  let v := s.rdi (WL_LIMIT t w) WL_LIMIT.CONT_LIM
  if v ≤ 0 then none else some v

/-- REG_LIM_FB caps CONT while a crack is suspected, until the map's derate has replaced the cap, or while DROP_OK is 0 (R227, R228). -/
def State.localLimit (s : State) (t w : Nat) : Option Int :=
  let fb : Int := (64 * s.rd (WL_FRULE0 t w) WL_FRULE0.REG_LIM_FB : Nat)
  if w < 14 ∧ ((s.sh t w).regCap ∨ s.rd (WL_CHK t w) WL_CHK.DROP_OK = 0) then some fb else none

/-- The least of a value and the limits that stand. -/
def capBy (v : Int) (l : List (Option Int)) : Int := l.foldl (fun m o => o.elim m (min m)) v

/-- The well pulses in hysteretic mode: priming, held there, or parking without its loop (R143, R157). -/
def State.hysteretic (s : State) (t w : Nat) : Bool :=
  s.stage t w == stHyst || s.stage t w == stPriming || (s.stage t w == stPark && s.rd (WL_PWM t w) WL_PWM.SRC != 1)

/-- The well is regulated by its loop: voltage mode, or a park under its loops (R157). -/
def State.looped (s : State) (t w : Nat) : Bool :=
  (s.stage t w == stVolt) || (s.stage t w == stPark && s.rd (WL_PWM t w) WL_PWM.SRC == 1)

/-- m x IPK/2 in hysteretic mode (R143). Without an image IPK of a core or SRAM well reads 0, and so the limit of a safe-primed well is 0 A
(DEDUCED, log entry 76). -/
def State.hystLimit (s : State) (t w : Nat) : Option Int :=
  if s.hysteretic t w then some (((s.servicePumps t w).length * s.rd (WL_MOTION1 t w) WL_MOTION1.IPK / 2 : Nat) : Int) else none

/-- The least of two limits. -/
def leastLimit (a b : Option Int) : Option Int := match a, b with
  | some x, some y => some (min x y)
  | some x, none => some x
  | none, y => y

/-- The least of the map's, the host's and the local limits that stand (R27, R227, R228). -/
def State.limitNow (s : State) (t w : Nat) : Option Int := leastLimit (s.mapLimit t w) (leastLimit (s.hostLimit t w) (s.localLimit t w))

/-- The contributions and the limit that capability counts from a boundary on (R32): what has fallen falls at once; what has risen in
a well in voltage mode waits for the window, unless `free`, and so does a returned pump (R237). -/
def State.takeCaps (s : State) (t w : Nat) (free : Bool) : State :=
  let hold := !free && (s.stage t w == stVolt)
  let s1 := s.each (s.pumpsOf t w) (fun u p => u.updPump t w p (fun q => { q with
    capIn := if hold || q.rises then min q.capIn (s.pumpShare t w p) else s.pumpShare t w p }))
  s1.updSh t w (fun h => { h with limIn := if hold then leastLimit h.limIn (s.limitNow t w) else s.limitNow t w })

/-- The contributions in force of a well's pumps, of a full one. -/
def State.sumIn (s : State) (t w full : Nat) : Nat := (s.pumpsOf t w).foldl (fun n p => n + full * (s.pump t w p).capIn / 16) 0

/-- CONT and PEAK of the contributions and the limit in force; PEAK is scaled down by the same ratio as CONT (R27). -/
def State.capNow (s : State) (t w : Nat) : Int × Int :=
  let sum : Int := (s.sumIn t w 1152 : Nat)
  let peak : Int := (s.sumIn t w 1792 : Nat)
  let c := capBy sum [(s.sh t w).limIn]
  let k := if sum = 0 then 0 else peak * c / sum
  (capBy c [s.hystLimit t w], capBy k [s.hystLimit t w])

/-- A map derate, a host limit or the cap of R227 and R228 lowers CONT or PEAK (WL_CAP.DERATED). -/
def State.derated (s : State) (t w : Nat) : Bool :=
  let sum : Int := (s.pumpSum t w 1152 : Nat)
  let lim := [s.mapLimit t w, s.hostLimit t w, if s.wet t w then s.localLimit t w else none]
  if sum = 0 then lim.any Option.isSome else decide (capBy sum lim < sum)

/-- The bus voltage of R24: the lowest of the last completed window, or the present one before any. -/
def State.busLow (s : State) (t : Nat) : Nat :=
  let m := s.rd (PH_BUS t) PH_BUS.BUS_MIN
  if m = 0 then s.rd (PH_BUS t) PH_BUS.BUS else m

/-- Rise and fall capability in 2 A/us steps, rounded down, saturating at 0xFF (R24); voltages in 0.5 mV. They are computed for every outer
period, and a rise of them waits for no window, unlike one of CONT and PEAK (DESIGN CHOICE, log entry 89). -/
def State.slew (s : State) (t w : Nat) : Nat × Nat :=
  let m := (s.servicePumps t w).length
  let v := s.rd (WL_SETPT t w) WL_SETPT.V_SET
  let l := s.lpNh t w
  if l = 0 then (0xFF, 0xFF) else (min 0xFF (m * (2 * s.busLow t - v) / (4 * l)), min 0xFF (m * v / (4 * l)))

/-- DRY, SHORT, RATED or FULL (R25). -/
def State.wellState (s : State) (t w : Nat) : Nat :=
  let n := (s.servicePumps t w).length
  if n = 0 then 0 else if n < s.ratedN t w then 1 else if n < s.installed t w then 2 else 3

/-- WL_CAP as a boundary forms it (R26). -/
def State.capWord (s : State) (t w : Nat) : Word :=
  let x := s.reg (WL_CAP t w)
  let c := (s.capNow t w).1
  let k := (s.capNow t w).2
  let live := ((s.pumpsOf t w).filter (fun p => s.service t w p == 1)).length
  let foll := ((s.pumpsOf t w).filter (fun p => s.service t w p == 2)).length
  let d := b2n (s.derated t w)
  if s.wet t w = false then WL_CAP.DERATED.set 0 d
  else WL_CAP.CONT.seti (WL_CAP.PEAK.seti (WL_CAP.RISE.set (WL_CAP.FALL.set (WL_CAP.LIVE.set (WL_CAP.FOLLOW.set
    (WL_CAP.STATE.set (WL_CAP.DERATED.set x d) (s.wellState t w)) foll) live) (s.slew t w).2) (s.slew t w).1) k) c

/-! ### Cisterns (R28, R31) -/

def cistWells (c : Nat) : List Nat := [4 * c, 4 * c + 1, 4 * c + 2, 4 * c + 3]

def State.cistSum (s : State) (t c : Nat) : Int := (cistWells c).foldl (fun a w => a + s.iW t w) 0
def State.cistAvg (s : State) (t c : Nat) : Int := (cistWells c).foldl (fun a w => a + s.avgI t w) 0
def State.cistLimit (s : State) (t c : Nat) : Int := TopoCist.LIMIT.geti (s.cistWord t c)

/-- A cistern's capability: the least of its own limit and the sum of its wells' CONT (R31). -/
def State.cistCap (s : State) (t c : Nat) : Int := min (s.cistLimit t c) ((cistWells c).foldl (fun a w => a + s.cont t w) 0)

/-- A tile's core-load capability: the sum of its cisterns' capabilities (R31). -/
def State.tileCoreCap (s : State) (t : Nat) : Int := (List.range 3).foldl (fun a c => a + s.cistCap t c) 0

/-- A tile's input capability, 1/16 W (R29, R31). -/
def State.tileInputCap (s : State) (t : Nat) : Nat := s.rd (PH_TILE_CAP t) PH_TILE_CAP.INPUT_CAP

/-- The wafer's capability, 1/16 W: the least of the image's wafer limit and the sum of its tiles' capabilities (R30, R31). -/
def State.waferCap (s : State) : Nat :=
  min (s.rd CG_CAP CG_CAP.WAFER_LIM) ((List.range s.tileCount).foldl (fun a t => a + s.tileInputCap t) 0)

/-- A cistern is over its limit: the 64 us average of its sum against LIMIT (R207). -/
def State.cistOver (s : State) (t c : Nat) : Bool := decide (s.cistLimit t c < s.cistAvg t c)

/-- PH_CIST of a cistern. -/
def State.cistView (s : State) (t c : Nat) : State :=
  let room := (cistWells c).foldl (fun a w => a + (s.cont t w - s.iW t w)) 0
  let sum := s.cistSum t c
  let h := min (s.cistLimit t c - sum) room
  ((s.wri (PH_CIST t c) PH_CIST.LIMIT (s.cistLimit t c)).wri (PH_CIST t c) PH_CIST.SUM sum).wri (PH_CIST t c) PH_CIST.HEADROOM h

/-! ### The recomputation at a boundary (R32, R33) -/

/-- CAPABILITY_RECOMPUTE of one well: WL_CAP, its cistern, and the events of R33: a change of STATE, a fall of CONT below the forecast. -/
def State.recompute (s : State) (t w : Nat) (free : Bool) : State :=
  let s0 := s.takeCaps t w free
  let x := s.reg (WL_CAP t w)
  let y := s0.capWord t w
  let f := (s.sh t w).fcast
  let s1 := s0.setReg (WL_CAP t w) y
  let s2 := if w < 12 then s1.cistView t (w / 4) else s1
  let fell := decide (WL_CAP.CONT.geti y < f) && decide (f ≤ WL_CAP.CONT.geti x) && s.wet t w
  if WL_CAP.STATE.get y ≠ WL_CAP.STATE.get x ∨ fell then s2.capEvent t w else s2

/-- At a window boundary the rises that have waited take effect, those of returned pumps too (R32, R237). -/
def State.riseNow (s : State) (t w : Nat) : State :=
  if s.wellOk t w && s.wet t w then
    (s.each (s.pumpsOf t w) (fun u p => if (u.pump t w p).rises then u.updPump t w p (fun q => { q with rises := false }) else u)).recompute t w true
  else s

/-- F of a deficit: the forecast of R188 and the averages of R207 (R217). -/
def State.loadF (s : State) (t w : Nat) : Int := max (s.sh t w).fcast (s.avgI t w)

/-- Over capability: the 64 us average of I_w exceeds CONT (R207). -/
def State.overCap (s : State) (t w : Nat) : Bool := decide (s.cont t w < s.avgI t w)

/-! ### Retiring a pump (R23, R92, R222, R265) -/

/-- A pump becomes RETIRED: PEN low, REASON; the well's capability falls at the outer boundary (R26, R32). The well goes DRY with its
last pump (R25), which of the keeper is a tile fault (R19); a priming on wake that waits with too few pumps left fails (R312). -/
def State.retire (s : State) (t w p reason : Nat) : State :=
  if s.service t w p = 3 then s
  else
    let s1 := (s.penLow t w p).setService t w p 3
    let s2 := (s1.wr (PM_SVC t w p) PM_SVC.REASON reason).updPump t w p (fun q => { q with retire := 0, lasting := false, openRun := 0, impl := [], follower := false, returned := false })
    if s.wet t w ∧ s2.wet t w = false then
      let s3 := s2.goDry t w
      if w = 14 then s3.holdPh { src := 4, tile := t, well := 14 } else s3
    else if (s.mo t w).waking ∧ (s.stage t w = stCal ∨ s.stage t w = stWait) ∧ s2.primable t w = false then
      (s2.unprime t w).wakeFail t w
    else s2

end Sys2Proof.Machine
end

