-- ==== Sys2Proof/Machine/Sense.lean ====
section
/-! DEFINITION. What an outer boundary measures: pump currents from the sense edges, the well current, the drop model and the checks of senses and connections (R85-R88, R116, R222-R229). -/

namespace Sys2Proof.Machine

open Sys2Proof

/-! ### Pump currents (R86, R88) -/

/-- Gain of the sense in 1/64 A per 1/256 edge: GAIN/2048 x G/256, G = 4 f for core and SRAM pumps, f/2 for keeper pumps; `edges`
counts 1/256 edges beyond OFFSET over `n` outer periods (R86). -/
def senseCurrent (khz gain w n : Nat) (edges : Int) : Int :=
  if w = 14 then roundDiv (edges * (gain * khz : Nat)) (2048 * 256 * 2000 * n)
  else roundDiv (edges * (gain * 4 * khz : Nat)) (2048 * 256 * 1000 * n)

def State.pumpOffset (s : State) (t w p : Nat) : Nat := s.rd (PM_ISNS t w p) PM_ISNS.OFFSET
def State.current (s : State) (t w p : Nat) : Int := s.rdi (PM_ISNS t w p) PM_ISNS.CURRENT
def State.avg64 (s : State) (t w p : Nat) : Int := s.rdi (PM_ISNS t w p) PM_ISNS.AVG64

/-- The edge counts of an outer period outside which the sense is implausible: ceil(10 MHz x T), floor(190 MHz x T) (R88). -/
def edgeLow (khz : Nat) : Nat := if khz = 0 then 0 else ceilDiv 80000 khz
def edgeHigh (khz : Nat) : Nat := if khz = 0 then 0 else 1520000 / khz

/-- The period just closed was a fault period of the pump (R86). -/
def State.faultPeriod (s : State) (t w p : Nat) : Bool :=
  (s.pump t w p).faultPeriod || s.flag (PM_STAT t w p) PM_STAT.LATCHED || (s.pump t w p).pwmHeld

/-- The fault wire was low for some part of the period just closed: its edges carry a tag (R88, R90). -/
def State.wireLow (s : State) (t w p : Nat) : Bool := (s.pump t w p).wirePeriod || s.flag (PM_STAT t w p) PM_STAT.LATCHED

/-- The count is implausible: with the fault wire high, outside the band, or moved by more than 64 from the period before (R88; the wire's
condition on both tests: DEDUCED, log entry 73). -/
def State.implausible (s : State) (t w p c : Nat) : Bool :=
  let k := s.khz t
  let c0 := s.rd (PM_ISNS t w p) PM_ISNS.COUNT
  !s.wireLow t w p && (decide (c < edgeLow k) || decide (edgeHigh k < c) || decide (64 < ((c : Int) - (c0 : Int)).natAbs))

/-- PM_ISNS of one pump at the boundary: a fault period counts as 0 A; an implausible one keeps the previous CURRENT, and its edges count in
AVG64 (R86, R224). -/
def State.decodePump (s : State) (t w p c : Nat) : State :=
  let a := PM_ISNS t w p
  let n := max 1 (s.n64 t)
  let off := s.pumpOffset t w p
  let fault := s.faultPeriod t w p
  let bad := s.implausible t w p c
  let q := s.pump t w p
  let gain := s.rd (PM_LINK t w p) PM_LINK.GAIN
  let e := if fault then off else 256 * c
  let h := (e :: q.hist).take n
  let sum : Int := h.foldl (fun (a : Int) x => a + ((x : Int) - (off : Int))) 0
  let cur := if fault then 0 else if bad then s.current t w p else senseCurrent (s.khz t) gain w 1 ((256 * c : Nat) - (off : Nat) : Int)
  let s1 := ((s.wr a PM_ISNS.COUNT (min c 0x3FF)).wri a PM_ISNS.CURRENT cur).wri a PM_ISNS.AVG64 (senseCurrent (s.khz t) gain w n sum)
  let s2 := if bad then s1.wr (PM_STAT t w p) PM_STAT.IMPLAUSIBLE 1 else s1
  let b := (s.sh t w).outerN
  s2.updPump t w p (fun q => { q with
    hist := h
    faultPeriod := false
    wirePeriod := false
    impl := (if bad then b :: q.impl else q.impl).filter (fun i => b < i + n) })

/-! ### The drop model (R223, R226) -/

/-- The outer-period means of remote and local sense in 1/16 mV. A period without samples keeps the mean of the one before. -/
def State.senseMeans (s : State) (t w : Nat) : State :=
  let x := s.well t w
  let l := x.lp
  let v := x.tel
  let code16 := fun (sum n : Nat) => roundDiv ((4 * sum : Nat) : Int) n
  s.setWell t w { x with
    lp := { l with
      vMean := if l.numX = 0 then l.vMean else roundDiv l.sumX l.numX
      vLocal := if v.vlN = 0 then l.vLocal else code16 v.vlSum v.vlN
      bandOk := l.inBand && decide (0 < l.numX)
      sumX := 0
      numX := 0
      inBand := true }
    tel := { v with
      vlMean := if v.vlN = 0 then v.vlMean else code16 v.vlSum v.vlN
      vsMean := if v.vsON = 0 then none else some (code16 v.vsOSum v.vsON)
      vlSum := 0
      vlN := 0
      vsOSum := 0
      vsON := 0 } }

/-- VL - V_remote in 1/16 mV. -/
def State.dropV (s : State) (t w : Nat) : Int := (s.lp t w).vLocal - (s.lp t w).vMean

def State.rRl (s : State) (t w : Nat) : Nat := s.rd (WL_CHK t w) WL_CHK.R_RL
def State.dropOk (s : State) (t w : Nat) : Bool := s.flag (WL_CHK t w) WL_CHK.DROP_OK

/-- I_DROP in 1/64 A from 1/16 mV and micro-ohm (R223). -/
def State.iDrop (s : State) (t w : Nat) : Int := roundDiv (s.dropV t w * 4000) (s.rRl t w)

/-- Thresholds of WL_FRULE0 in 1/64 A. -/
def State.openI (s : State) (t w : Nat) : Int := (8 * s.rd (WL_FRULE0 t w) WL_FRULE0.OPEN_I : Nat)
def State.sumTol (s : State) (t w : Nat) : Int := (8 * s.rd (WL_FRULE0 t w) WL_FRULE0.SUM_TOL : Nat)
def State.pumpTol (s : State) (t w : Nat) : Int := (8 * s.rd (WL_FRULE0 t w) WL_FRULE0.PUMP_TOL : Nat)
def State.crackImin (s : State) (t w : Nat) : Int := (8 * s.rd (WL_FRULE0 t w) WL_FRULE0.CRACK_IMIN : Nat)
def State.ovlLim (s : State) (t w : Nat) : Int := (8 * s.rd (WL_FRULE0 t w) WL_FRULE0.OVL_LIM : Nat)

/-- The followers' estimated current: I_DROP less the other pumps in service (R225). -/
def State.followers (s : State) (t w : Nat) : State :=
  let n := max 1 (s.n64 t)
  s.each ((s.pumpsOf t w).filter (fun p => s.service t w p == 2)) (fun u p =>
    let others := ((u.servicePumps t w).filter (· ≠ p)).foldl (fun (a : Int) r => a + u.current t w r) 0
    let i := u.iDrop t w - others
    let h := (i :: (u.pump t w p).fHist).take n
    ((u.wri (PM_ISNS t w p) PM_ISNS.CURRENT i).wri (PM_ISNS t w p) PM_ISNS.AVG64 (meanI h)).updPump t w p (fun q => { q with fHist := h }))

/-- The pumps that carried the outer period just closed: those in service, or all usable ones where PEN fell in it (R25, R258). -/
def State.carriers (s : State) (t w : Nat) : List Nat := if (s.mo t w).dropPend then s.usablePumps t w else s.servicePumps t w

/-- I_w: the sum of CURRENT over the pumps in service (R116); its history for the 64 us average. -/
def State.wellCurrent (s : State) (t w : Nat) : State :=
  let i := (s.carriers t w).foldl (fun (a : Int) p => a + s.current t w p) 0
  let n := max 1 (s.n64 t)
  (s.updLp t w (fun l => { l with iW := i })).updSh t w (fun h => { h with hist := (i :: h.hist).take n })

/-! ### Sharing groups (R205, R212) -/

/-- The wells of a well's sharing group: itself, and its partners while a tie is closed. -/
def State.groupWells (s : State) (t w : Nat) : List Nat :=
  if w < 12 ∧ (s.rd (WL_TIE t w) WL_TIE.PHASE = 2 ∨ s.rd (WL_TIE t w) WL_TIE.PHASE = 3) ∧ s.tied t w then
    w :: ((wellTies w).filter (fun n => bit (s.rd (PH_CIST t (n / 4)) PH_CIST.TIES) (n % 4))).map (fun n => tieOther n w)
  else [w]

/-- The LIVE pumps of a list of wells that take part in sharing: not held, not in a test step (R92, R233). -/
def State.livePumps (s : State) (t : Nat) (ws : List Nat) : List (Nat × Nat) :=
  ws.flatMap (fun w => ((s.pumpsOf t w).filter (fun p => s.service t w p == 1 && !(s.pump t w p).pwmHeld && !(s.pump t w p).inTest)).map
    (fun p => (w, p)))

/-- The sharing trim of a pump (WL_SHARE). -/
def shareFld (p : Nat) : Fld := ⟨16 * p + 15, 16 * p⟩
def State.trim (s : State) (t w p : Nat) : Int := s.rdi (WL_SHARE t w) (shareFld p)

/-! ### Pump and sum checks (R222-R225) -/

/-- A LIVE pump counts as open (R222). -/
def State.countsOpen (s : State) (t w p : Nat) : Bool :=
  let sib := ((s.pumpsOf t w).filter (fun r => s.service t w r == 1)).filter (· ≠ p)
  let sum := sib.foldl (fun (a : Int) r => a + s.current t w r) 0
  (s.service t w p == 1) && !s.faultPeriod t w p && !(s.pump t w p).inTest && decide (s.current t w p < s.openI t w) && !sib.isEmpty &&
    decide (3 * s.openI t w * (sib.length : Int) < sum)

/-- Predicted deviation of a pump from its trim, 1/64 A (R223). -/
def State.predicted (s : State) (t w p : Nat) : Int :=
  roundDiv (s.trim t w p * (s.rd (PH_BUS t) PH_BUS.BUS * 64000 : Nat)) (65536 * s.rd (WL_FRULE1 t w) WL_FRULE1.R_PH)

/-- The pumps that are trim-suspect at this boundary (R223). -/
def State.suspectsNow (s : State) (t w : Nat) : List Nat :=
  let g := s.livePumps t (s.groupWells t w)
  let mean := meanI (g.map (fun e => s.current t e.1 e.2))
  (g.filter (fun e => e.1 = w)).map (·.2) |>.filter (fun p =>
    decide (s.pumpTol t w < (s.current t w p - mean - s.predicted t w p).natAbs))

/-- The pumps trim-suspect at each of the four latest boundaries of a sum mismatch (R223). -/
def ShareX.suspectAll (h : ShareX) : List Nat := (h.suspects.headD []).filter (fun p => h.suspects.all (fun l => l.contains p))

/-- The drop checks run: DROP_OK is 1 and I_w is at least CRACK_IMIN (R223). -/
def State.dropChecks (s : State) (t w : Nat) : Bool := s.dropOk t w && decide (s.crackImin t w ≤ s.iW t w)

/-- SUM_DIFF of the boundary (R223). -/
def State.sumDiff (s : State) (t w : Nat) : Int := s.iW t w - s.iDrop t w

/-- The counters of R222-R224 and the reported figures of the drop model. -/
def State.sumCheck (s : State) (t w : Nat) : State :=
  let runs := s.dropChecks t w
  let mis := runs && decide (s.sumTol t w < (s.sumDiff t w).natAbs)
  let sus := s.suspectsNow t w
  let h := s.sh t w
  let run := if mis then h.sumRun + 1 else 0
  let s1 := s.updSh t w (fun h => { h with sumRun := run, suspects := if mis then (sus :: h.suspects).take 4 else [] })
  let s2 := if 4 ≤ run then s1.wr (WL_CHK t w) WL_CHK.SUM_MISMATCH 1 else s1
  let s3 := s2.each (s2.pumpsOf t w) (fun u p => u.updPump t w p (fun q => { q with openRun := if s.countsOpen t w p then q.openRun + 1 else 0 }))
  if s.rRl t w = 0 then s3 else (s3.wri (WL_CHK t w) WL_CHK.I_DROP (s.iDrop t w)).wri (WL_CHK t w) WL_CHK.SUM_DIFF (s.sumDiff t w)

/-- The sum check of a follower holds (R225). -/
def State.followerHeld (s : State) (t w p : Nat) : Bool :=
  let a := s.avg64 t w p
  let top : Int := (s.pumpCap t w p 1152 : Nat)
  s.dropOk t w && decide (-(s.openI t w) ≤ a) && decide (a ≤ top) && ((s.pumpsOf t w).filter (fun r => s.service t w r == 2)).length == 1

/-- Followers without a sum check become RETIRED, REASON UNHELD (R225). -/
def State.unheld (s : State) (t w : Nat) : State :=
  s.each ((s.pumpsOf t w).filter (fun p => s.service t w p == 2 && !s.followerHeld t w p)) (fun u p => u.retire t w p 5)

/-! ### Connections (R226-R229) -/

/-- The quotient (VL - V_remote) / I_w in 1/256 micro-ohm (R226). -/
def State.quotient (s : State) (t w : Nat) : Int := roundDivI (s.dropV t w * 1024000) (s.iW t w)

/-- VP_VL and the remote pair are not in fault, and the load is enough, with no sum mismatch in force: the period is used for
learning R_RL; before the first adoption DROP_OK does not stand yet (R226). -/
def State.learns (s : State) (t w : Nat) : Bool :=
  (s.stage t w == stVolt) && decide (w < 14) && decide (s.crackImin t w ≤ s.iW t w) && decide (0 < s.iW t w) &&
    (s.dropOk t w || !(s.sh t w).adopted) && !s.flag (WL_CHK t w) WL_CHK.SENSE_OPEN && decide ((s.sh t w).sumRun < 4)

/-- R_STEP above the expected ratio by more than CRACK_STEP - 1 (R226, R227); the fast figure in 1/256 micro-ohm. -/
def State.crackNow (s : State) (t w : Nat) : Bool :=
  let h := s.sh t w
  let fast := meanI h.fast
  let cs : Int := (s.rd (WL_FRULE0 t w) WL_FRULE0.CRACK_STEP : Nat)
  decide ((s.rRl t w : Int) * (65536 + (s.iW t w - h.iRef) + (cs - 64) * 1024) < fast * 256)

/-- Learning of R_RL and the crack count (R226, R227). -/
def State.learn (s : State) (t w : Nat) : State :=
  let h := s.sh t w
  let unattr := decide (4 ≤ h.sumRun) && decide (h.suspectAll.length ≠ 1)
  if s.learns t w then
    let q := s.quotient t w
    let s1 := s.updSh t w (fun h => { h with
      slowSum := h.slowSum + q
      slowN := h.slowN + 1
      slowI := h.slowI + s.iW t w
      fast := (q :: h.fast).take 8 })
    if h.adopted && (s.rRl t w != 0) then
      let step := roundDiv (meanI (s1.sh t w).fast * 64) (256 * s.rRl t w)
      (s1.wr (WL_CHK t w) WL_CHK.R_STEP (min 255 step.toNat)).updSh t w (fun h => { h with
        crackRun := if s1.crackNow t w then h.crackRun + 1 else 0 })
    else s1
  else if unattr then s.updSh t w (fun h => { h with crackRun := h.crackRun + 1 })
  else s

/-- Remote sense above local by more than SENSE_NEG at successive boundaries; the correction of a well with SENSE_OPEN (R229);
once the host has cleared SENSE_OPEN the drop model is available again (R226). The condition of REMOTE_SENSE ends with the readings that made it
(R324, R325). -/
def State.senseNeg (s : State) (t w : Nat) : State :=
  let lim : Int := (8 * s.rd (WL_FRULE1 t w) WL_FRULE1.SENSE_NEG : Nat)
  let neg := decide (w < 14) && s.wet t w && decide (s.dropV t w < -lim)
  let fix := if s.flag (WL_CHK t w) WL_CHK.SENSE_OPEN then
      roundDiv ((s.lp t w).vMean * 4000 - ((s.lp t w).vLocal * 4000 - (s.rRl t w : Int) * s.iW t w)) 4000
    else 0
  let s1 := if (s.sh t w).adopted && !s.flag (WL_CHK t w) WL_CHK.SENSE_OPEN && !s.flag (WL_CHK t w) WL_CHK.DROP_OK then
      s.wr (WL_CHK t w) WL_CHK.DROP_OK 1
    else s
  (s1.updSh t w (fun h => { h with senseRun := if neg then h.senseRun + 1 else 0, correct := fix })).on (!neg)
    (·.unhold { src := 20, tile := t, well := w })

/-- A window boundary adopts the slow figure as R_RL (R226): frozen once a crack is suspected (R227); the caps of a crack end at
the window after it is cleared. -/
def State.adopt (s : State) (t w : Nat) : State :=
  let h := s.sh t w
  let crack := s.flag (WL_CHK t w) WL_CHK.CRACK
  let clear := fun (h : ShareX) => { h with slowSum := 0, slowN := 0, slowI := 0 }
  let s0 := if h.regCap ∧ crack = false then s.updSh t w (fun h => { h with regCap := false }) else s
  if h.slowN = 0 ∨ crack then s0.updSh t w clear
  else if h.adopted = false ∧ (s.well t w).tel.volt = false then s0.updSh t w clear
  else
    let r := roundDiv h.slowSum (256 * h.slowN)
    let s1 := s0.wr (WL_CHK t w) WL_CHK.R_RL (min 0xFFFF r.toNat)
    let s2 := if h.adopted ∨ s.flag (WL_CHK t w) WL_CHK.SENSE_OPEN then s1 else s1.wr (WL_CHK t w) WL_CHK.DROP_OK 1
    s2.updSh t w (fun h => { clear h with adopted := true, iRef := roundDiv h.slowI h.slowN })

end Sys2Proof.Machine
end

