-- ==== Sys2Proof/Machine/Sharing.lean ====
section
/-! DEFINITION. Sharing trims, tie switches, capability deficits, protective rest and the excess timer at an outer boundary (R118, R205-R221, R228). -/

namespace Sys2Proof.Machine

open Sys2Proof

/-! ### Sharing trims (R118, R206, R214) -/

/-- A tie of the well unloads (R214). -/
def State.unloading (s : State) (t w : Nat) : Bool := s.tied t w && (s.rd (WL_TIE t w) WL_TIE.PHASE == 3)

/-- The sharing error of a pump in duty LSB: against the group's mean, or OVL_LIM where the pump is overloaded and the mean lies
above it (R118, R206). The mean is `sum / n`. -/
def shareErr (k n : Nat) (sum cur avg ovl : Int) : Int :=
  let e := roundDiv ((k : Int) * (sum - n * cur)) (64 * n)
  if ovl < avg then min e (roundDiv ((k : Int) * (ovl - cur)) 64) else e

/-- The trims of a set of pumps before centring, with the sum of current they are to share (R118). K_SH, OVL_LIM and SH_LIM are the evaluating
well's, the lead's for every pump of a tied group (DESIGN CHOICE, log entry 89). -/
def State.rawTrims (s : State) (t w : Nat) (g : List (Nat × Nat)) (sum : Int) : List ((Nat × Nat) × Int) :=
  g.map (fun e => (e, s.trim t e.1 e.2 +
    shareErr (s.rd (WL_OUTER t w) WL_OUTER.K_SH) g.length sum (s.current t e.1 e.2) (s.avg64 t e.1 e.2) (s.ovlLim t w)))

/-- The trims of a sharing group, centred together and clamped to SH_LIM (R118, R205). -/
def State.centre (s : State) (t w : Nat) (raw : List ((Nat × Nat) × Int)) : State :=
  let lim : Int := (s.rd (WL_OUTER t w) WL_OUTER.SH_LIM : Nat)
  let mean := meanI (raw.map (·.2))
  s.each raw (fun u e => u.wri (WL_SHARE t e.1.1) (shareFld e.1.2) (clampI (-lim) lim (e.2 - mean)))

/-- Trims of pumps that take no part are zero (R118). -/
def State.zeroTrims (s : State) (t w : Nat) : State :=
  s.each (s.pumpsOf t w) (fun u p =>
    if (u.service t w p == 1) || (u.pump t w p).inTest then u else u.wri (WL_SHARE t w) (shareFld p) 0)

/-- The sum of CURRENT over a list of pumps. -/
def State.sumCurrent (s : State) (t : Nat) (g : List (Nat × Nat)) : Int := g.foldl (fun (a : Int) e => a + s.current t e.1 e.2) 0

/-- A pump that leaves LIVE: the trims that remain in its group are centred anew at the same boundary (R118). -/
def State.recentre (s : State) (t w : Nat) : State :=
  let s0 := s.zeroTrims t w
  s0.centre t w ((s0.livePumps t (s0.groupWells t w)).map (fun e => (e, s0.trim t e.1 e.2)))

/-- The switch a well's tie uses, from its PARTNER. -/
def State.tieOf (s : State) (t w : Nat) : Option Nat :=
  if w < 12 then (wellTies w).find? (fun n => s.rd (WL_TIE t w) WL_TIE.PARTNER == tieOther n w) else none

/-- The current that a switch carries into the well `w` at this boundary, (VL_other - VL) / R_TIE, 1/64 A (R213). -/
def State.tieFlow (s : State) (t n w : Nat) : Int :=
  roundDiv (((s.lp t (tieOther n w)).vLocal - (s.lp t w).vLocal) * 4000) (s.rd (PH_TIE t) PH_TIE.R_TIE)

/-- The sharing step of a well's outer evaluation, for its group's pumps. While a tie unloads, the wells on either side of it share their
own loads, their pumps' current and the tie's, and the group is still centred together (R118, R205, R214). A partner's trims are the lead's
work (R212). -/
def State.share (s : State) (t w : Nat) : State :=
  let s0 := s.zeroTrims t w
  if s0.rd (WL_TIE t w) WL_TIE.ROLE = 2 ∧ 2 ≤ s0.rd (WL_TIE t w) WL_TIE.PHASE then s0
  else
    let ws := s0.groupWells t w
    let all := s0.livePumps t ws
    match s0.tieOf t w with
    | some n =>
      if s0.unloading t w then
        let o := tieOther n w
        let far := s0.livePumps t [o]
        let near := s0.livePumps t (ws.filter (· ≠ o))
        s0.centre t w (s0.rawTrims t w near (s0.sumCurrent t near + s0.tieFlow t n w) ++ s0.rawTrims t w far (s0.sumCurrent t far + s0.tieFlow t n o))
      else s0.centre t w (s0.rawTrims t w all (s0.sumCurrent t all))
    | none => s0.centre t w (s0.rawTrims t w all (s0.sumCurrent t all))

/-! ### Tie currents and phases (R211, R213, R214) -/

/-- The tie current into a well at this boundary in 1/64 A: the sum over its closed switches, of which a lead has two in a move alone (R213;
DESIGN CHOICE there, log entry 89). -/
def State.tieInflow (s : State) (t w : Nat) : Int :=
  ((wellTies w).filter (fun n => bit (s.rd (PH_CIST t (n / 4)) PH_CIST.TIES) (n % 4))).foldl (fun a n => a + s.tieFlow t n w) 0

/-- Tie current, its 64 us average, and the runs of R213 and R214 of a core well. -/
def State.tieStep (s : State) (t w : Nat) : State :=
  if w < 12 ∧ s.tied t w then
    let i := s.tieInflow t w
    let n := max 1 (s.n64 t)
    let imax : Int := (s.rd (WL_FRULE1 t w) WL_FRULE1.TIE_IMAX : Nat)
    let iopen : Int := (8 * s.rd (WL_FRULE1 t w) WL_FRULE1.TIE_OPEN_I : Nat)
    let un := s.unloading t w
    let s1 := s.updSh t w (fun h => { h with
      tieI := i
      tieHist := (i :: h.tieHist).take n
      overRun := if imax < i then h.overRun + 1 else 0
      lowRun := if un ∧ i.natAbs ≤ iopen then h.lowRun + 1 else 0
      unloadN := if un then h.unloadN + 1 else 0 })
    s1.wri (WL_TIE t w) WL_TIE.TIE_I (meanI (s1.sh t w).tieHist)
  else s.updSh t w (fun h => { h with tieI := 0 })

/-- The wells of a switch merge into one group at the boundary after the acknowledge (R211); a move's three wells are one group until the old
tie starts to unload at the next boundary (R215; that boundary DEDUCED from its 18 outer periods, log entry 74). -/
def State.mergeTie (s : State) (t w : Nat) : State :=
  let closed := fun (n : Nat) => bit (s.rd (PH_CIST t (n / 4)) PH_CIST.TIES) (n % 4)
  let close := fun (u : State) (n : Nat) =>
    u.wr (PH_CIST t (n / 4)) PH_CIST.TIES (setBit (u.rd (PH_CIST t (n / 4)) PH_CIST.TIES) (n % 4) true)
  match (s.sh t w).newTie with
  | some n =>
    if s.rd (WL_TIE t w) WL_TIE.ROLE ≠ 3 then s
    else if closed n then
      match (s.sh t w).tie with
      | some m => if s.unloading t w then s else s.startUnload t m
      | none => s
    else if bit (s.rd (PH_TIE t) PH_TIE.ACK) n then (close s n).wr (WL_TIE t (tieOther n w)) WL_TIE.PHASE 2
    else s
  | none =>
    match (s.sh t w).tie with
    | some n =>
      if s.rd (WL_TIE t w) WL_TIE.PHASE = 1 ∧ bit (s.rd (PH_TIE t) PH_TIE.ACK) n then
        ((close s n).wr (WL_TIE t w) WL_TIE.PHASE 2).wr (WL_TIE t (tieOther n w)) WL_TIE.PHASE 2
      else s
    | none => s

/-! ### May a switch close? (R210) -/

/-- A core well may join a group: TIE_FAULT clear, wet in voltage mode, no hold on its ties, no test step. -/
def State.tieFit (s : State) (t w : Nat) : Bool :=
  !s.flag (WL_TIE t w) WL_TIE.TIE_FAULT && (s.stage t w == stVolt) && s.wet t w && !(s.mo t w).tieHold && !(s.mo t w).moveHold &&
    ((s.te t w).kind == 0)

/-- TIE_EN of a switch: the cistern record's bits (R62, R63). -/
def State.tieEn (s : State) (t n : Nat) : Bool := bit (TopoCist.TIES.get (s.cistWord t (n / 4))) (n % 4)

/-- The switch from `w` to its neighbour meets R210; a lead that moves its tie is in a group itself (R215). -/
def State.tieAllowed (s : State) (t w n : Nat) (moving : Bool) : Bool :=
  let o := tieOther n w
  let v := fun x => (s.rd (WL_SETPT t x) WL_SETPT.V_SET : Int)
  let dv : Int := (s.rd (WL_FRULE1 t w) WL_FRULE1.TIE_DV : Nat)
  s.tieEn t n && s.tieFit t w && s.tieFit t o && (moving || !s.tied t w) && !s.tied t o && !s.cistOver t (w / 4) &&
    decide ((v w - v o).natAbs ≤ dv)

/-- Room of a neighbour: CONT - max(F, AVG64 I) (R217). -/
def State.roomOf (s : State) (t w : Nat) : Int := s.cont t w - s.loadF t w

/-- The neighbour with the larger positive room whose switch may close; on equal room the lower slot (R217). -/
def State.pickTie (s : State) (t w : Nat) (moving : Bool) (above : Int) : Option Nat :=
  let ok := (wellTies w).filter (fun n => s.tieAllowed t w n moving && decide (above < s.roomOf t (tieOther n w)))
  match ok with
  | [] => none
  | [n] => some n
  | n :: m :: _ =>
    let a := s.roomOf t (tieOther n w)
    let b := s.roomOf t (tieOther m w)
    if a > b then some n else if b > a then some m else if tieOther n w < tieOther m w then some n else some m

/-- VP_TIE[n] rises at a decision boundary (R211). -/
def State.closeTie (s : State) (t w n : Nat) : State :=
  let o := tieOther n w
  let s1 := s.wr (PH_TIE t) PH_TIE.ON (setBit (s.rd (PH_TIE t) PH_TIE.ON) n true)
  let s2 := ((s1.wr (WL_TIE t o) WL_TIE.PARTNER w).wr (WL_TIE t o) WL_TIE.ROLE 2).wr (WL_TIE t o) WL_TIE.PHASE 1
  let s3 := s2.updSh t o (fun h => { h with tie := some n })
  if s3.tied t w then (s3.wr (WL_TIE t w) WL_TIE.ROLE 3).updSh t w (fun h => { h with newTie := some n, tieAt := h.outerN })
  else (((s3.wr (WL_TIE t w) WL_TIE.PARTNER o).wr (WL_TIE t w) WL_TIE.ROLE 1).wr (WL_TIE t w) WL_TIE.PHASE 1).updSh t w
    (fun h => { h with tie := some n, tieAt := h.outerN })

/-! ### Deficits (R207, R217-R221) -/

/-- F of the deficit reaction: the forecast and the average; I_w itself where it exceeds PEAK (R207, R217). -/
def State.deficitF (s : State) (t w : Nat) : Int :=
  let f := s.loadF t w
  if s.peak t w < s.iW t w then max f (s.iW t w) else f

/-- A well has a deficit: F above CONT, over capability, above PEAK, or its region over its limit (R207, R217, R228). -/
def State.hasDeficit (s : State) (t w : Nat) : Bool :=
  s.wet t w && (decide (s.cont t w < (s.sh t w).fcast) || s.overCap t w || decide (s.peak t w < s.iW t w) || (s.sh t w).regOver)

/-- The partner that lends to a lead: the new one of a move once its switch is closed; none while the tie unloads (R213-R215). -/
def State.lender (s : State) (t w : Nat) : Option Nat :=
  let role := s.rd (WL_TIE t w) WL_TIE.ROLE
  let closed := fun (n : Nat) => bit (s.rd (PH_CIST t (n / 4)) PH_CIST.TIES) (n % 4)
  match (s.sh t w).newTie.filter closed with
  | some n => some (tieOther n w)
  | none =>
    if w < 12 ∧ s.tied t w ∧ s.unloading t w = false ∧ (role = 1 ∨ role = 3) then some (s.rd (WL_TIE t w) WL_TIE.PARTNER) else none

/-- The cover of a lead (R213): what its partner can lend, negative where the partner needs more than its own CONT. -/
def State.coverOf (s : State) (t w : Nat) : Int :=
  match s.lender t w with
  | some o => min (s.roomOf t o) (s.rd (WL_FRULE1 t w) WL_FRULE1.TIE_IMAX : Nat)
  | none => 0

/-- S of R217 (the other wells of the cistern): taken from the present averages while the cistern is over its limit (R221). -/
def State.othersF (s : State) (t w : Nat) : Int :=
  ((cistWells (w / 4)).filter (· ≠ w)).foldl (fun a n => a + (if s.cistOver t (w / 4) then s.avgI t n else s.loadF t n)) 0

/-- Both conditions of R217's third step at duty r. -/
def State.restMeets (s : State) (t w : Nat) (f cover : Int) (r : Nat) : Bool :=
  let x := f * (16 - (r : Int))
  decide (x ≤ 16 * (s.cont t w + cover)) && (decide (12 ≤ w) ||
    decide (16 * s.othersF t w + x ≤ 16 * s.cistLimit t (w / 4)))

/-- The smallest duty that meets both; none if 15 does not. -/
def State.restFor (s : State) (t w : Nat) (f cover : Int) : Option Nat := (List.range 16).find? (fun r => s.restMeets t w f cover r)

/-- The protective rest of a well: the deficit's, 15/16 in an overload, 8/16 with an open sense until the well is empty (R208, R217, R229,
R297). -/
def State.setProtRest (s : State) (t w r : Nat) : State :=
  let h := s.sh t w
  let v := max r (max (if h.ovlRest then 15 else 0) (if s.flag (WL_CHK t w) WL_CHK.SENSE_OPEN && !s.emptied t w then 8 else 0))
  if v = h.pr.want then s
  else ((s.wr (WL_TIE t w) WL_TIE.PROT_REST v).updSh t w (fun h => { h with pr := h.pr.decide v s.clk.beat })).capEvent t w

/-- The tie part of the reaction: a partner for an untied well, a move where the partner's room falls below the tie current (R215,
R217). -/
def State.deficitTie (s : State) (t w : Nat) : State :=
  if 12 ≤ w then s
  else if !s.tied t w then
    match s.pickTie t w false 0 with
    | some n => s.closeTie t w n
    | none => s
  else if s.rd (WL_TIE t w) WL_TIE.ROLE = 1 ∧ s.rd (WL_TIE t w) WL_TIE.PHASE = 2 then
    let room := s.roomOf t (s.rd (WL_TIE t w) WL_TIE.PARTNER)
    if room < (s.sh t w).tieI then
      match s.pickTie t w true (max 0 room) with
      | some n => s.closeTie t w n
      | none => s
    else s
  else s

/-- A deficit returns while a quiet window's unload is still under way: the tie is kept (R219). -/
def State.keepTie (s : State) (t w : Nat) : State :=
  if s.unloading t w ∧ (s.sh t w).quietUnload then
    [w, s.rd (WL_TIE t w) WL_TIE.PARTNER].foldl (fun (u : State) v =>
      (u.wr (WL_TIE t v) WL_TIE.PHASE 2).updSh t v (fun h => { h with quietUnload := false, lowRun := 0, unloadN := 0 })) s
  else s

/-- A tie is unloaded because a full window has passed without a deficit (R219). -/
def State.quietUnloads (s : State) (t w : Nat) : State := (s.unloadTies t w).updSh t w (fun h => { h with quietUnload := true })

/-- Cover and protective rest of a well (R217 steps 2 and 3). -/
def State.restReact (s : State) (t w : Nat) : State :=
  let cover := s.coverOf t w
  let s4 := s.wri (WL_TIE t w) WL_TIE.COVER cover
  match s4.restFor t w (s4.deficitF t w) cover with
  | some r => (s4.setProtRest t w r).updSh t w (fun h => { h with satur := false })
  | none =>
    let s5 := (s4.setProtRest t w 15).updSh t w (fun h => { h with satur := true })
    if (s4.sh t w).satur then s5 else s5.raisePh { src := 16, tile := t, well := w }

/-- DEFICIT_REACTION at a boundary (R217, R219-R221): partner, cover, rest; ended, the rest returns to 0. A partner takes no partner of its own,
and with a deficit its tie is unloaded (R217, R238). -/
def State.deficitReact (s : State) (t w : Nat) : State :=
  let d := s.hasDeficit t w
  let over_ := decide (w < 12) && s.cistOver t (w / 4)
  let was := s.flag (WL_TIE t w) WL_TIE.DEFICIT
  let s1 := (s.wrb (WL_TIE t w) WL_TIE.DEFICIT d).on d (·.updSh t w (fun h => { h with winQuiet := false, quietWin := false }))
  let s2 := if d && !was then s1.capEvent t w else s1
  if s2.tied t w && (s2.rd (WL_TIE t w) WL_TIE.ROLE == 2) then
    let s3 := if d then s2.unloadTies t w else s2
    if over_ then s3.restReact t w else if d then s3 else s3.setProtRest t w 0
  else if d || over_ then (if d then (s2.keepTie t w).deficitTie t w else s2).restReact t w
  else
    let s3 := (s2.wri (WL_TIE t w) WL_TIE.COVER (s2.coverOf t w)).setProtRest t w 0
    let s4 := s3.updSh t w (fun h => { h with satur := false })
    if (s4.sh t w).quietWin && s4.tied t w && !s4.unloading t w then s4.quietUnloads t w else s4

/-- CIST_OVER of the four wells, and its LEVEL source (R221). -/
def State.cistFault (s : State) (t c : Nat) : State :=
  let r : Raise := { src := 18, tile := t, sub := c }
  if s.cistOver t c then (s.each (cistWells c) (fun u w => u.wr (WL_TIE t w) WL_TIE.CIST_OVER 1)).holdPh r else s.unhold r

/-- The region limit: REG_LIM, or REG_LIM_FB while DROP_OK is 0 (R228), 1/64 A. -/
def State.regLimit (s : State) (t w : Nat) : Int :=
  (64 * s.rd (WL_FRULE0 t w) (if s.dropOk t w then WL_FRULE0.REG_LIM else WL_FRULE0.REG_LIM_FB) : Nat)

/-- REGION_OVER (R228). -/
def State.regionOver (s : State) (t w : Nat) : State :=
  let now := decide (w < 14) && s.wet t w && decide (s.regLimit t w < s.avgI t w)
  let was := (s.sh t w).regOver
  let s0 := s.updSh t w (fun h => { h with regOver := now })
  let s1 := if now then s0.wr (WL_CHK t w) WL_CHK.REG_OVER 1 else s0
  if now && !was then (s1.raisePh { src := 19, tile := t, well := w }).capEventReg t w else s1

/-- The excess timer (R208): in ns x kHz, an outer period is 8,000,000 of them. -/
def State.excessStep (s : State) (t w : Nat) : State :=
  let k := s.khz t
  let full := 2000000 * k
  let h := s.sh t w
  if s.overCap t w then
    let x := h.excess + 8000000
    (s.updSh t w (fun h => { h with excess := x, below := 0, windowClean := false })).wr (WL_TIE t w) WL_TIE.EXCESS
      (min 255 (if k = 0 then 0 else x / (16000 * k)))
  else
    let b := h.below + 8000000
    let x := if full ≤ b then 0 else h.excess
    (s.updSh t w (fun h => { h with below := min full b, excess := x })).wr (WL_TIE t w) WL_TIE.EXCESS
      (min 255 (if k = 0 then 0 else x / (16000 * k)))

end Sys2Proof.Machine
end

