-- ==== Sys2Proof/Machine/Motion.lean ====
section
/-! DEFINITION. The profile generator's quantities, priming headroom, tracking relations, and moves between the modes of a well (R137-R157). -/

namespace Sys2Proof.Machine

open Sys2Proof

/-- Voltages as the generator holds them: 2^-16 mV from 0.5 mV. -/
def volt16 (v : Nat) : Int := (v * 32768 : Nat)

/-- x rounded to 0.5 mV and to 1/16 mV, ties to even (R137, R240). -/
def half (x : Int) : Int := roundDiv x 32768
def sixteenth (x : Int) : Int := roundDiv x 4096

def State.vlo (s : State) (t w : Nat) : Int := volt16 (s.rd (WL_MOTION0 t w) WL_MOTION0.VLO)
def State.vhi (s : State) (t w : Nat) : Int := volt16 (s.rd (WL_MOTION0 t w) WL_MOTION0.VHI)
def State.vcmd (s : State) (t w : Nat) : Int := volt16 (s.rd (WL_SETPT t w) WL_SETPT.V_CMD)
def State.hb (s : State) (t w : Nat) : Nat := s.rd (WL_MOTION1 t w) WL_MOTION1.HB

/-- The generator's values shown in WL_SETPT.V_SET and WL_PROF_STAT. -/
def State.motionView (s : State) (t w : Nat) : State :=
  let m := s.mo t w
  let s1 := s.wr (WL_SETPT t w) WL_SETPT.V_SET ((half m.x).toNat % 4096)
  (s1.wri (WL_PROF_STAT t w) WL_PROF_STAT.VEL (roundDiv m.v 256)).wri (WL_PROF_STAT t w) WL_PROF_STAT.ACC (roundDiv m.a 256)

/-! ### Priming admission (R154, R155) -/

/-- C_OUT x VMAX_PRIME + PRIME_LOAD of one well in 1/64 A: uF times 1/256 mV/us. -/
def State.inrushOne (s : State) (t w : Nat) : Int :=
  let c := s.rd (WL_MOTION0 t w) WL_MOTION0.C_OUT
  let v := s.rd (WL_PROF t w 1) WL_PROF.VMAX
  roundDiv ((c * v : Nat) : Int) 4000 + s.rdi (WL_MOTION1 t w) WL_MOTION1.PRIME_LOAD

/-- A follower whose relation is in force (R151). -/
def State.tracks (s : State) (t w : Nat) : Bool := s.flag (WL_TRACK t w) WL_TRACK.ACTIVE

/-- P_w: summed over the well and the followers admitted with it (R151, R154). -/
def State.inrush (s : State) (t w : Nat) : Int :=
  (s.followersOf t w).foldl (fun a f => a + s.inrushOne t f) (s.inrushOne t w)

/-- Priming headroom for a well: LIMIT less the currents of the cistern's other wells (R154). -/
def State.primeHead (s : State) (t w : Nat) : Int :=
  ((cistWells (w / 4)).filter (· ≠ w)).foldl (fun a v => a - s.iW t v) (s.cistLimit t (w / 4))

def State.inrushUse (s : State) (t c : Nat) : Int := (cistWells c).foldl (fun a w => a + (s.mo t w).reserved) 0

/-- The admission conditions of a waiting well at a boundary; an SRAM well waits for nothing (R153, R154). -/
def State.admits (s : State) (t w : Nat) : Bool :=
  decide (12 ≤ w) || (decide (s.inrush t w ≤ s.primeHead t w) &&
    decide (s.inrushUse t (w / 4) + s.inrush t w ≤ TopoCist.INRUSH.geti (s.cistWord t (w / 4))))

/-- PH_PRIME.PRIME_HEAD of a cistern: for its lowest well that measures its OFFSETs, waits or primes, else leaving out none of its wells
(R154; which well it leaves out is the model's choice, log entry 89). -/
def State.headView (s : State) (t c : Nat) : State :=
  let busy := (cistWells c).filter (fun w => s.stage t w == stCal || s.stage t w == stWait || s.stage t w == stPriming)
  let h := match busy with
    | w :: _ => s.primeHead t w
    | [] => s.cistLimit t c - s.cistSum t c
  s.wri (PH_PRIME t c) PH_PRIME.PRIME_HEAD h

/-- A waiting well fails to be admitted, and the followers that wait with it: they stay DRY (R151, R160, R161). -/
def State.primeFail (s : State) (t w : Nat) : State :=
  (w :: (s.followersOf t w).filter (fun f => s.stage t f == stCal || s.stage t f == stWait)).foldl (fun (u : State) v =>
    (u.unprime t v).report t v 4 false) s

/-- The boundary of a well in CAL or WAIT_HEAD: the successive boundaries that meet the conditions; the one check of a PRIME with
ARG 0 (R154, R160). -/
def State.waitStep (s : State) (t w : Nat) : State :=
  let ok := s.admits t w
  let run := if ok then (s.mo t w).admitRun + 1 else 0
  let s1 := s.updMo t w (fun m => { m with admitRun := run })
  if s.stage t w = stWait ∧ s.tracks t w = false then
    if (s.mo t w).oneCheck ∧ ((s.mo t w).checked ∨ (run < 8 ∧ w < 12)) then s1.primeFail t w
    else s1.updMo t w (fun m => { m with checked := true })
  else s1

/-- The boundary of a ramp: it pauses below P_w, and counts towards resuming (R155); a ramp of safe priming does not pause (R75). -/
def State.rampStep (s : State) (t w : Nat) : State :=
  if 12 ≤ w ∨ s.tracks t w ∨ (s.mo t w).safePrime then s
  else if s.inrush t w ≤ s.primeHead t w then s.updMo t w (fun m => { m with headRun := m.headRun + 1 })
  else (s.wr (WL_PROF_STAT t w) WL_PROF_STAT.PAUSED 1).updMo t w (fun m => { m with headRun := 0 })

/-- Priming at an outer boundary of the well. -/
def State.primeStep (s : State) (t w : Nat) : State :=
  let s1 := if s.stage t w = stCal ∨ s.stage t w = stWait then s.waitStep t w
    else if s.stage t w = stPriming then s.rampStep t w else s
  if w < 12 then (s1.headView t (w / 4)).primeView t (w / 4) else s1

/-! ### Tracking (R150-R152) -/

/-- relation(x_l): RATIO/32768 x the leader's position, or the position plus OFFSET (R150). -/
def State.relation (s : State) (t f : Nat) (x : Int) : Int :=
  let a := WL_TRACK t f
  if s.rd a WL_TRACK.TYPE = 0 then roundDiv (x * (s.rd a WL_TRACK.RATIO : Nat)) 32768 else x + 32768 * s.rdi a WL_TRACK.OFFSET

/-- TRACKING_FAULT: a follower more than TRK_DEV from its x at two successive boundaries fails both wells; in a PRIME both ramps
pause (R152). -/
def State.trackStep (s : State) (t f : Nat) : State :=
  let l := s.rd (WL_TRACK t f) WL_TRACK.LEADER
  let dev : Int := (8 * s.rd (WL_TRACK t f) WL_TRACK.TRK_DEV : Nat)
  if s.tracks t f && (s.stage t f == stPriming || s.stage t f == stPark) then
    let far := decide (dev < ((s.lp t f).vMean - sixteenth (s.mo t f).x).natAbs)
    let run := if far then (s.mo t f).trkRun + 1 else 0
    let s1 := s.updMo t f (fun m => { m with trkRun := run })
    if run = 2 then
      let s2 := s1.raisePh { src := 13, tile := t, well := f, sub := l }
      if s.stage t f = stPriming then
        let stop := fun (u : State) (w : Nat) => (u.wr (WL_PROF_STAT t w) WL_PROF_STAT.PAUSED 1).updMo t w (fun m => { m with trkFail := true, headRun := 0 })
        ((stop (stop s2 f) l).report t f 4 false).report t l 4 false
      else (s2.report t f 7 false).report t l 7 false
    else s1
  else s

/-! ### Moves between modes (R138, R143, R146, R148, R130) -/

/-- The well enters hysteretic mode about its target: DE, no loop, no trims; the generator keeps its state (R79, R141, R143). A mode change
that waits for its opening is complete for it (R134); a HAND that waits in a fallback waits on (R165). -/
def State.toHyst (s : State) (t w : Nat) : State :=
  let s1 := ((s.setStage t w stHyst).setPmd t w true).setReg (WL_SHARE t w) 0
  let s2 := (s1.wr (WL_LOOP_STAT t w) WL_LOOP_STAT.RATE 3).wr (WL_PWM t w) WL_PWM.SRC (if (s1.te t w).kind = 1 then 3 else 2)
  let s3 := s2.each (s2.pumpsOf t w) (fun u p => u.updPump t w p (fun q => { q with duty := 0 }))
  let fall := s.flag (PH_ENG_STAT t) PH_ENG_STAT.HYST_FALLBACK
  ((s3.updMo t w (fun m => { m with hystReq := false, hystWait := false, handReq := m.handReq && fall })).updLp t w (fun l => { l with
    queue := [], half := none, entry := none, next := none, bad := false, heldX := none, retry := false, outDue := false, outer := none, outRetry := false })).takeMode t w

/-- Fallback of one well: hysteretic mode about the present x, held until it is handed over or parked (R130, R138). -/
def State.fallWell (s : State) (t w : Nat) : State :=
  if s.stage t w = stVolt then ((s.updMo t w (fun m => { m with xFall := some m.x })).toHyst t w) else s

/-- A HYST, or the park that waits, goes on at the split of the tie, or once the test step has been abandoned (R216, R235). -/
def State.afterSplit (s : State) (t w : Nat) : State :=
  if s.tied t w ∨ (s.te t w).kind ≠ 0 then s
  else if (s.mo t w).parkWait then s.parkBegin t w (s.mo t w).parkVoted
  else if (s.mo t w).hystWait then
    (if s.stage t w = stVolt then s.updMo t w (fun m => { m with hystWait := false, hystReq := true })
    else s.updMo t w (fun m => { m with hystWait := false, handReq := false }))
  else s

end Sys2Proof.Machine
end

