-- ==== Sys2Proof/Machine/FieldTest.lean ====
section
/-! DEFINITION. In-field tests and the return of a retired pump (R231-R237). -/

namespace Sys2Proof.Machine

open Sys2Proof

def State.ao (s : State) : Nat := (s.reg HD_AO_TIME).toNat

/-! ### When a step may run (R232, R233) -/

/-- The streams with a share in a physical well that play. -/
def State.playOn (s : State) (t w : Nat) : List Nat := (s.logicalsOn t w).filter (fun l => (s.stream t l).live)

/-- A quiet window of a physical well (R232). -/
def State.quietWindow (s : State) (t w : Nat) : Bool := (s.playOn t w).all (fun l => decide ((s.stream t l).quiet ≠ []))

/-- The least IMAX of a stream's open test windows that reach a program beat, 1/64 A. -/
def Stream.quietImax (x : Stream) (upTo : Nat) : Int := ((least ((x.quiet.filter (fun q => decide (upTo ≤ q.1))).map (·.2.toNat))).getD 0 : Nat)

/-- The summed IMAX shares of the quiet windows that stay open for `n` program beats, 1/64 A in 48ths (R232). -/
def State.quietShare (s : State) (t w n : Nat) : Int :=
  (s.playOn t w).foldl (fun a l => a + (s.stream t l).quietImax ((s.stream t l).pb + n) * (s.share48 t l w : Nat)) 0

/-- R232's conditions, on a well in voltage mode or held in hysteretic mode (R148): at least 32 units of 16 beats remain of every window. -/
def State.quietOk (s : State) (t w : Nat) : Bool :=
  (s.stage t w == stVolt || s.stage t w == stHyst) && s.quietWindow t w &&
    (s.playOn t w).all (fun l => (s.stream t l).quiet.all (fun q => decide ((s.stream t l).pb + 512 ≤ q.1))) &&
    decide (2 * s.quietShare t w 512 ≤ 48 * (s.rd (WL_MOTION1 t w) WL_MOTION1.IPK : Nat)) &&
    !s.tied t w && !s.flag (WL_TIE t w) WL_TIE.DEFICIT && decide ((s.sh t w).guard = [])

/-- R233's conditions for a pump; a returned pump is only required not to be RETIRED (R237). -/
def State.shadowFit (s : State) (t w p : Nat) : Bool :=
  let rest := (s.servicePumps t w).filter (· ≠ p)
  let cap : Int := rest.foldl (fun (a : Int) r => a + (s.pumpCap t w r 1152 : Nat)) 0
  let load := s.loadF t w
  (s.stage t w == stVolt) && decide (2 ≤ s.wellState t w) && !s.tied t w && !s.flag (WL_TIE t w) WL_TIE.DEFICIT &&
    ((s.sh t w).pr.app == 0) && ((s.sh t w).pr.want == 0) && decide ((s.sh t w).guard = []) &&
    (if w < 12 then (cistWells (w / 4)).all (fun v => (s.te t v).kind == 0) else (s.te t w).kind == 0) &&
    ((s.service t w p == 1) || ((s.pump t w p).returned && s.service t w p != 3)) &&
    decide (s.ratedN t w ≤ rest.length) && decide (load ≤ cap) && decide (load ≤ (rest.length : Int) * s.ovlLim t w)

/-- The pump the next step tests: one that was returned, else the lowest that has not passed since the test became due (R232,
R237). -/
def State.nextTest (s : State) (t w : Nat) : Option Nat :=
  match (s.pumpsOf t w).find? (fun p => (s.pump t w p).returned && s.service t w p != 3) with
  | some p => some p
  | none => (s.pumpsOf t w).find? (fun p => (s.service t w p == 1) && !bit (s.rd (WL_TEST t w) WL_TEST.PASS) p)

/-- The schedule may start a step: the test is due or a pump was returned; no step runs; no sequencer owns the well (R231, R236, R237). -/
def State.scheduled (s : State) (t w : Nat) : Bool :=
  ((s.te t w).kind == 0) && !s.owned t w && !s.stopped t &&
    ((s.te t w).dueAt.isSome || (s.pumpsOf t w).any (fun p => (s.pump t w p).returned && s.service t w p != 3))

/-- A pump in its own test step switches once its OFFSET is measured, a returned one too, though it is not yet in service (R232, R233, R237). -/
def State.testing (s : State) (t w p : Nat) : Bool :=
  let x := s.te t w
  (x.kind != 0) && (x.pump == p) && x.offsetOk.isSome && (s.service t w p != 3)

/-- The pumps of a well that switch: those in service, and the tested one. -/
def State.switchers (s : State) (t w : Nat) : List Nat := (s.pumpsOf t w).filter (fun p => s.inService t w p || s.testing t w p)

/-! ### Starting (R232, R233) -/

/-- LIVE pumps of a well beside one of them. -/
def State.siblings (s : State) (t w p : Nat) : Nat := ((s.pumpsOf t w).filter (fun q => q != p && s.service t w q == 1)).length

/-- A step begins on a pump: OFFSET is measured with its PEN low (R87), and the trims of the pumps that go on sharing are centred anew
(R118). A quiet-window step takes a well in voltage mode to hysteretic mode (R232). -/
def State.testBegin (s : State) (t w p kind : Nat) (byTest : Bool) : State :=
  let s1 := ((s.wr (WL_TEST t w) WL_TEST.STATE 2).wr (WL_TEST t w) WL_TEST.VARIANT kind).wr (WL_TEST t w) WL_TEST.NEXT_PUMP p
  let s2 := (s1.bump (PM_SVC t w p)).wr (PM_LINK t w p) PM_LINK.PEN 0
  let s3 := s2.updTe t w (fun x => { x with
    pump := p, kind := kind, byTest := byTest, queued := none, half1 := 0, half2 := 0, steps := 0
    stayHyst := s.stage t w == stHyst, prevOffset := s.pumpOffset t w p, offsetOk := none, mismatch := false, struck := false, broken := false, sib := s.siblings t w p })
  let s4 := (s3.updPump t w p (fun q => { q with measuring := true, inTest := true })).recentre t w
  if kind = 1 ∧ s.stage t w = stVolt then s4.updMo t w (fun m => { m with hystReq := true }) else s4

/-- Which kind of step can run on a pump now (R236): quiet window first. -/
def State.testKind (s : State) (t w p : Nat) : Nat :=
  let live := (s.service t w p == 1) || ((s.pump t w p).returned && s.service t w p == 0)
  if (s.te t w).kind ≠ 0 ∨ live = false then 0 else if s.quietOk t w then 1 else if s.shadowFit t w p then 2 else 0

/-- QUIET_TEST_START (R232). -/
def State.quietStart (s : State) (t w : Nat) : State :=
  match s.nextTest t w with
  | some p => if s.voltedOk t w && s.scheduled t w && s.quietOk t w then s.testBegin t w p 1 false else s
  | none => s

def execQuietTestStart (t w : Nat) (s : State) : Host.Outcome State Fault Refusal := done (s.quietStart t w)

/-- SHADOW_TEST_START (R233): after the deferral, or for a returned pump (R231, R237). -/
def State.shadowStart (s : State) (t w : Nat) : State :=
  match s.nextTest t w with
  | some p =>
    if s.voltedOk t w && s.scheduled t w && ((s.te t w).shadowOk || (s.pump t w p).returned) && s.shadowFit t w p then
      s.testBegin t w p 2 false
    else s
  | none => s

def execShadowTestStart (t w : Nat) (s : State) : Host.Outcome State Fault Refusal := done (s.shadowStart t w)

/-! ### Running: the open-loop trims of a shadow step (R233) -/

/-- The outer periods of ALONE_US (R232). -/
def State.alonePeriods (s : State) (t : Nat) : Nat := max 1 (ceilDiv (s.rd (PH_TESTCFG t) PH_TESTCFG.ALONE_US * s.khz t) 8000)

/-- A boundary of a shadow step after its OFFSET measurement: +TRIM for 8 outer periods, then -TRIM for 8. -/
def State.trimStep (s : State) (t w : Nat) : State :=
  let x := s.te t w
  let i := s.current t w x.pump
  let trim : Int := (s.rd (PH_TESTCFG t) PH_TESTCFG.TRIM : Nat)
  let s1 := s.updTe t w (fun x => { x with
    steps := x.steps + 1
    half1 := if 1 ≤ x.steps ∧ x.steps ≤ 8 then x.half1 + i else x.half1
    half2 := if 9 ≤ x.steps then x.half2 + i else x.half2 })
  s1.wri (WL_SHARE t w) (shareFld x.pump) (if x.steps < 8 then trim else if x.steps < 16 then -trim else 0)

/-- A boundary of a step: a sum mismatch at any of its boundaries fails a shadow step (R233); the current of a tested pump that carries
the well alone is summed (R232). -/
def State.shadowStep (s : State) (t w : Nat) : State :=
  let x := s.te t w
  let s1 := if x.kind = 2 then s.updTe t w (fun x => { x with mismatch := x.mismatch || decide (4 ≤ (s.sh t w).sumRun) }) else s
  if x.offsetOk.isNone then s1
  else if x.kind = 2 then (if x.steps < 17 then s1.trimStep t w else s1)
  else if x.kind = 1 ∧ x.steps ≤ s.alonePeriods t then
    s1.updTe t w (fun x => { x with steps := x.steps + 1, half1 := if x.steps = 0 then x.half1 else x.half1 + s.current t w x.pump })
  else s1

/-! ### Ending (R232, R233, R235) -/

/-- The temperature reading lies within 25 degrees of the mean of the siblings (R232), 1/8 degree. -/
def State.tempOk (s : State) (t w p : Nat) : Bool :=
  let sib := (s.servicePumps t w).filter (· ≠ p)
  let mean := meanI (sib.map (fun r => (s.pump t w r).temp))
  !(s.pump t w p).tempBroken && (sib.isEmpty || decide (((s.pump t w p).temp - mean).natAbs ≤ 200))

/-- 64 times the measured gain ratio of a shadow step (R233): the difference of the means of the halves over
2 x TRIM x BUS / (65536 x R_PH). -/
def State.gainRatio (s : State) (t w : Nat) : Int :=
  let x := s.te t w
  let d := x.half1 - x.half2
  let step : Nat := 2 * s.rd (PH_TESTCFG t) PH_TESTCFG.TRIM * (s.rd (PH_BUS t) PH_BUS.BUS) * 64000
  roundDiv (d * (65536 * s.rd (WL_FRULE1 t w) WL_FRULE1.R_PH * 64 : Nat)) (8 * step)

/-- The step passes (R232, R233). -/
def State.testPass (s : State) (t w : Nat) : Bool :=
  let x := s.te t w
  let tol := s.rd (PH_TESTCFG t) PH_TESTCFG.GAIN_TOL
  (x.offsetOk == some true) && s.tempOk t w x.pump &&
    (if x.kind = 1 then decide ((roundDiv x.half1 (s.alonePeriods t) - s.iDrop t w).natAbs ≤ s.sumTol t w)
     else !x.mismatch && decide ((s.gainRatio t w - 64).natAbs ≤ tol))

/-- The test is complete once every pump in service has passed: AGE_H returns to zero (R235). -/
def State.testComplete (s : State) (t w : Nat) : State :=
  if (s.servicePumps t w).all (fun p => bit (s.rd (WL_TEST t w) WL_TEST.PASS) p) && (s.te t w).dueAt.isSome && s.wet t w &&
      ((s.te t w).kind == 0) then
    (s.wr (WL_TEST t w) WL_TEST.STATE 0).updTe t w (fun x => { x with ageAt := s.ao, dueAt := none, overdue := false, shadowOk := false })
  else s

/-- A step leaves the pump and the well; a quiet-window step hands a well that was in voltage mode back to it (R232; log entry 91). -/
def State.testLeave (s : State) (t w : Nat) : State :=
  let x := s.te t w
  let s1 := (s.wr (WL_TEST t w) WL_TEST.STATE (if x.overdue then 3 else if x.dueAt.isSome then 1 else 0)).wr (WL_TEST t w) WL_TEST.VARIANT 0
  let s2 := (s1.updTe t w (fun x => { x with kind := 0, pump := 0, byTest := false, offsetOk := none })).updPump t w x.pump
    (fun q => { q with measuring := false, inTest := false })
  let s3 := s2.wri (WL_SHARE t w) (shareFld x.pump) 0
  if x.kind = 1 ∧ !x.stayHyst then (if s3.stage t w = stHyst then s3.updMo t w (fun m => { m with handReq := true }) else s3.updMo t w (fun m => { m with hystReq := false }))
  else s3

/-- The tested pump is enabled again: LIVE, or a follower where it entered FOLLOW in its step; only a returned one leaves that (R230, R235). -/
def State.testBack (s : State) (t w p : Nat) : State :=
  let q := s.pump t w p
  if s.service t w p = 3 then s
  else ((s.penRise t w p).setService t w p (if q.follower && !q.returned then 2 else 1)).updPump t w p (fun q => { q with follower := q.follower && !q.returned })

/-- The step has passed; a returned pump's capability rises with the window (R237). -/
def State.testLive (s : State) (t w p : Nat) : State :=
  (s.testBack t w p).updPump t w p (fun q => { q with returned := false, rises := q.rises || q.returned })

/-- A TEST that waited, for a step of the schedule or for the split of the well's tie, runs its own step now, or is blocked (R216, R236). -/
def State.testQueued (s : State) (t w : Nat) : State :=
  match (s.te t w).queued with
  | some p =>
    if (s.te t w).kind ≠ 0 ∨ s.tied t w then s
    else
      let k := if s.stopped t then 0 else s.testKind t w p
      if k = 0 then ((s.updTe t w (fun x => { x with queued := none })).wr (WL_TEST t w) WL_TEST.BLOCKED 1).report t w 0xE false
      else s.testBegin t w p k true
  | none => s

/-- The end of a step is told to the TEST that runs it; a TEST that waited for a step of the schedule runs its own now (R236). -/
def State.testTell (s : State) (t w : Nat) (x : TestX) (ok : Bool) : State := if x.byTest then s.report t w 0xE ok else s.testQueued t w

/-- The opening of a tie with what waited for it (R214, R216). -/
def State.splitTie (s : State) (t n : Nat) : State :=
  let a := (tieWells n).1
  let b := (tieWells n).2
  ((((s.openTie t n).afterSplit t a).afterSplit t b).testQueued t a).testQueued t b

/-- The step has run its course: the alone period, or both trims (R232, R233). -/
def State.testRan (s : State) (t w : Nat) : Bool :=
  let x := s.te t w
  x.offsetOk.isSome && ((x.kind == 1 && decide (s.alonePeriods t < x.steps)) || (x.kind == 2 && decide (17 ≤ x.steps)))

/-- TEST_STEP_END: pass or fail (R235). -/
def State.testStepEnd (s : State) (t w : Nat) : State :=
  let x := s.te t w
  if s.voltedOk t w && s.testRan t w then
    let pass := s.testPass t w
    let gain := (min 255 (s.gainRatio t w).toNat)
    let s0 := if x.kind = 2 then s.wr (PM_SVC t w x.pump) PM_SVC.GAIN_MEAS gain else s
    let s1 := s0.testLeave t w
    let s2 := (s1.wr (WL_TEST t w) WL_TEST.PASS (setBit (s1.rd (WL_TEST t w) WL_TEST.PASS) x.pump pass)).wr (WL_TEST t w) WL_TEST.FAIL
      (setBit (s1.rd (WL_TEST t w) WL_TEST.FAIL) x.pump (!pass))
    let s3 := if pass then s2.testLive t w x.pump else (s2.updPump t w x.pump (fun q => { q with returned := false })).retire t w x.pump 8
    (s3.testComplete t w).testTell t w x pass
  else s

def execTestStepEnd (t w : Nat) (s : State) : Host.Outcome State Fault Refusal := done (s.testStepEnd t w)

/-- TEST_ABANDON: the tested pump returns to LIVE with its previous OFFSET, one that was OFF, or whose well went DRY, to OFF; the test stays due
(R235, R237, R269). -/
def State.testAbandon (s : State) (t w : Nat) : State :=
  let x := s.te t w
  if x.kind = 0 then s
  else
    let s1 := ((s.testLeave t w).wr (PM_ISNS t w x.pump) PM_ISNS.OFFSET x.prevOffset).wr (WL_TEST t w) WL_TEST.ABANDONED 1
    (if s.service t w x.pump == 0 || !s.wet t w then s1.penLow t w x.pump else s1.testBack t w x.pump).testTell t w x false

/-- Why a step is abandoned at a boundary: a deficit, a pump fault elsewhere in the well, the end of QUIET, a PARK or HYST that
waits (R235, R238). -/
def State.abandonNow (s : State) (t w : Nat) : Bool :=
  let x := s.te t w
  (x.kind != 0) && (s.flag (WL_TIE t w) WL_TIE.DEFICIT || (s.mo t w).parkWait || (s.mo t w).hystWait || !s.wet t w ||
    x.struck || (x.kind == 1 && !s.quietWindow t w) ||
    decide (s.siblings t w x.pump < x.sib) || s.service t w x.pump == 3)

/-- A stream has declared a step inside its test window: the test step in progress is abandoned (R168). -/
def State.testsBroken (s : State) (t : Nat) : State :=
  s.each ((List.range 14).filter (fun w => (s.te t w).broken)) (fun u w => (u.testAbandon t w).updTe t w (fun x => { x with broken := false }))

/-! ### Due, deferred, overdue (R231, R234) -/

/-- The test becomes due: pumps passed and deferral start anew, at a REQ also where it was due already (R231; DESIGN CHOICE, log entry 96). -/
def State.makeDue (s : State) (t w : Nat) : State :=
  let s1 := (s.wr (WL_TEST t w) WL_TEST.PASS 0).updTe t w (fun x => { x with dueAt := some s.ao, shadowOk := false, overdue := false })
  if (s.te t w).kind = 0 then s1.wr (WL_TEST t w) WL_TEST.STATE 1 else s1

/-- TEST_DUE: AGE_H has reached PERIOD_H (R231). -/
def State.testDue (s : State) (t w : Nat) : State :=
  let x := s.te t w
  if s.voltedOk t w && x.dueAt.isNone then s.makeDue t w else s

def execTestDue (t w : Nat) (s : State) : Host.Outcome State Fault Refusal := done (s.testDue t w)

/-- A write of WL_TEST: W1C flags, and REQ, which makes the test due at once (R231). -/
def State.testReqWrite (s : State) (t w : Nat) (d : Word) : State :=
  let s1 := s.plainWrite (WL_TEST t w) d
  if WL_TEST.REQ.get d = 1 ∧ w < 14 then s1.makeDue t w else s1

def execTestReq (t w : Nat) (d : Word) (s : State) : Host.Outcome State Fault Refusal := hostOp s (WL_TEST t w) d (·.testReqWrite t w d)

/-- TEST_DEFER_EXPIRY: DEFER_MAX_H after becoming due the test runs in shadow mode (R231). -/
def State.testDeferExpiry (s : State) (t w : Nat) : State :=
  if s.voltedOk t w && (s.te t w).dueAt.isSome then s.updTe t w (fun x => { x with shadowOk := true }) else s

def execTestDeferExpiry (t w : Nat) (s : State) : Host.Outcome State Fault Refusal := done (s.testDeferExpiry t w)

/-- TEST_OVERDUE: an operating hour of waiting after the deferral; raised once (R234). -/
def State.testOverdue (s : State) (t w : Nat) : State :=
  let x := s.te t w
  if s.voltedOk t w && x.dueAt.isSome && x.shadowOk && !x.overdue then
    let s1 := s.updTe t w (fun x => { x with overdue := true })
    (if x.kind = 0 then s1.wr (WL_TEST t w) WL_TEST.STATE 3 else s1).raisePh
      { src := 22, tile := t, well := w, sub := (s.nextTest t w).getD 0 }
  else s

def execTestOverdue (t w : Nat) (s : State) : Host.Outcome State Fault Refusal := done (s.testOverdue t w)

/-! ### Returning a retired pump (R237) -/

/-- A write of PH_RET_ARM: CODE 0xA5 arms the slot for 1 us; any other code disarms. -/
def State.retArmWrite (s : State) (t : Nat) (d : Word) : State :=
  let ok := PH_RET_ARM.CODE.get d = 0xA5
  let s1 := (s.wr (PH_RET_ARM t) PH_RET_ARM.SLOT (PH_RET_ARM.SLOT.get d)).wrb (PH_RET_ARM t) PH_RET_ARM.ARMED (decide ok)
  s1.updTile t (fun x => { x with armAt := if ok then some s.clk.ns else none })

def execRetArm (t : Nat) (d : Word) (s : State) : Host.Outcome State Fault Refusal := hostOp s (PH_RET_ARM t) d (·.retArmWrite t d)

/-- RET_ARM_EXPIRY: 1 us after arming. -/
def State.retArmExpiry (s : State) (t : Nat) : State :=
  if (s.tile t).armAt.isSome then (s.wr (PH_RET_ARM t) PH_RET_ARM.ARMED 0).updTile t (fun x => { x with armAt := none }) else s

def execRetArmExpiry (t : Nat) (s : State) : Host.Outcome State Fault Refusal := done (s.retArmExpiry t)

/-- A write of PM_SVC: the counter's clearing, and RETURN of an armed RETIRED pump, which becomes OFF and waits for a test step; each
return is recorded (R237). -/
def State.returnWrite (s : State) (t w p : Nat) (d : Word) : State :=
  let s1 := s.plainWrite (PM_SVC t w p) d
  let armed := s.flag (PH_RET_ARM t) PH_RET_ARM.ARMED && (s.rd (PH_RET_ARM t) PH_RET_ARM.SLOT == 4 * w + p) &&
    (((s.tile t).armAt.map (fun a => decide (s.clk.ns ≤ a + 1000))).getD false)
  if PM_SVC.RETURN.get d = 1 ∧ armed ∧ s.service t w p = 3 then
    let s2 := ((s1.wr (PH_RET_ARM t) PH_RET_ARM.ARMED 0).updTile t (fun x => { x with armAt := none })).setService t w p 0
    (s2.updPump t w p (fun q => { q with returned := true, lasting := false, faultAt := none })).recordEvent (PM_SVC t w p) d
  else s1

def execReturnPump (t w p : Nat) (d : Word) (s : State) : Host.Outcome State Fault Refusal := hostOp s (PM_SVC t w p) d (·.returnWrite t w p d)

end Sys2Proof.Machine
end

