-- ==== Sys2Proof/Machine/EngineBase.lean ====
section
/-! DEFINITION. The control engines: their modes, the order of their queues, and the outer evaluations they issue (R102-R104, R116, R118, R125-R129). -/

namespace Sys2Proof.Machine

open Sys2Proof

/-! ### Modes (R102, R103, R129-R131) -/

abbrev emNormal := 0
abbrev emLockstep := 1
abbrev emDegA := 2
abbrev emDegB := 3

def State.engMode (s : State) (t : Nat) : Nat := s.rd (PH_ENG_STAT t) PH_ENG_STAT.MODE
def State.fallback (s : State) (t : Nat) : Bool := s.flag (PH_ENG_STAT t) PH_ENG_STAT.HYST_FALLBACK

/-- FAILED_A and FAILED_B by engine number: 0 A, 1 B. -/
def failedFld (e : Nat) : Fld := if e = 0 then PH_ENG_STAT.FAILED_A else PH_ENG_STAT.FAILED_B
def State.failed (s : State) (t e : Nat) : Bool := s.flag (PH_ENG_STAT t) (failedFld e)

/-- The DEGRADED mode of an engine. -/
def degraded (e : Nat) : Nat := if e = 0 then emDegA else emDegB

/-- The engine that evaluates a well in a residue-checked mode (R102, R103). -/
def State.engineOf (s : State) (t w : Nat) : Nat :=
  let m := (s.lp t w).mode
  if m = emDegA then 0 else if m = emDegB then 1 else b2n (bit (s.rd (PH_ENG_LANES t) PH_ENG_LANES.ENGINE_B) w)

/-- The engine or engines that carry the well are not isolated (R129, R131). -/
def State.engineOk (s : State) (t w : Nat) : Bool :=
  if (s.lp t w).mode = emLockstep then !s.failed t 0 && !s.failed t 1 else !s.failed t (s.engineOf t w)

/-- Half rate: LOCKSTEP and DEGRADED (R102). -/
def halfRate (m : Nat) : Bool := m != 0

/-- The engines that evaluate a well: in LOCKSTEP both (R102). -/
def State.enginesOf (s : State) (t w : Nat) : List Nat := if (s.lp t w).mode = emLockstep then [0, 1] else [s.engineOf t w]

/-- An engine takes evaluations of the well: none that carries it is isolated, no fallback is in force, and the self-tests of chip reset
or acceptance have run (R130, R131). -/
def State.laneOk (s : State) (t w : Nat) : Bool := s.engineOk t w && !s.fallback t && !(s.en t).startTest

/-! ### The order of the queues (R104) -/

/-- Two wells have an engine in common. -/
def State.shareEngine (s : State) (t v w : Nat) : Bool := (s.enginesOf t v).any (fun e => (s.enginesOf t w).contains e)

/-- A retry of the well is queued. -/
def Loop.retries (l : Loop) : Bool := l.retry || l.outRetry

/-- A retry waits at the head of the well's engine. -/
def State.retryAhead (s : State) (t w : Nat) : Bool := (List.range 15).any (fun v => (s.lp t v).retries && s.shareEngine t v w)

/-- No sample queued on the well's engine closed before its own oldest. -/
def State.oldestFirst (s : State) (t w : Nat) : Bool :=
  (s.lp t w).queue.head?.all (fun q => (List.range 15).all (fun v =>
    (s.lp t v).queue.head?.all (fun r => decide (q.closed ≤ r.closed) || !s.shareEngine t v w)))

/-- No retry and no sample is queued on the well's engine: an outer evaluation may issue. -/
def State.outerTurn (s : State) (t w : Nat) : Bool :=
  (List.range 15).all (fun v => ((s.lp t v).queue.isEmpty && !(s.lp t v).retries) || !s.shareEngine t v w)

/-- Engine `e` has an idle issue slot: no evaluation is queued on it (R128). -/
def State.engineIdle (s : State) (t e : Nat) : Bool :=
  (List.range 15).all (fun v => ((s.lp t v).queue.isEmpty && !(s.lp t v).retries && !(s.lp t v).outDue) || !(s.enginesOf t v).contains e)

/-! ### The load line (R116, R212) -/

/-- V_tgt, and the quantities f_v and kff_eff are formed from (R116): a lead's load line bears half the group's current, its V_pre is
the mean of both wells' (R212). -/
def State.loadLine (s : State) (t w : Nat) : State :=
  let g := s.groupWells t w
  let lead := decide (1 < g.length) && (s.rd (WL_TIE t w) WL_TIE.ROLE != 2)
  let r : Int := (s.rd (WL_OUTER t w) WL_OUTER.R_LL : Nat)
  let i := if lead then g.foldl (fun a v => a + s.iW t v) 0 else s.iW t w
  let drop := if lead then roundDiv (r * i * 64) 125 else roundDiv (r * i * 128) 125
  let pre := if lead then roundDiv (g.foldl (fun a v => a + (s.lp t v).vPre) 0) g.length else (s.lp t w).vPre
  s.updLp t w (fun l => { l with vIn := (s.mo t w).x, bus := s.rd (PH_BUS t) PH_BUS.BUS }) |>.updMo t w (fun m => { m with vTgt := s.vcmd t w - drop + pre })

/-! ### The engine's part of an outer evaluation (R104, R116, R118, R125-R127) -/

/-- What the outer evaluation of a well computes: the trims of its group, V_tgt and the quantities of f_v and kff_eff. -/
def State.outerOut (s : State) (t w : Nat) : OuterRes :=
  let u := (s.loadLine t w).share t w
  ⟨(s.groupWells t w).map (fun v => (v, u.reg (WL_SHARE t v))), (u.mo t w).vTgt, (u.lp t w).vIn, (u.lp t w).bus⟩

/-- The pump takes part in sharing (R118, R233). -/
def State.shares (s : State) (t w p : Nat) : Bool := (s.livePumps t [w]).contains (w, p)

/-- The trims an outer evaluation formed for a well, `e`, are committed: a pump that has left LIVE since has none, and one in a test step keeps
the step's own (R118, R225, R233). -/
def State.commitTrims (s : State) (t : Nat) (e : Nat × Word) : State :=
  s.each (s.pumpsOf t e.1) (fun u p =>
    if (u.pump t e.1 p).inTest then u
    else u.wri (WL_SHARE t e.1) (shareFld p) (if s.shares t e.1 p then (shareFld p).geti e.2 else 0))

/-- A pump whose trim the evaluation formed has left sharing since (R118). -/
def State.tookTrim (s : State) (t : Nat) (e : Nat × Word) : Bool :=
  (s.pumpsOf t e.1).any (fun p => !s.shares t e.1 p && (shareFld p).geti e.2 != 0)

/-- A result of the outer evaluation is committed; the trims that remain are centred anew where a pump has left meanwhile (R118). -/
def State.outerCommit (s : State) (t w : Nat) (r : OuterRes) : State :=
  let s1 := (s.each r.shares (fun u e => u.commitTrims t e)).on (r.shares.any (s.tookTrim t ·)) (·.recentre t w)
  (s1.updLp t w (fun l => { l with vIn := r.vIn, bus := r.bus })).updMo t w (fun m => { m with vTgt := r.vTgt })

/-- The outer evaluation issues; in LOCKSTEP its commit waits for the comparison (R126). -/
def State.outerIssue (s : State) (t w : Nat) : State :=
  let r := s.outerOut t w
  let s1 := s.updLp t w (fun l => { l with outDue := false, outer := some r, outRetry := false, outFailA := false, outFailB := false })
  if (s.lp t w).mode = emLockstep then s1 else s1.outerCommit t w r

/-- The outer evaluations whose turn has come issue, the lowest well first. -/
def State.issueOuters (s : State) (t : Nat) : State :=
  s.each (List.range 15) (fun u w => if (u.lp t w).outDue && u.laneOk t w && u.outerTurn t w then u.outerIssue t w else u)

end Sys2Proof.Machine
end

