-- ==== Sys2Proof/Machine/Placement.lean ====
section
/-! DEFINITION. The placement engine's orders and the governor's hold on clusters without work: shared operations (R283, R289-R298). -/

namespace Sys2Proof.Machine

open Sys2Proof

/-! ### Cluster states and the governor's gates (R283, R289) -/

/-- The governor holds or releases a cluster's gate control (R283). -/
def State.govGate (s : State) (t k : Nat) (hold : Bool) : State :=
  if hold then (s.wr (PL_MAP (96 * t + k)) PL_MAP.GATED 1).gateOn t k PH_CLPWR.C_GOV
  else if s.flag (PL_MAP (96 * t + k)) PL_MAP.GATED || s.flag (PH_CLPWR t k) PH_CLPWR.C_GOV then
    (s.wr (PL_MAP (96 * t + k)) PL_MAP.GATED 0).gateOff t k PH_CLPWR.C_GOV
  else s

/-- A cluster that carries no work: SPARE, IDLE or RETIRED, or of an absent well (R283). -/
def State.noWork (s : State) (t k : Nat) : Bool :=
  let st := s.rd (PL_MAP (96 * t + k)) PL_MAP.STATE
  st == 1 || st == 2 || st == 3 || s.wellKind t (coreWell k) == 3

/-- The governor holds the clusters without work: under GATE_POLICY 0 whenever an image is ACTIVE, under 1 while the last decision found it
needed (R283). -/
def State.holdsIdle (s : State) : Bool :=
  let p := s.rd CG_CFG0 CG_CFG0.GATE_POLICY
  s.active && (p == 0 || (p == 1 && s.gov.hold))

/-- A cluster takes a state of R289; its gate follows the hold, and is released where the new state carries work; a moving cluster is never
vote-gated (R308). -/
def State.setMapState (s : State) (t k st : Nat) : State :=
  let moves := (st == 4 || st == 5) && s.flag (PH_CLPWR t k) PH_CLPWR.C_VOTE
  let s1 := (s.wr (PL_MAP (96 * t + k)) PL_MAP.STATE st).on moves (·.gateOff t k PH_CLPWR.C_VOTE)
  if s1.noWork t k then (if s1.holdsIdle then s1.govGate t k true else s1) else s1.govGate t k false

/-- PL_STAT.MIN_SPARES: the fewest SPARE clusters on any tile. -/
def State.minSpares (s : State) : State :=
  let n := fun t => ((List.range 96).filter (fun k => s.rd (PL_MAP (96 * t + k)) PL_MAP.STATE == 1)).length
  s.wr PL_STAT PL_STAT.MIN_SPARES (min 255 (s.allTiles.foldl (fun m t => min m (n t)) 255))

/-- WORK or IDLE: a cluster carries a logical cluster of a logical well whose stream is in the bound slice, or not (R289); the clusters of an
absent core well carry no work (R18). -/
def State.workOf (s : State) (t k : Nat) : Nat :=
  let bound := s.dsState t == dsBound || s.dsState t == dsPlaying || s.dsState t == dsStopped
  match s.logicalAt t k with
  | none => 1
  | some lk => if bound && (s.wellKind t (coreWell k) != 3) && (logicalWells lk).any (fun l => streamStart (s.entry t) l != 0) then 0 else 2

/-- The rest-beat wire of a cluster: a working cluster that is not gated rests with the logical wells it serves (R275, R276, R307). -/
def State.restWire (s : State) (t k : Nat) : Bool :=
  !s.flag (PH_CLPWR t k) PH_CLPWR.GATED && (s.workOf t k == 0) && (s.logicalAt t k).any (fun lk => (logicalWells lk).any (fun l => (s.ds t).resting.contains l))

/-- A well of class EVACUATE holds no working cluster any more: reported, and raised (R297). -/
def State.evacuated (s : State) (t w : Nat) : State :=
  if s.emptied t w then
    (s.capEvent t w).raiseW { src := 21, tile := t, well := w }
  else s

/-- After a bind or an unbind: WORK and IDLE follow the slice (R289); a well of class EVACUATE whose last working cluster becomes IDLE is reported
(R297). -/
def State.mapWork (s : State) (t : Nat) : State :=
  let s1 := s.each (List.range 96) (fun u k =>
    let st := u.rd (PL_MAP (96 * t + k)) PL_MAP.STATE
    if (st = 0 ∨ st = 2) ∧ u.workOf t k ≠ st then u.setMapState t k (u.workOf t k) else u)
  s1.each ((List.range 14).filter (fun w => !s.emptied t w)) (fun u w => u.evacuated t w)

/-! ### The governor's estimate, for the wafer and for a tile (R280-R282, R286) -/

/-- Which clusters S counts: those whose gate the governor does not hold now, those it would not hold if it held every one without
work, or all of them (R280, R283). -/
inductive GateView where
  | now | held | none
  deriving DecidableEq, Repr

/-- The clusters of a tile that S counts. -/
def State.ungated (s : State) (t : Nat) (v : GateView) : Nat :=
  match v with
  | .now => ((List.range 96).filter (fun k => !s.flag (PL_MAP (96 * t + k)) PL_MAP.GATED)).length
  | .held => ((List.range 96).filter (fun k => !s.noWork t k)).length
  | .none => 96

/-- A tile's part of S: an equal share of P_FIX, and its own clusters (R286; log entry 41), in 1/65536 of 1/16 W. -/
def State.fixedTile (s : State) (t : Nat) : Int :=
  roundDiv ((s.rd CG_CFG0 CG_CFG0.P_FIX * 65536 : Nat) : Int) s.tileCount + ((s.rd CG_CFG0 CG_CFG0.P_IDLE * s.ungated t .now * 65536 : Nat) : Int)

/-- P-hat(r) in 2^-34 of 1/16 W, from S in 1/65536 of 1/16 W (R281). -/
def predict (fixed16 k d16 : Int) (r : Nat) : Int := fixed16 * 262144 + k * d16 * (16 - (r : Int))

/-- A cap less n times MARGIN, in 2^-34 of 1/16 W (R282). -/
def State.margined (s : State) (cap n : Nat) : Int := (cap : Int) * (256 - (n * s.rd CG_CFG0 CG_CFG0.MARGIN : Nat)) * 67108864

/-- The smallest duty whose prediction meets a target. -/
def leastDuty (p : Nat → Int) (target : Int) : Option Nat := (List.range 16).find? (fun r => decide (p r ≤ target))

/-- It falls by one step per window below the present duty, and only under twice the margin (R282). -/
def fallRule (r now : Nat) (p : Nat → Int) (target2 : Int) : Nat :=
  if r < now then (if p (now - 1) ≤ target2 then now - 1 else now) else r

/-- A tile rest (R286): the prediction at the agreed duty goes to CG_TILE, the least duty that meets the tile's cap is the tile's need; it
falls under the rule of R282, and never below `least`. -/
def State.tileRestBy (s : State) (t r least : Nat) (p : Nat → Int) : State :=
  let cap := s.rd (PH_TILE_CAP t) PH_TILE_CAP.INPUT_CAP
  let need := if p r ≤ s.margined cap 1 then 0 else (leastDuty p (s.margined cap 1)).getD 15
  let v := max least (fallRule need (s.tile t).tr.want p (s.margined cap 2))
  let pred := (clampI 0 0xFFFFFF (roundDiv (p r) 17179869184)).toNat
  (s.setReg (CG_TILE t) (CG_TILE.P_PRED.set (CG_TILE.R_TILE.set 0 v) pred)).updTile t (fun x => { x with tr := x.tr.decide v s.clk.beat })

/-- The tile rest of an over-input fault (R29, R286): the 64 us average `p16`, in 1/65536 of 1/16 W, is the draw at the duty in force; what
exceeds the tile's part of S scales with the duty (DEDUCED, log entry 79). -/
def State.overInputRest (s : State) (t : Nat) (p16 : Int) : State :=
  let job := s.rd CG_STAT CG_STAT.R_JOB
  let now := max job (s.tile t).tr.app
  let fixed := s.fixedTile t
  let p := fun (r : Nat) => roundDiv ((fixed * (16 - (now : Int)) + (p16 - fixed) * (16 - (r : Int))) * 262144) (16 - now)
  (s.tileRestBy t job (s.tile t).tr.want p).updTile t (fun x => { x with tt := { x.tt with overAt := s.clk.beat } })

/-! ### Orders (R295, R296) -/

/-- A message on the reserved priority channel (R295). -/
def orderMsg (type id tile logical src dst gate : Nat) : Word :=
  BitVec.ofNat 64 (type * 2 ^ 60 + id * 2 ^ 48 + tile * 2 ^ 40 + logical * 2 ^ 33 + src * 2 ^ 26 + dst * 2 ^ 19 + gate * 2 ^ 11)

def State.sendOrder (s : State) (m : Word) : State := { s with plan := { s.plan with sent := s.plan.sent ++ [m] } }

def State.orderOf (s : State) (id : Nat) : Option Order := s.plan.orders.find? (fun o => o.id = id)

/-- PL_STAT.OUTSTANDING follows the orders; an order's STATUS in its slot. -/
def State.setOrders (s : State) (l : List Order) : State :=
  ({ s with plan := { s.plan with orders := l } } : State).wr PL_STAT PL_STAT.OUTSTANDING l.length

def State.orderStatus (s : State) (o : Order) (st : Nat) : State :=
  if s.rd (PL_ORDER o.slot) PL_ORDER.ID = o.id then s.wr (PL_ORDER o.slot) PL_ORDER.STATUS st else s

/-- An order ends: it is no longer outstanding (R295, R297). -/
def State.dropOrder (s : State) (o : Order) (st : Nat) : State :=
  (s.orderStatus o st).setOrders (s.plan.orders.filter (fun p => p.id ≠ o.id))

/-- The order is BOUND: the map swaps FROM and TO (R296). -/
def State.bindOrder (s : State) (o : Order) (id : Nat) : State :=
  let from_ := 96 * o.tile + o.src
  let dstW := 96 * o.tile + o.dst
  let s1 := (s.wr (PL_MAP from_) PL_MAP.LOGICAL 0xFF).wr (PL_MAP dstW) PL_MAP.LOGICAL o.logical
  let s2 := (s1.setMapState o.tile o.src 4).setMapState o.tile o.dst 5
  (s2.orderStatus o 2).setOrders (s2.plan.orders.map (fun p => if p.id = o.id then { p with status := 2, boundGate := id } else p))

/-- The accepted orders that a round completion of gate `id` binds: their logical well's stream holds the gate, and ORDER_LEAD
beats have passed since the ACCEPT (R189, R296). -/
def State.bindOrders (s : State) (t id : Nat) : State :=
  let lead := s.rd PL_CFG PL_CFG.ORDER_LEAD
  let due := s.plan.orders.filter (fun o => o.tile == t && o.status == 1 && decide (o.acceptAt + lead ≤ s.clk.beat) &&
    (logicalWells o.logical).any (fun l => (s.ds t).gateHolders.contains (256 * l + id)))
  s.each due (fun u o => u.bindOrder o id)

/-- A release waits for DONE of every order bound to that gate's completion (R296). -/
def State.orderHolds (s : State) (t id : Nat) : Bool :=
  s.plan.orders.any (fun o => o.tile == t && o.status == 2 && o.boundGate == id)

/-- CANCEL of an order: it takes effect unless the order is bound already, when LATE is set (R10, R300). -/
def State.cancelOrder (s : State) (o : Order) : State :=
  let s1 := s.sendOrder (orderMsg 2 o.id o.tile o.logical o.src o.dst o.gate)
  if o.status = 2 then (if s1.rd (PL_ORDER o.slot) PL_ORDER.ID = o.id then s1.wr (PL_ORDER o.slot) PL_ORDER.LATE 1 else s1)
  else s1.dropOrder o 5

end Sys2Proof.Machine
end

