-- ==== Sys2Proof/Machine/Outer.lean ====
section
/-! DEFINITION. The outer boundary of a well: OUTER_EVALUATION and the boundary rows that follow from its counts (R116-R119, R198, R205-R230, R254, R255). -/

namespace Sys2Proof.Machine

open Sys2Proof

/-! ### Input current and energy (R29, R255) -/

/-- A pump's duty in 1/65536: in voltage mode the duty the DPWM applied to it, in hysteretic mode its measured pulse duty, the on-time in
the outer period over its length of 8e9/f ps, f in kHz (R29). -/
def State.pumpDuty (s : State) (t w p : Nat) : Nat :=
  if s.hysteretic t w then (s.pump t w p).onPs * 65536 * s.khz t / 8000000000 else (s.pump t w p).duty

/-- The well's part of the tile input current, 1/64 A: sensed currents times duties, corrected by the measured bus voltage; the spec gives no
formula for that correction, a free value (R29, log entry 75). -/
def State.inputOf (s : State) (t w : Nat) : Int :=
  Config.busCorrected (roundDiv ((s.carriers t w).foldl (fun (a : Int) p => a + s.current t w p * s.pumpDuty t w p) 0) 65536)
    (s.rd (PH_BUS t) PH_BUS.BUS)

/-- The measured pulse duty of a well in hysteretic mode, averaged over the pumps in service (WL_PWM.DUTY). -/
def State.hystDuty (s : State) (t w : Nat) : State :=
  let ps := s.carriers t w
  let on := ps.foldl (fun a p => a + (s.pump t w p).onPs) 0
  if s.hysteretic t w ∧ ps ≠ [] then
    s.wr (WL_PWM t w) WL_PWM.DUTY (min 0xFFFF (on * 65536 * s.khz t / (8000000000 * ps.length)))
  else s

/-- The on-times of the outer period that closes have been read. -/
def State.clearOn (s : State) (t w : Nat) : State :=
  s.each (s.pumpsOf t w) (fun u p => if (u.pump t w p).onPs = 0 then u else u.updPump t w p (fun q => { q with onPs := 0 }))

/-- The tile's 64 us average input current (PH_TILE_CAP.INPUT_A), and the over-input fault, which starts the tile rest at once (R29, R286). -/
def State.tileInput (s : State) (t : Nat) : State :=
  let a := (List.range 15).foldl (fun (x : Int) w => x + meanI (s.well t w).tel.inHist) 0
  let s1 := s.wri (PH_TILE_CAP t) PH_TILE_CAP.INPUT_A a
  let lim := TopoTile.INLIM.geti (s.tileWord t)
  let over_ := decide (lim < a)
  let was := (s.tile t).tt.overIn
  let s2 := if over_ = was then s1 else s1.updTile t (fun x => { x with tt := { x.tt with overIn := over_ } })
  if over_ && !was then
    (s2.raisePh { src := 8, tile := t }).overInputRest t (roundDiv (a * (s.rd (PH_BUS t) PH_BUS.BUS : Nat) * 65536) 4000)
  else s2

/-- The energy of a boundary: 1/16 mV x 1/64 A over 8/f ms is 1/(128 f) uJ; the whole microjoules (R255). -/
def energyStep (carry : Int) (carryF f : Nat) (x : Int) : Int × Nat :=
  let c := if carryF = f then carry else carry * (f : Int) / (carryF : Int)
  let sum := c + x
  let unit : Int := (128 * f : Nat)
  if sum < unit then (sum, 0) else (sum % unit, (sum / unit).toNat)

/-- Telemetry of one outer period of a well; one in which PEN fell still counts (R254, R255, R258). -/
def State.teleStep (s : State) (t w : Nat) : State :=
  let f := max 1 (s.khz t)
  let wet := s.wet t w || (s.mo t w).dropPend
  let i := if wet then s.iW t w + (s.sh t w).tieI else 0
  let v := (s.lp t w).vMean
  let inI := if wet then s.inputOf t w else 0
  let bus : Int := (s.rd (PH_BUS t) PH_BUS.BUS : Nat)
  let x := (s.well t w).tel
  let e := energyStep x.carry x.carryF f (if wet then v * i else 0)
  let tt := (s.tile t).tt
  let c := if tt.carryF = f then tt.carryIn else tt.carryIn * (f : Int) / (tt.carryF : Int)
  let sum := c + inI * bus
  let unit : Int := (8000 * f : Nat)
  let inc := if sum < unit then 0 else (sum / unit).toNat
  let out := tt.carryOut + e.2
  let s1 := s.setWell t w { s.well t w with tel := { x with
    n := x.n + 1
    wet := x.wet + b2n wet
    sumI := x.sumI + i
    maxI := some (max i (x.maxI.getD i))
    minI := some (min i (x.minI.getD i))
    sumVI := if wet then x.sumVI + v * i else x.sumVI
    sumV := if wet then x.sumV + v else x.sumV
    carry := e.1
    carryF := f
    inSum := x.inSum + inI * bus
    inHist := (inI :: x.inHist).take (max 1 (s.n64 t))
    volt := x.volt && (s.stage t w == stVolt) } }
  let s2 := s1.setReg (WL_ENERGY t w) (s1.reg (WL_ENERGY t w) + BitVec.ofNat 64 e.2)
  let s3 := (s2.setReg (PH_E_IN t) (s2.reg (PH_E_IN t) + BitVec.ofNat 64 inc)).setReg (PH_E_OUT t)
    (s2.reg (PH_E_OUT t) + BitVec.ofNat 64 (out / 1000))
  s3.updTile t (fun y => { y with tt := { y.tt with
    carryIn := if sum < unit then sum else sum % unit
    carryF := f
    carryOut := out % 1000 } })

/-! ### Envelope checks (R198) -/

/-- Sum of a field of the envelopes in force at P, weighted by share, in 48ths. -/
def State.envelope (s : State) (t w : Nat) (f : Entry → Nat) : Nat :=
  (s.playOn t w).foldl (fun a l => a + f (s.entry t (s.stream t l).p.seg) * s.share48 t l w) 0

/-- The currents of the four pairs of switching periods: `edges` holds each pump's edges in each pair; an outer period's OFFSET is
four pairs' (R86, R198). -/
def State.pairCurrents (s : State) (t w : Nat) (edges : List (List Nat)) : List Int :=
  (List.range 4).map (fun j => (s.servicePumps t w).foldl (fun (a : Int) p =>
    let c := (edges.getD p []).getD j 0
    let gain := s.rd (PM_LINK t w p) PM_LINK.GAIN
    a + senseCurrent (s.khz t) gain w 1 ((1024 * c : Nat) - (s.pumpOffset t w p : Nat) : Int)) 0)

/-- A change from one pair to the next faster than the envelope's rate plus DIDT_TOL: a pair spans 2/f (R198); rates in 2 A/us. -/
def State.tooFast (s : State) (t w : Nat) (a b : Int) : Bool :=
  let d := b - a
  let tol := s.rd (DS_CFG t) DS_CFG.DIDT_TOL
  let lim := s.envelope t w (if 0 ≤ d then envRise else envFall) + 48 * tol
  decide (2 * lim * 128000 < d.natAbs * s.khz t * 48)

/-- The successive pairs that a list of currents forms. -/
def steps2 : List Int → List (Int × Int)
  | a :: b :: r => (a, b) :: steps2 (b :: r)
  | _ => []

/-- A change between successive pairs is too fast, outside the beats within two beats of a rest transition (R174, R198); a pair lasts
2e6/f ns, f in kHz. -/
def State.didtBreak (s : State) (t w : Nat) (cs : List (Int × Int)) : Bool :=
  let pair := 2000000 / max 1 (s.khz t)
  (List.range cs.length).any (fun j =>
    let e := cs.getD j (0, 0)
    let stop := s.beatNs - (cs.length - 1 - j) * pair
    s.tooFast t w e.1 e.2 && !s.restClose t w (stop - 2 * pair) stop)

/-- The checks of R198 at a boundary: CURRENT, DIDT and QUIET, against an envelope in force only (R199). -/
def State.envelopeCheck (s : State) (t w : Nat) (edges : List (List Nat)) : State :=
  let pairs := s.pairCurrents t w edges
  let all := ((s.sh t w).lastPair.elim pairs (fun x => x :: pairs))
  let s0 := s.updSh t w (fun h => { h with lastPair := pairs.getLast? })
  if w < 14 ∧ s.playOn t w ≠ [] ∧ s.dsState t = dsPlaying then
    let i := s.iW t w
    let tol : Int := (8 * s.rd (DS_CFG t) DS_CFG.I_TOL : Nat)
    let imax : Int := (8 * s.envelope t w envImax : Nat)
    let s1 := if imax + 48 * tol < 48 * i then s0.breachWell t w bkCurrent else s0
    let s2 := if s.didtBreak t w (steps2 all) then s1.breachWell t w bkDidt else s1
    if s.quietWindow t w ∧ s.quietShare t w 0 + 48 * tol < 48 * i then (s2.breachWell t w bkQuiet).testAbandon t w else s2
  else s0

/-! ### Dormancy (R313) -/

/-- PUMPHOUSE_DORMANT: the fast clocks stop; the keeper well moves to hysteretic mode (R313). -/
def State.dormant (s : State) (t : Nat) : State :=
  if s.allDry t && (s.rd (PH_PWR t) PH_PWR.STATE == 0) then
    let s1 := (s.wr (PH_PWR t) PH_PWR.STATE 1).updTile t (fun x => { x with en := { x.en with wakeTest := true } })
    if s1.stage t 14 = stVolt then s1.updMo t 14 (fun m => { m with hystReq := true }) else s1
  else s

/-! ### The boundary (R116) -/

/-- Pumps whose retirement waits for this boundary, and a well whose PEN has fallen (R25, R92, R157, R265, R269); what waited for the split of
the well's tie, however that came about (R216); the parking of safe-primed wells goes on (R76). -/
def State.boundaryFirst (s : State) (t w : Nat) : State :=
  let s1 := s.each (s.pumpsOf t w) (fun u p => if (u.pump t w p).retire ≠ 0 then u.retire t w p (u.pump t w p).retire else u)
  (((if (s1.mo t w).dropPend then s1.goDry t w else s1).afterSplit t w).testQueued t w).safeAdvance t

/-- What the sense edges give (R86, R116, R223). -/
def State.boundarySense (s : State) (t w : Nat) (edges : List (List Nat)) : State :=
  let s1 := s.updSh t w (fun h => { h with outerN := h.outerN + 1 })
  let s2 := s1.each (s1.pumpsOf t w) (fun u p => u.decodePump t w p ((edges.getD p []).foldl (· + ·) 0))
  ((s2.senseMeans t w).followers t w).wellCurrent t w

/-- The checks on pumps and connections of a wet well (R222-R229); followers end with their sum check, or at a quiet window (R225). -/
def State.boundaryChecks (s : State) (t w : Nat) : State :=
  let s1 := (((s.sumCheck t w).learn t w).senseNeg t w).unheld t w
  let q := decide (w < 14) && s1.quietWindow t w
  let s2 := s1.updSh t w (fun h => { h with quietNow := q })
  if q && !(s.sh t w).quietNow then
    s2.each ((s2.pumpsOf t w).filter (fun p => s2.service t w p == 2)) (fun u p => u.retire t w p 6)
  else s2

/-- Capability, ties and deficits (R32, R205-R221, R228). -/
def State.boundaryLoad (s : State) (t w : Nat) : State :=
  let s1 := ((s.recompute t w false).recheckSteps t w).mergeTie t w
  let s2 := (s1.regionOver t w).excessStep t w
  let s3 := if w < 12 then s2.cistFault t (w / 4) else s2
  if w < 14 then s3.deficitReact t w else s3

/-- The regulation of a well in voltage mode: the engine's part of the outer evaluation is queued and issues in its turn (R104, R116,
R118). -/
def State.boundaryVolt (s : State) (t w : Nat) : State :=
  if s.looped t w then (s.updLp t w (fun l => { l with outDue := true })).issueOuters t else s

/-- What the outer period that ends gives: currents, tie currents, duties, telemetry and the envelope checks on it (R29, R86, R198, R213,
R254). -/
def State.boundaryPeriod (s : State) (t w : Nat) (edges : List (List Nat)) : State :=
  let s1 := (((s.boundarySense t w edges).tieStep t w).hystDuty t w).teleStep t w
  ((if s1.wet t w then s1.envelopeCheck t w edges else s1).clearOn t w).updSh t w (fun h => if h.logged = [] then h else { h with logged := [] })

/-- A test step at a boundary: it is abandoned or goes on; the test may be complete (R233, R235). -/
def State.boundaryTest (s : State) (t w : Nat) : State :=
  (if s.abandonNow t w then (s.testAbandon t w).afterSplit t w else s.shadowStep t w).testComplete t w

/-- A DRY well at its boundary: its capability is zero, and its cistern is judged without it (R25, R207, R221). -/
def State.boundaryDry (s : State) (t w : Nat) : State :=
  let s1 := s.recompute t w false
  if w < 12 then s1.cistFault t (w / 4) else s1

/-- OUTER_EVALUATION of a well: `edges` holds, for each installed pump, the sense edges in each of the four pairs of switching
periods of the outer period that ends here (R86, R116). -/
def State.outerEvaluation (s : State) (t w : Nat) (edges : List (List Nat)) : State :=
  if s.wellOk t w && (decide (w = 14) || (s.rd (PH_PWR t) PH_PWR.STATE != 1)) then
    let s1 := (s.boundaryPeriod t w edges).boundaryFirst t w
    let s2 := if s1.wet t w then ((s1.boundaryChecks t w).boundaryLoad t w).boundaryVolt t w else s1.boundaryDry t w
    let s3 := s2.boundaryTest t w
    let s4 := if w < 14 then (s3.primeStep t w).trackStep t w else s3
    ((s4.tileInput t).lowPower t).dormant t
  else s

def execOuterEvaluation (t w : Nat) (edges : List (List Nat)) (s : State) : Host.Outcome State Fault Refusal := done (s.outerEvaluation t w edges)

/-! ### What follows from the boundary's counts -/

/-- After a row that changed a well's means at this boundary, its deficit is judged on them (R238). -/
def State.again (s : State) (t w : Nat) : State := if w < 14 ∧ s.wet t w then (s.recompute t w false).deficitReact t w else s

/-- WELL_OVERLOAD: the excess timer has reached 2 ms (R208). -/
def State.wellOverload (s : State) (t w : Nat) : State :=
  let h := s.sh t w
  if s.voltedOk t w && !h.ovlRest && decide (0 < s.khz t) && decide (2000000 * s.khz t ≤ h.excess) then
    let s1 := (s.wr (WL_TIE t w) WL_TIE.OVERLOAD 1).updSh t w (fun h => { h with ovlRest := true, windowClean := false })
    (s1.raisePh { src := 16, tile := t, well := w }).setProtRest t w 15
  else s

def execWellOverload (t w : Nat) (s : State) : Host.Outcome State Fault Refusal := done (s.wellOverload t w)

/-- TIE_ACK: VP_TIE_ST[n] rises, or falls again as the switch opens (R209, R211). -/
def State.tieAck (s : State) (t n : Nat) (high : Bool) : State :=
  if s.tileOk t && decide (n < 12) then
    let s1 := s.wr (PH_TIE t) PH_TIE.ACK (setBit (s.rd (PH_TIE t) PH_TIE.ACK) n high)
    if high then s1 else s1.updTile t (fun x => { x with tieOff := x.tieOff.filter (fun e => e.1 ≠ n) })
  else s

def execTieAck (t : Nat) (n : TieLevel) (s : State) : Host.Outcome State Fault Refusal := done (s.tieAck t n.n n.high)

/-- TIE_FAULT on both wells of a switch, and the tie fault source (R211, R213). -/
def State.tieFault (s : State) (t n : Nat) : State :=
  ((s.wr (WL_TIE t (tieWells n).1) WL_TIE.TIE_FAULT 1).wr (WL_TIE t (tieWells n).2) WL_TIE.TIE_FAULT 1).raisePh
    { src := 17, tile := t, sub := n }

/-- The lead of a switch: the well that closed it. -/
def State.leadOf (s : State) (t n : Nat) : Nat :=
  if s.rd (WL_TIE t (tieWells n).1) WL_TIE.ROLE = 2 then (tieWells n).2 else (tieWells n).1

/-- The switch still reports closed 500 ns after VP_TIE fell (R209). -/
def State.opensLate (s : State) (t n : Nat) : Bool := (s.tile t).tieOff.any (fun e => e.1 == n && decide (e.2 + 500 ≤ s.clk.ns))

/-- TIE_ACK_TIMEOUT: no acknowledge by boundary Bk + 1, or a switch that has not opened in time (R209, R211). -/
def State.tieAckTimeout (s : State) (t n : Nat) : State :=
  let w := s.leadOf t n
  let h := s.sh t w
  let closing := (h.newTie == some n) || ((h.tie == some n) && (s.rd (WL_TIE t w) WL_TIE.PHASE == 1))
  if (s.tileOk t && decide (n < 12)) = false then s
  else if s.tieOn t n && !bit (s.rd (PH_TIE t) PH_TIE.ACK) n && closing && decide (h.tieAt + 1 ≤ h.outerN) then
    if h.newTie = some n then
      let s1 := (s.updSh t w (fun h => { h with newTie := none })).wr (WL_TIE t w) WL_TIE.ROLE 1
      ((s1.openTie t n).tieFault t n).again t w
    else ((s.openTie t n).tieFault t n).again t w
  else if !s.tieOn t n && s.opensLate t n then
    (s.updTile t (fun x => { x with tieOff := x.tieOff.filter (fun e => e.1 ≠ n) })).tieFault t n
  else s

def execTieAckTimeout (t n : Nat) (s : State) : Host.Outcome State Fault Refusal := done (s.tieAckTimeout t n)

/-- TIE_OVERCURRENT: TIE_I above TIE_IMAX at eight successive boundaries (R213). -/
def State.tieOvercurrent (s : State) (t n : Nat) : State :=
  let run := max (s.sh t (tieWells n).1).overRun (s.sh t (tieWells n).2).overRun
  if s.tileOk t && decide (n < 12) && bit (s.rd (PH_CIST t (n / 4)) PH_CIST.TIES) (n % 4) && decide (8 ≤ run) then
    let clear := fun (u : State) (w : Nat) => u.updSh t w (fun h => { h with overRun := 0 })
    let s1 := clear (clear ((s.startUnload t n).tieFault t n) (tieWells n).1) (tieWells n).2
    s1.again t (s.leadOf t n)
  else s

def execTieOvercurrent (t n : Nat) (s : State) : Host.Outcome State Fault Refusal := done (s.tieOvercurrent t n)

/-- The switch unloads. -/
def State.tieUnloads (s : State) (t n : Nat) : Bool :=
  s.tileOk t && decide (n < 12) && s.tieOn t n && (s.unloading t (tieWells n).1 || s.unloading t (tieWells n).2)

/-- TIE_OPEN: |TIE_I| within TIE_OPEN_I at two successive boundaries (R214). -/
def State.tieOpenE (s : State) (t n : Nat) : State :=
  let run := max (s.sh t (tieWells n).1).lowRun (s.sh t (tieWells n).2).lowRun
  if s.tieUnloads t n && decide (2 ≤ run) then s.splitTie t n else s

def execTieOpen (t n : Nat) (s : State) : Host.Outcome State Fault Refusal := done (s.tieOpenE t n)

/-- TIE_FORCED_OPEN: at the 16th outer period of an unload (R214). -/
def State.tieForcedOpen (s : State) (t n : Nat) : State :=
  let k := max (s.sh t (tieWells n).1).unloadN (s.sh t (tieWells n).2).unloadN
  if s.tieUnloads t n && decide (16 ≤ k) then
    (s.splitTie t n).updSh t (s.leadOf t n) (fun h => { h with forced := true })
  else s

def execTieForcedOpen (t n : Nat) (s : State) : Host.Outcome State Fault Refusal := done (s.tieForcedOpen t n)

/-- PUMP_OPEN_RETIRE: a pump that counted as open at two successive boundaries (R222). -/
def State.pumpOpenRetire (s : State) (t w p : Nat) : State :=
  if s.pumpOk t w p && decide (2 ≤ (s.pump t w p).openRun) && (s.service t w p == 1) then
    ((s.retire t w p 1).recentre t w).again t w
  else s

def execPumpOpenRetire (t w p : Nat) (s : State) : Host.Outcome State Fault Refusal := done (s.pumpOpenRetire t w p)

/-- The two grounds of R224 for distrusting a sense. -/
def State.senseFailed (s : State) (t w p : Nat) : Bool :=
  decide (3 ≤ (s.pump t w p).impl.length) || (decide (4 ≤ (s.sh t w).sumRun) && (s.sh t w).suspectAll == [p])

/-- SENSE_FOLLOW: the pump enters FOLLOW; a second one is retired at once, and the first follower with it (R224, R225). -/
def State.senseFollow (s : State) (t w p : Nat) : State :=
  if s.pumpOk t w p && (s.service t w p == 1) && s.senseFailed t w p then
    let first := (s.pumpsOf t w).filter (fun r => s.service t w r == 2)
    let s1 := s.updSh t w (fun h => { h with sumRun := 0, suspects := [] })
    if first ≠ [] then (((s1.retire t w p 7).each first (fun u r => u.retire t w r 5)).recentre t w).again t w
    else
      let s2 := (s1.setService t w p 2).wr (PM_SVC t w p) PM_SVC.REASON 4
      let s3 := s2.updPump t w p (fun q => { q with impl := [], fHist := [], openRun := 0, follower := true })
      (s3.recentre t w).again t w
  else s

def execSenseFollow (t w p : Nat) (s : State) : Host.Outcome State Fault Refusal := done (s.senseFollow t w p)

/-- CRACK_SUSPECT: R_STEP above the expected ratio at 64 successive qualifying boundaries (R227). -/
def State.crackSuspect (s : State) (t w : Nat) : State :=
  if s.voltedOk t w && decide (64 ≤ (s.sh t w).crackRun) && !s.flag (WL_CHK t w) WL_CHK.CRACK then
    ((s.wr (WL_CHK t w) WL_CHK.CRACK 1).updSh t w (fun h => { h with regCap := true, crackRun := 0 })).capEvent t w
  else s

def execCrackSuspect (t w : Nat) (s : State) : Host.Outcome State Fault Refusal := done (s.crackSuspect t w)

/-- SENSE_OPEN: the remote reading above the local one at two successive boundaries (R229); raised as that begins (R324). -/
def State.senseOpen (s : State) (t w : Nat) : State :=
  if s.voltedOk t w && decide (2 ≤ (s.sh t w).senseRun) &&
      !(s.flag (WL_CHK t w) WL_CHK.SENSE_OPEN && s.isHeld { src := 20, tile := t, well := w }) then
    let s1 := ((s.wr (WL_CHK t w) WL_CHK.SENSE_OPEN 1).wr (WL_CHK t w) WL_CHK.DROP_OK 0).holdPh { src := 20, tile := t, well := w }
    (s1.setProtRest t w (s1.sh t w).pr.want).capEvent t w
  else s

def execSenseOpen (t w : Nat) (s : State) : Host.Outcome State Fault Refusal := done (s.senseOpen t w)

end Sys2Proof.Machine
end

