-- ==== Sys2Proof/Machine/PumpLink.lean ====
section
/-! DEFINITION. Pump links and clocking: offsets, temperature returns, the fault wire, the bus limits and the reference clock (R77-R101). -/

namespace Sys2Proof.Machine

open Sys2Proof

/-! ### OFFSET (R87, R241) -/

/-- A write of PM_LINK: SKEW and GAIN, and CAL, which starts an OFFSET measurement while PEN is low (R87). -/
def State.calWrite (s : State) (t w p : Nat) (d : Word) : State :=
  let s1 := s.plainWrite (PM_LINK t w p) d
  if PM_LINK.CAL.get d = 1 ∧ s.flag (PM_LINK t w p) PM_LINK.PEN = false then s1.updPump t w p (fun q => { q with measuring := true }) else s1

def execCal (t w p : Nat) (d : Word) (s : State) : Host.Outcome State Fault Refusal := hostOp s (PM_LINK t w p) d (·.calWrite t w p d)

/-- OFFSET of a window converter from the sum of 64 codes, in 1/16 mV; XFAULT where it saturates (R241). -/
def State.winOffset (s : State) (t w : Nat) (sum : Int) : State :=
  let o := roundDiv sum 8
  let s1 := s.wri (AD_WIN t w) AD_WIN.OFFSET (clampI (-127) 127 o)
  if o < -127 ∨ 127 < o then s1.wr (AD_WIN t w) AD_WIN.XFAULT 1 else s1

/-- The CAL stage ends with the last measurement: the well waits for admission (R153, R154). -/
def State.calStageEnd (s : State) (t w : Nat) (winSum : Int) : State :=
  if s.stage t w = stCal ∧ (s.pumpsOf t w).all (fun p => !(s.pump t w p).measuring) then
    ((s.winOffset t w winSum).setStage t w stWait).primeViewOf t w
  else s

/-- After its OFFSET measurement the pump of a test step is enabled again; 6,400 edges within 128 pass (R232, R233). -/
def State.testOffset (s : State) (t w p edges : Nat) : State :=
  let x := s.te t w
  if x.kind ≠ 0 ∧ x.pump = p ∧ s.service t w p ≠ 3 then
    (s.updTe t w (fun x => { x with offsetOk := some (decide (6272 ≤ edges) && decide (edges ≤ 6528)) })).penRise t w p
  else s

/-- OFFSET_MEASURE_DONE: `edges` in 64 us with PEN low give OFFSET per outer period in 1/256 edges; a PEN that rose abandons the
measurement (R87). `winSum` is the sum of the 64 codes of the well's window converter (R241). -/
def State.offsetMeasureDone (s : State) (t w p edges : Nat) (winSum : Int) : State :=
  if s.pumpOk t w p && (s.pump t w p).measuring then
    let s1 := s.updPump t w p (fun q => { q with measuring := false })
    if s.flag (PM_LINK t w p) PM_LINK.PEN then s1
    else
      let o := min 0xFFFF (roundDiv ((edges * 32000 : Nat) : Int) (s.khz t)).toNat
      ((s1.wr (PM_ISNS t w p) PM_ISNS.OFFSET o).testOffset t w p edges).calStageEnd t w winSum
  else s

def execOffsetMeasureDone (t w p edges : Nat) (winSum : Int) (s : State) : Host.Outcome State Fault Refusal :=
  done (s.offsetMeasureDone t w p edges winSum)

/-! ### Temperature return (R89) -/

/-- TSNS_PERIOD: T = 200 d - 50 degrees C of a period with high time `high`, in 1/8 degree; outside 0.02-0.98 the reading is
broken. -/
def State.tsnsPeriod (s : State) (t w p high period : Nat) : State :=
  if s.pumpOk t w p then
    if period = 0 ∨ 50 * high < period ∨ 49 * period < 50 * high then s.updPump t w p (fun q => { q with tempBroken := true })
    else s.updPump t w p (fun q => { q with temp := roundDiv ((1600 * high : Nat) - (400 * period : Nat) : Int) period, tempBroken := false })
  else s

def execTsnsPeriod (t w p high period : Nat) (s : State) : Host.Outcome State Fault Refusal := done (s.tsnsPeriod t w p high period)

/-- TSNS_TIMEOUT: no edge for 50 us. -/
def execTsnsTimeout (t w p : Nat) (s : State) : Host.Outcome State Fault Refusal :=
  done (if s.pumpOk t w p then s.updPump t w p (fun q => { q with tempBroken := true }) else s)

/-! ### The fault wire (R90-R93) -/

abbrev clsShort := 1
abbrev clsOvertemp := 2
abbrev clsSupply := 3
abbrev clsUnknown := 4

/-- The class of a tag from its edges in 400 ns (R90). -/
def tagClass (edges : Nat) : Nat :=
  if edges = 0 then clsSupply else if edges ≤ 3 then clsShort else if edges < 90 then clsUnknown else clsOvertemp

/-- PM_SVC.REASON of a lasting fault (R92). -/
def lastingReason (cls : Nat) : Nat :=
  if cls = clsShort then 2 else if cls = clsOvertemp then 3 else if cls = clsSupply then 9 else 10

/-- A pump fault elsewhere in the well abandons a test step at the next boundary (R235). -/
def State.strikeTest (s : State) (t w p : Nat) : State :=
  if (s.te t w).kind ≠ 0 ∧ (s.te t w).pump ≠ p then s.updTe t w (fun x => { x with struck := true }) else s

/-- PUMP_FAULT_WIRE_FALL: the PWM is held low and the pump is out of sharing; `penFell`: PEN drops to park or retire in this very
cycle, so the fault counts though PEN is low (R90, R92, R93). -/
def State.faultWireFall (s : State) (t w p : Nat) (penFell : Bool) : State :=
  if s.pumpOk t w p && !s.flag (PM_STAT t w p) PM_STAT.LATCHED then
    let pen := s.flag (PM_LINK t w p) PM_LINK.PEN
    ((s.strikeTest t w p).wr (PM_STAT t w p) PM_STAT.LATCHED 1).updPump t w p (fun q => { q with
      faultPeriod := true
      wirePeriod := true
      lowAt := some s.clk.ns
      counts := pen || penFell
      classify := true
      pwmHeld := q.pwmHeld || pen })
  else s

def execPumpFaultWireFall (t w p : Nat) (penFell : Bool) (s : State) : Host.Outcome State Fault Refusal := done (s.faultWireFall t w p penFell)

/-- A classed fault is recorded: LAST_FAULT, TRIPS for SHORT, and the pump-trip source (R92). -/
def State.recordFault (s : State) (t w p cls : Nat) : State :=
  let s1 := s.wr (PM_STAT t w p) PM_STAT.LAST_FAULT cls
  (if cls = clsShort then s1.bump (PM_STAT t w p) else s1).raisePh { src := 9, tile := t, well := w, sub := p }

/-- No more than 1 ms, inclusive, lies between the edge of the fault before and this one's (R92, R93). -/
def PumpX.second (q : PumpX) (edge : Nat) : Bool := q.lasting || q.faultAt.any (fun a => decide (edge ≤ a + 1000000))

/-- What a class brings (R92): OVERTEMP retires the pump at once, a second fault within 1 ms at the next boundary, and in safe priming
any fault (R74); else the pump is re-armed 10 us after the edge. -/
def State.actFault (s : State) (t w p cls edge : Nat) : State :=
  let q := s.pump t w p
  if s.service t w p = 3 then s
  else if cls = clsOvertemp then s.retire t w p 3
  else if q.second edge ∨ (s.flag HD_IMG_STAT HD_IMG_STAT.SAFE ∧ w < 14) then
    s.updPump t w p (fun q => { q with retire := lastingReason cls, lasting := true, rearm := 0 })
  else
    let s1 := s.updPump t w p (fun q => { q with faultAt := some edge })
    if s.flag (PM_LINK t w p) PM_LINK.PEN then
      (s1.wr (PM_STAT t w p) PM_STAT.REARM_PEND 1).updPump t w p (fun q => { q with rearm := 1 })
    else s1

/-- FAULT_CLASSIFY: 400 ns after the fall, or after the PEN of a re-arm returned high (R90, R92). -/
def State.faultClassify (s : State) (t w p edges : Nat) : State :=
  let q := s.pump t w p
  if s.pumpOk t w p && q.classify then
    let cls := tagClass edges
    let s1 := (s.updPump t w p (fun q => { q with classify := false })).recordFault t w p cls
    if q.counts then s1.actFault t w p cls (q.lowAt.getD s.clk.ns) else s1
  else s

def execFaultClassify (t w p edges : Nat) (s : State) : Host.Outcome State Fault Refusal := done (s.faultClassify t w p edges)

/-- PUMP_REARM: PEN low for 100 ns; the pump keeps its service state (R92). -/
def State.pumpRearm (s : State) (t w p : Nat) : State :=
  if s.pumpOk t w p && ((s.pump t w p).rearm == 1) then
    (s.wr (PM_LINK t w p) PM_LINK.PEN 0).updPump t w p (fun q => { q with rearm := 2 })
  else s

def execPumpRearm (t w p : Nat) (s : State) : Host.Outcome State Fault Refusal := done (s.pumpRearm t w p)

/-- The pump is back in sharing at its next slot (R92). -/
def State.backInSharing (s : State) (t w p : Nat) : State := s.updPump t w p (fun q => { q with pwmHeld := false, faultPeriod := true })

/-- REARM_PEN_RELEASE: PEN returns high (R92). -/
def State.rearmPenRelease (s : State) (t w p : Nat) : State :=
  if s.pumpOk t w p && ((s.pump t w p).rearm == 2) then
    let s1 := ((s.penRise t w p).wr (PM_STAT t w p) PM_STAT.REARM_PEND 0).updPump t w p (fun q => { q with rearm := 3 })
    if s.flag (PM_STAT t w p) PM_STAT.LATCHED then s1 else s1.backInSharing t w p
  else s

def execRearmPenRelease (t w p : Nat) (s : State) : Host.Outcome State Fault Refusal := done (s.rearmPenRelease t w p)

/-- REARM_CHECK: a wire still low 100 ns after PEN returned high is the second fault, classified anew (R92). -/
def State.rearmCheck (s : State) (t w p : Nat) : State :=
  if s.pumpOk t w p && ((s.pump t w p).rearm == 3) then
    if s.flag (PM_STAT t w p) PM_STAT.LATCHED then
      s.updPump t w p (fun q => { q with rearm := 0, lasting := true, classify := true, counts := true })
    else s.updPump t w p (fun q => { q with rearm := 0 })
  else s

def execRearmCheck (t w p : Nat) (s : State) : Host.Outcome State Fault Refusal := done (s.rearmCheck t w p)

/-- PUMP_FAULT_WIRE_RISE: the latch is cleared; the pump switches again unless a re-arm or a retirement is still to come (R90, R92). -/
def State.faultWireRise (s : State) (t w p : Nat) : State :=
  if s.pumpOk t w p && s.flag (PM_STAT t w p) PM_STAT.LATCHED then
    let q := s.pump t w p
    let s1 := (s.wr (PM_STAT t w p) PM_STAT.LATCHED 0).updPump t w p (fun q => { q with lowAt := none, faultPeriod := true, wirePeriod := true })
    if q.rearm = 1 ∨ q.rearm = 2 ∨ q.retire ≠ 0 then s1 else s1.backInSharing t w p
  else s

def execPumpFaultWireRise (t w p : Nat) (s : State) : Host.Outcome State Fault Refusal := done (s.faultWireRise t w p)

/-- SOFT_SHORT_TRIP: the stream passes the image's lower trip value: PEN drops and a SHORT is recorded and acted on (R91, R92). -/
def State.softShortTrip (s : State) (t w p : Nat) : State :=
  if s.pumpOk t w p && s.flag (PM_LINK t w p) PM_LINK.PEN && s.inService t w p && decide (s.img.trip < 2560) then
    let s1 := ((s.strikeTest t w p).recordFault t w p clsShort).updPump t w p (fun q => { q with faultPeriod := true, pwmHeld := true })
    (s1.actFault t w p clsShort s.clk.ns).wr (PM_LINK t w p) PM_LINK.PEN 0
  else s

def execSoftShortTrip (t w p : Nat) (s : State) : Host.Outcome State Fault Refusal := done (s.softShortTrip t w p)

/-! ### The bus (R96, R78) -/

/-- BUS_FAULT: 200 ns beyond a limit. Below UV_LIM the keeper's pumps are held low too, and the keeper has no pump in service
(R19, R78). -/
def State.busFault (s : State) (t : Nat) (ov : Bool) : State :=
  if s.tileOk t && (s.tile t).busBad.isNone then
    let s1 := (s.updTile t (fun x => { x with busBad := some (b2n ov) })).holdPh { src := 7, tile := t, sub := b2n ov }
    if !ov && s1.wellOk t 14 then
      let s2 := (s1.dropWell t 14).setPmd t 14 false
      if s1.wet t 14 then s2.holdPh { src := 4, tile := t, well := 14 } else s2
    else s1
  else s

def execBusFault (t : Nat) (ov : Bool) (s : State) : Host.Outcome State Fault Refusal := done (s.busFault t ov)

/-- BUS_RECOVERY: the bus is within its limits again. -/
def State.busRecovery (s : State) (t : Nat) : State :=
  match (s.tile t).busBad with
  | some b => (s.updTile t (fun x => { x with busBad := none })).unhold { src := 7, tile := t, sub := b }
  | none => s

def execBusRecovery (t : Nat) (s : State) : Host.Outcome State Fault Refusal := done (s.busRecovery t)

/-- KEEPER_ENABLE: with the bus above UV_LIM the Pumphouse primes its DRY keeper well (R78, R149, R153). The tile having input power, the
keeper's window converter runs from here on, whatever the well's stage (R242). -/
def State.keeperEnable (s0 : State) (t : Nat) : State :=
  let s := if s0.wellOk t 14 && !((s0.tile t).busBad == some 0) then s0.wr (AD_WIN t 14) AD_WIN.RUN 1 else s0
  if s.wellOk t 14 && (s.stage t 14 == stDry) && !((s.tile t).busBad == some 0) && !(s.usablePumps t 14).isEmpty then
    let s1 := (s.setStage t 14 stCal).updMo t 14 (fun _ => {})
    s1.each (s1.pumpsOf t 14) (fun u p => u.updPump t 14 p (fun q => { q with measuring := true }))
  else s

def execKeeperEnable (t : Nat) (s : State) : Host.Outcome State Fault Refusal := done (s.keeperEnable t)

/-! ### The reference clock (R97-R101) -/

/-- REF_LOST of VP_REF, while the DCO follows it (R98, R380). -/
def State.refLost (s : State) : State := if s.flag CL_TIME CL_TIME.SRC then s else s.sourceLost

def execRefLost (s : State) : Host.Outcome State Fault Refusal := done s.refLost

/-- REF_QUALIFIED: 1 ms of a valid reference (R100). -/
def State.refQualified (s : State) : State :=
  if s.ckMode = ckHoldover ∨ s.ckMode = ckFree then (s.wr HD_CLK HD_CLK.MODE ckPullIn).setDco (fun d => { d with near := 0 }) else s

def execRefQualified (s : State) : Host.Outcome State Fault Refusal := done s.refQualified

/-- One step of R100's rule, with the reference's frequency in 1/3200 ppm and the phase in ps; the new frequency is
reached over the next 10 us; LOCKED after 100 us of phases below 20 ps. -/
def State.dcoStep (s : State) (fref phi : Int) : State :=
  if s.ckMode = ckPullIn ∨ s.ckMode = ckLocked then
    let d := s.clk.dco
    let target := fref - clampI (-320000) 320000 (32 * phi)
    let f := d.f1 + clampI (-6400) 6400 (target - d.f1)
    let near := if phi.natAbs < 20 then d.near + 1 else 0
    let s1 := (s.moveDco f 10000).setDco (fun d => { d with near := near })
    if 10 ≤ near ∧ s.ckMode = ckPullIn then s1.wr HD_CLK HD_CLK.MODE ckLocked else s1
  else s

/-- DCO_PULL_UPDATE against VP_REF (R100). -/
def State.dcoPullUpdate (s : State) (fref phi : Int) : State := if s.flag CL_TIME CL_TIME.SRC then s else s.dcoStep fref phi

def execDcoPullUpdate (fref phi : Int) (s : State) : Host.Outcome State Fault Refusal := done (s.dcoPullUpdate fref phi)

end Sys2Proof.Machine
end

