-- ==== Sys2Proof/Machine/Thermal.lean ====
section
/-! DEFINITION. Thermal sensing and shutdown: channels, the round and the hot list, throttle, the thermal stop and its end (R259-R273). -/

namespace Sys2Proof.Machine

open Sys2Proof

/-! ### Channels (R259-R261) -/

def State.chan (s : State) (t ch : Nat) : Chan := tget (fun _ => {}) (s.tile t).th.chans ch
def State.updTh (s : State) (t : Nat) (f : ThermX → ThermX) : State := s.updTile t (fun x => { x with th := f x.th })
def State.updChan (s : State) (t ch : Nat) (f : Chan → Chan) : State :=
  s.updTh t (fun h => { h with chans := tset (fun _ => {}) h.chans ch (f (tget (fun _ => {}) h.chans ch)) })

/-- A channel lies on the hot list (R262). -/
def State.isHot (s : State) (t ch : Nat) : Bool := (s.tile t).th.hot.contains ch

/-- Limits and reading of a channel, 1/8 degree C (R2, R273). -/
def State.limA (s : State) (t ch : Nat) : Int := s.rdi (TH_LIM t ch) TH_LIM.LIM_A
def State.limB (s : State) (t ch : Nat) : Int := s.rdi (TH_LIM t ch) TH_LIM.LIM_B
def State.temp (s : State) (t ch : Nat) : Int := s.rdi (TH_CH t ch) TH_CH.TEMP
def State.slope (s : State) (t ch : Nat) : Int := s.rdi (TH_CH t ch) TH_CH.SLOPE
def State.broken (s : State) (t ch : Nat) : Bool := s.flag (TH_CH t ch) TH_CH.BROKEN

/-- HARD_LIM of a die channel (R267). -/
def State.hardLim (s : State) (t ch : Nat) : Int := s.limB t ch + (s.rd (TH_CFG t) TH_CFG.HARD_MARGIN : Nat)

/-- The pump of a pump channel: well and pump slot (R259). -/
def chanWell (ch : Nat) : Nat := (ch - 32) / 4
def chanPump (ch : Nat) : Nat := (ch - 32) % 4

/-- The die sensors, and every channel of a tile (R259). -/
def dieChannels : List Nat := List.range 24
def State.channels (s : State) (t : Nat) : List Nat :=
  dieChannels ++ ((List.range 60).map (32 + ·)).filter (fun ch => s.channelOk t ch)

/-- A channel that gives readings: a pump channel, or a die channel that was converted at least once. -/
def State.reads (s : State) (t ch : Nat) : Bool := s.tileOk t && s.channelOk t ch && (decide (32 ≤ ch) || (s.chan t ch).seen)

/-- A trimmed conversion of a die sensor: kept for the mean of 25 us; out of range or too far from the one before, it is
invalid (R260, R261). -/
def State.dieCode (s : State) (t ch code : Nat) : State :=
  let c := s.chan t ch
  let bad := decide (code < 1280) || decide (2800 < code) ||
    (c.seen && decide (64 < ((code : Int) - (c.last : Int)).natAbs))
  s.updChan t ch (fun c => { c with
    codes := (s.clk.ns, code) :: c.codes.filter (fun e => s.clk.ns < e.1 + 25000)
    last := code
    seen := true
    bad := c.bad || bad })

/-- The raw temperature of a channel (R260). -/
def State.rawTemp (s : State) (t ch : Nat) : Int :=
  if 32 ≤ ch then (s.pump t (chanWell ch) (chanPump ch)).temp
  else
    let c := s.chan t ch
    let l := (c.codes.filter (fun e => s.clk.ns < e.1 + 25000)).map (·.2)
    if l = [] then (c.last : Int) - 1600 else roundDiv ((l.foldl (· + ·) 0 : Nat) : Int) l.length - 1600

/-- TEMP, PEAK, BROKEN and VALID of a channel are renewed (R260, R261). -/
def State.renew (s : State) (t ch : Nat) : State :=
  let a := TH_CH t ch
  let bad := (s.chan t ch).bad || (decide (32 ≤ ch) && (s.pump t (chanWell ch) (chanPump ch)).tempBroken)
  let broken := s.broken t ch || bad
  let r := if broken then s.limA t ch + 8 else clampI (-2048) 2047 (s.rawTemp t ch + s.rdi (TH_LIM t ch) TH_LIM.OFFSET)
  let s1 := ((s.wri a TH_CH.TEMP r).wri a TH_CH.PEAK (max r (s.rdi a TH_CH.PEAK))).wr a TH_CH.VALID 1
  if broken then
    ((s1.wr a TH_CH.BROKEN 1).wr a TH_CH.SLOPE 0).updChan t ch (fun c => { c with bad := bad, hist := [], round := none })
  else s1

/-! ### Throttle (R266) -/

/-- r_th of a well is decided, shown in TH_REST, and applied as a protective rest is timed (R218, R266). -/
def State.setTherm (s : State) (t w r : Nat) : State :=
  (s.wr (TH_REST t) ⟨4 * w + 3, 4 * w⟩ r).updSh t w (fun h => { h with th := h.th.decide r s.clk.beat })

def State.therm (s : State) (t w : Nat) : Nat := (s.sh t w).th.want

/-- The die channels over a core well (R259). -/
def dieOf (w : Nat) : List Nat := [2 * w, 2 * w + 1]

/-- Throttle starts at 1/16: counted, and a capability event (R266). -/
def State.throttleStart (s : State) (t w : Nat) : State :=
  if s.therm t w = 0 then ((s.setTherm t w 1).bump (TH_STAT t)).capEvent t w else s

/-- THROTTLE_STEP, every 100 us in throttle: r_th rises by 1/16, to 15/16 at most, while some die channel of the well reads at
least LIM_A with a SLOPE of zero or more (R266). -/
def State.throttleStep (s : State) (t w : Nat) : State :=
  if s.tileOk t && decide (w < 12) && (s.therm t w != 0) &&
      (dieOf w).any (fun ch => s.reads t ch && decide (s.limA t ch ≤ s.temp t ch) && decide (0 ≤ s.slope t ch)) then
    s.setTherm t w (min 15 (s.therm t w + 1))
  else s

def execThrottleStep (t w : Nat) (s : State) : Host.Outcome State Fault Refusal := done (s.throttleStep t w)

/-- At a round, as the well's second die channel is visited: r_th falls by 1/16 where both read below LIM_A - THR_HYS (R266). -/
def State.throttleFall (s : State) (t ch : Nat) : State :=
  let w := ch / 2
  let hys : Int := (s.rd (TH_CFG t) TH_CFG.THR_HYS : Nat)
  if ch < 24 ∧ ch % 2 = 1 ∧ s.therm t w ≠ 0 ∧ (dieOf w).all (fun c => decide (s.temp t c < s.limA t c - hys)) then
    s.setTherm t w (s.therm t w - 1)
  else s

/-! ### The thermal stop (R267, R268) -/

abbrev stopRun := 0
abbrev stopOrderly := 1
abbrev stopHard := 2
abbrev stopStopped := 3

def State.stopState (s : State) (t : Nat) : Nat := s.rd (TH_STAT t) TH_STAT.STOP
def State.setStop (s : State) (t v : Nat) : State := s.wr (TH_STAT t) TH_STAT.STOP v

/-- The temperature of a channel projected over a time in ns exceeds HARD_LIM (R267). -/
def State.projectsOver (s : State) (t ch ns : Nat) : Bool :=
  decide (s.hardLim t ch * 1000000 < s.temp t ch * 1000000 + s.slope t ch * (ns : Int))

/-- Some die channel reads at least HARD_LIM. -/
def State.dieAtHard (s : State) (t : Nat) : Bool := dieChannels.any (fun ch => s.reads t ch && decide (s.hardLim t ch ≤ s.temp t ch))

def State.orderlyNs (s : State) (t : Nat) : Nat := 1000 * s.rd (TH_CFG t) TH_CFG.ORDERLY_US

/-- Readings and SLOPE of the 80 channels, 24 bits each, two to a word (R270, R352). -/
def State.stopReadings (s : State) (t : Nat) : List Word :=
  let field := fun ch => ((TH_CH.TEMP.get (s.reg (TH_CH t ch))) * 4096 + TH_CH.SLOPE.get (s.reg (TH_CH t ch)) : Nat)
  let l := (s.channels t).map field
  (List.range 40).map (fun (i : Nat) => BitVec.ofNat 64 (l.getD (2 * i) 0 * 2 ^ 24 + l.getD (2 * i + 1) 0))

/-- The wells a sequencer primes or hands over fail, and priming on wake fails; a well whose priming still waits stays DRY (R271, R272,
R320). -/
def State.stopWells (s : State) (t : Nat) : State :=
  s.each (List.range 14) (fun u w =>
    let u1 := ((u.report t w 0x4 false).report t w 0x5 false).updMo t w (fun m => { m with handReq := false })
    let waits := u1.stage t w == stCal || u1.stage t w == stWait
    let u2 := if (u1.mo t w).waking then (u1.wakeFail t w).updMo t w (fun m => { m with waking := false }) else u1
    if waits then (u2.unprime t w).updMo t w (fun m => { m with safePrime := false })
    else if (u1.mo t w).waking then u2.dropWell t w else u2)

/-- A thermal stop while the loader is APPLYING: the tile does not take its configuration (R73, R272). -/
def State.stopApply (s : State) : State := if s.imgState = 3 then s.updLoad (fun l => { l with stopped := true }) else s

/-- A thermal stop starts: the slice stops, the source is raised, the sideband tells; orderly, or hard at once (R267, R268). -/
def State.stopStart (s : State) (t ch : Nat) : State :=
  let hard := s.projectsOver t ch (s.orderlyNs t) || s.dieAtHard t
  let s1 := (s.wr (TH_STAT t) TH_STAT.STOP_CH ch).wr (TH_STAT t) TH_STAT.KIND (if hard then 2 else 1)
  let s2 := s1.updTh t (fun h => { h with
    startNs := s.clk.ns
    startAo := s.reg HD_AO_TIME
    dropped := false
    fired := none
    coolAt := none
    record := s.stopReadings t })
  let s3 := ((((s2.stopSlice t).stopWells t).stopApply).raisePh { src := 24, tile := t, sub := ch }).ibi 3
  if hard then s3.setStop t stopHard
  else (s3.setStop t stopOrderly).each (List.range 96) (fun u k => u.gateReq t k)

/-- During an orderly stop a die channel at HARD_LIM, or projected over it by the end of the stop, ends it (R267, R268). -/
def State.orderlyCheck (s : State) (t : Nat) : State :=
  let spent := s.clk.ns - (s.tile t).th.startNs
  if s.stopState t = stopOrderly ∧ (s.dieAtHard t ||
      dieChannels.any (fun ch => s.reads t ch && !s.broken t ch && s.projectsOver t ch (s.orderlyNs t - spent))) then
    s.setStop t stopHard
  else s

/-! ### An evaluation of a channel (R262-R267) -/

/-- A pump at LIM_A is RETIRED at the next outer boundary; at LIM_B with its fault wire high, PEN falls at once and the pump is
retired in the same way (R265). Before the last PEN of a well falls its clusters are gated and held (R25); its ties open in that cycle
(R216). -/
def State.pumpAct (s : State) (t ch : Nat) : State :=
  let w := chanWell ch
  let p := chanPump ch
  let s1 := if s.limA t ch ≤ s.temp t ch ∧ s.service t w p ≠ 3 ∧ (s.pump t w p).retire = 0 then
      s.updPump t w p (fun q => { q with retire := 3 })
    else s
  if s.limB t ch ≤ s.temp t ch ∧ s.service t w p ≠ 3 ∧ (s.pump t w p).lowAt = none ∧ s.flag (PM_LINK t w p) PM_LINK.PEN then
    let last := (s.pumpsOf t w).all (fun q => q == p || !s.flag (PM_LINK t w q) PM_LINK.PEN)
    ((s1.on last (·.gateDry t w)).penCut t w p).on last (·.openTies t w)
  else s1

/-- A die channel at LIM_A throttles its core well; at LIM_B it stops the tile (R266, R267). -/
def State.dieAct (s : State) (t ch : Nat) : State :=
  let s1 := if s.limA t ch ≤ s.temp t ch then s.throttleStart t (ch / 2) else s
  if s1.limB t ch ≤ s1.temp t ch ∧ s1.stopState t = stopRun then s1.stopStart t ch else s1

/-- The comparisons with the limits and what they do. -/
def State.thermAct (s : State) (t ch : Nat) : State :=
  let r := s.temp t ch
  let s1 := s.on (decide (s.limA t ch ≤ r)) (·.wr (TH_CH t ch) TH_CH.OVER_A 1)
  let s2 := s1.on (decide (s.limB t ch ≤ r)) (·.wr (TH_CH t ch) TH_CH.OVER_B 1)
  if ch < 24 then s2.dieAct t ch else s2.pumpAct t ch

/-- A channel qualifies for the hot list (R263). -/
def State.qualifies (s : State) (t ch : Nat) : Bool :=
  let hm : Int := (s.rd (TH_CFG t) TH_CFG.HOT_MARGIN : Nat)
  decide (s.limA t ch - hm ≤ s.temp t ch) || decide (s.limA t ch ≤ s.temp t ch + s.slope t ch) || s.flag (TH_LIM t ch) TH_LIM.ALWAYS_HOT

/-- A channel on the list stays: it qualifies, or reads no lower than 2 degrees under the joining level (R263). -/
def State.staysHot (s : State) (t ch : Nat) : Bool :=
  let hm : Int := (s.rd (TH_CFG t) TH_CFG.HOT_MARGIN : Nat)
  s.qualifies t ch || decide (s.limA t ch - hm - 16 ≤ s.temp t ch)

/-- The hot list is replaced; HOT and HOT_COUNT follow. -/
def State.setHot (s : State) (t : Nat) (l : List Nat) : State :=
  let s1 := s.each (s.tile t).th.hot (fun u ch => u.wr (TH_CH t ch) TH_CH.HOT 0)
  let s2 := s1.each l (fun u ch => u.wr (TH_CH t ch) TH_CH.HOT 1)
  (s2.updTh t (fun h => { h with hot := l })).wr (TH_STAT t) TH_STAT.HOT_COUNT l.length

/-- The channel of a list with the lowest reading; of equals the last one. -/
def State.coolest (s : State) (t : Nat) : List Nat → Option Nat
  | [] => none
  | a :: l => match s.coolest t l with
    | none => some a
    | some b => if s.temp t a < s.temp t b then some a else some b

/-- A channel joins the hot list; of more than 16 the one with the lowest reading goes, and HOT_FULL is set (R263). -/
def State.joinHot (s : State) (t ch : Nat) : State :=
  let l := (s.tile t).th.hot ++ [ch]
  let s1 := s.updChan t ch (fun c => { c with quiet := false })
  if l.length ≤ 16 then s1.setHot t l
  else
    (match s.coolest t l with
    | some b => if b = ch then s else s1.setHot t (l.filter (· ≠ b))
    | none => s).wr (TH_STAT t) TH_STAT.HOT_FULL 1

/-! ### Cooling down (R271) -/

/-- A die channel reads below its resume level and is not broken. -/
def State.cool (s : State) (t ch : Nat) : Bool :=
  s.reads t ch && !s.broken t ch && decide (s.temp t ch < s.limA t ch - (s.rd (TH_CFG t) TH_CFG.RESUME_MARGIN : Nat))

/-- The time since which every die channel has read below the resume level. -/
def State.coolMark (s : State) (t : Nat) : State :=
  if dieChannels.all (fun ch => s.cool t ch) then
    if (s.tile t).th.coolAt = none then s.updTh t (fun h => { h with coolAt := some s.clk.ns }) else s
  else s.updTh t (fun h => { h with coolAt := none })

/-! ### The round (R262) -/

/-- A whole round of valid readings ends BROKEN; an invalid one since the last round makes the next round the first (R261). -/
def State.mend (s : State) (t ch : Nat) : State :=
  if s.broken t ch = false then s
  else if (s.chan t ch).bad then s.updChan t ch (fun c => { c with bad := false })
  else s.wr (TH_CH t ch) TH_CH.BROKEN 0

/-- The visit of a channel that is not on the hot list: SLOPE since the last round, limits, and whether it joins (R262, R263). -/
def State.roundEval (s : State) (t ch : Nat) : State :=
  let s1 := s.renew t ch
  let s2 := if s1.broken t ch then s1
    else
      let r := s1.temp t ch
      let s3 := match (s1.chan t ch).round with
        | some r0 => s1.wri (TH_CH t ch) TH_CH.SLOPE (clampI (-2048) 2047 (r - r0))
        | none => s1
      s3.updChan t ch (fun c => { c with round := some r })
  let s4 := s2.thermAct t ch
  if s4.qualifies t ch then s4.joinHot t ch else s4

/-- The round skips a channel on the hot list, and marks its reading; the channel leaves after one whole round in which nothing held it
there (R262, R263). -/
def State.roundHot (s : State) (t ch : Nat) : State :=
  let s1 := s.updChan t ch (fun c => { c with round := if s.broken t ch then none else some (s.temp t ch) })
  if (s.chan t ch).quiet ∧ s.staysHot t ch = false then s1.setHot t ((s.tile t).th.hot.filter (· ≠ ch))
  else s1.updChan t ch (fun c => { c with quiet := true })

/-- THERMAL_ROUND: the round of 1 ms visits a channel (R261-R267). -/
def State.thermalRound (s : State) (t ch : Nat) : State :=
  if s.reads t ch then
    let s1 := s.mend t ch
    let s2 := if s1.isHot t ch then s1.roundHot t ch else s1.roundEval t ch
    ((s2.throttleFall t ch).orderlyCheck t).coolMark t
  else s

def execThermalRound (t ch : Nat) (s : State) : Host.Outcome State Fault Refusal := done (s.thermalRound t ch)

/-! ### The hot list (R262) -/

/-- Every channel's reading is renewed and remembered (R260, R262). -/
def State.renewAll (s : State) (t : Nat) : State :=
  s.each ((s.channels t).filter (fun ch => s.reads t ch)) (fun u ch =>
    let u1 := u.renew t ch
    if u1.broken t ch then u1 else u1.updChan t ch (fun c => { c with hist := (u1.temp t ch :: c.hist).take 9 }))

/-- One hot channel: SLOPE over eight evaluations, scaled per ms, and the limits (R262-R267). -/
def State.hotEval (s : State) (t ch : Nat) : State :=
  let c := s.chan t ch
  let s1 := match c.hist, c.hist[8]? with
    | r :: _, some r8 => s.wri (TH_CH t ch) TH_CH.SLOPE (clampI (-2048) 2047 (5 * (r - r8)))
    | _, _ => s
  let s2 := if s1.staysHot t ch then s1.updChan t ch (fun c => { c with quiet := false }) else s1
  s2.thermAct t ch

/-- HOT_LIST_EVAL: every 25 us the channels on the hot list are evaluated (R262-R268). -/
def State.hotListEval (s : State) (t : Nat) : State :=
  if s.tileOk t then
    let s1 := s.renewAll t
    let s2 := s1.each ((s1.channels t).filter (fun ch => s1.isHot t ch)) (fun u ch => u.hotEval t ch)
    (s2.orderlyCheck t).coolMark t
  else s

def execHotListEval (t : Nat) (s : State) : Host.Outcome State Fault Refusal := done (s.hotListEval t)

/-! ### The end of an orderly stop and the hard stop (R268-R270) -/

/-- ORDERLY_STOP_END: at an outer boundary with no vote held on wells 0-13 the hard stop follows (R268). -/
def State.orderlyStopEnd (s : State) (t : Nat) : State :=
  if s.tileOk t ∧ s.stopState t = stopOrderly ∧ (List.range 14).all (fun w => !s.holdsVote t w) then s.setStop t stopHard else s

def execOrderlyStopEnd (t : Nat) (s : State) : Host.Outcome State Fault Refusal := done (s.orderlyStopEnd t)

/-- ORDERLY_TIMEOUT: ORDERLY_US has expired (R268). -/
def State.orderlyTimeout (s : State) (t : Nat) : State :=
  if s.tileOk t ∧ s.stopState t = stopOrderly then s.setStop t stopHard else s

def execOrderlyTimeout (t : Nat) (s : State) : Host.Outcome State Fault Refusal := done (s.orderlyTimeout t)

/-- HARD_STOP: holds and gate controls of every cluster, then PEN falls on every pump of wells 0-13 (R269). -/
def State.hardStop (s : State) (t : Nat) : State :=
  if s.tileOk t ∧ s.stopState t = stopHard ∧ (s.tile t).th.dropped = false then
    let s1 := s.each (List.range 96) (fun u k => u.gateOn t k PH_CLPWR.C_THERM)
    let s2 := s1.each (List.range 14) (fun u w => if u.stage t w = stDry then u else u.dropWell t w)
    let s3 := s2.stopApply.updTh t (fun h => { h with dropped := true, hardAo := s.reg HD_AO_TIME })
    { s3 with gov := { s3.gov with skipWins := (s.clk.beat / 4096) :: s3.gov.skipWins.filter (· ≠ s.clk.beat / 4096) } }
  else s

def execHardStop (t : Nat) (s : State) : Host.Outcome State Fault Refusal := done (s.hardStop t)

/-- The two parts of a THERMAL_STOP record, with the times at which the stop's trigger fired (R270, R350, R352). -/
def State.stopRecord (s : State) (t : Nat) : State :=
  let h := (s.tile t).th
  let x := TH_STAT.STOP_CH.get (s.reg (TH_STAT t))
  let k := TH_STAT.KIND.get (s.reg (TH_STAT t))
  let s0 := s.updTh t (fun h => { h with partLost := false })
  let now := (s.reg HD_AO_TIME, s.clk.beat)
  let mk := fun part (l : List Word) =>
    ({ type := 4, part := part, parts := 2, payload := l, kept := true, trig := 24, ao := (h.fired.getD now).1, beat := (h.fired.getD now).2, tile := t } : Rec)
  (s0.enq (mk 0 (BitVec.ofNat 64 (x * 2 ^ 56 + k * 2 ^ 54 + t * 2 ^ 40) :: h.startAo :: h.hardAo :: h.record.take 24))).enq (mk 1 (h.record.drop 24))

/-- STOP_RECORD_SENT: the stop record is handed to the recorder and STOP reads STOPPED; primings that wait on the tile fail, and its register
slice answers again (R269-R271). -/
def State.stopRecordSent (s : State) (t : Nat) : State :=
  if s.tileOk t ∧ s.stopState t = stopHard ∧ (s.tile t).th.dropped then (((s.stopRecord t).setStop t stopStopped).stopWells t).drain else s

def execStopRecordSent (t : Nat) (s : State) : Host.Outcome State Fault Refusal := done (s.stopRecordSent t)

/-! ### TH_CTRL (R271, R273) -/

/-- The conditions of RESUME hold (R271). -/
def State.mayResume (s : State) (t : Nat) : Bool :=
  (s.stopState t == stopStopped) && dieChannels.all (fun ch => s.cool t ch) &&
    ((s.tile t).th.coolAt).any (fun a => decide (a + 1000000 * s.rd (TH_CFG t) TH_CFG.RESUME_HOLD_MS ≤ s.clk.ns))

/-- An accepted RESUME: STOP returns to RUN, r_th of every well to 0, and the gate controls are released (R271). -/
def State.resumeNow (s : State) (t : Nat) : State :=
  let s1 := (s.setStop t stopRun).each (List.range 12) (fun u w => u.setTherm t w 0)
  s1.each (List.range 96) (fun u k => u.gateOff t k PH_CLPWR.C_THERM)

/-- A write of TH_CTRL: CLR_PEAK sets every PEAK to its TEMP; RESUME returns a STOPPED tile or is refused (R271, R273). -/
def State.thCtrlWrite (s : State) (t : Nat) (d : Word) : State :=
  let s1 := if TH_CTRL.CLR_PEAK.get d = 1 then
      s.each (s.channels t) (fun u ch => u.wr (TH_CH t ch) TH_CH.PEAK (u.rd (TH_CH t ch) TH_CH.TEMP))
    else s
  if TH_CTRL.RESUME.get d = 1 then
    if s1.mayResume t then s1.resumeNow t else s1.wr (TH_STAT t) TH_STAT.REFUSED 1
  else s1

def execResume (t : Nat) (d : Word) (s : State) : Host.Outcome State Fault Refusal := hostOp s (TH_CTRL t) d (·.thCtrlWrite t d)

def execClrPeak (t : Nat) (d : Word) (s : State) : Host.Outcome State Fault Refusal := hostOp s (TH_CTRL t) d (·.thCtrlWrite t d)

end Sys2Proof.Machine
end

