-- ==== Sys2Proof/Machine/Converters.lean ====
section
/-! DEFINITION. The window converters' calibration and the housekeeping converters: sequences, trims, injected sequences, bursts and averages (R239-R252). -/

namespace Sys2Proof.Machine

open Sys2Proof

/-! ### Window converters (R241) -/

/-- A write of AD_WIN: W1C bits, and CAL, which measures OFFSET of a DRY well from the sum of 64 codes (R241). -/
def State.adWinWrite (s : State) (t w : Nat) (d : Word) (sum : Int) : State :=
  let s1 := s.plainWrite (AD_WIN t w) d
  if AD_WIN.CAL.get d = 1 ∧ s.wellOk t w ∧ s.stage t w = stDry then s1.winOffset t w sum else s1

def execAdWinCal (t w : Nat) (d : Word) (sum : Int) (s : State) : Host.Outcome State Fault Refusal :=
  hostOp s (AD_WIN t w) d (·.adWinWrite t w d sum)

/-! ### Channels and sequences (R244-R246, R252) -/

/-- The wells in CAL or WAIT_HEAD, which VS_ROT serves before all others (R246). -/
def State.vsHeads (s : State) (t : Nat) : List Nat := (List.range 15).filter (fun w => s.stage t w == stCal || s.stage t w == stWait)

/-- The first element of a list at or above `n`, else its first element. -/
def nextFrom (n : Nat) (l : List Nat) : Nat := (l.find? (fun w => decide (n ≤ w))).getD (l.headD 0)

/-- The channel a slot converts; a rotation moves on (R244, R246). -/
def State.rotate (s : State) (t c : Nat) : Nat × State :=
  if c = chDieRot then
    let k := (s.sar t).dieRot
    (0x30 + k, s.updSar t (fun x => { x with dieRot := (k + 1) % 24 }))
  else if c = chVsRot then
    let l := s.vsHeads t
    let x := s.sar t
    if l = [] then (0x10 + x.vsRot, s.updSar t (fun x => { x with vsRot := (x.vsRot + 1) % 15, headRot := 0 }))
    else
      let w := nextFrom x.headRot l
      (0x10 + w, s.updSar t (fun x => { x with headRot := (w + 1) % 15 }))
  else (c, s)

/-! ### Trims (R243) -/

/-- GAIN and OFFS from the reference readings; a free value where the formula has none in the fields. -/
def sarTrim (lo hi : Nat) : Nat × Nat :=
  let g := roundDiv (32768 * 3072) (hi - lo)
  let o := roundDiv (16 * (512 * 32768 - g * (lo : Int))) 32768
  if lo < hi ∧ g ≤ 0xFFFF ∧ -32768 ≤ o ∧ o ≤ 32767 then (g.toNat, (o % 65536).toNat)
  else ((Config.sarGain lo hi).toNat, (Config.sarOffs lo hi).toNat)

/-- The trimmed code of a raw reading (R243). -/
def State.trimmed (s : State) (t n raw : Nat) : Nat :=
  let a := AD_TRIM t n
  (clampI 0 4095 (roundDiv ((raw * s.rd a AD_TRIM.GAIN : Nat) + s.rdi a AD_TRIM.OFFS * 2048) 32768)).toNat

/-- The powered converters that take part in calibration: converter 2 alone in low-power mode (R243, R252). -/
def State.calConvs (s : State) (t : Nat) : List Nat := if s.lpMode t then [2] else [0, 1, 2, 3]

/-- A calibration is due: REF_LO and REF_HI take the next two slots (R243). -/
def State.calibrate (s : State) (t : Nat) : State := s.each (s.calConvs t) (fun u n => u.updConv t n (fun c => { c with cal := 1 }))

/-- At a window boundary the trims of the last calibration come into force (R243). -/
def State.newTrims (s : State) (t : Nat) : State :=
  s.each [0, 1, 2, 3] (fun u n =>
    match (u.conv t n).next with
    | some (g, o) => ((u.wr (AD_TRIM t n) AD_TRIM.GAIN g).wr (AD_TRIM t n) AD_TRIM.OFFS o).updConv t n (fun c => { c with next := none })
    | none => u)

/-! ### What a conversion feeds (R245-R248, R251, R260) -/

/-- The running sum of a channel's accumulator. -/
def State.accOf (s : State) (t ch : Nat) : Nat := tget (fun _ => 0) (s.sar t).acc ch
def State.setAcc (s : State) (t ch v : Nat) : State := s.updSar t (fun x => { x with acc := tset (fun _ => 0) x.acc ch v })

/-- The accumulator of a channel takes a code (R251). -/
def State.accumulate (s : State) (t ch code : Nat) : State :=
  let a := AD_RES t ch
  let n := 2 ^ min 8 (s.rd a AD_RES.AVG_K)
  let sum := s.accOf t ch + code
  let count := s.rd a AD_RES.COUNT + 1
  let s1 := s.wr a AD_RES.LAST code
  if count < n then (s1.wr a AD_RES.COUNT count).setAcc t ch sum
  else
    let r := sum / 2 ^ min 8 (s.rd a AD_RES.SHIFT)
    let s2 := ((s1.wr a AD_RES.COUNT 0).setAcc t ch 0).wr a AD_RES.SEQ ((s.rd a AD_RES.SEQ + 1) % 16)
    if 0xFFFF < r then (s2.wr a AD_RES.RESULT 0xFFFF).wr a AD_RES.OVF 1 else s2.wr a AD_RES.RESULT r

def State.updTel (s : State) (t w : Nat) (f : Tele → Tele) : State := s.setWell t w { s.well t w with tel := f (s.well t w).tel }

/-- The hardware's use of a conversion: local senses, remote senses, the bus and the die sensors. -/
def State.consume (s : State) (t ch code : Nat) : State :=
  if ch < 0x0F then s.updTel t ch (fun x => { x with vlSum := x.vlSum + code, vlN := x.vlN + 1 })
  else if 0x10 ≤ ch ∧ ch < 0x1F then
    s.updTel t (ch - 0x10) (fun x => { x with
      vsOSum := x.vsOSum + code
      vsON := x.vsON + 1
      vsLast := code
      vsSum := x.vsSum + code
      vsN := x.vsN + 1 })
  else if ch = chBus then
    (s.wr (PH_BUS t) PH_BUS.BUS (2 * code)).updTile t (fun x => { x with tt := { x.tt with
      busMin := some (min (2 * code) (x.tt.busMin.getD (2 * code))) } })
  else if 0x30 ≤ ch ∧ ch < 0x48 then s.dieCode t (ch - 0x30) code
  else s

def State.feed (s : State) (t ch code : Nat) : State := (s.accumulate t ch code).consume t ch code

/-! ### Injected sequences (R249, R252) -/

/-- A new run of a sequence has the next tag. -/
def SarX.newRun (x : SarX) (i : Nat) : SarX := if i = 0 then { x with tag0 := (x.tag0 + 1) % 16 } else { x with tag1 := (x.tag1 + 1) % 16 }

/-- Field of slot k in AD_INJRES. -/
def injField (k : Nat) : Fld := ⟨63 - 16 * k, 48 - 16 * k⟩

/-- A slot of the running sequence ends: its result, and the next slot or the end of the run (R249). -/
def State.injDone (s : State) (t i k code : Nat) : State :=
  let tag := if i = 0 then (s.sar t).tag0 else (s.sar t).tag1
  let s1 := s.wr (AD_INJRES t i) (injField (s.injSlot t i k)) (4096 * tag + code)
  if k + 1 < (s.injected t i).length then s1.updSar t (fun x => { x with inj := some (i, k + 1) })
  else (((s1.updSar t (fun x => { x with inj := none })).startInj t).setInjRun t).power3 t

/-- A trigger is dropped (R249, R250, R252). -/
def State.trigLost (s : State) (t : Nat) : State := s.bump (AD_STAT t)

/-- A burst is triggered: dropped in low-power mode, within 25 us of the last one's start, or while its own is pending or running
(R250, R252). -/
def State.burstTrigger (s : State) (t i : Nat) : State :=
  let x := s.sar t
  if s.lpMode t ∨ x.burstPend.contains i ∨ x.burst = some i ∨ x.burstAt.any (fun a => s.clk.ns < a + 25000) then s.trigLost t
  else s.updSar t (fun x => { x with burstPend := x.burstPend ++ [i] })

/-- A sequence on converter 3 is triggered and its run has the next tag: URGENT takes the converter at once unless a calibration or a burst
has it; another one waits for the conversion in progress, if there is one (R249). -/
def State.seqTrigger (s : State) (t i : Nat) : State :=
  let x := s.sar t
  let urgent := s.flag (AD_INJ t i) AD_INJ.URGENT
  if x.inj.any (fun e => e.1 = i) ∨ x.injPend.any (fun e => e.1 = i) then s.trigLost t
  else if s.injected t i = [] then s
  else
    let idle := s.lpMode t || (s.regular t 3 == [])
    let s0 := s.updSar t (fun x => x.newRun i)
    let s1 := if urgent then s0.updSar t (fun x => { x with inj := none, injPend := (i, 0) :: (x.inj.toList ++ x.injPend) })
      else s0.updSar t (fun x => { x with injPend := x.injPend ++ [(i, 0)] })
    if urgent || idle then ((s1.startInj t).setInjRun t).power3 t else s1

def State.adTrigger (s : State) (t i : Nat) : State :=
  if s.flag (AD_INJ t i) AD_INJ.ILV then s.burstTrigger t i else s.seqTrigger t i

/-- INJECT_TRIGGER: an event of trigger source 2 to 6, of well w, meets sequence i (R249). -/
def State.injectTrigger (s : State) (t i src w : Nat) : State :=
  let a := AD_INJ t i
  if s.tileOk t ∧ i < 2 ∧ 2 ≤ src ∧ src ≤ 6 ∧ s.rd a AD_INJ.TRIG = src ∧ (src = 2 ∨ s.rd a AD_INJ.SEL = w) then s.adTrigger t i else s

def execInjectTrigger (t i src w : Nat) (s : State) : Host.Outcome State Fault Refusal := done (s.injectTrigger t i src w)

/-- A write of AD_INJ: the definition, and GO, which triggers a SOFT sequence (R249). -/
def State.adInjWrite (s : State) (t i : Nat) (d : Word) : State :=
  let s1 := s.plainWrite (AD_INJ t i) d
  if AD_INJ.GO.get d = 1 ∧ AD_INJ.TRIG.get d = 1 then s1.adTrigger t i else s1

def execAdGo (t i : Nat) (d : Word) (s : State) : Host.Outcome State Fault Refusal := hostOp s (AD_INJ t i) d (·.adInjWrite t i d)

/-! ### A conversion (R243-R249) -/

/-- The place after `pos` in a sequence of `len` slots. -/
def nextPos (pos len : Nat) : Nat := if pos + 1 < len then pos + 1 else 0

/-- A calibration slot ends: the reference is read, and with the second one the next trim is formed; a channel of a rotation that the slot
would have served has its next turn (R243). -/
def State.calSlot (s0 : State) (t n raw ch pos : Nat) : State :=
  let s := (s0.rotate t ch).2
  let c := s.conv t n
  let code := s.trimmed t n raw
  if c.cal = 1 then (s.feed t chRefLo code).updConv t n (fun c => { c with cal := 2, lo := raw, pos := pos })
  else ((s.feed t chRefHi code).updConv t n (fun c => { c with cal := 0, next := some (sarTrim c.lo raw), pos := pos }))

/-- A slot of the regular sequence ends. -/
def State.regularSlot (s : State) (t n raw ch pos : Nat) : State :=
  let r := s.rotate t ch
  (r.2.updConv t n (fun c => { c with pos := pos })).feed t r.1 (s.trimmed t n raw)

/-- SAR_CONVERSION: converter n ends a conversion with a raw code. A calibration takes its next slot other than BUS; converter 3
gives way to the sequence that runs (R243, R245, R249). -/
def State.sarConversion (s : State) (t n raw : Nat) : State :=
  if s.tileOk t && decide (n < 4) && bit (s.rd (AD_STAT t) AD_STAT.CONV_ON) n then
    let x := s.sar t
    let c := s.conv t n
    let l := s.regular t n
    let pos := if c.pos < l.length then c.pos else 0
    let ch := l.getD pos 0
    match (if n = 3 then x.inj else none) with
    | some (i, k) =>
      let r := s.rotate t ((s.injected t i).getD k 0)
      let code := s.trimmed t n raw
      (r.2.feed t r.1 code).injDone t i k code
    | none =>
      let next := nextPos pos l.length
      let s1 := if c.cal ≠ 0 ∧ (l = [] ∨ ch ≠ chBus) then s.calSlot t n raw ch next
        else if l = [] then s
        else s.regularSlot t n raw ch next
      if n = 3 then s1.startInj t else s1
  else s

def execSarConversion (t n raw : Nat) (s : State) : Host.Outcome State Fault Refusal := done (s.sarConversion t n raw)

/-! ### Interleaved bursts (R250) -/

/-- L of a burst: 0 and values above 24 are taken as 24. -/
def State.burstLen (s : State) (t i : Nat) : Nat :=
  let l := s.rd (AD_INJ t i) AD_INJ.LEN_ILV
  if l = 0 ∨ 24 < l then 24 else l

/-- BURST_START: the burst that waits first starts; its entries clear, and its first sample is stamped (R250). -/
def State.burstStart (s : State) (t : Nat) : State :=
  match (s.sar t).burstPend with
  | i :: rest =>
    if (s.sar t).burst.isNone ∧ s.lpMode t = false then
      let s1 := s.each (List.range 12) (fun u k => u.setReg (AD_BURST t k) 0)
      let cycle := (250 - s.clk.beatLeft) * 8 / 5
      let s2 := (s1.wr (AD_BURST_T t) AD_BURST_T.BEAT (s.clk.beat % 2 ^ 48)).wr (AD_BURST_T t) AD_BURST_T.CYCLE (min 399 cycle)
      (s2.wr (AD_STAT t) AD_STAT.BURST_RUN 1).updSar t (fun x => { x with burst := some i, burstPend := rest, burstAt := some s.clk.ns })
    else s
  | [] => s

def execBurstStart (t : Nat) (s : State) : Host.Outcome State Fault Refusal := done (s.burstStart t)

/-- Entry j of the burst: converter 2 takes the even samples, converter 3 the odd ones. -/
def State.burstEntry (s : State) (t j raw : Nat) : State :=
  s.wr (AD_BURST t (j / 4)) (injField (j % 4)) (s.trimmed t (2 + j % 2) raw)

/-- BURST_DONE: the 2L raw results in sampling order; converter 2 goes on after the DIE_ROT slots it lent, and a waiting sequence on
converter 3 (R250). -/
def State.burstDone (s : State) (t : Nat) (results : List Nat) : State :=
  match (s.sar t).burst with
  | some i =>
    let n := s.burstLen t i
    let s1 := s.each (List.range (2 * n)) (fun u j => u.burstEntry t j (results.getD j 0))
    let s2 := (s1.wr (AD_STAT t) AD_STAT.BURST_DONE 1).wr (AD_STAT t) AD_STAT.BURST_RUN 0
    let s3 := s2.updSar t (fun x => { x with
      burst := none
      dieRot := (x.dieRot + n) % 24
      c2 := { x.c2 with pos := if s.lpMode t then x.c2.pos else (x.c2.pos + n) % 25 } })
    ((s3.startInj t).setInjRun t).power3 t
  | none => s

def execBurstDone (t : Nat) (results : List Nat) (s : State) : Host.Outcome State Fault Refusal := done (s.burstDone t results)

/-! ### Host writes (R243, R251, R252) -/

/-- A write of AD_RES: OVF, AVG_K and SHIFT; a change of these restarts the accumulator (R251). -/
def State.adResWrite (s : State) (t ch : Nat) (d : Word) : State :=
  let a := AD_RES t ch
  let s1 := s.plainWrite a d
  if AD_RES.AVG_K.get d = s.rd a AD_RES.AVG_K ∧ AD_RES.SHIFT.get d = s.rd a AD_RES.SHIFT then s1
  else (s1.wr a AD_RES.COUNT 0).setAcc t ch 0

def execAdResConfigWrite (t ch : Nat) (d : Word) (s : State) : Host.Outcome State Fault Refusal := hostOp s (AD_RES t ch) d (·.adResWrite t ch d)

/-- A write of AD_CTRL: LP_INHIBIT ends low-power mode; CAL_NOW calibrates (R243, R252). -/
def State.adCtrlWrite (s : State) (t : Nat) (d : Word) : State :=
  let s1 := s.plainWrite (AD_CTRL t) d
  let s2 := if AD_CTRL.LP_INHIBIT.get d = 1 then s1.fullPower t else s1
  if AD_CTRL.CAL_NOW.get d = 1 then s2.calibrate t else s2

def execCalNow (t : Nat) (d : Word) (s : State) : Host.Outcome State Fault Refusal := hostOp s (AD_CTRL t) d (·.adCtrlWrite t d)

def execLpInhibitWrite (t : Nat) (d : Word) (s : State) : Host.Outcome State Fault Refusal := hostOp s (AD_CTRL t) d (·.adCtrlWrite t d)

end Sys2Proof.Machine
end

