-- ==== Sys2Proof/Machine/Interrupts.lean ====
section
/-! DEFINITION. Interrupts and fault collection: the commands of 13_interrupts_faults.md (R322-R345). -/

namespace Sys2Proof.Machine

open Sys2Proof

/-- FAULT_RAISE: the i-th raise on its way from a Pumphouse reaches the collector (R324, R332). -/
def State.faultRaiseE (s : State) (i : Nat) : State :=
  match s.fault.inflight[i]? with
  | none => s
  | some r => ({ s with fault := { s.fault with inflight := s.fault.inflight.eraseIdx i } } : State).collect r

def execFaultRaise (i : Nat) (s : State) : Host.Outcome State Fault Refusal := done (s.faultRaiseE i)

/-- BLOCK_RESET_DONE: the reset of a block completes and the programs of its reactions start at the beat boundary; with the last one
FC_STAT.BUSY falls (R329). -/
def State.blockResetDoneE (s : State) (blk : Nat) : State :=
  if s.fault.resetting.contains blk then
    let left := s.fault.resetting.filter (· ≠ blk)
    let mine := fun (e : Nat × Nat × Raise × Bool) => blockPlace e.2.2.1 == blk
    let go := s.fault.progAfter.filter mine
    let s1 : State := { s with fault := { s.fault with resetting := left, progAfter := s.fault.progAfter.filter (fun e => !mine e) } }
    (s1.wrb FC_STAT FC_STAT.BUSY (decide (left ≠ []))).each go (fun u e => u.reactionStart e.1 e.2.1 e.2.2.1 e.2.2.2)
  else s

def execBlockResetDone (blk : Nat) (s : State) : Host.Outcome State Fault Refusal := done (s.blockResetDoneE blk)

/-- The held raises in the order of R335: source, tile, well, SUB. -/
def sortRaises : List Raise → List Raise
  | [] => []
  | a :: l =>
    let rec ins (a : Raise) : List Raise → List Raise
      | [] => [a]
      | b :: r => if a.before b then a :: b :: r else b :: ins a r
    ins a (sortRaises l)

/-- The EPISODE records of a close: FC_STAT, FC_FIRST and FC_LOG in two parts (R352). -/
def State.closeRecords (s : State) : State :=
  let logs := (List.range 16).map (fun i => s.reg (FC_LOG i))
  let src := s.rd FC_FIRST FC_FIRST.SRC
  let mk := fun part (p : List Word) =>
    ({ type := 8, part := part, parts := 2, payload := p, trig := src, ao := s.reg HD_AO_TIME, beat := s.clk.beat } : Rec)
  (s.enq (mk 0 (s.reg FC_STAT :: s.reg FC_FIRST :: logs.take 7))).enq (mk 1 (logs.drop 7))

/-- What a close clears (R335): FC_STAT whole, so VP_ERR_N and VP_TRAP are released, FC_RAISED and FC_LOG. -/
def State.closeClear (s : State) : State :=
  let s1 := ((s.setReg FC_STAT 0).setReg (FC_RAISED 0) 0).setReg (FC_RAISED 1) 0
  s1.each (List.range 16) (fun u i => u.setReg (FC_LOG i) 0)

/-- EPISODE_CLOSE: a write of 1 to FC_STAT.OPEN; ignored while BUSY; held places re-latch in the next cycle (R335). -/
def State.episodeClose (s : State) (d : Word) : State :=
  if FC_STAT.OPEN.get d = 1 ∧ s.flag FC_STAT FC_STAT.OPEN ∧ s.flag FC_STAT FC_STAT.BUSY = false then
    let s1 := s.closeRecords.closeClear
    match sortRaises s1.fault.held with
    | [] => s1
    | l => (s1.wr FC_STAT FC_STAT.RELATCH 1).each l (fun u r => u.collect r)
  else s

/-- TRAP_ACK: VP_TRAP is released, the episode stays open (R336). -/
def State.trapAck (s : State) : State := s.wr FC_STAT FC_STAT.TRAP 0

/-- INJECT: source 5 to 31 is raised without a place and written to the circulating area (R337). -/
def State.inject (s : State) (d : Word) : State :=
  let n := FC_CTRL.INJECT_SRC.get d
  if 5 ≤ n ∧ n ≤ 31 then (s.recordEvent FC_CTRL d).raiseW { src := n, injected := true } else s

/-- A write of FC_CTRL (R336, R337). -/
def State.fcCtrlWrite (s : State) (d : Word) : State :=
  let s1 := s.on (FC_CTRL.TRAP_ACK.get d == 1) State.trapAck
  s1.on (FC_CTRL.INJECT.get d == 1) (·.inject d)

/-- The eligible source steered to a target with the highest PRIO, the lowest number on a tie; 0 for none (R341). -/
def State.claimable (s : State) (t : Nat) : Nat :=
  ((List.range 512).filter (fun n => s.eligible n && (s.rd (IC_SRC n) IC_SRC.STEER == t))).foldl
    (fun b n => if b = 0 ∨ s.prio b < s.prio n then n else b) 0

/-- A claim's effect on state: pending clears, active sets on the target, CLAIMS counts (R341). -/
def State.claim (s : State) (t : Nat) : State :=
  let n := s.claimable t
  if n = 0 then s
  else
    let s1 := ((s.wr (IC_SRC n) IC_SRC.PEND 0).wr (IC_SRC n) IC_SRC.ACTIVE 1).bump (IC_TGT t)
    { s1 with intc := { s1.intc with active := s1.intc.active.filter (fun e => e.1 ≠ n) ++ [(n, t)] } }

/-- Present level of a LEVEL event source (R325): SB_MBOX, STOP_OFFER. -/
def State.eventLevel (s : State) (n : Nat) : Bool :=
  if n = 145 then s.flag HD_SB_STAT HD_SB_STAT.MBOX_FULL
  else if n = 149 then s.flag CG_STAT CG_STAT.STOP_OFFER
  else false

/-- A completion: source `n` active on target `t` ends; a level event source still asserted pends again; anything else is
ignored and sets BAD_COMPLETE (R342). -/
def State.complete (s : State) (t n : Nat) : State :=
  if s.intc.active.contains (n, t) then
    let s1 := (s.wr (IC_SRC n) IC_SRC.ACTIVE 0)
    let s2 : State := { s1 with intc := { s1.intc with active := s1.intc.active.filter (fun e => e.1 ≠ n) } }
    if s2.eventLevel n then s2.pendLevel n else s2
  else s.wr (IC_TGT t) IC_TGT.BAD_COMPLETE 1

/-- A write of IC_CLAIM (R342). -/
def State.icClaimWrite (s : State) (t : Nat) (d : Word) : State :=
  if t < 8 then s.complete t (IC_CLAIM.SOURCE.get d) else s

/-- A write of IC_SETPEND (R343). -/
def State.icSetpend (s : State) (d : Word) : State := s.pend (IC_SETPEND.SOURCE.get d)

/-! ### The commands -/

/-- A write of FC_STAT: 1 to OPEN closes the episode (R335). -/
def execEpisodeClose (d : Word) (s : State) : Host.Outcome State Fault Refusal := hostOp s FC_STAT d (·.episodeClose d)

/-- A write of 1 to FC_CTRL.TRAP_ACK, with whatever else the write sets (R336). -/
def execTrapAck (d : Word) (s : State) : Host.Outcome State Fault Refusal := hostOp s FC_CTRL d (·.fcCtrlWrite d)

/-- A write of 1 to FC_CTRL.INJECT, with whatever else the write sets (R337). -/
def execInject (d : Word) (s : State) : Host.Outcome State Fault Refusal := hostOp s FC_CTRL d (·.fcCtrlWrite d)

/-- A read of IC_CLAIM[tgt] (R341): answered with the claimed source, 0 for none. -/
def execInterruptClaim (tgt : Nat) (s : State) : Host.Outcome State Fault Refusal :=
  if tgt < 8 then done ((s.claim tgt).answer (IC_CLAIM tgt) rOkay (BitVec.ofNat 64 (s.claimable tgt))) else done s

/-- A write of IC_CLAIM[tgt] (R342). -/
def execInterruptComplete (tgt : Nat) (d : Word) (s : State) : Host.Outcome State Fault Refusal :=
  if tgt < 8 then hostOp s (IC_CLAIM tgt) d (·.icClaimWrite tgt d) else done s

/-- A write of IC_SETPEND (R343). -/
def execSetpend (d : Word) (s : State) : Host.Outcome State Fault Refusal := hostOp s IC_SETPEND d (·.icSetpend d)


end Sys2Proof.Machine
end

