-- ==== Sys2Proof/Machine/Link.lean ====
section
/-! DEFINITION. The ports of the coordination link: bring-up, falls, forwarding and resending (R366-R372). -/

namespace Sys2Proof.Machine

open Sys2Proof

/-! ### Bring-up (R367, R369) -/

/-- PORT_SIGNAL_DETECT: signal on a lane enabled in LANES fires the LINK source, and a port of a Wellhead that does not sleep leaves DETECT (R318,
R369, R370). -/
def State.portSignal (s : State) (n : Nat) : State :=
  if s.portOn n && (s.portState n == poDetect) then
    let s1 := s.wake 8
    if s1.clk.fast = .sleep then s1 else s1.setPort n poTraining
  else s

def execPortSignalDetect (n : Nat) (s : State) : Host.Outcome State Fault Refusal := done (s.portSignal n)

/-- INSTANCE and port as ADV and the tag's message hold them (R369). -/
def portField (inst port : Nat) : Nat := inst * 16 + port * 4

/-- HELLO: INSTANCE and port, LC_UID, the nonce of this attempt (R373). -/
def State.helloFrame (s : State) (n : Nat) : LinkFrame :=
  mkFrame 0x01 (s.rd (CL_PORT n) CL_PORT.NEIGHBOUR) s.inst 0
    [BitVec.ofNat 64 (portField s.inst n * 2 ^ 48), s.fuses.uid.extractLsb' 64 64, s.fuses.uid.extractLsb' 0 64,
      (s.port_ n).nonce.extractLsb' 64 64, (s.port_ n).nonce.extractLsb' 0 64]

def State.sendHello (s : State) (n : Nat) : State := s.sendOn n (s.helloFrame n)

/-- TRAINING_DONE: the port enters HELLO with a fresh nonce and sends its first HELLO (R369). -/
def State.trainingDone (s : State) (n : Nat) : State :=
  if s.portOn n && (s.portState n == poTraining) then
    (((s.setPort n poHello).updPort n (fun _ => { nonce := (Config.freeBits s.freeCtr).setWidth 128 })).draw).sendHello n
  else s

def execTrainingDone (n : Nat) (s : State) : Host.Outcome State Fault Refusal := done (s.trainingDone n)

def execTrainingTimeout (n : Nat) (s : State) : Host.Outcome State Fault Refusal :=
  done (if s.portState n = poTraining then s.clearPort n poDetect else s)

/-- HELLO_TX: in HELLO until one has come, in UP while nothing else is sent, and to carry an ACK (R369, R370, R372). -/
def State.helloTx (s : State) (n : Nat) : State :=
  if n < 4 ∧ (s.portState n = poHello ∨ s.portState n = poAuth ∨ s.portState n = poUp) then s.sendHello n else s

def execHelloTx (n : Nat) (s : State) : Host.Outcome State Fault Refusal := done (s.helloTx n)

/-- The secret in a secret-bank slot (R48). -/
def Fuses.secretAt (f : Fuses) (slot : Nat) : Secret :=
  if slot = 0 then f.secret0 else if slot = 1 then f.secret1 else if slot = 2 then f.secret2 else f.secret3

/-- The tag of R369: fields of the sender, then of the receiver. -/
def authTag (secret : BitVec 256) (from_ to_ : Nat) (uidS uidR nonceS nonceR : BitVec 128) : BitVec 128 :=
  (Config.hmac384 (bytesOf 32 secret)
    ([0x56, 0x50, 0x4C, 0x4B, from_ / 256, from_ % 256, to_ / 256, to_ % 256] ++
      bytesOf 16 uidS ++ bytesOf 16 uidR ++ bytesOf 16 nonceS ++ bytesOf 16 nonceR)).extractLsb' 256 128

/-- This end's field and the peer's. -/
def State.ownField (s : State) (n : Nat) : Nat := portField s.inst n
def State.peerField (s : State) (n : Nat) : Nat := portField (s.rd (CL_PORT n) CL_PORT.NEIGHBOUR) (s.rd (CL_PORT n) CL_PORT.NPORT)

/-- The tag this end sends on a port, and the one it expects there. -/
def State.ownTag (s : State) (n : Nat) : BitVec 128 :=
  let p := s.port_ n
  authTag (s.fuses.secretAt s.fuses.slot).secret (s.ownField n) (s.peerField n) s.fuses.uid p.peerUid p.nonce p.peerNonce
def State.peerTag (s : State) (n : Nat) : BitVec 128 :=
  let p := s.port_ n
  authTag (s.fuses.secretAt s.fuses.slot).secret (s.peerField n) (s.ownField n) p.peerUid s.fuses.uid p.peerNonce p.nonce

/-- The first HELLO of an attempt: the peer is known, and the tag goes out (R369). -/
def State.helloCome (s : State) (n : Nat) (f : LinkFrame) : State :=
  if s.portState n = poHello then
    let s1 := (s.wr (CL_PORT n) CL_PORT.NEIGHBOUR (payBits f 1 63 52)).wr (CL_PORT n) CL_PORT.NPORT (payBits f 1 51 50)
    let s2 := (s1.updPort n (fun p => { p with
      peerUid := pay f 2 ++ pay f 3
      peerNonce := pay f 4 ++ pay f 5 })).setPort n poAuth
    let tag := s2.ownTag n
    s2.sendOn n (mkFrame 0x02 (payBits f 1 63 52) s2.inst 1 [tag.extractLsb' 64 64, tag.extractLsb' 0 64])
  else s

def execHello (n : Nat) (f : LinkFrame) (s : State) : Host.Outcome State Fault Refusal := done (s.acceptType n 0x01 f (·.helloCome n f))

/-- The peer's tag: UP, or ISOLATED with AUTH_FAIL (R369). -/
def State.authCome (s : State) (n : Nat) (f : LinkFrame) : State :=
  if s.portState n = poAuth then
    if pay f 1 ++ pay f 2 = s.peerTag n then s.setPort n poUp
    else (s.clearPort n poIsolated).linkRaise 2 n
  else s

def execAuth (n : Nat) (f : LinkFrame) (s : State) : Host.Outcome State Fault Refusal := done (s.acceptType n 0x02 f (·.authCome n f))

def execIsolationExpiry (n : Nat) (s : State) : Host.Outcome State Fault Refusal :=
  done (if s.portState n = poIsolated then s.clearPort n poDetect else s)

/-! ### Falls (R370) -/

/-- An UP port falls: DETECT, LINK with PORT_DOWN (R370). -/
def State.portFall (s : State) (n : Nat) : State :=
  if n < 4 ∧ s.portUp n then (s.clearPort n poDetect).linkRaise 1 n else s

def execPortDown (n : Nat) (s : State) : Host.Outcome State Fault Refusal := done (s.portFall n)
def execPortSilenceTimeout (n : Nat) (s : State) : Host.Outcome State Fault Refusal := done (s.portFall n)

/-! ### Forwarding and resending (R372, R377) -/

/-- A frame for another instance goes on with one hop less; without hops or without a route it is discarded (R372, R377). -/
def State.forward (s : State) (n : Nat) (f : LinkFrame) : State :=
  if frd f FR.HOPS = 0 ∨ s.routeMask (frd f FR.DST) = 0 then s.discard n
  else s.routeFrom n { f with header := FR.HOPS.set f.header (frd f FR.HOPS - 1) }

/-- FRAME_FORWARD: a frame of the types that travel to a destination, not addressed to this instance. -/
def State.frameForward (s : State) (n : Nat) (f : LinkFrame) : State :=
  if 0x20 ≤ frd f FR.TYPE ∧ frd f FR.DST ≠ s.inst then s.takeFrame n f (·.forward n f) else s

def execFrameForward (n : Nat) (f : LinkFrame) (s : State) : Host.Outcome State Fault Refusal := done (s.frameForward n f)

/-- FRAME_RESEND: the oldest unacknowledged frame and every frame after it go out again, with the present ACK (R372). -/
def State.frameResend (s : State) (n : Nat) : State :=
  if n < 4 then
    let p := s.port_ n
    s.each p.resend (fun u f => u.emit n (sealFrame f (frd f FR.SEQ) p.ack))
  else s

def execFrameResend (n : Nat) (s : State) : Host.Outcome State Fault Refusal := done (s.frameResend n)

end Sys2Proof.Machine
end

