-- ==== Sys2Proof/Machine/Flash.lean ====
section
/-! DEFINITION. The recorder's flash and its records: slots, areas, building and checking a record, the scan's findings (R348-R353). -/

namespace Sys2Proof.Machine

open Sys2Proof

/-! ### Slots -/

/-- A word of the flash; an unlisted word is erased (R349). -/
def State.flashWord (s : State) (a : Nat) : Word := tget (fun _ => BitVec.allOnes 64) s.flash a

/-- Programming can only clear bits of a word. -/
def State.programWord (s : State) (a : Nat) (d : Word) : State :=
  { s with flash := tset (fun _ => BitVec.allOnes 64) s.flash a (s.flashWord a &&& d) }

def State.slotWords (s : State) (slot : Nat) : List Word := (List.range 32).map (fun i => s.flashWord (32 * slot + i))

/-- Every byte of slots [lo, hi) reads 0xFF: no word of them is listed (R349). -/
def State.blankSlots (s : State) (lo hi : Nat) : Bool := s.flash.all (fun e => decide (e.1 < 32 * lo) || decide (32 * hi ≤ e.1))

/-- All 256 bytes of a slot read 0xFF (R349). -/
def State.blankSlot (s : State) (slot : Nat) : Bool := s.blankSlots slot (slot + 1)

/-- Slots [lo, hi) are erased. -/
def State.eraseSlots (s : State) (lo hi : Nat) : State :=
  { s with flash := s.flash.filter (fun e => e.1 < 32 * lo || decide (32 * hi ≤ e.1)) }

/-- Number of slots N of the flash fitted (ER_GEOM). -/
def State.slotN (s : State) : Nat := s.rd ER_GEOM ER_GEOM.SLOTS

/-- Slots with any programmed word 0: a slot whose word 0 reads all ones is empty (R351). -/
def State.usedSlots (s : State) (n : Nat) : List Nat :=
  (s.flash.filter (fun e => e.1 % 32 == 0 && decide (e.1 / 32 < n))).map (fun e => e.1 / 32)

/-! ### Records (R350, R351) -/

def recMagic : Nat := 0x5652

/-- CRC-32C over bytes 0 to 247 of a record. -/
def recCrc (ws : List Word) : BitVec 32 := crc32c ((ws.take 31).flatMap wordBytes)

/-- A record is well written apart from its COMMIT: MAGIC and CRC match. -/
def recSound (ws : List Word) : Bool :=
  ((ws.headD 0).extractLsb' 48 16).toNat == recMagic && ((ws.getD 31 0).extractLsb' 32 32 == recCrc ws)

/-- A valid record: COMMIT reads zero too (R351). -/
def recValid (ws : List Word) : Bool := recSound ws && ((ws.getD 31 0).extractLsb' 0 32 == 0)

def recType (ws : List Word) : Nat := ((ws.headD 0).extractLsb' 40 8).toNat
def recPcc (ws : List Word) : Nat := ((ws.getD 3 0).extractLsb' 32 32).toNat
def recAo (ws : List Word) : Nat := (ws.getD 2 0).toNat

/-- A kept-for-ever type: LIFE_CYCLE, THERMAL_STOP and KEEP snapshots (R348). -/
def Rec.keptType (r : Rec) : Bool := r.kept || r.type == 3 || r.type == 4

/-- The 32 words of a record, COMMIT all ones (R350, R358). -/
def buildRec (r : Rec) (moved lostBefore : Bool) (seq group pcc : Nat) : List Word :=
  let pay := r.payload.take 27
  let w0 : Nat := recMagic * 2 ^ 48 + (r.type % 256) * 2 ^ 40 + (r.part % 16) * 2 ^ 36 + (r.parts % 16) * 2 ^ 32 +
    pay.length * 2 ^ 24 + b2n r.keptType * 2 ^ 23 + b2n moved * 2 ^ 22 + b2n r.tmo * 2 ^ 21 + b2n lostBefore * 2 ^ 20 + r.trig % 65536
  let w1 : Nat := (seq % 2 ^ 32) * 2 ^ 32 + group % 2 ^ 32
  let w3 : Nat := (pcc % 2 ^ 32) * 2 ^ 32 + r.beat % 2 ^ 32
  let head := [BitVec.ofNat 64 w0, BitVec.ofNat 64 w1, r.ao, BitVec.ofNat 64 w3] ++ pay ++ List.replicate (27 - pay.length) 0
  head ++ [((crc32c (head.flatMap wordBytes)).setWidth 64 <<< 32) ||| 0xFFFFFFFF]

/-- The words are programmed into a slot. -/
def State.programSlot (s : State) (slot : Nat) (ws : List Word) : State :=
  (ws.zipIdx).foldl (fun u e => u.programWord (32 * slot + e.2) e.1) s

/-- COMMIT of a slot's record is programmed to zero. -/
def State.commitSlot (s : State) (slot : Nat) : State := s.programWord (32 * slot + 31) 0xFFFFFFFF00000000

/-! ### Positions (R348, R353, R359) -/

def State.nextCirc (s : State) : Nat := s.rd ER_PTR ER_PTR.NEXT_CIRC
def State.keptNext (s : State) : Nat := s.rd ER_PTR ER_PTR.KEPT_NEXT
def State.clearUsed (s : State) : Nat := s.rd ER_PTR ER_PTR.CLEAR_USED
/-- The power-cycle count; zero with NOFLASH (R353). -/
def State.pcc (s : State) : Nat := if s.flag ER_STAT ER_STAT.NOFLASH then 0 else s.rd ER_PCC ER_PCC.PCC

/-- The slot after one in the circulating ring. -/
def circAfter (n slot : Nat) : Nat := if slot + 1 < n then slot + 1 else 4096

/-- The unit of 16 slots after one, in the ring. -/
def unitAfter (n u : Nat) : Nat := if 16 * (u + 1) < n then u + 1 else 256

/-- The recorder raises its fault source with a cause (R358). -/
def State.raiseRec (s : State) (sub : Nat) : State := s.raiseW { src := 25, sub := sub }

/-- The kept position moves; at 4,080 the kept area is full, once (R359). -/
def State.setKept (s : State) (v : Nat) : State :=
  let s1 := s.wr ER_PTR ER_PTR.KEPT_NEXT (min v 4080)
  if 4080 ≤ v ∧ s.flag ER_STAT ER_STAT.KEPT_FULL = false then (s1.wr ER_STAT ER_STAT.KEPT_FULL 1).raiseRec 5 else s1

/-- The first blank slot of [a, hi), if any: a slot that is not blank is skipped (R349). -/
def State.firstBlank (s : State) : Nat → Nat → Option Nat
  | 0, _ => none
  | n + 1, a => if s.blankSlot a then some a else s.firstBlank n (a + 1)

/-- The write position of the circulating area: a slot whose program was cut short is not empty and not valid; its slot stays used and the
next write follows it (R364, R365; log entry 84). -/
def State.circPlace (s : State) : Nat → Nat → Nat
  | 0, a => a
  | n + 1, a => if s.flashWord (32 * a) == BitVec.allOnes 64 || recValid (s.slotWords a) then a else s.circPlace n (circAfter s.slotN a)

/-- The circulating slot the next record takes. -/
def State.circSlot (s : State) : Nat := s.circPlace 16 s.nextCirc

/-- Where a record of the queue goes next: its slot and whether it is a kept type written in the circulating area. -/
def State.placeFor (s : State) (r : Rec) : Nat × Bool :=
  if r.keptType && !s.flag ER_STAT ER_STAT.KEPT_FULL then
    match s.firstBlank (4080 - s.keptNext) s.keptNext with
    | some a => (a, false)
    | none => (s.circSlot, true)
  else (s.circSlot, r.keptType)

/-- A slot is used: the write position of its area moves past it. -/
def State.useSlot (s : State) (slot : Nat) : State :=
  if slot < 4080 then s.setKept (slot + 1) else s.wr ER_PTR ER_PTR.NEXT_CIRC (circAfter s.slotN slot)

/-- A random nonce is made and RESULT becomes CHAL_READY (R51, R53): the bits are a free value. -/
def State.makeNonce (s : State) (bits : Nat → BitVec 384) : State :=
  let s1 := (s.wr LC_AUTH_STAT LC_AUTH_STAT.RESULT 1).draw
  { s1 with lc := { s1.lc with nonce := some (bits s.freeCtr), waiting := false } }

end Sys2Proof.Machine
end

