-- ==== Sys2Proof/Machine/Recorder.lean ====
section
/-! DEFINITION. The event recorder: the commands of 14_recorder.md (R346-R365). -/

namespace Sys2Proof.Machine

open Sys2Proof

/-! ### The scan (R347, R353) -/

/-- The flash meets R347. -/
def sfdpUsable (f : Sfdp) : Bool :=
  f.revB && decide (0x1000000 ≤ f.bytes) && f.erase4k && decide (256 ≤ f.page) && (decide (f.bytes ≤ 0x1000000) || f.addr4)

/-- Slots the recorder uses: the first min(density, 256 MiB) (R348). -/
def sfdpSlots (f : Sfdp) : Nat := min f.bytes 0x10000000 / 256

/-- ER_GEOM as discovered. -/
def sfdpGeom (f : Sfdp) : Word :=
  ER_GEOM.SLOTS.set (ER_GEOM.CIRC.set (ER_GEOM.UNIT.set (ER_GEOM.ADDR4.set (ER_GEOM.QUAD_OK.set 0 (b2n f.quad))
    (b2n (decide (0x1000000 < f.bytes)))) 16) (sfdpSlots f - 4096)) (sfdpSlots f)

/-- No usable flash: NOFLASH, READY at once, PCC zero, RECORDER with SUB 1; what waits is never written (R347, R353). -/
def State.noFlash (s : State) : State :=
  let s0 := ((s.wr ER_STAT ER_STAT.NOFLASH 1).wr ER_STAT ER_STAT.READY 1).wr ER_STAT ER_STAT.CLEARING 0
  let s1 := (s0.on (s0.fuses.lcState == 0) (·.wr ER_STAT ER_STAT.CLEAR_ARMED 1)).raiseRec 1
  let q := s1.rcd.queue
  ({ (s1.setQueue []) with rcd := { (s1.setQueue []).rcd with scanned := true, op := .idle, clearPend := none } } : State).each q (fun u r => u.unrecorded r)

/-- Is record `a` older than `b`: by PCC, then AO_TIME, then slot (R351). -/
def olderRec (a b : Nat × List Word) : Bool :=
  decide (recPcc a.2 < recPcc b.2) || (decide (recPcc a.2 = recPcc b.2) &&
    (decide (recAo a.2 < recAo b.2) || (decide (recAo a.2 = recAo b.2) && decide (a.1 < b.1))))

def newestRec : List (Nat × List Word) → Option (Nat × List Word)
  | [] => none
  | a :: l => match newestRec l with
    | none => some a
    | some b => if olderRec a b then some b else some a

/-- The erase units that must be blank: the one after the write position's (R349), and the one the write position stands at the start of,
which a failed erase may have left (R358). -/
def State.unitsToErase (s : State) : List Nat :=
  let u := s.nextCirc / 16
  (if s.nextCirc % 16 = 0 then [u, unitAfter s.slotN u] else [unitAfter s.slotN u]).filter (fun v => !s.blankSlots (16 * v) (16 * v + 16))

/-- As the write position enters an erase unit the unit after it is erased (R349): the erase starts when the flash is free and no freeze is
in force (R360), unless the unit is blank already. -/
def State.keepErased (s : State) : State :=
  match s.unitsToErase with
  | [] => s
  | u :: _ =>
    if s.rcd.op = .idle ∧ s.flag ER_STAT ER_STAT.FROZEN = false then { s with rcd := { s.rcd with op := .erase u } } else s

/-- The areas of a clear are erased, its record in `slot` committed, the positions set back; `used` clear slots are used then (R363
steps 3 to 5). -/
def State.finishClear (s : State) (all : Bool) (slot used : Nat) : State :=
  let s1 := s.eraseSlots 4096 s.slotN
  let s2 := (if all then s1.eraseSlots 0 4080 else s1).commitSlot slot
  let s3 := ((s2.wr ER_PTR ER_PTR.CLEAR_USED used).wr ER_PTR ER_PTR.NEXT_CIRC 4096).wrb ER_STAT ER_STAT.CLEAR_FULL (decide (16 ≤ used))
  let s4 := if all then (s3.wr ER_PTR ER_PTR.KEPT_NEXT 0).wr ER_STAT ER_STAT.KEPT_FULL 0 else s3
  (s4.wr ER_STAT ER_STAT.CLEARING 0).wrb ER_STAT ER_STAT.CLEAR_ARMED (s4.fuses.lcState == 0)

/-- The positions and flags the scan sets from the slots it finds (R353). -/
def State.scanPointers (s : State) (used : List Nat) (circ : List (Nat × List Word)) : State :=
  let kept := (used.filter (· < 4080)).foldl (fun m a => max m (a + 1)) 0
  let clears := (used.filter (fun a => decide (4080 ≤ a) && decide (a < 4096))).length
  let next := match newestRec circ with
    | some (a, _) => circAfter s.slotN a
    | none => 4096
  let s1 := ((s.wr ER_PTR ER_PTR.NEXT_CIRC next).wr ER_PTR ER_PTR.KEPT_NEXT kept).wr ER_PTR ER_PTR.CLEAR_USED clears
  (s1.wrb ER_STAT ER_STAT.KEPT_FULL (decide (kept = 4080))).wrb ER_STAT ER_STAT.CLEAR_FULL (decide (16 ≤ clears))

/-- The newest CLEAR record of the slots in use, 0 for none. -/
def newestClear (used : List Nat) : Nat := (used.filter (fun a => decide (4080 ≤ a) && decide (a < 4096))).foldl (fun m a => max m a) 0

/-- A clear was interrupted: the newest CLEAR record is valid except for an all-ones COMMIT (R353). -/
def State.cutClear (s : State) (used : List Nat) : Bool :=
  let ws := s.slotWords (newestClear used)
  decide (newestClear used ≠ 0) && recSound ws && ((ws.getD 31 0).extractLsb' 0 32 == BitVec.allOnes 32)

/-- A clear that power loss or a block reset interrupted is completed before anything else (R353, R363). -/
def State.scanClear (s : State) (used : List Nat) : State :=
  if s.cutClear used then
    s.finishClear (decide ((((s.slotWords (newestClear used)).getD 4 0).extractLsb' 62 2).toNat = 1)) (newestClear used) s.clearUsed
  else s

/-- PCC and HD_AO_TIME of the first scan after chip reset (R353); the heartbeats of the operating time since the newest record fall due then (R356,
log entry 92). -/
def State.scanTimes (s : State) (valid : List (Nat × List Word)) : State :=
  let top := valid.foldl (fun m e => max m (recPcc e.2)) 0
  let ao := valid.foldl (fun m e => max m (recAo e.2)) 0
  let pcc := if top < 0xFFFFFFFF then top + 1 else 0xFFFFFFFF
  let s1 := ((s.wr ER_PCC ER_PCC.PCC pcc).wrb ER_PCC ER_PCC.SAT (decide (pcc = 0xFFFFFFFF))).setReg HD_AO_TIME
    (BitVec.ofNat 64 (ao + s.clk.aoCount))
  let due := if s.rcd.heartH = 0 then 0 else (ao + s.clk.aoCount) / (s.rcd.heartH * 117964800) - ao / (s.rcd.heartH * 117964800)
  let s2 : State := { s1 with rcd := { s1.rcd with heartDue := s1.rcd.heartDue + due } }
  if top + 1 = 0xFFFFFFFF then s2.stuck ER_PCC else s2

/-- Records of the areas a clear erases that are valid. -/
def State.validIn (s : State) (all : Bool) : Nat :=
  ((s.usedSlots s.slotN).filter (fun a => (decide (4096 ≤ a) || (all && decide (a < 4080))) && recValid (s.slotWords a))).length

/-- The clear slot a CLEAR record takes: slot 4,080 + CLEAR_USED, or the next one of the area that is blank (R349, R363). -/
def State.clearSlot (s : State) : Option Nat := s.firstBlank (16 - s.clearUsed) (4080 + s.clearUsed)

/-- The CLEAR record is programmed, COMMIT all ones, and the erasing begins (R363 steps 1 and 2). -/
def State.beginClear (s : State) (all : Bool) : State :=
  let slot := s.clearSlot.getD (4080 + s.clearUsed)
  let hash := if s.fuses.lcState = 0 then 0 else s.rcd.clearHash
  let w4 := BitVec.ofNat 64 ((b2n all) * 2 ^ 62 + s.fuses.lcState * 2 ^ 60 + s.fuses.slot * 2 ^ 58)
  let r : Rec := { type := 5, payload := [w4, BitVec.ofNat 64 (s.validIn all)] ++ (List.range 6).map (word384 hash)
                   ao := s.reg HD_AO_TIME, beat := s.clk.beat }
  let s1 := s.programSlot slot (buildRec r false s.rcd.lostBefore s.rcd.seq s.rcd.seq s.pcc)
  { s1 with rcd := { s1.rcd with op := .clear all slot, clearPend := none, clearFirst := false, lostBefore := false
                                 seq := (s.rcd.seq + 1) % 2 ^ 32 } }

/-- The flash starts what waits for it, unless a freeze is in force (R360): a clear, or the erase of a unit that must be blank. -/
def State.flashNext (s : State) : State :=
  if s.flag ER_STAT ER_STAT.READY = false ∨ s.flag ER_STAT ER_STAT.NOFLASH ∨ s.flag ER_STAT ER_STAT.FROZEN ∨ s.rcd.op ≠ .idle then s
  else match s.rcd.clearPend with
  | some all => (s.wr ER_STAT ER_STAT.CLEARING 1).beginClear all
  | none => s.keepErased

/-- RECORDER_SCAN (R347, R353, R364): once the life-cycle state has been read, discovery, the scan's findings, READY and POWER_ON (not after a
block reset). A scan that finds an interrupted clear does not end while a freeze is in force, which lets nothing be erased (R360). -/
def State.recorderScan (s : State) (sfdp : Option Sfdp) : State :=
  if s.flag ER_STAT ER_STAT.READY ∨ s.fault.errReset then s
  else match sfdp with
  | none => s.noFlash
  | some f =>
    if sfdpUsable f = false then s.noFlash
    else if s.flag ER_STAT ER_STAT.FROZEN && s.cutClear (s.usedSlots (sfdpSlots f)) then s
    else
      let s0 := (s.wr ER_STAT ER_STAT.NOFLASH 0).setReg ER_GEOM (sfdpGeom f)
      let used := s0.usedSlots (sfdpSlots f)
      let recs := used.map (fun a => (a, s0.slotWords a))
      let valid := recs.filter (fun e => recValid e.2)
      let s1 := (s0.scanPointers used (valid.filter (fun e => 4096 ≤ e.1))).scanClear used
      let s2 := if s1.rcd.scanned then s1 else s1.scanTimes valid
      let s3 := (s2.wr ER_STAT ER_STAT.READY 1).on (s2.fuses.lcState == 0) (·.wr ER_STAT ER_STAT.CLEAR_ARMED 1)
      let s4 := if s1.rcd.scanned then s3
        else s3.record 1 0 [s3.viewLcState (s3.reg LC_STATE), BitVec.ofNat 64 (recs.length - valid.length)]
      let s5 : State := { s4 with rcd := { s4.rcd with scanned := true } }
      s5.flashNext

/-- The scan ends, and a waiting CHALLENGE proceeds (R353). -/
def execRecorderScan (sfdp : Option Sfdp) (s : State) : Host.Outcome State Fault Refusal :=
  let u := s.recorderScan sfdp
  done (if u.lc.waiting && u.flag ER_STAT ER_STAT.READY then u.makeNonce Config.freeBits else u)

/-! ### Snapshots and heartbeats (R355, R356) -/

/-- SNAPSHOT_START: the oldest snapshot called for by the trigger starts (R355). -/
def State.snapshotStart (s : State) (trig : Nat) : State :=
  let rec go : List Snap → List Snap
    | [] => []
    | a :: l => if a.trig = trig ∧ a.started = false then { a with started := true } :: l else a :: go l
  { s with rcd := { s.rcd with snaps := go s.rcd.snaps } }

def execSnapshotStart (trig : Nat) (s : State) : Host.Outcome State Fault Refusal := done (s.snapshotStart trig)

/-- Two addresses a word, as in the LIST record; an unused half holds 0xFF_FFFF (R354). -/
def addressWords : List Nat → List Word
  | [] => []
  | [a] => [BitVec.ofNat 64 (a * 2 ^ 32 + 0xFFFFFF)]
  | a :: b :: l => BitVec.ofNat 64 (a * 2 ^ 32 + b) :: addressWords l

/-- A list cut into pieces of 18. -/
def parts18 : Nat → List Nat → List (List Nat)
  | 0, _ => []
  | n + 1, l => if l = [] then [] else l.take 18 :: parts18 n (l.drop 18)

/-- The parts of a snapshot (R355): addresses, then values; list 0 holds the raise alone. -/
def State.snapRecs (s : State) (x : Snap) : List Rec :=
  let regs := ((s.rcd.lists.find? (fun e => e.1 = x.list)).map (·.2)).getD []
  let pieces := parts18 4 regs
  let mk := fun (part parts : Nat) (p : List Word) (tmo : Bool) =>
    ({ type := 10, part := part, parts := parts, payload := p, kept := x.keep, tmo := tmo, trig := x.trig, ao := x.ao, beat := x.beat } : Rec)
  if x.list = 0 then [mk 0 1 [x.raise] false]
  else pieces.zipIdx.map (fun e => mk e.2 pieces.length
    (addressWords e.1 ++ e.1.map (fun a => (s.readReg a).2)) (e.1.any (fun a => (s.readReg a).1 == rTimeout)))

/-- SNAPSHOT_DONE: the oldest started snapshot's reads complete and its parts are queued (R355). -/
def State.snapshotDone (s : State) : State :=
  match s.rcd.snaps.find? (·.started) with
  | none => s
  | some x => ({ s with rcd := { s.rcd with snaps := s.rcd.snaps.erase x } } : State).each (s.snapRecs x) (fun u r => u.enq r)

def execSnapshotDone (s : State) : Host.Outcome State Fault Refusal := done s.snapshotDone

/-- HEARTBEAT: one heartbeat that is due is written, at the next wake if it fell due in SLEEP (R356). -/
def State.heartbeat (s : State) : State :=
  if s.rcd.heartDue ≠ 0 ∧ s.clk.fast ≠ .sleep then ({ s with rcd := { s.rcd with heartDue := s.rcd.heartDue - 1 } } : State).record 2 0 [] else s

def execHeartbeat (s : State) : Host.Outcome State Fault Refusal := done s.heartbeat

/-! ### Clearing (R362, R363) -/

/-- A waiting freeze takes force (R360). -/
def State.freezeNow (s : State) : State := ({ s with rcd := { s.rcd with freezePend := false, clearFirst := false } } : State).wr ER_STAT ER_STAT.FROZEN 1

/-- A write of 1 to ER_CTRL.CLEAR (R362): accepted, or REFUSED; also refused with NOFLASH, where nothing is written (R347), and where no
clear slot is blank (log entry 84). -/
def State.clearCmd (s : State) (d : Word) : State :=
  let all := ER_CTRL.SCOPE.get d == 1
  let ok := s.flag ER_STAT ER_STAT.READY && s.flag ER_STAT ER_STAT.CLEAR_ARMED && !s.flag ER_STAT ER_STAT.FROZEN &&
    !s.flag ER_STAT ER_STAT.CLEARING && decide (s.clearUsed < 16) && !s.flag ER_STAT ER_STAT.NOFLASH && s.clearSlot.isSome &&
    (!all || s.fuses.lcState == 0 || s.fuses.lcState == 3)
  if ok then
    let s1 := s.wr ER_STAT ER_STAT.CLEARING 1
    if s1.rcd.op = .idle then s1.beginClear all else { s1 with rcd := { s1.rcd with clearPend := some all } }
  else s.wr ER_STAT ER_STAT.REFUSED 1

/-- CLEAR_DONE: the areas are erased and the clear ends (R363); frozen, it starts no program and no erase, and so does not end (R360). -/
def State.clearDone (s : State) : State :=
  match (if s.flag ER_STAT ER_STAT.FROZEN then FlashOp.idle else s.rcd.op) with
  | .clear all slot =>
    let s1 := s.finishClear all slot (s.clearUsed + 1)
    let s2 : State := { s1 with rcd := { s1.rcd with op := .idle } }
    if s2.rcd.freezePend then s2.freezeNow else s2
  | _ => s

def execClearDone (s : State) : Host.Outcome State Fault Refusal := done s.clearDone

/-- CLEAR_ARM_EXPIRY: 60 s after the acceptance CLEAR_ARMED clears; in BLANK it stands (R362). -/
def State.clearArmExpiry (s : State) : State :=
  if s.fuses.lcState = 0 then s else s.wr ER_STAT ER_STAT.CLEAR_ARMED 0

def execClearArmExpiry (s : State) : Host.Outcome State Fault Refusal := done s.clearArmExpiry

/-! ### Writing (R357, R358) -/

/-- The flash is free: a waiting freeze takes force, and a waiting clear begins; a clear of the freeze's own cycle goes first (R360, R363,
R365). -/
def State.flashFree (s : State) : State :=
  let s0 : State := { s with rcd := { s.rcd with op := .idle } }
  match s0.rcd.clearPend with
  | some all => if s0.rcd.freezePend && !s0.rcd.clearFirst then s0.freezeNow else s0.beginClear all
  | none => if s0.rcd.freezePend then s0.freezeNow else s0

/-- The later parts of a group take the SEQ of its part 0, which is being written (R350): the waiting parts of its type, trigger and times, up to
the part 0 of another such group. -/
def nameGroup (r : Rec) (seq : Nat) : List Rec → List Rec
  | [] => []
  | q :: l =>
    if q.type = r.type ∧ q.trig = r.trig ∧ q.tile = r.tile ∧ q.ao = r.ao ∧ q.beat = r.beat then
      (if q.part = 0 then q :: l else { q with group := seq } :: nameGroup r seq l)
    else q :: nameGroup r seq l

/-- RECORD_WRITE: with the fast clock running (R358) the oldest queued record is programmed with COMMIT all ones (R358 step 1); a kept type that finds no slot of the kept area has
passed its end, which is full then (R349, R359). -/
def State.recordWrite (s : State) : State :=
  let ready := s.flag ER_STAT ER_STAT.READY && !s.flag ER_STAT ER_STAT.NOFLASH && !s.flag ER_STAT ER_STAT.FROZEN &&
    !s.flag ER_STAT ER_STAT.CLEARING && decide (s.rcd.op = .idle) && decide (s.clk.fast = .run)
  match s.rcd.queue with
  | [] => s
  | r :: l =>
    if ready then
      let (slot, moved) := s.placeFor r
      let group := if r.part = 0 then s.rcd.seq else r.group
      let s1 := ((s.programSlot slot (buildRec r moved s.rcd.lostBefore s.rcd.seq group s.pcc)).useSlot slot).on moved (·.setKept 4080)
      { s1 with rcd := { s1.rcd with
        op := .program slot false s.rcd.lostBefore
        lostBefore := false
        seq := (s.rcd.seq + 1) % 2 ^ 32
        queue := if r.part = 0 then r :: nameGroup r s.rcd.seq l else s.rcd.queue } }
    else s

def execRecordWrite (s : State) : Host.Outcome State Fault Refusal := done s.recordWrite

/-- At the first free place after a loss a LOST record follows and RECORDER is raised with SUB 4 (R357). -/
def State.afterLoss (s : State) : State :=
  if s.rcd.dropped = 0 ∨ s.hasPlace { type := 11 } = false then s
  else
    let n := s.rcd.dropped
    (({ s with rcd := { s.rcd with dropped := 0 } } : State).record 11 0 [BitVec.ofNat 64 n]).raiseRec 4

/-- A record is committed: it leaves the queue (R358 step 3); a LIFE_CYCLE record clears UNRECORDED (LC_STATE table), and the last
part of a THERMAL_STOP record that of its tile (TH_STAT table). -/
def State.recordCommitted (s : State) (r : Rec) (rest : List Rec) (slot : Nat) : State :=
  let s1 := ((s.commitSlot slot).setQueue rest).on (r.type == 3) (·.wr LC_STATE LC_STATE.UNRECORDED 0)
  let s2 := s1.on (r.type == 4 && r.part == 1 && !(s.tile r.tile).th.partLost) (·.wr (TH_STAT r.tile) TH_STAT.UNRECORDED 0)
  s2.flashFree.keepErased.afterLoss

/-- The read-back failed: once more in the next slot of the same area, then the record is dropped (R358). -/
def State.recordFailed (s : State) (r : Rec) (rest : List Rec) (slot : Nat) (second lost : Bool) : State :=
  if second then
    let s1 := ((s.setQueue rest).wr ER_STAT ER_STAT.WRITE_FAIL 1).dropRec r
    (s1.raiseRec 2).flashFree.keepErased.afterLoss
  else
    let area := if slot < 4080 then s.firstBlank (4080 - s.keptNext) s.keptNext else none
    let next := area.getD s.circSlot
    let moved := r.keptType && decide (4080 ≤ next)
    let seq := (s.rcd.seq + 2 ^ 32 - 1) % 2 ^ 32
    let group := if r.part = 0 then seq else r.group
    let s1 := ((s.programSlot next (buildRec r moved lost seq group s.pcc)).useSlot next).on moved (·.setKept 4080)
    { s1 with rcd := { s1.rcd with op := .program next true lost } }

/-- RECORD_WRITE_DONE: the program has ended and been read back (R358). -/
def State.recordWriteDone (s : State) (ok : Bool) : State :=
  match s.rcd.op, s.rcd.queue with
  | .program slot second lost, r :: rest =>
    if ok && recSound (s.slotWords slot) then s.recordCommitted r rest slot else s.recordFailed r rest slot second lost
  | _, _ => s

def execRecordWriteDone (ok : Bool) (s : State) : Host.Outcome State Fault Refusal := done (s.recordWriteDone ok)

/-- ERASE_DONE: the unit is erased; a failed erase raises SUB 3 and moves the write position past the unit, whose successor is
erased next (R358, R349). In a clear it ends the erase in progress, where a waiting FREEZE takes force (R365). -/
def State.eraseDone (s : State) (ok : Bool) : State :=
  match s.rcd.op with
  | .erase u =>
    if ok then (s.eraseSlots (16 * u) (16 * u + 16)).flashFree.keepErased
    else
      (((s.wr ER_STAT ER_STAT.ERASE_FAIL 1).wr ER_PTR ER_PTR.NEXT_CIRC (16 * unitAfter s.slotN u)).raiseRec 3).flashFree.keepErased
  | .clear _ _ =>
    let s1 := if ok then s else (s.wr ER_STAT ER_STAT.ERASE_FAIL 1).raiseRec 3
    if s1.rcd.freezePend then s1.freezeNow else s1
  | _ => s

def execEraseDone (ok : Bool) (s : State) : Host.Outcome State Fault Refusal := done (s.eraseDone ok)

/-! ### Freezing and reading (R360, R361) -/

/-- FREEZE: in force at once, or at the end of the program or erase in progress; a freeze in force is not extended (R360). -/
def State.freezeCmd (s : State) : State :=
  if s.flag ER_STAT ER_STAT.FROZEN then s
  else if s.rcd.op = .idle then s.wr ER_STAT ER_STAT.FROZEN 1
  else { s with rcd := { s.rcd with freezePend := true } }

/-- THAW: the freeze ends, and so does one that still waits (R360); a clear or an erase it held back starts (R349). -/
def State.thawCmd (s : State) : State :=
  (({ s with rcd := { s.rcd with freezePend := false, clearFirst := false } } : State).wr ER_STAT ER_STAT.FROZEN 0).flashNext

/-- The slot after one that is read, wrapping from N - 1 to slot 0 (R361). -/
def State.slotAfter (s : State) (a : Nat) : Nat := if a + 1 < s.slotN then a + 1 else 0

/-- A word as a fetch reads it; beyond slot N - 1 the spec states none, and the word is a free value (log entry 84). -/
def State.fetchWord (s : State) (slot word : Nat) : Word :=
  if slot < s.slotN then s.flashWord (32 * slot + word) else (Config.freeBits (s.freeCtr + word)).setWidth 64

/-- The words that a completed fetch adds: up to 64 in the buffer, slot after slot from the read position (R361). -/
def State.fetched (s : State) : List Word :=
  let a := s.rd ER_RD_STAT ER_RD_STAT.SLOT
  let w := s.rd ER_RD_STAT ER_RD_STAT.WORD
  let slots := [a, s.slotAfter a, s.slotAfter (s.slotAfter a)]
  (List.range 64).map (fun i => s.fetchWord (slots.getD ((w + i) / 32) 0) ((w + i) % 32))

/-- A fetch completes: the buffer is full. -/
def State.fetchFill (s : State) : State :=
  (({ s with rcd := { s.rcd with buffer := s.fetched } } : State).on (decide (s.slotN ≤ s.rd ER_RD_STAT ER_RD_STAT.SLOT)) (fun u => { u with freeCtr := u.freeCtr + 32 })).wr
    ER_RD_STAT ER_RD_STAT.AVAIL 64

/-- No program and no erase is in progress: none is within a clear that a freeze holds (R360). -/
def State.flashRests (s : State) : Bool := decide (s.rcd.op = .idle) || s.flag ER_STAT ER_STAT.FROZEN

/-- FETCH_DONE; a fetch waits while a program or erase is in progress (R361). -/
def State.fetchDone (s : State) : State :=
  if s.rcd.fetching ∧ s.flashRests ∧ s.slotN ≠ 0 then s.fetchFill else s

def execFetchDone (s : State) : Host.Outcome State Fault Refusal := done s.fetchDone

/-- RD_ABORT: fetching stops and the buffer empties; a fetch completing in the same cycle stands, with ABORT LATE (R361, R10). -/
def State.rdAbort (s : State) (same : Bool) : State :=
  if same && s.rcd.fetching && s.flashRests && decide (s.slotN ≠ 0) then
    let s1 := (s.fetchFill).wr ER_RD_STAT ER_RD_STAT.ABORT 2
    { s1 with rcd := { s1.rcd with fetching := false } }
  else
    let s1 := (s.wr ER_RD_STAT ER_RD_STAT.ABORT 1).wr ER_RD_STAT ER_RD_STAT.AVAIL 0
    { s1 with rcd := { s1.rcd with fetching := false, buffer := [] } }

/-- A write of ER_CTRL: the clear is judged first, then FREEZE, THAW and RD_ABORT (R365). -/
def State.erCtrlWrite (s : State) (d : Word) (same : Bool) : State :=
  let s1 := s.on (ER_CTRL.CLEAR.get d == 1) (·.clearCmd d)
  let waits := (ER_CTRL.CLEAR.get d == 1) && s.rcd.clearPend.isNone && s1.rcd.clearPend.isSome && !s.rcd.freezePend
  let s2 := s1.on (ER_CTRL.FREEZE.get d == 1) (fun u => ({ u with rcd := { u.rcd with clearFirst := waits } } : State).freezeCmd)
  let s3 := s2.on (ER_CTRL.THAW.get d == 1) State.thawCmd
  s3.on (ER_CTRL.RD_ABORT.get d == 1) (·.rdAbort same)

def execFreeze (d : Word) (s : State) : Host.Outcome State Fault Refusal := hostOp s ER_CTRL d (·.erCtrlWrite d false)
def execThaw (d : Word) (s : State) : Host.Outcome State Fault Refusal := hostOp s ER_CTRL d (·.erCtrlWrite d false)
def execClear (d : Word) (s : State) : Host.Outcome State Fault Refusal := hostOp s ER_CTRL d (·.erCtrlWrite d false)
def execRdAbort (d : Word) (same : Bool) (s : State) : Host.Outcome State Fault Refusal := hostOp s ER_CTRL d (·.erCtrlWrite d same)

/-- FREEZE_EXPIRY: 60 s after FROZEN was set (R360). -/
def execFreezeExpiry (s : State) : Host.Outcome State Fault Refusal :=
  done (if s.flag ER_STAT ER_STAT.FROZEN then (s.wr ER_STAT ER_STAT.FROZEN 0).flashNext else s)

/-- A write of ER_RD_PTR: the read position is word 0 of the slot and fetching starts; refused before READY (R361). -/
def State.erRdPtrWrite (s : State) (d : Word) : State :=
  if s.flag ER_STAT ER_STAT.READY then
    let slot := ER_RD_PTR.SLOT.get d
    let s1 := (s.wr ER_RD_PTR ER_RD_PTR.SLOT slot).wr ER_RD_STAT ER_RD_STAT.SLOT slot
    let s2 := ((s1.wr ER_RD_STAT ER_RD_STAT.WORD 0).wr ER_RD_STAT ER_RD_STAT.AVAIL 0).wr ER_RD_STAT ER_RD_STAT.ABORT 0
    { s2 with rcd := { s2.rcd with buffer := [], fetching := true } }
  else s.wr ER_STAT ER_STAT.REFUSED 1

def execErRdPtrWrite (d : Word) (s : State) : Host.Outcome State Fault Refusal := hostOp s ER_RD_PTR d (·.erRdPtrWrite d)

/-- The read position after one word, wrapping from N - 1 to slot 0 (R361). -/
def State.rdAdvance (s : State) : State :=
  let w := s.rd ER_RD_STAT ER_RD_STAT.WORD
  let a := s.rd ER_RD_STAT ER_RD_STAT.SLOT
  if w < 31 then s.wr ER_RD_STAT ER_RD_STAT.WORD (w + 1)
  else (s.wr ER_RD_STAT ER_RD_STAT.WORD 0).wr ER_RD_STAT ER_RD_STAT.SLOT (s.slotAfter a)

/-- ER_RD_DATA_READ's effect: a word leaves the buffer, or UNDERRUN is set (R361). -/
def State.rdData (s : State) : State :=
  match s.rcd.buffer with
  | [] => s.wr ER_RD_STAT ER_RD_STAT.UNDERRUN 1
  | _ :: l =>
    (({ s with rcd := { s.rcd with buffer := l } } : State).wr ER_RD_STAT ER_RD_STAT.AVAIL l.length).rdAdvance

def execErRdDataRead (s : State) : Host.Outcome State Fault Refusal :=
  done (s.rdData.answer 0x3000A rOkay (s.rcd.buffer.headD 0))

/-- A write of ER_CFG (R397): QUAD and DIV take their values and then LOCK holds them until chip reset. -/
def State.erCfgWrite (s : State) (d : Word) : State :=
  if s.flag ER_CFG ER_CFG.LOCK then s
  else ((s.wr ER_CFG ER_CFG.QUAD (ER_CFG.QUAD.get d)).wr ER_CFG ER_CFG.DIV (ER_CFG.DIV.get d)).wr ER_CFG ER_CFG.LOCK (ER_CFG.LOCK.get d)

def execErCfgWrite (d : Word) (s : State) : Host.Outcome State Fault Refusal := hostOp s ER_CFG d (·.erCfgWrite d)

end Sys2Proof.Machine
end

