-- ==== Sys2Proof/Machine/LifeCycle.lean ====
section
/-! DEFINITION. The life cycle and authorisations: LC_CMD, the challenge and its answer, fuse programming (R48-R53). -/

namespace Sys2Proof.Machine

open Sys2Proof

/-! ### LC_AUTH_STAT -/

def State.lcBusy (s : State) : Bool := s.flag LC_AUTH_STAT LC_AUTH_STAT.BUSY
def State.lcResult (s : State) (r : Nat) : State := s.wr LC_AUTH_STAT LC_AUTH_STAT.RESULT r
/-- The purpose of the pending nonce is the one LC_AUTH_STAT shows. DESIGN CHOICE (log entry 80): after a refused PROVISION_COMMIT or ENTER_FIELD
(PURPOSE 0) a pending nonce has none, and its SUBMIT ends REJECTED_STATE and counts. -/
def State.lcPurpose (s : State) : Nat := s.rd LC_AUTH_STAT LC_AUTH_STAT.PURPOSE
def State.updLc (s : State) (f : Lc → Lc) : State := { s with lc := f s.lc }

/-- A life-cycle command that R50 refuses: REJECTED_STATE with PURPOSE 0. -/
def State.lcRefuse (s : State) : State := (s.lcResult 6).wr LC_AUTH_STAT LC_AUTH_STAT.PURPOSE 0

/-- LC_EVENT, with the purpose; the life-cycle class of IBI (R45, R325). -/
def State.lcEvent (s : State) (purpose : Nat) : State := s.raiseW { src := 2, sub := purpose }

/-! ### The challenge (R51, R53) -/

/-- CHALLENGE: a new nonce for the purpose, replacing any earlier one; before READY it waits in IDLE; after 8 rejections
REFUSED_LOCKOUT (R53, R353). -/
def State.challengeCmd (s : State) (purpose : Nat) : State :=
  if 8 ≤ s.rd LC_STATE LC_STATE.FAILS then s.lcResult 5
  else
    let s1 := (s.wr LC_AUTH_STAT LC_AUTH_STAT.PURPOSE purpose).wr LC_AUTH_STAT LC_AUTH_STAT.ABORT 0
    let s2 := (s1.updLc (fun l => { l with nonce := none, waiting := true })).lcResult 0
    if s2.flag ER_STAT ER_STAT.READY then s2.makeNonce Config.freeBits else s2

/-- Words of a register group joined, the first byte highest. -/
def State.joined (s : State) (w n first : Nat) : BitVec w :=
  (List.range n).foldl (fun (x : BitVec w) i => (x <<< 64) ||| (s.reg (first + i)).setWidth w) 0

/-- A rejection is counted in FAILS, which sticks at 0xFF; the eighth locks authorisation out (R53, R325). -/
def State.countFail (s : State) : State :=
  let n := s.rd LC_STATE LC_STATE.FAILS
  let s1 := s.wr LC_STATE LC_STATE.FAILS (min 255 (n + 1))
  if n + 1 = 8 then s1.raiseW { src := 3 } else s1

/-- A submission ends: RESULT, the count, its AUTH record, LC_EVENT; the nonce is used (R53, R352). -/
def State.endSubmit (s : State) (result : Nat) : State :=
  let s1 := ((s.lcResult result).wr LC_AUTH_STAT LC_AUTH_STAT.BUSY 0).updLc (fun l => { l with nonce := none, verifying := false })
  let s2 := if result = 2 then s1.ibi 4 else s1.countFail
  (s2.record 7 0 [s2.reg LC_AUTH_STAT]).lcEvent s2.lcPurpose

/-- SUBMIT: the pending nonce is used for a verification; without one the submission is rejected as expired (R51, R53). -/
def State.submitCmd (s : State) : State :=
  match s.lc.nonce with
  | some _ => ((s.wr LC_AUTH_STAT LC_AUTH_STAT.BUSY 1).lcResult 0).updLc (fun l => { l with verifying := true })
  | none => s.endSubmit 4

/-- CANCEL: the pending nonce is void; `same` says that ACCEPTED came in this cycle (R10, R53). -/
def State.cancelCmd (s : State) (same : Bool) : State :=
  if s.lc.nonce.isSome ∨ s.lc.waiting then
    (((s.lcResult 0).wr LC_AUTH_STAT LC_AUTH_STAT.ABORT 1).wr LC_AUTH_STAT LC_AUTH_STAT.BUSY 0).updLc (fun l => { l with nonce := none, waiting := false, verifying := false })
  else if same ∧ s.rd LC_AUTH_STAT LC_AUTH_STAT.RESULT = 2 then s.wr LC_AUTH_STAT LC_AUTH_STAT.ABORT 2
  else s

/-- NONCE_EXPIRY: 60 s; a submission already made is verified (R53). -/
def State.nonceExpiry (s : State) : State :=
  if s.lc.nonce.isSome ∧ s.lc.verifying = false then (s.lcResult 0).updLc (fun l => { l with nonce := none }) else s

/-! ### Verification (R51, R52) -/

/-- The purpose is allowed in the present state (R52). -/
def State.purposeOk (s : State) (p : Nat) : Bool :=
  let st := s.fuses.lcState
  (p == 1 && st == 2) || (p == 2 && st == 3 && decide (s.fuses.slot < 3)) || (p == 3 && st != 0) || (p == 4 && st == 2)

/-- The key hash a purpose requires (R51, R52). -/
def State.keyHash (s : State) (p : Nat) : BitVec 384 :=
  if p = 3 then (if s.fuses.lcState = 3 then s.fuses.makerHash else (s.fuses.secretAt s.fuses.slot).clearHash) else s.fuses.licAuthHash

def State.pubWords (s : State) : List Word := (List.range 12).map (fun i => s.reg (LC_PUB i))
def State.sigWords (s : State) : List Word := (List.range 12).map (fun i => s.reg (LC_SIG i))
def State.pubHash (s : State) : BitVec 384 := Config.sha384 (s.pubWords.flatMap wordBytes)

/-- The signed message (R51). -/
def State.authMessage (s : State) (p : Nat) : List Nat :=
  [p % 256, s.fuses.lcState, s.fuses.slot, 0] ++ bytesOf 4 (BitVec.ofNat 32 s.pcc) ++ bytesOf 16 s.fuses.uid ++ bytesOf 48 (s.lc.nonce.getD 0)

/-- The key and the signature are right. -/
def State.signatureOk (s : State) (p : Nat) : Bool :=
  (s.pubHash == s.keyHash p) && Config.ecdsaVerify (Config.sha384 (s.authMessage p)) s.pubWords s.sigWords

/-- What an accepted purpose brings (R47-R49, R362). -/
def State.grantPurpose (s : State) (p : Nat) : State :=
  let h := s.pubHash
  let s1 := s.updLc (fun l => { l with authHash := h })
  if p = 1 then (s1.wr LC_AUTH_STAT LC_AUTH_STAT.BUSY 1).updLc (fun l => { l with fuseOp := .returnWipe })
  else if p = 2 then s1.updLc (fun l => { l with reentry := true, staged := 0 })
  else if p = 3 then { (s1.wr ER_STAT ER_STAT.CLEAR_ARMED 1) with rcd := { s1.rcd with clearHash := h } }
  else { s1 with tap := { s1.tap with diagOk := true } }

/-- SUBMIT_VERIFIED: within 3 ms (R51, R52). -/
def State.submitVerified (s : State) : State :=
  let p := s.lcPurpose
  if s.lc.verifying then
    if !s.purposeOk p then s.endSubmit 6
    else if s.signatureOk p then (s.endSubmit 2).grantPurpose p
    else s.endSubmit 3
  else s

def execSubmitVerified (s : State) : Host.Outcome State Fault Refusal := done s.submitVerified
def execNonceExpiry (s : State) : Host.Outcome State Fault Refusal := done s.nonceExpiry

/-! ### Staging and fuses (R48-R50) -/

/-- LC_STAGE is accepted in BLANK, and in RETURNED after an accepted REENTRY (LC register table). -/
def State.stageOpen (s : State) : Bool := s.fuses.lcState == 0 || (s.fuses.lcState == 3 && s.lc.reentry)

def State.stageWrite (s : State) (i : Nat) (d : Word) : State :=
  if s.stageOpen then (s.setReg (LC_STAGE i) d).updLc (fun l => { l with staged := setBit l.staged i true }) else s

/-- Fuse programming begins: BUSY until it is done (R49, R50). -/
def State.blow (s : State) (op : FuseOp) : State :=
  (((s.wr LC_AUTH_STAT LC_AUTH_STAT.BUSY 1).lcResult 0).wr LC_AUTH_STAT LC_AUTH_STAT.PURPOSE 0).updLc (fun l => { l with fuseOp := op })

/-- PROVISION_COMMIT (R50). -/
def State.provisionCmd (s : State) : State := if s.fuses.lcState = 0 ∧ s.lc.staged % 2 ^ 22 = 2 ^ 22 - 1 then s.blow .provision else s.lcRefuse

/-- Words 12 to 21 are staged. -/
def State.newSecret (s : State) : Bool := (List.range 10).all (fun i => bit s.lc.staged (12 + i))

/-- ENTER_FIELD (R50). -/
def State.enterFieldCmd (s : State) : State :=
  if s.fuses.lcState = 1 then s.blow .field
  else if s.fuses.lcState = 3 ∧ s.lc.reentry ∧ s.newSecret then s.blow .reentryField
  else s.lcRefuse

/-- CHALLENGE (R53): the pending nonce is void; a submission of it that is still being verified is rejected as expired (R39's table), and
counts. -/
def State.challenge (s : State) (purpose : Nat) : State :=
  (s.on s.lc.verifying (·.endSubmit 4)).challengeCmd purpose

/-- A write of LC_CMD. While fuses are programmed (R49) it is ignored, but for a CANCEL in the cycle of the ACCEPTED result that began it
(R10, R53); while a submission is verified CANCEL and CHALLENGE act. -/
def State.lcCmdWrite (s : State) (d : Word) (same : Bool) : State :=
  let c := (⟨7, 0⟩ : Fld).get d
  if s.lc.fuseOp ≠ .none ∧ ¬(c = 3 ∧ same = true) then s
  else if c = 3 then s.cancelCmd same
  else if c = 1 then s.challenge ((⟨15, 8⟩ : Fld).get d)
  else if s.lcBusy then s
  else if c = 2 then s.submitCmd
  else if c = 0x10 then s.provisionCmd
  else if c = 0x11 then s.enterFieldCmd
  else s

def execChallenge (d : Word) (s : State) : Host.Outcome State Fault Refusal := hostOp s LC_CMD d (·.lcCmdWrite d false)
def execSubmit (s : State) : Host.Outcome State Fault Refusal := hostOp s LC_CMD 0x02 (·.lcCmdWrite 0x02 false)
def execCancel (same : Bool) (s : State) : Host.Outcome State Fault Refusal := hostOp s LC_CMD 0x03 (·.lcCmdWrite 0x03 same)
def execProvisionCommit (s : State) : Host.Outcome State Fault Refusal := hostOp s LC_CMD 0x10 (·.lcCmdWrite 0x10 false)
def execEnterField (s : State) : Host.Outcome State Fault Refusal := hostOp s LC_CMD 0x11 (·.lcCmdWrite 0x11 false)
def execLcStageWrite (i : Nat) (d : Word) (s : State) : Host.Outcome State Fault Refusal :=
  if i < 22 then hostOp s (LC_STAGE i) d (·.stageWrite i d) else done s

/-- A secret-bank slot takes a value. -/
def Fuses.setSecret (f : Fuses) (slot : Nat) (x : Secret) : Fuses :=
  if slot = 0 then { f with secret0 := x } else if slot = 1 then { f with secret1 := x } else if slot = 2 then { f with secret2 := x } else { f with secret3 := x }

/-- A wiped slot: every bit blown (R49). -/
def wiped : Secret := { clearHash := BitVec.allOnes 384, secret := BitVec.allOnes 256 }

/-- The staged secret: words 12-17 and 18-21. -/
def State.stagedSecret (s : State) : Secret := { clearHash := s.joined 384 6 (LC_STAGE 12), secret := s.joined 256 4 (LC_STAGE 18) }

/-- The fuses after a programming. -/
def State.blown (s : State) (op : FuseOp) : Fuses :=
  let f := s.fuses
  match op with
  | .none => f
  | .provision =>
    { (f.setSecret 0 s.stagedSecret) with
      licImgHash := s.joined 384 6 (LC_STAGE 0)
      licAuthHash := s.joined 384 6 (LC_STAGE 6)
      lcState := 1
      slot := 0 }
  | .field => { f with lcState := 2 }
  | .returnWipe => { (f.setSecret f.slot wiped) with lcState := 3 }
  | .reentryField => { (f.setSecret (f.slot + 1) s.stagedSecret) with lcState := 2, slot := f.slot + 1 }

/-- A transition: its fuses, its record, LC_EVENT, IBI class 4; the ports follow the state (R45, R48, R352, R367). -/
def State.transition (s : State) (f : Fuses) (hash : BitVec 384) (purpose : Nat) : State :=
  let old := s.fuses.lcState
  let s1 : State := { s with fuses := f }
  let s2 := s1.linkPorts.wrb ER_STAT ER_STAT.CLEAR_ARMED (s.flag ER_STAT ER_STAT.CLEAR_ARMED && old != 0)
  let w4 := BitVec.ofNat 64 (old * 2 ^ 56 + f.lcState * 2 ^ 48 + f.slot * 2 ^ 40)
  ((s2.record 3 0 (w4 :: (List.range 6).map (word384 hash))).lcEvent purpose).ibi 4

/-- FUSE_PROGRAM_DONE (R48-R50). -/
def State.fuseDone (s : State) : State :=
  let op := s.lc.fuseOp
  let s1 := (s.wr LC_AUTH_STAT LC_AUTH_STAT.BUSY 0).updLc (fun l => { l with
    fuseOp := .none
    reentry := l.reentry && op != .reentryField
    staged := if op = .returnWipe then l.staged else 0 })
  match op with
  | .none => s
  | .returnWipe => (s1.lcResult 2).transition (s.blown op) s.lc.authHash 1
  | .reentryField => (s1.lcResult 2).transition (s.blown op) s.lc.authHash 0
  | .provision => (s1.lcResult 2).transition (s.blown op) 0 0
  | .field => (s1.lcResult 2).transition (s.blown op) 0 0

def execFuseProgramDone (s : State) : Host.Outcome State Fault Refusal := done s.fuseDone

/-- LIFE_CYCLE_READ: VP_ERR_N is released; a wiped slot in FIELD completes the move to RETURNED (R48, R49, R322). -/
def State.lifeCycleRead (s : State) : State :=
  let s1 : State := { s with fault := { s.fault with errReset := false } }
  if s1.fuses.lcState = 2 ∧ s1.fuses.secretAt s1.fuses.slot = wiped then s1.transition { s1.fuses with lcState := 3 } 0 1 else s1

def execLifeCycleRead (s : State) : Host.Outcome State Fault Refusal := done s.lifeCycleRead

end Sys2Proof.Machine
end

