-- ==== Sys2Proof/Machine/Power.lean ====
section
/-! DEFINITION. Votes, sleep and wake: the commands of 12_power_states.md (R302-R321). -/

namespace Sys2Proof.Machine

open Sys2Proof

/-! ### Host votes (R304, R309) -/

/-- Clusters whose bit is set in a word written to PH_HOST_CL0 or PH_HOST_CL1. -/
def hostBits (half : Nat) (d : Word) : List Nat :=
  ((List.range (if half = 0 then 64 else 32)).filter (fun i => d.getLsbD i)).map (fun i => if half = 0 then i else 64 + i)

/-- A write of PH_HOST_CL0 or PH_HOST_CL1: every set bit acts as a WAKE, and then as a vote on its cluster (R304, R309). -/
def State.hostClWrite (s : State) (t half : Nat) (d : Word) : State :=
  let a := if half = 0 then PH_HOST_CL0 t else PH_HOST_CL1 t
  let ks := if half = 0 then List.range 64 else (List.range 32).map (64 + ·)
  let x := if half = 0 then d else PH_HOST_CL1.CL_HI.set 0 (PH_HOST_CL1.CL_HI.get d)
  let wanted := ks.filter (fun k => s.wanted t k)
  let votes := (List.range 14).filter (fun w => s.holdsVote t w)
  let s1 := s.setReg a x
  let s2 := s1.each (hostBits half d) (fun u k => u.wakeCluster t k)
  let s3 := s2.each ks (fun u k => u.wantOf t k (wanted.contains k))
  s3.each (List.range 14) (fun u w => u.graceOf t w (votes.contains w))

def execHostClWrite (t half : Nat) (d : Word) (s : State) : Host.Outcome State Fault Refusal :=
  hostOp s (if half = 0 then PH_HOST_CL0 t else PH_HOST_CL1 t) d (·.hostClWrite t half d)

/-- A write of PH_HOST_HOLD: host votes on wells (R304, R310). -/
def State.hostHoldWrite (s : State) (t : Nat) (d : Word) : State :=
  let votes := (List.range 14).filter (fun w => s.holdsVote t w)
  let s1 := s.wr (PH_HOST_HOLD t) PH_HOST_HOLD.WELLS (PH_HOST_HOLD.WELLS.get d)
  s1.each (List.range 14) (fun u w => u.graceOf t w (votes.contains w))

def execHostHoldWrite (t : Nat) (d : Word) (s : State) : Host.Outcome State Fault Refusal :=
  hostOp s (PH_HOST_HOLD t) d (·.hostHoldWrite t d)

/-! ### Cluster gating by votes (R306-R308) -/

/-- VOTE_GATE: a cluster in WORK or IDLE whose core well has CL_GATE, not wanted at CL_GRACE successive beat boundaries, takes
C_VOTE (R308). -/
def State.voteGate (s : State) (t k : Nat) : State :=
  let cfg := WL_VOTE_CFG t (coreWell k)
  let c := s.cluster t k
  if s.clusterOk t k && s.flag cfg WL_VOTE_CFG.CL_GATE && (s.mapState t k == 0 || s.mapState t k == 2) && !s.wanted t k &&
      !c.waking && !s.flag (PH_CLPWR t k) PH_CLPWR.C_VOTE then
    (s.gateOn t k PH_CLPWR.C_VOTE).updCl t k (fun c => { c with lift := false })
  else s

def execVoteGate (t k : Nat) (s : State) : Host.Outcome State Fault Refusal := done (s.voteGate t k)

/-- WAKE_GRACE_EXPIRY: a woken cluster that has not become wanted within WAKE_GRACE beats of the fall of VP_GREQ takes C_VOTE
again where its core well has CL_GATE; never in MOVING_IN or MOVING_OUT (R308). -/
def State.wakeGraceExpiry (s : State) (t k : Nat) : State :=
  match (s.cluster t k).graceBeat with
  | none => s
  | some _ =>
    if s.clusterOk t k && (s.cluster t k).waking && !s.wanted t k && (s.mapState t k == 0 || s.mapState t k == 2) then
      let s1 := if s.flag (WL_VOTE_CFG t (coreWell k)) WL_VOTE_CFG.CL_GATE then s.gateOn t k PH_CLPWR.C_VOTE else s
      s1.updCl t k (fun c => { c with waking := false, graceBeat := none, lift := false })
    else s

def execWakeGraceExpiry (t k : Nat) (s : State) : Host.Outcome State Fault Refusal := done (s.wakeGraceExpiry t k)

/-- At a beat boundary C_DRY clears where both wells are in voltage mode, and then a lifted C_VOTE (R307-R309, R312). -/
def State.liftCauses (s : State) (t k : Nat) : State :=
  let s1 := if s.flag (PH_CLPWR t k) PH_CLPWR.C_DRY && s.bothVolt t k then s.gateOff t k PH_CLPWR.C_DRY else s
  if (s1.cluster t k).lift && !s1.flag (PH_CLPWR t k) PH_CLPWR.C_DRY then
    (s1.gateOff t k PH_CLPWR.C_VOTE).updCl t k (fun c => { c with lift := false })
  else s1

/-- GATE_CONTROL_RELEASE: at the first beat boundary with no cause, VP_GOFF falls (R306, R307). -/
def State.gateControlRelease (s : State) (t k : Nat) : State :=
  if s.clusterOk t k && s.flag (PH_CLPWR t k) PH_CLPWR.GATED then
    let s1 := s.liftCauses t k
    if s1.anyCause t k then s1
    else ((s1.wr (PH_CLPWR t k) PH_CLPWR.GATED 0).wr (PH_CLPWR t k) PH_CLPWR.GREQ_ONLY 0).updCl t k (fun c => { c with goff := false })
  else s

def execGateControlRelease (t k : Nat) (s : State) : Host.Outcome State Fault Refusal := done (s.gateControlRelease t k)

/-- GREQ_RELEASE: GON_DLY after VP_GOFF fell, VP_GREQ falls; WAKE_GRACE of a woken cluster starts, but for one in MOVING_IN
(R306, R308). -/
def State.greqRelease (s : State) (t k : Nat) : State :=
  let c := s.cluster t k
  if s.clusterOk t k && c.greq && !c.goff && !s.flag (PH_CLPWR t k) PH_CLPWR.GATED then
    s.updCl t k (fun c => { c with
      greq := false
      graceBeat := if c.waking && (s.mapState t k != 5) then some s.clk.beat else c.graceBeat })
  else s

def execGreqRelease (t k : Nat) (s : State) : Host.Outcome State Fault Refusal := done (s.greqRelease t k)

/-! ### Wells going dry, and waking (R310-R313) -/

/-- No voted park starts on this well now: owned, priming, in a test step, STOPPED, or not wet in a regulated mode (R310). -/
def State.parkBlocked (s : State) (t w : Nat) : Bool :=
  s.owned t w || s.stopped t || ((s.te t w).kind != 0) || (s.mo t w).parkWait ||
    !(s.stage t w == stVolt || (s.stage t w == stHyst && !(s.mo t w).waking))

/-- VOTED_PARK: DRY_GRACE has passed on a voted well without a vote, and a voted park starts (R310). -/
def State.votedPark (s : State) (t w : Nat) : State :=
  if s.voltedOk t w && s.flag (WL_VOTE_CFG t w) WL_VOTE_CFG.VOTED && !s.holdsVote t w && !s.parkBlocked t w then s.parkOrWait t w true else s

def execVotedPark (t w : Nat) (s : State) : Host.Outcome State Fault Refusal := done (s.votedPark t w)

/-- PRIMING_ON_WAKE: a DRY, unowned well that a WAKE asked for, or that WAKE_PEND waits on, primes (R309, R311, R312), with an image ACTIVE:
no well goes wet during a load or for a WAKE in safe priming (R70, R74). -/
def State.primingOnWake (s : State) (t w : Nat) : State :=
  if s.voltedOk t w && s.active && (s.stage t w == stDry) && !s.owned t w &&
      ((s.well t w).vo.wakeReq || s.flag (WL_VOTE t w) WL_VOTE.WAKE_PEND) then s.pendWakes t w
  else s

def execPrimingOnWake (t w : Nat) (s : State) : Host.Outcome State Fault Refusal := done (s.primingOnWake t w)

/-- The self-tests of the engines that have not failed are due (R128). -/
def State.testsDue (s : State) (t : Nat) : State :=
  s.updTile t (fun x => { x with en := { x.en with
    dueA := x.en.dueA || !s.flag (PH_ENG_STAT t) PH_ENG_STAT.FAILED_A
    dueB := x.en.dueB || !s.flag (PH_ENG_STAT t) PH_ENG_STAT.FAILED_B } })

/-- PUMPHOUSE_WAKE_DONE: the clocks have locked; the CAL stage of the waiting primings starts, the NCO loads its phase, and self-tests are due (R81, R313). It waits for a step of fabric
time that is being made (R382). -/
def State.pumphouseWakeDone (s : State) (t : Nat) : State :=
  if s.tileOk t && (s.rd (PH_PWR t) PH_PWR.STATE == 2) && (s.rd CL_TIME CL_TIME.STATE != 3) then
    (((s.wr (PH_PWR t) PH_PWR.STATE 0).loadNco t).testsDue t).each (List.range 14) (fun u w =>
      if u.stage t w = stCal then u.each (u.pumpsOf t w) (fun v p => v.updPump t w p (fun q => { q with measuring := true })) else u)
  else s

/-! ### The Wellhead at rest (R314-R318) -/

/-- A sequencer runs or waits. -/
def State.seqActive (s : State) : Bool := (List.range 8).any (fun n => s.sqState n == 1 || s.sqState n == 2)

/-- Some interrupt request line, VP_TRAP or VP_ERR_N is asserted. -/
def State.lineActive (s : State) : Bool :=
  (List.range 8).any (fun t => s.irqLine t) || s.flag FC_STAT FC_STAT.TRAP || s.flag FC_STAT FC_STAT.ERR || s.fault.errReset

/-- Something of R315's list is in progress. -/
def State.napBlocked (s : State) : Bool :=
  !s.port.outstanding.isEmpty || s.seqActive || s.loaderBusy || !s.capEvents.isEmpty || !s.rcd.queue.isEmpty ||
    decide (s.rcd.op ≠ .idle) || decide (s.rcd.heartDue ≠ 0) || !s.rcd.snaps.isEmpty || s.linkBusy || !s.fault.inflight.isEmpty ||
    (List.range 512).any (fun n => s.flag (IC_SRC n) IC_SRC.PEND)

/-- NAP: with nothing in progress the fast clock stops (R315). -/
def execNap (s : State) : Host.Outcome State Fault Refusal :=
  done (if s.clk.fast = .run ∧ s.napBlocked = false then { s with clk := { s.clk with fast := .nap } } else s)

/-- A relocation order is outstanding (PL_STAT.OUTSTANDING). -/
def State.orderOut (s : State) : Bool :=
  s.rd PL_STAT PL_STAT.OUTSTANDING != 0

/-- The first failing condition of R316: 0 none, 1 WET, 2 BUSY, 3 JOB, 4 IRQ. A heartbeat that is due keeps the recorder busy (R365). -/
def State.sleepCause (s : State) : Nat :=
  if s.allTiles.any (fun t => s.rd (PH_PWR t) PH_PWR.STATE != 1) then 1
  else if s.seqActive || s.loaderBusy || s.flag HD_IMG_STAT HD_IMG_STAT.SAFE ||
      s.allTiles.any (fun t => s.dsState t == dsPlaying) || s.orderOut || s.flag LC_AUTH_STAT LC_AUTH_STAT.BUSY ||
      !s.rcd.queue.isEmpty || decide (s.rcd.op ≠ .idle) || decide (s.rcd.heartDue ≠ 0) then 2
  else if !s.flag CG_STAT CG_STAT.SOLO then 3
  else if s.lineActive then 4
  else 0

/-- A request or an entry ends REFUSED (R316, R317). -/
def State.sleepRefuse (s : State) (c : Nat) : State :=
  let s1 := (s.wr HD_PWR_STAT HD_PWR_STAT.RESULT 2).wr HD_PWR_STAT HD_PWR_STAT.REF_CAUSE c
  { s1 with clk := { s1.clk with sleepReq := false } }

/-- The TIMER source has passed (R318). -/
def State.alarmPassed (s : State) : Bool := decide ((s.reg HD_WAKE_ALARM).toNat ≤ (s.reg HD_AO_TIME).toNat)

/-- A write of HD_PWR_CTRL (R316): judged in its cycle; an armed alarm that has passed abandons it (R318). -/
def State.sleepWrite (s : State) (d : Word) : State :=
  if HD_PWR_CTRL.SLEEP.get d = 0 then s
  else
    let c := s.sleepCause
    if c ≠ 0 then s.sleepRefuse c
    else
      let s1 := (s.wr HD_PWR_STAT HD_PWR_STAT.RESULT 0).wr HD_PWR_STAT HD_PWR_STAT.REF_CAUSE 0
      let s2 : State := { s1 with clk := { s1.clk with sleepReq := true } }
      if s2.alarmPassed then s2.wake 4 else s2

def execSleep (d : Word) (s : State) : Host.Outcome State Fault Refusal := hostOp s HD_PWR_CTRL d (·.sleepWrite d)

/-- SLEEP_ENTER: with no request outstanding the conditions are judged again; SLEEPS counts an entry (R317). -/
def State.sleepEnter (s : State) : State :=
  if s.clk.sleepReq = false ∨ s.port.outstanding ≠ [] then s
  else if s.sleepCause ≠ 0 then s.sleepRefuse s.sleepCause
  else
    let s1 := (s.bump HD_PWR_STAT).linkSleep
    { s1 with clk := { s1.clk with fast := .sleep, sleepReq := false } }

def execSleepEnter (s : State) : Host.Outcome State Fault Refusal := done s.sleepEnter

/-- SLEEP_WAKE: wake sources fire (R318). -/
def execSleepWake (srcs : Nat) (s : State) : Host.Outcome State Fault Refusal := done (s.wake srcs)

end Sys2Proof.Machine
end

