-- ==== Sys2Proof/Machine/JobBase.lean ====
section
/-! DEFINITION. Jobs and shares as the governor and the fabric use them: membership, election, the posts of a window (R383-R388). -/

namespace Sys2Proof.Machine

open Sys2Proof

/-- MEMBER or LEADER, also while LEAVING (R385). -/
def State.inJob (s : State) : Bool := s.jobState == jbMember || s.jobState == jbLeader || s.jobState == jbLeaving
/-- This instance leads the job it is in. -/
def State.leads (s : State) : Bool := s.inJob && (s.jobLeader == s.inst)

/-- The telemetry window now open. -/
def State.winNow (s : State) : Nat := s.clk.beat / 4096

/-- Any slice is PLAYING (R386). -/
def State.anyPlay (s : State) : Bool := s.allTiles.any (fun t => s.dsState t == dsPlaying)

/-- Reachable instances that advertise this job as MEMBER or LEADER (R383). -/
def State.jobPeers (s : State) (id : Nat) : List Nat :=
  (s.link.advs.filter (fun a => a.inst != s.inst && s.reaches a.inst && a.jobId == id && (a.job == jbMember || a.job == jbLeader))).map (·.inst)

/-- The least of a list. -/
def leastOf : List Nat → Option Nat
  | [] => none
  | a :: r => some (r.foldl min a)

/-- The job's next leader, from the next window boundary: the lowest reachable member; LINK with LEADER_LOST (R385). -/
def State.electLeader (s : State) : State :=
  if s.inJob && !s.leads && s.link.job.nextLeader.isNone then
    let own := if s.jobState = jbLeaving then [] else [s.inst]
    match leastOf (own ++ (s.jobPeers s.link.job.id).filter (· ≠ s.jobLeader)) with
    | some l => (s.updJob (fun j => { j with nextLeader := some l })).linkRaise 8 0xF
    | none => s
  else s

/-! ### Posts of a window (R287, R386, R388) -/

/-- NEED words: window; r_need and PLAY. -/
def needWords (win r : Nat) (play : Bool) : List Word := [BitVec.ofNat 64 win, BitVec.ofNat 64 (r * 2 ^ 60 + b2n play * 2 ^ 59)]

/-- A member posts NEED to its leader; a leader keeps its own (R386). -/
def State.postNeed (s : State) (win r : Nat) : State :=
  if s.inJob then
    let s1 := s.updJob (fun j => { j with posted := some (win, r), play := s.anyPlay })
    if s.leads then s1 else s1.sendTo s.jobLeader 0x23 1 (needWords win r s.anyPlay)
  else s

/-- L and D of SHARE_REQ: the lesser of WAFER_LIM and a non-zero CAP_HOST; the lesser of that and the prediction at full speed (R388). -/
def State.shareL (s : State) : Nat :=
  let lim := s.rd CG_CAP CG_CAP.WAFER_LIM
  let host := s.rd CG_CAP CG_CAP.CAP_HOST
  if host = 0 then lim else min lim host

/-- SHARE_REQ to the root; the root keeps its own (R388). -/
def State.postShare (s : State) (win p0 : Nat) : State :=
  let l := s.shareL
  let d := min l p0
  let root := s.rd CL_STAT CL_STAT.ROOT
  if s.flag CL_STAT CL_STAT.NO_ROOT then s
  else if root = s.inst then
    s.updLink (fun k => { k with reqs := ⟨s.inst, win, d, l⟩ :: k.reqs.filter (fun r => r.inst != s.inst) })
  else s.sendTo root 0x27 1 [BitVec.ofNat 64 win, BitVec.ofNat 64 (d * 2 ^ 32 + l)]

end Sys2Proof.Machine
end

