-- ==== Sys2Proof/Machine/Pid.lean ====
section
/-! DEFINITION. BF16e6 arithmetic and the inner PID evaluation (R107-R114): exact sums and products, renormalised stage by stage. -/

namespace Sys2Proof.Machine

/-- An exact quotient: products and sums are formed at full width (R109). -/
structure Frac where
  n : Int
  d : Nat
  deriving DecidableEq, Repr

def Frac.add (a b : Frac) : Frac := ⟨a.n * b.d + b.n * a.d, a.d * b.d⟩
def Frac.mul (a b : Frac) : Frac := ⟨a.n * b.n, a.d * b.d⟩
def Frac.neg (a : Frac) : Frac := ⟨-a.n, a.d⟩

/-- M x 2^(E - 15) (R107). -/
def bf (m e : Int) : Frac := if 15 ≤ e then ⟨m * (2 ^ (e - 15).toNat : Nat), 1⟩ else ⟨m, 2 ^ (15 - e).toNat⟩

/-- A packed constant: E in [31:26], M in [15:0] (R111). -/
def bfConst (x : Nat) : Frac := bf (signed 16 x) (signed 6 (x / 67108864))

/-- The mantissa of a value at exponent E, to nearest with ties to even (R109). -/
def mant (v : Frac) (e : Int) : Int :=
  if e ≤ 15 then roundDiv (v.n * (2 ^ (15 - e).toNat : Nat)) v.d else roundDiv v.n (v.d * 2 ^ (e - 15).toNat)

def mantFits (m : Int) : Bool := decide (-32768 ≤ m) && decide (m ≤ 32767)

/-- A stage renormalised (R109, R110): its exponent, its mantissas and whether a value saturated. -/
structure Stage where
  e : Int
  ms : List Int
  sat : Bool
  deriving DecidableEq, Repr

/-- The smallest of the `k + 1` exponents from `e` on at which every value fits; at the last one what does not fit saturates. -/
def renormAt (vs : List Frac) : Nat → Int → Stage
  | 0, e =>
    let ms := vs.map (fun v => mant v e)
    ⟨e, ms.map (clampI (-32768) 32767), !ms.all mantFits⟩
  | k + 1, e =>
    let ms := vs.map (fun v => mant v e)
    if ms.all mantFits then ⟨e, ms, false⟩ else renormAt vs k (e + 1)

/-- A stage with the range of a WL_EXP field: EMAX in its upper six bits, EMIN in its lower six (R108). -/
def renorm (vs : List Frac) (range : Nat) : Stage :=
  let lo := signed 6 range
  let hi := signed 6 (range / 64)
  renormAt vs (hi - lo).toNat lo

/-- The value of a stage's i-th mantissa. -/
def Stage.val (x : Stage) (i : Nat) : Frac := bf (x.ms.getD i 0) x.e

/-- What an evaluation uses beside its sample: gains, exponent plan, held state, feedforward, and bounds (R112, R113, R116). -/
structure EvalIn where
  kp : Nat
  ki : Nat
  kd : Nat
  ad : Nat
  kaw : Nat
  kff : Nat
  exp : Word
  l0 : Word
  l1 : Word
  /-- V_in in 2^-16 mV, BUS in mV, i_ff in 1/64 A. -/
  vIn : Int
  bus : Nat
  iFF : Int
  dmin : Nat
  dmax : Nat
  /-- Duty forced on the well by its tie's lead (R212); handover duty of a well's first evaluation (R115). -/
  forced : Option Nat
  entry : Option Nat
  deriving DecidableEq, Repr

/-- The result of an evaluation: duty, WL_LOOP0, WL_LOOP1, and the stages that saturated as WL_LOOP_STAT.SAT shows them. -/
structure EvalOut where
  duty : Nat
  l0 : Word
  l1 : Word
  sat : Nat
  deriving DecidableEq, Repr

/-- The duty stage: w = d - u at its fixed exponent -1 (R108, R112), as a mantissa and whether it saturates. -/
def backCalc (d : Nat) (u : Frac) : Int × Bool :=
  let w := mant (Frac.add ⟨d, 65536⟩ u.neg) (-1)
  (clampI (-32768) 32767 w, !mantFits w)

/-- One inner evaluation of sample X, in 1/16 mV (R112). -/
def evalPid (x : Int) (a : EvalIn) : EvalOut :=
  let ex := fun (f : Fld) => f.get a.exp
  let e : Frac := ⟨-x, 16⟩
  let fresh := a.entry.isSome
  let ePrev := if fresh then e else bf (signed 16 (WL_LOOP0.M_E.get a.l0)) (signed 6 (WL_LOOP0.E_ERR.get a.l0))
  let dPrev := if fresh then ⟨0, 1⟩ else bf (signed 16 (WL_LOOP1.M_D.get a.l1)) (signed 6 (WL_LOOP0.E_D.get a.l0))
  let iPrev := bf (signed 16 (WL_LOOP1.M_I.get a.l1)) (signed 6 (WL_LOOP0.E_I.get a.l0))
  let wPrev := bf (signed 16 (WL_LOOP1.M_W.get a.l1)) (-1)
  let err := renorm [e, e.add ePrev.neg] (ex WL_EXP.ERR)
  let p := renorm [(bfConst a.kp).mul (err.val 0)] (ex WL_EXP.P)
  let dd := renorm [((bfConst a.ad).mul dPrev).add ((bfConst a.kd).mul (err.val 1))] (ex WL_EXP.D)
  let fv : Frac := ⟨a.vIn, 65536 * max 1 a.bus⟩
  let ff : Frac := ((bfConst a.kff).mul ⟨6000, max 1 a.bus⟩).mul ⟨a.iFF, 1⟩
  let rest := (((p.val 0).add (dd.val 0)).add fv).add ff
  let iExact := match a.entry with
    | some d => (Frac.mk d 65536).add rest.neg
    | none => (iPrev.add ((bfConst a.ki).mul (err.val 0))).add ((bfConst a.kaw).mul wPrev)
  let i := renorm [iExact] (ex WL_EXP.I)
  let u := match a.entry with
    | some d => renorm [⟨d, 65536⟩] (ex WL_EXP.SUM)
    | none => renorm [rest.add (i.val 0)] (ex WL_EXP.SUM)
  let d := a.forced.getD (clampI a.dmin a.dmax (mant (u.val 0) (-1))).toNat
  let w := backCalc d (u.val 0)
  let m := fun (s : Stage) (k : Nat) => s.ms.getD k 0
  let l0 := WL_LOOP0.E_ERR.seti (WL_LOOP0.E_P.seti (WL_LOOP0.E_I.seti (WL_LOOP0.E_D.seti (WL_LOOP0.E_SUM.seti (WL_LOOP0.M_E.seti (WL_LOOP0.M_P.seti 0
    (m p 0)) (m err 0)) u.e) dd.e) i.e) p.e) err.e
  let l1 := WL_LOOP1.M_I.seti (WL_LOOP1.M_D.seti (WL_LOOP1.M_SUM.seti (WL_LOOP1.M_W.seti 0 w.1) (m u 0)) (m dd 0)) (m i 0)
  let sat := 32 * b2n err.sat + 16 * b2n p.sat + 8 * b2n i.sat + 4 * b2n dd.sat + 2 * b2n u.sat + b2n w.2
  ⟨d, l0, l1, sat⟩

/-- An evaluation committed too late feeds back the duty that was repeated (R106): w anew from the sum stage, with the duty stage's flag for it
(R110). -/
def EvalOut.late (r : EvalOut) (applied : Nat) : EvalOut :=
  let u := bf (signed 16 (WL_LOOP1.M_SUM.get r.l1)) (signed 6 (WL_LOOP0.E_SUM.get r.l0))
  let w := backCalc applied u
  { r with l1 := WL_LOOP1.M_W.seti r.l1 w.1, sat := r.sat / 2 * 2 + b2n w.2 }

/-- The highest duty at which a pump's off time is 615 steps of 19.53 ps (R83, R113): P = 51,200,000/f steps, f in kHz. -/
def onBound (m : Nat) (rot : Bool) (khz : Nat) : Nat :=
  if rot ∧ 2 ≤ m then ((m - 1) * 51200000 - 615 * m * khz) * 65536 / (m * 51200000)
  else (51200000 - 615 * khz) * 65536 / 51200000

end Sys2Proof.Machine
end

