-- ==== Sys2Proof/Machine/Engine.lean ====
section
/-! DEFINITION. The control engines: openings, samples, evaluations, verdicts, engine modes and fallback, the window comparators (R82-R84, R102-R135, R240). -/

namespace Sys2Proof.Machine

open Sys2Proof

/-! ### Changes of the engine mode (R129-R135) -/

/-- A mode is the tile's from now on: every well in its loop switches at its next loop-period opening, the others at once (R129, R134). -/
def State.spreadMode (s : State) (t m : Nat) : State :=
  let s1 := s.updEn t (fun e => { e with grant := none, target := some m })
  (s1.each (List.range 15) (fun u w =>
    if u.looped t w then u.updLp t w (fun l => { l with modePend := true }) else u.updLp t w (fun l => { l with mode := m, modePend := false }))).modeDone t

/-- Hardware sets the mode: MODE_REQ takes it in the same cycle (R131, R134, R147). -/
def State.setMode (s : State) (t m : Nat) : State := (s.wr (PH_ENG_CTRL t) PH_ENG_CTRL.MODE_REQ m).spreadMode t m

/-- A move to a mode is granted: MODE_REQ takes it in the same cycle (R129, R134). -/
def State.moveMode (s : State) (t m : Nat) : State :=
  (s.wr (PH_ENG_CTRL t) PH_ENG_CTRL.MODE_REQ m).updEn t (fun e => { e with grant := some m })

/-- Hysteretic fallback: the wells leave their loops at their next openings; after an unattributed fault both engines run the
self-test at once (R130). -/
def State.fallBack (s : State) (t : Nat) (test : Bool) : State :=
  let s1 := (s.wr (PH_ENG_STAT t) PH_ENG_STAT.HYST_FALLBACK 1).holdPh { src := 12, tile := t }
  let s2 := s1.updEn t (fun e => { e with
    grant := none
    target := none
    byFault := false
    ranA := false
    ranB := false
    dueA := e.dueA || test
    dueB := e.dueB || test
    startTest := false })
  s2.each (List.range 15) (fun u w => if (u.lp t w).modePend then u.updLp t w (fun l => { l with modePend := false }) else u)

/-- A lasting fault is noted (R129). -/
def State.noteFault (s : State) (t w cause : Nat) : State :=
  (s.wr (PH_ENG_STAT t) PH_ENG_STAT.CAUSE cause).wr (PH_ENG_STAT t) PH_ENG_STAT.LAST_WELL w

/-- ENGINE_FAIL: an attributed lasting fault (R129, R130). -/
def State.engineFail (s : State) (t e w cause : Nat) : State :=
  let s1 := ((s.noteFault t w cause).wr (PH_ENG_STAT t) (failedFld e) 1).raisePh { src := 11, tile := t, well := w, sub := e }
  if s1.fallback t then s1
  else if s1.failed t (1 - e) then s1.fallBack t false
  else if s1.engMode t = degraded (1 - e) ∧ (s1.en t).grant.isNone ∧ (s1.en t).target.isNone then s1
  else (s1.moveMode t (degraded (1 - e))).updEn t (fun x => { x with byFault := true })

/-- An unattributed lasting fault (R129, R130). -/
def State.engineUnknown (s : State) (t w cause : Nat) : State :=
  let s1 := s.noteFault t w cause
  if s1.fallback t then s1 else s1.fallBack t true

/-- MODE_CHANGE_APPLY: at the beat boundary a granted mode takes effect; each well in voltage mode switches at its next loop-period
opening (R129, R134). -/
def State.modeChangeApply (s : State) (t : Nat) : State :=
  match (s.en t).grant with
  | some m => s.spreadMode t m
  | none => s

def execModeChangeApply (t : Nat) (s : State) : Host.Outcome State Fault Refusal := done (s.modeChangeApply t)

/-- A mode needs a FAILED engine (R135). -/
def State.needsFailed (s : State) (t m : Nat) : Bool :=
  if m = emDegA then s.failed t 0 else if m = emDegB then s.failed t 1 else s.failed t 0 || s.failed t 1

/-- A write of PH_ENG_CTRL: a MODE_REQ that differs is a request, granted or refused; STEST asks for self-tests (R128, R134, R135). A write
whose request is refused and that also sets STEST still queues the self-tests: DESIGN CHOICE, the spec leaves it open (log entry 69). -/
def State.engCtrlWrite (s : State) (t : Nat) (d : Word) : State :=
  let m := PH_ENG_CTRL.MODE_REQ.get d
  let s1 := if m = s.rd (PH_ENG_CTRL t) PH_ENG_CTRL.MODE_REQ then s
    else if s.needsFailed t m || s.fallback t || (s.en t).grant.isSome || (s.en t).target.isSome then
      s.wr (PH_ENG_STAT t) PH_ENG_STAT.REFUSED 1
    else s.moveMode t m
  if PH_ENG_CTRL.STEST.get d = 1 then
    s1.updEn t (fun e => { e with dueA := e.dueA || !s.failed t 0, dueB := e.dueB || !s.failed t 1 })
  else s1

def execModeReqWrite (t : Nat) (d : Word) (s : State) : Host.Outcome State Fault Refusal := hostOp s (PH_ENG_CTRL t) d (·.engCtrlWrite t d)
def execStest (t : Nat) (d : Word) (s : State) : Host.Outcome State Fault Refusal := hostOp s (PH_ENG_CTRL t) d (·.engCtrlWrite t d)

/-! ### Self-tests (R128, R130, R131) -/

/-- No engine is left after a self-test of chip reset or acceptance: the tile starts in fallback (R131). -/
def State.startFallen (s : State) (t : Nat) : State :=
  (s.fallBack t false).updEn t (fun e => { e with dueA := false, dueB := false, ranA := true, ranB := true })

/-- Both self-tests of chip reset or acceptance have run: the tile starts in the plan's default mode or in the DEGRADED mode of the engine
that passed, and an earlier fallback has ended, or it starts in fallback (R131). -/
def State.engineStart (s : State) (t : Nat) : State :=
  if s.failed t 0 && s.failed t 1 then s.startFallen t
  else
  let s1 := ((s.updEn t (fun e => { e with startTest := false })).wr (PH_ENG_STAT t) PH_ENG_STAT.HYST_FALLBACK 0).unhold { src := 12, tile := t }
  if s1.failed t 0 then s1.setMode t emDegB
  else if s1.failed t 1 then s1.setMode t emDegA
  else s1.setMode t (s1.rd (PH_ENG_CTRL t) PH_ENG_CTRL.DEFAULT)

/-- SELF_TEST of engine e, in an idle issue slot: a wrong result is a lasting fault (R104, R128); at the start, while the other engine is FAILED
already, it leaves none (R131). -/
def State.selfTest (s : State) (t e : Nat) (ok : Bool) : State :=
  let x := s.en t
  if s.tileOk t && decide (e < 2) && (if e = 0 then x.dueA else x.dueB) && (x.startTest || s.fallback t || s.engineIdle t e) then
    let pass := ok && (e == s.engineOf t 14) && (s.rd (PH_PWR t) PH_PWR.STATE == 0)
    let s0 := s.updEn t (fun x => if e = 0 then { x with dueA := false, ranA := true } else { x with dueB := false, ranB := true })
    let s1 := if pass then s0.updEn t (fun x => { x with wakeTest := false }) else s0
    if x.startTest then
      let s2 := if ok then s1.wr (PH_ENG_STAT t) (failedFld e) 0
        else ((s1.noteFault t 0xF 3).wr (PH_ENG_STAT t) (failedFld e) 1).raisePh { src := 11, tile := t, sub := e }
      if !ok && s.failed t (1 - e) then s2.startFallen t
      else if (s2.en t).dueA || (s2.en t).dueB then s2 else s2.engineStart t
    else if ok then s1 else s1.engineFail t e 0xF 3
  else s

def execSelfTest (t e : Nat) (ok : Bool) (s : State) : Host.Outcome State Fault Refusal := done (s.selfTest t e ok)

/-! ### Openings (R82-R84, R105, R106, R126, R130, R148) -/

/-- Pumps that take slots: m of those that switch in ascending order; every one in a tied group and in hysteretic mode (R82, R187, R212). -/
def State.slotPumps (s : State) (t w : Nat) : List Nat :=
  let ps := s.switchers t w
  let m := (s.lp t w).mReq
  if m = 0 ∨ s.tied t w ∨ s.stage t w ≠ stVolt then ps else ps.take (max 1 m)

/-- ACTIVE and FIRST at an opening (R82, R84). Period 0 is the first opened since the well went wet: DESIGN CHOICE, the spec does not say
which period is number 0 (log entry 77). -/
def State.openSlots (s : State) (t w : Nat) : State :=
  let ps := s.slotPumps t w
  let n := (s.lp t w).period
  let first := if s.flag (WL_PWM t w) WL_PWM.ROT then ps.getD (n % max 1 ps.length) 0 else ps.headD 0
  ((s.updLp t w (fun l => { l with period := n + 1 })).wr (WL_PWM t w) WL_PWM.ACTIVE ps.length).wr (WL_PWM t w) WL_PWM.FIRST first

/-- The highest duty of the well's on-times (R83). -/
def State.dutyBound (s : State) (t w : Nat) : Nat :=
  onBound (s.rd (WL_PWM t w) WL_PWM.ACTIVE) (s.flag (WL_PWM t w) WL_PWM.ROT) (s.khz t)

/-- The lead's duty is applied on a tied partner (R212). -/
def State.leadDuty (s : State) (t w : Nat) : Option Nat :=
  if 1 < (s.groupWells t w).length ∧ s.rd (WL_TIE t w) WL_TIE.ROLE = 2 then some (s.lp t (s.rd (WL_TIE t w) WL_TIE.PARTNER)).now else none

/-- The on-time of a duty in steps of 19.53 ps: floor(D x P / 65,536), P = 51,200,000/f with f in kHz (R83). -/
def onSteps (d khz : Nat) : Nat := if khz = 0 then 0 else d * 51200000 / (65536 * khz)

/-- The duty that the DPWM applies to a pump: cut to its bounds; an on-time below 512 steps is skipped, the low side kept on in SYNC
(R83, R119). -/
def appliedDuty (d : Int) (bound khz : Nat) : Nat :=
  let x := (clampI 0 bound d).toNat
  if onSteps x khz < 512 then 0 else x

/-- WL_PWM after an opening: the duty applied, to each switching pump with its trim, and CLAMPED where a trim carries a pump's on-time out
of its bounds (R83, R119); in over-voltage suppression no pump's rising edge is issued (R123). -/
def State.applyDuty (s : State) (t w : Nat) : State :=
  let d := (s.leadDuty t w).getD (s.lp t w).now
  let b := s.dutyBound t w
  let ps := s.slotPumps t w
  let cut := ps.any (fun p => decide (((d : Int) + s.trim t w p) < 0) || decide ((b : Int) < (d : Int) + s.trim t w p))
  let s1 := (s.updLp t w (fun l => { l with now := d })).wr (WL_PWM t w) WL_PWM.DUTY (min d b)
  let s2 := s1.each (s1.pumpsOf t w) (fun u p => u.updPump t w p (fun q => { q with
    duty := if ps.contains p ∧ q.pwmHeld = false ∧ s.flag (WL_HOLD t w) WL_HOLD.OV = false then appliedDuty ((d : Int) + s.trim t w p) b (s.khz t) else 0 }))
  if cut then s2.wr (WL_PWM t w) WL_PWM.CLAMPED 1 else s2

/-- The present opening begins a loop period: every one at full rate, every second one at half rate (R102, R105). -/
def Loop.begins (l : Loop) : Bool := !halfRate l.mode || l.period % 2 == l.par % 2

/-- An overrun of the well is counted (R106). -/
def State.overrun (s : State) (t w : Nat) : State := (s.bump (PH_ENG_OVR t)).wr (PH_ENG_OVR t) PH_ENG_OVR.LAST_WELL w

/-- A loop-period opening passes for every sample whose duty is not committed: the duty of the sample of period k is due at the opening of
k + 2, the second one after its close, and a late one counts an overrun (R105, R106). -/
def State.ageSamples (s : State) (t w : Nat) : State :=
  let l := s.lp t w
  let out := (l.retry || (l.mode == emLockstep && l.heldX.isSome)) && l.heldAge == 1
  let n := (l.queue.filter (fun q => q.age == 1)).length + b2n out
  ((List.range n).foldl (fun (u : State) _ => u.overrun t w) s).updLp t w (fun l => { l with
    queue := l.queue.map (fun q => { q with age := q.age + 1 }), heldAge := l.heldAge + 1, counted := l.counted || out })

/-- The well keeps its last verified duty: its engine is isolated, or a lasting fault moves the tile to another mode and the well has not
yet switched (R129). -/
def State.keepsVerified (s : State) (t w : Nat) : Bool :=
  !s.engineOk t w || ((s.en t).byFault && ((s.en t).grant.isSome || (s.lp t w).modePend))

/-- The duty of an opening: a committed one, the repeated one, or the last verified one (R105, R106, R126, R129). -/
def State.openDuty (s : State) (t w : Nat) : State :=
  let l := s.lp t w
  let s1 := if l.bad then s.updLp t w (fun l => { l with now := l.verified, bad := false }) else s
  if l.begins = false then s1
  else
    let s2 := s1.ageSamples t w
    if s.keepsVerified t w then s2.updLp t w (fun l => { l with now := l.verified, next := none })
    else match l.next with
      | some d => s2.updLp t w (fun l => { l with now := d, next := none })
      | none => s2

/-- A well switches to the mode granted at its loop-period opening, which begins a loop period at the new rate (R129, R134). -/
def State.switchMode (s : State) (t w : Nat) : State :=
  let l := s.lp t w
  if l.modePend && l.begins then
    let s1 := (s.takeMode t w).updLp t w (fun l => { l with par := l.period })
    s1.wr (WL_LOOP_STAT t w) WL_LOOP_STAT.RATE (if halfRate (s1.lp t w).mode then 2 else 1)
  else s

/-- The first opening in voltage mode: loop periods are counted from it (R105, R146). -/
def State.firstOpening (s : State) (t w : Nat) : State :=
  if (s.lp t w).opened then s else s.updLp t w (fun l => { l with opened := true, par := l.period })

/-- A well leaves its loop at this opening: a HYST, a test step, or the fallback, which keeps the set-point where it stands, a tied
partner at its lead's (R130, R148, R216, R232). -/
def State.leaveLoop (s : State) (t w : Nat) : State :=
  if s.fallback t && s.looped t w then
    let x := if s.tied t w ∧ s.rd (WL_TIE t w) WL_TIE.ROLE = 2 then (s.mo t (s.rd (WL_TIE t w) WL_TIE.PARTNER)).x else (s.mo t w).x
    let park := s.stage t w = stPark
    let s1 := (s.updMo t w (fun m => { m with xFall := if park then none else some x })).toHyst t w
    if park then s1.setStage t w stPark else s1
  else if (s.mo t w).hystReq && (s.stage t w == stVolt) then s.toHyst t w
  else s

/-- The centre voltage of a loop period (R240). -/
def State.openCentre (s : State) (t w : Nat) : State :=
  if (s.lp t w).begins || !s.looped t w then s.wr (AD_WIN t w) AD_WIN.VC ((half (s.mo t w).x).toNat % 4096) else s

/-- PERIOD_OPENING of a wet well (R82). -/
def State.periodOpening (s : State) (t w : Nat) : State :=
  if s.wellOk t w && s.wet t w && (decide (w = 14) || (s.rd (PH_PWR t) PH_PWR.STATE == 0)) then
    let s1 := (s.leaveLoop t w).openSlots t w
    let s2 := if s1.looped t w then (((s1.firstOpening t w).openDuty t w).switchMode t w).applyDuty t w else s1
    s2.openCentre t w
  else s

def execPeriodOpening (t w : Nat) (s : State) : Host.Outcome State Fault Refusal := done (s.periodOpening t w)

/-! ### Samples (R105, R124, R145, R240, R242) -/

/-- X of a closed period from its eight codes (R239, R240). -/
def State.sampleX (s : State) (t w : Nat) (codes : List Int) : Int :=
  let sum := (codes.take 8).foldl (· + ·) 0
  let vc : Int := (8 * s.rd (AD_WIN t w) AD_WIN.VC : Nat)
  clampI (-1024) 1023 (sum - s.rdi (AD_WIN t w) AD_WIN.OFFSET + (vc - sixteenth (s.mo t w).x))

/-- The test of R124 on a per-period value: a breach at the second value of an excursion; none above x while priming or parking (R145). -/
def State.breachTest (s : State) (t w : Nat) (x : Int) : State :=
  let win : Int := (8 * s.rd (WL_WIN t w) WL_WIN.WIN : Nat)
  let moving := s.stage t w == stPriming || s.stage t w == stPark
  let out := decide (x < -win) || (decide (win < x) && !moving)
  let n := if out then (s.lp t w).beyond + 1 else 0
  let s1 := s.updLp t w (fun l => { l with beyond := min n 3 })
  if n = 2 then
    let s2 := (s1.wr (WL_HOLD t w) WL_HOLD.BREACH 1).raisePh { src := 10, tile := t, well := w }
    if w < 14 then s2.breachWell t w bkWindow else s2
  else s1

/-- PEAK_DEV follows a deviation in 1/16 mV (WL_HOLD). -/
def State.peakDev (s : State) (t w : Nat) (dev : Int) : State :=
  let p := min 0xFFFF (roundDiv (-dev) 8).toNat
  if s.rd (WL_HOLD t w) WL_HOLD.PEAK_DEV < p then s.wr (WL_HOLD t w) WL_HOLD.PEAK_DEV p else s

/-- A sample of a loop period is queued to the engine. -/
def State.pushSample (s : State) (t w : Nat) (x : Int) : State :=
  s.updLp t w (fun l => { l with half := none, queue := l.queue ++ [{ x := x, closed := s.clk.ns }] })

/-- A value is queued to the engine, at half rate the mean of the two of its loop period; a well with an open sense adds its correction
(R105, R229). The close of a period comes before the opening of the next (log entry 70). -/
def State.queueSample (s : State) (t w : Nat) (x : Int) : State :=
  let l := s.lp t w
  let y := x + (s.sh t w).correct
  if halfRate l.mode = false then s.pushSample t w y
  else if l.begins then s.updLp t w (fun l => { l with half := some y })
  else match l.half with
    | some h => s.pushSample t w (roundDiv (h + y) 2)
    | none => s

/-- INNER_SAMPLE_CLOSE: the decimator forms X of the switching period that closes (R240). -/
def State.innerSampleClose (s : State) (t w : Nat) (codes : List Int) : State :=
  if s.wellOk t w && s.flag (AD_WIN t w) AD_WIN.RUN then
    let x := s.sampleX t w codes
    let s1 := s.wri (AD_WIN t w) AD_WIN.LAST_X x
    let s2 := if codes.any (fun c => decide (c ≤ -128) || decide (127 ≤ c)) then s1.wr (AD_WIN t w) AD_WIN.CLIP 1 else s1
    let v := sixteenth (s.mo t w).x + x
    let band : Int := if (s.mo t w).safePrime then 320 else (8 * s.hb t w : Nat)
    let s3 := s2.updLp t w (fun l => { l with
      sumX := l.sumX + v
      numX := l.numX + 1
      inBand := l.inBand && decide (-band ≤ x) && decide (x ≤ band) })
    if s.wet t w then
      let s4 := (s3.breachTest t w x).peakDev t w x
      let s5 := if (s.well t w).tel.volt ∧ s.stage t w = stVolt then
          s4.setWell t w { s4.well t w with tel := { (s4.well t w).tel with impSum := (s4.well t w).tel.impSum + v, impN := (s4.well t w).tel.impN + 1 } }
        else s4
      if s.looped t w && (s.lp t w).opened then s5.queueSample t w x else s5
    else s3
  else s

def execInnerSampleClose (t w : Nat) (codes : List Int) (s : State) : Host.Outcome State Fault Refusal := done (s.innerSampleClose t w codes)

/-! ### Evaluations and verdicts (R112-R117, R125-R129) -/

/-- i_ff: the player's current, or I_w where none plays; a tied lead takes both wells' (R117, R212). -/
def State.iFFOf (s : State) (t w : Nat) : Int :=
  let one := fun v => if s.served t v then (s.lp t v).iFF else (s.lp t v).iW
  if 1 < (s.groupWells t w).length ∧ s.rd (WL_TIE t w) WL_TIE.ROLE ≠ 2 then (s.groupWells t w).foldl (fun a v => a + one v) 0 else one w

/-- The inputs of an evaluation in the gain set of its rate (R112, R115). -/
def State.evalIn (s : State) (t w : Nat) : EvalIn :=
  let l := s.lp t w
  let k := if halfRate l.mode then 3 else 0
  let hi := fun i => s.rd (WL_GAIN t w (k + i)) WL_GAIN.HI
  let lo := fun i => s.rd (WL_GAIN t w (k + i)) WL_GAIN.LO
  { kp := hi 0, ki := lo 0, kd := hi 1, ad := lo 1, kaw := hi 2, kff := lo 2
    exp := s.reg (WL_EXP t w), l0 := s.reg (WL_LOOP0 t w), l1 := s.reg (WL_LOOP1 t w)
    vIn := l.vIn, bus := l.bus, iFF := s.iFFOf t w
    dmin := s.rd (WL_OUTER t w) WL_OUTER.DMIN
    dmax := min (s.rd (WL_OUTER t w) WL_OUTER.DMAX) (min 0x7FFF (s.dutyBound t w))
    forced := s.leadDuty t w, entry := l.entry }

/-- A result is committed: WL_LOOP0, WL_LOOP1, SEQ and SAT in one cycle, and the duty for the next loop-period opening; a late one
counts an overrun if none was counted for it, and keeps its state with the repeated duty fed back (R106). -/
def State.commit (s : State) (t w : Nat) : State :=
  let l := s.lp t w
  let late := decide (2 ≤ l.heldAge)
  let r : EvalOut := ⟨l.heldDuty, l.res0, l.res1, l.resSat⟩
  let r1 := if late then r.late l.now else r
  let q := s.rd (WL_LOOP_STAT t w) WL_LOOP_STAT.SEQ
  let s1 := ((s.setReg (WL_LOOP0 t w) r1.l0).setReg (WL_LOOP1 t w) r1.l1).wr (WL_LOOP_STAT t w) WL_LOOP_STAT.SEQ ((q + 1) % 65536)
  let s2 := s1.wr (WL_LOOP_STAT t w) WL_LOOP_STAT.SAT (s1.rd (WL_LOOP_STAT t w) WL_LOOP_STAT.SAT ||| r1.sat)
  let s3 := if late && !l.counted then s2.overrun t w else s2
  s3.updLp t w (fun x => { x with next := if late then x.next else some l.heldDuty, counted := late })

/-- INNER_EVALUATION: the oldest sample of the engine is evaluated, no retry being queued (R104); in a residue-checked mode its duty is
committed before its verdict, in LOCKSTEP the commit waits for the comparison (R112, R126). Then outer evaluations whose turn has come
issue. Samples queued while the well's engine is FAILED stay queued and are evaluated after the switch: DESIGN CHOICE, the spec does not
say whether they are dropped (log entry 71). -/
def State.innerEvaluation (s : State) (t w : Nat) : State :=
  let l := s.lp t w
  match l.queue with
  | x :: rest =>
    if s.wellOk t w && s.looped t w && s.laneOk t w && !s.retryAhead t w && s.oldestFirst t w && l.heldX.isNone then
      let a := s.evalIn t w
      let r := evalPid x.x a
      let s1 := (s.updLp t w (fun l => { l with
        queue := rest
        entry := none
        heldX := some x.x
        heldAge := x.age
        counted := decide (2 ≤ x.age)
        held0 := a.l0
        held1 := a.l1
        heldDuty := r.duty
        res0 := r.l0
        res1 := r.l1
        resSat := r.sat
        failA := false
        failB := false })).wri (WL_LOOP_STAT t w) WL_LOOP_STAT.I_FF a.iFF
      (if l.mode = emLockstep then s1 else s1.commit t w).issueOuters t
    else s
  | [] => s

def execInnerEvaluation (t w : Nat) (s : State) : Host.Outcome State Fault Refusal := done (s.innerEvaluation t w)

/-- The evaluation is verified: its duty becomes the last verified one. -/
def State.verify (s : State) (t w : Nat) : State := s.updLp t w (fun l => { l with verified := l.heldDuty, heldX := none, retry := false })

/-- A lasting fault of an evaluation: attributed to the engine that ran it, in LOCKSTEP to the one engine whose residue failed on
either attempt (R129). CAUSE reads 1 where a residue and the stage compare both failed: DESIGN CHOICE, the spec does not say which is shown
(log entry 72). -/
def State.lastingFault (s : State) (t w : Nat) (fa fb same : Bool) : State :=
  if (s.lp t w).mode = emLockstep then
    let cause := if fa || fb || same then 1 else 2
    if fa && !fb then s.engineFail t 0 w cause else if fb && !fa then s.engineFail t 1 w cause else s.engineUnknown t w cause
  else s.engineFail t (s.engineOf t w) w 1

/-- A lasting fault of an inner evaluation. -/
def State.lastingEval (s : State) (t w : Nat) (fa fb same : Bool) : State :=
  (s.updLp t w (fun l => { l with heldX := none, retry := false })).lastingFault t w fa fb same

/-- A lasting fault of an outer evaluation. -/
def State.lastingOuter (s : State) (t w : Nat) (fa fb same : Bool) : State :=
  (s.updLp t w (fun l => { l with outer := none, outRetry := false })).lastingFault t w fa fb same

/-- All checks of an evaluation passed: the engine's residue, in LOCKSTEP both engines' and the stage compare (R125, R126). -/
def State.checksPass (s : State) (t w : Nat) (okA okB same : Bool) : Bool :=
  if (s.lp t w).mode = emLockstep then okA && okB && same else if s.engineOf t w = 0 then okA else okB

/-- A mismatch with a residue failure on one engine is lasting at once (R133). -/
def State.lastingNow (s : State) (t w : Nat) (okA okB same : Bool) : Bool := ((s.lp t w).mode == emLockstep) && !same && (okA != okB)

/-- The verdict on an inner evaluation (R126, R127, R133). -/
def State.innerVerdict (s : State) (t w : Nat) (okA okB same : Bool) : State :=
  let l := s.lp t w
  if s.checksPass t w okA okB same then (if l.mode = emLockstep then s.commit t w else s).verify t w
  else if s.lastingNow t w okA okB same then s.lastingEval t w (!okA) (!okB) same
  else if l.mode = emLockstep then s.updLp t w (fun l => { l with retry := true, failA := !okA, failB := !okB })
  else
    let s1 := (s.setReg (WL_LOOP0 t w) l.held0).setReg (WL_LOOP1 t w) l.held1
    let late := decide (2 ≤ l.heldAge)
    s1.updLp t w (fun x => { x with retry := true, next := if late then x.next else none, bad := late && !l.counted })

/-- The verdict on an outer evaluation (R116, R125-R127). -/
def State.outerVerdict (s : State) (t w : Nat) (r : OuterRes) (okA okB same : Bool) : State :=
  if s.checksPass t w okA okB same then
    (if (s.lp t w).mode = emLockstep then s.outerCommit t w r else s).updLp t w (fun l => { l with outer := none })
  else if s.lastingNow t w okA okB same then s.lastingOuter t w (!okA) (!okB) same
  else s.updLp t w (fun l => { l with outRetry := true, outFailA := !okA, outFailB := !okB })

/-- RESIDUE_VERDICT: a residue verdict, or a comparison in LOCKSTEP, on the evaluation whose verdict is out, the inner one first
(R125-R127, R133). -/
def State.residueVerdict (s : State) (t w : Nat) (okA okB same : Bool) : State :=
  let l := s.lp t w
  if l.heldX.isSome && !l.retry then (s.innerVerdict t w okA okB same).issueOuters t
  else match l.outer with
    | some r => if l.outRetry then s else s.outerVerdict t w r okA okB same
    | none => s

def execResidueVerdict (t w : Nat) (okA okB same : Bool) (s : State) : Host.Outcome State Fault Refusal := done (s.residueVerdict t w okA okB same)

/-- A transient fault is counted (R127). -/
def State.transient (s : State) (t w : Nat) : State := (s.bump (PH_ENG_STAT t)).wr (PH_ENG_STAT t) PH_ENG_STAT.LAST_WELL w

/-- EVALUATION_RETRY: the held inputs evaluated again: a pass is transient, a failure lasting (R127). -/
def State.evaluationRetry (s : State) (t w : Nat) (okA okB same : Bool) : State :=
  let l := s.lp t w
  let ok := s.checksPass t w okA okB same
  if l.retry && l.heldX.isSome then
    (if ok then ((s.transient t w).commit t w).verify t w else s.lastingEval t w (l.failA || !okA) (l.failB || !okB) same).issueOuters t
  else match l.outer with
    | some r =>
      if l.outRetry = false then s
      else if ok then (((s.transient t w).outerCommit t w r).updLp t w (fun l => { l with outer := none, outRetry := false })).issueOuters t
      else s.lastingOuter t w (l.outFailA || !okA) (l.outFailB || !okB) same
    | none => s

def execEvaluationRetry (t w : Nat) (okA okB same : Bool) (s : State) : Host.Outcome State Fault Refusal := done (s.evaluationRetry t w okA okB same)

/-! ### Hold and over-voltage comparators (R120-R123) -/

/-- The comparators act while the well's converter input is in use: the well is not DRY, or it is the keeper. -/
def State.compares (s : State) (t w : Nat) : Bool := s.wellOk t w && (decide (w = 14) || s.stage t w != stDry)

def State.holdTh (s : State) (t w : Nat) : Int := (8 * s.rd (WL_WIN t w) WL_WIN.HOLD_TH : Nat)
def State.holdHys (s : State) (t w : Nat) : Int := (8 * s.rd (WL_WIN t w) WL_WIN.HOLD_HYS : Nat)
def State.ovTh (s : State) (t w : Nat) : Int := (8 * s.rd (WL_WIN t w) WL_WIN.OV_TH : Nat)

/-- HOLD_ASSERT: the deviation `dev`, 1/16 mV, lies more than HOLD_TH below the set-point; no earlier than 40 ns after a release (R120). -/
def State.holdAssert (s : State) (t w : Nat) (dev : Int) : State :=
  let l := s.lp t w
  if s.compares t w && decide (dev < -(s.holdTh t w)) && !s.flag (WL_HOLD t w) WL_HOLD.HOLD &&
      !(l.relAt.any (fun r => decide (s.clk.ns < r + 40))) then
    let s1 := (((s.wr (WL_HOLD t w) WL_HOLD.HOLD 1).bump (WL_HOLD t w)).peakDev t w dev)
    if w < 14 then s1.breachWell t w bkHold else s1
  else s

def execHoldAssert (t w : Nat) (dev : Int) (s : State) : Host.Outcome State Fault Refusal := done (s.holdAssert t w dev)

/-- The hold wires are released (R120). -/
def State.holdOff (s : State) (t w : Nat) : State :=
  (s.wr (WL_HOLD t w) WL_HOLD.HOLD 0).updLp t w (fun l => { l with relAt := some s.clk.ns })

/-- HOLD_RELEASE: the deviation has recovered to HOLD_TH - HOLD_HYS (R120). -/
def State.holdRelease (s : State) (t w : Nat) (dev : Int) : State :=
  if s.flag (WL_HOLD t w) WL_HOLD.HOLD && decide (-(s.holdTh t w - s.holdHys t w) ≤ dev) then s.holdOff t w else s

def execHoldRelease (t w : Nat) (dev : Int) (s : State) : Host.Outcome State Fault Refusal := done (s.holdRelease t w dev)

/-- HOLD_TIMEOUT: HOLD_NS after the assertion (R120). -/
def State.holdTimeout (s : State) (t w : Nat) : State :=
  if s.flag (WL_HOLD t w) WL_HOLD.HOLD then s.holdOff t w else s

def execHoldTimeout (t w : Nat) (s : State) : Host.Outcome State Fault Refusal := done (s.holdTimeout t w)

/-- OV_SUPPRESS: more than OV_TH above the set-point: no new rising edge (R123). -/
def State.ovSuppress (s : State) (t w : Nat) (dev : Int) : State :=
  if s.compares t w && decide (s.ovTh t w < dev) then s.wr (WL_HOLD t w) WL_HOLD.OV 1 else s

def execOvSuppress (t w : Nat) (dev : Int) (s : State) : Host.Outcome State Fault Refusal := done (s.ovSuppress t w dev)

/-- OV_SUPPRESS_END: below OV_TH - HOLD_HYS (R123). -/
def State.ovSuppressEnd (s : State) (t w : Nat) (dev : Int) : State :=
  if s.flag (WL_HOLD t w) WL_HOLD.OV && decide (dev < s.ovTh t w - s.holdHys t w) then s.wr (WL_HOLD t w) WL_HOLD.OV 0 else s

def execOvSuppressEnd (t w : Nat) (dev : Int) (s : State) : Host.Outcome State Fault Refusal := done (s.ovSuppressEnd t w dev)

end Sys2Proof.Machine
end

