-- ==== Sys2Proof/Machine/Telemetry.lean ====
section
/-! DEFINITION. Telemetry windows: the Pumphouse's figures at the close of a window and what else happens at its boundary (R226, R243, R248, R253-R257). -/

namespace Sys2Proof.Machine

open Sys2Proof

/-- The number of the window that closed last: window n spans wafer beats 4096 n to 4096 n + 4095 (R253). -/
def State.closedWin (s : State) : Nat := s.clk.beat / 4096 - 1

/-- The well's figures: WL_TELE0 and WL_TELE1 (R254, R257). P in 1/16 W from 1/16 mV x 1/64 A, V in 0.5 mV from 1/16 mV. -/
def State.wellFigures (s : State) (t w win : Nat) : State :=
  let x := (s.well t w).tel
  let p := clampI 0 0xFFFFFF (roundDiv x.sumVI (64000 * x.n))
  let t0 := WL_TELE0.I_MEAN.seti (WL_TELE0.I_PEAK.seti (WL_TELE0.I_MIN.seti (BitVec.ofNat 64 (win % 65536)) (x.minI.getD 0))
    (x.maxI.getD 0)) (roundDiv x.sumI x.n)
  let t1 := WL_TELE1.P_MEAN.set (WL_TELE1.V_MEAN.set (WL_TELE1.WET.set (BitVec.ofNat 64 (win % 65536)) x.wet)
    (min 0xFFF (roundDiv x.sumV (8 * x.wet)).toNat)) p.toNat
  (s.setReg (WL_TELE0 t w) t0).setReg (WL_TELE1 t w) t1

/-- Declared dynamic power of the well in 1/65536 of 1/16 W, before EFF_NOM: 1/64 A x 0.5 mV (R280). A well for which no beat was
declared counts its mean current. -/
def State.declared (s : State) (t w : Nat) (full : Bool) : Int :=
  let x := (s.well t w).tel
  let n := if full then x.fN else x.dN
  let sum := if full then x.fSum else x.dSum
  if n = 0 then roundDiv (x.sumI * (s.rd (WL_SETPT t w) WL_SETPT.V_SET : Nat) * 65536) (8000 * x.n)
  else roundDiv (sum * 65536) (8000 * n)

/-- The cross-check of R248: the mean absolute remote sense against the mean the window converter implies, within 4 mV. -/
def State.crossCheck (s : State) (t w : Nat) : State :=
  let x := (s.well t w).tel
  let d : Int := (4 * x.vsSum : Nat) * (x.impN : Int) - x.impSum * (x.vsN : Int)
  if x.volt ∧ s.wet t w ∧ 0 < x.wet ∧ 0 < x.vsN ∧ 0 < x.impN ∧ 64 * x.vsN * x.impN < d.natAbs then
    (s.wr (AD_WIN t w) AD_WIN.XFAULT 1).raisePh { src := 23, tile := t, well := w }
  else s

/-- The well's sums start afresh (R254). -/
def Tele.restart (x : Tele) (volt : Bool) : Tele :=
  { x with
    n := 0, wet := 0, sumI := 0, maxI := none, minI := none
    sumVI := 0, sumV := 0, dN := 0, dSum := 0, fN := 0, fSum := 0
    inSum := 0, volt := volt, vsSum := 0, vsN := 0, impSum := 0, impN := 0 }

/-- A well's window boundary: cross-check, R_RL, waiting rises, the overload's rest and the tie's quiet window (R32, R208, R219, R226,
R248). -/
def State.wellBoundary (s : State) (t w : Nat) : State :=
  let s1 := ((s.crossCheck t w).on (decide (w < 14)) (·.adopt t w)).riseNow t w
  let h := s1.sh t w
  let s2 := s1.updSh t w (fun h => { h with
    ovlRest := h.ovlRest && !h.windowClean
    windowClean := true
    thWhole := h.thBeat.any (fun b => decide (b ≤ 4096 * s.closedWin))
    quietWin := h.winQuiet
    winQuiet := true })
  let s3 := if h.ovlRest && h.windowClean then s2.setProtRest t w 0 else s2
  s3.updTel t w (fun x => x.restart (s3.stage t w == stVolt))

/-- The tile's input power over the window in 1/16 W: 1/64 A x mV summed over each well's periods (R29). -/
def State.inputPower (s : State) (t : Nat) : Nat :=
  let sum := (List.range 15).foldl (fun (a : Int) w => a + roundDiv ((s.well t w).tel.inSum * 65536) (s.well t w).tel.n) 0
  (clampI 0 0xFFFFFF (roundDiv sum (4000 * 65536))).toNat

/-- PH_TILE_CAP, PH_TELE and PH_BUS.BUS_MIN of the window (R29, R247, R254). -/
def State.tileFigures (s : State) (t win : Nat) : State :=
  let low := (s.tile t).tt.busMin.getD (s.rd (PH_BUS t) PH_BUS.BUS_MIN)
  let cap := (clampI 0 0xFFFFFF (roundDiv (TopoTile.INLIM.geti (s.tileWord t) * (low : Int)) 4000)).toNat
  let pIn := s.inputPower t
  let pOut := min 0xFFFFFF ((List.range 15).foldl (fun a w => a + s.rd (WL_TELE1 t w) WL_TELE1.P_MEAN) 0)
  let eff := min 255 (roundDiv ((pOut * 256 : Nat) : Int) pIn).toNat
  let s1 := ((s.wr (PH_BUS t) PH_BUS.BUS_MIN low).wr (PH_TILE_CAP t) PH_TILE_CAP.INPUT_CAP cap).wr (PH_TILE_CAP t) PH_TILE_CAP.INPUT_MEAS pIn
  s1.setReg (PH_TELE t) (PH_TELE.P_OUT.set (PH_TELE.EFF.set (BitVec.ofNat 64 (win % 65536)) eff) pOut)

/-- CAPABILITY breaches of a well in two successive windows: the work of the logical wells charged is to be spread (R291). -/
def State.spreadMark (s : State) (t : Nat) : State :=
  let mine := fun (g : Nat) => g / 256 == t
  let now := s.plan.breached.filter mine
  let two := now.filter (fun g => (s.plan.breachedB.map (· / 16)).contains (g / 16))
  let s1 : State := { s with plan := { s.plan with
    breached := s.plan.breached.filter (fun g => !mine g)
    breachedB := s.plan.breachedB.filter (fun g => !mine g) ++ now
    spread := s.plan.spread.filter (fun g => !two.contains g) ++ two } }
  s1.each two (fun u g => u.wr (PL_WELL (g / 16)) PL_WELL.SOURCE 5)

/-- Clusters lowered from RETIRE become SPARE (R292). -/
def State.unretire (s : State) (t : Nat) : State :=
  let mine := fun (g : Nat) => g / 96 == t
  let l := s.plan.unretired.filter mine
  let s1 : State := { s with plan := { s.plan with unretired := s.plan.unretired.filter (fun g => !mine g) } }
  if l = [] then s1 else (s1.each l (fun u g => if u.mapState t (g % 96) = 3 then u.setMapState t (g % 96) 1 else u)).minSpares

/-- What the tile reports to the aggregator (R256, R280). -/
def State.formReport (s : State) (t win : Nat) (act full : Int) : State :=
  s.updTile t (fun x => { x with tt := { x.tt with
    busMin := none
    report := some ⟨win, s.rd (PH_TILE_CAP t) PH_TILE_CAP.INPUT_MEAS, s.rd (PH_TELE t) PH_TELE.P_OUT, (s.reg (PH_E_IN t)).toNat,
      (s.reg (PH_E_OUT t)).toNat, act, full⟩ } })

/-- TELEMETRY_WINDOW_CLOSE: at a 4,096-beat boundary the Pumphouse forms its figures, calibrates and cross-checks; self-tests of engines
that have not failed are due (R128, R243, R248, R254). -/
def State.telemetryWindowClose (s : State) (t : Nat) : State :=
  if s.tileOk t then
    let win := s.closedWin
    let ws := (List.range 15).filter (fun w => s.wellOk t w)
    let sum := fun full => ((List.range 14).filter (fun w => s.wellOk t w)).foldl (fun (a : Int) w => a + s.declared t w full) 0
    let s1 := (s.each ws (fun u w => u.wellFigures t w win)).tileFigures t win
    let s2 := s1.formReport t win (sum false) (sum true)
    let s3 := s2.each ws (fun u w => u.wellBoundary t w)
    let s4 := ((s3.newTrims t).calibrate t).updEn t (fun e => { e with dueA := e.dueA || !s.failed t 0, dueB := e.dueB || !s.failed t 1 })
    (s4.spreadMark t).unretire t
  else s

def execTelemetryWindowClose (t : Nat) (s : State) : Host.Outcome State Fault Refusal := done (s.telemetryWindowClose t)

/-- TILE_TELEMETRY_REPORT: the figures reach the aggregator (R256). -/
def State.tileTelemetryReport (s : State) (t : Nat) : State :=
  if s.tileOk t ∧ (s.tile t).tt.report.isSome then
    s.updTile t (fun x => { x with tt := { x.tt with taken := x.tt.report, report := none } })
  else s

def execTileTelemetryReport (t : Nat) (s : State) : Host.Outcome State Fault Refusal := done (s.tileTelemetryReport t)

end Sys2Proof.Machine
end

