-- ==== Sys2Proof/Machine/Relocation.lean ====
section
/-! DEFINITION. The Region Capability Map and relocation: classes, planning, orders and the remap unit's answers (R289-R298). -/

namespace Sys2Proof.Machine

open Sys2Proof

/-! ### Classes (R290-R292) -/

def State.wellClass (s : State) (t w : Nat) : Nat := s.rd (PL_WELL (16 * t + w)) PL_WELL.CLASS
def State.clusterClass (s : State) (t k : Nat) : Nat := s.rd (PL_MAP (96 * t + k)) PL_MAP.CLASS

/-- A well's class is raised by a source; it never falls by itself. In DERATE the lower limit stands (R291). -/
def State.raiseWell (s : State) (t w cls source : Nat) (lim : Int) : State :=
  let a := PL_WELL (16 * t + w)
  let old := s.rd a PL_WELL.CLASS
  let s1 := if old < cls then (s.wr a PL_WELL.CLASS cls).wr a PL_WELL.SOURCE source else s
  if cls = 2 ∧ old ≤ 2 then
    let cur := s.rdi a PL_WELL.DERATE_LIM
    s1.wri a PL_WELL.DERATE_LIM (if old = 2 ∧ cur ≠ 0 then min cur lim else lim)
  else s1

/-- REG_LIM_FB of a well, 1/64 A. -/
def State.regFb (s : State) (t w : Nat) : Int := (64 * s.rd (WL_FRULE0 t w) WL_FRULE0.REG_LIM_FB : Nat)

/-- Region over-current events of a well within the last WATCH_WIN windows (R291). -/
def State.regEvents (s : State) (g : Nat) : Nat :=
  let win := s.rd PL_CFG PL_CFG.WATCH_WIN
  (s.plan.events.filter (fun e => e.1 == g && decide (s.clk.beat / 4096 < e.2 + max 1 win))).length

/-- PL_WELL.EVENTS of every well with events, and events that have left the span. -/
def State.ageEvents (s : State) : State :=
  let win := s.rd PL_CFG PL_CFG.WATCH_WIN
  let gs := (s.plan.events.map (·.1)).eraseDups
  let s1 := s.each gs (fun u g => u.wr (PL_WELL g) PL_WELL.EVENTS (min 0xFF (s.regEvents g)))
  { s1 with plan := { s1.plan with events := s1.plan.events.filter (fun e => decide (s.clk.beat / 4096 < e.2 + max 1 win)) } }

/-- A region over-current: WATCH, or DERATE at the WATCH_N-th event within WATCH_WIN windows (R291). -/
def State.regClass (s : State) (t w : Nat) : State :=
  let g := 16 * t + w
  let s1 : State := { s with plan := { s.plan with events := (g, s.clk.beat / 4096) :: s.plan.events } }
  let n := s1.regEvents g
  let s2 := s1.wr (PL_WELL g) PL_WELL.EVENTS (min 0xFF n)
  if s.rd PL_CFG PL_CFG.WATCH_N ≤ n then s2.raiseWell t w 2 2 (s.regFb t w) else s2.raiseWell t w 1 2 0

/-- The classes a capability event sets (R291); a well that becomes EVACUATE with no working cluster is reported at once (R297). -/
def State.eventClass (s : State) (t w : Nat) (reg : Bool) : State :=
  let s1 := if s.flag (WL_CHK t w) WL_CHK.CRACK then s.raiseWell t w 2 1 (min (s.rdi PL_CFG PL_CFG.DERATE_CRACK) (s.regFb t w)) else s
  let s2 := if reg then s1.regClass t w else s1
  if s.flag (WL_CHK t w) WL_CHK.SENSE_OPEN then (s2.raiseWell t w 3 3 0).on (s.wellClass t w != 3) (·.evacuated t w) else s2

/-- Thermal rest in force for the whole closed window: the clusters above the die sensors at LIM_A become WATCH (R291). -/
def State.thermClass (s : State) (t w : Nat) : State :=
  if (s.sh t w).thWhole then
    let hot := (dieOf w).filter (fun ch => decide (s.limA t ch ≤ s.temp t ch) && s.reads t ch)
    let s1 := s.each (hot.flatMap (fun ch => [4 * ch, 4 * ch + 1, 4 * ch + 2, 4 * ch + 3])) (fun u k =>
      if u.clusterClass t k = 0 then u.wr (PL_MAP (96 * t + k)) PL_MAP.CLASS 1 else u)
    if hot = [] then s1 else s1.wr (PL_WELL (16 * t + w)) PL_WELL.SOURCE 4
  else s

/-! ### What has to move (R293) -/

/-- A logical well's forecast for the coming segment, 1/64 A (R188). -/
def State.logicalForecast (s : State) (t l : Nat) : Int :=
  if (s.stream t l).live then (8 * envImax (s.entry t (s.stream t l).a.seg) : Nat) else 0

/-- What physical cluster k draws from physical well w, in 1/48 of 1/64 A: an eighth of its core logical well's forecast, a 48th of its
SRAM logical well's (R22, R293). -/
def State.clusterShare (s : State) (t w k : Nat) : Int :=
  match s.logicalAt t k with
  | some lk => if w < 12 then 6 * s.logicalForecast t (coreWell lk) else s.logicalForecast t (sramWell lk)
  | none => 0

/-- A cluster that an outstanding order moves. -/
def State.ordered (s : State) (t k : Nat) : Bool := s.plan.orders.any (fun o => o.tile == t && o.src == k)

/-- The working clusters of a physical well. -/
def State.working (s : State) (t w : Nat) : List Nat := (fedClusters w).filter (fun k => s.mapState t k == 0)

/-- The highest-numbered clusters that bring F within CONT. -/
def State.deficitMoves (s : State) (t w : Nat) : Int → List Nat → List Nat
  | _, [] => []
  | room, k :: l => if room ≤ 0 then [] else k :: s.deficitMoves t w (room - s.clusterShare t w k) l

/-- A cluster carries part of a logical well (R190). -/
def State.carriesOf (s : State) (t k l : Nat) : Bool := (s.logicalAt t k).any (fun lk => (logicalWells lk).contains l)

/-- An order for a coming gate moves a cluster of the logical well off the physical well already (R293). -/
def State.spreading (s : State) (t w l : Nat) : Bool :=
  s.plan.orders.any (fun o => o.tile == t && o.status != 2 && (fedClusters w).contains o.src && (logicalWells o.logical).contains l)

/-- The clusters that spreading moves off a physical well: one of each logical well to spread, per gate (R293). -/
def State.spreadMoves (s : State) (t w : Nat) : List Nat :=
  ((s.plan.spread.filter (fun g => g / 16 == 16 * t + w)).map (· % 16)).flatMap (fun l =>
    if s.spreading t w l then [] else ((s.working t w).filter (fun k => s.carriesOf t k l && !s.ordered t k)).take 1)

/-- The clusters of a physical well that are to move, ascending, less those an order already moves (R293). -/
def State.toMove (s : State) (t w : Nat) : List Nat :=
  let l := s.working t w
  let bad := l.filter (fun k => s.clusterClass t k == 4 || s.clusterClass t k == 1)
  let def_ := if s.flag (WL_TIE t w) WL_TIE.DEFICIT then s.deficitMoves t w (48 * ((s.sh t w).fcast - s.cont t w)) l.reverse else []
  let spread := s.spreadMoves t w
  l.filter (fun k => !s.ordered t k && (s.wellClass t w == 3 || bad.contains k || def_.contains k || spread.contains k))

/-! ### Where it goes (R294) -/

/-- Room of a physical well after the moves planned at this decision, in 1/48 of 1/64 A. -/
def State.spareRoom (s : State) (t w : Nat) (planned : List (Nat × Int)) : Int :=
  48 * (s.cont t w - (s.sh t w).fcast) - (planned.filter (fun e => e.1 = w)).foldl (fun a e => a + e.2) 0

/-- A physical well that may feed one more working cluster: of class NONE, in voltage mode, not in deficit, guard or protective rest (R294). -/
def State.takesWork (s : State) (t w : Nat) : Bool :=
  (s.wellClass t w == 0) && (s.stage t w == stVolt) && !s.flag (WL_TIE t w) WL_TIE.DEFICIT && decide ((s.sh t w).guard = []) &&
    ((s.sh t w).pr.want == 0) && ((s.sh t w).pr.app == 0)

/-- A spare qualifies for a share (R294): each of the two wells that feed it counts, the room is its core well's (log entry 54). -/
def State.spareOk (s : State) (t k : Nat) (share : Int) (planned : List (Nat × Int)) : Bool :=
  (s.mapState t k == 1) && !s.plan.orders.any (fun o => o.tile == t && o.dst == k) && (s.clusterClass t k == 0) &&
    s.takesWork t (coreWell k) && s.takesWork t (sramWell k) && decide (share ≤ s.spareRoom t (coreWell k) planned)

/-- The cluster of an ascending list whose well has the largest room, the lowest number of equals. -/
def State.roomiest (s : State) (t : Nat) (planned : List (Nat × Int)) : List Nat → Option Nat
  | [] => none
  | k :: l => match s.roomiest t planned l with
    | none => some k
    | some b => if s.spareRoom t (coreWell k) planned < s.spareRoom t (coreWell b) planned then some b else some k

/-- The spare a cluster goes to: one in its own cistern before any other. -/
def State.pickSpare (s : State) (t k : Nat) (share : Int) (planned : List (Nat × Int)) : Option Nat :=
  let l := (List.range 96).filter (fun d => s.spareOk t d share planned)
  let near := l.filter (fun d => coreWell d / 4 == coreWell k / 4)
  s.roomiest t planned (if near = [] then l else near)

/-- The logical well's next gate as the bound slice holds it: the one P stands at, the next one after P, else the first one (R295). -/
def State.nextGate (s : State) (t l : Nat) : Option Nat :=
  let x := s.stream t l
  let holds := fun id => (s.ds t).gateHolders.contains (256 * l + id)
  match x.p.gate with
  | some g => some g
  | none =>
    match ((s.ds t).entries.filter (fun e => decide (x.p.pc ≤ e.1) && isGate e.2 && holds (ebits e.2 27 20))).head? with
    | some e => some (ebits e.2 27 20)
    | none => ((s.ds t).gateHolders.find? (fun g => g / 256 == l)).map (· % 256)

/-- The gate a logical cluster's move binds to, in a slice that plays or is BOUND: of its core logical well, else of its SRAM logical well; a
stream that plays comes first. -/
def State.orderGate (s : State) (t lk : Nat) : Option Nat :=
  let core := (s.stream t (coreWell lk)).live || !(s.stream t (sramWell lk)).live
  (if core then [coreWell lk, sramWell lk] else [sramWell lk, coreWell lk]).findSome? (s.nextGate t)

/-- An order is made and sent (R283, R295). -/
def State.makeOrder (s : State) (t k d lk g : Nat) : State :=
  let id := s.plan.nextId
  let slot := s.plan.nextSlot
  let o : Order := { id := id, tile := t, logical := lk, src := k, dst := d, gate := g, slot := slot }
  let x := PL_ORDER.ID.set (PL_ORDER.TILE.set (PL_ORDER.LOGICAL.set (PL_ORDER.FROM.set (PL_ORDER.TO.set (PL_ORDER.GATE.set 0 g) d) k) lk) t) id
  let s1 := ((s.setReg (PL_ORDER slot) x).wr (PL_MAP (96 * t + k)) PL_MAP.ORDER id).wr (PL_MAP (96 * t + d)) PL_MAP.ORDER id
  let s2 := (((s1.setOrders (s.plan.orders ++ [o])).bump PL_STAT).sendOrder (orderMsg 1 id t lk k d g)).govGate t d false
  { s2 with plan := { s2.plan with nextId := (id + 1) % 4096, nextSlot := (slot + 1) % 16 } }

/-- A cluster finds no spare: it stays (R294). -/
def State.noSpare (s : State) (t w k : Nat) : State :=
  (s.wr PL_STAT PL_STAT.SPARES_OUT 1).raiseW { src := 28, tile := t, well := w, sub := k }

/-- Orders of a tile for a gate that it has not bound yet: at most RELOC_MAX (R293). -/
def State.unbound (s : State) (t g : Nat) : Nat := (s.plan.orders.filter (fun o => o.tile == t && o.gate == g && o.status != 2)).length

/-- One cluster is planned; what it takes from its target's room is remembered. -/
def State.planCluster (s : State) (t w k : Nat) (planned : List (Nat × Int)) : State × List (Nat × Int) :=
  let share := s.clusterShare t (coreWell k) k
  match (s.logicalAt t k).bind (fun lk => (s.orderGate t lk).map (fun g => (lk, g))) with
  | none => (s, planned)
  | some (lk, g) =>
    if s.rd PL_CFG PL_CFG.RELOC_MAX ≤ s.unbound t g then (s, planned)
    else
      match s.pickSpare t k share planned with
      | some d => (s.makeOrder t k d lk g, planned ++ [(coreWell d, share)])
      | none => (s.noSpare t w k, planned)

def State.planWell (s : State) (t w : Nat) (planned : List (Nat × Int)) : State × List (Nat × Int) :=
  (s.toMove t w).foldl (fun a k => a.1.planCluster t w k a.2) (s, planned)

/-- RELOCATION_PLAN on one tile: the lower well first (R293, R294). A logical well to spread is done with once its order is out. -/
def State.planTile (s : State) (t : Nat) : State :=
  let r := (List.range 14).foldl (fun a w => a.1.planWell t w a.2) (s, [])
  let done_ := fun (g : Nat) => g / 256 == t && r.1.spreading t (g / 16 % 16) (g % 16)
  { r.1 with plan := { r.1.plan with spread := r.1.plan.spread.filter (fun g => !done_ g) } }

/-- RELOCATION_PLAN (R293, R298): none while HOLD is set. -/
def State.planAll (s : State) : State :=
  if s.flag PL_CTRL PL_CTRL.HOLD then s else s.each s.allTiles (fun u t => u.planTile t)

/-! ### Capability events (R33, R291, R293) -/

/-- The i-th event on its way reaches the Wellhead: classes, and a plan where it reports a deficit. -/
def State.takeEvent (s : State) (i : Nat) : State :=
  match s.capEvents[i]? with
  | none => s
  | some e =>
    let t := e % 4096 / 16
    let w := e % 16
    let s1 : State := { s with capEvents := s.capEvents.eraseIdx i }
    if w < 14 ∧ s.tileOk t then
      let s2 := s1.eventClass t w (decide (4096 ≤ e))
      if s.flag (WL_TIE t w) WL_TIE.DEFICIT then s2.planAll else s2
    else s1

/-- CAPABILITY_EVENT: held while the Wellhead is in SLEEP, where the placement engine decides nothing; it ends a NAP (R315, R317). -/
def State.capabilityEvent (s : State) (i : Nat) : State := if s.clk.fast = .sleep then s else s.restart.takeEvent i

def execCapabilityEvent (i : Nat) (s : State) : Host.Outcome State Fault Refusal := done (s.capabilityEvent i)

/-! ### The remap unit's answers (R295-R297) -/

/-- ACCEPT (R295). -/
def State.accept (s : State) (id : Nat) : State :=
  match s.orderOf id with
  | some o =>
    if o.status = 0 then
      (s.orderStatus o 1).setOrders (s.plan.orders.map (fun p => if p.id = id then { p with status := 1, acceptAt := s.clk.beat } else p))
    else s
  | none => s

def execAccept (id : Nat) (s : State) : Host.Outcome State Fault Refusal := done (s.accept id)

/-- The spare of an order that ends unused is gated again while the governor holds such clusters (R283). -/
def State.freeSpare (s : State) (o : Order) : State := if s.holdsIdle ∧ s.noWork o.tile o.dst then s.govGate o.tile o.dst true else s

/-- The order was accepted and is done: its PL_ORDER entry still shows it (R295). -/
def State.orderDone (s : State) (id : Nat) : Bool :=
  (List.range 16).any (fun i => s.rd (PL_ORDER i) PL_ORDER.ID == id && s.rd (PL_ORDER i) PL_ORDER.STATUS == 3)

/-- REFUSE before ACCEPT releases the spare; after it, and after DONE, it is ignored and counted (R295). -/
def State.refuse (s : State) (id : Nat) : State :=
  match s.orderOf id with
  | some o => if o.status = 0 then (s.dropOrder o 4).freeSpare o else s.wr PL_STAT PL_STAT.REFUSED 1
  | none => s.on (s.orderDone id) (·.wr PL_STAT PL_STAT.REFUSED 1)

def execRefuse (id : Nat) (s : State) : Host.Outcome State Fault Refusal := done (s.refuse id)

/-- ACCEPT_TIMEOUT: no answer counts as a REFUSE (R295). -/
def State.acceptTimeout (s : State) (id : Nat) : State :=
  match s.orderOf id with
  | some o => if o.status = 0 then (s.dropOrder o 4).freeSpare o else s
  | none => s

def execAcceptTimeout (id : Nat) (s : State) : Host.Outcome State Fault Refusal := done (s.acceptTimeout id)

/-- The place RELOC_TIMEOUT holds (R325). -/
def relocPlace (o : Order) : Raise := { src := 29, tile := o.tile, sub := o.boundGate }

/-- At DONE the votes of the FROM cluster clear, and WAKE_GRACE of the TO cluster starts, once its VP_GREQ has fallen (R305, R308). -/
def State.doneVotes (s : State) (o : Order) : State :=
  let s1 := s.voteChange o.tile o.src (fun v => v.setVotes o.tile o.src 0 0)
  if s1.wanted o.tile o.dst then s1
  else s1.updCl o.tile o.dst (fun c => { c with waking := true, graceBeat := if c.greq then none else some s.clk.beat })

/-- DONE of a bound order: TO becomes WORK, FROM RETIRED or SPARE (R296, R297). -/
def State.relocDone (s : State) (id : Nat) : State :=
  match s.orderOf id with
  | some o =>
    if o.status = 2 then
      let s1 := s.dropOrder o 3
      let s2 := (s1.setMapState o.tile o.dst 0).setMapState o.tile o.src (if s.clusterClass o.tile o.src = 4 then 3 else 1) |>.doneVotes o
      let s3 := if s2.orderHolds o.tile o.boundGate then s2 else s2.unhold (relocPlace o)
      ((s3.minSpares).evacuated o.tile (coreWell o.src)).evacuated o.tile (sramWell o.src)
    else s
  | none => s

def execRelocDone (id : Nat) (s : State) : Host.Outcome State Fault Refusal := done (s.relocDone id)

/-- RELOC_TIMEOUT: no DONE within RELOC_TMO of the completion (R296). -/
def State.relocTimeout (s : State) (id : Nat) : State :=
  match s.orderOf id with
  | some o => if o.status = 2 then (s.wr PL_STAT PL_STAT.RELOC_TMO 1).holdW (relocPlace o) else s
  | none => s

def execRelocTimeout (id : Nat) (s : State) : Host.Outcome State Fault Refusal := done (s.relocTimeout id)

/-! ### Host writes (R292, R298) -/

/-- RETIRE set on a cluster that carries nothing retires it at once; an order that names it as target is cancelled (R290, R300). -/
def State.retireCluster (s : State) (t k : Nat) : State :=
  let s1 := match s.plan.orders.find? (fun o => o.tile == t && o.dst == k) with
    | some o => s.cancelOrder o
    | none => s
  if s1.mapState t k = 1 then (s1.setMapState t k 3).minSpares else s1

/-- PL_SET of a cluster's class (R292). -/
def State.setCluster_ (s : State) (t k cls : Nat) : State :=
  let old := s.clusterClass t k
  let s1 := s.wr (PL_MAP (96 * t + k)) PL_MAP.CLASS cls
  let g := 96 * t + k
  if cls = 4 then { s1 with plan := { s1.plan with unretired := s1.plan.unretired.filter (· ≠ g) } }.retireCluster t k
  else if old = 4 ∧ s.mapState t k = 3 then { s1 with plan := { s1.plan with unretired := s1.plan.unretired.filter (· ≠ g) ++ [g] } }
  else s1

/-- PL_SET of a well's class (R292). -/
def State.setWell_ (s : State) (g cls lim : Nat) : State :=
  let a := PL_WELL g
  let s1 := ((s.wr a PL_WELL.CLASS cls).wr a PL_WELL.SOURCE (if cls = 0 then 0 else 6)).wr a PL_WELL.DERATE_LIM (if cls = 2 then lim else 0)
  s1.on (cls == 3 && s.rd a PL_WELL.CLASS != 3) (·.evacuated (g / 16) (g % 16))

/-- PL_SET is refused (R292). KIND 3 names neither a cluster nor a well, and classes above 4 are none of R290's. -/
def State.setRefused (s : State) (kind g cls : Nat) : Bool :=
  if kind = 1 then !(decide (g < 96 * s.tileCount)) || cls == 3 || decide (4 < cls)
  else if kind = 2 then
    let t := g / 16
    let w := g % 16
    !s.wellOk t w || decide (4 ≤ cls) ||
      (decide (cls < s.wellClass t w) && (s.flag (WL_CHK t w) WL_CHK.CRACK || s.flag (WL_CHK t w) WL_CHK.SENSE_OPEN))
  else true

/-- A write of PL_SET (R292). -/
def State.plSetWrite (s : State) (d : Word) : State :=
  let kind := PL_SET.KIND.get d
  let g := PL_SET.REGION.get d
  let cls := PL_SET.CLASS.get d
  if kind = 0 then s
  else if s.setRefused kind g cls then s.wr PL_STAT PL_STAT.REFUSED 1
  else if kind = 1 then s.setCluster_ (g / 96) (g % 96) cls
  else s.setWell_ g cls (PL_SET.LIM.get d)

def execPlSet (d : Word) (s : State) : Host.Outcome State Fault Refusal := hostOp s PL_SET d (·.plSetWrite d)

/-- The spare clusters the image names (R20, R62). -/
def State.spares (s : State) (t : Nat) : List Nat := [31, 23, 15, 7].map (fun h => (⟨h, h - 7⟩ : Fld).get (s.tileWord t))

/-- The identity mapping of a tile, for every cluster that is not RETIRED: the named spares carry nothing; the gates follow the states (R20,
R21, R283, R289). -/
def State.mapIdentity (s : State) (t : Nat) : State :=
  s.each (List.range 96) (fun u k =>
    if u.mapState t k = 3 then u.setMapState t k 3
    else if (s.spares t).contains k then (u.wr (PL_MAP (96 * t + k)) PL_MAP.LOGICAL 0xFF).setMapState t k 1
    else
      let v := u.wr (PL_MAP (96 * t + k)) PL_MAP.LOGICAL k
      v.setMapState t k (v.workOf t k))

/-- A write of PL_CTRL: HOLD; RESET_MAP, accepted with no slice PLAYING and no order outstanding (R298). -/
def State.plCtrlWrite (s : State) (d : Word) : State :=
  let h := PL_CTRL.HOLD.get d
  let s1 := (s.wr PL_CTRL PL_CTRL.HOLD h).wr PL_STAT PL_STAT.HELD h
  if PL_CTRL.RESET_MAP.get d = 0 then s1
  else if s.allTiles.any (fun t => s.dsState t == dsPlaying) ∨ s.plan.orders ≠ [] then s1.wr PL_STAT PL_STAT.REFUSED 1
  else (s1.each s1.allTiles (fun u t => u.mapIdentity t)).minSpares

def execPlHold (d : Word) (s : State) : Host.Outcome State Fault Refusal := hostOp s PL_CTRL d (·.plCtrlWrite d)

def execResetMap (d : Word) (s : State) : Host.Outcome State Fault Refusal := hostOp s PL_CTRL d (·.plCtrlWrite d)

end Sys2Proof.Machine
end

