-- ==== Sys2Proof/Machine/Drive.lean ====
section
/-! DEFINITION. Set-point motion, hysteretic pulses, admission to priming, handover and the end of a park (R137-R157). -/

namespace Sys2Proof.Machine

open Sys2Proof

/-! ### The target (R138, R74) -/

/-- The fused voltage of a safe-primed well, 0.5 mV (R74). -/
def State.safeVolt (s : State) (t w : Nat) : Nat :=
  if s.wellKind t w = 1 then HD_SAFE.SRAM_V.get s.fuses.safe else HD_SAFE.CORE_V.get s.fuses.safe

/-- The well is under safe priming (R74). -/
def State.safeWell (s : State) (t w : Nat) : Bool := (s.mo t w).safePrime

/-- g before clamping (R138). -/
def State.goalRaw (s : State) (t w : Nat) : Int :=
  if s.stage t w = stPark then s.vlo t w
  else if s.safeWell t w then volt16 (s.safeVolt t w)
  else if s.stage t w = stVolt then (s.mo t w).vTgt
  else (s.mo t w).xFall.getD (s.vcmd t w)

/-- g is clamped to VLO-VHI in voltage and hysteretic mode (R138); safe priming has its fused voltage (R74). -/
def State.goalOf (s : State) (t w : Nat) : Int :=
  if s.stage t w = stPark ∨ s.safeWell t w then s.goalRaw t w else clampI (s.vlo t w) (s.vhi t w) (s.goalRaw t w)

/-! ### The law of R139 -/

/-- The limits of a set in 2^-16 of their units, VMAX zero while a priming ramp is paused (R155): VMAX, AMAX, JMAX x h; KX and KV in 1/16 per us. -/
structure Limits where
  vmax : Int
  amax : Int
  jh : Int
  kx : Int
  kv : Int
  deriving DecidableEq, Repr

def State.limits (s : State) (t w : Nat) : Limits :=
  let a := WL_PROF t w (s.rd (WL_PROF_STAT t w) WL_PROF_STAT.SET)
  let v := if s.stage t w = stPriming ∧ s.flag (WL_PROF_STAT t w) WL_PROF_STAT.PAUSED then 0 else s.rd a WL_PROF.VMAX
  ⟨(256 * v : Nat), (256 * s.rd a WL_PROF.AMAX : Nat), (32 * s.rd a WL_PROF.JMAX : Nat), (s.rd a WL_PROF.KX : Nat), (s.rd a WL_PROF.KV : Nat)⟩

/-- One tick of 125 ns toward g: (x, v, a), each line rounded to 2^-16 (R139). -/
def profStep (l : Limits) (g x v a : Int) : Int × Int × Int :=
  let vDes := clampI (-l.vmax) l.vmax (roundDiv (l.kx * (g - x)) 16)
  let aDes := clampI (-l.amax) l.amax (roundDiv (l.kv * (vDes - v)) 16)
  let a1 := a + clampI (-l.jh) l.jh (aDes - a)
  let v1 := roundDiv (8 * v + a1) 8
  (roundDiv (8 * x + v1) 8, v1, a1)

/-- Within 1/16 mV, 1/16 mV/us and JMAX x h of g at rest (R140). -/
def captured (l : Limits) (g x v a : Int) : Bool :=
  decide ((g - x).natAbs ≤ 4096) && decide (v.natAbs ≤ 4096) && decide ((a.natAbs : Int) ≤ l.jh)

/-- The ramp of safe priming: 1 mV/us, an eighth of a mV each tick (R75, R76). -/
def safeStep (g x : Int) : Int × Int × Int :=
  if (g - x).natAbs ≤ 8192 then (g, 0, 0) else if x < g then (x + 8192, 65536, 0) else (x - 8192, -65536, 0)

/-! ### What a settled ramp completes (R140, R153, R157) -/

/-- The priming is complete: the reservation is released, the limit set is the one PROF selected; priming on wake goes on to its
handover (R153, R312). -/
def State.primeDone (s : State) (t w : Nat) : State :=
  let m := s.mo t w
  let s1 := ((s.setStage t w stHyst).wr (WL_PROF_STAT t w) WL_PROF_STAT.SET m.prof).wr (WL_PROF_STAT t w) WL_PROF_STAT.PAUSED 0
  ((s1.updMo t w (fun m => { m with reserved := 0, handReq := m.handReq || m.waking })).primeViewOf t w).report t w 4 true

/-- Every well of a tracked park stands at its VLO: leader and followers (R151). -/
def State.parkGroup (s : State) (t w : Nat) : List Nat :=
  let l := if s.tracks t w then s.rd (WL_TRACK t w) WL_TRACK.LEADER else w
  l :: (s.followersOf t l)

def State.parkAtFloor (s : State) (t w : Nat) : Bool :=
  (s.parkGroup t w).all (fun v => s.stage t v != stPark || decide ((s.mo t v).x = s.vlo t v))

/-- A park that has settled: PEN falls on every pump, of a tracked pair together (R151, R157). -/
def State.parkDone (s : State) (t w : Nat) : State :=
  if s.parkAtFloor t w then s.each ((s.parkGroup t w).filter (fun v => s.stage t v == stPark)) (fun u v => u.dropWell t v) else s

/-- SETTLED_CAPTURE (R140). -/
def State.settled (s : State) (t w : Nat) : State :=
  let s1 := s.wr (WL_PROF_STAT t w) WL_PROF_STAT.SETTLED 1
  if s.stage t w = stPriming then s1.primeDone t w
  else if s.stage t w = stPark ∧ (s.mo t w).dropPend = false then s1.parkDone t w
  else s1

/-! ### PROFILE_TICK (R139, R151) -/

/-- A follower's position while its relation is in force (R151). -/
def State.followX (s : State) (t f : Nat) : Int :=
  let r := s.relation t f (s.mo t (s.rd (WL_TRACK t f) WL_TRACK.LEADER)).x
  if s.stage t f = stPark then max (s.vlo t f) r else max 0 (min (s.vcmd t f) r)

/-- The target in force is shown: V_TGT, a clamp of it, and SETTLED cleared once it differs from x (R138, R140). -/
def State.goalView (s : State) (t w : Nat) : State :=
  let g := s.goalOf t w
  let s1 := s.wr (WL_SETPT t w) WL_SETPT.V_TGT ((half g).toNat % 4096)
  let s2 := if g = s.goalRaw t w then s1 else s1.wr (WL_SETPT t w) WL_SETPT.TCLAMP 1
  if g = (s.mo t w).x then s2 else s2.wr (WL_PROF_STAT t w) WL_PROF_STAT.SETTLED 0

/-- A tick of a tracking follower: its own law is bypassed; in a PRIME it detaches at V_CMD or when the leader has settled (R151). -/
def State.followTick (s : State) (t f : Nat) : State :=
  let l := s.rd (WL_TRACK t f) WL_TRACK.LEADER
  let x := s.followX t f
  let s1 := ((s.updMo t f (fun m => { m with x := x })).goalView t f).wr (WL_PROF_STAT t f) WL_PROF_STAT.TRACKING 1
  if s.stage t f = stPark then
    if x = s.vlo t f then (s1.wr (WL_PROF_STAT t f) WL_PROF_STAT.SETTLED 1).parkDone t f else s1
  else if x = s.vcmd t f ∨ s.flag (WL_PROF_STAT t l) WL_PROF_STAT.SETTLED then
    ((s1.wr (WL_TRACK t f) WL_TRACK.ACTIVE 0).wr (WL_PROF_STAT t f) WL_PROF_STAT.TRACKING 0).updMo t f (fun m => { m with v := 0, a := 0 })
  else s1

/-- A tick under the well's own law. -/
def State.ownTick (s : State) (t w : Nat) : State :=
  let g := s.goalOf t w
  let m := s.mo t w
  let l := s.limits t w
  let y := if s.safeWell t w then safeStep g m.x else profStep l g m.x m.v m.a
  let here := if s.safeWell t w then decide (y.1 = g) else captured l g y.1 y.2.1 y.2.2
  let s1 := s.goalView t w
  if here then (s1.updMo t w (fun m => { m with x := g, v := 0, a := 0 })).settled t w
  else s1.updMo t w (fun m => { m with x := y.1, v := y.2.1, a := y.2.2 })

/-- PROFILE_TICK of a wet well (R139). -/
def State.profileTick (s : State) (t w : Nat) : State :=
  if s.wellOk t w && decide (stPriming ≤ s.stage t w) && !(s.mo t w).dropPend then
    (if s.tracks t w && (s.stage t w == stPriming || s.stage t w == stPark) then s.followTick t w else s.ownTick t w).motionView t w
  else s

def execProfileTick (t w : Nat) (s : State) : Host.Outcome State Fault Refusal := done (s.profileTick t w)

/-- V_CMD_WRITE: ignored with HOST_IGN on an owned well and on the keeper, else stored; W1C flags as written (R142, R149). -/
def State.vCmdWrite (s : State) (t w : Nat) (d : Word) : State :=
  let v := s.rd (WL_SETPT t w) WL_SETPT.V_CMD
  let s1 := s.plainWrite (WL_SETPT t w) d
  if w = 14 ∨ s.owned t w then (s1.wr (WL_SETPT t w) WL_SETPT.V_CMD v).wr (WL_SETPT t w) WL_SETPT.HOST_IGN 1 else s1

def execVCmdWrite (t w : Nat) (d : Word) (s : State) : Host.Outcome State Fault Refusal := hostOp s (WL_SETPT t w) d (·.vCmdWrite t w d)

/-! ### Hysteretic pulses (R144, R232) -/

/-- The well pulses in hysteretic mode. -/
def State.pulses (s : State) (t w : Nat) : Bool := s.hysteretic t w && s.wet t w

/-- The half-band in 1/16 mV: HB, or 20 mV in safe priming (R74, R144). -/
def State.bandOf (s : State) (t w : Nat) : Int := if s.safeWell t w then 320 else (8 * s.hb t w : Nat)

/-- The pumps that may pulse: in a quiet-window step the tested pump alone, its siblings during its OFFSET measurement (R232). -/
def State.pulsePumps (s : State) (t w : Nat) : List Nat :=
  let x := s.te t w
  (s.switchers t w).filter (fun p => !(s.pump t w p).pwmHeld &&
    (x.kind != 1 || (if (s.pump t w x.pump).measuring then p != x.pump else p == x.pump)))

/-- The next ready pump in service order (R84, R144). -/
def State.nextPulse (s : State) (t w : Nat) : Option Nat :=
  let ok := (s.pulsePumps t w).filter (fun p => (s.pump t w p).ready && !(s.pump t w p).pulse)
  match ok.find? (fun p => decide ((s.lp t w).nextPump ≤ p)) with
  | some p => some p
  | none => ok.head?

/-- The latest window-converter value against x, 1/16 mV: the code of 0.5 mV corrected by OFFSET and by VC - x (R242). -/
def State.senseOf (s : State) (t w : Nat) (code : Int) : Int :=
  8 * code - s.rdi (AD_WIN t w) AD_WIN.OFFSET + ((8 * s.rd (AD_WIN t w) AD_WIN.VC : Nat) - sixteenth (s.mo t w).x)

/-- HYST_TURN_ON at a converter code (R144, R242); no rising edge in over-voltage suppression (R123). -/
def State.hystTurnOn (s : State) (t w : Nat) (code : Int) : State :=
  let sense := s.senseOf t w code
  let since := fun n => !((s.lp t w).lastOn.any (fun a => decide (s.clk.ns < a + n)))
  let low := decide (sense < -(s.bandOf t w)) || (since 500 && decide (sense < 0))
  match s.nextPulse t w with
  | some p =>
    if s.wellOk t w && s.pulses t w && low && since 100 && !s.flag (WL_HOLD t w) WL_HOLD.OV then
      (s.updPump t w p (fun q => { q with pulse := true, ready := false })).updLp t w (fun l => { l with
        lastOn := some s.clk.ns
        nextPump := p + 1 })
    else s
  | none => s

def execHystTurnOn (t w : Nat) (code : Int) (s : State) : Host.Outcome State Fault Refusal := done (s.hystTurnOn t w code)

/-- V_lo = max(25 mV, x - 64 mV) and BUS - V_lo, 2^-16 mV (R144). -/
def State.pulseLo (s : State) (t w : Nat) : Int := max (25 * 65536) ((s.mo t w).x - 64 * 65536)
def State.pulseGap (s : State) (t w : Nat) : Nat := ((s.rd (PH_BUS t) PH_BUS.BUS * 65536 : Nat) - s.pulseLo t w).toNat

/-- TON_MAX = IPK x Lp / (BUS - V_lo) in ps, rounded up, at least 10 ns (R144). -/
def State.tonMax (s : State) (t w : Nat) : Nat :=
  max 10000 (ceilDiv (s.rd (WL_MOTION1 t w) WL_MOTION1.IPK * s.lpNh t w * 1000000 * 65536) (64 * s.pulseGap t w))

/-- The reset time TON x (BUS - V_lo) / V_lo of a pulse of `ton` ps, in ns, rounded up (R144). -/
def State.resetNs (s : State) (t w ton : Nat) : Nat := ceilDiv (ton * s.pulseGap t w) (1000 * (s.pulseLo t w).toNat)

/-- A pulse of `ton` ps may end at this converter value: above x + HB, or at TON_MAX. In safe priming TON_MAX does not bound it, there being
no IPK without an image: DESIGN CHOICE, the spec is silent (R74, R144, log entry 76). -/
def State.pulseEnds (s : State) (t w ton : Nat) (code : Int) : Bool :=
  let over_ := decide (s.bandOf t w < s.senseOf t w code)
  if s.safeWell t w then over_ else (over_ && decide (ton ≤ s.tonMax t w)) || decide (ton = s.tonMax t w)

/-- HYST_PULSE_END of a pump after `ton` ps, never below 10 ns: its reset time begins (R144). -/
def State.hystPulseEnd (s : State) (t w p ton : Nat) (code : Int) : State :=
  if s.pumpOk t w p && (s.pump t w p).pulse && decide (10000 ≤ ton) && s.pulseEnds t w ton code then
    s.updPump t w p (fun q => { q with pulse := false, onPs := q.onPs + ton, readyAt := s.clk.ns + s.resetNs t w ton })
  else s

def execHystPulseEnd (t w p : Nat) (e : PulseEnd) (s : State) : Host.Outcome State Fault Refusal := done (s.hystPulseEnd t w p e.ton e.code)

/-- HYST_PUMP_READY: the reset time of its last pulse has passed (R144). -/
def State.hystPumpReady (s : State) (t w p : Nat) : State :=
  if s.pumpOk t w p && !(s.pump t w p).pulse && decide ((s.pump t w p).readyAt ≤ s.clk.ns) then s.updPump t w p (fun q => { q with ready := true }) else s

def execHystPumpReady (t w p : Nat) (s : State) : Host.Outcome State Fault Refusal := done (s.hystPumpReady t w p)

/-! ### Handover (R115, R146, R147) -/

/-- The conditions of R146 at an outer boundary. -/
def State.handReady (s : State) (t w : Nat) : Bool :=
  s.wellOk t w && (s.stage t w == stHyst) && s.wet t w && s.flag (WL_PROF_STAT t w) WL_PROF_STAT.SETTLED && (s.lp t w).bandOk &&
    !(s.mo t w).hystReq

/-- A tie that a fallback left closed unloads once both its wells are back in voltage mode (R216). -/
def State.untieAfterFall (s : State) (t w : Nat) : State :=
  if s.tied t w ∧ s.stage t (s.rd (WL_TIE t w) WL_TIE.PARTNER) = stVolt then s.unloadTies t w else s

/-- The well is handed to voltage mode with D_h = 65536 V_mean / BUS (R115, R146). -/
def State.handDo (s : State) (t w : Nat) : State :=
  let d := (clampI 0 0x7FFF (roundDiv (65536 * (s.lp t w).vMean) (16 * s.rd (PH_BUS t) PH_BUS.BUS))).toNat
  let m := s.mo t w
  let mode := (s.lp t w).mode
  let s1 := ((s.setStage t w stVolt).setPmd t w (m.pmode == 1)).wr (WL_PWM t w) WL_PWM.SRC 1
  let s2 := (s1.wr (WL_LOOP_STAT t w) WL_LOOP_STAT.RATE (if halfRate mode then 2 else 1)).wr (WL_PROF_STAT t w) WL_PROF_STAT.SET m.prof
  let s3 := (s2.updMo t w (fun m => { m with xFall := none, moveHold := false, handReq := false, waking := false })).updLp t w (fun l => { l with
    entry := some d, now := d, verified := d, next := none, bad := false, queue := [], half := none, heldX := none, retry := false, heldAge := 0
    counted := false, opened := false, outDue := false, outer := none, outRetry := false })
  let s4 := s3.each (s3.pumpsOf t w) (fun u p => u.updPump t w p (fun q => { q with pulse := false, ready := true }))
  let s5 := ((s4.wr (WL_PWM t w) WL_PWM.DUTY d).loadLine t w).recompute t w true
  (s5.untieAfterFall t w).report t w 5 true

/-- The fallback ends at the first handover, in the mode that the self-tests leave (R147). -/
def State.endFallback (s : State) (t : Nat) : State :=
  let m := if s.failed t 0 then emDegB else if s.failed t 1 then emDegA else emLockstep
  ((s.wr (PH_ENG_STAT t) PH_ENG_STAT.HYST_FALLBACK 0).unhold { src := 12, tile := t }).setMode t m

/-- With no engine left the HAND fails for every well of the tile (R147). -/
def State.handFails (s : State) (t : Nat) : State :=
  s.each (List.range 14) (fun u w =>
    if (u.mo t w).handReq then (u.updMo t w (fun m => { m with handReq := false })).report t w 5 false else u)

/-- HANDOVER of a well a HAND, a wake or a test step asks for; no engine takes a lane before the self-tests of chip reset or acceptance
have run (R131, R146, R147). -/
def State.handOver (s : State) (t w : Nat) : State :=
  if s.fallback t then
    if (s.en t).ranA && (s.en t).ranB then
      if s.failed t 0 && s.failed t 1 then s.handFails t else if s.handReady t w then (s.endFallback t).handDo t w else s
    else s
  else if s.handReady t w && !(s.en t).startTest then s.handDo t w else s

def State.handover (s : State) (t w : Nat) : State := if (s.mo t w).handReq && decide (w < 14) then s.handOver t w else s

def execHandover (t w : Nat) (s : State) : Host.Outcome State Fault Refusal := done (s.handover t w)

/-- KEEPER_HANDOVER: with an image ACTIVE, the Pumphouse awake and the keeper's engine past its self-test, that after a dormant time
too (R148, R313); in a fallback the keeper waits, like any
other well, until a step program has ended it (R130). -/
def State.keeperHandover (s : State) (t : Nat) : State :=
  if s.active && (s.rd (PH_PWR t) PH_PWR.STATE == 0) && !(s.en t).startTest && !(s.en t).wakeTest && !s.fallback t && s.engineOk t 14 then s.handOver t 14 else s

def execKeeperHandover (t : Nat) (s : State) : Host.Outcome State Fault Refusal := done (s.keeperHandover t)

/-! ### Admission, resuming, the end of a park (R151, R153-R157) -/

/-- The start voltage of a ramp: the mean of the absolute remote sense in the last outer period, or its latest conversion, within
0-VHI (R153, R246); the codes of 0.25 mV. Without an image VHI reads 0, and a safe-primed ramp starts within 0 and its fused voltage (DESIGN
CHOICE, log entry 40). -/
def State.startX (s : State) (t w : Nat) : Int :=
  let v := (s.well t w).tel
  let x := 4096 * (v.vsMean.getD (4 * v.vsLast : Nat))
  clampI 0 (if s.safeWell t w then volt16 (s.safeVolt t w) else s.vhi t w) x

/-- What a well's admission reserves of its cistern's INRUSH: its own peak inrush, and that of the SRAM wells that follow it, which no other
well reserves (R151, R154). -/
def State.reserves (s : State) (t w : Nat) : Int :=
  if 12 ≤ w ∨ s.safeWell t w then 0
  else ((s.followersOf t w).filter (12 ≤ ·)).foldl (fun a f => a + s.inrushOne t f) (s.inrushOne t w)

/-- Step 5 of R153 on one well. -/
def State.rampStart (s : State) (t w : Nat) : State :=
  let x := s.startX t w
  let r := s.reserves t w
  let s1 := (s.setStage t w stPriming).each (s.pumpsOf t w) (fun u p => u.penHigh t w p true)
  let s2 := ((s1.wr (WL_PROF_STAT t w) WL_PROF_STAT.SET 1).wr (WL_PROF_STAT t w) WL_PROF_STAT.SETTLED 0).wr (WL_PROF_STAT t w) WL_PROF_STAT.PAUSED 0
  let s3 := (s2.wr (WL_LOOP_STAT t w) WL_LOOP_STAT.RATE 3).wr (WL_PWM t w) WL_PWM.SRC 2
  let s4 := (s3.updMo t w (fun m => { m with x := x, v := 0, a := 0, admitRun := 0, headRun := 0, trkRun := 0, trkFail := false, reserved := r })).updLp
    t w (fun l => { l with period := 0, basePh := s.rd (WL_PWM t w) WL_PWM.BASE_PH })
  ((s4.motionView t w).recompute t w true).primeViewOf t w

/-- The lowest waiting well of the cistern that may be admitted now (R154). -/
def State.admitFirst (s : State) (t w : Nat) : Bool :=
  (cistWells (w / 4)).all (fun v => decide (w ≤ v) || s.stage t v != stWait || s.tracks t v || decide ((s.mo t v).admitRun < 8))

/-- At most one admission of a cistern at a boundary: an outer period, 8e6/f ns, has passed since the last (R154). -/
def State.admitGap (s : State) (t w : Nat) : Bool :=
  ((s.tile t).admitAt.find? (fun e => e.1 = w / 4)).all (fun e => decide (e.2 + 8000000 / max 1 (s.khz t) ≤ s.clk.ns))

/-- A waiting well is admitted, its followers with it (R151, R153, R154); the keeper in service again ends its fault (R19). -/
def State.letIn (s : State) (t w : Nat) : State :=
  let fs := (s.followersOf t w).filter (fun f => s.stage t f == stWait)
  let s1 := (w :: fs).foldl (fun (u : State) v => u.rampStart t v) s
  let s2 := s1.updTile t (fun x => { x with admitAt := (w / 4, s.clk.ns) :: x.admitAt.filter (fun e => e.1 ≠ w / 4) })
  if w = 14 then s1.unhold { src := 4, tile := t, well := 14 } else if w < 12 then s2 else s1

/-- The safe-primed wells of a tile that have not started their ramps. -/
def State.safeWaiting (s : State) (t : Nat) : List Nat :=
  (List.range 14).filter (fun v => s.safeWell t v && (s.stage t v == stCal || s.stage t v == stWait))

/-- The wells of a step of safe priming start their ramps together, once their OFFSET measurement is done (R75); not while a load is under
way (R70). -/
def State.safeAdmit (s : State) (t : Nat) : State :=
  let ws := s.safeWaiting t
  if ws.all (fun v => s.stage t v == stWait) && !s.loaderBusy then s.each ws (fun u v => u.rampStart t v) else s

/-- PRIME_ADMIT at an outer boundary of the well (R154); SRAM wells and the keeper wait for nothing (R149, R153), wells of safe
priming for the others of their step alone (R75); a leader and its followers are admitted together (R151). -/
def State.primeAdmit (s : State) (t w : Nat) : State :=
  if s.stopped t && decide (w < 14) then s
  else if s.wellOk t w && (s.stage t w == stWait) && s.safeWell t w then s.safeAdmit t
  else if s.wellOk t w && (s.stage t w == stWait) && !(s.tracks t w) && (s.followersOf t w).all (fun f => s.stage t f != stCal) then
    if 12 ≤ w then s.letIn t w
    else if decide (8 ≤ (s.mo t w).admitRun) && s.admits t w && s.admitFirst t w && s.admitGap t w then s.letIn t w
    else s
  else s

def execPrimeAdmit (t w : Nat) (s : State) : Host.Outcome State Fault Refusal := done (s.primeAdmit t w)

/-- PRIME_RESUME: headroom at eight successive boundaries (R155); a ramp paused by a tracking fault stays (R152). -/
def State.primeResume (s : State) (t w : Nat) : State :=
  if (s.stage t w == stPriming) && s.flag (WL_PROF_STAT t w) WL_PROF_STAT.PAUSED && decide (8 ≤ (s.mo t w).headRun) && !(s.mo t w).trkFail then
    (s.wr (WL_PROF_STAT t w) WL_PROF_STAT.PAUSED 0).updMo t w (fun m => { m with headRun := 0 })
  else s

def execPrimeResume (t w : Nat) (s : State) : Host.Outcome State Fault Refusal := done (s.primeResume t w)

/-- PARK_TIMEOUT: PEN falls on every pump of the parking well, which counts as failed (R157). -/
def State.parkTimeout (s : State) (t w : Nat) : State :=
  if s.voltedOk t w && (s.stage t w == stPark) && !(s.mo t w).dropPend then
    (s.updMo t w (fun m => { m with parkTimedOut := true })).dropWell t w
  else s

def execParkTimeout (t w : Nat) (s : State) : Host.Outcome State Fault Refusal := done (s.parkTimeout t w)

end Sys2Proof.Machine
end

