-- ==== Sys2Proof/Machine/Sequencer.lean ====
section
/-! DEFINITION. The step sequencers: starts, aborts, the sixteen opcodes, completion and timeout (R158-R165, R236). -/

namespace Sys2Proof.Machine

open Sys2Proof

/-! ### Starting and aborting (R158, R164) -/

/-- A host START is refused: the sequencer runs, no image is ACTIVE, the loader is busy, or the image holds no such program (R70, R158). -/
def State.startRefused (s : State) (n prog : Nat) : Bool :=
  (s.sqState n != 0) || !s.active || s.loaderBusy || (s.program prog).isNone

/-- The instruction the sequencer stands at; END where the program holds none. -/
def State.instrAt (s : State) (n : Nat) : Nat :=
  ((s.program (s.rd (SQ_STAT n) SQ_STAT.PROG)).getD []).getD (s.rd (SQ_STAT n) SQ_STAT.PC) 0

def opOf (i : Nat) : Nat := i / 268435456 % 16
def argOf (i : Nat) : Nat := i % 4096
def codeOf (i : Nat) : Nat := i % 256

/-- The beat of the instruction that has issued is noted (R162). -/
def State.noteBeat (s : State) (n : Nat) : State := s.updSq n (fun q => { q with beat := some s.clk.beat })

/-- END: DONE and EXIT, sequencer-done, ownership released (R160); its beat is kept (R164). -/
def State.sqFinish (s : State) (n code : Nat) : State :=
  let s1 := ((s.wr (SQ_STAT n) SQ_STAT.EXIT code).wr (SQ_STAT n) SQ_STAT.DONE 1).wr (SQ_STAT n) SQ_STAT.STATE 0
  ((s1.updSq n (fun q => { q with ended := some s.clk.beat })).releaseWells n).pend (128 + n)

/-- SQ_ABORT at a beat boundary: an END that takes effect there wins, be it before the ABORT comes or with it, and ABORT reads LATE (R10,
R164). -/
def State.sqAbort (s : State) (n : Nat) : State :=
  if n < 8 then
    if s.sqState n = 0 then (if (s.sq n).ended = some s.clk.beat then s.wr (SQ_STAT n) SQ_STAT.ABORT 2 else s)
    else if s.sqState n = 1 ∧ opOf (s.instrAt n) = 0 then (s.sqFinish n (codeOf (s.instrAt n))).wr (SQ_STAT n) SQ_STAT.ABORT 2
    else s.seqAbort n 1
  else s

def execSqAbort (n : Nat) (s : State) : Host.Outcome State Fault Refusal := done (s.sqAbort n)

/-- A write of SQ_CTRL: PROG, START and ABORT (R158, R164). -/
def State.sqCtrlWrite (s : State) (n : Nat) (d : Word) : State :=
  let p := SQ_CTRL.PROG.get d
  let s1 := s.wr (SQ_CTRL n) SQ_CTRL.PROG p
  let s2 := if SQ_CTRL.START.get d = 0 then s1
    else if s1.startRefused n p then s1.wr (SQ_STAT n) SQ_STAT.REFUSED 1
    else (s1.seqStart n p 0 0xFF 0xF).updSq n (fun q => { q with hostNs := some s.clk.ns })
  if SQ_CTRL.ABORT.get d = 1 then s2.sqAbort n else s2

def execSqStart (n : Nat) (d : Word) (s : State) : Host.Outcome State Fault Refusal := hostOp s (SQ_CTRL n) d (·.sqCtrlWrite n d)

/-! ### Issue (R161, R162) -/

/-- Next instruction (R160). -/
def State.sqNext (s : State) (n : Nat) : State := (s.wr (SQ_STAT n) SQ_STAT.PC (s.rd (SQ_STAT n) SQ_STAT.PC + 1)).noteBeat n

def State.setF (s : State) (n : Nat) (f : Bool) : State := s.wrb (SQ_STAT n) SQ_STAT.F f

/-- The sequencer runs and stands at an instruction of this opcode. -/
def State.issues (s : State) (n op : Nat) : Bool := decide (n < 8) && (s.sqState n == 1) && (opOf (s.instrAt n) == op)

/-- The existing wells an instruction selects: those of MASK, or the faulting one of them under NARROW, on the selected tiles (R161, R331). -/
def State.selected (s : State) (n i : Nat) : List Nat :=
  let q := s.sq n
  (q.tiles.filter (fun t => s.tileOk t)).flatMap (fun t =>
    ((List.range 14).filter (fun w => bit i (12 + w) && s.wellOk t w && (q.narrow == 0xF || w == q.narrow))).map (fun w => 16 * t + w))

/-- Sequencers other than `n` that own one of the wells (R162). -/
def State.owners (s : State) (n : Nat) (ws : List Nat) : List Nat :=
  (List.range 8).filter (fun m => m != n && ws.any (fun g => s.owned (g / 16) (g % 16) && s.rd (WL_SETPT (g / 16) (g % 16)) WL_SETPT.OWNER == m))

/-- Ownership of the selected wells (R162). -/
def State.own (s : State) (n : Nat) (ws : List Nat) : State :=
  let s1 := s.each ws (fun u g => (u.wr (WL_SETPT (g / 16) (g % 16)) WL_SETPT.OWNED 1).wr (WL_SETPT (g / 16) (g % 16)) WL_SETPT.OWNER n)
  s1.updSq n (fun q => { q with owned := q.owned ++ ws.filter (fun g => !q.owned.contains g) })

/-- A well instruction other than WAIT (R160). -/
def ownsWells (op : Nat) : Bool := decide (2 ≤ op ∧ op ≤ 7) || decide (0xA ≤ op ∧ op ≤ 0xE)

/-- Another sequencer that has yet to issue in this beat first claims one of the wells too, with a higher start source, or with an equal one
and a lower number (R162). -/
def State.outclaimed (s : State) (n : Nat) (ws : List Nat) : Bool :=
  let src := fun m => s.rd (SQ_STAT m) SQ_STAT.SRC
  (List.range 8).any (fun m => m != n && (s.sqState m == 1) && ownsWells (opOf (s.instrAt m)) && decide ((s.sq m).beat ≠ some s.clk.beat) &&
    (decide (src n < src m) || (src n == src m && decide (m < n))) &&
    (s.selected m (s.instrAt m)).any (fun g => ws.contains g && !s.owned (g / 16) (g % 16)))

/-- A well instruction: a conflict, or a claim that another outranks in this beat, acts on no well; a reaction's program pre-empts host and
AUTO_PRIME owners; else it owns the wells it selects and acts (R161, R162). -/
def State.wellInstr (s : State) (n : Nat) (act : State → List Nat → State) : State :=
  let ws := s.selected n (s.instrAt n)
  let os := s.owners n ws
  if s.outclaimed n ws then ((s.wr (SQ_STAT n) SQ_STAT.CONFLICT 1).setF n false).sqNext n
  else if os = [] then act (s.own n ws) ws
  else if s.rd (SQ_STAT n) SQ_STAT.SRC = 2 ∧ os.all (fun m => s.rd (SQ_STAT m) SQ_STAT.SRC != 2) then
    act ((s.each os (fun u m => u.seqAbort m 3)).own n ws) ws
  else ((s.wr (SQ_STAT n) SQ_STAT.CONFLICT 1).setF n false).sqNext n

/-- The same effect on every selected well; F is 1 where each of them completes (R161). -/
def State.eachWell (s : State) (n : Nat) (ws : List Nat) (f : State → Nat → Nat → State) (ok : State → Nat → Nat → Bool) : State :=
  let good := ws.all (fun g => ok s (g / 16) (g % 16))
  ((s.each ws (fun u g => f u (g / 16) (g % 16))).setF n good).sqNext n

/-- An instruction waits on its wells: 0 waiting, 1 completed, 2 failed (R161). -/
def State.sqWaitOn (s : State) (n op cond : Nat) (wells : List (Nat × Nat)) (noTimeout : Bool) : State :=
  (s.wr (SQ_STAT n) SQ_STAT.STATE 2).updSq n (fun q => { q with
    op := op, cond := cond, wells := wells, noTimeout := noTimeout, since := s.clk.ns })

/-! ### Opcodes that do not wait (R160) -/

def State.sqEndOp (s : State) (n : Nat) : State := if s.issues n 0 then s.sqFinish n (codeOf (s.instrAt n)) else s
def execSqEnd (n : Nat) (s : State) : Host.Outcome State Fault Refusal := done (s.sqEndOp n)

/-- SELT: MODE 0 all configured tiles, 1 TILE, 2 the tiles in SQ_TILES, 3 the tile of the starting fault (R160, R161). -/
def State.sqSeltOp (s : State) (n : Nat) : State :=
  if s.issues n 1 then
    let i := s.instrAt n
    let mode := i / 16777216 % 16
    let set := s.rd (SQ_TILES0 n) SQ_TILES0.TILES_LO + s.rd (SQ_TILES1 n) SQ_TILES1.TILES_HI * 2 ^ 64
    let fault := if s.rd (SQ_STAT n) SQ_STAT.SRC = 2 ∧ s.tileOk (s.sq n).faultTile then [(s.sq n).faultTile] else []
    let ts := match mode with
      | 0 => s.allTiles
      | 1 => [i % 256]
      | 2 => s.allTiles.filter (fun t => bit set t)
      | _ => fault
    (s.updSq n (fun q => { q with tiles := ts })).sqNext n
  else s

def execSqSelt (n : Nat) (s : State) : Host.Outcome State Fault Refusal := done (s.sqSeltOp n)

/-- SETV: V_CMD of the selected wells (R142, R160). -/
def State.sqSetvOp (s : State) (n : Nat) : State :=
  if s.issues n 2 then
    let v := argOf (s.instrAt n)
    s.wellInstr n (fun u ws => u.eachWell n ws (fun x t w => x.wr (WL_SETPT t w) WL_SETPT.V_CMD v) (fun _ _ _ => true))
  else s

def execSqSetv (n : Nat) (s : State) : Host.Outcome State Fault Refusal := done (s.sqSetvOp n)

/-- PROF on one well: the set of motion outside priming and parking. -/
def State.setProf (s : State) (t w p : Nat) : State :=
  let s1 := s.updMo t w (fun m => { m with prof := p })
  if s.stage t w = stVolt ∨ s.stage t w = stHyst then s1.wr (WL_PROF_STAT t w) WL_PROF_STAT.SET p else s1

def State.sqProfOp (s : State) (n : Nat) : State :=
  if s.issues n 3 then
    let p := argOf (s.instrAt n)
    s.wellInstr n (fun u ws => u.eachWell n ws (fun x t w => x.setProf t w p) (fun _ _ _ => true))
  else s

def execSqProf (n : Nat) (s : State) : Host.Outcome State Fault Refusal := done (s.sqProfOp n)

/-- HYST on one well: from voltage mode at its next opening, from a tied well after the split, in a test step once the next boundary has
abandoned it; other stages are left alone (R148, R216, R235). -/
def State.hystOne (s : State) (t w : Nat) : State :=
  if (s.te t w).kind ≠ 0 then s.updMo t w (fun m => { m with hystWait := true })
  else if s.stage t w = stVolt then
    (if s.tied t w then (s.unloadTies t w).updMo t w (fun m => { m with hystWait := true }) else s.updMo t w (fun m => { m with hystReq := true }))
  else s

/-- The stages in which a HYST completes (R148). -/
def State.hystFine (s : State) (t w : Nat) : Bool := s.stage t w == stVolt || s.stage t w == stHyst || s.stage t w == stPriming

def State.sqHystOp (s : State) (n : Nat) : State :=
  if s.issues n 6 then s.wellInstr n (fun u ws => u.eachWell n ws State.hystOne State.hystFine) else s

def execSqHyst (n : Nat) (s : State) : Host.Outcome State Fault Refusal := done (s.sqHystOp n)

/-- A signed 11-bit jump offset. -/
def jmpOff (i : Nat) : Int := signed 11 (i % 2048)

/-- JMP under COND (R160). -/
def State.sqJmpOp (s : State) (n : Nat) : State :=
  if s.issues n 9 then
    let i := s.instrAt n
    let c := i / 67108864 % 4
    let f := s.flag (SQ_STAT n) SQ_STAT.F
    if c = 0 ∨ (c = 1 ∧ f) ∨ (c = 2 ∧ f = false) then
      (s.wr (SQ_STAT n) SQ_STAT.PC ((s.rd (SQ_STAT n) SQ_STAT.PC : Int) + jmpOff i).toNat).noteBeat n
    else s.sqNext n
  else s

def execSqJmp (n : Nat) (s : State) : Host.Outcome State Fault Refusal := done (s.sqJmpOp n)

/-- CLGT on the clusters of one well (R160, R307). -/
def State.clgtOne (s : State) (t w arg : Nat) : State :=
  s.each (fedClusters w) (fun u k =>
    if bit arg 0 then u.gateOn t k PH_CLPWR.C_SEQ
    else u.gateOff t k PH_CLPWR.C_SEQ)

def State.sqClgtOp (s : State) (n : Nat) : State :=
  if s.issues n 0xA then
    let a := argOf (s.instrAt n)
    s.wellInstr n (fun u ws => u.eachWell n ws (fun x t w => x.clgtOne t w a) (fun _ _ _ => true))
  else s

def execSqClgt (n : Nat) (s : State) : Host.Outcome State Fault Refusal := done (s.sqClgtOp n)

/-- TIE on one core well: its ties are held open; one that is closed unloads first (R160, R214). -/
def State.tieHoldOne (s : State) (t w : Nat) (on : Bool) : State :=
  if w < 12 then
    let s1 := s.updMo t w (fun m => { m with tieHold := on })
    if on && s.tied t w then s1.unloadTies t w else s1
  else s

def State.sqTieOp (s : State) (n : Nat) : State :=
  if s.issues n 0xB then
    let on := bit (argOf (s.instrAt n)) 0
    s.wellInstr n (fun u ws => u.eachWell n ws (fun x t w => x.tieHoldOne t w on) (fun _ _ _ => true))
  else s

def execSqTie (n : Nat) (s : State) : Host.Outcome State Fault Refusal := done (s.sqTieOp n)

/-- PMODE on one well: it acts in voltage mode only (R79, R160). -/
def State.pmodeOne (s : State) (t w p : Nat) : State :=
  let s1 := s.updMo t w (fun m => { m with pmode := p })
  if s.stage t w = stVolt then s1.setPmd t w (p == 1) else s1

def State.sqPmodeOp (s : State) (n : Nat) : State :=
  if s.issues n 0xC then
    let p := argOf (s.instrAt n)
    s.wellInstr n (fun u ws => u.eachWell n ws (fun x t w => x.pmodeOne t w p) (fun _ _ _ => true))
  else s

def execSqPmode (n : Nat) (s : State) : Host.Outcome State Fault Refusal := done (s.sqPmodeOp n)

/-- TRK on one follower: a relation that is disabled is in force no more. -/
def State.trkOne (s : State) (t w : Nat) (on : Bool) : State :=
  let s1 := s.wrb (WL_TRACK t w) WL_TRACK.EN on
  if !on && s1.flag (WL_TRACK t w) WL_TRACK.ACTIVE then
    ((s1.wr (WL_TRACK t w) WL_TRACK.ACTIVE 0).wr (WL_PROF_STAT t w) WL_PROF_STAT.TRACKING 0).updMo t w (fun m => { m with v := 0, a := 0 })
  else s1

/-- TRK enables or disables the relations of the followers named (R150). -/
def State.sqTrkOp (s : State) (n : Nat) : State :=
  if s.issues n 0xD then
    let on := bit (argOf (s.instrAt n)) 0
    s.wellInstr n (fun u ws => u.eachWell n ws (fun x t w =>
      if x.rd (WL_TRACK t w) WL_TRACK.TRK_DEV = 0 then x else x.trkOne t w on) (fun _ _ _ => true))
  else s

def execSqTrk (n : Nat) (s : State) : Host.Outcome State Fault Refusal := done (s.sqTrkOp n)

/-- EVENT: EVCODE and the sequencer-event source (R160). -/
def State.sqEventOp (s : State) (n : Nat) : State :=
  if s.issues n 0xF then ((s.wr (SQ_STAT n) SQ_STAT.EVCODE (codeOf (s.instrAt n))).sqNext n).pend (136 + n) else s

def execSqEvent (n : Nat) (s : State) : Host.Outcome State Fault Refusal := done (s.sqEventOp n)

/-! ### Opcodes that wait (R153, R157, R160, R161, R236) -/

/-- The relation of a follower named with its leader by one PRIME or PARK comes into force (R151); its deviation is counted anew (R152). -/
def State.trackOn (s : State) (ws : List Nat) (t f : Nat) : State :=
  let a := WL_TRACK t f
  if s.flag a WL_TRACK.EN && (s.rd a WL_TRACK.TRK_DEV != 0) && ws.contains (16 * t + s.rd a WL_TRACK.LEADER) then
    (s.wr a WL_TRACK.ACTIVE 1).updMo t f (fun m => { m with trkRun := 0 })
  else s

/-- What becomes of one selected well of a PRIME at once: 1 wet already, 2 too few pumps or STOPPED, else 0: it is primed, or a wake primes it
already (R153, R271, R320). -/
def State.primeOutcome (s : State) (t w : Nat) : Nat :=
  if s.stage t w = stDry ∨ s.stage t w = stCal ∨ s.stage t w = stWait then
    (if s.primable t w && !s.stopped t then 0 else 2)
  else if s.stage t w = stPriming ∧ (s.mo t w).waking then 0
  else 1

/-- A well that a wake has primed and not yet handed over is the sequencer's from now on: the PRIME is complete there, and no handover follows
of itself (R312, R320). -/
def State.primeTake (s : State) (t w : Nat) : State :=
  if s.stage t w = stHyst ∧ (s.mo t w).waking then s.updMo t w (fun m => { m with waking := false, handReq := false }) else s

/-- A PRIME starts on one well, or goes on as that PRIME's, from its present stage, where a wake primes it (R153, R252, R320). -/
def State.primeOne (s : State) (t w : Nat) (oneCheck : Bool) : State :=
  if s.primeOutcome t w = 0 then
    let s1 := if s.stage t w = stDry then (s.primeBegin t w).primeViewOf t w else s
    s1.updMo t w (fun m => { m with waking := false, oneCheck := oneCheck })
  else s

def State.sqPrimeOp (s : State) (n : Nat) : State :=
  if s.issues n 4 then
    let arg := argOf (s.instrAt n)
    s.wellInstr n (fun u ws =>
      let out := ws.map (fun g => (g, u.primeOutcome (g / 16) (g % 16)))
      let go := (out.filter (fun e => e.2 = 0)).map (·.1)
      let u0 := u.each ws (fun x g => x.primeTake (g / 16) (g % 16))
      let u1 := u0.each go (fun x g => x.primeOne (g / 16) (g % 16) (arg == 0))
      let u2 := u1.each go (fun x g => x.trackOn go (g / 16) (g % 16))
      u2.sqWaitOn n 4 0 out (arg == 0))
  else s

def execSqPrime (n : Nat) (s : State) : Host.Outcome State Fault Refusal := done (s.sqPrimeOp n)

/-- HAND: a well in voltage mode is complete, on a STOPPED tile it fails, else it waits for its handover (R146, R271). On a tile in fallback
it is judged by that: it waits, though the well's opening has not yet come, or fails where the self-tests have left no engine (R147, R165). -/
def State.handOutcome (s : State) (t w : Nat) : Nat :=
  if s.stopped t then 2
  else if s.fallback t then (if (s.en t).ranA && (s.en t).ranB && s.failed t 0 && s.failed t 1 then 2 else 0)
  else if s.stage t w = stVolt then 1
  else 0

def State.sqHandOp (s : State) (n : Nat) : State :=
  if s.issues n 5 then
    s.wellInstr n (fun u ws =>
      let out := ws.map (fun g => (g, u.handOutcome (g / 16) (g % 16)))
      let u1 := u.each ((out.filter (fun e => e.2 = 0)).map (·.1)) (fun x g => x.updMo (g / 16) (g % 16) (fun m => { m with handReq := true }))
      u1.sqWaitOn n 5 0 out false)
  else s

def execSqHand (n : Nat) (s : State) : Host.Outcome State Fault Refusal := done (s.sqHandOp n)

/-- A PARK on one well: a wet well parks, and fails in a PRIME that names it (R165); one still in CAL or WAIT_HEAD stays DRY. -/
def State.parkOne (s : State) (t w : Nat) : State :=
  if s.stage t w = stCal ∨ s.stage t w = stWait then (s.unprime t w).report t w 4 false
  else if s.wet t w = false ∨ s.stage t w = stPark then s
  else ((s.report t w 4 false).report t w 5 false).parkOrWait t w false

def State.parkOutcome (s : State) (t w : Nat) : Nat := if decide (stPriming ≤ s.stage t w) && s.wet t w then 0 else 1

def State.sqParkOp (s : State) (n : Nat) : State :=
  if s.issues n 7 then
    s.wellInstr n (fun u ws =>
      let out := ws.map (fun g => (g, u.parkOutcome (g / 16) (g % 16)))
      let go := (out.filter (fun e => e.2 = 0)).map (·.1)
      let u1 := u.each ws (fun x g => x.parkOne (g / 16) (g % 16))
      let u2 := u1.each go (fun x g => x.trackOn go (g / 16) (g % 16))
      u2.sqWaitOn n 7 0 out false)
  else s

def execSqPark (n : Nat) (s : State) : Host.Outcome State Fault Refusal := done (s.sqParkOp n)

/-- WAIT: the wells named are observed, without ownership (R160, R162). -/
def State.sqWaitOp (s : State) (n : Nat) : State :=
  if s.issues n 8 then
    let c := argOf (s.instrAt n) / 1024
    s.sqWaitOn n 8 c (if c = 0 then [] else (s.selected n (s.instrAt n)).map (fun g => (g, 0))) false
  else s

def execSqWait (n : Nat) (s : State) : Host.Outcome State Fault Refusal := done (s.sqWaitOp n)

/-- The condition of a WAIT on one well: 1 SETTLED, 2 DRY, 3 WET (R160). -/
def State.waitMet (s : State) (t w c : Nat) : Bool :=
  if c = 1 then s.flag (WL_PROF_STAT t w) WL_PROF_STAT.SETTLED
  else if c = 2 then !s.wet t w && s.stage t w == stDry
  else s.wet t w

/-- TEST on one well: a quiet-window or a shadow step at once, behind a step of the schedule or the split of the well's tie, or blocked
(R216, R236, R271). -/
def State.testOne (s : State) (t w p : Nat) : State × Nat :=
  if (s.te t w).kind ≠ 0 ∧ !s.stopped t then (s.updTe t w (fun x => { x with queued := some p }), 0)
  else if s.tied t w ∧ !s.stopped t then ((s.unloadTies t w).updTe t w (fun x => { x with queued := some p }), 0)
  else
    let k := if s.stopped t then 0 else s.testKind t w p
    if k = 0 then (s.wr (WL_TEST t w) WL_TEST.BLOCKED 1, 2) else (s.testBegin t w p k true, 0)

def State.sqTestOp (s : State) (n : Nat) : State :=
  if s.issues n 0xE then
    let p := argOf (s.instrAt n) % 4
    s.wellInstr n (fun u ws =>
      let r := ws.foldl (fun (a : State × List (Nat × Nat)) g =>
        let o := a.1.testOne (g / 16) (g % 16) p
        (o.1, a.2 ++ [(g, o.2)])) (u, [])
      r.1.sqWaitOn n 0xE 0 r.2 true)
  else s

def execSqTest (n : Nat) (s : State) : Host.Outcome State Fault Refusal := done (s.sqTestOp n)

/-! ### Completion and timeout (R160, R161) -/

/-- Every well of the waiting instruction has completed or failed. -/
def State.sqAllDone (s : State) (n : Nat) : Bool :=
  let q := s.sq n
  if q.op = 8 then q.cond != 0 && q.wells.all (fun e => s.waitMet (e.1 / 16) (e.1 % 16) q.cond) else q.wells.all (fun e => e.2 != 0)

/-- The waiting instruction ends with F. -/
def State.sqRelease (s : State) (n : Nat) : State :=
  ((s.wr (SQ_STAT n) SQ_STAT.STATE 1).sqNext n).updSq n (fun q => { q with op := 0, wells := [], cond := 0 })

/-- INSTRUCTION_COMPLETE: F is 1 only if every selected well completed (R161). -/
def State.instructionComplete (s : State) (n : Nat) : State :=
  if decide (n < 8) && (s.sqState n == 2) && s.sqAllDone n then
    let q := s.sq n
    (s.setF n (q.op == 8 || q.wells.all (fun e => e.2 == 1))).sqRelease n
  else s

def execInstructionComplete (n : Nat) (s : State) : Host.Outcome State Fault Refusal := done (s.instructionComplete n)

/-- INSTRUCTION_TIMEOUT of a PRIME, HAND or WAIT: a completion in the same beat wins; a WAIT without condition leaves F (R161, R165). -/
def State.instructionTimeout (s : State) (n : Nat) : State :=
  let q := s.sq n
  if decide (n < 8) && (s.sqState n == 2) && !q.noTimeout && (q.op != 7) then
    if s.sqAllDone n then s.instructionComplete n
    else
      let s1 := s.cancelWait n
      (if q.op = 8 ∧ q.cond = 0 then s1 else s1.setF n false).sqRelease n
  else s

def execInstructionTimeout (n : Nat) (s : State) : Host.Outcome State Fault Refusal := done (s.instructionTimeout n)

end Sys2Proof.Machine
end

