-- ==== Sys2Proof/Machine/Governor.lean ====
section
/-! DEFINITION. The cap governor: the snapshot, the decision, tile rest, job rest and rest frames (R256, R274-R288). -/

namespace Sys2Proof.Machine

open Sys2Proof

/-! ### The snapshot (R256) -/

/-- A tile has reported the window. -/
def State.reported (s : State) (t win : Nat) : Option TeleReport := (s.tile t).tt.taken.filter (fun r => r.win == win)

/-- HD_TILE_TELE of a tile; one that has not reported is MISSING and counts at its INPUT_CAP. Its P_OUT is a value the spec does not
state (log entry 2). -/
def State.tileSnapshot (s : State) (t win : Nat) : State :=
  let a := HD_TILE_TELE t
  match s.reported t win with
  | some r =>
    (s.setReg a (HD_TILE_TELE.P_IN.set (HD_TILE_TELE.P_OUT.set (BitVec.ofNat 64 (win % 4096)) r.pOut) r.pIn)).updTile t (fun x =>
      { x with tt := { x.tt with eIn := r.eIn, eOut := r.eOut } })
  | none =>
    (s.setReg a (HD_TILE_TELE.P_IN.set (HD_TILE_TELE.P_OUT.set (HD_TILE_TELE.MISSING.set (BitVec.ofNat 64 (win % 4096)) 1)
      (Config.freeNat s.freeCtr)) (s.rd (PH_TILE_CAP t) PH_TILE_CAP.INPUT_CAP))).draw

/-- The wafer's sums (R256). -/
def State.waferSums (s : State) (win : Nat) : State :=
  let ts := s.allTiles
  let miss := (ts.filter (fun t => (s.reported t win).isNone)).length
  let pIn := ts.foldl (fun a t => a + s.rd (HD_TILE_TELE t) HD_TILE_TELE.P_IN) 0
  let pOut := ts.foldl (fun a t => a + ((s.reported t win).map (·.pOut)).getD 0) 0
  let eIn := ts.foldl (fun a t => a + (s.tile t).tt.eIn) 0
  let eOut := ts.foldl (fun a t => a + (s.tile t).tt.eOut) 0
  let x := HD_TELE_STAT.P_IN.set (HD_TELE_STAT.P_OUT.set (HD_TELE_STAT.MISSING.set 0 (min 255 miss)) (min 0xFFFFFF pOut)) (min 0xFFFFFF pIn)
  (((s.setReg HD_TELE_STAT x).setReg HD_TELE_WIN (BitVec.ofNat 64 win)).setReg HD_E_IN (BitVec.ofNat 64 eIn)).setReg HD_E_OUT (BitVec.ofNat 64 eOut)

/-! ### The cap in force (R278, R279) -/

def State.shareAge (s : State) : Nat := s.rd CG_SHARE CG_SHARE.AGE

/-- A window without a renewal ages the share (R279). -/
def State.ageShare (s : State) : State :=
  if s.gov.renewed then { s with gov := { s.gov with renewed := false } }
  else s.wr CG_SHARE CG_SHARE.AGE (min 0xFFFF (s.shareAge + 1))

/-- CAP_EFF (R278); with a stale share it is only lowered (R279). -/
def State.capEff (s : State) : Nat :=
  let lim := s.rd CG_CAP CG_CAP.WAFER_LIM
  let host := s.rd CG_CAP CG_CAP.CAP_HOST
  let a := if host = 0 then lim else min lim host
  if s.flag CG_SHARE CG_SHARE.VALID then
    let b := min a (s.rd CG_SHARE CG_SHARE.SHARE)
    if s.rd CG_CFG1 CG_CFG1.SHARE_TMO ≤ s.shareAge then min b (s.rd CG_STAT CG_STAT.CAP_EFF) else b
  else a

/-! ### Estimate and calibration (R280, R281) -/

/-- S in 1/16 W (R280). -/
def State.fixedDraw (s : State) (v : GateView) : Nat :=
  s.rd CG_CFG0 CG_CFG0.P_FIX + s.rd CG_CFG0 CG_CFG0.P_IDLE * s.allTiles.foldl (fun a t => a + s.ungated t v) 0

/-- Declared dynamic draw of some tiles, divided by EFF_NOM, in 1/65536 of 1/16 W (R280). -/
def State.dynamic (s : State) (ts : List Nat) (win : Nat) (full : Bool) : Int :=
  let sum := ts.foldl (fun (a : Int) t => a + ((s.reported t win).elim 0 (fun r => if full then r.dFull else r.dAct))) 0
  roundDiv (sum * 256) (s.rd CG_CFG1 CG_CFG1.EFF_NOM)

def State.gainK (s : State) : Nat := s.rd CG_CAL CG_CAL.K

/-- The gain after this decision (R281). -/
def State.newGain (s : State) (win cap : Nat) (dAct : Int) (fixed : Nat) : Int :=
  let k : Int := s.gainK
  let pm : Int := (s.rd HD_TELE_STAT HD_TELE_STAT.P_IN : Nat)
  if s.rd HD_TELE_STAT HD_TELE_STAT.MISSING ≠ 0 ∨ dAct * 64 < (cap : Int) * 65536 ∨ dAct ≤ 0 ∨ s.gov.skipWins.contains win then k
  else
    let q := roundDivI (16384 * (pm - (fixed : Int)) * 65536) dAct
    clampI 0x2000 0x8000 (k + roundDiv (q - k) (2 ^ s.rd CG_CFG0 CG_CFG0.CAL_SHIFT))

/-! ### The decision (R282-R286) -/

/-- The governor's hold on the clusters without work follows GATE_POLICY; a spare that an order names stays released (R283). -/
def State.gateIdle (s : State) (hold : Bool) : State :=
  s.each s.allTiles (fun u t => u.each ((List.range 96).filter (fun k => u.noWork t k)) (fun v k =>
    if hold && v.plan.orders.any (fun o => o.tile == t && o.dst == k) then v else v.govGate t k hold))

/-- The floor: the cap cannot be met (R284). -/
def State.floor (s : State) (unreachable : Bool) : State :=
  if unreachable then
    let s1 := ((s.wr CG_STAT CG_STAT.FLOOR 1).wr CG_STAT CG_STAT.CAP_UNREACHABLE 1).wr CG_STAT CG_STAT.STOP_OFFER 1
    ((s1.holdW { src := 26 }).ibi 2).pendLevel 149
  else ((s.wr CG_STAT CG_STAT.FLOOR 0).wr CG_STAT CG_STAT.STOP_OFFER 0).unhold { src := 26 }

/-- Tile rest of one tile at a decision; in the window of an over-input fault the larger of the two computations stands (R286, R300). -/
def State.tileRest (s : State) (t win r : Nat) (k : Int) : State :=
  let x := s.tile t
  s.tileRestBy t r (if 4096 * (win + 1) ≤ x.tt.overAt then x.tr.want else 0) (predict (s.fixedTile t) k (s.dynamic [t] win true))

/-- A duty in 1/65536 of 1/16 W as a register shows it. -/
def show16 (d : Int) : Nat := (clampI 0 0xFFFFFF (roundDiv d 65536)).toNat

/-- A wafer in no job agrees with itself (R282, R288). -/
def State.agreeSolo (s : State) (win r : Nat) : State :=
  { s with gov := { s.gov with
    applyAt := 4096 * (win + 1) + s.rd CG_CFG0 CG_CFG0.APPLY_BEATS
    agreed := if s.flag CG_STAT CG_STAT.SOLO then some r else none
    skipWins := s.gov.skipWins.filter (fun n => decide (win < n)) } }

/-- CAP_DECISION for the window after `win` (R278-R286). -/
def State.capDecision (s : State) (win : Nat) : State :=
  let s1 := s.ageShare
  let cap := s1.capEff
  let dAct := s1.dynamic s1.allTiles win false
  let dFull := s1.dynamic s1.allTiles win true
  let k := s1.newGain win cap dAct (s1.fixedDraw .now)
  let rj := s1.rd CG_STAT CG_STAT.R_JOB
  let need := fun (fixed : Nat) =>
    let p := predict ((fixed : Int) * 65536) k dFull
    fallRule ((leastDuty p (s1.margined cap 1)).getD 15) rj p (s1.margined cap 2)
  let policy := s1.rd CG_CFG0 CG_CFG0.GATE_POLICY
  let hold := s1.active && (policy == 0 || need (s1.fixedDraw .none) != 0)
  let s2 := if policy ≤ 1 then ({ s1 with gov := { s1.gov with hold := hold } } : State).gateIdle hold else s1
  let fixed := if policy = 1 then s2.fixedDraw (if hold then .held else .none) else s2.fixedDraw .now
  let p := predict ((fixed : Int) * 65536) k dFull
  let unreachable := decide (s2.margined cap 1 < p 15)
  let r := need fixed
  let s3 := (s2.wr CG_STAT CG_STAT.CAP_EFF cap).wr CG_STAT CG_STAT.R_NEED r
  let s4 := s3.setReg CG_EST (CG_EST.S.set (CG_EST.D_FULL.set (BitVec.ofNat 64 (win % 65536)) (show16 dFull)) (min 0xFFFFFF fixed))
  let s5 := s4.setReg CG_CAL (CG_CAL.K.set (CG_CAL.D_ACT.set (CG_CAL.P_MEAS.set 0 (s.rd HD_TELE_STAT HD_TELE_STAT.P_IN)) (show16 dAct)) k.toNat)
  let s6 := (s5.floor unreachable).agreeSolo win r
  let rt := if s6.flag CG_STAT CG_STAT.SOLO then r else rj
  s6.each s6.allTiles (fun u t => u.tileRest t win rt k)

/-- PL_WELL.F of every well at a decision. -/
def State.planForecasts (s : State) : State :=
  s.each s.allTiles (fun u t => u.each ((List.range 14).filter (fun w => u.wellOk t w)) (fun v w => v.wri (PL_WELL (16 * t + w)) PL_WELL.F (v.sh t w).fcast))

/-- The prediction at full speed of the decision just made, 1/16 W (R281, R388). -/
def State.fullSpeed (s : State) (win : Nat) : Nat :=
  (clampI 0 0xFFFFFFFF (roundDiv (predict ((s.rd CG_EST CG_EST.S * 65536 : Nat) : Int) s.gainK (s.dynamic s.allTiles win true) 0) 17179869184)).toNat

/-- A breach of HD_SAFE.WAFER_LIM in safe priming parks the tile with the highest input among those not parking (R76). -/
def State.safeLimit (s : State) : State :=
  if s.safeOn && decide (s.rd HD_SAFE HD_SAFE.WAFER_LIM < s.rd HD_TELE_STAT HD_TELE_STAT.P_IN) then
    let ts := s.allTiles.filter (fun t => (s.tile t).safe.parkAt.isNone && decide (0 < (s.tile t).safe.step))
    (argmin (fun t => 0xFFFFFF - s.rd (HD_TILE_TELE t) HD_TILE_TELE.P_IN) ts).elim s (fun t => s.parkTile t)
  else s

/-- 40 us after the boundary the aggregator's registers are updated, and the governor and the placement engine
decide, and NEED and SHARE_REQ go out (R256, R278-R286, R287, R291, R293, R388). -/
def State.snapshot (s : State) : State :=
  let win := s.closedWin
  let s1 := ((s.each s.allTiles (fun u t => u.tileSnapshot t win)).waferSums win).safeLimit
  let s2 := s1.capDecision win
  let s3 := (s2.each s2.allTiles (fun u t => u.each (List.range 12) (fun v w => v.thermClass t w))).ageEvents
  let s4 := ((s3.planForecasts.planAll).pend 146).pend 147
  (s4.postNeed (win + 1) (s4.rd CG_STAT CG_STAT.R_NEED)).postShare (win + 1) (s4.fullSpeed win)

/-- TELEMETRY_SNAPSHOT: none is taken in SLEEP, and one that is due ends a NAP (R315, R317). -/
def State.telemetrySnapshot (s : State) : State := if s.clk.fast = .sleep then s else s.restart.snapshot

def execTelemetrySnapshot (s : State) : Host.Outcome State Fault Refusal := done s.telemetrySnapshot

/-! ### Job rest and rest frames (R274, R275, R287, R288) -/

/-- JOB_REST_COMMIT: at the commit beat the agreed duty is fixed, or a miss is declared (R287, R288). -/
def State.jobRestCommit (s : State) : State :=
  let fix := fun (u : State) (r : Nat) => { u.wr CG_STAT CG_STAT.R_NEXT r with gov := { u.gov with committed := true, nextAt := u.gov.applyAt } }
  match s.gov.agreed with
  | some r => fix s r
  | none =>
    let r := max (s.rd CG_STAT CG_STAT.R_JOB) (s.rd CG_STAT CG_STAT.R_NEED)
    if s.flag CG_STAT CG_STAT.SOLO then fix s (s.rd CG_STAT CG_STAT.R_NEED)
    else (fix (s.wr CG_STAT CG_STAT.LOCK_MISS 1) r).raiseW { src := 27 }

def execJobRestCommit (s : State) : Host.Outcome State Fault Refusal := done s.jobRestCommit

/-- Thermal rest of a well at a frame boundary, and since when it has been in force. -/
def ShareX.frame (h : ShareX) (beat lead : Nat) : ShareX :=
  let th := h.th.frame beat lead
  { h with
    pr := h.pr.frame beat lead
    th := th
    thBeat := if th.app = 0 then none else if h.thBeat.isSome then h.thBeat else some beat }

/-- REST_FRAME: at a frame boundary the duties decided in time take effect on a tile (R218, R266, R274, R275, R286, R287). -/
def State.restFrame (s : State) (t : Nat) : State :=
  if s.tileOk t && (s.clk.beat % 16 == 0) then
    let b := s.clk.beat
    let ld := s.lead t
    let job := s.jobRestAt b
    let s1 := s.wr CG_STAT CG_STAT.R_JOB job
    let s2 := (s1.each (List.range 14) (fun u w => u.updSh t w (fun h => h.frame b ld))).updTile t (fun x => { x with tr := x.tr.frame b ld })
    let s3 := (s2.wr (PH_REST t) PH_REST.R_JOB job).wr (PH_REST t) PH_REST.R_TILE (s2.tile t).tr.app
    s3.each (List.range 14) (fun u l => u.wr (PH_REST t) ⟨4 * l + 3, 4 * l⟩ (s3.dutyFrom t l b))
  else s

def execRestFrame (t : Nat) (s : State) : Host.Outcome State Fault Refusal := done (s.restFrame t)

/-! ### Host writes (R30, R278, R285) -/

/-- A write of CG_CAP: a CAP_HOST above WAFER_LIM is clamped (R30, R278). -/
def State.capHostWrite (s : State) (d : Word) : State :=
  let v := CG_CAP.CAP_HOST.get d
  let lim := s.rd CG_CAP CG_CAP.WAFER_LIM
  if lim < v then (s.wr CG_CAP CG_CAP.CAP_HOST lim).wr CG_STAT CG_STAT.CLAMPED 1 else s.wr CG_CAP CG_CAP.CAP_HOST v

def execCapHostWrite (d : Word) (s : State) : Host.Outcome State Fault Refusal := hostOp s CG_CAP d (·.capHostWrite d)

/-- A write of CG_CTRL: JOB_STOP starts STOP_PROG as a host start while STOP_OFFER is set (R158, R285). -/
def State.jobStopWrite (s : State) (d : Word) : State :=
  if CG_CTRL.JOB_STOP.get d = 0 then s
  else if s.flag CG_STAT CG_STAT.STOP_OFFER = false then s.wr CG_STAT CG_STAT.REFUSED 1
  else
    let n := s.rd CG_CFG1 CG_CFG1.STOP_SEQ
    let p := s.rd CG_CFG1 CG_CFG1.STOP_PROG
    if s.startRefused n p then s.wr (SQ_STAT n) SQ_STAT.REFUSED 1 else s.seqStart n p 0 0xFF 0xF

def execJobStop (d : Word) (s : State) : Host.Outcome State Fault Refusal := hostOp s CG_CTRL d (·.jobStopWrite d)

end Sys2Proof.Machine
end

