-- ==== Sys2Proof/Machine/ImageCheck.lean ====
section
/-! DEFINITION. The checks of a Raormin image, in the order of R67: header, directory, CRC, signature, records, topology, rules, fabric (R14, R18, R20, R41, R56-R65, R163 and the image rules of the other chapters). -/

namespace Sys2Proof.Machine

open Sys2Proof

/-! ### Header and directory (R56, R57, R60) -/

/-- Bits hi to lo of word n of an image. -/
def imgBits (l : List Word) (n hi lo : Nat) : Nat := (⟨hi, lo⟩ : Fld).get (l.getD n 0)

def imgLength (l : List Word) : Nat := imgBits l 1 63 32
def imgSections (l : List Word) : Nat := imgBits l 1 31 24
def imgAutoPrime (l : List Word) : Nat := imgBits l 1 23 16
def imgBuild (l : List Word) : Nat := imgBits l 2 63 32
def imgTiles (l : List Word) : Nat := imgBits l 2 31 24
def imgRows (l : List Word) : Nat := imgBits l 2 23 20
def imgCols (l : List Word) : Nat := imgBits l 2 19 16

/-- A failure of a check: code, section (0xFF where none is involved) and image word (R67). -/
structure ImgFail where
  code : Nat
  sect : Nat := 0xFF
  word : Nat := 0
  deriving DecidableEq, Repr

/-- Codes 0x01 to 0x03. -/
def headerFail (declared : Nat) (l : List Word) : Option ImgFail :=
  if imgBits l 0 63 32 ≠ 0x52414F52 then some { code := 1 }
  else if imgBits l 0 31 16 ≠ 2 ∨ 2 < imgBits l 2 15 8 ∨ imgBits l 1 15 0 ≠ 0 ∨ imgBits l 2 7 0 ≠ 0 then some { code := 2 }
  else if imgLength l = 0 ∨ 524288 < imgLength l ∨ imgLength l ≠ declared ∨ imgLength l < 27 + 2 * imgSections l then some { code := 3 }
  else none

/-- A directory entry (R57). -/
structure Sect where
  idx : Nat
  type : Nat
  scope : Nat
  off : Nat
  len : Nat
  crc : Nat
  deriving DecidableEq, Repr

def sectAt (l : List Word) (i : Nat) : Sect :=
  ⟨i, imgBits l (3 + 2 * i) 63 56, imgBits l (3 + 2 * i) 55 48, imgBits l (3 + 2 * i) 47 24, imgBits l (3 + 2 * i) 23 0, imgBits l (4 + 2 * i) 31 0⟩

def imgSects (l : List Word) : List Sect := (List.range (imgSections l)).map (sectAt l)

/-- Section types that may be tile-scoped, and those that must appear (R60). -/
def tileScoped (ty : Nat) : Bool := [1, 2, 3, 7].contains ty
def requiredTypes : List Nat := [1, 2, 4, 5, 6, 7, 8, 9, 11]

/-- An entry breaks R57 or R60, where the sections before it end at `exp` and the last one must end at `fin`. -/
def entryBad (l : List Word) (before : List Sect) (exp fin : Nat) (e : Sect) : Bool :=
  (e.scope != 0xFF && (decide (imgTiles l ≤ e.scope) || decide (0x5F < e.scope))) || e.off != exp || e.len == 0 || decide (fin < exp + e.len) ||
    e.type == 0 || decide (11 < e.type) || (e.scope != 0xFF && !tileScoped e.type) || before.any (fun b => b.type == e.type && b.scope == e.scope)

/-- The entries one by one, then what the directory as a whole must hold. -/
def dirWalk (l : List Word) (fin : Nat) : List Sect → List Sect → Nat → Option ImgFail
  | [], before, exp =>
    if exp ≠ fin then some { code := 6, sect := before.length - 1, word := 1 + 2 * before.length }
    else if requiredTypes.any (fun ty => !(before.any (fun b => b.type == ty && b.scope == 0xFF))) then some { code := 6 }
    else none
  | e :: r, before, exp =>
    if entryBad l before exp fin e then some { code := 6, sect := e.idx, word := 3 + 2 * e.idx }
    else if imgBits l (4 + 2 * e.idx) 63 32 ≠ 0 then some { code := 6, sect := e.idx, word := 4 + 2 * e.idx }
    else dirWalk l fin r (before ++ [e]) (exp + e.len)

/-- Code 0x06. An HDR_WORDS other than 3 + 2 × SECTIONS is rejected with it, as an error of the directory's range (DESIGN CHOICE, log entry 81: the
spec names no code for it). -/
def dirFail (l : List Word) : Option ImgFail :=
  if imgSections l = 0 then some { code := 6, word := 1 }
  else if imgBits l 0 15 0 ≠ 3 + 2 * imgSections l then some { code := 6 }
  else dirWalk l (imgLength l - 24) (imgSects l) [] (3 + 2 * imgSections l)

/-- The words of a section. -/
def sectWords (l : List Word) (e : Sect) : List Word := (l.drop e.off).take e.len

/-- Code 0x07. -/
def crcFail (l : List Word) : Option ImgFail :=
  ((imgSects l).find? (fun e => (crc32c ((sectWords l e).flatMap wordBytes)).toNat != e.crc)).map (fun e => { code := 7, sect := e.idx, word := e.off })

/-! ### Signature (R58, R59) -/

def sigBlock (l : List Word) : List Word := l.drop (imgLength l - 24)
/-- The signed digest: SHA-384 of words 0 to LENGTH - 25. -/
def imgDigest (l : List Word) : BitVec 384 := Config.sha384 ((l.take (imgLength l - 24)).flatMap wordBytes)

/-- The key hash the life-cycle state requires (R58). -/
def Fuses.imgHash (f : Fuses) : BitVec 384 := if f.lcState = 1 ∨ f.lcState = 2 then f.licImgHash else f.makerHash

/-- Codes 0x08 and 0x09. -/
def sigFail (f : Fuses) (l : List Word) : Option ImgFail :=
  let b := sigBlock l
  if Config.sha384 ((b.take 12).flatMap wordBytes) ≠ f.imgHash then some { code := 8 }
  else if Config.ecdsaVerify (imgDigest l) (b.take 12) ((b.drop 12).take 12) then none
  else some { code := 9 }

/-! ### Records (R61, R62) -/

/-- A record: kind, key, the image word of its header, its payload. -/
structure ImgRec where
  kind : Nat
  key : Nat
  at_ : Nat
  words : List Word
  deriving DecidableEq, Repr

/-- The records of a section from word `at_`, and the first word whose framing fails. -/
def frameRecs : Nat → List Word → Nat → List ImgRec × Option Nat
  | 0, _, _ => ([], none)
  | _ + 1, [], _ => ([], none)
  | n + 1, h :: rest, a =>
    let w := (⟨15, 0⟩ : Fld).get h
    if (⟨39, 16⟩ : Fld).get h ≠ 0 ∨ rest.length < w then ([], some a)
    else
      let r := frameRecs n (rest.drop w) (a + 1 + w)
      (⟨(⟨63, 56⟩ : Fld).get h, (⟨55, 40⟩ : Fld).get h, a, rest.take w⟩ :: r.1, r.2)

/-- A record kind of its section, with a key and a length the kind allows (R61; the owning chapters' record tables). -/
def recShape (ty kind key n : Nat) : Bool :=
  match ty, kind with
  | 1, 1 => key == 0 && n == 1
  | 1, 2 => decide (key < 15) && n == 1
  | 1, 3 => decide (key < 3) && n == 1
  | 2, 1 => key == 0 && n == 1
  | 2, 2 => decide (key < 15) && n == 1
  | 2, 3 => decide (key < 15) && n == 3
  | 2, 4 => decide (key < 15) && n == 3
  | 2, 5 => decide (key < 15) && n == 1
  | 2, 6 => key == 0 && n == 1
  | 3, 1 => decide (key < 15) && n == 1
  | 4, _ => Config.ruleRecordOk kind key n
  | 5, 1 => n == 1
  | 6, 1 => decide (1 ≤ key) && decide (key ≤ 255) && decide (1 ≤ n) && decide (n ≤ 512)
  | 6, 2 => decide (key < 14) && n == 5
  | 7, 1 => (decide (key < 24) || (decide (0x20 ≤ key) && decide (key < 0x5C))) && n == 1
  | 7, 2 => key == 0 && n == 1
  | 8, 1 => key == 0 && n == 2
  | 8, 2 => decide (key < 15) && n == 1
  | 9, 1 => key == 0 && n == 1
  | 10, 1 => decide (1 ≤ key) && decide (key ≤ 63) && decide (1 ≤ n) && decide (n ≤ 36)
  | 10, 2 => decide (1 ≤ key) && decide (key ≤ 511) && n == 1
  | 10, 3 => key == 0 && n == 1
  | 11, 1 => key == 0 && n == 2
  | _, _ => false

/-- The image word at which a record breaks R61 or R62, after the records before it. -/
def recBad (ty : Nat) (before : List ImgRec) (r : ImgRec) : Option Nat :=
  if r.kind = 0 then
    if r.key ≠ 0 then some r.at_
    else (r.words.findIdx? (fun w => w != 0)).map (fun i => r.at_ + 1 + i)
  else if !recShape ty r.kind r.key r.words.length || before.any (fun b => b.kind == r.kind && b.key == r.key) then some r.at_
  else none

def recsWalk (ty : Nat) : List ImgRec → List ImgRec → Option Nat
  | [], _ => none
  | r :: l, before => match recBad ty before r with
    | some a => some a
    | none => recsWalk ty l (r :: before)

/-- An image taken apart: its words, its sections with their records. -/
structure Img where
  words : List Word
  sects : List (Sect × List ImgRec)

def imgOf (l : List Word) : Img :=
  { words := l, sects := (imgSects l).map (fun e => (e, (frameRecs (e.len + 1) (sectWords l e) e.off).1)) }

/-- Code 0x0A of one section. -/
def sectFail (l : List Word) (e : Sect) : Option ImgFail :=
  let r := frameRecs (e.len + 1) (sectWords l e) e.off
  ((recsWalk e.type r.1 []).orElse (fun _ => r.2)).map (fun a => { code := 10, sect := e.idx, word := a })

def recFail (l : List Word) : Option ImgFail := (imgSects l).findSome? (sectFail l)

/-! ### Finding records (R60) -/

/-- The section of a type for a tile: the tile's own, else the wafer's. -/
def Img.sect (m : Img) (ty t : Nat) : Option (Sect × List ImgRec) :=
  (m.sects.find? (fun e => e.1.type == ty && e.1.scope == t)).orElse (fun _ => m.sects.find? (fun e => e.1.type == ty && e.1.scope == 0xFF))

def Img.recs (m : Img) (ty t kind : Nat) : List ImgRec := ((m.sect ty t).elim [] (·.2)).filter (fun r => r.kind == kind)
def Img.rec_ (m : Img) (ty t kind key : Nat) : Option ImgRec := (m.recs ty t kind).find? (fun r => r.key == key)
def Img.has (m : Img) (ty t kind key : Nat) : Bool := (m.rec_ ty t kind key).isSome
/-- Payload word i of a record; zero where there is none. -/
def Img.val (m : Img) (ty t kind key i : Nat) : Word := (m.rec_ ty t kind key).elim 0 (fun r => r.words.getD i 0)

/-- Where a failure of a record's payload word i lies; where the record is missing, at the section's first word. -/
def Img.place (m : Img) (ty t kind key i : Nat) : Nat × Nat :=
  match m.sect ty t with
  | none => (0xFF, 0)
  | some e => (e.1.idx, (m.rec_ ty t kind key).elim e.1.off (fun r => r.at_ + 1 + i))

/-- A list of places: those of the conditions that are broken. -/
def badAt (b : Bool) (p : Nat × Nat) : List (Nat × Nat) := if b then [p] else []

/-- The first broken place, by image word. -/
def firstPlace : List (Nat × Nat) → Option (Nat × Nat)
  | [] => none
  | a :: r => match firstPlace r with
    | none => some a
    | some b => if b.2 < a.2 then some b else some a

/-! ### Topology (R14, R18, R20, R24, R63, R149) -/

def Img.well (m : Img) (t w : Nat) : Word := m.val 1 t 2 w 0
def Img.kind (m : Img) (t w : Nat) : Nat := TopoWell.KIND.get (m.well t w)
def Img.pumps (m : Img) (t w : Nat) : Nat := TopoWell.PUMPS.get (m.well t w)
def Img.absent (m : Img) (t w : Nat) : Bool := m.kind t w == 3

/-- The wells of a tile that are not absent. -/
def Img.wells (m : Img) (t : Nat) : List Nat := (List.range 15).filter (fun w => !m.absent t w)

/-- Four bytes of a word's low half, from [31:24] down. -/
def bytes4 (x : Word) : List Nat := [(⟨31, 24⟩ : Fld).get x, (⟨23, 16⟩ : Fld).get x, (⟨15, 8⟩ : Fld).get x, (⟨7, 0⟩ : Fld).get x]

/-- The carrier sites a well names. -/
def Img.sites (m : Img) (t w : Nat) : List Nat := (bytes4 (m.well t w)).filter (fun b => b != 0xFF)

/-- The kind, pumps and rating of a slot (R18, R63). -/
def wellShape (w : Nat) (x : Word) : Bool :=
  let k := TopoWell.KIND.get x
  let p := TopoWell.PUMPS.get x
  let n := TopoWell.RATED.get x
  let rated := decide (1 ≤ n) && decide (n ≤ p)
  if w < 12 then (k == 0 && decide (2 ≤ p) && decide (p ≤ 4) && rated) || (k == 3 && p == 0 && (x.extractLsb' 0 32 == 0xFFFFFFFF))
  else if w < 14 then k == 1 && decide (2 ≤ p) && decide (p ≤ 3) && rated
  else k == 2 && p == 2 && n == 1

/-- A site named by the well stands on another pump slot of the tile as well. -/
def Img.siteTwice (m : Img) (t w : Nat) : Bool :=
  let mine := m.sites t w
  let others := ((List.range 15).filter (· != w)).flatMap (m.sites t)
  mine.any (fun b => others.contains b || decide (1 < (mine.filter (· == b)).length))

def Img.topoBad (m : Img) (t : Nat) : List (Nat × Nat) :=
  let sp := bytes4 (m.val 1 t 1 0 0)
  badAt (!m.has 1 t 1 0) (m.place 1 t 1 0 0) ++
  badAt (sp.any (fun k => decide (96 ≤ k) || m.absent t (coreWell k) || decide (1 < (sp.filter (· == k)).length))) (m.place 1 t 1 0 0) ++
  (List.range 15).flatMap (fun w =>
    badAt (!m.has 1 t 2 w || !wellShape w (m.well t w) || TopoWell.LP.get (m.well t w) == 0 || (w == 14 && TopoWell.LP.get (m.well t w) != 0xDC) ||
      m.siteTwice t w) (m.place 1 t 2 w 0)) ++
  (List.range 3).flatMap (fun c => badAt (!m.has 1 t 3 c) (m.place 1 t 3 c 0))

/-- ROWS, COLS and TILES (R14), and the fused size. -/
def shapeBad (f : Fuses) (l : List Word) : Bool :=
  let r := imgRows l
  let c := imgCols l
  r == 0 || decide (8 < r) || c == 0 || decide (12 < c) || decide (imgTiles l ≠ r * c) || decide (imgTiles l < 16) || decide (96 < imgTiles l) ||
    decide (r * c ≠ f.rows * f.cols)

/-! ### Rule values (R64, and the owning chapters) -/

/-- A record as its words. -/
def ImgRec.all (r : ImgRec) : List Word := BitVec.ofNat 64 (r.kind * 2 ^ 56 + r.key * 2 ^ 40 + r.words.length) :: r.words

/-- The records of RULES from which values are taken: all but PAD (R62). -/
def Img.ruleWords (m : Img) : List Word :=
  (m.sect 4 0xFF).elim [] (fun e => (e.2.filter (fun r => r.kind != 0)).flatMap ImgRec.all)

/-- What RULES gives a register, where it gives one. -/
def Img.ruleFor (m : Img) (a : Nat) : Option Word := ((Config.rulesOf m.ruleWords).find? (fun r => r.1 == a)).map (·.2)

/-- What RULES gives a register; its reset value where it gives none. -/
def Img.rule (m : Img) (a : Nat) : Word := (m.ruleFor a).getD (regReset a)

/-- The wafer limit RULES gives; the fused one where it gives none. -/
def Img.waferLim (m : Img) (f : Fuses) : Nat := ((m.ruleFor CG_CAP).map CG_CAP.WAFER_LIM.get).getD (HD_SAFE.WAFER_LIM.get f.safe)

/-- The pump trip RULES sets, 1/64 A. -/
def Img.trip (m : Img) : Nat := Config.ruleTrip m.ruleWords

/-- TILE, WELL and CISTERN payloads: limit and frequency (R64). Their reserved fields, which must be zero, reject as BAD_RULE too (DESIGN
CHOICE, log entry 81: the spec names no code for them). -/
def Img.tileBad (m : Img) (t : Nat) : List (Nat × Nat) :=
  let x := m.val 1 t 1 0 0
  badAt (decide (0x1900 < TopoTile.INLIM.geti x) || decide (TopoTile.KHZ.get x < 4000) || decide (8000 < TopoTile.KHZ.get x)) (m.place 1 t 1 0 0) ++
  (List.range 15).flatMap (fun w => badAt ((⟨51, 48⟩ : Fld).get (m.well t w) != 0 || (⟨39, 36⟩ : Fld).get (m.well t w) != 0) (m.place 1 t 2 w 0)) ++
  (List.range 3).flatMap (fun c => badAt ((⟨27, 0⟩ : Fld).get (m.val 1 t 3 c 0) != 0) (m.place 1 t 3 c 0))

/-- An exponent range with EMIN above EMAX in a word of WL_EXP (R108). -/
def expBad (x : Word) : Bool := [0, 12, 24, 36, 48].any (fun b => decide ((⟨b + 11, b + 6⟩ : Fld).geti x < (⟨b + 5, b⟩ : Fld).geti x))
/-- Reserved bits of a loop constant (R111). -/
def gainBad (x : Word) : Bool := (⟨57, 48⟩ : Fld).get x != 0 || (⟨25, 16⟩ : Fld).get x != 0

/-- LOOP_PLAN (R103, R108, R111, R136). -/
def Img.loopBad (m : Img) (t : Nat) : List (Nat × Nat) :=
  let lanes := m.val 2 t 1 0 0
  let onB := ((m.wells t).filter (fun w => lanes.getLsbD w)).length
  let mode := m.val 2 t 6 0 0
  badAt (!m.has 2 t 1 0 || decide (8 < onB) || decide (8 < (m.wells t).length - onB)) (m.place 2 t 1 0 0) ++
  badAt (!m.has 2 t 6 0 || (⟨15, 12⟩ : Fld).get mode != 8 || (⟨63, 16⟩ : Fld).get mode != 0 || (⟨11, 10⟩ : Fld).get mode != 0 || (⟨7, 0⟩ : Fld).get mode != 0)
    (m.place 2 t 6 0 0) ++
  (List.range 15).flatMap (fun w =>
    let need := !m.absent t w
    let o := m.val 2 t 5 w 0
    badAt ((need && !m.has 2 t 2 w) || expBad (m.val 2 t 2 w 0)) (m.place 2 t 2 w 0) ++
    (List.range 3).flatMap (fun i => badAt ((need && !m.has 2 t 3 w) || gainBad (m.val 2 t 3 w i)) (m.place 2 t 3 w i)) ++
    (List.range 3).flatMap (fun i => badAt ((need && !m.has 2 t 4 w) || gainBad (m.val 2 t 4 w i)) (m.place 2 t 4 w i)) ++
    badAt ((need && w != 14 && !m.has 2 t 5 w) ||
      (m.has 2 t 5 w && (decide (0x7FFF < WL_OUTER.DMAX.get o) || decide (WL_OUTER.DMAX.get o ≤ WL_OUTER.DMIN.get o)))) (m.place 2 t 5 w 0))

/-- TRACKING (R150). A TYPE above 1 has no meaning in the WL_TRACK table and is rejected too (DESIGN CHOICE, log entry 94). -/
def Img.trackBad (m : Img) (t : Nat) : List (Nat × Nat) :=
  (m.recs 3 t 1).flatMap (fun r =>
    let x := r.words.getD 0 0
    let f := r.key
    let l := WL_TRACK.LEADER.get x
    let ratio := WL_TRACK.RATIO.get x
    let kind := WL_TRACK.TYPE.get x
    badAt (decide (14 ≤ f) || decide (14 ≤ l) || m.absent t f || m.absent t l || m.has 3 t 1 l || f == l ||
      (decide (f < 12) && decide (l < 12) && f / 4 != l / 4) || decide (1 < kind) || WL_TRACK.TRK_DEV.get x == 0 ||
      (kind == 0 && (ratio == 0 || WL_TRACK.OFFSET.get x != 0)) || (kind == 1 && ratio != 0)) (m.place 3 t 1 f 0))

/-- A motion limit set: no zero, and KV at least 4 KX (R166). -/
def profBad (x : Word) : Bool :=
  WL_PROF.VMAX.get x == 0 || WL_PROF.AMAX.get x == 0 || WL_PROF.JMAX.get x == 0 || WL_PROF.KX.get x == 0 || WL_PROF.KV.get x == 0 ||
    decide (WL_PROF.KV.get x < 4 * WL_PROF.KX.get x)

/-- MOTION of a well slot (R64, R166). -/
def Img.motionBad (m : Img) (t : Nat) : List (Nat × Nat) :=
  (List.range 14).flatMap (fun w =>
    let x0 := m.val 6 t 2 w 3
    let x1 := m.val 6 t 2 w 4
    let lo := WL_MOTION0.VLO.get x0
    let hi := WL_MOTION0.VHI.get x0
    let boot := WL_MOTION0.V_BOOT.get x0
    badAt (!m.absent t w && !m.has 6 t 2 w) (m.place 6 t 2 w 0) ++
    (if m.has 6 t 2 w then
      (List.range 3).flatMap (fun i => badAt (profBad (m.val 6 t 2 w i)) (m.place 6 t 2 w i)) ++
      badAt (decide (lo < if w < 12 then 1100 else 1400) || decide (1900 < hi) || decide (hi ≤ lo) || decide (boot < lo) || decide (hi < boot) ||
        WL_MOTION0.C_OUT.get x0 == 0) (m.place 6 t 2 w 3) ++
      badAt (WL_MOTION1.HB.get x1 == 0 || decide (0x800 < WL_MOTION1.IPK.get x1)) (m.place 6 t 2 w 4)
    else []))

/-- THERMAL (R64, R273). -/
def Img.thermBad (m : Img) (t : Nat) : List (Nat × Nat) :=
  let exists_ := fun ch => decide (ch < 24) || (decide (32 ≤ ch) && decide ((ch - 32) % 4 < m.pumps t ((ch - 32) / 4)))
  let cfg := m.val 7 t 2 0 0
  let hot := (m.recs 7 t 1).filter (fun r => TH_LIM.ALWAYS_HOT.get (r.words.getD 0 0) == 1)
  badAt (!m.has 7 t 2 0 || decide (TH_CFG.RESUME_MARGIN.get cfg ≤ TH_CFG.THR_HYS.get cfg)) (m.place 7 t 2 0 0) ++
  (hot.drop 16).flatMap (fun r => badAt true (m.place 7 t 1 r.key 0)) ++
  (List.range 24 ++ (List.range 60).map (32 + ·)).flatMap (fun ch =>
    let x := m.val 7 t 1 ch 0
    let a := TH_LIM.LIM_A.geti x
    let b := TH_LIM.LIM_B.geti x
    let die := decide (ch < 24)
    badAt (exists_ ch != m.has 7 t 1 ch) (m.place 7 t 1 ch 0) ++
    badAt (m.has 7 t 1 ch && (decide (b ≤ a) || decide ((if die then 840 else 1000) < a) || decide ((if die then 920 else 1120) < b)))
      (m.place 7 t 1 ch 0))

/-- The thresholds of a well's voltage window out of order (R124). -/
def winBad (x : Word) : Bool :=
  decide (WL_WIN.WIN.get x ≤ WL_WIN.HOLD_TH.get x) || decide (WL_WIN.WIN.get x ≤ WL_WIN.OV_TH.get x) ||
    decide (WL_WIN.HOLD_TH.get x ≤ WL_WIN.HOLD_HYS.get x)

/-- The registers RULES sets on a tile (R64; 04, 05, 07, 08). -/
def Img.ruleTileBad (m : Img) (t : Nat) : Bool :=
  let bus := m.rule (PH_BUS t)
  let ds := m.rule (DS_CFG t)
  let tc := m.rule (PH_TESTCFG t)
  decide (5400 < PH_BUS.UV_LIM.get bus) || decide (PH_BUS.OV_LIM.get bus < 6600) ||
  decide (DS_CFG.LEAD.get ds < 4) || decide (63 < DS_CFG.LEAD.get ds) || DS_CFG.MIN_LEAD.get ds == 0 || decide (DS_CFG.LEAD.get ds < DS_CFG.MIN_LEAD.get ds) ||
  decide (DS_CFG.NOTICE_LEAD.get ds ≤ DS_CFG.LEAD.get ds) || decide (PH_TESTCFG.PERIOD_H.get tc < PH_TESTCFG.DEFER_MAX_H.get tc) ||
  (m.wells t).any (fun w =>
    let f0 := m.rule (WL_FRULE0 t w)
    WL_FRULE0.OPEN_I.get f0 == 0 || decide (WL_FRULE0.REG_LIM.get f0 < WL_FRULE0.REG_LIM_FB.get f0) || decide (WL_FRULE0.CRACK_STEP.get f0 ≤ 64) ||
      decide (144 < WL_FRULE0.OVL_LIM.get f0) || winBad (m.rule (WL_WIN t w)) ||
      (decide (w < 12) && TopoCist.TIES.get (m.val 1 t 3 (w / 4) 0) != 0 && WL_FRULE1.TIE_IMAX.get (m.rule (WL_FRULE1 t w)) == 0))

/-- Where a rule that is broken lies in the RULES section: the spec gives the section no record layout, so which of its words fails is a free
value (R67; DESIGN CHOICE, log entry 90). -/
def Img.rulePlace (m : Img) : Nat × Nat :=
  match m.sect 4 0xFF with
  | none => (0xFF, 0)
  | some e => (e.1.idx, e.1.off + Config.ruleFailAt m.ruleWords % max 1 e.1.len)

/-- RULES as a whole: the wafer limit of R30 and the trip of R64, and every tile. -/
def Img.rulesBad (m : Img) (f : Fuses) : List (Nat × Nat) :=
  badAt (decide (672000 < m.waferLim f) || decide (2560 < m.trip) || (List.range (imgTiles m.words)).any m.ruleTileBad) m.rulePlace

/-! ### Step programs (R65, R163) -/

/-- The instructions of a PROGRAM record. -/
def instrsOf (ws : List Word) : List Nat := ws.flatMap (fun w => [(w.extractLsb' 32 32).toNat, (w.extractLsb' 0 32).toNat])

def ibits (i hi lo : Nat) : Nat := i / 2 ^ lo % 2 ^ (hi + 1 - lo)
def iop (i : Nat) : Nat := ibits i 31 28

/-- The fields of one instruction: reserved bits, codes, masks (R163 items 2, 3, 8). -/
def instrShape (tiles i : Nat) : Bool :=
  let mask := ibits i 26 12
  let arg := ibits i 11 0
  let well := ibits i 27 27 == 0 && ibits mask 14 14 == 0 && mask != 0
  match iop i with
  | 0 => ibits i 27 8 == 0
  | 1 => decide (ibits i 27 24 ≤ 3) && ibits i 23 8 == 0 && (ibits i 27 24 != 1 || decide (ibits i 7 0 < tiles))
  | 3 => well && decide (arg ≤ 2)
  | 6 => well && arg == 0
  | 8 => ibits i 27 27 == 0 && ibits mask 14 14 == 0 && ((arg / 1024 == 0) == (mask == 0))
  | 9 => decide (ibits i 27 26 ≤ 2) && ibits i 25 11 == 0
  | 12 => well && decide (arg ≤ 2)
  | 14 => well && ((List.range 14).filter (fun w => bit mask w)).length == 1
  | 15 => ibits i 27 8 == 0
  | _ => well

/-- An instruction that bounds a loop (R163 item 6). -/
def bounds (i : Nat) : Bool :=
  match iop i with
  | 4 => ibits i 11 0 != 0
  | 5 => ibits i 11 0 != 0
  | 8 => ibits i 9 0 != 0
  | 7 => true
  | 14 => true
  | _ => false

/-- A jump stays in the program, moves, and backward passes a bounding instruction (R163 items 5, 6). -/
def jumpOk (p : List Nat) (n i : Nat) : Bool :=
  let o := signed 11 (ibits i 10 0)
  let tgt : Int := (n : Int) + o
  o != 0 && decide (0 ≤ tgt) && decide (tgt < p.length) && (decide (0 < o) || ((p.drop tgt.toNat).take (n - tgt.toNat)).any bounds)

/-- SETV within the range of every well it names (R163 item 4). -/
def Img.setvOk (m : Img) (i : Nat) : Bool :=
  (List.range 14).all (fun w => !bit (ibits i 26 12) w || !m.has 6 0xFF 2 w ||
    (decide (WL_MOTION0.VLO.get (m.val 6 0xFF 2 w 3) ≤ ibits i 11 0) && decide (ibits i 11 0 ≤ WL_MOTION0.VHI.get (m.val 6 0xFF 2 w 3))))

/-- The static check of one program: the instructions it breaks. -/
def Img.progBad (m : Img) (r : ImgRec) : List Nat :=
  let p := instrsOf r.words
  let lastOk := fun i => iop i == 0 || (iop i == 9 && ibits i 27 26 == 0)
  (List.range p.length).filter (fun n =>
    let i := p.getD n 0
    !instrShape (imgTiles m.words) i || (iop i == 9 && !jumpOk p n i) || (iop i == 2 && !m.setvOk i) || (n + 1 == p.length && !lastOk i))

/-- A program the image holds (R65). -/
def Img.prog (m : Img) (p : Nat) : Bool := m.has 6 0xFF 1 p

def Img.programsBad (m : Img) : List (Nat × Nat) :=
  (m.recs 6 0xFF 1).flatMap (fun r => (m.progBad r).map (fun n => m.place 6 0xFF 1 r.key (n / 2))) ++
  badAt (imgAutoPrime m.words != 0 && !m.prog (imgAutoPrime m.words)) (0xFF, 1)

/-! ### Reactions, cap, placement, votes, triggers (R65, R301, R321, R345, R354) -/

/-- Fault sources with a block (R325). -/
def hasBlock (n : Nat) : Bool := n != 0 && blockOf n != 0

/-- A SOURCE record breaks R65 or R345. -/
def Img.reactBad (m : Img) (n : Nat) (x : Word) : Bool :=
  let lv := FC_REACT.LEVEL.get x
  let pg := FC_REACT.PROG.get x
  decide (n < 5) || decide (31 < n) || decide (5 < lv) || (lv == 4 && !hasBlock n) ||
    (decide (1 ≤ lv) && (FC_REACT.PRIO.get x == 0 || FC_REACT.TARGETS.get x == 0)) ||
    (pg != 0 && (decide (lv < 2) || !m.prog pg)) || (FC_REACT.NARROW.get x == 1 && pg == 0) || (n == 5 && lv == 5)

def Img.reactionsBad (m : Img) : List (Nat × Nat) :=
  (m.recs 5 0xFF 1).flatMap (fun r => badAt (m.reactBad r.key (r.words.getD 0 0)) (m.place 5 0xFF 1 r.key 0))

/-- CAP and PLACEMENT (R301). -/
def Img.capBad (m : Img) : List (Nat × Nat) :=
  let c0 := m.val 8 0xFF 1 0 0
  let c1 := m.val 8 0xFF 1 0 1
  let pl := m.val 9 0xFF 1 0 0
  let ap := CG_CFG0.APPLY_BEATS.get c0
  let ts := List.range (imgTiles m.words)
  badAt (!m.has 8 0xFF 1 0 || decide (64 < CG_CFG0.MARGIN.get c0) || decide (6 < CG_CFG0.CAL_SHIFT.get c0) || ap % 16 != 0 || decide (ap < 128)) (m.place 8 0xFF 1 0 0) ++
  badAt (decide (CG_CFG1.EFF_NOM.get c1 < 128) || !m.prog (CG_CFG1.STOP_PROG.get c1)) (m.place 8 0xFF 1 0 1) ++
  badAt (!m.has 9 0xFF 1 0 || PL_CFG.RELOC_MAX.get pl == 0 || decide (8 < PL_CFG.RELOC_MAX.get pl) ||
    ts.any (fun t => decide (PL_CFG.ORDER_LEAD.get pl < DS_CFG.LEAD.get (m.rule (DS_CFG t))) ||
      (m.wells t).any (fun w => decide (64 * WL_FRULE0.REG_LIM_FB.get (m.rule (WL_FRULE0 t w)) < PL_CFG.DERATE_CRACK.get pl)))) (m.place 9 0xFF 1 0 0)

/-- VOTE records (R321). -/
def voteRecBad (w : Nat) (x : Word) : Bool :=
  let cl := WL_VOTE_CFG.CL_GRACE.get x
  let wk := WL_VOTE_CFG.WAKE_GRACE.get x
  let gate := WL_VOTE_CFG.CL_GATE.get x == 1
  decide (14 ≤ w) || (WL_VOTE_CFG.VOTED.get x == 1 && WL_VOTE_CFG.DRY_GRACE.get x == 0) ||
    (if w < 12 then gate && (cl == 0 || wk == 0) else gate || cl != 0 || wk != 0)

def Img.votesBad (m : Img) : List (Nat × Nat) :=
  (m.recs 8 0xFF 2).flatMap (fun r => badAt (voteRecBad r.key (r.words.getD 0 0)) (m.place 8 0xFF 2 r.key 0))

/-- The addresses a LIST record names: two a word, an unused final half left out (R354). -/
def listAddrs (ws : List Word) : List Nat :=
  let a := ws.flatMap (fun w => [(⟨55, 32⟩ : Fld).get w, (⟨23, 0⟩ : Fld).get w])
  if a.getLast? = some 0xFFFFFF then a.dropLast else a

/-- The address map holds an address, be it one that addresses nothing (R4) or one that can only be written (R37, R38). -/
def State.mapped (s : State) (a : Nat) : Bool :=
  match place a with
  | .broadcast off => (match phPlace 0 off with | .slot15 _ => true | _ => (s.rowOf (phBase 0 + off)).isSome)
  | .slot15 t => s.tileOk t
  | _ => (s.rowOf a).isSome

/-- An address a list may not name (R354). -/
def State.listBad (s : State) (a : Nat) : Bool :=
  !s.mapped a || (decide (IC_CLAIM 0 ≤ a) && decide (a ≤ IC_CLAIM 7)) || a == ER_RD_DATA ||
    (match place a with | .window _ _ => true | _ => false)

def trigBad (m : Img) (n : Nat) (x : Word) : Bool :=
  let l := (⟨63, 56⟩ : Fld).get x
  (l != 0 && !m.has 10 0xFF 1 l) || (decide (128 ≤ n) && (⟨55, 54⟩ : Fld).get x != 0) || (⟨53, 48⟩ : Fld).get x != 0 || (⟨31, 0⟩ : Fld).get x != 0

/-- Word i of a LIST record fails: an address that a list may not name, or one of its other bits (R354). -/
def State.listWordBad (s : State) (ws : List Word) (i : Nat) : Bool :=
  let w := ws.getD i 0
  (((listAddrs ws).drop (2 * i)).take 2).any s.listBad || (⟨63, 56⟩ : Fld).get w != 0 || (⟨31, 24⟩ : Fld).get w != 0

/-- TRIGGERS (R354). -/
def State.triggersBad (s : State) (m : Img) : List (Nat × Nat) :=
  (m.recs 10 0xFF 1).flatMap (fun r => (List.range r.words.length).flatMap (fun i =>
    badAt (s.listWordBad r.words i) (m.place 10 0xFF 1 r.key i))) ++
  (m.recs 10 0xFF 2).flatMap (fun r => badAt (trigBad m r.key (r.words.getD 0 0)) (m.place 10 0xFF 2 r.key 0)) ++
  badAt ((⟨47, 0⟩ : Fld).get (m.val 10 0xFF 3 0 0) != 0) (m.place 10 0xFF 3 0 0)

/-! ### Fabric identity (R41, R66) -/

def Img.ident (m : Img) : Word := m.val 11 0xFF 1 0 0
def idInstance : Fld := ⟨63, 52⟩
def idLanes : Fld := ⟨47, 44⟩
def idPrio : Fld := ⟨39, 32⟩
def idStatic : Fld := ⟨23, 16⟩
def idIbi : Fld := ⟨7, 0⟩

/-- Reserved fields of the IDENTITY record reject as BAD_RULE (DESIGN CHOICE, log entry 81: the spec names no code for them). -/
def Img.identRsv (m : Img) : List (Nat × Nat) :=
  let x := m.ident
  badAt ((⟨51, 48⟩ : Fld).get x != 0 || (⟨43, 40⟩ : Fld).get x != 0 || (⟨31, 24⟩ : Fld).get x != 0 || (⟨15, 8⟩ : Fld).get x != 0) (m.place 11 0xFF 1 0 0) ++
  badAt (m.val 11 0xFF 1 0 1 != 0) (m.place 11 0xFF 1 0 1)

/-- A static address R41 rejects, or no IDENTITY record. -/
def Img.fabricBad (m : Img) : List (Nat × Nat) :=
  let a := idStatic.get m.ident
  badAt (!m.has 11 0xFF 1 0 || decide (a < 8) || decide (0x77 < a) || [0x3E, 0x5E, 0x6E, 0x76].contains a) (m.place 11 0xFF 1 0 0)

/-! ### All checks, in order (R67) -/

def failAt (code : Nat) (l : List (Nat × Nat)) : Option ImgFail := (firstPlace l).map (fun p => { code := code, sect := p.1, word := p.2 })

/-- Codes 0x0B to 0x0D. -/
def State.semanticFail (s : State) (m : Img) : Option ImgFail :=
  let ts := List.range (imgTiles m.words)
  (if shapeBad s.fuses m.words then some { code := 11, word := 2 } else none).or <|
  (failAt 11 (ts.flatMap m.topoBad)).or <|
  (failAt 12 (ts.flatMap (fun t => m.tileBad t ++ m.loopBad t ++ m.trackBad t ++ m.motionBad t ++ m.thermBad t) ++ m.rulesBad s.fuses ++ m.programsBad ++
    m.reactionsBad ++ m.capBad ++ m.votesBad ++ s.triggersBad m ++ m.identRsv)).or <|
  failAt 13 m.fabricBad

/-- The first check the image in the slot fails (R67). -/
def State.imageFail (s : State) : Option ImgFail :=
  let l := s.load.slot
  (headerFail s.load.len l).or <| (dirFail l).or <| (crcFail l).or <| (sigFail s.fuses l).or <| (recFail l).or <| s.semanticFail (imgOf l)

end Sys2Proof.Machine
end

