-- ==== Sys2Proof/Machine/Schedule.lean ====
section
/-! DEFINITION. The draw schedule: the commands of 07_draw_schedule.md (R168-R204). -/

namespace Sys2Proof.Machine

open Sys2Proof

/-! ### Loading and binding (R201-R203) -/

/-- A window word stores two entries (R201). -/
def State.storeEntries (s : State) (t i : Nat) (d : Word) : State :=
  s.updDs t (fun x => { x with
    entries := tset (fun _ => 0) (tset (fun _ => 0) x.entries i (d.extractLsb' 32 32)) (i + 1) (d.extractLsb' 0 32) })

/-- A window write is taken only in UNBOUND with SRC 0 (R201). -/
def State.windowOpen (s : State) (t : Nat) : Bool := (s.dsState t == dsUnbound) && (s.rd (DS_CTRL t) DS_CTRL.SRC == 0)

/-- SCHEDULE_WINDOW_WRITE: word `o` of the window of Pumphouse `t` (R201). -/
def execScheduleWindowWrite (t o : Nat) (d : Word) (s : State) : Host.Outcome State Fault Refusal :=
  let a := phBase t + 0x8000 + o
  if 96 ≤ t ∨ 0x8000 ≤ o then done s
  else if !s.tileOk t then done (s.answer a rUnmapped 0)
  else if s.unreached a then done s
  else if s.windowOpen t then done ((s.storeEntries t (65536 * s.rd (DS_CTRL t) DS_CTRL.PAGE + 2 * o) d).answer a rOkay 0)
  else done (s.answer a rDenied 0)

def State.dsRefuse (s : State) (t : Nat) : State := s.wr (DS_STAT t) DS_STAT.REFUSED 1

/-- BIND in UNBOUND starts the checks (R202). -/
def State.bindCmd (s : State) (t : Nat) : State :=
  if s.dsState t = dsUnbound then
    ((s.setDs t dsChecking).wr (DS_STAT t) DS_STAT.ERR 0).wr (DS_STAT t) DS_STAT.ABORT 0
  else s.dsRefuse t

/-- The slice is no longer bound (R203): DS_ID reads zero, a pending START or STOP is cancelled, clusters carry no work. The gates' flags
go with the slice (DESIGN CHOICE, log entry 44). -/
def State.unbindNow (s : State) (t : Nat) : State :=
  let s1 := ((s.setDs t dsUnbound).setReg (DS_ID t) 0).updDs t (fun d => { d with
    startPend := false, stopPend := false, streams := [], gates := [], branches := [], gateDecl := []
    gateHolders := [], branchHolders := [], lastArr := [] })
  (s1.gateHeld t).mapWork t

/-- What BIND_DONE finds (R202). -/
def State.bindResult (s : State) (t : Nat) : State :=
  match s.bindErr t with
  | some (code, i) =>
    ((s.setDs t dsUnbound).wr (DS_STAT t) DS_STAT.ERR code).wr (DS_STAT t) DS_STAT.ERR_ENTRY (if code < 6 then 0 else i)
  | none =>
    let ent := s.entry t
    let len := ebits (ent 4) 18 0
    let ls := (List.range 14).filter (fun l => streamStart ent l != 0)
    let gates := ls.flatMap (fun l => (streamGates ent len (streamStart ent l)).map (fun i => (l, ent i)))
    let brs := ls.flatMap (fun l => (streamBranches ent len (streamStart ent l)).map (fun i => 256 * l + ebits (ent i) 27 20))
    let s1 := ((s.setDs t dsBound).wr (DS_STAT t) DS_STAT.ERR 0).wr (DS_STAT t) DS_STAT.ERR_ENTRY 0
    let s2 := s1.setReg (DS_ID t) (DS_ID.SCHED_ID.set (DS_ID.LEN.set 0 len) (ent 1).toNat)
    (s2.updDs t (fun d => { d with
      streams := (ls.map (fun l => (l, ({ st := 1 } : Stream))))
      gateDecl := gates.map (fun e => (ebits e.2 27 20, e.2))
      gateHolders := gates.map (fun e => 256 * e.1 + ebits e.2 27 20)
      branchHolders := brs })).mapWork t

/-- UNBIND (R203): BOUND and STOPPED become UNBOUND; CHECKING is aborted, unless the check completes in the same cycle. -/
def State.unbindCmd (s : State) (t : Nat) (same : Bool) : State :=
  if s.dsState t = dsBound ∨ s.dsState t = dsStopped then s.unbindNow t
  else if s.dsState t = dsChecking then
    if same then (s.bindResult t).wr (DS_STAT t) DS_STAT.ABORT 2
    else ((s.unbindNow t).wr (DS_STAT t) DS_STAT.ERR 0xD).wr (DS_STAT t) DS_STAT.ABORT 1
  else s.dsRefuse t

/-- START in BOUND or STOPPED is pending until the next beat boundary; STOP in PLAYING likewise (R203). -/
def State.startCmd (s : State) (t : Nat) : State :=
  if s.dsState t = dsBound ∨ s.dsState t = dsStopped then
    (s.updDs t (fun d => { d with startPend := true })).wr (DS_STAT t) DS_STAT.ABORT 0
  else s.dsRefuse t
def State.stopCmd (s : State) (t : Nat) : State :=
  if s.dsState t = dsPlaying then s.updDs t (fun d => { d with stopPend := true }) else s.dsRefuse t

/-- A write of DS_CTRL: PAGE and SRC take their values; more than one command bit performs none and sets REFUSED (R203). -/
def State.dsCtrlWrite (s : State) (t : Nat) (d : Word) (same : Bool) : State :=
  let s1 := (s.wr (DS_CTRL t) DS_CTRL.PAGE (DS_CTRL.PAGE.get d)).wr (DS_CTRL t) DS_CTRL.SRC (DS_CTRL.SRC.get d)
  let b := DS_CTRL.BIND.get d
  let u := DS_CTRL.UNBIND.get d
  let st := DS_CTRL.START.get d
  let sp := DS_CTRL.STOP.get d
  if 1 < b + u + st + sp then s1.dsRefuse t
  else if b = 1 then s1.bindCmd t
  else if u = 1 then (s1.unbindCmd t same).pullFeed
  else if st = 1 then s1.startCmd t
  else if sp = 1 then s1.stopCmd t
  else s1.pullFeed

def execBind (t : Nat) (d : Word) (s : State) : Host.Outcome State Fault Refusal := hostOp s (DS_CTRL t) d (·.dsCtrlWrite t d false)
def execUnbind (t : Nat) (d : Word) (same : Bool) (s : State) : Host.Outcome State Fault Refusal :=
  hostOp s (DS_CTRL t) d (·.dsCtrlWrite t d same)
def execDsStart (t : Nat) (d : Word) (s : State) : Host.Outcome State Fault Refusal := hostOp s (DS_CTRL t) d (·.dsCtrlWrite t d false)
def execDsStop (t : Nat) (d : Word) (s : State) : Host.Outcome State Fault Refusal := hostOp s (DS_CTRL t) d (·.dsCtrlWrite t d false)

/-- BIND_DONE: the check completes (R202). -/
def State.bindDone (s : State) (t : Nat) : State := if s.tileOk t && (s.dsState t == dsChecking) then s.bindResult t else s

def execBindDone (t : Nat) (s : State) : Host.Outcome State Fault Refusal := done (s.bindDone t)

/-! ### Play (R203, R184) -/

/-- Every stream at its initial state: both cursors at its first entry, program beat 0 (R171, R203). -/
def Stream.initial (start beat : Nat) : Stream := { st := 2, p := { pc := start }, a := { pc := start }, wall := beat }

/-- PLAY_START: a pending START takes effect; streams, gate and branch rounds, parities and program beats start anew (R203). A
gate's sticky flags keep their values. -/
def State.playStart (s : State) (t : Nat) : State :=
  if s.tileOk t && (s.ds t).startPend && (s.dsState t == dsBound || s.dsState t == dsStopped) then
    let ls := (List.range 14).filter (fun l => streamStart (s.entry t) l != 0)
    (s.setDs t dsPlaying).updDs t (fun d => { d with
      startPend := false
      stopPend := false
      streams := ls.map (fun l => (l, Stream.initial (streamStart (s.entry t) l) s.clk.beat))
      gates := (d.gates.map (fun e => (e.1, ({ dup := e.2.dup, extra := e.2.extra, tmo := e.2.tmo } : GateX)))).filter
        (fun e => e.2 ≠ ({} : GateX))
      branches := []
      lastArr := []
      logged := []
      restOffs := [] })
  else s

def execPlayStart (t : Nat) (s : State) : Host.Outcome State Fault Refusal := done (s.playStart t)

/-- PLAY_STOP: a pending STOP takes effect, or comes too late after the last stream's END in this beat (R203, R204). -/
def State.playStop (s : State) (t : Nat) : State :=
  if s.tileOk t && (s.ds t).stopPend then
    if s.dsState t = dsPlaying then (s.stopNow t).wr (DS_STAT t) DS_STAT.ABORT 1
    else (s.updDs t (fun d => { d with stopPend := false })).wr (DS_STAT t) DS_STAT.ABORT 2
  else s

def execPlayStop (t : Nat) (s : State) : Host.Outcome State Fault Refusal := done (s.playStop t)

def execPlayerBeat (t : Nat) (s : State) : Host.Outcome State Fault Refusal := done ((s.playerBeat t).testsBroken t)

/-! ### Notices (R190-R195, R302, R303) -/

def State.ring (s : State) (t c : Nat) : List (BitVec 32) := tget (fun _ => []) (s.ds t).rings c
def State.setRing (s : State) (t c : Nat) (l : List (BitVec 32)) : State :=
  s.updDs t (fun d => { d with rings := tset (fun _ => []) d.rings c l })

/-- NOTICE_POST: core i of cluster k posts; into a full ring the core stalls until a slot frees (R192). -/
def State.noticePost (s : State) (t k i : Nat) (m : Word) : State :=
  let c := 128 * k + i
  let l := s.ring t c
  if s.clusterOk t k && decide (i < 128) && decide (l.length ≤ 4) then
    let s1 := s.setRing t c (l ++ [m.setWidth 32])
    let busy := (s1.ds t).rings.length
    let s2 := if s1.rd (DS_NOTICE_STAT t) DS_NOTICE_STAT.BUSY_PEAK < busy then
      s1.wr (DS_NOTICE_STAT t) DS_NOTICE_STAT.BUSY_PEAK busy else s1
    if l.length = 4 then s2.bump (DS_NOTICE_STAT t) else s2
  else s

def execNoticePost (t k i : Nat) (m : Word) (s : State) : Host.Outcome State Fault Refusal := done (s.noticePost t k i m)

/-- A discarded notice is counted; the count sticks at 0xFFFF (R190). -/
def State.malformed (s : State) (t : Nat) : State :=
  let n := s.rd (DS_NOTICE_LATE t) DS_NOTICE_LATE.MALFORMED
  if n < 0xFFFF then s.wr (DS_NOTICE_LATE t) DS_NOTICE_LATE.MALFORMED (n + 1) else s

/-- A branch notice for one logical well: into the round of its parity, or a straggler, which is a LATE_NOTICE breach where it
names a higher alternative than the one played (R193, R194). -/
def State.branchNotice (s : State) (t l id par alt : Nat) : State :=
  let b := s.branch t l id
  if b.decided = some par then
    let s1 := s.bump (DS_NOTICE_LATE t)
    if b.played < min alt b.nalt then s1.charge t l 0xF bkLate false false else s1
  else
    s.setBranch t l id (if par = 0 then { b with r0 := some (max alt (b.r0.getD 0)) } else { b with r1 := some (max alt (b.r1.getD 0)) })

/-- A branch notice updates the rounds of the logical wells of the poster that hold a BRANCH of that ID (R190). -/
def State.collectBranch (s : State) (t k : Nat) (id par alt : Nat) : State :=
  let ls := ((s.logicalAt t k).elim [] logicalWells).filter (fun l => (s.ds t).branchHolders.contains (256 * l + id))
  if ls = [] then s.malformed t else s.each ls (fun u l => u.branchNotice t l id par alt)

/-- An arrival counts toward its gate's present or next round, or is a duplicate or a straggler (R195). A core's repeat of its last counted
arrival is a duplicate, also once that round has completed (DESIGN CHOICE, log entry 95). -/
def State.collectArrival (s : State) (t c id par : Nat) : State :=
  if (s.gateEntry t id).isNone then s.malformed t
  else
    let g := s.gate t id
    if ((s.ds t).lastArr.find? (fun e => e.1 = c)).map (·.2) = some (id, par) then s.setGate t id { g with dup := true }
    else if g.donePar = some par ∧ par ≠ g.par then (s.setGate t id { g with extra := true }).bump (DS_NOTICE_LATE t)
    else
      let s1 := s.setGate t id (if par = 0 then { g with c0 := g.c0 + 1 } else { g with c1 := g.c1 + 1 })
      s1.updDs t (fun d => { d with lastArr := (c, (id, par)) :: d.lastArr.filter (fun e => e.1 ≠ c) })

/-- A core's RUN or RETAIN bit is set or cleared (R303). -/
def State.castVote (s : State) (t k i : Nat) (retain cast : Bool) : State :=
  let c := s.cluster t k
  let put := fun v : BitVec 128 => if cast then v ||| (1 <<< i) else v &&& ~~~((1 : BitVec 128) <<< i)
  s.voteChange t k (fun u => if retain then u.setVotes t k c.run (put c.retain) else u.setVotes t k (put c.run) c.retain)

/-- A vote is malformed (R302). -/
def voteBad (m : BitVec 32) : Bool :=
  let kind := ebits m 29 28
  kind == 3 || ebits m 26 23 != 0 || ebits m 15 0 != 0 ||
    (if kind = 2 then ebits m 27 27 == 0 || decide (95 < ebits m 22 16) else ebits m 22 16 != 0)

/-- A collected vote (R302, R303, R309). -/
def State.collectVote (s : State) (t k i : Nat) (m : BitVec 32) : State :=
  if voteBad m then s.malformed t
  else match ebits m 29 28 with
  | 0 => s.castVote t k i false (ebits m 27 27 == 1)
  | 1 => s.castVote t k i true (ebits m 27 27 == 1)
  | _ => match s.physOf t (ebits m 22 16) with
    | some p => s.wakeCluster t p
    | none => s

/-- A notice that has been taken from its ring (R190). An arrival whose ALT, which R190 has zero there, is set is discarded like one with a
reserved field set (DESIGN CHOICE, log entry 95). -/
def State.handleNotice (s : State) (t k i : Nat) (m : BitVec 32) : State :=
  let par := ebits m 21 21
  let rsv := ebits m 20 18 != 0 || ebits m 15 0 != 0
  match ebits m 31 30 with
  | 0 => s.collectVote t k i m
  | 1 => if rsv then s.malformed t else s.collectBranch t k (ebits m 29 22) par (ebits m 17 16)
  | 2 => if rsv || ebits m 17 16 != 0 then s.malformed t else s.collectArrival t (128 * k + i) (ebits m 29 22) par
  | _ => s.malformed t

/-- The non-empty ring that the collector serves next: the first from its turn on, in order of core number (R191). -/
def State.nextRing (s : State) (t : Nat) : Option (Nat × List (BitVec 32)) :=
  let d := s.ds t
  match d.rings.find? (fun e => decide (d.turn ≤ e.1)) with
  | some e => some e
  | none => d.rings.head?

/-- NOTICE_COLLECT: the notice at the head of core n's ring is collected where it is that ring's turn, one notice per ring per turn; a stalled post
takes the slot it frees. The collector serves no ring out of its turn, and stops in a DORMANT Pumphouse (R191, R192, R313). -/
def State.noticeCollect (s : State) (t k n : Nat) : State :=
  if s.tileOk t && (s.rd (PH_PWR t) PH_PWR.STATE == 0) then
    match s.nextRing t with
    | some (c, m :: l) =>
      if c = 128 * k + n then ((s.setRing t c l).updDs t (fun d => { d with turn := c + 1 })).handleNotice t k n m else s
    | _ => s
  else s

def execNoticeCollect (t k n : Nat) (s : State) : Host.Outcome State Fault Refusal := done (s.noticeCollect t k n)

/-! ### Gates (R195-R197) -/

def GateX.count (g : GateX) : Nat := if g.par = 0 then g.c0 else g.c1

/-- A tile takes part in a gate: its slice plays and holds it. -/
def State.holdsGate (s : State) (t id : Nat) : Bool := s.tileOk t && (s.dsState t == dsPlaying) && (s.gateEntry t id).isSome

/-- The gate is wafer-scoped, or used by SYNC (R196). -/
def waferScope (e : Entry) : Bool := ekind e == 0xB || ebits e 19 19 == 1

/-- The present round's arrivals are complete, or forced (R196, R197). -/
def State.roundFull (s : State) (t id : Nat) : Bool :=
  match s.gateEntry t id with
  | some e => (s.gate t id).full || (s.gate t id).forced || decide (ebits e 13 0 ≤ (s.gate t id).count)
  | none => false

/-- The round completes with its release beat: the parity toggles, and every A moves at once (R184, R196). -/
def State.completeGate (s : State) (t id br : Nat) : State :=
  let s1 := s.updGate t id (fun g => { g with
    c0 := if g.par = 0 then 0 else g.c0
    c1 := if g.par = 0 then g.c1 else 0
    donePar := some g.par
    par := 1 - g.par
    rel := g.rel ++ [br]
    full := false
    reported := false
    forced := false })
  s1.each (s1.liveStreams t) (fun u l => u.moveA t l)

/-- A FORCE acts on a gate that the playing or STOPPED slice holds: cores waiting in a STOPPED slice wait on for it (R197, R203). -/
def State.forceable (s : State) (t id : Nat) : Bool :=
  s.tileOk t && (s.dsState t == dsPlaying || s.dsState t == dsStopped) && (s.gateEntry t id).isSome

/-- A FORCE in the beat in which the round is complete has no effect and is recorded as LATE (R10, R204). -/
def State.forceLate (s : State) (t id : Nat) : State :=
  if (s.gate t id).forced && (s.gateEntry t id).any (fun e => decide (ebits e 13 0 ≤ (s.gate t id).count)) then
    s.updGate t id (fun g => { g with forced := false, late := true })
  else s

/-- GATE_COMPLETE: a tile-scoped gate completes at a beat boundary, in a STOPPED slice a forced one of any scope, which no other tile then
waits for; orders due bind to it (R189, R196, R203, R296). -/
def State.gateComplete (s : State) (t id : Nat) : State :=
  match s.gateEntry t id with
  | some e =>
    if s.holdsGate t id && !waferScope e && s.roundFull t id then
      (((s.forceLate t id).bindOrders t id).completeGate t id (s.clk.beat + ebits e 18 15)).applyPlay t
    else if s.forceable t id && (s.dsState t == dsStopped) && (s.gate t id).forced then
      (s.bindOrders t id).completeGate t id (s.clk.beat + gapEff e)
    else s
  | none => s

def execGateComplete (t id : Nat) (s : State) : Host.Outcome State Fault Refusal := done (s.gateComplete t id)

/-- A wafer-scoped round is complete on the tile: the orders due bind to that completion, once (R196, R296). -/
def State.fillRound (s : State) (t id : Nat) : State :=
  if (s.gate t id).full then s
  else ((s.forceLate t id).bindOrders t id).updGate t id (fun g => { g with full := true, forced := false })

/-- WAFER_GATE_REPORT: a tile's round is complete and it reports, once no order bound to the completion waits for DONE (R196,
R296). -/
def State.waferGateReport (s : State) (t id : Nat) : State :=
  match s.gateEntry t id with
  | some e =>
    if s.holdsGate t id && waferScope e && s.roundFull t id && !(s.gate t id).reported then
      let s1 := s.fillRound t id
      if s1.orderHolds t id then s1 else s1.updGate t id (fun g => { g with reported := true })
    else s
  | none => s

def execWaferGateReport (t id : Nat) (s : State) : Host.Outcome State Fault Refusal := done (s.waferGateReport t id)

/-- The tiles that take part in a wafer-scoped gate or SYNC. -/
def State.gateTiles (s : State) (id : Nat) : List Nat :=
  s.allTiles.filter (fun t => s.holdsGate t id && (s.gateEntry t id).any waferScope)

/-- The gate is a SYNC on some tile that takes part. -/
def State.gateSync (s : State) (id : Nat) : Bool := (s.gateTiles id).any (fun t => (s.gateEntry t id).any (fun e => ekind e == 0xB))

/-- Release of the gate on every tile that takes part, at one beat (R196). -/
def State.completeAll (s : State) (id br : Nat) : State :=
  s.each (s.gateTiles id) (fun u t => (u.completeGate t id br).applyPlay t)

/-- GATE_RELEASE: at the release beat, outside a rest beat and with no order of the completion waiting for DONE, P of every
stream waiting there resumes and the beat-sync wires are pulsed (R172, R174, R196, R296); in a STOPPED slice a FORCE releases the cores
alone (R203). -/
def State.gateRelease (s : State) (t id : Nat) : State :=
  let g := s.gate t id
  match g.rel[g.released]? with
  | none => s
  | some br =>
    let stopped := s.dsState t == dsStopped
    let ls := (List.range 14).filter (fun l => (s.stream t l).p.gate == some id &&
      (if stopped then (s.stream t l).st == 5 else (s.stream t l).st == 3 && decide ((s.stream t l).p.passedOf id = g.released)))
    let rest := ls.any (fun l => s.restBeat t l s.clk.beat)
    if (s.dsState t == dsPlaying || stopped) && decide (br ≤ s.clk.beat) && !rest && !s.orderHolds t id then
      let s1 := (s.setGate t id { g with released := g.released + 1 }).each ls (fun u l =>
        u.updStream t l (fun x => if stopped then { x with p := { x.p with gate := none } } else x.goOn id))
      let ks := (List.range 96).filter (fun k => (s.logicalAt t k).any (fun lk => (logicalWells lk).any (fun l => ls.contains l)))
      (s1.updDs t (fun d => { d with pulsed := ks })).gateHeld t
    else s

def execGateRelease (t id : Nat) (s : State) : Host.Outcome State Fault Refusal := done (s.gateRelease t id)

/-- The round that a stream waits for is complete, or completes at the next beat boundary: a release with no arrival left to wait for
(R204). A SYNC still waits for the job. -/
def State.completes (s : State) (t id : Nat) (x : Stream) : Bool :=
  decide (x.p.passedOf id < (s.gate t id).rel.length) ||
    (s.roundFull t id && (s.gateEntry t id).any (fun e => !waferScope e || (!s.gateSync id && (s.gateTiles id).all (fun u => s.roundFull u id))))

/-- GATE_TIMEOUT: logical well w's stream has waited GATE_TMO at its gate: TMO is set, the stream waits on (R197); the last arrival in the
same cycle goes first (R204). -/
def State.gateTimeout (s : State) (t w : Nat) : State :=
  let x := s.stream t w
  match x.p.gate with
  | none => s
  | some id =>
    if s.tileOk t && (x.st == 3) && !s.completes t id x then
      (s.updGate t id (fun g => { g with tmo := true })).holdPh { src := 15, tile := t, well := w, sub := id }
    else s

def execGateTimeout (t w : Nat) (s : State) : Host.Outcome State Fault Refusal := done (s.gateTimeout t w)

/-- A write of DS_GATE_CTRL: SEL, and a FORCE, which completes the round at the next beat boundary and is recorded (R197); on a round that is
complete on the tile already it has no effect and is LATE (R10, R204). -/
def State.gateCtrlWrite (s : State) (t : Nat) (d : Word) : State :=
  let id := DS_GATE_CTRL.SEL.get d
  let s1 := s.wr (DS_GATE_CTRL t) DS_GATE_CTRL.SEL id
  if DS_GATE_CTRL.FORCE.get d = 1 then
    let s2 := s1.recordEvent (DS_GATE_CTRL t) d
    if s2.forceable t id then s2.updGate t id (fun g => { g with forced := true, late := g.full && (s2.dsState t == dsPlaying) }) else s2
  else s1

def execForce (t : Nat) (d : Word) (s : State) : Host.Outcome State Fault Refusal := hostOp s (DS_GATE_CTRL t) d (·.gateCtrlWrite t d)

/-- A write of DS_GATE_VIEW clears flags of the gate SEL names (W1C). -/
def State.gateViewWrite (s : State) (t : Nat) (d : Word) : State :=
  (s.updGate t (s.rd (DS_GATE_CTRL t) DS_GATE_CTRL.SEL) (fun g => { g with
    dup := g.dup && DS_GATE_VIEW.DUP.get d == 0
    extra := g.extra && DS_GATE_VIEW.EXTRA.get d == 0
    tmo := g.tmo && DS_GATE_VIEW.TMO.get d == 0 })).gateHeld t

end Sys2Proof.Machine
end

