-- ==== Sys2Proof/Machine/Image.lean ====
section
/-! DEFINITION. The image loader and safe priming: START, the words, the checks, APPLYING, acceptance, safe priming (R54-R76). -/

namespace Sys2Proof.Machine

open Sys2Proof

/-! ### START and ABORT (R69, R70, R73) -/

/-- Every well but the keeper is DRY (R69). -/
def State.wellsDry (s : State) : Bool := s.allTiles.all (fun t => (List.range 14).all (fun w => s.stage t w == stDry))

def State.imgRefuse (s : State) : State := s.wr HD_IMG_STAT HD_IMG_STAT.REFUSED 1

/-- A slice becomes UNBOUND; one that is CHECKING abandons its check (R59, R70). -/
def State.unbindForImage (s : State) (t : Nat) : State :=
  if s.dsState t = dsChecking then ((s.unbindNow t).wr (DS_STAT t) DS_STAT.ERR 0xD).wr (DS_STAT t) DS_STAT.ABORT 1
  else if s.dsState t = dsUnbound then s
  else (s.stopSlice t).unbindNow t

/-- Every running sequencer is aborted (R158). -/
def State.abortPrograms (s : State) : State := s.each (List.range 8) (fun u n => if u.sqState n = 0 then u else u.seqAbort n 1)

/-- START (R69, R70): accepted in EMPTY, VOID and ACTIVE with every well DRY or under safe priming; else refused. HD_IMG_BUILD keeps the
BUILD of the image accepted last, here and in VOID: DESIGN CHOICE, the spec does not say what it reads then (log entry 83). -/
def State.imgStart (s : State) : State :=
  if (s.imgState = 0 ∨ s.imgState = 4 ∨ s.imgState = 5) ∧ (s.wellsDry ∨ s.safeOn) then
    let s1 := (s.each s.allTiles (fun u t => u.unbindForImage t)).abortPrograms
    let s2 := ((s1.wr HD_IMG_STAT HD_IMG_STAT.STATE 1).wr HD_IMG_STAT HD_IMG_STAT.WORDS 0).wr HD_IMG_STAT HD_IMG_STAT.ABORT 0
    (((s2.setReg HD_IMG_ID 0).setReg HD_IMG_ERR 0).updLoad (fun l => { l with
      slot := []
      len := s.rd HD_IMG_CTRL HD_IMG_CTRL.LENGTH
      link := decide (s.rd HD_IMG_CTRL HD_IMG_CTRL.SRC = 1)
      passed := false
      abort := false
      stopped := false
      safeDue := false })).pullFeed
  else s.imgRefuse

/-- ABORT (R73): `same` says that the load was accepted in this cycle. -/
def State.imgAbort (s : State) (same : Bool) : State :=
  if s.imgState = 1 ∨ s.imgState = 2 then s.abortLoad
  else if s.imgState = 3 then s.updLoad (fun l => { l with abort := true })
  else if s.imgState = 4 ∧ same then s.wr HD_IMG_STAT HD_IMG_STAT.ABORT 2
  else s

/-! ### Safe priming (R74-R76) -/

/-- A safe-primed well's PRIME: as R153 starts one, without a sequencer. -/
def State.safeWellStart (s : State) (t w : Nat) : State :=
  if s.stage t w = stDry ∧ s.primable t w ∧ s.stopped t = false then
    (s.primeBegin t w).updMo t w (fun m => { m with safePrime := true })
  else s

/-- A step of a tile begins (R75). -/
def State.safeStepStart (s : State) (t k : Nat) : State :=
  (s.setSafe t (fun x => { x with step := k, parkAt := none })).each (safeWells k) (fun u w => u.safeWellStart t w)

/-- What an image set and safe priming does not use takes its reset value: 6 MHz, the windows and the thermal limits (R74, R81). -/
def State.safeLimits (s : State) (t : Nat) : State :=
  let s1 := s.each (PH_PWM t :: ((List.range 15).map (WL_WIN t) ++ (List.range 96).map (TH_LIM t))) (fun u a => u.setReg a (regReset a))
  s1.loadNco t

/-- Safe priming starts: the fused topology rates the wells, every cluster is gated, every tile raises step 1 (R74, R75). -/
def State.safeStart (s : State) : State :=
  let s1 := (s.wr HD_IMG_STAT HD_IMG_STAT.SAFE 1).updLoad (fun l => { l with safeDue := false, parking := false })
  let s2 : State := { s1 with img := { s1.img with topo := [], trip := 2560 } }
  let s3 := s2.each s2.allTiles (fun u t => u.each (List.range 96) (fun v k => v.gateOn t k PH_CLPWR.C_DRY))
  s3.each s3.allTiles (fun u t => (u.safeLimits t).safeStepStart t 1)

/-- SAFE_NOW (R76). -/
def State.safeNowCmd (s : State) : State := if (s.imgState = 0 ∨ s.imgState = 5) ∧ s.safeOn = false then s.safeStart else s.imgRefuse

/-- SAFE_STOP (R76). In EMPTY and VOID it does nothing where safe priming is not running, or is parking already: DESIGN CHOICE, the spec does
not call that refused (log entry 83). -/
def State.safeStopCmd (s : State) : State :=
  if s.imgState = 0 ∨ s.imgState = 5 then (if s.safeOn && !s.load.parking then s.parkAll else s) else s.imgRefuse

/-! ### HD_IMG_CTRL (R73) -/

/-- A write of HD_IMG_CTRL: LENGTH and SRC take their values; one command bit acts, several set REFUSED. -/
def State.imgCtrlWrite (s : State) (d : Word) (same : Bool) : State :=
  let s1 := s.plainWrite HD_IMG_CTRL d
  let st := HD_IMG_CTRL.START.get d
  let ab := HD_IMG_CTRL.ABORT.get d
  let sn := HD_IMG_CTRL.SAFE_NOW.get d
  let ss := HD_IMG_CTRL.SAFE_STOP.get d
  if 1 < st + ab + sn + ss then s1.imgRefuse
  else if st = 1 then s1.imgStart
  else if ab = 1 then s1.imgAbort same
  else if sn = 1 then s1.safeNowCmd
  else if ss = 1 then s1.safeStopCmd
  else s1

def execImgStart (d : Word) (s : State) : Host.Outcome State Fault Refusal := hostOp s HD_IMG_CTRL d (·.imgCtrlWrite d false)
def execImgAbort (d : Word) (same : Bool) (s : State) : Host.Outcome State Fault Refusal := hostOp s HD_IMG_CTRL d (·.imgCtrlWrite d same)
/-- SAFE_NOW and SAFE_STOP write their bit, LENGTH and SRC as they stand. -/
def execSafeNow (d : Word) (s : State) : Host.Outcome State Fault Refusal := hostOp s HD_IMG_CTRL d (·.imgCtrlWrite d false)
def execSafeStop (d : Word) (s : State) : Host.Outcome State Fault Refusal := hostOp s HD_IMG_CTRL d (·.imgCtrlWrite d false)

/-! ### The words (R71) -/

/-- The loader takes a word: the slot holds 524,288; the word that completes the declared length starts the checks (R54, R71). A declared
length of 0 is never completed, and every word is taken: DESIGN CHOICE, the spec does not say what such a load does (log entry 83). -/
def State.imgWord (s : State) (d : Word) : State :=
  let n := s.rd HD_IMG_STAT HD_IMG_STAT.WORDS + 1
  let s1 := (s.wr HD_IMG_STAT HD_IMG_STAT.WORDS n).updLoad (fun l => { l with slot := if l.slot.length < 524288 then l.slot ++ [d] else l.slot })
  if n = s.load.len then s1.wr HD_IMG_STAT HD_IMG_STAT.STATE 2 else s1

/-- HD_IMG_DATA_WRITE: outside LOADING, or with the link as the source, DENIED and discarded (R71). -/
def execHdImgDataWrite (d : Word) (s : State) : Host.Outcome State Fault Refusal :=
  if s.imgState = 1 ∧ s.load.link = false then done ((s.imgWord d).answer HD_IMG_DATA rOkay 0) else done (s.answer HD_IMG_DATA rDenied 0)

/-- IMAGE_STALL (R67). -/
def State.imageStall (s : State) : State := if s.imgState = 1 then s.voidLoad 5 0xFF 0 else s
def execImageStall (s : State) : Host.Outcome State Fault Refusal := done s.imageStall

/-! ### Checks and APPLYING (R67, R76) -/

/-- IMAGE_CHECKS_DONE: a failed check rejects the image; else the safe-primed wells park first, where safe priming runs. -/
def State.imageChecksDone (s : State) : State :=
  if s.imgState = 2 ∧ s.load.passed = false then
    match s.imageFail with
    | some e => s.voidLoad e.code e.sect e.word
    | none =>
      let s1 := s.updLoad (fun l => { l with passed := true })
      if s1.safeOn then (if s1.load.parking then s1 else s1.parkAll) else s1.wr HD_IMG_STAT HD_IMG_STAT.STATE 3
  else s
def execImageChecksDone (s : State) : Host.Outcome State Fault Refusal := done s.imageChecksDone

/-- APPLY_START: every safe-primed well is DRY; safe priming has ended (R76). -/
def State.applyStart (s : State) : State :=
  if s.imgState = 2 ∧ s.load.passed ∧ s.wellsDry then
    ((s.wr HD_IMG_STAT HD_IMG_STAT.STATE 3).wr HD_IMG_STAT HD_IMG_STAT.SAFE 0).updLoad (fun l => { l with parking := false })
  else s
def execApplyStart (s : State) : Host.Outcome State Fault Refusal := done s.applyStart

/-- APPLY_FAIL: tile t has not taken its configuration within 1 ms; under an ABORT the load ends ABORTED (R67, R73). -/
def State.applyFail (s : State) (t : Nat) : State :=
  if s.imgState = 3 ∧ s.tileOk t then (if s.load.abort then s.abortLoad else s.voidLoad 0xE 0xFF 0) else s
def execApplyFail (t : Nat) (s : State) : Host.Outcome State Fault Refusal := done (s.applyFail t)

/-- SAFE_PARK_TIMEOUT: PEN falls on every pump of each well of the tile that has not reached DRY (R76). -/
def State.safeParkTimeout (s : State) (t : Nat) : State :=
  if (s.tile t).safe.parkAt.isSome ∧ s.tileOk t then
    s.each (List.range 14) (fun u w =>
      let v := if u.stage t w = stPark then u else u.parkSafe t w
      if v.stage t w = stPark ∧ (v.mo t w).dropPend = false then (v.updMo t w (fun m => { m with parkTimedOut := true })).dropWell t w else v)
  else s
def execSafeParkTimeout (t : Nat) (s : State) : Host.Outcome State Fault Refusal := done (s.safeParkTimeout t)

/-- SAFE_PRIMING_START: within 10 us of a load that ended in VOID (R68). -/
def State.safePrimingStart (s : State) : State := if s.load.safeDue ∧ s.imgState = 5 ∧ s.safeOn = false then s.safeStart else s
def execSafePrimingStart (s : State) : Host.Outcome State Fault Refusal := done s.safePrimingStart

/-- A safe-primed well stands inside its band (R75). -/
def State.safeInBand (s : State) (t w : Nat) : Bool :=
  s.safeWell t w && (s.stage t w == stHyst) && s.flag (WL_PROF_STAT t w) WL_PROF_STAT.SETTLED && (s.lp t w).bandOk

/-- SAFE_PRIME_STEP: the next step starts once every well of the present one is inside its band (R75), and not while a load is under way: no
well goes wet then (R70). -/
def State.safePrimeStep (s : State) (t : Nat) : State :=
  let x := (s.tile t).safe
  if s.safeOn && !s.loaderBusy && s.tileOk t && x.parkAt.isNone && decide (1 ≤ x.step) && decide (x.step < 5) && (safeWells x.step).all (fun w => s.safeInBand t w) then
    s.safeStepStart t (x.step + 1)
  else s
def execSafePrimeStep (t : Nat) (s : State) : Host.Outcome State Fault Refusal := done (s.safePrimeStep t)

/-! ### Acceptance (R59, R66, R72, R131, R134, R142, R281, R289, R328) -/

/-- A register keeps its reserved bits at zero as it takes an image word (R7). -/
def State.setImage (s : State) (a : Nat) (d : Word) : State :=
  match s.rowOf a with
  | some r => s.setReg a (d &&& ~~~(BitVec.ofNat 64 r.rsv))
  | none => s

/-- TILE and CISTERN values, engines, tracking and rules of a tile (R62, R81, R134, R136). -/
def State.applyTile (s : State) (m : Img) (t : Nat) : State :=
  let khz := TopoTile.KHZ.get (m.val 1 t 1 0 0)
  let dm := (⟨9, 8⟩ : Fld).get (m.val 2 t 6 0 0)
  let s1 := ((s.wr (PH_PWM t) PH_PWM.FREQ_KHZ khz).wr (PH_PWM t) PH_PWM.INC (roundDiv ((khz * 2 ^ 32 : Nat) : Int) 1600000).toNat).loadNco t
  let s2 := s1.each (List.range 3) (fun u c => u.wr (PH_CIST t c) PH_CIST.LIMIT (TopoCist.LIMIT.get (m.val 1 t 3 c 0)))
  let s3 := ((s2.setImage (PH_ENG_LANES t) (m.val 2 t 1 0 0)).wr (PH_ENG_CTRL t) PH_ENG_CTRL.DEFAULT dm).wr (PH_ENG_CTRL t) PH_ENG_CTRL.MODE_REQ dm
  let s4 := (s3.wr (PH_BUS t) PH_BUS.UV_LIM (PH_BUS.UV_LIM.get (m.rule (PH_BUS t)))).wr (PH_BUS t) PH_BUS.OV_LIM (PH_BUS.OV_LIM.get (m.rule (PH_BUS t)))
  let s5 := (s4.wr (PH_TIE t) PH_TIE.R_TIE (PH_TIE.R_TIE.get (m.rule (PH_TIE t)))).setImage (PH_TESTCFG t) (m.rule (PH_TESTCFG t))
  let s6 := (s5.setImage (DS_CFG t) (m.rule (DS_CFG t))).setImage (TH_CFG t) (m.val 7 t 2 0 0)
  s6.each (m.recs 7 t 1) (fun u r => u.setImage (TH_LIM t r.key) (r.words.getD 0 0))

/-- The loop plan and rules of a well: all wells (R136). -/
def State.applyLoop (s : State) (m : Img) (t w : Nat) : State :=
  let s1 := s.setImage (WL_EXP t w) (m.val 2 t 2 w 0)
  let s2 := s1.each (List.range 3) (fun u i => (u.setImage (WL_GAIN t w i) (m.val 2 t 3 w i)).setImage (WL_GAIN t w (3 + i)) (m.val 2 t 4 w i))
  let s3 := s2.setImage (WL_OUTER t w) (if w = 14 ∧ m.has 2 t 5 w = false then 0x4000000000000000 else m.val 2 t 5 w 0)
  ((s3.setImage (WL_WIN t w) (m.rule (WL_WIN t w))).setImage (WL_FRULE0 t w) (m.rule (WL_FRULE0 t w))).setImage (WL_FRULE1 t w) (m.rule (WL_FRULE1 t w))

/-- Motion, tracking and votes of wells 0-13; V_CMD takes V_BOOT (R142, R166, R167, R321). WL_TRACK.EN, which TRK sets, stands (R395). -/
def State.applyMotion (s : State) (m : Img) (t w : Nat) : State :=
  let s1 := s.each (List.range 3) (fun u i => u.setImage (WL_PROF t w i) (m.val 6 t 2 w i))
  let s2 := (s1.setImage (WL_MOTION0 t w) (m.val 6 t 2 w 3)).setImage (WL_MOTION1 t w) (m.val 6 t 2 w 4)
  let s3 := s2.wr (WL_SETPT t w) WL_SETPT.V_CMD (WL_MOTION0.V_BOOT.get (m.val 6 t 2 w 3))
  (s3.wr (WL_TRACK t w) ⟨63, 16⟩ ((⟨63, 16⟩ : Fld).get (m.val 3 t 1 w 0))).setImage (WL_VOTE_CFG t w) (m.val 8 t 2 w 0)

/-- RETIRED pumps of a well return to OFF, a follower is one no more (R72, R230). -/
def State.backToOff (s : State) (t w : Nat) : State :=
  s.each (s.pumpsOf t w) (fun u p =>
    let u1 := u.updPump t w p (fun q => { q with follower := false, lasting := false })
    if u.service t w p = 3 then u1.setService t w p 0 else if u.service t w p = 2 then u1.setService t w p 1 else u1)

/-- The engines of a tile forget their faults and run their self-tests (R131). -/
def State.restartEngines (s : State) (t : Nat) : State :=
  s.updEn t (fun _ => { dueA := true, dueB := true, startTest := true })

/-- Everything the image sets on one tile. -/
def State.acceptTile (s : State) (m : Img) (t : Nat) : State :=
  let s1 := ((s.unbindForImage t).applyTile m t).each (List.range 15) (fun u w => (u.applyLoop m t w).backToOff t w)
  let s2 := s1.each (List.range 14) (fun u w => u.applyMotion m t w)
  (s2.restartEngines t).mapIdentity t

/-- FC_REACT and IC_SRC of the fault sources 5-31: the image's reaction, or INT at priority 8 to target 0 (R65, R328). -/
def State.acceptReactions (s : State) (m : Img) : State :=
  s.each ((List.range 27).map (5 + ·)) (fun u n =>
    let x := if m.has 5 0xFF 1 n then FC_REACT.FIXED.set (m.val 5 0xFF 1 n 0) 0 else 0x1080100000000000
    let v := u.setImage (FC_REACT n) x
    (v.wr (IC_SRC n) IC_SRC.PRIO (FC_REACT.PRIO.get x)).wr (IC_SRC n) IC_SRC.TARGETS (FC_REACT.TARGETS.get x))

/-- What the image sets that no register shows (R62, R163, R354). -/
def State.acceptTables (s : State) (m : Img) : State :=
  let ts := List.range (imgTiles m.words)
  let trig := fun (x : Word) => ({ list := (⟨63, 56⟩ : Fld).get x, keep := (⟨55, 55⟩ : Fld).get x == 1, firstOnly := (⟨54, 54⟩ : Fld).get x == 1, holdoffMs := (⟨47, 32⟩ : Fld).get x } : Trigger)
  { s with
    img := { s.img with
      topo := ts.flatMap (fun t => (List.range 15).map (fun w => (16 * t + w, m.well t w)))
      tile := ts.map (fun t => (t, m.val 1 t 1 0 0))
      cist := ts.flatMap (fun t => (List.range 3).map (fun c => (3 * t + c, m.val 1 t 3 c 0)))
      programs := (m.recs 6 0xFF 1).map (fun r => (r.key, instrsOf r.words))
      trip := m.trip }
    rcd := { s.rcd with
      lists := (m.recs 10 0xFF 1).map (fun r => (r.key, listAddrs r.words))
      triggers := (m.recs 10 0xFF 2).map (fun r => (r.key, trig (r.words.getD 0 0)))
      heartH := (⟨63, 48⟩ : Fld).get (m.val 10 0xFF 3 0 0) } }

/-- HD_TOPO, the fabric identity, cap and placement, the sideband's list and static address (R41, R66, R72, R301). -/
def State.acceptWafer (s : State) (m : Img) : State :=
  let id := m.ident
  let s1 := ((s.wr HD_TOPO HD_TOPO.TILES (imgTiles m.words)).wr HD_TOPO HD_TOPO.ROWS (imgRows m.words)).wr HD_TOPO HD_TOPO.COLS (imgCols m.words)
  let s2 := (s1.wr HD_TOPO HD_TOPO.INSTANCE (idInstance.get id)).wr HD_SB_STAT HD_SB_STAT.STATIC_ADDR (idStatic.get id)
  let s3 := ((s2.setImage CG_CFG0 (m.val 8 0xFF 1 0 0)).setImage CG_CFG1 (m.val 8 0xFF 1 0 1)).setImage PL_CFG (m.val 9 0xFF 1 0 0)
  let s4 := (s3.wr CG_CAP CG_CAP.WAFER_LIM (m.waferLim s.fuses)).wr CG_CAL CG_CAL.K 0x4000
  let s5 : State := { s4 with
    sb := { s4.sb with ibiList := idIbi.get id }
    gov := { s4.gov with skipWins := s4.gov.skipWins ++ [s4.clk.beat / 4096] } }
  s5.linkIdentity (idInstance.get id) (idPrio.get id) (idLanes.get id)

/-- The image takes effect (R72): recorded, event 144; AUTO_PRIME starts on sequencer 0 (95: AUTO_PRIME_START). -/
def State.acceptImage (s : State) : State :=
  let m := imgOf s.load.slot
  let s1 := ((s.acceptWafer m).acceptTables m).acceptReactions m
  let s2 := ((s1.wr HD_IMG_STAT HD_IMG_STAT.STATE 4).each s1.allTiles (fun u t => u.acceptTile m t)).minSpares
  let s3 := (s2.wr HD_IMG_STAT HD_IMG_STAT.ACCEPTED 1).setReg HD_IMG_ID ((imgDigest m.words).extractLsb' 320 64)
  let s4 := (s3.wr HD_IMG_BUILD HD_IMG_BUILD.BUILD (imgBuild m.words)).updLoad (fun l => { l with passed := false })
  let s5 := (s4.record 6 0 [s4.reg HD_IMG_ERR, s4.reg HD_IMG_ID]).pend 144
  if imgAutoPrime m.words = 0 then s5 else s5.seqStart 0 (imgAutoPrime m.words) 1 0xFF 0xF

/-- IMAGE_ACCEPT: the end of APPLYING; an ABORT written in it discards the configuration (R72, R73); a tile that has stopped for its
temperature in APPLYING has not taken it (R73, R272). -/
def State.imageAccept (s : State) : State :=
  if s.imgState = 3 then
    if s.load.abort then s.abortLoad
    else if s.load.stopped || s.allTiles.any (fun t => s.silent t) then s.voidLoad 0xE 0xFF 0
    else s.acceptImage
  else s
def execImageAccept (s : State) : Host.Outcome State Fault Refusal := done s.imageAccept

end Sys2Proof.Machine
end

