-- ==== Sys2Proof/Machine/Fabric.lean ====
section
/-! DEFINITION. Discovery, root, routes and fabric time (R374-R382). -/

namespace Sys2Proof.Machine

open Sys2Proof

/-! ### ADV (R373-R375) -/

/-- A port as ADV advertises it: neighbour, its port, UP. -/
def State.advPort (s : State) (n : Nat) : Nat :=
  portField (s.rd (CL_PORT n) CL_PORT.NEIGHBOUR) (s.rd (CL_PORT n) CL_PORT.NPORT) + 2 * b2n (s.portUp n)

/-- The four port fields of ADV, port 0 in [63:48]. -/
def State.advPorts (s : State) : Word :=
  BitVec.ofNat 64 (((s.advPort 0 * 65536 + s.advPort 1) * 65536 + s.advPort 2) * 65536 + s.advPort 3)

def State.timeState (s : State) : Nat := s.rd CL_TIME CL_TIME.STATE

/-- ADV word 1 (R373). -/
def State.advWord (s : State) : Word :=
  (⟨63, 32⟩ : Fld).set ((⟨31, 24⟩ : Fld).set ((⟨23, 21⟩ : Fld).set ((⟨20, 18⟩ : Fld).set (BitVec.ofNat 64 s.jobId) s.timeState) s.jobState)
    (s.rd CL_STAT CL_STAT.ROOT_PRIO)) s.link.advSeq

/-- The ports that are UP. -/
def State.upPorts (s : State) : List Nat := (List.range 4).filter (fun n => s.portUp n)

/-- ADV_TX: flooded on every UP port with the next ADV_SEQ; none under an address conflict (R374, R375). -/
def State.advTx (s : State) : State :=
  if s.upPorts = [] ∨ s.flag CL_STAT CL_STAT.ADDR_CONFLICT then s
  else
    let s1 := s.updLink (fun l => { l with advSeq := (l.advSeq + 1) % 2 ^ 32 })
    let w := [s1.advWord, BitVec.ofNat 64 s1.clk.beat, s1.advPorts, s1.fuses.uid.extractLsb' 64 64, s1.fuses.uid.extractLsb' 0 64]
    s1.each s1.upPorts (fun u n => u.sendOn n (mkFrame 0x10 (u.rd (CL_PORT n) CL_PORT.NEIGHBOUR) u.inst 1 w))

def execAdvTx (s : State) : Host.Outcome State Fault Refusal := done s.advTx

/-- An ADV as it is held. -/
def advOf (f : LinkFrame) : AdvX :=
  { inst := frd f FR.SRC
    uid := pay f 4 ++ pay f 5
    seq := payBits f 1 63 32
    prio := payBits f 1 31 24
    job := payBits f 1 23 21
    time := payBits f 1 20 18
    jobId := payBits f 1 15 0
    ports := pay f 3 }

/-- Newer than what is held: a later ADV_SEQ in modulo-2^32 half-range order (R374). -/
def State.advNewer (s : State) (a : AdvX) : Bool :=
  match s.link.advs.find? (fun b => b.inst == a.inst && b.uid == a.uid) with
  | none => true
  | some b => let d := (a.seq + 2 ^ 32 - b.seq) % 2 ^ 32; decide (0 < d) && decide (d < 2 ^ 31)

/-- Another instance carries this INSTANCE (R375): job left at once, LINK raised. -/
def State.addrConflict (s : State) (uid : BitVec 128) : State :=
  let s1 := s.updLink (fun l => { l with conflict := some (s.inst, uid) })
  if s.flag CL_STAT CL_STAT.ADDR_CONFLICT then s1 else ((s1.wr CL_STAT CL_STAT.ADDR_CONFLICT 1).leaveNow true).linkRaise 3 0xF

/-- An ADV of the job's leader that no longer shows it in the job: the job elects (R385). -/
def State.leaderShown (s : State) (a : AdvX) : State :=
  if s.inJob && !s.leads && (a.inst == s.jobLeader) && !(a.jobId == s.link.job.id && (a.job == jbMember || a.job == jbLeader)) then s.electLeader else s

/-- A newer ADV is held and forwarded on the other UP ports (R374). -/
def State.advHold (s : State) (n : Nat) (f : LinkFrame) : State :=
  let a := advOf f
  if a.uid = s.fuses.uid then s
  else
    let s1 := if a.inst = s.inst then s.addrConflict a.uid else s
    if s1.advNewer a then
      let s2 := (s1.updLink (fun l => { l with advs := a :: l.advs.filter (fun b => !(b.inst == a.inst && b.uid == a.uid)) })).leaderShown a
      if frd f FR.HOPS = 0 then s2
      else s2.each (s2.upPorts.filter (· ≠ n)) (fun u k => u.sendOn k { f with header := FR.HOPS.set f.header (frd f FR.HOPS - 1) })
    else s1

def execAdv (n : Nat) (f : LinkFrame) (s : State) : Host.Outcome State Fault Refusal := done (s.acceptType n 0x10 f (·.advHold n f))

/-- ADV_EXPIRY: an ADV not renewed for 400 ms is dropped (R374). -/
def State.advExpiry (s : State) (inst : Nat) : State :=
  s.updLink (fun l => { l with advs := l.advs.filter (fun a => a.inst != inst) })

def execAdvExpiry (inst : Nat) (s : State) : Host.Outcome State Fault Refusal := done (s.advExpiry inst)

/-- One of the two has taken another INSTANCE (R375). -/
def State.conflictMoved (s : State) (inst : Nat) (uid : BitVec 128) : Bool :=
  s.inst != inst || s.link.advs.any (fun a => a.uid == uid && a.inst != inst)

/-- ADDR_CONFLICT_CLEAR: that, and 400 ms without a conflicting ADV (R375). -/
def State.conflictClear (s : State) : State :=
  match s.link.conflict with
  | none => s
  | some (inst, uid) =>
    if s.conflictMoved inst uid then
      (s.wr CL_STAT CL_STAT.ADDR_CONFLICT 0).updLink (fun l => { l with conflict := none })
    else s

def execAddrConflictClear (s : State) : Host.Outcome State Fault Refusal := done s.conflictClear

/-! ### Routes (R374, R376, R377) -/

/-- Port field k of an ADV. -/
def portOf (w : Word) (k : Nat) : Nat := (⟨63 - 16 * k, 48 - 16 * k⟩ : Fld).get w

/-- The instances a node reaches over links that both ends advertise as UP, with the port (R374). -/
def linksOf (nodes : List (Nat × Word)) (a : Nat) (w : Word) : List (Nat × Nat) :=
  ((List.range 4).filter (fun k => bit (portOf w k) 1 &&
    nodes.any (fun b => b.1 == portOf w k / 16 && portOf b.2 (portOf w k / 4 % 4) == portField a k + 2 + portOf b.2 (portOf w k / 4 % 4) % 2))).map
      (fun k => (k, portOf w k / 16))

/-- Add a mask to an instance's entry. -/
def addMask (l : List (Nat × Nat)) (d m : Nat) : List (Nat × Nat) :=
  if l.any (·.1 == d) then l.map (fun e => if e.1 = d then (d, e.2 ||| m) else e) else l ++ [(d, m)]

/-- The next level of the search: instances one hop further, with the masks of the ports that lead there. -/
def nextLevel (nodes : List (Nat × Word)) (seen : List Nat) (level : List (Nat × Nat)) : List (Nat × Nat) :=
  level.foldl (fun out e =>
    (nodes.filter (·.1 == e.1)).foldl (fun o b =>
      (linksOf nodes b.1 b.2).foldl (fun o2 x => if seen.contains x.2 then o2 else addMask o2 x.2 e.2) o) out) []

/-- Levels of the search from hop `h`: instance, hops, mask (R377). -/
def levels (nodes : List (Nat × Word)) : Nat → Nat → List Nat → List (Nat × Nat) → List (Nat × Nat × Nat)
  | 0, _, _, _ => []
  | k + 1, h, seen, level =>
    let here := level.map (fun e => (e.1, h, e.2))
    let seen2 := seen ++ level.map (·.1)
    here ++ levels nodes k (h + 1) seen2 (nextLevel nodes seen2 level)

/-- The nodes of the fabric: this instance and the ADVs held of others. -/
def State.nodes (s : State) : List (Nat × Word) :=
  (s.inst, s.advPorts) :: (s.link.advs.filter (fun a => a.inst != s.inst)).map (fun a => (a.inst, a.ports))

/-- Shortest routes of up to 15 hops: instance, hops, mask of first ports (R377). -/
def State.routes (s : State) : List (Nat × Nat × Nat) :=
  let first := (linksOf s.nodes s.inst s.advPorts).foldl (fun o x => if x.2 = s.inst then o else addMask o x.2 (2 ^ x.1)) []
  levels s.nodes 15 1 [s.inst] first

/-- CL_ROUTE of every instance: the routes, no hop to itself, 0xF0 for the others (R377). -/
def State.writeRoutes (s : State) (rs : List (Nat × Nat × Nat)) : State :=
  let s1 : State := { s with regs := s.regs.clear (fun a => decide (CL_ROUTE 0 ≤ a) && decide (a < CL_ROUTE 4096)) }
  (s1.each rs (fun u r => u.setReg (CL_ROUTE r.1) (CL_ROUTE.HOPS.set (CL_ROUTE.PORTS.set 0 r.2.2) r.2.1))).setReg (CL_ROUTE s.inst) 0

/-- The instances that carry one INSTANCE with several LC_UIDs (R375, R376). -/
def State.conflicting (s : State) (d : Nat) : Bool :=
  if d = s.inst then s.flag CL_STAT CL_STAT.ADDR_CONFLICT
  else decide (1 < (s.link.advs.filter (fun a => a.inst == d)).length)

/-- The better of two candidates: higher ROOT_PRIO, then lower INSTANCE (R376). -/
def better (a b : Nat × Nat) : Nat × Nat := if a.2 < b.2 ∨ (a.2 = b.2 ∧ b.1 < a.1) then b else a

/-- The root among this instance and the reachable ones (R376). -/
def State.electRoot (s : State) : Option Nat :=
  let own := (s.inst, s.rd CL_STAT CL_STAT.ROOT_PRIO)
  let others := (s.link.advs.filter (fun a => a.inst != s.inst && s.reaches a.inst)).map (fun a => (a.inst, a.prio))
  let cs := (own :: others).filter (fun c => c.2 != 0 && !s.conflicting c.1)
  match cs with
  | [] => none
  | c :: r => some (r.foldl better c).1

/-! ### Fabric time (R376, R380-R382) -/

abbrev tmFree := 0
abbrev tmRoot := 1
abbrev tmFollow := 2
abbrev tmAligning := 3
abbrev tmOut := 4
abbrev tmAhead := 5

/-- The DCO gets another source: the phase of the old one is left in HOLDOVER until the new one is qualified (R100, R380). -/
def State.newSource (s : State) : State :=
  let s1 := s.each (List.range 4) (fun u n => u.updPort n (fun p => { p with offsets := [] }))
  let s2 := s1.wr CL_TIME CL_TIME.OFFSET 0
  if s2.ckMode = ckLocked ∨ s2.ckMode = ckPullIn then
    let hold := if s2.ckMode = ckPullIn then s2.dcoNow else s2.dcoMean
    (s2.wr HD_CLK HD_CLK.MODE ckHoldover).slewDco hold
  else s2

/-- Time state, source and parent port; a change of the source followed leaves the old one. -/
def State.setTime (s : State) (st src parent : Nat) : State :=
  let s1 := ((s.wr CL_TIME CL_TIME.STATE st).wr CL_TIME CL_TIME.SRC src).wr CL_TIME CL_TIME.PARENT parent
  if src ≠ s.rd CL_TIME CL_TIME.SRC ∨ (src = 1 ∧ parent ≠ s.rd CL_TIME CL_TIME.PARENT) then s1.newSource else s1

/-- The root is known: this instance, another one, or none (R376, R380, R385, R391). -/
def State.setRoot (s : State) (r : Option Nat) : State :=
  let st := s.timeState
  match r with
  | none =>
    let s1 := (((s.wr CL_STAT CL_STAT.ROOT 0).wr CL_STAT CL_STAT.ROOT_HOPS 0).wr CL_STAT CL_STAT.NO_ROOT 1).setTime tmFree 0 0xF
    let s2 := if st = tmFree then s1 else s1.leaveSoon true
    if st = tmFollow then s2.linkRaise 5 0xF else s2
  | some d =>
    let s1 := (s.wr CL_STAT CL_STAT.ROOT d).wr CL_STAT CL_STAT.NO_ROOT 0
    if d = s.inst then (s1.wr CL_STAT CL_STAT.ROOT_HOPS 0).setTime tmRoot 0 0xF
    else
      let s2 := s1.wr CL_STAT CL_STAT.ROOT_HOPS (s.routeHops d)
      let parent := (maskPorts (s.routeMask d)).headD 0xF
      if st = tmAhead then s2.setTime st 0 parent
      else s2.setTime (if st = tmOut ∨ st = tmAligning then st else tmFollow) 1 parent

/-- Frames of a fallen port go out on their new routes, oldest first; those without one are discarded (R378). -/
def State.sendAgain (s : State) : State :=
  (s.updLink (fun l => { l with reroute := [] })).each s.link.reroute (fun u e => u.routeFrom e.1 e.2)

/-- ROUTE_RECOMPUTE (R374, R376-R378). -/
def State.routeRecompute (s : State) : State :=
  let rs := s.routes
  let s1 := (s.writeRoutes rs).wr CL_STAT CL_STAT.NODES (rs.length + 1)
  (s1.setRoot s1.electRoot).sendAgain

def execRouteRecompute (s : State) : Host.Outcome State Fault Refusal := done s.routeRecompute

/-! ### MARK (R379) -/

/-- A timestamp of this end: the wafer beat counter and a position in the beat in 1/64 ns. -/
def State.stamp (s : State) (pos : Nat) : Word := BitVec.ofNat 64 ((s.clk.beat % 2 ^ 50) * 2 ^ 14 + pos)

/-- MARK_TX: T_TX, and what came last from the peer (R379). -/
def State.markTx (s : State) (n pos : Nat) : State :=
  if s.portUp n ∧ pos < 16000 then
    let p := s.port_ n
    s.sendOn n (mkFrame 0x03 (s.rd (CL_PORT n) CL_PORT.NEIGHBOUR) s.inst 0 [s.stamp pos, p.echoTx, p.echoRx])
  else s

def execMarkTx (n pos : Nat) (s : State) : Host.Outcome State Fault Refusal := done (s.markTx n pos)

/-- A timestamp in 1/64 ns. -/
def stampTime (w : Word) : Int := (((⟨63, 14⟩ : Fld).get w * 16000 + (⟨13, 0⟩ : Fld).get w : Nat) : Int)

/-- The difference of two timestamps, the beat counts taken modulo 2^50. -/
def stampDiff (a b : Word) : Int :=
  let m : Int := 16000 * 2 ^ 50
  let d := (stampTime a - stampTime b) % m
  if d < m / 2 then d else d - m

/-- Twice the delay and twice the offset of a MARK (R379). -/
def markDelay (t1 t2 t3 t4 : Word) : Int := stampDiff t4 t2 - stampDiff t1 t3
def markOffset (t1 t2 t3 t4 : Word) : Int := markDelay t1 t2 t3 t4 - 2 * stampDiff t3 t2

/-- The mean of doubled samples of 1/64 ns in units of `u`/64 ns. -/
def meanHalf (l : List Int) (u : Nat) : Int := roundDiv (l.foldl (· + ·) 0) (2 * u * l.length)

/-- The mean figures after a sample: DELAY in 1/8 ns, OFFSET against the parent in 1/16 ns (R379). -/
def State.showMark (s : State) (n : Nat) : State :=
  let p := s.port_ n
  let s1 := s.wr (CL_PORT n) CL_PORT.DELAY (clampI 0 0x3FFF (meanHalf p.delays 8)).toNat
  if s.rd CL_TIME CL_TIME.PARENT = n then s1.wri CL_TIME CL_TIME.OFFSET (clampI (-32768) 32767 (meanHalf p.offsets 4)) else s1

/-- The first boundary of the parent at least 250 ns ahead: its number, and the ns up to it; from this instance's offset against the
parent in 1/64 ns (R382). -/
def State.parentBoundary (s : State) (off : Int) : Nat × Nat :=
  let now : Int := ((s.clk.beat * 16000 + (250 - s.clk.beatLeft) * 64 : Nat) : Int) - off
  let n := (now + 16000 + 15999) / 16000
  (n.toNat, ((n * 16000 - now + 32) / 64).toNat)

/-- The parent's offset at full width: the mean of the samples, which CL_TIME.OFFSET holds within its range. -/
def State.offsetWide (s : State) : Int := meanHalf (s.port_ (s.rd CL_TIME CL_TIME.PARENT)).offsets 1

/-- A step is needed: OUT_OF_STEP, or AHEAD where the count would not grow; the job is left at once, and LINK raised (R382). -/
def State.needStep (s : State) : State :=
  if s.timeState = tmFollow then
    let ahead := decide ((s.parentBoundary s.offsetWide).1 ≤ s.clk.beat)
    let s1 := if ahead then s.setTime tmAhead 0 (s.rd CL_TIME CL_TIME.PARENT) else s.wr CL_TIME CL_TIME.STATE tmOut
    (s1.leaveNow true).linkRaise 4 0xF
  else s

/-- A MARK arrives: its stamps are kept for the echo, and one that answers a MARK of this end gives a sample (R379). The beat counts
of the two ends differ where the parent's offset exceeds half a beat (R382). -/
def State.markCome (s : State) (n : Nat) (f : LinkFrame) (pos : Nat) : State :=
  let t4 := s.stamp pos
  let s1 := s.updPort n (fun p => { p with echoTx := pay f 1, echoRx := t4 })
  if pay f 2 = 0 ∨ (⟨63, 14⟩ : Fld).get (pay f 2) < s.link.stampFrom % 2 ^ 50 then s1
  else
    let o := markOffset (pay f 1) (pay f 2) (pay f 3) t4
    let s2 := (s1.updPort n (fun p => { p with
      delays := (markDelay (pay f 1) (pay f 2) (pay f 3) t4 :: p.delays).take 16
      offsets := (o :: p.offsets).take 16 })).showMark n
    if (s2.rd CL_TIME CL_TIME.PARENT = n) ∧ 16000 < o.natAbs then s2.needStep else s2

def execMark (n : Nat) (f : LinkFrame) (pos : Nat) (s : State) : Host.Outcome State Fault Refusal :=
  done (if pos < 16000 then s.acceptType n 0x03 f (·.markCome n f pos) else s)

/-! ### Following and stepping (R380, R382) -/

/-- FOLLOW_UPDATE: the law of R100 with OFFSET clamped to 5 ns (R380). -/
def State.followUpdate (s : State) (fref : Int) : State :=
  if s.follows then s.dcoStep fref (clampI (-5000) 5000 (roundDiv (s.rdi CL_TIME CL_TIME.OFFSET * 125) 2)) else s

def execFollowUpdate (fref : Int) (s : State) : Host.Outcome State Fault Refusal := done (s.followUpdate fref)

/-- PARENT_LOST: no MARK of the parent for 40 us (R380). -/
def execParentLost (s : State) : Host.Outcome State Fault Refusal := done (if s.follows then s.sourceLost else s)

/-- TIME_OFFSET_EXCEEDED: |OFFSET| above 50 ns for 1 ms (R382). -/
def State.offsetExceeded (s : State) : State := if 800 < (s.rdi CL_TIME CL_TIME.OFFSET).natAbs then s.needStep else s

def execTimeOffsetExceeded (s : State) : Host.Outcome State Fault Refusal := done s.offsetExceeded

/-- Every Pumphouse DORMANT, no slice PLAYING, no safe priming (R382). -/
def State.stepOpen (s : State) : Bool :=
  s.allTiles.all (fun t => s.rd (PH_PWR t) PH_PWR.STATE == 1 && s.dsState t != dsPlaying) && !s.safeOn

/-- TIME_STEP: ALIGNING until the next beat boundary, which falls on the parent's and takes its number; AHEAD where the count would
not grow (R382). -/
def State.timeStep (s : State) : State :=
  if s.timeState = tmOut ∧ s.stepOpen then
    let (n, ns) := s.parentBoundary s.offsetWide
    if n ≤ s.clk.beat then (s.setTime tmAhead 0 (s.rd CL_TIME CL_TIME.PARENT)).linkRaise 4 0xF
    else { (s.wr CL_TIME CL_TIME.STATE tmAligning) with clk := { s.clk with
      beatLeft := ns
      stepTo := some n } }
  else s

def execTimeStep (s : State) : Host.Outcome State Fault Refusal := done s.timeStep

/-- The step is done as its boundary comes: the count has its number, the samples of the old count are gone, ALIGNS counts (R382). -/
def State.stepDone (s : State) : State :=
  match s.clk.stepTo with
  | none => s
  | some n =>
    let s1 : State := { s with clk := { s.clk with beat := n, stepTo := none } }
    let s2 := s1.updLink (fun l => { l with stampFrom := n })
    let s3 := s2.each (List.range 4) (fun u k => u.updPort k (fun p => { p with echoTx := 0, echoRx := 0, delays := [], offsets := [] }))
    let s4 := (s3.wr CL_TIME CL_TIME.OFFSET 0).bump CL_TIME
    if s4.timeState = tmAligning then s4.wr CL_TIME CL_TIME.STATE tmFollow else s4

end Sys2Proof.Machine
end

