-- ==== Sys2Proof/Machine/Job.lean ====
section
/-! DEFINITION. Jobs, agreements, SYNCs and shares, and what the link does at beat boundaries (R383-R388, R393). -/

namespace Sys2Proof.Machine

open Sys2Proof

/-! ### Joining (R383) -/

def State.refuseJoin (s : State) (code : Nat) : State :=
  ((s.setJob jbSolo).wr CL_JOB CL_JOB.LEADER 0).wr CL_JOB CL_JOB.REFUSE code |>.updJob (fun j => { mine := j.mine, play := j.play, rejoin := j.rejoin })

/-- JOIN goes to the job's leader. -/
def State.sendJoin (s : State) : State :=
  (s.updJob (fun j => { j with tries := j.tries + 1 })).sendTo s.jobLeader 0x20 1
    [BitVec.ofNat 64 (s.link.job.id * 2 ^ 48 + s.rd CG_CFG0 CG_CFG0.APPLY_BEATS * 2 ^ 32)]

/-- An accepted JOIN: to the lowest reachable member, or as the leader of a new job from the next window boundary (R383). -/
def State.beginJoin (s : State) : State :=
  let s1 := (s.setJob jbJoining).updJob (fun j => { id := s.jobId, mine := j.mine, play := j.play, rejoin := j.rejoin })
  match leastOf (s.jobPeers s.jobId) with
  | some l => (s1.wr CL_JOB CL_JOB.LEADER l).sendJoin
  | none => (s1.wr CL_JOB CL_JOB.LEADER s.inst).updJob (fun j => { j with first := some (s.winNow + 1), lead := true })

/-- The first of R383's conditions that fails: 0 for none, 7 for a JOB_ID of zero, which has no REFUSE code. -/
def State.joinBar (s : State) : Nat :=
  if s.jobId = 0 then 7
  else if s.active = false then 1
  else if s.timeState ≠ tmRoot ∧ s.timeState ≠ tmFollow then 2
  else if s.flag CL_STAT CL_STAT.ADDR_CONFLICT then 3
  else 0

/-- A JOIN in SOLO. -/
def State.joinCmd (s : State) : State :=
  if s.jobState ≠ jbSolo then s
  else if s.joinBar = 0 then s.beginJoin
  else s.wr CL_JOB CL_JOB.REFUSE (if s.joinBar = 7 then 0 else s.joinBar)

/-- LEAVE: JOB_ID becomes 0, and the instance does not join again (R385). -/
def State.leaveCmd (s : State) : State :=
  ((s.wr CL_JOB CL_JOB.JOB_ID 0).updJob (fun j => { j with rejoin := false })).leaveSoon false

/-- A write of CL_JOB: JOB_ID in SOLO only; LEAVE before JOIN (R383, R385). -/
def State.jobWrite (s : State) (d : Word) : State :=
  let s1 := if s.jobState = jbSolo then s.wr CL_JOB CL_JOB.JOB_ID (CL_JOB.JOB_ID.get d) else s
  if CL_JOB.LEAVE.get d = 1 then s1.leaveCmd else if CL_JOB.JOIN.get d = 1 then s1.joinCmd else s1

def execJoin (d : Word) (s : State) : Host.Outcome State Fault Refusal := hostOp s CL_JOB d (·.jobWrite d)
/-- The same register write, named for its LEAVE bit. -/
def execLeave (d : Word) (s : State) : Host.Outcome State Fault Refusal := hostOp s CL_JOB d (·.jobWrite d)

/-- JOIN_RETRY: 1 ms without ADMIT; after three JOINs the join is refused (R383). -/
def State.joinRetry (s : State) : State :=
  if s.jobState = jbJoining ∧ s.link.job.first = none then (if s.link.job.tries < 3 then s.sendJoin else s.refuseJoin 6) else s

def execJoinRetry (s : State) : Host.Outcome State Fault Refusal := done s.joinRetry

/-- LAT of a set of members: 3 beats a hop to the farthest, plus 4 (R384). -/
def State.latOf (s : State) (ms : List Nat) : Nat := 3 * (ms.map s.routeHops).foldl max 0 + 4

/-- MEMBERS as the leader counts them. -/
def State.countMembers (s : State) : State := s.wr CL_JOB CL_JOB.MEMBERS (s.link.job.members.length + 1)

/-- At a window boundary the leader also recomputes LAT (R384). -/
def State.showMembers (s : State) : State :=
  s.countMembers.wr CL_JOB CL_JOB.LAT (min 127 (s.latOf (s.link.job.members.map (·.inst))))

def admitWords (id refusal first : Nat) : List Word := [BitVec.ofNat 64 (id * 2 ^ 48 + refusal * 2 ^ 8), BitVec.ofNat 64 first]

/-- A JOIN at the leader: ADMIT for the present window + 2, or its refusal (R383); none is admitted without a root (R376). -/
def State.joinCome (s : State) (f : LinkFrame) : State :=
  let m := frd f FR.SRC
  let id := s.link.job.id
  if s.leads && (s.jobState == jbLeader) && (payBits f 1 63 48 == id) && !s.flag CL_STAT CL_STAT.NO_ROOT then
    let apply := s.rd CG_CFG0 CG_CFG0.APPLY_BEATS
    let lat := s.latOf (m :: s.link.job.members.map (·.inst))
    if payBits f 1 41 32 ≠ apply then s.sendTo m 0x21 1 (admitWords id 4 0)
    else if apply < 256 + 2 * lat then s.sendTo m 0x21 1 (admitWords id 5 0)
    else
      let s1 := s.updJob (fun j => { j with members := j.members.filter (fun e => e.inst != m) ++ [{ inst := m, first := s.winNow + 2 }] })
      s1.countMembers.sendTo m 0x21 1 (admitWords id 0 (s.winNow + 2))
  else s

def execJoinFrame (n : Nat) (f : LinkFrame) (s : State) : Host.Outcome State Fault Refusal := done (s.acceptMine n 0x20 f (·.joinCome f))

/-- An ADMIT: the first window of membership, a refused join, or a drop by the leader (R383-R385). -/
def State.admitCome (s : State) (f : LinkFrame) : State :=
  let code := payBits f 1 11 8
  if frd f FR.SRC = s.jobLeader ∧ payBits f 1 63 48 = s.link.job.id then
    if s.jobState = jbJoining then
      if code = 0 then (s.wr CL_JOB CL_JOB.REFUSE 0).updJob (fun j => { j with first := some (pay f 2).toNat }) else s.refuseJoin code
    else if s.jobState = jbMember ∧ code ≠ 0 then (s.wr CL_JOB CL_JOB.REFUSE code).leaveSoon true
    else s
  else s

def execAdmitFrame (n : Nat) (f : LinkFrame) (s : State) : Host.Outcome State Fault Refusal := done (s.acceptMine n 0x21 f (·.admitCome f))

/-- JOB_MEMBERSHIP_START: window F opens: MEMBER, or LEADER of a new job (R383). PLAY of that moment goes out with the first NEED (R386). -/
def State.membershipStart (s : State) : State :=
  match s.link.job.first with
  | some f =>
    if s.jobState = jbJoining ∧ f ≤ s.winNow then
      let s1 := (s.wr CG_STAT CG_STAT.SOLO 0).updJob (fun j => { j with first := none, play := s.anyPlay })
      if s.link.job.lead then ((s1.setJob jbLeader).wr CL_JOB CL_JOB.REFUSE 0).showMembers else s1.setJob jbMember
    else s
  | none => s

def execJobMembershipStart (s : State) : Host.Outcome State Fault Refusal := done s.membershipStart

/-- A member that left: it and its SYNCs are removed (R385, R387). -/
def State.dropMember (s : State) (m : Nat) : State :=
  (s.updJob (fun j => { j with
    members := j.members.filter (fun e => e.inst != m)
    syncs := j.syncs.filter (fun e => e.src != m) })).countMembers

/-! ### Agreement (R386) -/

def State.windowBeat (s : State) : Nat := 4096 * s.winNow

/-- The members that take part in the present window. -/
def State.present (s : State) : List Member := s.link.job.members.filter (fun m => decide (m.first ≤ s.winNow))

/-- The r_need of each post held for the window, the leader's own included. -/
def State.needsHeld (s : State) : List Nat :=
  let win := s.winNow
  ((s.link.job.posted.toList ++ s.present.filterMap (·.need)).filter (fun p => p.1 == win)).map (·.2)

/-- AGREE goes out: the largest r_need, the posts counted, the apply beat; this instance holds it too. -/
def State.sendAgree (s : State) : State :=
  let win := s.winNow
  let ns := s.needsHeld
  let r := ns.foldl max 0
  let at_ := s.windowBeat + s.rd CG_CFG0 CG_CFG0.APPLY_BEATS
  let s1 := s.updJob (fun j => { j with agreedWin := some win })
  let w := [BitVec.ofNat 64 win, BitVec.ofNat 64 (r * 2 ^ 60 + ns.length * 2 ^ 47), BitVec.ofNat 64 at_]
  let s2 := s1.each s.present (fun u m => u.sendTo m.inst 0x24 1 w)
  { s2 with gov := { s2.gov with agreed := some r } }

/-- The leader has not yet sent AGREE for the present window. -/
def State.agreeOpen (s : State) : Bool := s.leads && (s.link.job.agreedWin != some s.winNow)

/-- At a beat boundary: every post is held (R386). -/
def State.agreeIfAll (s : State) : State :=
  if s.agreeOpen && (s.link.job.posted.any (fun p => p.1 == s.winNow)) && s.present.all (fun m => m.need.any (fun p => p.1 == s.winNow)) then s.sendAgree
  else s

/-- A NEED at the leader: PLAY always, r_need unless AGREE has gone out (R386, R393). -/
def State.needCome (s : State) (f : LinkFrame) : State :=
  let m := frd f FR.SRC
  let win := (pay f 1).toNat
  s.updJob (fun j => { j with members := j.members.map (fun e =>
    if e.inst = m then { e with
      play := payBits f 2 59 59 == 1
      need := if win = s.winNow && s.agreeOpen then some (win, payBits f 2 63 60) else e.need }
    else e) })

/-- AGREE_DEADLINE: W + 192 + LAT (R386). -/
def State.agreeDeadline (s : State) : State :=
  if s.agreeOpen && !s.needsHeld.isEmpty then s.sendAgree else s

def execAgreeDeadline (s : State) : Host.Outcome State Fault Refusal := done s.agreeDeadline

/-- An AGREE at a member: held if it comes by the commit beat and its own r_need is not larger (R287, R288, R386). -/
def State.agreeCome (s : State) (f : LinkFrame) : State :=
  let r := payBits f 2 63 60
  let at_ := (pay f 3).toNat
  if s.inJob && (frd f FR.SRC == s.jobLeader) && ((pay f 1).toNat == s.winNow) && decide (s.clk.beat + 64 ≤ at_) &&
      decide (s.rd CG_STAT CG_STAT.R_NEED ≤ r) then
    { s with gov := { s.gov with agreed := some r, applyAt := at_ } }
  else s

def execAgree (n : Nat) (f : LinkFrame) (s : State) : Host.Outcome State Fault Refusal :=
  done (s.acceptMine n 0x24 f (fun u => u.once n f 0 (pay f 1).toNat (·.agreeCome f)))

/-! ### SYNC (R387) -/

/-- The SYNC waits on this instance for its release. -/
def State.holdsSync (s : State) (id par : Nat) : Bool := s.link.job.mine.any (fun x => x.id == id && x.par == par)

/-- Release on every tile of the wafer at Br. -/
def State.releaseSync (s : State) (id par br : Nat) : State :=
  (s.updJob (fun j => { j with mine := j.mine.filter (fun x => !(x.id == id && x.par == par)) })).completeAll id br

/-- The members whose SYNC_DONE a round waits for: those whose last PLAY was 1, this instance among them (R387). -/
def State.syncParties (s : State) : List Nat :=
  (if s.anyPlay then [s.inst] else []) ++ (s.present.filter (·.play)).map (·.inst)

/-- One round at B_L: once all are held, Br goes out (R387). -/
def State.syncRound (s : State) (id par : Nat) : State :=
  let xs := s.link.job.syncs.filter (fun x => x.id == id && x.par == par)
  if s.syncParties.all (fun m => xs.any (fun x => x.src == m)) then
    let br := (xs.map (fun x => x.bc + x.g)).foldl max (s.clk.beat + s.rd CL_JOB CL_JOB.LAT)
    let s1 := s.updJob (fun j => { j with syncs := j.syncs.filter (fun x => !(x.id == id && x.par == par)) })
    let s2 := s1.each s.present (fun u m => u.sendTo m.inst 0x26 1 [BitVec.ofNat 64 (id * 2 ^ 56 + par * 2 ^ 55), BitVec.ofNat 64 br])
    if s2.holdsSync id par then s2.releaseSync id par br else s2
  else s

/-- At a beat boundary the leader goes through the rounds it holds. -/
def State.syncRounds (s : State) : State :=
  if s.leads then s.each (s.link.job.syncs.map (fun x => (x.id, x.par))).eraseDups (fun u k => u.syncRound k.1 k.2) else s

/-- In no job a SYNC releases at Bc + G (R387). -/
def State.syncSolo (s : State) : State :=
  if s.inJob then s else s.each s.link.job.mine (fun u x => u.releaseSync x.id x.par (max u.clk.beat (x.bc + x.g)))

/-! ### Shares (R388) -/

/-- The requests of the present window. -/
def State.reqsNow (s : State) : List ShareReq := s.link.reqs.filter (fun r => r.win == s.winNow)

/-- One instance's share; none where SYSCAP is 0 (R388). -/
def shareOf (cap : Nat) (reqs : List ShareReq) (r : ShareReq) : Option Nat :=
  let sum := (reqs.map (·.d)).foldl (· + ·) 0
  if cap = 0 then none else if sum ≤ cap then some r.l else some (cap * r.d / sum)

/-- A share reaches this instance: VALID and AGE 0, or none (R279, R388). -/
def State.takeShare (s : State) (x : Option Nat) : State :=
  match x with
  | none => s.wr CG_SHARE CG_SHARE.VALID 0
  | some v =>
    let s1 := ((s.wr CG_SHARE CG_SHARE.SHARE v).wr CG_SHARE CG_SHARE.AGE 0).wr CG_SHARE CG_SHARE.VALID 1
    { s1 with gov := { s1.gov with renewed := true } }

/-- The root answers the requests it holds (R388). -/
def State.answerShares (s : State) : State :=
  let rs := s.reqsNow
  let cap := s.rd CL_SYSCAP CL_SYSCAP.SYSCAP
  let s1 := s.updLink (fun l => { l with reqs := [], shareWin := some s.winNow })
  s1.each rs (fun u r =>
    let x := shareOf cap rs r
    if r.inst = u.inst then u.takeShare x
    else u.sendTo r.inst 0x28 1 [BitVec.ofNat 64 s.winNow, BitVec.ofNat 64 (x.elim (2 ^ 39) (fun v => v * 2 ^ 40))])

/-- The root has requests to answer. -/
def State.shareOpen (s : State) : Bool := (s.timeState == tmRoot) && (s.link.shareWin != some s.winNow) && !s.reqsNow.isEmpty

/-- At a beat boundary: a request of every reachable instance is held. -/
def State.shareIfAll (s : State) : State :=
  let asked := s.reqsNow.map (·.inst)
  let all := s.inst :: (s.link.advs.filter (fun a => a.inst != s.inst && s.reaches a.inst)).map (·.inst)
  if s.shareOpen && all.all (fun d => asked.contains d) then s.answerShares else s

/-- SHARE_DEADLINE: W + 512 beats. -/
def State.shareDeadline (s : State) : State :=
  if s.shareOpen then s.answerShares else s

def execShareDeadline (s : State) : Host.Outcome State Fault Refusal := done s.shareDeadline

def execShare (n : Nat) (f : LinkFrame) (s : State) : Host.Outcome State Fault Refusal :=
  done (s.acceptMine n 0x28 f (fun u => u.once n f 0 (pay f 1).toNat (fun v =>
    if frd f FR.SRC = v.rd CL_STAT CL_STAT.ROOT then v.takeShare (if payBits f 2 39 39 = 1 then none else some (payBits f 2 63 40)) else v)))

/-! ### Beat boundaries -/

/-- What falls at the beat boundary at which the leader or the root holds everything (R386-R388). -/
def State.heldAll (s : State) : State := s.agreeIfAll.syncRounds.shareIfAll.syncSolo

/-- A frame that arrives in the instant of a beat boundary is held at it. -/
def State.atBoundary (s : State) : State := if s.clk.beatLeft = 250 then s.heldAll else s

def execLeaveFrame (n : Nat) (f : LinkFrame) (s : State) : Host.Outcome State Fault Refusal :=
  done (s.acceptMine n 0x22 f (fun u => if u.leads && (payBits f 1 63 48 == u.link.job.id) then (u.dropMember (frd f FR.SRC)).atBoundary else u))

def execNeed (n : Nat) (f : LinkFrame) (s : State) : Host.Outcome State Fault Refusal :=
  done (s.acceptMine n 0x23 f (fun u => u.once n f 0 (2 * (pay f 1).toNat + payBits f 2 59 59) (fun v => if v.leads then (v.needCome f).atBoundary else v)))

/-- SYNC_DONE at the leader. -/
def State.syncDoneCome (s : State) (f : LinkFrame) : State :=
  let m := frd f FR.SRC
  if s.leads && s.link.job.members.any (fun e => e.inst == m) then
    (s.updJob (fun j => { j with syncs := j.syncs ++ [⟨payBits f 1 63 56, payBits f 1 55 55, m, (pay f 2).toNat, payBits f 1 3 0⟩] })).atBoundary
  else s

def execSyncDone (n : Nat) (f : LinkFrame) (s : State) : Host.Outcome State Fault Refusal :=
  done (s.acceptMine n 0x25 f (fun u => u.once n f (payBits f 1 63 56) (payBits f 1 55 55) (·.syncDoneCome f)))

/-- SYNC_REL at a member: held at least one beat before Br it releases there; else at the next beat boundary, with SYNC_LATE (R387). -/
def State.syncRelCome (s : State) (f : LinkFrame) : State :=
  let id := payBits f 1 63 56
  let par := payBits f 1 55 55
  let br := (pay f 2).toNat
  if s.inJob && (frd f FR.SRC == s.jobLeader) && s.holdsSync id par then
    if s.clk.beat + 2 ≤ br ∨ (s.clk.beat + 1 = br ∧ s.clk.beatLeft = 250) then s.releaseSync id par br
    else (s.releaseSync id par (s.clk.beat + 1)).linkRaise 6 0xF
  else s

def execSyncRel (n : Nat) (f : LinkFrame) (s : State) : Host.Outcome State Fault Refusal :=
  done (s.acceptMine n 0x26 f (fun u => u.once n f (payBits f 1 63 56) (payBits f 1 55 55) (·.syncRelCome f)))

def execShareReq (n : Nat) (f : LinkFrame) (s : State) : Host.Outcome State Fault Refusal :=
  done (s.acceptMine n 0x27 f (fun u => u.once n f 0 (pay f 1).toNat (fun v =>
    if v.timeState = tmRoot then (v.updLink (fun l => { l with
      reqs := l.reqs.filter (fun r => r.inst != frd f FR.SRC) ++ [⟨frd f FR.SRC, (pay f 1).toNat, payBits f 2 63 32, payBits f 2 31 0⟩] })).atBoundary
    else v)))

/-- GAP of a wafer-scoped gate: the largest of the tiles that take part. -/
def State.waferGap (s : State) (id : Nat) : Nat :=
  (s.gateTiles id).foldl (fun a t => max a ((s.gateEntry t id).elim 0 (fun e => ebits e 18 15))) 0

/-- WAFER_GATE_COMPLETE: every tile that takes part has reported: release at Bc + max(GAP, 4); a SYNC of a wafer in a job goes to the
leader first (R196, R387). -/
def State.waferGateComplete (s : State) (id : Nat) : State :=
  let ts := s.gateTiles id
  if ts ≠ [] ∧ ts.all (fun t => (s.gate t id).reported) then
    let g := max (s.waferGap id) 4
    let par := (s.gate (ts.headD 0) id).par
    if s.gateSync id && s.inJob then
      if s.holdsSync id par then s
      else
        let x : SyncX := ⟨id, par, s.inst, s.clk.beat, g⟩
        let s1 := s.updJob (fun j => { j with mine := j.mine ++ [x] })
        if s.leads then (s1.updJob (fun j => { j with syncs := j.syncs ++ [x] })).atBoundary
        else s1.sendTo s.jobLeader 0x25 1 [BitVec.ofNat 64 (id * 2 ^ 56 + par * 2 ^ 55 + g), BitVec.ofNat 64 s.clk.beat]
    else s.completeAll id (s.clk.beat + g)
  else s

def execWaferGateComplete (id : Nat) (s : State) : Host.Outcome State Fault Refusal := done (s.waferGateComplete id)

/-- LEADER_TIMEOUT: the leader has been unreachable for 1 ms (R385). -/
def execLeaderTimeout (s : State) : Host.Outcome State Fault Refusal := done (if s.reaches s.jobLeader then s else s.electLeader)

/-! ### Window boundaries (R384, R385, R393) -/

/-- A new leader takes over (R385). -/
def State.takeOver (s : State) : State :=
  match s.link.job.nextLeader with
  | none => s
  | some l =>
    let s1 := (s.wr CL_JOB CL_JOB.LEADER l).updJob (fun j => { j with nextLeader := none })
    if l = s.inst then
      ((s1.setJob jbLeader).updJob (fun j => { j with
        members := (s.jobPeers s.link.job.id).map (fun m => { inst := m, first := s.winNow })
        agreedWin := none
        syncs := j.mine })).showMembers
    else
      let s2 := ((s1.setJob jbMember).updJob (fun j => { j with members := [], syncs := [] })).each s1.link.job.mine (fun u x =>
        u.sendTo l 0x25 1 [BitVec.ofNat 64 (x.id * 2 ^ 56 + x.par * 2 ^ 55 + x.g), BitVec.ofNat 64 x.bc])
      (s2.wr CL_JOB CL_JOB.MEMBERS 0).wr CL_JOB CL_JOB.LAT 0

/-- The lowest reachable INSTANCE that advertises the job leads it (R383): one lower than the present leader takes the lead at a window boundary (DESIGN
CHOICE of the moment, log entry 93). -/
def State.lowestLeads (s : State) : State :=
  if (s.jobState == jbMember || s.jobState == jbLeader) && s.link.job.nextLeader.isNone then
    let l := (s.inst :: s.jobPeers s.link.job.id).foldl min s.inst
    if l < s.jobLeader then s.updJob (fun j => { j with nextLeader := some l }) else s
  else s

/-- Two founders of one job: the lower INSTANCE leads, the other is its member (R393). -/
def State.foundersMeet (s : State) : State :=
  if s.jobState = jbLeader then
    let rivals := (s.link.advs.filter (fun a => a.inst != s.inst && s.reaches a.inst && a.jobId == s.link.job.id && a.job == jbLeader)).map (·.inst)
    match leastOf rivals with
    | none => s
    | some l =>
      if l < s.inst then ((((s.setJob jbMember).wr CL_JOB CL_JOB.LEADER l).wr CL_JOB CL_JOB.MEMBERS 0).wr CL_JOB CL_JOB.LAT 0).updJob (fun j => { j with members := [], syncs := [] })
      else s.updJob (fun j => { j with members := j.members ++
        (rivals.filter (fun m => !j.members.any (fun e => e.inst == m))).map (fun m => { inst := m, first := s.winNow }) })
  else s

/-- The farthest members go while APPLY_BEATS is short; at most every member goes. -/
def State.dropFar : Nat → State → State
  | 0, s => s
  | k + 1, s =>
    let ms := s.link.job.members.map (·.inst)
    if ms ≠ [] ∧ s.rd CG_CFG0 CG_CFG0.APPLY_BEATS < 256 + 2 * s.latOf ms then
      let far := (ms.map s.routeHops).foldl max 0
      let gone := ms.filter (fun m => s.routeHops m == far)
      State.dropFar k (s.each gone (fun u m => (u.dropMember m).sendTo m 0x21 1 (admitWords u.link.job.id 5 0)))
    else s

/-- The leader recounts its members and LAT (R384). -/
def State.recount (s : State) : State :=
  if s.leads then
    let s1 := s.updJob (fun j => { j with members := j.members.filter (fun m => s.reaches m.inst) })
    (State.dropFar 16 s1).showMembers
  else s

/-- A window boundary. -/
def State.windowEdge (s : State) : State :=
  let s1 := if s.link.job.leavePend then s.leaveNow s.link.job.rejoin else s
  s1.lowestLeads.takeOver.foundersMeet.recount

/-- An instance that left for another reason than LEAVE joins again as soon as it may (R385). -/
def State.rejoin (s : State) : State := if s.link.job.rejoin && (s.jobState == jbSolo) && (s.joinBar == 0) then s.beginJoin else s

/-- A change of PLAY is told to the leader (R386), with what was last posted; before the first post of the membership with the window before this
one, so that the post of this window is no repeat (R373). -/
def State.tellPlay (s : State) : State :=
  if s.inJob && (s.link.job.play != s.anyPlay) then
    let p := s.link.job.posted.getD (s.winNow - 1, s.rd CG_STAT CG_STAT.R_NEED)
    let s1 := s.updJob (fun j => { j with play := s.anyPlay })
    if s.leads then s1 else s1.sendTo s.jobLeader 0x23 1 (needWords p.1 p.2 s.anyPlay)
  else s

/-- What the link does at a beat boundary. -/
def State.linkBeat (s : State) : State :=
  let s1 := s.stepDone
  let s2 := if s1.clk.beat % 4096 = 0 then s1.windowEdge else s1
  s2.rejoin.tellPlay.heldAll.dropServes.pullFeed

end Sys2Proof.Machine
end

