-- ==== Sys2Proof/Machine/Pull.lean ====
section
/-! DEFINITION. Pulls of images and slices over the coordination link (R389, R390, R393). -/

namespace Sys2Proof.Machine

open Sys2Proof

/-! ### CL_PULL (R389, R390) -/

/-- The tiles a pull fills: every eligible one for TILE 0xFF, one OPEN each (R389). -/
def State.pullTiles (s : State) (obj tile : Nat) : List Nat :=
  if obj = 1 ∧ tile = 0xFF then s.allTiles.filter (fun t => s.sliceOpen t) else [tile]

/-- GO: OPEN to the source (R389); a GO while a pull is under way has no effect. -/
def State.pullStart (s : State) : State :=
  if s.pulling then s
  else
    let src := s.rd CL_PULL CL_PULL.SRC_INST
    let obj := if s.rd CL_PULL CL_PULL.OBJ = 1 then 1 else 0
    let tile := s.rd CL_PULL CL_PULL.TILE
    let ts := s.pullTiles obj tile
    let s1 := ((s.setReg CL_PULL_STAT (CL_PULL_STAT.STATE.set 0 1)).setReg CL_PULL_ID 0).updLink (fun l => { l with
      pull := { src := src, obj := obj, tile := tile, opens := ts } })
    if ts = [] then s1.failPull 2
    else s1.each ts (fun u t => u.sendTo src 0x30 1 [BitVec.ofNat 64 (obj * 2 ^ 60 + t * 2 ^ 52)])

/-- ABORT (R390, R10): `same` says that the last word came in this cycle. -/
def State.pullStop (s : State) (same : Bool) : State :=
  if s.pulling then (s.endPull 7).wr CL_PULL_STAT CL_PULL_STAT.ABORT 1
  else if s.pullState = 4 ∧ same then s.wr CL_PULL_STAT CL_PULL_STAT.ABORT 2
  else s

/-- A write of CL_PULL: GO and ABORT together do nothing. -/
def State.pullWrite (s : State) (d : Word) (same : Bool) : State :=
  let s1 := s.plainWrite CL_PULL d
  let go := CL_PULL.GO.get d
  let ab := CL_PULL.ABORT.get d
  if go = 1 ∧ ab = 0 then s1.pullStart else if ab = 1 ∧ go = 0 then s1.pullStop same else s1

def execPullGo (d : Word) (s : State) : Host.Outcome State Fault Refusal := hostOp s CL_PULL d (·.pullWrite d false)
def execPullAbort (d : Word) (same : Bool) (s : State) : Host.Outcome State Fault Refusal := hostOp s CL_PULL d (·.pullWrite d same)

/-! ### The source (R389) -/

/-- ID of an object. -/
def State.objId (s : State) (obj tile : Nat) : Word := if obj = 1 then s.reg (DS_ID tile) else s.reg HD_IMG_ID

/-- Word i of an object. -/
def State.objWord (s : State) (obj tile i : Nat) : Word :=
  if obj = 1 then (s.entry tile (2 * i)) ++ (s.entry tile (2 * i + 1)) else s.load.slot.getD i 0

/-- An OPEN is answered: BUSY with four pulls served, OK for a stable object, else NO_OBJECT; the OPENs of one pull, one a tile, count
once. -/
def State.openCome (s : State) (f : LinkFrame) : State :=
  let who := frd f FR.SRC
  let obj := if payBits f 1 63 60 = 1 then 1 else 0
  let tile := payBits f 1 59 52
  let s1 := s.dropServes
  let served := (s1.link.serves.map (fun v => (v.puller, v.obj))).eraseDups
  let stable := s1.stableObj obj tile
  let code : Nat := if 4 ≤ served.length ∧ !served.contains (who, obj) then 3 else if stable then 1 else 2
  let len : Nat := if code = 1 then s1.objLength obj tile else 0
  let s2 := if code = 1 then s1.updLink (fun l => { l with
    serves := l.serves.filter (fun v => !(v.puller == who && v.obj == obj && v.tile == tile)) ++ [{ puller := who, obj := obj, tile := tile }] }) else s1
  let id : Word := if code = 1 then s1.objId obj tile else 0
  s2.sendTo who 0x31 1 [BitVec.ofNat 64 (code * 2 ^ 60 + len * 2 ^ 20), id]

def execPullOpen (n : Nat) (f : LinkFrame) (s : State) : Host.Outcome State Fault Refusal := done (s.acceptMine n 0x30 f (·.openCome f))

/-- DATA frames of 127 words from word `i` up to `lim` (R389, R390). -/
def State.sendData : Nat → State → Serve → Nat → Nat → State
  | 0, s, _, _, _ => s
  | k + 1, s, v, i, lim =>
    if i < lim then
      let n := min 127 (lim - i)
      let w := (⟨63, 56⟩ : Fld).set (BitVec.ofNat 64 i) v.tile
      let u := s.sendTo v.puller 0x32 2 (w :: (List.range n).map (fun j => s.objWord v.obj v.tile (i + j)))
      State.sendData k u v (i + n) lim
    else s

/-- A CREDIT is used at once. -/
def State.creditCome (s : State) (f : LinkFrame) : State :=
  let s1 := s.dropServes
  match s1.link.serves.find? (fun v => v.puller == frd f FR.SRC && v.tile == payBits f 1 63 56) with
  | none => s1
  | some v =>
    let len := s1.objLength v.obj v.tile
    let lim := min (payBits f 2 31 0) len
    let s2 := State.sendData (lim / 127 + 1) s1 v v.sent lim
    (s2.updLink (fun l => { l with serves := l.serves.filter (fun x => x != v) ++ [{ v with sent := max v.sent lim }] })).dropServes

def execCredit (n : Nat) (f : LinkFrame) (s : State) : Host.Outcome State Fault Refusal := done (s.acceptMine n 0x33 f (·.creditCome f))

/-! ### The puller (R389, R390) -/

/-- An OFFER: the answer to the oldest OPEN; with the last the pull is OFFERED. -/
def State.offerCome (s : State) (f : LinkFrame) : State :=
  let code := payBits f 1 63 60
  let len := payBits f 1 43 20
  match s.link.pull.opens with
  | [] => s
  | t :: r =>
    if s.pullState = 1 ∧ frd f FR.SRC = s.link.pull.src then
      if code = 1 then
        let s1 := (s.wr CL_PULL_STAT CL_PULL_STAT.LENGTH (s.rd CL_PULL_STAT CL_PULL_STAT.LENGTH + len)).updLink (fun l => { l with
          pull := { l.pull with opens := r, offers := l.pull.offers ++ [(t, len)] } })
        let s2 := if s.link.pull.offers = [] then s1.setReg CL_PULL_ID (pay f 2) else s1
        if r = [] then ((s2.wr CL_PULL_STAT CL_PULL_STAT.STATE 2).wr CL_PULL_STAT CL_PULL_STAT.RESULT 1).pullFeed else s2
      else s.failPull code
    else s

def execOffer (n : Nat) (f : LinkFrame) (s : State) : Host.Outcome State Fault Refusal := done (s.acceptMine n 0x31 f (·.offerCome f))

/-- The receiving load takes words now. -/
def State.pullTakes (s : State) (t : Nat) : Bool := if s.link.pull.obj = 1 then s.sliceOpen t else (s.imgState == 1) && s.load.link

/-- A word of the object goes into the loader or the slice. -/
def State.pullWord (s : State) (t : Nat) (d : Word) : State :=
  let i := s.link.pull.held
  let s1 := if s.link.pull.obj = 1 then s.storeEntries t (2 * i) d else s.imgWord d
  (s1.wr CL_PULL_STAT CL_PULL_STAT.DONE_W (s1.rd CL_PULL_STAT CL_PULL_STAT.DONE_W + 1)).updLink (fun l => { l with
    pull := { l.pull with held := i + 1 } })

/-- An object is complete: BIND starts on its slice; the next tile's words are asked for, or the pull is DONE. -/
def State.objDone (s : State) (t len : Nat) : State :=
  if s.link.pull.held = len then
    let s1 := if s.link.pull.obj = 1 then s.bindCmd t else s
    let rest := s.link.pull.offers.drop 1
    let s2 := s1.updLink (fun l => { l with pull := { l.pull with offers := rest, held := 0, early := [] } })
    match rest with
    | [] => (s2.wr CL_PULL_STAT CL_PULL_STAT.STATE 4).wr CL_PULL_STAT CL_PULL_STAT.RESULT 1
    | (u, n) :: _ => s2.sendCredit u 0 n
  else s

/-- A word after the declared length rejects the load of an image as OVERRUN, whatever stage its checks have reached (R67, R71); `n`
counts the words up to the last of the frame. -/
def State.imgOverrun (s : State) (n : Nat) : State :=
  if s.link.pull.obj ≠ 1 ∧ s.load.link ∧ (s.imgState = 2 ∨ s.imgState = 3) ∧ s.load.len < n then s.voidLoad 4 0xFF 0 else s

/-- DATA that stands in order, then what came early and now follows. -/
def feedData : Nat → State → Nat → Nat → State
  | 0, s, _, _ => s
  | k + 1, s, t, len =>
    match s.link.pull.early.find? (fun e => e.1 == t && e.2.1 == s.link.pull.held) with
    | none => s
    | some (a, i, ws) =>
      let s1 := s.updLink (fun l => { l with pull := { l.pull with early := l.pull.early.filter (fun e => !(e.1 == a && e.2.1 == i)) } })
      feedData k ((s1.each (ws.take (len - i)) (fun u d => u.pullWord t d)).imgOverrun (i + ws.length)) t len

/-- A DATA frame: words are written in order (R389); one already taken is discarded (R373); without a receiving load the pull fails;
behind the last word of an image it is an OVERRUN (R71). -/
def State.dataCome (s : State) (n : Nat) (f : LinkFrame) : State :=
  let p := s.link.pull
  let t := payBits f 1 63 56
  let i := payBits f 1 31 0
  match p.offers with
  | [] => if s.pullState = 4 ∧ frd f FR.SRC = p.src then s.imgOverrun (i + (f.payload.drop 1).length) else s
  | (u, len) :: _ =>
    if s.pullState = 3 ∧ frd f FR.SRC = p.src ∧ t = u then
      if !s.pullTakes t then s.failPull 6
      else if i < p.held ∨ p.early.any (fun e => e.1 == t && e.2.1 == i) then s.discard n
      else
        let s1 := s.updLink (fun l => { l with pull := { l.pull with early := l.pull.early ++ [(t, i, f.payload.drop 1)] } })
        (feedData s1.link.pull.early.length s1 t len).objDone t len
    else s

def execPullData (n : Nat) (f : LinkFrame) (s : State) : Host.Outcome State Fault Refusal := done (s.acceptMine n 0x32 f (·.dataCome n f))

/-- PULL_EXPIRY: no load within 1 s of the OFFER (R389). -/
def execPullExpiry (s : State) : Host.Outcome State Fault Refusal := done (if s.pullState = 2 then s.failPull 6 else s)

/-- PULL_SOURCE_TIMEOUT: 1 ms with the source unreachable, or without DATA while credit is open (R390). -/
def execPullSourceTimeout (s : State) : Host.Outcome State Fault Refusal :=
  done (if s.pulling && (s.pullState == 3 || !s.reaches s.link.pull.src || s.link.pull.src == s.inst) then s.failPull 5 else s)

end Sys2Proof.Machine
end

