-- ==== Sys2Proof/Machine/HostWrite.lean ====
section
/-! DEFINITION. A host write to any address, and the commands of the host register port (R7, R8, R12, R27, R34-R38, R396). -/

namespace Sys2Proof.Machine

open Sys2Proof

/-! ### What a write of a register does (R7, R36) -/

/-- HD_SB_STAT: a cleared MBOX_FULL is IBI class MBOX_TAKEN (R45). -/
def State.sbStatWrite (s : State) (d : Word) : State :=
  let s1 := s.plainWrite HD_SB_STAT d
  if s.flag HD_SB_STAT HD_SB_STAT.MBOX_FULL && !s1.flag HD_SB_STAT HD_SB_STAT.MBOX_FULL then s1.ibi 5 else s1

/-- IC_SRC: PRIO and TARGETS of a fault source are the image's; OVR is cleared by one (IC_SRC table). -/
def State.icSrcWrite (s : State) (n : Nat) (d : Word) : State :=
  if 128 ≤ n then s.plainWrite (IC_SRC n) d
  else if IC_SRC.OVR.get d = 1 then s.wr (IC_SRC n) IC_SRC.OVR 0 else s

/-- A Wellhead register. -/
def State.writeWellhead (s : State) (a : Nat) (d : Word) : State :=
  if a = HD_PWR_CTRL then s.sleepWrite d
  else if a = LC_CMD then s.lcCmdWrite d false
  else if 0x1010 ≤ a ∧ a < 0x102C then s.setReg a d
  else if 0x1030 ≤ a ∧ a < 0x1046 then s.stageWrite (a - 0x1030) d
  else if a = HD_SB_STAT then s.sbStatWrite d
  else if a = HD_IMG_CTRL then s.imgCtrlWrite d false
  else if 0x10000 ≤ a ∧ a < 0x10200 then s.icSrcWrite (a - 0x10000) d
  else if 0x10410 ≤ a ∧ a < 0x10418 then s.icClaimWrite (a - 0x10410) d
  else if a = IC_SETPEND then s.icSetpend d
  else if a = FC_STAT then s.episodeClose d
  else if a = FC_CTRL then s.fcCtrlWrite d
  else if a = ER_CTRL then s.erCtrlWrite d false
  else if a = ER_RD_PTR then s.erRdPtrWrite d
  else if a = ER_CFG then s.erCfgWrite d
  else if a = CG_CAP then s.capHostWrite d
  else if a = CG_CTRL then s.jobStopWrite d
  else if a = PL_SET then s.plSetWrite d
  else if a = PL_CTRL then s.plCtrlWrite d
  else if a = CL_JOB then s.jobWrite d
  else if a = CL_PULL then s.pullWrite d false
  else match (List.range 8).find? (fun n => a == SQ_CTRL n) with
    | some n => s.sqCtrlWrite n d
    | none => s.plainWrite a d

/-- A Pumphouse register below or above the per-well blocks. -/
def State.writePumphouse (s : State) (t a : Nat) (d : Word) : State :=
  if a = PH_ENG_CTRL t then s.engCtrlWrite t d
  else if a = PH_HOST_CL0 t then s.hostClWrite t 0 d
  else if a = PH_HOST_CL1 t then s.hostClWrite t 1 d
  else if a = PH_HOST_HOLD t then s.hostHoldWrite t d
  else if a = PH_RET_ARM t then s.retArmWrite t d
  else if a = TH_CTRL t then s.thCtrlWrite t d
  else if a = AD_CTRL t then s.adCtrlWrite t d
  else if a = DS_CTRL t then s.dsCtrlWrite t d false
  else if a = DS_GATE_CTRL t then s.gateCtrlWrite t d
  else if a = DS_GATE_VIEW t then s.gateViewWrite t d
  else if AD_RES t 0 ≤ a ∧ a < AD_RES t 128 then s.adResWrite t (a - AD_RES t 0) d
  else match (List.range 2).find? (fun i => a == AD_INJ t i), (List.range 15).find? (fun w => a == AD_WIN t w) with
    | some i, _ => s.adInjWrite t i d
    | none, some w => (s.draw).adWinWrite t w d (signed 14 (Config.freeNat s.freeCtr))
    | none, none => s.plainWrite a d

/-- A per-well or per-pump register. -/
def State.writeWell (s : State) (t w a : Nat) (d : Word) : State :=
  if a = WL_SETPT t w then s.vCmdWrite t w d
  else if a = WL_TEST t w then s.testReqWrite t w d
  else match (List.range 4).find? (fun p => a == PM_LINK t w p), (List.range 4).find? (fun p => a == PM_SVC t w p) with
    | some p, _ => s.calWrite t w p d
    | none, some p => s.returnWrite t w p d
    | none, none => s.plainWrite a d

/-- A mapped register of an existing instance. -/
def State.writeAt (s : State) (a : Nat) (d : Word) : State :=
  match place a with
  | .wellhead _ => s.writeWellhead a d
  | .pumphouse t _ => s.writePumphouse t a d
  | .well t w _ => s.writeWell t w a d
  | _ => s

/-- A host write that reaches its register, or is held for a dry Pumphouse (R37). -/
def State.writeOrHold (s : State) (a : Nat) (d : Word) : State := if s.holds a then s.holdWrite a d else s.writeAt a d

/-- PUMPHOUSE_WAKE_DONE: the tile is wet again, and the writes held for it take effect in their order (R37, R313). -/
def State.wakeWrites (s : State) (t : Nat) : State :=
  let s1 := s.pumphouseWakeDone t
  if s1.clocksOff t then s1
  else (s1.updTile t (fun x => { x with held := [] })).each (s1.tile t).held (fun u e => u.writeAt e.1 e.2)

def execPumphouseWakeDone (t : Nat) (s : State) : Host.Outcome State Fault Refusal := done (s.wakeWrites t)

/-- A register that refuses its write in the present state: HD_IMG_DATA (R71). -/
def State.dataOpen (s : State) : Bool := (s.imgState == 1) && !s.load.link

/-! ### Broadcast (R38) -/

/-- The offset in one Pumphouse. -/
def State.broadcastTo (s : State) (off : Nat) (d : Word) (t : Nat) : State := s.writeOrHold (phBase t + off) d

/-- A broadcast write: code and effect; the Pumphouses in `silent`, and those that do not answer (R269), do not accept it. A Pumphouse in
which the offset addresses nothing has nothing to accept (R38). -/
def State.broadcast (s : State) (off : Nat) (d : Word) (silent : List Nat) : Nat × State :=
  match phPlace 0 off with
  | .slot15 _ => (rOkay, s)
  | .pumphouse _ _ | .well _ _ _ =>
    if (s.rowOf (phBase 0 + off)).isNone then (rUnmapped, s)
    else
      let ts := s.allTiles.filter (fun t => !s.emptyAt (phBase t + off))
      let deaf := fun t => silent.contains t || s.silent t
      (if ts.any deaf then rTimeout else rOkay, s.each (ts.filter (fun t => !deaf t)) (fun u t => u.broadcastTo off d t))
  | _ => (rUnmapped, s)

/-! ### A write to any address -/

/-- Bits of reserved fields that a write would set, the broadcast region included (R7). -/
def State.reservedWrite (s : State) (a : Nat) (d : Word) : Bool :=
  match place a with
  | .broadcast off => s.reservedBits (phBase 0 + off) d
  | _ => s.reservedBits a d

/-- Response code and effect of a host write (R37). -/
def State.hostWrite (s : State) (a : Nat) (d : Word) : Nat × State :=
  match place a with
  | .broadcast off => s.broadcast off d []
  | .window t o =>
    if !s.tileOk t then (rUnmapped, s)
    else if s.windowOpen t then (rOkay, s.storeEntries t (65536 * s.rd (DS_CTRL t) DS_CTRL.PAGE + 2 * o) d)
    else (rDenied, s)
  | .slot15 t => (if s.tileOk t then rOkay else rUnmapped, s)
  | .nowhere => (rUnmapped, s)
  | _ =>
    if (s.rowOf a).isNone then (rUnmapped, s)
    else if s.emptyAt a then (rOkay, s)
    else if a = HD_IMG_DATA then (if s.dataOpen then (rOkay, s.imgWord d) else (rDenied, s))
    else (rOkay, s.writeOrHold a d)

/-- A host write with its answer; none, and no effect, while its target does not answer (R37, R269). -/
def writeOp (s : State) (a : Nat) (d : Word) (k : State → State) : Host.Outcome State Fault Refusal :=
  if s.reservedWrite a d then .refused .reservedWrite
  else if s.unreached a then done s
  else done ((k (s.hostWrite a d).2).answer a (s.hostWrite a d).1 0)

/-- REGISTER_WRITE (R36). -/
def execRegisterWrite (a : Nat) (d : Word) (s : State) : Host.Outcome State Fault Refusal := writeOp s a d id

/-- W1C bits of a register. -/
def State.w1cBits (s : State) (a : Nat) : Word := (s.rowOf a).elim 0 (fun r => if s.emptyAt a then 0 else BitVec.ofNat 64 r.w1c)

/-- Hardware sets W1C bits of a register in the cycle of a write (R8); those of DS_GATE_VIEW are flags of the gate SEL names. -/
def State.hwSets (s : State) (a : Nat) (x : Word) : State :=
  match place a with
  | .pumphouse t 0x2008 => s.updGate t (s.rd (DS_GATE_CTRL t) DS_GATE_CTRL.SEL) (fun g => { g with
      dup := g.dup || DS_GATE_VIEW.DUP.get x == 1
      extra := g.extra || DS_GATE_VIEW.EXTRA.get x == 1
      tmo := g.tmo || DS_GATE_VIEW.TMO.get x == 1 })
  | _ => s.setReg a (s.reg a ||| x)

/-- STATUS_CLEAR: bits that hardware sets in the same cycle stay set (R8). -/
def execStatusClear (a : Nat) (d hw : Word) (s : State) : Host.Outcome State Fault Refusal :=
  let set := hw &&& s.w1cBits a
  writeOp s a (d &&& ~~~set) (fun u => if set = 0 then u else u.hwSets a set)

/-- The register holds an event counter. -/
def State.counterAt (s : State) (a : Nat) : Bool := (s.rowOf a).any (fun r => r.cnt != 0) && !s.emptyAt a

/-- An event counter counts one. -/
def State.count (s : State) (a : Nat) : State :=
  if a = HD_PORT_STAT then
    let s1 := s.bumpFld HD_PORT_STAT HD_PORT_STAT.ERRORS
    s1.on (s1.rd HD_PORT_STAT HD_PORT_STAT.ERRORS == 0xFFFFFFFF) (·.wr HD_PORT_STAT HD_PORT_STAT.SAT 1)
  else s.bump a

/-- COUNTER_CLEAR: the clear first, an increment of the same cycle after it (R13, R396). -/
def execCounterClear (a : Nat) (d : Word) (inc : Bool) (s : State) : Host.Outcome State Fault Refusal :=
  writeOp s a d (fun u => if inc && u.counterAt a then u.count a else u)

/-- BROADCAST_WRITE (R38). -/
def execBroadcastWrite (off : Nat) (d : Word) (silent : List Nat) (s : State) : Host.Outcome State Fault Refusal :=
  let a := 0xF00000 + off
  if 0x8000 ≤ off then done (s.answer a rUnmapped 0)
  else if s.reservedBits (phBase 0 + off) d then .refused .reservedWrite
  else done ((s.broadcast off d silent).2.answer a (s.broadcast off d silent).1 0)

/-- WL_LIMIT_WRITE: the limit acts at the next recomputation of the capability (R27, R32). -/
def execWlLimitWrite (t w : Nat) (d : Word) (s : State) : Host.Outcome State Fault Refusal := hostOp s (WL_LIMIT t w) d (·.plainWrite (WL_LIMIT t w) d)

/-! ### Requests (R34, R37) -/

/-- HOST_REQUEST: accepted while the fast clock runs and fewer than eight are outstanding; without the clock it wakes the Wellhead
(R34, R315, R318). An accepted request abandons a sleep not yet entered (R318). -/
def State.hostRequest (s : State) (q : Req) : State :=
  let s1 := s.wake 1
  if s1.clk.fast = .run ∧ s1.port.outstanding.length < 8 then
    ({ s1 with port := { s1.port with outstanding := s1.port.outstanding ++ [q] } } : State).drain
  else s1

def execHostRequest (we : Bool) (a : Nat) (d : Word) (tag : Nat) (s : State) : Host.Outcome State Fault Refusal :=
  done (s.hostRequest ⟨we, a % 2 ^ 24, d, tag % 8⟩)

/-- PORT_TIMEOUT: the oldest request is answered TIMEOUT; a write may have landed (R37). -/
def State.portTimeout (s : State) (landed : Bool) : State :=
  match s.port.outstanding with
  | [] => s
  | q :: _ => (if q.we && landed then (s.hostWrite q.addr q.data).2 else s).answer q.addr rTimeout 0

def execPortTimeout (landed : Bool) (s : State) : Host.Outcome State Fault Refusal := done (s.portTimeout landed)

end Sys2Proof.Machine
end

