-- ==== Sys2Proof/Machine/Sideband.lean ====
section
/-! DEFINITION. The sideband: common commands, private commands, in-band interrupts (R40-R45). -/

namespace Sys2Proof.Machine

open Sys2Proof

def State.updSb (s : State) (f : Sideband → Sideband) : State := { s with sb := f s.sb }

/-! ### Private commands (R40, R43, R44) -/

abbrev sbOk := 0
abbrev sbBusy := 1
abbrev sbDenied := 2
abbrev sbUnmapped := 3
abbrev sbBad := 4

/-- Registers the sideband may not read: those whose read has a side effect, the LC_ challenge words, the schedule window (R40). -/
def sbClosed (a : Nat) : Bool :=
  sideRead a || (decide (0x1008 ≤ a) && decide (a < 0x100E)) || (match place a with | .window _ _ => true | _ => false)

/-- A register as the sideband, or a diagnostic session, reads it: status of R37, data (R40, R47). -/
def State.sbRead (s : State) (a : Nat) : Nat × Word :=
  let r := s.readReg a
  if sbClosed a ∧ (r.1 = rOkay ∨ r.1 = rTimeout) then (rDenied, 0) else r

/-- The status byte of a response code. -/
def sbStatus (code : Nat) : Nat := if code = rOkay then sbOk else if code = rDenied then sbDenied else sbUnmapped

/-- The result of a command waits to be read (R43). -/
def State.sbResult (s : State) (l : List Nat) : State := s.updSb (fun b => { b with result := l })

/-- Mailbox (R43). -/
def State.mbox (s : State) (d : Word) : State :=
  let s1 := s.on (s.flag HD_SB_STAT HD_SB_STAT.MBOX_FULL) (·.wr HD_SB_STAT HD_SB_STAT.MBOX_OVR 1)
  ((s1.setReg HD_SB_MBOX d).wr HD_SB_STAT HD_SB_STAT.MBOX_FULL 1).pendLevel 145

/-- A command is carried out: READ, MBOX_WRITE, FREEZE_RECORDER, STOP_REQUEST, IDENT (R43). -/
def State.sbExec (s : State) (cmd : Nat) (arg : Word) : State :=
  match cmd with
  | 1 =>
    let r := s.sbRead arg.toNat
    s.sbResult (sbStatus r.1 :: wordBytes r.2)
  | 2 => (s.mbox arg).sbResult [sbOk]
  | 3 => s.freezeCmd.sbResult [sbOk]
  | 4 => if arg = 0xA5 then ((s.wr HD_SB_STAT HD_SB_STAT.STOP_REQ 1).raiseW { src := 5 }).sbResult [sbOk] else s.sbResult [sbBad]
  | 5 => s.sbResult (sbOk :: (wordBytes (s.readReg HD_TOPO).2 ++ wordBytes (s.readReg LC_STATE).2))
  | _ => s

/-- A private write: it wakes the Wellhead, and replaces what has not been read back (R43, R44); without the fast clock the command
waits. -/
def State.sbCommand (s : State) (cmd : Nat) (arg : Word) : State :=
  let s1 := (s.wake 2).updSb (fun b => { b with todo := none, result := [] })
  if s1.clk.fast = .run then s1.sbExec cmd arg else s1.updSb (fun b => { b with todo := some (cmd, arg) })

def execSbRead (a : Nat) (s : State) : Host.Outcome State Fault Refusal := done (s.sbCommand 1 (BitVec.ofNat 64 (a % 2 ^ 24)))
def execMboxWrite (d : Word) (s : State) : Host.Outcome State Fault Refusal := done (s.sbCommand 2 d)
def execFreezeRecorder (s : State) : Host.Outcome State Fault Refusal := done (s.sbCommand 3 0)
def execStopRequest (b : Nat) (s : State) : Host.Outcome State Fault Refusal := done (s.sbCommand 4 (BitVec.ofNat 64 (b % 256)))
def execIdent (s : State) : Host.Outcome State Fault Refusal := done (s.sbCommand 5 0)

/-- FAST_CLOCK_RESTART_DONE: the fast clock runs again (R315), and a command that waited is carried out (R43). -/
def State.restartDone (s : State) : State :=
  if s.clk.fast = .restarting then
    let s1 : State := { s with clk := { s.clk with fast := .run } }
    match s1.sb.todo with
    | some (c, x) => (s1.updSb (fun b => { b with todo := none })).sbExec c x
    | none => s1
  else s

def execFastClockRestartDone (s : State) : Host.Outcome State Fault Refusal := done s.restartDone

/-- PRIVATE_READ: BUSY while the command waits; else the next bytes, at most the maximum read length (R43, R44). With no result left, or
before any command, it returns no bytes (DESIGN CHOICE, log entry 82: the spec is silent). -/
def State.privateRead (s : State) : State :=
  let s1 := s.wake 2
  if s1.sb.todo.isSome then s1.updSb (fun b => { b with lastRead := [sbBusy] })
  else s1.updSb (fun b => { b with lastRead := b.result.take b.mrl, result := b.result.drop b.mrl })

def execPrivateRead (s : State) : Host.Outcome State Fault Refusal := done s.privateRead

/-- ADDRESS_MATCH_WAKE: the Wellhead wakes (R44). -/
def execAddressMatchWake (s : State) : Host.Outcome State Fault Refusal := done (s.wake 2)

/-! ### Common commands (R41, R42) -/

/-- The answer of a common command: bytes, or NACK. -/
def State.ccc (s : State) (l : List Nat) : State := s.updSb (fun b => { b with cccBytes := l, nack := false })
def State.cccNack (s : State) : State := s.updSb (fun b => { b with cccBytes := [], nack := true })

def State.hasAddr (s : State) : Bool := s.flag HD_SB_STAT HD_SB_STAT.DA_VALID

/-- A direct common command reaches the target at its dynamic address only (R41), SETDASA at its static one. One the bus-clocked logic does
not answer alone wakes the Wellhead; those that may be broadcast do so by the row ADDRESS_MATCH_WAKE (R44). -/
def State.direct (s : State) (f : State → State) : State := if s.hasAddr then f s else s.cccNack

/-- ENEC and DISEC: IBI enable in bit 0 of the event byte; the other events are ignored. -/
def execEnec (b : Nat) (s : State) : Host.Outcome State Fault Refusal :=
  done (if bit b 0 then (s.wr HD_SB_STAT HD_SB_STAT.IBI_EN 1).ccc [] else s.ccc [])
def execDisec (b : Nat) (s : State) : Host.Outcome State Fault Refusal :=
  done (if bit b 0 then (s.wr HD_SB_STAT HD_SB_STAT.IBI_EN 0).ccc [] else s.ccc [])

/-- A dynamic address is taken: I3C from now on. -/
def State.takeAddr (s : State) (addr : Nat) : State :=
  (((s.wr HD_SB_STAT HD_SB_STAT.DYN_ADDR addr).wr HD_SB_STAT HD_SB_STAT.DA_VALID 1).wr HD_SB_STAT HD_SB_STAT.MODE 1).ccc []

/-- RSTDAA: the address is given up; I2C at the static address. -/
def State.dropAddr (s : State) : State :=
  (((s.wr HD_SB_STAT HD_SB_STAT.DYN_ADDR 0).wr HD_SB_STAT HD_SB_STAT.DA_VALID 0).wr HD_SB_STAT HD_SB_STAT.MODE 0).ccc []

def execRstdaa (s : State) : Host.Outcome State Fault Refusal := done s.dropAddr

/-- The byte of an address assignment: the address in [6:0]; bit 7 says that the byte came with a wrong parity, a protocol error that GETSTATUS
shows in bit 5, and no address is taken (R41; what a protocol error is, PRESUMED, log entry 22). -/
def State.assignAddr (s : State) (b : Nat) : State :=
  if bit b 7 then s.cccNack.updSb (fun e => { e with protErr := true }) else s.takeAddr b

/-- ENTDAA and SETDASA assign an address to a target without one; SETNEWDA changes it. -/
def execEntdaa (addr : Nat) (s : State) : Host.Outcome State Fault Refusal := done (if s.hasAddr then s.cccNack else s.assignAddr addr)
def execSetdasa (addr : Nat) (s : State) : Host.Outcome State Fault Refusal := done (if s.hasAddr then s.cccNack else (s.wake 2).assignAddr addr)
def execSetnewda (addr : Nat) (s : State) : Host.Outcome State Fault Refusal := done (s.direct (fun u => (u.wake 2).assignAddr addr))

/-- The provisional ID: manufacturer, type selector 0, part 0x5C1, the low 20 bits of LC_UID. -/
def State.pid (s : State) : BitVec 48 :=
  BitVec.ofNat 48 (s.fuses.mipiMaker % 2 ^ 15 * 2 ^ 33 + 0x5C1 * 2 ^ 20 + (s.fuses.uid.extractLsb' 0 20).toNat)

def execGetpid (s : State) : Host.Outcome State Fault Refusal := done (s.direct (fun u => u.ccc (bytesOf 6 u.pid)))
def execGetbcr (s : State) : Host.Outcome State Fault Refusal := done (s.direct (·.ccc [0x06]))
def execGetdcr (s : State) : Host.Outcome State Fault Refusal := done (s.direct (·.ccc [0x00]))

/-- GETSTATUS: bits [3:0] 1 while an IBI is pending, bit 5 a protocol error since the last read. -/
def State.getStatus (s : State) : State :=
  let v := b2n (s.sb.ibiPend != 0) + 32 * b2n s.sb.protErr
  (s.ccc [0, v]).updSb (fun b => { b with protErr := false })

def execGetstatus (s : State) : Host.Outcome State Fault Refusal := done (s.direct State.getStatus)

/-- A length of 16 to 64 bytes is taken; any other leaves the present one. -/
def lengthOf (old n : Nat) : Nat := if 16 ≤ n ∧ n ≤ 64 then n else old

def execSetmwl (n : Nat) (s : State) : Host.Outcome State Fault Refusal := done ((s.updSb (fun b => { b with mwl := lengthOf b.mwl n })).ccc [])
def execSetmrl (n : Nat) (s : State) : Host.Outcome State Fault Refusal := done ((s.updSb (fun b => { b with mrl := lengthOf b.mrl n })).ccc [])
def execGetmwl (s : State) : Host.Outcome State Fault Refusal := done (s.direct (fun u => (u.wake 2).ccc [u.sb.mwl / 256, u.sb.mwl % 256]))
def execGetmrl (s : State) : Host.Outcome State Fault Refusal := done (s.direct (fun u => (u.wake 2).ccc [u.sb.mrl / 256, u.sb.mrl % 256]))

/-- RSTACT with 0x00, 0x01 or 0x02 and the target reset pattern reset the I3C target logic alone (R41, R42). -/
def execRstact (b : Nat) (s : State) : Host.Outcome State Fault Refusal := done (if b ≤ 2 then s.sidebandReset.ccc [] else s.cccNack)
def execTargetResetPattern (s : State) : Host.Outcome State Fault Refusal := done s.sidebandReset

/-- UNSUPPORTED_CCC: NACK, whatever its code. -/
def execUnsupportedCcc (_c : Nat) (s : State) : Host.Outcome State Fault Refusal := done s.cccNack

/-! ### In-band interrupts (R45) -/

/-- IBI_REQUEST: a pending class, the lowest first, is delivered; one lost in arbitration stays pending. -/
def State.ibiRequest (s : State) (lost : Bool) : State :=
  match (List.range 5).find? (fun i => bit s.sb.ibiPend i) with
  | some i =>
    if s.flag HD_SB_STAT HD_SB_STAT.IBI_EN && !lost then
      (s.wr HD_SB_STAT HD_SB_STAT.IBI_CLASS (i + 1)).updSb (fun b => { b with ibiPend := setBit b.ibiPend i false })
    else s
  | none => s

def execIbiRequest (lost : Bool) (s : State) : Host.Outcome State Fault Refusal := done (s.ibiRequest lost)

end Sys2Proof.Machine
end

