-- ==== Sys2Proof/Machine/Debug.lean ====
section
/-! DEFINITION. The debug port: TAP instructions, register access and the diagnostic session (R46, R47). -/

namespace Sys2Proof.Machine

open Sys2Proof

def State.updTap (s : State) (f : Tap → Tap) : State := { s with tap := f s.tap }

/-- An instruction is in force. -/
def State.tapIr (s : State) (ir : Nat) : State := s.updTap (fun t => { t with ir := ir })

/-- An instruction that the life-cycle state does not permit: bypass, and DENIED_TAP counts (R46). -/
def State.tapDenied (s : State) : State := (s.tapIr 0xFF).bumpFld LC_STATE LC_STATE.DENIED_TAP

/-- What the next capture of DBG_REG returns (R37). -/
def State.tapAnswer (s : State) (code : Nat) (data : Word) : State :=
  (s.tapIr 0x10).updTap (fun t => { t with capResp := code, capData := if code = rOkay then data else 0 })

def State.session (s : State) : Bool := s.flag LC_STATE LC_STATE.SESSION

/-- DBG_REG is open in every state but FIELD (life-cycle access table). -/
def State.dbgOpen (s : State) : Bool := s.fuses.lcState != 2

def execIdcode (s : State) : Host.Outcome State Fault Refusal :=
  done ((s.tapIr 0x01).updTap (fun t => { t with idOut := 0x2 * 2 ^ 28 + 0x5C17 * 2 ^ 12 + s.fuses.jtagMaker % 2 ^ 11 * 2 + 1 }))

/-- A DBG_REG read acts as a host read: claims and the recorder's read data have their effects (R39). -/
def State.dbgRead (s : State) (a : Nat) : State :=
  let r := s.readReg a
  if 0x10410 ≤ a ∧ a < 0x10418 then
    let t := a - 0x10410
    (s.claim t).tapAnswer rOkay (BitVec.ofNat 64 (s.claimable t))
  else if a = 0x3000A then s.rdData.tapAnswer rOkay (s.rcd.buffer.headD 0)
  else s.tapAnswer r.1 r.2

/-- DBG_REG_READ: in a session only what the sideband may read (R47). -/
def State.dbgRegRead (s : State) (a : Nat) : State :=
  if s.dbgOpen then s.dbgRead a
  else if s.session then s.tapAnswer (s.sbRead a).1 (s.sbRead a).2
  else s.tapDenied

/-- A word goes through DBG_AUTH's data register and not DBG_REG's: bit 24 of the operand of a DBG_REG row says so, the LC_ register's address
lies in [23:0] (R47; the table has no row of its own for it: DESIGN CHOICE, log entry 27). -/
def throughAuth (a : Nat) : Bool := a.testBit 24

/-- A key or signature word shifted in through DBG_AUTH goes into its LC_ register (R47). -/
def State.authIn (s : State) (a : Nat) (d : Word) : State :=
  if (0x1010 ≤ a ∧ a < 0x101C) ∨ (0x1020 ≤ a ∧ a < 0x102C) then s.setReg a d else s

/-- A challenge word is shifted out through DBG_AUTH from its LC_ register (R47). -/
def State.authOut (s : State) (a : Nat) : State :=
  if 0x1008 ≤ a ∧ a < 0x100E then s.updTap (fun t => { t with capResp := rOkay, capData := (s.readReg a).2 }) else s

/-- DBG_AUTH is permitted in FIELD; elsewhere it selects bypass (R46, R47). -/
def State.withAuth (s : State) (f : State → State) : State := if s.fuses.lcState = 2 then f (s.tapIr 0x11) else s.tapDenied

def execDbgRegRead (a : Nat) (s : State) : Host.Outcome State Fault Refusal :=
  done (if throughAuth a then s.withAuth (·.authOut (a % 2 ^ 24)) else s.dbgRegRead (a % 2 ^ 24))

/-- DBG_REG_WRITE: a host write of a second master; TIMEOUT without effect where its target does not answer; DENIED in a session (R37, R39,
R47). -/
def execDbgRegWrite (a : Nat) (d : Word) (s : State) : Host.Outcome State Fault Refusal :=
  if throughAuth a then done (s.withAuth (·.authIn (a % 2 ^ 24) d))
  else if s.dbgOpen then
    (if s.reservedWrite (a % 2 ^ 24) d then .refused .reservedWrite
    else if s.unreached (a % 2 ^ 24) then done (s.tapAnswer rTimeout 0)
    else done ((s.hostWrite (a % 2 ^ 24) d).2.tapAnswer (s.hostWrite (a % 2 ^ 24) d).1 0))
  else if s.session then done (s.tapAnswer rDenied 0)
  else done s.tapDenied

/-- DBG_AUTH: permitted in FIELD; a session opens after an accepted DIAG authorisation (R47). -/
def State.dbgAuth (s : State) : State :=
  s.withAuth (fun u => if u.tap.diagOk then (u.updTap (fun t => { t with diagOk := false })).wr LC_STATE LC_STATE.SESSION 1 else u)

def execDbgAuth (s : State) : Host.Outcome State Fault Refusal := done s.dbgAuth

/-- The maker's internal scan and macro test: the instruction is in force, and what the scan shifts out is a free value. The spec gives
the scan no effect on the rest of the chip (R46; DESIGN CHOICE, log entry 4). -/
def State.makerScan (s : State) : State :=
  ((s.tapIr 0x20).updTap (fun t => { t with capData := (Config.freeBits s.freeCtr).setWidth 64 })).draw

/-- DBG_SCAN: permitted in BLANK and RETURNED; elsewhere it selects bypass and is counted (R46). -/
def execDbgScan (s : State) : Host.Outcome State Fault Refusal :=
  done (if s.fuses.lcState = 0 ∨ s.fuses.lcState = 3 then s.makerScan else s.tapDenied)

def execBypass (s : State) : Host.Outcome State Fault Refusal := done (s.tapIr 0xFF)

/-- The session ends (R47). -/
def State.endSession (s : State) : State := s.wr LC_STATE LC_STATE.SESSION 0

/-- TAP_RESET selects IDCODE, and ends a session (R47; IDCODE as IEEE 1149.1 requires). -/
def execTapReset (s : State) : Host.Outcome State Fault Refusal := done ((s.tapIr 0x01).endSession)
def execDbgSessionExpiry (s : State) : Host.Outcome State Fault Refusal := done s.endSession

end Sys2Proof.Machine
end

