-- ==== Sys2Proof/Machine/Reset.lean ====
section
/-! DEFINITION. Chip reset, power-on and power loss, and the CHIP reaction (R54, R78, R322, R330, R395). -/

namespace Sys2Proof.Machine

open Sys2Proof

/-- The fused fields of registers (R17, R395). -/
def State.fusedRegs (s : State) : State :=
  let f := s.fuses
  let s1 := ((s.wr HD_TOPO HD_TOPO.TILES (f.rows * f.cols)).wr HD_TOPO HD_TOPO.ROWS f.rows).wr HD_TOPO HD_TOPO.COLS f.cols
  let s2 := (s1.setReg HD_SAFE f.safe).setReg ER_CFG (BitVec.ofNat 64 f.erCfg)
  s2.wr CG_CAP CG_CAP.WAFER_LIM (HD_SAFE.WAFER_LIM.get f.safe)

/-- The block with everything volatile at its reset value. What is not volatile stays: fuses, flash, the model's clock and free
values, what the ports have sent, and the waiting commands. -/
def State.cleared (s : State) : State :=
  ({ fuses := s.fuses
     clk := { ns := s.clk.ns, resetAt := s.clk.ns, dco := { f0 := s.fuses.dcoTrim, f1 := s.fuses.dcoTrim, start := s.clk.ns } }
     port := { answered := s.port.answered }
     link := { sent := s.link.sent }
     flash := s.flash
     freeCtr := s.freeCtr
     pending := s.pending } : State).fusedRegs

/-- The read-only fields that say what a keeper well does: its stage, its generator, its pumps' service and wires, its converter. -/
def keeperFields (t : Nat) : List (Nat × Fld) :=
  [(WL_SETPT t 14, WL_SETPT.V_TGT), (WL_SETPT t 14, WL_SETPT.V_SET), (WL_SETPT t 14, WL_SETPT.STAGE), (WL_PROF_STAT t 14, WL_PROF_STAT.VEL),
    (WL_PROF_STAT t 14, WL_PROF_STAT.ACC), (WL_PROF_STAT t 14, WL_PROF_STAT.SET), (WL_PROF_STAT t 14, WL_PROF_STAT.SETTLED),
    (WL_PROF_STAT t 14, WL_PROF_STAT.PAUSED)] ++
  (List.range 4).flatMap (fun p => [(PM_STAT t 14 p, PM_STAT.SERVICE), (PM_STAT t 14 p, PM_STAT.LATCHED), (PM_STAT t 14 p, PM_STAT.REARM_PEND),
    (PM_LINK t 14 p, PM_LINK.PMD), (PM_LINK t 14 p, PM_LINK.PEN)])

/-- A keeper well goes on through chip reset (R19, R54): what it does stands, and those fields with it; every other field of its registers is at its
reset value (R395, log entry 30). In voltage mode it moves to hysteretic mode, since its Pumphouse is DORMANT (R313). -/
def State.keepKeeper (u s : State) (t : Nat) : State :=
  let u0 := u.wr (AD_WIN t 14) AD_WIN.RUN (s.rd (AD_WIN t 14) AD_WIN.RUN)
  if s.stage t 14 = stDry then u0
  else
    let u1 := u0.each (keeperFields t) (fun v e => v.wr e.1 e.2 (s.rd e.1 e.2))
    let u2 := (List.range 4).foldl (fun v p => v.setPump t 14 p (s.pump t 14 p)) (u1.setWell t 14 (s.well t 14))
    if s.stage t 14 = stVolt then u2.updMo t 14 (fun m => { m with hystReq := true }) else u2

/-- Chip reset: every register takes its reset value and every well but the keeper goes dry (R54, R78, R395). The lockout of this
power cycle stands, and so does the debug port (R53, R46). -/
def State.chipReset (s : State) : State :=
  let u := s.cleared.each s.allTiles (fun u t => u.keepKeeper s t)
  { (u.wr LC_STATE LC_STATE.FAILS (s.rd LC_STATE LC_STATE.FAILS)) with tap := { s.tap with diagOk := false } }

def execChipReset (s : State) : Host.Outcome State Fault Refusal := done s.chipReset

/-- POWER_ON_RESET: everything volatile is at its reset value (R395). -/
def execPowerOnReset (s : State) : Host.Outcome State Fault Refusal := done s.cleared

/-- CHIP_REACTION: after the episode's record, or 100 us (R330). -/
def execChipReaction (s : State) : Host.Outcome State Fault Refusal := done (if s.fault.chipPend then s.chipReset else s)

/-- POWER_LOSS: what is volatile is lost; `wiped` says that a wipe in progress had blown every bit of the slot (R49, R54). -/
def State.powerLoss (s : State) (w : Bool) : State :=
  if w ∧ s.lc.fuseOp = .returnWipe then { s.cleared with fuses := s.fuses.setSecret s.fuses.slot wiped } else s.cleared

def execPowerLoss (w : Bool) (s : State) : Host.Outcome State Fault Refusal := done (s.powerLoss w)

end Sys2Proof.Machine
end

