-- ==== Sys2Proof/Machine/Dispatch.lean ====
section
/-! DEFINITION. One arm per command: its meaning, or its refusal by name where it is not modelled yet. -/

namespace Sys2Proof.Machine

open Sys2Proof

def exec (i : Instr) (s : State) : Host.Outcome State Fault Refusal :=
  match i with
  | .powerOnReset => Sys2Proof.Machine.execPowerOnReset s
  | .chipReset => Sys2Proof.Machine.execChipReset s
  | .lifeCycleRead => Sys2Proof.Machine.execLifeCycleRead s
  | .registerWrite a d => Sys2Proof.Machine.execRegisterWrite a d s
  | .statusClear a d hw => Sys2Proof.Machine.execStatusClear a d hw s
  | .counterClear a d inc => Sys2Proof.Machine.execCounterClear a d inc s
  | .hostRequest we a d tag => Sys2Proof.Machine.execHostRequest we a d tag s
  | .portTimeout landed => Sys2Proof.Machine.execPortTimeout landed s
  | .broadcastWrite off d silent => Sys2Proof.Machine.execBroadcastWrite off d silent s
  | .wlLimitWrite t w d => Sys2Proof.Machine.execWlLimitWrite t w d s
  | .sbRead a => Sys2Proof.Machine.execSbRead a s
  | .mboxWrite d => Sys2Proof.Machine.execMboxWrite d s
  | .freezeRecorder => Sys2Proof.Machine.execFreezeRecorder s
  | .stopRequest b => Sys2Proof.Machine.execStopRequest b s
  | .ident => Sys2Proof.Machine.execIdent s
  | .privateRead => Sys2Proof.Machine.execPrivateRead s
  | .addressMatchWake => Sys2Proof.Machine.execAddressMatchWake s
  | .enec b => Sys2Proof.Machine.execEnec b s
  | .disec b => Sys2Proof.Machine.execDisec b s
  | .rstdaa => Sys2Proof.Machine.execRstdaa s
  | .entdaa addr => Sys2Proof.Machine.execEntdaa addr s
  | .setdasa addr => Sys2Proof.Machine.execSetdasa addr s
  | .setnewda addr => Sys2Proof.Machine.execSetnewda addr s
  | .getpid => Sys2Proof.Machine.execGetpid s
  | .getbcr => Sys2Proof.Machine.execGetbcr s
  | .getdcr => Sys2Proof.Machine.execGetdcr s
  | .getstatus => Sys2Proof.Machine.execGetstatus s
  | .setmwl n => Sys2Proof.Machine.execSetmwl n s
  | .getmwl => Sys2Proof.Machine.execGetmwl s
  | .setmrl n => Sys2Proof.Machine.execSetmrl n s
  | .getmrl => Sys2Proof.Machine.execGetmrl s
  | .rstact b => Sys2Proof.Machine.execRstact b s
  | .targetResetPattern => Sys2Proof.Machine.execTargetResetPattern s
  | .unsupportedCcc c => Sys2Proof.Machine.execUnsupportedCcc c s
  | .ibiRequest lost => Sys2Proof.Machine.execIbiRequest lost s
  | .idcode => Sys2Proof.Machine.execIdcode s
  | .dbgRegRead a => Sys2Proof.Machine.execDbgRegRead a s
  | .dbgRegWrite a d => Sys2Proof.Machine.execDbgRegWrite a d s
  | .dbgAuth => Sys2Proof.Machine.execDbgAuth s
  | .dbgScan => Sys2Proof.Machine.execDbgScan s
  | .bypass => Sys2Proof.Machine.execBypass s
  | .tapReset => Sys2Proof.Machine.execTapReset s
  | .dbgSessionExpiry => Sys2Proof.Machine.execDbgSessionExpiry s
  | .challenge d => Sys2Proof.Machine.execChallenge d s
  | .submit => Sys2Proof.Machine.execSubmit s
  | .submitVerified => Sys2Proof.Machine.execSubmitVerified s
  | .cancel same => Sys2Proof.Machine.execCancel same s
  | .nonceExpiry => Sys2Proof.Machine.execNonceExpiry s
  | .provisionCommit => Sys2Proof.Machine.execProvisionCommit s
  | .enterField => Sys2Proof.Machine.execEnterField s
  | .fuseProgramDone => Sys2Proof.Machine.execFuseProgramDone s
  | .lcStageWrite n d => Sys2Proof.Machine.execLcStageWrite n d s
  | .imgStart d => Sys2Proof.Machine.execImgStart d s
  | .imgAbort d same => Sys2Proof.Machine.execImgAbort d same s
  | .safeNow d => Sys2Proof.Machine.execSafeNow d s
  | .safeStop d => Sys2Proof.Machine.execSafeStop d s
  | .hdImgDataWrite d => Sys2Proof.Machine.execHdImgDataWrite d s
  | .imageStall => Sys2Proof.Machine.execImageStall s
  | .imageChecksDone => Sys2Proof.Machine.execImageChecksDone s
  | .applyStart => Sys2Proof.Machine.execApplyStart s
  | .applyFail t => Sys2Proof.Machine.execApplyFail t s
  | .imageAccept => Sys2Proof.Machine.execImageAccept s
  | .safePrimingStart => Sys2Proof.Machine.execSafePrimingStart s
  | .safePrimeStep t => Sys2Proof.Machine.execSafePrimeStep t s
  | .safeParkTimeout t => Sys2Proof.Machine.execSafeParkTimeout t s
  | .keeperEnable t => Sys2Proof.Machine.execKeeperEnable t s
  | .keeperHandover t => Sys2Proof.Machine.execKeeperHandover t s
  | .cal t w p d => Sys2Proof.Machine.execCal t w p d s
  | .offsetMeasureDone t w p edges winSum => Sys2Proof.Machine.execOffsetMeasureDone t w p edges winSum s
  | .tsnsPeriod t w p high period => Sys2Proof.Machine.execTsnsPeriod t w p high period s
  | .tsnsTimeout t w p => Sys2Proof.Machine.execTsnsTimeout t w p s
  | .pumpFaultWireFall t w p penFell => Sys2Proof.Machine.execPumpFaultWireFall t w p penFell s
  | .faultClassify t w p edges => Sys2Proof.Machine.execFaultClassify t w p edges s
  | .pumpRearm t w p => Sys2Proof.Machine.execPumpRearm t w p s
  | .rearmPenRelease t w p => Sys2Proof.Machine.execRearmPenRelease t w p s
  | .rearmCheck t w p => Sys2Proof.Machine.execRearmCheck t w p s
  | .pumpFaultWireRise t w p => Sys2Proof.Machine.execPumpFaultWireRise t w p s
  | .softShortTrip t w p => Sys2Proof.Machine.execSoftShortTrip t w p s
  | .busFault t ov => Sys2Proof.Machine.execBusFault t ov s
  | .refLost => Sys2Proof.Machine.execRefLost s
  | .refQualified => Sys2Proof.Machine.execRefQualified s
  | .dcoPullUpdate fref phi => Sys2Proof.Machine.execDcoPullUpdate fref phi s
  | .periodOpening t w => Sys2Proof.Machine.execPeriodOpening t w s
  | .innerSampleClose t w codes => Sys2Proof.Machine.execInnerSampleClose t w codes s
  | .innerEvaluation t w => Sys2Proof.Machine.execInnerEvaluation t w s
  | .residueVerdict t w okA okB same => Sys2Proof.Machine.execResidueVerdict t w okA okB same s
  | .evaluationRetry t w okA okB same => Sys2Proof.Machine.execEvaluationRetry t w okA okB same s
  | .outerEvaluation t w edges => Sys2Proof.Machine.execOuterEvaluation t w edges s
  | .selfTest t e ok => Sys2Proof.Machine.execSelfTest t e ok s
  | .stest t d => Sys2Proof.Machine.execStest t d s
  | .modeReqWrite t d => Sys2Proof.Machine.execModeReqWrite t d s
  | .modeChangeApply t => Sys2Proof.Machine.execModeChangeApply t s
  | .holdAssert t w dev => Sys2Proof.Machine.execHoldAssert t w dev s
  | .holdRelease t w dev => Sys2Proof.Machine.execHoldRelease t w dev s
  | .holdTimeout t w => Sys2Proof.Machine.execHoldTimeout t w s
  | .ovSuppress t w dev => Sys2Proof.Machine.execOvSuppress t w dev s
  | .ovSuppressEnd t w dev => Sys2Proof.Machine.execOvSuppressEnd t w dev s
  | .profileTick t w => Sys2Proof.Machine.execProfileTick t w s
  | .vCmdWrite t w d => Sys2Proof.Machine.execVCmdWrite t w d s
  | .hystTurnOn t w code => Sys2Proof.Machine.execHystTurnOn t w code s
  | .hystPulseEnd t w p e => Sys2Proof.Machine.execHystPulseEnd t w p e s
  | .hystPumpReady t w p => Sys2Proof.Machine.execHystPumpReady t w p s
  | .handover t w => Sys2Proof.Machine.execHandover t w s
  | .sqStart n d => Sys2Proof.Machine.execSqStart n d s
  | .sqAbort n => Sys2Proof.Machine.execSqAbort n s
  | .sqEnd n => Sys2Proof.Machine.execSqEnd n s
  | .sqSelt n => Sys2Proof.Machine.execSqSelt n s
  | .sqSetv n => Sys2Proof.Machine.execSqSetv n s
  | .sqProf n => Sys2Proof.Machine.execSqProf n s
  | .sqPrime n => Sys2Proof.Machine.execSqPrime n s
  | .sqHand n => Sys2Proof.Machine.execSqHand n s
  | .sqHyst n => Sys2Proof.Machine.execSqHyst n s
  | .sqPark n => Sys2Proof.Machine.execSqPark n s
  | .sqWait n => Sys2Proof.Machine.execSqWait n s
  | .sqJmp n => Sys2Proof.Machine.execSqJmp n s
  | .sqClgt n => Sys2Proof.Machine.execSqClgt n s
  | .sqTie n => Sys2Proof.Machine.execSqTie n s
  | .sqPmode n => Sys2Proof.Machine.execSqPmode n s
  | .sqTrk n => Sys2Proof.Machine.execSqTrk n s
  | .sqTest n => Sys2Proof.Machine.execSqTest n s
  | .sqEvent n => Sys2Proof.Machine.execSqEvent n s
  | .instructionComplete n => Sys2Proof.Machine.execInstructionComplete n s
  | .instructionTimeout n => Sys2Proof.Machine.execInstructionTimeout n s
  | .primeAdmit t w => Sys2Proof.Machine.execPrimeAdmit t w s
  | .primeResume t w => Sys2Proof.Machine.execPrimeResume t w s
  | .parkTimeout t w => Sys2Proof.Machine.execParkTimeout t w s
  | .capabilityEvent n => Sys2Proof.Machine.execCapabilityEvent n s
  | .scheduleWindowWrite t o d => Sys2Proof.Machine.execScheduleWindowWrite t o d s
  | .bind t d => Sys2Proof.Machine.execBind t d s
  | .bindDone t => Sys2Proof.Machine.execBindDone t s
  | .unbind t d same => Sys2Proof.Machine.execUnbind t d same s
  | .dsStart t d => Sys2Proof.Machine.execDsStart t d s
  | .dsStop t d => Sys2Proof.Machine.execDsStop t d s
  | .playStart t => Sys2Proof.Machine.execPlayStart t s
  | .playStop t => Sys2Proof.Machine.execPlayStop t s
  | .playerBeat t => Sys2Proof.Machine.execPlayerBeat t s
  | .noticePost t k n m => Sys2Proof.Machine.execNoticePost t k n m s
  | .noticeCollect t k n => Sys2Proof.Machine.execNoticeCollect t k n s
  | .gateComplete t id => Sys2Proof.Machine.execGateComplete t id s
  | .waferGateReport t id => Sys2Proof.Machine.execWaferGateReport t id s
  | .waferGateComplete id => Sys2Proof.Machine.execWaferGateComplete id s
  | .gateRelease t id => Sys2Proof.Machine.execGateRelease t id s
  | .gateTimeout t w => Sys2Proof.Machine.execGateTimeout t w s
  | .force t d => Sys2Proof.Machine.execForce t d s
  | .wellOverload t w => Sys2Proof.Machine.execWellOverload t w s
  | .tieAck t n => Sys2Proof.Machine.execTieAck t n s
  | .tieAckTimeout t n => Sys2Proof.Machine.execTieAckTimeout t n s
  | .tieOvercurrent t n => Sys2Proof.Machine.execTieOvercurrent t n s
  | .tieOpen t n => Sys2Proof.Machine.execTieOpen t n s
  | .tieForcedOpen t n => Sys2Proof.Machine.execTieForcedOpen t n s
  | .pumpOpenRetire t w p => Sys2Proof.Machine.execPumpOpenRetire t w p s
  | .senseFollow t w p => Sys2Proof.Machine.execSenseFollow t w p s
  | .crackSuspect t w => Sys2Proof.Machine.execCrackSuspect t w s
  | .senseOpen t w => Sys2Proof.Machine.execSenseOpen t w s
  | .testDue t w => Sys2Proof.Machine.execTestDue t w s
  | .testReq t w d => Sys2Proof.Machine.execTestReq t w d s
  | .testDeferExpiry t w => Sys2Proof.Machine.execTestDeferExpiry t w s
  | .quietTestStart t w => Sys2Proof.Machine.execQuietTestStart t w s
  | .shadowTestStart t w => Sys2Proof.Machine.execShadowTestStart t w s
  | .testStepEnd t w => Sys2Proof.Machine.execTestStepEnd t w s
  | .testOverdue t w => Sys2Proof.Machine.execTestOverdue t w s
  | .retArm t d => Sys2Proof.Machine.execRetArm t d s
  | .returnPump t w p d => Sys2Proof.Machine.execReturnPump t w p d s
  | .adWinCal t w d sum => Sys2Proof.Machine.execAdWinCal t w d sum s
  | .calNow t d => Sys2Proof.Machine.execCalNow t d s
  | .sarConversion t n raw => Sys2Proof.Machine.execSarConversion t n raw s
  | .injectTrigger t n src w => Sys2Proof.Machine.execInjectTrigger t n src w s
  | .adGo t n d => Sys2Proof.Machine.execAdGo t n d s
  | .burstStart t => Sys2Proof.Machine.execBurstStart t s
  | .burstDone t results => Sys2Proof.Machine.execBurstDone t results s
  | .adResConfigWrite t ch d => Sys2Proof.Machine.execAdResConfigWrite t ch d s
  | .lpInhibitWrite t d => Sys2Proof.Machine.execLpInhibitWrite t d s
  | .telemetryWindowClose t => Sys2Proof.Machine.execTelemetryWindowClose t s
  | .tileTelemetryReport t => Sys2Proof.Machine.execTileTelemetryReport t s
  | .telemetrySnapshot => Sys2Proof.Machine.execTelemetrySnapshot s
  | .thermalRound t ch => Sys2Proof.Machine.execThermalRound t ch s
  | .hotListEval t => Sys2Proof.Machine.execHotListEval t s
  | .throttleStep t w => Sys2Proof.Machine.execThrottleStep t w s
  | .orderlyStopEnd t => Sys2Proof.Machine.execOrderlyStopEnd t s
  | .orderlyTimeout t => Sys2Proof.Machine.execOrderlyTimeout t s
  | .hardStop t => Sys2Proof.Machine.execHardStop t s
  | .stopRecordSent t => Sys2Proof.Machine.execStopRecordSent t s
  | .resume t d => Sys2Proof.Machine.execResume t d s
  | .clrPeak t d => Sys2Proof.Machine.execClrPeak t d s
  | .restFrame t => Sys2Proof.Machine.execRestFrame t s
  | .jobRestCommit => Sys2Proof.Machine.execJobRestCommit s
  | .capHostWrite d => Sys2Proof.Machine.execCapHostWrite d s
  | .jobStop d => Sys2Proof.Machine.execJobStop d s
  | .plSet d => Sys2Proof.Machine.execPlSet d s
  | .accept id => Sys2Proof.Machine.execAccept id s
  | .refuse id => Sys2Proof.Machine.execRefuse id s
  | .acceptTimeout id => Sys2Proof.Machine.execAcceptTimeout id s
  | .relocDone id => Sys2Proof.Machine.execRelocDone id s
  | .relocTimeout id => Sys2Proof.Machine.execRelocTimeout id s
  | .plHold d => Sys2Proof.Machine.execPlHold d s
  | .resetMap d => Sys2Proof.Machine.execResetMap d s
  | .hostClWrite t half d => Sys2Proof.Machine.execHostClWrite t half d s
  | .hostHoldWrite t d => Sys2Proof.Machine.execHostHoldWrite t d s
  | .voteGate t k => Sys2Proof.Machine.execVoteGate t k s
  | .wakeGraceExpiry t k => Sys2Proof.Machine.execWakeGraceExpiry t k s
  | .gateControlRelease t k => Sys2Proof.Machine.execGateControlRelease t k s
  | .greqRelease t k => Sys2Proof.Machine.execGreqRelease t k s
  | .votedPark t w => Sys2Proof.Machine.execVotedPark t w s
  | .primingOnWake t w => Sys2Proof.Machine.execPrimingOnWake t w s
  | .pumphouseWakeDone t => Sys2Proof.Machine.execPumphouseWakeDone t s
  | .nap => Sys2Proof.Machine.execNap s
  | .sleep d => Sys2Proof.Machine.execSleep d s
  | .sleepEnter => Sys2Proof.Machine.execSleepEnter s
  | .sleepWake srcs => Sys2Proof.Machine.execSleepWake srcs s
  | .faultRaise n => Sys2Proof.Machine.execFaultRaise n s
  | .blockResetDone blk => Sys2Proof.Machine.execBlockResetDone blk s
  | .chipReaction => Sys2Proof.Machine.execChipReaction s
  | .episodeClose d => Sys2Proof.Machine.execEpisodeClose d s
  | .trapAck d => Sys2Proof.Machine.execTrapAck d s
  | .inject d => Sys2Proof.Machine.execInject d s
  | .interruptClaim tgt => Sys2Proof.Machine.execInterruptClaim tgt s
  | .interruptComplete tgt d => Sys2Proof.Machine.execInterruptComplete tgt d s
  | .setpend d => Sys2Proof.Machine.execSetpend d s
  | .recorderScan sfdp => Sys2Proof.Machine.execRecorderScan sfdp s
  | .snapshotStart trig => Sys2Proof.Machine.execSnapshotStart trig s
  | .snapshotDone => Sys2Proof.Machine.execSnapshotDone s
  | .heartbeat => Sys2Proof.Machine.execHeartbeat s
  | .recordWrite => Sys2Proof.Machine.execRecordWrite s
  | .recordWriteDone ok => Sys2Proof.Machine.execRecordWriteDone ok s
  | .eraseDone ok => Sys2Proof.Machine.execEraseDone ok s
  | .freeze d => Sys2Proof.Machine.execFreeze d s
  | .thaw d => Sys2Proof.Machine.execThaw d s
  | .freezeExpiry => Sys2Proof.Machine.execFreezeExpiry s
  | .erRdPtrWrite d => Sys2Proof.Machine.execErRdPtrWrite d s
  | .erRdDataRead => Sys2Proof.Machine.execErRdDataRead s
  | .fetchDone => Sys2Proof.Machine.execFetchDone s
  | .rdAbort d same => Sys2Proof.Machine.execRdAbort d same s
  | .clear d => Sys2Proof.Machine.execClear d s
  | .clearDone => Sys2Proof.Machine.execClearDone s
  | .clearArmExpiry => Sys2Proof.Machine.execClearArmExpiry s
  | .erCfgWrite d => Sys2Proof.Machine.execErCfgWrite d s
  | .portSignalDetect n => Sys2Proof.Machine.execPortSignalDetect n s
  | .trainingDone n => Sys2Proof.Machine.execTrainingDone n s
  | .trainingTimeout n => Sys2Proof.Machine.execTrainingTimeout n s
  | .helloTx n => Sys2Proof.Machine.execHelloTx n s
  | .hello n f => Sys2Proof.Machine.execHello n f s
  | .auth n f => Sys2Proof.Machine.execAuth n f s
  | .isolationExpiry n => Sys2Proof.Machine.execIsolationExpiry n s
  | .portDown n => Sys2Proof.Machine.execPortDown n s
  | .portSilenceTimeout n => Sys2Proof.Machine.execPortSilenceTimeout n s
  | .frameForward n f => Sys2Proof.Machine.execFrameForward n f s
  | .frameResend n => Sys2Proof.Machine.execFrameResend n s
  | .markTx n pos => Sys2Proof.Machine.execMarkTx n pos s
  | .mark n f pos => Sys2Proof.Machine.execMark n f pos s
  | .advTx => Sys2Proof.Machine.execAdvTx s
  | .adv n f => Sys2Proof.Machine.execAdv n f s
  | .advExpiry inst => Sys2Proof.Machine.execAdvExpiry inst s
  | .routeRecompute => Sys2Proof.Machine.execRouteRecompute s
  | .addrConflictClear => Sys2Proof.Machine.execAddrConflictClear s
  | .followUpdate fref => Sys2Proof.Machine.execFollowUpdate fref s
  | .parentLost => Sys2Proof.Machine.execParentLost s
  | .timeOffsetExceeded => Sys2Proof.Machine.execTimeOffsetExceeded s
  | .timeStep => Sys2Proof.Machine.execTimeStep s
  | .join d => Sys2Proof.Machine.execJoin d s
  | .leave d => Sys2Proof.Machine.execLeave d s
  | .joinRetry => Sys2Proof.Machine.execJoinRetry s
  | .joinFrame n f => Sys2Proof.Machine.execJoinFrame n f s
  | .admitFrame n f => Sys2Proof.Machine.execAdmitFrame n f s
  | .jobMembershipStart => Sys2Proof.Machine.execJobMembershipStart s
  | .leaveFrame n f => Sys2Proof.Machine.execLeaveFrame n f s
  | .leaderTimeout => Sys2Proof.Machine.execLeaderTimeout s
  | .need n f => Sys2Proof.Machine.execNeed n f s
  | .agreeDeadline => Sys2Proof.Machine.execAgreeDeadline s
  | .agree n f => Sys2Proof.Machine.execAgree n f s
  | .syncDone n f => Sys2Proof.Machine.execSyncDone n f s
  | .syncRel n f => Sys2Proof.Machine.execSyncRel n f s
  | .shareReq n f => Sys2Proof.Machine.execShareReq n f s
  | .shareDeadline => Sys2Proof.Machine.execShareDeadline s
  | .share n f => Sys2Proof.Machine.execShare n f s
  | .pullGo d => Sys2Proof.Machine.execPullGo d s
  | .pullOpen n f => Sys2Proof.Machine.execPullOpen n f s
  | .offer n f => Sys2Proof.Machine.execOffer n f s
  | .credit n f => Sys2Proof.Machine.execCredit n f s
  | .pullData n f => Sys2Proof.Machine.execPullData n f s
  | .pullExpiry => Sys2Proof.Machine.execPullExpiry s
  | .pullSourceTimeout => Sys2Proof.Machine.execPullSourceTimeout s
  | .pullAbort d same => Sys2Proof.Machine.execPullAbort d same s
  | .powerLoss wiped => Sys2Proof.Machine.execPowerLoss wiped s
  | .busRecovery t => Sys2Proof.Machine.execBusRecovery t s
  | .fastClockRestartDone => Sys2Proof.Machine.execFastClockRestartDone s
  | .retArmExpiry t => Sys2Proof.Machine.execRetArmExpiry t s

end Sys2Proof.Machine
end

