-- ==== Sys2Proof/Machine/Tick.lean ====
section
/-! DEFINITION. One nanosecond of the clock: the beat counter and the always-on ticks (R81, R314). -/

namespace Sys2Proof.Machine

open Sys2Proof

/-- A heartbeat falls due as HD_AO_TIME passes a whole multiple of HEART_H hours of 117,964,800 ticks; 0 disables it (R356). Before the scan
HD_AO_TIME does not hold operating time (R353). -/
def State.heartTick (s : State) : State :=
  if s.rcd.scanned ∧ s.rcd.heartH ≠ 0 ∧ (s.reg HD_AO_TIME).toNat % (s.rcd.heartH * 117964800) = 0 then
    ({ s with rcd := { s.rcd with heartDue := s.rcd.heartDue + 1 } } : State).restart
  else s

/-- The TIMER source fires as HD_AO_TIME reaches HD_WAKE_ALARM: it wakes a sleeping Wellhead, or abandons a request (R318). -/
def State.alarmTick (s : State) : State :=
  if s.reg HD_AO_TIME = s.reg HD_WAKE_ALARM ∧ (s.clk.fast = .sleep ∨ s.clk.sleepReq) then s.wake 4 else s

/-- The always-on clock: 32,768 ticks a second, so 32,768 parts of 10^9 each nanosecond; HD_AO_TIME counts its ticks (R314). -/
def State.aoTick (s : State) : State :=
  if s.clk.aoFrac + 32768 < 1000000000 then { s with clk := { s.clk with aoFrac := s.clk.aoFrac + 32768 } }
  else
    let s1 : State := { s with clk := { s.clk with
      aoFrac := s.clk.aoFrac + 32768 - 1000000000
      aoCount := s.clk.aoCount + 1 } }
    (s1.setReg HD_AO_TIME (s1.reg HD_AO_TIME + 1)).heartTick.alarmTick

/-- One nanosecond passes: 250 of them make a wafer beat (R81); the coordination link acts at beat boundaries (R384-R388). -/
def State.tick (s : State) : State :=
  let c := s.clk
  let c1 : Clk := if c.beatLeft ≤ 1 then { c with ns := c.ns + 1, beat := c.beat + 1, beatLeft := 250 }
    else { c with ns := c.ns + 1, beatLeft := c.beatLeft - 1 }
  let s1 := ({ s with clk := c1 } : State).aoTick
  if c.beatLeft ≤ 1 then (s1.each s1.allTiles (fun u t => u.goffRise t)).linkBeat.settle else s1

end Sys2Proof.Machine
end

