-- ==== Sys2Proof/Safety.lean ====
section
/-! DEFINITION. The words claims are stated in: a state between commands, a register that takes a write, an answer given, canonical tables, a frame that comes or goes, a sequencer that goes on or waits, what a command yields. -/

namespace Sys2Proof.Machine

open Sys2Proof

/-- No raise found in the Wellhead waits for the collector: so it is after every command (R324). -/
abbrev State.quiet (s : State) : Prop := s.fault.now = []

/-- At most one request of the host is outstanding, so that an answer serves no request behind it (R34). -/
abbrev State.alone (s : State) : Prop := s.port.outstanding.length ≤ 1

/-- A register at `a` exists and `d` leaves its reserved bits zero; its tile answers and holds no write of it back: the write has its effect
(R7, R36, R37). -/
abbrev State.takes (s : State) (a : Nat) (d : Word) : Prop :=
  s.reservedBits a d = false ∧ (s.rowOf a).isSome = true ∧ s.emptyAt a = false ∧ s.unreached a = false ∧ s.holds a = false

/-- The same, but its tile is dry and holds the write back until it goes wet (R37). -/
abbrev State.heldBack (s : State) (a : Nat) (d : Word) : Prop :=
  s.reservedBits a d = false ∧ (s.rowOf a).isSome = true ∧ s.emptyAt a = false ∧ s.unreached a = false ∧ s.holds a = true

/-- A request has been answered, and none is outstanding: its tag, the code and the read data (R34, R37). -/
def State.answered (s : State) (code : Nat) (d : Word) : State :=
  { s with port :=
      { outstanding := []
        answered := s.port.answered ++ [⟨(s.port.outstanding.head?).elim 0 (·.tag), code, d⟩] } }

/-- An instruction at the debug port that the life-cycle state does not permit: bypass selected and DENIED_TAP one higher, nothing else (R46). -/
def State.tapShut (s : State) : State :=
  ({ s with tap := { s.tap with ir := 0xFF } } : State).wr LC_STATE LC_STATE.DENIED_TAP (s.rd LC_STATE LC_STATE.DENIED_TAP + 1)

/-- After a command, the gate of tile `u` that DS_GATE_VIEW showed before it. -/
def State.shownGate (s : State) (u : Nat) (t : State) : GateX := t.gate u (s.rd (DS_GATE_CTRL u) DS_GATE_CTRL.SEL)

/-- The register table is in its canonical form: addresses rise and no listed register holds its reset value. -/
abbrev State.canonical (s : State) : Prop := twf regReset s.regs.cells = true

/-- Registers whose write is a command of its own, or acts on more than its own word; every other register is stored as R36 says. -/
def ownRow (a : Nat) : Bool :=
  match place a with
  | .wellhead off =>
    [HD_PWR_CTRL, LC_CMD, HD_SB_STAT, HD_IMG_CTRL, HD_IMG_DATA, IC_SETPEND, FC_STAT, FC_CTRL, ER_CTRL, ER_RD_PTR, ER_CFG,
      CG_CAP, CG_CTRL, PL_SET, PL_CTRL, CL_JOB, CL_PULL].contains off ||
    (decide (0x1010 ≤ off) && decide (off < 0x1046)) || (decide (0x10000 ≤ off) && decide (off < 0x10200)) ||
    (decide (0x10410 ≤ off) && decide (off < 0x10418)) || (List.range 8).any (fun n => off == SQ_CTRL n)
  | .pumphouse t _ =>
    [PH_ENG_CTRL t, PH_HOST_CL0 t, PH_HOST_CL1 t, PH_HOST_HOLD t, PH_RET_ARM t, TH_CTRL t, AD_CTRL t, DS_CTRL t, DS_GATE_CTRL t,
      DS_GATE_VIEW t, AD_INJ t 0, AD_INJ t 1].contains a ||
    (decide (AD_RES t 0 ≤ a) && decide (a < AD_RES t 128)) || (List.range 15).any (fun w => a == AD_WIN t w)
  | .well t w _ =>
    [WL_SETPT t w, WL_TEST t w].contains a || (List.range 4).any (fun p => a == PM_LINK t w p || a == PM_SVC t w p)
  | _ => false

/-- The Wellhead's fast clock runs and no sleep is about to be entered, so that a wake source changes nothing (R315, R318). -/
abbrev State.awake (s : State) : Prop := s.clk.fast = .run ∧ s.clk.sleepReq = false

/-- Only registers differ. -/
def State.onlyRegs (s t : State) : Prop := { t with regs := s.regs } = s

/-- Only registers and the host port differ. -/
def State.onlyRegsPort (s t : State) : Prop := { t with regs := s.regs, port := s.port } = s

/-- A whole frame of type `ty` arrives on an UP port: of class 0, or the next one in sequence (R369, R371, R372). -/
abbrev State.comes (s : State) (n ty : Nat) (f : LinkFrame) : Prop :=
  s.portUp n = true ∧ frd f FR.TYPE = ty ∧ frameOk f = true ∧ (frd f FR.CLASS = 0 ∨ frd f FR.SEQ = (s.port_ n).rxSeq) ∧
    (s.port_ n).waiting = []

/-- The same for a frame addressed to this instance. -/
abbrev State.hears (s : State) (n ty : Nat) (f : LinkFrame) : Prop := s.comes n ty f ∧ frd f FR.DST = s.inst

/-- No frame of this key has been taken from its source before (R373). -/
abbrev State.unheard (s : State) (f : LinkFrame) (id key : Nat) : Prop :=
  s.link.taken.contains (frd f FR.TYPE, frd f FR.SRC, id, key) = false

/-- `t` has sent exactly one frame more than `s`, on port `n`: one of which `P` holds. -/
def State.sends (s t : State) (n : Nat) (P : LinkFrame → Prop) : Prop := ∃ f, t.link.sent = s.link.sent ++ [(n, f)] ∧ P f

/-- The port by which frames for an instance leave, with room for one more (R372, R377). -/
abbrev State.wayTo (s : State) (d n : Nat) : Prop := maskPorts (s.routeMask d) = [n] ∧ (s.port_ n).resend.length < 128

/-- Sequencer `n` has taken the well for its instruction and stands at the next one (R160, R162). -/
abbrev State.stepped (s t : State) (n u w : Nat) : Prop :=
  t.owned u w = true ∧ t.rd (WL_SETPT u w) WL_SETPT.OWNER = n ∧
    t.rd (SQ_STAT n) SQ_STAT.PC = s.rd (SQ_STAT n) SQ_STAT.PC + 1 ∧ t.sqState n = 1

/-- Sequencer `n` has taken the well and waits at its instruction of this opcode (R161, R162). -/
abbrev State.waitsAt (s t : State) (n u w op : Nat) : Prop :=
  t.owned u w = true ∧ t.rd (WL_SETPT u w) WL_SETPT.OWNER = n ∧ t.sqState n = 2 ∧ (t.sq n).op = op ∧
    t.rd (SQ_STAT n) SQ_STAT.PC = s.rd (SQ_STAT n) SQ_STAT.PC

/-- Two states whose registers differ at most at the listed addresses. -/
def State.sameBut (l : List Nat) (s u : State) : Prop := ∀ a, a ∉ l → u.reg a = s.reg a

/-- A lasting fault of well `w` is attributed to engine `e` of tile `u` alone: FAILED, ENGINE_FAIL raised, the partner's DEGRADED mode granted,
and no register but the engines' differs (R129). -/
def State.blames (s t : State) (u w e : Nat) : Prop :=
  t.failed u e = true ∧ t.failed u (1 - e) = false ∧ t.fallback u = false ∧ t.rd (PH_ENG_STAT u) PH_ENG_STAT.CAUSE = 1 ∧
    t.rd (PH_ENG_STAT u) PH_ENG_STAT.LAST_WELL = w ∧ { src := 11, tile := u, well := w, sub := e } ∈ t.fault.inflight ∧
    (t.en u).grant = some (degraded (1 - e)) ∧ (t.en u).byFault = true ∧ (t.lp u w).heldX = none ∧ (t.lp u w).retry = false ∧
    State.sameBut [PH_ENG_STAT u, PH_ENG_CTRL u] s t

/-- What a host vote on cluster `k` does as a WAKE (R309): refused under C_SEQ, C_THERM or C_GOV; held where a DRY well of it is owned; a C_VOTE that
stands alone, with both wells up, is to lift. The vote makes the cluster wanted, so that it is not waited for (R304, R308). -/
def State.wakeActs (s t : State) (u k : Nat) : Prop :=
  (s.flag (PH_CLPWR u k) PH_CLPWR.GATED = true → (s.flag (PH_CLPWR u k) PH_CLPWR.C_SEQ = true ∨ s.flag (PH_CLPWR u k) PH_CLPWR.C_THERM = true ∨
      s.flag (PH_CLPWR u k) PH_CLPWR.C_GOV = true) → t.flag (PH_PWR u) PH_PWR.WAKE_REFUSED = true) ∧
  (s.flag (PH_CLPWR u k) PH_CLPWR.GATED = true → s.flag (PH_CLPWR u k) PH_CLPWR.C_SEQ = false → s.flag (PH_CLPWR u k) PH_CLPWR.C_THERM = false →
      s.flag (PH_CLPWR u k) PH_CLPWR.C_GOV = false →
    (∀ w ∈ s.downWells u k, s.isOff u w = true → s.owned u w = true → t.flag (WL_VOTE u w) WL_VOTE.WAKE_PEND = true) ∧
    (s.downWells u k = [] → s.flag (PH_CLPWR u k) PH_CLPWR.C_VOTE = true → s.flag (PH_CLPWR u k) PH_CLPWR.C_DRY = false →
      (t.cluster u k).lift = true)) ∧
  t.wanted u k = true ∧ (t.cluster u k).waking = false

/-- Command `c` answers a next state: its effect `u`, of which `P` holds, after the collector has taken the raises that the effect
made in the Wellhead (R324). Where the effect made none, the next state is `u` itself. -/
def State.yields (s : State) (c : Instr) (P : State → Prop) : Prop := ∃ u : State, exec c s = .next u.settle ∧ P u

/-- The same for a host write at `a`, which is answered OKAY after its effect (R34, R37). -/
def State.yieldsAnswered (s : State) (c : Instr) (a : Nat) (P : State → Prop) : Prop :=
  ∃ u : State, exec c s = .next (u.answer a rOkay 0).settle ∧ P u

end Sys2Proof.Machine
end

