-- ==== Sys2Proof/WellFormed.lean ====
section
/-! DEFINITION. Which operands a command can carry: unit numbers inside the largest wafer of 96 tiles (R4, R14), addresses of 24
bits (R6), frames whose length field can count their payload (R371). The meanings are total and do not rest on it. -/

namespace Sys2Proof

/-- A frame's payload is counted by the LEN field, 0 to 128 words (R371). -/
def LinkFrame.wellFormed (f : LinkFrame) : Bool := decide (f.payload.length ≤ 128)

/-- Every operand of a command lies inside its range. -/
def Instr.wellFormed (c : Instr) : Bool :=
  match c with
  | .powerOnReset => true
  | .chipReset => true
  | .lifeCycleRead => true
  | .registerWrite a _ => decide (a < 2 ^ 24)
  | .statusClear a _ _ => decide (a < 2 ^ 24)
  | .counterClear a _ _ => decide (a < 2 ^ 24)
  | .hostRequest _ a _ tag => decide (a < 2 ^ 24) && decide (tag < 8)
  | .portTimeout _ => true
  | .broadcastWrite off _ silent => decide (off < 0x100000) && silent.all (fun t => decide (t < 96))
  | .wlLimitWrite t w _ => decide (t < 96) && decide (w < 15)
  | .sbRead a => decide (a < 2 ^ 24)
  | .mboxWrite _ => true
  | .freezeRecorder => true
  | .stopRequest b => decide (b < 256)
  | .ident => true
  | .privateRead => true
  | .addressMatchWake => true
  | .enec b => decide (b < 256)
  | .disec b => decide (b < 256)
  | .rstdaa => true
  | .entdaa addr => decide (addr < 256)
  | .setdasa addr => decide (addr < 256)
  | .setnewda addr => decide (addr < 256)
  | .getpid => true
  | .getbcr => true
  | .getdcr => true
  | .getstatus => true
  | .setmwl n => decide (n < 65536)
  | .getmwl => true
  | .setmrl n => decide (n < 65536)
  | .getmrl => true
  | .rstact b => decide (b < 256)
  | .targetResetPattern => true
  | .unsupportedCcc c => decide (c < 256)
  | .ibiRequest _ => true
  | .idcode => true
  | .dbgRegRead a => decide (a < 2 ^ 25)
  | .dbgRegWrite a _ => decide (a < 2 ^ 25)
  | .dbgAuth => true
  | .dbgScan => true
  | .bypass => true
  | .tapReset => true
  | .dbgSessionExpiry => true
  | .challenge _ => true
  | .submit => true
  | .submitVerified => true
  | .cancel _ => true
  | .nonceExpiry => true
  | .provisionCommit => true
  | .enterField => true
  | .fuseProgramDone => true
  | .lcStageWrite n _ => decide (n < 22)
  | .imgStart _ => true
  | .imgAbort _ _ => true
  | .safeNow _ => true
  | .safeStop _ => true
  | .hdImgDataWrite _ => true
  | .imageStall => true
  | .imageChecksDone => true
  | .applyStart => true
  | .applyFail t => decide (t < 96)
  | .imageAccept => true
  | .safePrimingStart => true
  | .safePrimeStep t => decide (t < 96)
  | .safeParkTimeout t => decide (t < 96)
  | .keeperEnable t => decide (t < 96)
  | .keeperHandover t => decide (t < 96)
  | .cal t w p _ => decide (t < 96) && decide (w < 15) && decide (p < 4)
  | .offsetMeasureDone t w p _ _ => decide (t < 96) && decide (w < 15) && decide (p < 4)
  | .tsnsPeriod t w p high period => decide (t < 96) && decide (w < 15) && decide (p < 4) && decide (high ≤ period)
  | .tsnsTimeout t w p => decide (t < 96) && decide (w < 15) && decide (p < 4)
  | .pumpFaultWireFall t w p _ => decide (t < 96) && decide (w < 15) && decide (p < 4)
  | .faultClassify t w p _ => decide (t < 96) && decide (w < 15) && decide (p < 4)
  | .pumpRearm t w p => decide (t < 96) && decide (w < 15) && decide (p < 4)
  | .rearmPenRelease t w p => decide (t < 96) && decide (w < 15) && decide (p < 4)
  | .rearmCheck t w p => decide (t < 96) && decide (w < 15) && decide (p < 4)
  | .pumpFaultWireRise t w p => decide (t < 96) && decide (w < 15) && decide (p < 4)
  | .softShortTrip t w p => decide (t < 96) && decide (w < 15) && decide (p < 4)
  | .busFault t _ => decide (t < 96)
  | .refLost => true
  | .refQualified => true
  | .dcoPullUpdate _ _ => true
  | .periodOpening t w => decide (t < 96) && decide (w < 15)
  | .innerSampleClose t w codes => decide (t < 96) && decide (w < 15) && decide (codes.length = 8) && codes.all (fun x => decide (-128 ≤ x) && decide (x ≤ 127))
  | .innerEvaluation t w => decide (t < 96) && decide (w < 15)
  | .residueVerdict t w _ _ _ => decide (t < 96) && decide (w < 15)
  | .evaluationRetry t w _ _ _ => decide (t < 96) && decide (w < 15)
  | .outerEvaluation t w edges => decide (t < 96) && decide (w < 15) && decide (edges.length ≤ 4) && edges.all (fun l => decide (l.length = 4))
  | .selfTest t e _ => decide (t < 96) && decide (e < 2)
  | .stest t _ => decide (t < 96)
  | .modeReqWrite t _ => decide (t < 96)
  | .modeChangeApply t => decide (t < 96)
  | .holdAssert t w _ => decide (t < 96) && decide (w < 15)
  | .holdRelease t w _ => decide (t < 96) && decide (w < 15)
  | .holdTimeout t w => decide (t < 96) && decide (w < 15)
  | .ovSuppress t w _ => decide (t < 96) && decide (w < 15)
  | .ovSuppressEnd t w _ => decide (t < 96) && decide (w < 15)
  | .profileTick t w => decide (t < 96) && decide (w < 15)
  | .vCmdWrite t w _ => decide (t < 96) && decide (w < 15)
  | .hystTurnOn t w _ => decide (t < 96) && decide (w < 15)
  | .hystPulseEnd t w p _ => decide (t < 96) && decide (w < 15) && decide (p < 4)
  | .hystPumpReady t w p => decide (t < 96) && decide (w < 15) && decide (p < 4)
  | .handover t w => decide (t < 96) && decide (w < 15)
  | .sqStart n _ => decide (n < 8)
  | .sqAbort n => decide (n < 8)
  | .sqEnd n => decide (n < 8)
  | .sqSelt n => decide (n < 8)
  | .sqSetv n => decide (n < 8)
  | .sqProf n => decide (n < 8)
  | .sqPrime n => decide (n < 8)
  | .sqHand n => decide (n < 8)
  | .sqHyst n => decide (n < 8)
  | .sqPark n => decide (n < 8)
  | .sqWait n => decide (n < 8)
  | .sqJmp n => decide (n < 8)
  | .sqClgt n => decide (n < 8)
  | .sqTie n => decide (n < 8)
  | .sqPmode n => decide (n < 8)
  | .sqTrk n => decide (n < 8)
  | .sqTest n => decide (n < 8)
  | .sqEvent n => decide (n < 8)
  | .instructionComplete n => decide (n < 8)
  | .instructionTimeout n => decide (n < 8)
  | .primeAdmit t w => decide (t < 96) && decide (w < 15)
  | .primeResume t w => decide (t < 96) && decide (w < 15)
  | .parkTimeout t w => decide (t < 96) && decide (w < 15)
  | .capabilityEvent n => decide (n < 8192)
  | .scheduleWindowWrite t o _ => decide (t < 96) && decide (o < 0x8000)
  | .bind t _ => decide (t < 96)
  | .bindDone t => decide (t < 96)
  | .unbind t _ _ => decide (t < 96)
  | .dsStart t _ => decide (t < 96)
  | .dsStop t _ => decide (t < 96)
  | .playStart t => decide (t < 96)
  | .playStop t => decide (t < 96)
  | .playerBeat t => decide (t < 96)
  | .noticePost t k n _ => decide (t < 96) && decide (k < 96) && decide (n < 128)
  | .noticeCollect t k n => decide (t < 96) && decide (k < 96) && decide (n < 128)
  | .gateComplete t id => decide (t < 96) && decide (id < 256)
  | .waferGateReport t id => decide (t < 96) && decide (id < 256)
  | .waferGateComplete id => decide (id < 256)
  | .gateRelease t id => decide (t < 96) && decide (id < 256)
  | .gateTimeout t w => decide (t < 96) && decide (w < 15)
  | .force t _ => decide (t < 96)
  | .wellOverload t w => decide (t < 96) && decide (w < 15)
  | .tieAck t n => decide (t < 96) && decide (n.n < 12)
  | .tieAckTimeout t n => decide (t < 96) && decide (n < 12)
  | .tieOvercurrent t n => decide (t < 96) && decide (n < 12)
  | .tieOpen t n => decide (t < 96) && decide (n < 12)
  | .tieForcedOpen t n => decide (t < 96) && decide (n < 12)
  | .pumpOpenRetire t w p => decide (t < 96) && decide (w < 15) && decide (p < 4)
  | .senseFollow t w p => decide (t < 96) && decide (w < 15) && decide (p < 4)
  | .crackSuspect t w => decide (t < 96) && decide (w < 15)
  | .senseOpen t w => decide (t < 96) && decide (w < 15)
  | .testDue t w => decide (t < 96) && decide (w < 15)
  | .testReq t w _ => decide (t < 96) && decide (w < 15)
  | .testDeferExpiry t w => decide (t < 96) && decide (w < 15)
  | .quietTestStart t w => decide (t < 96) && decide (w < 15)
  | .shadowTestStart t w => decide (t < 96) && decide (w < 15)
  | .testStepEnd t w => decide (t < 96) && decide (w < 15)
  | .testOverdue t w => decide (t < 96) && decide (w < 15)
  | .retArm t _ => decide (t < 96)
  | .returnPump t w p _ => decide (t < 96) && decide (w < 15) && decide (p < 4)
  | .adWinCal t w _ _ => decide (t < 96) && decide (w < 15)
  | .calNow t _ => decide (t < 96)
  | .sarConversion t n raw => decide (t < 96) && decide (n < 4) && decide (raw < 4096)
  | .injectTrigger t n src w => decide (t < 96) && decide (n < 2) && decide (src < 16) && decide (w < 15)
  | .adGo t n _ => decide (t < 96) && decide (n < 2)
  | .burstStart t => decide (t < 96)
  | .burstDone t results => decide (t < 96) && results.all (fun r => decide (r < 4096))
  | .adResConfigWrite t ch _ => decide (t < 96) && decide (ch < 128)
  | .lpInhibitWrite t _ => decide (t < 96)
  | .telemetryWindowClose t => decide (t < 96)
  | .tileTelemetryReport t => decide (t < 96)
  | .telemetrySnapshot => true
  | .thermalRound t ch => decide (t < 96) && decide (ch < 128)
  | .hotListEval t => decide (t < 96)
  | .throttleStep t w => decide (t < 96) && decide (w < 15)
  | .orderlyStopEnd t => decide (t < 96)
  | .orderlyTimeout t => decide (t < 96)
  | .hardStop t => decide (t < 96)
  | .stopRecordSent t => decide (t < 96)
  | .resume t _ => decide (t < 96)
  | .clrPeak t _ => decide (t < 96)
  | .restFrame t => decide (t < 96)
  | .jobRestCommit => true
  | .capHostWrite _ => true
  | .jobStop _ => true
  | .plSet _ => true
  | .accept id => decide (id < 4096)
  | .refuse id => decide (id < 4096)
  | .acceptTimeout id => decide (id < 4096)
  | .relocDone id => decide (id < 4096)
  | .relocTimeout id => decide (id < 4096)
  | .plHold _ => true
  | .resetMap _ => true
  | .hostClWrite t half _ => decide (t < 96) && decide (half < 2)
  | .hostHoldWrite t _ => decide (t < 96)
  | .voteGate t k => decide (t < 96) && decide (k < 96)
  | .wakeGraceExpiry t k => decide (t < 96) && decide (k < 96)
  | .gateControlRelease t k => decide (t < 96) && decide (k < 96)
  | .greqRelease t k => decide (t < 96) && decide (k < 96)
  | .votedPark t w => decide (t < 96) && decide (w < 15)
  | .primingOnWake t w => decide (t < 96) && decide (w < 15)
  | .pumphouseWakeDone t => decide (t < 96)
  | .nap => true
  | .sleep _ => true
  | .sleepEnter => true
  | .sleepWake srcs => decide (srcs < 32)
  | .faultRaise n => decide (n < 512)
  | .blockResetDone blk => decide (blk < 96 ∨ blk = 100 ∨ blk = 101 ∨ blk = 102)
  | .chipReaction => true
  | .episodeClose _ => true
  | .trapAck _ => true
  | .inject _ => true
  | .interruptClaim tgt => decide (tgt < 8)
  | .interruptComplete tgt _ => decide (tgt < 8)
  | .setpend _ => true
  | .recorderScan _ => true
  | .snapshotStart trig => decide (trig < 512)
  | .snapshotDone => true
  | .heartbeat => true
  | .recordWrite => true
  | .recordWriteDone _ => true
  | .eraseDone _ => true
  | .freeze _ => true
  | .thaw _ => true
  | .freezeExpiry => true
  | .erRdPtrWrite _ => true
  | .erRdDataRead => true
  | .fetchDone => true
  | .rdAbort _ _ => true
  | .clear _ => true
  | .clearDone => true
  | .clearArmExpiry => true
  | .erCfgWrite _ => true
  | .portSignalDetect n => decide (n < 4)
  | .trainingDone n => decide (n < 4)
  | .trainingTimeout n => decide (n < 4)
  | .helloTx n => decide (n < 4)
  | .hello n f => decide (n < 4) && f.wellFormed
  | .auth n f => decide (n < 4) && f.wellFormed
  | .isolationExpiry n => decide (n < 4)
  | .portDown n => decide (n < 4)
  | .portSilenceTimeout n => decide (n < 4)
  | .frameForward n f => decide (n < 4) && f.wellFormed
  | .frameResend n => decide (n < 4)
  | .markTx n pos => decide (n < 4) && decide (pos < 16000)
  | .mark n f pos => decide (n < 4) && f.wellFormed && decide (pos < 16000)
  | .advTx => true
  | .adv n f => decide (n < 4) && f.wellFormed
  | .advExpiry inst => decide (inst < 4096)
  | .routeRecompute => true
  | .addrConflictClear => true
  | .followUpdate _ => true
  | .parentLost => true
  | .timeOffsetExceeded => true
  | .timeStep => true
  | .join _ => true
  | .leave _ => true
  | .joinRetry => true
  | .joinFrame n f => decide (n < 4) && f.wellFormed
  | .admitFrame n f => decide (n < 4) && f.wellFormed
  | .jobMembershipStart => true
  | .leaveFrame n f => decide (n < 4) && f.wellFormed
  | .leaderTimeout => true
  | .need n f => decide (n < 4) && f.wellFormed
  | .agreeDeadline => true
  | .agree n f => decide (n < 4) && f.wellFormed
  | .syncDone n f => decide (n < 4) && f.wellFormed
  | .syncRel n f => decide (n < 4) && f.wellFormed
  | .shareReq n f => decide (n < 4) && f.wellFormed
  | .shareDeadline => true
  | .share n f => decide (n < 4) && f.wellFormed
  | .pullGo _ => true
  | .pullOpen n f => decide (n < 4) && f.wellFormed
  | .offer n f => decide (n < 4) && f.wellFormed
  | .credit n f => decide (n < 4) && f.wellFormed
  | .pullData n f => decide (n < 4) && f.wellFormed
  | .pullExpiry => true
  | .pullSourceTimeout => true
  | .pullAbort _ _ => true
  | .powerLoss _ => true
  | .busRecovery t => decide (t < 96)
  | .fastClockRestartDone => true
  | .retArmExpiry t => decide (t < 96)

end Sys2Proof
end

