-- ==== Sys2Proof/Certificates/Slice0/Obligations.lean ====
section
/-! DEFINITION. The statements for the provers, in the order of the opcode table's families. -/

open Sys2Proof Sys2Proof.Machine

/-! ### The machine as a whole -/

/-- A step takes the command at the front of the queue and runs it on the state with the queue's rest. -/
def Obligations.StepRunsFront : Prop :=
  ∀ (c : Instr) (s : State), step { s with pending := c :: s.pending } = exec c s

/-- With nothing waiting and no beat boundary at hand, one nanosecond passes: the beat counter stands, and no register but
HD_AO_TIME changes, and HD_PWR_STAT only where the alarm wakes a Wellhead at rest. What an empty queue does is the model's choice (log entry 1). -/
def Obligations.EmptyQueueTicks : Prop :=
  ∀ s : State, s.pending = [] → 1 < s.clk.beatLeft →
    ∃ t, step s = .next t ∧ t.clk.ns = s.clk.ns + 1 ∧ t.clk.beat = s.clk.beat ∧ t.clk.beatLeft = s.clk.beatLeft - 1 ∧
      State.sameBut [HD_AO_TIME, HD_PWR_STAT] s t ∧ (s.awake → State.sameBut [HD_AO_TIME] s t ∧ t.awake) ∧ t.fault = s.fault ∧
      t.wells = s.wells ∧ t.pumps = s.pumps ∧ t.clusters = s.clusters ∧ t.tiles = s.tiles ∧ t.flash = s.flash ∧ t.pending = []

/-- What reset leaves in registers of several chapters: the values the tables list; no raise is uncollected and the register table is in its
canonical form, the states the invariant starts from (R394, R395). -/
def Obligations.ResetValues : Prop :=
  State.reset.reg PL_CFG = 0x4041F40D80240100 ∧ (∀ n, n < 4 → State.reset.rd (CL_PORT n) CL_PORT.STATE = 0) ∧
    State.reset.reg (FC_REACT 1) = 0x18F0100000000001 ∧ State.reset.reg (FC_REACT 2) = 0x10F0100000000001 ∧
    State.reset.reg (FC_REACT 4) = 0x48F0100000000001 ∧ State.reset.rd CL_JOB CL_JOB.STATE = 0 ∧
    State.reset.rd HD_CLK HD_CLK.MODE = 3 ∧ State.reset.pending = [] ∧ State.reset.port.outstanding = [] ∧
  State.reset.quiet ∧ State.reset.canonical

/-- Whatever the command, and in every state without an uncollected raise, a step ends without one: what the Wellhead raises is
collected in the cycle in which it is found (R324). And every step leaves the register table in its canonical form, in which its type holds it. -/
def Obligations.StepKeepsQuiet : Prop :=
  (∀ s t : State, s.quiet → step s = .next t → t.quiet) ∧ (∀ s t : State, s.canonical → step s = .next t → t.canonical)

/-- What the collector does at the end of a command: nothing where the Wellhead raised nothing, and then the next state is the effect
itself. A source's reaction is its FC_REACT register's, or INT with ERR while no image is active. A single raise is counted and marked and
opens an episode where none is open: RANK is its level, its record is queued, and its reaction is applied: INT sets the source pending, TRAP
holds the trap, and ERR asserts VP_ERR_N. Where an episode is open the raise is merged: it is logged and counted, or sets OVF where the log
is full; a level above RANK escalates, RANK rising to it and the reaction being applied, and a level not above RANK applies none (R324,
R326, R328, R332, R333, R334). Reactions with a program, BLOCK and CHIP are stated with the episodes below. -/
def Obligations.CollectorEndsCommand : Prop :=
  (∀ s : State, s.quiet → s.settle = s) ∧
  (∀ (s : State) (r : Raise), s.fault.now = [r] → (({ s with fault := { s.fault with now := [] } } : State).collect r).quiet →
    s.settle = ({ s with fault := { s.fault with now := [] } } : State).collect r) ∧
  (∀ (s : State) (n : Nat), (5 ≤ n → n ≤ 31 → s.active = false → s.react n = ⟨1, true, false, 0, 0⟩) ∧
    (n ≤ 4 ∨ s.active = true → (s.react n).level = s.rd (FC_REACT n) FC_REACT.LEVEL ∧
      (s.react n).err = s.flag (FC_REACT n) FC_REACT.ERR ∧ (s.react n).prog = s.rd (FC_REACT n) FC_REACT.PROG)) ∧
  (∀ (s : State) (r : Raise), s.fault.now = [r] → r.src < 32 → 5 ≤ r.src → (s.react r.src).level ≤ 3 → (s.react r.src).prog = 0 →
    s.rd (FC_COUNT r.src) ctrCount + 1 < 0xFFFFFFFF → s.flag HD_IMG_STAT HD_IMG_STAT.SAFE = false → s.awake → s.rcd.triggers = [] →
    (s.settle.rd (FC_COUNT r.src) ctrCount = s.rd (FC_COUNT r.src) ctrCount + 1 ∧ (s.settle.reg (FC_RAISED 0)).getLsbD r.src = true) ∧
    (s.flag FC_STAT FC_STAT.OPEN = false → s.flag ER_STAT ER_STAT.NOFLASH = false → s.rcd.queue = [] →
      s.settle.flag FC_STAT FC_STAT.OPEN = true ∧ s.settle.rd FC_STAT FC_STAT.RANK = (s.react r.src).level ∧
      s.settle.rd FC_FIRST FC_FIRST.SRC = r.src ∧ s.settle.rcd.queue.length = 1 ∧
      s.settle.flag (IC_SRC r.src) IC_SRC.PEND = (s.flag (IC_SRC r.src) IC_SRC.PEND || decide (1 ≤ (s.react r.src).level)) ∧
      s.settle.flag FC_STAT FC_STAT.TRAP = (s.flag FC_STAT FC_STAT.TRAP || decide ((s.react r.src).level = 3)) ∧
      s.settle.flag FC_STAT FC_STAT.ERR = (s.flag FC_STAT FC_STAT.ERR || (s.react r.src).err) ∧
      State.sameBut [FC_STAT, FC_FIRST, FC_FIRST_T, FC_COUNT r.src, FC_RAISED 0, ER_STAT, IC_SRC r.src] s s.settle ∧
      ((s.react r.src).level = 0 → s.settle.reg (IC_SRC r.src) = s.reg (IC_SRC r.src))) ∧
    (s.flag FC_STAT FC_STAT.OPEN = true →
      s.settle.flag FC_STAT FC_STAT.OPEN = true ∧ s.settle.rcd.queue = s.rcd.queue ∧
      s.settle.rd FC_STAT FC_STAT.MERGED = min (s.rd FC_STAT FC_STAT.MERGED + 1) 0xFFFF ∧
      (s.rd FC_STAT FC_STAT.LOGN < 16 → s.settle.rd FC_STAT FC_STAT.LOGN = s.rd FC_STAT FC_STAT.LOGN + 1 ∧
        s.settle.reg (FC_LOG (s.rd FC_STAT FC_STAT.LOGN)) = raiseWord r (s.react r.src).level (s.react r.src).err s.clk.beat ∧
        s.settle.flag FC_STAT FC_STAT.OVF = s.flag FC_STAT FC_STAT.OVF ∧
        State.sameBut [FC_STAT, FC_LOG (s.rd FC_STAT FC_STAT.LOGN), FC_COUNT r.src, FC_RAISED 0, IC_SRC r.src] s s.settle) ∧
      (16 ≤ s.rd FC_STAT FC_STAT.LOGN → s.settle.flag FC_STAT FC_STAT.OVF = true ∧
        State.sameBut [FC_STAT, FC_COUNT r.src, FC_RAISED 0, IC_SRC r.src] s s.settle) ∧
      (s.rd FC_STAT FC_STAT.RANK < (s.react r.src).level → s.settle.rd FC_STAT FC_STAT.RANK = (s.react r.src).level ∧
        s.settle.flag (IC_SRC r.src) IC_SRC.PEND = true ∧
        s.settle.flag FC_STAT FC_STAT.TRAP = (s.flag FC_STAT FC_STAT.TRAP || decide ((s.react r.src).level = 3)) ∧
        s.settle.flag FC_STAT FC_STAT.ERR = (s.flag FC_STAT FC_STAT.ERR || (s.react r.src).err)) ∧
      ((s.react r.src).level ≤ s.rd FC_STAT FC_STAT.RANK → s.settle.rd FC_STAT FC_STAT.RANK = s.rd FC_STAT FC_STAT.RANK ∧
        s.settle.flag FC_STAT FC_STAT.TRAP = s.flag FC_STAT FC_STAT.TRAP ∧ s.settle.flag FC_STAT FC_STAT.ERR = s.flag FC_STAT FC_STAT.ERR ∧
        s.settle.reg (IC_SRC r.src) = s.reg (IC_SRC r.src))))

/-- A command stops only where a write would set a reserved field, which R7 forbids and to which the spec gives no effect (that it stops there is the
model's, log entry 4). Every other command answers a next state: those of each family that write no register, named one by one, in every state and for
all operands; a host write wherever it leaves the reserved fields of the register it names zero. What each of these
next states holds is stated family by family below. -/
def Obligations.NothingElseStops : Prop :=
  (∀ (c : Instr) (s : State),
    (∃ t, exec c s = .next t) ∨ exec c s = .refused .reservedWrite) ∧
  (∀ (c : Instr) (s : State), c ∈ [
      Instr.powerOnReset, .chipReset] → ∃ t, exec c s = .next t) ∧
  (∀ (c : Instr) (p : Bool) (a b : Nat) (d : Word) (s : State), c ∈ [
      Instr.lifeCycleRead, .hostRequest p a d b, .portTimeout p, .sbRead a, .mboxWrite d, .freezeRecorder, .stopRequest a, .ident,
      .privateRead, .addressMatchWake, .enec a, .disec a, .rstdaa, .entdaa a, .setdasa a, .setnewda a, .getpid, .getbcr, .getdcr,
      .getstatus, .setmwl a, .getmwl, .setmrl a, .getmrl, .rstact a, .targetResetPattern, .unsupportedCcc a, .ibiRequest p, .idcode,
      .dbgRegRead a, .dbgAuth, .dbgScan, .bypass, .tapReset, .dbgSessionExpiry, .submitVerified, .nonceExpiry, .fuseProgramDone] → ∃ t, exec c s = .next t) ∧
  (∀ (c : Instr) (d : Word) (a : Nat) (p : Bool) (s : State), c ∈ [
      Instr.hdImgDataWrite d, .imageStall, .imageChecksDone, .applyStart, .applyFail a, .imageAccept, .safePrimingStart, .safePrimeStep a,
      .safeParkTimeout a, .powerLoss p] → ∃ t, exec c s = .next t) ∧
  (∀ (c : Instr) (a b e g h : Nat) (i j : Int) (p : Bool) (s : State), c ∈ [
      Instr.keeperEnable a, .offsetMeasureDone a b e g i, .tsnsPeriod a b e g h, .tsnsTimeout a b e, .pumpFaultWireFall a b e p,
      .faultClassify a b e g, .pumpRearm a b e, .rearmPenRelease a b e, .rearmCheck a b e, .pumpFaultWireRise a b e, .softShortTrip a b e,
      .busFault a p, .refLost, .refQualified, .dcoPullUpdate i j, .periodOpening a b, .busRecovery a] → ∃ t, exec c s = .next t) ∧
  (∀ (c : Instr) (a b e g : Nat) (i : Int) (s : State), c ∈ [
      Instr.keeperHandover a, .profileTick a b, .hystTurnOn a b i, .hystPulseEnd a b e ⟨g, i⟩, .hystPumpReady a b e, .handover a b,
      .sqAbort a, .sqEnd a, .sqSelt a, .sqSetv a, .sqProf a, .sqPrime a, .sqHand a, .sqHyst a, .sqPark a, .sqWait a, .sqJmp a, .sqClgt a,
      .sqTie a, .sqPmode a, .sqTrk a, .sqEvent a, .instructionComplete a, .instructionTimeout a, .primeAdmit a b, .primeResume a b,
      .parkTimeout a b] → ∃ t, exec c s = .next t) ∧
  (∀ (c : Instr) (a b e g : Nat) (li : List Int) (l : List Nat) (s : State), c ∈ [
      Instr.innerSampleClose a b li, .sarConversion a b e, .injectTrigger a b e g, .burstStart a, .burstDone a l, .telemetryWindowClose a,
      .tileTelemetryReport a, .telemetrySnapshot] → ∃ t, exec c s = .next t) ∧
  (∀ (c : Instr) (a b : Nat) (p q r : Bool) (ll : List (List Nat)) (i : Int) (s : State), c ∈ [
      Instr.innerEvaluation a b, .residueVerdict a b p q r, .evaluationRetry a b p q r, .outerEvaluation a b ll, .selfTest a b p,
      .modeChangeApply a, .holdAssert a b i, .holdRelease a b i, .holdTimeout a b, .ovSuppress a b i, .ovSuppressEnd a b i] → ∃ t, exec c s = .next t) ∧
  (∀ (c : Instr) (a b e : Nat) (p : Bool) (s : State), c ∈ [
      Instr.sqTest a, .wellOverload a b, .tieAck a ⟨b, p⟩, .tieAckTimeout a b, .tieOvercurrent a b, .tieOpen a b, .tieForcedOpen a b,
      .pumpOpenRetire a b e, .senseFollow a b e, .crackSuspect a b, .senseOpen a b, .testDue a b, .testDeferExpiry a b,
      .quietTestStart a b, .shadowTestStart a b, .testStepEnd a b, .testOverdue a b, .retArmExpiry a] → ∃ t, exec c s = .next t) ∧
  (∀ (c : Instr) (a : Nat) (s : State), c ∈ [
      Instr.capabilityEvent a] → ∃ t, exec c s = .next t) ∧
  (∀ (c : Instr) (a b e : Nat) (d : Word) (s : State), c ∈ [
      Instr.scheduleWindowWrite a b d, .bindDone a, .playStart a, .playStop a, .playerBeat a, .noticePost a b e d, .noticeCollect a b e,
      .gateComplete a b, .waferGateReport a b, .waferGateComplete a, .gateRelease a b, .gateTimeout a b] → ∃ t, exec c s = .next t) ∧
  (∀ (c : Instr) (a b : Nat) (s : State), c ∈ [
      Instr.thermalRound a b, .hotListEval a, .throttleStep a b, .orderlyStopEnd a, .orderlyTimeout a, .hardStop a, .stopRecordSent a] → ∃ t, exec c s = .next t) ∧
  (∀ (c : Instr) (a : Nat) (s : State), c ∈ [
      Instr.restFrame a, .jobRestCommit, .accept a, .refuse a, .acceptTimeout a, .relocDone a, .relocTimeout a] → ∃ t, exec c s = .next t) ∧
  (∀ (c : Instr) (a b : Nat) (s : State), c ∈ [
      Instr.voteGate a b, .wakeGraceExpiry a b, .gateControlRelease a b, .greqRelease a b, .votedPark a b, .primingOnWake a b,
      .pumphouseWakeDone a, .nap, .sleepEnter, .sleepWake a, .fastClockRestartDone] → ∃ t, exec c s = .next t) ∧
  (∀ (c : Instr) (a : Nat) (s : State), c ∈ [
      Instr.faultRaise a, .blockResetDone a, .chipReaction, .interruptClaim a] → ∃ t, exec c s = .next t) ∧
  (∀ (c : Instr) (o : Option Sfdp) (a : Nat) (p : Bool) (s : State), c ∈ [
      Instr.recorderScan o, .snapshotStart a, .snapshotDone, .heartbeat, .recordWrite, .recordWriteDone p, .eraseDone p, .freezeExpiry,
      .erRdDataRead, .fetchDone, .clearDone, .clearArmExpiry] → ∃ t, exec c s = .next t) ∧
  (∀ (c : Instr) (a b : Nat) (f : LinkFrame) (i : Int) (s : State), c ∈ [
      Instr.portSignalDetect a, .trainingDone a, .trainingTimeout a, .helloTx a, .hello a f, .auth a f, .isolationExpiry a, .portDown a,
      .portSilenceTimeout a, .frameForward a f, .frameResend a, .markTx a b, .mark a f b, .advTx, .adv a f, .advExpiry a, .routeRecompute,
      .addrConflictClear, .followUpdate i, .parentLost, .timeOffsetExceeded, .timeStep, .joinRetry, .joinFrame a f, .admitFrame a f,
      .jobMembershipStart, .leaveFrame a f, .leaderTimeout, .need a f, .agreeDeadline, .agree a f, .syncDone a f, .syncRel a f,
      .shareReq a f, .shareDeadline, .share a f, .pullOpen a f, .offer a f, .credit a f, .pullData a f, .pullExpiry, .pullSourceTimeout] → ∃ t, exec c s = .next t) ∧
  (∀ (c : Instr) (a b e m : Nat) (d y : Word) (p : Bool) (i : Int) (s : State), (c, m, y) ∈ [
      (Instr.wlLimitWrite a b d, WL_LIMIT a b, d), (.challenge d, LC_CMD, d), (.submit, LC_CMD, 0x02), (.cancel p, LC_CMD, 0x03),
      (.provisionCommit, LC_CMD, 0x10), (.enterField, LC_CMD, 0x11), (.imgStart d, HD_IMG_CTRL, d), (.imgAbort d p, HD_IMG_CTRL, d),
      (.safeNow d, HD_IMG_CTRL, d), (.safeStop d, HD_IMG_CTRL, d), (.cal a b e d, PM_LINK a b e, d), (.stest a d, PH_ENG_CTRL a, d),
      (.modeReqWrite a d, PH_ENG_CTRL a, d), (.vCmdWrite a b d, WL_SETPT a b, d), (.sqStart a d, SQ_CTRL a, d), (.bind a d, DS_CTRL a, d),
      (.unbind a d p, DS_CTRL a, d), (.dsStart a d, DS_CTRL a, d), (.dsStop a d, DS_CTRL a, d), (.force a d, DS_GATE_CTRL a, d),
      (.testReq a b d, WL_TEST a b, d), (.retArm a d, PH_RET_ARM a, d), (.returnPump a b e d, PM_SVC a b e, d),
      (.adWinCal a b d i, AD_WIN a b, d), (.calNow a d, AD_CTRL a, d), (.adGo a b d, AD_INJ a b, d),
      (.adResConfigWrite a b d, AD_RES a b, d), (.lpInhibitWrite a d, AD_CTRL a, d), (.resume a d, TH_CTRL a, d),
      (.clrPeak a d, TH_CTRL a, d), (.capHostWrite d, CG_CAP, d), (.jobStop d, CG_CTRL, d), (.plSet d, PL_SET, d),
      (.plHold d, PL_CTRL, d), (.resetMap d, PL_CTRL, d), (.hostHoldWrite a d, PH_HOST_HOLD a, d), (.sleep d, HD_PWR_CTRL, d),
      (.episodeClose d, FC_STAT, d), (.trapAck d, FC_CTRL, d), (.inject d, FC_CTRL, d), (.setpend d, IC_SETPEND, d),
      (.freeze d, ER_CTRL, d), (.thaw d, ER_CTRL, d), (.erRdPtrWrite d, ER_RD_PTR, d), (.rdAbort d p, ER_CTRL, d), (.clear d, ER_CTRL, d),
      (.erCfgWrite d, ER_CFG, d), (.join d, CL_JOB, d), (.leave d, CL_JOB, d), (.pullGo d, CL_PULL, d), (.pullAbort d p, CL_PULL, d)] →
    s.reservedBits m y = false → ∃ t, exec c s = .next t) ∧
  (∀ (a b : Nat) (d x : Word) (q : Bool) (l : List Nat) (s : State),
    (s.reservedWrite a d = false → (∃ t, exec (.registerWrite a d) s = .next t) ∧ (∃ t, exec (.counterClear a d q) s = .next t) ∧
      ∃ t, exec (.statusClear a d x) s = .next t) ∧
    (s.reservedBits (phBase 0 + a) d = false → ∃ t, exec (.broadcastWrite a d l) s = .next t) ∧
    (s.reservedWrite (a % 2 ^ 24) d = false ∨ a.testBit 24 = true → ∃ t, exec (.dbgRegWrite a d) s = .next t) ∧
    (s.reservedBits (LC_STAGE a) d = false → ∃ t, exec (.lcStageWrite a d) s = .next t) ∧
    (s.reservedBits (IC_CLAIM a) d = false → ∃ t, exec (.interruptComplete a d) s = .next t) ∧
    (s.reservedBits (PH_HOST_CL0 a) d = false → ∃ t, exec (.hostClWrite a 0 d) s = .next t) ∧
    (b ≠ 0 → s.reservedBits (PH_HOST_CL1 a) d = false → ∃ t, exec (.hostClWrite a b d) s = .next t))

/-! ### Reset and life-cycle read -/

/-- Power-on: registers take their reset values but for the fused fields; fuses and flash stand; nothing is left of wells, pumps, clusters,
sequencers, episodes or sessions. Power loss: the image slot, the nonce, the recorder's queue and CLEAR_ARMED are lost; fuses and flash keep
what was written, and a wipe that had blown every bit of its slot stands (R49, R54, R362, R395). That HD_AO_TIME and ER_PCC read their reset
word until the scan, that any other fuse programming cut by power loss blows nothing, are the model's readings (log entries 30, 58; 26). -/
def Obligations.PowerLeaves : Prop :=
  (∀ s : State, ∃ t, exec .powerOnReset s = .next t ∧
    (∀ a, a ∉ [HD_TOPO, HD_SAFE, ER_CFG, CG_CAP] → t.reg a = regReset a) ∧
    t.rd HD_TOPO HD_TOPO.TILES = s.fuses.rows * s.fuses.cols % 256 ∧ t.reg HD_SAFE = s.fuses.safe ∧
    t.fuses = s.fuses ∧ t.flash = s.flash ∧ t.wells = [] ∧ t.pumps = [] ∧ t.clusters = [] ∧ t.tiles = [] ∧ t.seqs = [] ∧
    t.lc = {} ∧ t.fault = {} ∧ t.img = {} ∧ t.rcd = {} ∧ t.tap = {} ∧ t.pending = s.pending) ∧
  ((∀ s : State, ∃ t, exec (.powerLoss false) s = .next t ∧ t.load = {} ∧ t.lc.nonce = none ∧ t.rcd.queue = [] ∧
    t.flag ER_STAT ER_STAT.CLEAR_ARMED = false ∧ t.fuses = s.fuses ∧ t.flash = s.flash ∧ t.pending = s.pending) ∧
  (∀ s : State, s.lc.fuseOp = .returnWipe →
    ∃ t, exec (.powerLoss true) s = .next t ∧ t.fuses = s.fuses.setSecret s.fuses.slot wiped ∧ t.lc.nonce = none ∧
      t.flash = s.flash ∧ t.pending = s.pending))

/-- Chip reset, by command or by the CHIP reaction: every register but the fused fields, the lockout count and the registers that hold a
keeper well's stage, generator, pumps and converter takes its reset value; the image slot and the sequencers are cleared, every pump wire
but the keeper's is low (R54, R78, R330, R395). What else stands, and that HD_AO_TIME and ER_PCC read their reset word until the scan, are
the model's readings (log entry 30; fuses: 26). -/
def Obligations.ChipResetLeaves : Prop :=
  ∀ (c : Instr) (s : State), (c = .chipReset ∨ (c = .chipReaction ∧ s.fault.chipPend = true)) → ∃ t, exec c s = .next t ∧
    (∀ a, a ∉ [HD_TOPO, HD_SAFE, ER_CFG, CG_CAP, LC_STATE] → (∀ u p, u < 96 → p < 4 →
      a ∉ [WL_SETPT u 14, WL_PROF_STAT u 14, AD_WIN u 14, PM_STAT u 14 p, PM_LINK u 14 p]) → t.reg a = regReset a) ∧
    (∀ u p, u < s.tileCount → p < 4 → t.rd (PM_STAT u 14 p) PM_STAT.TRIPS = 0 ∧ t.rd (PM_LINK u 14 p) PM_LINK.SKEW =
      PM_LINK.SKEW.get (regReset (PM_LINK u 14 p)) ∧ t.rd (WL_SETPT u 14) WL_SETPT.V_CMD = WL_SETPT.V_CMD.get (regReset (WL_SETPT u 14))) ∧
    (∀ u w p, u < 96 → w < 14 → p < 4 → t.pump u w p = {}) ∧ t.load = {} ∧ t.seqs = [] ∧ t.fault = {} ∧ t.rcd = {} ∧
    t.rd LC_STATE LC_STATE.FAILS = s.rd LC_STATE LC_STATE.FAILS ∧
    t.fuses = s.fuses ∧ t.flash = s.flash ∧ t.pending = s.pending

/-- The life-cycle fuses are read: VP_ERR_N is released; with no wiped slot in FIELD nothing else changes, and with one the move to
RETURNED is completed (R48, R49, R322). -/
def Obligations.LifeCycleReadDoes : Prop :=
  (∀ s : State, s.quiet → ¬(s.fuses.lcState = 2 ∧ s.fuses.secretAt s.fuses.slot = wiped) →
    exec .lifeCycleRead s = .next { s with fault := { s.fault with errReset := false } }) ∧
  (∀ s : State, s.fuses.lcState = 2 → s.fuses.secretAt s.fuses.slot = wiped →
    ∃ u : State, exec .lifeCycleRead s = .next u.settle ∧ u.fuses = { s.fuses with lcState := 3 } ∧ u.fault.errReset = false ∧
      { src := 2, sub := 1 } ∈ u.fault.now)

/-! ### The host register port -/

/-- REGISTER_WRITE to a register without a row of its own: each RW bit takes the word's bit, a one clears a W1C bit, every other bit and
every other register stands; an address without a register is answered UNMAPPED and counted. A write that sets a reserved bit, to which R7
gives no effect, stops by name. A tile that does not answer takes no write, and a write that would set a unit of a dry Pumphouse to work is
held for it, by REGISTER_WRITE or by the row of its own: its RW fields are stored and its work waits (R7, R36, R37). The stop is log entry
4, a silent tile taking no write log entry 9, and which writes are held log entry 16: the model's readings. -/
def Obligations.RegisterWriteStores : Prop :=
  (∀ (a : Nat) (d : Word) (s : State) (r : RegRow), s.quiet → s.alone → s.takes a d → ownRow a = false → s.rowOf a = some r →
    r.cnt = 0 → ∃ t, exec (.registerWrite a d) s = .next t ∧
      (∀ i, i < 64 → (t.reg a).getLsbD i =
        ((if r.rw.testBit i then d.getLsbD i else (s.reg a).getLsbD i) && !(r.w1c.testBit i && d.getLsbD i))) ∧
      State.sameBut [a] s t ∧ s.onlyRegsPort t ∧ t.port = (s.answered rOkay 0).port) ∧
  (∀ (a : Nat) (d : Word) (s : State), s.quiet → s.alone → a < 2 ^ 24 → place a = .nowhere →
    s.rd HD_PORT_STAT HD_PORT_STAT.ERRORS + 1 < 0xFFFFFFFF → ∃ t, exec (.registerWrite a d) s = .next t ∧
      t.port = (s.answered rUnmapped 0).port ∧ t.rd HD_PORT_STAT HD_PORT_STAT.ERRORS = s.rd HD_PORT_STAT HD_PORT_STAT.ERRORS + 1 ∧
      t.rd HD_PORT_STAT HD_PORT_STAT.LAST_ADDR = a ∧ t.rd HD_PORT_STAT HD_PORT_STAT.LAST_RESP = rUnmapped ∧
      State.sameBut [HD_PORT_STAT] s t ∧ s.onlyRegsPort t) ∧
  (∀ (a : Nat) (d : Word) (s : State), s.reservedWrite a d = true → exec (.registerWrite a d) s = .refused .reservedWrite) ∧
  (∀ (a : Nat) (d : Word) (s : State), s.quiet → s.reservedWrite a d = false → s.unreached a = true →
    exec (.registerWrite a d) s = .next s) ∧
  (∀ (u w p : Nat) (c : Instr) (a : Nat) (d : Word) (s : State), s.quiet → s.alone → u < 96 → w < 15 → p < 4 →
    (c, a) ∈ [(.stest u d, PH_ENG_CTRL u), (.modeReqWrite u d, PH_ENG_CTRL u), (.cal u w p d, PM_LINK u w p), (.testReq u w d, WL_TEST u w),
      (.retArm u d, PH_RET_ARM u), (.bind u d, DS_CTRL u), (.unbind u d false, DS_CTRL u), (.unbind u d true, DS_CTRL u), (.dsStart u d, DS_CTRL u),
      (.dsStop u d, DS_CTRL u), (.force u d, DS_GATE_CTRL u), (.wlLimitWrite u w d, WL_LIMIT u w), (.returnPump u w p d, PM_SVC u w p),
      (.registerWrite a d, a)] → s.heldBack a d → ∃ t, exec c s = .next t ∧
      (t.tile u).held = (s.tile u).held ++ [(a, d)] ∧ State.sameBut [a] s t ∧ t.pumps = s.pumps ∧ t.wells = s.wells ∧
      t.fault = s.fault ∧ t.port = (s.answered rOkay 0).port)

/-- STATUS_CLEAR: at a register without a row of its own a one clears a W1C bit unless hardware sets that bit in the same cycle, and every other
register stands; at every register a W1C bit that hardware sets in the cycle of the write reads 1 afterwards, at DS_GATE_VIEW in the flags of the
gate it shows. COUNTER_CLEAR: a zero in the counter field clears the count and SAT, and an event of the same cycle is counted after it; any other
value leaves both as they were (R8, R12, R13, R396). -/
def Obligations.ClearsClear : Prop :=
  (∀ (a : Nat) (d hw : Word) (s : State) (r : RegRow), s.quiet → s.alone → s.takes a d → ownRow a = false → s.rowOf a = some r →
    ∃ t, exec (.statusClear a d hw) s = .next t ∧
      (∀ i, i < 64 → r.w1c.testBit i = true → r.rw.testBit i = false →
        (t.reg a).getLsbD i = (hw.getLsbD i || ((s.reg a).getLsbD i && !d.getLsbD i))) ∧
      State.sameBut [a] s t ∧ s.onlyRegsPort t ∧ t.port = (s.answered rOkay 0).port) ∧
  (∀ (a : Nat) (d hw : Word) (s : State), s.quiet → s.alone → s.takes a d → (∀ u, u < 96 → a ≠ DS_GATE_VIEW u) →
    ∃ u, exec (.statusClear a d hw) s = done u ∧
      ∀ i, i < 64 → (s.w1cBits a).getLsbD i = true → hw.getLsbD i = true → (u.reg a).getLsbD i = true) ∧
  (∀ (u : Nat) (d hw : Word) (s : State), s.quiet → s.alone → u < 96 → s.takes (DS_GATE_VIEW u) d →
    ∃ t, exec (.statusClear (DS_GATE_VIEW u) d hw) s = done t ∧ (hw.getLsbD 18 = true → (s.shownGate u t).dup = true) ∧
      (hw.getLsbD 17 = true → (s.shownGate u t).extra = true) ∧ (hw.getLsbD 16 = true → (s.shownGate u t).tmo = true)) ∧
  (∀ (a : Nat) (d : Word) (s : State) (r : RegRow), s.quiet → s.alone → s.takes a d → ownRow a = false → s.rowOf a = some r →
    r.cnt = 1 →
    (ctrCount.get d = 0 → ∀ inc, ∃ t, exec (.counterClear a d inc) s = .next t ∧ t.rd a ctrCount = (if inc then 1 else 0) ∧
      t.rd a ctrSat = 0 ∧ State.sameBut [a] s t ∧ s.onlyRegsPort t) ∧
    (ctrCount.get d ≠ 0 → ∃ t, exec (.counterClear a d false) s = .next t ∧ t.rd a ctrCount = s.rd a ctrCount ∧
      t.rd a ctrSat = s.rd a ctrSat ∧ State.sameBut [a] s t ∧ s.onlyRegsPort t))

/-- HOST_REQUEST: an accepted write waits among the outstanding requests; an accepted read of a mapped register without a side effect is
answered with the register's word; a request behind one that waits waits behind it, in the order of acceptance; a full port accepts nothing.
A write that is performed answers the oldest request, and then the reads behind it, in order. PORT_TIMEOUT: the oldest request is answered
TIMEOUT with zero data, the port counts the error and keeps its address; a read, and a write that had not landed, has no other effect, and a
write that had landed is stored (R34, R37). That a request of a tile that does not answer waits is log entry 9, and the drain of reads from
the head log entry 29. -/
def Obligations.RequestsAnswered : Prop :=
  (∀ (a : Nat) (d : Word) (tag : Nat) (s : State), s.quiet → s.awake → a < 2 ^ 24 → tag < 8 →
    (s.port.outstanding = [] → exec (.hostRequest true a d tag) s =
      .next { s with port := { s.port with outstanding := [⟨true, a, d, tag⟩] } }) ∧
    (s.port.outstanding = [] → sideRead a = false → (s.readReg a).1 = rOkay → exec (.hostRequest false a d tag) s =
      .next { s with port := { outstanding := [], answered := s.port.answered ++ [⟨tag, rOkay, (s.readReg a).2⟩] } }) ∧
    (s.port.outstanding = [] → s.unreached a = true → exec (.hostRequest false a d tag) s =
      .next { s with port := { s.port with outstanding := [⟨false, a, d, tag⟩] } }) ∧
    (8 ≤ s.port.outstanding.length → ∀ we, exec (.hostRequest we a d tag) s = .next s) ∧
    (∀ (we : Bool) (q : Req) (l : List Req), s.port.outstanding = q :: l → l.length < 7 →
      q.we = true ∨ sideRead q.addr = true ∨ s.unreached q.addr = true → exec (.hostRequest we a d tag) s =
        .next { s with port := { s.port with outstanding := q :: (l ++ [⟨we, a, d, tag⟩]) } })) ∧
  (∀ (a : Nat) (d : Word) (s : State) (g : RegRow) (q r : Req), s.quiet → s.takes a d → ownRow a = false → s.rowOf a = some g →
    s.port.outstanding = [q, r] → ∃ t, exec (.registerWrite a d) s = .next t ∧
      (r.we = true → t.port.outstanding = [r] ∧ t.port.answered = s.port.answered ++ [⟨q.tag, rOkay, 0⟩]) ∧
      (r.we = false → sideRead r.addr = false → s.unreached r.addr = false → (t.readReg r.addr).1 = rOkay →
        t.port.outstanding = [] ∧
        t.port.answered = s.port.answered ++ [⟨q.tag, rOkay, 0⟩, ⟨r.tag, rOkay, (t.readReg r.addr).2⟩])) ∧
  (∀ (landed : Bool) (s : State) (q r : Req), s.quiet → s.port.outstanding = [q, r] → q.we = false → r.we = true →
    ∃ t, exec (.portTimeout landed) s = .next t ∧ t.port.outstanding = [r] ∧
      t.port.answered = s.port.answered ++ [⟨q.tag, rTimeout, 0⟩] ∧ State.sameBut [HD_PORT_STAT] s t) ∧
  (∀ (s : State) (q : Req) (g : RegRow), s.quiet → s.port.outstanding = [q] → q.we = true → s.takes q.addr q.data →
    ownRow q.addr = false → s.rowOf q.addr = some g → g.cnt = 0 → q.addr < 2 ^ 24 → s.rd HD_PORT_STAT HD_PORT_STAT.ERRORS + 1 < 0xFFFFFFFF →
    ∃ t, exec (.portTimeout true) s = .next t ∧ t.port.outstanding = [] ∧
      t.port.answered = s.port.answered ++ [⟨q.tag, rTimeout, 0⟩] ∧
      t.reg q.addr = plainWord g q.addr q.data (s.reg q.addr) ∧
      t.rd HD_PORT_STAT HD_PORT_STAT.ERRORS = s.rd HD_PORT_STAT HD_PORT_STAT.ERRORS + 1 ∧
      t.rd HD_PORT_STAT HD_PORT_STAT.LAST_RESP = rTimeout ∧ t.rd HD_PORT_STAT HD_PORT_STAT.LAST_ADDR = q.addr ∧
      State.sameBut [HD_PORT_STAT, q.addr] s t ∧ s.onlyRegsPort t) ∧
  (∀ (landed : Bool) (s : State) (q : Req), s.quiet → s.port.outstanding = [q] → q.we = false ∨ landed = false → q.addr < 2 ^ 24 →
    s.rd HD_PORT_STAT HD_PORT_STAT.ERRORS + 1 < 0xFFFFFFFF →
    ∃ t, exec (.portTimeout landed) s = .next t ∧ t.port.outstanding = [] ∧
      t.port.answered = s.port.answered ++ [⟨q.tag, rTimeout, 0⟩] ∧
      t.rd HD_PORT_STAT HD_PORT_STAT.ERRORS = s.rd HD_PORT_STAT HD_PORT_STAT.ERRORS + 1 ∧
      t.rd HD_PORT_STAT HD_PORT_STAT.LAST_RESP = rTimeout ∧ t.rd HD_PORT_STAT HD_PORT_STAT.LAST_ADDR = q.addr ∧
      State.sameBut [HD_PORT_STAT] s t ∧ s.onlyRegsPort t)

/-- BROADCAST_WRITE: every configured Pumphouse stores the word at the offset, and the port answers once (R38). -/
def Obligations.BroadcastReachesAll : Prop :=
  ∀ (off : Nat) (d : Word) (s : State) (r : RegRow), s.quiet → s.alone → off < 0x8000 →
    (∀ t, t < s.tileCount → s.takes (phBase t + off) d ∧ s.rowOf (phBase t + off) = some r ∧ ownRow (phBase t + off) = false) →
    1 ≤ s.tileCount → r.cnt = 0 → ∃ u, exec (.broadcastWrite off d []) s = .next u ∧
      (∀ t, t < s.tileCount → u.reg (phBase t + off) = plainWord r (phBase t + off) d (s.reg (phBase t + off))) ∧
      (∀ b, (∀ t, t < s.tileCount → b ≠ phBase t + off) → u.reg b = s.reg b) ∧ s.onlyRegsPort u ∧
      u.port = (s.answered rOkay 0).port

/-- WL_LIMIT_WRITE stores CONT_LIM, from which the next capability follows (R27). -/
def Obligations.LimitWriteStores : Prop :=
  ∀ (u w : Nat) (d : Word) (s : State), s.quiet → s.alone → u < 96 → w < 15 → s.takes (WL_LIMIT u w) d →
    ∃ t, exec (.wlLimitWrite u w d) s = .next t ∧ t.rd (WL_LIMIT u w) WL_LIMIT.CONT_LIM = WL_LIMIT.CONT_LIM.get d ∧
      State.sameBut [WL_LIMIT u w] s t ∧ s.onlyRegsPort t ∧ t.port = (s.answered rOkay 0).port

/-! ### The sideband -/

/-- Private commands with the fast clock running: READ leaves a status byte and the register's eight bytes, IDENT the bytes of HD_TOPO and
LC_STATE; MBOX_WRITE fills the mailbox, marks one that was unread, and makes SB_MBOX pending; STOP_REQUEST with 0xA5 sets STOP_REQ and raises
SIDEBAND_STOP, with another byte nothing but a bad-argument status; each replaces the result not read back (R43). -/
def Obligations.SidebandCommands : Prop :=
  (∀ (a : Nat) (s : State), s.quiet → s.awake → a < 2 ^ 24 →
    exec (.sbRead a) s = .next { s with sb := { s.sb with
      todo := none
      result := sbStatus (s.sbRead a).1 :: wordBytes (s.sbRead a).2 } }) ∧
  (∀ s : State, s.quiet → s.awake →
    exec .ident s = .next { s with sb := { s.sb with
      todo := none
      result := sbOk :: (wordBytes (s.readReg HD_TOPO).2 ++ wordBytes (s.readReg LC_STATE).2) } }) ∧
  (∀ (d : Word) (s : State), s.quiet → s.awake → s.rcd.triggers = [] → s.flag (IC_SRC 145) IC_SRC.ACTIVE = false →
    ∃ t, exec (.mboxWrite d) s = .next t ∧ t.reg HD_SB_MBOX = d ∧ t.flag HD_SB_STAT HD_SB_STAT.MBOX_FULL = true ∧
      (s.flag HD_SB_STAT HD_SB_STAT.MBOX_FULL = true → t.flag HD_SB_STAT HD_SB_STAT.MBOX_OVR = true) ∧
      t.flag (IC_SRC 145) IC_SRC.PEND = true ∧ t.sb.result = [sbOk] ∧
      State.sameBut [HD_SB_MBOX, HD_SB_STAT, IC_SRC 145] s t ∧ t.rcd = s.rcd ∧ t.fault = s.fault) ∧
  (∀ s : State, s.awake → ∃ u : State, exec (.stopRequest 0xA5) s = .next u.settle ∧
      u.flag HD_SB_STAT HD_SB_STAT.STOP_REQ = true ∧ u.fault.now = s.fault.now ++ [{ src := 5 }] ∧ u.sb.result = [sbOk] ∧
      State.sameBut [HD_SB_STAT] s u) ∧
  (∀ (b : Nat) (s : State), s.quiet → s.awake → b < 256 → b ≠ 0xA5 →
    exec (.stopRequest b) s = .next { s with sb := { s.sb with
      todo := none
      result := [sbBad] } }) ∧
  (∀ s : State, s.quiet → s.awake → s.rcd.op = .idle → ∃ t, exec .freezeRecorder s = .next t ∧
      t.flag ER_STAT ER_STAT.FROZEN = true ∧ t.sb.result = [sbOk] ∧ State.sameBut [ER_STAT] s t ∧ t.rcd = s.rcd)

/-- PRIVATE_READ, in every state, returns the result in parts no longer than the maximum read length, and BUSY while a command waits for the
fast clock; ADDRESS_MATCH_WAKE changes nothing where the clock runs, restarts a Wellhead in NAP and, armed, one in SLEEP, and
FAST_CLOCK_RESTART_DONE makes the clock run and a waiting command act; what the common commands that read something return to a target with
a dynamic address, in every state; without one they are answered NACK (R41, R43, R44, R315, R318). That no bytes come where no result is
left is the model's choice (log entry 82); NACK without a dynamic address and the two bytes of GETMWL and GETMRL are its reading (log entry
20), as are BUSY and the wake by these two (log entry 23). -/
def Obligations.SidebandReadsBack : Prop :=
  ((∀ s : State, s.quiet → s.sb.todo = none →
    exec .privateRead s = .next { s.wake 2 with sb := { s.sb with
      lastRead := s.sb.result.take s.sb.mrl
      result := s.sb.result.drop s.sb.mrl } }) ∧
  (∀ s : State, s.quiet → s.sb.todo ≠ none →
    exec .privateRead s = .next { s.wake 2 with sb := { s.sb with lastRead := [sbBusy] } }) ∧
  (∀ s : State, s.quiet → s.awake → exec .addressMatchWake s = .next s) ∧
  (∀ s : State, s.quiet → s.clk.fast = .nap → s.clk.sleepReq = false →
    exec .addressMatchWake s = .next { s with clk := { s.clk with fast := .restarting } }) ∧
  (∀ s : State, s.quiet → s.clk.fast = .sleep →
    (s.flag HD_WAKE_EN HD_WAKE_EN.I3C = true → ∃ t, exec .addressMatchWake s = .next t ∧ t.clk.fast = .restarting ∧
      t.rd HD_PWR_STAT HD_PWR_STAT.RESULT = 1 ∧ t.rd HD_PWR_STAT HD_PWR_STAT.LAST_WAKE = 2 ∧ State.sameBut [HD_PWR_STAT] s t) ∧
    (s.flag HD_WAKE_EN HD_WAKE_EN.I3C = false → exec .addressMatchWake s = .next s)) ∧
  (∀ s : State, s.quiet → s.clk.fast = .restarting → s.sb.todo = none →
    exec .fastClockRestartDone s = .next { s with clk := { s.clk with fast := .run } }) ∧
  (∀ (s : State) (x : Word), s.quiet → s.clk.fast = .restarting → s.sb.todo = some (5, x) →
    ∃ t, exec .fastClockRestartDone s = .next t ∧ t.clk.fast = .run ∧ t.sb.todo = none ∧
      t.sb.result = sbOk :: (wordBytes (s.readReg HD_TOPO).2 ++ wordBytes (s.readReg LC_STATE).2))) ∧
  (∀ s : State, s.quiet → s.flag HD_SB_STAT HD_SB_STAT.DA_VALID = true →
    exec .getbcr s = .next (s.ccc [0x06]) ∧ exec .getdcr s = .next (s.ccc [0x00]) ∧
    exec .getpid s = .next (s.ccc (bytesOf 6 s.pid)) ∧
    exec .getmwl s = .next ((s.wake 2).ccc [s.sb.mwl / 256, s.sb.mwl % 256]) ∧
    exec .getmrl s = .next ((s.wake 2).ccc [s.sb.mrl / 256, s.sb.mrl % 256]) ∧
    (∃ t, exec .getstatus s = .next t ∧ t.sb.protErr = false ∧ t.sb.nack = false ∧ State.sameBut [] s t ∧
      t.sb.cccBytes = [0, (if s.sb.ibiPend = 0 then 0 else 1) + (if s.sb.protErr then 32 else 0)]) ∧
    (s.ccc [0x06]).sb.cccBytes = [0x06] ∧ (s.ccc [0x06]).sb.nack = false ∧ State.sameBut [] s (s.ccc [0x06])) ∧
  (∀ (c : Instr) (s : State), s.quiet → s.flag HD_SB_STAT HD_SB_STAT.DA_VALID = false →
    c ∈ [.getbcr, .getdcr, .getpid, .getmwl, .getmrl, .getstatus] → exec c s = .next s.cccNack)

/-- What the common commands that change the target do: the in-band interrupt enable, the dynamic address, the length limits (only 16 to 64
are taken), the reset of the target logic alone; an event byte without the in-band interrupt's bit changes no register, and an address
command to a target that it does not apply to, a reset action of another code and any other common command are answered with NACK (R41,
R42). An address byte with a wrong parity is refused and remembered as a protocol error, as log entry 22 presumes; bit 0 of ENEC and DISEC
is presumed too (log entry 21), and the cases of NACK and a length outside 16 to 64 are the model's reading (log entry 20). -/
def Obligations.CommonCommandsWrite : Prop :=
  (∀ (b : Nat) (s : State), s.quiet → b % 2 = 1 →
    (∃ t, exec (.enec b) s = .next t ∧ t.flag HD_SB_STAT HD_SB_STAT.IBI_EN = true ∧ State.sameBut [HD_SB_STAT] s t) ∧
    (∃ t, exec (.disec b) s = .next t ∧ t.flag HD_SB_STAT HD_SB_STAT.IBI_EN = false ∧ State.sameBut [HD_SB_STAT] s t)) ∧
  (∀ (b : Nat) (s : State), s.quiet → b % 2 = 0 → exec (.enec b) s = .next (s.ccc []) ∧ exec (.disec b) s = .next (s.ccc []) ∧
    State.sameBut [] s (s.ccc [])) ∧
  (∀ (x : Nat) (s : State), s.quiet →
    (s.flag HD_SB_STAT HD_SB_STAT.DA_VALID = true → exec (.entdaa x) s = .next s.cccNack ∧ exec (.setdasa x) s = .next s.cccNack) ∧
    (s.flag HD_SB_STAT HD_SB_STAT.DA_VALID = false → exec (.setnewda x) s = .next s.cccNack) ∧
    (2 < x → exec (.rstact x) s = .next s.cccNack)) ∧
  (∀ s : State, s.quiet → ∃ t, exec .rstdaa s = .next t ∧ t.flag HD_SB_STAT HD_SB_STAT.DA_VALID = false ∧
    t.rd HD_SB_STAT HD_SB_STAT.DYN_ADDR = 0 ∧ State.sameBut [HD_SB_STAT] s t) ∧
  (∀ (c : Instr) (x : Nat) (s : State), s.quiet → x < 128 →
    ((c = .entdaa x ∧ s.flag HD_SB_STAT HD_SB_STAT.DA_VALID = false) ∨ (c = .setdasa x ∧ s.flag HD_SB_STAT HD_SB_STAT.DA_VALID = false) ∨
      (c = .setnewda x ∧ s.flag HD_SB_STAT HD_SB_STAT.DA_VALID = true)) →
    ∃ t, exec c s = .next t ∧ t.flag HD_SB_STAT HD_SB_STAT.DA_VALID = true ∧ t.rd HD_SB_STAT HD_SB_STAT.DYN_ADDR = x ∧
      t.sb.nack = false ∧ State.sameBut [HD_SB_STAT, HD_PWR_STAT] s t) ∧
  (∀ (x : Nat) (s : State), s.quiet → 128 ≤ x → x < 256 → s.flag HD_SB_STAT HD_SB_STAT.DA_VALID = false →
    exec (.entdaa x) s = .next { s.cccNack with sb := { s.cccNack.sb with protErr := true } }) ∧
  (∀ (n : Nat) (s : State), s.quiet → ∃ t, exec (.setmwl n) s = .next t ∧
    t.sb.mwl = (if 16 ≤ n ∧ n ≤ 64 then n else s.sb.mwl) ∧ t.sb.mrl = s.sb.mrl ∧ State.sameBut [] s t) ∧
  (∀ (n : Nat) (s : State), s.quiet → ∃ t, exec (.setmrl n) s = .next t ∧
    t.sb.mrl = (if 16 ≤ n ∧ n ≤ 64 then n else s.sb.mrl) ∧ t.sb.mwl = s.sb.mwl ∧ State.sameBut [] s t) ∧
  (∀ (c : Instr) (b : Nat) (s : State), s.quiet → ((c = .rstact b ∧ b ≤ 2) ∨ c = .targetResetPattern) → ∃ t, exec c s = .next t ∧
    t.flag HD_SB_STAT HD_SB_STAT.DA_VALID = false ∧ t.flag HD_SB_STAT HD_SB_STAT.IBI_EN = false ∧ t.sb.todo = none ∧
    State.sameBut [HD_SB_STAT] s t ∧ t.fault = s.fault ∧ t.tiles = s.tiles ∧ t.rcd = s.rcd) ∧
  (∀ (c : Nat) (s : State), s.quiet → exec (.unsupportedCcc c) s = .next s.cccNack ∧ s.cccNack.sb.nack = true)

/-- IBI_REQUEST: the pending class is reported in IBI_CLASS and no longer pends; one lost in arbitration stays pending; with interrupts
disabled or nothing pending nothing happens (R45). That of several pending classes the lowest goes out is the model's reading (log entry 22). -/
def Obligations.IbiDelivers : Prop :=
  (∀ (lost : Bool) (s : State), s.quiet →
    (s.flag HD_SB_STAT HD_SB_STAT.IBI_EN = false ∨ ∀ j, j < 5 → bit s.sb.ibiPend j = false) → exec (.ibiRequest lost) s = .next s) ∧
  ∀ (i : Nat) (s : State), s.quiet → i < 5 → bit s.sb.ibiPend i = true → (∀ j, j < i → bit s.sb.ibiPend j = false) →
    s.flag HD_SB_STAT HD_SB_STAT.IBI_EN = true →
    (∃ t, exec (.ibiRequest false) s = .next t ∧ t.rd HD_SB_STAT HD_SB_STAT.IBI_CLASS = i + 1 ∧
      (∀ j, bit t.sb.ibiPend j = (bit s.sb.ibiPend j && decide (j ≠ i))) ∧ State.sameBut [HD_SB_STAT] s t) ∧
    exec (.ibiRequest true) s = .next s

/-! ### The debug port -/

/-- The TAP instructions select their registers, and a TAP reset or the session's end closes a diagnostic session; in FIELD DBG_AUTH
opens a session after an accepted DIAG authorisation, and passes key and signature words in and challenge words out (R46, R47). That a TAP
reset selects IDCODE, and that a word of DBG_AUTH comes with its address by DBG_REG's rows, is the model's (log entries 17, 27). -/
def Obligations.TapInstructions : Prop :=
  (∀ s : State, s.quiet → exec .idcode s = .next { s with tap := { s.tap with
    ir := 0x01
    idOut := 0x2 * 2 ^ 28 + 0x5C17 * 2 ^ 12 + s.fuses.jtagMaker % 2 ^ 11 * 2 + 1 } }) ∧
  (∀ s : State, s.quiet → exec .bypass s = .next { s with tap := { s.tap with ir := 0xFF } }) ∧
  (∀ s : State, s.quiet → ∃ t, exec .tapReset s = .next t ∧ t.tap.ir = 0x01 ∧ t.flag LC_STATE LC_STATE.SESSION = false ∧
    State.sameBut [LC_STATE] s t) ∧
  (∀ s : State, s.quiet → ∃ t, exec .dbgSessionExpiry s = .next t ∧ t.flag LC_STATE LC_STATE.SESSION = false ∧
    State.sameBut [LC_STATE] s t ∧ t.tap = s.tap) ∧
  (∀ s : State, s.quiet → s.fuses.lcState = 2 → s.tap.diagOk = true →
    ∃ t, exec .dbgAuth s = .next t ∧ t.flag LC_STATE LC_STATE.SESSION = true ∧ t.tap.diagOk = false ∧ State.sameBut [LC_STATE] s t) ∧
  (∀ s : State, s.quiet → s.fuses.lcState = 2 → s.tap.diagOk = false →
    exec .dbgAuth s = .next { s with tap := { s.tap with ir := 0x11 } }) ∧
  (∀ (a : Nat) (d : Word) (s : State), s.quiet → s.fuses.lcState = 2 → a < 2 ^ 24 →
    (((0x1010 ≤ a ∧ a < 0x101C) ∨ (0x1020 ≤ a ∧ a < 0x102C)) → exec (.dbgRegWrite (2 ^ 24 + a) d) s =
      .next { s.setReg a d with tap := { s.tap with ir := 0x11 } }) ∧
    (0x1008 ≤ a → a < 0x100E → exec (.dbgRegRead (2 ^ 24 + a)) s = .next { s with tap := { s.tap with
      ir := 0x11
      capResp := rOkay
      capData := (s.readReg a).2 } }) ∧
    (¬(0x1008 ≤ a ∧ a < 0x102C) → exec (.dbgRegWrite (2 ^ 24 + a) d) s = .next { s with tap := { s.tap with ir := 0x11 } })) ∧
  (∀ (a : Nat) (d : Word) (s : State), s.quiet → s.fuses.lcState ≠ 2 → s.rd LC_STATE LC_STATE.DENIED_TAP + 1 < 0xFFFFFFFF → a < 2 ^ 24 →
    exec (.dbgRegRead (2 ^ 24 + a)) s = .next s.tapShut ∧ exec (.dbgRegWrite (2 ^ 24 + a) d) s = .next s.tapShut)

/-- DBG_REG: outside FIELD a read captures what the host would read, and a write acts as the host's; in a diagnostic session a read captures
what the sideband may read and a write is DENIED without effect; a tile that does not answer gives TIMEOUT (R37, R47). What a session reads
is the model's reading (log entry 27), and so is that a write to a tile that does not answer has no effect (log entry 9). -/
def Obligations.DebugAccess : Prop :=
  (∀ (a : Nat) (s : State), s.quiet → a < 2 ^ 24 → s.fuses.lcState ≠ 2 → sideRead a = false →
    exec (.dbgRegRead a) s = .next (s.tapAnswer (s.readReg a).1 (s.readReg a).2)) ∧
  (∀ (a : Nat) (s : State), s.quiet → a < 2 ^ 24 → s.fuses.lcState = 2 → s.flag LC_STATE LC_STATE.SESSION = true →
    exec (.dbgRegRead a) s = .next (s.tapAnswer (s.sbRead a).1 (s.sbRead a).2)) ∧
  (∀ (a : Nat) (d : Word) (s : State) (r : RegRow), s.quiet → a < 2 ^ 24 → s.fuses.lcState ≠ 2 → s.takes a d → ownRow a = false →
    s.rowOf a = some r → exec (.dbgRegWrite a d) s = .next ((s.setReg a (plainWord r a d (s.reg a))).tapAnswer rOkay 0)) ∧
  (∀ (a : Nat) (d : Word) (s : State), s.quiet → a < 2 ^ 24 → s.fuses.lcState = 2 → s.flag LC_STATE LC_STATE.SESSION = true →
    exec (.dbgRegWrite a d) s = .next (s.tapAnswer rDenied 0)) ∧
  (∀ (a : Nat) (d : Word) (s : State), s.quiet → a < 2 ^ 24 → s.fuses.lcState ≠ 2 → s.reservedWrite a d = false → s.unreached a = true →
    exec (.dbgRegWrite a d) s = .next (s.tapAnswer rTimeout 0) ∧ exec (.dbgRegRead a) s = .next (s.tapAnswer rTimeout 0)) ∧
  (∀ (s : State) (x : Word), (s.tapAnswer rOkay x).tap.capData = x ∧ (s.tapAnswer rDenied x).tap.capData = 0 ∧
    State.sameBut [] s (s.tapAnswer rOkay x))

/-- DBG_SCAN in BLANK and RETURNED, where it is permitted, completes: the instruction is in force, what the scan shifts out is a free value,
and nothing else of the chip changes, as log entry 4 chooses, since the spec does not say what the maker's scan does. An instruction that
the life-cycle state does not permit selects bypass and counts in DENIED_TAP, and does nothing else (R46): DBG_SCAN outside BLANK and
RETURNED, DBG_AUTH outside FIELD (log entry 27), DBG_REG in FIELD without a session. -/
def Obligations.DebugScanRuns : Prop :=
  (∀ s : State, s.quiet → s.fuses.lcState = 0 ∨ s.fuses.lcState = 3 → exec .dbgScan s = .next { s with
    freeCtr := s.freeCtr + 1
    tap := { s.tap with
      ir := 0x20
      capData := (Config.freeBits s.freeCtr).setWidth 64 } }) ∧
  (∀ s : State, s.quiet → s.rd LC_STATE LC_STATE.DENIED_TAP + 1 < 0xFFFFFFFF →
    (s.fuses.lcState ≠ 0 → s.fuses.lcState ≠ 3 → exec .dbgScan s = .next s.tapShut) ∧
    (s.fuses.lcState ≠ 2 → exec .dbgAuth s = .next s.tapShut) ∧
    (s.fuses.lcState = 2 → s.flag LC_STATE LC_STATE.SESSION = false → ∀ (a : Nat) (d : Word), a < 2 ^ 24 →
      exec (.dbgRegRead a) s = .next s.tapShut ∧ exec (.dbgRegWrite a d) s = .next s.tapShut))

/-! ### Life cycle and authorisation -/

/-- CHALLENGE: a fresh nonce (a free value) waits with RESULT CHAL_READY and the given purpose, once the recorder is READY; before that the
challenge waits; after eight rejections it is answered REFUSED_LOCKOUT; a challenge during a verification ends that one as expired, and counts (R51,
R53, R353; that a superseded submission counts is the model's reading, log entry 80). -/
def Obligations.ChallengeAnswers : Prop :=
  (∀ (p : Nat) (s : State), p < 256 → s.lc.fuseOp = .none → s.lc.verifying = true → s.takes LC_CMD (BitVec.ofNat 64 (p * 256 + 1)) →
    s.rd LC_STATE LC_STATE.FAILS < 7 → s.flag ER_STAT ER_STAT.READY = true → s.flag ER_STAT ER_STAT.NOFLASH = false → s.rcd.queue = [] →
    s.yieldsAnswered (.challenge (BitVec.ofNat 64 (p * 256 + 1))) LC_CMD (fun u => u.rd LC_AUTH_STAT LC_AUTH_STAT.RESULT = 1 ∧
      u.rd LC_AUTH_STAT LC_AUTH_STAT.PURPOSE = p ∧ u.lc.nonce.isSome = true ∧ u.lc.verifying = false ∧
      u.rd LC_STATE LC_STATE.FAILS = s.rd LC_STATE LC_STATE.FAILS + 1 ∧ { src := 2, sub := s.lcPurpose } ∈ u.fault.now)) ∧
  ∀ (p : Nat) (s : State), s.quiet → s.alone → p < 256 → s.lc.fuseOp = .none → s.lc.verifying = false → s.takes LC_CMD (BitVec.ofNat 64 (p * 256 + 1)) →
    (s.rd LC_STATE LC_STATE.FAILS < 8 → s.flag ER_STAT ER_STAT.READY = true →
      ∃ t, exec (.challenge (BitVec.ofNat 64 (p * 256 + 1))) s = .next t ∧ t.rd LC_AUTH_STAT LC_AUTH_STAT.RESULT = 1 ∧
        t.rd LC_AUTH_STAT LC_AUTH_STAT.PURPOSE = p ∧ t.lc.nonce = some (Config.freeBits s.freeCtr) ∧ t.freeCtr = s.freeCtr + 1 ∧
        State.sameBut [LC_AUTH_STAT] s t ∧ t.fuses = s.fuses ∧ t.pending = s.pending) ∧
    (s.rd LC_STATE LC_STATE.FAILS < 8 → s.flag ER_STAT ER_STAT.READY = false →
      ∃ t, exec (.challenge (BitVec.ofNat 64 (p * 256 + 1))) s = .next t ∧ t.rd LC_AUTH_STAT LC_AUTH_STAT.RESULT = 0 ∧
        t.lc.nonce = none ∧ t.lc.waiting = true ∧ State.sameBut [LC_AUTH_STAT] s t) ∧
    (8 ≤ s.rd LC_STATE LC_STATE.FAILS →
      ∃ t, exec (.challenge (BitVec.ofNat 64 (p * 256 + 1))) s = .next t ∧ t.rd LC_AUTH_STAT LC_AUTH_STAT.RESULT = 5 ∧
        t.lc = s.lc ∧ State.sameBut [LC_AUTH_STAT] s t)

/-- SUBMIT starts a verification against the pending nonce; CANCEL voids a nonce, and 60 s after it was made a nonce that is not being
verified is void; CANCEL in the cycle of an ACCEPTED result is LATE, one that began the RETURN's fuse programming too (R10, R51, R53). That
CANCEL acts during a verification, and that RESULT reads 0 after CANCEL and after the expiry, are the model's readings (log entry 24). -/
def Obligations.NonceServesOnce : Prop :=
  (∀ s : State, s.quiet → s.alone → s.lc.fuseOp = .none → s.flag LC_AUTH_STAT LC_AUTH_STAT.BUSY = false → s.takes LC_CMD 0x02 →
    s.lc.nonce.isSome = true → ∃ t, exec .submit s = .next t ∧ t.flag LC_AUTH_STAT LC_AUTH_STAT.BUSY = true ∧ t.lc.verifying = true ∧
      t.lc.nonce = s.lc.nonce ∧ State.sameBut [LC_AUTH_STAT] s t) ∧
  (∀ s : State, s.quiet → s.alone → s.lc.fuseOp = .none → s.takes LC_CMD 0x03 → s.lc.nonce.isSome = true →
    ∃ t, exec (.cancel false) s = .next t ∧ t.lc.nonce = none ∧ t.lc.verifying = false ∧ t.rd LC_AUTH_STAT LC_AUTH_STAT.ABORT = 1 ∧
      t.rd LC_AUTH_STAT LC_AUTH_STAT.RESULT = 0 ∧ State.sameBut [LC_AUTH_STAT] s t) ∧
  (∀ s : State, s.quiet → s.alone → s.takes LC_CMD 0x03 → s.lc.nonce = none → s.lc.waiting = false →
    s.rd LC_AUTH_STAT LC_AUTH_STAT.RESULT = 2 → ∃ t, exec (.cancel true) s = .next t ∧ t.rd LC_AUTH_STAT LC_AUTH_STAT.RESULT = 2 ∧
      t.rd LC_AUTH_STAT LC_AUTH_STAT.ABORT = 2 ∧ t.lc = s.lc ∧ State.sameBut [LC_AUTH_STAT] s t) ∧
  (∀ s : State, s.quiet → s.lc.nonce.isSome = true → s.lc.verifying = false →
    ∃ t, exec .nonceExpiry s = .next t ∧ t.lc.nonce = none ∧ t.rd LC_AUTH_STAT LC_AUTH_STAT.RESULT = 0 ∧
      State.sameBut [LC_AUTH_STAT] s t) ∧
  (∀ s : State, s.quiet → s.lc.verifying = true → exec .nonceExpiry s = .next s)

/-- SUBMIT_VERIFIED: the submission ends with ACCEPTED where purpose and signature are right, and brings what its purpose says (a RETURN begins to
wipe the slot, a re-entry opens LC_STAGE, a recorder clear is armed, a diagnostic session may open), else with a rejection that FAILS counts (the
eighth raises the lockout); either way the nonce is used, and LC_EVENT goes to the collector (R51, R52, R53). -/
def Obligations.SubmissionEnds : Prop :=
  ∀ s : State, s.lc.verifying = true → s.flag ER_STAT ER_STAT.NOFLASH = false → s.rcd.queue = [] → s.rd LC_STATE LC_STATE.FAILS < 255 →
    ∃ u : State, exec .submitVerified s = .next u.settle ∧ u.lc.nonce = none ∧ u.lc.verifying = false ∧
      { src := 2, sub := s.lcPurpose } ∈ u.fault.now ∧ u.fuses = s.fuses ∧
      (s.purposeOk s.lcPurpose = true → s.signatureOk s.lcPurpose = true → u.rd LC_AUTH_STAT LC_AUTH_STAT.RESULT = 2 ∧
        u.rd LC_STATE LC_STATE.FAILS = s.rd LC_STATE LC_STATE.FAILS ∧
        (s.lcPurpose = 1 → u.lc.fuseOp = .returnWipe ∧ u.flag LC_AUTH_STAT LC_AUTH_STAT.BUSY = true) ∧ (s.lcPurpose = 2 → u.lc.reentry = true) ∧
        (s.lcPurpose = 3 → u.flag ER_STAT ER_STAT.CLEAR_ARMED = true) ∧ (s.lcPurpose = 4 → u.tap.diagOk = true)) ∧
      (s.purposeOk s.lcPurpose = false ∨ s.signatureOk s.lcPurpose = false →
        u.rd LC_AUTH_STAT LC_AUTH_STAT.RESULT = (if s.purposeOk s.lcPurpose then 3 else 6) ∧
        u.rd LC_STATE LC_STATE.FAILS = s.rd LC_STATE LC_STATE.FAILS + 1 ∧ (s.rd LC_STATE LC_STATE.FAILS = 7 → { src := 3 } ∈ u.fault.now))

/-- PROVISION_COMMIT with all 22 words staged in BLANK, and ENTER_FIELD in PROVISIONED, start fuse programming; elsewhere they are answered
REJECTED_STATE with PURPOSE 0, which FAILS does not count; LC_STAGE takes words where it is open (R50). -/
def Obligations.ProvisioningSteps : Prop :=
  (∀ s : State, s.quiet → s.alone → s.lc.fuseOp = .none → s.flag LC_AUTH_STAT LC_AUTH_STAT.BUSY = false → s.takes LC_CMD 0x10 →
    (s.fuses.lcState = 0 → s.lc.staged % 2 ^ 22 = 2 ^ 22 - 1 → ∃ t, exec .provisionCommit s = .next t ∧ t.lc.fuseOp = .provision ∧
      t.flag LC_AUTH_STAT LC_AUTH_STAT.BUSY = true ∧ State.sameBut [LC_AUTH_STAT] s t) ∧
    (s.fuses.lcState ≠ 0 ∨ s.lc.staged % 2 ^ 22 ≠ 2 ^ 22 - 1 → ∃ t, exec .provisionCommit s = .next t ∧ t.lc = s.lc ∧
      t.rd LC_AUTH_STAT LC_AUTH_STAT.RESULT = 6 ∧ t.rd LC_AUTH_STAT LC_AUTH_STAT.PURPOSE = 0 ∧
      t.rd LC_STATE LC_STATE.FAILS = s.rd LC_STATE LC_STATE.FAILS ∧ State.sameBut [LC_AUTH_STAT] s t)) ∧
  (∀ s : State, s.quiet → s.alone → s.lc.fuseOp = .none → s.flag LC_AUTH_STAT LC_AUTH_STAT.BUSY = false → s.takes LC_CMD 0x11 →
    (s.fuses.lcState = 1 → ∃ t, exec .enterField s = .next t ∧ t.lc.fuseOp = .field ∧
      t.flag LC_AUTH_STAT LC_AUTH_STAT.BUSY = true ∧ State.sameBut [LC_AUTH_STAT] s t) ∧
    (s.fuses.lcState = 3 → s.lc.reentry = true → s.newSecret = true → ∃ t, exec .enterField s = .next t ∧ t.lc.fuseOp = .reentryField ∧
      t.flag LC_AUTH_STAT LC_AUTH_STAT.BUSY = true ∧ State.sameBut [LC_AUTH_STAT] s t) ∧
    (s.fuses.lcState = 0 ∨ s.fuses.lcState = 2 → ∃ t, exec .enterField s = .next t ∧ t.lc = s.lc ∧
      t.rd LC_AUTH_STAT LC_AUTH_STAT.RESULT = 6 ∧ State.sameBut [LC_AUTH_STAT] s t)) ∧
  (∀ (n : Nat) (d : Word) (s : State), s.quiet → s.alone → n < 22 → s.takes (LC_STAGE n) d →
    (s.fuses.lcState = 0 ∨ (s.fuses.lcState = 3 ∧ s.lc.reentry = true) → ∃ t, exec (.lcStageWrite n d) s = .next t ∧
      t.reg (LC_STAGE n) = d ∧ t.lc.staged.testBit n = true ∧ State.sameBut [LC_STAGE n] s t) ∧
    (s.fuses.lcState = 1 ∨ s.fuses.lcState = 2 → exec (.lcStageWrite n d) s = .next (s.answered rOkay 0)))

/-- FUSE_PROGRAM_DONE: the life-cycle state moves as the command said, BLANK to PROVISIONED with the public hashes and secret slot 0
programmed from LC_STAGE, PROVISIONED to FIELD, FIELD to RETURNED with the slot wiped, RETURNED to FIELD with the staged secret in the next
slot, the public hashes and the other slots standing; whichever it is, BUSY clears, RESULT reads ACCEPTED, LC_EVENT is raised and the move
is recorded (R48–R50). -/
def Obligations.FusesBlow : Prop :=
  ∀ s : State, s.rcd.queue = [] → s.flag ER_STAT ER_STAT.NOFLASH = false →
    (s.lc.fuseOp ≠ .none → ∃ u : State, exec .fuseProgramDone s = .next u.settle ∧ u.flag LC_AUTH_STAT LC_AUTH_STAT.BUSY = false ∧
      u.rd LC_AUTH_STAT LC_AUTH_STAT.RESULT = 2 ∧ u.lc.fuseOp = .none ∧ u.rcd.queue.map (·.type) = [3]) ∧
    (s.lc.fuseOp = .provision → ∃ u : State, exec .fuseProgramDone s = .next u.settle ∧ u.fuses.lcState = 1 ∧ u.fuses.slot = 0 ∧
      u.fuses.secret0 = s.stagedSecret ∧ u.fuses.licImgHash = s.joined 384 6 (LC_STAGE 0) ∧
      u.fuses.licAuthHash = s.joined 384 6 (LC_STAGE 6) ∧ { src := 2 } ∈ u.fault.now) ∧
    (s.lc.fuseOp = .field → ∃ u : State, exec .fuseProgramDone s = .next u.settle ∧ u.fuses = { s.fuses with lcState := 2 } ∧
      { src := 2 } ∈ u.fault.now) ∧
    (s.lc.fuseOp = .returnWipe → ∃ u : State, exec .fuseProgramDone s = .next u.settle ∧
      u.fuses = { s.fuses.setSecret s.fuses.slot wiped with lcState := 3 } ∧ { src := 2, sub := 1 } ∈ u.fault.now) ∧
    (s.lc.fuseOp = .reentryField → ∃ u : State, exec .fuseProgramDone s = .next u.settle ∧ u.fuses.lcState = 2 ∧
      u.fuses.slot = s.fuses.slot + 1 ∧ u.fuses.licImgHash = s.fuses.licImgHash ∧ u.fuses.licAuthHash = s.fuses.licAuthHash ∧
      (s.fuses.slot < 3 → ∀ k, k < 4 → u.fuses.secretAt k = if k = s.fuses.slot + 1 then s.stagedSecret else s.fuses.secretAt k) ∧
      u.lc.reentry = false ∧ { src := 2 } ∈ u.fault.now)

/-! ### The image loader and safe priming -/

/-- Loading: START with every well DRY empties the slot and enters LOADING with the LENGTH written; with a well wet outside safe priming
it is REFUSED; each word is stored, the last one starts the checks; a word outside LOADING is DENIED; ABORT and a stall end the load in VOID with
their codes (R67, R69, R71, R73). -/
def Obligations.ImageLoads : Prop :=
  (∀ (d : Word) (s : State), s.takes HD_IMG_CTRL d → HD_IMG_CTRL.START.get d = 1 → HD_IMG_CTRL.ABORT.get d = 0 →
    HD_IMG_CTRL.SAFE_NOW.get d = 0 → HD_IMG_CTRL.SAFE_STOP.get d = 0 → (s.imgState = 0 ∨ s.imgState = 4 ∨ s.imgState = 5) →
    (s.wellsDry = true → s.rd CL_PULL_STAT CL_PULL_STAT.STATE = 0 → s.yieldsAnswered (.imgStart d) HD_IMG_CTRL (fun u =>
      u.imgState = 1 ∧ u.load.slot = [] ∧ u.load.len = HD_IMG_CTRL.LENGTH.get d ∧ u.rd HD_IMG_STAT HD_IMG_STAT.WORDS = 0 ∧
      u.reg HD_IMG_ID = 0 ∧ u.reg HD_IMG_ERR = 0)) ∧
    (s.wellsDry = false → s.safeOn = false → s.yieldsAnswered (.imgStart d) HD_IMG_CTRL (fun u =>
      u.flag HD_IMG_STAT HD_IMG_STAT.REFUSED = true ∧ u.imgState = s.imgState ∧ u.load = s.load ∧
      State.sameBut [HD_IMG_CTRL, HD_IMG_STAT] s u))) ∧
  (∀ (d : Word) (s : State), s.quiet → s.alone → s.imgState = 1 → s.load.link = false → s.load.slot.length < 524288 →
    s.rd HD_IMG_STAT HD_IMG_STAT.WORDS + 1 < 2 ^ 32 →
    ∃ t, exec (.hdImgDataWrite d) s = .next t ∧ t.load.slot = s.load.slot ++ [d] ∧
      t.rd HD_IMG_STAT HD_IMG_STAT.WORDS = s.rd HD_IMG_STAT HD_IMG_STAT.WORDS + 1 ∧
      t.imgState = (if s.rd HD_IMG_STAT HD_IMG_STAT.WORDS + 1 = s.load.len then 2 else 1) ∧ State.sameBut [HD_IMG_STAT] s t ∧
      t.port = (s.answered rOkay 0).port) ∧
  (∀ (d : Word) (s : State), s.imgState ≠ 1 → ∃ t, exec (.hdImgDataWrite d) s = .next t ∧
    t = (s.answer HD_IMG_DATA rDenied 0).settle) ∧
  (∀ (d : Word) (s : State), s.takes HD_IMG_CTRL d → HD_IMG_CTRL.START.get d = 0 → HD_IMG_CTRL.ABORT.get d = 1 →
    HD_IMG_CTRL.SAFE_NOW.get d = 0 → HD_IMG_CTRL.SAFE_STOP.get d = 0 → (s.imgState = 1 ∨ s.imgState = 2) →
    s.yieldsAnswered (.imgAbort d false) HD_IMG_CTRL (fun u => u.imgState = 5 ∧ u.rd HD_IMG_ERR HD_IMG_ERR.CODE = 0xF ∧
      u.rd HD_IMG_STAT HD_IMG_STAT.ABORT = 1 ∧ u.load.slot = [] ∧ { src := 1 } ∈ u.fault.now)) ∧
  (∀ s : State, s.imgState = 1 → s.yields .imageStall (fun u => u.imgState = 5 ∧ u.rd HD_IMG_ERR HD_IMG_ERR.CODE = 5 ∧
    u.flag HD_IMG_STAT HD_IMG_STAT.REJECTED = true ∧ u.load.slot = [] ∧ { src := 1 } ∈ u.fault.now))

/-- Checking and applying: the first failing check rejects the image with its code and place, the section and the word of it; a sound image
goes on to APPLYING once safe priming has ended; a Pumphouse that does not take its configuration, or that stopped for its temperature
meanwhile, rejects it with APPLY_FAIL; acceptance makes it ACTIVE with its digest in HD_IMG_ID: HD_TOPO, the build number, each tile's
period and each well's V_CMD take the image's values, each RETIRED pump is OFF, the map's well entries and the host's limits stand, and the
program of AUTO_PRIME starts on sequencer 0 (R67, R72, R73, R76, R272). -/
def Obligations.ImageApplies : Prop :=
  (∀ s : State, s.imgState = 2 → s.load.passed = false → s.safeOn = false → s.yields .imageChecksDone (fun u =>
    (s.imageFail = none → u.imgState = 3 ∧ u.load.passed = true ∧ u.load.slot = s.load.slot ∧ u.fault = s.fault ∧
      State.sameBut [HD_IMG_STAT] s u) ∧
    (∀ e, s.imageFail = some e → u.imgState = 5 ∧ u.rd HD_IMG_ERR HD_IMG_ERR.CODE = e.code % 256 ∧
      u.rd HD_IMG_ERR HD_IMG_ERR.SECTION = e.sect % 256 ∧ u.rd HD_IMG_ERR HD_IMG_ERR.WORD = e.word % 2 ^ 24 ∧
      u.flag HD_IMG_STAT HD_IMG_STAT.REJECTED = true ∧ u.load.slot = [] ∧ { src := 1 } ∈ u.fault.now))) ∧
  (∀ s : State, s.quiet → s.imgState = 2 → s.load.passed = true → s.wellsDry = true →
    ∃ t, exec .applyStart s = .next t ∧ t.imgState = 3 ∧ t.safeOn = false ∧ State.sameBut [HD_IMG_STAT] s t) ∧
  (∀ (u : Nat) (s : State), s.imgState = 3 → u < s.tileCount → s.load.abort = false → s.yields (.applyFail u) (fun v =>
    v.imgState = 5 ∧ v.rd HD_IMG_ERR HD_IMG_ERR.CODE = 0xE ∧ v.rd HD_IMG_ERR HD_IMG_ERR.SECTION = 0xFF ∧ v.rd HD_IMG_ERR HD_IMG_ERR.WORD = 0 ∧
    v.load.slot = [] ∧ { src := 1 } ∈ v.fault.now)) ∧
  (∀ (s : State) (m : Img), s.imgState = 3 → s.load.abort = false → s.load.stopped = false → (∀ u, u < s.tileCount → s.silent u = false) →
    m = imgOf s.load.slot → s.yields .imageAccept (fun u =>
    u.imgState = 4 ∧ u.flag HD_IMG_STAT HD_IMG_STAT.ACCEPTED = true ∧ u.reg HD_IMG_ID = (imgDigest m.words).extractLsb' 320 64 ∧
    u.load.passed = false ∧ u.rd HD_TOPO HD_TOPO.TILES = imgTiles m.words ∧ u.rd HD_TOPO HD_TOPO.ROWS = imgRows m.words ∧
    u.rd HD_TOPO HD_TOPO.COLS = imgCols m.words ∧ u.rd HD_TOPO HD_TOPO.INSTANCE = idInstance.get m.ident ∧
    u.rd HD_IMG_BUILD HD_IMG_BUILD.BUILD = imgBuild m.words ∧
    (∀ t w p, t < imgTiles m.words → t < 96 → w < 14 → u.rd (PH_PWM t) PH_PWM.FREQ_KHZ = TopoTile.KHZ.get (m.val 1 t 1 0 0) ∧
      u.rd (WL_SETPT t w) WL_SETPT.V_CMD = WL_MOTION0.V_BOOT.get (m.val 6 t 2 w 3) ∧
      (p < 4 → p ∈ u.pumpsOf t w → s.service t w p = 3 → u.service t w p = 0) ∧ u.reg (WL_LIMIT t w) = s.reg (WL_LIMIT t w)) ∧
    (∀ g, g < 1536 → u.reg (PL_WELL g) = s.reg (PL_WELL g)) ∧
    (imgAutoPrime m.words ≠ 0 → u.sqState 0 = 1 ∧ u.rd (SQ_STAT 0) SQ_STAT.SRC = 1 ∧
      u.rd (SQ_STAT 0) SQ_STAT.PROG = imgAutoPrime m.words % 256))) ∧
  (∀ s : State, s.imgState = 3 → s.load.abort = false → (s.load.stopped = true ∨ ∃ u, u < s.tileCount ∧ s.silent u = true) →
    s.yields .imageAccept (fun u => u.imgState = 5 ∧ u.rd HD_IMG_ERR HD_IMG_ERR.CODE = 0xE ∧ u.load.slot = [] ∧ { src := 1 } ∈ u.fault.now))

/-- Safe priming: SAFE_NOW and the end of a load in VOID start it with the fused topology; SAFE_STOP parks a tile whose steps have not begun
and so ends it; each step follows once every well of the one before is inside its band and no load is under way; 5 ms after parking began
PEN falls on the wells that are still wet (R68, R74–R76). -/
def Obligations.SafePrimingRuns : Prop :=
  (∀ (d : Word) (s : State), s.takes HD_IMG_CTRL d → HD_IMG_CTRL.START.get d = 0 → HD_IMG_CTRL.ABORT.get d = 0 →
    HD_IMG_CTRL.SAFE_NOW.get d = 1 → HD_IMG_CTRL.SAFE_STOP.get d = 0 → (s.imgState = 0 ∨ s.imgState = 5) → s.safeOn = false →
    s.yieldsAnswered (.safeNow d) HD_IMG_CTRL (fun u => u.safeOn = true ∧ u.img.topo = [] ∧ u.img.trip = 2560 ∧ u.imgState = s.imgState)) ∧
  (∀ s : State, s.load.safeDue = true → s.imgState = 5 → s.safeOn = false → s.yields .safePrimingStart (fun u =>
    u.safeOn = true ∧ u.img.topo = [] ∧ u.load.safeDue = false ∧ u.imgState = 5)) ∧
  (∀ (d : Word) (s : State), s.takes HD_IMG_CTRL d → HD_IMG_CTRL.START.get d = 0 → HD_IMG_CTRL.ABORT.get d = 0 →
    HD_IMG_CTRL.SAFE_NOW.get d = 0 → HD_IMG_CTRL.SAFE_STOP.get d = 1 → (s.imgState = 0 ∨ s.imgState = 5) → s.safeOn = true →
    s.load.parking = false → s.load.passed = false → (∀ u, u < s.tileCount → (s.tile u).safe.step = 0) →
    s.yieldsAnswered (.safeStop d) HD_IMG_CTRL (fun u => u.safeOn = false ∧ u.load.parking = false)) ∧
  (∀ (u : Nat) (s : State), s.safeOn = true → s.loaderBusy = false → u < s.tileCount → (s.tile u).safe.parkAt = none → 1 ≤ (s.tile u).safe.step →
    (s.tile u).safe.step < 5 → (∀ w, w ∈ safeWells (s.tile u).safe.step → s.safeInBand u w = true) →
    s.yields (.safePrimeStep u) (fun v => (v.tile u).safe.step = (s.tile u).safe.step + 1)) ∧
  (∀ (u w p : Nat) (s : State), u < s.tileCount → u < 96 → (s.tile u).safe.parkAt.isSome = true → w < 14 → p < 4 → s.pumpOk u w p = true →
    s.stage u w = stPark → (s.mo u w).dropPend = false → s.yields (.safeParkTimeout u) (fun v =>
      v.flag (PM_LINK u w p) PM_LINK.PEN = false ∧ (v.mo u w).dropPend = true))

/-- The keeper: once the bus is above UV_LIM its CAL stage starts with every pump measured; it is handed to voltage mode where an image is
ACTIVE and its engine has passed the self-test (R78, R148). -/
def Obligations.KeeperStarts : Prop :=
  (∀ (u : Nat) (s : State), s.quiet → s.wellOk u 14 = true → s.stage u 14 = stDry → (s.tile u).busBad = none →
    s.usablePumps u 14 ≠ [] → u < 96 → ∃ t, exec (.keeperEnable u) s = .next t ∧ t.stage u 14 = stCal ∧
      t.flag (AD_WIN u 14) AD_WIN.RUN = true ∧ (∀ p, p < s.installed u 14 → p < 4 → (t.pump u 14 p).measuring = true) ∧
      State.sameBut [WL_SETPT u 14, AD_WIN u 14] s t ∧ t.fault = s.fault) ∧
  (∀ (u : Nat) (s : State), s.active = true → s.rd (PH_PWR u) PH_PWR.STATE = 0 → (s.en u).startTest = false → (s.en u).wakeTest = false →
    s.engineOk u 14 = true → s.wellOk u 14 = true → s.wet u 14 = true →
    s.stage u 14 = stHyst → s.fallback u = false → (s.mo u 14).hystReq = false →
    s.flag (WL_PROF_STAT u 14) WL_PROF_STAT.SETTLED = true → (s.lp u 14).bandOk = true →
    s.yields (.keeperHandover u) (fun v => v.stage u 14 = stVolt))

/-! ### Pump links and the clock -/

/-- Offsets and temperatures: CAL measures a pump whose PEN is low; the measurement stores its edges per outer period, unless PEN rose;
a complete period gives T = 200 d - 50, a lost one a broken reading (R87, R89). -/
def Obligations.PumpSenses : Prop :=
  (∀ (u w p : Nat) (d : Word) (s : State), s.quiet → s.alone → u < 96 → w < 15 → p < 4 → s.takes (PM_LINK u w p) d → PM_LINK.CAL.get d = 1 →
    s.flag (PM_LINK u w p) PM_LINK.PEN = false → ∃ t, exec (.cal u w p d) s = .next t ∧ (t.pump u w p).measuring = true ∧
      State.sameBut [PM_LINK u w p] s t ∧ t.wells = s.wells) ∧
  (∀ (u w p edges : Nat) (x : Int) (s : State), s.quiet → s.pumpOk u w p = true → (s.pump u w p).measuring = true →
    s.flag (PM_LINK u w p) PM_LINK.PEN = false → (s.te u w).kind = 0 → s.stage u w ≠ stCal →
    ∃ t, exec (.offsetMeasureDone u w p edges x) s = .next t ∧ (t.pump u w p).measuring = false ∧
      t.rd (PM_ISNS u w p) PM_ISNS.OFFSET = min 0xFFFF (roundDiv ((edges * 32000 : Nat) : Int) (s.khz u)).toNat ∧
      State.sameBut [PM_ISNS u w p] s t) ∧
  (∀ (u w p edges : Nat) (x : Int) (s : State), s.quiet → s.pumpOk u w p = true → (s.pump u w p).measuring = true →
    s.flag (PM_LINK u w p) PM_LINK.PEN = true → ∃ t, exec (.offsetMeasureDone u w p edges x) s = .next t ∧
      (t.pump u w p).measuring = false ∧ State.sameBut [] s t) ∧
  (∀ (u w p high period : Nat) (s : State), s.quiet → s.pumpOk u w p = true → 0 < period → period ≤ 50 * high → 50 * high ≤ 49 * period →
    ∃ t, exec (.tsnsPeriod u w p high period) s = .next t ∧ (t.pump u w p).tempBroken = false ∧
      (t.pump u w p).temp = roundDiv ((1600 * high : Nat) - (400 * period : Nat) : Int) period ∧ State.sameBut [] s t) ∧
  (∀ (u w p : Nat) (s : State), s.quiet → s.pumpOk u w p = true → ∃ t, exec (.tsnsTimeout u w p) s = .next t ∧
    (t.pump u w p).tempBroken = true ∧ (t.pump u w p).temp = (s.pump u w p).temp ∧ State.sameBut [] s t)

/-- The fault wire: it falls, the pump is latched and held low; 400 ns later the tag is classed and recorded, TRIPS counts a SHORT; the
fault of a pump whose PEN was low has no other effect. Of an enabled pump the first fault asks for a re-arm, the pump keeping its service
state; a second one within 1 ms is lasting, and the pump is to be retired with the reason of its class at the next boundary; OVERTEMP
retires it at once. A re-arm is a PEN pulse, and a wire still low afterwards is the second fault; the wire rises, the latch clears (R90,
R92). That PUMP_TRIP is raised when the fault is classed is the model's reading (log entry 34). -/
def Obligations.PumpFaultsAct : Prop :=
  (∀ (u w p : Nat) (f : Bool) (s : State), s.quiet → s.pumpOk u w p = true → s.flag (PM_STAT u w p) PM_STAT.LATCHED = false →
    ∃ t, exec (.pumpFaultWireFall u w p f) s = .next t ∧ t.flag (PM_STAT u w p) PM_STAT.LATCHED = true ∧
      (t.pump u w p).classify = true ∧ (t.pump u w p).counts = (s.flag (PM_LINK u w p) PM_LINK.PEN || f) ∧
      (s.flag (PM_LINK u w p) PM_LINK.PEN = true → (t.pump u w p).pwmHeld = true) ∧ State.sameBut [PM_STAT u w p] s t) ∧
  (∀ (u w p edges : Nat) (s : State), s.quiet → s.pumpOk u w p = true → (s.pump u w p).classify = true → (s.pump u w p).counts = false →
    1 ≤ edges → edges ≤ 3 → s.rd (PM_STAT u w p) ctrCount + 1 < 0xFFFFFFFF →
    ∃ t, exec (.faultClassify u w p edges) s = .next t ∧ t.rd (PM_STAT u w p) PM_STAT.LAST_FAULT = 1 ∧
      t.rd (PM_STAT u w p) ctrCount = s.rd (PM_STAT u w p) ctrCount + 1 ∧
      t.fault.inflight = s.fault.inflight ++ [{ src := 9, tile := u, well := w, sub := p }] ∧ State.sameBut [PM_STAT u w p] s t) ∧
  (∀ (u w p edges e : Nat) (s : State), s.quiet → s.pumpOk u w p = true → (s.pump u w p).classify = true → (s.pump u w p).counts = true →
    s.service u w p ≠ 3 → (s.flag HD_IMG_STAT HD_IMG_STAT.SAFE = false ∨ w = 14) → e = (s.pump u w p).lowAt.getD s.clk.ns → edges < 90 →
    s.rd (PM_STAT u w p) ctrCount + 1 < 0xFFFFFFFF → ∃ t, exec (.faultClassify u w p edges) s = .next t ∧
      t.rd (PM_STAT u w p) PM_STAT.LAST_FAULT = (if edges = 0 then 3 else if edges ≤ 3 then 1 else 4) ∧
      t.rd (PM_STAT u w p) ctrCount = s.rd (PM_STAT u w p) ctrCount + (if 1 ≤ edges ∧ edges ≤ 3 then 1 else 0) ∧
      t.fault.inflight = s.fault.inflight ++ [{ src := 9, tile := u, well := w, sub := p }] ∧
      t.service u w p = s.service u w p ∧ State.sameBut [PM_STAT u w p] s t ∧
      ((s.pump u w p).lasting = false → (∀ a, (s.pump u w p).faultAt = some a → a + 1000000 < e) → (t.pump u w p).faultAt = some e ∧
        (t.pump u w p).retire = (s.pump u w p).retire ∧
        (s.flag (PM_LINK u w p) PM_LINK.PEN = true → t.flag (PM_STAT u w p) PM_STAT.REARM_PEND = true ∧ (t.pump u w p).rearm = 1)) ∧
      ((s.pump u w p).lasting = true ∨ (∃ a, (s.pump u w p).faultAt = some a ∧ e ≤ a + 1000000) → (t.pump u w p).lasting = true ∧
        (t.pump u w p).retire = (if edges = 0 then 9 else if edges ≤ 3 then 2 else 10) ∧ (t.pump u w p).rearm = 0)) ∧
  (∀ (u w p edges : Nat) (s : State), s.pumpOk u w p = true → (s.pump u w p).classify = true → (s.pump u w p).counts = true →
    s.service u w p ≠ 3 → 90 ≤ edges → s.yields (.faultClassify u w p edges) (fun v => v.service u w p = 3 ∧
      v.rd (PM_SVC u w p) PM_SVC.REASON = 3 ∧ v.flag (PM_LINK u w p) PM_LINK.PEN = false ∧
      { src := 9, tile := u, well := w, sub := p } ∈ v.fault.inflight)) ∧
  (∀ (u w p : Nat) (s : State), s.quiet → s.pumpOk u w p = true → (s.pump u w p).rearm = 1 →
    ∃ t, exec (.pumpRearm u w p) s = .next t ∧ t.flag (PM_LINK u w p) PM_LINK.PEN = false ∧ (t.pump u w p).rearm = 2 ∧
      t.service u w p = s.service u w p ∧ State.sameBut [PM_LINK u w p] s t) ∧
  (∀ (u w p : Nat) (s : State), s.quiet → s.pumpOk u w p = true → (s.pump u w p).rearm = 2 →
    ∃ t, exec (.rearmPenRelease u w p) s = .next t ∧ t.flag (PM_LINK u w p) PM_LINK.PEN = true ∧
      t.flag (PM_STAT u w p) PM_STAT.REARM_PEND = false ∧ (t.pump u w p).rearm = 3 ∧
      State.sameBut [PM_LINK u w p, PM_STAT u w p] s t) ∧
  (∀ (u w p : Nat) (s : State), s.quiet → s.pumpOk u w p = true → (s.pump u w p).rearm = 3 →
    ∃ t, exec (.rearmCheck u w p) s = .next t ∧ (t.pump u w p).rearm = 0 ∧
      ((t.pump u w p).lasting = true ↔ s.flag (PM_STAT u w p) PM_STAT.LATCHED = true ∨ (s.pump u w p).lasting = true) ∧
      State.sameBut [] s t) ∧
  (∀ (u w p : Nat) (s : State), s.quiet → s.pumpOk u w p = true → s.flag (PM_STAT u w p) PM_STAT.LATCHED = true →
    ∃ t, exec (.pumpFaultWireRise u w p) s = .next t ∧ t.flag (PM_STAT u w p) PM_STAT.LATCHED = false ∧
      ((s.pump u w p).rearm = 0 → (s.pump u w p).retire = 0 → (t.pump u w p).pwmHeld = false) ∧ State.sameBut [PM_STAT u w p] s t) ∧
  (∀ (u w p : Nat) (s : State), s.pumpOk u w p = true → s.flag (PM_LINK u w p) PM_LINK.PEN = true → s.inService u w p = true →
    s.img.trip < 2560 → s.yields (.softShortTrip u w p) (fun v => v.flag (PM_LINK u w p) PM_LINK.PEN = false ∧
      { src := 9, tile := u, well := w, sub := p } ∈ v.fault.inflight))

/-- The bus and the reference clock: a bus limit passed holds the BUS source at the tile until the bus recovers; a lost reference puts
the DCO in HOLDOVER and counts; a reference valid again starts PULL_IN, and the DCO locks after ten updates within 20 ps (R96, R98, R100). -/
def Obligations.BusAndClock : Prop :=
  (∀ (u : Nat) (s : State), s.quiet → u < s.tileCount → (s.tile u).busBad = none → s.isHeld { src := 7, tile := u, sub := 1 } = false →
    ∃ t, exec (.busFault u true) s = .next t ∧ (t.tile u).busBad = some 1 ∧ { src := 7, tile := u, sub := 1 } ∈ t.fault.held ∧
      t.fault.inflight = s.fault.inflight ++ [{ src := 7, tile := u, sub := 1 }] ∧ State.sameBut [] s t) ∧
  (∀ (u b : Nat) (s : State), s.quiet → (s.tile u).busBad = some b → ∃ t, exec (.busRecovery u) s = .next t ∧
    (t.tile u).busBad = none ∧ { src := 7, tile := u, sub := b } ∉ t.fault.held ∧ State.sameBut [] s t) ∧
  (∀ s : State, s.flag CL_TIME CL_TIME.SRC = false → (s.ckMode = ckLocked ∨ s.ckMode = ckPullIn) →
    s.rd HD_CLK HD_CLK.LOSSES + 1 < 0xFFFFFFFF → s.yields .refLost (fun u => u.ckMode = ckHoldover ∧
      u.rd HD_CLK HD_CLK.LOSSES = s.rd HD_CLK HD_CLK.LOSSES + 1 ∧ u.fault.now = s.fault.now ++ [{ src := 6 }] ∧
      State.sameBut [HD_CLK] s u)) ∧
  (∀ s : State, s.quiet → (s.ckMode = ckHoldover ∨ s.ckMode = ckFree) → ∃ t, exec .refQualified s = .next t ∧ t.ckMode = ckPullIn ∧
    t.clk.dco.near = 0 ∧ State.sameBut [HD_CLK] s t) ∧
  (∀ (f phi : Int) (s : State), s.quiet → s.flag CL_TIME CL_TIME.SRC = false → s.ckMode = ckPullIn →
    ∃ t, exec (.dcoPullUpdate f phi) s = .next t ∧
      t.clk.dco.f1 = s.clk.dco.f1 + clampI (-6400) 6400 (f - clampI (-320000) 320000 (32 * phi) - s.clk.dco.f1) ∧
      t.clk.dco.near = (if phi.natAbs < 20 then s.clk.dco.near + 1 else 0) ∧
      (t.ckMode = ckLocked ↔ phi.natAbs < 20 ∧ 9 ≤ s.clk.dco.near) ∧ State.sameBut [HD_CLK] s t)

/-! ### The control engine -/

/-- Openings and samples: a well in voltage mode takes the duty committed for it, or repeats the one it has, cut at the bound of its
on-times, with its slots assigned and the converter's centre at the set-point; over-voltage suppression issues no edge; an opening at which
the duty of a sample was due counts an overrun; a closed period gives X from its eight codes, queued for the loop with the correction of an
open sense (R82-R84, R105, R106, R123, R229, R240). -/
def Obligations.PeriodsRegulate : Prop :=
  (∀ (u w d : Nat) (s : State), s.quiet → s.wellOk u w = true → s.wet u w = true → (w = 14 ∨ s.rd (PH_PWR u) PH_PWR.STATE = 0) →
    s.stage u w = stVolt → s.fallback u = false → (s.mo u w).hystReq = false → s.engineOk u w = true → s.tied u w = false →
    (s.lp u w).mode = emNormal → (s.lp u w).modePend = false → (s.lp u w).bad = false → (s.en u).byFault = false → (s.lp u w).retry = false →
    (∀ q ∈ (s.lp u w).queue, q.age ≠ 1) → (s.lp u w).next.getD (s.lp u w).now = d → d ≤ 0x7FFF →
    ∃ t, exec (.periodOpening u w) s = .next t ∧ t.rd (WL_PWM u w) WL_PWM.DUTY = min d (t.dutyBound u w) ∧ (t.lp u w).now = d ∧
      (s.flag (WL_HOLD u w) WL_HOLD.OV = true → ∀ p, p < s.installed u w → (t.pump u w p).duty = 0) ∧
      (t.lp u w).next = none ∧ (t.lp u w).period = (s.lp u w).period + 1 ∧
      t.rd (WL_PWM u w) WL_PWM.ACTIVE = (s.slotPumps u w).length ∧ (t.lp u w).queue.map (·.x) = (s.lp u w).queue.map (·.x) ∧
      t.rd (AD_WIN u w) AD_WIN.VC = (half (s.mo u w).x).toNat % 4096 ∧ State.sameBut [WL_PWM u w, AD_WIN u w] s t) ∧
  (∀ (u w : Nat) (s : State), s.quiet → s.wellOk u w = true → s.wet u w = true → (w = 14 ∨ s.rd (PH_PWR u) PH_PWR.STATE = 0) →
    s.stage u w = stHyst → ∃ t, exec (.periodOpening u w) s = .next t ∧
      t.rd (WL_PWM u w) WL_PWM.ACTIVE = (s.switchers u w).length ∧
      t.rd (WL_PWM u w) WL_PWM.DUTY = s.rd (WL_PWM u w) WL_PWM.DUTY ∧ State.sameBut [WL_PWM u w, AD_WIN u w] s t) ∧
  (∀ (u w : Nat) (q : Sample) (s : State), s.wellOk u w = true → s.wet u w = true → (w = 14 ∨ s.rd (PH_PWR u) PH_PWR.STATE = 0) →
    s.stage u w = stVolt → s.fallback u = false → (s.mo u w).hystReq = false → (s.lp u w).mode = emNormal → (s.lp u w).retry = false →
    (s.lp u w).queue = [q] → q.age = 1 → s.rd (PH_ENG_OVR u) ctrCount + 1 < 0xFFFFFFFF → s.yields (.periodOpening u w) (fun t =>
      t.rd (PH_ENG_OVR u) ctrCount = s.rd (PH_ENG_OVR u) ctrCount + 1 ∧ t.rd (PH_ENG_OVR u) PH_ENG_OVR.LAST_WELL = w)) ∧
  (∀ (u w : Nat) (codes : List Int) (x : Int) (s : State), s.quiet → s.wellOk u w = true → s.flag (AD_WIN u w) AD_WIN.RUN = true →
    s.wet u w = true → s.stage u w = stVolt → (s.lp u w).opened = true → (s.lp u w).mode = emNormal → codes.length = 8 →
    x = clampI (-1024) 1023 (codes.sum - s.rdi (AD_WIN u w) AD_WIN.OFFSET +
      ((8 * s.rd (AD_WIN u w) AD_WIN.VC : Nat) - sixteenth (s.mo u w).x : Int)) →
    x.natAbs ≤ 8 * s.rd (WL_WIN u w) WL_WIN.WIN →
    ∃ t, exec (.innerSampleClose u w codes) s = .next t ∧ t.rdi (AD_WIN u w) AD_WIN.LAST_X = x ∧
      (t.lp u w).queue = (s.lp u w).queue ++ [{ x := x + (s.sh u w).correct, closed := s.clk.ns }] ∧
      ((∃ c ∈ codes, c ≤ -128 ∨ 127 ≤ c) → t.flag (AD_WIN u w) AD_WIN.CLIP = true) ∧
      State.sameBut [AD_WIN u w, WL_HOLD u w] s t)

/-- Evaluations and verdicts: the engine's oldest sample is evaluated and its result committed before its verdict, a late one with the
repeated duty fed back; a pass makes its duty the last verified one; a failure puts the loop's state back and asks for a retry; a passing
retry is counted as transient, a failing one marks the engine FAILED and raises ENGINE_FAIL. In LOCKSTEP the commit waits for the
comparison; a retry that fails too, or at once a mismatch with one residue wrong, is lasting: attributed to the one engine whose residue was
wrong on either attempt, which is marked FAILED while the tile moves to the DEGRADED mode of its partner, or else unattributed: the tile
falls back, both engines run their self-tests, and each well enters hysteretic mode at its next opening, about its set-point. An outer
evaluation has its verdict and its retry in the same way (R104–R106, R112, R125–R130, R133). -/
def Obligations.EvaluationsCommit : Prop :=
  (∀ (u w : Nat) (q : Sample) (rest : List Sample) (s : State), s.quiet → s.wellOk u w = true → s.looped u w = true →
    s.laneOk u w = true → s.retryAhead u w = false → s.oldestFirst u w = true → (s.lp u w).heldX = none → (s.lp u w).queue = q :: rest →
    (∀ v, v < 15 → (s.lp u v).outDue = false) →
    ((s.lp u w).mode ≠ emLockstep → q.age < 2 → ∃ t, exec (.innerEvaluation u w) s = .next t ∧
      t.reg (WL_LOOP0 u w) = (evalPid q.x (s.evalIn u w)).l0 ∧
      t.reg (WL_LOOP1 u w) = (evalPid q.x (s.evalIn u w)).l1 ∧ (t.lp u w).next = some (evalPid q.x (s.evalIn u w)).duty ∧
      t.rd (WL_LOOP_STAT u w) WL_LOOP_STAT.SEQ = (s.rd (WL_LOOP_STAT u w) WL_LOOP_STAT.SEQ + 1) % 65536 ∧
      (t.lp u w).queue = rest ∧ (t.lp u w).heldX = some q.x ∧
      State.sameBut [WL_LOOP0 u w, WL_LOOP1 u w, WL_LOOP_STAT u w] s t) ∧
    ((s.lp u w).mode ≠ emLockstep → 2 ≤ q.age → ∃ t, exec (.innerEvaluation u w) s = .next t ∧
      t.reg (WL_LOOP1 u w) = ((evalPid q.x (s.evalIn u w)).late (s.lp u w).now).l1 ∧ (t.lp u w).next = (s.lp u w).next ∧
      t.rd (WL_LOOP_STAT u w) WL_LOOP_STAT.SEQ = (s.rd (WL_LOOP_STAT u w) WL_LOOP_STAT.SEQ + 1) % 65536 ∧
      (t.lp u w).queue = rest ∧ (t.lp u w).heldX = some q.x ∧
      State.sameBut [WL_LOOP0 u w, WL_LOOP1 u w, WL_LOOP_STAT u w] s t) ∧
    ((s.lp u w).mode = emLockstep → ∃ t, exec (.innerEvaluation u w) s = .next t ∧ (t.lp u w).queue = rest ∧
      (t.lp u w).heldX = some q.x ∧ (t.lp u w).heldDuty = (evalPid q.x (s.evalIn u w)).duty ∧ (t.lp u w).next = (s.lp u w).next ∧
      State.sameBut [WL_LOOP_STAT u w] s t)) ∧
  (∀ (u w : Nat) (a b same : Bool) (x : Int) (s : State), s.quiet → (s.lp u w).heldX = some x → (s.lp u w).retry = false →
    (∀ v, v < 15 → (s.lp u v).outDue = false) → (s.lp u w).mode ≠ emLockstep → (if s.engineOf u w = 0 then a else b) = true →
    ∃ t, exec (.residueVerdict u w a b same) s = .next t ∧ (t.lp u w).verified = (s.lp u w).heldDuty ∧ (t.lp u w).heldX = none ∧
      State.sameBut [] s t) ∧
  (∀ (u w : Nat) (a b same : Bool) (x : Int) (s : State), s.quiet → (s.lp u w).heldX = some x → (s.lp u w).retry = false →
    (∀ v, v < 15 → (s.lp u v).outDue = false) → (s.lp u w).heldAge < 2 →
    (s.lp u w).mode ≠ emLockstep → (if s.engineOf u w = 0 then a else b) = false →
    ∃ t, exec (.residueVerdict u w a b same) s = .next t ∧ (t.lp u w).retry = true ∧ (t.lp u w).next = none ∧
      t.reg (WL_LOOP0 u w) = (s.lp u w).held0 ∧ t.reg (WL_LOOP1 u w) = (s.lp u w).held1 ∧
      State.sameBut [WL_LOOP0 u w, WL_LOOP1 u w] s t) ∧
  (∀ (u w : Nat) (x : Int) (s : State), s.quiet → (s.lp u w).heldX = some x → (s.lp u w).retry = false →
    (∀ v, v < 15 → (s.lp u v).outDue = false) → (s.lp u w).heldAge < 2 → (s.lp u w).mode = emLockstep →
    (∃ t, exec (.residueVerdict u w true true true) s = .next t ∧ (t.lp u w).verified = (s.lp u w).heldDuty ∧ (t.lp u w).heldX = none ∧
      (t.lp u w).next = some (s.lp u w).heldDuty ∧ t.reg (WL_LOOP0 u w) = (s.lp u w).res0 ∧ t.reg (WL_LOOP1 u w) = (s.lp u w).res1 ∧
      t.rd (WL_LOOP_STAT u w) WL_LOOP_STAT.SEQ = (s.rd (WL_LOOP_STAT u w) WL_LOOP_STAT.SEQ + 1) % 65536 ∧
      State.sameBut [WL_LOOP0 u w, WL_LOOP1 u w, WL_LOOP_STAT u w] s t) ∧
    (∃ t, exec (.residueVerdict u w true true false) s = .next t ∧ (t.lp u w).retry = true ∧ State.sameBut [] s t)) ∧
  (∀ (u w : Nat) (a b same : Bool) (x : Int) (s : State), s.quiet → w < 15 → (s.lp u w).heldX = some x → (s.lp u w).retry = true →
    (∀ v, v < 15 → (s.lp u v).outDue = false) → (s.lp u w).heldAge < 2 →
    (s.lp u w).mode ≠ emLockstep → (if s.engineOf u w = 0 then a else b) = true →
    s.rd (PH_ENG_STAT u) PH_ENG_STAT.TRANSIENTS + 1 < 0xFFFFFFFF →
    ∃ t, exec (.evaluationRetry u w a b same) s = .next t ∧
      t.rd (PH_ENG_STAT u) PH_ENG_STAT.TRANSIENTS = s.rd (PH_ENG_STAT u) PH_ENG_STAT.TRANSIENTS + 1 ∧
      t.rd (PH_ENG_STAT u) PH_ENG_STAT.LAST_WELL = w ∧ (t.lp u w).verified = (s.lp u w).heldDuty ∧ (t.lp u w).retry = false ∧
      State.sameBut [PH_ENG_STAT u, WL_LOOP0 u w, WL_LOOP1 u w, WL_LOOP_STAT u w] s t) ∧
  (∀ (u w : Nat) (a b same : Bool) (x : Int) (s : State), s.quiet → w < 15 → (s.lp u w).heldX = some x → (s.lp u w).retry = true →
    (∀ v, v < 15 → (s.lp u v).outDue = false) →
    (s.lp u w).mode ≠ emLockstep → (if s.engineOf u w = 0 then a else b) = false →
    ∃ t, exec (.evaluationRetry u w a b same) s = .next t ∧ t.failed u (s.engineOf u w) = true ∧
      t.rd (PH_ENG_STAT u) PH_ENG_STAT.CAUSE = 1 ∧ t.rd (PH_ENG_STAT u) PH_ENG_STAT.LAST_WELL = w ∧
      { src := 11, tile := u, well := w, sub := s.engineOf u w } ∈ t.fault.inflight ∧ (t.lp u w).retry = false ∧ (t.lp u w).heldX = none ∧
      State.sameBut [PH_ENG_STAT u, PH_ENG_CTRL u] s t) ∧
  (∀ (u w e : Nat) (a b same : Bool) (x : Int) (s : State), s.quiet → w < 15 → e < 2 → (s.lp u w).heldX = some x → (s.lp u w).mode = emLockstep →
    (∀ v, v < 15 → (s.lp u v).outDue = false) → s.fallback u = false → s.engMode u = emLockstep → s.failed u 0 = false → s.failed u 1 = false →
    (((s.lp u w).retry = true ∧ ((s.lp u w).failA || !a) = decide (e = 0) ∧ ((s.lp u w).failB || !b) = decide (e = 1) ∧ ¬(a = true ∧ b = true ∧ same = true) →
      ∃ t, exec (.evaluationRetry u w a b same) s = .next t ∧ s.blames t u w e) ∧
    ((s.lp u w).retry = false → same = false → a = decide (e = 1) → b = decide (e = 0) →
      ∃ t, exec (.residueVerdict u w a b same) s = .next t ∧ s.blames t u w e) ∧
    ((s.lp u w).retry = true → ((s.lp u w).failA || !a) = ((s.lp u w).failB || !b) → ¬(a = true ∧ b = true ∧ same = true) →
      ∃ t, exec (.evaluationRetry u w a b same) s = .next t ∧ t.fallback u = true ∧ t.failed u 0 = false ∧ t.failed u 1 = false ∧
        t.rd (PH_ENG_STAT u) PH_ENG_STAT.CAUSE = (if (s.lp u w).failA = true ∨ a = false ∨ same = true then 1 else 2) ∧
        t.rd (PH_ENG_STAT u) PH_ENG_STAT.LAST_WELL = w ∧ (t.en u).dueA = true ∧ (t.en u).dueB = true ∧
        { src := 12, tile := u } ∈ t.fault.held ∧ (t.lp u w).heldX = none ∧ State.sameBut [PH_ENG_STAT u] s t))) ∧
  (∀ (u w : Nat) (s : State), s.wellOk u w = true → s.wet u w = true → (w = 14 ∨ s.rd (PH_PWR u) PH_PWR.STATE = 0) → s.stage u w = stVolt →
    s.fallback u = true → s.tied u w = false → s.yields (.periodOpening u w) (fun t => t.stage u w = stHyst ∧
      (t.mo u w).xFall = some (s.mo u w).x)) ∧
  (∀ (u w : Nat) (a b same : Bool) (r : OuterRes) (s : State), s.quiet → w < 15 → (s.lp u w).heldX = none → (s.lp u w).outer = some r →
    (s.lp u w).mode ≠ emLockstep →
    ((s.lp u w).outRetry = false → (if s.engineOf u w = 0 then a else b) = true →
      ∃ t, exec (.residueVerdict u w a b same) s = .next t ∧ (t.lp u w).outer = none ∧ State.sameBut [] s t) ∧
    ((s.lp u w).outRetry = false → (if s.engineOf u w = 0 then a else b) = false →
      ∃ t, exec (.residueVerdict u w a b same) s = .next t ∧ (t.lp u w).outer = some r ∧ (t.lp u w).outRetry = true ∧ State.sameBut [] s t) ∧
    ((s.lp u w).outRetry = true → (if s.engineOf u w = 0 then a else b) = true → (∀ v, v < 15 → (s.lp u v).outDue = false) →
      s.rd (PH_ENG_STAT u) PH_ENG_STAT.TRANSIENTS + 1 < 0xFFFFFFFF → ∃ t, exec (.evaluationRetry u w a b same) s = .next t ∧
        t.rd (PH_ENG_STAT u) PH_ENG_STAT.TRANSIENTS = s.rd (PH_ENG_STAT u) PH_ENG_STAT.TRANSIENTS + 1 ∧
        t.rd (PH_ENG_STAT u) PH_ENG_STAT.LAST_WELL = w ∧ (t.lp u w).outer = none ∧ (t.mo u w).vTgt = r.vTgt))

/-- Engine modes: a self-test in an idle issue slot that is right ends, one that is wrong fails its engine; STEST asks for both; a new
MODE_REQ is granted, or REFUSED where it needs a failed engine; a granted mode takes effect at the beat boundary on every well that runs no
loop (R128, R129, R134, R135). -/
def Obligations.EngineModesMove : Prop :=
  (∀ (u e : Nat) (s : State), s.quiet → s.tileOk u = true → e < 2 → (if e = 0 then (s.en u).dueA else (s.en u).dueB) = true →
    (s.en u).startTest = false → (s.engineIdle u e = true ∨ s.fallback u = true) → ∃ t, exec (.selfTest u e true) s = .next t ∧
      (if e = 0 then (t.en u).dueA else (t.en u).dueB) = false ∧ (if e = 0 then (t.en u).ranA else (t.en u).ranB) = true ∧
      State.sameBut [] s t) ∧
  (∀ (u e : Nat) (s : State), s.quiet → s.tileOk u = true → e < 2 → (if e = 0 then (s.en u).dueA else (s.en u).dueB) = true →
    (s.en u).startTest = false → (s.engineIdle u e = true ∨ s.fallback u = true) → ∃ t, exec (.selfTest u e false) s = .next t ∧ t.failed u e = true ∧
      t.rd (PH_ENG_STAT u) PH_ENG_STAT.CAUSE = 3 ∧ { src := 11, tile := u, sub := e } ∈ t.fault.inflight ∧
      State.sameBut [PH_ENG_STAT u, PH_ENG_CTRL u] s t) ∧
  (∀ (u : Nat) (d : Word) (s : State), s.quiet → s.alone → u < 96 → s.takes (PH_ENG_CTRL u) d → PH_ENG_CTRL.STEST.get d = 1 →
    PH_ENG_CTRL.MODE_REQ.get d = s.rd (PH_ENG_CTRL u) PH_ENG_CTRL.MODE_REQ → ∃ t, exec (.stest u d) s = .next t ∧
      (t.en u).dueA = ((s.en u).dueA || !s.failed u 0) ∧ (t.en u).dueB = ((s.en u).dueB || !s.failed u 1) ∧ State.sameBut [] s t ∧
      t.port = (s.answered rOkay 0).port) ∧
  (∀ (u : Nat) (d : Word) (s : State), s.quiet → s.alone → u < 96 → s.takes (PH_ENG_CTRL u) d → PH_ENG_CTRL.STEST.get d = 0 →
    PH_ENG_CTRL.MODE_REQ.get d ≠ s.rd (PH_ENG_CTRL u) PH_ENG_CTRL.MODE_REQ →
    (s.needsFailed u (PH_ENG_CTRL.MODE_REQ.get d) = false → s.fallback u = false → (s.en u).grant = none → (s.en u).target = none →
      ∃ t, exec (.modeReqWrite u d) s = .next t ∧ (t.en u).grant = some (PH_ENG_CTRL.MODE_REQ.get d) ∧
        t.rd (PH_ENG_CTRL u) PH_ENG_CTRL.MODE_REQ = PH_ENG_CTRL.MODE_REQ.get d ∧ State.sameBut [PH_ENG_CTRL u] s t ∧
        t.port = (s.answered rOkay 0).port) ∧
    (s.needsFailed u (PH_ENG_CTRL.MODE_REQ.get d) = true → ∃ t, exec (.modeReqWrite u d) s = .next t ∧
        t.flag (PH_ENG_STAT u) PH_ENG_STAT.REFUSED = true ∧ (t.en u).grant = (s.en u).grant ∧
        State.sameBut [PH_ENG_STAT u] s t)) ∧
  (∀ (u m : Nat) (s : State), s.quiet → (s.en u).grant = some m → m < 4 →
    (∀ w, w < 15 → s.looped u w = false ∧ (s.lp u w).modePend = false) →
    ∃ t, exec (.modeChangeApply u) s = .next t ∧ t.engMode u = m ∧ (∀ w, w < 15 → (t.lp u w).mode = m) ∧ (t.en u).grant = none ∧
      (t.en u).target = none ∧ State.sameBut [PH_ENG_STAT u] s t) ∧
  (∀ (u m w : Nat) (s : State), s.quiet → (s.en u).grant = some m → w < 15 → s.looped u w = true →
    ∃ t, exec (.modeChangeApply u) s = .next t ∧ (t.en u).target = some m ∧ (t.lp u w).modePend = true ∧
      (t.lp u w).mode = (s.lp u w).mode ∧ State.sameBut [] s t)

/-- The window comparators: HOLD rises below HOLD_TH and is counted, falls once the deviation has recovered or HOLD_NS has passed;
suppression stands from OV_TH down to OV_TH - HOLD_HYS (R120, R123). -/
def Obligations.ComparatorsAct : Prop :=
  (∀ (u w : Nat) (dev : Int) (s : State), s.compares u w = true → dev < -(8 * s.rd (WL_WIN u w) WL_WIN.HOLD_TH : Nat) →
    s.flag (WL_HOLD u w) WL_HOLD.HOLD = false → (∀ r, (s.lp u w).relAt = some r → r + 40 ≤ s.clk.ns) →
    s.rd (WL_HOLD u w) WL_HOLD.HOLDS + 1 < 0xFFFFFFFF →
    s.yields (.holdAssert u w dev) (fun t => t.flag (WL_HOLD u w) WL_HOLD.HOLD = true ∧
      t.rd (WL_HOLD u w) WL_HOLD.HOLDS = s.rd (WL_HOLD u w) WL_HOLD.HOLDS + 1)) ∧
  (∀ (u : Nat) (dev : Int) (s : State), s.quiet → s.compares u 14 = true → dev < -(8 * s.rd (WL_WIN u 14) WL_WIN.HOLD_TH : Nat) →
    s.flag (WL_HOLD u 14) WL_HOLD.HOLD = false → (s.lp u 14).relAt = none → s.rd (WL_HOLD u 14) WL_HOLD.HOLDS + 1 < 0xFFFFFFFF →
    ∃ t, exec (.holdAssert u 14 dev) s = .next t ∧ t.flag (WL_HOLD u 14) WL_HOLD.HOLD = true ∧
      State.sameBut [WL_HOLD u 14] s t ∧ s.onlyRegs t) ∧
  (∀ (u w : Nat) (dev : Int) (s : State), s.quiet → s.flag (WL_HOLD u w) WL_HOLD.HOLD = true →
    -((8 * s.rd (WL_WIN u w) WL_WIN.HOLD_TH : Nat) - (8 * s.rd (WL_WIN u w) WL_WIN.HOLD_HYS : Nat) : Int) ≤ dev →
    ∃ t, exec (.holdRelease u w dev) s = .next t ∧ t.flag (WL_HOLD u w) WL_HOLD.HOLD = false ∧ (t.lp u w).relAt = some s.clk.ns ∧
      State.sameBut [WL_HOLD u w] s t) ∧
  (∀ (u w : Nat) (s : State), s.quiet → s.flag (WL_HOLD u w) WL_HOLD.HOLD = true →
    ∃ t, exec (.holdTimeout u w) s = .next t ∧ t.flag (WL_HOLD u w) WL_HOLD.HOLD = false ∧ (t.lp u w).relAt = some s.clk.ns ∧
      State.sameBut [WL_HOLD u w] s t) ∧
  (∀ (u w : Nat) (dev : Int) (s : State), s.quiet → s.compares u w = true → ((8 * s.rd (WL_WIN u w) WL_WIN.OV_TH : Nat) : Int) < dev →
    ∃ t, exec (.ovSuppress u w dev) s = .next t ∧ t.flag (WL_HOLD u w) WL_HOLD.OV = true ∧ State.sameBut [WL_HOLD u w] s t ∧
      s.onlyRegs t) ∧
  (∀ (u w : Nat) (dev : Int) (s : State), s.quiet → s.flag (WL_HOLD u w) WL_HOLD.OV = true →
    dev < ((8 * s.rd (WL_WIN u w) WL_WIN.OV_TH : Nat) - (8 * s.rd (WL_WIN u w) WL_WIN.HOLD_HYS : Nat) : Int) →
    ∃ t, exec (.ovSuppressEnd u w dev) s = .next t ∧ t.flag (WL_HOLD u w) WL_HOLD.OV = false ∧ State.sameBut [WL_HOLD u w] s t ∧
      s.onlyRegs t)

/-! ### Set-points, priming, load -/

/-- Motion: a tick of an own law that is not captured moves x, v and a by R139, and one that is sets x = g at rest with SETTLED, which
clears once g differs from x; a host's V_CMD is stored on a well no sequencer owns, ignored with HOST_IGN on one it owns; in hysteretic mode
a low sense starts the next ready pump's pulse, which ends above the band or at TON_MAX, and the pump is ready again once its reset time has
passed; a settled well with a HAND goes to voltage mode (R139, R142, R144, R146, R242). That TON_MAX does not bound a pulse of safe priming
is the model's choice (log entry 76). -/
def Obligations.SetPointMoves : Prop :=
  (∀ (u w : Nat) (s : State), s.quiet → s.wellOk u w = true → stPriming ≤ s.stage u w → (s.mo u w).dropPend = false →
    s.tracks u w = false → s.safeWell u w = false →
    captured (s.limits u w) (s.goalOf u w) (profStep (s.limits u w) (s.goalOf u w) (s.mo u w).x (s.mo u w).v (s.mo u w).a).1
      (profStep (s.limits u w) (s.goalOf u w) (s.mo u w).x (s.mo u w).v (s.mo u w).a).2.1
      (profStep (s.limits u w) (s.goalOf u w) (s.mo u w).x (s.mo u w).v (s.mo u w).a).2.2 = false →
    ∃ t, exec (.profileTick u w) s = .next t ∧
      ((t.mo u w).x, (t.mo u w).v, (t.mo u w).a) = profStep (s.limits u w) (s.goalOf u w) (s.mo u w).x (s.mo u w).v (s.mo u w).a ∧
      t.rd (WL_SETPT u w) WL_SETPT.V_SET = (half (t.mo u w).x).toNat % 4096 ∧
      (s.goalOf u w ≠ (s.mo u w).x → t.flag (WL_PROF_STAT u w) WL_PROF_STAT.SETTLED = false) ∧
      State.sameBut [WL_SETPT u w, WL_PROF_STAT u w] s t) ∧
  (∀ (u w : Nat) (s : State), s.quiet → s.wellOk u w = true → stPriming ≤ s.stage u w → (s.mo u w).dropPend = false →
    s.tracks u w = false → s.safeWell u w = false →
    captured (s.limits u w) (s.goalOf u w) (profStep (s.limits u w) (s.goalOf u w) (s.mo u w).x (s.mo u w).v (s.mo u w).a).1
      (profStep (s.limits u w) (s.goalOf u w) (s.mo u w).x (s.mo u w).v (s.mo u w).a).2.1
      (profStep (s.limits u w) (s.goalOf u w) (s.mo u w).x (s.mo u w).v (s.mo u w).a).2.2 = true →
    ∃ t, exec (.profileTick u w) s = .next t ∧ ((t.mo u w).x, (t.mo u w).v, (t.mo u w).a) = (s.goalOf u w, 0, 0) ∧
      t.flag (WL_PROF_STAT u w) WL_PROF_STAT.SETTLED = true ∧
      (s.stage u w = stHyst ∨ s.stage u w = stVolt → State.sameBut [WL_SETPT u w, WL_PROF_STAT u w] s t)) ∧
  (∀ (u w : Nat) (d : Word) (s : State), s.quiet → s.alone → u < 96 → w < 14 → s.takes (WL_SETPT u w) d → s.owned u w = false →
    ∃ t, exec (.vCmdWrite u w d) s = .next t ∧ t.rd (WL_SETPT u w) WL_SETPT.V_CMD = WL_SETPT.V_CMD.get d ∧
      State.sameBut [WL_SETPT u w] s t ∧ s.onlyRegsPort t ∧ t.port = (s.answered rOkay 0).port) ∧
  (∀ (u w : Nat) (d : Word) (s : State), s.quiet → s.alone → u < 96 → w < 15 → s.takes (WL_SETPT u w) d → (w = 14 ∨ s.owned u w = true) →
    ∃ t, exec (.vCmdWrite u w d) s = .next t ∧ t.rd (WL_SETPT u w) WL_SETPT.V_CMD = s.rd (WL_SETPT u w) WL_SETPT.V_CMD ∧
      t.flag (WL_SETPT u w) WL_SETPT.HOST_IGN = true ∧ State.sameBut [WL_SETPT u w] s t ∧ s.onlyRegsPort t) ∧
  (∀ (u w p : Nat) (code : Int) (s : State), s.quiet → s.wellOk u w = true → s.pulses u w = true → s.nextPulse u w = some p →
    8 * code - s.rdi (AD_WIN u w) AD_WIN.OFFSET + ((8 * s.rd (AD_WIN u w) AD_WIN.VC : Nat) - sixteenth (s.mo u w).x) < -(s.bandOf u w) → (s.lp u w).lastOn = none → s.flag (WL_HOLD u w) WL_HOLD.OV = false →
    ∃ t, exec (.hystTurnOn u w code) s = .next t ∧ (t.pump u w p).pulse = true ∧ (t.pump u w p).ready = false ∧
      (t.lp u w).lastOn = some s.clk.ns ∧ (t.lp u w).nextPump = p + 1 ∧ State.sameBut [] s t) ∧
  (∀ (u w p ton : Nat) (code : Int) (s : State), s.quiet → s.pumpOk u w p = true → (s.pump u w p).pulse = true → 10000 ≤ ton →
    ((s.bandOf u w < s.senseOf u w code ∧ (ton ≤ s.tonMax u w ∨ s.safeWell u w = true)) ∨ (ton = s.tonMax u w ∧ s.safeWell u w = false)) →
    ∃ t, exec (.hystPulseEnd u w p ⟨ton, code⟩) s = .next t ∧ (t.pump u w p).pulse = false ∧
      (t.pump u w p).onPs = (s.pump u w p).onPs + ton ∧ (t.pump u w p).readyAt = s.clk.ns + s.resetNs u w ton ∧ State.sameBut [] s t) ∧
  (∀ (u w p : Nat) (s : State), s.quiet → s.pumpOk u w p = true → (s.pump u w p).pulse = false → (s.pump u w p).readyAt ≤ s.clk.ns →
    ∃ t, exec (.hystPumpReady u w p) s = .next t ∧ (t.pump u w p).ready = true ∧ State.sameBut [] s t) ∧
  (∀ (u w : Nat) (s : State), (s.mo u w).handReq = true → w < 14 → s.fallback u = false → (s.en u).startTest = false → s.handReady u w = true →
    s.yields (.handover u w) (fun t => t.stage u w = stVolt ∧ (t.mo u w).handReq = false ∧
      (t.lp u w).now = (clampI 0 0x7FFF (roundDiv (65536 * (s.lp u w).vMean) (16 * s.rd (PH_BUS u) PH_BUS.BUS))).toNat))

/-- Priming and load: a well that waits is admitted, its pumps LIVE and its ramp begun at its start voltage, an SRAM well at once and a core
well once its inrush has fitted the cistern's priming headroom and INRUSH limit at eight boundaries, of which it then reserves its inrush,
and not before; a paused ramp resumes after eight boundaries with headroom; a park that takes too long has PEN low on every pump. An outer
boundary counts itself and the well's telemetry, and runs its parts in order: the pump averages, the retirements that waited, the checks,
the capability with PH_CIST and the deficit reaction, the load line and the trims, a test step, priming and tracking, and the tile's input
current; of each it is stated what it forms: CURRENT and AVG64 of a pump, also of a fault period and of an implausible one; a wet well's
CONT, PEAK, RISE, FALL and STATE, and what waits for the window; PH_CIST's SUM and HEADROOM; the target by the load line; the trims, centred
and clamped; and of a deficit the tie that closes, the smallest rest that meets both conditions, 15 and OVERLOAD where none does, and 0
without one; PH_TILE_CAP.INPUT_A, the sum of the wells' means. 2 ms of excess marks the well OVERLOAD with its rest at 15; a capability
event, which waits while the Wellhead sleeps, leaves its queue and classes the well, EVACUATE with an open sense (R24-R29, R31-R33, R86,
R88, R92, R116, R118, R153-R157, R205-R208, R211, R217, R254, R291). -/
def Obligations.PrimingAndLoad : Prop :=
  (∀ (u w p : Nat) (s : State), s.wellOk u w = true → s.stage u w = stWait → s.safeWell u w = false → s.tracks u w = false →
    s.followersOf u w = [] → s.stopped u = false → p < s.installed u w → s.service u w p ≠ 3 →
    (w = 12 ∨ w = 13 ∨ (w < 12 ∧ 8 ≤ (s.mo u w).admitRun ∧ s.admits u w = true ∧ s.admitFirst u w = true ∧ s.admitGap u w = true)) →
    s.yields (.primeAdmit u w) (fun t => t.stage u w = stPriming ∧ t.service u w p = (if (s.pump u w p).follower then 2 else 1) ∧ t.flag (PM_LINK u w p) PM_LINK.PEN = true ∧
      (t.mo u w).x = s.startX u w ∧ (t.mo u w).v = 0 ∧ t.flag (WL_PROF_STAT u w) WL_PROF_STAT.SETTLED = false ∧
      (w < 12 → (t.mo u w).reserved = s.inrush u w))) ∧
  (∀ (u w : Nat) (s : State), s.quiet → w < 12 → s.safeWell u w = false → ((s.mo u w).admitRun < 8 ∨ s.primeHead u w < s.inrush u w ∨
    TopoCist.INRUSH.geti (s.cistWord u (w / 4)) < s.inrushUse u (w / 4) + s.inrush u w) → exec (.primeAdmit u w) s = .next s) ∧
  (∀ (u w : Nat) (s : State), w < 12 → s.stage u w = stWait → s.tracks u w = true ∨ (s.mo u w).oneCheck = false →
    ((s.waitStep u w).mo u w).admitRun = (if s.inrush u w ≤ s.primeHead u w ∧
      s.inrushUse u (w / 4) + s.inrush u w ≤ TopoCist.INRUSH.geti (s.cistWord u (w / 4)) then (s.mo u w).admitRun + 1 else 0)) ∧
  (∀ (u w : Nat) (s : State), s.quiet → s.stage u w = stPriming → s.flag (WL_PROF_STAT u w) WL_PROF_STAT.PAUSED = true →
    8 ≤ (s.mo u w).headRun → (s.mo u w).trkFail = false → ∃ t, exec (.primeResume u w) s = .next t ∧
      t.flag (WL_PROF_STAT u w) WL_PROF_STAT.PAUSED = false ∧ (t.mo u w).headRun = 0 ∧ State.sameBut [WL_PROF_STAT u w] s t) ∧
  (∀ (u w p : Nat) (s : State), s.quiet → s.voltedOk u w = true → s.stage u w = stPark → (s.mo u w).dropPend = false →
    p < s.installed u w → ∃ t, exec (.parkTimeout u w) s = .next t ∧ t.flag (PM_LINK u w p) PM_LINK.PEN = false ∧
      t.inService u w p = false ∧ (t.mo u w).dropPend = true ∧ (t.mo u w).parkTimedOut = true ∧
      ((12 ≤ w ∨ ∀ n ∈ wellTies w, s.tieOn u n = false) →
        State.sameBut ((List.range 4).flatMap (fun q => [PM_LINK u w q, PM_STAT u w q])) s t)) ∧
  (∀ (u w : Nat) (edges : List (List Nat)) (s : State), s.wellOk u w = true → (w = 14 ∨ s.rd (PH_PWR u) PH_PWR.STATE ≠ 1) →
    s.yields (.outerEvaluation u w edges) (fun t => (t.sh u w).outerN = (s.sh u w).outerN + 1 ∧
      (t.well u w).tel.n = (s.well u w).tel.n + 1)) ∧
  (∀ (u w : Nat) (edges : List (List Nat)) (s a b c d : State), s.wellOk u w = true → (w = 14 ∨ s.rd (PH_PWR u) PH_PWR.STATE ≠ 1) →
    a = (s.boundaryPeriod u w edges).boundaryFirst u w →
    b = (if a.wet u w = true then ((a.boundaryChecks u w).boundaryLoad u w).boundaryVolt u w else a.boundaryDry u w) →
    c = b.boundaryTest u w → d = (if w < 14 then (c.primeStep u w).trackStep u w else c) →
    exec (.outerEvaluation u w edges) s = .next (((d.tileInput u).lowPower u).dormant u).settle) ∧
  (∀ (u w p n : Nat) (s v : State), v = s.decodePump u w p n → s.khz u * 8 / 1000 ≠ 0 →
    v.rd (PM_ISNS u w p) PM_ISNS.COUNT = min n 0x3FF ∧ State.sameBut [PM_ISNS u w p, PM_STAT u w p] s v ∧
    (v.pump u w p).hist = ((if s.faultPeriod u w p = true then s.pumpOffset u w p else 256 * n) :: (s.pump u w p).hist).take (s.khz u * 8 / 1000) ∧
    v.rd (PM_ISNS u w p) PM_ISNS.AVG64 = pattern 16 (senseCurrent (s.khz u) (s.rd (PM_LINK u w p) PM_LINK.GAIN) w (s.khz u * 8 / 1000)
      (((v.pump u w p).hist.map (fun e => (e : Int) - (s.pumpOffset u w p : Int))).sum)) ∧
    (s.faultPeriod u w p = true → v.current u w p = 0) ∧
    (s.faultPeriod u w p = false → s.implausible u w p n = true → v.current u w p = s.current u w p ∧
      v.flag (PM_STAT u w p) PM_STAT.IMPLAUSIBLE = true) ∧
    (s.faultPeriod u w p = false → s.implausible u w p n = false → v.rd (PM_ISNS u w p) PM_ISNS.CURRENT = pattern 16
      (senseCurrent (s.khz u) (s.rd (PM_LINK u w p) PM_LINK.GAIN) w 1 ((256 * n : Nat) - (s.pumpOffset u w p : Nat) : Int)))) ∧
  (∀ (u w : Nat) (free : Bool) (s v : State), v = s.recompute u w free → s.installed u w ≤ 4 →
    (s.wet u w = false → v.cont u w = 0 ∧ v.peak u w = 0 ∧ v.rd (WL_CAP u w) WL_CAP.STATE = 0) ∧
    (s.wet u w = true → v.rd (WL_CAP u w) WL_CAP.STATE = s.wellState u w ∧ v.rd (WL_CAP u w) WL_CAP.RISE = (s.slew u w).1 ∧
      v.rd (WL_CAP u w) WL_CAP.FALL = (s.slew u w).2 ∧
      v.rd (WL_CAP u w) WL_CAP.LIVE = ((s.pumpsOf u w).filter (fun p => s.service u w p == 1)).length ∧
      v.rd (WL_CAP u w) WL_CAP.FOLLOW = ((s.pumpsOf u w).filter (fun p => s.service u w p == 2)).length) ∧
    (s.wet u w = true → free = true ∨ s.stage u w ≠ stVolt → (∀ p, p < 4 → (s.pump u w p).rises = false) →
      v.cont u w = capBy (s.pumpSum u w 1152) [s.limitNow u w, s.hystLimit u w]) ∧
    (free = false → s.stage u w = stVolt → (v.sh u w).limIn = leastLimit (s.sh u w).limIn (s.limitNow u w) ∧
      ∀ p, p < s.installed u w → (v.pump u w p).capIn = min (s.pump u w p).capIn (s.pumpShare u w p)) ∧
    (w < 12 → v.rd (PH_CIST u (w / 4)) PH_CIST.SUM = pattern 16 (s.cistSum u (w / 4)) ∧
      v.rd (PH_CIST u (w / 4)) PH_CIST.HEADROOM = pattern 16 (min (s.cistLimit u (w / 4) - s.cistSum u (w / 4))
        ((cistWells (w / 4)).foldl (fun a j => a + (v.cont u j - s.iW u j)) 0))) ∧
    State.sameBut [WL_CAP u w, PH_CIST u (w / 4)] s v) ∧
  (∀ (u w : Nat) (s : State), s.groupWells u w = [w] → ((s.loadLine u w).mo u w).vTgt =
    s.vcmd u w - roundDiv ((s.rd (WL_OUTER u w) WL_OUTER.R_LL : Int) * s.iW u w * 128) 125 + (s.lp u w).vPre) ∧
  (∀ (u w : Nat) (s z : State) (g : List Nat) (raw : Nat → Int), s.groupWells u w = [w] → s.unloading u w = false → s.installed u w ≤ 4 →
    ¬(s.rd (WL_TIE u w) WL_TIE.ROLE = 2 ∧ 2 ≤ s.rd (WL_TIE u w) WL_TIE.PHASE) → z = s.zeroTrims u w →
    g = (s.pumpsOf u w).filter (fun p => s.service u w p == 1 && !(s.pump u w p).pwmHeld && !(s.pump u w p).inTest) →
    raw = (fun p => z.trim u w p + shareErr (s.rd (WL_OUTER u w) WL_OUTER.K_SH) g.length (g.foldl (fun (a : Int) q => a + s.current u w q) 0)
      (s.current u w p) (s.avg64 u w p) (s.ovlLim u w)) →
    (∀ p ∈ g, (s.share u w).trim u w p = clampI (-(s.rd (WL_OUTER u w) WL_OUTER.SH_LIM : Int)) (s.rd (WL_OUTER u w) WL_OUTER.SH_LIM)
      (raw p - meanI (g.map raw))) ∧
    (∀ p, p < s.installed u w → s.service u w p ≠ 1 → (s.pump u w p).inTest = false → (s.share u w).trim u w p = 0) ∧
    State.sameBut [WL_SHARE u w] s (s.share u w)) ∧
  (∀ (u w : Nat) (s v : State), v = s.deficitReact u w → w < 14 → s.tied u w = false → (s.sh u w).newTie = none → (s.sh u w).ovlRest = false →
    s.flag (WL_CHK u w) WL_CHK.SENSE_OPEN = false → (s.sh u w).pr.want = s.rd (WL_TIE u w) WL_TIE.PROT_REST →
    v.flag (WL_TIE u w) WL_TIE.DEFICIT = s.hasDeficit u w ∧
    (∀ n, s.hasDeficit u w = true → w < 12 → s.pickTie u w false 0 = some n → v.tieOn u n = true ∧
      v.rd (WL_TIE u w) WL_TIE.PARTNER = tieOther n w ∧ v.rd (WL_TIE u w) WL_TIE.ROLE = 1 ∧ v.rd (WL_TIE u w) WL_TIE.PHASE = 1) ∧
    (∀ r, s.hasDeficit u w = true → (12 ≤ w ∨ s.pickTie u w false 0 = none) → r < 16 → s.restMeets u w (s.deficitF u w) 0 r = true →
      (∀ q, q < r → s.restMeets u w (s.deficitF u w) 0 q = false) → v.rd (WL_TIE u w) WL_TIE.PROT_REST = r ∧ v.fault = s.fault) ∧
    (s.hasDeficit u w = true → (12 ≤ w ∨ s.pickTie u w false 0 = none) → (∀ r, r < 16 → s.restMeets u w (s.deficitF u w) 0 r = false) →
      v.rd (WL_TIE u w) WL_TIE.PROT_REST = 15 ∧
      ((s.sh u w).satur = false → v.fault.inflight = s.fault.inflight ++ [{ src := 16, tile := u, well := w }])) ∧
    (s.hasDeficit u w = false → (12 ≤ w ∨ s.cistOver u (w / 4) = false) → v.rd (WL_TIE u w) WL_TIE.PROT_REST = 0)) ∧
  (∀ (u : Nat) (s : State), (s.tileInput u).rd (PH_TILE_CAP u) PH_TILE_CAP.INPUT_A =
    pattern 16 ((List.range 15).foldl (fun (x : Int) w => x + meanI (s.well u w).tel.inHist) 0)) ∧
  (∀ (u w : Nat) (s : State), s.quiet → s.voltedOk u w = true → (s.sh u w).ovlRest = false → 0 < s.khz u →
    2000000 * s.khz u ≤ (s.sh u w).excess → (s.sh u w).pr.want < 15 → ∃ t, exec (.wellOverload u w) s = .next t ∧
      t.flag (WL_TIE u w) WL_TIE.OVERLOAD = true ∧ t.rd (WL_TIE u w) WL_TIE.PROT_REST = 15 ∧
      t.fault.inflight = s.fault.inflight ++ [{ src := 16, tile := u, well := w }] ∧ State.sameBut [WL_TIE u w] s t) ∧
  (∀ (n e : Nat) (s : State), s.quiet → s.capEvents[n]? = some e → e < 4096 → e % 16 < 14 → s.tileOk (e / 16) = true →
    s.flag (WL_TIE (e / 16) (e % 16)) WL_TIE.DEFICIT = false → s.flag (WL_CHK (e / 16) (e % 16)) WL_CHK.CRACK = false →
    s.flag (WL_CHK (e / 16) (e % 16)) WL_CHK.SENSE_OPEN = true → s.wellClass (e / 16) (e % 16) < 3 → s.clk.fast ≠ .sleep →
    (∃ k ∈ fedClusters (e % 16), s.mapState (e / 16) k ∈ [0, 4, 5]) → ∃ t, exec (.capabilityEvent n) s = .next t ∧ t.capEvents = s.capEvents.eraseIdx n ∧ t.wellClass (e / 16) (e % 16) = 3 ∧
      State.sameBut [PL_WELL e] s t) ∧
  (∀ (n : Nat) (s : State), s.quiet → s.clk.fast = .sleep → exec (.capabilityEvent n) s = .next s)

/-! ### Step sequencers -/

/-- START runs a program of the image from instruction 0 with F = 1, and is REFUSED on a running sequencer, without an ACTIVE image or
without that program; ABORT stops it and frees its wells, and reads LATE in the beat of an END; END, SELT, JMP and EVENT do what their
opcodes say; a waiting instruction ends once every well has completed or failed, or at its timeout (R158-R161, R164, R165). -/
def Obligations.SequencerRuns : Prop :=
  (∀ (n : Nat) (d : Word) (s : State), s.quiet → s.alone → n < 8 → s.takes (SQ_CTRL n) d → SQ_CTRL.START.get d = 1 →
    SQ_CTRL.ABORT.get d = 0 →
    (s.sqState n = 0 → s.active = true → (s.program (SQ_CTRL.PROG.get d)).isSome = true →
      ∃ t, exec (.sqStart n d) s = .next t ∧ t.sqState n = 1 ∧ t.rd (SQ_STAT n) SQ_STAT.PC = 0 ∧
        t.rd (SQ_STAT n) SQ_STAT.PROG = SQ_CTRL.PROG.get d ∧ t.flag (SQ_STAT n) SQ_STAT.F = true ∧ (t.sq n).tiles = s.allTiles ∧
        State.sameBut [SQ_CTRL n, SQ_STAT n] s t ∧ t.port = (s.answered rOkay 0).port) ∧
    ((s.sqState n ≠ 0 ∨ s.active = false ∨ s.program (SQ_CTRL.PROG.get d) = none) →
      ∃ t, exec (.sqStart n d) s = .next t ∧ t.flag (SQ_STAT n) SQ_STAT.REFUSED = true ∧ t.sqState n = s.sqState n ∧ t.sq n = s.sq n ∧
        State.sameBut [SQ_CTRL n, SQ_STAT n] s t)) ∧
  (∀ (n : Nat) (s : State), s.quiet → n < 8 → s.sqState n = 1 → opOf (s.instrAt n) ≠ 0 →
    ∃ t, exec (.sqAbort n) s = .next t ∧ t.sqState n = 0 ∧ t.rd (SQ_STAT n) SQ_STAT.ABORT = 1 ∧ (t.sq n).owned = [] ∧
      (∀ g ∈ (s.sq n).owned, t.owned (g / 16) (g % 16) = false) ∧
      State.sameBut (SQ_STAT n :: (s.sq n).owned.map (fun g => WL_SETPT (g / 16) (g % 16))) s t) ∧
  (∀ (n : Nat) (s : State), s.quiet → n < 8 → s.sqState n = 0 →
    ((s.sq n).ended = some s.clk.beat → ∃ t, exec (.sqAbort n) s = .next t ∧ t.rd (SQ_STAT n) SQ_STAT.ABORT = 2 ∧ t.sqState n = 0 ∧
      State.sameBut [SQ_STAT n] s t ∧ s.onlyRegs t) ∧
    ((s.sq n).ended ≠ some s.clk.beat → exec (.sqAbort n) s = .next s)) ∧
  (∀ (n : Nat) (s : State), s.quiet → s.issues n 0 = true → ∃ t, exec (.sqEnd n) s = .next t ∧ t.sqState n = 0 ∧
    t.flag (SQ_STAT n) SQ_STAT.DONE = true ∧ t.rd (SQ_STAT n) SQ_STAT.EXIT = codeOf (s.instrAt n) ∧ (t.sq n).owned = [] ∧
    t.flag (IC_SRC (128 + n)) IC_SRC.PEND = true) ∧
  (∀ (n : Nat) (s : State), s.quiet → s.issues n 1 = true → s.rd (SQ_STAT n) SQ_STAT.PC + 1 < 1024 →
    ∃ t, exec (.sqSelt n) s = .next t ∧ t.rd (SQ_STAT n) SQ_STAT.PC = s.rd (SQ_STAT n) SQ_STAT.PC + 1 ∧
      (s.instrAt n / 16777216 % 16 = 0 → (t.sq n).tiles = s.allTiles) ∧
      (s.instrAt n / 16777216 % 16 = 1 → (t.sq n).tiles = [s.instrAt n % 256]) ∧
      (s.instrAt n / 16777216 % 16 = 2 → ∀ u, u ∈ (t.sq n).tiles ↔ (u < s.tileCount ∧
        (s.rd (SQ_TILES0 n) SQ_TILES0.TILES_LO + s.rd (SQ_TILES1 n) SQ_TILES1.TILES_HI * 2 ^ 64).testBit u = true)) ∧
      (s.instrAt n / 16777216 % 16 = 3 → s.rd (SQ_STAT n) SQ_STAT.SRC = 2 → s.tileOk (s.sq n).faultTile = true →
        (t.sq n).tiles = [(s.sq n).faultTile]) ∧ State.sameBut [SQ_STAT n] s t) ∧
  (∀ (n c : Nat) (s : State), s.quiet → s.issues n 9 = true → c = s.instrAt n / 67108864 % 4 → s.rd (SQ_STAT n) SQ_STAT.PC + 1 < 1024 →
    0 ≤ (s.rd (SQ_STAT n) SQ_STAT.PC : Int) + jmpOff (s.instrAt n) → (s.rd (SQ_STAT n) SQ_STAT.PC : Int) + jmpOff (s.instrAt n) < 1024 →
    ∃ t, exec (.sqJmp n) s = .next t ∧ (t.rd (SQ_STAT n) SQ_STAT.PC : Int) =
      (if c = 0 ∨ (c = 1 ∧ s.flag (SQ_STAT n) SQ_STAT.F = true) ∨ (c = 2 ∧ s.flag (SQ_STAT n) SQ_STAT.F = false) then
        (s.rd (SQ_STAT n) SQ_STAT.PC : Int) + jmpOff (s.instrAt n) else s.rd (SQ_STAT n) SQ_STAT.PC + 1) ∧
      State.sameBut [SQ_STAT n] s t ∧ t.wells = s.wells ∧ t.pumps = s.pumps ∧ t.tiles = s.tiles ∧ t.fault = s.fault) ∧
  (∀ (n : Nat) (s : State), s.quiet → s.issues n 0xF = true → s.rd (SQ_STAT n) SQ_STAT.PC + 1 < 1024 →
    ∃ t, exec (.sqEvent n) s = .next t ∧ t.rd (SQ_STAT n) SQ_STAT.EVCODE = codeOf (s.instrAt n) ∧
      t.rd (SQ_STAT n) SQ_STAT.PC = s.rd (SQ_STAT n) SQ_STAT.PC + 1 ∧ t.sqState n = 1 ∧
      t.flag (IC_SRC (136 + n)) IC_SRC.PEND = true) ∧
  (∀ (n : Nat) (s : State), s.quiet → n < 8 → s.sqState n = 2 → s.sqAllDone n = true → s.rd (SQ_STAT n) SQ_STAT.PC + 1 < 1024 →
    ∃ t, exec (.instructionComplete n) s = .next t ∧ t.sqState n = 1 ∧ t.rd (SQ_STAT n) SQ_STAT.PC = s.rd (SQ_STAT n) SQ_STAT.PC + 1 ∧
      (t.flag (SQ_STAT n) SQ_STAT.F = true ↔ (s.sq n).op = 8 ∨ ∀ e ∈ (s.sq n).wells, e.2 = 1) ∧ (t.sq n).wells = [] ∧
      State.sameBut [SQ_STAT n] s t) ∧
  (∀ (n : Nat) (s : State), n < 8 → s.sqState n = 2 → (s.sq n).noTimeout = false → (s.sq n).op ≠ 7 → s.sqAllDone n = false →
    s.rd (SQ_STAT n) SQ_STAT.PC + 1 < 1024 → s.yields (.instructionTimeout n) (fun t => t.sqState n = 1 ∧
      t.rd (SQ_STAT n) SQ_STAT.PC = s.rd (SQ_STAT n) SQ_STAT.PC + 1 ∧ (t.sq n).wells = [] ∧
      t.flag (SQ_STAT n) SQ_STAT.F = (if (s.sq n).op = 8 ∧ (s.sq n).cond = 0 then s.flag (SQ_STAT n) SQ_STAT.F else false)))

/-- Well instructions: where another sequencer owns a selected well and no reaction pre-empts it, or one of a higher rank first claims it in
the same beat, none acts: CONFLICT is set and F is 0; a reaction's program aborts the owner's and takes its wells; else every selected well
is owned and takes the opcode's effect, and the program goes on; PRIME, HAND, PARK, WAIT and TEST then wait (R142, R148, R150, R153, R157,
R160-R162, R214, R236). -/
def Obligations.SequencerActs : Prop :=
  (∀ (n op : Nat) (c : Instr) (s : State), s.quiet → (op, c) ∈ [(2, .sqSetv n), (3, .sqProf n), (4, .sqPrime n), (5, .sqHand n),
      (6, .sqHyst n), (7, .sqPark n), (0xA, .sqClgt n), (0xB, .sqTie n), (0xC, .sqPmode n), (0xD, .sqTrk n), (0xE, .sqTest n)] →
    s.issues n op = true → ((s.owners n (s.selected n (s.instrAt n)) ≠ [] ∧ s.rd (SQ_STAT n) SQ_STAT.SRC ≠ 2) ∨
      s.outclaimed n (s.selected n (s.instrAt n)) = true) → s.rd (SQ_STAT n) SQ_STAT.PC + 1 < 1024 → ∃ t, exec c s = .next t ∧ t.flag (SQ_STAT n) SQ_STAT.CONFLICT = true ∧
      t.flag (SQ_STAT n) SQ_STAT.F = false ∧ t.rd (SQ_STAT n) SQ_STAT.PC = s.rd (SQ_STAT n) SQ_STAT.PC + 1 ∧
      State.sameBut [SQ_STAT n] s t ∧ t.wells = s.wells ∧ t.pumps = s.pumps ∧ t.tiles = s.tiles ∧ t.fault = s.fault) ∧
  (∀ (n m u w : Nat) (s : State), 16 * u + w ∈ s.selected n (s.instrAt n) → w < 14 → s.issues n 2 = true →
    s.outclaimed n (s.selected n (s.instrAt n)) = false → s.owners n (s.selected n (s.instrAt n)) = [m] → s.rd (SQ_STAT n) SQ_STAT.SRC = 2 →
    s.rd (SQ_STAT m) SQ_STAT.SRC ≠ 2 → s.rd (SQ_STAT n) SQ_STAT.PC + 1 < 1024 → s.yields (.sqSetv n) (fun t =>
      s.stepped t n u w ∧ t.rd (WL_SETPT u w) WL_SETPT.V_CMD = argOf (s.instrAt n) ∧ t.sqState m = 0 ∧ t.rd (SQ_STAT m) SQ_STAT.ABORT = 3)) ∧
  (∀ (n u w : Nat) (s : State), 16 * u + w ∈ s.selected n (s.instrAt n) → w < 14 → s.owners n (s.selected n (s.instrAt n)) = [] →
    s.outclaimed n (s.selected n (s.instrAt n)) = false →
    s.rd (SQ_STAT n) SQ_STAT.PC + 1 < 1024 →
    (s.issues n 2 = true → s.yields (.sqSetv n) (fun t => s.stepped t n u w ∧ t.rd (WL_SETPT u w) WL_SETPT.V_CMD = argOf (s.instrAt n) ∧
      t.flag (SQ_STAT n) SQ_STAT.F = true)) ∧
    (s.issues n 3 = true → s.yields (.sqProf n) (fun t => s.stepped t n u w ∧ (t.mo u w).prof = argOf (s.instrAt n) ∧
      (s.stage u w = stVolt → argOf (s.instrAt n) < 4 → t.rd (WL_PROF_STAT u w) WL_PROF_STAT.SET = argOf (s.instrAt n)))) ∧
    (s.issues n 6 = true → s.stage u w = stVolt → s.tied u w = false → (s.te u w).kind = 0 →
      s.yields (.sqHyst n) (fun t => s.stepped t n u w ∧ (t.mo u w).hystReq = true)) ∧
    (s.issues n 0xA = true → s.yields (.sqClgt n) (fun t => s.stepped t n u w ∧
      ∀ k ∈ fedClusters w, t.flag (PH_CLPWR u k) PH_CLPWR.C_SEQ = (argOf (s.instrAt n)).testBit 0)) ∧
    (s.issues n 0xB = true → w < 12 → s.yields (.sqTie n) (fun t => s.stepped t n u w ∧ (t.mo u w).tieHold = (argOf (s.instrAt n)).testBit 0)) ∧
    (s.issues n 0xC = true → s.yields (.sqPmode n) (fun t => s.stepped t n u w ∧ (t.mo u w).pmode = argOf (s.instrAt n) ∧
      (s.stage u w = stVolt → ∀ p, p < s.installed u w →
        t.flag (PM_LINK u w p) PM_LINK.PMD = decide (argOf (s.instrAt n) = 1)))) ∧
    (s.issues n 0xD = true → s.rd (WL_TRACK u w) WL_TRACK.TRK_DEV ≠ 0 → s.yields (.sqTrk n) (fun t => s.stepped t n u w ∧
      t.flag (WL_TRACK u w) WL_TRACK.EN = (argOf (s.instrAt n)).testBit 0))) ∧
  (∀ (n u w : Nat) (s : State), 16 * u + w ∈ s.selected n (s.instrAt n) → w < 14 → s.owners n (s.selected n (s.instrAt n)) = [] →
    s.outclaimed n (s.selected n (s.instrAt n)) = false →
    (s.issues n 4 = true → s.stage u w = stDry → s.primable u w = true → s.stopped u = false →
      s.yields (.sqPrime n) (fun t => s.waitsAt t n u w 4 ∧ t.stage u w = stCal ∧ t.flag (AD_WIN u w) AD_WIN.RUN = true)) ∧
    (s.issues n 5 = true → s.handOutcome u w = 0 → s.yields (.sqHand n) (fun t => s.waitsAt t n u w 5 ∧ (t.mo u w).handReq = true)) ∧
    (s.issues n 7 = true → s.wet u w = true → (s.stage u w = stVolt ∨ s.stage u w = stHyst) → s.tied u w = false → (s.te u w).kind = 0 →
      s.yields (.sqPark n) (fun t => s.waitsAt t n u w 7 ∧ t.stage u w = stPark ∧ t.rd (WL_PROF_STAT u w) WL_PROF_STAT.SET = 2)) ∧
    (s.issues n 0xE = true → s.stopped u = true → s.yields (.sqTest n) (fun t => s.waitsAt t n u w 0xE ∧ t.flag (WL_TEST u w) WL_TEST.BLOCKED = true)) ∧
    (s.issues n 0xE = true → s.stopped u = false → (s.te u w).kind = 0 → s.tied u w = false → s.selected n (s.instrAt n) = [16 * u + w] →
      s.testKind u w (argOf (s.instrAt n) % 4) ≠ 0 → s.yields (.sqTest n) (fun t => s.waitsAt t n u w 0xE ∧
        t.rd (WL_TEST u w) WL_TEST.STATE = 2 ∧ (t.te u w).kind = s.testKind u w (argOf (s.instrAt n) % 4) ∧
        (t.te u w).pump = argOf (s.instrAt n) % 4))) ∧
  (∀ (n : Nat) (s : State), s.quiet → s.issues n 8 = true → ∃ t, exec (.sqWait n) s = .next t ∧ t.sqState n = 2 ∧ (t.sq n).op = 8 ∧
    (t.sq n).cond = argOf (s.instrAt n) / 1024 ∧ State.sameBut [SQ_STAT n] s t)

/-! ### The draw schedule -/

/-- Loading and play: a window word stores two entries and is DENIED outside UNBOUND or with SRC = 1 (that one to a tile that does not
answer has no effect is the model's reading, log entry 9); BIND starts the check, BIND_DONE ends it BOUND with the slice's ID or UNBOUND
with its error; UNBIND leaves UNBOUND; START and STOP wait for the beat boundary, where every stream begins at its first entry or stops; a
beat moves a stream that stands in a HOLD or RAMP on by one. At a BRANCH the look-ahead takes the highest ALT collected in the round of the
expected parity, or DEFAULT, none above NALT, and jumps to that alternative; the round is used and the next parity expected (R184, R193,
R201-R203). -/
def Obligations.SlicePlays : Prop :=
  (∀ (u o : Nat) (d : Word) (s : State), s.quiet → s.alone → u < 96 → o < 0x8000 → s.tileOk u = true →
    (s.silent u = true → exec (.scheduleWindowWrite u o d) s = .next s) ∧
    (s.silent u = false → s.dsState u = dsUnbound → s.rd (DS_CTRL u) DS_CTRL.SRC = 0 → ∃ t, exec (.scheduleWindowWrite u o d) s = .next t ∧
      t.entry u (65536 * s.rd (DS_CTRL u) DS_CTRL.PAGE + 2 * o) = d.extractLsb' 32 32 ∧
      t.entry u (65536 * s.rd (DS_CTRL u) DS_CTRL.PAGE + 2 * o + 1) = d.extractLsb' 0 32 ∧ State.sameBut [] s t ∧
      t.port = (s.answered rOkay 0).port) ∧
    (s.silent u = false → (s.dsState u ≠ dsUnbound ∨ s.rd (DS_CTRL u) DS_CTRL.SRC = 1) → exec (.scheduleWindowWrite u o d) s = .next (s.answer (phBase u + 0x8000 + o) rDenied 0).settle)) ∧
  (∀ (u : Nat) (d : Word) (s : State), s.quiet → s.alone → u < 96 → s.takes (DS_CTRL u) d → DS_CTRL.BIND.get d = 1 →
    DS_CTRL.UNBIND.get d = 0 → DS_CTRL.START.get d = 0 → DS_CTRL.STOP.get d = 0 →
    (s.dsState u = dsUnbound → ∃ t, exec (.bind u d) s = .next t ∧ t.dsState u = dsChecking ∧ t.rd (DS_STAT u) DS_STAT.ERR = 0 ∧
      State.sameBut [DS_CTRL u, DS_STAT u] s t ∧ s.onlyRegsPort t) ∧
    (s.dsState u ≠ dsUnbound → ∃ t, exec (.bind u d) s = .next t ∧ t.dsState u = s.dsState u ∧
      t.flag (DS_STAT u) DS_STAT.REFUSED = true ∧ State.sameBut [DS_CTRL u, DS_STAT u] s t ∧ s.onlyRegsPort t)) ∧
  (∀ (u : Nat) (s : State), s.tileOk u = true → s.dsState u = dsChecking → s.bindErr u = none → s.yields (.bindDone u) (fun t =>
    t.dsState u = dsBound ∧ t.rd (DS_STAT u) DS_STAT.ERR = 0 ∧ t.rd (DS_ID u) DS_ID.SCHED_ID = (s.entry u 1).toNat ∧
    (∀ l, l < 14 → streamStart (s.entry u) l ≠ 0 → (t.stream u l).st = 1))) ∧
  (∀ (u code i : Nat) (s : State), s.quiet → s.tileOk u = true → s.dsState u = dsChecking → s.bindErr u = some (code, i) → code < 16 →
    ∃ t, exec (.bindDone u) s = .next t ∧ t.dsState u = dsUnbound ∧ t.rd (DS_STAT u) DS_STAT.ERR = code ∧
      State.sameBut [DS_STAT u] s t ∧ s.onlyRegs t) ∧
  (∀ (u : Nat) (d : Word) (s : State), u < 96 → s.takes (DS_CTRL u) d → DS_CTRL.BIND.get d = 0 → DS_CTRL.UNBIND.get d = 1 →
    DS_CTRL.START.get d = 0 → DS_CTRL.STOP.get d = 0 →
    (s.dsState u = dsBound ∨ s.dsState u = dsStopped → ∀ same, s.yieldsAnswered (.unbind u d same) (DS_CTRL u) (fun t =>
      t.dsState u = dsUnbound ∧ t.reg (DS_ID u) = 0 ∧ (t.ds u).streams = [])) ∧
    (s.dsState u = dsChecking → s.yieldsAnswered (.unbind u d false) (DS_CTRL u) (fun t =>
      t.dsState u = dsUnbound ∧ t.rd (DS_STAT u) DS_STAT.ERR = 0xD ∧ t.rd (DS_STAT u) DS_STAT.ABORT = 1))) ∧
  (∀ (u : Nat) (d : Word) (s : State), s.quiet → s.alone → u < 96 → s.takes (DS_CTRL u) d → DS_CTRL.BIND.get d = 0 →
    DS_CTRL.UNBIND.get d = 0 → DS_CTRL.START.get d = 1 → DS_CTRL.STOP.get d = 0 → (s.dsState u = dsBound ∨ s.dsState u = dsStopped) →
    ∃ t, exec (.dsStart u d) s = .next t ∧ (t.ds u).startPend = true ∧ t.dsState u = s.dsState u ∧
      State.sameBut [DS_CTRL u, DS_STAT u] s t) ∧
  (∀ (u : Nat) (d : Word) (s : State), s.quiet → s.alone → u < 96 → s.takes (DS_CTRL u) d → DS_CTRL.BIND.get d = 0 →
    DS_CTRL.UNBIND.get d = 0 → DS_CTRL.START.get d = 0 → DS_CTRL.STOP.get d = 1 → s.dsState u = dsPlaying →
    ∃ t, exec (.dsStop u d) s = .next t ∧ (t.ds u).stopPend = true ∧ t.dsState u = dsPlaying ∧ State.sameBut [DS_CTRL u] s t) ∧
  (∀ (u : Nat) (s : State), s.quiet → s.tileOk u = true → (s.ds u).startPend = true → (s.dsState u = dsBound ∨ s.dsState u = dsStopped) →
    ∃ t, exec (.playStart u) s = .next t ∧ t.dsState u = dsPlaying ∧ (t.ds u).startPend = false ∧
      (∀ l, l < 14 → streamStart (s.entry u) l ≠ 0 → (t.stream u l).st = 2 ∧ (t.stream u l).p.pc = streamStart (s.entry u) l ∧
        (t.stream u l).a.pc = streamStart (s.entry u) l ∧ (t.stream u l).pb = 0) ∧ State.sameBut [DS_STAT u] s t) ∧
  (∀ (u : Nat) (s : State), s.quiet → s.tileOk u = true → (s.ds u).stopPend = true → s.dsState u = dsPlaying →
    ∃ t, exec (.playStop u) s = .next t ∧ t.dsState u = dsStopped ∧ t.rd (DS_STAT u) DS_STAT.ABORT = 1 ∧ (t.ds u).stopPend = false ∧
      (∀ l, l < 14 → (s.stream u l).live = true → (t.stream u l).st = 5) ∧ State.sameBut [DS_STAT u] s t) ∧
  (∀ (u l : Nat) (s : State), s.tileOk u = true → s.dsState u = dsPlaying → l < 14 → (s.stream u l).st = 2 → 1 ≤ (s.stream u l).p.left →
    (s.stream u l).p.gate = none → (s.stream u l).p.ended = false → s.restBeat u l s.clk.beat = false →
    s.yields (.playerBeat u) (fun t => (t.stream u l).pb = (s.stream u l).pb + 1 ∧ (t.stream u l).p = (s.stream u l).p.beat ∧
      (t.stream u l).st = 2)) ∧
  (∀ (u l f limit id alt : Nat) (e : Entry) (b : BranchX) (s : State), e = s.entry u (s.stream u l).a.pc → ekind e = 0x6 → id = ebits e 27 20 →
    b = s.branch u l id → alt = min (ebits e 17 16) ((if b.expect = 0 then b.r0 else b.r1).getD (ebits e 19 18)) →
    (s.stream u l).a.ended = false → (s.stream u l).aWall ≤ limit → (s.stream u l).a.left = 0 →
    ∃ v : State, State.runA (f + 1) limit u l s = State.runA f limit u l v ∧ (v.stream u l).a.pc = (s.stream u l).a.pc + 1 + alt * ebits e 15 0 ∧
      (v.stream u l).choices = (s.stream u l).choices ++ [alt] ∧ (v.branch u l id).decided = some b.expect ∧ (v.branch u l id).played = alt ∧
      (v.branch u l id).expect = 1 - b.expect ∧ (if b.expect = 0 then (v.branch u l id).r0 else (v.branch u l id).r1) = none ∧
      State.sameBut [] s v)

/-- Notices and gates: a post goes to the end of its core's ring; the collector takes the head of the ring whose turn it is: a malformed
notice is counted, a RUN vote sets the core's bit; a complete round toggles the gate's parity and takes a release beat, at which P of every
stream waiting there resumes; a gate that is waited for too long is marked TMO and waits on, unless its round is complete; FORCE completes
the round, in a STOPPED slice at every scope, and is late where the round was complete. A branch notice raises the ALT of its round, or,
once that round is decided, counts as late and is a LATE_NOTICE breach where it names a higher alternative. A breach enters the log
DS_BREACH with its segment, wells, kind and side, is counted, and raises the fault source with SIDE 0: a HOLD on the logical well that draws
from the well, also one that does not play, with SIDE 1; CURRENT at a boundary where the well's current exceeds its envelope by more than
the tolerance, and nothing where no check fails (R10, R190-R199, R203, R204, R303). A STOPPED slice's own release beat, and where LATE is
held, are the model's choice (log entry 43). -/
def Obligations.GatesRelease : Prop :=
  (∀ (u k n : Nat) (m : Word) (s : State), s.quiet → s.clusterOk u k = true → n < 128 → (s.ring u (128 * k + n)).length < 4 →
    ∃ t, exec (.noticePost u k n m) s = .next t ∧ t.ring u (128 * k + n) = s.ring u (128 * k + n) ++ [m.setWidth 32] ∧
      State.sameBut [DS_NOTICE_STAT u] s t) ∧
  (∀ (u k n c : Nat) (m : BitVec 32) (r : List (BitVec 32)) (s : State), s.clusterOk u k = true → n < 128 → c = 128 * k + n →
    s.rd (PH_PWR u) PH_PWR.STATE = 0 → s.nextRing u = some (c, m :: r) → s.yields (.noticeCollect u k n) (fun t =>
      t.ring u c = r ∧ (t.ds u).turn = c + 1 ∧
      (ebits m 31 30 = 3 → s.rd (DS_NOTICE_LATE u) DS_NOTICE_LATE.MALFORMED < 0xFFFF →
        t.rd (DS_NOTICE_LATE u) DS_NOTICE_LATE.MALFORMED = s.rd (DS_NOTICE_LATE u) DS_NOTICE_LATE.MALFORMED + 1) ∧
      (ebits m 31 30 = 0 → voteBad m = false → ebits m 29 28 = 0 → ebits m 27 27 = 1 →
        (t.cluster u k).run = (s.cluster u k).run ||| (1 <<< n)))) ∧
  (∀ (u k n c l lk id par : Nat) (m : BitVec 32) (r : List (BitVec 32)) (s : State), s.clusterOk u k = true → n < 128 → c = 128 * k + n →
    s.rd (PH_PWR u) PH_PWR.STATE = 0 → s.nextRing u = some (c, m :: r) → ebits m 31 30 = 1 → ebits m 20 18 = 0 → ebits m 15 0 = 0 →
    id = ebits m 29 22 → par = ebits m 21 21 → s.logicalAt u k = some lk →
    (logicalWells lk).filter (fun v => (s.ds u).branchHolders.contains (256 * v + id)) = [l] →
    ((s.branch u l id).decided ≠ some par → s.yields (.noticeCollect u k n) (fun t =>
      (if par = 0 then (t.branch u l id).r0 else (t.branch u l id).r1) =
        some (max (ebits m 17 16) ((if par = 0 then (s.branch u l id).r0 else (s.branch u l id).r1).getD 0)))) ∧
    ((s.branch u l id).decided = some par → s.rd (DS_NOTICE_LATE u) ctrCount + 1 < 0xFFFFFFFF → (s.ds u).logged = [] →
      s.yields (.noticeCollect u k n) (fun t => t.rd (DS_NOTICE_LATE u) ctrCount = s.rd (DS_NOTICE_LATE u) ctrCount + 1 ∧
        (s.branch u l id).played = (t.branch u l id).played ∧
        ((s.branch u l id).played < min (ebits m 17 16) (s.branch u l id).nalt →
          t.rd (DS_BREACH u (s.rd (DS_BREACH_STAT u) DS_BREACH_STAT.NEXT)) DS_BREACH.KIND = 5 ∧
          { src := 14, tile := u, well := 0xF, sub := 5 } ∈ t.fault.inflight)))) ∧
  (∀ (u w l seg b : Nat) (dev : Int) (s : State), s.compares u w = true → w < 14 → dev < -(8 * s.rd (WL_WIN u w) WL_WIN.HOLD_TH : Nat) →
    s.flag (WL_HOLD u w) WL_HOLD.HOLD = false → (s.lp u w).relAt = none → s.rd (WL_HOLD u w) WL_HOLD.HOLDS + 1 < 0xFFFFFFFF →
    s.logicalsOn u w = [l] → (s.sh u w).logged = [] → s.rd (DS_BREACH_STAT u) ctrCount + 1 < 0xFFFFFFFF →
    seg = (if (s.stream u l).live then (s.stream u l).p.seg else 0) → b = s.rd (DS_BREACH_STAT u) DS_BREACH_STAT.NEXT →
    s.yields (.holdAssert u w dev) (fun t => t.rd (DS_BREACH u b) DS_BREACH.SEG = seg % 2 ^ 18 ∧ t.rd (DS_BREACH u b) DS_BREACH.LOGICAL = l ∧
      t.rd (DS_BREACH u b) DS_BREACH.PHYS = w ∧ t.rd (DS_BREACH u b) DS_BREACH.KIND = 3 ∧ t.rd (DS_BREACH u b) DS_BREACH.SHARED = 0 ∧
      t.flag (DS_BREACH u b) DS_BREACH.SIDE = (!(s.stream u l).live || s.sideValper u w 3) ∧
      t.rd (DS_BREACH u b) DS_BREACH.PBEAT = (if (s.stream u l).live then (s.stream u l).pb % 2 ^ 32 else 0) ∧
      t.rd (DS_BREACH_STAT u) DS_BREACH_STAT.NEXT = (b + 1) % 16 ∧ t.rd (DS_BREACH_STAT u) ctrCount = s.rd (DS_BREACH_STAT u) ctrCount + 1 ∧
      ((s.stream u l).live = true → s.sideValper u w 3 = false → { src := 14, tile := u, well := w, sub := 3 } ∈ t.fault.inflight ∧
        (t.sh u w).guard = [l]))) ∧
  (∀ (u w l : Nat) (edges : List (List Nat)) (s : State), w < 14 → s.dsState u = dsPlaying → s.logicalsOn u w = [l] → (s.stream u l).live = true →
    (48 * (8 * s.rd (DS_CFG u) DS_CFG.I_TOL : Nat) + (8 * s.envelope u w envImax : Nat) < 48 * s.iW u w → (s.sh u w).logged = [] →
      (s.envelopeCheck u w edges).rd (DS_BREACH u (s.rd (DS_BREACH_STAT u) DS_BREACH_STAT.NEXT)) DS_BREACH.KIND = 1 ∧
      (s.envelopeCheck u w edges).rd (DS_BREACH u (s.rd (DS_BREACH_STAT u) DS_BREACH_STAT.NEXT)) DS_BREACH.PHYS = w) ∧
    ((48 * s.iW u w : Int) ≤ 48 * (8 * s.rd (DS_CFG u) DS_CFG.I_TOL : Nat) + (8 * s.envelope u w envImax : Nat) → s.quietWindow u w = false →
      s.didtBreak u w (steps2 ((s.sh u w).lastPair.elim (s.pairCurrents u w edges) (fun x => x :: s.pairCurrents u w edges))) = false →
      State.sameBut [] s (s.envelopeCheck u w edges))) ∧
  (∀ (u k n : Nat) (s : State), s.quiet → (s.rd (PH_PWR u) PH_PWR.STATE ≠ 0 ∨
      (s.nextRing u).map (·.1) ≠ some (128 * k + n)) → exec (.noticeCollect u k n) s = .next s) ∧
  (∀ (u id : Nat) (e : Entry) (s : State), s.gateEntry u id = some e → s.holdsGate u id = true → waferScope e = false →
    s.roundFull u id = true →
    ((s.gate u id).forced = true → ebits e 13 0 ≤ (s.gate u id).count → s.yields (.gateComplete u id) (fun t => (t.gate u id).late = true)) ∧
    s.yields (.gateComplete u id) (fun t => (t.gate u id).par = 1 - (s.gate u id).par ∧
      (t.gate u id).donePar = some (s.gate u id).par ∧
      (t.gate u id).rel = (s.gate u id).rel ++ [s.clk.beat + ebits e 18 15] ∧ (t.gate u id).forced = false)) ∧
  (∀ (u id : Nat) (e : Entry) (s : State), s.gateEntry u id = some e → s.forceable u id = true → s.dsState u = dsStopped →
    (s.gate u id).forced = true → s.yields (.gateComplete u id) (fun t => (t.gate u id).par = 1 - (s.gate u id).par ∧
      (t.gate u id).rel = (s.gate u id).rel ++ [s.clk.beat + gapEff e])) ∧
  (∀ (u id : Nat) (e : Entry) (s : State), s.quiet → s.gateEntry u id = some e → s.holdsGate u id = true → waferScope e = true →
    s.roundFull u id = true → (s.gate u id).reported = false → s.plan.orders = [] →
    ∃ t, exec (.waferGateReport u id) s = .next t ∧ (t.gate u id).reported = true ∧ State.sameBut [] s t) ∧
  (∀ (u id : Nat) (s : State), u ∈ s.gateTiles id → (∀ v ∈ s.gateTiles id, (s.gate v id).reported = true) → s.gateSync id = false →
    s.yields (.waferGateComplete id) (fun t => (t.gate u id).par = 1 - (s.gate u id).par ∧ (t.gate u id).reported = false ∧
      (t.gate u id).rel = (s.gate u id).rel ++ [s.clk.beat + max (s.waferGap id) 4])) ∧
  (∀ (u id br : Nat) (s : State), s.quiet → s.dsState u = dsPlaying → (s.gate u id).rel[(s.gate u id).released]? = some br →
    br ≤ s.clk.beat → s.orderHolds u id = false → (∀ l, l < 14 → s.restBeat u l s.clk.beat = false) →
    ∃ t, exec (.gateRelease u id) s = .next t ∧ (t.gate u id).released = (s.gate u id).released + 1 ∧
      (∀ l, l < 14 → (s.stream u l).st = 3 → (s.stream u l).p.gate = some id → (s.stream u l).p.passedOf id = (s.gate u id).released →
        (t.stream u l).st = 2 ∧ (t.stream u l).p.gate = none ∧ (t.stream u l).p.pc = (s.stream u l).p.pc + 1) ∧
      State.sameBut [] s t) ∧
  (∀ (u w id : Nat) (s : State), s.quiet → (s.stream u w).p.gate = some id → s.completes u id (s.stream u w) = true →
    exec (.gateTimeout u w) s = .next s) ∧
  (∀ (u w id : Nat) (s : State), s.quiet → s.tileOk u = true → (s.stream u w).st = 3 → (s.stream u w).p.gate = some id →
    s.completes u id (s.stream u w) = false → ∃ t, exec (.gateTimeout u w) s = .next t ∧ (t.gate u id).tmo = true ∧ t.stream u w = s.stream u w ∧
      { src := 15, tile := u, well := w, sub := id } ∈ t.fault.held ∧ State.sameBut [] s t) ∧
  (∀ (u : Nat) (d : Word) (s : State), u < 96 → s.takes (DS_GATE_CTRL u) d → DS_GATE_CTRL.FORCE.get d = 1 →
    s.forceable u (DS_GATE_CTRL.SEL.get d) = true → s.yieldsAnswered (.force u d) (DS_GATE_CTRL u) (fun t =>
      t.rd (DS_GATE_CTRL u) DS_GATE_CTRL.SEL = DS_GATE_CTRL.SEL.get d ∧ (t.gate u (DS_GATE_CTRL.SEL.get d)).forced = true))

/-! ### Ties, checks and in-field tests -/

/-- Tie switches: the acknowledge sets the switch's ACK bit as it rises and clears it as it falls; without it by the next boundary the
switch opens with TIE_FAULT on both wells and the tie source raised, as when it still reads closed 500 ns after it was opened; an
over-current does the same while it unloads; an unloading switch opens at two boundaries of small current, or at its sixteenth outer period
(R209, R211, R213, R214). -/
def Obligations.TiesOpen : Prop :=
  (∀ (u n : Nat) (s : State), s.quiet → s.tileOk u = true → n < 12 →
    (∃ t, exec (.tieAck u ⟨n, false⟩) s = .next t ∧ (t.rd (PH_TIE u) PH_TIE.ACK).testBit n = false ∧
      t.rd (PH_TIE u) PH_TIE.ON = s.rd (PH_TIE u) PH_TIE.ON ∧ (∀ e ∈ (t.tile u).tieOff, e.1 ≠ n) ∧ State.sameBut [PH_TIE u] s t) ∧
    ∃ t, exec (.tieAck u ⟨n, true⟩) s = .next t ∧ (t.rd (PH_TIE u) PH_TIE.ACK).testBit n = true ∧ t.rd (PH_TIE u) PH_TIE.ON = s.rd (PH_TIE u) PH_TIE.ON ∧
      State.sameBut [PH_TIE u] s t ∧ s.onlyRegs t) ∧
  (∀ (u n : Nat) (s : State), s.tileOk u = true → n < 12 → s.tieOn u n = true → (s.rd (PH_TIE u) PH_TIE.ACK).testBit n = false →
    ((s.sh u (s.leadOf u n)).newTie = some n ∨
      ((s.sh u (s.leadOf u n)).tie = some n ∧ s.rd (WL_TIE u (s.leadOf u n)) WL_TIE.PHASE = 1)) →
    (s.sh u (s.leadOf u n)).tieAt + 1 ≤ (s.sh u (s.leadOf u n)).outerN → s.yields (.tieAckTimeout u n) (fun t =>
      t.tieOn u n = false ∧ t.flag (WL_TIE u (tieWells n).1) WL_TIE.TIE_FAULT = true ∧
      t.flag (WL_TIE u (tieWells n).2) WL_TIE.TIE_FAULT = true ∧ { src := 17, tile := u, sub := n } ∈ t.fault.inflight)) ∧
  (∀ (u n : Nat) (s : State), s.tileOk u = true → n < 12 → s.tieOn u n = false → s.opensLate u n = true → s.yields (.tieAckTimeout u n) (fun t =>
      t.flag (WL_TIE u (tieWells n).1) WL_TIE.TIE_FAULT = true ∧ t.flag (WL_TIE u (tieWells n).2) WL_TIE.TIE_FAULT = true ∧
      { src := 17, tile := u, sub := n } ∈ t.fault.inflight ∧ State.sameBut [WL_TIE u (tieWells n).1, WL_TIE u (tieWells n).2] s t)) ∧
  (∀ (u n : Nat) (s : State), s.tileOk u = true → n < 12 → (s.rd (PH_CIST u (n / 4)) PH_CIST.TIES).testBit (n % 4) = true →
    (8 ≤ (s.sh u (tieWells n).1).overRun ∨ 8 ≤ (s.sh u (tieWells n).2).overRun) → s.yields (.tieOvercurrent u n) (fun t =>
      t.flag (WL_TIE u (tieWells n).1) WL_TIE.TIE_FAULT = true ∧ t.flag (WL_TIE u (tieWells n).2) WL_TIE.TIE_FAULT = true ∧
      { src := 17, tile := u, sub := n } ∈ t.fault.inflight ∧ (t.sh u (tieWells n).1).overRun = 0)) ∧
  (∀ (u n : Nat) (s : State), s.tieUnloads u n = true → (2 ≤ (s.sh u (tieWells n).1).lowRun ∨ 2 ≤ (s.sh u (tieWells n).2).lowRun) →
    s.yields (.tieOpen u n) (fun t => t.tieOn u n = false ∧ (t.rd (PH_CIST u (n / 4)) PH_CIST.TIES).testBit (n % 4) = false ∧
      ((s.sh u (tieWells n).1).tie = some n → (s.sh u (tieWells n).1).newTie = none → t.tied u (tieWells n).1 = false))) ∧
  (∀ (u n : Nat) (s : State), s.tieUnloads u n = true → (16 ≤ (s.sh u (tieWells n).1).unloadN ∨ 16 ≤ (s.sh u (tieWells n).2).unloadN) →
    s.yields (.tieForcedOpen u n) (fun t => t.tieOn u n = false ∧ (t.sh u (s.leadOf u n)).forced = true))

/-- Checks on pumps and connections: a pump that counted as open twice is RETIRED with REASON 1; one whose sense is distrusted follows, with
REASON 4; a crack is suspected after 64 boundaries, an open sense after two. In-field tests: a test becomes due by its age or by REQ; a step starts
on the next pump in a quiet window or in shadow, with the pump's PEN low; its end passes the pump or retires it; a test that waited too long is
overdue; a retired pump is returned only in the 1 us after its slot was armed (R222-R237). -/
def Obligations.TestsRun : Prop :=
  ((∀ (u w p : Nat) (s : State), s.pumpOk u w p = true → 2 ≤ (s.pump u w p).openRun → s.service u w p = 1 →
    s.yields (.pumpOpenRetire u w p) (fun t => t.service u w p = 3 ∧ t.rd (PM_SVC u w p) PM_SVC.REASON = 1 ∧
      t.flag (PM_LINK u w p) PM_LINK.PEN = false)) ∧
  (∀ (u w p : Nat) (s : State), s.pumpOk u w p = true → s.service u w p = 1 → s.senseFailed u w p = true →
    ((∀ r, r < s.installed u w → s.service u w r ≠ 2) → (s.pump u w p).inTest = false → s.yields (.senseFollow u w p) (fun t =>
      t.service u w p = 2 ∧ t.rd (PM_SVC u w p) PM_SVC.REASON = 4 ∧ t.trim u w p = 0)) ∧
    (∀ r, r < s.installed u w → s.service u w r = 2 → s.yields (.senseFollow u w p) (fun t =>
      t.service u w p = 3 ∧ t.service u w r = 3 ∧ t.rd (PM_SVC u w p) PM_SVC.REASON = 7))) ∧
  (∀ (u w : Nat) (s : State), s.quiet → s.voltedOk u w = true → 64 ≤ (s.sh u w).crackRun → s.flag (WL_CHK u w) WL_CHK.CRACK = false →
    ∃ t, exec (.crackSuspect u w) s = .next t ∧ t.flag (WL_CHK u w) WL_CHK.CRACK = true ∧ (t.sh u w).regCap = true ∧
      t.capEvents = s.capEvents ++ [16 * u + w] ∧ State.sameBut [WL_CHK u w] s t) ∧
  (∀ (u w : Nat) (s : State), s.quiet → s.voltedOk u w = true → 2 ≤ (s.sh u w).senseRun → s.flag (WL_CHK u w) WL_CHK.SENSE_OPEN = false →
    ∃ t, exec (.senseOpen u w) s = .next t ∧ t.flag (WL_CHK u w) WL_CHK.SENSE_OPEN = true ∧ t.flag (WL_CHK u w) WL_CHK.DROP_OK = false ∧
      { src := 20, tile := u, well := w } ∈ t.fault.held ∧ (s.emptied u w = false → 8 ≤ (t.sh u w).pr.want) ∧ State.sameBut [WL_CHK u w, WL_TIE u w] s t)) ∧
  (∀ (u w : Nat) (s : State), s.quiet → s.voltedOk u w = true → (s.te u w).dueAt = none → ∃ t, exec (.testDue u w) s = .next t ∧
    (t.te u w).dueAt = some s.ao ∧ t.rd (WL_TEST u w) WL_TEST.PASS = 0 ∧
    ((s.te u w).kind = 0 → t.rd (WL_TEST u w) WL_TEST.STATE = 1) ∧ State.sameBut [WL_TEST u w] s t) ∧
  (∀ (u w : Nat) (d : Word) (s : State), s.quiet → s.alone → u < 96 → w < 14 → s.takes (WL_TEST u w) d → WL_TEST.REQ.get d = 1 →
    ∃ t, exec (.testReq u w d) s = .next t ∧ (t.te u w).dueAt = some s.ao ∧
      ((s.te u w).kind = 0 → t.rd (WL_TEST u w) WL_TEST.STATE = 1) ∧ State.sameBut [WL_TEST u w] s t ∧ t.port = (s.answered rOkay 0).port) ∧
  (∀ (u w : Nat) (s : State), s.quiet → s.voltedOk u w = true → (s.te u w).dueAt.isSome = true →
    ∃ t, exec (.testDeferExpiry u w) s = .next t ∧ (t.te u w).shadowOk = true ∧ State.sameBut [] s t) ∧
  (∀ (u w p : Nat) (s : State), s.voltedOk u w = true → s.nextTest u w = some p → s.scheduled u w = true → s.quietOk u w = true →
    s.yields (.quietTestStart u w) (fun t => t.rd (WL_TEST u w) WL_TEST.STATE = 2 ∧ t.rd (WL_TEST u w) WL_TEST.VARIANT = 1 ∧
      (t.te u w).kind = 1 ∧ (t.te u w).pump = p ∧ t.flag (PM_LINK u w p) PM_LINK.PEN = false ∧ (t.pump u w p).measuring = true ∧
      (s.stage u w = stVolt → (t.mo u w).hystReq = true) ∧ (s.stage u w ≠ stVolt → (t.mo u w).hystReq = (s.mo u w).hystReq))) ∧
  (∀ (u w p : Nat) (s : State), s.voltedOk u w = true → s.nextTest u w = some p → s.scheduled u w = true →
    ((s.te u w).shadowOk = true ∨ (s.pump u w p).returned = true) → s.shadowFit u w p = true →
    s.yields (.shadowTestStart u w) (fun t => t.rd (WL_TEST u w) WL_TEST.STATE = 2 ∧ t.rd (WL_TEST u w) WL_TEST.VARIANT = 2 ∧
      (t.te u w).kind = 2 ∧ (t.te u w).pump = p ∧ t.flag (PM_LINK u w p) PM_LINK.PEN = false ∧ (t.pump u w p).measuring = true)) ∧
  (∀ (u w p : Nat) (s : State), s.voltedOk u w = true → (s.te u w).kind ≠ 0 → (s.te u w).offsetOk.isSome = true →
    (((s.te u w).kind = 1 ∧ s.alonePeriods u < (s.te u w).steps) ∨ ((s.te u w).kind = 2 ∧ 17 ≤ (s.te u w).steps)) → (s.te u w).pump = p → p < 4 → (s.te u w).queued = none → s.service u w p ≠ 3 →
    s.yields (.testStepEnd u w) (fun t => (t.te u w).kind = 0 ∧ (t.pump u w p).inTest = false ∧
      (t.rd (WL_TEST u w) WL_TEST.PASS).testBit p = s.testPass u w ∧ (t.rd (WL_TEST u w) WL_TEST.FAIL).testBit p = !s.testPass u w ∧
      (s.testPass u w = true → t.service u w p = (if (s.pump u w p).follower && !(s.pump u w p).returned then 2 else 1) ∧ t.flag (PM_LINK u w p) PM_LINK.PEN = true) ∧
      (s.testPass u w = false → t.service u w p = 3 ∧ t.rd (PM_SVC u w p) PM_SVC.REASON = 8))) ∧
  (∀ (u w : Nat) (s : State), s.quiet → s.voltedOk u w = true → (s.te u w).dueAt.isSome = true → (s.te u w).shadowOk = true →
    (s.te u w).overdue = false → ∃ t, exec (.testOverdue u w) s = .next t ∧ (t.te u w).overdue = true ∧
      (∃ r, t.fault.inflight = s.fault.inflight ++ [r] ∧ r.src = 22 ∧ r.tile = u ∧ r.well = w) ∧
      ((s.te u w).kind = 0 → t.rd (WL_TEST u w) WL_TEST.STATE = 3) ∧ State.sameBut [WL_TEST u w] s t) ∧
  (∀ (u : Nat) (d : Word) (s : State), s.quiet → s.alone → u < 96 → s.takes (PH_RET_ARM u) d → ∃ t, exec (.retArm u d) s = .next t ∧
    t.rd (PH_RET_ARM u) PH_RET_ARM.SLOT = PH_RET_ARM.SLOT.get d ∧
    t.flag (PH_RET_ARM u) PH_RET_ARM.ARMED = decide (PH_RET_ARM.CODE.get d = 0xA5) ∧
    (t.tile u).armAt = (if PH_RET_ARM.CODE.get d = 0xA5 then some s.clk.ns else none) ∧ State.sameBut [PH_RET_ARM u] s t) ∧
  (∀ (u w p a : Nat) (d : Word) (s : State), u < 96 → w < 15 → p < 4 → s.takes (PM_SVC u w p) d → PM_SVC.RETURN.get d = 1 →
    s.service u w p = 3 → s.flag (PH_RET_ARM u) PH_RET_ARM.ARMED = true → s.rd (PH_RET_ARM u) PH_RET_ARM.SLOT = 4 * w + p →
    (s.tile u).armAt = some a →
    (s.clk.ns ≤ a + 1000 → s.yieldsAnswered (.returnPump u w p d) (PM_SVC u w p) (fun t => t.service u w p = 0 ∧
      (t.pump u w p).returned = true ∧ t.flag (PH_RET_ARM u) PH_RET_ARM.ARMED = false)) ∧
    (a + 1000 < s.clk.ns → s.yieldsAnswered (.returnPump u w p d) (PM_SVC u w p) (fun t => t.service u w p = 3))) ∧
  (∀ (u : Nat) (s : State), s.quiet → (s.tile u).armAt.isSome = true → ∃ t, exec (.retArmExpiry u) s = .next t ∧
    t.flag (PH_RET_ARM u) PH_RET_ARM.ARMED = false ∧ (t.tile u).armAt = none ∧ State.sameBut [PH_RET_ARM u] s t)

/-! ### Converters -/

/-- Converters: CAL stores a DRY well's offset; CAL_NOW calls for a calibration on every powered converter; a conversion of a fixed channel
is trimmed and stored, and its slot moves on; sequences and bursts wait their turn, run and give their results; a changed accumulator starts
anew; LP_INHIBIT ends low-power mode (R241, R243, R245, R249-R252). -/
def Obligations.ConvertersRun : Prop :=
  (∀ (u w : Nat) (d : Word) (sum : Int) (s : State), s.quiet → s.alone → u < 96 → s.takes (AD_WIN u w) d → AD_WIN.CAL.get d = 1 →
    s.wellOk u w = true → s.stage u w = stDry → ∃ t, exec (.adWinCal u w d sum) s = .next t ∧
      t.rdi (AD_WIN u w) AD_WIN.OFFSET = clampI (-127) 127 (roundDiv sum 8) ∧ State.sameBut [AD_WIN u w] s t ∧ s.onlyRegsPort t ∧
      t.port = (s.answered rOkay 0).port) ∧
  (∀ (u : Nat) (d : Word) (s : State), s.quiet → s.alone → u < 96 → s.takes (AD_CTRL u) d → AD_CTRL.CAL_NOW.get d = 1 →
    AD_CTRL.LP_INHIBIT.get d = 0 → ∃ t, exec (.calNow u d) s = .next t ∧
      (∀ n, n < 4 → (s.lpMode u = false ∨ n = 2) → (t.conv u n).cal = 1) ∧ State.sameBut [AD_CTRL u] s t ∧
      t.port = (s.answered rOkay 0).port) ∧
  (∀ (u n raw ch : Nat) (s : State), s.quiet → s.tileOk u = true → n < 3 → (s.rd (AD_STAT u) AD_STAT.CONV_ON).testBit n = true →
    (s.conv u n).cal = 0 → (s.regular u n)[(s.conv u n).pos]? = some ch → ch < 0x30 →
    ∃ t, exec (.sarConversion u n raw) s = .next t ∧ t.rd (AD_RES u ch) AD_RES.LAST = s.trimmed u n raw ∧
      (t.conv u n).pos = (if (s.conv u n).pos + 1 < (s.regular u n).length then (s.conv u n).pos + 1 else 0) ∧
      (ch = chBus → t.rd (PH_BUS u) PH_BUS.BUS = 2 * s.trimmed u n raw) ∧ State.sameBut [AD_RES u ch, PH_BUS u] s t) ∧
  (∀ (u n src w : Nat) (s : State), s.quiet → s.tileOk u = true → n < 2 → 2 ≤ src → src ≤ 6 → s.rd (AD_INJ u n) AD_INJ.TRIG = src →
    (src = 2 ∨ s.rd (AD_INJ u n) AD_INJ.SEL = w) → s.flag (AD_INJ u n) AD_INJ.ILV = false → s.flag (AD_INJ u n) AD_INJ.URGENT = false →
    (s.sar u).inj = none → (s.sar u).injPend = [] → s.injected u n ≠ [] → s.lpMode u = false → s.regular u 3 ≠ [] →
    ∃ t, exec (.injectTrigger u n src w) s = .next t ∧ (t.sar u).injPend = [(n, 0)] ∧ State.sameBut [] s t) ∧
  (∀ (u n : Nat) (d : Word) (s : State), s.quiet → s.alone → u < 96 → n < 2 → s.takes (AD_INJ u n) d → AD_INJ.GO.get d = 1 →
    AD_INJ.TRIG.get d = 1 → AD_INJ.ILV.get d = 1 → s.lpMode u = false → (s.sar u).burstPend = [] → (s.sar u).burst = none →
    (s.sar u).burstAt = none → ∃ t, exec (.adGo u n d) s = .next t ∧ (t.sar u).burstPend = [n] ∧ State.sameBut [AD_INJ u n] s t ∧
      t.port = (s.answered rOkay 0).port) ∧
  (∀ (u n : Nat) (rest : List Nat) (s : State), s.quiet → (s.sar u).burstPend = n :: rest → (s.sar u).burst = none → s.lpMode u = false →
    ∃ t, exec (.burstStart u) s = .next t ∧ (t.sar u).burst = some n ∧ (t.sar u).burstPend = rest ∧
      t.flag (AD_STAT u) AD_STAT.BURST_RUN = true ∧ (∀ k, k < 12 → t.reg (AD_BURST u k) = 0) ∧
      State.sameBut (AD_STAT u :: AD_BURST_T u :: (List.range 12).map (AD_BURST u)) s t) ∧
  (∀ (u n : Nat) (results : List Nat) (s : State), s.quiet → (s.sar u).burst = some n →
    ∃ t, exec (.burstDone u results) s = .next t ∧ (t.sar u).burst = none ∧ t.flag (AD_STAT u) AD_STAT.BURST_DONE = true ∧
      t.flag (AD_STAT u) AD_STAT.BURST_RUN = false ∧
      (∀ j, j < 2 * s.burstLen u n → t.rd (AD_BURST u (j / 4)) (injField (j % 4)) = s.trimmed u (2 + j % 2) (results.getD j 0)) ∧
      State.sameBut (AD_STAT u :: (List.range 12).map (AD_BURST u)) s t) ∧
  (∀ (u ch : Nat) (d : Word) (s : State), s.quiet → s.alone → u < 96 → ch < 128 → s.takes (AD_RES u ch) d →
    AD_RES.AVG_K.get d ≠ s.rd (AD_RES u ch) AD_RES.AVG_K → ∃ t, exec (.adResConfigWrite u ch d) s = .next t ∧
      t.rd (AD_RES u ch) AD_RES.AVG_K = AD_RES.AVG_K.get d ∧ t.rd (AD_RES u ch) AD_RES.SHIFT = AD_RES.SHIFT.get d ∧
      t.rd (AD_RES u ch) AD_RES.COUNT = 0 ∧ t.accOf u ch = 0 ∧ State.sameBut [AD_RES u ch] s t) ∧
  (∀ (u : Nat) (d : Word) (s : State), s.quiet → s.alone → u < 96 → s.takes (AD_CTRL u) d → AD_CTRL.LP_INHIBIT.get d = 1 →
    AD_CTRL.CAL_NOW.get d = 0 → s.lpMode u = true → ∃ t, exec (.lpInhibitWrite u d) s = .next t ∧ t.lpMode u = false ∧
      t.rd (AD_STAT u) AD_STAT.CONV_ON = 15 ∧ t.flag (AD_CTRL u) AD_CTRL.LP_INHIBIT = true ∧
      State.sameBut [AD_CTRL u, AD_STAT u] s t ∧ t.port = (s.answered rOkay 0).port)

/-! ### Telemetry and heat -/

/-- Windows: the close stores each well's figures and starts its sums afresh, and the tile's report is formed; the aggregator takes it; the
snapshot, which SLEEP leaves out, shows the tiles that reported, pends the telemetry and governor events, and carries out the cap decision:
CAP_EFF is the least of limit, host cap and valid share, and a stale share only lowers it; S counts the clusters whose gate the governor
does not hold; K follows the measured draw, or keeps its value; R_NEED is the least duty that meets the target, falling one step per window
under the rule of R282; a cap out of reach at duty 15 sets FLOOR, CAP_UNREACHABLE and STOP_OFFER, holds source 26 and asks for IBI class 2;
a tile above its input cap rests; a wafer in no job agrees with itself (R253, R254, R256, R278-R286, R288). Planning: the clusters to move
of a well that is EVACUATE, in deficit or suspect; each gets the spare of its own cistern, else of the largest room, or none; RELOC_MAX per
gate; none under HOLD (R293-R295, R298). S_t of R286 is log entry 41's; the room counts the core well (log entry 54). -/
def Obligations.WindowsReported : Prop :=
  (∀ (u w : Nat) (s : State), s.tileOk u = true → s.wellOk u w = true → s.yields (.telemetryWindowClose u) (fun t =>
    t.rd (WL_TELE0 u w) WL_TELE0.WIN = (s.clk.beat / 4096 - 1) % 65536 ∧
    (∀ x : Int, x = roundDiv (s.well u w).tel.sumI (s.well u w).tel.n → -32768 ≤ x → x < 32768 →
      t.rdi (WL_TELE0 u w) WL_TELE0.I_MEAN = x) ∧ (t.well u w).tel.n = 0 ∧ (t.well u w).tel.sumI = 0 ∧
    (∃ r, (t.tile u).tt.report = some r ∧ r.win = s.clk.beat / 4096 - 1) ∧
    (t.en u).dueA = ((s.en u).dueA || !s.failed u 0))) ∧
  (∀ (u : Nat) (r : TeleReport) (s : State), s.quiet → s.tileOk u = true → (s.tile u).tt.report = some r →
    ∃ t, exec (.tileTelemetryReport u) s = .next t ∧ (t.tile u).tt.taken = some r ∧ (t.tile u).tt.report = none ∧
      State.sameBut [] s t) ∧
  (∀ (u : Nat) (r : TeleReport) (s : State), u < s.tileCount → (s.tile u).tt.taken = some r → r.win = s.clk.beat / 4096 - 1 →
    s.clk.fast ≠ .sleep → r.pIn < 2 ^ 24 → r.pOut < 2 ^ 24 → s.yields .telemetrySnapshot (fun t =>
      t.reg HD_TELE_WIN = BitVec.ofNat 64 (s.clk.beat / 4096 - 1) ∧ t.rd (HD_TILE_TELE u) HD_TILE_TELE.P_IN = r.pIn ∧
      t.rd (HD_TILE_TELE u) HD_TILE_TELE.P_OUT = r.pOut ∧ t.flag (HD_TILE_TELE u) HD_TILE_TELE.MISSING = false ∧
      t.flag (IC_SRC 146) IC_SRC.PEND = true ∧ t.flag (IC_SRC 147) IC_SRC.PEND = true)) ∧
  (∀ s : State, s.quiet → s.clk.fast = .sleep → exec .telemetrySnapshot s = .next s) ∧
  (∀ s m : State, s.clk.fast ≠ .sleep →
    m = ((s.restart.each s.restart.allTiles (fun u n => u.tileSnapshot n s.closedWin)).waferSums s.closedWin).safeLimit →
    s.yields .telemetrySnapshot (fun t => (∀ a ∈ [CG_STAT, CG_EST, CG_CAL], t.reg a = (m.capDecision s.closedWin).reg a) ∧
      ∀ u, u < 96 → t.reg (CG_TILE u) = (m.capDecision s.closedWin).reg (CG_TILE u))) ∧
  (∀ (s : State) (lim host share : Nat), lim = s.rd CG_CAP CG_CAP.WAFER_LIM → host = s.rd CG_CAP CG_CAP.CAP_HOST →
    share = s.rd CG_SHARE CG_SHARE.SHARE →
    (s.flag CG_SHARE CG_SHARE.VALID = false → s.capEff = (if host = 0 then lim else min lim host)) ∧
    (s.flag CG_SHARE CG_SHARE.VALID = true → s.rd CG_SHARE CG_SHARE.AGE < s.rd CG_CFG1 CG_CFG1.SHARE_TMO →
      s.capEff = min (if host = 0 then lim else min lim host) share) ∧
    (s.flag CG_SHARE CG_SHARE.VALID = true → s.rd CG_CFG1 CG_CFG1.SHARE_TMO ≤ s.rd CG_SHARE CG_SHARE.AGE →
      s.capEff = min (min (if host = 0 then lim else min lim host) share) (s.rd CG_STAT CG_STAT.CAP_EFF))) ∧
  (∀ (s t : State) (win cap rj rt : Nat) (dFull dAct : Int), t = s.capDecision win → cap = s.ageShare.capEff → rj = s.rd CG_STAT CG_STAT.R_JOB →
    dFull = s.dynamic s.allTiles win true → dAct = s.dynamic s.allTiles win false →
    rt = (if s.flag CG_STAT CG_STAT.SOLO then t.rd CG_STAT CG_STAT.R_NEED else rj) → ∃ (fixed k : Nat) (p : Nat → Int),
      p = predict ((fixed : Int) * 65536) k dFull ∧
      (s.rd CG_CFG0 CG_CFG0.GATE_POLICY ≠ 1 → fixed = t.fixedDraw .now) ∧
      (s.rd CG_CFG0 CG_CFG0.GATE_POLICY = 1 → fixed = t.fixedDraw (if t.gov.hold then .held else .none)) ∧
      t.rd CG_STAT CG_STAT.CAP_EFF = cap ∧ t.rd CG_EST CG_EST.S = min 0xFFFFFF fixed ∧ t.rd CG_EST CG_EST.D_FULL = show16 dFull ∧
      t.rd CG_EST CG_EST.WIN = win % 65536 ∧ t.rd CG_CAL CG_CAL.K = k ∧
      t.rd CG_CAL CG_CAL.P_MEAS = s.rd HD_TELE_STAT HD_TELE_STAT.P_IN ∧ t.rd CG_CAL CG_CAL.D_ACT = show16 dAct ∧
      ((s.rd HD_TELE_STAT HD_TELE_STAT.MISSING ≠ 0 ∨ dAct * 64 < (cap : Int) * 65536 ∨ win ∈ s.gov.skipWins) → k = s.rd CG_CAL CG_CAL.K) ∧
      (s.rd HD_TELE_STAT HD_TELE_STAT.MISSING = 0 → (cap : Int) * 65536 ≤ dAct * 64 → 0 < dAct → win ∉ s.gov.skipWins → ∃ q : Int,
        q = roundDivI (16384 * ((s.rd HD_TELE_STAT HD_TELE_STAT.P_IN : Int) - s.ageShare.fixedDraw .now) * 65536) dAct ∧
        (k : Int) = clampI 0x2000 0x8000 (s.rd CG_CAL CG_CAL.K + roundDiv (q - s.rd CG_CAL CG_CAL.K) (2 ^ s.rd CG_CFG0 CG_CFG0.CAL_SHIFT))) ∧
      (∀ r, r ≤ 15 → (∀ q, q < r → s.margined cap 1 < p q) → (p r ≤ s.margined cap 1 ∨ r = 15) → t.rd CG_STAT CG_STAT.R_NEED =
        (if r < rj then (if p (rj - 1) ≤ s.margined cap 2 then rj - 1 else rj) else r)) ∧
      (s.margined cap 1 < p 15 → t.rd CG_STAT CG_STAT.R_NEED = 15 ∧ t.flag CG_STAT CG_STAT.FLOOR = true ∧
        t.flag CG_STAT CG_STAT.CAP_UNREACHABLE = true ∧ t.flag CG_STAT CG_STAT.STOP_OFFER = true ∧ { src := 26 } ∈ t.fault.held ∧
        (s.flag HD_SB_STAT HD_SB_STAT.IBI_EN = true → bit s.sb.ibiList 1 = true → bit t.sb.ibiPend 1 = true)) ∧
      (p 15 ≤ s.margined cap 1 → t.flag CG_STAT CG_STAT.FLOOR = false ∧ t.flag CG_STAT CG_STAT.STOP_OFFER = false ∧
        t.flag CG_STAT CG_STAT.CAP_UNREACHABLE = s.flag CG_STAT CG_STAT.CAP_UNREACHABLE) ∧
      (s.flag CG_STAT CG_STAT.SOLO = true → t.gov.agreed = some (t.rd CG_STAT CG_STAT.R_NEED) ∧
        t.gov.applyAt = 4096 * (win + 1) + s.rd CG_CFG0 CG_CFG0.APPLY_BEATS) ∧
      ∀ (u lim : Nat) (pt : Nat → Int), u < s.tileCount → u < 96 → lim = s.rd (PH_TILE_CAP u) PH_TILE_CAP.INPUT_CAP →
        pt = predict (t.fixedTile u) k (s.dynamic [u] win true) → (s.tile u).tt.overAt < 4096 * (win + 1) →
        t.rd (CG_TILE u) CG_TILE.P_PRED = (clampI 0 0xFFFFFF (roundDiv (pt rt) 17179869184)).toNat ∧
        ((s.tile u).tr.want = 0 → pt rt ≤ s.margined lim 1 → t.rd (CG_TILE u) CG_TILE.R_TILE = 0) ∧
        ((s.tile u).tr.want = 0 → s.margined lim 1 < pt rt → ∀ r, r ≤ 15 → (∀ q, q < r → s.margined lim 1 < pt q) →
          (pt r ≤ s.margined lim 1 ∨ r = 15) → t.rd (CG_TILE u) CG_TILE.R_TILE = r) ∧
        (∀ v, (s.tile u).tr.want = v + 1 → v < 15 → pt rt ≤ s.margined lim 1 →
          t.rd (CG_TILE u) CG_TILE.R_TILE = (if pt v ≤ s.margined lim 2 then v else v + 1))) ∧
  (∀ (s : State) (u w : Nat), (∀ k ∈ s.toMove u w, k ∈ fedClusters w ∧ s.mapState u k = 0 ∧ s.ordered u k = false) ∧
    (∀ k ∈ fedClusters w, s.mapState u k = 0 → s.ordered u k = false → (s.wellClass u w = 3 ∨ s.clusterClass u k = 1 ∨ s.clusterClass u k = 4) →
      k ∈ s.toMove u w) ∧
    (∀ (k : Nat) (l : List Nat), (s.working u w).reverse = k :: l → s.flag (WL_TIE u w) WL_TIE.DEFICIT = true →
      s.cont u w < (s.sh u w).fcast → s.ordered u k = false → k ∈ s.toMove u w) ∧
    (s.wellClass u w ≠ 3 → s.flag (WL_TIE u w) WL_TIE.DEFICIT = false → s.plan.spread = [] →
      (∀ k ∈ fedClusters w, s.clusterClass u k ≠ 1 ∧ s.clusterClass u k ≠ 4) → s.toMove u w = [])) ∧
  (∀ (s v : State) (u w k lk g : Nat) (planned : List (Nat × Int)), s.logicalAt u k = some lk → s.orderGate u lk = some g →
    v = (s.planCluster u w k planned).1 →
    (s.rd PL_CFG PL_CFG.RELOC_MAX ≤ s.unbound u g → v = s) ∧
    (s.unbound u g < s.rd PL_CFG PL_CFG.RELOC_MAX →
      (∀ d, d < 96 → s.spareOk u d (s.clusterShare u (coreWell k) k) planned = false) →
      v.flag PL_STAT PL_STAT.SPARES_OUT = true ∧ { src := 28, tile := u, well := w, sub := k } ∈ v.fault.now) ∧
    (∀ d, s.unbound u g < s.rd PL_CFG PL_CFG.RELOC_MAX → d < 96 → s.spareOk u d (s.clusterShare u (coreWell k) k) planned = true →
      ∃ c, c < 96 ∧ s.spareOk u c (s.clusterShare u (coreWell k) k) planned = true ∧
        (coreWell d / 4 = coreWell k / 4 → coreWell c / 4 = coreWell k / 4) ∧
        ((coreWell d / 4 = coreWell k / 4 ↔ coreWell c / 4 = coreWell k / 4) →
          s.spareRoom u (coreWell d) planned < s.spareRoom u (coreWell c) planned ∨
            (s.spareRoom u (coreWell d) planned = s.spareRoom u (coreWell c) planned ∧ c ≤ d)) ∧
        v.plan.orders = s.plan.orders ++
          [{ id := s.plan.nextId, tile := u, logical := lk, src := k, dst := c, gate := g, slot := s.plan.nextSlot }] ∧
        v.plan.sent = s.plan.sent ++ [orderMsg 1 s.plan.nextId u lk k c g] ∧ v.plan.nextId = (s.plan.nextId + 1) % 4096 ∧
        (u < 96 → v.flag (PL_MAP (96 * u + c)) PL_MAP.GATED = false))) ∧
  orderMsg 1 0x01C 41 62 62 47 0x22 = 0x101C297CF9791000 ∧
  (∀ (s : State) (i e : Nat), s.clk.fast ≠ .sleep → s.capEvents[i]? = some e → e < 4096 → e % 16 < 14 → s.tileOk (e / 16) = true →
    s.flag (WL_CHK (e / 16) (e % 16)) WL_CHK.CRACK = false → s.flag (WL_CHK (e / 16) (e % 16)) WL_CHK.SENSE_OPEN = false →
    exec (.capabilityEvent i) s = .next (if s.flag (WL_TIE (e / 16) (e % 16)) WL_TIE.DEFICIT
      then ({ s.restart with capEvents := s.capEvents.eraseIdx i } : State).planAll.settle
      else ({ s.restart with capEvents := s.capEvents.eraseIdx i } : State).settle)) ∧
  ∀ s : State, s.flag PL_CTRL PL_CTRL.HOLD = true → s.planAll = s

/-- Channels and throttle: a valid channel reads its raw temperature with its OFFSET, a broken one a degree above LIM_A; r_th rises by one
step to 15; CLR_PEAK sets every PEAK to its TEMP; a rest frame brings the duties decided in time into force; job rest is fixed at its commit
beat, or a miss is raised (R260-R262, R266, R273-R275, R287, R288). -/
def Obligations.HeatAndRest : Prop :=
  (∀ (u ch : Nat) (s : State), s.reads u ch = true → s.isHot u ch = false → s.broken u ch = false → (s.chan u ch).bad = false →
    (32 ≤ ch → (s.pump u (chanWell ch) (chanPump ch)).tempBroken = false) → s.yields (.thermalRound u ch) (fun t =>
      t.temp u ch = clampI (-2048) 2047 (s.rawTemp u ch + s.rdi (TH_LIM u ch) TH_LIM.OFFSET) ∧
      t.flag (TH_CH u ch) TH_CH.VALID = true ∧ t.broken u ch = false)) ∧
  (∀ (u ch : Nat) (s : State), s.reads u ch = true → s.isHot u ch = false → s.broken u ch = false → (s.chan u ch).bad = true →
    s.limA u ch ≤ 2039 → s.yields (.thermalRound u ch) (fun t => t.temp u ch = s.limA u ch + 8 ∧ t.slope u ch = 0 ∧
      t.broken u ch = true)) ∧
  (∀ (u ch : Nat) (s : State), s.tileOk u = true → ch ∈ s.channels u → s.reads u ch = true → s.broken u ch = false →
    (s.chan u ch).bad = false → (32 ≤ ch → (s.pump u (chanWell ch) (chanPump ch)).tempBroken = false) →
    s.yields (.hotListEval u) (fun t => t.temp u ch = clampI (-2048) 2047 (s.rawTemp u ch + s.rdi (TH_LIM u ch) TH_LIM.OFFSET))) ∧
  (∀ (u w ch : Nat) (s : State), s.quiet → s.tileOk u = true → w < 12 → s.therm u w ≠ 0 → (ch = 2 * w ∨ ch = 2 * w + 1) →
    s.reads u ch = true → s.limA u ch ≤ s.temp u ch → 0 ≤ s.slope u ch → ∃ t, exec (.throttleStep u w) s = .next t ∧
      t.therm u w = min 15 (s.therm u w + 1) ∧ t.rd (TH_REST u) ⟨4 * w + 3, 4 * w⟩ = min 15 (s.therm u w + 1) ∧
      State.sameBut [TH_REST u] s t) ∧
  (∀ (u : Nat) (d : Word) (s : State), s.quiet → s.alone → u < 96 → s.takes (TH_CTRL u) d → TH_CTRL.CLR_PEAK.get d = 1 →
    TH_CTRL.RESUME.get d = 0 → ∃ t, exec (.clrPeak u d) s = .next t ∧
      (∀ ch ∈ s.channels u, t.rd (TH_CH u ch) TH_CH.PEAK = s.rd (TH_CH u ch) TH_CH.TEMP) ∧
      State.sameBut ((s.channels u).map (TH_CH u)) s t ∧ s.onlyRegsPort t ∧ t.port = (s.answered rOkay 0).port) ∧
  (∀ (u : Nat) (s : State), s.quiet → s.tileOk u = true → s.clk.beat % 16 = 0 → ∃ t, exec (.restFrame u) s = .next t ∧
    t.rd CG_STAT CG_STAT.R_JOB = s.jobRestAt s.clk.beat ∧ t.rd (PH_REST u) PH_REST.R_JOB = s.jobRestAt s.clk.beat ∧
    (∀ l, l < 14 → t.dutyFrom u l s.clk.beat < 16 → t.dutyNow u l = t.dutyFrom u l s.clk.beat) ∧
    State.sameBut [CG_STAT, PH_REST u] s t) ∧
  (∀ (r : Nat) (s : State), s.quiet → s.gov.agreed = some r → r < 16 → ∃ t, exec .jobRestCommit s = .next t ∧
    t.rd CG_STAT CG_STAT.R_NEXT = r ∧ t.gov.committed = true ∧ t.gov.nextAt = s.gov.applyAt ∧ State.sameBut [CG_STAT] s t) ∧
  (∀ s : State, s.gov.agreed = none → s.flag CG_STAT CG_STAT.SOLO = false → s.yields .jobRestCommit (fun t =>
    t.flag CG_STAT CG_STAT.LOCK_MISS = true ∧ { src := 27 } ∈ t.fault.now ∧
    t.rd CG_STAT CG_STAT.R_NEXT = max (s.rd CG_STAT CG_STAT.R_JOB) (s.rd CG_STAT CG_STAT.R_NEED)))

/-- The thermal stop: an orderly stop turns hard once no vote is held or its time is over; the hard stop gates every cluster and then drops
PEN of every pump of the wet wells; its record sent, the tile is STOPPED; RESUME returns it to RUN where R271 allows it and is REFUSED
elsewhere (R268-R271). That a RESUME of a tile that is not STOPPED is REFUSED too is the model's reading (log entry 51). -/
def Obligations.ThermalStops : Prop :=
  (∀ (u : Nat) (s : State), s.quiet → s.tileOk u = true → s.stopState u = stopOrderly →
    ((∀ w, w < 14 → s.holdsVote u w = false) → ∃ t, exec (.orderlyStopEnd u) s = .next t ∧ t.stopState u = stopHard ∧
      State.sameBut [TH_STAT u] s t ∧ s.onlyRegs t) ∧
    (∀ w, w < 14 → s.holdsVote u w = true → exec (.orderlyStopEnd u) s = .next s) ∧
    ∃ t, exec (.orderlyTimeout u) s = .next t ∧ t.stopState u = stopHard ∧ State.sameBut [TH_STAT u] s t ∧ s.onlyRegs t) ∧
  (∀ (u : Nat) (s : State), s.quiet → s.tileOk u = true → s.stopState u = stopHard → (s.tile u).th.dropped = false →
    ∃ t, exec (.hardStop u) s = .next t ∧ (t.tile u).th.dropped = true ∧
      (∀ k, k < 96 → (t.cluster u k).goff = true ∧ (t.cluster u k).greq = true ∧ t.flag (PH_CLPWR u k) PH_CLPWR.C_THERM = true) ∧
      (∀ w p, w < 14 → s.stage u w ≠ stDry → p < s.installed u w → t.flag (PM_LINK u w p) PM_LINK.PEN = false ∧ t.inService u w p = false) ∧
      (∀ p, t.reg (PM_LINK u 14 p) = s.reg (PM_LINK u 14 p)) ∧ t.stopState u = stopHard) ∧
  (∀ (u : Nat) (s : State), s.tileOk u = true → s.stopState u = stopHard → (s.tile u).th.dropped = true →
    s.flag ER_STAT ER_STAT.NOFLASH = false → s.rcd.queue = [] → s.yields (.stopRecordSent u) (fun t => t.stopState u = stopStopped ∧
      t.rcd.queue.map (fun r => (r.type, r.part, r.tile)) = [(4, 0, u), (4, 1, u)])) ∧
  (∀ (u : Nat) (d : Word) (s : State), s.quiet → s.alone → u < 96 → s.takes (TH_CTRL u) d → TH_CTRL.RESUME.get d = 1 →
    TH_CTRL.CLR_PEAK.get d = 0 →
    (s.mayResume u = true → ∃ t, exec (.resume u d) s = .next t ∧ t.stopState u = stopRun ∧ (∀ w, w < 12 → t.therm u w = 0) ∧
      (∀ k, k < 96 → t.flag (PH_CLPWR u k) PH_CLPWR.C_THERM = false) ∧
      State.sameBut (TH_STAT u :: TH_REST u :: (List.range 96).map (PH_CLPWR u)) s t) ∧
    (s.mayResume u = false → ∃ t, exec (.resume u d) s = .next t ∧ t.flag (TH_STAT u) TH_STAT.REFUSED = true ∧
      t.stopState u = s.stopState u ∧ State.sameBut [TH_STAT u] s t ∧ s.onlyRegsPort t))

/-! ### Cap and placement -/

/-- The host's cap is stored, or cut to WAFER_LIM with CLAMPED; JOB_STOP is REFUSED without an offer, else starts STOP_PROG; PL_SET sets a
class or is REFUSED; the remap unit's answers move an order on or end it, and a well to evacuate that its DONE empties is reported; HOLD
holds; RESET_MAP restores the identity mapping where no slice plays and no order is out (R30, R278, R285, R292, R295-R298). That PL_SET
refuses KIND 3, and classes outside R290's table, is the model's reading (log entry 54). -/
def Obligations.CapAndPlacement : Prop :=
  (∀ (d : Word) (s : State), s.quiet → s.alone → s.takes CG_CAP d → ∃ t, exec (.capHostWrite d) s = .next t ∧
    t.rd CG_CAP CG_CAP.CAP_HOST = min (CG_CAP.CAP_HOST.get d) (s.rd CG_CAP CG_CAP.WAFER_LIM) ∧
    (s.rd CG_CAP CG_CAP.WAFER_LIM < CG_CAP.CAP_HOST.get d → t.flag CG_STAT CG_STAT.CLAMPED = true) ∧
    State.sameBut [CG_CAP, CG_STAT] s t ∧ s.onlyRegsPort t ∧ t.port = (s.answered rOkay 0).port) ∧
  (∀ (d : Word) (s : State), s.quiet → s.alone → s.takes CG_CTRL d → CG_CTRL.JOB_STOP.get d = 1 →
    (s.flag CG_STAT CG_STAT.STOP_OFFER = false → ∃ t, exec (.jobStop d) s = .next t ∧ t.flag CG_STAT CG_STAT.REFUSED = true ∧
      State.sameBut [CG_STAT] s t ∧ s.onlyRegsPort t) ∧
    (∀ n, s.flag CG_STAT CG_STAT.STOP_OFFER = true → n = s.rd CG_CFG1 CG_CFG1.STOP_SEQ →
      s.startRefused n (s.rd CG_CFG1 CG_CFG1.STOP_PROG) = false → ∃ t, exec (.jobStop d) s = .next t ∧ t.sqState n = 1 ∧
        t.rd (SQ_STAT n) SQ_STAT.PROG = s.rd CG_CFG1 CG_CFG1.STOP_PROG ∧ State.sameBut [SQ_STAT n] s t)) ∧
  (∀ (d : Word) (s : State), s.quiet → s.alone → s.takes PL_SET d →
    (PL_SET.KIND.get d = 1 → s.setRefused 1 (PL_SET.REGION.get d) (PL_SET.CLASS.get d) = false → PL_SET.CLASS.get d ≠ 4 →
      ∃ t, exec (.plSet d) s = .next t ∧ t.rd (PL_MAP (PL_SET.REGION.get d)) PL_MAP.CLASS = PL_SET.CLASS.get d ∧
        State.sameBut [PL_MAP (PL_SET.REGION.get d)] s t ∧ t.port = (s.answered rOkay 0).port) ∧
    (PL_SET.KIND.get d = 2 → s.setRefused 2 (PL_SET.REGION.get d) (PL_SET.CLASS.get d) = false →
      (PL_SET.CLASS.get d ≠ 3 ∨ s.rd (PL_WELL (PL_SET.REGION.get d)) PL_WELL.CLASS = 3 ∨
        ∃ k ∈ fedClusters (PL_SET.REGION.get d % 16), s.mapState (PL_SET.REGION.get d / 16) k ∈ [0, 4, 5]) → ∃ t, exec (.plSet d) s = .next t ∧ t.rd (PL_WELL (PL_SET.REGION.get d)) PL_WELL.CLASS = PL_SET.CLASS.get d ∧
        State.sameBut [PL_WELL (PL_SET.REGION.get d)] s t ∧ t.port = (s.answered rOkay 0).port) ∧
    (PL_SET.KIND.get d ≠ 0 → s.setRefused (PL_SET.KIND.get d) (PL_SET.REGION.get d) (PL_SET.CLASS.get d) = true →
      ∃ t, exec (.plSet d) s = .next t ∧ t.flag PL_STAT PL_STAT.REFUSED = true ∧ State.sameBut [PL_STAT] s t ∧ s.onlyRegsPort t)) ∧
  (∀ (id : Nat) (o : Order) (s : State), s.quiet → s.orderOf id = some o → o.status = 0 → o.slot < 16 →
    ∃ t, exec (.accept id) s = .next t ∧ t.orderOf id = some { o with status := 1, acceptAt := s.clk.beat } ∧
      (s.rd (PL_ORDER o.slot) PL_ORDER.ID = o.id → t.rd (PL_ORDER o.slot) PL_ORDER.STATUS = 1) ∧
      State.sameBut [PL_ORDER o.slot, PL_STAT] s t) ∧
  (∀ (id : Nat) (o : Order) (c : Instr) (s : State), s.orderOf id = some o → o.status = 0 → c ∈ [Instr.refuse id, .acceptTimeout id] →
    s.yields c (fun t => t.orderOf id = none ∧
      (s.rd (PL_ORDER o.slot) PL_ORDER.ID = o.id → o.slot < 16 → t.rd (PL_ORDER o.slot) PL_ORDER.STATUS = 4))) ∧
  (∀ (id : Nat) (o : Order) (s : State), s.quiet → s.orderOf id = some o → o.status ≠ 0 → ∃ t, exec (.refuse id) s = .next t ∧
    t.flag PL_STAT PL_STAT.REFUSED = true ∧ t.orderOf id = some o ∧ State.sameBut [PL_STAT] s t) ∧
  (∀ (id : Nat) (o : Order) (s : State), s.orderOf id = some o → o.status = 2 → o.src < 96 → o.dst < 96 → o.src ≠ o.dst →
    o.tile < 96 → s.yields (.relocDone id) (fun t => t.orderOf id = none ∧ t.mapState o.tile o.dst = 0 ∧
      t.mapState o.tile o.src = (if s.clusterClass o.tile o.src = 4 then 3 else 1) ∧
      (s.wellClass o.tile (coreWell o.src) = 3 → coreWell o.dst ≠ coreWell o.src →
        (∀ k ∈ fedClusters (coreWell o.src), k ≠ o.src → s.mapState o.tile k ≠ 0 ∧ s.mapState o.tile k ≠ 4 ∧ s.mapState o.tile k ≠ 5) →
        { src := 21, tile := o.tile, well := coreWell o.src } ∈ t.fault.now ∧ 16 * o.tile + coreWell o.src ∈ t.capEvents))) ∧
  (∀ (id : Nat) (o : Order) (s : State), s.orderOf id = some o → o.status = 2 → s.yields (.relocTimeout id) (fun t =>
    t.flag PL_STAT PL_STAT.RELOC_TMO = true ∧ { src := 29, tile := o.tile, sub := o.boundGate } ∈ t.fault.held)) ∧
  (∀ (d : Word) (s : State), s.quiet → s.alone → s.takes PL_CTRL d → PL_CTRL.RESET_MAP.get d = 0 → ∃ t, exec (.plHold d) s = .next t ∧
    t.rd PL_CTRL PL_CTRL.HOLD = PL_CTRL.HOLD.get d ∧ t.rd PL_STAT PL_STAT.HELD = PL_CTRL.HOLD.get d ∧
    State.sameBut [PL_CTRL, PL_STAT] s t ∧ s.onlyRegsPort t ∧ t.port = (s.answered rOkay 0).port) ∧
  (∀ (d : Word) (s : State), s.takes PL_CTRL d → PL_CTRL.RESET_MAP.get d = 1 →
    ((∀ u, u < s.tileCount → s.dsState u ≠ dsPlaying) → s.plan.orders = [] → ∀ u k, u < s.tileCount → u < 96 → k < 96 →
      s.mapState u k ≠ 3 → s.yieldsAnswered (.resetMap d) PL_CTRL (fun t =>
        t.rd (PL_MAP (96 * u + k)) PL_MAP.LOGICAL = (if (s.spares u).contains k then 0xFF else k) ∧
        ((s.spares u).contains k = true → t.mapState u k = 1))) ∧
    (s.plan.orders ≠ [] → s.yieldsAnswered (.resetMap d) PL_CTRL (fun t => t.flag PL_STAT PL_STAT.REFUSED = true ∧
      ∀ a, t.rd (PL_MAP a) PL_MAP.LOGICAL = s.rd (PL_MAP a) PL_MAP.LOGICAL)))

/-! ### Power states -/

/-- Votes: a host vote, on clusters 0-63 or 64-95, is stored, makes its cluster wanted and acts as a WAKE on it: refused where a sequencer,
heat or the governor gates it, held where a DRY well of it is owned, lifting a C_VOTE where both wells are up; an unwanted cluster takes
C_VOTE, also when a woken one did not become wanted; both wires fall once no cause stands; a voted well without a vote parks; a woken DRY
well primes; a woken Pumphouse starts the CAL stages that waited, and the writes held for it take effect; which writes are held is log entry
16 (R37, R304, R306-R313). -/
def Obligations.VotesGate : Prop :=
  (∀ (u : Nat) (d : Word) (s : State), u < 96 → s.takes (PH_HOST_CL0 u) d → s.yieldsAnswered (.hostClWrite u 0 d) (PH_HOST_CL0 u) (fun t =>
    t.reg (PH_HOST_CL0 u) = d ∧
    ∀ k, k < 64 → d.getLsbD k = true → s.wakeActs t u k)) ∧
  (∀ (u : Nat) (d : Word) (s : State), u < 96 → s.takes (PH_HOST_CL1 u) d → s.yieldsAnswered (.hostClWrite u 1 d) (PH_HOST_CL1 u) (fun t =>
    t.rd (PH_HOST_CL1 u) PH_HOST_CL1.CL_HI = PH_HOST_CL1.CL_HI.get d ∧
    ∀ i, i < 32 → d.getLsbD i = true → s.wakeActs t u (64 + i))) ∧
  (∀ (u : Nat) (d : Word) (s : State), s.quiet → s.alone → u < 96 → s.takes (PH_HOST_HOLD u) d → ∃ t, exec (.hostHoldWrite u d) s = .next t ∧
    t.rd (PH_HOST_HOLD u) PH_HOST_HOLD.WELLS = PH_HOST_HOLD.WELLS.get d ∧
    (∀ w, w < 14 → t.holdsVote u w = true → (t.well u w).vo.graceAt = none) ∧
    (∀ w, w < 14 → s.holdsVote u w = true → t.holdsVote u w = false → (t.well u w).vo.graceAt = some s.clk.ns) ∧
    State.sameBut [PH_HOST_HOLD u] s t ∧ t.port = (s.answered rOkay 0).port) ∧
  (∀ (u k : Nat) (s : State), s.quiet → s.clusterOk u k = true → s.flag (WL_VOTE_CFG u (coreWell k)) WL_VOTE_CFG.CL_GATE = true →
    (s.mapState u k = 0 ∨ s.mapState u k = 2) → s.wanted u k = false → (s.cluster u k).waking = false →
    s.flag (PH_CLPWR u k) PH_CLPWR.C_VOTE = false → ∃ t, exec (.voteGate u k) s = .next t ∧
      t.flag (PH_CLPWR u k) PH_CLPWR.C_VOTE = true ∧ t.flag (PH_CLPWR u k) PH_CLPWR.GATED = true ∧ (t.cluster u k).goff = true ∧
      (t.cluster u k).greq = true ∧ State.sameBut [PH_CLPWR u k] s t) ∧
  (∀ (u k : Nat) (s : State), s.quiet → s.clusterOk u k = true → (s.cluster u k).graceBeat.isSome = true → (s.cluster u k).waking = true →
    s.wanted u k = false → (s.mapState u k = 0 ∨ s.mapState u k = 2) → s.flag (WL_VOTE_CFG u (coreWell k)) WL_VOTE_CFG.CL_GATE = true →
    ∃ t, exec (.wakeGraceExpiry u k) s = .next t ∧
      t.flag (PH_CLPWR u k) PH_CLPWR.C_VOTE = true ∧ (t.cluster u k).goff = true ∧ (t.cluster u k).waking = false ∧
      State.sameBut [PH_CLPWR u k] s t) ∧
  (∀ (u k : Nat) (s : State), s.quiet → s.clusterOk u k = true → s.flag (PH_CLPWR u k) PH_CLPWR.GATED = true → s.anyCause u k = false →
    ∃ t, exec (.gateControlRelease u k) s = .next t ∧ t.flag (PH_CLPWR u k) PH_CLPWR.GATED = false ∧ (t.cluster u k).goff = false ∧
      (t.cluster u k).greq = (s.cluster u k).greq ∧ State.sameBut [PH_CLPWR u k] s t) ∧
  (∀ (u k : Nat) (s : State), s.quiet → s.clusterOk u k = true → (s.cluster u k).greq = true → (s.cluster u k).goff = false →
    s.flag (PH_CLPWR u k) PH_CLPWR.GATED = false → ∃ t, exec (.greqRelease u k) s = .next t ∧ (t.cluster u k).greq = false ∧
      ((s.cluster u k).waking = true → s.mapState u k ≠ 5 → (t.cluster u k).graceBeat = some s.clk.beat) ∧ State.sameBut [] s t) ∧
  (∀ (u w : Nat) (s : State), s.voltedOk u w = true →
    s.flag (WL_VOTE_CFG u w) WL_VOTE_CFG.VOTED = true → s.holdsVote u w = false → s.parkBlocked u w = false → s.tied u w = false →
    s.yields (.votedPark u w) (fun t => t.stage u w = stPark ∧ (t.mo u w).votedPark = true)) ∧
  (∀ (u w : Nat) (s : State), s.voltedOk u w = true → s.stage u w = stDry → s.owned u w = false → (s.well u w).vo.wakeReq = true →
    s.active = true → s.rd (PH_PWR u) PH_PWR.WAKES + 1 < 0xFFFFFFFF →
    (s.autoWake u w = false → s.yields (.primingOnWake u w) (fun t => t.stage u w = stDry ∧ (t.well u w).vo.wakeReq = false ∧
      t.flag (WL_VOTE u w) WL_VOTE.WAKE_PEND = false)) ∧
    (s.autoWake u w = true → s.primable u w = true → s.stopped u = false → s.yields (.primingOnWake u w) (fun t => t.stage u w = stCal ∧ (t.mo u w).waking = true ∧
      t.rd (PH_PWR u) PH_PWR.WAKES = s.rd (PH_PWR u) PH_PWR.WAKES + 1)) ∧
    (s.autoWake u w = true → s.primable u w = false → s.yields (.primingOnWake u w) (fun t => t.stage u w = stDry ∧
      { src := 30, tile := u, well := w } ∈ t.fault.inflight))) ∧
  (∀ (u : Nat) (s : State), s.quiet → s.tileOk u = true → s.rd (PH_PWR u) PH_PWR.STATE = 2 → s.rd CL_TIME CL_TIME.STATE ≠ 3 →
    (∀ (w p : Nat) (d : Word), u < 96 → w < 14 → p < 4 → (s.tile u).held = [(PM_LINK u w p, d)] → PM_LINK.CAL.get d = 1 →
      s.flag (PM_LINK u w p) PM_LINK.PEN = false → ∃ t, exec (.pumphouseWakeDone u) s = .next t ∧ t.rd (PH_PWR u) PH_PWR.STATE = 0 ∧
        (t.pump u w p).measuring = true ∧ (t.tile u).held = []) ∧
    ((s.tile u).held = [] → ∃ t, exec (.pumphouseWakeDone u) s = .next t ∧ t.rd (PH_PWR u) PH_PWR.STATE = 0 ∧
      (∀ w p, w < 14 → s.stage u w = stCal → p < s.installed u w → (t.pump u w p).measuring = true) ∧ State.sameBut [PH_PWR u] s t))

/-- The Wellhead at rest: NAP stops the fast clock only with nothing in progress; a SLEEP request is REFUSED with its first failing
condition or pends; entry counts it and stops the clock; an armed source restarts it with WOKEN, or abandons a request not yet entered; a
source that is not armed does nothing in SLEEP, and ends a NAP as an armed one does (R315-R318). RESULT reads 0 after an accepted request by
the model's choice (log entry 86). -/
def Obligations.SleepsAndWakes : Prop :=
  (∀ s : State, s.quiet → s.clk.fast = .run → (s.napBlocked = false → exec .nap s = .next { s with clk := { s.clk with fast := .nap } }) ∧
    (s.napBlocked = true → exec .nap s = .next s)) ∧
  (∀ (d : Word) (s : State), s.quiet → s.alone → s.takes HD_PWR_CTRL d → HD_PWR_CTRL.SLEEP.get d = 1 →
    (s.sleepCause ≠ 0 → ∃ t, exec (.sleep d) s = .next t ∧ t.rd HD_PWR_STAT HD_PWR_STAT.RESULT = 2 ∧
      t.rd HD_PWR_STAT HD_PWR_STAT.REF_CAUSE = s.sleepCause ∧ t.clk.sleepReq = false ∧ State.sameBut [HD_PWR_STAT] s t) ∧
    (s.sleepCause = 0 → s.alarmPassed = false → ∃ t, exec (.sleep d) s = .next t ∧ t.rd HD_PWR_STAT HD_PWR_STAT.RESULT = 0 ∧
      t.clk.sleepReq = true ∧ State.sameBut [HD_PWR_STAT] s t)) ∧
  (∀ s : State, s.clk.sleepReq = true → s.port.outstanding = [] →
    (s.sleepCause = 0 → s.rd HD_PWR_STAT HD_PWR_STAT.SLEEPS + 1 < 0xFFFFFFFF → s.yields .sleepEnter (fun t => t.clk.fast = .sleep ∧
      t.clk.sleepReq = false ∧ t.rd HD_PWR_STAT HD_PWR_STAT.SLEEPS = s.rd HD_PWR_STAT HD_PWR_STAT.SLEEPS + 1)) ∧
    (s.sleepCause ≠ 0 → s.yields .sleepEnter (fun t => t.clk.fast = s.clk.fast ∧ t.clk.sleepReq = false ∧
      t.rd HD_PWR_STAT HD_PWR_STAT.RESULT = 2))) ∧
  (∀ (srcs : Nat) (s : State), s.quiet →
    (srcs &&& s.armed = 0 → s.clk.fast ≠ .nap → exec (.sleepWake srcs) s = .next s) ∧
    (srcs &&& s.armed ≠ 0 → s.clk.fast = .sleep → ∃ t, exec (.sleepWake srcs) s = .next t ∧ t.clk.fast = .restarting ∧
      t.rd HD_PWR_STAT HD_PWR_STAT.RESULT = 1 ∧ t.rd HD_PWR_STAT HD_PWR_STAT.LAST_WAKE = srcs &&& s.armed ∧
      State.sameBut [HD_PWR_STAT] s t) ∧
    (srcs &&& s.armed ≠ 0 → s.clk.fast = .run → s.clk.sleepReq = true → ∃ t, exec (.sleepWake srcs) s = .next t ∧ t.clk.fast = .run ∧
      t.clk.sleepReq = false ∧ t.rd HD_PWR_STAT HD_PWR_STAT.RESULT = 3 ∧ State.sameBut [HD_PWR_STAT] s t) ∧
    (s.clk.fast = .nap → s.clk.sleepReq = false → exec (.sleepWake 0) s = .next s) ∧
    (srcs ≠ 0 → s.clk.fast = .nap → s.clk.sleepReq = false → exec (.sleepWake srcs) s =
      .next { s with clk := { s.clk with fast := .restarting } }))

/-! ### Faults and interrupts -/

/-- Episodes: a raise from a Pumphouse opens an episode with it as the first, or counts in the open one; a block reset that ends clears BUSY
with the last and starts the program that waited; a close clears the episode's registers, but not while BUSY; TRAP_ACK releases VP_TRAP
alone; INJECT raises a source without a place (R324, R329, R332, R333, R335-R337). -/
def Obligations.EpisodesRun : Prop :=
  (∀ (n : Nat) (r : Raise) (s : State), s.fault.inflight[n]? = some r → r.src < 32 → r.tile < 256 →
    (s.flag FC_STAT FC_STAT.OPEN = false → s.yields (.faultRaise n) (fun t => t.flag FC_STAT FC_STAT.OPEN = true ∧
      t.rd FC_FIRST FC_FIRST.SRC = r.src ∧ t.rd FC_FIRST FC_FIRST.TILE = r.tile ∧
      (t.reg (FC_RAISED 0)).getLsbD r.src = true)) ∧
    (s.flag FC_STAT FC_STAT.OPEN = true → s.rd FC_STAT FC_STAT.MERGED < 0xFFFF → s.yields (.faultRaise n) (fun t =>
      t.flag FC_STAT FC_STAT.OPEN = true ∧ t.reg FC_FIRST = s.reg FC_FIRST ∧
      t.rd FC_STAT FC_STAT.MERGED = s.rd FC_STAT FC_STAT.MERGED + 1 ∧ (t.reg (FC_RAISED 0)).getLsbD r.src = true))) ∧
  (∀ (b n p : Nat) (r : Raise) (nw : Bool) (s : State), s.fault.resetting = [b] → s.fault.progAfter = [(n, p, r, nw)] → blockPlace r = b → n < 8 → p < 256 →
    s.loaderBusy = false → s.sqState n = 0 → s.yields (.blockResetDone b) (fun t => t.fault.resetting = [] ∧
      t.flag FC_STAT FC_STAT.BUSY = false ∧ t.fault.progAfter = [] ∧ t.sqState n = 1 ∧ t.rd (SQ_STAT n) SQ_STAT.PROG = p)) ∧
  (∀ (b : Nat) (s : State), s.quiet → b ∈ s.fault.resetting → (∃ c ∈ s.fault.resetting, c ≠ b) →
    (∀ e ∈ s.fault.progAfter, blockPlace e.2.2.1 ≠ b) → ∃ t, exec (.blockResetDone b) s = .next t ∧ t.fault.resetting = s.fault.resetting.filter (· ≠ b) ∧
      t.flag FC_STAT FC_STAT.BUSY = true ∧ State.sameBut [FC_STAT] s t) ∧
  (∀ (d : Word) (s : State), s.takes FC_STAT d → FC_STAT.OPEN.get d = 1 → s.flag FC_STAT FC_STAT.OPEN = true →
    (s.flag FC_STAT FC_STAT.BUSY = false → s.fault.held = [] → s.yieldsAnswered (.episodeClose d) FC_STAT (fun t =>
      t.reg FC_STAT = 0 ∧ t.reg (FC_RAISED 0) = 0 ∧ t.reg (FC_RAISED 1) = 0 ∧ ∀ i, i < 16 → t.reg (FC_LOG i) = 0)) ∧
    (s.flag FC_STAT FC_STAT.BUSY = true → exec (.episodeClose d) s = .next (s.answer FC_STAT rOkay 0).settle)) ∧
  (∀ (d : Word) (s : State), s.quiet → s.alone → s.takes FC_CTRL d → FC_CTRL.TRAP_ACK.get d = 1 → FC_CTRL.INJECT.get d = 0 →
    ∃ t, exec (.trapAck d) s = .next t ∧ t.flag FC_STAT FC_STAT.TRAP = false ∧
      t.flag FC_STAT FC_STAT.OPEN = s.flag FC_STAT FC_STAT.OPEN ∧ State.sameBut [FC_STAT] s t ∧ s.onlyRegsPort t ∧
      t.port = (s.answered rOkay 0).port) ∧
  (∀ (d : Word) (s : State), s.takes FC_CTRL d → FC_CTRL.TRAP_ACK.get d = 0 → FC_CTRL.INJECT.get d = 1 →
    5 ≤ FC_CTRL.INJECT_SRC.get d → FC_CTRL.INJECT_SRC.get d ≤ 31 → s.yieldsAnswered (.inject d) FC_CTRL (fun t =>
      { src := FC_CTRL.INJECT_SRC.get d, injected := true } ∈ t.fault.now))

/-- Interrupts: a claim answers the eligible source of highest PRIO, the lowest of equals, and moves it from pending to active; with none it
answers zero; a completion ends an active source, which pends again while a level event stands and else keeps its pending bit; one that
is not active there sets BAD_COMPLETE; IC_SETPEND pends a source; VP_IRQ stands in every state where an eligible source is steered there
(R340-R343). -/
def Obligations.InterruptsServe : Prop :=
  (∀ (g n : Nat) (s : State), s.quiet → s.alone → g < 8 → n = s.claimable g →
    (n ≠ 0 → s.rd (IC_TGT g) IC_TGT.CLAIMS + 1 < 0xFFFFFFFF → ∃ t, exec (.interruptClaim g) s = .next t ∧
      t.flag (IC_SRC n) IC_SRC.PEND = false ∧ t.flag (IC_SRC n) IC_SRC.ACTIVE = true ∧ (n, g) ∈ t.intc.active ∧
      t.rd (IC_TGT g) IC_TGT.CLAIMS = s.rd (IC_TGT g) IC_TGT.CLAIMS + 1 ∧ State.sameBut [IC_SRC n, IC_TGT g] s t ∧
      t.port = (s.answered rOkay (BitVec.ofNat 64 n)).port ∧ s.eligible n = true ∧ s.rd (IC_SRC n) IC_SRC.STEER = g ∧
      (∀ m, 1 ≤ m → m < 512 → s.eligible m = true → s.rd (IC_SRC m) IC_SRC.STEER = g →
        s.prio m < s.prio n ∨ (s.prio m = s.prio n ∧ n ≤ m))) ∧
    (n = 0 → ∃ t, exec (.interruptClaim g) s = .next t ∧ t = s.answered rOkay 0)) ∧
  (∀ (g : Nat) (d : Word) (s : State), s.quiet → s.alone → g < 8 → s.takes (IC_CLAIM g) d →
    ((IC_CLAIM.SOURCE.get d, g) ∈ s.intc.active → s.eventLevel (IC_CLAIM.SOURCE.get d) = false →
      ∃ t, exec (.interruptComplete g d) s = .next t ∧ t.flag (IC_SRC (IC_CLAIM.SOURCE.get d)) IC_SRC.ACTIVE = false ∧
        (∀ e ∈ t.intc.active, e.1 ≠ IC_CLAIM.SOURCE.get d) ∧
        t.flag (IC_SRC (IC_CLAIM.SOURCE.get d)) IC_SRC.PEND = s.flag (IC_SRC (IC_CLAIM.SOURCE.get d)) IC_SRC.PEND ∧
        State.sameBut [IC_SRC (IC_CLAIM.SOURCE.get d)] s t ∧ t.port = (s.answered rOkay 0).port) ∧
    ((IC_CLAIM.SOURCE.get d, g) ∈ s.intc.active → s.eventLevel (IC_CLAIM.SOURCE.get d) = true →
      s.yieldsAnswered (.interruptComplete g d) (IC_CLAIM g) (fun t => t.flag (IC_SRC (IC_CLAIM.SOURCE.get d)) IC_SRC.ACTIVE = false ∧
        (∀ e ∈ t.intc.active, e.1 ≠ IC_CLAIM.SOURCE.get d) ∧ t.flag (IC_SRC (IC_CLAIM.SOURCE.get d)) IC_SRC.PEND = true)) ∧
    ((IC_CLAIM.SOURCE.get d, g) ∉ s.intc.active → ∃ t, exec (.interruptComplete g d) s = .next t ∧
        t.flag (IC_TGT g) IC_TGT.BAD_COMPLETE = true ∧ State.sameBut [IC_TGT g] s t ∧ s.onlyRegsPort t)) ∧
  (∀ (d : Word) (s : State), s.takes IC_SETPEND d → IC_SETPEND.SOURCE.get d ≠ 0 → listedSource (IC_SETPEND.SOURCE.get d) = true →
    s.yieldsAnswered (.setpend d) IC_SETPEND (fun t => t.flag (IC_SRC (IC_SETPEND.SOURCE.get d)) IC_SRC.PEND = true)) ∧
  (∀ (g : Nat) (s : State), s.irqLine g = true ↔ ∃ m, m < 512 ∧ s.eligible m = true ∧ s.rd (IC_SRC m) IC_SRC.STEER = g)

/-! ### The event recorder -/

/-- The scan ends the search for a flash: without a usable one READY and NOFLASH with a raise, with one the geometry and the positions, and
after chip reset the power-cycle count and a POWER_ON record. A snapshot starts, and at its end its values are queued; a heartbeat is
queued. A record is written at its place with COMMIT all ones, and committed once it has been read back; a failure writes it once more, then
drops it; an erase blanks its unit and no other word, or moves the write position past it (R347, R348, R353-R356, R358). That a snapshot's
values are those read when its reads complete, and that a failed erase leaves the flash as it was and passes to the next unit at once, are
the model's readings (log entry 57), and so is the slot a record takes where one is not blank (log entry 84). -/
def Obligations.RecordsWritten : Prop :=
  (∀ s : State, s.flag ER_STAT ER_STAT.READY = false → s.fault.errReset = false → s.rcd.queue = [] → s.yields (.recorderScan none) (fun t =>
    t.flag ER_STAT ER_STAT.NOFLASH = true ∧ t.flag ER_STAT ER_STAT.READY = true ∧ { src := 25, sub := 1 } ∈ t.fault.now ∧
      t.flash = s.flash ∧ (s.lc.waiting = false → State.sameBut [ER_STAT] s t))) ∧
  (∀ (f : Sfdp) (s : State), s.flag ER_STAT ER_STAT.READY = false → s.fault.errReset = false → sfdpUsable f = true →
    s.flag ER_STAT ER_STAT.FROZEN = false → s.yields (.recorderScan (some f)) (fun t => t.flag ER_STAT ER_STAT.READY = true ∧ t.flag ER_STAT ER_STAT.NOFLASH = false ∧
      t.slotN = sfdpSlots f ∧ t.rcd.scanned = true)) ∧
  (∀ (f : Sfdp) (s : State), s.quiet → s.flag ER_STAT ER_STAT.READY = false → s.fault.errReset = false → sfdpUsable f = true → s.flash = [] →
    s.fuses.lcState ≠ 0 → s.rcd.queue = [] → s.rcd.clearPend = none → ∃ t, exec (.recorderScan (some f)) s = .next t ∧ t.nextCirc = 4096 ∧ t.keptNext = 0 ∧
      t.clearUsed = 0 ∧ t.flash = [] ∧
      (s.rcd.scanned = true → t.rcd.queue = [] ∧ (s.lc.waiting = false → State.sameBut [ER_STAT, ER_GEOM, ER_PTR] s t)) ∧
      (s.rcd.scanned = false → t.pcc = 1 ∧ t.reg HD_AO_TIME = BitVec.ofNat 64 s.clk.aoCount ∧ t.rcd.queue.map (·.type) = [1] ∧
        (s.lc.waiting = false → State.sameBut [ER_STAT, ER_GEOM, ER_PTR, ER_PCC, HD_AO_TIME] s t))) ∧
  (∀ (trig : Nat) (x : Snap) (l m : List Snap) (s : State), s.quiet → s.rcd.snaps = l ++ x :: m →
    (∀ y ∈ l, ¬(y.trig = trig ∧ y.started = false)) → x.trig = trig → x.started = false →
    exec (.snapshotStart trig) s = .next { s with rcd := { s.rcd with snaps := l ++ { x with started := true } :: m } }) ∧
  (∀ (x : Snap) (l m : List Snap) (s : State), s.quiet → s.rcd.snaps = l ++ x :: m → (∀ y ∈ l, y.started = false) → x.started = true →
    s.rcd.queue = [] → s.flag ER_STAT ER_STAT.NOFLASH = false →
    (x.list = 0 → ∃ t, exec .snapshotDone s = .next t ∧ t.rcd.snaps = l ++ m ∧ t.rd ER_STAT ER_STAT.QUEUE = 1 ∧
      t.rcd.queue.map (fun r => (r.type, r.payload, r.kept, r.trig, r.ao, r.beat)) = [(10, [x.raise], x.keep, x.trig, x.ao, x.beat)] ∧
      State.sameBut [ER_STAT] s t) ∧
    (∀ a, x.list ≠ 0 → s.rcd.lists.find? (fun e => e.1 = x.list) = some (x.list, [a]) → ∃ t, exec .snapshotDone s = .next t ∧
      t.rcd.snaps = l ++ m ∧ t.rcd.queue.map (fun r => (r.type, r.payload, r.kept, r.trig)) =
        [(10, [BitVec.ofNat 64 (a * 2 ^ 32 + 0xFFFFFF), (s.readReg a).2], x.keep, x.trig)] ∧ State.sameBut [ER_STAT] s t)) ∧
  (∀ s : State, s.quiet → s.rcd.heartDue ≠ 0 → s.clk.fast ≠ .sleep → s.flag ER_STAT ER_STAT.NOFLASH = false → s.rcd.queue = [] →
    ∃ t, exec .heartbeat s = .next t ∧ t.rcd.heartDue = s.rcd.heartDue - 1 ∧ (s.clk.fast = .nap → t.clk.fast = .restarting) ∧
      t.rcd.queue = [{ type := 2, ao := s.reg HD_AO_TIME, beat := s.clk.beat }] ∧ State.sameBut [ER_STAT] s t) ∧
  (∀ (r : Rec) (l : List Rec) (s : State), s.quiet → s.flag ER_STAT ER_STAT.READY = true → s.flag ER_STAT ER_STAT.NOFLASH = false →
    s.flag ER_STAT ER_STAT.FROZEN = false → s.flag ER_STAT ER_STAT.CLEARING = false → s.rcd.op = .idle → s.clk.fast = .run →
    s.rcd.queue = r :: l → (∀ slot, (r.keptType = false ∧ slot = s.circSlot ∧ 4096 ≤ slot) ∨
        (r.keptType = true ∧ s.flag ER_STAT ER_STAT.KEPT_FULL = false ∧ slot = s.keptNext ∧ slot + 1 < 4080 ∧ s.blankSlot slot = true) →
      ∃ t, exec .recordWrite s = .next t ∧ t.rcd.op = .program slot false s.rcd.lostBefore ∧
        t.rcd.queue = (if r.part = 0 then r :: nameGroup r s.rcd.seq l else s.rcd.queue) ∧
        (4096 ≤ slot → t.nextCirc = circAfter s.slotN slot) ∧ (slot < 4080 → t.keptNext = slot + 1) ∧
        (s.blankSlot slot = true → t.slotWords slot =
          buildRec r false s.rcd.lostBefore s.rcd.seq (if r.part = 0 then s.rcd.seq else r.group) s.pcc) ∧
        (∀ a, ¬(32 * slot ≤ a ∧ a < 32 * slot + 32) → t.flashWord a = s.flashWord a) ∧ State.sameBut [ER_PTR] s t)) ∧
  (∀ (slot : Nat) (second lost : Bool) (r : Rec) (l : List Rec) (s : State), s.quiet → s.rcd.op = .program slot second lost →
    s.rcd.queue = r :: l → recSound (s.slotWords slot) = true → s.rcd.clearPend = none → s.rcd.freezePend = false → s.rcd.dropped = 0 →
    ∃ t, exec (.recordWriteDone true) s = .next t ∧ t.rcd.queue = l ∧
      (t.unitsToErase = [] ∨ t.flag ER_STAT ER_STAT.FROZEN = true → t.rcd.op = .idle) ∧
      (∀ v m, t.unitsToErase = v :: m → t.flag ER_STAT ER_STAT.FROZEN = false → t.rcd.op = .erase v) ∧
      recValid (t.slotWords slot) = true ∧ (∀ a, ¬(32 * slot ≤ a ∧ a < 32 * slot + 32) → t.flashWord a = s.flashWord a) ∧
      (r.type = 3 → t.flag LC_STATE LC_STATE.UNRECORDED = false) ∧
      State.sameBut [ER_STAT, LC_STATE, TH_STAT r.tile] s t) ∧
  (∀ (slot : Nat) (lost : Bool) (r : Rec) (l : List Rec) (s : State), s.quiet → s.rcd.op = .program slot false lost →
    s.rcd.queue = r :: l → (4096 ≤ slot → 4096 ≤ s.circSlot → ∃ t, exec (.recordWriteDone false) s = .next t ∧
      t.rcd.op = .program s.circSlot true lost ∧ t.rcd.queue = s.rcd.queue ∧ t.nextCirc = circAfter s.slotN s.circSlot ∧
      State.sameBut [ER_PTR] s t) ∧
    (∀ v, slot < 4080 → s.firstBlank (4080 - s.keptNext) s.keptNext = some v → v + 1 < 4080 → ∃ t, exec (.recordWriteDone false) s = .next t ∧
      t.rcd.op = .program v true lost ∧ t.rcd.queue = s.rcd.queue ∧ t.keptNext = v + 1 ∧ State.sameBut [ER_PTR] s t)) ∧
  (∀ (slot : Nat) (lost : Bool) (r : Rec) (l : List Rec) (s : State), s.rcd.op = .program slot true lost → s.rcd.queue = r :: l →
    l.length < 28 → s.yields (.recordWriteDone false) (fun t => t.flag ER_STAT ER_STAT.WRITE_FAIL = true ∧ { src := 25, sub := 2 } ∈ t.fault.now ∧
      { src := 25, sub := 4 } ∈ t.fault.now)) ∧
  (∀ (u : Nat) (s : State), s.quiet → s.rcd.op = .erase u → s.rcd.clearPend = none → s.rcd.freezePend = false →
    ∃ t, exec (.eraseDone true) s = .next t ∧ (∀ i, i < 16 → t.blankSlot (16 * u + i) = true) ∧
      (∀ a, ¬(512 * u ≤ a ∧ a < 512 * u + 512) → t.flashWord a = s.flashWord a) ∧ t.rcd.queue = s.rcd.queue ∧ State.sameBut [] s t) ∧
  (∀ (all : Bool) (slot : Nat) (s : State), s.quiet → s.rcd.op = .clear all slot → s.rcd.freezePend = true →
    ∃ t, exec (.eraseDone true) s = .next t ∧ t.flag ER_STAT ER_STAT.FROZEN = true ∧ t.rcd.freezePend = false ∧ t.rcd.op = s.rcd.op ∧
      t.flash = s.flash ∧ State.sameBut [ER_STAT] s t) ∧
  (∀ (u : Nat) (s : State), s.rcd.op = .erase u → s.rcd.clearPend = none → s.rcd.freezePend = false → s.yields (.eraseDone false) (fun t =>
    t.flag ER_STAT ER_STAT.ERASE_FAIL = true ∧ t.nextCirc = 16 * unitAfter s.slotN u ∧
      (s.flag ER_STAT ER_STAT.FROZEN = false → s.blankSlots (16 * unitAfter s.slotN u) (16 * unitAfter s.slotN u + 16) = false →
        t.rcd.op = .erase (unitAfter s.slotN u)) ∧
      { src := 25, sub := 3 } ∈ t.fault.now ∧ t.flash = s.flash ∧ State.sameBut [ER_STAT, ER_PTR] s t))

/-- The recorder's commands: a freeze in force at once, or after the flash operation in progress; the thaw and the expiry end it; a read
position starts a fetch, which fills 64 words in order; a read takes one, or sets UNDERRUN; an abort empties the buffer; a clear is accepted
while armed, or REFUSED, and its end, which a freeze holds off, blanks the areas of its scope; ER_CFG holds its values once locked (R360-R363, R365,
R397). That a clear without a blank clear slot is REFUSED is the model's choice (log entry 84). -/
def Obligations.RecorderCommands : Prop :=
  (∀ (d : Word) (s : State), s.quiet → s.alone → s.takes ER_CTRL d → ER_CTRL.FREEZE.get d = 1 → ER_CTRL.THAW.get d = 0 →
    ER_CTRL.CLEAR.get d = 0 → ER_CTRL.RD_ABORT.get d = 0 → s.flag ER_STAT ER_STAT.FROZEN = false → ∃ t, exec (.freeze d) s = .next t ∧
      (s.rcd.op = .idle → t.flag ER_STAT ER_STAT.FROZEN = true ∧ t.rcd = { s.rcd with clearFirst := false }) ∧
      (s.rcd.op ≠ .idle → t.rcd.freezePend = true ∧ t.flag ER_STAT ER_STAT.FROZEN = false) ∧
      t.flash = s.flash ∧ t.port = (s.answered rOkay 0).port ∧ State.sameBut [ER_STAT] s t) ∧
  (∀ (d : Word) (s : State), s.quiet → s.alone → s.takes ER_CTRL d → ER_CTRL.FREEZE.get d = 0 → ER_CTRL.THAW.get d = 1 →
    ER_CTRL.CLEAR.get d = 0 → ER_CTRL.RD_ABORT.get d = 0 → ∃ t, exec (.thaw d) s = .next t ∧
      t.flag ER_STAT ER_STAT.FROZEN = false ∧ t.rcd.freezePend = false ∧
      (s.rcd.clearPend = none → t.flash = s.flash ∧ State.sameBut [ER_STAT] s t) ∧
      (∀ all, s.rcd.clearPend = some all → s.flag ER_STAT ER_STAT.READY = true → s.flag ER_STAT ER_STAT.NOFLASH = false → s.rcd.op = .idle →
        t.flag ER_STAT ER_STAT.CLEARING = true ∧ t.rcd.clearPend = none ∧ ∃ slot, t.rcd.op = .clear all slot)) ∧
  (∀ s : State, s.quiet → s.flag ER_STAT ER_STAT.FROZEN = true → s.rcd.clearPend = none → ∃ t, exec .freezeExpiry s = .next t ∧
    t.flag ER_STAT ER_STAT.FROZEN = false ∧ (s.unitsToErase = [] ∨ s.rcd.op ≠ .idle ∨ s.flag ER_STAT ER_STAT.READY = false → t.rcd = s.rcd) ∧
    (∀ v m, s.unitsToErase = v :: m → s.rcd.op = .idle → s.flag ER_STAT ER_STAT.READY = true → s.flag ER_STAT ER_STAT.NOFLASH = false →
      t.rcd = { s.rcd with op := .erase v }) ∧ t.flash = s.flash ∧ State.sameBut [ER_STAT] s t) ∧
  (∀ (d : Word) (s : State), s.quiet → s.alone → s.takes ER_RD_PTR d → ∃ t, exec (.erRdPtrWrite d) s = .next t ∧
    (s.flag ER_STAT ER_STAT.READY = true → t.rd ER_RD_PTR ER_RD_PTR.SLOT = ER_RD_PTR.SLOT.get d ∧
      t.rd ER_RD_STAT ER_RD_STAT.SLOT = ER_RD_PTR.SLOT.get d ∧ t.rd ER_RD_STAT ER_RD_STAT.WORD = 0 ∧ t.rd ER_RD_STAT ER_RD_STAT.AVAIL = 0 ∧
      t.rcd.buffer = [] ∧ t.rcd.fetching = true ∧ State.sameBut [ER_RD_PTR, ER_RD_STAT] s t) ∧
    (s.flag ER_STAT ER_STAT.READY = false → t.flag ER_STAT ER_STAT.REFUSED = true ∧ t.rcd = s.rcd ∧ State.sameBut [ER_STAT] s t)) ∧
  (∀ s : State, s.quiet → s.alone → ∃ t, exec .erRdDataRead s = .next t ∧
    (s.rcd.buffer = [] → t.flag ER_RD_STAT ER_RD_STAT.UNDERRUN = true ∧ t.port = (s.answered rOkay 0).port ∧ t.rcd = s.rcd) ∧
    (∀ x l, s.rcd.buffer = x :: l → l.length < 64 → t.port = (s.answered rOkay x).port ∧ t.rcd.buffer = l ∧
      t.rd ER_RD_STAT ER_RD_STAT.AVAIL = l.length ∧
      (s.rd ER_RD_STAT ER_RD_STAT.WORD < 31 → t.rd ER_RD_STAT ER_RD_STAT.WORD = s.rd ER_RD_STAT ER_RD_STAT.WORD + 1 ∧
        t.rd ER_RD_STAT ER_RD_STAT.SLOT = s.rd ER_RD_STAT ER_RD_STAT.SLOT) ∧
      (s.rd ER_RD_STAT ER_RD_STAT.WORD = 31 → t.rd ER_RD_STAT ER_RD_STAT.WORD = 0 ∧ t.rd ER_RD_STAT ER_RD_STAT.SLOT =
        (if s.rd ER_RD_STAT ER_RD_STAT.SLOT + 1 < s.slotN then s.rd ER_RD_STAT ER_RD_STAT.SLOT + 1 else 0))) ∧
    t.flash = s.flash ∧ State.sameBut [ER_RD_STAT] s t) ∧
  (∀ s : State, s.quiet → s.rcd.fetching = true → (s.rcd.op = .idle ∨ s.flag ER_STAT ER_STAT.FROZEN = true) → s.slotN ≠ 0 →
    s.rd ER_RD_STAT ER_RD_STAT.SLOT < s.slotN → ∃ t, exec .fetchDone s = .next t ∧
    t.rcd.buffer = (List.range 64).map (fun i =>
      s.flashWord ((s.rd ER_RD_STAT ER_RD_STAT.SLOT * 32 + s.rd ER_RD_STAT ER_RD_STAT.WORD + i) % (32 * s.slotN))) ∧
    t.rd ER_RD_STAT ER_RD_STAT.AVAIL = 64 ∧ t.flash = s.flash ∧ State.sameBut [ER_RD_STAT] s t) ∧
  (∀ (d : Word) (same : Bool) (s : State), s.quiet → s.alone → s.takes ER_CTRL d → ER_CTRL.FREEZE.get d = 0 → ER_CTRL.THAW.get d = 0 →
    ER_CTRL.CLEAR.get d = 0 → ER_CTRL.RD_ABORT.get d = 1 → ∃ t, exec (.rdAbort d same) s = .next t ∧ t.rcd.fetching = false ∧
      (same = false → t.rcd.buffer = [] ∧ t.rd ER_RD_STAT ER_RD_STAT.AVAIL = 0 ∧ t.rd ER_RD_STAT ER_RD_STAT.ABORT = 1) ∧
      (same = true → s.rcd.fetching = true → (s.rcd.op = .idle ∨ s.flag ER_STAT ER_STAT.FROZEN = true) → s.slotN ≠ 0 → t.rcd.buffer = s.fetched ∧ t.rd ER_RD_STAT ER_RD_STAT.ABORT = 2) ∧
      t.flash = s.flash ∧ State.sameBut [ER_RD_STAT] s t) ∧
  (∀ (d : Word) (s : State), s.quiet → s.alone → s.takes ER_CTRL d → ER_CTRL.FREEZE.get d = 0 → ER_CTRL.THAW.get d = 0 →
    ER_CTRL.CLEAR.get d = 1 → ER_CTRL.RD_ABORT.get d = 0 → ∃ t, exec (.clear d) s = .next t ∧
      (s.flag ER_STAT ER_STAT.CLEAR_ARMED = false ∨ s.clearSlot = none → t.flag ER_STAT ER_STAT.REFUSED = true ∧ t.rcd = s.rcd ∧ t.flash = s.flash) ∧
      (s.flag ER_STAT ER_STAT.CLEAR_ARMED = true → s.flag ER_STAT ER_STAT.READY = true → s.flag ER_STAT ER_STAT.FROZEN = false →
        s.flag ER_STAT ER_STAT.CLEARING = false → s.flag ER_STAT ER_STAT.NOFLASH = false → s.clearUsed < 16 → ER_CTRL.SCOPE.get d = 0 → ∀ slot, s.clearSlot = some slot →
        t.flag ER_STAT ER_STAT.CLEARING = true ∧
        (s.rcd.op = .idle → t.rcd.op = .clear false slot ∧
          (∀ a, ¬(32 * slot ≤ a ∧ a < 32 * slot + 32) → t.flashWord a = s.flashWord a)) ∧
        (s.rcd.op ≠ .idle → t.rcd.clearPend = some false ∧ t.flash = s.flash)) ∧
      State.sameBut [ER_STAT] s t) ∧
  (∀ (s : State), s.quiet → s.flag ER_STAT ER_STAT.FROZEN = true → exec .clearDone s = .next s) ∧
  (∀ (all : Bool) (slot : Nat) (s : State), s.quiet → s.rcd.op = .clear all slot → 4080 ≤ slot → slot < 4096 →
    s.flag ER_STAT ER_STAT.FROZEN = false → s.rcd.freezePend = false → s.clearUsed < 16 → ∃ t, exec .clearDone s = .next t ∧ t.flag ER_STAT ER_STAT.CLEARING = false ∧ t.rcd.op = .idle ∧ t.nextCirc = 4096 ∧
      t.clearUsed = s.clearUsed + 1 ∧ (∀ a, 32 * 4096 ≤ a → a < 32 * s.slotN → t.flashWord a = BitVec.allOnes 64) ∧
      (all = true → t.keptNext = 0 ∧ ∀ a, a < 32 * 4080 → t.flashWord a = BitVec.allOnes 64) ∧
      (all = false → t.keptNext = s.keptNext ∧ ∀ a, a < 32 * 4080 → t.flashWord a = s.flashWord a) ∧
      State.sameBut [ER_STAT, ER_PTR] s t) ∧
  (∀ s : State, s.quiet → s.fuses.lcState ≠ 0 → ∃ t, exec .clearArmExpiry s = .next t ∧
    t.flag ER_STAT ER_STAT.CLEAR_ARMED = false ∧ t.rcd = s.rcd ∧ t.flash = s.flash ∧ State.sameBut [ER_STAT] s t) ∧
  (∀ (d : Word) (s : State), s.quiet → s.alone → s.takes ER_CFG d → ∃ t, exec (.erCfgWrite d) s = .next t ∧
    (s.flag ER_CFG ER_CFG.LOCK = false → t.rd ER_CFG ER_CFG.QUAD = ER_CFG.QUAD.get d ∧ t.rd ER_CFG ER_CFG.DIV = ER_CFG.DIV.get d ∧
      t.rd ER_CFG ER_CFG.LOCK = ER_CFG.LOCK.get d) ∧
    (s.flag ER_CFG ER_CFG.LOCK = true → t.reg ER_CFG = s.reg ER_CFG) ∧ t.rcd = s.rcd ∧ t.flash = s.flash ∧ State.sameBut [ER_CFG] s t)

/-! ### The coordination link -/

/-- A port comes up by DETECT, TRAINING, HELLO and AUTH: a fresh nonce goes out in HELLO, the peer's HELLO is answered by the tag of both,
the right tag makes the port UP, another isolates it and raises LINK; a port that falls empties its buffers, raises LINK, and takes the
reference of the DCO with it where it led to the parent; signal on a lane also wakes a sleeping Wellhead that has the LINK source armed, and
does nothing to another. A frame for another instance goes on with one hop less, or is discarded and counted; unacknowledged frames go out
again in order (R318, R367-R372, R377, R378, R380). The DST of the AUTH frame is presumed (log entry 59); the HELLO at the end of training,
and which discards are counted, are the model's readings (log entry 60). -/
def Obligations.PortsComeUp : Prop :=
  (∀ (n : Nat) (s : State), s.quiet → s.portOn n = true → s.portState n = poDetect →
    (s.clk.fast ≠ .sleep → ∃ t, exec (.portSignalDetect n) s = .next t ∧ t.portState n = poTraining ∧ t.link = s.link ∧
      State.sameBut [CL_PORT n, CL_STAT, HD_PWR_STAT] s t ∧ (s.awake → State.sameBut [CL_PORT n, CL_STAT] s t)) ∧
    (s.clk.fast = .sleep → 8 &&& s.armed ≠ 0 → ∃ t, exec (.portSignalDetect n) s = .next t ∧ t.portState n = poTraining ∧ t.clk.fast = .restarting ∧
      t.rd HD_PWR_STAT HD_PWR_STAT.RESULT = 1 ∧ t.rd HD_PWR_STAT HD_PWR_STAT.LAST_WAKE = 8 &&& s.armed) ∧
    (s.clk.fast = .sleep → 8 &&& s.armed = 0 → exec (.portSignalDetect n) s = .next s)) ∧
  (∀ (n : Nat) (s : State), s.quiet → s.portOn n = true → s.portState n = poTraining → ∃ t, exec (.trainingDone n) s = .next t ∧
    t.portState n = poHello ∧ (t.port_ n).nonce = (Config.freeBits s.freeCtr).setWidth 128 ∧ t.freeCtr = s.freeCtr + 1 ∧
    s.sends t n (fun g => frd g FR.TYPE = 1 ∧ frd g FR.SRC = s.inst ∧ pay g 2 ++ pay g 3 = s.fuses.uid ∧ pay g 4 ++ pay g 5 = (t.port_ n).nonce) ∧
    State.sameBut [CL_PORT n, CL_STAT] s t) ∧
  (∀ (c : Instr) (n : Nat) (s : State), s.quiet → ((c = .trainingTimeout n ∧ s.portState n = poTraining) ∨
      (c = .isolationExpiry n ∧ s.portState n = poIsolated)) → ∃ t, exec c s = .next t ∧ t.portState n = poDetect ∧ t.port_ n = {} ∧
    t.link.sent = s.link.sent ∧ State.sameBut [CL_PORT n, CL_STAT] s t) ∧
  (∀ (n : Nat) (s : State), s.quiet → n < 4 → s.portState n ∈ [poHello, poAuth, poUp] → ∃ t, exec (.helloTx n) s = .next t ∧
    s.sends t n (fun g => frd g FR.TYPE = 1 ∧ frd g FR.ACK = (s.port_ n).ack % 256 ∧ pay g 4 ++ pay g 5 = (s.port_ n).nonce) ∧
    State.sameBut [] s t) ∧
  (∀ (n : Nat) (f : LinkFrame) (s : State), s.quiet → n < 4 → s.portState n = poHello → frd f FR.TYPE = 1 → frameOk f = true →
    frd f FR.CLASS = 0 → (s.port_ n).resend = [] → (s.port_ n).waiting = [] → ∃ t, exec (.hello n f) s = .next t ∧ t.portState n = poAuth ∧
      t.rd (CL_PORT n) CL_PORT.NEIGHBOUR = payBits f 1 63 52 ∧ t.rd (CL_PORT n) CL_PORT.NPORT = payBits f 1 51 50 ∧
      (t.port_ n).peerUid = pay f 2 ++ pay f 3 ∧ (t.port_ n).peerNonce = pay f 4 ++ pay f 5 ∧
      s.sends t n (fun g => frd g FR.TYPE = 2 ∧ frd g FR.DST = payBits f 1 63 52 ∧ pay g 1 ++ pay g 2 = t.ownTag n) ∧
      State.sameBut [CL_PORT n, CL_STAT] s t) ∧
  (∀ (n : Nat) (f : LinkFrame) (s : State), n < 4 → s.portState n = poAuth → frd f FR.TYPE = 2 → frameOk f = true → frd f FR.CLASS = 1 →
    frd f FR.SEQ = (s.port_ n).rxSeq → (s.port_ n).waiting = [] →
    s.yields (.auth n f) (fun t => State.sameBut [CL_PORT n, CL_STAT] s t ∧
      (pay f 1 ++ pay f 2 = s.peerTag n → t.portState n = poUp ∧ t.fault = s.fault) ∧
      (pay f 1 ++ pay f 2 ≠ s.peerTag n → t.portState n = poIsolated ∧ t.port_ n = {} ∧ { src := 31, sub := 32 + n } ∈ t.fault.now))) ∧
  (∀ (c : Instr) (n : Nat) (s : State), (c = .portDown n ∨ c = .portSilenceTimeout n) → s.portUp n = true →
    (s.follows = false → s.yields c (fun t => t.portState n = poDetect ∧ t.port_ n = {} ∧ { src := 31, sub := 16 + n } ∈ t.fault.now ∧
      State.sameBut [CL_PORT n, CL_STAT] s t)) ∧
    (s.follows = true → s.rd CL_TIME CL_TIME.PARENT = n → s.ckMode = ckLocked → s.rd HD_CLK HD_CLK.LOSSES + 1 < 0xFFFFFFFF →
      s.yields c (fun t => t.portState n = poDetect ∧ t.ckMode = ckHoldover ∧ { src := 6 } ∈ t.fault.now ∧
        { src := 31, sub := 16 + n } ∈ t.fault.now ∧ State.sameBut [CL_PORT n, CL_STAT, HD_CLK] s t))) ∧
  (∀ (n : Nat) (f : LinkFrame) (s : State), s.quiet → s.comes n (frd f FR.TYPE) f → 0x20 ≤ frd f FR.TYPE → frd f FR.DST ≠ s.inst →
    (∀ m, frd f FR.HOPS ≠ 0 → s.wayTo (frd f FR.DST) m → (s.port_ m).waiting = [] → ∃ t, exec (.frameForward n f) s = .next t ∧
      s.sends t m (fun g => g.payload = f.payload ∧ frd g FR.HOPS = frd f FR.HOPS - 1 ∧ frd g FR.DST = frd f FR.DST ∧
        frd g FR.SRC = frd f FR.SRC ∧ frd g FR.TYPE = frd f FR.TYPE ∧ frameOk f = true) ∧ State.sameBut [] s t) ∧
    ((frd f FR.HOPS = 0 ∨ s.routeMask (frd f FR.DST) = 0) → s.rd (CL_PORT n) CL_PORT.ERRORS + 1 < 0xFFFFFFFF → ∃ t, exec (.frameForward n f) s = .next t ∧
      t.rd (CL_PORT n) CL_PORT.ERRORS = s.rd (CL_PORT n) CL_PORT.ERRORS + 1 ∧ t.link.sent = s.link.sent ∧ State.sameBut [CL_PORT n] s t)) ∧
  (∀ (n : Nat) (f : LinkFrame) (s : State), s.quiet → s.portState n = poHello → frd f FR.TYPE = 2 →
    s.rd (CL_PORT n) CL_PORT.ERRORS + 1 < 0xFFFFFFFF → ∃ t, exec (.auth n f) s = .next t ∧ t.portState n = poHello ∧
      t.rd (CL_PORT n) CL_PORT.ERRORS = s.rd (CL_PORT n) CL_PORT.ERRORS + 1 ∧ t.link = s.link ∧ State.sameBut [CL_PORT n] s t) ∧
  (∀ (c : Instr) (n : Nat) (f : LinkFrame) (s : State), s.quiet → s.portUp n = true → frameOk f = false →
    s.rd (CL_PORT n) CL_PORT.ERRORS + 1 < 0xFFFFFFFF → ((c = .adv n f ∧ frd f FR.TYPE = 0x10) ∨
      (c = .frameForward n f ∧ 0x20 ≤ frd f FR.TYPE ∧ frd f FR.DST ≠ s.inst) ∨ (c = .pullData n f ∧ frd f FR.TYPE = 0x32 ∧ frd f FR.DST = s.inst)) →
    ∃ t, exec c s = .next t ∧ t.rd (CL_PORT n) CL_PORT.ERRORS = s.rd (CL_PORT n) CL_PORT.ERRORS + 1 ∧ t.link = s.link ∧
      State.sameBut [CL_PORT n] s t) ∧
  (∀ (n : Nat) (s : State), s.quiet → n < 4 → ∃ t, exec (.frameResend n) s = .next t ∧
    t.link.sent = s.link.sent ++ (s.port_ n).resend.map (fun f => (n, sealFrame f (frd f FR.SEQ) (s.port_ n).ack)) ∧
    t.link.ports = s.link.ports ∧ State.sameBut [] s t)

/-- The fabric: an ADV goes out with the next ADV_SEQ; a newer one is held, an older one is not; a conflict of addresses is marked and raised, and
cleared once an address has moved. Alone the instance is its own root; with one neighbour of higher priority it follows it by the port that
leads there. MARKs carry and return timestamps; an offset above 50 ns makes an instance that follows step, on the parent's next boundary (R373-R380,
R382). That a MARK without an echo gives no sample is log entry 61, and that NODES counts the instance itself log entry 62: the model's readings. -/
def Obligations.FabricFollows : Prop :=
  (∀ (n : Nat) (s : State), s.quiet → s.upPorts = [n] → s.flag CL_STAT CL_STAT.ADDR_CONFLICT = false → (s.port_ n).resend.length < 128 →
    ∃ t, exec .advTx s = .next t ∧ t.link.advSeq = (s.link.advSeq + 1) % 2 ^ 32 ∧
      s.sends t n (fun g => frd g FR.TYPE = 0x10 ∧ frd g FR.SRC = s.inst ∧ payBits g 1 63 32 = t.link.advSeq ∧
        payBits g 1 31 24 = s.rd CL_STAT CL_STAT.ROOT_PRIO ∧ pay g 2 = BitVec.ofNat 64 s.clk.beat ∧ pay g 4 ++ pay g 5 = s.fuses.uid) ∧
      State.sameBut [] s t) ∧
  (∀ (n : Nat) (f : LinkFrame) (s : State), s.quiet → s.comes n 0x10 f → s.upPorts = [n] → (advOf f).uid ≠ s.fuses.uid →
    (advOf f).inst ≠ s.inst → s.jobState = jbSolo →
    ∃ t, exec (.adv n f) s = .next t ∧ State.sameBut [] s t ∧ t.link.sent = s.link.sent ∧
      (s.advNewer (advOf f) = true → t.link.advs = advOf f :: s.link.advs.filter (fun b => !(b.inst == (advOf f).inst && b.uid == (advOf f).uid))) ∧
      (s.advNewer (advOf f) = false → t.link.advs = s.link.advs)) ∧
  (∀ (n : Nat) (f : LinkFrame) (s : State), s.comes n 0x10 f → (advOf f).uid ≠ s.fuses.uid → (advOf f).inst = s.inst → s.jobState = jbSolo →
    s.flag CL_STAT CL_STAT.ADDR_CONFLICT = false → s.yields (.adv n f) (fun t => t.flag CL_STAT CL_STAT.ADDR_CONFLICT = true ∧
      t.link.conflict = some (s.inst, (advOf f).uid) ∧ { src := 31, sub := 0x3F } ∈ t.fault.now ∧ State.sameBut [CL_STAT] s t)) ∧
  (∀ (i : Nat) (s : State), s.quiet → ∃ t, exec (.advExpiry i) s = .next t ∧
    (∀ a, a ∈ t.link.advs ↔ a ∈ s.link.advs ∧ a.inst ≠ i) ∧ t.link.ports = s.link.ports ∧ t.link.sent = s.link.sent ∧ State.sameBut [] s t) ∧
  (∀ s : State, s.quiet → (∀ i uid, s.link.conflict = some (i, uid) → s.conflictMoved i uid = true →
      ∃ t, exec .addrConflictClear s = .next t ∧ t.flag CL_STAT CL_STAT.ADDR_CONFLICT = false ∧ t.link.conflict = none ∧
        State.sameBut [CL_STAT] s t) ∧
    (∀ i uid, s.link.conflict = some (i, uid) → s.conflictMoved i uid = false → exec .addrConflictClear s = .next s)) ∧
  (∀ s : State, s.quiet → s.link.advs = [] → s.link.reroute = [] → s.rd CL_STAT CL_STAT.ROOT_PRIO ≠ 0 →
    s.flag CL_STAT CL_STAT.ADDR_CONFLICT = false → s.flag CL_TIME CL_TIME.SRC = false → ∃ t, exec .routeRecompute s = .next t ∧
      t.rd CL_STAT CL_STAT.ROOT = s.inst ∧ t.rd CL_STAT CL_STAT.ROOT_HOPS = 0 ∧ t.rd CL_STAT CL_STAT.NODES = 1 ∧
      t.flag CL_STAT CL_STAT.NO_ROOT = false ∧ t.timeState = tmRoot ∧ t.rd CL_TIME CL_TIME.PARENT = 0xF ∧
      (∀ d, d < 4096 → d ≠ s.inst → t.routeMask d = 0 ∧ t.routeHops d = 0xF) ∧
      (∀ a, a ≠ CL_STAT → a ≠ CL_TIME → (∀ d, d < 4096 → a ≠ CL_ROUTE d) → t.reg a = s.reg a)) ∧
  (∀ (n j : Nat) (x : AdvX) (s : State), s.quiet → s.link.advs = [x] → x.inst < 4096 → x.inst ≠ s.inst → n < 4 → j < 4 → s.upPorts = [n] →
    s.advPort n = portField x.inst j + 2 → portOf x.ports j = portField s.inst n + 2 → (∀ i, i < 4 → i ≠ j → bit (portOf x.ports i) 1 = false) →
    s.rd CL_STAT CL_STAT.ROOT_PRIO < x.prio → s.link.reroute = [] → s.timeState ∉ [tmAligning, tmOut, tmAhead] →
    ∃ t, exec .routeRecompute s = .next t ∧ t.routeMask x.inst = 2 ^ n ∧ t.routeHops x.inst = 1 ∧ t.rd CL_STAT CL_STAT.NODES = 2 ∧
      t.rd CL_STAT CL_STAT.ROOT = x.inst ∧ t.rd CL_STAT CL_STAT.ROOT_HOPS = 1 ∧ t.timeState = tmFollow ∧ t.follows = true ∧
      t.rd CL_TIME CL_TIME.PARENT = n ∧
      (∀ a, a ∉ [CL_STAT, CL_TIME, HD_CLK] → (∀ d, d < 4096 → a ≠ CL_ROUTE d) → t.reg a = s.reg a)) ∧
  (∀ (f : Int) (s : State), s.quiet → s.follows = true → s.ckMode = ckLocked → ∃ t, exec (.followUpdate f) s = .next t ∧
    t.clk.dco.f1 = s.clk.dco.f1 + clampI (-6400) 6400 (f - clampI (-320000) 320000
      (32 * clampI (-5000) 5000 (roundDiv (s.rdi CL_TIME CL_TIME.OFFSET * 125) 2)) - s.clk.dco.f1) ∧ t.ckMode = ckLocked ∧ State.sameBut [] s t) ∧
  (∀ s : State, s.follows = true → s.ckMode = ckLocked → s.rd HD_CLK HD_CLK.LOSSES + 1 < 0xFFFFFFFF →
    s.yields .parentLost (fun t => t.ckMode = ckHoldover ∧ { src := 6 } ∈ t.fault.now ∧ State.sameBut [HD_CLK] s t)) ∧
  (∀ s : State, 800 < (s.rdi CL_TIME CL_TIME.OFFSET).natAbs → s.timeState = tmFollow → s.jobState = jbSolo →
    s.clk.beat < (s.parentBoundary s.offsetWide).1 → s.yields .timeOffsetExceeded (fun t => t.timeState = tmOut ∧
      { src := 31, sub := 0x4F } ∈ t.fault.now ∧ State.sameBut [CL_TIME] s t)) ∧
  (∀ s : State, s.timeState = tmOut → s.stepOpen = true →
    (s.clk.beat < (s.parentBoundary s.offsetWide).1 → s.quiet → ∃ t, exec .timeStep s = .next t ∧ t.timeState = tmAligning ∧
      t.clk.stepTo = some (s.parentBoundary s.offsetWide).1 ∧ t.clk.beatLeft = (s.parentBoundary s.offsetWide).2 ∧ t.clk.beat = s.clk.beat ∧
      State.sameBut [CL_TIME] s t) ∧
    ((s.parentBoundary s.offsetWide).1 ≤ s.clk.beat → s.yields .timeStep (fun t => t.timeState = tmAhead ∧
      { src := 31, sub := 0x4F } ∈ t.fault.now ∧ t.follows = false))) ∧
  (∀ (n pos : Nat) (s : State), s.quiet → s.portUp n = true → pos < 16000 → ∃ t, exec (.markTx n pos) s = .next t ∧
    s.sends t n (fun g => frd g FR.TYPE = 3 ∧ pay g 1 = s.stamp pos ∧ pay g 2 = (s.port_ n).echoTx ∧ pay g 3 = (s.port_ n).echoRx) ∧
    State.sameBut [] s t) ∧
  (∀ (n pos : Nat) (f : LinkFrame) (s : State), s.quiet → s.comes n 3 f → pos < 16000 → s.link.stampFrom = 0 →
    ∃ t, exec (.mark n f pos) s = .next t ∧ (t.port_ n).echoTx = pay f 1 ∧ (t.port_ n).echoRx = s.stamp pos ∧
      (pay f 2 = 0 → (t.port_ n).delays = (s.port_ n).delays ∧ State.sameBut [] s t) ∧
      (pay f 2 ≠ 0 → s.rd CL_TIME CL_TIME.PARENT ≠ n →
        (t.port_ n).delays = (markDelay (pay f 1) (pay f 2) (pay f 3) (s.stamp pos) :: (s.port_ n).delays).take 16 ∧
        (t.port_ n).offsets = (markOffset (pay f 1) (pay f 2) (pay f 3) (s.stamp pos) :: (s.port_ n).offsets).take 16 ∧
        t.rd (CL_PORT n) CL_PORT.DELAY = (clampI 0 0x3FFF (meanHalf (t.port_ n).delays 8)).toNat ∧ State.sameBut [CL_PORT n] s t))

/-! ### Jobs and pulls -/

/-- Jobs: a JOIN is refused with the first condition that fails, or founds a job; a LEAVE takes effect at the window boundary, and in
JOINING at once, in SOLO with CG_SHARE.VALID clear (the model's reading, log entry 63); JOINs repeat three times; the leader admits from the
present window + 2 or refuses; the membership starts. The leader counts members, takes NEED and SYNC_DONE, and answers with the largest
need; a member holds AGREE and SYNC_REL of its leader in time. The root answers share requests by SYSCAP, and a share sets CG_SHARE
(R383-R388). The port that counts a frame without a route is log entry 60. -/
def Obligations.JobsAgree : Prop :=
  (∀ (d : Word) (s : State), s.quiet → s.alone → s.takes CL_JOB d → CL_JOB.JOIN.get d = 1 → CL_JOB.LEAVE.get d = 0 → CL_JOB.JOB_ID.get d ≠ 0 →
    s.jobState = jbSolo → ∃ t, exec (.join d) s = .next t ∧ t.jobId = CL_JOB.JOB_ID.get d ∧ State.sameBut [CL_JOB] s t ∧
      (s.active = false → t.jobState = jbSolo ∧ t.rd CL_JOB CL_JOB.REFUSE = 1) ∧
      (s.active = true → s.timeState ≠ tmRoot → s.timeState ≠ tmFollow → t.jobState = jbSolo ∧ t.rd CL_JOB CL_JOB.REFUSE = 2) ∧
      (s.active = true → s.timeState = tmRoot → s.flag CL_STAT CL_STAT.ADDR_CONFLICT = true → t.jobState = jbSolo ∧ t.rd CL_JOB CL_JOB.REFUSE = 3) ∧
      (s.active = true → s.timeState = tmRoot → s.flag CL_STAT CL_STAT.ADDR_CONFLICT = false → s.link.advs = [] → t.jobState = jbJoining ∧
        t.jobLeader = s.inst ∧ t.link.job.first = some (s.winNow + 1) ∧ t.link.job.lead = true)) ∧
  (∀ (d : Word) (s : State), s.quiet → s.alone → s.takes CL_JOB d → CL_JOB.LEAVE.get d = 1 → ∃ t, exec (.leave d) s = .next t ∧
    t.jobId = 0 ∧ State.sameBut [CL_JOB, CG_STAT, CG_SHARE] s t ∧
    (s.jobState ≠ jbJoining → t.reg CG_STAT = s.reg CG_STAT ∧ t.reg CG_SHARE = s.reg CG_SHARE) ∧
    (s.jobState = jbJoining → t.jobState = jbSolo ∧ t.flag CG_SHARE CG_SHARE.VALID = false) ∧ t.link.job.rejoin = false ∧
    (s.jobState = jbSolo → t.jobState = jbSolo) ∧ (s.jobState = jbMember → t.jobState = jbLeaving ∧ t.link.job.leavePend = true)) ∧
  (∀ s : State, s.quiet → s.jobState = jbJoining → s.link.job.first = none → ∃ t, exec .joinRetry s = .next t ∧
    (s.link.job.tries < 3 → t.link.job.tries = s.link.job.tries + 1 ∧ t.jobState = jbJoining ∧ State.sameBut [CL_PORT s.ownPort] s t ∧
      ∀ n, s.wayTo s.jobLeader n → s.sends t n (fun g => frd g FR.TYPE = 0x20 ∧ frd g FR.DST = s.jobLeader)) ∧
    (3 ≤ s.link.job.tries → t.jobState = jbSolo ∧ t.rd CL_JOB CL_JOB.REFUSE = 6 ∧ State.sameBut [CL_JOB] s t)) ∧
  (∀ (n : Nat) (f : LinkFrame) (s : State), s.quiet → s.hears n 0x20 f → s.flag CL_STAT CL_STAT.NO_ROOT = false → s.leads = true → s.jobState = jbLeader →
    payBits f 1 63 48 = s.link.job.id → ∃ t, exec (.joinFrame n f) s = .next t ∧
      (payBits f 1 41 32 ≠ s.rd CG_CFG0 CG_CFG0.APPLY_BEATS → t.link.job = s.link.job ∧ State.sameBut [CL_PORT s.ownPort] s t ∧
        ∀ m, s.wayTo (frd f FR.SRC) m → s.sends t m (fun g => frd g FR.TYPE = 0x21 ∧ payBits g 1 11 8 = 4)) ∧
      (payBits f 1 41 32 = s.rd CG_CFG0 CG_CFG0.APPLY_BEATS →
        256 + 2 * s.latOf (frd f FR.SRC :: s.link.job.members.map (·.inst)) ≤ s.rd CG_CFG0 CG_CFG0.APPLY_BEATS →
        t.link.job.members = s.link.job.members.filter (fun e => e.inst != frd f FR.SRC) ++ [{ inst := frd f FR.SRC, first := s.winNow + 2 }] ∧
        State.sameBut [CL_JOB, CL_PORT s.ownPort] s t ∧ ∀ m, s.wayTo (frd f FR.SRC) m →
          s.sends t m (fun g => frd g FR.TYPE = 0x21 ∧ payBits g 1 11 8 = 0 ∧ pay g 2 = BitVec.ofNat 64 (s.winNow + 2)))) ∧
  (∀ (n : Nat) (f : LinkFrame) (s : State), s.quiet → s.hears n 0x21 f → frd f FR.SRC = s.jobLeader → payBits f 1 63 48 = s.link.job.id →
    s.jobState = jbJoining → ∃ t, exec (.admitFrame n f) s = .next t ∧ State.sameBut [CL_JOB] s t ∧
      t.rd CL_JOB CL_JOB.REFUSE = payBits f 1 11 8 ∧
      (payBits f 1 11 8 = 0 → t.link.job.first = some (pay f 2).toNat ∧ t.jobState = jbJoining) ∧
      (payBits f 1 11 8 ≠ 0 → t.jobState = jbSolo ∧ t.link.job.first = none)) ∧
  (∀ (w : Nat) (s : State), s.quiet → s.link.job.first = some w → w ≤ s.winNow → s.jobState = jbJoining → ∃ t, exec .jobMembershipStart s = .next t ∧
    t.flag CG_STAT CG_STAT.SOLO = false ∧ t.link.job.first = none ∧ State.sameBut [CL_JOB, CG_STAT] s t ∧
    (s.link.job.lead = false → t.jobState = jbMember) ∧
    (s.link.job.lead = true → s.link.job.members = [] → t.jobState = jbLeader ∧ t.rd CL_JOB CL_JOB.MEMBERS = 1 ∧ t.rd CL_JOB CL_JOB.LAT = 4)) ∧
  (∀ (n : Nat) (f : LinkFrame) (s : State), s.quiet → s.hears n 0x22 f → s.leads = true → payBits f 1 63 48 = s.link.job.id →
    s.clk.beatLeft ≠ 250 → s.link.job.members.length < 4096 → ∃ t, exec (.leaveFrame n f) s = .next t ∧
      t.link.job.members = s.link.job.members.filter (fun e => e.inst != frd f FR.SRC) ∧
      t.rd CL_JOB CL_JOB.MEMBERS = t.link.job.members.length + 1 ∧ State.sameBut [CL_JOB] s t) ∧
  (∀ s : State, (s.reaches s.jobLeader = true → s.quiet → exec .leaderTimeout s = .next s) ∧
    (s.reaches s.jobLeader = false → s.jobState = jbMember → s.link.job.nextLeader = none → s.jobPeers s.link.job.id = [] →
      s.yields .leaderTimeout (fun t => t.link.job.nextLeader = some s.inst ∧ { src := 31, sub := 0x8F } ∈ t.fault.now ∧ State.sameBut [] s t))) ∧
  (∀ (n : Nat) (f : LinkFrame) (s : State), s.quiet → s.hears n 0x23 f → s.unheard f 0 (2 * (pay f 1).toNat + payBits f 2 59 59) →
    s.leads = true → s.clk.beatLeft ≠ 250 → ∃ t, exec (.need n f) s = .next t ∧ State.sameBut [] s t ∧
      t.link.job.members.length = s.link.job.members.length ∧
      (∀ e ∈ t.link.job.members, e.inst = frd f FR.SRC → e.play = (payBits f 2 59 59 == 1) ∧
        ((pay f 1).toNat = s.winNow → s.link.job.agreedWin ≠ some s.winNow → e.need = some (s.winNow, payBits f 2 63 60))) ∧
      (∀ e ∈ t.link.job.members, e.inst ≠ frd f FR.SRC → e ∈ s.link.job.members)) ∧
  (∀ s : State, s.quiet → s.leads = true → s.link.job.agreedWin ≠ some s.winNow → s.needsHeld ≠ [] → ∃ t, exec .agreeDeadline s = .next t ∧
    t.link.job.agreedWin = some s.winNow ∧ (∃ r, t.gov.agreed = some r ∧ r ∈ s.needsHeld ∧ ∀ x ∈ s.needsHeld, x ≤ r) ∧ State.sameBut [CL_PORT s.ownPort] s t ∧
    ((∀ m ∈ s.present, s.routeMask m.inst ≠ 0) → State.sameBut [] s t)) ∧
  (∀ (n : Nat) (f : LinkFrame) (s : State), s.quiet → s.hears n 0x24 f → s.unheard f 0 (pay f 1).toNat → s.inJob = true →
    frd f FR.SRC = s.jobLeader → (pay f 1).toNat = s.winNow → ∃ t, exec (.agree n f) s = .next t ∧ State.sameBut [] s t ∧
      (s.clk.beat + 64 ≤ (pay f 3).toNat → s.rd CG_STAT CG_STAT.R_NEED ≤ payBits f 2 63 60 → t.gov.agreed = some (payBits f 2 63 60) ∧
        t.gov.applyAt = (pay f 3).toNat) ∧
      ((pay f 3).toNat < s.clk.beat + 64 → t.gov = s.gov) ∧ (payBits f 2 63 60 < s.rd CG_STAT CG_STAT.R_NEED → t.gov = s.gov)) ∧
  (∀ (n : Nat) (f : LinkFrame) (s : State), s.quiet → s.hears n 0x25 f → s.unheard f (payBits f 1 63 56) (payBits f 1 55 55) →
    s.leads = true → (∃ e ∈ s.link.job.members, e.inst = frd f FR.SRC) → s.clk.beatLeft ≠ 250 → ∃ t, exec (.syncDone n f) s = .next t ∧
      t.link.job.syncs = s.link.job.syncs ++ [⟨payBits f 1 63 56, payBits f 1 55 55, frd f FR.SRC, (pay f 2).toNat, payBits f 1 3 0⟩] ∧
      State.sameBut [] s t) ∧
  (∀ (n : Nat) (f : LinkFrame) (s : State), s.hears n 0x26 f → s.unheard f (payBits f 1 63 56) (payBits f 1 55 55) → s.inJob = true →
    frd f FR.SRC = s.jobLeader → s.holdsSync (payBits f 1 63 56) (payBits f 1 55 55) = true → s.yields (.syncRel n f) (fun t =>
      t.holdsSync (payBits f 1 63 56) (payBits f 1 55 55) = false ∧
      ((pay f 2).toNat ≤ s.clk.beat → { src := 31, sub := 0x6F } ∈ t.fault.now))) ∧
  (∀ (n : Nat) (f : LinkFrame) (s : State), s.quiet → s.hears n 0x27 f → s.unheard f 0 (pay f 1).toNat → s.timeState = tmRoot →
    s.clk.beatLeft ≠ 250 → ∃ t, exec (.shareReq n f) s = .next t ∧ State.sameBut [] s t ∧
      t.link.reqs = s.link.reqs.filter (fun r => r.inst != frd f FR.SRC) ++ [⟨frd f FR.SRC, (pay f 1).toNat, payBits f 2 63 32, payBits f 2 31 0⟩]) ∧
  (∀ (d l : Nat) (s : State), s.quiet → s.timeState = tmRoot → s.link.shareWin ≠ some s.winNow → s.link.reqs = [⟨s.inst, s.winNow, d, l⟩] →
    l < 2 ^ 24 → ∃ t, exec .shareDeadline s = .next t ∧ t.link.reqs = [] ∧ t.link.shareWin = some s.winNow ∧ State.sameBut [CG_SHARE] s t ∧
      (s.rd CL_SYSCAP CL_SYSCAP.SYSCAP = 0 → t.flag CG_SHARE CG_SHARE.VALID = false) ∧
      (s.rd CL_SYSCAP CL_SYSCAP.SYSCAP ≠ 0 → d ≤ s.rd CL_SYSCAP CL_SYSCAP.SYSCAP → t.flag CG_SHARE CG_SHARE.VALID = true ∧
        t.rd CG_SHARE CG_SHARE.SHARE = l ∧ t.rd CG_SHARE CG_SHARE.AGE = 0)) ∧
  (∀ (n : Nat) (f : LinkFrame) (s : State), s.quiet → s.hears n 0x28 f → s.unheard f 0 (pay f 1).toNat →
    frd f FR.SRC = s.rd CL_STAT CL_STAT.ROOT → ∃ t, exec (.share n f) s = .next t ∧ State.sameBut [CG_SHARE] s t ∧
      (payBits f 2 39 39 = 0 → t.flag CG_SHARE CG_SHARE.VALID = true ∧ t.rd CG_SHARE CG_SHARE.SHARE = payBits f 2 63 40 ∧
        t.rd CG_SHARE CG_SHARE.AGE = 0) ∧
      (payBits f 2 39 39 = 1 → t.flag CG_SHARE CG_SHARE.VALID = false))

/-- Pulls: GO opens one at the source, or fails where no slice is open; an OPEN is answered with the object's length and ID, or its refusal;
the OFFER is taken, and a fifth pull is answered BUSY; a CREDIT sends the words; an object that is no longer stable is served no more, and
what waits of it is dropped; a DATA frame's words count once, in order; a pull without a load, without its source, or aborted ends FAILED
with its result (R389, R390, R393). That DATA without a receiving load ends EXPIRED, and a GO without an open slice NO_OBJECT, are the
model's readings (log entry 64), and the port that counts a frame without a route is log entry 60. -/
def Obligations.PullsMove : Prop :=
  (∀ (d : Word) (s : State), s.quiet → s.alone → s.takes CL_PULL d → CL_PULL.GO.get d = 1 → CL_PULL.ABORT.get d = 0 →
    CL_PULL.OBJ.get d = 0 → s.pulling = false → ∃ t, exec (.pullGo d) s = .next t ∧ t.pullState = 1 ∧
      t.link.pull.src = CL_PULL.SRC_INST.get d ∧ t.link.pull.opens = [CL_PULL.TILE.get d] ∧ t.reg CL_PULL_ID = 0 ∧
      (∀ n, s.wayTo (CL_PULL.SRC_INST.get d) n → s.sends t n (fun g => frd g FR.TYPE = 0x30 ∧ frd g FR.DST = CL_PULL.SRC_INST.get d ∧
        payBits g 1 63 60 = 0 ∧ payBits g 1 59 52 = CL_PULL.TILE.get d)) ∧
      State.sameBut [CL_PULL, CL_PULL_STAT, CL_PULL_ID, CL_PORT s.ownPort] s t) ∧
  (∀ (d : Word) (s : State), s.takes CL_PULL d → CL_PULL.GO.get d = 1 → CL_PULL.ABORT.get d = 0 → CL_PULL.OBJ.get d = 1 →
    CL_PULL.TILE.get d = 0xFF → s.pulling = false → (∀ u, u < s.tileCount → s.sliceOpen u = false) → s.yieldsAnswered (.pullGo d) CL_PULL (fun t =>
      t.pullState = 5 ∧ t.rd CL_PULL_STAT CL_PULL_STAT.RESULT = 2 ∧ { src := 31, sub := 0x7F } ∈ t.fault.now)) ∧
  (∀ (n : Nat) (f : LinkFrame) (s : State), s.quiet → s.hears n 0x30 f → payBits f 1 63 60 = 0 → s.link.serves = [] →
    ∃ t, exec (.pullOpen n f) s = .next t ∧ State.sameBut [CL_PORT s.ownPort] s t ∧
      (s.active = true → t.link.serves = [{ puller := frd f FR.SRC, obj := 0, tile := payBits f 1 59 52 }]) ∧
      (s.active = false → t.link.serves = []) ∧
      (∀ m, s.wayTo (frd f FR.SRC) m → s.load.slot.length < 2 ^ 24 → s.sends t m (fun g => frd g FR.TYPE = 0x31 ∧
        payBits g 1 63 60 = (if s.active then 1 else 2) ∧ payBits g 1 43 20 = (if s.active then s.load.slot.length else 0) ∧
        pay g 2 = (if s.active then s.reg HD_IMG_ID else 0)))) ∧
  (∀ (n : Nat) (f : LinkFrame) (s : State), s.quiet → s.hears n 0x30 f → payBits f 1 63 60 = 0 →
    4 ≤ (s.link.serves.map (fun v => (v.puller, v.obj))).eraseDups.length → (∀ v ∈ s.link.serves, ¬(v.puller = frd f FR.SRC ∧ v.obj = 0)) →
    (∀ v ∈ s.link.serves, s.stableObj v.obj v.tile = true ∧ s.servedOut v = false) → ∃ t, exec (.pullOpen n f) s = .next t ∧
      t.link.serves = s.link.serves ∧ State.sameBut [CL_PORT s.ownPort] s t ∧
      (∀ m, s.wayTo (frd f FR.SRC) m → s.sends t m (fun g => frd g FR.TYPE = 0x31 ∧ payBits g 1 63 60 = 3 ∧ pay g 2 = 0))) ∧
  (∀ (v : Serve) (s : State), v ∈ s.link.serves → s.stableObj v.obj v.tile = false → v ∉ s.dropServes.link.serves ∧ s.dropServes.dataWaits v = false) ∧
  (∀ (n u : Nat) (f : LinkFrame) (s : State), s.hears n 0x31 f → s.pullState = 1 → frd f FR.SRC = s.link.pull.src →
    s.link.pull.opens = [u] → s.link.pull.offers = [] →
    (s.quiet → payBits f 1 63 60 = 1 → s.link.pull.obj = 0 → s.imgState ≠ 1 → s.rd CL_PULL_STAT CL_PULL_STAT.LENGTH = 0 →
      ∃ t, exec (.offer n f) s = .next t ∧ t.pullState = 2 ∧ t.rd CL_PULL_STAT CL_PULL_STAT.RESULT = 1 ∧
        t.rd CL_PULL_STAT CL_PULL_STAT.LENGTH = payBits f 1 43 20 ∧ t.reg CL_PULL_ID = pay f 2 ∧ t.link.pull.offers = [(u, payBits f 1 43 20)] ∧
        State.sameBut [CL_PULL_STAT, CL_PULL_ID] s t) ∧
    (payBits f 1 63 60 ≠ 1 → s.yields (.offer n f) (fun t => t.pullState = 5 ∧ t.rd CL_PULL_STAT CL_PULL_STAT.RESULT = payBits f 1 63 60 ∧
      { src := 31, sub := 0x7F } ∈ t.fault.now ∧ State.sameBut [CL_PULL_STAT] s t))) ∧
  (∀ (n m : Nat) (f : LinkFrame) (v : Serve) (s : State), s.quiet → s.hears n 0x33 f → s.active = true → s.link.serves = [v] →
    v.puller = frd f FR.SRC → v.tile = payBits f 1 63 56 → v.obj = 0 → v.sent = 0 → s.load.slot ≠ [] → s.load.slot.length ≤ 127 →
    s.load.slot.length ≤ payBits f 2 31 0 → s.wayTo v.puller m → ∃ t, exec (.credit n f) s = .next t ∧
      t.link.serves = (if s.dataWaits v then [{ v with sent := s.load.slot.length }] else []) ∧ s.sends t m (fun g => frd g FR.TYPE = 0x32 ∧ frd g FR.DST = v.puller ∧ payBits g 1 63 56 = v.tile ∧ payBits g 1 31 0 = 0 ∧
        g.payload.drop 1 = s.load.slot) ∧ State.sameBut [] s t) ∧
  (∀ (n u len : Nat) (d : Word) (f : LinkFrame) (l : List (Nat × Nat)) (s : State), s.hears n 0x32 f → s.pullState = 3 →
    frd f FR.SRC = s.link.pull.src → s.link.pull.offers = (u, len) :: l → payBits f 1 63 56 = u → s.link.pull.obj = 0 → s.link.pull.early = [] →
    (s.imgState ≠ 1 → s.yields (.pullData n f) (fun t => t.pullState = 5 ∧ t.rd CL_PULL_STAT CL_PULL_STAT.RESULT = 6 ∧
      { src := 31, sub := 0x7F } ∈ t.fault.now)) ∧
    (s.quiet → s.imgState = 1 → s.load.link = true → payBits f 1 31 0 = s.link.pull.held → f.payload.drop 1 = [d] →
      s.link.pull.held + 1 < len → len = s.load.len → s.rd HD_IMG_STAT HD_IMG_STAT.WORDS = s.link.pull.held →
      s.load.slot.length < 524288 → s.rd CL_PULL_STAT CL_PULL_STAT.DONE_W + 1 < 2 ^ 24 → s.link.pull.held + 1 < 2 ^ 20 →
      ∃ t, exec (.pullData n f) s = .next t ∧ t.link.pull.held = s.link.pull.held + 1 ∧ t.load.slot = s.load.slot ++ [d] ∧
        t.rd CL_PULL_STAT CL_PULL_STAT.DONE_W = s.rd CL_PULL_STAT CL_PULL_STAT.DONE_W + 1 ∧ t.pullState = 3 ∧
        State.sameBut [CL_PULL_STAT, HD_IMG_STAT] s t) ∧
    (s.quiet → s.imgState = 1 → s.load.link = true → payBits f 1 31 0 < s.link.pull.held → s.rd (CL_PORT n) CL_PORT.ERRORS + 1 < 0xFFFFFFFF →
      ∃ t, exec (.pullData n f) s = .next t ∧ t.rd (CL_PORT n) CL_PORT.ERRORS = s.rd (CL_PORT n) CL_PORT.ERRORS + 1 ∧
        t.load = s.load ∧ t.link.pull = s.link.pull ∧ State.sameBut [CL_PORT n] s t)) ∧
  (∀ s : State, s.pullState = 2 → s.yields .pullExpiry (fun t => t.pullState = 5 ∧ t.rd CL_PULL_STAT CL_PULL_STAT.RESULT = 6 ∧
    { src := 31, sub := 0x7F } ∈ t.fault.now ∧ State.sameBut [CL_PULL_STAT] s t)) ∧
  (∀ s : State, (s.pullState = 1 ∨ s.pullState = 2) → s.reaches s.link.pull.src = false → s.yields .pullSourceTimeout (fun t =>
    t.pullState = 5 ∧ t.rd CL_PULL_STAT CL_PULL_STAT.RESULT = 5 ∧ { src := 31, sub := 0x7F } ∈ t.fault.now ∧
    State.sameBut [CL_PULL_STAT] s t)) ∧
  (∀ (d : Word) (same : Bool) (s : State), s.quiet → s.alone → s.takes CL_PULL d → CL_PULL.GO.get d = 0 → CL_PULL.ABORT.get d = 1 →
    ∃ t, exec (.pullAbort d same) s = .next t ∧
      ((s.pullState = 1 ∨ s.pullState = 2) → t.pullState = 5 ∧ t.rd CL_PULL_STAT CL_PULL_STAT.RESULT = 7 ∧
        t.rd CL_PULL_STAT CL_PULL_STAT.ABORT = 1 ∧ t.link.pull = {}) ∧
      (s.pullState = 4 → same = true → t.pullState = 4 ∧ t.rd CL_PULL_STAT CL_PULL_STAT.ABORT = 2) ∧
      (s.pullState ≠ 3 → State.sameBut [CL_PULL, CL_PULL_STAT] s t))
end

