-- ==== Sys2Proof/Laws/Field.lean ====
section
/-! SUPPORT. The laws of named bit fields: what a field reads after it, or another field of the word, is set. -/

namespace Sys2Proof.Machine

/-- A field that lies inside a word. -/
def Fld.ok (f : Fld) : Bool := decide (f.lo ≤ f.hi) && decide (f.hi < 64)

/-- Two fields with no bit in common. -/
def Fld.apart (f g : Fld) : Bool := decide (f.hi < g.lo) || decide (g.hi < f.lo)

theorem Fld.mask_bit (f : Fld) (i : Nat) (hi : i < 64) : f.mask.getLsbD i = (decide (f.lo ≤ i) && decide (i < f.lo + f.width)) := by
  simp only [Fld.mask, BitVec.getLsbD_shiftLeft, BitVec.getLsbD_setWidth, BitVec.getLsbD_allOnes]
  by_cases h : i < f.lo
  · simp [hi, h, Nat.not_le.mpr h]
  · have : i - f.lo < 64 := by omega
    have h2 : f.lo ≤ i := by omega
    simp only [hi, h, this, h2, decide_true, decide_false, Bool.not_false, Bool.true_and]
    congr 1; apply propext; omega

/-- The bits of a word after a field is set. -/
theorem Fld.bit_set (f : Fld) (x : Word) (v i : Nat) (hi : i < 64) :
    (f.set x v).getLsbD i = if f.lo ≤ i ∧ i < f.lo + f.width then v.testBit (i - f.lo) else x.getLsbD i := by
  have hm := f.mask_bit i hi
  by_cases h : f.lo ≤ i ∧ i < f.lo + f.width
  · rw [if_pos h]
    have ht : f.mask.getLsbD i = true := by rw [hm]; simp [h]
    have h3 : ¬ i < f.lo := by omega
    have h4 : i - f.lo < 64 := by omega
    simp only [Fld.set, BitVec.getLsbD_or, BitVec.getLsbD_and, BitVec.getLsbD_not, ht, BitVec.getLsbD_shiftLeft,
      BitVec.getLsbD_ofNat, hi, h3, h4, decide_true, decide_false, Bool.not_true, Bool.not_false, Bool.and_false,
      Bool.false_or, Bool.true_and, Bool.and_true]
  · rw [if_neg h]
    have ht : f.mask.getLsbD i = false := by rw [hm]; simpa [not_and] using h
    simp only [Fld.set, BitVec.getLsbD_or, BitVec.getLsbD_and, BitVec.getLsbD_not, ht, hi, decide_true, Bool.not_false,
      Bool.and_true, Bool.and_false, Bool.or_false]

/-- A set field reads the low bits of what was put there. -/
theorem Fld.get_set (f : Fld) (x : Word) (v : Nat) (h : f.ok = true) : f.get (f.set x v) = v % 2 ^ f.width := by
  simp only [Fld.ok, Bool.and_eq_true, decide_eq_true_eq] at h
  have key : (f.set x v).extractLsb' f.lo f.width = BitVec.ofNat f.width v := by
    apply BitVec.eq_of_getLsbD_eq
    intro i hi
    have hw : i < f.hi + 1 - f.lo := hi
    rw [BitVec.getLsbD_extractLsb', f.bit_set x v (f.lo + i) (by omega), if_pos ⟨by omega, by omega⟩,
      Nat.add_sub_cancel_left, BitVec.getLsbD_ofNat]
  rw [Fld.get, key, BitVec.toNat_ofNat]

/-- A set field leaves a field apart from it alone. -/
theorem Fld.get_set_ne (f g : Fld) (x : Word) (v : Nat) (hg : g.ok = true) (h : f.apart g = true) :
    g.get (f.set x v) = g.get x := by
  simp only [Fld.apart, Bool.or_eq_true, decide_eq_true_eq] at h
  simp only [Fld.ok, Bool.and_eq_true, decide_eq_true_eq] at hg
  have key : (f.set x v).extractLsb' g.lo g.width = x.extractLsb' g.lo g.width := by
    apply BitVec.eq_of_getLsbD_eq
    intro i hi
    have hw : i < g.hi + 1 - g.lo := hi
    have hf : f.width = f.hi + 1 - f.lo := rfl
    rw [BitVec.getLsbD_extractLsb', BitVec.getLsbD_extractLsb', f.bit_set x v (g.lo + i) (by omega), if_neg]
    rintro ⟨h1, h2⟩
    rw [hf] at h2
    omega
  rw [Fld.get, Fld.get, key]

@[simp] theorem b2n_true : b2n true = 1 := rfl
@[simp] theorem b2n_false : b2n false = 0 := rfl

/-- A signed number that fits is read back from its pattern. -/
theorem signed_pattern (n : Nat) (v : Int) (hn : 0 < n) (h1 : -(2 ^ (n - 1) : Nat) ≤ v) (h2 : v < (2 ^ (n - 1) : Nat)) :
    signed n (pattern n v) = v := by
  obtain ⟨m, rfl⟩ : ∃ m, n = m + 1 := ⟨n - 1, by omega⟩
  simp only [Nat.add_sub_cancel] at h1 h2
  have hp : (2 ^ (m + 1) : Nat) = 2 * 2 ^ m := by rw [pow_succ]; ring
  have hpos : 0 < (2 ^ m : Nat) := by positivity
  generalize hq : (2 ^ m : Nat) = q at *
  simp only [signed, pattern, hp, Nat.add_sub_cancel, hq]
  by_cases hv : 0 ≤ v
  · have e : v % ((2 * q : Nat) : Int) = v := Int.emod_eq_of_lt hv (by push_cast; omega)
    rw [e]
    have : v.toNat % (2 * q) = v.toNat := Nat.mod_eq_of_lt (by omega)
    rw [this]
    have : v.toNat < q := by omega
    simp only [this, if_true]; omega
  · have e : v % ((2 * q : Nat) : Int) = v + (2 * q : Nat) := by
      rw [← Int.add_emod_right]; exact Int.emod_eq_of_lt (by push_cast; omega) (by push_cast; omega)
    rw [e]
    have : (v + (2 * q : Nat)).toNat % (2 * q) = (v + (2 * q : Nat)).toNat := Nat.mod_eq_of_lt (by omega)
    rw [this]
    have : ¬ (v + (2 * q : Nat)).toNat < q := by omega
    simp only [this, if_false]; omega

end Sys2Proof.Machine
end

