-- ==== Sys2Proof/Laws/Table.lean ====
section
/-! SUPPORT. The laws of a sparse table: what a key reads after a key is written. That a write keeps the canonical form stands beside the table. -/

namespace Sys2Proof.Machine

variable {V : Type} [DecidableEq V] (d : Nat → V)

/-- A key reads what was written to it. -/
@[simp] theorem tget_tset_self (l : List (Nat × V)) (k : Nat) (v : V) : tget d (tset d l k v) k = v := by
  induction l with
  | nil => by_cases hv : v = d k <;> simp [tset, tget, hv]
  | cons e r ih =>
    by_cases h1 : k = e.1
    · by_cases hv : v = d k
      · simpa only [tset, if_pos h1, if_pos hv] using ih
      · simp only [tset, if_pos h1, if_neg hv, tget, if_pos]
    · by_cases h2 : k < e.1 ∧ v ≠ d k
      · simp only [tset, if_neg h1, if_pos h2, tget, if_pos]
      · simpa only [tset, if_neg h1, if_neg h2, tget] using ih

/-- Any other key reads what it read before. -/
theorem tget_tset_ne (l : List (Nat × V)) (k j : Nat) (v : V) (h : j ≠ k) : tget d (tset d l k v) j = tget d l j := by
  induction l with
  | nil => by_cases hv : v = d k <;> simp [tset, tget, hv, h]
  | cons e r ih =>
    by_cases h1 : k = e.1
    · have hj : j ≠ e.1 := fun x => h (x.trans h1.symm)
      by_cases hv : v = d k
      · simpa only [tset, if_pos h1, if_pos hv, tget, if_neg hj] using ih
      · simp only [tset, if_pos h1, if_neg hv, tget, if_neg hj, if_neg h]
    · by_cases h2 : k < e.1 ∧ v ≠ d k
      · simp only [tset, if_neg h1, if_pos h2, tget, if_neg h]
      · simp only [tset, if_neg h1, if_neg h2, tget, ih]

/-- Both at once: what key `j` reads after key `k` is written. -/
theorem tget_tset (l : List (Nat × V)) (k j : Nat) (v : V) :
    tget d (tset d l k v) j = if j = k then v else tget d l j := by
  by_cases h : j = k
  · subst h; simp
  · simp [h, tget_tset_ne d l k j v h]

/-- The empty table has the form. -/
@[simp] theorem twf_nil : twf d [] = true := rfl

end Sys2Proof.Machine
end

