-- ==== Sys2Proof/Laws/State.lean ====
section
/-! SUPPORT. The small lemmas of the state's named updates: each leaves every other field of the state, and every reading of one, as it was. -/

namespace Sys2Proof.Machine

open Sys2Proof

variable (s : State)

@[simp] theorem setReg_fuses (a : Nat) (d : Word) : (s.setReg a d).fuses = s.fuses := rfl
@[simp] theorem setReg_clk (a : Nat) (d : Word) : (s.setReg a d).clk = s.clk := rfl
@[simp] theorem setReg_port (a : Nat) (d : Word) : (s.setReg a d).port = s.port := rfl
@[simp] theorem setReg_sb (a : Nat) (d : Word) : (s.setReg a d).sb = s.sb := rfl
@[simp] theorem setReg_tap (a : Nat) (d : Word) : (s.setReg a d).tap = s.tap := rfl
@[simp] theorem setReg_lc (a : Nat) (d : Word) : (s.setReg a d).lc = s.lc := rfl
@[simp] theorem setReg_fault (a : Nat) (d : Word) : (s.setReg a d).fault = s.fault := rfl
@[simp] theorem setReg_intc (a : Nat) (d : Word) : (s.setReg a d).intc = s.intc := rfl
@[simp] theorem setReg_img (a : Nat) (d : Word) : (s.setReg a d).img = s.img := rfl
@[simp] theorem setReg_load (a : Nat) (d : Word) : (s.setReg a d).load = s.load := rfl
@[simp] theorem setReg_link (a : Nat) (d : Word) : (s.setReg a d).link = s.link := rfl
@[simp] theorem setReg_rcd (a : Nat) (d : Word) : (s.setReg a d).rcd = s.rcd := rfl
@[simp] theorem setReg_flash (a : Nat) (d : Word) : (s.setReg a d).flash = s.flash := rfl
@[simp] theorem setReg_seqs (a : Nat) (d : Word) : (s.setReg a d).seqs = s.seqs := rfl
@[simp] theorem setReg_wells (a : Nat) (d : Word) : (s.setReg a d).wells = s.wells := rfl
@[simp] theorem setReg_pumps (a : Nat) (d : Word) : (s.setReg a d).pumps = s.pumps := rfl
@[simp] theorem setReg_clusters (a : Nat) (d : Word) : (s.setReg a d).clusters = s.clusters := rfl
@[simp] theorem setReg_tiles (a : Nat) (d : Word) : (s.setReg a d).tiles = s.tiles := rfl
@[simp] theorem setReg_plan (a : Nat) (d : Word) : (s.setReg a d).plan = s.plan := rfl
@[simp] theorem setReg_gov (a : Nat) (d : Word) : (s.setReg a d).gov = s.gov := rfl
@[simp] theorem setReg_capEvents (a : Nat) (d : Word) : (s.setReg a d).capEvents = s.capEvents := rfl
@[simp] theorem setReg_freeCtr (a : Nat) (d : Word) : (s.setReg a d).freeCtr = s.freeCtr := rfl
@[simp] theorem setReg_pending (a : Nat) (d : Word) : (s.setReg a d).pending = s.pending := rfl
@[simp] theorem setReg_well (a : Nat) (d : Word) (t2 w2 : Nat) : (s.setReg a d).well t2 w2 = s.well t2 w2 := rfl
@[simp] theorem setReg_pump (a : Nat) (d : Word) (t2 w2 p2 : Nat) : (s.setReg a d).pump t2 w2 p2 = s.pump t2 w2 p2 := rfl
@[simp] theorem setReg_cluster (a : Nat) (d : Word) (t2 k2 : Nat) : (s.setReg a d).cluster t2 k2 = s.cluster t2 k2 := rfl
@[simp] theorem setReg_tile (a : Nat) (d : Word) (t2 : Nat) : (s.setReg a d).tile t2 = s.tile t2 := rfl
@[simp] theorem setReg_sq (a : Nat) (d : Word) (n2 : Nat) : (s.setReg a d).sq n2 = s.sq n2 := rfl
@[simp] theorem setReg_topoWord (a : Nat) (d : Word) (t2 w2 : Nat) : (s.setReg a d).topoWord t2 w2 = s.topoWord t2 w2 := rfl

@[simp] theorem wr_fuses (a : Nat) (f : Fld) (v : Nat) : (s.wr a f v).fuses = s.fuses := rfl
@[simp] theorem wr_clk (a : Nat) (f : Fld) (v : Nat) : (s.wr a f v).clk = s.clk := rfl
@[simp] theorem wr_port (a : Nat) (f : Fld) (v : Nat) : (s.wr a f v).port = s.port := rfl
@[simp] theorem wr_sb (a : Nat) (f : Fld) (v : Nat) : (s.wr a f v).sb = s.sb := rfl
@[simp] theorem wr_tap (a : Nat) (f : Fld) (v : Nat) : (s.wr a f v).tap = s.tap := rfl
@[simp] theorem wr_lc (a : Nat) (f : Fld) (v : Nat) : (s.wr a f v).lc = s.lc := rfl
@[simp] theorem wr_fault (a : Nat) (f : Fld) (v : Nat) : (s.wr a f v).fault = s.fault := rfl
@[simp] theorem wr_intc (a : Nat) (f : Fld) (v : Nat) : (s.wr a f v).intc = s.intc := rfl
@[simp] theorem wr_img (a : Nat) (f : Fld) (v : Nat) : (s.wr a f v).img = s.img := rfl
@[simp] theorem wr_load (a : Nat) (f : Fld) (v : Nat) : (s.wr a f v).load = s.load := rfl
@[simp] theorem wr_link (a : Nat) (f : Fld) (v : Nat) : (s.wr a f v).link = s.link := rfl
@[simp] theorem wr_rcd (a : Nat) (f : Fld) (v : Nat) : (s.wr a f v).rcd = s.rcd := rfl
@[simp] theorem wr_flash (a : Nat) (f : Fld) (v : Nat) : (s.wr a f v).flash = s.flash := rfl
@[simp] theorem wr_seqs (a : Nat) (f : Fld) (v : Nat) : (s.wr a f v).seqs = s.seqs := rfl
@[simp] theorem wr_wells (a : Nat) (f : Fld) (v : Nat) : (s.wr a f v).wells = s.wells := rfl
@[simp] theorem wr_pumps (a : Nat) (f : Fld) (v : Nat) : (s.wr a f v).pumps = s.pumps := rfl
@[simp] theorem wr_clusters (a : Nat) (f : Fld) (v : Nat) : (s.wr a f v).clusters = s.clusters := rfl
@[simp] theorem wr_tiles (a : Nat) (f : Fld) (v : Nat) : (s.wr a f v).tiles = s.tiles := rfl
@[simp] theorem wr_plan (a : Nat) (f : Fld) (v : Nat) : (s.wr a f v).plan = s.plan := rfl
@[simp] theorem wr_gov (a : Nat) (f : Fld) (v : Nat) : (s.wr a f v).gov = s.gov := rfl
@[simp] theorem wr_capEvents (a : Nat) (f : Fld) (v : Nat) : (s.wr a f v).capEvents = s.capEvents := rfl
@[simp] theorem wr_freeCtr (a : Nat) (f : Fld) (v : Nat) : (s.wr a f v).freeCtr = s.freeCtr := rfl
@[simp] theorem wr_pending (a : Nat) (f : Fld) (v : Nat) : (s.wr a f v).pending = s.pending := rfl
@[simp] theorem wr_well (a : Nat) (f : Fld) (v : Nat) (t2 w2 : Nat) : (s.wr a f v).well t2 w2 = s.well t2 w2 := rfl
@[simp] theorem wr_pump (a : Nat) (f : Fld) (v : Nat) (t2 w2 p2 : Nat) : (s.wr a f v).pump t2 w2 p2 = s.pump t2 w2 p2 := rfl
@[simp] theorem wr_cluster (a : Nat) (f : Fld) (v : Nat) (t2 k2 : Nat) : (s.wr a f v).cluster t2 k2 = s.cluster t2 k2 := rfl
@[simp] theorem wr_tile (a : Nat) (f : Fld) (v : Nat) (t2 : Nat) : (s.wr a f v).tile t2 = s.tile t2 := rfl
@[simp] theorem wr_sq (a : Nat) (f : Fld) (v : Nat) (n2 : Nat) : (s.wr a f v).sq n2 = s.sq n2 := rfl
@[simp] theorem wr_topoWord (a : Nat) (f : Fld) (v : Nat) (t2 w2 : Nat) : (s.wr a f v).topoWord t2 w2 = s.topoWord t2 w2 := rfl

@[simp] theorem wri_fuses (a : Nat) (f : Fld) (v : Int) : (s.wri a f v).fuses = s.fuses := rfl
@[simp] theorem wri_clk (a : Nat) (f : Fld) (v : Int) : (s.wri a f v).clk = s.clk := rfl
@[simp] theorem wri_port (a : Nat) (f : Fld) (v : Int) : (s.wri a f v).port = s.port := rfl
@[simp] theorem wri_sb (a : Nat) (f : Fld) (v : Int) : (s.wri a f v).sb = s.sb := rfl
@[simp] theorem wri_tap (a : Nat) (f : Fld) (v : Int) : (s.wri a f v).tap = s.tap := rfl
@[simp] theorem wri_lc (a : Nat) (f : Fld) (v : Int) : (s.wri a f v).lc = s.lc := rfl
@[simp] theorem wri_fault (a : Nat) (f : Fld) (v : Int) : (s.wri a f v).fault = s.fault := rfl
@[simp] theorem wri_intc (a : Nat) (f : Fld) (v : Int) : (s.wri a f v).intc = s.intc := rfl
@[simp] theorem wri_img (a : Nat) (f : Fld) (v : Int) : (s.wri a f v).img = s.img := rfl
@[simp] theorem wri_load (a : Nat) (f : Fld) (v : Int) : (s.wri a f v).load = s.load := rfl
@[simp] theorem wri_link (a : Nat) (f : Fld) (v : Int) : (s.wri a f v).link = s.link := rfl
@[simp] theorem wri_rcd (a : Nat) (f : Fld) (v : Int) : (s.wri a f v).rcd = s.rcd := rfl
@[simp] theorem wri_flash (a : Nat) (f : Fld) (v : Int) : (s.wri a f v).flash = s.flash := rfl
@[simp] theorem wri_seqs (a : Nat) (f : Fld) (v : Int) : (s.wri a f v).seqs = s.seqs := rfl
@[simp] theorem wri_wells (a : Nat) (f : Fld) (v : Int) : (s.wri a f v).wells = s.wells := rfl
@[simp] theorem wri_pumps (a : Nat) (f : Fld) (v : Int) : (s.wri a f v).pumps = s.pumps := rfl
@[simp] theorem wri_clusters (a : Nat) (f : Fld) (v : Int) : (s.wri a f v).clusters = s.clusters := rfl
@[simp] theorem wri_tiles (a : Nat) (f : Fld) (v : Int) : (s.wri a f v).tiles = s.tiles := rfl
@[simp] theorem wri_plan (a : Nat) (f : Fld) (v : Int) : (s.wri a f v).plan = s.plan := rfl
@[simp] theorem wri_gov (a : Nat) (f : Fld) (v : Int) : (s.wri a f v).gov = s.gov := rfl
@[simp] theorem wri_capEvents (a : Nat) (f : Fld) (v : Int) : (s.wri a f v).capEvents = s.capEvents := rfl
@[simp] theorem wri_freeCtr (a : Nat) (f : Fld) (v : Int) : (s.wri a f v).freeCtr = s.freeCtr := rfl
@[simp] theorem wri_pending (a : Nat) (f : Fld) (v : Int) : (s.wri a f v).pending = s.pending := rfl
@[simp] theorem wri_well (a : Nat) (f : Fld) (v : Int) (t2 w2 : Nat) : (s.wri a f v).well t2 w2 = s.well t2 w2 := rfl
@[simp] theorem wri_pump (a : Nat) (f : Fld) (v : Int) (t2 w2 p2 : Nat) : (s.wri a f v).pump t2 w2 p2 = s.pump t2 w2 p2 := rfl
@[simp] theorem wri_cluster (a : Nat) (f : Fld) (v : Int) (t2 k2 : Nat) : (s.wri a f v).cluster t2 k2 = s.cluster t2 k2 := rfl
@[simp] theorem wri_tile (a : Nat) (f : Fld) (v : Int) (t2 : Nat) : (s.wri a f v).tile t2 = s.tile t2 := rfl
@[simp] theorem wri_sq (a : Nat) (f : Fld) (v : Int) (n2 : Nat) : (s.wri a f v).sq n2 = s.sq n2 := rfl
@[simp] theorem wri_topoWord (a : Nat) (f : Fld) (v : Int) (t2 w2 : Nat) : (s.wri a f v).topoWord t2 w2 = s.topoWord t2 w2 := rfl

@[simp] theorem wrb_fuses (a : Nat) (f : Fld) (b : Bool) : (s.wrb a f b).fuses = s.fuses := rfl
@[simp] theorem wrb_clk (a : Nat) (f : Fld) (b : Bool) : (s.wrb a f b).clk = s.clk := rfl
@[simp] theorem wrb_port (a : Nat) (f : Fld) (b : Bool) : (s.wrb a f b).port = s.port := rfl
@[simp] theorem wrb_sb (a : Nat) (f : Fld) (b : Bool) : (s.wrb a f b).sb = s.sb := rfl
@[simp] theorem wrb_tap (a : Nat) (f : Fld) (b : Bool) : (s.wrb a f b).tap = s.tap := rfl
@[simp] theorem wrb_lc (a : Nat) (f : Fld) (b : Bool) : (s.wrb a f b).lc = s.lc := rfl
@[simp] theorem wrb_fault (a : Nat) (f : Fld) (b : Bool) : (s.wrb a f b).fault = s.fault := rfl
@[simp] theorem wrb_intc (a : Nat) (f : Fld) (b : Bool) : (s.wrb a f b).intc = s.intc := rfl
@[simp] theorem wrb_img (a : Nat) (f : Fld) (b : Bool) : (s.wrb a f b).img = s.img := rfl
@[simp] theorem wrb_load (a : Nat) (f : Fld) (b : Bool) : (s.wrb a f b).load = s.load := rfl
@[simp] theorem wrb_link (a : Nat) (f : Fld) (b : Bool) : (s.wrb a f b).link = s.link := rfl
@[simp] theorem wrb_rcd (a : Nat) (f : Fld) (b : Bool) : (s.wrb a f b).rcd = s.rcd := rfl
@[simp] theorem wrb_flash (a : Nat) (f : Fld) (b : Bool) : (s.wrb a f b).flash = s.flash := rfl
@[simp] theorem wrb_seqs (a : Nat) (f : Fld) (b : Bool) : (s.wrb a f b).seqs = s.seqs := rfl
@[simp] theorem wrb_wells (a : Nat) (f : Fld) (b : Bool) : (s.wrb a f b).wells = s.wells := rfl
@[simp] theorem wrb_pumps (a : Nat) (f : Fld) (b : Bool) : (s.wrb a f b).pumps = s.pumps := rfl
@[simp] theorem wrb_clusters (a : Nat) (f : Fld) (b : Bool) : (s.wrb a f b).clusters = s.clusters := rfl
@[simp] theorem wrb_tiles (a : Nat) (f : Fld) (b : Bool) : (s.wrb a f b).tiles = s.tiles := rfl
@[simp] theorem wrb_plan (a : Nat) (f : Fld) (b : Bool) : (s.wrb a f b).plan = s.plan := rfl
@[simp] theorem wrb_gov (a : Nat) (f : Fld) (b : Bool) : (s.wrb a f b).gov = s.gov := rfl
@[simp] theorem wrb_capEvents (a : Nat) (f : Fld) (b : Bool) : (s.wrb a f b).capEvents = s.capEvents := rfl
@[simp] theorem wrb_freeCtr (a : Nat) (f : Fld) (b : Bool) : (s.wrb a f b).freeCtr = s.freeCtr := rfl
@[simp] theorem wrb_pending (a : Nat) (f : Fld) (b : Bool) : (s.wrb a f b).pending = s.pending := rfl
@[simp] theorem wrb_well (a : Nat) (f : Fld) (b : Bool) (t2 w2 : Nat) : (s.wrb a f b).well t2 w2 = s.well t2 w2 := rfl
@[simp] theorem wrb_pump (a : Nat) (f : Fld) (b : Bool) (t2 w2 p2 : Nat) : (s.wrb a f b).pump t2 w2 p2 = s.pump t2 w2 p2 := rfl
@[simp] theorem wrb_cluster (a : Nat) (f : Fld) (b : Bool) (t2 k2 : Nat) : (s.wrb a f b).cluster t2 k2 = s.cluster t2 k2 := rfl
@[simp] theorem wrb_tile (a : Nat) (f : Fld) (b : Bool) (t2 : Nat) : (s.wrb a f b).tile t2 = s.tile t2 := rfl
@[simp] theorem wrb_sq (a : Nat) (f : Fld) (b : Bool) (n2 : Nat) : (s.wrb a f b).sq n2 = s.sq n2 := rfl
@[simp] theorem wrb_topoWord (a : Nat) (f : Fld) (b : Bool) (t2 w2 : Nat) : (s.wrb a f b).topoWord t2 w2 = s.topoWord t2 w2 := rfl

@[simp] theorem setWell_regs (t w : Nat) (x : WellX) : (s.setWell t w x).regs = s.regs := rfl
@[simp] theorem setWell_fuses (t w : Nat) (x : WellX) : (s.setWell t w x).fuses = s.fuses := rfl
@[simp] theorem setWell_clk (t w : Nat) (x : WellX) : (s.setWell t w x).clk = s.clk := rfl
@[simp] theorem setWell_port (t w : Nat) (x : WellX) : (s.setWell t w x).port = s.port := rfl
@[simp] theorem setWell_sb (t w : Nat) (x : WellX) : (s.setWell t w x).sb = s.sb := rfl
@[simp] theorem setWell_tap (t w : Nat) (x : WellX) : (s.setWell t w x).tap = s.tap := rfl
@[simp] theorem setWell_lc (t w : Nat) (x : WellX) : (s.setWell t w x).lc = s.lc := rfl
@[simp] theorem setWell_fault (t w : Nat) (x : WellX) : (s.setWell t w x).fault = s.fault := rfl
@[simp] theorem setWell_intc (t w : Nat) (x : WellX) : (s.setWell t w x).intc = s.intc := rfl
@[simp] theorem setWell_img (t w : Nat) (x : WellX) : (s.setWell t w x).img = s.img := rfl
@[simp] theorem setWell_load (t w : Nat) (x : WellX) : (s.setWell t w x).load = s.load := rfl
@[simp] theorem setWell_link (t w : Nat) (x : WellX) : (s.setWell t w x).link = s.link := rfl
@[simp] theorem setWell_rcd (t w : Nat) (x : WellX) : (s.setWell t w x).rcd = s.rcd := rfl
@[simp] theorem setWell_flash (t w : Nat) (x : WellX) : (s.setWell t w x).flash = s.flash := rfl
@[simp] theorem setWell_seqs (t w : Nat) (x : WellX) : (s.setWell t w x).seqs = s.seqs := rfl
@[simp] theorem setWell_pumps (t w : Nat) (x : WellX) : (s.setWell t w x).pumps = s.pumps := rfl
@[simp] theorem setWell_clusters (t w : Nat) (x : WellX) : (s.setWell t w x).clusters = s.clusters := rfl
@[simp] theorem setWell_tiles (t w : Nat) (x : WellX) : (s.setWell t w x).tiles = s.tiles := rfl
@[simp] theorem setWell_plan (t w : Nat) (x : WellX) : (s.setWell t w x).plan = s.plan := rfl
@[simp] theorem setWell_gov (t w : Nat) (x : WellX) : (s.setWell t w x).gov = s.gov := rfl
@[simp] theorem setWell_capEvents (t w : Nat) (x : WellX) : (s.setWell t w x).capEvents = s.capEvents := rfl
@[simp] theorem setWell_freeCtr (t w : Nat) (x : WellX) : (s.setWell t w x).freeCtr = s.freeCtr := rfl
@[simp] theorem setWell_pending (t w : Nat) (x : WellX) : (s.setWell t w x).pending = s.pending := rfl
@[simp] theorem setWell_reg (t w : Nat) (x : WellX) (b : Nat) : (s.setWell t w x).reg b = s.reg b := rfl
@[simp] theorem setWell_rd (t w : Nat) (x : WellX) (b : Nat) (g : Fld) : (s.setWell t w x).rd b g = s.rd b g := rfl
@[simp] theorem setWell_rdi (t w : Nat) (x : WellX) (b : Nat) (g : Fld) : (s.setWell t w x).rdi b g = s.rdi b g := rfl
@[simp] theorem setWell_flag (t w : Nat) (x : WellX) (b : Nat) (g : Fld) : (s.setWell t w x).flag b g = s.flag b g := rfl
@[simp] theorem setWell_pump (t w : Nat) (x : WellX) (t2 w2 p2 : Nat) : (s.setWell t w x).pump t2 w2 p2 = s.pump t2 w2 p2 := rfl
@[simp] theorem setWell_cluster (t w : Nat) (x : WellX) (t2 k2 : Nat) : (s.setWell t w x).cluster t2 k2 = s.cluster t2 k2 := rfl
@[simp] theorem setWell_tile (t w : Nat) (x : WellX) (t2 : Nat) : (s.setWell t w x).tile t2 = s.tile t2 := rfl
@[simp] theorem setWell_sq (t w : Nat) (x : WellX) (n2 : Nat) : (s.setWell t w x).sq n2 = s.sq n2 := rfl
@[simp] theorem setWell_topoWord (t w : Nat) (x : WellX) (t2 w2 : Nat) : (s.setWell t w x).topoWord t2 w2 = s.topoWord t2 w2 := rfl

@[simp] theorem updMo_regs (t w : Nat) (f : Motion → Motion) : (s.updMo t w f).regs = s.regs := rfl
@[simp] theorem updMo_fuses (t w : Nat) (f : Motion → Motion) : (s.updMo t w f).fuses = s.fuses := rfl
@[simp] theorem updMo_clk (t w : Nat) (f : Motion → Motion) : (s.updMo t w f).clk = s.clk := rfl
@[simp] theorem updMo_port (t w : Nat) (f : Motion → Motion) : (s.updMo t w f).port = s.port := rfl
@[simp] theorem updMo_sb (t w : Nat) (f : Motion → Motion) : (s.updMo t w f).sb = s.sb := rfl
@[simp] theorem updMo_tap (t w : Nat) (f : Motion → Motion) : (s.updMo t w f).tap = s.tap := rfl
@[simp] theorem updMo_lc (t w : Nat) (f : Motion → Motion) : (s.updMo t w f).lc = s.lc := rfl
@[simp] theorem updMo_fault (t w : Nat) (f : Motion → Motion) : (s.updMo t w f).fault = s.fault := rfl
@[simp] theorem updMo_intc (t w : Nat) (f : Motion → Motion) : (s.updMo t w f).intc = s.intc := rfl
@[simp] theorem updMo_img (t w : Nat) (f : Motion → Motion) : (s.updMo t w f).img = s.img := rfl
@[simp] theorem updMo_load (t w : Nat) (f : Motion → Motion) : (s.updMo t w f).load = s.load := rfl
@[simp] theorem updMo_link (t w : Nat) (f : Motion → Motion) : (s.updMo t w f).link = s.link := rfl
@[simp] theorem updMo_rcd (t w : Nat) (f : Motion → Motion) : (s.updMo t w f).rcd = s.rcd := rfl
@[simp] theorem updMo_flash (t w : Nat) (f : Motion → Motion) : (s.updMo t w f).flash = s.flash := rfl
@[simp] theorem updMo_seqs (t w : Nat) (f : Motion → Motion) : (s.updMo t w f).seqs = s.seqs := rfl
@[simp] theorem updMo_pumps (t w : Nat) (f : Motion → Motion) : (s.updMo t w f).pumps = s.pumps := rfl
@[simp] theorem updMo_clusters (t w : Nat) (f : Motion → Motion) : (s.updMo t w f).clusters = s.clusters := rfl
@[simp] theorem updMo_tiles (t w : Nat) (f : Motion → Motion) : (s.updMo t w f).tiles = s.tiles := rfl
@[simp] theorem updMo_plan (t w : Nat) (f : Motion → Motion) : (s.updMo t w f).plan = s.plan := rfl
@[simp] theorem updMo_gov (t w : Nat) (f : Motion → Motion) : (s.updMo t w f).gov = s.gov := rfl
@[simp] theorem updMo_capEvents (t w : Nat) (f : Motion → Motion) : (s.updMo t w f).capEvents = s.capEvents := rfl
@[simp] theorem updMo_freeCtr (t w : Nat) (f : Motion → Motion) : (s.updMo t w f).freeCtr = s.freeCtr := rfl
@[simp] theorem updMo_pending (t w : Nat) (f : Motion → Motion) : (s.updMo t w f).pending = s.pending := rfl
@[simp] theorem updMo_reg (t w : Nat) (f : Motion → Motion) (b : Nat) : (s.updMo t w f).reg b = s.reg b := rfl
@[simp] theorem updMo_rd (t w : Nat) (f : Motion → Motion) (b : Nat) (g : Fld) : (s.updMo t w f).rd b g = s.rd b g := rfl
@[simp] theorem updMo_rdi (t w : Nat) (f : Motion → Motion) (b : Nat) (g : Fld) : (s.updMo t w f).rdi b g = s.rdi b g := rfl
@[simp] theorem updMo_flag (t w : Nat) (f : Motion → Motion) (b : Nat) (g : Fld) : (s.updMo t w f).flag b g = s.flag b g := rfl
@[simp] theorem updMo_pump (t w : Nat) (f : Motion → Motion) (t2 w2 p2 : Nat) : (s.updMo t w f).pump t2 w2 p2 = s.pump t2 w2 p2 := rfl
@[simp] theorem updMo_cluster (t w : Nat) (f : Motion → Motion) (t2 k2 : Nat) : (s.updMo t w f).cluster t2 k2 = s.cluster t2 k2 := rfl
@[simp] theorem updMo_tile (t w : Nat) (f : Motion → Motion) (t2 : Nat) : (s.updMo t w f).tile t2 = s.tile t2 := rfl
@[simp] theorem updMo_sq (t w : Nat) (f : Motion → Motion) (n2 : Nat) : (s.updMo t w f).sq n2 = s.sq n2 := rfl
@[simp] theorem updMo_topoWord (t w : Nat) (f : Motion → Motion) (t2 w2 : Nat) : (s.updMo t w f).topoWord t2 w2 = s.topoWord t2 w2 := rfl

@[simp] theorem updLp_regs (t w : Nat) (f : Loop → Loop) : (s.updLp t w f).regs = s.regs := rfl
@[simp] theorem updLp_fuses (t w : Nat) (f : Loop → Loop) : (s.updLp t w f).fuses = s.fuses := rfl
@[simp] theorem updLp_clk (t w : Nat) (f : Loop → Loop) : (s.updLp t w f).clk = s.clk := rfl
@[simp] theorem updLp_port (t w : Nat) (f : Loop → Loop) : (s.updLp t w f).port = s.port := rfl
@[simp] theorem updLp_sb (t w : Nat) (f : Loop → Loop) : (s.updLp t w f).sb = s.sb := rfl
@[simp] theorem updLp_tap (t w : Nat) (f : Loop → Loop) : (s.updLp t w f).tap = s.tap := rfl
@[simp] theorem updLp_lc (t w : Nat) (f : Loop → Loop) : (s.updLp t w f).lc = s.lc := rfl
@[simp] theorem updLp_fault (t w : Nat) (f : Loop → Loop) : (s.updLp t w f).fault = s.fault := rfl
@[simp] theorem updLp_intc (t w : Nat) (f : Loop → Loop) : (s.updLp t w f).intc = s.intc := rfl
@[simp] theorem updLp_img (t w : Nat) (f : Loop → Loop) : (s.updLp t w f).img = s.img := rfl
@[simp] theorem updLp_load (t w : Nat) (f : Loop → Loop) : (s.updLp t w f).load = s.load := rfl
@[simp] theorem updLp_link (t w : Nat) (f : Loop → Loop) : (s.updLp t w f).link = s.link := rfl
@[simp] theorem updLp_rcd (t w : Nat) (f : Loop → Loop) : (s.updLp t w f).rcd = s.rcd := rfl
@[simp] theorem updLp_flash (t w : Nat) (f : Loop → Loop) : (s.updLp t w f).flash = s.flash := rfl
@[simp] theorem updLp_seqs (t w : Nat) (f : Loop → Loop) : (s.updLp t w f).seqs = s.seqs := rfl
@[simp] theorem updLp_pumps (t w : Nat) (f : Loop → Loop) : (s.updLp t w f).pumps = s.pumps := rfl
@[simp] theorem updLp_clusters (t w : Nat) (f : Loop → Loop) : (s.updLp t w f).clusters = s.clusters := rfl
@[simp] theorem updLp_tiles (t w : Nat) (f : Loop → Loop) : (s.updLp t w f).tiles = s.tiles := rfl
@[simp] theorem updLp_plan (t w : Nat) (f : Loop → Loop) : (s.updLp t w f).plan = s.plan := rfl
@[simp] theorem updLp_gov (t w : Nat) (f : Loop → Loop) : (s.updLp t w f).gov = s.gov := rfl
@[simp] theorem updLp_capEvents (t w : Nat) (f : Loop → Loop) : (s.updLp t w f).capEvents = s.capEvents := rfl
@[simp] theorem updLp_freeCtr (t w : Nat) (f : Loop → Loop) : (s.updLp t w f).freeCtr = s.freeCtr := rfl
@[simp] theorem updLp_pending (t w : Nat) (f : Loop → Loop) : (s.updLp t w f).pending = s.pending := rfl
@[simp] theorem updLp_reg (t w : Nat) (f : Loop → Loop) (b : Nat) : (s.updLp t w f).reg b = s.reg b := rfl
@[simp] theorem updLp_rd (t w : Nat) (f : Loop → Loop) (b : Nat) (g : Fld) : (s.updLp t w f).rd b g = s.rd b g := rfl
@[simp] theorem updLp_rdi (t w : Nat) (f : Loop → Loop) (b : Nat) (g : Fld) : (s.updLp t w f).rdi b g = s.rdi b g := rfl
@[simp] theorem updLp_flag (t w : Nat) (f : Loop → Loop) (b : Nat) (g : Fld) : (s.updLp t w f).flag b g = s.flag b g := rfl
@[simp] theorem updLp_pump (t w : Nat) (f : Loop → Loop) (t2 w2 p2 : Nat) : (s.updLp t w f).pump t2 w2 p2 = s.pump t2 w2 p2 := rfl
@[simp] theorem updLp_cluster (t w : Nat) (f : Loop → Loop) (t2 k2 : Nat) : (s.updLp t w f).cluster t2 k2 = s.cluster t2 k2 := rfl
@[simp] theorem updLp_tile (t w : Nat) (f : Loop → Loop) (t2 : Nat) : (s.updLp t w f).tile t2 = s.tile t2 := rfl
@[simp] theorem updLp_sq (t w : Nat) (f : Loop → Loop) (n2 : Nat) : (s.updLp t w f).sq n2 = s.sq n2 := rfl
@[simp] theorem updLp_topoWord (t w : Nat) (f : Loop → Loop) (t2 w2 : Nat) : (s.updLp t w f).topoWord t2 w2 = s.topoWord t2 w2 := rfl

@[simp] theorem updSh_regs (t w : Nat) (f : ShareX → ShareX) : (s.updSh t w f).regs = s.regs := rfl
@[simp] theorem updSh_fuses (t w : Nat) (f : ShareX → ShareX) : (s.updSh t w f).fuses = s.fuses := rfl
@[simp] theorem updSh_clk (t w : Nat) (f : ShareX → ShareX) : (s.updSh t w f).clk = s.clk := rfl
@[simp] theorem updSh_port (t w : Nat) (f : ShareX → ShareX) : (s.updSh t w f).port = s.port := rfl
@[simp] theorem updSh_sb (t w : Nat) (f : ShareX → ShareX) : (s.updSh t w f).sb = s.sb := rfl
@[simp] theorem updSh_tap (t w : Nat) (f : ShareX → ShareX) : (s.updSh t w f).tap = s.tap := rfl
@[simp] theorem updSh_lc (t w : Nat) (f : ShareX → ShareX) : (s.updSh t w f).lc = s.lc := rfl
@[simp] theorem updSh_fault (t w : Nat) (f : ShareX → ShareX) : (s.updSh t w f).fault = s.fault := rfl
@[simp] theorem updSh_intc (t w : Nat) (f : ShareX → ShareX) : (s.updSh t w f).intc = s.intc := rfl
@[simp] theorem updSh_img (t w : Nat) (f : ShareX → ShareX) : (s.updSh t w f).img = s.img := rfl
@[simp] theorem updSh_load (t w : Nat) (f : ShareX → ShareX) : (s.updSh t w f).load = s.load := rfl
@[simp] theorem updSh_link (t w : Nat) (f : ShareX → ShareX) : (s.updSh t w f).link = s.link := rfl
@[simp] theorem updSh_rcd (t w : Nat) (f : ShareX → ShareX) : (s.updSh t w f).rcd = s.rcd := rfl
@[simp] theorem updSh_flash (t w : Nat) (f : ShareX → ShareX) : (s.updSh t w f).flash = s.flash := rfl
@[simp] theorem updSh_seqs (t w : Nat) (f : ShareX → ShareX) : (s.updSh t w f).seqs = s.seqs := rfl
@[simp] theorem updSh_pumps (t w : Nat) (f : ShareX → ShareX) : (s.updSh t w f).pumps = s.pumps := rfl
@[simp] theorem updSh_clusters (t w : Nat) (f : ShareX → ShareX) : (s.updSh t w f).clusters = s.clusters := rfl
@[simp] theorem updSh_tiles (t w : Nat) (f : ShareX → ShareX) : (s.updSh t w f).tiles = s.tiles := rfl
@[simp] theorem updSh_plan (t w : Nat) (f : ShareX → ShareX) : (s.updSh t w f).plan = s.plan := rfl
@[simp] theorem updSh_gov (t w : Nat) (f : ShareX → ShareX) : (s.updSh t w f).gov = s.gov := rfl
@[simp] theorem updSh_capEvents (t w : Nat) (f : ShareX → ShareX) : (s.updSh t w f).capEvents = s.capEvents := rfl
@[simp] theorem updSh_freeCtr (t w : Nat) (f : ShareX → ShareX) : (s.updSh t w f).freeCtr = s.freeCtr := rfl
@[simp] theorem updSh_pending (t w : Nat) (f : ShareX → ShareX) : (s.updSh t w f).pending = s.pending := rfl
@[simp] theorem updSh_reg (t w : Nat) (f : ShareX → ShareX) (b : Nat) : (s.updSh t w f).reg b = s.reg b := rfl
@[simp] theorem updSh_rd (t w : Nat) (f : ShareX → ShareX) (b : Nat) (g : Fld) : (s.updSh t w f).rd b g = s.rd b g := rfl
@[simp] theorem updSh_rdi (t w : Nat) (f : ShareX → ShareX) (b : Nat) (g : Fld) : (s.updSh t w f).rdi b g = s.rdi b g := rfl
@[simp] theorem updSh_flag (t w : Nat) (f : ShareX → ShareX) (b : Nat) (g : Fld) : (s.updSh t w f).flag b g = s.flag b g := rfl
@[simp] theorem updSh_pump (t w : Nat) (f : ShareX → ShareX) (t2 w2 p2 : Nat) : (s.updSh t w f).pump t2 w2 p2 = s.pump t2 w2 p2 := rfl
@[simp] theorem updSh_cluster (t w : Nat) (f : ShareX → ShareX) (t2 k2 : Nat) : (s.updSh t w f).cluster t2 k2 = s.cluster t2 k2 := rfl
@[simp] theorem updSh_tile (t w : Nat) (f : ShareX → ShareX) (t2 : Nat) : (s.updSh t w f).tile t2 = s.tile t2 := rfl
@[simp] theorem updSh_sq (t w : Nat) (f : ShareX → ShareX) (n2 : Nat) : (s.updSh t w f).sq n2 = s.sq n2 := rfl
@[simp] theorem updSh_topoWord (t w : Nat) (f : ShareX → ShareX) (t2 w2 : Nat) : (s.updSh t w f).topoWord t2 w2 = s.topoWord t2 w2 := rfl

@[simp] theorem updTe_regs (t w : Nat) (f : TestX → TestX) : (s.updTe t w f).regs = s.regs := rfl
@[simp] theorem updTe_fuses (t w : Nat) (f : TestX → TestX) : (s.updTe t w f).fuses = s.fuses := rfl
@[simp] theorem updTe_clk (t w : Nat) (f : TestX → TestX) : (s.updTe t w f).clk = s.clk := rfl
@[simp] theorem updTe_port (t w : Nat) (f : TestX → TestX) : (s.updTe t w f).port = s.port := rfl
@[simp] theorem updTe_sb (t w : Nat) (f : TestX → TestX) : (s.updTe t w f).sb = s.sb := rfl
@[simp] theorem updTe_tap (t w : Nat) (f : TestX → TestX) : (s.updTe t w f).tap = s.tap := rfl
@[simp] theorem updTe_lc (t w : Nat) (f : TestX → TestX) : (s.updTe t w f).lc = s.lc := rfl
@[simp] theorem updTe_fault (t w : Nat) (f : TestX → TestX) : (s.updTe t w f).fault = s.fault := rfl
@[simp] theorem updTe_intc (t w : Nat) (f : TestX → TestX) : (s.updTe t w f).intc = s.intc := rfl
@[simp] theorem updTe_img (t w : Nat) (f : TestX → TestX) : (s.updTe t w f).img = s.img := rfl
@[simp] theorem updTe_load (t w : Nat) (f : TestX → TestX) : (s.updTe t w f).load = s.load := rfl
@[simp] theorem updTe_link (t w : Nat) (f : TestX → TestX) : (s.updTe t w f).link = s.link := rfl
@[simp] theorem updTe_rcd (t w : Nat) (f : TestX → TestX) : (s.updTe t w f).rcd = s.rcd := rfl
@[simp] theorem updTe_flash (t w : Nat) (f : TestX → TestX) : (s.updTe t w f).flash = s.flash := rfl
@[simp] theorem updTe_seqs (t w : Nat) (f : TestX → TestX) : (s.updTe t w f).seqs = s.seqs := rfl
@[simp] theorem updTe_pumps (t w : Nat) (f : TestX → TestX) : (s.updTe t w f).pumps = s.pumps := rfl
@[simp] theorem updTe_clusters (t w : Nat) (f : TestX → TestX) : (s.updTe t w f).clusters = s.clusters := rfl
@[simp] theorem updTe_tiles (t w : Nat) (f : TestX → TestX) : (s.updTe t w f).tiles = s.tiles := rfl
@[simp] theorem updTe_plan (t w : Nat) (f : TestX → TestX) : (s.updTe t w f).plan = s.plan := rfl
@[simp] theorem updTe_gov (t w : Nat) (f : TestX → TestX) : (s.updTe t w f).gov = s.gov := rfl
@[simp] theorem updTe_capEvents (t w : Nat) (f : TestX → TestX) : (s.updTe t w f).capEvents = s.capEvents := rfl
@[simp] theorem updTe_freeCtr (t w : Nat) (f : TestX → TestX) : (s.updTe t w f).freeCtr = s.freeCtr := rfl
@[simp] theorem updTe_pending (t w : Nat) (f : TestX → TestX) : (s.updTe t w f).pending = s.pending := rfl
@[simp] theorem updTe_reg (t w : Nat) (f : TestX → TestX) (b : Nat) : (s.updTe t w f).reg b = s.reg b := rfl
@[simp] theorem updTe_rd (t w : Nat) (f : TestX → TestX) (b : Nat) (g : Fld) : (s.updTe t w f).rd b g = s.rd b g := rfl
@[simp] theorem updTe_rdi (t w : Nat) (f : TestX → TestX) (b : Nat) (g : Fld) : (s.updTe t w f).rdi b g = s.rdi b g := rfl
@[simp] theorem updTe_flag (t w : Nat) (f : TestX → TestX) (b : Nat) (g : Fld) : (s.updTe t w f).flag b g = s.flag b g := rfl
@[simp] theorem updTe_pump (t w : Nat) (f : TestX → TestX) (t2 w2 p2 : Nat) : (s.updTe t w f).pump t2 w2 p2 = s.pump t2 w2 p2 := rfl
@[simp] theorem updTe_cluster (t w : Nat) (f : TestX → TestX) (t2 k2 : Nat) : (s.updTe t w f).cluster t2 k2 = s.cluster t2 k2 := rfl
@[simp] theorem updTe_tile (t w : Nat) (f : TestX → TestX) (t2 : Nat) : (s.updTe t w f).tile t2 = s.tile t2 := rfl
@[simp] theorem updTe_sq (t w : Nat) (f : TestX → TestX) (n2 : Nat) : (s.updTe t w f).sq n2 = s.sq n2 := rfl
@[simp] theorem updTe_topoWord (t w : Nat) (f : TestX → TestX) (t2 w2 : Nat) : (s.updTe t w f).topoWord t2 w2 = s.topoWord t2 w2 := rfl

@[simp] theorem updVo_regs (t w : Nat) (f : VoteX → VoteX) : (s.updVo t w f).regs = s.regs := rfl
@[simp] theorem updVo_fuses (t w : Nat) (f : VoteX → VoteX) : (s.updVo t w f).fuses = s.fuses := rfl
@[simp] theorem updVo_clk (t w : Nat) (f : VoteX → VoteX) : (s.updVo t w f).clk = s.clk := rfl
@[simp] theorem updVo_port (t w : Nat) (f : VoteX → VoteX) : (s.updVo t w f).port = s.port := rfl
@[simp] theorem updVo_sb (t w : Nat) (f : VoteX → VoteX) : (s.updVo t w f).sb = s.sb := rfl
@[simp] theorem updVo_tap (t w : Nat) (f : VoteX → VoteX) : (s.updVo t w f).tap = s.tap := rfl
@[simp] theorem updVo_lc (t w : Nat) (f : VoteX → VoteX) : (s.updVo t w f).lc = s.lc := rfl
@[simp] theorem updVo_fault (t w : Nat) (f : VoteX → VoteX) : (s.updVo t w f).fault = s.fault := rfl
@[simp] theorem updVo_intc (t w : Nat) (f : VoteX → VoteX) : (s.updVo t w f).intc = s.intc := rfl
@[simp] theorem updVo_img (t w : Nat) (f : VoteX → VoteX) : (s.updVo t w f).img = s.img := rfl
@[simp] theorem updVo_load (t w : Nat) (f : VoteX → VoteX) : (s.updVo t w f).load = s.load := rfl
@[simp] theorem updVo_link (t w : Nat) (f : VoteX → VoteX) : (s.updVo t w f).link = s.link := rfl
@[simp] theorem updVo_rcd (t w : Nat) (f : VoteX → VoteX) : (s.updVo t w f).rcd = s.rcd := rfl
@[simp] theorem updVo_flash (t w : Nat) (f : VoteX → VoteX) : (s.updVo t w f).flash = s.flash := rfl
@[simp] theorem updVo_seqs (t w : Nat) (f : VoteX → VoteX) : (s.updVo t w f).seqs = s.seqs := rfl
@[simp] theorem updVo_pumps (t w : Nat) (f : VoteX → VoteX) : (s.updVo t w f).pumps = s.pumps := rfl
@[simp] theorem updVo_clusters (t w : Nat) (f : VoteX → VoteX) : (s.updVo t w f).clusters = s.clusters := rfl
@[simp] theorem updVo_tiles (t w : Nat) (f : VoteX → VoteX) : (s.updVo t w f).tiles = s.tiles := rfl
@[simp] theorem updVo_plan (t w : Nat) (f : VoteX → VoteX) : (s.updVo t w f).plan = s.plan := rfl
@[simp] theorem updVo_gov (t w : Nat) (f : VoteX → VoteX) : (s.updVo t w f).gov = s.gov := rfl
@[simp] theorem updVo_capEvents (t w : Nat) (f : VoteX → VoteX) : (s.updVo t w f).capEvents = s.capEvents := rfl
@[simp] theorem updVo_freeCtr (t w : Nat) (f : VoteX → VoteX) : (s.updVo t w f).freeCtr = s.freeCtr := rfl
@[simp] theorem updVo_pending (t w : Nat) (f : VoteX → VoteX) : (s.updVo t w f).pending = s.pending := rfl
@[simp] theorem updVo_reg (t w : Nat) (f : VoteX → VoteX) (b : Nat) : (s.updVo t w f).reg b = s.reg b := rfl
@[simp] theorem updVo_rd (t w : Nat) (f : VoteX → VoteX) (b : Nat) (g : Fld) : (s.updVo t w f).rd b g = s.rd b g := rfl
@[simp] theorem updVo_rdi (t w : Nat) (f : VoteX → VoteX) (b : Nat) (g : Fld) : (s.updVo t w f).rdi b g = s.rdi b g := rfl
@[simp] theorem updVo_flag (t w : Nat) (f : VoteX → VoteX) (b : Nat) (g : Fld) : (s.updVo t w f).flag b g = s.flag b g := rfl
@[simp] theorem updVo_pump (t w : Nat) (f : VoteX → VoteX) (t2 w2 p2 : Nat) : (s.updVo t w f).pump t2 w2 p2 = s.pump t2 w2 p2 := rfl
@[simp] theorem updVo_cluster (t w : Nat) (f : VoteX → VoteX) (t2 k2 : Nat) : (s.updVo t w f).cluster t2 k2 = s.cluster t2 k2 := rfl
@[simp] theorem updVo_tile (t w : Nat) (f : VoteX → VoteX) (t2 : Nat) : (s.updVo t w f).tile t2 = s.tile t2 := rfl
@[simp] theorem updVo_sq (t w : Nat) (f : VoteX → VoteX) (n2 : Nat) : (s.updVo t w f).sq n2 = s.sq n2 := rfl
@[simp] theorem updVo_topoWord (t w : Nat) (f : VoteX → VoteX) (t2 w2 : Nat) : (s.updVo t w f).topoWord t2 w2 = s.topoWord t2 w2 := rfl

@[simp] theorem setPump_regs (t w p : Nat) (x : PumpX) : (s.setPump t w p x).regs = s.regs := rfl
@[simp] theorem setPump_fuses (t w p : Nat) (x : PumpX) : (s.setPump t w p x).fuses = s.fuses := rfl
@[simp] theorem setPump_clk (t w p : Nat) (x : PumpX) : (s.setPump t w p x).clk = s.clk := rfl
@[simp] theorem setPump_port (t w p : Nat) (x : PumpX) : (s.setPump t w p x).port = s.port := rfl
@[simp] theorem setPump_sb (t w p : Nat) (x : PumpX) : (s.setPump t w p x).sb = s.sb := rfl
@[simp] theorem setPump_tap (t w p : Nat) (x : PumpX) : (s.setPump t w p x).tap = s.tap := rfl
@[simp] theorem setPump_lc (t w p : Nat) (x : PumpX) : (s.setPump t w p x).lc = s.lc := rfl
@[simp] theorem setPump_fault (t w p : Nat) (x : PumpX) : (s.setPump t w p x).fault = s.fault := rfl
@[simp] theorem setPump_intc (t w p : Nat) (x : PumpX) : (s.setPump t w p x).intc = s.intc := rfl
@[simp] theorem setPump_img (t w p : Nat) (x : PumpX) : (s.setPump t w p x).img = s.img := rfl
@[simp] theorem setPump_load (t w p : Nat) (x : PumpX) : (s.setPump t w p x).load = s.load := rfl
@[simp] theorem setPump_link (t w p : Nat) (x : PumpX) : (s.setPump t w p x).link = s.link := rfl
@[simp] theorem setPump_rcd (t w p : Nat) (x : PumpX) : (s.setPump t w p x).rcd = s.rcd := rfl
@[simp] theorem setPump_flash (t w p : Nat) (x : PumpX) : (s.setPump t w p x).flash = s.flash := rfl
@[simp] theorem setPump_seqs (t w p : Nat) (x : PumpX) : (s.setPump t w p x).seqs = s.seqs := rfl
@[simp] theorem setPump_wells (t w p : Nat) (x : PumpX) : (s.setPump t w p x).wells = s.wells := rfl
@[simp] theorem setPump_clusters (t w p : Nat) (x : PumpX) : (s.setPump t w p x).clusters = s.clusters := rfl
@[simp] theorem setPump_tiles (t w p : Nat) (x : PumpX) : (s.setPump t w p x).tiles = s.tiles := rfl
@[simp] theorem setPump_plan (t w p : Nat) (x : PumpX) : (s.setPump t w p x).plan = s.plan := rfl
@[simp] theorem setPump_gov (t w p : Nat) (x : PumpX) : (s.setPump t w p x).gov = s.gov := rfl
@[simp] theorem setPump_capEvents (t w p : Nat) (x : PumpX) : (s.setPump t w p x).capEvents = s.capEvents := rfl
@[simp] theorem setPump_freeCtr (t w p : Nat) (x : PumpX) : (s.setPump t w p x).freeCtr = s.freeCtr := rfl
@[simp] theorem setPump_pending (t w p : Nat) (x : PumpX) : (s.setPump t w p x).pending = s.pending := rfl
@[simp] theorem setPump_reg (t w p : Nat) (x : PumpX) (b : Nat) : (s.setPump t w p x).reg b = s.reg b := rfl
@[simp] theorem setPump_rd (t w p : Nat) (x : PumpX) (b : Nat) (g : Fld) : (s.setPump t w p x).rd b g = s.rd b g := rfl
@[simp] theorem setPump_rdi (t w p : Nat) (x : PumpX) (b : Nat) (g : Fld) : (s.setPump t w p x).rdi b g = s.rdi b g := rfl
@[simp] theorem setPump_flag (t w p : Nat) (x : PumpX) (b : Nat) (g : Fld) : (s.setPump t w p x).flag b g = s.flag b g := rfl
@[simp] theorem setPump_well (t w p : Nat) (x : PumpX) (t2 w2 : Nat) : (s.setPump t w p x).well t2 w2 = s.well t2 w2 := rfl
@[simp] theorem setPump_cluster (t w p : Nat) (x : PumpX) (t2 k2 : Nat) : (s.setPump t w p x).cluster t2 k2 = s.cluster t2 k2 := rfl
@[simp] theorem setPump_tile (t w p : Nat) (x : PumpX) (t2 : Nat) : (s.setPump t w p x).tile t2 = s.tile t2 := rfl
@[simp] theorem setPump_sq (t w p : Nat) (x : PumpX) (n2 : Nat) : (s.setPump t w p x).sq n2 = s.sq n2 := rfl
@[simp] theorem setPump_topoWord (t w p : Nat) (x : PumpX) (t2 w2 : Nat) : (s.setPump t w p x).topoWord t2 w2 = s.topoWord t2 w2 := rfl

@[simp] theorem updPump_regs (t w p : Nat) (f : PumpX → PumpX) : (s.updPump t w p f).regs = s.regs := rfl
@[simp] theorem updPump_fuses (t w p : Nat) (f : PumpX → PumpX) : (s.updPump t w p f).fuses = s.fuses := rfl
@[simp] theorem updPump_clk (t w p : Nat) (f : PumpX → PumpX) : (s.updPump t w p f).clk = s.clk := rfl
@[simp] theorem updPump_port (t w p : Nat) (f : PumpX → PumpX) : (s.updPump t w p f).port = s.port := rfl
@[simp] theorem updPump_sb (t w p : Nat) (f : PumpX → PumpX) : (s.updPump t w p f).sb = s.sb := rfl
@[simp] theorem updPump_tap (t w p : Nat) (f : PumpX → PumpX) : (s.updPump t w p f).tap = s.tap := rfl
@[simp] theorem updPump_lc (t w p : Nat) (f : PumpX → PumpX) : (s.updPump t w p f).lc = s.lc := rfl
@[simp] theorem updPump_fault (t w p : Nat) (f : PumpX → PumpX) : (s.updPump t w p f).fault = s.fault := rfl
@[simp] theorem updPump_intc (t w p : Nat) (f : PumpX → PumpX) : (s.updPump t w p f).intc = s.intc := rfl
@[simp] theorem updPump_img (t w p : Nat) (f : PumpX → PumpX) : (s.updPump t w p f).img = s.img := rfl
@[simp] theorem updPump_load (t w p : Nat) (f : PumpX → PumpX) : (s.updPump t w p f).load = s.load := rfl
@[simp] theorem updPump_link (t w p : Nat) (f : PumpX → PumpX) : (s.updPump t w p f).link = s.link := rfl
@[simp] theorem updPump_rcd (t w p : Nat) (f : PumpX → PumpX) : (s.updPump t w p f).rcd = s.rcd := rfl
@[simp] theorem updPump_flash (t w p : Nat) (f : PumpX → PumpX) : (s.updPump t w p f).flash = s.flash := rfl
@[simp] theorem updPump_seqs (t w p : Nat) (f : PumpX → PumpX) : (s.updPump t w p f).seqs = s.seqs := rfl
@[simp] theorem updPump_wells (t w p : Nat) (f : PumpX → PumpX) : (s.updPump t w p f).wells = s.wells := rfl
@[simp] theorem updPump_clusters (t w p : Nat) (f : PumpX → PumpX) : (s.updPump t w p f).clusters = s.clusters := rfl
@[simp] theorem updPump_tiles (t w p : Nat) (f : PumpX → PumpX) : (s.updPump t w p f).tiles = s.tiles := rfl
@[simp] theorem updPump_plan (t w p : Nat) (f : PumpX → PumpX) : (s.updPump t w p f).plan = s.plan := rfl
@[simp] theorem updPump_gov (t w p : Nat) (f : PumpX → PumpX) : (s.updPump t w p f).gov = s.gov := rfl
@[simp] theorem updPump_capEvents (t w p : Nat) (f : PumpX → PumpX) : (s.updPump t w p f).capEvents = s.capEvents := rfl
@[simp] theorem updPump_freeCtr (t w p : Nat) (f : PumpX → PumpX) : (s.updPump t w p f).freeCtr = s.freeCtr := rfl
@[simp] theorem updPump_pending (t w p : Nat) (f : PumpX → PumpX) : (s.updPump t w p f).pending = s.pending := rfl
@[simp] theorem updPump_reg (t w p : Nat) (f : PumpX → PumpX) (b : Nat) : (s.updPump t w p f).reg b = s.reg b := rfl
@[simp] theorem updPump_rd (t w p : Nat) (f : PumpX → PumpX) (b : Nat) (g : Fld) : (s.updPump t w p f).rd b g = s.rd b g := rfl
@[simp] theorem updPump_rdi (t w p : Nat) (f : PumpX → PumpX) (b : Nat) (g : Fld) : (s.updPump t w p f).rdi b g = s.rdi b g := rfl
@[simp] theorem updPump_flag (t w p : Nat) (f : PumpX → PumpX) (b : Nat) (g : Fld) : (s.updPump t w p f).flag b g = s.flag b g := rfl
@[simp] theorem updPump_well (t w p : Nat) (f : PumpX → PumpX) (t2 w2 : Nat) : (s.updPump t w p f).well t2 w2 = s.well t2 w2 := rfl
@[simp] theorem updPump_cluster (t w p : Nat) (f : PumpX → PumpX) (t2 k2 : Nat) : (s.updPump t w p f).cluster t2 k2 = s.cluster t2 k2 := rfl
@[simp] theorem updPump_tile (t w p : Nat) (f : PumpX → PumpX) (t2 : Nat) : (s.updPump t w p f).tile t2 = s.tile t2 := rfl
@[simp] theorem updPump_sq (t w p : Nat) (f : PumpX → PumpX) (n2 : Nat) : (s.updPump t w p f).sq n2 = s.sq n2 := rfl
@[simp] theorem updPump_topoWord (t w p : Nat) (f : PumpX → PumpX) (t2 w2 : Nat) : (s.updPump t w p f).topoWord t2 w2 = s.topoWord t2 w2 := rfl

@[simp] theorem setCluster_regs (t k : Nat) (x : ClusterX) : (s.setCluster t k x).regs = s.regs := rfl
@[simp] theorem setCluster_fuses (t k : Nat) (x : ClusterX) : (s.setCluster t k x).fuses = s.fuses := rfl
@[simp] theorem setCluster_clk (t k : Nat) (x : ClusterX) : (s.setCluster t k x).clk = s.clk := rfl
@[simp] theorem setCluster_port (t k : Nat) (x : ClusterX) : (s.setCluster t k x).port = s.port := rfl
@[simp] theorem setCluster_sb (t k : Nat) (x : ClusterX) : (s.setCluster t k x).sb = s.sb := rfl
@[simp] theorem setCluster_tap (t k : Nat) (x : ClusterX) : (s.setCluster t k x).tap = s.tap := rfl
@[simp] theorem setCluster_lc (t k : Nat) (x : ClusterX) : (s.setCluster t k x).lc = s.lc := rfl
@[simp] theorem setCluster_fault (t k : Nat) (x : ClusterX) : (s.setCluster t k x).fault = s.fault := rfl
@[simp] theorem setCluster_intc (t k : Nat) (x : ClusterX) : (s.setCluster t k x).intc = s.intc := rfl
@[simp] theorem setCluster_img (t k : Nat) (x : ClusterX) : (s.setCluster t k x).img = s.img := rfl
@[simp] theorem setCluster_load (t k : Nat) (x : ClusterX) : (s.setCluster t k x).load = s.load := rfl
@[simp] theorem setCluster_link (t k : Nat) (x : ClusterX) : (s.setCluster t k x).link = s.link := rfl
@[simp] theorem setCluster_rcd (t k : Nat) (x : ClusterX) : (s.setCluster t k x).rcd = s.rcd := rfl
@[simp] theorem setCluster_flash (t k : Nat) (x : ClusterX) : (s.setCluster t k x).flash = s.flash := rfl
@[simp] theorem setCluster_seqs (t k : Nat) (x : ClusterX) : (s.setCluster t k x).seqs = s.seqs := rfl
@[simp] theorem setCluster_wells (t k : Nat) (x : ClusterX) : (s.setCluster t k x).wells = s.wells := rfl
@[simp] theorem setCluster_pumps (t k : Nat) (x : ClusterX) : (s.setCluster t k x).pumps = s.pumps := rfl
@[simp] theorem setCluster_tiles (t k : Nat) (x : ClusterX) : (s.setCluster t k x).tiles = s.tiles := rfl
@[simp] theorem setCluster_plan (t k : Nat) (x : ClusterX) : (s.setCluster t k x).plan = s.plan := rfl
@[simp] theorem setCluster_gov (t k : Nat) (x : ClusterX) : (s.setCluster t k x).gov = s.gov := rfl
@[simp] theorem setCluster_capEvents (t k : Nat) (x : ClusterX) : (s.setCluster t k x).capEvents = s.capEvents := rfl
@[simp] theorem setCluster_freeCtr (t k : Nat) (x : ClusterX) : (s.setCluster t k x).freeCtr = s.freeCtr := rfl
@[simp] theorem setCluster_pending (t k : Nat) (x : ClusterX) : (s.setCluster t k x).pending = s.pending := rfl
@[simp] theorem setCluster_reg (t k : Nat) (x : ClusterX) (b : Nat) : (s.setCluster t k x).reg b = s.reg b := rfl
@[simp] theorem setCluster_rd (t k : Nat) (x : ClusterX) (b : Nat) (g : Fld) : (s.setCluster t k x).rd b g = s.rd b g := rfl
@[simp] theorem setCluster_rdi (t k : Nat) (x : ClusterX) (b : Nat) (g : Fld) : (s.setCluster t k x).rdi b g = s.rdi b g := rfl
@[simp] theorem setCluster_flag (t k : Nat) (x : ClusterX) (b : Nat) (g : Fld) : (s.setCluster t k x).flag b g = s.flag b g := rfl
@[simp] theorem setCluster_well (t k : Nat) (x : ClusterX) (t2 w2 : Nat) : (s.setCluster t k x).well t2 w2 = s.well t2 w2 := rfl
@[simp] theorem setCluster_pump (t k : Nat) (x : ClusterX) (t2 w2 p2 : Nat) : (s.setCluster t k x).pump t2 w2 p2 = s.pump t2 w2 p2 := rfl
@[simp] theorem setCluster_tile (t k : Nat) (x : ClusterX) (t2 : Nat) : (s.setCluster t k x).tile t2 = s.tile t2 := rfl
@[simp] theorem setCluster_sq (t k : Nat) (x : ClusterX) (n2 : Nat) : (s.setCluster t k x).sq n2 = s.sq n2 := rfl
@[simp] theorem setCluster_topoWord (t k : Nat) (x : ClusterX) (t2 w2 : Nat) : (s.setCluster t k x).topoWord t2 w2 = s.topoWord t2 w2 := rfl

@[simp] theorem updCl_regs (t k : Nat) (f : ClusterX → ClusterX) : (s.updCl t k f).regs = s.regs := rfl
@[simp] theorem updCl_fuses (t k : Nat) (f : ClusterX → ClusterX) : (s.updCl t k f).fuses = s.fuses := rfl
@[simp] theorem updCl_clk (t k : Nat) (f : ClusterX → ClusterX) : (s.updCl t k f).clk = s.clk := rfl
@[simp] theorem updCl_port (t k : Nat) (f : ClusterX → ClusterX) : (s.updCl t k f).port = s.port := rfl
@[simp] theorem updCl_sb (t k : Nat) (f : ClusterX → ClusterX) : (s.updCl t k f).sb = s.sb := rfl
@[simp] theorem updCl_tap (t k : Nat) (f : ClusterX → ClusterX) : (s.updCl t k f).tap = s.tap := rfl
@[simp] theorem updCl_lc (t k : Nat) (f : ClusterX → ClusterX) : (s.updCl t k f).lc = s.lc := rfl
@[simp] theorem updCl_fault (t k : Nat) (f : ClusterX → ClusterX) : (s.updCl t k f).fault = s.fault := rfl
@[simp] theorem updCl_intc (t k : Nat) (f : ClusterX → ClusterX) : (s.updCl t k f).intc = s.intc := rfl
@[simp] theorem updCl_img (t k : Nat) (f : ClusterX → ClusterX) : (s.updCl t k f).img = s.img := rfl
@[simp] theorem updCl_load (t k : Nat) (f : ClusterX → ClusterX) : (s.updCl t k f).load = s.load := rfl
@[simp] theorem updCl_link (t k : Nat) (f : ClusterX → ClusterX) : (s.updCl t k f).link = s.link := rfl
@[simp] theorem updCl_rcd (t k : Nat) (f : ClusterX → ClusterX) : (s.updCl t k f).rcd = s.rcd := rfl
@[simp] theorem updCl_flash (t k : Nat) (f : ClusterX → ClusterX) : (s.updCl t k f).flash = s.flash := rfl
@[simp] theorem updCl_seqs (t k : Nat) (f : ClusterX → ClusterX) : (s.updCl t k f).seqs = s.seqs := rfl
@[simp] theorem updCl_wells (t k : Nat) (f : ClusterX → ClusterX) : (s.updCl t k f).wells = s.wells := rfl
@[simp] theorem updCl_pumps (t k : Nat) (f : ClusterX → ClusterX) : (s.updCl t k f).pumps = s.pumps := rfl
@[simp] theorem updCl_tiles (t k : Nat) (f : ClusterX → ClusterX) : (s.updCl t k f).tiles = s.tiles := rfl
@[simp] theorem updCl_plan (t k : Nat) (f : ClusterX → ClusterX) : (s.updCl t k f).plan = s.plan := rfl
@[simp] theorem updCl_gov (t k : Nat) (f : ClusterX → ClusterX) : (s.updCl t k f).gov = s.gov := rfl
@[simp] theorem updCl_capEvents (t k : Nat) (f : ClusterX → ClusterX) : (s.updCl t k f).capEvents = s.capEvents := rfl
@[simp] theorem updCl_freeCtr (t k : Nat) (f : ClusterX → ClusterX) : (s.updCl t k f).freeCtr = s.freeCtr := rfl
@[simp] theorem updCl_pending (t k : Nat) (f : ClusterX → ClusterX) : (s.updCl t k f).pending = s.pending := rfl
@[simp] theorem updCl_reg (t k : Nat) (f : ClusterX → ClusterX) (b : Nat) : (s.updCl t k f).reg b = s.reg b := rfl
@[simp] theorem updCl_rd (t k : Nat) (f : ClusterX → ClusterX) (b : Nat) (g : Fld) : (s.updCl t k f).rd b g = s.rd b g := rfl
@[simp] theorem updCl_rdi (t k : Nat) (f : ClusterX → ClusterX) (b : Nat) (g : Fld) : (s.updCl t k f).rdi b g = s.rdi b g := rfl
@[simp] theorem updCl_flag (t k : Nat) (f : ClusterX → ClusterX) (b : Nat) (g : Fld) : (s.updCl t k f).flag b g = s.flag b g := rfl
@[simp] theorem updCl_well (t k : Nat) (f : ClusterX → ClusterX) (t2 w2 : Nat) : (s.updCl t k f).well t2 w2 = s.well t2 w2 := rfl
@[simp] theorem updCl_pump (t k : Nat) (f : ClusterX → ClusterX) (t2 w2 p2 : Nat) : (s.updCl t k f).pump t2 w2 p2 = s.pump t2 w2 p2 := rfl
@[simp] theorem updCl_tile (t k : Nat) (f : ClusterX → ClusterX) (t2 : Nat) : (s.updCl t k f).tile t2 = s.tile t2 := rfl
@[simp] theorem updCl_sq (t k : Nat) (f : ClusterX → ClusterX) (n2 : Nat) : (s.updCl t k f).sq n2 = s.sq n2 := rfl
@[simp] theorem updCl_topoWord (t k : Nat) (f : ClusterX → ClusterX) (t2 w2 : Nat) : (s.updCl t k f).topoWord t2 w2 = s.topoWord t2 w2 := rfl

@[simp] theorem setTile_regs (t : Nat) (x : TileX) : (s.setTile t x).regs = s.regs := rfl
@[simp] theorem setTile_fuses (t : Nat) (x : TileX) : (s.setTile t x).fuses = s.fuses := rfl
@[simp] theorem setTile_clk (t : Nat) (x : TileX) : (s.setTile t x).clk = s.clk := rfl
@[simp] theorem setTile_port (t : Nat) (x : TileX) : (s.setTile t x).port = s.port := rfl
@[simp] theorem setTile_sb (t : Nat) (x : TileX) : (s.setTile t x).sb = s.sb := rfl
@[simp] theorem setTile_tap (t : Nat) (x : TileX) : (s.setTile t x).tap = s.tap := rfl
@[simp] theorem setTile_lc (t : Nat) (x : TileX) : (s.setTile t x).lc = s.lc := rfl
@[simp] theorem setTile_fault (t : Nat) (x : TileX) : (s.setTile t x).fault = s.fault := rfl
@[simp] theorem setTile_intc (t : Nat) (x : TileX) : (s.setTile t x).intc = s.intc := rfl
@[simp] theorem setTile_img (t : Nat) (x : TileX) : (s.setTile t x).img = s.img := rfl
@[simp] theorem setTile_load (t : Nat) (x : TileX) : (s.setTile t x).load = s.load := rfl
@[simp] theorem setTile_link (t : Nat) (x : TileX) : (s.setTile t x).link = s.link := rfl
@[simp] theorem setTile_rcd (t : Nat) (x : TileX) : (s.setTile t x).rcd = s.rcd := rfl
@[simp] theorem setTile_flash (t : Nat) (x : TileX) : (s.setTile t x).flash = s.flash := rfl
@[simp] theorem setTile_seqs (t : Nat) (x : TileX) : (s.setTile t x).seqs = s.seqs := rfl
@[simp] theorem setTile_wells (t : Nat) (x : TileX) : (s.setTile t x).wells = s.wells := rfl
@[simp] theorem setTile_pumps (t : Nat) (x : TileX) : (s.setTile t x).pumps = s.pumps := rfl
@[simp] theorem setTile_clusters (t : Nat) (x : TileX) : (s.setTile t x).clusters = s.clusters := rfl
@[simp] theorem setTile_plan (t : Nat) (x : TileX) : (s.setTile t x).plan = s.plan := rfl
@[simp] theorem setTile_gov (t : Nat) (x : TileX) : (s.setTile t x).gov = s.gov := rfl
@[simp] theorem setTile_capEvents (t : Nat) (x : TileX) : (s.setTile t x).capEvents = s.capEvents := rfl
@[simp] theorem setTile_freeCtr (t : Nat) (x : TileX) : (s.setTile t x).freeCtr = s.freeCtr := rfl
@[simp] theorem setTile_pending (t : Nat) (x : TileX) : (s.setTile t x).pending = s.pending := rfl
@[simp] theorem setTile_reg (t : Nat) (x : TileX) (b : Nat) : (s.setTile t x).reg b = s.reg b := rfl
@[simp] theorem setTile_rd (t : Nat) (x : TileX) (b : Nat) (g : Fld) : (s.setTile t x).rd b g = s.rd b g := rfl
@[simp] theorem setTile_rdi (t : Nat) (x : TileX) (b : Nat) (g : Fld) : (s.setTile t x).rdi b g = s.rdi b g := rfl
@[simp] theorem setTile_flag (t : Nat) (x : TileX) (b : Nat) (g : Fld) : (s.setTile t x).flag b g = s.flag b g := rfl
@[simp] theorem setTile_well (t : Nat) (x : TileX) (t2 w2 : Nat) : (s.setTile t x).well t2 w2 = s.well t2 w2 := rfl
@[simp] theorem setTile_pump (t : Nat) (x : TileX) (t2 w2 p2 : Nat) : (s.setTile t x).pump t2 w2 p2 = s.pump t2 w2 p2 := rfl
@[simp] theorem setTile_cluster (t : Nat) (x : TileX) (t2 k2 : Nat) : (s.setTile t x).cluster t2 k2 = s.cluster t2 k2 := rfl
@[simp] theorem setTile_sq (t : Nat) (x : TileX) (n2 : Nat) : (s.setTile t x).sq n2 = s.sq n2 := rfl
@[simp] theorem setTile_topoWord (t : Nat) (x : TileX) (t2 w2 : Nat) : (s.setTile t x).topoWord t2 w2 = s.topoWord t2 w2 := rfl

@[simp] theorem updTile_regs (t : Nat) (f : TileX → TileX) : (s.updTile t f).regs = s.regs := rfl
@[simp] theorem updTile_fuses (t : Nat) (f : TileX → TileX) : (s.updTile t f).fuses = s.fuses := rfl
@[simp] theorem updTile_clk (t : Nat) (f : TileX → TileX) : (s.updTile t f).clk = s.clk := rfl
@[simp] theorem updTile_port (t : Nat) (f : TileX → TileX) : (s.updTile t f).port = s.port := rfl
@[simp] theorem updTile_sb (t : Nat) (f : TileX → TileX) : (s.updTile t f).sb = s.sb := rfl
@[simp] theorem updTile_tap (t : Nat) (f : TileX → TileX) : (s.updTile t f).tap = s.tap := rfl
@[simp] theorem updTile_lc (t : Nat) (f : TileX → TileX) : (s.updTile t f).lc = s.lc := rfl
@[simp] theorem updTile_fault (t : Nat) (f : TileX → TileX) : (s.updTile t f).fault = s.fault := rfl
@[simp] theorem updTile_intc (t : Nat) (f : TileX → TileX) : (s.updTile t f).intc = s.intc := rfl
@[simp] theorem updTile_img (t : Nat) (f : TileX → TileX) : (s.updTile t f).img = s.img := rfl
@[simp] theorem updTile_load (t : Nat) (f : TileX → TileX) : (s.updTile t f).load = s.load := rfl
@[simp] theorem updTile_link (t : Nat) (f : TileX → TileX) : (s.updTile t f).link = s.link := rfl
@[simp] theorem updTile_rcd (t : Nat) (f : TileX → TileX) : (s.updTile t f).rcd = s.rcd := rfl
@[simp] theorem updTile_flash (t : Nat) (f : TileX → TileX) : (s.updTile t f).flash = s.flash := rfl
@[simp] theorem updTile_seqs (t : Nat) (f : TileX → TileX) : (s.updTile t f).seqs = s.seqs := rfl
@[simp] theorem updTile_wells (t : Nat) (f : TileX → TileX) : (s.updTile t f).wells = s.wells := rfl
@[simp] theorem updTile_pumps (t : Nat) (f : TileX → TileX) : (s.updTile t f).pumps = s.pumps := rfl
@[simp] theorem updTile_clusters (t : Nat) (f : TileX → TileX) : (s.updTile t f).clusters = s.clusters := rfl
@[simp] theorem updTile_plan (t : Nat) (f : TileX → TileX) : (s.updTile t f).plan = s.plan := rfl
@[simp] theorem updTile_gov (t : Nat) (f : TileX → TileX) : (s.updTile t f).gov = s.gov := rfl
@[simp] theorem updTile_capEvents (t : Nat) (f : TileX → TileX) : (s.updTile t f).capEvents = s.capEvents := rfl
@[simp] theorem updTile_freeCtr (t : Nat) (f : TileX → TileX) : (s.updTile t f).freeCtr = s.freeCtr := rfl
@[simp] theorem updTile_pending (t : Nat) (f : TileX → TileX) : (s.updTile t f).pending = s.pending := rfl
@[simp] theorem updTile_reg (t : Nat) (f : TileX → TileX) (b : Nat) : (s.updTile t f).reg b = s.reg b := rfl
@[simp] theorem updTile_rd (t : Nat) (f : TileX → TileX) (b : Nat) (g : Fld) : (s.updTile t f).rd b g = s.rd b g := rfl
@[simp] theorem updTile_rdi (t : Nat) (f : TileX → TileX) (b : Nat) (g : Fld) : (s.updTile t f).rdi b g = s.rdi b g := rfl
@[simp] theorem updTile_flag (t : Nat) (f : TileX → TileX) (b : Nat) (g : Fld) : (s.updTile t f).flag b g = s.flag b g := rfl
@[simp] theorem updTile_well (t : Nat) (f : TileX → TileX) (t2 w2 : Nat) : (s.updTile t f).well t2 w2 = s.well t2 w2 := rfl
@[simp] theorem updTile_pump (t : Nat) (f : TileX → TileX) (t2 w2 p2 : Nat) : (s.updTile t f).pump t2 w2 p2 = s.pump t2 w2 p2 := rfl
@[simp] theorem updTile_cluster (t : Nat) (f : TileX → TileX) (t2 k2 : Nat) : (s.updTile t f).cluster t2 k2 = s.cluster t2 k2 := rfl
@[simp] theorem updTile_sq (t : Nat) (f : TileX → TileX) (n2 : Nat) : (s.updTile t f).sq n2 = s.sq n2 := rfl
@[simp] theorem updTile_topoWord (t : Nat) (f : TileX → TileX) (t2 w2 : Nat) : (s.updTile t f).topoWord t2 w2 = s.topoWord t2 w2 := rfl

@[simp] theorem updDs_regs (t : Nat) (f : SliceX → SliceX) : (s.updDs t f).regs = s.regs := rfl
@[simp] theorem updDs_fuses (t : Nat) (f : SliceX → SliceX) : (s.updDs t f).fuses = s.fuses := rfl
@[simp] theorem updDs_clk (t : Nat) (f : SliceX → SliceX) : (s.updDs t f).clk = s.clk := rfl
@[simp] theorem updDs_port (t : Nat) (f : SliceX → SliceX) : (s.updDs t f).port = s.port := rfl
@[simp] theorem updDs_sb (t : Nat) (f : SliceX → SliceX) : (s.updDs t f).sb = s.sb := rfl
@[simp] theorem updDs_tap (t : Nat) (f : SliceX → SliceX) : (s.updDs t f).tap = s.tap := rfl
@[simp] theorem updDs_lc (t : Nat) (f : SliceX → SliceX) : (s.updDs t f).lc = s.lc := rfl
@[simp] theorem updDs_fault (t : Nat) (f : SliceX → SliceX) : (s.updDs t f).fault = s.fault := rfl
@[simp] theorem updDs_intc (t : Nat) (f : SliceX → SliceX) : (s.updDs t f).intc = s.intc := rfl
@[simp] theorem updDs_img (t : Nat) (f : SliceX → SliceX) : (s.updDs t f).img = s.img := rfl
@[simp] theorem updDs_load (t : Nat) (f : SliceX → SliceX) : (s.updDs t f).load = s.load := rfl
@[simp] theorem updDs_link (t : Nat) (f : SliceX → SliceX) : (s.updDs t f).link = s.link := rfl
@[simp] theorem updDs_rcd (t : Nat) (f : SliceX → SliceX) : (s.updDs t f).rcd = s.rcd := rfl
@[simp] theorem updDs_flash (t : Nat) (f : SliceX → SliceX) : (s.updDs t f).flash = s.flash := rfl
@[simp] theorem updDs_seqs (t : Nat) (f : SliceX → SliceX) : (s.updDs t f).seqs = s.seqs := rfl
@[simp] theorem updDs_wells (t : Nat) (f : SliceX → SliceX) : (s.updDs t f).wells = s.wells := rfl
@[simp] theorem updDs_pumps (t : Nat) (f : SliceX → SliceX) : (s.updDs t f).pumps = s.pumps := rfl
@[simp] theorem updDs_clusters (t : Nat) (f : SliceX → SliceX) : (s.updDs t f).clusters = s.clusters := rfl
@[simp] theorem updDs_plan (t : Nat) (f : SliceX → SliceX) : (s.updDs t f).plan = s.plan := rfl
@[simp] theorem updDs_gov (t : Nat) (f : SliceX → SliceX) : (s.updDs t f).gov = s.gov := rfl
@[simp] theorem updDs_capEvents (t : Nat) (f : SliceX → SliceX) : (s.updDs t f).capEvents = s.capEvents := rfl
@[simp] theorem updDs_freeCtr (t : Nat) (f : SliceX → SliceX) : (s.updDs t f).freeCtr = s.freeCtr := rfl
@[simp] theorem updDs_pending (t : Nat) (f : SliceX → SliceX) : (s.updDs t f).pending = s.pending := rfl
@[simp] theorem updDs_reg (t : Nat) (f : SliceX → SliceX) (b : Nat) : (s.updDs t f).reg b = s.reg b := rfl
@[simp] theorem updDs_rd (t : Nat) (f : SliceX → SliceX) (b : Nat) (g : Fld) : (s.updDs t f).rd b g = s.rd b g := rfl
@[simp] theorem updDs_rdi (t : Nat) (f : SliceX → SliceX) (b : Nat) (g : Fld) : (s.updDs t f).rdi b g = s.rdi b g := rfl
@[simp] theorem updDs_flag (t : Nat) (f : SliceX → SliceX) (b : Nat) (g : Fld) : (s.updDs t f).flag b g = s.flag b g := rfl
@[simp] theorem updDs_well (t : Nat) (f : SliceX → SliceX) (t2 w2 : Nat) : (s.updDs t f).well t2 w2 = s.well t2 w2 := rfl
@[simp] theorem updDs_pump (t : Nat) (f : SliceX → SliceX) (t2 w2 p2 : Nat) : (s.updDs t f).pump t2 w2 p2 = s.pump t2 w2 p2 := rfl
@[simp] theorem updDs_cluster (t : Nat) (f : SliceX → SliceX) (t2 k2 : Nat) : (s.updDs t f).cluster t2 k2 = s.cluster t2 k2 := rfl
@[simp] theorem updDs_sq (t : Nat) (f : SliceX → SliceX) (n2 : Nat) : (s.updDs t f).sq n2 = s.sq n2 := rfl
@[simp] theorem updDs_topoWord (t : Nat) (f : SliceX → SliceX) (t2 w2 : Nat) : (s.updDs t f).topoWord t2 w2 = s.topoWord t2 w2 := rfl

@[simp] theorem updTh_regs (t : Nat) (f : ThermX → ThermX) : (s.updTh t f).regs = s.regs := rfl
@[simp] theorem updTh_fuses (t : Nat) (f : ThermX → ThermX) : (s.updTh t f).fuses = s.fuses := rfl
@[simp] theorem updTh_clk (t : Nat) (f : ThermX → ThermX) : (s.updTh t f).clk = s.clk := rfl
@[simp] theorem updTh_port (t : Nat) (f : ThermX → ThermX) : (s.updTh t f).port = s.port := rfl
@[simp] theorem updTh_sb (t : Nat) (f : ThermX → ThermX) : (s.updTh t f).sb = s.sb := rfl
@[simp] theorem updTh_tap (t : Nat) (f : ThermX → ThermX) : (s.updTh t f).tap = s.tap := rfl
@[simp] theorem updTh_lc (t : Nat) (f : ThermX → ThermX) : (s.updTh t f).lc = s.lc := rfl
@[simp] theorem updTh_fault (t : Nat) (f : ThermX → ThermX) : (s.updTh t f).fault = s.fault := rfl
@[simp] theorem updTh_intc (t : Nat) (f : ThermX → ThermX) : (s.updTh t f).intc = s.intc := rfl
@[simp] theorem updTh_img (t : Nat) (f : ThermX → ThermX) : (s.updTh t f).img = s.img := rfl
@[simp] theorem updTh_load (t : Nat) (f : ThermX → ThermX) : (s.updTh t f).load = s.load := rfl
@[simp] theorem updTh_link (t : Nat) (f : ThermX → ThermX) : (s.updTh t f).link = s.link := rfl
@[simp] theorem updTh_rcd (t : Nat) (f : ThermX → ThermX) : (s.updTh t f).rcd = s.rcd := rfl
@[simp] theorem updTh_flash (t : Nat) (f : ThermX → ThermX) : (s.updTh t f).flash = s.flash := rfl
@[simp] theorem updTh_seqs (t : Nat) (f : ThermX → ThermX) : (s.updTh t f).seqs = s.seqs := rfl
@[simp] theorem updTh_wells (t : Nat) (f : ThermX → ThermX) : (s.updTh t f).wells = s.wells := rfl
@[simp] theorem updTh_pumps (t : Nat) (f : ThermX → ThermX) : (s.updTh t f).pumps = s.pumps := rfl
@[simp] theorem updTh_clusters (t : Nat) (f : ThermX → ThermX) : (s.updTh t f).clusters = s.clusters := rfl
@[simp] theorem updTh_plan (t : Nat) (f : ThermX → ThermX) : (s.updTh t f).plan = s.plan := rfl
@[simp] theorem updTh_gov (t : Nat) (f : ThermX → ThermX) : (s.updTh t f).gov = s.gov := rfl
@[simp] theorem updTh_capEvents (t : Nat) (f : ThermX → ThermX) : (s.updTh t f).capEvents = s.capEvents := rfl
@[simp] theorem updTh_freeCtr (t : Nat) (f : ThermX → ThermX) : (s.updTh t f).freeCtr = s.freeCtr := rfl
@[simp] theorem updTh_pending (t : Nat) (f : ThermX → ThermX) : (s.updTh t f).pending = s.pending := rfl
@[simp] theorem updTh_reg (t : Nat) (f : ThermX → ThermX) (b : Nat) : (s.updTh t f).reg b = s.reg b := rfl
@[simp] theorem updTh_rd (t : Nat) (f : ThermX → ThermX) (b : Nat) (g : Fld) : (s.updTh t f).rd b g = s.rd b g := rfl
@[simp] theorem updTh_rdi (t : Nat) (f : ThermX → ThermX) (b : Nat) (g : Fld) : (s.updTh t f).rdi b g = s.rdi b g := rfl
@[simp] theorem updTh_flag (t : Nat) (f : ThermX → ThermX) (b : Nat) (g : Fld) : (s.updTh t f).flag b g = s.flag b g := rfl
@[simp] theorem updTh_well (t : Nat) (f : ThermX → ThermX) (t2 w2 : Nat) : (s.updTh t f).well t2 w2 = s.well t2 w2 := rfl
@[simp] theorem updTh_pump (t : Nat) (f : ThermX → ThermX) (t2 w2 p2 : Nat) : (s.updTh t f).pump t2 w2 p2 = s.pump t2 w2 p2 := rfl
@[simp] theorem updTh_cluster (t : Nat) (f : ThermX → ThermX) (t2 k2 : Nat) : (s.updTh t f).cluster t2 k2 = s.cluster t2 k2 := rfl
@[simp] theorem updTh_sq (t : Nat) (f : ThermX → ThermX) (n2 : Nat) : (s.updTh t f).sq n2 = s.sq n2 := rfl
@[simp] theorem updTh_topoWord (t : Nat) (f : ThermX → ThermX) (t2 w2 : Nat) : (s.updTh t f).topoWord t2 w2 = s.topoWord t2 w2 := rfl

@[simp] theorem updEn_regs (t : Nat) (f : EngX → EngX) : (s.updEn t f).regs = s.regs := rfl
@[simp] theorem updEn_fuses (t : Nat) (f : EngX → EngX) : (s.updEn t f).fuses = s.fuses := rfl
@[simp] theorem updEn_clk (t : Nat) (f : EngX → EngX) : (s.updEn t f).clk = s.clk := rfl
@[simp] theorem updEn_port (t : Nat) (f : EngX → EngX) : (s.updEn t f).port = s.port := rfl
@[simp] theorem updEn_sb (t : Nat) (f : EngX → EngX) : (s.updEn t f).sb = s.sb := rfl
@[simp] theorem updEn_tap (t : Nat) (f : EngX → EngX) : (s.updEn t f).tap = s.tap := rfl
@[simp] theorem updEn_lc (t : Nat) (f : EngX → EngX) : (s.updEn t f).lc = s.lc := rfl
@[simp] theorem updEn_fault (t : Nat) (f : EngX → EngX) : (s.updEn t f).fault = s.fault := rfl
@[simp] theorem updEn_intc (t : Nat) (f : EngX → EngX) : (s.updEn t f).intc = s.intc := rfl
@[simp] theorem updEn_img (t : Nat) (f : EngX → EngX) : (s.updEn t f).img = s.img := rfl
@[simp] theorem updEn_load (t : Nat) (f : EngX → EngX) : (s.updEn t f).load = s.load := rfl
@[simp] theorem updEn_link (t : Nat) (f : EngX → EngX) : (s.updEn t f).link = s.link := rfl
@[simp] theorem updEn_rcd (t : Nat) (f : EngX → EngX) : (s.updEn t f).rcd = s.rcd := rfl
@[simp] theorem updEn_flash (t : Nat) (f : EngX → EngX) : (s.updEn t f).flash = s.flash := rfl
@[simp] theorem updEn_seqs (t : Nat) (f : EngX → EngX) : (s.updEn t f).seqs = s.seqs := rfl
@[simp] theorem updEn_wells (t : Nat) (f : EngX → EngX) : (s.updEn t f).wells = s.wells := rfl
@[simp] theorem updEn_pumps (t : Nat) (f : EngX → EngX) : (s.updEn t f).pumps = s.pumps := rfl
@[simp] theorem updEn_clusters (t : Nat) (f : EngX → EngX) : (s.updEn t f).clusters = s.clusters := rfl
@[simp] theorem updEn_plan (t : Nat) (f : EngX → EngX) : (s.updEn t f).plan = s.plan := rfl
@[simp] theorem updEn_gov (t : Nat) (f : EngX → EngX) : (s.updEn t f).gov = s.gov := rfl
@[simp] theorem updEn_capEvents (t : Nat) (f : EngX → EngX) : (s.updEn t f).capEvents = s.capEvents := rfl
@[simp] theorem updEn_freeCtr (t : Nat) (f : EngX → EngX) : (s.updEn t f).freeCtr = s.freeCtr := rfl
@[simp] theorem updEn_pending (t : Nat) (f : EngX → EngX) : (s.updEn t f).pending = s.pending := rfl
@[simp] theorem updEn_reg (t : Nat) (f : EngX → EngX) (b : Nat) : (s.updEn t f).reg b = s.reg b := rfl
@[simp] theorem updEn_rd (t : Nat) (f : EngX → EngX) (b : Nat) (g : Fld) : (s.updEn t f).rd b g = s.rd b g := rfl
@[simp] theorem updEn_rdi (t : Nat) (f : EngX → EngX) (b : Nat) (g : Fld) : (s.updEn t f).rdi b g = s.rdi b g := rfl
@[simp] theorem updEn_flag (t : Nat) (f : EngX → EngX) (b : Nat) (g : Fld) : (s.updEn t f).flag b g = s.flag b g := rfl
@[simp] theorem updEn_well (t : Nat) (f : EngX → EngX) (t2 w2 : Nat) : (s.updEn t f).well t2 w2 = s.well t2 w2 := rfl
@[simp] theorem updEn_pump (t : Nat) (f : EngX → EngX) (t2 w2 p2 : Nat) : (s.updEn t f).pump t2 w2 p2 = s.pump t2 w2 p2 := rfl
@[simp] theorem updEn_cluster (t : Nat) (f : EngX → EngX) (t2 k2 : Nat) : (s.updEn t f).cluster t2 k2 = s.cluster t2 k2 := rfl
@[simp] theorem updEn_sq (t : Nat) (f : EngX → EngX) (n2 : Nat) : (s.updEn t f).sq n2 = s.sq n2 := rfl
@[simp] theorem updEn_topoWord (t : Nat) (f : EngX → EngX) (t2 w2 : Nat) : (s.updEn t f).topoWord t2 w2 = s.topoWord t2 w2 := rfl

@[simp] theorem updSar_regs (t : Nat) (f : SarX → SarX) : (s.updSar t f).regs = s.regs := rfl
@[simp] theorem updSar_fuses (t : Nat) (f : SarX → SarX) : (s.updSar t f).fuses = s.fuses := rfl
@[simp] theorem updSar_clk (t : Nat) (f : SarX → SarX) : (s.updSar t f).clk = s.clk := rfl
@[simp] theorem updSar_port (t : Nat) (f : SarX → SarX) : (s.updSar t f).port = s.port := rfl
@[simp] theorem updSar_sb (t : Nat) (f : SarX → SarX) : (s.updSar t f).sb = s.sb := rfl
@[simp] theorem updSar_tap (t : Nat) (f : SarX → SarX) : (s.updSar t f).tap = s.tap := rfl
@[simp] theorem updSar_lc (t : Nat) (f : SarX → SarX) : (s.updSar t f).lc = s.lc := rfl
@[simp] theorem updSar_fault (t : Nat) (f : SarX → SarX) : (s.updSar t f).fault = s.fault := rfl
@[simp] theorem updSar_intc (t : Nat) (f : SarX → SarX) : (s.updSar t f).intc = s.intc := rfl
@[simp] theorem updSar_img (t : Nat) (f : SarX → SarX) : (s.updSar t f).img = s.img := rfl
@[simp] theorem updSar_load (t : Nat) (f : SarX → SarX) : (s.updSar t f).load = s.load := rfl
@[simp] theorem updSar_link (t : Nat) (f : SarX → SarX) : (s.updSar t f).link = s.link := rfl
@[simp] theorem updSar_rcd (t : Nat) (f : SarX → SarX) : (s.updSar t f).rcd = s.rcd := rfl
@[simp] theorem updSar_flash (t : Nat) (f : SarX → SarX) : (s.updSar t f).flash = s.flash := rfl
@[simp] theorem updSar_seqs (t : Nat) (f : SarX → SarX) : (s.updSar t f).seqs = s.seqs := rfl
@[simp] theorem updSar_wells (t : Nat) (f : SarX → SarX) : (s.updSar t f).wells = s.wells := rfl
@[simp] theorem updSar_pumps (t : Nat) (f : SarX → SarX) : (s.updSar t f).pumps = s.pumps := rfl
@[simp] theorem updSar_clusters (t : Nat) (f : SarX → SarX) : (s.updSar t f).clusters = s.clusters := rfl
@[simp] theorem updSar_plan (t : Nat) (f : SarX → SarX) : (s.updSar t f).plan = s.plan := rfl
@[simp] theorem updSar_gov (t : Nat) (f : SarX → SarX) : (s.updSar t f).gov = s.gov := rfl
@[simp] theorem updSar_capEvents (t : Nat) (f : SarX → SarX) : (s.updSar t f).capEvents = s.capEvents := rfl
@[simp] theorem updSar_freeCtr (t : Nat) (f : SarX → SarX) : (s.updSar t f).freeCtr = s.freeCtr := rfl
@[simp] theorem updSar_pending (t : Nat) (f : SarX → SarX) : (s.updSar t f).pending = s.pending := rfl
@[simp] theorem updSar_reg (t : Nat) (f : SarX → SarX) (b : Nat) : (s.updSar t f).reg b = s.reg b := rfl
@[simp] theorem updSar_rd (t : Nat) (f : SarX → SarX) (b : Nat) (g : Fld) : (s.updSar t f).rd b g = s.rd b g := rfl
@[simp] theorem updSar_rdi (t : Nat) (f : SarX → SarX) (b : Nat) (g : Fld) : (s.updSar t f).rdi b g = s.rdi b g := rfl
@[simp] theorem updSar_flag (t : Nat) (f : SarX → SarX) (b : Nat) (g : Fld) : (s.updSar t f).flag b g = s.flag b g := rfl
@[simp] theorem updSar_well (t : Nat) (f : SarX → SarX) (t2 w2 : Nat) : (s.updSar t f).well t2 w2 = s.well t2 w2 := rfl
@[simp] theorem updSar_pump (t : Nat) (f : SarX → SarX) (t2 w2 p2 : Nat) : (s.updSar t f).pump t2 w2 p2 = s.pump t2 w2 p2 := rfl
@[simp] theorem updSar_cluster (t : Nat) (f : SarX → SarX) (t2 k2 : Nat) : (s.updSar t f).cluster t2 k2 = s.cluster t2 k2 := rfl
@[simp] theorem updSar_sq (t : Nat) (f : SarX → SarX) (n2 : Nat) : (s.updSar t f).sq n2 = s.sq n2 := rfl
@[simp] theorem updSar_topoWord (t : Nat) (f : SarX → SarX) (t2 w2 : Nat) : (s.updSar t f).topoWord t2 w2 = s.topoWord t2 w2 := rfl

@[simp] theorem setSq_regs (n : Nat) (x : SeqX) : (s.setSq n x).regs = s.regs := rfl
@[simp] theorem setSq_fuses (n : Nat) (x : SeqX) : (s.setSq n x).fuses = s.fuses := rfl
@[simp] theorem setSq_clk (n : Nat) (x : SeqX) : (s.setSq n x).clk = s.clk := rfl
@[simp] theorem setSq_port (n : Nat) (x : SeqX) : (s.setSq n x).port = s.port := rfl
@[simp] theorem setSq_sb (n : Nat) (x : SeqX) : (s.setSq n x).sb = s.sb := rfl
@[simp] theorem setSq_tap (n : Nat) (x : SeqX) : (s.setSq n x).tap = s.tap := rfl
@[simp] theorem setSq_lc (n : Nat) (x : SeqX) : (s.setSq n x).lc = s.lc := rfl
@[simp] theorem setSq_fault (n : Nat) (x : SeqX) : (s.setSq n x).fault = s.fault := rfl
@[simp] theorem setSq_intc (n : Nat) (x : SeqX) : (s.setSq n x).intc = s.intc := rfl
@[simp] theorem setSq_img (n : Nat) (x : SeqX) : (s.setSq n x).img = s.img := rfl
@[simp] theorem setSq_load (n : Nat) (x : SeqX) : (s.setSq n x).load = s.load := rfl
@[simp] theorem setSq_link (n : Nat) (x : SeqX) : (s.setSq n x).link = s.link := rfl
@[simp] theorem setSq_rcd (n : Nat) (x : SeqX) : (s.setSq n x).rcd = s.rcd := rfl
@[simp] theorem setSq_flash (n : Nat) (x : SeqX) : (s.setSq n x).flash = s.flash := rfl
@[simp] theorem setSq_wells (n : Nat) (x : SeqX) : (s.setSq n x).wells = s.wells := rfl
@[simp] theorem setSq_pumps (n : Nat) (x : SeqX) : (s.setSq n x).pumps = s.pumps := rfl
@[simp] theorem setSq_clusters (n : Nat) (x : SeqX) : (s.setSq n x).clusters = s.clusters := rfl
@[simp] theorem setSq_tiles (n : Nat) (x : SeqX) : (s.setSq n x).tiles = s.tiles := rfl
@[simp] theorem setSq_plan (n : Nat) (x : SeqX) : (s.setSq n x).plan = s.plan := rfl
@[simp] theorem setSq_gov (n : Nat) (x : SeqX) : (s.setSq n x).gov = s.gov := rfl
@[simp] theorem setSq_capEvents (n : Nat) (x : SeqX) : (s.setSq n x).capEvents = s.capEvents := rfl
@[simp] theorem setSq_freeCtr (n : Nat) (x : SeqX) : (s.setSq n x).freeCtr = s.freeCtr := rfl
@[simp] theorem setSq_pending (n : Nat) (x : SeqX) : (s.setSq n x).pending = s.pending := rfl
@[simp] theorem setSq_reg (n : Nat) (x : SeqX) (b : Nat) : (s.setSq n x).reg b = s.reg b := rfl
@[simp] theorem setSq_rd (n : Nat) (x : SeqX) (b : Nat) (g : Fld) : (s.setSq n x).rd b g = s.rd b g := rfl
@[simp] theorem setSq_rdi (n : Nat) (x : SeqX) (b : Nat) (g : Fld) : (s.setSq n x).rdi b g = s.rdi b g := rfl
@[simp] theorem setSq_flag (n : Nat) (x : SeqX) (b : Nat) (g : Fld) : (s.setSq n x).flag b g = s.flag b g := rfl
@[simp] theorem setSq_well (n : Nat) (x : SeqX) (t2 w2 : Nat) : (s.setSq n x).well t2 w2 = s.well t2 w2 := rfl
@[simp] theorem setSq_pump (n : Nat) (x : SeqX) (t2 w2 p2 : Nat) : (s.setSq n x).pump t2 w2 p2 = s.pump t2 w2 p2 := rfl
@[simp] theorem setSq_cluster (n : Nat) (x : SeqX) (t2 k2 : Nat) : (s.setSq n x).cluster t2 k2 = s.cluster t2 k2 := rfl
@[simp] theorem setSq_tile (n : Nat) (x : SeqX) (t2 : Nat) : (s.setSq n x).tile t2 = s.tile t2 := rfl
@[simp] theorem setSq_topoWord (n : Nat) (x : SeqX) (t2 w2 : Nat) : (s.setSq n x).topoWord t2 w2 = s.topoWord t2 w2 := rfl

@[simp] theorem updSq_regs (n : Nat) (f : SeqX → SeqX) : (s.updSq n f).regs = s.regs := rfl
@[simp] theorem updSq_fuses (n : Nat) (f : SeqX → SeqX) : (s.updSq n f).fuses = s.fuses := rfl
@[simp] theorem updSq_clk (n : Nat) (f : SeqX → SeqX) : (s.updSq n f).clk = s.clk := rfl
@[simp] theorem updSq_port (n : Nat) (f : SeqX → SeqX) : (s.updSq n f).port = s.port := rfl
@[simp] theorem updSq_sb (n : Nat) (f : SeqX → SeqX) : (s.updSq n f).sb = s.sb := rfl
@[simp] theorem updSq_tap (n : Nat) (f : SeqX → SeqX) : (s.updSq n f).tap = s.tap := rfl
@[simp] theorem updSq_lc (n : Nat) (f : SeqX → SeqX) : (s.updSq n f).lc = s.lc := rfl
@[simp] theorem updSq_fault (n : Nat) (f : SeqX → SeqX) : (s.updSq n f).fault = s.fault := rfl
@[simp] theorem updSq_intc (n : Nat) (f : SeqX → SeqX) : (s.updSq n f).intc = s.intc := rfl
@[simp] theorem updSq_img (n : Nat) (f : SeqX → SeqX) : (s.updSq n f).img = s.img := rfl
@[simp] theorem updSq_load (n : Nat) (f : SeqX → SeqX) : (s.updSq n f).load = s.load := rfl
@[simp] theorem updSq_link (n : Nat) (f : SeqX → SeqX) : (s.updSq n f).link = s.link := rfl
@[simp] theorem updSq_rcd (n : Nat) (f : SeqX → SeqX) : (s.updSq n f).rcd = s.rcd := rfl
@[simp] theorem updSq_flash (n : Nat) (f : SeqX → SeqX) : (s.updSq n f).flash = s.flash := rfl
@[simp] theorem updSq_wells (n : Nat) (f : SeqX → SeqX) : (s.updSq n f).wells = s.wells := rfl
@[simp] theorem updSq_pumps (n : Nat) (f : SeqX → SeqX) : (s.updSq n f).pumps = s.pumps := rfl
@[simp] theorem updSq_clusters (n : Nat) (f : SeqX → SeqX) : (s.updSq n f).clusters = s.clusters := rfl
@[simp] theorem updSq_tiles (n : Nat) (f : SeqX → SeqX) : (s.updSq n f).tiles = s.tiles := rfl
@[simp] theorem updSq_plan (n : Nat) (f : SeqX → SeqX) : (s.updSq n f).plan = s.plan := rfl
@[simp] theorem updSq_gov (n : Nat) (f : SeqX → SeqX) : (s.updSq n f).gov = s.gov := rfl
@[simp] theorem updSq_capEvents (n : Nat) (f : SeqX → SeqX) : (s.updSq n f).capEvents = s.capEvents := rfl
@[simp] theorem updSq_freeCtr (n : Nat) (f : SeqX → SeqX) : (s.updSq n f).freeCtr = s.freeCtr := rfl
@[simp] theorem updSq_pending (n : Nat) (f : SeqX → SeqX) : (s.updSq n f).pending = s.pending := rfl
@[simp] theorem updSq_reg (n : Nat) (f : SeqX → SeqX) (b : Nat) : (s.updSq n f).reg b = s.reg b := rfl
@[simp] theorem updSq_rd (n : Nat) (f : SeqX → SeqX) (b : Nat) (g : Fld) : (s.updSq n f).rd b g = s.rd b g := rfl
@[simp] theorem updSq_rdi (n : Nat) (f : SeqX → SeqX) (b : Nat) (g : Fld) : (s.updSq n f).rdi b g = s.rdi b g := rfl
@[simp] theorem updSq_flag (n : Nat) (f : SeqX → SeqX) (b : Nat) (g : Fld) : (s.updSq n f).flag b g = s.flag b g := rfl
@[simp] theorem updSq_well (n : Nat) (f : SeqX → SeqX) (t2 w2 : Nat) : (s.updSq n f).well t2 w2 = s.well t2 w2 := rfl
@[simp] theorem updSq_pump (n : Nat) (f : SeqX → SeqX) (t2 w2 p2 : Nat) : (s.updSq n f).pump t2 w2 p2 = s.pump t2 w2 p2 := rfl
@[simp] theorem updSq_cluster (n : Nat) (f : SeqX → SeqX) (t2 k2 : Nat) : (s.updSq n f).cluster t2 k2 = s.cluster t2 k2 := rfl
@[simp] theorem updSq_tile (n : Nat) (f : SeqX → SeqX) (t2 : Nat) : (s.updSq n f).tile t2 = s.tile t2 := rfl
@[simp] theorem updSq_topoWord (n : Nat) (f : SeqX → SeqX) (t2 w2 : Nat) : (s.updSq n f).topoWord t2 w2 = s.topoWord t2 w2 := rfl

@[simp] theorem updLc_regs (f : Lc → Lc) : (s.updLc f).regs = s.regs := rfl
@[simp] theorem updLc_fuses (f : Lc → Lc) : (s.updLc f).fuses = s.fuses := rfl
@[simp] theorem updLc_clk (f : Lc → Lc) : (s.updLc f).clk = s.clk := rfl
@[simp] theorem updLc_port (f : Lc → Lc) : (s.updLc f).port = s.port := rfl
@[simp] theorem updLc_sb (f : Lc → Lc) : (s.updLc f).sb = s.sb := rfl
@[simp] theorem updLc_tap (f : Lc → Lc) : (s.updLc f).tap = s.tap := rfl
@[simp] theorem updLc_fault (f : Lc → Lc) : (s.updLc f).fault = s.fault := rfl
@[simp] theorem updLc_intc (f : Lc → Lc) : (s.updLc f).intc = s.intc := rfl
@[simp] theorem updLc_img (f : Lc → Lc) : (s.updLc f).img = s.img := rfl
@[simp] theorem updLc_load (f : Lc → Lc) : (s.updLc f).load = s.load := rfl
@[simp] theorem updLc_link (f : Lc → Lc) : (s.updLc f).link = s.link := rfl
@[simp] theorem updLc_rcd (f : Lc → Lc) : (s.updLc f).rcd = s.rcd := rfl
@[simp] theorem updLc_flash (f : Lc → Lc) : (s.updLc f).flash = s.flash := rfl
@[simp] theorem updLc_seqs (f : Lc → Lc) : (s.updLc f).seqs = s.seqs := rfl
@[simp] theorem updLc_wells (f : Lc → Lc) : (s.updLc f).wells = s.wells := rfl
@[simp] theorem updLc_pumps (f : Lc → Lc) : (s.updLc f).pumps = s.pumps := rfl
@[simp] theorem updLc_clusters (f : Lc → Lc) : (s.updLc f).clusters = s.clusters := rfl
@[simp] theorem updLc_tiles (f : Lc → Lc) : (s.updLc f).tiles = s.tiles := rfl
@[simp] theorem updLc_plan (f : Lc → Lc) : (s.updLc f).plan = s.plan := rfl
@[simp] theorem updLc_gov (f : Lc → Lc) : (s.updLc f).gov = s.gov := rfl
@[simp] theorem updLc_capEvents (f : Lc → Lc) : (s.updLc f).capEvents = s.capEvents := rfl
@[simp] theorem updLc_freeCtr (f : Lc → Lc) : (s.updLc f).freeCtr = s.freeCtr := rfl
@[simp] theorem updLc_pending (f : Lc → Lc) : (s.updLc f).pending = s.pending := rfl
@[simp] theorem updLc_reg (f : Lc → Lc) (b : Nat) : (s.updLc f).reg b = s.reg b := rfl
@[simp] theorem updLc_rd (f : Lc → Lc) (b : Nat) (g : Fld) : (s.updLc f).rd b g = s.rd b g := rfl
@[simp] theorem updLc_rdi (f : Lc → Lc) (b : Nat) (g : Fld) : (s.updLc f).rdi b g = s.rdi b g := rfl
@[simp] theorem updLc_flag (f : Lc → Lc) (b : Nat) (g : Fld) : (s.updLc f).flag b g = s.flag b g := rfl
@[simp] theorem updLc_well (f : Lc → Lc) (t2 w2 : Nat) : (s.updLc f).well t2 w2 = s.well t2 w2 := rfl
@[simp] theorem updLc_pump (f : Lc → Lc) (t2 w2 p2 : Nat) : (s.updLc f).pump t2 w2 p2 = s.pump t2 w2 p2 := rfl
@[simp] theorem updLc_cluster (f : Lc → Lc) (t2 k2 : Nat) : (s.updLc f).cluster t2 k2 = s.cluster t2 k2 := rfl
@[simp] theorem updLc_tile (f : Lc → Lc) (t2 : Nat) : (s.updLc f).tile t2 = s.tile t2 := rfl
@[simp] theorem updLc_sq (f : Lc → Lc) (n2 : Nat) : (s.updLc f).sq n2 = s.sq n2 := rfl
@[simp] theorem updLc_topoWord (f : Lc → Lc) (t2 w2 : Nat) : (s.updLc f).topoWord t2 w2 = s.topoWord t2 w2 := rfl

@[simp] theorem updSb_regs (f : Sideband → Sideband) : (s.updSb f).regs = s.regs := rfl
@[simp] theorem updSb_fuses (f : Sideband → Sideband) : (s.updSb f).fuses = s.fuses := rfl
@[simp] theorem updSb_clk (f : Sideband → Sideband) : (s.updSb f).clk = s.clk := rfl
@[simp] theorem updSb_port (f : Sideband → Sideband) : (s.updSb f).port = s.port := rfl
@[simp] theorem updSb_tap (f : Sideband → Sideband) : (s.updSb f).tap = s.tap := rfl
@[simp] theorem updSb_lc (f : Sideband → Sideband) : (s.updSb f).lc = s.lc := rfl
@[simp] theorem updSb_fault (f : Sideband → Sideband) : (s.updSb f).fault = s.fault := rfl
@[simp] theorem updSb_intc (f : Sideband → Sideband) : (s.updSb f).intc = s.intc := rfl
@[simp] theorem updSb_img (f : Sideband → Sideband) : (s.updSb f).img = s.img := rfl
@[simp] theorem updSb_load (f : Sideband → Sideband) : (s.updSb f).load = s.load := rfl
@[simp] theorem updSb_link (f : Sideband → Sideband) : (s.updSb f).link = s.link := rfl
@[simp] theorem updSb_rcd (f : Sideband → Sideband) : (s.updSb f).rcd = s.rcd := rfl
@[simp] theorem updSb_flash (f : Sideband → Sideband) : (s.updSb f).flash = s.flash := rfl
@[simp] theorem updSb_seqs (f : Sideband → Sideband) : (s.updSb f).seqs = s.seqs := rfl
@[simp] theorem updSb_wells (f : Sideband → Sideband) : (s.updSb f).wells = s.wells := rfl
@[simp] theorem updSb_pumps (f : Sideband → Sideband) : (s.updSb f).pumps = s.pumps := rfl
@[simp] theorem updSb_clusters (f : Sideband → Sideband) : (s.updSb f).clusters = s.clusters := rfl
@[simp] theorem updSb_tiles (f : Sideband → Sideband) : (s.updSb f).tiles = s.tiles := rfl
@[simp] theorem updSb_plan (f : Sideband → Sideband) : (s.updSb f).plan = s.plan := rfl
@[simp] theorem updSb_gov (f : Sideband → Sideband) : (s.updSb f).gov = s.gov := rfl
@[simp] theorem updSb_capEvents (f : Sideband → Sideband) : (s.updSb f).capEvents = s.capEvents := rfl
@[simp] theorem updSb_freeCtr (f : Sideband → Sideband) : (s.updSb f).freeCtr = s.freeCtr := rfl
@[simp] theorem updSb_pending (f : Sideband → Sideband) : (s.updSb f).pending = s.pending := rfl
@[simp] theorem updSb_reg (f : Sideband → Sideband) (b : Nat) : (s.updSb f).reg b = s.reg b := rfl
@[simp] theorem updSb_rd (f : Sideband → Sideband) (b : Nat) (g : Fld) : (s.updSb f).rd b g = s.rd b g := rfl
@[simp] theorem updSb_rdi (f : Sideband → Sideband) (b : Nat) (g : Fld) : (s.updSb f).rdi b g = s.rdi b g := rfl
@[simp] theorem updSb_flag (f : Sideband → Sideband) (b : Nat) (g : Fld) : (s.updSb f).flag b g = s.flag b g := rfl
@[simp] theorem updSb_well (f : Sideband → Sideband) (t2 w2 : Nat) : (s.updSb f).well t2 w2 = s.well t2 w2 := rfl
@[simp] theorem updSb_pump (f : Sideband → Sideband) (t2 w2 p2 : Nat) : (s.updSb f).pump t2 w2 p2 = s.pump t2 w2 p2 := rfl
@[simp] theorem updSb_cluster (f : Sideband → Sideband) (t2 k2 : Nat) : (s.updSb f).cluster t2 k2 = s.cluster t2 k2 := rfl
@[simp] theorem updSb_tile (f : Sideband → Sideband) (t2 : Nat) : (s.updSb f).tile t2 = s.tile t2 := rfl
@[simp] theorem updSb_sq (f : Sideband → Sideband) (n2 : Nat) : (s.updSb f).sq n2 = s.sq n2 := rfl
@[simp] theorem updSb_topoWord (f : Sideband → Sideband) (t2 w2 : Nat) : (s.updSb f).topoWord t2 w2 = s.topoWord t2 w2 := rfl

@[simp] theorem updTap_regs (f : Tap → Tap) : (s.updTap f).regs = s.regs := rfl
@[simp] theorem updTap_fuses (f : Tap → Tap) : (s.updTap f).fuses = s.fuses := rfl
@[simp] theorem updTap_clk (f : Tap → Tap) : (s.updTap f).clk = s.clk := rfl
@[simp] theorem updTap_port (f : Tap → Tap) : (s.updTap f).port = s.port := rfl
@[simp] theorem updTap_sb (f : Tap → Tap) : (s.updTap f).sb = s.sb := rfl
@[simp] theorem updTap_lc (f : Tap → Tap) : (s.updTap f).lc = s.lc := rfl
@[simp] theorem updTap_fault (f : Tap → Tap) : (s.updTap f).fault = s.fault := rfl
@[simp] theorem updTap_intc (f : Tap → Tap) : (s.updTap f).intc = s.intc := rfl
@[simp] theorem updTap_img (f : Tap → Tap) : (s.updTap f).img = s.img := rfl
@[simp] theorem updTap_load (f : Tap → Tap) : (s.updTap f).load = s.load := rfl
@[simp] theorem updTap_link (f : Tap → Tap) : (s.updTap f).link = s.link := rfl
@[simp] theorem updTap_rcd (f : Tap → Tap) : (s.updTap f).rcd = s.rcd := rfl
@[simp] theorem updTap_flash (f : Tap → Tap) : (s.updTap f).flash = s.flash := rfl
@[simp] theorem updTap_seqs (f : Tap → Tap) : (s.updTap f).seqs = s.seqs := rfl
@[simp] theorem updTap_wells (f : Tap → Tap) : (s.updTap f).wells = s.wells := rfl
@[simp] theorem updTap_pumps (f : Tap → Tap) : (s.updTap f).pumps = s.pumps := rfl
@[simp] theorem updTap_clusters (f : Tap → Tap) : (s.updTap f).clusters = s.clusters := rfl
@[simp] theorem updTap_tiles (f : Tap → Tap) : (s.updTap f).tiles = s.tiles := rfl
@[simp] theorem updTap_plan (f : Tap → Tap) : (s.updTap f).plan = s.plan := rfl
@[simp] theorem updTap_gov (f : Tap → Tap) : (s.updTap f).gov = s.gov := rfl
@[simp] theorem updTap_capEvents (f : Tap → Tap) : (s.updTap f).capEvents = s.capEvents := rfl
@[simp] theorem updTap_freeCtr (f : Tap → Tap) : (s.updTap f).freeCtr = s.freeCtr := rfl
@[simp] theorem updTap_pending (f : Tap → Tap) : (s.updTap f).pending = s.pending := rfl
@[simp] theorem updTap_reg (f : Tap → Tap) (b : Nat) : (s.updTap f).reg b = s.reg b := rfl
@[simp] theorem updTap_rd (f : Tap → Tap) (b : Nat) (g : Fld) : (s.updTap f).rd b g = s.rd b g := rfl
@[simp] theorem updTap_rdi (f : Tap → Tap) (b : Nat) (g : Fld) : (s.updTap f).rdi b g = s.rdi b g := rfl
@[simp] theorem updTap_flag (f : Tap → Tap) (b : Nat) (g : Fld) : (s.updTap f).flag b g = s.flag b g := rfl
@[simp] theorem updTap_well (f : Tap → Tap) (t2 w2 : Nat) : (s.updTap f).well t2 w2 = s.well t2 w2 := rfl
@[simp] theorem updTap_pump (f : Tap → Tap) (t2 w2 p2 : Nat) : (s.updTap f).pump t2 w2 p2 = s.pump t2 w2 p2 := rfl
@[simp] theorem updTap_cluster (f : Tap → Tap) (t2 k2 : Nat) : (s.updTap f).cluster t2 k2 = s.cluster t2 k2 := rfl
@[simp] theorem updTap_tile (f : Tap → Tap) (t2 : Nat) : (s.updTap f).tile t2 = s.tile t2 := rfl
@[simp] theorem updTap_sq (f : Tap → Tap) (n2 : Nat) : (s.updTap f).sq n2 = s.sq n2 := rfl
@[simp] theorem updTap_topoWord (f : Tap → Tap) (t2 w2 : Nat) : (s.updTap f).topoWord t2 w2 = s.topoWord t2 w2 := rfl

@[simp] theorem updLoad_regs (f : LoadX → LoadX) : (s.updLoad f).regs = s.regs := rfl
@[simp] theorem updLoad_fuses (f : LoadX → LoadX) : (s.updLoad f).fuses = s.fuses := rfl
@[simp] theorem updLoad_clk (f : LoadX → LoadX) : (s.updLoad f).clk = s.clk := rfl
@[simp] theorem updLoad_port (f : LoadX → LoadX) : (s.updLoad f).port = s.port := rfl
@[simp] theorem updLoad_sb (f : LoadX → LoadX) : (s.updLoad f).sb = s.sb := rfl
@[simp] theorem updLoad_tap (f : LoadX → LoadX) : (s.updLoad f).tap = s.tap := rfl
@[simp] theorem updLoad_lc (f : LoadX → LoadX) : (s.updLoad f).lc = s.lc := rfl
@[simp] theorem updLoad_fault (f : LoadX → LoadX) : (s.updLoad f).fault = s.fault := rfl
@[simp] theorem updLoad_intc (f : LoadX → LoadX) : (s.updLoad f).intc = s.intc := rfl
@[simp] theorem updLoad_img (f : LoadX → LoadX) : (s.updLoad f).img = s.img := rfl
@[simp] theorem updLoad_link (f : LoadX → LoadX) : (s.updLoad f).link = s.link := rfl
@[simp] theorem updLoad_rcd (f : LoadX → LoadX) : (s.updLoad f).rcd = s.rcd := rfl
@[simp] theorem updLoad_flash (f : LoadX → LoadX) : (s.updLoad f).flash = s.flash := rfl
@[simp] theorem updLoad_seqs (f : LoadX → LoadX) : (s.updLoad f).seqs = s.seqs := rfl
@[simp] theorem updLoad_wells (f : LoadX → LoadX) : (s.updLoad f).wells = s.wells := rfl
@[simp] theorem updLoad_pumps (f : LoadX → LoadX) : (s.updLoad f).pumps = s.pumps := rfl
@[simp] theorem updLoad_clusters (f : LoadX → LoadX) : (s.updLoad f).clusters = s.clusters := rfl
@[simp] theorem updLoad_tiles (f : LoadX → LoadX) : (s.updLoad f).tiles = s.tiles := rfl
@[simp] theorem updLoad_plan (f : LoadX → LoadX) : (s.updLoad f).plan = s.plan := rfl
@[simp] theorem updLoad_gov (f : LoadX → LoadX) : (s.updLoad f).gov = s.gov := rfl
@[simp] theorem updLoad_capEvents (f : LoadX → LoadX) : (s.updLoad f).capEvents = s.capEvents := rfl
@[simp] theorem updLoad_freeCtr (f : LoadX → LoadX) : (s.updLoad f).freeCtr = s.freeCtr := rfl
@[simp] theorem updLoad_pending (f : LoadX → LoadX) : (s.updLoad f).pending = s.pending := rfl
@[simp] theorem updLoad_reg (f : LoadX → LoadX) (b : Nat) : (s.updLoad f).reg b = s.reg b := rfl
@[simp] theorem updLoad_rd (f : LoadX → LoadX) (b : Nat) (g : Fld) : (s.updLoad f).rd b g = s.rd b g := rfl
@[simp] theorem updLoad_rdi (f : LoadX → LoadX) (b : Nat) (g : Fld) : (s.updLoad f).rdi b g = s.rdi b g := rfl
@[simp] theorem updLoad_flag (f : LoadX → LoadX) (b : Nat) (g : Fld) : (s.updLoad f).flag b g = s.flag b g := rfl
@[simp] theorem updLoad_well (f : LoadX → LoadX) (t2 w2 : Nat) : (s.updLoad f).well t2 w2 = s.well t2 w2 := rfl
@[simp] theorem updLoad_pump (f : LoadX → LoadX) (t2 w2 p2 : Nat) : (s.updLoad f).pump t2 w2 p2 = s.pump t2 w2 p2 := rfl
@[simp] theorem updLoad_cluster (f : LoadX → LoadX) (t2 k2 : Nat) : (s.updLoad f).cluster t2 k2 = s.cluster t2 k2 := rfl
@[simp] theorem updLoad_tile (f : LoadX → LoadX) (t2 : Nat) : (s.updLoad f).tile t2 = s.tile t2 := rfl
@[simp] theorem updLoad_sq (f : LoadX → LoadX) (n2 : Nat) : (s.updLoad f).sq n2 = s.sq n2 := rfl
@[simp] theorem updLoad_topoWord (f : LoadX → LoadX) (t2 w2 : Nat) : (s.updLoad f).topoWord t2 w2 = s.topoWord t2 w2 := rfl

@[simp] theorem updLink_regs (f : LinkX → LinkX) : (s.updLink f).regs = s.regs := rfl
@[simp] theorem updLink_fuses (f : LinkX → LinkX) : (s.updLink f).fuses = s.fuses := rfl
@[simp] theorem updLink_clk (f : LinkX → LinkX) : (s.updLink f).clk = s.clk := rfl
@[simp] theorem updLink_port (f : LinkX → LinkX) : (s.updLink f).port = s.port := rfl
@[simp] theorem updLink_sb (f : LinkX → LinkX) : (s.updLink f).sb = s.sb := rfl
@[simp] theorem updLink_tap (f : LinkX → LinkX) : (s.updLink f).tap = s.tap := rfl
@[simp] theorem updLink_lc (f : LinkX → LinkX) : (s.updLink f).lc = s.lc := rfl
@[simp] theorem updLink_fault (f : LinkX → LinkX) : (s.updLink f).fault = s.fault := rfl
@[simp] theorem updLink_intc (f : LinkX → LinkX) : (s.updLink f).intc = s.intc := rfl
@[simp] theorem updLink_img (f : LinkX → LinkX) : (s.updLink f).img = s.img := rfl
@[simp] theorem updLink_load (f : LinkX → LinkX) : (s.updLink f).load = s.load := rfl
@[simp] theorem updLink_rcd (f : LinkX → LinkX) : (s.updLink f).rcd = s.rcd := rfl
@[simp] theorem updLink_flash (f : LinkX → LinkX) : (s.updLink f).flash = s.flash := rfl
@[simp] theorem updLink_seqs (f : LinkX → LinkX) : (s.updLink f).seqs = s.seqs := rfl
@[simp] theorem updLink_wells (f : LinkX → LinkX) : (s.updLink f).wells = s.wells := rfl
@[simp] theorem updLink_pumps (f : LinkX → LinkX) : (s.updLink f).pumps = s.pumps := rfl
@[simp] theorem updLink_clusters (f : LinkX → LinkX) : (s.updLink f).clusters = s.clusters := rfl
@[simp] theorem updLink_tiles (f : LinkX → LinkX) : (s.updLink f).tiles = s.tiles := rfl
@[simp] theorem updLink_plan (f : LinkX → LinkX) : (s.updLink f).plan = s.plan := rfl
@[simp] theorem updLink_gov (f : LinkX → LinkX) : (s.updLink f).gov = s.gov := rfl
@[simp] theorem updLink_capEvents (f : LinkX → LinkX) : (s.updLink f).capEvents = s.capEvents := rfl
@[simp] theorem updLink_freeCtr (f : LinkX → LinkX) : (s.updLink f).freeCtr = s.freeCtr := rfl
@[simp] theorem updLink_pending (f : LinkX → LinkX) : (s.updLink f).pending = s.pending := rfl
@[simp] theorem updLink_reg (f : LinkX → LinkX) (b : Nat) : (s.updLink f).reg b = s.reg b := rfl
@[simp] theorem updLink_rd (f : LinkX → LinkX) (b : Nat) (g : Fld) : (s.updLink f).rd b g = s.rd b g := rfl
@[simp] theorem updLink_rdi (f : LinkX → LinkX) (b : Nat) (g : Fld) : (s.updLink f).rdi b g = s.rdi b g := rfl
@[simp] theorem updLink_flag (f : LinkX → LinkX) (b : Nat) (g : Fld) : (s.updLink f).flag b g = s.flag b g := rfl
@[simp] theorem updLink_well (f : LinkX → LinkX) (t2 w2 : Nat) : (s.updLink f).well t2 w2 = s.well t2 w2 := rfl
@[simp] theorem updLink_pump (f : LinkX → LinkX) (t2 w2 p2 : Nat) : (s.updLink f).pump t2 w2 p2 = s.pump t2 w2 p2 := rfl
@[simp] theorem updLink_cluster (f : LinkX → LinkX) (t2 k2 : Nat) : (s.updLink f).cluster t2 k2 = s.cluster t2 k2 := rfl
@[simp] theorem updLink_tile (f : LinkX → LinkX) (t2 : Nat) : (s.updLink f).tile t2 = s.tile t2 := rfl
@[simp] theorem updLink_sq (f : LinkX → LinkX) (n2 : Nat) : (s.updLink f).sq n2 = s.sq n2 := rfl
@[simp] theorem updLink_topoWord (f : LinkX → LinkX) (t2 w2 : Nat) : (s.updLink f).topoWord t2 w2 = s.topoWord t2 w2 := rfl

@[simp] theorem setDco_regs (f : Dco → Dco) : (s.setDco f).regs = s.regs := rfl
@[simp] theorem setDco_fuses (f : Dco → Dco) : (s.setDco f).fuses = s.fuses := rfl
@[simp] theorem setDco_port (f : Dco → Dco) : (s.setDco f).port = s.port := rfl
@[simp] theorem setDco_sb (f : Dco → Dco) : (s.setDco f).sb = s.sb := rfl
@[simp] theorem setDco_tap (f : Dco → Dco) : (s.setDco f).tap = s.tap := rfl
@[simp] theorem setDco_lc (f : Dco → Dco) : (s.setDco f).lc = s.lc := rfl
@[simp] theorem setDco_fault (f : Dco → Dco) : (s.setDco f).fault = s.fault := rfl
@[simp] theorem setDco_intc (f : Dco → Dco) : (s.setDco f).intc = s.intc := rfl
@[simp] theorem setDco_img (f : Dco → Dco) : (s.setDco f).img = s.img := rfl
@[simp] theorem setDco_load (f : Dco → Dco) : (s.setDco f).load = s.load := rfl
@[simp] theorem setDco_link (f : Dco → Dco) : (s.setDco f).link = s.link := rfl
@[simp] theorem setDco_rcd (f : Dco → Dco) : (s.setDco f).rcd = s.rcd := rfl
@[simp] theorem setDco_flash (f : Dco → Dco) : (s.setDco f).flash = s.flash := rfl
@[simp] theorem setDco_seqs (f : Dco → Dco) : (s.setDco f).seqs = s.seqs := rfl
@[simp] theorem setDco_wells (f : Dco → Dco) : (s.setDco f).wells = s.wells := rfl
@[simp] theorem setDco_pumps (f : Dco → Dco) : (s.setDco f).pumps = s.pumps := rfl
@[simp] theorem setDco_clusters (f : Dco → Dco) : (s.setDco f).clusters = s.clusters := rfl
@[simp] theorem setDco_tiles (f : Dco → Dco) : (s.setDco f).tiles = s.tiles := rfl
@[simp] theorem setDco_plan (f : Dco → Dco) : (s.setDco f).plan = s.plan := rfl
@[simp] theorem setDco_gov (f : Dco → Dco) : (s.setDco f).gov = s.gov := rfl
@[simp] theorem setDco_capEvents (f : Dco → Dco) : (s.setDco f).capEvents = s.capEvents := rfl
@[simp] theorem setDco_freeCtr (f : Dco → Dco) : (s.setDco f).freeCtr = s.freeCtr := rfl
@[simp] theorem setDco_pending (f : Dco → Dco) : (s.setDco f).pending = s.pending := rfl
@[simp] theorem setDco_reg (f : Dco → Dco) (b : Nat) : (s.setDco f).reg b = s.reg b := rfl
@[simp] theorem setDco_rd (f : Dco → Dco) (b : Nat) (g : Fld) : (s.setDco f).rd b g = s.rd b g := rfl
@[simp] theorem setDco_rdi (f : Dco → Dco) (b : Nat) (g : Fld) : (s.setDco f).rdi b g = s.rdi b g := rfl
@[simp] theorem setDco_flag (f : Dco → Dco) (b : Nat) (g : Fld) : (s.setDco f).flag b g = s.flag b g := rfl
@[simp] theorem setDco_well (f : Dco → Dco) (t2 w2 : Nat) : (s.setDco f).well t2 w2 = s.well t2 w2 := rfl
@[simp] theorem setDco_pump (f : Dco → Dco) (t2 w2 p2 : Nat) : (s.setDco f).pump t2 w2 p2 = s.pump t2 w2 p2 := rfl
@[simp] theorem setDco_cluster (f : Dco → Dco) (t2 k2 : Nat) : (s.setDco f).cluster t2 k2 = s.cluster t2 k2 := rfl
@[simp] theorem setDco_tile (f : Dco → Dco) (t2 : Nat) : (s.setDco f).tile t2 = s.tile t2 := rfl
@[simp] theorem setDco_sq (f : Dco → Dco) (n2 : Nat) : (s.setDco f).sq n2 = s.sq n2 := rfl
@[simp] theorem setDco_topoWord (f : Dco → Dco) (t2 w2 : Nat) : (s.setDco f).topoWord t2 w2 = s.topoWord t2 w2 := rfl

@[simp] theorem raisePh_regs (r : Raise) : (s.raisePh r).regs = s.regs := rfl
@[simp] theorem raisePh_fuses (r : Raise) : (s.raisePh r).fuses = s.fuses := rfl
@[simp] theorem raisePh_clk (r : Raise) : (s.raisePh r).clk = s.clk := rfl
@[simp] theorem raisePh_port (r : Raise) : (s.raisePh r).port = s.port := rfl
@[simp] theorem raisePh_sb (r : Raise) : (s.raisePh r).sb = s.sb := rfl
@[simp] theorem raisePh_tap (r : Raise) : (s.raisePh r).tap = s.tap := rfl
@[simp] theorem raisePh_lc (r : Raise) : (s.raisePh r).lc = s.lc := rfl
@[simp] theorem raisePh_intc (r : Raise) : (s.raisePh r).intc = s.intc := rfl
@[simp] theorem raisePh_img (r : Raise) : (s.raisePh r).img = s.img := rfl
@[simp] theorem raisePh_load (r : Raise) : (s.raisePh r).load = s.load := rfl
@[simp] theorem raisePh_link (r : Raise) : (s.raisePh r).link = s.link := rfl
@[simp] theorem raisePh_rcd (r : Raise) : (s.raisePh r).rcd = s.rcd := rfl
@[simp] theorem raisePh_flash (r : Raise) : (s.raisePh r).flash = s.flash := rfl
@[simp] theorem raisePh_seqs (r : Raise) : (s.raisePh r).seqs = s.seqs := rfl
@[simp] theorem raisePh_wells (r : Raise) : (s.raisePh r).wells = s.wells := rfl
@[simp] theorem raisePh_pumps (r : Raise) : (s.raisePh r).pumps = s.pumps := rfl
@[simp] theorem raisePh_clusters (r : Raise) : (s.raisePh r).clusters = s.clusters := rfl
@[simp] theorem raisePh_tiles (r : Raise) : (s.raisePh r).tiles = s.tiles := rfl
@[simp] theorem raisePh_plan (r : Raise) : (s.raisePh r).plan = s.plan := rfl
@[simp] theorem raisePh_gov (r : Raise) : (s.raisePh r).gov = s.gov := rfl
@[simp] theorem raisePh_capEvents (r : Raise) : (s.raisePh r).capEvents = s.capEvents := rfl
@[simp] theorem raisePh_freeCtr (r : Raise) : (s.raisePh r).freeCtr = s.freeCtr := rfl
@[simp] theorem raisePh_pending (r : Raise) : (s.raisePh r).pending = s.pending := rfl
@[simp] theorem raisePh_reg (r : Raise) (b : Nat) : (s.raisePh r).reg b = s.reg b := rfl
@[simp] theorem raisePh_rd (r : Raise) (b : Nat) (g : Fld) : (s.raisePh r).rd b g = s.rd b g := rfl
@[simp] theorem raisePh_rdi (r : Raise) (b : Nat) (g : Fld) : (s.raisePh r).rdi b g = s.rdi b g := rfl
@[simp] theorem raisePh_flag (r : Raise) (b : Nat) (g : Fld) : (s.raisePh r).flag b g = s.flag b g := rfl
@[simp] theorem raisePh_well (r : Raise) (t2 w2 : Nat) : (s.raisePh r).well t2 w2 = s.well t2 w2 := rfl
@[simp] theorem raisePh_pump (r : Raise) (t2 w2 p2 : Nat) : (s.raisePh r).pump t2 w2 p2 = s.pump t2 w2 p2 := rfl
@[simp] theorem raisePh_cluster (r : Raise) (t2 k2 : Nat) : (s.raisePh r).cluster t2 k2 = s.cluster t2 k2 := rfl
@[simp] theorem raisePh_tile (r : Raise) (t2 : Nat) : (s.raisePh r).tile t2 = s.tile t2 := rfl
@[simp] theorem raisePh_sq (r : Raise) (n2 : Nat) : (s.raisePh r).sq n2 = s.sq n2 := rfl
@[simp] theorem raisePh_topoWord (r : Raise) (t2 w2 : Nat) : (s.raisePh r).topoWord t2 w2 = s.topoWord t2 w2 := rfl

@[simp] theorem raiseW_regs (r : Raise) : (s.raiseW r).regs = s.regs := rfl
@[simp] theorem raiseW_fuses (r : Raise) : (s.raiseW r).fuses = s.fuses := rfl
@[simp] theorem raiseW_clk (r : Raise) : (s.raiseW r).clk = s.clk := rfl
@[simp] theorem raiseW_port (r : Raise) : (s.raiseW r).port = s.port := rfl
@[simp] theorem raiseW_sb (r : Raise) : (s.raiseW r).sb = s.sb := rfl
@[simp] theorem raiseW_tap (r : Raise) : (s.raiseW r).tap = s.tap := rfl
@[simp] theorem raiseW_lc (r : Raise) : (s.raiseW r).lc = s.lc := rfl
@[simp] theorem raiseW_intc (r : Raise) : (s.raiseW r).intc = s.intc := rfl
@[simp] theorem raiseW_img (r : Raise) : (s.raiseW r).img = s.img := rfl
@[simp] theorem raiseW_load (r : Raise) : (s.raiseW r).load = s.load := rfl
@[simp] theorem raiseW_link (r : Raise) : (s.raiseW r).link = s.link := rfl
@[simp] theorem raiseW_rcd (r : Raise) : (s.raiseW r).rcd = s.rcd := rfl
@[simp] theorem raiseW_flash (r : Raise) : (s.raiseW r).flash = s.flash := rfl
@[simp] theorem raiseW_seqs (r : Raise) : (s.raiseW r).seqs = s.seqs := rfl
@[simp] theorem raiseW_wells (r : Raise) : (s.raiseW r).wells = s.wells := rfl
@[simp] theorem raiseW_pumps (r : Raise) : (s.raiseW r).pumps = s.pumps := rfl
@[simp] theorem raiseW_clusters (r : Raise) : (s.raiseW r).clusters = s.clusters := rfl
@[simp] theorem raiseW_tiles (r : Raise) : (s.raiseW r).tiles = s.tiles := rfl
@[simp] theorem raiseW_plan (r : Raise) : (s.raiseW r).plan = s.plan := rfl
@[simp] theorem raiseW_gov (r : Raise) : (s.raiseW r).gov = s.gov := rfl
@[simp] theorem raiseW_capEvents (r : Raise) : (s.raiseW r).capEvents = s.capEvents := rfl
@[simp] theorem raiseW_freeCtr (r : Raise) : (s.raiseW r).freeCtr = s.freeCtr := rfl
@[simp] theorem raiseW_pending (r : Raise) : (s.raiseW r).pending = s.pending := rfl
@[simp] theorem raiseW_reg (r : Raise) (b : Nat) : (s.raiseW r).reg b = s.reg b := rfl
@[simp] theorem raiseW_rd (r : Raise) (b : Nat) (g : Fld) : (s.raiseW r).rd b g = s.rd b g := rfl
@[simp] theorem raiseW_rdi (r : Raise) (b : Nat) (g : Fld) : (s.raiseW r).rdi b g = s.rdi b g := rfl
@[simp] theorem raiseW_flag (r : Raise) (b : Nat) (g : Fld) : (s.raiseW r).flag b g = s.flag b g := rfl
@[simp] theorem raiseW_well (r : Raise) (t2 w2 : Nat) : (s.raiseW r).well t2 w2 = s.well t2 w2 := rfl
@[simp] theorem raiseW_pump (r : Raise) (t2 w2 p2 : Nat) : (s.raiseW r).pump t2 w2 p2 = s.pump t2 w2 p2 := rfl
@[simp] theorem raiseW_cluster (r : Raise) (t2 k2 : Nat) : (s.raiseW r).cluster t2 k2 = s.cluster t2 k2 := rfl
@[simp] theorem raiseW_tile (r : Raise) (t2 : Nat) : (s.raiseW r).tile t2 = s.tile t2 := rfl
@[simp] theorem raiseW_sq (r : Raise) (n2 : Nat) : (s.raiseW r).sq n2 = s.sq n2 := rfl
@[simp] theorem raiseW_topoWord (r : Raise) (t2 w2 : Nat) : (s.raiseW r).topoWord t2 w2 = s.topoWord t2 w2 := rfl

@[simp] theorem capEvent_regs (t w : Nat) : (s.capEvent t w).regs = s.regs := rfl
@[simp] theorem capEvent_fuses (t w : Nat) : (s.capEvent t w).fuses = s.fuses := rfl
@[simp] theorem capEvent_clk (t w : Nat) : (s.capEvent t w).clk = s.clk := rfl
@[simp] theorem capEvent_port (t w : Nat) : (s.capEvent t w).port = s.port := rfl
@[simp] theorem capEvent_sb (t w : Nat) : (s.capEvent t w).sb = s.sb := rfl
@[simp] theorem capEvent_tap (t w : Nat) : (s.capEvent t w).tap = s.tap := rfl
@[simp] theorem capEvent_lc (t w : Nat) : (s.capEvent t w).lc = s.lc := rfl
@[simp] theorem capEvent_fault (t w : Nat) : (s.capEvent t w).fault = s.fault := rfl
@[simp] theorem capEvent_intc (t w : Nat) : (s.capEvent t w).intc = s.intc := rfl
@[simp] theorem capEvent_img (t w : Nat) : (s.capEvent t w).img = s.img := rfl
@[simp] theorem capEvent_load (t w : Nat) : (s.capEvent t w).load = s.load := rfl
@[simp] theorem capEvent_link (t w : Nat) : (s.capEvent t w).link = s.link := rfl
@[simp] theorem capEvent_rcd (t w : Nat) : (s.capEvent t w).rcd = s.rcd := rfl
@[simp] theorem capEvent_flash (t w : Nat) : (s.capEvent t w).flash = s.flash := rfl
@[simp] theorem capEvent_seqs (t w : Nat) : (s.capEvent t w).seqs = s.seqs := rfl
@[simp] theorem capEvent_wells (t w : Nat) : (s.capEvent t w).wells = s.wells := rfl
@[simp] theorem capEvent_pumps (t w : Nat) : (s.capEvent t w).pumps = s.pumps := rfl
@[simp] theorem capEvent_clusters (t w : Nat) : (s.capEvent t w).clusters = s.clusters := rfl
@[simp] theorem capEvent_tiles (t w : Nat) : (s.capEvent t w).tiles = s.tiles := rfl
@[simp] theorem capEvent_plan (t w : Nat) : (s.capEvent t w).plan = s.plan := rfl
@[simp] theorem capEvent_gov (t w : Nat) : (s.capEvent t w).gov = s.gov := rfl
@[simp] theorem capEvent_freeCtr (t w : Nat) : (s.capEvent t w).freeCtr = s.freeCtr := rfl
@[simp] theorem capEvent_pending (t w : Nat) : (s.capEvent t w).pending = s.pending := rfl
@[simp] theorem capEvent_reg (t w : Nat) (b : Nat) : (s.capEvent t w).reg b = s.reg b := rfl
@[simp] theorem capEvent_rd (t w : Nat) (b : Nat) (g : Fld) : (s.capEvent t w).rd b g = s.rd b g := rfl
@[simp] theorem capEvent_rdi (t w : Nat) (b : Nat) (g : Fld) : (s.capEvent t w).rdi b g = s.rdi b g := rfl
@[simp] theorem capEvent_flag (t w : Nat) (b : Nat) (g : Fld) : (s.capEvent t w).flag b g = s.flag b g := rfl
@[simp] theorem capEvent_well (t w : Nat) (t2 w2 : Nat) : (s.capEvent t w).well t2 w2 = s.well t2 w2 := rfl
@[simp] theorem capEvent_pump (t w : Nat) (t2 w2 p2 : Nat) : (s.capEvent t w).pump t2 w2 p2 = s.pump t2 w2 p2 := rfl
@[simp] theorem capEvent_cluster (t w : Nat) (t2 k2 : Nat) : (s.capEvent t w).cluster t2 k2 = s.cluster t2 k2 := rfl
@[simp] theorem capEvent_tile (t w : Nat) (t2 : Nat) : (s.capEvent t w).tile t2 = s.tile t2 := rfl
@[simp] theorem capEvent_sq (t w : Nat) (n2 : Nat) : (s.capEvent t w).sq n2 = s.sq n2 := rfl
@[simp] theorem capEvent_topoWord (t w : Nat) (t2 w2 : Nat) : (s.capEvent t w).topoWord t2 w2 = s.topoWord t2 w2 := rfl

@[simp] theorem draw_regs : (s.draw).regs = s.regs := rfl
@[simp] theorem draw_fuses : (s.draw).fuses = s.fuses := rfl
@[simp] theorem draw_clk : (s.draw).clk = s.clk := rfl
@[simp] theorem draw_port : (s.draw).port = s.port := rfl
@[simp] theorem draw_sb : (s.draw).sb = s.sb := rfl
@[simp] theorem draw_tap : (s.draw).tap = s.tap := rfl
@[simp] theorem draw_lc : (s.draw).lc = s.lc := rfl
@[simp] theorem draw_fault : (s.draw).fault = s.fault := rfl
@[simp] theorem draw_intc : (s.draw).intc = s.intc := rfl
@[simp] theorem draw_img : (s.draw).img = s.img := rfl
@[simp] theorem draw_load : (s.draw).load = s.load := rfl
@[simp] theorem draw_link : (s.draw).link = s.link := rfl
@[simp] theorem draw_rcd : (s.draw).rcd = s.rcd := rfl
@[simp] theorem draw_flash : (s.draw).flash = s.flash := rfl
@[simp] theorem draw_seqs : (s.draw).seqs = s.seqs := rfl
@[simp] theorem draw_wells : (s.draw).wells = s.wells := rfl
@[simp] theorem draw_pumps : (s.draw).pumps = s.pumps := rfl
@[simp] theorem draw_clusters : (s.draw).clusters = s.clusters := rfl
@[simp] theorem draw_tiles : (s.draw).tiles = s.tiles := rfl
@[simp] theorem draw_plan : (s.draw).plan = s.plan := rfl
@[simp] theorem draw_gov : (s.draw).gov = s.gov := rfl
@[simp] theorem draw_capEvents : (s.draw).capEvents = s.capEvents := rfl
@[simp] theorem draw_pending : (s.draw).pending = s.pending := rfl
@[simp] theorem draw_reg (b : Nat) : (s.draw).reg b = s.reg b := rfl
@[simp] theorem draw_rd (b : Nat) (g : Fld) : (s.draw).rd b g = s.rd b g := rfl
@[simp] theorem draw_rdi (b : Nat) (g : Fld) : (s.draw).rdi b g = s.rdi b g := rfl
@[simp] theorem draw_flag (b : Nat) (g : Fld) : (s.draw).flag b g = s.flag b g := rfl
@[simp] theorem draw_well (t2 w2 : Nat) : (s.draw).well t2 w2 = s.well t2 w2 := rfl
@[simp] theorem draw_pump (t2 w2 p2 : Nat) : (s.draw).pump t2 w2 p2 = s.pump t2 w2 p2 := rfl
@[simp] theorem draw_cluster (t2 k2 : Nat) : (s.draw).cluster t2 k2 = s.cluster t2 k2 := rfl
@[simp] theorem draw_tile (t2 : Nat) : (s.draw).tile t2 = s.tile t2 := rfl
@[simp] theorem draw_sq (n2 : Nat) : (s.draw).sq n2 = s.sq n2 := rfl
@[simp] theorem draw_topoWord (t2 w2 : Nat) : (s.draw).topoWord t2 w2 = s.topoWord t2 w2 := rfl

end Sys2Proof.Machine
end

