-- ==== Sys2Proof/Laws/Ops.lean ====
section
/-! SUPPORT. The laws of the shared operations: registers and their fields, the tables of hidden state, the end of a command, the host port's answer. -/

namespace Sys2Proof.Machine

open Sys2Proof

/-! ### Registers -/

@[simp] theorem reg_setReg (s : State) (a b : Nat) (d : Word) : (s.setReg a d).reg b = if b = a then d else s.reg b := by
  simp only [State.reg, State.setReg, RegTable.get, RegTable.put, tget_tset]

theorem reg_wr (s : State) (a b : Nat) (f : Fld) (v : Nat) : (s.wr a f v).reg b = if b = a then f.set (s.reg a) v else s.reg b := by
  simp only [State.wr, reg_setReg]

/-- A register other than the one written reads as before. -/
theorem reg_wr_ne (s : State) (a b : Nat) (f : Fld) (v : Nat) (h : b ≠ a) : (s.wr a f v).reg b = s.reg b := by
  rw [reg_wr, if_neg h]

theorem rd_wr_ne (s : State) (a b : Nat) (f g : Fld) (v : Nat) (h : b ≠ a) : (s.wr a f v).rd b g = s.rd b g := by
  simp only [State.rd, reg_wr_ne s a b f v h]

theorem rdi_wr_ne (s : State) (a b : Nat) (f g : Fld) (v : Nat) (h : b ≠ a) : (s.wr a f v).rdi b g = s.rdi b g := by
  simp only [State.rdi, reg_wr_ne s a b f v h]

theorem flag_wr_ne (s : State) (a b : Nat) (f g : Fld) (v : Nat) (h : b ≠ a) : (s.wr a f v).flag b g = s.flag b g := by
  simp only [State.flag, rd_wr_ne s a b f g v h]

theorem wrb_eq (s : State) (a : Nat) (f : Fld) (b : Bool) : s.wrb a f b = s.wr a f (b2n b) := rfl

theorem wri_eq (s : State) (a : Nat) (f : Fld) (v : Int) : s.wri a f v = s.wr a f (pattern f.width v) := rfl

/-- A written field reads the low bits of what was written. -/
theorem rd_wr_same (s : State) (a : Nat) (f : Fld) (v : Nat) (h : f.ok = true) : (s.wr a f v).rd a f = v % 2 ^ f.width := by
  simp only [State.rd, reg_wr, if_pos, Fld.get_set f _ v h]

/-- A field apart from the one written reads as before. -/
theorem rd_wr_fld (s : State) (a b : Nat) (f g : Fld) (v : Nat) (hg : g.ok = true) (h : f.apart g = true) :
    (s.wr a f v).rd b g = s.rd b g := by
  by_cases hb : b = a
  · subst hb; simp only [State.rd, reg_wr, if_pos, Fld.get_set_ne f g _ v hg h]
  · exact rd_wr_ne s a b f g v hb

theorem rdi_wr_fld (s : State) (a b : Nat) (f g : Fld) (v : Nat) (hg : g.ok = true) (h : f.apart g = true) :
    (s.wr a f v).rdi b g = s.rdi b g := by
  have := rd_wr_fld s a b f g v hg h
  simp only [State.rd] at this
  simp only [State.rdi, Fld.geti, this]

theorem flag_wr_fld (s : State) (a b : Nat) (f g : Fld) (v : Nat) (hg : g.ok = true) (h : f.apart g = true) :
    (s.wr a f v).flag b g = s.flag b g := by
  simp only [State.flag, rd_wr_fld s a b f g v hg h]

/-- A one-bit field that was set reads 1. -/
theorem flag_wr_one (s : State) (a : Nat) (f : Fld) (h : f.ok = true) : (s.wr a f 1).flag a f = true := by
  have hw : 1 ≤ f.width := by
    simp only [Fld.ok, Bool.and_eq_true, decide_eq_true_eq] at h
    simp only [Fld.width]; omega
  have : 1 < 2 ^ f.width := Nat.one_lt_two_pow (by omega)
  simp only [State.flag, rd_wr_same s a f 1 h, Nat.mod_eq_of_lt this, beq_self_eq_true]

/-- A field that was cleared reads 0. -/
theorem flag_wr_zero (s : State) (a : Nat) (f : Fld) (h : f.ok = true) : (s.wr a f 0).flag a f = false := by
  simp only [State.flag, rd_wr_same s a f 0 h, Nat.zero_mod]; rfl

/-! ### Hidden tables -/

@[simp] theorem well_setWell (s : State) (t w t2 w2 : Nat) (x : WellX) :
    (s.setWell t w x).well t2 w2 = if 16 * t2 + w2 = 16 * t + w then x else s.well t2 w2 := by
  simp only [State.well, State.setWell, tget_tset]

@[simp] theorem pump_setPump (s : State) (t w p t2 w2 p2 : Nat) (x : PumpX) :
    (s.setPump t w p x).pump t2 w2 p2 = if 4 * (16 * t2 + w2) + p2 = 4 * (16 * t + w) + p then x else s.pump t2 w2 p2 := by
  simp only [State.pump, State.setPump, tget_tset]

@[simp] theorem cluster_setCluster (s : State) (t k t2 k2 : Nat) (x : ClusterX) :
    (s.setCluster t k x).cluster t2 k2 = if 96 * t2 + k2 = 96 * t + k then x else s.cluster t2 k2 := by
  simp only [State.cluster, State.setCluster, tget_tset]

@[simp] theorem tile_setTile (s : State) (t t2 : Nat) (x : TileX) :
    (s.setTile t x).tile t2 = if t2 = t then x else s.tile t2 := by
  simp only [State.tile, State.setTile, tget_tset]

@[simp] theorem sq_setSq (s : State) (n n2 : Nat) (x : SeqX) :
    (s.setSq n x).sq n2 = if n2 = n then x else s.sq n2 := by
  simp only [State.sq, State.setSq, tget_tset]

/-! ### The end of a command -/

/-- With no raise of the Wellhead in the cycle the state is the next state as it stands (R324). -/
theorem settle_quiet (s : State) (h : s.fault.now = []) : s.settle = s := by simp [State.settle, h]

theorem done_quiet (s : State) (h : s.fault.now = []) : done s = .next s := by rw [done, settle_quiet s h]

theorem settleN_now (n : Nat) (s : State) : (settleN n s).fault.now = [] := by
  induction n generalizing s with
  | zero => rfl
  | succ n ih =>
    simp only [settleN]
    split
    · split
      · assumption
      · exact ih _
    · cases h : takeFirst s.fault.now with
      | none =>
        show s.fault.now = []
        cases hl : s.fault.now with
        | nil => rfl
        | cons a l =>
          rw [hl, takeFirst] at h
          split at h
          · cases h
          · split at h <;> cases h
      | some p => exact ih _

/-- After every command no raise of the Wellhead is left uncollected (R324). -/
theorem settle_now (s : State) : s.settle.fault.now = [] := by
  unfold State.settle
  split
  · assumption
  · exact settleN_now _ _

/-! ### Answers of the host port -/

/-- An answer OKAY, with no request waiting behind the one answered: only the port changes (R34). -/
theorem answer_okay (s : State) (a : Nat) (d : Word) (h : s.port.outstanding.length ≤ 1) :
    s.answer a rOkay d = { s with port :=
      { outstanding := [], answered := s.port.answered ++ [⟨(s.port.outstanding.head?).elim 0 (·.tag), rOkay, d⟩] } } := by
  match hp : s.port.outstanding with
  | [] => simp [State.answer, State.respond, State.portError, State.drain, State.drainN, hp]
  | [q] => simp [State.answer, State.respond, State.portError, State.drain, State.drainN, hp]
  | q :: r :: l => rw [hp] at h; simp at h

end Sys2Proof.Machine
end

