-- ==== Sys2Proof/Laws/Host.lean ====
section
/-! SUPPORT. The laws of a host write: when the register takes it and nothing waits behind it, the next state is the effect with one answer OKAY. -/

namespace Sys2Proof.Machine

open Sys2Proof

/-- An OKAY answer in the words of claims. -/
theorem answer_alone (s : State) (a : Nat) (d : Word) (h : s.alone) : s.answer a rOkay d = s.answered rOkay d :=
  answer_okay s a d h

@[simp] theorem answered_quiet (s : State) (c : Nat) (d : Word) : (s.answered c d).quiet ↔ s.quiet := Iff.rfl

/-- A host write row whose register takes the word: the effect, and one answer. -/
theorem hostOp_next (s : State) (a : Nat) (d : Word) (f : State → State) (h : s.takes a d) (hp : (f s).alone)
    (hq : (f s).quiet) : hostOp s a d f = .next ((f s).answered rOkay 0) := by
  obtain ⟨h1, h2, h3, h4, h5⟩ := h
  have h2' : (s.rowOf a).isNone = false := by cases hr : s.rowOf a <;> simp_all
  simp only [hostOp, h1, h2', h3, h4, h5, answer_alone _ _ _ hp, Bool.false_eq_true, if_false]
  exact done_quiet _ hq

end Sys2Proof.Machine
end

