-- ==== Sys2Proof/Laws/Ends.lean ====
section
/-! SUPPORT. How a command ends: its next state with the Wellhead's raises collected, or one of the two refusals. -/

namespace Sys2Proof.Machine

open Sys2Proof

/-- A command's outcome is a settled next state, or the refusal of a write to a reserved field. -/
def Settles (o : Host.Outcome State Fault Refusal) : Prop := (∃ u : State, o = .next u.settle) ∨ o = .refused .reservedWrite

theorem done_settles (u : State) : Settles (done u) := .inl ⟨u, rfl⟩

theorem refused_settles : Settles (.refused .reservedWrite) := .inr rfl

theorem hostOp_settles (s : State) (a : Nat) (d : Word) (f : State → State) : Settles (hostOp s a d f) := by
  unfold hostOp
  split_ifs
  · exact refused_settles
  all_goals exact done_settles _

theorem writeOp_settles (s : State) (a : Nat) (d : Word) (f : State → State) : Settles (writeOp s a d f) := by
  unfold writeOp
  split_ifs
  · exact refused_settles
  all_goals exact done_settles _

/-- A settled outcome leaves no raise of the Wellhead uncollected. -/
theorem Settles.quiet {o : Host.Outcome State Fault Refusal} {t : State} (h : Settles o) (e : o = .next t) : t.quiet := by
  rcases h with ⟨u, hu⟩ | hu
  · rw [hu] at e; injection e with e; exact e ▸ settle_now u
  · rw [hu] at e; cases e

theorem powerOnReset_settles  (s : State) : Settles (execPowerOnReset  s) := by
  unfold execPowerOnReset
  exact done_settles _
theorem chipReset_settles  (s : State) : Settles (execChipReset  s) := by
  unfold execChipReset
  exact done_settles _
theorem lifeCycleRead_settles  (s : State) : Settles (execLifeCycleRead  s) := by
  unfold execLifeCycleRead
  exact done_settles _
theorem registerWrite_settles (a : Nat) (d : Word) (s : State) : Settles (execRegisterWrite a d s) := by
  unfold execRegisterWrite
  exact writeOp_settles _ _ _ _
theorem statusClear_settles (a : Nat) (d hw : Word) (s : State) : Settles (execStatusClear a d hw s) := by
  unfold execStatusClear
  exact writeOp_settles _ _ _ _
theorem counterClear_settles (a : Nat) (d : Word) (inc : Bool) (s : State) : Settles (execCounterClear a d inc s) := by
  unfold execCounterClear
  exact writeOp_settles _ _ _ _
theorem hostRequest_settles (we : Bool) (a : Nat) (d : Word) (tag : Nat) (s : State) : Settles (execHostRequest we a d tag s) := by
  unfold execHostRequest
  exact done_settles _
theorem portTimeout_settles (landed : Bool) (s : State) : Settles (execPortTimeout landed s) := by
  unfold execPortTimeout
  exact done_settles _
theorem broadcastWrite_settles (off : Nat) (d : Word) (silent : List Nat) (s : State) : Settles (execBroadcastWrite off d silent s) := by
  unfold execBroadcastWrite
  dsimp only
  (repeat' split) <;> first | exact done_settles _ | exact refused_settles
theorem wlLimitWrite_settles (t w : Nat) (d : Word) (s : State) : Settles (execWlLimitWrite t w d s) := by
  unfold execWlLimitWrite
  exact hostOp_settles _ _ _ _
theorem sbRead_settles (a : Nat) (s : State) : Settles (execSbRead a s) := by
  unfold execSbRead
  exact done_settles _
theorem mboxWrite_settles (d : Word) (s : State) : Settles (execMboxWrite d s) := by
  unfold execMboxWrite
  exact done_settles _
theorem freezeRecorder_settles  (s : State) : Settles (execFreezeRecorder  s) := by
  unfold execFreezeRecorder
  exact done_settles _
theorem stopRequest_settles (b : Nat) (s : State) : Settles (execStopRequest b s) := by
  unfold execStopRequest
  exact done_settles _
theorem ident_settles  (s : State) : Settles (execIdent  s) := by
  unfold execIdent
  exact done_settles _
theorem privateRead_settles  (s : State) : Settles (execPrivateRead  s) := by
  unfold execPrivateRead
  exact done_settles _
theorem addressMatchWake_settles  (s : State) : Settles (execAddressMatchWake  s) := by
  unfold execAddressMatchWake
  exact done_settles _
theorem enec_settles (b : Nat) (s : State) : Settles (execEnec b s) := by
  unfold execEnec
  exact done_settles _
theorem disec_settles (b : Nat) (s : State) : Settles (execDisec b s) := by
  unfold execDisec
  exact done_settles _
theorem rstdaa_settles  (s : State) : Settles (execRstdaa  s) := by
  unfold execRstdaa
  exact done_settles _
theorem entdaa_settles (addr : Nat) (s : State) : Settles (execEntdaa addr s) := by
  unfold execEntdaa
  exact done_settles _
theorem setdasa_settles (addr : Nat) (s : State) : Settles (execSetdasa addr s) := by
  unfold execSetdasa
  exact done_settles _
theorem setnewda_settles (addr : Nat) (s : State) : Settles (execSetnewda addr s) := by
  unfold execSetnewda
  exact done_settles _
theorem getpid_settles  (s : State) : Settles (execGetpid  s) := by
  unfold execGetpid
  exact done_settles _
theorem getbcr_settles  (s : State) : Settles (execGetbcr  s) := by
  unfold execGetbcr
  exact done_settles _
theorem getdcr_settles  (s : State) : Settles (execGetdcr  s) := by
  unfold execGetdcr
  exact done_settles _
theorem getstatus_settles  (s : State) : Settles (execGetstatus  s) := by
  unfold execGetstatus
  exact done_settles _
theorem setmwl_settles (n : Nat) (s : State) : Settles (execSetmwl n s) := by
  unfold execSetmwl
  exact done_settles _
theorem getmwl_settles  (s : State) : Settles (execGetmwl  s) := by
  unfold execGetmwl
  exact done_settles _
theorem setmrl_settles (n : Nat) (s : State) : Settles (execSetmrl n s) := by
  unfold execSetmrl
  exact done_settles _
theorem getmrl_settles  (s : State) : Settles (execGetmrl  s) := by
  unfold execGetmrl
  exact done_settles _
theorem rstact_settles (b : Nat) (s : State) : Settles (execRstact b s) := by
  unfold execRstact
  exact done_settles _
theorem targetResetPattern_settles  (s : State) : Settles (execTargetResetPattern  s) := by
  unfold execTargetResetPattern
  exact done_settles _
theorem unsupportedCcc_settles (c : Nat) (s : State) : Settles (execUnsupportedCcc c s) := by
  unfold execUnsupportedCcc
  exact done_settles _
theorem ibiRequest_settles (lost : Bool) (s : State) : Settles (execIbiRequest lost s) := by
  unfold execIbiRequest
  exact done_settles _
theorem idcode_settles  (s : State) : Settles (execIdcode  s) := by
  unfold execIdcode
  exact done_settles _
theorem dbgRegRead_settles (a : Nat) (s : State) : Settles (execDbgRegRead a s) := by
  unfold execDbgRegRead
  exact done_settles _
theorem dbgRegWrite_settles (a : Nat) (d : Word) (s : State) : Settles (execDbgRegWrite a d s) := by
  unfold execDbgRegWrite
  (repeat' split) <;> first | exact done_settles _ | exact refused_settles
theorem dbgAuth_settles  (s : State) : Settles (execDbgAuth  s) := by
  unfold execDbgAuth
  exact done_settles _
theorem bypass_settles  (s : State) : Settles (execBypass  s) := by
  unfold execBypass
  exact done_settles _
theorem tapReset_settles  (s : State) : Settles (execTapReset  s) := by
  unfold execTapReset
  exact done_settles _
theorem dbgSessionExpiry_settles  (s : State) : Settles (execDbgSessionExpiry  s) := by
  unfold execDbgSessionExpiry
  exact done_settles _
theorem challenge_settles (d : Word) (s : State) : Settles (execChallenge d s) := by
  unfold execChallenge
  exact hostOp_settles _ _ _ _
theorem submit_settles  (s : State) : Settles (execSubmit  s) := by
  unfold execSubmit
  exact hostOp_settles _ _ _ _
theorem submitVerified_settles  (s : State) : Settles (execSubmitVerified  s) := by
  unfold execSubmitVerified
  exact done_settles _
theorem cancel_settles (same : Bool) (s : State) : Settles (execCancel same s) := by
  unfold execCancel
  exact hostOp_settles _ _ _ _
theorem nonceExpiry_settles  (s : State) : Settles (execNonceExpiry  s) := by
  unfold execNonceExpiry
  exact done_settles _
theorem provisionCommit_settles  (s : State) : Settles (execProvisionCommit  s) := by
  unfold execProvisionCommit
  exact hostOp_settles _ _ _ _
theorem enterField_settles  (s : State) : Settles (execEnterField  s) := by
  unfold execEnterField
  exact hostOp_settles _ _ _ _
theorem fuseProgramDone_settles  (s : State) : Settles (execFuseProgramDone  s) := by
  unfold execFuseProgramDone
  exact done_settles _
theorem lcStageWrite_settles (n : Nat) (d : Word) (s : State) : Settles (execLcStageWrite n d s) := by
  unfold execLcStageWrite
  (repeat' split) <;> first | exact done_settles _ | exact hostOp_settles _ _ _ _
theorem imgStart_settles (d : Word) (s : State) : Settles (execImgStart d s) := by
  unfold execImgStart
  exact hostOp_settles _ _ _ _
theorem imgAbort_settles (d : Word) (same : Bool) (s : State) : Settles (execImgAbort d same s) := by
  unfold execImgAbort
  exact hostOp_settles _ _ _ _
theorem safeNow_settles (d : Word) (s : State) : Settles (execSafeNow d s) := by
  unfold execSafeNow
  exact hostOp_settles _ _ _ _
theorem safeStop_settles (d : Word) (s : State) : Settles (execSafeStop d s) := by
  unfold execSafeStop
  exact hostOp_settles _ _ _ _
theorem hdImgDataWrite_settles (d : Word) (s : State) : Settles (execHdImgDataWrite d s) := by
  unfold execHdImgDataWrite
  (repeat' split) <;> exact done_settles _
theorem imageStall_settles  (s : State) : Settles (execImageStall  s) := by
  unfold execImageStall
  exact done_settles _
theorem imageChecksDone_settles  (s : State) : Settles (execImageChecksDone  s) := by
  unfold execImageChecksDone
  exact done_settles _
theorem applyStart_settles  (s : State) : Settles (execApplyStart  s) := by
  unfold execApplyStart
  exact done_settles _
theorem applyFail_settles (t : Nat) (s : State) : Settles (execApplyFail t s) := by
  unfold execApplyFail
  exact done_settles _
theorem imageAccept_settles  (s : State) : Settles (execImageAccept  s) := by
  unfold execImageAccept
  exact done_settles _
theorem safePrimingStart_settles  (s : State) : Settles (execSafePrimingStart  s) := by
  unfold execSafePrimingStart
  exact done_settles _
theorem safePrimeStep_settles (t : Nat) (s : State) : Settles (execSafePrimeStep t s) := by
  unfold execSafePrimeStep
  exact done_settles _
theorem safeParkTimeout_settles (t : Nat) (s : State) : Settles (execSafeParkTimeout t s) := by
  unfold execSafeParkTimeout
  exact done_settles _
theorem keeperEnable_settles (t : Nat) (s : State) : Settles (execKeeperEnable t s) := by
  unfold execKeeperEnable
  exact done_settles _
theorem keeperHandover_settles (t : Nat) (s : State) : Settles (execKeeperHandover t s) := by
  unfold execKeeperHandover
  exact done_settles _
theorem cal_settles (t w p : Nat) (d : Word) (s : State) : Settles (execCal t w p d s) := by
  unfold execCal
  exact hostOp_settles _ _ _ _
theorem offsetMeasureDone_settles (t w p edges : Nat) (winSum : Int) (s : State) : Settles (execOffsetMeasureDone t w p edges winSum s) := by
  unfold execOffsetMeasureDone
  exact done_settles _
theorem tsnsPeriod_settles (t w p high period : Nat) (s : State) : Settles (execTsnsPeriod t w p high period s) := by
  unfold execTsnsPeriod
  exact done_settles _
theorem tsnsTimeout_settles (t w p : Nat) (s : State) : Settles (execTsnsTimeout t w p s) := by
  unfold execTsnsTimeout
  exact done_settles _
theorem pumpFaultWireFall_settles (t w p : Nat) (penFell : Bool) (s : State) : Settles (execPumpFaultWireFall t w p penFell s) := by
  unfold execPumpFaultWireFall
  exact done_settles _
theorem faultClassify_settles (t w p edges : Nat) (s : State) : Settles (execFaultClassify t w p edges s) := by
  unfold execFaultClassify
  exact done_settles _
theorem pumpRearm_settles (t w p : Nat) (s : State) : Settles (execPumpRearm t w p s) := by
  unfold execPumpRearm
  exact done_settles _
theorem rearmPenRelease_settles (t w p : Nat) (s : State) : Settles (execRearmPenRelease t w p s) := by
  unfold execRearmPenRelease
  exact done_settles _
theorem rearmCheck_settles (t w p : Nat) (s : State) : Settles (execRearmCheck t w p s) := by
  unfold execRearmCheck
  exact done_settles _
theorem pumpFaultWireRise_settles (t w p : Nat) (s : State) : Settles (execPumpFaultWireRise t w p s) := by
  unfold execPumpFaultWireRise
  exact done_settles _
theorem softShortTrip_settles (t w p : Nat) (s : State) : Settles (execSoftShortTrip t w p s) := by
  unfold execSoftShortTrip
  exact done_settles _
theorem busFault_settles (t : Nat) (ov : Bool) (s : State) : Settles (execBusFault t ov s) := by
  unfold execBusFault
  exact done_settles _
theorem refLost_settles  (s : State) : Settles (execRefLost  s) := by
  unfold execRefLost
  exact done_settles _
theorem refQualified_settles  (s : State) : Settles (execRefQualified  s) := by
  unfold execRefQualified
  exact done_settles _
theorem dcoPullUpdate_settles (fref phi : Int) (s : State) : Settles (execDcoPullUpdate fref phi s) := by
  unfold execDcoPullUpdate
  exact done_settles _
theorem periodOpening_settles (t w : Nat) (s : State) : Settles (execPeriodOpening t w s) := by
  unfold execPeriodOpening
  exact done_settles _
theorem innerSampleClose_settles (t w : Nat) (codes : List Int) (s : State) : Settles (execInnerSampleClose t w codes s) := by
  unfold execInnerSampleClose
  exact done_settles _
theorem innerEvaluation_settles (t w : Nat) (s : State) : Settles (execInnerEvaluation t w s) := by
  unfold execInnerEvaluation
  exact done_settles _
theorem residueVerdict_settles (t w : Nat) (okA okB same : Bool) (s : State) : Settles (execResidueVerdict t w okA okB same s) := by
  unfold execResidueVerdict
  exact done_settles _
theorem evaluationRetry_settles (t w : Nat) (okA okB same : Bool) (s : State) : Settles (execEvaluationRetry t w okA okB same s) := by
  unfold execEvaluationRetry
  exact done_settles _
theorem outerEvaluation_settles (t w : Nat) (edges : List (List Nat)) (s : State) : Settles (execOuterEvaluation t w edges s) := by
  unfold execOuterEvaluation
  exact done_settles _
theorem selfTest_settles (t e : Nat) (ok : Bool) (s : State) : Settles (execSelfTest t e ok s) := by
  unfold execSelfTest
  exact done_settles _
theorem stest_settles (t : Nat) (d : Word) (s : State) : Settles (execStest t d s) := by
  unfold execStest
  exact hostOp_settles _ _ _ _
theorem modeReqWrite_settles (t : Nat) (d : Word) (s : State) : Settles (execModeReqWrite t d s) := by
  unfold execModeReqWrite
  exact hostOp_settles _ _ _ _
theorem modeChangeApply_settles (t : Nat) (s : State) : Settles (execModeChangeApply t s) := by
  unfold execModeChangeApply
  exact done_settles _
theorem holdAssert_settles (t w : Nat) (dev : Int) (s : State) : Settles (execHoldAssert t w dev s) := by
  unfold execHoldAssert
  exact done_settles _
theorem holdRelease_settles (t w : Nat) (dev : Int) (s : State) : Settles (execHoldRelease t w dev s) := by
  unfold execHoldRelease
  exact done_settles _
theorem holdTimeout_settles (t w : Nat) (s : State) : Settles (execHoldTimeout t w s) := by
  unfold execHoldTimeout
  exact done_settles _
theorem ovSuppress_settles (t w : Nat) (dev : Int) (s : State) : Settles (execOvSuppress t w dev s) := by
  unfold execOvSuppress
  exact done_settles _
theorem ovSuppressEnd_settles (t w : Nat) (dev : Int) (s : State) : Settles (execOvSuppressEnd t w dev s) := by
  unfold execOvSuppressEnd
  exact done_settles _
theorem profileTick_settles (t w : Nat) (s : State) : Settles (execProfileTick t w s) := by
  unfold execProfileTick
  exact done_settles _
theorem vCmdWrite_settles (t w : Nat) (d : Word) (s : State) : Settles (execVCmdWrite t w d s) := by
  unfold execVCmdWrite
  exact hostOp_settles _ _ _ _
theorem hystTurnOn_settles (t w : Nat) (code : Int) (s : State) : Settles (execHystTurnOn t w code s) := by
  unfold execHystTurnOn
  exact done_settles _
theorem hystPulseEnd_settles (t w p : Nat) (e : PulseEnd) (s : State) : Settles (execHystPulseEnd t w p e s) := by
  unfold execHystPulseEnd
  exact done_settles _
theorem hystPumpReady_settles (t w p : Nat) (s : State) : Settles (execHystPumpReady t w p s) := by
  unfold execHystPumpReady
  exact done_settles _
theorem handover_settles (t w : Nat) (s : State) : Settles (execHandover t w s) := by
  unfold execHandover
  exact done_settles _
theorem sqStart_settles (n : Nat) (d : Word) (s : State) : Settles (execSqStart n d s) := by
  unfold execSqStart
  exact hostOp_settles _ _ _ _
theorem sqAbort_settles (n : Nat) (s : State) : Settles (execSqAbort n s) := by
  unfold execSqAbort
  exact done_settles _
theorem sqEnd_settles (n : Nat) (s : State) : Settles (execSqEnd n s) := by
  unfold execSqEnd
  exact done_settles _
theorem sqSelt_settles (n : Nat) (s : State) : Settles (execSqSelt n s) := by
  unfold execSqSelt
  exact done_settles _
theorem sqSetv_settles (n : Nat) (s : State) : Settles (execSqSetv n s) := by
  unfold execSqSetv
  exact done_settles _
theorem sqProf_settles (n : Nat) (s : State) : Settles (execSqProf n s) := by
  unfold execSqProf
  exact done_settles _
theorem sqPrime_settles (n : Nat) (s : State) : Settles (execSqPrime n s) := by
  unfold execSqPrime
  exact done_settles _
theorem sqHand_settles (n : Nat) (s : State) : Settles (execSqHand n s) := by
  unfold execSqHand
  exact done_settles _
theorem sqHyst_settles (n : Nat) (s : State) : Settles (execSqHyst n s) := by
  unfold execSqHyst
  exact done_settles _
theorem sqPark_settles (n : Nat) (s : State) : Settles (execSqPark n s) := by
  unfold execSqPark
  exact done_settles _
theorem sqWait_settles (n : Nat) (s : State) : Settles (execSqWait n s) := by
  unfold execSqWait
  exact done_settles _
theorem sqJmp_settles (n : Nat) (s : State) : Settles (execSqJmp n s) := by
  unfold execSqJmp
  exact done_settles _
theorem sqClgt_settles (n : Nat) (s : State) : Settles (execSqClgt n s) := by
  unfold execSqClgt
  exact done_settles _
theorem sqTie_settles (n : Nat) (s : State) : Settles (execSqTie n s) := by
  unfold execSqTie
  exact done_settles _
theorem sqPmode_settles (n : Nat) (s : State) : Settles (execSqPmode n s) := by
  unfold execSqPmode
  exact done_settles _
theorem sqTrk_settles (n : Nat) (s : State) : Settles (execSqTrk n s) := by
  unfold execSqTrk
  exact done_settles _
theorem sqTest_settles (n : Nat) (s : State) : Settles (execSqTest n s) := by
  unfold execSqTest
  exact done_settles _
theorem sqEvent_settles (n : Nat) (s : State) : Settles (execSqEvent n s) := by
  unfold execSqEvent
  exact done_settles _
theorem instructionComplete_settles (n : Nat) (s : State) : Settles (execInstructionComplete n s) := by
  unfold execInstructionComplete
  exact done_settles _
theorem instructionTimeout_settles (n : Nat) (s : State) : Settles (execInstructionTimeout n s) := by
  unfold execInstructionTimeout
  exact done_settles _
theorem primeAdmit_settles (t w : Nat) (s : State) : Settles (execPrimeAdmit t w s) := by
  unfold execPrimeAdmit
  exact done_settles _
theorem primeResume_settles (t w : Nat) (s : State) : Settles (execPrimeResume t w s) := by
  unfold execPrimeResume
  exact done_settles _
theorem parkTimeout_settles (t w : Nat) (s : State) : Settles (execParkTimeout t w s) := by
  unfold execParkTimeout
  exact done_settles _
theorem capabilityEvent_settles (n : Nat) (s : State) : Settles (execCapabilityEvent n s) := by
  unfold execCapabilityEvent
  exact done_settles _
theorem scheduleWindowWrite_settles (t o : Nat) (d : Word) (s : State) : Settles (execScheduleWindowWrite t o d s) := by
  unfold execScheduleWindowWrite
  dsimp only
  (repeat' split) <;> exact done_settles _
theorem bind_settles (t : Nat) (d : Word) (s : State) : Settles (execBind t d s) := by
  unfold execBind
  exact hostOp_settles _ _ _ _
theorem bindDone_settles (t : Nat) (s : State) : Settles (execBindDone t s) := by
  unfold execBindDone
  exact done_settles _
theorem unbind_settles (t : Nat) (d : Word) (same : Bool) (s : State) : Settles (execUnbind t d same s) := by
  unfold execUnbind
  exact hostOp_settles _ _ _ _
theorem dsStart_settles (t : Nat) (d : Word) (s : State) : Settles (execDsStart t d s) := by
  unfold execDsStart
  exact hostOp_settles _ _ _ _
theorem dsStop_settles (t : Nat) (d : Word) (s : State) : Settles (execDsStop t d s) := by
  unfold execDsStop
  exact hostOp_settles _ _ _ _
theorem playStart_settles (t : Nat) (s : State) : Settles (execPlayStart t s) := by
  unfold execPlayStart
  exact done_settles _
theorem playStop_settles (t : Nat) (s : State) : Settles (execPlayStop t s) := by
  unfold execPlayStop
  exact done_settles _
theorem playerBeat_settles (t : Nat) (s : State) : Settles (execPlayerBeat t s) := by
  unfold execPlayerBeat
  exact done_settles _
theorem noticePost_settles (t k n : Nat) (m : Word) (s : State) : Settles (execNoticePost t k n m s) := by
  unfold execNoticePost
  exact done_settles _
theorem noticeCollect_settles (t k n : Nat) (s : State) : Settles (execNoticeCollect t k n s) := by
  unfold execNoticeCollect
  exact done_settles _
theorem gateComplete_settles (t id : Nat) (s : State) : Settles (execGateComplete t id s) := by
  unfold execGateComplete
  exact done_settles _
theorem waferGateReport_settles (t id : Nat) (s : State) : Settles (execWaferGateReport t id s) := by
  unfold execWaferGateReport
  exact done_settles _
theorem waferGateComplete_settles (id : Nat) (s : State) : Settles (execWaferGateComplete id s) := by
  unfold execWaferGateComplete
  exact done_settles _
theorem gateRelease_settles (t id : Nat) (s : State) : Settles (execGateRelease t id s) := by
  unfold execGateRelease
  exact done_settles _
theorem gateTimeout_settles (t w : Nat) (s : State) : Settles (execGateTimeout t w s) := by
  unfold execGateTimeout
  exact done_settles _
theorem force_settles (t : Nat) (d : Word) (s : State) : Settles (execForce t d s) := by
  unfold execForce
  exact hostOp_settles _ _ _ _
theorem wellOverload_settles (t w : Nat) (s : State) : Settles (execWellOverload t w s) := by
  unfold execWellOverload
  exact done_settles _
theorem tieAck_settles (t : Nat) (n : TieLevel) (s : State) : Settles (execTieAck t n s) := by
  unfold execTieAck
  exact done_settles _
theorem tieAckTimeout_settles (t n : Nat) (s : State) : Settles (execTieAckTimeout t n s) := by
  unfold execTieAckTimeout
  exact done_settles _
theorem tieOvercurrent_settles (t n : Nat) (s : State) : Settles (execTieOvercurrent t n s) := by
  unfold execTieOvercurrent
  exact done_settles _
theorem tieOpen_settles (t n : Nat) (s : State) : Settles (execTieOpen t n s) := by
  unfold execTieOpen
  exact done_settles _
theorem tieForcedOpen_settles (t n : Nat) (s : State) : Settles (execTieForcedOpen t n s) := by
  unfold execTieForcedOpen
  exact done_settles _
theorem pumpOpenRetire_settles (t w p : Nat) (s : State) : Settles (execPumpOpenRetire t w p s) := by
  unfold execPumpOpenRetire
  exact done_settles _
theorem senseFollow_settles (t w p : Nat) (s : State) : Settles (execSenseFollow t w p s) := by
  unfold execSenseFollow
  exact done_settles _
theorem crackSuspect_settles (t w : Nat) (s : State) : Settles (execCrackSuspect t w s) := by
  unfold execCrackSuspect
  exact done_settles _
theorem senseOpen_settles (t w : Nat) (s : State) : Settles (execSenseOpen t w s) := by
  unfold execSenseOpen
  exact done_settles _
theorem testDue_settles (t w : Nat) (s : State) : Settles (execTestDue t w s) := by
  unfold execTestDue
  exact done_settles _
theorem testReq_settles (t w : Nat) (d : Word) (s : State) : Settles (execTestReq t w d s) := by
  unfold execTestReq
  exact hostOp_settles _ _ _ _
theorem testDeferExpiry_settles (t w : Nat) (s : State) : Settles (execTestDeferExpiry t w s) := by
  unfold execTestDeferExpiry
  exact done_settles _
theorem quietTestStart_settles (t w : Nat) (s : State) : Settles (execQuietTestStart t w s) := by
  unfold execQuietTestStart
  exact done_settles _
theorem shadowTestStart_settles (t w : Nat) (s : State) : Settles (execShadowTestStart t w s) := by
  unfold execShadowTestStart
  exact done_settles _
theorem testStepEnd_settles (t w : Nat) (s : State) : Settles (execTestStepEnd t w s) := by
  unfold execTestStepEnd
  exact done_settles _
theorem testOverdue_settles (t w : Nat) (s : State) : Settles (execTestOverdue t w s) := by
  unfold execTestOverdue
  exact done_settles _
theorem retArm_settles (t : Nat) (d : Word) (s : State) : Settles (execRetArm t d s) := by
  unfold execRetArm
  exact hostOp_settles _ _ _ _
theorem returnPump_settles (t w p : Nat) (d : Word) (s : State) : Settles (execReturnPump t w p d s) := by
  unfold execReturnPump
  exact hostOp_settles _ _ _ _
theorem adWinCal_settles (t w : Nat) (d : Word) (sum : Int) (s : State) : Settles (execAdWinCal t w d sum s) := by
  unfold execAdWinCal
  exact hostOp_settles _ _ _ _
theorem calNow_settles (t : Nat) (d : Word) (s : State) : Settles (execCalNow t d s) := by
  unfold execCalNow
  exact hostOp_settles _ _ _ _
theorem sarConversion_settles (t n raw : Nat) (s : State) : Settles (execSarConversion t n raw s) := by
  unfold execSarConversion
  exact done_settles _
theorem injectTrigger_settles (t n src : Nat) (w : Nat) (s : State) : Settles (execInjectTrigger t n src w s) := by
  unfold execInjectTrigger
  exact done_settles _
theorem adGo_settles (t n : Nat) (d : Word) (s : State) : Settles (execAdGo t n d s) := by
  unfold execAdGo
  exact hostOp_settles _ _ _ _
theorem burstStart_settles (t : Nat) (s : State) : Settles (execBurstStart t s) := by
  unfold execBurstStart
  exact done_settles _
theorem burstDone_settles (t : Nat) (results : List Nat) (s : State) : Settles (execBurstDone t results s) := by
  unfold execBurstDone
  exact done_settles _
theorem adResConfigWrite_settles (t ch : Nat) (d : Word) (s : State) : Settles (execAdResConfigWrite t ch d s) := by
  unfold execAdResConfigWrite
  exact hostOp_settles _ _ _ _
theorem lpInhibitWrite_settles (t : Nat) (d : Word) (s : State) : Settles (execLpInhibitWrite t d s) := by
  unfold execLpInhibitWrite
  exact hostOp_settles _ _ _ _
theorem telemetryWindowClose_settles (t : Nat) (s : State) : Settles (execTelemetryWindowClose t s) := by
  unfold execTelemetryWindowClose
  exact done_settles _
theorem tileTelemetryReport_settles (t : Nat) (s : State) : Settles (execTileTelemetryReport t s) := by
  unfold execTileTelemetryReport
  exact done_settles _
theorem telemetrySnapshot_settles  (s : State) : Settles (execTelemetrySnapshot  s) := by
  unfold execTelemetrySnapshot
  exact done_settles _
theorem thermalRound_settles (t ch : Nat) (s : State) : Settles (execThermalRound t ch s) := by
  unfold execThermalRound
  exact done_settles _
theorem hotListEval_settles (t : Nat) (s : State) : Settles (execHotListEval t s) := by
  unfold execHotListEval
  exact done_settles _
theorem throttleStep_settles (t w : Nat) (s : State) : Settles (execThrottleStep t w s) := by
  unfold execThrottleStep
  exact done_settles _
theorem orderlyStopEnd_settles (t : Nat) (s : State) : Settles (execOrderlyStopEnd t s) := by
  unfold execOrderlyStopEnd
  exact done_settles _
theorem orderlyTimeout_settles (t : Nat) (s : State) : Settles (execOrderlyTimeout t s) := by
  unfold execOrderlyTimeout
  exact done_settles _
theorem hardStop_settles (t : Nat) (s : State) : Settles (execHardStop t s) := by
  unfold execHardStop
  exact done_settles _
theorem stopRecordSent_settles (t : Nat) (s : State) : Settles (execStopRecordSent t s) := by
  unfold execStopRecordSent
  exact done_settles _
theorem resume_settles (t : Nat) (d : Word) (s : State) : Settles (execResume t d s) := by
  unfold execResume
  exact hostOp_settles _ _ _ _
theorem clrPeak_settles (t : Nat) (d : Word) (s : State) : Settles (execClrPeak t d s) := by
  unfold execClrPeak
  exact hostOp_settles _ _ _ _
theorem restFrame_settles (t : Nat) (s : State) : Settles (execRestFrame t s) := by
  unfold execRestFrame
  exact done_settles _
theorem jobRestCommit_settles  (s : State) : Settles (execJobRestCommit  s) := by
  unfold execJobRestCommit
  exact done_settles _
theorem capHostWrite_settles (d : Word) (s : State) : Settles (execCapHostWrite d s) := by
  unfold execCapHostWrite
  exact hostOp_settles _ _ _ _
theorem jobStop_settles (d : Word) (s : State) : Settles (execJobStop d s) := by
  unfold execJobStop
  exact hostOp_settles _ _ _ _
theorem plSet_settles (d : Word) (s : State) : Settles (execPlSet d s) := by
  unfold execPlSet
  exact hostOp_settles _ _ _ _
theorem accept_settles (id : Nat) (s : State) : Settles (execAccept id s) := by
  unfold execAccept
  exact done_settles _
theorem refuse_settles (id : Nat) (s : State) : Settles (execRefuse id s) := by
  unfold execRefuse
  exact done_settles _
theorem acceptTimeout_settles (id : Nat) (s : State) : Settles (execAcceptTimeout id s) := by
  unfold execAcceptTimeout
  exact done_settles _
theorem relocDone_settles (id : Nat) (s : State) : Settles (execRelocDone id s) := by
  unfold execRelocDone
  exact done_settles _
theorem relocTimeout_settles (id : Nat) (s : State) : Settles (execRelocTimeout id s) := by
  unfold execRelocTimeout
  exact done_settles _
theorem plHold_settles (d : Word) (s : State) : Settles (execPlHold d s) := by
  unfold execPlHold
  exact hostOp_settles _ _ _ _
theorem resetMap_settles (d : Word) (s : State) : Settles (execResetMap d s) := by
  unfold execResetMap
  exact hostOp_settles _ _ _ _
theorem hostClWrite_settles (t half : Nat) (d : Word) (s : State) : Settles (execHostClWrite t half d s) := by
  unfold execHostClWrite
  exact hostOp_settles _ _ _ _
theorem hostHoldWrite_settles (t : Nat) (d : Word) (s : State) : Settles (execHostHoldWrite t d s) := by
  unfold execHostHoldWrite
  exact hostOp_settles _ _ _ _
theorem voteGate_settles (t k : Nat) (s : State) : Settles (execVoteGate t k s) := by
  unfold execVoteGate
  exact done_settles _
theorem wakeGraceExpiry_settles (t k : Nat) (s : State) : Settles (execWakeGraceExpiry t k s) := by
  unfold execWakeGraceExpiry
  exact done_settles _
theorem gateControlRelease_settles (t k : Nat) (s : State) : Settles (execGateControlRelease t k s) := by
  unfold execGateControlRelease
  exact done_settles _
theorem greqRelease_settles (t k : Nat) (s : State) : Settles (execGreqRelease t k s) := by
  unfold execGreqRelease
  exact done_settles _
theorem votedPark_settles (t w : Nat) (s : State) : Settles (execVotedPark t w s) := by
  unfold execVotedPark
  exact done_settles _
theorem primingOnWake_settles (t w : Nat) (s : State) : Settles (execPrimingOnWake t w s) := by
  unfold execPrimingOnWake
  exact done_settles _
theorem pumphouseWakeDone_settles (t : Nat) (s : State) : Settles (execPumphouseWakeDone t s) := by
  unfold execPumphouseWakeDone
  exact done_settles _
theorem nap_settles  (s : State) : Settles (execNap  s) := by
  unfold execNap
  exact done_settles _
theorem sleep_settles (d : Word) (s : State) : Settles (execSleep d s) := by
  unfold execSleep
  exact hostOp_settles _ _ _ _
theorem sleepEnter_settles  (s : State) : Settles (execSleepEnter  s) := by
  unfold execSleepEnter
  exact done_settles _
theorem sleepWake_settles (srcs : Nat) (s : State) : Settles (execSleepWake srcs s) := by
  unfold execSleepWake
  exact done_settles _
theorem faultRaise_settles (n : Nat) (s : State) : Settles (execFaultRaise n s) := by
  unfold execFaultRaise
  exact done_settles _
theorem blockResetDone_settles (blk : Nat) (s : State) : Settles (execBlockResetDone blk s) := by
  unfold execBlockResetDone
  exact done_settles _
theorem chipReaction_settles  (s : State) : Settles (execChipReaction  s) := by
  unfold execChipReaction
  exact done_settles _
theorem episodeClose_settles (d : Word) (s : State) : Settles (execEpisodeClose d s) := by
  unfold execEpisodeClose
  exact hostOp_settles _ _ _ _
theorem trapAck_settles (d : Word) (s : State) : Settles (execTrapAck d s) := by
  unfold execTrapAck
  exact hostOp_settles _ _ _ _
theorem inject_settles (d : Word) (s : State) : Settles (execInject d s) := by
  unfold execInject
  exact hostOp_settles _ _ _ _
theorem interruptClaim_settles (tgt : Nat) (s : State) : Settles (execInterruptClaim tgt s) := by
  unfold execInterruptClaim
  (repeat' split) <;> exact done_settles _
theorem interruptComplete_settles (tgt : Nat) (d : Word) (s : State) : Settles (execInterruptComplete tgt d s) := by
  unfold execInterruptComplete
  (repeat' split) <;> first | exact done_settles _ | exact hostOp_settles _ _ _ _
theorem setpend_settles (d : Word) (s : State) : Settles (execSetpend d s) := by
  unfold execSetpend
  exact hostOp_settles _ _ _ _
theorem recorderScan_settles (sfdp : Option Sfdp) (s : State) : Settles (execRecorderScan sfdp s) := by
  unfold execRecorderScan
  exact done_settles _
theorem snapshotStart_settles (trig : Nat) (s : State) : Settles (execSnapshotStart trig s) := by
  unfold execSnapshotStart
  exact done_settles _
theorem snapshotDone_settles  (s : State) : Settles (execSnapshotDone  s) := by
  unfold execSnapshotDone
  exact done_settles _
theorem heartbeat_settles  (s : State) : Settles (execHeartbeat  s) := by
  unfold execHeartbeat
  exact done_settles _
theorem recordWrite_settles  (s : State) : Settles (execRecordWrite  s) := by
  unfold execRecordWrite
  exact done_settles _
theorem recordWriteDone_settles (ok : Bool) (s : State) : Settles (execRecordWriteDone ok s) := by
  unfold execRecordWriteDone
  exact done_settles _
theorem eraseDone_settles (ok : Bool) (s : State) : Settles (execEraseDone ok s) := by
  unfold execEraseDone
  exact done_settles _
theorem freeze_settles (d : Word) (s : State) : Settles (execFreeze d s) := by
  unfold execFreeze
  exact hostOp_settles _ _ _ _
theorem thaw_settles (d : Word) (s : State) : Settles (execThaw d s) := by
  unfold execThaw
  exact hostOp_settles _ _ _ _
theorem freezeExpiry_settles  (s : State) : Settles (execFreezeExpiry  s) := by
  unfold execFreezeExpiry
  exact done_settles _
theorem erRdPtrWrite_settles (d : Word) (s : State) : Settles (execErRdPtrWrite d s) := by
  unfold execErRdPtrWrite
  exact hostOp_settles _ _ _ _
theorem erRdDataRead_settles  (s : State) : Settles (execErRdDataRead  s) := by
  unfold execErRdDataRead
  exact done_settles _
theorem fetchDone_settles  (s : State) : Settles (execFetchDone  s) := by
  unfold execFetchDone
  exact done_settles _
theorem rdAbort_settles (d : Word) (same : Bool) (s : State) : Settles (execRdAbort d same s) := by
  unfold execRdAbort
  exact hostOp_settles _ _ _ _
theorem clear_settles (d : Word) (s : State) : Settles (execClear d s) := by
  unfold execClear
  exact hostOp_settles _ _ _ _
theorem clearDone_settles  (s : State) : Settles (execClearDone  s) := by
  unfold execClearDone
  exact done_settles _
theorem clearArmExpiry_settles  (s : State) : Settles (execClearArmExpiry  s) := by
  unfold execClearArmExpiry
  exact done_settles _
theorem erCfgWrite_settles (d : Word) (s : State) : Settles (execErCfgWrite d s) := by
  unfold execErCfgWrite
  exact hostOp_settles _ _ _ _
theorem portSignalDetect_settles (n : Nat) (s : State) : Settles (execPortSignalDetect n s) := by
  unfold execPortSignalDetect
  exact done_settles _
theorem trainingDone_settles (n : Nat) (s : State) : Settles (execTrainingDone n s) := by
  unfold execTrainingDone
  exact done_settles _
theorem trainingTimeout_settles (n : Nat) (s : State) : Settles (execTrainingTimeout n s) := by
  unfold execTrainingTimeout
  exact done_settles _
theorem helloTx_settles (n : Nat) (s : State) : Settles (execHelloTx n s) := by
  unfold execHelloTx
  exact done_settles _
theorem hello_settles (n : Nat) (f : LinkFrame) (s : State) : Settles (execHello n f s) := by
  unfold execHello
  exact done_settles _
theorem auth_settles (n : Nat) (f : LinkFrame) (s : State) : Settles (execAuth n f s) := by
  unfold execAuth
  exact done_settles _
theorem isolationExpiry_settles (n : Nat) (s : State) : Settles (execIsolationExpiry n s) := by
  unfold execIsolationExpiry
  exact done_settles _
theorem portDown_settles (n : Nat) (s : State) : Settles (execPortDown n s) := by
  unfold execPortDown
  exact done_settles _
theorem portSilenceTimeout_settles (n : Nat) (s : State) : Settles (execPortSilenceTimeout n s) := by
  unfold execPortSilenceTimeout
  exact done_settles _
theorem frameForward_settles (n : Nat) (f : LinkFrame) (s : State) : Settles (execFrameForward n f s) := by
  unfold execFrameForward
  exact done_settles _
theorem frameResend_settles (n : Nat) (s : State) : Settles (execFrameResend n s) := by
  unfold execFrameResend
  exact done_settles _
theorem markTx_settles (n pos : Nat) (s : State) : Settles (execMarkTx n pos s) := by
  unfold execMarkTx
  exact done_settles _
theorem mark_settles (n : Nat) (f : LinkFrame) (pos : Nat) (s : State) : Settles (execMark n f pos s) := by
  unfold execMark
  exact done_settles _
theorem advTx_settles  (s : State) : Settles (execAdvTx  s) := by
  unfold execAdvTx
  exact done_settles _
theorem adv_settles (n : Nat) (f : LinkFrame) (s : State) : Settles (execAdv n f s) := by
  unfold execAdv
  exact done_settles _
theorem advExpiry_settles (inst : Nat) (s : State) : Settles (execAdvExpiry inst s) := by
  unfold execAdvExpiry
  exact done_settles _
theorem routeRecompute_settles  (s : State) : Settles (execRouteRecompute  s) := by
  unfold execRouteRecompute
  exact done_settles _
theorem addrConflictClear_settles  (s : State) : Settles (execAddrConflictClear  s) := by
  unfold execAddrConflictClear
  exact done_settles _
theorem followUpdate_settles (fref : Int) (s : State) : Settles (execFollowUpdate fref s) := by
  unfold execFollowUpdate
  exact done_settles _
theorem parentLost_settles  (s : State) : Settles (execParentLost  s) := by
  unfold execParentLost
  exact done_settles _
theorem timeOffsetExceeded_settles  (s : State) : Settles (execTimeOffsetExceeded  s) := by
  unfold execTimeOffsetExceeded
  exact done_settles _
theorem timeStep_settles  (s : State) : Settles (execTimeStep  s) := by
  unfold execTimeStep
  exact done_settles _
theorem join_settles (d : Word) (s : State) : Settles (execJoin d s) := by
  unfold execJoin
  exact hostOp_settles _ _ _ _
theorem leave_settles (d : Word) (s : State) : Settles (execLeave d s) := by
  unfold execLeave
  exact hostOp_settles _ _ _ _
theorem joinRetry_settles  (s : State) : Settles (execJoinRetry  s) := by
  unfold execJoinRetry
  exact done_settles _
theorem joinFrame_settles (n : Nat) (f : LinkFrame) (s : State) : Settles (execJoinFrame n f s) := by
  unfold execJoinFrame
  exact done_settles _
theorem admitFrame_settles (n : Nat) (f : LinkFrame) (s : State) : Settles (execAdmitFrame n f s) := by
  unfold execAdmitFrame
  exact done_settles _
theorem jobMembershipStart_settles  (s : State) : Settles (execJobMembershipStart  s) := by
  unfold execJobMembershipStart
  exact done_settles _
theorem leaveFrame_settles (n : Nat) (f : LinkFrame) (s : State) : Settles (execLeaveFrame n f s) := by
  unfold execLeaveFrame
  exact done_settles _
theorem leaderTimeout_settles  (s : State) : Settles (execLeaderTimeout  s) := by
  unfold execLeaderTimeout
  exact done_settles _
theorem need_settles (n : Nat) (f : LinkFrame) (s : State) : Settles (execNeed n f s) := by
  unfold execNeed
  exact done_settles _
theorem agreeDeadline_settles  (s : State) : Settles (execAgreeDeadline  s) := by
  unfold execAgreeDeadline
  exact done_settles _
theorem agree_settles (n : Nat) (f : LinkFrame) (s : State) : Settles (execAgree n f s) := by
  unfold execAgree
  exact done_settles _
theorem syncDone_settles (n : Nat) (f : LinkFrame) (s : State) : Settles (execSyncDone n f s) := by
  unfold execSyncDone
  exact done_settles _
theorem syncRel_settles (n : Nat) (f : LinkFrame) (s : State) : Settles (execSyncRel n f s) := by
  unfold execSyncRel
  exact done_settles _
theorem shareReq_settles (n : Nat) (f : LinkFrame) (s : State) : Settles (execShareReq n f s) := by
  unfold execShareReq
  exact done_settles _
theorem shareDeadline_settles  (s : State) : Settles (execShareDeadline  s) := by
  unfold execShareDeadline
  exact done_settles _
theorem share_settles (n : Nat) (f : LinkFrame) (s : State) : Settles (execShare n f s) := by
  unfold execShare
  exact done_settles _
theorem pullGo_settles (d : Word) (s : State) : Settles (execPullGo d s) := by
  unfold execPullGo
  exact hostOp_settles _ _ _ _
theorem pullOpen_settles (n : Nat) (f : LinkFrame) (s : State) : Settles (execPullOpen n f s) := by
  unfold execPullOpen
  exact done_settles _
theorem offer_settles (n : Nat) (f : LinkFrame) (s : State) : Settles (execOffer n f s) := by
  unfold execOffer
  exact done_settles _
theorem credit_settles (n : Nat) (f : LinkFrame) (s : State) : Settles (execCredit n f s) := by
  unfold execCredit
  exact done_settles _
theorem pullData_settles (n : Nat) (f : LinkFrame) (s : State) : Settles (execPullData n f s) := by
  unfold execPullData
  exact done_settles _
theorem pullExpiry_settles  (s : State) : Settles (execPullExpiry  s) := by
  unfold execPullExpiry
  exact done_settles _
theorem pullSourceTimeout_settles  (s : State) : Settles (execPullSourceTimeout  s) := by
  unfold execPullSourceTimeout
  exact done_settles _
theorem pullAbort_settles (d : Word) (same : Bool) (s : State) : Settles (execPullAbort d same s) := by
  unfold execPullAbort
  exact hostOp_settles _ _ _ _
theorem powerLoss_settles (wiped : Bool) (s : State) : Settles (execPowerLoss wiped s) := by
  unfold execPowerLoss
  exact done_settles _
theorem busRecovery_settles (t : Nat) (s : State) : Settles (execBusRecovery t s) := by
  unfold execBusRecovery
  exact done_settles _
theorem fastClockRestartDone_settles  (s : State) : Settles (execFastClockRestartDone  s) := by
  unfold execFastClockRestartDone
  exact done_settles _
theorem retArmExpiry_settles (t : Nat) (s : State) : Settles (execRetArmExpiry t s) := by
  unfold execRetArmExpiry
  exact done_settles _

end Sys2Proof.Machine
end

