-- ==== Sys2Proof/Laws/Shared.lean ====
section
/-! SUPPORT. What each operation that the families share can do: the registers and the parts of the state it may change, and its effect in the plain case. -/

namespace Sys2Proof.Machine

open Sys2Proof

variable (s : State)

/-! ### Waking -/

/-- A restart touches the fast clock alone (R315). -/
@[simp] theorem restart_reg (b : Nat) : s.restart.reg b = s.reg b := by
  simp only [State.restart]
  split <;> rfl

theorem restart_rest : { s.restart with regs := s.regs, clk := s.clk } = s := by
  simp only [State.restart]
  split <;> rfl

/-- A wake source touches HD_PWR_STAT and the fast clock alone (R315, R318). -/
theorem wake_reg (m b : Nat) (h : b ≠ HD_PWR_STAT) : (s.wake m).reg b = s.reg b := by
  simp only [State.wake]
  split
  · split
    · rfl
    · exact restart_reg s b
  split
  · rfl
  split
  · show ((s.wr HD_PWR_STAT HD_PWR_STAT.RESULT 1).wr HD_PWR_STAT HD_PWR_STAT.LAST_WAKE _).reg b = _
    rw [reg_wr_ne _ _ _ _ _ h, reg_wr_ne _ _ _ _ _ h]
  split
  · show ((s.wr HD_PWR_STAT HD_PWR_STAT.RESULT 3).wr HD_PWR_STAT HD_PWR_STAT.LAST_WAKE _).reg b = _
    rw [reg_wr_ne _ _ _ _ _ h, reg_wr_ne _ _ _ _ _ h]
  · rfl

theorem wake_rest (m : Nat) : { s.wake m with regs := s.regs, clk := s.clk } = s := by
  simp only [State.wake]
  split
  · split
    · rfl
    · exact restart_rest s
  split
  · rfl
  split
  · rfl
  split <;> rfl

/-- A waking Wellhead ignores its wake sources while it runs and no sleep is asked for (R315, R318). -/
theorem wake_awake (m : Nat) (h : s.awake) : s.wake m = s := by
  obtain ⟨h1, h2⟩ := h
  simp [State.wake, h1, h2]

/-! ### Pending interrupts and triggers -/

theorem pendOnly_reg (n b : Nat) (h1 : b ≠ IC_SRC n) (h2 : b ≠ HD_PWR_STAT) : (s.pendOnly n).reg b = s.reg b := by
  simp only [State.pendOnly]
  split
  · exact reg_wr_ne _ _ _ _ _ h1
  · rw [wake_reg _ _ _ h2]
    show ((s.wr (IC_SRC n) IC_SRC.STEER (s.steer n)).wr (IC_SRC n) IC_SRC.PEND 1).reg b = s.reg b
    rw [reg_wr_ne _ _ _ _ _ h1, reg_wr_ne _ _ _ _ _ h1]

theorem pendOnly_rest (n : Nat) : { s.pendOnly n with regs := s.regs, clk := s.clk, intc := s.intc } = s := by
  simp only [State.pendOnly]
  split
  · rfl
  · exact congrArg (fun x : State => { x with regs := s.regs, intc := s.intc })
      (wake_rest _ 0x10)

/-- The registers that a trigger's hold-off, and a counter that sticks, may touch (R12, R354). -/
def sideRegs : List Nat := [ER_STAT, IC_SAT_ADDR, IC_SRC 148, HD_PWR_STAT]

@[simp] theorem callSnap_reg (n : Nat) (tr : Trigger) (r : Word) (b : Nat) : (s.callSnap n tr r).reg b = s.reg b := rfl

theorem callSnap_rest (n : Nat) (tr : Trigger) (r : Word) : { s.callSnap n tr r with rcd := s.rcd } = s := rfl

@[simp] theorem fireSat_reg (b : Nat) : s.fireSat.reg b = s.reg b := by
  simp only [State.fireSat]
  split
  · rfl
  split <;> rfl

theorem fireSat_rest : { s.fireSat with rcd := s.rcd } = s := by
  simp only [State.fireSat]
  split
  · rfl
  split <;> rfl

theorem heldOff_reg (b : Nat) (h : b ∉ sideRegs) : s.heldOff.reg b = s.reg b := by
  simp only [sideRegs, List.mem_cons, not_or] at h
  obtain ⟨h1, h2, h3, h4, -⟩ := h
  simp only [State.heldOff]
  split
  · rfl
  split
  · split
    · rw [reg_wr_ne _ _ _ _ _ h1, reg_wr_ne _ _ _ _ _ h1]
    · simp only [State.on]
      split
      · rw [fireSat_reg, pendOnly_reg _ _ _ h3 h4, reg_wr_ne _ _ _ _ _ h2, reg_wr_ne _ _ _ _ _ h1, reg_wr_ne _ _ _ _ _ h1]
      · rw [pendOnly_reg _ _ _ h3 h4, reg_wr_ne _ _ _ _ _ h2, reg_wr_ne _ _ _ _ _ h1, reg_wr_ne _ _ _ _ _ h1]
  · exact reg_wr_ne _ _ _ _ _ h1

theorem heldOff_rest : { s.heldOff with regs := s.regs, clk := s.clk, intc := s.intc, rcd := s.rcd } = s := by
  have h := congrArg (fun x : State => { x with regs := s.regs, rcd := s.rcd })
    (pendOnly_rest (((s.wr ER_STAT ER_STAT.LOST (s.rd ER_STAT ER_STAT.LOST + 1)).wr ER_STAT ER_STAT.SAT 1).wr IC_SAT_ADDR
      IC_SAT_ADDR.ADDR ER_STAT) 148)
  simp only [State.heldOff]
  split
  · rfl
  split
  · split
    · rfl
    · simp only [State.on]
      split
      · exact (congrArg (fun x : State => { x with regs := s.regs, clk := s.clk, intc := s.intc, rcd := s.rcd })
          (fireSat_rest ((((s.wr ER_STAT ER_STAT.LOST (s.rd ER_STAT ER_STAT.LOST + 1)).wr ER_STAT ER_STAT.SAT 1).wr IC_SAT_ADDR
            IC_SAT_ADDR.ADDR ER_STAT).pendOnly 148))).trans h
      · exact h
  · rfl

theorem fireTrigger_reg (n : Nat) (o : Bool) (r : Word) (b : Nat) (h : b ∉ sideRegs) : (s.fireTrigger n o r).reg b = s.reg b := by
  simp only [State.fireTrigger]
  split
  · rfl
  split
  · rfl
  split
  · exact heldOff_reg s b h
  · rfl

theorem fireTrigger_rest (n : Nat) (o : Bool) (r : Word) :
    { s.fireTrigger n o r with regs := s.regs, clk := s.clk, intc := s.intc, rcd := s.rcd } = s := by
  simp only [State.fireTrigger]
  split
  · rfl
  split
  · rfl
  split
  · exact heldOff_rest s
  · rfl

/-- A pending source touches its own register, HD_PWR_STAT, and what its trigger touches. -/
theorem pend_reg (n b : Nat) (h1 : b ≠ IC_SRC n) (h : b ∉ sideRegs) : (s.pend n).reg b = s.reg b := by
  have h2 : b ≠ HD_PWR_STAT := by
    intro e; exact h (by simp [sideRegs, e])
  simp only [State.pend, State.on]
  split
  · rfl
  split
  · rw [fireTrigger_reg _ _ _ _ _ h, pendOnly_reg _ _ _ h1 h2]
  · exact pendOnly_reg _ _ _ h1 h2

theorem pend_rest (n : Nat) : { s.pend n with regs := s.regs, clk := s.clk, intc := s.intc, rcd := s.rcd } = s := by
  have h := congrArg (fun x : State => { x with rcd := s.rcd }) (pendOnly_rest s n)
  simp only [State.pend, State.on]
  split
  · rfl
  split
  · have h2 := congrArg (fun x : State => { x with regs := s.regs, clk := s.clk, intc := s.intc, rcd := s.rcd }) (fireTrigger_rest (s.pendOnly n) n true 0)
    exact h2.trans h
  · exact h

/-! ### Event counters -/

/-- Below its last value a counter only counts (R12). -/
theorem bump_counts (a : Nat) (h : s.rd a ctrCount + 1 < 0xFFFFFFFF) : s.bump a = s.wr a ctrCount (s.rd a ctrCount + 1) := by
  have h1 : s.rd a ctrCount ≠ 0xFFFFFFFF := by omega
  have h2 : s.rd a ctrCount + 1 ≠ 0xFFFFFFFF := by omega
  simp only [State.bump, if_neg h1, if_neg h2]

theorem bumpFld_counts (a : Nat) (f : Fld) (h : s.rd a f + 1 < 0xFFFFFFFF) : s.bumpFld a f = s.wr a f (s.rd a f + 1) := by
  have h1 : s.rd a f ≠ 0xFFFFFFFF := by omega
  have h2 : s.rd a f + 1 ≠ 0xFFFFFFFF := by omega
  simp only [State.bumpFld, if_neg h1, if_neg h2]

/-- At its last value a counter stands still (R12). -/
theorem bump_stands (a : Nat) (h : s.rd a ctrCount = 0xFFFFFFFF) : s.bump a = s := by simp only [State.bump, if_pos h]

theorem stuck_reg (a b : Nat) (h : b ∉ sideRegs) : (s.stuck a).reg b = s.reg b := by
  have h2 : b ≠ IC_SAT_ADDR := by intro e; exact h (by simp [sideRegs, e])
  have h3 : b ≠ IC_SRC 148 := by intro e; exact h (by simp [sideRegs, e])
  simp only [State.stuck]
  split
  · rfl
  · rw [pend_reg _ _ _ h3 h, reg_wr_ne _ _ _ _ _ h2]

theorem bump_reg (a b : Nat) (h1 : b ≠ a) (h : b ∉ sideRegs) : (s.bump a).reg b = s.reg b := by
  simp only [State.bump]
  split
  · rfl
  split
  · rw [stuck_reg _ _ _ h, reg_wr_ne _ _ _ _ _ h1, reg_wr_ne _ _ _ _ _ h1]
  · exact reg_wr_ne _ _ _ _ _ h1

theorem stuck_rest (a : Nat) : { s.stuck a with regs := s.regs, clk := s.clk, intc := s.intc, rcd := s.rcd } = s := by
  simp only [State.stuck]
  split
  · rfl
  · exact congrArg (fun x : State => { x with regs := s.regs }) (pend_rest (s.wr IC_SAT_ADDR ⟨23, 0⟩ a) 148)

theorem bump_rest (a : Nat) : { s.bump a with regs := s.regs, clk := s.clk, intc := s.intc, rcd := s.rcd } = s := by
  simp only [State.bump]
  split
  · rfl
  split
  · exact congrArg (fun x : State => { x with regs := s.regs })
      (stuck_rest ((s.wr a ctrCount (s.rd a ctrCount + 1)).wr a ctrSat 1) a)
  · rfl

/-! ### Raises, in-band interrupts and records -/

@[simp] theorem unhold_reg (r : Raise) (b : Nat) : (s.unhold r).reg b = s.reg b := rfl
@[simp] theorem raisePh_now (r : Raise) : (s.raisePh r).fault.now = s.fault.now := rfl
@[simp] theorem unhold_now (r : Raise) : (s.unhold r).fault.now = s.fault.now := rfl

/-- A LEVEL condition that begins is held at its place and raised; one that is held already changes nothing (R324). -/
theorem holdPh_new (r : Raise) (h : s.isHeld r = false) :
    s.holdPh r = { s with fault := { s.fault with held := s.fault.held ++ [r], inflight := s.fault.inflight ++ [r] } } := by
  simp [State.holdPh, h, State.raisePh]

theorem holdPh_held (r : Raise) (h : s.isHeld r = true) : s.holdPh r = s := by simp [State.holdPh, h]

@[simp] theorem holdPh_now (r : Raise) : (s.holdPh r).fault.now = s.fault.now := by
  simp only [State.holdPh]
  split <;> rfl

@[simp] theorem holdPh_reg (r : Raise) (b : Nat) : (s.holdPh r).reg b = s.reg b := by
  simp only [State.holdPh]
  split <;> rfl

/-- An in-band interrupt touches the sideband's own state alone (R45). -/
theorem ibi_rest (c : Nat) : { s.ibi c with sb := s.sb } = s := by
  simp only [State.ibi]
  split <;> rfl

@[simp] theorem ibi_reg (c b : Nat) : (s.ibi c).reg b = s.reg b := by
  simp only [State.ibi]
  split <;> rfl

/-- A record with a place in the queue is queued, behind the others unless it belongs to a CHIP reaction (R353, R357). -/
theorem enq_place (r : Rec) (h1 : s.flag ER_STAT ER_STAT.NOFLASH = false) (h2 : s.hasPlace r = true) :
    s.enq r = (s.setQueue (s.rcd.queue ++ [r])).restart := by
  simp [State.enq, h1, h2]

/-- An empty queue has a place for every record. -/
theorem hasPlace_empty (r : Rec) (h : s.rcd.queue = []) : s.hasPlace r = true := by simp [State.hasPlace, h]

theorem setQueue_reg (q : List Rec) (b : Nat) (h : b ≠ ER_STAT) : (s.setQueue q).reg b = s.reg b := reg_wr_ne _ _ _ _ _ h

theorem setQueue_rest (q : List Rec) : { s.setQueue q with regs := s.regs, rcd := s.rcd } = s := rfl

@[simp] theorem setQueue_queue (q : List Rec) : (s.setQueue q).rcd.queue = q := rfl

end Sys2Proof.Machine
end

