-- ==== Sys2Proof/Laws/Writes.lean ====
section
/-! SUPPORT. The laws of a host write to a register that has no row of its own: the write is the plain one of R36. -/

namespace Sys2Proof.Machine

open Sys2Proof

theorem row_place (s : State) (a : Nat) (r : RegRow) (h : s.rowOf a = some r) :
   (∃ o, place a = .wellhead o) ∨ (∃ t o, place a = .pumphouse t o) ∨ ∃ t w o, place a = .well t w o := by
  unfold State.rowOf at h
  split at h
  · exact .inl ⟨_, ‹_›⟩
  · exact .inr (.inl ⟨_, _, ‹_›⟩)
  · exact .inr (.inr ⟨_, _, _, ‹_›⟩)
  · cases h

theorem phPlace_ne (t o x : Nat) : phPlace t o ≠ .wellhead x := by
  unfold phPlace; split_ifs <;> simp

theorem place_wellhead (a o : Nat) (h : place a = .wellhead o) : o = a := by
  unfold place at h
  split_ifs at h
  · injection h with h; exact h.symm
  · exact absurd h (phPlace_ne _ _ _)

theorem rng (a b o : Nat) (h : ¬ (decide (a ≤ o) && decide (o < b)) = true) : ¬ (a ≤ o ∧ o < b) := by simpa using h

theorem writeWellhead_plain (s : State) (o : Nat) (d : Word) (hp : place o = .wellhead o) (h : ownRow o = false) : s.writeWellhead o d = s.plainWrite o d := by
    simp only [ownRow, hp, Bool.or_eq_false_iff] at h
    obtain ⟨⟨⟨⟨h1,h2⟩,h3⟩,h4⟩,h5⟩ := h
    simp only [List.contains_eq_mem, decide_eq_false_iff_not, List.mem_cons, List.not_mem_nil, or_false, not_or] at h1
    obtain ⟨g1,g2,g3,g4,g5,g6,g7,g8,g9,g10,g11,g12,g13,g14,g15,g16,g17⟩ := h1
    have e0 := rng 0x1010 0x1046 o (by rw [h2]; simp)
    have e3 := rng 0x10000 0x10200 o (by rw [h3]; simp)
    have e4 := rng _ _ o (by rw [h4]; simp)
    have e1 : ¬ (0x1010 ≤ o ∧ o < 0x102C) := fun x => e0 ⟨x.1, x.2.trans (by decide)⟩
    have e2 : ¬ (0x1030 ≤ o ∧ o < 0x1046) := fun x => e0 ⟨le_trans (by decide) x.1, x.2⟩
    have e5 : (List.range 8).find? (fun n => o == SQ_CTRL n) = none := by
      rw [List.find?_eq_none]; simpa only [List.any_eq_false] using h5
    unfold State.writeWellhead
    rw [if_neg g1, if_neg g2, if_neg e1, if_neg e2, if_neg g3, if_neg g4, if_neg e3, if_neg e4, if_neg g6, if_neg g7, if_neg g8, if_neg g9, if_neg g10, if_neg g11, if_neg g12, if_neg g13, if_neg g14, if_neg g15, if_neg g16, if_neg g17, e5]

theorem writeAt_plain (s : State) (a : Nat) (d : Word) (h : ownRow a = false) (r : RegRow) (hr : s.rowOf a = some r) : s.writeAt a d = s.plainWrite a d := by
  rcases row_place s a r hr with ⟨o, hp⟩ | ⟨t, o, hp⟩ | ⟨t, w, o, hp⟩
  · have := place_wellhead a o hp; subst this
    simp only [State.writeAt, hp]
    exact writeWellhead_plain s o d hp h
  · simp only [State.writeAt, hp, State.writePumphouse]
    simp only [ownRow, hp, Bool.or_eq_false_iff] at h
    obtain ⟨⟨h1,h2⟩,h3⟩ := h
    simp only [List.contains_eq_mem, decide_eq_false_iff_not, List.mem_cons, List.not_mem_nil, or_false, not_or] at h1
    obtain ⟨g1,g2,g3,g4,g5,g6,g7,g8,g9,g10,g11,g12⟩ := h1
    have e1 := rng _ _ a (by rw [h2]; simp)
    have e5 : (List.range 15).find? (fun w => a == AD_WIN t w) = none := by
      rw [List.find?_eq_none]; simpa only [List.any_eq_false] using h3
    have e6 : (List.range 2).find? (fun i => a == AD_INJ t i) = none := by
      simp [List.range, List.range.loop, g11, g12]
    rw [if_neg g1, if_neg g2, if_neg g3, if_neg g4, if_neg g5, if_neg g6, if_neg g7, if_neg g8, if_neg g9, if_neg g10, if_neg e1, e5, e6]
  · simp only [State.writeAt, hp, State.writeWell]
    simp only [ownRow, hp, Bool.or_eq_false_iff] at h
    obtain ⟨h1,h2⟩ := h
    simp only [List.contains_eq_mem, decide_eq_false_iff_not, List.mem_cons, List.not_mem_nil, or_false, not_or] at h1
    obtain ⟨g1,g2⟩ := h1
    simp only [List.any_eq_false, Bool.or_eq_true, not_or] at h2
    have e5 : (List.range 4).find? (fun p => a == PM_LINK t w p) = none := by
      rw [List.find?_eq_none]; exact fun x hx => (h2 x hx).1
    have e6 : (List.range 4).find? (fun p => a == PM_SVC t w p) = none := by
      rw [List.find?_eq_none]; exact fun x hx => (h2 x hx).2
    rw [if_neg g1, if_neg g2, e5, e6]

theorem ownRow_img (a : Nat) (h : ownRow a = false) : a ≠ HD_IMG_DATA := by
  intro e; subst e; revert h; decide

/-- A mapped register that no row of the table is about takes the plain write. -/
theorem hostWrite_plain (s : State) (a : Nat) (d : Word) (h : ownRow a = false) (r : RegRow) (hr : s.rowOf a = some r)
    (he : s.emptyAt a = false) (hh : s.holds a = false) : s.hostWrite a d = (rOkay, s.setReg a (plainWord r a d (s.reg a))) := by
  have hi := ownRow_img a h
  have hw := writeAt_plain s a d h r hr
  have hn : (s.rowOf a).isNone = false := by rw [hr]; rfl
  have hpw : s.plainWrite a d = s.setReg a (plainWord r a d (s.reg a)) := by simp only [State.plainWrite, hr]
  rcases row_place s a r hr with ⟨o, hp⟩ | ⟨t, o, hp⟩ | ⟨t, w, o, hp⟩ <;>
    simp only [State.hostWrite, State.writeOrHold, hp, hn, he, hh, hi, hw, hpw, if_false, Bool.false_eq_true]

/-- A host write to it: the plain word, and one answer. -/
theorem writeOp_plain (s : State) (a : Nat) (d : Word) (k : State → State) (h : ownRow a = false) (r : RegRow)
    (hr : s.rowOf a = some r) (ht : s.takes a d) (ha : (k (s.setReg a (plainWord r a d (s.reg a)))).alone)
    (hq : (k (s.setReg a (plainWord r a d (s.reg a)))).quiet) :
    writeOp s a d k = .next ((k (s.setReg a (plainWord r a d (s.reg a)))).answered rOkay 0) := by
  have hw := hostWrite_plain s a d h r hr ht.2.2.1 ht.2.2.2.2
  have hres : s.reservedWrite a d = false := by
    rcases row_place s a r hr with ⟨o, hp⟩ | ⟨t, o, hp⟩ | ⟨t, w, o, hp⟩ <;> simp only [State.reservedWrite, hp, ht.1]
  simp only [writeOp, hres, ht.2.2.2.1, hw, Bool.false_eq_true, if_false, answer_alone _ _ _ ha]
  exact done_quiet _ hq

end Sys2Proof.Machine
end

