-- ==== Sys2Proof/Tests/Slice0.lean ====
section
/-! SUPPORT. Tests of the model on small states, and for each statement a state and operands that meet what it assumes. -/

namespace Sys2Proof.Tests

open Sys2Proof Sys2Proof.Machine

set_option maxRecDepth 100000
set_option linter.unusedVariables false

/-! ### States to try the machine on -/

/-- The state after reset with some fields of registers set. -/
def W (l : List (Nat × Fld × Nat)) : State := l.foldl (fun s e => s.wr e.1 e.2.1 e.2.2) State.reset

/-- The line of the register index for an address. -/
def rowAt (a : Nat) : RegRow := (State.reset.rowOf a).getD ⟨0, 0, 0, 0, 0, 0, 0, 0, 0, 0, 0⟩

/-- The only request outstanding is a read of HD_TOPO. -/
def asked (s : State) : State := { s with port := { s.port with outstanding := [⟨false, HD_TOPO, 0, 3⟩] } }

/-- The motion of a well changed. -/
def onMo (s : State) (t w : Nat) (f : Motion → Motion) : State := s.setWell t w { s.well t w with mo := f (s.well t w).mo }
/-- The loop of a well changed. -/
def onLp (s : State) (t w : Nat) (f : Loop → Loop) : State := s.setWell t w { s.well t w with lp := f (s.well t w).lp }
/-- The sharing data of a well changed. -/
def onSh (s : State) (t w : Nat) (f : ShareX → ShareX) : State := s.setWell t w { s.well t w with sh := f (s.well t w).sh }
/-- The tests of a well changed. -/
def onTe (s : State) (t w : Nat) (f : TestX → TestX) : State := s.setWell t w { s.well t w with te := f (s.well t w).te }
/-- The telemetry of a well changed. -/
def onTel (s : State) (t w : Nat) (f : Tele → Tele) : State := s.setWell t w { s.well t w with tel := f (s.well t w).tel }
/-- The votes of a well changed. -/
def onVo (s : State) (t w : Nat) (f : VoteX → VoteX) : State := s.setWell t w { s.well t w with vo := f (s.well t w).vo }
/-- The hidden state of a pump changed. -/
def onPu (s : State) (t w p : Nat) (f : PumpX → PumpX) : State := s.setPump t w p (f (s.pump t w p))
/-- The hidden state of a cluster changed. -/
def onCu (s : State) (t k : Nat) (f : ClusterX → ClusterX) : State := s.setCluster t k (f (s.cluster t k))
/-- The hidden state of a tile changed. -/
def onTi (s : State) (t : Nat) (f : TileX → TileX) : State := s.setTile t (f (s.tile t))
/-- A well of a configured tile in a stage, with two pumps LIVE, and an image ACTIVE. -/
def wet (t w st : Nat) : State :=
  W [(HD_IMG_STAT, HD_IMG_STAT.STATE, 4), (WL_SETPT t w, WL_SETPT.STAGE, st), (PM_STAT t w 0, PM_STAT.SERVICE, 1), (PM_STAT t w 1, PM_STAT.SERVICE, 1)]
/-- More fields set. -/
def also (s : State) (l : List (Nat × Fld × Nat)) : State := l.foldl (fun s e => s.wr e.1 e.2.1 e.2.2) s
/-- Sequencer `n` runs a program of one instruction on tile 1. -/
def running (n i : Nat) (s : State) : State :=
  also { (s.setSq n { s.sq n with tiles := [1], narrow := 0xF }) with img := { s.img with programs := [(1, [i])] } }
    [(SQ_STAT n, SQ_STAT.PROG, 1), (SQ_STAT n, SQ_STAT.STATE, 1)]
/-- A frame as a neighbour sends it. -/
def fr (ty dst src cls : Nat) (ws : List Word) : LinkFrame := sealFrame (mkFrame ty dst src cls ws) 0 0
/-- Port `n` is UP, towards instance 9, which the route of instance 9 leads to. -/
def upOn (n : Nat) (s : State) : State :=
  also s [(CL_PORT n, CL_PORT.STATE, poUp), (CL_PORT n, CL_PORT.NEIGHBOUR, 9), (CL_ROUTE 9, CL_ROUTE.PORTS, 2 ^ n), (CL_ROUTE 9, CL_ROUTE.HOPS, 1)]
/-- A thermal channel changed. -/
def onCh (s : State) (t ch : Nat) (f : Chan → Chan) : State := s.updChan t ch f
/-- The job changed. -/
def onJob (s : State) (f : JobX → JobX) : State := s.updJob f
/-- The recorder changed. -/
def onRcd (s : State) (f : Recorder → Recorder) : State := { s with rcd := f s.rcd }
/-- A wafer in FIELD whose flash can be read. -/
def inField (s : State) : State := { s with fuses := { s.fuses with lcState := 2 }, img := { s.img with lanes := 15 } }
/-- A governor with a rest duty of its job, a gate policy, a wafer limit in 1/16 W, and the reports of one tile. -/
def governed (r pol lim : Nat) : State :=
  onTi (W [(HD_TELE_STAT, HD_TELE_STAT.P_IN, 537600), (CG_CFG0, CG_CFG0.CAL_SHIFT, 2), (CG_CFG0, CG_CFG0.MARGIN, 5), (CG_CFG0, CG_CFG0.GATE_POLICY, pol),
    (CG_CFG1, CG_CFG1.EFF_NOM, 230), (CG_CAL, CG_CAL.K, 0x4000), (CG_STAT, CG_STAT.SOLO, 1), (CG_STAT, CG_STAT.R_JOB, r), (CG_CAP, CG_CAP.WAFER_LIM, lim),
    (PH_TILE_CAP 1, PH_TILE_CAP.INPUT_CAP, 6000)]) 1 (fun x => { x with
      tt := { x.tt with taken := some { win := 1, pIn := 5, pOut := 4, eIn := 0, eOut := 0, dFull := 480000000, dAct := 400000000 } }
      tr := { want := r } })
/-- Well 3 of tile 1 has a deficit by its forecast. -/
def deficient : State := onSh (also (wet 1 3 5) [(WL_TIE 1 3, WL_TIE.DEFICIT, 1)]) 1 3 (fun x => { x with fcast := 10 })
/-- Gate 7 is the next of well 3's stream, and cluster 32 of tile 1 a spare. -/
def spareful : State :=
  onTi (also (wet 1 4 5) [(PL_CFG, PL_CFG.RELOC_MAX, 1), (PL_MAP 128, PL_MAP.STATE, 1), (WL_SETPT 1 12, WL_SETPT.STAGE, 5), (PM_STAT 1 12 0, PM_STAT.SERVICE, 1)])
    1 (fun x => { x with ds := { streams := [(3, { st := 3, p := { gate := some 7 } })] } })

/-- A frame of `n` payload words. -/
def frame (n : Nat) : LinkFrame := { header := 0, payload := List.replicate n 0, trailer := 0 }
/-- Eight converter codes. -/
def codes (x : Int) : List Int := x :: List.replicate 7 0

/-! Commands whose every operand is the largest it may be, and commands with one operand beyond its range, one for each check. -/

def widest0 : List Instr :=
  [.registerWrite 0xFFFFFF 0, .statusClear 0xFFFFFF 0 0, .counterClear 0xFFFFFF 0 false, .hostRequest false 0xFFFFFF 0 7,
   .broadcastWrite 1048575 0 [0, 95], .wlLimitWrite 95 14 0, .sbRead 0xFFFFFF, .stopRequest 255, .enec 255, .disec 255, .entdaa
   255, .setdasa 255, .setnewda 255, .setmwl 65535, .setmrl 65535, .rstact 255, .unsupportedCcc 255, .dbgRegRead 0x1FFFFFF, .dbgAuth,
   .dbgRegWrite 0x1FFFFFF 0, .lcStageWrite 21 0, .applyFail 95, .safePrimeStep 95, .safeParkTimeout 95, .keeperEnable 95,
   .keeperHandover 95, .cal 95 14 3 0, .offsetMeasureDone 95 14 3 0 0, .tsnsPeriod 95 14 3 5 5, .tsnsTimeout 95 14 3,
   .pumpFaultWireFall 95 14 3 false, .faultClassify 95 14 3 0, .pumpRearm 95 14 3, .rearmPenRelease 95 14 3, .rearmCheck 95 14
   3, .pumpFaultWireRise 95 14 3, .softShortTrip 95 14 3, .busFault 95 false, .periodOpening 95 14, .innerSampleClose 95 14
   [-128, 127, 0, 0, 0, 0, 0, 0], .innerEvaluation 95 14]

def widest1 : List Instr :=
  [.residueVerdict 95 14 false false false, .evaluationRetry 95 14 false false false, .outerEvaluation 95 14 [[1, 2, 3, 4]],
   .selfTest 95 1 false, .stest 95 0, .modeReqWrite 95 0, .modeChangeApply 95, .holdAssert 95 14 0, .holdRelease 95 14 0,
   .holdTimeout 95 14, .ovSuppress 95 14 0, .ovSuppressEnd 95 14 0, .profileTick 95 14, .vCmdWrite 95 14 0, .hystTurnOn 95 14 0,
   .hystPulseEnd 95 14 3 ⟨0, 0⟩, .hystPumpReady 95 14 3, .handover 95 14, .sqStart 7 0, .sqAbort 7, .sqEnd 7, .sqSelt 7, .sqSetv 7,
   .sqProf 7, .sqPrime 7, .sqHand 7, .sqHyst 7, .sqPark 7, .sqWait 7, .sqJmp 7, .sqClgt 7, .sqTie 7, .sqPmode 7, .sqTrk 7,
   .sqTest 7, .sqEvent 7, .instructionComplete 7, .instructionTimeout 7, .primeAdmit 95 14, .primeResume 95 14]

def widest2 : List Instr :=
  [.parkTimeout 95 14, .capabilityEvent 8191, .scheduleWindowWrite 95 32767 0, .bind 95 0, .bindDone 95, .unbind 95 0 false,
   .dsStart 95 0, .dsStop 95 0, .playStart 95, .playStop 95, .playerBeat 95, .noticePost 95 95 127 0, .noticeCollect 95 95 127,
   .gateComplete 95 255, .waferGateReport 95 255, .waferGateComplete 255, .gateRelease 95 255, .gateTimeout 95 14, .force 95 0,
   .wellOverload 95 14, .tieAck 95 ⟨11, true⟩, .tieAckTimeout 95 11, .tieOvercurrent 95 11, .tieOpen 95 11, .tieForcedOpen 95 11,
   .pumpOpenRetire 95 14 3, .senseFollow 95 14 3, .crackSuspect 95 14, .senseOpen 95 14, .testDue 95 14, .testReq 95 14 0,
   .testDeferExpiry 95 14, .quietTestStart 95 14, .shadowTestStart 95 14, .testStepEnd 95 14, .testOverdue 95 14, .retArm 95 0,
   .returnPump 95 14 3 0, .adWinCal 95 14 0 0, .calNow 95 0]

def widest3 : List Instr :=
  [.sarConversion 95 3 4095, .injectTrigger 95 1 15 14, .adGo 95 1 0, .burstStart 95, .burstDone 95 [4095], .adResConfigWrite 95
   127 0, .lpInhibitWrite 95 0, .telemetryWindowClose 95, .tileTelemetryReport 95, .thermalRound 95 127, .hotListEval 95,
   .throttleStep 95 14, .orderlyStopEnd 95, .orderlyTimeout 95, .hardStop 95, .stopRecordSent 95, .resume 95 0, .clrPeak 95 0,
   .restFrame 95, .accept 4095, .refuse 4095, .acceptTimeout 4095, .relocDone 4095, .relocTimeout 4095, .hostClWrite 95 1 0,
   .hostHoldWrite 95 0, .voteGate 95 95, .wakeGraceExpiry 95 95, .gateControlRelease 95 95, .greqRelease 95 95, .votedPark 95
   14, .primingOnWake 95 14, .pumphouseWakeDone 95, .sleepWake 31, .faultRaise 511, .blockResetDone 102, .interruptClaim 7,
   .interruptComplete 7 0, .snapshotStart 511, .portSignalDetect 3]

def widest4 : List Instr :=
  [.trainingDone 3, .trainingTimeout 3, .helloTx 3, .hello 3 (frame 128), .auth 3 (frame 128), .isolationExpiry 3, .portDown 3,
   .portSilenceTimeout 3, .frameForward 3 (frame 128), .frameResend 3, .markTx 3 15999, .mark 3 (frame 128) 15999, .adv 3 (frame
   128), .advExpiry 4095, .joinFrame 3 (frame 128), .admitFrame 3 (frame 128), .leaveFrame 3 (frame 128), .need 3 (frame 128),
   .agree 3 (frame 128), .syncDone 3 (frame 128), .syncRel 3 (frame 128), .shareReq 3 (frame 128), .share 3 (frame 128),
   .pullOpen 3 (frame 128), .offer 3 (frame 128), .credit 3 (frame 128), .pullData 3 (frame 128), .busRecovery 95, .retArmExpiry
   95]

def tooWide0 : List Instr :=
  [.registerWrite 0x1000000 0, .statusClear 0x1000000 0 0, .counterClear 0x1000000 0 false, .hostRequest false 0x1000000 0 7,
   .hostRequest false 0xFFFFFF 0 8, .broadcastWrite 1048576 0 [0, 95], .broadcastWrite 1048575 0 [96], .wlLimitWrite 96 14 0,
   .wlLimitWrite 95 15 0, .sbRead 0x1000000, .stopRequest 256, .enec 256, .disec 256, .entdaa 256, .setdasa 256, .setnewda 256,
   .setmwl 65536, .setmrl 65536, .rstact 256, .unsupportedCcc 256, .dbgRegRead 0x2000000, .dbgRegWrite 0x2000000 0,
   .lcStageWrite 22 0, .applyFail 96, .safePrimeStep 96, .safeParkTimeout 96, .keeperEnable 96, .keeperHandover 96, .cal 96 14 3
   0, .cal 95 15 3 0, .cal 95 14 4 0, .offsetMeasureDone 96 14 3 0 0, .offsetMeasureDone 95 15 3 0 0, .offsetMeasureDone 95 14 4
   0 0, .tsnsPeriod 96 14 3 5 5, .tsnsPeriod 95 15 3 5 5, .tsnsPeriod 95 14 4 5 5, .tsnsPeriod 95 14 3 6 5, .tsnsTimeout 96 14
   3, .tsnsTimeout 95 15 3]

def tooWide1 : List Instr :=
  [.tsnsTimeout 95 14 4, .pumpFaultWireFall 96 14 3 false, .pumpFaultWireFall 95 15 3 false, .pumpFaultWireFall 95 14 4 false,
   .faultClassify 96 14 3 0, .faultClassify 95 15 3 0, .faultClassify 95 14 4 0, .pumpRearm 96 14 3, .pumpRearm 95 15 3,
   .pumpRearm 95 14 4, .rearmPenRelease 96 14 3, .rearmPenRelease 95 15 3, .rearmPenRelease 95 14 4, .rearmCheck 96 14 3,
   .rearmCheck 95 15 3, .rearmCheck 95 14 4, .pumpFaultWireRise 96 14 3, .pumpFaultWireRise 95 15 3, .pumpFaultWireRise 95 14 4,
   .softShortTrip 96 14 3, .softShortTrip 95 15 3, .softShortTrip 95 14 4, .busFault 96 false, .periodOpening 96 14,
   .periodOpening 95 15, .innerSampleClose 96 14 (codes 127), .innerSampleClose 95 15 (codes (-128)), .innerSampleClose 95 14
   (codes 128), .innerSampleClose 95 14 (codes (-129)), .innerSampleClose 95 14 [0, 0, 0, 0, 0, 0, 0], .innerEvaluation 96 14, .innerEvaluation 95 15, .residueVerdict 96 14 false false
   false, .residueVerdict 95 15 false false false, .evaluationRetry 96 14 false false false, .evaluationRetry 95 15 false false
   false, .outerEvaluation 96 14 [[1, 2, 3, 4]], .outerEvaluation 95 15 [[1, 2, 3, 4]], .outerEvaluation 95 14 [[], [], [], [],
   []], .outerEvaluation 95 14 [[1, 2, 3]], .selfTest 96 1 false]

def tooWide2 : List Instr :=
  [.selfTest 95 2 false, .stest 96 0, .modeReqWrite 96 0, .modeChangeApply 96, .holdAssert 96 14 0, .holdAssert 95 15 0,
   .holdRelease 96 14 0, .holdRelease 95 15 0, .holdTimeout 96 14, .holdTimeout 95 15, .ovSuppress 96 14 0, .ovSuppress 95 15 0,
   .ovSuppressEnd 96 14 0, .ovSuppressEnd 95 15 0, .profileTick 96 14, .profileTick 95 15, .vCmdWrite 96 14 0, .vCmdWrite 95 15
   0, .hystTurnOn 96 14 0, .hystTurnOn 95 15 0, .hystPulseEnd 96 14 3 ⟨0, 0⟩, .hystPulseEnd 95 15 3 ⟨0, 0⟩, .hystPulseEnd 95 14 4 ⟨0, 0⟩,
   .hystPumpReady 96 14 3, .hystPumpReady 95 15 3, .hystPumpReady 95 14 4, .handover 96 14, .handover 95 15, .sqStart 8 0,
   .sqAbort 8, .sqEnd 8, .sqSelt 8, .sqSetv 8, .sqProf 8, .sqPrime 8, .sqHand 8, .sqHyst 8, .sqPark 8, .sqWait 8, .sqJmp 8]

def tooWide3 : List Instr :=
  [.sqClgt 8, .sqTie 8, .sqPmode 8, .sqTrk 8, .sqTest 8, .sqEvent 8, .instructionComplete 8, .instructionTimeout 8, .primeAdmit
   96 14, .primeAdmit 95 15, .primeResume 96 14, .primeResume 95 15, .parkTimeout 96 14, .parkTimeout 95 15, .capabilityEvent
   8192, .scheduleWindowWrite 96 32767 0, .scheduleWindowWrite 95 32768 0, .bind 96 0, .bindDone 96, .unbind 96 0 false,
   .dsStart 96 0, .dsStop 96 0, .playStart 96, .playStop 96, .playerBeat 96, .noticePost 96 95 127 0, .noticePost 95 96 127 0,
   .noticePost 95 95 128 0, .noticeCollect 96 95 127, .noticeCollect 95 96 127, .noticeCollect 95 95 128, .gateComplete 96 255,
   .gateComplete 95 256, .waferGateReport 96 255, .waferGateReport 95 256, .waferGateComplete 256, .gateRelease 96 255,
   .gateRelease 95 256, .gateTimeout 96 14, .gateTimeout 95 15]

def tooWide4 : List Instr :=
  [.force 96 0, .wellOverload 96 14, .wellOverload 95 15, .tieAck 96 ⟨11, true⟩, .tieAck 95 ⟨12, true⟩, .tieAckTimeout 96 11, .tieAckTimeout 95
   12, .tieOvercurrent 96 11, .tieOvercurrent 95 12, .tieOpen 96 11, .tieOpen 95 12, .tieForcedOpen 96 11, .tieForcedOpen 95 12,
   .pumpOpenRetire 96 14 3, .pumpOpenRetire 95 15 3, .pumpOpenRetire 95 14 4, .senseFollow 96 14 3, .senseFollow 95 15 3,
   .senseFollow 95 14 4, .crackSuspect 96 14, .crackSuspect 95 15, .senseOpen 96 14, .senseOpen 95 15, .testDue 96 14, .testDue
   95 15, .testReq 96 14 0, .testReq 95 15 0, .testDeferExpiry 96 14, .testDeferExpiry 95 15, .quietTestStart 96 14,
   .quietTestStart 95 15, .shadowTestStart 96 14, .shadowTestStart 95 15, .testStepEnd 96 14, .testStepEnd 95 15, .testOverdue
   96 14, .testOverdue 95 15, .retArm 96 0, .returnPump 96 14 3 0, .returnPump 95 15 3 0]

def tooWide5 : List Instr :=
  [.returnPump 95 14 4 0, .adWinCal 96 14 0 0, .adWinCal 95 15 0 0, .calNow 96 0, .sarConversion 96 3 4095, .sarConversion 95 4
   4095, .sarConversion 95 3 4096, .injectTrigger 96 1 15 14, .injectTrigger 95 2 15 14, .injectTrigger 95 1 16 14,
   .injectTrigger 95 1 15 15, .adGo 96 1 0, .adGo 95 2 0, .burstStart 96, .burstDone 96 [4095], .burstDone 95 [4096],
   .adResConfigWrite 96 127 0, .adResConfigWrite 95 128 0, .lpInhibitWrite 96 0, .telemetryWindowClose 96, .tileTelemetryReport
   96, .thermalRound 96 127, .thermalRound 95 128, .hotListEval 96, .throttleStep 96 14, .throttleStep 95 15, .orderlyStopEnd
   96, .orderlyTimeout 96, .hardStop 96, .stopRecordSent 96, .resume 96 0, .clrPeak 96 0, .restFrame 96, .accept 4096, .refuse
   4096, .acceptTimeout 4096, .relocDone 4096, .relocTimeout 4096, .hostClWrite 96 1 0, .hostClWrite 95 2 0]

def tooWide6 : List Instr :=
  [.hostHoldWrite 96 0, .voteGate 96 95, .voteGate 95 96, .wakeGraceExpiry 96 95, .wakeGraceExpiry 95 96, .gateControlRelease 96
   95, .gateControlRelease 95 96, .greqRelease 96 95, .greqRelease 95 96, .votedPark 96 14, .votedPark 95 15, .primingOnWake 96
   14, .primingOnWake 95 15, .pumphouseWakeDone 96, .sleepWake 32, .faultRaise 512, .blockResetDone 96, .blockResetDone 103,
   .interruptClaim 8, .interruptComplete 8 0, .snapshotStart 512, .portSignalDetect 4, .trainingDone 4, .trainingTimeout 4,
   .helloTx 4, .hello 4 (frame 128), .hello 3 (frame 129), .auth 4 (frame 128), .auth 3 (frame 129), .isolationExpiry 4,
   .portDown 4, .portSilenceTimeout 4, .frameForward 4 (frame 128), .frameForward 3 (frame 129), .frameResend 4, .markTx 4
   15999, .markTx 3 16000, .mark 4 (frame 128) 15999, .mark 3 (frame 129) 15999, .mark 3 (frame 128) 16000]

def tooWide7 : List Instr :=
  [.adv 4 (frame 128), .adv 3 (frame 129), .advExpiry 4096, .joinFrame 4 (frame 128), .joinFrame 3 (frame 129), .admitFrame 4
   (frame 128), .admitFrame 3 (frame 129), .leaveFrame 4 (frame 128), .leaveFrame 3 (frame 129), .need 4 (frame 128), .need 3
   (frame 129), .agree 4 (frame 128), .agree 3 (frame 129), .syncDone 4 (frame 128), .syncDone 3 (frame 129), .syncRel 4 (frame
   128), .syncRel 3 (frame 129), .shareReq 4 (frame 128), .shareReq 3 (frame 129), .share 4 (frame 128), .share 3 (frame 129),
   .pullOpen 4 (frame 128), .pullOpen 3 (frame 129), .offer 4 (frame 128), .offer 3 (frame 129), .credit 4 (frame 128), .credit
   3 (frame 129), .pullData 4 (frame 128), .pullData 3 (frame 129), .busRecovery 96, .retArmExpiry 96]

theorem test_widest_accepted :
    [widest0, widest1, widest2, widest3, widest4].all (fun l => l.all (fun c => c.wellFormed)) = true := by decide

theorem test_too_wide_refused :
    [tooWide0, tooWide1, tooWide2, tooWide3, tooWide4, tooWide5, tooWide6, tooWide7].all (fun l => l.all (fun c => !c.wellFormed)) = true := by decide
/-! ### Worked examples of the spec -/

/-- The gains, plan, held state and feedforward of 05_control_engine.md's worked example, before sample n. -/
def exampleIn : EvalIn :=
  { kp := 0xDC003000, ki := 0xCC004000, kd := 0xE4003000, ad := 0x4000, kaw := 0xFC004000, kff := 0xB4004000
    exp := 0x0181FB6036FB603C
    l0 := WL_LOOP0.E_ERR.seti (WL_LOOP0.E_I.seti (WL_LOOP0.E_D.seti (WL_LOOP0.M_E.seti 0 26624) (-8)) (-7)) 3
    l1 := WL_LOOP1.M_I.seti (WL_LOOP1.M_D.seti 0 20480) 16384
    vIn := 750 * 65536, bus := 6000, iFF := 48 * 64, dmin := 0, dmax := 16384, forced := none, entry := none }
def sampleN : EvalOut := evalPid (-148) exampleIn
def sampleN1 : EvalOut := evalPid (-704) { exampleIn with l0 := sampleN.l0, l1 := sampleN.l1 }

/-- Sample n: u = 9,729/65,536, WL_LOOP0 as printed, no saturation (05_control_engine.md). -/
theorem test_sample_n : sampleN.duty = 9729 ∧ sampleN.l0 = 0x139E7AF84A006F00 ∧ sampleN.sat = 0 ∧ sampleN.l1 = 0x49404C004C020000 := by decide

/-- Sample n + 1: the duty is clamped to 16,384 and w is -1,557; sample n + 2's integrator is 30,688 at E = -8. -/
theorem test_sample_n1 : sampleN1.duty = 16384 ∧ signed 16 (WL_LOOP1.M_W.get sampleN1.l1) = -1557 ∧ sampleN1.sat = 0 := by decide
theorem test_sample_n2 :
    WL_LOOP1.M_I.get (evalPid (-640) { exampleIn with l0 := sampleN1.l0, l1 := sampleN1.l1 }).l1 = 30688 := by decide

/-- Pump 2 of well 7: 169 edges read 13.375 A, 170 read 13.75 A, and AVG64 864 (04_pump_links.md). -/
theorem test_pump_current : senseCurrent 6000 0x800 7 1 (256 * 169 - 34133) = 856 ∧ senseCurrent 6000 0x800 7 1 (256 * 170 - 34133) = 880 ∧
    senseCurrent 6000 0x800 7 48 (256 * 8128 - 48 * 34133) = 864 := by decide

/-- The ticks of a retarget mid-slew, x, v and a in 2^-16 of their units (06_setpoint_priming.md). -/
def runSet : Limits := ⟨4 * 65536, 4 * 65536, 2 * 65536, 8, 128⟩
theorem test_profile_tick_1 : profStep runSet (800 * 65536) (750 * 65536) 0 0 = (750 * 65536 + 2048, 16384, 131072) := by decide
theorem test_profile_tick_11 : profStep runSet (756 * 65536) (753 * 65536) (4 * 65536) 0 = (753 * 65536 + 30720, 245760, -131072) := by decide

/-- The eight codes of one sample leave AD_WIN[7] of tile 41 at 0x5DC0_00ED_8000_8000 (09_converters_telemetry.md). -/
def dip : State :=
  onLp (onMo (also (wet 41 7 5) [(AD_WIN 41 7, AD_WIN.RUN, 1), (AD_WIN 41 7, AD_WIN.VC, 1500)]) 41 7 (fun m => { m with x := 750 * 65536 })) 41 7
    (fun l => { l with vMean := 0 })
theorem test_window : (match execInnerSampleClose 41 7 [-16, -18, -19, -20, -19, -19, -19, -18] dip with
    | .next t => t.reg (AD_WIN 41 7) | _ => 0) = 0x5DC000ED80008000 := by decide

/-- Wafer A's calibration and least rest duty in the cap example (11_capping_placement.md): K = 16,548 and r_need = 3, at 1/16 W. -/
def capped : State :=
  W [(HD_TELE_STAT, HD_TELE_STAT.P_IN, 537600), (CG_CFG0, CG_CFG0.CAL_SHIFT, 2), (CG_CFG0, CG_CFG0.MARGIN, 5), (CG_CAL, CG_CAL.K, 0x4000)]
theorem test_calibration : capped.newGain 1 480000 (30000 * 16 * 65536) 38400 = 16548 := by decide
theorem test_rest_duty :
    leastDuty (predict (38400 * 65536) 16548 (32000 * 16 * 65536)) (capped.margined 480000 1) = some 3 := by decide

/-- The MOVE message of 11_capping_placement.md's example. -/
theorem test_order_message : orderMsg 1 0x01C 41 62 62 47 0x22 = 0x101C297CF9791000 := by decide

/-- The addresses of 16_register_index.md's example, and WL_PWM and PM_ISNS[2] as they reset. -/
theorem test_addresses : WL_PWM 41 7 = 0x391720 ∧ PM_ISNS 41 7 2 = 0x391749 ∧ AD_WIN 41 7 = 0x390C07 ∧ WL_TELE0 41 7 = 0x391770 ∧
    TH_CH 41 14 = 0x39080E ∧ PM_LINK 41 7 2 = 0x391748 := by decide
theorem test_reset_words : State.reset.reg (WL_PWM 41 7) = 0x0000700020000000 ∧ State.reset.reg (PM_ISNS 41 7 2) = 0x0000000085550000 := by decide

/-- The MARKs of 15_coordination_link.md's example: twice the delay of 41.5 ns and the offset of -1.75 ns, in 1/64 ns; bits 13 to 0
of a stamp count 1/64 ns within the beat. -/
theorem test_mark : markDelay (4 * 2 ^ 14 + 0) 0 2768 (4 * 2 ^ 14 + 2544) = 2 * 2656 ∧
    markOffset (4 * 2 ^ 14 + 0) 0 2768 (4 * 2 ^ 14 + 2544) = -(2 * 112) := by decide

/-- VL[7] at a steady code of 3,046 with AVG_K 4 and SHIFT 2: RESULT 12,184 (09_converters_telemetry.md). -/
def averaged : State := (List.range 16).foldl (fun s _ => s.accumulate 41 7 3046) (W [(AD_RES 41 7, AD_RES.AVG_K, 4), (AD_RES 41 7, AD_RES.SHIFT, 2)])
theorem test_average : averaged.rd (AD_RES 41 7) AD_RES.RESULT = 12184 := by decide

theorem met_EmptyQueueTicks :
    (∃ (s : State), s.pending = [] ∧ 1 < s.clk.beatLeft) :=
  ⟨(State.reset), by decide⟩

theorem met_CollectorEndsCommand :
    (∃ (s : State), s.quiet) ∧
    (∃ (s : State) (r : Raise), s.fault.now = [r] ∧ (({ s with fault := { s.fault with now := [] } } : State).collect r).quiet) ∧
    (∃ (s : State) (n : Nat), 5 ≤ n ∧ n ≤ 31 ∧ s.active = false) ∧
    (∃ (s : State) (n : Nat), 5 ≤ n ∧ n ≤ 31 ∧ s.active = false) ∧
    (∃ (s : State) (n : Nat), (n ≤ 4 ∨ s.active = true)) ∧
    (∃ (s : State) (n : Nat), (n ≤ 4 ∨ s.active = true)) ∧
    (∃ (s : State) (r : Raise), s.fault.now = [r] ∧ r.src < 32 ∧ 5 ≤ r.src ∧ (s.react r.src).level ≤ 3 ∧ (s.react r.src).prog =
      0 ∧ s.rd (FC_COUNT r.src) ctrCount + 1 < 0xFFFFFFFF ∧ s.flag HD_IMG_STAT HD_IMG_STAT.SAFE = false ∧ s.awake ∧
      s.rcd.triggers = [] ∧ s.flag FC_STAT FC_STAT.OPEN = false ∧ s.flag ER_STAT ER_STAT.NOFLASH = false ∧ s.rcd.queue = []) ∧
    (∃ (s : State) (r : Raise), s.fault.now = [r] ∧ r.src < 32 ∧ 5 ≤ r.src ∧ (s.react r.src).level ≤ 3 ∧ (s.react r.src).prog =
      0 ∧ s.rd (FC_COUNT r.src) ctrCount + 1 < 0xFFFFFFFF ∧ s.flag HD_IMG_STAT HD_IMG_STAT.SAFE = false ∧ s.awake ∧
      s.rcd.triggers = [] ∧ s.flag FC_STAT FC_STAT.OPEN = false ∧ s.flag ER_STAT ER_STAT.NOFLASH = false ∧ s.rcd.queue = [] ∧
      (s.react r.src).level = 0) ∧
    (∃ (s : State) (r : Raise), s.fault.now = [r] ∧ r.src < 32 ∧ 5 ≤ r.src ∧ (s.react r.src).level ≤ 3 ∧ (s.react r.src).prog =
      0 ∧ s.rd (FC_COUNT r.src) ctrCount + 1 < 0xFFFFFFFF ∧ s.flag HD_IMG_STAT HD_IMG_STAT.SAFE = false ∧ s.awake ∧
      s.rcd.triggers = [] ∧ s.flag FC_STAT FC_STAT.OPEN = false ∧ s.flag ER_STAT ER_STAT.NOFLASH = false ∧ s.rcd.queue = []) ∧
    (∃ (s : State) (r : Raise), s.fault.now = [r] ∧ r.src < 32 ∧ 5 ≤ r.src ∧ (s.react r.src).level ≤ 3 ∧ (s.react r.src).prog =
      0 ∧ s.rd (FC_COUNT r.src) ctrCount + 1 < 0xFFFFFFFF ∧ s.flag HD_IMG_STAT HD_IMG_STAT.SAFE = false ∧ s.awake ∧
      s.rcd.triggers = [] ∧ s.flag FC_STAT FC_STAT.OPEN = false ∧ s.flag ER_STAT ER_STAT.NOFLASH = false ∧ s.rcd.queue = []) ∧
    (∃ (s : State) (r : Raise), s.fault.now = [r] ∧ r.src < 32 ∧ 5 ≤ r.src ∧ (s.react r.src).level ≤ 3 ∧ (s.react r.src).prog =
      0 ∧ s.rd (FC_COUNT r.src) ctrCount + 1 < 0xFFFFFFFF ∧ s.flag HD_IMG_STAT HD_IMG_STAT.SAFE = false ∧ s.awake ∧
      s.rcd.triggers = []) ∧
    (∃ (s : State) (r : Raise), s.fault.now = [r] ∧ r.src < 32 ∧ 5 ≤ r.src ∧ (s.react r.src).level ≤ 3 ∧ (s.react r.src).prog =
      0 ∧ s.rd (FC_COUNT r.src) ctrCount + 1 < 0xFFFFFFFF ∧ s.flag HD_IMG_STAT HD_IMG_STAT.SAFE = false ∧ s.awake ∧
      s.rcd.triggers = [] ∧ s.flag FC_STAT FC_STAT.OPEN = true) ∧
    (∃ (s : State) (r : Raise), s.fault.now = [r] ∧ r.src < 32 ∧ 5 ≤ r.src ∧ (s.react r.src).level ≤ 3 ∧ (s.react r.src).prog =
      0 ∧ s.rd (FC_COUNT r.src) ctrCount + 1 < 0xFFFFFFFF ∧ s.flag HD_IMG_STAT HD_IMG_STAT.SAFE = false ∧ s.awake ∧
      s.rcd.triggers = [] ∧ s.flag FC_STAT FC_STAT.OPEN = true ∧ s.rd FC_STAT FC_STAT.LOGN < 16) ∧
    (∃ (s : State) (r : Raise), s.fault.now = [r] ∧ r.src < 32 ∧ 5 ≤ r.src ∧ (s.react r.src).level ≤ 3 ∧ (s.react r.src).prog =
      0 ∧ s.rd (FC_COUNT r.src) ctrCount + 1 < 0xFFFFFFFF ∧ s.flag HD_IMG_STAT HD_IMG_STAT.SAFE = false ∧ s.awake ∧
      s.rcd.triggers = [] ∧ s.flag FC_STAT FC_STAT.OPEN = true ∧ 16 ≤ s.rd FC_STAT FC_STAT.LOGN) ∧
    (∃ (s : State) (r : Raise), s.fault.now = [r] ∧ r.src < 32 ∧ 5 ≤ r.src ∧ (s.react r.src).level ≤ 3 ∧ (s.react r.src).prog =
      0 ∧ s.rd (FC_COUNT r.src) ctrCount + 1 < 0xFFFFFFFF ∧ s.flag HD_IMG_STAT HD_IMG_STAT.SAFE = false ∧ s.awake ∧
      s.rcd.triggers = [] ∧ s.flag FC_STAT FC_STAT.OPEN = true ∧ s.rd FC_STAT FC_STAT.RANK < (s.react r.src).level) ∧
    (∃ (s : State) (r : Raise), s.fault.now = [r] ∧ r.src < 32 ∧ 5 ≤ r.src ∧ (s.react r.src).level ≤ 3 ∧ (s.react r.src).prog =
      0 ∧ s.rd (FC_COUNT r.src) ctrCount + 1 < 0xFFFFFFFF ∧ s.flag HD_IMG_STAT HD_IMG_STAT.SAFE = false ∧ s.awake ∧
      s.rcd.triggers = [] ∧ s.flag FC_STAT FC_STAT.OPEN = true ∧ s.rd FC_STAT FC_STAT.RANK < (s.react r.src).level) ∧
    (∃ (s : State) (r : Raise), s.fault.now = [r] ∧ r.src < 32 ∧ 5 ≤ r.src ∧ (s.react r.src).level ≤ 3 ∧ (s.react r.src).prog =
      0 ∧ s.rd (FC_COUNT r.src) ctrCount + 1 < 0xFFFFFFFF ∧ s.flag HD_IMG_STAT HD_IMG_STAT.SAFE = false ∧ s.awake ∧
      s.rcd.triggers = [] ∧ s.flag FC_STAT FC_STAT.OPEN = true ∧ (s.react r.src).level ≤ s.rd FC_STAT FC_STAT.RANK) :=
  ⟨⟨(State.reset), by decide⟩,
    ⟨({ W [(FC_REACT 7, FC_REACT.LEVEL, 0)] with fault := { now := [{ src := 7 }] } }), ({ src := 7 }), by decide⟩,
    ⟨(State.reset), 5, by decide⟩,
    ⟨(State.reset), 31, by decide⟩,
    ⟨(State.reset), 4, by decide⟩,
    ⟨(W [(HD_IMG_STAT, HD_IMG_STAT.STATE, 4), (FC_REACT 31, FC_REACT.LEVEL, 3)]), 31, by decide⟩,
    ⟨({ W [(HD_IMG_STAT, HD_IMG_STAT.STATE, 4), (FC_REACT 7, FC_REACT.LEVEL, 0), (FC_REACT 7, FC_REACT.ERR, 0)] with fault := { now := [{ src := 7 }] } }),
      ({ src := 7 }), by decide⟩,
    ⟨({ W [(HD_IMG_STAT, HD_IMG_STAT.STATE, 4), (FC_REACT 31, FC_REACT.LEVEL, 0), (FC_REACT 31, FC_REACT.ERR, 0)] with fault := { now := [{ src := 31 }] } }),
      ({ src := 31 }), by decide⟩,
    ⟨({ State.reset with fault := { now := [{ src := 5 }] } }), ({ src := 5 }), by decide⟩,
    ⟨({ W [(HD_IMG_STAT, HD_IMG_STAT.STATE, 4), (FC_REACT 31, FC_REACT.LEVEL, 3), (FC_REACT 31, FC_REACT.ERR, 1)] with fault := { now := [{ src := 31, sub := 5 }] } }),
      ({ src := 31, sub := 5 }), by decide⟩,
    ⟨({ W [(FC_STAT, FC_STAT.OPEN, 1), (FC_STAT, FC_STAT.LOGN, 15), (FC_STAT, FC_STAT.RANK, 3)] with fault := { now := [{ src := 5 }] } }),
      ({ src := 5 }), by decide⟩,
    ⟨({ W [(FC_STAT, FC_STAT.OPEN, 1), (FC_STAT, FC_STAT.LOGN, 15), (FC_STAT, FC_STAT.RANK, 3)] with fault := { now := [{ src := 5 }] } }),
      ({ src := 5 }), by decide⟩,
    ⟨({ W [(FC_STAT, FC_STAT.OPEN, 1), (FC_STAT, FC_STAT.LOGN, 15), (FC_STAT, FC_STAT.RANK, 3)] with fault := { now := [{ src := 5 }] } }),
      ({ src := 5 }), by decide⟩,
    ⟨({ W [(FC_STAT, FC_STAT.OPEN, 1), (FC_STAT, FC_STAT.LOGN, 16), (FC_STAT, FC_STAT.RANK, 3)] with fault := { now := [{ src := 30 }] } }),
      ({ src := 30 }), by decide⟩,
    ⟨({ W [(FC_STAT, FC_STAT.OPEN, 1), (FC_STAT, FC_STAT.LOGN, 1), (FC_STAT, FC_STAT.RANK, 0)] with fault := { now := [{ src := 5 }] } }),
      ({ src := 5 }), by decide⟩,
    ⟨({ W [(HD_IMG_STAT, HD_IMG_STAT.STATE, 4), (FC_STAT, FC_STAT.OPEN, 1), (FC_STAT, FC_STAT.RANK, 2), (FC_REACT 31, FC_REACT.LEVEL, 3), (FC_REACT 31, FC_REACT.ERR, 1)] with fault := { now := [{ src := 31 }] } }),
      ({ src := 31 }), by decide⟩,
    ⟨({ W [(FC_STAT, FC_STAT.OPEN, 1), (FC_STAT, FC_STAT.LOGN, 1), (FC_STAT, FC_STAT.RANK, 1)] with fault := { now := [{ src := 5 }] } }),
      ({ src := 5 }), by decide⟩⟩

theorem met_NothingElseStops :
    (∃ (c : Instr) (s : State), c ∈ [ Instr.powerOnReset, .chipReset]) ∧
    (∃ (c : Instr) (p : Bool) (a : Nat) (b : Nat) (d : Word) (s : State), c ∈ [ Instr.lifeCycleRead, .hostRequest p a d b,
      .portTimeout p, .sbRead a, .mboxWrite d, .freezeRecorder, .stopRequest a, .ident, .privateRead, .addressMatchWake, .enec
      a, .disec a, .rstdaa, .entdaa a, .setdasa a, .setnewda a, .getpid, .getbcr, .getdcr, .getstatus, .setmwl a, .getmwl,
      .setmrl a, .getmrl, .rstact a, .targetResetPattern, .unsupportedCcc a, .ibiRequest p, .idcode, .dbgRegRead a, .dbgAuth,
      .dbgScan, .bypass, .tapReset, .dbgSessionExpiry, .submitVerified, .nonceExpiry, .fuseProgramDone]) ∧
    (∃ (c : Instr) (d : Word) (a : Nat) (p : Bool) (s : State), c ∈ [ Instr.hdImgDataWrite d, .imageStall, .imageChecksDone,
      .applyStart, .applyFail a, .imageAccept, .safePrimingStart, .safePrimeStep a, .safeParkTimeout a, .powerLoss p]) ∧
    (∃ (c : Instr) (a : Nat) (b : Nat) (e : Nat) (g : Nat) (h : Nat) (i : Int) (j : Int) (p : Bool) (s : State), c ∈ [
      Instr.keeperEnable a, .offsetMeasureDone a b e g i, .tsnsPeriod a b e g h, .tsnsTimeout a b e, .pumpFaultWireFall a b e p,
      .faultClassify a b e g, .pumpRearm a b e, .rearmPenRelease a b e, .rearmCheck a b e, .pumpFaultWireRise a b e,
      .softShortTrip a b e, .busFault a p, .refLost, .refQualified, .dcoPullUpdate i j, .periodOpening a b, .busRecovery a]) ∧
    (∃ (c : Instr) (a : Nat) (b : Nat) (e : Nat) (g : Nat) (i : Int) (s : State), c ∈ [ Instr.keeperHandover a, .profileTick a
      b, .hystTurnOn a b i, .hystPulseEnd a b e ⟨g, i⟩, .hystPumpReady a b e, .handover a b, .sqAbort a, .sqEnd a, .sqSelt a,
      .sqSetv a, .sqProf a, .sqPrime a, .sqHand a, .sqHyst a, .sqPark a, .sqWait a, .sqJmp a, .sqClgt a, .sqTie a, .sqPmode a,
      .sqTrk a, .sqEvent a, .instructionComplete a, .instructionTimeout a, .primeAdmit a b, .primeResume a b, .parkTimeout a b]) ∧
    (∃ (c : Instr) (a : Nat) (b : Nat) (e : Nat) (g : Nat) (li : List Int) (l : List Nat) (s : State), c ∈ [
      Instr.innerSampleClose a b li, .sarConversion a b e, .injectTrigger a b e g, .burstStart a, .burstDone a l,
      .telemetryWindowClose a, .tileTelemetryReport a, .telemetrySnapshot]) ∧
    (∃ (c : Instr) (a : Nat) (b : Nat) (p : Bool) (q : Bool) (r : Bool) (ll : List (List Nat)) (i : Int) (s : State), c ∈ [
      Instr.innerEvaluation a b, .residueVerdict a b p q r, .evaluationRetry a b p q r, .outerEvaluation a b ll, .selfTest a b
      p, .modeChangeApply a, .holdAssert a b i, .holdRelease a b i, .holdTimeout a b, .ovSuppress a b i, .ovSuppressEnd a b i]) ∧
    (∃ (c : Instr) (a : Nat) (b : Nat) (e : Nat) (p : Bool) (s : State), c ∈ [ Instr.sqTest a, .wellOverload a b, .tieAck a ⟨b,
      p⟩, .tieAckTimeout a b, .tieOvercurrent a b, .tieOpen a b, .tieForcedOpen a b, .pumpOpenRetire a b e, .senseFollow a b e,
      .crackSuspect a b, .senseOpen a b, .testDue a b, .testDeferExpiry a b, .quietTestStart a b, .shadowTestStart a b,
      .testStepEnd a b, .testOverdue a b, .retArmExpiry a]) ∧
    (∃ (c : Instr) (a : Nat) (s : State), c ∈ [ Instr.capabilityEvent a]) ∧
    (∃ (c : Instr) (a : Nat) (b : Nat) (e : Nat) (d : Word) (s : State), c ∈ [ Instr.scheduleWindowWrite a b d, .bindDone a,
      .playStart a, .playStop a, .playerBeat a, .noticePost a b e d, .noticeCollect a b e, .gateComplete a b, .waferGateReport a
      b, .waferGateComplete a, .gateRelease a b, .gateTimeout a b]) ∧
    (∃ (c : Instr) (a : Nat) (b : Nat) (s : State), c ∈ [ Instr.thermalRound a b, .hotListEval a, .throttleStep a b,
      .orderlyStopEnd a, .orderlyTimeout a, .hardStop a, .stopRecordSent a]) ∧
    (∃ (c : Instr) (a : Nat) (s : State), c ∈ [ Instr.restFrame a, .jobRestCommit, .accept a, .refuse a, .acceptTimeout a,
      .relocDone a, .relocTimeout a]) ∧
    (∃ (c : Instr) (a : Nat) (b : Nat) (s : State), c ∈ [ Instr.voteGate a b, .wakeGraceExpiry a b, .gateControlRelease a b,
      .greqRelease a b, .votedPark a b, .primingOnWake a b, .pumphouseWakeDone a, .nap, .sleepEnter, .sleepWake a,
      .fastClockRestartDone]) ∧
    (∃ (c : Instr) (a : Nat) (s : State), c ∈ [ Instr.faultRaise a, .blockResetDone a, .chipReaction, .interruptClaim a]) ∧
    (∃ (c : Instr) (o : Option Sfdp) (a : Nat) (p : Bool) (s : State), c ∈ [ Instr.recorderScan o, .snapshotStart a,
      .snapshotDone, .heartbeat, .recordWrite, .recordWriteDone p, .eraseDone p, .freezeExpiry, .erRdDataRead, .fetchDone,
      .clearDone, .clearArmExpiry]) ∧
    (∃ (c : Instr) (a : Nat) (b : Nat) (f : LinkFrame) (i : Int) (s : State), c ∈ [ Instr.portSignalDetect a, .trainingDone a,
      .trainingTimeout a, .helloTx a, .hello a f, .auth a f, .isolationExpiry a, .portDown a, .portSilenceTimeout a,
      .frameForward a f, .frameResend a, .markTx a b, .mark a f b, .advTx, .adv a f, .advExpiry a, .routeRecompute,
      .addrConflictClear, .followUpdate i, .parentLost, .timeOffsetExceeded, .timeStep, .joinRetry, .joinFrame a f, .admitFrame
      a f, .jobMembershipStart, .leaveFrame a f, .leaderTimeout, .need a f, .agreeDeadline, .agree a f, .syncDone a f, .syncRel
      a f, .shareReq a f, .shareDeadline, .share a f, .pullOpen a f, .offer a f, .credit a f, .pullData a f, .pullExpiry,
      .pullSourceTimeout]) ∧
    (∃ (c : Instr) (a : Nat) (b : Nat) (e : Nat) (m : Nat) (d : Word) (y : Word) (p : Bool) (i : Int) (s : State), (c, m, y) ∈ [
      (Instr.wlLimitWrite a b d, WL_LIMIT a b, d), (.challenge d, LC_CMD, d), (.submit, LC_CMD, 0x02), (.cancel p, LC_CMD,
      0x03), (.provisionCommit, LC_CMD, 0x10), (.enterField, LC_CMD, 0x11), (.imgStart d, HD_IMG_CTRL, d), (.imgAbort d p,
      HD_IMG_CTRL, d), (.safeNow d, HD_IMG_CTRL, d), (.safeStop d, HD_IMG_CTRL, d), (.cal a b e d, PM_LINK a b e, d), (.stest a
      d, PH_ENG_CTRL a, d), (.modeReqWrite a d, PH_ENG_CTRL a, d), (.vCmdWrite a b d, WL_SETPT a b, d), (.sqStart a d, SQ_CTRL
      a, d), (.bind a d, DS_CTRL a, d), (.unbind a d p, DS_CTRL a, d), (.dsStart a d, DS_CTRL a, d), (.dsStop a d, DS_CTRL a,
      d), (.force a d, DS_GATE_CTRL a, d), (.testReq a b d, WL_TEST a b, d), (.retArm a d, PH_RET_ARM a, d), (.returnPump a b e
      d, PM_SVC a b e, d), (.adWinCal a b d i, AD_WIN a b, d), (.calNow a d, AD_CTRL a, d), (.adGo a b d, AD_INJ a b, d),
      (.adResConfigWrite a b d, AD_RES a b, d), (.lpInhibitWrite a d, AD_CTRL a, d), (.resume a d, TH_CTRL a, d), (.clrPeak a d,
      TH_CTRL a, d), (.capHostWrite d, CG_CAP, d), (.jobStop d, CG_CTRL, d), (.plSet d, PL_SET, d), (.plHold d, PL_CTRL, d),
      (.resetMap d, PL_CTRL, d), (.hostHoldWrite a d, PH_HOST_HOLD a, d), (.sleep d, HD_PWR_CTRL, d), (.episodeClose d, FC_STAT,
      d), (.trapAck d, FC_CTRL, d), (.inject d, FC_CTRL, d), (.setpend d, IC_SETPEND, d), (.freeze d, ER_CTRL, d), (.thaw d,
      ER_CTRL, d), (.erRdPtrWrite d, ER_RD_PTR, d), (.rdAbort d p, ER_CTRL, d), (.clear d, ER_CTRL, d), (.erCfgWrite d, ER_CFG,
      d), (.join d, CL_JOB, d), (.leave d, CL_JOB, d), (.pullGo d, CL_PULL, d), (.pullAbort d p, CL_PULL, d)] ∧ s.reservedBits m
      y = false) ∧
    (∃ (a : Nat) (b : Nat) (d : Word) (x : Word) (q : Bool) (l : List Nat) (s : State), s.reservedWrite a d = false) ∧
    (∃ (a : Nat) (b : Nat) (d : Word) (x : Word) (q : Bool) (l : List Nat) (s : State), s.reservedBits (phBase 0 + a) d = false) ∧
    (∃ (a : Nat) (b : Nat) (d : Word) (x : Word) (q : Bool) (l : List Nat) (s : State), (s.reservedWrite (a % 2 ^ 24) d = false
      ∨ a.testBit 24 = true)) ∧
    (∃ (a : Nat) (b : Nat) (d : Word) (x : Word) (q : Bool) (l : List Nat) (s : State), (s.reservedWrite (a % 2 ^ 24) d = false
      ∨ a.testBit 24 = true)) ∧
    (∃ (a : Nat) (b : Nat) (d : Word) (x : Word) (q : Bool) (l : List Nat) (s : State), s.reservedBits (LC_STAGE a) d = false) ∧
    (∃ (a : Nat) (b : Nat) (d : Word) (x : Word) (q : Bool) (l : List Nat) (s : State), s.reservedBits (IC_CLAIM a) d = false) ∧
    (∃ (a : Nat) (b : Nat) (d : Word) (x : Word) (q : Bool) (l : List Nat) (s : State), s.reservedBits (PH_HOST_CL0 a) d =
      false) ∧
    (∃ (a : Nat) (b : Nat) (d : Word) (x : Word) (q : Bool) (l : List Nat) (s : State), b ≠ 0 ∧ s.reservedBits (PH_HOST_CL1 a) d
      = false) :=
  ⟨⟨(.powerOnReset), (State.reset), by decide⟩,
    ⟨(.lifeCycleRead), true, 1, 1, 0, (State.reset), by decide⟩,
    ⟨(.hdImgDataWrite 0), 0, 1, true, (State.reset), by decide⟩,
    ⟨(.keeperEnable 1), 1, 1, 1, 1, 1, 0, 0, true, (State.reset), by decide⟩,
    ⟨(.keeperHandover 1), 1, 1, 1, 1, 0, (State.reset), by decide⟩,
    ⟨(.innerSampleClose 1 1 []), 1, 1, 1, 1, ([]), ([]), (State.reset), by decide⟩,
    ⟨(.innerEvaluation 1 1), 1, 1, true, true, true, ([]), 0, (State.reset), by decide⟩,
    ⟨(.sqTest 1), 1, 1, 1, true, (State.reset), by decide⟩,
    ⟨(.capabilityEvent 1), 1, (State.reset), by decide⟩,
    ⟨(.scheduleWindowWrite 1 1 0), 1, 1, 1, 0, (State.reset), by decide⟩,
    ⟨(.thermalRound 1 1), 1, 1, (State.reset), by decide⟩,
    ⟨(.restFrame 1), 1, (State.reset), by decide⟩,
    ⟨(.voteGate 1 1), 1, 1, (State.reset), by decide⟩,
    ⟨(.faultRaise 1), 1, (State.reset), by decide⟩,
    ⟨(.recorderScan none), none, 1, true, (State.reset), by decide⟩,
    ⟨(.portSignalDetect 1), 1, 1, (fr 1 0 9 0 [1]), 0, (State.reset), by decide⟩,
    ⟨(.wlLimitWrite 1 1 0), 1, 1, 1, (WL_LIMIT 1 1), 0, 0, true, 0, (State.reset), by decide⟩,
    ⟨HD_WAKE_EN, 1, 0, 0, true, ([]), (State.reset), by decide⟩,
    ⟨0x802, 1, 0, 0, true, ([]), (State.reset), by decide⟩,
    ⟨HD_WAKE_EN, 1, 0, 0, true, ([]), (State.reset), by decide⟩,
    ⟨1, 1, 0, 0, true, ([]), ({ State.reset with fuses := { lcState := 2 } }), by decide⟩,
    ⟨21, 1, 0, 0, true, ([]), (State.reset), by decide⟩,
    ⟨7, 1, 0, 0, true, ([]), (State.reset), by decide⟩,
    ⟨1, 1, 0, 0, true, ([]), (State.reset), by decide⟩,
    ⟨1, 1, 0, 0, true, ([]), (State.reset), by decide⟩⟩

theorem met_PowerLeaves :
    (∃ (s : State), s.lc.fuseOp = .returnWipe) :=
  ⟨({ State.reset with lc := { fuseOp := .returnWipe } }), by decide⟩

theorem met_ChipResetLeaves :
    (∃ (c : Instr) (s : State), (c = .chipReset ∨ (c = .chipReaction ∧ s.fault.chipPend = true))) :=
  ⟨(.chipReaction), ({ State.reset with fault := { chipPend := true } }), by decide⟩

theorem met_LifeCycleReadDoes :
    (∃ (s : State), s.quiet ∧ (¬(s.fuses.lcState = 2 ∧ s.fuses.secretAt s.fuses.slot = wiped))) ∧
    (∃ (s : State), s.fuses.lcState = 2 ∧ s.fuses.secretAt s.fuses.slot = wiped) :=
  ⟨⟨(State.reset), by decide⟩,
    ⟨({ State.reset with fuses := { lcState := 2, secret0 := wiped } }), by decide⟩⟩

theorem met_RegisterWriteStores :
    (∃ (a : Nat) (d : Word) (s : State) (r : RegRow), s.quiet ∧ s.alone ∧ s.takes a d ∧ ownRow a = false ∧ s.rowOf a = some r ∧
      r.cnt = 0) ∧
    (∃ (a : Nat) (d : Word) (s : State), s.quiet ∧ s.alone ∧ a < 2 ^ 24 ∧ place a = .nowhere ∧ s.rd HD_PORT_STAT
      HD_PORT_STAT.ERRORS + 1 < 0xFFFFFFFF) ∧
    (∃ (a : Nat) (d : Word) (s : State), s.reservedWrite a d = true) ∧
    (∃ (a : Nat) (d : Word) (s : State), s.quiet ∧ s.reservedWrite a d = false ∧ s.unreached a = true) ∧
    (∃ (u : Nat) (w : Nat) (p : Nat) (c : Instr) (a : Nat) (d : Word) (s : State), s.quiet ∧ s.alone ∧ u < 96 ∧ w < 15 ∧ p < 4 ∧
      (c, a) ∈ [(.stest u d, PH_ENG_CTRL u), (.modeReqWrite u d, PH_ENG_CTRL u), (.cal u w p d, PM_LINK u w p), (.testReq u w d,
      WL_TEST u w), (.retArm u d, PH_RET_ARM u), (.bind u d, DS_CTRL u), (.unbind u d false, DS_CTRL u), (.unbind u d true,
      DS_CTRL u), (.dsStart u d, DS_CTRL u), (.dsStop u d, DS_CTRL u), (.force u d, DS_GATE_CTRL u), (.wlLimitWrite u w d,
      WL_LIMIT u w), (.returnPump u w p d, PM_SVC u w p), (.registerWrite a d, a)] ∧ s.heldBack a d) ∧
    (∃ (u : Nat) (w : Nat) (p : Nat) (c : Instr) (a : Nat) (d : Word) (s : State), s.quiet ∧ s.alone ∧ u < 96 ∧ w < 15 ∧ p < 4 ∧
      (c, a) ∈ [(.stest u d, PH_ENG_CTRL u), (.modeReqWrite u d, PH_ENG_CTRL u), (.cal u w p d, PM_LINK u w p), (.testReq u w d,
      WL_TEST u w), (.retArm u d, PH_RET_ARM u), (.bind u d, DS_CTRL u), (.unbind u d false, DS_CTRL u), (.unbind u d true,
      DS_CTRL u), (.dsStart u d, DS_CTRL u), (.dsStop u d, DS_CTRL u), (.force u d, DS_GATE_CTRL u), (.wlLimitWrite u w d,
      WL_LIMIT u w), (.returnPump u w p d, PM_SVC u w p), (.registerWrite a d, a)] ∧ s.heldBack a d) ∧
    (∃ (u : Nat) (w : Nat) (p : Nat) (c : Instr) (a : Nat) (d : Word) (s : State), s.quiet ∧ s.alone ∧ u < 96 ∧ w < 15 ∧ p < 4 ∧
      (c, a) ∈ [(.stest u d, PH_ENG_CTRL u), (.modeReqWrite u d, PH_ENG_CTRL u), (.cal u w p d, PM_LINK u w p), (.testReq u w d,
      WL_TEST u w), (.retArm u d, PH_RET_ARM u), (.bind u d, DS_CTRL u), (.unbind u d false, DS_CTRL u), (.unbind u d true,
      DS_CTRL u), (.dsStart u d, DS_CTRL u), (.dsStop u d, DS_CTRL u), (.force u d, DS_GATE_CTRL u), (.wlLimitWrite u w d,
      WL_LIMIT u w), (.returnPump u w p d, PM_SVC u w p), (.registerWrite a d, a)] ∧ s.heldBack a d) ∧
    (∃ (u : Nat) (w : Nat) (p : Nat) (c : Instr) (a : Nat) (d : Word) (s : State), s.quiet ∧ s.alone ∧ u < 96 ∧ w < 15 ∧ p < 4 ∧
      (c, a) ∈ [(.stest u d, PH_ENG_CTRL u), (.modeReqWrite u d, PH_ENG_CTRL u), (.cal u w p d, PM_LINK u w p), (.testReq u w d,
      WL_TEST u w), (.retArm u d, PH_RET_ARM u), (.bind u d, DS_CTRL u), (.unbind u d false, DS_CTRL u), (.unbind u d true,
      DS_CTRL u), (.dsStart u d, DS_CTRL u), (.dsStop u d, DS_CTRL u), (.force u d, DS_GATE_CTRL u), (.wlLimitWrite u w d,
      WL_LIMIT u w), (.returnPump u w p d, PM_SVC u w p), (.registerWrite a d, a)] ∧ s.heldBack a d) ∧
    (∃ (u : Nat) (w : Nat) (p : Nat) (c : Instr) (a : Nat) (d : Word) (s : State), s.quiet ∧ s.alone ∧ u < 96 ∧ w < 15 ∧ p < 4 ∧
      (c, a) ∈ [(.stest u d, PH_ENG_CTRL u), (.modeReqWrite u d, PH_ENG_CTRL u), (.cal u w p d, PM_LINK u w p), (.testReq u w d,
      WL_TEST u w), (.retArm u d, PH_RET_ARM u), (.bind u d, DS_CTRL u), (.unbind u d false, DS_CTRL u), (.unbind u d true,
      DS_CTRL u), (.dsStart u d, DS_CTRL u), (.dsStop u d, DS_CTRL u), (.force u d, DS_GATE_CTRL u), (.wlLimitWrite u w d,
      WL_LIMIT u w), (.returnPump u w p d, PM_SVC u w p), (.registerWrite a d, a)] ∧ s.heldBack a d) ∧
    (∃ (u : Nat) (w : Nat) (p : Nat) (c : Instr) (a : Nat) (d : Word) (s : State), s.quiet ∧ s.alone ∧ u < 96 ∧ w < 15 ∧ p < 4 ∧
      (c, a) ∈ [(.stest u d, PH_ENG_CTRL u), (.modeReqWrite u d, PH_ENG_CTRL u), (.cal u w p d, PM_LINK u w p), (.testReq u w d,
      WL_TEST u w), (.retArm u d, PH_RET_ARM u), (.bind u d, DS_CTRL u), (.unbind u d false, DS_CTRL u), (.unbind u d true,
      DS_CTRL u), (.dsStart u d, DS_CTRL u), (.dsStop u d, DS_CTRL u), (.force u d, DS_GATE_CTRL u), (.wlLimitWrite u w d,
      WL_LIMIT u w), (.returnPump u w p d, PM_SVC u w p), (.registerWrite a d, a)] ∧ s.heldBack a d) :=
  ⟨⟨HD_WAKE_EN, 0x0E, (asked State.reset), (rowAt HD_WAKE_EN), by decide⟩,
    ⟨0xFFFFFF, 5, (asked State.reset), by decide⟩,
    ⟨HD_WAKE_EN, 32, (State.reset), by decide⟩,
    ⟨(PH_ENG_CTRL 1), 0, (asked (onTi (W [(TH_STAT 1, TH_STAT.STOP, 2)]) 1 (fun x =>
      { x with th := { x.th with dropped := true } }))), by decide⟩,
    ⟨1, 1, 1, (.registerWrite (DS_CTRL 1) (DS_CTRL.BIND.set 0 1)), (DS_CTRL 1), (DS_CTRL.BIND.set 0 1), (asked State.reset), by
      decide⟩,
    ⟨1, 2, 3, (.returnPump 1 2 3 (PM_SVC.RETURN.set 0 1)), (PM_SVC 1 2 3), (PM_SVC.RETURN.set 0 1), (asked State.reset), by
      decide⟩,
    ⟨83, 13, 1, (.cal 83 13 1 (PM_LINK.CAL.set 0 1)), (PM_LINK 83 13 1), (PM_LINK.CAL.set 0 1), (asked State.reset), by decide⟩,
    ⟨1, 0, 0, (.testReq 1 0 (WL_TEST.REQ.set 0 1)), (WL_TEST 1 0), (WL_TEST.REQ.set 0 1), (asked State.reset), by decide⟩,
    ⟨1, 0, 0, (.stest 1 (PH_ENG_CTRL.STEST.set 0 1)), (PH_ENG_CTRL 1), (PH_ENG_CTRL.STEST.set 0 1), (asked State.reset), by
      decide⟩,
    ⟨1, 0, 0, (.modeReqWrite 1 (PH_ENG_CTRL.MODE_REQ.set 0 1)), (PH_ENG_CTRL 1), (PH_ENG_CTRL.MODE_REQ.set 0 1), (asked
      State.reset), by decide⟩⟩

theorem met_ClearsClear :
    (∃ (a : Nat) (d : Word) (hw : Word) (s : State) (r : RegRow), s.quiet ∧ s.alone ∧ s.takes a d ∧ ownRow a = false ∧ s.rowOf a
      = some r) ∧
    (∃ (a : Nat) (d : Word) (hw : Word) (s : State) (r : RegRow), s.quiet ∧ s.alone ∧ s.takes a d ∧ ownRow a = false ∧ s.rowOf a
      = some r) ∧
    (∃ (a : Nat) (d : Word) (hw : Word) (s : State), s.quiet ∧ s.alone ∧ s.takes a d ∧ (∀ u, u < 96 → a ≠ DS_GATE_VIEW u)) ∧
    (∃ (u : Nat) (d : Word) (hw : Word) (s : State), s.quiet ∧ s.alone ∧ u < 96 ∧ s.takes (DS_GATE_VIEW u) d) ∧
    (∃ (a : Nat) (d : Word) (s : State) (r : RegRow) (inc : Bool), s.quiet ∧ s.alone ∧ s.takes a d ∧ ownRow a = false ∧ s.rowOf
      a = some r ∧ r.cnt = 1 ∧ ctrCount.get d = 0) ∧
    (∃ (a : Nat) (d : Word) (s : State) (r : RegRow), s.quiet ∧ s.alone ∧ s.takes a d ∧ ownRow a = false ∧ s.rowOf a = some r ∧
      r.cnt = 1 ∧ ctrCount.get d ≠ 0) :=
  ⟨⟨HD_IMG_STAT, 0x600, 0x400, (asked (W [(HD_IMG_STAT, HD_IMG_STAT.REFUSED, 1)])), (rowAt HD_IMG_STAT), by decide⟩,
    ⟨CL_TIME, 0x0, 0x1, (asked (W [(CL_TIME, CL_TIME.ALIGNS, 7)])), (rowAt CL_TIME), by decide⟩,
    ⟨HD_SB_STAT, 0x7, 0x2, (asked (W [(HD_SB_STAT, HD_SB_STAT.MBOX_OVR, 1)])), by decide⟩,
    ⟨(95 - 12), 0x70000, 0x20000, (asked State.reset), by decide⟩,
    ⟨CL_TIME, 0, (asked (W [(CL_TIME, CL_TIME.ALIGNS, 7)])), (rowAt CL_TIME), true, by decide⟩,
    ⟨CL_TIME, 0xFFFFFFFF00000000, (asked (W [(CL_TIME, CL_TIME.ALIGNS, 7)])), (rowAt CL_TIME), by decide⟩⟩

theorem met_RequestsAnswered :
    (∃ (a : Nat) (d : Word) (tag : Nat) (s : State), s.quiet ∧ s.awake ∧ a < 2 ^ 24 ∧ tag < 8 ∧ s.port.outstanding = []) ∧
    (∃ (a : Nat) (d : Word) (tag : Nat) (s : State), s.quiet ∧ s.awake ∧ a < 2 ^ 24 ∧ tag < 8 ∧ s.port.outstanding = [] ∧
      sideRead a = false ∧ (s.readReg a).1 = rOkay) ∧
    (∃ (a : Nat) (d : Word) (tag : Nat) (s : State) (we : Bool), s.quiet ∧ s.awake ∧ a < 2 ^ 24 ∧ tag < 8 ∧ 8 ≤
      s.port.outstanding.length) ∧
    (∃ (a : Nat) (d : Word) (tag : Nat) (s : State) (we : Bool) (q : Req) (l : List Req), s.quiet ∧ s.awake ∧ a < 2 ^ 24 ∧ tag <
      8 ∧ s.port.outstanding = q :: l ∧ l.length < 7 ∧ (q.we = true ∨ sideRead q.addr = true ∨ s.unreached q.addr = true)) ∧
    (∃ (a : Nat) (d : Word) (s : State) (g : RegRow) (q : Req) (r : Req), s.quiet ∧ s.takes a d ∧ ownRow a = false ∧ s.rowOf a =
      some g ∧ s.port.outstanding = [q, r]) ∧
    (∃ (a : Nat) (d : Word) (s : State) (g : RegRow) (q : Req) (r : Req), s.quiet ∧ s.takes a d ∧ ownRow a = false ∧ s.rowOf a =
      some g ∧ s.port.outstanding = [q, r]) ∧
    (∃ (landed : Bool) (s : State) (q : Req) (r : Req), s.quiet ∧ s.port.outstanding = [q, r] ∧ q.we = false ∧ r.we = true) ∧
    (∃ (s : State) (q : Req) (g : RegRow), s.quiet ∧ s.port.outstanding = [q] ∧ q.we = true ∧ s.takes q.addr q.data ∧ ownRow
      q.addr = false ∧ s.rowOf q.addr = some g ∧ g.cnt = 0 ∧ q.addr < 2 ^ 24 ∧ s.rd HD_PORT_STAT HD_PORT_STAT.ERRORS + 1 <
      0xFFFFFFFF) ∧
    (∃ (landed : Bool) (s : State) (q : Req), s.quiet ∧ s.port.outstanding = [q] ∧ (q.we = false ∨ landed = false) ∧ q.addr < 2
      ^ 24 ∧ s.rd HD_PORT_STAT HD_PORT_STAT.ERRORS + 1 < 0xFFFFFFFF) ∧
    (∃ (landed : Bool) (s : State) (q : Req), s.quiet ∧ s.port.outstanding = [q] ∧ (q.we = false ∨ landed = false) ∧ q.addr < 2
      ^ 24 ∧ s.rd HD_PORT_STAT HD_PORT_STAT.ERRORS + 1 < 0xFFFFFFFF) ∧
    (∃ (a : Nat) (d : Word) (tag : Nat) (s : State), s.quiet ∧ s.awake ∧ a < 2 ^ 24 ∧ tag < 8 ∧ s.port.outstanding = [] ∧
      s.unreached a = true) :=
  ⟨⟨0x10410, 7, 7, (State.reset), by decide⟩,
    ⟨HD_TOPO, 0, 0, (State.reset), by decide⟩,
    ⟨0xFFFFFF, 0, 7, ({ State.reset with port := { outstanding := List.replicate 8 ⟨false, HD_TOPO, 0, 0⟩ } }), true, by decide⟩,
    ⟨HD_TOPO, 0, 7, ({ State.reset with port := { State.reset.port with outstanding := [⟨true, HD_WAKE_EN, 5, 2⟩] } }), false,
      (⟨true, HD_WAKE_EN, 5, 2⟩), ([]), by decide⟩,
    ⟨HD_WAKE_EN, 5,
      ({ State.reset with port := { State.reset.port with outstanding := [⟨true, HD_WAKE_EN, 5, 2⟩, ⟨false, HD_WAKE_EN, 0, 3⟩] } }),
      (rowAt HD_WAKE_EN), (⟨true, HD_WAKE_EN, 5, 2⟩), (⟨false, HD_WAKE_EN, 0, 3⟩), by decide⟩,
    ⟨HD_WAKE_EN, 5,
      ({ State.reset with port := { State.reset.port with outstanding := [⟨true, HD_WAKE_EN, 5, 2⟩, ⟨true, HD_WAKE_EN, 0, 3⟩] } }),
      (rowAt HD_WAKE_EN), (⟨true, HD_WAKE_EN, 5, 2⟩), (⟨true, HD_WAKE_EN, 0, 3⟩), by decide⟩,
    ⟨false,
      ({ State.reset with port := { State.reset.port with outstanding := [⟨false, HD_TOPO, 0, 2⟩, ⟨true, HD_WAKE_EN, 0, 3⟩] } }),
      (⟨false, HD_TOPO, 0, 2⟩), (⟨true, HD_WAKE_EN, 0, 3⟩), by decide⟩,
    ⟨({ State.reset with port := { State.reset.port with outstanding := [⟨true, HD_WAKE_EN, 5, 2⟩] } }), (⟨true, HD_WAKE_EN, 5,
      2⟩), (rowAt HD_WAKE_EN), by decide⟩,
    ⟨false, ({ State.reset with port := { State.reset.port with outstanding := [⟨true, 0x2004, 5, 2⟩] } }), (⟨true, 0x2004, 5,
      2⟩), by decide⟩,
    ⟨true, ({ State.reset with port := { outstanding := [⟨false, HD_TOPO, 0, 5⟩] } }), (⟨false, HD_TOPO, 0, 5⟩), by decide⟩,
    ⟨(PH_ENG_CTRL 1), 0, 7, (onTi (W [(TH_STAT 1, TH_STAT.STOP, 2)]) 1 (fun x =>
      { x with th := { x.th with dropped := true } })), by decide⟩⟩

theorem met_BroadcastReachesAll :
    (∃ (off : Nat) (d : Word) (s : State) (r : RegRow), s.quiet ∧ s.alone ∧ off < 0x8000 ∧ (∀ t, t < s.tileCount → s.takes
      (phBase t + off) d ∧ s.rowOf (phBase t + off) = some r ∧ ownRow (phBase t + off) = false) ∧ 1 ≤ s.tileCount ∧ r.cnt = 0) :=
  ⟨0x802, 0, (asked { State.reset with fuses := { rows := 1, cols := 1 } }), (rowAt (phBase 0 + 0x802)), by decide⟩

theorem met_LimitWriteStores :
    (∃ (u : Nat) (w : Nat) (d : Word) (s : State), s.quiet ∧ s.alone ∧ u < 96 ∧ w < 15 ∧ s.takes (WL_LIMIT u w) d) :=
  ⟨83, 14, 0, (asked State.reset), by decide⟩

theorem met_SidebandCommands :
    (∃ (a : Nat) (s : State), s.quiet ∧ s.awake ∧ a < 2 ^ 24) ∧
    (∃ (s : State), s.quiet ∧ s.awake) ∧
    (∃ (d : Word) (s : State), s.quiet ∧ s.awake ∧ s.rcd.triggers = [] ∧ s.flag (IC_SRC 145) IC_SRC.ACTIVE = false) ∧
    (∃ (s : State), s.awake) ∧
    (∃ (b : Nat) (s : State), s.quiet ∧ s.awake ∧ b < 256 ∧ b ≠ 0xA5) ∧
    (∃ (s : State), s.quiet ∧ s.awake ∧ s.rcd.op = .idle) :=
  ⟨⟨0xFFFFFF, (State.reset), by decide⟩,
    ⟨(State.reset), by decide⟩,
    ⟨9, (State.reset), by decide⟩,
    ⟨(State.reset), by decide⟩,
    ⟨255, (State.reset), by decide⟩,
    ⟨(State.reset), by decide⟩⟩

theorem met_SidebandReadsBack :
    (∃ (s : State), s.quiet ∧ s.sb.todo = none) ∧
    (∃ (s : State), s.quiet ∧ s.sb.todo = none) ∧
    (∃ (s : State), s.quiet ∧ s.sb.todo ≠ none) ∧
    (∃ (s : State), s.quiet ∧ s.awake) ∧
    (∃ (s : State), s.quiet ∧ s.clk.fast = .nap ∧ s.clk.sleepReq = false) ∧
    (∃ (s : State), s.quiet ∧ s.clk.fast = .sleep ∧ s.flag HD_WAKE_EN HD_WAKE_EN.I3C = true) ∧
    (∃ (s : State), s.quiet ∧ s.clk.fast = .sleep ∧ s.flag HD_WAKE_EN HD_WAKE_EN.I3C = false) ∧
    (∃ (s : State), s.quiet ∧ s.clk.fast = .restarting ∧ s.sb.todo = none) ∧
    (∃ (s : State) (x : Word), s.quiet ∧ s.clk.fast = .restarting ∧ s.sb.todo = some (5, x)) ∧
    (∃ (s : State), s.quiet ∧ s.flag HD_SB_STAT HD_SB_STAT.DA_VALID = true) ∧
    (∃ (s : State), s.quiet ∧ s.flag HD_SB_STAT HD_SB_STAT.DA_VALID = true) ∧
    (∃ (s : State), s.quiet ∧ s.flag HD_SB_STAT HD_SB_STAT.DA_VALID = true) ∧
    (∃ (s : State), s.quiet ∧ s.flag HD_SB_STAT HD_SB_STAT.DA_VALID = true) ∧
    (∃ (s : State), s.quiet ∧ s.flag HD_SB_STAT HD_SB_STAT.DA_VALID = true) ∧
    (∃ (s : State), s.quiet ∧ s.flag HD_SB_STAT HD_SB_STAT.DA_VALID = true) ∧
    (∃ (s : State), s.quiet ∧ s.flag HD_SB_STAT HD_SB_STAT.DA_VALID = true) ∧
    (∃ (s : State), s.quiet ∧ s.flag HD_SB_STAT HD_SB_STAT.DA_VALID = true) ∧
    (∃ (s : State), s.quiet ∧ s.flag HD_SB_STAT HD_SB_STAT.DA_VALID = true) ∧
    (∃ (c : Instr) (s : State), s.quiet ∧ s.flag HD_SB_STAT HD_SB_STAT.DA_VALID = false ∧ c ∈ [.getbcr, .getdcr, .getpid,
      .getmwl, .getmrl, .getstatus]) :=
  ⟨⟨({ State.reset with sb := { result := [1, 2, 3] } }), by decide⟩,
    ⟨({ State.reset with clk := { fast := .nap } }), by decide⟩,
    ⟨({ State.reset with sb := { todo := some (5, 0) } }), by decide⟩,
    ⟨(State.reset), by decide⟩,
    ⟨({ State.reset with clk := { fast := .nap } }), by decide⟩,
    ⟨({ W [(HD_WAKE_EN, HD_WAKE_EN.I3C, 1)] with clk := { fast := .sleep } }), by decide⟩,
    ⟨({ W [(HD_WAKE_EN, HD_WAKE_EN.I3C, 0)] with clk := { fast := .sleep } }), by decide⟩,
    ⟨({ State.reset with clk := { fast := .restarting } }), by decide⟩,
    ⟨({ State.reset with clk := { fast := .restarting }, sb := { todo := some (5, 0) } }), 0, by decide⟩,
    ⟨(W [(HD_SB_STAT, HD_SB_STAT.DA_VALID, 1)]), by decide⟩,
    ⟨(W [(HD_SB_STAT, HD_SB_STAT.DA_VALID, 1)]), by decide⟩,
    ⟨(W [(HD_SB_STAT, HD_SB_STAT.DA_VALID, 1)]), by decide⟩,
    ⟨(W [(HD_SB_STAT, HD_SB_STAT.DA_VALID, 1)]), by decide⟩,
    ⟨(W [(HD_SB_STAT, HD_SB_STAT.DA_VALID, 1)]), by decide⟩,
    ⟨({ W [(HD_SB_STAT, HD_SB_STAT.DA_VALID, 1)] with sb := { ibiPend := 1, protErr := true } }), by decide⟩,
    ⟨(W [(HD_SB_STAT, HD_SB_STAT.DA_VALID, 1)]), by decide⟩,
    ⟨(W [(HD_SB_STAT, HD_SB_STAT.DA_VALID, 1)]), by decide⟩,
    ⟨(W [(HD_SB_STAT, HD_SB_STAT.DA_VALID, 1)]), by decide⟩,
    ⟨(.getstatus), (State.reset), by decide⟩⟩

theorem met_CommonCommandsWrite :
    (∃ (b : Nat) (s : State), s.quiet ∧ b % 2 = 1) ∧
    (∃ (b : Nat) (s : State), s.quiet ∧ b % 2 = 0) ∧
    (∃ (x : Nat) (s : State), s.quiet ∧ s.flag HD_SB_STAT HD_SB_STAT.DA_VALID = true) ∧
    (∃ (x : Nat) (s : State), s.quiet ∧ s.flag HD_SB_STAT HD_SB_STAT.DA_VALID = false) ∧
    (∃ (x : Nat) (s : State), s.quiet ∧ 2 < x) ∧
    (∃ (s : State), s.quiet) ∧
    (∃ (c : Instr) (x : Nat) (s : State), s.quiet ∧ x < 128 ∧ ((c = .entdaa x ∧ s.flag HD_SB_STAT HD_SB_STAT.DA_VALID = false) ∨
      (c = .setdasa x ∧ s.flag HD_SB_STAT HD_SB_STAT.DA_VALID = false) ∨ (c = .setnewda x ∧ s.flag HD_SB_STAT
      HD_SB_STAT.DA_VALID = true))) ∧
    (∃ (c : Instr) (x : Nat) (s : State), s.quiet ∧ x < 128 ∧ ((c = .entdaa x ∧ s.flag HD_SB_STAT HD_SB_STAT.DA_VALID = false) ∨
      (c = .setdasa x ∧ s.flag HD_SB_STAT HD_SB_STAT.DA_VALID = false) ∨ (c = .setnewda x ∧ s.flag HD_SB_STAT
      HD_SB_STAT.DA_VALID = true))) ∧
    (∃ (c : Instr) (x : Nat) (s : State), s.quiet ∧ x < 128 ∧ ((c = .entdaa x ∧ s.flag HD_SB_STAT HD_SB_STAT.DA_VALID = false) ∨
      (c = .setdasa x ∧ s.flag HD_SB_STAT HD_SB_STAT.DA_VALID = false) ∨ (c = .setnewda x ∧ s.flag HD_SB_STAT
      HD_SB_STAT.DA_VALID = true))) ∧
    (∃ (x : Nat) (s : State), s.quiet ∧ 128 ≤ x ∧ x < 256 ∧ s.flag HD_SB_STAT HD_SB_STAT.DA_VALID = false) ∧
    (∃ (x : Nat) (s : State), s.quiet ∧ 128 ≤ x ∧ x < 256 ∧ s.flag HD_SB_STAT HD_SB_STAT.DA_VALID = false) ∧
    (∃ (n : Nat) (s : State), s.quiet) ∧
    (∃ (n : Nat) (s : State), s.quiet) ∧
    (∃ (n : Nat) (s : State), s.quiet) ∧
    (∃ (n : Nat) (s : State), s.quiet) ∧
    (∃ (c : Instr) (b : Nat) (s : State), s.quiet ∧ ((c = .rstact b ∧ b ≤ 2) ∨ c = .targetResetPattern)) ∧
    (∃ (c : Instr) (b : Nat) (s : State), s.quiet ∧ ((c = .rstact b ∧ b ≤ 2) ∨ c = .targetResetPattern)) ∧
    (∃ (c : Nat) (s : State), s.quiet) ∧
    (∃ (c : Nat) (s : State), s.quiet) :=
  ⟨⟨1, (State.reset), by decide⟩,
    ⟨254, (State.reset), by decide⟩,
    ⟨5, (W [(HD_SB_STAT, HD_SB_STAT.DA_VALID, 1)]), by decide⟩,
    ⟨5, (State.reset), by decide⟩,
    ⟨3, (State.reset), by decide⟩,
    ⟨(W [(HD_SB_STAT, HD_SB_STAT.DA_VALID, 1)]), by decide⟩,
    ⟨(.setnewda 127), 127, (W [(HD_SB_STAT, HD_SB_STAT.DA_VALID, 1)]), by decide⟩,
    ⟨(.entdaa 1), 1, (State.reset), by decide⟩,
    ⟨(.setdasa 0), 0, (State.reset), by decide⟩,
    ⟨128, (State.reset), by decide⟩,
    ⟨255, (State.reset), by decide⟩,
    ⟨64, (State.reset), by decide⟩,
    ⟨15, (State.reset), by decide⟩,
    ⟨16, (State.reset), by decide⟩,
    ⟨65, (State.reset), by decide⟩,
    ⟨(.targetResetPattern), 0, (W [(HD_SB_STAT, HD_SB_STAT.DA_VALID, 1)]), by decide⟩,
    ⟨(.rstact 2), 2, (W [(HD_SB_STAT, HD_SB_STAT.DA_VALID, 1)]), by decide⟩,
    ⟨5, (State.reset), by decide⟩,
    ⟨5, (State.reset), by decide⟩⟩

theorem met_IbiDelivers :
    (∃ (lost : Bool) (s : State), s.quiet ∧ (s.flag HD_SB_STAT HD_SB_STAT.IBI_EN = false ∨ ∀ j, j < 5 → bit s.sb.ibiPend j =
      false)) ∧
    (∃ (lost : Bool) (s : State), s.quiet ∧ (s.flag HD_SB_STAT HD_SB_STAT.IBI_EN = false ∨ ∀ j, j < 5 → bit s.sb.ibiPend j =
      false)) ∧
    (∃ (i : Nat) (s : State), s.quiet ∧ i < 5 ∧ bit s.sb.ibiPend i = true ∧ (∀ j, j < i → bit s.sb.ibiPend j = false) ∧ s.flag
      HD_SB_STAT HD_SB_STAT.IBI_EN = true) ∧
    (∃ (i : Nat) (s : State), s.quiet ∧ i < 5 ∧ bit s.sb.ibiPend i = true ∧ (∀ j, j < i → bit s.sb.ibiPend j = false) ∧ s.flag
      HD_SB_STAT HD_SB_STAT.IBI_EN = true) :=
  ⟨⟨false, ({ W [(HD_SB_STAT, HD_SB_STAT.IBI_EN, 1)] with sb := { ibiPend := 0 } }), by decide⟩,
    ⟨false, ({ State.reset with sb := { ibiPend := 16 } }), by decide⟩,
    ⟨4, ({ W [(HD_SB_STAT, HD_SB_STAT.IBI_EN, 1)] with sb := { ibiPend := 16 } }), by decide⟩,
    ⟨0, ({ W [(HD_SB_STAT, HD_SB_STAT.IBI_EN, 1)] with sb := { ibiPend := 17 } }), by decide⟩⟩

theorem met_TapInstructions :
    (∃ (s : State), s.quiet) ∧
    (∃ (s : State), s.quiet) ∧
    (∃ (s : State), s.quiet) ∧
    (∃ (s : State), s.quiet) ∧
    (∃ (s : State), s.quiet ∧ s.fuses.lcState = 2 ∧ s.tap.diagOk = true) ∧
    (∃ (s : State), s.quiet ∧ s.fuses.lcState = 2 ∧ s.tap.diagOk = false) ∧
    (∃ (a : Nat) (d : Word) (s : State), s.quiet ∧ s.fuses.lcState = 2 ∧ a < 2 ^ 24 ∧ ((0x1010 ≤ a ∧ a < 0x101C) ∨ (0x1020 ≤ a ∧
      a < 0x102C))) ∧
    (∃ (a : Nat) (d : Word) (s : State), s.quiet ∧ s.fuses.lcState = 2 ∧ a < 2 ^ 24 ∧ ((0x1010 ≤ a ∧ a < 0x101C) ∨ (0x1020 ≤ a ∧
      a < 0x102C))) ∧
    (∃ (a : Nat) (d : Word) (s : State), s.quiet ∧ s.fuses.lcState = 2 ∧ a < 2 ^ 24 ∧ 0x1008 ≤ a ∧ a < 0x100E) ∧
    (∃ (a : Nat) (d : Word) (s : State), s.quiet ∧ s.fuses.lcState = 2 ∧ a < 2 ^ 24 ∧ 0x1008 ≤ a ∧ a < 0x100E) ∧
    (∃ (a : Nat) (d : Word) (s : State), s.quiet ∧ s.fuses.lcState = 2 ∧ a < 2 ^ 24 ∧ (¬(0x1008 ≤ a ∧ a < 0x102C))) ∧
    (∃ (a : Nat) (d : Word) (s : State), s.quiet ∧ s.fuses.lcState = 2 ∧ a < 2 ^ 24 ∧ (¬(0x1008 ≤ a ∧ a < 0x102C))) ∧
    (∃ (a : Nat) (d : Word) (s : State), s.quiet ∧ s.fuses.lcState ≠ 2 ∧ s.rd LC_STATE LC_STATE.DENIED_TAP + 1 < 0xFFFFFFFF ∧ a
      < 2 ^ 24) :=
  ⟨⟨(State.reset), by decide⟩,
    ⟨(State.reset), by decide⟩,
    ⟨(W [(LC_STATE, LC_STATE.SESSION, 1)]), by decide⟩,
    ⟨(W [(LC_STATE, LC_STATE.SESSION, 1)]), by decide⟩,
    ⟨({ State.reset with fuses := { lcState := 2 }, tap := { diagOk := true } }), by decide⟩,
    ⟨({ State.reset with fuses := { lcState := 2 } }), by decide⟩,
    ⟨0x1010, 9, ({ State.reset with fuses := { lcState := 2 } }), by decide⟩,
    ⟨0x102B, 9, ({ State.reset with fuses := { lcState := 2 } }), by decide⟩,
    ⟨0x1008, 9, ({ State.reset with fuses := { lcState := 2 } }), by decide⟩,
    ⟨0x100D, 9, ({ State.reset with fuses := { lcState := 2 } }), by decide⟩,
    ⟨0x1007, 9, ({ State.reset with fuses := { lcState := 2 } }), by decide⟩,
    ⟨0x102C, 9, ({ State.reset with fuses := { lcState := 2 } }), by decide⟩,
    ⟨0x1010, 5, (State.reset), by decide⟩⟩

theorem met_DebugAccess :
    (∃ (a : Nat) (s : State), s.quiet ∧ a < 2 ^ 24 ∧ s.fuses.lcState ≠ 2 ∧ sideRead a = false) ∧
    (∃ (a : Nat) (s : State), s.quiet ∧ a < 2 ^ 24 ∧ s.fuses.lcState = 2 ∧ s.flag LC_STATE LC_STATE.SESSION = true) ∧
    (∃ (a : Nat) (d : Word) (s : State) (r : RegRow), s.quiet ∧ a < 2 ^ 24 ∧ s.fuses.lcState ≠ 2 ∧ s.takes a d ∧ ownRow a =
      false ∧ s.rowOf a = some r) ∧
    (∃ (a : Nat) (d : Word) (s : State), s.quiet ∧ a < 2 ^ 24 ∧ s.fuses.lcState = 2 ∧ s.flag LC_STATE LC_STATE.SESSION = true) ∧
    (∃ (a : Nat) (d : Word) (s : State), s.quiet ∧ a < 2 ^ 24 ∧ s.fuses.lcState ≠ 2 ∧ s.reservedWrite a d = false ∧ s.unreached
      a = true) :=
  ⟨⟨HD_TOPO, (State.reset), by decide⟩,
    ⟨(LC_CHAL 0), ({ W [(LC_STATE, LC_STATE.SESSION, 1)] with fuses := { lcState := 2 } }), by decide⟩,
    ⟨HD_WAKE_EN, 2, (State.reset), (rowAt HD_WAKE_EN), by decide⟩,
    ⟨HD_WAKE_EN, 2, ({ W [(LC_STATE, LC_STATE.SESSION, 1)] with fuses := { lcState := 2 } }), by decide⟩,
    ⟨(PH_ENG_CTRL 1), 0, (onTi (W [(TH_STAT 1, TH_STAT.STOP, 2)]) 1 (fun x => { x with th := { x.th with dropped := true } })),
      by decide⟩⟩

theorem met_DebugScanRuns :
    (∃ (s : State), s.quiet ∧ (s.fuses.lcState = 0 ∨ s.fuses.lcState = 3)) ∧
    (∃ (s : State), s.quiet ∧ (s.fuses.lcState = 0 ∨ s.fuses.lcState = 3)) ∧
    (∃ (s : State), s.quiet ∧ s.rd LC_STATE LC_STATE.DENIED_TAP + 1 < 0xFFFFFFFF ∧ s.fuses.lcState ≠ 0 ∧ s.fuses.lcState ≠ 3) ∧
    (∃ (s : State), s.quiet ∧ s.rd LC_STATE LC_STATE.DENIED_TAP + 1 < 0xFFFFFFFF ∧ s.fuses.lcState ≠ 2) ∧
    (∃ (s : State) (a : Nat) (d : Word), s.quiet ∧ s.rd LC_STATE LC_STATE.DENIED_TAP + 1 < 0xFFFFFFFF ∧ s.fuses.lcState = 2 ∧
      s.flag LC_STATE LC_STATE.SESSION = false ∧ a < 2 ^ 24) :=
  ⟨⟨(State.reset), by decide⟩,
    ⟨({ State.reset with fuses := { lcState := 3 } }), by decide⟩,
    ⟨({ State.reset with fuses := { lcState := 2 } }), by decide⟩,
    ⟨(State.reset), by decide⟩,
    ⟨({ State.reset with fuses := { lcState := 2 } }), 0, 0, by decide⟩⟩

theorem met_ChallengeAnswers :
    (∃ (p : Nat) (s : State), p < 256 ∧ s.lc.fuseOp = .none ∧ s.lc.verifying = true ∧ s.takes LC_CMD (BitVec.ofNat 64 (p * 256 +
      1)) ∧ s.rd LC_STATE LC_STATE.FAILS < 7 ∧ s.flag ER_STAT ER_STAT.READY = true ∧ s.flag ER_STAT ER_STAT.NOFLASH = false ∧
      s.rcd.queue = []) ∧
    (∃ (p : Nat) (s : State), s.quiet ∧ s.alone ∧ p < 256 ∧ s.lc.fuseOp = .none ∧ s.lc.verifying = false ∧ s.takes LC_CMD
      (BitVec.ofNat 64 (p * 256 + 1)) ∧ s.rd LC_STATE LC_STATE.FAILS < 8 ∧ s.flag ER_STAT ER_STAT.READY = true) ∧
    (∃ (p : Nat) (s : State), s.quiet ∧ s.alone ∧ p < 256 ∧ s.lc.fuseOp = .none ∧ s.lc.verifying = false ∧ s.takes LC_CMD
      (BitVec.ofNat 64 (p * 256 + 1)) ∧ s.rd LC_STATE LC_STATE.FAILS < 8 ∧ s.flag ER_STAT ER_STAT.READY = false) ∧
    (∃ (p : Nat) (s : State), s.quiet ∧ s.alone ∧ p < 256 ∧ s.lc.fuseOp = .none ∧ s.lc.verifying = false ∧ s.takes LC_CMD
      (BitVec.ofNat 64 (p * 256 + 1)) ∧ 8 ≤ s.rd LC_STATE LC_STATE.FAILS) :=
  ⟨⟨4, (asked { W [(ER_STAT, ER_STAT.READY, 1)] with lc := { verifying := true, nonce := some 5 } }), by decide⟩,
    ⟨4, (asked (W [(ER_STAT, ER_STAT.READY, 1)])), by decide⟩,
    ⟨255, (asked State.reset), by decide⟩,
    ⟨0, (asked (W [(LC_STATE, LC_STATE.FAILS, 8)])), by decide⟩⟩

theorem met_NonceServesOnce :
    (∃ (s : State), s.quiet ∧ s.alone ∧ s.lc.fuseOp = .none ∧ s.flag LC_AUTH_STAT LC_AUTH_STAT.BUSY = false ∧ s.takes LC_CMD
      0x02 ∧ s.lc.nonce.isSome = true) ∧
    (∃ (s : State), s.quiet ∧ s.alone ∧ s.lc.fuseOp = .none ∧ s.takes LC_CMD 0x03 ∧ s.lc.nonce.isSome = true) ∧
    (∃ (s : State), s.quiet ∧ s.alone ∧ s.takes LC_CMD 0x03 ∧ s.lc.nonce = none ∧ s.lc.waiting = false ∧ s.rd LC_AUTH_STAT
      LC_AUTH_STAT.RESULT = 2) ∧
    (∃ (s : State), s.quiet ∧ s.lc.nonce.isSome = true ∧ s.lc.verifying = false) ∧
    (∃ (s : State), s.quiet ∧ s.lc.verifying = true) :=
  ⟨⟨(asked { State.reset with lc := { nonce := some 5 } }), by decide⟩,
    ⟨(asked { State.reset with lc := { nonce := some 5, verifying := true } }), by decide⟩,
    ⟨(asked (W [(LC_AUTH_STAT, LC_AUTH_STAT.RESULT, 2)])), by decide⟩,
    ⟨({ State.reset with lc := { nonce := some 5 } }), by decide⟩,
    ⟨({ State.reset with lc := { nonce := some 5, verifying := true } }), by decide⟩⟩

theorem met_SubmissionEnds :
    (∃ (s : State), s.lc.verifying = true ∧ s.flag ER_STAT ER_STAT.NOFLASH = false ∧ s.rcd.queue = [] ∧ s.rd LC_STATE
      LC_STATE.FAILS < 255) ∧
    (∃ (s : State), s.lc.verifying = true ∧ s.flag ER_STAT ER_STAT.NOFLASH = false ∧ s.rcd.queue = [] ∧ s.rd LC_STATE
      LC_STATE.FAILS < 255) :=
  ⟨⟨({ W [(LC_STATE, LC_STATE.FAILS, 7), (LC_AUTH_STAT, LC_AUTH_STAT.PURPOSE, 3)] with lc := { nonce := some 5, verifying := true }, fuses := { lcState := 1 } }),
      by decide⟩,
    ⟨({ W [(LC_STATE, LC_STATE.FAILS, 254), (LC_AUTH_STAT, LC_AUTH_STAT.PURPOSE, 9)] with lc := { nonce := some 5, verifying := true }, fuses := { lcState := 1 } }),
      by decide⟩⟩

theorem met_ProvisioningSteps :
    (∃ (s : State), s.quiet ∧ s.alone ∧ s.lc.fuseOp = .none ∧ s.flag LC_AUTH_STAT LC_AUTH_STAT.BUSY = false ∧ s.takes LC_CMD
      0x10 ∧ s.fuses.lcState = 0 ∧ s.lc.staged % 2 ^ 22 = 2 ^ 22 - 1) ∧
    (∃ (s : State), s.quiet ∧ s.alone ∧ s.lc.fuseOp = .none ∧ s.flag LC_AUTH_STAT LC_AUTH_STAT.BUSY = false ∧ s.takes LC_CMD
      0x10 ∧ (s.fuses.lcState ≠ 0 ∨ s.lc.staged % 2 ^ 22 ≠ 2 ^ 22 - 1)) ∧
    (∃ (s : State), s.quiet ∧ s.alone ∧ s.lc.fuseOp = .none ∧ s.flag LC_AUTH_STAT LC_AUTH_STAT.BUSY = false ∧ s.takes LC_CMD
      0x11 ∧ s.fuses.lcState = 1) ∧
    (∃ (s : State), s.quiet ∧ s.alone ∧ s.lc.fuseOp = .none ∧ s.flag LC_AUTH_STAT LC_AUTH_STAT.BUSY = false ∧ s.takes LC_CMD
      0x11 ∧ s.fuses.lcState = 3 ∧ s.lc.reentry = true ∧ s.newSecret = true) ∧
    (∃ (s : State), s.quiet ∧ s.alone ∧ s.lc.fuseOp = .none ∧ s.flag LC_AUTH_STAT LC_AUTH_STAT.BUSY = false ∧ s.takes LC_CMD
      0x11 ∧ (s.fuses.lcState = 0 ∨ s.fuses.lcState = 2)) ∧
    (∃ (n : Nat) (d : Word) (s : State), s.quiet ∧ s.alone ∧ n < 22 ∧ s.takes (LC_STAGE n) d ∧ (s.fuses.lcState = 0 ∨
      (s.fuses.lcState = 3 ∧ s.lc.reentry = true))) ∧
    (∃ (n : Nat) (d : Word) (s : State), s.quiet ∧ s.alone ∧ n < 22 ∧ s.takes (LC_STAGE n) d ∧ (s.fuses.lcState = 1 ∨
      s.fuses.lcState = 2)) :=
  ⟨⟨(asked { State.reset with lc := { staged := 0x3FFFFF } }), by decide⟩,
    ⟨(asked { State.reset with lc := { staged := 0x1FFFFF } }), by decide⟩,
    ⟨(asked { State.reset with fuses := { lcState := 1 } }), by decide⟩,
    ⟨(asked { State.reset with fuses := { lcState := 3 }, lc := { reentry := true, staged := 0x3FF000 } }), by decide⟩,
    ⟨(asked State.reset), by decide⟩,
    ⟨21, 5, (asked State.reset), by decide⟩,
    ⟨0, 5, (asked { State.reset with fuses := { lcState := 2 } }), by decide⟩⟩

theorem met_FusesBlow :
    (∃ (s : State), s.rcd.queue = [] ∧ s.flag ER_STAT ER_STAT.NOFLASH = false ∧ s.lc.fuseOp ≠ .none) ∧
    (∃ (s : State), s.rcd.queue = [] ∧ s.flag ER_STAT ER_STAT.NOFLASH = false ∧ s.lc.fuseOp ≠ .none) ∧
    (∃ (s : State), s.rcd.queue = [] ∧ s.flag ER_STAT ER_STAT.NOFLASH = false ∧ s.lc.fuseOp = .provision) ∧
    (∃ (s : State), s.rcd.queue = [] ∧ s.flag ER_STAT ER_STAT.NOFLASH = false ∧ s.lc.fuseOp = .field) ∧
    (∃ (s : State), s.rcd.queue = [] ∧ s.flag ER_STAT ER_STAT.NOFLASH = false ∧ s.lc.fuseOp = .returnWipe) ∧
    (∃ (s : State), s.rcd.queue = [] ∧ s.flag ER_STAT ER_STAT.NOFLASH = false ∧ s.lc.fuseOp = .reentryField) :=
  ⟨⟨({ State.reset with lc := { fuseOp := .provision } }), by decide⟩,
    ⟨({ State.reset with lc := { fuseOp := .reentryField }, fuses := { lcState := 3, slot := 2 } }), by decide⟩,
    ⟨({ State.reset with lc := { fuseOp := .provision } }), by decide⟩,
    ⟨({ State.reset with lc := { fuseOp := .field }, fuses := { lcState := 1 } }), by decide⟩,
    ⟨({ State.reset with lc := { fuseOp := .returnWipe }, fuses := { lcState := 2, slot := 3 } }), by decide⟩,
    ⟨({ State.reset with lc := { fuseOp := .reentryField }, fuses := { lcState := 3, slot := 2 } }), by decide⟩⟩

theorem met_ImageLoads :
    (∃ (d : Word) (s : State), s.takes HD_IMG_CTRL d ∧ HD_IMG_CTRL.START.get d = 1 ∧ HD_IMG_CTRL.ABORT.get d = 0 ∧
      HD_IMG_CTRL.SAFE_NOW.get d = 0 ∧ HD_IMG_CTRL.SAFE_STOP.get d = 0 ∧ (s.imgState = 0 ∨ s.imgState = 4 ∨ s.imgState = 5) ∧
      s.wellsDry = true ∧ s.rd CL_PULL_STAT CL_PULL_STAT.STATE = 0) ∧
    (∃ (d : Word) (s : State), s.takes HD_IMG_CTRL d ∧ HD_IMG_CTRL.START.get d = 1 ∧ HD_IMG_CTRL.ABORT.get d = 0 ∧
      HD_IMG_CTRL.SAFE_NOW.get d = 0 ∧ HD_IMG_CTRL.SAFE_STOP.get d = 0 ∧ (s.imgState = 0 ∨ s.imgState = 4 ∨ s.imgState = 5) ∧
      s.wellsDry = false ∧ s.safeOn = false) ∧
    (∃ (d : Word) (s : State), s.quiet ∧ s.alone ∧ s.imgState = 1 ∧ s.load.link = false ∧ s.load.slot.length < 524288 ∧ s.rd
      HD_IMG_STAT HD_IMG_STAT.WORDS + 1 < 2 ^ 32) ∧
    (∃ (d : Word) (s : State), s.imgState ≠ 1) ∧
    (∃ (d : Word) (s : State), s.takes HD_IMG_CTRL d ∧ HD_IMG_CTRL.START.get d = 0 ∧ HD_IMG_CTRL.ABORT.get d = 1 ∧
      HD_IMG_CTRL.SAFE_NOW.get d = 0 ∧ HD_IMG_CTRL.SAFE_STOP.get d = 0 ∧ (s.imgState = 1 ∨ s.imgState = 2)) ∧
    (∃ (s : State), s.imgState = 1) :=
  ⟨⟨0xFF00000001, (asked State.reset), by decide⟩,
    ⟨0xFF00000001, (asked (W [(WL_SETPT 1 3, WL_SETPT.STAGE, 5), (HD_IMG_STAT, HD_IMG_STAT.STATE, 4)])), by decide⟩,
    ⟨7, (asked { W [(HD_IMG_STAT, HD_IMG_STAT.STATE, 1)] with load := { len := 1 } }), by decide⟩,
    ⟨7, (asked State.reset), by decide⟩,
    ⟨2, (asked (W [(HD_IMG_STAT, HD_IMG_STAT.STATE, 2)])), by decide⟩,
    ⟨(W [(HD_IMG_STAT, HD_IMG_STAT.STATE, 1)]), by decide⟩⟩

theorem met_ImageApplies :
    (∃ (s : State), s.imgState = 2 ∧ s.load.passed = false ∧ s.safeOn = false) ∧
    (∃ (s : State), s.quiet ∧ s.imgState = 2 ∧ s.load.passed = true ∧ s.wellsDry = true) ∧
    (∃ (u : Nat) (s : State), s.imgState = 3 ∧ u < s.tileCount ∧ s.load.abort = false) ∧
    (∃ (s : State), s.imgState = 3 ∧ s.load.abort = false ∧ s.load.stopped = false ∧ (∀ u, u < s.tileCount → s.silent u =
      false)) ∧
    (∃ (s : State), s.imgState = 3 ∧ s.load.abort = false ∧ (s.load.stopped = true ∨ ∃ u, u < s.tileCount ∧ s.silent u = true)) ∧
    (∃ (s : State), s.imgState = 3 ∧ s.load.abort = false ∧ (s.load.stopped = true ∨ ∃ u, u < s.tileCount ∧ s.silent u = true)) :=
  ⟨⟨(W [(HD_IMG_STAT, HD_IMG_STAT.STATE, 2)]), by decide⟩,
    ⟨({ W [(HD_IMG_STAT, HD_IMG_STAT.STATE, 2)] with load := { passed := true } }), by decide⟩,
    ⟨83, (W [(HD_IMG_STAT, HD_IMG_STAT.STATE, 3)]), by decide⟩,
    ⟨(W [(HD_IMG_STAT, HD_IMG_STAT.STATE, 3)]), by decide⟩,
    ⟨(onTi (W [(HD_IMG_STAT, HD_IMG_STAT.STATE, 3), (TH_STAT 1, TH_STAT.STOP, 2)]) 1 (fun x =>
      { x with th := { x.th with dropped := true } })), by decide⟩,
    ⟨({ W [(HD_IMG_STAT, HD_IMG_STAT.STATE, 3)] with load := { stopped := true } }), by decide⟩⟩

theorem met_SafePrimingRuns :
    (∃ (d : Word) (s : State), s.takes HD_IMG_CTRL d ∧ HD_IMG_CTRL.START.get d = 0 ∧ HD_IMG_CTRL.ABORT.get d = 0 ∧
      HD_IMG_CTRL.SAFE_NOW.get d = 1 ∧ HD_IMG_CTRL.SAFE_STOP.get d = 0 ∧ (s.imgState = 0 ∨ s.imgState = 5) ∧ s.safeOn = false) ∧
    (∃ (s : State), s.load.safeDue = true ∧ s.imgState = 5 ∧ s.safeOn = false) ∧
    (∃ (d : Word) (s : State), s.takes HD_IMG_CTRL d ∧ HD_IMG_CTRL.START.get d = 0 ∧ HD_IMG_CTRL.ABORT.get d = 0 ∧
      HD_IMG_CTRL.SAFE_NOW.get d = 0 ∧ HD_IMG_CTRL.SAFE_STOP.get d = 1 ∧ (s.imgState = 0 ∨ s.imgState = 5) ∧ s.safeOn = true ∧
      s.load.parking = false ∧ s.load.passed = false ∧ (∀ u, u < s.tileCount → (s.tile u).safe.step = 0)) ∧
    (∃ (u : Nat) (s : State), s.safeOn = true ∧ s.loaderBusy = false ∧ u < s.tileCount ∧ (s.tile u).safe.parkAt = none ∧ 1 ≤
      (s.tile u).safe.step ∧ (s.tile u).safe.step < 5 ∧ (∀ w, w ∈ safeWells (s.tile u).safe.step → s.safeInBand u w = true)) ∧
    (∃ (u : Nat) (w : Nat) (p : Nat) (s : State), u < s.tileCount ∧ u < 96 ∧ (s.tile u).safe.parkAt.isSome = true ∧ w < 14 ∧ p <
      4 ∧ s.pumpOk u w p = true ∧ s.stage u w = stPark ∧ (s.mo u w).dropPend = false) :=
  ⟨⟨4, (asked State.reset), by decide⟩,
    ⟨({ W [(HD_IMG_STAT, HD_IMG_STAT.STATE, 5)] with load := { safeDue := true } }), by decide⟩,
    ⟨8, (asked (W [(HD_IMG_STAT, HD_IMG_STAT.SAFE, 1)])), by decide⟩,
    ⟨1, (onMo (onMo (onLp (onLp (onTi (W [(HD_IMG_STAT, HD_IMG_STAT.SAFE, 1), (WL_SETPT 1 12, WL_SETPT.STAGE, 4), (WL_SETPT 1
      13, WL_SETPT.STAGE, 4), (WL_PROF_STAT 1 12, WL_PROF_STAT.SETTLED, 1), (WL_PROF_STAT 1 13, WL_PROF_STAT.SETTLED, 1)]) 1
      (fun x => { x with safe := { step := 1 } })) 1 12 (fun l => { l with bandOk := true })) 1 13 (fun l =>
      { l with bandOk := true })) 1 12 (fun m => { m with safePrime := true })) 1 13 (fun m => { m with safePrime := true })),
      by decide⟩,
    ⟨1, 3, 1, (onTi (W [(WL_SETPT 1 3, WL_SETPT.STAGE, 6), (PM_LINK 1 3 1, PM_LINK.PEN, 1)]) 1 (fun x =>
      { x with safe := { step := 5, parkAt := some 0 } })), by decide⟩⟩

theorem met_KeeperStarts :
    (∃ (u : Nat) (s : State), s.quiet ∧ s.wellOk u 14 = true ∧ s.stage u 14 = stDry ∧ (s.tile u).busBad = none ∧ s.usablePumps u
      14 ≠ [] ∧ u < 96) ∧
    (∃ (u : Nat) (s : State), s.active = true ∧ s.rd (PH_PWR u) PH_PWR.STATE = 0 ∧ (s.en u).startTest = false ∧ (s.en
      u).wakeTest = false ∧ s.engineOk u 14 = true ∧ s.wellOk u 14 = true ∧ s.wet u 14 = true ∧ s.stage u 14 = stHyst ∧
      s.fallback u = false ∧ (s.mo u 14).hystReq = false ∧ s.flag (WL_PROF_STAT u 14) WL_PROF_STAT.SETTLED = true ∧ (s.lp u
      14).bandOk = true) :=
  ⟨⟨1, (State.reset), by decide⟩,
    ⟨1, (onLp (onTi (W [(HD_IMG_STAT, HD_IMG_STAT.STATE, 4), (PH_PWR 1, PH_PWR.STATE, 0), (WL_SETPT 1 14, WL_SETPT.STAGE, 4),
      (WL_PROF_STAT 1 14, WL_PROF_STAT.SETTLED, 1), (PM_STAT 1 14 0, PM_STAT.SERVICE, 1)]) 1 (fun x =>
      { x with en := { startTest := false } })) 1 14 (fun l => { l with bandOk := true })), by decide⟩⟩

theorem met_PumpSenses :
    (∃ (u : Nat) (w : Nat) (p : Nat) (d : Word) (s : State), s.quiet ∧ s.alone ∧ u < 96 ∧ w < 15 ∧ p < 4 ∧ s.takes (PM_LINK u w
      p) d ∧ PM_LINK.CAL.get d = 1 ∧ s.flag (PM_LINK u w p) PM_LINK.PEN = false) ∧
    (∃ (u : Nat) (w : Nat) (p : Nat) (edges : Nat) (x : Int) (s : State), s.quiet ∧ s.pumpOk u w p = true ∧ (s.pump u w
      p).measuring = true ∧ s.flag (PM_LINK u w p) PM_LINK.PEN = false ∧ (s.te u w).kind = 0 ∧ s.stage u w ≠ stCal) ∧
    (∃ (u : Nat) (w : Nat) (p : Nat) (edges : Nat) (x : Int) (s : State), s.quiet ∧ s.pumpOk u w p = true ∧ (s.pump u w
      p).measuring = true ∧ s.flag (PM_LINK u w p) PM_LINK.PEN = true) ∧
    (∃ (u : Nat) (w : Nat) (p : Nat) (high : Nat) (period : Nat) (s : State), s.quiet ∧ s.pumpOk u w p = true ∧ 0 < period ∧
      period ≤ 50 * high ∧ 50 * high ≤ 49 * period) ∧
    (∃ (u : Nat) (w : Nat) (p : Nat) (high : Nat) (period : Nat) (s : State), s.quiet ∧ s.pumpOk u w p = true ∧ 0 < period ∧
      period ≤ 50 * high ∧ 50 * high ≤ 49 * period) ∧
    (∃ (u : Nat) (w : Nat) (p : Nat) (s : State), s.quiet ∧ s.pumpOk u w p = true) :=
  ⟨⟨1, 3, 1, 4, (asked (W [(PH_PWR 1, PH_PWR.STATE, 0)])), by decide⟩,
    ⟨1, 3, 1, 200, 0, (onPu State.reset 1 3 1 (fun x => { x with measuring := true })), by decide⟩,
    ⟨1, 3, 1, 200, 0, (onPu (W [(PM_LINK 1 3 1, PM_LINK.PEN, 1)]) 1 3 1 (fun x => { x with measuring := true })), by decide⟩,
    ⟨1, 3, 1, 49, 50, (State.reset), by decide⟩,
    ⟨1, 3, 1, 1, 50, (State.reset), by decide⟩,
    ⟨1, 3, 1, (State.reset), by decide⟩⟩

theorem met_PumpFaultsAct :
    (∃ (u : Nat) (w : Nat) (p : Nat) (f : Bool) (s : State), s.quiet ∧ s.pumpOk u w p = true ∧ s.flag (PM_STAT u w p)
      PM_STAT.LATCHED = false) ∧
    (∃ (u : Nat) (w : Nat) (p : Nat) (edges : Nat) (s : State), s.quiet ∧ s.pumpOk u w p = true ∧ (s.pump u w p).classify = true
      ∧ (s.pump u w p).counts = false ∧ 1 ≤ edges ∧ edges ≤ 3 ∧ s.rd (PM_STAT u w p) ctrCount + 1 < 0xFFFFFFFF) ∧
    (∃ (u : Nat) (w : Nat) (p : Nat) (edges : Nat) (e : Nat) (s : State), s.quiet ∧ s.pumpOk u w p = true ∧ (s.pump u w
      p).classify = true ∧ (s.pump u w p).counts = true ∧ s.service u w p ≠ 3 ∧ (s.flag HD_IMG_STAT HD_IMG_STAT.SAFE = false ∨ w
      = 14) ∧ e = (s.pump u w p).lowAt.getD s.clk.ns ∧ edges < 90 ∧ s.rd (PM_STAT u w p) ctrCount + 1 < 0xFFFFFFFF) ∧
    (∃ (u : Nat) (w : Nat) (p : Nat) (edges : Nat) (e : Nat) (s : State), s.quiet ∧ s.pumpOk u w p = true ∧ (s.pump u w
      p).classify = true ∧ (s.pump u w p).counts = true ∧ s.service u w p ≠ 3 ∧ (s.flag HD_IMG_STAT HD_IMG_STAT.SAFE = false ∨ w
      = 14) ∧ e = (s.pump u w p).lowAt.getD s.clk.ns ∧ edges < 90 ∧ s.rd (PM_STAT u w p) ctrCount + 1 < 0xFFFFFFFF) ∧
    (∃ (u : Nat) (w : Nat) (p : Nat) (edges : Nat) (e : Nat) (s : State), s.quiet ∧ s.pumpOk u w p = true ∧ (s.pump u w
      p).classify = true ∧ (s.pump u w p).counts = true ∧ s.service u w p ≠ 3 ∧ (s.flag HD_IMG_STAT HD_IMG_STAT.SAFE = false ∨ w
      = 14) ∧ e = (s.pump u w p).lowAt.getD s.clk.ns ∧ edges < 90 ∧ s.rd (PM_STAT u w p) ctrCount + 1 < 0xFFFFFFFF) ∧
    (∃ (u : Nat) (w : Nat) (p : Nat) (edges : Nat) (s : State), s.pumpOk u w p = true ∧ (s.pump u w p).classify = true ∧ (s.pump
      u w p).counts = true ∧ s.service u w p ≠ 3 ∧ 90 ≤ edges) ∧
    (∃ (u : Nat) (w : Nat) (p : Nat) (s : State), s.quiet ∧ s.pumpOk u w p = true ∧ (s.pump u w p).rearm = 1) ∧
    (∃ (u : Nat) (w : Nat) (p : Nat) (s : State), s.quiet ∧ s.pumpOk u w p = true ∧ (s.pump u w p).rearm = 2) ∧
    (∃ (u : Nat) (w : Nat) (p : Nat) (s : State), s.quiet ∧ s.pumpOk u w p = true ∧ (s.pump u w p).rearm = 3) ∧
    (∃ (u : Nat) (w : Nat) (p : Nat) (s : State), s.quiet ∧ s.pumpOk u w p = true ∧ s.flag (PM_STAT u w p) PM_STAT.LATCHED =
      true) ∧
    (∃ (u : Nat) (w : Nat) (p : Nat) (s : State), s.pumpOk u w p = true ∧ s.flag (PM_LINK u w p) PM_LINK.PEN = true ∧
      s.inService u w p = true ∧ s.img.trip < 2560) :=
  ⟨⟨1, 3, 1, true, (W [(PM_LINK 1 3 1, PM_LINK.PEN, 1)]), by decide⟩,
    ⟨1, 3, 1, 3, (onPu State.reset 1 3 1 (fun x => { x with classify := true, counts := false })), by decide⟩,
    ⟨1, 3, 1, 3, 500, (onPu { wet 1 3 5 with clk := { ns := 500 } } 1 3 1 (fun x =>
      { x with classify := true, counts := true })), by decide⟩,
    ⟨1, 3, 1, 0, 1000009, (onPu (also (wet 1 3 5) [(PM_LINK 1 3 1, PM_LINK.PEN, 1)]) 1 3 1 (fun x =>
      { x with classify := true, counts := true, lowAt := some 1000009, faultAt := some 9 })), by decide⟩,
    ⟨1, 3, 1, 89, 1000010, (onPu (also (wet 1 3 5) [(PM_LINK 1 3 1, PM_LINK.PEN, 1)]) 1 3 1 (fun x =>
      { x with classify := true, counts := true, lowAt := some 1000010, faultAt := some 9 })), by decide⟩,
    ⟨1, 3, 1, 90, (onPu (also (wet 1 3 5) [(PM_LINK 1 3 1, PM_LINK.PEN, 1)]) 1 3 1 (fun x =>
      { x with classify := true, counts := true })), by decide⟩,
    ⟨1, 3, 1, (onPu (W [(PM_LINK 1 3 1, PM_LINK.PEN, 1)]) 1 3 1 (fun x => { x with rearm := 1 })), by decide⟩,
    ⟨1, 3, 1, (onPu (W [(PM_STAT 1 3 1, PM_STAT.REARM_PEND, 1)]) 1 3 1 (fun x => { x with rearm := 2 })), by decide⟩,
    ⟨1, 3, 1, (onPu (W [(PM_STAT 1 3 1, PM_STAT.LATCHED, 1)]) 1 3 1 (fun x => { x with rearm := 3 })), by decide⟩,
    ⟨1, 3, 1, (onPu (W [(PM_STAT 1 3 1, PM_STAT.LATCHED, 1)]) 1 3 1 (fun x => { x with pwmHeld := true })), by decide⟩,
    ⟨1, 3, 1, ({ also (wet 1 3 5) [(PM_LINK 1 3 1, PM_LINK.PEN, 1)] with img := { trip := 2559 } }), by decide⟩⟩

theorem met_BusAndClock :
    (∃ (u : Nat) (s : State), s.quiet ∧ u < s.tileCount ∧ (s.tile u).busBad = none ∧ s.isHeld { src := 7, tile := u, sub := 1 }
      = false) ∧
    (∃ (u : Nat) (b : Nat) (s : State), s.quiet ∧ (s.tile u).busBad = some b) ∧
    (∃ (s : State), s.flag CL_TIME CL_TIME.SRC = false ∧ (s.ckMode = ckLocked ∨ s.ckMode = ckPullIn) ∧ s.rd HD_CLK HD_CLK.LOSSES
      + 1 < 0xFFFFFFFF) ∧
    (∃ (s : State), s.quiet ∧ (s.ckMode = ckHoldover ∨ s.ckMode = ckFree)) ∧
    (∃ (f : Int) (phi : Int) (s : State), s.quiet ∧ s.flag CL_TIME CL_TIME.SRC = false ∧ s.ckMode = ckPullIn) :=
  ⟨⟨1, (State.reset), by decide⟩,
    ⟨1, 1, (onTi { State.reset with fault := { held := [{ src := 7, tile := 1, sub := 1 }] } } 1 (fun x =>
      { x with busBad := some 1 })), by decide⟩,
    ⟨(W [(HD_CLK, HD_CLK.MODE, 2)]), by decide⟩,
    ⟨(State.reset), by decide⟩,
    ⟨100, 19, ({ W [(HD_CLK, HD_CLK.MODE, 2)] with clk := { dco := { near := 9 } } }), by decide⟩⟩

theorem met_PeriodsRegulate :
    (∃ (u : Nat) (w : Nat) (d : Nat) (s : State), s.quiet ∧ s.wellOk u w = true ∧ s.wet u w = true ∧ (w = 14 ∨ s.rd (PH_PWR u)
      PH_PWR.STATE = 0) ∧ s.stage u w = stVolt ∧ s.fallback u = false ∧ (s.mo u w).hystReq = false ∧ s.engineOk u w = true ∧
      s.tied u w = false ∧ (s.lp u w).mode = emNormal ∧ (s.lp u w).modePend = false ∧ (s.lp u w).bad = false ∧ (s.en u).byFault
      = false ∧ (s.lp u w).retry = false ∧ (∀ q ∈ (s.lp u w).queue, q.age ≠ 1) ∧ (s.lp u w).next.getD (s.lp u w).now = d ∧ d ≤
      0x7FFF) ∧
    (∃ (u : Nat) (w : Nat) (d : Nat) (s : State), s.quiet ∧ s.wellOk u w = true ∧ s.wet u w = true ∧ (w = 14 ∨ s.rd (PH_PWR u)
      PH_PWR.STATE = 0) ∧ s.stage u w = stVolt ∧ s.fallback u = false ∧ (s.mo u w).hystReq = false ∧ s.engineOk u w = true ∧
      s.tied u w = false ∧ (s.lp u w).mode = emNormal ∧ (s.lp u w).modePend = false ∧ (s.lp u w).bad = false ∧ (s.en u).byFault
      = false ∧ (s.lp u w).retry = false ∧ (∀ q ∈ (s.lp u w).queue, q.age ≠ 1) ∧ (s.lp u w).next.getD (s.lp u w).now = d ∧ d ≤
      0x7FFF) ∧
    (∃ (u : Nat) (w : Nat) (s : State), s.quiet ∧ s.wellOk u w = true ∧ s.wet u w = true ∧ (w = 14 ∨ s.rd (PH_PWR u)
      PH_PWR.STATE = 0) ∧ s.stage u w = stHyst) ∧
    (∃ (u : Nat) (w : Nat) (codes : List Int) (x : Int) (s : State), s.quiet ∧ s.wellOk u w = true ∧ s.flag (AD_WIN u w)
      AD_WIN.RUN = true ∧ s.wet u w = true ∧ s.stage u w = stVolt ∧ (s.lp u w).opened = true ∧ (s.lp u w).mode = emNormal ∧
      codes.length = 8 ∧ x = clampI (-1024) 1023 (codes.sum - s.rdi (AD_WIN u w) AD_WIN.OFFSET + ((8 * s.rd (AD_WIN u w)
      AD_WIN.VC : Nat) - sixteenth (s.mo u w).x : Int)) ∧ x.natAbs ≤ 8 * s.rd (WL_WIN u w) WL_WIN.WIN) ∧
    (∃ (u : Nat) (w : Nat) (q : Sample) (s : State), s.wellOk u w = true ∧ s.wet u w = true ∧ (w = 14 ∨ s.rd (PH_PWR u)
      PH_PWR.STATE = 0) ∧ s.stage u w = stVolt ∧ s.fallback u = false ∧ (s.mo u w).hystReq = false ∧ (s.lp u w).mode = emNormal
      ∧ (s.lp u w).retry = false ∧ (s.lp u w).queue = [q] ∧ q.age = 1 ∧ s.rd (PH_ENG_OVR u) ctrCount + 1 < 0xFFFFFFFF) ∧
    (∃ (u : Nat) (w : Nat) (q : Sample) (s : State), s.wellOk u w = true ∧ s.wet u w = true ∧ (w = 14 ∨ s.rd (PH_PWR u)
      PH_PWR.STATE = 0) ∧ s.stage u w = stVolt ∧ s.fallback u = false ∧ (s.mo u w).hystReq = false ∧ (s.lp u w).mode = emNormal
      ∧ (s.lp u w).retry = false ∧ (s.lp u w).queue = [q] ∧ q.age = 1 ∧ s.rd (PH_ENG_OVR u) ctrCount + 1 < 0xFFFFFFFF) :=
  ⟨⟨1, 3, 0x7FFF, (onLp (also (wet 1 3 5) [(PH_PWR 1, PH_PWR.STATE, 0)]) 1 3 (fun l => { l with next := some 0x7FFF })), by
      decide⟩,
    ⟨1, 14, 7000, (onLp (wet 1 14 5) 1 14 (fun l => { l with next := some 7000 })), by decide⟩,
    ⟨1, 3, (also (wet 1 3 4) [(PH_PWR 1, PH_PWR.STATE, 0)]), by decide⟩,
    ⟨1, 3, ([5, 127, 0, 0, 0, 0, 0, 0]), 132, (also (onMo (wet 1 3 5) 1 3 (fun m => { m with x := 0 })) [(AD_WIN 1 3,
      AD_WIN.RUN, 1), (AD_WIN 1 3, AD_WIN.VC, 0), (WL_WIN 1 3, WL_WIN.WIN, 40)]), by decide⟩,
    ⟨1, 3, ({ x := 5, age := 1 }), (onLp (also (wet 1 3 5) [(PH_PWR 1, PH_PWR.STATE, 0)]) 1 3 (fun l =>
      { l with queue := [{ x := 5, age := 1 }] })), by decide⟩,
    ⟨1, 14, ({ x := 5, age := 1 }), (onLp (wet 1 14 5) 1 14 (fun l => { l with queue := [{ x := 5, age := 1 }] })), by decide⟩⟩

theorem met_EvaluationsCommit :
    (∃ (u : Nat) (w : Nat) (q : Sample) (rest : List Sample) (s : State), s.quiet ∧ s.wellOk u w = true ∧ s.looped u w = true ∧
      s.laneOk u w = true ∧ s.retryAhead u w = false ∧ s.oldestFirst u w = true ∧ (s.lp u w).heldX = none ∧ (s.lp u w).queue = q
      :: rest ∧ (∀ v, v < 15 → (s.lp u v).outDue = false) ∧ (s.lp u w).mode ≠ emLockstep ∧ q.age < 2) ∧
    (∃ (u : Nat) (w : Nat) (q : Sample) (rest : List Sample) (s : State), s.quiet ∧ s.wellOk u w = true ∧ s.looped u w = true ∧
      s.laneOk u w = true ∧ s.retryAhead u w = false ∧ s.oldestFirst u w = true ∧ (s.lp u w).heldX = none ∧ (s.lp u w).queue = q
      :: rest ∧ (∀ v, v < 15 → (s.lp u v).outDue = false) ∧ (s.lp u w).mode ≠ emLockstep ∧ 2 ≤ q.age) ∧
    (∃ (u : Nat) (w : Nat) (q : Sample) (rest : List Sample) (s : State), s.quiet ∧ s.wellOk u w = true ∧ s.looped u w = true ∧
      s.laneOk u w = true ∧ s.retryAhead u w = false ∧ s.oldestFirst u w = true ∧ (s.lp u w).heldX = none ∧ (s.lp u w).queue = q
      :: rest ∧ (∀ v, v < 15 → (s.lp u v).outDue = false) ∧ (s.lp u w).mode = emLockstep) ∧
    (∃ (u : Nat) (w : Nat) (a : Bool) (b : Bool) (same : Bool) (x : Int) (s : State), s.quiet ∧ (s.lp u w).heldX = some x ∧
      (s.lp u w).retry = false ∧ (∀ v, v < 15 → (s.lp u v).outDue = false) ∧ (s.lp u w).mode ≠ emLockstep ∧ ((if s.engineOf u w
      = 0 then a else b) = true)) ∧
    (∃ (u : Nat) (w : Nat) (a : Bool) (b : Bool) (same : Bool) (x : Int) (s : State), s.quiet ∧ (s.lp u w).heldX = some x ∧
      (s.lp u w).retry = false ∧ (∀ v, v < 15 → (s.lp u v).outDue = false) ∧ (s.lp u w).heldAge < 2 ∧ (s.lp u w).mode ≠
      emLockstep ∧ ((if s.engineOf u w = 0 then a else b) = false)) ∧
    (∃ (u : Nat) (w : Nat) (x : Int) (s : State), s.quiet ∧ (s.lp u w).heldX = some x ∧ (s.lp u w).retry = false ∧ (∀ v, v < 15
      → (s.lp u v).outDue = false) ∧ (s.lp u w).heldAge < 2 ∧ (s.lp u w).mode = emLockstep) ∧
    (∃ (u : Nat) (w : Nat) (x : Int) (s : State), s.quiet ∧ (s.lp u w).heldX = some x ∧ (s.lp u w).retry = false ∧ (∀ v, v < 15
      → (s.lp u v).outDue = false) ∧ (s.lp u w).heldAge < 2 ∧ (s.lp u w).mode = emLockstep) ∧
    (∃ (u : Nat) (w : Nat) (a : Bool) (b : Bool) (same : Bool) (x : Int) (s : State), s.quiet ∧ w < 15 ∧ (s.lp u w).heldX = some
      x ∧ (s.lp u w).retry = true ∧ (∀ v, v < 15 → (s.lp u v).outDue = false) ∧ (s.lp u w).heldAge < 2 ∧ (s.lp u w).mode ≠
      emLockstep ∧ ((if s.engineOf u w = 0 then a else b) = true) ∧ s.rd (PH_ENG_STAT u) PH_ENG_STAT.TRANSIENTS + 1 <
      0xFFFFFFFF) ∧
    (∃ (u : Nat) (w : Nat) (a : Bool) (b : Bool) (same : Bool) (x : Int) (s : State), s.quiet ∧ w < 15 ∧ (s.lp u w).heldX = some
      x ∧ (s.lp u w).retry = true ∧ (∀ v, v < 15 → (s.lp u v).outDue = false) ∧ (s.lp u w).mode ≠ emLockstep ∧ ((if s.engineOf u
      w = 0 then a else b) = false)) ∧
    (∃ (u : Nat) (w : Nat) (e : Nat) (a : Bool) (b : Bool) (same : Bool) (x : Int) (s : State), s.quiet ∧ w < 15 ∧ e < 2 ∧ (s.lp
      u w).heldX = some x ∧ (s.lp u w).mode = emLockstep ∧ (∀ v, v < 15 → (s.lp u v).outDue = false) ∧ s.fallback u = false ∧
      s.engMode u = emLockstep ∧ s.failed u 0 = false ∧ s.failed u 1 = false ∧ ((s.lp u w).retry = true ∧ ((s.lp u w).failA ||
      !a) = decide (e = 0) ∧ ((s.lp u w).failB || !b) = decide (e = 1) ∧ ¬(a = true ∧ b = true ∧ same = true))) ∧
    (∃ (u : Nat) (w : Nat) (e : Nat) (a : Bool) (b : Bool) (same : Bool) (x : Int) (s : State), s.quiet ∧ w < 15 ∧ e < 2 ∧ (s.lp
      u w).heldX = some x ∧ (s.lp u w).mode = emLockstep ∧ (∀ v, v < 15 → (s.lp u v).outDue = false) ∧ s.fallback u = false ∧
      s.engMode u = emLockstep ∧ s.failed u 0 = false ∧ s.failed u 1 = false ∧ (s.lp u w).retry = false ∧ same = false ∧ a =
      decide (e = 1) ∧ b = decide (e = 0)) ∧
    (∃ (u : Nat) (w : Nat) (e : Nat) (a : Bool) (b : Bool) (same : Bool) (x : Int) (s : State), s.quiet ∧ w < 15 ∧ e < 2 ∧ (s.lp
      u w).heldX = some x ∧ (s.lp u w).mode = emLockstep ∧ (∀ v, v < 15 → (s.lp u v).outDue = false) ∧ s.fallback u = false ∧
      s.engMode u = emLockstep ∧ s.failed u 0 = false ∧ s.failed u 1 = false ∧ (s.lp u w).retry = true ∧ ((s.lp u w).failA ||
      !a) = ((s.lp u w).failB || !b) ∧ (¬(a = true ∧ b = true ∧ same = true))) ∧
    (∃ (u : Nat) (w : Nat) (e : Nat) (a : Bool) (b : Bool) (same : Bool) (x : Int) (s : State), s.quiet ∧ w < 15 ∧ e < 2 ∧ (s.lp
      u w).heldX = some x ∧ (s.lp u w).mode = emLockstep ∧ (∀ v, v < 15 → (s.lp u v).outDue = false) ∧ s.fallback u = false ∧
      s.engMode u = emLockstep ∧ s.failed u 0 = false ∧ s.failed u 1 = false ∧ (s.lp u w).retry = true ∧ ((s.lp u w).failA ||
      !a) = ((s.lp u w).failB || !b) ∧ (¬(a = true ∧ b = true ∧ same = true))) ∧
    (∃ (u : Nat) (w : Nat) (s : State), s.wellOk u w = true ∧ s.wet u w = true ∧ (w = 14 ∨ s.rd (PH_PWR u) PH_PWR.STATE = 0) ∧
      s.stage u w = stVolt ∧ s.fallback u = true ∧ s.tied u w = false) ∧
    (∃ (u : Nat) (w : Nat) (s : State), s.wellOk u w = true ∧ s.wet u w = true ∧ (w = 14 ∨ s.rd (PH_PWR u) PH_PWR.STATE = 0) ∧
      s.stage u w = stVolt ∧ s.fallback u = true ∧ s.tied u w = false) ∧
    (∃ (u : Nat) (w : Nat) (a : Bool) (b : Bool) (same : Bool) (r : OuterRes) (s : State), s.quiet ∧ w < 15 ∧ (s.lp u w).heldX =
      none ∧ (s.lp u w).outer = some r ∧ (s.lp u w).mode ≠ emLockstep ∧ (s.lp u w).outRetry = false ∧ ((if s.engineOf u w = 0
      then a else b) = true)) ∧
    (∃ (u : Nat) (w : Nat) (a : Bool) (b : Bool) (same : Bool) (r : OuterRes) (s : State), s.quiet ∧ w < 15 ∧ (s.lp u w).heldX =
      none ∧ (s.lp u w).outer = some r ∧ (s.lp u w).mode ≠ emLockstep ∧ (s.lp u w).outRetry = false ∧ ((if s.engineOf u w = 0
      then a else b) = false)) ∧
    (∃ (u : Nat) (w : Nat) (a : Bool) (b : Bool) (same : Bool) (r : OuterRes) (s : State), s.quiet ∧ w < 15 ∧ (s.lp u w).heldX =
      none ∧ (s.lp u w).outer = some r ∧ (s.lp u w).mode ≠ emLockstep ∧ (s.lp u w).outRetry = true ∧ ((if s.engineOf u w = 0
      then a else b) = true) ∧ (∀ v, v < 15 → (s.lp u v).outDue = false) ∧ s.rd (PH_ENG_STAT u) PH_ENG_STAT.TRANSIENTS + 1 <
      0xFFFFFFFF) :=
  ⟨⟨1, 3, ({ x := -40, age := 1 }), ([{ x := 7 }]), (onTi (onLp (also (wet 1 3 5) [(PH_PWR 1, PH_PWR.STATE, 0)]) 1 3 (fun l =>
      { l with queue := [{ x := -40, age := 1 }, { x := 7 }], now := 9729 })) 1 (fun x =>
      { x with en := { x.en with startTest := false } })), by decide⟩,
    ⟨1, 3, ({ x := -40, age := 2 }), ([]), (onTi (onLp (also (wet 1 3 5) [(PH_PWR 1, PH_PWR.STATE, 0)]) 1 3 (fun l =>
      { l with queue := [{ x := -40, age := 2 }], now := 9729 })) 1 (fun x =>
      { x with en := { x.en with startTest := false } })), by decide⟩,
    ⟨1, 3, ({ x := -40, age := 2 }), ([]), (onTi (onLp (also (wet 1 3 5) [(PH_PWR 1, PH_PWR.STATE, 0)]) 1 3 (fun l =>
      { l with queue := [{ x := -40, age := 2 }], mode := 1 })) 1 (fun x => { x with en := { x.en with startTest := false } })),
      by decide⟩,
    ⟨1, 3, true, true, true, 5, (onLp (wet 1 3 5) 1 3 (fun l => { l with heldX := some 5, heldDuty := 77 })), by decide⟩,
    ⟨1, 3, false, false, false, 5, (onLp (wet 1 3 5) 1 3 (fun l =>
      { l with heldX := some 5, heldDuty := 77, held0 := 3, held1 := 4, heldAge := 1 })), by decide⟩,
    ⟨1, 3, 5, (onLp (wet 1 3 5) 1 3 (fun l => { l with heldX := some 5, heldDuty := 77, mode := 1, heldAge := 1 })), by decide⟩,
    ⟨1, 3, 5, (onLp (wet 1 3 5) 1 3 (fun l => { l with heldX := some 5, heldDuty := 77, mode := 1 })), by decide⟩,
    ⟨1, 3, true, true, true, 5, (onLp (wet 1 3 5) 1 3 (fun l => { l with heldX := some 5, heldDuty := 77, retry := true })), by
      decide⟩,
    ⟨1, 3, false, false, true, 5, (onLp (wet 1 3 5) 1 3 (fun l => { l with heldX := some 5, heldDuty := 77, retry := true })),
      by decide⟩,
    ⟨1, 3, 1, true, false, true, 5, (onLp (also (wet 1 3 5) [(PH_ENG_STAT 1, PH_ENG_STAT.MODE, emLockstep)]) 1 3 (fun l =>
      { l with heldX := some 5, mode := emLockstep, retry := true })), by decide⟩,
    ⟨1, 14, 0, false, true, false, 5, (onLp (also (wet 1 14 5) [(PH_ENG_STAT 1, PH_ENG_STAT.MODE, emLockstep)]) 1 14 (fun l =>
      { l with heldX := some 5, mode := emLockstep })), by decide⟩,
    ⟨1, 3, 0, true, true, false, 5, (onLp (also (wet 1 3 5) [(PH_ENG_STAT 1, PH_ENG_STAT.MODE, emLockstep)]) 1 3 (fun l =>
      { l with heldX := some 5, mode := emLockstep, retry := true })), by decide⟩,
    ⟨1, 3, 1, false, false, true, 5, (onLp (also (wet 1 3 5) [(PH_ENG_STAT 1, PH_ENG_STAT.MODE, emLockstep)]) 1 3 (fun l =>
      { l with heldX := some 5, mode := emLockstep, retry := true })), by decide⟩,
    ⟨1, 14, (onMo (also (wet 1 14 5) [(PH_ENG_STAT 1, PH_ENG_STAT.HYST_FALLBACK, 1)]) 1 14 (fun m => { m with x := 5000 })), by
      decide⟩,
    ⟨1, 3, (also (wet 1 3 5) [(PH_ENG_STAT 1, PH_ENG_STAT.HYST_FALLBACK, 1), (PH_PWR 1, PH_PWR.STATE, 0)]), by decide⟩,
    ⟨1, 3, true, true, true, (⟨[], 5, 6, 7⟩), (onLp (wet 1 3 5) 1 3 (fun l => { l with outer := some ⟨[], 5, 6, 7⟩ })), by
      decide⟩,
    ⟨1, 3, false, false, true, (⟨[], 5, 6, 7⟩), (onLp (wet 1 3 5) 1 3 (fun l => { l with outer := some ⟨[], 5, 6, 7⟩ })), by
      decide⟩,
    ⟨1, 14, true, true, true, (⟨[], 5, 6, 7⟩), (onLp (wet 1 14 5) 1 14 (fun l =>
      { l with outer := some ⟨[], 5, 6, 7⟩, outRetry := true })), by decide⟩⟩

theorem met_EngineModesMove :
    (∃ (u : Nat) (e : Nat) (s : State), s.quiet ∧ s.tileOk u = true ∧ e < 2 ∧ ((if e = 0 then (s.en u).dueA else (s.en u).dueB)
      = true) ∧ (s.en u).startTest = false ∧ (s.engineIdle u e = true ∨ s.fallback u = true)) ∧
    (∃ (u : Nat) (e : Nat) (s : State), s.quiet ∧ s.tileOk u = true ∧ e < 2 ∧ ((if e = 0 then (s.en u).dueA else (s.en u).dueB)
      = true) ∧ (s.en u).startTest = false ∧ (s.engineIdle u e = true ∨ s.fallback u = true)) ∧
    (∃ (u : Nat) (d : Word) (s : State), s.quiet ∧ s.alone ∧ u < 96 ∧ s.takes (PH_ENG_CTRL u) d ∧ PH_ENG_CTRL.STEST.get d = 1 ∧
      PH_ENG_CTRL.MODE_REQ.get d = s.rd (PH_ENG_CTRL u) PH_ENG_CTRL.MODE_REQ) ∧
    (∃ (u : Nat) (d : Word) (s : State), s.quiet ∧ s.alone ∧ u < 96 ∧ s.takes (PH_ENG_CTRL u) d ∧ PH_ENG_CTRL.STEST.get d = 0 ∧
      PH_ENG_CTRL.MODE_REQ.get d ≠ s.rd (PH_ENG_CTRL u) PH_ENG_CTRL.MODE_REQ ∧ s.needsFailed u (PH_ENG_CTRL.MODE_REQ.get d) =
      false ∧ s.fallback u = false ∧ (s.en u).grant = none ∧ (s.en u).target = none) ∧
    (∃ (u : Nat) (d : Word) (s : State), s.quiet ∧ s.alone ∧ u < 96 ∧ s.takes (PH_ENG_CTRL u) d ∧ PH_ENG_CTRL.STEST.get d = 0 ∧
      PH_ENG_CTRL.MODE_REQ.get d ≠ s.rd (PH_ENG_CTRL u) PH_ENG_CTRL.MODE_REQ ∧ s.needsFailed u (PH_ENG_CTRL.MODE_REQ.get d) =
      true) ∧
    (∃ (u : Nat) (m : Nat) (s : State), s.quiet ∧ (s.en u).grant = some m ∧ m < 4 ∧ (∀ w, w < 15 → s.looped u w = false ∧ (s.lp
      u w).modePend = false)) ∧
    (∃ (u : Nat) (m : Nat) (w : Nat) (s : State), s.quiet ∧ (s.en u).grant = some m ∧ w < 15 ∧ s.looped u w = true) :=
  ⟨⟨1, 1, (onTi State.reset 1 (fun x => { x with en := { startTest := false } })), by decide⟩,
    ⟨1, 0, (onTi State.reset 1 (fun x => { x with en := { startTest := false } })), by decide⟩,
    ⟨1, 0x20, (asked (W [(PH_PWR 1, PH_PWR.STATE, 0), (PH_ENG_CTRL 1, PH_ENG_CTRL.MODE_REQ, 0)])), by decide⟩,
    ⟨1, 1, (asked (W [(PH_PWR 1, PH_PWR.STATE, 0), (PH_ENG_CTRL 1, PH_ENG_CTRL.MODE_REQ, 0)])), by decide⟩,
    ⟨1, 1, (asked (W [(PH_PWR 1, PH_PWR.STATE, 0), (PH_ENG_CTRL 1, PH_ENG_CTRL.MODE_REQ, 0), (PH_ENG_STAT 1,
      PH_ENG_STAT.FAILED_A, 1)])), by decide⟩,
    ⟨1, 3, (onTi State.reset 1 (fun x => { x with en := { grant := some 3 } })), by decide⟩,
    ⟨1, 1, 3, (onTi (wet 1 3 5) 1 (fun x => { x with en := { grant := some 1 } })), by decide⟩⟩

theorem met_ComparatorsAct :
    (∃ (u : Nat) (w : Nat) (dev : Int) (s : State), s.compares u w = true ∧ dev < -(8 * s.rd (WL_WIN u w) WL_WIN.HOLD_TH : Nat)
      ∧ s.flag (WL_HOLD u w) WL_HOLD.HOLD = false ∧ (∀ r, (s.lp u w).relAt = some r → r + 40 ≤ s.clk.ns) ∧ s.rd (WL_HOLD u w)
      WL_HOLD.HOLDS + 1 < 0xFFFFFFFF) ∧
    (∃ (u : Nat) (dev : Int) (s : State), s.quiet ∧ s.compares u 14 = true ∧ dev < -(8 * s.rd (WL_WIN u 14) WL_WIN.HOLD_TH :
      Nat) ∧ s.flag (WL_HOLD u 14) WL_HOLD.HOLD = false ∧ (s.lp u 14).relAt = none ∧ s.rd (WL_HOLD u 14) WL_HOLD.HOLDS + 1 <
      0xFFFFFFFF) ∧
    (∃ (u : Nat) (w : Nat) (dev : Int) (s : State), s.quiet ∧ s.flag (WL_HOLD u w) WL_HOLD.HOLD = true ∧ -((8 * s.rd (WL_WIN u
      w) WL_WIN.HOLD_TH : Nat) - (8 * s.rd (WL_WIN u w) WL_WIN.HOLD_HYS : Nat) : Int) ≤ dev) ∧
    (∃ (u : Nat) (w : Nat) (s : State), s.quiet ∧ s.flag (WL_HOLD u w) WL_HOLD.HOLD = true) ∧
    (∃ (u : Nat) (w : Nat) (dev : Int) (s : State), s.quiet ∧ s.compares u w = true ∧ ((8 * s.rd (WL_WIN u w) WL_WIN.OV_TH :
      Nat) : Int) < dev) ∧
    (∃ (u : Nat) (w : Nat) (dev : Int) (s : State), s.quiet ∧ s.flag (WL_HOLD u w) WL_HOLD.OV = true ∧ dev < ((8 * s.rd (WL_WIN
      u w) WL_WIN.OV_TH : Nat) - (8 * s.rd (WL_WIN u w) WL_WIN.HOLD_HYS : Nat) : Int)) :=
  ⟨⟨1, 3, (-2000), (also (wet 1 3 5) [(WL_WIN 1 3, WL_WIN.HOLD_TH, 40)]), by decide⟩,
    ⟨1, (-2000), (also (wet 1 14 5) [(WL_WIN 1 14, WL_WIN.HOLD_TH, 40)]), by decide⟩,
    ⟨1, 3, 0, (also (wet 1 3 5) [(WL_HOLD 1 3, WL_HOLD.HOLD, 1), (WL_WIN 1 3, WL_WIN.HOLD_TH, 40)]), by decide⟩,
    ⟨1, 3, (also (wet 1 3 5) [(WL_HOLD 1 3, WL_HOLD.HOLD, 1), (WL_WIN 1 3, WL_WIN.HOLD_TH, 40)]), by decide⟩,
    ⟨1, 3, 5000, (also (wet 1 3 5) [(WL_WIN 1 3, WL_WIN.OV_TH, 40)]), by decide⟩,
    ⟨1, 3, (-5000), (also (wet 1 3 5) [(WL_HOLD 1 3, WL_HOLD.OV, 1), (WL_WIN 1 3, WL_WIN.OV_TH, 40)]), by decide⟩⟩

theorem met_SetPointMoves :
    (∃ (u : Nat) (w : Nat) (s : State), s.quiet ∧ s.wellOk u w = true ∧ stPriming ≤ s.stage u w ∧ (s.mo u w).dropPend = false ∧
      s.tracks u w = false ∧ s.safeWell u w = false ∧ captured (s.limits u w) (s.goalOf u w) (profStep (s.limits u w) (s.goalOf
      u w) (s.mo u w).x (s.mo u w).v (s.mo u w).a).1 (profStep (s.limits u w) (s.goalOf u w) (s.mo u w).x (s.mo u w).v (s.mo u
      w).a).2.1 (profStep (s.limits u w) (s.goalOf u w) (s.mo u w).x (s.mo u w).v (s.mo u w).a).2.2 = false) ∧
    (∃ (u : Nat) (w : Nat) (s : State), s.quiet ∧ s.wellOk u w = true ∧ stPriming ≤ s.stage u w ∧ (s.mo u w).dropPend = false ∧
      s.tracks u w = false ∧ s.safeWell u w = false ∧ captured (s.limits u w) (s.goalOf u w) (profStep (s.limits u w) (s.goalOf
      u w) (s.mo u w).x (s.mo u w).v (s.mo u w).a).1 (profStep (s.limits u w) (s.goalOf u w) (s.mo u w).x (s.mo u w).v (s.mo u
      w).a).2.1 (profStep (s.limits u w) (s.goalOf u w) (s.mo u w).x (s.mo u w).v (s.mo u w).a).2.2 = true) ∧
    (∃ (u : Nat) (w : Nat) (s : State), s.quiet ∧ s.wellOk u w = true ∧ stPriming ≤ s.stage u w ∧ (s.mo u w).dropPend = false ∧
      s.tracks u w = false ∧ s.safeWell u w = false ∧ captured (s.limits u w) (s.goalOf u w) (profStep (s.limits u w) (s.goalOf
      u w) (s.mo u w).x (s.mo u w).v (s.mo u w).a).1 (profStep (s.limits u w) (s.goalOf u w) (s.mo u w).x (s.mo u w).v (s.mo u
      w).a).2.1 (profStep (s.limits u w) (s.goalOf u w) (s.mo u w).x (s.mo u w).v (s.mo u w).a).2.2 = true) ∧
    (∃ (u : Nat) (w : Nat) (s : State), s.quiet ∧ s.wellOk u w = true ∧ stPriming ≤ s.stage u w ∧ (s.mo u w).dropPend = false ∧
      s.tracks u w = false ∧ s.safeWell u w = false ∧ captured (s.limits u w) (s.goalOf u w) (profStep (s.limits u w) (s.goalOf
      u w) (s.mo u w).x (s.mo u w).v (s.mo u w).a).1 (profStep (s.limits u w) (s.goalOf u w) (s.mo u w).x (s.mo u w).v (s.mo u
      w).a).2.1 (profStep (s.limits u w) (s.goalOf u w) (s.mo u w).x (s.mo u w).v (s.mo u w).a).2.2 = true) ∧
    (∃ (u : Nat) (w : Nat) (d : Word) (s : State), s.quiet ∧ s.alone ∧ u < 96 ∧ w < 14 ∧ s.takes (WL_SETPT u w) d ∧ s.owned u w
      = false) ∧
    (∃ (u : Nat) (w : Nat) (d : Word) (s : State), s.quiet ∧ s.alone ∧ u < 96 ∧ w < 15 ∧ s.takes (WL_SETPT u w) d ∧ (w = 14 ∨
      s.owned u w = true)) ∧
    (∃ (u : Nat) (w : Nat) (d : Word) (s : State), s.quiet ∧ s.alone ∧ u < 96 ∧ w < 15 ∧ s.takes (WL_SETPT u w) d ∧ (w = 14 ∨
      s.owned u w = true)) ∧
    (∃ (u : Nat) (w : Nat) (s : State), (s.mo u w).handReq = true ∧ w < 14 ∧ s.fallback u = false ∧ (s.en u).startTest = false ∧
      s.handReady u w = true) ∧
    (∃ (u : Nat) (w : Nat) (p : Nat) (code : Int) (s : State), s.quiet ∧ s.wellOk u w = true ∧ s.pulses u w = true ∧ s.nextPulse
      u w = some p ∧ 8 * code - s.rdi (AD_WIN u w) AD_WIN.OFFSET + ((8 * s.rd (AD_WIN u w) AD_WIN.VC : Nat) - sixteenth (s.mo u
      w).x) < -(s.bandOf u w) ∧ (s.lp u w).lastOn = none ∧ s.flag (WL_HOLD u w) WL_HOLD.OV = false) ∧
    (∃ (u : Nat) (w : Nat) (p : Nat) (ton : Nat) (code : Int) (s : State), s.quiet ∧ s.pumpOk u w p = true ∧ (s.pump u w
      p).pulse = true ∧ 10000 ≤ ton ∧ ((s.bandOf u w < s.senseOf u w code ∧ (ton ≤ s.tonMax u w ∨ s.safeWell u w = true)) ∨ (ton
      = s.tonMax u w ∧ s.safeWell u w = false))) ∧
    (∃ (u : Nat) (w : Nat) (p : Nat) (ton : Nat) (code : Int) (s : State), s.quiet ∧ s.pumpOk u w p = true ∧ (s.pump u w
      p).pulse = true ∧ 10000 ≤ ton ∧ ((s.bandOf u w < s.senseOf u w code ∧ (ton ≤ s.tonMax u w ∨ s.safeWell u w = true)) ∨ (ton
      = s.tonMax u w ∧ s.safeWell u w = false))) ∧
    (∃ (u : Nat) (w : Nat) (p : Nat) (s : State), s.quiet ∧ s.pumpOk u w p = true ∧ (s.pump u w p).pulse = false ∧ (s.pump u w
      p).readyAt ≤ s.clk.ns) :=
  ⟨⟨1, 3, (onMo (wet 1 3 5) 1 3 (fun m => { m with x := 100000 })), by decide⟩,
    ⟨1, 3, (wet 1 3 5), by decide⟩,
    ⟨1, 3, (wet 1 3 3), by decide⟩,
    ⟨1, 12, (wet 1 12 6), by decide⟩,
    ⟨1, 3, 0x3200000000000000, (asked State.reset), by decide⟩,
    ⟨1, 14, 0x3200000000000000, (asked State.reset), by decide⟩,
    ⟨1, 3, 0x3200000000000000, (asked (W [(WL_SETPT 1 3, WL_SETPT.OWNED, 1)])), by decide⟩,
    ⟨1, 3, (onTi (onMo (onLp (also (wet 1 3 4) [(WL_PROF_STAT 1 3, WL_PROF_STAT.SETTLED, 1), (PH_BUS 1, PH_BUS.BUS, 6000)]) 1 3
      (fun l => { l with bandOk := true, vMean := 12800 })) 1 3 (fun m => { m with handReq := true })) 1 (fun x =>
      { x with en := { x.en with startTest := false } })), by decide⟩,
    ⟨1, 3, 0, (-120), (also (onMo (wet 1 3 4) 1 3 (fun m => { m with x := 65536 * 100 })) [(PM_LINK 1 3 0, PM_LINK.PEN, 1),
      (PM_LINK 1 3 1, PM_LINK.PEN, 1)]), by decide⟩,
    ⟨1, 3, 1, 10000, 120, (onPu (onMo (wet 1 3 4) 1 3 (fun m => { m with x := 0 })) 1 3 1 (fun x => { x with pulse := true })),
      by decide⟩,
    ⟨1, 3, 1, ((onPu (wet 1 3 4) 1 3 1 (fun x => { x with pulse := true })).tonMax 1 3), (-120), (onPu (wet 1 3 4) 1 3 1 (fun x
      => { x with pulse := true })), by decide⟩,
    ⟨1, 3, 1, (onPu (wet 1 3 4) 1 3 1 (fun x => { x with ready := false })), by decide⟩⟩

theorem met_PrimingAndLoad :
    (∃ (u : Nat) (w : Nat) (p : Nat) (s : State), s.wellOk u w = true ∧ s.stage u w = stWait ∧ s.safeWell u w = false ∧ s.tracks
      u w = false ∧ s.followersOf u w = [] ∧ s.stopped u = false ∧ p < s.installed u w ∧ s.service u w p ≠ 3 ∧ (w = 12 ∨ w = 13
      ∨ (w < 12 ∧ 8 ≤ (s.mo u w).admitRun ∧ s.admits u w = true ∧ s.admitFirst u w = true ∧ s.admitGap u w = true))) ∧
    (∃ (u : Nat) (w : Nat) (p : Nat) (s : State), s.wellOk u w = true ∧ s.stage u w = stWait ∧ s.safeWell u w = false ∧ s.tracks
      u w = false ∧ s.followersOf u w = [] ∧ s.stopped u = false ∧ p < s.installed u w ∧ s.service u w p ≠ 3 ∧ (w = 12 ∨ w = 13
      ∨ (w < 12 ∧ 8 ≤ (s.mo u w).admitRun ∧ s.admits u w = true ∧ s.admitFirst u w = true ∧ s.admitGap u w = true))) ∧
    (∃ (u : Nat) (w : Nat) (s : State), s.quiet ∧ w < 12 ∧ s.safeWell u w = false ∧ ((s.mo u w).admitRun < 8 ∨ s.primeHead u w <
      s.inrush u w ∨ TopoCist.INRUSH.geti (s.cistWord u (w / 4)) < s.inrushUse u (w / 4) + s.inrush u w)) ∧
    (∃ (u : Nat) (w : Nat) (s : State), s.quiet ∧ w < 12 ∧ s.safeWell u w = false ∧ ((s.mo u w).admitRun < 8 ∨ s.primeHead u w <
      s.inrush u w ∨ TopoCist.INRUSH.geti (s.cistWord u (w / 4)) < s.inrushUse u (w / 4) + s.inrush u w)) ∧
    (∃ (u : Nat) (w : Nat) (s : State), w < 12 ∧ s.stage u w = stWait ∧ (s.tracks u w = true ∨ (s.mo u w).oneCheck = false)) ∧
    (∃ (u : Nat) (w : Nat) (s : State), w < 12 ∧ s.stage u w = stWait ∧ (s.tracks u w = true ∨ (s.mo u w).oneCheck = false)) ∧
    (∃ (u : Nat) (w : Nat) (s : State), s.quiet ∧ s.stage u w = stPriming ∧ s.flag (WL_PROF_STAT u w) WL_PROF_STAT.PAUSED = true
      ∧ 8 ≤ (s.mo u w).headRun ∧ (s.mo u w).trkFail = false) ∧
    (∃ (u : Nat) (w : Nat) (p : Nat) (s : State), s.quiet ∧ s.voltedOk u w = true ∧ s.stage u w = stPark ∧ (s.mo u w).dropPend =
      false ∧ p < s.installed u w) ∧
    (∃ (u : Nat) (w : Nat) (edges : List (List Nat)) (s : State), s.wellOk u w = true ∧ (w = 14 ∨ s.rd (PH_PWR u) PH_PWR.STATE ≠
      1)) ∧
    (∃ (u : Nat) (w : Nat) (edges : List (List Nat)) (s : State), s.wellOk u w = true ∧ (w = 14 ∨ s.rd (PH_PWR u) PH_PWR.STATE ≠
      1)) ∧
    (∃ (u : Nat) (w : Nat) (edges : List (List Nat)) (s : State), s.wellOk u w = true ∧ (w = 14 ∨ s.rd (PH_PWR u) PH_PWR.STATE ≠
      1)) ∧
    (∃ (u : Nat) (w : Nat) (p : Nat) (n : Nat) (s : State), s.khz u * 8 / 1000 ≠ 0) ∧
    (∃ (u : Nat) (w : Nat) (p : Nat) (n : Nat) (s : State), s.khz u * 8 / 1000 ≠ 0 ∧ s.faultPeriod u w p = true) ∧
    (∃ (u : Nat) (w : Nat) (p : Nat) (n : Nat) (s : State), s.khz u * 8 / 1000 ≠ 0 ∧ s.faultPeriod u w p = false ∧ s.implausible
      u w p n = true) ∧
    (∃ (u : Nat) (w : Nat) (p : Nat) (n : Nat) (s : State), s.khz u * 8 / 1000 ≠ 0 ∧ s.faultPeriod u w p = false ∧ s.implausible
      u w p n = false) ∧
    (∃ (u : Nat) (w : Nat) (free : Bool) (s : State), s.installed u w ≤ 4 ∧ s.wet u w = false) ∧
    (∃ (u : Nat) (w : Nat) (free : Bool) (s : State), s.installed u w ≤ 4 ∧ s.wet u w = true) ∧
    (∃ (u : Nat) (w : Nat) (free : Bool) (s : State), s.installed u w ≤ 4 ∧ s.wet u w = true ∧ (free = true ∨ s.stage u w ≠
      stVolt) ∧ (∀ p, p < 4 → (s.pump u w p).rises = false)) ∧
    (∃ (u : Nat) (w : Nat) (free : Bool) (s : State), s.installed u w ≤ 4 ∧ s.wet u w = true ∧ (free = true ∨ s.stage u w ≠
      stVolt) ∧ (∀ p, p < 4 → (s.pump u w p).rises = false)) ∧
    (∃ (u : Nat) (w : Nat) (free : Bool) (s : State), s.installed u w ≤ 4 ∧ free = false ∧ s.stage u w = stVolt) ∧
    (∃ (u : Nat) (w : Nat) (free : Bool) (s : State) (p : Nat), s.installed u w ≤ 4 ∧ free = false ∧ s.stage u w = stVolt ∧ p <
      s.installed u w) ∧
    (∃ (u : Nat) (w : Nat) (free : Bool) (s : State), s.installed u w ≤ 4 ∧ w < 12) ∧
    (∃ (u : Nat) (w : Nat) (free : Bool) (s : State), s.installed u w ≤ 4) ∧
    (∃ (u : Nat) (w : Nat) (s : State), s.groupWells u w = [w]) ∧
    (∃ (u : Nat) (w : Nat) (s : State) (p : Nat), s.groupWells u w = [w] ∧ s.unloading u w = false ∧ s.installed u w ≤ 4 ∧
      (¬(s.rd (WL_TIE u w) WL_TIE.ROLE = 2 ∧ 2 ≤ s.rd (WL_TIE u w) WL_TIE.PHASE)) ∧ (p ∈ ((s.pumpsOf u w).filter (fun p =>
      s.service u w p == 1 && !(s.pump u w p).pwmHeld && !(s.pump u w p).inTest)))) ∧
    (∃ (u : Nat) (w : Nat) (s : State) (p : Nat), s.groupWells u w = [w] ∧ s.unloading u w = false ∧ s.installed u w ≤ 4 ∧
      (¬(s.rd (WL_TIE u w) WL_TIE.ROLE = 2 ∧ 2 ≤ s.rd (WL_TIE u w) WL_TIE.PHASE)) ∧ p < s.installed u w ∧ s.service u w p ≠ 1 ∧
      (s.pump u w p).inTest = false) ∧
    (∃ (u : Nat) (w : Nat) (s : State), s.groupWells u w = [w] ∧ s.unloading u w = false ∧ s.installed u w ≤ 4 ∧ (¬(s.rd (WL_TIE
      u w) WL_TIE.ROLE = 2 ∧ 2 ≤ s.rd (WL_TIE u w) WL_TIE.PHASE))) ∧
    (∃ (u : Nat) (w : Nat) (s : State), w < 14 ∧ s.tied u w = false ∧ (s.sh u w).newTie = none ∧ (s.sh u w).ovlRest = false ∧
      s.flag (WL_CHK u w) WL_CHK.SENSE_OPEN = false ∧ (s.sh u w).pr.want = s.rd (WL_TIE u w) WL_TIE.PROT_REST) ∧
    (∃ (u : Nat) (w : Nat) (s : State) (n : Nat), w < 14 ∧ s.tied u w = false ∧ (s.sh u w).newTie = none ∧ (s.sh u w).ovlRest =
      false ∧ s.flag (WL_CHK u w) WL_CHK.SENSE_OPEN = false ∧ (s.sh u w).pr.want = s.rd (WL_TIE u w) WL_TIE.PROT_REST ∧
      s.hasDeficit u w = true ∧ w < 12 ∧ s.pickTie u w false 0 = some n) ∧
    (∃ (u : Nat) (w : Nat) (s : State) (n : Nat), w < 14 ∧ s.tied u w = false ∧ (s.sh u w).newTie = none ∧ (s.sh u w).ovlRest =
      false ∧ s.flag (WL_CHK u w) WL_CHK.SENSE_OPEN = false ∧ (s.sh u w).pr.want = s.rd (WL_TIE u w) WL_TIE.PROT_REST ∧
      s.hasDeficit u w = true ∧ w < 12 ∧ s.pickTie u w false 0 = some n) ∧
    (∃ (u : Nat) (w : Nat) (s : State) (r : Nat), w < 14 ∧ s.tied u w = false ∧ (s.sh u w).newTie = none ∧ (s.sh u w).ovlRest =
      false ∧ s.flag (WL_CHK u w) WL_CHK.SENSE_OPEN = false ∧ (s.sh u w).pr.want = s.rd (WL_TIE u w) WL_TIE.PROT_REST ∧
      s.hasDeficit u w = true ∧ (12 ≤ w ∨ s.pickTie u w false 0 = none) ∧ r < 16 ∧ s.restMeets u w (s.deficitF u w) 0 r = true ∧
      (∀ q, q < r → s.restMeets u w (s.deficitF u w) 0 q = false)) ∧
    (∃ (u : Nat) (w : Nat) (s : State) (r : Nat), w < 14 ∧ s.tied u w = false ∧ (s.sh u w).newTie = none ∧ (s.sh u w).ovlRest =
      false ∧ s.flag (WL_CHK u w) WL_CHK.SENSE_OPEN = false ∧ (s.sh u w).pr.want = s.rd (WL_TIE u w) WL_TIE.PROT_REST ∧
      s.hasDeficit u w = true ∧ (12 ≤ w ∨ s.pickTie u w false 0 = none) ∧ r < 16 ∧ s.restMeets u w (s.deficitF u w) 0 r = true ∧
      (∀ q, q < r → s.restMeets u w (s.deficitF u w) 0 q = false)) ∧
    (∃ (u : Nat) (w : Nat) (s : State), w < 14 ∧ s.tied u w = false ∧ (s.sh u w).newTie = none ∧ (s.sh u w).ovlRest = false ∧
      s.flag (WL_CHK u w) WL_CHK.SENSE_OPEN = false ∧ (s.sh u w).pr.want = s.rd (WL_TIE u w) WL_TIE.PROT_REST ∧ s.hasDeficit u w
      = true ∧ (12 ≤ w ∨ s.pickTie u w false 0 = none) ∧ (∀ r, r < 16 → s.restMeets u w (s.deficitF u w) 0 r = false)) ∧
    (∃ (u : Nat) (w : Nat) (s : State), w < 14 ∧ s.tied u w = false ∧ (s.sh u w).newTie = none ∧ (s.sh u w).ovlRest = false ∧
      s.flag (WL_CHK u w) WL_CHK.SENSE_OPEN = false ∧ (s.sh u w).pr.want = s.rd (WL_TIE u w) WL_TIE.PROT_REST ∧ s.hasDeficit u w
      = true ∧ (12 ≤ w ∨ s.pickTie u w false 0 = none) ∧ (∀ r, r < 16 → s.restMeets u w (s.deficitF u w) 0 r = false) ∧ (s.sh u
      w).satur = false) ∧
    (∃ (u : Nat) (w : Nat) (s : State), w < 14 ∧ s.tied u w = false ∧ (s.sh u w).newTie = none ∧ (s.sh u w).ovlRest = false ∧
      s.flag (WL_CHK u w) WL_CHK.SENSE_OPEN = false ∧ (s.sh u w).pr.want = s.rd (WL_TIE u w) WL_TIE.PROT_REST ∧ s.hasDeficit u w
      = false ∧ (12 ≤ w ∨ s.cistOver u (w / 4) = false)) ∧
    (∃ (u : Nat) (w : Nat) (s : State), s.quiet ∧ s.voltedOk u w = true ∧ (s.sh u w).ovlRest = false ∧ 0 < s.khz u ∧ 2000000 *
      s.khz u ≤ (s.sh u w).excess ∧ (s.sh u w).pr.want < 15) ∧
    (∃ (n : Nat) (e : Nat) (s : State), s.quiet ∧ s.capEvents[n]? = some e ∧ e < 4096 ∧ e % 16 < 14 ∧ s.tileOk (e / 16) = true ∧
      s.flag (WL_TIE (e / 16) (e % 16)) WL_TIE.DEFICIT = false ∧ s.flag (WL_CHK (e / 16) (e % 16)) WL_CHK.CRACK = false ∧ s.flag
      (WL_CHK (e / 16) (e % 16)) WL_CHK.SENSE_OPEN = true ∧ s.wellClass (e / 16) (e % 16) < 3 ∧ s.clk.fast ≠ .sleep ∧ (∃ k ∈
      fedClusters (e % 16), s.mapState (e / 16) k ∈ [0, 4, 5])) ∧
    (∃ (n : Nat) (s : State), s.quiet ∧ s.clk.fast = .sleep) :=
  ⟨⟨1, 12, 1, (W [(HD_IMG_STAT, HD_IMG_STAT.STATE, 4), (WL_SETPT 1 12, WL_SETPT.STAGE, 2)]), by decide⟩,
    ⟨1, 11, 2, (onMo (W [(HD_IMG_STAT, HD_IMG_STAT.STATE, 4), (WL_SETPT 1 11, WL_SETPT.STAGE, 2)]) 1 11 (fun m =>
      { m with admitRun := 8 })), by decide⟩,
    ⟨1, 11, (onMo State.reset 1 11 (fun m => { m with admitRun := 7 })), by decide⟩,
    ⟨1, 3, (onMo (onMo State.reset 1 3 (fun m => { m with admitRun := 8 })) 1 2 (fun m => { m with reserved := 60000 })), by
      decide⟩,
    ⟨1, 11, (onMo (W [(WL_SETPT 1 11, WL_SETPT.STAGE, 2)]) 1 11 (fun m => { m with admitRun := 7 })), by decide⟩,
    ⟨1, 3, (onMo (onMo (W [(WL_SETPT 1 3, WL_SETPT.STAGE, 2)]) 1 3 (fun m => { m with admitRun := 7 })) 1 2 (fun m =>
      { m with reserved := 60000 })), by decide⟩,
    ⟨1, 3, (onMo (also (wet 1 3 3) [(WL_PROF_STAT 1 3, WL_PROF_STAT.PAUSED, 1)]) 1 3 (fun m => { m with headRun := 8 })), by
      decide⟩,
    ⟨1, 3, 0, (also (wet 1 3 6) [(PM_LINK 1 3 0, PM_LINK.PEN, 1)]), by decide⟩,
    ⟨1, 3, ([[], [], [], []]), (also (wet 1 3 5) [(PH_PWR 1, PH_PWR.STATE, 0)]), by decide⟩,
    ⟨1, 3, ([[169], [169], [], []]), (also (wet 1 3 5) [(PH_PWR 1, PH_PWR.STATE, 0)]), by decide⟩,
    ⟨1, 14, ([]), (State.reset), by decide⟩,
    ⟨1, 3, 1, 169, (also (wet 1 3 5) [(PM_ISNS 1 3 1, PM_ISNS.COUNT, 160)]), by decide⟩,
    ⟨1, 3, 1, 5000, (also (wet 1 3 5) [(PM_STAT 1 3 1, PM_STAT.LATCHED, 1)]), by decide⟩,
    ⟨1, 3, 1, 13, (wet 1 3 5), by decide⟩,
    ⟨1, 3, 1, 64, (wet 1 3 5), by decide⟩,
    ⟨1, 3, false, (State.reset), by decide⟩,
    ⟨1, 3, false, (wet 1 3 5), by decide⟩,
    ⟨1, 11, true, (wet 1 11 5), by decide⟩,
    ⟨1, 13, false, (wet 1 13 4), by decide⟩,
    ⟨1, 3, false, (wet 1 3 5), by decide⟩,
    ⟨1, 3, false, (wet 1 3 5), 1, by decide⟩,
    ⟨1, 11, true, (wet 1 11 5), by decide⟩,
    ⟨1, 14, true, (wet 1 14 5), by decide⟩,
    ⟨1, 3, (onLp (also (wet 1 3 5) [(WL_OUTER 1 3, WL_OUTER.R_LL, 200), (WL_SETPT 1 3, WL_SETPT.V_CMD, 1500)]) 1 3 (fun l =>
      { l with iW := 640 })), by decide⟩,
    ⟨1, 3, (also (wet 1 3 5) [(PM_ISNS 1 3 1, PM_ISNS.CURRENT, 640), (WL_OUTER 1 3, WL_OUTER.K_SH, 32), (WL_OUTER 1 3,
      WL_OUTER.SH_LIM, 100), (WL_SHARE 1 3, shareFld 0, 7)]), 1, by decide⟩,
    ⟨1, 3, (also (wet 1 3 5) [(WL_SHARE 1 3, shareFld 2, 7)]), 2, by decide⟩,
    ⟨1, 3, (also (wet 1 3 5) [(WL_SHARE 1 3, shareFld 2, 7)]), by decide⟩,
    ⟨1, 3, (wet 1 3 5), by decide⟩,
    ⟨1, 0, (onSh (also (wet 1 0 5) [(WL_SETPT 1 1, WL_SETPT.STAGE, 5), (PM_STAT 1 1 0, PM_STAT.SERVICE, 1), (WL_CAP 1 1,
      WL_CAP.CONT, 50)]) 1 0 (fun x => { x with fcast := 10 })), 0, by decide⟩,
    ⟨1, 0, (onSh (also (wet 1 0 5) [(WL_SETPT 1 3, WL_SETPT.STAGE, 5), (PM_STAT 1 3 0, PM_STAT.SERVICE, 1), (WL_CAP 1 3,
      WL_CAP.CONT, 1)]) 1 0 (fun x => { x with fcast := 10 })), 3, by decide⟩,
    ⟨1, 13, (onSh (also (wet 1 13 5) [(WL_CAP 1 13, WL_CAP.CONT, 50)]) 1 13 (fun x => { x with fcast := 100 })), 8, by decide⟩,
    ⟨1, 3, (onSh (also (wet 1 3 5) [(WL_CAP 1 3, WL_CAP.CONT, 10), (WL_CAP 1 3, WL_CAP.PEAK, 10)]) 1 3 (fun x =>
      { x with fcast := 160 })), 15, by decide⟩,
    ⟨1, 3, (onSh (wet 1 3 5) 1 3 (fun x => { x with fcast := 10 })), by decide⟩,
    ⟨1, 13, (onSh (wet 1 13 5) 1 13 (fun x => { x with fcast := 10 })), by decide⟩,
    ⟨1, 3, (also (wet 1 3 5) [(WL_TIE 1 3, WL_TIE.PROT_REST, 0)]), by decide⟩,
    ⟨1, 3, (onSh (wet 1 3 5) 1 3 (fun x => { x with excess := 2000000 * 6000 })), by decide⟩,
    ⟨0, 19, ({ W [(WL_CHK 1 3, WL_CHK.SENSE_OPEN, 1)] with capEvents := [19] }), by decide⟩,
    ⟨0, ({ State.reset with clk := { fast := .sleep }, capEvents := [19] }), by decide⟩⟩

theorem met_SequencerRuns :
    (∃ (n : Nat) (d : Word) (s : State), s.quiet ∧ s.alone ∧ n < 8 ∧ s.takes (SQ_CTRL n) d ∧ SQ_CTRL.START.get d = 1 ∧
      SQ_CTRL.ABORT.get d = 0 ∧ s.sqState n = 0 ∧ s.active = true ∧ (s.program (SQ_CTRL.PROG.get d)).isSome = true) ∧
    (∃ (n : Nat) (d : Word) (s : State), s.quiet ∧ s.alone ∧ n < 8 ∧ s.takes (SQ_CTRL n) d ∧ SQ_CTRL.START.get d = 1 ∧
      SQ_CTRL.ABORT.get d = 0 ∧ (s.sqState n ≠ 0 ∨ s.active = false ∨ s.program (SQ_CTRL.PROG.get d) = none)) ∧
    (∃ (n : Nat) (s : State), s.quiet ∧ n < 8 ∧ s.sqState n = 1 ∧ opOf (s.instrAt n) ≠ 0) ∧
    (∃ (n : Nat) (s : State), s.quiet ∧ n < 8 ∧ s.sqState n = 0 ∧ (s.sq n).ended = some s.clk.beat) ∧
    (∃ (n : Nat) (s : State), s.quiet ∧ n < 8 ∧ s.sqState n = 0 ∧ (s.sq n).ended ≠ some s.clk.beat) ∧
    (∃ (n : Nat) (s : State), s.quiet ∧ s.issues n 0 = true) ∧
    (∃ (n : Nat) (s : State), s.quiet ∧ s.issues n 1 = true ∧ s.rd (SQ_STAT n) SQ_STAT.PC + 1 < 1024) ∧
    (∃ (n : Nat) (c : Nat) (s : State), s.quiet ∧ s.issues n 9 = true ∧ c = s.instrAt n / 67108864 % 4 ∧ s.rd (SQ_STAT n)
      SQ_STAT.PC + 1 < 1024 ∧ 0 ≤ (s.rd (SQ_STAT n) SQ_STAT.PC : Int) + jmpOff (s.instrAt n) ∧ (s.rd (SQ_STAT n) SQ_STAT.PC :
      Int) + jmpOff (s.instrAt n) < 1024) ∧
    (∃ (n : Nat) (s : State), s.quiet ∧ s.issues n 0xF = true ∧ s.rd (SQ_STAT n) SQ_STAT.PC + 1 < 1024) ∧
    (∃ (n : Nat) (s : State), s.quiet ∧ n < 8 ∧ s.sqState n = 2 ∧ s.sqAllDone n = true ∧ s.rd (SQ_STAT n) SQ_STAT.PC + 1 < 1024) ∧
    (∃ (n : Nat) (s : State), n < 8 ∧ s.sqState n = 2 ∧ (s.sq n).noTimeout = false ∧ (s.sq n).op ≠ 7 ∧ s.sqAllDone n = false ∧
      s.rd (SQ_STAT n) SQ_STAT.PC + 1 < 1024) :=
  ⟨⟨7, 0x101, (asked { W [(HD_IMG_STAT, HD_IMG_STAT.STATE, 4)] with img := { programs := [(1, [0])] } }), by decide⟩,
    ⟨0, 0x101, (asked State.reset), by decide⟩,
    ⟨0, ((running 0 0x10000000 State.reset).setSq 0 { tiles := [1], owned := [19] }), by decide⟩,
    ⟨7, ({ State.reset with seqs := [(7, { ended := some 0 })] }), by decide⟩,
    ⟨7, ({ State.reset with seqs := [(7, { ended := some 1 })] }), by decide⟩,
    ⟨7, (running 7 0x000000FF State.reset), by decide⟩,
    ⟨2, (running 2 0x11000002 State.reset), by decide⟩,
    ⟨2, 1, (also (running 2 0x94000000 State.reset) [(SQ_STAT 2, SQ_STAT.F, 1)]), by decide⟩,
    ⟨7, (running 7 0xF0000033 State.reset), by decide⟩,
    ⟨2, ((also (running 2 0x30000000 State.reset) [(SQ_STAT 2, SQ_STAT.STATE, 2)]).setSq 2
      { op := 4, wells := [(19, 1), (20, 2)] }), by decide⟩,
    ⟨2, ((also (running 2 0x30000000 State.reset) [(SQ_STAT 2, SQ_STAT.STATE, 2)]).setSq 2
      { op := 4, wells := [(19, 0), (20, 2)] }), by decide⟩⟩

theorem met_SequencerActs :
    (∃ (n : Nat) (op : Nat) (c : Instr) (s : State), s.quiet ∧ (op, c) ∈ [(2, .sqSetv n), (3, .sqProf n), (4, .sqPrime n), (5,
      .sqHand n), (6, .sqHyst n), (7, .sqPark n), (0xA, .sqClgt n), (0xB, .sqTie n), (0xC, .sqPmode n), (0xD, .sqTrk n), (0xE,
      .sqTest n)] ∧ s.issues n op = true ∧ ((s.owners n (s.selected n (s.instrAt n)) ≠ [] ∧ s.rd (SQ_STAT n) SQ_STAT.SRC ≠ 2) ∨
      s.outclaimed n (s.selected n (s.instrAt n)) = true) ∧ s.rd (SQ_STAT n) SQ_STAT.PC + 1 < 1024) ∧
    (∃ (n : Nat) (u : Nat) (w : Nat) (s : State), 16 * u + w ∈ s.selected n (s.instrAt n) ∧ w < 14 ∧ s.owners n (s.selected n
      (s.instrAt n)) = [] ∧ s.outclaimed n (s.selected n (s.instrAt n)) = false ∧ s.rd (SQ_STAT n) SQ_STAT.PC + 1 < 1024 ∧
      s.issues n 2 = true) ∧
    (∃ (n : Nat) (u : Nat) (w : Nat) (s : State), 16 * u + w ∈ s.selected n (s.instrAt n) ∧ w < 14 ∧ s.owners n (s.selected n
      (s.instrAt n)) = [] ∧ s.outclaimed n (s.selected n (s.instrAt n)) = false ∧ s.rd (SQ_STAT n) SQ_STAT.PC + 1 < 1024 ∧
      s.issues n 3 = true) ∧
    (∃ (n : Nat) (u : Nat) (w : Nat) (s : State), 16 * u + w ∈ s.selected n (s.instrAt n) ∧ w < 14 ∧ s.owners n (s.selected n
      (s.instrAt n)) = [] ∧ s.outclaimed n (s.selected n (s.instrAt n)) = false ∧ s.rd (SQ_STAT n) SQ_STAT.PC + 1 < 1024 ∧
      s.issues n 6 = true ∧ s.stage u w = stVolt ∧ s.tied u w = false ∧ (s.te u w).kind = 0) ∧
    (∃ (n : Nat) (u : Nat) (w : Nat) (s : State), 16 * u + w ∈ s.selected n (s.instrAt n) ∧ w < 14 ∧ s.owners n (s.selected n
      (s.instrAt n)) = [] ∧ s.outclaimed n (s.selected n (s.instrAt n)) = false ∧ s.rd (SQ_STAT n) SQ_STAT.PC + 1 < 1024 ∧
      s.issues n 0xA = true) ∧
    (∃ (n : Nat) (u : Nat) (w : Nat) (s : State), 16 * u + w ∈ s.selected n (s.instrAt n) ∧ w < 14 ∧ s.owners n (s.selected n
      (s.instrAt n)) = [] ∧ s.outclaimed n (s.selected n (s.instrAt n)) = false ∧ s.rd (SQ_STAT n) SQ_STAT.PC + 1 < 1024 ∧
      s.issues n 0xB = true ∧ w < 12) ∧
    (∃ (n : Nat) (u : Nat) (w : Nat) (s : State), 16 * u + w ∈ s.selected n (s.instrAt n) ∧ w < 14 ∧ s.owners n (s.selected n
      (s.instrAt n)) = [] ∧ s.outclaimed n (s.selected n (s.instrAt n)) = false ∧ s.rd (SQ_STAT n) SQ_STAT.PC + 1 < 1024 ∧
      s.issues n 0xC = true) ∧
    (∃ (n : Nat) (u : Nat) (w : Nat) (s : State), 16 * u + w ∈ s.selected n (s.instrAt n) ∧ w < 14 ∧ s.owners n (s.selected n
      (s.instrAt n)) = [] ∧ s.outclaimed n (s.selected n (s.instrAt n)) = false ∧ s.rd (SQ_STAT n) SQ_STAT.PC + 1 < 1024 ∧
      s.issues n 0xD = true ∧ s.rd (WL_TRACK u w) WL_TRACK.TRK_DEV ≠ 0) ∧
    (∃ (n : Nat) (u : Nat) (w : Nat) (s : State), 16 * u + w ∈ s.selected n (s.instrAt n) ∧ w < 14 ∧ s.owners n (s.selected n
      (s.instrAt n)) = [] ∧ s.outclaimed n (s.selected n (s.instrAt n)) = false ∧ s.issues n 4 = true ∧ s.stage u w = stDry ∧
      s.primable u w = true ∧ s.stopped u = false) ∧
    (∃ (n : Nat) (u : Nat) (w : Nat) (s : State), 16 * u + w ∈ s.selected n (s.instrAt n) ∧ w < 14 ∧ s.owners n (s.selected n
      (s.instrAt n)) = [] ∧ s.outclaimed n (s.selected n (s.instrAt n)) = false ∧ s.issues n 5 = true ∧ s.handOutcome u w = 0) ∧
    (∃ (n : Nat) (u : Nat) (w : Nat) (s : State), 16 * u + w ∈ s.selected n (s.instrAt n) ∧ w < 14 ∧ s.owners n (s.selected n
      (s.instrAt n)) = [] ∧ s.outclaimed n (s.selected n (s.instrAt n)) = false ∧ s.issues n 7 = true ∧ s.wet u w = true ∧
      (s.stage u w = stVolt ∨ s.stage u w = stHyst) ∧ s.tied u w = false ∧ (s.te u w).kind = 0) ∧
    (∃ (n : Nat) (u : Nat) (w : Nat) (s : State), 16 * u + w ∈ s.selected n (s.instrAt n) ∧ w < 14 ∧ s.owners n (s.selected n
      (s.instrAt n)) = [] ∧ s.outclaimed n (s.selected n (s.instrAt n)) = false ∧ s.issues n 0xE = true ∧ s.stopped u = true) ∧
    (∃ (n : Nat) (u : Nat) (w : Nat) (s : State), 16 * u + w ∈ s.selected n (s.instrAt n) ∧ w < 14 ∧ s.owners n (s.selected n
      (s.instrAt n)) = [] ∧ s.outclaimed n (s.selected n (s.instrAt n)) = false ∧ s.issues n 0xE = true ∧ s.stopped u = false ∧
      (s.te u w).kind = 0 ∧ s.tied u w = false ∧ s.selected n (s.instrAt n) = [16 * u + w] ∧ s.testKind u w (argOf (s.instrAt n)
      % 4) ≠ 0) ∧
    (∃ (n : Nat) (s : State), s.quiet ∧ s.issues n 8 = true) ∧
    (∃ (n : Nat) (m : Nat) (u : Nat) (w : Nat) (s : State), 16 * u + w ∈ s.selected n (s.instrAt n) ∧ w < 14 ∧ s.issues n 2 =
      true ∧ s.outclaimed n (s.selected n (s.instrAt n)) = false ∧ s.owners n (s.selected n (s.instrAt n)) = [m] ∧ s.rd (SQ_STAT
      n) SQ_STAT.SRC = 2 ∧ s.rd (SQ_STAT m) SQ_STAT.SRC ≠ 2 ∧ s.rd (SQ_STAT n) SQ_STAT.PC + 1 < 1024) ∧
    (∃ (n : Nat) (op : Nat) (c : Instr) (s : State), s.quiet ∧ (op, c) ∈ [(2, .sqSetv n), (3, .sqProf n), (4, .sqPrime n), (5,
      .sqHand n), (6, .sqHyst n), (7, .sqPark n), (0xA, .sqClgt n), (0xB, .sqTie n), (0xC, .sqPmode n), (0xD, .sqTrk n), (0xE,
      .sqTest n)] ∧ s.issues n op = true ∧ ((s.owners n (s.selected n (s.instrAt n)) ≠ [] ∧ s.rd (SQ_STAT n) SQ_STAT.SRC ≠ 2) ∨
      s.outclaimed n (s.selected n (s.instrAt n)) = true) ∧ s.rd (SQ_STAT n) SQ_STAT.PC + 1 < 1024) :=
  ⟨⟨2, 0xB, (.sqTie 2), (running 2 0xB0008001 (W [(WL_SETPT 1 3, WL_SETPT.OWNED, 1), (WL_SETPT 1 3, WL_SETPT.OWNER, 5)])), by
      decide⟩,
    ⟨2, 1, 3, (running 2 0x20008320 (wet 1 3 5)), by decide⟩,
    ⟨2, 1, 3, (running 2 0x30008001 (wet 1 3 5)), by decide⟩,
    ⟨2, 1, 3, (running 2 0x60008001 (wet 1 3 5)), by decide⟩,
    ⟨2, 1, 3, (running 2 0xA0008001 (wet 1 3 5)), by decide⟩,
    ⟨2, 1, 3, (running 2 0xB0008001 (wet 1 3 5)), by decide⟩,
    ⟨2, 1, 3, (running 2 0xC0008001 (wet 1 3 5)), by decide⟩,
    ⟨2, 1, 3, (running 2 0xD0008001 (also (wet 1 3 5) [(WL_TRACK 1 3, WL_TRACK.TRK_DEV, 20), (WL_TRACK 1 3, WL_TRACK.LEADER,
      2)])), by decide⟩,
    ⟨2, 1, 3, (running 2 0x40008100 (W [(HD_IMG_STAT, HD_IMG_STAT.STATE, 4)])), by decide⟩,
    ⟨2, 1, 3, (running 2 0x50008100 (wet 1 3 4)), by decide⟩,
    ⟨2, 1, 3, (running 2 0x70008100 (wet 1 3 5)), by decide⟩,
    ⟨2, 1, 3, (running 2 0xE0008100 (also (wet 1 3 5) [(TH_STAT 1, TH_STAT.STOP, 3)])), by decide⟩,
    ⟨2, 1, 3, (running 2 0xE0008100 (wet 1 3 5)), by decide⟩,
    ⟨2, (running 2 0x80000400 State.reset), by decide⟩,
    ⟨2, 5, 1, 3, (also ((running 2 0x20008320 (wet 1 3 5)).setSq 5 { tiles := [1], owned := [19] }) [(SQ_STAT 2, SQ_STAT.SRC,
      2), (SQ_STAT 5, SQ_STAT.STATE, 2), (WL_SETPT 1 3, WL_SETPT.OWNED, 1), (WL_SETPT 1 3, WL_SETPT.OWNER, 5)]), by decide⟩,
    ⟨2, 2, (.sqSetv 2), (also ((running 2 0x20008320 (running 1 0x20008320 (wet 1 3 5)))) [(SQ_STAT 2, SQ_STAT.SRC, 1), (SQ_STAT
      1, SQ_STAT.SRC, 1)]), by decide⟩⟩

theorem met_SlicePlays :
    (∃ (u : Nat) (o : Nat) (d : Word) (s : State), s.quiet ∧ s.alone ∧ u < 96 ∧ o < 0x8000 ∧ s.tileOk u = true ∧ s.silent u =
      false ∧ s.dsState u = dsUnbound ∧ s.rd (DS_CTRL u) DS_CTRL.SRC = 0) ∧
    (∃ (u : Nat) (o : Nat) (d : Word) (s : State), s.quiet ∧ s.alone ∧ u < 96 ∧ o < 0x8000 ∧ s.tileOk u = true ∧ s.silent u =
      false ∧ (s.dsState u ≠ dsUnbound ∨ s.rd (DS_CTRL u) DS_CTRL.SRC = 1)) ∧
    (∃ (u : Nat) (d : Word) (s : State), s.quiet ∧ s.alone ∧ u < 96 ∧ s.takes (DS_CTRL u) d ∧ DS_CTRL.BIND.get d = 1 ∧
      DS_CTRL.UNBIND.get d = 0 ∧ DS_CTRL.START.get d = 0 ∧ DS_CTRL.STOP.get d = 0 ∧ s.dsState u = dsUnbound) ∧
    (∃ (u : Nat) (d : Word) (s : State), s.quiet ∧ s.alone ∧ u < 96 ∧ s.takes (DS_CTRL u) d ∧ DS_CTRL.BIND.get d = 1 ∧
      DS_CTRL.UNBIND.get d = 0 ∧ DS_CTRL.START.get d = 0 ∧ DS_CTRL.STOP.get d = 0 ∧ s.dsState u ≠ dsUnbound) ∧
    (∃ (u : Nat) (code : Nat) (i : Nat) (s : State), s.quiet ∧ s.tileOk u = true ∧ s.dsState u = dsChecking ∧ s.bindErr u = some
      (code, i) ∧ code < 16) ∧
    (∃ (u : Nat) (d : Word) (s : State) (same : Bool), u < 96 ∧ s.takes (DS_CTRL u) d ∧ DS_CTRL.BIND.get d = 0 ∧
      DS_CTRL.UNBIND.get d = 1 ∧ DS_CTRL.START.get d = 0 ∧ DS_CTRL.STOP.get d = 0 ∧ (s.dsState u = dsBound ∨ s.dsState u =
      dsStopped)) ∧
    (∃ (u : Nat) (d : Word) (s : State), u < 96 ∧ s.takes (DS_CTRL u) d ∧ DS_CTRL.BIND.get d = 0 ∧ DS_CTRL.UNBIND.get d = 1 ∧
      DS_CTRL.START.get d = 0 ∧ DS_CTRL.STOP.get d = 0 ∧ s.dsState u = dsChecking) ∧
    (∃ (u : Nat) (d : Word) (s : State), s.quiet ∧ s.alone ∧ u < 96 ∧ s.takes (DS_CTRL u) d ∧ DS_CTRL.BIND.get d = 0 ∧
      DS_CTRL.UNBIND.get d = 0 ∧ DS_CTRL.START.get d = 1 ∧ DS_CTRL.STOP.get d = 0 ∧ (s.dsState u = dsBound ∨ s.dsState u =
      dsStopped)) ∧
    (∃ (u : Nat) (d : Word) (s : State), s.quiet ∧ s.alone ∧ u < 96 ∧ s.takes (DS_CTRL u) d ∧ DS_CTRL.BIND.get d = 0 ∧
      DS_CTRL.UNBIND.get d = 0 ∧ DS_CTRL.START.get d = 0 ∧ DS_CTRL.STOP.get d = 1 ∧ s.dsState u = dsPlaying) ∧
    (∃ (u : Nat) (s : State), s.quiet ∧ s.tileOk u = true ∧ (s.ds u).startPend = true ∧ (s.dsState u = dsBound ∨ s.dsState u =
      dsStopped)) ∧
    (∃ (u : Nat) (s : State), s.quiet ∧ s.tileOk u = true ∧ (s.ds u).stopPend = true ∧ s.dsState u = dsPlaying) ∧
    (∃ (u : Nat) (l : Nat) (s : State), s.tileOk u = true ∧ s.dsState u = dsPlaying ∧ l < 14 ∧ (s.stream u l).st = 2 ∧ 1 ≤
      (s.stream u l).p.left ∧ (s.stream u l).p.gate = none ∧ (s.stream u l).p.ended = false ∧ s.restBeat u l s.clk.beat = false) ∧
    (∃ (u : Nat) (o : Nat) (d : Word) (s : State), s.quiet ∧ s.alone ∧ u < 96 ∧ o < 0x8000 ∧ s.tileOk u = true ∧ s.silent u =
      false ∧ (s.dsState u ≠ dsUnbound ∨ s.rd (DS_CTRL u) DS_CTRL.SRC = 1)) ∧
    (∃ (u : Nat) (l : Nat) (f : Nat) (limit : Nat) (s : State), ekind (s.entry u (s.stream u l).a.pc) = 0x6 ∧ (s.stream u
      l).a.ended = false ∧ (s.stream u l).aWall ≤ limit ∧ (s.stream u l).a.left = 0) ∧
    (∃ (u : Nat) (l : Nat) (f : Nat) (limit : Nat) (s : State), ekind (s.entry u (s.stream u l).a.pc) = 0x6 ∧ (s.stream u
      l).a.ended = false ∧ (s.stream u l).aWall ≤ limit ∧ (s.stream u l).a.left = 0) ∧
    (∃ (u : Nat) (s : State), s.tileOk u = true ∧ s.dsState u = dsChecking ∧ s.bindErr u = none) ∧
    (∃ (u : Nat) (o : Nat) (d : Word) (s : State), s.quiet ∧ s.alone ∧ u < 96 ∧ o < 0x8000 ∧ s.tileOk u = true ∧ s.silent u =
      true) :=
  ⟨⟨1, 0x7FFF, 5, (asked State.reset), by decide⟩,
    ⟨1, 0, 5, (asked (W [(DS_STAT 1, DS_STAT.STATE, 2)])), by decide⟩,
    ⟨1, 1, (asked (W [(PH_PWR 1, PH_PWR.STATE, 0)])), by decide⟩,
    ⟨1, 1, (asked (W [(PH_PWR 1, PH_PWR.STATE, 0), (DS_STAT 1, DS_STAT.STATE, 2)])), by decide⟩,
    ⟨1, 1, 0, (W [(DS_STAT 1, DS_STAT.STATE, 1)]), by decide⟩,
    ⟨1, 2, (asked (W [(PH_PWR 1, PH_PWR.STATE, 0), (DS_STAT 1, DS_STAT.STATE, 4)])), true, by decide⟩,
    ⟨1, 2, (asked (W [(PH_PWR 1, PH_PWR.STATE, 0), (DS_STAT 1, DS_STAT.STATE, 1)])), by decide⟩,
    ⟨1, 4, (asked (W [(PH_PWR 1, PH_PWR.STATE, 0), (DS_STAT 1, DS_STAT.STATE, 2)])), by decide⟩,
    ⟨1, 8, (asked (W [(PH_PWR 1, PH_PWR.STATE, 0), (DS_STAT 1, DS_STAT.STATE, 3)])), by decide⟩,
    ⟨1, (onTi (W [(DS_STAT 1, DS_STAT.STATE, 2)]) 1 (fun x => { x with ds := { startPend := true, entries := [(6, 40)] } })), by
      decide⟩,
    ⟨1, (onTi (W [(DS_STAT 1, DS_STAT.STATE, 3)]) 1 (fun x =>
      { x with ds := { stopPend := true, streams := [(3, { st := 2 })] } })), by decide⟩,
    ⟨1, 13, (onTi (W [(DS_STAT 1, DS_STAT.STATE, 3)]) 1 (fun x =>
      { x with ds := { streams := [(13, { st := 2, p := { left := 1 } })] } })), by decide⟩,
    ⟨1, 0, 5, (asked (W [(DS_CTRL 1, DS_CTRL.SRC, 1)])), by decide⟩,
    ⟨1, 3, 5, 0, (onTi (W [(DS_STAT 1, DS_STAT.STATE, 3)]) 1 (fun x =>
      { x with ds := { entries := [(40, 0x60720005)], streams := [(3, { st := 2, a := { pc := 40 } })] } })), by decide⟩,
    ⟨1, 3, 0, 7, (onTi (W [(DS_STAT 1, DS_STAT.STATE, 3)]) 1 (fun x =>
      { x with ds := { entries := [(40, 0x60720005)], streams := [(3, { st := 2, a := { pc := 40 } })], branches := [(768 + 7, { expect := 1, r1 := some 3, nalt := 3 })] } })),
      by decide⟩,
    ⟨1, (onTi (also (wet 1 3 5) [(DS_STAT 1, DS_STAT.STATE, 1), (DS_STAT 1, DS_STAT.ERR, 5)]) 1 (fun x =>
      { x with ds := { entries := [(0, 0x44534C31), (1, 7), (4, 32), (5, 1), (31, 1965255237)] } })), by decide⟩,
    ⟨1, 0, 5, (asked (onTi (W [(TH_STAT 1, TH_STAT.STOP, 2)]) 1 (fun x => { x with th := { x.th with dropped := true } }))), by
      decide⟩⟩

theorem met_GatesRelease :
    (∃ (u : Nat) (k : Nat) (n : Nat) (m : Word) (s : State), s.quiet ∧ s.clusterOk u k = true ∧ n < 128 ∧ (s.ring u (128 * k +
      n)).length < 4) ∧
    (∃ (u : Nat) (k : Nat) (n : Nat) (l : Nat) (lk : Nat) (m : BitVec 32) (r : List (BitVec 32)) (s : State), s.clusterOk u k =
      true ∧ n < 128 ∧ s.rd (PH_PWR u) PH_PWR.STATE = 0 ∧ s.nextRing u = some ((128 * k + n), m :: r) ∧ ebits m 31 30 = 1 ∧
      ebits m 20 18 = 0 ∧ ebits m 15 0 = 0 ∧ s.logicalAt u k = some lk ∧ ((logicalWells lk).filter (fun v => (s.ds
      u).branchHolders.contains (256 * v + (ebits m 29 22))) = [l]) ∧ (s.branch u l (ebits m 29 22)).decided ≠ some (ebits m 21
      21)) ∧
    (∃ (u : Nat) (k : Nat) (n : Nat) (l : Nat) (lk : Nat) (m : BitVec 32) (r : List (BitVec 32)) (s : State), s.clusterOk u k =
      true ∧ n < 128 ∧ s.rd (PH_PWR u) PH_PWR.STATE = 0 ∧ s.nextRing u = some ((128 * k + n), m :: r) ∧ ebits m 31 30 = 1 ∧
      ebits m 20 18 = 0 ∧ ebits m 15 0 = 0 ∧ s.logicalAt u k = some lk ∧ ((logicalWells lk).filter (fun v => (s.ds
      u).branchHolders.contains (256 * v + (ebits m 29 22))) = [l]) ∧ (s.branch u l (ebits m 29 22)).decided = some (ebits m 21
      21) ∧ s.rd (DS_NOTICE_LATE u) ctrCount + 1 < 0xFFFFFFFF ∧ (s.ds u).logged = []) ∧
    (∃ (u : Nat) (w : Nat) (l : Nat) (dev : Int) (s : State), s.compares u w = true ∧ w < 14 ∧ dev < -(8 * s.rd (WL_WIN u w)
      WL_WIN.HOLD_TH : Nat) ∧ s.flag (WL_HOLD u w) WL_HOLD.HOLD = false ∧ (s.lp u w).relAt = none ∧ s.rd (WL_HOLD u w)
      WL_HOLD.HOLDS + 1 < 0xFFFFFFFF ∧ s.logicalsOn u w = [l] ∧ (s.sh u w).logged = [] ∧ s.rd (DS_BREACH_STAT u) ctrCount + 1 <
      0xFFFFFFFF) ∧
    (∃ (u : Nat) (w : Nat) (l : Nat) (dev : Int) (s : State), s.compares u w = true ∧ w < 14 ∧ dev < -(8 * s.rd (WL_WIN u w)
      WL_WIN.HOLD_TH : Nat) ∧ s.flag (WL_HOLD u w) WL_HOLD.HOLD = false ∧ (s.lp u w).relAt = none ∧ s.rd (WL_HOLD u w)
      WL_HOLD.HOLDS + 1 < 0xFFFFFFFF ∧ s.logicalsOn u w = [l] ∧ (s.sh u w).logged = [] ∧ s.rd (DS_BREACH_STAT u) ctrCount + 1 <
      0xFFFFFFFF) ∧
    (∃ (u : Nat) (w : Nat) (l : Nat) (edges : List (List Nat)) (s : State), w < 14 ∧ s.dsState u = dsPlaying ∧ s.logicalsOn u w
      = [l] ∧ (s.stream u l).live = true ∧ 48 * (8 * s.rd (DS_CFG u) DS_CFG.I_TOL : Nat) + (8 * s.envelope u w envImax : Nat) <
      48 * s.iW u w ∧ (s.sh u w).logged = []) ∧
    (∃ (u : Nat) (w : Nat) (l : Nat) (edges : List (List Nat)) (s : State), w < 14 ∧ s.dsState u = dsPlaying ∧ s.logicalsOn u w
      = [l] ∧ (s.stream u l).live = true ∧ (48 * s.iW u w : Int) ≤ 48 * (8 * s.rd (DS_CFG u) DS_CFG.I_TOL : Nat) + (8 *
      s.envelope u w envImax : Nat) ∧ s.quietWindow u w = false ∧ (s.didtBreak u w (steps2 ((s.sh u w).lastPair.elim
      (s.pairCurrents u w edges) (fun x => x :: s.pairCurrents u w edges))) = false)) ∧
    (∃ (u : Nat) (id : Nat) (e : Entry) (s : State), s.gateEntry u id = some e ∧ s.holdsGate u id = true ∧ waferScope e = false
      ∧ s.roundFull u id = true ∧ (s.gate u id).forced = true ∧ ebits e 13 0 ≤ (s.gate u id).count) ∧
    (∃ (u : Nat) (id : Nat) (e : Entry) (s : State), s.gateEntry u id = some e ∧ s.holdsGate u id = true ∧ waferScope e = false
      ∧ s.roundFull u id = true) ∧
    (∃ (u : Nat) (id : Nat) (e : Entry) (s : State), s.gateEntry u id = some e ∧ s.holdsGate u id = true ∧ waferScope e = false
      ∧ s.roundFull u id = true) ∧
    (∃ (u : Nat) (id : Nat) (e : Entry) (s : State), s.quiet ∧ s.gateEntry u id = some e ∧ s.holdsGate u id = true ∧ waferScope
      e = true ∧ s.roundFull u id = true ∧ (s.gate u id).reported = false ∧ s.plan.orders = []) ∧
    (∃ (u : Nat) (id : Nat) (e : Entry) (s : State), s.quiet ∧ s.gateEntry u id = some e ∧ s.holdsGate u id = true ∧ waferScope
      e = true ∧ s.roundFull u id = true ∧ (s.gate u id).reported = false ∧ s.plan.orders = []) ∧
    (∃ (u : Nat) (id : Nat) (s : State), u ∈ s.gateTiles id ∧ (∀ v ∈ s.gateTiles id, (s.gate v id).reported = true) ∧ s.gateSync
      id = false) ∧
    (∃ (u : Nat) (id : Nat) (br : Nat) (s : State), s.quiet ∧ s.dsState u = dsPlaying ∧ (s.gate u id).rel[(s.gate u
      id).released]? = some br ∧ br ≤ s.clk.beat ∧ s.orderHolds u id = false ∧ (∀ l, l < 14 → s.restBeat u l s.clk.beat =
      false)) ∧
    (∃ (u : Nat) (w : Nat) (id : Nat) (s : State), s.quiet ∧ s.tileOk u = true ∧ (s.stream u w).st = 3 ∧ (s.stream u w).p.gate =
      some id ∧ s.completes u id (s.stream u w) = false) ∧
    (∃ (u : Nat) (d : Word) (s : State), u < 96 ∧ s.takes (DS_GATE_CTRL u) d ∧ DS_GATE_CTRL.FORCE.get d = 1 ∧ s.forceable u
      (DS_GATE_CTRL.SEL.get d) = true) ∧
    (∃ (u : Nat) (k : Nat) (n : Nat) (c : Nat) (m : BitVec 32) (r : List (BitVec 32)) (s : State), s.clusterOk u k = true ∧ n <
      128 ∧ c = 128 * k + n ∧ s.rd (PH_PWR u) PH_PWR.STATE = 0 ∧ s.nextRing u = some (c, m :: r)) ∧
    (∃ (u : Nat) (k : Nat) (n : Nat) (c : Nat) (m : BitVec 32) (r : List (BitVec 32)) (s : State), s.clusterOk u k = true ∧ n <
      128 ∧ c = 128 * k + n ∧ s.rd (PH_PWR u) PH_PWR.STATE = 0 ∧ s.nextRing u = some (c, m :: r)) ∧
    (∃ (u : Nat) (k : Nat) (n : Nat) (s : State), s.quiet ∧ (s.rd (PH_PWR u) PH_PWR.STATE ≠ 0 ∨ (s.nextRing u).map (·.1) ≠ some
      (128 * k + n))) ∧
    (∃ (u : Nat) (k : Nat) (n : Nat) (s : State), s.quiet ∧ (s.rd (PH_PWR u) PH_PWR.STATE ≠ 0 ∨ (s.nextRing u).map (·.1) ≠ some
      (128 * k + n))) ∧
    (∃ (u : Nat) (id : Nat) (e : Entry) (s : State), s.gateEntry u id = some e ∧ s.forceable u id = true ∧ s.dsState u =
      dsStopped ∧ (s.gate u id).forced = true) ∧
    (∃ (u : Nat) (w : Nat) (id : Nat) (s : State), s.quiet ∧ (s.stream u w).p.gate = some id ∧ s.completes u id (s.stream u w) =
      true) ∧
    (∃ (u : Nat) (w : Nat) (id : Nat) (s : State), s.quiet ∧ (s.stream u w).p.gate = some id ∧ s.completes u id (s.stream u w) =
      true) ∧
    (∃ (u : Nat) (d : Word) (s : State), u < 96 ∧ s.takes (DS_GATE_CTRL u) d ∧ DS_GATE_CTRL.FORCE.get d = 1 ∧ s.forceable u
      (DS_GATE_CTRL.SEL.get d) = true) :=
  ⟨⟨1, 95, 127, 5, (onTi State.reset 1 (fun x => { x with ds := { rings := [(128 * 95 + 127, [1, 2, 3])] } })), by decide⟩,
    ⟨1, 24, 0, 3, 24, 0x41E20000, ([2]), (onTi (W [(PH_PWR 1, PH_PWR.STATE, 0)]) 1 (fun x =>
      { x with ds := { rings := [(3072, [0x41E20000, 2])], branchHolders := [768 + 7] } })), by decide⟩,
    ⟨1, 24, 0, 3, 24, 0x41E20000, ([]), (onTi (W [(PH_PWR 1, PH_PWR.STATE, 0)]) 1 (fun x =>
      { x with ds := { rings := [(3072, [0x41E20000])], branchHolders := [768 + 7], branches := [(768 + 7, { decided := some 1, nalt := 3, played := 1 })] } })),
      by decide⟩,
    ⟨1, 3, 3, (-1), (onLp (also (wet 1 3 5) [(DS_STAT 1, DS_STAT.STATE, 3), (WL_WIN 1 3, WL_WIN.HOLD_TH, 0), (PH_PWR 1,
      PH_PWR.STATE, 0), (AD_WIN 1 3, AD_WIN.RUN, 1)]) 1 3 (fun l => { l with bandOk := true })), by decide⟩,
    ⟨1, 3, 3, (-1), (onTi (also (wet 1 3 5) [(DS_STAT 1, DS_STAT.STATE, 3), (DS_BREACH_STAT 1, DS_BREACH_STAT.NEXT, 15), (WL_WIN
      1 3, WL_WIN.HOLD_TH, 0), (PH_PWR 1, PH_PWR.STATE, 0), (AD_WIN 1 3, AD_WIN.RUN, 1)]) 1 (fun x =>
      { x with ds := { streams := [(3, { st := 2, pb := 9, p := { seg := 5 } })] } })), by decide⟩,
    ⟨1, 3, 3, ([]), (onLp (onTi (also (wet 1 3 5) [(DS_STAT 1, DS_STAT.STATE, 3)]) 1 (fun x =>
      { x with ds := { streams := [(3, { st := 2 })] } })) 1 3 (fun l => { l with iW := 100000 })), by decide⟩,
    ⟨1, 3, 3, ([]), (onTi (also (wet 1 3 5) [(DS_STAT 1, DS_STAT.STATE, 3)]) 1 (fun x =>
      { x with ds := { streams := [(3, { st := 2 })] } })), by decide⟩,
    ⟨1, 7, 0x50740000, (onTi (W [(DS_STAT 1, DS_STAT.STATE, 3)]) 1 (fun x =>
      { x with ds := { gateDecl := [(7, 0x50740000)], gates := [(7, { forced := true })] } })), by decide⟩,
    ⟨1, 7, 0x50742002, (onTi (W [(DS_STAT 1, DS_STAT.STATE, 3)]) 1 (fun x =>
      { x with ds := { gateDecl := [(7, 0x50742002)], gates := [(7, { c0 := 0x2002, rel := [5], released := 1 })] } })), by
      decide⟩,
    ⟨1, 7, 0x50742002, (onTi (W [(DS_STAT 1, DS_STAT.STATE, 3)]) 1 (fun x =>
      { x with ds := { gateDecl := [(7, 0x50742002)], gates := [(7, { par := 1, forced := true })] } })), by decide⟩,
    ⟨1, 7, 0x507C0002, (onTi (W [(DS_STAT 1, DS_STAT.STATE, 3)]) 1 (fun x =>
      { x with ds := { gateDecl := [(7, 0x507C0002)], gates := [(7, { c0 := 2 })] } })), by decide⟩,
    ⟨1, 7, 0xB0740002, (onTi (W [(DS_STAT 1, DS_STAT.STATE, 3)]) 1 (fun x =>
      { x with ds := { gateDecl := [(7, 0xB0740002)], gates := [(7, { c0 := 2 })] } })), by decide⟩,
    ⟨1, 7, (onTi (W [(DS_STAT 1, DS_STAT.STATE, 3)]) 1 (fun x =>
      { x with ds := { gateDecl := [(7, 0x507C0002)], gates := [(7, { reported := true })] } })), by decide⟩,
    ⟨1, 7, 9,
      ({ onTi (W [(DS_STAT 1, DS_STAT.STATE, 3)]) 1 (fun x => { x with ds := { gateDecl := [(7, 0x50742002)], gates := [(7, { rel := [9] })], streams := [(3, { st := 3, p := { gate := some 7 } })] } }) with clk := { beat := 9 } }),
      by decide⟩,
    ⟨1, 3, 7, (onTi (W [(DS_STAT 1, DS_STAT.STATE, 3)]) 1 (fun x =>
      { x with ds := { gateDecl := [(7, 0x50742002)], streams := [(3, { st := 3, p := { gate := some 7 } })] } })), by decide⟩,
    ⟨1, 0x701, (asked (onTi (W [(PH_PWR 1, PH_PWR.STATE, 0), (DS_STAT 1, DS_STAT.STATE, 3)]) 1 (fun x =>
      { x with ds := { gateDecl := [(7, 0x50742002)] } }))), by decide⟩,
    ⟨1, 24, 0, 3072, 0xC0000000, ([2]), (onTi (W [(PH_PWR 1, PH_PWR.STATE, 0)]) 1 (fun x =>
      { x with ds := { rings := [(3072, [0xC0000000, 2])] } })), by decide⟩,
    ⟨1, 95, 127, 12287, 0x08000000, ([]), (onTi (W [(PH_PWR 1, PH_PWR.STATE, 0)]) 1 (fun x =>
      { x with ds := { rings := [(12287, [0x08000000])] } })), by decide⟩,
    ⟨1, 0, 0, (W [(PH_PWR 1, PH_PWR.STATE, 0)]), by decide⟩,
    ⟨1, 24, 1, (onTi (W [(PH_PWR 1, PH_PWR.STATE, 0)]) 1 (fun x => { x with ds := { rings := [(3072, [0xC0000000, 2])] } })), by
      decide⟩,
    ⟨1, 7, 0x507C0002, (onTi (W [(DS_STAT 1, DS_STAT.STATE, 4)]) 1 (fun x =>
      { x with ds := { gateDecl := [(7, 0x507C0002)], gates := [(7, { forced := true })] } })), by decide⟩,
    ⟨1, 3, 7, (onTi (W [(DS_STAT 1, DS_STAT.STATE, 3)]) 1 (fun x =>
      { x with ds := { gateDecl := [(7, 0x50742002)], gates := [(7, { par := 1, c0 := 0x2002, donePar := some 0, rel := [5] })], streams := [(3, { st := 3, p := { gate := some 7 } })] } })),
      by decide⟩,
    ⟨1, 3, 7, (onTi (W [(DS_STAT 1, DS_STAT.STATE, 3)]) 1 (fun x =>
      { x with ds := { gateDecl := [(7, 0x50742002)], gates := [(7, { c0 := 0x2002 })], streams := [(3, { st := 3, p := { gate := some 7 } })] } })),
      by decide⟩,
    ⟨1, 0x701, (asked (onTi (W [(PH_PWR 1, PH_PWR.STATE, 0), (DS_STAT 1, DS_STAT.STATE, 4)]) 1 (fun x =>
      { x with ds := { gateDecl := [(7, 0x507C0002)] } }))), by decide⟩⟩

theorem met_TiesOpen :
    (∃ (u : Nat) (n : Nat) (s : State), s.quiet ∧ s.tileOk u = true ∧ n < 12) ∧
    (∃ (u : Nat) (n : Nat) (s : State), s.tileOk u = true ∧ n < 12 ∧ s.tieOn u n = true ∧ (s.rd (PH_TIE u) PH_TIE.ACK).testBit n
      = false ∧ ((s.sh u (s.leadOf u n)).newTie = some n ∨ ((s.sh u (s.leadOf u n)).tie = some n ∧ s.rd (WL_TIE u (s.leadOf u
      n)) WL_TIE.PHASE = 1)) ∧ (s.sh u (s.leadOf u n)).tieAt + 1 ≤ (s.sh u (s.leadOf u n)).outerN) ∧
    (∃ (u : Nat) (n : Nat) (s : State), s.tileOk u = true ∧ n < 12 ∧ s.tieOn u n = true ∧ (s.rd (PH_TIE u) PH_TIE.ACK).testBit n
      = false ∧ ((s.sh u (s.leadOf u n)).newTie = some n ∨ ((s.sh u (s.leadOf u n)).tie = some n ∧ s.rd (WL_TIE u (s.leadOf u
      n)) WL_TIE.PHASE = 1)) ∧ (s.sh u (s.leadOf u n)).tieAt + 1 ≤ (s.sh u (s.leadOf u n)).outerN) ∧
    (∃ (u : Nat) (n : Nat) (s : State), s.tileOk u = true ∧ n < 12 ∧ (s.rd (PH_CIST u (n / 4)) PH_CIST.TIES).testBit (n % 4) =
      true ∧ (8 ≤ (s.sh u (tieWells n).1).overRun ∨ 8 ≤ (s.sh u (tieWells n).2).overRun)) ∧
    (∃ (u : Nat) (n : Nat) (s : State), s.tieUnloads u n = true ∧ (2 ≤ (s.sh u (tieWells n).1).lowRun ∨ 2 ≤ (s.sh u (tieWells
      n).2).lowRun)) ∧
    (∃ (u : Nat) (n : Nat) (s : State), s.tieUnloads u n = true ∧ (16 ≤ (s.sh u (tieWells n).1).unloadN ∨ 16 ≤ (s.sh u (tieWells
      n).2).unloadN)) ∧
    (∃ (u : Nat) (n : Nat) (s : State), s.tileOk u = true ∧ n < 12 ∧ s.tieOn u n = false ∧ s.opensLate u n = true) :=
  ⟨⟨1, 3, (W [(PH_TIE 1, PH_TIE.ON, 8)]), by decide⟩,
    ⟨1, 3, (onSh (W [(PH_TIE 1, PH_TIE.ON, 8)]) 1 (tieWells 3).1 (fun x =>
      { x with newTie := some 3, tieAt := 4, outerN := 5 })), by decide⟩,
    ⟨1, 11, (onSh (W [(PH_TIE 1, PH_TIE.ON, 0x800), (WL_TIE 1 (tieWells 11).1, WL_TIE.PHASE, 1)]) 1 (tieWells 11).1 (fun x =>
      { x with tie := some 11, tieAt := 4, outerN := 9 })), by decide⟩,
    ⟨1, 3, (onSh (W [(PH_TIE 1, PH_TIE.ON, 8), (PH_CIST 1 0, PH_CIST.TIES, 8)]) 1 (tieWells 3).1 (fun x =>
      { x with overRun := 8 })), by decide⟩,
    ⟨1, 3, (onSh (W [(PH_TIE 1, PH_TIE.ON, 8), (PH_CIST 1 0, PH_CIST.TIES, 8), (WL_TIE 1 (tieWells 3).1, WL_TIE.PHASE, 3),
      (WL_TIE 1 (tieWells 3).1, WL_TIE.ROLE, 1), (WL_TIE 1 (tieWells 3).1, WL_TIE.PARTNER, (tieWells 3).2)]) 1 (tieWells 3).1
      (fun x => { x with lowRun := 2, tie := some 3 })), by decide⟩,
    ⟨1, 3, (onSh (W [(PH_TIE 1, PH_TIE.ON, 8), (PH_CIST 1 0, PH_CIST.TIES, 8), (WL_TIE 1 (tieWells 3).1, WL_TIE.PHASE, 3),
      (WL_TIE 1 (tieWells 3).1, WL_TIE.ROLE, 1), (WL_TIE 1 (tieWells 3).1, WL_TIE.PARTNER, (tieWells 3).2)]) 1 (tieWells 3).1
      (fun x => { x with unloadN := 16 })), by decide⟩,
    ⟨1, 11, ({ onTi (W []) 1 (fun x => { x with tieOff := [(11, 0)] }) with clk := { ns := 500 } }), by decide⟩⟩

theorem met_TestsRun :
    (∃ (u : Nat) (w : Nat) (p : Nat) (s : State), s.pumpOk u w p = true ∧ 2 ≤ (s.pump u w p).openRun ∧ s.service u w p = 1) ∧
    (∃ (u : Nat) (w : Nat) (p : Nat) (s : State), s.pumpOk u w p = true ∧ s.service u w p = 1 ∧ s.senseFailed u w p = true ∧ (∀
      r, r < s.installed u w → s.service u w r ≠ 2) ∧ (s.pump u w p).inTest = false) ∧
    (∃ (u : Nat) (w : Nat) (p : Nat) (s : State) (r : Nat), s.pumpOk u w p = true ∧ s.service u w p = 1 ∧ s.senseFailed u w p =
      true ∧ r < s.installed u w ∧ s.service u w r = 2) ∧
    (∃ (u : Nat) (w : Nat) (s : State), s.quiet ∧ s.voltedOk u w = true ∧ 64 ≤ (s.sh u w).crackRun ∧ s.flag (WL_CHK u w)
      WL_CHK.CRACK = false) ∧
    (∃ (u : Nat) (w : Nat) (s : State), s.quiet ∧ s.voltedOk u w = true ∧ 2 ≤ (s.sh u w).senseRun ∧ s.flag (WL_CHK u w)
      WL_CHK.SENSE_OPEN = false) ∧
    (∃ (u : Nat) (w : Nat) (s : State), s.quiet ∧ s.voltedOk u w = true ∧ (s.te u w).dueAt = none) ∧
    (∃ (u : Nat) (w : Nat) (d : Word) (s : State), s.quiet ∧ s.alone ∧ u < 96 ∧ w < 14 ∧ s.takes (WL_TEST u w) d ∧
      WL_TEST.REQ.get d = 1) ∧
    (∃ (u : Nat) (w : Nat) (s : State), s.quiet ∧ s.voltedOk u w = true ∧ (s.te u w).dueAt.isSome = true) ∧
    (∃ (u : Nat) (w : Nat) (p : Nat) (s : State), s.voltedOk u w = true ∧ s.nextTest u w = some p ∧ s.scheduled u w = true ∧
      s.quietOk u w = true) ∧
    (∃ (u : Nat) (w : Nat) (p : Nat) (s : State), s.voltedOk u w = true ∧ s.nextTest u w = some p ∧ s.scheduled u w = true ∧
      ((s.te u w).shadowOk = true ∨ (s.pump u w p).returned = true) ∧ s.shadowFit u w p = true) ∧
    (∃ (u : Nat) (w : Nat) (p : Nat) (s : State), s.voltedOk u w = true ∧ (s.te u w).kind ≠ 0 ∧ (s.te u w).offsetOk.isSome =
      true ∧ (((s.te u w).kind = 1 ∧ s.alonePeriods u < (s.te u w).steps) ∨ ((s.te u w).kind = 2 ∧ 17 ≤ (s.te u w).steps)) ∧
      (s.te u w).pump = p ∧ p < 4 ∧ (s.te u w).queued = none ∧ s.service u w p ≠ 3) ∧
    (∃ (u : Nat) (w : Nat) (p : Nat) (s : State), s.voltedOk u w = true ∧ (s.te u w).kind ≠ 0 ∧ (s.te u w).offsetOk.isSome =
      true ∧ (((s.te u w).kind = 1 ∧ s.alonePeriods u < (s.te u w).steps) ∨ ((s.te u w).kind = 2 ∧ 17 ≤ (s.te u w).steps)) ∧
      (s.te u w).pump = p ∧ p < 4 ∧ (s.te u w).queued = none ∧ s.service u w p ≠ 3) ∧
    (∃ (u : Nat) (w : Nat) (s : State), s.quiet ∧ s.voltedOk u w = true ∧ (s.te u w).dueAt.isSome = true ∧ (s.te u w).shadowOk =
      true ∧ (s.te u w).overdue = false) ∧
    (∃ (u : Nat) (d : Word) (s : State), s.quiet ∧ s.alone ∧ u < 96 ∧ s.takes (PH_RET_ARM u) d) ∧
    (∃ (u : Nat) (w : Nat) (p : Nat) (a : Nat) (d : Word) (s : State), u < 96 ∧ w < 15 ∧ p < 4 ∧ s.takes (PM_SVC u w p) d ∧
      PM_SVC.RETURN.get d = 1 ∧ s.service u w p = 3 ∧ s.flag (PH_RET_ARM u) PH_RET_ARM.ARMED = true ∧ s.rd (PH_RET_ARM u)
      PH_RET_ARM.SLOT = 4 * w + p ∧ (s.tile u).armAt = some a ∧ s.clk.ns ≤ a + 1000) ∧
    (∃ (u : Nat) (w : Nat) (p : Nat) (a : Nat) (d : Word) (s : State), u < 96 ∧ w < 15 ∧ p < 4 ∧ s.takes (PM_SVC u w p) d ∧
      PM_SVC.RETURN.get d = 1 ∧ s.service u w p = 3 ∧ s.flag (PH_RET_ARM u) PH_RET_ARM.ARMED = true ∧ s.rd (PH_RET_ARM u)
      PH_RET_ARM.SLOT = 4 * w + p ∧ (s.tile u).armAt = some a ∧ a + 1000 < s.clk.ns) ∧
    (∃ (u : Nat) (s : State), s.quiet ∧ (s.tile u).armAt.isSome = true) :=
  ⟨⟨1, 3, 1, (onPu (wet 1 3 5) 1 3 1 (fun x => { x with openRun := 2 })), by decide⟩,
    ⟨1, 3, 1, (onPu (wet 1 3 5) 1 3 1 (fun x => { x with impl := [1, 2, 3] })), by decide⟩,
    ⟨1, 3, 1, (onPu (also (wet 1 3 5) [(PM_STAT 1 3 0, PM_STAT.SERVICE, 2)]) 1 3 1 (fun x => { x with impl := [1, 2, 3] })), 0,
      by decide⟩,
    ⟨1, 3, (onSh (wet 1 3 5) 1 3 (fun x => { x with crackRun := 64 })), by decide⟩,
    ⟨1, 3, (onSh (wet 1 3 5) 1 3 (fun x => { x with senseRun := 2 })), by decide⟩,
    ⟨1, 13, (State.reset), by decide⟩,
    ⟨1, 13, 1, (asked (W [(PH_PWR 1, PH_PWR.STATE, 0)])), by decide⟩,
    ⟨1, 3, (onTe State.reset 1 3 (fun x => { x with dueAt := some 5 })), by decide⟩,
    ⟨1, 3, 0, (onTe (wet 1 3 5) 1 3 (fun x => { x with dueAt := some 5 })), by decide⟩,
    ⟨1, 3, 0, (onTe (also (wet 1 3 5) [(PM_STAT 1 3 2, PM_STAT.SERVICE, 1), (PM_STAT 1 3 3, PM_STAT.SERVICE, 1), (WL_FRULE0 1 3,
      WL_FRULE0.OVL_LIM, 100)]) 1 3 (fun x => { x with dueAt := some 5, shadowOk := true })), by decide⟩,
    ⟨1, 3, 1, (onTe (wet 1 3 5) 1 3 (fun x =>
      { x with dueAt := some 5, kind := 2, steps := 17, pump := 1, offsetOk := some true })), by decide⟩,
    ⟨1, 3, 1, (onTe (wet 1 3 5) 1 3 (fun x =>
      { x with dueAt := some 5, kind := 1, steps := 65536, pump := 1, offsetOk := some true })), by decide⟩,
    ⟨1, 3, (onTe (wet 1 3 5) 1 3 (fun x => { x with dueAt := some 5, shadowOk := true })), by decide⟩,
    ⟨1, 0xA507, (asked (also State.reset [(PH_PWR 1, PH_PWR.STATE, 0)])), by decide⟩,
    ⟨1, 3, 1, 0, 2,
      ({ also (wet 1 3 5) [(PH_PWR 1, PH_PWR.STATE, 0), (PM_STAT 1 3 1, PM_STAT.SERVICE, 3), (PH_RET_ARM 1, PH_RET_ARM.ARMED, 1), (PH_RET_ARM 1, PH_RET_ARM.SLOT, 13)] with clk := { ns := 1000 } }
      |> fun s => onTi s 1 (fun x => { x with armAt := some 0 })), by decide⟩,
    ⟨1, 3, 1, 0, 2,
      ({ also (wet 1 3 5) [(PH_PWR 1, PH_PWR.STATE, 0), (PM_STAT 1 3 1, PM_STAT.SERVICE, 3), (PH_RET_ARM 1, PH_RET_ARM.ARMED, 1), (PH_RET_ARM 1, PH_RET_ARM.SLOT, 13)] with clk := { ns := 1001 } }
      |> fun s => onTi s 1 (fun x => { x with armAt := some 0 })), by decide⟩,
    ⟨1, (onTi State.reset 1 (fun x => { x with armAt := some 0 })), by decide⟩⟩

theorem met_ConvertersRun :
    (∃ (u : Nat) (w : Nat) (d : Word) (sum : Int) (s : State), s.quiet ∧ s.alone ∧ u < 96 ∧ s.takes (AD_WIN u w) d ∧
      AD_WIN.CAL.get d = 1 ∧ s.wellOk u w = true ∧ s.stage u w = stDry) ∧
    (∃ (u : Nat) (d : Word) (s : State), s.quiet ∧ s.alone ∧ u < 96 ∧ s.takes (AD_CTRL u) d ∧ AD_CTRL.CAL_NOW.get d = 1 ∧
      AD_CTRL.LP_INHIBIT.get d = 0) ∧
    (∃ (u : Nat) (n : Nat) (raw : Nat) (ch : Nat) (s : State), s.quiet ∧ s.tileOk u = true ∧ n < 3 ∧ (s.rd (AD_STAT u)
      AD_STAT.CONV_ON).testBit n = true ∧ (s.conv u n).cal = 0 ∧ (s.regular u n)[(s.conv u n).pos]? = some ch ∧ ch < 0x30) ∧
    (∃ (u : Nat) (n : Nat) (raw : Nat) (ch : Nat) (s : State), s.quiet ∧ s.tileOk u = true ∧ n < 3 ∧ (s.rd (AD_STAT u)
      AD_STAT.CONV_ON).testBit n = true ∧ (s.conv u n).cal = 0 ∧ (s.regular u n)[(s.conv u n).pos]? = some ch ∧ ch < 0x30) ∧
    (∃ (u : Nat) (n : Nat) (src : Nat) (w : Nat) (s : State), s.quiet ∧ s.tileOk u = true ∧ n < 2 ∧ 2 ≤ src ∧ src ≤ 6 ∧ s.rd
      (AD_INJ u n) AD_INJ.TRIG = src ∧ (src = 2 ∨ s.rd (AD_INJ u n) AD_INJ.SEL = w) ∧ s.flag (AD_INJ u n) AD_INJ.ILV = false ∧
      s.flag (AD_INJ u n) AD_INJ.URGENT = false ∧ (s.sar u).inj = none ∧ (s.sar u).injPend = [] ∧ s.injected u n ≠ [] ∧ s.lpMode
      u = false ∧ s.regular u 3 ≠ []) ∧
    (∃ (u : Nat) (n : Nat) (d : Word) (s : State), s.quiet ∧ s.alone ∧ u < 96 ∧ n < 2 ∧ s.takes (AD_INJ u n) d ∧ AD_INJ.GO.get d
      = 1 ∧ AD_INJ.TRIG.get d = 1 ∧ AD_INJ.ILV.get d = 1 ∧ s.lpMode u = false ∧ (s.sar u).burstPend = [] ∧ (s.sar u).burst =
      none ∧ (s.sar u).burstAt = none) ∧
    (∃ (u : Nat) (n : Nat) (rest : List Nat) (s : State), s.quiet ∧ (s.sar u).burstPend = n :: rest ∧ (s.sar u).burst = none ∧
      s.lpMode u = false) ∧
    (∃ (u : Nat) (n : Nat) (results : List Nat) (s : State), s.quiet ∧ (s.sar u).burst = some n) ∧
    (∃ (u : Nat) (ch : Nat) (d : Word) (s : State), s.quiet ∧ s.alone ∧ u < 96 ∧ ch < 128 ∧ s.takes (AD_RES u ch) d ∧
      AD_RES.AVG_K.get d ≠ s.rd (AD_RES u ch) AD_RES.AVG_K) ∧
    (∃ (u : Nat) (d : Word) (s : State), s.quiet ∧ s.alone ∧ u < 96 ∧ s.takes (AD_CTRL u) d ∧ AD_CTRL.LP_INHIBIT.get d = 1 ∧
      AD_CTRL.CAL_NOW.get d = 0 ∧ s.lpMode u = true) :=
  ⟨⟨1, 3, 1, (-44), (asked State.reset), by decide⟩,
    ⟨1, 4, (asked State.reset), by decide⟩,
    ⟨1, 0, 3000, 0, (W [(AD_STAT 1, AD_STAT.CONV_ON, 15)]), by decide⟩,
    ⟨1, 2, 3000, 0x20, (W [(AD_STAT 1, AD_STAT.CONV_ON, 15)]), by decide⟩,
    ⟨1, 1, 2, 5, (W [(AD_INJ 1 1, AD_INJ.TRIG, 2), (AD_RSEQ 1, AD_RSEQ.LEN, 2), (AD_STAT 1, AD_STAT.LP, 0)]), by decide⟩,
    ⟨1, 0, 0x12010000000, (asked (W [(AD_STAT 1, AD_STAT.LP, 0)])), by decide⟩,
    ⟨1, 1, ([]), ((W [(AD_STAT 1, AD_STAT.LP, 0)]).updSar 1 (fun x => { x with burstPend := [1] })), by decide⟩,
    ⟨1, 1, ([5, 6]), ((W [(AD_STAT 1, AD_STAT.LP, 0)]).updSar 1 (fun x => { x with burst := some 1 })), by decide⟩,
    ⟨1, 7, 0x3200000000, (asked State.reset), by decide⟩,
    ⟨1, 8, (asked (W [(AD_STAT 1, AD_STAT.LP, 1)])), by decide⟩⟩

theorem met_WindowsReported :
    (∃ (u : Nat) (w : Nat) (s : State), s.tileOk u = true ∧ s.wellOk u w = true) ∧
    (∃ (u : Nat) (r : TeleReport) (s : State), s.quiet ∧ s.tileOk u = true ∧ (s.tile u).tt.report = some r) ∧
    (∃ (u : Nat) (r : TeleReport) (s : State), u < s.tileCount ∧ (s.tile u).tt.taken = some r ∧ r.win = s.clk.beat / 4096 - 1 ∧
      s.clk.fast ≠ .sleep ∧ r.pIn < 2 ^ 24 ∧ r.pOut < 2 ^ 24) ∧
    (∃ (s : State), s.quiet ∧ s.clk.fast = .sleep) ∧
    (∃ (s : State), s.clk.fast ≠ .sleep) ∧
    (∃ (s : State), s.flag CG_SHARE CG_SHARE.VALID = false) ∧
    (∃ (s : State), s.flag CG_SHARE CG_SHARE.VALID = true ∧ s.rd CG_SHARE CG_SHARE.AGE < s.rd CG_CFG1 CG_CFG1.SHARE_TMO) ∧
    (∃ (s : State), s.flag CG_SHARE CG_SHARE.VALID = true ∧ s.rd CG_CFG1 CG_CFG1.SHARE_TMO ≤ s.rd CG_SHARE CG_SHARE.AGE) ∧
    (∃ (s : State) (u : Nat) (w : Nat) (k : Nat), k ∈ s.toMove u w) ∧
    (∃ (s : State) (u : Nat) (w : Nat) (k : Nat), k ∈ fedClusters w ∧ s.mapState u k = 0 ∧ s.ordered u k = false ∧ (s.wellClass
      u w = 3 ∨ s.clusterClass u k = 1 ∨ s.clusterClass u k = 4)) ∧
    (∃ (s : State) (u : Nat) (w : Nat) (k : Nat) (l : List Nat), (s.working u w).reverse = k :: l ∧ s.flag (WL_TIE u w)
      WL_TIE.DEFICIT = true ∧ s.cont u w < (s.sh u w).fcast ∧ s.ordered u k = false) ∧
    (∃ (s : State) (u : Nat) (w : Nat), s.wellClass u w ≠ 3 ∧ s.flag (WL_TIE u w) WL_TIE.DEFICIT = false ∧ s.plan.spread = [] ∧
      (∀ k ∈ fedClusters w, s.clusterClass u k ≠ 1 ∧ s.clusterClass u k ≠ 4)) ∧
    (∃ (s : State) (u : Nat) (w : Nat) (k : Nat) (lk : Nat) (g : Nat) (planned : List (Nat × Int)), s.logicalAt u k = some lk ∧
      s.orderGate u lk = some g ∧ s.rd PL_CFG PL_CFG.RELOC_MAX ≤ s.unbound u g) ∧
    (∃ (s : State) (u : Nat) (w : Nat) (k : Nat) (lk : Nat) (g : Nat) (planned : List (Nat × Int)), s.logicalAt u k = some lk ∧
      s.orderGate u lk = some g ∧ s.unbound u g < s.rd PL_CFG PL_CFG.RELOC_MAX ∧ (∀ d, d < 96 → s.spareOk u d (s.clusterShare u
      (coreWell k) k) planned = false)) ∧
    (∃ (s : State) (u : Nat) (w : Nat) (k : Nat) (lk : Nat) (g : Nat) (planned : List (Nat × Int)) (d : Nat), s.logicalAt u k =
      some lk ∧ s.orderGate u lk = some g ∧ s.unbound u g < s.rd PL_CFG PL_CFG.RELOC_MAX ∧ d < 96 ∧ s.spareOk u d
      (s.clusterShare u (coreWell k) k) planned = true) ∧
    (∃ (s : State) (i : Nat) (e : Nat), s.clk.fast ≠ .sleep ∧ s.capEvents[i]? = some e ∧ e < 4096 ∧ e % 16 < 14 ∧ s.tileOk (e /
      16) = true ∧ s.flag (WL_CHK (e / 16) (e % 16)) WL_CHK.CRACK = false ∧ s.flag (WL_CHK (e / 16) (e % 16)) WL_CHK.SENSE_OPEN
      = false) ∧
    (∃ (s : State), s.flag PL_CTRL PL_CTRL.HOLD = true) :=
  ⟨⟨1, 3, ({ onTel State.reset 1 3 (fun x => { x with n := 4, sumI := -70 }) with clk := { beat := 8192 } }), by decide⟩,
    ⟨1, (⟨1, 5, 4, 3, 2, -1, 7⟩), (onTi State.reset 1 (fun x =>
      { x with tt := { x.tt with report := some ⟨1, 5, 4, 3, 2, -1, 7⟩ } })), by decide⟩,
    ⟨1, (⟨1, 5, 4, 3, 2, -1, 7⟩),
      ({ onTi State.reset 1 (fun x => { x with tt := { x.tt with taken := some ⟨1, 5, 4, 3, 2, -1, 7⟩ } }) with clk := { beat := 8192 } }),
      by decide⟩,
    ⟨({ State.reset with clk := { fast := .sleep } }), by decide⟩,
    ⟨(W [(HD_IMG_STAT, HD_IMG_STAT.STATE, 4)]), by decide⟩,
    ⟨(W [(CG_CAP, CG_CAP.WAFER_LIM, 5000), (CG_CAP, CG_CAP.CAP_HOST, 4000)]), by decide⟩,
    ⟨(W [(CG_CAP, CG_CAP.WAFER_LIM, 5000), (CG_SHARE, CG_SHARE.VALID, 1), (CG_SHARE, CG_SHARE.SHARE, 4999), (CG_SHARE,
      CG_SHARE.AGE, 3), (CG_CFG1, CG_CFG1.SHARE_TMO, 4)]), by decide⟩,
    ⟨(W [(CG_CAP, CG_CAP.WAFER_LIM, 5000), (CG_SHARE, CG_SHARE.VALID, 1), (CG_SHARE, CG_SHARE.SHARE, 4999), (CG_SHARE,
      CG_SHARE.AGE, 4), (CG_CFG1, CG_CFG1.SHARE_TMO, 4), (CG_STAT, CG_STAT.CAP_EFF, 4000)]), by decide⟩,
    ⟨deficient, 1, 3, 31, by decide⟩,
    ⟨(W [(PL_WELL 19, PL_WELL.CLASS, 3)]), 1, 3, 24, by decide⟩,
    ⟨deficient, 1, 3, 31, ([30, 29, 28, 27, 26, 25, 24]), by decide⟩,
    ⟨(W [(HD_IMG_STAT, HD_IMG_STAT.STATE, 4)]), 1, 3, by decide⟩,
    ⟨(also spareful [(PL_CFG, PL_CFG.RELOC_MAX, 0)]), 1, 3, 31, 31, 7, ([]), by decide⟩,
    ⟨(onTi (also spareful [(WL_SETPT 1 4, WL_SETPT.STAGE, 4)]) 1 (fun x => x)), 1, 3, 31, 31, 7, ([]), by decide⟩,
    ⟨spareful, 1, 3, 31, 31, 7, ([]), 32, by decide⟩,
    ⟨({ W [(WL_TIE 1 3, WL_TIE.DEFICIT, 1)] with capEvents := [5, 19] }), 1, 19, by decide⟩,
    ⟨(W [(PL_CTRL, PL_CTRL.HOLD, 1)]), by decide⟩⟩

theorem met_HeatAndRest :
    (∃ (u : Nat) (ch : Nat) (s : State), s.reads u ch = true ∧ s.isHot u ch = false ∧ s.broken u ch = false ∧ (s.chan u ch).bad
      = false ∧ (32 ≤ ch → (s.pump u (chanWell ch) (chanPump ch)).tempBroken = false)) ∧
    (∃ (u : Nat) (ch : Nat) (s : State), s.reads u ch = true ∧ s.isHot u ch = false ∧ s.broken u ch = false ∧ (s.chan u ch).bad
      = false ∧ (32 ≤ ch → (s.pump u (chanWell ch) (chanPump ch)).tempBroken = false)) ∧
    (∃ (u : Nat) (ch : Nat) (s : State), s.reads u ch = true ∧ s.isHot u ch = false ∧ s.broken u ch = false ∧ (s.chan u ch).bad
      = true ∧ s.limA u ch ≤ 2039) ∧
    (∃ (u : Nat) (ch : Nat) (s : State), s.tileOk u = true ∧ ch ∈ s.channels u ∧ s.reads u ch = true ∧ s.broken u ch = false ∧
      (s.chan u ch).bad = false ∧ (32 ≤ ch → (s.pump u (chanWell ch) (chanPump ch)).tempBroken = false)) ∧
    (∃ (u : Nat) (w : Nat) (ch : Nat) (s : State), s.quiet ∧ s.tileOk u = true ∧ w < 12 ∧ s.therm u w ≠ 0 ∧ (ch = 2 * w ∨ ch = 2
      * w + 1) ∧ s.reads u ch = true ∧ s.limA u ch ≤ s.temp u ch ∧ 0 ≤ s.slope u ch) ∧
    (∃ (u : Nat) (d : Word) (s : State), s.quiet ∧ s.alone ∧ u < 96 ∧ s.takes (TH_CTRL u) d ∧ TH_CTRL.CLR_PEAK.get d = 1 ∧
      TH_CTRL.RESUME.get d = 0) ∧
    (∃ (u : Nat) (s : State), s.quiet ∧ s.tileOk u = true ∧ s.clk.beat % 16 = 0) ∧
    (∃ (r : Nat) (s : State), s.quiet ∧ s.gov.agreed = some r ∧ r < 16) ∧
    (∃ (s : State), s.gov.agreed = none ∧ s.flag CG_STAT CG_STAT.SOLO = false) :=
  ⟨⟨1, 3, (onCh State.reset 1 3 (fun c => { c with seen := true, last := 1850 })), by decide⟩,
    ⟨1, 33, (onPu State.reset 1 0 1 (fun x => { x with temp := 333 })), by decide⟩,
    ⟨1, 3, (onCh (W [(TH_LIM 1 3, TH_LIM.LIM_A, 800)]) 1 3 (fun c => { c with seen := true, last := 1850, bad := true })), by
      decide⟩,
    ⟨1, 3, (onCh State.reset 1 3 (fun c => { c with seen := true, last := 1850 })), by decide⟩,
    ⟨1, 3, 7, (onSh (onCh (W [(TH_LIM 1 7, TH_LIM.LIM_A, 800), (TH_CH 1 7, TH_CH.TEMP, 800)]) 1 7 (fun c =>
      { c with seen := true, last := 1850 })) 1 3 (fun x => { x with th := { want := 15, app := 3 } })), by decide⟩,
    ⟨1, 2, (asked (W [(TH_CH 1 7, TH_CH.TEMP, 800), (TH_CH 1 7, TH_CH.PEAK, 900)])), by decide⟩,
    ⟨1, ({ W [(CG_STAT, CG_STAT.R_NEXT, 5)] with gov := { nextAt := 16 }, clk := { beat := 16 } }), by decide⟩,
    ⟨15, ({ State.reset with gov := { agreed := some 15, applyAt := 64 } }), by decide⟩,
    ⟨(W [(CG_STAT, CG_STAT.SOLO, 0), (CG_STAT, CG_STAT.R_JOB, 4), (CG_STAT, CG_STAT.R_NEED, 9)]), by decide⟩⟩

theorem met_ThermalStops :
    (∃ (u : Nat) (s : State), s.quiet ∧ s.tileOk u = true ∧ s.stopState u = stopOrderly ∧ (∀ w, w < 14 → s.holdsVote u w =
      false)) ∧
    (∃ (u : Nat) (s : State) (w : Nat), s.quiet ∧ s.tileOk u = true ∧ s.stopState u = stopOrderly ∧ w < 14 ∧ s.holdsVote u w =
      true) ∧
    (∃ (u : Nat) (s : State), s.quiet ∧ s.tileOk u = true ∧ s.stopState u = stopOrderly) ∧
    (∃ (u : Nat) (s : State), s.quiet ∧ s.tileOk u = true ∧ s.stopState u = stopHard ∧ (s.tile u).th.dropped = false) ∧
    (∃ (u : Nat) (s : State), s.tileOk u = true ∧ s.stopState u = stopHard ∧ (s.tile u).th.dropped = true ∧ s.flag ER_STAT
      ER_STAT.NOFLASH = false ∧ s.rcd.queue = []) ∧
    (∃ (u : Nat) (d : Word) (s : State), s.quiet ∧ s.alone ∧ u < 96 ∧ s.takes (TH_CTRL u) d ∧ TH_CTRL.RESUME.get d = 1 ∧
      TH_CTRL.CLR_PEAK.get d = 0 ∧ s.mayResume u = true) ∧
    (∃ (u : Nat) (d : Word) (s : State), s.quiet ∧ s.alone ∧ u < 96 ∧ s.takes (TH_CTRL u) d ∧ TH_CTRL.RESUME.get d = 1 ∧
      TH_CTRL.CLR_PEAK.get d = 0 ∧ s.mayResume u = false) :=
  ⟨⟨1, (W [(TH_STAT 1, TH_STAT.STOP, 1)]), by decide⟩,
    ⟨1, (W [(TH_STAT 1, TH_STAT.STOP, 1), (PH_HOST_HOLD 1, PH_HOST_HOLD.WELLS, 8)]), 3, by decide⟩,
    ⟨1, (W [(TH_STAT 1, TH_STAT.STOP, 1), (PH_HOST_HOLD 1, PH_HOST_HOLD.WELLS, 8)]), by decide⟩,
    ⟨1, (also (wet 1 3 5) [(TH_STAT 1, TH_STAT.STOP, 2), (PM_LINK 1 3 0, PM_LINK.PEN, 1)]), by decide⟩,
    ⟨1, (onTi (W [(TH_STAT 1, TH_STAT.STOP, 2)]) 1 (fun x => { x with th := { x.th with dropped := true } })), by decide⟩,
    ⟨1, 1, (asked
      { (dieChannels.foldl (fun s ch => onCh (s.wr (TH_LIM 1 ch) TH_LIM.LIM_A 800) 1 ch (fun c => { c with seen := true })) (onTi (W [(TH_STAT 1, TH_STAT.STOP, 3)]) 1 (fun x => { x with th := { x.th with coolAt := some 0 } }))) with clk := { ns := 1000000000 } }),
      by decide⟩,
    ⟨1, 1, (asked (W [(TH_STAT 1, TH_STAT.STOP, 2)])), by decide⟩⟩

theorem met_CapAndPlacement :
    (∃ (d : Word) (s : State), s.quiet ∧ s.alone ∧ s.takes CG_CAP d) ∧
    (∃ (d : Word) (s : State), s.quiet ∧ s.alone ∧ s.takes CG_CTRL d ∧ CG_CTRL.JOB_STOP.get d = 1 ∧ s.flag CG_STAT
      CG_STAT.STOP_OFFER = false) ∧
    (∃ (d : Word) (s : State) (n : Nat), s.quiet ∧ s.alone ∧ s.takes CG_CTRL d ∧ CG_CTRL.JOB_STOP.get d = 1 ∧ s.flag CG_STAT
      CG_STAT.STOP_OFFER = true ∧ n = s.rd CG_CFG1 CG_CFG1.STOP_SEQ ∧ s.startRefused n (s.rd CG_CFG1 CG_CFG1.STOP_PROG) = false) ∧
    (∃ (d : Word) (s : State), s.quiet ∧ s.alone ∧ s.takes PL_SET d ∧ PL_SET.KIND.get d = 1 ∧ s.setRefused 1 (PL_SET.REGION.get
      d) (PL_SET.CLASS.get d) = false ∧ PL_SET.CLASS.get d ≠ 4) ∧
    (∃ (d : Word) (s : State), s.quiet ∧ s.alone ∧ s.takes PL_SET d ∧ PL_SET.KIND.get d = 2 ∧ s.setRefused 2 (PL_SET.REGION.get
      d) (PL_SET.CLASS.get d) = false ∧ (PL_SET.CLASS.get d ≠ 3 ∨ s.rd (PL_WELL (PL_SET.REGION.get d)) PL_WELL.CLASS = 3 ∨ ∃ k ∈
      fedClusters (PL_SET.REGION.get d % 16), s.mapState (PL_SET.REGION.get d / 16) k ∈ [0, 4, 5])) ∧
    (∃ (d : Word) (s : State), s.quiet ∧ s.alone ∧ s.takes PL_SET d ∧ PL_SET.KIND.get d ≠ 0 ∧ s.setRefused (PL_SET.KIND.get d)
      (PL_SET.REGION.get d) (PL_SET.CLASS.get d) = true) ∧
    (∃ (id : Nat) (o : Order) (s : State), s.quiet ∧ s.orderOf id = some o ∧ o.status = 0 ∧ o.slot < 16) ∧
    (∃ (id : Nat) (o : Order) (c : Instr) (s : State), s.orderOf id = some o ∧ o.status = 0 ∧ c ∈ [Instr.refuse id,
      .acceptTimeout id]) ∧
    (∃ (id : Nat) (o : Order) (c : Instr) (s : State), s.orderOf id = some o ∧ o.status = 0 ∧ c ∈ [Instr.refuse id,
      .acceptTimeout id]) ∧
    (∃ (id : Nat) (o : Order) (s : State), s.quiet ∧ s.orderOf id = some o ∧ o.status ≠ 0) ∧
    (∃ (id : Nat) (o : Order) (s : State), s.orderOf id = some o ∧ o.status = 2 ∧ o.src < 96 ∧ o.dst < 96 ∧ o.src ≠ o.dst ∧
      o.tile < 96) ∧
    (∃ (id : Nat) (o : Order) (s : State), s.orderOf id = some o ∧ o.status = 2 ∧ o.src < 96 ∧ o.dst < 96 ∧ o.src ≠ o.dst ∧
      o.tile < 96) ∧
    (∃ (id : Nat) (o : Order) (s : State), s.orderOf id = some o ∧ o.status = 2) ∧
    (∃ (d : Word) (s : State), s.quiet ∧ s.alone ∧ s.takes PL_CTRL d ∧ PL_CTRL.RESET_MAP.get d = 0) ∧
    (∃ (d : Word) (s : State) (u : Nat) (k : Nat), s.takes PL_CTRL d ∧ PL_CTRL.RESET_MAP.get d = 1 ∧ (∀ u, u < s.tileCount →
      s.dsState u ≠ dsPlaying) ∧ s.plan.orders = [] ∧ u < s.tileCount ∧ u < 96 ∧ k < 96 ∧ s.mapState u k ≠ 3) ∧
    (∃ (d : Word) (s : State) (u : Nat) (k : Nat), s.takes PL_CTRL d ∧ PL_CTRL.RESET_MAP.get d = 1 ∧ (∀ u, u < s.tileCount →
      s.dsState u ≠ dsPlaying) ∧ s.plan.orders = [] ∧ u < s.tileCount ∧ u < 96 ∧ k < 96 ∧ s.mapState u k ≠ 3) ∧
    (∃ (d : Word) (s : State), s.takes PL_CTRL d ∧ PL_CTRL.RESET_MAP.get d = 1 ∧ s.plan.orders ≠ []) :=
  ⟨⟨0x123400000000000, (asked (W [(CG_CAP, CG_CAP.WAFER_LIM, 9)])), by decide⟩,
    ⟨1, (asked State.reset), by decide⟩,
    ⟨1, (asked
      { W [(HD_IMG_STAT, HD_IMG_STAT.STATE, 4), (CG_STAT, CG_STAT.STOP_OFFER, 1), (CG_CFG1, CG_CFG1.STOP_SEQ, 3), (CG_CFG1, CG_CFG1.STOP_PROG, 1)] with img := { programs := [(1, [0])] } }),
      3, by decide⟩,
    ⟨0x4000000520000000, (asked State.reset), by decide⟩,
    ⟨0x8000001320000000, (asked State.reset), by decide⟩,
    ⟨0x4000000530000000, (asked State.reset), by decide⟩,
    ⟨3, (⟨3, 1, 3, 19, 20, 7, 2, 0, 0, 0⟩),
      ({ W [(PL_ORDER 2, PL_ORDER.ID, 3)] with plan := { orders := [⟨3, 1, 3, 19, 20, 7, 2, 0, 0, 0⟩] } }), by decide⟩,
    ⟨3, (⟨3, 1, 3, 19, 20, 7, 2, 0, 0, 0⟩), (.refuse 3),
      ({ W [(PL_ORDER 2, PL_ORDER.ID, 3)] with plan := { orders := [⟨3, 1, 3, 19, 20, 7, 2, 0, 0, 0⟩] } }), by decide⟩,
    ⟨3, (⟨3, 1, 3, 19, 20, 7, 2, 0, 0, 0⟩), (.acceptTimeout 3),
      ({ W [(PL_ORDER 2, PL_ORDER.ID, 3)] with plan := { orders := [⟨3, 1, 3, 19, 20, 7, 2, 0, 0, 0⟩] } }), by decide⟩,
    ⟨3, (⟨3, 1, 3, 19, 20, 7, 2, 1, 0, 0⟩),
      ({ W [(PL_ORDER 2, PL_ORDER.ID, 3)] with plan := { orders := [⟨3, 1, 3, 19, 20, 7, 2, 1, 0, 0⟩] } }), by decide⟩,
    ⟨3, (⟨3, 1, 3, 19, 20, 7, 2, 2, 0, 7⟩),
      ({ W [(PL_ORDER 2, PL_ORDER.ID, 3), (PL_MAP 115, PL_MAP.CLASS, 4), (PL_MAP 116, PL_MAP.STATE, 2)] with plan := { orders := [⟨3, 1, 3, 19, 20, 7, 2, 2, 0, 7⟩] } }),
      by decide⟩,
    ⟨3, (⟨3, 1, 3, 19, 20, 7, 2, 2, 0, 7⟩),
      ({ W [(PL_ORDER 2, PL_ORDER.ID, 3), (PL_MAP 115, PL_MAP.CLASS, 1), (PL_MAP 116, PL_MAP.STATE, 2)] with plan := { orders := [⟨3, 1, 3, 19, 20, 7, 2, 2, 0, 7⟩] } }),
      by decide⟩,
    ⟨3, (⟨3, 1, 3, 19, 20, 7, 2, 2, 0, 7⟩),
      ({ W [(PL_ORDER 2, PL_ORDER.ID, 3)] with plan := { orders := [⟨3, 1, 3, 19, 20, 7, 2, 2, 0, 7⟩] } }), by decide⟩,
    ⟨1, (asked State.reset), by decide⟩,
    ⟨2, (asked (W [(PL_MAP 191, PL_MAP.LOGICAL, 3)])), 1, 95, by decide⟩,
    ⟨2, (asked (W [(PL_MAP 101, PL_MAP.LOGICAL, 3)])), 1, 5, by decide⟩,
    ⟨2, (asked { State.reset with plan := { orders := [⟨3, 1, 3, 19, 20, 7, 2, 2, 0, 7⟩] } }), by decide⟩⟩

theorem met_VotesGate :
    (∃ (u : Nat) (d : Word) (s : State), u < 96 ∧ s.takes (PH_HOST_CL0 u) d) ∧
    (∃ (u : Nat) (d : Word) (s : State), s.quiet ∧ s.alone ∧ u < 96 ∧ s.takes (PH_HOST_HOLD u) d) ∧
    (∃ (u : Nat) (d : Word) (s : State), s.quiet ∧ s.alone ∧ u < 96 ∧ s.takes (PH_HOST_HOLD u) d) ∧
    (∃ (u : Nat) (k : Nat) (s : State), s.quiet ∧ s.clusterOk u k = true ∧ s.flag (WL_VOTE_CFG u (coreWell k))
      WL_VOTE_CFG.CL_GATE = true ∧ (s.mapState u k = 0 ∨ s.mapState u k = 2) ∧ s.wanted u k = false ∧ (s.cluster u k).waking =
      false ∧ s.flag (PH_CLPWR u k) PH_CLPWR.C_VOTE = false) ∧
    (∃ (u : Nat) (k : Nat) (s : State), s.quiet ∧ s.clusterOk u k = true ∧ (s.cluster u k).graceBeat.isSome = true ∧ (s.cluster
      u k).waking = true ∧ s.wanted u k = false ∧ (s.mapState u k = 0 ∨ s.mapState u k = 2) ∧ s.flag (WL_VOTE_CFG u (coreWell
      k)) WL_VOTE_CFG.CL_GATE = true) ∧
    (∃ (u : Nat) (k : Nat) (s : State), s.quiet ∧ s.clusterOk u k = true ∧ s.flag (PH_CLPWR u k) PH_CLPWR.GATED = true ∧
      s.anyCause u k = false) ∧
    (∃ (u : Nat) (k : Nat) (s : State), s.quiet ∧ s.clusterOk u k = true ∧ (s.cluster u k).greq = true ∧ (s.cluster u k).goff =
      false ∧ s.flag (PH_CLPWR u k) PH_CLPWR.GATED = false) ∧
    (∃ (u : Nat) (w : Nat) (s : State), s.voltedOk u w = true ∧ s.flag (WL_VOTE_CFG u w) WL_VOTE_CFG.VOTED = true ∧ s.holdsVote
      u w = false ∧ s.parkBlocked u w = false ∧ s.tied u w = false) ∧
    (∃ (u : Nat) (w : Nat) (s : State), s.voltedOk u w = true ∧ s.stage u w = stDry ∧ s.owned u w = false ∧ (s.well u
      w).vo.wakeReq = true ∧ s.active = true ∧ s.rd (PH_PWR u) PH_PWR.WAKES + 1 < 0xFFFFFFFF ∧ s.autoWake u w = false) ∧
    (∃ (u : Nat) (w : Nat) (s : State), s.voltedOk u w = true ∧ s.stage u w = stDry ∧ s.owned u w = false ∧ (s.well u
      w).vo.wakeReq = true ∧ s.active = true ∧ s.rd (PH_PWR u) PH_PWR.WAKES + 1 < 0xFFFFFFFF ∧ s.autoWake u w = true ∧
      s.primable u w = false) ∧
    (∃ (u : Nat) (s : State), s.quiet ∧ s.tileOk u = true ∧ s.rd (PH_PWR u) PH_PWR.STATE = 2 ∧ s.rd CL_TIME CL_TIME.STATE ≠ 3 ∧
      (s.tile u).held = []) ∧
    (∃ (u : Nat) (w : Nat) (s : State), s.voltedOk u w = true ∧ s.stage u w = stDry ∧ s.owned u w = false ∧ (s.well u
      w).vo.wakeReq = true ∧ s.active = true ∧ s.rd (PH_PWR u) PH_PWR.WAKES + 1 < 0xFFFFFFFF ∧ s.autoWake u w = true ∧
      s.primable u w = true ∧ s.stopped u = false) ∧
    (∃ (u : Nat) (s : State) (w : Nat) (p : Nat) (d : Word), s.quiet ∧ s.tileOk u = true ∧ s.rd (PH_PWR u) PH_PWR.STATE = 2 ∧
      s.rd CL_TIME CL_TIME.STATE ≠ 3 ∧ u < 96 ∧ w < 14 ∧ p < 4 ∧ (s.tile u).held = [(PM_LINK u w p, d)] ∧ PM_LINK.CAL.get d = 1
      ∧ s.flag (PM_LINK u w p) PM_LINK.PEN = false) ∧
    (∃ (u : Nat) (d : Word) (s : State), u < 96 ∧ s.takes (PH_HOST_CL1 u) d) ∧
    (∃ (u : Nat) (d : Word) (s : State), u < 96 ∧ s.takes (PH_HOST_CL1 u) d) :=
  ⟨⟨1, 0x8000000000000001, (asked (W [(PH_CLPWR 1 0, PH_CLPWR.GATED, 1), (PH_CLPWR 1 0, PH_CLPWR.C_SEQ, 1)])), by decide⟩,
    ⟨1, 8, (asked (W [(PH_HOST_HOLD 1, PH_HOST_HOLD.WELLS, 6)])), by decide⟩,
    ⟨1, 0x3FFF, (asked (onVo State.reset 1 3 (fun v => { v with graceAt := some 5 }))), by decide⟩,
    ⟨1, 95, (onCu (W [(WL_VOTE_CFG 1 11, WL_VOTE_CFG.CL_GATE, 1)]) 1 95 (fun c => { c with goff := false, greq := false })), by
      decide⟩,
    ⟨1, 95, (onCu (W [(WL_VOTE_CFG 1 11, WL_VOTE_CFG.CL_GATE, 1)]) 1 95 (fun c =>
      { c with goff := false, greq := false, waking := true, graceBeat := some 3 })), by decide⟩,
    ⟨1, 95, (W [(PH_CLPWR 1 95, PH_CLPWR.GATED, 1), (PH_CLPWR 1 95, ⟨30, 26⟩, 0)]), by decide⟩,
    ⟨1, 95, (onCu (W [(PH_CLPWR 1 95, PH_CLPWR.GATED, 0)]) 1 95 (fun c =>
      { c with goff := false, greq := true, waking := true })), by decide⟩,
    ⟨1, 3, (onVo (also (wet 1 3 5) [(WL_VOTE_CFG 1 3, WL_VOTE_CFG.VOTED, 1)]) 1 3 (fun v => { v with graceAt := some 5 })), by
      decide⟩,
    ⟨1, 3, (onVo (W [(HD_IMG_STAT, HD_IMG_STAT.STATE, 4)]) 1 3 (fun v => { v with wakeReq := true })), by decide⟩,
    ⟨1, 3, (onVo (W [(HD_IMG_STAT, HD_IMG_STAT.STATE, 4), (WL_VOTE_CFG 1 3, WL_VOTE_CFG.VOTED, 1), (WL_VOTE_CFG 1 3,
      WL_VOTE_CFG.AUTO_WAKE, 1), (PM_STAT 1 3 0, PM_STAT.SERVICE, 3), (PM_STAT 1 3 1, PM_STAT.SERVICE, 3), (PM_STAT 1 3 2,
      PM_STAT.SERVICE, 3), (PM_STAT 1 3 3, PM_STAT.SERVICE, 3)]) 1 3 (fun v => { v with wakeReq := true })), by decide⟩,
    ⟨1, (W [(PH_PWR 1, PH_PWR.STATE, 2), (WL_SETPT 1 3, WL_SETPT.STAGE, 1)]), by decide⟩,
    ⟨1, 3, (onVo (W [(HD_IMG_STAT, HD_IMG_STAT.STATE, 4), (WL_VOTE_CFG 1 3, WL_VOTE_CFG.VOTED, 1), (WL_VOTE_CFG 1 3,
      WL_VOTE_CFG.AUTO_WAKE, 1)]) 1 3 (fun v => { v with wakeReq := true })), by decide⟩,
    ⟨1, (onTi (W [(PH_PWR 1, PH_PWR.STATE, 2)]) 1 (fun x => { x with held := [(PM_LINK 1 13 1, 4)] })), 13, 1, 4, by decide⟩,
    ⟨1, 0x80000001, (asked (onCu (W [(PH_CLPWR 1 95, PH_CLPWR.C_THERM, 1), (PH_CLPWR 1 95, PH_CLPWR.GATED, 1)]) 1 95 (fun c =>
      { c with goff := true, greq := true }))), by decide⟩,
    ⟨(95 - 12), 2, (asked (onCu (W [(PH_CLPWR 83 65, PH_CLPWR.C_VOTE, 1), (PH_CLPWR 83 65, PH_CLPWR.GATED, 1)]) 83 65 (fun c =>
      { c with goff := true, greq := true }))), by decide⟩⟩

theorem met_SleepsAndWakes :
    (∃ (s : State), s.quiet ∧ s.clk.fast = .run ∧ s.napBlocked = false) ∧
    (∃ (s : State), s.quiet ∧ s.clk.fast = .run ∧ s.napBlocked = true) ∧
    (∃ (d : Word) (s : State), s.quiet ∧ s.alone ∧ s.takes HD_PWR_CTRL d ∧ HD_PWR_CTRL.SLEEP.get d = 1 ∧ s.sleepCause ≠ 0) ∧
    (∃ (d : Word) (s : State), s.quiet ∧ s.alone ∧ s.takes HD_PWR_CTRL d ∧ HD_PWR_CTRL.SLEEP.get d = 1 ∧ s.sleepCause = 0 ∧
      s.alarmPassed = false) ∧
    (∃ (s : State), s.clk.sleepReq = true ∧ s.port.outstanding = [] ∧ s.sleepCause = 0 ∧ s.rd HD_PWR_STAT HD_PWR_STAT.SLEEPS + 1
      < 0xFFFFFFFF) ∧
    (∃ (s : State), s.clk.sleepReq = true ∧ s.port.outstanding = [] ∧ s.sleepCause ≠ 0) ∧
    (∃ (srcs : Nat) (s : State), s.quiet ∧ srcs &&& s.armed = 0 ∧ s.clk.fast ≠ .nap) ∧
    (∃ (srcs : Nat) (s : State), s.quiet ∧ srcs &&& s.armed ≠ 0 ∧ s.clk.fast = .sleep) ∧
    (∃ (srcs : Nat) (s : State), s.quiet ∧ srcs &&& s.armed ≠ 0 ∧ s.clk.fast = .run ∧ s.clk.sleepReq = true) ∧
    (∃ (srcs : Nat) (s : State), s.quiet ∧ s.clk.fast = .nap ∧ s.clk.sleepReq = false) ∧
    (∃ (srcs : Nat) (s : State), s.quiet ∧ srcs ≠ 0 ∧ s.clk.fast = .nap ∧ s.clk.sleepReq = false) :=
  ⟨⟨(State.reset), by decide⟩,
    ⟨(asked State.reset), by decide⟩,
    ⟨1, (asked State.reset), by decide⟩,
    ⟨1, (asked { W [(HD_WAKE_ALARM, HD_WAKE_ALARM.ALARM, 5)] with fault := { errReset := false } }), by decide⟩,
    ⟨({ State.reset with fault := { errReset := false }, clk := { sleepReq := true } }), by decide⟩,
    ⟨({ State.reset with clk := { sleepReq := true } }), by decide⟩,
    ⟨0, (State.reset), by decide⟩,
    ⟨1, ({ State.reset with clk := { fast := .sleep } }), by decide⟩,
    ⟨0x10, ({ State.reset with clk := { sleepReq := true } }), by decide⟩,
    ⟨1, ({ State.reset with clk := { fast := .nap } }), by decide⟩,
    ⟨1, ({ State.reset with clk := { fast := .nap } }), by decide⟩⟩

theorem met_EpisodesRun :
    (∃ (n : Nat) (r : Raise) (s : State), s.fault.inflight[n]? = some r ∧ r.src < 32 ∧ r.tile < 256 ∧ s.flag FC_STAT
      FC_STAT.OPEN = false) ∧
    (∃ (n : Nat) (r : Raise) (s : State), s.fault.inflight[n]? = some r ∧ r.src < 32 ∧ r.tile < 256 ∧ s.flag FC_STAT
      FC_STAT.OPEN = true ∧ s.rd FC_STAT FC_STAT.MERGED < 0xFFFF) ∧
    (∃ (b : Nat) (n : Nat) (p : Nat) (r : Raise) (nw : Bool) (s : State), s.fault.resetting = [b] ∧ s.fault.progAfter = [(n, p,
      r, nw)] ∧ blockPlace r = b ∧ n < 8 ∧ p < 256 ∧ s.loaderBusy = false ∧ s.sqState n = 0) ∧
    (∃ (b : Nat) (s : State), s.quiet ∧ b ∈ s.fault.resetting ∧ (∃ c ∈ s.fault.resetting, c ≠ b) ∧ (∀ e ∈ s.fault.progAfter,
      blockPlace e.2.2.1 ≠ b)) ∧
    (∃ (d : Word) (s : State), s.takes FC_STAT d ∧ FC_STAT.OPEN.get d = 1 ∧ s.flag FC_STAT FC_STAT.OPEN = true ∧ s.flag FC_STAT
      FC_STAT.BUSY = false ∧ s.fault.held = []) ∧
    (∃ (d : Word) (s : State), s.takes FC_STAT d ∧ FC_STAT.OPEN.get d = 1 ∧ s.flag FC_STAT FC_STAT.OPEN = true ∧ s.flag FC_STAT
      FC_STAT.BUSY = true) ∧
    (∃ (d : Word) (s : State), s.quiet ∧ s.alone ∧ s.takes FC_CTRL d ∧ FC_CTRL.TRAP_ACK.get d = 1 ∧ FC_CTRL.INJECT.get d = 0) ∧
    (∃ (d : Word) (s : State), s.takes FC_CTRL d ∧ FC_CTRL.TRAP_ACK.get d = 0 ∧ FC_CTRL.INJECT.get d = 1 ∧ 5 ≤
      FC_CTRL.INJECT_SRC.get d ∧ FC_CTRL.INJECT_SRC.get d ≤ 31) ∧
    (∃ (d : Word) (s : State), s.takes FC_CTRL d ∧ FC_CTRL.TRAP_ACK.get d = 0 ∧ FC_CTRL.INJECT.get d = 1 ∧ 5 ≤
      FC_CTRL.INJECT_SRC.get d ∧ FC_CTRL.INJECT_SRC.get d ≤ 31) :=
  ⟨⟨0, ({ src := 9, tile := 1, well := 3 }),
      ({ State.reset with fault := { inflight := [{ src := 9, tile := 1, well := 3 }] } }), by decide⟩,
    ⟨1, ({ src := 9, tile := 1, well := 3 }),
      ({ W [(FC_STAT, FC_STAT.OPEN, 1)] with fault := { inflight := [{ src := 8 }, { src := 9, tile := 1, well := 3 }] } }), by
      decide⟩,
    ⟨1, 3, 1, ({ src := 9, tile := 1, well := 3 }), false,
      ({ W [(HD_IMG_STAT, HD_IMG_STAT.STATE, 4), (FC_STAT, FC_STAT.BUSY, 1)] with fault := { resetting := [1], progAfter := [(3, 1, { src := 9, tile := 1, well := 3 }, false)] }, img := { programs := [(1, [0])] } }),
      by decide⟩,
    ⟨1, ({ W [(FC_STAT, FC_STAT.BUSY, 1)] with fault := { resetting := [1, 2] } }), by decide⟩,
    ⟨1, (asked (W [(FC_STAT, FC_STAT.OPEN, 1), (FC_STAT, FC_STAT.MERGED, 5), (FC_STAT, FC_STAT.LOGN, 1), (FC_LOG 0, ⟨63, 0⟩,
      7)])), by decide⟩,
    ⟨1, (asked (W [(FC_STAT, FC_STAT.OPEN, 1), (FC_STAT, FC_STAT.BUSY, 1)])), by decide⟩,
    ⟨1, (asked (W [(FC_STAT, FC_STAT.OPEN, 1), (FC_STAT, FC_STAT.TRAP, 1)])), by decide⟩,
    ⟨0x1F02, (asked State.reset), by decide⟩,
    ⟨0x0502, (asked State.reset), by decide⟩⟩

theorem met_InterruptsServe :
    (∃ (g : Nat) (n : Nat) (s : State), s.quiet ∧ s.alone ∧ g < 8 ∧ n = s.claimable g ∧ n ≠ 0 ∧ s.rd (IC_TGT g) IC_TGT.CLAIMS +
      1 < 0xFFFFFFFF) ∧
    (∃ (g : Nat) (n : Nat) (s : State), s.quiet ∧ s.alone ∧ g < 8 ∧ n = s.claimable g ∧ n = 0) ∧
    (∃ (g : Nat) (d : Word) (s : State), s.quiet ∧ s.alone ∧ g < 8 ∧ s.takes (IC_CLAIM g) d ∧ (IC_CLAIM.SOURCE.get d, g) ∈
      s.intc.active ∧ s.eventLevel (IC_CLAIM.SOURCE.get d) = false) ∧
    (∃ (g : Nat) (d : Word) (s : State), s.quiet ∧ s.alone ∧ g < 8 ∧ s.takes (IC_CLAIM g) d ∧ (IC_CLAIM.SOURCE.get d, g) ∈
      s.intc.active ∧ s.eventLevel (IC_CLAIM.SOURCE.get d) = true) ∧
    (∃ (g : Nat) (d : Word) (s : State), s.quiet ∧ s.alone ∧ g < 8 ∧ s.takes (IC_CLAIM g) d ∧ (IC_CLAIM.SOURCE.get d, g) ∉
      s.intc.active) ∧
    (∃ (d : Word) (s : State), s.takes IC_SETPEND d ∧ IC_SETPEND.SOURCE.get d ≠ 0 ∧ listedSource (IC_SETPEND.SOURCE.get d) =
      true) :=
  ⟨⟨7, 146, (asked (W [(IC_SRC 146, IC_SRC.PEND, 1), (IC_SRC 146, IC_SRC.PRIO, 5), (IC_SRC 146, IC_SRC.TARGETS, 128), (IC_SRC
      146, IC_SRC.STEER, 7), (IC_TGT 7, IC_TGT.EN, 1)])), by decide⟩,
    ⟨0, 0, (asked State.reset), by decide⟩,
    ⟨7, 146, ({ asked (W [(IC_SRC 146, IC_SRC.ACTIVE, 1)]) with intc := { active := [(146, 7)] } }), by decide⟩,
    ⟨7, 145,
      ({ asked (W [(IC_SRC 145, IC_SRC.ACTIVE, 1), (HD_SB_STAT, HD_SB_STAT.MBOX_FULL, 1)]) with intc := { active := [(145, 7)] } }),
      by decide⟩,
    ⟨7, 146, ({ asked (W [(IC_SRC 146, IC_SRC.ACTIVE, 1)]) with intc := { active := [(146, 6)] } }), by decide⟩,
    ⟨146, (asked State.reset), by decide⟩⟩

theorem met_RecordsWritten :
    (∃ (s : State), s.flag ER_STAT ER_STAT.READY = false ∧ s.fault.errReset = false ∧ s.rcd.queue = []) ∧
    (∃ (f : Sfdp) (s : State), s.flag ER_STAT ER_STAT.READY = false ∧ s.fault.errReset = false ∧ sfdpUsable f = true ∧ s.flag
      ER_STAT ER_STAT.FROZEN = false) ∧
    (∃ (f : Sfdp) (s : State), s.flag ER_STAT ER_STAT.READY = false ∧ s.fault.errReset = false ∧ sfdpUsable f = true ∧ s.flag
      ER_STAT ER_STAT.FROZEN = false) ∧
    (∃ (f : Sfdp) (s : State), s.quiet ∧ s.flag ER_STAT ER_STAT.READY = false ∧ s.fault.errReset = false ∧ sfdpUsable f = true ∧
      s.flash = [] ∧ s.fuses.lcState ≠ 0 ∧ s.rcd.queue = [] ∧ s.rcd.clearPend = none) ∧
    (∃ (f : Sfdp) (s : State), s.quiet ∧ s.flag ER_STAT ER_STAT.READY = false ∧ s.fault.errReset = false ∧ sfdpUsable f = true ∧
      s.flash = [] ∧ s.fuses.lcState ≠ 0 ∧ s.rcd.queue = [] ∧ s.rcd.clearPend = none) ∧
    (∃ (trig : Nat) (x : Snap) (l : List Snap) (m : List Snap) (s : State), s.quiet ∧ s.rcd.snaps = l ++ x :: m ∧ (∀ y ∈ l,
      ¬(y.trig = trig ∧ y.started = false)) ∧ x.trig = trig ∧ x.started = false) ∧
    (∃ (x : Snap) (l : List Snap) (m : List Snap) (s : State), s.quiet ∧ s.rcd.snaps = l ++ x :: m ∧ (∀ y ∈ l, y.started =
      false) ∧ x.started = true ∧ s.rcd.queue = [] ∧ s.flag ER_STAT ER_STAT.NOFLASH = false ∧ x.list = 0) ∧
    (∃ (x : Snap) (l : List Snap) (m : List Snap) (s : State) (a : Nat), s.quiet ∧ s.rcd.snaps = l ++ x :: m ∧ (∀ y ∈ l,
      y.started = false) ∧ x.started = true ∧ s.rcd.queue = [] ∧ s.flag ER_STAT ER_STAT.NOFLASH = false ∧ x.list ≠ 0 ∧
      (s.rcd.lists.find? (fun e => e.1 = x.list) = some (x.list, [a]))) ∧
    (∃ (s : State), s.quiet ∧ s.rcd.heartDue ≠ 0 ∧ s.clk.fast ≠ .sleep ∧ s.flag ER_STAT ER_STAT.NOFLASH = false ∧ s.rcd.queue =
      []) ∧
    (∃ (s : State), s.quiet ∧ s.rcd.heartDue ≠ 0 ∧ s.clk.fast ≠ .sleep ∧ s.flag ER_STAT ER_STAT.NOFLASH = false ∧ s.rcd.queue =
      []) ∧
    (∃ (r : Rec) (l : List Rec) (s : State) (slot : Nat), s.quiet ∧ s.flag ER_STAT ER_STAT.READY = true ∧ s.flag ER_STAT
      ER_STAT.NOFLASH = false ∧ s.flag ER_STAT ER_STAT.FROZEN = false ∧ s.flag ER_STAT ER_STAT.CLEARING = false ∧ s.rcd.op =
      .idle ∧ s.clk.fast = .run ∧ s.rcd.queue = r :: l ∧ ((r.keptType = false ∧ slot = s.circSlot ∧ 4096 ≤ slot) ∨ (r.keptType =
      true ∧ s.flag ER_STAT ER_STAT.KEPT_FULL = false ∧ slot = s.keptNext ∧ slot + 1 < 4080 ∧ s.blankSlot slot = true))) ∧
    (∃ (r : Rec) (l : List Rec) (s : State) (slot : Nat), s.quiet ∧ s.flag ER_STAT ER_STAT.READY = true ∧ s.flag ER_STAT
      ER_STAT.NOFLASH = false ∧ s.flag ER_STAT ER_STAT.FROZEN = false ∧ s.flag ER_STAT ER_STAT.CLEARING = false ∧ s.rcd.op =
      .idle ∧ s.clk.fast = .run ∧ s.rcd.queue = r :: l ∧ ((r.keptType = false ∧ slot = s.circSlot ∧ 4096 ≤ slot) ∨ (r.keptType =
      true ∧ s.flag ER_STAT ER_STAT.KEPT_FULL = false ∧ slot = s.keptNext ∧ slot + 1 < 4080 ∧ s.blankSlot slot = true))) ∧
    (∃ (slot : Nat) (second : Bool) (lost : Bool) (r : Rec) (l : List Rec) (s : State), s.quiet ∧ s.rcd.op = .program slot
      second lost ∧ s.rcd.queue = r :: l ∧ recSound (s.slotWords slot) = true ∧ s.rcd.clearPend = none ∧ s.rcd.freezePend =
      false ∧ s.rcd.dropped = 0) ∧
    (∃ (slot : Nat) (lost : Bool) (r : Rec) (l : List Rec) (s : State), s.quiet ∧ s.rcd.op = .program slot false lost ∧
      s.rcd.queue = r :: l ∧ 4096 ≤ slot ∧ 4096 ≤ s.circSlot) ∧
    (∃ (slot : Nat) (lost : Bool) (r : Rec) (l : List Rec) (s : State), s.rcd.op = .program slot true lost ∧ s.rcd.queue = r ::
      l ∧ l.length < 28) ∧
    (∃ (u : Nat) (s : State), s.quiet ∧ s.rcd.op = .erase u ∧ s.rcd.clearPend = none ∧ s.rcd.freezePend = false) ∧
    (∃ (u : Nat) (s : State), s.rcd.op = .erase u ∧ s.rcd.clearPend = none ∧ s.rcd.freezePend = false) ∧
    (∃ (slot : Nat) (lost : Bool) (r : Rec) (l : List Rec) (s : State) (v : Nat), s.quiet ∧ s.rcd.op = .program slot false lost
      ∧ s.rcd.queue = r :: l ∧ slot < 4080 ∧ s.firstBlank (4080 - s.keptNext) s.keptNext = some v ∧ v + 1 < 4080) ∧
    (∃ (all : Bool) (slot : Nat) (s : State), s.quiet ∧ s.rcd.op = .clear all slot ∧ s.rcd.freezePend = true) :=
  ⟨⟨({ State.reset with fault := { errReset := false } }), by decide⟩,
    ⟨(⟨true, 0x2000000, 256, true, true, true⟩), ({ State.reset with fault := { errReset := false } }), by decide⟩,
    ⟨(⟨true, 0x2000000, 256, true, true, true⟩),
      ({ State.reset with fault := { errReset := false }, flash := (List.range 32).map (fun i => (32 * 4096 + i, (buildRec { type := 2 } false false 5 5 3).getD i 0)) }),
      by decide⟩,
    ⟨(⟨true, 0x2000000, 256, true, true, true⟩),
      ({ State.reset with fault := { errReset := false }, fuses := { lcState := 2 } }), by decide⟩,
    ⟨(⟨true, 0x2000000, 256, true, true, true⟩),
      ({ State.reset with fault := { errReset := false }, fuses := { lcState := 2 }, rcd := { scanned := true } }), by decide⟩,
    ⟨5, (⟨5, 3, true, 7, 8, 9, false⟩), ([⟨4, 3, true, 7, 8, 9, false⟩]), ([]),
      ({ State.reset with rcd := { snaps := [⟨4, 3, true, 7, 8, 9, false⟩, ⟨5, 3, true, 7, 8, 9, false⟩] } }), by decide⟩,
    ⟨(⟨5, 0, true, 7, 8, 9, true⟩), ([]), ([]), ({ State.reset with rcd := { snaps := [⟨5, 0, true, 7, 8, 9, true⟩] } }), by
      decide⟩,
    ⟨(⟨5, 3, true, 7, 8, 9, true⟩), ([]), ([]),
      ({ State.reset with rcd := { snaps := [⟨5, 3, true, 7, 8, 9, true⟩], lists := [(3, [16])] } }), 16, by decide⟩,
    ⟨({ State.reset with rcd := { heartDue := 2 } }), by decide⟩,
    ⟨({ State.reset with rcd := { heartDue := 1 }, clk := { fast := .nap } }), by decide⟩,
    ⟨({ type := 2, payload := [5, 6] }), ([]),
      ({ W [(ER_STAT, ER_STAT.READY, 1), (ER_PTR, ER_PTR.NEXT_CIRC, 4096), (ER_GEOM, ER_GEOM.SLOTS, 131072)] with rcd := { queue := [{ type := 2, payload := [5, 6] }] }, clk := { fast := .run } }),
      4096, by decide⟩,
    ⟨({ type := 3, payload := [5, 6] }), ([]),
      ({ W [(ER_STAT, ER_STAT.READY, 1), (ER_PTR, ER_PTR.NEXT_CIRC, 4096), (ER_PTR, ER_PTR.KEPT_NEXT, 4078), (ER_GEOM, ER_GEOM.SLOTS, 131072)] with rcd := { queue := [{ type := 3, payload := [5, 6] }] }, clk := { fast := .run } }),
      4078, by decide⟩,
    ⟨4097, false, false, ({ type := 4, payload := [5, 6], tile := 1 }), ([]),
      (({ W [(ER_STAT, ER_STAT.READY, 1), (ER_STAT, ER_STAT.QUEUE, 1), (ER_PTR, ER_PTR.NEXT_CIRC, 4098), (ER_GEOM, ER_GEOM.SLOTS, 131072)] with rcd := { op := .program 4097 false false, queue := [{ type := 4, payload := [5, 6], tile := 1 }] } }
      : State).programSlot 4097 (buildRec { type := 4, payload := [5, 6], tile := 1 } false false 5 5 3)), by decide⟩,
    ⟨4097, true, ({ type := 2 }), ([]),
      ({ W [(ER_STAT, ER_STAT.READY, 1), (ER_STAT, ER_STAT.QUEUE, 1), (ER_PTR, ER_PTR.NEXT_CIRC, 4098), (ER_GEOM, ER_GEOM.SLOTS, 131072)] with rcd := { op := .program 4097 false true, queue := [{ type := 2 }] } }),
      by decide⟩,
    ⟨4097, true, ({ type := 2 }), ([]),
      ({ W [(ER_STAT, ER_STAT.READY, 1), (ER_STAT, ER_STAT.QUEUE, 1), (ER_PTR, ER_PTR.NEXT_CIRC, 4098), (ER_GEOM, ER_GEOM.SLOTS, 131072)] with rcd := { op := .program 4097 true true, queue := [{ type := 2 }] } }),
      by decide⟩,
    ⟨256,
      ({ W [(ER_STAT, ER_STAT.READY, 1), (ER_GEOM, ER_GEOM.SLOTS, 131072)] with rcd := { op := .erase 256 }, flash := [(512 * 256 - 1, 5), (512 * 256, 5), (512 * 257, 6)] }),
      by decide⟩,
    ⟨256, ({ W [(ER_STAT, ER_STAT.READY, 1), (ER_GEOM, ER_GEOM.SLOTS, 131072)] with rcd := { op := .erase 256 } }), by decide⟩,
    ⟨4077, true, ({ type := 3 }), ([]),
      ({ W [(ER_STAT, ER_STAT.READY, 1), (ER_STAT, ER_STAT.QUEUE, 1), (ER_PTR, ER_PTR.NEXT_CIRC, 4098), (ER_PTR, ER_PTR.KEPT_NEXT, 4078), (ER_GEOM, ER_GEOM.SLOTS, 131072)] with rcd := { op := .program 4077 false true, queue := [{ type := 3 }] } }),
      4078, by decide⟩,
    ⟨true, 4081,
      ({ W [(ER_STAT, ER_STAT.READY, 1), (ER_STAT, ER_STAT.CLEARING, 1), (ER_GEOM, ER_GEOM.SLOTS, 8192)] with rcd := { op := .clear true 4081, freezePend := true } }),
      by decide⟩⟩

theorem met_RecorderCommands :
    (∃ (d : Word) (s : State), s.quiet ∧ s.alone ∧ s.takes ER_CTRL d ∧ ER_CTRL.FREEZE.get d = 1 ∧ ER_CTRL.THAW.get d = 0 ∧
      ER_CTRL.CLEAR.get d = 0 ∧ ER_CTRL.RD_ABORT.get d = 0 ∧ s.flag ER_STAT ER_STAT.FROZEN = false) ∧
    (∃ (d : Word) (s : State), s.quiet ∧ s.alone ∧ s.takes ER_CTRL d ∧ ER_CTRL.FREEZE.get d = 1 ∧ ER_CTRL.THAW.get d = 0 ∧
      ER_CTRL.CLEAR.get d = 0 ∧ ER_CTRL.RD_ABORT.get d = 0 ∧ s.flag ER_STAT ER_STAT.FROZEN = false) ∧
    (∃ (d : Word) (s : State), s.quiet ∧ s.alone ∧ s.takes ER_CTRL d ∧ ER_CTRL.FREEZE.get d = 0 ∧ ER_CTRL.THAW.get d = 1 ∧
      ER_CTRL.CLEAR.get d = 0 ∧ ER_CTRL.RD_ABORT.get d = 0) ∧
    (∃ (s : State), s.quiet ∧ s.flag ER_STAT ER_STAT.FROZEN = true ∧ s.rcd.clearPend = none) ∧
    (∃ (s : State), s.quiet ∧ s.flag ER_STAT ER_STAT.FROZEN = true ∧ s.rcd.clearPend = none) ∧
    (∃ (d : Word) (s : State), s.quiet ∧ s.alone ∧ s.takes ER_RD_PTR d) ∧
    (∃ (s : State), s.quiet ∧ s.alone) ∧
    (∃ (s : State), s.quiet ∧ s.alone) ∧
    (∃ (s : State), s.quiet ∧ s.rcd.fetching = true ∧ (s.rcd.op = .idle ∨ s.flag ER_STAT ER_STAT.FROZEN = true) ∧ s.slotN ≠ 0 ∧
      s.rd ER_RD_STAT ER_RD_STAT.SLOT < s.slotN) ∧
    (∃ (d : Word) (same : Bool) (s : State), s.quiet ∧ s.alone ∧ s.takes ER_CTRL d ∧ ER_CTRL.FREEZE.get d = 0 ∧ ER_CTRL.THAW.get
      d = 0 ∧ ER_CTRL.CLEAR.get d = 0 ∧ ER_CTRL.RD_ABORT.get d = 1) ∧
    (∃ (d : Word) (same : Bool) (s : State), s.quiet ∧ s.alone ∧ s.takes ER_CTRL d ∧ ER_CTRL.FREEZE.get d = 0 ∧ ER_CTRL.THAW.get
      d = 0 ∧ ER_CTRL.CLEAR.get d = 0 ∧ ER_CTRL.RD_ABORT.get d = 1) ∧
    (∃ (d : Word) (s : State), s.quiet ∧ s.alone ∧ s.takes ER_CTRL d ∧ ER_CTRL.FREEZE.get d = 0 ∧ ER_CTRL.THAW.get d = 0 ∧
      ER_CTRL.CLEAR.get d = 1 ∧ ER_CTRL.RD_ABORT.get d = 0) ∧
    (∃ (d : Word) (s : State), s.quiet ∧ s.alone ∧ s.takes ER_CTRL d ∧ ER_CTRL.FREEZE.get d = 0 ∧ ER_CTRL.THAW.get d = 0 ∧
      ER_CTRL.CLEAR.get d = 1 ∧ ER_CTRL.RD_ABORT.get d = 0) ∧
    (∃ (all : Bool) (slot : Nat) (s : State), s.quiet ∧ s.rcd.op = .clear all slot ∧ 4080 ≤ slot ∧ slot < 4096 ∧ s.flag ER_STAT
      ER_STAT.FROZEN = false ∧ s.rcd.freezePend = false ∧ s.clearUsed < 16) ∧
    (∃ (all : Bool) (slot : Nat) (s : State), s.quiet ∧ s.rcd.op = .clear all slot ∧ 4080 ≤ slot ∧ slot < 4096 ∧ s.flag ER_STAT
      ER_STAT.FROZEN = false ∧ s.rcd.freezePend = false ∧ s.clearUsed < 16) ∧
    (∃ (s : State), s.quiet ∧ s.fuses.lcState ≠ 0) ∧
    (∃ (d : Word) (s : State), s.quiet ∧ s.alone ∧ s.takes ER_CFG d) ∧
    (∃ (d : Word) (s : State), s.quiet ∧ s.alone ∧ s.takes ER_CFG d) ∧
    (∃ (s : State), s.quiet ∧ s.flag ER_STAT ER_STAT.FROZEN = true) :=
  ⟨⟨1, (asked State.reset), by decide⟩,
    ⟨1, (asked { State.reset with rcd := { op := .erase 300 } }), by decide⟩,
    ⟨2, (asked (W [(ER_STAT, ER_STAT.FROZEN, 1)])), by decide⟩,
    ⟨(W [(ER_STAT, ER_STAT.FROZEN, 1)]), by decide⟩,
    ⟨({ W [(ER_STAT, ER_STAT.FROZEN, 1), (ER_STAT, ER_STAT.READY, 1), (ER_PTR, ER_PTR.NEXT_CIRC, 4096), (ER_GEOM, ER_GEOM.SLOTS, 131072)] with flash := [(512 * 256, 5)] }),
      by decide⟩,
    ⟨0x0010050000000000, (asked (W [(ER_STAT, ER_STAT.READY, 1)])), by decide⟩,
    ⟨(asked (onRcd State.reset (fun r => { r with buffer := [5, 6] }))), by decide⟩,
    ⟨(asked State.reset), by decide⟩,
    ⟨({ W [(ER_GEOM, ER_GEOM.SLOTS, 131072), (ER_RD_STAT, ER_RD_STAT.SLOT, 131071), (ER_RD_STAT, ER_RD_STAT.WORD, 3)] with rcd := { fetching := true }, flash := [(0, 9), (131071 * 32 + 4, 7)] }),
      by decide⟩,
    ⟨4, false, (asked (onRcd (W [(ER_GEOM, ER_GEOM.SLOTS, 131072)]) (fun r => { r with fetching := true, buffer := [3] }))), by
      decide⟩,
    ⟨4, true, (asked (onRcd (W [(ER_GEOM, ER_GEOM.SLOTS, 131072)]) (fun r => { r with fetching := true }))), by decide⟩,
    ⟨8, (asked State.reset), by decide⟩,
    ⟨8, (asked (W [(ER_STAT, ER_STAT.CLEAR_ARMED, 1), (ER_STAT, ER_STAT.READY, 1), (ER_PTR, ER_PTR.NEXT_CIRC, 4098), (ER_GEOM,
      ER_GEOM.SLOTS, 131072)])), by decide⟩,
    ⟨true, 4081,
      ({ W [(ER_STAT, ER_STAT.READY, 1), (ER_STAT, ER_STAT.CLEARING, 1), (ER_PTR, ER_PTR.NEXT_CIRC, 4098), (ER_GEOM, ER_GEOM.SLOTS, 8192)] with rcd := { op := .clear true 4081 }, flash := [(5, 5), (32 * 4097, 5)] }),
      by decide⟩,
    ⟨false, 4095,
      ({ W [(ER_STAT, ER_STAT.READY, 1), (ER_STAT, ER_STAT.CLEARING, 1), (ER_PTR, ER_PTR.NEXT_CIRC, 4098), (ER_GEOM, ER_GEOM.SLOTS, 8192)] with rcd := { op := .clear false 4095 }, flash := [(5, 5), (32 * 4097, 5)] }),
      by decide⟩,
    ⟨({ W [(ER_STAT, ER_STAT.CLEAR_ARMED, 1)] with fuses := { lcState := 2 } }), by decide⟩,
    ⟨0x8105, (asked State.reset), by decide⟩,
    ⟨0x8105, (asked (W [(ER_CFG, ER_CFG.LOCK, 1)])), by decide⟩,
    ⟨(W [(ER_STAT, ER_STAT.FROZEN, 1)]), by decide⟩⟩

theorem met_PortsComeUp :
    (∃ (n : Nat) (s : State), s.quiet ∧ s.portOn n = true ∧ s.portState n = poDetect ∧ s.clk.fast ≠ .sleep) ∧
    (∃ (n : Nat) (s : State), s.quiet ∧ s.portOn n = true ∧ s.portState n = poDetect ∧ s.clk.fast = .sleep ∧ 8 &&& s.armed ≠ 0) ∧
    (∃ (n : Nat) (s : State), s.quiet ∧ s.portOn n = true ∧ s.portState n = poDetect ∧ s.clk.fast = .sleep ∧ 8 &&& s.armed = 0) ∧
    (∃ (n : Nat) (s : State), s.quiet ∧ s.portOn n = true ∧ s.portState n = poTraining) ∧
    (∃ (c : Instr) (n : Nat) (s : State), s.quiet ∧ ((c = .trainingTimeout n ∧ s.portState n = poTraining) ∨ (c =
      .isolationExpiry n ∧ s.portState n = poIsolated))) ∧
    (∃ (c : Instr) (n : Nat) (s : State), s.quiet ∧ ((c = .trainingTimeout n ∧ s.portState n = poTraining) ∨ (c =
      .isolationExpiry n ∧ s.portState n = poIsolated))) ∧
    (∃ (n : Nat) (s : State), s.quiet ∧ n < 4 ∧ s.portState n ∈ [poHello, poAuth, poUp]) ∧
    (∃ (n : Nat) (s : State), s.quiet ∧ n < 4 ∧ s.portState n ∈ [poHello, poAuth, poUp]) ∧
    (∃ (n : Nat) (f : LinkFrame) (s : State), s.quiet ∧ n < 4 ∧ s.portState n = poHello ∧ frd f FR.TYPE = 1 ∧ frameOk f = true ∧
      frd f FR.CLASS = 0 ∧ (s.port_ n).resend = [] ∧ (s.port_ n).waiting = []) ∧
    (∃ (n : Nat) (f : LinkFrame) (s : State), n < 4 ∧ s.portState n = poAuth ∧ frd f FR.TYPE = 2 ∧ frameOk f = true ∧ frd f
      FR.CLASS = 1 ∧ frd f FR.SEQ = (s.port_ n).rxSeq ∧ (s.port_ n).waiting = []) ∧
    (∃ (c : Instr) (n : Nat) (s : State), (c = .portDown n ∨ c = .portSilenceTimeout n) ∧ s.portUp n = true ∧ s.follows = false) ∧
    (∃ (c : Instr) (n : Nat) (s : State), (c = .portDown n ∨ c = .portSilenceTimeout n) ∧ s.portUp n = true ∧ s.follows = false) ∧
    (∃ (c : Instr) (n : Nat) (s : State), (c = .portDown n ∨ c = .portSilenceTimeout n) ∧ s.portUp n = true ∧ s.follows = true ∧
      s.rd CL_TIME CL_TIME.PARENT = n ∧ s.ckMode = ckLocked ∧ s.rd HD_CLK HD_CLK.LOSSES + 1 < 0xFFFFFFFF) ∧
    (∃ (c : Instr) (n : Nat) (s : State), (c = .portDown n ∨ c = .portSilenceTimeout n) ∧ s.portUp n = true ∧ s.follows = true ∧
      s.rd CL_TIME CL_TIME.PARENT = n ∧ s.ckMode = ckLocked ∧ s.rd HD_CLK HD_CLK.LOSSES + 1 < 0xFFFFFFFF) ∧
    (∃ (n : Nat) (f : LinkFrame) (s : State) (m : Nat), s.quiet ∧ s.comes n (frd f FR.TYPE) f ∧ 0x20 ≤ frd f FR.TYPE ∧ frd f
      FR.DST ≠ s.inst ∧ frd f FR.HOPS ≠ 0 ∧ s.wayTo (frd f FR.DST) m ∧ (s.port_ m).waiting = []) ∧
    (∃ (n : Nat) (f : LinkFrame) (s : State), s.quiet ∧ s.comes n (frd f FR.TYPE) f ∧ 0x20 ≤ frd f FR.TYPE ∧ frd f FR.DST ≠
      s.inst ∧ (frd f FR.HOPS = 0 ∨ s.routeMask (frd f FR.DST) = 0) ∧ s.rd (CL_PORT n) CL_PORT.ERRORS + 1 < 0xFFFFFFFF) ∧
    (∃ (n : Nat) (f : LinkFrame) (s : State), s.quiet ∧ s.portState n = poHello ∧ frd f FR.TYPE = 2 ∧ s.rd (CL_PORT n)
      CL_PORT.ERRORS + 1 < 0xFFFFFFFF) ∧
    (∃ (c : Instr) (n : Nat) (f : LinkFrame) (s : State), s.quiet ∧ s.portUp n = true ∧ frameOk f = false ∧ s.rd (CL_PORT n)
      CL_PORT.ERRORS + 1 < 0xFFFFFFFF ∧ ((c = .adv n f ∧ frd f FR.TYPE = 0x10) ∨ (c = .frameForward n f ∧ 0x20 ≤ frd f FR.TYPE ∧
      frd f FR.DST ≠ s.inst) ∨ (c = .pullData n f ∧ frd f FR.TYPE = 0x32 ∧ frd f FR.DST = s.inst))) ∧
    (∃ (c : Instr) (n : Nat) (f : LinkFrame) (s : State), s.quiet ∧ s.portUp n = true ∧ frameOk f = false ∧ s.rd (CL_PORT n)
      CL_PORT.ERRORS + 1 < 0xFFFFFFFF ∧ ((c = .adv n f ∧ frd f FR.TYPE = 0x10) ∨ (c = .frameForward n f ∧ 0x20 ≤ frd f FR.TYPE ∧
      frd f FR.DST ≠ s.inst) ∨ (c = .pullData n f ∧ frd f FR.TYPE = 0x32 ∧ frd f FR.DST = s.inst))) ∧
    (∃ (c : Instr) (n : Nat) (f : LinkFrame) (s : State), s.quiet ∧ s.portUp n = true ∧ frameOk f = false ∧ s.rd (CL_PORT n)
      CL_PORT.ERRORS + 1 < 0xFFFFFFFF ∧ ((c = .adv n f ∧ frd f FR.TYPE = 0x10) ∨ (c = .frameForward n f ∧ 0x20 ≤ frd f FR.TYPE ∧
      frd f FR.DST ≠ s.inst) ∨ (c = .pullData n f ∧ frd f FR.TYPE = 0x32 ∧ frd f FR.DST = s.inst))) ∧
    (∃ (n : Nat) (s : State), s.quiet ∧ n < 4) :=
  ⟨⟨3, (inField (W [(CL_PORT 3, CL_PORT.STATE, 1)])), by decide⟩,
    ⟨3, ({ inField (W [(CL_PORT 3, CL_PORT.STATE, 1), (HD_WAKE_EN, HD_WAKE_EN.LINK, 1)]) with clk := { fast := .sleep } }), by
      decide⟩,
    ⟨0, ({ inField (W [(CL_PORT 0, CL_PORT.STATE, 1)]) with clk := { fast := .sleep } }), by decide⟩,
    ⟨3, (inField (W [(CL_PORT 3, CL_PORT.STATE, 2)])), by decide⟩,
    ⟨(.trainingTimeout 2), 2, (W [(CL_PORT 2, CL_PORT.STATE, 2)]), by decide⟩,
    ⟨(.isolationExpiry 2), 2, (W [(CL_PORT 2, CL_PORT.STATE, 6)]), by decide⟩,
    ⟨2, (W [(CL_PORT 2, CL_PORT.STATE, 5)]), by decide⟩,
    ⟨2, (W [(CL_PORT 2, CL_PORT.STATE, 3)]), by decide⟩,
    ⟨1, (fr 1 0 9 0 [0x0094000000000000, 1, 2, 3, 4]), (W [(CL_PORT 1, CL_PORT.STATE, 3)]), by decide⟩,
    ⟨1, (fr 2 0 9 1 [3, 4]), ((W [(CL_PORT 1, CL_PORT.STATE, 4)])), by decide⟩,
    ⟨(.portDown 1), 1, (upOn 1 State.reset), by decide⟩,
    ⟨(.portSilenceTimeout 1), 1, (upOn 1 State.reset), by decide⟩,
    ⟨(.portDown 1), 1, (upOn 1 (W [(HD_CLK, HD_CLK.MODE, 0), (CL_TIME, CL_TIME.SRC, 1), (CL_TIME, CL_TIME.PARENT, 1)])), by
      decide⟩,
    ⟨(.portSilenceTimeout 1), 1, (upOn 1 (W [(HD_CLK, HD_CLK.MODE, 0), (CL_TIME, CL_TIME.SRC, 1), (CL_TIME, CL_TIME.PARENT,
      1)])), by decide⟩,
    ⟨1, (fr 0x20 7 9 1 [5]), (upOn 1 (W [(CL_PORT 2, CL_PORT.STATE, 5), (CL_ROUTE 7, CL_ROUTE.PORTS, 4)])), 2, by decide⟩,
    ⟨1, (sealFrame { mkFrame 0x20 7 9 1 [5] with header := FR.HOPS.set (mkFrame 0x20 7 9 1 [5]).header 0 } 0 0), (upOn 1
      State.reset), by decide⟩,
    ⟨1, (fr 2 0 9 1 [3, 4]), (W [(CL_PORT 1, CL_PORT.STATE, 3)]), by decide⟩,
    ⟨(.adv 1 { fr 0x10 0 9 0 [1, 2, 3, 4, 5] with trailer := 0 }), 1, ({ fr 0x10 0 9 0 [1, 2, 3, 4, 5] with trailer := 0 }),
      (upOn 1 State.reset), by decide⟩,
    ⟨(.frameForward 1 { fr 0x20 7 9 1 [5] with trailer := 0 }), 1, ({ fr 0x20 7 9 1 [5] with trailer := 0 }), (upOn 1
      State.reset), by decide⟩,
    ⟨(.pullData 1 { fr 0x32 0 9 1 [5] with trailer := 0 }), 1, ({ fr 0x32 0 9 1 [5] with trailer := 0 }), (upOn 1 State.reset),
      by decide⟩,
    ⟨1, ((upOn 1 State.reset).updPort 1 (fun p => { p with resend := [fr 0x20 7 9 1 [5], fr 0x20 7 9 1 [6]], rxSeq := 4 })), by
      decide⟩⟩

theorem met_FabricFollows :
    (∃ (n : Nat) (s : State), s.quiet ∧ s.upPorts = [n] ∧ s.flag CL_STAT CL_STAT.ADDR_CONFLICT = false ∧ (s.port_
      n).resend.length < 128) ∧
    (∃ (n : Nat) (f : LinkFrame) (s : State), s.quiet ∧ s.comes n 0x10 f ∧ s.upPorts = [n] ∧ (advOf f).uid ≠ s.fuses.uid ∧
      (advOf f).inst ≠ s.inst ∧ s.jobState = jbSolo) ∧
    (∃ (n : Nat) (f : LinkFrame) (s : State), s.comes n 0x10 f ∧ (advOf f).uid ≠ s.fuses.uid ∧ (advOf f).inst = s.inst ∧
      s.jobState = jbSolo ∧ s.flag CL_STAT CL_STAT.ADDR_CONFLICT = false) ∧
    (∃ (i : Nat) (s : State), s.quiet) ∧
    (∃ (s : State) (i : Nat) (uid : BitVec 128), s.quiet ∧ s.link.conflict = some (i, uid) ∧ s.conflictMoved i uid = true) ∧
    (∃ (s : State) (i : Nat) (uid : BitVec 128), s.quiet ∧ s.link.conflict = some (i, uid) ∧ s.conflictMoved i uid = false) ∧
    (∃ (s : State), s.quiet ∧ s.link.advs = [] ∧ s.link.reroute = [] ∧ s.rd CL_STAT CL_STAT.ROOT_PRIO ≠ 0 ∧ s.flag CL_STAT
      CL_STAT.ADDR_CONFLICT = false ∧ s.flag CL_TIME CL_TIME.SRC = false) ∧
    (∃ (n : Nat) (j : Nat) (x : AdvX) (s : State), s.quiet ∧ s.link.advs = [x] ∧ x.inst < 4096 ∧ x.inst ≠ s.inst ∧ n < 4 ∧ j < 4
      ∧ s.upPorts = [n] ∧ s.advPort n = portField x.inst j + 2 ∧ portOf x.ports j = portField s.inst n + 2 ∧ (∀ i, i < 4 → i ≠ j
      → bit (portOf x.ports i) 1 = false) ∧ s.rd CL_STAT CL_STAT.ROOT_PRIO < x.prio ∧ s.link.reroute = [] ∧ s.timeState ∉
      [tmAligning, tmOut, tmAhead]) ∧
    (∃ (f : Int) (s : State), s.quiet ∧ s.follows = true ∧ s.ckMode = ckLocked) ∧
    (∃ (s : State), s.follows = true ∧ s.ckMode = ckLocked ∧ s.rd HD_CLK HD_CLK.LOSSES + 1 < 0xFFFFFFFF) ∧
    (∃ (s : State), 800 < (s.rdi CL_TIME CL_TIME.OFFSET).natAbs ∧ s.timeState = tmFollow ∧ s.jobState = jbSolo ∧ s.clk.beat <
      (s.parentBoundary s.offsetWide).1) ∧
    (∃ (s : State), s.timeState = tmOut ∧ s.stepOpen = true ∧ s.clk.beat < (s.parentBoundary s.offsetWide).1 ∧ s.quiet) ∧
    (∃ (s : State), s.timeState = tmOut ∧ s.stepOpen = true ∧ (s.parentBoundary s.offsetWide).1 ≤ s.clk.beat) ∧
    (∃ (n : Nat) (pos : Nat) (s : State), s.quiet ∧ s.portUp n = true ∧ pos < 16000) ∧
    (∃ (n : Nat) (pos : Nat) (f : LinkFrame) (s : State), s.quiet ∧ s.comes n 3 f ∧ pos < 16000 ∧ s.link.stampFrom = 0) ∧
    (∃ (n : Nat) (pos : Nat) (f : LinkFrame) (s : State), s.quiet ∧ s.comes n 3 f ∧ pos < 16000 ∧ s.link.stampFrom = 0) :=
  ⟨⟨1, (upOn 1 State.reset), by decide⟩,
    ⟨1, (fr 0x10 0 9 0 [0x0000000507000000, 2, 3, 4, 5]), (upOn 1 State.reset), by decide⟩,
    ⟨1, (fr 0x10 9 0 0 [0x0000000507000000, 2, 3, 4, 5]), (upOn 1 State.reset), by decide⟩,
    ⟨7, ({ State.reset with link := { advs := [⟨9, 5, 1, 200, 3, 1, 5, 0⟩, ⟨7, 5, 1, 200, 3, 1, 5, 0⟩] } }), by decide⟩,
    ⟨({ State.reset with link := { conflict := some (3, 5) } }), 3, 5, by decide⟩,
    ⟨({ State.reset with link := { conflict := some (0, 5) } }), 0, 5, by decide⟩,
    ⟨(W [(CL_STAT, CL_STAT.ROOT_PRIO, 7), (CL_STAT, CL_STAT.INSTANCE, 5), (CL_ROUTE 9, CL_ROUTE.PORTS, 3)]), by decide⟩,
    ⟨1, 2, (⟨9, 5, 1, 200, 0, 1, 0, 0x0000000000060000⟩),
      ({ upOn 1 (W [(CL_PORT 1, CL_PORT.NPORT, 2), (CL_STAT, CL_STAT.ROOT_PRIO, 7)]) with link := { advs := [⟨9, 5, 1, 200, 0, 1, 0, 0x0000000000060000⟩] } }),
      by decide⟩,
    ⟨1000, (W [(HD_CLK, HD_CLK.MODE, 0), (CL_TIME, CL_TIME.SRC, 1), (CL_TIME, CL_TIME.PARENT, 1), (CL_TIME, CL_TIME.OFFSET,
      0xFFF0), (CL_TIME, CL_TIME.STATE, 2)]), by decide⟩,
    ⟨(W [(HD_CLK, HD_CLK.MODE, 0), (CL_TIME, CL_TIME.SRC, 1), (CL_TIME, CL_TIME.PARENT, 1)]), by decide⟩,
    ⟨((W [(CL_TIME, CL_TIME.STATE, 2), (CL_TIME, CL_TIME.PARENT, 1), (CL_TIME, CL_TIME.OFFSET, 0x8001)]).updPort 1 (fun p =>
      { p with offsets := [-200000] })), by decide⟩,
    ⟨(({ W [(CL_TIME, CL_TIME.STATE, 4), (CL_TIME, CL_TIME.PARENT, 1)] with fuses := { rows := 1, cols := 1 } } : State).updPort
      1 (fun p => { p with offsets := [-200000] })), by decide⟩,
    ⟨(({ W [(CL_TIME, CL_TIME.STATE, 4), (CL_TIME, CL_TIME.PARENT, 1)] with clk := { beat := 9000 } } : State).updPort 1 (fun p
      => { p with offsets := [200000] })), by decide⟩,
    ⟨1, 15999, (upOn 1 State.reset), by decide⟩,
    ⟨1, 5000, (fr 3 0 9 0 [77, 0, 0]), (upOn 1 State.reset), by decide⟩,
    ⟨1, 5000, (fr 3 0 9 0 [0x14600, 0x14500, 0x14580]), ({ upOn 1 State.reset with clk := { beat := 5 } }), by decide⟩⟩

theorem met_JobsAgree :
    (∃ (d : Word) (s : State), s.quiet ∧ s.alone ∧ s.takes CL_JOB d ∧ CL_JOB.JOIN.get d = 1 ∧ CL_JOB.LEAVE.get d = 0 ∧
      CL_JOB.JOB_ID.get d ≠ 0 ∧ s.jobState = jbSolo) ∧
    (∃ (d : Word) (s : State), s.quiet ∧ s.alone ∧ s.takes CL_JOB d ∧ CL_JOB.JOIN.get d = 1 ∧ CL_JOB.LEAVE.get d = 0 ∧
      CL_JOB.JOB_ID.get d ≠ 0 ∧ s.jobState = jbSolo) ∧
    (∃ (d : Word) (s : State), s.quiet ∧ s.alone ∧ s.takes CL_JOB d ∧ CL_JOB.LEAVE.get d = 1) ∧
    (∃ (d : Word) (s : State), s.quiet ∧ s.alone ∧ s.takes CL_JOB d ∧ CL_JOB.LEAVE.get d = 1) ∧
    (∃ (s : State), s.quiet ∧ s.jobState = jbJoining ∧ s.link.job.first = none) ∧
    (∃ (s : State), s.quiet ∧ s.jobState = jbJoining ∧ s.link.job.first = none) ∧
    (∃ (n : Nat) (f : LinkFrame) (s : State), s.quiet ∧ s.hears n 0x20 f ∧ s.flag CL_STAT CL_STAT.NO_ROOT = false ∧ s.leads =
      true ∧ s.jobState = jbLeader ∧ payBits f 1 63 48 = s.link.job.id) ∧
    (∃ (n : Nat) (f : LinkFrame) (s : State), s.quiet ∧ s.hears n 0x20 f ∧ s.flag CL_STAT CL_STAT.NO_ROOT = false ∧ s.leads =
      true ∧ s.jobState = jbLeader ∧ payBits f 1 63 48 = s.link.job.id) ∧
    (∃ (n : Nat) (f : LinkFrame) (s : State), s.quiet ∧ s.hears n 0x21 f ∧ frd f FR.SRC = s.jobLeader ∧ payBits f 1 63 48 =
      s.link.job.id ∧ s.jobState = jbJoining) ∧
    (∃ (n : Nat) (f : LinkFrame) (s : State), s.quiet ∧ s.hears n 0x21 f ∧ frd f FR.SRC = s.jobLeader ∧ payBits f 1 63 48 =
      s.link.job.id ∧ s.jobState = jbJoining) ∧
    (∃ (w : Nat) (s : State), s.quiet ∧ s.link.job.first = some w ∧ w ≤ s.winNow ∧ s.jobState = jbJoining) ∧
    (∃ (w : Nat) (s : State), s.quiet ∧ s.link.job.first = some w ∧ w ≤ s.winNow ∧ s.jobState = jbJoining) ∧
    (∃ (n : Nat) (f : LinkFrame) (s : State), s.quiet ∧ s.hears n 0x22 f ∧ s.leads = true ∧ payBits f 1 63 48 = s.link.job.id ∧
      s.clk.beatLeft ≠ 250 ∧ s.link.job.members.length < 4096) ∧
    (∃ (s : State), s.reaches s.jobLeader = true ∧ s.quiet) ∧
    (∃ (s : State), s.reaches s.jobLeader = false ∧ s.jobState = jbMember ∧ s.link.job.nextLeader = none ∧ s.jobPeers
      s.link.job.id = []) ∧
    (∃ (n : Nat) (f : LinkFrame) (s : State), s.quiet ∧ s.hears n 0x23 f ∧ s.unheard f 0 (2 * (pay f 1).toNat + payBits f 2 59
      59) ∧ s.leads = true ∧ s.clk.beatLeft ≠ 250) ∧
    (∃ (s : State), s.quiet ∧ s.leads = true ∧ s.link.job.agreedWin ≠ some s.winNow ∧ s.needsHeld ≠ []) ∧
    (∃ (n : Nat) (f : LinkFrame) (s : State), s.quiet ∧ s.hears n 0x24 f ∧ s.unheard f 0 (pay f 1).toNat ∧ s.inJob = true ∧ frd
      f FR.SRC = s.jobLeader ∧ (pay f 1).toNat = s.winNow) ∧
    (∃ (n : Nat) (f : LinkFrame) (s : State), s.quiet ∧ s.hears n 0x24 f ∧ s.unheard f 0 (pay f 1).toNat ∧ s.inJob = true ∧ frd
      f FR.SRC = s.jobLeader ∧ (pay f 1).toNat = s.winNow) ∧
    (∃ (n : Nat) (f : LinkFrame) (s : State), s.quiet ∧ s.hears n 0x25 f ∧ s.unheard f (payBits f 1 63 56) (payBits f 1 55 55) ∧
      s.leads = true ∧ (∃ e ∈ s.link.job.members, e.inst = frd f FR.SRC) ∧ s.clk.beatLeft ≠ 250) ∧
    (∃ (n : Nat) (f : LinkFrame) (s : State), s.hears n 0x26 f ∧ s.unheard f (payBits f 1 63 56) (payBits f 1 55 55) ∧ s.inJob =
      true ∧ frd f FR.SRC = s.jobLeader ∧ s.holdsSync (payBits f 1 63 56) (payBits f 1 55 55) = true) ∧
    (∃ (n : Nat) (f : LinkFrame) (s : State), s.hears n 0x26 f ∧ s.unheard f (payBits f 1 63 56) (payBits f 1 55 55) ∧ s.inJob =
      true ∧ frd f FR.SRC = s.jobLeader ∧ s.holdsSync (payBits f 1 63 56) (payBits f 1 55 55) = true) ∧
    (∃ (n : Nat) (f : LinkFrame) (s : State), s.quiet ∧ s.hears n 0x27 f ∧ s.unheard f 0 (pay f 1).toNat ∧ s.timeState = tmRoot
      ∧ s.clk.beatLeft ≠ 250) ∧
    (∃ (d : Nat) (l : Nat) (s : State), s.quiet ∧ s.timeState = tmRoot ∧ s.link.shareWin ≠ some s.winNow ∧ s.link.reqs =
      [⟨s.inst, s.winNow, d, l⟩] ∧ l < 2 ^ 24) ∧
    (∃ (d : Nat) (l : Nat) (s : State), s.quiet ∧ s.timeState = tmRoot ∧ s.link.shareWin ≠ some s.winNow ∧ s.link.reqs =
      [⟨s.inst, s.winNow, d, l⟩] ∧ l < 2 ^ 24) ∧
    (∃ (d : Nat) (l : Nat) (s : State), s.quiet ∧ s.timeState = tmRoot ∧ s.link.shareWin ≠ some s.winNow ∧ s.link.reqs =
      [⟨s.inst, s.winNow, d, l⟩] ∧ l < 2 ^ 24) ∧
    (∃ (n : Nat) (f : LinkFrame) (s : State), s.quiet ∧ s.hears n 0x28 f ∧ s.unheard f 0 (pay f 1).toNat ∧ frd f FR.SRC = s.rd
      CL_STAT CL_STAT.ROOT) ∧
    (∃ (n : Nat) (f : LinkFrame) (s : State), s.quiet ∧ s.hears n 0x28 f ∧ s.unheard f 0 (pay f 1).toNat ∧ frd f FR.SRC = s.rd
      CL_STAT CL_STAT.ROOT) :=
  ⟨⟨0x0005000000000001, (asked State.reset), by decide⟩,
    ⟨0x0005000000000001, (asked (W [(HD_IMG_STAT, HD_IMG_STAT.STATE, 4), (CL_TIME, CL_TIME.STATE, 1)])), by decide⟩,
    ⟨2, (asked (onJob (W [(CL_JOB, CL_JOB.STATE, 2), (CL_JOB, CL_JOB.JOB_ID, 5), (CG_STAT, CG_STAT.SOLO, 0)]) (fun j =>
      { j with id := 5, rejoin := true }))), by decide⟩,
    ⟨2, (asked (onJob (W [(CL_JOB, CL_JOB.STATE, 1), (CL_JOB, CL_JOB.JOB_ID, 5), (CG_SHARE, CG_SHARE.VALID, 1)]) (fun j =>
      { j with id := 5, rejoin := true }))), by decide⟩,
    ⟨(upOn 1 (onJob (W [(CL_JOB, CL_JOB.STATE, 1), (CL_JOB, CL_JOB.LEADER, 9)]) (fun j => { j with id := 5, tries := 2 }))), by
      decide⟩,
    ⟨(upOn 1 (onJob (W [(CL_JOB, CL_JOB.STATE, 1), (CL_JOB, CL_JOB.LEADER, 9)]) (fun j => { j with id := 5, tries := 3 }))), by
      decide⟩,
    ⟨1, (fr 0x20 0 9 1 [0x0005000000000000, 3]), (upOn 1 (onJob (W [(CL_STAT, CL_STAT.NO_ROOT, 0), (CL_JOB, CL_JOB.STATE, 3),
      (CL_JOB, CL_JOB.LEADER, 0)]) (fun j => { j with id := 5 }))), by decide⟩,
    ⟨1, (fr 0x20 0 9 1 [0x0005004000000000, 3]), (upOn 1 (onJob (W [(CL_STAT, CL_STAT.NO_ROOT, 0), (CL_JOB, CL_JOB.STATE, 3),
      (CL_JOB, CL_JOB.LEADER, 0), (CG_CFG0, CG_CFG0.APPLY_BEATS, 64)]) (fun j => { j with id := 5 }))), by decide⟩,
    ⟨1, (fr 0x21 0 9 1 [0x0005000000000000, 3]), (upOn 1 (onJob (W [(CL_JOB, CL_JOB.STATE, 1), (CL_JOB, CL_JOB.LEADER, 9)]) (fun
      j => { j with id := 5 }))), by decide⟩,
    ⟨1, (fr 0x21 0 9 1 [0x0005000000000400, 3]), (upOn 1 (onJob (W [(CL_JOB, CL_JOB.STATE, 1), (CL_JOB, CL_JOB.LEADER, 9)]) (fun
      j => { j with id := 5 }))), by decide⟩,
    ⟨0, (onJob (W [(CL_JOB, CL_JOB.STATE, 1), (CL_JOB, CL_JOB.LEADER, 9)]) (fun j => { j with id := 5, first := some 0 })), by
      decide⟩,
    ⟨0, (onJob (W [(CL_JOB, CL_JOB.STATE, 1)]) (fun j => { j with id := 5, first := some 0, lead := true })), by decide⟩,
    ⟨1, (fr 0x22 0 9 1 [0x0005000000000000]),
      ({ upOn 1 (onJob (W [(CL_JOB, CL_JOB.STATE, 3)]) (fun j => { j with id := 5, members := [{ inst := 8, first := 0 }, { inst := 9, first := 0 }] })) with clk := { beatLeft := 7 } }),
      by decide⟩,
    ⟨(W [(CL_JOB, CL_JOB.STATE, 2)]), by decide⟩,
    ⟨(onJob (W [(CL_JOB, CL_JOB.STATE, 2), (CL_JOB, CL_JOB.LEADER, 9)]) (fun j => { j with id := 5 })), by decide⟩,
    ⟨1, (fr 0x23 0 9 1 [0, 0x5800000000000000]),
      ({ upOn 1 (onJob (W [(CL_JOB, CL_JOB.STATE, 3)]) (fun j => { j with id := 5, members := [{ inst := 8, first := 0 }, { inst := 9, first := 0 }] })) with clk := { beatLeft := 7 } }),
      by decide⟩,
    ⟨(onJob (W [(CL_JOB, CL_JOB.STATE, 3)]) (fun j =>
      { j with id := 5, posted := some (0, 7), members := [{ inst := 8, first := 0, need := some (0, 9) }, { inst := 9, first := 0 }] })),
      by decide⟩,
    ⟨1, (fr 0x24 0 9 1 [0, 0x7000000000000000, 64]), (upOn 1 (onJob (W [(CL_JOB, CL_JOB.STATE, 2), (CL_JOB, CL_JOB.LEADER, 9)])
      (fun j => { j with id := 5 }))), by decide⟩,
    ⟨1, (fr 0x24 0 9 1 [0, 0x7000000000000000, 63]), (upOn 1 (onJob (W [(CL_JOB, CL_JOB.STATE, 2), (CL_JOB, CL_JOB.LEADER, 9)])
      (fun j => { j with id := 5 }))), by decide⟩,
    ⟨1, (fr 0x25 0 9 1 [0x0700000000000004, 63]),
      ({ upOn 1 (onJob (W [(CL_JOB, CL_JOB.STATE, 3)]) (fun j => { j with id := 5, members := [{ inst := 8, first := 0 }, { inst := 9, first := 0 }] })) with clk := { beatLeft := 7 } }),
      by decide⟩,
    ⟨1, (fr 0x26 0 9 1 [0x0780000000000000, 63]), (upOn 1 (onJob (W [(CL_JOB, CL_JOB.STATE, 2), (CL_JOB, CL_JOB.LEADER, 9)])
      (fun j => { j with id := 5, mine := [⟨7, 1, 0, 3, 4⟩, ⟨8, 1, 0, 3, 4⟩] }))), by decide⟩,
    ⟨1, (fr 0x26 0 9 1 [0x0780000000000000, 0]), (upOn 1 (onJob (W [(CL_JOB, CL_JOB.STATE, 2), (CL_JOB, CL_JOB.LEADER, 9)]) (fun
      j => { j with id := 5, mine := [⟨7, 1, 0, 3, 4⟩, ⟨8, 1, 0, 3, 4⟩] }))), by decide⟩,
    ⟨1, (fr 0x27 0 9 1 [0, 0x0000100000000200]), ({ upOn 1 (W [(CL_TIME, CL_TIME.STATE, 1)]) with clk := { beatLeft := 7 } }),
      by decide⟩,
    ⟨100, 200,
      ({ W [(CL_TIME, CL_TIME.STATE, 1), (CL_SYSCAP, CL_SYSCAP.SYSCAP, 150)] with link := { reqs := [⟨0, 0, 100, 200⟩] } }), by
      decide⟩,
    ⟨100, 200, ({ W [(CL_TIME, CL_TIME.STATE, 1)] with link := { reqs := [⟨0, 0, 100, 200⟩] } }), by decide⟩,
    ⟨100, 200,
      ({ W [(CL_TIME, CL_TIME.STATE, 1), (CL_SYSCAP, CL_SYSCAP.SYSCAP, 70)] with link := { reqs := [⟨0, 0, 100, 200⟩] } }), by
      decide⟩,
    ⟨1, (fr 0x28 0 9 1 [0, 0x0000640000000000]), (upOn 1 (W [(CL_STAT, CL_STAT.ROOT, 9)])), by decide⟩,
    ⟨1, (fr 0x28 0 9 1 [0, 0x0000648000000000]), (upOn 1 (W [(CL_STAT, CL_STAT.ROOT, 9), (CG_SHARE, CG_SHARE.VALID, 1)])), by
      decide⟩⟩

theorem met_PullsMove :
    (∃ (d : Word) (s : State), s.quiet ∧ s.alone ∧ s.takes CL_PULL d ∧ CL_PULL.GO.get d = 1 ∧ CL_PULL.ABORT.get d = 0 ∧
      CL_PULL.OBJ.get d = 0 ∧ s.pulling = false) ∧
    (∃ (d : Word) (s : State), s.takes CL_PULL d ∧ CL_PULL.GO.get d = 1 ∧ CL_PULL.ABORT.get d = 0 ∧ CL_PULL.OBJ.get d = 1 ∧
      CL_PULL.TILE.get d = 0xFF ∧ s.pulling = false ∧ (∀ u, u < s.tileCount → s.sliceOpen u = false)) ∧
    (∃ (n : Nat) (f : LinkFrame) (s : State), s.quiet ∧ s.hears n 0x30 f ∧ payBits f 1 63 60 = 0 ∧ s.link.serves = []) ∧
    (∃ (n : Nat) (f : LinkFrame) (s : State), s.quiet ∧ s.hears n 0x30 f ∧ payBits f 1 63 60 = 0 ∧ s.link.serves = []) ∧
    (∃ (n : Nat) (f : LinkFrame) (s : State), s.quiet ∧ s.hears n 0x30 f ∧ payBits f 1 63 60 = 0 ∧ (4 ≤ (s.link.serves.map (fun
      v => (v.puller, v.obj))).eraseDups.length) ∧ (∀ v ∈ s.link.serves, ¬(v.puller = frd f FR.SRC ∧ v.obj = 0)) ∧ (∀ v ∈
      s.link.serves, s.stableObj v.obj v.tile = true ∧ s.servedOut v = false)) ∧
    (∃ (v : Serve) (s : State), v ∈ s.link.serves ∧ s.stableObj v.obj v.tile = false) ∧
    (∃ (n : Nat) (u : Nat) (f : LinkFrame) (s : State), s.hears n 0x31 f ∧ s.pullState = 1 ∧ frd f FR.SRC = s.link.pull.src ∧
      s.link.pull.opens = [u] ∧ s.link.pull.offers = [] ∧ s.quiet ∧ payBits f 1 63 60 = 1 ∧ s.link.pull.obj = 0 ∧ s.imgState ≠ 1
      ∧ s.rd CL_PULL_STAT CL_PULL_STAT.LENGTH = 0) ∧
    (∃ (n : Nat) (u : Nat) (f : LinkFrame) (s : State), s.hears n 0x31 f ∧ s.pullState = 1 ∧ frd f FR.SRC = s.link.pull.src ∧
      s.link.pull.opens = [u] ∧ s.link.pull.offers = [] ∧ payBits f 1 63 60 ≠ 1) ∧
    (∃ (n : Nat) (m : Nat) (f : LinkFrame) (v : Serve) (s : State), s.quiet ∧ s.hears n 0x33 f ∧ s.active = true ∧ s.link.serves
      = [v] ∧ v.puller = frd f FR.SRC ∧ v.tile = payBits f 1 63 56 ∧ v.obj = 0 ∧ v.sent = 0 ∧ s.load.slot ≠ [] ∧
      s.load.slot.length ≤ 127 ∧ s.load.slot.length ≤ payBits f 2 31 0 ∧ s.wayTo v.puller m) ∧
    (∃ (n : Nat) (u : Nat) (len : Nat) (d : Word) (f : LinkFrame) (l : List (Nat × Nat)) (s : State), s.hears n 0x32 f ∧
      s.pullState = 3 ∧ frd f FR.SRC = s.link.pull.src ∧ s.link.pull.offers = (u, len) :: l ∧ payBits f 1 63 56 = u ∧
      s.link.pull.obj = 0 ∧ s.link.pull.early = [] ∧ s.imgState ≠ 1) ∧
    (∃ (n : Nat) (u : Nat) (len : Nat) (d : Word) (f : LinkFrame) (l : List (Nat × Nat)) (s : State), s.hears n 0x32 f ∧
      s.pullState = 3 ∧ frd f FR.SRC = s.link.pull.src ∧ s.link.pull.offers = (u, len) :: l ∧ payBits f 1 63 56 = u ∧
      s.link.pull.obj = 0 ∧ s.link.pull.early = [] ∧ s.quiet ∧ s.imgState = 1 ∧ s.load.link = true ∧ payBits f 1 31 0 =
      s.link.pull.held ∧ f.payload.drop 1 = [d] ∧ s.link.pull.held + 1 < len ∧ len = s.load.len ∧ s.rd HD_IMG_STAT
      HD_IMG_STAT.WORDS = s.link.pull.held ∧ s.load.slot.length < 524288 ∧ s.rd CL_PULL_STAT CL_PULL_STAT.DONE_W + 1 < 2 ^ 24 ∧
      s.link.pull.held + 1 < 2 ^ 20) ∧
    (∃ (n : Nat) (u : Nat) (len : Nat) (d : Word) (f : LinkFrame) (l : List (Nat × Nat)) (s : State), s.hears n 0x32 f ∧
      s.pullState = 3 ∧ frd f FR.SRC = s.link.pull.src ∧ s.link.pull.offers = (u, len) :: l ∧ payBits f 1 63 56 = u ∧
      s.link.pull.obj = 0 ∧ s.link.pull.early = [] ∧ s.quiet ∧ s.imgState = 1 ∧ s.load.link = true ∧ payBits f 1 31 0 <
      s.link.pull.held ∧ s.rd (CL_PORT n) CL_PORT.ERRORS + 1 < 0xFFFFFFFF) ∧
    (∃ (s : State), s.pullState = 2) ∧
    (∃ (s : State), (s.pullState = 1 ∨ s.pullState = 2) ∧ s.reaches s.link.pull.src = false) ∧
    (∃ (d : Word) (same : Bool) (s : State), s.quiet ∧ s.alone ∧ s.takes CL_PULL d ∧ CL_PULL.GO.get d = 0 ∧ CL_PULL.ABORT.get d
      = 1) ∧
    (∃ (d : Word) (same : Bool) (s : State), s.quiet ∧ s.alone ∧ s.takes CL_PULL d ∧ CL_PULL.GO.get d = 0 ∧ CL_PULL.ABORT.get d
      = 1) :=
  ⟨⟨0x0090003000000001, (asked (upOn 1 State.reset)), by decide⟩,
    ⟨0x00901FF000000001, (asked (upOn 1 State.reset)), by decide⟩,
    ⟨1, (fr 0x30 0 9 1 [0x0FF0000000000000]),
      ({ upOn 1 (W [(HD_IMG_STAT, HD_IMG_STAT.STATE, 4)]) with load := { slot := [1, 2, 3] } }), by decide⟩,
    ⟨1, (fr 0x30 0 9 1 [0x0FF0000000000000]), (upOn 1 State.reset), by decide⟩,
    ⟨1, (fr 0x30 0 9 1 [0x0FF0000000000000]),
      ({ upOn 1 (W [(HD_IMG_STAT, HD_IMG_STAT.STATE, 4)]) with load := { slot := [1, 2, 3] }, link := { serves := [⟨2, 0, 255, 0⟩, ⟨3, 0, 255, 0⟩, ⟨4, 0, 255, 0⟩, ⟨5, 0, 255, 0⟩] } }),
      by decide⟩,
    ⟨(⟨2, 0, 255, 0⟩), ({ W [(HD_IMG_STAT, HD_IMG_STAT.STATE, 1)] with link := { serves := [⟨2, 0, 255, 0⟩] } }), by decide⟩,
    ⟨1, 3, (fr 0x31 0 9 1 [0x1030000002000000, 77]),
      ({ upOn 1 (W [(CL_PULL_STAT, CL_PULL_STAT.STATE, 1)]) with link := { pull := { src := 9, opens := [3] } } }), by decide⟩,
    ⟨1, 3, (fr 0x31 0 9 1 [0x3030000002000000, 77]),
      ({ upOn 1 (W [(CL_PULL_STAT, CL_PULL_STAT.STATE, 1)]) with link := { pull := { src := 9, opens := [3] } } }), by decide⟩,
    ⟨1, 1, (fr 0x33 0 9 1 [0xFF00000000000000, 3]), (⟨9, 0, 255, 0⟩),
      ({ upOn 1 (W [(HD_IMG_STAT, HD_IMG_STAT.STATE, 4)]) with load := { slot := [1, 2, 3] }, link := { serves := [⟨9, 0, 255, 0⟩] } }),
      by decide⟩,
    ⟨1, 3, 32, 7, (fr 0x32 0 9 1 [0x0300000000000000, 77]), ([]),
      ({ upOn 1 (W [(CL_PULL_STAT, CL_PULL_STAT.STATE, 3)]) with link := { pull := { src := 9, offers := [(3, 32)] } } }), by
      decide⟩,
    ⟨1, 3, 32, 77, (fr 0x32 0 9 1 [0x0300000000000000, 77]), ([]),
      ({ upOn 1 (W [(CL_PULL_STAT, CL_PULL_STAT.STATE, 3), (HD_IMG_STAT, HD_IMG_STAT.STATE, 1)]) with link := { pull := { src := 9, offers := [(3, 32)] } }, load := { link := true, len := 32 } }),
      by decide⟩,
    ⟨1, 3, 32, 77, (fr 0x32 0 9 1 [0x0300000000000000, 77]), ([]),
      ({ upOn 1 (W [(CL_PULL_STAT, CL_PULL_STAT.STATE, 3), (HD_IMG_STAT, HD_IMG_STAT.STATE, 1)]) with link := { pull := { src := 9, offers := [(3, 32)], held := 2 } }, load := { link := true, len := 32, slot := [1, 2] } }),
      by decide⟩,
    ⟨(W [(CL_PULL_STAT, CL_PULL_STAT.STATE, 2)]), by decide⟩,
    ⟨({ W [(CL_PULL_STAT, CL_PULL_STAT.STATE, 2)] with link := { pull := { src := 9 } } }), by decide⟩,
    ⟨2, false, (asked { W [(CL_PULL_STAT, CL_PULL_STAT.STATE, 2)] with link := { pull := { src := 9 } } }), by decide⟩,
    ⟨2, true, (asked (W [(CL_PULL_STAT, CL_PULL_STAT.STATE, 4)])), by decide⟩⟩
theorem met_ResetValues : ∃ n, n < 4 := ⟨3, by decide⟩

/-- A command at the front of the queue, and the state in which it stands. -/
theorem met_StepRunsFront : ∃ (c : Instr) (s : State), ({ s with pending := c :: s.pending } : State).pending = [.nap] :=
  ⟨.nap, State.reset, rfl⟩

theorem met_StepKeepsQuiet : (∃ (s t : State), s.quiet ∧ step s = .next t) ∧ (∃ (s t : State), s.canonical ∧ step s = .next t) :=
  ⟨⟨State.reset, _, by decide, rfl⟩, ⟨State.reset, _, by decide, rfl⟩⟩

/-- No word spells a command. -/
theorem test_no_words : decodeTableWord 64 5 = none := rfl

end Sys2Proof.Tests
end

/-! PROOFS. STATUS_CLEAR at a gate view of a Pumphouse past tile 95, in a Wellhead that sleeps (R8). -/

namespace Sys2Proof.Machine

open Sys2Proof

/-! ### A command that collects a raise does not end asleep -/

/-- IRQ is armed whatever HD_WAKE_EN holds (R318). -/
theorem irq_armed (s : State) : 0x10 &&& s.armed ≠ 0 := by
  intro h
  have hbit : (0x10 &&& s.armed).testBit 4 = true := by
    simp only [State.armed, Nat.testBit_and, Nat.testBit_or, show Nat.testBit 0x10 4 = true from rfl,
      show Nat.testBit 0x11 4 = true from rfl, Bool.or_true, Bool.and_true]
  simp only [h, Nat.zero_testBit, Bool.false_eq_true] at hbit

/-- The wake source IRQ ends sleep (R315, R318). -/
theorem wake_irq_not_asleep (s : State) : (s.wake 0x10).clk.fast ≠ .sleep := by
  simp only [State.wake, irq_armed, if_false]
  split
  case isTrue hnap =>
    simp only [Bool.and_eq_true, decide_eq_true_eq] at hnap
    simp [State.restart, hnap.1]
  case isFalse =>
    split
    · simp
    case isFalse hsleep =>
      split <;> exact hsleep

/-- A raise that the collector takes wakes the Wellhead. -/
theorem collect_not_asleep (s : State) (r : Raise) : (s.collect r).clk.fast ≠ .sleep := by
  simp only [State.collect]
  split
  · exact wake_irq_not_asleep _
  · exact wake_irq_not_asleep _

/-- One turn of the collector: nothing is left to take, or a raise is taken and the rest follows. -/
theorem settleN_succ (n : Nat) (s : State) :
    settleN (n + 1) s = s ∨ ∃ (u : State) (r : Raise), settleN (n + 1) s = settleN n (u.collect r) := by
  simp only [settleN]
  split
  · split
    · exact .inl rfl
    · exact .inr ⟨_, _, rfl⟩
  · split
    · exact .inl rfl
    · exact .inr ⟨_, _, rfl⟩

/-- The collector puts no Wellhead to sleep. -/
theorem settleN_not_asleep (n : Nat) (s : State) (h : s.clk.fast ≠ .sleep) : (settleN n s).clk.fast ≠ .sleep := by
  induction n generalizing s with
  | zero => exact h
  | succ n ih =>
    rcases settleN_succ n s with e | ⟨u, r, e⟩
    · rw [e]; exact h
    · rw [e]; exact ih _ (collect_not_asleep u r)

/-- A command after which the Wellhead sleeps has collected nothing: its next state is its effect. -/
theorem settle_asleep (s : State) (h : s.settle.clk.fast = .sleep) : s.settle = s := by
  by_cases hq : s.fault.now = []
  · exact settle_quiet s hq
  · have he : s.settle = settleN (s.fault.now.length + 16) s := by rw [State.settle, if_neg hq]
    rcases settleN_succ (s.fault.now.length + 15) s with e | ⟨u, r, e⟩
    · exact he.trans e
    · rw [he, e] at h
      exact absurd h (settleN_not_asleep _ _ (collect_not_asleep u r))

/-! ### The counterexample -/

/-- HD_TOPO reads 97 tiles, and the Wellhead sleeps: all else is as at reset. -/
def tiles97Asleep : State := { State.reset.wr HD_TOPO HD_TOPO.TILES 97 with clk := { fast := .sleep } }

/-- DS_GATE_VIEW of tile 96 is a register that takes a write there. -/
theorem tiles97Asleep_takes : tiles97Asleep.takes (DS_GATE_VIEW 96) 0 := by decide

/-- Hardware sets TMO in the cycle of the clear, and that bit of the register's own word stays 0; the Wellhead sleeps on. -/
theorem tiles97Asleep_statusClear :
    ∃ t, exec (.statusClear (DS_GATE_VIEW 96) 0 0x10000) tiles97Asleep = .next t ∧
      (t.reg (DS_GATE_VIEW 96)).getLsbD 16 = false ∧ t.clk.fast = .sleep :=
  ⟨_, rfl, by decide, by decide⟩

/-- Refutes O11: its second clause sets DS_GATE_VIEW apart for tiles 0 to 95 only, and bounds HD_TOPO.TILES by nothing. Where TILES reads 97
(R14 gives 16 to 96) the register of tile 96 exists too; what hardware sets there is a flag of the gate SEL names, no bit of the register's own
word. The Wellhead sleeps in this state, so that no collected raise can stand between the effect and the next state. -/
theorem not_clearsClear : ¬ Obligations.ClearsClear := by
  unfold Obligations.ClearsClear
  rintro ⟨-, h, -⟩
  have hne : ∀ u, u < 96 → DS_GATE_VIEW 96 ≠ DS_GATE_VIEW u := by
    intro u hu
    simp only [DS_GATE_VIEW, phBase]
    omega
  obtain ⟨u, hu, hbits⟩ := h (DS_GATE_VIEW 96) 0 0x10000 tiles97Asleep (by decide) (by decide) tiles97Asleep_takes hne
  obtain ⟨t, ht, hclear, hsleep⟩ := tiles97Asleep_statusClear
  have hut : u.settle = t := Host.Outcome.next.inj (hu.symm.trans ht)
  have hs : u = t := (settle_asleep u (hut ▸ hsleep)).symm.trans hut
  have hset := hbits 16 (by decide) (by decide) (by decide)
  rw [hs, hclear] at hset
  cases hset

end Sys2Proof.Machine

/-! PROOFS. What the interrupt controller claims, completes and pends, and where its request lines stand (R338-R343). -/

namespace Sys2Proof.Machine

open Sys2Proof

/-! ### Registers behind an answer and behind a change of the active list -/

/-- The list of active sources is replaced; nothing else changes. -/
def State.setActive (s : State) (l : List (Nat × Nat)) : State := { s with intc := { s.intc with active := l } }

section
variable (s : State)

@[simp] theorem setActive_reg (l : List (Nat × Nat)) (b : Nat) : (s.setActive l).reg b = s.reg b := rfl
@[simp] theorem setActive_rd (l : List (Nat × Nat)) (b : Nat) (f : Fld) : (s.setActive l).rd b f = s.rd b f := rfl
@[simp] theorem setActive_flag (l : List (Nat × Nat)) (b : Nat) (f : Fld) : (s.setActive l).flag b f = s.flag b f := rfl
@[simp] theorem setActive_active (l : List (Nat × Nat)) : (s.setActive l).intc.active = l := rfl

@[simp] theorem answered_reg (c : Nat) (d : Word) (b : Nat) : (s.answered c d).reg b = s.reg b := rfl
@[simp] theorem answered_rd (c : Nat) (d : Word) (b : Nat) (f : Fld) : (s.answered c d).rd b f = s.rd b f := rfl
@[simp] theorem answered_flag (c : Nat) (d : Word) (b : Nat) (f : Fld) : (s.answered c d).flag b f = s.flag b f := rfl
@[simp] theorem answered_intc (c : Nat) (d : Word) : (s.answered c d).intc = s.intc := rfl

end

theorem icSrc_ne_icTgt {n : Nat} (g : Nat) (h : n < 512) : IC_SRC n ≠ IC_TGT g := by
  simp only [IC_SRC, IC_TGT]; omega

theorem icSrc_ne_pwrStat (n : Nat) : IC_SRC n ≠ HD_PWR_STAT := by
  simp only [IC_SRC, HD_PWR_STAT]; omega

theorem icSrc_ne_erStat {n : Nat} (h : n < 512) : IC_SRC n ≠ ER_STAT := by
  simp only [IC_SRC, ER_STAT]; omega

theorem icSrc_ne_satAddr {n : Nat} (h : n < 512) : IC_SRC n ≠ IC_SAT_ADDR := by
  simp only [IC_SRC, IC_SAT_ADDR]; omega

theorem icClaim_source_lt (d : Word) : IC_CLAIM.SOURCE.get d < 512 := BitVec.isLt _

/-! ### Which source a claim takes (R341) -/

/-- `r` goes before `m`: of higher priority `f`, or of the same and not the higher number. -/
def Leads (f : Nat → Nat) (r m : Nat) : Prop := f m < f r ∨ (f m = f r ∧ r ≤ m)

theorem Leads.trans {f : Nat → Nat} {a b c : Nat} (h1 : Leads f a b) (h2 : Leads f b c) : Leads f a c := by
  unfold Leads at *; omega

/-- One step of the claim's search: `n` replaces the source found so far only by a higher priority. -/
def firstBest (f : Nat → Nat) (b n : Nat) : Nat := if b = 0 ∨ f b < f n then n else b

theorem firstBest_mem (f : Nat → Nat) (b n : Nat) : firstBest f b n = b ∨ firstBest f b n = n := by
  unfold firstBest
  split
  · exact .inr rfl
  · exact .inl rfl

/-- The source kept goes before both, where numbers rise; 0 is no source. -/
theorem firstBest_leads (f : Nat → Nat) {b n : Nat} (h : b ≤ n) {m : Nat} (hm : m = b ∨ m = n) (h0 : m ≠ 0) :
    firstBest f b n ≠ 0 ∧ Leads f (firstBest f b n) m := by
  unfold firstBest Leads
  split
  · rcases hm with rfl | rfl <;> omega
  · rcases hm with rfl | rfl <;> omega

theorem foldl_firstBest_mem (f : Nat → Nat) (l : List Nat) (b : Nat) : l.foldl (firstBest f) b ∈ b :: l := by
  induction l generalizing b with
  | nil => exact List.mem_singleton_self b
  | cons a l ih =>
    rcases List.mem_cons.mp (ih (firstBest f b a)) with e | h
    · rw [List.foldl_cons, e]
      rcases firstBest_mem f b a with e' | e' <;> simp [e']
    · exact List.mem_cons_of_mem _ (List.mem_cons_of_mem _ h)

/-- Over a rising list the search ends at the source that goes before every other. -/
theorem foldl_firstBest_leads (f : Nat → Nat) (l : List Nat) (b : Nat) (hl : (b :: l).Pairwise (· ≤ ·)) :
    ∀ m ∈ b :: l, m ≠ 0 → Leads f (l.foldl (firstBest f) b) m := by
  induction l generalizing b with
  | nil =>
    intro m hm _
    rw [List.mem_singleton.mp hm]
    exact .inr ⟨rfl, le_rfl⟩
  | cons a l ih =>
    intro m hm h0
    obtain ⟨hb, hal⟩ := List.pairwise_cons.mp hl
    have hbl : (b :: l).Pairwise (· ≤ ·) := hl.sublist (by simp)
    have hc : (firstBest f b a :: l).Pairwise (· ≤ ·) := by
      rcases firstBest_mem f b a with e | e <;> rw [e] <;> assumption
    have hrest := ih (firstBest f b a) hc
    have hfront : m = b ∨ m = a → Leads f (l.foldl (firstBest f) (firstBest f b a)) m := fun e =>
      have hkept := firstBest_leads f (hb a List.mem_cons_self) e h0
      (hrest _ List.mem_cons_self hkept.1).trans hkept.2
    rcases List.mem_cons.mp hm with e | hm
    · exact hfront (.inl e)
    rcases List.mem_cons.mp hm with e | hm
    · exact hfront (.inr e)
    · exact hrest m (List.mem_cons_of_mem _ hm) h0

/-- The sources a target may claim, lowest first. -/
def State.claimList (s : State) (g : Nat) : List Nat :=
  (List.range 512).filter (fun n => s.eligible n && (s.rd (IC_SRC n) IC_SRC.STEER == g))

theorem mem_claimList (s : State) (g n : Nat) :
    n ∈ s.claimList g ↔ n < 512 ∧ s.eligible n = true ∧ s.rd (IC_SRC n) IC_SRC.STEER = g := by
  simp only [State.claimList, List.mem_filter, List.mem_range, Bool.and_eq_true, beq_iff_eq]

theorem claimable_eq (s : State) (g : Nat) : s.claimable g = (s.claimList g).foldl (firstBest s.prio) 0 := rfl

/-- A claimed source is eligible and steered to the target. -/
theorem claimable_mem (s : State) (g : Nat) (h : s.claimable g ≠ 0) : s.claimable g ∈ s.claimList g :=
  (List.mem_cons.mp (foldl_firstBest_mem s.prio (s.claimList g) 0)).resolve_left h

/-- It goes before every other one that is. -/
theorem claimable_leads (s : State) (g m : Nat) (hm : m ∈ s.claimList g) (h0 : m ≠ 0) :
    Leads s.prio (s.claimable g) m := by
  have hrise : (0 :: s.claimList g).Pairwise (· ≤ ·) :=
    List.pairwise_cons.mpr ⟨fun _ _ => Nat.zero_le _, List.pairwise_le_range.filter _⟩
  rw [claimable_eq]
  exact foldl_firstBest_leads s.prio _ 0 hrise m (List.mem_cons_of_mem _ hm) h0

/-! ### What a claim does (R341) -/

/-- Source `n` becomes active on target `g`, whose CLAIMS counts. -/
def State.claimed (s : State) (g n : Nat) : State :=
  (((s.wr (IC_SRC n) IC_SRC.PEND 0).wr (IC_SRC n) IC_SRC.ACTIVE 1).wr (IC_TGT g) IC_TGT.CLAIMS (s.rd (IC_TGT g) IC_TGT.CLAIMS + 1)).setActive
    (s.intc.active.filter (fun e => e.1 ≠ n) ++ [(n, g)])

theorem claim_none (s : State) (g : Nat) (h : s.claimable g = 0) : s.claim g = s := by
  simp only [State.claim, h, if_true]

/-- Below the last value of CLAIMS a claim only counts. -/
theorem claim_some (s : State) (g : Nat) (h : s.claimable g ≠ 0) (hc : s.rd (IC_TGT g) IC_TGT.CLAIMS + 1 < 0xFFFFFFFF) :
    s.claim g = s.claimed g (s.claimable g) := by
  have hlt := ((mem_claimList s g _).mp (claimable_mem s g h)).1
  have hne := (icSrc_ne_icTgt g hlt).symm
  have hrd : ((s.wr (IC_SRC (s.claimable g)) IC_SRC.PEND 0).wr (IC_SRC (s.claimable g)) IC_SRC.ACTIVE 1).rd (IC_TGT g) ctrCount =
      s.rd (IC_TGT g) IC_TGT.CLAIMS := by
    rw [rd_wr_ne _ _ _ _ _ _ hne, rd_wr_ne _ _ _ _ _ _ hne]; rfl
  simp only [State.claim, if_neg h]
  rw [bump_counts _ _ (by rw [hrd]; exact hc), hrd]
  rfl

section
variable (s : State) (g n : Nat)

theorem claimed_pend (h : n < 512) : (s.claimed g n).flag (IC_SRC n) IC_SRC.PEND = false := by
  rw [State.claimed, setActive_flag, flag_wr_ne _ _ _ _ _ _ (icSrc_ne_icTgt g h), flag_wr_fld _ _ _ _ _ _ (by decide) (by decide)]
  exact flag_wr_zero _ _ _ (by decide)

theorem claimed_active (h : n < 512) : (s.claimed g n).flag (IC_SRC n) IC_SRC.ACTIVE = true := by
  rw [State.claimed, setActive_flag, flag_wr_ne _ _ _ _ _ _ (icSrc_ne_icTgt g h)]
  exact flag_wr_one _ _ _ (by decide)

theorem claimed_mem_active : (n, g) ∈ (s.claimed g n).intc.active := by
  simp only [State.claimed, setActive_active, List.mem_append, List.mem_singleton, or_true]

theorem claimed_claims (hc : s.rd (IC_TGT g) IC_TGT.CLAIMS + 1 < 0xFFFFFFFF) :
    (s.claimed g n).rd (IC_TGT g) IC_TGT.CLAIMS = s.rd (IC_TGT g) IC_TGT.CLAIMS + 1 := by
  have hw : IC_TGT.CLAIMS.width = 32 := rfl
  rw [State.claimed, setActive_rd, rd_wr_same _ _ _ _ (by decide), hw]
  exact Nat.mod_eq_of_lt (by omega)

theorem claimed_sameBut : State.sameBut [IC_SRC n, IC_TGT g] s (s.claimed g n) := by
  intro a ha
  simp only [List.mem_cons, List.not_mem_nil, or_false, not_or] at ha
  obtain ⟨hsrc, htgt⟩ := ha
  rw [State.claimed, setActive_reg, reg_wr_ne _ _ _ _ _ htgt, reg_wr_ne _ _ _ _ _ hsrc, reg_wr_ne _ _ _ _ _ hsrc]

end

/-- A read of IC_CLAIM of a target is answered with the source it claims. -/
theorem exec_interruptClaim (s : State) (g : Nat) (hg : g < 8) (ha : (s.claim g).alone) (hq : (s.claim g).quiet) :
    exec (.interruptClaim g) s = .next ((s.claim g).answered rOkay (BitVec.ofNat 64 (s.claimable g))) := by
  show execInterruptClaim g s = _
  rw [execInterruptClaim, if_pos hg, answer_alone _ _ _ ha]
  exact done_quiet _ ((answered_quiet _ _ _).mpr hq)

/-! ### Sources that become pending keep what was pending and active (R338) -/

/-- From `s` to `t` no source has lost its pending bit, and which sources are active is as it was. -/
def State.onlyPends (s t : State) : Prop :=
  t.intc.active = s.intc.active ∧ ∀ k, k < 512 → t.flag (IC_SRC k) IC_SRC.ACTIVE = s.flag (IC_SRC k) IC_SRC.ACTIVE ∧
    (s.flag (IC_SRC k) IC_SRC.PEND = true → t.flag (IC_SRC k) IC_SRC.PEND = true)

theorem State.onlyPends.refl (s : State) : s.onlyPends s := ⟨rfl, fun _ _ => ⟨rfl, id⟩⟩

theorem State.onlyPends.trans {s t u : State} (h1 : s.onlyPends t) (h2 : t.onlyPends u) : s.onlyPends u :=
  ⟨h2.1.trans h1.1, fun k hk => ⟨(h2.2 k hk).1.trans (h1.2 k hk).1, (h2.2 k hk).2 ∘ (h1.2 k hk).2⟩⟩

/-- So it is where the registers of the sources read as before. -/
theorem onlyPends_of_reg {s t : State} (ha : t.intc.active = s.intc.active) (hr : ∀ k, k < 512 → t.reg (IC_SRC k) = s.reg (IC_SRC k)) :
    s.onlyPends t := by
  refine ⟨ha, fun k hk => ?_⟩
  simp only [State.flag, State.rd, hr k hk]
  exact ⟨trivial, id⟩

section
variable (s : State)

theorem wr_other_onlyPends (a : Nat) (f : Fld) (v : Nat) (h : ∀ k, k < 512 → IC_SRC k ≠ a) : s.onlyPends (s.wr a f v) :=
  onlyPends_of_reg rfl fun k hk => reg_wr_ne _ _ _ _ _ (h k hk)

/-- A field of a source that is neither PEND nor ACTIVE. -/
theorem wr_field_onlyPends (a : Nat) (f : Fld) (v : Nat) (hp : f.apart IC_SRC.PEND = true) (ha : f.apart IC_SRC.ACTIVE = true) :
    s.onlyPends (s.wr a f v) :=
  ⟨rfl, fun k _ => ⟨flag_wr_fld _ _ _ _ _ _ (by decide) ha, by rw [flag_wr_fld _ _ _ _ _ _ (by decide) hp]; exact id⟩⟩

theorem wr_pend_onlyPends (n : Nat) : s.onlyPends (s.wr (IC_SRC n) IC_SRC.PEND 1) := by
  refine ⟨rfl, fun k _ => ⟨flag_wr_fld _ _ _ _ _ _ (by decide) (by decide), fun h => ?_⟩⟩
  by_cases e : IC_SRC k = IC_SRC n
  · rw [e]; exact flag_wr_one _ _ _ (by decide)
  · rw [flag_wr_ne _ _ _ _ _ _ e]; exact h

theorem wake_intc (m : Nat) : (s.wake m).intc = s.intc := (congrArg State.intc (wake_rest s m) :)

theorem wake_onlyPends (m : Nat) : s.onlyPends (s.wake m) :=
  onlyPends_of_reg (by rw [wake_intc]) fun k _ => wake_reg s m _ (icSrc_ne_pwrStat k)

theorem pendOnly_onlyPends (n : Nat) : s.onlyPends (s.pendOnly n) := by
  simp only [State.pendOnly]
  split
  · exact wr_field_onlyPends s _ _ _ (by decide) (by decide)
  · have hsteer := wr_field_onlyPends s (IC_SRC n) IC_SRC.STEER (s.steer n) (by decide) (by decide)
    exact (hsteer.trans (wr_pend_onlyPends _ n)).trans (wake_onlyPends _ _)

/-- The source itself is pending afterwards, whether or not it was. -/
theorem pendOnly_pend (n : Nat) : (s.pendOnly n).flag (IC_SRC n) IC_SRC.PEND = true := by
  simp only [State.pendOnly]
  split
  next h => rw [flag_wr_fld _ _ _ _ _ _ (by decide) (by decide)]; exact h
  next =>
    simp only [State.flag, State.rd, wake_reg _ _ _ (icSrc_ne_pwrStat n)]
    exact flag_wr_one (s.wr (IC_SRC n) IC_SRC.STEER (s.steer n)) (IC_SRC n) IC_SRC.PEND (by decide)

theorem fireSat_onlyPends : s.onlyPends s.fireSat :=
  onlyPends_of_reg (congrArg (·.intc.active) (fireSat_rest s)) fun _ _ => fireSat_reg s _

theorem heldOff_onlyPends : s.onlyPends s.heldOff := by
  have her (u : State) (f : Fld) (v : Nat) : u.onlyPends (u.wr ER_STAT f v) := wr_other_onlyPends u _ _ _ fun _ => icSrc_ne_erStat
  have hcount := her s ER_STAT.LOST (s.rd ER_STAT ER_STAT.LOST + 1)
  simp only [State.heldOff]
  split
  · exact .refl s
  split
  · have hsat := hcount.trans (her _ ER_STAT.SAT 1)
    split
    · exact hsat
    · have haddr := hsat.trans (wr_other_onlyPends _ IC_SAT_ADDR IC_SAT_ADDR.ADDR ER_STAT fun _ => icSrc_ne_satAddr)
      have hpend := haddr.trans (pendOnly_onlyPends _ 148)
      simp only [State.on]
      split
      · exact hpend.trans (fireSat_onlyPends _)
      · exact hpend
  · exact hcount

theorem fireTrigger_onlyPends (n : Nat) (o : Bool) (r : Word) : s.onlyPends (s.fireTrigger n o r) := by
  simp only [State.fireTrigger]
  split
  · exact .refl s
  split
  · exact .refl s
  split
  · exact heldOff_onlyPends s
  · exact .refl s

/-- A listed source that is to pend: its pending bit, and then its trigger. -/
theorem pend_listed (n : Nat) (h : listedSource n = true) :
    s.pend n = (s.pendOnly n).on (!s.flag (IC_SRC n) IC_SRC.PEND && decide (128 ≤ n)) (·.fireTrigger n true 0) := by
  have hn : ¬(n = 0 ∨ 511 < n ∨ listedSource n = false) := by
    have hrange := h
    simp only [listedSource, Bool.or_eq_true, Bool.and_eq_true, decide_eq_true_eq] at hrange
    rw [h]
    simp only [Bool.true_eq_false, or_false]
    omega
  rw [State.pend, if_neg hn]

theorem pendOnly_onlyPends_pend (n : Nat) (h : listedSource n = true) : (s.pendOnly n).onlyPends (s.pend n) := by
  rw [pend_listed s n h, State.on]
  split
  · exact fireTrigger_onlyPends _ _ _ _
  · exact .refl _

theorem pend_pend (n : Nat) (hn : n < 512) (h : listedSource n = true) : (s.pend n).flag (IC_SRC n) IC_SRC.PEND = true :=
  ((pendOnly_onlyPends_pend s n h).2 n hn).2 (pendOnly_pend s n)

theorem pend_onlyPends (n : Nat) (h : listedSource n = true) : s.onlyPends (s.pend n) :=
  (pendOnly_onlyPends s n).trans (pendOnly_onlyPends_pend s n h)

/-- The level of a source that is not active pends it. -/
theorem pendLevel_of_idle (n : Nat) (hn : n < 512) (h : listedSource n = true) (ha : s.flag (IC_SRC n) IC_SRC.ACTIVE = false) :
    s.onlyPends (s.pendLevel n) ∧ (s.pendLevel n).flag (IC_SRC n) IC_SRC.PEND = true := by
  simp only [State.pendLevel, ha, Bool.false_or]
  split
  next hp => exact ⟨.refl s, hp⟩
  next => exact ⟨pend_onlyPends s n h, pend_pend s n hn h⟩

end

/-! ### What a completion does (R342) -/

/-- Source `n` is active no more. -/
def State.ended (s : State) (n : Nat) : State :=
  (s.wr (IC_SRC n) IC_SRC.ACTIVE 0).setActive (s.intc.active.filter (fun e => e.1 ≠ n))

section
variable (s : State) (g n : Nat)

theorem ended_active : (s.ended n).flag (IC_SRC n) IC_SRC.ACTIVE = false := by
  rw [State.ended, setActive_flag]
  exact flag_wr_zero _ _ _ (by decide)

theorem ended_pend : (s.ended n).flag (IC_SRC n) IC_SRC.PEND = s.flag (IC_SRC n) IC_SRC.PEND := by
  rw [State.ended, setActive_flag, flag_wr_fld _ _ _ _ _ _ (by decide) (by decide)]

theorem ended_activeList : ∀ e ∈ (s.ended n).intc.active, e.1 ≠ n := by
  intro e he
  rw [State.ended, setActive_active, List.mem_filter] at he
  exact of_decide_eq_true he.2

theorem ended_sameBut : State.sameBut [IC_SRC n] s (s.ended n) := by
  intro a ha
  rw [State.ended, setActive_reg, reg_wr_ne _ _ _ _ _ (by simpa using ha)]

/-- The levels of the event sources stand in registers of their own. -/
theorem ended_eventLevel (hn : n < 512) : (s.ended n).eventLevel n = s.eventLevel n := by
  have hsb : HD_SB_STAT ≠ IC_SRC n := by simp only [HD_SB_STAT, IC_SRC]; omega
  have hcg : CG_STAT ≠ IC_SRC n := by simp only [CG_STAT, IC_SRC]; omega
  simp only [State.eventLevel, State.ended, setActive_flag, flag_wr_ne _ _ _ _ _ _ hsb, flag_wr_ne _ _ _ _ _ _ hcg]

/-- A source with a level is one of the listed event sources. -/
theorem listed_of_eventLevel (h : s.eventLevel n = true) : listedSource n = true := by
  simp only [State.eventLevel] at h
  split at h
  next e => rw [e]; decide
  next =>
    split at h
    next e => rw [e]; decide
    next => cases h

theorem complete_active (hn : n < 512) (h : (n, g) ∈ s.intc.active) :
    s.complete g n = if s.eventLevel n then (s.ended n).pendLevel n else s.ended n := by
  rw [← ended_eventLevel s n hn, State.complete, if_pos (List.contains_iff_mem.mpr h)]
  rfl

theorem complete_inactive (h : (n, g) ∉ s.intc.active) : s.complete g n = s.wr (IC_TGT g) IC_TGT.BAD_COMPLETE 1 := by
  rw [State.complete, if_neg (by rwa [List.contains_iff_mem])]

end

/-- A write of IC_CLAIM of a target is the completion of the source it names. -/
theorem exec_interruptComplete (s : State) (g : Nat) (d : Word) (hg : g < 8) :
    exec (.interruptComplete g d) s = hostOp s (IC_CLAIM g) d (·.complete g (IC_CLAIM.SOURCE.get d)) := by
  show execInterruptComplete g d s = _
  simp only [execInterruptComplete, State.icClaimWrite, if_pos hg]

/-- A host write row whose register takes the word yields its effect. -/
theorem yieldsAnswered_of_takes {s : State} {c : Instr} {a : Nat} {d : Word} {f : State → State} {P : State → Prop}
    (hx : exec c s = hostOp s a d f) (h : s.takes a d) (hP : P (f s)) : s.yieldsAnswered c a P := by
  refine ⟨f s, ?_, hP⟩
  obtain ⟨hres, hrow, hempty, hreach, hheld⟩ := h
  have hmapped : (s.rowOf a).isNone = false := by rw [← Option.not_isSome, hrow]; rfl
  simp only [hx, hostOp, hres, hreach, hmapped, hempty, hheld, Bool.false_eq_true, if_false]
  rfl

/-! ### The clauses -/

theorem claim_answers (g : Nat) (s : State) (hq : s.quiet) (ha : s.alone) (hg : g < 8) (h0 : s.claimable g ≠ 0)
    (hc : s.rd (IC_TGT g) IC_TGT.CLAIMS + 1 < 0xFFFFFFFF) :
    exec (.interruptClaim g) s = .next ((s.claimed g (s.claimable g)).answered rOkay (BitVec.ofNat 64 (s.claimable g))) := by
  have he := claim_some s g h0 hc
  rw [exec_interruptClaim s g hg (by rw [he]; exact ha) (by rw [he]; exact hq), he]

theorem claim_answers_zero (g : Nat) (s : State) (hq : s.quiet) (ha : s.alone) (hg : g < 8) (h0 : s.claimable g = 0) :
    exec (.interruptClaim g) s = .next (s.answered rOkay 0) := by
  have he := claim_none s g h0
  rw [exec_interruptClaim s g hg (by rw [he]; exact ha) (by rw [he]; exact hq), he, h0]
  rfl

theorem complete_ends (g : Nat) (d : Word) (s : State) (hq : s.quiet) (ha : s.alone) (hg : g < 8) (ht : s.takes (IC_CLAIM g) d)
    (hact : (IC_CLAIM.SOURCE.get d, g) ∈ s.intc.active) (hlev : s.eventLevel (IC_CLAIM.SOURCE.get d) = false) :
    exec (.interruptComplete g d) s = .next ((s.ended (IC_CLAIM.SOURCE.get d)).answered rOkay 0) := by
  have he : s.complete g (IC_CLAIM.SOURCE.get d) = s.ended (IC_CLAIM.SOURCE.get d) := by
    rw [complete_active s g _ (icClaim_source_lt d) hact, hlev, if_neg Bool.false_ne_true]
  rw [exec_interruptComplete s g d hg, hostOp_next _ _ _ _ ht (by rw [he]; exact ha) (by rw [he]; exact hq), he]

theorem complete_pends_again (g : Nat) (d : Word) (s : State) (hg : g < 8) (ht : s.takes (IC_CLAIM g) d)
    (hact : (IC_CLAIM.SOURCE.get d, g) ∈ s.intc.active) (hlev : s.eventLevel (IC_CLAIM.SOURCE.get d) = true) :
    s.yieldsAnswered (.interruptComplete g d) (IC_CLAIM g) (fun t => t.flag (IC_SRC (IC_CLAIM.SOURCE.get d)) IC_SRC.ACTIVE = false ∧
      (∀ e ∈ t.intc.active, e.1 ≠ IC_CLAIM.SOURCE.get d) ∧ t.flag (IC_SRC (IC_CLAIM.SOURCE.get d)) IC_SRC.PEND = true) := by
  refine yieldsAnswered_of_takes (exec_interruptComplete s g d hg) ht ?_
  have hn := icClaim_source_lt d
  generalize IC_CLAIM.SOURCE.get d = n at hact hlev hn ⊢
  obtain ⟨⟨hlist, hsrc⟩, hpend⟩ := pendLevel_of_idle (s.ended n) n hn (listed_of_eventLevel s n hlev) (ended_active s n)
  rw [complete_active s g n hn hact, if_pos hlev, (hsrc n hn).1, hlist]
  exact ⟨ended_active s n, ended_activeList s n, hpend⟩

theorem complete_bad (g : Nat) (d : Word) (s : State) (hq : s.quiet) (ha : s.alone) (hg : g < 8) (ht : s.takes (IC_CLAIM g) d)
    (hact : (IC_CLAIM.SOURCE.get d, g) ∉ s.intc.active) :
    exec (.interruptComplete g d) s = .next ((s.wr (IC_TGT g) IC_TGT.BAD_COMPLETE 1).answered rOkay 0) := by
  have he := complete_inactive s g _ hact
  rw [exec_interruptComplete s g d hg, hostOp_next _ _ _ _ ht (by rw [he]; exact ha) (by rw [he]; exact hq), he]

theorem setpend_pends (d : Word) (s : State) (ht : s.takes IC_SETPEND d) (hl : listedSource (IC_SETPEND.SOURCE.get d) = true) :
    s.yieldsAnswered (.setpend d) IC_SETPEND (fun t => t.flag (IC_SRC (IC_SETPEND.SOURCE.get d)) IC_SRC.PEND = true) :=
  yieldsAnswered_of_takes (f := (·.icSetpend d)) rfl ht (pend_pend s _ (BitVec.isLt _) hl)

theorem irqLine_iff (s : State) (g : Nat) :
    s.irqLine g = true ↔ ∃ m, m < 512 ∧ s.eligible m = true ∧ s.rd (IC_SRC m) IC_SRC.STEER = g := by
  simp only [State.irqLine, List.any_eq_true, List.mem_range, Bool.and_eq_true, beq_iff_eq]

/-- Settles O54: a claim's search keeps the first source of highest PRIO, a completion ends the source before its level is looked at, and a
source that pends loses neither its pending bit nor another's active bit to its trigger. -/
theorem interruptsServe : Obligations.InterruptsServe := by
  unfold Obligations.InterruptsServe
  refine ⟨?claims, ?completes, ?setpend, ?line⟩
  case claims =>
    intro g n s hq ha hg hn
    rw [hn]
    refine ⟨fun h0 hc => ?_, fun h0 => ⟨_, claim_answers_zero g s hq ha hg h0, rfl⟩⟩
    obtain ⟨hlt, helig, hsteer⟩ := (mem_claimList s g _).mp (claimable_mem s g h0)
    refine ⟨_, claim_answers g s hq ha hg h0 hc, claimed_pend s g _ hlt, claimed_active s g _ hlt, claimed_mem_active s g _,
      claimed_claims s g _ hc, claimed_sameBut s g _, rfl, helig, hsteer, fun m h1 hm he hs => ?_⟩
    exact claimable_leads s g m ((mem_claimList s g m).mpr ⟨hm, he, hs⟩) (Nat.one_le_iff_ne_zero.mp h1)
  case completes =>
    intro g d s hq ha hg ht
    refine ⟨fun hact hlev => ?ends, complete_pends_again g d s hg ht, fun hact => ?bad⟩
    case ends =>
      exact ⟨_, complete_ends g d s hq ha hg ht hact hlev, ended_active s _, ended_activeList s _, ended_pend s _, ended_sameBut s _, rfl⟩
    case bad =>
      exact ⟨_, complete_bad g d s hq ha hg ht hact, flag_wr_one s _ _ (by decide),
        fun a h => reg_wr_ne s _ a _ _ (by simpa using h), rfl⟩
  case setpend => exact fun d s ht _ hl => setpend_pends d s ht hl
  case line => exact fun g s => irqLine_iff s g

end Sys2Proof.Machine

/-! PROOFS. How every command ends, and what a nanosecond of the clock keeps: the machine as a whole (R7, R314, R324). -/

namespace Sys2Proof.Machine

open Sys2Proof

/-! ### Every command ends with the collector, or stops at a reserved field -/

/-- A command's outcome: its effect with the Wellhead's raises collected, or the refusal of a write to a reserved field. -/
theorem exec_settles (c : Instr) (s : State) : Settles (exec c s) := by
  cases c with
  | powerOnReset => exact powerOnReset_settles _
  | chipReset => exact chipReset_settles _
  | lifeCycleRead => exact lifeCycleRead_settles _
  | registerWrite _ _ => exact registerWrite_settles _ _ _
  | statusClear _ _ _ => exact statusClear_settles _ _ _ _
  | counterClear _ _ _ => exact counterClear_settles _ _ _ _
  | hostRequest _ _ _ _ => exact hostRequest_settles _ _ _ _ _
  | portTimeout _ => exact portTimeout_settles _ _
  | broadcastWrite _ _ _ => exact broadcastWrite_settles _ _ _ _
  | wlLimitWrite _ _ _ => exact wlLimitWrite_settles _ _ _ _
  | sbRead _ => exact sbRead_settles _ _
  | mboxWrite _ => exact mboxWrite_settles _ _
  | freezeRecorder => exact freezeRecorder_settles _
  | stopRequest _ => exact stopRequest_settles _ _
  | ident => exact ident_settles _
  | privateRead => exact privateRead_settles _
  | addressMatchWake => exact addressMatchWake_settles _
  | enec _ => exact enec_settles _ _
  | disec _ => exact disec_settles _ _
  | rstdaa => exact rstdaa_settles _
  | entdaa _ => exact entdaa_settles _ _
  | setdasa _ => exact setdasa_settles _ _
  | setnewda _ => exact setnewda_settles _ _
  | getpid => exact getpid_settles _
  | getbcr => exact getbcr_settles _
  | getdcr => exact getdcr_settles _
  | getstatus => exact getstatus_settles _
  | setmwl _ => exact setmwl_settles _ _
  | getmwl => exact getmwl_settles _
  | setmrl _ => exact setmrl_settles _ _
  | getmrl => exact getmrl_settles _
  | rstact _ => exact rstact_settles _ _
  | targetResetPattern => exact targetResetPattern_settles _
  | unsupportedCcc c => exact unsupportedCcc_settles c _
  | ibiRequest _ => exact ibiRequest_settles _ _
  | idcode => exact idcode_settles _
  | dbgRegRead _ => exact dbgRegRead_settles _ _
  | dbgRegWrite _ _ => exact dbgRegWrite_settles _ _ _
  | dbgAuth => exact dbgAuth_settles _
  | dbgScan => exact done_settles _
  | bypass => exact bypass_settles _
  | tapReset => exact tapReset_settles _
  | dbgSessionExpiry => exact dbgSessionExpiry_settles _
  | challenge _ => exact challenge_settles _ _
  | submit => exact submit_settles _
  | submitVerified => exact submitVerified_settles _
  | cancel _ => exact cancel_settles _ _
  | nonceExpiry => exact nonceExpiry_settles _
  | provisionCommit => exact provisionCommit_settles _
  | enterField => exact enterField_settles _
  | fuseProgramDone => exact fuseProgramDone_settles _
  | lcStageWrite _ _ => exact lcStageWrite_settles _ _ _
  | imgStart _ => exact imgStart_settles _ _
  | imgAbort _ _ => exact imgAbort_settles _ _ _
  | safeNow _ => exact safeNow_settles _ _
  | safeStop _ => exact safeStop_settles _ _
  | hdImgDataWrite _ => exact hdImgDataWrite_settles _ _
  | imageStall => exact imageStall_settles _
  | imageChecksDone => exact imageChecksDone_settles _
  | applyStart => exact applyStart_settles _
  | applyFail _ => exact applyFail_settles _ _
  | imageAccept => exact imageAccept_settles _
  | safePrimingStart => exact safePrimingStart_settles _
  | safePrimeStep _ => exact safePrimeStep_settles _ _
  | safeParkTimeout _ => exact safeParkTimeout_settles _ _
  | keeperEnable _ => exact keeperEnable_settles _ _
  | keeperHandover _ => exact keeperHandover_settles _ _
  | cal _ _ _ _ => exact cal_settles _ _ _ _ _
  | offsetMeasureDone _ _ _ _ _ => exact offsetMeasureDone_settles _ _ _ _ _ _
  | tsnsPeriod _ _ _ _ _ => exact tsnsPeriod_settles _ _ _ _ _ _
  | tsnsTimeout _ _ _ => exact tsnsTimeout_settles _ _ _ _
  | pumpFaultWireFall _ _ _ _ => exact pumpFaultWireFall_settles _ _ _ _ _
  | faultClassify _ _ _ _ => exact faultClassify_settles _ _ _ _ _
  | pumpRearm _ _ _ => exact pumpRearm_settles _ _ _ _
  | rearmPenRelease _ _ _ => exact rearmPenRelease_settles _ _ _ _
  | rearmCheck _ _ _ => exact rearmCheck_settles _ _ _ _
  | pumpFaultWireRise _ _ _ => exact pumpFaultWireRise_settles _ _ _ _
  | softShortTrip _ _ _ => exact softShortTrip_settles _ _ _ _
  | busFault _ _ => exact busFault_settles _ _ _
  | refLost => exact refLost_settles _
  | refQualified => exact refQualified_settles _
  | dcoPullUpdate _ _ => exact dcoPullUpdate_settles _ _ _
  | periodOpening _ _ => exact periodOpening_settles _ _ _
  | innerSampleClose _ _ _ => exact innerSampleClose_settles _ _ _ _
  | innerEvaluation _ _ => exact innerEvaluation_settles _ _ _
  | residueVerdict _ _ _ _ _ => exact residueVerdict_settles _ _ _ _ _ _
  | evaluationRetry _ _ _ _ _ => exact evaluationRetry_settles _ _ _ _ _ _
  | outerEvaluation _ _ _ => exact outerEvaluation_settles _ _ _ _
  | selfTest _ _ _ => exact selfTest_settles _ _ _ _
  | stest _ _ => exact stest_settles _ _ _
  | modeReqWrite _ _ => exact modeReqWrite_settles _ _ _
  | modeChangeApply _ => exact modeChangeApply_settles _ _
  | holdAssert _ _ _ => exact holdAssert_settles _ _ _ _
  | holdRelease _ _ _ => exact holdRelease_settles _ _ _ _
  | holdTimeout _ _ => exact holdTimeout_settles _ _ _
  | ovSuppress _ _ _ => exact ovSuppress_settles _ _ _ _
  | ovSuppressEnd _ _ _ => exact ovSuppressEnd_settles _ _ _ _
  | profileTick _ _ => exact profileTick_settles _ _ _
  | vCmdWrite _ _ _ => exact vCmdWrite_settles _ _ _ _
  | hystTurnOn _ _ _ => exact hystTurnOn_settles _ _ _ _
  | hystPulseEnd _ _ _ _ => exact hystPulseEnd_settles _ _ _ _ _
  | hystPumpReady _ _ _ => exact hystPumpReady_settles _ _ _ _
  | handover _ _ => exact handover_settles _ _ _
  | sqStart _ _ => exact sqStart_settles _ _ _
  | sqAbort _ => exact sqAbort_settles _ _
  | sqEnd _ => exact sqEnd_settles _ _
  | sqSelt _ => exact sqSelt_settles _ _
  | sqSetv _ => exact sqSetv_settles _ _
  | sqProf _ => exact sqProf_settles _ _
  | sqPrime _ => exact sqPrime_settles _ _
  | sqHand _ => exact sqHand_settles _ _
  | sqHyst _ => exact sqHyst_settles _ _
  | sqPark _ => exact sqPark_settles _ _
  | sqWait _ => exact sqWait_settles _ _
  | sqJmp _ => exact sqJmp_settles _ _
  | sqClgt _ => exact sqClgt_settles _ _
  | sqTie _ => exact sqTie_settles _ _
  | sqPmode _ => exact sqPmode_settles _ _
  | sqTrk _ => exact sqTrk_settles _ _
  | sqTest _ => exact sqTest_settles _ _
  | sqEvent _ => exact sqEvent_settles _ _
  | instructionComplete _ => exact instructionComplete_settles _ _
  | instructionTimeout _ => exact instructionTimeout_settles _ _
  | primeAdmit _ _ => exact primeAdmit_settles _ _ _
  | primeResume _ _ => exact primeResume_settles _ _ _
  | parkTimeout _ _ => exact parkTimeout_settles _ _ _
  | capabilityEvent _ => exact capabilityEvent_settles _ _
  | scheduleWindowWrite _ _ _ => exact scheduleWindowWrite_settles _ _ _ _
  | bind _ _ => exact bind_settles _ _ _
  | bindDone _ => exact bindDone_settles _ _
  | unbind _ _ _ => exact unbind_settles _ _ _ _
  | dsStart _ _ => exact dsStart_settles _ _ _
  | dsStop _ _ => exact dsStop_settles _ _ _
  | playStart _ => exact playStart_settles _ _
  | playStop _ => exact playStop_settles _ _
  | playerBeat _ => exact playerBeat_settles _ _
  | noticePost _ _ _ _ => exact noticePost_settles _ _ _ _ _
  | noticeCollect _ _ _ => exact noticeCollect_settles _ _ _ _
  | gateComplete _ _ => exact gateComplete_settles _ _ _
  | waferGateReport _ _ => exact waferGateReport_settles _ _ _
  | waferGateComplete _ => exact waferGateComplete_settles _ _
  | gateRelease _ _ => exact gateRelease_settles _ _ _
  | gateTimeout _ _ => exact gateTimeout_settles _ _ _
  | force _ _ => exact force_settles _ _ _
  | wellOverload _ _ => exact wellOverload_settles _ _ _
  | tieAck _ _ => exact tieAck_settles _ _ _
  | tieAckTimeout _ _ => exact tieAckTimeout_settles _ _ _
  | tieOvercurrent _ _ => exact tieOvercurrent_settles _ _ _
  | tieOpen _ _ => exact tieOpen_settles _ _ _
  | tieForcedOpen _ _ => exact tieForcedOpen_settles _ _ _
  | pumpOpenRetire _ _ _ => exact pumpOpenRetire_settles _ _ _ _
  | senseFollow _ _ _ => exact senseFollow_settles _ _ _ _
  | crackSuspect _ _ => exact crackSuspect_settles _ _ _
  | senseOpen _ _ => exact senseOpen_settles _ _ _
  | testDue _ _ => exact testDue_settles _ _ _
  | testReq _ _ _ => exact testReq_settles _ _ _ _
  | testDeferExpiry _ _ => exact testDeferExpiry_settles _ _ _
  | quietTestStart _ _ => exact quietTestStart_settles _ _ _
  | shadowTestStart _ _ => exact shadowTestStart_settles _ _ _
  | testStepEnd _ _ => exact testStepEnd_settles _ _ _
  | testOverdue _ _ => exact testOverdue_settles _ _ _
  | retArm _ _ => exact retArm_settles _ _ _
  | returnPump _ _ _ _ => exact returnPump_settles _ _ _ _ _
  | adWinCal _ _ _ _ => exact adWinCal_settles _ _ _ _ _
  | calNow _ _ => exact calNow_settles _ _ _
  | sarConversion _ _ _ => exact sarConversion_settles _ _ _ _
  | injectTrigger _ _ _ _ => exact injectTrigger_settles _ _ _ _ _
  | adGo _ _ _ => exact adGo_settles _ _ _ _
  | burstStart _ => exact burstStart_settles _ _
  | burstDone _ _ => exact burstDone_settles _ _ _
  | adResConfigWrite _ _ _ => exact adResConfigWrite_settles _ _ _ _
  | lpInhibitWrite _ _ => exact lpInhibitWrite_settles _ _ _
  | telemetryWindowClose _ => exact telemetryWindowClose_settles _ _
  | tileTelemetryReport _ => exact tileTelemetryReport_settles _ _
  | telemetrySnapshot => exact telemetrySnapshot_settles _
  | thermalRound _ _ => exact thermalRound_settles _ _ _
  | hotListEval _ => exact hotListEval_settles _ _
  | throttleStep _ _ => exact throttleStep_settles _ _ _
  | orderlyStopEnd _ => exact orderlyStopEnd_settles _ _
  | orderlyTimeout _ => exact orderlyTimeout_settles _ _
  | hardStop _ => exact hardStop_settles _ _
  | stopRecordSent _ => exact stopRecordSent_settles _ _
  | resume _ _ => exact resume_settles _ _ _
  | clrPeak _ _ => exact clrPeak_settles _ _ _
  | restFrame _ => exact restFrame_settles _ _
  | jobRestCommit => exact jobRestCommit_settles _
  | capHostWrite _ => exact capHostWrite_settles _ _
  | jobStop _ => exact jobStop_settles _ _
  | plSet _ => exact plSet_settles _ _
  | accept _ => exact accept_settles _ _
  | refuse _ => exact refuse_settles _ _
  | acceptTimeout _ => exact acceptTimeout_settles _ _
  | relocDone _ => exact relocDone_settles _ _
  | relocTimeout _ => exact relocTimeout_settles _ _
  | plHold _ => exact plHold_settles _ _
  | resetMap _ => exact resetMap_settles _ _
  | hostClWrite _ _ _ => exact hostClWrite_settles _ _ _ _
  | hostHoldWrite _ _ => exact hostHoldWrite_settles _ _ _
  | voteGate _ _ => exact voteGate_settles _ _ _
  | wakeGraceExpiry _ _ => exact wakeGraceExpiry_settles _ _ _
  | gateControlRelease _ _ => exact gateControlRelease_settles _ _ _
  | greqRelease _ _ => exact greqRelease_settles _ _ _
  | votedPark _ _ => exact votedPark_settles _ _ _
  | primingOnWake _ _ => exact primingOnWake_settles _ _ _
  | pumphouseWakeDone _ => exact pumphouseWakeDone_settles _ _
  | nap => exact nap_settles _
  | sleep _ => exact sleep_settles _ _
  | sleepEnter => exact sleepEnter_settles _
  | sleepWake _ => exact sleepWake_settles _ _
  | faultRaise _ => exact faultRaise_settles _ _
  | blockResetDone _ => exact blockResetDone_settles _ _
  | chipReaction => exact chipReaction_settles _
  | episodeClose _ => exact episodeClose_settles _ _
  | trapAck _ => exact trapAck_settles _ _
  | inject _ => exact inject_settles _ _
  | interruptClaim _ => exact interruptClaim_settles _ _
  | interruptComplete _ _ => exact interruptComplete_settles _ _ _
  | setpend _ => exact setpend_settles _ _
  | recorderScan _ => exact recorderScan_settles _ _
  | snapshotStart _ => exact snapshotStart_settles _ _
  | snapshotDone => exact snapshotDone_settles _
  | heartbeat => exact heartbeat_settles _
  | recordWrite => exact recordWrite_settles _
  | recordWriteDone _ => exact recordWriteDone_settles _ _
  | eraseDone _ => exact eraseDone_settles _ _
  | freeze _ => exact freeze_settles _ _
  | thaw _ => exact thaw_settles _ _
  | freezeExpiry => exact freezeExpiry_settles _
  | erRdPtrWrite _ => exact erRdPtrWrite_settles _ _
  | erRdDataRead => exact erRdDataRead_settles _
  | fetchDone => exact fetchDone_settles _
  | rdAbort _ _ => exact rdAbort_settles _ _ _
  | clear _ => exact clear_settles _ _
  | clearDone => exact clearDone_settles _
  | clearArmExpiry => exact clearArmExpiry_settles _
  | erCfgWrite _ => exact erCfgWrite_settles _ _
  | portSignalDetect _ => exact portSignalDetect_settles _ _
  | trainingDone _ => exact trainingDone_settles _ _
  | trainingTimeout _ => exact trainingTimeout_settles _ _
  | helloTx _ => exact helloTx_settles _ _
  | hello _ _ => exact hello_settles _ _ _
  | auth _ _ => exact auth_settles _ _ _
  | isolationExpiry _ => exact isolationExpiry_settles _ _
  | portDown _ => exact portDown_settles _ _
  | portSilenceTimeout _ => exact portSilenceTimeout_settles _ _
  | frameForward _ _ => exact frameForward_settles _ _ _
  | frameResend _ => exact frameResend_settles _ _
  | markTx _ _ => exact markTx_settles _ _ _
  | mark _ _ _ => exact mark_settles _ _ _ _
  | advTx => exact advTx_settles _
  | adv _ _ => exact adv_settles _ _ _
  | advExpiry _ => exact advExpiry_settles _ _
  | routeRecompute => exact routeRecompute_settles _
  | addrConflictClear => exact addrConflictClear_settles _
  | followUpdate _ => exact followUpdate_settles _ _
  | parentLost => exact parentLost_settles _
  | timeOffsetExceeded => exact timeOffsetExceeded_settles _
  | timeStep => exact timeStep_settles _
  | join _ => exact join_settles _ _
  | leave _ => exact leave_settles _ _
  | joinRetry => exact joinRetry_settles _
  | joinFrame _ _ => exact joinFrame_settles _ _ _
  | admitFrame _ _ => exact admitFrame_settles _ _ _
  | jobMembershipStart => exact jobMembershipStart_settles _
  | leaveFrame _ _ => exact leaveFrame_settles _ _ _
  | leaderTimeout => exact leaderTimeout_settles _
  | need _ _ => exact need_settles _ _ _
  | agreeDeadline => exact agreeDeadline_settles _
  | agree _ _ => exact agree_settles _ _ _
  | syncDone _ _ => exact syncDone_settles _ _ _
  | syncRel _ _ => exact syncRel_settles _ _ _
  | shareReq _ _ => exact shareReq_settles _ _ _
  | shareDeadline => exact shareDeadline_settles _
  | share _ _ => exact share_settles _ _ _
  | pullGo _ => exact pullGo_settles _ _
  | pullOpen _ _ => exact pullOpen_settles _ _ _
  | offer _ _ => exact offer_settles _ _ _
  | credit _ _ => exact credit_settles _ _ _
  | pullData _ _ => exact pullData_settles _ _ _
  | pullExpiry => exact pullExpiry_settles _
  | pullSourceTimeout => exact pullSourceTimeout_settles _
  | pullAbort _ _ => exact pullAbort_settles _ _ _
  | powerLoss _ => exact powerLoss_settles _ _
  | busRecovery _ => exact busRecovery_settles _ _
  | fastClockRestartDone => exact fastClockRestartDone_settles _
  | retArmExpiry _ => exact retArmExpiry_settles _ _

/-! ### A nanosecond of the clock -/

section
variable (s : State)

/-- A restart and a wake touch no raise (R315, R318). -/
@[simp] theorem restart_fault : s.restart.fault = s.fault := (congrArg State.fault (restart_rest s) :)
@[simp] theorem wake_fault (m : Nat) : (s.wake m).fault = s.fault := (congrArg State.fault (wake_rest s m) :)

/-- What no always-on tick touches: everything but the clock, two registers and the recorder's count of heartbeats. -/
def State.steady (s : State) : FaultX × Port × List (Nat × Word) × List (Nat × WellX) × List (Nat × PumpX) × List (Nat × ClusterX) ×
    List (Nat × TileX) × List Instr :=
  (s.fault, s.port, s.flash, s.wells, s.pumps, s.clusters, s.tiles, s.pending)

@[simp] theorem restart_steady : s.restart.steady = s.steady := (congrArg State.steady (restart_rest s) :)
@[simp] theorem wake_steady (m : Nat) : (s.wake m).steady = s.steady := (congrArg State.steady (wake_rest s m) :)

@[simp] theorem heartTick_steady : s.heartTick.steady = s.steady := by
  simp only [State.heartTick]
  split
  · exact restart_steady _
  · rfl

@[simp] theorem alarmTick_steady : s.alarmTick.steady = s.steady := by
  simp only [State.alarmTick]
  split
  · exact wake_steady s 4
  · rfl

/-- The state as a tick of the always-on clock has been counted. -/
def State.ticked (s : State) (frac count : Nat) (ao : Word) : State :=
  State.setReg { s with clk := { s.clk with aoFrac := frac, aoCount := count } } HD_AO_TIME ao

@[simp] theorem ticked_steady (frac count : Nat) (ao : Word) : (s.ticked frac count ao).steady = s.steady := rfl

/-- A nanosecond adds a part of a tick, or a tick is counted, with what falls due at it. -/
theorem aoTick_cases : (∃ frac, s.aoTick = { s with clk := { s.clk with aoFrac := frac } }) ∨
    ∃ frac count ao, s.aoTick = (s.ticked frac count ao).heartTick.alarmTick := by
  simp only [State.aoTick]
  split
  · exact .inl ⟨_, rfl⟩
  · exact .inr ⟨_, _, _, rfl⟩

/-- The always-on tick touches the clock, HD_AO_TIME, HD_PWR_STAT and the recorder's count of heartbeats alone (R314, R318, R356). -/
theorem aoTick_steady : s.aoTick.steady = s.steady := by
  obtain ⟨_, h⟩ | ⟨_, _, _, h⟩ := aoTick_cases s
  · rw [h]
    rfl
  · rw [h, alarmTick_steady, heartTick_steady, ticked_steady]

@[simp] theorem aoTick_fault : s.aoTick.fault = s.fault := by
  have h := aoTick_steady s
  simp only [State.steady, Prod.mk.injEq] at h
  exact h.1

theorem heartTick_reg (b : Nat) : s.heartTick.reg b = s.reg b := by
  simp only [State.heartTick]
  split
  · exact restart_reg _ b
  · rfl

theorem alarmTick_reg (b : Nat) (h : b ≠ HD_PWR_STAT) : s.alarmTick.reg b = s.reg b := by
  simp only [State.alarmTick]
  split
  · exact wake_reg s 4 b h
  · rfl

theorem heartTick_awake (h : s.awake) : s.heartTick.awake := by
  obtain ⟨hrun, hreq⟩ := h
  simp only [State.heartTick]
  split
  · rw [State.restart, if_neg (by simp [hrun])]
    exact ⟨hrun, hreq⟩
  · exact ⟨hrun, hreq⟩

/-- A Wellhead that is awake ignores its alarm (R318). -/
theorem alarmTick_awake (h : s.awake) : s.alarmTick = s := by
  simp only [State.alarmTick]
  split
  · exact wake_awake s 4 h
  · rfl

/-- The clock's count of nanoseconds and beats. -/
def State.time (s : State) : Nat × Nat × Nat := (s.clk.ns, s.clk.beat, s.clk.beatLeft)

@[simp] theorem restart_time : s.restart.time = s.time := by
  simp only [State.restart]
  split <;> rfl

@[simp] theorem wake_time (m : Nat) : (s.wake m).time = s.time := by
  simp only [State.wake]
  split
  · split
    · rfl
    · exact restart_time s
  · split_ifs <;> rfl

@[simp] theorem heartTick_time : s.heartTick.time = s.time := by
  simp only [State.heartTick]
  split
  · exact restart_time _
  · rfl

@[simp] theorem alarmTick_time : s.alarmTick.time = s.time := by
  simp only [State.alarmTick]
  split
  · exact wake_time s 4
  · rfl

theorem aoTick_time : s.aoTick.time = s.time := by
  obtain ⟨_, h⟩ | ⟨_, _, _, h⟩ := aoTick_cases s
  · rw [h]
    rfl
  · rw [h, alarmTick_time, heartTick_time]
    rfl

theorem ticked_reg (frac count : Nat) (ao : Word) (b : Nat) (h : b ≠ HD_AO_TIME) : (s.ticked frac count ao).reg b = s.reg b := by
  rw [State.ticked, reg_setReg, if_neg h]
  rfl

theorem aoTick_sameBut : State.sameBut [HD_AO_TIME, HD_PWR_STAT] s s.aoTick := by
  intro b hb
  simp only [List.mem_cons, List.not_mem_nil, or_false, not_or] at hb
  obtain ⟨hao, hpwr⟩ := hb
  obtain ⟨_, h⟩ | ⟨_, _, _, h⟩ := aoTick_cases s
  · rw [h]
    rfl
  · rw [h, alarmTick_reg _ _ hpwr, heartTick_reg, ticked_reg _ _ _ _ _ hao]

theorem aoTick_awake (ha : s.awake) : State.sameBut [HD_AO_TIME] s s.aoTick ∧ s.aoTick.awake := by
  obtain ⟨_, h⟩ | ⟨frac, count, ao, h⟩ := aoTick_cases s
  · rw [h]
    exact ⟨fun _ _ => rfl, ha⟩
  · have hw : (s.ticked frac count ao).heartTick.awake := heartTick_awake _ ha
    rw [h, alarmTick_awake _ hw]
    exact ⟨fun b hb => by rw [heartTick_reg, ticked_reg _ _ _ _ _ (by simpa using hb)], hw⟩

/-- The clock has counted a nanosecond inside a beat. -/
def State.nsOn (s : State) : State := { s with clk := { s.clk with ns := s.clk.ns + 1, beatLeft := s.clk.beatLeft - 1 } }

theorem nsOn_steady : s.nsOn.steady = s.steady := rfl

theorem step_inside_beat (hp : s.pending = []) (hb : 1 < s.clk.beatLeft) : step s = .next s.nsOn.aoTick := by
  simp only [step, hp, State.tick, if_neg (Nat.not_le.mpr hb), State.nsOn]

theorem tick_quiet (h : s.quiet) : s.tick.quiet := by
  simp only [State.tick]
  split
  · exact settle_now _
  · rw [State.quiet, aoTick_fault]
    exact h

end

/-- Settles O1: the front of the queue is taken before the command runs, and the command is given the state that the queue's rest leaves. -/
theorem stepRunsFront : Obligations.StepRunsFront := by
  unfold Obligations.StepRunsFront
  exact fun _ _ => rfl

/-- Settles O2: a nanosecond away from a beat boundary is the clock's own count and the always-on tick. -/
theorem emptyQueueTicks : Obligations.EmptyQueueTicks := by
  unfold Obligations.EmptyQueueTicks
  intro s hp hb
  have htime := aoTick_time s.nsOn
  simp only [State.time, Prod.mk.injEq] at htime
  obtain ⟨hns, hbeat, hleft⟩ := htime
  have hsteady := (aoTick_steady s.nsOn).trans (nsOn_steady s)
  simp only [State.steady, Prod.mk.injEq] at hsteady
  obtain ⟨hfault, -, hflash, hwells, hpumps, hclusters, htiles, hpend⟩ := hsteady
  exact ⟨_, step_inside_beat s hp hb, hns, hbeat, hleft, aoTick_sameBut s.nsOn, aoTick_awake s.nsOn, hfault, hwells, hpumps, hclusters, htiles, hflash,
    hpend.trans hp⟩

/-- Settles O3: every value is the reset word of the register table. -/
theorem resetValues : Obligations.ResetValues := by
  unfold Obligations.ResetValues
  refine ⟨by decide, by decide, by decide, by decide, by decide, by decide, by decide, rfl, rfl, rfl, rfl⟩

/-- Settles O4: a settled outcome leaves no raise, and the type of the register table holds its canonical form. -/
theorem stepKeepsQuiet : Obligations.StepKeepsQuiet := by
  unfold Obligations.StepKeepsQuiet
  refine ⟨fun s t hq hst => ?_, fun s t _ _ => t.regs.form⟩
  cases hp : s.pending with
  | nil =>
    simp only [step, hp, Host.Outcome.next.injEq] at hst
    exact hst ▸ tick_quiet s hq
  | cons c rest =>
    simp only [step, hp] at hst
    exact (exec_settles c _).quiet hst

/-! ### Commands that answer a next state (R7) -/

/-- A write that sets no reserved bit is answered with a next state. -/
theorem hostOp_of_unreserved {s : State} {a : Nat} {d : Word} (f : State → State) (h : s.reservedBits a d = false) : ∃ t, hostOp s a d f = .next t := by
  rw [hostOp, h, if_neg Bool.false_ne_true]
  split_ifs <;> exact ⟨_, rfl⟩

theorem writeOp_of_unreserved {s : State} {a : Nat} {d : Word} (k : State → State) (h : s.reservedWrite a d = false) : ∃ t, writeOp s a d k = .next t := by
  rw [writeOp, h, if_neg Bool.false_ne_true]
  split_ifs <;> exact ⟨_, rfl⟩

theorem broadcastWrite_of_unreserved {s : State} {a : Nat} {d : Word} (l : List Nat) (h : s.reservedBits (phBase 0 + a) d = false) :
    ∃ t, exec (.broadcastWrite a d l) s = .next t := by
  show ∃ t, execBroadcastWrite a d l s = .next t
  simp only [execBroadcastWrite, h]
  split <;> exact ⟨_, rfl⟩

theorem dbgRegWrite_of_unreserved {s : State} {a : Nat} {d : Word} (h : s.reservedWrite (a % 2 ^ 24) d = false ∨ a.testBit 24 = true) :
    ∃ t, exec (.dbgRegWrite a d) s = .next t := by
  show ∃ t, execDbgRegWrite a d s = .next t
  rw [execDbgRegWrite]
  split
  · exact ⟨_, rfl⟩
  next ht =>
    rw [h.resolve_right ht, if_neg Bool.false_ne_true]
    split_ifs <;> exact ⟨_, rfl⟩

/-- The three rows whose meaning asks first whether the unit is there or takes the word. -/
theorem hdImgDataWrite_next (d : Word) (s : State) : ∃ t, exec (.hdImgDataWrite d) s = .next t := by
  show ∃ t, execHdImgDataWrite d s = .next t
  rw [execHdImgDataWrite]
  split <;> exact ⟨_, rfl⟩

theorem scheduleWindowWrite_next (a b : Nat) (d : Word) (s : State) : ∃ t, exec (.scheduleWindowWrite a b d) s = .next t := by
  show ∃ t, execScheduleWindowWrite a b d s = .next t
  simp only [execScheduleWindowWrite]
  split_ifs <;> exact ⟨_, rfl⟩

theorem interruptClaim_next (a : Nat) (s : State) : ∃ t, exec (.interruptClaim a) s = .next t := by
  show ∃ t, execInterruptClaim a s = .next t
  rw [execInterruptClaim]
  split <;> exact ⟨_, rfl⟩

theorem interruptComplete_of_unreserved {s : State} {a : Nat} {d : Word} (h : s.reservedBits (IC_CLAIM a) d = false) :
    ∃ t, exec (.interruptComplete a d) s = .next t := by
  show ∃ t, execInterruptComplete a d s = .next t
  rw [execInterruptComplete]
  split
  · exact hostOp_of_unreserved _ h
  · exact ⟨_, rfl⟩

theorem lcStageWrite_of_unreserved {s : State} {a : Nat} {d : Word} (h : s.reservedBits (LC_STAGE a) d = false) :
    ∃ t, exec (.lcStageWrite a d) s = .next t := by
  show ∃ t, execLcStageWrite a d s = .next t
  rw [execLcStageWrite]
  split
  · exact hostOp_of_unreserved _ h
  · exact ⟨_, rfl⟩

theorem hostClWrite_lo_of_unreserved {s : State} {a : Nat} {d : Word} (h : s.reservedBits (PH_HOST_CL0 a) d = false) :
    ∃ t, exec (.hostClWrite a 0 d) s = .next t := by
  show ∃ t, execHostClWrite a 0 d s = .next t
  rw [execHostClWrite, if_pos rfl]
  exact hostOp_of_unreserved _ h

theorem hostClWrite_hi_of_unreserved {s : State} {a b : Nat} {d : Word} (hb : b ≠ 0) (h : s.reservedBits (PH_HOST_CL1 a) d = false) :
    ∃ t, exec (.hostClWrite a b d) s = .next t := by
  show ∃ t, execHostClWrite a b d s = .next t
  rw [execHostClWrite, if_neg hb]
  exact hostOp_of_unreserved _ h

/-- A command whose meaning ends with the collector answers a next state. -/
theorem done_next (u : State) : ∃ t, done u = .next t := ⟨_, rfl⟩

/-- A word whose bits are among those of one that sets no reserved bit sets none either. -/
theorem reservedBits_and {s : State} {a : Nat} {d : Word} (m : Word) (h : s.reservedBits a d = false) : s.reservedBits a (d &&& m) = false := by
  simp only [State.reservedBits] at h ⊢
  cases hr : s.rowOf a with
  | none => rfl
  | some r =>
    simp only [hr, Bool.and_eq_false_iff, bne_eq_false_iff_eq] at h ⊢
    refine h.imp_right fun h0 => ?_
    rw [BitVec.and_assoc, BitVec.and_comm m, ← BitVec.and_assoc, h0]
    exact BitVec.zero_and

theorem reservedWrite_and {s : State} {a : Nat} {d : Word} (m : Word) (h : s.reservedWrite a d = false) : s.reservedWrite a (d &&& m) = false := by
  cases hp : place a <;> simp only [State.reservedWrite, hp] at h ⊢ <;> exact reservedBits_and m h

theorem statusClear_of_unreserved {s : State} {a : Nat} {d : Word} (x : Word) (h : s.reservedWrite a d = false) :
    ∃ t, exec (.statusClear a d x) s = .next t := by
  show ∃ t, execStatusClear a d x s = .next t
  simp only [execStatusClear]
  exact writeOp_of_unreserved _ (reservedWrite_and _ h)

/-- The rows that carry a word the host writes, each with the register it names and the word. -/
def hostRows (a b e : Nat) (d : Word) (p : Bool) (i : Int) : List (Instr × Nat × Word) :=
  [(Instr.wlLimitWrite a b d, WL_LIMIT a b, d), (.challenge d, LC_CMD, d), (.submit, LC_CMD, 0x02), (.cancel p, LC_CMD, 0x03),
    (.provisionCommit, LC_CMD, 0x10), (.enterField, LC_CMD, 0x11), (.imgStart d, HD_IMG_CTRL, d), (.imgAbort d p, HD_IMG_CTRL, d),
    (.safeNow d, HD_IMG_CTRL, d), (.safeStop d, HD_IMG_CTRL, d), (.cal a b e d, PM_LINK a b e, d), (.stest a d, PH_ENG_CTRL a, d),
    (.modeReqWrite a d, PH_ENG_CTRL a, d), (.vCmdWrite a b d, WL_SETPT a b, d), (.sqStart a d, SQ_CTRL a, d), (.bind a d, DS_CTRL a, d),
    (.unbind a d p, DS_CTRL a, d), (.dsStart a d, DS_CTRL a, d), (.dsStop a d, DS_CTRL a, d), (.force a d, DS_GATE_CTRL a, d),
    (.testReq a b d, WL_TEST a b, d), (.retArm a d, PH_RET_ARM a, d), (.returnPump a b e d, PM_SVC a b e, d),
    (.adWinCal a b d i, AD_WIN a b, d), (.calNow a d, AD_CTRL a, d), (.adGo a b d, AD_INJ a b, d),
    (.adResConfigWrite a b d, AD_RES a b, d), (.lpInhibitWrite a d, AD_CTRL a, d), (.resume a d, TH_CTRL a, d),
    (.clrPeak a d, TH_CTRL a, d), (.capHostWrite d, CG_CAP, d), (.jobStop d, CG_CTRL, d), (.plSet d, PL_SET, d),
    (.plHold d, PL_CTRL, d), (.resetMap d, PL_CTRL, d), (.hostHoldWrite a d, PH_HOST_HOLD a, d), (.sleep d, HD_PWR_CTRL, d),
    (.episodeClose d, FC_STAT, d), (.trapAck d, FC_CTRL, d), (.inject d, FC_CTRL, d), (.setpend d, IC_SETPEND, d),
    (.freeze d, ER_CTRL, d), (.thaw d, ER_CTRL, d), (.erRdPtrWrite d, ER_RD_PTR, d), (.rdAbort d p, ER_CTRL, d), (.clear d, ER_CTRL, d),
    (.erCfgWrite d, ER_CFG, d), (.join d, CL_JOB, d), (.leave d, CL_JOB, d), (.pullGo d, CL_PULL, d), (.pullAbort d p, CL_PULL, d)]

/-- A row that is a host write of `d` at `a` answers a next state where `d` leaves the reserved bits zero. -/
theorem next_of_hostOp {o : Host.Outcome State Fault Refusal} {s : State} {a : Nat} {d : Word} {f : State → State} (ho : o = hostOp s a d f)
    (h : s.reservedBits a d = false) : ∃ t, o = .next t := ho ▸ hostOp_of_unreserved f h

theorem next_of_writeOp {o : Host.Outcome State Fault Refusal} {s : State} {a : Nat} {d : Word} {k : State → State} (ho : o = writeOp s a d k)
    (h : s.reservedWrite a d = false) : ∃ t, o = .next t := ho ▸ writeOp_of_unreserved k h

theorem hostRows_next (a b e : Nat) (d : Word) (p : Bool) (i : Int) (s : State) :
    ∀ r ∈ hostRows a b e d p i, s.reservedBits r.2.1 r.2.2 = false → ∃ t, exec r.1 s = .next t := by
  simp only [hostRows, List.forall_mem_cons, List.not_mem_nil, false_imp_iff, implies_true, and_true]
  refine ⟨next_of_hostOp (show execWlLimitWrite a b d s = _ from rfl),
    next_of_hostOp (show execChallenge d s = _ from rfl),
    next_of_hostOp (show execSubmit s = _ from rfl),
    next_of_hostOp (show execCancel p s = _ from rfl),
    next_of_hostOp (show execProvisionCommit s = _ from rfl),
    next_of_hostOp (show execEnterField s = _ from rfl),
    next_of_hostOp (show execImgStart d s = _ from rfl),
    next_of_hostOp (show execImgAbort d p s = _ from rfl),
    next_of_hostOp (show execSafeNow d s = _ from rfl),
    next_of_hostOp (show execSafeStop d s = _ from rfl),
    next_of_hostOp (show execCal a b e d s = _ from rfl),
    next_of_hostOp (show execStest a d s = _ from rfl),
    next_of_hostOp (show execModeReqWrite a d s = _ from rfl),
    next_of_hostOp (show execVCmdWrite a b d s = _ from rfl),
    next_of_hostOp (show execSqStart a d s = _ from rfl),
    next_of_hostOp (show execBind a d s = _ from rfl),
    next_of_hostOp (show execUnbind a d p s = _ from rfl),
    next_of_hostOp (show execDsStart a d s = _ from rfl),
    next_of_hostOp (show execDsStop a d s = _ from rfl),
    next_of_hostOp (show execForce a d s = _ from rfl),
    next_of_hostOp (show execTestReq a b d s = _ from rfl),
    next_of_hostOp (show execRetArm a d s = _ from rfl),
    next_of_hostOp (show execReturnPump a b e d s = _ from rfl),
    next_of_hostOp (show execAdWinCal a b d i s = _ from rfl),
    next_of_hostOp (show execCalNow a d s = _ from rfl),
    next_of_hostOp (show execAdGo a b d s = _ from rfl),
    next_of_hostOp (show execAdResConfigWrite a b d s = _ from rfl),
    next_of_hostOp (show execLpInhibitWrite a d s = _ from rfl),
    next_of_hostOp (show execResume a d s = _ from rfl),
    next_of_hostOp (show execClrPeak a d s = _ from rfl),
    next_of_hostOp (show execCapHostWrite d s = _ from rfl),
    next_of_hostOp (show execJobStop d s = _ from rfl),
    next_of_hostOp (show execPlSet d s = _ from rfl),
    next_of_hostOp (show execPlHold d s = _ from rfl),
    next_of_hostOp (show execResetMap d s = _ from rfl),
    next_of_hostOp (show execHostHoldWrite a d s = _ from rfl),
    next_of_hostOp (show execSleep d s = _ from rfl),
    next_of_hostOp (show execEpisodeClose d s = _ from rfl),
    next_of_hostOp (show execTrapAck d s = _ from rfl),
    next_of_hostOp (show execInject d s = _ from rfl),
    next_of_hostOp (show execSetpend d s = _ from rfl),
    next_of_hostOp (show execFreeze d s = _ from rfl),
    next_of_hostOp (show execThaw d s = _ from rfl),
    next_of_hostOp (show execErRdPtrWrite d s = _ from rfl),
    next_of_hostOp (show execRdAbort d p s = _ from rfl),
    next_of_hostOp (show execClear d s = _ from rfl),
    next_of_hostOp (show execErCfgWrite d s = _ from rfl),
    next_of_hostOp (show execJoin d s = _ from rfl),
    next_of_hostOp (show execLeave d s = _ from rfl),
    next_of_hostOp (show execPullGo d s = _ from rfl),
    next_of_hostOp (show execPullAbort d p s = _ from rfl)⟩

theorem writeRows_next (a b : Nat) (d x : Word) (q : Bool) (l : List Nat) (s : State) :
    (s.reservedWrite a d = false → (∃ t, exec (.registerWrite a d) s = .next t) ∧ (∃ t, exec (.counterClear a d q) s = .next t) ∧
      ∃ t, exec (.statusClear a d x) s = .next t) ∧
    (s.reservedBits (phBase 0 + a) d = false → ∃ t, exec (.broadcastWrite a d l) s = .next t) ∧
    (s.reservedWrite (a % 2 ^ 24) d = false ∨ a.testBit 24 = true → ∃ t, exec (.dbgRegWrite a d) s = .next t) ∧
    (s.reservedBits (LC_STAGE a) d = false → ∃ t, exec (.lcStageWrite a d) s = .next t) ∧
    (s.reservedBits (IC_CLAIM a) d = false → ∃ t, exec (.interruptComplete a d) s = .next t) ∧
    (s.reservedBits (PH_HOST_CL0 a) d = false → ∃ t, exec (.hostClWrite a 0 d) s = .next t) ∧
    (b ≠ 0 → s.reservedBits (PH_HOST_CL1 a) d = false → ∃ t, exec (.hostClWrite a b d) s = .next t) := by
  refine ⟨fun h => ⟨?_, ?_, ?_⟩, ?_, ?_, ?_, ?_, ?_, ?_⟩
  · exact next_of_writeOp (show execRegisterWrite a d s = _ from rfl) h
  · exact next_of_writeOp (show execCounterClear a d q s = _ from rfl) h
  · exact statusClear_of_unreserved x h
  · exact broadcastWrite_of_unreserved l
  · exact dbgRegWrite_of_unreserved
  · exact lcStageWrite_of_unreserved
  · exact interruptComplete_of_unreserved
  · exact hostClWrite_lo_of_unreserved
  · exact hostClWrite_hi_of_unreserved

/-- Settles O6: a row's meaning is `done`, or a host write, which stops at its reserved bits alone. -/
theorem nothingElseStops : Obligations.NothingElseStops := by
  unfold Obligations.NothingElseStops
  refine ⟨?outcomes, ?_, ?_, ?_, ?_, ?_, ?_, ?_, ?_, ?_, ?_, ?_, ?_, ?_, ?_, ?_, ?_, ?hostRows, ?writes⟩
  case outcomes =>
    intro c s
    obtain ⟨u, hu⟩ | hr := exec_settles c s
    · exact .inl ⟨_, hu⟩
    · exact .inr hr
  case hostRows =>
    intro c a b e m d y p i s
    exact fun hc h => hostRows_next a b e d p i s _ hc h
  case writes =>
    intro a b d x q l s
    exact writeRows_next a b d x q l s
  all_goals
    intros c
    intros
    rename_i h
    revert c
    simp only [List.forall_mem_cons, List.not_mem_nil, false_imp_iff, implies_true, and_true]
    and_intros
    all_goals first | exact done_next _ | exact hdImgDataWrite_next _ _ | exact scheduleWindowWrite_next _ _ _ _ | exact interruptClaim_next _ _

end Sys2Proof.Machine

/-! PROOFS. What power-on, power loss, chip reset and the life-cycle read leave (R48, R49, R54, R322, R395). -/

namespace Sys2Proof.Machine

open Sys2Proof

/-! ### Power (R54, R395) -/

section
variable (s : State)

/-- A register reads the word stored, and any other register what it read before. -/
theorem rd_setReg_same (a : Nat) (d : Word) (f : Fld) : (s.setReg a d).rd a f = f.get d := by
  rw [State.rd, reg_setReg, if_pos rfl]

theorem rd_setReg_ne (a b : Nat) (d : Word) (f : Fld) (h : b ≠ a) : (s.setReg a d).rd b f = s.rd b f := by
  rw [State.rd, reg_setReg, if_neg h, State.rd]

theorem flag_setReg_ne (a b : Nat) (d : Word) (f : Fld) (h : b ≠ a) : (s.setReg a d).flag b f = s.flag b f := by
  rw [State.flag, rd_setReg_ne s a b d f h, State.flag]

/-- What is cleared but for the fused fields holds no register off its reset value. -/
theorem fusedRegs_reg (a : Nat) (h : a ∉ [HD_TOPO, HD_SAFE, ER_CFG, CG_CAP]) : s.fusedRegs.reg a = s.reg a := by
  simp only [List.mem_cons, List.not_mem_nil, or_false, not_or] at h
  obtain ⟨htopo, hsafe, hcfg, hcap⟩ := h
  simp only [State.fusedRegs, reg_wr_ne _ _ _ _ _ hcap, reg_setReg, if_neg hcfg, if_neg hsafe, reg_wr_ne _ _ _ _ _ htopo]

theorem cleared_reg (a : Nat) (h : a ∉ [HD_TOPO, HD_SAFE, ER_CFG, CG_CAP]) : s.cleared.reg a = regReset a :=
  fusedRegs_reg _ a h

theorem cleared_tiles : s.cleared.rd HD_TOPO HD_TOPO.TILES = s.fuses.rows * s.fuses.cols % 256 := by
  simp (disch := decide) only [State.cleared, State.fusedRegs, rd_wr_ne, rd_setReg_ne, rd_wr_fld, rd_wr_same]
  rfl

theorem cleared_safe : s.cleared.reg HD_SAFE = s.fuses.safe := by
  have hcfg : HD_SAFE ≠ ER_CFG := by decide
  simp (disch := decide) only [State.cleared, State.fusedRegs, reg_wr_ne, reg_setReg, if_neg hcfg, if_pos]

theorem cleared_not_armed : s.cleared.flag ER_STAT ER_STAT.CLEAR_ARMED = false := by
  simp only [State.flag, State.rd, cleared_reg s ER_STAT (by decide)]
  decide

theorem exec_powerOnReset : exec .powerOnReset s = .next s.cleared := done_quiet s.cleared rfl

theorem exec_powerLoss (w : Bool) : exec (.powerLoss w) s = .next (s.powerLoss w) := by
  refine done_quiet (s.powerLoss w) ?_
  simp only [State.powerLoss]
  split <;> rfl

end

/-- Settles O7: both leave what `State.cleared` leaves, a finished wipe with its slot blown. -/
theorem powerLeaves : Obligations.PowerLeaves := by
  unfold Obligations.PowerLeaves
  refine ⟨fun s => ⟨_, exec_powerOnReset s, cleared_reg s, cleared_tiles s, cleared_safe s, rfl, rfl, rfl, rfl, rfl, rfl, rfl, rfl, rfl, rfl, rfl, rfl, rfl⟩,
    fun s => ⟨_, exec_powerLoss s false, ?_⟩, fun s hw => ⟨_, exec_powerLoss s true, ?_⟩⟩
  · rw [State.powerLoss, if_neg (by simp)]
    exact ⟨rfl, rfl, rfl, cleared_not_armed s, rfl, rfl, rfl⟩
  · rw [State.powerLoss, if_pos ⟨rfl, hw⟩]
    exact ⟨rfl, rfl, rfl, rfl⟩

/-! ### Chip reset past tile 95 -/

/-- HD_TOPO reads 97 tiles, and the keeper of tile 96 is in CAL stage: all else is as at reset. -/
def tiles97Keeper : State := (State.reset.wr HD_TOPO HD_TOPO.TILES 97).setStage 96 14 stCal

/-- The keeper of tile 96 goes on through chip reset. -/
theorem tiles97Keeper_stage : tiles97Keeper.chipReset.reg (WL_SETPT 96 14) ≠ regReset (WL_SETPT 96 14) := by decide

theorem tiles97Keeper_chipReset : exec .chipReset tiles97Keeper = .next tiles97Keeper.chipReset :=
  done_quiet tiles97Keeper.chipReset (by decide)

/-- Refutes O8: the registers of keepers that it sets apart are those of tiles 0 to 95, and HD_TOPO.TILES is bounded by nothing. Where TILES reads 97
(R14 gives 16 to 96) the keeper of tile 96 goes on through chip reset as the others do, and its WL_SETPT does not take its reset value. -/
theorem not_chipResetLeaves : ¬ Obligations.ChipResetLeaves := by
  unfold Obligations.ChipResetLeaves
  intro h
  obtain ⟨t, ht, hregs, -⟩ := h .chipReset tiles97Keeper (.inl rfl)
  have htt : tiles97Keeper.chipReset = t := Host.Outcome.next.inj (tiles97Keeper_chipReset.symm.trans ht)
  refine tiles97Keeper_stage ?_
  rw [htt]
  refine hregs _ (by decide) fun u p hu hp => ?_
  simp only [List.mem_cons, List.not_mem_nil, or_false, not_or, WL_SETPT, WL_PROF_STAT, AD_WIN, PM_STAT, PM_LINK, wlBase, phBase]
  omega

/-! ### The life-cycle read (R48, R49, R322) -/

section
variable (s : State)

/-- The fuses and the VP_ERR_N of reset: what no unit but the life cycle touches. -/
def State.lcFuses (s : State) : Fuses × Bool := (s.fuses, s.fault.errReset)

/-- What every element of a list keeps, the list keeps. -/
theorem each_keeps {α β : Type} (π : State → β) (l : List α) (f : State → α → State) (h : ∀ u a, π (f u a) = π u) (s : State) :
    π (s.each l f) = π s := by
  induction l generalizing s with
  | nil => rfl
  | cons a l ih => exact (ih (f s a)).trans (h s a)

@[simp] theorem bump_lcFuses (a : Nat) : (s.bump a).lcFuses = s.lcFuses := (congrArg State.lcFuses (bump_rest s a) :)

@[simp] theorem sourceLost_lcFuses : s.sourceLost.lcFuses = s.lcFuses := by
  simp only [State.sourceLost]
  split
  · exact bump_lcFuses _ _
  · rfl

@[simp] theorem clearPort_lcFuses (n v : Nat) : (s.clearPort n v).lcFuses = s.lcFuses := by
  simp only [State.clearPort]
  split
  · exact sourceLost_lcFuses _
  · rfl

@[simp] theorem linkPorts_lcFuses : s.linkPorts.lcFuses = s.lcFuses := by
  refine each_keeps State.lcFuses _ _ (fun u n => ?_) s
  split_ifs <;> simp

@[simp] theorem unrecorded_lcFuses (r : Rec) : (s.unrecorded r).lcFuses = s.lcFuses := by
  simp only [State.unrecorded]
  split_ifs <;> rfl

@[simp] theorem enq_lcFuses (r : Rec) : (s.enq r).lcFuses = s.lcFuses := by
  simp only [State.enq]
  split_ifs
  · simp
  · exact (congrArg State.lcFuses (restart_rest _) :)
  · exact (unrecorded_lcFuses _ r).trans (bump_lcFuses s ER_STAT)

@[simp] theorem ibi_lcFuses (c : Nat) : (s.ibi c).lcFuses = s.lcFuses := (congrArg State.lcFuses (ibi_rest s c) :)
@[simp] theorem ibi_fault (c : Nat) : (s.ibi c).fault = s.fault := (congrArg State.fault (ibi_rest s c) :)
@[simp] theorem wrb_lcFuses (a : Nat) (f : Fld) (b : Bool) : (s.wrb a f b).lcFuses = s.lcFuses := rfl
@[simp] theorem record_lcFuses (ty trig : Nat) (l : List Word) : (s.record ty trig l).lcFuses = s.lcFuses := enq_lcFuses s _
@[simp] theorem lcEvent_lcFuses (p : Nat) : (s.lcEvent p).lcFuses = s.lcFuses := rfl

/-- A move of the life cycle: its fuses, and LC_EVENT with the purpose (R48, R325). -/
theorem transition_lcFuses (f : Fuses) (hash : BitVec 384) (p : Nat) : (s.transition f hash p).lcFuses = (f, s.fault.errReset) := by
  simp only [State.transition, ibi_lcFuses, lcEvent_lcFuses, record_lcFuses, wrb_lcFuses, linkPorts_lcFuses]
  rfl

theorem transition_event (f : Fuses) (hash : BitVec 384) (p : Nat) : { src := 2, sub := p } ∈ (s.transition f hash p).fault.now := by
  simp only [State.transition, ibi_fault]
  exact List.mem_append_right _ (List.mem_singleton.mpr rfl)

end

/-- Settles O9: what is not a wiped slot in FIELD leaves the release of VP_ERR_N alone; a wiped one is a move of the life cycle. -/
theorem lifeCycleReadDoes : Obligations.LifeCycleReadDoes := by
  unfold Obligations.LifeCycleReadDoes
  refine ⟨fun s hq hn => ?_, fun s hs hw => ⟨s.lifeCycleRead, rfl, ?_⟩⟩
  · show done s.lifeCycleRead = _
    have hread : s.lifeCycleRead = { s with fault := { s.fault with errReset := false } } := if_neg hn
    rw [hread]
    exact done_quiet _ hq
  · have hread : s.lifeCycleRead = State.transition { s with fault := { s.fault with errReset := false } } { s.fuses with lcState := 3 } 0 1 :=
      if_pos ⟨hs, hw⟩
    rw [hread]
    have hf := transition_lcFuses { s with fault := { s.fault with errReset := false } } { s.fuses with lcState := 3 } 0 1
    exact ⟨congrArg Prod.fst hf, congrArg Prod.snd hf, transition_event _ _ _ _⟩

end Sys2Proof.Machine

/-! PROOFS. Requests at the host port and the broadcast write (R12, R34, R37, R38). -/

namespace Sys2Proof.Machine

open Sys2Proof

/-! ### A TIMEOUT that makes the port's error count stick -/

/-- ERRORS is one below its last value and the counter event is enabled; a read and a write are outstanding: all else is as at reset. -/
def errorsAtLast : State :=
  { (State.reset.wr HD_PORT_STAT HD_PORT_STAT.ERRORS 0xFFFFFFFE).wr (IC_SRC 148) IC_SRC.PRIO 1 with
    port := { outstanding := [⟨false, HD_TOPO, 0, 0⟩, ⟨true, HD_TOPO, 0, 1⟩] } }

/-- The answer TIMEOUT makes the count stick, which IC_SAT_ADDR reports (R12). -/
theorem errorsAtLast_satAddr : (errorsAtLast.portTimeout false).reg IC_SAT_ADDR ≠ errorsAtLast.reg IC_SAT_ADDR := by decide

theorem errorsAtLast_portTimeout : exec (.portTimeout false) errorsAtLast = .next (errorsAtLast.portTimeout false) :=
  done_quiet (errorsAtLast.portTimeout false) (by decide)

/-- Refutes O12: its third clause says of every PORT_TIMEOUT of a read that no register but HD_PORT_STAT changes, and does not keep ERRORS away from
its last value. A count that sticks is reported in IC_SAT_ADDR and pends the counter event (R12). -/
theorem not_requestsAnswered : ¬ Obligations.RequestsAnswered := by
  unfold Obligations.RequestsAnswered
  rintro ⟨-, -, h, -⟩
  obtain ⟨t, ht, -, -, hsame⟩ := h false errorsAtLast _ _ rfl rfl rfl rfl
  have htt : errorsAtLast.portTimeout false = t := Host.Outcome.next.inj (errorsAtLast_portTimeout.symm.trans ht)
  exact errorsAtLast_satAddr (htt ▸ hsame IC_SAT_ADDR (by decide))

/-! ### The broadcast write (R38) -/

/-- The tile whose slice serves an offset below the schedule window. -/
theorem tileAt_phBase {n off t : Nat} (hoff : off < 0x8000) (h : tileAt (phBase n + off) = some t) : t = n := by
  have hp : place (phBase n + off) = .nowhere ∨ (∃ o, place (phBase n + off) = .broadcast o) ∨ place (phBase n + off) = phPlace n off := by
    have hsub : phBase n + off - 0x100000 = n * 0x10000 + off := by simp only [phBase]; omega
    have hdiv : (n * 0x10000 + off) / 0x10000 = n := by omega
    have hmod : (n * 0x10000 + off) % 0x10000 = off := by omega
    have hlo : ¬ phBase n + off < 0x100000 := by simp only [phBase]; omega
    simp only [place, if_neg hlo, hsub, hdiv, hmod]
    split_ifs
    · exact .inr (.inr rfl)
    · exact .inr (.inl ⟨_, rfl⟩)
    · exact .inl rfl
  rcases hp with hp | ⟨o, hp⟩ | hp
  · simp [tileAt, hp] at h
  · simp [tileAt, hp] at h
  · simp only [tileAt, hp, phPlace] at h
    split_ifs at h <;> simp at h <;> exact h.symm

section
variable (off : Nat) (d : Word) (s : State) (r : RegRow)

/-- The Pumphouses below `n` have stored the word at the offset, and nothing else has changed. -/
structure Stored (n : Nat) (u : State) : Prop where
  here : ∀ t, t < n → u.reg (phBase t + off) = plainWord r (phBase t + off) d (s.reg (phBase t + off))
  elsewhere : ∀ b, (∀ t, t < n → b ≠ phBase t + off) → u.reg b = s.reg b
  rest : { u with regs := s.regs } = s

variable {off d s r}

theorem Stored.tileCount {n : Nat} {u : State} (h : Stored off d s r n u) : u.tileCount = s.tileCount := by
  have htopo : ∀ t, t < n → HD_TOPO ≠ phBase t + off := fun t _ => by simp only [HD_TOPO, phBase]; omega
  simp only [State.tileCount, State.rd, h.elsewhere HD_TOPO htopo]

theorem Stored.rowOf {n : Nat} {u : State} (h : Stored off d s r n u) (a : Nat) : u.rowOf a = s.rowOf a := by
  unfold State.rowOf State.tileOk
  rw [h.tileCount]

theorem Stored.holds {n : Nat} {u : State} (h : Stored off d s r n u) (hoff : off < 0x8000) : u.holds (phBase n + off) = s.holds (phBase n + off) := by
  simp only [State.holds]
  cases ht : tileAt (phBase n + off) with
  | none => rfl
  | some t =>
    have hpwr : ∀ k, k < n → PH_PWR t ≠ phBase k + off := fun k hk => by
      rw [tileAt_phBase hoff ht]
      simp only [PH_PWR, phBase]
      omega
    simp only [Option.any_some, State.clocksOff, State.rd, h.elsewhere _ hpwr]

theorem Stored.succ {n : Nat} {u : State} (h : Stored off d s r n u) (hoff : off < 0x8000) (ht : s.takes (phBase n + off) d)
    (hr : s.rowOf (phBase n + off) = some r) (ho : ownRow (phBase n + off) = false) : Stored off d s r (n + 1) (u.broadcastTo off d n) := by
  have hnew : ∀ t, t < n → phBase n + off ≠ phBase t + off := fun t _ => by simp only [phBase]; omega
  have hrow : u.rowOf (phBase n + off) = some r := (h.rowOf _).trans hr
  have hw : u.broadcastTo off d n = u.setReg (phBase n + off) (plainWord r (phBase n + off) d (u.reg (phBase n + off))) := by
    rw [State.broadcastTo, State.writeOrHold, h.holds hoff, ht.2.2.2.2, if_neg Bool.false_ne_true, writeAt_plain u _ d ho r hrow, State.plainWrite, hrow]
  rw [hw, h.elsewhere _ hnew]
  refine ⟨fun t htn => ?_, fun b hb => ?_, h.rest⟩
  · rw [reg_setReg]
    split
    · simp_all
    · exact h.here t (by rcases Nat.lt_succ_iff_lt_or_eq.mp htn with h1 | h1; exact h1; simp_all)
  · rw [reg_setReg, if_neg (hb n (Nat.lt_succ_self n))]
    exact h.elsewhere b fun t htn => hb t (Nat.lt_succ_of_lt htn)

/-- The Pumphouses store the word one by one. -/
theorem broadcast_stored (hoff : off < 0x8000) (n : Nat)
    (hall : ∀ t, t < n → s.takes (phBase t + off) d ∧ s.rowOf (phBase t + off) = some r ∧ ownRow (phBase t + off) = false) :
    Stored off d s r n (s.each (List.range n) (fun u t => u.broadcastTo off d t)) := by
  induction n with
  | zero => exact ⟨fun t ht => absurd ht (Nat.not_lt_zero t), fun _ _ => rfl, rfl⟩
  | succ n ih =>
    obtain ⟨ht, hr, ho⟩ := hall n (Nat.lt_succ_self n)
    rw [State.each, List.range_succ, List.foldl_append]
    exact (ih fun t h => hall t (Nat.lt_succ_of_lt h)).succ hoff ht hr ho

/-- A mapped offset is one of a Pumphouse's registers or of a well's. -/
theorem phPlace_of_row {n : Nat} (hoff : off < 0x8000) (hr : s.rowOf (phBase n + off) = some r) :
    (∃ o, phPlace 0 off = .pumphouse 0 o) ∨ ∃ w o, phPlace 0 off = .well 0 w o := by
  have hlt : ¬ phBase n + off < 0x100000 := by simp only [phBase]; omega
  have hsub : phBase n + off - 0x100000 = n * 0x10000 + off := by simp only [phBase]; omega
  have hdiv : (n * 0x10000 + off) / 0x10000 = n := by omega
  have hmod : (n * 0x10000 + off) % 0x10000 = off := by omega
  simp only [State.rowOf, place, if_neg hlt, hsub, hdiv, hmod, phPlace] at hr
  simp only [phPlace]
  split_ifs at hr ⊢ <;> simp_all

/-- The tile whose register answers is not silent. -/
theorem silent_of_reached {n : Nat} (hoff : off < 0x8000) (hn : n < s.tileCount) (hr : s.rowOf (phBase n + off) = some r)
    (h : s.unreached (phBase n + off) = false) : s.silent n = false := by
  have ht : tileAt (phBase n + off) = some n := by
    obtain ⟨o, hp⟩ | ⟨t, o, hp⟩ | ⟨t, w, o, hp⟩ := row_place s _ r hr
    · have ho := place_wellhead _ o hp
      have hlt : ¬ phBase n + off < 0x100000 := by simp only [phBase]; omega
      simp only [place, if_neg hlt] at hp
      split_ifs at hp
      exact absurd hp (phPlace_ne _ _ _)
    all_goals
      have hat : tileAt (phBase n + off) = some t := by simp only [tileAt, hp]
      rw [hat, tileAt_phBase hoff hat]
  simpa [State.unreached, ht, State.tileOk, hn] using h

/-- Every configured Pumphouse accepts the write: each stores the word, and the answer is OKAY. -/
theorem broadcast_all (hoff : off < 0x8000)
    (hall : ∀ t, t < s.tileCount → s.takes (phBase t + off) d ∧ s.rowOf (phBase t + off) = some r ∧ ownRow (phBase t + off) = false)
    (h1 : 1 ≤ s.tileCount) : s.broadcast off d [] = (rOkay, s.each (List.range s.tileCount) (fun u t => u.broadcastTo off d t)) := by
  have htiles : s.allTiles.filter (fun t => !s.emptyAt (phBase t + off)) = List.range s.tileCount := by
    refine List.filter_eq_self.mpr fun t ht => ?_
    simp [(hall t (List.mem_range.mp ht)).1.2.2.1]
  have hdeaf : ∀ t ∈ List.range s.tileCount, s.silent t = false := fun t ht => silent_of_reached hoff (List.mem_range.mp ht) (hall t (List.mem_range.mp ht)).2.1
    (hall t (List.mem_range.mp ht)).1.2.2.2.1
  have hany : (List.range s.tileCount).any (fun t => ([] : List Nat).contains t || s.silent t) = false :=
    List.any_eq_false.mpr fun t ht => by simp [hdeaf t ht]
  have hheard : (List.range s.tileCount).filter (fun t => !(([] : List Nat).contains t || s.silent t)) = List.range s.tileCount :=
    List.filter_eq_self.mpr fun t ht => by simp [hdeaf t ht]
  have hrow : (s.rowOf (phBase 0 + off)).isNone = false := by rw [(hall 0 h1).2.1]; rfl
  rcases phPlace_of_row hoff (hall 0 h1).2.1 with ⟨o, hp⟩ | ⟨w, o, hp⟩ <;>
    simp only [State.broadcast, hp, hrow, htiles, hany, hheard, Bool.false_eq_true, if_false]

end

/-- Settles O13: the Pumphouses store the word one by one, none of which changes what the next one takes. -/
theorem broadcastReachesAll : Obligations.BroadcastReachesAll := by
  unfold Obligations.BroadcastReachesAll
  intro off d s r hq ha hoff hall h1 hcnt
  have hstored := broadcast_stored hoff s.tileCount hall
  generalize hu : s.each (List.range s.tileCount) (fun u t => u.broadcastTo off d t) = u at hstored
  have hb := broadcast_all hoff hall h1
  rw [hu] at hb
  have hrest := hstored.rest
  have hport : u.port = s.port := (congrArg State.port hrest :)
  have hua : u.alone := by rw [State.alone, hport]; exact ha
  have huq : u.quiet := by rw [State.quiet, show u.fault = s.fault from (congrArg State.fault hrest :)]; exact hq
  refine ⟨u.answered rOkay 0, ?_, hstored.here, hstored.elsewhere, ?_, ?_⟩
  · show execBroadcastWrite off d [] s = _
    simp only [execBroadcastWrite, if_neg (Nat.not_le.mpr hoff), (hall 0 h1).1.1, hb, Bool.false_eq_true, if_false]
    rw [answer_alone u _ _ hua]
    exact done_quiet _ huq
  · exact (congrArg (fun x : State => { x with port := s.port }) hrest :)
  · simp only [State.answered, hport]

end Sys2Proof.Machine

/-! PROOFS. The sideband's private and common commands and its in-band interrupts (R40-R45). -/

namespace Sys2Proof.Machine

open Sys2Proof

section
variable (s : State)

/-! ### Private commands (R40, R43, R44) -/

/-- A read looks at nothing of the sideband's own state. -/
@[simp] theorem updSb_readReg (f : Sideband → Sideband) (a : Nat) : (s.updSb f).readReg a = s.readReg a := rfl
@[simp] theorem updSb_sbRead (f : Sideband → Sideband) (a : Nat) : (s.updSb f).sbRead a = s.sbRead a := rfl

/-- The state in which a private command is carried out: it replaces what has not been read back (R43). -/
def State.sbFresh (s : State) : State := s.updSb (fun b => { b with todo := none, result := [] })

theorem sbCommand_awake (cmd : Nat) (arg : Word) (h : s.awake) : s.sbCommand cmd arg = s.sbFresh.sbExec cmd arg := by
  simp only [State.sbCommand, wake_awake s 2 h, updSb_clk, h.1, if_true]
  rfl

theorem sbRead_runs (a : Nat) (hq : s.quiet) (h : s.awake) (ha : a < 2 ^ 24) :
    exec (.sbRead a) s = .next (s.sbFresh.sbResult (sbStatus (s.sbRead a).1 :: wordBytes (s.sbRead a).2)) := by
  show done (s.sbCommand 1 (BitVec.ofNat 64 (a % 2 ^ 24))) = _
  have harg : (BitVec.ofNat 64 (a % 2 ^ 24)).toNat = a := by
    rw [BitVec.toNat_ofNat, Nat.mod_eq_of_lt ha, Nat.mod_eq_of_lt (by omega)]
  rw [sbCommand_awake s _ _ h, State.sbExec, harg, State.sbFresh, updSb_sbRead]
  exact done_quiet _ hq

theorem ident_runs (hq : s.quiet) (h : s.awake) :
    exec .ident s = .next (s.sbFresh.sbResult (sbOk :: (wordBytes (s.readReg HD_TOPO).2 ++ wordBytes (s.readReg LC_STATE).2))) := by
  show done (s.sbCommand 5 0) = _
  rw [sbCommand_awake s _ _ h]
  exact done_quiet _ hq

theorem stopRequest_runs (h : s.awake) :
    exec (.stopRequest 0xA5) s = .next (((s.sbFresh.wr HD_SB_STAT HD_SB_STAT.STOP_REQ 1).raiseW { src := 5 }).sbResult [sbOk]).settle := by
  show done (s.sbCommand 4 (BitVec.ofNat 64 (0xA5 % 256))) = _
  rw [sbCommand_awake s _ _ h]
  rfl

theorem stopRequest_bad (b : Nat) (hq : s.quiet) (h : s.awake) (hb : b < 256) (hne : b ≠ 0xA5) :
    exec (.stopRequest b) s = .next (s.sbFresh.sbResult [sbBad]) := by
  show done (s.sbCommand 4 (BitVec.ofNat 64 (b % 256))) = _
  have harg : BitVec.ofNat 64 (b % 256) ≠ 0xA5 := by
    intro e
    have := congrArg BitVec.toNat e
    simp only [BitVec.toNat_ofNat, BitVec.ofNat_eq_ofNat] at this
    omega
  rw [sbCommand_awake s _ _ h, State.sbExec, if_neg harg]
  exact done_quiet _ hq

theorem freezeRecorder_runs (hq : s.quiet) (h : s.awake) : exec .freezeRecorder s = .next (s.sbFresh.freezeCmd.sbResult [sbOk]) := by
  show done (s.sbCommand 3 0) = _
  rw [sbCommand_awake s _ _ h]
  refine done_quiet _ ?_
  show s.sbFresh.freezeCmd.quiet
  simp only [State.freezeCmd]
  split_ifs <;> exact hq

/-- While the flash is idle a freeze is in force at once (R360). -/
theorem freezeCmd_idle (h : s.rcd.op = .idle) :
    s.freezeCmd.flag ER_STAT ER_STAT.FROZEN = true ∧ State.sameBut [ER_STAT] s s.freezeCmd ∧ s.freezeCmd.rcd = s.rcd := by
  simp only [State.freezeCmd, h, if_true]
  split
  next hf => exact ⟨hf, fun _ _ => rfl, rfl⟩
  next => exact ⟨flag_wr_one s _ _ (by decide), fun b hb => reg_wr_ne s _ b _ _ (by simpa using hb), rfl⟩

/-! ### The mailbox (R43) -/

/-- A source without a trigger pends and does nothing more. -/
theorem pend_without_trigger (n : Nat) (hl : listedSource n = true) (ht : s.rcd.triggers = []) : s.pend n = s.pendOnly n := by
  have htr : (s.pendOnly n).rcd = s.rcd := (congrArg State.rcd (pendOnly_rest s n) :)
  have hfire : (s.pendOnly n).fireTrigger n true 0 = s.pendOnly n := by
    simp only [State.fireTrigger, State.triggerOf, htr, ht, List.find?_nil, Option.map_none]
  simp only [pend_listed s n hl, State.on, hfire, ite_self]

/-- In a Wellhead that is awake a source that pends touches its own register alone. -/
theorem pendOnly_reg_awake (n b : Nat) (h : s.awake) (hb : b ≠ IC_SRC n) : (s.pendOnly n).reg b = s.reg b := by
  simp only [State.pendOnly]
  split
  · exact reg_wr_ne _ _ _ _ _ hb
  · rw [wake_awake]
    · exact (reg_wr_ne _ _ _ _ _ hb).trans (reg_wr_ne _ _ _ _ _ hb)
    · exact h

@[simp] theorem pendOnly_fault (n : Nat) : (s.pendOnly n).fault = s.fault := (congrArg State.fault (pendOnly_rest s n) :)
@[simp] theorem pendOnly_rcd (n : Nat) : (s.pendOnly n).rcd = s.rcd := (congrArg State.rcd (pendOnly_rest s n) :)
@[simp] theorem pendOnly_sb (n : Nat) : (s.pendOnly n).sb = s.sb := (congrArg State.sb (pendOnly_rest s n) :)

/-- The level of source `n`, which is not active and has no trigger, pends it and touches its register alone. -/
theorem pendLevel_alone (n : Nat) (hn : n < 512) (hl : listedSource n = true) (ht : s.rcd.triggers = []) (h : s.awake)
    (ha : s.flag (IC_SRC n) IC_SRC.ACTIVE = false) :
    (s.pendLevel n).flag (IC_SRC n) IC_SRC.PEND = true ∧ State.sameBut [IC_SRC n] s (s.pendLevel n) ∧ (s.pendLevel n).fault = s.fault ∧
      (s.pendLevel n).rcd = s.rcd ∧ (s.pendLevel n).sb = s.sb := by
  refine ⟨(pendLevel_of_idle s n hn hl ha).2, ?_⟩
  simp only [State.pendLevel]
  split
  · exact ⟨fun _ _ => rfl, rfl, rfl, rfl⟩
  · rw [pend_without_trigger s n hl ht]
    exact ⟨fun b hb => pendOnly_reg_awake s n b h (by simpa using hb), by simp, by simp, by simp⟩

/-- The mailbox as its source is about to pend. -/
def State.mboxFilled (s : State) (d : Word) : State :=
  ((s.on (s.flag HD_SB_STAT HD_SB_STAT.MBOX_FULL) (·.wr HD_SB_STAT HD_SB_STAT.MBOX_OVR 1)).setReg HD_SB_MBOX d).wr HD_SB_STAT HD_SB_STAT.MBOX_FULL 1

theorem mboxFilled_reg (d : Word) (b : Nat) (h1 : b ≠ HD_SB_MBOX) (h2 : b ≠ HD_SB_STAT) : (s.mboxFilled d).reg b = s.reg b := by
  rw [State.mboxFilled, reg_wr_ne _ _ _ _ _ h2, reg_setReg, if_neg h1, State.on]
  split
  · exact reg_wr_ne _ _ _ _ _ h2
  · rfl

theorem mboxFilled_word (d : Word) : (s.mboxFilled d).reg HD_SB_MBOX = d := by
  rw [State.mboxFilled, reg_wr_ne _ _ _ _ _ (by decide), reg_setReg, if_pos rfl]

theorem mboxFilled_full (d : Word) : (s.mboxFilled d).flag HD_SB_STAT HD_SB_STAT.MBOX_FULL = true := flag_wr_one _ _ _ (by decide)

theorem mboxFilled_overrun (d : Word) (h : s.flag HD_SB_STAT HD_SB_STAT.MBOX_FULL = true) :
    (s.mboxFilled d).flag HD_SB_STAT HD_SB_STAT.MBOX_OVR = true := by
  rw [State.mboxFilled, flag_wr_fld _ _ _ _ _ _ (by decide) (by decide), flag_setReg_ne _ _ _ _ _ (by decide), State.on, if_pos h]
  exact flag_wr_one _ _ _ (by decide)

@[simp] theorem on_wr_rest (c : Bool) (a : Nat) (f : Fld) (v : Nat) : { s.on c (·.wr a f v) with regs := s.regs } = s := by
  simp only [State.on]
  split <;> rfl

theorem mboxFilled_rest (d : Word) : { s.mboxFilled d with regs := s.regs } = s := on_wr_rest s _ _ _ _

theorem mboxWrite_runs (d : Word) (hq : s.quiet) (h : s.awake) (ht : s.rcd.triggers = []) (ha : s.flag (IC_SRC 145) IC_SRC.ACTIVE = false) :
    ∃ t, exec (.mboxWrite d) s = .next t ∧ t.reg HD_SB_MBOX = d ∧ t.flag HD_SB_STAT HD_SB_STAT.MBOX_FULL = true ∧
      (s.flag HD_SB_STAT HD_SB_STAT.MBOX_FULL = true → t.flag HD_SB_STAT HD_SB_STAT.MBOX_OVR = true) ∧
      t.flag (IC_SRC 145) IC_SRC.PEND = true ∧ t.sb.result = [sbOk] ∧
      State.sameBut [HD_SB_MBOX, HD_SB_STAT, IC_SRC 145] s t ∧ t.rcd = s.rcd ∧ t.fault = s.fault := by
  have hrest := mboxFilled_rest s.sbFresh d
  have hactive : (s.sbFresh.mboxFilled d).flag (IC_SRC 145) IC_SRC.ACTIVE = false := by
    simp only [State.flag, State.rd, mboxFilled_reg s.sbFresh d (IC_SRC 145) (by decide) (by decide)]
    exact ha
  have hclk : (s.sbFresh.mboxFilled d).clk = s.clk := (congrArg State.clk hrest :)
  have hrcd : (s.sbFresh.mboxFilled d).rcd = s.rcd := (congrArg State.rcd hrest :)
  have hfault : (s.sbFresh.mboxFilled d).fault = s.fault := (congrArg State.fault hrest :)
  obtain ⟨hpend, hsame, hf, hr, -⟩ := pendLevel_alone (s.sbFresh.mboxFilled d) 145 (by decide) (by decide) (by rw [hrcd]; exact ht)
    (by rw [State.awake, hclk]; exact h) hactive
  have hne : ∀ b, b ≠ IC_SRC 145 → ((s.sbFresh.mboxFilled d).pendLevel 145).reg b = (s.sbFresh.mboxFilled d).reg b := fun b hb => hsame b (by simpa using hb)
  refine ⟨((s.sbFresh.mboxFilled d).pendLevel 145).sbResult [sbOk], ?_, ?_, ?_, fun hfull => ?_, hpend, rfl, fun b hb => ?_, hr.trans hrcd, hf.trans hfault⟩
  · show done (s.sbCommand 2 d) = _
    rw [sbCommand_awake s _ _ h]
    refine done_quiet _ ?_
    show ((s.sbFresh.mboxFilled d).pendLevel 145).quiet
    rw [State.quiet, hf, hfault]
    exact hq
  · exact (hne _ (by decide)).trans (mboxFilled_word _ d)
  · rw [← mboxFilled_full s.sbFresh d]
    simp only [State.flag, State.rd, State.sbResult, updSb_reg, hne HD_SB_STAT (by decide)]
  · rw [← mboxFilled_overrun s.sbFresh d hfull]
    simp only [State.flag, State.rd, State.sbResult, updSb_reg, hne HD_SB_STAT (by decide)]
  · simp only [List.mem_cons, List.not_mem_nil, or_false, not_or] at hb
    obtain ⟨hmbox, hstat, hsrc⟩ := hb
    exact (hne b hsrc).trans (mboxFilled_reg s.sbFresh d b hmbox hstat)

end

/-- Settles O15: with the fast clock running a private command is carried out at once, on a state with nothing left to read back. -/
theorem sidebandCommands : Obligations.SidebandCommands := by
  unfold Obligations.SidebandCommands
  refine ⟨fun a s hq h ha => sbRead_runs s a hq h ha, fun s hq h => ident_runs s hq h, fun d s hq h ht ha => mboxWrite_runs s d hq h ht ha,
    fun s h => ⟨_, stopRequest_runs s h, ?_, rfl, rfl, fun b hb => ?_⟩, fun b s hq h hb hne => stopRequest_bad s b hq h hb hne, fun s hq h hidle => ?_⟩
  · exact flag_wr_one s.sbFresh _ _ (by decide)
  · exact reg_wr_ne s.sbFresh _ b _ _ (by simpa using hb)
  · obtain ⟨hfrozen, hsame, hrcd⟩ := freezeCmd_idle s.sbFresh hidle
    exact ⟨_, freezeRecorder_runs s hq h, hfrozen, rfl, hsame, hrcd⟩

end Sys2Proof.Machine

/-! PROOFS. What the sideband reads back, the common commands and the in-band interrupts (R41, R42, R44, R45). -/

namespace Sys2Proof.Machine

open Sys2Proof

section
variable (s : State)

/-! ### Waking by address match (R44, R315, R318) -/

@[simp] theorem wake_sb (m : Nat) : (s.wake m).sb = s.sb := (congrArg State.sb (wake_rest s m) :)
@[simp] theorem wake_fuses (m : Nat) : (s.wake m).fuses = s.fuses := (congrArg State.fuses (wake_rest s m) :)

theorem wake_flag (m b : Nat) (f : Fld) (h : b ≠ HD_PWR_STAT) : (s.wake m).flag b f = s.flag b f := by
  simp only [State.flag, State.rd, wake_reg s m b h]

/-- The wake source I3C is armed as HD_WAKE_EN says (R318). -/
theorem armed_i3c : 2 &&& s.armed = if s.flag HD_WAKE_EN HD_WAKE_EN.I3C then 2 else 0 := by
  have hbit : s.armed.testBit 1 = s.flag HD_WAKE_EN HD_WAKE_EN.I3C := by
    have hflag : s.flag HD_WAKE_EN HD_WAKE_EN.I3C = (s.reg HD_WAKE_EN).toNat.testBit 1 := by
      simp only [State.flag, State.rd, Fld.get, HD_WAKE_EN.I3C, Fld.width, BitVec.extractLsb'_toNat]
      rw [Nat.testBit, Nat.and_comm, Nat.and_one_is_mod]
      cases h : (s.reg HD_WAKE_EN).toNat >>> 1 % 2 == 1 <;> simp_all [bne]
    rw [hflag, State.armed, Nat.testBit_or, show (32 : Nat) = 2 ^ 5 from rfl, Nat.testBit_mod_two_pow]
    simp [show Nat.testBit 17 1 = false from rfl]
  rw [← hbit]
  refine Nat.eq_of_testBit_eq fun i => ?_
  have htwo : Nat.testBit (2 ^ 1) i = decide (1 = i) := Nat.testBit_two_pow
  rw [Nat.testBit_and, show Nat.testBit 2 i = decide (1 = i) from htwo]
  by_cases hi : 1 = i
  · subst hi
    cases s.armed.testBit 1 <;> simp [show Nat.testBit 2 1 = true from rfl]
  · cases s.armed.testBit 1 <;> simp [hi, show Nat.testBit 2 i = decide (1 = i) from htwo]

theorem wake_nap (m : Nat) (hm : m ≠ 0) (h : s.clk.fast = .nap) (hr : s.clk.sleepReq = false) :
    s.wake m = { s with clk := { s.clk with fast := .restarting } } := by
  simp [State.wake, State.restart, h, hr, hm]

theorem wake_asleep (h : s.clk.fast = .sleep) :
    s.wake 2 = if s.flag HD_WAKE_EN HD_WAKE_EN.I3C then
      { (s.wr HD_PWR_STAT HD_PWR_STAT.RESULT 1).wr HD_PWR_STAT HD_PWR_STAT.LAST_WAKE 2 with
        clk := { s.clk with fast := .restarting, sleepReq := false } } else s := by
  simp only [State.wake, h, armed_i3c]
  cases s.flag HD_WAKE_EN HD_WAKE_EN.I3C <;> simp

theorem addressMatchWake_asleep (hq : s.quiet) (h : s.clk.fast = .sleep) :
    (s.flag HD_WAKE_EN HD_WAKE_EN.I3C = true → ∃ t, exec .addressMatchWake s = .next t ∧ t.clk.fast = .restarting ∧
      t.rd HD_PWR_STAT HD_PWR_STAT.RESULT = 1 ∧ t.rd HD_PWR_STAT HD_PWR_STAT.LAST_WAKE = 2 ∧ State.sameBut [HD_PWR_STAT] s t) ∧
    (s.flag HD_WAKE_EN HD_WAKE_EN.I3C = false → exec .addressMatchWake s = .next s) := by
  have hx : exec .addressMatchWake s = .next (s.wake 2) := done_quiet (s.wake 2) (by rw [wake_fault]; exact hq)
  rw [hx, wake_asleep s h]
  refine ⟨fun hi => ?_, fun hi => by rw [hi]; rfl⟩
  rw [if_pos hi]
  refine ⟨_, rfl, rfl, ?_, ?_, fun b hb => ?_⟩
  · exact (rd_wr_fld _ _ _ _ _ _ (by decide) (by decide)).trans (rd_wr_same _ _ _ _ (by decide))
  · exact rd_wr_same _ _ _ _ (by decide)
  · have hb' : b ≠ HD_PWR_STAT := by simpa using hb
    exact (reg_wr_ne _ _ _ _ _ hb').trans (reg_wr_ne _ _ _ _ _ hb')

/-! ### Results read back (R43, R44) -/

theorem privateRead_ready (hq : s.quiet) (h : s.sb.todo = none) :
    exec .privateRead s = .next { s.wake 2 with sb := { s.sb with lastRead := s.sb.result.take s.sb.mrl, result := s.sb.result.drop s.sb.mrl } } := by
  show done s.privateRead = _
  have he : s.privateRead = { s.wake 2 with sb := { s.sb with lastRead := s.sb.result.take s.sb.mrl, result := s.sb.result.drop s.sb.mrl } } := by
    simp only [State.privateRead, State.updSb, wake_sb, h, Option.isSome_none, Bool.false_eq_true, if_false]
  rw [he]
  exact done_quiet _ ((congrArg FaultX.now (wake_fault s 2)).trans hq)

theorem privateRead_busy (hq : s.quiet) (h : s.sb.todo ≠ none) :
    exec .privateRead s = .next { s.wake 2 with sb := { s.sb with lastRead := [sbBusy] } } := by
  show done s.privateRead = _
  have he : s.privateRead = { s.wake 2 with sb := { s.sb with lastRead := [sbBusy] } } := by
    simp only [State.privateRead, State.updSb, wake_sb, Option.isSome_iff_ne_none.mpr h, if_true]
  rw [he]
  exact done_quiet _ ((congrArg FaultX.now (wake_fault s 2)).trans hq)

theorem restartDone_idle (hq : s.quiet) (h : s.clk.fast = .restarting) (hn : s.sb.todo = none) :
    exec .fastClockRestartDone s = .next { s with clk := { s.clk with fast := .run } } := by
  show done s.restartDone = _
  have he : s.restartDone = { s with clk := { s.clk with fast := .run } } := by
    simp only [State.restartDone, h, if_true, hn]
  rw [he]
  exact done_quiet _ hq

theorem restartDone_ident (x : Word) (hq : s.quiet) (h : s.clk.fast = .restarting) (hn : s.sb.todo = some (5, x)) :
    ∃ t, exec .fastClockRestartDone s = .next t ∧ t.clk.fast = .run ∧ t.sb.todo = none ∧
      t.sb.result = sbOk :: (wordBytes (s.readReg HD_TOPO).2 ++ wordBytes (s.readReg LC_STATE).2) := by
  have he : s.restartDone = (State.updSb { s with clk := { s.clk with fast := .run } } (fun b => { b with todo := none })).sbExec 5 x := by
    simp only [State.restartDone, h, if_true, hn]
  refine ⟨s.restartDone, done_quiet _ ?_, ?_, ?_, ?_⟩ <;> rw [he]
  · exact hq
  · rfl
  · rfl
  · rfl

/-! ### Common commands (R41, R42) -/

theorem direct_addressed (f : State → State) (h : s.flag HD_SB_STAT HD_SB_STAT.DA_VALID = true) : s.direct f = f s := if_pos h
theorem direct_unaddressed (f : State → State) (h : s.flag HD_SB_STAT HD_SB_STAT.DA_VALID = false) : s.direct f = s.cccNack := by
  rw [State.direct, State.hasAddr, h, if_neg Bool.false_ne_true]

/-- A command to the dynamic address of the target does what it does and raises nothing. -/
theorem done_direct (f : State → State) (h : s.flag HD_SB_STAT HD_SB_STAT.DA_VALID = true) (hq : (f s).quiet) : done (s.direct f) = .next (f s) := by
  rw [direct_addressed s f h]
  exact done_quiet _ hq

theorem done_direct_nack (f : State → State) (h : s.flag HD_SB_STAT HD_SB_STAT.DA_VALID = false) (hq : s.quiet) : done (s.direct f) = .next s.cccNack := by
  rw [direct_unaddressed s f h]
  exact done_quiet _ hq

theorem wake_ccc_quiet (m : Nat) (l : List Nat) (hq : s.quiet) : ((s.wake m).ccc l).quiet := (congrArg FaultX.now (wake_fault s m)).trans hq

theorem getstatus_bytes : s.getStatus.sb.cccBytes = [0, (if s.sb.ibiPend = 0 then 0 else 1) + (if s.sb.protErr then 32 else 0)] := by
  show [0, b2n (s.sb.ibiPend != 0) + 32 * b2n s.sb.protErr] = _
  by_cases hp : s.sb.ibiPend = 0 <;> cases s.sb.protErr <;> simp [b2n, hp]

end

/-- Settles O16: what is read back waits in the sideband's own state, which a wake leaves alone. -/
theorem sidebandReadsBack : Obligations.SidebandReadsBack := by
  unfold Obligations.SidebandReadsBack
  refine ⟨⟨privateRead_ready, privateRead_busy, fun s hq h => ?_, fun s hq h hr => ?_, addressMatchWake_asleep, restartDone_idle, restartDone_ident⟩,
    fun s hq h => ⟨?_, ?_, ?_, ?_, ?_, ⟨s.getStatus, ?_, rfl, rfl, fun _ _ => rfl, getstatus_bytes s⟩, rfl, rfl, fun _ _ => rfl⟩, fun c s hq h hc => ?_⟩
  · show done (s.wake 2) = _
    rw [wake_awake s 2 h]
    exact done_quiet s hq
  · show done (s.wake 2) = _
    rw [wake_nap s 2 (by decide) h hr]
    exact done_quiet _ hq
  · exact done_direct s (·.ccc [0x06]) h hq
  · exact done_direct s (·.ccc [0x00]) h hq
  · exact done_direct s (fun u => u.ccc (bytesOf 6 u.pid)) h hq
  · have hx := done_direct s (fun u => (u.wake 2).ccc [u.sb.mwl / 256, u.sb.mwl % 256]) h (wake_ccc_quiet s 2 _ hq)
    exact hx
  · exact done_direct s (fun u => (u.wake 2).ccc [u.sb.mrl / 256, u.sb.mrl % 256]) h (wake_ccc_quiet s 2 _ hq)
  · exact done_direct s State.getStatus h hq
  · simp only [List.mem_cons, List.not_mem_nil, or_false] at hc
    rcases hc with rfl | rfl | rfl | rfl | rfl | rfl <;> exact done_direct_nack s _ h hq

/-! ### Common commands that change the target (R41, R42) -/

section
variable (s : State)

theorem bit_zero (b : Nat) : bit b 0 = decide (b % 2 = 1) := Nat.testBit_zero b

/-- A field of HD_SB_STAT is set by a common command. -/
theorem sbStat_sameBut (f : Fld) (v : Nat) : State.sameBut [HD_SB_STAT] s (s.wr HD_SB_STAT f v) :=
  fun b hb => reg_wr_ne s _ b _ _ (by simpa using hb)

theorem sidebandReset_sameBut : State.sameBut [HD_SB_STAT] s s.sidebandReset := by
  intro b hb
  have hb' : b ≠ HD_SB_STAT := by simpa using hb
  show ((((s.wr HD_SB_STAT HD_SB_STAT.DYN_ADDR 0).wr HD_SB_STAT HD_SB_STAT.DA_VALID 0).wr HD_SB_STAT HD_SB_STAT.IBI_EN 0).wr HD_SB_STAT HD_SB_STAT.MODE 0).reg b = _
  simp only [reg_wr_ne _ _ _ _ _ hb']

theorem sidebandReset_flags : s.sidebandReset.flag HD_SB_STAT HD_SB_STAT.DA_VALID = false ∧
    s.sidebandReset.flag HD_SB_STAT HD_SB_STAT.IBI_EN = false := by
  show State.flag ((((s.wr HD_SB_STAT HD_SB_STAT.DYN_ADDR 0).wr HD_SB_STAT HD_SB_STAT.DA_VALID 0).wr HD_SB_STAT HD_SB_STAT.IBI_EN 0).wr HD_SB_STAT
    HD_SB_STAT.MODE 0) _ _ = false ∧ State.flag ((((s.wr HD_SB_STAT HD_SB_STAT.DYN_ADDR 0).wr HD_SB_STAT HD_SB_STAT.DA_VALID 0).wr HD_SB_STAT
    HD_SB_STAT.IBI_EN 0).wr HD_SB_STAT HD_SB_STAT.MODE 0) _ _ = false
  constructor <;> simp (disch := decide) only [flag_wr_fld, flag_wr_zero]

theorem dropAddr_fields : s.dropAddr.flag HD_SB_STAT HD_SB_STAT.DA_VALID = false ∧ s.dropAddr.rd HD_SB_STAT HD_SB_STAT.DYN_ADDR = 0 ∧
    State.sameBut [HD_SB_STAT] s s.dropAddr := by
  refine ⟨?_, ?_, fun b hb => ?_⟩
  · simp (disch := decide) only [State.dropAddr, State.ccc, updSb_flag, flag_wr_fld, flag_wr_zero]
  · simp (disch := decide) only [State.dropAddr, State.ccc, updSb_rd, rd_wr_fld, rd_wr_same, Nat.zero_mod]
  · have hb' : b ≠ HD_SB_STAT := by simpa using hb
    simp only [State.dropAddr, State.ccc, updSb_reg, reg_wr_ne _ _ _ _ _ hb']

/-- An address byte of right parity is taken. -/
theorem assignAddr_taken (x : Nat) (hx : x < 128) : (s.assignAddr x).flag HD_SB_STAT HD_SB_STAT.DA_VALID = true ∧
    (s.assignAddr x).rd HD_SB_STAT HD_SB_STAT.DYN_ADDR = x ∧ (s.assignAddr x).sb.nack = false ∧ State.sameBut [HD_SB_STAT] s (s.assignAddr x) := by
  have hbit : bit x 7 = false := Nat.testBit_lt_two_pow hx
  have he : s.assignAddr x = s.takeAddr x := by rw [State.assignAddr, hbit, if_neg Bool.false_ne_true]
  rw [he]
  refine ⟨?_, ?_, rfl, fun b hb => ?_⟩
  · simp (disch := decide) only [State.takeAddr, State.ccc, updSb_flag, flag_wr_fld, flag_wr_one]
  · simp (disch := decide) only [State.takeAddr, State.ccc, updSb_rd, rd_wr_fld, rd_wr_same]
    exact Nat.mod_eq_of_lt hx
  · have hb' : b ≠ HD_SB_STAT := by simpa using hb
    simp only [State.takeAddr, State.ccc, updSb_reg, reg_wr_ne _ _ _ _ _ hb']

theorem assignAddr_quiet (x : Nat) (hq : s.quiet) : (s.assignAddr x).quiet := by
  simp only [State.assignAddr]
  split <;> exact hq

/-- The three commands that assign an address, to a target they apply to: as one that was woken or not. -/
theorem assign_runs (c : Instr) (x : Nat) (hq : s.quiet)
    (h : (c = .entdaa x ∧ s.flag HD_SB_STAT HD_SB_STAT.DA_VALID = false) ∨ (c = .setdasa x ∧ s.flag HD_SB_STAT HD_SB_STAT.DA_VALID = false) ∨
      (c = .setnewda x ∧ s.flag HD_SB_STAT HD_SB_STAT.DA_VALID = true)) :
    exec c s = .next (s.assignAddr x) ∨ exec c s = .next ((s.wake 2).assignAddr x) := by
  have hwq : ((s.wake 2).assignAddr x).quiet := assignAddr_quiet _ x ((congrArg FaultX.now (wake_fault s 2)).trans hq)
  rcases h with ⟨rfl, h⟩ | ⟨rfl, h⟩ | ⟨rfl, h⟩
  · left
    show done (if s.flag HD_SB_STAT HD_SB_STAT.DA_VALID then s.cccNack else s.assignAddr x) = _
    rw [h, if_neg Bool.false_ne_true]
    exact done_quiet _ (assignAddr_quiet s x hq)
  · right
    show done (if s.flag HD_SB_STAT HD_SB_STAT.DA_VALID then s.cccNack else (s.wake 2).assignAddr x) = _
    rw [h, if_neg Bool.false_ne_true]
    exact done_quiet _ hwq
  · right
    exact done_direct s (fun u => (u.wake 2).assignAddr x) h hwq

/-- An address byte of wrong parity is refused, and remembered as a protocol error. -/
theorem entdaa_parity (x : Nat) (hq : s.quiet) (h1 : 128 ≤ x) (h2 : x < 256) (h : s.flag HD_SB_STAT HD_SB_STAT.DA_VALID = false) :
    exec (.entdaa x) s = .next { s.cccNack with sb := { s.cccNack.sb with protErr := true } } := by
  have hbit : bit x 7 = true := by
    rw [bit, Nat.testBit_eq_decide_div_mod_eq, decide_eq_true_eq]
    omega
  show done (if s.flag HD_SB_STAT HD_SB_STAT.DA_VALID then s.cccNack else s.assignAddr x) = _
  rw [h, if_neg Bool.false_ne_true, State.assignAddr, hbit, if_pos rfl]
  exact done_quiet _ hq

theorem sidebandReset_quiet (hq : s.quiet) : s.sidebandReset.quiet := hq

end

/-- Settles O17: the commands write HD_SB_STAT and the sideband's own state alone, and those that take an address from the bus wake first. -/
theorem commonCommandsWrite : Obligations.CommonCommandsWrite := by
  unfold Obligations.CommonCommandsWrite
  refine ⟨?events, ?noEvent, ?nacks, ?rstdaa, ?assign, fun x s hq h1 h2 h => entdaa_parity s x hq h1 h2 h, ?mwl, ?mrl, ?reset, ?unsupported⟩
  case events =>
    intro b s hq hb
    have hbit : bit b 0 = true := by rw [bit_zero, decide_eq_true hb]
    refine ⟨⟨(s.wr HD_SB_STAT HD_SB_STAT.IBI_EN 1).ccc [], ?_, flag_wr_one s _ _ (by decide), sbStat_sameBut s _ _⟩,
      ⟨(s.wr HD_SB_STAT HD_SB_STAT.IBI_EN 0).ccc [], ?_, flag_wr_zero s _ _ (by decide), sbStat_sameBut s _ _⟩⟩
    · show done (if bit b 0 then (s.wr HD_SB_STAT HD_SB_STAT.IBI_EN 1).ccc [] else s.ccc []) = _
      rw [if_pos hbit]
      exact done_quiet _ hq
    · show done (if bit b 0 then (s.wr HD_SB_STAT HD_SB_STAT.IBI_EN 0).ccc [] else s.ccc []) = _
      rw [if_pos hbit]
      exact done_quiet _ hq
  case noEvent =>
    intro b s hq hb
    have hbit : ¬ bit b 0 = true := by
      rw [bit_zero, decide_eq_true_eq]
      omega
    refine ⟨?_, ?_, fun _ _ => rfl⟩
    · show done (if bit b 0 then (s.wr HD_SB_STAT HD_SB_STAT.IBI_EN 1).ccc [] else s.ccc []) = _
      rw [if_neg hbit]
      exact done_quiet _ hq
    · show done (if bit b 0 then (s.wr HD_SB_STAT HD_SB_STAT.IBI_EN 0).ccc [] else s.ccc []) = _
      rw [if_neg hbit]
      exact done_quiet _ hq
  case nacks =>
    intro x s hq
    refine ⟨fun h => ⟨?_, ?_⟩, fun h => done_direct_nack s (fun u => (u.wake 2).assignAddr x) h hq, fun hx => ?_⟩
    · show done (if s.flag HD_SB_STAT HD_SB_STAT.DA_VALID then s.cccNack else s.assignAddr x) = _
      rw [if_pos h]
      exact done_quiet _ hq
    · show done (if s.flag HD_SB_STAT HD_SB_STAT.DA_VALID then s.cccNack else (s.wake 2).assignAddr x) = _
      rw [if_pos h]
      exact done_quiet _ hq
    · show done (if x ≤ 2 then s.sidebandReset.ccc [] else s.cccNack) = _
      rw [if_neg (Nat.not_le.mpr hx)]
      exact done_quiet _ hq
  case rstdaa => exact fun s hq => ⟨s.dropAddr, done_quiet _ hq, dropAddr_fields s⟩
  case assign =>
    intro c x s hq hx hc
    obtain he | he := assign_runs s c x hq hc
    · obtain ⟨hvalid, haddr, hnack, hsame⟩ := assignAddr_taken s x hx
      exact ⟨_, he, hvalid, haddr, hnack, fun b hb => hsame b (fun h => hb (by simp_all))⟩
    · obtain ⟨hvalid, haddr, hnack, hsame⟩ := assignAddr_taken (s.wake 2) x hx
      refine ⟨_, he, hvalid, haddr, hnack, fun b hb => ?_⟩
      simp only [List.mem_cons, List.not_mem_nil, or_false, not_or] at hb
      exact (hsame b (by simpa using hb.1)).trans (wake_reg s 2 b hb.2)
  case mwl => exact fun n s hq => ⟨(s.updSb (fun b => { b with mwl := lengthOf b.mwl n })).ccc [], done_quiet _ hq, rfl, rfl, fun _ _ => rfl⟩
  case mrl => exact fun n s hq => ⟨(s.updSb (fun b => { b with mrl := lengthOf b.mrl n })).ccc [], done_quiet _ hq, rfl, rfl, fun _ _ => rfl⟩
  case reset =>
    intro c b s hq hc
    obtain ⟨hvalid, hibi⟩ := sidebandReset_flags s
    rcases hc with ⟨rfl, hb⟩ | rfl
    · refine ⟨s.sidebandReset.ccc [], ?_, hvalid, hibi, rfl, sidebandReset_sameBut s, rfl, rfl, rfl⟩
      show done (if b ≤ 2 then s.sidebandReset.ccc [] else s.cccNack) = _
      rw [if_pos hb]
      exact done_quiet _ hq
    · exact ⟨s.sidebandReset, done_quiet _ hq, hvalid, hibi, rfl, sidebandReset_sameBut s, rfl, rfl, rfl⟩
  case unsupported => exact fun c s hq => ⟨done_quiet s.cccNack hq, rfl⟩

/-! ### In-band interrupts (R45) -/

section
variable (s : State)

/-- Without its lowest bit an odd number keeps the other bits. -/
theorem testBit_pred_of_odd (a k : Nat) (h : a % 2 = 1) : (a - 1).testBit k = (a.testBit k && decide (k ≠ 0)) := by
  cases k with
  | zero => simp only [Nat.testBit_zero, ne_eq, not_true, decide_false, Bool.and_false, decide_eq_false_iff_not]; omega
  | succ k => rw [Nat.testBit_succ, Nat.testBit_succ, show (a - 1) / 2 = a / 2 by omega]; simp

/-- A bit that is cleared reads 0, and every other bit as before. -/
theorem bit_setBit_false (v i j : Nat) (h : bit v i = true) : bit (setBit v i false) j = (bit v j && decide (j ≠ i)) := by
  simp only [bit] at h ⊢
  have hr : v % 2 ^ i < 2 ^ i := Nat.mod_lt _ (Nat.two_pow_pos i)
  have hodd : v / 2 ^ i % 2 = 1 := by simpa [Nat.testBit_eq_decide_div_mod_eq] using h
  have hv : v = 2 ^ i * (v / 2 ^ i) + v % 2 ^ i := (Nat.div_add_mod v (2 ^ i)).symm
  have hset : setBit v i false = 2 ^ i * (v / 2 ^ i - 1) + v % 2 ^ i := by
    obtain ⟨q, hq⟩ : ∃ q, v / 2 ^ i = q + 1 := Nat.exists_eq_succ_of_ne_zero (fun e => by rw [e] at hodd; cases hodd)
    rw [setBit, h, hq, Nat.add_sub_cancel]
    have hv' : v = 2 ^ i * q + v % 2 ^ i + 2 ^ i := by
      rw [Nat.add_right_comm, ← Nat.mul_succ]
      rwa [hq] at hv
    exact Nat.sub_eq_of_eq_add hv'
  rw [hset, Nat.testBit_two_pow_mul_add _ hr]
  nth_rw 3 [hv]
  rw [Nat.testBit_two_pow_mul_add _ hr]
  split
  next hji => simp [Nat.ne_of_lt hji]
  next hji =>
    rw [testBit_pred_of_odd _ _ hodd]
    congr 2
    exact propext (by omega)

/-- The class that goes out: the lowest pending one (R45). -/
theorem ibiRequest_first (lost : Bool) (i : Nat) (hi : i < 5) (h : bit s.sb.ibiPend i = true) (hlow : ∀ j, j < i → bit s.sb.ibiPend j = false) :
    s.ibiRequest lost = if s.flag HD_SB_STAT HD_SB_STAT.IBI_EN && !lost then
      (s.wr HD_SB_STAT HD_SB_STAT.IBI_CLASS (i + 1)).updSb (fun b => { b with ibiPend := setBit b.ibiPend i false }) else s := by
  have hfind : (List.range 5).find? (fun i => bit s.sb.ibiPend i) = some i := by
    rw [List.find?_range_eq_some]
    exact ⟨h, List.mem_range.mpr hi, fun j hj => by simp [hlow j hj]⟩
  rw [State.ibiRequest, hfind]

theorem ibiRequest_none (lost : Bool) (h : s.flag HD_SB_STAT HD_SB_STAT.IBI_EN = false ∨ ∀ j, j < 5 → bit s.sb.ibiPend j = false) :
    s.ibiRequest lost = s := by
  rw [State.ibiRequest]
  split
  next i hi =>
    obtain hen | hnone := h
    · rw [hen, Bool.false_and, if_neg Bool.false_ne_true]
    · have hbit : bit s.sb.ibiPend i = true := List.find?_some hi
      rw [hnone i (List.mem_range.mp (List.mem_of_find?_eq_some hi))] at hbit
      cases hbit
  next => rfl

end

/-- Settles O18: the lowest pending class goes out, and a class that was cleared leaves the others as they were. -/
theorem ibiDelivers : Obligations.IbiDelivers := by
  unfold Obligations.IbiDelivers
  refine ⟨fun lost s hq h => ?_, fun i s hq hi h hlow hen => ⟨?_, ?_⟩⟩
  · show done (s.ibiRequest lost) = _
    rw [ibiRequest_none s lost h]
    exact done_quiet s hq
  · have he := ibiRequest_first s false i hi h hlow
    rw [hen] at he
    refine ⟨s.ibiRequest false, done_quiet _ ?_, ?_, fun j => ?_, fun b hb => ?_⟩ <;> rw [he]
    · exact hq
    · show State.rd (s.wr HD_SB_STAT HD_SB_STAT.IBI_CLASS (i + 1)) _ _ = _
      rw [rd_wr_same _ _ _ _ (by decide)]
      exact Nat.mod_eq_of_lt (by simp only [HD_SB_STAT.IBI_CLASS, Fld.width]; omega)
    · exact bit_setBit_false _ _ _ h
    · exact reg_wr_ne s _ b _ _ (by simpa using hb)
  · show done (s.ibiRequest true) = _
    rw [ibiRequest_first s true i hi h hlow, hen]
    exact done_quiet s hq

end Sys2Proof.Machine

/-! PROOFS. The debug port: the TAP's instructions, register access and the diagnostic session (R46, R47). -/

namespace Sys2Proof.Machine

open Sys2Proof

section
variable (s : State)

/-! ### Instructions (R46) -/

/-- An instruction that is not permitted: bypass, and DENIED_TAP, below its last value, one higher. -/
theorem tapDenied_shut (h : s.rd LC_STATE LC_STATE.DENIED_TAP + 1 < 0xFFFFFFFF) : s.tapDenied = s.tapShut :=
  bumpFld_counts (s.tapIr 0xFF) LC_STATE LC_STATE.DENIED_TAP h

theorem done_tapDenied (hq : s.quiet) (h : s.rd LC_STATE LC_STATE.DENIED_TAP + 1 < 0xFFFFFFFF) : done s.tapDenied = .next s.tapShut := by
  rw [tapDenied_shut s h]
  exact done_quiet _ hq

theorem endSession_ends : s.endSession.flag LC_STATE LC_STATE.SESSION = false ∧ State.sameBut [LC_STATE] s s.endSession :=
  ⟨flag_wr_zero s _ _ (by decide), fun b hb => reg_wr_ne s _ b _ _ (by simpa using hb)⟩

/-- A read looks at nothing of the TAP's own state. -/
@[simp] theorem tapIr_readReg (ir a : Nat) : (s.tapIr ir).readReg a = s.readReg a := rfl

/-! ### DBG_AUTH (R46, R47) -/

/-- Bit 24 of the operand sends a word through DBG_AUTH's data register. -/
theorem throughAuth_add {a : Nat} (ha : a < 2 ^ 24) : throughAuth (2 ^ 24 + a) = true := by
  rw [throughAuth, Nat.testBit_two_pow_add_eq, Nat.testBit_lt_two_pow ha]
  rfl

theorem not_throughAuth {a : Nat} (ha : a < 2 ^ 24) : throughAuth a = false := Nat.testBit_lt_two_pow ha

theorem auth_address {a : Nat} (ha : a < 2 ^ 24) : (2 ^ 24 + a) % 2 ^ 24 = a := by rw [Nat.add_mod_left, Nat.mod_eq_of_lt ha]

theorem dbgRegWrite_auth {a : Nat} (d : Word) (ha : a < 2 ^ 24) : exec (.dbgRegWrite (2 ^ 24 + a) d) s = done (s.withAuth (·.authIn a d)) := by
  show execDbgRegWrite (2 ^ 24 + a) d s = _
  rw [execDbgRegWrite, if_pos (throughAuth_add ha), auth_address ha]

theorem dbgRegRead_auth {a : Nat} (ha : a < 2 ^ 24) : exec (.dbgRegRead (2 ^ 24 + a)) s = done (s.withAuth (·.authOut a)) := by
  show done (if throughAuth (2 ^ 24 + a) then s.withAuth (·.authOut ((2 ^ 24 + a) % 2 ^ 24)) else s.dbgRegRead ((2 ^ 24 + a) % 2 ^ 24)) = _
  rw [if_pos (throughAuth_add ha), auth_address ha]

theorem withAuth_field (f : State → State) (h : s.fuses.lcState = 2) : s.withAuth f = f (s.tapIr 0x11) := if_pos h
theorem withAuth_elsewhere (f : State → State) (h : s.fuses.lcState ≠ 2) : s.withAuth f = s.tapDenied := if_neg h

/-! ### DBG_REG (R37, R47) -/

theorem dbgRegRead_reg {a : Nat} (ha : a < 2 ^ 24) : exec (.dbgRegRead a) s = done (s.dbgRegRead a) := by
  show done (if throughAuth a then s.withAuth (·.authOut (a % 2 ^ 24)) else s.dbgRegRead (a % 2 ^ 24)) = _
  rw [not_throughAuth ha, if_neg Bool.false_ne_true, Nat.mod_eq_of_lt ha]

theorem dbgOpen_of_ne (h : s.fuses.lcState ≠ 2) : s.dbgOpen = true := by simpa [State.dbgOpen] using h
theorem not_dbgOpen_of_field (h : s.fuses.lcState = 2) : s.dbgOpen = false := by simp [State.dbgOpen, h]

/-- Outside FIELD a read without a side effect captures what the host would read. -/
theorem dbgRegRead_open {a : Nat} (h : s.fuses.lcState ≠ 2) (hs : sideRead a = false) : s.dbgRegRead a = s.tapAnswer (s.readReg a).1 (s.readReg a).2 := by
  simp only [sideRead, Bool.or_eq_false_iff, Bool.and_eq_false_iff, decide_eq_false_iff_not, beq_eq_false_iff_ne] at hs
  obtain ⟨hclaim, hdata⟩ := hs
  rw [State.dbgRegRead, if_pos (dbgOpen_of_ne s h), State.dbgRead]
  simp only [if_neg (not_and_or.mpr hclaim), if_neg hdata]

/-- In a session a read captures what the sideband may read. -/
theorem dbgRegRead_session {a : Nat} (h : s.fuses.lcState = 2) (hs : s.flag LC_STATE LC_STATE.SESSION = true) :
    s.dbgRegRead a = s.tapAnswer (s.sbRead a).1 (s.sbRead a).2 := by
  rw [State.dbgRegRead, not_dbgOpen_of_field s h, if_neg Bool.false_ne_true, State.session, if_pos hs]

theorem dbgRegRead_shut {a : Nat} (h : s.fuses.lcState = 2) (hs : s.flag LC_STATE LC_STATE.SESSION = false) : s.dbgRegRead a = s.tapDenied := by
  rw [State.dbgRegRead, not_dbgOpen_of_field s h, if_neg Bool.false_ne_true, State.session, hs, if_neg Bool.false_ne_true]

theorem dbgRegWrite_open {a : Nat} (d : Word) (ha : a < 2 ^ 24) (h : s.fuses.lcState ≠ 2) (hr : s.reservedWrite a d = false) :
    exec (.dbgRegWrite a d) s = done (if s.unreached a then s.tapAnswer rTimeout 0 else (s.hostWrite a d).2.tapAnswer (s.hostWrite a d).1 0) := by
  show execDbgRegWrite a d s = _
  rw [execDbgRegWrite, not_throughAuth ha, if_neg Bool.false_ne_true, if_pos (dbgOpen_of_ne s h), Nat.mod_eq_of_lt ha, hr, if_neg Bool.false_ne_true]
  split <;> rfl

theorem dbgRegWrite_field {a : Nat} (d : Word) (ha : a < 2 ^ 24) (h : s.fuses.lcState = 2) :
    exec (.dbgRegWrite a d) s = done (if s.flag LC_STATE LC_STATE.SESSION then s.tapAnswer rDenied 0 else s.tapDenied) := by
  show execDbgRegWrite a d s = _
  rw [execDbgRegWrite, not_throughAuth ha, if_neg Bool.false_ne_true, not_dbgOpen_of_field s h, if_neg Bool.false_ne_true, State.session]
  split <;> rfl

/-- A register that takes the word has no reserved bit in its way, whatever kind of write it is. -/
theorem reservedWrite_of_takes {a : Nat} {d : Word} (h : s.takes a d) : s.reservedWrite a d = false := by
  obtain ⟨r, hr⟩ := Option.isSome_iff_exists.mp h.2.1
  rcases row_place s a r hr with ⟨o, hp⟩ | ⟨t, o, hp⟩ | ⟨t, w, o, hp⟩ <;> simp only [State.reservedWrite, hp, h.1]

/-- A target that does not answer is a tile's: neither a claim register nor the recorder's read data. -/
theorem sideRead_of_unreached {a : Nat} (h : s.unreached a = true) : sideRead a = false := by
  have hlo : ¬ a < 0x100000 := by
    intro hlt
    simp [State.unreached, tileAt, place, hlt] at h
  simp only [sideRead, Bool.or_eq_false_iff, Bool.and_eq_false_iff, decide_eq_false_iff_not, beq_eq_false_iff_ne]
  omega

end

/-- Settles O19: an instruction writes the TAP's own state, and the session's bit of LC_STATE where it ends or opens one. -/
theorem tapInstructions : Obligations.TapInstructions := by
  unfold Obligations.TapInstructions
  refine ⟨fun s hq => done_quiet _ hq, fun s hq => done_quiet _ hq, fun s hq => ⟨(s.tapIr 0x01).endSession, done_quiet _ hq, rfl, endSession_ends _⟩,
    fun s hq => ⟨s.endSession, done_quiet _ hq, (endSession_ends s).1, (endSession_ends s).2, rfl⟩, fun s hq h hd => ?opens, fun s hq h hd => ?noGrant,
    fun a d s hq h ha => ⟨fun hin => ?keyIn, fun h1 h2 => ?chalOut, fun hout => ?noKey⟩, fun a d s hq h hd ha => ⟨?readShut, ?writeShut⟩⟩
  case opens =>
    have he : s.dbgAuth = ((s.tapIr 0x11).updTap (fun t => { t with diagOk := false })).wr LC_STATE LC_STATE.SESSION 1 := by
      rw [State.dbgAuth, withAuth_field s _ h]
      exact if_pos hd
    refine ⟨s.dbgAuth, done_quiet _ ?_, ?_, ?_, fun b hb => ?_⟩ <;> rw [he]
    · exact hq
    · exact flag_wr_one _ _ _ (by decide)
    · rfl
    · exact reg_wr_ne _ _ b _ _ (by simpa using hb)
  case noGrant =>
    have he : s.dbgAuth = s.tapIr 0x11 := by
      rw [State.dbgAuth, withAuth_field s _ h]
      exact if_neg (by rw [show (s.tapIr 0x11).tap.diagOk = s.tap.diagOk from rfl, hd]; exact Bool.false_ne_true)
    show done s.dbgAuth = _
    rw [he]
    exact done_quiet _ hq
  case keyIn =>
    rw [dbgRegWrite_auth s d ha, withAuth_field s _ h, State.authIn, if_pos hin]
    exact done_quiet _ hq
  case chalOut =>
    rw [dbgRegRead_auth s ha, withAuth_field s _ h, State.authOut, if_pos ⟨h1, h2⟩, tapIr_readReg]
    exact done_quiet _ hq
  case noKey =>
    rw [dbgRegWrite_auth s d ha, withAuth_field s _ h, State.authIn, if_neg (by omega)]
    exact done_quiet _ hq
  case readShut =>
    rw [dbgRegRead_auth s ha, withAuth_elsewhere s _ h]
    exact done_tapDenied s hq hd
  case writeShut =>
    rw [dbgRegWrite_auth s d ha, withAuth_elsewhere s _ h]
    exact done_tapDenied s hq hd

/-- Settles O20: where DBG_REG is open it reads and writes as the host's port does, and a session reads as the sideband does. -/
theorem debugAccess : Obligations.DebugAccess := by
  unfold Obligations.DebugAccess
  refine ⟨fun a s hq ha h hs => ?_, fun a s hq ha h hs => ?_, fun a d s r hq ha h ht ho hr => ?_, fun a d s hq ha h hs => ?_,
    fun a d s hq ha h hres hun => ⟨?_, ?_⟩, fun s x => ⟨rfl, rfl, fun _ _ => rfl⟩⟩
  · rw [dbgRegRead_reg s ha, dbgRegRead_open s h hs]
    exact done_quiet _ hq
  · rw [dbgRegRead_reg s ha, dbgRegRead_session s h hs]
    exact done_quiet _ hq
  · rw [dbgRegWrite_open s d ha h (reservedWrite_of_takes s ht), ht.2.2.2.1, if_neg Bool.false_ne_true,
      hostWrite_plain s a d ho r hr ht.2.2.1 ht.2.2.2.2]
    exact done_quiet _ hq
  · rw [dbgRegWrite_field s d ha h, if_pos hs]
    exact done_quiet _ hq
  · rw [dbgRegWrite_open s d ha h hres, if_pos hun]
    exact done_quiet _ hq
  · rw [dbgRegRead_reg s ha, dbgRegRead_open s h (sideRead_of_unreached s hun), State.readReg, if_pos hun]
    exact done_quiet _ hq

/-- Settles O21: the maker's scan draws a free value; an instruction that is not permitted is bypass and one more in DENIED_TAP. -/
theorem debugScanRuns : Obligations.DebugScanRuns := by
  unfold Obligations.DebugScanRuns
  refine ⟨fun s hq h => ?_, fun s hq hd => ⟨fun h0 h3 => ?_, fun h => ?_, fun h hs a d ha => ⟨?_, ?_⟩⟩⟩
  · show done (if s.fuses.lcState = 0 ∨ s.fuses.lcState = 3 then s.makerScan else s.tapDenied) = _
    rw [if_pos h]
    exact done_quiet _ hq
  · show done (if s.fuses.lcState = 0 ∨ s.fuses.lcState = 3 then s.makerScan else s.tapDenied) = _
    rw [if_neg (not_or.mpr ⟨h0, h3⟩)]
    exact done_tapDenied s hq hd
  · show done s.dbgAuth = _
    rw [State.dbgAuth, withAuth_elsewhere s _ h]
    exact done_tapDenied s hq hd
  · rw [dbgRegRead_reg s ha, dbgRegRead_shut s h hs]
    exact done_tapDenied s hq hd
  · rw [dbgRegWrite_field s d ha h, hs, if_neg Bool.false_ne_true]
    exact done_tapDenied s hq hd

end Sys2Proof.Machine

/-! PROOFS. WL_LIMIT, the challenge and its answer, and the commands of the life cycle (R27, R50-R53). -/

namespace Sys2Proof.Machine

open Sys2Proof

/-! ### Where a well's registers lie -/

theorem place_wlBase {u w off : Nat} (hu : u < 96) (hw : w < 15) (hoff : off < 0x100) : place (wlBase u w + off) = .well u w off := by
  have hsub : wlBase u w + off - 0x100000 = u * 0x10000 + (0x1000 + 0x100 * w + off) := by simp only [wlBase, phBase]; omega
  have hdiv : (u * 0x10000 + (0x1000 + 0x100 * w + off)) / 0x10000 = u := by omega
  have hmod : (u * 0x10000 + (0x1000 + 0x100 * w + off)) % 0x10000 = 0x1000 + 0x100 * w + off := by omega
  have hlo : ¬ wlBase u w + off < 0x100000 := by simp only [wlBase, phBase]; omega
  have hhi : wlBase u w + off < 0xF00000 := by simp only [wlBase, phBase]; omega
  have h1 : ¬ 0x1000 + 0x100 * w + off < 0x1000 := by omega
  have h2 : 0x1000 + 0x100 * w + off < 0x1F00 := by omega
  have h3 : (0x1000 + 0x100 * w + off - 0x1000) / 0x100 = w := by omega
  have h4 : (0x1000 + 0x100 * w + off - 0x1000) % 0x100 = off := by omega
  simp only [place, if_neg hlo, if_pos hhi, hsub, hdiv, hmod, phPlace, if_neg h1, if_pos h2, h3, h4]

/-- No line of a well's block grows with the wafer. -/
theorem findRow_well (n off : Nat) : findRow wellRows n off = findRow wellRows 0 off := by
  have hfix : ∀ r ∈ wellRows, r.perTile = 0 := by decide
  unfold findRow
  refine List.find?_congr fun r hr => ?_
  simp only [RegRow.holds, hfix r hr, Nat.zero_mul]

theorem rowOf_well {s : State} {u w off : Nat} (hu : u < 96) (hw : w < 15) (hoff : off < 0x100) (h : (s.rowOf (wlBase u w + off)).isSome = true) :
    s.rowOf (wlBase u w + off) = findRow wellRows 0 off := by
  simp only [State.rowOf, place_wlBase hu hw hoff, findRow_well] at h ⊢
  split_ifs at h ⊢
  · rfl
  · cases h

/-! ### The well's limit (R27) -/

/-- The line of WL_LIMIT: CONT_LIM is writable and nothing else. -/
def limitRow : RegRow := ⟨2, 0x11, 1, 0, 1, 0, 0xFFFF, 0x0, 0x0, 0xFFFFFFFFFFFF0000, 0⟩

theorem limitRow_takes (a : Nat) (d x : Word) : WL_LIMIT.CONT_LIM.get (plainWord limitRow a d x) = WL_LIMIT.CONT_LIM.get d := by
  refine congrArg BitVec.toNat (BitVec.eq_of_getLsbD_eq ?_)
  intro i hi
  have h16 : i < 16 := hi
  have hmasks : ∀ j < 16, (0xFFFF#64).getLsbD j = true ∧ (0xFFFFFFFFFFFF0000#64).getLsbD j = false ∧ (0xFFFFFFFFFFFFFFFF#64).getLsbD j = true := by decide
  obtain ⟨hrw, hkeep, hall⟩ := hmasks i h16
  simp [WL_LIMIT.CONT_LIM, plainWord, limitRow, writeCounter, cntMask, Fld.width, h16, hrw, hkeep, hall]

/-- Settles O14: the write of WL_LIMIT is the plain one, and CONT_LIM is the writable part of its line. -/
theorem limitWriteStores : Obligations.LimitWriteStores := by
  unfold Obligations.LimitWriteStores
  intro u w d s hq ha hu hw ht
  have hrow : s.rowOf (WL_LIMIT u w) = some limitRow := rowOf_well hu hw (by decide) ht.2.1
  have hplain : s.plainWrite (WL_LIMIT u w) d = s.setReg (WL_LIMIT u w) (plainWord limitRow (WL_LIMIT u w) d (s.reg (WL_LIMIT u w))) := by
    simp only [State.plainWrite, hrow]
  have hx : exec (.wlLimitWrite u w d) s = hostOp s (WL_LIMIT u w) d (·.plainWrite (WL_LIMIT u w) d) := rfl
  rw [hx, hostOp_next s _ d _ ht (by rw [hplain]; exact ha) (by rw [hplain]; exact hq), hplain]
  refine ⟨_, rfl, ?_, ?_, rfl, rfl⟩
  · rw [answered_rd, rd_setReg_same, limitRow_takes]
  · intro b hb
    have hne : b ≠ WL_LIMIT u w := by simpa using hb
    rw [answered_reg, reg_setReg, if_neg hne]

/-! ### A record that finds its place (R357) -/

section
variable (s : State)

/-- With a flash and an empty queue a record is the only one queued. -/
theorem record_alone (type trig : Nat) (l : List Word) (hf : s.flag ER_STAT ER_STAT.NOFLASH = false) (hr : s.rcd.queue = []) :
    s.record type trig l = (s.setQueue [{ type := type, payload := l, trig := trig, ao := s.reg HD_AO_TIME, beat := s.clk.beat }]).restart := by
  rw [State.record, enq_place s _ hf (hasPlace_empty s _ hr), hr, List.nil_append]

@[simp] theorem restart_rd (b : Nat) (g : Fld) : s.restart.rd b g = s.rd b g := by simp only [State.rd, restart_reg]
@[simp] theorem restart_flag (b : Nat) (g : Fld) : s.restart.flag b g = s.flag b g := by simp only [State.flag, restart_rd]
@[simp] theorem restart_lc : s.restart.lc = s.lc := (congrArg State.lc (restart_rest s) :)
@[simp] theorem restart_tap : s.restart.tap = s.tap := (congrArg State.tap (restart_rest s) :)
@[simp] theorem restart_fuses : s.restart.fuses = s.fuses := (congrArg State.fuses (restart_rest s) :)
@[simp] theorem restart_rcd : s.restart.rcd = s.rcd := (congrArg State.rcd (restart_rest s) :)
@[simp] theorem restart_freeCtr : s.restart.freeCtr = s.freeCtr := (congrArg State.freeCtr (restart_rest s) :)
@[simp] theorem setQueue_lc (q : List Rec) : (s.setQueue q).lc = s.lc := rfl
@[simp] theorem setQueue_tap (q : List Rec) : (s.setQueue q).tap = s.tap := rfl
@[simp] theorem setQueue_fuses (q : List Rec) : (s.setQueue q).fuses = s.fuses := rfl
@[simp] theorem setQueue_fault (q : List Rec) : (s.setQueue q).fault = s.fault := rfl
theorem setQueue_rd (q : List Rec) (b : Nat) (g : Fld) (h : b ≠ ER_STAT) : (s.setQueue q).rd b g = s.rd b g := by simp only [State.rd, setQueue_reg _ _ _ h]
theorem setQueue_flag_fld (q : List Rec) (g : Fld) (hg : g.ok = true) (h : ER_STAT.QUEUE.apart g = true) :
    (s.setQueue q).flag ER_STAT g = s.flag ER_STAT g := flag_wr_fld _ _ _ _ _ _ hg h

@[simp] theorem ibi_rd (c b : Nat) (g : Fld) : (s.ibi c).rd b g = s.rd b g := by simp only [State.rd, ibi_reg]
@[simp] theorem ibi_flag (c b : Nat) (g : Fld) : (s.ibi c).flag b g = s.flag b g := by simp only [State.flag, ibi_rd]
@[simp] theorem ibi_lc (c : Nat) : (s.ibi c).lc = s.lc := (congrArg State.lc (ibi_rest s c) :)
@[simp] theorem ibi_tap (c : Nat) : (s.ibi c).tap = s.tap := (congrArg State.tap (ibi_rest s c) :)
@[simp] theorem ibi_fuses (c : Nat) : (s.ibi c).fuses = s.fuses := (congrArg State.fuses (ibi_rest s c) :)
@[simp] theorem ibi_rcd (c : Nat) : (s.ibi c).rcd = s.rcd := (congrArg State.rcd (ibi_rest s c) :)


/-! ### Rejections counted (R53) -/

@[simp] theorem countFail_lc : s.countFail.lc = s.lc := by simp only [State.countFail]; split_ifs <;> rfl
@[simp] theorem countFail_tap : s.countFail.tap = s.tap := by simp only [State.countFail]; split_ifs <;> rfl
@[simp] theorem countFail_fuses : s.countFail.fuses = s.fuses := by simp only [State.countFail]; split_ifs <;> rfl
@[simp] theorem countFail_rcd : s.countFail.rcd = s.rcd := by simp only [State.countFail]; split_ifs <;> rfl

theorem countFail_reg (b : Nat) (h : b ≠ LC_STATE) : s.countFail.reg b = s.reg b := by
  simp only [State.countFail]
  split_ifs <;> exact reg_wr_ne _ _ _ _ _ h

theorem countFail_fails (h : s.rd LC_STATE LC_STATE.FAILS < 255) : s.countFail.rd LC_STATE LC_STATE.FAILS = s.rd LC_STATE LC_STATE.FAILS + 1 := by
  have hw : (s.wr LC_STATE LC_STATE.FAILS (min 255 (s.rd LC_STATE LC_STATE.FAILS + 1))).rd LC_STATE LC_STATE.FAILS = s.rd LC_STATE LC_STATE.FAILS + 1 := by
    rw [rd_wr_same _ _ _ _ (by decide), show LC_STATE.FAILS.width = 8 from rfl]
    omega
  simp only [State.countFail]
  split_ifs <;> exact hw

theorem countFail_eighth (h : s.rd LC_STATE LC_STATE.FAILS = 7) : { src := 3 } ∈ s.countFail.fault.now := by
  simp [State.countFail, h, State.raiseW]

/-! ### The end of a submission (R53, R352) -/

/-- A submission has its result and is no longer being verified; the nonce is used. -/
def State.answeredAuth (s : State) (result : Nat) : State :=
  ((s.lcResult result).wr LC_AUTH_STAT LC_AUTH_STAT.BUSY 0).updLc (fun l => { l with nonce := none, verifying := false })

/-- The result is reported, or counted as a rejection. -/
def State.countedAuth (s : State) (result : Nat) : State :=
  if result = 2 then (s.answeredAuth result).ibi 4 else (s.answeredAuth result).countFail

theorem countedAuth_accepted : s.countedAuth 2 = (s.answeredAuth 2).ibi 4 := rfl
theorem countedAuth_rejected (n : Nat) (h : n ≠ 2) : s.countedAuth n = (s.answeredAuth n).countFail := if_neg h

theorem countedAuth_reg (n b : Nat) (h1 : b ≠ LC_AUTH_STAT) (h2 : b ≠ LC_STATE) : (s.countedAuth n).reg b = s.reg b := by
  have ha : (s.answeredAuth n).reg b = s.reg b := (reg_wr_ne _ _ _ _ _ h1).trans (reg_wr_ne _ _ _ _ _ h1)
  unfold State.countedAuth
  split_ifs
  · rw [ibi_reg, ha]
  · rw [countFail_reg _ _ h2, ha]

theorem countedAuth_auth (n : Nat) : (s.countedAuth n).reg LC_AUTH_STAT = (s.answeredAuth n).reg LC_AUTH_STAT := by
  unfold State.countedAuth
  split_ifs
  · exact ibi_reg _ _ _
  · exact countFail_reg _ _ (by decide)

@[simp] theorem countedAuth_lc (n : Nat) : (s.countedAuth n).lc = { s.lc with nonce := none, verifying := false } := by
  unfold State.countedAuth
  split_ifs
  · exact ibi_lc _ _
  · exact countFail_lc _

@[simp] theorem countedAuth_rcd (n : Nat) : (s.countedAuth n).rcd = s.rcd := by
  unfold State.countedAuth
  split_ifs
  · exact ibi_rcd _ _
  · exact countFail_rcd _

@[simp] theorem countedAuth_fuses (n : Nat) : (s.countedAuth n).fuses = s.fuses := by
  unfold State.countedAuth
  split_ifs
  · exact ibi_fuses _ _
  · exact countFail_fuses _

@[simp] theorem countedAuth_tap (n : Nat) : (s.countedAuth n).tap = s.tap := by
  unfold State.countedAuth
  split_ifs
  · exact ibi_tap _ _
  · exact countFail_tap _

theorem countedAuth_purpose (n : Nat) : (s.countedAuth n).lcPurpose = s.lcPurpose := by
  rw [State.lcPurpose, State.rd, countedAuth_auth]
  exact (rd_wr_fld _ _ _ _ _ _ (by decide) (by decide)).trans (rd_wr_fld _ _ _ _ _ _ (by decide) (by decide))

/-- The queued record and the raise of a submission that ends. -/
theorem endSubmit_alone (n : Nat) (hf : s.flag ER_STAT ER_STAT.NOFLASH = false) (hr : s.rcd.queue = []) :
    ∃ q, s.endSubmit n = ((s.countedAuth n).setQueue q).restart.raiseW { src := 2, sub := s.lcPurpose } := by
  have hf' : (s.countedAuth n).flag ER_STAT ER_STAT.NOFLASH = false := by
    rw [State.flag, State.rd, countedAuth_reg _ _ _ (by decide) (by decide)]; exact hf
  have he : s.endSubmit n = ((s.countedAuth n).record 7 0 [(s.countedAuth n).reg LC_AUTH_STAT]).lcEvent (s.countedAuth n).lcPurpose := rfl
  rw [he, record_alone _ _ _ _ hf' (by rw [countedAuth_rcd]; exact hr), countedAuth_purpose]
  exact ⟨_, rfl⟩

section
variable (hf : s.flag ER_STAT ER_STAT.NOFLASH = false) (hr : s.rcd.queue = [])
include hf hr

theorem endSubmit_lc (n : Nat) : (s.endSubmit n).lc = { s.lc with nonce := none, verifying := false } := by
  obtain ⟨q, he⟩ := endSubmit_alone s n hf hr
  rw [he, raiseW_lc, restart_lc, setQueue_lc, countedAuth_lc]

theorem endSubmit_fuses (n : Nat) : (s.endSubmit n).fuses = s.fuses := by
  obtain ⟨q, he⟩ := endSubmit_alone s n hf hr
  rw [he, raiseW_fuses, restart_fuses, setQueue_fuses, countedAuth_fuses]

theorem endSubmit_event (n : Nat) : { src := 2, sub := s.lcPurpose } ∈ (s.endSubmit n).fault.now := by
  obtain ⟨q, he⟩ := endSubmit_alone s n hf hr
  rw [he]
  exact List.mem_append_right _ (List.mem_singleton_self _)

theorem endSubmit_rd (n b : Nat) (g : Fld) (h : b ≠ ER_STAT) : (s.endSubmit n).rd b g = (s.countedAuth n).rd b g := by
  obtain ⟨q, he⟩ := endSubmit_alone s n hf hr
  rw [he, raiseW_rd, restart_rd, setQueue_rd _ _ _ _ h]

theorem endSubmit_result (n : Nat) (hn : n < 16) : (s.endSubmit n).rd LC_AUTH_STAT LC_AUTH_STAT.RESULT = n := by
  rw [endSubmit_rd s hf hr _ _ _ (by decide), State.rd, countedAuth_auth]
  have hres : (s.lcResult n).rd LC_AUTH_STAT LC_AUTH_STAT.RESULT = n % 2 ^ 4 := rd_wr_same _ _ _ _ (by decide)
  exact (rd_wr_fld _ _ _ _ _ _ (by decide) (by decide)).trans (hres.trans (Nat.mod_eq_of_lt hn))

theorem endSubmit_accepted_fails : (s.endSubmit 2).rd LC_STATE LC_STATE.FAILS = s.rd LC_STATE LC_STATE.FAILS := by
  rw [endSubmit_rd s hf hr _ _ _ (by decide), countedAuth_accepted, ibi_rd]
  exact (rd_wr_ne _ _ _ _ _ _ (by decide)).trans (rd_wr_ne _ _ _ _ _ _ (by decide))

theorem endSubmit_ready (n : Nat) : (s.endSubmit n).flag ER_STAT ER_STAT.READY = s.flag ER_STAT ER_STAT.READY := by
  obtain ⟨q, he⟩ := endSubmit_alone s n hf hr
  rw [he, raiseW_flag, restart_flag, setQueue_flag_fld _ _ _ (by decide) (by decide), State.flag, State.rd,
    countedAuth_reg _ _ _ (by decide) (by decide)]
  rfl

end

theorem answeredAuth_fails (n : Nat) : (s.answeredAuth n).rd LC_STATE LC_STATE.FAILS = s.rd LC_STATE LC_STATE.FAILS :=
  (rd_wr_ne _ _ _ _ _ _ (by decide)).trans (rd_wr_ne _ _ _ _ _ _ (by decide))

section
variable (hf : s.flag ER_STAT ER_STAT.NOFLASH = false) (hr : s.rcd.queue = [])
include hf hr

theorem endSubmit_rejected_fails (n : Nat) (hn : n ≠ 2) (h : s.rd LC_STATE LC_STATE.FAILS < 255) :
    (s.endSubmit n).rd LC_STATE LC_STATE.FAILS = s.rd LC_STATE LC_STATE.FAILS + 1 := by
  rw [endSubmit_rd s hf hr _ _ _ (by decide), countedAuth_rejected s n hn, countFail_fails _ (by rw [answeredAuth_fails]; exact h), answeredAuth_fails]

theorem endSubmit_eighth (n : Nat) (hn : n ≠ 2) (h : s.rd LC_STATE LC_STATE.FAILS = 7) : { src := 3 } ∈ (s.endSubmit n).fault.now := by
  obtain ⟨q, he⟩ := endSubmit_alone s n hf hr
  have h8 : { src := 3 } ∈ (s.answeredAuth n).countFail.fault.now := countFail_eighth _ ((answeredAuth_fails s n).trans h)
  rw [he]
  refine List.mem_append_left _ ?_
  rw [restart_fault, setQueue_fault, countedAuth_rejected s n hn]
  exact h8

end

/-! ### What an accepted purpose brings (R47-R49, R362) -/

@[simp] theorem grantPurpose_nonce (p : Nat) : (s.grantPurpose p).lc.nonce = s.lc.nonce := by
  simp only [State.grantPurpose]; split_ifs <;> rfl
@[simp] theorem grantPurpose_verifying (p : Nat) : (s.grantPurpose p).lc.verifying = s.lc.verifying := by
  simp only [State.grantPurpose]; split_ifs <;> rfl
@[simp] theorem grantPurpose_fault (p : Nat) : (s.grantPurpose p).fault = s.fault := by
  simp only [State.grantPurpose]; split_ifs <;> rfl
@[simp] theorem grantPurpose_fuses (p : Nat) : (s.grantPurpose p).fuses = s.fuses := by
  simp only [State.grantPurpose]; split_ifs <;> rfl

theorem grantPurpose_result (p : Nat) : (s.grantPurpose p).rd LC_AUTH_STAT LC_AUTH_STAT.RESULT = s.rd LC_AUTH_STAT LC_AUTH_STAT.RESULT := by
  simp only [State.grantPurpose]
  split_ifs
  · exact rd_wr_fld _ _ _ _ _ _ (by decide) (by decide)
  · rfl
  · exact rd_wr_ne _ _ _ _ _ _ (by decide)
  · rfl

theorem grantPurpose_fails (p : Nat) : (s.grantPurpose p).rd LC_STATE LC_STATE.FAILS = s.rd LC_STATE LC_STATE.FAILS := by
  simp only [State.grantPurpose]
  split_ifs
  · exact rd_wr_ne _ _ _ _ _ _ (by decide)
  · rfl
  · exact rd_wr_ne _ _ _ _ _ _ (by decide)
  · rfl

theorem grantPurpose_return : (s.grantPurpose 1).lc.fuseOp = .returnWipe ∧ (s.grantPurpose 1).flag LC_AUTH_STAT LC_AUTH_STAT.BUSY = true :=
  ⟨rfl, flag_wr_one _ _ _ (by decide)⟩
theorem grantPurpose_reentry : (s.grantPurpose 2).lc.reentry = true := rfl
theorem grantPurpose_clear : (s.grantPurpose 3).flag ER_STAT ER_STAT.CLEAR_ARMED = true := flag_wr_one (s.updLc _) _ _ (by decide)
theorem grantPurpose_diag : (s.grantPurpose 4).tap.diagOk = true := rfl

end

/-- Settles O24: each way a submission can end is one end of it, with what an accepted purpose brings on top. -/
theorem submissionEnds : Obligations.SubmissionEnds := by
  unfold Obligations.SubmissionEnds
  intro s hv hf hr hfails
  refine ⟨s.submitVerified, rfl, ?_⟩
  have hlc := endSubmit_lc s hf hr
  have hev := endSubmit_event s hf hr
  have hfu := endSubmit_fuses s hf hr
  cases hp : s.purposeOk s.lcPurpose with
  | false =>
    have he : s.submitVerified = s.endSubmit 6 := by simp [State.submitVerified, hv, hp]
    rw [he, hlc]
    refine ⟨rfl, rfl, hev 6, hfu 6, by simp, fun _ => ⟨?_, ?_, ?_⟩⟩
    · simpa using endSubmit_result s hf hr 6 (by decide)
    · exact endSubmit_rejected_fails s hf hr 6 (by decide) hfails
    · exact endSubmit_eighth s hf hr 6 (by decide)
  | true =>
    cases hs : s.signatureOk s.lcPurpose with
    | false =>
      have he : s.submitVerified = s.endSubmit 3 := by simp [State.submitVerified, hv, hp, hs]
      rw [he, hlc]
      refine ⟨rfl, rfl, hev 3, hfu 3, by simp, fun _ => ⟨?_, ?_, ?_⟩⟩
      · simpa using endSubmit_result s hf hr 3 (by decide)
      · exact endSubmit_rejected_fails s hf hr 3 (by decide) hfails
      · exact endSubmit_eighth s hf hr 3 (by decide)
    | true =>
      have he : s.submitVerified = (s.endSubmit 2).grantPurpose s.lcPurpose := by simp [State.submitVerified, hv, hp, hs]
      rw [he]
      refine ⟨by rw [grantPurpose_nonce, hlc], by rw [grantPurpose_verifying, hlc], by rw [grantPurpose_fault]; exact hev 2,
        by rw [grantPurpose_fuses]; exact hfu 2, fun _ _ => ⟨?_, ?_, ?_, ?_, ?_, ?_⟩, by simp⟩
      · rw [grantPurpose_result]; exact endSubmit_result s hf hr 2 (by decide)
      · rw [grantPurpose_fails]; exact endSubmit_accepted_fails s hf hr
      · intro h1; rw [h1]; exact grantPurpose_return _
      · intro h2; rw [h2]; exact grantPurpose_reentry _
      · intro h3; rw [h3]; exact grantPurpose_clear _
      · intro h4; rw [h4]; exact grantPurpose_diag _

/-! ### Commands of the life cycle (R10, R50, R53) -/

section
variable {s : State}

/-- A host write whose register takes the word: its effect, written out, and one answer. -/
theorem hostOp_effect {c : Instr} {a : Nat} {d : Word} {f : State → State} {u : State} (hx : exec c s = hostOp s a d f) (ht : s.takes a d)
    (hf : f s = u) (ha : u.alone) (hq : u.quiet) : exec c s = .next (u.answered rOkay 0) := by
  subst hf
  exact hx.trans (hostOp_next s a d f ht ha hq)

theorem challenge_code (p : Nat) : (⟨7, 0⟩ : Fld).get (BitVec.ofNat 64 (p * 256 + 1)) = 1 := by
  simp only [Fld.get, Fld.width, BitVec.extractLsb'_toNat, BitVec.toNat_ofNat]
  omega

theorem challenge_purpose {p : Nat} (hp : p < 256) : (⟨15, 8⟩ : Fld).get (BitVec.ofNat 64 (p * 256 + 1)) = p := by
  simp only [Fld.get, Fld.width, BitVec.extractLsb'_toNat, BitVec.toNat_ofNat, Nat.shiftRight_eq_div_pow]
  omega

theorem lcCmdWrite_challenge {p : Nat} (hp : p < 256) (hb : s.lc.fuseOp = .none) :
    s.lcCmdWrite (BitVec.ofNat 64 (p * 256 + 1)) false = s.challenge p := by
  simp [State.lcCmdWrite, hb, challenge_code p, challenge_purpose hp]

theorem exec_challenge {p : Nat} (hp : p < 256) (hb : s.lc.fuseOp = .none) :
    exec (.challenge (BitVec.ofNat 64 (p * 256 + 1))) s = hostOp s LC_CMD (BitVec.ofNat 64 (p * 256 + 1)) (fun _ => s.challenge p) := by
  have hx : exec (.challenge (BitVec.ofNat 64 (p * 256 + 1))) s = hostOp s LC_CMD (BitVec.ofNat 64 (p * 256 + 1))
      (·.lcCmdWrite (BitVec.ofNat 64 (p * 256 + 1)) false) := rfl
  rw [hx]
  simp only [hostOp, lcCmdWrite_challenge hp hb]

/-- The challenge waits for its nonce. -/
def State.challenged (s : State) (p : Nat) : State :=
  (((s.wr LC_AUTH_STAT LC_AUTH_STAT.PURPOSE p).wr LC_AUTH_STAT LC_AUTH_STAT.ABORT 0).updLc (fun l => { l with nonce := none, waiting := true })).lcResult 0

theorem challengeCmd_locked (p : Nat) (h : 8 ≤ s.rd LC_STATE LC_STATE.FAILS) : s.challengeCmd p = s.lcResult 5 := if_pos h

theorem challengeCmd_open (p : Nat) (h : s.rd LC_STATE LC_STATE.FAILS < 8) : s.challengeCmd p =
    if (s.challenged p).flag ER_STAT ER_STAT.READY then (s.challenged p).makeNonce Config.freeBits else s.challenged p := if_neg (by omega)

theorem challenged_reg (p b : Nat) (h : b ≠ LC_AUTH_STAT) : (s.challenged p).reg b = s.reg b :=
  (reg_wr_ne _ _ _ _ _ h).trans ((reg_wr_ne _ _ _ _ _ h).trans (reg_wr_ne _ _ _ _ _ h))

theorem challenged_ready (p : Nat) : (s.challenged p).flag ER_STAT ER_STAT.READY = s.flag ER_STAT ER_STAT.READY := by
  rw [State.flag, State.rd, challenged_reg _ _ (by decide)]; rfl

theorem challenged_purpose {p : Nat} (hp : p < 256) : (s.challenged p).rd LC_AUTH_STAT LC_AUTH_STAT.PURPOSE = p := by
  have hw : (s.wr LC_AUTH_STAT LC_AUTH_STAT.PURPOSE p).rd LC_AUTH_STAT LC_AUTH_STAT.PURPOSE = p % 2 ^ 8 := rd_wr_same _ _ _ _ (by decide)
  exact (rd_wr_fld _ _ _ _ _ _ (by decide) (by decide)).trans
    ((rd_wr_fld (s.wr LC_AUTH_STAT LC_AUTH_STAT.PURPOSE p) _ _ _ _ _ (by decide) (by decide)).trans (hw.trans (Nat.mod_eq_of_lt hp)))

theorem makeNonce_result (f : Nat → BitVec 384) : (s.makeNonce f).rd LC_AUTH_STAT LC_AUTH_STAT.RESULT = 1 := rd_wr_same _ _ _ _ (by decide)

theorem makeNonce_purpose (f : Nat → BitVec 384) : (s.makeNonce f).rd LC_AUTH_STAT LC_AUTH_STAT.PURPOSE = s.rd LC_AUTH_STAT LC_AUTH_STAT.PURPOSE :=
  rd_wr_fld _ _ _ _ _ _ (by decide) (by decide)

theorem makeNonce_reg (f : Nat → BitVec 384) (b : Nat) (h : b ≠ LC_AUTH_STAT) : (s.makeNonce f).reg b = s.reg b := reg_wr_ne _ _ _ _ _ h

/-- A challenge that is answered at once has a fresh nonce for its purpose. -/
theorem challengeCmd_ready (p : Nat) (h : s.rd LC_STATE LC_STATE.FAILS < 8) (hr : s.flag ER_STAT ER_STAT.READY = true) :
    s.challengeCmd p = (s.challenged p).makeNonce Config.freeBits := by
  rw [challengeCmd_open p h, challenged_ready, hr, if_pos rfl]

theorem challengeCmd_waits (p : Nat) (h : s.rd LC_STATE LC_STATE.FAILS < 8) (hr : s.flag ER_STAT ER_STAT.READY = false) :
    s.challengeCmd p = s.challenged p := by
  rw [challengeCmd_open p h, challenged_ready, hr, if_neg Bool.false_ne_true]

theorem challenge_idle (p : Nat) (h : s.lc.verifying = false) : s.challenge p = s.challengeCmd p := by rw [State.challenge, h]; rfl
theorem challenge_supersedes (p : Nat) (h : s.lc.verifying = true) : s.challenge p = (s.endSubmit 4).challengeCmd p := by rw [State.challenge, h]; rfl

end

/-- Settles O22: the challenge waits for its nonce, which is made once the recorder is READY; a superseded submission ends first. -/
theorem challengeAnswers : Obligations.ChallengeAnswers := by
  unfold Obligations.ChallengeAnswers
  refine ⟨fun p s hp hb hv ht hfails hready hf hr => ?_, fun p s hq ha hp hb hv ht => ⟨fun h hready => ?_, fun h hready => ?_, fun h => ?_⟩⟩
  · have hcount : (s.endSubmit 4).rd LC_STATE LC_STATE.FAILS = s.rd LC_STATE LC_STATE.FAILS + 1 :=
      endSubmit_rejected_fails s hf hr 4 (by decide) (by omega)
    refine yieldsAnswered_of_takes (exec_challenge hp hb) ht ?_
    rw [challenge_supersedes p hv, challengeCmd_ready p (by omega) ((endSubmit_ready s hf hr 4).trans hready)]
    refine ⟨makeNonce_result _, (makeNonce_purpose _).trans (challenged_purpose hp), rfl, ?_, ?_, endSubmit_event s hf hr 4⟩
    · show (s.endSubmit 4).lc.verifying = false
      rw [endSubmit_lc s hf hr]
    · rw [State.rd, makeNonce_reg _ _ (by decide), challenged_reg _ _ (by decide)]
      exact hcount
  · have hx := hostOp_effect (exec_challenge hp hb) ht ((challenge_idle p hv).trans (challengeCmd_ready p h hready)) ha hq
    refine ⟨_, hx, makeNonce_result (s := s.challenged p) Config.freeBits, (makeNonce_purpose (s := s.challenged p) Config.freeBits).trans (challenged_purpose hp), rfl, rfl, fun b hb' => ?_, rfl, rfl⟩
    have hne : b ≠ LC_AUTH_STAT := by simpa using hb'
    exact (makeNonce_reg Config.freeBits b hne).trans (challenged_reg _ _ hne)
  · have hx := hostOp_effect (exec_challenge hp hb) ht ((challenge_idle p hv).trans (challengeCmd_waits p h hready)) ha hq
    refine ⟨_, hx, rd_wr_same _ _ _ _ (by decide), rfl, rfl, fun b hb' => ?_⟩
    exact challenged_reg _ _ (by simpa using hb')
  · have hx := hostOp_effect (exec_challenge hp hb) ht ((challenge_idle p hv).trans (challengeCmd_locked p h)) ha hq
    refine ⟨_, hx, rd_wr_same _ _ _ _ (by decide), rfl, fun b hb' => ?_⟩
    exact reg_wr_ne _ _ _ _ _ (by simpa using hb')

section
variable {s : State}

/-! ### SUBMIT, CANCEL and the expiry (R10, R53) -/

theorem lcCmd_submit : (⟨7, 0⟩ : Fld).get 2#64 = 2 := by decide
theorem lcCmd_cancel : (⟨7, 0⟩ : Fld).get 3#64 = 3 := by decide
theorem lcCmd_provision : (⟨7, 0⟩ : Fld).get 16#64 = 16 := by decide
theorem lcCmd_enterField : (⟨7, 0⟩ : Fld).get 17#64 = 17 := by decide

theorem lcCmdWrite_submit (hb : s.lc.fuseOp = .none) (hi : s.flag LC_AUTH_STAT LC_AUTH_STAT.BUSY = false) :
    s.lcCmdWrite 0x02 false = s.submitCmd := by
  simp [State.lcCmdWrite, State.lcBusy, lcCmd_submit, hb, hi]

theorem lcCmdWrite_cancel (hb : s.lc.fuseOp = .none) : s.lcCmdWrite 0x03 false = s.cancelCmd false := by
  simp [State.lcCmdWrite, lcCmd_cancel, hb]

theorem lcCmdWrite_cancel_late : s.lcCmdWrite 0x03 true = s.cancelCmd true := by simp [State.lcCmdWrite, lcCmd_cancel]

theorem lcCmdWrite_provision (hb : s.lc.fuseOp = .none) (hi : s.flag LC_AUTH_STAT LC_AUTH_STAT.BUSY = false) :
    s.lcCmdWrite 0x10 false = s.provisionCmd := by
  simp [State.lcCmdWrite, State.lcBusy, lcCmd_provision, hb, hi]

theorem lcCmdWrite_enterField (hb : s.lc.fuseOp = .none) (hi : s.flag LC_AUTH_STAT LC_AUTH_STAT.BUSY = false) :
    s.lcCmdWrite 0x11 false = s.enterFieldCmd := by
  simp [State.lcCmdWrite, State.lcBusy, lcCmd_enterField, hb, hi]

/-- A submission of the pending nonce is being verified. -/
def State.submitted (s : State) : State := ((s.wr LC_AUTH_STAT LC_AUTH_STAT.BUSY 1).lcResult 0).updLc (fun l => { l with verifying := true })

/-- The pending nonce is void. -/
def State.cancelled (s : State) : State :=
  (((s.lcResult 0).wr LC_AUTH_STAT LC_AUTH_STAT.ABORT 1).wr LC_AUTH_STAT LC_AUTH_STAT.BUSY 0).updLc
    (fun l => { l with nonce := none, waiting := false, verifying := false })

theorem submitCmd_pending (h : s.lc.nonce.isSome = true) : s.submitCmd = s.submitted := by
  obtain ⟨x, hx⟩ := Option.isSome_iff_exists.mp h
  simp only [State.submitCmd, hx, State.submitted]

theorem submitted_reg (b : Nat) (h : b ≠ LC_AUTH_STAT) : s.submitted.reg b = s.reg b := (reg_wr_ne _ _ _ _ _ h).trans (reg_wr_ne _ _ _ _ _ h)

theorem submitted_busy : s.submitted.flag LC_AUTH_STAT LC_AUTH_STAT.BUSY = true :=
  (flag_wr_fld _ _ _ _ _ _ (by decide) (by decide)).trans (flag_wr_one s _ _ (by decide))

theorem cancelled_reg (b : Nat) (h : b ≠ LC_AUTH_STAT) : s.cancelled.reg b = s.reg b :=
  (reg_wr_ne _ _ _ _ _ h).trans ((reg_wr_ne _ _ _ _ _ h).trans (reg_wr_ne _ _ _ _ _ h))

theorem cancelled_abort : s.cancelled.rd LC_AUTH_STAT LC_AUTH_STAT.ABORT = 1 :=
  (rd_wr_fld _ _ _ _ _ _ (by decide) (by decide)).trans (rd_wr_same (s.lcResult 0) _ _ _ (by decide))

theorem cancelled_result : s.cancelled.rd LC_AUTH_STAT LC_AUTH_STAT.RESULT = 0 :=
  (rd_wr_fld _ _ _ _ _ _ (by decide) (by decide)).trans
    ((rd_wr_fld (s.lcResult 0) _ _ _ _ _ (by decide) (by decide)).trans (rd_wr_same s _ _ _ (by decide)))

theorem cancelCmd_pending (x : Bool) (h : s.lc.nonce.isSome = true) : s.cancelCmd x = s.cancelled := if_pos (.inl h)

theorem cancelCmd_late (h : s.lc.nonce = none) (hw : s.lc.waiting = false) (hr : s.rd LC_AUTH_STAT LC_AUTH_STAT.RESULT = 2) :
    s.cancelCmd true = s.wr LC_AUTH_STAT LC_AUTH_STAT.ABORT 2 := by
  simp [State.cancelCmd, h, hw, hr]

end

/-- Settles O23: a nonce is submitted once, or cancelled, or expires. -/
theorem nonceServesOnce : Obligations.NonceServesOnce := by
  unfold Obligations.NonceServesOnce
  refine ⟨fun s hq ha hb hi ht hn => ?_, fun s hq ha hb ht hn => ?_, fun s hq ha ht hn hw hr => ?_, fun s hq hn hv => ?_, fun s hq hv => ?_⟩
  · have hx : exec .submit s = hostOp s LC_CMD 0x02 (·.lcCmdWrite 0x02 false) := rfl
    refine ⟨_, hostOp_effect hx ht ((lcCmdWrite_submit hb hi).trans (submitCmd_pending hn)) ha hq, submitted_busy, rfl, rfl, fun b h => ?_⟩
    exact submitted_reg b (by simpa using h)
  · have hx : exec (.cancel false) s = hostOp s LC_CMD 0x03 (·.lcCmdWrite 0x03 false) := rfl
    refine ⟨_, hostOp_effect hx ht ((lcCmdWrite_cancel hb).trans (cancelCmd_pending false hn)) ha hq, rfl, rfl, cancelled_abort, cancelled_result, fun b h => ?_⟩
    exact cancelled_reg b (by simpa using h)
  · have hx : exec (.cancel true) s = hostOp s LC_CMD 0x03 (·.lcCmdWrite 0x03 true) := rfl
    refine ⟨_, hostOp_effect hx ht (lcCmdWrite_cancel_late.trans (cancelCmd_late hn hw hr)) ha hq, ?_, ?_, rfl, fun b h => ?_⟩
    · exact (rd_wr_fld _ _ _ _ _ _ (by decide) (by decide)).trans hr
    · exact rd_wr_same _ _ _ _ (by decide)
    · exact reg_wr_ne _ _ _ _ _ (by simpa using h)
  · have he : s.nonceExpiry = (s.lcResult 0).updLc (fun l => { l with nonce := none }) := if_pos ⟨hn, hv⟩
    have hx : exec .nonceExpiry s = .next s.nonceExpiry := done_quiet _ (by rw [he]; exact hq)
    rw [hx, he]
    exact ⟨_, rfl, rfl, rd_wr_same s _ _ _ (by decide), fun b h => reg_wr_ne s _ _ _ _ (by simpa using h)⟩
  · have he : s.nonceExpiry = s := if_neg (by simp [hv])
    show done s.nonceExpiry = _
    rw [he]
    exact done_quiet s hq

/-! ### Provisioning (R48-R50) -/

section
variable {s : State}

theorem blow_reg (op : FuseOp) (b : Nat) (h : b ≠ LC_AUTH_STAT) : (s.blow op).reg b = s.reg b :=
  (reg_wr_ne _ _ _ _ _ h).trans ((reg_wr_ne _ _ _ _ _ h).trans (reg_wr_ne _ _ _ _ _ h))

theorem blow_busy (op : FuseOp) : (s.blow op).flag LC_AUTH_STAT LC_AUTH_STAT.BUSY = true :=
  (flag_wr_fld _ _ _ _ _ _ (by decide) (by decide)).trans
    ((flag_wr_fld _ _ _ _ _ _ (by decide) (by decide)).trans (flag_wr_one s _ _ (by decide)))

theorem lcRefuse_reg (b : Nat) (h : b ≠ LC_AUTH_STAT) : s.lcRefuse.reg b = s.reg b := (reg_wr_ne _ _ _ _ _ h).trans (reg_wr_ne _ _ _ _ _ h)
theorem lcRefuse_purpose : s.lcRefuse.rd LC_AUTH_STAT LC_AUTH_STAT.PURPOSE = 0 := rd_wr_same _ _ _ _ (by decide)
theorem lcRefuse_result : s.lcRefuse.rd LC_AUTH_STAT LC_AUTH_STAT.RESULT = 6 :=
  (rd_wr_fld _ _ _ _ _ _ (by decide) (by decide)).trans (rd_wr_same s _ _ _ (by decide))

theorem blow_sameBut (op : FuseOp) : State.sameBut [LC_AUTH_STAT] s ((s.blow op).answered rOkay 0) := fun b h => blow_reg op b (by simpa using h)
theorem lcRefuse_sameBut : State.sameBut [LC_AUTH_STAT] s (s.lcRefuse.answered rOkay 0) := fun b h => lcRefuse_reg b (by simpa using h)

theorem stageWrite_open (n : Nat) (d : Word) (h : s.fuses.lcState = 0 ∨ (s.fuses.lcState = 3 ∧ s.lc.reentry = true)) :
    s.stageWrite n d = (s.setReg (LC_STAGE n) d).updLc (fun l => { l with staged := setBit l.staged n true }) := by
  have ho : s.stageOpen = true := by
    rcases h with h | ⟨h, hr⟩ <;> simp [State.stageOpen, *]
  rw [State.stageWrite, if_pos ho]

theorem stageWrite_shut (n : Nat) (d : Word) (h : s.fuses.lcState = 1 ∨ s.fuses.lcState = 2) : s.stageWrite n d = s := by
  have ho : s.stageOpen = false := by
    rcases h with h | h <;> simp [State.stageOpen, h]
  rw [State.stageWrite, ho, if_neg Bool.false_ne_true]

theorem exec_lcStageWrite {n : Nat} (d : Word) (hn : n < 22) : exec (.lcStageWrite n d) s = hostOp s (LC_STAGE n) d (·.stageWrite n d) := by
  show execLcStageWrite n d s = _
  rw [execLcStageWrite, if_pos hn]

end

/-- Settles O25: fuse programming begins where R50 allows it, and elsewhere only LC_AUTH_STAT shows the refusal. -/
theorem provisioningSteps : Obligations.ProvisioningSteps := by
  unfold Obligations.ProvisioningSteps
  refine ⟨fun s hq ha hb hi ht => ?_, fun s hq ha hb hi ht => ?_, fun n d s hq ha hn ht => ⟨fun h => ?_, fun h => ?_⟩⟩
  · have hx : exec .provisionCommit s = hostOp s LC_CMD 0x10 (·.lcCmdWrite 0x10 false) := rfl
    have hend {u : State} (hu : s.provisionCmd = u) (hua : u.alone) (huq : u.quiet) : exec .provisionCommit s = .next (u.answered rOkay 0) :=
      hostOp_effect hx ht ((lcCmdWrite_provision hb hi).trans hu) hua huq
    refine ⟨fun h0 hs => ⟨_, hend (u := s.blow .provision) (if_pos ⟨h0, hs⟩) ha hq, rfl, blow_busy .provision, blow_sameBut .provision⟩, fun h => ?_⟩
    refine ⟨_, hend (u := s.lcRefuse) (if_neg (by omega)) ha hq, rfl, lcRefuse_result, lcRefuse_purpose, ?_, lcRefuse_sameBut⟩
    exact congrArg LC_STATE.FAILS.get (lcRefuse_reg LC_STATE (by decide))
  · have hx : exec .enterField s = hostOp s LC_CMD 0x11 (·.lcCmdWrite 0x11 false) := rfl
    have hend {u : State} (hu : s.enterFieldCmd = u) (hua : u.alone) (huq : u.quiet) : exec .enterField s = .next (u.answered rOkay 0) :=
      hostOp_effect hx ht ((lcCmdWrite_enterField hb hi).trans hu) hua huq
    refine ⟨fun h1 => ⟨_, hend (u := s.blow .field) (if_pos h1) ha hq, rfl, blow_busy .field, blow_sameBut .field⟩, fun h3 hr hs => ?_, fun h => ?_⟩
    · have he : s.enterFieldCmd = s.blow .reentryField := by simp [State.enterFieldCmd, h3, hr, hs]
      exact ⟨_, hend he ha hq, rfl, blow_busy .reentryField, blow_sameBut .reentryField⟩
    · have he : s.enterFieldCmd = s.lcRefuse := by rcases h with h | h <;> simp [State.enterFieldCmd, h]
      exact ⟨_, hend he ha hq, rfl, lcRefuse_result, lcRefuse_sameBut⟩
  · refine ⟨_, hostOp_effect (exec_lcStageWrite d hn) ht (stageWrite_open n d h) ha hq, ?_, ?_, fun b hb => ?_⟩
    · exact (reg_setReg s _ _ _).trans (if_pos rfl)
    · show (setBit s.lc.staged n true).testBit n = true
      simp [setBit]
    · exact (reg_setReg s _ _ _).trans (if_neg (by simpa using hb))
  · exact hostOp_effect (exec_lcStageWrite d hn) ht (stageWrite_shut n d h) ha hq

end Sys2Proof.Machine

/-! PROOFS. What the end of fuse programming leaves (R48-R50). -/

namespace Sys2Proof.Machine

open Sys2Proof

section
variable (s : State)

/-! ### What a counter that sticks keeps of the recorder (R12, R354) -/

/-- A field of ER_STAT that counts no lost trigger. -/
def erKept (g : Fld) : Bool := g.ok && ER_STAT.LOST.apart g && ER_STAT.SAT.apart g

@[simp] theorem restart_queue : s.restart.rcd.queue = s.rcd.queue := by rw [restart_rcd]
@[simp] theorem wake_rcd (m : Nat) : (s.wake m).rcd = s.rcd := (congrArg State.rcd (wake_rest s m) :)

@[simp] theorem fireSat_queue : s.fireSat.rcd.queue = s.rcd.queue := by
  simp only [State.fireSat]
  split
  · rfl
  · split <;> rfl

@[simp] theorem heldOff_queue : s.heldOff.rcd.queue = s.rcd.queue := by
  simp only [State.heldOff, State.on]
  split_ifs <;> simp

@[simp] theorem fireTrigger_queue (n : Nat) (o : Bool) (r : Word) : (s.fireTrigger n o r).rcd.queue = s.rcd.queue := by
  simp only [State.fireTrigger]
  split
  · rfl
  · split_ifs
    · rfl
    · exact heldOff_queue s
    · rfl

@[simp] theorem pend_queue (n : Nat) : (s.pend n).rcd.queue = s.rcd.queue := by
  simp only [State.pend, State.on]
  split_ifs <;> simp

@[simp] theorem stuck_queue (a : Nat) : (s.stuck a).rcd.queue = s.rcd.queue := by
  simp only [State.stuck]
  split_ifs
  · rfl
  · exact pend_queue _ _

@[simp] theorem bump_queue (a : Nat) : (s.bump a).rcd.queue = s.rcd.queue := by
  simp only [State.bump]
  split_ifs
  · rfl
  · exact stuck_queue _ _
  · rfl

theorem pendOnly_rd (n b : Nat) (g : Fld) (h1 : b ≠ IC_SRC n) (h2 : b ≠ HD_PWR_STAT) : (s.pendOnly n).rd b g = s.rd b g := by
  simp only [State.rd, pendOnly_reg _ _ _ h1 h2]

section
variable (g : Fld) (hg : erKept g = true)
include hg

theorem heldOff_erKept : s.heldOff.rd ER_STAT g = s.rd ER_STAT g := by
  simp only [erKept, Bool.and_eq_true] at hg
  obtain ⟨⟨hok, hlost⟩, hsat⟩ := hg
  have hbits (u : State) (a b : Nat) : ((u.wr ER_STAT ER_STAT.LOST a).wr ER_STAT ER_STAT.SAT b).rd ER_STAT g = u.rd ER_STAT g := by
    rw [rd_wr_fld _ _ _ _ _ _ hok hsat, rd_wr_fld _ _ _ _ _ _ hok hlost]
  have hsatd (u : State) (v : Nat) : ((u.wr IC_SAT_ADDR IC_SAT_ADDR.ADDR v).pendOnly 148).rd ER_STAT g = u.rd ER_STAT g := by
    rw [pendOnly_rd _ _ _ _ (by decide) (by decide), rd_wr_ne _ _ _ _ _ _ (by decide)]
  have hfire (u : State) : u.fireSat.rd ER_STAT g = u.rd ER_STAT g := by simp only [State.rd, fireSat_reg]
  simp only [State.heldOff, State.on]
  split_ifs
  · rfl
  · exact hbits _ _ _
  · rw [hfire, hsatd, hbits]
  · rw [hsatd, hbits]
  · exact rd_wr_fld _ _ _ _ _ _ hok hlost

theorem fireTrigger_erKept (n : Nat) (o : Bool) (r : Word) : (s.fireTrigger n o r).rd ER_STAT g = s.rd ER_STAT g := by
  simp only [State.fireTrigger]
  split
  · rfl
  · split_ifs
    · rfl
    · exact heldOff_erKept s g hg
    · rfl

theorem pend_erKept (n : Nat) (hn : n < 512) : (s.pend n).rd ER_STAT g = s.rd ER_STAT g := by
  have hp : (s.pendOnly n).rd ER_STAT g = s.rd ER_STAT g := pendOnly_rd s n ER_STAT g (icSrc_ne_erStat hn).symm (by decide)
  simp only [State.pend, State.on]
  split_ifs
  · rfl
  · rw [fireTrigger_erKept _ g hg, hp]
  · exact hp

theorem bump_erKept (a : Nat) (ha : a ≠ ER_STAT) : (s.bump a).rd ER_STAT g = s.rd ER_STAT g := by
  simp only [State.bump, State.stuck]
  split_ifs
  · rfl
  · rw [rd_wr_ne _ _ _ _ _ _ ha.symm, rd_wr_ne _ _ _ _ _ _ ha.symm]
  · rw [pend_erKept _ g hg 148 (by decide), rd_wr_ne _ _ _ _ _ _ (by decide), rd_wr_ne _ _ _ _ _ _ ha.symm, rd_wr_ne _ _ _ _ _ _ ha.symm]
  · exact rd_wr_ne _ _ _ _ _ _ ha.symm

end

/-! ### Ports that follow the life cycle (R367) -/

/-- What a move of the life cycle keeps while the ports follow it. -/
def State.lcView (s : State) : Lc × List Rec × Bool × Word := (s.lc, s.rcd.queue, s.flag ER_STAT ER_STAT.NOFLASH, s.reg LC_AUTH_STAT)

theorem bump_clk_lcView : (s.bump HD_CLK).lcView = s.lcView := by
  have hlc : (s.bump HD_CLK).lc = s.lc := (congrArg State.lc (bump_rest s HD_CLK) :)
  have hflag : (s.bump HD_CLK).flag ER_STAT ER_STAT.NOFLASH = s.flag ER_STAT ER_STAT.NOFLASH := by
    simp only [State.flag, bump_erKept s ER_STAT.NOFLASH (by decide) HD_CLK (by decide)]
  have hreg : (s.bump HD_CLK).reg LC_AUTH_STAT = s.reg LC_AUTH_STAT := bump_reg s HD_CLK LC_AUTH_STAT (by decide) (by decide)
  simp only [State.lcView, hlc, hflag, hreg, bump_queue]

theorem wr_lcView (a : Nat) (f : Fld) (v : Nat) (h1 : ER_STAT ≠ a) (h2 : LC_AUTH_STAT ≠ a) : (s.wr a f v).lcView = s.lcView := by
  simp only [State.lcView, flag_wr_ne _ _ _ _ _ _ h1, reg_wr_ne _ _ _ _ _ h2, wr_lc, wr_rcd]

@[simp] theorem sourceLost_lcView : s.sourceLost.lcView = s.lcView := by
  simp only [State.sourceLost]
  split
  · exact (bump_clk_lcView _).trans (wr_lcView s HD_CLK HD_CLK.MODE ckHoldover (by decide) (by decide))
  · rfl

theorem setPort_lcView (n v : Nat) (hn : n < 4) : (s.setPort n v).lcView = s.lcView := by
  have h1 : ER_STAT ≠ CL_PORT n := by simp only [ER_STAT, CL_PORT]; omega
  have h2 : LC_AUTH_STAT ≠ CL_PORT n := by simp only [LC_AUTH_STAT, CL_PORT]; omega
  exact (wr_lcView _ CL_STAT _ _ (by decide) (by decide)).trans (wr_lcView s (CL_PORT n) _ _ h1 h2)

theorem clearPort_lcView (n v : Nat) (hn : n < 4) : (s.clearPort n v).lcView = s.lcView := by
  simp only [State.clearPort]
  split
  · exact (sourceLost_lcView _).trans (setPort_lcView s n v hn)
  · exact setPort_lcView s n v hn

/-- What every element of a list keeps that lies below a bound, the list of those keeps. -/
theorem each_range_keeps {β : Type} (π : State → β) (k : Nat) (f : State → Nat → State) (h : ∀ u n, n < k → π (f u n) = π u) :
    π (s.each (List.range k) f) = π s := by
  have hall : ∀ (l : List Nat), (∀ n ∈ l, n < k) → ∀ u : State, π (u.each l f) = π u := by
    intro l
    induction l with
    | nil => exact fun _ _ => rfl
    | cons a l ih =>
      intro hl u
      exact (ih (fun n hn => hl n (List.mem_cons_of_mem _ hn)) (f u a)).trans (h u a (hl a List.mem_cons_self))
  exact hall _ (fun n hn => List.mem_range.mp hn) s

@[simp] theorem linkPorts_lcView : s.linkPorts.lcView = s.lcView := by
  refine each_range_keeps s State.lcView 4 _ (fun u n hn => ?_)
  split_ifs
  · exact clearPort_lcView u n poDetect hn
  · rfl
  · rfl
  · exact clearPort_lcView u n poOff hn

/-- The state in which a move of the life cycle is recorded. -/
def State.moved (s : State) (f : Fuses) : State :=
  ({ s with fuses := f } : State).linkPorts.wrb ER_STAT ER_STAT.CLEAR_ARMED (s.flag ER_STAT ER_STAT.CLEAR_ARMED && s.fuses.lcState != 0)

@[simp] theorem moved_lcView (f : Fuses) : (s.moved f).lcView = s.lcView := by
  have hl : ({ s with fuses := f } : State).linkPorts.lcView = s.lcView := linkPorts_lcView _
  simp only [State.lcView, Prod.mk.injEq] at hl ⊢
  obtain ⟨hlc, hqueue, hflag, hreg⟩ := hl
  exact ⟨hlc, hqueue, (flag_wr_fld _ _ _ _ _ _ (by decide) (by decide)).trans hflag, (reg_wr_ne _ _ _ _ _ (by decide)).trans hreg⟩

/-- A move of the life cycle with an empty queue: its record is the only one, and LC_AUTH_STAT and the commands' state stand. -/
theorem transition_alone (f : Fuses) (hash : BitVec 384) (p : Nat) (hf : s.flag ER_STAT ER_STAT.NOFLASH = false) (hr : s.rcd.queue = []) :
    (s.transition f hash p).lc = s.lc ∧ (s.transition f hash p).reg LC_AUTH_STAT = s.reg LC_AUTH_STAT ∧
      (s.transition f hash p).rcd.queue.map (·.type) = [3] := by
  have hv := moved_lcView s f
  simp only [State.lcView, Prod.mk.injEq] at hv
  obtain ⟨hlc, hqueue, hflag, hreg⟩ := hv
  have he : s.transition f hash p = (((s.moved f).record 3 0 (BitVec.ofNat 64 (s.fuses.lcState * 2 ^ 56 + f.lcState * 2 ^ 48 + f.slot * 2 ^ 40) ::
      (List.range 6).map (word384 hash))).lcEvent p).ibi 4 := rfl
  rw [he, record_alone _ _ _ _ (hflag.trans hf) (hqueue.trans hr)]
  refine ⟨?_, ?_, ?_⟩
  · rw [ibi_lc, State.lcEvent, raiseW_lc, restart_lc, setQueue_lc, hlc]
  · rw [ibi_reg, State.lcEvent, raiseW_reg, restart_reg, setQueue_reg _ _ _ (by decide), hreg]
  · rw [ibi_rcd, State.lcEvent, raiseW_rcd, restart_rcd, setQueue_queue]
    rfl

end

/-! ### The end of fuse programming -/

section
variable {s : State}

/-- Fuse programming has ended: BUSY clears, the commands' state follows, RESULT reads ACCEPTED. -/
def State.fuseEnded (s : State) : State :=
  ((s.wr LC_AUTH_STAT LC_AUTH_STAT.BUSY 0).updLc (fun l => { l with
    fuseOp := .none
    reentry := l.reentry && s.lc.fuseOp != .reentryField
    staged := if s.lc.fuseOp = .returnWipe then l.staged else 0 })).lcResult 2

theorem fuseDone_return (h : s.lc.fuseOp = .returnWipe) : s.fuseDone = s.fuseEnded.transition (s.blown .returnWipe) s.lc.authHash 1 := by
  simp only [State.fuseDone, h, State.fuseEnded]
theorem fuseDone_reentry (h : s.lc.fuseOp = .reentryField) : s.fuseDone = s.fuseEnded.transition (s.blown .reentryField) s.lc.authHash 0 := by
  simp only [State.fuseDone, h, State.fuseEnded]
theorem fuseDone_provision (h : s.lc.fuseOp = .provision) : s.fuseDone = s.fuseEnded.transition (s.blown .provision) 0 0 := by
  simp only [State.fuseDone, h, State.fuseEnded]
theorem fuseDone_field (h : s.lc.fuseOp = .field) : s.fuseDone = s.fuseEnded.transition (s.blown .field) 0 0 := by
  simp only [State.fuseDone, h, State.fuseEnded]

/-- Whatever was programmed, it ends in a move of the life cycle to the fuses blown. -/
theorem fuseDone_moves (h : s.lc.fuseOp ≠ .none) : ∃ hash p, s.fuseDone = s.fuseEnded.transition (s.blown s.lc.fuseOp) hash p := by
  cases ho : s.lc.fuseOp with
  | none => exact absurd ho h
  | returnWipe => exact ⟨_, _, fuseDone_return ho⟩
  | reentryField => exact ⟨_, _, fuseDone_reentry ho⟩
  | provision => exact ⟨_, _, fuseDone_provision ho⟩
  | field => exact ⟨_, _, fuseDone_field ho⟩

theorem fuseEnded_noflash : s.fuseEnded.flag ER_STAT ER_STAT.NOFLASH = s.flag ER_STAT ER_STAT.NOFLASH :=
  (flag_wr_ne _ _ _ _ _ _ (by decide)).trans (flag_wr_ne _ _ _ _ _ _ (by decide))
theorem fuseEnded_result : s.fuseEnded.rd LC_AUTH_STAT LC_AUTH_STAT.RESULT = 2 := rd_wr_same _ _ _ _ (by decide)
theorem fuseEnded_busy : s.fuseEnded.flag LC_AUTH_STAT LC_AUTH_STAT.BUSY = false :=
  (flag_wr_fld _ _ _ _ _ _ (by decide) (by decide)).trans (flag_wr_zero s _ _ (by decide))

theorem transition_fuses (f : Fuses) (hash : BitVec 384) (p : Nat) : (s.transition f hash p).fuses = f :=
  (congrArg Prod.fst (transition_lcFuses s f hash p) :)

theorem fuseDone_fuses (h : s.lc.fuseOp ≠ .none) : s.fuseDone.fuses = s.blown s.lc.fuseOp := by
  obtain ⟨hash, p, he⟩ := fuseDone_moves h
  rw [he, transition_fuses]

/-- The staged secret in the slot above: that slot alone takes it. -/
theorem secretAt_setSecret_succ (f : Fuses) (x : Secret) (k : Nat) (hs : f.slot < 3) (hk : k < 4) :
    (f.setSecret (f.slot + 1) x).secretAt k = if k = f.slot + 1 then x else f.secretAt k := by
  have hslot : f.slot = 0 ∨ f.slot = 1 ∨ f.slot = 2 := by omega
  have hkk : k = 0 ∨ k = 1 ∨ k = 2 ∨ k = 3 := by omega
  rcases hslot with h | h | h <;> rcases hkk with rfl | rfl | rfl | rfl <;> simp [Fuses.setSecret, Fuses.secretAt, h]

end

/-- Settles O26: each programming ends in one move of the life cycle, whose fuses are those blown. -/
theorem fusesBlow : Obligations.FusesBlow := by
  unfold Obligations.FusesBlow
  intro s hr hf
  refine ⟨fun h => ?_, fun h => ?_, fun h => ?_, fun h => ?_, fun h => ?_⟩
  · obtain ⟨hash, p, he⟩ := fuseDone_moves h
    obtain ⟨hlc, hauth, hq⟩ := transition_alone s.fuseEnded (s.blown s.lc.fuseOp) hash p (fuseEnded_noflash.trans hf) hr
    refine ⟨s.fuseDone, rfl, ?_, ?_, ?_, ?_⟩ <;> rw [he]
    · rw [State.flag, State.rd, hauth]; exact fuseEnded_busy
    · rw [State.rd, hauth]; exact fuseEnded_result
    · rw [hlc]; rfl
    · exact hq
  · have hb : s.fuseDone.fuses = s.blown .provision := by rw [fuseDone_fuses (by rw [h]; decide), h]
    refine ⟨s.fuseDone, rfl, ?_, ?_, ?_, ?_, ?_, ?_⟩
    · rw [hb]; rfl
    · rw [hb]; rfl
    · rw [hb]; rfl
    · rw [hb]; rfl
    · rw [hb]; rfl
    · rw [fuseDone_provision h]; exact transition_event _ _ _ _
  · refine ⟨s.fuseDone, rfl, ?_, ?_⟩
    · rw [fuseDone_fuses (by rw [h]; decide), h]; rfl
    · rw [fuseDone_field h]; exact transition_event _ _ _ _
  · refine ⟨s.fuseDone, rfl, ?_, ?_⟩
    · rw [fuseDone_fuses (by rw [h]; decide), h]; rfl
    · rw [fuseDone_return h]; exact transition_event _ _ _ _
  · have hb : s.fuseDone.fuses = s.blown .reentryField := by rw [fuseDone_fuses (by rw [h]; decide), h]
    have hset : ∀ n x, (s.fuses.setSecret n x).licImgHash = s.fuses.licImgHash ∧ (s.fuses.setSecret n x).licAuthHash = s.fuses.licAuthHash := by
      intro n x
      unfold Fuses.setSecret
      split_ifs <;> exact ⟨rfl, rfl⟩
    obtain ⟨hash, p, he⟩ := fuseDone_moves (by rw [h]; decide : s.lc.fuseOp ≠ .none)
    obtain ⟨hlc, -, -⟩ := transition_alone s.fuseEnded (s.blown s.lc.fuseOp) hash p (fuseEnded_noflash.trans hf) hr
    refine ⟨s.fuseDone, rfl, ?_, ?_, ?_, ?_, ?_, ?_, ?_⟩
    · rw [hb]; rfl
    · rw [hb]; rfl
    · rw [hb]; exact (hset _ _).1
    · rw [hb]; exact (hset _ _).2
    · intro hs k hk
      rw [hb]
      exact secretAt_setSecret_succ s.fuses s.stagedSecret k hs hk
    · rw [he, hlc]
      show (s.lc.reentry && s.lc.fuseOp != .reentryField) = false
      rw [h]
      exact Bool.and_false _
    · rw [fuseDone_reentry h]; exact transition_event _ _ _ _

end Sys2Proof.Machine

/-! PROOFS. The keeper, the pump links, the fault wire, the bus and the reference clock (R78-R100). -/

namespace Sys2Proof.Machine

open Sys2Proof

section
variable (s : State)

/-! ### Hidden state after an update of it -/

@[simp] theorem updPump_same (t w p : Nat) (f : PumpX → PumpX) : (s.updPump t w p f).pump t w p = f (s.pump t w p) := by simp [State.updPump]
@[simp] theorem updMo_same (t w : Nat) (f : Motion → Motion) : (s.updMo t w f).mo t w = f (s.mo t w) := by simp [State.updMo, State.mo]
@[simp] theorem updLp_same (t w : Nat) (f : Loop → Loop) : (s.updLp t w f).lp t w = f (s.lp t w) := by simp [State.updLp, State.lp]
@[simp] theorem updSh_same (t w : Nat) (f : ShareX → ShareX) : (s.updSh t w f).sh t w = f (s.sh t w) := by simp [State.updSh, State.sh]
@[simp] theorem updTe_same (t w : Nat) (f : TestX → TestX) : (s.updTe t w f).te t w = f (s.te t w) := by simp [State.updTe, State.te]
@[simp] theorem updTile_same (t : Nat) (f : TileX → TileX) : (s.updTile t f).tile t = f (s.tile t) := by simp [State.updTile]

theorem updPump_ne (t w p t2 w2 p2 : Nat) (f : PumpX → PumpX) (h : 4 * (16 * t2 + w2) + p2 ≠ 4 * (16 * t + w) + p) :
    (s.updPump t w p f).pump t2 w2 p2 = s.pump t2 w2 p2 := by simp [State.updPump, h]

@[simp] theorem flag_wr_same_one (a : Nat) (f : Fld) (h : f.ok = true) : (s.wr a f 1).flag a f = true := flag_wr_one s a f h
@[simp] theorem stage_setStage (t w v : Nat) (h : v < 8) : (s.setStage t w v).stage t w = v := by
  rw [State.stage, State.setStage, rd_wr_same _ _ _ _ (by decide)]
  exact Nat.mod_eq_of_lt h

theorem rd_of_reg {s u : State} {b : Nat} (h : u.reg b = s.reg b) (g : Fld) : u.rd b g = s.rd b g := by simp only [State.rd, h]
theorem flag_of_reg {s u : State} {b : Nat} (h : u.reg b = s.reg b) (g : Fld) : u.flag b g = s.flag b g := by simp only [State.flag, State.rd, h]

/-- What every element of a list keeps, the list keeps; the elements may be taken from the list. -/
theorem each_mem_keeps {α β : Type} (π : State → β) (l : List α) (f : State → α → State) (h : ∀ u, ∀ a ∈ l, π (f u a) = π u) (s : State) :
    π (s.each l f) = π s := by
  induction l generalizing s with
  | nil => rfl
  | cons a l ih => exact (ih (fun u b hb => h u b (List.mem_cons_of_mem _ hb)) (f s a)).trans (h s a List.mem_cons_self)

/-- What one element of a list brings about, and the elements after it leave, holds at the end. -/
theorem each_brings {α : Type} (P : State → Prop) (l : List α) (f : State → α → State) (x : α) (hx : x ∈ l) (hdo : ∀ u, P (f u x))
    (hkeep : ∀ u, ∀ a ∈ l, P u → P (f u a)) (s : State) : P (s.each l f) := by
  induction l generalizing s with
  | nil => cases hx
  | cons a l ih =>
    have hrest : ∀ (l' : List α), (∀ b ∈ l', b ∈ l) → ∀ u, P u → P (u.each l' f) := by
      intro l'
      induction l' with
      | nil => exact fun _ _ h => h
      | cons b l' ih' =>
        intro hl u hu
        exact ih' (fun c hc => hl c (List.mem_cons_of_mem _ hc)) (f u b) (hkeep u b (List.mem_cons_of_mem _ (hl b List.mem_cons_self)) hu)
    rcases List.mem_cons.mp hx with rfl | hx
    · exact hrest l (fun _ h => h) _ (hdo s)
    · exact ih hx (fun u b hb => hkeep u b (List.mem_cons_of_mem _ hb)) (f s a)

/-! ### Pumps and wells of the topology -/

theorem installed_le (t w : Nat) : s.installed t w ≤ 4 := Nat.min_le_left 4 _
theorem pumpsOf_lt {t w p : Nat} (h : p ∈ s.pumpsOf t w) : p < 4 := lt_of_lt_of_le (List.mem_range.mp h) (installed_le s t w)

theorem pumpOk_iff (t w p : Nat) : s.pumpOk t w p = true ↔ s.wellOk t w = true ∧ p < s.installed t w := by simp [State.pumpOk]
theorem wellOk_lt {t w : Nat} (h : s.wellOk t w = true) : t < s.tileCount ∧ w < 15 := by
  simp only [State.wellOk, State.tileOk, Bool.and_eq_true, decide_eq_true_eq] at h
  exact h.1

/-! ### The keeper (R78, R148) -/

theorem tileCount_wr (a : Nat) (f : Fld) (v : Nat) (h : HD_TOPO ≠ a) : (s.wr a f v).tileCount = s.tileCount := rd_wr_ne _ _ _ _ _ _ h

theorem wellOk_of {u : State} (t w : Nat) (hn : u.tileCount = s.tileCount) (hk : u.topoWord t w = s.topoWord t w) : u.wellOk t w = s.wellOk t w := by
  unfold State.wellOk State.tileOk State.wellKind
  rw [hn, hk]

theorem wellOk_wr (a : Nat) (f : Fld) (v t w : Nat) (h : HD_TOPO ≠ a) : (s.wr a f v).wellOk t w = s.wellOk t w :=
  wellOk_of s t w (tileCount_wr s a f v h) rfl

theorem topo_ne_adWin (t w : Nat) : HD_TOPO ≠ AD_WIN t w := by simp only [HD_TOPO, AD_WIN, phBase]; omega

theorem adWin_ne_setpt (t w u v : Nat) (hw : w < 15) : AD_WIN t w ≠ WL_SETPT u v := by
  simp only [AD_WIN, WL_SETPT, wlBase, phBase]; omega

/-- The keeper's converter runs, its stage is CAL, its generator starts anew. -/
def State.keeperCal (s : State) (u : Nat) : State := (((s.wr (AD_WIN u 14) AD_WIN.RUN 1).setStage u 14 stCal).updMo u 14 (fun _ => {}))

/-- Pumps are to be measured. -/
def State.measureAll (s : State) (t w : Nat) (l : List Nat) : State := s.each l (fun u p => u.updPump t w p (fun q => { q with measuring := true }))

@[simp] theorem measureAll_reg (t w : Nat) (l : List Nat) (b : Nat) : (s.measureAll t w l).reg b = s.reg b :=
  each_keeps (fun u => u.reg b) l (fun u p => u.updPump t w p _) (fun _ _ => rfl) s
@[simp] theorem measureAll_fault (t w : Nat) (l : List Nat) : (s.measureAll t w l).fault = s.fault :=
  each_keeps State.fault l (fun u p => u.updPump t w p _) (fun _ _ => rfl) s

theorem measureAll_measuring (t w p : Nat) (l : List Nat) (h : p ∈ l) : ((s.measureAll t w l).pump t w p).measuring = true := by
  refine each_brings (fun u => (u.pump t w p).measuring = true) l _ p h (fun u => by simp) (fun u a _ hu => ?_) s
  by_cases ha : p = a
  · subst ha; simp
  · rw [updPump_ne _ _ _ _ _ _ _ _ (by omega)]; exact hu

theorem keeperEnable_starts {u : Nat} (hok : s.wellOk u 14 = true) (hd : s.stage u 14 = stDry) (hb : (s.tile u).busBad = none)
    (hp : s.usablePumps u 14 ≠ []) : s.keeperEnable u = (s.keeperCal u).measureAll u 14 (s.pumpsOf u 14) := by
  have hok' : (s.wr (AD_WIN u 14) AD_WIN.RUN 1).wellOk u 14 = true := (wellOk_wr s _ _ _ _ _ (topo_ne_adWin u 14)).trans hok
  have hd' : (s.wr (AD_WIN u 14) AD_WIN.RUN 1).stage u 14 = stDry := (rd_wr_ne _ _ _ _ _ _ (adWin_ne_setpt u 14 u 14 (by decide)).symm).trans hd
  have hp' : (s.wr (AD_WIN u 14) AD_WIN.RUN 1).usablePumps u 14 = s.usablePumps u 14 := by
    refine List.filter_congr fun p hp => ?_
    have hne : PM_STAT u 14 p ≠ AD_WIN u 14 := by simp only [AD_WIN, PM_STAT, wlBase, phBase]; omega
    simp only [State.service, rd_wr_ne _ _ _ _ _ _ hne]
  have hp'' : (s.usablePumps u 14).isEmpty = false := by simpa [List.isEmpty_eq_false_iff] using hp
  simp only [State.keeperEnable, hok, hok', hd', hp', hp'', hb, wr_tile, if_true, Bool.and_self, Bool.not_false,
    show ((none : Option Nat) == some 0) = false from rfl, beq_self_eq_true]
  rfl

theorem keeperCal_reg (u b : Nat) (h1 : b ≠ WL_SETPT u 14) (h2 : b ≠ AD_WIN u 14) : (s.keeperCal u).reg b = s.reg b :=
  (reg_wr_ne _ _ _ _ _ h1).trans (reg_wr_ne _ _ _ _ _ h2)

theorem keeperCal_run (u : Nat) : (s.keeperCal u).flag (AD_WIN u 14) AD_WIN.RUN = true :=
  (flag_wr_ne _ _ _ _ _ _ (adWin_ne_setpt u 14 u 14 (by decide))).trans (flag_wr_one s _ _ (by decide))

/-! ### What capability, PMD and the reports to waiting programs leave alone -/

theorem setPmd_reg (t w : Nat) (d : Bool) (b : Nat) (h : ∀ p, p < 4 → b ≠ PM_LINK t w p) : (s.setPmd t w d).reg b = s.reg b :=
  each_mem_keeps (fun u => u.reg b) _ (fun u p => u.wrb (PM_LINK t w p) PM_LINK.PMD d)
    (fun u p hp => reg_wr_ne u _ _ _ _ (h p (pumpsOf_lt s hp))) s

@[simp] theorem report_reg (t w op : Nat) (ok : Bool) (b : Nat) : (s.report t w op ok).reg b = s.reg b := by
  refine each_keeps (fun u => u.reg b) _ _ (fun u n => ?_) s
  dsimp only
  split_ifs <;> rfl

@[simp] theorem takeCaps_reg (t w : Nat) (free : Bool) (b : Nat) : (s.takeCaps t w free).reg b = s.reg b :=
  each_keeps (fun u => u.reg b) _ (fun u p => u.updPump t w p _) (fun _ _ => rfl) s

@[simp] theorem loadLine_reg (t w b : Nat) : (s.loadLine t w).reg b = s.reg b := rfl

theorem cistView_reg (t c b : Nat) (h : b ≠ PH_CIST t c) : (s.cistView t c).reg b = s.reg b :=
  (reg_wr_ne _ _ _ _ _ h).trans ((reg_wr_ne _ _ _ _ _ h).trans (reg_wr_ne _ _ _ _ _ h))

theorem recompute_reg (t w : Nat) (free : Bool) (b : Nat) (h1 : b ≠ WL_CAP t w) (h2 : b ≠ PH_CIST t (w / 4)) :
    (s.recompute t w free).reg b = s.reg b := by
  have h0 (y : Word) : ((s.takeCaps t w free).setReg (WL_CAP t w) y).reg b = s.reg b := by
    rw [reg_setReg, if_neg h1, takeCaps_reg]
  simp only [State.recompute]
  split_ifs
  · exact (cistView_reg _ _ _ _ h2).trans (h0 _)
  · exact h0 _
  · exact (cistView_reg _ _ _ _ h2).trans (h0 _)
  · exact h0 _

/-! ### The keeper's handover (R146, R148) -/

theorem keeper_untied (u : State) (t : Nat) : u.untieAfterFall t 14 = u := if_neg (by simp [State.tied])

theorem handDo_keeper_stage (t : Nat) : (s.handDo t 14).stage t 14 = stVolt := by
  have hset : (s.setStage t 14 stVolt).stage t 14 = stVolt := stage_setStage s t 14 stVolt (by decide)
  have hcap : WL_SETPT t 14 ≠ WL_CAP t 14 := by simp only [WL_SETPT, WL_CAP]; omega
  have hcist : WL_SETPT t 14 ≠ PH_CIST t (14 / 4) := by simp only [WL_SETPT, PH_CIST, wlBase]; omega
  have hpwm : WL_SETPT t 14 ≠ WL_PWM t 14 := by simp only [WL_SETPT, WL_PWM]; omega
  have hloop : WL_SETPT t 14 ≠ WL_LOOP_STAT t 14 := by simp only [WL_SETPT, WL_LOOP_STAT]; omega
  have hprof : WL_SETPT t 14 ≠ WL_PROF_STAT t 14 := by simp only [WL_SETPT, WL_PROF_STAT]; omega
  have hlink : ∀ p, p < 4 → WL_SETPT t 14 ≠ PM_LINK t 14 p := by simp only [WL_SETPT, PM_LINK]; omega
  have heach (u : State) (l : List Nat) (f : PumpX → PumpX) : (u.each l (fun v p => v.updPump t 14 p f)).reg (WL_SETPT t 14) = u.reg (WL_SETPT t 14) :=
    each_keeps (fun u => u.reg (WL_SETPT t 14)) l (fun v p => v.updPump t 14 p f) (fun _ _ => rfl) u
  rw [← hset]
  simp only [State.handDo, keeper_untied]
  refine rd_of_reg ?_ WL_SETPT.STAGE
  rw [report_reg, recompute_reg _ _ _ _ _ hcap hcist, loadLine_reg, reg_wr_ne _ _ _ _ _ hpwm, heach, updLp_reg, updMo_reg,
    reg_wr_ne _ _ _ _ _ hprof, reg_wr_ne _ _ _ _ _ hloop, reg_wr_ne _ _ _ _ _ hpwm, setPmd_reg _ _ _ _ _ hlink]

end

/-- Settles O30: the keeper's stage is CAL with every pump measured; its handover ends in voltage mode. -/
theorem keeperStarts : Obligations.KeeperStarts := by
  unfold Obligations.KeeperStarts
  refine ⟨fun u s hq hok hd hb hp hu => ?_, fun u s hact hpwr hst hwt hen hok hwet hst' hfb hreq hset hband => ?_⟩
  · have he := keeperEnable_starts s hok hd hb hp
    have hx : exec (.keeperEnable u) s = .next (s.keeperEnable u) := done_quiet _ (by rw [he, measureAll_fault]; exact hq)
    rw [hx, he]
    refine ⟨_, rfl, ?_, ?_, fun p hp1 _ => ?_, fun b hb' => ?_, measureAll_fault _ _ _ _⟩
    · rw [State.stage, rd_of_reg (measureAll_reg _ _ _ _ _)]
      exact stage_setStage _ u 14 stCal (by decide)
    · rw [flag_of_reg (measureAll_reg _ _ _ _ _), keeperCal_run]
    · exact measureAll_measuring _ _ _ _ _ (List.mem_range.mpr hp1)
    · simp only [List.mem_cons, List.not_mem_nil, or_false, not_or] at hb'
      rw [measureAll_reg, keeperCal_reg s u b hb'.1 hb'.2]
  · have hready : s.handReady u 14 = true := by
      simp [State.handReady, hok, hst', hwet, hset, hband, hreq]
    have he : s.keeperHandover u = s.handDo u 14 := by
      simp [State.keeperHandover, State.handOver, hact, hpwr, hst, hwt, hfb, hen, hready]
    exact ⟨s.keeperHandover u, rfl, by rw [he]; exact handDo_keeper_stage s u⟩

end Sys2Proof.Machine

/-! PROOFS. Pump senses, the bus and the reference clock (R87, R89, R96, R98, R100). -/

namespace Sys2Proof.Machine

open Sys2Proof

section
variable (s : State)

/-! ### CAL and the temperature return (R87, R89) -/

theorem plainWrite_reg (a b : Nat) (d : Word) (h : b ≠ a) : (s.plainWrite a d).reg b = s.reg b := by
  unfold State.plainWrite
  split
  · rw [reg_setReg, if_neg h]
  · rfl

theorem plainWrite_rest (a : Nat) (d : Word) : { s.plainWrite a d with regs := s.regs } = s := by
  unfold State.plainWrite
  split <;> rfl

@[simp] theorem plainWrite_fault (a : Nat) (d : Word) : (s.plainWrite a d).fault = s.fault := (congrArg State.fault (plainWrite_rest s a d) :)
@[simp] theorem plainWrite_port (a : Nat) (d : Word) : (s.plainWrite a d).port = s.port := (congrArg State.port (plainWrite_rest s a d) :)
@[simp] theorem plainWrite_wells (a : Nat) (d : Word) : (s.plainWrite a d).wells = s.wells := (congrArg State.wells (plainWrite_rest s a d) :)

theorem calWrite_measures (t w p : Nat) (d : Word) (hc : PM_LINK.CAL.get d = 1) (hp : s.flag (PM_LINK t w p) PM_LINK.PEN = false) :
    s.calWrite t w p d = (s.plainWrite (PM_LINK t w p) d).updPump t w p (fun q => { q with measuring := true }) := if_pos ⟨hc, hp⟩

theorem tsnsPeriod_whole (t w p high period : Nat) (hok : s.pumpOk t w p = true) (h0 : 0 < period) (h1 : period ≤ 50 * high) (h2 : 50 * high ≤ 49 * period) :
    s.tsnsPeriod t w p high period =
      s.updPump t w p (fun q => { q with temp := roundDiv ((1600 * high : Nat) - (400 * period : Nat) : Int) period, tempBroken := false }) := by
  rw [State.tsnsPeriod, if_pos hok, if_neg (by omega)]

@[simp] theorem answered_pump (c : Nat) (d : Word) (t w p : Nat) : (s.answered c d).pump t w p = s.pump t w p := rfl

/-! ### The end of an OFFSET measurement (R87) -/

theorem offsetMeasureDone_stores (t w p edges : Nat) (x : Int) (hok : s.pumpOk t w p = true) (hm : (s.pump t w p).measuring = true)
    (hp : s.flag (PM_LINK t w p) PM_LINK.PEN = false) (hk : (s.te t w).kind = 0) (hst : s.stage t w ≠ stCal) :
    s.offsetMeasureDone t w p edges x = (s.updPump t w p (fun q => { q with measuring := false })).wr (PM_ISNS t w p) PM_ISNS.OFFSET
      (min 0xFFFF (roundDiv ((edges * 32000 : Nat) : Int) (s.khz t)).toNat) := by
  have hne : WL_SETPT t w ≠ PM_ISNS t w p := by
    have hlt : p < 4 := pumpsOf_lt s (List.mem_range.mpr ((pumpOk_iff s t w p).mp hok).2)
    simp only [WL_SETPT, PM_ISNS]; omega
  have hst' (v : Nat) : ((s.updPump t w p (fun q => { q with measuring := false })).wr (PM_ISNS t w p) PM_ISNS.OFFSET v).stage t w ≠ stCal := by
    rw [State.stage, rd_wr_ne _ _ _ _ _ _ hne]; exact hst
  have hte (v : Nat) : (((s.updPump t w p (fun q => { q with measuring := false })).wr (PM_ISNS t w p) PM_ISNS.OFFSET v).te t w).kind = 0 := hk
  simp only [State.offsetMeasureDone, hok, hm, hp, Bool.and_self, if_true, Bool.false_eq_true, if_false, State.testOffset, State.calStageEnd, hte,
    ne_eq, not_true_eq_false, false_and, hst']

theorem offsetMeasureDone_abandoned (t w p edges : Nat) (x : Int) (hok : s.pumpOk t w p = true) (hm : (s.pump t w p).measuring = true)
    (hp : s.flag (PM_LINK t w p) PM_LINK.PEN = true) :
    s.offsetMeasureDone t w p edges x = s.updPump t w p (fun q => { q with measuring := false }) := by
  simp only [State.offsetMeasureDone, hok, hm, hp, Bool.and_self, if_true]

end

/-- Settles O31: each of these commands touches one pump's hidden state, and a measurement its OFFSET. -/
theorem pumpSenses : Obligations.PumpSenses := by
  unfold Obligations.PumpSenses
  refine ⟨fun u w p d s hq ha hu hw hp ht hc hpen => ?_, fun u w p edges x s hq hok hm hpen hk hst => ?_, fun u w p edges x s hq hok hm hpen => ?_,
    fun u w p high period s hq hok h0 h1 h2 => ?_, fun u w p s hq hok => ?_⟩
  · have hx : exec (.cal u w p d) s = hostOp s (PM_LINK u w p) d (·.calWrite u w p d) := rfl
    refine ⟨_, hostOp_effect hx ht (calWrite_measures s u w p d hc hpen) ?_ ?_, ?_, fun b hb => ?_, ?_⟩
    · show (s.plainWrite (PM_LINK u w p) d).port.outstanding.length ≤ 1
      rw [plainWrite_port]; exact ha
    · show (s.plainWrite (PM_LINK u w p) d).fault.now = []
      rw [plainWrite_fault]; exact hq
    · rw [answered_pump, updPump_same]
    · exact plainWrite_reg s _ b d (by simpa using hb)
    · exact plainWrite_wells s _ d
  · have hx : exec (.offsetMeasureDone u w p edges x) s = .next (s.offsetMeasureDone u w p edges x) :=
      done_quiet _ (by rw [offsetMeasureDone_stores s u w p edges x hok hm hpen hk hst]; exact hq)
    rw [hx, offsetMeasureDone_stores s u w p edges x hok hm hpen hk hst]
    refine ⟨_, rfl, by simp, ?_, fun b hb => reg_wr_ne _ _ _ _ _ (by simpa using hb)⟩
    rw [rd_wr_same _ _ _ _ (by decide)]
    exact Nat.mod_eq_of_lt (lt_of_le_of_lt (Nat.min_le_left _ _) (by decide))
  · have hx : exec (.offsetMeasureDone u w p edges x) s = .next (s.offsetMeasureDone u w p edges x) :=
      done_quiet _ (by rw [offsetMeasureDone_abandoned s u w p edges x hok hm hpen]; exact hq)
    rw [hx, offsetMeasureDone_abandoned s u w p edges x hok hm hpen]
    exact ⟨_, rfl, by simp, fun _ _ => rfl⟩
  · have hx : exec (.tsnsPeriod u w p high period) s = .next (s.tsnsPeriod u w p high period) :=
      done_quiet _ (by rw [tsnsPeriod_whole s u w p high period hok h0 h1 h2]; exact hq)
    rw [hx, tsnsPeriod_whole s u w p high period hok h0 h1 h2]
    exact ⟨_, rfl, by simp, by simp, fun _ _ => rfl⟩
  · have hx : exec (.tsnsTimeout u w p) s = .next (s.updPump u w p (fun q => { q with tempBroken := true })) := by
      show done (if s.pumpOk u w p then _ else s) = _
      rw [if_pos hok]
      exact done_quiet _ hq
    exact ⟨_, hx, by simp, by simp, fun _ _ => rfl⟩

/-! ### The bus and the reference (R96, R98, R100) -/

section
variable (s : State)

theorem busFault_over (t : Nat) (ht : t < s.tileCount) (hb : (s.tile t).busBad = none) :
    s.busFault t true = (s.updTile t (fun x => { x with busBad := some 1 })).holdPh { src := 7, tile := t, sub := 1 } := by
  simp [State.busFault, State.tileOk, ht, hb, b2n]

theorem busRecovery_of (t b : Nat) (hb : (s.tile t).busBad = some b) :
    s.busRecovery t = (s.updTile t (fun x => { x with busBad := none })).unhold { src := 7, tile := t, sub := b } := by
  simp only [State.busRecovery, hb]

/-- The DCO follows the source it holds over from. -/
theorem sourceLost_of (h : s.ckMode = ckLocked ∨ s.ckMode = ckPullIn) :
    s.sourceLost = (((s.wr HD_CLK HD_CLK.MODE ckHoldover).slewDco (if s.ckMode = ckPullIn then s.dcoNow else s.dcoMean)).bump HD_CLK).raiseW { src := 6 } :=
  if_pos h

@[simp] theorem slewDco_reg (f : Int) (b : Nat) : (s.slewDco f).reg b = s.reg b := rfl
@[simp] theorem slewDco_rd (f : Int) (b : Nat) (g : Fld) : (s.slewDco f).rd b g = s.rd b g := rfl
@[simp] theorem moveDco_f1 (f : Int) (n : Nat) : (s.moveDco f n).clk.dco.f1 = f := rfl

theorem on_wr_reg (c : Bool) (a b : Nat) (f : Fld) (v : Nat) (h : b ≠ a) : (s.on c (·.wr a f v)).reg b = s.reg b := by
  unfold State.on
  split_ifs
  · exact reg_wr_ne _ _ _ _ _ h
  · rfl

theorem on_locked_ckMode (c : Bool) (h : s.ckMode = ckPullIn) : (s.on c (·.wr HD_CLK HD_CLK.MODE ckLocked)).ckMode = ckLocked ↔ c = true := by
  cases c with
  | false => simp [State.on, h]
  | true => exact iff_of_true (rd_wr_same s HD_CLK HD_CLK.MODE ckLocked (by decide)) rfl

theorem dcoStep_of (f phi : Int) (h : s.ckMode = ckPullIn) :
    s.dcoStep f phi = ((s.moveDco (s.clk.dco.f1 + clampI (-6400) 6400 (f - clampI (-320000) 320000 (32 * phi) - s.clk.dco.f1)) 10000).setDco
      (fun d => { d with near := if phi.natAbs < 20 then s.clk.dco.near + 1 else 0 })).on
        (decide (10 ≤ (if phi.natAbs < 20 then s.clk.dco.near + 1 else 0))) (·.wr HD_CLK HD_CLK.MODE ckLocked) := by
  unfold State.dcoStep State.on
  simp only [h, true_or, if_true, and_true, decide_eq_true_eq]

end

/-- Settles O33: the BUS source is held with the tile's bad bus, and the modes of the DCO follow the reference. -/
theorem busAndClock : Obligations.BusAndClock := by
  unfold Obligations.BusAndClock
  refine ⟨fun u s hq hu hb hh => ?_, fun u b s hq hb => ?_, fun s hsrc hm hl => ?_, fun s hq hm => ?_, fun f phi s hq hsrc hm => ?_⟩
  · have he : s.busFault u true = _ := (busFault_over s u hu hb).trans (holdPh_new _ _ hh)
    have hx : exec (.busFault u true) s = .next (s.busFault u true) := done_quiet _ (by rw [he]; exact hq)
    rw [hx, he]
    refine ⟨_, rfl, ?_, List.mem_append_right _ (List.mem_singleton_self _), rfl, fun _ _ => rfl⟩
    show ((s.updTile u (fun x => { x with busBad := some 1 })).tile u).busBad = some 1
    rw [updTile_same]
  · have hx : exec (.busRecovery u) s = .next (s.busRecovery u) := done_quiet _ (by rw [busRecovery_of s u b hb]; exact hq)
    rw [hx, busRecovery_of s u b hb]
    refine ⟨_, rfl, ?_, by simp [State.unhold], fun _ _ => rfl⟩
    show ((s.updTile u (fun x => { x with busBad := none })).tile u).busBad = none
    rw [updTile_same]
  · have he : s.refLost = s.sourceLost := by rw [State.refLost, hsrc, if_neg Bool.false_ne_true]
    have hcount : ((s.wr HD_CLK HD_CLK.MODE ckHoldover).slewDco (if s.ckMode = ckPullIn then s.dcoNow else s.dcoMean)).rd HD_CLK ctrCount =
        s.rd HD_CLK HD_CLK.LOSSES := rd_wr_fld s HD_CLK HD_CLK HD_CLK.MODE ctrCount ckHoldover (by decide) (by decide)
    refine ⟨s.refLost, rfl, ?_⟩
    rw [he, sourceLost_of s hm, bump_counts _ _ (by rw [hcount]; exact hl), hcount]
    refine ⟨?_, ?_, rfl, fun b hb => ?_⟩
    · exact (rd_wr_fld _ HD_CLK HD_CLK ctrCount HD_CLK.MODE _ (by decide) (by decide)).trans (rd_wr_same s HD_CLK HD_CLK.MODE ckHoldover (by decide))
    · rw [raiseW_rd]
      exact (rd_wr_same _ _ _ _ (by decide)).trans (Nat.mod_eq_of_lt (by have : ctrCount.width = 32 := rfl; rw [this]; omega))
    · have hne : b ≠ HD_CLK := by simpa using hb
      exact (reg_wr_ne _ _ _ _ _ hne).trans (reg_wr_ne s _ _ _ _ hne)
  · have he : s.refQualified = (s.wr HD_CLK HD_CLK.MODE ckPullIn).setDco (fun d => { d with near := 0 }) := if_pos hm
    have hx : exec .refQualified s = .next s.refQualified := done_quiet _ (by rw [he]; exact hq)
    rw [hx, he]
    exact ⟨_, rfl, rd_wr_same s _ _ _ (by decide), rfl, fun b hb => reg_wr_ne s _ _ _ _ (by simpa using hb)⟩
  · have he : s.dcoPullUpdate f phi = s.dcoStep f phi := by rw [State.dcoPullUpdate, hsrc, if_neg Bool.false_ne_true]
    have hx : exec (.dcoPullUpdate f phi) s = .next (s.dcoPullUpdate f phi) := by
      refine done_quiet _ ?_
      rw [he, dcoStep_of s f phi hm, State.on]
      split_ifs <;> exact hq
    rw [hx, he, dcoStep_of s f phi hm]
    refine ⟨_, rfl, ?_, ?_, ?_, fun b hb => ?_⟩
    · rw [State.on]; split_ifs <;> rfl
    · rw [State.on]; split_ifs <;> rfl
    · have hlocked : 9 ≤ s.clk.dco.near ∧ phi.natAbs < 20 ↔ 10 ≤ (if phi.natAbs < 20 then s.clk.dco.near + 1 else 0) := by
        split_ifs <;> omega
      refine (on_locked_ckMode (State.setDco (s.moveDco _ 10000) _) _ hm).trans ?_
      rw [decide_eq_true_eq, ← hlocked, and_comm]
    · exact on_wr_reg _ _ _ _ _ _ (by simpa using hb)

end Sys2Proof.Machine

/-! PROOFS. What a well that goes DRY, and a pump that is retired, leave alone (R23, R25). -/

namespace Sys2Proof.Machine

open Sys2Proof

/-! ### Registers that a well going DRY does not touch, but for its pumps' -/

/-- The register is none of those that well `w` of tile `t` writes as it goes DRY, its pumps' apart. -/
structure DryClear (t w b : Nat) : Prop where
  side : b ∉ sideRegs
  clpwr : ∀ k, k < 96 → b ≠ PH_CLPWR t k
  tie : b ≠ PH_TIE t
  cist : ∀ c, c < 3 → b ≠ PH_CIST t c
  prime : ∀ c, c < 3 → b ≠ PH_PRIME t c
  eng : b ≠ PH_ENG_STAT t
  win : b ≠ AD_WIN t w
  wtie : ∀ v, v < 15 → b ≠ WL_TIE t v
  track : ∀ v, v < 15 → b ≠ WL_TRACK t v
  prof : ∀ v, v < 15 → b ≠ WL_PROF_STAT t v
  well : ∀ o ∈ [0x10, 0x20, 0x3A, 0x3D, 0x50, 0x61, 0x80], b ≠ wlBase t w + o

/-- The registers of a tile's pumps are not touched by a well's going DRY, its own pumps' apart. -/
theorem dryClear_pump {t w v : Nat} (o u : Nat) (hw : w < 15) (hv : v < 15) (ho : (0x40 ≤ o ∧ o < 0x50) ∨ (0x68 ≤ o ∧ o < 0x6C)) :
    DryClear t w (wlBase u v + o) where
  side := by simp only [sideRegs, wlBase, phBase, ER_STAT, IC_SAT_ADDR, IC_SRC, HD_PWR_STAT, List.mem_cons, List.not_mem_nil, or_false, not_or]; omega
  clpwr := by simp only [wlBase, phBase, PH_CLPWR]; omega
  tie := by simp only [wlBase, phBase, PH_TIE]; omega
  cist := by simp only [wlBase, phBase, PH_CIST]; omega
  prime := by simp only [wlBase, phBase, PH_PRIME]; omega
  eng := by simp only [wlBase, phBase, PH_ENG_STAT]; omega
  win := by simp only [wlBase, phBase, AD_WIN]; omega
  wtie := by simp only [wlBase, phBase, WL_TIE]; omega
  track := by simp only [wlBase, phBase, WL_TRACK]; omega
  prof := by simp only [wlBase, phBase, WL_PROF_STAT]; omega
  well := by simp only [List.mem_cons, List.not_mem_nil, or_false, wlBase, phBase]; omega

theorem fedClusters_lt {w k : Nat} (h : k ∈ fedClusters w) : k < 96 := by
  unfold fedClusters at h
  split_ifs at h <;> simp at h <;> omega

theorem wellTies_lt {w n : Nat} (hw : w < 12) (h : n ∈ wellTies w) : n < 12 := by
  simp only [wellTies, List.mem_cons, List.not_mem_nil, or_false] at h
  omega

section
variable (s : State)

/-! ### Registers, part by part -/

theorem gateOn_reg (t k : Nat) (f : Fld) (b : Nat) (h : b ≠ PH_CLPWR t k) : (s.gateOn t k f).reg b = s.reg b :=
  (reg_wr_ne _ _ _ _ _ h).trans ((reg_wr_ne _ _ _ _ _ h).trans (reg_wr_ne _ _ _ _ _ h))

theorem gateDry_reg (t w b : Nat) (h : ∀ k, k < 96 → b ≠ PH_CLPWR t k) : (s.gateDry t w).reg b = s.reg b :=
  each_mem_keeps (fun u => u.reg b) _ (fun u k => u.gateOn t k PH_CLPWR.C_DRY) (fun u k hk => gateOn_reg u t k _ b (h k (fedClusters_lt hk))) s

theorem untie_reg (t w n b : Nat) (h : b ≠ WL_TIE t w) : (s.untie t w n).reg b = s.reg b := by
  unfold State.untie
  dsimp only
  split_ifs
  · exact reg_wr_ne _ _ _ _ _ h
  · split
    · exact (reg_wr_ne _ _ _ _ _ h).trans ((reg_wr_ne _ _ _ _ _ h).trans (reg_wr_ne _ _ _ _ _ h))
    · exact (reg_wr_ne _ _ _ _ _ h).trans ((reg_wr_ne _ _ _ _ _ h).trans ((reg_wr_ne _ _ _ _ _ h).trans
        ((reg_wr_ne _ _ _ _ _ h).trans (reg_wr_ne _ _ _ _ _ h))))
  · rfl

theorem openTie_reg (t n b : Nat) (h1 : b ≠ PH_TIE t) (h2 : b ≠ PH_CIST t (n / 4)) (ha : b ≠ WL_TIE t (tieWells n).1)
    (hb : b ≠ WL_TIE t (tieWells n).2) : (s.openTie t n).reg b = s.reg b :=
  (untie_reg _ _ _ _ _ hb).trans ((untie_reg _ _ _ _ _ ha).trans ((reg_wr_ne _ _ _ _ _ h2).trans (reg_wr_ne _ _ _ _ _ h1)))

theorem tieWells_lt {n : Nat} (h : n < 12) : (tieWells n).1 < 12 ∧ (tieWells n).2 < 12 := by
  simp only [tieWells]; omega

theorem openTies_reg (t w b : Nat) (h1 : b ≠ PH_TIE t) (h2 : ∀ c, c < 3 → b ≠ PH_CIST t c) (h3 : ∀ v, v < 15 → b ≠ WL_TIE t v) :
    (s.openTies t w).reg b = s.reg b := by
  unfold State.openTies
  split_ifs with hw
  · refine each_mem_keeps (fun u => u.reg b) _ (fun u n => if u.tieOn t n then u.openTie t n else u) (fun u n hn => ?_) s
    have hn12 := wellTies_lt hw hn
    have hlt := tieWells_lt hn12
    split_ifs
    · exact openTie_reg u t n b h1 (h2 _ (by omega)) (h3 _ (by omega)) (h3 _ (by omega))
    · rfl
  · rfl

theorem followersOf_lt {t w f : Nat} (h : f ∈ s.followersOf t w) : f < 14 := List.mem_range.mp (List.mem_filter.mp h).1

theorem endTracks_reg (t w b : Nat) (h1 : ∀ v, v < 15 → b ≠ WL_TRACK t v) (h2 : ∀ v, v < 15 → b ≠ WL_PROF_STAT t v) :
    (s.endTracks t w).reg b = s.reg b := by
  refine each_mem_keeps (fun u => u.reg b) _ (fun u f => ((u.wr (WL_TRACK t f) WL_TRACK.ACTIVE 0).wr (WL_PROF_STAT t f)
    WL_PROF_STAT.TRACKING 0).updMo t f (fun m => { m with v := 0, a := 0 })) (fun u f hf => ?_) s
  have hlt := followersOf_lt s hf
  exact (reg_wr_ne _ _ _ _ _ (h2 f (by omega))).trans (reg_wr_ne _ _ _ _ _ (h1 f (by omega)))

theorem dryRetry_reg (t w b : Nat) (h1 : b ≠ PH_ENG_STAT t) (h2 : b ∉ sideRegs) : (s.dryRetry t w).reg b = s.reg b := by
  unfold State.dryRetry
  split_ifs
  · exact (reg_wr_ne _ _ _ _ _ h1).trans (bump_reg _ _ _ h1 h2)
  · rfl

theorem modeDone_reg (t b : Nat) (h : b ≠ PH_ENG_STAT t) : (s.modeDone t).reg b = s.reg b := by
  unfold State.modeDone
  split
  · split_ifs
    · rfl
    · exact reg_wr_ne _ _ _ _ _ h
  · rfl

theorem takeMode_reg (t w b : Nat) (h : b ≠ PH_ENG_STAT t) : (s.takeMode t w).reg b = s.reg b := by
  unfold State.takeMode
  split_ifs
  · split
    · exact modeDone_reg _ t b h
    · rfl
  · rfl

theorem dryRegs_reg {t w b : Nat} (hw : w < 15) (h : DryClear t w b) : (s.dryRegs t w).reg b = s.reg b := by
  have hprof := h.prof w hw
  have htie := h.wtie w hw
  have htrack := h.track w hw
  have hcap : b ≠ WL_CAP t w := h.well 0x10 (by decide)
  have hpwm : b ≠ WL_PWM t w := h.well 0x20 (by decide)
  have hloop : b ≠ WL_LOOP_STAT t w := h.well 0x3A (by decide)
  have hhold : b ≠ WL_HOLD t w := h.well 0x3D (by decide)
  have hset : b ≠ WL_SETPT t w := h.well 0x50 (by decide)
  have hchk : b ≠ WL_CHK t w := h.well 0x61 (by decide)
  simp only [State.dryRegs, State.setStage, reg_wr, reg_setReg, if_neg h.win, if_neg hprof, if_neg htie, if_neg htrack, if_neg hcap, if_neg hpwm,
    if_neg hloop, if_neg hhold, if_neg hset, if_neg hchk]

@[simp] theorem graceOf_reg (t w : Nat) (x : Bool) (b : Nat) : (s.graceOf t w x).reg b = s.reg b := by
  unfold State.graceOf
  split_ifs <;> rfl

@[simp] theorem wantOf_reg (t k : Nat) (x : Bool) (b : Nat) : (s.wantOf t k x).reg b = s.reg b := by
  unfold State.wantOf
  dsimp only
  split_ifs <;> rfl

theorem voteChange_reg (t k b : Nat) (f : State → State) (h : (f s).reg b = s.reg b) : (s.voteChange t k f).reg b = s.reg b := by
  simp only [State.voteChange, graceOf_reg, wantOf_reg, h]

theorem setVotes_reg (t k : Nat) (x y : BitVec 128) (b : Nat) (h : b ≠ PH_CLPWR t k) : (s.setVotes t k x y).reg b = s.reg b :=
  (reg_wr_ne _ _ _ _ _ h).trans (reg_wr_ne _ _ _ _ _ h)

theorem dryVotes_reg (t w b : Nat) (h : ∀ k, k < 96 → b ≠ PH_CLPWR t k) : (s.dryVotes t w).reg b = s.reg b := by
  refine each_mem_keeps (fun u => u.reg b) _ _ (fun u k hk => ?_) s
  have hne := h k (fedClusters_lt hk)
  refine voteChange_reg u t k b _ ?_
  split_ifs
  · exact setVotes_reg _ _ _ _ _ _ hne
  · exact setVotes_reg _ _ _ _ _ _ hne

theorem primeView_reg (t c b : Nat) (h : b ≠ PH_PRIME t c) : (s.primeView t c).reg b = s.reg b :=
  (reg_wr_ne _ _ _ _ _ h).trans ((reg_wr_ne _ _ _ _ _ h).trans (reg_wr_ne _ _ _ _ _ h))

theorem primeViewOf_reg (t w b : Nat) (h : ∀ c, c < 3 → b ≠ PH_PRIME t c) : (s.primeViewOf t w).reg b = s.reg b := by
  unfold State.primeViewOf
  split_ifs
  · exact primeView_reg _ _ _ _ (h _ (by omega))
  · rfl

theorem wakeFail_reg (t w b : Nat) (h : b ≠ WL_VOTE t w) : (s.wakeFail t w).reg b = s.reg b := reg_wr_ne _ _ _ _ _ h

/-! ### A well that goes DRY -/

/-- One pump's part of its well's going DRY: PEN and PMD fall. -/
def State.pumpDry (s : State) (t w p : Nat) : State := (s.penLow t w p).wr (PM_LINK t w p) PM_LINK.PMD 0

/-- Gates, ties and relations go first. -/
def State.dryGates (s : State) (t w : Nat) : State := ((s.gateDry t w).openTies t w).endTracks t w

theorem dryGates_reg {t w b : Nat} (h : DryClear t w b) : (s.dryGates t w).reg b = s.reg b :=
  (endTracks_reg _ _ _ _ h.track h.prof).trans ((openTies_reg _ _ _ _ h.tie h.cist h.wtie).trans (gateDry_reg _ _ _ _ h.clpwr))

/-- Once the pumps' enables have fallen, what else a DRY well changes is in other registers. -/
theorem goDry_reg {t w b : Nat} (hw : w < 15) (h : DryClear t w b) :
    (s.goDry t w).reg b = ((s.dryGates t w).each ((s.dryGates t w).pumpsOf t w) (fun u p => u.pumpDry t w p)).reg b := by
  have hvote : b ≠ WL_VOTE t w := h.well 0x80 (by decide)
  have hset (u : State) (x : WellX) : (u.setWell t w x).reg b = u.reg b := rfl
  have hwake (u : State) (c : Bool) : (u.on c (·.wakeFail t w)).reg b = u.reg b := by
    cases c
    · rfl
    · exact wakeFail_reg u t w b hvote
  have hcap (u : State) : (u.capEvent t w).reg b = u.reg b := rfl
  have hwrb (u : State) (x : Bool) : (u.wrb (WL_VOTE t w) WL_VOTE.VPARKED x).reg b = u.reg b := reg_wr_ne _ _ _ _ _ hvote
  simp only [State.goDry, hcap, report_reg, unhold_reg, hwake, primeViewOf_reg _ _ _ _ h.prime, hwrb, dryVotes_reg _ _ _ _ h.clpwr, hset,
    dryRegs_reg _ hw h, takeMode_reg _ _ _ _ h.eng, dryRetry_reg _ _ _ _ h.eng h.side]
  rfl

/-- What the pumps' going DRY preserves of a register's word, the well's going DRY preserves. -/
theorem goDry_preserves {t w b : Nat} (P : Word → Prop) (hw : w < 15) (h : DryClear t w b)
    (hp : ∀ u p, p < 4 → P (State.reg u b) → P ((u.pumpDry t w p).reg b)) (hs : P (s.reg b)) : P ((s.goDry t w).reg b) := by
  rw [goDry_reg s hw h]
  have hall : ∀ (l : List Nat), (∀ p ∈ l, p < 4) → ∀ u : State, P (u.reg b) → P ((u.each l (fun v p => v.pumpDry t w p)).reg b) := by
    intro l
    induction l with
    | nil => exact fun _ _ hu => hu
    | cons p l ih => exact fun hl u hu => ih (fun q hq => hl q (List.mem_cons_of_mem _ hq)) _ (hp u p (hl p List.mem_cons_self) hu)
  refine hall _ (fun p hq => pumpsOf_lt _ hq) _ ?_
  rw [dryGates_reg s h]
  exact hs

/-! ### Raises that wait stay -/

theorem bump_fault (a : Nat) : (s.bump a).fault = s.fault := (congrArg State.fault (bump_rest s a) :)

@[simp] theorem gateDry_fault (t w : Nat) : (s.gateDry t w).fault = s.fault :=
  each_keeps State.fault _ (fun u k => u.gateOn t k PH_CLPWR.C_DRY) (fun _ _ => rfl) s

@[simp] theorem untie_fault (t w n : Nat) : (s.untie t w n).fault = s.fault := by
  unfold State.untie
  dsimp only
  split_ifs
  · rfl
  · split <;> rfl
  · rfl

@[simp] theorem openTies_fault (t w : Nat) : (s.openTies t w).fault = s.fault := by
  unfold State.openTies
  split_ifs
  · refine each_keeps State.fault _ (fun u n => if u.tieOn t n then u.openTie t n else u) (fun u n => ?_) s
    split_ifs
    · exact (untie_fault _ _ _ _).trans (untie_fault _ _ _ _)
    · rfl
  · rfl

@[simp] theorem endTracks_fault (t w : Nat) : (s.endTracks t w).fault = s.fault := by
  refine each_keeps State.fault _ _ (fun u f => ?_) s
  rfl

@[simp] theorem penLow_fault (t w p : Nat) : (s.penLow t w p).fault = s.fault := by
  unfold State.penLow
  dsimp only
  split_ifs <;> rfl

@[simp] theorem dryRetry_fault (t w : Nat) : (s.dryRetry t w).fault = s.fault := by
  unfold State.dryRetry
  split_ifs
  · exact bump_fault s _
  · rfl

@[simp] theorem modeDone_fault (t : Nat) : (s.modeDone t).fault = s.fault := by
  unfold State.modeDone
  split
  · split_ifs <;> rfl
  · rfl

@[simp] theorem takeMode_fault (t w : Nat) : (s.takeMode t w).fault = s.fault := by
  unfold State.takeMode
  split_ifs
  · split
    · exact modeDone_fault _ t
    · rfl
  · rfl

@[simp] theorem graceOf_fault (t w : Nat) (x : Bool) : (s.graceOf t w x).fault = s.fault := by
  unfold State.graceOf
  split_ifs <;> rfl

@[simp] theorem wantOf_fault (t k : Nat) (x : Bool) : (s.wantOf t k x).fault = s.fault := by
  unfold State.wantOf
  dsimp only
  split_ifs <;> rfl

@[simp] theorem dryVotes_fault (t w : Nat) : (s.dryVotes t w).fault = s.fault := by
  refine each_keeps State.fault _ _ (fun u k => ?_) s
  simp only [State.voteChange, graceOf_fault, wantOf_fault]
  split_ifs <;> rfl

@[simp] theorem primeViewOf_fault (t w : Nat) : (s.primeViewOf t w).fault = s.fault := by
  unfold State.primeViewOf
  split_ifs <;> rfl

@[simp] theorem report_fault (t w op : Nat) (ok : Bool) : (s.report t w op ok).fault = s.fault := by
  refine each_keeps State.fault _ _ (fun u n => ?_) s
  dsimp only
  split_ifs <;> rfl

@[simp] theorem dryRegs_fault (t w : Nat) : (s.dryRegs t w).fault = s.fault := by
  simp only [State.dryRegs, State.setStage, wr_fault, setReg_fault]
@[simp] theorem setWell_fault' (t w : Nat) (x : WellX) : (s.setWell t w x).fault = s.fault := rfl

theorem wakeFail_inflight (t w : Nat) : (s.wakeFail t w).fault.inflight = s.fault.inflight ++ [{ src := 30, tile := t, well := w }] := rfl

/-- A raise on its way to the Wellhead stays on its way as a well goes DRY. -/
theorem goDry_inflight {t w : Nat} {r : Raise} (h : r ∈ s.fault.inflight) : r ∈ (s.goDry t w).fault.inflight := by
  have hpumps (u : State) (l : List Nat) : (u.each l (fun v p => (v.penLow t w p).wr (PM_LINK t w p) PM_LINK.PMD 0)).fault = u.fault := by
    refine each_keeps State.fault l _ (fun v p => ?_) u
    rw [wr_fault, penLow_fault]
  have hon (u : State) (c : Bool) (hu : r ∈ u.fault.inflight) : r ∈ (u.on c (·.wakeFail t w)).fault.inflight := by
    cases c
    · exact hu
    · exact List.mem_append_left _ hu
  have hunhold (u : State) (x : Raise) : (u.unhold x).fault.inflight = u.fault.inflight := rfl
  have hcap (u : State) : (u.capEvent t w).fault = u.fault := rfl
  have hwrb (u : State) (x : Bool) : (u.wrb (WL_VOTE t w) WL_VOTE.VPARKED x).fault = u.fault := rfl
  simp only [State.goDry, hcap, report_fault, hunhold]
  refine hon _ _ ?_
  simp only [primeViewOf_fault, hwrb, dryVotes_fault, setWell_fault', dryRegs_fault, takeMode_fault, dryRetry_fault, hpumps, endTracks_fault,
    openTies_fault, gateDry_fault]
  exact h

end

end Sys2Proof.Machine

/-! PROOFS. The fault wire, re-arm and retirement of a pump (R90-R92). -/

namespace Sys2Proof.Machine

open Sys2Proof

section
variable (s : State)

/-! ### PEN falls on a pump (R23, R79) -/

theorem penLow_reg (t w p b : Nat) (h1 : b ≠ PM_LINK t w p) (h2 : b ≠ PM_STAT t w p) : (s.penLow t w p).reg b = s.reg b := by
  have h0 : ((s.wr (PM_LINK t w p) PM_LINK.PEN 0).wr (PM_STAT t w p) PM_STAT.REARM_PEND 0).reg b = s.reg b :=
    (reg_wr_ne _ _ _ _ _ h2).trans (reg_wr_ne _ _ _ _ _ h1)
  unfold State.penLow
  dsimp only
  split_ifs
  · exact (reg_wr_ne _ _ _ _ _ h2).trans h0
  · exact h0

theorem link_ne_stat (t w p q : Nat) : PM_LINK t w p ≠ PM_STAT t w q := by simp only [PM_LINK, PM_STAT]; omega
theorem link_ne_link {t w p q : Nat} (h : p ≠ q) : PM_LINK t w p ≠ PM_LINK t w q := by simp only [PM_LINK]; omega
theorem stat_ne_stat {t w p q : Nat} (h : p ≠ q) : PM_STAT t w p ≠ PM_STAT t w q := by simp only [PM_STAT]; omega

theorem penLow_pen (t w p : Nat) : (s.penLow t w p).flag (PM_LINK t w p) PM_LINK.PEN = false := by
  have h0 : ((s.wr (PM_LINK t w p) PM_LINK.PEN 0).wr (PM_STAT t w p) PM_STAT.REARM_PEND 0).flag (PM_LINK t w p) PM_LINK.PEN = false :=
    (flag_wr_ne _ _ _ _ _ _ (link_ne_stat t w p p)).trans (flag_wr_zero s _ _ (by decide))
  unfold State.penLow
  dsimp only
  split_ifs
  · exact (flag_wr_ne _ _ _ _ _ _ (link_ne_stat t w p p)).trans h0
  · exact h0

/-- A pump whose PEN is low keeps it low as any pump of its well goes DRY. -/
theorem pumpDry_pen (t w p q : Nat) (h : s.flag (PM_LINK t w p) PM_LINK.PEN = false) : (s.pumpDry t w q).flag (PM_LINK t w p) PM_LINK.PEN = false := by
  by_cases hpq : p = q
  · subst hpq
    exact (flag_wr_fld _ _ _ _ _ _ (by decide) (by decide)).trans (penLow_pen s t w p)
  · have hreg : (s.pumpDry t w q).reg (PM_LINK t w p) = s.reg (PM_LINK t w p) :=
      (reg_wr_ne _ _ _ _ _ (link_ne_link hpq)).trans (penLow_reg s t w q _ (link_ne_link hpq) (link_ne_stat t w p q))
    rw [flag_of_reg hreg, h]

/-- A RETIRED pump stays RETIRED as PEN falls on a pump of its well. -/
theorem penLow_retired (t w p q : Nat) (h : s.service t w p = 3) : (s.penLow t w q).service t w p = 3 := by
  by_cases hpq : p = q
  · subst hpq
    have h0 : ((s.wr (PM_LINK t w p) PM_LINK.PEN 0).wr (PM_STAT t w p) PM_STAT.REARM_PEND 0).service t w p = 3 :=
      (rd_wr_fld _ _ _ _ _ _ (by decide) (by decide)).trans ((rd_wr_ne _ _ _ _ _ _ (link_ne_stat t w p p).symm).trans h)
    have hin : ((s.wr (PM_LINK t w p) PM_LINK.PEN 0).wr (PM_STAT t w p) PM_STAT.REARM_PEND 0).inService t w p = false := by
      simp [State.inService, h0]
    simp only [State.penLow, hin, Bool.false_eq_true, if_false]
    exact h0
  · have hreg : (s.penLow t w q).reg (PM_STAT t w p) = s.reg (PM_STAT t w p) :=
      penLow_reg s t w q _ (link_ne_stat t w q p).symm (stat_ne_stat hpq)
    exact (rd_of_reg hreg _).trans h

theorem pumpDry_retired (t w p q : Nat) (h : s.service t w p = 3) : (s.pumpDry t w q).service t w p = 3 :=
  (rd_wr_ne _ _ _ _ _ _ (link_ne_stat t w q p).symm).trans (penLow_retired s t w p q h)

theorem pumpDry_reg (t w p b : Nat) (h1 : b ≠ PM_LINK t w p) (h2 : b ≠ PM_STAT t w p) : (s.pumpDry t w p).reg b = s.reg b :=
  (reg_wr_ne _ _ _ _ _ h1).trans (penLow_reg s t w p b h1 h2)

/-! ### A pump becomes RETIRED (R23, R26) -/

/-- What is said of a pump whose well may go DRY: RETIRED for a reason, its PEN low, and a raise on its way. -/
structure Retired (t w p reason : Nat) (r : Raise) (u : State) : Prop where
  service : u.service t w p = 3
  reason : u.rd (PM_SVC t w p) PM_SVC.REASON = reason
  pen : u.flag (PM_LINK t w p) PM_LINK.PEN = false
  raised : r ∈ u.fault.inflight

variable {s} {t w p reason : Nat} {r : Raise}

theorem Retired.of_reg {u : State} (h : Retired t w p reason r s) (hs : u.reg (PM_STAT t w p) = s.reg (PM_STAT t w p))
    (hv : u.reg (PM_SVC t w p) = s.reg (PM_SVC t w p)) (hl : u.reg (PM_LINK t w p) = s.reg (PM_LINK t w p))
    (hr : r ∈ s.fault.inflight → r ∈ u.fault.inflight) : Retired t w p reason r u where
  service := (rd_of_reg hs _).trans h.service
  reason := (rd_of_reg hv _).trans h.reason
  pen := (flag_of_reg hl _).trans h.pen
  raised := hr h.raised

theorem dryClear_stat (t : Nat) (hw : w < 15) (hp : p < 4) : DryClear t w (PM_STAT t w p) := by
  have h := dryClear_pump (t := t) (0x42 + p * 4) t hw hw (by omega)
  have he : PM_STAT t w p = wlBase t w + (0x42 + p * 4) := by simp only [PM_STAT]; omega
  rw [he]; exact h

theorem dryClear_link (t : Nat) (hw : w < 15) (hp : p < 4) : DryClear t w (PM_LINK t w p) := by
  have h := dryClear_pump (t := t) (0x40 + p * 4) t hw hw (by omega)
  have he : PM_LINK t w p = wlBase t w + (0x40 + p * 4) := by simp only [PM_LINK]; omega
  rw [he]; exact h

theorem dryClear_svc (t : Nat) (hw : w < 15) (hp : p < 4) : DryClear t w (PM_SVC t w p) := by
  have h := dryClear_pump (t := t) (0x68 + p) t hw hw (by omega)
  have he : PM_SVC t w p = wlBase t w + (0x68 + p) := by simp only [PM_SVC]; omega
  rw [he]; exact h

theorem Retired.goDry (hw : w < 15) (hp : p < 4) (h : Retired t w p reason r s) : Retired t w p reason r (s.goDry t w) where
  service := goDry_preserves s (fun x => PM_STAT.SERVICE.get x = 3) hw (dryClear_stat t hw hp) (fun u q _ hu => pumpDry_retired u t w p q hu) h.service
  reason := by
    have hne (q : Nat) (hq : q < 4) : PM_SVC t w p ≠ PM_LINK t w q ∧ PM_SVC t w p ≠ PM_STAT t w q := by
      simp only [PM_SVC, PM_LINK, PM_STAT]; omega
    exact goDry_preserves s (fun x => PM_SVC.REASON.get x = reason) hw (dryClear_svc t hw hp)
      (fun u q hq hu => by rw [pumpDry_reg u t w q _ (hne q hq).1 (hne q hq).2]; exact hu) h.reason
  pen := goDry_preserves s (fun x => (PM_LINK.PEN.get x == 1) = false) hw (dryClear_link t hw hp) (fun u q _ hu => pumpDry_pen u t w p q hu) h.pen
  raised := goDry_inflight s h.raised

theorem unprime_reg {b : Nat} (hw : w < 15) (h : DryClear t w b) : (s.unprime t w).reg b = s.reg b := by
  have hset : b ≠ WL_SETPT t w := h.well 0x50 (by decide)
  have heach (u : State) (l : List Nat) : (u.each l (fun v q => v.updPump t w q (fun x => { x with measuring := false }))).reg b = u.reg b :=
    each_keeps (fun v => v.reg b) l (fun v q => v.updPump t w q _) (fun _ _ => rfl) u
  unfold State.unprime
  split_ifs
  · dsimp only
    rw [primeViewOf_reg _ _ _ _ h.prime, heach, updMo_reg, reg_wr_ne _ _ _ _ _ (h.track w hw), reg_wr_ne _ _ _ _ _ h.win,
      endTracks_reg _ _ _ _ h.track h.prof, State.setStage, reg_wr_ne _ _ _ _ _ hset]
  · rfl

theorem unprime_fault : (s.unprime t w).fault = s.fault := by
  have heach (u : State) (l : List Nat) : (u.each l (fun v q => v.updPump t w q (fun x => { x with measuring := false }))).fault = u.fault :=
    each_keeps State.fault l (fun v q => v.updPump t w q _) (fun _ _ => rfl) u
  unfold State.unprime
  split_ifs
  · simp only [primeViewOf_fault, heach, updMo_fault, wr_fault, endTracks_fault, State.setStage]
  · rfl

theorem Retired.wakeFail (hw : w < 15) (hp : p < 4) (h : Retired t w p reason r s) : Retired t w p reason r ((s.unprime t w).wakeFail t w) := by
  have hone (b : Nat) (hb : DryClear t w b) : ((s.unprime t w).wakeFail t w).reg b = s.reg b :=
    (wakeFail_reg _ t w b (hb.well 0x80 (by decide))).trans (unprime_reg hw hb)
  refine h.of_reg (hone _ (dryClear_stat t hw hp)) (hone _ (dryClear_svc t hw hp)) (hone _ (dryClear_link t hw hp)) (fun hr => ?_)
  rw [wakeFail_inflight, unprime_fault]
  exact List.mem_append_left _ hr

/-- PEN has fallen, and the pump reads RETIRED with its reason. -/
def State.pumpOut (s : State) (t w p reason : Nat) : State := ((s.penLow t w p).setService t w p 3).wr (PM_SVC t w p) PM_SVC.REASON reason

theorem pumpOut_retired (hr : r ∈ s.fault.inflight) (hre : reason < 16) : Retired t w p reason r (s.pumpOut t w p reason) where
  service := by
    have hsvc : PM_STAT t w p ≠ PM_SVC t w p := by simp only [PM_STAT, PM_SVC]; omega
    rw [State.service, State.pumpOut, rd_wr_ne _ _ _ _ _ _ hsvc, State.setService, rd_wr_same _ _ _ _ (by decide)]
    rfl
  reason := by
    rw [State.pumpOut, rd_wr_same _ _ _ _ (by decide)]
    exact Nat.mod_eq_of_lt hre
  pen := by
    have hlnk : PM_LINK t w p ≠ PM_SVC t w p := by simp only [PM_LINK, PM_SVC]; omega
    rw [State.pumpOut, flag_wr_ne _ _ _ _ _ _ hlnk, State.setService, flag_wr_ne _ _ _ _ _ _ (link_ne_stat t w p p), penLow_pen]
  raised := by
    rw [State.pumpOut, wr_fault, State.setService, wr_fault, penLow_fault]
    exact hr

theorem Retired.updPump {f : PumpX → PumpX} (h : Retired t w p reason r s) : Retired t w p reason r (s.updPump t w p f) :=
  h.of_reg (updPump_reg _ _ _ _ _ _) (updPump_reg _ _ _ _ _ _) (updPump_reg _ _ _ _ _ _) id

theorem Retired.holdPh {x : Raise} (h : Retired t w p reason r s) : Retired t w p reason r (s.holdPh x) := by
  refine h.of_reg (holdPh_reg _ _ _) (holdPh_reg _ _ _) (holdPh_reg _ _ _) (fun hin => ?_)
  unfold State.holdPh
  split_ifs
  · exact hin
  · exact List.mem_append_left _ hin

/-- A pump is retired for a reason; what was on its way to the Wellhead still is. -/
theorem retire_retired (hw : w < 15) (hp : p < 4) (hn : s.service t w p ≠ 3) (hr : r ∈ s.fault.inflight) (hre : reason < 16) :
    Retired t w p reason r (s.retire t w p reason) := by
  have h2 (f : PumpX → PumpX) : Retired t w p reason r ((s.pumpOut t w p reason).updPump t w p f) := (pumpOut_retired hr hre).updPump
  unfold State.retire
  rw [if_neg hn]
  dsimp only
  split_ifs
  · exact ((h2 _).goDry hw hp).holdPh
  · exact (h2 _).goDry hw hp
  · exact (h2 _).wakeFail hw hp
  · exact h2 _

end

end Sys2Proof.Machine

/-! PROOFS. The classes of a pump fault, and what each brings (R90-R92). -/

namespace Sys2Proof.Machine

open Sys2Proof

section
variable {s : State} {t w p : Nat}

/-! ### A fault is recorded (R90, R92) -/

theorem tagClass_of_lt {edges : Nat} (h : edges < 90) : tagClass edges = if edges = 0 then 3 else if edges ≤ 3 then 1 else 4 := by
  unfold tagClass
  rw [if_pos h]

theorem tagClass_over {edges : Nat} (h : 90 ≤ edges) : tagClass edges = clsOvertemp := by
  unfold tagClass
  rw [if_neg (by omega), if_neg (by omega), if_neg (by omega)]

/-- The registers of a recorded fault: its class, and the count of a SHORT. -/
def State.faultNoted (s : State) (t w p cls : Nat) : State :=
  (s.wr (PM_STAT t w p) PM_STAT.LAST_FAULT cls).on (decide (cls = clsShort)) (·.wr (PM_STAT t w p) ctrCount (s.rd (PM_STAT t w p) ctrCount + 1))

theorem recordFault_counts (cls : Nat) (h : s.rd (PM_STAT t w p) ctrCount + 1 < 0xFFFFFFFF) :
    s.recordFault t w p cls = (s.faultNoted t w p cls).raisePh { src := 9, tile := t, well := w, sub := p } := by
  have hcount : (s.wr (PM_STAT t w p) PM_STAT.LAST_FAULT cls).rd (PM_STAT t w p) ctrCount = s.rd (PM_STAT t w p) ctrCount :=
    rd_wr_fld _ _ _ _ _ _ (by decide) (by decide)
  unfold State.recordFault State.faultNoted State.on
  dsimp only
  by_cases hc : cls = clsShort
  · rw [if_pos hc, if_pos (decide_eq_true hc), bump_counts _ _ (by rw [hcount]; exact h), hcount]
  · rw [if_neg hc, if_neg (by simpa using hc)]

theorem faultNoted_reg (cls b : Nat) (h : b ≠ PM_STAT t w p) : (s.faultNoted t w p cls).reg b = s.reg b :=
  (on_wr_reg _ _ _ _ _ _ h).trans (reg_wr_ne _ _ _ _ _ h)

theorem faultNoted_fld (cls : Nat) (g : Fld) (hok : g.ok = true) (h1 : PM_STAT.LAST_FAULT.apart g = true) (h2 : ctrCount.apart g = true) :
    (s.faultNoted t w p cls).rd (PM_STAT t w p) g = s.rd (PM_STAT t w p) g := by
  have h0 : (s.wr (PM_STAT t w p) PM_STAT.LAST_FAULT cls).rd (PM_STAT t w p) g = s.rd (PM_STAT t w p) g := rd_wr_fld _ _ _ _ _ _ hok h1
  unfold State.faultNoted State.on
  split_ifs
  · exact (rd_wr_fld _ _ _ _ _ _ hok h2).trans h0
  · exact h0

theorem faultNoted_class (cls : Nat) (h : cls < 16) : (s.faultNoted t w p cls).rd (PM_STAT t w p) PM_STAT.LAST_FAULT = cls := by
  have h0 : (s.wr (PM_STAT t w p) PM_STAT.LAST_FAULT cls).rd (PM_STAT t w p) PM_STAT.LAST_FAULT = cls :=
    (rd_wr_same _ _ _ _ (by decide)).trans (Nat.mod_eq_of_lt h)
  unfold State.faultNoted State.on
  split_ifs
  · exact (rd_wr_fld _ _ _ _ _ _ (by decide) (by decide)).trans h0
  · exact h0

theorem faultNoted_count (cls : Nat) (h : s.rd (PM_STAT t w p) ctrCount + 1 < 0xFFFFFFFF) :
    (s.faultNoted t w p cls).rd (PM_STAT t w p) ctrCount = s.rd (PM_STAT t w p) ctrCount + (if cls = clsShort then 1 else 0) := by
  unfold State.faultNoted State.on
  by_cases hc : cls = clsShort
  · rw [if_pos (decide_eq_true hc), if_pos hc, rd_wr_same _ _ _ _ (by decide), Nat.mod_eq_of_lt]
    have : ctrCount.width = 32 := rfl
    rw [this]; omega
  · rw [if_neg (by simpa using hc), if_neg hc, Nat.add_zero]
    exact rd_wr_fld _ _ _ _ _ _ (by decide) (by decide)

theorem faultNoted_rest (cls : Nat) : { s.faultNoted t w p cls with regs := s.regs } = s := by
  unfold State.faultNoted State.on
  split_ifs <;> rfl

@[simp] theorem faultNoted_fault (cls : Nat) : (s.faultNoted t w p cls).fault = s.fault := (congrArg State.fault (faultNoted_rest cls) :)
theorem faultNoted_pump (cls u v q : Nat) : (s.faultNoted t w p cls).pump u v q = s.pump u v q :=
  (congrArg (fun x : State => x.pump u v q) (faultNoted_rest (s := s) (t := t) (w := w) (p := p) cls) :)

/-! ### A fault is classed (R92) -/

/-- The pump's fault has its class and is on its way to the Wellhead. -/
def State.faultClassed (s : State) (t w p cls : Nat) : State :=
  ((s.updPump t w p (fun q => { q with classify := false })).faultNoted t w p cls).raisePh { src := 9, tile := t, well := w, sub := p }

theorem faultClassify_of (edges : Nat) (hok : s.pumpOk t w p = true) (hc : (s.pump t w p).classify = true)
    (h : s.rd (PM_STAT t w p) ctrCount + 1 < 0xFFFFFFFF) : s.faultClassify t w p edges =
      if (s.pump t w p).counts then (s.faultClassed t w p (tagClass edges)).actFault t w p (tagClass edges) ((s.pump t w p).lowAt.getD s.clk.ns)
      else s.faultClassed t w p (tagClass edges) := by
  have hr := recordFault_counts (s := s.updPump t w p (fun q => { q with classify := false })) (t := t) (w := w) (p := p) (tagClass edges) h
  simp only [State.faultClassify, hok, hc, Bool.and_self, if_true, hr]
  rfl

theorem faultClassed_reg (cls b : Nat) (h : b ≠ PM_STAT t w p) : (s.faultClassed t w p cls).reg b = s.reg b :=
  faultNoted_reg (s := s.updPump t w p (fun q => { q with classify := false })) cls b h

theorem faultClassed_pump (cls : Nat) : (s.faultClassed t w p cls).pump t w p = { s.pump t w p with classify := false } := by
  unfold State.faultClassed
  rw [raisePh_pump, faultNoted_pump, updPump_same]

theorem faultClassed_class (cls : Nat) (h : cls < 16) : (s.faultClassed t w p cls).rd (PM_STAT t w p) PM_STAT.LAST_FAULT = cls :=
  faultNoted_class (s := s.updPump t w p (fun q => { q with classify := false })) cls h

theorem faultClassed_count (cls : Nat) (h : s.rd (PM_STAT t w p) ctrCount + 1 < 0xFFFFFFFF) :
    (s.faultClassed t w p cls).rd (PM_STAT t w p) ctrCount = s.rd (PM_STAT t w p) ctrCount + (if cls = clsShort then 1 else 0) :=
  faultNoted_count (s := s.updPump t w p (fun q => { q with classify := false })) cls h

theorem faultClassed_service (cls : Nat) : (s.faultClassed t w p cls).service t w p = s.service t w p :=
  faultNoted_fld (s := s.updPump t w p (fun q => { q with classify := false })) cls PM_STAT.SERVICE (by decide) (by decide) (by decide)

theorem faultClassed_inflight (cls : Nat) :
    (s.faultClassed t w p cls).fault.inflight = s.fault.inflight ++ [{ src := 9, tile := t, well := w, sub := p }] := by
  unfold State.faultClassed
  show ((s.updPump t w p (fun q => { q with classify := false })).faultNoted t w p cls).fault.inflight ++ _ = _
  rw [faultNoted_fault, updPump_fault]

theorem faultClassed_now (cls : Nat) : (s.faultClassed t w p cls).fault.now = s.fault.now := by
  unfold State.faultClassed
  rw [raisePh_now, faultNoted_fault, updPump_fault]

end

/-! ### What a class brings (R92) -/

section
variable {s : State} {t w p cls edge : Nat}

theorem actFault_over (h : s.service t w p ≠ 3) : s.actFault t w p clsOvertemp edge = s.retire t w p 3 := by
  unfold State.actFault
  dsimp only
  rw [if_neg h, if_pos rfl]

theorem actFault_second (h : s.service t w p ≠ 3) (hc : cls ≠ clsOvertemp) (h2 : (s.pump t w p).second edge = true) :
    s.actFault t w p cls edge = s.updPump t w p (fun q => { q with retire := lastingReason cls, lasting := true, rearm := 0 }) := by
  unfold State.actFault
  dsimp only
  rw [if_neg h, if_neg hc, if_pos (.inl h2)]

theorem actFault_first (h : s.service t w p ≠ 3) (hc : cls ≠ clsOvertemp) (h2 : (s.pump t w p).second edge = false)
    (hs : s.flag HD_IMG_STAT HD_IMG_STAT.SAFE = false ∨ w = 14) : s.actFault t w p cls edge =
      (s.updPump t w p (fun q => { q with faultAt := some edge })).on (s.flag (PM_LINK t w p) PM_LINK.PEN) (fun u =>
        (u.wr (PM_STAT t w p) PM_STAT.REARM_PEND 1).updPump t w p (fun q => { q with rearm := 1 })) := by
  have hn : ¬ ((s.pump t w p).second edge = true ∨ s.flag HD_IMG_STAT HD_IMG_STAT.SAFE = true ∧ w < 14) := by
    rw [h2]
    rcases hs with hs | hs
    · simp [hs]
    · simp [hs]
  unfold State.actFault State.on
  dsimp only
  rw [if_neg h, if_neg hc, if_neg hn]

theorem second_iff (q : PumpX) (edge : Nat) : q.second edge = true ↔ q.lasting = true ∨ ∃ a, q.faultAt = some a ∧ edge ≤ a + 1000000 := by
  unfold PumpX.second
  cases h : q.faultAt <;> simp

end

/-! ### The wire, the re-arm pulse and the lower trip (R90-R92) -/

section
variable {s : State} {t w p : Nat}

theorem faultClassify_quiet (edges : Nat) (hok : s.pumpOk t w p = true) (hc : (s.pump t w p).classify = true)
    (hn : (s.pump t w p).counts = false) (h : s.rd (PM_STAT t w p) ctrCount + 1 < 0xFFFFFFFF) :
    s.faultClassify t w p edges = s.faultClassed t w p (tagClass edges) := by
  rw [faultClassify_of edges hok hc h, hn, if_neg Bool.false_ne_true]

theorem faultClassify_counted (edges : Nat) (hok : s.pumpOk t w p = true) (hc : (s.pump t w p).classify = true)
    (hn : (s.pump t w p).counts = true) (h : s.rd (PM_STAT t w p) ctrCount + 1 < 0xFFFFFFFF) : s.faultClassify t w p edges =
      (s.faultClassed t w p (tagClass edges)).actFault t w p (tagClass edges) ((s.pump t w p).lowAt.getD s.clk.ns) := by
  rw [faultClassify_of edges hok hc h, hn, if_pos rfl]

theorem strikeTest_rest : { s.strikeTest t w p with wells := s.wells } = s := by
  unfold State.strikeTest
  split_ifs <;> rfl

@[simp] theorem strikeTest_reg (b : Nat) : (s.strikeTest t w p).reg b = s.reg b := by
  unfold State.strikeTest
  split_ifs <;> rfl

@[simp] theorem strikeTest_fault : (s.strikeTest t w p).fault = s.fault := (congrArg State.fault (strikeTest_rest (s := s) (t := t) (w := w) (p := p)) :)
theorem strikeTest_pumps : (s.strikeTest t w p).pumps = s.pumps := (congrArg State.pumps (strikeTest_rest (s := s) (t := t) (w := w) (p := p)) :)

/-- The wire has fallen: the pump is latched, and its PWM held low where PEN is high. -/
def State.wireFallen (s : State) (t w p : Nat) (f : Bool) : State :=
  ((s.strikeTest t w p).wr (PM_STAT t w p) PM_STAT.LATCHED 1).updPump t w p (fun q => { q with
    faultPeriod := true, wirePeriod := true, lowAt := some s.clk.ns, counts := s.flag (PM_LINK t w p) PM_LINK.PEN || f
    classify := true, pwmHeld := q.pwmHeld || s.flag (PM_LINK t w p) PM_LINK.PEN })

theorem faultWireFall_of (f : Bool) (hok : s.pumpOk t w p = true) (hl : s.flag (PM_STAT t w p) PM_STAT.LATCHED = false) :
    s.faultWireFall t w p f = s.wireFallen t w p f := by
  unfold State.faultWireFall
  rw [hok, hl]
  rfl

theorem wireFallen_fault (f : Bool) : (s.wireFallen t w p f).fault = s.fault := by
  rw [State.wireFallen, updPump_fault, wr_fault, strikeTest_fault]

theorem pumpRearm_of (hok : s.pumpOk t w p = true) (hr : (s.pump t w p).rearm = 1) :
    s.pumpRearm t w p = (s.wr (PM_LINK t w p) PM_LINK.PEN 0).updPump t w p (fun q => { q with rearm := 2 }) := by
  unfold State.pumpRearm
  rw [hok, hr]
  rfl

/-- PEN has returned high after its pulse. -/
def State.penReturned (s : State) (t w p : Nat) : State :=
  ((s.penRise t w p).wr (PM_STAT t w p) PM_STAT.REARM_PEND 0).updPump t w p (fun q => { q with rearm := 3 })

theorem rearmPenRelease_of (hok : s.pumpOk t w p = true) (hr : (s.pump t w p).rearm = 2) :
    s.rearmPenRelease t w p = (s.penReturned t w p).on (!s.flag (PM_STAT t w p) PM_STAT.LATCHED) (·.backInSharing t w p) := by
  unfold State.rearmPenRelease
  rw [hok, hr]
  cases s.flag (PM_STAT t w p) PM_STAT.LATCHED <;> rfl

theorem on_backInSharing_reg (c : Bool) (b : Nat) : (s.on c (·.backInSharing t w p)).reg b = s.reg b := by cases c <;> rfl
theorem on_backInSharing_fault (c : Bool) : (s.on c (·.backInSharing t w p)).fault = s.fault := by cases c <;> rfl
theorem on_backInSharing_rearm (c : Bool) : ((s.on c (·.backInSharing t w p)).pump t w p).rearm = (s.pump t w p).rearm := by
  cases c
  · rfl
  · show ((s.updPump t w p (fun q => { q with pwmHeld := false, faultPeriod := true })).pump t w p).rearm = _
    rw [updPump_same]

theorem rearmCheck_of (hok : s.pumpOk t w p = true) (hr : (s.pump t w p).rearm = 3) :
    s.rearmCheck t w p = if s.flag (PM_STAT t w p) PM_STAT.LATCHED then
      s.updPump t w p (fun q => { q with rearm := 0, lasting := true, classify := true, counts := true })
    else s.updPump t w p (fun q => { q with rearm := 0 }) := by
  unfold State.rearmCheck
  rw [hok, hr]
  rfl

/-- The latch is cleared. -/
def State.unlatched (s : State) (t w p : Nat) : State :=
  (s.wr (PM_STAT t w p) PM_STAT.LATCHED 0).updPump t w p (fun q => { q with lowAt := none, faultPeriod := true, wirePeriod := true })

theorem faultWireRise_of (hok : s.pumpOk t w p = true) (hl : s.flag (PM_STAT t w p) PM_STAT.LATCHED = true) :
    s.faultWireRise t w p = if (s.pump t w p).rearm = 1 ∨ (s.pump t w p).rearm = 2 ∨ (s.pump t w p).retire ≠ 0 then s.unlatched t w p
      else (s.unlatched t w p).backInSharing t w p := by
  unfold State.faultWireRise
  rw [hok, hl]
  rfl

theorem softShortTrip_of (hok : s.pumpOk t w p = true) (hpen : s.flag (PM_LINK t w p) PM_LINK.PEN = true) (hin : s.inService t w p = true)
    (ht : s.img.trip < 2560) : s.softShortTrip t w p =
      ((((s.strikeTest t w p).recordFault t w p clsShort).updPump t w p (fun q => { q with faultPeriod := true, pwmHeld := true })).actFault t w p
        clsShort s.clk.ns).wr (PM_LINK t w p) PM_LINK.PEN 0 := by
  unfold State.softShortTrip
  rw [hok, hpen, hin, decide_eq_true ht]
  rfl

theorem recordFault_inflight (cls : Nat) : { src := 9, tile := t, well := w, sub := p } ∈ (s.recordFault t w p cls).fault.inflight :=
  List.mem_append_right _ (List.mem_singleton_self _)

/-- What a class brings keeps the raise of a SHORT or of a fault that is no OVERTEMP. -/
theorem actFault_fault {cls edge : Nat} (hc : cls ≠ clsOvertemp) : (s.actFault t w p cls edge).fault = s.fault := by
  unfold State.actFault
  dsimp only
  rw [if_neg hc]
  split_ifs <;> rfl

/-- A fault of an enabled pump that is no OVERTEMP leaves its service state and all other registers, and is counted as a first or a second one. -/
theorem faultClassify_enabled {edges e : Nat} (hok : s.pumpOk t w p = true) (hc : (s.pump t w p).classify = true)
    (hn : (s.pump t w p).counts = true) (hsv : s.service t w p ≠ 3) (hsafe : s.flag HD_IMG_STAT HD_IMG_STAT.SAFE = false ∨ w = 14)
    (he : e = (s.pump t w p).lowAt.getD s.clk.ns) (hlt : edges < 90) (h : s.rd (PM_STAT t w p) ctrCount + 1 < 0xFFFFFFFF) :
    ((s.pump t w p).second e = true ∧ s.faultClassify t w p edges = (s.faultClassed t w p (tagClass edges)).updPump t w p
        (fun q => { q with retire := lastingReason (tagClass edges), lasting := true, rearm := 0 })) ∨
    ((s.pump t w p).second e = false ∧ s.faultClassify t w p edges =
      ((s.faultClassed t w p (tagClass edges)).updPump t w p (fun q => { q with faultAt := some e })).on (s.flag (PM_LINK t w p) PM_LINK.PEN) (fun u =>
        (u.wr (PM_STAT t w p) PM_STAT.REARM_PEND 1).updPump t w p (fun q => { q with rearm := 1 }))) := by
  have hcls : tagClass edges ≠ clsOvertemp := by
    rw [tagClass_of_lt hlt]
    split_ifs <;> decide
  have hsv' : (s.faultClassed t w p (tagClass edges)).service t w p ≠ 3 := by rw [faultClassed_service]; exact hsv
  have hsec : ((s.faultClassed t w p (tagClass edges)).pump t w p).second e = (s.pump t w p).second e := by rw [faultClassed_pump]; rfl
  have himg : HD_IMG_STAT ≠ PM_STAT t w p := by simp only [HD_IMG_STAT, PM_STAT, wlBase, phBase]; omega
  have hsafe' : (s.faultClassed t w p (tagClass edges)).flag HD_IMG_STAT HD_IMG_STAT.SAFE = false ∨ w = 14 := by
    rwa [flag_of_reg (faultClassed_reg _ _ himg)]
  have hpen : (s.faultClassed t w p (tagClass edges)).flag (PM_LINK t w p) PM_LINK.PEN = s.flag (PM_LINK t w p) PM_LINK.PEN :=
    flag_of_reg (faultClassed_reg _ _ (link_ne_stat t w p p)) _
  rw [faultClassify_counted edges hok hc hn h, ← he]
  cases h2 : (s.pump t w p).second e with
  | true => exact .inl ⟨rfl, actFault_second hsv' hcls (hsec.trans h2)⟩
  | false => exact .inr ⟨rfl, by rw [actFault_first hsv' hcls (hsec.trans h2) hsafe', hpen]⟩

end

section
variable {s : State} {t w p : Nat}

theorem overtempNoted_service : ((s.updPump t w p (fun q => { q with classify := false })).recordFault t w p clsOvertemp).service t w p =
    s.service t w p :=
  rd_wr_fld (s.updPump t w p (fun q => { q with classify := false })) (PM_STAT t w p) (PM_STAT t w p) PM_STAT.LAST_FAULT PM_STAT.SERVICE clsOvertemp
    (by decide) (by decide)

theorem faultClassify_over {edges : Nat} (hok : s.pumpOk t w p = true) (hc : (s.pump t w p).classify = true)
    (hn : (s.pump t w p).counts = true) (hsv : s.service t w p ≠ 3) (h : 90 ≤ edges) : s.faultClassify t w p edges =
      ((s.updPump t w p (fun q => { q with classify := false })).recordFault t w p clsOvertemp).retire t w p 3 := by
  have hsv' : ((s.updPump t w p (fun q => { q with classify := false })).recordFault t w p clsOvertemp).service t w p ≠ 3 := by
    rw [overtempNoted_service]; exact hsv
  simp only [State.faultClassify, hok, hc, hn, Bool.and_self, if_true, tagClass_over h]
  exact actFault_over hsv'

end

/-- The re-arm that a first fault asks for changes no other register, no service state and no class. -/
theorem rearmAsked_reg {s : State} (t w p b : Nat) (c : Bool) (h : b ≠ PM_STAT t w p) : (s.on c (fun u =>
    (u.wr (PM_STAT t w p) PM_STAT.REARM_PEND 1).updPump t w p (fun q => { q with rearm := 1 }))).reg b = s.reg b := by
  cases c
  · rfl
  · exact reg_wr_ne s _ _ _ _ h

theorem rearmAsked_rd {s : State} (t w p : Nat) (g : Fld) (c : Bool) (hok : g.ok = true) (h : PM_STAT.REARM_PEND.apart g = true) : (s.on c (fun u =>
    (u.wr (PM_STAT t w p) PM_STAT.REARM_PEND 1).updPump t w p (fun q => { q with rearm := 1 }))).rd (PM_STAT t w p) g = s.rd (PM_STAT t w p) g := by
  cases c
  · rfl
  · exact rd_wr_fld s _ _ _ _ _ hok h

theorem rearmAsked_fault {s : State} (t w p : Nat) (c : Bool) : (s.on c (fun u =>
    (u.wr (PM_STAT t w p) PM_STAT.REARM_PEND 1).updPump t w p (fun q => { q with rearm := 1 }))).fault = s.fault := by
  cases c <;> rfl

theorem rearmAsked_pump {s : State} (t w p : Nat) (c : Bool) : (s.on c (fun u =>
    (u.wr (PM_STAT t w p) PM_STAT.REARM_PEND 1).updPump t w p (fun q => { q with rearm := 1 }))).pump t w p =
      { s.pump t w p with rearm := if c then 1 else (s.pump t w p).rearm } := by
  cases c
  · rfl
  · simp [State.on]

theorem pumpFault_classed {s : State} {t w p edges e : Nat} (hq : s.quiet) (hok : s.pumpOk t w p = true) (hc : (s.pump t w p).classify = true)
    (hn : (s.pump t w p).counts = true) (hsv : s.service t w p ≠ 3) (hsafe : s.flag HD_IMG_STAT HD_IMG_STAT.SAFE = false ∨ w = 14)
    (he : e = (s.pump t w p).lowAt.getD s.clk.ns) (hlt : edges < 90) (h : s.rd (PM_STAT t w p) ctrCount + 1 < 0xFFFFFFFF) :
    ∃ u, exec (.faultClassify t w p edges) s = .next u ∧
      u.rd (PM_STAT t w p) PM_STAT.LAST_FAULT = (if edges = 0 then 3 else if edges ≤ 3 then 1 else 4) ∧
      u.rd (PM_STAT t w p) ctrCount = s.rd (PM_STAT t w p) ctrCount + (if 1 ≤ edges ∧ edges ≤ 3 then 1 else 0) ∧
      u.fault.inflight = s.fault.inflight ++ [{ src := 9, tile := t, well := w, sub := p }] ∧
      u.service t w p = s.service t w p ∧ State.sameBut [PM_STAT t w p] s u ∧
      ((s.pump t w p).lasting = false → (∀ a, (s.pump t w p).faultAt = some a → a + 1000000 < e) → (u.pump t w p).faultAt = some e ∧
        (u.pump t w p).retire = (s.pump t w p).retire ∧
        (s.flag (PM_LINK t w p) PM_LINK.PEN = true → u.flag (PM_STAT t w p) PM_STAT.REARM_PEND = true ∧ (u.pump t w p).rearm = 1)) ∧
      ((s.pump t w p).lasting = true ∨ (∃ a, (s.pump t w p).faultAt = some a ∧ e ≤ a + 1000000) → (u.pump t w p).lasting = true ∧
        (u.pump t w p).retire = (if edges = 0 then 9 else if edges ≤ 3 then 2 else 10) ∧ (u.pump t w p).rearm = 0) := by
  have hclass : tagClass edges < 16 := by
    rw [tagClass_of_lt hlt]
    split_ifs <;> decide
  have hshort : (if tagClass edges = clsShort then 1 else 0) = if 1 ≤ edges ∧ edges ≤ 3 then 1 else 0 := by
    rw [tagClass_of_lt hlt]
    by_cases h0 : edges = 0
    · simp [h0]
    by_cases h3 : edges ≤ 3
    · simp [h0, h3, Nat.one_le_iff_ne_zero]
    · simp [h0, h3]
  have hreason : lastingReason (tagClass edges) = if edges = 0 then 9 else if edges ≤ 3 then 2 else 10 := by
    rw [tagClass_of_lt hlt]
    split_ifs <;> rfl
  have hnow {u : State} (hu : s.faultClassify t w p edges = u) (hf : u.fault = (s.faultClassed t w p (tagClass edges)).fault) :
      exec (.faultClassify t w p edges) s = .next u := by
    subst hu
    exact done_quiet _ (by rw [hf, faultClassed_now]; exact hq)
  have hfirst : (s.pump t w p).second e = false ↔ (s.pump t w p).lasting = false ∧ ∀ a, (s.pump t w p).faultAt = some a → a + 1000000 < e := by
    rw [← Bool.not_eq_true, second_iff]
    simp only [not_or, not_exists, not_and, Bool.not_eq_true, Nat.not_le]
  rcases faultClassify_enabled hok hc hn hsv hsafe he hlt h with ⟨h2, hu⟩ | ⟨h2, hu⟩
  · refine ⟨_, hnow hu rfl, ?_, ?_, ?_, ?_, fun b hb => ?_, fun hl ha => ?_, fun _ => ?_⟩
    · rw [updPump_rd, faultClassed_class _ hclass, tagClass_of_lt hlt]
    · rw [updPump_rd, faultClassed_count _ h, hshort]
    · rw [updPump_fault, faultClassed_inflight]
    · rw [State.service, updPump_rd]; exact faultClassed_service _
    · rw [updPump_reg]; exact faultClassed_reg _ b (by simpa using hb)
    · rw [hfirst.mpr ⟨hl, ha⟩] at h2; cases h2
    · rw [updPump_same]; exact ⟨rfl, hreason, rfl⟩
  · refine ⟨_, hnow hu (rearmAsked_fault t w p _), ?_, ?_, ?_, ?_, fun b hb => ?_, fun _ _ => ?_, fun hl => ?_⟩
    · rw [rearmAsked_rd _ _ _ _ _ (by decide) (by decide), updPump_rd, faultClassed_class _ hclass, tagClass_of_lt hlt]
    · rw [rearmAsked_rd _ _ _ _ _ (by decide) (by decide), updPump_rd, faultClassed_count _ h, hshort]
    · rw [rearmAsked_fault, updPump_fault, faultClassed_inflight]
    · rw [State.service, rearmAsked_rd _ _ _ _ _ (by decide) (by decide), updPump_rd]; exact faultClassed_service _
    · have hb' : b ≠ PM_STAT t w p := by simpa using hb
      rw [rearmAsked_reg _ _ _ _ _ hb', updPump_reg]; exact faultClassed_reg _ b hb'
    · rw [rearmAsked_pump, updPump_same, faultClassed_pump]
      refine ⟨rfl, rfl, fun hp => ?_⟩
      rw [hp]
      exact ⟨flag_wr_one _ _ _ (by decide), rfl⟩
    · rw [(second_iff _ _).mpr hl] at h2; cases h2

/-- Settles O32: a fault is latched, classed and acted on, and only its pump's registers and hidden state change. -/
theorem pumpFaultsAct : Obligations.PumpFaultsAct := by
  unfold Obligations.PumpFaultsAct
  refine ⟨fun u w p f s hq hok hl => ?_, fun u w p edges s hq hok hc hn h1 h3 hcnt => ?_,
    fun u w p edges e s hq hok hc hn hsv hsafe he hlt hcnt => pumpFault_classed hq hok hc hn hsv hsafe he hlt hcnt,
    fun u w p edges s hok hc hn hsv h90 => ?_, fun u w p s hq hok hr => ?_, fun u w p s hq hok hr => ?_, fun u w p s hq hok hr => ?_,
    fun u w p s hq hok hl => ?_, fun u w p s hok hpen hin ht => ?_⟩
  · have hx : exec (.pumpFaultWireFall u w p f) s = .next (s.faultWireFall u w p f) :=
      done_quiet _ (by rw [faultWireFall_of f hok hl, wireFallen_fault]; exact hq)
    rw [hx, faultWireFall_of f hok hl]
    refine ⟨_, rfl, flag_wr_one _ _ _ (by decide), ?_, ?_, fun hpen => ?_, fun b hb => ?_⟩
    · rw [State.wireFallen, updPump_same]
    · rw [State.wireFallen, updPump_same]
    · rw [State.wireFallen, updPump_same, hpen]; exact Bool.or_true _
    · rw [State.wireFallen, updPump_reg, reg_wr_ne _ _ _ _ _ (by simpa using hb), strikeTest_reg]
  · have hcl : tagClass edges = clsShort := by rw [tagClass_of_lt (by omega), if_neg (by omega), if_pos h3]
    have hx : exec (.faultClassify u w p edges) s = .next (s.faultClassify u w p edges) :=
      done_quiet _ (by rw [faultClassify_quiet edges hok hc hn hcnt, faultClassed_now]; exact hq)
    rw [hx, faultClassify_quiet edges hok hc hn hcnt, hcl]
    exact ⟨_, rfl, faultClassed_class _ (by decide), faultClassed_count _ hcnt, faultClassed_inflight _, fun b hb => faultClassed_reg _ b (by simpa using hb)⟩
  · have hw := (wellOk_lt s ((pumpOk_iff s u w p).mp hok).1).2
    have hp := pumpsOf_lt s (List.mem_range.mpr ((pumpOk_iff s u w p).mp hok).2)
    refine ⟨s.faultClassify u w p edges, rfl, ?_⟩
    rw [faultClassify_over hok hc hn hsv h90]
    have hr := retire_retired (reason := 3) hw hp (by rw [overtempNoted_service]; exact hsv) (recordFault_inflight clsOvertemp) (by decide)
    exact ⟨hr.service, hr.reason, hr.pen, hr.raised⟩
  · have hx : exec (.pumpRearm u w p) s = .next (s.pumpRearm u w p) := done_quiet _ (by rw [pumpRearm_of hok hr]; exact hq)
    rw [hx, pumpRearm_of hok hr]
    refine ⟨_, rfl, flag_wr_zero s _ _ (by decide), by rw [updPump_same], ?_, fun b hb => reg_wr_ne s _ _ _ _ (by simpa using hb)⟩
    exact rd_wr_ne s _ _ _ _ _ (link_ne_stat u w p p).symm
  · have hpen : (s.penReturned u w p).flag (PM_LINK u w p) PM_LINK.PEN = true :=
      (flag_wr_ne _ _ _ _ _ _ (link_ne_stat u w p p)).trans (flag_wr_one s _ _ (by decide))
    have hx : exec (.rearmPenRelease u w p) s = .next (s.rearmPenRelease u w p) :=
      done_quiet _ (by rw [rearmPenRelease_of hok hr, on_backInSharing_fault]; exact hq)
    rw [hx, rearmPenRelease_of hok hr]
    refine ⟨_, rfl, ?_, ?_, ?_, fun b hb => ?_⟩
    · rw [flag_of_reg (on_backInSharing_reg _ _)]; exact hpen
    · rw [flag_of_reg (on_backInSharing_reg _ _)]; exact flag_wr_zero _ _ _ (by decide)
    · rw [on_backInSharing_rearm, State.penReturned, updPump_same]
    · simp only [List.mem_cons, List.not_mem_nil, or_false, not_or] at hb
      rw [on_backInSharing_reg]
      exact (reg_wr_ne _ _ _ _ _ hb.2).trans (reg_wr_ne s _ _ _ _ hb.1)
  · have hx : exec (.rearmCheck u w p) s = .next (s.rearmCheck u w p) := by
      refine done_quiet _ ?_
      rw [rearmCheck_of hok hr]
      split_ifs <;> exact hq
    rw [hx, rearmCheck_of hok hr]
    cases hl : s.flag (PM_STAT u w p) PM_STAT.LATCHED
    · exact ⟨_, rfl, by simp, by simp, fun _ _ => rfl⟩
    · exact ⟨_, rfl, by simp, by simp, fun _ _ => rfl⟩
  · have hx : exec (.pumpFaultWireRise u w p) s = .next (s.faultWireRise u w p) := by
      refine done_quiet _ ?_
      rw [faultWireRise_of hok hl]
      split_ifs <;> exact hq
    rw [hx, faultWireRise_of hok hl]
    refine ⟨_, rfl, ?_, fun hr0 ht0 => ?_, fun b hb => ?_⟩
    · split_ifs <;> exact flag_wr_zero s _ _ (by decide)
    · rw [if_neg (by simp [hr0, ht0]), State.backInSharing, updPump_same]
    · split_ifs <;> exact reg_wr_ne s _ _ _ _ (by simpa using hb)
  · refine ⟨s.softShortTrip u w p, rfl, ?_, ?_⟩
    · rw [softShortTrip_of hok hpen hin ht]
      exact flag_wr_zero _ _ _ (by decide)
    · rw [softShortTrip_of hok hpen hin ht, wr_fault, actFault_fault (by decide)]
      exact recordFault_inflight _

end Sys2Proof.Machine

/-! PROOFS. The window comparators, and what a breach leaves (R120, R123, R198-R200). -/

namespace Sys2Proof.Machine

open Sys2Proof

section
variable {s : State}

/-! ### The registers of a breach (R198-R200) -/

/-- A register that no breach of the tile touches. -/
structure BreachClear (t b : Nat) : Prop where
  side : b ∉ sideRegs
  stat : b ≠ DS_BREACH_STAT t
  log : ∀ n, n < 16 → b ≠ DS_BREACH t n

/-- A register of a well's block. -/
theorem breachClear_well {t w k : Nat} (hw : w < 15) (hk : k < 0x100) : BreachClear t (wlBase t w + k) where
  side := by simp only [sideRegs, wlBase, phBase, ER_STAT, IC_SAT_ADDR, IC_SRC, HD_PWR_STAT, List.mem_cons, List.not_mem_nil, or_false, not_or]; omega
  stat := by simp only [wlBase, phBase, DS_BREACH_STAT]; omega
  log n hn := by simp only [wlBase, phBase, DS_BREACH]; omega

theorem breachNext_lt (s : State) (t : Nat) : s.rd (DS_BREACH_STAT t) DS_BREACH_STAT.NEXT < 16 := BitVec.isLt _

theorem logBreach_reg {t b : Nat} (h : BreachClear t b) (l phys kind seg : Nat) (shared side1 : Bool) (pb : Nat) :
    (s.logBreach t l phys kind seg shared side1 pb).reg b = s.reg b := by
  have hlog := h.log _ (breachNext_lt s t)
  have hcount : ∀ d : Word, ∀ v : Nat, (((s.setReg (DS_BREACH t (s.rd (DS_BREACH_STAT t) DS_BREACH_STAT.NEXT)) d).wr (DS_BREACH_STAT t)
      DS_BREACH_STAT.NEXT v).bump (DS_BREACH_STAT t)).reg b = s.reg b := fun d v => by
    rw [bump_reg _ _ _ h.stat h.side, reg_wr_ne _ _ _ _ _ h.stat, reg_setReg, if_neg hlog]
  unfold State.logBreach
  dsimp only
  split
  · exact hcount _ _
  · exact hcount _ _

theorem logOnce_reg {t b : Nat} (h : BreachClear t b) (l phys kind seg : Nat) (shared side1 : Bool) (pb : Nat) :
    (s.logOnce t l phys kind seg shared side1 pb).reg b = s.reg b := by
  unfold State.logOnce
  dsimp only
  split_ifs
  · rfl
  · exact logBreach_reg h ..
  · rfl
  · exact logBreach_reg h ..

theorem charge_reg {t b : Nat} (h : BreachClear t b) (l phys kind : Nat) (shared side1 : Bool) :
    (s.charge t l phys kind shared side1).reg b = s.reg b := by
  unfold State.charge
  dsimp only
  split
  · exact logOnce_reg h ..
  · exact logOnce_reg h ..

theorem breachWell_reg {t b : Nat} (h : BreachClear t b) (w kind : Nat) : (s.breachWell t w kind).reg b = s.reg b := by
  unfold State.breachWell
  dsimp only
  refine each_keeps (·.reg b) _ _ (fun u l => ?_) s
  split_ifs
  · exact charge_reg h ..
  · exact logOnce_reg h ..
  · rfl

/-! ### The comparators (R120, R123) -/

variable {t w : Nat} {dev : Int}

theorem peakDev_reg {b : Nat} (h : b ≠ WL_HOLD t w) : (s.peakDev t w dev).reg b = s.reg b := by
  unfold State.peakDev
  dsimp only
  split
  · exact reg_wr_ne _ _ _ _ _ h
  · rfl

theorem peakDev_rd (g : Fld) (hg : g.ok = true) (h : WL_HOLD.PEAK_DEV.apart g = true) :
    (s.peakDev t w dev).rd (WL_HOLD t w) g = s.rd (WL_HOLD t w) g := by
  unfold State.peakDev
  dsimp only
  split
  · exact rd_wr_fld _ _ _ _ _ _ hg h
  · rfl

theorem peakDev_onlyRegs : s.onlyRegs (s.peakDev t w dev) := by
  unfold State.peakDev
  dsimp only
  split <;> rfl

/-- A hold before it is charged to the player. -/
def State.held (s : State) (t w : Nat) (dev : Int) : State := ((s.wr (WL_HOLD t w) WL_HOLD.HOLD 1).bump (WL_HOLD t w)).peakDev t w dev

theorem held_counts (h : s.rd (WL_HOLD t w) WL_HOLD.HOLDS + 1 < 0xFFFFFFFF) :
    s.held t w dev = ((s.wr (WL_HOLD t w) WL_HOLD.HOLD 1).wr (WL_HOLD t w) ctrCount (s.rd (WL_HOLD t w) WL_HOLD.HOLDS + 1)).peakDev t w dev := by
  have hc : (s.wr (WL_HOLD t w) WL_HOLD.HOLD 1).rd (WL_HOLD t w) ctrCount = s.rd (WL_HOLD t w) WL_HOLD.HOLDS :=
    rd_wr_fld _ _ _ _ _ _ (by decide) (by decide)
  unfold State.held
  rw [bump_counts _ _ (by rw [hc]; exact h), hc]

theorem held_hold (h : s.rd (WL_HOLD t w) WL_HOLD.HOLDS + 1 < 0xFFFFFFFF) : (s.held t w dev).flag (WL_HOLD t w) WL_HOLD.HOLD = true := by
  unfold State.flag
  rw [held_counts h, peakDev_rd _ (by decide) (by decide)]
  exact (flag_wr_fld _ _ _ _ _ _ (by decide) (by decide)).trans (flag_wr_one _ _ _ (by decide))

theorem held_holds (h : s.rd (WL_HOLD t w) WL_HOLD.HOLDS + 1 < 0xFFFFFFFF) :
    (s.held t w dev).rd (WL_HOLD t w) WL_HOLD.HOLDS = s.rd (WL_HOLD t w) WL_HOLD.HOLDS + 1 := by
  rw [held_counts h, peakDev_rd _ (by decide) (by decide)]
  exact (rd_wr_same _ _ ctrCount _ (by decide)).trans (Nat.mod_eq_of_lt (by rw [show ctrCount.width = 32 from rfl]; omega))

theorem held_sameBut (h : s.rd (WL_HOLD t w) WL_HOLD.HOLDS + 1 < 0xFFFFFFFF) : State.sameBut [WL_HOLD t w] s (s.held t w dev) := by
  intro b hb
  have hb : b ≠ WL_HOLD t w := by simpa using hb
  rw [held_counts h, peakDev_reg hb, reg_wr_ne _ _ _ _ _ hb, reg_wr_ne _ _ _ _ _ hb]

theorem held_onlyRegs (h : s.rd (WL_HOLD t w) WL_HOLD.HOLDS + 1 < 0xFFFFFFFF) : s.onlyRegs (s.held t w dev) := by
  have hpeak := peakDev_onlyRegs (s := (s.wr (WL_HOLD t w) WL_HOLD.HOLD 1).wr (WL_HOLD t w) ctrCount (s.rd (WL_HOLD t w) WL_HOLD.HOLDS + 1))
    (t := t) (w := w) (dev := dev)
  rw [held_counts h]
  exact congrArg (fun x : State => { x with regs := s.regs }) hpeak

/-- The condition of HOLD_ASSERT, from R120's own words. -/
theorem holdAssert_acts (hc : s.compares t w = true) (hd : dev < -(8 * s.rd (WL_WIN t w) WL_WIN.HOLD_TH : Nat))
    (hh : s.flag (WL_HOLD t w) WL_HOLD.HOLD = false) (hr : ∀ r, (s.lp t w).relAt = some r → r + 40 ≤ s.clk.ns) :
    s.holdAssert t w dev = if w < 14 then (s.held t w dev).breachWell t w bkHold else s.held t w dev := by
  have hrel : (s.lp t w).relAt.any (fun r => decide (s.clk.ns < r + 40)) = false := by
    cases hrel : (s.lp t w).relAt with
    | none => rfl
    | some r => simpa using hr r hrel
  have hdev : decide (dev < -(s.holdTh t w)) = true := decide_eq_true hd
  unfold State.holdAssert State.held
  simp only [hc, hdev, hh, hrel, Bool.not_false, Bool.and_self, if_true]

theorem compares_lt (h : s.compares t w = true) : w < 15 := by
  simp only [State.compares, Bool.and_eq_true] at h
  exact (wellOk_lt _ h.1).2

/-- The hold wires of a released hold. -/
theorem holdOff_releases : (s.holdOff t w).flag (WL_HOLD t w) WL_HOLD.HOLD = false ∧ ((s.holdOff t w).lp t w).relAt = some s.clk.ns ∧
    State.sameBut [WL_HOLD t w] s (s.holdOff t w) := by
  refine ⟨flag_wr_zero _ _ _ (by decide), ?_, fun b hb => reg_wr_ne _ _ _ _ _ (by simpa using hb)⟩
  rw [State.holdOff, updLp_same]

/-- Settles O37: each command's condition holds, and the counts and flags of WL_HOLD outlast the breach that a hold is charged as. -/
theorem comparatorsAct : Obligations.ComparatorsAct := by
  unfold Obligations.ComparatorsAct
  refine ⟨fun u w dev s hc hd hh hr hn => ?_, fun u dev s hq hc hd hh hr hn => ?_, fun u w dev s hq hh hd => ?_, fun u w s hq hh => ?_,
    fun u w dev s hq hc hd => ?_, fun u w dev s hq hh hd => ?_⟩
  · refine ⟨s.holdAssert u w dev, rfl, ?_⟩
    rw [holdAssert_acts hc hd hh hr]
    by_cases hw : w < 14
    · have hreg : ((s.held u w dev).breachWell u w bkHold).reg (WL_HOLD u w) = (s.held u w dev).reg (WL_HOLD u w) :=
        breachWell_reg (breachClear_well (compares_lt hc) (by decide)) w bkHold
      rw [if_pos hw]
      exact ⟨(flag_of_reg hreg _).trans (held_hold hn), (rd_of_reg hreg _).trans (held_holds hn)⟩
    · rw [if_neg hw]
      exact ⟨held_hold hn, held_holds hn⟩
  · have he : s.holdAssert u 14 dev = s.held u 14 dev := holdAssert_acts hc hd hh (by simp [hr])
    have hnow : (s.held u 14 dev).fault.now = s.fault.now := (congrArg (fun x : State => x.fault.now) (held_onlyRegs hn) :)
    have hx : exec (.holdAssert u 14 dev) s = .next (s.held u 14 dev) := by
      rw [← he]
      exact done_quiet _ (by rw [he]; exact hnow.trans hq)
    exact ⟨_, hx, held_hold hn, held_sameBut hn, held_onlyRegs hn⟩
  · have he : s.holdRelease u w dev = s.holdOff u w := by
      unfold State.holdRelease
      rw [hh, show decide (-(s.holdTh u w - s.holdHys u w) ≤ dev) = true from decide_eq_true hd]
      rfl
    have hx : exec (.holdRelease u w dev) s = .next (s.holdRelease u w dev) := done_quiet _ (by rw [he]; exact hq)
    rw [hx, he]
    exact ⟨_, rfl, holdOff_releases⟩
  · have he : s.holdTimeout u w = s.holdOff u w := if_pos hh
    have hx : exec (.holdTimeout u w) s = .next (s.holdTimeout u w) := done_quiet _ (by rw [he]; exact hq)
    rw [hx, he]
    exact ⟨_, rfl, holdOff_releases⟩
  · have he : s.ovSuppress u w dev = s.wr (WL_HOLD u w) WL_HOLD.OV 1 := by
      unfold State.ovSuppress
      rw [hc, show decide (s.ovTh u w < dev) = true from decide_eq_true hd]
      rfl
    have hx : exec (.ovSuppress u w dev) s = .next (s.ovSuppress u w dev) := done_quiet _ (by rw [he]; exact hq)
    rw [hx, he]
    exact ⟨_, rfl, flag_wr_one _ _ _ (by decide), fun b hb => reg_wr_ne _ _ _ _ _ (by simpa using hb), rfl⟩
  · have he : s.ovSuppressEnd u w dev = s.wr (WL_HOLD u w) WL_HOLD.OV 0 := by
      unfold State.ovSuppressEnd
      rw [hh, show decide (dev < s.ovTh u w - s.holdHys u w) = true from decide_eq_true hd]
      rfl
    have hx : exec (.ovSuppressEnd u w dev) s = .next (s.ovSuppressEnd u w dev) := done_quiet _ (by rw [he]; exact hq)
    rw [hx, he]
    exact ⟨_, rfl, flag_wr_zero _ _ _ (by decide), fun b hb => reg_wr_ne _ _ _ _ _ (by simpa using hb), rfl⟩

end

end Sys2Proof.Machine

/-! PROOFS. The modes of the engines: self-tests, requests and changes (R128-R135). -/

namespace Sys2Proof.Machine

open Sys2Proof

section
variable {s : State} {t w m e : Nat}

/-! ### A change of each well of a tile -/

/-- What an index asks of its own step, the other steps leaving it and what it brings. -/
theorem each_range_brings (P Q : State → Prop) (f : State → Nat → State) {n w : Nat} (hw : w < n)
    (hdo : ∀ u, P u → Q (f u w)) (hP : ∀ u v, v < n → v ≠ w → P u → P (f u v)) (hQ : ∀ u v, v < n → v ≠ w → Q u → Q (f u v))
    (s : State) (hs : P s) : Q (s.each (List.range n) f) := by
  have hsuf : ∀ (l : List Nat), (∀ v ∈ l, v < n ∧ v ≠ w) → ∀ u, Q u → Q (u.each l f) := by
    intro l
    induction l with
    | nil => exact fun _ _ h => h
    | cons v l ih => exact fun hl u hu => ih (fun x hx => hl x (List.mem_cons_of_mem _ hx)) _ (hQ u v (hl v List.mem_cons_self).1 (hl v List.mem_cons_self).2 hu)
  have hall : ∀ (l : List Nat), l.Nodup → (∀ v ∈ l, v < n) → w ∈ l → ∀ u, P u → Q (u.each l f) := by
    intro l
    induction l with
    | nil => exact fun _ _ h => absurd h List.not_mem_nil
    | cons v l ih =>
      intro hnd hl hmem u hu
      obtain ⟨hv, hnd⟩ := List.nodup_cons.mp hnd
      by_cases hvw : v = w
      · subst hvw
        exact hsuf l (fun x hx => ⟨hl x (List.mem_cons_of_mem _ hx), fun hxv => hv (hxv ▸ hx)⟩) _ (hdo u hu)
      · have hmem : w ∈ l := (List.mem_cons.mp hmem).resolve_left (fun h => hvw h.symm)
        exact ih hnd (fun x hx => hl x (List.mem_cons_of_mem _ hx)) hmem _ (hP u v (hl v List.mem_cons_self) hvw hu)
  exact hall _ List.nodup_range (fun v hv => List.mem_range.mp hv) (List.mem_range.mpr hw) s hs

@[simp] theorem updEn_same (t : Nat) (f : EngX → EngX) : (s.updEn t f).en t = f (s.en t) := by simp [State.updEn, State.en]
@[simp] theorem answered_en (c : Nat) (d : Word) (t : Nat) : (s.answered c d).en t = s.en t := rfl
@[simp] theorem updLp_en (t w u : Nat) (f : Loop → Loop) : (s.updLp t w f).en u = s.en u := rfl

theorem updLp_ne {v : Nat} (f : Loop → Loop) (h : v ≠ w) : (s.updLp t v f).lp t w = s.lp t w := by
  simp [State.updLp, State.lp, h.symm]

/-! ### A mode spreads over the wells (R129, R134) -/

/-- A well's own part of a mode change. -/
def State.offerMode (m t : Nat) (s : State) (w : Nat) : State :=
  if s.looped t w then s.updLp t w (fun l => { l with modePend := true }) else s.updLp t w (fun l => { l with mode := m, modePend := false })

theorem offerMode_rest (m t v : Nat) (s : State) : { s.offerMode m t v with wells := s.wells } = s := by
  unfold State.offerMode
  split <;> rfl

theorem offerMode_looped (v : Nat) : (s.offerMode m t v).looped t w = s.looped t w := by
  have hregs : (s.offerMode m t v).regs = s.regs := (congrArg State.regs (offerMode_rest m t v s) :)
  simp only [State.looped, State.stage, State.rd, State.reg, hregs]

theorem offerMode_ne {v : Nat} (h : v ≠ w) : (s.offerMode m t v).lp t w = s.lp t w := by
  unfold State.offerMode
  split
  · exact updLp_ne _ h
  · exact updLp_ne _ h

theorem offerMode_at : (s.offerMode m t w).lp t w =
    if s.looped t w then { s.lp t w with modePend := true } else { s.lp t w with mode := m, modePend := false } := by
  unfold State.offerMode
  split
  · exact updLp_same _ _ _ _
  · exact updLp_same _ _ _ _

/-- The wells of a tile after a mode is offered to each. -/
def State.offered (s : State) (t m : Nat) : State :=
  (s.updEn t (fun e => { e with grant := none, target := some m })).each (List.range 15) (State.offerMode m t)

theorem spreadMode_offered : s.spreadMode t m = (s.offered t m).modeDone t := rfl

theorem offered_lp (hw : w < 15) : (s.offered t m).lp t w =
    if s.looped t w then { s.lp t w with modePend := true } else { s.lp t w with mode := m, modePend := false } := by
  refine each_range_brings (fun u => u.looped t w = s.looped t w ∧ u.lp t w = s.lp t w)
    (fun u => u.lp t w = if s.looped t w then { s.lp t w with modePend := true } else { s.lp t w with mode := m, modePend := false })
    (State.offerMode m t) hw (fun u hu => ?_) (fun u v _ hv hu => ?_) (fun u v _ hv hu => ?_) _ ⟨rfl, rfl⟩
  · rw [offerMode_at, hu.1, hu.2]
  · rw [offerMode_looped, offerMode_ne hv]
    exact hu
  · rw [offerMode_ne hv]
    exact hu

theorem offered_rest : { s.offered t m with wells := s.wells } = s.updEn t (fun e => { e with grant := none, target := some m }) :=
  each_keeps (fun u => { u with wells := s.wells }) _ (State.offerMode m t)
    (fun u v => congrArg (fun x : State => { x with wells := s.wells }) (offerMode_rest m t v u)) _

theorem offered_en : (s.offered t m).en t = { s.en t with grant := none, target := some m } := by
  have h : (s.offered t m).en t = (s.updEn t (fun e => { e with grant := none, target := some m })).en t := (congrArg (fun x : State => x.en t) offered_rest :)
  rw [h, updEn_same]

theorem offered_reg (b : Nat) : (s.offered t m).reg b = s.reg b := (congrArg (fun x : State => x.reg b) offered_rest :)
theorem offered_fault : (s.offered t m).fault = s.fault := (congrArg State.fault offered_rest :)

/-- The change is complete: no well has still to switch (R135). -/
theorem modeDone_complete (ht : (s.en t).target = some m) (h : ∀ v, v < 15 → (s.lp t v).modePend = false) :
    s.modeDone t = (s.wr (PH_ENG_STAT t) PH_ENG_STAT.MODE m).updEn t (fun e => { e with target := none, byFault := false }) := by
  have hany : (List.range 15).any (fun v => (s.lp t v).modePend) = false := by
    rw [List.any_eq_false]
    exact fun v hv => by simp [h v (List.mem_range.mp hv)]
  simp only [State.modeDone, ht, hany]
  rfl

theorem modeDone_waits (hw : w < 15) (h : (s.lp t w).modePend = true) : s.modeDone t = s := by
  have hany : (List.range 15).any (fun v => (s.lp t v).modePend) = true := List.any_eq_true.mpr ⟨w, List.mem_range.mpr hw, h⟩
  unfold State.modeDone
  split
  · rw [if_pos hany]
  · rfl

/-! ### Fallback and a lasting fault (R129, R130) -/

theorem fallBack_reg {b : Nat} (test : Bool) (h : b ≠ PH_ENG_STAT t) : (s.fallBack t test).reg b = s.reg b := by
  refine (each_keeps (·.reg b) _ (fun u w => if (u.lp t w).modePend then u.updLp t w (fun l => { l with modePend := false }) else u)
    (fun u v => ?_) _).trans ?_
  · split <;> rfl
  · exact (holdPh_reg _ _ _).trans (reg_wr_ne _ _ _ _ _ h)

/-- The register and the raises of a tile in fallback. -/
theorem fallBack_stat (test : Bool) : (s.fallBack t test).reg (PH_ENG_STAT t) = (s.wr (PH_ENG_STAT t) PH_ENG_STAT.HYST_FALLBACK 1).reg (PH_ENG_STAT t) := by
  refine (each_keeps (·.reg (PH_ENG_STAT t)) _ (fun u w => if (u.lp t w).modePend then u.updLp t w (fun l => { l with modePend := false }) else u)
    (fun u v => ?_) _).trans ?_
  · split <;> rfl
  · exact holdPh_reg _ _ _

theorem holdPh_fault {u : State} (r : Raise) (h : u.fault = s.fault) : (u.holdPh r).fault = (s.holdPh r).fault := by
  unfold State.holdPh State.isHeld
  rw [h]
  split
  · exact h
  · simp only [State.raisePh]

theorem fallBack_fault (test : Bool) : (s.fallBack t test).fault = (s.holdPh { src := 12, tile := t }).fault := by
  refine (each_keeps (·.fault) _ (fun u w => if (u.lp t w).modePend then u.updLp t w (fun l => { l with modePend := false }) else u)
    (fun u v => ?_) _).trans ?_
  · split <;> rfl
  · exact holdPh_fault (u := s.wr (PH_ENG_STAT t) PH_ENG_STAT.HYST_FALLBACK 1) _ rfl

theorem holdPh_inflight {r x : Raise} (h : x ∈ s.fault.inflight) : x ∈ (s.holdPh r).fault.inflight := by
  unfold State.holdPh
  split
  · exact h
  · exact List.mem_append_left _ h

/-- The marks of an attributed lasting fault, before the tile moves. -/
def State.failMarked (s : State) (t e w cause : Nat) : State :=
  ((s.noteFault t w cause).wr (PH_ENG_STAT t) (failedFld e) 1).raisePh { src := 11, tile := t, well := w, sub := e }

/-- The fields of a lasting fault stand apart. -/
theorem failedFld_ok (e : Nat) : (failedFld e).ok = true := by unfold failedFld; split <;> rfl
theorem failedFld_apart (e : Nat) : (failedFld e).apart PH_ENG_STAT.CAUSE = true ∧ (failedFld e).apart PH_ENG_STAT.LAST_WELL = true ∧
    PH_ENG_STAT.HYST_FALLBACK.apart (failedFld e) = true := by unfold failedFld; split <;> decide

theorem failMarked_failed {cause : Nat} : (s.failMarked t e w cause).flag (PH_ENG_STAT t) (failedFld e) = true :=
  flag_wr_one _ _ _ (failedFld_ok e)

theorem failMarked_cause {cause : Nat} (hc : cause < 4) : (s.failMarked t e w cause).rd (PH_ENG_STAT t) PH_ENG_STAT.CAUSE = cause := by
  refine (rd_wr_fld _ _ _ _ _ _ (by decide) (failedFld_apart e).1).trans ?_
  exact (rd_wr_fld _ _ _ _ _ _ (by decide) (by decide)).trans ((rd_wr_same _ _ _ _ (by decide)).trans (Nat.mod_eq_of_lt hc))

theorem failMarked_lastWell {cause : Nat} (hw : w < 16) : (s.failMarked t e w cause).rd (PH_ENG_STAT t) PH_ENG_STAT.LAST_WELL = w := by
  refine (rd_wr_fld _ _ _ _ _ _ (by decide) (failedFld_apart e).2.1).trans ?_
  exact (rd_wr_same _ _ _ _ (by decide)).trans (Nat.mod_eq_of_lt hw)

theorem failMarked_reg {b cause : Nat} (h : b ≠ PH_ENG_STAT t) : (s.failMarked t e w cause).reg b = s.reg b :=
  (reg_wr_ne _ _ _ _ _ h).trans ((reg_wr_ne _ _ _ _ _ h).trans (reg_wr_ne _ _ _ _ _ h))

theorem moveMode_reg {b : Nat} (h : b ≠ PH_ENG_CTRL t) : (s.moveMode t m).reg b = s.reg b := reg_wr_ne _ _ _ _ _ h

/-- What the tile does with an attributed lasting fault: nothing, the fallback, or the DEGRADED mode of the other engine (R129, R130). -/
theorem engineFail_cases (s : State) (t e w cause : Nat) :
    s.engineFail t e w cause = s.failMarked t e w cause ∨ s.engineFail t e w cause = (s.failMarked t e w cause).fallBack t false ∨
    s.engineFail t e w cause = ((s.failMarked t e w cause).moveMode t (degraded (1 - e))).updEn t (fun x => { x with byFault := true }) := by
  unfold State.engineFail State.failMarked
  dsimp only
  split_ifs
  · exact .inl rfl
  · exact .inr (.inl rfl)
  · exact .inl rfl
  · exact .inr (.inr rfl)

theorem ctrl_ne_stat (t : Nat) : PH_ENG_STAT t ≠ PH_ENG_CTRL t := by simp only [PH_ENG_STAT, PH_ENG_CTRL]; omega

/-- What an attributed lasting fault leaves in every case (R129). -/
structure FailNoted (s u : State) (t e w cause : Nat) : Prop where
  failed : u.failed t e = true
  cause : u.rd (PH_ENG_STAT t) PH_ENG_STAT.CAUSE = cause
  lastWell : u.rd (PH_ENG_STAT t) PH_ENG_STAT.LAST_WELL = w
  raised : { src := 11, tile := t, well := w, sub := e } ∈ u.fault.inflight
  now : u.fault.now = s.fault.now
  kept : State.sameBut [PH_ENG_STAT t, PH_ENG_CTRL t] s u

theorem failMarked_noted {cause : Nat} (hw : w < 16) (hc : cause < 4) : FailNoted s (s.failMarked t e w cause) t e w cause where
  failed := failMarked_failed
  cause := failMarked_cause hc
  lastWell := failMarked_lastWell hw
  raised := List.mem_append_right _ (List.mem_singleton.mpr rfl)
  now := rfl
  kept b hb := failMarked_reg (by simp only [List.mem_cons, not_or] at hb; exact hb.1)

theorem engineFail_noted {cause : Nat} (hw : w < 16) (hc : cause < 4) : FailNoted s (s.engineFail t e w cause) t e w cause := by
  have hm : FailNoted s (s.failMarked t e w cause) t e w cause := failMarked_noted hw hc
  have hstat (g : Fld) (hg : g.ok = true) (ha : PH_ENG_STAT.HYST_FALLBACK.apart g = true) :
      ((s.failMarked t e w cause).fallBack t false).rd (PH_ENG_STAT t) g = (s.failMarked t e w cause).rd (PH_ENG_STAT t) g :=
    (rd_of_reg (fallBack_stat false) g).trans (rd_wr_fld _ _ _ _ _ _ hg ha)
  have hmove (g : Fld) : (((s.failMarked t e w cause).moveMode t (degraded (1 - e))).updEn t (fun x => { x with byFault := true })).rd
      (PH_ENG_STAT t) g = (s.failMarked t e w cause).rd (PH_ENG_STAT t) g := rd_of_reg (moveMode_reg (ctrl_ne_stat t)) g
  rcases engineFail_cases s t e w cause with h | h | h
  · rw [h]
    exact hm
  · rw [h]
    refine ⟨?_, ?_, ?_, ?_, ?_, fun b hb => ?_⟩
    · rw [State.failed, State.flag, hstat _ (failedFld_ok e) (failedFld_apart e).2.2]
      exact hm.failed
    · exact (hstat _ (by decide) (by decide)).trans hm.cause
    · exact (hstat _ (by decide) (by decide)).trans hm.lastWell
    · rw [fallBack_fault]
      exact holdPh_inflight hm.raised
    · rw [fallBack_fault, holdPh_now]
      exact hm.now
    · simp only [List.mem_cons, List.not_mem_nil, or_false, not_or] at hb
      exact (fallBack_reg false hb.1).trans (failMarked_reg hb.1)
  · rw [h]
    refine ⟨?_, (hmove _).trans hm.cause, (hmove _).trans hm.lastWell, hm.raised, hm.now, fun b hb => ?_⟩
    · rw [State.failed, State.flag, hmove]
      exact hm.failed
    · simp only [List.mem_cons, List.not_mem_nil, or_false, not_or] at hb
      exact (moveMode_reg hb.2).trans (failMarked_reg hb.1)

/-! ### Self-tests (R128) -/

/-- A self-test outside the start has run. -/
def State.selfTested (s : State) (t e : Nat) (pass : Bool) : State :=
  let s0 := s.updEn t (fun x => if e = 0 then { x with dueA := false, ranA := true } else { x with dueB := false, ranB := true })
  if pass then s0.updEn t (fun x => { x with wakeTest := false }) else s0

theorem selfTested_reg (pass : Bool) (b : Nat) : (s.selfTested t e pass).reg b = s.reg b := by
  simp only [State.selfTested]
  split <;> rfl

theorem selfTested_fault (pass : Bool) : (s.selfTested t e pass).fault = s.fault := by
  simp only [State.selfTested]
  split <;> rfl

theorem selfTested_en (pass : Bool) : (if e = 0 then ((s.selfTested t e pass).en t).dueA else ((s.selfTested t e pass).en t).dueB) = false ∧
    (if e = 0 then ((s.selfTested t e pass).en t).ranA else ((s.selfTested t e pass).en t).ranB) = true := by
  unfold State.selfTested
  by_cases he : e = 0
  · cases pass <;> simp [he]
  · cases pass <;> simp [he]

theorem selfTest_runs (ok : Bool) (ht : s.tileOk t = true) (he : e < 2) (hd : (if e = 0 then (s.en t).dueA else (s.en t).dueB) = true)
    (hs : (s.en t).startTest = false) (hi : s.engineIdle t e = true ∨ s.fallback t = true) :
    s.selfTest t e ok = if ok then s.selfTested t e ((e == s.engineOf t 14) && (s.rd (PH_PWR t) PH_PWR.STATE == 0))
      else (s.selfTested t e false).engineFail t e 0xF 3 := by
  have hi : (s.fallback t || s.engineIdle t e) = true := by
    rcases hi with h | h <;> simp [h]
  unfold State.selfTest
  dsimp only
  rw [if_pos (by simp only [ht, decide_eq_true he, hd, hs, Bool.false_or, hi, Bool.and_self]), if_neg (by simp [hs])]
  cases ok
  · rfl
  · simp only [Bool.true_and]
    rfl

end

/-! ### Mode requests (R134, R135) -/

section
variable {s : State} {u : Nat} {d : Word}

theorem engCtrlWrite_stest (h : PH_ENG_CTRL.MODE_REQ.get d = s.rd (PH_ENG_CTRL u) PH_ENG_CTRL.MODE_REQ) (hs : PH_ENG_CTRL.STEST.get d = 1) :
    s.engCtrlWrite u d = s.updEn u (fun e => { e with dueA := e.dueA || !s.failed u 0, dueB := e.dueB || !s.failed u 1 }) := by
  unfold State.engCtrlWrite
  dsimp only
  rw [if_pos h, if_pos hs]

theorem engCtrlWrite_grants (h : PH_ENG_CTRL.MODE_REQ.get d ≠ s.rd (PH_ENG_CTRL u) PH_ENG_CTRL.MODE_REQ) (hs : PH_ENG_CTRL.STEST.get d = 0)
    (hf : s.needsFailed u (PH_ENG_CTRL.MODE_REQ.get d) = false) (hb : s.fallback u = false) (hg : (s.en u).grant = none) (ht : (s.en u).target = none) :
    s.engCtrlWrite u d = s.moveMode u (PH_ENG_CTRL.MODE_REQ.get d) := by
  unfold State.engCtrlWrite
  dsimp only
  rw [if_neg h, hs, hf, hb, hg, ht]
  rfl

theorem engCtrlWrite_refuses (h : PH_ENG_CTRL.MODE_REQ.get d ≠ s.rd (PH_ENG_CTRL u) PH_ENG_CTRL.MODE_REQ) (hs : PH_ENG_CTRL.STEST.get d = 0)
    (hf : s.needsFailed u (PH_ENG_CTRL.MODE_REQ.get d) = true) : s.engCtrlWrite u d = s.wr (PH_ENG_STAT u) PH_ENG_STAT.REFUSED 1 := by
  unfold State.engCtrlWrite
  dsimp only
  rw [if_neg h, hs, hf]
  rfl

end

/-- Settles O36: a self-test's result, the requests that are granted and refused, and a granted mode offered to every well of the tile. -/
theorem engineModesMove : Obligations.EngineModesMove := by
  unfold Obligations.EngineModesMove
  refine ⟨fun u e s hq ht he hd hs hi => ?_, fun u e s hq ht he hd hs hi => ?_, fun u d s hq ha hu ht hs hm => ?_,
    fun u d s hq ha hu ht hs hm => ⟨fun hf hb hg htg => ?_, fun hf => ?_⟩, fun u m s hq hg hm hidle => ?_, fun u m w s hq hg hw hl => ?_⟩
  · have he' := selfTest_runs true ht he hd hs hi
    rw [if_pos rfl] at he'
    have hx : exec (.selfTest u e true) s = .next (s.selfTest u e true) := done_quiet _ (by
      rw [he']; exact (congrArg (·.now) (selfTested_fault _) : (s.selfTested u e _).fault.now = _).trans hq)
    rw [hx, he']
    exact ⟨_, rfl, (selfTested_en _).1, (selfTested_en _).2, fun b _ => selfTested_reg _ b⟩
  · have he' := selfTest_runs false ht he hd hs hi
    rw [if_neg (by decide)] at he'
    have hn := engineFail_noted (s := s.selfTested u e false) (t := u) (e := e) (w := 0xF) (cause := 3) (by decide) (by decide)
    have hnow : ((s.selfTested u e false).engineFail u e 0xF 3).fault.now = [] := hn.now.trans (by rw [selfTested_fault]; exact hq)
    have hx : exec (.selfTest u e false) s = .next (s.selfTest u e false) := done_quiet _ (by rw [he']; exact hnow)
    rw [hx, he']
    exact ⟨_, rfl, hn.failed, hn.cause, hn.raised, fun b hb => (hn.kept b hb).trans (selfTested_reg _ b)⟩
  · have hx := hostOp_effect (show exec (.stest u d) s = hostOp s (PH_ENG_CTRL u) d (·.engCtrlWrite u d) from rfl) ht (engCtrlWrite_stest hm hs) ha hq
    rw [hx]
    exact ⟨_, rfl, by rw [answered_en, updEn_same], by rw [answered_en, updEn_same], fun _ _ => rfl, rfl⟩
  · have hx := hostOp_effect (show exec (.modeReqWrite u d) s = hostOp s (PH_ENG_CTRL u) d (·.engCtrlWrite u d) from rfl) ht (engCtrlWrite_grants hm hs hf hb hg htg) ha hq
    rw [hx]
    refine ⟨_, rfl, by rw [answered_en, State.moveMode, updEn_same], ?_, fun b hb => moveMode_reg (by simpa using hb), rfl⟩
    exact (rd_wr_same _ _ _ _ (by decide)).trans (Nat.mod_eq_of_lt (BitVec.isLt _))
  · have hx := hostOp_effect (show exec (.modeReqWrite u d) s = hostOp s (PH_ENG_CTRL u) d (·.engCtrlWrite u d) from rfl) ht (engCtrlWrite_refuses hm hs hf) ha hq
    rw [hx]
    exact ⟨_, rfl, flag_wr_one _ _ _ (by decide), rfl, fun b hb => reg_wr_ne _ _ _ _ _ (by simpa using hb)⟩
  · have hlp : ∀ v, v < 15 → (s.offered u m).lp u v = { s.lp u v with mode := m, modePend := false } := fun v hv => by
      rw [offered_lp hv, (hidle v hv).1]
      rfl
    have he : s.modeChangeApply u =
        ((s.offered u m).wr (PH_ENG_STAT u) PH_ENG_STAT.MODE m).updEn u (fun e => { e with target := none, byFault := false }) := by
      unfold State.modeChangeApply
      rw [hg]
      exact modeDone_complete (congrArg EngX.target offered_en) (fun v hv => congrArg Loop.modePend (hlp v hv))
    have hx : exec (.modeChangeApply u) s = .next (s.modeChangeApply u) := done_quiet _ (by
      rw [he]; exact (congrArg (·.now) offered_fault : (s.offered u m).fault.now = _).trans hq)
    rw [hx, he]
    refine ⟨_, rfl, ?_, fun v hv => congrArg Loop.mode (hlp v hv), ?_, congrArg EngX.target (updEn_same _ _), fun b hb => ?_⟩
    · exact (rd_wr_same _ _ _ _ (by decide)).trans (Nat.mod_eq_of_lt hm)
    · exact (congrArg EngX.grant (updEn_same _ _)).trans (congrArg EngX.grant offered_en)
    · exact (reg_wr_ne _ _ _ _ _ (by simpa using hb)).trans (offered_reg b)
  · have hlp : (s.offered u m).lp u w = { s.lp u w with modePend := true } := by rw [offered_lp hw, if_pos hl]
    have he : s.modeChangeApply u = s.offered u m := by
      unfold State.modeChangeApply
      rw [hg]
      exact modeDone_waits hw (congrArg Loop.modePend hlp)
    have hx : exec (.modeChangeApply u) s = .next (s.modeChangeApply u) := done_quiet _ (by
      rw [he]; exact (congrArg (·.now) offered_fault : (s.offered u m).fault.now = _).trans hq)
    rw [hx, he]
    exact ⟨_, rfl, congrArg EngX.target offered_en, by rw [hlp], by rw [hlp], fun b _ => offered_reg b⟩

end Sys2Proof.Machine

/-! PROOFS. Evaluations, their verdicts and retries, lasting faults and the fallback of a well (R104-R106, R125-R133). -/

namespace Sys2Proof.Machine

open Sys2Proof

section
variable {s : State} {t w : Nat}

/-! ### What stands of a loop's state -/

/-- What an update leaves of a loop, it leaves of every well's. -/
theorem updLp_keeps {β : Type} (π : Loop → β) (f : Loop → Loop) (h : ∀ l, π (f l) = π l) (v : Nat) :
    π ((s.updLp t w f).lp t v) = π (s.lp t v) := by
  by_cases hv : w = v
  · subst hv
    rw [updLp_same, h]
  · rw [updLp_ne f hv]

theorem holdPh_lp (r : Raise) (v : Nat) : (s.holdPh r).lp t v = s.lp t v := by
  unfold State.holdPh
  split <;> rfl

theorem fallBack_keeps {β : Type} (π : Loop → β) (h : ∀ l : Loop, π { l with modePend := false } = π l) (test : Bool) (v : Nat) :
    π ((s.fallBack t test).lp t v) = π (s.lp t v) := by
  refine (each_keeps (fun u => π (u.lp t v)) _ (fun u w => if (u.lp t w).modePend then u.updLp t w (fun l => { l with modePend := false }) else u)
    (fun u x => ?_) _).trans ?_
  · split
    · exact updLp_keeps π _ h v
    · rfl
  · exact congrArg π (holdPh_lp (s := s.wr (PH_ENG_STAT t) PH_ENG_STAT.HYST_FALLBACK 1) _ v)

/-- Where no outer evaluation waits for its turn none issues. -/
theorem issueOuters_none (h : ∀ v, v < 15 → (s.lp t v).outDue = false) : s.issueOuters t = s := by
  have hall : ∀ l : List Nat, (∀ v ∈ l, v < 15) →
      s.each l (fun u w => if (u.lp t w).outDue && u.laneOk t w && u.outerTurn t w then u.outerIssue t w else u) = s := by
    intro l
    induction l with
    | nil => exact fun _ => rfl
    | cons v l ih =>
      intro hl
      have hv : (if (s.lp t v).outDue && s.laneOk t v && s.outerTurn t v then s.outerIssue t v else s) = s := by
        rw [h v (hl v List.mem_cons_self)]
        rfl
      exact (congrArg (fun x : State => x.each l _) hv).trans (ih (fun x hx => hl x (List.mem_cons_of_mem _ hx)))
  exact hall _ (fun v hv => List.mem_range.mp hv)

theorem outDue_of {u : State} (hu : ∀ v, (u.lp t v).outDue = (s.lp t v).outDue) (h : ∀ v, v < 15 → (s.lp t v).outDue = false) :
    ∀ v, v < 15 → (u.lp t v).outDue = false := fun v hv => (hu v).trans (h v hv)

/-! ### A result is committed (R106) -/

/-- The registers of a result. -/
def State.loopStored (s : State) (t w : Nat) (r : EvalOut) : State :=
  let s1 := ((s.setReg (WL_LOOP0 t w) r.l0).setReg (WL_LOOP1 t w) r.l1).wr (WL_LOOP_STAT t w) WL_LOOP_STAT.SEQ
    ((s.rd (WL_LOOP_STAT t w) WL_LOOP_STAT.SEQ + 1) % 65536)
  s1.wr (WL_LOOP_STAT t w) WL_LOOP_STAT.SAT (s1.rd (WL_LOOP_STAT t w) WL_LOOP_STAT.SAT ||| r.sat)

theorem loopStored_l0 (r : EvalOut) : (s.loopStored t w r).reg (WL_LOOP0 t w) = r.l0 := by
  have h1 : WL_LOOP0 t w ≠ WL_LOOP1 t w := by simp only [WL_LOOP0, WL_LOOP1]; omega
  have h2 : WL_LOOP0 t w ≠ WL_LOOP_STAT t w := by simp only [WL_LOOP0, WL_LOOP_STAT]; omega
  refine (reg_wr_ne _ _ _ _ _ h2).trans ((reg_wr_ne _ _ _ _ _ h2).trans ?_)
  rw [reg_setReg, if_neg h1, reg_setReg, if_pos rfl]

theorem loopStored_l1 (r : EvalOut) : (s.loopStored t w r).reg (WL_LOOP1 t w) = r.l1 := by
  have h2 : WL_LOOP1 t w ≠ WL_LOOP_STAT t w := by simp only [WL_LOOP1, WL_LOOP_STAT]; omega
  refine (reg_wr_ne _ _ _ _ _ h2).trans ((reg_wr_ne _ _ _ _ _ h2).trans ?_)
  rw [reg_setReg, if_pos rfl]

theorem loopStored_seq (r : EvalOut) : (s.loopStored t w r).rd (WL_LOOP_STAT t w) WL_LOOP_STAT.SEQ =
    (s.rd (WL_LOOP_STAT t w) WL_LOOP_STAT.SEQ + 1) % 65536 := by
  refine (rd_wr_fld _ _ _ _ _ _ (by decide) (by decide)).trans ((rd_wr_same _ _ _ _ (by decide)).trans ?_)
  exact Nat.mod_eq_of_lt (Nat.mod_lt _ (by decide))

theorem loopStored_sameBut (r : EvalOut) : State.sameBut [WL_LOOP0 t w, WL_LOOP1 t w, WL_LOOP_STAT t w] s (s.loopStored t w r) := by
  intro b hb
  simp only [List.mem_cons, List.not_mem_nil, or_false, not_or] at hb
  obtain ⟨h0, h1, h2⟩ := hb
  refine (reg_wr_ne _ _ _ _ _ h2).trans ((reg_wr_ne _ _ _ _ _ h2).trans ?_)
  rw [reg_setReg, if_neg h1, reg_setReg, if_neg h0]

theorem loopStored_lp (r : EvalOut) (v : Nat) : (s.loopStored t w r).lp t v = s.lp t v := rfl
theorem loopStored_fault (r : EvalOut) : (s.loopStored t w r).fault = s.fault := rfl

/-- A result whose overrun, if it is late, is counted already. -/
theorem commit_stored (h : (s.lp t w).heldAge < 2 ∨ (s.lp t w).counted = true) :
    s.commit t w = (s.loopStored t w (if 2 ≤ (s.lp t w).heldAge then
        EvalOut.late ⟨(s.lp t w).heldDuty, (s.lp t w).res0, (s.lp t w).res1, (s.lp t w).resSat⟩ (s.lp t w).now
        else ⟨(s.lp t w).heldDuty, (s.lp t w).res0, (s.lp t w).res1, (s.lp t w).resSat⟩)).updLp t w
      (fun x => { x with next := if 2 ≤ (s.lp t w).heldAge then x.next else some (s.lp t w).heldDuty, counted := decide (2 ≤ (s.lp t w).heldAge) }) := by
  have hno : (decide (2 ≤ (s.lp t w).heldAge) && !(s.lp t w).counted) = false := by
    rcases h with h | h
    · simp [Nat.not_le.mpr h]
    · simp [h]
  unfold State.commit State.loopStored
  dsimp only
  rw [hno]
  simp only [decide_eq_true_eq, Bool.false_eq_true, if_false]

theorem commit_onTime (h : (s.lp t w).heldAge < 2) :
    s.commit t w = (s.loopStored t w ⟨(s.lp t w).heldDuty, (s.lp t w).res0, (s.lp t w).res1, (s.lp t w).resSat⟩).updLp t w
      (fun x => { x with next := some (s.lp t w).heldDuty, counted := false }) := by
  have hlt : ¬ 2 ≤ (s.lp t w).heldAge := by omega
  rw [commit_stored (.inl h)]
  simp only [hlt, if_false, decide_false]

theorem commit_late (h : 2 ≤ (s.lp t w).heldAge) (hc : (s.lp t w).counted = true) :
    s.commit t w = (s.loopStored t w (EvalOut.late ⟨(s.lp t w).heldDuty, (s.lp t w).res0, (s.lp t w).res1, (s.lp t w).resSat⟩ (s.lp t w).now)).updLp t w
      (fun x => { x with counted := true }) := by
  rw [commit_stored (.inr hc)]
  simp only [h, if_true, decide_true]

/-! ### An evaluation (R104, R112) -/

/-- The loop of a well whose oldest sample is evaluated. -/
def Loop.took (l : Loop) (x : Sample) (rest : List Sample) (a : EvalIn) : Loop :=
  let r := evalPid x.x a
  { l with
    queue := rest
    entry := none
    heldX := some x.x
    heldAge := x.age
    counted := decide (2 ≤ x.age)
    held0 := a.l0
    held1 := a.l1
    heldDuty := r.duty
    res0 := r.l0
    res1 := r.l1
    resSat := r.sat
    failA := false
    failB := false }

/-- The well after its oldest sample is evaluated, before the result is committed. -/
def State.evaluated (s : State) (t w : Nat) (x : Sample) (rest : List Sample) : State :=
  (s.updLp t w (fun l => l.took x rest (s.evalIn t w))).wri (WL_LOOP_STAT t w) WL_LOOP_STAT.I_FF (s.evalIn t w).iFF

variable {q : Sample} {rest : List Sample}

theorem evaluated_outDue (v : Nat) : ((s.evaluated t w q rest).lp t v).outDue = (s.lp t v).outDue :=
  updLp_keeps (·.outDue) (fun l => l.took q rest (s.evalIn t w)) (fun _ => rfl) v

theorem innerEvaluation_evaluates (hk : s.wellOk t w = true) (hl : s.looped t w = true) (hlane : s.laneOk t w = true)
    (hr : s.retryAhead t w = false) (ho : s.oldestFirst t w = true) (hx : (s.lp t w).heldX = none) (hq : (s.lp t w).queue = q :: rest) :
    s.innerEvaluation t w = (if (s.lp t w).mode = emLockstep then s.evaluated t w q rest else (s.evaluated t w q rest).commit t w).issueOuters t := by
  unfold State.innerEvaluation
  dsimp only
  rw [hq]
  dsimp only
  rw [hk, hl, hlane, hr, ho, hx]
  rfl

theorem evaluated_lp : (s.evaluated t w q rest).lp t w = (s.lp t w).took q rest (s.evalIn t w) :=
  updLp_same s t w (fun l => l.took q rest (s.evalIn t w))

theorem evaluated_reg {b : Nat} (h : b ≠ WL_LOOP_STAT t w) : (s.evaluated t w q rest).reg b = s.reg b :=
  (reg_setReg _ _ _ _).trans (if_neg h)

theorem evaluated_seq : (s.evaluated t w q rest).rd (WL_LOOP_STAT t w) WL_LOOP_STAT.SEQ = s.rd (WL_LOOP_STAT t w) WL_LOOP_STAT.SEQ :=
  rd_wr_fld (s.updLp t w (fun l => l.took q rest (s.evalIn t w))) _ _ WL_LOOP_STAT.I_FF _ _ (by decide) (by decide)

theorem evaluated_fault : (s.evaluated t w q rest).fault = s.fault := rfl

/-- A result committed in time: what the evaluation gives. -/
theorem evaluated_onTime (h : q.age < 2) : (s.evaluated t w q rest).commit t w =
    ((s.evaluated t w q rest).loopStored t w (evalPid q.x (s.evalIn t w))).updLp t w
      (fun x => { x with next := some (evalPid q.x (s.evalIn t w)).duty, counted := false }) := by
  have hlp := evaluated_lp (s := s) (t := t) (w := w) (q := q) (rest := rest)
  rw [commit_onTime (by rw [hlp]; exact h), hlp]
  rfl

/-- A late result: the repeated duty fed back. -/
theorem evaluated_late (h : 2 ≤ q.age) : (s.evaluated t w q rest).commit t w =
    ((s.evaluated t w q rest).loopStored t w ((evalPid q.x (s.evalIn t w)).late (s.lp t w).now)).updLp t w (fun x => { x with counted := true }) := by
  have hlp := evaluated_lp (s := s) (t := t) (w := w) (q := q) (rest := rest)
  rw [commit_late (by rw [hlp]; exact h) (by rw [hlp]; exact decide_eq_true h), hlp]
  rfl

/-! ### Verdicts and retries (R125-R129, R133) -/

variable {a b same : Bool} {x : Int}

theorem checksPass_residue (h : (s.lp t w).mode ≠ emLockstep) : s.checksPass t w a b same = if s.engineOf t w = 0 then a else b := if_neg h
theorem checksPass_lockstep (h : (s.lp t w).mode = emLockstep) : s.checksPass t w a b same = (a && b && same) := if_pos h

theorem lastingNow_residue (h : (s.lp t w).mode ≠ emLockstep) : s.lastingNow t w a b same = false := by
  simp only [State.lastingNow, beq_eq_false_iff_ne.mpr h, Bool.false_and]

theorem lastingNow_lockstep (h : (s.lp t w).mode = emLockstep) : s.lastingNow t w a b same = (!same && (a != b)) := by
  simp only [State.lastingNow, h, beq_self_eq_true, Bool.true_and]

theorem residueVerdict_inner (hx : (s.lp t w).heldX = some x) (hr : (s.lp t w).retry = false) :
    s.residueVerdict t w a b same = (s.innerVerdict t w a b same).issueOuters t := by
  unfold State.residueVerdict
  dsimp only
  rw [hx, hr]
  rfl

theorem residueVerdict_outer {r : OuterRes} (hx : (s.lp t w).heldX = none) (ho : (s.lp t w).outer = some r) (hr : (s.lp t w).outRetry = false) :
    s.residueVerdict t w a b same = s.outerVerdict t w r a b same := by
  unfold State.residueVerdict
  dsimp only
  rw [hx, ho, hr]
  rfl

theorem evaluationRetry_inner (hx : (s.lp t w).heldX = some x) (hr : (s.lp t w).retry = true) :
    s.evaluationRetry t w a b same = (if s.checksPass t w a b same then ((s.transient t w).commit t w).verify t w
      else s.lastingEval t w ((s.lp t w).failA || !a) ((s.lp t w).failB || !b) same).issueOuters t := by
  unfold State.evaluationRetry
  dsimp only
  rw [hx, hr]
  rfl

theorem evaluationRetry_outer {r : OuterRes} (hx : (s.lp t w).heldX = none) (ho : (s.lp t w).outer = some r) (hr : (s.lp t w).outRetry = true)
    (hp : s.checksPass t w a b same = true) : s.evaluationRetry t w a b same =
      (((s.transient t w).outerCommit t w r).updLp t w (fun l => { l with outer := none, outRetry := false })).issueOuters t := by
  unfold State.evaluationRetry
  dsimp only
  rw [hx, ho, hr, hp]
  simp only [Option.isSome_none, Bool.and_false, Bool.false_eq_true, if_false, Bool.true_eq_false, if_true]

theorem verify_lp : ((s.verify t w).lp t w).verified = (s.lp t w).heldDuty ∧ ((s.verify t w).lp t w).heldX = none ∧
    ((s.verify t w).lp t w).retry = false ∧ ((s.verify t w).lp t w).next = (s.lp t w).next := by
  rw [State.verify, updLp_same]
  exact ⟨rfl, rfl, rfl, rfl⟩

theorem verify_outDue (v : Nat) : ((s.verify t w).lp t v).outDue = (s.lp t v).outDue :=
  updLp_keeps (·.outDue) (fun l => { l with verified := l.heldDuty, heldX := none, retry := false }) (fun _ => rfl) v

/-- A verdict out of LOCKSTEP puts the loop's state back for the retry (R127). -/
def State.askedRetry (s : State) (t w : Nat) : State :=
  ((s.setReg (WL_LOOP0 t w) (s.lp t w).held0).setReg (WL_LOOP1 t w) (s.lp t w).held1).updLp t w
    (fun x => { x with retry := true, next := none, bad := false })

theorem askedRetry_lp : ((s.askedRetry t w).lp t w).retry = true ∧ ((s.askedRetry t w).lp t w).next = none := by
  rw [State.askedRetry, updLp_same]
  exact ⟨rfl, rfl⟩

theorem askedRetry_outDue (v : Nat) : ((s.askedRetry t w).lp t v).outDue = (s.lp t v).outDue :=
  updLp_keeps (s := (s.setReg (WL_LOOP0 t w) (s.lp t w).held0).setReg (WL_LOOP1 t w) (s.lp t w).held1) (·.outDue)
    (fun x => { x with retry := true, next := none, bad := false }) (fun _ => rfl) v

theorem askedRetry_reg : (s.askedRetry t w).reg (WL_LOOP0 t w) = (s.lp t w).held0 ∧ (s.askedRetry t w).reg (WL_LOOP1 t w) = (s.lp t w).held1 ∧
    State.sameBut [WL_LOOP0 t w, WL_LOOP1 t w] s (s.askedRetry t w) := by
  have hreg (c : Nat) : (s.askedRetry t w).reg c =
      ((s.setReg (WL_LOOP0 t w) (s.lp t w).held0).setReg (WL_LOOP1 t w) (s.lp t w).held1).reg c := rfl
  have hne : WL_LOOP0 t w ≠ WL_LOOP1 t w := by simp only [WL_LOOP0, WL_LOOP1]; omega
  refine ⟨?_, ?_, fun c hc => ?_⟩
  · rw [hreg, reg_setReg, if_neg hne, reg_setReg, if_pos rfl]
  · rw [hreg, reg_setReg, if_pos rfl]
  · simp only [List.mem_cons, List.not_mem_nil, or_false, not_or] at hc
    rw [hreg, reg_setReg, if_neg hc.2, reg_setReg, if_neg hc.1]

theorem innerVerdict_passes (hm : (s.lp t w).mode ≠ emLockstep) (hp : (if s.engineOf t w = 0 then a else b) = true) :
    s.innerVerdict t w a b same = s.verify t w := by
  unfold State.innerVerdict
  dsimp only
  rw [checksPass_residue hm, if_pos hp, if_neg hm]

theorem innerVerdict_fails (hm : (s.lp t w).mode ≠ emLockstep) (hp : (if s.engineOf t w = 0 then a else b) = false) (ha : (s.lp t w).heldAge < 2) :
    s.innerVerdict t w a b same = s.askedRetry t w := by
  have hl : ¬ 2 ≤ (s.lp t w).heldAge := by omega
  unfold State.innerVerdict State.askedRetry
  dsimp only
  rw [checksPass_residue hm, hp, lastingNow_residue hm]
  simp only [hm, hl, Bool.false_eq_true, if_false, decide_false, Bool.false_and]

theorem innerVerdict_compares (hm : (s.lp t w).mode = emLockstep) : s.innerVerdict t w true true true = (s.commit t w).verify t w := by
  unfold State.innerVerdict
  dsimp only
  rw [checksPass_lockstep hm]
  simp only [hm, Bool.and_self, if_true]

theorem innerVerdict_differs (hm : (s.lp t w).mode = emLockstep) :
    s.innerVerdict t w true true false = s.updLp t w (fun l => { l with retry := true, failA := false, failB := false }) := by
  unfold State.innerVerdict
  dsimp only
  rw [checksPass_lockstep hm, lastingNow_lockstep hm]
  simp only [hm, Bool.and_false, Bool.false_eq_true, if_false, bne_self_eq_false, if_true, Bool.not_true]

theorem innerVerdict_lasting (hm : (s.lp t w).mode = emLockstep) (hs : same = false) (hab : a ≠ b) :
    s.innerVerdict t w a b same = s.lastingEval t w (!a) (!b) same := by
  subst hs
  have hp : (a && b) = false := by
    cases a
    · rfl
    · cases b
      · rfl
      · exact absurd rfl hab
  unfold State.innerVerdict
  dsimp only
  rw [checksPass_lockstep hm, lastingNow_lockstep hm, hp, bne_iff_ne.mpr hab]
  rfl

/-! ### Lasting faults (R129, R130) -/

/-- The evaluation is given up. -/
def State.dropped (s : State) (t w : Nat) : State := s.updLp t w (fun l => { l with heldX := none, retry := false })

theorem dropped_lp : ((s.dropped t w).lp t w).heldX = none ∧ ((s.dropped t w).lp t w).retry = false ∧
    ((s.dropped t w).lp t w).mode = (s.lp t w).mode := by
  rw [State.dropped, updLp_same]
  exact ⟨rfl, rfl, rfl⟩

theorem dropped_outDue (v : Nat) : ((s.dropped t w).lp t v).outDue = (s.lp t v).outDue :=
  updLp_keeps (·.outDue) (fun l => { l with heldX := none, retry := false }) (fun _ => rfl) v

theorem dropped_engineOf : (s.dropped t w).engineOf t w = s.engineOf t w := by
  unfold State.engineOf
  rw [dropped_lp.2.2]
  rfl

theorem lastingEval_residue (hm : (s.lp t w).mode ≠ emLockstep) :
    s.lastingEval t w a b same = (s.dropped t w).engineFail t (s.engineOf t w) w 1 := by
  have hm : ((s.dropped t w).lp t w).mode ≠ emLockstep := by rw [dropped_lp.2.2]; exact hm
  have he : (s.dropped t w).engineOf t w = s.engineOf t w := dropped_engineOf
  show (s.dropped t w).lastingFault t w a b same = _
  unfold State.lastingFault
  rw [if_neg hm, he]

theorem lastingEval_one (hm : (s.lp t w).mode = emLockstep) {e : Nat} (he : e < 2) (ha : a = decide (e = 0)) (hb : b = decide (e = 1)) :
    s.lastingEval t w a b same = (s.dropped t w).engineFail t e w 1 := by
  have hm : ((s.dropped t w).lp t w).mode = emLockstep := by rw [dropped_lp.2.2]; exact hm
  show (s.dropped t w).lastingFault t w a b same = _
  unfold State.lastingFault
  rw [if_pos hm, ha, hb]
  obtain rfl | rfl : e = 0 ∨ e = 1 := by omega
  · rfl
  · rfl

theorem lastingEval_unknown (hm : (s.lp t w).mode = emLockstep) (hab : a = b) :
    s.lastingEval t w a b same = (s.dropped t w).engineUnknown t w (if a || same then 1 else 2) := by
  have hm : ((s.dropped t w).lp t w).mode = emLockstep := by rw [dropped_lp.2.2]; exact hm
  subst hab
  show (s.dropped t w).lastingFault t w a a same = _
  unfold State.lastingFault
  rw [if_pos hm]
  cases a
  · rfl
  · rfl

/-- What the marks of a lasting fault leave of the loops. -/
theorem engineFail_keeps {β : Type} (π : Loop → β) (h : ∀ l : Loop, π { l with modePend := false } = π l) (e cause v : Nat) :
    π ((s.engineFail t e w cause).lp t v) = π (s.lp t v) := by
  rcases engineFail_cases s t e w cause with he | he | he
  · rw [he]
    rfl
  · rw [he, fallBack_keeps π h]
    rfl
  · rw [he]
    rfl

theorem failMarked_rd {e cause : Nat} (g : Fld) (hg : g.ok = true) (h1 : (failedFld e).apart g = true) (h2 : PH_ENG_STAT.LAST_WELL.apart g = true)
    (h3 : PH_ENG_STAT.CAUSE.apart g = true) : (s.failMarked t e w cause).rd (PH_ENG_STAT t) g = s.rd (PH_ENG_STAT t) g :=
  (rd_wr_fld _ _ _ _ _ _ hg h1).trans ((rd_wr_fld _ _ _ _ _ _ hg h2).trans (rd_wr_fld _ _ _ _ _ _ hg h3))

theorem failMarked_fallback {e cause : Nat} : (s.failMarked t e w cause).fallback t = s.fallback t := by
  unfold State.fallback State.flag
  rw [failMarked_rd _ (by decide) (by unfold failedFld; split <;> rfl) (by decide) (by decide)]

/-- The other engine's flag stands. -/
theorem failMarked_other {e cause : Nat} (he : e < 2) : (s.failMarked t e w cause).failed t (1 - e) = s.failed t (1 - e) := by
  unfold State.failed State.flag
  obtain rfl | rfl : e = 0 ∨ e = 1 := by omega
  · rw [failMarked_rd _ (by decide) (by decide) (by decide) (by decide)]
  · rw [failMarked_rd _ (by decide) (by decide) (by decide) (by decide)]

theorem engineFail_marked (e cause : Nat) : s.engineFail t e w cause =
    if (s.failMarked t e w cause).fallback t then s.failMarked t e w cause
    else if (s.failMarked t e w cause).failed t (1 - e) then (s.failMarked t e w cause).fallBack t false
    else if (s.failMarked t e w cause).engMode t = degraded (1 - e) ∧ ((s.failMarked t e w cause).en t).grant.isNone ∧
        ((s.failMarked t e w cause).en t).target.isNone then s.failMarked t e w cause
    else ((s.failMarked t e w cause).moveMode t (degraded (1 - e))).updEn t (fun x => { x with byFault := true }) := rfl

/-- An attributed fault of a tile that runs in LOCKSTEP moves it to the partner's DEGRADED mode. -/
theorem engineFail_moves {e cause : Nat} (he : e < 2) (hb : s.fallback t = false) (hm : s.engMode t = emLockstep) (hf : s.failed t (1 - e) = false) :
    s.engineFail t e w cause = ((s.failMarked t e w cause).moveMode t (degraded (1 - e))).updEn t (fun x => { x with byFault := true }) := by
  have h1 : (s.failMarked t e w cause).fallback t = false := failMarked_fallback.trans hb
  have h2 : (s.failMarked t e w cause).failed t (1 - e) = false := (failMarked_other he).trans hf
  have h3 : (s.failMarked t e w cause).engMode t ≠ degraded (1 - e) := by
    rw [State.engMode, failMarked_rd _ (by decide) (by unfold failedFld; split <;> rfl) (by decide) (by decide), show s.rd _ _ = _ from hm]
    unfold degraded
    split <;> decide
  rw [engineFail_marked, h1, if_neg (by decide), h2, if_neg (by decide), if_neg (fun h => h3 h.1)]

end

end Sys2Proof.Machine

/-! PROOFS. Evaluations settled: outer evaluations, unattributed faults, and the well that a fallback takes out of its loop (R116, R127, R130). -/

namespace Sys2Proof.Machine

open Sys2Proof

section
variable {s : State} {t w : Nat}

/-! ### Operations on registers alone -/

theorem State.onlyRegs.refl (s : State) : s.onlyRegs s := rfl

theorem State.onlyRegs.trans {s u v : State} (h1 : s.onlyRegs u) (h2 : u.onlyRegs v) : s.onlyRegs v := by
  have h : ({ v with regs := s.regs } : State) = { u with regs := s.regs } :=
    congrArg (fun x : State => { x with regs := s.regs }) (show ({ v with regs := u.regs } : State) = u from h2)
  exact h.trans h1

theorem onlyRegs_mo {s u : State} (h : s.onlyRegs u) (t w : Nat) : u.mo t w = s.mo t w := (congrArg (fun x : State => x.mo t w) h :)
theorem onlyRegs_lp {s u : State} (h : s.onlyRegs u) (t w : Nat) : u.lp t w = s.lp t w := (congrArg (fun x : State => x.lp t w) h :)
theorem onlyRegs_fault {s u : State} (h : s.onlyRegs u) : u.fault = s.fault := (congrArg State.fault h :)

theorem onlyRegs_each {α : Type} (l : List α) (f : State → α → State) (h : ∀ u e, State.onlyRegs u (f u e)) (s : State) : s.onlyRegs (s.each l f) := by
  induction l generalizing s with
  | nil => rfl
  | cons a l ih => exact (h s a).trans (ih (f s a))

/-! ### A transient fault (R127) -/

theorem transient_counts (h : s.rd (PH_ENG_STAT t) PH_ENG_STAT.TRANSIENTS + 1 < 0xFFFFFFFF) :
    s.transient t w = (s.wr (PH_ENG_STAT t) ctrCount (s.rd (PH_ENG_STAT t) ctrCount + 1)).wr (PH_ENG_STAT t) PH_ENG_STAT.LAST_WELL w := by
  unfold State.transient
  rw [bump_counts _ _ h]

theorem transient_stat (h : s.rd (PH_ENG_STAT t) PH_ENG_STAT.TRANSIENTS + 1 < 0xFFFFFFFF) (hw : w < 15) :
    (s.transient t w).rd (PH_ENG_STAT t) PH_ENG_STAT.TRANSIENTS = s.rd (PH_ENG_STAT t) PH_ENG_STAT.TRANSIENTS + 1 ∧
    (s.transient t w).rd (PH_ENG_STAT t) PH_ENG_STAT.LAST_WELL = w := by
  rw [transient_counts h]
  refine ⟨(rd_wr_fld _ _ _ _ _ _ (by decide) (by decide)).trans ((rd_wr_same _ _ ctrCount _ (by decide)).trans (Nat.mod_eq_of_lt ?_)),
    (rd_wr_same _ _ _ _ (by decide)).trans (Nat.mod_eq_of_lt (lt_trans hw (by decide)))⟩
  rw [show ctrCount.width = 32 from rfl]
  exact lt_trans h (by decide)

theorem transient_rest (h : s.rd (PH_ENG_STAT t) PH_ENG_STAT.TRANSIENTS + 1 < 0xFFFFFFFF) : s.onlyRegs (s.transient t w) := by
  rw [transient_counts h]
  rfl

theorem transient_reg (h : s.rd (PH_ENG_STAT t) PH_ENG_STAT.TRANSIENTS + 1 < 0xFFFFFFFF) {b : Nat} (hb : b ≠ PH_ENG_STAT t) :
    (s.transient t w).reg b = s.reg b := by
  rw [transient_counts h]
  exact (reg_wr_ne _ _ _ _ _ hb).trans (reg_wr_ne _ _ _ _ _ hb)

theorem transient_lp (h : s.rd (PH_ENG_STAT t) PH_ENG_STAT.TRANSIENTS + 1 < 0xFFFFFFFF) (v : Nat) : (s.transient t w).lp t v = s.lp t v :=
  (congrArg (fun x : State => x.lp t v) (transient_rest (w := w) h) :)

theorem transient_fault (h : s.rd (PH_ENG_STAT t) PH_ENG_STAT.TRANSIENTS + 1 < 0xFFFFFFFF) : (s.transient t w).fault = s.fault :=
  (congrArg State.fault (transient_rest (w := w) h) :)

/-! ### An unattributed fault (R130) -/

theorem holdPh_en (r : Raise) (u : Nat) : (s.holdPh r).en u = s.en u := by
  unfold State.holdPh
  split <;> rfl

theorem fallBack_en (test : Bool) : (s.fallBack t test).en t = { s.en t with
    grant := none
    target := none
    byFault := false
    ranA := false
    ranB := false
    dueA := (s.en t).dueA || test
    dueB := (s.en t).dueB || test
    startTest := false } := by
  refine (each_keeps (fun u => u.en t) _ (fun u w => if (u.lp t w).modePend then u.updLp t w (fun l => { l with modePend := false }) else u)
    (fun u x => ?_) _).trans ?_
  · split <;> rfl
  · rw [updEn_same, holdPh_en]
    rfl

theorem holdPh_mem (r : Raise) : r ∈ (s.holdPh r).fault.held := by
  unfold State.holdPh
  split
  next h => exact List.contains_iff_mem.mp h
  next => exact List.mem_append_right _ (List.mem_singleton.mpr rfl)

/-- The marks of an unattributed lasting fault. -/
theorem engineUnknown_falls {cause : Nat} (h : s.fallback t = false) :
    s.engineUnknown t w cause = (s.noteFault t w cause).fallBack t true := by
  have h1 : (s.noteFault t w cause).fallback t = false :=
    (flag_wr_fld _ _ _ _ _ _ (by decide) (by decide)).trans ((flag_wr_fld _ _ _ _ _ _ (by decide) (by decide)).trans h)
  unfold State.engineUnknown
  dsimp only
  rw [h1]
  rfl

theorem noteFault_rd {cause : Nat} (g : Fld) (hg : g.ok = true) (h1 : PH_ENG_STAT.CAUSE.apart g = true) (h2 : PH_ENG_STAT.LAST_WELL.apart g = true) :
    (s.noteFault t w cause).rd (PH_ENG_STAT t) g = s.rd (PH_ENG_STAT t) g :=
  (rd_wr_fld _ _ _ _ _ _ hg h2).trans (rd_wr_fld _ _ _ _ _ _ hg h1)

theorem noteFault_reg {cause b : Nat} (h : b ≠ PH_ENG_STAT t) : (s.noteFault t w cause).reg b = s.reg b :=
  (reg_wr_ne _ _ _ _ _ h).trans (reg_wr_ne _ _ _ _ _ h)

/-- What an unattributed lasting fault leaves (R130). -/
structure FellBack (s u : State) (t w cause : Nat) : Prop where
  fallback : u.fallback t = true
  failed (e : Nat) : u.failed t e = s.failed t e
  cause : u.rd (PH_ENG_STAT t) PH_ENG_STAT.CAUSE = cause
  lastWell : u.rd (PH_ENG_STAT t) PH_ENG_STAT.LAST_WELL = w
  due : (u.en t).dueA = true ∧ (u.en t).dueB = true
  held : { src := 12, tile := t } ∈ u.fault.held
  now : u.fault.now = s.fault.now
  kept : State.sameBut [PH_ENG_STAT t] s u

theorem engineUnknown_fell {cause : Nat} (h : s.fallback t = false) (hw : w < 15) (hc : cause < 4) :
    FellBack s (s.engineUnknown t w cause) t w cause := by
  have hstat (g : Fld) (hg : g.ok = true) (ha : PH_ENG_STAT.HYST_FALLBACK.apart g = true) :
      ((s.noteFault t w cause).fallBack t true).rd (PH_ENG_STAT t) g = (s.noteFault t w cause).rd (PH_ENG_STAT t) g :=
    (rd_of_reg (fallBack_stat true) g).trans (rd_wr_fld _ _ _ _ _ _ hg ha)
  rw [engineUnknown_falls h]
  refine ⟨?_, fun e => ?_, ?_, ?_, ?_, ?_, ?_, fun b hb => ?_⟩
  · exact (flag_of_reg (fallBack_stat true) _).trans (flag_wr_one _ _ _ (by decide))
  · unfold State.failed State.flag
    rw [hstat _ (failedFld_ok e) (failedFld_apart e).2.2,
      noteFault_rd _ (failedFld_ok e) (by unfold failedFld; split <;> rfl) (by unfold failedFld; split <;> rfl)]
  · refine (hstat _ (by decide) (by decide)).trans ((rd_wr_fld _ _ _ _ _ _ (by decide) (by decide)).trans ?_)
    exact (rd_wr_same _ _ _ _ (by decide)).trans (Nat.mod_eq_of_lt hc)
  · refine (hstat _ (by decide) (by decide)).trans ((rd_wr_same _ _ _ _ (by decide)).trans (Nat.mod_eq_of_lt (lt_trans hw (by decide))))
  · rw [fallBack_en]
    exact ⟨Bool.or_true _, Bool.or_true _⟩
  · rw [fallBack_fault]
    exact holdPh_mem _
  · rw [fallBack_fault, holdPh_now]
    rfl
  · have hb : b ≠ PH_ENG_STAT t := by simpa using hb
    exact (fallBack_reg true hb).trans (noteFault_reg hb)

theorem engineUnknown_keeps {β : Type} (π : Loop → β) (hπ : ∀ l : Loop, π { l with modePend := false } = π l) (cause v : Nat)
    (h : s.fallback t = false) : π ((s.engineUnknown t w cause).lp t v) = π (s.lp t v) := by
  rw [engineUnknown_falls h, fallBack_keeps π hπ]
  rfl

/-! ### Outer evaluations (R116, R118) -/

theorem commitTrims_rest (s : State) (e : Nat × Word) : s.onlyRegs (s.commitTrims t e) :=
  onlyRegs_each _ _ (fun u p => by split <;> rfl) s

theorem commitTrims_reg (e : Nat × Word) {b : Nat} (h : ∀ v, b ≠ WL_SHARE t v) : (s.commitTrims t e).reg b = s.reg b := by
  refine each_keeps (·.reg b) _ _ (fun u p => ?_) s
  split
  · rfl
  · exact reg_wr_ne _ _ _ _ _ (h e.1)

theorem zeroTrims_rest : s.onlyRegs (s.zeroTrims t w) := onlyRegs_each _ _ (fun u p => by split <;> rfl) s

theorem zeroTrims_reg {b : Nat} (h : ∀ v, b ≠ WL_SHARE t v) : (s.zeroTrims t w).reg b = s.reg b := by
  refine each_keeps (·.reg b) _ _ (fun u p => ?_) s
  split
  · rfl
  · exact reg_wr_ne _ _ _ _ _ (h w)

theorem centre_rest (s : State) (raw : List ((Nat × Nat) × Int)) : s.onlyRegs (s.centre t w raw) := by
  have hstep (lim mean : Int) : s.onlyRegs (s.each raw (fun u e => u.wri (WL_SHARE t e.1.1) (shareFld e.1.2) (clampI (-lim) lim (e.2 - mean)))) := by
    refine onlyRegs_each raw _ (fun u e => ?_) s
    rfl
  exact hstep _ _

theorem wri_reg_ne (s : State) (a b : Nat) (f : Fld) (v : Int) (h : b ≠ a) : (s.wri a f v).reg b = s.reg b := by
  rw [wri_eq]
  exact reg_wr_ne _ _ _ _ _ h

theorem centre_reg (s : State) (raw : List ((Nat × Nat) × Int)) {b : Nat} (h : ∀ v, b ≠ WL_SHARE t v) : (s.centre t w raw).reg b = s.reg b := by
  have hstep (lim mean : Int) : (s.each raw (fun u e => u.wri (WL_SHARE t e.1.1) (shareFld e.1.2) (clampI (-lim) lim (e.2 - mean)))).reg b = s.reg b :=
    each_keeps (fun u => u.reg b) raw _ (fun u e => wri_reg_ne u _ b _ _ (h e.1.1)) s
  exact hstep _ _

theorem recentre_rest (s : State) : s.onlyRegs (s.recentre t w) := zeroTrims_rest.trans (centre_rest _ _)

theorem recentre_reg (s : State) {b : Nat} (h : ∀ v, b ≠ WL_SHARE t v) : (s.recentre t w).reg b = s.reg b :=
  (centre_reg (s.zeroTrims t w) _ h).trans (zeroTrims_reg h)

/-- The trims of a result of the outer evaluation. -/
def State.trimsSet (s : State) (t w : Nat) (r : OuterRes) : State :=
  (s.each r.shares (fun u e => u.commitTrims t e)).on (r.shares.any (s.tookTrim t ·)) (·.recentre t w)

theorem trimsSet_rest (r : OuterRes) : s.onlyRegs (s.trimsSet t w r) := by
  have h : s.onlyRegs (s.each r.shares (fun u e => u.commitTrims t e)) := onlyRegs_each _ _ (fun u e => commitTrims_rest u e) s
  unfold State.trimsSet State.on
  split
  · exact h.trans (recentre_rest _)
  · exact h

theorem trimsSet_reg (r : OuterRes) {b : Nat} (h : ∀ v, b ≠ WL_SHARE t v) : (s.trimsSet t w r).reg b = s.reg b := by
  have he : (s.each r.shares (fun u e => u.commitTrims t e)).reg b = s.reg b := each_keeps (·.reg b) _ _ (fun u e => commitTrims_reg e h) s
  unfold State.trimsSet State.on
  split
  · exact (recentre_reg _ h).trans he
  · exact he

theorem outerCommit_trims (r : OuterRes) : s.outerCommit t w r =
    ((s.trimsSet t w r).updLp t w (fun l => { l with vIn := r.vIn, bus := r.bus })).updMo t w (fun m => { m with vTgt := r.vTgt }) := rfl

theorem outerCommit_reg (r : OuterRes) {b : Nat} (h : ∀ v, b ≠ WL_SHARE t v) : (s.outerCommit t w r).reg b = s.reg b := by
  rw [outerCommit_trims]
  exact trimsSet_reg r h

theorem outerCommit_fault (r : OuterRes) : (s.outerCommit t w r).fault = s.fault := by
  rw [outerCommit_trims]
  show (s.trimsSet t w r).fault = s.fault
  exact onlyRegs_fault (trimsSet_rest r)

theorem updMo_lp (f : Motion → Motion) (v : Nat) : (s.updMo t w f).lp t v = s.lp t v := by
  by_cases h : v = w
  · subst h
    simp [State.updMo, State.lp]
  · simp [State.updMo, State.lp, h]

theorem outerCommit_outDue (r : OuterRes) (v : Nat) : ((s.outerCommit t w r).lp t v).outDue = (s.lp t v).outDue := by
  rw [outerCommit_trims, updMo_lp, updLp_keeps (·.outDue) (fun l : Loop => { l with vIn := r.vIn, bus := r.bus }) (fun _ => rfl),
    onlyRegs_lp (trimsSet_rest r)]

theorem outerCommit_vTgt (r : OuterRes) : ((s.outerCommit t w r).mo t w).vTgt = r.vTgt := by
  unfold State.outerCommit
  rw [updMo_same]

theorem eng_ne_share (t v : Nat) : PH_ENG_STAT t ≠ WL_SHARE t v := by simp only [PH_ENG_STAT, WL_SHARE, wlBase]; omega

variable {a b same : Bool} {r : OuterRes}

theorem outerVerdict_passes (hm : (s.lp t w).mode ≠ emLockstep) (hp : (if s.engineOf t w = 0 then a else b) = true) :
    s.outerVerdict t w r a b same = s.updLp t w (fun l => { l with outer := none }) := by
  unfold State.outerVerdict
  rw [checksPass_residue hm, if_pos hp, if_neg hm]

theorem outerVerdict_fails (hm : (s.lp t w).mode ≠ emLockstep) (hp : (if s.engineOf t w = 0 then a else b) = false) :
    s.outerVerdict t w r a b same = s.updLp t w (fun l => { l with outRetry := true, outFailA := !a, outFailB := !b }) := by
  unfold State.outerVerdict
  rw [checksPass_residue hm, hp, lastingNow_residue hm]
  rfl

/-! ### A fallback takes a well out of its loop (R130) -/

theorem modeDone_mo (v : Nat) : (s.modeDone t).mo t v = s.mo t v := by
  unfold State.modeDone
  split
  · split_ifs <;> rfl
  · rfl

theorem updLp_mo (f : Loop → Loop) (v : Nat) : (s.updLp t w f).mo t v = s.mo t v := by
  by_cases h : v = w
  · subst h
    simp [State.updLp, State.mo]
  · simp [State.updLp, State.mo, h]

theorem takeMode_mo (v : Nat) : (s.takeMode t w).mo t v = s.mo t v := by
  unfold State.takeMode
  split
  · split
    · exact (modeDone_mo v).trans (updLp_mo _ v)
    · exact updLp_mo _ v
  · rfl

theorem setPmd_rest (s : State) (d : Bool) : s.onlyRegs (s.setPmd t w d) :=
  onlyRegs_each _ (fun u p => u.wrb (PM_LINK t w p) PM_LINK.PMD d) (fun _ _ => rfl) s

/-- A well in hysteretic mode keeps the set-point at which it fell back. -/
theorem toHyst_xFall : ((s.toHyst t w).mo t w).xFall = (s.mo t w).xFall := by
  unfold State.toHyst
  dsimp only
  rw [takeMode_mo, updLp_mo, updMo_same]
  refine (congrArg Motion.xFall (each_keeps (fun u => u.mo t w) _ (fun u p => u.updPump t w p (fun q => { q with duty := 0 })) (fun _ _ => rfl) _)).trans ?_
  exact congrArg Motion.xFall (onlyRegs_mo (setPmd_rest (s.setStage t w stHyst) true) t w)

theorem toHyst_stage : (s.toHyst t w).stage t w = stHyst := by
  have h1 : WL_SETPT t w ≠ PH_ENG_STAT t := by simp only [WL_SETPT, wlBase, PH_ENG_STAT]; omega
  have h2 : WL_SETPT t w ≠ WL_PWM t w := by simp only [WL_SETPT, WL_PWM]; omega
  have h3 : WL_SETPT t w ≠ WL_LOOP_STAT t w := by simp only [WL_SETPT, WL_LOOP_STAT]; omega
  have h4 : WL_SETPT t w ≠ WL_SHARE t w := by simp only [WL_SETPT, WL_SHARE]; omega
  have h5 : ∀ p, p < 4 → WL_SETPT t w ≠ PM_LINK t w p := fun p _ => by simp only [WL_SETPT, PM_LINK]; omega
  have hreg : (s.toHyst t w).reg (WL_SETPT t w) = (s.setStage t w stHyst).reg (WL_SETPT t w) := by
    unfold State.toHyst
    dsimp only
    rw [takeMode_reg _ _ _ _ h1]
    refine (each_keeps (fun u => u.reg (WL_SETPT t w)) _ (fun u p => u.updPump t w p (fun q => { q with duty := 0 })) (fun _ _ => rfl) _).trans ?_
    rw [reg_wr_ne _ _ _ _ _ h2, reg_wr_ne _ _ _ _ _ h3, reg_setReg, if_neg h4, setPmd_reg _ _ _ _ _ h5]
  exact (rd_of_reg hreg _).trans (stage_setStage s t w stHyst (by decide))

end

end Sys2Proof.Machine

/-! PROOFS. What an evaluation, a verdict and a retry leave (R104-R106, R125-R130, R133). -/

namespace Sys2Proof.Machine

open Sys2Proof

section
variable {s : State} {u w : Nat}

/-! ### Evaluations and verdicts out of LOCKSTEP -/

/-- The registers of a committed result. -/
theorem evaluated_sameBut (q : Sample) (rest : List Sample) (r : EvalOut) (f : Loop → Loop) :
    State.sameBut [WL_LOOP0 u w, WL_LOOP1 u w, WL_LOOP_STAT u w] s (((s.evaluated u w q rest).loopStored u w r).updLp u w f) := by
  intro b hb
  refine (loopStored_sameBut (s := s.evaluated u w q rest) r b hb).trans (evaluated_reg ?_)
  simp only [List.mem_cons, List.not_mem_nil, or_false, not_or] at hb
  exact hb.2.2

theorem evaluated_stored_outDue (q : Sample) (rest : List Sample) (r : EvalOut) (f : Loop → Loop) (hf : ∀ l, (f l).outDue = l.outDue) (v : Nat) :
    ((((s.evaluated u w q rest).loopStored u w r).updLp u w f).lp u v).outDue = (s.lp u v).outDue := by
  rw [updLp_keeps (·.outDue) f hf, loopStored_lp, evaluated_outDue]

/-- An evaluation's end: its effect, where no outer evaluation waits. -/
theorem exec_innerEvaluation {t : State} (hq : s.quiet) (he : s.innerEvaluation u w = t.issueOuters u) (ho : ∀ v, v < 15 → (t.lp u v).outDue = false)
    (hf : t.fault = s.fault) : exec (.innerEvaluation u w) s = .next t := by
  have he : s.innerEvaluation u w = t := he.trans (issueOuters_none ho)
  rw [← he]
  exact done_quiet _ (by rw [he]; exact (congrArg (·.now) hf : t.fault.now = _).trans hq)

theorem exec_residueVerdict {a b same : Bool} {t : State} (hq : s.quiet) (he : s.residueVerdict u w a b same = t.issueOuters u)
    (ho : ∀ v, v < 15 → (t.lp u v).outDue = false) (hf : t.fault.now = s.fault.now) : exec (.residueVerdict u w a b same) s = .next t := by
  have he : s.residueVerdict u w a b same = t := he.trans (issueOuters_none ho)
  rw [← he]
  exact done_quiet _ (by rw [he]; exact hf.trans hq)

theorem exec_evaluationRetry {a b same : Bool} {t : State} (hq : s.quiet) (he : s.evaluationRetry u w a b same = t.issueOuters u)
    (ho : ∀ v, v < 15 → (t.lp u v).outDue = false) (hf : t.fault.now = s.fault.now) : exec (.evaluationRetry u w a b same) s = .next t := by
  have he : s.evaluationRetry u w a b same = t := he.trans (issueOuters_none ho)
  rw [← he]
  exact done_quiet _ (by rw [he]; exact hf.trans hq)

/-! ### Retries out of LOCKSTEP -/

theorem retry_passes {a b same : Bool} {x : Int} (hq : s.quiet) (hw : w < 15) (hx : (s.lp u w).heldX = some x) (hr : (s.lp u w).retry = true)
    (ho : ∀ v, v < 15 → (s.lp u v).outDue = false) (hage : (s.lp u w).heldAge < 2) (hm : (s.lp u w).mode ≠ emLockstep)
    (hp : (if s.engineOf u w = 0 then a else b) = true) (hn : s.rd (PH_ENG_STAT u) PH_ENG_STAT.TRANSIENTS + 1 < 0xFFFFFFFF) :
    ∃ t, exec (.evaluationRetry u w a b same) s = .next t ∧
      t.rd (PH_ENG_STAT u) PH_ENG_STAT.TRANSIENTS = s.rd (PH_ENG_STAT u) PH_ENG_STAT.TRANSIENTS + 1 ∧
      t.rd (PH_ENG_STAT u) PH_ENG_STAT.LAST_WELL = w ∧ (t.lp u w).verified = (s.lp u w).heldDuty ∧ (t.lp u w).retry = false ∧
      State.sameBut [PH_ENG_STAT u, WL_LOOP0 u w, WL_LOOP1 u w, WL_LOOP_STAT u w] s t := by
  have hlp := transient_lp (w := w) hn w
  have hc := commit_onTime (s := s.transient u w) (t := u) (w := w) (by rw [hlp]; exact hage)
  rw [hlp] at hc
  have hne : PH_ENG_STAT u ∉ [WL_LOOP0 u w, WL_LOOP1 u w, WL_LOOP_STAT u w] := by
    simp only [PH_ENG_STAT, WL_LOOP0, WL_LOOP1, WL_LOOP_STAT, wlBase, List.mem_cons, List.not_mem_nil, or_false, not_or]
    omega
  have hreg (b : Nat) (hb : b ∉ [WL_LOOP0 u w, WL_LOOP1 u w, WL_LOOP_STAT u w]) :
      (((s.transient u w).commit u w).verify u w).reg b = (s.transient u w).reg b := by
    rw [hc]
    exact loopStored_sameBut (s := s.transient u w) _ b hb
  have he : s.evaluationRetry u w a b same = (((s.transient u w).commit u w).verify u w).issueOuters u := by
    rw [evaluationRetry_inner hx hr, checksPass_residue hm, if_pos hp]
  refine ⟨_, exec_evaluationRetry hq he (outDue_of (fun v => ?_) ho) ?_, ?_, ?_, ?_, verify_lp.2.2.1, fun b hb => ?_⟩
  · rw [verify_outDue, hc, updLp_keeps (·.outDue) (fun x : Loop => { x with next := some (s.lp u w).heldDuty, counted := false }) (fun _ => rfl),
      loopStored_lp, transient_lp hn]
  · rw [hc]
    exact congrArg (·.now) (transient_fault (w := w) hn)
  · exact (rd_of_reg (hreg _ hne) _).trans (transient_stat hn hw).1
  · exact (rd_of_reg (hreg _ hne) _).trans (transient_stat hn hw).2
  · rw [verify_lp.1, hc, updLp_same, loopStored_lp, hlp]
  · exact (hreg b (fun h => hb (List.mem_cons_of_mem _ h))).trans (transient_reg hn (fun h => hb (h ▸ List.mem_cons_self)))

theorem retry_fails {a b same : Bool} {x : Int} (hq : s.quiet) (hw : w < 15) (hx : (s.lp u w).heldX = some x) (hr : (s.lp u w).retry = true)
    (ho : ∀ v, v < 15 → (s.lp u v).outDue = false) (hm : (s.lp u w).mode ≠ emLockstep) (hp : (if s.engineOf u w = 0 then a else b) = false) :
    ∃ t, exec (.evaluationRetry u w a b same) s = .next t ∧ t.failed u (s.engineOf u w) = true ∧
      t.rd (PH_ENG_STAT u) PH_ENG_STAT.CAUSE = 1 ∧ t.rd (PH_ENG_STAT u) PH_ENG_STAT.LAST_WELL = w ∧
      { src := 11, tile := u, well := w, sub := s.engineOf u w } ∈ t.fault.inflight ∧ (t.lp u w).retry = false ∧ (t.lp u w).heldX = none ∧
      State.sameBut [PH_ENG_STAT u, PH_ENG_CTRL u] s t := by
  have hn : FailNoted (s.dropped u w) ((s.dropped u w).engineFail u (s.engineOf u w) w 1) u (s.engineOf u w) w 1 :=
    engineFail_noted (lt_trans hw (by decide)) (by decide)
  have he : s.evaluationRetry u w a b same = ((s.dropped u w).engineFail u (s.engineOf u w) w 1).issueOuters u := by
    rw [evaluationRetry_inner hx hr, checksPass_residue hm, hp, if_neg (by decide), lastingEval_residue hm]
  refine ⟨_, exec_evaluationRetry hq he (outDue_of (fun v => ?_) ho) hn.now, hn.failed, hn.cause, hn.lastWell, hn.raised, ?_, ?_, hn.kept⟩
  · rw [engineFail_keeps (·.outDue) (fun _ => rfl), dropped_outDue]
  · rw [engineFail_keeps (·.retry) (fun _ => rfl)]
    exact dropped_lp.2.1
  · rw [engineFail_keeps (·.heldX) (fun _ => rfl)]
    exact dropped_lp.1

/-! ### LOCKSTEP (R129, R133) -/

/-- A lasting fault attributed to one engine of a tile in LOCKSTEP. -/
theorem engineFail_blames {e : Nat} (hw : w < 15) (he : e < 2) (hb : s.fallback u = false) (hm : s.engMode u = emLockstep)
    (h0 : s.failed u 0 = false) (h1 : s.failed u 1 = false) : s.blames ((s.dropped u w).engineFail u e w 1) u w e := by
  have hother : s.failed u (1 - e) = false := by
    obtain rfl | rfl : e = 0 ∨ e = 1 := by omega
    · exact h1
    · exact h0
  have hn : FailNoted (s.dropped u w) ((s.dropped u w).engineFail u e w 1) u e w 1 := engineFail_noted (lt_trans hw (by decide)) (by decide)
  have hmove := engineFail_moves (s := s.dropped u w) (t := u) (w := w) (cause := 1) he hb hm hother
  have hstat (g : Fld) : ((s.dropped u w).engineFail u e w 1).rd (PH_ENG_STAT u) g = ((s.dropped u w).failMarked u e w 1).rd (PH_ENG_STAT u) g := by
    rw [hmove]
    exact rd_of_reg (moveMode_reg (ctrl_ne_stat u)) g
  refine ⟨hn.failed, ?_, ?_, hn.cause, hn.lastWell, hn.raised, ?_, ?_, ?_, ?_, hn.kept⟩
  · unfold State.failed State.flag
    rw [hstat]
    exact (failMarked_other he).trans hother
  · unfold State.fallback State.flag
    rw [hstat]
    exact failMarked_fallback.trans hb
  · rw [hmove, updEn_same, State.moveMode, updEn_same]
  · rw [hmove, updEn_same]
  · rw [engineFail_keeps (·.heldX) (fun _ => rfl)]
    exact dropped_lp.1
  · rw [engineFail_keeps (·.retry) (fun _ => rfl)]
    exact dropped_lp.2.1

theorem engineFail_outDue {e : Nat} (v : Nat) : (((s.dropped u w).engineFail u e w 1).lp u v).outDue = (s.lp u v).outDue := by
  rw [engineFail_keeps (·.outDue) (fun _ => rfl), dropped_outDue]

theorem engineFail_now {e : Nat} (hw : w < 15) : ((s.dropped u w).engineFail u e w 1).fault.now = s.fault.now :=
  (engineFail_noted (s := s.dropped u w) (lt_trans hw (by decide)) (by decide)).now

/-- An unattributed lasting fault of a tile in LOCKSTEP (R130). -/
theorem retry_unknown {a b same : Bool} {x : Int} (hq : s.quiet) (hw : w < 15) (hx : (s.lp u w).heldX = some x) (hm : (s.lp u w).mode = emLockstep)
    (ho : ∀ v, v < 15 → (s.lp u v).outDue = false) (hb : s.fallback u = false) (h0 : s.failed u 0 = false) (h1 : s.failed u 1 = false)
    (hr : (s.lp u w).retry = true) (hab : ((s.lp u w).failA || !a) = ((s.lp u w).failB || !b)) (hno : ¬(a = true ∧ b = true ∧ same = true)) :
    ∃ t, exec (.evaluationRetry u w a b same) s = .next t ∧ t.fallback u = true ∧ t.failed u 0 = false ∧ t.failed u 1 = false ∧
        t.rd (PH_ENG_STAT u) PH_ENG_STAT.CAUSE = (if (s.lp u w).failA = true ∨ a = false ∨ same = true then 1 else 2) ∧
        t.rd (PH_ENG_STAT u) PH_ENG_STAT.LAST_WELL = w ∧ (t.en u).dueA = true ∧ (t.en u).dueB = true ∧
        { src := 12, tile := u } ∈ t.fault.held ∧ (t.lp u w).heldX = none ∧ State.sameBut [PH_ENG_STAT u] s t := by
  have hcause : (if ((s.lp u w).failA || !a) || same then 1 else 2) = (if (s.lp u w).failA = true ∨ a = false ∨ same = true then 1 else 2) := by
    refine if_congr ?_ rfl rfl
    simp only [Bool.or_eq_true, Bool.not_eq_true', or_assoc]
  have hp : (a && b && same) = false := by
    rw [Bool.eq_false_iff]
    intro h
    simp only [Bool.and_eq_true] at h
    exact hno ⟨h.1.1, h.1.2, h.2⟩
  have hf : FellBack (s.dropped u w) ((s.dropped u w).engineUnknown u w (if ((s.lp u w).failA || !a) || same then 1 else 2)) u w
      (if ((s.lp u w).failA || !a) || same then 1 else 2) := engineUnknown_fell hb hw (by split <;> decide)
  have he : s.evaluationRetry u w a b same =
      ((s.dropped u w).engineUnknown u w (if ((s.lp u w).failA || !a) || same then 1 else 2)).issueOuters u := by
    rw [evaluationRetry_inner hx hr, checksPass_lockstep hm, hp, if_neg (by decide), lastingEval_unknown hm hab]
  refine ⟨_, exec_evaluationRetry hq he (outDue_of (fun v => ?_) ho) hf.now, hf.fallback, (hf.failed 0).trans h0, (hf.failed 1).trans h1,
    hf.cause.trans hcause, hf.lastWell, hf.due.1, hf.due.2, hf.held, ?_, hf.kept⟩
  · rw [engineUnknown_keeps (s := s.dropped u w) (·.outDue) (fun _ => rfl) _ _ hb, dropped_outDue]
  · rw [engineUnknown_keeps (s := s.dropped u w) (·.heldX) (fun _ => rfl) _ _ hb]
    exact dropped_lp.1

/-! ### A fallback (R130) -/

/-- The opening of a well in a tile that has fallen back. -/
theorem periodOpening_falls (hk : s.wellOk u w = true) (hwet : s.wet u w = true) (hp : w = 14 ∨ s.rd (PH_PWR u) PH_PWR.STATE = 0)
    (hs : s.stage u w = stVolt) (hf : s.fallback u = true) (ht : s.tied u w = false) :
    (s.periodOpening u w).stage u w = stHyst ∧ ((s.periodOpening u w).mo u w).xFall = some (s.mo u w).x := by
  have hleave : s.leaveLoop u w = (s.updMo u w (fun m => { m with xFall := some (s.mo u w).x })).toHyst u w := by
    have hl : s.looped u w = true := by simp only [State.looped, hs]; rfl
    have hpark : ¬ s.stage u w = stPark := by rw [hs]; decide
    unfold State.leaveLoop
    dsimp only
    rw [hf, hl, ht]
    simp only [hpark, Bool.and_self, if_true, if_false, Bool.false_eq_true, false_and]
  have hstage : ((s.leaveLoop u w).openSlots u w).stage u w = stHyst := by
    have h : WL_SETPT u w ≠ WL_PWM u w := by simp only [WL_SETPT, WL_PWM]; omega
    have hreg : ((s.leaveLoop u w).openSlots u w).reg (WL_SETPT u w) = (s.leaveLoop u w).reg (WL_SETPT u w) :=
      (reg_wr_ne _ _ _ _ _ h).trans (reg_wr_ne _ _ _ _ _ h)
    refine (rd_of_reg hreg _).trans ?_
    rw [hleave]
    exact toHyst_stage
  have hloop : ((s.leaveLoop u w).openSlots u w).looped u w = false := by simp only [State.looped, hstage]; rfl
  have hpw : (decide (w = 14) || (s.rd (PH_PWR u) PH_PWR.STATE == 0)) = true := by
    rcases hp with h | h <;> simp [h]
  have he : s.periodOpening u w = ((s.leaveLoop u w).openSlots u w).openCentre u w := by
    unfold State.periodOpening
    dsimp only
    rw [hk, hwet, hpw, hloop]
    rfl
  have hc (t : State) : (t.openCentre u w).stage u w = t.stage u w ∧ (t.openCentre u w).mo u w = t.mo u w := by
    unfold State.openCentre
    split
    · exact ⟨rd_wr_ne _ _ _ _ _ _ (by simp only [WL_SETPT, AD_WIN, wlBase]; omega), rfl⟩
    · exact ⟨rfl, rfl⟩
  rw [he, (hc _).1, (hc _).2]
  refine ⟨hstage, ?_⟩
  have hmo : ((s.leaveLoop u w).openSlots u w).mo u w = (s.leaveLoop u w).mo u w :=
    updLp_mo (s := s.leaveLoop u w) (fun l => { l with period := ((s.leaveLoop u w).lp u w).period + 1 }) w
  rw [hmo, hleave, toHyst_xFall, updMo_same]

/-! ### The clauses of an evaluation -/

variable {q : Sample} {rest : List Sample} {a b same : Bool} {x : Int} {r : OuterRes}

theorem evaluation_inTime (hq : s.quiet) (hout : ∀ v, v < 15 → (s.lp u v).outDue = false) (hage : q.age < 2)
    (he : s.innerEvaluation u w = ((s.evaluated u w q rest).commit u w).issueOuters u) : ∃ t, exec (.innerEvaluation u w) s = .next t ∧
      t.reg (WL_LOOP0 u w) = (evalPid q.x (s.evalIn u w)).l0 ∧
      t.reg (WL_LOOP1 u w) = (evalPid q.x (s.evalIn u w)).l1 ∧ (t.lp u w).next = some (evalPid q.x (s.evalIn u w)).duty ∧
      t.rd (WL_LOOP_STAT u w) WL_LOOP_STAT.SEQ = (s.rd (WL_LOOP_STAT u w) WL_LOOP_STAT.SEQ + 1) % 65536 ∧
      (t.lp u w).queue = rest ∧ (t.lp u w).heldX = some q.x ∧
      State.sameBut [WL_LOOP0 u w, WL_LOOP1 u w, WL_LOOP_STAT u w] s t := by
  have hdue (v : Nat) := evaluated_stored_outDue (s := s) (u := u) (w := w) q rest (evalPid q.x (s.evalIn u w))
    (fun x => { x with next := some (evalPid q.x (s.evalIn u w)).duty, counted := false }) (fun _ => rfl) v
  rw [evaluated_onTime hage] at he
  refine ⟨_, exec_innerEvaluation hq he (outDue_of hdue hout) rfl, loopStored_l0 _, loopStored_l1 _, ?_,
    (loopStored_seq _).trans (by rw [evaluated_seq]), ?_, ?_, evaluated_sameBut _ _ _ _⟩
  · rw [updLp_same]
  · rw [updLp_same, loopStored_lp, evaluated_lp]; rfl
  · rw [updLp_same, loopStored_lp, evaluated_lp]; rfl

theorem evaluation_late (hq : s.quiet) (hout : ∀ v, v < 15 → (s.lp u v).outDue = false) (hage : 2 ≤ q.age)
    (he : s.innerEvaluation u w = ((s.evaluated u w q rest).commit u w).issueOuters u) : ∃ t, exec (.innerEvaluation u w) s = .next t ∧
      t.reg (WL_LOOP1 u w) = ((evalPid q.x (s.evalIn u w)).late (s.lp u w).now).l1 ∧ (t.lp u w).next = (s.lp u w).next ∧
      t.rd (WL_LOOP_STAT u w) WL_LOOP_STAT.SEQ = (s.rd (WL_LOOP_STAT u w) WL_LOOP_STAT.SEQ + 1) % 65536 ∧
      (t.lp u w).queue = rest ∧ (t.lp u w).heldX = some q.x ∧
      State.sameBut [WL_LOOP0 u w, WL_LOOP1 u w, WL_LOOP_STAT u w] s t := by
  have hdue (v : Nat) := evaluated_stored_outDue (s := s) (u := u) (w := w) q rest ((evalPid q.x (s.evalIn u w)).late (s.lp u w).now)
    (fun x => { x with counted := true }) (fun _ => rfl) v
  rw [evaluated_late hage] at he
  refine ⟨_, exec_innerEvaluation hq he (outDue_of hdue hout) rfl, loopStored_l1 _, ?_,
    (loopStored_seq _).trans (by rw [evaluated_seq]), ?_, ?_, evaluated_sameBut _ _ _ _⟩
  · rw [updLp_same, loopStored_lp, evaluated_lp]; rfl
  · rw [updLp_same, loopStored_lp, evaluated_lp]; rfl
  · rw [updLp_same, loopStored_lp, evaluated_lp]; rfl

theorem evaluation_waits (hq : s.quiet) (hout : ∀ v, v < 15 → (s.lp u v).outDue = false)
    (he : s.innerEvaluation u w = (s.evaluated u w q rest).issueOuters u) : ∃ t, exec (.innerEvaluation u w) s = .next t ∧ (t.lp u w).queue = rest ∧
      (t.lp u w).heldX = some q.x ∧ (t.lp u w).heldDuty = (evalPid q.x (s.evalIn u w)).duty ∧ (t.lp u w).next = (s.lp u w).next ∧
      State.sameBut [WL_LOOP_STAT u w] s t := by
  refine ⟨_, exec_innerEvaluation hq he (outDue_of evaluated_outDue hout) rfl, ?_, ?_, ?_, ?_, fun b hb => evaluated_reg (by simpa using hb)⟩
  · rw [evaluated_lp]; rfl
  · rw [evaluated_lp]; rfl
  · rw [evaluated_lp]; rfl
  · rw [evaluated_lp]; rfl

theorem verdict_compares (hq : s.quiet) (hx : (s.lp u w).heldX = some x) (hr : (s.lp u w).retry = false)
    (ho : ∀ v, v < 15 → (s.lp u v).outDue = false) (hage : (s.lp u w).heldAge < 2) (hm : (s.lp u w).mode = emLockstep) :
    ∃ t, exec (.residueVerdict u w true true true) s = .next t ∧ (t.lp u w).verified = (s.lp u w).heldDuty ∧ (t.lp u w).heldX = none ∧
      (t.lp u w).next = some (s.lp u w).heldDuty ∧ t.reg (WL_LOOP0 u w) = (s.lp u w).res0 ∧ t.reg (WL_LOOP1 u w) = (s.lp u w).res1 ∧
      t.rd (WL_LOOP_STAT u w) WL_LOOP_STAT.SEQ = (s.rd (WL_LOOP_STAT u w) WL_LOOP_STAT.SEQ + 1) % 65536 ∧
      State.sameBut [WL_LOOP0 u w, WL_LOOP1 u w, WL_LOOP_STAT u w] s t := by
  have he : s.residueVerdict u w true true true = ((s.commit u w).verify u w).issueOuters u := by
    rw [residueVerdict_inner hx hr, innerVerdict_compares hm]
  have hc := commit_onTime (s := s) (t := u) (w := w) hage
  refine ⟨_, exec_residueVerdict hq he (outDue_of (fun v => ?_) ho) ?_, ?_, verify_lp.2.1, ?_, ?_, ?_, ?_, fun b hb => ?_⟩
  · rw [verify_outDue, hc, updLp_keeps (·.outDue) (fun x : Loop => { x with next := some (s.lp u w).heldDuty, counted := false }) (fun _ => rfl),
      loopStored_lp]
  · rw [hc]; rfl
  · rw [verify_lp.1, hc, updLp_same, loopStored_lp]
  · rw [verify_lp.2.2.2, hc, updLp_same]
  · rw [hc]; exact loopStored_l0 _
  · rw [hc]; exact loopStored_l1 _
  · rw [hc]; exact loopStored_seq _
  · rw [hc]; exact loopStored_sameBut _ b hb

theorem verdict_differs (hq : s.quiet) (hx : (s.lp u w).heldX = some x) (hr : (s.lp u w).retry = false)
    (ho : ∀ v, v < 15 → (s.lp u v).outDue = false) (hm : (s.lp u w).mode = emLockstep) :
    ∃ t, exec (.residueVerdict u w true true false) s = .next t ∧ (t.lp u w).retry = true ∧ State.sameBut [] s t := by
  have he : s.residueVerdict u w true true false = (s.updLp u w (fun l => { l with retry := true, failA := false, failB := false })).issueOuters u := by
    rw [residueVerdict_inner hx hr, innerVerdict_differs hm]
  have hdue (v : Nat) := updLp_keeps (s := s) (t := u) (w := w) (·.outDue) (fun l => { l with retry := true, failA := false, failB := false }) (fun _ => rfl) v
  refine ⟨_, exec_residueVerdict hq he (outDue_of hdue ho) rfl, ?_, fun _ _ => rfl⟩
  rw [updLp_same]

theorem retry_blames {e : Nat} (hq : s.quiet) (hw : w < 15) (he : e < 2) (hx : (s.lp u w).heldX = some x) (hm : (s.lp u w).mode = emLockstep)
    (ho : ∀ v, v < 15 → (s.lp u v).outDue = false) (hb : s.fallback u = false) (hmode : s.engMode u = emLockstep) (h0 : s.failed u 0 = false)
    (h1 : s.failed u 1 = false) (hr : (s.lp u w).retry = true) (ha : ((s.lp u w).failA || !a) = decide (e = 0))
    (hb' : ((s.lp u w).failB || !b) = decide (e = 1)) (hno : ¬(a = true ∧ b = true ∧ same = true)) :
    ∃ t, exec (.evaluationRetry u w a b same) s = .next t ∧ s.blames t u w e := by
  have hp : (a && b && same) = false := by
    rw [Bool.eq_false_iff]
    intro h
    simp only [Bool.and_eq_true] at h
    exact hno ⟨h.1.1, h.1.2, h.2⟩
  have he' : s.evaluationRetry u w a b same = ((s.dropped u w).engineFail u e w 1).issueOuters u := by
    rw [evaluationRetry_inner hx hr, checksPass_lockstep hm, hp, if_neg (by decide), lastingEval_one hm he ha hb']
  exact ⟨_, exec_evaluationRetry hq he' (outDue_of engineFail_outDue ho) (engineFail_now hw), engineFail_blames hw he hb hmode h0 h1⟩

theorem verdict_blames {e : Nat} (hq : s.quiet) (hw : w < 15) (he : e < 2) (hx : (s.lp u w).heldX = some x) (hm : (s.lp u w).mode = emLockstep)
    (ho : ∀ v, v < 15 → (s.lp u v).outDue = false) (hb : s.fallback u = false) (hmode : s.engMode u = emLockstep) (h0 : s.failed u 0 = false)
    (h1 : s.failed u 1 = false) (hr : (s.lp u w).retry = false) (hs : same = false) (ha : a = decide (e = 1)) (hb' : b = decide (e = 0)) :
    ∃ t, exec (.residueVerdict u w a b same) s = .next t ∧ s.blames t u w e := by
  obtain ⟨hab, ha, hb'⟩ : a ≠ b ∧ (!a) = decide (e = 0) ∧ (!b) = decide (e = 1) := by
    rw [ha, hb']
    obtain rfl | rfl : e = 0 ∨ e = 1 := by omega
    · decide
    · decide
  have he' : s.residueVerdict u w a b same = ((s.dropped u w).engineFail u e w 1).issueOuters u := by
    rw [residueVerdict_inner hx hr, innerVerdict_lasting hm hs hab, lastingEval_one hm he ha hb']
  exact ⟨_, exec_residueVerdict hq he' (outDue_of engineFail_outDue ho) (engineFail_now hw), engineFail_blames hw he hb hmode h0 h1⟩

theorem outer_verified (hq : s.quiet) (hx : (s.lp u w).heldX = none) (ho : (s.lp u w).outer = some r) (hm : (s.lp u w).mode ≠ emLockstep)
    (hr : (s.lp u w).outRetry = false) (hp : (if s.engineOf u w = 0 then a else b) = true) :
    ∃ t, exec (.residueVerdict u w a b same) s = .next t ∧ (t.lp u w).outer = none ∧ State.sameBut [] s t := by
  have he : s.residueVerdict u w a b same = s.updLp u w (fun l => { l with outer := none }) := by
    rw [residueVerdict_outer hx ho hr, outerVerdict_passes hm hp]
  have hx' : exec (.residueVerdict u w a b same) s = .next (s.residueVerdict u w a b same) := done_quiet _ (by rw [he]; exact hq)
  rw [hx', he]
  refine ⟨_, rfl, ?_, fun _ _ => rfl⟩
  rw [updLp_same]

theorem outer_asksRetry (hq : s.quiet) (hx : (s.lp u w).heldX = none) (ho : (s.lp u w).outer = some r) (hm : (s.lp u w).mode ≠ emLockstep)
    (hr : (s.lp u w).outRetry = false) (hp : (if s.engineOf u w = 0 then a else b) = false) :
    ∃ t, exec (.residueVerdict u w a b same) s = .next t ∧ (t.lp u w).outer = some r ∧ (t.lp u w).outRetry = true ∧ State.sameBut [] s t := by
  have he : s.residueVerdict u w a b same = s.updLp u w (fun l => { l with outRetry := true, outFailA := !a, outFailB := !b }) := by
    rw [residueVerdict_outer hx ho hr, outerVerdict_fails hm hp]
  have hx' : exec (.residueVerdict u w a b same) s = .next (s.residueVerdict u w a b same) := done_quiet _ (by rw [he]; exact hq)
  rw [hx', he]
  refine ⟨_, rfl, ?_, ?_, fun _ _ => rfl⟩
  · rw [updLp_same]; exact ho
  · rw [updLp_same]

theorem outer_retried (hq : s.quiet) (hw : w < 15) (hx : (s.lp u w).heldX = none) (ho : (s.lp u w).outer = some r) (hm : (s.lp u w).mode ≠ emLockstep)
    (hr : (s.lp u w).outRetry = true) (hp : (if s.engineOf u w = 0 then a else b) = true) (hout : ∀ v, v < 15 → (s.lp u v).outDue = false)
    (hn : s.rd (PH_ENG_STAT u) PH_ENG_STAT.TRANSIENTS + 1 < 0xFFFFFFFF) : ∃ t, exec (.evaluationRetry u w a b same) s = .next t ∧
        t.rd (PH_ENG_STAT u) PH_ENG_STAT.TRANSIENTS = s.rd (PH_ENG_STAT u) PH_ENG_STAT.TRANSIENTS + 1 ∧
        t.rd (PH_ENG_STAT u) PH_ENG_STAT.LAST_WELL = w ∧ (t.lp u w).outer = none ∧ (t.mo u w).vTgt = r.vTgt := by
  have he := evaluationRetry_outer (same := same) hx ho hr ((checksPass_residue hm).trans hp)
  have hreg : ((s.transient u w).outerCommit u w r).reg (PH_ENG_STAT u) = (s.transient u w).reg (PH_ENG_STAT u) :=
    outerCommit_reg r (eng_ne_share u)
  refine ⟨_, exec_evaluationRetry hq he (outDue_of (fun v => ?_) hout) ?_, (rd_of_reg hreg _).trans (transient_stat hn hw).1,
    (rd_of_reg hreg _).trans (transient_stat hn hw).2, ?_, ?_⟩
  · rw [updLp_keeps (·.outDue) (fun l : Loop => { l with outer := none, outRetry := false }) (fun _ => rfl), outerCommit_outDue, transient_lp hn]
  · exact congrArg (·.now) ((outerCommit_fault (s := s.transient u w) r).trans (transient_fault hn))
  · rw [updLp_same]
  · rw [updLp_mo]
    exact outerCommit_vTgt r

end

/-- Settles O35: an evaluation's commit in time and late, the verdicts and retries out of and in LOCKSTEP, the fallback and the outer
evaluations. -/
theorem evaluationsCommit : Obligations.EvaluationsCommit := by
  unfold Obligations.EvaluationsCommit
  refine ⟨fun u w q rest s hq hk hl hlane hr ho hx hqu hout => ?_, fun u w a b same x s hq hx hr ho hm hp => ?_,
    fun u w a b same x s hq hx hr ho hage hm hp => ?_,
    fun u w x s hq hx hr ho hage hm => ⟨verdict_compares hq hx hr ho hage hm, verdict_differs hq hx hr ho hm⟩,
    fun u w a b same x s hq hw hx hr ho hage hm hp hn => retry_passes hq hw hx hr ho hage hm hp hn,
    fun u w a b same x s hq hw hx hr ho hm hp => retry_fails hq hw hx hr ho hm hp,
    fun u w e a b same x s hq hw he hx hm ho hb hmode h0 h1 => ⟨?_, fun hr hs ha hb' => ?_,
      fun hr hab hno => retry_unknown hq hw hx hm ho hb h0 h1 hr hab hno⟩,
    fun u w s hk hwet hp hs hf ht => ⟨_, rfl, periodOpening_falls hk hwet hp hs hf ht⟩,
    fun u w a b same r s hq hw hx ho hm => ⟨fun hr hp => outer_verified hq hx ho hm hr hp, fun hr hp => outer_asksRetry hq hx ho hm hr hp,
      fun hr hp hout hn => outer_retried hq hw hx ho hm hr hp hout hn⟩⟩
  · have he := innerEvaluation_evaluates hk hl hlane hr ho hx hqu
    refine ⟨fun hm hage => ?_, fun hm hage => ?_, fun hm => ?_⟩
    · exact evaluation_inTime hq hout hage (he.trans (by rw [if_neg hm]))
    · exact evaluation_late hq hout hage (he.trans (by rw [if_neg hm]))
    · exact evaluation_waits hq hout (he.trans (by rw [if_pos hm]))
  · have he : s.residueVerdict u w a b same = (s.verify u w).issueOuters u := by rw [residueVerdict_inner hx hr, innerVerdict_passes hm hp]
    exact ⟨_, exec_residueVerdict hq he (outDue_of verify_outDue ho) rfl, verify_lp.1, verify_lp.2.1, fun _ _ => rfl⟩
  · have he : s.residueVerdict u w a b same = (s.askedRetry u w).issueOuters u := by
      rw [residueVerdict_inner hx hr, innerVerdict_fails hm hp hage]
    exact ⟨_, exec_residueVerdict hq he (outDue_of askedRetry_outDue ho) rfl, askedRetry_lp.1, askedRetry_lp.2, askedRetry_reg⟩
  · rintro ⟨hr, ha, hb', hno⟩
    exact retry_blames hq hw he hx hm ho hb hmode h0 h1 hr ha hb' hno
  · exact verdict_blames hq hw he hx hm ho hb hmode h0 h1 hr hs ha hb'

end Sys2Proof.Machine

/-! PROOFS. Period openings and inner samples (R82-R84, R105, R106, R123, R240). -/

namespace Sys2Proof.Machine

open Sys2Proof

section
variable {s : State} {t w : Nat}

/-! ### Slots (R82, R84) -/

theorem switchers_length_le (s : State) (t w : Nat) : (s.switchers t w).length ≤ 4 :=
  (List.length_filter_le _ _).trans ((List.length_range).le.trans (installed_le s t w))

theorem slotPumps_length_le (s : State) (t w : Nat) : (s.slotPumps t w).length ≤ 4 := by
  unfold State.slotPumps
  dsimp only
  split
  · exact switchers_length_le s t w
  · exact (List.length_take_le' _ _).trans (switchers_length_le s t w)

theorem openSlots_reg {b : Nat} (h : b ≠ WL_PWM t w) : (s.openSlots t w).reg b = s.reg b :=
  (reg_wr_ne _ _ _ _ _ h).trans (reg_wr_ne _ _ _ _ _ h)

theorem openSlots_active : (s.openSlots t w).rd (WL_PWM t w) WL_PWM.ACTIVE = (s.slotPumps t w).length := by
  refine (rd_wr_fld _ _ _ _ _ _ (by decide) (by decide)).trans ((rd_wr_same _ _ _ _ (by decide)).trans (Nat.mod_eq_of_lt ?_))
  exact lt_of_le_of_lt (slotPumps_length_le s t w) (by decide)

theorem openSlots_rd (g : Fld) (hg : g.ok = true) (h1 : WL_PWM.ACTIVE.apart g = true) (h2 : WL_PWM.FIRST.apart g = true) :
    (s.openSlots t w).rd (WL_PWM t w) g = s.rd (WL_PWM t w) g :=
  (rd_wr_fld _ _ _ _ _ _ hg h2).trans (rd_wr_fld _ _ _ _ _ _ hg h1)

theorem openSlots_lp : (s.openSlots t w).lp t w = { s.lp t w with period := (s.lp t w).period + 1 } := updLp_same s t w (fun l => { l with period := (s.lp t w).period + 1 })

theorem openSlots_mo (v : Nat) : (s.openSlots t w).mo t v = s.mo t v := updLp_mo (fun l => { l with period := (s.lp t w).period + 1 }) v

theorem openSlots_en (v : Nat) : (s.openSlots t w).en v = s.en v := rfl

/-- The slots an opening gives are those of the wells' registers that it leaves. -/
theorem slotPumps_of {u : State} (h1 : u.switchers t w = s.switchers t w) (h2 : (u.lp t w).mReq = (s.lp t w).mReq) (h3 : u.tied t w = s.tied t w)
    (h4 : u.stage t w = s.stage t w) : u.slotPumps t w = s.slotPumps t w := by
  unfold State.slotPumps
  rw [h1, h2, h3, h4]

/-! ### An opening (R82) -/

theorem leaveLoop_stays (hf : s.fallback t = false ∨ s.looped t w = false) (hh : (s.mo t w).hystReq = false ∨ s.stage t w ≠ stVolt) :
    s.leaveLoop t w = s := by
  have h1 : (s.fallback t && s.looped t w) = false := by rcases hf with h | h <;> simp [h]
  have h2 : ((s.mo t w).hystReq && (s.stage t w == stVolt)) = false := by rcases hh with h | h <;> simp [h]
  unfold State.leaveLoop
  rw [h1, h2]
  rfl

theorem looped_openSlots : (s.openSlots t w).looped t w = s.looped t w := by
  have h : WL_SETPT t w ≠ WL_PWM t w := by simp only [WL_SETPT, WL_PWM]; omega
  unfold State.looped State.stage
  rw [openSlots_rd WL_PWM.SRC (by decide) (by decide) (by decide), rd_of_reg (openSlots_reg h)]

theorem looped_volt (h : s.stage t w = stVolt) : s.looped t w = true := by simp only [State.looped, h]; rfl
theorem looped_hyst (h : s.stage t w = stHyst) : s.looped t w = false := by simp only [State.looped, h]; rfl

theorem periodOpening_opens (hk : s.wellOk t w = true) (hwet : s.wet t w = true) (hp : w = 14 ∨ s.rd (PH_PWR t) PH_PWR.STATE = 0)
    (hl : s.leaveLoop t w = s) : s.periodOpening t w = (if s.looped t w then
      ((((s.openSlots t w).firstOpening t w).openDuty t w).switchMode t w).applyDuty t w else s.openSlots t w).openCentre t w := by
  have hpw : (decide (w = 14) || (s.rd (PH_PWR t) PH_PWR.STATE == 0)) = true := by
    rcases hp with h | h <;> simp [h]
  unfold State.periodOpening
  dsimp only
  rw [hk, hwet, hpw, hl, looped_openSlots]
  rfl

theorem openCentre_reg {b : Nat} (h : b ≠ AD_WIN t w) : (s.openCentre t w).reg b = s.reg b := by
  unfold State.openCentre
  split
  · exact reg_wr_ne _ _ _ _ _ h
  · rfl

theorem openCentre_rest : s.onlyRegs (s.openCentre t w) := by
  unfold State.openCentre
  split <;> rfl

theorem openCentre_centre (h : (s.lp t w).begins = true ∨ s.looped t w = false) :
    (s.openCentre t w).rd (AD_WIN t w) AD_WIN.VC = (half (s.mo t w).x).toNat % 4096 := by
  have hb : ((s.lp t w).begins || !s.looped t w) = true := by rcases h with h | h <;> simp [h]
  unfold State.openCentre
  rw [if_pos hb, rd_wr_same _ _ _ _ (by decide)]
  exact Nat.mod_eq_of_lt (Nat.mod_lt _ (by decide))

/-- An opening in hysteretic mode (R82). -/
theorem opening_hyst (hq : s.quiet) (hk : s.wellOk t w = true) (hwet : s.wet t w = true) (hp : w = 14 ∨ s.rd (PH_PWR t) PH_PWR.STATE = 0)
    (hs : s.stage t w = stHyst) : ∃ u, exec (.periodOpening t w) s = .next u ∧
      u.rd (WL_PWM t w) WL_PWM.ACTIVE = (s.switchers t w).length ∧
      u.rd (WL_PWM t w) WL_PWM.DUTY = s.rd (WL_PWM t w) WL_PWM.DUTY ∧ State.sameBut [WL_PWM t w, AD_WIN t w] s u := by
  have hl : s.leaveLoop t w = s := leaveLoop_stays (.inr (looped_hyst hs)) (.inr (by rw [hs]; decide))
  have he : s.periodOpening t w = (s.openSlots t w).openCentre t w := by
    rw [periodOpening_opens hk hwet hp hl, looped_hyst hs]
    rfl
  have hne : WL_PWM t w ≠ AD_WIN t w := by simp only [WL_PWM, AD_WIN, wlBase]; omega
  have hslots : s.slotPumps t w = s.switchers t w := by
    unfold State.slotPumps
    exact if_pos (.inr (.inr (by rw [hs]; decide)))
  have hx : exec (.periodOpening t w) s = .next (s.periodOpening t w) := done_quiet _ (by
    rw [he]; exact (congrArg (·.now) (onlyRegs_fault openCentre_rest) : _ = (s.openSlots t w).fault.now).trans hq)
  rw [hx, he]
  refine ⟨_, rfl, ?_, ?_, fun b hb => ?_⟩
  · rw [rd_of_reg (openCentre_reg hne), openSlots_active, hslots]
  · rw [rd_of_reg (openCentre_reg hne), openSlots_rd _ (by decide) (by decide) (by decide)]
  · simp only [List.mem_cons, List.not_mem_nil, or_false, not_or] at hb
    exact (openCentre_reg hb.2).trans (openSlots_reg hb.1)

/-! ### The duty of an opening (R105, R106) -/

/-- The loop's samples a loop-period opening later. -/
def Loop.aged (l : Loop) (out : Bool) : Loop :=
  { l with queue := l.queue.map (fun q => { q with age := q.age + 1 }), heldAge := l.heldAge + 1, counted := l.counted || out }

/-- The evaluations that are out while their duty falls due. -/
def Loop.outDueNow (l : Loop) : Bool := (l.retry || (l.mode == emLockstep && l.heldX.isSome)) && l.heldAge == 1

theorem ageSamples_overruns : s.ageSamples t w = ((List.range (((s.lp t w).queue.filter (fun q => q.age == 1)).length + b2n (s.lp t w).outDueNow)).foldl
    (fun (u : State) _ => u.overrun t w) s).updLp t w (fun l => l.aged (s.lp t w).outDueNow) := rfl

theorem outDueNow_none (hm : (s.lp t w).mode = emNormal) (hr : (s.lp t w).retry = false) : (s.lp t w).outDueNow = false := by
  unfold Loop.outDueNow
  rw [hm, hr]
  rfl

theorem ageSamples_inTime (hm : (s.lp t w).mode = emNormal) (hr : (s.lp t w).retry = false) (hq : ∀ q ∈ (s.lp t w).queue, q.age ≠ 1) :
    s.ageSamples t w = s.updLp t w (fun l => l.aged false) := by
  have hnone : (s.lp t w).queue.filter (fun q => q.age == 1) = [] := List.filter_eq_nil_iff.mpr (fun q h => by simp [hq q h])
  rw [ageSamples_overruns, outDueNow_none hm hr, hnone]
  rfl

theorem ageSamples_one {q : Sample} (hm : (s.lp t w).mode = emNormal) (hr : (s.lp t w).retry = false) (hq : (s.lp t w).queue = [q]) (ha : q.age = 1) :
    s.ageSamples t w = (s.overrun t w).updLp t w (fun l => l.aged false) := by
  have hone : (s.lp t w).queue.filter (fun q => q.age == 1) = [q] := by simp [hq, ha]
  rw [ageSamples_overruns, outDueNow_none hm hr, hone]
  rfl

theorem begins_normal (hm : (s.lp t w).mode = emNormal) : (s.lp t w).begins = true := by
  unfold Loop.begins
  rw [hm]
  rfl

/-- What the duty of an opening takes leaves of a state: the loop's own state alone differs. -/
structure Opens (s u : State) (t w d : Nat) : Prop where
  now : (u.lp t w).now = d
  next : (u.lp t w).next = none
  period : (u.lp t w).period = (s.lp t w).period
  xs : (u.lp t w).queue.map (·.x) = (s.lp t w).queue.map (·.x)
  mode : (u.lp t w).mode = (s.lp t w).mode
  pend : (u.lp t w).modePend = (s.lp t w).modePend
  mReq : (u.lp t w).mReq = (s.lp t w).mReq
  mo : u.mo t w = s.mo t w
  rest : { u with wells := s.wells } = s

theorem aged_xs (l : Loop) (out : Bool) : (l.aged out).queue.map (·.x) = l.queue.map (·.x) := by
  simp only [Loop.aged, List.map_map]
  rfl

theorem openDuty_takes {d : Nat} (hb : (s.lp t w).bad = false) (hm : (s.lp t w).mode = emNormal) (hr : (s.lp t w).retry = false)
    (hq : ∀ q ∈ (s.lp t w).queue, q.age ≠ 1) (hk : s.keepsVerified t w = false) (hd : (s.lp t w).next.getD (s.lp t w).now = d) :
    Opens s (s.openDuty t w) t w d := by
  have ha := ageSamples_inTime hm hr hq
  have he : s.openDuty t w = match (s.lp t w).next with
      | some d => (s.updLp t w (fun l => l.aged false)).updLp t w (fun l => { l with now := d, next := none })
      | none => s.updLp t w (fun l => l.aged false) := by
    unfold State.openDuty
    dsimp only
    rw [hb, begins_normal hm]
    simp only [Bool.false_eq_true, Bool.true_eq_false, if_false, hk, ha] <;> rfl
  have hmo : (s.updLp t w (fun l => l.aged false)).mo t w = s.mo t w := updLp_mo _ w
  rw [he]
  cases hn : (s.lp t w).next with
  | none =>
    rw [hn] at hd
    refine ⟨?_, ?_, ?_, ?_, ?_, ?_, ?_, hmo, rfl⟩ <;> rw [updLp_same]
    · exact hd
    · exact hn
    · rfl
    · exact aged_xs _ false
    · rfl
    · rfl
    · rfl
  | some e =>
    rw [hn] at hd
    refine ⟨?_, ?_, ?_, ?_, ?_, ?_, ?_, (updLp_mo _ w).trans hmo, rfl⟩ <;> rw [updLp_same, updLp_same]
    · exact hd
    · rfl
    · exact aged_xs _ false
    · rfl
    · rfl
    · rfl

theorem firstOpening_opens : ((s.firstOpening t w).lp t w = s.lp t w ∨ (s.firstOpening t w).lp t w = { s.lp t w with opened := true, par := (s.lp t w).period }) ∧
    (s.firstOpening t w).mo t w = s.mo t w ∧ { s.firstOpening t w with wells := s.wells } = s := by
  unfold State.firstOpening
  split
  · exact ⟨.inl rfl, rfl, rfl⟩
  · exact ⟨.inr (updLp_same s t w (fun l => { l with opened := true, par := l.period })), updLp_mo _ w, rfl⟩

/-! ### The duty applied (R83, R119, R123) -/

theorem leadDuty_untied (h : s.tied t w = false) : s.leadDuty t w = none := by
  have hg : s.groupWells t w = [w] := by
    unfold State.groupWells
    exact if_neg (fun hh => by rw [h] at hh; exact absurd hh.2.2 (by decide))
  unfold State.leadDuty
  rw [hg]
  exact if_neg (fun hh => absurd hh.1 (by simp))

/-- WL_PWM and the pumps with the duty `d` applied, before a trim that is cut is marked. -/
def State.dutySet (s : State) (t w d : Nat) : State :=
  let s1 := (s.updLp t w (fun l => { l with now := d })).wr (WL_PWM t w) WL_PWM.DUTY (min d (s.dutyBound t w))
  s1.each (s1.pumpsOf t w) (fun u p => u.updPump t w p (fun q => { q with
    duty := if (s.slotPumps t w).contains p ∧ q.pwmHeld = false ∧ s.flag (WL_HOLD t w) WL_HOLD.OV = false then
      appliedDuty ((d : Int) + s.trim t w p) (s.dutyBound t w) (s.khz t) else 0 }))

theorem applyDuty_cases (h : s.tied t w = false) : s.applyDuty t w = s.dutySet t w (s.lp t w).now ∨
    s.applyDuty t w = (s.dutySet t w (s.lp t w).now).wr (WL_PWM t w) WL_PWM.CLAMPED 1 := by
  unfold State.applyDuty State.dutySet
  dsimp only
  rw [leadDuty_untied h]
  dsimp only [Option.getD_none]
  split
  · exact .inr rfl
  · exact .inl rfl

variable {d : Nat}

/-- A pump's duty at an opening. -/
def State.slotDuty (s : State) (t w d p : Nat) (q : PumpX) : PumpX :=
  { q with duty := if (s.slotPumps t w).contains p ∧ q.pwmHeld = false ∧ s.flag (WL_HOLD t w) WL_HOLD.OV = false then
      appliedDuty ((d : Int) + s.trim t w p) (s.dutyBound t w) (s.khz t) else 0 }

theorem dutySet_rest : { s.dutySet t w d with pumps := s.pumps } =
    (s.updLp t w (fun l => { l with now := d })).wr (WL_PWM t w) WL_PWM.DUTY (min d (s.dutyBound t w)) :=
  each_keeps (fun u => { u with pumps := s.pumps }) _ (fun u p => u.updPump t w p (s.slotDuty t w d p)) (fun _ _ => rfl) _

theorem dutySet_reg (b : Nat) : (s.dutySet t w d).reg b = (s.wr (WL_PWM t w) WL_PWM.DUTY (min d (s.dutyBound t w))).reg b :=
  (congrArg (fun x : State => x.reg b) dutySet_rest :)

theorem dutySet_lp : (s.dutySet t w d).lp t w = { s.lp t w with now := d } :=
  (congrArg (fun x : State => x.lp t w) dutySet_rest : _).trans (updLp_same s t w (fun l => { l with now := d }))

theorem dutySet_mo : (s.dutySet t w d).mo t w = s.mo t w :=
  (congrArg (fun x : State => x.mo t w) dutySet_rest : _).trans (updLp_mo (fun l => { l with now := d }) w)

theorem dutySet_fault : (s.dutySet t w d).fault = s.fault := (congrArg State.fault dutySet_rest :)

/-- In over-voltage suppression no pump of the well has a duty (R123). -/
theorem dutySet_suppressed (h : s.flag (WL_HOLD t w) WL_HOLD.OV = true) {p : Nat} (hp : p < s.installed t w) :
    ((s.dutySet t w d).pump t w p).duty = 0 := by
  refine each_brings (fun u => (u.pump t w p).duty = 0) _ (fun u p => u.updPump t w p (s.slotDuty t w d p)) p ?_ (fun u => ?_) (fun u q _ hu => ?_) _
  · exact List.mem_range.mpr hp
  · rw [updPump_same]
    exact if_neg (fun hh => by rw [h] at hh; exact absurd hh.2.2 (by decide))
  · by_cases hqp : q = p
    · subst hqp
      rw [updPump_same]
      exact if_neg (fun hh => by rw [h] at hh; exact absurd hh.2.2 (by decide))
    · rw [updPump_ne u t w q t w p _ (by omega)]
      exact hu

/-- What the duty applied at an opening leaves. -/
structure Applied (s u : State) (t w d : Nat) : Prop where
  duty : d ≤ 0x7FFF → u.rd (WL_PWM t w) WL_PWM.DUTY = min d (s.dutyBound t w)
  fld (g : Fld) : g.ok = true → WL_PWM.DUTY.apart g = true → WL_PWM.CLAMPED.apart g = true → u.rd (WL_PWM t w) g = s.rd (WL_PWM t w) g
  reg (b : Nat) : b ≠ WL_PWM t w → u.reg b = s.reg b
  lp : u.lp t w = { s.lp t w with now := d }
  mo : u.mo t w = s.mo t w
  fault : u.fault = s.fault
  suppressed : s.flag (WL_HOLD t w) WL_HOLD.OV = true → ∀ p, p < s.installed t w → (u.pump t w p).duty = 0

theorem dutySet_applied (s : State) (t w d : Nat) : Applied s (s.dutySet t w d) t w d where
  duty h := by
    rw [rd_of_reg (dutySet_reg _), rd_wr_same _ _ _ _ (by decide)]
    exact Nat.mod_eq_of_lt (lt_of_le_of_lt ((Nat.min_le_left _ _).trans h) (by decide))
  fld g hg h1 _ := (rd_of_reg (dutySet_reg _) g).trans (rd_wr_fld _ _ _ _ _ _ hg h1)
  reg b h := (dutySet_reg b).trans (reg_wr_ne _ _ _ _ _ h)
  lp := dutySet_lp
  mo := dutySet_mo
  fault := dutySet_fault
  suppressed h _ hp := dutySet_suppressed h hp

theorem applyDuty_applied (h : s.tied t w = false) : Applied s (s.applyDuty t w) t w (s.lp t w).now := by
  have hd := dutySet_applied s t w (s.lp t w).now
  rcases applyDuty_cases h with he | he
  · rw [he]
    exact hd
  · rw [he]
    exact {
      duty := fun h => (rd_wr_fld _ _ _ _ _ _ (by decide) (by decide)).trans (hd.duty h)
      fld := fun g hg h1 h2 => (rd_wr_fld _ _ _ _ _ _ hg h2).trans (hd.fld g hg h1 h2)
      reg := fun b hb => (reg_wr_ne _ _ _ _ _ hb).trans (hd.reg b hb)
      lp := hd.lp
      mo := hd.mo
      fault := hd.fault
      suppressed := hd.suppressed }

/-! ### An opening in voltage mode (R82, R105) -/

/-- The well as its duty is taken: the slots given, its first opening noted. -/
def State.slotted (s : State) (t w : Nat) : State := (s.openSlots t w).firstOpening t w

theorem slotted_lp : (s.slotted t w).lp t w = { s.lp t w with period := (s.lp t w).period + 1 } ∨
    (s.slotted t w).lp t w = { s.lp t w with period := (s.lp t w).period + 1, opened := true, par := (s.lp t w).period + 1 } := by
  rcases (firstOpening_opens (s := s.openSlots t w) (t := t) (w := w)).1 with h | h
  · exact .inl (h.trans openSlots_lp)
  · exact .inr (h.trans (by rw [openSlots_lp]))

/-- What the slots leave of a loop. -/
theorem slotted_keeps {β : Type} (π : Loop → β) (h1 : ∀ l n, π { l with period := n } = π l)
    (h2 : ∀ (l : Loop) n, π { l with period := n, opened := true, par := n } = π l) : π ((s.slotted t w).lp t w) = π (s.lp t w) := by
  rcases slotted_lp (s := s) (t := t) (w := w) with h | h
  · rw [h, h1]
  · rw [h, h2]

theorem slotted_period : ((s.slotted t w).lp t w).period = (s.lp t w).period + 1 := by
  rcases slotted_lp (s := s) (t := t) (w := w) with h | h <;> rw [h]

theorem slotted_rest : { s.slotted t w with wells := (s.openSlots t w).wells } = s.openSlots t w := firstOpening_opens.2.2

theorem slotted_reg (b : Nat) : (s.slotted t w).reg b = (s.openSlots t w).reg b := (congrArg (fun x : State => x.reg b) slotted_rest :)
theorem slotted_mo : (s.slotted t w).mo t w = s.mo t w := firstOpening_opens.2.1.trans (openSlots_mo w)

theorem slotted_engineOk : (s.slotted t w).engineOk t w = s.engineOk t w := by
  have hmode : ((s.slotted t w).lp t w).mode = (s.lp t w).mode := slotted_keeps (·.mode) (fun _ _ => rfl) (fun _ _ => rfl)
  have hreg (b : Nat) (h : b ≠ WL_PWM t w) (g : Fld) : (s.slotted t w).rd b g = s.rd b g := rd_of_reg ((slotted_reg b).trans (openSlots_reg h)) g
  have h1 : PH_ENG_STAT t ≠ WL_PWM t w := by simp only [PH_ENG_STAT, WL_PWM, wlBase]; omega
  have h2 : PH_ENG_LANES t ≠ WL_PWM t w := by simp only [PH_ENG_LANES, WL_PWM, wlBase]; omega
  unfold State.engineOk State.engineOf State.failed State.flag
  rw [hmode, hreg _ h1, hreg _ h1, hreg _ h1, hreg _ h2]

theorem slotted_en (v : Nat) : (s.slotted t w).en v = s.en v := (congrArg (fun x : State => x.en v) slotted_rest :)

theorem switchMode_stays (h : (s.lp t w).modePend = false) : s.switchMode t w = s := by
  unfold State.switchMode
  dsimp only
  rw [h]
  rfl

/-- What stands of the well when its duty is applied. -/
structure DutyTaken (s o : State) (t w d : Nat) : Prop where
  opens : Opens (s.slotted t w) o t w d
  he : (((s.openSlots t w).firstOpening t w).openDuty t w).switchMode t w = o

theorem duty_taken {d : Nat} (hb : (s.lp t w).bad = false) (hm : (s.lp t w).mode = emNormal) (hr : (s.lp t w).retry = false)
    (hp : (s.lp t w).modePend = false) (hq : ∀ q ∈ (s.lp t w).queue, q.age ≠ 1) (hk : s.engineOk t w = true) (hf : (s.en t).byFault = false)
    (hd : (s.lp t w).next.getD (s.lp t w).now = d) : DutyTaken s ((s.slotted t w).openDuty t w) t w d := by
  have hkeep {β : Type} (π : Loop → β) (h1 : ∀ l n, π { l with period := n } = π l)
      (h2 : ∀ (l : Loop) n, π { l with period := n, opened := true, par := n } = π l) := slotted_keeps (s := s) (t := t) (w := w) π h1 h2
  have ho : Opens (s.slotted t w) ((s.slotted t w).openDuty t w) t w d := by
    refine openDuty_takes ?_ ?_ ?_ ?_ ?_ ?_
    · exact (hkeep (·.bad) (fun _ _ => rfl) (fun _ _ => rfl)).trans hb
    · exact (hkeep (·.mode) (fun _ _ => rfl) (fun _ _ => rfl)).trans hm
    · exact (hkeep (·.retry) (fun _ _ => rfl) (fun _ _ => rfl)).trans hr
    · rw [hkeep (·.queue) (fun _ _ => rfl) (fun _ _ => rfl)]
      exact hq
    · unfold State.keepsVerified
      rw [slotted_engineOk, hk, slotted_en, hf]
      rfl
    · exact (hkeep (fun l => l.next.getD l.now) (fun _ _ => rfl) (fun _ _ => rfl)).trans hd
  refine ⟨ho, switchMode_stays (ho.pend.trans ?_)⟩
  exact (hkeep (·.modePend) (fun _ _ => rfl) (fun _ _ => rfl)).trans hp

theorem opens_reg {u : State} {d : Nat} (h : Opens s u t w d) (b : Nat) : u.reg b = s.reg b := (congrArg (fun x : State => x.reg b) h.rest :)

end

end Sys2Proof.Machine

/-! PROOFS. Openings in voltage mode, overruns and inner samples (R82, R105, R106, R124, R240). -/

namespace Sys2Proof.Machine

open Sys2Proof

section
variable {s : State} {t w : Nat}

theorem pwm_ne_adWin (t w : Nat) : WL_PWM t w ≠ AD_WIN t w := by simp only [WL_PWM, AD_WIN, wlBase]; omega
theorem hold_ne_pwm (t w : Nat) : WL_HOLD t w ≠ WL_PWM t w := by simp only [WL_HOLD, WL_PWM]; omega

theorem tied_of {u : State} (h : u.reg (WL_TIE t w) = s.reg (WL_TIE t w)) : u.tied t w = s.tied t w := by
  unfold State.tied
  rw [rd_of_reg h]

theorem dutyBound_of {u : State} (h1 : u.rd (WL_PWM t w) WL_PWM.ACTIVE = s.rd (WL_PWM t w) WL_PWM.ACTIVE)
    (h2 : u.flag (WL_PWM t w) WL_PWM.ROT = s.flag (WL_PWM t w) WL_PWM.ROT) (h3 : u.reg (PH_PWM t) = s.reg (PH_PWM t)) :
    u.dutyBound t w = s.dutyBound t w := by
  unfold State.dutyBound State.khz
  rw [h1, h2, rd_of_reg h3]

theorem opens_fault {u : State} {d : Nat} (h : Opens s u t w d) : u.fault = s.fault := (congrArg State.fault h.rest :)
theorem opens_installed {u : State} {d : Nat} (h : Opens s u t w d) : u.installed t w = s.installed t w :=
  (congrArg (fun x : State => x.installed t w) h.rest :)
theorem slotted_fault : (s.slotted t w).fault = s.fault := (congrArg State.fault slotted_rest :)
theorem slotted_installed : (s.slotted t w).installed t w = s.installed t w := (congrArg (fun x : State => x.installed t w) slotted_rest :)
theorem openCentre_pump (p : Nat) : (s.openCentre t w).pump t w p = s.pump t w p := (congrArg (fun x : State => x.pump t w p) openCentre_rest :)

/-- An opening of a well in voltage mode, its duty in time (R82, R105). -/
theorem opening_volt {d : Nat} (hq : s.quiet) (hk : s.wellOk t w = true) (hwet : s.wet t w = true) (hp : w = 14 ∨ s.rd (PH_PWR t) PH_PWR.STATE = 0)
    (hs : s.stage t w = stVolt) (hf : s.fallback t = false) (hh : (s.mo t w).hystReq = false) (hok : s.engineOk t w = true) (htie : s.tied t w = false)
    (hm : (s.lp t w).mode = emNormal) (hpend : (s.lp t w).modePend = false) (hb : (s.lp t w).bad = false) (hby : (s.en t).byFault = false)
    (hr : (s.lp t w).retry = false) (hage : ∀ q ∈ (s.lp t w).queue, q.age ≠ 1) (hd : (s.lp t w).next.getD (s.lp t w).now = d) (hlt : d ≤ 0x7FFF) :
    ∃ u, exec (.periodOpening t w) s = .next u ∧ u.rd (WL_PWM t w) WL_PWM.DUTY = min d (u.dutyBound t w) ∧ (u.lp t w).now = d ∧
      (s.flag (WL_HOLD t w) WL_HOLD.OV = true → ∀ p, p < s.installed t w → (u.pump t w p).duty = 0) ∧
      (u.lp t w).next = none ∧ (u.lp t w).period = (s.lp t w).period + 1 ∧
      u.rd (WL_PWM t w) WL_PWM.ACTIVE = (s.slotPumps t w).length ∧ (u.lp t w).queue.map (·.x) = (s.lp t w).queue.map (·.x) ∧
      u.rd (AD_WIN t w) AD_WIN.VC = (half (s.mo t w).x).toNat % 4096 ∧ State.sameBut [WL_PWM t w, AD_WIN t w] s u := by
  have hto := duty_taken hb hm hr hpend hage hok hby hd
  obtain ⟨o, ho⟩ : ∃ o, o = (s.slotted t w).openDuty t w := ⟨_, rfl⟩
  rw [← ho] at hto
  have hreg (b : Nat) : o.reg b = (s.openSlots t w).reg b := (opens_reg hto.opens b).trans (slotted_reg b)
  have htie' : WL_TIE t w ≠ WL_PWM t w := by simp only [WL_TIE, WL_PWM]; omega
  have hop : o.tied t w = false := (tied_of ((hreg _).trans (openSlots_reg htie'))).trans htie
  have ha := applyDuty_applied hop
  rw [hto.opens.now] at ha
  have he : s.periodOpening t w = (o.applyDuty t w).openCentre t w := by
    rw [periodOpening_opens hk hwet hp (leaveLoop_stays (.inl hf) (.inl hh)), looped_volt hs, if_pos rfl, hto.he]
  have hmode : (o.lp t w).mode = emNormal := hto.opens.mode.trans ((slotted_keeps (·.mode) (fun _ _ => rfl) (fun _ _ => rfl)).trans hm)
  have hbegin : ((o.applyDuty t w).lp t w).begins = true := begins_normal (by rw [ha.lp]; exact hmode)
  have hc := onlyRegs_lp (openCentre_rest (s := o.applyDuty t w) (t := t) (w := w)) t w
  have hcreg {b : Nat} (hne : b ≠ AD_WIN t w) := openCentre_reg (s := o.applyDuty t w) hne
  have hfield (g : Fld) (hg : g.ok = true) (h1 : WL_PWM.DUTY.apart g = true) (h2 : WL_PWM.CLAMPED.apart g = true) :
      ((o.applyDuty t w).openCentre t w).rd (WL_PWM t w) g = o.rd (WL_PWM t w) g :=
    (rd_of_reg (hcreg (pwm_ne_adWin t w)) g).trans (ha.fld g hg h1 h2)
  have hfault : ((o.applyDuty t w).openCentre t w).fault = s.fault :=
    (onlyRegs_fault openCentre_rest).trans (ha.fault.trans ((opens_fault hto.opens).trans slotted_fault))
  have hbound : ((o.applyDuty t w).openCentre t w).dutyBound t w = o.dutyBound t w := by
    have h1 : PH_PWM t ≠ AD_WIN t w := by simp only [PH_PWM, AD_WIN]; omega
    have h2 : PH_PWM t ≠ WL_PWM t w := by simp only [PH_PWM, WL_PWM, wlBase]; omega
    refine dutyBound_of (hfield _ (by decide) (by decide) (by decide)) ?_ ((hcreg h1).trans (ha.reg _ h2))
    unfold State.flag
    rw [hfield _ (by decide) (by decide) (by decide)]
  have hx : exec (.periodOpening t w) s = .next (s.periodOpening t w) := done_quiet _ (by
    rw [he]; exact (congrArg (·.now) hfault : _ = s.fault.now).trans hq)
  rw [hx, he]
  refine ⟨_, rfl, ?_, ?_, fun hov p hpn => ?_, ?_, ?_, ?_, ?_, ?_, fun b hb' => ?_⟩
  · rw [hbound, rd_of_reg (hcreg (pwm_ne_adWin t w)), ha.duty hlt]
  · rw [hc, ha.lp]
  · have hinst : o.installed t w = s.installed t w := (opens_installed hto.opens).trans slotted_installed
    have hhold : o.flag (WL_HOLD t w) WL_HOLD.OV = true :=
      (flag_of_reg ((hreg _).trans (openSlots_reg (hold_ne_pwm t w))) _).trans hov
    rw [openCentre_pump]
    exact ha.suppressed hhold p (by rw [hinst]; exact hpn)
  · rw [hc, ha.lp]
    exact hto.opens.next
  · rw [hc, ha.lp]
    exact hto.opens.period.trans slotted_period
  · rw [hfield _ (by decide) (by decide) (by decide), rd_of_reg (hreg _), openSlots_active]
  · rw [hc, ha.lp]
    exact hto.opens.xs.trans (slotted_keeps (fun l => l.queue.map (·.x)) (fun _ _ => rfl) (fun _ _ => rfl))
  · rw [openCentre_centre (.inl hbegin), ha.mo, hto.opens.mo, slotted_mo]
  · simp only [List.mem_cons, List.not_mem_nil, or_false, not_or] at hb'
    rw [hcreg hb'.2, ha.reg _ hb'.1, hreg, openSlots_reg hb'.1]

/-! ### Overruns (R106) -/

theorem overrun_counts (h : s.rd (PH_ENG_OVR t) ctrCount + 1 < 0xFFFFFFFF) (hw : w < 15) :
    (s.overrun t w).rd (PH_ENG_OVR t) ctrCount = s.rd (PH_ENG_OVR t) ctrCount + 1 ∧ (s.overrun t w).rd (PH_ENG_OVR t) PH_ENG_OVR.LAST_WELL = w := by
  unfold State.overrun
  rw [bump_counts _ _ h]
  refine ⟨(rd_wr_fld _ _ _ _ _ _ (by decide) (by decide)).trans ((rd_wr_same _ _ ctrCount _ (by decide)).trans (Nat.mod_eq_of_lt ?_)),
    (rd_wr_same _ _ _ _ (by decide)).trans (Nat.mod_eq_of_lt (lt_trans hw (by decide)))⟩
  rw [show ctrCount.width = 32 from rfl]
  exact lt_trans h (by decide)

/-- The register of a well whose one sample is due at this opening. -/
theorem openDuty_overruns {q : Sample} (hm : (s.lp t w).mode = emNormal) (hr : (s.lp t w).retry = false) (hq : (s.lp t w).queue = [q])
    (ha : q.age = 1) : ∃ v : State, (∀ b, v.reg b = s.reg b) ∧ ∀ b, (s.openDuty t w).reg b = (v.overrun t w).reg b := by
  obtain ⟨v, hv, hlp, hvreg⟩ : ∃ v : State, v = (if (s.lp t w).bad then s.updLp t w (fun l => { l with now := l.verified, bad := false }) else s) ∧
      ((v.lp t w).mode = emNormal ∧ (v.lp t w).retry = false ∧ (v.lp t w).queue = [q]) ∧ ∀ b, v.reg b = s.reg b := by
    refine ⟨_, rfl, ?_, fun b => ?_⟩
    · split
      · rw [updLp_same]
        exact ⟨hm, hr, hq⟩
      · exact ⟨hm, hr, hq⟩
    · split <;> rfl
  refine ⟨v, hvreg, fun b => ?_⟩
  have hage := ageSamples_one hlp.1 hlp.2.1 hlp.2.2 ha
  unfold State.openDuty
  dsimp only
  rw [← hv, begins_normal hm, hage, if_neg (by decide)]
  split
  · rfl
  · split <;> rfl

theorem switchMode_reg {b : Nat} (h1 : b ≠ PH_ENG_STAT t) (h2 : b ≠ WL_LOOP_STAT t w) : (s.switchMode t w).reg b = s.reg b := by
  unfold State.switchMode
  dsimp only
  split
  · rw [reg_wr_ne _ _ _ _ _ h2]
    exact takeMode_reg _ _ _ _ h1
  · rfl

theorem applyDuty_reg {b : Nat} (h : b ≠ WL_PWM t w) : (s.applyDuty t w).reg b = s.reg b := by
  have hd (d : Nat) (f : Nat → PumpX → PumpX) : (((s.updLp t w (fun l => { l with now := d })).wr (WL_PWM t w) WL_PWM.DUTY (min d (s.dutyBound t w))).each
      (s.pumpsOf t w) (fun u p => u.updPump t w p (f p))).reg b = s.reg b :=
    (each_keeps (fun u => u.reg b) _ (fun u p => u.updPump t w p (f p)) (fun _ _ => rfl) _).trans (reg_wr_ne _ _ _ _ _ h)
  unfold State.applyDuty
  dsimp only
  split
  · exact (reg_wr_ne _ _ _ _ _ h).trans (hd _ (fun p q => { q with duty := _ }))
  · exact hd _ (fun p q => { q with duty := _ })

/-- An opening at which the duty of the one sample was due counts an overrun (R106). -/
theorem opening_overruns {q : Sample} (hk : s.wellOk t w = true) (hwet : s.wet t w = true) (hp : w = 14 ∨ s.rd (PH_PWR t) PH_PWR.STATE = 0)
    (hs : s.stage t w = stVolt) (hf : s.fallback t = false) (hh : (s.mo t w).hystReq = false) (hm : (s.lp t w).mode = emNormal)
    (hr : (s.lp t w).retry = false) (hq : (s.lp t w).queue = [q]) (ha : q.age = 1) (hn : s.rd (PH_ENG_OVR t) ctrCount + 1 < 0xFFFFFFFF) :
    (s.periodOpening t w).rd (PH_ENG_OVR t) ctrCount = s.rd (PH_ENG_OVR t) ctrCount + 1 ∧
      (s.periodOpening t w).rd (PH_ENG_OVR t) PH_ENG_OVR.LAST_WELL = w := by
  have hw := (wellOk_lt s hk).2
  have h1 : PH_ENG_OVR t ≠ AD_WIN t w := by simp only [PH_ENG_OVR, AD_WIN]; omega
  have h2 : PH_ENG_OVR t ≠ WL_PWM t w := by simp only [PH_ENG_OVR, WL_PWM, wlBase]; omega
  have h3 : PH_ENG_OVR t ≠ PH_ENG_STAT t := by simp only [PH_ENG_OVR, PH_ENG_STAT]; omega
  have h4 : PH_ENG_OVR t ≠ WL_LOOP_STAT t w := by simp only [PH_ENG_OVR, WL_LOOP_STAT, wlBase]; omega
  obtain ⟨v, hv, ho⟩ := openDuty_overruns (s := s.slotted t w) (t := t) (w := w) ((slotted_keeps (·.mode) (fun _ _ => rfl) (fun _ _ => rfl)).trans hm)
    ((slotted_keeps (·.retry) (fun _ _ => rfl) (fun _ _ => rfl)).trans hr) ((slotted_keeps (·.queue) (fun _ _ => rfl) (fun _ _ => rfl)).trans hq) ha
  have hvs : v.reg (PH_ENG_OVR t) = s.reg (PH_ENG_OVR t) := (hv _).trans ((slotted_reg _).trans (openSlots_reg h2))
  have hreg : (s.periodOpening t w).reg (PH_ENG_OVR t) = (v.overrun t w).reg (PH_ENG_OVR t) := by
    rw [periodOpening_opens hk hwet hp (leaveLoop_stays (.inl hf) (.inl hh)), looped_volt hs, if_pos rfl, openCentre_reg h1, applyDuty_reg h2,
      switchMode_reg h3 h4]
    exact ho _
  have hcount := overrun_counts (s := v) (t := t) (w := w) (by rw [rd_of_reg hvs]; exact hn) hw
  rw [rd_of_reg hreg, rd_of_reg hreg, hcount.1, hcount.2, rd_of_reg hvs]
  exact ⟨rfl, rfl⟩

/-! ### Inner samples (R124, R240) -/

theorem pattern_lt (n : Nat) (v : Int) : pattern n v < 2 ^ n := by
  have h := Int.emod_lt_of_pos v (show (0 : Int) < ((2 ^ n : Nat) : Int) by positivity)
  unfold pattern
  omega

theorem rdi_wri_same (a : Nat) (f : Fld) (v : Int) (hf : f.ok = true) (hn : 0 < f.width) (h1 : -(2 ^ (f.width - 1) : Nat) ≤ v)
    (h2 : v < (2 ^ (f.width - 1) : Nat)) : (s.wri a f v).rdi a f = v := by
  show signed f.width ((s.wri a f v).rd a f) = v
  rw [wri_eq, rd_wr_same _ _ _ _ hf, Nat.mod_eq_of_lt (pattern_lt _ _)]
  exact signed_pattern _ _ hn h1 h2

theorem clampI_range (v : Int) : -1024 ≤ clampI (-1024) 1023 v ∧ clampI (-1024) 1023 v < 1024 := by
  unfold clampI
  omega

/-- The register of a closed sample: LAST_X, and CLIP where a code lies at the converter's end. -/
def State.sampled (s : State) (t w : Nat) (codes : List Int) (x : Int) : State :=
  (s.wri (AD_WIN t w) AD_WIN.LAST_X x).on (codes.any (fun c => decide (c ≤ -128) || decide (127 ≤ c))) (·.wr (AD_WIN t w) AD_WIN.CLIP 1)

/-- The loop's sums of a closed sample. -/
def Loop.summed (l : Loop) (v x band : Int) : Loop :=
  { l with sumX := l.sumX + v, numX := l.numX + 1, inBand := l.inBand && decide (-band ≤ x) && decide (x ≤ band) }

variable {codes : List Int} {x : Int}

theorem sampled_rest : s.onlyRegs (s.sampled t w codes x) := by
  unfold State.sampled State.on
  split <;> rfl

theorem sampled_reg {b : Nat} (h : b ≠ AD_WIN t w) : (s.sampled t w codes x).reg b = s.reg b :=
  (on_wr_reg _ _ _ _ _ _ h).trans (wri_reg_ne s _ b _ _ h)

theorem sampled_lastX (h1 : -1024 ≤ x) (h2 : x < 1024) : (s.sampled t w codes x).rdi (AD_WIN t w) AD_WIN.LAST_X = x := by
  have h : (s.wri (AD_WIN t w) AD_WIN.LAST_X x).rdi (AD_WIN t w) AD_WIN.LAST_X = x := rdi_wri_same _ _ _ (by decide) (by decide) h1 h2
  unfold State.sampled State.on
  split
  · exact (rdi_wr_fld _ _ _ _ _ _ (by decide) (by decide)).trans h
  · exact h

theorem sampled_clip (h : ∃ c ∈ codes, c ≤ -128 ∨ 127 ≤ c) : (s.sampled t w codes x).flag (AD_WIN t w) AD_WIN.CLIP = true := by
  have hany : codes.any (fun c => decide (c ≤ -128) || decide (127 ≤ c)) = true := by
    simpa using h
  unfold State.sampled State.on
  rw [hany]
  exact flag_wr_one _ _ _ (by decide)

theorem breachTest_inside (h : x.natAbs ≤ 8 * s.rd (WL_WIN t w) WL_WIN.WIN) : s.breachTest t w x = s.updLp t w (fun l => { l with beyond := 0 }) := by
  have h1 : decide (x < -((8 * s.rd (WL_WIN t w) WL_WIN.WIN : Nat) : Int)) = false := decide_eq_false (by omega)
  have h2 : decide (((8 * s.rd (WL_WIN t w) WL_WIN.WIN : Nat) : Int) < x) = false := decide_eq_false (by omega)
  unfold State.breachTest
  dsimp only
  rw [h1, h2]
  rfl

theorem queueSample_normal (hm : (s.lp t w).mode = emNormal) : s.queueSample t w x = s.pushSample t w (x + (s.sh t w).correct) := by
  have h : halfRate (s.lp t w).mode = false := by rw [hm]; rfl
  unfold State.queueSample
  dsimp only
  rw [if_pos h]

/-- A voltage telemetry sum of a well. -/
def State.telSummed (s : State) (t w : Nat) (c : Prop) [Decidable c] (v : Int) : State :=
  if c then s.setWell t w { s.well t w with tel := { (s.well t w).tel with impSum := (s.well t w).tel.impSum + v, impN := (s.well t w).tel.impN + 1 } } else s

theorem telSummed_keeps (c : Prop) [Decidable c] (v : Int) : (s.telSummed t w c v).lp t w = s.lp t w ∧ (s.telSummed t w c v).sh t w = s.sh t w ∧
    { s.telSummed t w c v with wells := s.wells } = s := by
  unfold State.telSummed
  split
  · exact ⟨by simp [State.lp], by simp [State.sh], rfl⟩
  · exact ⟨rfl, rfl, rfl⟩

/-- The width of the band that a sample is judged by. -/
def State.sampleBand (s : State) (t w : Nat) : Int := if (s.mo t w).safePrime then 320 else (8 * s.hb t w : Nat)

/-- The register and the sums of a closed sample. -/
def State.sampleNoted (s : State) (t w : Nat) (codes : List Int) (x : Int) : State :=
  (s.sampled t w codes x).updLp t w (fun l => l.summed (sixteenth (s.mo t w).x + x) x (s.sampleBand t w))

theorem innerSampleClose_wet (hk : s.wellOk t w = true) (hrun : s.flag (AD_WIN t w) AD_WIN.RUN = true) (hwet : s.wet t w = true) :
    s.innerSampleClose t w codes =
      (if s.looped t w && (s.lp t w).opened then
        ((((s.sampleNoted t w codes (s.sampleX t w codes)).breachTest t w (s.sampleX t w codes)).peakDev t w (s.sampleX t w codes)).telSummed t w
          ((s.well t w).tel.volt ∧ s.stage t w = stVolt) (sixteenth (s.mo t w).x + s.sampleX t w codes)).queueSample t w (s.sampleX t w codes)
      else (((s.sampleNoted t w codes (s.sampleX t w codes)).breachTest t w (s.sampleX t w codes)).peakDev t w (s.sampleX t w codes)).telSummed t w
          ((s.well t w).tel.volt ∧ s.stage t w = stVolt) (sixteenth (s.mo t w).x + s.sampleX t w codes)) := by
  unfold State.innerSampleClose
  rw [hk, hrun, hwet]
  rfl

/-- The well after a sample inside its window, before the sample is queued. -/
def State.sampleInside (s : State) (t w : Nat) (codes : List Int) (x : Int) : State :=
  (((s.sampleNoted t w codes x).updLp t w (fun l => { l with beyond := 0 })).peakDev t w x).telSummed t w
    ((s.well t w).tel.volt ∧ s.stage t w = stVolt) (sixteenth (s.mo t w).x + x)

theorem updLp_sh (f : Loop → Loop) : (s.updLp t w f).sh t w = s.sh t w := by simp [State.updLp, State.sh]

theorem peakDev_sh {dev : Int} : (s.peakDev t w dev).sh t w = s.sh t w := by
  unfold State.peakDev
  dsimp only
  split <;> rfl

theorem sampleInside_kept : ((s.sampleInside t w codes x).lp t w).queue = (s.lp t w).queue ∧ ((s.sampleInside t w codes x).lp t w).mode = (s.lp t w).mode ∧
    (s.sampleInside t w codes x).sh t w = s.sh t w := by
  have hnoted : (s.sampleNoted t w codes x).lp t w = (s.lp t w).summed (sixteenth (s.mo t w).x + x) x (s.sampleBand t w) :=
    (updLp_same _ _ _ _).trans (by rw [onlyRegs_lp sampled_rest])
  have hsh : (s.sampleNoted t w codes x).sh t w = s.sh t w := (updLp_sh _).trans (congrArg (fun x : State => x.sh t w) sampled_rest : _)
  have hlp : (s.sampleInside t w codes x).lp t w = { (s.sampleNoted t w codes x).lp t w with beyond := 0 } :=
    (telSummed_keeps _ _).1.trans ((onlyRegs_lp peakDev_onlyRegs t w).trans (updLp_same _ _ _ _))
  refine ⟨?_, ?_, ?_⟩
  · rw [hlp, hnoted]
    rfl
  · rw [hlp, hnoted]
    rfl
  · exact (telSummed_keeps _ _).2.1.trans (peakDev_sh.trans ((updLp_sh _).trans hsh))

theorem innerSampleClose_inside (hk : s.wellOk t w = true) (hrun : s.flag (AD_WIN t w) AD_WIN.RUN = true) (hwet : s.wet t w = true)
    (hs : s.stage t w = stVolt) (hop : (s.lp t w).opened = true) (hm : (s.lp t w).mode = emNormal) (hx : s.sampleX t w codes = x)
    (hin : x.natAbs ≤ 8 * s.rd (WL_WIN t w) WL_WIN.WIN) :
    s.innerSampleClose t w codes = (s.sampleInside t w codes x).pushSample t w (x + (s.sh t w).correct) := by
  have hwin : WL_WIN t w ≠ AD_WIN t w := by simp only [WL_WIN, AD_WIN, wlBase]; omega
  have hreg : (s.sampleNoted t w codes x).reg (WL_WIN t w) = s.reg (WL_WIN t w) := sampled_reg hwin
  have hbreach := breachTest_inside (s := s.sampleNoted t w codes x) (t := t) (w := w) (x := x) (by rw [rd_of_reg hreg]; exact hin)
  rw [innerSampleClose_wet hk hrun hwet, hx, looped_volt hs, hop, hbreach]
  refine (queueSample_normal (s := s.sampleInside t w codes x) (sampleInside_kept.2.1.trans hm)).trans ?_
  rw [sampleInside_kept.2.2]

theorem telSummed_rest (c : Prop) [Decidable c] (v : Int) : (s.telSummed t w c v).regs = s.regs ∧ (s.telSummed t w c v).fault = s.fault ∧
    (s.telSummed t w c v).clk = s.clk := by
  unfold State.telSummed
  split
  · exact ⟨rfl, rfl, rfl⟩
  · exact ⟨rfl, rfl, rfl⟩

theorem sampled_fault : (s.sampled t w codes x).fault = s.fault := onlyRegs_fault sampled_rest

theorem peakDev_clk {dev : Int} : (s.peakDev t w dev).clk = s.clk := by
  unfold State.peakDev
  dsimp only
  split <;> rfl

theorem sampled_clk : (s.sampled t w codes x).clk = s.clk := by
  unfold State.sampled State.on
  split <;> rfl

theorem sampleInside_reg {b : Nat} (h : b ≠ WL_HOLD t w) : (s.sampleInside t w codes x).reg b = (s.sampled t w codes x).reg b := by
  refine (congrArg (RegTable.get · b) (telSummed_rest _ _).1 : _).trans ?_
  exact peakDev_reg (s := (s.sampleNoted t w codes x).updLp t w (fun l => { l with beyond := 0 })) h

theorem sampleInside_fault : (s.sampleInside t w codes x).fault = s.fault := by
  refine (telSummed_rest _ _).2.1.trans ((onlyRegs_fault peakDev_onlyRegs).trans ?_)
  exact sampled_fault

theorem sampleInside_clk : (s.sampleInside t w codes x).clk = s.clk :=
  (telSummed_rest _ _).2.2.trans (peakDev_clk.trans sampled_clk)

theorem sampleX_sum (hc : codes.length = 8) : s.sampleX t w codes = clampI (-1024) 1023 (codes.sum - s.rdi (AD_WIN t w) AD_WIN.OFFSET +
    ((8 * s.rd (AD_WIN t w) AD_WIN.VC : Nat) - sixteenth (s.mo t w).x : Int)) := by
  unfold State.sampleX
  dsimp only
  rw [List.take_of_length_le hc.le, ← List.sum_eq_foldl]

/-- A sample that closes inside the window (R240). -/
theorem sample_closes (hq : s.quiet) (hk : s.wellOk t w = true) (hrun : s.flag (AD_WIN t w) AD_WIN.RUN = true) (hwet : s.wet t w = true)
    (hs : s.stage t w = stVolt) (hop : (s.lp t w).opened = true) (hm : (s.lp t w).mode = emNormal) (hx : s.sampleX t w codes = x)
    (h1 : -1024 ≤ x) (h2 : x < 1024) (hin : x.natAbs ≤ 8 * s.rd (WL_WIN t w) WL_WIN.WIN) :
    ∃ u, exec (.innerSampleClose t w codes) s = .next u ∧ u.rdi (AD_WIN t w) AD_WIN.LAST_X = x ∧
      (u.lp t w).queue = (s.lp t w).queue ++ [{ x := x + (s.sh t w).correct, closed := s.clk.ns }] ∧
      ((∃ c ∈ codes, c ≤ -128 ∨ 127 ≤ c) → u.flag (AD_WIN t w) AD_WIN.CLIP = true) ∧
      State.sameBut [AD_WIN t w, WL_HOLD t w] s u := by
  have he := innerSampleClose_inside hk hrun hwet hs hop hm hx hin
  have hne : AD_WIN t w ≠ WL_HOLD t w := by simp only [AD_WIN, WL_HOLD, wlBase]; omega
  have hx' : exec (.innerSampleClose t w codes) s = .next (s.innerSampleClose t w codes) := done_quiet _ (by
    rw [he]; exact (congrArg (·.now) sampleInside_fault : (s.sampleInside t w codes x).fault.now = _).trans hq)
  have hreg (b : Nat) : ((s.sampleInside t w codes x).pushSample t w (x + (s.sh t w).correct)).reg b = (s.sampleInside t w codes x).reg b := rfl
  rw [hx', he]
  refine ⟨_, rfl, ?_, ?_, fun hclip => ?_, fun b hb => ?_⟩
  · have hr : ((s.sampleInside t w codes x).pushSample t w (x + (s.sh t w).correct)).reg (AD_WIN t w) = (s.sampled t w codes x).reg (AD_WIN t w) :=
      (hreg _).trans (sampleInside_reg hne)
    unfold State.rdi
    rw [hr]
    exact sampled_lastX h1 h2
  · rw [State.pushSample, updLp_same, sampleInside_kept.1, sampleInside_clk]
  · exact (flag_of_reg ((hreg _).trans (sampleInside_reg hne)) _).trans (sampled_clip hclip)
  · simp only [List.mem_cons, List.not_mem_nil, or_false, not_or] at hb
    rw [hreg, sampleInside_reg hb.2, sampled_reg hb.1]

end

/-- Settles O34: an opening in voltage and in hysteretic mode, an opening at which a duty was due, and a sample that closes. -/
theorem periodsRegulate : Obligations.PeriodsRegulate := by
  unfold Obligations.PeriodsRegulate
  refine ⟨fun u w d s hq hk hwet hp hs hf hh hok htie hm hpend hb hby hr hage hd hlt =>
      opening_volt hq hk hwet hp hs hf hh hok htie hm hpend hb hby hr hage hd hlt,
    fun u w s hq hk hwet hp hs => opening_hyst hq hk hwet hp hs,
    fun u w q s hk hwet hp hs hf hh hm hr hqu ha hn => ⟨_, rfl, opening_overruns hk hwet hp hs hf hh hm hr hqu ha hn⟩,
    fun u w codes x s hq hk hrun hwet hs hop hm hc hx hin => ?_⟩
  have hsx : s.sampleX u w codes = x := (sampleX_sum hc).trans hx.symm
  have hrange := clampI_range (codes.sum - s.rdi (AD_WIN u w) AD_WIN.OFFSET + ((8 * s.rd (AD_WIN u w) AD_WIN.VC : Nat) - sixteenth (s.mo u w).x : Int))
  rw [← hx] at hrange
  exact sample_closes hq hk hrun hwet hs hop hm hsx hrange.1 hrange.2 hin

end Sys2Proof.Machine

/-! PROOFS. The profile generator, hysteretic pulses and the handover (R138-R146, R242). -/

namespace Sys2Proof.Machine

open Sys2Proof

/-! ### A field that a plain write stores (R7, R36) -/

/-- A field whose bits a host may write, and no one clears, takes the word's value. -/
theorem plainWord_get {r : RegRow} {g : Fld} (hc : r.cnt = 0) (h : ∀ i, i < g.width → (BitVec.ofNat 64 r.rw).getLsbD (g.lo + i) = true ∧
    (BitVec.ofNat 64 r.w1c).getLsbD (g.lo + i) = false) (hw : g.lo + g.width ≤ 64) (a : Nat) (d x : Word) : g.get (plainWord r a d x) = g.get d := by
  refine congrArg BitVec.toNat (BitVec.eq_of_getLsbD_eq ?_)
  intro i hi
  have hi64 : g.lo + i < 64 := by omega
  obtain ⟨hrw, hkeep⟩ := h i hi
  have h1 : ¬ r.cnt = 1 := by omega
  have h2 : ¬ r.cnt = 2 := by omega
  simp only [plainWord, writeCounter, cntMask, h1, h2, if_false, BitVec.getLsbD_extractLsb', BitVec.getLsbD_and, BitVec.getLsbD_or, BitVec.getLsbD_not,
    show (0 : Word) = 0#64 from rfl, BitVec.getLsbD_zero, hi, hi64, hrw, hkeep, decide_true, Bool.true_and, Bool.not_true, Bool.not_false, Bool.and_false,
    Bool.and_true, Bool.false_or]

section
variable {s : State} {t w : Nat}

/-! ### The view of a motion (R138, R139) -/

theorem setpt_ne_prof (t w : Nat) : WL_SETPT t w ≠ WL_PROF_STAT t w := by simp only [WL_SETPT, WL_PROF_STAT]; omega

theorem motionView_reg {b : Nat} (h1 : b ≠ WL_SETPT t w) (h2 : b ≠ WL_PROF_STAT t w) : (s.motionView t w).reg b = s.reg b :=
  (wri_reg_ne _ _ _ _ _ h2).trans ((wri_reg_ne _ _ _ _ _ h2).trans (reg_wr_ne _ _ _ _ _ h1))

theorem motionView_rest : s.onlyRegs (s.motionView t w) := rfl

theorem motionView_vSet : (s.motionView t w).rd (WL_SETPT t w) WL_SETPT.V_SET = (half (s.mo t w).x).toNat % 4096 := by
  have h : (s.motionView t w).reg (WL_SETPT t w) = (s.wr (WL_SETPT t w) WL_SETPT.V_SET ((half (s.mo t w).x).toNat % 4096)).reg (WL_SETPT t w) :=
    (wri_reg_ne _ _ _ _ _ (setpt_ne_prof t w)).trans (wri_reg_ne _ _ _ _ _ (setpt_ne_prof t w))
  exact (rd_of_reg h _).trans ((rd_wr_same _ _ _ _ (by decide)).trans (Nat.mod_eq_of_lt (Nat.mod_lt _ (by decide))))

theorem motionView_settled : (s.motionView t w).flag (WL_PROF_STAT t w) WL_PROF_STAT.SETTLED = s.flag (WL_PROF_STAT t w) WL_PROF_STAT.SETTLED := by
  refine (flag_wr_fld _ _ _ _ _ _ (by decide) (by decide)).trans ((flag_wr_fld _ _ _ _ _ _ (by decide) (by decide)).trans ?_)
  exact flag_of_reg (reg_wr_ne _ _ _ _ _ (setpt_ne_prof t w).symm) _

theorem goalView_reg {b : Nat} (h1 : b ≠ WL_SETPT t w) (h2 : b ≠ WL_PROF_STAT t w) : (s.goalView t w).reg b = s.reg b := by
  unfold State.goalView
  dsimp only
  split_ifs
  · exact reg_wr_ne _ _ _ _ _ h1
  · exact (reg_wr_ne _ _ _ _ _ h1).trans (reg_wr_ne _ _ _ _ _ h1)
  · exact (reg_wr_ne _ _ _ _ _ h2).trans (reg_wr_ne _ _ _ _ _ h1)
  · exact (reg_wr_ne _ _ _ _ _ h2).trans ((reg_wr_ne _ _ _ _ _ h1).trans (reg_wr_ne _ _ _ _ _ h1))

theorem goalView_rest : s.onlyRegs (s.goalView t w) := by
  unfold State.goalView
  dsimp only
  split_ifs <;> rfl

theorem goalView_clears (h : s.goalOf t w ≠ (s.mo t w).x) : (s.goalView t w).flag (WL_PROF_STAT t w) WL_PROF_STAT.SETTLED = false := by
  unfold State.goalView
  dsimp only
  rw [if_neg h]
  exact flag_wr_zero _ _ _ (by decide)

theorem goalView_stage : (s.goalView t w).stage t w = s.stage t w := by
  unfold State.goalView State.stage
  dsimp only
  split_ifs
  · exact rd_wr_fld _ _ _ _ _ _ (by decide) (by decide)
  · exact (rd_wr_fld _ _ _ _ _ _ (by decide) (by decide)).trans (rd_wr_fld _ _ _ _ _ _ (by decide) (by decide))
  · exact (rd_wr_fld _ _ _ _ _ _ (by decide) (by decide)).trans (rd_wr_fld _ _ _ _ _ _ (by decide) (by decide))
  · exact (rd_wr_fld _ _ _ _ _ _ (by decide) (by decide)).trans
      ((rd_wr_fld _ _ _ _ _ _ (by decide) (by decide)).trans (rd_wr_fld _ _ _ _ _ _ (by decide) (by decide)))

/-! ### A tick of the well's own law (R139, R140) -/

/-- The well after a tick that is not captured. -/
def State.movedOn (s : State) (t w : Nat) (y : Int × Int × Int) : State :=
  (s.goalView t w).updMo t w (fun m => { m with x := y.1, v := y.2.1, a := y.2.2 })

/-- The well as it comes to rest at its target. -/
def State.rested (s : State) (t w : Nat) : State :=
  (s.goalView t w).updMo t w (fun m => { m with x := s.goalOf t w, v := 0, a := 0 })

/-- A tick of the law of R139. -/
def State.lawStep (s : State) (t w : Nat) : Int × Int × Int := profStep (s.limits t w) (s.goalOf t w) (s.mo t w).x (s.mo t w).v (s.mo t w).a

theorem profileTick_own (hk : s.wellOk t w = true) (hs : stPriming ≤ s.stage t w) (hd : (s.mo t w).dropPend = false) (ht : s.tracks t w = false)
    (hsafe : s.safeWell t w = false) : s.profileTick t w =
      (if captured (s.limits t w) (s.goalOf t w) (s.lawStep t w).1 (s.lawStep t w).2.1 (s.lawStep t w).2.2 then (s.rested t w).settled t w
       else s.movedOn t w (s.lawStep t w)).motionView t w := by
  unfold State.profileTick State.ownTick
  dsimp only
  rw [hk, hd, ht, hsafe, decide_eq_true hs]
  rfl

theorem movedOn_mo (y : Int × Int × Int) : (((s.movedOn t w y).mo t w).x, ((s.movedOn t w y).mo t w).v, ((s.movedOn t w y).mo t w).a) = y := by
  rw [State.movedOn, updMo_same]

theorem movedOn_reg (y : Int × Int × Int) (b : Nat) : (s.movedOn t w y).reg b = (s.goalView t w).reg b := rfl
theorem movedOn_fault (y : Int × Int × Int) : (s.movedOn t w y).fault = s.fault :=
  (onlyRegs_fault goalView_rest : (s.goalView t w).fault = s.fault)

/-- A tick that is not captured (R139). -/
theorem tick_moves (hq : s.quiet) (hk : s.wellOk t w = true) (hs : stPriming ≤ s.stage t w) (hd : (s.mo t w).dropPend = false) (ht : s.tracks t w = false)
    (hsafe : s.safeWell t w = false)
    (hc : captured (s.limits t w) (s.goalOf t w) (s.lawStep t w).1 (s.lawStep t w).2.1 (s.lawStep t w).2.2 = false) :
    ∃ u, exec (.profileTick t w) s = .next u ∧ ((u.mo t w).x, (u.mo t w).v, (u.mo t w).a) = s.lawStep t w ∧
      u.rd (WL_SETPT t w) WL_SETPT.V_SET = (half (u.mo t w).x).toNat % 4096 ∧
      (s.goalOf t w ≠ (s.mo t w).x → u.flag (WL_PROF_STAT t w) WL_PROF_STAT.SETTLED = false) ∧
      State.sameBut [WL_SETPT t w, WL_PROF_STAT t w] s u := by
  have he : s.profileTick t w = (s.movedOn t w (s.lawStep t w)).motionView t w := by
    rw [profileTick_own hk hs hd ht hsafe, hc]
    rfl
  have hx : exec (.profileTick t w) s = .next (s.profileTick t w) := done_quiet _ (by
    rw [he]; exact (congrArg (·.now) (movedOn_fault _) : (s.movedOn t w (s.lawStep t w)).fault.now = _).trans hq)
  rw [hx, he]
  refine ⟨_, rfl, movedOn_mo _, motionView_vSet, fun hg => ?_, fun b hb => ?_⟩
  · rw [motionView_settled, flag_of_reg (movedOn_reg _ _)]
    exact goalView_clears hg
  · simp only [List.mem_cons, List.not_mem_nil, or_false, not_or] at hb
    rw [motionView_reg hb.1 hb.2, movedOn_reg, goalView_reg hb.1 hb.2]

/-! ### What a settled ramp completes (R140, R153, R157) -/

/-- Where a well stands: position, speed and acceleration of its generator. -/
def State.pose (s : State) (t w : Nat) : Int × Int × Int := ((s.mo t w).x, (s.mo t w).v, (s.mo t w).a)

theorem updMo_pose {v : Nat} {f : Motion → Motion} (h : ∀ m, ((f m).x, (f m).v, (f m).a) = (m.x, m.v, m.a)) :
    (s.updMo t v f).pose t w = s.pose t w := by
  unfold State.pose
  by_cases hv : w = v
  · subst hv
    rw [updMo_same]
    exact h _
  · have hmo : (s.updMo t v f).mo t w = s.mo t w := by simp [State.updMo, State.mo, hv]
    rw [hmo]

theorem updSh_pose (v : Nat) (f : ShareX → ShareX) : (s.updSh t v f).pose t w = s.pose t w := by
  have hmo : (s.updSh t v f).mo t w = s.mo t w := by
    by_cases hv : w = v
    · subst hv
      simp [State.updSh, State.mo]
    · simp [State.updSh, State.mo, hv]
  unfold State.pose
  rw [hmo]

theorem untie_pose (v n : Nat) : (s.untie t v n).pose t w = s.pose t w := by
  unfold State.untie
  dsimp only
  split_ifs
  · exact updSh_pose v _
  · split
    · exact updSh_pose v _
    · exact updSh_pose v _
  · rfl

theorem openTies_pose (v : Nat) : (s.openTies t v).pose t w = s.pose t w := by
  unfold State.openTies
  split_ifs
  · refine each_keeps (fun u => u.pose t w) _ (fun u n => if u.tieOn t n then u.openTie t n else u) (fun u n => ?_) s
    split_ifs
    · exact (untie_pose _ _).trans (untie_pose _ _)
    · rfl
  · rfl

theorem penLow_pose (v p : Nat) : (s.penLow t v p).pose t w = s.pose t w := by
  unfold State.penLow
  dsimp only
  split_ifs <;> rfl

theorem dropWell_pose (v : Nat) : (s.dropWell t v).pose t w = s.pose t w := by
  unfold State.dropWell
  refine (updMo_pose (f := fun m => { m with dropPend := s.stage t v != stDry }) (fun _ => rfl)).trans ((openTies_pose v).trans ?_)
  exact each_keeps (fun u => u.pose t w) _ (fun u p => u.penLow t v p) (fun u p => penLow_pose v p) s

theorem dropWell_fault (v : Nat) : (s.dropWell t v).fault = s.fault := by
  unfold State.dropWell
  exact (openTies_fault _ _ _).trans (each_keeps State.fault _ (fun u p => u.penLow t v p) (fun u p => penLow_fault u t v p) s)

theorem dropWell_prof (v : Nat) : (s.dropWell t v).reg (WL_PROF_STAT t w) = s.reg (WL_PROF_STAT t w) := by
  have h1 : WL_PROF_STAT t w ≠ PH_TIE t := by simp only [WL_PROF_STAT, PH_TIE, wlBase]; omega
  have h2 (c : Nat) (hc : c < 3) : WL_PROF_STAT t w ≠ PH_CIST t c := by simp only [WL_PROF_STAT, PH_CIST, wlBase]; omega
  have h3 (x : Nat) (_ : x < 15) : WL_PROF_STAT t w ≠ WL_TIE t x := by simp only [WL_PROF_STAT, WL_TIE, wlBase]; omega
  have h4 (p : Nat) (hp : p < 4) : WL_PROF_STAT t w ≠ PM_LINK t v p := by simp only [WL_PROF_STAT, PM_LINK, wlBase]; omega
  have h5 (p : Nat) (hp : p < 4) : WL_PROF_STAT t w ≠ PM_STAT t v p := by simp only [WL_PROF_STAT, PM_STAT, wlBase]; omega
  unfold State.dropWell
  refine (openTies_reg _ _ _ _ h1 h2 h3).trans ?_
  exact each_mem_keeps (fun u => u.reg (WL_PROF_STAT t w)) _ (fun u p => u.penLow t v p)
    (fun u p hp => penLow_reg u _ _ _ _ (h4 p (pumpsOf_lt s hp)) (h5 p (pumpsOf_lt s hp))) s

theorem parkDone_keeps {β : Type} (π : State → β) (h : ∀ u v, π (State.dropWell u t v) = π u) : π (s.parkDone t w) = π s := by
  unfold State.parkDone
  split
  · exact each_keeps π _ (fun u v => u.dropWell t v) h s
  · rfl

theorem report_pose (op : Nat) (ok : Bool) : (s.report t w op ok).pose t w = s.pose t w := by
  refine each_keeps (fun u => u.pose t w) _ _ (fun u n => ?_) s
  dsimp only
  split_ifs <;> rfl

theorem primeViewOf_pose (v : Nat) : (s.primeViewOf t v).pose t w = s.pose t w := by
  unfold State.primeViewOf
  split_ifs <;> rfl

theorem primeDone_pose : (s.primeDone t w).pose t w = s.pose t w := by
  unfold State.primeDone
  exact (report_pose _ _).trans ((primeViewOf_pose w).trans (updMo_pose (fun _ => rfl)))

theorem primeDone_fault : (s.primeDone t w).fault = s.fault := by
  unfold State.primeDone
  exact (report_fault _ _ _ _ _).trans (primeViewOf_fault _ _ _)

theorem primeDone_settled : (s.primeDone t w).flag (WL_PROF_STAT t w) WL_PROF_STAT.SETTLED = s.flag (WL_PROF_STAT t w) WL_PROF_STAT.SETTLED := by
  have hp (c : Nat) (_ : c < 3) : WL_PROF_STAT t w ≠ PH_PRIME t c := by simp only [WL_PROF_STAT, PH_PRIME, wlBase]; omega
  unfold State.primeDone
  refine (flag_of_reg ((report_reg _ _ _ _ _ _).trans (primeViewOf_reg _ _ _ _ hp)) _).trans ?_
  refine (flag_wr_fld _ _ _ _ _ _ (by decide) (by decide)).trans ((flag_wr_fld _ _ _ _ _ _ (by decide) (by decide)).trans ?_)
  exact flag_of_reg (reg_wr_ne _ _ _ _ _ (setpt_ne_prof t w).symm) _

/-- What SETTLED_CAPTURE leaves in every stage (R140). -/
theorem settled_leaves : (s.settled t w).pose t w = s.pose t w ∧ (s.settled t w).fault = s.fault ∧
    (s.settled t w).flag (WL_PROF_STAT t w) WL_PROF_STAT.SETTLED = true := by
  have hset : (s.wr (WL_PROF_STAT t w) WL_PROF_STAT.SETTLED 1).flag (WL_PROF_STAT t w) WL_PROF_STAT.SETTLED = true := flag_wr_one _ _ _ (by decide)
  unfold State.settled
  dsimp only
  split_ifs
  · exact ⟨primeDone_pose, primeDone_fault, primeDone_settled.trans hset⟩
  · refine ⟨parkDone_keeps (fun u => u.pose t w) (fun _ v => dropWell_pose v), parkDone_keeps State.fault (fun _ v => dropWell_fault v), ?_⟩
    exact (flag_of_reg (parkDone_keeps (fun u => u.reg (WL_PROF_STAT t w)) (fun _ v => dropWell_prof v)) _).trans hset
  · exact ⟨rfl, rfl, hset⟩

theorem settled_stays (h : s.stage t w = stHyst ∨ s.stage t w = stVolt) : s.settled t w = s.wr (WL_PROF_STAT t w) WL_PROF_STAT.SETTLED 1 := by
  have h1 : ¬ s.stage t w = stPriming := by rcases h with h | h <;> rw [h] <;> decide
  have h2 : ¬ s.stage t w = stPark := by rcases h with h | h <;> rw [h] <;> decide
  unfold State.settled
  dsimp only
  rw [if_neg h1, if_neg (fun h => h2 h.1)]

theorem rested_fault : (s.rested t w).fault = s.fault := (onlyRegs_fault goalView_rest : (s.goalView t w).fault = s.fault)

theorem rested_pose : (s.rested t w).pose t w = (s.goalOf t w, 0, 0) := by
  unfold State.pose State.rested
  rw [updMo_same]

/-- A tick that is captured (R140). -/
theorem tick_rests (hq : s.quiet) (hk : s.wellOk t w = true) (hs : stPriming ≤ s.stage t w) (hd : (s.mo t w).dropPend = false) (ht : s.tracks t w = false)
    (hsafe : s.safeWell t w = false)
    (hc : captured (s.limits t w) (s.goalOf t w) (s.lawStep t w).1 (s.lawStep t w).2.1 (s.lawStep t w).2.2 = true) :
    ∃ u, exec (.profileTick t w) s = .next u ∧ ((u.mo t w).x, (u.mo t w).v, (u.mo t w).a) = (s.goalOf t w, 0, 0) ∧
      u.flag (WL_PROF_STAT t w) WL_PROF_STAT.SETTLED = true ∧
      (s.stage t w = stHyst ∨ s.stage t w = stVolt → State.sameBut [WL_SETPT t w, WL_PROF_STAT t w] s u) := by
  have he : s.profileTick t w = ((s.rested t w).settled t w).motionView t w := by
    rw [profileTick_own hk hs hd ht hsafe, if_pos hc]
  obtain ⟨hpose, hfault, hset⟩ := settled_leaves (s := s.rested t w) (t := t) (w := w)
  have hx : exec (.profileTick t w) s = .next (s.profileTick t w) := done_quiet _ (by
    rw [he]
    exact (congrArg (·.now) (hfault.trans rested_fault) : ((s.rested t w).settled t w).fault.now = _).trans hq)
  rw [hx, he]
  refine ⟨_, rfl, hpose.trans rested_pose, motionView_settled.trans hset, fun hst b hb => ?_⟩
  have hstage : (s.rested t w).stage t w = stHyst ∨ (s.rested t w).stage t w = stVolt := by
    have h : (s.rested t w).stage t w = s.stage t w := goalView_stage
    rw [h]
    exact hst
  simp only [List.mem_cons, List.not_mem_nil, or_false, not_or] at hb
  rw [motionView_reg hb.1 hb.2, settled_stays hstage, reg_wr_ne _ _ _ _ _ hb.2]
  exact goalView_reg hb.1 hb.2

end

end Sys2Proof.Machine

/-! PROOFS. Set-point writes, pulses and the handover (R142, R144, R146, R216, R242). -/

namespace Sys2Proof.Machine

open Sys2Proof

section
variable {s : State} {t w : Nat}

/-! ### A host's set-point (R142, R149) -/

/-- The line of WL_SETPT: V_CMD is writable, HOST_IGN and TCLAMP clear on a one. -/
def setptRow : RegRow := ⟨2, 0x50, 1, 0, 1, 0, 0xFFF0000000000000, 0xC0000, 0x0, 0xF007FFF, 0⟩

theorem setpt_plain {d : Word} (hu : t < 96) (hw : w < 15) (ht : s.takes (WL_SETPT t w) d) :
    s.plainWrite (WL_SETPT t w) d = s.setReg (WL_SETPT t w) (plainWord setptRow (WL_SETPT t w) d (s.reg (WL_SETPT t w))) := by
  have hrow : s.rowOf (WL_SETPT t w) = some setptRow := rowOf_well hu hw (by decide) ht.2.1
  simp only [State.plainWrite, hrow]

theorem setpt_vCmd (a : Nat) (d x : Word) : WL_SETPT.V_CMD.get (plainWord setptRow a d x) = WL_SETPT.V_CMD.get d :=
  plainWord_get rfl (by decide) (by decide) a d x

theorem vCmd_stored {d : Word} (hq : s.quiet) (ha : s.alone) (hu : t < 96) (hw : w < 14) (ht : s.takes (WL_SETPT t w) d) (ho : s.owned t w = false) :
    ∃ u, exec (.vCmdWrite t w d) s = .next u ∧ u.rd (WL_SETPT t w) WL_SETPT.V_CMD = WL_SETPT.V_CMD.get d ∧
      State.sameBut [WL_SETPT t w] s u ∧ s.onlyRegsPort u ∧ u.port = (s.answered rOkay 0).port := by
  have he : s.vCmdWrite t w d = s.setReg (WL_SETPT t w) (plainWord setptRow (WL_SETPT t w) d (s.reg (WL_SETPT t w))) := by
    have hno : ¬(w = 14 ∨ s.owned t w = true) := by
      rw [ho]
      rintro (h | h)
      · omega
      · cases h
    unfold State.vCmdWrite
    dsimp only
    rw [if_neg hno]
    exact setpt_plain hu (by omega) ht
  rw [hostOp_effect (show exec (.vCmdWrite t w d) s = hostOp s (WL_SETPT t w) d (·.vCmdWrite t w d) from rfl) ht he ha hq]
  refine ⟨_, rfl, ?_, fun b hb => ?_, rfl, rfl⟩
  · rw [answered_rd, rd_setReg_same, setpt_vCmd]
  · rw [answered_reg, reg_setReg, if_neg (by simpa using hb)]

theorem vCmd_ignored {d : Word} (hq : s.quiet) (ha : s.alone) (hu : t < 96) (hw : w < 15) (ht : s.takes (WL_SETPT t w) d)
    (ho : w = 14 ∨ s.owned t w = true) : ∃ u, exec (.vCmdWrite t w d) s = .next u ∧
      u.rd (WL_SETPT t w) WL_SETPT.V_CMD = s.rd (WL_SETPT t w) WL_SETPT.V_CMD ∧
      u.flag (WL_SETPT t w) WL_SETPT.HOST_IGN = true ∧ State.sameBut [WL_SETPT t w] s u ∧ s.onlyRegsPort u := by
  have he : s.vCmdWrite t w d = ((s.setReg (WL_SETPT t w) (plainWord setptRow (WL_SETPT t w) d (s.reg (WL_SETPT t w)))).wr (WL_SETPT t w) WL_SETPT.V_CMD
      (s.rd (WL_SETPT t w) WL_SETPT.V_CMD)).wr (WL_SETPT t w) WL_SETPT.HOST_IGN 1 := by
    unfold State.vCmdWrite
    dsimp only
    rw [if_pos ho, setpt_plain hu hw ht]
  rw [hostOp_effect (show exec (.vCmdWrite t w d) s = hostOp s (WL_SETPT t w) d (·.vCmdWrite t w d) from rfl) ht he ha hq]
  refine ⟨_, rfl, ?_, ?_, fun b hb => ?_, rfl⟩
  · rw [answered_rd, rd_wr_fld _ _ _ _ _ _ (by decide) (by decide), rd_wr_same _ _ _ _ (by decide)]
    exact Nat.mod_eq_of_lt (BitVec.isLt _)
  · rw [answered_flag]
    exact flag_wr_one _ _ _ (by decide)
  · have hb : b ≠ WL_SETPT t w := by simpa using hb
    rw [answered_reg, reg_wr_ne _ _ _ _ _ hb, reg_wr_ne _ _ _ _ _ hb, reg_setReg, if_neg hb]

/-! ### Pulses (R144, R242) -/

variable {p : Nat} {code : Int}

theorem hystTurnOn_starts (hk : s.wellOk t w = true) (hp : s.pulses t w = true) (hn : s.nextPulse t w = some p)
    (hlow : s.senseOf t w code < -(s.bandOf t w)) (hl : (s.lp t w).lastOn = none) (ho : s.flag (WL_HOLD t w) WL_HOLD.OV = false) :
    s.hystTurnOn t w code = (s.updPump t w p (fun q => { q with pulse := true, ready := false })).updLp t w (fun l => { l with
        lastOn := some s.clk.ns
        nextPump := p + 1 }) := by
  unfold State.hystTurnOn
  simp only [hn, hk, hp, decide_eq_true hlow, hl, ho]
  rfl

theorem pulse_starts (hq : s.quiet) (hk : s.wellOk t w = true) (hp : s.pulses t w = true) (hn : s.nextPulse t w = some p)
    (hlow : s.senseOf t w code < -(s.bandOf t w)) (hl : (s.lp t w).lastOn = none) (ho : s.flag (WL_HOLD t w) WL_HOLD.OV = false) :
    ∃ u, exec (.hystTurnOn t w code) s = .next u ∧ (u.pump t w p).pulse = true ∧ (u.pump t w p).ready = false ∧
      (u.lp t w).lastOn = some s.clk.ns ∧ (u.lp t w).nextPump = p + 1 ∧ State.sameBut [] s u := by
  have he := hystTurnOn_starts hk hp hn hlow hl ho
  have hx : exec (.hystTurnOn t w code) s = .next (s.hystTurnOn t w code) := done_quiet _ (by rw [he]; exact hq)
  have hpump : (s.hystTurnOn t w code).pump t w p = { s.pump t w p with pulse := true, ready := false } := by
    rw [he]
    exact updPump_same s t w p (fun q => { q with pulse := true, ready := false })
  refine ⟨_, hx, by rw [hpump], by rw [hpump], ?_, ?_, fun b _ => ?_⟩
  · rw [he, updLp_same]
  · rw [he, updLp_same]
  · rw [he]; rfl

theorem pulse_ends {ton : Nat} (hq : s.quiet) (hok : s.pumpOk t w p = true) (hp : (s.pump t w p).pulse = true) (ht : 10000 ≤ ton)
    (h : (s.bandOf t w < s.senseOf t w code ∧ (ton ≤ s.tonMax t w ∨ s.safeWell t w = true)) ∨ (ton = s.tonMax t w ∧ s.safeWell t w = false)) :
    ∃ u, exec (.hystPulseEnd t w p ⟨ton, code⟩) s = .next u ∧ (u.pump t w p).pulse = false ∧
      (u.pump t w p).onPs = (s.pump t w p).onPs + ton ∧ (u.pump t w p).readyAt = s.clk.ns + s.resetNs t w ton ∧ State.sameBut [] s u := by
  have hends : s.pulseEnds t w ton code = true := by
    unfold State.pulseEnds
    dsimp only
    rcases h with ⟨hover, hlen | hsafe⟩ | ⟨hmax, hsafe⟩
    · rw [decide_eq_true hover, decide_eq_true hlen]
      split <;> rfl
    · rw [hsafe, decide_eq_true hover]
      rfl
    · rw [hsafe, decide_eq_true hmax, Bool.or_true]
      rfl
  have he : s.hystPulseEnd t w p ton code =
      s.updPump t w p (fun q => { q with pulse := false, onPs := q.onPs + ton, readyAt := s.clk.ns + s.resetNs t w ton }) := by
    unfold State.hystPulseEnd
    rw [hok, hp, decide_eq_true ht, hends]
    rfl
  have hx : exec (.hystPulseEnd t w p ⟨ton, code⟩) s = .next (s.hystPulseEnd t w p ton code) := done_quiet _ (by rw [he]; exact hq)
  rw [hx, he]
  refine ⟨_, rfl, ?_, ?_, ?_, fun _ _ => rfl⟩
  · rw [updPump_same]
  · rw [updPump_same]
  · rw [updPump_same]

theorem pump_readies (hq : s.quiet) (hok : s.pumpOk t w p = true) (hp : (s.pump t w p).pulse = false) (hr : (s.pump t w p).readyAt ≤ s.clk.ns) :
    ∃ u, exec (.hystPumpReady t w p) s = .next u ∧ (u.pump t w p).ready = true ∧ State.sameBut [] s u := by
  have he : s.hystPumpReady t w p = s.updPump t w p (fun q => { q with ready := true }) := by
    unfold State.hystPumpReady
    rw [hok, hp, decide_eq_true hr]
    rfl
  have hx : exec (.hystPumpReady t w p) s = .next (s.hystPumpReady t w p) := done_quiet _ (by rw [he]; exact hq)
  rw [hx, he]
  refine ⟨_, rfl, ?_, fun _ _ => rfl⟩
  rw [updPump_same]

/-! ### The handover (R115, R146) -/

theorem updSh_mo (v : Nat) (f : ShareX → ShareX) : (s.updSh t v f).mo t w = s.mo t w := by
  by_cases hv : w = v
  · subst hv
    simp [State.updSh, State.mo]
  · simp [State.updSh, State.mo, hv]

theorem updSh_lp (v : Nat) (f : ShareX → ShareX) : (s.updSh t v f).lp t w = s.lp t w := by
  by_cases hv : w = v
  · subst hv
    simp [State.updSh, State.lp]
  · simp [State.updSh, State.lp, hv]

/-- What updates of the sharing state, the pumps and the registers leave of a well. -/
theorem startUnload_well (n : Nat) : (s.startUnload t n).mo t w = s.mo t w ∧ (s.startUnload t n).lp t w = s.lp t w := by
  have hstep (u : State) (v : Nat) : ((if u.rd (WL_TIE t v) WL_TIE.PARTNER = tieOther n v then
      if u.rd (WL_TIE t v) WL_TIE.PHASE = 3 then u.updSh t v (fun x => { x with quietUnload := false })
      else (u.wr (WL_TIE t v) WL_TIE.PHASE 3).updSh t v (fun x => { x with quietUnload := false, lowRun := 0, unloadN := 0 })
    else u).mo t w, (if u.rd (WL_TIE t v) WL_TIE.PARTNER = tieOther n v then
      if u.rd (WL_TIE t v) WL_TIE.PHASE = 3 then u.updSh t v (fun x => { x with quietUnload := false })
      else (u.wr (WL_TIE t v) WL_TIE.PHASE 3).updSh t v (fun x => { x with quietUnload := false, lowRun := 0, unloadN := 0 })
    else u).lp t w) = (u.mo t w, u.lp t w) := by
    split_ifs
    · rw [updSh_mo, updSh_lp]
    · rw [updSh_mo, updSh_lp]
      rfl
    · rfl
  have h := each_keeps (fun u => (u.mo t w, u.lp t w)) [(tieWells n).1, (tieWells n).2] _ hstep s
  exact ⟨congrArg Prod.fst h, congrArg Prod.snd h⟩

theorem startUnload_reg (n b : Nat) (h : ∀ v, b ≠ WL_TIE t v) : (s.startUnload t n).reg b = s.reg b := by
  refine each_keeps (fun u => u.reg b) [(tieWells n).1, (tieWells n).2] _ (fun u v => ?_) s
  split_ifs
  · rfl
  · exact reg_wr_ne _ _ _ _ _ (h v)
  · rfl

theorem unloadTies_keeps {β : Type} (π : State → β) (h : ∀ (u : State) n, π (u.startUnload t n) = π u) (v : Nat) : π (s.unloadTies t v) = π s := by
  refine each_keeps π _ (fun u n => if u.tieOn t n then u.startUnload t n else u) (fun u n => ?_) s
  split
  · exact h u n
  · rfl

theorem untieAfterFall_keeps {β : Type} (π : State → β) (h : ∀ (u : State) n, π (u.startUnload t n) = π u) (v : Nat) :
    π (s.untieAfterFall t v) = π s := by
  unfold State.untieAfterFall
  split
  · exact unloadTies_keeps π h v
  · rfl

theorem mo_of_wells {u : State} (h : u.wells = s.wells) : u.mo t w = s.mo t w := by
  unfold State.mo State.well
  rw [h]

theorem lp_of_wells {u : State} (h : u.wells = s.wells) : u.lp t w = s.lp t w := by
  unfold State.lp State.well
  rw [h]

theorem eachPump_wells (l : List Nat) (f : State → Nat → PumpX → PumpX) : (s.each l (fun u p => u.updPump t w p (f u p))).wells = s.wells := by
  refine each_keeps State.wells l _ (fun u p => ?_) s
  rfl

theorem eachPump_reg (l : List Nat) (f : State → Nat → PumpX → PumpX) (b : Nat) : (s.each l (fun u p => u.updPump t w p (f u p))).reg b = s.reg b := by
  refine each_keeps (fun u => u.reg b) l _ (fun u p => ?_) s
  rfl

theorem recompute_well (free : Bool) : (s.recompute t w free).mo t w = s.mo t w ∧ (s.recompute t w free).lp t w = s.lp t w := by
  have hcaps : (s.takeCaps t w free).mo t w = s.mo t w ∧ (s.takeCaps t w free).lp t w = s.lp t w := by
    unfold State.takeCaps
    dsimp only
    rw [updSh_mo, updSh_lp]
    exact ⟨mo_of_wells (eachPump_wells _ _), lp_of_wells (eachPump_wells _ _)⟩
  unfold State.recompute
  dsimp only
  split_ifs
  · exact hcaps
  · exact hcaps
  · exact hcaps
  · exact hcaps

/-- D_h of a handover (R115). -/
def State.handDuty (s : State) (t w : Nat) : Nat := (clampI 0 0x7FFF (roundDiv (65536 * (s.lp t w).vMean) (16 * s.rd (PH_BUS t) PH_BUS.BUS))).toNat

/-- The registers of a well handed over. -/
def State.handRegs (s : State) (t w : Nat) : State :=
  let s1 := ((s.setStage t w stVolt).setPmd t w ((s.mo t w).pmode == 1)).wr (WL_PWM t w) WL_PWM.SRC 1
  (s1.wr (WL_LOOP_STAT t w) WL_LOOP_STAT.RATE (if halfRate (s.lp t w).mode then 2 else 1)).wr (WL_PROF_STAT t w) WL_PROF_STAT.SET (s.mo t w).prof

/-- The loop of a well handed over with the duty `d`. -/
def Loop.handed (l : Loop) (d : Nat) : Loop :=
  { l with
    entry := some d, now := d, verified := d, next := none, bad := false, queue := [], half := none, heldX := none, retry := false, heldAge := 0
    counted := false, opened := false, outDue := false, outer := none, outRetry := false }

/-- The well handed over, before its load line is formed. -/
def State.handSet (s : State) (t w : Nat) : State :=
  let s3 := ((s.handRegs t w).updMo t w (fun m => { m with xFall := none, moveHold := false, handReq := false, waking := false })).updLp t w
    (fun l => l.handed (s.handDuty t w))
  (s3.each (s3.pumpsOf t w) (fun u p => u.updPump t w p (fun q => { q with pulse := false, ready := true }))).wr (WL_PWM t w) WL_PWM.DUTY (s.handDuty t w)

theorem handDo_set : s.handDo t w = ((((s.handSet t w).loadLine t w).recompute t w true).untieAfterFall t w).report t w 5 true := rfl

theorem report_mo (op : Nat) (ok : Bool) : (s.report t w op ok).mo t w = s.mo t w ∧ (s.report t w op ok).lp t w = s.lp t w := by
  have h : (s.report t w op ok).wells = s.wells := by
    refine each_keeps State.wells _ _ (fun u n => ?_) s
    dsimp only
    split_ifs <;> rfl
  exact ⟨mo_of_wells h, lp_of_wells h⟩

theorem updLp_handed (d : Nat) : ((s.updLp t w (fun l => l.handed d)).lp t w).now = d := by
  rw [updLp_same]
  rfl

theorem handSet_well : ((s.handSet t w).mo t w).handReq = false ∧ ((s.handSet t w).lp t w).now = s.handDuty t w := by
  refine ⟨(congrArg Motion.handReq (mo_of_wells (eachPump_wells _ _))).trans ?_, (congrArg Loop.now (lp_of_wells (eachPump_wells _ _))).trans ?_⟩
  · rw [updLp_mo, updMo_same]
  · exact updLp_handed _

theorem handSet_stage : (s.handSet t w).stage t w = stVolt := by
  have h1 : WL_SETPT t w ≠ WL_PWM t w := by simp only [WL_SETPT, WL_PWM]; omega
  have h2 : WL_SETPT t w ≠ WL_LOOP_STAT t w := by simp only [WL_SETPT, WL_LOOP_STAT]; omega
  have h3 : ∀ p, p < 4 → WL_SETPT t w ≠ PM_LINK t w p := fun p _ => by simp only [WL_SETPT, PM_LINK]; omega
  have hreg : (s.handSet t w).reg (WL_SETPT t w) = (s.setStage t w stVolt).reg (WL_SETPT t w) := by
    refine (reg_wr_ne _ _ _ _ _ h1).trans ((eachPump_reg _ _ _).trans ?_)
    refine (reg_wr_ne _ _ _ _ _ (setpt_ne_prof t w)).trans ((reg_wr_ne _ _ _ _ _ h2).trans ((reg_wr_ne _ _ _ _ _ h1).trans ?_))
    exact setPmd_reg _ _ _ _ _ h3
  exact (rd_of_reg hreg _).trans (stage_setStage s t w stVolt (by decide))

theorem loadLine_well : ((s.loadLine t w).mo t w).handReq = (s.mo t w).handReq ∧ ((s.loadLine t w).lp t w).now = (s.lp t w).now := by
  refine ⟨?_, ?_⟩
  · unfold State.loadLine
    dsimp only
    rw [updMo_same, updLp_mo]
  · unfold State.loadLine
    dsimp only
    rw [updMo_lp, updLp_same]

/-- A well handed over stands in voltage mode with D_h in force (R115, R146). -/
theorem handDo_hands : (s.handDo t w).stage t w = stVolt ∧ ((s.handDo t w).mo t w).handReq = false ∧ ((s.handDo t w).lp t w).now = s.handDuty t w := by
  have h1 : WL_SETPT t w ≠ WL_CAP t w := by simp only [WL_SETPT, WL_CAP]; omega
  have h2 : WL_SETPT t w ≠ PH_CIST t (w / 4) := by simp only [WL_SETPT, PH_CIST, wlBase]; omega
  have h3 (v : Nat) : WL_SETPT t w ≠ WL_TIE t v := by simp only [WL_SETPT, WL_TIE, wlBase]; omega
  have huntie (u : State) : (u.untieAfterFall t w).mo t w = u.mo t w ∧ (u.untieAfterFall t w).lp t w = u.lp t w :=
    ⟨untieAfterFall_keeps (fun u => u.mo t w) (fun _ n => (startUnload_well n).1) w, untieAfterFall_keeps (fun u => u.lp t w) (fun _ n => (startUnload_well n).2) w⟩
  rw [handDo_set]
  refine ⟨?_, ?_, ?_⟩
  · have hreg : (((((s.handSet t w).loadLine t w).recompute t w true).untieAfterFall t w).report t w 5 true).reg (WL_SETPT t w) =
        (s.handSet t w).reg (WL_SETPT t w) := by
      rw [report_reg, untieAfterFall_keeps (fun u => u.reg (WL_SETPT t w)) (fun _ n => startUnload_reg n _ h3), recompute_reg _ _ _ _ _ h1 h2, loadLine_reg]
    exact (rd_of_reg hreg _).trans handSet_stage
  · rw [(report_mo _ _).1, (huntie _).1, (recompute_well _).1, loadLine_well.1]
    exact handSet_well.1
  · rw [(report_mo _ _).2, (huntie _).2, (recompute_well _).2, loadLine_well.2]
    exact handSet_well.2

end

/-- Settles O38: ticks that move and that rest, set-point writes taken and ignored, the pulses of hysteretic mode, and the handover. -/
theorem setPointMoves : Obligations.SetPointMoves := by
  unfold Obligations.SetPointMoves
  refine ⟨fun u w s hq hk hs hd ht hsafe hc => tick_moves hq hk hs hd ht hsafe hc, fun u w s hq hk hs hd ht hsafe hc => tick_rests hq hk hs hd ht hsafe hc,
    fun u w d s hq ha hu hw ht ho => vCmd_stored hq ha hu hw ht ho, fun u w d s hq ha hu hw ht ho => vCmd_ignored hq ha hu hw ht ho,
    fun u w p code s hq hk hp hn hlow hl ho => pulse_starts hq hk hp hn hlow hl ho, fun u w p ton code s hq hok hp ht h => pulse_ends hq hok hp ht h,
    fun u w p s hq hok hp hr => pump_readies hq hok hp hr, fun u w s hreq hw hf hst hready => ?_⟩
  refine ⟨s.handover u w, rfl, ?_⟩
  have he : s.handover u w = s.handDo u w := by
    unfold State.handover State.handOver
    rw [hreq, decide_eq_true hw, hf, hst, hready]
    rfl
  rw [he]
  exact handDo_hands

end Sys2Proof.Machine

/-! PROOFS. The Wellhead at rest: NAP, SLEEP and what wakes it (R315-R318). -/

namespace Sys2Proof.Machine

open Sys2Proof

section
variable {s : State}

/-! ### Requests -/

/-- The SLEEP request is taken. -/
def State.sleepAsked (s : State) : State :=
  let s1 := (s.wr HD_PWR_STAT HD_PWR_STAT.RESULT 0).wr HD_PWR_STAT HD_PWR_STAT.REF_CAUSE 0
  { s1 with clk := { s1.clk with sleepReq := true } }

theorem sleepCause_lt (s : State) : s.sleepCause < 5 := by
  simp only [State.sleepCause]
  split_ifs <;> omega

theorem sleepRefuse_result (s : State) (c : Nat) : (s.sleepRefuse c).rd HD_PWR_STAT HD_PWR_STAT.RESULT = 2 :=
  (rd_wr_fld (s.wr HD_PWR_STAT HD_PWR_STAT.RESULT 2) HD_PWR_STAT HD_PWR_STAT HD_PWR_STAT.REF_CAUSE HD_PWR_STAT.RESULT c (by decide) (by decide)).trans
    (rd_wr_same _ _ _ 2 (by decide))

theorem sleepRefuse_cause (s : State) {c : Nat} (hc : c < 16) : (s.sleepRefuse c).rd HD_PWR_STAT HD_PWR_STAT.REF_CAUSE = c :=
  (rd_wr_same (s.wr HD_PWR_STAT HD_PWR_STAT.RESULT 2) HD_PWR_STAT HD_PWR_STAT.REF_CAUSE c (by decide)).trans (Nat.mod_eq_of_lt hc)

theorem sleepRefuse_reg (s : State) (c : Nat) {a : Nat} (h : a ≠ HD_PWR_STAT) : (s.sleepRefuse c).reg a = s.reg a :=
  (reg_wr_ne _ _ _ _ _ h).trans (reg_wr_ne _ _ _ _ _ h)

theorem sleepAsked_result (s : State) : s.sleepAsked.rd HD_PWR_STAT HD_PWR_STAT.RESULT = 0 :=
  (rd_wr_fld (s.wr HD_PWR_STAT HD_PWR_STAT.RESULT 0) HD_PWR_STAT HD_PWR_STAT HD_PWR_STAT.REF_CAUSE HD_PWR_STAT.RESULT 0 (by decide) (by decide)).trans
    (rd_wr_same _ _ _ 0 (by decide))

theorem sleepAsked_reg (s : State) {a : Nat} (h : a ≠ HD_PWR_STAT) : s.sleepAsked.reg a = s.reg a :=
  (reg_wr_ne _ _ _ _ _ h).trans (reg_wr_ne _ _ _ _ _ h)

theorem sleepWrite_refuses {d : Word} (hd : HD_PWR_CTRL.SLEEP.get d = 1) (hc : s.sleepCause ≠ 0) : s.sleepWrite d = s.sleepRefuse s.sleepCause := by
  simp only [State.sleepWrite, hd, if_neg Nat.one_ne_zero, if_pos hc]

theorem sleepWrite_asks {d : Word} (hd : HD_PWR_CTRL.SLEEP.get d = 1) (hc : s.sleepCause = 0) (ha : s.alarmPassed = false) :
    s.sleepWrite d = s.sleepAsked := by
  have hal : s.sleepAsked.alarmPassed = false := by
    simpa only [State.alarmPassed, sleepAsked_reg s (a := HD_WAKE_ALARM) (by decide), sleepAsked_reg s (a := HD_AO_TIME) (by decide)] using ha
  simp only [State.sleepWrite, hd, if_neg Nat.one_ne_zero, hc, ne_eq, not_true_eq_false, if_false]
  exact if_neg (fun h => Bool.false_ne_true (hal.symm.trans h))

/-! ### Entry -/

/-- How often the Wellhead has slept. -/
def State.sleepCount (s : State) : Nat := s.rd HD_PWR_STAT HD_PWR_STAT.SLEEPS

theorem wr_sleepCount (s : State) (a : Nat) (f : Fld) (v : Nat) (h : HD_PWR_STAT ≠ a) : (s.wr a f v).sleepCount = s.sleepCount :=
  rd_wr_ne _ _ _ _ _ _ h

theorem woken_sleepCount (s : State) (f : Fld) (a m : Nat) (hf : f.apart HD_PWR_STAT.SLEEPS = true) :
    ((s.wr HD_PWR_STAT f a).wr HD_PWR_STAT HD_PWR_STAT.LAST_WAKE m).sleepCount = s.sleepCount :=
  (rd_wr_fld _ _ _ _ _ _ (by decide) (by decide)).trans (rd_wr_fld s _ _ f _ _ (by decide) hf)

@[simp] theorem wake_sleepCount (m : Nat) : (s.wake m).sleepCount = s.sleepCount := by
  simp only [State.wake]
  split_ifs
  · rfl
  · simp only [State.sleepCount, State.rd, restart_reg]
  · rfl
  · exact woken_sleepCount s _ _ _ (by decide)
  · exact woken_sleepCount s _ _ _ (by decide)
  · rfl

theorem pendOnly_sleepCount {n : Nat} : (s.pendOnly n).sleepCount = s.sleepCount := by
  have hn : HD_PWR_STAT ≠ IC_SRC n := by simp only [HD_PWR_STAT, IC_SRC]; omega
  have hsteer : ((s.wr (IC_SRC n) IC_SRC.STEER (s.steer n)).wr (IC_SRC n) IC_SRC.PEND 1).sleepCount = s.sleepCount :=
    (wr_sleepCount _ _ _ _ hn).trans (wr_sleepCount _ _ _ _ hn)
  simp only [State.pendOnly]
  split
  · exact wr_sleepCount s _ _ _ hn
  · exact (wake_sleepCount 0x10).trans hsteer

theorem heldOff_sleepCount : s.heldOff.sleepCount = s.sleepCount := by
  have hlost (u : State) (v : Nat) : (u.wr ER_STAT ER_STAT.LOST v).sleepCount = u.sleepCount := wr_sleepCount u _ _ _ (by decide)
  have hsat (u : State) (v : Nat) : (u.wr ER_STAT ER_STAT.SAT v).sleepCount = u.sleepCount := wr_sleepCount u _ _ _ (by decide)
  have hpend (u : State) (v : Nat) : ((u.wr IC_SAT_ADDR IC_SAT_ADDR.ADDR v).pendOnly 148).sleepCount = u.sleepCount :=
    pendOnly_sleepCount.trans (wr_sleepCount u _ _ _ (by decide))
  have hfire (u : State) : u.fireSat.sleepCount = u.sleepCount := by simp only [State.sleepCount, State.rd, fireSat_reg]
  simp only [State.heldOff, State.on]
  split_ifs
  · rfl
  · rw [hsat, hlost]
  · rw [hfire, hpend, hsat, hlost]
  · rw [hpend, hsat, hlost]
  · exact hlost _ _

theorem pend_sleepCount (n : Nat) : (s.pend n).sleepCount = s.sleepCount := by
  have hfire (u : State) : (u.fireTrigger n true 0).sleepCount = u.sleepCount := by
    simp only [State.fireTrigger]
    split
    · rfl
    · split_ifs
      · rfl
      · exact heldOff_sleepCount
      · rfl
  simp only [State.pend, State.on]
  split_ifs
  · rfl
  · exact (hfire _).trans pendOnly_sleepCount
  · exact pendOnly_sleepCount

theorem bump_sleepCount (a : Nat) (h : HD_PWR_STAT ≠ a) : (s.bump a).sleepCount = s.sleepCount := by
  have hstuck (u : State) : (u.stuck a).sleepCount = u.sleepCount := by
    simp only [State.stuck]
    split
    · rfl
    · exact (pend_sleepCount 148).trans (wr_sleepCount u _ _ _ (by decide))
  simp only [State.bump]
  split_ifs
  · rfl
  · exact (hstuck _).trans ((wr_sleepCount _ _ _ _ h).trans (wr_sleepCount _ _ _ _ h))
  · exact wr_sleepCount _ _ _ _ h

theorem sourceLost_sleepCount : s.sourceLost.sleepCount = s.sleepCount := by
  simp only [State.sourceLost]
  split
  · exact (bump_sleepCount HD_CLK (by decide)).trans (wr_sleepCount s HD_CLK HD_CLK.MODE ckHoldover (by decide))
  · rfl

theorem clearPort_sleepCount (s : State) (n v : Nat) : (s.clearPort n v).sleepCount = s.sleepCount := by
  have hn : HD_PWR_STAT ≠ CL_PORT n := by simp only [HD_PWR_STAT, CL_PORT]; omega
  have hport : (s.setPort n v).sleepCount = s.sleepCount :=
    (wr_sleepCount _ CL_STAT _ _ (by decide)).trans (wr_sleepCount s (CL_PORT n) _ _ hn)
  simp only [State.clearPort]
  split
  · exact sourceLost_sleepCount.trans hport
  · exact hport

/-- The lanes go to signal detect without touching the count of sleeps (R317, R370). -/
theorem linkSleep_sleepCount : s.linkSleep.sleepCount = s.sleepCount := by
  refine each_keeps State.sleepCount (List.range 4) (fun u n => if u.portState n = poOff then u else u.clearPort n poDetect) (fun u n => ?_) s
  split
  · rfl
  · exact clearPort_sleepCount u n poDetect

/-- The Wellhead enters SLEEP. -/
def State.slept (s : State) : State :=
  let s1 := (s.bump HD_PWR_STAT).linkSleep
  { s1 with clk := { s1.clk with fast := .sleep, sleepReq := false } }

theorem sleepEnter_sleeps (hr : s.clk.sleepReq = true) (ho : s.port.outstanding = []) (hc : s.sleepCause = 0) : s.sleepEnter = s.slept := by
  simp only [State.sleepEnter, hr, ho, hc, ne_eq, not_true_eq_false, or_self, if_false, Bool.true_eq_false]
  rfl

theorem sleepEnter_refuses (hr : s.clk.sleepReq = true) (ho : s.port.outstanding = []) (hc : s.sleepCause ≠ 0) :
    s.sleepEnter = s.sleepRefuse s.sleepCause := by
  simp [State.sleepEnter, hr, ho, hc]

theorem slept_sleepCount (h : s.sleepCount + 1 < 0xFFFFFFFF) : s.slept.sleepCount = s.sleepCount + 1 := by
  have hb : (s.bump HD_PWR_STAT).sleepCount = s.sleepCount + 1 := by
    rw [bump_counts s HD_PWR_STAT h]
    exact (rd_wr_same s HD_PWR_STAT HD_PWR_STAT.SLEEPS _ (by decide)).trans (Nat.mod_eq_of_lt (Nat.lt_trans h (by decide)))
  exact linkSleep_sleepCount.trans hb

/-! ### Waking -/

/-- The Wellhead's wake is reported: WOKEN or ABANDONED, with the sources that were armed (R318). -/
def State.wakeNoted (s : State) (r m : Nat) : State := (s.wr HD_PWR_STAT HD_PWR_STAT.RESULT r).wr HD_PWR_STAT HD_PWR_STAT.LAST_WAKE m

theorem armed_and_lt (s : State) (srcs : Nat) : srcs &&& s.armed < 2 ^ 5 :=
  Nat.and_lt_two_pow srcs (Nat.or_lt_two_pow (Nat.mod_lt _ (by decide)) (by decide))

theorem wakeNoted_result (s : State) (m : Nat) {r : Nat} (hr : r < 8) : (s.wakeNoted r m).rd HD_PWR_STAT HD_PWR_STAT.RESULT = r :=
  (rd_wr_fld _ _ _ _ _ _ (by decide) (by decide)).trans ((rd_wr_same s HD_PWR_STAT HD_PWR_STAT.RESULT r (by decide)).trans (Nat.mod_eq_of_lt hr))

theorem wakeNoted_last (s : State) (r : Nat) {m : Nat} (hm : m < 2 ^ 5) : (s.wakeNoted r m).rd HD_PWR_STAT HD_PWR_STAT.LAST_WAKE = m :=
  (rd_wr_same _ _ _ _ (by decide)).trans (Nat.mod_eq_of_lt hm)

theorem wakeNoted_reg (s : State) (r m : Nat) {a : Nat} (h : a ≠ HD_PWR_STAT) : (s.wakeNoted r m).reg a = s.reg a :=
  (reg_wr_ne _ _ _ _ _ h).trans (reg_wr_ne _ _ _ _ _ h)

theorem wake_unarmed {srcs : Nat} (hm : srcs &&& s.armed = 0) (hf : s.clk.fast ≠ .nap) : s.wake srcs = s := by
  simp [State.wake, hm, hf]

theorem wake_woken {srcs : Nat} (hm : srcs &&& s.armed ≠ 0) (hf : s.clk.fast = .sleep) :
    s.wake srcs = { s.wakeNoted 1 (srcs &&& s.armed) with clk := { s.clk with fast := .restarting, sleepReq := false } } := by
  have hnap : (decide (FastClock.sleep = FastClock.nap) && !s.clk.sleepReq) = false := rfl
  simp only [State.wake, hf, hnap, Bool.false_eq_true, if_false, if_neg hm, if_true]
  rfl

theorem wake_abandons {srcs : Nat} (hm : srcs &&& s.armed ≠ 0) (hf : s.clk.fast = .run) (hr : s.clk.sleepReq = true) :
    s.wake srcs = { s.wakeNoted 3 (srcs &&& s.armed) with clk := { s.clk with sleepReq := false } } := by
  have hnap : (decide (FastClock.run = FastClock.nap) && !true) = false := rfl
  have hsleep : FastClock.run ≠ FastClock.sleep := by decide
  simp only [State.wake, hf, hr, hnap, Bool.false_eq_true, if_false, if_neg hm, if_neg hsleep, if_true]
  rfl

theorem wake_napping {srcs : Nat} (hf : s.clk.fast = .nap) (hr : s.clk.sleepReq = false) :
    s.wake srcs = if srcs = 0 then s else { s with clk := { s.clk with fast := .restarting } } := by
  simp [State.wake, hf, hr, State.restart]

end

/-- Settles O52. -/
theorem sleepsAndWakes : Obligations.SleepsAndWakes := by
  unfold Obligations.SleepsAndWakes
  refine ⟨fun s hq hf => ⟨fun hb => ?_, fun hb => ?_⟩, fun d s hq hal ht hd => ⟨fun hc => ?_, fun hc hpast => ?_⟩,
    fun s hr ho => ⟨fun hc hlt => ?_, fun hc => ?_⟩, fun srcs s hq => ⟨fun hm hf => ?_, fun hm hf => ?_, fun hm hf hr => ?_, fun hf hr => ?_, fun h0 hf hr => ?_⟩⟩
  · have he : execNap s = done { s with clk := { s.clk with fast := .nap } } := by simp [execNap, hf, hb]
    exact he.trans (done_quiet _ hq)
  · have he : execNap s = done s := by simp [execNap, hb]
    exact he.trans (done_quiet _ hq)
  · have hx := hostOp_effect (show exec (.sleep d) s = hostOp s HD_PWR_CTRL d (·.sleepWrite d) from rfl) ht (sleepWrite_refuses hd hc) hal hq
    exact ⟨_, hx, sleepRefuse_result s _, sleepRefuse_cause s (Nat.lt_trans (sleepCause_lt s) (by decide)), rfl,
      fun a ha => sleepRefuse_reg s _ (List.mem_singleton.not.mp ha)⟩
  · have hx := hostOp_effect (show exec (.sleep d) s = hostOp s HD_PWR_CTRL d (·.sleepWrite d) from rfl) ht (sleepWrite_asks hd hc hpast) hal hq
    exact ⟨_, hx, sleepAsked_result s, rfl, fun a ha => sleepAsked_reg s (List.mem_singleton.not.mp ha)⟩
  · refine ⟨s.sleepEnter, rfl, ?_⟩
    rw [sleepEnter_sleeps hr ho hc]
    exact ⟨rfl, rfl, slept_sleepCount hlt⟩
  · refine ⟨s.sleepEnter, rfl, ?_⟩
    rw [sleepEnter_refuses hr ho hc]
    exact ⟨rfl, rfl, sleepRefuse_result s _⟩
  · have hx : exec (.sleepWake srcs) s = .next (s.wake srcs) := done_quiet _ (by rw [wake_unarmed hm hf]; exact hq)
    rw [hx, wake_unarmed hm hf]
  · have hx : exec (.sleepWake srcs) s = .next (s.wake srcs) := done_quiet _ (by rw [wake_woken hm hf]; exact hq)
    rw [hx, wake_woken hm hf]
    exact ⟨_, rfl, rfl, wakeNoted_result s _ (by decide), wakeNoted_last s _ (armed_and_lt s srcs),
      fun a ha => wakeNoted_reg s _ _ (List.mem_singleton.not.mp ha)⟩
  · have hx : exec (.sleepWake srcs) s = .next (s.wake srcs) := done_quiet _ (by rw [wake_abandons hm hf hr]; exact hq)
    rw [hx, wake_abandons hm hf hr]
    exact ⟨_, rfl, hf, rfl, wakeNoted_result s _ (by decide), fun a ha => wakeNoted_reg s _ _ (List.mem_singleton.not.mp ha)⟩
  · have he := wake_napping (srcs := 0) hf hr
    rw [if_pos rfl] at he
    have hx : exec (.sleepWake 0) s = .next (s.wake 0) := done_quiet _ (by rw [he]; exact hq)
    rw [hx, he]
  · have he := wake_napping (srcs := srcs) hf hr
    rw [if_neg h0] at he
    have hx : exec (.sleepWake srcs) s = .next (s.wake srcs) := done_quiet _ (by rw [he]; exact hq)
    rw [hx, he]

end Sys2Proof.Machine

/-! PROOFS. The tie switches: acknowledge, faults and opening (R209-R216). -/

namespace Sys2Proof.Machine

open Sys2Proof

section
variable {s u v : State} {t w n : Nat}

/-! ### Bits of a field -/

theorem setBit_false (a i : Nat) : (setBit a i false).testBit i = false := by
  by_cases h : a.testBit i = true
  · have hb := bit_setBit_false a i i h
    simpa [bit] using hb
  · have h : a.testBit i = false := by simpa using h
    simp [setBit, h]

theorem setBit_true (a i : Nat) : (setBit a i true).testBit i = true := by simp [setBit]

theorem setBit_lt {a i k : Nat} (b : Bool) (ha : a < 2 ^ k) (hi : i < k) : setBit a i b < 2 ^ k := by
  cases b with
  | false => exact Nat.lt_of_le_of_lt (Nat.sub_le _ _) ha
  | true => exact Nat.or_lt_two_pow ha (Nat.pow_lt_pow_right (by decide) hi)

theorem rd_lt (s : State) (a : Nat) (f : Fld) : s.rd a f < 2 ^ f.width := BitVec.isLt _

/-- A bit of a field is written, the others of it standing. -/
theorem rd_wr_setBit (a i : Nat) {f : Fld} (b : Bool) (hf : f.ok = true) (hi : i < f.width) :
    (s.wr a f (setBit (s.rd a f) i b)).rd a f = setBit (s.rd a f) i b :=
  (rd_wr_same s a f _ hf).trans (Nat.mod_eq_of_lt (setBit_lt b (rd_lt s a f) hi))

theorem phTie_ne_wlTie (t u w : Nat) (h : t = u) : PH_TIE t ≠ WL_TIE u w := by simp only [PH_TIE, WL_TIE, wlBase, h]; omega
theorem phCist_ne_wlTie (t c w : Nat) (hc : c < 64) : PH_CIST t c ≠ WL_TIE t w := by simp only [PH_CIST, WL_TIE, wlBase]; omega
theorem phTie_ne_phCist (t c : Nat) (hc : c < 64) : PH_TIE t ≠ PH_CIST t c := by simp only [PH_TIE, PH_CIST]; omega

/-! ### What a boundary's reaction leaves of the ties of a faulted well -/

/-- The switches that are driven, TIE_FAULT of a well and its run above TIE_IMAX. -/
def State.tieMark (s : State) (t w : Nat) : Word × Bool × Nat := (s.reg (PH_TIE t), s.flag (WL_TIE t w) WL_TIE.TIE_FAULT, (s.sh t w).overRun)

/-- A change that leaves them of every well of the tile, and every raise that waits. -/
def State.tieStays (t : Nat) (s u : State) : Prop :=
  (∀ w, u.tieMark t w = s.tieMark t w) ∧ ∀ r, r ∈ s.fault.inflight → r ∈ u.fault.inflight

theorem tieStays_refl : State.tieStays t s s := ⟨fun _ => rfl, fun _ h => h⟩

theorem tieStays_trans (h1 : State.tieStays t s u) (h2 : State.tieStays t u v) : State.tieStays t s v :=
  ⟨fun w => (h2.1 w).trans (h1.1 w), fun r h => h2.2 r (h1.2 r h)⟩

theorem tieStays_faulted (h : State.tieStays t s u) (hf : s.flag (WL_TIE t w) WL_TIE.TIE_FAULT = true) : u.flag (WL_TIE t w) WL_TIE.TIE_FAULT = true :=
  (congrArg (·.2.1) (h.1 w)).trans hf

theorem tieStays_each {α : Type} (l : List α) (f : State → α → State) (h : ∀ u e, State.tieStays t u (f u e)) (s : State) :
    State.tieStays t s (s.each l f) := by
  induction l generalizing s with
  | nil => exact tieStays_refl
  | cons e l ih => exact tieStays_trans (h s e) (ih (f s e))

theorem tieStays_reg (h1 : u.reg (PH_TIE t) = s.reg (PH_TIE t)) (h2 : ∀ w, u.reg (WL_TIE t w) = s.reg (WL_TIE t w))
    (hw : u.wells = s.wells) (hf : u.fault = s.fault) : State.tieStays t s u :=
  ⟨fun w => by simp only [State.tieMark, h1, flag_of_reg (h2 w), State.sh, State.well, hw], fun r h => by rw [hf]; exact h⟩

theorem wrTie_stays (w x : Nat) {f : Fld} (hf : f.apart WL_TIE.TIE_FAULT = true) : State.tieStays t s (s.wr (WL_TIE t w) f x) :=
  ⟨fun y => by simp only [State.tieMark, reg_wr_ne _ _ _ _ _ (phTie_ne_wlTie t t w rfl), flag_wr_fld _ _ _ _ _ _ (by decide) hf]; rfl, fun _ h => h⟩

theorem wriTie_stays (w : Nat) (x : Int) {f : Fld} (hf : f.apart WL_TIE.TIE_FAULT = true) : State.tieStays t s (s.wri (WL_TIE t w) f x) := by
  rw [wri_eq]
  exact wrTie_stays w _ hf

theorem updSh_stays (w : Nat) {f : ShareX → ShareX} (hf : ∀ x, (f x).overRun = x.overRun) : State.tieStays t s (s.updSh t w f) := by
  refine ⟨fun y => ?_, fun _ h => h⟩
  have hsh : ((s.updSh t w f).sh t y).overRun = (s.sh t y).overRun := by
    by_cases hy : y = w
    · subst hy
      rw [updSh_same, hf]
    · simp [State.updSh, State.sh, hy]
  simp only [State.tieMark, hsh]
  rfl

theorem capEvent_stays (w : Nat) : State.tieStays t s (s.capEvent t w) := ⟨fun _ => rfl, fun _ h => h⟩

theorem raisePh_stays (r : Raise) : State.tieStays t s (s.raisePh r) := ⟨fun _ => rfl, fun _ h => List.mem_append_left _ h⟩

theorem recompute_stays (w : Nat) (hw : w < 14) (free : Bool) : State.tieStays t s (s.recompute t w free) := by
  have hreg (b : Nat) (h1 : b ≠ WL_CAP t w) (h2 : b ≠ PH_CIST t (w / 4)) := recompute_reg s t w free b h1 h2
  have hcaps : State.tieStays t s (s.takeCaps t w free) := by
    unfold State.takeCaps
    dsimp only
    refine tieStays_trans (tieStays_reg ?_ (fun y => ?_) (eachPump_wells _ _) ?_)
      (updSh_stays w (f := fun h => { h with limIn := if !free && (s.stage t w == stVolt) then leastLimit h.limIn (s.limitNow t w) else s.limitNow t w }) fun _ => rfl)
    · exact eachPump_reg _ _ _
    · exact eachPump_reg _ _ _
    · refine each_keeps State.fault _ _ (fun _ _ => ?_) s
      rfl
  have hcap : State.tieStays t (s.takeCaps t w free) ((s.takeCaps t w free).setReg (WL_CAP t w) ((s.takeCaps t w free).capWord t w)) :=
    tieStays_reg ((reg_setReg _ _ _ _).trans (if_neg (by simp only [PH_TIE, WL_CAP, wlBase]; omega)))
      (fun y => (reg_setReg _ _ _ _).trans (if_neg (by simp only [WL_TIE, WL_CAP, wlBase]; omega))) rfl rfl
  have hcist (u : State) (c : Nat) (hc : c < 64) : State.tieStays t u (u.cistView t c) := by
    have hb (x : State) (f : Fld) (i : Int) : State.tieStays t x (x.wri (PH_CIST t c) f i) := by
      rw [wri_eq]
      exact tieStays_reg (reg_wr_ne _ _ _ _ _ (phTie_ne_phCist t c hc)) (fun y => reg_wr_ne _ _ _ _ _ (phCist_ne_wlTie t c y hc).symm) rfl rfl
    exact tieStays_trans (hb u _ _) (tieStays_trans (hb _ _ _) (hb _ _ _))
  unfold State.recompute
  dsimp only
  have h1 := tieStays_trans hcaps hcap
  split_ifs
  · exact tieStays_trans (tieStays_trans h1 (hcist _ _ (by omega))) (capEvent_stays w)
  · exact tieStays_trans h1 (capEvent_stays w)
  · exact tieStays_trans h1 (hcist _ _ (by omega))
  · exact h1

theorem startUnload_stays (n : Nat) : State.tieStays t s (s.startUnload t n) := by
  refine tieStays_each [(tieWells n).1, (tieWells n).2] _ (fun u w => ?_) s
  split_ifs
  · exact updSh_stays w fun _ => rfl
  · exact tieStays_trans (wrTie_stays w 3 (by decide)) (updSh_stays w fun _ => rfl)
  · exact tieStays_refl

theorem unloadTies_stays (w : Nat) : State.tieStays t s (s.unloadTies t w) := by
  refine tieStays_each (wellTies w) (fun u n => if u.tieOn t n then u.startUnload t n else u) (fun u n => ?_) s
  split
  · exact startUnload_stays n
  · exact tieStays_refl

theorem setProtRest_stays (w r : Nat) : State.tieStays t s (s.setProtRest t w r) := by
  unfold State.setProtRest
  dsimp only
  generalize max r _ = v
  split
  · exact tieStays_refl
  · exact tieStays_trans (tieStays_trans (wrTie_stays w v (f := WL_TIE.PROT_REST) (by decide)) (updSh_stays w (f := fun h => { h with pr := h.pr.decide v s.clk.beat }) fun _ => rfl))
      (capEvent_stays w)

theorem keepTie_stays (w : Nat) : State.tieStays t s (s.keepTie t w) := by
  unfold State.keepTie
  split
  · refine tieStays_each [w, s.rd (WL_TIE t w) WL_TIE.PARTNER] (fun (u : State) v =>
      (u.wr (WL_TIE t v) WL_TIE.PHASE 2).updSh t v (fun h => { h with quietUnload := false, lowRun := 0, unloadN := 0 })) (fun u v => ?_) s
    exact tieStays_trans (wrTie_stays v 2 (by decide)) (updSh_stays v fun _ => rfl)
  · exact tieStays_refl

theorem restReact_stays (w : Nat) : State.tieStays t s (s.restReact t w) := by
  unfold State.restReact
  dsimp only
  have hcover : State.tieStays t s (s.wri (WL_TIE t w) WL_TIE.COVER (s.coverOf t w)) := wriTie_stays w _ (by decide)
  split
  · exact tieStays_trans hcover (tieStays_trans (setProtRest_stays w _) (updSh_stays w fun _ => rfl))
  · have hrest := tieStays_trans hcover (tieStays_trans (setProtRest_stays w 15) (updSh_stays w (f := fun h => { h with satur := true }) fun _ => rfl))
    split
    · exact hrest
    · exact tieStays_trans hrest (raisePh_stays _)

/-- A well with TIE_FAULT takes no partner (R210). -/
theorem pickTie_faulted (moving : Bool) (above : Int) (hf : s.flag (WL_TIE t w) WL_TIE.TIE_FAULT = true) : s.pickTie t w moving above = none := by
  have hnone : (wellTies w).filter (fun n => s.tieAllowed t w n moving && decide (above < s.roomOf t (tieOther n w))) = [] :=
    List.filter_eq_nil_iff.mpr fun n _ => by simp [State.tieAllowed, State.tieFit, hf]
  unfold State.pickTie
  dsimp only
  rw [hnone]

theorem deficitTie_faulted (hf : s.flag (WL_TIE t w) WL_TIE.TIE_FAULT = true) : s.deficitTie t w = s := by
  unfold State.deficitTie
  simp only [pickTie_faulted _ _ hf]
  split_ifs <;> rfl

/-- DEFICIT is set or cleared, and a deficit that begins is reported (R217). -/
def State.deficitNoted (s : State) (t w : Nat) : State :=
  let d := s.hasDeficit t w
  let s1 := (s.wrb (WL_TIE t w) WL_TIE.DEFICIT d).on d (·.updSh t w (fun h => { h with winQuiet := false, quietWin := false }))
  if d && !s.flag (WL_TIE t w) WL_TIE.DEFICIT then s1.capEvent t w else s1

/-- A boundary without a deficit: the rest returns to 0, and the tie is unloaded after a full quiet window (R219). -/
def State.deficitPast (s : State) (t w : Nat) : State :=
  let s3 := (s.wri (WL_TIE t w) WL_TIE.COVER (s.coverOf t w)).setProtRest t w 0
  let s4 := s3.updSh t w (fun h => { h with satur := false })
  if (s4.sh t w).quietWin && s4.tied t w && !s4.unloading t w then s4.quietUnloads t w else s4

/-- The reaction that follows: of a partner, of a well in deficit or of an overloaded cistern, of another (R217-R221). -/
def State.deficitActs (s : State) (t w : Nat) (d full : Bool) : State :=
  if s.tied t w && (s.rd (WL_TIE t w) WL_TIE.ROLE == 2) then
    let s3 := if d then s.unloadTies t w else s
    if full then s3.restReact t w else if d then s3 else s3.setProtRest t w 0
  else if d || full then (if d then (s.keepTie t w).deficitTie t w else s).restReact t w
  else s.deficitPast t w

theorem deficitReact_eq (s : State) (t w : Nat) : s.deficitReact t w =
    (s.deficitNoted t w).deficitActs t w (s.hasDeficit t w) (decide (w < 12) && s.cistOver t (w / 4)) := rfl

theorem deficitNoted_stays (w : Nat) : State.tieStays t s (s.deficitNoted t w) := by
  have hmark (d : Bool) : State.tieStays t s (s.wrb (WL_TIE t w) WL_TIE.DEFICIT d) := wrTie_stays w (b2n d) (by decide)
  have hmarked : State.tieStays t s ((s.wrb (WL_TIE t w) WL_TIE.DEFICIT (s.hasDeficit t w)).on (s.hasDeficit t w)
      (·.updSh t w (fun h => { h with winQuiet := false, quietWin := false }))) := by
    unfold State.on
    split
    · exact tieStays_trans (hmark _) (updSh_stays w (f := fun h => { h with winQuiet := false, quietWin := false }) fun _ => rfl)
    · exact hmark _
  unfold State.deficitNoted
  dsimp only
  split
  · exact tieStays_trans hmarked (capEvent_stays w)
  · exact hmarked

theorem deficitPast_stays (w : Nat) : State.tieStays t s (s.deficitPast t w) := by
  have hquiet : State.tieStays t s (((s.wri (WL_TIE t w) WL_TIE.COVER (s.coverOf t w)).setProtRest t w 0).updSh t w (fun h => { h with satur := false })) :=
    tieStays_trans (wriTie_stays w _ (by decide)) (tieStays_trans (setProtRest_stays w 0) (updSh_stays w fun _ => rfl))
  unfold State.deficitPast
  dsimp only
  split
  · exact tieStays_trans hquiet (tieStays_trans (unloadTies_stays w) (updSh_stays w (f := fun h => { h with quietUnload := true }) fun _ => rfl))
  · exact hquiet

theorem deficitActs_stays (d full : Bool) (hf : s.flag (WL_TIE t w) WL_TIE.TIE_FAULT = true) : State.tieStays t s (s.deficitActs t w d full) := by
  have hkept : State.tieStays t s ((s.keepTie t w).deficitTie t w) := by
    rw [deficitTie_faulted (tieStays_faulted (keepTie_stays w) hf)]
    exact keepTie_stays w
  unfold State.deficitActs
  cases d <;> cases full <;> simp only [Bool.or_self, Bool.or_true, Bool.true_or, Bool.false_eq_true, if_false, if_true] <;> split
  · exact setProtRest_stays w 0
  · exact deficitPast_stays w
  · exact restReact_stays w
  · exact restReact_stays w
  · exact unloadTies_stays w
  · exact tieStays_trans hkept (restReact_stays w)
  · exact tieStays_trans (unloadTies_stays w) (restReact_stays w)
  · exact tieStays_trans hkept (restReact_stays w)

theorem deficitReact_stays (hf : s.flag (WL_TIE t w) WL_TIE.TIE_FAULT = true) : State.tieStays t s (s.deficitReact t w) := by
  rw [deficitReact_eq]
  exact tieStays_trans (deficitNoted_stays w) (deficitActs_stays _ _ (tieStays_faulted (deficitNoted_stays w) hf))

/-- A reaction at a faulted well closes no switch (R210, R238). -/
theorem again_stays (hf : s.flag (WL_TIE t w) WL_TIE.TIE_FAULT = true) : State.tieStays t s (s.again t w) := by
  unfold State.again
  split
  next h =>
    have hre := recompute_stays (s := s) (t := t) w h.1 false
    exact tieStays_trans hre (deficitReact_stays (tieStays_faulted hre hf))
  next => exact tieStays_refl

end

end Sys2Proof.Machine

/-! PROOFS. The tie switches: what opens, and what a split lets go on (R209-R216). -/

namespace Sys2Proof.Machine

open Sys2Proof

section
variable {s u v : State} {t w n : Nat}

theorem tieWells_ne (n : Nat) : (tieWells n).1 ≠ (tieWells n).2 := by simp only [tieWells]; omega

theorem leadOf_tieWells (s : State) (t n : Nat) : s.leadOf t n = (tieWells n).1 ∨ s.leadOf t n = (tieWells n).2 := by
  unfold State.leadOf
  split
  · exact Or.inr rfl
  · exact Or.inl rfl

/-! ### Faults -/

theorem tieFault_flags (s : State) (t n : Nat) : (s.tieFault t n).flag (WL_TIE t (tieWells n).1) WL_TIE.TIE_FAULT = true ∧
    (s.tieFault t n).flag (WL_TIE t (tieWells n).2) WL_TIE.TIE_FAULT = true := by
  have hne : WL_TIE t (tieWells n).1 ≠ WL_TIE t (tieWells n).2 := by
    have := tieWells_ne n
    simp only [WL_TIE, wlBase]; omega
  exact ⟨(flag_wr_ne _ _ _ _ _ _ hne).trans (flag_wr_one _ _ _ (by decide)), flag_wr_one _ _ _ (by decide)⟩

theorem tieFault_lead (s x : State) (t n : Nat) : (s.tieFault t n).flag (WL_TIE t (x.leadOf t n)) WL_TIE.TIE_FAULT = true := by
  obtain ⟨h1, h2⟩ := tieFault_flags s t n
  rcases leadOf_tieWells x t n with h | h
  · rw [h]
    exact h1
  · rw [h]
    exact h2

theorem tieFault_inflight (s : State) (t n : Nat) : ({ src := 17, tile := t, sub := n } : Raise) ∈ (s.tieFault t n).fault.inflight :=
  List.mem_append_right _ (List.mem_singleton.mpr rfl)

theorem tieFault_reg (s : State) (t n b : Nat) (h1 : b ≠ WL_TIE t (tieWells n).1) (h2 : b ≠ WL_TIE t (tieWells n).2) :
    (s.tieFault t n).reg b = s.reg b := (reg_wr_ne _ _ _ _ _ h2).trans (reg_wr_ne _ _ _ _ _ h1)

/-- A switch whose tie is broken reads open. -/
theorem openTie_off (s : State) {t n : Nat} (hn : n < 12) : (s.openTie t n).tieOn t n = false := by
  have htie (x : State) (v : Nat) : (x.untie t v n).reg (PH_TIE t) = x.reg (PH_TIE t) := untie_reg x t v n _ (phTie_ne_wlTie t t v rfl)
  have hreg : (s.openTie t n).reg (PH_TIE t) = (s.wr (PH_TIE t) PH_TIE.ON (setBit (s.rd (PH_TIE t) PH_TIE.ON) n false)).reg (PH_TIE t) :=
    (htie _ _).trans ((htie _ _).trans (reg_wr_ne _ _ _ _ _ (phTie_ne_phCist t _ (by omega))))
  rw [State.tieOn, rd_of_reg hreg, rd_wr_setBit _ _ _ (by decide) hn]
  exact setBit_false _ n

theorem tieOn_of_stays (h : State.tieStays t s u) (n : Nat) : u.tieOn t n = s.tieOn t n := by
  have hreg : u.reg (PH_TIE t) = s.reg (PH_TIE t) := congrArg (·.1) (h.1 0)
  simp only [State.tieOn, rd_of_reg hreg]

/-- What the missing acknowledge of a closing switch brings (R211). -/
theorem tieFaulted_again (s x : State) {t n : Nat} (hn : n < 12) :
    let u := ((s.openTie t n).tieFault t n).again t (x.leadOf t n)
    u.tieOn t n = false ∧ u.flag (WL_TIE t (tieWells n).1) WL_TIE.TIE_FAULT = true ∧ u.flag (WL_TIE t (tieWells n).2) WL_TIE.TIE_FAULT = true ∧
      ({ src := 17, tile := t, sub := n } : Raise) ∈ u.fault.inflight := by
  have hst := again_stays (tieFault_lead (s.openTie t n) x t n)
  obtain ⟨h1, h2⟩ := tieFault_flags (s.openTie t n) t n
  refine ⟨(tieOn_of_stays hst n).trans ?_, tieStays_faulted hst h1, tieStays_faulted hst h2, hst.2 _ (tieFault_inflight _ t n)⟩
  have hreg := tieFault_reg (s.openTie t n) t n (PH_TIE t) (phTie_ne_wlTie t t _ rfl) (phTie_ne_wlTie t t _ rfl)
  rw [State.tieOn, rd_of_reg hreg]
  exact openTie_off s hn

theorem tieAckTimeout_closing (hk : s.tileOk t = true) (hn : n < 12) (hon : s.tieOn t n = true) (hack : (s.rd (PH_TIE t) PH_TIE.ACK).testBit n = false)
    (hclosing : (s.sh t (s.leadOf t n)).newTie = some n ∨
      ((s.sh t (s.leadOf t n)).tie = some n ∧ s.rd (WL_TIE t (s.leadOf t n)) WL_TIE.PHASE = 1))
    (hat : (s.sh t (s.leadOf t n)).tieAt + 1 ≤ (s.sh t (s.leadOf t n)).outerN) :
    ∃ x : State, s.tieAckTimeout t n = ((x.openTie t n).tieFault t n).again t (s.leadOf t n) := by
  have hc : ((s.sh t (s.leadOf t n)).newTie == some n ||
      ((s.sh t (s.leadOf t n)).tie == some n && s.rd (WL_TIE t (s.leadOf t n)) WL_TIE.PHASE == 1)) = true := by
    rcases hclosing with h | ⟨h1, h2⟩
    · simp [h]
    · simp [h1, h2]
  unfold State.tieAckTimeout
  simp only [hk, hn, hon, bit, hack, hc, hat, decide_true, Bool.and_true, Bool.not_false, Bool.true_eq_false, if_false, if_true]
  split_ifs
  · exact ⟨_, rfl⟩
  · exact ⟨_, rfl⟩

theorem tieAckTimeout_late (hk : s.tileOk t = true) (hn : n < 12) (hon : s.tieOn t n = false) (hl : s.opensLate t n = true) :
    s.tieAckTimeout t n = (s.updTile t (fun x => { x with tieOff := x.tieOff.filter (fun e => e.1 ≠ n) })).tieFault t n := by
  unfold State.tieAckTimeout
  simp [hk, hn, hon, hl]

/-! ### Over-current -/

theorem updSh_ne {v : Nat} (f : ShareX → ShareX) (h : w ≠ v) : (s.updSh t v f).sh t w = s.sh t w := by simp [State.updSh, State.sh, h]

/-- The runs of both wells of a switch start anew. -/
def State.clearRuns (s : State) (t n : Nat) : State :=
  (s.updSh t (tieWells n).1 (fun h => { h with overRun := 0 })).updSh t (tieWells n).2 (fun h => { h with overRun := 0 })

theorem tieOvercurrent_acts (hk : s.tileOk t = true) (hn : n < 12) (hc : (s.rd (PH_CIST t (n / 4)) PH_CIST.TIES).testBit (n % 4) = true)
    (hrun : 8 ≤ (s.sh t (tieWells n).1).overRun ∨ 8 ≤ (s.sh t (tieWells n).2).overRun) :
    s.tieOvercurrent t n = State.again (((s.startUnload t n).tieFault t n).clearRuns t n) t (s.leadOf t n) := by
  have hmax : 8 ≤ max (s.sh t (tieWells n).1).overRun (s.sh t (tieWells n).2).overRun := by omega
  unfold State.tieOvercurrent
  simp only [hk, hn, bit, hc, hmax, decide_true, Bool.and_true, if_true]
  rfl

theorem clearRuns_zero (s : State) (t n : Nat) : ((s.clearRuns t n).sh t (tieWells n).1).overRun = 0 := by
  unfold State.clearRuns
  rw [updSh_ne _ (tieWells_ne n), updSh_same]

/-! ### Opening -/

/-- A counter's address keeps its other fields. -/
theorem bump_rd_apart (s : State) (a b : Nat) {g : Fld} (hg : g.ok = true) (hc : ctrCount.apart g = true) (hs : ctrSat.apart g = true)
    (hb : b ∉ sideRegs) : (s.bump a).rd b g = s.rd b g := by
  have hcount (x : Nat) : (s.wr a ctrCount x).rd b g = s.rd b g := rd_wr_fld _ _ _ _ _ _ hg hc
  unfold State.bump
  dsimp only
  split_ifs
  · rfl
  · exact (rd_of_reg (stuck_reg _ _ _ hb) g).trans ((rd_wr_fld _ _ _ _ _ _ hg hs).trans (hcount _))
  · exact hcount _

/-- What a switch of a cistern and one of its wells show of a tie. -/
def State.tieView (s : State) (t c w : Nat) : Word × Word × Nat :=
  (s.reg (PH_TIE t), s.reg (PH_CIST t c), s.rd (WL_TIE t w) WL_TIE.PARTNER)

theorem tieView_of_reg {c : Nat} (h1 : u.reg (PH_TIE t) = s.reg (PH_TIE t)) (h2 : u.reg (PH_CIST t c) = s.reg (PH_CIST t c))
    (h3 : u.reg (WL_TIE t w) = s.reg (WL_TIE t w)) : u.tieView t c w = s.tieView t c w := by
  simp only [State.tieView, h1, h2, rd_of_reg h3]

theorem parkBegin_reg (s : State) (t w : Nat) (b : Bool) {a : Nat} (h1 : ∀ k, k < 96 → a ≠ PH_CLPWR t k) (h2 : a ≠ WL_SETPT t w)
    (h3 : a ≠ WL_PROF_STAT t w) (h4 : ∀ p, p < 4 → a ≠ PM_LINK t w p) (h5 : ∀ c, c < 3 → a ≠ PH_PRIME t c) : (s.parkBegin t w b).reg a = s.reg a := by
  have hgates : (s.each (fedClusters w) (fun u k => u.gateOn t k PH_CLPWR.C_DRY)).reg a = s.reg a := gateDry_reg s t w a h1
  exact (primeViewOf_reg _ t w a h5).trans ((setPmd_reg _ t w _ a h4).trans ((reg_wr_ne _ _ _ _ _ h3).trans ((reg_wr_ne _ _ _ _ _ h3).trans
    ((reg_wr_ne _ _ _ _ _ h2).trans hgates))))

theorem afterSplit_reg (s : State) (t w : Nat) {a : Nat} (h1 : ∀ k, k < 96 → a ≠ PH_CLPWR t k) (h2 : a ≠ WL_SETPT t w)
    (h3 : a ≠ WL_PROF_STAT t w) (h4 : ∀ p, p < 4 → a ≠ PM_LINK t w p) (h5 : ∀ c, c < 3 → a ≠ PH_PRIME t c) : (s.afterSplit t w).reg a = s.reg a := by
  unfold State.afterSplit
  split_ifs
  · rfl
  · exact parkBegin_reg s t w _ h1 h2 h3 h4 h5
  · rfl
  · rfl
  · rfl

/-- A split, and the park or the hysteretic mode that waited for it, show the same of the ties. -/
theorem afterSplit_view (s : State) (t v : Nat) {c : Nat} (hv : v < 15) (hc : c < 4) : (s.afterSplit t v).tieView t c w = s.tieView t c w := by
  refine tieView_of_reg (afterSplit_reg s t v ?_ ?_ ?_ ?_ ?_) (afterSplit_reg s t v ?_ ?_ ?_ ?_ ?_) (afterSplit_reg s t v ?_ ?_ ?_ ?_ ?_) <;>
    simp only [PH_TIE, PH_CIST, WL_TIE, PH_CLPWR, WL_SETPT, WL_PROF_STAT, PM_LINK, PH_PRIME, wlBase] <;> intros <;> omega

theorem bump_view (s : State) (t v p : Nat) {c : Nat} (hc : c < 4) : (s.bump (PM_SVC t v p)).tieView t c w = s.tieView t c w := by
  have h1 : (s.bump (PM_SVC t v p)).reg (PH_TIE t) = s.reg (PH_TIE t) := bump_reg s _ _ (by simp only [PH_TIE, PM_SVC, wlBase]; omega)
    (by simp [sideRegs, PH_TIE, ER_STAT, IC_SAT_ADDR, IC_SRC, HD_PWR_STAT, phBase]; omega)
  have h2 : (s.bump (PM_SVC t v p)).reg (PH_CIST t c) = s.reg (PH_CIST t c) := bump_reg s _ _ (by simp only [PH_CIST, PM_SVC, wlBase]; omega)
    (by simp [sideRegs, PH_CIST, ER_STAT, IC_SAT_ADDR, IC_SRC, HD_PWR_STAT, phBase]; omega)
  have h3 : (s.bump (PM_SVC t v p)).rd (WL_TIE t w) WL_TIE.PARTNER = s.rd (WL_TIE t w) WL_TIE.PARTNER :=
    bump_rd_apart s _ _ (by decide) (by decide) (by decide) (by simp [sideRegs, WL_TIE, ER_STAT, IC_SAT_ADDR, IC_SRC, HD_PWR_STAT, wlBase, phBase]; omega)
  simp only [State.tieView, h1, h2, h3]

/-- A step's PEN may fall at any place behind the well's block: the bit is none of a tie. -/
theorem penWr_view (s : State) (t v p : Nat) {c : Nat} (hc : c < 4) : (s.wr (PM_LINK t v p) PM_LINK.PEN 0).tieView t c w = s.tieView t c w := by
  have h1 : (s.wr (PM_LINK t v p) PM_LINK.PEN 0).reg (PH_TIE t) = s.reg (PH_TIE t) := reg_wr_ne _ _ _ _ _ (by simp only [PH_TIE, PM_LINK, wlBase]; omega)
  have h2 : (s.wr (PM_LINK t v p) PM_LINK.PEN 0).reg (PH_CIST t c) = s.reg (PH_CIST t c) := reg_wr_ne _ _ _ _ _ (by simp only [PH_CIST, PM_LINK, wlBase]; omega)
  have h3 : (s.wr (PM_LINK t v p) PM_LINK.PEN 0).rd (WL_TIE t w) WL_TIE.PARTNER = s.rd (WL_TIE t w) WL_TIE.PARTNER :=
    rd_wr_fld _ _ _ _ _ _ (by decide) (by decide)
  simp only [State.tieView, h1, h2, h3]

theorem wrTest_view (s : State) (t v x : Nat) (f : Fld) {c : Nat} (hc : c < 4) : (s.wr (WL_TEST t v) f x).tieView t c w = s.tieView t c w := by
  refine tieView_of_reg (reg_wr_ne _ _ _ _ _ ?_) (reg_wr_ne _ _ _ _ _ ?_) (reg_wr_ne _ _ _ _ _ ?_) <;>
    simp only [PH_TIE, PH_CIST, WL_TIE, WL_TEST, wlBase] <;> omega

theorem recentre_view (s : State) (t v : Nat) {c : Nat} (hc : c < 4) : (s.recentre t v).tieView t c w = s.tieView t c w := by
  refine tieView_of_reg (recentre_reg s fun x => ?_) (recentre_reg s fun x => ?_) (recentre_reg s fun x => ?_) <;>
    simp only [PH_TIE, PH_CIST, WL_TIE, WL_SHARE, wlBase] <;> omega

theorem testBegin_view (s : State) (t v p k : Nat) (b : Bool) {c : Nat} (hc : c < 4) : (s.testBegin t v p k b).tieView t c w = s.tieView t c w := by
  have hbegun (x : State) : State.tieView (if k = 1 ∧ s.stage t v = stVolt then x.updMo t v (fun m => { m with hystReq := true }) else x) t c w = x.tieView t c w := by
    split <;> rfl
  exact (hbegun _).trans ((recentre_view _ t v hc).trans ((penWr_view _ t v p hc).trans ((bump_view _ t v p hc).trans
    ((wrTest_view _ t v p _ hc).trans ((wrTest_view _ t v k _ hc).trans (wrTest_view s t v 2 _ hc))))))

theorem testQueued_view (s : State) (t v : Nat) {c : Nat} (hc : c < 4) : (s.testQueued t v).tieView t c w = s.tieView t c w := by
  unfold State.testQueued
  split
  · dsimp only
    generalize ite (s.stopped t = true) 0 _ = k
    split_ifs
    · rfl
    · exact (tieView_of_reg (report_reg _ _ _ _ _ _) (report_reg _ _ _ _ _ _) (report_reg _ _ _ _ _ _)).trans
        (wrTest_view (s.updTe t v (fun x => { x with queued := none })) t v 1 _ hc)
    · exact testBegin_view s t v _ k true hc
  · rfl

theorem splitTie_view (s : State) (t : Nat) {n c : Nat} (hn : n < 12) (hc : c < 4) : (s.splitTie t n).tieView t c w = (s.openTie t n).tieView t c w := by
  obtain ⟨ha, hb⟩ := tieWells_lt hn
  exact (testQueued_view _ _ _ hc).trans ((testQueued_view _ _ _ hc).trans ((afterSplit_view _ _ _ (by omega) hc).trans (afterSplit_view _ _ _ (by omega) hc)))

theorem splitTie_off (s : State) {t n : Nat} (hn : n < 12) : (s.splitTie t n).tieOn t n = false := by
  have hreg : (s.splitTie t n).reg (PH_TIE t) = (s.openTie t n).reg (PH_TIE t) := congrArg (·.1) (splitTie_view (w := 0) (c := 0) s t hn (by decide))
  rw [State.tieOn, rd_of_reg hreg]
  exact openTie_off s hn

/-- The cistern's switch no longer joins its wells. -/
theorem splitTie_parted (s : State) {t n : Nat} (hn : n < 12) : ((s.splitTie t n).rd (PH_CIST t (n / 4)) PH_CIST.TIES).testBit (n % 4) = false := by
  have hc : n / 4 < 4 := by omega
  have hreg : (s.splitTie t n).reg (PH_CIST t (n / 4)) = (s.openTie t n).reg (PH_CIST t (n / 4)) := congrArg (·.2.1) (splitTie_view (w := 0) s t hn hc)
  have hun (x : State) (v : Nat) : (x.untie t v n).reg (PH_CIST t (n / 4)) = x.reg (PH_CIST t (n / 4)) :=
    untie_reg x t v n _ (phCist_ne_wlTie t _ v (by omega))
  rw [rd_of_reg hreg, State.openTie]
  rw [rd_of_reg ((hun _ _).trans (hun _ _)), rd_wr_setBit _ _ _ (by decide) (show n % 4 < 4 by omega)]
  exact setBit_false _ _

/-- A well whose tie breaks while it moves to no other has no partner (R214). -/
theorem untie_alone (h1 : (s.sh t w).tie = some n) (h2 : (s.sh t w).newTie = none) : (s.untie t w n).rd (WL_TIE t w) WL_TIE.PARTNER = 15 := by
  have h1 : (s.well t w).sh.tie = some n := h1
  have h2 : (s.well t w).sh.newTie = none := h2
  have hfld (x : State) (f : Fld) (v : Nat) (hf : f.apart WL_TIE.PARTNER = true) :
      (x.wr (WL_TIE t w) f v).rd (WL_TIE t w) WL_TIE.PARTNER = x.rd (WL_TIE t w) WL_TIE.PARTNER := rd_wr_fld _ _ _ _ _ _ (by decide) hf
  unfold State.untie
  simp only [h1, h2, reduceCtorEq, if_false, true_or, if_true]
  exact (hfld _ WL_TIE.TIE_I 0 (by decide)).trans ((hfld _ WL_TIE.COVER 0 (by decide)).trans ((hfld _ WL_TIE.PHASE 0 (by decide)).trans
    ((hfld _ WL_TIE.ROLE 0 (by decide)).trans (rd_wr_same s _ _ 15 (by decide)))))

theorem splitTie_alone (s : State) {t n : Nat} (hn : n < 12) (h1 : (s.sh t (tieWells n).1).tie = some n) (h2 : (s.sh t (tieWells n).1).newTie = none) :
    (s.splitTie t n).tied t (tieWells n).1 = false := by
  have hp : (s.splitTie t n).rd (WL_TIE t (tieWells n).1) WL_TIE.PARTNER = (s.openTie t n).rd (WL_TIE t (tieWells n).1) WL_TIE.PARTNER :=
    congrArg (·.2.2) (splitTie_view (c := 0) s t hn (by decide))
  have hne : WL_TIE t (tieWells n).1 ≠ WL_TIE t (tieWells n).2 := by
    have := tieWells_ne n
    simp only [WL_TIE, wlBase]; omega
  have ho : (s.openTie t n).rd (WL_TIE t (tieWells n).1) WL_TIE.PARTNER = 15 :=
    (rd_of_reg (untie_reg _ t _ n _ hne) _).trans (untie_alone h1 h2)
  simp [State.tied, hp, ho]

theorem tieUnloads_of (h : s.tieUnloads t n = true) : n < 12 := by
  simp only [State.tieUnloads, Bool.and_eq_true, decide_eq_true_eq] at h
  exact h.1.1.2

theorem tieOpenE_splits (h : s.tieUnloads t n = true) (hr : 2 ≤ (s.sh t (tieWells n).1).lowRun ∨ 2 ≤ (s.sh t (tieWells n).2).lowRun) :
    s.tieOpenE t n = s.splitTie t n := by
  have hmax : 2 ≤ max (s.sh t (tieWells n).1).lowRun (s.sh t (tieWells n).2).lowRun := by omega
  simp only [State.tieOpenE, h, hmax, decide_true, Bool.and_self, if_true]

theorem tieForcedOpen_splits (h : s.tieUnloads t n = true) (hr : 16 ≤ (s.sh t (tieWells n).1).unloadN ∨ 16 ≤ (s.sh t (tieWells n).2).unloadN) :
    s.tieForcedOpen t n = (s.splitTie t n).updSh t (s.leadOf t n) (fun h => { h with forced := true }) := by
  have hmax : 16 ≤ max (s.sh t (tieWells n).1).unloadN (s.sh t (tieWells n).2).unloadN := by omega
  simp only [State.tieForcedOpen, h, hmax, decide_true, Bool.and_self, if_true]

/-! ### The acknowledge -/

theorem tieAck_off (hk : s.tileOk t = true) (hn : n < 12) : s.tieAck t n false =
    (s.wr (PH_TIE t) PH_TIE.ACK (setBit (s.rd (PH_TIE t) PH_TIE.ACK) n false)).updTile t (fun x => { x with tieOff := x.tieOff.filter (fun e => e.1 ≠ n) }) := by
  simp [State.tieAck, hk, hn]

theorem tieAck_on (hk : s.tileOk t = true) (hn : n < 12) : s.tieAck t n true =
    s.wr (PH_TIE t) PH_TIE.ACK (setBit (s.rd (PH_TIE t) PH_TIE.ACK) n true) := by
  simp [State.tieAck, hk, hn]

end

/-- Settles O44. -/
theorem tiesOpen : Obligations.TiesOpen := by
  unfold Obligations.TiesOpen
  refine ⟨fun u n s hq hk hn => ⟨?_, ?_⟩, fun u n s hk hn hon hack hc hat => ?_, fun u n s hk hn hon hl => ?_, fun u n s hk hn hc hrun => ?_,
    fun u n s hun hr => ?_, fun u n s hun hr => ?_⟩
  · have hx : exec (.tieAck u ⟨n, false⟩) s = .next (s.tieAck u n false) := done_quiet _ (by rw [tieAck_off hk hn]; exact hq)
    rw [hx, tieAck_off hk hn]
    have hack := rd_wr_setBit (s := s) (PH_TIE u) n (f := PH_TIE.ACK) false (by decide) hn
    refine ⟨_, rfl, (congrArg (Nat.testBit · n) hack).trans (setBit_false _ n), rd_wr_fld s _ _ _ _ _ (by decide) (by decide), fun e he => ?_,
      fun a ha => reg_wr_ne _ _ _ _ _ (List.mem_singleton.not.mp ha)⟩
    rw [updTile_same] at he
    simpa using (List.mem_filter.mp he).2
  · have hx : exec (.tieAck u ⟨n, true⟩) s = .next (s.tieAck u n true) := done_quiet _ (by rw [tieAck_on hk hn]; exact hq)
    rw [hx, tieAck_on hk hn]
    have hack := rd_wr_setBit (s := s) (PH_TIE u) n (f := PH_TIE.ACK) true (by decide) hn
    exact ⟨_, rfl, (congrArg (Nat.testBit · n) hack).trans (setBit_true _ n), rd_wr_fld s _ _ _ _ _ (by decide) (by decide),
      fun a ha => reg_wr_ne _ _ _ _ _ (List.mem_singleton.not.mp ha), rfl⟩
  · obtain ⟨x, hx⟩ := tieAckTimeout_closing hk hn hon hack hc hat
    refine ⟨s.tieAckTimeout u n, rfl, ?_⟩
    rw [hx]
    exact tieFaulted_again x s hn
  · refine ⟨s.tieAckTimeout u n, rfl, ?_⟩
    rw [tieAckTimeout_late hk hn hon hl]
    obtain ⟨h1, h2⟩ := tieFault_flags (s.updTile u (fun x => { x with tieOff := x.tieOff.filter (fun e => e.1 ≠ n) })) u n
    refine ⟨h1, h2, tieFault_inflight _ u n, fun a ha => ?_⟩
    simp only [List.mem_cons, List.not_mem_nil, or_false, not_or] at ha
    exact tieFault_reg _ u n a ha.1 ha.2
  · refine ⟨s.tieOvercurrent u n, rfl, ?_⟩
    rw [tieOvercurrent_acts hk hn hc hrun]
    have hst := again_stays (s := ((s.startUnload u n).tieFault u n).clearRuns u n) (tieFault_lead (s.startUnload u n) s u n)
    obtain ⟨h1, h2⟩ := tieFault_flags (s.startUnload u n) u n
    exact ⟨tieStays_faulted hst h1, tieStays_faulted hst h2, hst.2 _ (tieFault_inflight _ u n),
      (congrArg (·.2.2) (hst.1 (tieWells n).1)).trans (clearRuns_zero _ u n)⟩
  · have hn := tieUnloads_of hun
    refine ⟨s.tieOpenE u n, rfl, ?_⟩
    rw [tieOpenE_splits hun hr]
    exact ⟨splitTie_off s hn, splitTie_parted s hn, splitTie_alone s hn⟩
  · refine ⟨s.tieForcedOpen u n, rfl, ?_⟩
    rw [tieForcedOpen_splits hun hr]
    exact ⟨splitTie_off s (tieUnloads_of hun), by rw [updSh_same]⟩

end Sys2Proof.Machine

/-! PROOFS. The thermal stop: its hard part, its record and RESUME (R268-R271). -/

namespace Sys2Proof.Machine

open Sys2Proof

section
variable {s u : State} {t w p : Nat}

/-! ### The stop's state -/

theorem setStop_state {v : Nat} (hv : v < 4) : (s.setStop t v).stopState t = v :=
  (rd_wr_same s _ _ v (by decide)).trans (Nat.mod_eq_of_lt hv)

theorem setStop_reg {v b : Nat} (h : b ≠ TH_STAT t) : (s.setStop t v).reg b = s.reg b := reg_wr_ne _ _ _ _ _ h

theorem orderlyStopEnd_hard (hk : s.tileOk t = true) (hs : s.stopState t = stopOrderly) (hv : ∀ w, w < 14 → s.holdsVote t w = false) :
    s.orderlyStopEnd t = s.setStop t stopHard := by
  have hall : (List.range 14).all (fun w => !s.holdsVote t w) = true := List.all_eq_true.mpr fun w hw => by simp [hv w (List.mem_range.mp hw)]
  rw [State.orderlyStopEnd, if_pos ⟨hk, hs, hall⟩]

theorem orderlyStopEnd_waits (hw : w < 14) (hv : s.holdsVote t w = true) : s.orderlyStopEnd t = s := by
  refine if_neg fun h => ?_
  have hno := List.all_eq_true.mp h.2.2 w (List.mem_range.mpr hw)
  simp [hv] at hno

theorem orderlyTimeout_hard (hk : s.tileOk t = true) (hs : s.stopState t = stopOrderly) : s.orderlyTimeout t = s.setStop t stopHard := by
  rw [State.orderlyTimeout, if_pos ⟨hk, hs⟩]

/-! ### A well whose pumps fall (R269) -/

/-- A pump with PEN low and out of service. -/
def State.pumpFallen (s : State) (t w p : Nat) : Prop := s.flag (PM_LINK t w p) PM_LINK.PEN = false ∧ s.inService t w p = false

theorem pumpFallen_of_reg (h1 : u.reg (PM_LINK t w p) = s.reg (PM_LINK t w p)) (h2 : u.reg (PM_STAT t w p) = s.reg (PM_STAT t w p))
    (h : s.pumpFallen t w p) : u.pumpFallen t w p := by
  obtain ⟨hp, hs⟩ := h
  refine ⟨(flag_of_reg h1 _).trans hp, ?_⟩
  simpa only [State.inService, State.service, rd_of_reg h2] using hs

theorem inService_off (h : s.service t w p = 0) : s.inService t w p = false := by simp [State.inService, h]

theorem penLow_out (s : State) (t w p : Nat) : (s.penLow t w p).pumpFallen t w p := by
  refine ⟨penLow_pen s t w p, ?_⟩
  unfold State.penLow
  dsimp only
  split_ifs with h
  · have hz : ((((s.wr (PM_LINK t w p) PM_LINK.PEN 0).wr (PM_STAT t w p) PM_STAT.REARM_PEND 0)).setService t w p 0).service t w p = 0 :=
      rd_wr_same _ _ _ 0 (by decide)
    exact inService_off hz
  · exact Bool.eq_false_iff.mpr h

/-- The ties of a core well reach core wells alone. -/
theorem openTies_reg_core (s : State) (t w b : Nat) (h1 : b ≠ PH_TIE t) (h2 : ∀ c, c < 3 → b ≠ PH_CIST t c) (h3 : ∀ v, v < 12 → b ≠ WL_TIE t v) :
    (s.openTies t w).reg b = s.reg b := by
  unfold State.openTies
  split_ifs with hw
  · refine each_mem_keeps (fun u => u.reg b) _ (fun u n => if u.tieOn t n then u.openTie t n else u) (fun u n hn => ?_) s
    have hn12 := wellTies_lt hw hn
    have hlt := tieWells_lt hn12
    split_ifs
    · exact openTie_reg u t n b h1 (h2 _ (by omega)) (h3 _ hlt.1) (h3 _ hlt.2)
    · rfl
  · rfl

theorem dropWell_reg {b : Nat} (hp : ∀ p, p < 4 → b ≠ PM_LINK t w p ∧ b ≠ PM_STAT t w p) (h1 : b ≠ PH_TIE t)
    (h2 : ∀ c, c < 3 → b ≠ PH_CIST t c) (h3 : ∀ v, v < 12 → b ≠ WL_TIE t v) : (s.dropWell t w).reg b = s.reg b :=
  (openTies_reg_core _ t w b h1 h2 h3).trans (each_mem_keeps (fun u => u.reg b) _ (fun u p => u.penLow t w p)
    (fun u p hmem => penLow_reg u t w p b (hp p (pumpsOf_lt s hmem)).1 (hp p (pumpsOf_lt s hmem)).2) s)

theorem dropWell_img (w : Nat) : (s.dropWell t w).img = s.img ∧ (s.dropWell t w).fuses = s.fuses ∧ (s.dropWell t w).clusters = s.clusters ∧
    (s.dropWell t w).rcd = s.rcd := by
  have hun (x : State) (v n : Nat) : ((x.untie t v n).img, (x.untie t v n).fuses, (x.untie t v n).clusters, (x.untie t v n).rcd) = (x.img, x.fuses, x.clusters, x.rcd) := by
    unfold State.untie
    dsimp only
    split_ifs
    · rfl
    · split <;> rfl
    · rfl
  have hties (x : State) : ((x.openTies t w).img, (x.openTies t w).fuses, (x.openTies t w).clusters, (x.openTies t w).rcd) = (x.img, x.fuses, x.clusters, x.rcd) := by
    unfold State.openTies
    split_ifs
    · refine each_keeps (fun u => (u.img, u.fuses, u.clusters, u.rcd)) _ (fun u n => if u.tieOn t n then u.openTie t n else u) (fun u n => ?_) x
      split_ifs
      · exact (hun _ _ _).trans (hun _ _ _)
      · rfl
    · rfl
  have hpens : _ = (s.img, s.fuses, s.clusters, s.rcd) := each_keeps (fun u => (u.img, u.fuses, u.clusters, u.rcd)) (s.pumpsOf t w) (fun u p => u.penLow t w p)
    (fun u p => by unfold State.penLow; dsimp only; split_ifs <;> rfl) s
  have hall := (hties _).trans hpens
  exact ⟨congrArg (·.1) hall, congrArg (·.2.1) hall, congrArg (·.2.2.1) hall, congrArg (·.2.2.2) hall⟩

theorem dropWell_installed (v : Nat) : (s.dropWell t v).installed t w = s.installed t w := by
  obtain ⟨h1, h2, -⟩ := dropWell_img (s := s) (t := t) v
  simp only [State.installed, State.topoWord, h1, h2]

theorem dropWell_out (hw : w < 14) (hp : p < s.installed t w) : (s.dropWell t w).pumpFallen t w p := by
  have hp4 : p < 4 := Nat.lt_of_lt_of_le hp (installed_le s t w)
  have hpens : State.pumpFallen (s.each (s.pumpsOf t w) (fun u p => u.penLow t w p)) t w p :=
    each_range_brings (fun _ => True) (fun u => u.pumpFallen t w p) (fun u p => u.penLow t w p) hp (fun u _ => penLow_out u t w p) (fun _ _ _ _ _ => trivial)
      (fun u q _ hq h => pumpFallen_of_reg (penLow_reg u t w q _ (link_ne_link hq.symm) (link_ne_stat t w p q))
        (penLow_reg u t w q _ (link_ne_stat t w q p).symm (stat_ne_stat hq.symm)) h) s trivial
  refine pumpFallen_of_reg (openTies_reg _ t w _ ?_ ?_ ?_) (openTies_reg _ t w _ ?_ ?_ ?_) hpens <;>
    simp only [PM_LINK, PM_STAT, PH_TIE, PH_CIST, WL_TIE, wlBase] <;> intros <;> omega

/-! ### The hard stop -/

/-- The gates that the hard stop closes, and the pumps that fall. -/
def State.hardGates (s : State) (t : Nat) : State := s.each (List.range 96) (fun u k => u.gateOn t k PH_CLPWR.C_THERM)
def State.hardDrops (s : State) (t : Nat) : State := s.each (List.range 14) (fun u w => if u.stage t w = stDry then u else u.dropWell t w)
def State.hardStopped (s : State) (t : Nat) : State :=
  let s3 := ((s.hardGates t).hardDrops t).stopApply.updTh t (fun h => { h with dropped := true, hardAo := s.reg HD_AO_TIME })
  { s3 with gov := { s3.gov with skipWins := (s.clk.beat / 4096) :: s3.gov.skipWins.filter (· ≠ s.clk.beat / 4096) } }

theorem hardStop_drops (hk : s.tileOk t = true) (hs : s.stopState t = stopHard) (hd : (s.tile t).th.dropped = false) : s.hardStop t = s.hardStopped t := by
  rw [State.hardStop, if_pos ⟨hk, hs, hd⟩]
  rfl

theorem stopApply_keeps {β : Type} (π : State → β) (h : ∀ u f, π (State.updLoad u f) = π u) : π s.stopApply = π s := by
  unfold State.stopApply
  split
  · exact h s _
  · rfl

theorem hardDrops_reg {b : Nat} (hp : ∀ w p, w < 14 → p < 4 → b ≠ PM_LINK t w p ∧ b ≠ PM_STAT t w p) (h1 : b ≠ PH_TIE t)
    (h2 : ∀ c, c < 3 → b ≠ PH_CIST t c) (h3 : ∀ v, v < 12 → b ≠ WL_TIE t v) : (s.hardDrops t).reg b = s.reg b := by
  refine each_mem_keeps (fun u => u.reg b) (List.range 14) (fun u w => if u.stage t w = stDry then u else u.dropWell t w) (fun u w hw => ?_) s
  split
  · rfl
  · exact dropWell_reg (fun p => hp w p (List.mem_range.mp hw)) h1 h2 h3

theorem hardDrops_clusters : (s.hardDrops t).clusters = s.clusters := by
  refine each_keeps State.clusters (List.range 14) (fun u w => if u.stage t w = stDry then u else u.dropWell t w) (fun u w => ?_) s
  split
  · rfl
  · exact (dropWell_img w).2.2.1

theorem hardDrops_fault : (s.hardDrops t).fault = s.fault := by
  refine each_keeps State.fault (List.range 14) (fun u w => if u.stage t w = stDry then u else u.dropWell t w) (fun u w => ?_) s
  split
  · rfl
  · exact dropWell_fault w

theorem hardDrops_out (hw : w < 14) (hstage : s.stage t w ≠ stDry) (hp : p < s.installed t w) : (s.hardDrops t).pumpFallen t w p := by
  have hp4 : p < 4 := Nat.lt_of_lt_of_le hp (installed_le s t w)
  have hreg (u : State) {v b : Nat} (hv : v < 14) (hb : b = WL_SETPT t w ∨ v ≠ w ∧ (b = PM_LINK t w p ∨ b = PM_STAT t w p)) :
      State.reg (if u.stage t v = stDry then u else u.dropWell t v) b = u.reg b := by
    split
    · rfl
    · refine dropWell_reg (fun q hq => ?_) ?_ (fun c hc => ?_) (fun x hx => ?_) <;> rcases hb with hb | ⟨hvw, hb | hb⟩ <;>
        simp only [hb, WL_SETPT, PM_LINK, PM_STAT, PH_TIE, PH_CIST, WL_TIE, wlBase] <;> omega
  have hinst (u : State) (v : Nat) : State.installed (if u.stage t v = stDry then u else u.dropWell t v) t w = u.installed t w := by
    split
    · rfl
    · exact dropWell_installed v
  refine each_range_brings (fun u => u.stage t w ≠ stDry ∧ p < u.installed t w) (fun u => u.pumpFallen t w p)
    (fun u w => if u.stage t w = stDry then u else u.dropWell t w) hw (fun u h => ?_) (fun u v hv hvw h => ?_) (fun u v hv hvw h => ?_) s ⟨hstage, hp⟩
  · show State.pumpFallen (if u.stage t w = stDry then u else u.dropWell t w) t w p
    rw [if_neg h.1]
    exact dropWell_out hw h.2
  · refine ⟨?_, (hinst u v).symm ▸ h.2⟩
    exact fun hd => h.1 ((rd_of_reg (hreg u hv (Or.inl rfl)) _).symm.trans hd)
  · exact pumpFallen_of_reg (hreg u hv (Or.inr ⟨hvw, Or.inl rfl⟩)) (hreg u hv (Or.inr ⟨hvw, Or.inr rfl⟩)) h

/-- A cluster that the hard stop has gated. -/
def State.gatedHot (s : State) (t k : Nat) : Prop :=
  (s.cluster t k).goff = true ∧ (s.cluster t k).greq = true ∧ s.flag (PH_CLPWR t k) PH_CLPWR.C_THERM = true

theorem gateOn_gatedHot (s : State) (t k : Nat) : (s.gateOn t k PH_CLPWR.C_THERM).gatedHot t k := by
  have hflag : (s.gateOn t k PH_CLPWR.C_THERM).flag (PH_CLPWR t k) PH_CLPWR.C_THERM = true :=
    (flag_wr_fld _ _ _ _ _ _ (by decide) (by decide)).trans ((flag_wr_fld _ _ _ _ _ _ (by decide) (by decide)).trans (flag_wr_one _ _ _ (by decide)))
  exact ⟨by simp [State.gateOn, State.updCl, State.setCluster, State.cluster], by simp [State.gateOn, State.updCl, State.setCluster, State.cluster], hflag⟩

theorem hardGates_gated {k : Nat} (hk : k < 96) : (s.hardGates t).gatedHot t k := by
  refine each_range_brings (fun _ => True) (fun u => u.gatedHot t k) (fun u k => u.gateOn t k PH_CLPWR.C_THERM) hk (fun u _ => gateOn_gatedHot u t k)
    (fun _ _ _ _ _ => trivial) (fun u j hj hjk h => ?_) s trivial
  obtain ⟨h1, h2, h3⟩ := h
  have hreg : (u.gateOn t j PH_CLPWR.C_THERM).reg (PH_CLPWR t k) = u.reg (PH_CLPWR t k) := gateOn_reg u t j _ _ (by simp only [PH_CLPWR]; omega)
  have hcl : (u.gateOn t j PH_CLPWR.C_THERM).cluster t k = u.cluster t k := by
    simp [State.gateOn, State.updCl, State.setCluster, State.cluster, tget_tset, hjk.symm]
  exact ⟨by rw [hcl]; exact h1, by rw [hcl]; exact h2, (flag_of_reg hreg _).trans h3⟩

theorem hardGates_reg {b : Nat} (h : ∀ k, k < 96 → b ≠ PH_CLPWR t k) : (s.hardGates t).reg b = s.reg b :=
  each_mem_keeps (fun u => u.reg b) _ (fun u k => u.gateOn t k PH_CLPWR.C_THERM) (fun u k hk => gateOn_reg u t k _ b (h k (List.mem_range.mp hk))) s

theorem hardGates_keeps {β : Type} (π : State → β) (h : ∀ u k, π (State.gateOn u t k PH_CLPWR.C_THERM) = π u) : π (s.hardGates t) = π s :=
  each_keeps π _ (fun u k => u.gateOn t k PH_CLPWR.C_THERM) h s

theorem hardStopped_reg (b : Nat) : (s.hardStopped t).reg b = ((s.hardGates t).hardDrops t).reg b := by
  unfold State.hardStopped
  generalize (s.hardGates t).hardDrops t = u
  exact stopApply_keeps (s := u) (fun u => u.reg b) (fun _ _ => rfl)

theorem hardStopped_clusters : (s.hardStopped t).clusters = ((s.hardGates t).hardDrops t).clusters := by
  unfold State.hardStopped
  generalize (s.hardGates t).hardDrops t = u
  exact stopApply_keeps (s := u) State.clusters (fun _ _ => rfl)

theorem hardStopped_fault : (s.hardStopped t).fault = s.fault := by
  have hdrop : ((s.hardGates t).hardDrops t).fault = s.fault := hardDrops_fault.trans (hardGates_keeps State.fault fun _ _ => rfl)
  unfold State.hardStopped
  generalize (s.hardGates t).hardDrops t = u at hdrop
  exact (stopApply_keeps (s := u) State.fault (fun _ _ => rfl)).trans hdrop

theorem hardStopped_gated {k : Nat} (hk : k < 96) : (s.hardStopped t).gatedHot t k := by
  obtain ⟨h1, h2, h3⟩ := hardGates_gated (s := s) (t := t) hk
  have hcl : (s.hardStopped t).cluster t k = (s.hardGates t).cluster t k := by
    have hc : (s.hardStopped t).clusters = (s.hardGates t).clusters := hardStopped_clusters.trans hardDrops_clusters
    simp only [State.cluster, hc]
  have hreg : (s.hardStopped t).reg (PH_CLPWR t k) = (s.hardGates t).reg (PH_CLPWR t k) := by
    refine (hardStopped_reg _).trans (hardDrops_reg ?_ ?_ ?_ ?_) <;>
      simp only [PH_CLPWR, PM_LINK, PM_STAT, PH_TIE, PH_CIST, WL_TIE, wlBase] <;> intros <;> omega
  exact ⟨by rw [hcl]; exact h1, by rw [hcl]; exact h2, (flag_of_reg hreg _).trans h3⟩

theorem hardStopped_out (hw : w < 14) (hstage : s.stage t w ≠ stDry) (hp : p < s.installed t w) : (s.hardStopped t).pumpFallen t w p := by
  have hst : (s.hardGates t).stage t w = s.stage t w :=
    rd_of_reg (hardGates_reg fun k hk => by simp only [WL_SETPT, PH_CLPWR, wlBase]; omega) _
  have hinst : (s.hardGates t).installed t w = s.installed t w := hardGates_keeps (fun u => u.installed t w) fun _ _ => rfl
  exact pumpFallen_of_reg (hardStopped_reg _) (hardStopped_reg _) (hardDrops_out hw (hst.symm ▸ hstage) (hinst.symm ▸ hp))

theorem hardStopped_keeper (p : Nat) : (s.hardStopped t).reg (PM_LINK t 14 p) = s.reg (PM_LINK t 14 p) := by
  refine (hardStopped_reg _).trans ((hardDrops_reg ?_ ?_ ?_ ?_).trans (hardGates_reg fun k hk => ?_)) <;>
    simp only [PH_CLPWR, PM_LINK, PM_STAT, PH_TIE, PH_CIST, WL_TIE, wlBase] <;> intros <;> omega

theorem hardStopped_state : (s.hardStopped t).stopState t = s.stopState t := by
  refine rd_of_reg ((hardStopped_reg _).trans ((hardDrops_reg ?_ ?_ ?_ ?_).trans (hardGates_reg fun k hk => ?_))) _ <;>
    simp only [TH_STAT, PH_CLPWR, PM_LINK, PM_STAT, PH_TIE, PH_CIST, WL_TIE, wlBase] <;> intros <;> omega

theorem hardStopped_dropped : ((s.hardStopped t).tile t).th.dropped = true := by
  unfold State.hardStopped
  generalize (s.hardGates t).hardDrops t = u
  exact congrArg (fun x : TileX => x.th.dropped) (updTile_same u.stopApply t (fun x => { x with th := { x.th with dropped := true, hardAo := s.reg HD_AO_TIME } }))

end

end Sys2Proof.Machine

/-! PROOFS. The end of a thermal stop: its record, and RESUME (R270, R271). -/

namespace Sys2Proof.Machine

open Sys2Proof

section
variable {s u : State} {t w : Nat}

/-! ### The record of a stop -/

/-- The registers that a record in the queue, and a port's error, may touch. -/
theorem enq_queue_of_few (s : State) (r : Rec) (hf : s.flag ER_STAT ER_STAT.NOFLASH = false) (hl : s.rcd.queue.length < 28) :
    s.enq r = (s.setQueue (s.rcd.queue ++ [r])).restart := by
  refine enq_place s r hf ?_
  have hfilter := List.length_filter_le (fun q => !q.reserved) s.rcd.queue
  simp only [State.hasPlace, Bool.and_eq_true, Bool.or_eq_true, decide_eq_true_eq]
  exact ⟨by omega, Or.inr (by omega)⟩

theorem queued_noflash (s : State) (q : List Rec) : (s.setQueue q).restart.flag ER_STAT ER_STAT.NOFLASH = s.flag ER_STAT ER_STAT.NOFLASH :=
  (restart_flag _ _ _).trans (setQueue_flag_fld s q _ (by decide) (by decide))

theorem queued_queue (s : State) (q : List Rec) : (s.setQueue q).restart.rcd.queue = q := by rw [restart_rcd, setQueue_queue]

/-- The two parts of a stop's record stand in an empty queue (R270). -/
theorem stopRecord_queue (hf : s.flag ER_STAT ER_STAT.NOFLASH = false) (hq : s.rcd.queue = []) :
    (s.stopRecord t).rcd.queue.map (fun r => (r.type, r.part, r.tile)) = [(4, 0, t), (4, 1, t)] := by
  unfold State.stopRecord
  dsimp only
  have hf0 : (s.updTh t (fun h => { h with partLost := false })).flag ER_STAT ER_STAT.NOFLASH = false := hf
  have hq0 : (s.updTh t (fun h => { h with partLost := false })).rcd.queue = [] := hq
  generalize s.updTh t (fun h => { h with partLost := false }) = u at hf0 hq0
  rw [enq_queue_of_few u _ hf0 (by rw [hq0]; decide), enq_queue_of_few _ _ ((queued_noflash u _).trans hf0)
    (by rw [queued_queue, hq0]; exact Nat.le_of_ble_eq_true rfl), queued_queue, queued_queue, hq0]
  rfl

/-! ### Wells and requests of the tile that stopped -/

/-- What the answers to waiting reads leave. -/
def State.stopView (s : State) (t : Nat) : List Rec × Word := (s.rcd.queue, s.reg (TH_STAT t))

theorem stopView_of (h1 : u.rcd = s.rcd) (h2 : u.reg (TH_STAT t) = s.reg (TH_STAT t)) : u.stopView t = s.stopView t := by
  simp only [State.stopView, h1, h2]

theorem thStat_notSide (t : Nat) : TH_STAT t ∉ sideRegs := by
  simp only [sideRegs, TH_STAT, phBase, ER_STAT, IC_SAT_ADDR, IC_SRC, HD_PWR_STAT, List.mem_cons, List.not_mem_nil, or_false]
  omega

theorem bumpFld_port_view : (s.bumpFld HD_PORT_STAT HD_PORT_STAT.ERRORS).stopView t = s.stopView t := by
  have hne : TH_STAT t ≠ HD_PORT_STAT := by simp only [TH_STAT, phBase, HD_PORT_STAT]; omega
  have hstuck (x : State) : (x.stuck HD_PORT_STAT).stopView t = x.stopView t := by
    simp only [State.stopView, stuck_queue, stuck_reg x _ _ (thStat_notSide t)]
  unfold State.bumpFld
  dsimp only
  split_ifs
  · rfl
  · exact (hstuck _).trans (stopView_of rfl (reg_wr_ne _ _ _ _ _ hne))
  · exact stopView_of rfl (reg_wr_ne _ _ _ _ _ hne)

theorem portError_view (a c : Nat) : (s.portError a c).stopView t = s.stopView t := by
  have hne : TH_STAT t ≠ HD_PORT_STAT := by simp only [TH_STAT, phBase, HD_PORT_STAT]; omega
  have hwr (x : State) (f : Fld) (v : Nat) : (x.wr HD_PORT_STAT f v).stopView t = x.stopView t := stopView_of rfl (reg_wr_ne _ _ _ _ _ hne)
  unfold State.portError
  dsimp only [State.on]
  split_ifs
  · rfl
  · exact (hwr _ _ _).trans (bumpFld_port_view.trans ((hwr _ _ _).trans (hwr _ _ _)))
  · exact bumpFld_port_view.trans ((hwr _ _ _).trans (hwr _ _ _))

theorem drainN_view (n : Nat) (s : State) : (State.drainN n s).stopView t = s.stopView t := by
  induction n generalizing s with
  | zero => rfl
  | succ n ih =>
    unfold State.drainN
    split
    · rfl
    · split
      · rfl
      · exact (ih _).trans (portError_view _ _)

theorem primeViewOf_rcd (w : Nat) : (s.primeViewOf t w).rcd = s.rcd := by
  unfold State.primeViewOf State.primeView
  split <;> rfl

theorem thStat_apart (t : Nat) {w : Nat} (hw : w < 15) : TH_STAT t ≠ WL_SETPT t w ∧ TH_STAT t ≠ WL_TRACK t w ∧ TH_STAT t ≠ WL_PROF_STAT t w ∧
    TH_STAT t ≠ AD_WIN t w ∧ TH_STAT t ≠ WL_VOTE t w ∧ TH_STAT t ≠ WL_TIE t w := by
  simp only [TH_STAT, WL_SETPT, WL_TRACK, WL_PROF_STAT, AD_WIN, WL_VOTE, WL_TIE, wlBase]
  omega

theorem unprime_view (hw : w < 14) : (s.unprime t w).stopView t = s.stopView t := by
  obtain ⟨hset, htrack, -, had, -, -⟩ := thStat_apart t (Nat.lt_succ_of_lt hw)
  have htracks (x : State) : (x.endTracks t w).stopView t = x.stopView t := by
    refine stopView_of ?_ (endTracks_reg x t w _ (fun v hv => (thStat_apart t hv).2.1) (fun v hv => (thStat_apart t hv).2.2.1))
    refine each_keeps State.rcd (x.followersOf t w) _ (fun u f => ?_) x
    rfl
  have hwr (x : State) {a : Nat} (f : Fld) (v : Nat) (h : TH_STAT t ≠ a) : (x.wr a f v).stopView t = x.stopView t := stopView_of rfl (reg_wr_ne _ _ _ _ _ h)
  have hprime (x : State) : (x.primeViewOf t w).stopView t = x.stopView t :=
    stopView_of (primeViewOf_rcd w) (primeViewOf_reg x t w _ fun c hc => by simp only [TH_STAT, PH_PRIME]; omega)
  have hpumps (x : State) (l : List Nat) : (x.each l (fun u p => u.updPump t w p (fun q => { q with measuring := false }))).stopView t = x.stopView t := by
    refine each_keeps (fun u => u.stopView t) l _ (fun u p => ?_) x
    rfl
  unfold State.unprime
  split
  · exact (hprime _).trans ((hpumps _ _).trans ((hwr _ _ _ htrack).trans ((hwr _ _ _ had).trans ((htracks _).trans (hwr s _ _ hset)))))
  · rfl

theorem dropWell_view (w : Nat) : (s.dropWell t w).stopView t = s.stopView t := by
  refine stopView_of (dropWell_img w).2.2.2 (dropWell_reg ?_ ?_ ?_ ?_) <;>
    simp only [TH_STAT, PM_LINK, PM_STAT, PH_TIE, PH_CIST, WL_TIE, wlBase] <;> intros <;> omega

theorem report_view (w op : Nat) (ok : Bool) : (s.report t w op ok).stopView t = s.stopView t := by
  refine stopView_of (each_keeps State.rcd _ _ (fun u n => ?_) s) (report_reg _ _ _ _ _ _)
  dsimp only
  split <;> rfl

theorem wakeFail_view (hw : w < 14) : (s.wakeFail t w).stopView t = s.stopView t :=
  stopView_of rfl (reg_wr_ne _ _ _ _ _ (thStat_apart t (Nat.lt_succ_of_lt hw)).2.2.2.2.1)

/-- What stopping a tile does to a well of it: its waiting instructions are told, a priming that waits fails (R271, R320). -/
def State.stopTold (s : State) (t w : Nat) : State := ((s.report t w 0x4 false).report t w 0x5 false).updMo t w (fun m => { m with handReq := false })
def State.stopWoken (s : State) (t w : Nat) : State := if (s.mo t w).waking then (s.wakeFail t w).updMo t w (fun m => { m with waking := false }) else s
def State.stopWell (s : State) (t w : Nat) : State :=
  let u1 := s.stopTold t w
  if u1.stage t w == stCal || u1.stage t w == stWait then ((u1.stopWoken t w).unprime t w).updMo t w (fun m => { m with safePrime := false })
  else if (u1.mo t w).waking then (u1.stopWoken t w).dropWell t w else u1.stopWoken t w

theorem stopWells_eq (s : State) (t : Nat) : s.stopWells t = s.each (List.range 14) (fun u w => u.stopWell t w) := rfl

theorem updMo_stopView (w : Nat) (f : Motion → Motion) : (s.updMo t w f).stopView t = s.stopView t := rfl

theorem stopTold_view (w : Nat) : (s.stopTold t w).stopView t = s.stopView t :=
  (updMo_stopView w _).trans ((report_view w 5 false).trans (report_view w 4 false))

theorem stopWoken_view (hw : w < 14) : (s.stopWoken t w).stopView t = s.stopView t := by
  unfold State.stopWoken
  split
  · exact (updMo_stopView w _).trans (wakeFail_view hw)
  · rfl

/-- A stop makes no record but its own, and STOP stands, whatever its wells do. -/
theorem stopWells_view : (s.stopWells t).stopView t = s.stopView t := by
  rw [stopWells_eq]
  refine each_mem_keeps (fun u => u.stopView t) (List.range 14) (fun u w => u.stopWell t w) (fun u w hw => ?_) s
  have hw : w < 14 := List.mem_range.mp hw
  have hwoken : ((u.stopTold t w).stopWoken t w).stopView t = u.stopView t := (stopWoken_view hw).trans (stopTold_view w)
  dsimp only [State.stopWell]
  split_ifs
  · exact (updMo_stopView w _).trans ((unprime_view hw).trans hwoken)
  · exact (dropWell_view w).trans hwoken
  · exact hwoken

theorem stopRecordSent_stops (hk : s.tileOk t = true) (hs : s.stopState t = stopHard) (hd : (s.tile t).th.dropped = true) :
    s.stopRecordSent t = (((s.stopRecord t).setStop t stopStopped).stopWells t).drain := by
  rw [State.stopRecordSent, if_pos ⟨hk, hs, hd⟩]

theorem stopRecordSent_view (hk : s.tileOk t = true) (hs : s.stopState t = stopHard) (hd : (s.tile t).th.dropped = true) :
    (s.stopRecordSent t).stopView t = ((s.stopRecord t).setStop t stopStopped).stopView t := by
  rw [stopRecordSent_stops hk hs hd]
  exact (drainN_view _ _).trans stopWells_view

/-! ### RESUME (R271) -/

/-- An accepted RESUME with the throttle of its wells at 0. -/
def State.unthrottled (s : State) (t : Nat) : State := (s.setStop t stopRun).each (List.range 12) (fun u w => u.setTherm t w 0)

theorem resumeNow_eq (s : State) (t : Nat) : s.resumeNow t = (s.unthrottled t).each (List.range 96) (fun u k => u.gateOff t k PH_CLPWR.C_THERM) := rfl

theorem thCtrlWrite_resumes {d : Word} (hd : TH_CTRL.RESUME.get d = 1) (hc : TH_CTRL.CLR_PEAK.get d = 0) (hm : s.mayResume t = true) :
    s.thCtrlWrite t d = s.resumeNow t := by simp [State.thCtrlWrite, hd, hc, hm]

theorem thCtrlWrite_refuses {d : Word} (hd : TH_CTRL.RESUME.get d = 1) (hc : TH_CTRL.CLR_PEAK.get d = 0) (hm : s.mayResume t = false) :
    s.thCtrlWrite t d = s.wr (TH_STAT t) TH_STAT.REFUSED 1 := by simp [State.thCtrlWrite, hd, hc, hm]

theorem setTherm_reg {r b : Nat} (h : b ≠ TH_REST t) : (s.setTherm t w r).reg b = s.reg b := reg_wr_ne _ _ _ _ _ h

theorem setTherm_same (r : Nat) : (s.setTherm t w r).therm t w = r := by
  show (State.sh (State.updSh _ t w _) t w).th.want = r
  rw [updSh_same]
  unfold Rest.decide
  dsimp only
  split_ifs with h
  · exact h.symm
  · rfl

theorem setTherm_other {v r : Nat} (h : w ≠ v) : (s.setTherm t v r).therm t w = s.therm t w :=
  congrArg (fun h : ShareX => h.th.want) (updSh_ne (s := s.wr (TH_REST t) ⟨4 * v + 3, 4 * v⟩ r) _ h)

theorem unthrottled_reg {b : Nat} (h1 : b ≠ TH_STAT t) (h2 : b ≠ TH_REST t) : (s.unthrottled t).reg b = s.reg b :=
  (each_keeps (fun u => u.reg b) (List.range 12) (fun u w => u.setTherm t w 0) (fun _ _ => setTherm_reg h2) _).trans (setStop_reg h1)

theorem unthrottled_state : (s.unthrottled t).stopState t = stopRun :=
  (each_keeps (fun u => u.stopState t) (List.range 12) (fun u w => u.setTherm t w 0)
    (fun u w => rd_of_reg (setTherm_reg (s := u) (by simp only [TH_STAT, TH_REST]; omega)) _) _).trans (setStop_state (by decide))

theorem unthrottled_therm (hw : w < 12) : (s.unthrottled t).therm t w = 0 :=
  each_range_brings (fun _ => True) (fun u => u.therm t w = 0) (fun u w => u.setTherm t w 0) hw (fun _ _ => setTherm_same 0) (fun _ _ _ _ _ => trivial)
    (fun _ _ _ hv h => (setTherm_other hv.symm).trans h) _ trivial

theorem gateOff_reg {k b : Nat} (f : Fld) (h : b ≠ PH_CLPWR t k) : (s.gateOff t k f).reg b = s.reg b := reg_wr_ne _ _ _ _ _ h

theorem resumeNow_reg {b : Nat} (h : ∀ k, k < 96 → b ≠ PH_CLPWR t k) : (s.resumeNow t).reg b = (s.unthrottled t).reg b :=
  each_mem_keeps (fun u => u.reg b) (List.range 96) (fun u k => u.gateOff t k PH_CLPWR.C_THERM) (fun _ k hk => gateOff_reg _ (h k (List.mem_range.mp hk))) _

theorem resumeNow_state : (s.resumeNow t).stopState t = stopRun := by
  have hreg : (s.resumeNow t).reg (TH_STAT t) = (s.unthrottled t).reg (TH_STAT t) := resumeNow_reg fun k hk => by simp only [TH_STAT, PH_CLPWR]; omega
  exact (rd_of_reg hreg _).trans unthrottled_state

theorem resumeNow_ungated {k : Nat} (hk : k < 96) : (s.resumeNow t).flag (PH_CLPWR t k) PH_CLPWR.C_THERM = false :=
  each_range_brings (fun _ => True) (fun u => u.flag (PH_CLPWR t k) PH_CLPWR.C_THERM = false) (fun u k => u.gateOff t k PH_CLPWR.C_THERM) hk
    (fun _ _ => flag_wr_zero _ _ _ (by decide)) (fun _ _ _ _ _ => trivial)
    (fun _ j _ hj h => (flag_of_reg (gateOff_reg _ (by simp only [PH_CLPWR]; omega)) _).trans h) _ trivial

theorem resumeNow_keeps {β : Type} (π : State → β) (h1 : ∀ u a f v, π (State.wr u a f v) = π u) (h2 : ∀ u w f, π (State.updSh u t w f) = π u) :
    π (s.resumeNow t) = π s :=
  (each_keeps π (List.range 96) (fun u k => u.gateOff t k PH_CLPWR.C_THERM) (fun _ _ => h1 _ _ _ _) _).trans
    ((each_keeps π (List.range 12) (fun u w => u.setTherm t w 0) (fun _ _ => (h2 _ _ _).trans (h1 _ _ _ _)) _).trans (h1 s _ _ _))

theorem resumeNow_therm (hw : w < 12) : (s.resumeNow t).therm t w = 0 :=
  (each_keeps (fun u => u.therm t w) (List.range 96) (fun u k => u.gateOff t k PH_CLPWR.C_THERM) (fun _ _ => rfl) _).trans (unthrottled_therm hw)

end

/-- Settles O49. -/
theorem thermalStops : Obligations.ThermalStops := by
  unfold Obligations.ThermalStops
  refine ⟨fun u s hq hk hs => ⟨fun hv => ?_, fun w hw hv => ?_, ?_⟩, fun u s hq hk hs hd => ?_, fun u s hk hs hd hf hr => ?_,
    fun u d s hq hal hu ht hd hc => ⟨fun hm => ?_, fun hm => ?_⟩⟩
  · have hx : exec (.orderlyStopEnd u) s = .next (s.orderlyStopEnd u) := done_quiet _ (by rw [orderlyStopEnd_hard hk hs hv]; exact hq)
    rw [hx, orderlyStopEnd_hard hk hs hv]
    exact ⟨_, rfl, setStop_state (by decide), fun a ha => setStop_reg (List.mem_singleton.not.mp ha), rfl⟩
  · have hx : exec (.orderlyStopEnd u) s = .next (s.orderlyStopEnd u) := done_quiet _ (by rw [orderlyStopEnd_waits hw hv]; exact hq)
    rw [hx, orderlyStopEnd_waits hw hv]
  · have hx : exec (.orderlyTimeout u) s = .next (s.orderlyTimeout u) := done_quiet _ (by rw [orderlyTimeout_hard hk hs]; exact hq)
    rw [hx, orderlyTimeout_hard hk hs]
    exact ⟨_, rfl, setStop_state (by decide), fun a ha => setStop_reg (List.mem_singleton.not.mp ha), rfl⟩
  · have hx : exec (.hardStop u) s = .next (s.hardStop u) :=
      done_quiet _ (by rw [hardStop_drops hk hs hd]; exact (congrArg (·.now) hardStopped_fault : _ = s.fault.now).trans hq)
    rw [hx, hardStop_drops hk hs hd]
    exact ⟨_, rfl, hardStopped_dropped, fun k hk => hardStopped_gated hk, fun w p hw hst hp => hardStopped_out hw hst hp, hardStopped_keeper,
      hardStopped_state.trans hs⟩
  · have hv := stopRecordSent_view hk hs hd
    refine ⟨s.stopRecordSent u, rfl, ?_, ?_⟩
    · exact (rd_of_reg (congrArg (·.2) hv) _).trans (setStop_state (by decide))
    · rw [show (s.stopRecordSent u).rcd.queue = (s.stopRecord u).rcd.queue from congrArg (·.1) hv]
      exact stopRecord_queue hf hr
  · have hfault : (s.resumeNow u).fault = s.fault := resumeNow_keeps State.fault (fun _ _ _ _ => rfl) (fun _ _ _ => rfl)
    have hal' : (s.resumeNow u).alone := (resumeNow_keeps State.alone (fun _ _ _ _ => rfl) (fun _ _ _ => rfl) : (s.resumeNow u).alone = s.alone) ▸ hal
    have hx := hostOp_effect (show exec (.resume u d) s = hostOp s (TH_CTRL u) d (·.thCtrlWrite u d) from rfl) ht (thCtrlWrite_resumes hd hc hm) hal'
      ((congrArg (·.now) hfault : _ = s.fault.now).trans hq)
    have hstate : (s.resumeNow u).stopState u = stopRun := resumeNow_state
    have htherm : ∀ w, w < 12 → (s.resumeNow u).therm u w = 0 := fun w hw => resumeNow_therm hw
    have hgates : ∀ k, k < 96 → (s.resumeNow u).flag (PH_CLPWR u k) PH_CLPWR.C_THERM = false := fun k hk => resumeNow_ungated hk
    have hrest : State.sameBut (TH_STAT u :: TH_REST u :: (List.range 96).map (PH_CLPWR u)) s (s.resumeNow u) := fun a ha => by
      simp only [List.mem_cons, List.mem_map, List.mem_range, not_or, not_exists, not_and] at ha
      obtain ⟨h1, h2, h3⟩ := ha
      exact (resumeNow_reg fun k hk h => h3 k hk h.symm).trans (unthrottled_reg h1 h2)
    generalize s.resumeNow u = v at hx hstate htherm hgates hrest
    refine ⟨_, hx, hstate, htherm, hgates, fun a ha => ?_⟩
    exact hrest a ha
  · have hx := hostOp_effect (show exec (.resume u d) s = hostOp s (TH_CTRL u) d (·.thCtrlWrite u d) from rfl) ht (thCtrlWrite_refuses hd hc hm) hal hq
    exact ⟨_, hx, flag_wr_one _ _ _ (by decide), rd_wr_fld s _ _ _ _ _ (by decide) (by decide), fun a ha => reg_wr_ne _ _ _ _ _ (List.mem_singleton.not.mp ha), rfl⟩

end Sys2Proof.Machine

/-! PROOFS. What the operations of the rest of the chip leave of the fault collector's registers (R332-R334). -/

namespace Sys2Proof.Machine

open Sys2Proof

/-- Registers outside the collector's first five. -/
def offFc (a : Nat) : Prop := a < 0x20000 ∨ 0x20005 ≤ a

theorem offFc_tile {a : Nat} (h : 0x100000 ≤ a) : offFc a := Or.inr (Nat.le_trans (by decide) h)
theorem phBase_ge (t : Nat) : 0x100000 ≤ phBase t := by simp only [phBase]; omega
theorem wlBase_ge (t w : Nat) : 0x100000 ≤ wlBase t w := by simp only [wlBase, phBase]; omega
theorem offFc_ph (t k : Nat) : offFc (phBase t + k) := offFc_tile (Nat.le_trans (phBase_ge t) (Nat.le_add_right _ _))
theorem offFc_wl (t w k : Nat) : offFc (wlBase t w + k) := offFc_tile (Nat.le_trans (wlBase_ge t w) (Nat.le_add_right _ _))
theorem offFc_lt {a : Nat} (h : a < 0x20000) : offFc a := Or.inl h
theorem offFc_ge {a : Nat} (h : 0x20005 ≤ a) : offFc a := Or.inr h

section
variable {s u : State} {t w : Nat}

/-- What the collector shows of the open episode: whether there is one, its first raise, how many were merged, which sources were raised. -/
def State.fcView (s : State) : Bool × Word × Nat × Word :=
  (s.flag FC_STAT FC_STAT.OPEN, s.reg FC_FIRST, s.rd FC_STAT FC_STAT.MERGED, s.reg (FC_RAISED 0))

theorem fcView_of_reg (h : ∀ b, ¬ offFc b → u.reg b = s.reg b) : u.fcView = s.fcView := by
  have hne (b : Nat) (h1 : 0x20000 ≤ b) (h2 : b < 0x20005) : u.reg b = s.reg b := h b (fun h => h.elim (fun h => absurd h1 (Nat.not_le.mpr h)) (fun h => absurd h2 (Nat.not_lt.mpr h)))
  have h1 := hne FC_STAT (by decide) (by decide)
  simp only [State.fcView, flag_of_reg h1, rd_of_reg h1, hne FC_FIRST (by decide) (by decide), hne (FC_RAISED 0) (by decide) (by decide)]

theorem fcView_of_regs (h : u.regs = s.regs) : u.fcView = s.fcView := fcView_of_reg fun b _ => by simp only [State.reg, h]

theorem wr_fc {a : Nat} (f : Fld) (v : Nat) (h : offFc a) : (s.wr a f v).fcView = s.fcView :=
  fcView_of_reg fun _ hb => reg_wr_ne _ _ _ _ _ (fun e => hb (e ▸ h))

theorem wri_fc {a : Nat} (f : Fld) (v : Int) (h : offFc a) : (s.wri a f v).fcView = s.fcView := by
  rw [wri_eq]
  exact wr_fc f _ h

theorem setReg_fc {a : Nat} (d : Word) (h : offFc a) : (s.setReg a d).fcView = s.fcView :=
  fcView_of_reg fun b hb => (reg_setReg _ _ _ _).trans (if_neg fun (e : b = a) => hb (by rw [e]; exact h))

/-- A field of FC_STAT that is neither OPEN nor MERGED. -/
theorem wrStat_fc {f : Fld} (v : Nat) (h1 : f.apart FC_STAT.OPEN = true) (h2 : f.apart FC_STAT.MERGED = true) : (s.wr FC_STAT f v).fcView = s.fcView := by
  have hf := reg_wr_ne s FC_STAT FC_FIRST f v (by decide)
  have hr := reg_wr_ne s FC_STAT (FC_RAISED 0) f v (by decide)
  simp only [State.fcView, flag_wr_fld s _ FC_STAT f FC_STAT.OPEN v (by decide) h1, rd_wr_fld s _ FC_STAT f FC_STAT.MERGED v (by decide) h2, hf, hr]

theorem each_fc {α : Type} (l : List α) (f : State → α → State) (h : ∀ u e, (f u e).fcView = u.fcView) (s : State) : (s.each l f).fcView = s.fcView :=
  each_keeps State.fcView l f h s

theorem on_fc (c : Bool) {f : State → State} (h : (f s).fcView = s.fcView) : (s.on c f).fcView = s.fcView := by
  unfold State.on
  split
  · exact h
  · rfl

/-! ### Interrupts, counters, records, the sideband -/

theorem sideRegs_offFc {b : Nat} (h : b ∈ sideRegs) : offFc b := by
  simp only [sideRegs, List.mem_cons, List.not_mem_nil, or_false] at h
  rcases h with rfl | rfl | rfl | rfl
  · exact offFc_ge (by decide)
  · exact offFc_lt (by decide)
  · exact offFc_lt (by decide)
  · exact offFc_lt (by decide)

theorem wake_fc (m : Nat) : (s.wake m).fcView = s.fcView := fcView_of_reg fun b hb => wake_reg s m b fun e => hb (e ▸ offFc_lt (by decide))
theorem restart_fc : s.restart.fcView = s.fcView := fcView_of_reg fun b _ => restart_reg s b

theorem fireTrigger_fc (n : Nat) (o : Bool) (r : Word) : (s.fireTrigger n o r).fcView = s.fcView :=
  fcView_of_reg fun b hb => fireTrigger_reg s n o r b fun h => hb (sideRegs_offFc h)

theorem bump_fc {a : Nat} (h : offFc a) : (s.bump a).fcView = s.fcView :=
  fcView_of_reg fun b hb => bump_reg s a b (fun e => hb (e ▸ h)) fun h => hb (sideRegs_offFc h)

theorem pend_fc (n : Nat) : (s.pend n).fcView = s.fcView := by
  by_cases hn : 511 < n
  · have h : s.pend n = s := by simp only [State.pend, hn, true_or, or_true, if_true]
    rw [h]
  · exact fcView_of_reg fun b hb => pend_reg s n b (fun e => hb (e ▸ offFc_lt (by simp only [IC_SRC]; omega))) fun h => hb (sideRegs_offFc h)

theorem ibi_fc (c : Nat) : (s.ibi c).fcView = s.fcView := fcView_of_reg fun b _ => ibi_reg s c b

theorem unrecorded_fc (r : Rec) : (s.unrecorded r).fcView = s.fcView := by
  unfold State.unrecorded
  split_ifs
  · exact wr_fc _ _ (offFc_lt (by decide))
  · exact wr_fc (a := TH_STAT r.tile) _ _ (offFc_ph _ _)
  · rfl

theorem enq_fc (r : Rec) : (s.enq r).fcView = s.fcView := by
  unfold State.enq State.dropRec
  split_ifs
  · exact unrecorded_fc r
  · exact restart_fc.trans (wr_fc _ _ (offFc_ge (by decide)))
  · exact (unrecorded_fc r).trans (bump_fc (offFc_ge (by decide)))

theorem record_fc (type trig : Nat) (l : List Word) : (s.record type trig l).fcView = s.fcView := enq_fc _

/-! ### Wells and sequencers -/

theorem gateOn_fc (k : Nat) (f : Fld) : (s.gateOn t k f).fcView = s.fcView :=
  fcView_of_reg fun b hb => gateOn_reg s t k f b fun e => hb (e ▸ by rw [PH_CLPWR, Nat.add_assoc]; exact offFc_ph _ _)

theorem untie_fc (n : Nat) : (s.untie t w n).fcView = s.fcView := fcView_of_reg fun b hb => untie_reg s t w n b fun e => hb (e ▸ offFc_wl _ _ _)

theorem openTies_fc : (s.openTies t w).fcView = s.fcView :=
  fcView_of_reg fun b hb => openTies_reg s t w b (fun e => hb (e ▸ offFc_ph _ _)) (fun c _ e => hb (e ▸ by rw [PH_CIST, Nat.add_assoc]; exact offFc_ph _ _))
    fun v _ e => hb (e ▸ offFc_wl _ _ _)

theorem dropWell_fc : (s.dropWell t w).fcView = s.fcView :=
  fcView_of_reg fun b hb => dropWell_reg (fun p _ => ⟨fun e => hb (e ▸ by rw [PM_LINK, Nat.add_assoc]; exact offFc_wl _ _ _),
    fun e => hb (e ▸ by rw [PM_STAT, Nat.add_assoc]; exact offFc_wl _ _ _)⟩) (fun e => hb (e ▸ offFc_ph _ _))
    (fun c _ e => hb (e ▸ by rw [PH_CIST, Nat.add_assoc]; exact offFc_ph _ _)) fun v _ e => hb (e ▸ offFc_wl _ _ _)

theorem primeViewOf_fc : (s.primeViewOf t w).fcView = s.fcView :=
  fcView_of_reg fun b hb => primeViewOf_reg s t w b fun c _ e => hb (e ▸ by rw [PH_PRIME, Nat.add_assoc]; exact offFc_ph _ _)

theorem endTracks_fc : (s.endTracks t w).fcView = s.fcView :=
  fcView_of_reg fun b hb => endTracks_reg s t w b (fun _ _ e => hb (e ▸ offFc_wl _ _ _)) fun _ _ e => hb (e ▸ offFc_wl _ _ _)

theorem unprime_fc : (s.unprime t w).fcView = s.fcView := by
  unfold State.unprime
  split
  · refine primeViewOf_fc.trans ((each_fc _ _ (fun u p => ?_) _).trans ?_)
    · rfl
    · exact (wr_fc (a := WL_TRACK t w) _ _ (offFc_wl _ _ _)).trans ((wr_fc (a := AD_WIN t w) _ _ (by rw [AD_WIN, Nat.add_assoc]; exact offFc_ph _ _)).trans
        (endTracks_fc.trans (wr_fc (a := WL_SETPT t w) _ _ (offFc_wl _ _ _))))
  · rfl

theorem parkBegin_fc (b : Bool) : (s.parkBegin t w b).fcView = s.fcView :=
  fcView_of_reg fun a ha => parkBegin_reg s t w b (fun k _ e => ha (e ▸ by rw [PH_CLPWR, Nat.add_assoc]; exact offFc_ph _ _))
    (fun e => ha (e ▸ offFc_wl _ _ _)) (fun e => ha (e ▸ offFc_wl _ _ _)) (fun p _ e => ha (e ▸ by rw [PM_LINK, Nat.add_assoc]; exact offFc_wl _ _ _))
    fun c _ e => ha (e ▸ by rw [PH_PRIME, Nat.add_assoc]; exact offFc_ph _ _)

theorem parkSafe_fc : (s.parkSafe t w).fcView = s.fcView := by
  unfold State.parkSafe
  dsimp only
  split_ifs
  · exact (fcView_of_regs rfl : State.fcView (State.updMo _ t w _) = _).trans unprime_fc
  · exact parkBegin_fc false
  · rfl

theorem safeFault_fc (r : Raise) : (s.safeFault r).fcView = s.fcView := by
  unfold State.safeFault
  split
  · exact parkSafe_fc
  · rfl

theorem stampStop_fc (r : Raise) : (s.stampStop r).fcView = s.fcView := by
  unfold State.stampStop
  split <;> rfl

theorem dropPend_fc : (s.dropPend t w).fcView = s.fcView := by
  unfold State.dropPend
  split
  · rfl
  · refine (each_fc _ _ (fun u k => ?_) _).trans (wr_fc (a := WL_VOTE t w) _ _ (offFc_wl _ _ _))
    dsimp only
    split <;> rfl

theorem releaseWells_fc (n : Nat) : (s.releaseWells n).fcView = s.fcView := by
  unfold State.releaseWells
  refine (each_fc _ _ (fun u g => ?_) _).trans (fcView_of_regs rfl)
  exact dropPend_fc.trans ((wr_fc (a := WL_SETPT _ _) _ _ (offFc_wl _ _ _)).trans (wr_fc (a := WL_SETPT _ _) _ _ (offFc_wl _ _ _)))

theorem cancelWait_fc (n : Nat) : (s.cancelWait n).fcView = s.fcView := by
  unfold State.cancelWait
  dsimp only
  split_ifs
  · rfl
  · exact each_fc _ (fun u g => u.unprime (g / 16) (g % 16)) (fun u g => unprime_fc) s
  · refine each_fc _ _ (fun u g => ?_) s
    rfl
  · refine each_fc _ _ (fun u g => ?_) s
    rfl
  · rfl

theorem offFc_sq (n : Nat) : offFc (SQ_STAT n) := offFc_ge (by simp only [SQ_STAT]; omega)

theorem seqAbort_fc (n c : Nat) : (s.seqAbort n c).fcView = s.fcView := by
  unfold State.seqAbort
  exact (releaseWells_fc n).trans ((wr_fc _ _ (offFc_sq n)).trans ((wr_fc _ _ (offFc_sq n)).trans
    ((fcView_of_regs rfl : State.fcView (State.updSq _ n _) = _).trans (cancelWait_fc n))))

theorem seqStart_fc (n prog src tile nw : Nat) : (s.seqStart n prog src tile nw).fcView = s.fcView := by
  unfold State.seqStart
  exact (fcView_of_regs rfl : State.fcView (State.updSq _ n _) = _).trans ((wr_fc _ _ (offFc_sq n)).trans ((wr_fc _ _ (offFc_sq n)).trans
    ((wr_fc _ _ (offFc_sq n)).trans ((wr_fc _ _ (offFc_sq n)).trans (wr_fc _ _ (offFc_sq n))))))

theorem reactionStart_fc (n prog : Nat) (r : Raise) (nw : Bool) : (s.reactionStart n prog r nw).fcView = s.fcView := by
  unfold State.reactionStart
  dsimp only
  generalize ite (nw = true) r.well 0xF = w
  split_ifs
  · exact wr_fc _ _ (offFc_sq n)
  · exact seqStart_fc _ _ _ _ _
  · exact wr_fc _ _ (offFc_sq n)
  · exact (seqStart_fc _ _ _ _ _).trans (wr_fc _ _ (offFc_sq n))
  · exact (seqStart_fc _ _ _ _ _).trans (seqAbort_fc n 3)

/-! ### The link -/

theorem offFc_port (n : Nat) : offFc (CL_PORT n) := offFc_ge (by simp only [CL_PORT]; omega)

theorem sendOn_fc (n : Nat) (f : LinkFrame) : (s.sendOn n f).fcView = s.fcView := by
  unfold State.sendOn
  dsimp only
  split_ifs <;> rfl

theorem routeFrom_fc (n : Nat) (f : LinkFrame) : (s.routeFrom n f).fcView = s.fcView := by
  unfold State.routeFrom
  dsimp only
  split_ifs
  · exact bump_fc (offFc_port n)
  · exact sendOn_fc _ _
  · exact sendOn_fc _ _

theorem sourceLost_fc : s.sourceLost.fcView = s.fcView := by
  unfold State.sourceLost
  split
  · exact (bump_fc (offFc_lt (by decide))).trans (wr_fc (s := s) (a := HD_CLK) HD_CLK.MODE ckHoldover (offFc_lt (by decide)))
  · rfl

theorem clearPort_fc (n v : Nat) : (s.clearPort n v).fcView = s.fcView := by
  have hport : (s.setPort n v).fcView = s.fcView := (wr_fc _ _ (offFc_ge (by decide))).trans (wr_fc _ _ (offFc_port n))
  unfold State.clearPort
  dsimp only
  split
  · exact sourceLost_fc.trans hport
  · exact hport

theorem allDetect_fc : s.allDetect.fcView = s.fcView := by
  refine each_fc _ (fun u n => if u.portState n = poOff then u else u.clearPort n poDetect) (fun u n => ?_) s
  split
  · rfl
  · exact clearPort_fc n _

/-- The registers of an instance that has left its job: SOLO (R385). -/
def State.jobLeft (s : State) : State :=
  (((((s.setJob jbSolo).wr CL_JOB CL_JOB.LEADER 0).wr CL_JOB CL_JOB.MEMBERS 0).wr CL_JOB CL_JOB.LAT 0).wr CG_STAT CG_STAT.SOLO 1).wr CG_SHARE
    CG_SHARE.VALID 0

theorem jobLeft_fc (s : State) : s.jobLeft.fcView = s.fcView := by
  have hj (x : State) (f : Fld) (v : Nat) : (x.wr CL_JOB f v).fcView = x.fcView := wr_fc f v (offFc_ge (by decide))
  have hstat (x : State) (f : Fld) (v : Nat) : (x.wr CG_STAT f v).fcView = x.fcView := wr_fc f v (offFc_ge (by decide))
  have hshare (x : State) (f : Fld) (v : Nat) : (x.wr CG_SHARE f v).fcView = x.fcView := wr_fc f v (offFc_ge (by decide))
  have hsolo (x : State) : (x.setJob jbSolo).fcView = x.fcView := hj x _ _
  unfold State.jobLeft
  rw [hshare, hstat, hj, hj, hj, hsolo]

/-- The leader is told of a member that leaves (R385). -/
def State.leaveTold (s : State) : State :=
  if (s.jobState == jbMember || s.jobState == jbLeaving) && (s.jobLeader != s.inst) && s.reaches s.jobLeader then
    s.sendTo s.jobLeader 0x22 1 [jobWord s.link.job.id]
  else s

theorem leaveTold_fc (s : State) : s.leaveTold.fcView = s.fcView := by
  unfold State.leaveTold
  split
  · exact routeFrom_fc _ _
  · rfl

theorem leaveNow_fc (again : Bool) : (s.leaveNow again).fcView = s.fcView := by
  have hgov (x : State) (g : GovX) : State.fcView { x with gov := g } = x.fcView := rfl
  have hleft : s.leaveTold.jobLeft.fcView = s.fcView := (jobLeft_fc _).trans (leaveTold_fc s)
  unfold State.leaveNow
  split
  · rfl
  · show ({ s.leaveTold.jobLeft with gov := { s.leaveTold.jobLeft.gov with agreed := none } } : State).fcView = s.fcView
    rw [hgov]
    exact hleft

theorem safeOver_fc : s.safeOver.fcView = s.fcView := by
  unfold State.safeOver
  split
  · exact wr_fc _ _ (offFc_lt (by decide))
  · rfl

theorem voidLoad_fc (c sect word : Nat) : (s.voidLoad c sect word).fcView = s.fcView := by
  have hvoid (x : State) : (((x.wr HD_IMG_STAT HD_IMG_STAT.STATE 5).wr HD_IMG_STAT HD_IMG_STAT.REJECTED 1).setReg HD_IMG_ERR (imgErr c sect word)).fcView = x.fcView :=
    (setReg_fc _ (offFc_lt (by decide))).trans ((wr_fc _ _ (offFc_lt (by decide))).trans (wr_fc _ _ (offFc_lt (by decide))))
  unfold State.voidLoad
  exact (pend_fc 144).trans ((record_fc _ _ _).trans (safeOver_fc.trans (hvoid s)))

theorem endPull_fc (result : Nat) : (s.endPull result).fcView = s.fcView := by
  have hended (x : State) (v : Nat) : ((x.wr CL_PULL_STAT CL_PULL_STAT.STATE 5).wr CL_PULL_STAT CL_PULL_STAT.RESULT v).fcView = x.fcView :=
    (wr_fc _ _ (offFc_ge (by decide))).trans (wr_fc _ _ (offFc_ge (by decide)))
  unfold State.endPull
  dsimp only
  split
  · exact (wr_fc _ _ (offFc_lt (by decide))).trans ((voidLoad_fc _ _ _).trans (hended s result))
  · exact hended s result

theorem linkReset_fc : s.linkReset.fcView = s.fcView := by
  have hdown : (s.leaveNow true).allDetect.fcView = s.fcView := allDetect_fc.trans (leaveNow_fc true)
  unfold State.linkReset
  dsimp only
  split
  · exact (endPull_fc 5).trans hdown
  · exact hdown

/-! ### Block resets and reactions -/

theorem stopSlice_fc : (s.stopSlice t).fcView = s.fcView := by
  unfold State.stopSlice
  split <;> rfl

theorem clearStatus_fc : (s.clearStatus t).fcView = s.fcView := by
  unfold State.clearStatus
  refine each_mem_keeps State.fcView ((s.regs.cells.map (·.1)).filter (fun a => decide (phBase t ≤ a) && decide (a < phBase t + 0x10000)))
    (fun u a => u.setReg a (u.reg a &&& ~~~(BitVec.ofNat 64 (w1cMask a)))) (fun u a ha => ?_) s
  have hge : phBase t ≤ a := by
    have h := (List.mem_filter.mp ha).2
    simp only [Bool.and_eq_true, decide_eq_true_eq] at h
    exact h.1
  exact setReg_fc _ (offFc_tile (Nat.le_trans (phBase_ge t) hge))

theorem updLp_fc (f : Loop → Loop) : (s.updLp t w f).fcView = s.fcView := rfl

theorem clearLoop_fc : (s.clearLoop t w).fcView = s.fcView := by
  have h0 (x : State) (d : Word) : (x.setReg (WL_LOOP0 t w) d).fcView = x.fcView := setReg_fc d (offFc_wl _ _ _)
  have h1 (x : State) (d : Word) : (x.setReg (WL_LOOP1 t w) d).fcView = x.fcView := setReg_fc d (offFc_wl _ _ _)
  unfold State.clearLoop
  rw [updLp_fc, h1, h0]

theorem pumphouseReset_fc (keeper : Bool) : (s.pumphouseReset t keeper).fcView = s.fcView := by
  unfold State.pumphouseReset
  refine clearStatus_fc.trans (stopSlice_fc.trans ((each_fc _ (fun u w => if u.wellOk t w then ((u.openTies t w).dropWell t w).clearLoop t w else u) (fun u w => ?_) _).trans
    (each_fc _ (fun u k => u.gateOn t k PH_CLPWR.C_DRY) (fun u k => gateOn_fc k _) s)))
  split
  · exact clearLoop_fc.trans (dropWell_fc.trans openTies_fc)
  · rfl

theorem sidebandReset_fc : s.sidebandReset.fcView = s.fcView := by
  have h (x : State) (f : Fld) (v : Nat) : (x.wr HD_SB_STAT f v).fcView = x.fcView := wr_fc f v (offFc_lt (by decide))
  exact (h _ _ _).trans ((h _ _ _).trans ((h _ _ _).trans (h s _ _)))

theorem recorderReset_fc : s.recorderReset.fcView = s.fcView := by
  have h (x : State) {a : Nat} (f : Fld) (v : Nat) (ha : 0x20005 ≤ a) : (x.wr a f v).fcView = x.fcView := wr_fc f v (offFc_ge ha)
  have h2 (x : State) {a : Nat} (d : Word) (ha : 0x20005 ≤ a) : (x.setReg a d).fcView = x.fcView := setReg_fc d (offFc_ge ha)
  exact (h2 _ _ (by decide)).trans ((h2 _ _ (by decide)).trans ((h _ _ _ (by decide)).trans ((h _ _ _ (by decide)).trans (h s _ _ (by decide)))))

theorem nowResetting_fc (b : Nat) : (s.nowResetting b).fcView = s.fcView := rfl

theorem blockReset_fc (r : Raise) : (s.blockReset r).fcView = s.fcView := by
  have hbusy (x : State) (b : Bool) : (x.wrb FC_STAT FC_STAT.BUSY b).fcView = x.fcView := wrStat_fc (b2n b) (by decide) (by decide)
  unfold State.blockReset
  dsimp only
  refine (hbusy _ _).trans ?_
  split
  · rw [nowResetting_fc, pumphouseReset_fc]
  · rw [nowResetting_fc, sidebandReset_fc]
  · rw [nowResetting_fc, recorderReset_fc]
  · rw [nowResetting_fc, linkReset_fc]
  · rfl

theorem assertErr_fc : s.assertErr.fcView = s.fcView := by
  unfold State.assertErr
  split
  · rfl
  · exact (ibi_fc 1).trans (wrStat_fc 1 (by decide) (by decide))

theorem reactProgram_fc (r : Raise) (x : React) (b : Bool) : (s.reactProgram r x b).fcView = s.fcView := by
  unfold State.reactProgram
  split_ifs
  · rfl
  · rfl
  · exact reactionStart_fc _ _ _ _

theorem chipReact_fc : s.chipReact.fcView = s.fcView := by
  have h : (s.wr ER_STAT ER_STAT.FROZEN 0).fcView = s.fcView := wr_fc _ _ (offFc_ge (by decide))
  exact h

theorem applyReaction_fc (r : Raise) (x : React) : (s.applyReaction r x).fcView = s.fcView := by
  have h1 (u : State) (c : Bool) : (u.on c State.assertErr).fcView = u.fcView := on_fc c assertErr_fc
  have h2 (u : State) (c : Bool) : (u.on c (·.pend r.src)).fcView = u.fcView := on_fc c (pend_fc _)
  have h3 (u : State) (c : Bool) : (u.on c (·.wr FC_STAT FC_STAT.TRAP 1)).fcView = u.fcView := on_fc c (wrStat_fc 1 (by decide) (by decide))
  have h4 (u : State) (c : Bool) : (u.on c (·.blockReset r)).fcView = u.fcView := on_fc c (blockReset_fc r)
  have h5 (u : State) (c : Bool) : (u.on c State.chipReact).fcView = u.fcView := on_fc c chipReact_fc
  unfold State.applyReaction
  dsimp only
  rw [h5, reactProgram_fc, h4, h3, h2, h1]

end

end Sys2Proof.Machine

/-! PROOFS. Episodes: raises, block resets, close, trap acknowledge, injection (R329, R332-R337). -/

namespace Sys2Proof.Machine

open Sys2Proof

section
variable {s u : State} {r : Raise}

/-! ### A raise reaches the collector (R332, R333) -/

theorem markRaised_bit {n : Nat} (hn : n < 32) : ((s.markRaised n).reg (FC_RAISED 0)).getLsbD n = true := by
  have h0 : n / 64 = 0 := by omega
  have hm : n % 64 = n := by omega
  have hreg : (s.markRaised n).reg (FC_RAISED 0) = s.reg (FC_RAISED 0) ||| BitVec.ofNat 64 (1 <<< n) := by
    rw [State.markRaised, h0, hm, reg_setReg, if_pos rfl]
    rfl
  have hbit : (BitVec.ofNat 64 (1 <<< n)).getLsbD n = true := by
    rw [BitVec.getLsbD_ofNat, Nat.one_shiftLeft, Nat.testBit_two_pow_self, decide_eq_true (show n < 64 by omega)]
    rfl
  rw [hreg, BitVec.getLsbD_or, hbit, Bool.or_true]

theorem markRaised_reg {n b : Nat} (hn : n < 32) (h : b ≠ FC_RAISED 0) : (s.markRaised n).reg b = s.reg b := by
  have h0 : n / 64 = 0 := by omega
  rw [State.markRaised, h0, reg_setReg, if_neg h]

theorem raiseWord_src (l : Nat) (e : Bool) (b : Nat) (h : r.src < 32) : FC_FIRST.SRC.get (raiseWord r l e b) = r.src :=
  (Fld.get_set FC_FIRST.SRC _ _ (by decide)).trans (Nat.mod_eq_of_lt (Nat.lt_trans h (by decide)))

theorem raiseWord_tile (l : Nat) (e : Bool) (b : Nat) (h : r.tile < 256) : FC_FIRST.TILE.get (raiseWord r l e b) = r.tile :=
  (Fld.get_set_ne FC_FIRST.SRC FC_FIRST.TILE _ _ (by decide) (by decide)).trans
    ((Fld.get_set FC_FIRST.TILE _ _ (by decide)).trans (Nat.mod_eq_of_lt h))

/-- A raise is counted, and its well and its stop learn of it, before the collector takes it. -/
def State.raiseNoted (s : State) (r : Raise) : State := ((s.bump (FC_COUNT r.src)).safeFault r).stampStop r

theorem raiseNoted_fc : (s.raiseNoted r).fcView = s.fcView :=
  (stampStop_fc r).trans ((safeFault_fc r).trans (bump_fc (offFc_ge (by simp only [FC_COUNT]; omega))))

/-- FC_STAT, FC_FIRST and FC_RAISED of an episode that opens (R332). -/
def State.episodeOpened (s : State) (r : Raise) : State :=
  let x := s.react r.src
  let s1 := ((s.wr FC_STAT FC_STAT.OPEN 1).wr FC_STAT FC_STAT.RANK (x.rank s r)).setReg FC_FIRST (raiseWord r x.level x.err s.clk.beat)
  (s1.setReg FC_FIRST_T (s1.reg HD_AO_TIME)).markRaised r.src

theorem openEpisode_fc : (s.openEpisode r).fcView = (s.episodeOpened r).fcView := by
  unfold State.openEpisode
  dsimp only
  rw [wake_fc, fireTrigger_fc, applyReaction_fc, record_fc]
  rfl

theorem episodeOpened_first (h : r.src < 32) : (s.episodeOpened r).reg FC_FIRST = raiseWord r (s.react r.src).level (s.react r.src).err s.clk.beat := by
  unfold State.episodeOpened
  dsimp only
  rw [markRaised_reg h (by decide), reg_setReg, if_neg (by decide), reg_setReg, if_pos rfl]

theorem episodeOpened_open (h : r.src < 32) : (s.episodeOpened r).flag FC_STAT FC_STAT.OPEN = true := by
  have hopen (n : Nat) : ((s.wr FC_STAT FC_STAT.OPEN 1).wr FC_STAT FC_STAT.RANK n).flag FC_STAT FC_STAT.OPEN = true :=
    (flag_wr_fld _ _ _ _ _ _ (by decide) (by decide)).trans (flag_wr_one _ _ _ (by decide))
  unfold State.episodeOpened
  dsimp only
  refine (flag_of_reg ?_ _).trans (hopen ((s.react r.src).rank s r))
  rw [markRaised_reg h (by decide), reg_setReg, if_neg (by decide), reg_setReg, if_neg (by decide)]

theorem openEpisode_opens (h : r.src < 32) (ht : r.tile < 256) : (s.openEpisode r).flag FC_STAT FC_STAT.OPEN = true ∧
    (s.openEpisode r).rd FC_FIRST FC_FIRST.SRC = r.src ∧ (s.openEpisode r).rd FC_FIRST FC_FIRST.TILE = r.tile ∧
    ((s.openEpisode r).reg (FC_RAISED 0)).getLsbD r.src = true := by
  have hv := openEpisode_fc (s := s) (r := r)
  simp only [State.fcView, Prod.mk.injEq] at hv
  obtain ⟨hopen, hfirst, -, hraised⟩ := hv
  have hfirst := hfirst.trans (episodeOpened_first h)
  refine ⟨hopen.trans (episodeOpened_open h), ?_, ?_, ?_⟩
  · rw [State.rd, hfirst]
    exact raiseWord_src _ _ _ h
  · rw [State.rd, hfirst]
    exact raiseWord_tile _ _ _ ht
  · rw [hraised]
    exact markRaised_bit h

/-- The log and the marks of a merged raise (R333, R334). -/
def State.episodeMerged (s : State) (r : Raise) : State :=
  (s.logMerged (raiseWord r (s.react r.src).level (s.react r.src).err s.clk.beat)).markRaised r.src

theorem mergeRaise_fc : (s.mergeRaise r).fcView = (s.episodeMerged r).fcView := by
  unfold State.mergeRaise
  dsimp only
  rw [wake_fc, fireTrigger_fc]
  split_ifs
  · rw [applyReaction_fc, wrStat_fc _ (by decide) (by decide)]
    rfl
  · rw [applyReaction_fc]
    rfl
  · rfl

theorem logMerged_fc (word : Word) (hm : s.rd FC_STAT FC_STAT.MERGED ≠ 0xFFFF) :
    (s.logMerged word).fcView = (s.wr FC_STAT FC_STAT.MERGED (s.rd FC_STAT FC_STAT.MERGED + 1)).fcView := by
  unfold State.logMerged
  dsimp only
  rw [if_neg hm]
  split
  · rw [wrStat_fc _ (by decide) (by decide), setReg_fc _ (offFc_ge (by simp only [FC_LOG]; omega))]
  · rw [wrStat_fc _ (by decide) (by decide)]

theorem mergeRaise_merges (h : r.src < 32) (hm : s.rd FC_STAT FC_STAT.MERGED < 0xFFFF) :
    (s.mergeRaise r).flag FC_STAT FC_STAT.OPEN = s.flag FC_STAT FC_STAT.OPEN ∧ (s.mergeRaise r).reg FC_FIRST = s.reg FC_FIRST ∧
    (s.mergeRaise r).rd FC_STAT FC_STAT.MERGED = s.rd FC_STAT FC_STAT.MERGED + 1 ∧ ((s.mergeRaise r).reg (FC_RAISED 0)).getLsbD r.src = true := by
  have hv := mergeRaise_fc (s := s) (r := r)
  have hl := logMerged_fc (s := s) (raiseWord r (s.react r.src).level (s.react r.src).err s.clk.beat) (Nat.ne_of_lt hm)
  simp only [State.fcView, Prod.mk.injEq] at hv hl
  obtain ⟨hopen, hfirst, hmerged, hraised⟩ := hv
  obtain ⟨hlopen, hlfirst, hlmerged, -⟩ := hl
  have hstat : (s.episodeMerged r).reg FC_STAT = (s.logMerged (raiseWord r (s.react r.src).level (s.react r.src).err s.clk.beat)).reg FC_STAT :=
    markRaised_reg h (by decide)
  have hff : (s.episodeMerged r).reg FC_FIRST = (s.logMerged (raiseWord r (s.react r.src).level (s.react r.src).err s.clk.beat)).reg FC_FIRST :=
    markRaised_reg h (by decide)
  refine ⟨hopen.trans ((flag_of_reg hstat _).trans (hlopen.trans (flag_wr_fld _ _ _ _ _ _ (by decide) (by decide)))),
    hfirst.trans (hff.trans (hlfirst.trans (reg_wr_ne _ _ _ _ _ (by decide)))), ?_, ?_⟩
  · rw [hmerged, rd_of_reg hstat, hlmerged, rd_wr_same _ _ _ _ (by decide)]
    exact Nat.mod_eq_of_lt (Nat.succ_lt_succ hm)
  · rw [hraised]
    exact markRaised_bit h

theorem collect_opens (h : s.flag FC_STAT FC_STAT.OPEN = false) : s.collect r = (s.raiseNoted r).openEpisode r := by
  have ho : (s.raiseNoted r).flag FC_STAT FC_STAT.OPEN = false := (congrArg (·.1) (raiseNoted_fc (s := s) (r := r))).trans h
  exact if_neg fun h => Bool.false_ne_true (ho.symm.trans h)

theorem collect_merges (h : s.flag FC_STAT FC_STAT.OPEN = true) : s.collect r = (s.raiseNoted r).mergeRaise r := by
  have ho : (s.raiseNoted r).flag FC_STAT FC_STAT.OPEN = true := (congrArg (·.1) (raiseNoted_fc (s := s) (r := r))).trans h
  exact if_pos ho

/-- The i-th raise leaves the ones on their way. -/
def State.raiseTaken (s : State) (i : Nat) : State := { s with fault := { s.fault with inflight := s.fault.inflight.eraseIdx i } }

theorem faultRaiseE_collects {i : Nat} (h : s.fault.inflight[i]? = some r) : s.faultRaiseE i = (s.raiseTaken i).collect r := by
  unfold State.faultRaiseE
  rw [h]
  rfl

/-! ### A block's reset completes (R329) -/

theorem seqStart_runs {n p src tile nw : Nat} (hp : p < 256) : (s.seqStart n p src tile nw).sqState n = 1 ∧
    (s.seqStart n p src tile nw).rd (SQ_STAT n) SQ_STAT.PROG = p := by
  refine ⟨rd_wr_same _ _ _ 1 (by decide), ?_⟩
  have hfld (x : State) (f : Fld) (v : Nat) (hf : f.apart SQ_STAT.PROG = true) : (x.wr (SQ_STAT n) f v).rd (SQ_STAT n) SQ_STAT.PROG = x.rd (SQ_STAT n) SQ_STAT.PROG :=
    rd_wr_fld _ _ _ _ _ _ (by decide) hf
  exact (hfld _ SQ_STAT.STATE 1 (by decide)).trans ((hfld _ SQ_STAT.F 1 (by decide)).trans ((hfld _ SQ_STAT.SRC src (by decide)).trans
    ((rd_wr_same _ _ _ p (by decide)).trans (Nat.mod_eq_of_lt hp))))

theorem seqStart_reg {n p src tile nw b : Nat} (h : b ≠ SQ_STAT n) : (s.seqStart n p src tile nw).reg b = s.reg b :=
  (reg_wr_ne _ _ _ _ _ h).trans ((reg_wr_ne _ _ _ _ _ h).trans ((reg_wr_ne _ _ _ _ _ h).trans ((reg_wr_ne _ _ _ _ _ h).trans (reg_wr_ne _ _ _ _ _ h))))

theorem reactionStart_idle {n p : Nat} {nw : Bool} (h1 : s.loaderBusy = false) (h2 : s.sqState n = 0) :
    s.reactionStart n p r nw = s.seqStart n p 2 r.tile (if nw then r.well else 0xF) := by
  simp [State.reactionStart, h1, h2]

/-- The reset of a block is over, with the programs that waited for it; others go on. -/
def State.resetOver (s : State) (b : Nat) : State :=
  let left := s.fault.resetting.filter (· ≠ b)
  ({ s with fault := { s.fault with resetting := left, progAfter := s.fault.progAfter.filter (fun e => !(blockPlace e.2.2.1 == b)) } } : State).wrb
    FC_STAT FC_STAT.BUSY (decide (left ≠ []))

theorem blockResetDoneE_eq {b : Nat} (hb : b ∈ s.fault.resetting) : s.blockResetDoneE b =
    (s.resetOver b).each (s.fault.progAfter.filter (fun e => blockPlace e.2.2.1 == b)) (fun u e => u.reactionStart e.1 e.2.1 e.2.2.1 e.2.2.2) := by
  have hc : s.fault.resetting.contains b = true := List.contains_iff_mem.mpr hb
  unfold State.blockResetDoneE
  rw [if_pos hc]
  rfl

theorem blockResetDoneE_last {b n p : Nat} {nw : Bool} (h1 : s.fault.resetting = [b]) (h2 : s.fault.progAfter = [(n, p, r, nw)]) (hb : blockPlace r = b) :
    s.blockResetDoneE b = (s.resetOver b).reactionStart n p r nw := by
  rw [blockResetDoneE_eq (by rw [h1]; exact List.mem_singleton.mpr rfl), h2, List.filter_cons_of_pos (by simpa using hb)]
  rfl

theorem blockResetDoneE_other {b : Nat} (hb : b ∈ s.fault.resetting) (h : ∀ e ∈ s.fault.progAfter, blockPlace e.2.2.1 ≠ b) :
    s.blockResetDoneE b = s.resetOver b := by
  have hnone : s.fault.progAfter.filter (fun e => blockPlace e.2.2.1 == b) = [] := List.filter_eq_nil_iff.mpr fun e he => by simpa using h e he
  rw [blockResetDoneE_eq hb, hnone]
  rfl

/-! ### The close (R335) -/

theorem closeRecords_held : s.closeRecords.fault.held = s.fault.held := by
  have hbump (x : State) : (x.bump ER_STAT).fault = x.fault := bump_fault x _
  have henq (x : State) (q : Rec) (hq : q.type = 8) : (x.enq q).fault = x.fault := by
    have hun (y : State) : y.unrecorded q = y := by simp [State.unrecorded, hq]
    unfold State.enq State.dropRec
    split_ifs
    · rw [hun]
    · exact restart_fault _
    · rw [hun]
      exact hbump x
  unfold State.closeRecords
  dsimp only
  rw [henq _ _ rfl, henq _ _ rfl]

/-- A close with nothing held leaves the collector clear. -/
theorem closeClear_clears : s.closeClear.reg FC_STAT = 0 ∧ s.closeClear.reg (FC_RAISED 0) = 0 ∧ s.closeClear.reg (FC_RAISED 1) = 0 ∧
    ∀ i, i < 16 → s.closeClear.reg (FC_LOG i) = 0 := by
  have hlogs (x : State) {b : Nat} (h : ∀ i, b ≠ FC_LOG i) : (x.each (List.range 16) (fun u i => u.setReg (FC_LOG i) 0)).reg b = x.reg b :=
    each_keeps (fun u => u.reg b) _ (fun u i => u.setReg (FC_LOG i) 0) (fun u i => (reg_setReg _ _ _ _).trans (if_neg (h i))) x
  unfold State.closeClear
  refine ⟨?_, ?_, ?_, fun i hi => ?_⟩
  · rw [hlogs _ (by intro i; simp only [FC_STAT, FC_LOG]; omega), reg_setReg, if_neg (by decide), reg_setReg, if_neg (by decide), reg_setReg, if_pos rfl]
  · rw [hlogs _ (by intro i; simp only [FC_RAISED, FC_LOG]; omega), reg_setReg, if_neg (by decide), reg_setReg, if_pos rfl]
  · rw [hlogs _ (by intro i; simp only [FC_RAISED, FC_LOG]; omega), reg_setReg, if_pos rfl]
  · exact each_range_brings (fun _ => True) (fun u => u.reg (FC_LOG i) = 0) (fun u i => u.setReg (FC_LOG i) 0) hi
      (fun u _ => (reg_setReg _ _ _ _).trans (if_pos rfl)) (fun _ _ _ _ _ => trivial)
      (fun u j _ hj h => ((reg_setReg _ _ _ _).trans (if_neg (by simp only [FC_LOG]; omega))).trans h) _ trivial

theorem closeClear_fault : s.closeClear.fault = s.fault := each_keeps State.fault _ (fun u i => u.setReg (FC_LOG i) 0) (fun _ _ => rfl) _

theorem episodeClose_closes {d : Word} (hd : FC_STAT.OPEN.get d = 1) (ho : s.flag FC_STAT FC_STAT.OPEN = true) (hb : s.flag FC_STAT FC_STAT.BUSY = false)
    (hh : s.fault.held = []) : s.episodeClose d = s.closeRecords.closeClear := by
  have hheld : s.closeRecords.closeClear.fault.held = [] := by rw [closeClear_fault, closeRecords_held, hh]
  unfold State.episodeClose
  rw [if_pos ⟨hd, ho, hb⟩]
  dsimp only
  rw [hheld]
  rfl

theorem episodeClose_busy {d : Word} (hb : s.flag FC_STAT FC_STAT.BUSY = true) : s.episodeClose d = s := by
  simp [State.episodeClose, hb]

/-! ### FC_CTRL (R336, R337) -/

theorem fcCtrlWrite_ack {d : Word} (h1 : FC_CTRL.TRAP_ACK.get d = 1) (h2 : FC_CTRL.INJECT.get d = 0) : s.fcCtrlWrite d = s.wr FC_STAT FC_STAT.TRAP 0 := by
  simp [State.fcCtrlWrite, State.on, State.trapAck, h1, h2]

theorem fcCtrlWrite_inject {d : Word} (h1 : FC_CTRL.TRAP_ACK.get d = 0) (h2 : FC_CTRL.INJECT.get d = 1) (h5 : 5 ≤ FC_CTRL.INJECT_SRC.get d)
    (h31 : FC_CTRL.INJECT_SRC.get d ≤ 31) :
    s.fcCtrlWrite d = (s.recordEvent FC_CTRL d).raiseW { src := FC_CTRL.INJECT_SRC.get d, injected := true } := by
  simp [State.fcCtrlWrite, State.on, State.inject, h1, h2, h5, h31]

end

/-- Settles O53. -/
theorem episodesRun : Obligations.EpisodesRun := by
  unfold Obligations.EpisodesRun
  refine ⟨fun n r s hi hs ht => ⟨fun ho => ?_, fun ho hm => ?_⟩, fun b n p r nw s h1 h2 hb hn hp hl hq => ?_, fun b s hq hb hc hp => ?_,
    fun d s ht hd ho => ⟨fun hb hh => ?_, fun hb => ?_⟩, fun d s hq hal ht h1 h2 => ?_, fun d s ht h1 h2 h5 h31 => ?_⟩
  · refine ⟨s.faultRaiseE n, rfl, ?_⟩
    have hopen : (s.raiseTaken n).flag FC_STAT FC_STAT.OPEN = false := ho
    rw [faultRaiseE_collects hi, collect_opens hopen]
    exact openEpisode_opens hs ht
  · refine ⟨s.faultRaiseE n, rfl, ?_⟩
    have hopen : (s.raiseTaken n).flag FC_STAT FC_STAT.OPEN = true := ho
    have hv : ((s.raiseTaken n).raiseNoted r).fcView = s.fcView := raiseNoted_fc
    simp only [State.fcView, Prod.mk.injEq] at hv
    obtain ⟨hvo, hvf, hvm, -⟩ := hv
    rw [faultRaiseE_collects hi, collect_merges hopen]
    obtain ⟨g1, g2, g3, g4⟩ := mergeRaise_merges (s := (s.raiseTaken n).raiseNoted r) hs (by rw [hvm]; exact hm)
    exact ⟨g1.trans (hvo.trans ho), g2.trans hvf, by rw [g3, hvm], g4⟩
  · refine ⟨s.blockResetDoneE b, rfl, ?_⟩
    have hsq (x : Nat) : FC_STAT ≠ SQ_STAT x := by simp only [FC_STAT, SQ_STAT]; omega
    have himg : (s.resetOver b).reg HD_IMG_STAT = s.reg HD_IMG_STAT := reg_wr_ne _ _ _ _ _ (by decide)
    have hloader : (s.resetOver b).loaderBusy = false := by
      simpa only [State.loaderBusy, State.imgState, rd_of_reg himg] using hl
    have hidle : (s.resetOver b).sqState n = 0 := (rd_wr_ne _ _ _ _ _ _ (hsq n).symm).trans hq
    have hleft : (s.resetOver b).fault.resetting = [] ∧ (s.resetOver b).fault.progAfter = [] := by
      refine ⟨?_, ?_⟩
      · show s.fault.resetting.filter (· ≠ b) = []
        rw [h1]
        simp
      · show s.fault.progAfter.filter (fun e => !(blockPlace e.2.2.1 == b)) = []
        rw [h2]
        simp [hb]
    have hbusy : (s.resetOver b).flag FC_STAT FC_STAT.BUSY = false := by
      have hz : decide (s.fault.resetting.filter (· ≠ b) ≠ []) = false := by
        rw [h1]
        simp
      unfold State.resetOver
      dsimp only
      rw [hz]
      exact flag_wr_zero _ _ _ (by decide)
    rw [blockResetDoneE_last h1 h2 hb, reactionStart_idle hloader hidle]
    obtain ⟨hrun, hprog⟩ := seqStart_runs (s := s.resetOver b) (n := n) (src := 2) (tile := r.tile) (nw := if nw then r.well else 0xF) hp
    exact ⟨hleft.1, (flag_of_reg (seqStart_reg (hsq n)) _).trans hbusy, hleft.2, hrun, hprog⟩
  · have hx : exec (.blockResetDone b) s = .next (s.blockResetDoneE b) := done_quiet _ (by rw [blockResetDoneE_other hb hp]; exact hq)
    have hbusy : (s.resetOver b).flag FC_STAT FC_STAT.BUSY = true := by
      obtain ⟨c, hc, hne⟩ := hc
      have hz : decide (s.fault.resetting.filter (· ≠ b) ≠ []) = true :=
        decide_eq_true (List.ne_nil_of_mem (List.mem_filter.mpr ⟨hc, by simpa using hne⟩))
      unfold State.resetOver
      dsimp only
      rw [hz]
      exact flag_wr_one _ _ _ (by decide)
    rw [hx, blockResetDoneE_other hb hp]
    exact ⟨_, rfl, rfl, hbusy, fun a ha => reg_wr_ne _ _ _ _ _ (List.mem_singleton.not.mp ha)⟩
  · refine yieldsAnswered_of_takes (f := (·.episodeClose d)) rfl ht ?_
    show State.reg (s.episodeClose d) FC_STAT = 0 ∧ _
    rw [episodeClose_closes hd ho hb hh]
    exact closeClear_clears
  · obtain ⟨u, hu, he⟩ := yieldsAnswered_of_takes (c := .episodeClose d) (P := fun t => t = s) (f := (·.episodeClose d)) rfl ht (episodeClose_busy hb)
    rw [hu, he]
  · have hx := hostOp_effect (show exec (.trapAck d) s = hostOp s FC_CTRL d (·.fcCtrlWrite d) from rfl) ht (fcCtrlWrite_ack h1 h2) hal hq
    exact ⟨_, hx, flag_wr_zero _ _ _ (by decide), flag_wr_fld s _ _ _ _ _ (by decide) (by decide),
      fun a ha => reg_wr_ne _ _ _ _ _ (List.mem_singleton.not.mp ha), rfl, rfl⟩
  · refine yieldsAnswered_of_takes (f := (·.fcCtrlWrite d)) rfl ht ?_
    show _ ∈ (s.fcCtrlWrite d).fault.now
    rw [fcCtrlWrite_inject h1 h2 h5 h31]
    exact List.mem_append_right _ (List.mem_singleton.mpr rfl)

end Sys2Proof.Machine

/-! PROOFS. What the fault collector does at the end of a command (R324, R328, R332-R334). -/

namespace Sys2Proof.Machine

open Sys2Proof

section
variable {s u : State} {r : Raise} {x : React}

/-! ### A reaction without a program, below BLOCK (R326) -/

/-- The parts of such a reaction: VP_ERR_N, the interrupt, the trap. -/
def State.reactErr (s : State) (e : Bool) : State := s.on e State.assertErr
def State.reactInt (s : State) (n l : Nat) : State := if decide (1 ≤ l) then s.pend n else s
def State.reactTrap (s : State) (l : Nat) : State := s.on (decide (3 ≤ l)) (·.wr FC_STAT FC_STAT.TRAP 1)
def State.reactPlain (s : State) (r : Raise) (x : React) : State := ((s.reactErr x.err).reactInt r.src x.level).reactTrap x.level

theorem applyReaction_plain (hl : x.level ≤ 3) (hp : x.prog = 0) : s.applyReaction r x = s.reactPlain r x := by
  have h4 : (x.level == 4) = false := by
    have : x.level ≠ 4 := by omega
    simpa using this
  have hres (u : State) : x.resets u r = false := by simp only [React.resets, h4, Bool.false_and]
  have hprog (u : State) (b : Bool) : u.reactProgram r x b = u := if_pos (Or.inr hp)
  have h5 : decide (5 ≤ x.level) = false := decide_eq_false (by omega)
  unfold State.applyReaction
  dsimp only
  rw [hprog, hres, h5]
  rfl

theorem rank_plain (hl : x.level ≤ 3) : x.rank s r = x.level := if_neg fun h => absurd h.1 (by omega)

theorem reactErr_reg {b : Nat} (e : Bool) (h : b ≠ FC_STAT) : (s.reactErr e).reg b = s.reg b := by
  unfold State.reactErr State.on State.assertErr
  split_ifs
  · rfl
  · exact (ibi_reg _ _ _).trans (reg_wr_ne _ _ _ _ _ h)
  · rfl

theorem reactErr_fld {g : Fld} (e : Bool) (hg : g.ok = true) (h : FC_STAT.ERR.apart g = true) : (s.reactErr e).rd FC_STAT g = s.rd FC_STAT g := by
  unfold State.reactErr State.on State.assertErr
  split_ifs
  · rfl
  · exact (rd_of_reg (ibi_reg _ _ _) g).trans (rd_wr_fld _ _ _ _ _ _ hg h)
  · rfl

theorem reactErr_flag (e : Bool) : (s.reactErr e).flag FC_STAT FC_STAT.ERR = (s.flag FC_STAT FC_STAT.ERR || e) := by
  unfold State.reactErr State.on State.assertErr
  cases e with
  | false => simp
  | true =>
    simp only [if_true, Bool.or_true]
    split
    next h => exact h
    next => exact (flag_of_reg (ibi_reg _ _ _) _).trans (flag_wr_one _ _ _ (by decide))

theorem reactErr_rest (e : Bool) : { s.reactErr e with regs := s.regs, sb := s.sb } = s := by
  unfold State.reactErr State.on State.assertErr
  split_ifs
  · rfl
  · exact congrArg (fun u : State => { u with regs := s.regs, sb := s.sb }) (ibi_rest (s.wr FC_STAT FC_STAT.ERR 1) 1)
  · rfl

theorem reactErr_clk (e : Bool) : (s.reactErr e).clk = s.clk := (congrArg State.clk (reactErr_rest (s := s) e) :)

theorem awake_of_clk (h : u.clk = s.clk) (ha : s.awake) : u.awake := by
  simpa only [State.awake, h] using ha

theorem pend_low {n : Nat} (h1 : 1 ≤ n) (h2 : n < 32) : s.pend n = s.pendOnly n := by
  have hl : listedSource n = true := by simp only [listedSource, Bool.or_eq_true, Bool.and_eq_true, decide_eq_true_eq]; omega
  have hlow : decide (128 ≤ n) = false := decide_eq_false (by omega)
  have hc : ¬(n = 0 ∨ 511 < n ∨ listedSource n = false) := by rw [hl]; simp; omega
  simp only [State.pend, if_neg hc, hlow, Bool.and_false, State.on, Bool.false_eq_true, if_false]

theorem reactInt_reg {n l b : Nat} (h1 : 1 ≤ n) (h2 : n < 32) (ha : s.awake) (h : b ≠ IC_SRC n) : (s.reactInt n l).reg b = s.reg b := by
  unfold State.reactInt
  split
  · rw [pend_low h1 h2]
    exact pendOnly_reg_awake s n b ha h
  · rfl

theorem reactInt_reg_side {n l b : Nat} (hb : b ∉ sideRegs) (h : b ≠ IC_SRC n) : (s.reactInt n l).reg b = s.reg b := by
  unfold State.reactInt
  split
  · exact pend_reg s n b h hb
  · rfl

theorem reactInt_pend {n l : Nat} (h1 : 1 ≤ n) (h2 : n < 32) :
    (s.reactInt n l).flag (IC_SRC n) IC_SRC.PEND = (s.flag (IC_SRC n) IC_SRC.PEND || decide (1 ≤ l)) := by
  unfold State.reactInt
  split
  next h => rw [pend_low h1 h2, pendOnly_pend, h, Bool.or_true]
  next h => rw [Bool.eq_false_iff.mpr h, Bool.or_false]

theorem reactInt_rest {n l : Nat} (h1 : 1 ≤ n) (h2 : n < 32) : { s.reactInt n l with regs := s.regs, clk := s.clk, intc := s.intc } = s := by
  unfold State.reactInt
  split
  · rw [pend_low h1 h2]
    exact pendOnly_rest s n
  · rfl

theorem reactInt_clk {n l : Nat} (h1 : 1 ≤ n) (h2 : n < 32) (ha : s.awake) : (s.reactInt n l).clk = s.clk := by
  unfold State.reactInt
  split
  · rw [pend_low h1 h2]
    unfold State.pendOnly
    split
    · rfl
    · rw [wake_awake]
      · rfl
      · exact ha
  · rfl

theorem reactTrap_reg {l b : Nat} (h : b ≠ FC_STAT) : (s.reactTrap l).reg b = s.reg b := by
  unfold State.reactTrap State.on
  split
  · exact reg_wr_ne _ _ _ _ _ h
  · rfl

theorem reactTrap_fld {g : Fld} (l : Nat) (hg : g.ok = true) (h : FC_STAT.TRAP.apart g = true) : (s.reactTrap l).rd FC_STAT g = s.rd FC_STAT g := by
  unfold State.reactTrap State.on
  split
  · exact rd_wr_fld _ _ _ _ _ _ hg h
  · rfl

theorem reactTrap_flag {l : Nat} (hl : l ≤ 3) : (s.reactTrap l).flag FC_STAT FC_STAT.TRAP = (s.flag FC_STAT FC_STAT.TRAP || decide (l = 3)) := by
  have hiff : decide (3 ≤ l) = decide (l = 3) := decide_eq_decide.mpr (by omega)
  unfold State.reactTrap State.on
  rw [hiff]
  split
  next h => rw [h, Bool.or_true]; exact flag_wr_one _ _ _ (by decide)
  next h => rw [Bool.eq_false_iff.mpr h, Bool.or_false]

theorem reactTrap_rest (l : Nat) : { s.reactTrap l with regs := s.regs } = s := by
  unfold State.reactTrap State.on
  split <;> rfl

section
variable (h1 : 1 ≤ r.src) (h2 : r.src < 32)
include h1 h2

theorem icSrc_ne_fcStat : FC_STAT ≠ IC_SRC r.src := by simp only [FC_STAT, IC_SRC]; omega

omit h1 h2 in
theorem reactPlain_reg_side {b : Nat} (hs : b ≠ FC_STAT) (hi : b ≠ IC_SRC r.src) (hb : b ∉ sideRegs) : (s.reactPlain r x).reg b = s.reg b :=
  (reactTrap_reg hs).trans ((reactInt_reg_side hb hi).trans (reactErr_reg _ hs))


theorem reactPlain_reg {b : Nat} (ha : s.awake) (hs : b ≠ FC_STAT) (hi : b ≠ IC_SRC r.src) : (s.reactPlain r x).reg b = s.reg b :=
  (reactTrap_reg hs).trans ((reactInt_reg h1 h2 (awake_of_clk (reactErr_clk _) ha) hi).trans (reactErr_reg _ hs))

theorem reactInt_stat {l : Nat} : (s.reactInt r.src l).reg FC_STAT = s.reg FC_STAT :=
  reactInt_reg_side (by decide) (icSrc_ne_fcStat h1 h2)

theorem reactPlain_fld {g : Fld} (hg : g.ok = true) (he : FC_STAT.ERR.apart g = true) (ht : FC_STAT.TRAP.apart g = true) :
    (s.reactPlain r x).rd FC_STAT g = s.rd FC_STAT g :=
  (reactTrap_fld _ hg ht).trans ((rd_of_reg (reactInt_stat h1 h2) g).trans (reactErr_fld _ hg he))

theorem reactPlain_err : (s.reactPlain r x).flag FC_STAT FC_STAT.ERR = (s.flag FC_STAT FC_STAT.ERR || x.err) := by
  have htrap (u : State) : (u.reactTrap x.level).flag FC_STAT FC_STAT.ERR = u.flag FC_STAT FC_STAT.ERR := by
    simp only [State.flag, reactTrap_fld x.level (show FC_STAT.ERR.ok = true by decide) (by decide)]
  exact (htrap _).trans ((flag_of_reg (reactInt_stat h1 h2) _).trans (reactErr_flag _))

theorem reactPlain_trap (hl : x.level ≤ 3) : (s.reactPlain r x).flag FC_STAT FC_STAT.TRAP = (s.flag FC_STAT FC_STAT.TRAP || decide (x.level = 3)) := by
  have herr (u : State) (e : Bool) : (u.reactErr e).flag FC_STAT FC_STAT.TRAP = u.flag FC_STAT FC_STAT.TRAP := by
    simp only [State.flag, reactErr_fld e (show FC_STAT.TRAP.ok = true by decide) (by decide)]
  refine (reactTrap_flag hl).trans ?_
  rw [flag_of_reg (reactInt_stat h1 h2) _, herr]

theorem reactPlain_pend : (s.reactPlain r x).flag (IC_SRC r.src) IC_SRC.PEND = (s.flag (IC_SRC r.src) IC_SRC.PEND || decide (1 ≤ x.level)) := by
  have hne := (icSrc_ne_fcStat h1 h2).symm
  exact (flag_of_reg (reactTrap_reg hne) _).trans ((reactInt_pend h1 h2).trans (by rw [flag_of_reg (reactErr_reg _ hne) _]))

theorem reactPlain_silent (hl : x.level = 0) : (s.reactPlain r x).reg (IC_SRC r.src) = s.reg (IC_SRC r.src) := by
  have hne := (icSrc_ne_fcStat h1 h2).symm
  have hint : (s.reactErr x.err).reactInt r.src x.level = s.reactErr x.err := by rw [hl]; rfl
  unfold State.reactPlain
  rw [hint]
  exact (reactTrap_reg hne).trans (reactErr_reg _ hne)

/-- Such a reaction touches registers, the clock, the interrupt controller and the sideband alone. -/
theorem reactPlain_rest : { s.reactPlain r x with regs := s.regs, clk := s.clk, intc := s.intc, sb := s.sb } = s := by
  have ht := reactTrap_rest (s := (s.reactErr x.err).reactInt r.src x.level) x.level
  have hi := reactInt_rest (s := s.reactErr x.err) (l := x.level) h1 h2
  have he := reactErr_rest (s := s) x.err
  have ht := congrArg (fun u : State => { u with regs := s.regs, clk := s.clk, intc := s.intc, sb := s.sb }) ht
  have hi := congrArg (fun u : State => { u with regs := s.regs, clk := s.clk, intc := s.intc, sb := s.sb }) hi
  have he := congrArg (fun u : State => { u with clk := s.clk, intc := s.intc }) he
  exact ht.trans (hi.trans he)

theorem reactPlain_fault : (s.reactPlain r x).fault = s.fault := (congrArg State.fault (reactPlain_rest h1 h2) :)
theorem reactPlain_rcd : (s.reactPlain r x).rcd = s.rcd := (congrArg State.rcd (reactPlain_rest h1 h2) :)

theorem reactPlain_awake (ha : s.awake) : (s.reactPlain r x).awake := by
  have hint := reactInt_clk (l := x.level) h1 h2 (awake_of_clk (reactErr_clk x.err) ha)
  have htrap : (s.reactPlain r x).clk = ((s.reactErr x.err).reactInt r.src x.level).clk := (congrArg State.clk (reactTrap_rest x.level) :)
  exact awake_of_clk (htrap.trans (hint.trans (reactErr_clk x.err))) ha

end

end

end Sys2Proof.Machine

/-! PROOFS. The collection of one raise: an episode opens, or the raise is merged (R332-R334). -/

namespace Sys2Proof.Machine

open Sys2Proof

section
variable {s u : State} {r : Raise}

/-! ### The end of a command that raised once -/

theorem settleN_quiet (n : Nat) (h : u.quiet) : settleN (n + 1) u = u := by
  have hn : u.fault.now = [] := h
  simp only [settleN, hn, takeFirst, ite_self]

/-- The raise is taken from those found in this cycle. -/
def State.nowTaken (s : State) : State := { s with fault := { s.fault with now := [] } }

theorem settle_single (hnow : s.fault.now = [r]) (hq : (s.nowTaken.collect r).quiet) : s.settle = s.nowTaken.collect r := by
  have hne : s.fault.now ≠ [] := by rw [hnow]; exact List.cons_ne_nil _ _
  have hlen : s.fault.now.length + 16 = 15 + 1 + 1 := by rw [hnow]; rfl
  have hquiet := settleN_quiet 15 hq
  unfold State.settle
  rw [if_neg hne, hlen, settleN, hnow]
  dsimp only [takeFirst]
  split_ifs <;> exact hquiet

/-- A raise whose reaction is at most TRAP and has no program, in a Wellhead that is awake and holds no triggers. -/
structure PlainRaise (s : State) (r : Raise) : Prop where
  lt : r.src < 32
  ge : 5 ≤ r.src
  level : (s.react r.src).level ≤ 3
  prog : (s.react r.src).prog = 0
  count : s.rd (FC_COUNT r.src) ctrCount + 1 < 0xFFFFFFFF
  safe : s.flag HD_IMG_STAT HD_IMG_STAT.SAFE = false
  awake : s.awake
  triggers : s.rcd.triggers = []

theorem fireTrigger_none (n : Nat) (o : Bool) (w : Word) (h : s.rcd.triggers = []) : s.fireTrigger n o w = s := by
  simp only [State.fireTrigger, State.triggerOf, h, List.find?_nil, Option.map_none]

namespace PlainRaise
variable (h : PlainRaise s r)
include h

theorem one_le : 1 ≤ r.src := Nat.le_trans (by decide) h.ge

theorem noted : s.raiseNoted r = (s.wr (FC_COUNT r.src) ctrCount (s.rd (FC_COUNT r.src) ctrCount + 1)).stampStop r := by
  have hne : HD_IMG_STAT ≠ FC_COUNT r.src := by simp only [HD_IMG_STAT, FC_COUNT]; omega
  have hs : (s.wr (FC_COUNT r.src) ctrCount (s.rd (FC_COUNT r.src) ctrCount + 1)).safeOn = false := (flag_wr_ne _ _ _ _ _ _ hne).trans h.safe
  have hf : (s.wr (FC_COUNT r.src) ctrCount (s.rd (FC_COUNT r.src) ctrCount + 1)).safeFault r = s.wr (FC_COUNT r.src) ctrCount (s.rd (FC_COUNT r.src) ctrCount + 1) := by
    simp only [State.safeFault, hs, Bool.false_and, Bool.false_eq_true, if_false]
  rw [State.raiseNoted, bump_counts _ _ h.count, hf]

theorem noted_reg {b : Nat} (hb : b ≠ FC_COUNT r.src) : (s.raiseNoted r).reg b = s.reg b := by
  rw [h.noted]
  unfold State.stampStop
  split <;> exact reg_wr_ne _ _ _ _ _ hb

theorem noted_count : (s.raiseNoted r).rd (FC_COUNT r.src) ctrCount = s.rd (FC_COUNT r.src) ctrCount + 1 := by
  have hc : (s.wr (FC_COUNT r.src) ctrCount (s.rd (FC_COUNT r.src) ctrCount + 1)).rd (FC_COUNT r.src) ctrCount = s.rd (FC_COUNT r.src) ctrCount + 1 :=
    (rd_wr_same _ _ _ _ (by decide)).trans (Nat.mod_eq_of_lt (Nat.lt_trans h.count (by decide)))
  rw [h.noted]
  unfold State.stampStop
  split <;> exact hc

theorem noted_rest : { s.raiseNoted r with regs := s.regs, tiles := s.tiles } = s := by
  rw [h.noted]
  unfold State.stampStop
  split <;> rfl

theorem noted_react : (s.raiseNoted r).react r.src = s.react r.src := by
  have ha : (s.raiseNoted r).reg (FC_REACT r.src) = s.reg (FC_REACT r.src) := h.noted_reg (by simp only [FC_REACT, FC_COUNT]; omega)
  have himg : (s.raiseNoted r).reg HD_IMG_STAT = s.reg HD_IMG_STAT := h.noted_reg (by simp only [HD_IMG_STAT, FC_COUNT]; omega)
  simp only [State.react, State.plain, State.active, State.imgState, rd_of_reg himg, rd_of_reg ha, flag_of_reg ha] <;> rfl

theorem noted_clk : (s.raiseNoted r).clk = s.clk := (congrArg State.clk h.noted_rest :)
theorem noted_rcd : (s.raiseNoted r).rcd = s.rcd := (congrArg State.rcd h.noted_rest :)
theorem noted_fault : (s.raiseNoted r).fault = s.fault := (congrArg State.fault h.noted_rest :)

end PlainRaise

/-! ### An episode opens (R332) -/

theorem episodeOpened_reg {b : Nat} (h : r.src < 32) (h1 : b ≠ FC_STAT) (h2 : b ≠ FC_FIRST) (h3 : b ≠ FC_FIRST_T) (h4 : b ≠ FC_RAISED 0) :
    (s.episodeOpened r).reg b = s.reg b := by
  unfold State.episodeOpened
  dsimp only
  rw [markRaised_reg h h4, reg_setReg, if_neg h3, reg_setReg, if_neg h2, reg_wr_ne _ _ _ _ _ h1, reg_wr_ne _ _ _ _ _ h1]

theorem episodeOpened_fld {g : Fld} (h : r.src < 32) (hg : g.ok = true) (h1 : FC_STAT.OPEN.apart g = true) (h2 : FC_STAT.RANK.apart g = true) :
    (s.episodeOpened r).rd FC_STAT g = s.rd FC_STAT g := by
  have hreg : (s.episodeOpened r).reg FC_STAT = ((s.wr FC_STAT FC_STAT.OPEN 1).wr FC_STAT FC_STAT.RANK ((s.react r.src).rank s r)).reg FC_STAT := by
    unfold State.episodeOpened
    dsimp only
    rw [markRaised_reg h (by decide), reg_setReg, if_neg (by decide), reg_setReg, if_neg (by decide)]
  rw [rd_of_reg hreg, rd_wr_fld _ _ _ _ _ _ hg h2, rd_wr_fld _ _ _ _ _ _ hg h1]

theorem episodeOpened_rank (h : r.src < 32) (hl : (s.react r.src).level ≤ 3) : (s.episodeOpened r).rd FC_STAT FC_STAT.RANK = (s.react r.src).level := by
  have hreg : (s.episodeOpened r).reg FC_STAT = ((s.wr FC_STAT FC_STAT.OPEN 1).wr FC_STAT FC_STAT.RANK ((s.react r.src).rank s r)).reg FC_STAT := by
    unfold State.episodeOpened
    dsimp only
    rw [markRaised_reg h (by decide), reg_setReg, if_neg (by decide), reg_setReg, if_neg (by decide)]
  rw [rd_of_reg hreg, rd_wr_same _ _ _ _ (by decide), rank_plain hl]
  exact Nat.mod_eq_of_lt (Nat.lt_of_le_of_lt hl (by decide))

theorem episodeOpened_rest : s.onlyRegs (s.episodeOpened r) := rfl

theorem enq_fault_episode (q : Rec) (hq : q.type = 8) : (s.enq q).fault = s.fault := by
  have hun (y : State) : y.unrecorded q = y := by simp [State.unrecorded, hq]
  unfold State.enq State.dropRec
  split_ifs
  · rw [hun]
  · exact restart_fault _
  · rw [hun]
    exact bump_fault s ER_STAT

theorem enq_reg_episode (q : Rec) (hq : q.type = 8) {b : Nat} (hb : b ∉ sideRegs) : (s.enq q).reg b = s.reg b := by
  have hun (y : State) : y.unrecorded q = y := by simp [State.unrecorded, hq]
  have he : b ≠ ER_STAT := fun e => hb (by simp [sideRegs, e])
  unfold State.enq State.dropRec
  split_ifs
  · rw [hun]
  · exact (restart_reg _ _).trans (setQueue_reg _ _ _ he)
  · rw [hun]
    exact bump_reg s ER_STAT b he hb

theorem openEpisode_eq (s : State) (r : Raise) : s.openEpisode r = State.wake (State.fireTrigger (State.applyReaction
    ((s.episodeOpened r).record 8 r.src [raiseWord r (s.react r.src).level (s.react r.src).err s.clk.beat]) r (s.react r.src)) r.src true
      (raiseWord r (s.react r.src).level (s.react r.src).err s.clk.beat)) 0x10 := rfl

theorem fireTrigger_fault (n : Nat) (o : Bool) (w : Word) : (s.fireTrigger n o w).fault = s.fault := (congrArg State.fault (fireTrigger_rest s n o w) :)

theorem openEpisode_fault (h : r.src < 32) (h1 : 1 ≤ r.src) (hl : (s.react r.src).level ≤ 3) (hp : (s.react r.src).prog = 0) :
    (s.openEpisode r).fault = s.fault := by
  rw [openEpisode_eq, wake_fault, fireTrigger_fault, applyReaction_plain hl hp, reactPlain_fault h1 h, State.record, enq_fault_episode _ rfl]
  rfl

theorem openEpisode_reg {b : Nat} (h : r.src < 32) (hl : (s.react r.src).level ≤ 3) (hp : (s.react r.src).prog = 0) (hb : b ∉ sideRegs)
    (hs : b ≠ FC_STAT) (h2 : b ≠ FC_FIRST) (h3 : b ≠ FC_FIRST_T) (h4 : b ≠ FC_RAISED 0) (hi : b ≠ IC_SRC r.src) : (s.openEpisode r).reg b = s.reg b := by
  have hw : b ≠ HD_PWR_STAT := fun e => hb (by simp [sideRegs, e])
  rw [openEpisode_eq, wake_reg _ _ _ hw, fireTrigger_reg _ _ _ _ _ hb, applyReaction_plain hl hp, reactPlain_reg_side hs hi hb, State.record,
    enq_reg_episode _ rfl hb, episodeOpened_reg h hs h2 h3 h4]

theorem openEpisode_raised (h : r.src < 32) : ((s.openEpisode r).reg (FC_RAISED 0)).getLsbD r.src = true := by
  have hv : (s.openEpisode r).reg (FC_RAISED 0) = (s.episodeOpened r).reg (FC_RAISED 0) := congrArg (·.2.2.2) openEpisode_fc
  rw [hv]
  exact markRaised_bit h

theorem mergeRaise_raised (h : r.src < 32) : ((s.mergeRaise r).reg (FC_RAISED 0)).getLsbD r.src = true := by
  have hv : (s.mergeRaise r).reg (FC_RAISED 0) = (s.episodeMerged r).reg (FC_RAISED 0) := congrArg (·.2.2.2) mergeRaise_fc
  rw [hv]
  exact markRaised_bit h

/-- The record of an episode that opens, in an empty queue (R352). -/
def State.episodeRecord (s : State) (r : Raise) : Rec :=
  { type := 8, payload := [raiseWord r (s.react r.src).level (s.react r.src).err s.clk.beat], trig := r.src, ao := (s.episodeOpened r).reg HD_AO_TIME,
    beat := s.clk.beat }

def State.episodeQueued (s : State) (r : Raise) : State := (s.episodeOpened r).setQueue [s.episodeRecord r]

theorem restart_awake (h : s.awake) : s.restart = s := by
  unfold State.restart
  rw [if_neg]
  rw [h.1]
  decide

/-- An episode that opens with a plain reaction, in a Wellhead that is awake, a flash with an empty queue and no triggers. -/
theorem openEpisode_plain (h : r.src < 32) (h1 : 1 ≤ r.src) (hl : (s.react r.src).level ≤ 3) (hp : (s.react r.src).prog = 0) (ha : s.awake)
    (ht : s.rcd.triggers = []) (hf : s.flag ER_STAT ER_STAT.NOFLASH = false) (hq : s.rcd.queue = []) :
    s.openEpisode r = (s.episodeQueued r).reactPlain r (s.react r.src) := by
  have hreg : (s.episodeOpened r).reg ER_STAT = s.reg ER_STAT := episodeOpened_reg h (by decide) (by decide) (by decide) (by decide)
  have hrec : (s.episodeOpened r).record 8 r.src [raiseWord r (s.react r.src).level (s.react r.src).err s.clk.beat] = s.episodeQueued r := by
    rw [record_alone _ _ _ _ ((flag_of_reg hreg _).trans hf) hq]
    exact restart_awake (s := s.episodeQueued r) ha
  have hrcd : ((s.episodeQueued r).reactPlain r (s.react r.src)).rcd.triggers = [] := by
    rw [reactPlain_rcd h1 h]
    exact ht
  rw [openEpisode_eq, hrec, applyReaction_plain hl hp, fireTrigger_none _ _ _ hrcd]
  exact wake_awake _ _ (reactPlain_awake h1 h ha)

/-! ### A raise is merged (R333, R334) -/

theorem mergeRaise_eq (s : State) (r : Raise) : s.mergeRaise r = State.wake (State.fireTrigger
    (if s.rd FC_STAT FC_STAT.RANK < (s.react r.src).rank s r then
      ((s.episodeMerged r).wr FC_STAT FC_STAT.RANK ((s.react r.src).rank s r)).applyReaction r (s.react r.src)
    else if r.src ≤ 4 then (s.episodeMerged r).applyReaction r (s.react r.src) else s.episodeMerged r) r.src false
      (raiseWord r (s.react r.src).level (s.react r.src).err s.clk.beat)) 0x10 := rfl

/-- What a plain reaction adds where the level is above RANK. -/
def State.escalated (s u : State) (r : Raise) : State :=
  if s.rd FC_STAT FC_STAT.RANK < (s.react r.src).level then (u.wr FC_STAT FC_STAT.RANK (s.react r.src).level).reactPlain r (s.react r.src) else u

theorem mergeRaise_plain (h : r.src < 32) (h5 : 5 ≤ r.src) (hl : (s.react r.src).level ≤ 3) (hp : (s.react r.src).prog = 0) (ha : s.awake)
    (ht : s.rcd.triggers = []) : s.mergeRaise r = s.escalated (s.episodeMerged r) r := by
  have h1 : 1 ≤ r.src := Nat.le_trans (by decide) h5
  have hm : (s.episodeMerged r).rcd = s.rcd ∧ (s.episodeMerged r).clk = s.clk := by
    unfold State.episodeMerged State.logMerged State.markRaised
    dsimp only
    split_ifs <;> exact ⟨rfl, rfl⟩
  have he : (s.escalated (s.episodeMerged r) r).rcd.triggers = [] ∧ (s.escalated (s.episodeMerged r) r).awake := by
    unfold State.escalated
    split
    · refine ⟨?_, reactPlain_awake h1 h (awake_of_clk (s := s) hm.2 ha)⟩
      rw [reactPlain_rcd h1 h]
      exact (congrArg (·.triggers) hm.1).trans ht
    · exact ⟨(congrArg (·.triggers) hm.1).trans ht, awake_of_clk hm.2 ha⟩
  have hin : (if s.rd FC_STAT FC_STAT.RANK < (s.react r.src).rank s r then
      ((s.episodeMerged r).wr FC_STAT FC_STAT.RANK ((s.react r.src).rank s r)).applyReaction r (s.react r.src)
    else if r.src ≤ 4 then (s.episodeMerged r).applyReaction r (s.react r.src) else s.episodeMerged r) = s.escalated (s.episodeMerged r) r := by
    rw [rank_plain hl, applyReaction_plain hl hp, applyReaction_plain hl hp, if_neg (show ¬ r.src ≤ 4 by omega)]
    rfl
  rw [mergeRaise_eq, hin, fireTrigger_none _ _ _ he.1]
  exact wake_awake _ _ he.2

end

end Sys2Proof.Machine

/-! PROOFS. The collector at the end of a command: its claim (R324, R328, R332-R334). -/

namespace Sys2Proof.Machine

open Sys2Proof

section
variable {s u : State} {r : Raise}

/-! ### The log of merged raises (R334) -/

/-- How many raises were merged, counted to its last value. -/
def State.mergedOnce (s : State) : State :=
  if s.rd FC_STAT FC_STAT.MERGED = 0xFFFF then s else s.wr FC_STAT FC_STAT.MERGED (s.rd FC_STAT FC_STAT.MERGED + 1)

theorem mergedOnce_count : s.mergedOnce.rd FC_STAT FC_STAT.MERGED = min (s.rd FC_STAT FC_STAT.MERGED + 1) 0xFFFF := by
  have hlt := rd_lt s FC_STAT FC_STAT.MERGED
  rw [show FC_STAT.MERGED.width = 16 from rfl] at hlt
  unfold State.mergedOnce
  split
  next h => omega
  next h =>
    rw [rd_wr_same _ _ _ _ (by decide), show FC_STAT.MERGED.width = 16 from rfl]
    omega

theorem mergedOnce_fld {g : Fld} (hg : g.ok = true) (h : FC_STAT.MERGED.apart g = true) : s.mergedOnce.rd FC_STAT g = s.rd FC_STAT g := by
  unfold State.mergedOnce
  split
  · rfl
  · exact rd_wr_fld _ _ _ _ _ _ hg h

theorem mergedOnce_reg {b : Nat} (h : b ≠ FC_STAT) : s.mergedOnce.reg b = s.reg b := by
  unfold State.mergedOnce
  split
  · rfl
  · exact reg_wr_ne _ _ _ _ _ h

theorem logMerged_room (word : Word) (h : s.rd FC_STAT FC_STAT.LOGN < 16) : s.logMerged word =
    (s.mergedOnce.setReg (FC_LOG (s.rd FC_STAT FC_STAT.LOGN)) word).wr FC_STAT FC_STAT.LOGN (s.rd FC_STAT FC_STAT.LOGN + 1) := if_pos h

theorem logMerged_full (word : Word) (h : 16 ≤ s.rd FC_STAT FC_STAT.LOGN) : s.logMerged word = s.mergedOnce.wr FC_STAT FC_STAT.OVF 1 :=
  if_neg (Nat.not_lt.mpr h)

theorem fcLog_ne_stat (i : Nat) : FC_STAT ≠ FC_LOG i := by simp only [FC_STAT, FC_LOG]; omega

theorem logMerged_fld (word : Word) {g : Fld} (hg : g.ok = true) (h1 : FC_STAT.MERGED.apart g = true) (h2 : FC_STAT.LOGN.apart g = true)
    (h3 : FC_STAT.OVF.apart g = true) : (s.logMerged word).rd FC_STAT g = s.rd FC_STAT g := by
  rcases Nat.lt_or_ge (s.rd FC_STAT FC_STAT.LOGN) 16 with h | h
  · rw [logMerged_room _ h, rd_wr_fld _ _ _ _ _ _ hg h2]
    exact (rd_of_reg ((reg_setReg _ _ _ _).trans (if_neg (fcLog_ne_stat _))) g).trans (mergedOnce_fld hg h1)
  · rw [logMerged_full _ h, rd_wr_fld _ _ _ _ _ _ hg h3]
    exact mergedOnce_fld hg h1

theorem logMerged_merged (word : Word) : (s.logMerged word).rd FC_STAT FC_STAT.MERGED = min (s.rd FC_STAT FC_STAT.MERGED + 1) 0xFFFF := by
  rcases Nat.lt_or_ge (s.rd FC_STAT FC_STAT.LOGN) 16 with h | h
  · rw [logMerged_room _ h, rd_wr_fld _ _ _ _ _ _ (by decide) (by decide)]
    exact (rd_of_reg ((reg_setReg _ _ _ _).trans (if_neg (fcLog_ne_stat _))) _).trans mergedOnce_count
  · rw [logMerged_full _ h, rd_wr_fld _ _ _ _ _ _ (by decide) (by decide)]
    exact mergedOnce_count

theorem logMerged_reg (word : Word) {b : Nat} (h1 : b ≠ FC_STAT) (h2 : s.rd FC_STAT FC_STAT.LOGN < 16 → b ≠ FC_LOG (s.rd FC_STAT FC_STAT.LOGN)) :
    (s.logMerged word).reg b = s.reg b := by
  rcases Nat.lt_or_ge (s.rd FC_STAT FC_STAT.LOGN) 16 with h | h
  · rw [logMerged_room _ h, reg_wr_ne _ _ _ _ _ h1, reg_setReg, if_neg (h2 h), mergedOnce_reg h1]
  · rw [logMerged_full _ h, reg_wr_ne _ _ _ _ _ h1, mergedOnce_reg h1]

theorem logMerged_logged (word : Word) (h : s.rd FC_STAT FC_STAT.LOGN < 16) : (s.logMerged word).rd FC_STAT FC_STAT.LOGN = s.rd FC_STAT FC_STAT.LOGN + 1 ∧
    (s.logMerged word).reg (FC_LOG (s.rd FC_STAT FC_STAT.LOGN)) = word ∧ (s.logMerged word).flag FC_STAT FC_STAT.OVF = s.flag FC_STAT FC_STAT.OVF := by
  rw [logMerged_room _ h]
  refine ⟨?_, ?_, ?_⟩
  · rw [rd_wr_same _ _ _ _ (by decide), show FC_STAT.LOGN.width = 5 from rfl]
    omega
  · rw [reg_wr_ne _ _ _ _ _ (fcLog_ne_stat _).symm, reg_setReg, if_pos rfl]
  · rw [flag_wr_fld _ _ _ _ _ _ (by decide) (by decide), flag_of_reg ((reg_setReg _ _ _ _).trans (if_neg (fcLog_ne_stat _)))]
    simp only [State.flag, mergedOnce_fld (show FC_STAT.OVF.ok = true by decide) (by decide)]

theorem logMerged_overflow (word : Word) (h : 16 ≤ s.rd FC_STAT FC_STAT.LOGN) : (s.logMerged word).flag FC_STAT FC_STAT.OVF = true := by
  rw [logMerged_full _ h]
  exact flag_wr_one _ _ _ (by decide)

theorem logMerged_rest (word : Word) : s.onlyRegs (s.logMerged word) := by
  unfold State.onlyRegs State.logMerged
  dsimp only
  split_ifs <;> rfl

/-! ### A merged raise -/

theorem episodeMerged_stat (h : r.src < 32) : (s.episodeMerged r).reg FC_STAT =
    (s.logMerged (raiseWord r (s.react r.src).level (s.react r.src).err s.clk.beat)).reg FC_STAT := markRaised_reg h (by decide)

theorem episodeMerged_reg {b : Nat} (h : r.src < 32) (h1 : b ≠ FC_STAT) (h2 : s.rd FC_STAT FC_STAT.LOGN < 16 → b ≠ FC_LOG (s.rd FC_STAT FC_STAT.LOGN))
    (h3 : b ≠ FC_RAISED 0) : (s.episodeMerged r).reg b = s.reg b := (markRaised_reg h h3).trans (logMerged_reg _ h1 h2)

theorem episodeMerged_fault : (s.episodeMerged r).fault = s.fault := onlyRegs_fault (logMerged_rest (s := s) _)
theorem episodeMerged_queue : (s.episodeMerged r).rcd = s.rcd :=
  (congrArg State.rcd (logMerged_rest (s := s) (raiseWord r (s.react r.src).level (s.react r.src).err s.clk.beat)) :)
theorem episodeMerged_clk : (s.episodeMerged r).clk = s.clk :=
  (congrArg State.clk (logMerged_rest (s := s) (raiseWord r (s.react r.src).level (s.react r.src).err s.clk.beat)) :)

section
variable (h1 : 1 ≤ r.src) (h : r.src < 32)
include h1 h

theorem escalated_reg {b : Nat} (ha : u.awake) (hs : b ≠ FC_STAT) (hi : b ≠ IC_SRC r.src) : (s.escalated u r).reg b = u.reg b := by
  unfold State.escalated
  split
  · exact (reactPlain_reg (s := u.wr FC_STAT FC_STAT.RANK (s.react r.src).level) h1 h ha hs hi).trans (reg_wr_ne _ _ _ _ _ hs)
  · rfl

theorem escalated_fld {g : Fld} (hg : g.ok = true) (he : FC_STAT.ERR.apart g = true) (ht : FC_STAT.TRAP.apart g = true) (hr : FC_STAT.RANK.apart g = true) :
    (s.escalated u r).rd FC_STAT g = u.rd FC_STAT g := by
  unfold State.escalated
  split
  · exact (reactPlain_fld h1 h hg he ht).trans (rd_wr_fld _ _ _ _ _ _ hg hr)
  · rfl

theorem escalated_rcd : (s.escalated u r).rcd = u.rcd := by
  unfold State.escalated
  split
  · exact reactPlain_rcd (s := u.wr FC_STAT FC_STAT.RANK (s.react r.src).level) h1 h
  · rfl

theorem escalated_fault : (s.escalated u r).fault = u.fault := by
  unfold State.escalated
  split
  · exact reactPlain_fault (s := u.wr FC_STAT FC_STAT.RANK (s.react r.src).level) h1 h
  · rfl

/-- A level above RANK: RANK rises to it, and the reaction is applied (R333). -/
theorem escalated_above (hl : (s.react r.src).level ≤ 3) (hr : s.rd FC_STAT FC_STAT.RANK < (s.react r.src).level) :
    (s.escalated u r).rd FC_STAT FC_STAT.RANK = (s.react r.src).level ∧ (s.escalated u r).flag (IC_SRC r.src) IC_SRC.PEND = true ∧
    (s.escalated u r).flag FC_STAT FC_STAT.TRAP = (u.flag FC_STAT FC_STAT.TRAP || decide ((s.react r.src).level = 3)) ∧
    (s.escalated u r).flag FC_STAT FC_STAT.ERR = (u.flag FC_STAT FC_STAT.ERR || (s.react r.src).err) := by
  unfold State.escalated
  rw [if_pos hr]
  refine ⟨?_, ?_, ?_, ?_⟩
  · rw [reactPlain_fld h1 h (by decide) (by decide) (by decide), rd_wr_same _ _ _ _ (by decide)]
    exact Nat.mod_eq_of_lt (Nat.lt_of_le_of_lt hl (by decide))
  · rw [reactPlain_pend h1 h, decide_eq_true (show 1 ≤ (s.react r.src).level by omega), Bool.or_true]
  · rw [reactPlain_trap h1 h hl, flag_wr_fld _ _ _ _ _ _ (by decide) (by decide)]
  · rw [reactPlain_err h1 h, flag_wr_fld _ _ _ _ _ _ (by decide) (by decide)]

end

/-! ### The end of a command that raised once -/

namespace PlainRaise
variable (h : PlainRaise s r)
include h

theorem level_noted : ((s.raiseNoted r).react r.src).level ≤ 3 := h.noted_react ▸ h.level
theorem prog_noted : ((s.raiseNoted r).react r.src).prog = 0 := h.noted_react ▸ h.prog
theorem awake_noted : (s.raiseNoted r).awake := awake_of_clk h.noted_clk h.awake
theorem triggers_noted : (s.raiseNoted r).rcd.triggers = [] := (congrArg (·.triggers) h.noted_rcd).trans h.triggers

theorem stat_noted : (s.raiseNoted r).reg FC_STAT = s.reg FC_STAT := h.noted_reg fun e => absurd (show (0x20000 : Nat) = 0x20200 + r.src from e) (by omega)

theorem collect_merged (ho : s.flag FC_STAT FC_STAT.OPEN = true) :
    s.collect r = (s.raiseNoted r).escalated ((s.raiseNoted r).episodeMerged r) r := by
  rw [collect_merges ho]
  exact mergeRaise_plain h.lt h.ge h.level_noted h.prog_noted h.awake_noted h.triggers_noted

theorem collect_opened (ho : s.flag FC_STAT FC_STAT.OPEN = false) (hf : s.flag ER_STAT ER_STAT.NOFLASH = false) (hq : s.rcd.queue = []) :
    s.collect r = ((s.raiseNoted r).episodeQueued r).reactPlain r (s.react r.src) := by
  have hn := h.lt
  have her : (s.raiseNoted r).reg ER_STAT = s.reg ER_STAT := h.noted_reg (b := ER_STAT) (by simp only [ER_STAT, FC_COUNT]; omega)
  rw [collect_opens ho, openEpisode_plain h.lt h.one_le h.level_noted h.prog_noted h.awake_noted h.triggers_noted ((flag_of_reg her _).trans hf)
    ((congrArg (·.queue) h.noted_rcd).trans hq), h.noted_react]

theorem merged_awake : ((s.raiseNoted r).episodeMerged r).awake := awake_of_clk episodeMerged_clk h.awake_noted

theorem collect_fault : (s.collect r).fault = s.fault := by
  cases ho : s.flag FC_STAT FC_STAT.OPEN with
  | true => rw [h.collect_merged ho, escalated_fault h.one_le h.lt, episodeMerged_fault, h.noted_fault]
  | false => rw [collect_opens ho, openEpisode_fault h.lt h.one_le h.level_noted h.prog_noted, h.noted_fault]

/-- The source is counted and marked in either case (R333). -/
theorem collect_counts : (s.collect r).rd (FC_COUNT r.src) ctrCount = s.rd (FC_COUNT r.src) ctrCount + 1 ∧
    ((s.collect r).reg (FC_RAISED 0)).getLsbD r.src = true := by
  have hn := h.lt
  have hstat : FC_COUNT r.src ≠ FC_STAT := by simp only [FC_STAT, FC_COUNT]; omega
  have hirq : FC_COUNT r.src ≠ IC_SRC r.src := by simp only [IC_SRC, FC_COUNT]; omega
  have hraised : FC_COUNT r.src ≠ FC_RAISED 0 := by simp only [FC_RAISED, FC_COUNT]; omega
  cases ho : s.flag FC_STAT FC_STAT.OPEN with
  | true =>
    refine ⟨?_, ?_⟩
    · have hreg : (s.collect r).reg (FC_COUNT r.src) = (s.raiseNoted r).reg (FC_COUNT r.src) := by
        rw [h.collect_merged ho, escalated_reg h.one_le h.lt h.merged_awake hstat hirq]
        exact episodeMerged_reg h.lt hstat (fun _ => by simp only [FC_LOG, FC_COUNT]; omega) hraised
      exact (rd_of_reg hreg _).trans h.noted_count
    · rw [collect_merges ho]
      exact mergeRaise_raised h.lt
  | false =>
    rw [collect_opens ho]
    refine ⟨(rd_of_reg (openEpisode_reg h.lt h.level_noted h.prog_noted ?_ hstat ?_ ?_ hraised hirq) _).trans h.noted_count, openEpisode_raised h.lt⟩
    · simp only [sideRegs, FC_COUNT, ER_STAT, IC_SAT_ADDR, IC_SRC, HD_PWR_STAT, List.mem_cons, List.not_mem_nil, or_false]; omega
    · simp only [FC_FIRST, FC_COUNT]; omega
    · simp only [FC_FIRST_T, FC_COUNT]; omega

/-- What a plain raise leaves of an episode that it opens. -/
theorem collect_opening (ho : s.flag FC_STAT FC_STAT.OPEN = false) (hf : s.flag ER_STAT ER_STAT.NOFLASH = false) (hq : s.rcd.queue = []) :
    (s.collect r).flag FC_STAT FC_STAT.OPEN = true ∧ (s.collect r).rd FC_STAT FC_STAT.RANK = (s.react r.src).level ∧
    (s.collect r).rd FC_FIRST FC_FIRST.SRC = r.src ∧ (s.collect r).rcd.queue.length = 1 ∧
    (s.collect r).flag (IC_SRC r.src) IC_SRC.PEND = (s.flag (IC_SRC r.src) IC_SRC.PEND || decide (1 ≤ (s.react r.src).level)) ∧
    (s.collect r).flag FC_STAT FC_STAT.TRAP = (s.flag FC_STAT FC_STAT.TRAP || decide ((s.react r.src).level = 3)) ∧
    (s.collect r).flag FC_STAT FC_STAT.ERR = (s.flag FC_STAT FC_STAT.ERR || (s.react r.src).err) ∧
    State.sameBut [FC_STAT, FC_FIRST, FC_FIRST_T, FC_COUNT r.src, FC_RAISED 0, ER_STAT, IC_SRC r.src] s (s.collect r) ∧
    ((s.react r.src).level = 0 → (s.collect r).reg (IC_SRC r.src) = s.reg (IC_SRC r.src)) := by
  have hn := h.lt
  have hqueued {b : Nat} (hb : b ≠ ER_STAT) : ((s.raiseNoted r).episodeQueued r).reg b = ((s.raiseNoted r).episodeOpened r).reg b := setQueue_reg _ _ _ hb
  have hopened {g : Fld} (hg : g.ok = true) (g1 : FC_STAT.OPEN.apart g = true) (g2 : FC_STAT.RANK.apart g = true) :
      ((s.raiseNoted r).episodeQueued r).rd FC_STAT g = s.rd FC_STAT g :=
    (rd_of_reg (hqueued (by decide)) g).trans ((episodeOpened_fld h.lt hg g1 g2).trans (rd_of_reg h.stat_noted g))
  have hirq : ((s.raiseNoted r).episodeQueued r).reg (IC_SRC r.src) = s.reg (IC_SRC r.src) := by
    refine (hqueued ?_).trans ((episodeOpened_reg h.lt ?_ ?_ ?_ ?_).trans (h.noted_reg ?_)) <;>
      simp only [IC_SRC, ER_STAT, FC_STAT, FC_FIRST, FC_FIRST_T, FC_RAISED, FC_COUNT] <;> omega
  rw [h.collect_opened ho hf hq]
  refine ⟨?_, ?_, ?_, ?_, ?_, ?_, ?_, fun b hb => ?_, fun h0 => (reactPlain_silent h.one_le h.lt h0).trans hirq⟩
  · have hopen := (flag_of_reg (hqueued (b := FC_STAT) (by decide)) FC_STAT.OPEN).trans (episodeOpened_open h.lt)
    simp only [State.flag] at hopen ⊢
    rw [reactPlain_fld h.one_le h.lt (by decide) (by decide) (by decide)]
    exact hopen
  · rw [reactPlain_fld h.one_le h.lt (by decide) (by decide) (by decide), rd_of_reg (hqueued (b := FC_STAT) (by decide)),
      episodeOpened_rank h.lt h.level_noted, h.noted_react]
  · have hfirst := reactPlain_reg (x := s.react r.src) h.one_le h.lt (s := (s.raiseNoted r).episodeQueued r) h.awake_noted (b := FC_FIRST) (by decide)
      (by simp only [FC_FIRST, IC_SRC]; omega)
    rw [State.rd, hfirst, hqueued (by decide), episodeOpened_first h.lt]
    exact raiseWord_src _ _ _ h.lt
  · rw [reactPlain_rcd h.one_le h.lt]
    rfl
  · rw [reactPlain_pend h.one_le h.lt, flag_of_reg hirq]
  · rw [reactPlain_trap h.one_le h.lt h.level]
    simp only [State.flag, hopened (show FC_STAT.TRAP.ok = true by decide) (by decide) (by decide)]
  · rw [reactPlain_err h.one_le h.lt]
    simp only [State.flag, hopened (show FC_STAT.ERR.ok = true by decide) (by decide) (by decide)]
  · simp only [List.mem_cons, List.not_mem_nil, or_false, not_or] at hb
    obtain ⟨b1, b2, b3, b4, b5, b6, b7⟩ := hb
    rw [reactPlain_reg h.one_le h.lt (s := (s.raiseNoted r).episodeQueued r) h.awake_noted b1 b7, hqueued b6, episodeOpened_reg h.lt b1 b2 b3 b5, h.noted_reg b4]

/-- What a plain raise leaves of an episode that was open. -/
theorem collect_merging (ho : s.flag FC_STAT FC_STAT.OPEN = true) :
    (s.collect r).flag FC_STAT FC_STAT.OPEN = true ∧ (s.collect r).rcd.queue = s.rcd.queue ∧
    (s.collect r).rd FC_STAT FC_STAT.MERGED = min (s.rd FC_STAT FC_STAT.MERGED + 1) 0xFFFF ∧
    (s.rd FC_STAT FC_STAT.LOGN < 16 → (s.collect r).rd FC_STAT FC_STAT.LOGN = s.rd FC_STAT FC_STAT.LOGN + 1 ∧
      (s.collect r).reg (FC_LOG (s.rd FC_STAT FC_STAT.LOGN)) = raiseWord r (s.react r.src).level (s.react r.src).err s.clk.beat ∧
      (s.collect r).flag FC_STAT FC_STAT.OVF = s.flag FC_STAT FC_STAT.OVF ∧
      State.sameBut [FC_STAT, FC_LOG (s.rd FC_STAT FC_STAT.LOGN), FC_COUNT r.src, FC_RAISED 0, IC_SRC r.src] s (s.collect r)) ∧
    (16 ≤ s.rd FC_STAT FC_STAT.LOGN → (s.collect r).flag FC_STAT FC_STAT.OVF = true ∧
      State.sameBut [FC_STAT, FC_COUNT r.src, FC_RAISED 0, IC_SRC r.src] s (s.collect r)) := by
  have hn := h.lt
  have hlogn : (s.raiseNoted r).rd FC_STAT FC_STAT.LOGN = s.rd FC_STAT FC_STAT.LOGN := rd_of_reg h.stat_noted _
  have hword : raiseWord r ((s.raiseNoted r).react r.src).level ((s.raiseNoted r).react r.src).err (s.raiseNoted r).clk.beat =
      raiseWord r (s.react r.src).level (s.react r.src).err s.clk.beat := by rw [h.noted_react, h.noted_clk]
  have hmerged {g : Fld} (hg : g.ok = true) (he : FC_STAT.ERR.apart g = true) (ht : FC_STAT.TRAP.apart g = true) (hr : FC_STAT.RANK.apart g = true) :
      (s.collect r).rd FC_STAT g = ((s.raiseNoted r).logMerged (raiseWord r (s.react r.src).level (s.react r.src).err s.clk.beat)).rd FC_STAT g := by
    rw [h.collect_merged ho, escalated_fld h.one_le h.lt hg he ht hr, rd_of_reg (episodeMerged_stat h.lt), hword]
  have hsame {b : Nat} (b1 : b ≠ FC_STAT) (b2 : b ≠ FC_RAISED 0) (b3 : b ≠ IC_SRC r.src) :
      (s.collect r).reg b = ((s.raiseNoted r).logMerged (raiseWord r (s.react r.src).level (s.react r.src).err s.clk.beat)).reg b := by
    rw [h.collect_merged ho, escalated_reg h.one_le h.lt h.merged_awake b1 b3, ← hword]
    exact markRaised_reg h.lt b2
  refine ⟨?_, ?_, ?_, fun hroom => ?_, fun hfull => ?_⟩
  · have hopen := (logMerged_fld (s := s.raiseNoted r) (raiseWord r (s.react r.src).level (s.react r.src).err s.clk.beat) (g := FC_STAT.OPEN) (by decide) (by decide)
      (by decide) (by decide)).trans (rd_of_reg h.stat_noted _)
    simp only [State.flag] at ho ⊢
    rw [hmerged (by decide) (by decide) (by decide) (by decide), hopen]
    exact ho
  · rw [h.collect_merged ho, escalated_rcd h.one_le h.lt, episodeMerged_queue, h.noted_rcd]
  · rw [hmerged (by decide) (by decide) (by decide) (by decide), logMerged_merged, rd_of_reg h.stat_noted]
  · obtain ⟨g1, g2, g3⟩ := logMerged_logged (s := s.raiseNoted r) (raiseWord r (s.react r.src).level (s.react r.src).err s.clk.beat) (hlogn.symm ▸ hroom)
    rw [hlogn] at g1 g2
    refine ⟨(hmerged (by decide) (by decide) (by decide) (by decide)).trans g1, (hsame (fcLog_ne_stat _).symm ?_ ?_).trans g2, ?_, fun b hb => ?_⟩
    · simp only [FC_LOG, FC_RAISED]; omega
    · simp only [FC_LOG, IC_SRC]; omega
    · have hovf := hmerged (g := FC_STAT.OVF) (by decide) (by decide) (by decide) (by decide)
      simp only [State.flag] at g3 ⊢
      rw [hovf, g3, rd_of_reg h.stat_noted]
    · simp only [List.mem_cons, List.not_mem_nil, or_false, not_or] at hb
      obtain ⟨b1, b2, b3, b4, b5⟩ := hb
      rw [hsame b1 b4 b5, logMerged_reg _ b1 (fun _ => hlogn.symm ▸ b2), h.noted_reg b3]
  · have hlogn' : 16 ≤ (s.raiseNoted r).rd FC_STAT FC_STAT.LOGN := hlogn.symm ▸ hfull
    have hovf := logMerged_overflow (s := s.raiseNoted r) (raiseWord r (s.react r.src).level (s.react r.src).err s.clk.beat) hlogn'
    refine ⟨?_, fun b hb => ?_⟩
    · have hrd := hmerged (g := FC_STAT.OVF) (by decide) (by decide) (by decide) (by decide)
      simp only [State.flag] at hovf ⊢
      rw [hrd]
      exact hovf
    · simp only [List.mem_cons, List.not_mem_nil, or_false, not_or] at hb
      obtain ⟨b1, b3, b4, b5⟩ := hb
      rw [hsame b1 b4 b5, logMerged_reg _ b1 (fun hlt => absurd hlt (Nat.not_lt.mpr hlogn')), h.noted_reg b3]

theorem merged_stat {g : Fld} (hg : g.ok = true) (h1 : FC_STAT.MERGED.apart g = true) (h2 : FC_STAT.LOGN.apart g = true) (h3 : FC_STAT.OVF.apart g = true) :
    ((s.raiseNoted r).episodeMerged r).rd FC_STAT g = s.rd FC_STAT g :=
  (rd_of_reg (episodeMerged_stat h.lt) g).trans ((logMerged_fld _ hg h1 h2 h3).trans (rd_of_reg h.stat_noted g))

/-- A level above RANK escalates, one that is not above it brings no reaction (R333). -/
theorem collect_escalates (ho : s.flag FC_STAT FC_STAT.OPEN = true) :
    (s.rd FC_STAT FC_STAT.RANK < (s.react r.src).level → (s.collect r).rd FC_STAT FC_STAT.RANK = (s.react r.src).level ∧
      (s.collect r).flag (IC_SRC r.src) IC_SRC.PEND = true ∧
      (s.collect r).flag FC_STAT FC_STAT.TRAP = (s.flag FC_STAT FC_STAT.TRAP || decide ((s.react r.src).level = 3)) ∧
      (s.collect r).flag FC_STAT FC_STAT.ERR = (s.flag FC_STAT FC_STAT.ERR || (s.react r.src).err)) ∧
    ((s.react r.src).level ≤ s.rd FC_STAT FC_STAT.RANK → (s.collect r).rd FC_STAT FC_STAT.RANK = s.rd FC_STAT FC_STAT.RANK ∧
      (s.collect r).flag FC_STAT FC_STAT.TRAP = s.flag FC_STAT FC_STAT.TRAP ∧ (s.collect r).flag FC_STAT FC_STAT.ERR = s.flag FC_STAT FC_STAT.ERR ∧
      (s.collect r).reg (IC_SRC r.src) = s.reg (IC_SRC r.src)) := by
  have hn := h.lt
  have hrank : (s.raiseNoted r).rd FC_STAT FC_STAT.RANK = s.rd FC_STAT FC_STAT.RANK := rd_of_reg h.stat_noted _
  have htrap : ((s.raiseNoted r).episodeMerged r).flag FC_STAT FC_STAT.TRAP = s.flag FC_STAT FC_STAT.TRAP := by
    simp only [State.flag, h.merged_stat (show FC_STAT.TRAP.ok = true by decide) (by decide) (by decide) (by decide)]
  have herr : ((s.raiseNoted r).episodeMerged r).flag FC_STAT FC_STAT.ERR = s.flag FC_STAT FC_STAT.ERR := by
    simp only [State.flag, h.merged_stat (show FC_STAT.ERR.ok = true by decide) (by decide) (by decide) (by decide)]
  rw [h.collect_merged ho]
  refine ⟨fun habove => ?_, fun hbelow => ?_⟩
  · have hx := escalated_above (s := s.raiseNoted r) (u := (s.raiseNoted r).episodeMerged r) h.one_le h.lt h.level_noted
      (by rw [hrank, h.noted_react]; exact habove)
    rwa [h.noted_react, htrap, herr] at hx
  · have hstay : (s.raiseNoted r).escalated ((s.raiseNoted r).episodeMerged r) r = (s.raiseNoted r).episodeMerged r :=
      if_neg (by rw [hrank, h.noted_react]; exact Nat.not_lt.mpr hbelow)
    rw [hstay]
    refine ⟨h.merged_stat (by decide) (by decide) (by decide) (by decide), htrap, herr, (episodeMerged_reg h.lt ?_ (fun _ => ?_) ?_).trans (h.noted_reg ?_)⟩ <;>
      simp only [IC_SRC, FC_STAT, FC_LOG, FC_RAISED, FC_COUNT] <;> omega

end PlainRaise

/-! ### Reactions (R325, R328) -/

theorem react_plain {n : Nat} (h5 : 5 ≤ n) (h31 : n ≤ 31) (ha : s.active = false) : s.react n = ⟨1, true, false, 0, 0⟩ := by
  have hp : s.plain n = true := by simp [State.plain, h5, h31, ha]
  simp only [State.react, hp, if_true]

theorem react_image {n : Nat} (h : n ≤ 4 ∨ s.active = true) : s.react n = ⟨s.rd (FC_REACT n) FC_REACT.LEVEL, s.flag (FC_REACT n) FC_REACT.ERR,
    s.flag (FC_REACT n) FC_REACT.NARROW, s.rd (FC_REACT n) FC_REACT.SEQ, s.rd (FC_REACT n) FC_REACT.PROG⟩ := by
  have hp : s.plain n = false := by
    rcases h with h | h
    · simp [State.plain, show ¬5 ≤ n by omega]
    · simp [State.plain, h]
  simp only [State.react, hp, Bool.false_eq_true, if_false]

end

/-- Settles O5. -/
theorem collectorEndsCommand : Obligations.CollectorEndsCommand := by
  unfold Obligations.CollectorEndsCommand
  refine ⟨fun s hq => settle_quiet s hq, fun s r hnow hq => settle_single hnow hq,
    fun s n => ⟨fun h5 h31 ha => react_plain h5 h31 ha, fun h => by rw [react_image h]; exact ⟨rfl, rfl, rfl⟩⟩,
    fun s r hnow h1 h2 h3 h4 h5 h6 h7 h8 => ?_⟩
  have hp : PlainRaise s.nowTaken r := ⟨h1, h2, h3, h4, h5, h6, h7, h8⟩
  have hquiet : (s.nowTaken.collect r).quiet := congrArg (·.now) hp.collect_fault
  rw [settle_single hnow hquiet]
  refine ⟨hp.collect_counts, fun ho hf hq => hp.collect_opening ho hf hq, fun ho => ?_⟩
  obtain ⟨g1, g2, g3, g4, g5⟩ := hp.collect_merging ho
  exact ⟨g1, g2, g3, g4, g5, (hp.collect_escalates ho).1, (hp.collect_escalates ho).2⟩

end Sys2Proof.Machine

/-! PROOFS. Readings of the thermal channels, and what acting on them leaves (R260-R271). -/

namespace Sys2Proof.Machine

open Sys2Proof

section
variable {s u : State} {t w c : Nat}

/-! ### What a channel reads, through the acts on limits -/

/-- TEMP, SLOPE, VALID and BROKEN of a channel. -/
def State.thermView (s : State) (t c : Nat) : Int × Int × Bool × Bool :=
  (s.temp t c, s.slope t c, s.flag (TH_CH t c) TH_CH.VALID, s.broken t c)

theorem thermView_of_reg (h : u.reg (TH_CH t c) = s.reg (TH_CH t c)) : u.thermView t c = s.thermView t c := by
  simp only [State.thermView, State.temp, State.slope, State.broken, State.rdi, State.flag, State.rd, h]

/-- The marks of a channel that are no reading. -/
def chMark (f : Fld) : Bool := f.apart TH_CH.TEMP && f.apart TH_CH.SLOPE && f.apart TH_CH.VALID && f.apart TH_CH.BROKEN

theorem wrMark_view (e : Nat) {f : Fld} (v : Nat) (hf : chMark f = true) : (s.wr (TH_CH t e) f v).thermView t c = s.thermView t c := by
  simp only [chMark, Bool.and_eq_true] at hf
  obtain ⟨⟨⟨h1, h2⟩, h3⟩, h4⟩ := hf
  simp only [State.thermView, State.temp, State.slope, State.broken, rdi_wr_fld _ _ _ _ _ _ (show TH_CH.TEMP.ok = true by decide) h1,
    rdi_wr_fld _ _ _ _ _ _ (show TH_CH.SLOPE.ok = true by decide) h2, flag_wr_fld _ _ _ _ _ _ (show TH_CH.VALID.ok = true by decide) h3,
    flag_wr_fld _ _ _ _ _ _ (show TH_CH.BROKEN.ok = true by decide) h4]

theorem on_view (b : Bool) {f : State → State} (h : (f s).thermView t c = s.thermView t c) : (s.on b f).thermView t c = s.thermView t c := by
  unfold State.on
  split
  · exact h
  · rfl

theorem thCh_dryClear (hw : w < 15) (hc : c < 92) : DryClear t w (TH_CH t c) where
  side := by simp only [sideRegs, TH_CH, phBase, ER_STAT, IC_SAT_ADDR, IC_SRC, HD_PWR_STAT, List.mem_cons, List.not_mem_nil, or_false, not_or]; omega
  clpwr := by simp only [TH_CH, PH_CLPWR]; omega
  tie := by simp only [TH_CH, PH_TIE]; omega
  cist := by simp only [TH_CH, PH_CIST]; omega
  prime := by simp only [TH_CH, PH_PRIME]; omega
  eng := by simp only [TH_CH, PH_ENG_STAT]; omega
  win := by simp only [TH_CH, AD_WIN]; omega
  wtie := by simp only [TH_CH, wlBase, WL_TIE]; omega
  track := by simp only [TH_CH, wlBase, WL_TRACK]; omega
  prof := by simp only [TH_CH, wlBase, WL_PROF_STAT]; omega
  well := by simp only [TH_CH, wlBase]; omega

theorem setTherm_view (r : Nat) (hc : c < 92) : (s.setTherm t w r).thermView t c = s.thermView t c :=
  thermView_of_reg (setTherm_reg (by simp only [TH_CH, TH_REST]; omega))

theorem throttleFall_view (ch : Nat) (hc : c < 92) : (s.throttleFall t ch).thermView t c = s.thermView t c := by
  unfold State.throttleFall
  dsimp only
  split
  · exact setTherm_view _ hc
  · rfl

theorem setStop_view (v : Nat) (hc : c < 92) : (s.setStop t v).thermView t c = s.thermView t c :=
  thermView_of_reg (setStop_reg (by simp only [TH_CH, TH_STAT]; omega))

theorem orderlyCheck_view (hc : c < 92) : (s.orderlyCheck t).thermView t c = s.thermView t c := by
  unfold State.orderlyCheck
  dsimp only
  split
  · exact setStop_view _ hc
  · rfl

theorem coolMark_view : (s.coolMark t).thermView t c = s.thermView t c := by
  unfold State.coolMark
  split_ifs <;> rfl

theorem setHot_view (l : List Nat) (hc : c < 92) : (s.setHot t l).thermView t c = s.thermView t c := by
  have hmarks (x : State) (l : List Nat) (v : Nat) : (x.each l (fun u ch => u.wr (TH_CH t ch) TH_CH.HOT v)).thermView t c = x.thermView t c :=
    each_keeps (fun u => u.thermView t c) l (fun u ch => u.wr (TH_CH t ch) TH_CH.HOT v) (fun u e => wrMark_view e v (by decide)) x
  have hcount (x : State) (n : Nat) : (x.wr (TH_STAT t) TH_STAT.HOT_COUNT n).thermView t c = x.thermView t c :=
    thermView_of_reg (reg_wr_ne _ _ _ _ _ (by simp only [TH_CH, TH_STAT]; omega))
  exact (hcount _ _).trans ((hmarks _ _ 1).trans (hmarks s _ 0))

theorem joinHot_view (ch : Nat) (hc : c < 92) : (s.joinHot t ch).thermView t c = s.thermView t c := by
  have hfull (x : State) : (x.wr (TH_STAT t) TH_STAT.HOT_FULL 1).thermView t c = x.thermView t c :=
    thermView_of_reg (reg_wr_ne _ _ _ _ _ (by simp only [TH_CH, TH_STAT]; omega))
  unfold State.joinHot
  dsimp only
  split_ifs
  · exact setHot_view (s := s.updChan t ch (fun c => { c with quiet := false })) _ hc
  · refine (hfull _).trans ?_
    split
    · split_ifs
      · rfl
      · exact setHot_view (s := s.updChan t ch (fun c => { c with quiet := false })) _ hc
    · rfl

theorem throttleStart_view (hc : c < 92) : (s.throttleStart t w).thermView t c = s.thermView t c := by
  unfold State.throttleStart
  split
  · refine (thermView_of_reg (bump_reg _ _ _ ?_ ?_)).trans (setTherm_view 1 hc)
    · simp only [TH_CH, TH_STAT]; omega
    · simp only [sideRegs, TH_CH, phBase, ER_STAT, IC_SAT_ADDR, IC_SRC, HD_PWR_STAT, List.mem_cons, List.not_mem_nil, or_false]; omega
  · rfl

theorem stopTold_reg (s : State) (t w b : Nat) : (s.stopTold t w).reg b = s.reg b := by
  have hmo (x : State) (f : Motion → Motion) : (x.updMo t w f).reg b = x.reg b := rfl
  unfold State.stopTold
  rw [hmo, report_reg, report_reg]

theorem stopWoken_reg (s : State) {b : Nat} (h : b ≠ WL_VOTE t w) : (s.stopWoken t w).reg b = s.reg b := by
  have hmo (x : State) (f : Motion → Motion) : (x.updMo t w f).reg b = x.reg b := rfl
  unfold State.stopWoken
  split
  · rw [hmo]
    exact wakeFail_reg _ t w b h
  · rfl

theorem stopWell_therm (hw : w < 14) (hc : c < 92) : (s.stopWell t w).reg (TH_CH t c) = s.reg (TH_CH t c) := by
  have hdry : DryClear t w (TH_CH t c) := thCh_dryClear (Nat.lt_succ_of_lt hw) hc
  have hwoken : ((s.stopTold t w).stopWoken t w).reg (TH_CH t c) = s.reg (TH_CH t c) := by
    rw [stopWoken_reg _ (by simp only [TH_CH, WL_VOTE, wlBase]; omega), stopTold_reg]
  have hdrop (x : State) : (x.dropWell t w).reg (TH_CH t c) = x.reg (TH_CH t c) := by
    refine dropWell_reg ?_ ?_ ?_ ?_ <;> simp only [TH_CH, PM_LINK, PM_STAT, PH_TIE, PH_CIST, WL_TIE, wlBase] <;> intros <;> omega
  dsimp only [State.stopWell]
  split_ifs
  · exact (unprime_reg (Nat.lt_succ_of_lt hw) hdry).trans hwoken
  · exact (hdrop _).trans hwoken
  · exact hwoken

theorem stopWells_therm (hc : c < 92) : (s.stopWells t).reg (TH_CH t c) = s.reg (TH_CH t c) :=
  each_mem_keeps (fun u => u.reg (TH_CH t c)) (List.range 14) (fun u w => u.stopWell t w) (fun _ _ hw => stopWell_therm (List.mem_range.mp hw) hc) s

theorem gateReq_reg {k b : Nat} (h : b ≠ PH_CLPWR t k) : (s.gateReq t k).reg b = s.reg b :=
  (reg_wr_ne _ _ _ _ _ h).trans ((reg_wr_ne _ _ _ _ _ h).trans (reg_wr_ne _ _ _ _ _ h))

/-- A thermal stop that starts, until its state is set: its channel is shown, the slice stops, the wells are told (R267). -/
def State.stopTaken (s : State) (t ch k : Nat) : State :=
  let s1 := (s.wr (TH_STAT t) TH_STAT.STOP_CH ch).wr (TH_STAT t) TH_STAT.KIND k
  let s2 := s1.updTh t (fun h => { h with startNs := s.clk.ns, startAo := s.reg HD_AO_TIME, dropped := false, fired := none, coolAt := none, record := s.stopReadings t })
  ((((s2.stopSlice t).stopWells t).stopApply).raisePh { src := 24, tile := t, sub := ch }).ibi 3

theorem stopStart_eq (s : State) (t ch : Nat) : s.stopStart t ch =
    if s.projectsOver t ch (s.orderlyNs t) || s.dieAtHard t then (s.stopTaken t ch 2).setStop t stopHard
    else ((s.stopTaken t ch 1).setStop t stopOrderly).each (List.range 96) (fun u k => u.gateReq t k) := by
  unfold State.stopStart
  dsimp only
  split_ifs <;> rfl

theorem stopTaken_view (ch k : Nat) (hc : c < 92) : (s.stopTaken t ch k).thermView t c = s.thermView t c := by
  have hstat (x : State) (f : Fld) (v : Nat) : (x.wr (TH_STAT t) f v).reg (TH_CH t c) = x.reg (TH_CH t c) :=
    reg_wr_ne _ _ _ _ _ (by simp only [TH_CH, TH_STAT]; omega)
  have hslice (x : State) : (x.stopSlice t).reg (TH_CH t c) = x.reg (TH_CH t c) := by
    unfold State.stopSlice
    split <;> rfl
  have happly (x : State) : x.stopApply.reg (TH_CH t c) = x.reg (TH_CH t c) := stopApply_keeps (fun u => u.reg (TH_CH t c)) fun _ _ => rfl
  refine thermView_of_reg ?_
  unfold State.stopTaken
  dsimp only
  rw [ibi_reg]
  exact (happly _).trans ((stopWells_therm hc).trans ((hslice _).trans ((hstat _ _ _).trans (hstat s _ _))))

theorem stopStart_view (ch : Nat) (hc : c < 92) : (s.stopStart t ch).thermView t c = s.thermView t c := by
  rw [stopStart_eq]
  split
  · exact (setStop_view _ hc).trans (stopTaken_view ch 2 hc)
  · refine (each_mem_keeps (fun u => u.thermView t c) (List.range 96) (fun u k => u.gateReq t k) (fun u k hk => ?_) _).trans
      ((setStop_view _ hc).trans (stopTaken_view ch 1 hc))
    have hk : k < 96 := List.mem_range.mp hk
    exact thermView_of_reg (gateReq_reg (by simp only [TH_CH, PH_CLPWR]; omega))

theorem dieAct_view (ch : Nat) (hc : c < 92) : (s.dieAct t ch).thermView t c = s.thermView t c := by
  have hth (x : State) (b : Prop) [Decidable b] (h : x.thermView t c = s.thermView t c) :
      State.thermView (if b then x.stopStart t ch else x) t c = s.thermView t c := by
    split
    · exact (stopStart_view ch hc).trans h
    · exact h
  unfold State.dieAct
  dsimp only
  refine hth _ _ ?_
  split
  · exact throttleStart_view hc
  · rfl

/-- A pump channel at LIM_A asks for its pump's retirement (R265). -/
def State.retireAsked (s : State) (t ch : Nat) : State :=
  if s.limA t ch ≤ s.temp t ch ∧ s.service t (chanWell ch) (chanPump ch) ≠ 3 ∧ (s.pump t (chanWell ch) (chanPump ch)).retire = 0 then
    s.updPump t (chanWell ch) (chanPump ch) (fun q => { q with retire := 3 })
  else s

theorem retireAsked_view (ch : Nat) : (s.retireAsked t ch).thermView t c = s.thermView t c := by
  unfold State.retireAsked
  split <;> rfl

/-- PEN of a pump falls, and with the last one the clusters are gated and the ties open (R25, R216, R265). -/
def State.pumpCut (s : State) (t w p : Nat) (last : Bool) : State := ((s.on last (·.gateDry t w)).penCut t w p).on last (·.openTies t w)

theorem pumpCut_view {w p : Nat} (hw : w < 15) (hp : p < 4) (last : Bool) (hc : c < 92) (s : State) :
    (s.pumpCut t w p last).thermView t c = s.thermView t c := by
  have hgate (x : State) : (x.gateDry t w).thermView t c = x.thermView t c :=
    thermView_of_reg (gateDry_reg x t _ _ fun k hk => by simp only [TH_CH, PH_CLPWR]; omega)
  have hcut (x : State) : (x.penCut t w p).thermView t c = x.thermView t c := by
    refine thermView_of_reg ?_
    unfold State.penCut
    rw [updPump_reg, reg_wr_ne _ _ _ _ _ (by simp only [TH_CH, PM_STAT, wlBase]; omega), reg_wr_ne _ _ _ _ _ (by simp only [TH_CH, PM_LINK, wlBase]; omega)]
  have hties (x : State) : (x.openTies t w).thermView t c = x.thermView t c := by
    refine thermView_of_reg (openTies_reg x t _ _ ?_ ?_ ?_) <;> simp only [TH_CH, PH_TIE, PH_CIST, WL_TIE, wlBase] <;> intros <;> omega
  unfold State.pumpCut
  rw [on_view last (f := fun x => x.openTies t w) (hties _), hcut, on_view last (f := fun x => x.gateDry t w) (hgate _)]

theorem pumpAct_eq (s : State) (t ch : Nat) : s.pumpAct t ch =
    if s.limB t ch ≤ s.temp t ch ∧ s.service t (chanWell ch) (chanPump ch) ≠ 3 ∧ (s.pump t (chanWell ch) (chanPump ch)).lowAt = none ∧
        s.flag (PM_LINK t (chanWell ch) (chanPump ch)) PM_LINK.PEN then
      (s.retireAsked t ch).pumpCut t (chanWell ch) (chanPump ch)
        ((s.pumpsOf t (chanWell ch)).all (fun q => q == chanPump ch || !s.flag (PM_LINK t (chanWell ch) q) PM_LINK.PEN))
    else s.retireAsked t ch := rfl

theorem pumpAct_view {ch : Nat} (hch : ch < 92) (hc : c < 92) : (s.pumpAct t ch).thermView t c = s.thermView t c := by
  have hw : chanWell ch < 15 := by simp only [chanWell]; omega
  have hp : chanPump ch < 4 := Nat.mod_lt _ (by decide)
  rw [pumpAct_eq]
  split
  · rw [pumpCut_view hw hp _ hc, retireAsked_view]
  · exact retireAsked_view ch

/-- The marks of a channel that reads at a limit (R265). -/
def State.limitMarks (s : State) (t ch : Nat) : State :=
  (s.on (decide (s.limA t ch ≤ s.temp t ch)) (fun x => x.wr (TH_CH t ch) TH_CH.OVER_A 1)).on
    (decide (s.limB t ch ≤ s.temp t ch)) (fun x => x.wr (TH_CH t ch) TH_CH.OVER_B 1)

theorem limitMarks_view (ch : Nat) : (s.limitMarks t ch).thermView t c = s.thermView t c := by
  unfold State.limitMarks
  rw [on_view _ (f := fun x => x.wr (TH_CH t ch) TH_CH.OVER_B 1) (wrMark_view ch 1 (by decide)),
    on_view _ (f := fun x => x.wr (TH_CH t ch) TH_CH.OVER_A 1) (wrMark_view ch 1 (by decide))]

theorem thermAct_eq (s : State) (t ch : Nat) :
    s.thermAct t ch = if ch < 24 then (s.limitMarks t ch).dieAct t ch else (s.limitMarks t ch).pumpAct t ch := rfl

theorem thermAct_view {ch : Nat} (hch : ch < 92) (hc : c < 92) : (s.thermAct t ch).thermView t c = s.thermView t c := by
  rw [thermAct_eq]
  split
  · rw [dieAct_view ch hc, limitMarks_view]
  · rw [pumpAct_view hch hc, limitMarks_view]

/-! ### A reading is renewed (R260, R261) -/

/-- The raw temperature of a channel with its OFFSET. -/
def State.corrected (s : State) (t c : Nat) : Int := clampI (-2048) 2047 (s.rawTemp t c + s.rdi (TH_LIM t c) TH_LIM.OFFSET)

theorem corrected_range (s : State) (t c : Nat) : -2048 ≤ s.corrected t c ∧ s.corrected t c < 2048 := by
  unfold State.corrected clampI
  omega

/-- TEMP of a reading, its peak and VALID. -/
def State.readingOf (s : State) (t c : Nat) (r : Int) : State :=
  ((s.wri (TH_CH t c) TH_CH.TEMP r).wri (TH_CH t c) TH_CH.PEAK (max r (s.rdi (TH_CH t c) TH_CH.PEAK))).wr (TH_CH t c) TH_CH.VALID 1

theorem readingOf_temp (s : State) (t c : Nat) {r : Int} (h1 : -2048 ≤ r) (h2 : r < 2048) : (s.readingOf t c r).temp t c = r := by
  unfold State.temp State.readingOf
  rw [rdi_wr_fld _ _ _ _ _ _ (by decide) (by decide), wri_eq, rdi_wr_fld _ _ _ _ _ _ (by decide) (by decide)]
  exact rdi_wri_same _ _ _ (by decide) (by decide) h1 h2

theorem readingOf_valid (s : State) (t c : Nat) (r : Int) : (s.readingOf t c r).flag (TH_CH t c) TH_CH.VALID = true := flag_wr_one _ _ _ (by decide)

theorem readingOf_broken (s : State) (t c : Nat) (r : Int) : (s.readingOf t c r).broken t c = s.broken t c :=
  (flag_wr_fld _ _ _ _ _ _ (by decide) (by decide)).trans ((flag_wr_fld _ _ _ _ _ _ (by decide) (by decide)).trans
    (flag_wr_fld s _ _ _ _ _ (by decide) (by decide)))

theorem readingOf_reg {r : Int} {b : Nat} (h : b ≠ TH_CH t c) : (s.readingOf t c r).reg b = s.reg b :=
  (reg_wr_ne _ _ _ _ _ h).trans ((reg_wr_ne _ _ _ _ _ h).trans (reg_wr_ne _ _ _ _ _ h))

/-- The marks of a channel that is broken. -/
def State.brokenOf (s : State) (t c : Nat) (bad : Bool) : State :=
  ((s.wr (TH_CH t c) TH_CH.BROKEN 1).wr (TH_CH t c) TH_CH.SLOPE 0).updChan t c (fun c => { c with bad := bad, hist := [], round := none })

theorem renew_valid (hb : s.broken t c = false) (hbad : (s.chan t c).bad = false)
    (hp : 32 ≤ c → (s.pump t (chanWell c) (chanPump c)).tempBroken = false) : s.renew t c = s.readingOf t c (s.corrected t c) := by
  have hpump : (decide (32 ≤ c) && (s.pump t (chanWell c) (chanPump c)).tempBroken) = false := by
    by_cases h : 32 ≤ c
    · rw [hp h, Bool.and_false]
    · rw [decide_eq_false h, Bool.false_and]
  unfold State.renew
  dsimp only
  rw [hb, hbad, hpump]
  rfl

theorem renew_broken (hbad : (s.chan t c).bad = true) : s.renew t c = (s.readingOf t c (s.limA t c + 8)).brokenOf t c true := by
  unfold State.renew
  dsimp only
  rw [hbad]
  simp only [Bool.or_true, Bool.true_or, if_true]
  rfl

theorem brokenOf_slope (bad : Bool) : (s.brokenOf t c bad).slope t c = 0 := by
  have hrd : (s.brokenOf t c bad).rd (TH_CH t c) TH_CH.SLOPE = 0 := rd_wr_same _ _ _ 0 (by decide)
  show signed TH_CH.SLOPE.width ((s.brokenOf t c bad).rd (TH_CH t c) TH_CH.SLOPE) = 0
  rw [hrd]
  decide

theorem brokenOf_broken (bad : Bool) : (s.brokenOf t c bad).broken t c = true :=
  (flag_wr_fld _ _ _ _ _ _ (by decide) (by decide)).trans (flag_wr_one s _ _ (by decide))

theorem brokenOf_temp (bad : Bool) : (s.brokenOf t c bad).temp t c = s.temp t c :=
  (rdi_wr_fld _ _ _ _ _ _ (by decide) (by decide)).trans (rdi_wr_fld s _ _ _ _ _ (by decide) (by decide))

end

end Sys2Proof.Machine

/-! PROOFS. Thermal rounds, throttle, rest frames and job rest (R260-R275, R287, R288). -/

namespace Sys2Proof.Machine

open Sys2Proof

section
variable {s u : State} {t w c : Nat}

/-! ### Rounds (R262) -/

theorem updChan_view (e : Nat) (f : Chan → Chan) : (s.updChan t e f).thermView t c = s.thermView t c := rfl

theorem reads_lt (h : s.reads t c = true) : c < 92 := by
  unfold State.reads State.channelOk at h
  simp only [Bool.and_eq_true, Bool.or_eq_true, decide_eq_true_eq] at h
  omega

theorem joined_view {ch : Nat} (hc : c < 92) (b : Bool) : State.thermView (if b then s.joinHot t ch else s) t c = s.thermView t c := by
  cases b
  · rfl
  · exact joinHot_view ch hc

/-- What follows the evaluation of a channel in its round. -/
theorem roundEnd_view (ch : Nat) (hc : c < 92) : (((s.throttleFall t ch).orderlyCheck t).coolMark t).thermView t c = s.thermView t c := by
  rw [coolMark_view, orderlyCheck_view hc, throttleFall_view ch hc]

/-- SLOPE of a visited channel, and the reading that is kept for the next visit (R262). -/
def State.roundSlope (s : State) (t c : Nat) : State :=
  if s.broken t c then s
  else ((s.chan t c).round.elim s (fun r0 => s.wri (TH_CH t c) TH_CH.SLOPE (clampI (-2048) 2047 (s.temp t c - r0)))).updChan t c
    (fun x => { x with round := some (s.temp t c) })

theorem roundSlope_broken (h : s.broken t c = true) : s.roundSlope t c = s := if_pos h

/-- TEMP, VALID and BROKEN of a channel. -/
def State.reading (s : State) (t c : Nat) : Int × Bool × Bool := (s.temp t c, s.flag (TH_CH t c) TH_CH.VALID, s.broken t c)

theorem reading_of_view (h : u.thermView t c = s.thermView t c) : u.reading t c = s.reading t c := by
  simp only [State.thermView, Prod.mk.injEq] at h
  simp only [State.reading, h]

theorem wriSlope_reading (r : Int) : (s.wri (TH_CH t c) TH_CH.SLOPE r).reading t c = s.reading t c := by
  simp only [State.reading, State.temp, State.broken, wri_eq, rdi_wr_fld _ _ _ _ _ _ (show TH_CH.TEMP.ok = true by decide) (show TH_CH.SLOPE.apart TH_CH.TEMP = true by decide),
    flag_wr_fld _ _ _ _ _ _ (show TH_CH.VALID.ok = true by decide) (show TH_CH.SLOPE.apart TH_CH.VALID = true by decide),
    flag_wr_fld _ _ _ _ _ _ (show TH_CH.BROKEN.ok = true by decide) (show TH_CH.SLOPE.apart TH_CH.BROKEN = true by decide)]

theorem roundSlope_reading : (s.roundSlope t c).reading t c = s.reading t c := by
  unfold State.roundSlope
  split
  · rfl
  · cases (s.chan t c).round
    · rfl
    · exact wriSlope_reading _

theorem roundEval_eq (s : State) (t c : Nat) : s.roundEval t c =
    if (((s.renew t c).roundSlope t c).thermAct t c).qualifies t c then (((s.renew t c).roundSlope t c).thermAct t c).joinHot t c
    else ((s.renew t c).roundSlope t c).thermAct t c := by
  have hslope (x : State) : (match (x.chan t c).round with
      | some r0 => x.wri (TH_CH t c) TH_CH.SLOPE (clampI (-2048) 2047 (x.temp t c - r0))
      | none => x) = (x.chan t c).round.elim x (fun r0 => x.wri (TH_CH t c) TH_CH.SLOPE (clampI (-2048) 2047 (x.temp t c - r0))) := by
    cases (x.chan t c).round <;> rfl
  unfold State.roundEval State.roundSlope
  rw [← hslope] <;> rfl

theorem roundEval_view (hc : c < 92) : (s.roundEval t c).thermView t c = ((s.renew t c).roundSlope t c).thermView t c := by
  rw [roundEval_eq, joined_view hc, thermAct_view hc hc]

theorem thermalRound_view (hr : s.reads t c = true) (hh : s.isHot t c = false) (hb : s.broken t c = false) :
    (s.thermalRound t c).thermView t c = ((s.renew t c).roundSlope t c).thermView t c := by
  have hc := reads_lt hr
  unfold State.thermalRound
  rw [if_pos hr]
  dsimp only
  unfold State.mend
  rw [if_pos hb, hh, roundEnd_view c hc, if_neg Bool.false_ne_true]
  exact roundEval_view hc

/-! ### The hot list (R262) -/

theorem hotEval_temp {ch : Nat} (hch : ch < 92) (hc : c < 92) : (s.hotEval t ch).temp t c = s.temp t c := by
  have hslope (r : Int) : (s.wri (TH_CH t ch) TH_CH.SLOPE r).temp t c = s.temp t c := rdi_wr_fld _ _ _ _ _ _ (by decide) (by decide)
  have hact (x : State) : (x.thermAct t ch).temp t c = x.temp t c := congrArg Prod.fst (thermAct_view (s := x) hch hc)
  unfold State.hotEval
  dsimp only
  rw [hact]
  split <;> split
  · exact hslope _
  · exact hslope _
  · rfl
  · rfl

/-- What the element `x` of a list brings about under an invariant of every element's part, and every part leaves, holds at the end. -/
theorem each_list_brings {α : Type} (P Q : State → Prop) (f : State → α → State) {l : List α} {x : α} (hdo : ∀ u, P u → Q (f u x))
    (hP : ∀ u, ∀ a ∈ l, P u → P (f u a)) (hQ : ∀ u, ∀ a ∈ l, P u → Q u → Q (f u a)) (hx : x ∈ l) (s : State) (hs : P s) : Q (s.each l f) := by
  have hrest : ∀ l' : List α, (∀ a ∈ l', a ∈ l) → ∀ u, P u → (Q u ∨ x ∈ l') → Q (u.each l' f) := by
    intro l'
    induction l' with
    | nil => exact fun _ u _ h => h.resolve_right List.not_mem_nil
    | cons a l' ih =>
      intro hsub u hu h
      refine ih (fun b hb => hsub b (List.mem_cons_of_mem _ hb)) (f u a) (hP u a (hsub a List.mem_cons_self) hu) ?_
      rcases h with h | h
      · exact Or.inl (hQ u a (hsub a List.mem_cons_self) hu h)
      · rcases List.mem_cons.mp h with rfl | h
        · exact Or.inl (hdo u hu)
        · exact Or.inr h
  exact hrest l (fun _ h => h) s hs (Or.inr hx)

/-- What a renewal takes its reading from: LIM's OFFSET, the codes, the pump, BROKEN and the time. -/
def State.source (s : State) (t c : Nat) : Word × (List (Nat × Nat) × Nat × Bool) × PumpX × Bool × Nat :=
  (s.reg (TH_LIM t c), ((s.chan t c).codes, (s.chan t c).last, (s.chan t c).bad), s.pump t (chanWell c) (chanPump c), s.broken t c, s.clk.ns)

/-- A channel whose next renewal reads `r`: valid, and its raw temperature with OFFSET is `r`. -/
def State.willRead (s : State) (t c : Nat) (r : Int) : Prop :=
  s.corrected t c = r ∧ s.broken t c = false ∧ (s.chan t c).bad = false ∧ (32 ≤ c → (s.pump t (chanWell c) (chanPump c)).tempBroken = false)

theorem willRead_of_source {r : Int} (h : u.source t c = s.source t c) (hs : s.willRead t c r) : u.willRead t c r := by
  simp only [State.source, Prod.mk.injEq] at h
  obtain ⟨hlim, ⟨hcodes, hlast, hbad⟩, hpump, hbr, hns⟩ := h
  simpa only [State.willRead, State.corrected, State.rawTemp, State.rdi, State.rd, hlim, hcodes, hlast, hbad, hpump, hbr, hns] using hs

theorem updChan_chan_ne {ch : Nat} (f : Chan → Chan) (h : c ≠ ch) : (s.updChan t ch f).chan t c = s.chan t c := by
  unfold State.chan
  show tget _ (State.tile (State.updTile s t _) t).th.chans c = _
  rw [updTile_same]
  exact tget_tset_ne _ _ _ _ _ h

theorem updChan_chan_same (f : Chan → Chan) : (s.updChan t c f).chan t c = f (s.chan t c) := by
  unfold State.chan
  show tget _ (State.tile (State.updTile s t _) t).th.chans c = _
  rw [updTile_same]
  exact tget_tset_self _ _ _ _

/-- One channel's part of the renewal of all. -/
def State.renewOne (s : State) (t ch : Nat) : State :=
  if (s.renew t ch).broken t ch then s.renew t ch
  else (s.renew t ch).updChan t ch (fun c => { c with hist := ((s.renew t ch).temp t ch :: c.hist).take 9 })

theorem renew_reg {ch b : Nat} (h : b ≠ TH_CH t ch) : (s.renew t ch).reg b = s.reg b := by
  have hread (r : Int) : (s.readingOf t ch r).reg b = s.reg b := readingOf_reg h
  have hbroken (x : State) (bad : Bool) : (x.brokenOf t ch bad).reg b = x.reg b := (reg_wr_ne _ _ _ _ _ h).trans (reg_wr_ne x _ _ _ _ h)
  unfold State.renew
  dsimp only
  split
  · exact (hbroken _ _).trans (hread _)
  · exact hread _

theorem renewOne_reg {ch b : Nat} (h : b ≠ TH_CH t ch) : (s.renewOne t ch).reg b = s.reg b := by
  unfold State.renewOne
  split <;> exact renew_reg h

theorem renew_chan_ne {ch : Nat} (h : c ≠ ch) : (s.renew t ch).chan t c = s.chan t c := by
  unfold State.renew
  dsimp only
  split
  · exact updChan_chan_ne _ h
  · rfl

theorem renewOne_chan_ne {ch : Nat} (h : c ≠ ch) : (s.renewOne t ch).chan t c = s.chan t c := by
  unfold State.renewOne
  split
  · exact renew_chan_ne h
  · exact (updChan_chan_ne _ h).trans (renew_chan_ne h)

theorem renewOne_pump (ch w p : Nat) : (s.renewOne t ch).pump t w p = s.pump t w p := by
  have hrenew : (s.renew t ch).pump t w p = s.pump t w p := by
    unfold State.renew
    dsimp only
    split
    · rfl
    · rfl
  unfold State.renewOne
  split
  · exact hrenew
  · exact hrenew

theorem renewOne_clk (ch : Nat) : (s.renewOne t ch).clk = s.clk := by
  have hrenew : (s.renew t ch).clk = s.clk := by
    unfold State.renew
    dsimp only
    split <;> rfl
  unfold State.renewOne
  split <;> exact hrenew

theorem renewOne_source {ch : Nat} (hc : c < 92) (hch : ch < 92) (h : c ≠ ch) : (s.renewOne t ch).source t c = s.source t c := by
  have hreg (b : Nat) (hb : b ≠ TH_CH t ch) : (s.renewOne t ch).reg b = s.reg b := renewOne_reg hb
  have hbroken : (s.renewOne t ch).broken t c = s.broken t c := flag_of_reg (hreg (TH_CH t c) (by simp only [TH_CH]; omega)) _
  rw [State.source, hreg (TH_LIM t c) (by simp only [TH_CH, TH_LIM]; omega), renewOne_chan_ne h, renewOne_pump, hbroken, renewOne_clk]
  rfl

theorem renewOne_valid {r : Int} (h : s.willRead t c r) :
    (s.renewOne t c).temp t c = r ∧ (s.renewOne t c).source t c = s.source t c := by
  obtain ⟨hr, hb, hbad, hp⟩ := h
  have hrange := corrected_range s t c
  have hrenew : s.renew t c = s.readingOf t c r := by rw [renew_valid hb hbad hp, hr]
  have hbroken : (s.readingOf t c r).broken t c = false := (readingOf_broken s t c r).trans hb
  have hone : s.renewOne t c = (s.readingOf t c r).updChan t c (fun x => { x with hist := ((s.readingOf t c r).temp t c :: x.hist).take 9 }) := by
    unfold State.renewOne
    rw [hrenew, hbroken]
    rfl
  constructor
  · rw [hone]
    exact readingOf_temp s t c (hr ▸ hrange.1) (hr ▸ hrange.2)
  · have hreg : (s.renewOne t c).reg (TH_LIM t c) = s.reg (TH_LIM t c) := renewOne_reg (by simp only [TH_CH, TH_LIM]; omega)
    have hbr : (s.renewOne t c).broken t c = s.broken t c := by
      rw [hone, hb]
      exact hbroken
    rw [State.source, hreg, renewOne_pump, hbr, renewOne_clk, hone, updChan_chan_same]
    rfl

theorem renewAll_temp {r : Int} (hm : c ∈ s.channels t) (hr : s.reads t c = true) (hw : s.willRead t c r) : (s.renewAll t).temp t c = r := by
  have hlt : ∀ a ∈ (s.channels t).filter (fun ch => s.reads t ch), a < 92 := fun a ha => reads_lt (List.mem_filter.mp ha).2
  have hc := reads_lt hr
  refine each_list_brings (fun u => u.willRead t c r) (fun u => u.temp t c = r) (fun u ch => u.renewOne t ch) (x := c)
    (fun u hu => (renewOne_valid hu).1) (fun u a ha hu => ?_) (fun u a ha hu hq => ?_) (List.mem_filter.mpr ⟨hm, hr⟩) s hw
  · by_cases hac : c = a
    · subst hac
      exact willRead_of_source (renewOne_valid hu).2 hu
    · exact willRead_of_source (renewOne_source hc (hlt a ha) hac) hu
  · by_cases hac : c = a
    · subst hac
      exact (renewOne_valid hu).1
    · have ha := hlt a ha
      have hreg : (u.renewOne t a).reg (TH_CH t c) = u.reg (TH_CH t c) := renewOne_reg (by simp only [TH_CH]; omega)
      show TH_CH.TEMP.geti ((u.renewOne t a).reg (TH_CH t c)) = r
      rw [hreg, ← hq]
      rfl

theorem hotListEval_temp {r : Int} (ht : s.tileOk t = true) (hm : c ∈ s.channels t) (hr : s.reads t c = true) (hw : s.willRead t c r) :
    (s.hotListEval t).temp t c = r := by
  have hc := reads_lt hr
  have hlt (x : State) : ∀ a ∈ (x.channels t).filter (fun ch => x.isHot t ch), a < 92 := by
    intro a ha
    have ha := (List.mem_filter.mp ha).1
    simp only [State.channels, dieChannels, List.mem_append, List.mem_range, List.mem_filter, List.mem_map] at ha
    rcases ha with ha | ⟨⟨_, ha, rfl⟩, _⟩ <;> omega
  have hhot (x : State) : (x.each ((x.channels t).filter (fun ch => x.isHot t ch)) (fun u ch => u.hotEval t ch)).temp t c = x.temp t c :=
    each_mem_keeps (fun u => u.temp t c) _ (fun u ch => u.hotEval t ch) (fun u a ha => hotEval_temp (hlt x a ha) hc) x
  have hend (x : State) : ((x.orderlyCheck t).coolMark t).temp t c = x.temp t c :=
    congrArg Prod.fst (coolMark_view.trans (orderlyCheck_view hc) : ((x.orderlyCheck t).coolMark t).thermView t c = x.thermView t c)
  unfold State.hotListEval
  rw [if_pos ht]
  dsimp only
  rw [hend, hhot]
  exact renewAll_temp hm hr hw

/-! ### Throttle (R266) -/

theorem throttleStep_acts {ch : Nat} (ht : s.tileOk t = true) (hw : w < 12) (hn : s.therm t w ≠ 0) (hc : ch = 2 * w ∨ ch = 2 * w + 1)
    (hr : s.reads t ch = true) (hlim : s.limA t ch ≤ s.temp t ch) (hsl : 0 ≤ s.slope t ch) :
    s.throttleStep t w = s.setTherm t w (min 15 (s.therm t w + 1)) := by
  have hany : (dieOf w).any (fun ch => s.reads t ch && decide (s.limA t ch ≤ s.temp t ch) && decide (0 ≤ s.slope t ch)) = true := by
    refine List.any_eq_true.mpr ⟨ch, ?_, ?_⟩
    · rcases hc with h | h <;> simp [dieOf, h]
    · simp [hr, hlim, hsl]
  have hthr : (s.therm t w != 0) = true := bne_iff_ne.mpr hn
  unfold State.throttleStep
  rw [ht, hthr, hany, decide_eq_true hw]
  rfl

theorem setTherm_nibble {r : Nat} (hw : w < 12) (hr : r < 16) : (s.setTherm t w r).rd (TH_REST t) ⟨4 * w + 3, 4 * w⟩ = r := by
  have hok : Fld.ok ⟨4 * w + 3, 4 * w⟩ = true := by simp only [Fld.ok, Bool.and_eq_true, decide_eq_true_eq]; omega
  have hsame := rd_wr_same s (TH_REST t) ⟨4 * w + 3, 4 * w⟩ r hok
  have hwidth : Fld.width ⟨4 * w + 3, 4 * w⟩ = 4 := by simp only [Fld.width]; omega
  rw [hwidth, Nat.mod_eq_of_lt (show r < 2 ^ 4 by omega)] at hsame
  exact hsame

/-! ### CLR_PEAK (R273) -/

/-- Every PEAK takes its TEMP. -/
def State.peaksCleared (s : State) (t : Nat) : State :=
  s.each (s.channels t) (fun u ch => u.wr (TH_CH t ch) TH_CH.PEAK (u.rd (TH_CH t ch) TH_CH.TEMP))

theorem thCtrlWrite_clears {d : Word} (hd : TH_CTRL.RESUME.get d = 0) (hc : TH_CTRL.CLR_PEAK.get d = 1) :
    s.thCtrlWrite t d = s.peaksCleared t := by simp [State.thCtrlWrite, State.peaksCleared, hd, hc]

theorem peaksCleared_peak (hm : c ∈ s.channels t) : (s.peaksCleared t).rd (TH_CH t c) TH_CH.PEAK = s.rd (TH_CH t c) TH_CH.TEMP := by
  have htemp (u : State) (a : Nat) : (u.wr (TH_CH t a) TH_CH.PEAK (u.rd (TH_CH t a) TH_CH.TEMP)).rd (TH_CH t c) TH_CH.TEMP = u.rd (TH_CH t c) TH_CH.TEMP :=
    rd_wr_fld _ _ _ _ _ _ (by decide) (by decide)
  have hpeak (u : State) : (u.wr (TH_CH t c) TH_CH.PEAK (u.rd (TH_CH t c) TH_CH.TEMP)).rd (TH_CH t c) TH_CH.PEAK = u.rd (TH_CH t c) TH_CH.TEMP :=
    (rd_wr_same _ _ _ _ (by decide)).trans (Nat.mod_eq_of_lt (rd_lt u (TH_CH t c) TH_CH.TEMP))
  refine each_list_brings (fun u => u.rd (TH_CH t c) TH_CH.TEMP = s.rd (TH_CH t c) TH_CH.TEMP)
    (fun u => u.rd (TH_CH t c) TH_CH.PEAK = s.rd (TH_CH t c) TH_CH.TEMP)
    (fun u ch => u.wr (TH_CH t ch) TH_CH.PEAK (u.rd (TH_CH t ch) TH_CH.TEMP)) (x := c) (fun u hu => (hpeak u).trans hu)
    (fun u a _ hu => (htemp u a).trans hu) (fun u a _ hu hq => ?_) hm s rfl
  by_cases hac : c = a
  · subst hac
    exact (hpeak u).trans hu
  · have hreg : TH_CH t c ≠ TH_CH t a := by simp only [TH_CH]; omega
    exact (rd_wr_ne _ _ _ _ _ _ hreg).trans hq

theorem peaksCleared_rest : State.sameBut ((s.channels t).map (TH_CH t)) s (s.peaksCleared t) := fun b hb =>
  each_mem_keeps (fun u => u.reg b) (s.channels t) (fun u ch => u.wr (TH_CH t ch) TH_CH.PEAK (u.rd (TH_CH t ch) TH_CH.TEMP))
    (fun _ a ha => reg_wr_ne _ _ _ _ _ fun h => hb (List.mem_map.mpr ⟨a, ha, h.symm⟩)) s

theorem onlyRegs_port (h : s.onlyRegs u) : u.port = s.port := (congrArg State.port h :)

theorem peaksCleared_onlyRegs : s.onlyRegs (s.peaksCleared t) :=
  onlyRegs_each (s.channels t) (fun u ch => u.wr (TH_CH t ch) TH_CH.PEAK (u.rd (TH_CH t ch) TH_CH.TEMP)) (fun _ _ => rfl) s

/-! ### Rest frames (R274, R275) -/

theorem dutyFrom_wr (ht : t < 256) (f : Fld) (v l b : Nat) : (s.wr (PH_REST t) f v).dutyFrom t l b = s.dutyFrom t l b := by
  have hlead : (s.wr (PH_REST t) f v).lead t = s.lead t := rd_wr_ne _ _ _ _ _ _ (by simp only [DS_CFG, PH_REST]; omega)
  have hjob : (s.wr (PH_REST t) f v).jobRestAt b = s.jobRestAt b := by
    have hstat (g : Fld) : (s.wr (PH_REST t) f v).rd CG_STAT g = s.rd CG_STAT g :=
      rd_wr_ne _ _ _ _ _ _ (by simp only [CG_STAT, PH_REST, phBase]; omega)
    unfold State.jobRestAt
    rw [hstat, hstat]
    rfl
  have hlog (w k : Nat) (hk : k ∈ fedClusters w) : (s.wr (PH_REST t) f v).logicalAt t k = s.logicalAt t k := by
    have hk := fedClusters_lt hk
    unfold State.logicalAt
    rw [rd_wr_ne _ _ _ _ _ _ (by simp only [PL_MAP, PH_REST, phBase]; omega)]
  have hshare (w : Nat) : (s.wr (PH_REST t) f v).shareNum t l w = s.shareNum t l w := by
    unfold State.shareNum
    rw [List.filter_congr (fun k hk => by rw [hlog w k hk])]
  have hfed (w : Nat) : (fedClusters w).any (fun k => ((s.wr (PH_REST t) f v).logicalAt t k).any (fun lk => coreWell lk == l)) =
      (fedClusters w).any (fun k => (s.logicalAt t k).any (fun lk => coreWell lk == l)) := by
    rw [Bool.eq_iff_iff, List.any_eq_true, List.any_eq_true]
    exact exists_congr fun k => and_congr_right fun hk => by rw [hlog w k hk]
  have hcarry (w : Nat) : (s.wr (PH_REST t) f v).carries t l w = s.carries t l w := by
    unfold State.carries
    rw [hshare, hfed]
  unfold State.dutyFrom
  rw [hlead, hjob]
  simp only [hcarry]
  rfl

/-- The frame's duties in force at the wells and the tile, R_JOB and R_TILE shown. -/
def State.frameTaken (s : State) (t : Nat) : State :=
  let s1 := s.wr CG_STAT CG_STAT.R_JOB (s.jobRestAt s.clk.beat)
  let s2 := (s1.each (List.range 14) (fun u w => u.updSh t w (fun h => h.frame s.clk.beat (s.lead t)))).updTile t
    (fun x => { x with tr := x.tr.frame s.clk.beat (s.lead t) })
  (s2.wr (PH_REST t) PH_REST.R_JOB (s.jobRestAt s.clk.beat)).wr (PH_REST t) PH_REST.R_TILE (s2.tile t).tr.app

/-- The duties of the frame are shown. -/
def State.frameShown (s : State) (t : Nat) (d : Nat → Nat) (n : Nat) : State :=
  s.each (List.range n) (fun u l => u.wr (PH_REST t) ⟨4 * l + 3, 4 * l⟩ (d l))

theorem restFrame_acts (ht : s.tileOk t = true) (hb : s.clk.beat % 16 = 0) :
    s.restFrame t = (s.frameTaken t).frameShown t (fun l => (s.frameTaken t).dutyFrom t l s.clk.beat) 14 := by
  unfold State.restFrame
  rw [ht, hb]
  rfl

theorem frameShown_keeps {β : Type} (π : State → β) (h : ∀ (u : State) (f : Fld) (v : Nat), π (u.wr (PH_REST t) f v) = π u) (d : Nat → Nat) (n : Nat) :
    π (s.frameShown t d n) = π s :=
  each_keeps π (List.range n) (fun u l => u.wr (PH_REST t) ⟨4 * l + 3, 4 * l⟩ (d l)) (fun u l => h u ⟨4 * l + 3, 4 * l⟩ (d l)) s

theorem nibble_ok {l : Nat} (hl : l < 14) : Fld.ok ⟨4 * l + 3, 4 * l⟩ = true := by
  simp only [Fld.ok, Bool.and_eq_true, decide_eq_true_eq]; omega

theorem nibble_apart {l m : Nat} (h : l ≠ m) : Fld.apart ⟨4 * m + 3, 4 * m⟩ ⟨4 * l + 3, 4 * l⟩ = true := by
  simp only [Fld.apart, Bool.or_eq_true, decide_eq_true_eq]; omega

theorem frameShown_duty {l : Nat} (d : Nat → Nat) (hl : l < 14) (hd : d l < 16) : (s.frameShown t d 14).dutyNow t l = d l := by
  have hwidth : Fld.width ⟨4 * l + 3, 4 * l⟩ = 4 := by simp only [Fld.width]; omega
  have hsame (u : State) : (u.wr (PH_REST t) ⟨4 * l + 3, 4 * l⟩ (d l)).dutyNow t l = d l := by
    refine (rd_wr_same _ _ _ _ (nibble_ok hl)).trans ?_
    rw [hwidth]
    exact Nat.mod_eq_of_lt hd
  refine each_list_brings (fun _ => True) (fun u => u.dutyNow t l = d l) (fun u m => u.wr (PH_REST t) ⟨4 * m + 3, 4 * m⟩ (d m)) (x := l)
    (fun u _ => hsame u) (fun _ _ _ _ => trivial) (fun u m _ _ hq => ?_) (List.mem_range.mpr hl) s trivial
  by_cases hlm : l = m
  · subst hlm
    exact hsame u
  · exact (rd_wr_fld _ _ _ _ _ _ (nibble_ok hl) (nibble_apart hlm)).trans hq

theorem frameShown_job (d : Nat → Nat) : (s.frameShown t d 14).rd (PH_REST t) PH_REST.R_JOB = s.rd (PH_REST t) PH_REST.R_JOB :=
  each_mem_keeps (fun u => u.rd (PH_REST t) PH_REST.R_JOB) (List.range 14) (fun u m => u.wr (PH_REST t) ⟨4 * m + 3, 4 * m⟩ (d m))
    (fun u m hm => rd_wr_fld _ _ _ _ _ _ (by decide) (by
      have hm := List.mem_range.mp hm
      exact Bool.or_eq_true_iff.mpr (Or.inl (decide_eq_true (show 4 * m + 3 < 60 by omega))))) s

theorem tileOk_byte (h : s.tileOk t = true) : t < 256 := Nat.lt_trans (of_decide_eq_true h) (rd_lt s HD_TOPO HD_TOPO.TILES)

theorem limA_ge (s : State) (t c : Nat) : -2048 ≤ s.limA t c := by
  show -2048 ≤ signed 12 (s.rd (TH_LIM t c) TH_LIM.LIM_A)
  unfold signed
  split <;> omega

theorem jobRestAt_lt (s : State) (b : Nat) : s.jobRestAt b < 16 := by
  unfold State.jobRestAt
  split
  · exact rd_lt s CG_STAT CG_STAT.R_NEXT
  · exact rd_lt s CG_STAT CG_STAT.R_JOB

theorem frameTaken_keeps {β : Type} (π : State → β) (hwr : ∀ (u : State) (a : Nat) (f : Fld) (v : Nat), a = CG_STAT ∨ a = PH_REST t → π (u.wr a f v) = π u)
    (hsh : ∀ (u : State) (w : Nat) (f : ShareX → ShareX), π (u.updSh t w f) = π u) (htile : ∀ (u : State) (f : TileX → TileX), π (u.updTile t f) = π u) :
    π (s.frameTaken t) = π s := by
  have heach (u : State) (b ld : Nat) : π (u.each (List.range 14) (fun u w => u.updSh t w (fun h => h.frame b ld))) = π u :=
    each_keeps π (List.range 14) (fun u w => u.updSh t w (fun h => h.frame b ld)) (fun u w => hsh u w _) u
  unfold State.frameTaken
  dsimp only
  rw [hwr _ _ _ _ (Or.inr rfl), hwr _ _ _ _ (Or.inr rfl), htile, heach, hwr _ _ _ _ (Or.inl rfl)]

theorem frameTaken_fault : (s.frameTaken t).fault = s.fault :=
  frameTaken_keeps State.fault (fun _ _ _ _ _ => rfl) (fun _ _ _ => rfl) (fun _ _ => rfl)

theorem frameTaken_reg {a : Nat} (h1 : a ≠ CG_STAT) (h2 : a ≠ PH_REST t) : (s.frameTaken t).reg a = s.reg a :=
  frameTaken_keeps (fun u => u.reg a) (fun _ b _ _ hb => reg_wr_ne _ _ _ _ _ (by rcases hb with rfl | rfl <;> assumption)) (fun _ _ _ => rfl) (fun _ _ => rfl)

theorem frameTaken_stat : (s.frameTaken t).rd CG_STAT CG_STAT.R_JOB = s.jobRestAt s.clk.beat := by
  have hne : CG_STAT ≠ PH_REST t := by simp only [CG_STAT, PH_REST, phBase]; omega
  have heach (u : State) (b ld : Nat) : (u.each (List.range 14) (fun u w => u.updSh t w (fun h => h.frame b ld))).reg CG_STAT = u.reg CG_STAT :=
    each_keeps (fun u => u.reg CG_STAT) (List.range 14) (fun u w => u.updSh t w (fun h => h.frame b ld)) (fun _ _ => rfl) u
  have htile (u : State) (f : TileX → TileX) : (u.updTile t f).reg CG_STAT = u.reg CG_STAT := rfl
  have hreg : (s.frameTaken t).reg CG_STAT = (s.wr CG_STAT CG_STAT.R_JOB (s.jobRestAt s.clk.beat)).reg CG_STAT := by
    unfold State.frameTaken
    dsimp only
    rw [reg_wr_ne _ _ _ _ _ hne, reg_wr_ne _ _ _ _ _ hne, htile, heach]
  rw [rd_of_reg hreg, rd_wr_same _ _ _ _ (by decide)]
  exact Nat.mod_eq_of_lt (jobRestAt_lt s _)

theorem frameTaken_job : (s.frameTaken t).rd (PH_REST t) PH_REST.R_JOB = s.jobRestAt s.clk.beat := by
  unfold State.frameTaken
  dsimp only
  rw [rd_wr_fld _ _ _ _ _ _ (by decide) (by decide), rd_wr_same _ _ _ _ (by decide)]
  exact Nat.mod_eq_of_lt (jobRestAt_lt s _)

end

/-- Settles O48: readings, throttle, CLR_PEAK, rest frames and job rest, each by the lemma about its part above. -/
theorem heatAndRest : Obligations.HeatAndRest := by
  unfold Obligations.HeatAndRest
  refine ⟨?valid, ?broken, ?hot, ?throttle, ?peaks, ?frame, ?commit, ?miss⟩
  case valid =>
    intro u ch s hr hh hb hbad hp
    refine ⟨s.thermalRound u ch, rfl, ?_⟩
    have hview := (reading_of_view (thermalRound_view hr hh hb)).trans (roundSlope_reading (s := s.renew u ch))
    have hrange := corrected_range s u ch
    rw [renew_valid hb hbad hp] at hview
    simp only [State.reading, Prod.mk.injEq] at hview
    obtain ⟨ht, hv, hbr⟩ := hview
    exact ⟨ht.trans (readingOf_temp s u ch hrange.1 hrange.2), hv.trans (readingOf_valid s u ch _), hbr.trans ((readingOf_broken s u ch _).trans hb)⟩
  case broken =>
    intro u ch s hr hh hb hbad hlim
    refine ⟨s.thermalRound u ch, rfl, ?_⟩
    have hview := thermalRound_view hr hh hb
    have hmin : -2048 ≤ s.limA u ch := limA_ge s u ch
    have hbroken := brokenOf_broken (s := s.readingOf u ch (s.limA u ch + 8)) (t := u) (c := ch) true
    rw [renew_broken hbad, roundSlope_broken hbroken] at hview
    simp only [State.thermView, Prod.mk.injEq] at hview
    obtain ⟨ht, hs, -, hbr⟩ := hview
    exact ⟨ht.trans ((brokenOf_temp true).trans (readingOf_temp s u ch (by omega) (by omega))), hs.trans (brokenOf_slope true), hbr.trans hbroken⟩
  case hot =>
    intro u ch s ht hm hr hb hbad hp
    exact ⟨s.hotListEval u, rfl, hotListEval_temp ht hm hr ⟨rfl, hb, hbad, hp⟩⟩
  case throttle =>
    intro u w ch s hq ht hw hn hc hr hlim hsl
    have hx : exec (.throttleStep u w) s = .next (s.throttleStep u w) := done_quiet _ (by
      rw [throttleStep_acts ht hw hn hc hr hlim hsl]
      exact hq)
    rw [hx, throttleStep_acts ht hw hn hc hr hlim hsl]
    exact ⟨_, rfl, setTherm_same _, setTherm_nibble hw (by omega), fun a ha => setTherm_reg (by simpa using ha)⟩
  case peaks =>
    intro u d s hq hal hu ht hc hd
    have honly : s.onlyRegs (s.peaksCleared u) := peaksCleared_onlyRegs
    have hfault : (s.peaksCleared u).fault = s.fault := onlyRegs_fault honly
    have hport : (s.peaksCleared u).port = s.port := onlyRegs_port honly
    have hal' : (s.peaksCleared u).alone := by
      unfold State.alone
      rw [hport]
      exact hal
    have hx := hostOp_effect (show exec (.clrPeak u d) s = hostOp s (TH_CTRL u) d (·.thCtrlWrite u d) from rfl) ht (thCtrlWrite_clears hd hc) hal'
      ((congrArg (·.now) hfault : _ = s.fault.now).trans hq)
    have hpeak : ∀ ch ∈ s.channels u, (s.peaksCleared u).rd (TH_CH u ch) TH_CH.PEAK = s.rd (TH_CH u ch) TH_CH.TEMP := fun ch hm => peaksCleared_peak hm
    have hrest : State.sameBut ((s.channels u).map (TH_CH u)) s (s.peaksCleared u) := peaksCleared_rest
    generalize s.peaksCleared u = v at hx hpeak hrest honly hport
    refine ⟨_, hx, hpeak, hrest, ?_, ?_⟩
    · unfold State.onlyRegsPort
      unfold State.onlyRegs at honly
      rw [← honly]
      rfl
    · unfold State.answered
      rw [hport]
  case frame =>
    intro u s hq ht hb
    have hu : u < 256 := tileOk_byte ht
    have hfault : ((s.frameTaken u).frameShown u (fun l => (s.frameTaken u).dutyFrom u l s.clk.beat) 14).fault = s.fault :=
      (frameShown_keeps State.fault (fun _ _ _ => rfl) _ _).trans frameTaken_fault
    have hx : exec (.restFrame u) s = .next (s.restFrame u) := done_quiet _ (by
      rw [restFrame_acts ht hb]
      exact (congrArg (·.now) hfault : _ = s.fault.now).trans hq)
    have hreg (a : Nat) (d : Nat → Nat) (ha : a ≠ PH_REST u) : ((s.frameTaken u).frameShown u d 14).reg a = (s.frameTaken u).reg a :=
      frameShown_keeps (fun v => v.reg a) (fun _ _ _ => reg_wr_ne _ _ _ _ _ ha) d 14
    rw [hx, restFrame_acts ht hb]
    refine ⟨_, rfl, ?_, (frameShown_job _).trans frameTaken_job, fun l hl => ?_, fun a ha => ?_⟩
    · rw [rd_of_reg (hreg _ _ (by simp only [CG_STAT, PH_REST, phBase]; omega))]
      exact frameTaken_stat
    · have hduty (d : Nat → Nat) : ((s.frameTaken u).frameShown u d 14).dutyFrom u l s.clk.beat = (s.frameTaken u).dutyFrom u l s.clk.beat :=
        frameShown_keeps (fun v => v.dutyFrom u l s.clk.beat) (fun v f n => dutyFrom_wr hu f n l s.clk.beat) d 14
      rw [hduty]
      exact fun h => frameShown_duty _ hl h
    · simp only [List.mem_cons, List.not_mem_nil, or_false, not_or] at ha
      exact (hreg a _ ha.2).trans (frameTaken_reg ha.1 ha.2)
  case commit =>
    intro r s hq hag hr
    have he : s.jobRestCommit = { s.wr CG_STAT CG_STAT.R_NEXT r with gov := { s.gov with committed := true, nextAt := s.gov.applyAt } } := by
      unfold State.jobRestCommit
      rw [hag]
    have hx : exec .jobRestCommit s = .next s.jobRestCommit := done_quiet _ (by
      rw [he]
      exact hq)
    rw [hx, he]
    exact ⟨_, rfl, (rd_wr_same s CG_STAT CG_STAT.R_NEXT r (by decide)).trans (Nat.mod_eq_of_lt hr), rfl, rfl,
      fun a ha => reg_wr_ne s _ _ _ _ (by simpa using ha)⟩
  case miss =>
    intro s hag hsolo
    refine ⟨s.jobRestCommit, rfl, ?_⟩
    have hr : max (s.rd CG_STAT CG_STAT.R_JOB) (s.rd CG_STAT CG_STAT.R_NEED) < 16 :=
      max_lt (rd_lt s CG_STAT CG_STAT.R_JOB) (rd_lt s CG_STAT CG_STAT.R_NEED)
    unfold State.jobRestCommit
    rw [hag, hsolo]
    refine ⟨?_, List.mem_append_right _ List.mem_cons_self, ?_⟩
    · exact (flag_wr_fld (s.wr CG_STAT CG_STAT.LOCK_MISS 1) _ _ _ _ _ (by decide) (by decide)).trans (flag_wr_one s _ _ (by decide))
    · exact (rd_wr_same (s.wr CG_STAT CG_STAT.LOCK_MISS 1) CG_STAT CG_STAT.R_NEXT _ (by decide)).trans (Nat.mod_eq_of_lt hr)

end Sys2Proof.Machine

/-! PROOFS. What the sequencers, the cluster map and the Pumphouses' wells leave of the Wellhead's other registers (R56, R70, R74). -/

namespace Sys2Proof.Machine

open Sys2Proof

/-- Registers of the Wellhead that neither the cluster map and the sequencers nor a Pumphouse holds. -/
def headReg (b : Nat) : Prop := b < 0x50000 ∨ (0x60800 ≤ b ∧ b < 0x100000)

theorem headReg_not_tile {a : Nat} (h : 0x100000 ≤ a) : ¬ headReg a := by simp only [headReg]; omega
theorem headReg_ne {a b : Nat} (hb : headReg b) (h : 0x100000 ≤ a) : b ≠ a := fun e => headReg_not_tile h (e ▸ hb)
theorem headReg_not_ph (t k : Nat) : ¬ headReg (phBase t + k) := headReg_not_tile (Nat.le_trans (phBase_ge t) (Nat.le_add_right _ _))
theorem headReg_not_wl (t w k : Nat) : ¬ headReg (wlBase t w + k) := headReg_not_tile (Nat.le_trans (wlBase_ge t w) (Nat.le_add_right _ _))
theorem headReg_not_sq {n : Nat} (h : n < 8) : ¬ headReg (SQ_STAT n) := by simp only [headReg, SQ_STAT]; omega
theorem headReg_not_map {t k : Nat} (ht : t < 256) (hk : k < 96) : ¬ headReg (PL_MAP (96 * t + k)) := by simp only [headReg, PL_MAP]; omega

/-- The Wellhead's other registers stand. -/
def State.headKept (s u : State) : Prop := ∀ b, headReg b → u.reg b = s.reg b

section
variable {s u v : State} {t w : Nat}

theorem State.headKept.refl (s : State) : s.headKept s := fun _ _ => rfl
theorem State.headKept.trans (h1 : s.headKept u) (h2 : u.headKept v) : s.headKept v := fun b hb => (h2 b hb).trans (h1 b hb)

theorem headKept_of_regs (h : u.regs = s.regs) : s.headKept u := fun b _ => by simp only [State.reg, h]

theorem headKept_wr {a : Nat} (f : Fld) (n : Nat) (h : ¬ headReg a) (s : State) : s.headKept (s.wr a f n) :=
  fun _ hb => reg_wr_ne _ _ _ _ _ fun e => h (e ▸ hb)

theorem headKept_setReg {a : Nat} (d : Word) (h : ¬ headReg a) (s : State) : s.headKept (s.setReg a d) :=
  fun b hb => (reg_setReg s a b d).trans (if_neg fun (e : b = a) => h (e ▸ hb))

theorem headKept_each {α : Type} (l : List α) (f : State → α → State) (h : ∀ u, ∀ e ∈ l, State.headKept u (f u e)) (s : State) : s.headKept (s.each l f) :=
  fun b hb => each_mem_keeps (fun u => u.reg b) l f (fun u e he => h u e he b hb) s

theorem headKept_on (c : Bool) {f : State → State} (h : s.headKept (f s)) : s.headKept (s.on c f) := by
  unfold State.on
  split
  · exact h
  · exact State.headKept.refl s

/-! ### Wells -/

theorem headKept_gateOn (k : Nat) (f : Fld) (s : State) : s.headKept (s.gateOn t k f) :=
  fun b hb => gateOn_reg s t k f b (headReg_ne hb (by simp only [PH_CLPWR, phBase]; omega))

theorem headKept_primeViewOf (s : State) : s.headKept (s.primeViewOf t w) :=
  fun b hb => primeViewOf_reg s t w b fun c _ => headReg_ne hb (by simp only [PH_PRIME, phBase]; omega)

theorem headKept_endTracks (s : State) : s.headKept (s.endTracks t w) :=
  fun b hb => endTracks_reg s t w b (fun _ _ => headReg_ne hb (by simp only [WL_TRACK, wlBase, phBase]; omega))
    fun _ _ => headReg_ne hb (by simp only [WL_PROF_STAT, wlBase, phBase]; omega)

theorem headKept_unprime (s : State) : s.headKept (s.unprime t w) := by
  unfold State.unprime
  split
  · have hstage := headKept_wr (a := WL_SETPT t w) WL_SETPT.STAGE stDry (headReg_not_wl _ _ _) s
    have hwin (x : State) := headKept_wr (a := AD_WIN t w) AD_WIN.RUN 0 (headReg_not_tile (by simp only [AD_WIN, phBase]; omega)) x
    have htrack (x : State) := headKept_wr (a := WL_TRACK t w) WL_TRACK.ACTIVE 0 (headReg_not_wl _ _ _) x
    have hmo (x : State) (f : Motion → Motion) : x.headKept (x.updMo t w f) := headKept_of_regs rfl
    have hpumps (x : State) (l : List Nat) : x.headKept (x.each l (fun u p => u.updPump t w p (fun q => { q with measuring := false }))) := by
      refine headKept_each l _ (fun _ _ _ => ?_) x
      exact headKept_of_regs rfl
    exact hstage.trans ((headKept_endTracks _).trans ((hwin _).trans ((htrack _).trans ((hmo _ _).trans ((hpumps _ _).trans (headKept_primeViewOf _))))))
  · exact State.headKept.refl s

theorem headKept_dropPend (s : State) : s.headKept (s.dropPend t w) := by
  unfold State.dropPend
  split
  · exact State.headKept.refl s
  · refine (headKept_wr (a := WL_VOTE t w) _ _ (headReg_not_wl _ _ _) s).trans (headKept_each _ _ (fun u k _ => ?_) _)
    dsimp only
    split <;> exact headKept_of_regs rfl

/-! ### Sequencers -/

theorem headKept_releaseWells (n : Nat) (s : State) : s.headKept (s.releaseWells n) := by
  have hwr (x : State) (t w : Nat) (f : Fld) (v : Nat) : x.headKept (x.wr (WL_SETPT t w) f v) := headKept_wr f v (headReg_not_wl _ _ _) x
  unfold State.releaseWells
  exact (headKept_of_regs (s := s) (u := s.updSq n _) rfl).trans (headKept_each _ _ (fun u g _ => (hwr u _ _ _ _).trans ((hwr _ _ _ _ _).trans (headKept_dropPend _))) _)

theorem headKept_cancelWait (n : Nat) (s : State) : s.headKept (s.cancelWait n) := by
  unfold State.cancelWait
  dsimp only
  split_ifs
  · exact State.headKept.refl s
  · exact headKept_each _ _ (fun u g _ => headKept_unprime u) s
  · refine headKept_each _ _ (fun u g _ => ?_) s
    exact headKept_of_regs rfl
  · refine headKept_each _ _ (fun u g _ => ?_) s
    exact headKept_of_regs rfl
  · exact State.headKept.refl s

theorem headKept_seqAbort {n : Nat} (hn : n < 8) (c : Nat) (s : State) : s.headKept (s.seqAbort n c) := by
  have hwr (x : State) (f : Fld) (v : Nat) : x.headKept (x.wr (SQ_STAT n) f v) := headKept_wr f v (headReg_not_sq hn) x
  have hsq (x : State) (f : SeqX → SeqX) : x.headKept (x.updSq n f) := headKept_of_regs rfl
  unfold State.seqAbort
  exact (headKept_cancelWait n s).trans ((hsq _ _).trans ((hwr _ _ _).trans ((hwr _ _ _).trans (headKept_releaseWells n _))))

theorem headKept_abortPrograms (s : State) : s.headKept s.abortPrograms := by
  refine headKept_each (List.range 8) _ (fun u n hn => ?_) s
  split
  · exact State.headKept.refl u
  · exact headKept_seqAbort (List.mem_range.mp hn) 1 u

/-! ### The cluster map and a slice that is unbound -/

theorem headKept_govGate {k : Nat} (ht : t < 256) (hk : k < 96) (hold : Bool) (s : State) : s.headKept (s.govGate t k hold) := by
  have hmap (v : Nat) := headKept_wr PL_MAP.GATED v (headReg_not_map ht hk) s
  unfold State.govGate
  split_ifs
  · exact (hmap 1).trans (headKept_gateOn k _ _)
  · exact (hmap 0).trans (headKept_wr (a := PH_CLPWR t k) _ _ (headReg_not_tile (by simp only [PH_CLPWR, phBase]; omega)) _)
  · exact State.headKept.refl s

theorem headKept_setMapState {k : Nat} (ht : t < 256) (hk : k < 96) (st : Nat) (s : State) : s.headKept (s.setMapState t k st) := by
  have hoff (x : State) : x.headKept (x.gateOff t k PH_CLPWR.C_VOTE) :=
    headKept_wr (a := PH_CLPWR t k) _ _ (headReg_not_tile (by simp only [PH_CLPWR, phBase]; omega)) x
  have hset (c : Bool) : s.headKept ((s.wr (PL_MAP (96 * t + k)) PL_MAP.STATE st).on c (·.gateOff t k PH_CLPWR.C_VOTE)) :=
    (headKept_wr _ _ (headReg_not_map ht hk) s).trans (headKept_on c (hoff _))
  unfold State.setMapState
  dsimp only
  split_ifs
  · exact (hset _).trans (headKept_govGate ht hk _ _)
  · exact hset _
  · exact (hset _).trans (headKept_govGate ht hk _ _)

theorem headKept_mapWork (ht : t < 256) (s : State) : s.headKept (s.mapWork t) := by
  unfold State.mapWork
  refine (headKept_each (List.range 96) _ (fun u k hk => ?_) s).trans (headKept_each _ _ (fun u w _ => ?_) _)
  · dsimp only
    split
    · exact headKept_setMapState ht (List.mem_range.mp hk) _ u
    · exact State.headKept.refl u
  · unfold State.evacuated
    split <;> exact headKept_of_regs rfl

theorem headKept_unbindNow (ht : t < 256) (s : State) : s.headKept (s.unbindNow t) := by
  have hds := headKept_wr (a := DS_STAT t) DS_STAT.STATE dsUnbound (headReg_not_ph _ _) s
  have hid (x : State) := headKept_setReg (a := DS_ID t) 0 (headReg_not_ph _ _) x
  have hupd (x : State) (f : SliceX → SliceX) : x.headKept (x.updDs t f) := headKept_of_regs rfl
  have hheld (x : State) : x.headKept (x.gateHeld t) := headKept_of_regs rfl
  exact hds.trans ((hid _).trans ((hupd _ _).trans ((hheld _).trans (headKept_mapWork ht _))))

theorem headKept_unbindForImage (ht : t < 256) (s : State) : s.headKept (s.unbindForImage t) := by
  have hstat (x : State) (f : Fld) (v : Nat) : x.headKept (x.wr (DS_STAT t) f v) := headKept_wr f v (headReg_not_ph _ _) x
  have hstop : s.headKept (s.stopSlice t) := by
    unfold State.stopSlice
    split <;> exact headKept_of_regs rfl
  unfold State.unbindForImage
  split_ifs
  · exact (headKept_unbindNow ht s).trans ((hstat _ _ _).trans (hstat _ _ _))
  · exact State.headKept.refl s
  · exact hstop.trans (headKept_unbindNow ht _)

theorem allTiles_lt {n : Nat} (h : n ∈ s.allTiles) : n < 256 := Nat.lt_trans (List.mem_range.mp h) (rd_lt s HD_TOPO HD_TOPO.TILES)

/-! ### Priming -/

theorem headKept_fullPower (s : State) : s.headKept (s.fullPower t) := by
  have hwr (x : State) (f : Fld) (v : Nat) : x.headKept (x.wr (AD_STAT t) f v) := headKept_wr f v (headReg_not_ph _ _) x
  unfold State.fullPower
  split
  · exact (hwr s _ _).trans ((hwr _ _ _).trans (headKept_of_regs rfl))
  · exact State.headKept.refl s

theorem headKept_primeBegin (s : State) : s.headKept (s.primeBegin t w) := by
  have hpwr (x : State) : x.headKept (x.wr (PH_PWR t) PH_PWR.STATE 2) := headKept_wr _ _ (headReg_not_ph _ _) x
  have hgates (x : State) : x.headKept (x.each (fedClusters w) (fun u k => u.gateOn t k PH_CLPWR.C_DRY)) :=
    headKept_each _ _ (fun u k _ => headKept_gateOn k _ u) x
  have hstage (x : State) : x.headKept (x.setStage t w stCal) := headKept_wr (a := WL_SETPT t w) _ _ (headReg_not_wl _ _ _) x
  have hwin (x : State) : x.headKept (x.wr (AD_WIN t w) AD_WIN.RUN 1) := headKept_wr _ _ (headReg_not_tile (by simp only [AD_WIN, phBase]; omega)) x
  have hmo (x : State) (f : Motion → Motion) : x.headKept (x.updMo t w f) := headKept_of_regs rfl
  have hpumps (x : State) (l : List Nat) (b : Bool) : x.headKept (x.each l (fun u p => u.updPump t w p (fun q => { q with measuring := b }))) := by
    refine headKept_each l _ (fun _ _ _ => ?_) x
    exact headKept_of_regs rfl
  have hend (x : State) (h : s.headKept x) (f : Motion → Motion) (l : State → List Nat) (b : Bool) : s.headKept (State.each
      ((((x.each (fedClusters w) (fun u k => u.gateOn t k PH_CLPWR.C_DRY)).setStage t w stCal).wr (AD_WIN t w) AD_WIN.RUN 1).updMo t w f)
      (l ((((x.each (fedClusters w) (fun u k => u.gateOn t k PH_CLPWR.C_DRY)).setStage t w stCal).wr (AD_WIN t w) AD_WIN.RUN 1).updMo t w f))
      (fun u p => u.updPump t w p (fun q => { q with measuring := b }))) :=
    h.trans ((hgates _).trans ((hstage _).trans ((hwin _).trans ((hmo _ _).trans (hpumps _ _ _)))))
  unfold State.primeBegin
  dsimp only
  refine hend _ ?_ _ (fun x => x.pumpsOf t w) _
  split
  · exact (headKept_fullPower s).trans (hpwr _)
  · exact headKept_fullPower s

theorem headKept_safeStepStart (k : Nat) (s : State) : s.headKept (s.safeStepStart t k) := by
  unfold State.safeStepStart
  refine (headKept_of_regs (s := s) (u := s.setSafe t _) rfl).trans (headKept_each _ _ (fun u w _ => ?_) _)
  unfold State.safeWellStart
  split
  · exact (headKept_primeBegin u).trans (headKept_of_regs rfl)
  · exact State.headKept.refl u

theorem headKept_safeLimits (s : State) : s.headKept (s.safeLimits t) := by
  have hnco (x : State) : x.headKept (x.loadNco t) := headKept_of_regs rfl
  unfold State.safeLimits
  refine (headKept_each _ _ (fun u a ha => headKept_setReg _ ?_ u) s).trans (hnco _)
  simp only [List.mem_cons, List.mem_append, List.mem_map] at ha
  rcases ha with rfl | ⟨w, _, rfl⟩ | ⟨c, _, rfl⟩
  · exact headReg_not_ph _ _
  · exact headReg_not_wl _ _ _
  · exact headReg_not_tile (by simp only [TH_LIM, phBase]; omega)

end

end Sys2Proof.Machine

/-! PROOFS. Loading an image: START, the words, ABORT and the stall (R67-R73). -/

namespace Sys2Proof.Machine

open Sys2Proof

/-- A line of the index's first part is the line of its register. -/
theorem rowOf_head {s : State} {off : Nat} {r : RegRow} (hoff : off < 0x100000) (h : findRow wellheadRows1 0 off = some r) : s.rowOf off = some r := by
  have hfix : ∀ r ∈ wellheadRows1, r.perTile = 0 := by decide
  have hpart : findRow wellheadRows1 s.tileCount off = some r := by
    rw [← h]
    unfold findRow
    refine List.find?_congr fun r hr => ?_
    simp only [RegRow.holds, hfix r hr, Nat.zero_mul]
  have hplace : place off = .wellhead off := by simp only [place, if_pos hoff]
  unfold findRow at hpart
  simp only [State.rowOf, hplace, findRow, wellheadRows, List.find?_append, hpart, Option.some_or]

/-- The index's line of HD_IMG_CTRL. -/
def imgCtrlRow : RegRow := ⟨0, 0x2000, 1, 0, 1, 0, 0xFFFFFFFF00000F00, 0x0, 0xF, 0xFFFFF0F0, 0⟩

theorem imgCtrl_row (s : State) : s.rowOf HD_IMG_CTRL = some imgCtrlRow := rowOf_head (by decide) (by decide)

section
variable {s u : State} {t w : Nat}

/-! ### HD_IMG_CTRL takes its word (R73) -/

theorem imgCtrl_stored (s : State) (d : Word) :
    s.plainWrite HD_IMG_CTRL d = s.setReg HD_IMG_CTRL (plainWord imgCtrlRow HD_IMG_CTRL d (s.reg HD_IMG_CTRL)) := by
  simp only [State.plainWrite, imgCtrl_row]

theorem imgCtrl_length (s : State) (d : Word) : (s.plainWrite HD_IMG_CTRL d).rd HD_IMG_CTRL HD_IMG_CTRL.LENGTH = HD_IMG_CTRL.LENGTH.get d := by
  rw [imgCtrl_stored, State.rd, reg_setReg, if_pos rfl]
  exact plainWord_get rfl (by decide) (by decide) _ _ _

theorem imgCtrl_reg (d : Word) {b : Nat} (h : b ≠ HD_IMG_CTRL) : (s.plainWrite HD_IMG_CTRL d).reg b = s.reg b := plainWrite_reg s _ b d h

theorem imgCtrl_state (s : State) (d : Word) : (s.plainWrite HD_IMG_CTRL d).imgState = s.imgState := rd_of_reg (imgCtrl_reg d (by decide)) _
theorem imgCtrl_safe (s : State) (d : Word) : (s.plainWrite HD_IMG_CTRL d).safeOn = s.safeOn := flag_of_reg (imgCtrl_reg d (by decide)) _
theorem imgCtrl_tiles (s : State) (d : Word) : (s.plainWrite HD_IMG_CTRL d).tileCount = s.tileCount := rd_of_reg (imgCtrl_reg d (by decide)) _

theorem imgCtrl_dry (s : State) (d : Word) : (s.plainWrite HD_IMG_CTRL d).wellsDry = s.wellsDry := by
  have hstage (t w : Nat) : (s.plainWrite HD_IMG_CTRL d).stage t w = s.stage t w :=
    rd_of_reg (imgCtrl_reg d (by simp only [WL_SETPT, wlBase, phBase, HD_IMG_CTRL]; omega)) _
  simp only [State.wellsDry, State.allTiles, imgCtrl_tiles, hstage]

theorem imgCtrl_start {d : Word} (same : Bool) (h1 : HD_IMG_CTRL.START.get d = 1) (h2 : HD_IMG_CTRL.ABORT.get d = 0) (h3 : HD_IMG_CTRL.SAFE_NOW.get d = 0)
    (h4 : HD_IMG_CTRL.SAFE_STOP.get d = 0) : s.imgCtrlWrite d same = (s.plainWrite HD_IMG_CTRL d).imgStart := by
  simp only [State.imgCtrlWrite, h1, h2, h3, h4]
  rfl

theorem imgCtrl_abort {d : Word} (same : Bool) (h1 : HD_IMG_CTRL.START.get d = 0) (h2 : HD_IMG_CTRL.ABORT.get d = 1) (h3 : HD_IMG_CTRL.SAFE_NOW.get d = 0)
    (h4 : HD_IMG_CTRL.SAFE_STOP.get d = 0) : s.imgCtrlWrite d same = (s.plainWrite HD_IMG_CTRL d).imgAbort same := by
  simp only [State.imgCtrlWrite, h1, h2, h3, h4]
  rfl

/-! ### START (R69, R70) -/

/-- An accepted START: the slot is empty, LOADING, and what the image before had started is over. -/
def State.loadingBegun (s : State) : State :=
  let s1 := (s.each s.allTiles (fun u t => u.unbindForImage t)).abortPrograms
  let s2 := ((s1.wr HD_IMG_STAT HD_IMG_STAT.STATE 1).wr HD_IMG_STAT HD_IMG_STAT.WORDS 0).wr HD_IMG_STAT HD_IMG_STAT.ABORT 0
  ((s2.setReg HD_IMG_ID 0).setReg HD_IMG_ERR 0).updLoad (fun l => { l with
    slot := []
    len := s.rd HD_IMG_CTRL HD_IMG_CTRL.LENGTH
    link := decide (s.rd HD_IMG_CTRL HD_IMG_CTRL.SRC = 1)
    passed := false
    abort := false
    stopped := false
    safeDue := false })

theorem pullFeed_idle (h : s.pullState = 0) : s.pullFeed = s := by
  unfold State.pullFeed
  dsimp only
  rw [h]
  rfl

theorem loadingBegun_reg {b : Nat} (hb : headReg b) (h1 : b ≠ HD_IMG_STAT) (h2 : b ≠ HD_IMG_ID) (h3 : b ≠ HD_IMG_ERR) : s.loadingBegun.reg b = s.reg b := by
  have hstop : s.headKept (s.each s.allTiles (fun u t => u.unbindForImage t)).abortPrograms :=
    (headKept_each _ _ (fun u t ht => headKept_unbindForImage (allTiles_lt ht) u) s).trans (headKept_abortPrograms _)
  have hwr (x : State) (f : Fld) (v : Nat) : (x.wr HD_IMG_STAT f v).reg b = x.reg b := reg_wr_ne _ _ _ _ _ h1
  have hid (x : State) : (x.setReg HD_IMG_ID 0).reg b = x.reg b := (reg_setReg _ _ _ _).trans (if_neg h2)
  have herr (x : State) : (x.setReg HD_IMG_ERR 0).reg b = x.reg b := (reg_setReg _ _ _ _).trans (if_neg h3)
  have hload (x : State) (f : LoadX → LoadX) : (x.updLoad f).reg b = x.reg b := rfl
  unfold State.loadingBegun
  dsimp only
  rw [hload, herr, hid, hwr, hwr, hwr]
  exact hstop b hb

theorem imgStart_begins (hs : s.imgState = 0 ∨ s.imgState = 4 ∨ s.imgState = 5) (hd : s.wellsDry = true) (hp : s.pullState = 0) : s.imgStart = s.loadingBegun := by
  have hpull : s.loadingBegun.pullState = 0 := (rd_of_reg (loadingBegun_reg (by simp only [headReg, CL_PULL_STAT]; omega) (by decide) (by decide) (by decide)) _).trans hp
  unfold State.imgStart
  rw [if_pos ⟨hs, Or.inl hd⟩]
  exact pullFeed_idle hpull

theorem loadingBegun_shows : s.loadingBegun.imgState = 1 ∧ s.loadingBegun.load.slot = [] ∧ s.loadingBegun.load.len = s.rd HD_IMG_CTRL HD_IMG_CTRL.LENGTH ∧
    s.loadingBegun.rd HD_IMG_STAT HD_IMG_STAT.WORDS = 0 ∧ s.loadingBegun.reg HD_IMG_ID = 0 ∧ s.loadingBegun.reg HD_IMG_ERR = 0 := by
  have hid (x : State) (d : Word) : (x.setReg HD_IMG_ERR d).reg HD_IMG_ERR = d := (reg_setReg _ _ _ _).trans (if_pos rfl)
  have hid' (x : State) (d : Word) : ((x.setReg HD_IMG_ID d).setReg HD_IMG_ERR 0).reg HD_IMG_ID = d :=
    (reg_setReg _ _ _ _).trans ((if_neg (by decide)).trans ((reg_setReg _ _ _ _).trans (if_pos rfl)))
  have hstat (x : State) (d : Word) (f : Fld) : ((x.setReg HD_IMG_ID d).setReg HD_IMG_ERR 0).rd HD_IMG_STAT f = x.rd HD_IMG_STAT f :=
    rd_of_reg ((reg_setReg _ _ _ _).trans ((if_neg (by decide)).trans ((reg_setReg _ _ _ _).trans (if_neg (by decide))))) f
  unfold State.loadingBegun
  dsimp only
  generalize (s.each s.allTiles (fun u t => u.unbindForImage t)).abortPrograms = x
  refine ⟨(hstat _ _ _).trans ?_, rfl, rfl, (hstat _ _ _).trans ?_, hid' _ _, hid _ _⟩
  · simp (disch := decide) only [rd_wr_fld, rd_wr_same]
    rfl
  · simp (disch := decide) only [rd_wr_fld, rd_wr_same]
    rfl

theorem imgStart_refused (hd : s.wellsDry = false) (hs : s.safeOn = false) : s.imgStart = s.imgRefuse :=
  if_neg fun h => by simp [hd, hs] at h

/-! ### The words (R71) -/

theorem imgWord_reg {b : Nat} (d : Word) (h : b ≠ HD_IMG_STAT) : (s.imgWord d).reg b = s.reg b := by
  have hwr (x : State) (f : Fld) (v : Nat) : (x.wr HD_IMG_STAT f v).reg b = x.reg b := reg_wr_ne _ _ _ _ _ h
  unfold State.imgWord
  dsimp only
  split
  · exact (hwr _ _ _).trans (hwr s _ _)
  · exact hwr s _ _

/-- The word is in the slot and counted. -/
def State.wordTaken (s : State) (d : Word) : State :=
  (s.wr HD_IMG_STAT HD_IMG_STAT.WORDS (s.rd HD_IMG_STAT HD_IMG_STAT.WORDS + 1)).updLoad
    (fun l => { l with slot := if l.slot.length < 524288 then l.slot ++ [d] else l.slot })

theorem imgWord_eq (d : Word) : s.imgWord d =
    if s.rd HD_IMG_STAT HD_IMG_STAT.WORDS + 1 = s.load.len then (s.wordTaken d).wr HD_IMG_STAT HD_IMG_STAT.STATE 2 else s.wordTaken d := rfl

theorem wordTaken_words {d : Word} (h : s.rd HD_IMG_STAT HD_IMG_STAT.WORDS + 1 < 2 ^ 32) :
    (s.wordTaken d).rd HD_IMG_STAT HD_IMG_STAT.WORDS = s.rd HD_IMG_STAT HD_IMG_STAT.WORDS + 1 :=
  (rd_wr_same s HD_IMG_STAT HD_IMG_STAT.WORDS _ (by decide)).trans (Nat.mod_eq_of_lt h)

theorem wordTaken_state (d : Word) : (s.wordTaken d).imgState = s.imgState := rd_wr_fld s _ _ _ _ _ (by decide) (by decide)

theorem imgWord_shows {d : Word} (hs : s.imgState = 1) (hl : s.load.slot.length < 524288) (hn : s.rd HD_IMG_STAT HD_IMG_STAT.WORDS + 1 < 2 ^ 32) :
    (s.imgWord d).load.slot = s.load.slot ++ [d] ∧ (s.imgWord d).rd HD_IMG_STAT HD_IMG_STAT.WORDS = s.rd HD_IMG_STAT HD_IMG_STAT.WORDS + 1 ∧
    (s.imgWord d).imgState = (if s.rd HD_IMG_STAT HD_IMG_STAT.WORDS + 1 = s.load.len then 2 else 1) := by
  have hslot : (s.wordTaken d).load.slot = s.load.slot ++ [d] := if_pos hl
  rw [imgWord_eq]
  split
  · exact ⟨hslot, (rd_wr_fld _ _ _ _ _ _ (by decide) (by decide)).trans (wordTaken_words hn), rd_wr_same _ _ _ _ (by decide)⟩
  · exact ⟨hslot, wordTaken_words hn, (wordTaken_state d).trans hs⟩

theorem imgWord_rest (d : Word) : (s.imgWord d).fault = s.fault ∧ (s.imgWord d).port = s.port := by
  rw [imgWord_eq]
  split <;> exact ⟨rfl, rfl⟩

/-! ### A record that is no life-cycle or stop record (R357) -/

theorem enq_plain_reg (q : Rec) (h3 : q.type ≠ 3) (h4 : q.type ≠ 4) {b : Nat} (hb : b ∉ sideRegs) : (s.enq q).reg b = s.reg b := by
  have hun (y : State) : y.unrecorded q = y := by simp [State.unrecorded, h3, h4]
  have he : b ≠ ER_STAT := fun e => hb (by simp [sideRegs, e])
  unfold State.enq State.dropRec
  split_ifs
  · rw [hun]
  · exact (restart_reg _ _).trans (setQueue_reg _ _ _ he)
  · rw [hun]
    exact bump_reg s ER_STAT b he hb

/-- Such a record changes no more than registers, the clock, what pends and the recorder. -/
theorem enq_plain_rest (q : Rec) (h3 : q.type ≠ 3) (h4 : q.type ≠ 4) : { s.enq q with regs := s.regs, clk := s.clk, intc := s.intc, rcd := s.rcd } = s := by
  have hun (y : State) : y.unrecorded q = y := by simp [State.unrecorded, h3, h4]
  have hbump : (⟨s.regs, (s.bump ER_STAT).fuses, s.clk, (s.bump ER_STAT).port, (s.bump ER_STAT).sb, (s.bump ER_STAT).tap, (s.bump ER_STAT).lc,
      (s.bump ER_STAT).fault, s.intc, (s.bump ER_STAT).img, (s.bump ER_STAT).load, (s.bump ER_STAT).link, s.rcd, (s.bump ER_STAT).flash,
      (s.bump ER_STAT).seqs, (s.bump ER_STAT).wells, (s.bump ER_STAT).pumps, (s.bump ER_STAT).clusters, (s.bump ER_STAT).tiles, (s.bump ER_STAT).plan,
      (s.bump ER_STAT).gov, (s.bump ER_STAT).capEvents, (s.bump ER_STAT).freeCtr, (s.bump ER_STAT).pending⟩ : State) = s := bump_rest s ER_STAT
  unfold State.enq State.dropRec
  split_ifs
  · rw [hun]
  · unfold State.restart
    split <;> rfl
  · rw [hun]
    exact hbump

theorem record_plain_reg {ty : Nat} (trig : Nat) (l : List Word) (h3 : ty ≠ 3) (h4 : ty ≠ 4) {b : Nat} (hb : b ∉ sideRegs) : (s.record ty trig l).reg b = s.reg b :=
  enq_plain_reg _ h3 h4 hb

theorem record_plain_rest {ty : Nat} (trig : Nat) (l : List Word) (h3 : ty ≠ 3) (h4 : ty ≠ 4) :
    { s.record ty trig l with regs := s.regs, clk := s.clk, intc := s.intc, rcd := s.rcd } = s := enq_plain_rest _ h3 h4

/-! ### The end in VOID (R68, R73) -/

theorem imgErr_code {c : Nat} (sect word : Nat) (h : c < 256) : HD_IMG_ERR.CODE.get (imgErr c sect word) = c :=
  (Fld.get_set _ _ _ (by decide)).trans (Nat.mod_eq_of_lt h)

/-- The registers and the slot of a load that has ended in VOID. -/
def State.voidMarked (s : State) (code sect word : Nat) : State :=
  (((s.wr HD_IMG_STAT HD_IMG_STAT.STATE 5).wr HD_IMG_STAT HD_IMG_STAT.REJECTED 1).setReg HD_IMG_ERR (imgErr code sect word)).updLoad (fun l => { l with
    slot := []
    passed := false
    abort := false
    safeDue := !s.safeOn || l.parking })

theorem voidLoad_eq (code sect word : Nat) : s.voidLoad code sect word =
    (((s.voidMarked code sect word).safeOver.raiseW { src := 1 }).record 6 0 [imgErr code sect word, (s.voidMarked code sect word).reg HD_IMG_ID]).pend 144 := rfl

/-- What a load that ended in VOID shows (R67, R68). -/
def State.voidShown (s : State) (code : Nat) : Prop :=
  s.imgState = 5 ∧ s.rd HD_IMG_ERR HD_IMG_ERR.CODE = code ∧ s.flag HD_IMG_STAT HD_IMG_STAT.REJECTED = true ∧ s.load.slot = []

theorem voidMarked_shown {code : Nat} (sect word : Nat) (h : code < 256) : (s.voidMarked code sect word).voidShown code := by
  have hstat (x : State) (d : Word) (f : Fld) : (x.setReg HD_IMG_ERR d).rd HD_IMG_STAT f = x.rd HD_IMG_STAT f :=
    rd_of_reg ((reg_setReg _ _ _ _).trans (if_neg (by decide))) f
  have herr (x : State) (d : Word) : (x.setReg HD_IMG_ERR d).reg HD_IMG_ERR = d := (reg_setReg _ _ _ _).trans (if_pos rfl)
  refine ⟨(hstat _ _ _).trans ?_, ?_, ?_, rfl⟩
  · exact (rd_wr_fld _ _ _ _ _ _ (by decide) (by decide)).trans (rd_wr_same s _ _ _ (by decide))
  · exact (congrArg HD_IMG_ERR.CODE.get (herr _ _)).trans (imgErr_code sect word h)
  · show (((s.wr HD_IMG_STAT HD_IMG_STAT.STATE 5).wr HD_IMG_STAT HD_IMG_STAT.REJECTED 1).setReg HD_IMG_ERR _).rd HD_IMG_STAT HD_IMG_STAT.REJECTED == 1
    rw [hstat, rd_wr_same _ _ _ _ (by decide)]
    rfl

theorem voidShown_of {code : Nat} (h1 : u.rd HD_IMG_STAT HD_IMG_STAT.STATE = s.rd HD_IMG_STAT HD_IMG_STAT.STATE)
    (h2 : u.rd HD_IMG_STAT HD_IMG_STAT.REJECTED = s.rd HD_IMG_STAT HD_IMG_STAT.REJECTED) (h3 : u.reg HD_IMG_ERR = s.reg HD_IMG_ERR)
    (h4 : u.load.slot = s.load.slot) (h : s.voidShown code) : u.voidShown code := by
  obtain ⟨ha, hb, hc, hd⟩ := h
  exact ⟨h1.trans ha, (rd_of_reg h3 _).trans hb, by rwa [State.flag, h2], h4.trans hd⟩

theorem safeOver_shown {code : Nat} (h : s.voidShown code) : s.safeOver.voidShown code := by
  unfold State.safeOver
  split
  · exact voidShown_of (rd_wr_fld s _ _ _ _ _ (by decide) (by decide)) (rd_wr_fld s _ _ _ _ _ (by decide) (by decide)) (reg_wr_ne _ _ _ _ _ (by decide)) rfl h
  · exact h

theorem voidLoad_shown {code : Nat} (sect word : Nat) (h : code < 256) :
    (s.voidLoad code sect word).voidShown code ∧ { src := 1 } ∈ (s.voidLoad code sect word).fault.now := by
  rw [voidLoad_eq]
  have hx : ((s.voidMarked code sect word).safeOver.raiseW { src := 1 }).voidShown code := safeOver_shown (voidMarked_shown sect word h)
  have hr : ({ src := 1 } : Raise) ∈ ((s.voidMarked code sect word).safeOver.raiseW { src := 1 }).fault.now := List.mem_append_right _ List.mem_cons_self
  generalize (s.voidMarked code sect word).safeOver.raiseW { src := 1 } = x at hx hr
  generalize [imgErr code sect word, (s.voidMarked code sect word).reg HD_IMG_ID] = l
  have hreg (b : Nat) (h1 : b ≠ IC_SRC 144) (h2 : b ∉ sideRegs) : ((x.record 6 0 l).pend 144).reg b = x.reg b :=
    (pend_reg _ 144 b h1 h2).trans (record_plain_reg 0 l (by decide) (by decide) h2)
  have hload : ((x.record 6 0 l).pend 144).load = x.load :=
    (congrArg State.load (pend_rest (x.record 6 0 l) 144) :).trans (congrArg State.load (record_plain_rest (s := x) (ty := 6) 0 l (by decide) (by decide)) :)
  have hfault : ((x.record 6 0 l).pend 144).fault = x.fault :=
    (congrArg State.fault (pend_rest (x.record 6 0 l) 144) :).trans (congrArg State.fault (record_plain_rest (s := x) (ty := 6) 0 l (by decide) (by decide)) :)
  have hstat := hreg HD_IMG_STAT (by decide) (by decide)
  exact ⟨voidShown_of (rd_of_reg hstat _) (rd_of_reg hstat _) (hreg HD_IMG_ERR (by decide) (by decide)) (by rw [hload]) hx, by rwa [hfault]⟩

end

/-- Settles O27: START, the words, ABORT and the stall, each by the lemma about its part above. -/
theorem imageLoads : Obligations.ImageLoads := by
  unfold Obligations.ImageLoads
  refine ⟨?start, ?word, ?denied, ?abort, ?stall⟩
  case start =>
    intro d s ht h1 h2 h3 h4 hs
    have hst : (s.plainWrite HD_IMG_CTRL d).imgState = 0 ∨ (s.plainWrite HD_IMG_CTRL d).imgState = 4 ∨ (s.plainWrite HD_IMG_CTRL d).imgState = 5 := by
      rw [imgCtrl_state]
      exact hs
    refine ⟨fun hd hp => ?_, fun hd hsafe => ?_⟩
    · refine yieldsAnswered_of_takes (f := (·.imgCtrlWrite d false)) rfl ht ?_
      have hpull : (s.plainWrite HD_IMG_CTRL d).pullState = 0 := (rd_of_reg (imgCtrl_reg d (by decide)) _).trans hp
      show State.imgState (s.imgCtrlWrite d false) = 1 ∧ _
      rw [imgCtrl_start false h1 h2 h3 h4, imgStart_begins hst ((imgCtrl_dry s d).trans hd) hpull, ← imgCtrl_length s d]
      exact loadingBegun_shows
    · refine yieldsAnswered_of_takes (f := (·.imgCtrlWrite d false)) rfl ht ?_
      show State.flag (s.imgCtrlWrite d false) _ _ = true ∧ _
      rw [imgCtrl_start false h1 h2 h3 h4, imgStart_refused ((imgCtrl_dry s d).trans hd) ((imgCtrl_safe s d).trans hsafe)]
      refine ⟨flag_wr_one _ _ _ (by decide), (rd_wr_fld _ _ _ _ _ _ (by decide) (by decide)).trans (imgCtrl_state s d), ?_, fun a ha => ?_⟩
      · exact (congrArg State.load (plainWrite_rest s HD_IMG_CTRL d) :)
      · simp only [List.mem_cons, List.not_mem_nil, or_false, not_or] at ha
        exact (reg_wr_ne _ _ _ _ _ ha.2).trans (imgCtrl_reg d ha.1)
  case word =>
    intro d s hq hal hs hlink hl hn
    obtain ⟨hslot, hwords, hstate⟩ := imgWord_shows (d := d) hs hl hn
    obtain ⟨hfault, hport⟩ := imgWord_rest (s := s) d
    have hal' : (s.imgWord d).alone := by
      unfold State.alone
      rw [hport]
      exact hal
    have hx : exec (.hdImgDataWrite d) s = .next ((s.imgWord d).answered rOkay 0) := by
      show execHdImgDataWrite d s = _
      unfold execHdImgDataWrite
      rw [if_pos ⟨hs, hlink⟩, answer_alone _ _ _ hal']
      exact done_quiet _ ((congrArg (·.now) hfault : _ = s.fault.now).trans hq)
    refine ⟨_, hx, hslot, hwords, hstate, fun a ha => imgWord_reg d (by simpa using ha), ?_⟩
    unfold State.answered
    rw [hport]
  case denied =>
    intro d s hs
    exact ⟨_, if_neg fun h => hs h.1, rfl⟩
  case abort =>
    intro d s ht h1 h2 h3 h4 hs
    have hst : (s.plainWrite HD_IMG_CTRL d).imgState = 1 ∨ (s.plainWrite HD_IMG_CTRL d).imgState = 2 := by
      rw [imgCtrl_state]
      exact hs
    refine yieldsAnswered_of_takes (f := (·.imgCtrlWrite d false)) rfl ht ?_
    show State.imgState (s.imgCtrlWrite d false) = 5 ∧ _
    have he : s.imgCtrlWrite d false = (s.plainWrite HD_IMG_CTRL d).abortLoad := (imgCtrl_abort false h1 h2 h3 h4).trans (if_pos hst)
    rw [he]
    generalize s.plainWrite HD_IMG_CTRL d = x
    obtain ⟨⟨hstate, hcode, -, hslot⟩, hraise⟩ := voidLoad_shown (s := x) (code := 0x0F) 0xFF 0 (by decide)
    exact ⟨(rd_wr_fld _ _ _ _ _ _ (by decide) (by decide)).trans hstate, (rd_wr_ne _ _ _ _ _ _ (by decide)).trans hcode, rd_wr_same _ _ _ _ (by decide), hslot, hraise⟩
  case stall =>
    intro s hs
    refine ⟨s.imageStall, rfl, ?_⟩
    have he : s.imageStall = s.voidLoad 5 0xFF 0 := if_pos hs
    rw [he]
    obtain ⟨⟨hstate, hcode, hrej, hslot⟩, hraise⟩ := voidLoad_shown (s := s) (code := 5) 0xFF 0 (by decide)
    exact ⟨hstate, hcode, hrej, hslot, hraise⟩

end Sys2Proof.Machine

/-! PROOFS. What the operations on one well leave of any part of the state that none of their elementary steps touches. -/

namespace Sys2Proof.Machine

open Sys2Proof

/-- A part of the state that the elementary steps of the operations on well `v` of tile `t` leave: writes of registers, of the clusters' wires,
of the well's pumps, of the ties and what is shared, of the well's motion, and the end of another well's tracking. -/
structure WellFrame {β : Type} (t v : Nat) (π : State → β) : Prop where
  wr : ∀ (u : State) (a : Nat) (f : Fld) (n : Nat), π (u.wr a f n) = π u
  cl : ∀ (u : State) (k : Nat) (f : ClusterX → ClusterX), π (u.updCl t k f) = π u
  pump : ∀ (u : State) (p : Nat) (f : PumpX → PumpX), π (u.updPump t v p f) = π u
  sh : ∀ (u : State) (w : Nat) (f : ShareX → ShareX), π (u.updSh t w f) = π u
  mo : ∀ (u : State) (f : Motion → Motion), π (u.updMo t v f) = π u
  track : ∀ (u : State) (w : Nat), π (u.updMo t w (fun m => { m with v := 0, a := 0 })) = π u
  tie : ∀ (u : State) (f : TileX → List (Nat × Nat)), π (u.updTile t (fun x => { x with tieOff := f x })) = π u
  power : ∀ (u : State), π (u.updTile t (fun x => { x with sar := { x.sar with c2 := { x.sar.c2 with pos := 0 } } })) = π u

namespace WellFrame

section
variable {β : Type} {t v : Nat} {π : State → β} (F : WellFrame t v π)
include F

theorem untie (s : State) (w n : Nat) : π (s.untie t w n) = π s := by
  unfold State.untie
  dsimp only
  split_ifs
  · rw [F.sh, F.wr]
  · split
    · rw [F.sh, F.wr, F.wr, F.wr]
    · rw [F.sh, F.wr, F.wr, F.wr, F.wr, F.wr]
  · rfl

theorem openTie (s : State) (n : Nat) : π (s.openTie t n) = π s := by
  unfold State.openTie
  dsimp only
  rw [F.untie, F.untie, F.wr]
  refine (F.tie _ fun x => ?_).trans (F.wr _ _ _ _)

theorem openTies (s : State) (w : Nat) : π (s.openTies t w) = π s := by
  unfold State.openTies
  split
  · refine each_keeps π _ (fun u n => if u.tieOn t n then u.openTie t n else u) (fun u n => ?_) s
    split
    · exact F.openTie u n
    · rfl
  · rfl

theorem penLow (s : State) (p : Nat) : π (s.penLow t v p) = π s := by
  unfold State.penLow
  dsimp only
  rw [F.pump]
  split
  · exact (F.wr _ _ _ _).trans ((F.wr _ _ _ _).trans (F.wr _ _ _ _))
  · exact (F.wr _ _ _ _).trans (F.wr _ _ _ _)

theorem dropWell (s : State) : π (s.dropWell t v) = π s := by
  unfold State.dropWell
  rw [F.mo, F.openTies]
  exact each_keeps π _ (fun u p => u.penLow t v p) (fun u p => F.penLow u p) s

theorem gateOn (s : State) (k : Nat) (f : Fld) : π (s.gateOn t k f) = π s := by
  unfold State.gateOn
  rw [F.cl, F.wr, F.wr, F.wr]

theorem gateDry (s : State) (w : Nat) : π (s.gateDry t w) = π s :=
  each_keeps π _ (fun u k => u.gateOn t k PH_CLPWR.C_DRY) (fun u k => F.gateOn u k _) s

theorem primeViewOf (s : State) (w : Nat) : π (s.primeViewOf t w) = π s := by
  unfold State.primeViewOf State.primeView
  split
  · dsimp only
    rw [wri_eq, F.wr, F.wr, F.wr]
  · rfl

theorem endTracks (s : State) (w : Nat) : π (s.endTracks t w) = π s := by
  refine each_keeps π _ (fun u f => ((u.wr (WL_TRACK t f) WL_TRACK.ACTIVE 0).wr (WL_PROF_STAT t f) WL_PROF_STAT.TRACKING 0).updMo t f
    (fun m => { m with v := 0, a := 0 })) (fun u f => ?_) s
  rw [F.track, F.wr, F.wr]

theorem measuring (s : State) (l : List Nat) (b : Bool) : π (s.each l (fun u p => u.updPump t v p (fun q => { q with measuring := b }))) = π s :=
  each_keeps π l (fun u p => u.updPump t v p (fun q => { q with measuring := b })) (fun u p => F.pump u p _) s

theorem unprime (s : State) : π (s.unprime t v) = π s := by
  unfold State.unprime
  split
  · dsimp only
    rw [F.primeViewOf, F.measuring, F.mo, F.wr, F.wr, F.endTracks]
    exact F.wr _ _ _ _
  · rfl

theorem setPmd (s : State) (b : Bool) : π (s.setPmd t v b) = π s :=
  each_keeps π _ (fun u p => u.wrb (PM_LINK t v p) PM_LINK.PMD b) (fun u _ => F.wr u _ _ _) s

theorem parkBegin (s : State) (b : Bool) : π (s.parkBegin t v b) = π s := by
  have hgate : π (s.each (fedClusters v) (fun u k => u.gateOn t k PH_CLPWR.C_DRY)) = π s := F.gateDry s v
  unfold State.parkBegin
  dsimp only
  rw [F.primeViewOf, F.mo, F.setPmd, F.wr, F.wr]
  exact (F.wr _ _ _ _).trans hgate

theorem parkSafe (s : State) : π (s.parkSafe t v) = π s := by
  unfold State.parkSafe
  dsimp only
  split_ifs
  · exact (F.mo _ _).trans (F.unprime s)
  · exact F.parkBegin s false
  · rfl

theorem fullPower (s : State) : π (s.fullPower t) = π s := by
  unfold State.fullPower
  split
  · rw [F.power, F.wr, F.wr]
  · rfl

theorem primeBegin (s : State) : π (s.primeBegin t v) = π s := by
  have hgate (x : State) : π (x.each (fedClusters v) (fun u k => u.gateOn t k PH_CLPWR.C_DRY)) = π x := F.gateDry x v
  unfold State.primeBegin
  dsimp only
  rw [F.measuring, F.mo, F.wr, State.setStage, F.wr, hgate]
  split
  · exact (F.wr _ _ _ _).trans (F.fullPower s)
  · exact F.fullPower s

end

end WellFrame

end Sys2Proof.Machine

/-! PROOFS. Safe priming: its start, its steps, SAFE_STOP and the end of parking (R68, R74-R76). -/

namespace Sys2Proof.Machine

open Sys2Proof

section
variable {s u : State} {t w : Nat}

theorem imgCtrl_safeNow {d : Word} (h1 : HD_IMG_CTRL.START.get d = 0) (h2 : HD_IMG_CTRL.ABORT.get d = 0) (h3 : HD_IMG_CTRL.SAFE_NOW.get d = 1)
    (h4 : HD_IMG_CTRL.SAFE_STOP.get d = 0) : s.imgCtrlWrite d false = (s.plainWrite HD_IMG_CTRL d).safeNowCmd := by
  simp only [State.imgCtrlWrite, h1, h2, h3, h4]
  rfl

theorem imgCtrl_safeStop {d : Word} (h1 : HD_IMG_CTRL.START.get d = 0) (h2 : HD_IMG_CTRL.ABORT.get d = 0) (h3 : HD_IMG_CTRL.SAFE_NOW.get d = 0)
    (h4 : HD_IMG_CTRL.SAFE_STOP.get d = 1) : s.imgCtrlWrite d false = (s.plainWrite HD_IMG_CTRL d).safeStopCmd := by
  simp only [State.imgCtrlWrite, h1, h2, h3, h4]
  rfl

/-! ### The start (R74, R75) -/

/-- The image and the load lie outside of what a well's operations touch. -/
theorem imgFrame (t w : Nat) : WellFrame t w (fun u => (u.img, u.load)) where
  wr _ _ _ _ := rfl
  cl _ _ _ := rfl
  pump _ _ _ := rfl
  sh _ _ _ := rfl
  mo _ _ := rfl
  track _ _ := rfl
  tie _ _ := rfl
  power _ := rfl

theorem safeWellStart_frame {β : Type} {π : State → β} (F : WellFrame t w π) (s : State) : π (s.safeWellStart t w) = π s := by
  unfold State.safeWellStart
  split
  · exact (F.mo _ _).trans (F.primeBegin s)
  · rfl

theorem safeStepStart_img (k : Nat) (s : State) : ((s.safeStepStart t k).img, (s.safeStepStart t k).load) = (s.img, s.load) :=
  each_keeps (fun u => (u.img, u.load)) (safeWells k) (fun u w => u.safeWellStart t w) (fun u w => safeWellStart_frame (imgFrame t w) u)
    (s.setSafe t (fun x => { x with step := k, parkAt := none }))

theorem safeLimits_img (s : State) : ((s.safeLimits t).img, (s.safeLimits t).load) = (s.img, s.load) := by
  have hnco (x : State) : ((x.loadNco t).img, (x.loadNco t).load) = (x.img, x.load) := rfl
  unfold State.safeLimits
  exact (hnco _).trans (each_keeps (fun u => (u.img, u.load)) _ (fun u a => u.setReg a (regReset a)) (fun _ _ => rfl) s)

/-- Safe priming is shown as running, and the fused topology rates the wells. -/
def State.safeMarked (s : State) : State :=
  let s1 := (s.wr HD_IMG_STAT HD_IMG_STAT.SAFE 1).updLoad (fun l => { l with safeDue := false, parking := false })
  { s1 with img := { s1.img with topo := [], trip := 2560 } }

/-- Every cluster is gated. -/
def State.allGated (s : State) : State := s.each s.allTiles (fun u t => u.each (List.range 96) (fun v k => v.gateOn t k PH_CLPWR.C_DRY))

theorem safeStart_eq (s : State) : s.safeStart =
    s.safeMarked.allGated.each s.safeMarked.allGated.allTiles (fun u t => (u.safeLimits t).safeStepStart t 1) := rfl

theorem safeStart_img (s : State) : (s.safeStart.img, s.safeStart.load) = (s.safeMarked.img, s.safeMarked.load) := by
  have hgated : (s.safeMarked.allGated.img, s.safeMarked.allGated.load) = (s.safeMarked.img, s.safeMarked.load) :=
    each_keeps (fun u => (u.img, u.load)) _ (fun u t => u.each (List.range 96) (fun v k => v.gateOn t k PH_CLPWR.C_DRY))
      (fun u t => each_keeps (fun u => (u.img, u.load)) (List.range 96) (fun v k => v.gateOn t k PH_CLPWR.C_DRY) (fun _ _ => rfl) u) s.safeMarked
  rw [safeStart_eq]
  exact (each_keeps (fun u => (u.img, u.load)) _ (fun u t => (u.safeLimits t).safeStepStart t 1)
    (fun u _ => (safeStepStart_img 1 _).trans (safeLimits_img u)) _).trans hgated

theorem safeStart_head (s : State) : s.safeMarked.headKept s.safeStart := by
  rw [safeStart_eq]
  have hgate : s.safeMarked.headKept s.safeMarked.allGated :=
    headKept_each _ _ (fun u t _ => headKept_each _ _ (fun v k _ => headKept_gateOn k PH_CLPWR.C_DRY v) u) s.safeMarked
  refine hgate.trans ?_
  exact headKept_each _ _ (fun u t _ => (headKept_safeLimits u).trans (headKept_safeStepStart 1 _)) _

/-- What the start of safe priming shows. -/
theorem safeStart_shows (s : State) : s.safeStart.safeOn = true ∧ s.safeStart.img.topo = [] ∧ s.safeStart.img.trip = 2560 ∧
    s.safeStart.imgState = s.imgState ∧ s.safeStart.load.safeDue = false := by
  have hstat : s.safeStart.reg HD_IMG_STAT = s.safeMarked.reg HD_IMG_STAT := safeStart_head s _ (Or.inl (by decide))
  have himg : s.safeStart.img = s.safeMarked.img := congrArg Prod.fst (safeStart_img s)
  have hload : s.safeStart.load = s.safeMarked.load := congrArg Prod.snd (safeStart_img s)
  refine ⟨(flag_of_reg hstat _).trans (flag_wr_one s _ _ (by decide)), by rw [himg]; rfl, by rw [himg]; rfl,
    (rd_of_reg hstat _).trans (rd_wr_fld s _ _ _ _ _ (by decide) (by decide)), by rw [hload]; rfl⟩

/-! ### The steps (R75) -/

theorem setSafe_safe (f : SafeX → SafeX) : ((s.setSafe t f).tile t).safe = f (s.tile t).safe := by
  unfold State.setSafe
  rw [updTile_same]

/-- A tile's step of safe priming lies outside of what a well's operations touch. -/
theorem safeFrame (t w : Nat) : WellFrame t w (fun u => (u.tile t).safe) where
  wr _ _ _ _ := rfl
  cl _ _ _ := rfl
  pump _ _ _ := rfl
  sh _ _ _ := rfl
  mo _ _ := rfl
  track _ _ := rfl
  tie u f := by rw [updTile_same]
  power u := by rw [updTile_same]

theorem safeStepStart_step (k : Nat) (s : State) : ((s.safeStepStart t k).tile t).safe.step = k := by
  have heach : ((s.safeStepStart t k).tile t).safe = ((s.setSafe t (fun x => { x with step := k, parkAt := none })).tile t).safe :=
    each_keeps (fun u => (u.tile t).safe) (safeWells k) (fun u w => u.safeWellStart t w) (fun u w => safeWellStart_frame (safeFrame t w) u) _
  rw [heach, setSafe_safe]

theorem safePrimeStep_next (hon : s.safeOn = true) (hb : s.loaderBusy = false) (ht : t < s.tileCount) (hp : (s.tile t).safe.parkAt = none)
    (h1 : 1 ≤ (s.tile t).safe.step) (h5 : (s.tile t).safe.step < 5) (hall : ∀ w, w ∈ safeWells (s.tile t).safe.step → s.safeInBand t w = true) :
    s.safePrimeStep t = s.safeStepStart t ((s.tile t).safe.step + 1) := by
  have hk : s.tileOk t = true := decide_eq_true ht
  have hband : (safeWells (s.tile t).safe.step).all (fun w => s.safeInBand t w) = true := List.all_eq_true.mpr hall
  unfold State.safePrimeStep
  dsimp only
  rw [hon, hb, hk, hp, decide_eq_true h1, decide_eq_true h5, hband]
  rfl

/-! ### SAFE_STOP before a step has begun (R76) -/

theorem parkTile_idle (h : (s.tile t).safe.step = 0) : ∃ x, s.parkTile t = s ∨ s.parkTile t = s.setSafe t (fun y => { y with parkAt := x }) := by
  refine ⟨some s.clk.ns, ?_⟩
  unfold State.parkTile
  split
  · exact Or.inl rfl
  · rw [h]
    exact Or.inr rfl

/-- No tile has a step under way, and safe priming parks. -/
def State.idlePark (s : State) : Prop :=
  (∀ u, u < s.tileCount → (s.tile u).safe.step = 0) ∧ s.safeOn = true ∧ s.load.parking = true ∧ s.load.passed = false

theorem setSafe_step (n : Nat) (x : Option Nat) : ((s.setSafe t (fun y => { y with parkAt := x })).tile n).safe.step = (s.tile n).safe.step := by
  by_cases h : n = t
  · subst h
    rw [setSafe_safe]
  · rw [State.setSafe, State.updTile, tile_setTile, if_neg h]

theorem parkTile_keeps_idle (h : s.idlePark) (ht : t < s.tileCount) : (s.parkTile t).idlePark := by
  obtain ⟨hstep, hrest⟩ := h
  obtain ⟨x, hx | hx⟩ := parkTile_idle (hstep t ht)
  · rw [hx]
    exact ⟨hstep, hrest⟩
  · rw [hx]
    exact ⟨fun n hn => (setSafe_step n x).trans (hstep n hn), hrest⟩

theorem parkTile_tiles (h : s.idlePark) (ht : t < s.tileCount) : (s.parkTile t).tileCount = s.tileCount := by
  obtain ⟨x, hx | hx⟩ := parkTile_idle (h.1 t ht)
  · rw [hx]
  · rw [hx]
    rfl

theorem parkTiles_idle (l : List Nat) (hl : ∀ t ∈ l, t < s.tileCount) (h : s.idlePark) : (s.each l (fun u t => u.parkTile t)).idlePark := by
  induction l generalizing s with
  | nil => exact h
  | cons t l ih =>
    have ht := hl t List.mem_cons_self
    exact ih (fun n hn => (parkTile_tiles h ht).symm ▸ hl n (List.mem_cons_of_mem _ hn)) (parkTile_keeps_idle h ht)

theorem safeOver_ends (h : s.idlePark) : s.safeOver = (s.wr HD_IMG_STAT HD_IMG_STAT.SAFE 0).updLoad (fun l => { l with parking := false }) := by
  obtain ⟨hstep, hon, hpark, hpass⟩ := h
  have hall : s.allTiles.all (fun t => (s.tile t).safe.step == 0) = true :=
    List.all_eq_true.mpr fun t ht => beq_iff_eq.mpr (hstep t (List.mem_range.mp ht))
  unfold State.safeOver
  rw [hon, hpark, hpass, hall]
  rfl

theorem parkAll_ends (h : ∀ u, u < s.tileCount → (s.tile u).safe.step = 0) (hon : s.safeOn = true) (hp : s.load.passed = false) :
    s.parkAll.safeOn = false ∧ s.parkAll.load.parking = false := by
  have hidle : State.idlePark ((s.updLoad (fun l => { l with parking := true })).each s.allTiles (fun u t => u.parkTile t)) :=
    parkTiles_idle s.allTiles (fun t ht => List.mem_range.mp ht) ⟨h, hon, rfl, hp⟩
  unfold State.parkAll
  rw [safeOver_ends hidle]
  exact ⟨flag_wr_zero _ _ _ (by decide), rfl⟩

/-! ### The end of parking (R76) -/

/-- A well that has not begun to park parks (R76). -/
def State.parkNow (s : State) (t w : Nat) : State := if s.stage t w = stPark then s else s.parkSafe t w

/-- PEN falls on the pumps of a well that parks. -/
def State.parkFall (s : State) (t w : Nat) : State :=
  if s.stage t w = stPark ∧ (s.mo t w).dropPend = false then (s.updMo t w (fun m => { m with parkTimedOut := true })).dropWell t w else s

/-- One well's part as the 5 ms of parking are over. -/
def State.parkCut (s : State) (t w : Nat) : State := (s.parkNow t w).parkFall t w

theorem safeParkTimeout_eq (h : (s.tile t).safe.parkAt.isSome = true) (ht : t < s.tileCount) :
    s.safeParkTimeout t = s.each (List.range 14) (fun u w => u.parkCut t w) := if_pos ⟨h, decide_eq_true ht⟩

/-- What another well's operations leave of a well: its motion's flag, the image and the fuses. -/
theorem dropFrame {v : Nat} (h : w ≠ v) : WellFrame t v (fun u => ((u.mo t w).dropPend, u.img, u.fuses)) where
  wr _ _ _ _ := rfl
  cl _ _ _ := rfl
  pump _ _ _ := rfl
  sh u x f := by
    by_cases hx : w = x
    · subst hx
      simp [State.updSh, State.mo]
    · simp [State.updSh, State.mo, hx]
  mo u f := by simp [State.updMo, State.mo, h]
  track u x := by
    by_cases hx : w = x
    · subst hx
      simp [State.updMo, State.mo]
    · simp [State.updMo, State.mo, hx]
  tie _ _ := rfl
  power _ := rfl

theorem parkCut_frame {β : Type} {π : State → β} (F : WellFrame t w π) (s : State) : π (s.parkCut t w) = π s := by
  have hpark : π (s.parkNow t w) = π s := by
    unfold State.parkNow
    split
    · rfl
    · exact F.parkSafe s
  unfold State.parkCut State.parkFall
  split
  · exact (F.dropWell _).trans ((F.mo _ _).trans hpark)
  · exact hpark

/-- A well's stage and its pumps' links and states are none of the registers that another well writes as it goes DRY. -/
theorem dryClear_other {v o : Nat} (hv : v < 14) (hw : w < 14) (h : w ≠ v) (h1 : 0x40 ≤ o) (h2 : o ≤ 0x50) : DryClear t v (wlBase t w + o) where
  side := by simp only [sideRegs, wlBase, phBase, ER_STAT, IC_SAT_ADDR, IC_SRC, HD_PWR_STAT, List.mem_cons, List.not_mem_nil, or_false, not_or]; omega
  clpwr := by simp only [wlBase, PH_CLPWR]; omega
  tie := by simp only [wlBase, PH_TIE]; omega
  cist := by simp only [wlBase, PH_CIST]; omega
  prime := by simp only [wlBase, PH_PRIME]; omega
  eng := by simp only [wlBase, PH_ENG_STAT]; omega
  win := by simp only [wlBase, AD_WIN]; omega
  wtie := by simp only [wlBase, WL_TIE]; omega
  track := by simp only [wlBase, WL_TRACK]; omega
  prof := by simp only [wlBase, WL_PROF_STAT]; omega
  well := by
    intro k hk
    simp only [List.mem_cons, List.not_mem_nil, or_false] at hk
    simp only [wlBase]
    omega

theorem parkCut_reg {v o : Nat} (hv : v < 14) (hw : w < 14) (h : w ≠ v) (h1 : 0x40 ≤ o) (h2 : o ≤ 0x50) (s : State) :
    (s.parkCut t v).reg (wlBase t w + o) = s.reg (wlBase t w + o) := by
  have hpark : (s.parkNow t v).reg (wlBase t w + o) = s.reg (wlBase t w + o) := by
    unfold State.parkNow State.parkSafe
    dsimp only
    split_ifs
    · rfl
    · exact unprime_reg (by omega) (dryClear_other hv hw h h1 h2)
    · refine parkBegin_reg s t v false ?_ ?_ ?_ ?_ ?_ <;> simp only [PH_CLPWR, WL_SETPT, WL_PROF_STAT, PM_LINK, PH_PRIME, wlBase] <;> intros <;> omega
    · rfl
  have hmo (x : State) (f : Motion → Motion) : (x.updMo t v f).reg (wlBase t w + o) = x.reg (wlBase t w + o) := rfl
  unfold State.parkCut State.parkFall
  split
  · refine Eq.trans (dropWell_reg ?_ ?_ ?_ ?_) ((hmo _ _).trans hpark) <;> simp only [PM_LINK, PM_STAT, PH_TIE, PH_CIST, WL_TIE, wlBase] <;> intros <;> omega
  · exact hpark

/-- A well that parks and has not fallen yet, with the pump installed. -/
def State.parksYet (s : State) (t w p : Nat) : Prop := s.stage t w = stPark ∧ (s.mo t w).dropPend = false ∧ p < s.installed t w

/-- A well that has fallen. -/
def State.parkFallen (s : State) (t w p : Nat) : Prop := s.flag (PM_LINK t w p) PM_LINK.PEN = false ∧ (s.mo t w).dropPend = true

theorem parkCut_drops {p : Nat} (hw : w < 14) (h : s.parksYet t w p) : (s.parkCut t w).parkFallen t w p := by
  obtain ⟨hst, hd, hp⟩ := h
  have he : s.parkCut t w = (s.updMo t w (fun m => { m with parkTimedOut := true })).dropWell t w := by
    have hnow : s.parkNow t w = s := if_pos hst
    unfold State.parkCut
    rw [hnow]
    exact if_pos ⟨hst, hd⟩
  have hinst : (s.updMo t w (fun m => { m with parkTimedOut := true })).installed t w = s.installed t w := rfl
  have hstage : (s.updMo t w (fun m => { m with parkTimedOut := true })).stage t w = stPark := hst
  rw [he]
  refine ⟨(dropWell_out hw (hinst.symm ▸ hp)).1, ?_⟩
  unfold State.dropWell
  rw [updMo_same, hstage]
  rfl

theorem parkCut_other {v p : Nat} (hv : v < 14) (hw : w < 14) (h : w ≠ v) (hp4 : p < 4) (s : State) :
    (s.parkCut t v).stage t w = s.stage t w ∧ (s.parkCut t v).flag (PM_LINK t w p) PM_LINK.PEN = s.flag (PM_LINK t w p) PM_LINK.PEN ∧
    ((s.parkCut t v).mo t w).dropPend = (s.mo t w).dropPend ∧ (s.parkCut t v).installed t w = s.installed t w := by
  have hframe := parkCut_frame (dropFrame (t := t) h) s
  simp only [Prod.mk.injEq] at hframe
  obtain ⟨hdrop, himg, hfuses⟩ := hframe
  have hlink : (s.parkCut t v).reg (PM_LINK t w p) = s.reg (PM_LINK t w p) := by
    have h := parkCut_reg (t := t) (o := 0x40 + p * 4) hv hw h (by omega) (by omega) s
    simpa only [PM_LINK, Nat.add_assoc] using h
  exact ⟨rd_of_reg (parkCut_reg (o := 0x50) hv hw h (by decide) (by decide) s) _, flag_of_reg hlink _, hdrop,
    by simp only [State.installed, State.topoWord, himg, hfuses]⟩

theorem parkTimeout_done {p : Nat} (hw : w < 14) (hp4 : p < 4) (h : s.parksYet t w p) :
    State.parkFallen (s.each (List.range 14) (fun u w => u.parkCut t w)) t w p := by
  refine each_range_brings (fun u => u.parksYet t w p) (fun u => u.parkFallen t w p) (fun u w => u.parkCut t w) hw (fun u hu => parkCut_drops hw hu)
    (fun u v hv hne hu => ?_) (fun u v hv hne hu => ?_) s h
  · obtain ⟨hst, -, hd, hi⟩ := parkCut_other (t := t) hv hw hne.symm hp4 u
    obtain ⟨h1, h2, h3⟩ := hu
    exact ⟨hst.trans h1, hd.trans h2, Nat.lt_of_lt_of_eq h3 hi.symm⟩
  · obtain ⟨-, hl, hd, -⟩ := parkCut_other (t := t) hv hw hne.symm hp4 u
    exact ⟨hl.trans hu.1, hd.trans hu.2⟩

end

/-- Settles O29: safe priming's start, its steps, SAFE_STOP and the end of parking, each by the lemma about its part above. -/
theorem safePrimingRuns : Obligations.SafePrimingRuns := by
  unfold Obligations.SafePrimingRuns
  refine ⟨?now, ?due, ?stop, ?step, ?timeout⟩
  case now =>
    intro d s ht h1 h2 h3 h4 hs hon
    refine yieldsAnswered_of_takes (f := (·.imgCtrlWrite d false)) rfl ht ?_
    have hcond : ((s.plainWrite HD_IMG_CTRL d).imgState = 0 ∨ (s.plainWrite HD_IMG_CTRL d).imgState = 5) ∧ (s.plainWrite HD_IMG_CTRL d).safeOn = false := by
      rw [imgCtrl_state, imgCtrl_safe]
      exact ⟨hs, hon⟩
    have he : s.imgCtrlWrite d false = (s.plainWrite HD_IMG_CTRL d).safeStart := (imgCtrl_safeNow h1 h2 h3 h4).trans (if_pos hcond)
    show State.safeOn (s.imgCtrlWrite d false) = true ∧ _
    rw [he]
    obtain ⟨ho, htopo, htrip, hst, -⟩ := safeStart_shows (s.plainWrite HD_IMG_CTRL d)
    exact ⟨ho, htopo, htrip, hst.trans (imgCtrl_state s d)⟩
  case due =>
    intro s hdue hs hon
    refine ⟨s.safePrimingStart, rfl, ?_⟩
    have he : s.safePrimingStart = s.safeStart := if_pos ⟨hdue, hs, hon⟩
    rw [he]
    obtain ⟨ho, htopo, -, hst, hd⟩ := safeStart_shows s
    exact ⟨ho, htopo, hd, hst.trans hs⟩
  case stop =>
    intro d s ht h1 h2 h3 h4 hs hon hpark hpass hstep
    refine yieldsAnswered_of_takes (f := (·.imgCtrlWrite d false)) rfl ht ?_
    have hst : (s.plainWrite HD_IMG_CTRL d).imgState = 0 ∨ (s.plainWrite HD_IMG_CTRL d).imgState = 5 := by
      rw [imgCtrl_state]
      exact hs
    have hload : (s.plainWrite HD_IMG_CTRL d).load = s.load := (congrArg State.load (plainWrite_rest s HD_IMG_CTRL d) :)
    have htile (n : Nat) : (s.plainWrite HD_IMG_CTRL d).tile n = s.tile n := (congrArg (fun u : State => u.tile n) (plainWrite_rest s HD_IMG_CTRL d) :)
    have hruns : ((s.plainWrite HD_IMG_CTRL d).safeOn && !(s.plainWrite HD_IMG_CTRL d).load.parking) = true := by
      rw [imgCtrl_safe, hon, hload, hpark]
      rfl
    have he : s.imgCtrlWrite d false = (s.plainWrite HD_IMG_CTRL d).parkAll :=
      (imgCtrl_safeStop h1 h2 h3 h4).trans ((if_pos hst).trans (if_pos hruns))
    show State.safeOn (s.imgCtrlWrite d false) = false ∧ _
    rw [he]
    exact parkAll_ends (fun u hu => (congrArg (fun x : TileX => x.safe.step) (htile u)).trans (hstep u (imgCtrl_tiles s d ▸ hu)))
      ((imgCtrl_safe s d).trans hon) (by rw [hload]; exact hpass)
  case step =>
    intro u s hon hb hu hp h1 h5 hall
    refine ⟨s.safePrimeStep u, rfl, ?_⟩
    rw [safePrimeStep_next hon hb hu hp h1 h5 hall]
    exact safeStepStart_step _ s
  case timeout =>
    intro u w p s hu _ hpark hw hp hpo hst hd
    refine ⟨s.safeParkTimeout u, rfl, ?_⟩
    have hinst : p < s.installed u w := of_decide_eq_true (Bool.and_eq_true_iff.mp hpo).2
    rw [safeParkTimeout_eq hpark hu]
    exact parkTimeout_done hw hp ⟨hst, hd, hinst⟩

end Sys2Proof.Machine

/-! PROOFS. An ABORT of a program that owns a well with a wake held for it (R162, R309). -/

namespace Sys2Proof.Machine

open Sys2Proof

/-- A running program owns well 0 of tile 0, which is in hysteretic mode while a wake is held for it. -/
def wakeHeld : State :=
  { ((State.reset.wr (SQ_STAT 0) SQ_STAT.STATE 1).wr (WL_SETPT 0 0) WL_SETPT.STAGE stHyst).wr (WL_VOTE 0 0) WL_VOTE.WAKE_PEND 1 with
    img := { programs := [(0, [0x10000000])] }
    seqs := [(0, { owned := [0] })] }

theorem wakeHeld_abort : exec (.sqAbort 0) wakeHeld = .next (wakeHeld.sqAbort 0) := done_quiet (wakeHeld.sqAbort 0) (by decide)

/-- With its ownership the well loses the held wake. -/
theorem wakeHeld_released : (wakeHeld.sqAbort 0).reg (WL_VOTE 0 0) ≠ wakeHeld.reg (WL_VOTE 0 0) := by decide

/-- Refutes O40: the ABORT of a program clears WL_VOTE.WAKE_PEND of a well that it gives up and that is no longer DRY, a register that the
second clause holds to be unchanged. -/
theorem not_sequencerRuns : ¬ Obligations.SequencerRuns := by
  unfold Obligations.SequencerRuns
  rintro ⟨-, h, -⟩
  obtain ⟨t, ht, -, -, -, -, hsame⟩ := h 0 wakeHeld rfl (by decide) (by decide) (by decide)
  have htt : wakeHeld.sqAbort 0 = t := Host.Outcome.next.inj (wakeHeld_abort.symm.trans ht)
  exact wakeHeld_released (htt ▸ hsame (WL_VOTE 0 0) (by decide))

end Sys2Proof.Machine

/-! PROOFS. Counterexamples to the statements about fabric time, jobs and pulls: a port's error counter that fills, and a BLOCK reaction of the link. -/

namespace Sys2Proof.Machine

open Sys2Proof

set_option maxRecDepth 100000

/-! ### A frame without a route fills the error counter of its port

The frame is counted at the own port (R372, R377). The count that reaches the last value of a counter is also an event of its own: the
counter's address is shown in IC_SAT_ADDR, where its source is served (R12). -/

/-- Fields of registers set, one after the other. -/
def State.withFields (s : State) (l : List (Nat × Fld × Nat)) : State := l.foldl (fun u e => u.wr e.1 e.2.1 e.2.2) s

/-- A frame as a neighbour sends it. -/
def arriving (ty dst src : Nat) (ws : List Word) : LinkFrame := sealFrame (mkFrame ty dst src 0 ws) 0 0

/-- Port 0 is UP, and nothing else is known of the link. -/
def portZeroUp : State := State.reset.wr (CL_PORT 0) CL_PORT.STATE poUp

/-- Port 0 has one frame to go to the last value of its error counter, and the source of full counters is served. -/
def nearFull (s : State) : State := s.withFields [(CL_PORT 0, CL_PORT.ERRORS, 0xFFFFFFFE), (IC_SRC 148, IC_SRC.PRIO, 1)]

/-- An instance that joins a job whose leader it cannot reach. -/
def joiningBlind : State := nearFull (State.reset.withFields [(CL_JOB, CL_JOB.STATE, jbJoining), (CL_JOB, CL_JOB.LEADER, 7)])

theorem exec_joinRetry_blind : exec .joinRetry joiningBlind = .next joiningBlind.joinRetry := done_quiet _ (by decide)

theorem joiningBlind_shows : joiningBlind.joinRetry.reg IC_SAT_ADDR ≠ joiningBlind.reg IC_SAT_ADDR := by decide

/-- Refutes O59: a JOIN that is sent again without a route to the leader is counted at the own port, and where that fills the counter,
IC_SAT_ADDR changes besides CL_PORT. -/
theorem not_jobsAgree : ¬ Obligations.JobsAgree := by
  unfold Obligations.JobsAgree
  rintro ⟨-, -, h, -⟩
  obtain ⟨t, ht, hretry, -⟩ := h joiningBlind rfl (by decide) (by decide)
  obtain ⟨-, -, hsame, -⟩ := hretry (by decide)
  have htt : joiningBlind.joinRetry = t := Host.Outcome.next.inj (exec_joinRetry_blind.symm.trans ht)
  exact joiningBlind_shows (htt ▸ hsame IC_SAT_ADDR (by decide))

/-- An OPEN of instance 5, which arrives at port 0. -/
def openFrame : LinkFrame := arriving 0x30 0 5 [0]

/-- An instance that hears port 0 and has no route to instance 5. -/
def hearsBlind : State := nearFull portZeroUp

theorem exec_pullOpen_blind :
    exec (.pullOpen 0 openFrame) hearsBlind = .next (hearsBlind.acceptMine 0 0x30 openFrame (·.openCome openFrame)) :=
  done_quiet _ (by decide)

theorem hearsBlind_shows :
    (hearsBlind.acceptMine 0 0x30 openFrame (·.openCome openFrame)).reg IC_SAT_ADDR ≠ hearsBlind.reg IC_SAT_ADDR := by decide

/-- Refutes O60: the OFFER that answers an OPEN without a route back is counted at the own port, and where that fills the counter,
IC_SAT_ADDR changes besides CL_PORT. -/
theorem not_pullsMove : ¬ Obligations.PullsMove := by
  unfold Obligations.PullsMove
  rintro ⟨-, -, h, -⟩
  obtain ⟨t, ht, hsame, -⟩ := h 0 openFrame hearsBlind rfl (by decide) (by decide) (by decide)
  have htt := Host.Outcome.next.inj (exec_pullOpen_blind.symm.trans ht)
  exact hearsBlind_shows (htt ▸ hsame IC_SAT_ADDR (by decide))

/-! ### A MARK that calls for a step, with BLOCK as the reaction of the link

A MARK that shows an offset of more than half a beat makes the instance OUT_OF_STEP and raises LINK (R382). Where the image sets BLOCK as
the reaction of that source, the collector resets the link at the end of the same command (R329, R392), and the port forgets the stamps of
that MARK. -/

/-- A MARK whose stamps lie two beats behind. -/
def lateMark : LinkFrame := arriving 3 0 9 [1, BitVec.ofNat 64 (1 <<< 14), BitVec.ofNat 64 (5 <<< 14)]

/-- An instance that follows port 0, with an image ACTIVE and BLOCK for the faults of the link. -/
def followsBlock : State :=
  portZeroUp.withFields [(HD_IMG_STAT, HD_IMG_STAT.STATE, 4), (FC_REACT 31, FC_REACT.LEVEL, 4), (CL_TIME, CL_TIME.STATE, tmFollow),
    (CL_TIME, CL_TIME.SRC, 1), (CL_TIME, CL_TIME.PARENT, 0)]

theorem followsBlock_forgets :
    (((followsBlock.acceptType 0 3 lateMark (·.markCome 0 lateMark 0)).settle).port_ 0).echoTx ≠ pay lateMark 1 := by decide

/-- Refutes O58: the stamp of a MARK that calls for a step is not held for the echo where the reaction of the link is BLOCK. -/
theorem not_fabricFollows : ¬ Obligations.FabricFollows := by
  unfold Obligations.FabricFollows
  rintro ⟨-, -, -, -, -, -, -, -, -, -, -, -, h⟩
  obtain ⟨t, ht, hecho, -⟩ := h 0 0 lateMark followsBlock rfl (by decide) (by decide) rfl
  have htt := Host.Outcome.next.inj ((show exec (.mark 0 lateMark 0) followsBlock =
    .next (followsBlock.acceptType 0 3 lateMark (·.markCome 0 lateMark 0)).settle from rfl).symm.trans ht)
  exact followsBlock_forgets (htt ▸ hecho)

end Sys2Proof.Machine

/-! PROOFS. A record of a kept type whose second attempt leaves the kept area (R358, R359). -/

namespace Sys2Proof.Machine

open Sys2Proof

set_option maxRecDepth 100000

/-- A record of a life-cycle move. -/
def moveRec : Rec := { type := 3, payload := [], trig := 0, ao := 0, beat := 0 }

/-- Its first attempt stands in the circulating area, and the kept area is not marked full. -/
def keptOutside : State :=
  { State.reset.wr ER_PTR ER_PTR.NEXT_CIRC 4096 with rcd := { op := .program 4096 false false, queue := [moveRec] } }

theorem keptOutside_fills : (keptOutside.recordWriteDone false).settle.reg ER_STAT ≠ keptOutside.reg ER_STAT := by decide

/-- Refutes O55: the second attempt of a kept record that stands in the circulating area marks the kept area full, so that ER_STAT changes
besides ER_PTR. -/
theorem not_recordsWritten : ¬ Obligations.RecordsWritten := by
  unfold Obligations.RecordsWritten
  rintro ⟨-, -, -, -, -, -, -, -, h, -⟩
  obtain ⟨t, ht, -, -, -, hsame⟩ := (h 4096 false moveRec [] keptOutside rfl rfl rfl).1 (by decide) (by decide)
  have htt := Host.Outcome.next.inj ((show exec (.recordWriteDone false) keptOutside =
    .next (keptOutside.recordWriteDone false).settle from rfl).symm.trans ht)
  exact keptOutside_fills (htt ▸ hsame ER_STAT (by decide))

end Sys2Proof.Machine

/-! PROOFS. A cap decision on declared figures below zero (R280-R282). -/

namespace Sys2Proof.Machine

open Sys2Proof

set_option maxRecDepth 100000

/-- A report whose figure at full speed lies below zero. -/
def reportBelow : TeleReport := { win := 0, pIn := 0, pOut := 0, eIn := 0, eOut := 0, dAct := 0, dFull := -131072 }

/-- A wafer with a cap of zero and a fixed draw of 1/16 W, whose tile has sent that report. -/
def drawBelow : State :=
  (State.reset.withFields [(HD_TOPO, HD_TOPO.TILES, 1), (CG_CFG0, CG_CFG0.P_FIX, 1), (CG_CFG0, CG_CFG0.P_IDLE, 0), (CG_CFG0, CG_CFG0.GATE_POLICY, 2), (CG_CFG0, CG_CFG0.MARGIN, 0),
    (CG_CFG1, CG_CFG1.EFF_NOM, 128), (CG_CAL, CG_CAL.K, 0x4000), (CG_CAP, CG_CAP.WAFER_LIM, 0), (CG_CAP, CG_CAP.CAP_HOST, 0)]).updTile 0
    (fun x => { x with tt := { x.tt with taken := some reportBelow } })

theorem drawBelow_margin : drawBelow.margined drawBelow.ageShare.capEff 1 = 0 := by decide

theorem drawBelow_dynamic : drawBelow.dynamic drawBelow.allTiles 0 true = -262144 := by decide

theorem drawBelow_fixed : (drawBelow.capDecision 0).fixedDraw .now = 1 := by decide

theorem drawBelow_gain : (drawBelow.capDecision 0).rd CG_CAL CG_CAL.K = 0x4000 := by decide

theorem drawBelow_need : (drawBelow.capDecision 0).rd CG_STAT CG_STAT.R_NEED = 0 := by decide

/-- Refutes O47: where the declared figure at full speed is below zero, the prediction rises with the duty, so that a cap out of reach at
duty 15 is met at duty 0, which is the need. -/
theorem not_windowsReported : ¬ Obligations.WindowsReported := by
  unfold Obligations.WindowsReported
  rintro ⟨-, -, -, -, -, -, h, -⟩
  obtain ⟨fixed, k, p, hp, hfixed, -, -, -, -, -, hk, -, -, -, -, -, hout, -⟩ := h drawBelow (drawBelow.capDecision 0) 0 _ _ _ _ _ rfl rfl rfl rfl rfl rfl
  rw [hfixed (by decide), ← hk, drawBelow_fixed, drawBelow_gain, drawBelow_dynamic] at hp
  rw [drawBelow_margin, hp] at hout
  obtain ⟨h15, -⟩ := hout (by decide)
  exact absurd (drawBelow_need.symm.trans h15) (by decide)

end Sys2Proof.Machine

/-! PROOFS. The ports of the coordination link: fields of a frame as it is sent, the state of a port, sending, an arriving frame (R369-R372). -/

namespace Sys2Proof.Machine

open Sys2Proof

/-! ### Frames -/

/-- Sealing a frame leaves the fields other than SEQ and ACK. -/
theorem frd_sealFrame (f : LinkFrame) (q a : Nat) (x : Fld) (hx : x.ok = true) (hs : FR.SEQ.apart x = true) (ha : FR.ACK.apart x = true) :
    frd (sealFrame f q a) x = frd f x := by
  show x.get (FR.SEQ.set (FR.ACK.set f.header a) q) = x.get f.header
  rw [Fld.get_set_ne _ _ _ _ hx hs, Fld.get_set_ne _ _ _ _ hx ha]

theorem frd_sealFrame_ack (f : LinkFrame) (q a : Nat) : frd (sealFrame f q a) FR.ACK = a % 256 := by
  show FR.ACK.get (FR.SEQ.set (FR.ACK.set f.header a) q) = _
  rw [Fld.get_set_ne _ _ _ _ rfl rfl, Fld.get_set _ _ _ rfl]
  rfl

@[simp] theorem pay_sealFrame (f : LinkFrame) (q a i : Nat) : pay (sealFrame f q a) i = pay f i := rfl

theorem frd_mkFrame_type (ty dst src cls : Nat) (ws : List Word) : frd (mkFrame ty dst src cls ws) FR.TYPE = ty % 2 ^ 8 :=
  Fld.get_set _ _ _ rfl

theorem frd_mkFrame_dst (ty dst src cls : Nat) (ws : List Word) : frd (mkFrame ty dst src cls ws) FR.DST = dst % 2 ^ 12 :=
  (Fld.get_set_ne FR.TYPE _ _ _ rfl rfl).trans (Fld.get_set _ _ _ rfl)

theorem frd_mkFrame_src (ty dst src cls : Nat) (ws : List Word) : frd (mkFrame ty dst src cls ws) FR.SRC = src % 2 ^ 12 :=
  (Fld.get_set_ne FR.TYPE _ _ _ rfl rfl).trans ((Fld.get_set_ne FR.DST _ _ _ rfl rfl).trans (Fld.get_set _ _ _ rfl))

theorem frd_mkFrame_class (ty dst src cls : Nat) (ws : List Word) : frd (mkFrame ty dst src cls ws) FR.CLASS = cls % 2 ^ 2 := by
  refine (Fld.get_set_ne FR.TYPE _ _ _ rfl rfl).trans ((Fld.get_set_ne FR.DST _ _ _ rfl rfl).trans ?_)
  exact (Fld.get_set_ne FR.SRC _ _ _ rfl rfl).trans ((Fld.get_set_ne FR.HOPS _ _ _ rfl rfl).trans (Fld.get_set _ _ _ rfl))

theorem payBits_lt (f : LinkFrame) (i hi lo : Nat) : payBits f i hi lo < 2 ^ (hi + 1 - lo) := BitVec.isLt _

/-- The two halves of 128 bits. -/
theorem halves_append (x : BitVec 128) : x.extractLsb' 64 64 ++ x.extractLsb' 0 64 = x := by
  apply BitVec.eq_of_getLsbD_eq
  intro i hi
  rw [BitVec.getLsbD_append, BitVec.getLsbD_extractLsb', BitVec.getLsbD_extractLsb']
  by_cases h : i < 64
  · simp [h]
  · rw [show 64 + (i - 64) = i by omega]
    simp [h, show i - 64 < 64 by omega]

/-! ### What a port holds beside its registers -/

theorem updPort_same (s : State) (n : Nat) (f : PortX → PortX) : (s.updPort n f).port_ n = f (s.port_ n) := tget_tset_self _ _ _ _

theorem updPort_ne (s : State) (n m : Nat) (f : PortX → PortX) (h : m ≠ n) : (s.updPort n f).port_ m = s.port_ m :=
  tget_tset_ne _ _ _ _ _ h

@[simp] theorem emit_port_ (s : State) (n m : Nat) (f : LinkFrame) : (s.emit n f).port_ m = s.port_ m := rfl

/-! ### The state of a port -/

theorem setPort_reg (s : State) (n v a : Nat) (h1 : a ≠ CL_PORT n) (h2 : a ≠ CL_STAT) : (s.setPort n v).reg a = s.reg a := by
  rw [State.setPort, reg_wr_ne _ _ _ _ _ h2, reg_wr_ne _ _ _ _ _ h1]

theorem setPort_sameBut (s : State) (n v : Nat) : State.sameBut [CL_PORT n, CL_STAT] s (s.setPort n v) := by
  intro a ha
  simp only [List.mem_cons, List.not_mem_nil, or_false, not_or] at ha
  exact setPort_reg s n v a ha.1 ha.2

@[simp] theorem setPort_link (s : State) (n v : Nat) : (s.setPort n v).link = s.link := rfl
@[simp] theorem setPort_port_ (s : State) (n v m : Nat) : (s.setPort n v).port_ m = s.port_ m := rfl
@[simp] theorem setPort_fault (s : State) (n v : Nat) : (s.setPort n v).fault = s.fault := rfl
@[simp] theorem setPort_fuses (s : State) (n v : Nat) : (s.setPort n v).fuses = s.fuses := rfl
@[simp] theorem setPort_clk (s : State) (n v : Nat) : (s.setPort n v).clk = s.clk := rfl

theorem port_ne_stat (n : Nat) : CL_PORT n ≠ CL_STAT := by simp only [CL_PORT, CL_STAT]; omega

/-- The fields of CL_STAT beside UP, and those of CL_PORT beside STATE, stand. -/
theorem setPort_stat (s : State) (n v : Nat) (x : Fld) (hx : x.ok = true) (h : CL_STAT.UP.apart x = true) :
    (s.setPort n v).rd CL_STAT x = s.rd CL_STAT x := by
  rw [State.setPort, rd_wr_fld _ _ _ _ _ _ hx h, rd_wr_ne _ _ _ _ _ _ (port_ne_stat n).symm]

theorem setPort_field (s : State) (n v : Nat) (x : Fld) (hx : x.ok = true) (h : CL_PORT.STATE.apart x = true) :
    (s.setPort n v).rd (CL_PORT n) x = s.rd (CL_PORT n) x := by
  rw [State.setPort, rd_wr_ne _ _ _ _ _ _ (port_ne_stat n), rd_wr_fld _ _ _ _ _ _ hx h]

@[simp] theorem setPort_inst (s : State) (n v : Nat) : (s.setPort n v).inst = s.inst := setPort_stat s n v _ rfl rfl

theorem portState_setPort (s : State) (n v : Nat) (hn : n < 4) (hv : v < 8) : (s.setPort n v).portState n = v := by
  rw [State.portState, if_pos hn, State.setPort, rd_wr_ne _ _ _ _ _ _ (port_ne_stat n), rd_wr_same _ _ _ _ rfl]
  exact Nat.mod_eq_of_lt hv

/-- A port that is not OFF is one of the four. -/
theorem port_lt {s : State} {n : Nat} (h : s.portState n ≠ poOff) : n < 4 := by
  by_contra hn
  exact h (if_neg hn)

theorem portOn_lt {s : State} {n : Nat} (h : s.portOn n = true) : n < 4 := by
  simp only [State.portOn, Bool.and_eq_true, decide_eq_true_eq] at h
  exact h.1.1

theorem portState_of_reg {s t : State} {n : Nat} (h : t.reg (CL_PORT n) = s.reg (CL_PORT n)) : t.portState n = s.portState n := by
  simp only [State.portState, State.rd, h]

theorem portState_of_rd {s t : State} {n : Nat} (h : t.rd (CL_PORT n) CL_PORT.STATE = s.rd (CL_PORT n) CL_PORT.STATE) :
    t.portState n = s.portState n := by
  simp only [State.portState, h]

/-! ### Sending on a port -/

/-- A frame leaves at once: of class 0, or with room in the resend buffer (R372). -/
theorem sendOn_sent (s : State) (n : Nat) (f : LinkFrame) (h : frd f FR.CLASS = 0 ∨ (s.port_ n).resend.length < 128) :
    ∃ q, (s.sendOn n f).link.sent = s.link.sent ++ [(n, sealFrame f q (s.port_ n).ack)] := by
  by_cases h0 : frd f FR.CLASS = 0
  · exact ⟨0, by rw [State.sendOn, if_pos h0]; rfl⟩
  · refine ⟨(s.port_ n).txSeq, ?_⟩
    rw [State.sendOn, if_neg h0, if_pos (h.resolve_left h0)]
    rfl

/-- Sending on a port touches the link alone. -/
theorem sendOn_rest (s : State) (n : Nat) (f : LinkFrame) : { s.sendOn n f with link := s.link } = s := by
  simp only [State.sendOn]
  split
  · rfl
  split <;> rfl

theorem sendOn_reg (s : State) (n : Nat) (f : LinkFrame) (a : Nat) : (s.sendOn n f).reg a = s.reg a :=
  congrArg (·.reg a) (sendOn_rest s n f)

theorem sendOn_fault (s : State) (n : Nat) (f : LinkFrame) : (s.sendOn n f).fault = s.fault := congrArg (·.fault) (sendOn_rest s n f)

theorem sendOn_fuses (s : State) (n : Nat) (f : LinkFrame) : (s.sendOn n f).fuses = s.fuses := congrArg (·.fuses) (sendOn_rest s n f)

/-- What bring-up keeps of a port: its nonce, the peer's nonce and LC_UID. -/
structure Keys where
  nonce : BitVec 128
  peerNonce : BitVec 128
  peerUid : BitVec 128

def PortX.keys (p : PortX) : Keys := ⟨p.nonce, p.peerNonce, p.peerUid⟩

theorem sendOn_keys (s : State) (n m : Nat) (f : LinkFrame) : ((s.sendOn n f).port_ m).keys = (s.port_ m).keys := by
  have upd : ∀ g : PortX → PortX, (∀ p, (g p).keys = p.keys) → ((s.updPort n g).port_ m).keys = (s.port_ m).keys := by
    intro g hg
    by_cases h : m = n
    · rw [h, updPort_same, hg]
    · rw [updPort_ne _ _ _ _ h]
  simp only [State.sendOn]
  split
  · rfl
  split
  · rw [emit_port_]
    exact upd _ (fun _ => rfl)
  · exact upd _ (fun _ => rfl)

/-! ### A port that falls back -/

/-- A port that is not UP goes to another state with nothing in its buffers. -/
theorem clearPort_idle (s : State) (n v : Nat) (h : s.portUp n = false) :
    s.clearPort n v = (s.setPort n v).updLink (fun l => { l with ports := tset (fun _ => {}) l.ports n {} }) := by
  simp only [State.clearPort, h, Bool.false_and, Bool.false_eq_true, if_false]

theorem clearPort_empty (s : State) (n v : Nat) :
    ((s.setPort n v).updLink (fun l => { l with ports := tset (fun _ => ({} : PortX)) l.ports n {} })).port_ n = {} := tget_tset_self _ _ _ _

end Sys2Proof.Machine

/-! PROOFS. A frame that arrives at a port: what is taken, what is discarded, and what its ACK does where no frame waits (R371, R372, R389). -/

namespace Sys2Proof.Machine

open Sys2Proof

/-- Two states that differ in the fast clock and in bookkeeping of the link alone: nothing has been sent, no port has lost its keys, none has
more frames to acknowledge, and none waits at a port where none waited. -/
structure Taken (s u : State) : Prop where
  rest : { u with clk := s.clk, link := s.link } = s
  beat : u.clk.beat = s.clk.beat
  sent : u.link.sent = s.link.sent
  keys : ∀ m, (u.port_ m).keys = (s.port_ m).keys
  resend : ∀ m, (u.port_ m).resend.length ≤ (s.port_ m).resend.length
  waiting : ∀ m, (s.port_ m).waiting = [] → (u.port_ m).waiting = []

theorem Taken.refl (s : State) : Taken s s := ⟨rfl, rfl, rfl, fun _ => rfl, fun _ => le_rfl, fun _ h => h⟩

theorem Taken.trans {s u v : State} (h1 : Taken s u) (h2 : Taken u v) : Taken s v where
  rest := (congrArg (fun x : State => { x with clk := s.clk, link := s.link }) h2.rest).trans h1.rest
  beat := h2.beat.trans h1.beat
  sent := h2.sent.trans h1.sent
  keys := fun m => (h2.keys m).trans (h1.keys m)
  resend := fun m => (h2.resend m).trans (h1.resend m)
  waiting := fun m h => h2.waiting m (h1.waiting m h)

theorem Taken.reg {s u : State} (h : Taken s u) (a : Nat) : u.reg a = s.reg a := congrArg (·.reg a) h.rest
theorem Taken.rd {s u : State} (h : Taken s u) (a : Nat) (x : Fld) : u.rd a x = s.rd a x := congrArg x.get (h.reg a)
theorem Taken.fault {s u : State} (h : Taken s u) : u.fault = s.fault := congrArg (·.fault) h.rest
theorem Taken.fuses {s u : State} (h : Taken s u) : u.fuses = s.fuses := congrArg (·.fuses) h.rest
theorem Taken.inst {s u : State} (h : Taken s u) : u.inst = s.inst := h.rd CL_STAT CL_STAT.INSTANCE
theorem Taken.portState {s u : State} (h : Taken s u) (n : Nat) : u.portState n = s.portState n := portState_of_reg (h.reg _)

theorem restart_taken (s : State) : Taken s s.restart := by
  simp only [State.restart]
  split
  · exact ⟨rfl, rfl, rfl, fun _ => rfl, fun _ => le_rfl, fun _ h => h⟩
  · exact .refl s

/-- A change of a port that adds nothing to its buffers. -/
theorem updPort_taken (s : State) (n : Nat) (f : PortX → PortX) (hk : ∀ p, (f p).keys = p.keys)
    (hr : ∀ p, (f p).resend.length ≤ p.resend.length) (hw : ∀ p : PortX, p.waiting = [] → (f p).waiting = []) : Taken s (s.updPort n f) where
  rest := rfl
  beat := rfl
  sent := rfl
  keys := fun m => by
    by_cases h : m = n
    · rw [h, updPort_same, hk]
    · rw [updPort_ne _ _ _ _ h]
  resend := fun m => by
    by_cases h : m = n
    · rw [h, updPort_same]
      exact hr _
    · rw [updPort_ne _ _ _ _ h]
  waiting := fun m hm => by
    by_cases h : m = n
    · rw [h] at hm ⊢
      rw [updPort_same]
      exact hw _ hm
    · rwa [updPort_ne _ _ _ _ h]

/-- A change of the link beside its ports and what has been sent. -/
theorem updLink_taken (s : State) (f : LinkX → LinkX) (hs : (f s.link).sent = s.link.sent) (hp : (f s.link).ports = s.link.ports) :
    Taken s (s.updLink f) where
  rest := rfl
  beat := rfl
  sent := hs
  keys := fun m => congrArg (fun l => (tget (fun _ => ({} : PortX)) l m).keys) hp
  resend := fun m => le_of_eq (congrArg (fun l => (tget (fun _ => ({} : PortX)) l m).resend.length) hp)
  waiting := fun m h => (congrArg (fun l => (tget (fun _ => ({} : PortX)) l m).waiting) hp).trans h

theorem each_taken {α : Type} (l : List α) (f : State → α → State) (h : ∀ u e, Taken u (f u e)) (s : State) : Taken s (s.each l f) := by
  induction l generalizing s with
  | nil => exact .refl s
  | cons e l ih => exact (h s e).trans (ih (f s e))

/-- DATA of the pulls `gone` leaves the frames that wait at a port. -/
def PortX.purge (gone : List Serve) (p : PortX) : PortX := { p with waiting := p.waiting.filter (fun f => gone.all (fun v => !v.owns f)) }

theorem purgeData_taken (s : State) (gone : List Serve) : Taken s (s.purgeData gone) := by
  have hport : ∀ (u : State) (n : Nat), Taken u (u.updPort n (PortX.purge gone)) := fun u n =>
    updPort_taken u n _ (fun _ => rfl) (fun _ => le_rfl) (fun p hp => by simp only [PortX.purge, hp, List.filter_nil])
  exact (each_taken (List.range 4) (fun u n => u.updPort n (PortX.purge gone)) hport s).trans
    (updLink_taken _ (fun l => { l with reroute := l.reroute.filter (fun e => gone.all (fun v => !v.owns e.2)) }) rfl rfl)

theorem dropServes_taken (s : State) : Taken s s.dropServes := by
  simp only [State.dropServes]
  split
  · exact .refl s
  split
  · exact updLink_taken s _ rfl rfl
  · exact (purgeData_taken s _).trans (updLink_taken _ _ rfl rfl)

/-- Acknowledged frames leave a port's buffers. -/
theorem dropSent_taken (s : State) (n i j : Nat) :
    Taken s (s.updPort n (fun q => { q with resend := q.resend.drop i, waiting := q.waiting.drop j })) := by
  refine updPort_taken s n (fun q => { q with resend := q.resend.drop i, waiting := q.waiting.drop j }) (fun _ => rfl) (fun p => ?_) (fun p hp => ?_)
  · show (p.resend.drop i).length ≤ p.resend.length
    rw [List.length_drop]
    omega
  · show p.waiting.drop j = []
    rw [hp, List.drop_nil]

/-- An ACK at a port where no frame waits sends nothing. -/
theorem ackPort_taken (s : State) (n ack : Nat) (h : (s.port_ n).waiting = []) : Taken s (s.ackPort n ack) := by
  have hw : (s.dropServes.port_ n).waiting = [] := (dropServes_taken s).waiting n h
  simp only [State.ackPort, hw, List.take_nil]
  split
  · exact dropServes_taken s
  · exact (dropServes_taken s).trans (dropSent_taken _ _ _ _)

/-- A port that takes a frame of a type in its state (R369). -/
def portTakes (st ty : Nat) : Bool := st == poUp || (st == poAuth && decide (ty ≤ 2)) || (st == poHello && ty == 1)

/-- A whole frame, in sequence, at a port that takes it is handed on (R369, R371, R372). -/
theorem takeFrame_taken (s : State) (n : Nat) (f : LinkFrame) (k : State → State) (hst : portTakes (s.portState n) (frd f FR.TYPE) = true)
    (hok : frameOk f = true) (hseq : frd f FR.CLASS = 0 ∨ frd f FR.SEQ = (s.port_ n).rxSeq) (hw : (s.port_ n).waiting = []) :
    ∃ u, Taken s u ∧ s.takeFrame n f k = k u := by
  have hn : n < 4 := by
    by_contra h
    rw [State.portState, if_neg h] at hst
    simp [portTakes] at hst
  have h0 := restart_taken s
  have hport : s.restart.port_ n = s.port_ n := by simp only [State.restart]; split <;> rfl
  rw [← h0.portState n] at hst
  simp only [portTakes, Bool.or_eq_true, Bool.and_eq_true, beq_iff_eq, decide_eq_true_eq, or_assoc] at hst
  have hgood : (!frameOk f || (frd f FR.CLASS != 0 && frd f FR.SEQ != (s.restart.port_ n).rxSeq)) = false := by
    rw [hport, hok]
    rcases hseq with h | h <;> simp [h]
  refine ⟨_, ?_, (if_pos ⟨hn, hst⟩).trans (if_neg (by rw [hgood]; exact Bool.false_ne_true))⟩
  have h1 : Taken s.restart (if frd f FR.CLASS = 0 then s.restart else s.restart.updPort n (fun p => { p with rxSeq := (p.rxSeq + 1) % 256 })) := by
    split
    · exact .refl _
    · exact updPort_taken _ _ _ (fun _ => rfl) (fun _ => le_rfl) (fun _ h => h)
  exact (h0.trans h1).trans (ackPort_taken _ _ _ ((h0.trans h1).waiting n hw))

/-- A frame that a port in HELLO or AUTH does not take, or that is not whole, is counted and goes no further. -/
theorem takeFrame_discards (s : State) (n : Nat) (f : LinkFrame) (k : State → State)
    (h : (s.portUp n = true ∧ frameOk f = false) ∨ (s.portState n = poHello ∧ frd f FR.TYPE ≠ 1)) :
    s.takeFrame n f k = s.restart.discard n := by
  have hst : s.restart.portState n = s.portState n := (restart_taken s).portState n
  rcases h with ⟨hup, hbad⟩ | ⟨hhello, hty⟩
  · have h5 : s.restart.portState n = poUp := hst.trans (beq_iff_eq.mp hup)
    have hn : n < 4 := port_lt (s := s.restart) (by rw [h5]; decide)
    exact (if_pos ⟨hn, .inl h5⟩).trans (if_pos (by rw [hbad]; rfl))
  · have h3 : s.restart.portState n = poHello := hst.trans hhello
    refine (if_neg ?_).trans (if_pos (.inl h3))
    rintro ⟨-, h | ⟨h, -⟩ | ⟨-, h⟩⟩
    · rw [h3] at h; exact absurd h (by decide)
    · rw [h3] at h; exact absurd h (by decide)
    · exact hty h

/-- A counted frame: ERRORS of the port is one higher, below its last value, and nothing else differs but the fast clock. -/
theorem discard_counts (s : State) (n : Nat) (h : s.rd (CL_PORT n) CL_PORT.ERRORS + 1 < 0xFFFFFFFF) :
    (s.restart.discard n).rd (CL_PORT n) CL_PORT.ERRORS = s.rd (CL_PORT n) CL_PORT.ERRORS + 1 ∧
      (s.restart.discard n).link = s.link ∧ State.sameBut [CL_PORT n] s (s.restart.discard n) ∧ (s.restart.discard n).fault = s.fault ∧
      (s.restart.discard n).rd (CL_PORT n) CL_PORT.STATE = s.rd (CL_PORT n) CL_PORT.STATE := by
  have hr := restart_taken s
  have hc : s.restart.rd (CL_PORT n) ctrCount = s.rd (CL_PORT n) CL_PORT.ERRORS := hr.rd _ _
  have hb : s.restart.discard n = s.restart.wr (CL_PORT n) ctrCount (s.rd (CL_PORT n) CL_PORT.ERRORS + 1) := by
    rw [State.discard, bump_counts _ _ (by rw [hc]; exact h), hc]
  rw [hb]
  refine ⟨(rd_wr_same _ _ _ _ rfl).trans (Nat.mod_eq_of_lt ?_), ?_, ?_, ?_, (rd_wr_fld _ _ _ _ _ _ rfl rfl).trans (hr.rd _ _)⟩
  · exact lt_trans h (by decide)
  · simp only [State.restart]; split <;> rfl
  · intro a ha
    rw [List.mem_singleton] at ha
    rw [reg_wr_ne _ _ _ _ _ ha, hr.reg]
  · exact hr.fault

end Sys2Proof.Machine

/-! PROOFS. Bring-up, falls, forwarding and resending on the ports of the coordination link (R367-R372). -/

namespace Sys2Proof.Machine

open Sys2Proof

/-! ### Signal on a lane (R318, R370) -/

theorem rd_of_wake (s : State) (m a : Nat) (x : Fld) (h : a ≠ HD_PWR_STAT) : (s.wake m).rd a x = s.rd a x := rd_of_reg (wake_reg s m a h) x

theorem port_ne_power (n : Nat) : CL_PORT n ≠ HD_PWR_STAT := by simp only [CL_PORT, HD_PWR_STAT]; omega

theorem wake_portState (s : State) (m n : Nat) : (s.wake m).portState n = s.portState n := portState_of_reg (wake_reg s m _ (port_ne_power n))

theorem wake_link (s : State) (m : Nat) : (s.wake m).link = s.link := congrArg (·.link) (wake_rest s m)

/-- A wake source puts no Wellhead to sleep. -/
theorem wake_fast (s : State) (m : Nat) (h : s.clk.fast ≠ .sleep) : (s.wake m).clk.fast ≠ .sleep := by
  have hr : s.restart.clk.fast ≠ .sleep := by
    simp only [State.restart]
    split
    · exact fun e => FastClock.noConfusion e
    · exact h
  simp only [State.wake]
  split
  · split
    · exact h
    · exact hr
  split
  · exact h
  split <;> exact h

theorem portSignal_detect (s : State) (n : Nat) (hon : s.portOn n = true) (hst : s.portState n = poDetect) :
    s.portSignal n = if (s.wake 8).clk.fast = .sleep then s.wake 8 else (s.wake 8).setPort n poTraining :=
  if_pos (by rw [hon, hst]; rfl)

theorem portSignal_fault (s : State) (n : Nat) : (s.portSignal n).fault = s.fault := by
  simp only [State.portSignal]
  split
  · split
    · exact wake_fault s 8
    · exact wake_fault s 8
  · rfl

theorem portSignal_trains (s : State) (n : Nat) (hon : s.portOn n = true) (hst : s.portState n = poDetect) (hf : s.clk.fast ≠ .sleep) :
    (s.portSignal n).portState n = poTraining ∧ (s.portSignal n).link = s.link ∧
      State.sameBut [CL_PORT n, CL_STAT, HD_PWR_STAT] s (s.portSignal n) ∧ (s.awake → State.sameBut [CL_PORT n, CL_STAT] s (s.portSignal n)) := by
  rw [portSignal_detect s n hon hst, if_neg (wake_fast s 8 hf)]
  refine ⟨portState_setPort _ _ _ (portOn_lt hon) (by decide), wake_link s 8, fun a ha => ?_, fun hawake => ?_⟩
  · simp only [List.mem_cons, List.not_mem_nil, or_false, not_or] at ha
    rw [setPort_reg _ _ _ _ ha.1 ha.2.1, wake_reg _ _ _ ha.2.2]
  · rw [wake_awake s 8 hawake]
    exact setPort_sameBut s n _

theorem portSignal_wakes (s : State) (n : Nat) (hon : s.portOn n = true) (hst : s.portState n = poDetect) (hf : s.clk.fast = .sleep)
    (ha : 8 &&& s.armed ≠ 0) :
    (s.portSignal n).portState n = poTraining ∧ (s.portSignal n).clk.fast = .restarting ∧
      (s.portSignal n).rd HD_PWR_STAT HD_PWR_STAT.RESULT = 1 ∧ (s.portSignal n).rd HD_PWR_STAT HD_PWR_STAT.LAST_WAKE = 8 &&& s.armed := by
  have hw : s.wake 8 = _ := wake_woken ha hf
  have hlt : 8 &&& s.armed < 2 ^ 5 := lt_of_le_of_lt Nat.and_le_left (by decide)
  have hpow : ∀ x, ((s.wake 8).setPort n poTraining).rd HD_PWR_STAT x = (s.wake 8).rd HD_PWR_STAT x := fun x =>
    rd_of_reg (setPort_reg _ _ _ _ (port_ne_power n).symm (by decide)) x
  rw [portSignal_detect s n hon hst, if_neg (by rw [hw]; exact fun e => FastClock.noConfusion e)]
  refine ⟨portState_setPort _ _ _ (portOn_lt hon) (by decide), congrArg (·.clk.fast) hw, (hpow _).trans ?_, (hpow _).trans ?_⟩
  · rw [hw]
    exact (rd_wr_fld _ _ _ _ _ _ rfl rfl).trans (rd_wr_same _ _ _ _ rfl)
  · rw [hw]
    exact (rd_wr_same _ _ _ _ rfl).trans (Nat.mod_eq_of_lt hlt)

theorem portSignal_sleeps (s : State) (n : Nat) (hf : s.clk.fast = .sleep) (ha : 8 &&& s.armed = 0) : s.portSignal n = s := by
  have hw : s.wake 8 = s := wake_unarmed ha (by rw [hf]; exact fun e => FastClock.noConfusion e)
  simp only [State.portSignal, hw, hf, if_true]
  split <;> rfl

/-! ### HELLO (R369) -/

theorem inst_lt (s : State) : s.inst < 2 ^ 12 := rd_lt s _ _

/-- A HELLO carries INSTANCE, LC_UID and the nonce, and the present ACK. -/
theorem sendHello_sends (s : State) (n : Nat) :
    s.sends (s.sendHello n) n (fun g => frd g FR.TYPE = 1 ∧ frd g FR.SRC = s.inst ∧ frd g FR.ACK = (s.port_ n).ack % 256 ∧
      pay g 2 ++ pay g 3 = s.fuses.uid ∧ pay g 4 ++ pay g 5 = (s.port_ n).nonce) := by
  obtain ⟨q, hq⟩ := sendOn_sent s n (s.helloFrame n) (.inl (frd_mkFrame_class _ _ _ _ _))
  refine ⟨_, hq, ?_, ?_, frd_sealFrame_ack _ _ _, halves_append _, halves_append _⟩
  · exact (frd_sealFrame _ _ _ _ rfl rfl rfl).trans (frd_mkFrame_type _ _ _ _ _)
  · exact (frd_sealFrame _ _ _ _ rfl rfl rfl).trans ((frd_mkFrame_src _ _ _ _ _).trans (Nat.mod_eq_of_lt (inst_lt s)))

theorem sendHello_nonce (s : State) (n m : Nat) : ((s.sendHello n).port_ m).nonce = (s.port_ m).nonce := congrArg Keys.nonce (sendOn_keys s n m _)

/-- The port in HELLO with its fresh nonce, before its first HELLO goes out. -/
def State.helloReady (s : State) (n : Nat) : State :=
  ((s.setPort n poHello).updPort n (fun _ => { nonce := (Config.freeBits s.freeCtr).setWidth 128 })).draw

theorem trainingDone_eq (s : State) (n : Nat) (hon : s.portOn n = true) (hst : s.portState n = poTraining) :
    s.trainingDone n = (s.helloReady n).sendHello n := if_pos (by rw [hon, hst]; rfl)

theorem helloReady_port (s : State) (n : Nat) : (s.helloReady n).port_ n = { nonce := (Config.freeBits s.freeCtr).setWidth 128 } :=
  updPort_same (s.setPort n poHello) n (fun _ => { nonce := (Config.freeBits s.freeCtr).setWidth 128 })

theorem helloReady_sameBut (s : State) (n : Nat) : State.sameBut [CL_PORT n, CL_STAT] s ((s.helloReady n).sendHello n) := fun a ha =>
  (sendOn_reg _ _ _ _).trans (setPort_sameBut s n poHello a ha)

theorem helloTx_eq (s : State) (n : Nat) (hn : n < 4) (hst : s.portState n ∈ [poHello, poAuth, poUp]) : s.helloTx n = s.sendHello n := by
  simp only [List.mem_cons, List.not_mem_nil, or_false] at hst
  exact if_pos ⟨hn, hst⟩

/-- A tag depends on the keys of the port, the fields of the two ends and the fuses. -/
theorem ownTag_of {s t : State} {n : Nat} (hk : (t.port_ n).keys = (s.port_ n).keys) (hf : t.fuses = s.fuses) (hi : t.inst = s.inst)
    (hp : t.peerField n = s.peerField n) : t.ownTag n = s.ownTag n := by
  simp only [PortX.keys, Keys.mk.injEq] at hk
  simp only [State.ownTag, State.ownField, hk, hf, hi, hp]

theorem peerTag_of {s t : State} {n : Nat} (hk : (t.port_ n).keys = (s.port_ n).keys) (hf : t.fuses = s.fuses) (hi : t.inst = s.inst)
    (hp : t.peerField n = s.peerField n) : t.peerTag n = s.peerTag n := by
  simp only [PortX.keys, Keys.mk.injEq] at hk
  simp only [State.peerTag, State.ownField, hk, hf, hi, hp]

theorem peerField_of {s t : State} {n : Nat} (h : t.reg (CL_PORT n) = s.reg (CL_PORT n)) : t.peerField n = s.peerField n := by
  simp only [State.peerField, State.rd, h]

/-- The peer's HELLO is known, and the port is in AUTH. -/
def State.peerKnown (s : State) (n : Nat) (f : LinkFrame) : State :=
  (((s.wr (CL_PORT n) CL_PORT.NEIGHBOUR (payBits f 1 63 52)).wr (CL_PORT n) CL_PORT.NPORT (payBits f 1 51 50)).updPort n (fun p => { p with
    peerUid := pay f 2 ++ pay f 3
    peerNonce := pay f 4 ++ pay f 5 })).setPort n poAuth

/-- The AUTH frame that answers it. -/
def State.authFrame (s : State) (n : Nat) (f : LinkFrame) : LinkFrame :=
  mkFrame 0x02 (payBits f 1 63 52) s.inst 1 [(s.ownTag n).extractLsb' 64 64, (s.ownTag n).extractLsb' 0 64]

theorem helloCome_eq (s : State) (n : Nat) (f : LinkFrame) (h : s.portState n = poHello) :
    s.helloCome n f = (s.peerKnown n f).sendOn n ((s.peerKnown n f).authFrame n f) := if_pos h

theorem peerKnown_port (s : State) (n : Nat) (f : LinkFrame) :
    (s.peerKnown n f).port_ n = { s.port_ n with peerUid := pay f 2 ++ pay f 3, peerNonce := pay f 4 ++ pay f 5 } :=
  (setPort_port_ _ _ _ _).trans (updPort_same _ _ _)

theorem peerKnown_neighbour (s : State) (n : Nat) (f : LinkFrame) :
    (s.peerKnown n f).rd (CL_PORT n) CL_PORT.NEIGHBOUR = payBits f 1 63 52 := by
  refine (setPort_field _ _ _ _ rfl rfl).trans ((rd_wr_fld (s.wr (CL_PORT n) CL_PORT.NEIGHBOUR _) _ _ _ _ _ rfl rfl).trans ?_)
  exact (rd_wr_same _ _ _ _ rfl).trans (Nat.mod_eq_of_lt (payBits_lt f 1 63 52))

theorem peerKnown_nport (s : State) (n : Nat) (f : LinkFrame) : (s.peerKnown n f).rd (CL_PORT n) CL_PORT.NPORT = payBits f 1 51 50 :=
  (setPort_field _ _ _ _ rfl rfl).trans ((rd_wr_same (s.wr (CL_PORT n) CL_PORT.NEIGHBOUR _) _ _ _ rfl).trans (Nat.mod_eq_of_lt (payBits_lt f 1 51 50)))

theorem peerKnown_sameBut (s : State) (n : Nat) (f : LinkFrame) : State.sameBut [CL_PORT n, CL_STAT] s (s.peerKnown n f) := by
  intro a ha
  refine (setPort_sameBut _ n poAuth a ha).trans ?_
  have h : a ≠ CL_PORT n := fun e => ha (by rw [e]; exact List.mem_cons_self)
  exact (reg_wr_ne (s.wr (CL_PORT n) CL_PORT.NEIGHBOUR _) _ _ _ _ h).trans (reg_wr_ne _ _ _ _ _ h)

/-- The first HELLO of an attempt at a port with an empty resend buffer. -/
theorem helloCome_answers (s : State) (n : Nat) (f : LinkFrame) (hn : n < 4) (hst : s.portState n = poHello) (hr : (s.port_ n).resend.length = 0) :
    (s.helloCome n f).portState n = poAuth ∧ (s.helloCome n f).rd (CL_PORT n) CL_PORT.NEIGHBOUR = payBits f 1 63 52 ∧
      (s.helloCome n f).rd (CL_PORT n) CL_PORT.NPORT = payBits f 1 51 50 ∧ ((s.helloCome n f).port_ n).peerUid = pay f 2 ++ pay f 3 ∧
      ((s.helloCome n f).port_ n).peerNonce = pay f 4 ++ pay f 5 ∧
      s.sends (s.helloCome n f) n (fun g => frd g FR.TYPE = 2 ∧ frd g FR.DST = payBits f 1 63 52 ∧
        pay g 1 ++ pay g 2 = (s.helloCome n f).ownTag n) ∧ State.sameBut [CL_PORT n, CL_STAT] s (s.helloCome n f) := by
  rw [helloCome_eq s n f hst]
  have hrd := fun x => rd_of_reg (sendOn_reg (s.peerKnown n f) n ((s.peerKnown n f).authFrame n f) (CL_PORT n)) x
  have hreg := sendOn_reg (s.peerKnown n f) n ((s.peerKnown n f).authFrame n f)
  have hkeys := sendOn_keys (s.peerKnown n f) n n ((s.peerKnown n f).authFrame n f)
  have hlen : ((s.peerKnown n f).port_ n).resend.length < 128 := by
    rw [peerKnown_port]
    exact lt_of_eq_of_lt hr (by decide)
  have htag := ownTag_of hkeys (sendOn_fuses _ _ _) (rd_of_reg (hreg CL_STAT) _) (peerField_of (hreg _))
  obtain ⟨q, hq⟩ := sendOn_sent (s.peerKnown n f) n ((s.peerKnown n f).authFrame n f) (.inr hlen)
  refine ⟨(portState_of_reg (hreg _)).trans (portState_setPort _ _ _ hn (by decide)), (hrd _).trans (peerKnown_neighbour s n f),
    (hrd _).trans (peerKnown_nport s n f), ?_, ?_, ⟨_, hq, ?_, ?_, ?_⟩, fun a ha => (hreg a).trans (peerKnown_sameBut s n f a ha)⟩
  · exact (congrArg Keys.peerUid hkeys).trans (congrArg PortX.peerUid (peerKnown_port s n f))
  · exact (congrArg Keys.peerNonce hkeys).trans (congrArg PortX.peerNonce (peerKnown_port s n f))
  · exact (frd_sealFrame _ _ _ _ rfl rfl rfl).trans (frd_mkFrame_type _ _ _ _ _)
  · exact (frd_sealFrame _ _ _ _ rfl rfl rfl).trans ((frd_mkFrame_dst _ _ _ _ _).trans (Nat.mod_eq_of_lt (payBits_lt f 1 63 52)))
  · rw [htag]
    exact halves_append _

theorem helloCome_fault (s : State) (n : Nat) (f : LinkFrame) : (s.helloCome n f).fault = s.fault := by
  simp only [State.helloCome]
  split
  · exact sendOn_fault _ _ _
  · rfl

end Sys2Proof.Machine

/-! PROOFS. The obligation on the ports of the link: AUTH, falls, forwarding and resending (R369-R372, R377, R378, R380). -/

namespace Sys2Proof.Machine

open Sys2Proof

/-! ### A port that falls back -/

theorem clearPort_idle_sameBut (s : State) (n v : Nat) (h : s.portUp n = false) : State.sameBut [CL_PORT n, CL_STAT] s (s.clearPort n v) := by
  rw [clearPort_idle s n v h]
  exact setPort_sameBut s n v

theorem clearPort_idle_shows (s : State) (n v : Nat) (hn : n < 4) (hv : v < 8) (h : s.portUp n = false) :
    (s.clearPort n v).portState n = v ∧ (s.clearPort n v).port_ n = {} ∧ (s.clearPort n v).link.sent = s.link.sent ∧
      (s.clearPort n v).fault = s.fault := by
  rw [clearPort_idle s n v h]
  exact ⟨portState_setPort s n v hn hv, clearPort_empty s n v, rfl, rfl⟩

theorem portUp_of_state {s : State} {n v : Nat} (h : s.portState n = v) (hv : v ≠ poUp) : s.portUp n = false := by
  simp only [State.portUp, h, beq_eq_false_iff_ne]
  exact hv

/-- The port that was UP in its new state: what it sent beyond the neighbour is kept for new routes (R378). -/
def State.fallen (s : State) (n v : Nat) : State :=
  (s.setPort n v).updLink (fun l => { l with
    ports := tset (fun _ => {}) l.ports n {}
    reroute := l.reroute ++ (((s.port_ n).resend ++ (s.port_ n).waiting).filter (fun f => decide (0x20 ≤ frd f FR.TYPE) &&
      (frd f FR.DST != s.rd (CL_PORT n) CL_PORT.NEIGHBOUR))).map (fun f => (n, f)) })

theorem clearPort_alone (s : State) (n v : Nat) (h : s.portUp n = true) (hf : s.follows = false) : s.clearPort n v = s.fallen n v := by
  simp only [State.clearPort, h, hf, Bool.true_and, Bool.false_and, Bool.false_eq_true, if_false, if_true, State.fallen]

theorem clearPort_parent (s : State) (n v : Nat) (h : s.portUp n = true) (hf : s.follows = true) (hp : s.rd CL_TIME CL_TIME.PARENT = n) :
    s.clearPort n v = (s.fallen n v).sourceLost := by
  simp only [State.clearPort, h, hf, hp, beq_self_eq_true, Bool.true_and, if_true, State.fallen]

theorem fallen_port (s : State) (n v : Nat) : (s.fallen n v).port_ n = {} := tget_tset_self _ _ _ _

theorem portFall_up (s : State) (n : Nat) (h : s.portUp n = true) : s.portFall n = (s.clearPort n poDetect).linkRaise 1 n :=
  if_pos ⟨port_lt (s := s) (by rw [beq_iff_eq.mp h]; decide), h⟩

theorem linkRaise_brings (s : State) (c n : Nat) : { src := 31, sub := 16 * c + n } ∈ (s.linkRaise c n).fault.now :=
  List.mem_append_right _ (List.mem_singleton_self _)

/-- The DCO loses a source it was locked to: HOLDOVER, one loss more, the raise (R98). -/
theorem sourceLost_locked (s : State) (hm : s.ckMode = ckLocked) (hl : s.rd HD_CLK HD_CLK.LOSSES + 1 < 0xFFFFFFFF) :
    s.sourceLost.ckMode = ckHoldover ∧ { src := 6 } ∈ s.sourceLost.fault.now ∧ State.sameBut [HD_CLK] s s.sourceLost ∧ s.sourceLost.link = s.link := by
  have hcount : ((s.wr HD_CLK HD_CLK.MODE ckHoldover).slewDco (if s.ckMode = ckPullIn then s.dcoNow else s.dcoMean)).rd HD_CLK ctrCount =
      s.rd HD_CLK HD_CLK.LOSSES := rd_wr_fld s HD_CLK HD_CLK HD_CLK.MODE ctrCount ckHoldover (by decide) (by decide)
  rw [sourceLost_of s (.inl hm), bump_counts _ _ (by rw [hcount]; exact hl), hcount]
  refine ⟨?_, List.mem_append_right _ (List.mem_singleton_self _), fun b hb => ?_, rfl⟩
  · exact (rd_wr_fld _ HD_CLK HD_CLK ctrCount HD_CLK.MODE _ (by decide) (by decide)).trans (rd_wr_same s HD_CLK HD_CLK.MODE ckHoldover (by decide))
  · have hne : b ≠ HD_CLK := by simpa using hb
    exact (reg_wr_ne _ _ _ _ _ hne).trans (reg_wr_ne s _ _ _ _ hne)

theorem fallen_ckMode (s : State) (n v : Nat) : (s.fallen n v).ckMode = s.ckMode :=
  rd_of_reg (setPort_reg s n v HD_CLK (by simp only [CL_PORT, HD_CLK]; omega) (by decide)) _

theorem fallen_losses (s : State) (n v : Nat) : (s.fallen n v).rd HD_CLK HD_CLK.LOSSES = s.rd HD_CLK HD_CLK.LOSSES :=
  rd_of_reg (setPort_reg s n v HD_CLK (by simp only [CL_PORT, HD_CLK]; omega) (by decide)) _

theorem portFall_free (s : State) (n : Nat) (h : s.portUp n = true) (hf : s.follows = false) :
    (s.portFall n).portState n = poDetect ∧ (s.portFall n).port_ n = {} ∧ { src := 31, sub := 16 + n } ∈ (s.portFall n).fault.now ∧
      State.sameBut [CL_PORT n, CL_STAT] s (s.portFall n) := by
  rw [portFall_up s n h, clearPort_alone s n _ h hf]
  refine ⟨?_, fallen_port s n _, linkRaise_brings _ 1 n, setPort_sameBut s n _⟩
  exact portState_setPort s n poDetect (port_lt (s := s) (by rw [beq_iff_eq.mp h]; decide)) (by decide)

theorem portFall_follower (s : State) (n : Nat) (h : s.portUp n = true) (hf : s.follows = true) (hp : s.rd CL_TIME CL_TIME.PARENT = n)
    (hm : s.ckMode = ckLocked) (hl : s.rd HD_CLK HD_CLK.LOSSES + 1 < 0xFFFFFFFF) :
    (s.portFall n).portState n = poDetect ∧ (s.portFall n).ckMode = ckHoldover ∧ { src := 6 } ∈ (s.portFall n).fault.now ∧
      { src := 31, sub := 16 + n } ∈ (s.portFall n).fault.now ∧ State.sameBut [CL_PORT n, CL_STAT, HD_CLK] s (s.portFall n) := by
  have hn : n < 4 := port_lt (s := s) (by rw [beq_iff_eq.mp h]; decide)
  obtain ⟨hmode, hraise, hsame, -⟩ := sourceLost_locked (s.fallen n poDetect) ((fallen_ckMode s n _).trans hm) (by rw [fallen_losses]; exact hl)
  rw [portFall_up s n h, clearPort_parent s n _ h hf hp]
  refine ⟨?_, hmode, List.mem_append_left _ hraise, linkRaise_brings _ 1 n, fun a ha => ?_⟩
  · have hreg := hsame (CL_PORT n) (by simp only [List.mem_singleton, CL_PORT, HD_CLK]; omega)
    exact (portState_of_reg hreg).trans (portState_setPort s n poDetect hn (by decide))
  · simp only [List.mem_cons, List.not_mem_nil, or_false, not_or] at ha
    exact (hsame a (by rw [List.mem_singleton]; exact ha.2.2)).trans (setPort_reg s n poDetect a ha.1 ha.2.1)

/-! ### AUTH (R369) -/

theorem authCome_right (s : State) (n : Nat) (f : LinkFrame) (hst : s.portState n = poAuth) (h : pay f 1 ++ pay f 2 = s.peerTag n) :
    s.authCome n f = s.setPort n poUp := (if_pos hst).trans (if_pos h)

theorem authCome_wrong (s : State) (n : Nat) (f : LinkFrame) (hst : s.portState n = poAuth) (h : pay f 1 ++ pay f 2 ≠ s.peerTag n) :
    s.authCome n f = (s.clearPort n poIsolated).linkRaise 2 n := (if_pos hst).trans (if_neg h)

/-! ### Forwarding and resending (R372, R377) -/

/-- The frame with one hop less. -/
def onward (f : LinkFrame) : LinkFrame := { f with header := FR.HOPS.set f.header (frd f FR.HOPS - 1) }

theorem frd_onward (f : LinkFrame) (x : Fld) (hx : x.ok = true) (h : FR.HOPS.apart x = true) : frd (onward f) x = frd f x :=
  Fld.get_set_ne _ _ _ _ hx h

theorem frd_onward_hops (f : LinkFrame) : frd (onward f) FR.HOPS = frd f FR.HOPS - 1 := by
  have hlt : frd f FR.HOPS < 2 ^ FR.HOPS.width := BitVec.isLt _
  exact (Fld.get_set FR.HOPS _ _ rfl).trans (Nat.mod_eq_of_lt (lt_of_le_of_lt (Nat.sub_le _ _) hlt))

/-- A frame that goes by a route of one port leaves there: one of class 2 is counted among those spread over the ports (R377). -/
theorem routeFrom_along (s : State) (n m : Nat) (f : LinkFrame) (h : maskPorts (s.routeMask (frd f FR.DST)) = [m]) :
    s.routeFrom n f = (if frd f FR.CLASS = 2 then s.updLink (fun l => { l with spread := l.spread + 1 }) else s).sendOn m f := by
  have hturn : [m].getD (s.link.spread % [m].length) 0 = m := by
    rw [List.length_singleton, Nat.mod_one]
    rfl
  have hif : s.routeFrom n f = if frd f FR.CLASS = 2
      then (s.updLink (fun l => { l with spread := l.spread + 1 })).sendOn ([m].getD (s.link.spread % [m].length) 0) f else s.sendOn m f := by
    rw [State.routeFrom, h]
    exact if_neg (List.cons_ne_nil _ _)
  rw [hif, hturn]
  split <;> rfl

/-- Along a route of one port a frame leaves there, and nothing but the link differs (R377). -/
theorem routeFrom_sends (s : State) (n m : Nat) (f : LinkFrame) (h : s.wayTo (frd f FR.DST) m) :
    (∃ q a, (s.routeFrom n f).link.sent = s.link.sent ++ [(m, sealFrame f q a)]) ∧ (∀ a, (s.routeFrom n f).reg a = s.reg a) ∧
      (s.routeFrom n f).fault = s.fault := by
  rw [routeFrom_along s n m f h.1]
  split
  · obtain ⟨q, hq⟩ := sendOn_sent (s.updLink (fun l => { l with spread := l.spread + 1 })) m f (.inr h.2)
    exact ⟨⟨q, _, hq⟩, sendOn_reg _ m f, sendOn_fault _ m f⟩
  · obtain ⟨q, hq⟩ := sendOn_sent s m f (.inr h.2)
    exact ⟨⟨q, _, hq⟩, sendOn_reg s m f, sendOn_fault s m f⟩

theorem forward_sends (s : State) (n m : Nat) (f : LinkFrame) (hh : frd f FR.HOPS ≠ 0) (h : s.wayTo (frd f FR.DST) m) :
    s.forward n f = s.routeFrom n (onward f) := by
  refine if_neg (not_or.mpr ⟨hh, fun h0 => ?_⟩)
  have hm := h.1
  rw [h0] at hm
  exact List.cons_ne_nil _ _ hm.symm

theorem taken_discards {s u : State} (n : Nat) (hu : Taken s u) (h : s.rd (CL_PORT n) CL_PORT.ERRORS + 1 < 0xFFFFFFFF) :
    (u.discard n).rd (CL_PORT n) CL_PORT.ERRORS = s.rd (CL_PORT n) CL_PORT.ERRORS + 1 ∧ (u.discard n).link.sent = s.link.sent ∧
      State.sameBut [CL_PORT n] s (u.discard n) ∧ (u.discard n).fault = s.fault := by
  have hc : u.rd (CL_PORT n) ctrCount = s.rd (CL_PORT n) CL_PORT.ERRORS := hu.rd _ _
  have hb : u.discard n = u.wr (CL_PORT n) ctrCount (s.rd (CL_PORT n) CL_PORT.ERRORS + 1) := by
    rw [State.discard, bump_counts _ _ (by rw [hc]; exact h), hc]
  rw [hb]
  refine ⟨(rd_wr_same _ _ _ _ rfl).trans (Nat.mod_eq_of_lt (lt_trans h (by decide))), hu.sent, fun a ha => ?_, hu.fault⟩
  rw [List.mem_singleton] at ha
  rw [reg_wr_ne _ _ _ _ _ ha, hu.reg]

theorem resend_sent (n a : Nat) (l : List LinkFrame) (s : State) :
    (s.each l (fun u f => u.emit n (sealFrame f (frd f FR.SEQ) a))).link.sent =
      s.link.sent ++ l.map (fun f => (n, sealFrame f (frd f FR.SEQ) a)) := by
  induction l generalizing s with
  | nil => exact (List.append_nil _).symm
  | cons f l ih =>
    refine (ih (s.emit n (sealFrame f (frd f FR.SEQ) a))).trans ?_
    rw [List.map_cons]
    exact List.append_assoc _ [_] _

/-- Resending touches what has been sent alone. -/
theorem resend_rest (n a : Nat) (l : List LinkFrame) (s : State) :
    { s.each l (fun u f => u.emit n (sealFrame f (frd f FR.SEQ) a)) with link := s.link } = s ∧
      (s.each l (fun u f => u.emit n (sealFrame f (frd f FR.SEQ) a))).link.ports = s.link.ports := by
  refine ⟨?_, each_keeps (fun u => u.link.ports) l (fun u f => u.emit n (sealFrame f (frd f FR.SEQ) a)) (fun _ _ => rfl) s⟩
  exact each_keeps (fun u : State => { u with link := s.link }) l (fun u f => u.emit n (sealFrame f (frd f FR.SEQ) a)) (fun _ _ => rfl) s

/-! ### The obligation -/

/-- A port in TRAINING or ISOLATED whose time is over is in DETECT again. -/
theorem clearPort_expires (c : Instr) (s : State) (n v : Nat) (hq : s.quiet) (hst : s.portState n = v) (hv : v ≠ poUp) (ho : v ≠ poOff)
    (hx : exec c s = done (s.clearPort n poDetect)) :
    ∃ t, exec c s = .next t ∧ t.portState n = poDetect ∧ t.port_ n = {} ∧ t.link.sent = s.link.sent ∧ State.sameBut [CL_PORT n, CL_STAT] s t := by
  have hup := portUp_of_state hst hv
  obtain ⟨h1, h2, h3, hf⟩ := clearPort_idle_shows s n poDetect (port_lt (s := s) (by rw [hst]; exact ho)) (by decide) hup
  exact ⟨_, hx.trans (done_quiet _ ((congrArg (·.now) hf).trans hq)), h1, h2, h3, clearPort_idle_sameBut s n _ hup⟩

/-- The tag of the peer comes in AUTH. -/
theorem auth_answers (s : State) (n : Nat) (f : LinkFrame) (hn : n < 4) (hst : s.portState n = poAuth) :
    State.sameBut [CL_PORT n, CL_STAT] s (s.authCome n f) ∧
      (pay f 1 ++ pay f 2 = s.peerTag n → (s.authCome n f).portState n = poUp ∧ (s.authCome n f).fault = s.fault) ∧
      (pay f 1 ++ pay f 2 ≠ s.peerTag n → (s.authCome n f).portState n = poIsolated ∧ (s.authCome n f).port_ n = {} ∧
        { src := 31, sub := 32 + n } ∈ (s.authCome n f).fault.now) := by
  have hup : s.portUp n = false := portUp_of_state hst (by decide)
  refine ⟨?_, fun h => ?_, fun h => ?_⟩
  · by_cases h : pay f 1 ++ pay f 2 = s.peerTag n
    · rw [authCome_right s n f hst h]
      exact setPort_sameBut s n _
    · rw [authCome_wrong s n f hst h]
      exact clearPort_idle_sameBut s n _ hup
  · rw [authCome_right s n f hst h]
    exact ⟨portState_setPort s n _ hn (by decide), rfl⟩
  · rw [authCome_wrong s n f hst h]
    obtain ⟨h1, h2, -, -⟩ := clearPort_idle_shows s n poIsolated hn (by decide) hup
    exact ⟨h1, h2, linkRaise_brings _ 2 n⟩

/-- A frame that is not whole, at an UP port, is counted and goes no further, whatever its type. -/
theorem broken_counts (c : Instr) (s : State) (n : Nat) (f : LinkFrame) (k : State → State) (hq : s.quiet) (hup : s.portUp n = true)
    (hbad : frameOk f = false) (h : s.rd (CL_PORT n) CL_PORT.ERRORS + 1 < 0xFFFFFFFF) (hx : exec c s = done (s.takeFrame n f k)) :
    ∃ t, exec c s = .next t ∧ t.rd (CL_PORT n) CL_PORT.ERRORS = s.rd (CL_PORT n) CL_PORT.ERRORS + 1 ∧ t.link = s.link ∧
      State.sameBut [CL_PORT n] s t := by
  obtain ⟨hcount, hlink, hsame, hfault, -⟩ := discard_counts s n h
  rw [takeFrame_discards s n f k (.inl ⟨hup, hbad⟩)] at hx
  exact ⟨_, hx.trans (done_quiet _ ((congrArg (·.now) hfault).trans hq)), hcount, hlink, hsame⟩

/-- A whole frame for another instance. -/
theorem forward_goes (s : State) (n : Nat) (f : LinkFrame) (hq : s.quiet) (hc : s.comes n (frd f FR.TYPE) f) (hty : 0x20 ≤ frd f FR.TYPE)
    (hd : frd f FR.DST ≠ s.inst) :
    (∀ m, frd f FR.HOPS ≠ 0 → s.wayTo (frd f FR.DST) m → (s.port_ m).waiting = [] → ∃ t, exec (.frameForward n f) s = .next t ∧
      s.sends t m (fun g => g.payload = f.payload ∧ frd g FR.HOPS = frd f FR.HOPS - 1 ∧ frd g FR.DST = frd f FR.DST ∧
        frd g FR.SRC = frd f FR.SRC ∧ frd g FR.TYPE = frd f FR.TYPE ∧ frameOk f = true) ∧ State.sameBut [] s t) ∧
    ((frd f FR.HOPS = 0 ∨ s.routeMask (frd f FR.DST) = 0) → s.rd (CL_PORT n) CL_PORT.ERRORS + 1 < 0xFFFFFFFF → ∃ t, exec (.frameForward n f) s = .next t ∧
      t.rd (CL_PORT n) CL_PORT.ERRORS = s.rd (CL_PORT n) CL_PORT.ERRORS + 1 ∧ t.link.sent = s.link.sent ∧ State.sameBut [CL_PORT n] s t) := by
  obtain ⟨hup, -, hok, hseq, hw⟩ := hc
  have htakes : portTakes (s.portState n) (frd f FR.TYPE) = true := by
    rw [show s.portState n = poUp from beq_iff_eq.mp hup]
    rfl
  obtain ⟨u, hu, hk⟩ := takeFrame_taken s n f (·.forward n f) htakes hok hseq hw
  have hx : exec (.frameForward n f) s = done (u.forward n f) := congrArg done ((if_pos ⟨hty, hd⟩).trans hk)
  have hmask : ∀ d, u.routeMask d = s.routeMask d := fun d => hu.rd _ _
  refine ⟨fun m hh hway _ => ?_, fun hno herr => ?_⟩
  · have hway' : u.wayTo (frd f FR.DST) m := ⟨by rw [hmask]; exact hway.1, lt_of_le_of_lt (hu.resend m) hway.2⟩
    have hdst : frd (onward f) FR.DST = frd f FR.DST := frd_onward f _ rfl rfl
    obtain ⟨⟨q, a, hsent⟩, hreg, hfault⟩ := routeFrom_sends u n m (onward f) (by rw [hdst]; exact hway')
    rw [forward_sends u n m f hh hway'] at hx
    refine ⟨_, hx.trans (done_quiet _ ?_), ⟨sealFrame (onward f) q a, hsent.trans (by rw [hu.sent]), rfl, ?_, ?_, ?_, ?_, hok⟩, fun b _ => ?_⟩
    · exact (congrArg (·.now) (hfault.trans hu.fault)).trans hq
    · exact (frd_sealFrame (onward f) q a _ rfl rfl rfl).trans (frd_onward_hops f)
    · exact (frd_sealFrame (onward f) q a _ rfl rfl rfl).trans hdst
    · exact (frd_sealFrame (onward f) q a _ rfl rfl rfl).trans (frd_onward f _ rfl rfl)
    · exact (frd_sealFrame (onward f) q a _ rfl rfl rfl).trans (frd_onward f _ rfl rfl)
    · exact (hreg b).trans (hu.reg b)
  · obtain ⟨hcount, hsent, hsame, hfault⟩ := taken_discards n hu herr
    rw [show u.forward n f = u.discard n from if_pos (by rw [hmask]; exact hno)] at hx
    exact ⟨_, hx.trans (done_quiet _ ((congrArg (·.now) hfault).trans hq)), hcount, hsent, hsame⟩

/-- Settles O57: a frame that is taken reaches its effect in a state that has sent nothing, and each state of a port answers what R369 says. -/
theorem portsComeUp : Obligations.PortsComeUp := by
  unfold Obligations.PortsComeUp
  refine ⟨fun n s hq hon hst => ⟨fun hf => ?_, fun hf ha => ?_, fun hf ha => ?_⟩, fun n s hq hon hst => ?_, fun c n s hq hc => ?_,
    fun n s hq hn hst => ?_, fun n f s hq hn hst hty hok hcls hres hw => ?_, fun n f s hn hst hty hok hcls hseq hw => ?_,
    fun c n s hc hup => ?_, fun n f s hq hc hty hd => forward_goes s n f hq hc hty hd, fun n f s hq hst hty herr => ?_,
    fun c n f s hq hup hbad herr hc => ?_, fun n s hq hn => ?_⟩
  · exact ⟨_, done_quiet _ ((congrArg (·.now) (portSignal_fault s n)).trans hq), portSignal_trains s n hon hst hf⟩
  · exact ⟨_, done_quiet _ ((congrArg (·.now) (portSignal_fault s n)).trans hq), portSignal_wakes s n hon hst hf ha⟩
  · exact (done_quiet _ ((congrArg (·.now) (portSignal_fault s n)).trans hq)).trans (congrArg _ (portSignal_sleeps s n hf ha))
  · have hx : exec (.trainingDone n) s = done ((s.helloReady n).sendHello n) := congrArg done (trainingDone_eq s n hon hst)
    have hnonce := (sendHello_nonce (s.helloReady n) n n).trans (congrArg PortX.nonce (helloReady_port s n))
    have hn4 : n < 4 := portOn_lt hon
    obtain ⟨g, hg, h1, h2, -, h4, h5⟩ := sendHello_sends (s.helloReady n) n
    refine ⟨_, hx.trans (done_quiet _ ?_), ?_, hnonce, ?_, ⟨g, hg, h1, ?_, h4, ?_⟩, helloReady_sameBut s n⟩
    · exact (congrArg (·.now) (sendOn_fault (s.helloReady n) n _)).trans hq
    · exact (portState_of_reg (sendOn_reg (s.helloReady n) n _ _)).trans (portState_setPort s n poHello hn4 (by decide))
    · exact congrArg (·.freeCtr) (sendOn_rest (s.helloReady n) n _)
    · exact h2.trans (setPort_inst s n poHello)
    · exact h5.trans (sendHello_nonce (s.helloReady n) n n).symm
  · rcases hc with ⟨rfl, hst⟩ | ⟨rfl, hst⟩
    · exact clearPort_expires _ s n _ hq hst (by decide) (by decide) (congrArg done (if_pos hst))
    · exact clearPort_expires _ s n _ hq hst (by decide) (by decide) (congrArg done (if_pos hst))
  · have hx : exec (.helloTx n) s = done (s.sendHello n) := congrArg done (helloTx_eq s n hn hst)
    obtain ⟨g, hg, h1, -, h3, -, h5⟩ := sendHello_sends s n
    exact ⟨_, hx.trans (done_quiet _ ((congrArg (·.now) (sendOn_fault s n _)).trans hq)), ⟨g, hg, h1, h3, h5⟩, fun a _ => sendOn_reg s n _ a⟩
  · obtain ⟨u, hu, hk⟩ := takeFrame_taken s n f (·.helloCome n f) (by rw [hst, hty]; rfl) hok (.inl hcls) hw
    have hx : exec (.hello n f) s = done (u.helloCome n f) := congrArg done ((if_pos hty).trans hk)
    have hlen : (u.port_ n).resend.length = 0 := Nat.le_zero.mp ((hu.resend n).trans (le_of_eq (by rw [hres]; rfl)))
    obtain ⟨h1, h2, h3, h4, h5, ⟨g, hg, hg'⟩, h7⟩ := helloCome_answers u n f hn ((hu.portState n).trans hst) hlen
    refine ⟨_, hx.trans (done_quiet _ ?_), h1, h2, h3, h4, h5, ⟨g, hg.trans (by rw [hu.sent]), hg'⟩, fun a ha => (h7 a ha).trans (hu.reg a)⟩
    exact (congrArg (·.now) ((helloCome_fault u n f).trans hu.fault)).trans hq
  · obtain ⟨u, hu, hk⟩ := takeFrame_taken s n f (·.authCome n f) (by rw [hst, hty]; rfl) hok (.inr hseq) hw
    have hx : exec (.auth n f) s = done (u.authCome n f) := congrArg done ((if_pos hty).trans hk)
    obtain ⟨hsame, hright, hwrong⟩ := auth_answers u n f hn ((hu.portState n).trans hst)
    have htag : u.peerTag n = s.peerTag n := peerTag_of (hu.keys n) hu.fuses hu.inst (peerField_of (hu.reg _))
    rw [htag] at hright hwrong
    exact ⟨_, hx, fun a ha => (hsame a ha).trans (hu.reg a), fun h => ⟨(hright h).1, (hright h).2.trans hu.fault⟩, hwrong⟩
  · have hx : exec c s = .next (s.portFall n).settle := by rcases hc with rfl | rfl <;> rfl
    exact ⟨fun hf => ⟨_, hx, portFall_free s n hup hf⟩, fun hf hp hm hl => ⟨_, hx, portFall_follower s n hup hf hp hm hl⟩⟩
  · obtain ⟨hcount, hlink, hsame, hfault, hstate⟩ := discard_counts s n herr
    have hx : exec (.auth n f) s = done (s.restart.discard n) := congrArg done ((if_pos hty).trans
      (takeFrame_discards s n f _ (.inr ⟨hst, by rw [hty]; decide⟩)))
    exact ⟨_, hx.trans (done_quiet _ ((congrArg (·.now) hfault).trans hq)), (portState_of_rd hstate).trans hst, hcount, hlink, hsame⟩
  · rcases hc with ⟨rfl, hty⟩ | ⟨rfl, hty, hd⟩ | ⟨rfl, hty, hd⟩
    · exact broken_counts _ s n f _ hq hup hbad herr (congrArg done (if_pos hty))
    · exact broken_counts _ s n f _ hq hup hbad herr (congrArg done (if_pos ⟨hty, hd⟩))
    · exact broken_counts _ s n f _ hq hup hbad herr (congrArg done ((if_pos hd).trans (if_pos hty)))
  · obtain ⟨hrest, hports⟩ := resend_rest n (s.port_ n).ack (s.port_ n).resend s
    have hx : exec (.frameResend n) s = done _ := congrArg done (if_pos hn)
    exact ⟨_, hx.trans (done_quiet _ ((congrArg (·.fault.now) hrest).trans hq)), resend_sent n _ _ s, hports, fun a _ => congrArg (·.reg a) hrest⟩

end Sys2Proof.Machine

/-! PROOFS. The flash of the recorder: what programming and erasing leave, and the words a fetch reads (R348-R350, R361, R363). -/

namespace Sys2Proof.Machine

open Sys2Proof

/-! ### Words of the flash -/

/-- A table from which keys have been taken reads their default. -/
theorem tget_filter {V : Type} (d : Nat → V) (p : Nat → Bool) (l : List (Nat × V)) (k : Nat) :
    tget d (l.filter (fun e => p e.1)) k = if p k then tget d l k else d k := by
  induction l with
  | nil => exact (ite_self _).symm
  | cons e l ih =>
    by_cases hk : k = e.1
    · by_cases hp : p e.1 = true
      · rw [List.filter_cons_of_pos (p := fun e : Nat × V => p e.1) hp]
        simp only [tget, hk, if_true, hp]
      · rw [List.filter_cons_of_neg (p := fun e : Nat × V => p e.1) hp, ih, hk, if_neg hp, if_neg hp]
    · have hcons : tget d (e :: l) k = tget d l k := if_neg hk
      by_cases hp : p e.1 = true
      · rw [List.filter_cons_of_pos (p := fun e : Nat × V => p e.1) hp, hcons, ← ih]
        exact if_neg hk
      · rw [List.filter_cons_of_neg (p := fun e : Nat × V => p e.1) hp, hcons, ih]

theorem eraseSlots_word (s : State) (lo hi a : Nat) :
    (s.eraseSlots lo hi).flashWord a = if a < 32 * lo ∨ 32 * hi ≤ a then s.flashWord a else BitVec.allOnes 64 := by
  refine (tget_filter _ (fun a => a < 32 * lo || decide (32 * hi ≤ a)) s.flash a).trans ?_
  simp only [Bool.or_eq_true, decide_eq_true_eq]
  rfl

theorem programWord_word_ne (s : State) (a b : Nat) (d : Word) (h : b ≠ a) : (s.programWord a d).flashWord b = s.flashWord b :=
  tget_tset_ne _ _ _ _ _ h

/-- A fold keeps what each of its steps keeps. -/
theorem foldl_mem_keeps {α β : Type} (π : State → β) (f : State → α → State) (l : List α) (h : ∀ u, ∀ e ∈ l, π (f u e) = π u) (s : State) :
    π (l.foldl f s) = π s := each_mem_keeps π l f h s

/-- A record fills no more than its slot. -/
theorem programSlot_word_ne (s : State) (slot : Nat) (ws : List Word) (hw : ws.length ≤ 32) (a : Nat)
    (ha : ¬(32 * slot ≤ a ∧ a < 32 * slot + 32)) : (s.programSlot slot ws).flashWord a = s.flashWord a := by
  refine foldl_mem_keeps (fun u => u.flashWord a) (fun (u : State) (e : Word × Nat) => u.programWord (32 * slot + e.2) e.1) _ (fun u e he => ?_) s
  have hlt : e.2 < ws.length := (List.mem_zipIdx' he).1
  exact programWord_word_ne u _ a _ (by omega)

theorem programSlot_rest (s : State) (slot : Nat) (ws : List Word) : { s.programSlot slot ws with flash := s.flash } = s :=
  foldl_mem_keeps (fun u : State => { u with flash := s.flash }) (fun (u : State) (e : Word × Nat) => u.programWord (32 * slot + e.2) e.1) _ (fun _ _ _ => rfl) s

theorem buildRec_length (r : Rec) (m l : Bool) (q g p : Nat) : (buildRec r m l q g p).length = 32 := by
  simp only [buildRec, List.length_append, List.length_cons, List.length_nil, List.length_replicate, List.length_take]
  omega

/-! ### A fetch (R361) -/

/-- The slot `q` slots on from the read position, at most two. -/
theorem slots_from (s : State) (a q : Nat) (ha : a < s.slotN) (hq : q < 3) :
    [a, s.slotAfter a, s.slotAfter (s.slotAfter a)].getD q 0 = (a + q) % s.slotN := by
  have hnext : ∀ b, b < s.slotN → s.slotAfter b = (b + 1) % s.slotN := by
    intro b hb
    rw [State.slotAfter]
    split
    · rw [Nat.mod_eq_of_lt ‹_›]
    · rw [show b + 1 = s.slotN by omega, Nat.mod_self]
  have hone : s.slotAfter a = (a + 1) % s.slotN := hnext a ha
  have htwo : s.slotAfter (s.slotAfter a) = (a + 2) % s.slotN := by
    rw [hnext _ (by rw [hone]; exact Nat.mod_lt _ (by omega)), hone, Nat.mod_add_mod]
  match q, hq with
  | 0, _ => exact (Nat.mod_eq_of_lt ha).symm
  | 1, _ => exact hone
  | 2, _ => exact htwo

/-- A fetch adds 64 words in the order of the flash, from the read position on, round the end (R361). -/
theorem fetched_eq (s : State) (h : s.rd ER_RD_STAT ER_RD_STAT.SLOT < s.slotN) :
    s.fetched = (List.range 64).map (fun i =>
      s.flashWord ((s.rd ER_RD_STAT ER_RD_STAT.SLOT * 32 + s.rd ER_RD_STAT ER_RD_STAT.WORD + i) % (32 * s.slotN))) := by
  have hw : s.rd ER_RD_STAT ER_RD_STAT.WORD < 32 := rd_lt s _ _
  refine List.map_congr_left fun i hi => ?_
  have hi64 : i < 64 := List.mem_range.mp hi
  rw [slots_from s _ _ h (by omega)]
  generalize s.rd ER_RD_STAT ER_RD_STAT.SLOT = a at h
  generalize s.rd ER_RD_STAT ER_RD_STAT.WORD = w at hw
  have hpos : 0 < s.slotN := by omega
  rw [State.fetchWord, if_pos (Nat.mod_lt _ hpos)]
  congr 1
  rw [show a * 32 + w + i = (w + i) % 32 + 32 * (a + (w + i) / 32) by omega, Nat.mod_mul, Nat.add_mul_mod_self_left, Nat.mod_mod,
    show ((w + i) % 32 + 32 * (a + (w + i) / 32)) / 32 = a + (w + i) / 32 by omega]
  omega

end Sys2Proof.Machine

/-! PROOFS. The obligation on the recorder's commands: freezing, reading, clearing, configuring (R360-R363, R397). -/

namespace Sys2Proof.Machine

open Sys2Proof

/-! ### ER_CTRL, one bit at a time (R365) -/

theorem erCtrl_freeze (s : State) (d : Word) (same : Bool) (hf : ER_CTRL.FREEZE.get d = 1) (ht : ER_CTRL.THAW.get d = 0)
    (hc : ER_CTRL.CLEAR.get d = 0) (hr : ER_CTRL.RD_ABORT.get d = 0) :
    s.erCtrlWrite d same = ({ s with rcd := { s.rcd with clearFirst := false } } : State).freezeCmd := by
  simp only [State.erCtrlWrite, hf, ht, hc, hr, State.on, Nat.reduceBEq, Bool.false_and, if_true, Bool.false_eq_true, if_false]

theorem erCtrl_thaw (s : State) (d : Word) (same : Bool) (hf : ER_CTRL.FREEZE.get d = 0) (ht : ER_CTRL.THAW.get d = 1)
    (hc : ER_CTRL.CLEAR.get d = 0) (hr : ER_CTRL.RD_ABORT.get d = 0) : s.erCtrlWrite d same = s.thawCmd := by
  simp only [State.erCtrlWrite, hf, ht, hc, hr, State.on, Nat.reduceBEq, if_true, Bool.false_eq_true, if_false]

theorem erCtrl_clear (s : State) (d : Word) (same : Bool) (hf : ER_CTRL.FREEZE.get d = 0) (ht : ER_CTRL.THAW.get d = 0)
    (hc : ER_CTRL.CLEAR.get d = 1) (hr : ER_CTRL.RD_ABORT.get d = 0) : s.erCtrlWrite d same = s.clearCmd d := by
  simp only [State.erCtrlWrite, hf, ht, hc, hr, State.on, Nat.reduceBEq, if_true, Bool.false_eq_true, if_false]

theorem erCtrl_abort (s : State) (d : Word) (same : Bool) (hf : ER_CTRL.FREEZE.get d = 0) (ht : ER_CTRL.THAW.get d = 0)
    (hc : ER_CTRL.CLEAR.get d = 0) (hr : ER_CTRL.RD_ABORT.get d = 1) : s.erCtrlWrite d same = s.rdAbort same := by
  simp only [State.erCtrlWrite, hf, ht, hc, hr, State.on, Nat.reduceBEq, if_true, Bool.false_eq_true, if_false]

/-! ### Freeze and thaw (R360) -/

theorem wr_sameBut (s : State) (a : Nat) (f : Fld) (v : Nat) : State.sameBut [a] s (s.wr a f v) := fun b hb =>
  reg_wr_ne s a b f v (by simpa using hb)

theorem freezeCmd_free (s : State) (hf : s.flag ER_STAT ER_STAT.FROZEN = false) (h : s.rcd.op = .idle) :
    s.freezeCmd = s.wr ER_STAT ER_STAT.FROZEN 1 := by
  rw [State.freezeCmd, hf, if_neg Bool.false_ne_true, if_pos h]

theorem freezeCmd_busy (s : State) (hf : s.flag ER_STAT ER_STAT.FROZEN = false) (h : s.rcd.op ≠ .idle) :
    s.freezeCmd = { s with rcd := { s.rcd with freezePend := true } } := by
  rw [State.freezeCmd, hf, if_neg Bool.false_ne_true, if_neg h]

/-- What keepErased does touches the operation in progress alone. -/
theorem keepErased_cases (s : State) : s.keepErased = s ∨ ∃ v, s.keepErased = { s with rcd := { s.rcd with op := .erase v } } := by
  rw [State.keepErased]
  split
  · exact .inl rfl
  next u _ _ =>
    split
    · exact .inr ⟨u, rfl⟩
    · exact .inl rfl

/-- The flash may start what waits for it. -/
theorem flashNext_free (s : State) (hr : s.flag ER_STAT ER_STAT.READY = true) (hn : s.flag ER_STAT ER_STAT.NOFLASH = false)
    (hf : s.flag ER_STAT ER_STAT.FROZEN = false) (ho : s.rcd.op = .idle) :
    s.flashNext = match s.rcd.clearPend with
      | some all => (s.wr ER_STAT ER_STAT.CLEARING 1).beginClear all
      | none => s.keepErased := by
  rw [State.flashNext, if_neg (by simp only [hr, hn, hf, ho, ne_eq, not_true, or_false, Bool.true_eq_false, Bool.false_eq_true, not_false_eq_true])] <;>
    rfl

/-- Without a clear that waits the flash starts nothing but an erase. -/
theorem flashNext_noClear (s : State) (h : s.rcd.clearPend = none) : s.flashNext = s ∨ ∃ v, s.flashNext = { s with rcd := { s.rcd with op := .erase v } } := by
  rw [State.flashNext]
  split
  · exact .inl rfl
  · rw [h]
    exact keepErased_cases s

/-- The unit that must be blank is erased once the flash is free. -/
theorem flashNext_erases (s : State) (v : Nat) (m : List Nat) (h : s.rcd.clearPend = none) (hu : s.unitsToErase = v :: m)
    (hr : s.flag ER_STAT ER_STAT.READY = true) (hn : s.flag ER_STAT ER_STAT.NOFLASH = false)
    (hf : s.flag ER_STAT ER_STAT.FROZEN = false) (ho : s.rcd.op = .idle) : s.flashNext = { s with rcd := { s.rcd with op := .erase v } } := by
  rw [flashNext_free s hr hn hf ho, h]
  show s.keepErased = _
  rw [State.keepErased, hu]
  exact if_pos ⟨ho, hf⟩

/-- The flash starts nothing. -/
theorem flashNext_rests (s : State) (h : s.rcd.clearPend = none)
    (hno : s.unitsToErase = [] ∨ s.rcd.op ≠ .idle ∨ s.flag ER_STAT ER_STAT.READY = false) : s.flashNext = s := by
  rw [State.flashNext]
  split
  · rfl
  · rw [h]
    show s.keepErased = s
    rcases hno with hu | ho | hr
    · rw [State.keepErased, hu]
    · rw [State.keepErased]
      split
      · rfl
      · exact if_neg fun hc => ho hc.1
    · exact absurd (Or.inl hr) ‹_›

/-- The record `ws` of a clear is programmed into `slot`, and the clear is in progress. -/
def State.clearBegun (s : State) (all : Bool) (slot : Nat) (ws : List Word) : State :=
  { s.programSlot slot ws with rcd := { (s.programSlot slot ws).rcd with
      op := .clear all slot, clearPend := none, clearFirst := false, lostBefore := false, seq := (s.rcd.seq + 1) % 2 ^ 32 } }

theorem beginClear_begun (s : State) (all : Bool) :
    ∃ ws, ws.length = 32 ∧ s.beginClear all = s.clearBegun all (s.clearSlot.getD (4080 + s.clearUsed)) ws :=
  ⟨_, buildRec_length _ _ _ _ _ _, rfl⟩

section
variable (s : State) (all : Bool)

theorem beginClear_op : (s.beginClear all).rcd.op = .clear all (s.clearSlot.getD (4080 + s.clearUsed)) := by
  obtain ⟨ws, -, h⟩ := beginClear_begun s all
  rw [h]
  rfl

theorem beginClear_pend : (s.beginClear all).rcd.clearPend = none := by
  obtain ⟨ws, -, h⟩ := beginClear_begun s all
  rw [h]
  rfl

theorem beginClear_freeze : (s.beginClear all).rcd.freezePend = s.rcd.freezePend := by
  obtain ⟨ws, -, h⟩ := beginClear_begun s all
  rw [h]
  exact congrArg (·.rcd.freezePend) (programSlot_rest s _ ws)

/-- Beside the flash and the recorder nothing differs. -/
theorem beginClear_rest : { s.beginClear all with rcd := s.rcd, flash := s.flash } = s := by
  obtain ⟨ws, -, h⟩ := beginClear_begun s all
  rw [h]
  exact congrArg (fun u : State => { u with rcd := s.rcd }) (programSlot_rest s _ ws)

theorem beginClear_reg (a : Nat) : (s.beginClear all).reg a = s.reg a := by
  obtain ⟨ws, -, h⟩ := beginClear_begun s all
  rw [h]
  exact congrArg (·.reg a) (programSlot_rest s _ ws)

theorem beginClear_fault : (s.beginClear all).fault = s.fault := by
  obtain ⟨ws, -, h⟩ := beginClear_begun s all
  rw [h]
  exact congrArg (·.fault) (programSlot_rest s _ ws)

theorem beginClear_port : (s.beginClear all).port = s.port := by
  obtain ⟨ws, -, h⟩ := beginClear_begun s all
  rw [h]
  exact congrArg (·.port) (programSlot_rest s _ ws)

theorem beginClear_word_ne (a slot : Nat) (hs : s.clearSlot = some slot) (ha : ¬(32 * slot ≤ a ∧ a < 32 * slot + 32)) :
    (s.beginClear all).flashWord a = s.flashWord a := by
  obtain ⟨ws, hw, h⟩ := beginClear_begun s all
  rw [h, hs]
  exact programSlot_word_ne s slot ws (le_of_eq hw) a ha

end

/-- The freeze has ended. -/
def State.thawed (s : State) : State :=
  ({ s with rcd := { s.rcd with freezePend := false, clearFirst := false } } : State).wr ER_STAT ER_STAT.FROZEN 0

theorem flashNext_quiet (s : State) : s.flashNext.fault = s.fault ∧ s.flashNext.port = s.port ∧
    s.flashNext.flag ER_STAT ER_STAT.FROZEN = s.flag ER_STAT ER_STAT.FROZEN ∧ s.flashNext.rcd.freezePend = s.rcd.freezePend := by
  rw [State.flashNext]
  split
  · exact ⟨rfl, rfl, rfl, rfl⟩
  split
  next all _ =>
    refine ⟨beginClear_fault _ all, beginClear_port _ all, (flag_of_reg (beginClear_reg _ all _) _).trans (flag_wr_fld _ _ _ _ _ _ rfl rfl), ?_⟩
    exact beginClear_freeze (s.wr ER_STAT ER_STAT.CLEARING 1) all
  · rcases keepErased_cases s with h | ⟨v, h⟩
    · rw [h]
      exact ⟨rfl, rfl, rfl, rfl⟩
    · rw [h]
      exact ⟨rfl, rfl, rfl, rfl⟩

theorem thawed_flashNext (s : State) (h : s.rcd.clearPend = none) :
    s.thawed.flashNext.flash = s.flash ∧ State.sameBut [ER_STAT] s s.thawed.flashNext := by
  rcases flashNext_noClear s.thawed h with hn | ⟨v, hn⟩
  · rw [hn]
    exact ⟨rfl, wr_sameBut s _ _ _⟩
  · rw [hn]
    exact ⟨rfl, wr_sameBut s _ _ _⟩

/-- A clear that waited begins. -/
theorem thawed_clears (s : State) (all : Bool) (h : s.rcd.clearPend = some all) (hr : s.flag ER_STAT ER_STAT.READY = true)
    (hn : s.flag ER_STAT ER_STAT.NOFLASH = false) (ho : s.rcd.op = .idle) :
    s.thawed.flashNext.flag ER_STAT ER_STAT.CLEARING = true ∧ s.thawed.flashNext.rcd.clearPend = none ∧
      ∃ slot, s.thawed.flashNext.rcd.op = .clear all slot := by
  have hready : s.thawed.flag ER_STAT ER_STAT.READY = true := (flag_wr_fld _ _ _ _ _ _ rfl rfl).trans hr
  have hflash : s.thawed.flag ER_STAT ER_STAT.NOFLASH = false := (flag_wr_fld _ _ _ _ _ _ rfl rfl).trans hn
  rw [flashNext_free s.thawed hready hflash (flag_wr_zero _ _ _ rfl) ho, show s.thawed.rcd.clearPend = some all from h]
  exact ⟨(flag_of_reg (beginClear_reg _ all _) _).trans (flag_wr_one _ _ _ rfl), beginClear_pend _ all, _, beginClear_op _ all⟩

/-- The freeze that its time ends. -/
theorem expired_flashNext (s : State) (h : s.rcd.clearPend = none) :
    (s.unitsToErase = [] ∨ s.rcd.op ≠ .idle ∨ s.flag ER_STAT ER_STAT.READY = false → (s.wr ER_STAT ER_STAT.FROZEN 0).flashNext.rcd = s.rcd) ∧
    (∀ v m, s.unitsToErase = v :: m → s.rcd.op = .idle → s.flag ER_STAT ER_STAT.READY = true → s.flag ER_STAT ER_STAT.NOFLASH = false →
      (s.wr ER_STAT ER_STAT.FROZEN 0).flashNext.rcd = { s.rcd with op := .erase v }) ∧
    (s.wr ER_STAT ER_STAT.FROZEN 0).flashNext.flash = s.flash ∧ State.sameBut [ER_STAT] s (s.wr ER_STAT ER_STAT.FROZEN 0).flashNext := by
  have hfld : ∀ x : Fld, x.ok = true → ER_STAT.FROZEN.apart x = true → (s.wr ER_STAT ER_STAT.FROZEN 0).flag ER_STAT x = s.flag ER_STAT x :=
    fun x hx ha => flag_wr_fld _ _ _ _ _ _ hx ha
  have hunits : (s.wr ER_STAT ER_STAT.FROZEN 0).unitsToErase = s.unitsToErase := by
    simp only [State.unitsToErase, State.nextCirc, State.slotN, rd_wr_ne s ER_STAT ER_PTR _ _ _ (by decide), rd_wr_ne s ER_STAT ER_GEOM _ _ _ (by decide)]
    rfl
  refine ⟨fun hno => ?_, fun v m hu ho hr hn => ?_, ?_⟩
  · rw [flashNext_rests (s.wr ER_STAT ER_STAT.FROZEN 0) h (by rw [hunits, hfld _ rfl rfl]; exact hno)]
    rfl
  · rw [flashNext_erases (s.wr ER_STAT ER_STAT.FROZEN 0) v m h (hunits.trans hu) ((hfld _ rfl rfl).trans hr) ((hfld _ rfl rfl).trans hn)
      (flag_wr_zero _ _ _ rfl) ho]
    rfl
  · rcases flashNext_noClear (s.wr ER_STAT ER_STAT.FROZEN 0) h with hn | ⟨v, hn⟩
    · rw [hn]
      exact ⟨rfl, wr_sameBut s _ _ _⟩
    · rw [hn]
      exact ⟨rfl, wr_sameBut s _ _ _⟩

/-! ### Reading (R361) -/

/-- The read position and the empty buffer after a write of ER_RD_PTR. -/
theorem rdPtr_ready (s : State) (d : Word) (h : s.flag ER_STAT ER_STAT.READY = true) :
    (s.erRdPtrWrite d).rd ER_RD_PTR ER_RD_PTR.SLOT = ER_RD_PTR.SLOT.get d ∧ (s.erRdPtrWrite d).rd ER_RD_STAT ER_RD_STAT.SLOT = ER_RD_PTR.SLOT.get d ∧
      (s.erRdPtrWrite d).rd ER_RD_STAT ER_RD_STAT.WORD = 0 ∧ (s.erRdPtrWrite d).rd ER_RD_STAT ER_RD_STAT.AVAIL = 0 ∧
      (s.erRdPtrWrite d).rcd.buffer = [] ∧ (s.erRdPtrWrite d).rcd.fetching = true ∧ State.sameBut [ER_RD_PTR, ER_RD_STAT] s (s.erRdPtrWrite d) := by
  have hlt : ER_RD_PTR.SLOT.get d < 2 ^ 24 := BitVec.isLt _
  rw [State.erRdPtrWrite, if_pos h]
  refine ⟨?_, ?_, ?_, ?_, rfl, rfl, fun a ha => ?_⟩
  · refine (rd_wr_ne _ ER_RD_STAT ER_RD_PTR _ _ _ (by decide)).trans ((rd_wr_ne _ ER_RD_STAT ER_RD_PTR _ _ _ (by decide)).trans ?_)
    refine (rd_wr_ne _ ER_RD_STAT ER_RD_PTR _ _ _ (by decide)).trans ((rd_wr_ne _ ER_RD_STAT ER_RD_PTR _ _ _ (by decide)).trans ?_)
    exact (rd_wr_same _ _ _ _ rfl).trans (Nat.mod_eq_of_lt hlt)
  · refine (rd_wr_fld _ _ _ _ _ _ rfl rfl).trans ((rd_wr_fld _ _ _ _ _ _ rfl rfl).trans ((rd_wr_fld _ _ _ _ _ _ rfl rfl).trans ?_))
    exact (rd_wr_same _ _ _ _ rfl).trans (Nat.mod_eq_of_lt hlt)
  · exact (rd_wr_fld _ _ _ _ _ _ rfl rfl).trans ((rd_wr_fld _ _ _ _ _ _ rfl rfl).trans (rd_wr_same _ _ _ _ rfl))
  · exact (rd_wr_fld _ _ _ _ _ _ rfl rfl).trans (rd_wr_same _ _ _ _ rfl)
  · simp only [List.mem_cons, List.not_mem_nil, or_false, not_or] at ha
    refine (reg_wr_ne _ _ _ _ _ ha.2).trans ((reg_wr_ne _ _ _ _ _ ha.2).trans ((reg_wr_ne _ _ _ _ _ ha.2).trans ?_))
    exact (reg_wr_ne _ _ _ _ _ ha.2).trans (reg_wr_ne _ _ _ _ _ ha.1)

/-- The read position of a state whose buffer is one word shorter. -/
theorem rdAdvance_shows (s : State) : (s.rdAdvance.rd ER_RD_STAT ER_RD_STAT.AVAIL = s.rd ER_RD_STAT ER_RD_STAT.AVAIL) ∧
    (s.rd ER_RD_STAT ER_RD_STAT.WORD < 31 → s.rdAdvance.rd ER_RD_STAT ER_RD_STAT.WORD = s.rd ER_RD_STAT ER_RD_STAT.WORD + 1 ∧
      s.rdAdvance.rd ER_RD_STAT ER_RD_STAT.SLOT = s.rd ER_RD_STAT ER_RD_STAT.SLOT) ∧
    (s.rd ER_RD_STAT ER_RD_STAT.WORD = 31 → s.rdAdvance.rd ER_RD_STAT ER_RD_STAT.WORD = 0 ∧
      s.rdAdvance.rd ER_RD_STAT ER_RD_STAT.SLOT = s.slotAfter (s.rd ER_RD_STAT ER_RD_STAT.SLOT)) := by
  by_cases h : s.rd ER_RD_STAT ER_RD_STAT.WORD < 31
  · have he : s.rdAdvance = s.wr ER_RD_STAT ER_RD_STAT.WORD (s.rd ER_RD_STAT ER_RD_STAT.WORD + 1) := if_pos h
    rw [he]
    refine ⟨rd_wr_fld _ _ _ _ _ _ rfl rfl, fun _ => ⟨(rd_wr_same _ _ _ _ rfl).trans (Nat.mod_eq_of_lt ?_), rd_wr_fld _ _ _ _ _ _ rfl rfl⟩,
      fun h31 => absurd h (by omega)⟩
    show s.rd ER_RD_STAT ER_RD_STAT.WORD + 1 < 32
    omega
  · have he : s.rdAdvance = (s.wr ER_RD_STAT ER_RD_STAT.WORD 0).wr ER_RD_STAT ER_RD_STAT.SLOT (s.slotAfter (s.rd ER_RD_STAT ER_RD_STAT.SLOT)) := if_neg h
    have hlt : s.slotAfter (s.rd ER_RD_STAT ER_RD_STAT.SLOT) < 2 ^ 24 := by
      have hn : s.slotN < 2 ^ 24 := rd_lt s _ _
      rw [State.slotAfter]
      split <;> omega
    rw [he]
    refine ⟨(rd_wr_fld _ _ _ _ _ _ rfl rfl).trans (rd_wr_fld _ _ _ _ _ _ rfl rfl), fun h31 => absurd h31 h, fun _ => ⟨?_, ?_⟩⟩
    · exact (rd_wr_fld _ _ _ _ _ _ rfl rfl).trans (rd_wr_same _ _ _ _ rfl)
    · exact (rd_wr_same _ _ _ _ rfl).trans (Nat.mod_eq_of_lt hlt)

theorem rdAdvance_rest (s : State) : s.onlyRegs s.rdAdvance := by
  simp only [State.rdAdvance]
  split <;> rfl

theorem rdAdvance_sameBut (s : State) : State.sameBut [ER_RD_STAT] s s.rdAdvance := by
  intro a ha
  rw [List.mem_singleton] at ha
  simp only [State.rdAdvance]
  split
  · exact reg_wr_ne _ _ _ _ _ ha
  · exact (reg_wr_ne _ _ _ _ _ ha).trans (reg_wr_ne _ _ _ _ _ ha)

/-- The buffer without its first word. -/
def State.bufferRead (s : State) (l : List Word) : State :=
  ({ s with rcd := { s.rcd with buffer := l } } : State).wr ER_RD_STAT ER_RD_STAT.AVAIL l.length

theorem rdData_some (s : State) (x : Word) (l : List Word) (h : s.rcd.buffer = x :: l) : s.rdData = (s.bufferRead l).rdAdvance := by
  rw [State.rdData, h]
  rfl

theorem rdData_none (s : State) (h : s.rcd.buffer = []) : s.rdData = s.wr ER_RD_STAT ER_RD_STAT.UNDERRUN 1 := by
  rw [State.rdData, h]

/-- A word that was in the buffer is read. -/
theorem rdData_shows (s : State) (x : Word) (l : List Word) (h : s.rcd.buffer = x :: l) (hl : l.length < 64) :
    s.rdData.rcd.buffer = l ∧ s.rdData.rd ER_RD_STAT ER_RD_STAT.AVAIL = l.length ∧
      (s.rd ER_RD_STAT ER_RD_STAT.WORD < 31 → s.rdData.rd ER_RD_STAT ER_RD_STAT.WORD = s.rd ER_RD_STAT ER_RD_STAT.WORD + 1 ∧
        s.rdData.rd ER_RD_STAT ER_RD_STAT.SLOT = s.rd ER_RD_STAT ER_RD_STAT.SLOT) ∧
      (s.rd ER_RD_STAT ER_RD_STAT.WORD = 31 → s.rdData.rd ER_RD_STAT ER_RD_STAT.WORD = 0 ∧ s.rdData.rd ER_RD_STAT ER_RD_STAT.SLOT =
        (if s.rd ER_RD_STAT ER_RD_STAT.SLOT + 1 < s.slotN then s.rd ER_RD_STAT ER_RD_STAT.SLOT + 1 else 0)) := by
  have hw : (s.bufferRead l).rd ER_RD_STAT ER_RD_STAT.WORD = s.rd ER_RD_STAT ER_RD_STAT.WORD := rd_wr_fld _ _ _ _ _ _ rfl rfl
  have hs : (s.bufferRead l).rd ER_RD_STAT ER_RD_STAT.SLOT = s.rd ER_RD_STAT ER_RD_STAT.SLOT := rd_wr_fld _ _ _ _ _ _ rfl rfl
  have hn : (s.bufferRead l).slotN = s.slotN := rd_wr_ne _ _ _ _ _ _ (by decide)
  have ha : (s.bufferRead l).rd ER_RD_STAT ER_RD_STAT.AVAIL = l.length := (rd_wr_same _ _ _ _ rfl).trans (Nat.mod_eq_of_lt (lt_trans hl (by decide)))
  obtain ⟨h1, h2, h3⟩ := rdAdvance_shows (s.bufferRead l)
  rw [State.slotAfter, hn] at h3
  rw [hw, hs] at h2 h3
  rw [rdData_some s x l h]
  exact ⟨congrArg (·.rcd.buffer) (rdAdvance_rest (s.bufferRead l)), h1.trans ha, h2, h3⟩

/-- Reading the buffer touches ER_RD_STAT and the buffer alone. -/
theorem rdData_rest (s : State) : { s.rdData with regs := s.regs, rcd := s.rcd } = s ∧ State.sameBut [ER_RD_STAT] s s.rdData := by
  cases h : s.rcd.buffer with
  | nil =>
    rw [rdData_none s h]
    exact ⟨rfl, wr_sameBut s _ _ _⟩
  | cons x l =>
    rw [rdData_some s x l h]
    refine ⟨congrArg (fun u : State => { u with regs := s.regs, rcd := s.rcd }) (rdAdvance_rest (s.bufferRead l)), fun a ha => ?_⟩
    exact (rdAdvance_sameBut (s.bufferRead l) a ha).trans (wr_sameBut { s with rcd := { s.rcd with buffer := l } } _ _ _ a ha)

theorem fetchFill_inside (s : State) (h : s.rd ER_RD_STAT ER_RD_STAT.SLOT < s.slotN) :
    s.fetchFill = ({ s with rcd := { s.rcd with buffer := s.fetched } } : State).wr ER_RD_STAT ER_RD_STAT.AVAIL 64 := by
  rw [State.fetchFill, decide_eq_false (by omega)]
  rfl

/-- A fetch that completes fills the buffer and shows it in ER_RD_STAT. -/
theorem fetchFill_rest (s : State) : { s.fetchFill with regs := s.regs, rcd := s.rcd, freeCtr := s.freeCtr } = s ∧
    State.sameBut [ER_RD_STAT] s s.fetchFill ∧ s.fetchFill.rcd.buffer = s.fetched := by
  simp only [State.fetchFill, State.on]
  split
  · exact ⟨rfl, wr_sameBut { s with rcd := { s.rcd with buffer := s.fetched }, freeCtr := s.freeCtr + 32 } _ _ _, rfl⟩
  · exact ⟨rfl, wr_sameBut { s with rcd := { s.rcd with buffer := s.fetched } } _ _ _, rfl⟩

/-- RD_ABORT outside the cycle in which a fetch completes. -/
theorem rdAbort_empties (s : State) (same : Bool)
    (h : (same && s.rcd.fetching && s.flashRests && decide (s.slotN ≠ 0)) = false) :
    s.rdAbort same = { (s.wr ER_RD_STAT ER_RD_STAT.ABORT 1).wr ER_RD_STAT ER_RD_STAT.AVAIL 0 with rcd := { s.rcd with fetching := false, buffer := [] } } :=
  if_neg (by rw [h]; exact Bool.false_ne_true)

theorem rdAbort_late (s : State) (same : Bool)
    (h : (same && s.rcd.fetching && s.flashRests && decide (s.slotN ≠ 0)) = true) :
    s.rdAbort same = { s.fetchFill.wr ER_RD_STAT ER_RD_STAT.ABORT 2 with rcd := { s.fetchFill.rcd with fetching := false } } := if_pos h

theorem rdAbort_rest (s : State) (same : Bool) : { s.rdAbort same with regs := s.regs, rcd := s.rcd, freeCtr := s.freeCtr } = s ∧
    (s.rdAbort same).rcd.fetching = false ∧ State.sameBut [ER_RD_STAT] s (s.rdAbort same) := by
  cases h : same && s.rcd.fetching && s.flashRests && decide (s.slotN ≠ 0) with
  | false =>
    rw [rdAbort_empties s same h]
    exact ⟨rfl, rfl, fun a ha => (wr_sameBut (s.wr ER_RD_STAT ER_RD_STAT.ABORT 1) _ _ _ a ha).trans (wr_sameBut s _ _ _ a ha)⟩
  | true =>
    obtain ⟨hrest, hsame, -⟩ := fetchFill_rest s
    rw [rdAbort_late s same h]
    exact ⟨hrest, rfl, fun a ha => (wr_sameBut s.fetchFill _ _ _ a ha).trans (hsame a ha)⟩

/-! ### Clearing (R362, R363) -/

theorem clearCmd_refused (s : State) (d : Word) (h : s.flag ER_STAT ER_STAT.CLEAR_ARMED = false ∨ s.clearSlot = none) :
    s.clearCmd d = s.wr ER_STAT ER_STAT.REFUSED 1 := by
  refine if_neg fun hok => ?_
  simp only [Bool.and_eq_true] at hok
  obtain ⟨⟨⟨⟨⟨⟨⟨-, harmed⟩, -⟩, -⟩, -⟩, -⟩, hslot⟩, -⟩ := hok
  rcases h with h | h
  · rw [h] at harmed
    exact Bool.false_ne_true harmed
  · rw [h] at hslot
    exact Bool.false_ne_true hslot

theorem clearCmd_accepted (s : State) (d : Word) (slot : Nat) (harmed : s.flag ER_STAT ER_STAT.CLEAR_ARMED = true)
    (hr : s.flag ER_STAT ER_STAT.READY = true) (hf : s.flag ER_STAT ER_STAT.FROZEN = false) (hc : s.flag ER_STAT ER_STAT.CLEARING = false)
    (hn : s.flag ER_STAT ER_STAT.NOFLASH = false) (hu : s.clearUsed < 16) (hd : ER_CTRL.SCOPE.get d = 0) (hs : s.clearSlot = some slot) :
    s.clearCmd d = if s.rcd.op = .idle then (s.wr ER_STAT ER_STAT.CLEARING 1).beginClear false
      else { s.wr ER_STAT ER_STAT.CLEARING 1 with rcd := { s.rcd with clearPend := some false } } := by
  have hok : (s.flag ER_STAT ER_STAT.READY && s.flag ER_STAT ER_STAT.CLEAR_ARMED && !s.flag ER_STAT ER_STAT.FROZEN &&
      !s.flag ER_STAT ER_STAT.CLEARING && decide (s.clearUsed < 16) && !s.flag ER_STAT ER_STAT.NOFLASH && s.clearSlot.isSome &&
      (!(ER_CTRL.SCOPE.get d == 1) || s.fuses.lcState == 0 || s.fuses.lcState == 3)) = true := by
    rw [hr, harmed, hf, hc, hn, hs, hd, decide_eq_true hu]
    rfl
  have hall : (ER_CTRL.SCOPE.get d == 1) = false := by rw [hd]; rfl
  rw [State.clearCmd]
  refine (if_pos hok).trans ?_
  rw [hall]
  rfl

/-- A clear leaves every register but ER_STAT, raises nothing and answers nothing. -/
theorem clearCmd_rest (s : State) (d : Word) : { s.clearCmd d with regs := s.regs, rcd := s.rcd, flash := s.flash } = s ∧
    State.sameBut [ER_STAT] s (s.clearCmd d) := by
  simp only [State.clearCmd]
  split
  · split
    · refine ⟨?_, fun a ha => (beginClear_reg _ _ a).trans (wr_sameBut s _ _ _ a ha)⟩
      obtain ⟨ws, -, h⟩ := beginClear_begun (s.wr ER_STAT ER_STAT.CLEARING 1) (ER_CTRL.SCOPE.get d == 1)
      rw [h]
      exact congrArg (fun u : State => { u with regs := s.regs, rcd := s.rcd }) (programSlot_rest (s.wr ER_STAT ER_STAT.CLEARING 1) _ ws)
    · exact ⟨rfl, wr_sameBut s _ _ _⟩
  · exact ⟨rfl, wr_sameBut s _ _ _⟩

end Sys2Proof.Machine

/-! PROOFS. The end of a clear, and the obligation on the recorder's commands (R360-R363, R397). -/

namespace Sys2Proof.Machine

open Sys2Proof

/-! ### The end of a clear (R363) -/

/-- The areas of a clear are erased and its record is committed. -/
def State.areasBlank (s : State) (all : Bool) (slot : Nat) : State :=
  (if all then (s.eraseSlots 4096 s.slotN).eraseSlots 0 4080 else s.eraseSlots 4096 s.slotN).commitSlot slot

/-- ER_PTR and ER_STAT at the end of a clear. -/
def State.clearMarked (s : State) (all : Bool) (used : Nat) : State :=
  let s3 := ((s.wr ER_PTR ER_PTR.CLEAR_USED used).wr ER_PTR ER_PTR.NEXT_CIRC 4096).wrb ER_STAT ER_STAT.CLEAR_FULL (decide (16 ≤ used))
  let s4 := if all then (s3.wr ER_PTR ER_PTR.KEPT_NEXT 0).wr ER_STAT ER_STAT.KEPT_FULL 0 else s3
  (s4.wr ER_STAT ER_STAT.CLEARING 0).wrb ER_STAT ER_STAT.CLEAR_ARMED (s4.fuses.lcState == 0)

theorem finishClear_eq (s : State) (all : Bool) (slot used : Nat) :
    s.finishClear all slot used = (s.areasBlank all slot).clearMarked all used := rfl

theorem commitSlot_word_ne (s : State) (slot a : Nat) (h : a < 32 * slot ∨ 32 * slot + 32 ≤ a) : (s.commitSlot slot).flashWord a = s.flashWord a :=
  programWord_word_ne s _ a _ (by omega)

/-- The circulating area is blank. -/
theorem areasBlank_circ (s : State) (all : Bool) (slot a : Nat) (hs : slot < 4096) (h1 : 32 * 4096 ≤ a) (h2 : a < 32 * s.slotN) :
    (s.areasBlank all slot).flashWord a = BitVec.allOnes 64 := by
  have hone : (s.eraseSlots 4096 s.slotN).flashWord a = BitVec.allOnes 64 := by
    rw [eraseSlots_word, if_neg (by omega)]
  rw [State.areasBlank, commitSlot_word_ne _ _ _ (.inr (by omega))]
  cases all with
  | false => exact hone
  | true =>
    refine (eraseSlots_word (s.eraseSlots 4096 s.slotN) 0 4080 a).trans ?_
    rw [if_pos (.inr (by omega)), hone]

/-- The kept area is blank after a clear of all, and stands after another. -/
theorem areasBlank_kept (s : State) (all : Bool) (slot a : Nat) (hs : 4080 ≤ slot) (h : a < 32 * 4080) :
    (s.areasBlank all slot).flashWord a = if all then BitVec.allOnes 64 else s.flashWord a := by
  have hone : (s.eraseSlots 4096 s.slotN).flashWord a = s.flashWord a := by
    rw [eraseSlots_word, if_pos (.inl (by omega))]
  rw [State.areasBlank, commitSlot_word_ne _ _ _ (.inl (by omega))]
  cases all with
  | false => exact hone
  | true =>
    refine (eraseSlots_word (s.eraseSlots 4096 s.slotN) 0 4080 a).trans ?_
    rw [if_neg (by omega)]
    rfl

theorem areasBlank_rest (s : State) (all : Bool) (slot : Nat) : { s.areasBlank all slot with flash := s.flash } = s := by
  cases all <;> rfl

theorem clearMarked_sameBut (s : State) (all : Bool) (used : Nat) : State.sameBut [ER_STAT, ER_PTR] s (s.clearMarked all used) := by
  intro a ha
  simp only [List.mem_cons, List.not_mem_nil, or_false, not_or] at ha
  have hstat := fun (u : State) (x : Fld) (v : Nat) => reg_wr_ne u ER_STAT a x v ha.1
  have hptr := fun (u : State) (x : Fld) (v : Nat) => reg_wr_ne u ER_PTR a x v ha.2
  cases all with
  | false => simp only [State.clearMarked, State.wrb, hstat, hptr, Bool.false_eq_true, if_false]
  | true => simp only [State.clearMarked, State.wrb, hstat, hptr, if_true]

theorem clearMarked_rest (s : State) (all : Bool) (used : Nat) : s.onlyRegs (s.clearMarked all used) := by
  cases all <;> rfl

theorem clearMarked_clearing (s : State) (all : Bool) (used : Nat) : (s.clearMarked all used).flag ER_STAT ER_STAT.CLEARING = false :=
  (flag_wr_fld _ _ _ _ _ _ rfl rfl).trans (flag_wr_zero _ _ _ rfl)

/-- The positions at the end of a clear. -/
theorem clearMarked_places (s : State) (all : Bool) (used : Nat) (hu : used < 32) :
    (s.clearMarked all used).nextCirc = 4096 ∧ (s.clearMarked all used).clearUsed = used ∧
      (s.clearMarked all used).keptNext = if all then 0 else s.keptNext := by
  have hstat := fun (u : State) (x f : Fld) (v : Nat) => rd_wr_ne u ER_STAT ER_PTR x f v (by decide)
  have hused : used % 2 ^ ER_PTR.CLEAR_USED.width = used := Nat.mod_eq_of_lt hu
  have hcirc : 4096 % 2 ^ ER_PTR.NEXT_CIRC.width = 4096 := by decide
  have hkept : 0 % 2 ^ ER_PTR.KEPT_NEXT.width = 0 := Nat.zero_mod _
  cases all with
  | false =>
    refine ⟨?_, ?_, ?_⟩
    · simp only [State.clearMarked, State.wrb, State.nextCirc, hstat, Bool.false_eq_true, if_false, rd_wr_same _ ER_PTR ER_PTR.NEXT_CIRC _ rfl, hcirc]
    · simp only [State.clearMarked, State.wrb, State.clearUsed, hstat, Bool.false_eq_true, if_false,
        rd_wr_fld _ _ ER_PTR ER_PTR.NEXT_CIRC ER_PTR.CLEAR_USED _ rfl rfl, rd_wr_same _ ER_PTR ER_PTR.CLEAR_USED _ rfl, hused]
    · simp only [State.clearMarked, State.wrb, State.keptNext, hstat, Bool.false_eq_true, if_false,
        rd_wr_fld _ _ ER_PTR ER_PTR.NEXT_CIRC ER_PTR.KEPT_NEXT _ rfl rfl, rd_wr_fld _ _ ER_PTR ER_PTR.CLEAR_USED ER_PTR.KEPT_NEXT _ rfl rfl]
  | true =>
    refine ⟨?_, ?_, ?_⟩
    · simp only [State.clearMarked, State.wrb, State.nextCirc, hstat, if_true,
        rd_wr_fld _ _ ER_PTR ER_PTR.KEPT_NEXT ER_PTR.NEXT_CIRC _ rfl rfl, rd_wr_same _ ER_PTR ER_PTR.NEXT_CIRC _ rfl, hcirc]
    · simp only [State.clearMarked, State.wrb, State.clearUsed, hstat, if_true, rd_wr_fld _ _ ER_PTR ER_PTR.KEPT_NEXT ER_PTR.CLEAR_USED _ rfl rfl,
        rd_wr_fld _ _ ER_PTR ER_PTR.NEXT_CIRC ER_PTR.CLEAR_USED _ rfl rfl, rd_wr_same _ ER_PTR ER_PTR.CLEAR_USED _ rfl, hused]
    · simp only [State.clearMarked, State.wrb, State.keptNext, hstat, if_true, rd_wr_same _ ER_PTR ER_PTR.KEPT_NEXT _ rfl, hkept]

/-- A clear in progress ends where no freeze is in force or waits. -/
theorem clearDone_ends (s : State) (all : Bool) (slot : Nat) (ho : s.rcd.op = .clear all slot) (hf : s.flag ER_STAT ER_STAT.FROZEN = false)
    (hp : s.rcd.freezePend = false) :
    s.clearDone = { (s.areasBlank all slot).clearMarked all (s.clearUsed + 1) with rcd := { s.rcd with op := .idle } } := by
  have hrcd : ((s.areasBlank all slot).clearMarked all (s.clearUsed + 1)).rcd = s.rcd :=
    (congrArg (·.rcd) (clearMarked_rest (s.areasBlank all slot) all (s.clearUsed + 1))).trans (congrArg (·.rcd) (areasBlank_rest s all slot))
  simp only [State.clearDone, hf, ho, Bool.false_eq_true, if_false, finishClear_eq, hrcd, hp]

/-- The search for a blank slot looks at the flash alone. -/
theorem firstBlank_wr (s : State) (r : Nat) (f : Fld) (v n a : Nat) : (s.wr r f v).firstBlank n a = s.firstBlank n a := by
  induction n generalizing a with
  | zero => rfl
  | succ n ih => exact congrArg (fun o => if s.blankSlot a then some a else o) (ih (a + 1))

/-! ### ER_CFG (R397) -/

theorem erCfg_shows (s : State) (d : Word) (h : s.flag ER_CFG ER_CFG.LOCK = false) :
    (s.erCfgWrite d).rd ER_CFG ER_CFG.QUAD = ER_CFG.QUAD.get d ∧ (s.erCfgWrite d).rd ER_CFG ER_CFG.DIV = ER_CFG.DIV.get d ∧
      (s.erCfgWrite d).rd ER_CFG ER_CFG.LOCK = ER_CFG.LOCK.get d := by
  have hfit : ∀ f : Fld, f.get d % 2 ^ f.width = f.get d := fun f => Nat.mod_eq_of_lt (BitVec.isLt _)
  rw [State.erCfgWrite, h, if_neg Bool.false_ne_true]
  refine ⟨?_, ?_, ?_⟩
  · exact (rd_wr_fld _ _ _ _ _ _ rfl rfl).trans ((rd_wr_fld _ _ _ _ _ _ rfl rfl).trans ((rd_wr_same _ _ _ _ rfl).trans (hfit _)))
  · exact (rd_wr_fld _ _ _ _ _ _ rfl rfl).trans ((rd_wr_same _ _ _ _ rfl).trans (hfit _))
  · exact (rd_wr_same _ _ _ _ rfl).trans (hfit _)

theorem erCfg_rest (s : State) (d : Word) : s.onlyRegs (s.erCfgWrite d) ∧ State.sameBut [ER_CFG] s (s.erCfgWrite d) := by
  rw [State.erCfgWrite]
  split
  · exact ⟨rfl, fun _ _ => rfl⟩
  · refine ⟨rfl, fun a ha => ?_⟩
    rw [List.mem_singleton] at ha
    exact (reg_wr_ne _ _ _ _ _ ha).trans ((reg_wr_ne _ _ _ _ _ ha).trans (reg_wr_ne _ _ _ _ _ ha))

/-! ### The obligation -/

/-- Settles O56: each command is its one bit of ER_CTRL, or its register's write, and touches the recorder, its flash and its registers alone. -/
theorem recorderCommands : Obligations.RecorderCommands := by
  unfold Obligations.RecorderCommands
  refine ⟨fun d s hq ha ht hf hth hc hr hfrozen => ?_, fun d s hq ha ht hf hth hc hr => ?_, fun s hq hfrozen hpend => ?_, fun d s hq ha ht => ?_,
    fun s hq ha => ?_, fun s hq hfetch hidle hn hslot => ?_, fun d same s hq ha ht hf hth hc hr => ?_, fun d s hq ha ht hf hth hc hr => ?_,
    fun s hq hfrozen => ?_, fun all slot s hq ho h1 h2 hf hp hu => ?_, fun s hq hl => ?_, fun d s hq ha ht => ?_⟩
  · have hx : ∀ u : State, ({ s with rcd := { s.rcd with clearFirst := false } } : State).freezeCmd = u → u.alone → u.quiet →
        exec (.freeze d) s = .next (u.answered rOkay 0) := fun u hu =>
      hostOp_effect (show exec (.freeze d) s = hostOp s ER_CTRL d (·.erCtrlWrite d false) from rfl) ht ((erCtrl_freeze s d false hf hth hc hr).trans hu)
    by_cases ho : s.rcd.op = .idle
    · refine ⟨_, hx _ (freezeCmd_free _ hfrozen ho) ha hq, fun _ => ⟨flag_wr_one _ _ _ rfl, rfl⟩, fun hne => absurd ho hne, rfl, rfl, ?_⟩
      exact wr_sameBut _ _ _ _
    · exact ⟨_, hx _ (freezeCmd_busy _ hfrozen ho) ha hq, fun he => absurd he ho, fun _ => ⟨rfl, hfrozen⟩, rfl, rfl, fun _ _ => rfl⟩
  · obtain ⟨hfault, hport, hflag, hfpend⟩ := flashNext_quiet s.thawed
    have hx := hostOp_effect (show exec (.thaw d) s = hostOp s ER_CTRL d (·.erCtrlWrite d false) from rfl) ht (erCtrl_thaw s d false hf hth hc hr)
      (show s.thawed.flashNext.alone by rw [State.alone, hport]; exact ha) ((congrArg (·.now) hfault).trans hq)
    exact ⟨_, hx, hflag.trans (flag_wr_zero _ _ _ rfl), hfpend, fun h => thawed_flashNext s h, fun all h hr' hn' ho => thawed_clears s all h hr' hn' ho⟩
  · have hx : exec .freezeExpiry s = .next (s.wr ER_STAT ER_STAT.FROZEN 0).flashNext :=
      (congrArg done (if_pos hfrozen)).trans (done_quiet _ ((congrArg (·.now) (flashNext_quiet (s.wr ER_STAT ER_STAT.FROZEN 0)).1).trans hq))
    exact ⟨_, hx, (flashNext_quiet _).2.2.1.trans (flag_wr_zero _ _ _ rfl), expired_flashNext s hpend⟩
  · have hx : ∀ u : State, s.erRdPtrWrite d = u → u.alone → u.quiet → exec (.erRdPtrWrite d) s = .next (u.answered rOkay 0) := fun u hu =>
      hostOp_effect (show exec (.erRdPtrWrite d) s = hostOp s ER_RD_PTR d (·.erRdPtrWrite d) from rfl) ht hu
    cases hr : s.flag ER_STAT ER_STAT.READY with
    | true =>
      refine ⟨_, hx _ rfl ?_ ?_, fun _ => rdPtr_ready s d hr, fun h => Bool.noConfusion h⟩
      · rw [State.erRdPtrWrite, if_pos hr]
        exact ha
      · rw [State.erRdPtrWrite, if_pos hr]
        exact hq
    | false =>
      have he : s.erRdPtrWrite d = s.wr ER_STAT ER_STAT.REFUSED 1 := if_neg (by rw [hr]; exact Bool.false_ne_true)
      exact ⟨_, hx _ he ha hq, fun h => Bool.noConfusion h, fun _ => ⟨flag_wr_one _ _ _ rfl, rfl, wr_sameBut s _ _ _⟩⟩
  · obtain ⟨hrest, hsame⟩ := rdData_rest s
    have hport : s.rdData.port = s.port := congrArg (·.port) hrest
    have hx : exec .erRdDataRead s = .next (s.rdData.answered rOkay (s.rcd.buffer.headD 0)) := by
      refine (congrArg done (answer_alone s.rdData _ _ (by rw [State.alone, hport]; exact ha))).trans (done_quiet _ ?_)
      exact (congrArg (·.fault.now) hrest).trans hq
    have hanswer : ∀ x, (s.rdData.answered rOkay x).port = (s.answered rOkay x).port := fun x => by simp only [State.answered, hport]
    refine ⟨_, hx, fun h => ?_, fun x l h hl => ?_, congrArg (·.flash) hrest, hsame⟩
    · rw [hanswer, h]
      refine ⟨?_, rfl, ?_⟩
      · rw [rdData_none s h]
        exact flag_wr_one s _ _ rfl
      · rw [rdData_none s h]
        rfl
    · obtain ⟨hb, hav, hin, hend⟩ := rdData_shows s x l h hl
      rw [hanswer, h]
      exact ⟨rfl, hb, hav, hin, hend⟩
  · have hcond : s.rcd.fetching ∧ s.flashRests ∧ s.slotN ≠ 0 := by
      refine ⟨hfetch, ?_, hn⟩
      rw [State.flashRests, Bool.or_eq_true, decide_eq_true_eq]
      exact hidle
    obtain ⟨hrest, hsame, hbuf⟩ := fetchFill_rest s
    have hx : exec .fetchDone s = .next s.fetchFill :=
      (congrArg done (if_pos hcond)).trans (done_quiet _ ((congrArg (·.fault.now) hrest).trans hq))
    refine ⟨_, hx, hbuf.trans (fetched_eq s hslot), ?_, congrArg (·.flash) hrest, hsame⟩
    rw [fetchFill_inside s hslot]
    exact rd_wr_same _ _ _ _ rfl
  · obtain ⟨hrest, hstops, hsame⟩ := rdAbort_rest s same
    have hx := hostOp_effect (show exec (.rdAbort d same) s = hostOp s ER_CTRL d (·.erCtrlWrite d same) from rfl) ht (erCtrl_abort s d same hf hth hc hr)
      (show (s.rdAbort same).alone by rw [State.alone, show (s.rdAbort same).port = s.port from congrArg (·.port) hrest]; exact ha)
      ((congrArg (·.fault.now) hrest).trans hq)
    refine ⟨_, hx, hstops, fun hs => ?_, fun hs hfetch hidle hn => ?_, congrArg (·.flash) hrest, hsame⟩
    · show (s.rdAbort same).rcd.buffer = [] ∧ (s.rdAbort same).rd ER_RD_STAT ER_RD_STAT.AVAIL = 0 ∧ (s.rdAbort same).rd ER_RD_STAT ER_RD_STAT.ABORT = 1
      rw [rdAbort_empties s same (by rw [hs]; rfl)]
      exact ⟨rfl, rd_wr_same _ _ _ _ rfl, (rd_wr_fld _ _ _ _ _ _ rfl rfl).trans (rd_wr_same s _ _ _ rfl)⟩
    · have hlate : (same && s.rcd.fetching && s.flashRests && decide (s.slotN ≠ 0)) = true := by
        simp only [hs, hfetch, State.flashRests, Bool.and_eq_true, Bool.or_eq_true, decide_eq_true_eq, true_and]
        exact ⟨hidle, hn⟩
      show (s.rdAbort same).rcd.buffer = s.fetched ∧ (s.rdAbort same).rd ER_RD_STAT ER_RD_STAT.ABORT = 2
      rw [rdAbort_late s same hlate]
      exact ⟨(fetchFill_rest s).2.2, rd_wr_same _ _ _ _ rfl⟩
  · obtain ⟨hrest, hsame⟩ := clearCmd_rest s d
    have hx := hostOp_effect (show exec (.clear d) s = hostOp s ER_CTRL d (·.erCtrlWrite d false) from rfl) ht (erCtrl_clear s d false hf hth hc hr)
      (show (s.clearCmd d).alone by rw [State.alone, show (s.clearCmd d).port = s.port from congrArg (·.port) hrest]; exact ha)
      ((congrArg (·.fault.now) hrest).trans hq)
    refine ⟨_, hx, fun h => ?_, fun harmed hrdy hf hcl hn hu hd slot hs => ?_, hsame⟩
    · show (s.clearCmd d).flag ER_STAT ER_STAT.REFUSED = true ∧ (s.clearCmd d).rcd = s.rcd ∧ (s.clearCmd d).flash = s.flash
      rw [clearCmd_refused s d h]
      exact ⟨flag_wr_one _ _ _ rfl, rfl, rfl⟩
    · have he := clearCmd_accepted s d slot harmed hrdy hf hcl hn hu hd hs
      have hslot : (s.wr ER_STAT ER_STAT.CLEARING 1).clearSlot = some slot := by
        refine Eq.trans ?_ hs
        rw [State.clearSlot, show (s.wr ER_STAT ER_STAT.CLEARING 1).clearUsed = s.clearUsed from rd_wr_ne _ _ _ _ _ _ (by decide)]
        exact firstBlank_wr s _ _ _ _ _
      refine ⟨?_, fun ho => ?_, fun ho => ?_⟩
      · show (s.clearCmd d).flag ER_STAT ER_STAT.CLEARING = true
        rw [he]
        split
        · exact (flag_of_reg (beginClear_reg _ _ _) _).trans (flag_wr_one _ _ _ rfl)
        · exact flag_wr_one _ _ _ rfl
      · show (s.clearCmd d).rcd.op = .clear false slot ∧ ∀ a, ¬(32 * slot ≤ a ∧ a < 32 * slot + 32) → (s.clearCmd d).flashWord a = s.flashWord a
        rw [he, if_pos ho]
        refine ⟨?_, fun a ha => beginClear_word_ne _ _ a slot hslot ha⟩
        rw [beginClear_op, hslot]
        rfl
      · show (s.clearCmd d).rcd.clearPend = some false ∧ (s.clearCmd d).flash = s.flash
        rw [he, if_neg ho]
        exact ⟨rfl, rfl⟩
  · have he : s.clearDone = s := by rw [State.clearDone, hfrozen, if_pos rfl]
    exact (congrArg done he).trans (done_quiet s hq)
  · have he := clearDone_ends s all slot ho hf hp
    obtain ⟨hcirc, hused, hkept⟩ := clearMarked_places (s.areasBlank all slot) all (s.clearUsed + 1) (by omega)
    have hmark := clearMarked_rest (s.areasBlank all slot) all (s.clearUsed + 1)
    have hblank := areasBlank_rest s all slot
    have hword : ∀ a, s.clearDone.flashWord a = (s.areasBlank all slot).flashWord a := fun a => by
      rw [he]
      exact congrArg (·.flashWord a) hmark
    have hx : exec .clearDone s = .next s.clearDone := done_quiet _ (by
      rw [he]
      exact (congrArg (·.fault.now) hmark).trans ((congrArg (·.fault.now) hblank).trans hq))
    refine ⟨_, hx, ?_, ?_, ?_, ?_, fun a h3 h4 => (hword a).trans (areasBlank_circ s all slot a h2 h3 h4), fun hall => ⟨?_, fun a h => ?_⟩,
      fun hall => ⟨?_, fun a h => ?_⟩, fun a h => ?_⟩
    · rw [he]
      exact clearMarked_clearing (s.areasBlank all slot) all _
    · rw [he]
    · rw [he]
      exact hcirc
    · rw [he]
      exact hused
    · rw [he]
      exact hkept.trans (if_pos hall)
    · rw [hword, areasBlank_kept s all slot a h1 h, if_pos hall]
    · rw [he]
      refine hkept.trans ((if_neg (by rw [hall]; exact Bool.false_ne_true)).trans ?_)
      exact congrArg (·.keptNext) hblank
    · rw [hword, areasBlank_kept s all slot a h1 h, if_neg (by rw [hall]; exact Bool.false_ne_true)]
    · rw [he]
      exact (clearMarked_sameBut (s.areasBlank all slot) all _ a h).trans (congrArg (·.reg a) hblank)
  · have he : s.clearArmExpiry = s.wr ER_STAT ER_STAT.CLEAR_ARMED 0 := if_neg hl
    exact ⟨_, (congrArg done he).trans (done_quiet _ hq), flag_wr_zero s _ _ rfl, rfl, rfl, wr_sameBut s _ _ _⟩
  · obtain ⟨hrest, hsame⟩ := erCfg_rest s d
    have hx := hostOp_effect (show exec (.erCfgWrite d) s = hostOp s ER_CFG d (·.erCfgWrite d) from rfl) ht rfl
      (show (s.erCfgWrite d).alone by rw [State.alone, show (s.erCfgWrite d).port = s.port from congrArg (·.port) hrest]; exact ha)
      ((congrArg (·.fault.now) hrest).trans hq)
    refine ⟨_, hx, fun h => erCfg_shows s d h, fun h => ?_, congrArg (·.rcd) hrest, congrArg (·.flash) hrest, hsame⟩
    show (s.erCfgWrite d).reg ER_CFG = s.reg ER_CFG
    rw [State.erCfgWrite, h, if_pos rfl]

end Sys2Proof.Machine

/-! PROOFS. The host's cap, job stop and classes; orders of the remap unit; the identity mapping (R30, R278, R285, R292, R295-R298). -/

namespace Sys2Proof.Machine

open Sys2Proof

/-! ### Cap and job stop (R30, R278, R285) -/

section
variable (s : State) (d : Word)

theorem fld_fits (f : Fld) (x : Word) : f.get x % 2 ^ f.width = f.get x := Nat.mod_eq_of_lt (BitVec.isLt _)

theorem capHost_stores : (s.capHostWrite d).rd CG_CAP CG_CAP.CAP_HOST = min (CG_CAP.CAP_HOST.get d) (s.rd CG_CAP CG_CAP.WAFER_LIM) := by
  simp only [State.capHostWrite]
  split
  next h =>
    refine (rd_wr_ne _ CG_STAT CG_CAP _ _ _ (by decide)).trans ((rd_wr_same _ _ _ _ rfl).trans ?_)
    rw [min_eq_right h.le]
    exact fld_fits CG_CAP.WAFER_LIM _
  next h =>
    rw [min_eq_left (not_lt.mp h)]
    exact (rd_wr_same _ _ _ _ rfl).trans (fld_fits CG_CAP.CAP_HOST d)

theorem capHost_clamps (h : s.rd CG_CAP CG_CAP.WAFER_LIM < CG_CAP.CAP_HOST.get d) : (s.capHostWrite d).flag CG_STAT CG_STAT.CLAMPED = true := by
  rw [State.capHostWrite, if_pos h]
  exact flag_wr_one _ _ _ rfl

theorem capHost_rest : s.onlyRegs (s.capHostWrite d) ∧ State.sameBut [CG_CAP, CG_STAT] s (s.capHostWrite d) := by
  simp only [State.capHostWrite]
  split
  · refine ⟨rfl, fun a ha => ?_⟩
    simp only [List.mem_cons, List.not_mem_nil, or_false, not_or] at ha
    exact (reg_wr_ne _ _ _ _ _ ha.2).trans (reg_wr_ne _ _ _ _ _ ha.1)
  · refine ⟨rfl, fun a ha => ?_⟩
    simp only [List.mem_cons, List.not_mem_nil, or_false, not_or] at ha
    exact reg_wr_ne _ _ _ _ _ ha.1

theorem jobStop_unoffered (hd : CG_CTRL.JOB_STOP.get d = 1) (h : s.flag CG_STAT CG_STAT.STOP_OFFER = false) :
    s.jobStopWrite d = s.wr CG_STAT CG_STAT.REFUSED 1 := by
  rw [State.jobStopWrite, if_neg (by rw [hd]; decide), if_pos h]

theorem jobStop_starts (hd : CG_CTRL.JOB_STOP.get d = 1) (h : s.flag CG_STAT CG_STAT.STOP_OFFER = true)
    (hr : s.startRefused (s.rd CG_CFG1 CG_CFG1.STOP_SEQ) (s.rd CG_CFG1 CG_CFG1.STOP_PROG) = false) :
    s.jobStopWrite d = s.seqStart (s.rd CG_CFG1 CG_CFG1.STOP_SEQ) (s.rd CG_CFG1 CG_CFG1.STOP_PROG) 0 0xFF 0xF := by
  rw [State.jobStopWrite, if_neg (by rw [hd]; decide), if_neg (by rw [h]; exact Bool.noConfusion)]
  exact if_neg (by rw [hr]; exact Bool.false_ne_true)

/-! ### Classes (R292) -/

theorem plSet_refused (hk : PL_SET.KIND.get d ≠ 0) (h : s.setRefused (PL_SET.KIND.get d) (PL_SET.REGION.get d) (PL_SET.CLASS.get d) = true) :
    s.plSetWrite d = s.wr PL_STAT PL_STAT.REFUSED 1 := by
  rw [State.plSetWrite]
  exact (if_neg hk).trans (if_pos h)

theorem plSet_cluster (hk : PL_SET.KIND.get d = 1) (h : s.setRefused 1 (PL_SET.REGION.get d) (PL_SET.CLASS.get d) = false) :
    s.plSetWrite d = s.setCluster_ (PL_SET.REGION.get d / 96) (PL_SET.REGION.get d % 96) (PL_SET.CLASS.get d) := by
  rw [State.plSetWrite, hk]
  exact (if_neg Nat.one_ne_zero).trans ((if_neg (by rw [h]; exact Bool.false_ne_true)).trans (if_pos rfl))

theorem plSet_well (hk : PL_SET.KIND.get d = 2) (h : s.setRefused 2 (PL_SET.REGION.get d) (PL_SET.CLASS.get d) = false) :
    s.plSetWrite d = s.setWell_ (PL_SET.REGION.get d) (PL_SET.CLASS.get d) (PL_SET.LIM.get d) := by
  rw [State.plSetWrite, hk]
  exact (if_neg (by decide)).trans ((if_neg (by rw [h]; exact Bool.false_ne_true)).trans (if_neg (by decide)))

theorem setRefused_cluster (g cls : Nat) (h : s.setRefused 1 g cls = false) : cls ≤ 4 := by
  simp only [State.setRefused, if_true, Bool.or_eq_false_iff, decide_eq_false_iff_not, not_lt] at h
  exact h.2

/-- A cluster's class other than RETIRE. -/
theorem setCluster_shows (g cls : Nat) (hc : cls < 4) : (s.setCluster_ (g / 96) (g % 96) cls).rd (PL_MAP g) PL_MAP.CLASS = cls ∧
    State.sameBut [PL_MAP g] s (s.setCluster_ (g / 96) (g % 96) cls) ∧ (s.setCluster_ (g / 96) (g % 96) cls).port = s.port ∧
    (s.setCluster_ (g / 96) (g % 96) cls).fault = s.fault := by
  have hg : 96 * (g / 96) + g % 96 = g := Nat.div_add_mod g 96
  have hcls : cls % 2 ^ PL_MAP.CLASS.width = cls := Nat.mod_eq_of_lt (lt_trans hc (by decide))
  rw [State.setCluster_, hg]
  simp only [if_neg (show ¬cls = 4 by omega)]
  split
  · exact ⟨(rd_wr_same _ _ _ _ rfl).trans hcls, wr_sameBut s _ _ _, rfl, rfl⟩
  · exact ⟨(rd_wr_same _ _ _ _ rfl).trans hcls, wr_sameBut s _ _ _, rfl, rfl⟩

/-- The class, its source and the limit of a well. -/
def State.wellSet (g cls lim : Nat) : State :=
  ((s.wr (PL_WELL g) PL_WELL.CLASS cls).wr (PL_WELL g) PL_WELL.SOURCE (if cls = 0 then 0 else 6)).wr (PL_WELL g) PL_WELL.DERATE_LIM (if cls = 2 then lim else 0)

theorem wellSet_reg (g cls lim a : Nat) (h : a ≠ PL_WELL g) : (s.wellSet g cls lim).reg a = s.reg a :=
  (reg_wr_ne _ _ _ _ _ h).trans ((reg_wr_ne _ _ _ _ _ h).trans (reg_wr_ne _ _ _ _ _ h))

theorem wellSet_class (g cls lim : Nat) (h : cls < 16) : (s.wellSet g cls lim).rd (PL_WELL g) PL_WELL.CLASS = cls :=
  (rd_wr_fld _ _ _ _ _ _ rfl rfl).trans ((rd_wr_fld _ _ _ _ _ _ rfl rfl).trans ((rd_wr_same _ _ _ _ rfl).trans (Nat.mod_eq_of_lt h)))

/-- A well that is set to EVACUATE leaves a working cluster working: the map's word is another, or its STATE is cleared with the limit. -/
theorem wellSet_working (g lim t k : Nat) (h : s.mapState t k ∈ [0, 4, 5]) : (s.wellSet g 3 lim).mapState t k ∈ [0, 4, 5] := by
  by_cases ha : PL_MAP (96 * t + k) = PL_WELL g
  · have hz : (s.wellSet g 3 lim).rd (PL_WELL g) PL_WELL.DERATE_LIM = 0 := (rd_wr_same _ _ _ _ rfl).trans (Nat.zero_mod _)
    have hst : (s.wellSet g 3 lim).mapState t k = 0 := by
      rw [State.mapState, ha]
      simp only [State.rd, Fld.get, Fld.width, BitVec.extractLsb'_toNat, PL_MAP.STATE, PL_WELL.DERATE_LIM, Nat.shiftRight_eq_div_pow] at hz ⊢
      omega
    rw [hst]
    exact List.mem_cons_self
  · rwa [State.mapState, rd_of_reg (wellSet_reg s g 3 lim _ ha)]

/-- A well that still has a working cluster is not reported. -/
theorem emptied_not (t w k : Nat) (hk : k ∈ fedClusters w) (h : s.mapState t k ∈ [0, 4, 5]) : s.emptied t w = false := by
  simp only [List.mem_cons, List.not_mem_nil, or_false] at h
  rw [State.emptied, Bool.and_eq_false_iff]
  refine .inr (List.all_eq_false.mpr ⟨k, hk, ?_⟩)
  rcases h with h | h | h <;> simp [h]

/-- A well's class is set; EVACUATE of one that still has a working cluster reports nothing. -/
theorem setWell_eq (g cls lim : Nat) (h : cls ≠ 3 ∨ s.rd (PL_WELL g) PL_WELL.CLASS = 3 ∨ ∃ k ∈ fedClusters (g % 16), s.mapState (g / 16) k ∈ [0, 4, 5]) :
    s.setWell_ g cls lim = s.wellSet g cls lim := by
  rw [State.setWell_]
  show (s.wellSet g cls lim).on _ _ = _
  by_cases hr : (cls == 3 && s.rd (PL_WELL g) PL_WELL.CLASS != 3) = true
  · rw [Bool.and_eq_true, beq_iff_eq, bne_iff_ne] at hr
    obtain ⟨rfl, hold⟩ := hr
    obtain ⟨k, hk, hw⟩ := (h.resolve_left (fun hne => hne rfl)).resolve_left hold
    have hem := emptied_not (s.wellSet g 3 lim) (g / 16) (g % 16) k hk (wellSet_working s g lim _ k hw)
    rw [State.on, State.evacuated, hem]
    exact ite_self _
  · rw [State.on, if_neg hr]


end

end Sys2Proof.Machine

/-! PROOFS. Orders of the remap unit and the identity mapping (R283, R289, R295-R298). -/

namespace Sys2Proof.Machine

open Sys2Proof

section
variable (s : State)

/-! ### The table of orders (R295) -/

/-- Writing the status of an order touches its slot alone. -/
theorem orderStatus_cases (o : Order) (st : Nat) : s.orderStatus o st = s ∨ s.orderStatus o st = s.wr (PL_ORDER o.slot) PL_ORDER.STATUS st := by
  rw [State.orderStatus]
  split
  · exact .inr rfl
  · exact .inl rfl

theorem orderStatus_reg (o : Order) (st a : Nat) (h : a ≠ PL_ORDER o.slot) : (s.orderStatus o st).reg a = s.reg a := by
  rcases orderStatus_cases s o st with he | he
  · rw [he]
  · rw [he, reg_wr_ne _ _ _ _ _ h]

/-- Fields other than those of STATUS's bits stand wherever they lie. -/
theorem orderStatus_fld (o : Order) (st a : Nat) (x : Fld) (hx : x.ok = true) (h : PL_ORDER.STATUS.apart x = true) :
    (s.orderStatus o st).rd a x = s.rd a x := by
  rcases orderStatus_cases s o st with he | he
  · rw [he]
  · rw [he, rd_wr_fld _ _ _ _ _ _ hx h]

theorem orderStatus_rest (o : Order) (st : Nat) : s.onlyRegs (s.orderStatus o st) := by
  rcases orderStatus_cases s o st with he | he <;> rw [he] <;> rfl

theorem orderStatus_status (o : Order) (st : Nat) (h : s.rd (PL_ORDER o.slot) PL_ORDER.ID = o.id) (hst : st < 8) :
    (s.orderStatus o st).rd (PL_ORDER o.slot) PL_ORDER.STATUS = st := by
  rw [State.orderStatus, if_pos h]
  exact (rd_wr_same _ _ _ _ rfl).trans (Nat.mod_eq_of_lt hst)

theorem orderOf_id {id : Nat} {o : Order} (h : s.orderOf id = some o) : o.id = id := by
  have := List.find?_some h
  exact of_decide_eq_true this

/-- An order that has ended is found no more. -/
theorem orderOf_dropOrder {id : Nat} (o : Order) (st : Nat) (h : o.id = id) : (s.dropOrder o st).orderOf id = none := by
  refine List.find?_eq_none.mpr fun p hp => ?_
  have hne := (List.mem_filter.mp hp).2
  rw [decide_eq_true_eq] at hne ⊢
  exact fun he => hne (he.trans h.symm)

theorem dropOrder_fld (o : Order) (st a : Nat) (x : Fld) (hx : x.ok = true) (h : PL_ORDER.STATUS.apart x = true) (ha : a ≠ PL_STAT) :
    (s.dropOrder o st).rd a x = s.rd a x := (rd_wr_ne _ _ _ _ _ _ ha).trans (orderStatus_fld s o st a x hx h)

theorem dropOrder_status (o : Order) (st : Nat) (h : s.rd (PL_ORDER o.slot) PL_ORDER.ID = o.id) (hs : o.slot < 16) (hst : st < 8) :
    (s.dropOrder o st).rd (PL_ORDER o.slot) PL_ORDER.STATUS = st :=
  (rd_wr_ne _ _ _ _ _ _ (by simp only [PL_ORDER, PL_STAT]; omega)).trans (orderStatus_status s o st h hst)

/-! ### ACCEPT and REFUSE (R295) -/

/-- The accepted order. -/
def Order.acceptedAt (o : Order) (beat : Nat) : Order := { o with status := 1, acceptAt := beat }

theorem orderOf_accepted {id : Nat} {o : Order} (beat : Nat) (h : s.orderOf id = some o) :
    (s.plan.orders.map (fun p => if p.id = id then p.acceptedAt beat else p)).find? (fun p => p.id = id) = some (o.acceptedAt beat) := by
  have hpred : (fun p : Order => decide ((if p.id = id then p.acceptedAt beat else p).id = id)) = fun p => decide (p.id = id) := by
    funext p
    by_cases hp : p.id = id
    · rw [if_pos hp]
      rfl
    · rw [if_neg hp]
  rw [List.find?_map]
  show Option.map _ (s.plan.orders.find? (fun p => decide ((if p.id = id then p.acceptedAt beat else p).id = id))) = _
  rw [hpred, show s.plan.orders.find? (fun p => decide (p.id = id)) = some o from h]
  exact congrArg some (if_pos (orderOf_id s h))

theorem accept_eq {id : Nat} {o : Order} (h : s.orderOf id = some o) (hst : o.status = 0) :
    s.accept id = (s.orderStatus o 1).setOrders (s.plan.orders.map (fun p => if p.id = id then p.acceptedAt s.clk.beat else p)) := by
  rw [State.accept, h]
  exact if_pos hst

theorem refuse_open {id : Nat} {o : Order} (h : s.orderOf id = some o) (hst : o.status = 0) : s.refuse id = (s.dropOrder o 4).freeSpare o := by
  rw [State.refuse, h]
  exact if_pos hst

theorem refuse_late {id : Nat} {o : Order} (h : s.orderOf id = some o) (hst : o.status ≠ 0) : s.refuse id = s.wr PL_STAT PL_STAT.REFUSED 1 := by
  rw [State.refuse, h]
  exact if_neg hst

theorem acceptTimeout_open {id : Nat} {o : Order} (h : s.orderOf id = some o) (hst : o.status = 0) :
    s.acceptTimeout id = (s.dropOrder o 4).freeSpare o := by
  rw [State.acceptTimeout, h]
  exact if_pos hst

/-! ### Gates and states of clusters (R283, R289) -/

/-- The gate of a cluster lies in PH_CLPWR of its tile, and PL_MAP.GATED shows it. -/
theorem govGate_reg (t k a : Nat) (hold : Bool) (h1 : a ≠ PL_MAP (96 * t + k)) (h2 : a ≠ PH_CLPWR t k) : (s.govGate t k hold).reg a = s.reg a := by
  simp only [State.govGate]
  split
  · exact (gateOn_reg (s := s.wr (PL_MAP (96 * t + k)) PL_MAP.GATED 1) t k _ a h2).trans (reg_wr_ne _ _ _ _ _ h1)
  split
  · exact (gateOff_reg (s := s.wr (PL_MAP (96 * t + k)) PL_MAP.GATED 0) _ h2).trans (reg_wr_ne _ _ _ _ _ h1)
  · rfl

/-- The map's word of the cluster keeps the fields beside GATED. -/
theorem govGate_map (t k : Nat) (hold : Bool) (x : Fld) (hx : x.ok = true) (h : PL_MAP.GATED.apart x = true)
    (ha : PL_MAP (96 * t + k) ≠ PH_CLPWR t k) : (s.govGate t k hold).rd (PL_MAP (96 * t + k)) x = s.rd (PL_MAP (96 * t + k)) x := by
  simp only [State.govGate]
  split
  · exact (rd_of_reg (gateOn_reg (s := s.wr (PL_MAP (96 * t + k)) PL_MAP.GATED 1) t k _ _ ha) x).trans (rd_wr_fld _ _ _ _ _ _ hx h)
  split
  · exact (rd_of_reg (gateOff_reg (s := s.wr (PL_MAP (96 * t + k)) PL_MAP.GATED 0) _ ha) x).trans (rd_wr_fld _ _ _ _ _ _ hx h)
  · rfl

/-- Gates touch registers and clusters alone. -/
theorem govGate_rest (t k : Nat) (hold : Bool) : { s.govGate t k hold with regs := s.regs, clusters := s.clusters } = s := by
  simp only [State.govGate]
  split
  · rfl
  split <;> rfl

theorem freeSpare_rest (o : Order) : { s.freeSpare o with regs := s.regs, clusters := s.clusters } = s := by
  rw [State.freeSpare]
  split
  · exact govGate_rest s _ _ _
  · rfl

theorem freeSpare_order (o : Order) (i : Nat) (h : i < 16) : (s.freeSpare o).reg (PL_ORDER i) = s.reg (PL_ORDER i) := by
  rw [State.freeSpare]
  split
  · exact govGate_reg s _ _ _ _ (by simp only [PL_ORDER, PL_MAP]; omega) (by simp only [PL_ORDER, PH_CLPWR, phBase]; omega)
  · rfl

/-- The refused order is gone, and its slot shows it. -/
theorem refused_shows {id : Nat} {o : Order} (h : s.orderOf id = some o) :
    ((s.dropOrder o 4).freeSpare o).orderOf id = none ∧ (s.rd (PL_ORDER o.slot) PL_ORDER.ID = o.id → o.slot < 16 →
      ((s.dropOrder o 4).freeSpare o).rd (PL_ORDER o.slot) PL_ORDER.STATUS = 4) := by
  refine ⟨?_, fun hid hs => (rd_of_reg (freeSpare_order _ o _ hs) _).trans (dropOrder_status s o 4 hid hs (by decide))⟩
  exact (congrArg (·.orderOf id) (freeSpare_rest (s.dropOrder o 4) o)).trans (orderOf_dropOrder s o 4 (orderOf_id s h))

/-- The state of a cluster lies in its word of the map and its gate. -/
theorem setMapState_reg (t k st a : Nat) (h1 : a ≠ PL_MAP (96 * t + k)) (h2 : a ≠ PH_CLPWR t k) : (s.setMapState t k st).reg a = s.reg a := by
  have h0 : ∀ c, ((s.wr (PL_MAP (96 * t + k)) PL_MAP.STATE st).on c (·.gateOff t k PH_CLPWR.C_VOTE)).reg a = s.reg a := by
    intro c
    cases c with
    | false => exact reg_wr_ne _ _ _ _ _ h1
    | true => exact (gateOff_reg (s := s.wr (PL_MAP (96 * t + k)) PL_MAP.STATE st) _ h2).trans (reg_wr_ne _ _ _ _ _ h1)
  simp only [State.setMapState]
  split
  · split
    · exact (govGate_reg _ t k a true h1 h2).trans (h0 _)
    · exact h0 _
  · exact (govGate_reg _ t k a false h1 h2).trans (h0 _)

/-- Fields of the cluster's own word, beside GATED, after its STATE has been written. -/
theorem setMapState_own (t k st : Nat) (x : Fld) (hx : x.ok = true) (h : PL_MAP.GATED.apart x = true) (ha : PL_MAP (96 * t + k) ≠ PH_CLPWR t k) :
    (s.setMapState t k st).rd (PL_MAP (96 * t + k)) x = (s.wr (PL_MAP (96 * t + k)) PL_MAP.STATE st).rd (PL_MAP (96 * t + k)) x := by
  have h0 : ∀ c, ((s.wr (PL_MAP (96 * t + k)) PL_MAP.STATE st).on c (·.gateOff t k PH_CLPWR.C_VOTE)).rd (PL_MAP (96 * t + k)) x =
      (s.wr (PL_MAP (96 * t + k)) PL_MAP.STATE st).rd (PL_MAP (96 * t + k)) x := by
    intro c
    cases c with
    | false => rfl
    | true => exact rd_of_reg (gateOff_reg (s := s.wr (PL_MAP (96 * t + k)) PL_MAP.STATE st) _ ha) x
  simp only [State.setMapState]
  split
  · split
    · exact (govGate_map _ t k true x hx h ha).trans (h0 _)
    · exact h0 _
  · exact (govGate_map _ t k false x hx h ha).trans (h0 _)

theorem map_ne_clpwr {g : Nat} (t k : Nat) (h : g < 9216) : PL_MAP g ≠ PH_CLPWR t k := by
  simp only [PL_MAP, PH_CLPWR, phBase]
  omega

theorem map_ne_map {g h : Nat} (hne : g ≠ h) : PL_MAP g ≠ PL_MAP h := by
  simp only [PL_MAP]
  omega

theorem setMapState_same (t k st : Nat) (hst : st < 16) (h : 96 * t + k < 9216) : (s.setMapState t k st).mapState t k = st :=
  (setMapState_own s t k st PL_MAP.STATE rfl rfl (map_ne_clpwr t k h)).trans ((rd_wr_same _ _ _ _ rfl).trans (Nat.mod_eq_of_lt hst))

theorem setMapState_logical (t k st : Nat) (h : 96 * t + k < 9216) :
    (s.setMapState t k st).rd (PL_MAP (96 * t + k)) PL_MAP.LOGICAL = s.rd (PL_MAP (96 * t + k)) PL_MAP.LOGICAL :=
  (setMapState_own s t k st PL_MAP.LOGICAL rfl rfl (map_ne_clpwr t k h)).trans (rd_wr_fld _ _ _ _ _ _ rfl rfl)

/-- Words of other clusters stand. -/
theorem setMapState_map_ne (t k st g : Nat) (hg : g < 9216) (hne : g ≠ 96 * t + k) : (s.setMapState t k st).reg (PL_MAP g) = s.reg (PL_MAP g) :=
  setMapState_reg s t k st _ (map_ne_map hne) (map_ne_clpwr t k hg)

/-- A cluster's state touches registers and clusters alone. -/
theorem setMapState_rest (t k st : Nat) : { s.setMapState t k st with regs := s.regs, clusters := s.clusters } = s := by
  have h0 : ∀ c, { (s.wr (PL_MAP (96 * t + k)) PL_MAP.STATE st).on c (·.gateOff t k PH_CLPWR.C_VOTE) with regs := s.regs, clusters := s.clusters } = s := by
    intro c
    cases c <;> rfl
  simp only [State.setMapState]
  split
  · split
    · exact (congrArg (fun u : State => { u with regs := s.regs, clusters := s.clusters }) (govGate_rest _ t k true)).trans (h0 _)
    · exact h0 _
  · exact (congrArg (fun u : State => { u with regs := s.regs, clusters := s.clusters }) (govGate_rest _ t k false)).trans (h0 _)

end

end Sys2Proof.Machine

/-! PROOFS. DONE of an order, the identity mapping, and the obligation on cap and placement (R290-R298). -/

namespace Sys2Proof.Machine

open Sys2Proof

section
variable (s : State)

/-! ### DONE of an order (R296, R297) -/

@[simp] theorem graceOf_plan (t w : Nat) (x : Bool) : (s.graceOf t w x).plan = s.plan := by
  simp only [State.graceOf]
  split
  · rfl
  split <;> rfl

@[simp] theorem wantOf_plan (t k : Nat) (x : Bool) : (s.wantOf t k x).plan = s.plan := by
  unfold State.wantOf
  dsimp only
  split_ifs <;> rfl

theorem voteChange_plan (t k : Nat) (f : State → State) : (s.voteChange t k f).plan = (f s).plan := by
  simp only [State.voteChange, graceOf_plan, wantOf_plan]

/-- The votes that DONE clears, and the grace it starts, leave the map and the orders. -/
theorem doneVotes_reg (o : Order) (a : Nat) (h : a ≠ PH_CLPWR o.tile o.src) : (s.doneVotes o).reg a = s.reg a := by
  have h1 := voteChange_reg (s := s) o.tile o.src a (fun v => v.setVotes o.tile o.src 0 0) (setVotes_reg s o.tile o.src 0 0 a h)
  simp only [State.doneVotes]
  split
  · exact h1
  · exact h1

theorem doneVotes_plan (o : Order) : (s.doneVotes o).plan = s.plan := by
  have h1 : (s.voteChange o.tile o.src (fun v => v.setVotes o.tile o.src 0 0)).plan = s.plan := voteChange_plan s _ _ _
  simp only [State.doneVotes]
  split
  · exact h1
  · exact h1

/-- A report of an emptied well touches the raises and the events that wait. -/
theorem evacuated_rest (t w : Nat) : { s.evacuated t w with fault := s.fault, capEvents := s.capEvents } = s := by
  rw [State.evacuated]
  split <;> rfl

theorem evacuated_reg (t w a : Nat) : (s.evacuated t w).reg a = s.reg a := congrArg (·.reg a) (evacuated_rest s t w)

theorem evacuated_plan (t w : Nat) : (s.evacuated t w).plan = s.plan := congrArg (·.plan) (evacuated_rest s t w)

/-- What has been reported stays reported. -/
theorem evacuated_keeps (t w : Nat) (r : Raise) (e : Nat) (h : r ∈ s.fault.now ∧ e ∈ s.capEvents) :
    r ∈ (s.evacuated t w).fault.now ∧ e ∈ (s.evacuated t w).capEvents := by
  rw [State.evacuated]
  split
  · exact ⟨List.mem_append_left _ h.1, List.mem_append_left _ h.2⟩
  · exact h

theorem evacuated_reports (t w : Nat) (h : s.emptied t w = true) :
    { src := 21, tile := t, well := w } ∈ (s.evacuated t w).fault.now ∧ 16 * t + w ∈ (s.evacuated t w).capEvents := by
  rw [State.evacuated, if_pos h]
  exact ⟨List.mem_append_right _ (List.mem_singleton_self _), List.mem_append_right _ (List.mem_singleton_self _)⟩

/-- TO becomes WORK, FROM RETIRED or SPARE, and the order is gone. -/
def State.relocMoved (o : Order) : State :=
  (((s.dropOrder o 3).setMapState o.tile o.dst 0).setMapState o.tile o.src (if s.clusterClass o.tile o.src = 4 then 3 else 1)).doneVotes o

/-- The hold of the order's gate ends with the last order bound to it. -/
def State.relocFreed (o : Order) : State :=
  (if (s.relocMoved o).orderHolds o.tile o.boundGate then s.relocMoved o else (s.relocMoved o).unhold (relocPlace o)).minSpares

theorem relocDone_eq {id : Nat} {o : Order} (h : s.orderOf id = some o) (hst : o.status = 2) :
    s.relocDone id = ((s.relocFreed o).evacuated o.tile (coreWell o.src)).evacuated o.tile (sramWell o.src) := by
  rw [State.relocDone, h]
  exact if_pos hst

theorem relocFreed_map (o : Order) (g : Nat) (hg : g < 9216) : (s.relocFreed o).reg (PL_MAP g) = (s.relocMoved o).reg (PL_MAP g) := by
  refine (reg_wr_ne _ _ _ _ _ (by simp only [PL_MAP, PL_STAT]; omega)).trans ?_
  split <;> rfl

theorem relocFreed_well (o : Order) (i : Nat) : (s.relocFreed o).reg (PL_WELL i) = (s.relocMoved o).reg (PL_WELL i) := by
  refine (reg_wr_ne _ _ _ _ _ (by simp only [PL_WELL, PL_STAT]; omega)).trans ?_
  split <;> rfl

theorem relocFreed_plan (o : Order) : (s.relocFreed o).plan = (s.relocMoved o).plan := by
  rw [State.relocFreed]
  split <;> rfl

section
variable {s} {o : Order} (hs : o.src < 96) (hd : o.dst < 96) (hne : o.src ≠ o.dst) (ht : o.tile < 96)
include ht

/-- A cluster of the tile other than the two that swap keeps its state. -/
theorem relocMoved_other {k : Nat} (hk : k < 96) (h1 : k ≠ o.src) (h2 : k ≠ o.dst) : (s.relocMoved o).mapState o.tile k = s.mapState o.tile k := by
  have hg : 96 * o.tile + k < 9216 := by omega
  refine (rd_of_reg (doneVotes_reg _ o _ (map_ne_clpwr _ _ hg)) _).trans ?_
  refine (rd_of_reg (setMapState_map_ne _ _ _ _ _ hg (by omega)) _).trans ((rd_of_reg (setMapState_map_ne _ _ _ _ _ hg (by omega)) _).trans ?_)
  exact dropOrder_fld s o 3 _ PL_MAP.STATE rfl rfl (by simp only [PL_MAP, PL_STAT]; omega)

include hd hne in
theorem relocMoved_dst : (s.relocMoved o).mapState o.tile o.dst = 0 := by
  have hg : 96 * o.tile + o.dst < 9216 := by omega
  refine (rd_of_reg (doneVotes_reg _ o _ (map_ne_clpwr _ _ hg)) _).trans ?_
  exact (rd_of_reg (setMapState_map_ne _ _ _ _ _ hg (by omega)) _).trans (setMapState_same _ _ _ 0 (by decide) hg)

include hs in
theorem relocMoved_src : (s.relocMoved o).mapState o.tile o.src = if s.clusterClass o.tile o.src = 4 then 3 else 1 := by
  have hg : 96 * o.tile + o.src < 9216 := by omega
  refine (rd_of_reg (doneVotes_reg _ o _ (map_ne_clpwr _ _ hg)) _).trans (setMapState_same _ _ _ _ ?_ hg)
  split <;> decide

include hs hd in
theorem relocMoved_class {w : Nat} (hw : w < 16) : (s.relocMoved o).wellClass o.tile w = s.wellClass o.tile w := by
  have hmap : ∀ k, k < 96 → PL_WELL (16 * o.tile + w) ≠ PL_MAP (96 * o.tile + k) := fun k hk => by
    simp only [PL_WELL, PL_MAP]
    omega
  have hgate : ∀ k, PL_WELL (16 * o.tile + w) ≠ PH_CLPWR o.tile k := fun k => by
    simp only [PL_WELL, PH_CLPWR, phBase]
    omega
  refine (rd_of_reg (doneVotes_reg _ o _ (hgate _)) _).trans ((rd_of_reg (setMapState_reg _ _ _ _ _ (hmap _ hs) (hgate _)) _).trans ?_)
  refine (rd_of_reg (setMapState_reg _ _ _ _ _ (hmap _ hd) (hgate _)) _).trans ?_
  exact dropOrder_fld s o 3 _ PL_WELL.CLASS rfl rfl (by simp only [PL_WELL, PL_STAT]; omega)

end

theorem relocMoved_orders {id : Nat} {o : Order} (h : o.id = id) : (s.relocMoved o).orderOf id = none := by
  have hplan : (s.relocMoved o).plan = (s.dropOrder o 3).plan := by
    refine (doneVotes_plan _ o).trans ?_
    exact (congrArg (·.plan) (setMapState_rest ((s.dropOrder o 3).setMapState o.tile o.dst 0) o.tile o.src _)).trans
      (congrArg (·.plan) (setMapState_rest (s.dropOrder o 3) o.tile o.dst 0))
  rw [State.orderOf, hplan]
  exact orderOf_dropOrder s o 3 h

theorem fed_coreWell {w k : Nat} (hw : w < 12) (h : k ∈ fedClusters w) : coreWell k = w := by
  simp only [fedClusters, if_pos hw, List.mem_map, List.mem_range] at h
  obtain ⟨j, hj, rfl⟩ := h
  rw [coreWell]
  omega

/-- The core well of FROM holds no working cluster any more. -/
theorem relocFreed_emptied {o : Order} (hs : o.src < 96) (hd : o.dst < 96) (ht : o.tile < 96) (hc : s.wellClass o.tile (coreWell o.src) = 3)
    (hw : coreWell o.dst ≠ coreWell o.src)
    (hall : ∀ k ∈ fedClusters (coreWell o.src), k ≠ o.src → s.mapState o.tile k ≠ 0 ∧ s.mapState o.tile k ≠ 4 ∧ s.mapState o.tile k ≠ 5) :
    (s.relocFreed o).emptied o.tile (coreWell o.src) = true := by
  have hcore : coreWell o.src < 12 := by rw [coreWell]; omega
  have hclass : (s.relocFreed o).rd (PL_WELL (16 * o.tile + coreWell o.src)) PL_WELL.CLASS = 3 :=
    (rd_of_reg (relocFreed_well s o _) _).trans ((relocMoved_class hs hd ht (by omega)).trans hc)
  rw [State.emptied, hclass, Bool.and_eq_true]
  refine ⟨rfl, List.all_eq_true.mpr fun k hk => ?_⟩
  have hk96 : k < 96 := fedClusters_lt hk
  have hst : (s.relocFreed o).mapState o.tile k = (s.relocMoved o).mapState o.tile k := rd_of_reg (relocFreed_map s o _ (by omega)) _
  simp only [hst, Bool.and_eq_true, bne_iff_ne]
  by_cases hsrc : k = o.src
  · rw [hsrc, relocMoved_src hs ht]
    split <;> decide
  · have hdst : k ≠ o.dst := fun e => hw ((congrArg coreWell e).symm.trans (fed_coreWell hcore hk))
    rw [relocMoved_other ht hk96 hsrc hdst]
    obtain ⟨h0, h4, h5⟩ := hall k hk hsrc
    exact ⟨⟨h0, h4⟩, h5⟩

/-- DONE of a bound order (R296, R297). -/
theorem relocDone_shows {id : Nat} {o : Order} (h : s.orderOf id = some o) (hst : o.status = 2) (hs : o.src < 96) (hd : o.dst < 96)
    (hne : o.src ≠ o.dst) (ht : o.tile < 96) :
    (s.relocDone id).orderOf id = none ∧ (s.relocDone id).mapState o.tile o.dst = 0 ∧
      (s.relocDone id).mapState o.tile o.src = (if s.clusterClass o.tile o.src = 4 then 3 else 1) ∧
      (s.wellClass o.tile (coreWell o.src) = 3 → coreWell o.dst ≠ coreWell o.src →
        (∀ k ∈ fedClusters (coreWell o.src), k ≠ o.src → s.mapState o.tile k ≠ 0 ∧ s.mapState o.tile k ≠ 4 ∧ s.mapState o.tile k ≠ 5) →
        { src := 21, tile := o.tile, well := coreWell o.src } ∈ (s.relocDone id).fault.now ∧
          16 * o.tile + coreWell o.src ∈ (s.relocDone id).capEvents) := by
  have hreg : ∀ a, (s.relocDone id).reg a = (s.relocFreed o).reg a := fun a => by
    rw [relocDone_eq s h hst, evacuated_reg, evacuated_reg]
  have hplan : (s.relocDone id).plan = (s.relocMoved o).plan := by
    rw [relocDone_eq s h hst, evacuated_plan, evacuated_plan, relocFreed_plan]
  refine ⟨?_, ?_, ?_, fun hc hw hall => ?_⟩
  · rw [State.orderOf, hplan]
    exact relocMoved_orders s (orderOf_id s h)
  · exact (rd_of_reg ((hreg _).trans (relocFreed_map s o _ (by omega))) _).trans (relocMoved_dst hd hne ht)
  · exact (rd_of_reg ((hreg _).trans (relocFreed_map s o _ (by omega))) _).trans (relocMoved_src hs ht)
  · rw [relocDone_eq s h hst]
    exact evacuated_keeps _ _ _ _ _ (evacuated_reports _ _ _ (relocFreed_emptied s hs hd ht hc hw hall))

/-! ### The identity mapping (R298) -/

/-- The identity mapping's part for one cluster. -/
def State.identityAt (sp : List Nat) (t k : Nat) (u : State) : State :=
  if u.mapState t k = 3 then u.setMapState t k 3
  else if sp.contains k then (u.wr (PL_MAP (96 * t + k)) PL_MAP.LOGICAL 0xFF).setMapState t k 1
  else (u.wr (PL_MAP (96 * t + k)) PL_MAP.LOGICAL k).setMapState t k ((u.wr (PL_MAP (96 * t + k)) PL_MAP.LOGICAL k).workOf t k)

theorem mapIdentity_eq (t : Nat) : s.mapIdentity t = s.each (List.range 96) (fun u k => u.identityAt (s.spares t) t k) := rfl

theorem identityAt_map_ne (sp : List Nat) (t k g : Nat) (hg : g < 9216) (hne : g ≠ 96 * t + k) : (s.identityAt sp t k).reg (PL_MAP g) = s.reg (PL_MAP g) := by
  simp only [State.identityAt]
  split
  · exact setMapState_map_ne s t k 3 g hg hne
  split
  · exact (setMapState_map_ne _ t k 1 g hg hne).trans (reg_wr_ne _ _ _ _ _ (map_ne_map hne))
  · exact (setMapState_map_ne _ t k _ g hg hne).trans (reg_wr_ne _ _ _ _ _ (map_ne_map hne))

theorem identityAt_img (sp : List Nat) (t k : Nat) : (s.identityAt sp t k).img = s.img := by
  simp only [State.identityAt]
  split
  · exact congrArg (·.img) (setMapState_rest s t k 3)
  split
  · exact congrArg (·.img) (setMapState_rest (s.wr (PL_MAP (96 * t + k)) PL_MAP.LOGICAL 0xFF) t k 1)
  · exact congrArg (·.img) (setMapState_rest (s.wr (PL_MAP (96 * t + k)) PL_MAP.LOGICAL k) t k _)

theorem mapIdentity_img (t : Nat) : (s.mapIdentity t).img = s.img :=
  each_keeps (fun u => u.img) (List.range 96) (fun u k => u.identityAt (s.spares t) t k) (fun u k => identityAt_img u _ t k) s

theorem mapIdentity_map_ne (t g : Nat) (hg : g < 9216) (hne : ∀ k, k < 96 → g ≠ 96 * t + k) : (s.mapIdentity t).reg (PL_MAP g) = s.reg (PL_MAP g) :=
  each_mem_keeps (fun u => u.reg (PL_MAP g)) (List.range 96) (fun u k => u.identityAt (s.spares t) t k)
    (fun u k hk => identityAt_map_ne u _ t k g hg (hne k (List.mem_range.mp hk))) s

/-- What the identity mapping says of one cluster: a named spare carries nothing, any other itself. -/
def State.identityOf (sp : List Nat) (t k : Nat) (u : State) : Prop :=
  u.rd (PL_MAP (96 * t + k)) PL_MAP.LOGICAL = (if sp.contains k then 0xFF else k) ∧ (sp.contains k = true → u.mapState t k = 1)

theorem identityOf_of_reg {s u : State} {sp : List Nat} {t k : Nat} (h : u.reg (PL_MAP (96 * t + k)) = s.reg (PL_MAP (96 * t + k)))
    (hs : s.identityOf sp t k) : u.identityOf sp t k := ⟨(rd_of_reg h _).trans hs.1, fun hc => (rd_of_reg h _).trans (hs.2 hc)⟩

theorem identityAt_shows (sp : List Nat) (t k : Nat) (ht : t < 96) (hk : k < 96) (h : s.mapState t k ≠ 3) : (s.identityAt sp t k).identityOf sp t k := by
  have hg : 96 * t + k < 9216 := by omega
  simp only [State.identityAt, if_neg h]
  split
  next hc =>
    refine ⟨?_, fun _ => setMapState_same _ t k 1 (by decide) hg⟩
    rw [if_pos hc]
    exact (setMapState_logical _ t k 1 hg).trans (rd_wr_same _ _ _ _ rfl)
  next hc =>
    refine ⟨?_, fun he => absurd he hc⟩
    rw [if_neg hc]
    exact (setMapState_logical _ t k _ hg).trans ((rd_wr_same _ _ _ _ rfl).trans (Nat.mod_eq_of_lt (lt_trans hk (by decide))))

theorem mapIdentity_shows (t k : Nat) (ht : t < 96) (hk : k < 96) (h : s.mapState t k ≠ 3) : (s.mapIdentity t).identityOf (s.spares t) t k := by
  rw [mapIdentity_eq]
  have hne : ∀ v, v ≠ k → 96 * t + k ≠ 96 * t + v := fun v hv => by omega
  refine each_range_brings (fun u => u.mapState t k ≠ 3) (State.identityOf (s.spares t) t k) (fun u k => u.identityAt (s.spares t) t k) hk
    (fun u hu => identityAt_shows u _ t k ht hk hu) (fun u v _ hv hu => ?_) (fun u v _ hv hu => ?_) s h
  · rwa [State.mapState, rd_of_reg (identityAt_map_ne u _ t v _ (by omega) (hne v hv))]
  · exact identityOf_of_reg (identityAt_map_ne u _ t v _ (by omega) (hne v hv)) hu

/-- The identity mapping of every tile (R298). -/
theorem resetMap_shows (n t k : Nat) (htn : t < n) (ht : t < 96) (hk : k < 96) (h : s.mapState t k ≠ 3) :
    (s.each (List.range n) (fun u t => u.mapIdentity t)).identityOf (s.spares t) t k := by
  have hg : 96 * t + k < 9216 := by omega
  refine each_range_brings (fun u => u.mapState t k ≠ 3 ∧ u.img = s.img) (State.identityOf (s.spares t) t k) (fun u t => u.mapIdentity t) htn
    (fun u hu => ?_) (fun u v _ hv hu => ⟨?_, (mapIdentity_img u v).trans hu.2⟩) (fun u v _ hv hu => ?_) s ⟨h, rfl⟩
  · have hsp : u.spares t = s.spares t := by simp only [State.spares, State.tileWord, hu.2]
    rw [← hsp]
    exact mapIdentity_shows u t k ht hk hu.1
  · rw [State.mapState, rd_of_reg (mapIdentity_map_ne u v _ hg (fun j hj => by omega))]
    exact hu.1
  · exact identityOf_of_reg (mapIdentity_map_ne u v _ hg (fun j hj => by omega)) hu

end

/-! ### The obligation -/

/-- HOLD of the placement engine, as PL_CTRL and PL_STAT show it. -/
def State.holdSet (s : State) (d : Word) : State := (s.wr PL_CTRL PL_CTRL.HOLD (PL_CTRL.HOLD.get d)).wr PL_STAT PL_STAT.HELD (PL_CTRL.HOLD.get d)

theorem plCtrl_hold (s : State) (d : Word) (h : PL_CTRL.RESET_MAP.get d = 0) : s.plCtrlWrite d = s.holdSet d := if_pos h

theorem plCtrl_refused (s : State) (d : Word) (h : PL_CTRL.RESET_MAP.get d = 1) (ho : s.plan.orders ≠ []) :
    s.plCtrlWrite d = (s.holdSet d).wr PL_STAT PL_STAT.REFUSED 1 := by
  rw [State.plCtrlWrite]
  exact (if_neg (by rw [h]; decide)).trans (if_pos (.inr ho))

theorem plCtrl_resets (s : State) (d : Word) (h : PL_CTRL.RESET_MAP.get d = 1) (hp : ∀ u, u < s.tileCount → s.dsState u ≠ dsPlaying)
    (ho : s.plan.orders = []) :
    s.plCtrlWrite d = ((s.holdSet d).each (s.holdSet d).allTiles (fun u t => u.mapIdentity t)).minSpares := by
  rw [State.plCtrlWrite]
  refine (if_neg (by rw [h]; decide)).trans (if_neg (not_or.mpr ⟨fun hany => ?_, fun hne => hne ho⟩))
  obtain ⟨u, hu, hplay⟩ := List.any_eq_true.mp hany
  exact hp u (List.mem_range.mp hu) (beq_iff_eq.mp hplay)

theorem holdSet_sameBut (s : State) (d : Word) : State.sameBut [PL_CTRL, PL_STAT] s (s.holdSet d) := by
  intro a ha
  simp only [List.mem_cons, List.not_mem_nil, or_false, not_or] at ha
  exact (reg_wr_ne _ _ _ _ _ ha.2).trans (reg_wr_ne _ _ _ _ _ ha.1)

theorem holdSet_map (s : State) (d : Word) (g : Nat) : (s.holdSet d).reg (PL_MAP g) = s.reg (PL_MAP g) := by
  refine holdSet_sameBut s d _ ?_
  simp only [List.mem_cons, List.not_mem_nil, or_false, not_or, PL_MAP, PL_CTRL, PL_STAT]
  omega

/-- Settles O50: cap, classes and orders lie in registers of their own, and every step of the map touches one word of it and one gate. -/
theorem capAndPlacement : Obligations.CapAndPlacement := by
  unfold Obligations.CapAndPlacement
  refine ⟨fun d s hq ha ht => ?_, fun d s hq ha ht hd => ⟨fun h => ?_, fun n h hn hr => ?_⟩, fun d s hq ha ht => ⟨fun hk h hc => ?_, fun hk h hc => ?_, fun hk h => ?_⟩,
    fun id o s hq h hst hs => ?_, fun id o c s h hst hc => ?_, fun id o s hq h hst => ?_, fun id o s h hst hs hd hne ht => ?_,
    fun id o s h hst => ?_, fun d s hq ha ht h => ?_, fun d s ht h => ⟨fun hp ho u k hu hu96 hk hret => ?_, fun ho => ?_⟩⟩
  · obtain ⟨hrest, hsame⟩ := capHost_rest s d
    have hx := hostOp_effect (show exec (.capHostWrite d) s = hostOp s CG_CAP d (·.capHostWrite d) from rfl) ht rfl
      (show (s.capHostWrite d).alone by rw [State.alone, show (s.capHostWrite d).port = s.port from congrArg (·.port) hrest]; exact ha)
      ((congrArg (·.fault.now) hrest).trans hq)
    refine ⟨_, hx, capHost_stores s d, capHost_clamps s d, hsame, ?_, ?_⟩
    · exact congrArg (fun u : State => { u with regs := s.regs, port := s.port }) hrest
    · simp only [State.answered, show (s.capHostWrite d).port = s.port from congrArg (·.port) hrest]
  · exact ⟨_, hostOp_effect (show exec (.jobStop d) s = hostOp s CG_CTRL d (·.jobStopWrite d) from rfl) ht (jobStop_unoffered s d hd h) ha hq,
      flag_wr_one s _ _ rfl, wr_sameBut s _ _ _, rfl⟩
  · subst hn
    obtain ⟨h1, h2⟩ := seqStart_runs (s := s) (n := s.rd CG_CFG1 CG_CFG1.STOP_SEQ) (p := s.rd CG_CFG1 CG_CFG1.STOP_PROG) (src := 0) (tile := 0xFF) (nw := 0xF)
      (rd_lt s _ CG_CFG1.STOP_PROG)
    exact ⟨_, hostOp_effect (show exec (.jobStop d) s = hostOp s CG_CTRL d (·.jobStopWrite d) from rfl) ht (jobStop_starts s d hd h hr) ha hq,
      h1, h2, fun a hne => seqStart_reg (tile := 0xFF) (nw := 0xF) (by simpa using hne)⟩
  · have hlt : PL_SET.CLASS.get d < 4 := lt_of_le_of_ne (setRefused_cluster s _ _ h) hc
    obtain ⟨h1, h2, h3, h4⟩ := setCluster_shows s (PL_SET.REGION.get d) (PL_SET.CLASS.get d) hlt
    have hx := hostOp_effect (show exec (.plSet d) s = hostOp s PL_SET d (·.plSetWrite d) from rfl) ht (plSet_cluster s d hk h)
      (by rw [State.alone, h3]; exact ha) ((congrArg (·.now) h4).trans hq)
    exact ⟨_, hx, h1, h2, by simp only [State.answered, h3]⟩
  · have hx := hostOp_effect (show exec (.plSet d) s = hostOp s PL_SET d (·.plSetWrite d) from rfl) ht
      ((plSet_well s d hk h).trans (setWell_eq s _ _ _ hc)) ha hq
    exact ⟨_, hx, wellSet_class s _ _ _ (BitVec.isLt _), fun a hne => wellSet_reg s _ _ _ a (by simpa using hne), rfl⟩
  · exact ⟨_, hostOp_effect (show exec (.plSet d) s = hostOp s PL_SET d (·.plSetWrite d) from rfl) ht (plSet_refused s d hk h) ha hq,
      flag_wr_one s _ _ rfl, wr_sameBut s _ _ _, rfl⟩
  · have hrest := orderStatus_rest s o 1
    have hx : exec (.accept id) s = .next _ := (congrArg done (accept_eq s h hst)).trans (done_quiet _ ((congrArg (·.fault.now) hrest).trans hq))
    refine ⟨_, hx, orderOf_accepted s _ h, fun hid => ?_, fun a hne => ?_⟩
    · refine (rd_wr_ne _ _ _ _ _ _ (by simp only [PL_ORDER, PL_STAT]; omega)).trans ?_
      exact orderStatus_status s o 1 hid (by decide)
    · simp only [List.mem_cons, List.not_mem_nil, or_false, not_or] at hne
      exact (reg_wr_ne _ _ _ _ _ hne.2).trans (orderStatus_reg s o 1 a hne.1)
  · simp only [List.mem_cons, List.not_mem_nil, or_false] at hc
    rcases hc with rfl | rfl
    · exact ⟨_, congrArg done (refuse_open s h hst), refused_shows s h⟩
    · exact ⟨_, congrArg done (acceptTimeout_open s h hst), refused_shows s h⟩
  · exact ⟨_, (congrArg done (refuse_late s h hst)).trans (done_quiet _ hq), flag_wr_one s _ _ rfl, h, wr_sameBut s _ _ _⟩
  · exact ⟨s.relocDone id, rfl, relocDone_shows s h hst hs hd hne ht⟩
  · have he : s.relocTimeout id = (s.wr PL_STAT PL_STAT.RELOC_TMO 1).holdW (relocPlace o) := by
      rw [State.relocTimeout, h]
      exact if_pos hst
    refine ⟨_, congrArg done he, ?_⟩
    rw [State.holdW]
    split
    next hheld => exact ⟨flag_wr_one s _ _ rfl, List.contains_iff_mem.mp hheld⟩
    · exact ⟨flag_wr_one s _ _ rfl, List.mem_append_right _ (List.mem_singleton_self _)⟩
  · refine ⟨_, hostOp_effect (show exec (.plHold d) s = hostOp s PL_CTRL d (·.plCtrlWrite d) from rfl) ht (plCtrl_hold s d h) ha hq, ?_, ?_,
      holdSet_sameBut s d, rfl, rfl⟩
    · exact (rd_wr_ne _ PL_STAT PL_CTRL _ _ _ (by decide)).trans ((rd_wr_same _ _ _ _ rfl).trans (fld_fits _ d))
    · exact (rd_wr_same _ _ _ _ rfl).trans (fld_fits PL_CTRL.HOLD d)
  · refine yieldsAnswered_of_takes (f := (·.plCtrlWrite d)) rfl ht ?_
    show (s.plCtrlWrite d).identityOf (s.spares u) u k
    have htiles : (s.holdSet d).allTiles = List.range s.tileCount :=
      congrArg List.range (rd_of_reg (holdSet_sameBut s d HD_TOPO (by decide)) HD_TOPO.TILES)
    have hstate : (s.holdSet d).mapState u k ≠ 3 := by
      rw [State.mapState, rd_of_reg (holdSet_map s d _)]
      exact hret
    rw [plCtrl_resets s d h hp ho, htiles]
    exact identityOf_of_reg (reg_wr_ne _ _ _ _ _ (by simp only [PL_MAP, PL_STAT]; omega)) (resetMap_shows (s.holdSet d) _ u k hu hu96 hk hstate)
  · refine yieldsAnswered_of_takes (f := (·.plCtrlWrite d)) rfl ht ?_
    show (s.plCtrlWrite d).flag PL_STAT PL_STAT.REFUSED = true ∧ ∀ a, (s.plCtrlWrite d).rd (PL_MAP a) PL_MAP.LOGICAL = s.rd (PL_MAP a) PL_MAP.LOGICAL
    rw [plCtrl_refused s d h ho]
    refine ⟨flag_wr_one _ _ _ rfl, fun a => ?_⟩
    exact (rd_wr_ne _ _ _ _ _ _ (by simp only [PL_MAP, PL_STAT]; omega)).trans (rd_of_reg (holdSet_map s d a) _)

end Sys2Proof.Machine

/-! PROOFS. Host votes and cluster gates: what a WAKE leaves behind, and when gate controls rise and fall (R304, R306-R309). -/

namespace Sys2Proof.Machine

open Sys2Proof

/-! ### What wakes and votes of one tile can change -/

/-- Wakes and votes of a tile leave all registers but PH_PWR and WL_VOTE, and take back none of what an earlier wake has set. -/
structure WakeGrows (t : Nat) (s u : State) : Prop where
  reg : ∀ a, a ≠ PH_PWR t → (∀ w, w < 14 → a ≠ WL_VOTE t w) → u.reg a = s.reg a
  refused : s.flag (PH_PWR t) PH_PWR.WAKE_REFUSED = true → u.flag (PH_PWR t) PH_PWR.WAKE_REFUSED = true
  pend : ∀ w, s.flag (WL_VOTE t w) WL_VOTE.WAKE_PEND = true → u.flag (WL_VOTE t w) WL_VOTE.WAKE_PEND = true
  lift : ∀ k, (s.cluster t k).lift = true → (u.cluster t k).lift = true

section
variable {t : Nat} {s u v : State}

theorem WakeGrows.refl (s : State) : WakeGrows t s s := ⟨fun _ _ _ => rfl, fun h => h, fun _ h => h, fun _ h => h⟩

theorem WakeGrows.trans (h1 : WakeGrows t s u) (h2 : WakeGrows t u v) : WakeGrows t s v where
  reg := fun a ha hw => (h2.reg a ha hw).trans (h1.reg a ha hw)
  refused := fun h => h2.refused (h1.refused h)
  pend := fun w h => h2.pend w (h1.pend w h)
  lift := fun k h => h2.lift k (h1.lift k h)

theorem WakeGrows.rd (h : WakeGrows t s u) {a : Nat} (x : Fld) (ha : a ≠ PH_PWR t) (hw : ∀ w, w < 14 → a ≠ WL_VOTE t w) : u.rd a x = s.rd a x :=
  rd_of_reg (h.reg a ha hw) x

/-- What changes neither registers nor clusters. -/
theorem WakeGrows.of_hidden (hr : u.regs = s.regs) (hc : u.clusters = s.clusters) : WakeGrows t s u where
  reg := fun b _ _ => congrArg (fun r : RegTable => r.get b) hr
  refused := fun h => (congrArg (fun r : RegTable => PH_PWR.WAKE_REFUSED.get (r.get (PH_PWR t)) == 1) hr).trans h
  pend := fun w h => (congrArg (fun r : RegTable => WL_VOTE.WAKE_PEND.get (r.get (WL_VOTE t w)) == 1) hr).trans h
  lift := fun k h => (congrArg (fun l => (tget (fun _ => ({} : ClusterX)) l (96 * t + k)).lift) hc).trans h

theorem updCl_cluster (s : State) (t k j : Nat) (f : ClusterX → ClusterX) :
    (s.updCl t k f).cluster t j = if j = k then f (s.cluster t k) else s.cluster t j := by
  rw [State.updCl, cluster_setCluster]
  by_cases h : j = k
  · rw [if_pos h, if_pos (by rw [h])]
  · rw [if_neg h, if_neg (by omega)]

theorem updCl_same (s : State) (t k : Nat) (f : ClusterX → ClusterX) : (s.updCl t k f).cluster t k = f (s.cluster t k) :=
  (updCl_cluster s t k k f).trans (if_pos rfl)

theorem WakeGrows.updCl (s : State) (k : Nat) (f : ClusterX → ClusterX) (hf : ∀ c : ClusterX, c.lift = true → (f c).lift = true) :
    WakeGrows t s (s.updCl t k f) where
  reg := fun _ _ _ => rfl
  refused := fun h => h
  pend := fun _ h => h
  lift := fun j h => by
    rw [updCl_cluster]
    split
    next e =>
      rw [e] at h
      exact hf _ h
    · exact h

theorem WakeGrows.refuse (s : State) : WakeGrows t s (s.wakeRefuse t) where
  reg := fun _ ha _ => reg_wr_ne _ _ _ _ _ ha
  refused := fun _ => flag_wr_one _ _ _ rfl
  pend := fun _ h => (flag_wr_fld _ _ _ _ _ _ rfl rfl).trans h
  lift := fun _ h => h

theorem WakeGrows.pends (s : State) {w : Nat} (hw : w < 14) : WakeGrows t s (s.wr (WL_VOTE t w) WL_VOTE.WAKE_PEND 1) where
  reg := fun _ _ h => reg_wr_ne _ _ _ _ _ (h w hw)
  refused := fun h => (flag_wr_fld _ _ _ _ _ _ rfl rfl).trans h
  pend := fun j h => by
    by_cases he : WL_VOTE t j = WL_VOTE t w
    · rw [he]
      exact flag_wr_one _ _ _ rfl
    · rw [flag_wr_ne _ _ _ _ _ _ he]
      exact h
  lift := fun _ h => h

theorem WakeGrows.each {α : Type} (l : List α) (f : State → α → State) (h : ∀ u, ∀ e ∈ l, WakeGrows t u (f u e)) (s : State) : WakeGrows t s (s.each l f) := by
  induction l generalizing s with
  | nil => exact .refl s
  | cons e l ih => exact (h s e List.mem_cons_self).trans (ih (fun u x hx => h u x (List.mem_cons_of_mem _ hx)) (f s e))

/-- The wells of a cluster are core and SRAM wells. -/
theorem downWells_lt {k w : Nat} (hk : k < 96) (h : w ∈ s.downWells t k) : w < 14 := by
  have hmem := (List.mem_filter.mp h).1
  simp only [List.mem_cons, List.not_mem_nil, or_false] at hmem
  rcases hmem with rfl | rfl
  · rw [coreWell]; omega
  · rw [sramWell]; split <;> omega

/-- A WAKE takes nothing back. -/
theorem WakeGrows.wakeCluster (s : State) {k : Nat} (hk : k < 96) : WakeGrows t s (s.wakeCluster t k) := by
  have hlift : WakeGrows t s (s.updCl t k (fun c => { c with lift := true, waking := true })) := .updCl s k _ (fun _ _ => rfl)
  simp only [State.wakeCluster]
  split
  · exact .refl s
  split
  · exact .refuse s
  split
  · refine (WakeGrows.updCl s k (fun c => { c with pend := true }) (fun _ h => h)).trans
      (.each _ (fun u w => u.wr (WL_VOTE t w) WL_VOTE.WAKE_PEND 1) (fun u w hmem => .pends u ?_) _)
    exact downWells_lt hk (List.mem_filter.mp hmem).1
  split
  · refine hlift.trans (.each _ (fun u w => if u.stage t w = stPark then u.wr (WL_VOTE t w) WL_VOTE.WAKE_PEND 1
      else if u.stage t w = stDry then u.updVo t w (fun v => { v with wakeReq := true }) else u) (fun u w hmem => ?_) _)
    split
    · exact .pends u (downWells_lt hk (List.mem_filter.mp hmem).1)
    split
    · exact .of_hidden rfl rfl
    · exact .refl u
  split
  · exact .refuse s
  split
  · exact hlift
  · exact .refl s

/-- The VP_GOFF of the cluster is noted to rise (R306, R320). -/
def State.goffNoted (s : State) (t k : Nat) : State :=
  if s.flag (PH_CLPWR t k) PH_CLPWR.GREQ_ONLY && (s.rd (PH_CLPWR t k) PH_CLPWR.RUN == 0) then
    s.updTile t (fun x => { x with goffDue := x.goffDue.filter (· ≠ k) ++ [k] })
  else s

/-- A wanted cluster is not waited for; an unwanted one keeps when it was wanted last. -/
def State.wantNoted (s : State) (t k : Nat) (before : Bool) (beat : Nat) : State :=
  if s.wanted t k then
    if (s.updCl t k (fun c => { c with waking := false, graceBeat := none })).flag (PH_CLPWR t k) PH_CLPWR.C_VOTE then
      (s.updCl t k (fun c => { c with waking := false, graceBeat := none })).updCl t k (fun c => { c with lift := true })
    else s.updCl t k (fun c => { c with waking := false, graceBeat := none })
  else if before then s.updCl t k (fun c => { c with unwanted := beat })
  else s

theorem wantOf_eq (s : State) (t k : Nat) (b : Bool) : s.wantOf t k b = (s.goffNoted t k).wantNoted t k b s.clk.beat := rfl

theorem goffNoted_hidden (s : State) (t k : Nat) : { s.goffNoted t k with tiles := s.tiles } = s := by
  rw [State.goffNoted]
  split <;> rfl

/-- The consequences of a vote take nothing back. -/
theorem WakeGrows.wantOf (s : State) (k : Nat) (b : Bool) : WakeGrows t s (s.wantOf t k b) := by
  have h0 : WakeGrows t s (s.goffNoted t k) :=
    .of_hidden (congrArg (·.regs) (goffNoted_hidden s t k) :) (congrArg (·.clusters) (goffNoted_hidden s t k) :)
  rw [wantOf_eq]
  refine h0.trans ?_
  generalize s.goffNoted t k = v
  have h1 : WakeGrows t v (v.updCl t k (fun c => { c with waking := false, graceBeat := none })) := .updCl v k _ (fun _ h => h)
  rw [State.wantNoted]
  split
  · split
    · exact h1.trans (.updCl _ k _ (fun _ _ => rfl))
    · exact h1
  split
  · exact .updCl v k _ (fun _ h => h)
  · exact .refl v

theorem graceOf_hidden (s : State) (t w : Nat) (b : Bool) : { s.graceOf t w b with wells := s.wells } = s := by
  simp only [State.graceOf]
  split
  · rfl
  split <;> rfl

theorem WakeGrows.graceOf (s : State) (w : Nat) (b : Bool) : WakeGrows t s (s.graceOf t w b) :=
  .of_hidden (congrArg (·.regs) (graceOf_hidden s t w b)) (congrArg (·.clusters) (graceOf_hidden s t w b))

/-! ### A WAKE by the rows of R309 -/

/-- Registers that a WAKE reads and none of its effects lies in. -/
theorem clpwr_off (t k : Nat) (hk : k < 96) : PH_CLPWR t k ≠ PH_PWR t ∧ ∀ w, w < 14 → PH_CLPWR t k ≠ WL_VOTE t w := by
  simp only [PH_CLPWR, PH_PWR, WL_VOTE, wlBase, ne_eq]
  constructor <;> intros <;> omega

theorem setpt_off (t w : Nat) (hw : w < 14) : WL_SETPT t w ≠ PH_PWR t ∧ ∀ v, v < 14 → WL_SETPT t w ≠ WL_VOTE t v := by
  simp only [WL_SETPT, PH_PWR, WL_VOTE, wlBase, ne_eq]
  constructor <;> intros <;> omega

section
variable (h : WakeGrows t s u) {k : Nat} (hk : k < 96)
include h

theorem WakeGrows.isOff {w : Nat} (hw : w < 14) : u.isOff t w = s.isOff t w ∧ u.stage t w = s.stage t w ∧ u.owned t w = s.owned t w := by
  have hreg := h.reg _ (setpt_off t w hw).1 (setpt_off t w hw).2
  have hstage : u.stage t w = s.stage t w := rd_of_reg hreg _
  exact ⟨by simp only [State.isOff, hstage], hstage, flag_of_reg hreg _⟩

include hk

theorem WakeGrows.clpwr (x : Fld) : u.flag (PH_CLPWR t k) x = s.flag (PH_CLPWR t k) x := flag_of_reg (h.reg _ (clpwr_off t k hk).1 (clpwr_off t k hk).2) x

theorem WakeGrows.downWells : u.downWells t k = s.downWells t k := by
  refine List.filter_congr fun w hw => ?_
  have hw14 : w < 14 := by
    simp only [List.mem_cons, List.not_mem_nil, or_false] at hw
    rcases hw with rfl | rfl
    · rw [coreWell]; omega
    · rw [sramWell]; split <;> omega
  rw [(h.isOff hw14).1, (h.isOff hw14).2.1]

end

/-- What a WAKE on a cluster has set, by the state it was judged in (R309). -/
structure WakeDone (t k : Nat) (s u : State) : Prop where
  refused : s.flag (PH_CLPWR t k) PH_CLPWR.GATED = true → (s.flag (PH_CLPWR t k) PH_CLPWR.C_SEQ = true ∨ s.flag (PH_CLPWR t k) PH_CLPWR.C_THERM = true ∨
    s.flag (PH_CLPWR t k) PH_CLPWR.C_GOV = true) → u.flag (PH_PWR t) PH_PWR.WAKE_REFUSED = true
  pend : s.flag (PH_CLPWR t k) PH_CLPWR.GATED = true → s.flag (PH_CLPWR t k) PH_CLPWR.C_SEQ = false → s.flag (PH_CLPWR t k) PH_CLPWR.C_THERM = false →
    s.flag (PH_CLPWR t k) PH_CLPWR.C_GOV = false → ∀ w ∈ s.downWells t k, s.isOff t w = true → s.owned t w = true →
      u.flag (WL_VOTE t w) WL_VOTE.WAKE_PEND = true
  lift : s.flag (PH_CLPWR t k) PH_CLPWR.GATED = true → s.flag (PH_CLPWR t k) PH_CLPWR.C_SEQ = false → s.flag (PH_CLPWR t k) PH_CLPWR.C_THERM = false →
    s.flag (PH_CLPWR t k) PH_CLPWR.C_GOV = false → s.downWells t k = [] → s.flag (PH_CLPWR t k) PH_CLPWR.C_VOTE = true →
      s.flag (PH_CLPWR t k) PH_CLPWR.C_DRY = false → (u.cluster t k).lift = true

theorem WakeDone.grows {k : Nat} (h : WakeDone t k s u) (hg : WakeGrows t u v) : WakeDone t k s v where
  refused := fun h1 h2 => hg.refused (h.refused h1 h2)
  pend := fun h1 h2 h3 h4 w hw h5 h6 => hg.pend w (h.pend h1 h2 h3 h4 w hw h5 h6)
  lift := fun h1 h2 h3 h4 h5 h6 h7 => hg.lift k (h.lift h1 h2 h3 h4 h5 h6 h7)

/-- A WAKE that no gate cause refuses: it is past the first two rows of R309. -/
theorem wakeCluster_free (s : State) {k : Nat} (hg : s.flag (PH_CLPWR t k) PH_CLPWR.GATED = true) (h1 : s.flag (PH_CLPWR t k) PH_CLPWR.C_SEQ = false)
    (h2 : s.flag (PH_CLPWR t k) PH_CLPWR.C_THERM = false) (h3 : s.flag (PH_CLPWR t k) PH_CLPWR.C_GOV = false) :
    s.wakeCluster t k =
      if (s.downWells t k).filter (fun w => s.isOff t w && s.owned t w) ≠ [] then
        (s.updCl t k (fun c => { c with pend := true })).each ((s.downWells t k).filter (fun w => s.isOff t w && s.owned t w))
          (fun u w => u.wr (WL_VOTE t w) WL_VOTE.WAKE_PEND 1)
      else if (s.downWells t k).any (fun w => s.canWake t w) then
        (s.updCl t k (fun c => { c with lift := true, waking := true })).each ((s.downWells t k).filter (fun w => s.canWake t w)) (fun u w =>
          if u.stage t w = stPark then u.wr (WL_VOTE t w) WL_VOTE.WAKE_PEND 1
          else if u.stage t w = stDry then u.updVo t w (fun v => { v with wakeReq := true })
          else u)
      else if (s.downWells t k).any (fun w => s.isOff t w) then s.wakeRefuse t
      else if s.flag (PH_CLPWR t k) PH_CLPWR.C_VOTE && !s.flag (PH_CLPWR t k) PH_CLPWR.C_DRY then
        s.updCl t k (fun c => { c with lift := true, waking := true })
      else s := by
  rw [State.wakeCluster, hg, h1, h2, h3]
  rfl

/-- One WAKE, judged in its own state. -/
theorem wakeCluster_done (s : State) (t k : Nat) : WakeDone t k s (s.wakeCluster t k) where
  refused := fun hg hc => by
    have he : s.wakeCluster t k = s.wakeRefuse t := by
      rw [State.wakeCluster, hg]
      refine (if_neg (fun e => Bool.noConfusion e)).trans (if_pos ?_)
      rcases hc with h | h | h <;> simp only [h, Bool.or_true, Bool.true_or]
    rw [he]
    exact flag_wr_one _ _ _ rfl
  pend := fun hg h1 h2 h3 w hw ho hown => by
    have hmem : w ∈ (s.downWells t k).filter (fun w => s.isOff t w && s.owned t w) :=
      List.mem_filter.mpr ⟨hw, by rw [ho, hown]; rfl⟩
    rw [wakeCluster_free s hg h1 h2 h3, if_pos (List.ne_nil_of_mem hmem)]
    refine each_brings (fun u => u.flag (WL_VOTE t w) WL_VOTE.WAKE_PEND = true) _ (fun u w => u.wr (WL_VOTE t w) WL_VOTE.WAKE_PEND 1) w hmem
      (fun u => flag_wr_one _ _ _ rfl) (fun u v _ h => ?_) _
    by_cases he : WL_VOTE t w = WL_VOTE t v
    · rw [he]
      exact flag_wr_one _ _ _ rfl
    · rw [flag_wr_ne _ _ _ _ _ _ he]
      exact h
  lift := fun hg h1 h2 h3 hd hv hdry => by
    rw [wakeCluster_free s hg h1 h2 h3, hd, hv, hdry]
    exact congrArg ClusterX.lift (updCl_same s t k (fun c => { c with lift := true, waking := true }))

/-- The same, judged in a state that wakes of the tile have led to it from. -/
theorem wakeCluster_after {k : Nat} (hk : k < 96) (h : WakeGrows t s u) : WakeDone t k s (u.wakeCluster t k) := by
  have hd := wakeCluster_done u t k
  have hdown := h.downWells hk
  refine ⟨fun h1 h2 => hd.refused ((h.clpwr hk _).trans h1) ?_, fun h1 h2 h3 h4 w hw h5 h6 => ?_, fun h1 h2 h3 h4 h5 h6 h7 => ?_⟩
  · simpa only [h.clpwr hk] using h2
  · obtain ⟨ho, -, hown⟩ := h.isOff (downWells_lt hk hw)
    exact hd.pend ((h.clpwr hk _).trans h1) ((h.clpwr hk _).trans h2) ((h.clpwr hk _).trans h3) ((h.clpwr hk _).trans h4) w (by rw [hdown]; exact hw)
      (ho.trans h5) (hown.trans h6)
  · exact hd.lift ((h.clpwr hk _).trans h1) ((h.clpwr hk _).trans h2) ((h.clpwr hk _).trans h3) ((h.clpwr hk _).trans h4) (hdown.trans h5)
      ((h.clpwr hk _).trans h6) ((h.clpwr hk _).trans h7)

/-- Wakes on a list of clusters. -/
theorem wakeList_done {k : Nat} {l : List Nat} (hl : ∀ j ∈ l, j < 96) (hk : k ∈ l) (s : State) :
    WakeDone t k s (s.each l (fun u j => u.wakeCluster t j)) :=
  each_list_brings (WakeGrows t s) (WakeDone t k s) (fun u j => u.wakeCluster t j) (fun _ h => wakeCluster_after (hl k hk) h)
    (fun u j hj h => h.trans (.wakeCluster u (hl j hj))) (fun u j hj _ h => h.grows (.wakeCluster u (hl j hj))) hk s (.refl s)

/-- A wanted cluster is not waited for. -/
theorem wantOf_wanted (s : State) (t k : Nat) (b : Bool) (h : s.wanted t k = true) : ((s.wantOf t k b).cluster t k).waking = false := by
  have hw : (s.goffNoted t k).wanted t k = true := (congrArg (·.wanted t k) (goffNoted_hidden s t k) :).trans h
  rw [wantOf_eq, State.wantNoted, if_pos hw]
  split
  · rw [updCl_same, updCl_same]
  · rw [updCl_same]

/-- The votes on other clusters leave it so. -/
theorem wantOf_waking (s : State) (t j k : Nat) (b : Bool) (h : (s.cluster t k).waking = false) : ((s.wantOf t j b).cluster t k).waking = false := by
  have hupd : ∀ (v : State) (f : ClusterX → ClusterX), (v.cluster t k).waking = false → (∀ c : ClusterX, c.waking = false → (f c).waking = false) →
      ((v.updCl t j f).cluster t k).waking = false := by
    intro v f hv hf
    rw [updCl_cluster]
    split
    next e =>
      rw [e] at hv
      exact hf _ hv
    · exact hv
  have h0 : ((s.goffNoted t j).cluster t k).waking = false := (congrArg (fun x => (x.cluster t k).waking) (goffNoted_hidden s t j) :).trans h
  rw [wantOf_eq, State.wantNoted]
  split
  · split
    · exact hupd _ _ (hupd _ _ h0 (fun _ _ => rfl)) (fun _ h => h)
    · exact hupd _ _ h0 (fun _ _ => rfl)
  split
  · exact hupd _ _ h0 (fun _ h => h)
  · exact h0

/-! ### A host vote on clusters (R304, R309) -/

/-- Wakes, votes and their grace, in the order of a write of PH_HOST_CL0 or PH_HOST_CL1. -/
def State.voted (s : State) (t : Nat) (wakes ks wanted votes : List Nat) : State :=
  ((s.each wakes (fun u k => u.wakeCluster t k)).each ks (fun u k => u.wantOf t k (wanted.contains k))).each (List.range 14)
    (fun u w => u.graceOf t w (votes.contains w))

/-- Whether a cluster is wanted lies in registers that wakes and votes leave. -/
theorem WakeGrows.want (s : State) (t : Nat) {u : State} (h : WakeGrows t s u) {k : Nat} (hk : k < 96) : u.wanted t k = s.wanted t k := by
  have h0 : u.rd (PH_HOST_CL0 t) PH_HOST_CL0.CL_LO = s.rd (PH_HOST_CL0 t) PH_HOST_CL0.CL_LO := h.rd _
    (by simp only [PH_HOST_CL0, PH_PWR]; omega) (fun w _ => by simp only [PH_HOST_CL0, WL_VOTE, wlBase]; omega)
  have h1 : u.rd (PH_HOST_CL1 t) PH_HOST_CL1.CL_HI = s.rd (PH_HOST_CL1 t) PH_HOST_CL1.CL_HI := h.rd _
    (by simp only [PH_HOST_CL1, PH_PWR]; omega) (fun w _ => by simp only [PH_HOST_CL1, WL_VOTE, wlBase]; omega)
  have h2 : u.rd (PH_CLPWR t k) PH_CLPWR.RUN = s.rd (PH_CLPWR t k) PH_CLPWR.RUN := h.rd _ (clpwr_off t k hk).1 (clpwr_off t k hk).2
  simp only [State.wanted, State.hostCl, h0, h1, h2]

section
variable (s : State) (t : Nat) {wakes ks : List Nat} (wanted votes : List Nat) (hw : ∀ j ∈ wakes, j < 96)
include hw

theorem voted_grows : WakeGrows t s (s.voted t wakes ks wanted votes) :=
  (WakeGrows.each wakes (fun u k => u.wakeCluster t k) (fun u j hj => .wakeCluster u (hw j hj)) s).trans
    ((WakeGrows.each ks (fun u k => u.wantOf t k (wanted.contains k)) (fun u k _ => .wantOf u k _) _).trans
      (WakeGrows.each (List.range 14) (fun u w => u.graceOf t w (votes.contains w)) (fun u w _ => .graceOf u w _) _))

theorem voted_done {k : Nat} (hk : k ∈ wakes) : WakeDone t k s (s.voted t wakes ks wanted votes) :=
  (wakeList_done hw hk s).grows ((WakeGrows.each ks (fun u k => u.wantOf t k (wanted.contains k)) (fun u k _ => .wantOf u k _) _).trans
    (WakeGrows.each (List.range 14) (fun u w => u.graceOf t w (votes.contains w)) (fun u w _ => .graceOf u w _) _))

theorem voted_waking {k : Nat} (hk : k ∈ ks) (hk96 : k < 96) (h : s.wanted t k = true) :
    ((s.voted t wakes ks wanted votes).cluster t k).waking = false := by
  have hwakes := WakeGrows.each wakes (fun u k => u.wakeCluster t k) (fun u j hj => WakeGrows.wakeCluster (t := t) u (hw j hj)) s
  have hgrace : ((s.voted t wakes ks wanted votes).cluster t k) =
      (((s.each wakes (fun u k => u.wakeCluster t k)).each ks (fun u k => u.wantOf t k (wanted.contains k))).cluster t k) :=
    each_keeps (fun u => u.cluster t k) (List.range 14) (fun u w => u.graceOf t w (votes.contains w))
      (fun u w => (congrArg (·.cluster t k) (graceOf_hidden u t w (votes.contains w)) :)) _
  rw [hgrace]
  refine each_list_brings (WakeGrows t s) (fun u => (u.cluster t k).waking = false) (fun u k => u.wantOf t k (wanted.contains k))
    (fun u hu => wantOf_wanted u t k _ ((hu.want s t hk96).trans h)) (fun u j _ hu => hu.trans (.wantOf u j _))
    (fun u j _ _ hu => wantOf_waking u t j k _ hu) hk _ hwakes

end

end

end Sys2Proof.Machine

/-! PROOFS. Host votes, and gate controls of clusters, as commands (R304, R306-R310). -/

namespace Sys2Proof.Machine

open Sys2Proof

/-! ### The write of a host vote on clusters -/

section
variable {s : State} {t half k : Nat} {d : Word}

/-- The register of a host vote on clusters, and the word it takes. -/
def hostClReg (t half : Nat) : Nat := if half = 0 then PH_HOST_CL0 t else PH_HOST_CL1 t

def hostClWord (half : Nat) (d : Word) : Word := if half = 0 then d else PH_HOST_CL1.CL_HI.set 0 (PH_HOST_CL1.CL_HI.get d)

def hostClOf (half : Nat) : List Nat := if half = 0 then List.range 64 else (List.range 32).map (64 + ·)

theorem hostClWrite_eq : s.hostClWrite t half d =
    (s.setReg (hostClReg t half) (hostClWord half d)).voted t (hostBits half d) (hostClOf half)
      ((hostClOf half).filter (fun k => s.wanted t k)) ((List.range 14).filter (fun w => s.holdsVote t w)) := rfl

theorem hostBits_lt (h : k ∈ hostBits half d) : k < 96 := by
  obtain ⟨i, hi, rfl⟩ := List.mem_map.mp h
  have := List.mem_range.mp (List.mem_filter.mp hi).1
  split_ifs at * <;> omega

theorem bit_get (f : Fld) (x : Word) {i : Nat} (hi : i < f.width) : bit (f.get x) i = x.getLsbD (f.lo + i) := by
  rw [bit, Fld.get, BitVec.testBit_toNat, BitVec.getLsbD_extractLsb', decide_eq_true hi, Bool.true_and]

/-- The bit of the written word is the host's vote. -/
theorem hostCl_setReg_lo (hk : k < 64) : (s.setReg (PH_HOST_CL0 t) d).hostCl t k = d.getLsbD k := by
  rw [State.hostCl, if_pos hk, rd_setReg_same, bit_get _ _ (show k < 64 from hk)]
  exact congrArg d.getLsbD (Nat.zero_add k)

theorem hostCl_setReg_hi {i : Nat} (hi : i < 32) :
    (s.setReg (PH_HOST_CL1 t) (hostClWord 1 d)).hostCl t (64 + i) = d.getLsbD i := by
  rw [State.hostCl, if_neg (by omega), rd_setReg_same, Nat.add_sub_cancel_left, hostClWord, if_neg (by decide), Fld.get_set _ _ _ (by decide),
    fld_fits, bit_get _ _ (show i < 32 from hi)]
  exact congrArg d.getLsbD (Nat.zero_add i)

theorem hostCl_apart (t half : Nat) : (∀ k, k < 96 → PH_CLPWR t k ≠ hostClReg t half) ∧ (∀ w, w < 14 → WL_SETPT t w ≠ hostClReg t half) ∧
    hostClReg t half ≠ PH_PWR t ∧ ∀ w, w < 14 → hostClReg t half ≠ WL_VOTE t w := by
  rw [hostClReg]
  simp only [PH_CLPWR, WL_SETPT, WL_VOTE, PH_PWR, PH_HOST_CL0, PH_HOST_CL1, wlBase, ne_eq]
  refine ⟨fun k hk => ?_, fun w hw => ?_, ?_, fun w hw => ?_⟩ <;> split <;> omega

/-- What a WAKE has set by the state before the register took its word. -/
theorem WakeDone.of_reg {u v : State} (h : WakeDone t k u v) (hc : u.reg (PH_CLPWR t k) = s.reg (PH_CLPWR t k))
    (hs : ∀ w, w < 14 → u.reg (WL_SETPT t w) = s.reg (WL_SETPT t w)) (hk : k < 96) : WakeDone t k s v := by
  have hf := fun x => flag_of_reg hc x
  have hstage : ∀ w, w < 14 → u.isOff t w = s.isOff t w ∧ u.stage t w = s.stage t w ∧ u.owned t w = s.owned t w := by
    intro w hw
    have h1 : u.stage t w = s.stage t w := rd_of_reg (hs w hw) _
    exact ⟨by simp only [State.isOff, h1], h1, flag_of_reg (hs w hw) _⟩
  have hdown : u.downWells t k = s.downWells t k := by
    refine List.filter_congr fun w hw => ?_
    have hw14 : w < 14 := by
      simp only [List.mem_cons, List.not_mem_nil, or_false] at hw
      rcases hw with rfl | rfl
      · rw [coreWell]; omega
      · rw [sramWell]; split <;> omega
    rw [(hstage w hw14).1, (hstage w hw14).2.1]
  refine ⟨fun h1 h2 => h.refused ((hf _).trans h1) ?_, fun h1 h2 h3 h4 w hw h5 h6 => ?_, fun h1 h2 h3 h4 h5 h6 h7 => ?_⟩
  · simpa only [hf] using h2
  · obtain ⟨ho, -, hown⟩ := hstage w (downWells_lt hk hw)
    exact h.pend ((hf _).trans h1) ((hf _).trans h2) ((hf _).trans h3) ((hf _).trans h4) w (by rw [hdown]; exact hw) (ho.trans h5) (hown.trans h6)
  · exact h.lift ((hf _).trans h1) ((hf _).trans h2) ((hf _).trans h3) ((hf _).trans h4) (hdown.trans h5) ((hf _).trans h6) ((hf _).trans h7)

/-- A set bit acts as a WAKE and makes its cluster wanted. -/
theorem hostClWrite_acts (hk : k ∈ hostBits half d) (hof : k ∈ hostClOf half)
    (hbit : (s.setReg (hostClReg t half) (hostClWord half d)).hostCl t k = true) : s.wakeActs (s.hostClWrite t half d) t k := by
  have hk96 := hostBits_lt hk
  obtain ⟨hcl, hset, -, -⟩ := hostCl_apart t half
  have hwant : (s.setReg (hostClReg t half) (hostClWord half d)).wanted t k = true := by rw [State.wanted, hbit, Bool.or_true]
  rw [hostClWrite_eq]
  generalize (hostClOf half).filter (fun k => s.wanted t k) = wanted
  generalize (List.range 14).filter (fun w => s.holdsVote t w) = votes
  have hlt : ∀ j ∈ hostBits half d, j < 96 := fun j => hostBits_lt
  have hgrows := voted_grows (ks := hostClOf half) (s.setReg (hostClReg t half) (hostClWord half d)) t wanted votes hlt
  have hdone : WakeDone t k s _ := (voted_done (ks := hostClOf half) (s.setReg (hostClReg t half) (hostClWord half d)) t wanted votes hlt hk).of_reg
    ((reg_setReg _ _ _ _).trans (if_neg (hcl k hk96))) (fun w hw => (reg_setReg _ _ _ _).trans (if_neg (hset w hw))) hk96
  exact ⟨hdone.refused, fun h1 h2 h3 h4 => ⟨hdone.pend h1 h2 h3 h4, hdone.lift h1 h2 h3 h4⟩, (WakeGrows.want _ _ hgrows hk96).trans hwant,
    voted_waking _ _ _ _ hlt hof hk96 hwant⟩

theorem exec_hostCl : exec (.hostClWrite t half d) s = hostOp s (hostClReg t half) d (·.hostClWrite t half d) := rfl

theorem hostClWrite_reg : (s.hostClWrite t half d).reg (hostClReg t half) = hostClWord half d := by
  obtain ⟨-, -, hp, hv⟩ := hostCl_apart t half
  rw [hostClWrite_eq]
  refine ((voted_grows (ks := hostClOf half) _ t _ _ (fun j => hostBits_lt)).reg _ hp hv).trans ?_
  exact (reg_setReg _ _ _ _).trans (if_pos rfl)

end

theorem votesGate_low (u : Nat) (d : Word) (s : State) (ht : s.takes (PH_HOST_CL0 u) d) :
    s.yieldsAnswered (.hostClWrite u 0 d) (PH_HOST_CL0 u) (fun t =>
      t.reg (PH_HOST_CL0 u) = d ∧ ∀ k, k < 64 → d.getLsbD k = true → s.wakeActs t u k) := by
  refine yieldsAnswered_of_takes (f := (·.hostClWrite u 0 d)) (exec_hostCl (half := 0)) ht ⟨hostClWrite_reg, fun k hk hd => ?_⟩
  refine hostClWrite_acts ?_ (List.mem_range.mpr hk) ((hostCl_setReg_lo hk).trans hd)
  exact List.mem_map.mpr ⟨k, List.mem_filter.mpr ⟨List.mem_range.mpr hk, hd⟩, rfl⟩

theorem votesGate_high (u : Nat) (d : Word) (s : State) (ht : s.takes (PH_HOST_CL1 u) d) :
    s.yieldsAnswered (.hostClWrite u 1 d) (PH_HOST_CL1 u) (fun t =>
      t.rd (PH_HOST_CL1 u) PH_HOST_CL1.CL_HI = PH_HOST_CL1.CL_HI.get d ∧
      ∀ i, i < 32 → d.getLsbD i = true → s.wakeActs t u (64 + i)) := by
  refine yieldsAnswered_of_takes (f := (·.hostClWrite u 1 d)) (exec_hostCl (half := 1)) ht ⟨?_, fun i hi hd => ?_⟩
  · show PH_HOST_CL1.CL_HI.get ((s.hostClWrite u 1 d).reg (hostClReg u 1)) = _
    rw [hostClWrite_reg, hostClWord, if_neg (by decide), Fld.get_set _ _ _ (by decide), fld_fits]
  · refine hostClWrite_acts ?_ (List.mem_map.mpr ⟨i, List.mem_range.mpr hi, rfl⟩) ((hostCl_setReg_hi hi).trans hd)
    exact List.mem_map.mpr ⟨i, List.mem_filter.mpr ⟨List.mem_range.mpr hi, hd⟩, rfl⟩

/-! ### A host vote on wells (R304, R310) -/

theorem holdsVote_of_regs {s u : State} (h : u.regs = s.regs) (t w : Nat) : u.holdsVote t w = s.holdsVote t w := by
  simp only [State.holdsVote, State.hostHold, State.wanted, State.hostCl, State.rd, State.reg, h]

theorem graceOf_wells {s : State} {t w : Nat} (v : Nat) (x : Bool) (h : w ≠ v) : (s.graceOf t v x).well t w = s.well t w := by
  have hupd : ∀ f : VoteX → VoteX, (s.updVo t v f).well t w = s.well t w := fun f => by
    rw [State.updVo, well_setWell, if_neg (by omega)]
  unfold State.graceOf
  split
  · exact hupd _
  split
  · exact hupd _
  · rfl

/-- The grace of each well after a change of votes. -/
theorem graces_set {s : State} (t : Nat) (votes : List Nat) {w : Nat} (hw : w < 14) :
    (s.holdsVote t w = true → ((s.each (List.range 14) (fun u w => u.graceOf t w (votes.contains w))).well t w).vo.graceAt = none) ∧
    (s.holdsVote t w = false → votes.contains w = true →
      ((s.each (List.range 14) (fun u w => u.graceOf t w (votes.contains w))).well t w).vo.graceAt = some s.clk.ns) := by
  have hP : ∀ (u : State) (v : Nat), (u.regs = s.regs ∧ u.clk = s.clk) →
      ((u.graceOf t v (votes.contains v)).regs = s.regs ∧ (u.graceOf t v (votes.contains v)).clk = s.clk) := fun u v h =>
    ⟨(congrArg (·.regs) (graceOf_hidden u t v (votes.contains v)) :).trans h.1, (congrArg (·.clk) (graceOf_hidden u t v (votes.contains v)) :).trans h.2⟩
  constructor
  · intro hv
    refine each_range_brings (fun u => u.regs = s.regs ∧ u.clk = s.clk) (fun u => (u.well t w).vo.graceAt = none)
      (fun u w => u.graceOf t w (votes.contains w)) hw (fun u h => ?_) (fun u v _ _ h => hP u v h) (fun u v _ hne h => ?_) s ⟨rfl, rfl⟩
    · rw [State.graceOf, if_pos ((holdsVote_of_regs h.1 t w).trans hv), State.updVo, well_setWell, if_pos rfl]
    · rw [graceOf_wells v _ (Ne.symm hne)]
      exact h
  · intro hv hc
    refine each_range_brings (fun u => u.regs = s.regs ∧ u.clk = s.clk) (fun u => (u.well t w).vo.graceAt = some s.clk.ns)
      (fun u w => u.graceOf t w (votes.contains w)) hw (fun u h => ?_) (fun u v _ _ h => hP u v h) (fun u v _ hne h => ?_) s ⟨rfl, rfl⟩
    · rw [State.graceOf, if_neg (by rw [holdsVote_of_regs h.1, hv]; exact Bool.noConfusion), if_pos hc, State.updVo, well_setWell, if_pos rfl, h.2]
    · rw [graceOf_wells v _ (Ne.symm hne)]
      exact h

theorem graces_hidden (s : State) (t : Nat) (votes : List Nat) :
    { s.each (List.range 14) (fun u w => u.graceOf t w (votes.contains w)) with wells := [] } = { s with wells := [] } :=
  each_keeps (fun u => { u with wells := [] }) (List.range 14) (fun u w => u.graceOf t w (votes.contains w))
    (fun u w => (congrArg (fun x : State => { x with wells := [] }) (graceOf_hidden u t w (votes.contains w)) :)) s

theorem votesGate_hold (u : Nat) (d : Word) (s : State) (hq : s.quiet) (ha : s.alone) (ht : s.takes (PH_HOST_HOLD u) d) :
    ∃ t, exec (.hostHoldWrite u d) s = .next t ∧
      t.rd (PH_HOST_HOLD u) PH_HOST_HOLD.WELLS = PH_HOST_HOLD.WELLS.get d ∧
      (∀ w, w < 14 → t.holdsVote u w = true → (t.well u w).vo.graceAt = none) ∧
      (∀ w, w < 14 → s.holdsVote u w = true → t.holdsVote u w = false → (t.well u w).vo.graceAt = some s.clk.ns) ∧
      State.sameBut [PH_HOST_HOLD u] s t ∧ t.port = (s.answered rOkay 0).port := by
  have hrest := graces_hidden (s.wr (PH_HOST_HOLD u) PH_HOST_HOLD.WELLS (PH_HOST_HOLD.WELLS.get d)) u ((List.range 14).filter (fun w => s.holdsVote u w))
  have hgr := fun w (hw : w < 14) => graces_set (s := s.wr (PH_HOST_HOLD u) PH_HOST_HOLD.WELLS (PH_HOST_HOLD.WELLS.get d)) u
    ((List.range 14).filter (fun w => s.holdsVote u w)) hw
  change { s.hostHoldWrite u d with wells := [] } = _ at hrest
  change ∀ w, w < 14 → (_ → ((s.hostHoldWrite u d).well u w).vo.graceAt = none) ∧ (_ → _ → ((s.hostHoldWrite u d).well u w).vo.graceAt = some s.clk.ns) at hgr
  have hregs := (congrArg (·.regs) hrest :)
  have hport : (s.hostHoldWrite u d).port = s.port := (congrArg (·.port) hrest :)
  have hreg : ∀ a, (s.hostHoldWrite u d).reg a = _ := fun a => congrArg (fun r : RegTable => r.get a) hregs
  refine ⟨_, hostOp_effect (show exec (.hostHoldWrite u d) s = hostOp s (PH_HOST_HOLD u) d (·.hostHoldWrite u d) from rfl) ht rfl ?_ ?_, ?_, fun w hw hv => (hgr w hw).1 ((holdsVote_of_regs hregs u w).symm.trans hv), fun w hw h0 hv => ?_,
    fun a h => ?_, ?_⟩
  · show (s.hostHoldWrite u d).port.outstanding.length ≤ 1
    rw [hport]
    exact ha
  · exact ((congrArg (·.fault.now) hrest :).trans hq : (s.hostHoldWrite u d).fault.now = [])
  · show PH_HOST_HOLD.WELLS.get ((s.hostHoldWrite u d).reg _) = _
    rw [hreg]
    exact (rd_wr_same _ _ _ _ (by decide)).trans (fld_fits _ _)
  · refine (hgr w hw).2 ((holdsVote_of_regs hregs u w).symm.trans hv) ?_
    exact List.contains_iff_mem.mpr (List.mem_filter.mpr ⟨List.mem_range.mpr hw, h0⟩)
  · show (s.hostHoldWrite u d).reg a = _
    rw [hreg]
    exact reg_wr_ne _ _ _ _ _ (fun e => h (by rw [e]; exact List.mem_singleton_self _))
  · show ((s.hostHoldWrite u d).answered rOkay 0).port = _
    simp only [State.answered, hport]

end Sys2Proof.Machine

/-! PROOFS. Gate controls that votes assert and release (R306-R308). -/

namespace Sys2Proof.Machine

open Sys2Proof

section
variable {s : State} {t k : Nat}

/-! ### A gate cause -/

theorem gateOn_cause (c : Fld) (hc : c.ok = true) (h1 : PH_CLPWR.GATED.apart c = true) (h2 : PH_CLPWR.GREQ_ONLY.apart c = true) :
    (s.gateOn t k c).flag (PH_CLPWR t k) c = true :=
  (flag_wr_fld _ _ _ _ _ _ hc h2).trans ((flag_wr_fld _ _ _ _ _ _ hc h1).trans (flag_wr_one _ _ _ hc))

theorem gateOn_gated (c : Fld) : (s.gateOn t k c).flag (PH_CLPWR t k) PH_CLPWR.GATED = true :=
  (flag_wr_fld _ _ _ _ _ _ rfl rfl).trans (flag_wr_one _ _ _ rfl)

theorem gateOn_cluster (c : Fld) : (s.gateOn t k c).cluster t k = { s.cluster t k with goff := true, greq := true } := updCl_same _ t k _

theorem gateOn_sameBut (c : Fld) : State.sameBut [PH_CLPWR t k] s (s.gateOn t k c) :=
  fun b hb => gateOn_reg s t k c b (fun e => hb (by rw [e]; exact List.mem_singleton_self _))

theorem mapIdle_of (h : s.mapState t k = 0 ∨ s.mapState t k = 2) : (s.mapState t k == 0 || s.mapState t k == 2) = true := by
  rcases h with h | h <;> rw [h] <;> rfl

/-- A cluster that votes gate: the cause, both wires, and the woken marks `f` leaves. -/
theorem votesGate_gated (f : ClusterX → ClusterX) : ∀ t' : State, t' = (s.gateOn t k PH_CLPWR.C_VOTE).updCl t k f →
    t'.flag (PH_CLPWR t k) PH_CLPWR.C_VOTE = true ∧ t'.flag (PH_CLPWR t k) PH_CLPWR.GATED = true ∧
    t'.cluster t k = f { s.cluster t k with goff := true, greq := true } ∧ State.sameBut [PH_CLPWR t k] s t' := by
  rintro t' rfl
  exact ⟨gateOn_cause _ rfl rfl rfl, gateOn_gated _, (updCl_same _ t k f).trans (congrArg f (gateOn_cluster _)), gateOn_sameBut _⟩

end

theorem voteGate_gates (u k : Nat) (s : State) (hq : s.quiet) (hk : s.clusterOk u k = true) (hg : s.flag (WL_VOTE_CFG u (coreWell k)) WL_VOTE_CFG.CL_GATE = true)
    (hm : s.mapState u k = 0 ∨ s.mapState u k = 2) (hw : s.wanted u k = false) (hwk : (s.cluster u k).waking = false)
    (hv : s.flag (PH_CLPWR u k) PH_CLPWR.C_VOTE = false) : ∃ t, exec (.voteGate u k) s = .next t ∧
      t.flag (PH_CLPWR u k) PH_CLPWR.C_VOTE = true ∧ t.flag (PH_CLPWR u k) PH_CLPWR.GATED = true ∧ (t.cluster u k).goff = true ∧
      (t.cluster u k).greq = true ∧ State.sameBut [PH_CLPWR u k] s t := by
  have he : s.voteGate u k = (s.gateOn u k PH_CLPWR.C_VOTE).updCl u k (fun c => { c with lift := false }) := by
    simp only [State.voteGate, hk, hg, mapIdle_of hm, hw, hwk, hv, Bool.not_false, Bool.and_self, if_true]
  have hx : exec (.voteGate u k) s = .next (s.voteGate u k) := done_quiet _ (by rw [he]; exact hq)
  obtain ⟨hvote, hgated, hcl, hregs⟩ := votesGate_gated _ _ he
  exact ⟨_, hx, hvote, hgated, by rw [hcl], by rw [hcl], hregs⟩

theorem wakeGraceExpiry_gates (u k : Nat) (s : State) (hq : s.quiet) (hk : s.clusterOk u k = true) (hb : (s.cluster u k).graceBeat.isSome = true)
    (hwk : (s.cluster u k).waking = true) (hw : s.wanted u k = false) (hm : s.mapState u k = 0 ∨ s.mapState u k = 2)
    (hg : s.flag (WL_VOTE_CFG u (coreWell k)) WL_VOTE_CFG.CL_GATE = true) :
    ∃ t, exec (.wakeGraceExpiry u k) s = .next t ∧
      t.flag (PH_CLPWR u k) PH_CLPWR.C_VOTE = true ∧ (t.cluster u k).goff = true ∧ (t.cluster u k).waking = false ∧
      State.sameBut [PH_CLPWR u k] s t := by
  obtain ⟨beat, hbeat⟩ := Option.isSome_iff_exists.mp hb
  have he : s.wakeGraceExpiry u k =
      (s.gateOn u k PH_CLPWR.C_VOTE).updCl u k (fun c => { c with waking := false, graceBeat := none, lift := false }) := by
    simp only [State.wakeGraceExpiry, hbeat, hk, hg, mapIdle_of hm, hw, hwk, Bool.not_false, Bool.and_self, if_true]
  have hx : exec (.wakeGraceExpiry u k) s = .next (s.wakeGraceExpiry u k) := done_quiet _ (by rw [he]; exact hq)
  obtain ⟨hvote, -, hcl, hregs⟩ := votesGate_gated _ _ he
  exact ⟨_, hx, hvote, by rw [hcl], by rw [hcl], hregs⟩

/-! ### The release -/

/-- A part of a field that reads 0 reads 0. -/
theorem get_zero_of_inside {f g : Fld} (x : Word) (hlo : f.lo ≤ g.lo) (hhi : g.lo + g.width ≤ f.lo + f.width) (h : f.get x = 0) : g.get x = 0 := by
  have hbits : ∀ i < f.width, x.getLsbD (f.lo + i) = false := by
    intro i hi
    rw [← bit_get f x hi, h]
    exact Nat.zero_testBit i
  refine Nat.eq_of_testBit_eq fun i => ?_
  rw [Nat.zero_testBit]
  by_cases hi : i < g.width
  · have hb : bit (g.get x) i = false := by
      rw [bit_get g x hi, show g.lo + i = f.lo + (g.lo - f.lo + i) from by omega]
      exact hbits _ (by omega)
    exact hb
  · exact Nat.testBit_lt_two_pow (lt_of_lt_of_le (BitVec.isLt _) (Nat.pow_le_pow_right (by decide) (Nat.le_of_not_lt hi)))

/-- A field that reads 0 is not changed by clearing it. -/
theorem set_zero_same {f : Fld} (x : Word) (h : f.get x = 0) : f.set x 0 = x := by
  refine BitVec.eq_of_getLsbD_eq fun i hi => ?_
  rw [Fld.bit_set f x 0 i hi]
  split
  next hin =>
    have hb := bit_get f x (show i - f.lo < f.width from by omega)
    rw [h, show f.lo + (i - f.lo) = i from by omega] at hb
    exact hb
  · rfl

section
variable {s : State} {t k : Nat}

/-- Clearing a cause that does not stand changes no register. -/
theorem gateOff_absent {c : Fld} (h : s.rd (PH_CLPWR t k) c = 0) (b : Nat) : (s.gateOff t k c).reg b = s.reg b := by
  rw [State.gateOff, reg_wr]
  split
  next e => rw [e, set_zero_same _ h]
  · rfl

/-- Without a cause nothing is to be lifted. -/
theorem liftCauses_free (h : s.rd (PH_CLPWR t k) ⟨30, 26⟩ = 0) : (∀ b, (s.liftCauses t k).reg b = s.reg b) ∧
    { s.liftCauses t k with regs := s.regs, clusters := s.clusters } = s ∧
    ((s.liftCauses t k).cluster t k).greq = (s.cluster t k).greq := by
  have hdry : s.flag (PH_CLPWR t k) PH_CLPWR.C_DRY = false := by
    rw [State.flag, State.rd, get_zero_of_inside (f := ⟨30, 26⟩) _ (by decide) (by decide) h]
    rfl
  have hvote : s.rd (PH_CLPWR t k) PH_CLPWR.C_VOTE = 0 := get_zero_of_inside (f := ⟨30, 26⟩) _ (by decide) (by decide) h
  simp only [State.liftCauses, hdry, Bool.false_and, Bool.false_eq_true, if_false, Bool.not_false, Bool.and_true]
  split
  · exact ⟨gateOff_absent hvote, rfl, by rw [updCl_same]; rfl⟩
  · exact ⟨fun _ => rfl, rfl, rfl⟩

end

theorem gateControlRelease_frees (u k : Nat) (s : State) (hq : s.quiet) (hk : s.clusterOk u k = true)
    (hg : s.flag (PH_CLPWR u k) PH_CLPWR.GATED = true) (hc : s.anyCause u k = false) :
    ∃ t, exec (.gateControlRelease u k) s = .next t ∧ t.flag (PH_CLPWR u k) PH_CLPWR.GATED = false ∧ (t.cluster u k).goff = false ∧
      (t.cluster u k).greq = (s.cluster u k).greq ∧ State.sameBut [PH_CLPWR u k] s t := by
  have h0 : s.rd (PH_CLPWR u k) ⟨30, 26⟩ = 0 := by simpa only [State.anyCause, bne_eq_false_iff_eq] using hc
  obtain ⟨hreg, hrest, hgreq⟩ := liftCauses_free h0
  have hcause : (s.liftCauses u k).anyCause u k = false := by rw [State.anyCause, rd_of_reg (hreg _), h0]; rfl
  have he : s.gateControlRelease u k = (((s.liftCauses u k).wr (PH_CLPWR u k) PH_CLPWR.GATED 0).wr (PH_CLPWR u k) PH_CLPWR.GREQ_ONLY 0).updCl u k
      (fun c => { c with goff := false }) := by
    simp only [State.gateControlRelease, hk, hg, Bool.and_self, if_true, hcause, Bool.false_eq_true, if_false]
  have hx : exec (.gateControlRelease u k) s = .next (s.gateControlRelease u k) := done_quiet _ (by
    rw [he]
    exact ((congrArg (·.fault.now) hrest :).trans hq : (s.liftCauses u k).fault.now = []))
  refine ⟨_, hx, ?_, ?_, ?_, fun b hb => ?_⟩
  · rw [he]
    exact (flag_wr_fld _ _ _ _ _ _ rfl rfl).trans (flag_wr_zero _ _ _ rfl)
  · rw [he, updCl_same]
  · rw [he, updCl_same]
    exact hgreq
  · have hne : b ≠ PH_CLPWR u k := fun e => hb (by rw [e]; exact List.mem_singleton_self _)
    rw [he]
    exact (reg_wr_ne _ _ _ _ _ hne).trans ((reg_wr_ne _ _ _ _ _ hne).trans (hreg b))

theorem greqRelease_frees (u k : Nat) (s : State) (hq : s.quiet) (hk : s.clusterOk u k = true) (hr : (s.cluster u k).greq = true)
    (ho : (s.cluster u k).goff = false) (hg : s.flag (PH_CLPWR u k) PH_CLPWR.GATED = false) :
    ∃ t, exec (.greqRelease u k) s = .next t ∧ (t.cluster u k).greq = false ∧
      ((s.cluster u k).waking = true → s.mapState u k ≠ 5 → (t.cluster u k).graceBeat = some s.clk.beat) ∧ State.sameBut [] s t := by
  have he : s.greqRelease u k = s.updCl u k (fun c => { c with
      greq := false
      graceBeat := if c.waking && (s.mapState u k != 5) then some s.clk.beat else c.graceBeat }) := by
    simp only [State.greqRelease, hk, hr, ho, hg, Bool.not_false, Bool.and_self, if_true]
  have hx : exec (.greqRelease u k) s = .next (s.greqRelease u k) := done_quiet _ (by rw [he]; exact hq)
  rw [he] at hx
  refine ⟨_, hx, by rw [updCl_same], fun hw hm => ?_, fun _ _ => rfl⟩
  rw [updCl_same]
  exact if_pos (by rw [hw, bne_iff_ne.mpr hm]; rfl)

end Sys2Proof.Machine

/-! PROOFS. Voted parks, wakes of wells and of Pumphouses, and the obligation on votes (R302-R313). -/

namespace Sys2Proof.Machine

open Sys2Proof

section
variable {s : State} {t w : Nat}

/-! ### A voted park (R310) -/

theorem dropTracks_reg {b : Nat} (h1 : ∀ v, v < 15 → b ≠ WL_TRACK t v) (h2 : ∀ v, v < 15 → b ≠ WL_PROF_STAT t v) (hw : w < 15) :
    (s.dropTracks t w).reg b = s.reg b := by
  have hends := endTracks_reg s t w b h1 h2
  simp only [State.dropTracks]
  split
  · exact (reg_wr_ne _ _ _ _ _ (h2 w hw)).trans ((reg_wr_ne _ _ _ _ _ (h1 w hw)).trans hends)
  · exact hends

theorem updMo_te (s : State) (t w v x : Nat) (f : Motion → Motion) : (s.updMo t v f).te x w = s.te x w := by
  simp only [State.te, State.updMo, well_setWell]
  split
  next e => simp only [State.well, e]
  · rfl

theorem dropTracks_te : (s.dropTracks t w).te t w = s.te t w := by
  have hends : (s.endTracks t w).te t w = s.te t w := each_keeps (fun u => u.te t w) (s.followersOf t w) (fun u f =>
    ((u.wr (WL_TRACK t f) WL_TRACK.ACTIVE 0).wr (WL_PROF_STAT t f) WL_PROF_STAT.TRACKING 0).updMo t f (fun m => { m with v := 0, a := 0 }))
    (fun u f => updMo_te _ t w f t _) s
  simp only [State.dropTracks]
  split
  · exact (updMo_te _ t w w t _).trans hends
  · exact hends

/-- A park that nothing holds up begins at once. -/
theorem parkOrWait_begins (hw : w < 14) (ht : s.tied t w = false) (hk : (s.te t w).kind = 0) (b : Bool) :
    s.parkOrWait t w b = (s.dropTracks t w).parkBegin t w b := by
  have htied : (s.dropTracks t w).tied t w = false := by
    have hreg : (s.dropTracks t w).reg (WL_TIE t w) = s.reg (WL_TIE t w) := dropTracks_reg
      (fun v _ => by simp only [WL_TIE, WL_TRACK, wlBase]; omega) (fun v _ => by simp only [WL_TIE, WL_PROF_STAT, wlBase]; omega) (by omega)
    rw [State.tied, rd_of_reg hreg]
    exact ht
  exact if_neg (by rw [htied, dropTracks_te, hk]; simp)

/-- What a park begins with. -/
theorem parkBegin_stage (b : Bool) : (s.parkBegin t w b).stage t w = stPark ∧ ((s.parkBegin t w b).mo t w).votedPark = b := by
  have hpmd (u : State) (d : Bool) : (u.setPmd t w d).reg (WL_SETPT t w) = u.reg (WL_SETPT t w) :=
    setPmd_reg u t w d _ (fun p _ => by simp only [WL_SETPT, PM_LINK, wlBase]; omega)
  have hview (u : State) : (u.primeViewOf t w).reg (WL_SETPT t w) = u.reg (WL_SETPT t w) :=
    primeViewOf_reg u t w _ (fun c _ => by simp only [WL_SETPT, PH_PRIME, wlBase]; omega)
  have hmo (u : State) : (u.primeViewOf t w).mo t w = u.mo t w := by
    rw [State.primeViewOf]
    split <;> rfl
  have hne : WL_SETPT t w ≠ WL_PROF_STAT t w := by simp only [WL_SETPT, WL_PROF_STAT, wlBase]; omega
  simp only [State.parkBegin]
  constructor
  · refine (rd_of_reg (hview _) _).trans ((rd_of_reg (hpmd _ _) _).trans ?_)
    exact (rd_wr_ne _ _ _ _ _ _ hne).trans ((rd_wr_ne _ _ _ _ _ _ hne).trans (stage_setStage _ t w stPark (by decide)))
  · rw [hmo, updMo_same]

end

theorem votedPark_parks (u w : Nat) (s : State) (hok : s.voltedOk u w = true) (hv : s.flag (WL_VOTE_CFG u w) WL_VOTE_CFG.VOTED = true)
    (hh : s.holdsVote u w = false) (hb : s.parkBlocked u w = false) (ht : s.tied u w = false) :
    s.yields (.votedPark u w) (fun t => t.stage u w = stPark ∧ (t.mo u w).votedPark = true) := by
  have hw : w < 14 := by
    simp only [State.voltedOk, Bool.and_eq_true, decide_eq_true_eq] at hok
    exact hok.2
  have hkind : (s.te u w).kind = 0 := by
    have h := hb
    simp only [State.parkBlocked, Bool.or_eq_false_iff] at h
    obtain ⟨⟨⟨-, hk⟩, -⟩, -⟩ := h
    exact bne_eq_false_iff_eq.mp hk
  have he : s.votedPark u w = (s.dropTracks u w).parkBegin u w true := by
    rw [State.votedPark, hok, hv, hh, hb]
    exact parkOrWait_begins hw ht hkind true
  refine ⟨s.votedPark u w, rfl, ?_⟩
  rw [he]
  exact parkBegin_stage true

/-! ### Priming on wake (R309, R312) -/

/-- The wakes held for a well are taken up: their clusters are woken, and each DRY well beside it is to prime. -/
def State.wakesTaken (s : State) (t w : Nat) : State :=
  (s.each ((fedClusters w).filter (fun k => (s.cluster t k).pend)) (fun u k => u.updCl t k (fun c => { c with pend := false }))).each
    (((fedClusters w).filter (fun k => (s.cluster t k).pend)).filter (fun k => (s.downWells t k).any (fun v => s.autoWake t v))) (fun u k =>
      (u.updCl t k (fun c => { c with lift := true, waking := true })).each
        ((u.downWells t k).filter (fun v => v != w && u.stage t v == stDry && !u.owned t v && u.autoWake t v))
        (fun u v => u.updVo t v (fun o => { o with wakeReq := true })))

/-- What no wake that is taken up changes. -/
def State.besideWakes (s : State) : State := { s with clusters := [], wells := [] }

section
variable {s : State} {t w : Nat}

theorem wakesTaken_beside : (s.wakesTaken t w).besideWakes = s.besideWakes := by
  refine (each_keeps State.besideWakes _ _ (fun u k => ?_) _).trans (each_keeps State.besideWakes _
    (fun u k => u.updCl t k (fun c => { c with pend := false })) (fun u k => rfl) s)
  exact (each_keeps State.besideWakes _ (fun u v => u.updVo t v (fun o => { o with wakeReq := true })) (fun u v => rfl) _)

theorem pendWakes_auto (h : s.autoWake t w = true) : s.pendWakes t w = (s.wakesTaken t w).wakePrime t w := by
  have ha : (s.wakesTaken t w).autoWake t w = true := (congrArg (·.autoWake t w) (wakesTaken_beside (s := s) (t := t) (w := w)) :).trans h
  exact if_pos ha

/-- A well that no wake may prime waits no more. -/
def State.wakeGiven (s : State) (t w : Nat) : State := (s.wr (WL_VOTE t w) WL_VOTE.WAKE_PEND 0).updVo t w (fun v => { v with wakeReq := false })

theorem pendWakes_idle (h : s.autoWake t w = false) :
    s.pendWakes t w = (s.wakesTaken t w).wakeGiven t w ∨ s.pendWakes t w = ((s.wakesTaken t w).wakeGiven t w).wakeRefuse t := by
  have ha : (s.wakesTaken t w).autoWake t w = false := (congrArg (·.autoWake t w) (wakesTaken_beside (s := s) (t := t) (w := w)) :).trans h
  have he : s.pendWakes t w = if ((fedClusters w).filter (fun k => (s.cluster t k).pend)).filter (fun k => (s.downWells t k).any (fun v => s.autoWake t v)) = []
      then ((s.wakesTaken t w).wakeGiven t w).wakeRefuse t else (s.wakesTaken t w).wakeGiven t w :=
    if_neg (fun e => Bool.noConfusion (ha.symm.trans e))
  rw [he]
  split
  · exact .inr rfl
  · exact .inl rfl

theorem wakeGiven_spec (hs : s.stage t w = stDry) : (s.wakeGiven t w).stage t w = stDry ∧ ((s.wakeGiven t w).well t w).vo.wakeReq = false ∧
    (s.wakeGiven t w).flag (WL_VOTE t w) WL_VOTE.WAKE_PEND = false := by
  refine ⟨?_, ?_, flag_wr_zero _ _ _ rfl⟩
  · exact (rd_wr_ne _ _ _ _ _ _ (by simp only [WL_SETPT, WL_VOTE, wlBase]; omega)).trans hs
  · rw [State.wakeGiven, State.updVo, well_setWell, if_pos rfl]

theorem wakeRefuse_keeps (hs : s.stage t w = stDry ∧ (s.well t w).vo.wakeReq = false ∧ s.flag (WL_VOTE t w) WL_VOTE.WAKE_PEND = false) :
    (s.wakeRefuse t).stage t w = stDry ∧ ((s.wakeRefuse t).well t w).vo.wakeReq = false ∧ (s.wakeRefuse t).flag (WL_VOTE t w) WL_VOTE.WAKE_PEND = false := by
  obtain ⟨h1, h2, h3⟩ := hs
  refine ⟨(rd_wr_ne _ _ _ _ _ _ ?_).trans h1, h2, (flag_wr_ne _ _ _ _ _ _ ?_).trans h3⟩
  · simp only [WL_SETPT, PH_PWR, wlBase]; omega
  · simp only [WL_VOTE, PH_PWR, wlBase]; omega

theorem primeBegin_stage : (s.primeBegin t w).stage t w = stCal := by
  have hpumps (u : State) (l : List Nat) (f : PumpX → PumpX) : (u.each l (fun u p => u.updPump t w p f)).stage t w = u.stage t w :=
    each_keeps (fun u => u.stage t w) l (fun u p => u.updPump t w p f) (fun _ _ => rfl) u
  rw [State.primeBegin]
  refine (hpumps _ _ _).trans ?_
  refine (rd_wr_ne _ _ _ _ _ _ ?_).trans (stage_setStage _ t w stCal (by decide))
  simp only [WL_SETPT, AD_WIN, wlBase]; omega

theorem primeBegin_wakes : (s.primeBegin t w).rd (PH_PWR t) PH_PWR.WAKES = s.rd (PH_PWR t) PH_PWR.WAKES := by
  have hpumps (u : State) (l : List Nat) (f : PumpX → PumpX) : (u.each l (fun u p => u.updPump t w p f)).rd (PH_PWR t) PH_PWR.WAKES = u.rd (PH_PWR t) PH_PWR.WAKES :=
    each_keeps (fun u => u.rd (PH_PWR t) PH_PWR.WAKES) l (fun u p => u.updPump t w p f) (fun _ _ => rfl) u
  have hgates (u : State) : (u.each (fedClusters w) (fun u k => u.gateOn t k PH_CLPWR.C_DRY)).rd (PH_PWR t) PH_PWR.WAKES = u.rd (PH_PWR t) PH_PWR.WAKES :=
    rd_of_reg (gateDry_reg u t w _ (fun k _ => by simp only [PH_PWR, PH_CLPWR]; omega)) _
  have hfull : (s.fullPower t).rd (PH_PWR t) PH_PWR.WAKES = s.rd (PH_PWR t) PH_PWR.WAKES := by
    have hne : PH_PWR t ≠ AD_STAT t := by simp only [PH_PWR, AD_STAT]; omega
    rw [State.fullPower]
    split
    · exact (rd_wr_ne _ _ _ _ _ _ hne).trans (rd_wr_ne _ _ _ _ _ _ hne)
    · rfl
  rw [State.primeBegin]
  refine (hpumps _ _ _).trans ((rd_wr_ne _ _ _ _ _ _ ?_).trans ((rd_wr_ne _ _ _ _ _ _ ?_).trans ((hgates _).trans ?_)))
  · simp only [PH_PWR, AD_WIN]; omega
  · simp only [WL_SETPT, PH_PWR, wlBase]; omega
  · split
    · exact (rd_wr_fld _ _ _ _ _ _ rfl rfl).trans hfull
    · exact hfull

/-- A priming on wake that can begin. -/
theorem wakePrime_primes (hp : s.primable t w = true) (hs : s.stopped t = false) :
    s.wakePrime t w = (((((s.updVo t w (fun v => { v with wakeReq := false })).wr (WL_VOTE t w) WL_VOTE.WAKE_PEND 0).bump (PH_PWR t)).primeBegin t w).updMo t w
      (fun m => { m with waking := true })) :=
  if_pos (by
    show (s.primable t w && !s.stopped t) = true
    rw [hp, hs]
    rfl)

theorem wakePrime_fails (hp : s.primable t w = false) :
    s.wakePrime t w = (s.updVo t w (fun v => { v with wakeReq := false })).wakeFail t w :=
  if_neg (by
    show ¬ (s.primable t w && !s.stopped t) = true
    rw [hp]
    exact Bool.noConfusion)

end

theorem primingOnWake_primes (u w : Nat) (s : State) (hok : s.voltedOk u w = true) (hd : s.stage u w = stDry) (ho : s.owned u w = false)
    (hr : (s.well u w).vo.wakeReq = true) (ha : s.active = true) (hc : s.rd (PH_PWR u) PH_PWR.WAKES + 1 < 0xFFFFFFFF) :
    (s.autoWake u w = false → s.yields (.primingOnWake u w) (fun t => t.stage u w = stDry ∧ (t.well u w).vo.wakeReq = false ∧
      t.flag (WL_VOTE u w) WL_VOTE.WAKE_PEND = false)) ∧
    (s.autoWake u w = true → s.primable u w = true → s.stopped u = false → s.yields (.primingOnWake u w) (fun t => t.stage u w = stCal ∧ (t.mo u w).waking = true ∧
      t.rd (PH_PWR u) PH_PWR.WAKES = s.rd (PH_PWR u) PH_PWR.WAKES + 1)) ∧
    (s.autoWake u w = true → s.primable u w = false → s.yields (.primingOnWake u w) (fun t => t.stage u w = stDry ∧
      { src := 30, tile := u, well := w } ∈ t.fault.inflight)) := by
  have he : s.primingOnWake u w = s.pendWakes u w := by
    rw [State.primingOnWake, hok, ha, hd, ho, hr]
    rfl
  have hbeside := wakesTaken_beside (s := s) (t := u) (w := w)
  have hstage : (s.wakesTaken u w).stage u w = stDry := (congrArg (·.stage u w) hbeside :).trans hd
  refine ⟨fun hauto => ⟨s.primingOnWake u w, rfl, ?_⟩, fun hauto hp hs => ⟨s.primingOnWake u w, rfl, ?_⟩, fun hauto hp => ⟨s.primingOnWake u w, rfl, ?_⟩⟩
  · rw [he]
    rcases pendWakes_idle hauto with h | h <;> rw [h]
    · exact wakeGiven_spec hstage
    · exact wakeRefuse_keeps (wakeGiven_spec hstage)
  · have hprim : (s.wakesTaken u w).primable u w = true := (congrArg (·.primable u w) hbeside :).trans hp
    have hstop : (s.wakesTaken u w).stopped u = false := (congrArg (·.stopped u) hbeside :).trans hs
    have hwakes : (((s.wakesTaken u w).updVo u w (fun v => { v with wakeReq := false })).wr (WL_VOTE u w) WL_VOTE.WAKE_PEND 0).rd (PH_PWR u) ctrCount =
        s.rd (PH_PWR u) ctrCount :=
      (rd_wr_ne _ _ _ _ _ _ (by simp only [PH_PWR, WL_VOTE, wlBase]; omega)).trans (congrArg (·.rd (PH_PWR u) ctrCount) hbeside :)
    rw [he, pendWakes_auto hauto, wakePrime_primes hprim hstop]
    refine ⟨primeBegin_stage, by rw [updMo_same], primeBegin_wakes.trans ?_⟩
    rw [bump_counts _ _ (by rw [hwakes]; exact hc), hwakes]
    exact (rd_wr_same _ _ _ _ (by decide)).trans (Nat.mod_eq_of_lt (lt_trans hc (by decide)))
  · have hprim : (s.wakesTaken u w).primable u w = false := (congrArg (·.primable u w) hbeside :).trans hp
    rw [he, pendWakes_auto hauto, wakePrime_fails hprim]
    refine ⟨(rd_wr_ne _ _ _ _ _ _ (by simp only [WL_SETPT, WL_VOTE, wlBase]; omega)).trans hstage, ?_⟩
    rw [wakeFail_inflight]
    exact List.mem_append_right _ (List.mem_singleton_self _)

/-! ### A woken Pumphouse (R313) -/

/-- The CAL stages that waited for the clocks start. -/
def State.calStarts (s : State) (t : Nat) : State :=
  s.each (List.range 14) (fun u w =>
    if u.stage t w = stCal then u.each (u.pumpsOf t w) (fun v p => v.updPump t w p (fun q => { q with measuring := true })) else u)

/-- The clocks of a Pumphouse have locked. -/
def State.tileWoken (s : State) (t : Nat) : State := ((s.wr (PH_PWR t) PH_PWR.STATE 0).loadNco t).testsDue t

section
variable {s : State} {t : Nat}

theorem measureAll_beside (l : List Nat) (w : Nat) : { s.each l (fun v p => v.updPump t w p (fun q => { q with measuring := true })) with pumps := [] } = { s with pumps := [] } :=
  each_keeps (fun u => { u with pumps := [] }) l (fun v p => v.updPump t w p (fun q => { q with measuring := true })) (fun _ _ => rfl) s

theorem calStart_beside (w : Nat) : { (if s.stage t w = stCal then s.each (s.pumpsOf t w) (fun v p => v.updPump t w p (fun q => { q with measuring := true })) else s) with pumps := [] } =
    { s with pumps := [] } := by
  split
  · exact measureAll_beside _ _
  · rfl

theorem calStarts_beside : { s.calStarts t with pumps := [] } = { s with pumps := [] } :=
  each_keeps (fun u => { u with pumps := [] }) (List.range 14) (fun u w =>
    if u.stage t w = stCal then u.each (u.pumpsOf t w) (fun v p => v.updPump t w p (fun q => { q with measuring := true })) else u)
    (fun u w => calStart_beside (s := u) w) s

theorem updPump_measuring (s : State) (t w p v q : Nat) (h : (s.pump t w p).measuring = true) :
    ((s.updPump t v q (fun q => { q with measuring := true })).pump t w p).measuring = true := by
  rw [State.updPump, pump_setPump]
  split
  · rfl
  · exact h

theorem measureAll_keeps (l : List Nat) (v w p : Nat) (h : (s.pump t w p).measuring = true) :
    ((s.each l (fun u q => u.updPump t v q (fun q => { q with measuring := true }))).pump t w p).measuring = true := by
  induction l generalizing s with
  | nil => exact h
  | cons q l ih => exact ih (updPump_measuring s t w p v q h)

theorem calStarts_measures {w p : Nat} (hw : w < 14) (hs : s.stage t w = stCal) (hp : p < s.installed t w) : ((s.calStarts t).pump t w p).measuring = true := by
  refine each_range_brings (fun u => { u with pumps := [] } = { s with pumps := [] }) (fun u => (u.pump t w p).measuring = true) (fun u w =>
    if u.stage t w = stCal then u.each (u.pumpsOf t w) (fun v p => v.updPump t w p (fun q => { q with measuring := true })) else u) hw
    (fun u hu => ?_) (fun u v _ _ hu => (calStart_beside (s := u) v).trans hu) (fun u v _ _ hu => ?_) s rfl
  · have hstage : u.stage t w = stCal := (congrArg (·.stage t w) hu :).trans hs
    have hmem : p ∈ u.pumpsOf t w := List.mem_range.mpr (lt_of_lt_of_eq hp (congrArg (·.installed t w) hu :).symm)
    rw [if_pos hstage]
    exact each_brings (fun v => (v.pump t w p).measuring = true) _ (fun v p => v.updPump t w p (fun q => { q with measuring := true })) p hmem
      (fun v => by rw [updPump_same]) (fun v q _ hv => updPump_measuring v t w p w q hv) _
  · split
    · exact measureAll_keeps _ v w p hu
    · exact hu

/-- A woken tile runs, and the writes held for it take effect. -/
theorem wakeWrites_woken (hok : s.tileOk t = true) (h2 : s.rd (PH_PWR t) PH_PWR.STATE = 2) (h3 : s.rd CL_TIME CL_TIME.STATE ≠ 3) :
    s.wakeWrites t = (((s.tileWoken t).calStarts t).updTile t (fun x => { x with held := [] })).each (s.tile t).held (fun u e => u.writeAt e.1 e.2) ∧
    ((s.tileWoken t).calStarts t).rd (PH_PWR t) PH_PWR.STATE = 0 := by
  have he : s.pumphouseWakeDone t = (s.tileWoken t).calStarts t := if_pos (by rw [hok, h2, bne_iff_ne.mpr h3]; rfl)
  have hstate : ((s.tileWoken t).calStarts t).rd (PH_PWR t) PH_PWR.STATE = 0 :=
    (congrArg (·.rd (PH_PWR t) PH_PWR.STATE) (calStarts_beside (s := s.tileWoken t) (t := t)) :).trans (rd_wr_same _ _ _ _ (by decide))
  have hheld : (((s.tileWoken t).calStarts t).tile t).held = (s.tile t).held := by
    refine (congrArg (fun u => (u.tile t).held) (calStarts_beside (s := s.tileWoken t) (t := t)) :).trans ?_
    show ((s.tileWoken t).tile t).held = _
    rw [State.tileWoken, State.testsDue, updTile_same, State.loadNco, updTile_same]
    rfl
  have hrun : ((s.tileWoken t).calStarts t).clocksOff t = false := by rw [State.clocksOff, hstate]; rfl
  refine ⟨?_, hstate⟩
  rw [State.wakeWrites, he]
  show (if ((s.tileWoken t).calStarts t).clocksOff t then _ else _) = _
  rw [hrun, hheld]
  rfl

/-- A write of PM_LINK to a tile that runs. -/
theorem writeAt_link {w p : Nat} (ht : t < 96) (hw : w < 14) (hp : p < 4) (d : Word) : s.writeAt (PM_LINK t w p) d = s.calWrite t w p d := by
  have hplace : place (PM_LINK t w p) = .well t w (0x40 + 4 * p) := by
    rw [show PM_LINK t w p = wlBase t w + (0x40 + 4 * p) from by rw [PM_LINK]; omega]
    exact place_wlBase ht (by omega) (by omega)
  have hset : PM_LINK t w p ≠ WL_SETPT t w := by simp only [PM_LINK, WL_SETPT]; omega
  have htest : PM_LINK t w p ≠ WL_TEST t w := by simp only [PM_LINK, WL_TEST]; omega
  have hfind : (List.range 4).find? (fun q => PM_LINK t w p == PM_LINK t w q) = some p := by
    have hcongr : (List.range 4).find? (fun q => PM_LINK t w p == PM_LINK t w q) = (List.range 4).find? (fun q => p == q) := by
      refine List.find?_congr fun q _ => ?_
      have hinj : PM_LINK t w p = PM_LINK t w q ↔ p = q := by simp only [PM_LINK]; omega
      rw [Bool.eq_iff_iff, beq_iff_eq, beq_iff_eq, hinj]
    rw [hcongr]
    have hall : ∀ p < 4, (List.range 4).find? (fun q => p == q) = some p := by decide
    exact hall p hp
  rw [State.writeAt, hplace]
  show s.writeWell t w (PM_LINK t w p) d = _
  rw [State.writeWell, if_neg hset, if_neg htest, hfind]

end

theorem pumphouseWakeDone_wakes (u : Nat) (s : State) (hq : s.quiet) (hok : s.tileOk u = true) (h2 : s.rd (PH_PWR u) PH_PWR.STATE = 2)
    (h3 : s.rd CL_TIME CL_TIME.STATE ≠ 3) :
    (∀ (w p : Nat) (d : Word), u < 96 → w < 14 → p < 4 → (s.tile u).held = [(PM_LINK u w p, d)] → PM_LINK.CAL.get d = 1 →
      s.flag (PM_LINK u w p) PM_LINK.PEN = false → ∃ t, exec (.pumphouseWakeDone u) s = .next t ∧ t.rd (PH_PWR u) PH_PWR.STATE = 0 ∧
        (t.pump u w p).measuring = true ∧ (t.tile u).held = []) ∧
    ((s.tile u).held = [] → ∃ t, exec (.pumphouseWakeDone u) s = .next t ∧ t.rd (PH_PWR u) PH_PWR.STATE = 0 ∧
      (∀ w p, w < 14 → s.stage u w = stCal → p < s.installed u w → (t.pump u w p).measuring = true) ∧ State.sameBut [PH_PWR u] s t) := by
  obtain ⟨he, hstate⟩ := wakeWrites_woken hok h2 h3
  have hbeside := calStarts_beside (s := s.tileWoken u) (t := u)
  have hreg : ∀ b, b ≠ PH_PWR u → ((s.tileWoken u).calStarts u).reg b = s.reg b := fun b hb =>
    (congrArg (·.reg b) hbeside :).trans (reg_wr_ne _ _ _ _ _ hb)
  have hquiet : ((s.tileWoken u).calStarts u).fault.now = [] := (congrArg (·.fault.now) hbeside :).trans hq
  refine ⟨fun w p d hu hw hp hheld hcal hpen => ?_, fun hheld => ?_⟩
  · have hne : PM_LINK u w p ≠ PH_PWR u := by simp only [PM_LINK, PH_PWR, wlBase]; omega
    have hd : s.wakeWrites u = ((((s.tileWoken u).calStarts u).updTile u (fun x => { x with held := [] })).plainWrite (PM_LINK u w p) d).updPump u w p
        (fun q => { q with measuring := true }) := by
      rw [he, hheld]
      refine (writeAt_link hu hw hp d).trans (calWrite_measures _ u w p d hcal ?_)
      exact (flag_of_reg (hreg _ hne) _).trans hpen
    have hx : exec (.pumphouseWakeDone u) s = .next (s.wakeWrites u) := done_quiet _ (by
      rw [hd]
      exact (congrArg FaultX.now (plainWrite_fault _ _ _)).trans hquiet)
    rw [hd] at hx
    refine ⟨_, hx, (rd_of_reg (plainWrite_reg _ _ _ d (Ne.symm hne)) _).trans hstate, by rw [updPump_same], ?_⟩
    refine (congrArg (fun v => (v.tile u).held) (plainWrite_rest (((s.tileWoken u).calStarts u).updTile u (fun x => { x with held := [] })) (PM_LINK u w p) d) :).trans ?_
    rw [updTile_same]
  · have hd : s.wakeWrites u = ((s.tileWoken u).calStarts u).updTile u (fun x => { x with held := [] }) := by
      rw [he, hheld]
      rfl
    have hx : exec (.pumphouseWakeDone u) s = .next (s.wakeWrites u) := done_quiet _ (by rw [hd]; exact hquiet)
    rw [hd] at hx
    refine ⟨_, hx, hstate, fun w p hw hs hp => ?_, fun b hb => hreg b (fun e => hb (by rw [e]; exact List.mem_singleton_self _))⟩
    have hstage : (s.tileWoken u).stage u w = stCal := (rd_wr_ne _ _ _ _ _ _ (by simp only [WL_SETPT, PH_PWR, wlBase]; omega)).trans hs
    exact calStarts_measures hw hstage hp

/-- Settles O51: the host's votes by what wakes and votes of a tile leave standing, the gate controls by a gate cause's own laws, parks and wakes by
their parts. -/
theorem votesGate : Obligations.VotesGate := by
  unfold Obligations.VotesGate
  exact ⟨fun u d s _ ht => votesGate_low u d s ht, fun u d s _ ht => votesGate_high u d s ht, fun u d s hq ha _ ht => votesGate_hold u d s hq ha ht,
    voteGate_gates, wakeGraceExpiry_gates, gateControlRelease_frees, greqRelease_frees, votedPark_parks, primingOnWake_primes, pumphouseWakeDone_wakes⟩

end Sys2Proof.Machine

/-! PROOFS. The converters' host writes: calibration, injected sequences, averages and low-power mode (R241, R243, R249-R252). -/

namespace Sys2Proof.Machine

open Sys2Proof

section
variable {s : State} {t n : Nat}

/-! ### Lines of the register index of a Pumphouse -/

theorem place_phBase {off : Nat} (ht : t < 96) (hoff : off < 0x1000) : place (phBase t + off) = .pumphouse t off := by
  have hlo : ¬ phBase t + off < 0x100000 := by simp only [phBase]; omega
  have hhi : phBase t + off < 0xF00000 := by simp only [phBase]; omega
  have hdiv : (phBase t + off - 0x100000) / 0x10000 = t := by simp only [phBase]; omega
  have hmod : (phBase t + off - 0x100000) % 0x10000 = off := by simp only [phBase]; omega
  simp only [place, if_neg hlo, if_pos hhi, hdiv, hmod, phPlace, if_pos hoff]

/-- A line of the Pumphouse's first registers is found without counting tiles. -/
theorem rowOf_pump {off : Nat} (ht : t < 96) (hoff : off < 0x1000) (h : (s.rowOf (phBase t + off)).isSome = true) :
    s.rowOf (phBase t + off) = findRow pumphouseRows 0 off := by
  have hfix : ∀ r ∈ pumphouseRows, r.perTile = 0 := by decide
  have hrow : findRow pumphouseRows s.tileCount off = findRow pumphouseRows 0 off := by
    unfold findRow
    refine List.find?_congr fun r hr => ?_
    simp only [RegRow.holds, hfix r hr, Nat.zero_mul]
  simp only [State.rowOf, place_phBase ht hoff, hrow] at h ⊢
  split_ifs at h ⊢
  · rfl
  · cases h

theorem plainWrite_row {a : Nat} {r : RegRow} (h : s.rowOf a = some r) (d : Word) : s.plainWrite a d = s.setReg a (plainWord r a d (s.reg a)) := by
  simp only [State.plainWrite, h]

/-- A writable field takes the written word's value. -/
theorem plainWrite_takes {a : Nat} {r : RegRow} {g : Fld} (h : s.rowOf a = some r) (hc : r.cnt = 0)
    (hg : ∀ i, i < g.width → (BitVec.ofNat 64 r.rw).getLsbD (g.lo + i) = true ∧ (BitVec.ofNat 64 r.w1c).getLsbD (g.lo + i) = false)
    (hw : g.lo + g.width ≤ 64) (d : Word) : (s.plainWrite a d).rd a g = g.get d := by
  rw [plainWrite_row h, rd_setReg_same]
  exact plainWord_get hc hg hw _ _ _

/-! ### Hidden state of the converters -/

@[simp] theorem updSar_same (f : SarX → SarX) : (s.updSar t f).sar t = f (s.sar t) := by
  show ((s.updTile t (fun x => { x with sar := f x.sar })).tile t).sar = _
  rw [updTile_same]
  rfl

theorem setConv_conv (x : SarX) {n m : Nat} (c : Conv) (hn : n < 4) (hm : m < 4) : (x.setConv n c).conv m = if m = n then c else x.conv m := by
  have h4 : ∀ {k : Nat}, k < 4 → k = 0 ∨ k = 1 ∨ k = 2 ∨ k = 3 := by omega
  rcases h4 hn with rfl | rfl | rfl | rfl <;> rcases h4 hm with rfl | rfl | rfl | rfl <;> rfl

theorem updConv_conv {m : Nat} (f : Conv → Conv) (hn : n < 4) (hm : m < 4) :
    (s.updConv t n f).conv t m = if m = n then f (s.conv t n) else s.conv t m := by
  rw [State.conv, State.updConv, updSar_same, setConv_conv _ _ hn hm]
  rfl

theorem updConv_tiles (f : Conv → Conv) : { s.updConv t n f with tiles := [] } = { s with tiles := [] } := rfl

/-! ### Calibration (R241, R243) -/

theorem calConvs_lt {m : Nat} (h : m ∈ s.calConvs t) : m < 4 := by
  unfold State.calConvs at h
  split at h
  · rw [List.mem_singleton.mp h]; decide
  · simp only [List.mem_cons, List.not_mem_nil, or_false] at h
    omega

theorem calibrate_tiles : { s.calibrate t with tiles := [] } = { s with tiles := [] } :=
  each_keeps (fun u => { u with tiles := [] }) (s.calConvs t) (fun u n => u.updConv t n (fun c => { c with cal := 1 })) (fun _ _ => rfl) s

theorem calibrate_due {m : Nat} (hm : m < 4) (h : s.lpMode t = false ∨ m = 2) : ((s.calibrate t).conv t m).cal = 1 := by
  have hmem : m ∈ s.calConvs t := by
    unfold State.calConvs
    split
    next hl =>
      rcases h with h | h
      · rw [h] at hl; cases hl
      · rw [h]; exact List.mem_singleton_self _
    · simp only [List.mem_cons, List.not_mem_nil, or_false]
      omega
  refine each_brings (fun u => (u.conv t m).cal = 1) (s.calConvs t) (fun u n => u.updConv t n (fun c => { c with cal := 1 })) m hmem
    (fun u => ?_) (fun u k hk hu => ?_) s
  · rw [updConv_conv _ hm hm, if_pos rfl]
  · rw [updConv_conv _ (calConvs_lt hk) hm]
    split
    · rfl
    · exact hu

theorem winOffset_reg (w : Nat) (x : Int) {b : Nat} (h : b ≠ AD_WIN t w) : (s.winOffset t w x).reg b = s.reg b := by
  unfold State.winOffset
  dsimp only
  split
  · exact (reg_wr_ne _ _ _ _ _ h).trans (reg_wr_ne _ _ _ _ _ h)
  · exact reg_wr_ne _ _ _ _ _ h

theorem winOffset_rest (w : Nat) (x : Int) : { s.winOffset t w x with regs := s.regs } = s := by
  unfold State.winOffset
  dsimp only
  split <;> rfl

theorem winOffset_offset (w : Nat) (x : Int) : (s.winOffset t w x).rdi (AD_WIN t w) AD_WIN.OFFSET = clampI (-127) 127 (roundDiv x 8) := by
  have hfit : -127 ≤ clampI (-127) 127 (roundDiv x 8) ∧ clampI (-127) 127 (roundDiv x 8) ≤ 127 := by unfold clampI; omega
  have hset : (s.wri (AD_WIN t w) AD_WIN.OFFSET (clampI (-127) 127 (roundDiv x 8))).rdi (AD_WIN t w) AD_WIN.OFFSET = clampI (-127) 127 (roundDiv x 8) :=
    rdi_wri_same (AD_WIN t w) AD_WIN.OFFSET _ (by decide) (by decide) (by simp only [AD_WIN.OFFSET, Fld.width]; omega)
      (by simp only [AD_WIN.OFFSET, Fld.width]; omega)
  unfold State.winOffset
  dsimp only
  split
  · exact (rdi_wr_fld _ _ _ _ _ _ rfl rfl).trans hset
  · exact hset

end

theorem adWinCal_stores (u w : Nat) (d : Word) (sum : Int) (s : State) (hq : s.quiet) (ha : s.alone) (ht : s.takes (AD_WIN u w) d)
    (hc : AD_WIN.CAL.get d = 1) (hok : s.wellOk u w = true) (hd : s.stage u w = stDry) : ∃ t, exec (.adWinCal u w d sum) s = .next t ∧
      t.rdi (AD_WIN u w) AD_WIN.OFFSET = clampI (-127) 127 (roundDiv sum 8) ∧ State.sameBut [AD_WIN u w] s t ∧ s.onlyRegsPort t ∧
      t.port = (s.answered rOkay 0).port := by
  have he : s.adWinWrite u w d sum = (s.plainWrite (AD_WIN u w) d).winOffset u w sum := if_pos ⟨hc, hok, hd⟩
  have hrest : { s.adWinWrite u w d sum with regs := s.regs } = s := by
    rw [he]
    have h1 := winOffset_rest (s := s.plainWrite (AD_WIN u w) d) (t := u) w sum
    have h2 := plainWrite_rest s (AD_WIN u w) d
    rw [← h1] at h2
    exact h2
  have hport : (s.adWinWrite u w d sum).port = s.port := (congrArg (·.port) hrest :)
  refine ⟨_, hostOp_effect (show exec (.adWinCal u w d sum) s = hostOp s (AD_WIN u w) d (·.adWinWrite u w d sum) from rfl) ht rfl
    (show (s.adWinWrite u w d sum).port.outstanding.length ≤ 1 by rw [hport]; exact ha) ((congrArg (·.fault.now) hrest :).trans hq), ?_, fun b hb => ?_, ?_, ?_⟩
  · show (s.adWinWrite u w d sum).rdi _ _ = _
    rw [he]
    exact winOffset_offset w sum
  · have hne : b ≠ AD_WIN u w := fun e => hb (by rw [e]; exact List.mem_singleton_self _)
    show (s.adWinWrite u w d sum).reg b = _
    rw [he]
    exact (winOffset_reg w sum hne).trans (plainWrite_reg _ _ _ d hne)
  · have hp := congrArg (fun v : State => { v with port := s.port }) hrest
    exact hp
  · show ((s.adWinWrite u w d sum).answered rOkay 0).port = _
    simp only [State.answered, hport]

theorem calNow_calibrates (u : Nat) (d : Word) (s : State) (hq : s.quiet) (ha : s.alone) (ht : s.takes (AD_CTRL u) d) (hc : AD_CTRL.CAL_NOW.get d = 1)
    (hl : AD_CTRL.LP_INHIBIT.get d = 0) : ∃ t, exec (.calNow u d) s = .next t ∧
      (∀ n, n < 4 → (s.lpMode u = false ∨ n = 2) → (t.conv u n).cal = 1) ∧ State.sameBut [AD_CTRL u] s t ∧
      t.port = (s.answered rOkay 0).port := by
  have he : s.adCtrlWrite u d = (s.plainWrite (AD_CTRL u) d).calibrate u := by
    unfold State.adCtrlWrite
    dsimp only
    rw [if_pos hc, if_neg (by rw [hl]; decide)]
  have hreg : ∀ b, b ≠ AD_CTRL u → (s.plainWrite (AD_CTRL u) d).reg b = s.reg b := fun b => plainWrite_reg s (AD_CTRL u) b d
  have hport := plainWrite_port s (AD_CTRL u) d
  have hfault := plainWrite_fault s (AD_CTRL u) d
  generalize s.plainWrite (AD_CTRL u) d = v at he hreg hport hfault
  have hcal := calibrate_tiles (s := v) (t := u)
  rw [← he] at hcal
  have hport : (s.adCtrlWrite u d).port = s.port := (congrArg (·.port) hcal :).trans hport
  have hlp : v.lpMode u = s.lpMode u := flag_of_reg (hreg _ (by simp only [AD_STAT, AD_CTRL]; omega)) _
  refine ⟨_, hostOp_effect (show exec (.calNow u d) s = hostOp s (AD_CTRL u) d (·.adCtrlWrite u d) from rfl) ht rfl
    (show (s.adCtrlWrite u d).port.outstanding.length ≤ 1 by rw [hport]; exact ha)
    ((congrArg (·.fault.now) hcal :).trans ((congrArg FaultX.now hfault).trans hq)), fun n hn h => ?_, fun b hb => ?_, ?_⟩
  · show ((s.adCtrlWrite u d).conv u n).cal = 1
    rw [he]
    exact calibrate_due hn (hlp.symm ▸ h)
  · exact (congrArg (·.reg b) hcal :).trans (hreg b (fun e => hb (by rw [e]; exact List.mem_singleton_self _)))
  · show ((s.adCtrlWrite u d).answered rOkay 0).port = _
    simp only [State.answered, hport]

/-! ### Low-power mode (R252) -/

/-- The index's line of AD_CTRL. -/
def adCtrlRow : RegRow := ⟨1, 0xC20, 1, 0, 1, 0, 0x8, 0x0, 0x4, 0xFFFFFFFFFFFFFFF3, 0⟩

theorem adCtrl_row {u : Nat} {d : Word} {s : State} (hu : u < 96) (ht : s.takes (AD_CTRL u) d) : s.rowOf (AD_CTRL u) = some adCtrlRow :=
  rowOf_pump hu (by decide) ht.2.1

theorem lpInhibit_ends (u : Nat) (d : Word) (s : State) (hq : s.quiet) (ha : s.alone) (hu : u < 96) (ht : s.takes (AD_CTRL u) d)
    (hl : AD_CTRL.LP_INHIBIT.get d = 1) (hc : AD_CTRL.CAL_NOW.get d = 0) (hm : s.lpMode u = true) :
    ∃ t, exec (.lpInhibitWrite u d) s = .next t ∧ t.lpMode u = false ∧
      t.rd (AD_STAT u) AD_STAT.CONV_ON = 15 ∧ t.flag (AD_CTRL u) AD_CTRL.LP_INHIBIT = true ∧
      State.sameBut [AD_CTRL u, AD_STAT u] s t ∧ t.port = (s.answered rOkay 0).port := by
  have hne : AD_CTRL u ≠ AD_STAT u := by simp only [AD_STAT, AD_CTRL]; omega
  have he : s.adCtrlWrite u d = (s.plainWrite (AD_CTRL u) d).fullPower u := by
    unfold State.adCtrlWrite
    dsimp only
    rw [if_neg (by rw [hc]; decide), if_pos hl]
  have hreg : ∀ b, b ≠ AD_CTRL u → (s.plainWrite (AD_CTRL u) d).reg b = s.reg b := fun b => plainWrite_reg s (AD_CTRL u) b d
  have hport := plainWrite_port s (AD_CTRL u) d
  have hfault := plainWrite_fault s (AD_CTRL u) d
  have hinh : (s.plainWrite (AD_CTRL u) d).rd (AD_CTRL u) AD_CTRL.LP_INHIBIT = 1 :=
    (plainWrite_takes (adCtrl_row hu ht) rfl (by decide) (by decide) d).trans hl
  generalize s.plainWrite (AD_CTRL u) d = v at he hreg hport hfault hinh
  have hfull : v.fullPower u = ((v.wr (AD_STAT u) AD_STAT.LP 0).wr (AD_STAT u) AD_STAT.CONV_ON 0xF).updTile u
      (fun x => { x with sar := { x.sar with c2 := { x.sar.c2 with pos := 0 } } }) :=
    if_pos ((flag_of_reg (hreg _ hne.symm) _).trans hm)
  rw [hfull] at he
  have hx := hostOp_effect (show exec (.lpInhibitWrite u d) s = hostOp s (AD_CTRL u) d (·.adCtrlWrite u d) from rfl) ht he
    (show v.port.outstanding.length ≤ 1 by rw [hport]; exact ha) (show v.fault.now = [] from (congrArg FaultX.now hfault).trans hq)
  refine ⟨_, hx, (flag_wr_fld _ _ _ _ _ _ rfl rfl).trans (flag_wr_zero _ _ _ rfl), rd_wr_same _ _ _ _ (by decide), ?_, fun b hb => ?_, ?_⟩
  · exact (flag_wr_ne _ _ _ _ _ _ hne).trans ((flag_wr_ne _ _ _ _ _ _ hne).trans (by rw [State.flag, hinh]; rfl))
  · simp only [List.mem_cons, List.not_mem_nil, or_false, not_or] at hb
    obtain ⟨h1, h2⟩ := hb
    exact (reg_wr_ne _ _ _ _ _ h2).trans ((reg_wr_ne _ _ _ _ _ h2).trans (hreg b h1))
  · show (v.answered rOkay 0).port = _
    simp only [State.answered, hport]

/-! ### The averages (R251) -/

/-- The index's line of AD_RES. -/
def adResRow : RegRow := ⟨1, 0xC80, 72, 0, 1, 0, 0xFF00000000, 0x80000000000, 0x0, 0x700000007FF, 0⟩

set_option maxRecDepth 100000 in
theorem adRes_line : ∀ ch < 128, (findRow pumphouseRows 0 (0xC80 + ch)).isSome = true → findRow pumphouseRows 0 (0xC80 + ch) = some adResRow := by
  decide

theorem adRes_row {u ch : Nat} {d : Word} {s : State} (hu : u < 96) (hch : ch < 128) (ht : s.takes (AD_RES u ch) d) :
    s.rowOf (AD_RES u ch) = some adResRow := by
  have haddr : AD_RES u ch = phBase u + (0xC80 + ch) := by rw [AD_RES]; omega
  have hsome : (s.rowOf (AD_RES u ch)).isSome = true := ht.2.1
  rw [haddr] at hsome ⊢
  have hrow := rowOf_pump hu (by omega) hsome
  rw [hrow] at hsome ⊢
  exact adRes_line ch hch hsome

theorem tget_setAcc (s : State) (t ch v : Nat) : (s.setAcc t ch v).accOf t ch = v := by
  rw [State.accOf, State.setAcc, updSar_same]
  exact tget_tset_self _ _ _ _

theorem adResConfig_restarts (u ch : Nat) (d : Word) (s : State) (hq : s.quiet) (ha : s.alone) (hu : u < 96) (hch : ch < 128) (ht : s.takes (AD_RES u ch) d)
    (hk : AD_RES.AVG_K.get d ≠ s.rd (AD_RES u ch) AD_RES.AVG_K) : ∃ t, exec (.adResConfigWrite u ch d) s = .next t ∧
      t.rd (AD_RES u ch) AD_RES.AVG_K = AD_RES.AVG_K.get d ∧ t.rd (AD_RES u ch) AD_RES.SHIFT = AD_RES.SHIFT.get d ∧
      t.rd (AD_RES u ch) AD_RES.COUNT = 0 ∧ t.accOf u ch = 0 ∧ State.sameBut [AD_RES u ch] s t := by
  have hrow := adRes_row hu hch ht
  have he : s.adResWrite u ch d = ((s.plainWrite (AD_RES u ch) d).wr (AD_RES u ch) AD_RES.COUNT 0).setAcc u ch 0 := if_neg (fun h => hk h.1)
  have hx := hostOp_effect (show exec (.adResConfigWrite u ch d) s = hostOp s (AD_RES u ch) d (·.adResWrite u ch d) from rfl) ht rfl
    (show (s.adResWrite u ch d).port.outstanding.length ≤ 1 by rw [he]; exact (congrArg (·.outstanding.length ≤ 1) (plainWrite_port s _ _)).mpr ha)
    (show (s.adResWrite u ch d).fault.now = [] by rw [he]; exact (congrArg FaultX.now (plainWrite_fault s _ d)).trans hq)
  rw [he] at hx
  refine ⟨_, hx, ?_, ?_, rd_wr_same _ _ _ _ (by decide), tget_setAcc _ u ch 0, fun b hb => ?_⟩
  · exact (rd_wr_fld _ _ _ _ _ _ rfl rfl).trans (plainWrite_takes hrow rfl (by decide) (by decide) d)
  · exact (rd_wr_fld _ _ _ _ _ _ rfl rfl).trans (plainWrite_takes hrow rfl (by decide) (by decide) d)
  · have hne : b ≠ AD_RES u ch := fun e => hb (by rw [e]; exact List.mem_singleton_self _)
    exact (reg_wr_ne _ _ _ _ _ hne).trans (plainWrite_reg _ _ _ d hne)

end Sys2Proof.Machine

/-! PROOFS. Conversions, injected sequences and bursts, and the obligation on the converters (R243-R252). -/

namespace Sys2Proof.Machine

open Sys2Proof

section
variable {s : State} {t n : Nat}

/-! ### What a conversion feeds (R245, R251) -/

theorem trimmed_le (raw : Nat) : s.trimmed t n raw ≤ 4095 := by
  unfold State.trimmed clampI
  dsimp only
  omega

theorem setAcc_conv (ch v m : Nat) : (s.setAcc t ch v).conv t m = s.conv t m := by
  rw [State.conv, State.setAcc, updSar_same]
  rfl

theorem accumulate_reg (ch code : Nat) {b : Nat} (h : b ≠ AD_RES t ch) : (s.accumulate t ch code).reg b = s.reg b := by
  unfold State.accumulate
  dsimp only
  split
  · exact (reg_wr_ne _ _ _ _ _ h).trans (reg_wr_ne _ _ _ _ _ h)
  split
  · exact (reg_wr_ne _ _ _ _ _ h).trans ((reg_wr_ne _ _ _ _ _ h).trans ((reg_wr_ne _ _ _ _ _ h).trans ((reg_wr_ne _ _ _ _ _ h).trans (reg_wr_ne _ _ _ _ _ h))))
  · exact (reg_wr_ne _ _ _ _ _ h).trans ((reg_wr_ne _ _ _ _ _ h).trans ((reg_wr_ne _ _ _ _ _ h).trans (reg_wr_ne _ _ _ _ _ h)))

/-- The code of a conversion stands in LAST. -/
theorem accumulate_last (ch : Nat) {code : Nat} (h : code ≤ 4095) : (s.accumulate t ch code).rd (AD_RES t ch) AD_RES.LAST = code := by
  have hlast : (s.wr (AD_RES t ch) AD_RES.LAST code).rd (AD_RES t ch) AD_RES.LAST = code :=
    (rd_wr_same _ _ _ _ (by decide)).trans (Nat.mod_eq_of_lt (lt_of_le_of_lt h (by decide)))
  unfold State.accumulate
  dsimp only
  split
  · exact (rd_wr_fld _ _ _ _ _ _ rfl rfl).trans hlast
  split
  · exact (rd_wr_fld _ _ _ _ _ _ rfl rfl).trans ((rd_wr_fld _ _ _ _ _ _ rfl rfl).trans ((rd_wr_fld _ _ _ _ _ _ rfl rfl).trans
      ((rd_wr_fld _ _ _ _ _ _ rfl rfl).trans hlast)))
  · exact (rd_wr_fld _ _ _ _ _ _ rfl rfl).trans ((rd_wr_fld _ _ _ _ _ _ rfl rfl).trans ((rd_wr_fld _ _ _ _ _ _ rfl rfl).trans hlast))

theorem accumulate_fault (ch code : Nat) : (s.accumulate t ch code).fault = s.fault := by
  unfold State.accumulate
  dsimp only
  split
  · rfl
  split <;> rfl

theorem accumulate_conv (ch code m : Nat) : (s.accumulate t ch code).conv t m = s.conv t m := by
  unfold State.accumulate
  dsimp only
  split
  · exact setAcc_conv ch _ m
  split
  · exact setAcc_conv ch 0 m
  · exact setAcc_conv ch 0 m

section
variable {ch : Nat} (hch : ch < 0x30) (code : Nat)
include hch

theorem consume_reg {b : Nat} (h : b ≠ PH_BUS t) : (s.consume t ch code).reg b = s.reg b := by
  unfold State.consume
  split
  · rfl
  split
  · rfl
  split
  · exact reg_wr_ne _ _ _ _ _ h
  · rw [if_neg (by omega)]

theorem consume_fault : (s.consume t ch code).fault = s.fault := by
  unfold State.consume
  split
  · rfl
  split
  · rfl
  split
  · rfl
  · rw [if_neg (by omega)]

theorem consume_conv (m : Nat) : (s.consume t ch code).conv t m = s.conv t m := by
  unfold State.consume
  split
  · rfl
  split
  · rfl
  split
  · rw [State.conv, State.sar, updTile_same]
    rfl
  · rw [if_neg (by omega)]

end

theorem consume_bus {code : Nat} (h : code ≤ 4095) : (s.consume t chBus code).rd (PH_BUS t) PH_BUS.BUS = 2 * code :=
  (rd_wr_same _ _ _ _ (by decide)).trans (Nat.mod_eq_of_lt (by
    show 2 * code < 65536
    omega))

/-- A channel of no rotation is converted as it is. -/
theorem rotate_fixed {ch : Nat} (hch : ch < 0x30) : s.rotate t ch = (ch, s) := by
  unfold State.rotate
  rw [if_neg (by show ch ≠ 0x7D; omega), if_neg (by show ch ≠ 0x7E; omega)]

end

theorem sarConversion_stores (u n raw ch : Nat) (s : State) (hq : s.quiet) (hok : s.tileOk u = true) (hn : n < 3)
    (hon : (s.rd (AD_STAT u) AD_STAT.CONV_ON).testBit n = true) (hcal : (s.conv u n).cal = 0) (hl : (s.regular u n)[(s.conv u n).pos]? = some ch)
    (hch : ch < 0x30) : ∃ t, exec (.sarConversion u n raw) s = .next t ∧ t.rd (AD_RES u ch) AD_RES.LAST = s.trimmed u n raw ∧
      (t.conv u n).pos = (if (s.conv u n).pos + 1 < (s.regular u n).length then (s.conv u n).pos + 1 else 0) ∧
      (ch = chBus → t.rd (PH_BUS u) PH_BUS.BUS = 2 * s.trimmed u n raw) ∧ State.sameBut [AD_RES u ch, PH_BUS u] s t := by
  obtain ⟨hpos, hat⟩ := List.getElem?_eq_some_iff.mp hl
  have hget : (s.regular u n).getD (s.conv u n).pos 0 = ch := by rw [List.getD_eq_getElem?_getD, hl]; rfl
  have hne : s.regular u n ≠ [] := List.ne_nil_of_length_pos (Nat.lt_of_le_of_lt (Nat.zero_le _) hpos)
  have hcode := trimmed_le (s := s) (t := u) (n := n) raw
  have hbus : AD_RES u ch ≠ PH_BUS u := by simp only [AD_RES, PH_BUS]; omega
  have he : s.sarConversion u n raw = ((s.updConv u n (fun c => { c with pos := nextPos (s.conv u n).pos (s.regular u n).length })).accumulate u ch
      (s.trimmed u n raw)).consume u ch (s.trimmed u n raw) := by
    have hslot : s.regularSlot u n raw ch (nextPos (s.conv u n).pos (s.regular u n).length) = ((s.updConv u n (fun c => { c with
        pos := nextPos (s.conv u n).pos (s.regular u n).length })).accumulate u ch (s.trimmed u n raw)).consume u ch (s.trimmed u n raw) := by
      rw [State.regularSlot, rotate_fixed hch]
      rfl
    rw [← hslot, State.sarConversion, hok, show bit (s.rd (AD_STAT u) AD_STAT.CONV_ON) n = true from hon, decide_eq_true (show n < 4 by omega)]
    have hn3 : n ≠ 3 := by omega
    simp only [Bool.and_self, if_true, if_pos hpos, hget, if_neg hn3, hcal, ne_eq, not_true, false_and, if_false, if_neg hne]
  have hx : exec (.sarConversion u n raw) s = .next (s.sarConversion u n raw) := done_quiet _ (by
    rw [he]
    exact (congrArg FaultX.now ((consume_fault hch _).trans (accumulate_fault ch _))).trans hq)
  rw [he] at hx
  refine ⟨_, hx, (rd_of_reg (consume_reg hch _ hbus) _).trans (accumulate_last ch hcode), ?_, fun hb => ?_, fun b hb => ?_⟩
  · rw [consume_conv hch, accumulate_conv, updConv_conv _ (show n < 4 by omega) (show n < 4 by omega), if_pos rfl]
    rfl
  · subst hb
    exact consume_bus hcode
  · simp only [List.mem_cons, List.not_mem_nil, or_false, not_or] at hb
    obtain ⟨h1, h2⟩ := hb
    exact (consume_reg hch _ h2).trans (accumulate_reg ch _ h1)

/-! ### Injected sequences (R249) -/

theorem injectTrigger_queues (u n src w : Nat) (s : State) (hq : s.quiet) (hok : s.tileOk u = true) (hn : n < 2) (h2 : 2 ≤ src) (h6 : src ≤ 6)
    (ht : s.rd (AD_INJ u n) AD_INJ.TRIG = src) (hw : src = 2 ∨ s.rd (AD_INJ u n) AD_INJ.SEL = w) (hi : s.flag (AD_INJ u n) AD_INJ.ILV = false)
    (hu : s.flag (AD_INJ u n) AD_INJ.URGENT = false) (hinj : (s.sar u).inj = none) (hp : (s.sar u).injPend = []) (hs : s.injected u n ≠ [])
    (hl : s.lpMode u = false) (hr : s.regular u 3 ≠ []) :
    ∃ t, exec (.injectTrigger u n src w) s = .next t ∧ (t.sar u).injPend = [(n, 0)] ∧ State.sameBut [] s t := by
  have htrig : s.injectTrigger u n src w = s.seqTrigger u n := by
    rw [State.injectTrigger, if_pos ⟨hok, hn, h2, h6, ht, hw⟩, State.adTrigger, if_neg (by rw [hi]; exact Bool.noConfusion)]
  have hseq : s.seqTrigger u n = (s.updSar u (fun x => x.newRun n)).updSar u (fun x => { x with injPend := x.injPend ++ [(n, 0)] }) := by
    have hidle : (s.regular u 3 == []) = false := beq_eq_false_iff_ne.mpr hr
    rw [State.seqTrigger, hinj, hp, hu, hl, hidle]
    simp only [Option.any_none, List.any_nil, Bool.false_eq_true, or_self, if_false, if_neg hs, Bool.or_self]
  have he := htrig.trans hseq
  have hx : exec (.injectTrigger u n src w) s = .next (s.injectTrigger u n src w) := done_quiet _ (by rw [he]; exact hq)
  rw [he] at hx
  refine ⟨_, hx, ?_, fun _ _ => rfl⟩
  have hnew : ((s.sar u).newRun n).injPend = [] := by
    rw [← hp, SarX.newRun]
    split <;> rfl
  rw [updSar_same, updSar_same, hnew]
  rfl

/-- The index's line of AD_INJ. -/
def adInjRow : RegRow := ⟨1, 0xC32, 2, 0, 1, 0, 0xFFFF3C0FFFFFFF, 0x0, 0x10000000, 0xFF0000C3E0000000, 0⟩

theorem adInj_row {u n : Nat} {d : Word} {s : State} (hu : u < 96) (hn : n < 2) (ht : s.takes (AD_INJ u n) d) : s.rowOf (AD_INJ u n) = some adInjRow := by
  have haddr : AD_INJ u n = phBase u + (0xC32 + n) := by rw [AD_INJ]; omega
  have hline : ∀ n < 2, findRow pumphouseRows 0 (0xC32 + n) = some adInjRow := by decide
  have hsome : (s.rowOf (AD_INJ u n)).isSome = true := ht.2.1
  rw [haddr] at hsome ⊢
  exact (rowOf_pump hu (by omega) hsome).trans (hline n hn)

/-- A burst that may wait for its turn. -/
theorem burstTrigger_waits {s : State} {t n : Nat} (hl : s.lpMode t = false) (hp : (s.sar t).burstPend = []) (hb : (s.sar t).burst = none)
    (ha : (s.sar t).burstAt = none) : s.burstTrigger t n = s.updSar t (fun x => { x with burstPend := x.burstPend ++ [n] }) := by
  rw [State.burstTrigger, hl, hp, hb, ha]
  simp

theorem adGo_waits (u n : Nat) (d : Word) (s : State) (hq : s.quiet) (ha : s.alone) (hu : u < 96) (hn : n < 2) (ht : s.takes (AD_INJ u n) d)
    (hg : AD_INJ.GO.get d = 1) (htr : AD_INJ.TRIG.get d = 1) (hi : AD_INJ.ILV.get d = 1) (hl : s.lpMode u = false) (hp : (s.sar u).burstPend = [])
    (hb : (s.sar u).burst = none) (hat : (s.sar u).burstAt = none) : ∃ t, exec (.adGo u n d) s = .next t ∧ (t.sar u).burstPend = [n] ∧
      State.sameBut [AD_INJ u n] s t ∧ t.port = (s.answered rOkay 0).port := by
  have he : s.adInjWrite u n d = (s.plainWrite (AD_INJ u n) d).adTrigger u n := if_pos ⟨hg, htr⟩
  have hreg : ∀ b, b ≠ AD_INJ u n → (s.plainWrite (AD_INJ u n) d).reg b = s.reg b := fun b => plainWrite_reg s (AD_INJ u n) b d
  have hrest := plainWrite_rest s (AD_INJ u n) d
  have hilv : (s.plainWrite (AD_INJ u n) d).rd (AD_INJ u n) AD_INJ.ILV = 1 :=
    (plainWrite_takes (adInj_row hu hn ht) rfl (by decide) (by decide) d).trans hi
  generalize s.plainWrite (AD_INJ u n) d = v at he hreg hrest hilv
  have hsar : v.sar u = s.sar u := (congrArg (·.sar u) hrest :)
  have hport : v.port = s.port := (congrArg (·.port) hrest :)
  have hburst : v.adTrigger u n = v.updSar u (fun x => { x with burstPend := x.burstPend ++ [n] }) := by
    rw [State.adTrigger, if_pos (by rw [State.flag, hilv]; rfl)]
    refine burstTrigger_waits ?_ (by rw [hsar, hp]) (by rw [hsar, hb]) (by rw [hsar, hat])
    exact (flag_of_reg (hreg _ (by simp only [AD_STAT, AD_INJ]; omega)) _).trans hl
  rw [hburst] at he
  have hx := hostOp_effect (show exec (.adGo u n d) s = hostOp s (AD_INJ u n) d (·.adInjWrite u n d) from rfl) ht he
    (show v.port.outstanding.length ≤ 1 by rw [hport]; exact ha) (show v.fault.now = [] from (congrArg (·.fault.now) hrest :).trans hq)
  refine ⟨_, hx, ?_, fun b hb => hreg b (fun e => hb (by rw [e]; exact List.mem_singleton_self _)), ?_⟩
  · show ((v.updSar u (fun x => { x with burstPend := x.burstPend ++ [n] })).sar u).burstPend = [n]
    rw [updSar_same, hsar, hp]
    rfl
  · show (v.answered rOkay 0).port = _
    simp only [State.answered, hport]

/-! ### Bursts (R250) -/

section
variable {s : State} {t n : Nat}

/-- The entries of the last burst clear. -/
theorem burstCleared (s : State) (t : Nat) : let v := s.each (List.range 12) (fun u k => u.setReg (AD_BURST t k) 0)
    (∀ k, k < 12 → v.reg (AD_BURST t k) = 0) ∧ (∀ b, b ∉ (List.range 12).map (AD_BURST t) → v.reg b = s.reg b) ∧ v.fault = s.fault := by
  refine ⟨fun k hk => ?_, fun b hb => ?_, each_keeps State.fault _ (fun u k => u.setReg (AD_BURST t k) 0) (fun _ _ => rfl) s⟩
  · refine each_brings (fun u => u.reg (AD_BURST t k) = 0) (List.range 12) (fun u k => u.setReg (AD_BURST t k) 0) k (List.mem_range.mpr hk)
      (fun u => ?_) (fun u j _ hu => ?_) s
    · rw [reg_setReg, if_pos rfl]
    · rw [reg_setReg]
      split
      · rfl
      · exact hu
  · refine each_mem_keeps (fun u => u.reg b) (List.range 12) (fun u k => u.setReg (AD_BURST t k) 0) (fun u k hk => ?_) s
    exact (reg_setReg _ _ _ _).trans (if_neg (fun e => hb (List.mem_map.mpr ⟨k, hk, e.symm⟩)))

end

theorem burstStart_starts (u n : Nat) (rest : List Nat) (s : State) (hq : s.quiet) (hp : (s.sar u).burstPend = n :: rest) (hb : (s.sar u).burst = none)
    (hl : s.lpMode u = false) : ∃ t, exec (.burstStart u) s = .next t ∧ (t.sar u).burst = some n ∧ (t.sar u).burstPend = rest ∧
      t.flag (AD_STAT u) AD_STAT.BURST_RUN = true ∧ (∀ k, k < 12 → t.reg (AD_BURST u k) = 0) ∧
      State.sameBut (AD_STAT u :: AD_BURST_T u :: (List.range 12).map (AD_BURST u)) s t := by
  obtain ⟨hzero, hreg, hfault⟩ := burstCleared s u
  have he : s.burstStart u = ((((s.each (List.range 12) (fun u' k => u'.setReg (AD_BURST u k) 0)).wr (AD_BURST_T u) AD_BURST_T.BEAT (s.clk.beat % 2 ^ 48)).wr
      (AD_BURST_T u) AD_BURST_T.CYCLE (min 399 ((250 - s.clk.beatLeft) * 8 / 5))).wr (AD_STAT u) AD_STAT.BURST_RUN 1).updSar u
        (fun x => { x with burst := some n, burstPend := rest, burstAt := some s.clk.ns }) := by
    simp only [State.burstStart, hp, hb, hl, Option.isNone_none, and_self, if_true]
  generalize s.each (List.range 12) (fun u' k => u'.setReg (AD_BURST u k) 0) = v at he hzero hreg hfault
  have hx : exec (.burstStart u) s = .next (s.burstStart u) := done_quiet _ (by
    rw [he]
    exact (congrArg FaultX.now hfault).trans hq)
  rw [he] at hx
  refine ⟨_, hx, by rw [updSar_same], by rw [updSar_same], flag_wr_one _ _ _ rfl, fun k hk => ?_, fun b hb => ?_⟩
  · have h1 : AD_BURST u k ≠ AD_STAT u := by simp only [AD_BURST, AD_STAT]; omega
    have h2 : AD_BURST u k ≠ AD_BURST_T u := by simp only [AD_BURST, AD_BURST_T]; omega
    exact (reg_wr_ne _ _ _ _ _ h1).trans ((reg_wr_ne _ _ _ _ _ h2).trans ((reg_wr_ne _ _ _ _ _ h2).trans (hzero k hk)))
  · simp only [List.mem_cons, not_or] at hb
    obtain ⟨h1, h2, h3⟩ := hb
    exact (reg_wr_ne _ _ _ _ _ h1).trans ((reg_wr_ne _ _ _ _ _ h2).trans ((reg_wr_ne _ _ _ _ _ h2).trans (hreg b h3)))

section
variable {s : State} {t n : Nat}

/-- What a burst's end and a waiting sequence leave of AD_STAT and of the burst. -/
def State.burstView (s : State) (t : Nat) : Bool × Bool × Option Nat :=
  (s.flag (AD_STAT t) AD_STAT.BURST_DONE, s.flag (AD_STAT t) AD_STAT.BURST_RUN, (s.sar t).burst)

theorem burstView_wr (f : Fld) (v : Nat) (h1 : f.apart AD_STAT.BURST_DONE = true) (h2 : f.apart AD_STAT.BURST_RUN = true) :
    (s.wr (AD_STAT t) f v).burstView t = s.burstView t := by
  have hd : (s.wr (AD_STAT t) f v).flag (AD_STAT t) AD_STAT.BURST_DONE = s.flag (AD_STAT t) AD_STAT.BURST_DONE := flag_wr_fld _ _ _ _ _ _ rfl h1
  have hr : (s.wr (AD_STAT t) f v).flag (AD_STAT t) AD_STAT.BURST_RUN = s.flag (AD_STAT t) AD_STAT.BURST_RUN := flag_wr_fld _ _ _ _ _ _ rfl h2
  simp only [State.burstView, hd, hr]
  rfl

theorem setInjRun_burstView : (s.setInjRun t).burstView t = s.burstView t := burstView_wr _ _ rfl rfl

theorem power3_burstView : (s.power3 t).burstView t = s.burstView t := by
  unfold State.power3
  split
  · exact burstView_wr _ _ rfl rfl
  · rfl

theorem startInj_burstView : (s.startInj t).burstView t = s.burstView t := by
  unfold State.startInj
  dsimp only
  split
  · split
    next e rest _ _ =>
      refine power3_burstView.trans (setInjRun_burstView.trans ?_)
      simp only [State.burstView, updSar_same]
      rfl
    · rfl
  · rfl

theorem startInj_reg {b : Nat} (h : b ≠ AD_STAT t) : (s.startInj t).reg b = s.reg b := by
  unfold State.startInj
  dsimp only
  split
  · split
    · unfold State.power3
      split
      · exact (reg_wr_ne _ _ _ _ _ h).trans (reg_wr_ne _ _ _ _ _ h)
      · exact reg_wr_ne _ _ _ _ _ h
    · rfl
  · rfl

theorem power3_reg {b : Nat} (h : b ≠ AD_STAT t) : (s.power3 t).reg b = s.reg b := by
  unfold State.power3
  split
  · exact reg_wr_ne _ _ _ _ _ h
  · rfl

theorem power3_fault : (s.power3 t).fault = s.fault := by
  unfold State.power3
  split <;> rfl

theorem startInj_fault : (s.startInj t).fault = s.fault := by
  unfold State.startInj
  dsimp only
  split
  · split
    · exact power3_fault
    · rfl
  · rfl

theorem injField_ok : ∀ k < 4, (injField k).ok = true ∧ (injField k).width = 16 := by decide
theorem injField_apart : ∀ i < 4, ∀ j < 4, i ≠ j → (injField i).apart (injField j) = true := by decide

/-- The results of a burst in their places. -/
theorem burstEntries (s : State) (t : Nat) (results : List Nat) {m : Nat} (hm : m ≤ 48) :
    let v := s.each (List.range m) (fun u j => u.burstEntry t j (results.getD j 0))
    (∀ j, j < m → v.rd (AD_BURST t (j / 4)) (injField (j % 4)) = s.trimmed t (2 + j % 2) (results.getD j 0)) ∧
    (∀ b, b ∉ (List.range 12).map (AD_BURST t) → v.reg b = s.reg b) ∧ v.fault = s.fault := by
  have htrim : ∀ (u : State) (k raw : Nat), u.reg (AD_TRIM t k) = s.reg (AD_TRIM t k) → u.trimmed t k raw = s.trimmed t k raw := by
    intro u k raw h
    simp only [State.trimmed, State.rd, State.rdi, h]
  have hapart : ∀ (u : State) (i j : Nat), i ≠ j → i < 48 → j < 48 → ∀ raw, (u.burstEntry t i raw).rd (AD_BURST t (j / 4)) (injField (j % 4)) =
      u.rd (AD_BURST t (j / 4)) (injField (j % 4)) := by
    intro u i j hij hi hj raw
    by_cases hd : i / 4 = j / 4
    · refine rd_wr_fld _ _ _ _ _ _ ?_ ?_
      · exact (injField_ok _ (Nat.mod_lt _ (by decide))).1
      · exact injField_apart _ (Nat.mod_lt _ (by decide)) _ (Nat.mod_lt _ (by decide)) (by omega)
    · exact rd_wr_ne _ _ _ _ _ _ (by simp only [AD_BURST]; omega)
  have hframe : ∀ (u : State) (i : Nat) (raw b : Nat), i < 48 → b ∉ (List.range 12).map (AD_BURST t) → (u.burstEntry t i raw).reg b = u.reg b :=
    fun u i raw b hi hb => reg_wr_ne _ _ _ _ _ (fun e => hb (List.mem_map.mpr ⟨i / 4, List.mem_range.mpr (by omega), e.symm⟩))
  have hbeside : ∀ k, AD_TRIM t k ∈ (List.range 12).map (AD_BURST t) → k ≥ 4 := by
    intro k hk
    obtain ⟨i, -, hi⟩ := List.mem_map.mp hk
    simp only [AD_BURST, AD_TRIM] at hi
    omega
  refine ⟨fun j hj => ?_, fun b hb => ?_, each_keeps State.fault _ (fun u j => u.burstEntry t j (results.getD j 0)) (fun _ _ => rfl) s⟩
  · have hoff : AD_TRIM t (2 + j % 2) ∉ (List.range 12).map (AD_BURST t) := fun hmem => by have := hbeside _ hmem; omega
    refine each_range_brings (fun u => u.reg (AD_TRIM t (2 + j % 2)) = s.reg (AD_TRIM t (2 + j % 2)))
      (fun u => u.rd (AD_BURST t (j / 4)) (injField (j % 4)) = s.trimmed t (2 + j % 2) (results.getD j 0))
      (fun u j => u.burstEntry t j (results.getD j 0)) hj (fun u hu => ?_) (fun u i hi _ hu => ?_) (fun u i hi hij hu => ?_) s rfl
    · obtain ⟨hok, hwidth⟩ := injField_ok (j % 4) (Nat.mod_lt _ (by decide))
      refine (rd_wr_same _ _ _ _ hok).trans ?_
      rw [hwidth, htrim u _ _ hu]
      exact Nat.mod_eq_of_lt (lt_of_le_of_lt (trimmed_le _) (by decide))
    · exact (hframe u i _ _ (by omega) hoff).trans hu
    · exact (hapart u i j hij (by omega) (by omega) _).trans hu
  · exact each_mem_keeps (fun u => u.reg b) (List.range m) (fun u j => u.burstEntry t j (results.getD j 0))
      (fun u j hj => hframe u j _ b (lt_of_lt_of_le (List.mem_range.mp hj) hm) hb) s

theorem burstLen_le : s.burstLen t n ≤ 24 := by
  unfold State.burstLen
  dsimp only
  split <;> omega

end

/-- The converters behind a burst: converter 2 has lent its slots. -/
def State.burstOver (s : State) (t n : Nat) (x : SarX) : SarX := { x with
  burst := none
  dieRot := (x.dieRot + s.burstLen t n) % 24
  c2 := { x.c2 with pos := if s.lpMode t then x.c2.pos else (x.c2.pos + s.burstLen t n) % 25 } }

theorem burstDone_ends (u n : Nat) (results : List Nat) (s : State) (hq : s.quiet) (hb : (s.sar u).burst = some n) :
    ∃ t, exec (.burstDone u results) s = .next t ∧ (t.sar u).burst = none ∧ t.flag (AD_STAT u) AD_STAT.BURST_DONE = true ∧
      t.flag (AD_STAT u) AD_STAT.BURST_RUN = false ∧
      (∀ j, j < 2 * s.burstLen u n → t.rd (AD_BURST u (j / 4)) (injField (j % 4)) = s.trimmed u (2 + j % 2) (results.getD j 0)) ∧
      State.sameBut (AD_STAT u :: (List.range 12).map (AD_BURST u)) s t := by
  have hlen := burstLen_le (s := s) (t := u) (n := n)
  obtain ⟨hres, hreg, hfault⟩ := burstEntries s u results (show 2 * s.burstLen u n ≤ 48 by omega)
  generalize hv : s.each (List.range (2 * s.burstLen u n)) (fun v j => v.burstEntry u j (results.getD j 0)) = v at hres hreg hfault
  obtain ⟨f, hf, he⟩ : ∃ f : SarX → SarX, (∀ x, (f x).burst = none) ∧ s.burstDone u results =
      ((((((v.wr (AD_STAT u) AD_STAT.BURST_DONE 1).wr (AD_STAT u) AD_STAT.BURST_RUN 0).updSar u f).startInj u).setInjRun u).power3 u) := by
    refine ⟨s.burstOver u n, fun _ => rfl, ?_⟩
    rw [State.burstDone, hb, ← hv]
    rfl
  have hx : exec (.burstDone u results) s = .next (s.burstDone u results) := done_quiet _ (by
    rw [he, power3_fault]
    exact (congrArg FaultX.now startInj_fault).trans ((congrArg FaultX.now hfault).trans hq))
  rw [he] at hx
  have hview := power3_burstView.trans (setInjRun_burstView.trans (startInj_burstView (t := u)
    (s := ((v.wr (AD_STAT u) AD_STAT.BURST_DONE 1).wr (AD_STAT u) AD_STAT.BURST_RUN 0).updSar u f)))
  simp only [State.burstView, Prod.mk.injEq] at hview
  obtain ⟨hdone, hrun, hburst⟩ := hview
  have hframe : ∀ b, b ≠ AD_STAT u → (((((((v.wr (AD_STAT u) AD_STAT.BURST_DONE 1).wr (AD_STAT u) AD_STAT.BURST_RUN 0).updSar u f).startInj u).setInjRun
      u).power3 u)).reg b = v.reg b := fun b h =>
    (power3_reg h).trans ((reg_wr_ne _ _ _ _ _ h).trans ((startInj_reg h).trans ((reg_wr_ne _ _ _ _ _ h).trans (reg_wr_ne _ _ _ _ _ h))))
  refine ⟨_, hx, hburst.trans (by rw [updSar_same, hf]), hdone.trans ?_, hrun.trans (flag_wr_zero _ _ _ rfl), fun j hj => ?_, fun b hbm => ?_⟩
  · exact (flag_wr_fld _ _ _ _ _ _ rfl rfl).trans (flag_wr_one _ _ _ rfl)
  · have hne : AD_BURST u (j / 4) ≠ AD_STAT u := by simp only [AD_BURST, AD_STAT]; omega
    exact (rd_of_reg (hframe _ hne) _).trans (hres j hj)
  · simp only [List.mem_cons, not_or] at hbm
    obtain ⟨h1, h2⟩ := hbm
    exact (hframe b h1).trans (hreg b h2)

/-- Settles O46: host writes by the lines of the register index, conversions by what they feed, sequences and bursts by their own queues. -/
theorem convertersRun : Obligations.ConvertersRun := by
  unfold Obligations.ConvertersRun
  exact ⟨fun u w d sum s hq ha _ ht => adWinCal_stores u w d sum s hq ha ht, fun u d s hq ha _ ht => calNow_calibrates u d s hq ha ht,
    sarConversion_stores, injectTrigger_queues, adGo_waits, burstStart_starts, burstDone_ends, adResConfig_restarts, lpInhibit_ends⟩

end Sys2Proof.Machine

/-! PROOFS. Loading, binding, starting and stopping a slice (R201-R203). -/

namespace Sys2Proof.Machine

open Sys2Proof

section
variable {s u : State} {t l : Nat}

/-! ### A slice and its streams -/

@[simp] theorem updDs_same (f : SliceX → SliceX) : (s.updDs t f).ds t = f (s.ds t) := by
  show ((s.updTile t (fun x => { x with ds := f x.ds })).tile t).ds = _
  rw [updTile_same]
  rfl

theorem ds_of_tiles (h : u.tiles = s.tiles) (t : Nat) : u.ds t = s.ds t := by simp only [State.ds, State.tile, h]

theorem stream_of_ds (h : (u.ds t).streams = (s.ds t).streams) (l : Nat) : u.stream t l = s.stream t l := by rw [State.stream, State.stream, h]

theorem updStream_streams (f : Stream → Stream) :
    ((s.updStream t l f).ds t).streams = tset (fun _ => {}) (s.ds t).streams l (f (s.stream t l)) := by
  rw [State.updStream, State.setStream, updDs_same]

@[simp] theorem updStream_same (f : Stream → Stream) : (s.updStream t l f).stream t l = f (s.stream t l) := by
  rw [State.stream, updStream_streams]
  exact tget_tset_self _ _ _ _

theorem updStream_ne {j : Nat} (f : Stream → Stream) (h : j ≠ l) : (s.updStream t l f).stream t j = s.stream t j := by
  rw [State.stream, updStream_streams]
  exact tget_tset_ne _ _ _ _ _ h

/-- A table that lists each of its keys once reads what was listed. -/
theorem tget_listed {V : Type} [DecidableEq V] (d : Nat → V) (f : Nat → V) {l : List Nat} {k : Nat} (h : k ∈ l) : tget d (l.map (fun j => (j, f j))) k = f k := by
  induction l with
  | nil => cases h
  | cons j l ih =>
    rw [List.map_cons, tget]
    by_cases hk : k = j
    · rw [if_pos hk, hk]
    · rw [if_neg hk]
      exact ih ((List.mem_cons.mp h).resolve_left hk)

/-! ### The window (R201) -/

/-- A window word stores its two halves. -/
theorem storeEntries_entry (i : Nat) (d : Word) :
    (s.storeEntries t i d).entry t i = d.extractLsb' 32 32 ∧ (s.storeEntries t i d).entry t (i + 1) = d.extractLsb' 0 32 := by
  simp only [State.entry, State.storeEntries, updDs_same, tget_tset]
  constructor
  · rw [if_neg (by omega), if_pos trivial]
  · rw [if_pos trivial]

theorem place_window {o : Nat} (ht : t < 96) (ho : o < 0x8000) : place (phBase t + 0x8000 + o) = .window t o := by
  have hlo : ¬ phBase t + 0x8000 + o < 0x100000 := by simp only [phBase]; omega
  have hhi : phBase t + 0x8000 + o < 0xF00000 := by simp only [phBase]; omega
  have hdiv : (phBase t + 0x8000 + o - 0x100000) / 0x10000 = t := by simp only [phBase]; omega
  have hmod : (phBase t + 0x8000 + o - 0x100000) % 0x10000 = 0x8000 + o := by simp only [phBase]; omega
  simp only [place, if_neg hlo, if_pos hhi, hdiv, hmod, phPlace]
  rw [if_neg (by omega), if_neg (by omega), if_neg (by omega), if_neg (by omega), if_neg (by omega), Nat.add_sub_cancel_left]

theorem unreached_window {o : Nat} (ht : t < 96) (ho : o < 0x8000) (hok : s.tileOk t = true) : s.unreached (phBase t + 0x8000 + o) = s.silent t := by
  rw [State.unreached, tileAt, place_window ht ho]
  show (s.tileOk t && s.silent t) = _
  rw [hok, Bool.true_and]

end

theorem scheduleWindow_takes (u o : Nat) (d : Word) (s : State) (hq : s.quiet) (ha : s.alone) (hu : u < 96) (ho : o < 0x8000) (hok : s.tileOk u = true) :
    (s.silent u = true → exec (.scheduleWindowWrite u o d) s = .next s) ∧
    (s.silent u = false → s.dsState u = dsUnbound → s.rd (DS_CTRL u) DS_CTRL.SRC = 0 → ∃ t, exec (.scheduleWindowWrite u o d) s = .next t ∧
      t.entry u (65536 * s.rd (DS_CTRL u) DS_CTRL.PAGE + 2 * o) = d.extractLsb' 32 32 ∧
      t.entry u (65536 * s.rd (DS_CTRL u) DS_CTRL.PAGE + 2 * o + 1) = d.extractLsb' 0 32 ∧ State.sameBut [] s t ∧
      t.port = (s.answered rOkay 0).port) ∧
    (s.silent u = false → (s.dsState u ≠ dsUnbound ∨ s.rd (DS_CTRL u) DS_CTRL.SRC = 1) →
      exec (.scheduleWindowWrite u o d) s = .next (s.answer (phBase u + 0x8000 + o) rDenied 0).settle) := by
  have hexec : exec (.scheduleWindowWrite u o d) s =
      if s.silent u then done s
      else if s.windowOpen u then done ((s.storeEntries u (65536 * s.rd (DS_CTRL u) DS_CTRL.PAGE + 2 * o) d).answer (phBase u + 0x8000 + o) rOkay 0)
      else done (s.answer (phBase u + 0x8000 + o) rDenied 0) := by
    show execScheduleWindowWrite u o d s = _
    simp only [execScheduleWindowWrite]
    rw [if_neg (show ¬ (96 ≤ u ∨ 0x8000 ≤ o) by omega), if_neg (by rw [hok]; exact Bool.noConfusion), unreached_window hu ho hok]
  refine ⟨fun h => ?_, fun h hs hsrc => ?_, fun h hc => ?_⟩
  · rw [hexec, if_pos h]
    exact done_quiet s hq
  · have hopen : s.windowOpen u = true := by rw [State.windowOpen, hs, hsrc]; rfl
    have hans : (s.storeEntries u (65536 * s.rd (DS_CTRL u) DS_CTRL.PAGE + 2 * o) d).answer (phBase u + 0x8000 + o) rOkay 0 =
        (s.storeEntries u (65536 * s.rd (DS_CTRL u) DS_CTRL.PAGE + 2 * o) d).answered rOkay 0 := answer_alone _ _ _ ha
    rw [hexec, if_neg (by rw [h]; exact Bool.noConfusion), if_pos hopen, hans]
    obtain ⟨h1, h2⟩ := storeEntries_entry (s := s) (t := u) (65536 * s.rd (DS_CTRL u) DS_CTRL.PAGE + 2 * o) d
    exact ⟨_, done_quiet _ hq, h1, h2, fun _ _ => rfl, rfl⟩
  · have hopen : s.windowOpen u = false := by
      rw [State.windowOpen]
      rcases hc with hc | hc
      · rw [beq_eq_false_iff_ne.mpr hc, Bool.false_and]
      · rw [hc]
        exact Bool.and_false _
    rw [hexec, if_neg (by rw [h]; exact Bool.noConfusion), if_neg (by rw [hopen]; exact Bool.noConfusion)]
    rfl

/-! ### DS_CTRL (R203) -/

/-- PAGE and SRC take their values. -/
def State.dsCtrlSet (s : State) (t : Nat) (d : Word) : State :=
  (s.wr (DS_CTRL t) DS_CTRL.PAGE (DS_CTRL.PAGE.get d)).wr (DS_CTRL t) DS_CTRL.SRC (DS_CTRL.SRC.get d)

section
variable {s : State} {t : Nat} {d : Word} {same : Bool}

theorem dsStat_ne_ctrl (t : Nat) : DS_STAT t ≠ DS_CTRL t := by simp only [DS_STAT, DS_CTRL]; omega

theorem dsCtrlSet_reg {b : Nat} (h : b ≠ DS_CTRL t) : (s.dsCtrlSet t d).reg b = s.reg b := (reg_wr_ne _ _ _ _ _ h).trans (reg_wr_ne _ _ _ _ _ h)

theorem dsCtrlSet_state : (s.dsCtrlSet t d).dsState t = s.dsState t := rd_of_reg (dsCtrlSet_reg (dsStat_ne_ctrl t)) _

section
variable (hb : DS_CTRL.BIND.get d = 1) (hu : DS_CTRL.UNBIND.get d = 0) (hs : DS_CTRL.START.get d = 0) (hp : DS_CTRL.STOP.get d = 0)
include hb hu hs hp
theorem dsCtrl_bind : s.dsCtrlWrite t d same = (s.dsCtrlSet t d).bindCmd t := by
  unfold State.dsCtrlWrite
  dsimp only
  rw [hb, hu, hs, hp, if_neg (by decide), if_pos rfl, State.dsCtrlSet]
end

section
variable (hb : DS_CTRL.BIND.get d = 0) (hu : DS_CTRL.UNBIND.get d = 1) (hs : DS_CTRL.START.get d = 0) (hp : DS_CTRL.STOP.get d = 0)
include hb hu hs hp
theorem dsCtrl_unbind : s.dsCtrlWrite t d same = ((s.dsCtrlSet t d).unbindCmd t same).pullFeed := by
  unfold State.dsCtrlWrite
  dsimp only
  rw [hb, hu, hs, hp, if_neg (by decide), if_neg (by decide), if_pos rfl, State.dsCtrlSet]
end

section
variable (hb : DS_CTRL.BIND.get d = 0) (hu : DS_CTRL.UNBIND.get d = 0) (hs : DS_CTRL.START.get d = 1) (hp : DS_CTRL.STOP.get d = 0)
include hb hu hs hp
theorem dsCtrl_start : s.dsCtrlWrite t d same = (s.dsCtrlSet t d).startCmd t := by
  unfold State.dsCtrlWrite
  dsimp only
  rw [hb, hu, hs, hp, if_neg (by decide), if_neg (by decide), if_neg (by decide), if_pos rfl, State.dsCtrlSet]
end

section
variable (hb : DS_CTRL.BIND.get d = 0) (hu : DS_CTRL.UNBIND.get d = 0) (hs : DS_CTRL.START.get d = 0) (hp : DS_CTRL.STOP.get d = 1)
include hb hu hs hp
theorem dsCtrl_stop : s.dsCtrlWrite t d same = (s.dsCtrlSet t d).stopCmd t := by
  unfold State.dsCtrlWrite
  dsimp only
  rw [hb, hu, hs, hp, if_neg (by decide), if_neg (by decide), if_neg (by decide), if_neg (by decide), if_pos rfl, State.dsCtrlSet]
end

theorem dsState_setDs {v : Nat} (h : v < 8) : (s.setDs t v).dsState t = v := (rd_wr_same _ _ _ _ (by decide)).trans (Nat.mod_eq_of_lt h)

end

theorem answered_dsState (s : State) (c : Nat) (d : Word) (t : Nat) : (s.answered c d).dsState t = s.dsState t := rfl
theorem updDs_dsState (s : State) (t u : Nat) (f : SliceX → SliceX) : (s.updDs t f).dsState u = s.dsState u := rfl

/-- What a write of DS_CTRL has of its own: PAGE and SRC. -/
theorem dsCtrlSet_rest {s : State} {t : Nat} {d : Word} : { s.dsCtrlSet t d with regs := s.regs } = s := rfl

theorem onlyRegsPort_wr {s v : State} (h : s.onlyRegsPort v) (a : Nat) (f : Fld) (n : Nat) : s.onlyRegsPort (v.wr a f n) := h
theorem onlyRegsPort_answered {s v : State} (h : s.onlyRegsPort v) (c : Nat) (d : Word) : s.onlyRegsPort (v.answered c d) := h

theorem bind_checks (u : Nat) (d : Word) (s : State) (hq : s.quiet) (ha : s.alone) (ht : s.takes (DS_CTRL u) d) (hb : DS_CTRL.BIND.get d = 1)
    (hu : DS_CTRL.UNBIND.get d = 0) (hs : DS_CTRL.START.get d = 0) (hp : DS_CTRL.STOP.get d = 0) :
    (s.dsState u = dsUnbound → ∃ t, exec (.bind u d) s = .next t ∧ t.dsState u = dsChecking ∧ t.rd (DS_STAT u) DS_STAT.ERR = 0 ∧
      State.sameBut [DS_CTRL u, DS_STAT u] s t ∧ s.onlyRegsPort t) ∧
    (s.dsState u ≠ dsUnbound → ∃ t, exec (.bind u d) s = .next t ∧ t.dsState u = s.dsState u ∧
      t.flag (DS_STAT u) DS_STAT.REFUSED = true ∧ State.sameBut [DS_CTRL u, DS_STAT u] s t ∧ s.onlyRegsPort t) := by
  have hx : exec (.bind u d) s = hostOp s (DS_CTRL u) d (·.dsCtrlWrite u d false) := rfl
  have he : s.dsCtrlWrite u d false = (s.dsCtrlSet u d).bindCmd u := dsCtrl_bind hb hu hs hp
  have hset := dsCtrlSet_state (s := s) (t := u) (d := d)
  have hreg : ∀ b, b ≠ DS_CTRL u → (s.dsCtrlSet u d).reg b = s.reg b := fun b h => dsCtrlSet_reg h
  have hrest := dsCtrlSet_rest (s := s) (t := u) (d := d)
  generalize s.dsCtrlSet u d = v at he hset hreg hrest
  have halone : v.port.outstanding.length ≤ 1 := (congrArg State.alone hrest :).mpr ha
  have hquiet : v.fault.now = [] := (congrArg (·.fault.now) hrest :).trans hq
  have honly : s.onlyRegsPort v := (congrArg (fun x : State => { x with port := s.port }) hrest :)
  refine ⟨fun h => ?_, fun h => ?_⟩
  · rw [State.bindCmd, if_pos (hset.trans h)] at he
    refine ⟨_, hostOp_effect hx ht he halone hquiet, ?_, ?_, fun b hb => ?_, ?_⟩
    · rw [answered_dsState]
      exact (rd_wr_fld _ _ _ _ _ _ rfl rfl).trans ((rd_wr_fld _ _ _ _ _ _ rfl rfl).trans (dsState_setDs (by decide)))
    · rw [answered_rd]
      exact (rd_wr_fld _ _ _ _ _ _ rfl rfl).trans (rd_wr_same _ _ _ _ (by decide))
    · simp only [List.mem_cons, List.not_mem_nil, or_false, not_or] at hb
      obtain ⟨h1, h2⟩ := hb
      rw [answered_reg]
      exact (reg_wr_ne _ _ _ _ _ h2).trans ((reg_wr_ne _ _ _ _ _ h2).trans ((reg_wr_ne _ _ _ _ _ h2).trans (hreg b h1)))
    · exact onlyRegsPort_answered (onlyRegsPort_wr (onlyRegsPort_wr (onlyRegsPort_wr honly _ _ _) _ _ _) _ _ _) _ _
  · rw [State.bindCmd, if_neg (fun e => h (hset.symm.trans e)), State.dsRefuse] at he
    refine ⟨_, hostOp_effect hx ht he halone hquiet, ?_, ?_, fun b hb => ?_, ?_⟩
    · rw [answered_dsState]
      exact (rd_wr_fld _ _ _ _ _ _ rfl rfl).trans hset
    · rw [answered_flag]
      exact flag_wr_one _ _ _ rfl
    · simp only [List.mem_cons, List.not_mem_nil, or_false, not_or] at hb
      obtain ⟨h1, h2⟩ := hb
      exact (reg_wr_ne _ _ _ _ _ h2).trans (hreg b h1)
    · exact onlyRegsPort_answered (onlyRegsPort_wr honly _ _ _) _ _

theorem dsStart_waits (u : Nat) (d : Word) (s : State) (hq : s.quiet) (ha : s.alone) (ht : s.takes (DS_CTRL u) d) (hb : DS_CTRL.BIND.get d = 0)
    (hu : DS_CTRL.UNBIND.get d = 0) (hs : DS_CTRL.START.get d = 1) (hp : DS_CTRL.STOP.get d = 0) (h : s.dsState u = dsBound ∨ s.dsState u = dsStopped) :
    ∃ t, exec (.dsStart u d) s = .next t ∧ (t.ds u).startPend = true ∧ t.dsState u = s.dsState u ∧ State.sameBut [DS_CTRL u, DS_STAT u] s t := by
  have hx : exec (.dsStart u d) s = hostOp s (DS_CTRL u) d (·.dsCtrlWrite u d false) := rfl
  have he : s.dsCtrlWrite u d false = (s.dsCtrlSet u d).startCmd u := dsCtrl_start hb hu hs hp
  have hset := dsCtrlSet_state (s := s) (t := u) (d := d)
  have hreg : ∀ b, b ≠ DS_CTRL u → (s.dsCtrlSet u d).reg b = s.reg b := fun b h => dsCtrlSet_reg h
  have hrest := dsCtrlSet_rest (s := s) (t := u) (d := d)
  generalize s.dsCtrlSet u d = v at he hset hreg hrest
  have halone : v.port.outstanding.length ≤ 1 := (congrArg State.alone hrest :).mpr ha
  have hquiet : v.fault.now = [] := (congrArg (·.fault.now) hrest :).trans hq
  rw [State.startCmd, if_pos (by rw [hset]; exact h)] at he
  refine ⟨_, hostOp_effect hx ht he halone hquiet, ?_, ?_, fun b hb => ?_⟩
  · refine (congrArg SliceX.startPend (ds_of_tiles (s := v.updDs u (fun d => { d with startPend := true })) ?_ u)).trans ?_
    · rfl
    · rw [updDs_same]
  · rw [answered_dsState]
    exact (rd_wr_fld _ _ _ _ _ _ rfl rfl).trans ((updDs_dsState _ _ _ _).trans hset)
  · simp only [List.mem_cons, List.not_mem_nil, or_false, not_or] at hb
    obtain ⟨h1, h2⟩ := hb
    exact (reg_wr_ne _ _ _ _ _ h2).trans (hreg b h1)

theorem dsStop_waits (u : Nat) (d : Word) (s : State) (hq : s.quiet) (ha : s.alone) (ht : s.takes (DS_CTRL u) d) (hb : DS_CTRL.BIND.get d = 0)
    (hu : DS_CTRL.UNBIND.get d = 0) (hs : DS_CTRL.START.get d = 0) (hp : DS_CTRL.STOP.get d = 1) (h : s.dsState u = dsPlaying) :
    ∃ t, exec (.dsStop u d) s = .next t ∧ (t.ds u).stopPend = true ∧ t.dsState u = dsPlaying ∧ State.sameBut [DS_CTRL u] s t := by
  have hx : exec (.dsStop u d) s = hostOp s (DS_CTRL u) d (·.dsCtrlWrite u d false) := rfl
  have he : s.dsCtrlWrite u d false = (s.dsCtrlSet u d).stopCmd u := dsCtrl_stop hb hu hs hp
  have hset := dsCtrlSet_state (s := s) (t := u) (d := d)
  have hreg : ∀ b, b ≠ DS_CTRL u → (s.dsCtrlSet u d).reg b = s.reg b := fun b h => dsCtrlSet_reg h
  have hrest := dsCtrlSet_rest (s := s) (t := u) (d := d)
  generalize s.dsCtrlSet u d = v at he hset hreg hrest
  have halone : v.port.outstanding.length ≤ 1 := (congrArg State.alone hrest :).mpr ha
  have hquiet : v.fault.now = [] := (congrArg (·.fault.now) hrest :).trans hq
  rw [State.stopCmd, if_pos (hset.trans h)] at he
  refine ⟨_, hostOp_effect hx ht he halone hquiet, ?_, hset.trans h, fun b hb => hreg b (fun e => hb (by rw [e]; exact List.mem_singleton_self _))⟩
  show ((v.updDs u (fun d => { d with stopPend := true })).ds u).stopPend = true
  rw [updDs_same]

/-! ### The end of a check (R202) -/

section
variable {s : State} {t : Nat}

/-- The map of clusters and its reports leave the registers of the Pumphouse but PH_CLPWR, and the tiles. -/
theorem mapWork_reg (ht : t < 256) {b : Nat} (h0 : 0x100000 ≤ b) (h : ∀ k, k < 96 → b ≠ PH_CLPWR t k) : (s.mapWork t).reg b = s.reg b := by
  unfold State.mapWork
  dsimp only
  refine (each_keeps (·.reg b) _ (fun u w => u.evacuated t w) (fun u w => evacuated_reg u t w b) _).trans ?_
  refine each_mem_keeps (·.reg b) (List.range 96) (fun u k => if (u.rd (PL_MAP (96 * t + k)) PL_MAP.STATE = 0 ∨
    u.rd (PL_MAP (96 * t + k)) PL_MAP.STATE = 2) ∧ u.workOf t k ≠ u.rd (PL_MAP (96 * t + k)) PL_MAP.STATE then u.setMapState t k (u.workOf t k) else u)
    (fun u k hk => ?_) s
  have hk96 := List.mem_range.mp hk
  split
  · refine setMapState_reg u t k _ b (fun e => ?_) (h k hk96)
    simp only [PL_MAP] at e
    omega
  · rfl

theorem mapWork_tiles : (s.mapWork t).tiles = s.tiles := by
  unfold State.mapWork
  dsimp only
  refine (each_keeps State.tiles _ (fun u w => u.evacuated t w) (fun u w => (congrArg State.tiles (evacuated_rest u t w) :)) _).trans ?_
  refine each_keeps State.tiles (List.range 96) (fun u k => if (u.rd (PL_MAP (96 * t + k)) PL_MAP.STATE = 0 ∨
    u.rd (PL_MAP (96 * t + k)) PL_MAP.STATE = 2) ∧ u.workOf t k ≠ u.rd (PL_MAP (96 * t + k)) PL_MAP.STATE then u.setMapState t k (u.workOf t k) else u)
    (fun u k => ?_) s
  split
  · exact (congrArg State.tiles (setMapState_rest u t k _) :)
  · rfl

theorem tileOk_lt (h : s.tileOk t = true) : t < 256 := Nat.lt_trans (of_decide_eq_true h) (rd_lt s HD_TOPO HD_TOPO.TILES)

theorem slice_off_map : (0x100000 ≤ DS_STAT t ∧ ∀ k, k < 96 → DS_STAT t ≠ PH_CLPWR t k) ∧ (0x100000 ≤ DS_ID t ∧ ∀ k, k < 96 → DS_ID t ≠ PH_CLPWR t k) := by
  simp only [DS_STAT, DS_ID, PH_CLPWR, phBase, ne_eq]
  refine ⟨⟨by omega, fun k hk => by omega⟩, ⟨by omega, fun k hk => by omega⟩⟩

end

theorem bindDone_binds (u : Nat) (s : State) (hok : s.tileOk u = true) (hc : s.dsState u = dsChecking) (hn : s.bindErr u = none) :
    s.yields (.bindDone u) (fun t => t.dsState u = dsBound ∧ t.rd (DS_STAT u) DS_STAT.ERR = 0 ∧ t.rd (DS_ID u) DS_ID.SCHED_ID = (s.entry u 1).toNat ∧
      (∀ l, l < 14 → streamStart (s.entry u) l ≠ 0 → (t.stream u l).st = 1)) := by
  obtain ⟨⟨hs0, hs⟩, ⟨hi0, hi⟩⟩ := slice_off_map (t := u)
  have hu := tileOk_lt hok
  have hne : DS_STAT u ≠ DS_ID u := by simp only [DS_STAT, DS_ID]; omega
  refine ⟨s.bindDone u, rfl, ?_⟩
  have he : s.bindDone u = s.bindResult u := if_pos (by rw [hok, hc]; rfl)
  simp only [he, State.bindResult, hn]
  refine ⟨?_, ?_, ?_, fun l hl hst => ?_⟩
  · refine (rd_of_reg (mapWork_reg hu hs0 hs) _).trans ((rd_setReg_ne _ _ _ _ _ hne).trans ?_)
    exact (rd_wr_fld _ _ _ _ _ _ rfl rfl).trans ((rd_wr_fld _ _ _ _ _ _ rfl rfl).trans (dsState_setDs (by decide)))
  · refine (rd_of_reg (mapWork_reg hu hs0 hs) _).trans ((rd_setReg_ne _ _ _ _ _ hne).trans ?_)
    exact (rd_wr_fld _ _ _ _ _ _ rfl rfl).trans (rd_wr_same _ _ _ _ (by decide))
  · refine (rd_of_reg (mapWork_reg hu hi0 hi) _).trans ((rd_setReg_same _ _ _ _).trans ?_)
    rw [Fld.get_set _ _ _ (by decide)]
    exact Nat.mod_eq_of_lt (BitVec.isLt _)
  · have hmem : l ∈ (List.range 14).filter (fun l => streamStart (s.entry u) l != 0) :=
      List.mem_filter.mpr ⟨List.mem_range.mpr hl, bne_iff_ne.mpr hst⟩
    rw [State.stream, State.ds, State.tile, mapWork_tiles, ← State.tile, ← State.ds, updDs_same]
    dsimp only
    rw [tget_listed (fun _ => ({} : Stream)) (fun _ => { st := 1 }) hmem]

theorem bindDone_fails (u code i : Nat) (s : State) (hq : s.quiet) (hok : s.tileOk u = true) (hc : s.dsState u = dsChecking)
    (hn : s.bindErr u = some (code, i)) (h16 : code < 16) : ∃ t, exec (.bindDone u) s = .next t ∧ t.dsState u = dsUnbound ∧
      t.rd (DS_STAT u) DS_STAT.ERR = code ∧ State.sameBut [DS_STAT u] s t ∧ s.onlyRegs t := by
  have he : s.bindDone u = ((s.setDs u dsUnbound).wr (DS_STAT u) DS_STAT.ERR code).wr (DS_STAT u) DS_STAT.ERR_ENTRY (if code < 6 then 0 else i) := by
    rw [State.bindDone, if_pos (by rw [hok, hc]; rfl), State.bindResult, hn]
  have hx : exec (.bindDone u) s = .next (s.bindDone u) := done_quiet _ (by rw [he]; exact hq)
  rw [he] at hx
  refine ⟨_, hx, ?_, ?_, fun b hb => ?_, rfl⟩
  · exact (rd_wr_fld _ _ _ _ _ _ rfl rfl).trans ((rd_wr_fld _ _ _ _ _ _ rfl rfl).trans (dsState_setDs (by decide)))
  · exact (rd_wr_fld _ _ _ _ _ _ rfl rfl).trans ((rd_wr_same _ _ _ _ (by decide)).trans (Nat.mod_eq_of_lt h16))
  · have hne : b ≠ DS_STAT u := fun e => hb (by rw [e]; exact List.mem_singleton_self _)
    exact (reg_wr_ne _ _ _ _ _ hne).trans ((reg_wr_ne _ _ _ _ _ hne).trans (reg_wr_ne _ _ _ _ _ hne))

/-! ### Play starts and stops (R203) -/

theorem playStart_plays (u : Nat) (s : State) (hq : s.quiet) (hok : s.tileOk u = true) (hp : (s.ds u).startPend = true)
    (hb : s.dsState u = dsBound ∨ s.dsState u = dsStopped) :
    ∃ t, exec (.playStart u) s = .next t ∧ t.dsState u = dsPlaying ∧ (t.ds u).startPend = false ∧
      (∀ l, l < 14 → streamStart (s.entry u) l ≠ 0 → (t.stream u l).st = 2 ∧ (t.stream u l).p.pc = streamStart (s.entry u) l ∧
        (t.stream u l).a.pc = streamStart (s.entry u) l ∧ (t.stream u l).pb = 0) ∧ State.sameBut [DS_STAT u] s t := by
  have hcond : (s.tileOk u && (s.ds u).startPend && (s.dsState u == dsBound || s.dsState u == dsStopped)) = true := by
    rw [hok, hp]
    rcases hb with hb | hb <;> rw [hb] <;> rfl
  have he : ∃ f : SliceX → SliceX, s.playStart u = (s.setDs u dsPlaying).updDs u f ∧ (∀ d, (f d).startPend = false ∧
      (f d).streams = ((List.range 14).filter (fun l => streamStart (s.entry u) l != 0)).map (fun l =>
        (l, Stream.initial (streamStart (s.entry u) l) s.clk.beat))) := ⟨_, if_pos hcond, fun _ => ⟨rfl, rfl⟩⟩
  obtain ⟨f, he, hf⟩ := he
  have hx : exec (.playStart u) s = .next (s.playStart u) := done_quiet _ (by rw [he]; exact hq)
  rw [he] at hx
  refine ⟨_, hx, dsState_setDs (s := s) (by decide), by rw [updDs_same]; exact (hf _).1, fun l hl hst => ?_,
    fun b hb => reg_wr_ne _ _ _ _ _ (fun e => hb (by rw [e]; exact List.mem_singleton_self _))⟩
  have hmem : l ∈ (List.range 14).filter (fun l => streamStart (s.entry u) l != 0) :=
    List.mem_filter.mpr ⟨List.mem_range.mpr hl, bne_iff_ne.mpr hst⟩
  have hstream : ((s.setDs u dsPlaying).updDs u f).stream u l = Stream.initial (streamStart (s.entry u) l) s.clk.beat := by
    rw [State.stream, updDs_same, (hf _).2]
    exact tget_listed _ (fun l => Stream.initial (streamStart (s.entry u) l) s.clk.beat) hmem
  rw [hstream]
  exact ⟨rfl, rfl, rfl, rfl⟩

section
variable {s : State} {t l : Nat}

/-- Every stream that plays stops. -/
def State.streamsStop (s : State) (t : Nat) : State :=
  s.each (List.range 14) (fun u l => if (u.stream t l).live then u.updStream t l (fun x => { x with st := 5 }) else u)

theorem streamsStop_stops (hl : l < 14) (h : (s.stream t l).live = true) : ((s.streamsStop t).stream t l).st = 5 := by
  refine each_range_brings (fun u => (u.stream t l).live = true) (fun u => (u.stream t l).st = 5)
    (fun u l => if (u.stream t l).live then u.updStream t l (fun x => { x with st := 5 }) else u) hl (fun u hu => ?_) (fun u v _ hv hu => ?_)
    (fun u v _ hv hu => ?_) s h
  · rw [if_pos hu, updStream_same]
  · split
    · rw [updStream_ne _ (Ne.symm hv)]
      exact hu
    · exact hu
  · split
    · rw [updStream_ne _ (Ne.symm hv)]
      exact hu
    · exact hu

theorem streamsStop_keeps : ((s.streamsStop t).regs, (s.streamsStop t).fault) = (s.regs, s.fault) := by
  refine each_keeps (fun u => (u.regs, u.fault)) (List.range 14)
    (fun u l => if (u.stream t l).live then u.updStream t l (fun x => { x with st := 5 }) else u) (fun u l => ?_) s
  split <;> rfl

/-- Every well of the tile is without the player. -/
def State.wellsUnplay (s : State) (t : Nat) : State := s.each (List.range 14) (fun u w => u.unplay t w)

theorem wellsUnplay_keeps : ((s.wellsUnplay t).regs, (s.wellsUnplay t).fault, (s.wellsUnplay t).tiles) = (s.regs, s.fault, s.tiles) :=
  each_keeps (fun u => (u.regs, u.fault, u.tiles)) (List.range 14) (fun u w => u.unplay t w) (fun _ _ => rfl) s

/-- The gates of a slice that has stopped. -/
def SliceX.stopped (d : SliceX) : SliceX := { d with
  stopPend := false
  startPend := false
  gates := d.gates.map (fun e => (e.1, { e.2 with released := e.2.rel.length })) }

theorem gateHeld_now : (s.gateHeld t).fault.now = s.fault.now := rfl

theorem stopNow_eq : s.stopNow t =
    (((((s.streamsStop t).wellsUnplay t).setDs t dsStopped).updDs t SliceX.stopped).gateHeld t) := rfl

end

theorem playStop_stops (u : Nat) (s : State) (hq : s.quiet) (hok : s.tileOk u = true) (hp : (s.ds u).stopPend = true) (hs : s.dsState u = dsPlaying) :
    ∃ t, exec (.playStop u) s = .next t ∧ t.dsState u = dsStopped ∧ t.rd (DS_STAT u) DS_STAT.ABORT = 1 ∧ (t.ds u).stopPend = false ∧
      (∀ l, l < 14 → (s.stream u l).live = true → (t.stream u l).st = 5) ∧ State.sameBut [DS_STAT u] s t := by
  have he : s.playStop u = (s.stopNow u).wr (DS_STAT u) DS_STAT.ABORT 1 := by
    rw [State.playStop, if_pos (by rw [hok, hp]; rfl), if_pos hs]
  have h1 := streamsStop_keeps (s := s) (t := u)
  have h2 := wellsUnplay_keeps (s := s.streamsStop u) (t := u)
  have hstop : ∀ l, l < 14 → (s.stream u l).live = true → ((s.streamsStop u).stream u l).st = 5 := fun l hl hlive => streamsStop_stops hl hlive
  simp only [Prod.mk.injEq] at h1 h2
  obtain ⟨hregs1, hfault1⟩ := h1
  obtain ⟨hregs2, hfault2, htiles⟩ := h2
  rw [stopNow_eq] at he
  generalize s.streamsStop u = x at he hregs1 hfault1 hregs2 hfault2 htiles hstop
  generalize x.wellsUnplay u = v at he hregs2 hfault2 htiles
  have hnow : v.fault.now = [] := (congrArg FaultX.now (hfault2.trans hfault1)).trans hq
  have hreg : ∀ b, v.reg b = s.reg b := fun b => congrArg (fun r : RegTable => r.get b) (hregs2.trans hregs1)
  have hx : exec (.playStop u) s = .next (s.playStop u) := done_quiet _ (by
    rw [he]
    exact (congrArg FaultX.now (wr_fault _ _ _ _)).trans ((gateHeld_now (t := u)).trans hnow))
  rw [he] at hx
  refine ⟨_, hx, ?_, rd_wr_same _ _ _ _ (by decide), ?_, fun l hl hlive => ?_, fun b hb => ?_⟩
  · exact (rd_wr_fld _ _ _ _ _ _ rfl rfl).trans (dsState_setDs (by decide))
  · refine (congrArg SliceX.stopPend (ds_of_tiles (s := (v.setDs u dsStopped).updDs u SliceX.stopped) ?_ u)).trans ?_
    · rfl
    · rw [updDs_same]
      rfl
  · have hstream : ((v.setDs u dsStopped).updDs u SliceX.stopped).stream u l = v.stream u l := by
      rw [State.stream, updDs_same]
      rfl
    have hkept : v.stream u l = x.stream u l := by simp only [State.stream, State.ds, State.tile, htiles]
    exact (congrArg Stream.st (hstream.trans hkept)).trans (hstop l hl hlive)
  · have hne : b ≠ DS_STAT u := fun e => hb (by rw [e]; exact List.mem_singleton_self _)
    exact (reg_wr_ne _ _ _ _ _ hne).trans ((reg_wr_ne _ _ _ _ _ hne).trans (hreg b))

end Sys2Proof.Machine

/-! PROOFS. UNBIND, and the look-ahead cursor at a branch (R193, R203). -/

namespace Sys2Proof.Machine

open Sys2Proof

/-! ### What the Wellhead's own work leaves of the Pumphouses -/

/-- Only the Wellhead's registers and what is hidden beside the tiles differ. -/
structure HeadOnly (s u : State) : Prop where
  reg : ∀ b, 0x100000 ≤ b → u.reg b = s.reg b
  tiles : u.tiles = s.tiles

section
variable {s u v : State}

theorem HeadOnly.refl (s : State) : HeadOnly s s := ⟨fun _ _ => rfl, rfl⟩

theorem HeadOnly.trans (h1 : HeadOnly s u) (h2 : HeadOnly u v) : HeadOnly s v where
  reg := fun b hb => (h2.reg b hb).trans (h1.reg b hb)
  tiles := h2.tiles.trans h1.tiles

theorem HeadOnly.wr (s : State) {a : Nat} (ha : a < 0x100000) (f : Fld) (n : Nat) : HeadOnly s (s.wr a f n) :=
  ⟨fun _ _ => reg_wr_ne _ _ _ _ _ (by omega), rfl⟩

theorem HeadOnly.setReg (s : State) {a : Nat} (ha : a < 0x100000) (d : Word) : HeadOnly s (s.setReg a d) :=
  ⟨fun b _ => (reg_setReg _ _ _ _).trans (if_neg (by omega)), rfl⟩

theorem HeadOnly.hidden (hr : u.regs = s.regs) (ht : u.tiles = s.tiles) : HeadOnly s u := ⟨fun b _ => congrArg (fun r : RegTable => r.get b) hr, ht⟩

theorem sideRegs_lt {b : Nat} (h : b ∈ sideRegs) : b < 0x100000 := by
  simp only [sideRegs, List.mem_cons, List.not_mem_nil, or_false] at h
  rcases h with rfl | rfl | rfl | rfl <;> decide

theorem off_sideRegs {b : Nat} (hb : 0x100000 ≤ b) : b ∉ sideRegs := fun h => Nat.not_lt.mpr hb (sideRegs_lt h)

theorem HeadOnly.bump (s : State) {a : Nat} (ha : a < 0x100000) : HeadOnly s (s.bump a) :=
  ⟨fun b hb => bump_reg s a b (by omega) (off_sideRegs hb), (congrArg State.tiles (bump_rest s a) :)⟩

theorem HeadOnly.pend (s : State) {n : Nat} (hn : n < 512) : HeadOnly s (s.pend n) :=
  ⟨fun b hb => pend_reg s n b (by simp only [IC_SRC]; omega) (off_sideRegs hb), (congrArg State.tiles (pend_rest s n) :)⟩

theorem HeadOnly.record (s : State) {ty : Nat} (h3 : ty ≠ 3) (h4 : ty ≠ 4) (trig : Nat) (l : List Word) : HeadOnly s (s.record ty trig l) :=
  ⟨fun _ hb => record_plain_reg trig l h3 h4 (off_sideRegs hb), (congrArg State.tiles (record_plain_rest (s := s) trig l h3 h4) :)⟩

theorem ownPort_lt (s : State) : s.ownPort < 4 := by
  unfold State.ownPort
  cases h : (List.range 4).find? (fun n => s.portOn n) with
  | none => decide
  | some n => exact List.mem_range.mp (List.mem_of_find?_eq_some h)

theorem HeadOnly.sendTo (s : State) (dst ty cls : Nat) (l : List Word) : HeadOnly s (s.sendTo dst ty cls l) := by
  have hport := ownPort_lt s
  have hsend (u : State) (n : Nat) (f : LinkFrame) (h : HeadOnly s u) : HeadOnly s (u.sendOn n f) :=
    h.trans (.hidden (congrArg State.regs (sendOn_rest u n f) :) (congrArg State.tiles (sendOn_rest u n f) :))
  unfold State.sendTo State.routeFrom
  dsimp only
  split
  · exact .bump s (by simp only [CL_PORT]; omega)
  split
  · exact hsend _ _ _ (.hidden rfl rfl)
  · exact hsend _ _ _ (.refl s)

theorem HeadOnly.safeOver (s : State) : HeadOnly s s.safeOver := by
  unfold State.safeOver
  split
  · exact (HeadOnly.wr s (by decide) _ _).trans (.hidden rfl rfl)
  · exact .refl s

theorem HeadOnly.voidLoad (s : State) (c sect word : Nat) : HeadOnly s (s.voidLoad c sect word) := by
  have hmark : HeadOnly s (s.voidMarked c sect word) :=
    (HeadOnly.wr s (by decide) _ _).trans ((HeadOnly.wr _ (by decide) _ _).trans ((HeadOnly.setReg _ (by decide) _).trans (.hidden rfl rfl)))
  have hover : HeadOnly s (s.voidMarked c sect word).safeOver := hmark.trans (.safeOver _)
  have hraise (u : State) (h : HeadOnly s u) (ty : Nat) (h3 : ty ≠ 3) (h4 : ty ≠ 4) (l : List Word) : HeadOnly s (((u.raiseW { src := 1 }).record ty 0 l).pend 144) := by
    have hraised : HeadOnly s (u.raiseW { src := 1 }) := h.trans (.hidden rfl rfl)
    have hrecord : HeadOnly s ((u.raiseW { src := 1 }).record ty 0 l) := hraised.trans (.record _ h3 h4 0 l)
    exact hrecord.trans (HeadOnly.pend _ (show 144 < 512 by decide))
  rw [voidLoad_eq]
  exact hraise _ hover 6 (by decide) (by decide) _

theorem HeadOnly.abortLoad (s : State) : HeadOnly s s.abortLoad := (HeadOnly.voidLoad s _ _ _).trans (.wr _ (by decide) _ _)

theorem HeadOnly.failPull (s : State) (result : Nat) : HeadOnly s (s.failPull result) := by
  have hend : HeadOnly s (((s.wr CL_PULL_STAT CL_PULL_STAT.STATE 5).wr CL_PULL_STAT CL_PULL_STAT.RESULT result).updLink (fun l => { l with pull := {} })) :=
    (HeadOnly.wr s (by decide) _ _).trans ((HeadOnly.wr _ (by decide) _ _).trans (.hidden rfl rfl))
  have hpull : HeadOnly s (s.endPull result) := by
    unfold State.endPull
    dsimp only
    split
    · exact hend.trans (.abortLoad _)
    · exact hend
  exact hpull.trans (.hidden rfl rfl)

/-- What a receiving load has to do with a pull. -/
theorem HeadOnly.pullFeed (s : State) : HeadOnly s s.pullFeed := by
  have hcredit (t n : Nat) : HeadOnly s ((s.wr CL_PULL_STAT CL_PULL_STAT.STATE 3).sendCredit t 0 n) :=
    (HeadOnly.wr s (by decide) _ _).trans (.sendTo _ _ _ _ _)
  unfold State.pullFeed
  dsimp only
  split
  · split
    · split
      · exact hcredit _ _
      · exact .refl s
    split
    · split
      · exact hcredit _ _
      · exact (HeadOnly.abortLoad s).trans (.failPull _ _)
    · exact .refl s
  · exact .refl s

end

/-! ### UNBIND (R203) -/

section
variable {s : State} {t : Nat}

/-- The streams, gates and branches go with the slice. -/
def SliceX.unbound (d : SliceX) : SliceX := { d with
  startPend := false, stopPend := false, streams := [], gates := [], branches := [], gateDecl := []
  gateHolders := [], branchHolders := [], lastArr := [] }

theorem unbindNow_eq : s.unbindNow t = ((((s.setDs t dsUnbound).setReg (DS_ID t) 0).updDs t SliceX.unbound).gateHeld t).mapWork t := rfl

/-- A slice that is no longer bound. -/
def State.unboundSlice (s : State) (t : Nat) : Prop := s.dsState t = dsUnbound ∧ s.reg (DS_ID t) = 0 ∧ (s.ds t).streams = []

theorem HeadOnly.unboundSlice {u : State} (h : HeadOnly s u) (hs : s.unboundSlice t) : u.unboundSlice t := by
  obtain ⟨⟨h1, -⟩, ⟨h2, -⟩⟩ := slice_off_map (t := t)
  obtain ⟨hstate, hid, hstr⟩ := hs
  exact ⟨(rd_of_reg (h.reg _ h1) _).trans hstate, (h.reg _ h2).trans hid, (congrArg SliceX.streams (ds_of_tiles h.tiles t)).trans hstr⟩

theorem unbindNow_unbound (ht : t < 96) : (s.unbindNow t).unboundSlice t := by
  obtain ⟨⟨hs0, hs⟩, ⟨hi0, hi⟩⟩ := slice_off_map (t := t)
  have ht256 : t < 256 := by omega
  have hne : DS_STAT t ≠ DS_ID t := by simp only [DS_STAT, DS_ID]; omega
  rw [unbindNow_eq]
  refine ⟨?_, ?_, ?_⟩
  · exact (rd_of_reg (mapWork_reg ht256 hs0 hs) _).trans ((rd_setReg_ne _ _ _ _ _ hne).trans (dsState_setDs (by decide)))
  · exact (mapWork_reg ht256 hi0 hi).trans ((reg_setReg _ _ _ _).trans (if_pos rfl))
  · refine (congrArg SliceX.streams (ds_of_tiles (s := ((s.setDs t dsUnbound).setReg (DS_ID t) 0).updDs t SliceX.unbound) ?_ t)).trans ?_
    · exact mapWork_tiles
    · rw [updDs_same]
      rfl

end

theorem unbind_unbinds (u : Nat) (d : Word) (s : State) (hu96 : u < 96) (ht : s.takes (DS_CTRL u) d) (hb : DS_CTRL.BIND.get d = 0)
    (hu : DS_CTRL.UNBIND.get d = 1) (hs : DS_CTRL.START.get d = 0) (hp : DS_CTRL.STOP.get d = 0) :
    (s.dsState u = dsBound ∨ s.dsState u = dsStopped → ∀ same, s.yieldsAnswered (.unbind u d same) (DS_CTRL u) (fun t =>
      t.dsState u = dsUnbound ∧ t.reg (DS_ID u) = 0 ∧ (t.ds u).streams = [])) ∧
    (s.dsState u = dsChecking → s.yieldsAnswered (.unbind u d false) (DS_CTRL u) (fun t =>
      t.dsState u = dsUnbound ∧ t.rd (DS_STAT u) DS_STAT.ERR = 0xD ∧ t.rd (DS_STAT u) DS_STAT.ABORT = 1)) := by
  have hset := dsCtrlSet_state (s := s) (t := u) (d := d)
  refine ⟨fun h same => ?_, fun h => ?_⟩
  · have he : s.dsCtrlWrite u d same = ((s.dsCtrlSet u d).unbindNow u).pullFeed := by
      rw [dsCtrl_unbind hb hu hs hp, State.unbindCmd, if_pos (by rw [hset]; exact h)]
    refine yieldsAnswered_of_takes (f := (·.dsCtrlWrite u d same)) (show exec (.unbind u d same) s = hostOp s (DS_CTRL u) d (·.dsCtrlWrite u d same) from rfl)
      ht ?_
    show (s.dsCtrlWrite u d same).unboundSlice u
    rw [he]
    exact (HeadOnly.pullFeed _).unboundSlice (unbindNow_unbound hu96)
  · have he : s.dsCtrlWrite u d false =
        ((((s.dsCtrlSet u d).unbindNow u).wr (DS_STAT u) DS_STAT.ERR 0xD).wr (DS_STAT u) DS_STAT.ABORT 1).pullFeed := by
      rw [dsCtrl_unbind hb hu hs hp, State.unbindCmd, hset, h]
      rfl
    obtain ⟨hstate, -, -⟩ := unbindNow_unbound (s := s.dsCtrlSet u d) hu96
    refine yieldsAnswered_of_takes (f := (·.dsCtrlWrite u d false)) (show exec (.unbind u d false) s = hostOp s (DS_CTRL u) d (·.dsCtrlWrite u d false) from rfl)
      ht ?_
    obtain ⟨⟨hs0, -⟩, -⟩ := slice_off_map (t := u)
    show (s.dsCtrlWrite u d false).dsState u = dsUnbound ∧ (s.dsCtrlWrite u d false).rd (DS_STAT u) DS_STAT.ERR = 0xD ∧
      (s.dsCtrlWrite u d false).rd (DS_STAT u) DS_STAT.ABORT = 1
    rw [he]
    generalize (s.dsCtrlSet u d).unbindNow u = v at hstate
    have hfeed := (HeadOnly.pullFeed ((v.wr (DS_STAT u) DS_STAT.ERR 0xD).wr (DS_STAT u) DS_STAT.ABORT 1)).reg _ hs0
    refine ⟨(rd_of_reg hfeed _).trans ?_, (rd_of_reg hfeed _).trans ?_, (rd_of_reg hfeed _).trans (rd_wr_same _ _ _ _ (by decide))⟩
    · exact (rd_wr_fld _ _ _ _ _ _ rfl rfl).trans ((rd_wr_fld _ _ _ _ _ _ rfl rfl).trans hstate)
    · exact (rd_wr_fld _ _ _ _ _ _ rfl rfl).trans (rd_wr_same _ _ _ _ (by decide))

/-! ### The look-ahead cursor at a branch (R193) -/

section
variable {s : State} {t l : Nat}

theorem setBranch_branch (id : Nat) (b : BranchX) : (s.setBranch t l id b).branch t l id = b := by
  rw [State.branch, State.setBranch, updDs_same]
  exact tget_tset_self _ _ _ _

theorem setBranch_stream (id : Nat) (b : BranchX) (j : Nat) : (s.setBranch t l id b).stream t j = s.stream t j :=
  stream_of_ds (by rw [State.setBranch, updDs_same]) j

theorem updStream_branch (f : Stream → Stream) (j id : Nat) : (s.updStream t l f).branch t j id = s.branch t j id := by
  rw [State.branch, State.updStream, State.setStream, updDs_same]
  rfl

/-- A's step at a BRANCH that has been reached. -/
theorem runA_branch (f limit : Nat) {e : Entry} (he : e = s.entry t (s.stream t l).a.pc) (hk : ekind e = 0x6) (hend : (s.stream t l).a.ended = false)
    (hwall : (s.stream t l).aWall ≤ limit) (hleft : (s.stream t l).a.left = 0) :
    State.runA (f + 1) limit t l s = State.runA f limit t l ((s.decideBranch t l e).1.updStream t l (fun x =>
      { x with a := x.a.jump e (s.decideBranch t l e).2, choices := x.choices ++ [(s.decideBranch t l e).2] })) := by
  subst he
  rw [State.runA]
  simp only [hend, Bool.false_eq_true, Nat.not_lt.mpr hwall, or_self, if_false, hleft, Nat.lt_irrefl, hk]

/-- The cursor behind a BRANCH. -/
theorem jump_branch (c : Cursor) {e : Entry} (hk : ekind e = 0x6) (alt : Nat) : (c.jump e alt).pc = c.pc + 1 + alt * ebits e 15 0 := by
  rw [Cursor.jump, hk] <;> rfl

end

theorem branch_decides (u l f limit id alt : Nat) (e : Entry) (b : BranchX) (s : State) (he : e = s.entry u (s.stream u l).a.pc) (hk : ekind e = 0x6)
    (hid : id = ebits e 27 20) (hb : b = s.branch u l id)
    (ha : alt = min (ebits e 17 16) ((if b.expect = 0 then b.r0 else b.r1).getD (ebits e 19 18)))
    (hend : (s.stream u l).a.ended = false) (hwall : (s.stream u l).aWall ≤ limit) (hleft : (s.stream u l).a.left = 0) :
    ∃ v : State, State.runA (f + 1) limit u l s = State.runA f limit u l v ∧ (v.stream u l).a.pc = (s.stream u l).a.pc + 1 + alt * ebits e 15 0 ∧
      (v.stream u l).choices = (s.stream u l).choices ++ [alt] ∧ (v.branch u l id).decided = some b.expect ∧ (v.branch u l id).played = alt ∧
      (v.branch u l id).expect = 1 - b.expect ∧ (if b.expect = 0 then (v.branch u l id).r0 else (v.branch u l id).r1) = none ∧
      State.sameBut [] s v := by
  subst hid hb ha
  have hstream : (s.decideBranch u l e).1.stream u l = s.stream u l := setBranch_stream _ _ _
  refine ⟨_, runA_branch f limit he hk hend hwall hleft, ?_, ?_, ?_, ?_, ?_, ?_, fun _ _ => rfl⟩
  · rw [updStream_same, hstream]
    exact jump_branch _ hk _
  · rw [updStream_same, hstream]
    rfl
  all_goals rw [updStream_branch, State.decideBranch, setBranch_branch]
  split <;> rfl

end Sys2Proof.Machine

/-! PROOFS. A beat of the player, and the obligation on slices (R168, R178, R184-R188, R201-R203). -/

namespace Sys2Proof.Machine

open Sys2Proof

section
variable {s : State} {t : Nat}

/-! ### What leaves every tile's streams -/

theorem recentre_tiles (w : Nat) : (s.recentre t w).tiles = s.tiles := by
  have hzero : (s.zeroTrims t w).tiles = s.tiles := by
    refine each_keeps State.tiles (s.pumpsOf t w) (fun u p => if (u.service t w p == 1) || (u.pump t w p).inTest then u else
      u.wri (WL_SHARE t w) (shareFld p) 0) (fun u p => ?_) s
    split <;> rfl
  have hcentre (u : State) (raw : List ((Nat × Nat) × Int)) : (u.centre t w raw).tiles = u.tiles := by
    unfold State.centre
    dsimp only
    generalize meanI _ = m
    refine each_keeps State.tiles raw _ ?_ u
    exact fun _ _ => rfl
  exact (hcentre _ _).trans hzero

theorem report_tiles (w op : Nat) (ok : Bool) : (s.report t w op ok).tiles = s.tiles := by
  refine each_keeps State.tiles (List.range 8) (fun u n => if u.rd (SQ_STAT n) SQ_STAT.STATE = 2 ∧ (u.sq n).op = op then
    u.setSq n { u.sq n with wells := (u.sq n).wells.map (fun e => if e.1 = 16 * t + w ∧ e.2 = 0 then (e.1, if ok then 1 else 2) else e) } else u) (fun u n => ?_) s
  split <;> rfl

theorem testBegin_tiles (w p kind : Nat) (b : Bool) : (s.testBegin t w p kind b).tiles = s.tiles := by
  have hbump (u : State) (a : Nat) : (u.bump a).tiles = u.tiles := (congrArg State.tiles (bump_rest u a) :)
  unfold State.testBegin
  dsimp only
  split
  · exact (recentre_tiles w).trans (hbump _ _)
  · exact (recentre_tiles w).trans (hbump _ _)

theorem testQueued_tiles (w : Nat) : (s.testQueued t w).tiles = s.tiles := by
  unfold State.testQueued
  dsimp only
  split
  next p _ =>
    generalize (if s.stopped t then 0 else s.testKind t w p) = k
    split
    · rfl
    split
    · exact report_tiles w _ _
    · exact testBegin_tiles w _ _ _
  · rfl

theorem testLeave_tiles (w : Nat) : (s.testLeave t w).tiles = s.tiles := by
  unfold State.testLeave
  dsimp only
  split_ifs <;> rfl

theorem penLow_tiles (w p : Nat) : (s.penLow t w p).tiles = s.tiles := by
  unfold State.penLow
  dsimp only
  split <;> rfl

theorem testBack_tiles (w p : Nat) : (s.testBack t w p).tiles = s.tiles := by
  unfold State.testBack
  dsimp only
  split <;> rfl

theorem testAbandon_tiles (w : Nat) : (s.testAbandon t w).tiles = s.tiles := by
  have htell (u : State) (x : TestX) : (u.testTell t w x false).tiles = u.tiles := by
    unfold State.testTell
    split
    · exact report_tiles w _ _
    · exact testQueued_tiles w
  unfold State.testAbandon
  dsimp only
  split
  · rfl
  · refine (htell _ _).trans ?_
    split
    · exact (penLow_tiles w _).trans (testLeave_tiles w)
    · exact (testBack_tiles w _).trans (testLeave_tiles w)

theorem testsBroken_tiles : (s.testsBroken t).tiles = s.tiles :=
  each_keeps State.tiles _ (fun u w => (u.testAbandon t w).updTe t w (fun x => { x with broken := false })) (fun _ w => testAbandon_tiles w) s

theorem applyPlay_tiles : (s.applyPlay t).tiles = s.tiles := by
  refine each_keeps State.tiles (List.range 14) (fun u w => if u.voltedOk t w then u.applyWell t w else u) (fun u w => ?_) s
  split
  · unfold State.applyWell
    split <;> rfl
  · rfl

theorem declareAll_tiles : (s.declareAll t).tiles = s.tiles := by
  refine each_keeps State.tiles (List.range 14) (fun u w => if u.voltedOk t w then u.declare t w else u) (fun u w => ?_) s
  split <;> rfl

theorem endPlay_tiles : (s.endPlay t).tiles = s.tiles := by
  unfold State.endPlay
  split
  · exact each_keeps State.tiles (List.range 14) (fun u w => u.unplay t w) (fun _ _ => rfl) s
  · rfl

/-! ### Breaches leave the streams (R198-R200) -/

/-- The streams of a tile's slice and those in a rest beat. -/
def State.strands (s : State) (t : Nat) : List (Nat × Stream) × List Nat := ((s.ds t).streams, (s.ds t).resting)

theorem strands_of_tiles {u : State} (h : u.tiles = s.tiles) : u.strands t = s.strands t := by rw [State.strands, State.strands, ds_of_tiles h]

theorem strands_updDs (f : SliceX → SliceX) (h : ((f (s.ds t)).streams, (f (s.ds t)).resting) = ((s.ds t).streams, (s.ds t).resting)) :
    (s.updDs t f).strands t = s.strands t := by
  rw [State.strands, updDs_same]
  exact h

theorem logBreach_tiles (l phys kind seg : Nat) (sh s1 : Bool) (b : Nat) : (s.logBreach t l phys kind seg sh s1 b).tiles = s.tiles := by
  have hbump (u : State) (a : Nat) : (u.bump a).tiles = u.tiles := (congrArg State.tiles (bump_rest u a) :)
  unfold State.logBreach
  dsimp only
  split <;> exact hbump _ _

theorem logOnce_strands (l phys kind seg : Nat) (sh s1 : Bool) (b : Nat) : (s.logOnce t l phys kind seg sh s1 b).strands t = s.strands t := by
  unfold State.logOnce
  dsimp only
  split
  · split
    · rfl
    · exact (strands_of_tiles (logBreach_tiles ..)).trans rfl
  split
  · rfl
  · refine (strands_of_tiles (logBreach_tiles ..)).trans ?_
    exact strands_updDs _ rfl

theorem charge_strands (l phys kind : Nat) (sh s1 : Bool) : (s.charge t l phys kind sh s1).strands t = s.strands t := by
  unfold State.charge
  dsimp only
  split
  · exact logOnce_strands ..
  · exact logOnce_strands ..

theorem breachWell_strands (w kind : Nat) : (s.breachWell t w kind).strands t = s.strands t := by
  unfold State.breachWell
  dsimp only
  refine each_keeps (fun u => u.strands t) _ _ (fun u l => ?_) s
  split
  · exact charge_strands ..
  split
  · exact logOnce_strands ..
  · rfl

theorem quietStep_strands (l : Nat) : (s.quietStep t l).strands t = s.strands t := by
  unfold State.quietStep
  split
  · rfl
  · refine (each_keeps (fun u => u.strands t) _ (fun u w => (u.breachWell t w bkQuiet).updTe t w (fun x => { x with broken := true }))
      (fun u w => breachWell_strands w bkQuiet) _).trans ?_
    unfold State.on
    split
    · exact charge_strands ..
    · rfl

/-! ### A part of the streams that a cursor's work leaves -/

/-- A change of a stream that leaves P, its program beat and its state. -/
def Stream.keepsP (f : Stream → Stream) : Prop := ∀ x, ((f x).p, (f x).pb, (f x).st) = (x.p, x.pb, x.st)

section
variable {β : Type} {π : State → β} {j : Nat} (hs : ∀ s u : State, u.strands t = s.strands t → π u = π s)
include hs

theorem capBreach_keeps (hf : ∀ (s : State) (f : Stream → Stream), Stream.keepsP f → π (s.updStream t j f) = π s) (b decay : Nat) (ws : List Nat) :
    π (s.capBreach t j b decay ws) = π s := by
  unfold State.capBreach
  dsimp only
  refine (each_keeps π ws _ (fun u w => ?_) _).trans (hf s _ (fun _ => rfl))
  refine hs _ _ ?_
  exact each_keeps (fun u => u.strands t) _ _ (fun v l => charge_strands ..) u

/-- The look-ahead cursor. -/
theorem runA_keeps (hf : ∀ (s : State) (f : Stream → Stream), Stream.keepsP f → π (s.updStream t j f) = π s) :
    ∀ (n limit : Nat) (s : State), π (State.runA n limit t j s) = π s := by
  intro n
  induction n with
  | zero => exact fun _ _ => rfl
  | succ n ih =>
    intro limit s
    rw [State.runA]
    dsimp only
    split
    · rfl
    split
    · split
      · exact (ih _ _).trans (hf _ _ fun _ => rfl)
      · rfl
    split
    · exact (ih _ _).trans (hf _ _ fun _ => rfl)
    · refine (ih _ _).trans ?_
      split
      · exact hf _ _ fun _ => rfl
      · exact (capBreach_keeps hs hf _ _ _).trans (hf _ _ fun _ => rfl)
    · exact (ih _ _).trans (hf _ _ fun _ => rfl)
    · exact (ih _ _).trans (hf _ _ fun _ => rfl)
    · have hdec (e : Entry) : π (s.decideBranch t j e).1 = π s := hs _ _ (strands_updDs _ rfl)
      refine (ih _ _).trans (Eq.trans ?_ (hdec (s.entry t (s.stream t j).a.pc)))
      exact hf _ _ fun _ => rfl
    · exact (ih _ _).trans (hf _ _ fun _ => rfl)
    · exact (ih _ _).trans (hf _ _ fun _ => rfl)
    · split
      · exact (ih _ _).trans (hf _ _ fun _ => rfl)
      · exact hf _ _ fun _ => rfl
    · split
      · exact (ih _ _).trans (hf _ _ fun _ => rfl)
      · exact hf _ _ fun _ => rfl
    · exact (ih _ _).trans (hf _ _ fun _ => rfl)

variable (hf : ∀ (s : State) (f : Stream → Stream), π (s.updStream t j f) = π s)
include hf

/-- The present cursor. -/
theorem runP_keeps : ∀ (n : Nat) (s : State), π (State.runP n t j s) = π s := by
  intro n
  induction n with
  | zero => exact fun _ => rfl
  | succ n ih =>
    intro s
    have hquiet (u : State) : π (u.quietStep t j) = π u := hs _ _ (quietStep_strands j)
    rw [State.runP]
    dsimp only
    split
    · rfl
    split
    · refine (ih _).trans ?_
      unfold State.passLevel
      dsimp only
      split
      · exact (hs _ _ (charge_strands ..)).trans (hf _ _)
      · exact hf _ _
    · exact (ih _).trans ((hf _ _).trans (hquiet s))
    · exact (hf _ _).trans (hquiet s)
    · exact hf _ _
    · exact (ih _).trans (hf _ _)
    · exact (ih _).trans (hf _ _)
    · refine (ih _).trans ?_
      unfold State.passEnvelope
      exact (each_keeps π (List.range 14) (fun u w => u.updSh t w (fun h => { h with guard := h.guard.filter (· ≠ j) })) (fun u w => hs _ _ rfl) _).trans (hf _ _)
    · exact hf _ _
    · exact hf _ _
    · exact (ih _).trans (hf _ _)

theorem atGate_keeps : ∀ (n : Nat) (s : State), π (State.atGate n t j s) = π s := by
  intro n
  induction n with
  | zero => exact fun _ => rfl
  | succ n ih =>
    intro s
    have hrun := runP_keeps hs hf 64 s
    rw [State.atGate]
    split
    · exact hrun
    split
    · exact (ih _).trans ((hf _ _).trans hrun)
    split
    · exact hrun
    · exact (hf _ _).trans hrun

theorem drift_keeps (s : State) : π (s.drift t j) = π s := by
  unfold State.drift
  dsimp only
  split
  · exact (hs _ _ (charge_strands ..)).trans (hf _ _)
  · rfl

theorem streamBeat_keeps (s : State) : π (s.streamBeat t j) = π s := by
  have hgate : π (State.atGate 8 t j (s.updStream t j Stream.expire)) = π s := (atGate_keeps hs hf 8 _).trans (hf _ _)
  have hmove (u : State) (h : π u = π s) : π (if (u.stream t j).live then u.moveA t j else u) = π s := by
    split
    · exact (runA_keeps hs (fun s f _ => hf s f) _ _ _).trans h
    · exact h
  unfold State.streamBeat
  dsimp only
  refine hmove _ ?_
  split
  · exact (hf _ _).trans hgate
  split
  · exact (hf _ _).trans hgate
  · exact (drift_keeps hs hf _).trans ((hf _ _).trans hgate)

end

/-! ### The beat of a stream in a HOLD or a RAMP (R178, R184) -/

/-- P, program beat and state of a stream. -/
def State.playing (s : State) (t l : Nat) : Cursor × Nat × Nat := ((s.stream t l).p, (s.stream t l).pb, (s.stream t l).st)

theorem playing_of_strands (l : Nat) (s u : State) (h : u.strands t = s.strands t) : u.playing t l = s.playing t l := by
  simp only [State.playing, stream_of_ds (congrArg Prod.fst h)]

theorem playing_updStream (l : Nat) (s : State) (f : Stream → Stream) (h : Stream.keepsP f) : (s.updStream t l f).playing t l = s.playing t l := by
  rw [State.playing, updStream_same]
  exact h _

/-- P stands in an entry that takes time. -/
theorem runP_stands (n l : Nat) (h : 1 ≤ (s.stream t l).p.left) : State.runP n t l s = s := by
  cases n with
  | zero => rfl
  | succ n => exact if_pos (.inr (.inl h))

theorem atGate_stands (n l : Nat) (h : 1 ≤ (s.stream t l).p.left) (hg : (s.stream t l).p.gate = none) : State.atGate n t l s = s := by
  cases n with
  | zero => rfl
  | succ n =>
    rw [State.atGate]
    rw [runP_stands 64 l h, hg]

theorem streamBeat_moves {l : Nat} (hst : (s.stream t l).st = 2) (hl : 1 ≤ (s.stream t l).p.left) (hg : (s.stream t l).p.gate = none)
    (he : (s.stream t l).p.ended = false) : (s.streamBeat t l).playing t l = ((s.stream t l).p.beat, (s.stream t l).pb + 1, 2) := by
  have hexp : ∀ x : Stream, (x.expire.p, x.expire.pb, x.expire.st) = (x.p, x.pb, x.st) := fun _ => rfl
  have hx : (s.updStream t l Stream.expire).stream t l = (s.stream t l).expire := updStream_same _
  have hgate : State.atGate 8 t l (s.updStream t l Stream.expire) = s.updStream t l Stream.expire :=
    atGate_stands 8 l (by rw [hx]; exact hl) (by rw [hx]; exact hg)
  have hmoved : ((s.updStream t l Stream.expire).updStream t l (fun x => { x with p := x.p.beat, pb := x.pb + 1, wall := s.clk.beat + 1 })).playing t l =
      ((s.stream t l).p.beat, (s.stream t l).pb + 1, 2) := by
    rw [State.playing, updStream_same, hx]
    show ((s.stream t l).p.beat, (s.stream t l).pb + 1, (s.stream t l).st) = _
    rw [hst]
  have hdrift (u : State) : (u.drift t l).playing t l = u.playing t l := by
    unfold State.drift
    dsimp only
    split
    · exact (playing_of_strands l _ _ (charge_strands ..)).trans (playing_updStream l _ _ fun _ => rfl)
    · rfl
  have hmove (u : State) : (if (u.stream t l).live then u.moveA t l else u).playing t l = u.playing t l := by
    split
    · exact runA_keeps (π := fun u => u.playing t l) (playing_of_strands l) (fun s f h => playing_updStream l s f h) _ _ _
    · rfl
  unfold State.streamBeat
  dsimp only
  rw [hgate, hx]
  refine (hmove _).trans ?_
  rw [if_neg (by rw [show (s.stream t l).expire.p = (s.stream t l).p from rfl, he]; exact Bool.noConfusion),
    if_neg (by rw [show (s.stream t l).expire.p = (s.stream t l).p from rfl, hg]; exact fun h => h rfl)]
  exact (hdrift _).trans hmoved

end

end Sys2Proof.Machine

/-! PROOFS. The obligation on slices: loading, binding, starting, stopping, playing and branching (R168, R178, R184-R188, R201-R203). -/

namespace Sys2Proof.Machine

open Sys2Proof

section
variable {s : State} {t : Nat}

/-- A stream and the streams in a rest beat, as another stream's beat leaves them. -/
def State.apart (s : State) (t l : Nat) : Stream × List Nat := (s.stream t l, (s.ds t).resting)

theorem apart_of_strands (l : Nat) (s u : State) (h : u.strands t = s.strands t) : u.apart t l = s.apart t l := by
  obtain ⟨hs, hr⟩ := Prod.mk.inj h
  rw [State.apart, State.apart, stream_of_ds hs, hr]

theorem resting_of_strands (s u : State) (h : u.strands t = s.strands t) : (u.ds t).resting = (s.ds t).resting := congrArg Prod.snd h

theorem resting_updStream (j : Nat) (s : State) (f : Stream → Stream) : ((s.updStream t j f).ds t).resting = (s.ds t).resting := by
  rw [State.updStream, State.setStream, updDs_same]

theorem apart_updStream {j l : Nat} (hj : l ≠ j) (s : State) (f : Stream → Stream) : (s.updStream t j f).apart t l = s.apart t l := by
  rw [State.apart, updStream_ne f hj, resting_updStream]
  rfl

/-- A stream's part of a player beat. -/
def State.oneBeat (t : Nat) (u : State) (l : Nat) : State := if (u.ds t).resting.contains l then u.streamRest t l else u.streamBeat t l

theorem oneBeat_apart {j l : Nat} (hj : l ≠ j) : (State.oneBeat t s j).apart t l = s.apart t l := by
  unfold State.oneBeat
  split
  · exact apart_updStream hj s _
  · exact streamBeat_keeps (π := fun u => u.apart t l) (apart_of_strands l) (apart_updStream hj) s

/-- The streams' beats move a stream that stands in a HOLD or a RAMP by one. -/
theorem beats_move {l : Nat} (hl : l < 14) (hst : (s.stream t l).st = 2) (hleft : 1 ≤ (s.stream t l).p.left) (hg : (s.stream t l).p.gate = none)
    (he : (s.stream t l).p.ended = false) (hrest : (s.ds t).resting.contains l = false) :
    (s.each (s.liveStreams t) (State.oneBeat t)).playing t l = ((s.stream t l).p.beat, (s.stream t l).pb + 1, 2) := by
  have hlive : (s.stream t l).live = true := by rw [Stream.live, hst]; rfl
  unfold State.each State.liveStreams
  rw [List.foldl_filter]
  refine each_range_brings (fun u => u.apart t l = s.apart t l) (fun u => u.playing t l = ((s.stream t l).p.beat, (s.stream t l).pb + 1, 2))
    (fun u j => if (s.stream t j).live then State.oneBeat t u j else u) hl (fun u hu => ?_) (fun u j _ hj hu => ?_) (fun u j _ hj hu => ?_) s rfl
  · obtain ⟨hs, hr⟩ := Prod.mk.inj hu
    rw [if_pos hlive, State.oneBeat, hr, if_neg (by rw [hrest]; exact Bool.noConfusion), ← hs]
    rw [← hs] at hst hleft hg he
    exact streamBeat_moves hst hleft hg he
  · split
    · exact (oneBeat_apart hj.symm).trans hu
    · exact hu
  · split
    · have hkeep : (State.oneBeat t u j).stream t l = u.stream t l := congrArg Prod.fst (oneBeat_apart hj.symm)
      refine Eq.trans ?_ hu
      rw [State.playing, State.playing, hkeep]
    · exact hu

theorem restWires_rests {l : Nat} (h : s.restBeat t l s.clk.beat = false) : ((s.restWires t).ds t).resting.contains l = false := by
  unfold State.restWires
  dsimp only
  rw [updDs_same]
  simp [h]

theorem restWires_stream (l : Nat) : (s.restWires t).stream t l = s.stream t l := by
  refine stream_of_ds ?_ l
  unfold State.restWires
  dsimp only
  rw [updDs_same]

/-- A beat of the player moves a stream that stands in a HOLD or a RAMP by one (R178, R184). -/
theorem playerBeat_moves {l : Nat} (ht : s.tileOk t = true) (hd : s.dsState t = dsPlaying) (hl : l < 14) (hst : (s.stream t l).st = 2)
    (hleft : 1 ≤ (s.stream t l).p.left) (hg : (s.stream t l).p.gate = none) (he : (s.stream t l).p.ended = false)
    (hr : s.restBeat t l s.clk.beat = false) : s.yields (.playerBeat t) (fun u => (u.stream t l).pb = (s.stream t l).pb + 1 ∧
      (u.stream t l).p = (s.stream t l).p.beat ∧ (u.stream t l).st = 2) := by
  refine ⟨(s.playerBeat t).testsBroken t, rfl, ?_⟩
  have hmove : ((s.restWires t).each ((s.restWires t).liveStreams t) (State.oneBeat t)).playing t l =
      ((s.stream t l).p.beat, (s.stream t l).pb + 1, 2) := by
    rw [← restWires_stream (s := s) (t := t) l] at hst hleft hg he ⊢
    exact beats_move hl hst hleft hg he (restWires_rests hr)
  have hplay : s.playerBeat t = (((((s.restWires t).each ((s.restWires t).liveStreams t) (State.oneBeat t)).applyPlay t).declareAll t).endPlay t) :=
    (if_pos ht).trans (if_pos hd)
  have hend : ((s.playerBeat t).testsBroken t).playing t l = ((s.stream t l).p.beat, (s.stream t l).pb + 1, 2) := by
    rw [← hmove, hplay]
    refine playing_of_strands l _ _ (strands_of_tiles ?_)
    exact testsBroken_tiles.trans (endPlay_tiles.trans (declareAll_tiles.trans applyPlay_tiles))
  obtain ⟨hp, hpb, hs⟩ := Prod.mk.inj hend |>.imp_right Prod.mk.inj
  exact ⟨hpb, hp, hs⟩

end

/-- Settles O42: a window word, BIND and its end, UNBIND, START, STOP and the two beat boundaries each by its part's own lemma; a beat moves the
stream because the beats of the other streams leave it, and a BRANCH by one step of the look-ahead. -/
theorem slicePlays : Obligations.SlicePlays := by
  refine ⟨scheduleWindow_takes, fun u d s hq ha _ => bind_checks u d s hq ha, bindDone_binds, bindDone_fails, unbind_unbinds,
    fun u d s hq ha _ => dsStart_waits u d s hq ha, fun u d s hq ha _ => dsStop_waits u d s hq ha, playStart_plays, playStop_stops,
    fun u l s ht hd hl hst hleft hg he hr => playerBeat_moves ht hd hl hst hleft hg he hr, branch_decides⟩

end Sys2Proof.Machine

/-! PROOFS. What a program's instruction on one well leaves: its elementary steps, and the parts of the state that none of them touches
(R148-R162, R236). -/

namespace Sys2Proof.Machine

open Sys2Proof

/-- A part of the state that the elementary steps of a program's instruction on well `v` of tile `t` leave. -/
structure OpFrame {β : Type} (t v : Nat) (π : State → β) : Prop where
  active : ∀ (u : State) (x n : Nat), π (u.wr (WL_TRACK t x) WL_TRACK.ACTIVE n) = π u
  enable : ∀ (u : State) (n : Nat), π (u.wr (WL_TRACK t v) WL_TRACK.EN n) = π u
  tracking : ∀ (u : State) (x n : Nat), π (u.wr (WL_PROF_STAT t x) WL_PROF_STAT.TRACKING n) = π u
  track : ∀ (u : State) (x : Nat), π (u.updMo t x (fun m => { m with v := 0, a := 0 })) = π u
  gate : ∀ (u : State) (k : Nat) (f : Fld) (n : Nat), k < 96 → π (u.wr (PH_CLPWR t k) f n) = π u
  cl : ∀ (u : State) (k : Nat) (f : ClusterX → ClusterX), π (u.updCl t k f) = π u
  stage : ∀ (u : State) (n : Nat), π (u.wr (WL_SETPT t v) WL_SETPT.STAGE n) = π u
  cmd : ∀ (u : State) (n : Nat), π (u.wr (WL_SETPT t v) WL_SETPT.V_CMD n) = π u
  prof : ∀ (u : State) (f : Fld) (n : Nat), π (u.wr (WL_PROF_STAT t v) f n) = π u
  link : ∀ (u : State) (p : Nat) (f : Fld) (n : Nat), p < 4 → π (u.wr (PM_LINK t v p) f n) = π u
  prime : ∀ (u : State) (c : Nat) (f : Fld) (n : Nat), c < 3 → π (u.wr (PH_PRIME t c) f n) = π u
  win : ∀ (u : State) (n : Nat), π (u.wr (AD_WIN t v) AD_WIN.RUN n) = π u
  full : ∀ (u : State) (f : Fld) (n : Nat), π (u.wr (AD_STAT t) f n) = π u
  awake : ∀ (u : State) (n : Nat), π (u.wr (PH_PWR t) PH_PWR.STATE n) = π u
  power : ∀ (u : State), π (u.updTile t (fun x => { x with sar := { x.sar with c2 := { x.sar.c2 with pos := 0 } } })) = π u
  phase : ∀ (u : State) (x n : Nat), π (u.wr (WL_TIE t x) WL_TIE.PHASE n) = π u
  sh : ∀ (u : State) (x : Nat) (f : ShareX → ShareX), π (u.updSh t x f) = π u
  pump : ∀ (u : State) (p : Nat) (f : PumpX → PumpX), π (u.updPump t v p f) = π u
  mo : ∀ (u : State) (f : Motion → Motion), π (u.updMo t v f) = π u
  te : ∀ (u : State) (f : TestX → TestX), π (u.updTe t v f) = π u
  test : ∀ (u : State) (f : Fld) (n : Nat), π (u.wr (WL_TEST t v) f n) = π u
  svc : ∀ (u : State) (p : Nat), p < 4 → π (u.bump (PM_SVC t v p)) = π u
  share : ∀ (u : State) (x : Nat) (f : Fld) (n : Nat), π (u.wr (WL_SHARE t x) f n) = π u
  told : ∀ (u : State) (m : Nat) (l : List (Nat × Nat)), π (u.setSq m { u.sq m with wells := l }) = π u

namespace OpFrame

section
variable {β : Type} {t v : Nat} {π : State → β} (F : OpFrame t v π)
include F

theorem report (s : State) (x op : Nat) (ok : Bool) : π (s.report t x op ok) = π s := by
  refine each_keeps π (List.range 8) (fun u n => if u.rd (SQ_STAT n) SQ_STAT.STATE = 2 ∧ (u.sq n).op = op then
    u.setSq n { u.sq n with wells := (u.sq n).wells.map (fun e => if e.1 = 16 * t + x ∧ e.2 = 0 then (e.1, if ok then 1 else 2) else e) } else u) (fun u n => ?_) s
  split
  · exact F.told ..
  · rfl

theorem gateOn (s : State) {k : Nat} (hk : k < 96) (f : Fld) : π (s.gateOn t k f) = π s := by
  unfold State.gateOn
  rw [F.cl, F.gate _ _ _ _ hk, F.gate _ _ _ _ hk, F.gate _ _ _ _ hk]

theorem gates (s : State) (f : Fld) : π (s.each (fedClusters v) (fun u k => u.gateOn t k f)) = π s :=
  each_mem_keeps π _ (fun u k => u.gateOn t k f) (fun u _ hk => F.gateOn u (fedClusters_lt hk) f) s

theorem clgtOne (s : State) (a : Nat) : π (s.clgtOne t v a) = π s := by
  refine each_mem_keeps π _ (fun u k => if bit a 0 then u.gateOn t k PH_CLPWR.C_SEQ else u.gateOff t k PH_CLPWR.C_SEQ) (fun u k hk => ?_) s
  split
  · exact F.gateOn u (fedClusters_lt hk) _
  · exact F.gate _ _ _ _ (fedClusters_lt hk)

theorem endTracks (s : State) (x : Nat) : π (s.endTracks t x) = π s := by
  refine each_keeps π _ (fun u f => ((u.wr (WL_TRACK t f) WL_TRACK.ACTIVE 0).wr (WL_PROF_STAT t f) WL_PROF_STAT.TRACKING 0).updMo t f
    (fun m => { m with v := 0, a := 0 })) (fun u f => ?_) s
  rw [F.track, F.tracking, F.active]

theorem dropTracks (s : State) (x : Nat) : π (s.dropTracks t x) = π s := by
  unfold State.dropTracks
  dsimp only
  split
  · rw [F.track, F.tracking, F.active, F.endTracks]
  · exact F.endTracks s x

theorem trkOne (s : State) (on : Bool) : π (s.trkOne t v on) = π s := by
  unfold State.trkOne
  dsimp only
  split
  · rw [F.track, F.tracking, F.active]
    exact F.enable ..
  · exact F.enable ..

theorem trackOn (s : State) (ws : List Nat) : π (s.trackOn ws t v) = π s := by
  unfold State.trackOn
  dsimp only
  split
  · rw [F.mo, F.active]
  · rfl

theorem measuring (s : State) (l : List Nat) (b : Bool) : π (s.each l (fun u p => u.updPump t v p (fun q => { q with measuring := b }))) = π s :=
  each_keeps π l (fun u p => u.updPump t v p (fun q => { q with measuring := b })) (fun u p => F.pump u p _) s

theorem primeViewOf (s : State) : π (s.primeViewOf t v) = π s := by
  unfold State.primeViewOf State.primeView
  split
  next hv =>
    have hc : v / 4 < 3 := by omega
    dsimp only
    rw [wri_eq, F.prime _ _ _ _ hc, F.prime _ _ _ _ hc, F.prime _ _ _ _ hc]
  · rfl

theorem unprime (s : State) : π (s.unprime t v) = π s := by
  unfold State.unprime
  split
  · dsimp only
    rw [F.primeViewOf, F.measuring, F.mo, F.active, F.win, F.endTracks]
    exact F.stage ..
  · rfl

theorem startUnload (s : State) (n : Nat) : π (s.startUnload t n) = π s := by
  refine each_keeps π [(tieWells n).1, (tieWells n).2] _ (fun u w => ?_) s
  split_ifs
  · exact F.sh ..
  · rw [F.sh, F.phase]
  · rfl

theorem unloadTies (s : State) (x : Nat) : π (s.unloadTies t x) = π s := unloadTies_keeps π (fun u n => F.startUnload u n) x

theorem setPmd (s : State) (b : Bool) : π (s.setPmd t v b) = π s :=
  each_mem_keeps π _ (fun u p => u.wrb (PM_LINK t v p) PM_LINK.PMD b) (fun u _ hp => F.link u _ _ _ (pumpsOf_lt s hp)) s

theorem parkBegin (s : State) (b : Bool) : π (s.parkBegin t v b) = π s := by
  unfold State.parkBegin
  dsimp only
  rw [F.primeViewOf, F.mo, F.setPmd, F.prof, F.prof]
  exact (F.stage _ _).trans (F.gates s _)

theorem parkOrWait (s : State) (b : Bool) : π (s.parkOrWait t v b) = π s := by
  unfold State.parkOrWait
  dsimp only
  split
  · rw [F.mo]
    unfold State.on
    split
    · exact (F.unloadTies _ _).trans (F.dropTracks s v)
    · exact F.dropTracks s v
  · exact (F.parkBegin _ b).trans (F.dropTracks s v)

theorem parkOne (s : State) : π (s.parkOne t v) = π s := by
  unfold State.parkOne
  split_ifs
  · exact (F.report ..).trans (F.unprime s)
  · rfl
  · exact (F.parkOrWait _ _).trans ((F.report ..).trans (F.report ..))

theorem fullPower (s : State) : π (s.fullPower t) = π s := by
  unfold State.fullPower
  split
  · rw [F.power, F.full, F.full]
  · rfl

theorem primeBegin (s : State) : π (s.primeBegin t v) = π s := by
  unfold State.primeBegin
  dsimp only
  rw [F.measuring, F.mo, F.win, State.setStage, F.stage, F.gates]
  split
  · exact (F.awake _ _).trans (F.fullPower s)
  · exact F.fullPower s

theorem primeTake (s : State) : π (s.primeTake t v) = π s := by
  unfold State.primeTake
  split
  · exact F.mo ..
  · rfl

theorem primeOne (s : State) (b : Bool) : π (s.primeOne t v b) = π s := by
  unfold State.primeOne
  split
  · dsimp only
    rw [F.mo]
    split
    · exact (F.primeViewOf _).trans (F.primeBegin s)
    · rfl
  · rfl

theorem recentre (s : State) : π (s.recentre t v) = π s := by
  have hzero : π (s.zeroTrims t v) = π s := by
    refine each_keeps π (s.pumpsOf t v) (fun u p => if (u.service t v p == 1) || (u.pump t v p).inTest then u else
      u.wri (WL_SHARE t v) (shareFld p) 0) (fun u p => ?_) s
    split
    · rfl
    · rw [wri_eq, F.share]
  have hcentre (u : State) (raw : List ((Nat × Nat) × Int)) : π (u.centre t v raw) = π u := by
    unfold State.centre
    dsimp only
    generalize meanI _ = m
    refine each_keeps π raw _ (fun x e => ?_) u
    rw [wri_eq, F.share]
  exact (hcentre _ _).trans hzero

theorem testBegin (s : State) {p : Nat} (hp : p < 4) (k : Nat) (b : Bool) : π (s.testBegin t v p k b) = π s := by
  unfold State.testBegin
  dsimp only
  split
  · rw [F.mo, F.recentre, F.pump, F.te, F.link _ _ _ _ hp, F.svc _ _ hp, F.test, F.test, F.test]
  · rw [F.recentre, F.pump, F.te, F.link _ _ _ _ hp, F.svc _ _ hp, F.test, F.test, F.test]

theorem testOne (s : State) {p : Nat} (hp : p < 4) : π (s.testOne t v p).1 = π s := by
  unfold State.testOne
  dsimp only
  generalize (if s.stopped t then 0 else s.testKind t v p) = k
  split_ifs
  · exact F.te s (fun x => { x with queued := some p })
  · exact (F.te (s.unloadTies t v) (fun x => { x with queued := some p })).trans (F.unloadTies s v)
  · exact F.test s _ _
  · exact F.testBegin s hp _ _

theorem setProf (s : State) (p : Nat) : π (s.setProf t v p) = π s := by
  unfold State.setProf
  dsimp only
  split
  · rw [F.prof, F.mo]
  · exact F.mo ..

theorem hystOne (s : State) : π (s.hystOne t v) = π s := by
  unfold State.hystOne
  split_ifs
  · exact F.mo ..
  · exact (F.mo ..).trans (F.unloadTies s v)
  · exact F.mo ..
  · rfl

theorem tieHoldOne (s : State) (on : Bool) : π (s.tieHoldOne t v on) = π s := by
  unfold State.tieHoldOne
  dsimp only
  split_ifs
  · exact (F.unloadTies _ _).trans (F.mo ..)
  · exact F.mo ..
  · rfl

theorem pmodeOne (s : State) (p : Nat) : π (s.pmodeOne t v p) = π s := by
  unfold State.pmodeOne
  dsimp only
  split
  · exact (F.setPmd ..).trans (F.mo ..)
  · exact F.mo ..

end

end OpFrame

/-! ### What is read of registers that such steps leave -/

/-- The values of the listed fields. -/
def State.fieldsAt (s : State) (l : List (Nat × Fld)) : List Nat := l.map (fun e => s.rd e.1 e.2)

section
variable {s u : State} {l : List (Nat × Fld)}

theorem rd_of_fields {a : Nat} {f : Fld} (h : u.fieldsAt l = s.fieldsAt l) (he : (a, f) ∈ l) : u.rd a f = s.rd a f := List.map_inj_left.mp h (a, f) he

theorem flag_of_fields {a : Nat} {f : Fld} (h : u.fieldsAt l = s.fieldsAt l) (he : (a, f) ∈ l) : u.flag a f = s.flag a f := by
  rw [State.flag, State.flag, rd_of_fields h he]

theorem fieldsAt_wr (hok : ∀ e ∈ l, e.2.ok = true) {a : Nat} {f : Fld} (n : Nat) (h : ∀ e ∈ l, e.1 ≠ a ∨ f.apart e.2 = true) :
    (s.wr a f n).fieldsAt l = s.fieldsAt l := by
  refine List.map_congr_left fun e he => ?_
  rcases h e he with hne | hap
  · exact rd_wr_ne _ _ _ _ _ _ hne
  · exact rd_wr_fld _ _ _ _ _ _ (hok e he) hap

theorem fieldsAt_bump {a : Nat} (h : ∀ e ∈ l, e.1 ≠ a ∧ e.1 ∉ sideRegs) : (s.bump a).fieldsAt l = s.fieldsAt l :=
  List.map_congr_left fun e he => rd_of_reg (bump_reg _ _ _ (h e he).1 (h e he).2) _

theorem fieldsAt_of_regs (h : u.regs = s.regs) : u.fieldsAt l = s.fieldsAt l := by simp only [State.fieldsAt, State.rd, State.reg, h]

end

end Sys2Proof.Machine

/-! PROOFS. What an instruction on one well leaves of the sequencers' claims, and of every other well (R160-R162). -/

namespace Sys2Proof.Machine

open Sys2Proof

/-! ### The claims of the sequencers -/

/-- Fields of the Wellhead, or of a well's ownership. -/
def claimsOnly (l : List (Nat × Fld)) (u w : Nat) : Prop :=
  ∀ e ∈ l, e.2.ok = true ∧ (e.1 < 0x100000 ∧ e.1 ∉ sideRegs ∨ e = (WL_SETPT u w, WL_SETPT.OWNED) ∨ e = (WL_SETPT u w, WL_SETPT.OWNER))

section
variable {s : State} {l : List (Nat × Fld)} {u w : Nat}

theorem claims_wr (h : claimsOnly l u w) {a : Nat} {f : Fld} (n : Nat) (ha : 0x100000 ≤ a)
    (hs : WL_SETPT u w ≠ a ∨ f = WL_SETPT.STAGE ∨ f = WL_SETPT.V_CMD) : (s.wr a f n).fieldsAt l = s.fieldsAt l := by
  refine fieldsAt_wr (fun e he => (h e he).1) n fun e he => ?_
  obtain ⟨-, ⟨hlt, -⟩ | he⟩ := h e he
  · exact .inl (Nat.ne_of_lt (Nat.lt_of_lt_of_le hlt ha))
  · have hat : e.1 = WL_SETPT u w := by rcases he with rfl | rfl <;> rfl
    rcases hs with hne | rfl | rfl
    · exact .inl (hat ▸ hne)
    · right; rcases he with rfl | rfl <;> rfl
    · right; rcases he with rfl | rfl <;> rfl

/-- Registers of the wells' blocks other than WL_SETPT. -/
theorem claims_block (h : claimsOnly l u w) {a : Nat} (f : Fld) (n t x o : Nat) (ho : o < 0x100 ∧ o ≠ 0x50) (ha : a = wlBase t x + o) :
    (s.wr a f n).fieldsAt l = s.fieldsAt l := by
  subst ha
  exact claims_wr h n (by simp only [wlBase, phBase]; omega) (.inl (by simp only [WL_SETPT, wlBase, phBase]; omega))

/-- Registers of a Pumphouse below its wells' blocks. -/
theorem claims_tile (h : claimsOnly l u w) {a : Nat} (f : Fld) (n t o : Nat) (hw : w < 14) (ho : o < 0x1000) (ha : a = phBase t + o) :
    (s.wr a f n).fieldsAt l = s.fieldsAt l := by
  subst ha
  exact claims_wr h n (by simp only [phBase]; omega) (.inl (by simp only [WL_SETPT, wlBase, phBase]; omega))

theorem claims_frame (h : claimsOnly l u w) {t v : Nat} (hv : v < 14) (hw : w < 14) : OpFrame t v (fun s : State => s.fieldsAt l) where
  active _ x n := claims_block h _ n t x 0x57 (by decide) rfl
  enable _ n := claims_block h _ n t v 0x57 (by decide) rfl
  tracking _ x n := claims_block h _ n t x 0x51 (by decide) rfl
  track _ _ := fieldsAt_of_regs rfl
  gate _ k f n hk := claims_tile h f n t (0x300 + k) hw (by omega) (Nat.add_assoc ..)
  cl _ _ _ := fieldsAt_of_regs rfl
  stage _ n := claims_wr h n (by simp only [WL_SETPT, wlBase, phBase]; omega) (.inr (.inl rfl))
  cmd _ n := claims_wr h n (by simp only [WL_SETPT, wlBase, phBase]; omega) (.inr (.inr rfl))
  prof _ f n := claims_block h f n t v 0x51 (by decide) rfl
  link _ p f n hp := claims_block h f n t v (0x40 + p * 4) (by omega) (Nat.add_assoc ..)
  prime _ c f n hc := claims_tile h f n t (0x204 + c) hw (by omega) (Nat.add_assoc ..)
  win _ n := claims_tile h _ n t (0xC00 + v) hw (by omega) (Nat.add_assoc ..)
  full _ f n := claims_tile h f n t 0xC21 hw (by decide) rfl
  awake _ n := claims_tile h _ n t 0x270 hw (by decide) rfl
  power _ := fieldsAt_of_regs rfl
  phase _ x n := claims_block h _ n t x 0x60 (by decide) rfl
  sh _ _ _ := fieldsAt_of_regs rfl
  pump _ _ _ := fieldsAt_of_regs rfl
  mo _ _ := fieldsAt_of_regs rfl
  te _ _ := fieldsAt_of_regs rfl
  test _ f n := claims_block h f n t v 0x64 (by decide) rfl
  svc _ p _ := by
    refine fieldsAt_bump fun e he => ?_
    obtain ⟨-, ⟨hlt, hside⟩ | he⟩ := h e he
    · exact ⟨fun e => absurd (e ▸ hlt) (by simp only [PM_SVC, wlBase, phBase]; omega), hside⟩
    · have hat : e.1 = WL_SETPT u w := by rcases he with rfl | rfl <;> rfl
      rw [hat]
      exact ⟨by simp only [WL_SETPT, PM_SVC, wlBase, phBase]; omega, off_sideRegs (by simp only [WL_SETPT, wlBase, phBase]; omega)⟩
  share _ x f n := claims_block h f n t x 0x3B (by decide) rfl
  told _ _ _ := fieldsAt_of_regs rfl

end

/-! ### Another well -/

/-- Offsets in a well's block and fields there that an instruction on another well leaves: in WL_SETPT, WL_PROF_STAT, WL_TRACK, WL_TIE, WL_TEST,
and of each pump in PM_LINK and PM_STAT. -/
def wellPlaces : List (Nat × Fld) :=
  [(0x50, WL_SETPT.STAGE), (0x50, WL_SETPT.V_CMD), (0x51, WL_PROF_STAT.SET), (0x57, WL_TRACK.TRK_DEV), (0x57, WL_TRACK.EN), (0x60, WL_TIE.PARTNER),
    (0x64, WL_TEST.BLOCKED), (0x40, PM_LINK.PMD), (0x44, PM_LINK.PMD), (0x48, PM_LINK.PMD), (0x4C, PM_LINK.PMD), (0x42, PM_STAT.SERVICE),
    (0x46, PM_STAT.SERVICE), (0x4A, PM_STAT.SERVICE), (0x4E, PM_STAT.SERVICE)]

/-- The same as registers of well `w` of tile `u`, with its converter's RUN and the tile's STOP. -/
def wellFields (u w : Nat) : List (Nat × Fld) :=
  (AD_WIN u w, AD_WIN.RUN) :: (TH_STAT u, TH_STAT.STOP) :: wellPlaces.map (fun q => (wlBase u w + q.1, q.2))

theorem wellPlaces_fits {q : Nat × Fld} (h : q ∈ wellPlaces) : q.1 < 0x100 ∧ q.2.ok = true :=
  (by decide : ∀ q ∈ wellPlaces, q.1 < 0x100 ∧ q.2.ok = true) q h

/-- What the instructions of programs set in a well's motion. -/
def Motion.orders (m : Motion) : Nat × Nat × Bool × Bool × Bool := (m.prof, m.pmode, m.tieHold, m.hystReq, m.handReq)

/-- What an instruction on another well leaves of well `w` of tile `u`. -/
def State.besides (s : State) (u w : Nat) : List Nat × TestX × (Nat × Nat × Bool × Bool × Bool) × ImageCfg × Fuses :=
  (s.fieldsAt (wellFields u w), s.te u w, (s.mo u w).orders, s.img, s.fuses)

section
variable {s : State} {u w : Nat}

theorem wellFields_cases {e : Nat × Fld} (he : e ∈ wellFields u w) : e = (AD_WIN u w, AD_WIN.RUN) ∨ e = (TH_STAT u, TH_STAT.STOP) ∨
    ∃ q ∈ wellPlaces, e = (wlBase u w + q.1, q.2) := by
  simp only [wellFields, List.mem_cons, List.mem_map] at he
  rcases he with rfl | rfl | ⟨q, hq, rfl⟩
  · exact .inl rfl
  · exact .inr (.inl rfl)
  · exact .inr (.inr ⟨q, hq, rfl⟩)

theorem wellFields_ok {e : Nat × Fld} (he : e ∈ wellFields u w) : e.2.ok = true := by
  rcases wellFields_cases he with rfl | rfl | ⟨q, hq, rfl⟩
  · rfl
  · rfl
  · exact (wellPlaces_fits hq).2

/-- A register of a Pumphouse below its wells' blocks, neither TH_STAT nor the well's converter. -/
theorem fields_tile (f : Fld) (n t o : Nat) (hw : w < 14) (ho : o < 0x1000 ∧ o ≠ 0x901) (hwin : t = u → o ≠ 0xC00 + w) {a : Nat}
    (hat : a = phBase t + o) : (s.wr a f n).fieldsAt (wellFields u w) = s.fieldsAt (wellFields u w) := by
  subst hat
  refine fieldsAt_wr (fun e he => wellFields_ok he) n fun e he => .inl ?_
  rcases wellFields_cases he with rfl | rfl | ⟨q, hq, rfl⟩
  · simp only [AD_WIN, phBase]; omega
  · simp only [TH_STAT, phBase]; omega
  · have hq100 := (wellPlaces_fits hq).1
    simp only [wlBase, phBase]; omega

/-- A register in the block of another well. -/
theorem fields_other {t v : Nat} (hv : v < 14) (hw : w < 14) (hne : 16 * t + v ≠ 16 * u + w) (f : Fld) (n o : Nat) (ho : o < 0x100) {a : Nat}
    (hat : a = wlBase t v + o) : (s.wr a f n).fieldsAt (wellFields u w) = s.fieldsAt (wellFields u w) := by
  subst hat
  refine fieldsAt_wr (fun e he => wellFields_ok he) n fun e he => .inl ?_
  rcases wellFields_cases he with rfl | rfl | ⟨q, hq, rfl⟩
  · simp only [AD_WIN, wlBase, phBase]; omega
  · simp only [TH_STAT, wlBase, phBase]; omega
  · have hq100 := (wellPlaces_fits hq).1
    simp only [wlBase, phBase]; omega

/-- Different offsets of two wells' blocks. -/
theorem wlBase_offset {t x p o : Nat} (hp : p < 0x100) (ho : o < 0x100) (h : p ≠ o) : wlBase u w + p ≠ wlBase t x + o := by
  simp only [wlBase, phBase]
  omega

/-- A field of any well's block, apart from what is read at its offset. -/
theorem fields_block {f : Fld} (n t x o : Nat) (ho : 14 ≤ o ∧ o < 0x100) (hw : w < 14) (ha : ∀ q ∈ wellPlaces, q.1 = o → f.apart q.2 = true)
    {a : Nat} (hat : a = wlBase t x + o) : (s.wr a f n).fieldsAt (wellFields u w) = s.fieldsAt (wellFields u w) := by
  subst hat
  refine fieldsAt_wr (fun e he => wellFields_ok he) n fun e he => ?_
  rcases wellFields_cases he with rfl | rfl | ⟨q, hq, rfl⟩
  · left; simp only [AD_WIN, wlBase, phBase]; omega
  · left; simp only [TH_STAT, wlBase, phBase]; omega
  · by_cases heq : q.1 = o
    · exact .inr (ha q hq heq)
    · exact .inl (wlBase_offset (wellPlaces_fits hq).1 ho.2 heq)

theorem besides_of_fields {s' : State} (h1 : s'.fieldsAt (wellFields u w) = s.fieldsAt (wellFields u w)) (h2 : s'.wells = s.wells)
    (h3 : s'.img = s.img) (h4 : s'.fuses = s.fuses) : s'.besides u w = s.besides u w := by
  have hwell : s'.well u w = s.well u w := by rw [State.well, State.well, h2]
  rw [State.besides, State.besides, h1, h3, h4, State.te, State.te, State.mo, State.mo, hwell]

theorem besides_of_mo {s' : State} (h1 : s'.regs = s.regs) (h2 : s'.te u w = s.te u w) (h3 : (s'.mo u w).orders = (s.mo u w).orders)
    (h4 : s'.img = s.img) (h5 : s'.fuses = s.fuses) : s'.besides u w = s.besides u w := by
  rw [State.besides, State.besides, fieldsAt_of_regs h1, h2, h3, h4, h5]

theorem updMo_orders (t v : Nat) (f : Motion → Motion) (h : ∀ m, (f m).orders = m.orders) : (s.updMo t v f).besides u w = s.besides u w := by
  refine besides_of_mo rfl (updMo_te s t w v u f) ?_ rfl rfl
  simp only [State.mo, State.updMo, well_setWell]
  split
  next e => rw [h]; simp only [State.well, e]
  · rfl

/-- The steps of an instruction on another well. -/
theorem besides_frame {t v : Nat} (hv : v < 14) (hw : w < 14) (hne : 16 * t + v ≠ 16 * u + w) : OpFrame t v (fun s : State => s.besides u w) where
  active _ x n := besides_of_fields (fields_block n t x 0x57 (by decide) hw (by decide) rfl) rfl rfl rfl
  enable _ n := besides_of_fields (fields_other hv hw hne _ n 0x57 (by decide) rfl) rfl rfl rfl
  tracking _ x n := besides_of_fields (fields_block n t x 0x51 (by decide) hw (by decide) rfl) rfl rfl rfl
  track _ x := updMo_orders t x _ fun _ => rfl
  gate _ k f n hk := besides_of_fields (fields_tile f n t (0x300 + k) hw (by omega) (by omega) (Nat.add_assoc ..)) rfl rfl rfl
  cl _ _ _ := rfl
  stage _ n := besides_of_fields (fields_other hv hw hne _ n 0x50 (by decide) rfl) rfl rfl rfl
  cmd _ n := besides_of_fields (fields_other hv hw hne _ n 0x50 (by decide) rfl) rfl rfl rfl
  prof _ f n := besides_of_fields (fields_other hv hw hne f n 0x51 (by decide) rfl) rfl rfl rfl
  link _ p f n hp := besides_of_fields (fields_other hv hw hne f n (0x40 + p * 4) (by omega) (Nat.add_assoc ..)) rfl rfl rfl
  prime _ c f n hc := besides_of_fields (fields_tile f n t (0x204 + c) hw (by omega) (by omega) (Nat.add_assoc ..)) rfl rfl rfl
  win _ n := besides_of_fields (fields_tile _ n t (0xC00 + v) hw (by omega) (by omega) (Nat.add_assoc ..)) rfl rfl rfl
  full _ f n := besides_of_fields (fields_tile f n t 0xC21 hw (by decide) (by omega) rfl) rfl rfl rfl
  awake _ n := besides_of_fields (fields_tile _ n t 0x270 hw (by decide) (by omega) rfl) rfl rfl rfl
  power _ := rfl
  phase _ x n := besides_of_fields (fields_block n t x 0x60 (by decide) hw (by decide) rfl) rfl rfl rfl
  sh _ x f := by
    refine besides_of_mo rfl ?_ ?_ rfl rfl
    · simp only [State.te, State.updSh, well_setWell]
      split
      next e => simp only [State.well, e]
      · rfl
    · simp only [State.mo, State.updSh, well_setWell]
      split
      next e => simp only [State.well, e]
      · rfl
  pump _ _ _ := rfl
  mo _ f := by
    have hwell (u' : State) : (u'.updMo t v f).well u w = u'.well u w := by rw [State.updMo, well_setWell, if_neg hne.symm]
    exact besides_of_mo rfl (congrArg WellX.te (hwell _)) (congrArg (fun x : WellX => x.mo.orders) (hwell _)) rfl rfl
  te _ f := by
    have hwell (u' : State) : (u'.updTe t v f).well u w = u'.well u w := by rw [State.updTe, well_setWell, if_neg hne.symm]
    exact besides_of_mo rfl (congrArg WellX.te (hwell _)) (congrArg (fun x : WellX => x.mo.orders) (hwell _)) rfl rfl
  test _ f n := besides_of_fields (fields_other hv hw hne f n 0x64 (by decide) rfl) rfl rfl rfl
  svc u' p hp := by
    have hrest := bump_rest u' (PM_SVC t v p)
    refine besides_of_fields (fieldsAt_bump fun e he => ?_) (congrArg (·.wells) hrest :) (congrArg (·.img) hrest :) (congrArg (·.fuses) hrest :)
    rcases wellFields_cases he with rfl | rfl | ⟨q, hq, rfl⟩
    · exact ⟨by simp only [AD_WIN, PM_SVC, wlBase, phBase]; omega, off_sideRegs (by simp only [AD_WIN, phBase]; omega)⟩
    · exact ⟨by simp only [TH_STAT, PM_SVC, wlBase, phBase]; omega, off_sideRegs (by simp only [TH_STAT, phBase]; omega)⟩
    · have hq100 := (wellPlaces_fits hq).1
      exact ⟨by simp only [PM_SVC, wlBase, phBase]; omega, off_sideRegs (by simp only [wlBase, phBase]; omega)⟩
  share _ x f n := besides_of_fields (fields_block n t x 0x3B (by decide) hw (fun q hq e => absurd e ((by decide : ∀ q ∈ wellPlaces, q.1 ≠ 0x3B) q hq)) rfl) rfl rfl rfl
  told _ _ _ := rfl

end

end Sys2Proof.Machine

/-! PROOFS. What a well instruction does to the wells it selects: ownership, the same step on each of them, conflict (R160-R162). -/

namespace Sys2Proof.Machine

open Sys2Proof

/-- A part of an instruction made of the elementary steps on its well. -/
def OpStep (f : State → Nat → Nat → State) : Prop :=
  ∀ (t v : Nat) (β : Type) (π : State → β), OpFrame t v π → ∀ x : State, π (f x t v) = π x

/-- Wells of tiles, each in one of the slots 0 to 13. -/
def slots (ws : List Nat) : Prop := ∀ g ∈ ws, g % 16 < 14

section
variable {s x y : State} {u w n : Nat}

theorem selected_slots (n i : Nat) : slots (s.selected n i) := by
  intro g hg
  simp only [State.selected, List.mem_flatMap, List.mem_map, List.mem_filter, List.mem_range] at hg
  obtain ⟨t, -, v, ⟨hv, -⟩, rfl⟩ := hg
  omega

/-! ### What is read of a well in its view -/

theorem rd_of_besides (h : y.besides u w = x.besides u w) {a : Nat} {f : Fld} (he : (a, f) ∈ wellFields u w) : y.rd a f = x.rd a f :=
  rd_of_fields (congrArg Prod.fst h) he

theorem flag_of_besides (h : y.besides u w = x.besides u w) {a : Nat} {f : Fld} (he : (a, f) ∈ wellFields u w) : y.flag a f = x.flag a f :=
  flag_of_fields (congrArg Prod.fst h) he

theorem te_of_besides (h : y.besides u w = x.besides u w) : y.te u w = x.te u w := congrArg (·.2.1) h

theorem orders_of_besides (h : y.besides u w = x.besides u w) : (y.mo u w).orders = (x.mo u w).orders := congrArg (·.2.2.1) h

theorem installed_of_besides (h : y.besides u w = x.besides u w) : y.installed u w = x.installed u w := by
  have h1 : y.img = x.img := congrArg (·.2.2.2.1) h
  have h2 : y.fuses = x.fuses := congrArg (·.2.2.2.2) h
  rw [State.installed, State.installed, State.topoWord, State.topoWord, h1, h2]

theorem ratedN_of_besides (h : y.besides u w = x.besides u w) : y.ratedN u w = x.ratedN u w := by
  have h1 : y.img = x.img := congrArg (·.2.2.2.1) h
  have h2 : y.fuses = x.fuses := congrArg (·.2.2.2.2) h
  rw [State.ratedN, State.ratedN, State.topoWord, State.topoWord, h1, h2]

theorem stage_in : (WL_SETPT u w, WL_SETPT.STAGE) ∈ wellFields u w :=
  List.mem_cons_of_mem _ (List.mem_cons_of_mem _ (List.mem_map.mpr ⟨(0x50, WL_SETPT.STAGE), by decide, rfl⟩))

/-- A place of the well's block that the view reads. -/
theorem place_in {q : Nat × Fld} (h : q ∈ wellPlaces) : (wlBase u w + q.1, q.2) ∈ wellFields u w :=
  List.mem_cons_of_mem _ (List.mem_cons_of_mem _ (List.mem_map.mpr ⟨q, h, rfl⟩))

theorem stage_of_besides (h : y.besides u w = x.besides u w) : y.stage u w = x.stage u w := rd_of_besides h stage_in

theorem tied_of_besides (h : y.besides u w = x.besides u w) : y.tied u w = x.tied u w := by
  have hp : y.rd (WL_TIE u w) WL_TIE.PARTNER = x.rd (WL_TIE u w) WL_TIE.PARTNER := rd_of_besides h (place_in (q := (0x60, WL_TIE.PARTNER)) (by decide))
  rw [State.tied, State.tied, hp]

theorem stopped_of_besides (h : y.besides u w = x.besides u w) : y.stopped u = x.stopped u := by
  rw [State.stopped, State.stopped, rd_of_besides h (List.mem_cons_of_mem _ List.mem_cons_self)]

/-! ### The same step on every selected well -/

variable {f : State → Nat → Nat → State} {ws : List Nat}

/-- The claims of the sequencers stand. -/
theorem opStep_claims (hf : OpStep f) (hws : slots ws) (hw : w < 14) {l : List (Nat × Fld)} (h : claimsOnly l u w) (s : State) :
    (s.each ws (fun x g => f x (g / 16) (g % 16))).fieldsAt l = s.fieldsAt l :=
  each_mem_keeps (fun x => x.fieldsAt l) ws (fun x g => f x (g / 16) (g % 16)) (fun x g hg => hf _ _ _ _ (claims_frame h (hws g hg) hw) x) s

theorem slot_eq {g : Nat} (hw : w < 14) (h : 16 * (g / 16) + g % 16 = 16 * u + w) : g / 16 = u ∧ g % 16 = w := by omega

/-- What the step on one well brings about there, whether it is the first or not, and no other well's step takes away. -/
theorem opStep_brings (hf : OpStep f) (hws : slots ws) (hw : w < 14) (hg : 16 * u + w ∈ ws) (Q : State → Prop)
    (hQ : ∀ x y : State, y.besides u w = x.besides u w → Q x → Q y) (s : State)
    (hdo : ∀ x : State, (x.besides u w = s.besides u w ∨ Q x) → Q (f x u w)) : Q (s.each ws (fun x g => f x (g / 16) (g % 16))) := by
  have hother (x : State) (g : Nat) (hg : g ∈ ws) : (g / 16 = u ∧ g % 16 = w) ∨ (f x (g / 16) (g % 16)).besides u w = x.besides u w := by
    by_cases he : 16 * (g / 16) + g % 16 = 16 * u + w
    · exact .inl (slot_eq hw he)
    · exact .inr (hf _ _ _ _ (besides_frame (hws g hg) hw he) x)
  refine each_list_brings (fun x => x.besides u w = s.besides u w ∨ Q x) Q _ (x := 16 * u + w) (fun x hx => ?_) (fun x g hg hx => ?_) (fun x g hg _ hx => ?_)
    hg s (.inl rfl)
  · have h1 : (16 * u + w) / 16 = u := by omega
    have h2 : (16 * u + w) % 16 = w := by omega
    rw [h1, h2]
    exact hdo x hx
  · rcases hother x g hg with ⟨h1, h2⟩ | h
    · rw [h1, h2]
      exact .inr (hdo x hx)
    · exact hx.imp h.trans (hQ x _ h)
  · rcases hother x g hg with ⟨h1, h2⟩ | h
    · rw [h1, h2]
      exact hdo x (.inr hx)
    · exact hQ x _ h hx

/-! ### Ownership -/

/-- One well's claim. -/
def State.ownOne (n : Nat) (u : State) (g : Nat) : State :=
  (u.wr (WL_SETPT (g / 16) (g % 16)) WL_SETPT.OWNED 1).wr (WL_SETPT (g / 16) (g % 16)) WL_SETPT.OWNER n

theorem own_eq (n : Nat) (ws : List Nat) :
    s.own n ws = (s.each ws (State.ownOne n)).updSq n (fun q => { q with owned := q.owned ++ ws.filter (fun g => !q.owned.contains g) }) := rfl

theorem ownOne_owns (hn : n < 8) (hw : w < 14) : (s.ownOne n (16 * u + w)).owned u w = true ∧ (s.ownOne n (16 * u + w)).rd (WL_SETPT u w) WL_SETPT.OWNER = n := by
  have h1 : (16 * u + w) / 16 = u := by omega
  have h2 : (16 * u + w) % 16 = w := by omega
  rw [State.ownOne, h1, h2]
  exact ⟨(flag_wr_fld _ _ _ _ _ _ rfl rfl).trans (flag_wr_one _ _ _ rfl), (rd_wr_same _ _ _ n rfl).trans (Nat.mod_eq_of_lt hn)⟩

/-- The selected wells are owned. -/
theorem own_owns (hn : n < 8) (hws : slots ws) (hw : w < 14) (hg : 16 * u + w ∈ ws) :
    (s.own n ws).owned u w = true ∧ (s.own n ws).rd (WL_SETPT u w) WL_SETPT.OWNER = n := by
  have hkeep (x : State) (g : Nat) (hg : g ∈ ws) (h : x.owned u w = true ∧ x.rd (WL_SETPT u w) WL_SETPT.OWNER = n) :
      (x.ownOne n g).owned u w = true ∧ (x.ownOne n g).rd (WL_SETPT u w) WL_SETPT.OWNER = n := by
    by_cases he : g = 16 * u + w
    · rw [he]
      exact ownOne_owns hn hw
    · have hne : WL_SETPT u w ≠ WL_SETPT (g / 16) (g % 16) := by
        have hv := hws g hg
        simp only [WL_SETPT, wlBase, phBase]
        omega
      exact ⟨(flag_wr_ne _ _ _ _ _ _ hne).trans ((flag_wr_ne _ _ _ _ _ _ hne).trans h.1), (rd_wr_ne _ _ _ _ _ _ hne).trans ((rd_wr_ne _ _ _ _ _ _ hne).trans h.2)⟩
  exact each_list_brings (fun _ => True) (fun x => x.owned u w = true ∧ x.rd (WL_SETPT u w) WL_SETPT.OWNER = n) (State.ownOne n) (x := 16 * u + w)
    (fun _ _ => ownOne_owns hn hw) (fun _ _ _ _ => trivial) (fun x g hg _ h => hkeep x g hg h) hg s trivial

theorem own_reg {b : Nat} (h : ∀ g ∈ ws, b ≠ WL_SETPT (g / 16) (g % 16)) : (s.own n ws).reg b = s.reg b :=
  each_mem_keeps (fun x => x.reg b) ws (State.ownOne n) (fun _ g hg => (reg_wr_ne _ _ _ _ _ (h g hg)).trans (reg_wr_ne _ _ _ _ _ (h g hg))) s

theorem own_low {b : Nat} (hb : b < 0x100000) : (s.own n ws).reg b = s.reg b :=
  own_reg fun _ _ => Nat.ne_of_lt (Nat.lt_of_lt_of_le hb (by simp only [WL_SETPT, wlBase, phBase]; omega))

/-- All but the registers and the sequencers' own state stand. -/
theorem own_rest : { s.own n ws with regs := s.regs, seqs := s.seqs } = s := by
  have h := each_keeps (fun x : State => { x with regs := s.regs, seqs := s.seqs }) ws (State.ownOne n) (fun _ _ => rfl) s
  exact h

/-- What instructions act on stands. -/
theorem own_besides (hw : w < 14) : (s.own n ws).besides u w = s.besides u w := by
  refine each_keeps (fun x => x.besides u w) ws (State.ownOne n) (fun _ g => ?_) s
  refine (besides_of_fields (fields_block n (g / 16) (g % 16) 0x50 (by decide) hw (by decide) rfl) rfl rfl rfl).trans ?_
  exact besides_of_fields (fields_block 1 (g / 16) (g % 16) 0x50 (by decide) hw (by decide) rfl) rfl rfl rfl

/-! ### The instruction -/

theorem wellInstr_acts (act : State → List Nat → State) (ho : s.owners n (s.selected n (s.instrAt n)) = [])
    (hc : s.outclaimed n (s.selected n (s.instrAt n)) = false) :
    s.wellInstr n act = act (s.own n (s.selected n (s.instrAt n))) (s.selected n (s.instrAt n)) :=
  (if_neg (by rw [hc]; exact Bool.noConfusion)).trans (if_pos ho)

/-- The sequencer reads F and goes on to the next instruction. -/
theorem sqNext_steps (good : Bool) (hpc : s.rd (SQ_STAT n) SQ_STAT.PC + 1 < 1024) :
    ((s.setF n good).sqNext n).rd (SQ_STAT n) SQ_STAT.PC = s.rd (SQ_STAT n) SQ_STAT.PC + 1 ∧
      ((s.setF n good).sqNext n).sqState n = s.sqState n ∧ ((s.setF n good).sqNext n).flag (SQ_STAT n) SQ_STAT.F = good := by
  have hf : (s.setF n good).rd (SQ_STAT n) SQ_STAT.PC = s.rd (SQ_STAT n) SQ_STAT.PC := rd_wr_fld _ _ _ _ _ _ rfl rfl
  refine ⟨?_, ?_, ?_⟩
  · refine (rd_wr_same _ _ _ _ rfl).trans ?_
    rw [hf]
    exact Nat.mod_eq_of_lt hpc
  · exact (rd_wr_fld _ _ _ _ _ _ rfl rfl).trans (rd_wr_fld _ _ _ _ _ _ rfl rfl)
  · refine (flag_wr_fld _ _ _ _ _ _ rfl rfl).trans ?_
    cases good
    · exact flag_wr_zero _ _ _ rfl
    · exact flag_wr_one _ _ _ rfl

theorem sqNext_reg (good : Bool) {b : Nat} (h : b ≠ SQ_STAT n) : ((s.setF n good).sqNext n).reg b = s.reg b :=
  (reg_wr_ne _ _ _ _ _ h).trans (reg_wr_ne _ _ _ _ _ h)

theorem sqNext_rest (good : Bool) : { (s.setF n good).sqNext n with regs := s.regs, seqs := s.seqs } = s := rfl

end

end Sys2Proof.Machine

/-! PROOFS. The well instructions that do not wait: SETV, PROF, HYST, CLGT, TIE, PMODE and TRK (R142, R148, R150, R160-R162, R214). -/

namespace Sys2Proof.Machine

open Sys2Proof

section
variable {s o : State} {u w n op : Nat} {f : State → Nat → Nat → State} {ok : State → Nat → Nat → Bool} {ws : List Nat} {c : Instr}

/-- What tells that a sequencer has taken a well and stands where it stood. -/
def takenFields (n u w : Nat) : List (Nat × Fld) :=
  [(SQ_STAT n, SQ_STAT.PC), (SQ_STAT n, SQ_STAT.STATE), (WL_SETPT u w, WL_SETPT.OWNED), (WL_SETPT u w, WL_SETPT.OWNER)]

theorem sq_off_sideRegs (hn : n < 8) : SQ_STAT n < 0x100000 ∧ SQ_STAT n ∉ sideRegs := by
  refine ⟨by simp only [SQ_STAT]; omega, ?_⟩
  simp only [sideRegs, List.mem_cons, List.not_mem_nil, or_false, not_or, SQ_STAT, ER_STAT, IC_SAT_ADDR, IC_SRC, HD_PWR_STAT]
  omega

theorem takenFields_claims (hn : n < 8) : claimsOnly (takenFields n u w) u w := by
  intro e he
  simp only [takenFields, List.mem_cons, List.not_mem_nil, or_false] at he
  rcases he with rfl | rfl | rfl | rfl
  · exact ⟨rfl, .inl (sq_off_sideRegs hn)⟩
  · exact ⟨rfl, .inl (sq_off_sideRegs hn)⟩
  · exact ⟨rfl, .inr (.inl rfl)⟩
  · exact ⟨rfl, .inr (.inr rfl)⟩

/-- Sequencer `n` of `s` holds the well in `o`, and stands and runs as in `s`. -/
structure State.hasWell (s o : State) (n u w : Nat) : Prop where
  owned : o.owned u w = true
  owner : o.rd (WL_SETPT u w) WL_SETPT.OWNER = n
  pc : o.rd (SQ_STAT n) SQ_STAT.PC = s.rd (SQ_STAT n) SQ_STAT.PC
  state : o.sqState n = s.sqState n

theorem State.hasWell.of_claims {x : State} (h : s.hasWell o n u w) (hx : x.fieldsAt (takenFields n u w) = o.fieldsAt (takenFields n u w)) : s.hasWell x n u w where
  owned := (flag_of_fields hx (by simp [takenFields])).trans h.owned
  owner := (rd_of_fields hx (by simp [takenFields])).trans h.owner
  pc := (rd_of_fields hx (by simp [takenFields])).trans h.pc
  state := (rd_of_fields hx (f := SQ_STAT.STATE) (by simp [takenFields])).trans h.state

theorem own_holds (hn : n < 8) (hws : slots ws) (hw : w < 14) (hg : 16 * u + w ∈ ws) : s.hasWell (s.own n ws) n u w where
  owned := (own_owns hn hws hw hg).1
  owner := (own_owns hn hws hw hg).2
  pc := rd_of_reg (own_low (sq_off_sideRegs hn).1) _
  state := rd_of_reg (own_low (sq_off_sideRegs hn).1) _

/-- The steps of a well instruction leave what its sequencer holds. -/
theorem State.hasWell.each (h : s.hasWell o n u w) (hn : n < 8) (hw : w < 14) (hws : slots ws) (hf : OpStep f) :
    s.hasWell (o.each ws (fun x g => f x (g / 16) (g % 16))) n u w := h.of_claims (opStep_claims hf hws hw (takenFields_claims hn) o)

/-- Its last part goes on to the next instruction. -/
theorem State.hasWell.next (h : s.hasWell o n u w) (hn : n < 8) (hs : s.sqState n = 1) (hpc : s.rd (SQ_STAT n) SQ_STAT.PC + 1 < 1024) (good : Bool) :
    s.stepped ((o.setF n good).sqNext n) n u w := by
  obtain ⟨h1, h2, -⟩ := sqNext_steps (s := o) good (by rw [h.pc]; exact hpc)
  have hne : WL_SETPT u w ≠ SQ_STAT n := by
    have hlt := (sq_off_sideRegs hn).1
    simp only [WL_SETPT, wlBase, phBase] at hlt ⊢
    omega
  have hreg := sqNext_reg (s := o) good hne
  exact ⟨(flag_of_reg hreg _).trans h.owned, (rd_of_reg hreg _).trans h.owner, h1.trans (congrArg (· + 1) h.pc), h2.trans (h.state.trans hs)⟩

theorem sqNext_besides (hn : n < 8) (good : Bool) : ((o.setF n good).sqNext n).besides u w = o.besides u w := by
  refine besides_of_fields (List.map_congr_left fun e he => rd_of_reg (sqNext_reg good ?_) _) rfl rfl rfl
  have hlt := (sq_off_sideRegs hn).1
  rcases wellFields_cases he with rfl | rfl | ⟨q, -, rfl⟩
  · simp only [AD_WIN, phBase] at hlt ⊢; omega
  · simp only [TH_STAT, phBase] at hlt ⊢; omega
  · simp only [wlBase, phBase] at hlt ⊢; omega

theorem issues_cases (h : s.issues n op = true) : n < 8 ∧ s.sqState n = 1 := by
  simp only [State.issues, Bool.and_eq_true, decide_eq_true_eq, beq_iff_eq] at h
  exact h.1

/-- An instruction that takes the same step on every well, on the state that it acts on. -/
theorem eachOp_steps (hi : s.issues n op = true) (hw : w < 14) (hws : slots ws) (hpc : s.rd (SQ_STAT n) SQ_STAT.PC + 1 < 1024)
    (ho : s.hasWell o n u w) (hf : OpStep f) : s.stepped (o.eachWell n ws f ok) n u w :=
  ((ho.each (issues_cases hi).1 hw hws hf).next (issues_cases hi).1 (issues_cases hi).2 hpc _)

/-- What holds of a well that an instruction selects, when the sequencer owns it and no other wants it. -/
structure State.takesWell (s : State) (n u w : Nat) : Prop where
  sel : 16 * u + w ∈ s.selected n (s.instrAt n)
  slot : w < 14
  free : s.owners n (s.selected n (s.instrAt n)) = []
  alone : s.outclaimed n (s.selected n (s.instrAt n)) = false

/-- The same step on every well that an instruction selects: it goes on, F says whether each well completes, and what the step brings about
on one well stands. -/
theorem eachOp_yields (hx : exec c s = done (if s.issues n op = true then s.wellInstr n (fun u ws => u.eachWell n ws f ok) else s))
    (hi : s.issues n op = true) (h : s.takesWell n u w) (hpc : s.rd (SQ_STAT n) SQ_STAT.PC + 1 < 1024) (hf : OpStep f) (Q : State → Prop)
    (hlast : ∀ (x : State) (b : Bool), Q x → Q ((x.setF n b).sqNext n))
    (heach : Q ((s.own n (s.selected n (s.instrAt n))).each (s.selected n (s.instrAt n)) (fun x g => f x (g / 16) (g % 16)))) :
    s.yields c (fun t => s.stepped t n u w ∧ Q t ∧ t.flag (SQ_STAT n) SQ_STAT.F =
      (s.selected n (s.instrAt n)).all (fun g => ok (s.own n (s.selected n (s.instrAt n))) (g / 16) (g % 16))) := by
  obtain ⟨hsel, hw, hfree, halone⟩ := h
  have hn := (issues_cases hi).1
  have hws := selected_slots (s := s) n (s.instrAt n)
  generalize hwsdef : s.selected n (s.instrAt n) = ws at *
  have hacts : s.wellInstr n (fun u ws => u.eachWell n ws f ok) = (s.own n ws).eachWell n ws f ok := by
    rw [wellInstr_acts _ (by rw [hwsdef]; exact hfree) (by rw [hwsdef]; exact halone), hwsdef]
  refine ⟨(s.own n ws).eachWell n ws f ok, ?_, eachOp_steps hi hw hws hpc (own_holds hn hws hw hsel) hf, hlast _ _ heach, ?_⟩
  · rw [hx, if_pos hi, hacts]
    rfl
  · have hpc' := (State.hasWell.each (own_holds (s := s) hn hws hw hsel) hn hw hws hf).pc
    exact (sqNext_steps _ (by rw [hpc']; exact hpc)).2.2

/-- The same of what the view of the well tells. -/
theorem wellOp_yields (hx : exec c s = done (if s.issues n op = true then s.wellInstr n (fun u ws => u.eachWell n ws f ok) else s))
    (hi : s.issues n op = true) (h : s.takesWell n u w) (hpc : s.rd (SQ_STAT n) SQ_STAT.PC + 1 < 1024) (hf : OpStep f) (Q : State → Prop)
    (hQ : ∀ x y : State, y.besides u w = x.besides u w → Q x → Q y)
    (hdo : ∀ x : State, (x.besides u w = s.besides u w ∨ Q x) → Q (f x u w)) : s.yields c (fun t => s.stepped t n u w ∧ Q t ∧
      t.flag (SQ_STAT n) SQ_STAT.F = (s.selected n (s.instrAt n)).all (fun g => ok (s.own n (s.selected n (s.instrAt n))) (g / 16) (g % 16))) := by
  refine eachOp_yields hx hi h hpc hf Q (fun x b hq => hQ x _ (sqNext_besides (issues_cases hi).1 b) hq) ?_
  refine opStep_brings hf (selected_slots n _) h.slot h.sel Q hQ _ fun x hx => hdo x (hx.imp_left fun e => ?_)
  exact e.trans (own_besides h.slot)

end

end Sys2Proof.Machine

/-! PROOFS. What SETV, PROF, HYST, CLGT, TIE, PMODE and TRK bring about on a selected well (R142, R148, R150, R160, R214). -/

namespace Sys2Proof.Machine

open Sys2Proof

theorem State.yields.mono {s : State} {c : Instr} {P P' : State → Prop} (h : s.yields c P) (himp : ∀ t, P t → P' t) : s.yields c P' := by
  obtain ⟨u, hu, hp⟩ := h
  exact ⟨u, hu, himp u hp⟩

/-- What every element's part keeps holds at the end. -/
theorem each_holds {α : Type} (P : State → Prop) (f : State → α → State) {l : List α} (h : ∀ u, ∀ a ∈ l, P u → P (f u a)) (s : State) (hs : P s) :
    P (s.each l f) := by
  induction l generalizing s with
  | nil => exact hs
  | cons a l ih => exact ih (fun u b hb => h u b (List.mem_cons_of_mem _ hb)) _ (h s a List.mem_cons_self hs)

section
variable {s : State} {u w n : Nat}

theorem argOf_lt (i : Nat) : argOf i < 4096 := Nat.mod_lt _ (by decide)

theorem flag_wrb_same (s : State) (a : Nat) (f : Fld) (b : Bool) (hok : f.ok = true) : (s.wrb a f b).flag a f = b := by
  cases b
  · exact flag_wr_zero _ _ _ hok
  · exact flag_wr_one _ _ _ hok

/-! ### SETV -/

theorem setv_step (v : Nat) : OpStep (fun x t w => x.wr (WL_SETPT t w) WL_SETPT.V_CMD v) := fun _ _ _ _ F x => F.cmd x v

theorem cmd_of_besides {x y : State} (h : y.besides u w = x.besides u w) : y.rd (WL_SETPT u w) WL_SETPT.V_CMD = x.rd (WL_SETPT u w) WL_SETPT.V_CMD :=
  rd_of_besides h (place_in (q := (0x50, WL_SETPT.V_CMD)) (by decide))

theorem cmd_sets (s : State) {v : Nat} (hv : v < 4096) : (s.wr (WL_SETPT u w) WL_SETPT.V_CMD v).rd (WL_SETPT u w) WL_SETPT.V_CMD = v :=
  (rd_wr_same _ _ _ _ rfl).trans (Nat.mod_eq_of_lt hv)

theorem sqSetv_sets (h : s.takesWell n u w) (hpc : s.rd (SQ_STAT n) SQ_STAT.PC + 1 < 1024) (hi : s.issues n 2 = true) :
    s.yields (.sqSetv n) (fun t => s.stepped t n u w ∧ t.rd (WL_SETPT u w) WL_SETPT.V_CMD = argOf (s.instrAt n) ∧
      t.flag (SQ_STAT n) SQ_STAT.F = true) := by
  refine (wellOp_yields rfl hi h hpc (setv_step (argOf (s.instrAt n))) (fun t => t.rd (WL_SETPT u w) WL_SETPT.V_CMD = argOf (s.instrAt n))
    (fun x y hxy hq => (cmd_of_besides hxy).trans hq) (fun x _ => cmd_sets x (argOf_lt _))).mono fun t ht => ?_
  obtain ⟨h1, h2, h3⟩ := ht
  exact ⟨h1, h2, h3.trans (List.all_eq_true.mpr fun _ _ => rfl)⟩

/-! ### PROF -/

theorem prof_step (p : Nat) : OpStep (fun x t w => x.setProf t w p) := fun _ _ _ _ F x => F.setProf x p

theorem set_of_besides {x y : State} (h : y.besides u w = x.besides u w) : y.rd (WL_PROF_STAT u w) WL_PROF_STAT.SET = x.rd (WL_PROF_STAT u w) WL_PROF_STAT.SET :=
  rd_of_besides h (place_in (q := (0x51, WL_PROF_STAT.SET)) (by decide))

theorem setProf_sets (s : State) (p : Nat) : (s.setProf u w p).stage u w = s.stage u w ∧ ((s.setProf u w p).mo u w).prof = p ∧
    (s.stage u w = stVolt → p < 4 → (s.setProf u w p).rd (WL_PROF_STAT u w) WL_PROF_STAT.SET = p) := by
  have hmo : (s.updMo u w (fun m => { m with prof := p })).mo u w = { s.mo u w with prof := p } := updMo_same s u w _
  unfold State.setProf
  dsimp only
  split
  · refine ⟨rd_wr_ne _ _ _ _ _ _ (by simp only [WL_SETPT, WL_PROF_STAT, wlBase]; omega), congrArg Motion.prof hmo, fun _ hp => ?_⟩
    exact (rd_wr_same _ _ _ _ rfl).trans (Nat.mod_eq_of_lt hp)
  next hn => exact ⟨rfl, congrArg Motion.prof hmo, fun hs => absurd (.inl hs) hn⟩

theorem sqProf_sets (h : s.takesWell n u w) (hpc : s.rd (SQ_STAT n) SQ_STAT.PC + 1 < 1024) (hi : s.issues n 3 = true) :
    s.yields (.sqProf n) (fun t => s.stepped t n u w ∧ (t.mo u w).prof = argOf (s.instrAt n) ∧
      (s.stage u w = stVolt → argOf (s.instrAt n) < 4 → t.rd (WL_PROF_STAT u w) WL_PROF_STAT.SET = argOf (s.instrAt n))) := by
  refine (wellOp_yields rfl hi h hpc (prof_step (argOf (s.instrAt n))) (fun t => t.stage u w = s.stage u w ∧ (t.mo u w).prof = argOf (s.instrAt n) ∧
    (s.stage u w = stVolt → argOf (s.instrAt n) < 4 → t.rd (WL_PROF_STAT u w) WL_PROF_STAT.SET = argOf (s.instrAt n)))
    (fun x y hxy hq => ?_) (fun x hx => ?_)).mono fun t ht => ⟨ht.1, ht.2.1.2⟩
  · obtain ⟨h1, h2, h3⟩ := hq
    exact ⟨(stage_of_besides hxy).trans h1, (congrArg Prod.fst (orders_of_besides hxy)).trans h2, fun a b => (set_of_besides hxy).trans (h3 a b)⟩
  · have hst : x.stage u w = s.stage u w := hx.elim stage_of_besides (·.1)
    obtain ⟨h1, h2, h3⟩ := setProf_sets (u := u) (w := w) x (argOf (s.instrAt n))
    exact ⟨h1.trans hst, h2, fun a => h3 (hst.trans a)⟩

/-! ### HYST -/

theorem hyst_step : OpStep State.hystOne := fun _ _ _ _ F x => F.hystOne x

/-- A well in voltage mode that no tie and no test step holds. -/
def State.loose (s : State) (u w : Nat) : Prop := s.stage u w = stVolt ∧ s.tied u w = false ∧ (s.te u w).kind = 0

theorem State.loose.of_besides {x y : State} (hx : x.loose u w) (h : y.besides u w = x.besides u w) : y.loose u w :=
  ⟨(stage_of_besides h).trans hx.1, (tied_of_besides h).trans hx.2.1, (congrArg TestX.kind (te_of_besides h)).trans hx.2.2⟩

theorem hystOne_asks (h : s.loose u w) : s.hystOne u w = s.updMo u w (fun m => { m with hystReq := true }) := by
  obtain ⟨h1, h2, h3⟩ := h
  rw [State.hystOne, if_neg (fun e => e h3), if_pos h1, if_neg (by rw [h2]; exact Bool.noConfusion)]

theorem sqHyst_asks (h : s.takesWell n u w) (hpc : s.rd (SQ_STAT n) SQ_STAT.PC + 1 < 1024) (hi : s.issues n 6 = true) (hl : s.loose u w) :
    s.yields (.sqHyst n) (fun t => s.stepped t n u w ∧ (t.mo u w).hystReq = true) := by
  refine (wellOp_yields rfl hi h hpc hyst_step (fun t => t.loose u w ∧ (t.mo u w).hystReq = true) (fun x y hxy hq => ?_) (fun x hx => ?_)).mono
    fun t ht => ⟨ht.1, ht.2.1.2⟩
  · exact ⟨hq.1.of_besides hxy, (congrArg (·.2.2.2.1) (orders_of_besides hxy)).trans hq.2⟩
  · have hxl : x.loose u w := hx.elim hl.of_besides (·.1)
    rw [hystOne_asks hxl]
    refine ⟨⟨hxl.1, hxl.2.1, ?_⟩, congrArg Motion.hystReq (updMo_same x u w _)⟩
    rw [updMo_te]
    exact hxl.2.2

/-! ### CLGT -/

theorem clgt_step (a : Nat) : OpStep (fun x t w => x.clgtOne t w a) := fun _ _ _ _ F x => F.clgtOne x a

/-- One cluster's part of CLGT. -/
def State.clgtCluster (t a : Nat) (u : State) (k : Nat) : State :=
  if bit a 0 then u.gateOn t k PH_CLPWR.C_SEQ else u.gateOff t k PH_CLPWR.C_SEQ

theorem clgtCluster_sets (t a k : Nat) : (s.clgtCluster t a k).flag (PH_CLPWR t k) PH_CLPWR.C_SEQ = bit a 0 := by
  unfold State.clgtCluster
  split
  next h => exact (gateOn_cause _ rfl rfl rfl).trans h.symm
  next h => exact (flag_wr_zero _ _ _ rfl).trans (Bool.eq_false_iff.mpr h).symm

theorem clgtCluster_ne {t j t' k : Nat} (a : Nat) (h : PH_CLPWR t' k ≠ PH_CLPWR t j) :
    (s.clgtCluster t a j).flag (PH_CLPWR t' k) PH_CLPWR.C_SEQ = s.flag (PH_CLPWR t' k) PH_CLPWR.C_SEQ := by
  unfold State.clgtCluster
  split
  · exact (flag_wr_ne _ _ _ _ _ _ h).trans ((flag_wr_ne _ _ _ _ _ _ h).trans (flag_wr_ne _ _ _ _ _ _ h))
  · exact flag_wr_ne _ _ _ _ _ _ h

theorem clgtCluster_keeps {t j k : Nat} (t' a : Nat) (hj : j < 96) (hk : k < 96) (h : s.flag (PH_CLPWR t' k) PH_CLPWR.C_SEQ = bit a 0) :
    (s.clgtCluster t a j).flag (PH_CLPWR t' k) PH_CLPWR.C_SEQ = bit a 0 := by
  by_cases he : PH_CLPWR t' k = PH_CLPWR t j
  · have hkj : t' = t ∧ k = j := by simp only [PH_CLPWR, phBase] at he; omega
    rw [hkj.1, hkj.2]
    exact clgtCluster_sets t a j
  · exact (clgtCluster_ne a he).trans h

theorem clgtOne_keeps {t v k : Nat} (t' a : Nat) (hk : k < 96) (h : s.flag (PH_CLPWR t' k) PH_CLPWR.C_SEQ = bit a 0) :
    (s.clgtOne t v a).flag (PH_CLPWR t' k) PH_CLPWR.C_SEQ = bit a 0 :=
  each_holds (fun x => x.flag (PH_CLPWR t' k) PH_CLPWR.C_SEQ = bit a 0) (State.clgtCluster t a) (fun _ _ hj hx => clgtCluster_keeps t' a (fedClusters_lt hj) hk hx) s h

theorem clgtOne_sets {k : Nat} (a : Nat) (hk : k ∈ fedClusters w) : (s.clgtOne u w a).flag (PH_CLPWR u k) PH_CLPWR.C_SEQ = bit a 0 :=
  each_list_brings (fun _ => True) (fun x => x.flag (PH_CLPWR u k) PH_CLPWR.C_SEQ = bit a 0) (State.clgtCluster u a) (fun _ _ => clgtCluster_sets u a k)
    (fun _ _ _ _ => trivial) (fun _ _ hj _ hx => clgtCluster_keeps u a (fedClusters_lt hj) (fedClusters_lt hk) hx) hk s trivial

theorem sqClgt_sets (h : s.takesWell n u w) (hpc : s.rd (SQ_STAT n) SQ_STAT.PC + 1 < 1024) (hi : s.issues n 0xA = true) :
    s.yields (.sqClgt n) (fun t => s.stepped t n u w ∧ ∀ k ∈ fedClusters w, t.flag (PH_CLPWR u k) PH_CLPWR.C_SEQ = (argOf (s.instrAt n)).testBit 0) := by
  have hw := h.slot
  refine (eachOp_yields rfl hi h hpc (clgt_step (argOf (s.instrAt n)))
    (fun t => ∀ k ∈ fedClusters w, t.flag (PH_CLPWR u k) PH_CLPWR.C_SEQ = (argOf (s.instrAt n)).testBit 0) (fun x b hq k hk => ?_) (fun k hk => ?_)).mono
    fun t ht => ⟨ht.1, ht.2.1⟩
  · refine (flag_of_reg (sqNext_reg b ?_) _).trans (hq k hk)
    have hlt := (sq_off_sideRegs (issues_cases hi).1).1
    simp only [PH_CLPWR, phBase] at hlt ⊢
    omega
  · refine each_list_brings (fun _ => True) (fun x => x.flag (PH_CLPWR u k) PH_CLPWR.C_SEQ = (argOf (s.instrAt n)).testBit 0)
      (fun x g => x.clgtOne (g / 16) (g % 16) (argOf (s.instrAt n))) (x := 16 * u + w) (fun x _ => ?_) (fun _ _ _ _ => trivial)
      (fun x g _ _ hx => clgtOne_keeps u _ (fedClusters_lt hk) hx) h.sel _ trivial
    have h1 : (16 * u + w) / 16 = u := by omega
    have h2 : (16 * u + w) % 16 = w := by omega
    rw [h1, h2]
    exact clgtOne_sets _ hk

/-! ### TIE -/

theorem tie_step (on : Bool) : OpStep (fun x t w => x.tieHoldOne t w on) := fun _ _ _ _ F x => F.tieHoldOne x on

theorem tieHoldOne_holds (hw : w < 12) (on : Bool) : ((s.tieHoldOne u w on).mo u w).tieHold = on := by
  have hmo : (s.updMo u w (fun m => { m with tieHold := on })).mo u w = { s.mo u w with tieHold := on } := updMo_same s u w _
  rw [State.tieHoldOne, if_pos hw]
  dsimp only
  split
  · exact (congrArg Motion.tieHold (unloadTies_keeps (fun x => x.mo u w) (fun x n => (startUnload_well n).1) w)).trans (congrArg Motion.tieHold hmo)
  · exact congrArg Motion.tieHold hmo

theorem sqTie_holds (h : s.takesWell n u w) (hpc : s.rd (SQ_STAT n) SQ_STAT.PC + 1 < 1024) (hi : s.issues n 0xB = true) (hw : w < 12) :
    s.yields (.sqTie n) (fun t => s.stepped t n u w ∧ (t.mo u w).tieHold = (argOf (s.instrAt n)).testBit 0) :=
  (wellOp_yields rfl hi h hpc (tie_step (bit (argOf (s.instrAt n)) 0)) (fun t => (t.mo u w).tieHold = (argOf (s.instrAt n)).testBit 0)
    (fun _ _ hxy hq => (congrArg (·.2.2.1) (orders_of_besides hxy)).trans hq) (fun _ _ => tieHoldOne_holds hw _)).mono fun _ ht => ⟨ht.1, ht.2.1⟩

/-! ### PMODE -/

theorem pmode_step (p : Nat) : OpStep (fun x t w => x.pmodeOne t w p) := fun _ _ _ _ F x => F.pmodeOne x p

theorem pmd_of_besides {x y : State} (h : y.besides u w = x.besides u w) {p : Nat} (hp : p < 4) :
    y.flag (PM_LINK u w p) PM_LINK.PMD = x.flag (PM_LINK u w p) PM_LINK.PMD := by
  have hin : (0x40 + p * 4, PM_LINK.PMD) ∈ wellPlaces := by
    interval_cases p <;> decide
  have hat : PM_LINK u w p = wlBase u w + (0x40 + p * 4) := Nat.add_assoc ..
  rw [hat]
  exact flag_of_besides h (place_in hin)

theorem setPmd_sets (b : Bool) {p : Nat} (hp : p < s.installed u w) : (s.setPmd u w b).flag (PM_LINK u w p) PM_LINK.PMD = b := by
  refine each_list_brings (fun _ => True) (fun x => x.flag (PM_LINK u w p) PM_LINK.PMD = b) (fun x p => x.wrb (PM_LINK u w p) PM_LINK.PMD b)
    (fun x _ => flag_wrb_same x _ _ b rfl) (fun _ _ _ _ => trivial) (fun x q _ _ hx => ?_) (List.mem_range.mpr hp) s trivial
  by_cases he : q = p
  · rw [he]; exact flag_wrb_same x _ _ b rfl
  · refine (flag_wr_ne _ _ _ _ _ _ ?_).trans hx
    simp only [PM_LINK]
    omega

/-- What PMODE leaves on its well. -/
def State.pmodeSet (s t : State) (u w a : Nat) : Prop :=
  t.stage u w = s.stage u w ∧ t.installed u w = s.installed u w ∧ (t.mo u w).pmode = a ∧
    (s.stage u w = stVolt → ∀ p, p < s.installed u w → t.flag (PM_LINK u w p) PM_LINK.PMD = decide (a = 1))

theorem pmodeOne_sets (s : State) (a : Nat) : s.pmodeSet (s.pmodeOne u w a) u w a := by
  have hmo : (s.updMo u w (fun m => { m with pmode := a })).mo u w = { s.mo u w with pmode := a } := updMo_same s u w _
  unfold State.pmodeOne
  dsimp only
  split
  · refine ⟨rd_of_reg (setPmd_reg _ u w _ _ fun p hp => ?_) _, ?_, ?_, fun _ p hp => setPmd_sets (a == 1) hp⟩
    · simp only [WL_SETPT, PM_LINK]; omega
    · exact congrArg (·.installed u w) (setPmd_rest (w := w) (t := u) (s.updMo u w (fun m => { m with pmode := a })) (a == 1) :)
    · exact (congrArg (fun x : State => (x.mo u w).pmode) (setPmd_rest (w := w) (t := u) (s.updMo u w (fun m => { m with pmode := a })) (a == 1)) :).trans
        (congrArg Motion.pmode hmo)
  next hn => exact ⟨rfl, rfl, congrArg Motion.pmode hmo, fun hs => absurd hs hn⟩

theorem sqPmode_sets (h : s.takesWell n u w) (hpc : s.rd (SQ_STAT n) SQ_STAT.PC + 1 < 1024) (hi : s.issues n 0xC = true) :
    s.yields (.sqPmode n) (fun t => s.stepped t n u w ∧ (t.mo u w).pmode = argOf (s.instrAt n) ∧
      (s.stage u w = stVolt → ∀ p, p < s.installed u w → t.flag (PM_LINK u w p) PM_LINK.PMD = decide (argOf (s.instrAt n) = 1))) := by
  refine (wellOp_yields rfl hi h hpc (pmode_step (argOf (s.instrAt n))) (fun t => s.pmodeSet t u w (argOf (s.instrAt n)))
    (fun x y hxy hq => ?_) (fun x hx => ?_)).mono fun t ht => ⟨ht.1, ht.2.1.2.2⟩
  · obtain ⟨h1, h2, h3, h4⟩ := hq
    refine ⟨(stage_of_besides hxy).trans h1, (installed_of_besides hxy).trans h2, (congrArg (·.2.1) (orders_of_besides hxy)).trans h3, fun a p hp => ?_⟩
    exact (pmd_of_besides hxy (Nat.lt_of_lt_of_le hp (installed_le s u w))).trans (h4 a p hp)
  · have hst : x.stage u w = s.stage u w := hx.elim stage_of_besides (·.1)
    have hin : x.installed u w = s.installed u w := hx.elim installed_of_besides (·.2.1)
    obtain ⟨h1, h2, h3, h4⟩ := pmodeOne_sets (u := u) (w := w) x (argOf (s.instrAt n))
    exact ⟨h1.trans hst, h2.trans hin, h3, fun a p hp => h4 (hst.trans a) p (hin.symm ▸ hp)⟩

/-! ### TRK -/

theorem trk_step (on : Bool) : OpStep (fun x t w => if x.rd (WL_TRACK t w) WL_TRACK.TRK_DEV = 0 then x else x.trkOne t w on) := by
  intro t v β π F x
  dsimp only
  split
  · rfl
  · exact F.trkOne x on

theorem dev_of_besides {x y : State} (h : y.besides u w = x.besides u w) : y.rd (WL_TRACK u w) WL_TRACK.TRK_DEV = x.rd (WL_TRACK u w) WL_TRACK.TRK_DEV :=
  rd_of_besides h (place_in (q := (0x57, WL_TRACK.TRK_DEV)) (by decide))

theorem trkOne_sets (s : State) (on : Bool) : (s.trkOne u w on).rd (WL_TRACK u w) WL_TRACK.TRK_DEV = s.rd (WL_TRACK u w) WL_TRACK.TRK_DEV ∧
    (s.trkOne u w on).flag (WL_TRACK u w) WL_TRACK.EN = on := by
  have hen : (s.wrb (WL_TRACK u w) WL_TRACK.EN on).flag (WL_TRACK u w) WL_TRACK.EN = on := flag_wrb_same s _ _ on rfl
  have hdev : (s.wrb (WL_TRACK u w) WL_TRACK.EN on).rd (WL_TRACK u w) WL_TRACK.TRK_DEV = s.rd (WL_TRACK u w) WL_TRACK.TRK_DEV := rd_wr_fld _ _ _ _ _ _ rfl rfl
  have hne : WL_TRACK u w ≠ WL_PROF_STAT u w := by simp only [WL_TRACK, WL_PROF_STAT, wlBase]; omega
  unfold State.trkOne
  dsimp only
  split
  · exact ⟨(rd_wr_ne _ _ _ _ _ _ hne).trans ((rd_wr_fld _ _ _ _ _ _ rfl rfl).trans hdev), (flag_wr_ne _ _ _ _ _ _ hne).trans ((flag_wr_fld _ _ _ _ _ _ rfl rfl).trans hen)⟩
  · exact ⟨hdev, hen⟩

theorem sqTrk_sets (h : s.takesWell n u w) (hpc : s.rd (SQ_STAT n) SQ_STAT.PC + 1 < 1024) (hi : s.issues n 0xD = true)
    (hd : s.rd (WL_TRACK u w) WL_TRACK.TRK_DEV ≠ 0) : s.yields (.sqTrk n) (fun t => s.stepped t n u w ∧
      t.flag (WL_TRACK u w) WL_TRACK.EN = (argOf (s.instrAt n)).testBit 0) := by
  refine (wellOp_yields rfl hi h hpc (trk_step (bit (argOf (s.instrAt n)) 0)) (fun t => t.rd (WL_TRACK u w) WL_TRACK.TRK_DEV ≠ 0 ∧
    t.flag (WL_TRACK u w) WL_TRACK.EN = (argOf (s.instrAt n)).testBit 0) (fun x y hxy hq => ?_) (fun x hx => ?_)).mono fun t ht => ⟨ht.1, ht.2.1.2⟩
  · exact ⟨by rw [dev_of_besides hxy]; exact hq.1, (flag_of_besides hxy (place_in (q := (0x57, WL_TRACK.EN)) (by decide))).trans hq.2⟩
  · have hxd : x.rd (WL_TRACK u w) WL_TRACK.TRK_DEV ≠ 0 := hx.elim (fun e => by rw [dev_of_besides e]; exact hd) (·.1)
    obtain ⟨h1, h2⟩ := trkOne_sets (u := u) (w := w) x (bit (argOf (s.instrAt n)) 0)
    rw [if_neg hxd]
    exact ⟨by rw [h1]; exact hxd, h2⟩

end

end Sys2Proof.Machine

/-! PROOFS. The well instructions that wait: PRIME, HAND and PARK (R146, R151, R153, R157, R160-R162). -/

namespace Sys2Proof.Machine

open Sys2Proof

section
variable {s o x y : State} {u w n : Nat} {ws : List Nat}

theorem updSq_same (s : State) (n : Nat) (f : SeqX → SeqX) : (s.updSq n f).sq n = f (s.sq n) := tget_tset_self _ _ _ _

/-! ### Waiting on wells -/

theorem sqWaitOn_reg (op c : Nat) (l : List (Nat × Nat)) (b : Bool) {a : Nat} (h : a ≠ SQ_STAT n) : (o.sqWaitOn n op c l b).reg a = o.reg a :=
  reg_wr_ne _ _ _ _ _ h

theorem sqWaitOn_besides (hn : n < 8) (op c : Nat) (l : List (Nat × Nat)) (b : Bool) : (o.sqWaitOn n op c l b).besides u w = o.besides u w := by
  refine besides_of_fields (List.map_congr_left fun e he => rd_of_reg (sqWaitOn_reg op c l b ?_) _) rfl rfl rfl
  have hlt := (sq_off_sideRegs hn).1
  rcases wellFields_cases he with rfl | rfl | ⟨q, -, rfl⟩
  · simp only [AD_WIN, phBase] at hlt ⊢; omega
  · simp only [TH_STAT, phBase] at hlt ⊢; omega
  · simp only [wlBase, phBase] at hlt ⊢; omega

/-- The sequencer waits at its instruction on a well that it has taken. -/
theorem State.hasWell.waits (h : s.hasWell o n u w) (hn : n < 8) (op c : Nat) (l : List (Nat × Nat)) (b : Bool) :
    s.waitsAt (o.sqWaitOn n op c l b) n u w op := by
  have hne : WL_SETPT u w ≠ SQ_STAT n := by
    have hlt := (sq_off_sideRegs hn).1
    simp only [WL_SETPT, wlBase, phBase] at hlt ⊢
    omega
  have hreg := sqWaitOn_reg (o := o) op c l b hne
  refine ⟨(flag_of_reg hreg _).trans h.owned, (rd_of_reg hreg _).trans h.owner, rd_wr_same _ _ _ 2 rfl, ?_, (rd_wr_fld _ _ _ _ _ _ rfl rfl).trans h.pc⟩
  exact congrArg SeqX.op (updSq_same _ n _)

theorem State.takesWell.acts (h : s.takesWell n u w) (act : State → List Nat → State) :
    s.wellInstr n act = act (s.own n (s.selected n (s.instrAt n))) (s.selected n (s.instrAt n)) := wellInstr_acts act h.free h.alone

theorem State.takesWell.own (h : s.takesWell n u w) (hn : n < 8) : s.hasWell (s.own n (s.selected n (s.instrAt n))) n u w :=
  own_holds hn (selected_slots n _) h.slot h.sel

/-- The wells of a list that an outcome of 0 names. -/
def goes (out : Nat → Nat → Nat) (ws : List Nat) : List Nat := ((ws.map (fun g => (g, out (g / 16) (g % 16)))).filter (fun e => e.2 = 0)).map (·.1)

theorem goes_slots {out : Nat → Nat → Nat} (h : slots ws) : slots (goes out ws) := by
  intro g hg
  simp only [goes, List.mem_map, List.mem_filter] at hg
  obtain ⟨e, ⟨⟨g', hg', rfl⟩, -⟩, rfl⟩ := hg
  exact h g' hg'

theorem goes_mem {out : Nat → Nat → Nat} (hw : w < 14) (hg : 16 * u + w ∈ ws) (h : out u w = 0) : 16 * u + w ∈ goes out ws := by
  have h1 : (16 * u + w) / 16 = u := by omega
  have h2 : (16 * u + w) % 16 = w := by omega
  refine List.mem_map.mpr ⟨(16 * u + w, 0), List.mem_filter.mpr ⟨List.mem_map.mpr ⟨16 * u + w, hg, ?_⟩, rfl⟩, rfl⟩
  rw [h1, h2, h]

/-! ### Relations that come into force -/

theorem trackOn_step (l : List Nat) : OpStep (fun x t w => x.trackOn l t w) := fun _ _ _ _ F x => F.trackOn x l

theorem trackOn_reg (l : List Nat) (t f : Nat) {b : Nat} (h : b ≠ WL_TRACK t f) : (s.trackOn l t f).reg b = s.reg b := by
  unfold State.trackOn
  dsimp only
  split
  · exact reg_wr_ne _ _ _ _ _ h
  · rfl

theorem tracksOn_reg (l ws : List Nat) {b : Nat} (h : ∀ t f, b ≠ WL_TRACK t f) : (s.each ws (fun x g => x.trackOn l (g / 16) (g % 16))).reg b = s.reg b :=
  each_keeps (fun x => x.reg b) ws (fun x g => x.trackOn l (g / 16) (g % 16)) (fun _ _ => trackOn_reg l _ _ (h _ _)) s

/-! ### PRIME -/

theorem service_of_besides (h : y.besides u w = x.besides u w) {p : Nat} (hp : p < 4) : y.service u w p = x.service u w p := by
  have hin : (0x42 + p * 4, PM_STAT.SERVICE) ∈ wellPlaces := by
    interval_cases p <;> decide
  have hat : PM_STAT u w p = wlBase u w + (0x42 + p * 4) := Nat.add_assoc ..
  rw [State.service, State.service, hat]
  exact rd_of_besides h (place_in hin)

theorem primable_of_besides (h : y.besides u w = x.besides u w) : y.primable u w = x.primable u w := by
  have hlist : y.usablePumps u w = x.usablePumps u w := by
    rw [State.usablePumps, State.usablePumps, State.pumpsOf, State.pumpsOf, installed_of_besides h]
    refine List.filter_congr fun p hp => ?_
    rw [service_of_besides h (pumpsOf_lt x hp)]
  rw [State.primable, State.primable, ratedN_of_besides h, hlist]

theorem wet_of_besides (h : y.besides u w = x.besides u w) : y.wet u w = x.wet u w := by
  have hlist : y.servicePumps u w = x.servicePumps u w := by
    rw [State.servicePumps, State.servicePumps, State.pumpsOf, State.pumpsOf, installed_of_besides h]
    refine List.filter_congr fun p hp => ?_
    rw [State.inService, State.inService, service_of_besides h (pumpsOf_lt x hp)]
  rw [State.wet, State.wet, hlist]

theorem primeTake_step : OpStep State.primeTake := fun _ _ _ _ F x => F.primeTake x
theorem primeOne_step (b : Bool) : OpStep (fun x t w => x.primeOne t w b) := fun _ _ _ _ F x => F.primeOne x b

/-- A DRY well that a PRIME starts on. -/
def State.primes (s : State) (u w : Nat) : Prop := s.stage u w = stDry ∧ s.primable u w = true ∧ s.stopped u = false

theorem State.primes.of_besides (h : x.primes u w) (hb : y.besides u w = x.besides u w) : y.primes u w :=
  ⟨(stage_of_besides hb).trans h.1, (primable_of_besides hb).trans h.2.1, (stopped_of_besides hb).trans h.2.2⟩

theorem primeOutcome_zero (h : s.primes u w) : s.primeOutcome u w = 0 := by
  obtain ⟨h1, h2, h3⟩ := h
  rw [State.primeOutcome, if_pos (.inl h1), h2, h3]
  rfl

/-- The CAL stage has begun. -/
def State.inCal (s : State) (u w : Nat) : Prop := s.stage u w = stCal ∧ s.flag (AD_WIN u w) AD_WIN.RUN = true

theorem State.inCal.of_regs (h : x.inCal u w) (h1 : y.reg (WL_SETPT u w) = x.reg (WL_SETPT u w)) (h2 : y.reg (AD_WIN u w) = x.reg (AD_WIN u w)) : y.inCal u w :=
  ⟨(rd_of_reg h1 _).trans h.1, (flag_of_reg h2 _).trans h.2⟩

theorem State.inCal.of_besides (h : x.inCal u w) (hb : y.besides u w = x.besides u w) : y.inCal u w :=
  ⟨(stage_of_besides hb).trans h.1, (flag_of_besides hb List.mem_cons_self).trans h.2⟩

theorem primeBegin_cal (s : State) (u w : Nat) : (s.primeBegin u w).inCal u w := by
  refine ⟨primeBegin_stage, ?_⟩
  have hpumps (x : State) (l : List Nat) (f : PumpX → PumpX) : (x.each l (fun x p => x.updPump u w p f)).flag (AD_WIN u w) AD_WIN.RUN = x.flag (AD_WIN u w) AD_WIN.RUN :=
    each_keeps (fun x => x.flag (AD_WIN u w) AD_WIN.RUN) l (fun x p => x.updPump u w p f) (fun _ _ => rfl) x
  rw [State.primeBegin]
  exact (hpumps _ _ _).trans (flag_wr_one _ _ _ rfl)

theorem primeOne_begins (b : Bool) (h : s.primes u w ∨ s.inCal u w) : (s.primeOne u w b).inCal u w := by
  have hview (x : State) : x.inCal u w → (x.primeViewOf u w).inCal u w := fun hx => hx.of_regs
    (primeViewOf_reg x u w _ fun c _ => by simp only [WL_SETPT, PH_PRIME, wlBase, phBase]; omega)
    (primeViewOf_reg x u w _ fun c _ => by simp only [AD_WIN, PH_PRIME, phBase]; omega)
  rcases h with h | h
  · have hone : s.primeOne u w b = ((s.primeBegin u w).primeViewOf u w).updMo u w (fun m => { m with waking := false, oneCheck := b }) := by
      rw [State.primeOne, if_pos (primeOutcome_zero h), if_pos h.1]
    rw [hone]
    exact (hview _ (primeBegin_cal s u w)).of_regs rfl rfl
  · have hdry : s.stage u w ≠ stDry := by rw [h.1]; decide
    simp only [State.primeOne, if_neg hdry]
    split
    · exact h.of_regs rfl rfl
    · exact h

theorem primeTakes_leave (hws : slots ws) (hw : w < 14) (h : s.stage u w = stDry) :
    (s.each ws (fun x g => x.primeTake (g / 16) (g % 16))).besides u w = s.besides u w := by
  refine each_holds (fun x => x.besides u w = s.besides u w) (fun x g => x.primeTake (g / 16) (g % 16)) (fun x g hg hx => ?_) s rfl
  by_cases he : 16 * (g / 16) + g % 16 = 16 * u + w
  · obtain ⟨h1, h2⟩ := slot_eq hw he
    rw [h1, h2, State.primeTake, if_neg (fun e => absurd (((stage_of_besides hx).trans h).symm.trans e.1) (by decide))]
    exact hx
  · exact (primeTake_step _ _ _ _ (besides_frame (hws g hg) hw he) x).trans hx

theorem sqPrime_primes (h : s.takesWell n u w) (hi : s.issues n 4 = true) (hp : s.primes u w) :
    s.yields (.sqPrime n) (fun t => s.waitsAt t n u w 4 ∧ t.stage u w = stCal ∧ t.flag (AD_WIN u w) AD_WIN.RUN = true) := by
  have hn := (issues_cases hi).1
  have hw := h.slot
  have hsel := h.sel
  have hws := selected_slots (s := s) n (s.instrAt n)
  have hx : exec (.sqPrime n) s = done (s.sqPrimeOp n) := rfl
  have hhold := h.own hn
  have hown : (s.own n (s.selected n (s.instrAt n))).besides u w = s.besides u w := own_besides hw
  rw [State.sqPrimeOp, if_pos hi, h.acts] at hx
  generalize s.selected n (s.instrAt n) = ws at *
  generalize s.own n ws = o at *
  generalize hout : ws.map (fun g => (g, o.primeOutcome (g / 16) (g % 16))) = out at hx
  have hgo : (out.filter (fun e => e.2 = 0)).map (·.1) = goes o.primeOutcome ws := by rw [← hout]; rfl
  have hgoing : slots (goes o.primeOutcome ws) := goes_slots hws
  have hmem : 16 * u + w ∈ goes o.primeOutcome ws := goes_mem hw hsel (primeOutcome_zero (hp.of_besides hown))
  dsimp only at hx
  rw [hgo] at hx
  generalize goes o.primeOutcome ws = go at *
  generalize argOf (s.instrAt n) = arg at *
  have htaken := (primeTakes_leave hws hw ((stage_of_besides hown).trans hp.1)).trans hown
  have hcal := opStep_brings (primeOne_step (arg == 0)) hgoing hw hmem (fun x => x.inCal u w) (fun x y hb hq => hq.of_besides hb)
    (o.each ws (fun x g => x.primeTake (g / 16) (g % 16))) (fun x hx => primeOne_begins _ (hx.imp_left fun e => hp.of_besides (e.trans htaken)))
  refine ⟨_, hx, ?_, ?_⟩
  · exact (((hhold.each hn hw hws primeTake_step).each hn hw hgoing (primeOne_step _)).each hn hw hgoing (trackOn_step go)).waits hn 4 0 out _
  · refine State.inCal.of_besides (x := State.each _ go _) ?_ (sqWaitOn_besides hn 4 0 out _)
    refine hcal.of_regs (tracksOn_reg go go fun t f => ?_) (tracksOn_reg go go fun t f => ?_)
    · simp only [WL_SETPT, WL_TRACK, wlBase, phBase]; omega
    · simp only [AD_WIN, WL_TRACK, wlBase, phBase]; omega

end

end Sys2Proof.Machine

/-! PROOFS. HAND and PARK on a selected well (R146, R147, R157, R161). -/

namespace Sys2Proof.Machine

open Sys2Proof

section
variable {s o x y : State} {u w n : Nat} {ws : List Nat}

/-! ### HAND -/

theorem hand_step : OpStep (fun x t w => x.updMo t w (fun m => { m with handReq := true })) := fun _ _ _ _ F x => F.mo x _

theorem handOutcome_own (hw : w < 14) : (s.own n ws).handOutcome u w = s.handOutcome u w := by
  have hb : (s.own n ws).besides u w = s.besides u w := own_besides hw
  have hreg : (s.own n ws).reg (PH_ENG_STAT u) = s.reg (PH_ENG_STAT u) := own_reg fun g _ => by simp only [PH_ENG_STAT, WL_SETPT, wlBase, phBase]; omega
  have htile : (s.own n ws).en u = s.en u := (congrArg (·.en u) (own_rest (s := s) (n := n) (ws := ws)) :)
  have hfall : (s.own n ws).fallback u = s.fallback u := flag_of_reg hreg _
  have hfail (e : Nat) : (s.own n ws).failed u e = s.failed u e := flag_of_reg hreg _
  rw [State.handOutcome, State.handOutcome, stopped_of_besides hb, stage_of_besides hb, hfall, htile, hfail, hfail]

theorem sqHand_asks (h : s.takesWell n u w) (hi : s.issues n 5 = true) (hp : s.handOutcome u w = 0) :
    s.yields (.sqHand n) (fun t => s.waitsAt t n u w 5 ∧ (t.mo u w).handReq = true) := by
  have hn := (issues_cases hi).1
  have hw := h.slot
  have hsel := h.sel
  have hws := selected_slots (s := s) n (s.instrAt n)
  have hx : exec (.sqHand n) s = done (s.sqHandOp n) := rfl
  have hhold := h.own hn
  have hout0 : (s.own n (s.selected n (s.instrAt n))).handOutcome u w = 0 := (handOutcome_own hw).trans hp
  rw [State.sqHandOp, if_pos hi, h.acts] at hx
  generalize s.selected n (s.instrAt n) = ws at *
  generalize s.own n ws = o at *
  have hgoing : slots (goes o.handOutcome ws) := goes_slots hws
  have hmem : 16 * u + w ∈ goes o.handOutcome ws := goes_mem hw hsel hout0
  have hasks := opStep_brings hand_step hgoing hw hmem (fun x => (x.mo u w).handReq = true)
    (fun _ _ hb hq => (congrArg (·.2.2.2.2) (orders_of_besides hb)).trans hq) o (fun x _ => congrArg Motion.handReq (updMo_same x u w _))
  exact ⟨_, hx, (hhold.each hn hw hgoing hand_step).waits hn 5 0 _ _,
    (congrArg (·.2.2.2.2) (orders_of_besides (sqWaitOn_besides hn 5 0 _ _))).trans hasks⟩

/-! ### PARK -/

theorem park_step : OpStep State.parkOne := fun _ _ _ _ F x => F.parkOne x

/-- A wet well that regulates and that no tie and no test step holds. -/
def State.parks (s : State) (u w : Nat) : Prop :=
  s.wet u w = true ∧ (s.stage u w = stVolt ∨ s.stage u w = stHyst) ∧ s.tied u w = false ∧ (s.te u w).kind = 0

theorem State.parks.of_besides (h : x.parks u w) (hb : y.besides u w = x.besides u w) : y.parks u w := by
  obtain ⟨h1, h2, h3, h4⟩ := h
  exact ⟨(wet_of_besides hb).trans h1, by rw [stage_of_besides hb]; exact h2, (tied_of_besides hb).trans h3,
    (congrArg TestX.kind (te_of_besides hb)).trans h4⟩

/-- The park has begun. -/
def State.inPark (s : State) (u w : Nat) : Prop := s.stage u w = stPark ∧ s.rd (WL_PROF_STAT u w) WL_PROF_STAT.SET = 2

theorem State.inPark.of_besides (h : x.inPark u w) (hb : y.besides u w = x.besides u w) : y.inPark u w :=
  ⟨(stage_of_besides hb).trans h.1, (set_of_besides hb).trans h.2⟩

theorem parkBegin_parks (s : State) (u w : Nat) (b : Bool) : (s.parkBegin u w b).inPark u w := by
  refine ⟨(parkBegin_stage b).1, ?_⟩
  simp only [State.parkBegin]
  refine (rd_of_reg (primeViewOf_reg _ u w _ fun c _ => by simp only [WL_PROF_STAT, PH_PRIME, wlBase, phBase]; omega) _).trans ?_
  refine (rd_of_reg (setPmd_reg _ u w _ _ fun p hp => by simp only [WL_PROF_STAT, PM_LINK]; omega) _).trans ?_
  exact (rd_wr_fld _ _ _ _ _ _ rfl rfl).trans (rd_wr_same _ _ _ 2 rfl)

theorem report_well (op : Nat) (ok : Bool) (t w t' w' : Nat) : (s.report t w op ok).well t' w' = s.well t' w' := by
  refine each_keeps (fun x => x.well t' w') (List.range 8) (fun u n => if u.rd (SQ_STAT n) SQ_STAT.STATE = 2 ∧ (u.sq n).op = op then
    u.setSq n { u.sq n with wells := (u.sq n).wells.map (fun e => if e.1 = 16 * t + w ∧ e.2 = 0 then (e.1, if ok then 1 else 2) else e) } else u) (fun u n => ?_) s
  split <;> rfl

theorem parkOne_parks (hw : w < 14) (h : s.parks u w ∨ s.inPark u w) : (s.parkOne u w).inPark u w := by
  rcases h with ⟨h1, h2, h3, h4⟩ | h
  · have hcal : ¬(s.stage u w = stCal ∨ s.stage u w = stWait) := by
      rcases h2 with e | e <;> rw [e] <;> decide
    have hpark : ¬(s.wet u w = false ∨ s.stage u w = stPark) := by
      rw [h1]
      rcases h2 with e | e <;> rw [e] <;> decide
    rw [State.parkOne, if_neg hcal, if_neg hpark]
    have htied : ((s.report u w 4 false).report u w 5 false).tied u w = false := by
      rw [State.tied, rd_of_reg ((report_reg ..).trans (report_reg ..))]
      exact h3
    have hkind : (((s.report u w 4 false).report u w 5 false).te u w).kind = 0 := by
      rw [State.te, report_well, report_well]
      exact h4
    rw [parkOrWait_begins hw htied hkind]
    exact parkBegin_parks _ u w false
  · have hcal : ¬(s.stage u w = stCal ∨ s.stage u w = stWait) := by rw [h.1]; decide
    rw [State.parkOne, if_neg hcal, if_pos (.inr h.1)]
    exact h

theorem sqPark_parks (h : s.takesWell n u w) (hi : s.issues n 7 = true) (hp : s.parks u w) :
    s.yields (.sqPark n) (fun t => s.waitsAt t n u w 7 ∧ t.stage u w = stPark ∧ t.rd (WL_PROF_STAT u w) WL_PROF_STAT.SET = 2) := by
  have hn := (issues_cases hi).1
  have hw := h.slot
  have hsel := h.sel
  have hws := selected_slots (s := s) n (s.instrAt n)
  have hx : exec (.sqPark n) s = done (s.sqParkOp n) := rfl
  have hhold := h.own hn
  have hown : (s.own n (s.selected n (s.instrAt n))).besides u w = s.besides u w := own_besides hw
  rw [State.sqParkOp, if_pos hi, h.acts] at hx
  generalize s.selected n (s.instrAt n) = ws at *
  generalize s.own n ws = o at *
  generalize hout : ws.map (fun g => (g, o.parkOutcome (g / 16) (g % 16))) = out at hx
  have hgo : (out.filter (fun e => e.2 = 0)).map (·.1) = goes o.parkOutcome ws := by rw [← hout]; rfl
  have hgoing : slots (goes o.parkOutcome ws) := goes_slots hws
  dsimp only at hx
  rw [hgo] at hx
  generalize goes o.parkOutcome ws = go at *
  have hparks := opStep_brings park_step hws hw hsel (fun x => x.inPark u w) (fun x y hb hq => hq.of_besides hb) o
    (fun x hx => parkOne_parks hw (hx.imp_left fun e => hp.of_besides (e.trans hown)))
  refine ⟨_, hx, ((hhold.each hn hw hws park_step).each hn hw hgoing (trackOn_step go)).waits hn 7 0 out false, ?_⟩
  refine State.inPark.of_besides (x := State.each _ go _) ?_ (sqWaitOn_besides hn 7 0 out false)
  refine ⟨(rd_of_reg (tracksOn_reg go go fun t f => ?_) _).trans hparks.1, (rd_of_reg (tracksOn_reg go go fun t f => ?_) _).trans hparks.2⟩
  · simp only [WL_SETPT, WL_TRACK, wlBase, phBase]; omega
  · simp only [WL_PROF_STAT, WL_TRACK, wlBase, phBase]; omega

end

end Sys2Proof.Machine

/-! PROOFS. TEST on a selected well (R216, R236, R271). -/

namespace Sys2Proof.Machine

open Sys2Proof

section
variable {s o x y : State} {u w n : Nat} {ws : List Nat}

theorem testOne_step {p : Nat} (hp : p < 4) : OpStep (fun x t w => (x.testOne t w p).1) := fun _ _ _ _ F x => F.testOne x hp

/-- One well's part of TEST, with what becomes of the wells so far. -/
def testTurn (p : Nat) (a : State × List (Nat × Nat)) (g : Nat) : State × List (Nat × Nat) :=
  ((a.1.testOne (g / 16) (g % 16) p).1, a.2 ++ [(g, (a.1.testOne (g / 16) (g % 16) p).2)])

theorem testTurns_state (p : Nat) (ws : List Nat) (a : State × List (Nat × Nat)) :
    (ws.foldl (testTurn p) a).1 = a.1.each ws (fun x g => (x.testOne (g / 16) (g % 16) p).1) := by
  induction ws generalizing a with
  | nil => rfl
  | cons g ws ih => exact ih (testTurn p a g)

theorem sqTest_acts (h : s.takesWell n u w) (hi : s.issues n 0xE = true) : ∃ l, exec (.sqTest n) s = .next
    (((s.own n (s.selected n (s.instrAt n))).each (s.selected n (s.instrAt n)) (fun x g => (x.testOne (g / 16) (g % 16) (argOf (s.instrAt n) % 4)).1)).sqWaitOn
      n 0xE 0 l true).settle := by
  have hx : exec (.sqTest n) s = done (s.sqTestOp n) := rfl
  rw [State.sqTestOp, if_pos hi, h.acts] at hx
  dsimp only at hx
  refine ⟨((s.selected n (s.instrAt n)).foldl (testTurn (argOf (s.instrAt n) % 4)) (s.own n (s.selected n (s.instrAt n)), [])).2, hx.trans ?_⟩
  rw [← testTurns_state (argOf (s.instrAt n) % 4) (s.selected n (s.instrAt n)) (s.own n (s.selected n (s.instrAt n)), [])]
  rfl

/-! ### On a STOPPED tile -/

theorem testOne_blocked (p : Nat) (h : s.stopped u = true) : (s.testOne u w p).1 = s.wr (WL_TEST u w) WL_TEST.BLOCKED 1 := by
  rw [State.testOne, h, if_neg (fun e => Bool.noConfusion e.2), if_neg (fun e => Bool.noConfusion e.2)]
  rfl

theorem sqTest_blocked (h : s.takesWell n u w) (hi : s.issues n 0xE = true) (hs : s.stopped u = true) :
    s.yields (.sqTest n) (fun t => s.waitsAt t n u w 0xE ∧ t.flag (WL_TEST u w) WL_TEST.BLOCKED = true) := by
  have hn := (issues_cases hi).1
  have hp : argOf (s.instrAt n) % 4 < 4 := Nat.mod_lt _ (by decide)
  have hws := selected_slots (s := s) n (s.instrAt n)
  obtain ⟨l, hx⟩ := sqTest_acts h hi
  have hin : (WL_TEST u w, WL_TEST.BLOCKED) ∈ wellFields u w := place_in (q := (0x64, WL_TEST.BLOCKED)) (by decide)
  have hblock := opStep_brings (testOne_step hp) hws h.slot h.sel (fun x => x.stopped u = true ∧ x.flag (WL_TEST u w) WL_TEST.BLOCKED = true)
    (fun x y hb hq => ⟨(stopped_of_besides hb).trans hq.1, (flag_of_besides hb hin).trans hq.2⟩) (s.own n (s.selected n (s.instrAt n))) (fun x hx => by
      have hxs : x.stopped u = true := hx.elim (fun e => (stopped_of_besides (e.trans (own_besides h.slot))).trans hs) (·.1)
      rw [testOne_blocked _ hxs]
      refine ⟨?_, flag_wr_one _ _ _ rfl⟩
      rw [State.stopped, rd_wr_ne _ _ _ _ _ _ (by simp only [TH_STAT, WL_TEST, wlBase, phBase]; omega)]
      exact hxs)
  exact ⟨_, hx, ((h.own hn).each hn h.slot hws (testOne_step hp)).waits hn _ _ _ _,
    (flag_of_besides (sqWaitOn_besides hn _ _ _ _) hin).trans hblock.2⟩

/-! ### A step that begins -/

theorem testBegin_begins (s : State) (u w : Nat) {p k : Nat} (hp : p < 4) (b : Bool) :
    (s.testBegin u w p k b).rd (WL_TEST u w) WL_TEST.STATE = 2 ∧ ((s.testBegin u w p k b).te u w).kind = k ∧ ((s.testBegin u w p k b).te u w).pump = p := by
  have hlast (c : Prop) [Decidable c] (x : State) (f : Motion → Motion) : (if c then x.updMo u w f else x).reg (WL_TEST u w) = x.reg (WL_TEST u w) ∧
      (if c then x.updMo u w f else x).te u w = x.te u w := by
    split
    · exact ⟨rfl, updMo_te x u w w u f⟩
    · exact ⟨rfl, rfl⟩
  have hcentre (x : State) : (x.recentre u w).reg (WL_TEST u w) = x.reg (WL_TEST u w) ∧ (x.recentre u w).te u w = x.te u w :=
    ⟨recentre_reg x fun v => by simp only [WL_TEST, WL_SHARE, wlBase]; omega, (congrArg (·.te u w) (recentre_rest (w := w) (t := u) x) :)⟩
  have hbegun (x : State) (f : TestX → TestX) (q : PumpX → PumpX) : ((x.updTe u w f).updPump u w p q).te u w = f (x.te u w) := updTe_same x u w f
  rw [State.testBegin]
  refine ⟨(rd_of_reg ((hlast ..).1.trans (hcentre _).1) _).trans ?_, ?_, ?_⟩
  · have hlink : WL_TEST u w ≠ PM_LINK u w p := by simp only [WL_TEST, PM_LINK]; omega
    have hsvc : WL_TEST u w ≠ PM_SVC u w p := by simp only [WL_TEST, PM_SVC]; omega
    refine (rd_wr_ne _ _ _ _ _ _ hlink).trans ((rd_of_reg (bump_reg _ _ _ hsvc (off_sideRegs (by simp only [WL_TEST, wlBase, phBase]; omega))) _).trans ?_)
    exact (rd_wr_fld _ _ _ _ _ _ rfl rfl).trans ((rd_wr_fld _ _ _ _ _ _ rfl rfl).trans (rd_wr_same _ _ _ 2 rfl))
  · exact (congrArg TestX.kind ((hlast ..).2.trans (hcentre _).2)).trans ((congrArg TestX.kind (hbegun _ _ _)).trans rfl)
  · exact (congrArg TestX.pump ((hlast ..).2.trans (hcentre _).2)).trans ((congrArg TestX.pump (hbegun _ _ _)).trans rfl)

/-- What decides on the kind of a step stands under ownership. -/
structure State.sameWell (s x : State) (u w : Nat) : Prop where
  rest : { x with regs := s.regs, seqs := s.seqs } = s
  reg : ∀ b, b ≠ WL_SETPT u w → x.reg b = s.reg b
  stage : x.stage u w = s.stage u w

namespace State.sameWell
variable (h : s.sameWell x u w)
include h

theorem service (p : Nat) : x.service u w p = s.service u w p := rd_of_reg (h.reg _ (by simp only [PM_STAT, WL_SETPT]; omega)) _

theorem pumpsOf : x.pumpsOf u w = s.pumpsOf u w := (congrArg (·.pumpsOf u w) h.rest :)

theorem servicePumps : x.servicePumps u w = s.servicePumps u w := by
  rw [State.servicePumps, State.servicePumps, h.pumpsOf]
  exact List.filter_congr fun p _ => by rw [State.inService, State.inService, h.service]

theorem shareNum (hu : u < 256) (l : Nat) : x.shareNum u l w = s.shareNum u l w := by
  have hmap (k : Nat) (hk : k < 96) : x.logicalAt u k = s.logicalAt u k := by
    rw [State.logicalAt, State.logicalAt, rd_of_reg (h.reg _ (by simp only [PL_MAP, WL_SETPT, wlBase, phBase]; omega))]
  unfold State.shareNum
  split
  · exact congrArg List.length (List.filter_congr fun k hk => by rw [hmap k (fedClusters_lt hk)])
  · rfl

theorem playOn (hu : u < 256) : x.playOn u w = s.playOn u w := by
  have hlive (l : Nat) : x.stream u l = s.stream u l := (congrArg (·.stream u l) h.rest :)
  have hon : x.logicalsOn u w = s.logicalsOn u w := List.filter_congr fun l _ => by rw [h.shareNum hu]
  rw [State.playOn, State.playOn, hon]
  exact List.filter_congr fun l _ => by rw [hlive]

theorem quietShare (hu : u < 256) (k : Nat) : x.quietShare u w k = s.quietShare u w k := by
  have hstream (l : Nat) : x.stream u l = s.stream u l := (congrArg (·.stream u l) h.rest :)
  have hshare (l : Nat) : x.share48 u l w = s.share48 u l w := by rw [State.share48, State.share48, h.shareNum hu]
  rw [State.quietShare, State.quietShare, h.playOn hu]
  simp only [hstream, hshare]

theorem tie (f : Fld) : x.rd (WL_TIE u w) f = s.rd (WL_TIE u w) f := rd_of_reg (h.reg _ (by simp only [WL_TIE, WL_SETPT, wlBase]; omega)) _

theorem tied : x.tied u w = s.tied u w := by rw [State.tied, State.tied, h.tie]

theorem quietOk (hu : u < 256) : x.quietOk u w = s.quietOk u w := by
  have hstream (l : Nat) : x.stream u l = s.stream u l := (congrArg (·.stream u l) h.rest :)
  have hsh : x.sh u w = s.sh u w := (congrArg (·.sh u w) h.rest :)
  have hipk : x.rd (WL_MOTION1 u w) WL_MOTION1.IPK = s.rd (WL_MOTION1 u w) WL_MOTION1.IPK :=
    rd_of_reg (h.reg _ (by simp only [WL_MOTION1, WL_SETPT, wlBase]; omega)) _
  simp only [State.quietOk, State.quietWindow, State.flag, h.stage, h.playOn hu, h.quietShare hu, h.tied, h.tie, hstream, hsh, hipk]

theorem shadowFit (p : Nat) : x.shadowFit u w p = s.shadowFit u w p := by
  have hte (v : Nat) : x.te u v = s.te u v := (congrArg (·.te u v) h.rest :)
  have hsh : x.sh u w = s.sh u w := (congrArg (·.sh u w) h.rest :)
  have hpump : x.pump u w p = s.pump u w p := (congrArg (·.pump u w p) h.rest :)
  have hload : x.loadF u w = s.loadF u w := (congrArg (·.loadF u w) h.rest :)
  have htopo : x.topoWord u w = s.topoWord u w := (congrArg (·.topoWord u w) h.rest :)
  have hrule : x.ovlLim u w = s.ovlLim u w := by
    rw [State.ovlLim, State.ovlLim, rd_of_reg (h.reg _ (by simp only [WL_FRULE0, WL_SETPT, wlBase]; omega))]
  have hcap (q k : Nat) : x.pumpCap u w q k = s.pumpCap u w q k := by
    rw [State.pumpCap, State.pumpCap, State.pumpShare, State.pumpShare, h.service, htopo]
  have hstate : x.wellState u w = s.wellState u w := by
    simp only [State.wellState, State.ratedN, State.installed, h.servicePumps, htopo] <;> rfl
  simp only [State.shadowFit, State.ratedN, State.flag, h.servicePumps, h.stage, h.tied, h.tie, h.service, hte, hsh, hpump, hload, htopo, hrule, hcap, hstate] <;> rfl

theorem testKind (hu : u < 256) (p : Nat) : x.testKind u w p = s.testKind u w p := by
  have hte : x.te u w = s.te u w := (congrArg (·.te u w) h.rest :)
  have hpump : x.pump u w p = s.pump u w p := (congrArg (·.pump u w p) h.rest :)
  simp only [State.testKind, h.service, h.quietOk hu, h.shadowFit, hte, hpump]

end State.sameWell

theorem own_sameWell (hw : w < 14) : s.sameWell (s.own n [16 * u + w]) u w where
  rest := own_rest
  reg b hb := own_reg fun g hg => by
    have h1 : (16 * u + w) / 16 = u := by omega
    have h2 : (16 * u + w) % 16 = w := by omega
    rw [List.mem_singleton.mp hg, h1, h2]
    exact hb
  stage := stage_of_besides (own_besides hw)

theorem selected_tile {g : Nat} {i : Nat} (h : g ∈ s.selected n i) : g / 16 < 256 := by
  simp only [State.selected, List.mem_flatMap, List.mem_map, List.mem_filter, List.mem_range] at h
  obtain ⟨t, ⟨-, ht⟩, v, ⟨hv, -⟩, rfl⟩ := h
  have hlt := tileOk_lt ht
  omega

theorem sqTest_begins (h : s.takesWell n u w) (hi : s.issues n 0xE = true) (hs : s.stopped u = false) (hk : (s.te u w).kind = 0) (ht : s.tied u w = false)
    (hsel : s.selected n (s.instrAt n) = [16 * u + w]) (hkind : s.testKind u w (argOf (s.instrAt n) % 4) ≠ 0) :
    s.yields (.sqTest n) (fun t => s.waitsAt t n u w 0xE ∧ t.rd (WL_TEST u w) WL_TEST.STATE = 2 ∧
      (t.te u w).kind = s.testKind u w (argOf (s.instrAt n) % 4) ∧ (t.te u w).pump = argOf (s.instrAt n) % 4) := by
  have hn := (issues_cases hi).1
  have hw := h.slot
  have hu : u < 256 := by
    have hlt := selected_tile h.sel
    omega
  have hp : argOf (s.instrAt n) % 4 < 4 := Nat.mod_lt _ (by decide)
  have hws := selected_slots (s := s) n (s.instrAt n)
  obtain ⟨l, hx⟩ := sqTest_acts h hi
  have hhold := ((h.own hn).each hn hw hws (testOne_step hp)).waits hn 0xE 0 l true
  generalize argOf (s.instrAt n) % 4 = p at *
  rw [hsel] at hx hhold
  have hsame : s.sameWell (s.own n [16 * u + w]) u w := own_sameWell hw
  have hb : (s.own n [16 * u + w]).besides u w = s.besides u w := own_besides hw
  have hone : ((s.own n [16 * u + w]).testOne u w p).1 = (s.own n [16 * u + w]).testBegin u w p (s.testKind u w p) true := by
    rw [State.testOne, stopped_of_besides hb, te_of_besides hb, hsame.tied, hsame.testKind hu, hs, hk, ht, if_neg (fun e => e.1 rfl),
      if_neg (fun e => Bool.noConfusion e.1)]
    dsimp only
    rw [if_neg (by decide : ¬false = true), if_neg hkind]
  have h1 : (16 * u + w) / 16 = u := by omega
  have h2 : (16 * u + w) % 16 = w := by omega
  have heach : (s.own n [16 * u + w]).each [16 * u + w] (fun x g => (x.testOne (g / 16) (g % 16) p).1) =
      (s.own n [16 * u + w]).testBegin u w p (s.testKind u w p) true := by
    rw [← hone]
    show ((s.own n [16 * u + w]).testOne ((16 * u + w) / 16) ((16 * u + w) % 16) p).1 = _
    rw [h1, h2]
  rw [heach] at hx hhold
  obtain ⟨hstate, hkd, hpump⟩ := testBegin_begins (s.own n [16 * u + w]) u w (k := s.testKind u w p) hp true
  refine ⟨_, hx, hhold, (rd_of_reg (sqWaitOn_reg _ _ _ _ ?_) _).trans hstate, hkd, hpump⟩
  have hlt := (sq_off_sideRegs hn).1
  simp only [WL_TEST, wlBase, phBase] at hlt ⊢
  omega

end

end Sys2Proof.Machine

/-! PROOFS. Conflicts, pre-emption, WAIT, and the obligation on well instructions (R142, R148, R150, R153, R157, R160-R162, R214, R236). -/

namespace Sys2Proof.Machine

open Sys2Proof

section
variable {s o x y : State} {u w n m : Nat} {ws : List Nat}

/-! ### Conflict -/

theorem wellInstr_conflicts (act : State → List Nat → State) (h : (s.owners n (s.selected n (s.instrAt n)) ≠ [] ∧ s.rd (SQ_STAT n) SQ_STAT.SRC ≠ 2) ∨
    s.outclaimed n (s.selected n (s.instrAt n)) = true) : s.wellInstr n act = ((s.wr (SQ_STAT n) SQ_STAT.CONFLICT 1).setF n false).sqNext n := by
  by_cases hc : s.outclaimed n (s.selected n (s.instrAt n)) = true
  · exact if_pos hc
  · obtain ⟨ho, hsrc⟩ := h.resolve_right hc
    exact (if_neg hc).trans ((if_neg ho).trans (if_neg fun e => hsrc e.1))

theorem wellInstr_conflict {op : Nat} {c : Instr} (hx : ∃ act, exec c s = done (if s.issues n op = true then s.wellInstr n act else s)) (hq : s.quiet)
    (hi : s.issues n op = true) (h : (s.owners n (s.selected n (s.instrAt n)) ≠ [] ∧ s.rd (SQ_STAT n) SQ_STAT.SRC ≠ 2) ∨
      s.outclaimed n (s.selected n (s.instrAt n)) = true) (hpc : s.rd (SQ_STAT n) SQ_STAT.PC + 1 < 1024) :
    ∃ t, exec c s = .next t ∧ t.flag (SQ_STAT n) SQ_STAT.CONFLICT = true ∧
      t.flag (SQ_STAT n) SQ_STAT.F = false ∧ t.rd (SQ_STAT n) SQ_STAT.PC = s.rd (SQ_STAT n) SQ_STAT.PC + 1 ∧
      State.sameBut [SQ_STAT n] s t ∧ t.wells = s.wells ∧ t.pumps = s.pumps ∧ t.tiles = s.tiles ∧ t.fault = s.fault := by
  obtain ⟨act, hx⟩ := hx
  rw [if_pos hi, wellInstr_conflicts act h] at hx
  have hpc1 : (s.wr (SQ_STAT n) SQ_STAT.CONFLICT 1).rd (SQ_STAT n) SQ_STAT.PC = s.rd (SQ_STAT n) SQ_STAT.PC := rd_wr_fld _ _ _ _ _ _ rfl rfl
  obtain ⟨h1, -, h3⟩ := sqNext_steps (s := s.wr (SQ_STAT n) SQ_STAT.CONFLICT 1) (n := n) false (by rw [hpc1]; exact hpc)
  refine ⟨((s.wr (SQ_STAT n) SQ_STAT.CONFLICT 1).setF n false).sqNext n, hx.trans (done_quiet _ hq), ?_, h3, h1.trans (congrArg (· + 1) hpc1), fun a ha => ?_, rfl, rfl, rfl, rfl⟩
  · exact (flag_wr_fld _ _ _ _ _ _ rfl rfl).trans ((flag_wr_fld _ _ _ _ _ _ rfl rfl).trans (flag_wr_one _ _ _ rfl))
  · have hne : a ≠ SQ_STAT n := fun e => ha (List.mem_singleton.mpr e)
    exact (sqNext_reg false hne).trans (reg_wr_ne _ _ _ _ _ hne)

/-! ### Pre-emption -/

theorem wellInstr_preempts (act : State → List Nat → State) (hc : s.outclaimed n (s.selected n (s.instrAt n)) = false)
    (ho : s.owners n (s.selected n (s.instrAt n)) = [m]) (hn : s.rd (SQ_STAT n) SQ_STAT.SRC = 2) (hm : s.rd (SQ_STAT m) SQ_STAT.SRC ≠ 2) :
    s.wellInstr n act = act ((s.seqAbort m 3).own n (s.selected n (s.instrAt n))) (s.selected n (s.instrAt n)) := by
  unfold State.wellInstr
  dsimp only
  rw [hc, ho, if_neg Bool.false_ne_true, if_neg (List.cons_ne_nil _ _), if_pos ⟨hn, by simp [hm]⟩]
  rfl

/-- A register of the Wellhead that no raise or counter touches stands under every step on a well. -/
theorem low_frame {b : Nat} (hb : b < 0x100000) (hs : b ∉ sideRegs) (t v : Nat) : OpFrame t v (fun s : State => s.reg b) where
  active _ _ _ := reg_wr_ne _ _ _ _ _ (by simp only [WL_TRACK, wlBase, phBase]; omega)
  enable _ _ := reg_wr_ne _ _ _ _ _ (by simp only [WL_TRACK, wlBase, phBase]; omega)
  tracking _ _ _ := reg_wr_ne _ _ _ _ _ (by simp only [WL_PROF_STAT, wlBase, phBase]; omega)
  track _ _ := rfl
  gate _ _ _ _ _ := reg_wr_ne _ _ _ _ _ (by simp only [PH_CLPWR, phBase]; omega)
  cl _ _ _ := rfl
  stage _ _ := reg_wr_ne _ _ _ _ _ (by simp only [WL_SETPT, wlBase, phBase]; omega)
  cmd _ _ := reg_wr_ne _ _ _ _ _ (by simp only [WL_SETPT, wlBase, phBase]; omega)
  prof _ _ _ := reg_wr_ne _ _ _ _ _ (by simp only [WL_PROF_STAT, wlBase, phBase]; omega)
  link _ _ _ _ _ := reg_wr_ne _ _ _ _ _ (by simp only [PM_LINK, wlBase, phBase]; omega)
  prime _ _ _ _ _ := reg_wr_ne _ _ _ _ _ (by simp only [PH_PRIME, phBase]; omega)
  win _ _ := reg_wr_ne _ _ _ _ _ (by simp only [AD_WIN, phBase]; omega)
  full _ _ _ := reg_wr_ne _ _ _ _ _ (by simp only [AD_STAT, phBase]; omega)
  awake _ _ := reg_wr_ne _ _ _ _ _ (by simp only [PH_PWR, phBase]; omega)
  power _ := rfl
  phase _ _ _ := reg_wr_ne _ _ _ _ _ (by simp only [WL_TIE, wlBase, phBase]; omega)
  sh _ _ _ := rfl
  pump _ _ _ := rfl
  mo _ _ := rfl
  te _ _ := rfl
  test _ _ _ := reg_wr_ne _ _ _ _ _ (by simp only [WL_TEST, wlBase, phBase]; omega)
  svc _ _ _ := bump_reg _ _ _ (by simp only [PM_SVC, wlBase, phBase]; omega) hs
  share _ _ _ _ := reg_wr_ne _ _ _ _ _ (by simp only [WL_SHARE, wlBase, phBase]; omega)
  told _ _ _ := rfl

theorem cancelWait_low {b : Nat} (hb : b < 0x100000) (hs : b ∉ sideRegs) : (s.cancelWait m).reg b = s.reg b := by
  unfold State.cancelWait
  dsimp only
  split_ifs
  · rfl
  · exact each_keeps (fun x => x.reg b) _ (fun x g => x.unprime (g / 16) (g % 16)) (fun x g => (low_frame hb hs _ _).unprime x) s
  · exact each_keeps (fun x => x.reg b) _ (fun x g => x.updMo (g / 16) (g % 16) (fun m => { m with handReq := false })) (fun _ _ => rfl) s
  · exact each_keeps (fun x => x.reg b) _ (fun x g => x.updTe (g / 16) (g % 16) (fun x => { x with queued := none })) (fun _ _ => rfl) s
  · rfl

theorem dropPend_low (t v : Nat) {b : Nat} (hb : b < 0x100000) : (s.dropPend t v).reg b = s.reg b := by
  unfold State.dropPend
  split
  · rfl
  · refine (each_keeps (fun x => x.reg b) _ _ (fun x k => ?_) _).trans (reg_wr_ne _ _ _ _ _ (by simp only [WL_VOTE, wlBase, phBase]; omega))
    dsimp only
    split <;> rfl

theorem releaseWells_low {b : Nat} (hb : b < 0x100000) : (s.releaseWells m).reg b = s.reg b := by
  unfold State.releaseWells
  dsimp only
  refine (each_keeps (fun x => x.reg b) _ _ (fun x g => ?_) _).trans rfl
  have hne : b ≠ WL_SETPT (g / 16) (g % 16) := by simp only [WL_SETPT, wlBase, phBase]; omega
  exact (dropPend_low _ _ hb).trans ((reg_wr_ne _ _ _ _ _ hne).trans (reg_wr_ne _ _ _ _ _ hne))

theorem seqAbort_low (code : Nat) {b : Nat} (hb : b < 0x100000) (hs : b ∉ sideRegs) (h : b ≠ SQ_STAT m) : (s.seqAbort m code).reg b = s.reg b := by
  unfold State.seqAbort
  exact (releaseWells_low hb).trans ((reg_wr_ne _ _ _ _ _ h).trans ((reg_wr_ne _ _ _ _ _ h).trans (cancelWait_low hb hs)))

theorem seqAbort_stops (hm : m < 8) : (s.seqAbort m 3).sqState m = 0 ∧ (s.seqAbort m 3).rd (SQ_STAT m) SQ_STAT.ABORT = 3 := by
  have hlow := (sq_off_sideRegs hm).1
  unfold State.seqAbort
  refine ⟨(rd_of_reg (releaseWells_low hlow) _).trans (rd_wr_same _ _ _ 0 rfl), ?_⟩
  exact (rd_of_reg (releaseWells_low hlow) _).trans ((rd_wr_fld _ _ _ _ _ _ rfl rfl).trans (rd_wr_same _ _ _ 3 rfl))

/-- What tells that a program was aborted. -/
def stopFields (m : Nat) : List (Nat × Fld) := [(SQ_STAT m, SQ_STAT.STATE), (SQ_STAT m, SQ_STAT.ABORT)]

theorem stopFields_claims (hm : m < 8) (u w : Nat) : claimsOnly (stopFields m) u w := by
  intro e he
  simp only [stopFields, List.mem_cons, List.not_mem_nil, or_false] at he
  rcases he with rfl | rfl
  · exact ⟨rfl, .inl (sq_off_sideRegs hm)⟩
  · exact ⟨rfl, .inl (sq_off_sideRegs hm)⟩

theorem sqSetv_preempts (n m u w : Nat) (s : State) (hsel : 16 * u + w ∈ s.selected n (s.instrAt n)) (hw : w < 14) (hi : s.issues n 2 = true)
    (hc : s.outclaimed n (s.selected n (s.instrAt n)) = false) (ho : s.owners n (s.selected n (s.instrAt n)) = [m]) (h2 : s.rd (SQ_STAT n) SQ_STAT.SRC = 2)
    (hm2 : s.rd (SQ_STAT m) SQ_STAT.SRC ≠ 2) (hpc : s.rd (SQ_STAT n) SQ_STAT.PC + 1 < 1024) : s.yields (.sqSetv n) (fun t =>
      s.stepped t n u w ∧ t.rd (WL_SETPT u w) WL_SETPT.V_CMD = argOf (s.instrAt n) ∧ t.sqState m = 0 ∧ t.rd (SQ_STAT m) SQ_STAT.ABORT = 3) := by
  have hn := (issues_cases hi).1
  have hm : m < 8 ∧ m ≠ n := by
    have hmem : m ∈ s.owners n (s.selected n (s.instrAt n)) := by rw [ho]; exact List.mem_singleton.mpr rfl
    simp only [State.owners, List.mem_filter, List.mem_range, Bool.and_eq_true, bne_iff_ne] at hmem
    exact ⟨hmem.1, hmem.2.1⟩
  have hsq : SQ_STAT n ≠ SQ_STAT m := by simp only [SQ_STAT]; omega
  have hws := selected_slots (s := s) n (s.instrAt n)
  have hx : exec (.sqSetv n) s = done (s.sqSetvOp n) := rfl
  rw [State.sqSetvOp, if_pos hi, wellInstr_preempts _ hc ho h2 hm2] at hx
  have habort : (s.seqAbort m 3).reg (SQ_STAT n) = s.reg (SQ_STAT n) := seqAbort_low 3 (sq_off_sideRegs hn).1 (sq_off_sideRegs hn).2 hsq
  have hhold : s.hasWell ((s.seqAbort m 3).own n (s.selected n (s.instrAt n))) n u w := {
    owned := (own_owns hn hws hw hsel).1
    owner := (own_owns hn hws hw hsel).2
    pc := rd_of_reg ((own_low (sq_off_sideRegs hn).1).trans habort) _
    state := rd_of_reg ((own_low (sq_off_sideRegs hn).1).trans habort) _ }
  have hstops : ((s.seqAbort m 3).own n (s.selected n (s.instrAt n))).fieldsAt (stopFields m) = (s.seqAbort m 3).fieldsAt (stopFields m) :=
    List.map_congr_left fun e he => rd_of_reg (own_low (by
      simp only [stopFields, List.mem_cons, List.not_mem_nil, or_false] at he
      rcases he with rfl | rfl
      · exact (sq_off_sideRegs hm.1).1
      · exact (sq_off_sideRegs hm.1).1)) _
  generalize (s.seqAbort m 3).own n (s.selected n (s.instrAt n)) = o at *
  have hcmd := opStep_brings (setv_step (argOf (s.instrAt n))) hws hw hsel (fun x => x.rd (WL_SETPT u w) WL_SETPT.V_CMD = argOf (s.instrAt n))
    (fun _ _ hxy hq => (cmd_of_besides hxy).trans hq) o (fun x _ => cmd_sets x (argOf_lt _))
  have hstop := (opStep_claims (setv_step (argOf (s.instrAt n))) hws hw (stopFields_claims hm.1 u w) o).trans hstops
  obtain ⟨hs0, ha3⟩ := seqAbort_stops (s := s) hm.1
  refine ⟨_, hx, eachOp_steps hi hw hws hpc hhold (setv_step _), (cmd_of_besides (sqNext_besides hn _)).trans hcmd, ?_, ?_⟩
  · exact (rd_of_reg (sqNext_reg _ hsq.symm) _).trans ((rd_of_fields hstop (by simp [stopFields])).trans hs0)
  · exact (rd_of_reg (sqNext_reg _ hsq.symm) _).trans ((rd_of_fields hstop (by simp [stopFields])).trans ha3)

/-! ### WAIT -/

theorem sqWait_waits (n : Nat) (s : State) (hq : s.quiet) (hi : s.issues n 8 = true) : ∃ t, exec (.sqWait n) s = .next t ∧ t.sqState n = 2 ∧ (t.sq n).op = 8 ∧
    (t.sq n).cond = argOf (s.instrAt n) / 1024 ∧ State.sameBut [SQ_STAT n] s t := by
  have hx : exec (.sqWait n) s = done (s.sqWaitOp n) := rfl
  rw [State.sqWaitOp, if_pos hi] at hx
  dsimp only at hx
  generalize ite (argOf (s.instrAt n) / 1024 = 0) [] _ = l at hx
  refine ⟨_, hx.trans (done_quiet _ hq), rd_wr_same _ _ _ 2 rfl, congrArg SeqX.op (updSq_same _ n _), congrArg SeqX.cond (updSq_same _ n _), fun a ha => ?_⟩
  exact sqWaitOn_reg _ _ _ _ fun e => ha (List.mem_singleton.mpr e)

end

/-- Settles O41: an instruction is one step on each selected well, which leaves every claim and every other well; conflict, pre-emption, the
opcodes that go on and those that wait each by their own lemma. -/
theorem sequencerActs : Obligations.SequencerActs := by
  refine ⟨fun n op c s hq hc hi h hpc => ?_, sqSetv_preempts, fun n u w s hsel hw hfree halone hpc => ?_, fun n u w s hsel hw hfree halone => ?_, sqWait_waits⟩
  · simp only [List.mem_cons, List.not_mem_nil, or_false, Prod.mk.injEq] at hc
    rcases hc with ⟨rfl, rfl⟩ | ⟨rfl, rfl⟩ | ⟨rfl, rfl⟩ | ⟨rfl, rfl⟩ | ⟨rfl, rfl⟩ | ⟨rfl, rfl⟩ | ⟨rfl, rfl⟩ | ⟨rfl, rfl⟩ | ⟨rfl, rfl⟩ | ⟨rfl, rfl⟩ | ⟨rfl, rfl⟩ <;>
      exact wellInstr_conflict ⟨_, rfl⟩ hq hi h hpc
  · have hs : s.takesWell n u w := ⟨hsel, hw, hfree, halone⟩
    exact ⟨sqSetv_sets hs hpc, sqProf_sets hs hpc, fun hi h1 h2 h3 => sqHyst_asks hs hpc hi ⟨h1, h2, h3⟩, sqClgt_sets hs hpc, sqTie_holds hs hpc, sqPmode_sets hs hpc,
      sqTrk_sets hs hpc⟩
  · have hs : s.takesWell n u w := ⟨hsel, hw, hfree, halone⟩
    exact ⟨fun hi h1 h2 h3 => sqPrime_primes hs hi ⟨h1, h2, h3⟩, sqHand_asks hs, fun hi h1 h2 h3 h4 => sqPark_parks hs hi ⟨h1, h2, h3, h4⟩,
      sqTest_blocked hs, sqTest_begins hs⟩

end Sys2Proof.Machine

/-! PROOFS. What a deficit reaction writes, and a pump that is retired at once (R23, R217, R222). -/

namespace Sys2Proof.Machine

open Sys2Proof

section
variable {s : State} {t w : Nat} {b : Nat}

/-! ### A deficit reaction writes the ties' registers alone -/

/-- The register is none of a tie's. -/
structure TieClear (t b : Nat) : Prop where
  tie : b ≠ PH_TIE t
  wtie : ∀ v, b ≠ WL_TIE t v

variable (h : TieClear t b)
include h

theorem setProtRest_reg (v r : Nat) : (s.setProtRest t v r).reg b = s.reg b := by
  unfold State.setProtRest
  dsimp only
  generalize max r _ = m
  split
  · rfl
  · exact reg_wr_ne _ _ _ _ _ (h.wtie v)

theorem unloadTies_reg (v : Nat) : (s.unloadTies t v).reg b = s.reg b := unloadTies_keeps (fun u => u.reg b) (fun _ n => startUnload_reg n b h.wtie) v

theorem closeTie_reg (v n : Nat) : (s.closeTie t v n).reg b = s.reg b := by
  have hfirst (u : State) (o : Nat) (m : Nat) : ((((u.wr (PH_TIE t) PH_TIE.ON m).wr (WL_TIE t o) WL_TIE.PARTNER v).wr (WL_TIE t o) WL_TIE.ROLE 2).wr (WL_TIE t o) WL_TIE.PHASE 1).reg b =
      u.reg b := (reg_wr_ne _ _ _ _ _ (h.wtie o)).trans ((reg_wr_ne _ _ _ _ _ (h.wtie o)).trans ((reg_wr_ne _ _ _ _ _ (h.wtie o)).trans (reg_wr_ne _ _ _ _ _ h.tie)))
  unfold State.closeTie
  dsimp only
  split
  · exact (reg_wr_ne _ _ _ _ _ (h.wtie v)).trans (hfirst s _ _)
  · exact (reg_wr_ne _ _ _ _ _ (h.wtie v)).trans ((reg_wr_ne _ _ _ _ _ (h.wtie v)).trans ((reg_wr_ne _ _ _ _ _ (h.wtie v)).trans (hfirst s _ _)))

theorem deficitTie_reg (v : Nat) : (s.deficitTie t v).reg b = s.reg b := by
  unfold State.deficitTie
  dsimp only
  split_ifs
  · rfl
  · split
    · exact closeTie_reg h v _
    · rfl
  · split
    · exact closeTie_reg h v _
    · rfl
  · rfl
  · rfl

theorem keepTie_reg (v : Nat) : (s.keepTie t v).reg b = s.reg b := by
  unfold State.keepTie
  split
  · exact each_keeps (fun u => u.reg b) [v, s.rd (WL_TIE t v) WL_TIE.PARTNER] (fun (u : State) x =>
      (u.wr (WL_TIE t x) WL_TIE.PHASE 2).updSh t x (fun h => { h with quietUnload := false, lowRun := 0, unloadN := 0 }))
      (fun _ x => reg_wr_ne _ _ _ _ _ (h.wtie x)) s
  · rfl

theorem restReact_reg (v : Nat) : (s.restReact t v).reg b = s.reg b := by
  have hcover : (s.wri (WL_TIE t v) WL_TIE.COVER (s.coverOf t v)).reg b = s.reg b := wri_reg_ne _ _ _ _ _ (h.wtie v)
  unfold State.restReact
  dsimp only
  generalize s.wri (WL_TIE t v) WL_TIE.COVER (s.coverOf t v) = u at hcover ⊢
  have hset (r : Nat) : (u.setProtRest t v r).reg b = s.reg b := (setProtRest_reg h v r).trans hcover
  split
  · exact hset _
  · split
    · exact hset 15
    · exact hset 15

theorem deficitNoted_reg (v : Nat) : (s.deficitNoted t v).reg b = s.reg b := by
  have hmark : ((s.wrb (WL_TIE t v) WL_TIE.DEFICIT (s.hasDeficit t v)).on (s.hasDeficit t v)
      (·.updSh t v (fun h => { h with winQuiet := false, quietWin := false }))).reg b = s.reg b := by
    unfold State.on
    split
    · exact reg_wr_ne _ _ _ _ _ (h.wtie v)
    · exact reg_wr_ne _ _ _ _ _ (h.wtie v)
  unfold State.deficitNoted
  dsimp only
  split
  · exact hmark
  · exact hmark

theorem deficitPast_reg (v : Nat) : (s.deficitPast t v).reg b = s.reg b := by
  have hset (f : ShareX → ShareX) : (((s.wri (WL_TIE t v) WL_TIE.COVER (s.coverOf t v)).setProtRest t v 0).updSh t v f).reg b = s.reg b :=
    (setProtRest_reg h v 0).trans (wri_reg_ne _ _ _ _ _ (h.wtie v))
  unfold State.deficitPast
  dsimp only
  split
  · exact (unloadTies_reg h v).trans (hset _)
  · exact hset _

theorem deficitActs_reg (v : Nat) (d full : Bool) : (s.deficitActs t v d full).reg b = s.reg b := by
  have hunload : (if d then s.unloadTies t v else s).reg b = s.reg b := by
    split
    · exact unloadTies_reg h v
    · rfl
  have htie : (if d then (s.keepTie t v).deficitTie t v else s).reg b = s.reg b := by
    split
    · exact (deficitTie_reg h v).trans (keepTie_reg h v)
    · rfl
  unfold State.deficitActs
  dsimp only
  split
  · generalize (if d then s.unloadTies t v else s) = u at hunload ⊢
    split
    · exact (restReact_reg h v).trans hunload
    · split
      · exact hunload
      · exact (setProtRest_reg h v 0).trans hunload
  · split
    · exact (restReact_reg h v).trans htie
    · exact deficitPast_reg h v

theorem deficitReact_reg (v : Nat) : (s.deficitReact t v).reg b = s.reg b := by
  rw [deficitReact_eq]
  exact (deficitActs_reg h v _ _).trans (deficitNoted_reg h v)

theorem again_reg (v : Nat) (h1 : b ≠ WL_CAP t v) (h2 : b ≠ PH_CIST t (v / 4)) : (s.again t v).reg b = s.reg b := by
  unfold State.again
  split
  · exact (deficitReact_reg h v).trans (recompute_reg _ t v false b h1 h2)
  · rfl

end

/-! ### A pump that is retired -/

/-- RETIRED for a reason, with PEN low. -/
structure PumpGone (t w p reason : Nat) (u : State) : Prop where
  service : u.service t w p = 3
  reason : u.rd (PM_SVC t w p) PM_SVC.REASON = reason
  pen : u.flag (PM_LINK t w p) PM_LINK.PEN = false

section
variable {s u : State} {t w p reason : Nat}

theorem PumpGone.of_reg (h : PumpGone t w p reason s) (hs : u.reg (PM_STAT t w p) = s.reg (PM_STAT t w p)) (hv : u.reg (PM_SVC t w p) = s.reg (PM_SVC t w p))
    (hl : u.reg (PM_LINK t w p) = s.reg (PM_LINK t w p)) : PumpGone t w p reason u where
  service := (rd_of_reg hs _).trans h.service
  reason := (rd_of_reg hv _).trans h.reason
  pen := (flag_of_reg hl _).trans h.pen

/-- A well that goes DRY leaves its pump retired. -/
theorem PumpGone.goDry (hw : w < 15) (hp : p < 4) (h : PumpGone t w p reason s) : PumpGone t w p reason (s.goDry t w) where
  service := goDry_preserves s (fun x => PM_STAT.SERVICE.get x = 3) hw (dryClear_stat t hw hp) (fun u q _ hu => pumpDry_retired u t w p q hu) h.service
  reason := by
    have hne (q : Nat) (hq : q < 4) : PM_SVC t w p ≠ PM_LINK t w q ∧ PM_SVC t w p ≠ PM_STAT t w q := by
      simp only [PM_SVC, PM_LINK, PM_STAT]; omega
    exact goDry_preserves s (fun x => PM_SVC.REASON.get x = reason) hw (dryClear_svc t hw hp)
      (fun u q hq hu => by rw [pumpDry_reg u t w q _ (hne q hq).1 (hne q hq).2]; exact hu) h.reason
  pen := goDry_preserves s (fun x => (PM_LINK.PEN.get x == 1) = false) hw (dryClear_link t hw hp) (fun u q _ hu => pumpDry_pen u t w p q hu) h.pen

/-- What a retirement brings to a well besides its pump: nothing more, the end of a wake, or that it goes DRY. -/
theorem retire_cases (hn : s.service t w p ≠ 3) : ∃ f : PumpX → PumpX, (∀ y, (f y).inTest = y.inTest) ∧ (s.retire t w p reason = (s.pumpOut t w p reason).updPump t w p f ∨
    s.retire t w p reason = (((s.pumpOut t w p reason).updPump t w p f).unprime t w).wakeFail t w ∨
    s.retire t w p reason = ((s.pumpOut t w p reason).updPump t w p f).goDry t w ∨
    s.retire t w p reason = (((s.pumpOut t w p reason).updPump t w p f).goDry t w).holdPh { src := 4, tile := t, well := 14 }) := by
  refine ⟨(fun q => { q with retire := 0, lasting := false, openRun := 0, impl := [], follower := false, returned := false }), fun _ => rfl, ?_⟩
  have hunf : s.retire t w p reason = _ := if_neg hn
  dsimp only at hunf
  split_ifs at hunf
  · exact .inr (.inr (.inr hunf))
  · exact .inr (.inr (.inl hunf))
  · exact .inr (.inl hunf)
  · exact .inl hunf

theorem pumpOut_gone (hre : reason < 16) : PumpGone t w p reason (s.pumpOut t w p reason) where
  service := by
    have hsvc : PM_STAT t w p ≠ PM_SVC t w p := by simp only [PM_STAT, PM_SVC]; omega
    rw [State.service, State.pumpOut, rd_wr_ne _ _ _ _ _ _ hsvc, State.setService, rd_wr_same _ _ _ _ (by decide)]
    rfl
  reason := by
    rw [State.pumpOut, rd_wr_same _ _ _ _ (by decide)]
    exact Nat.mod_eq_of_lt hre
  pen := by
    have hlnk : PM_LINK t w p ≠ PM_SVC t w p := by simp only [PM_LINK, PM_SVC]; omega
    rw [State.pumpOut, flag_wr_ne _ _ _ _ _ _ hlnk, State.setService, flag_wr_ne _ _ _ _ _ _ (link_ne_stat t w p p), penLow_pen]

/-- A pump is retired for a reason (R23). -/
theorem retire_gone (hw : w < 15) (hp : p < 4) (hn : s.service t w p ≠ 3) (hre : reason < 16) : PumpGone t w p reason (s.retire t w p reason) := by
  obtain ⟨f, -, h⟩ := retire_cases (reason := reason) hn
  have hout : PumpGone t w p reason ((s.pumpOut t w p reason).updPump t w p f) := (pumpOut_gone hre).of_reg rfl rfl rfl
  have hone (b : Nat) (hb : DryClear t w b) : ((((s.pumpOut t w p reason).updPump t w p f).unprime t w).wakeFail t w).reg b =
      ((s.pumpOut t w p reason).updPump t w p f).reg b :=
    (wakeFail_reg _ t w b (hb.well 0x80 (by decide))).trans (unprime_reg hw hb)
  rcases h with h | h | h | h
  · rw [h]; exact hout
  · rw [h]; exact hout.of_reg (hone _ (dryClear_stat t hw hp)) (hone _ (dryClear_svc t hw hp)) (hone _ (dryClear_link t hw hp))
  · rw [h]; exact hout.goDry hw hp
  · rw [h]; exact (hout.goDry hw hp).of_reg (holdPh_reg _ _ _) (holdPh_reg _ _ _) (holdPh_reg _ _ _)

theorem tieClear_pump (o : Nat) (ho : (0x3A < o ∧ o < 0x50) ∨ (0x68 ≤ o ∧ o < 0x6C)) : TieClear t (wlBase t w + o) where
  tie := by simp only [wlBase, PH_TIE]; omega
  wtie v := by simp only [wlBase, WL_TIE]; omega

/-- A pump's registers stand under what follows a change of a well's means. -/
theorem again_pump {o : Nat} (ho : (0x3A < o ∧ o < 0x50) ∨ (0x68 ≤ o ∧ o < 0x6C)) (hw : w < 15) :
    (s.again t w).reg (wlBase t w + o) = s.reg (wlBase t w + o) :=
  again_reg (tieClear_pump o ho) w (by simp only [wlBase, WL_CAP]; omega) (by simp only [wlBase, PH_CIST]; omega)

theorem PumpGone.recentred (h : PumpGone t w p reason s) (hw : w < 15) (hp : p < 4) : PumpGone t w p reason ((s.recentre t w).again t w) := by
  have hone (o : Nat) (ho : (0x3B < o ∧ o < 0x50) ∨ (0x68 ≤ o ∧ o < 0x6C)) : ((s.recentre t w).again t w).reg (wlBase t w + o) = s.reg (wlBase t w + o) :=
    (again_pump (by omega) hw).trans (recentre_reg s fun v => by simp only [wlBase, WL_SHARE]; omega)
  have hstat : PM_STAT t w p = wlBase t w + (0x42 + p * 4) := Nat.add_assoc ..
  have hlink : PM_LINK t w p = wlBase t w + (0x40 + p * 4) := Nat.add_assoc ..
  have hsvc : PM_SVC t w p = wlBase t w + (0x68 + p) := Nat.add_assoc ..
  refine h.of_reg ?_ ?_ ?_
  · rw [hstat]; exact hone _ (by omega)
  · rw [hsvc]; exact hone _ (by omega)
  · rw [hlink]; exact hone _ (by omega)

/-- PUMP_OPEN_RETIRE (R222). -/
theorem pumpOpen_retires (u w p : Nat) (s : State) (hok : s.pumpOk u w p = true) (hrun : 2 ≤ (s.pump u w p).openRun) (hs : s.service u w p = 1) :
    s.yields (.pumpOpenRetire u w p) (fun t => t.service u w p = 3 ∧ t.rd (PM_SVC u w p) PM_SVC.REASON = 1 ∧ t.flag (PM_LINK u w p) PM_LINK.PEN = false) := by
  obtain ⟨hwell, hp⟩ := (pumpOk_iff s u w p).mp hok
  have hw := (wellOk_lt s hwell).2
  have hp4 : p < 4 := Nat.lt_of_lt_of_le hp (installed_le s u w)
  have he : s.pumpOpenRetire u w p = ((s.retire u w p 1).recentre u w).again u w := by
    rw [State.pumpOpenRetire, hok, hs, decide_eq_true hrun]
    rfl
  refine ⟨s.pumpOpenRetire u w p, rfl, ?_⟩
  rw [he]
  obtain ⟨h1, h2, h3⟩ := (retire_gone (reason := 1) hw hp4 (by rw [hs]; decide) (by decide)).recentred hw hp4
  exact ⟨h1, h2, h3⟩

end

end Sys2Proof.Machine

/-! PROOFS. Checks of pumps and connections, and the clocks of an in-field test (R222-R237). -/

namespace Sys2Proof.Machine

open Sys2Proof

section
variable {s u : State} {t w p : Nat}

/-! ### The trim of a pump that shares no more (R118) -/

theorem shareFld_ok : ∀ p, p < 4 → (shareFld p).ok = true ∧ 0 < (shareFld p).width := by decide

theorem shareFld_apart : ∀ p, p < 4 → ∀ q, q < 4 → q ≠ p → (shareFld q).apart (shareFld p) = true := by decide

theorem trim_zeroed (hp : p < 4) : (s.wri (WL_SHARE t w) (shareFld p) 0).trim t w p = 0 := by
  obtain ⟨hok, hwid⟩ := shareFld_ok p hp
  exact rdi_wri_same _ _ _ hok hwid (by have := Nat.two_pow_pos ((shareFld p).width - 1); omega) (by exact_mod_cast Nat.two_pow_pos _)

theorem trim_other {v q : Nat} (hp : p < 4) (hq : q < 4) (h : v = w → q ≠ p) (x : Int) : (s.wri (WL_SHARE t v) (shareFld q) x).trim t w p = s.trim t w p := by
  by_cases hv : v = w
  · subst hv
    exact rdi_wr_fld s _ _ _ _ _ (shareFld_ok p hp).1 (shareFld_apart p hp q hq (h rfl))
  · exact congrArg (fun d => (shareFld p).geti d) (wri_reg_ne s _ _ _ x (by simp only [WL_SHARE, wlBase]; omega))

theorem zeroTrims_trim (hp : p < s.installed t w) (hs : s.service t w p ≠ 1) (ht : (s.pump t w p).inTest = false) : (s.zeroTrims t w).trim t w p = 0 := by
  have hp4 : p < 4 := Nat.lt_of_lt_of_le hp (installed_le s t w)
  refine each_list_brings (fun u => u.service t w p ≠ 1 ∧ (u.pump t w p).inTest = false) (fun u => u.trim t w p = 0)
    (fun (u : State) q => if (u.service t w q == 1) || (u.pump t w q).inTest then u else u.wri (WL_SHARE t w) (shareFld q) 0)
    (fun u hu => ?_) (fun u q _ hu => ?_) (fun u q hq _ h0 => ?_) (List.mem_range.mpr hp) s ⟨hs, ht⟩
  · obtain ⟨h1, h2⟩ := hu
    rw [if_neg (by simp [h1, h2])]
    exact trim_zeroed hp4
  · split
    · exact hu
    · exact ⟨fun h => hu.1 ((rd_of_reg (wri_reg_ne u _ _ _ _ (by simp only [PM_STAT, WL_SHARE]; omega)) _).symm.trans h), hu.2⟩
  · split
    · exact h0
    · by_cases hqp : q = p
      · subst hqp; exact trim_zeroed hp4
      · exact (trim_other hp4 (pumpsOf_lt s hq) (fun _ => hqp) 0).trans h0

/-- A pump that is neither LIVE nor in a test has no trim. -/
theorem recentre_trim (hp : p < s.installed t w) (hs : s.service t w p ≠ 1) (ht : (s.pump t w p).inTest = false) : (s.recentre t w).trim t w p = 0 := by
  have hp4 : p < 4 := Nat.lt_of_lt_of_le hp (installed_le s t w)
  have hzero := zeroTrims_trim hp hs ht
  have hs0 : (s.zeroTrims t w).service t w p ≠ 1 := fun h =>
    hs ((rd_of_reg (zeroTrims_reg fun v => by simp only [PM_STAT, WL_SHARE, wlBase]; omega) _).symm.trans h)
  rw [State.recentre]
  generalize s.zeroTrims t w = z at hzero hs0
  have hlive : ∀ e ∈ z.livePumps t (z.groupWells t w), e.2 < 4 ∧ (e.1 = w → e.2 ≠ p) := by
    intro e he
    obtain ⟨v, _, he⟩ := List.mem_flatMap.mp he
    obtain ⟨q, hq, rfl⟩ := List.mem_map.mp he
    obtain ⟨hq, hlive⟩ := List.mem_filter.mp hq
    refine ⟨pumpsOf_lt z hq, ?_⟩
    rintro rfl rfl
    simp only [Bool.and_eq_true, beq_iff_eq] at hlive
    exact hs0 hlive.1.1
  unfold State.centre
  dsimp only
  generalize meanI _ = mean
  refine (each_mem_keeps (fun u => u.trim t w p) _ (fun u (e : (Nat × Nat) × Int) => u.wri (WL_SHARE t e.1.1) (shareFld e.1.2) _) (fun u e he => ?_) z).trans hzero
  obtain ⟨x, hx, rfl⟩ := List.mem_map.mp he
  obtain ⟨hlt, hne⟩ := hlive x hx
  exact trim_other hp4 hlt hne _

/-! ### A second pump that is retired -/

theorem pumpOut_reg {b reason : Nat} (h1 : b ≠ PM_LINK t w p) (h2 : b ≠ PM_STAT t w p) (h3 : b ≠ PM_SVC t w p) :
    (s.pumpOut t w p reason).reg b = s.reg b :=
  (reg_wr_ne _ _ _ _ _ h3).trans ((reg_wr_ne _ _ _ _ _ h2).trans (penLow_reg s t w p b h1 h2))

/-- What stands in a register that the retired pump does not hold, nor a well that goes DRY with it. -/
theorem retire_stands {b q reason : Nat} (P : Word → Prop) (hw : w < 15) (hb : DryClear t w b) (h1 : b ≠ PM_LINK t w q) (h2 : b ≠ PM_STAT t w q)
    (h3 : b ≠ PM_SVC t w q) (hdry : ∀ (u : State) r, r < 4 → P (u.reg b) → P ((u.pumpDry t w r).reg b)) (hs : P (s.reg b)) :
    P ((s.retire t w q reason).reg b) := by
  by_cases hn : s.service t w q = 3
  · rw [State.retire, if_pos hn]; exact hs
  · obtain ⟨f, -, h⟩ := retire_cases (reason := reason) hn
    have hout : P (((s.pumpOut t w q reason).updPump t w q f).reg b) := by
      show P ((s.pumpOut t w q reason).reg b)
      rw [pumpOut_reg h1 h2 h3]; exact hs
    generalize (s.pumpOut t w q reason).updPump t w q f = x at h hout
    rcases h with h | h | h | h
    · rw [h]; exact hout
    · rw [h, wakeFail_reg _ t w b (hb.well 0x80 (by decide)), unprime_reg hw hb]; exact hout
    · rw [h]; exact goDry_preserves x P hw hb hdry hout
    · rw [h, holdPh_reg]; exact goDry_preserves x P hw hb hdry hout

theorem retire_service {q reason : Nat} (hw : w < 15) (hp : p < 4) (h : s.service t w p = 3) : (s.retire t w q reason).service t w p = 3 := by
  by_cases hq : q = p
  · subst hq; rw [State.retire, if_pos h]; exact h
  · exact retire_stands (fun x => PM_STAT.SERVICE.get x = 3) hw (dryClear_stat t hw hp) (link_ne_stat t w q p).symm (stat_ne_stat (Ne.symm hq))
      (by simp only [PM_STAT, PM_SVC]; omega) (fun u r _ hu => pumpDry_retired u t w p r hu) h

theorem retire_reason {q reason x : Nat} (hw : w < 15) (hp : p < 4) (hq4 : q < 4) (h : s.service t w p = 3) (hx : s.rd (PM_SVC t w p) PM_SVC.REASON = x) :
    (s.retire t w q reason).rd (PM_SVC t w p) PM_SVC.REASON = x := by
  by_cases hq : q = p
  · subst hq; rw [State.retire, if_pos h]; exact hx
  · have hne (r : Nat) (hr : r < 4) : PM_SVC t w p ≠ PM_LINK t w r ∧ PM_SVC t w p ≠ PM_STAT t w r := by
      simp only [PM_SVC, PM_LINK, PM_STAT]; omega
    exact retire_stands (fun d => PM_SVC.REASON.get d = x) hw (dryClear_svc t hw hp) (by simp only [PM_SVC, PM_LINK]; omega)
      (by simp only [PM_SVC, PM_STAT]; omega) (by simp only [PM_SVC]; omega)
      (fun u r hr hu => by rw [pumpDry_reg u t w r _ (hne r hr).1 (hne r hr).2]; exact hu) hx

theorem retire_done {reason : Nat} (hw : w < 15) (hp : p < 4) (hre : reason < 16) : (s.retire t w p reason).service t w p = 3 := by
  by_cases h : s.service t w p = 3
  · exact retire_service hw hp h
  · exact (retire_gone hw hp h hre).service

/-- A pump's registers stand as the trims are centred anew and the well's means are weighed. -/
theorem recentred_pump {o : Nat} (hw : w < 15) (ho : (0x3B < o ∧ o < 0x50) ∨ (0x68 ≤ o ∧ o < 0x6C)) :
    ((s.recentre t w).again t w).reg (wlBase t w + o) = s.reg (wlBase t w + o) :=
  (again_pump (by omega) hw).trans (recentre_reg s fun v => by simp only [wlBase, WL_SHARE]; omega)

theorem recentred_service (hw : w < 15) (hp : p < 4) : ((s.recentre t w).again t w).service t w p = s.service t w p := by
  have h : PM_STAT t w p = wlBase t w + (0x42 + p * 4) := Nat.add_assoc ..
  rw [State.service, State.service, h]
  exact rd_of_reg (recentred_pump hw (by omega)) _

theorem recentred_reason (hw : w < 15) (hp : p < 4) :
    ((s.recentre t w).again t w).rd (PM_SVC t w p) PM_SVC.REASON = s.rd (PM_SVC t w p) PM_SVC.REASON := by
  have h : PM_SVC t w p = wlBase t w + (0x68 + p) := Nat.add_assoc ..
  rw [h]
  exact rd_of_reg (recentred_pump hw (by omega)) _

/-! ### SENSE_FOLLOW (R224, R225) -/

/-- The first follower of a well is a pump whose sense is distrusted. -/
theorem senseFollow_follows (u w p : Nat) (s : State) (hok : s.pumpOk u w p = true) (hs : s.service u w p = 1) (hf : s.senseFailed u w p = true)
    (hnone : ∀ r, r < s.installed u w → s.service u w r ≠ 2) (ht : (s.pump u w p).inTest = false) :
    s.yields (.senseFollow u w p) (fun t => t.service u w p = 2 ∧ t.rd (PM_SVC u w p) PM_SVC.REASON = 4 ∧ t.trim u w p = 0) := by
  obtain ⟨hwell, hp⟩ := (pumpOk_iff s u w p).mp hok
  have hw := (wellOk_lt s hwell).2
  have hp4 : p < 4 := Nat.lt_of_lt_of_le hp (installed_le s u w)
  have hfirst : (s.pumpsOf u w).filter (fun r => s.service u w r == 2) = [] := List.filter_eq_nil_iff.mpr fun r hr => by
    simpa using hnone r (List.mem_range.mp hr)
  refine ⟨s.senseFollow u w p, rfl, ?_⟩
  have he : s.senseFollow u w p = _ := if_pos (by rw [hok, hs, hf]; rfl)
  dsimp only at he
  rw [hfirst, if_neg (by simp)] at he
  rw [he]
  clear he
  have hsvc : PM_STAT u w p ≠ PM_SVC u w p := by simp only [PM_STAT, PM_SVC]; omega
  generalize hx : ((((s.updSh u w (fun h => { h with sumRun := 0, suspects := [] })).setService u w p 2).wr (PM_SVC u w p) PM_SVC.REASON 4).updPump u w p
    (fun q => { q with impl := [], fHist := [], openRun := 0, follower := true })) = x
  have hserv : x.service u w p = 2 := by
    rw [← hx]
    exact (rd_wr_ne _ _ _ _ _ _ hsvc).trans (rd_wr_same _ _ _ 2 rfl)
  have hreason : x.rd (PM_SVC u w p) PM_SVC.REASON = 4 := by rw [← hx]; exact rd_wr_same _ _ _ 4 rfl
  have htest : (x.pump u w p).inTest = false := by rw [← hx, updPump_same]; exact ht
  have hinst : p < x.installed u w := by rw [← hx]; exact hp
  refine ⟨(recentred_service hw hp4).trans hserv, (recentred_reason hw hp4).trans hreason, ?_⟩
  have htrim := recentre_trim hinst (by rw [hserv]; decide) htest
  refine Eq.trans (congrArg (fun d => (shareFld p).geti d) (?_ : ((x.recentre u w).again u w).reg (WL_SHARE u w) = (x.recentre u w).reg (WL_SHARE u w))) htrim
  exact again_pump (o := 0x3B) (by omega) hw

/-- A second pump whose sense is distrusted is retired, and the follower with it. -/
theorem senseFollow_retires (u w p r : Nat) (s : State) (hok : s.pumpOk u w p = true) (hs : s.service u w p = 1) (hf : s.senseFailed u w p = true)
    (hr : r < s.installed u w) (hrs : s.service u w r = 2) :
    s.yields (.senseFollow u w p) (fun t => t.service u w p = 3 ∧ t.service u w r = 3 ∧ t.rd (PM_SVC u w p) PM_SVC.REASON = 7) := by
  obtain ⟨hwell, hp⟩ := (pumpOk_iff s u w p).mp hok
  have hw := (wellOk_lt s hwell).2
  have hp4 : p < 4 := Nat.lt_of_lt_of_le hp (installed_le s u w)
  have hr4 : r < 4 := Nat.lt_of_lt_of_le hr (installed_le s u w)
  have hmem : r ∈ (s.pumpsOf u w).filter (fun r => s.service u w r == 2) := List.mem_filter.mpr ⟨List.mem_range.mpr hr, by rw [hrs]; rfl⟩
  refine ⟨s.senseFollow u w p, rfl, ?_⟩
  have he : s.senseFollow u w p = _ := if_pos (by rw [hok, hs, hf]; rfl)
  dsimp only at he
  rw [if_pos (List.ne_nil_of_mem hmem)] at he
  rw [he]
  clear he
  have hlt : ∀ q ∈ (s.pumpsOf u w).filter (fun r => s.service u w r == 2), q < 4 := fun q hq => pumpsOf_lt s (List.mem_of_mem_filter hq)
  generalize (s.pumpsOf u w).filter (fun r => s.service u w r == 2) = l at hmem hlt
  have hgone : PumpGone u w p 7 ((s.updSh u w (fun h => { h with sumRun := 0, suspects := [] })).retire u w p 7) :=
    retire_gone hw hp4 (by show s.service u w p ≠ 3; rw [hs]; decide) (by decide)
  generalize (s.updSh u w (fun h => { h with sumRun := 0, suspects := [] })).retire u w p 7 = x at hgone
  have hboth : (x.each l (fun v q => v.retire u w q 5)).service u w p = 3 ∧ (x.each l (fun v q => v.retire u w q 5)).rd (PM_SVC u w p) PM_SVC.REASON = 7 :=
    each_holds (fun v => v.service u w p = 3 ∧ v.rd (PM_SVC u w p) PM_SVC.REASON = 7) _
      (fun v q hql hv => ⟨retire_service hw hp4 hv.1, retire_reason hw hp4 (hlt q hql) hv.1 hv.2⟩) x ⟨hgone.service, hgone.reason⟩
  have hfollow : (x.each l (fun v q => v.retire u w q 5)).service u w r = 3 :=
    each_brings (fun v => v.service u w r = 3) l (fun v q => v.retire u w q 5) r hmem (fun v => retire_done hw hr4 (by decide)) (fun v q _ hv => retire_service hw hr4 hv) x
  exact ⟨(recentred_service hw hp4).trans hboth.1, (recentred_service hw hr4).trans hfollow, (recentred_reason hw hp4).trans hboth.2⟩

/-! ### Connections (R227, R229) -/

theorem voltedOk_iff (s : State) (t w : Nat) : s.voltedOk t w = true ↔ s.wellOk t w = true ∧ w < 14 := by
  simp only [State.voltedOk, Bool.and_eq_true, decide_eq_true_eq]

/-- CRACK_SUSPECT. -/
theorem crackSuspect_sets (u w : Nat) (s : State) (hq : s.quiet) (hv : s.voltedOk u w = true) (hrun : 64 ≤ (s.sh u w).crackRun)
    (hc : s.flag (WL_CHK u w) WL_CHK.CRACK = false) : ∃ t, exec (.crackSuspect u w) s = .next t ∧ t.flag (WL_CHK u w) WL_CHK.CRACK = true ∧
      (t.sh u w).regCap = true ∧ t.capEvents = s.capEvents ++ [16 * u + w] ∧ State.sameBut [WL_CHK u w] s t := by
  have he : s.crackSuspect u w = ((s.wr (WL_CHK u w) WL_CHK.CRACK 1).updSh u w (fun h => { h with regCap := true, crackRun := 0 })).capEvent u w :=
    if_pos (by rw [hv, hc, decide_eq_true hrun]; rfl)
  refine ⟨_, done_quiet _ (by rw [he]; exact hq), ?_⟩
  rw [he]
  refine ⟨flag_wr_one s _ _ (by decide), ?_, rfl, fun b hb => ?_⟩
  · exact (congrArg ShareX.regCap (updSh_same (s.wr (WL_CHK u w) WL_CHK.CRACK 1) u w (fun h => { h with regCap := true, crackRun := 0 }))).trans rfl
  · exact reg_wr_ne _ _ _ _ _ (by simpa using hb)

theorem rest_decided (r : Rest) (v beat : Nat) : (r.decide v beat).want = v := by
  unfold Rest.decide
  split
  next h => exact h.symm
  next => rfl

theorem setProtRest_want (h : s.flag (WL_CHK t w) WL_CHK.SENSE_OPEN = true) (he : s.emptied t w = false) (r : Nat) :
    8 ≤ ((s.setProtRest t w r).sh t w).pr.want := by
  unfold State.setProtRest
  dsimp only
  rw [h, he]
  generalize hm : max r _ = m
  have h8 : 8 ≤ m := by
    rw [← hm]
    simp only [Bool.not_false, Bool.and_self, if_true]
    omega
  split
  next heq => rw [← heq]; exact h8
  next =>
    have hset := updSh_same (s.wr (WL_TIE t w) WL_TIE.PROT_REST m) t w (fun h => { h with pr := h.pr.decide m s.clk.beat })
    have hwant : (((s.wr (WL_TIE t w) WL_TIE.PROT_REST m).sh t w).pr.decide m s.clk.beat).want = m := rest_decided _ m s.clk.beat
    exact h8.trans_eq (hwant.symm.trans (congrArg (fun h : ShareX => h.pr.want) hset).symm)

theorem setProtRest_fault (r : Nat) : (s.setProtRest t w r).fault = s.fault := by
  unfold State.setProtRest
  dsimp only
  generalize max r _ = m
  split <;> rfl

/-- SENSE_OPEN. -/
theorem senseOpen_sets (u w : Nat) (s : State) (hq : s.quiet) (hv : s.voltedOk u w = true) (hrun : 2 ≤ (s.sh u w).senseRun)
    (hc : s.flag (WL_CHK u w) WL_CHK.SENSE_OPEN = false) : ∃ t, exec (.senseOpen u w) s = .next t ∧ t.flag (WL_CHK u w) WL_CHK.SENSE_OPEN = true ∧
      t.flag (WL_CHK u w) WL_CHK.DROP_OK = false ∧ { src := 20, tile := u, well := w } ∈ t.fault.held ∧
      (s.emptied u w = false → 8 ≤ (t.sh u w).pr.want) ∧ State.sameBut [WL_CHK u w, WL_TIE u w] s t := by
  have hwell := ((voltedOk_iff s u w).mp hv).1
  have hu : u < 256 := Nat.lt_trans (wellOk_lt s hwell).1 (rd_lt s HD_TOPO HD_TOPO.TILES)
  have he : s.senseOpen u w = _ := if_pos (by rw [hv, hc, decide_eq_true hrun]; rfl)
  dsimp only at he
  generalize hx : ((s.wr (WL_CHK u w) WL_CHK.SENSE_OPEN 1).wr (WL_CHK u w) WL_CHK.DROP_OK 0).holdPh { src := 20, tile := u, well := w } = x at he
  have hreg (b : Nat) (hb : b ≠ WL_CHK u w) : x.reg b = s.reg b := by
    rw [← hx, holdPh_reg]
    exact (reg_wr_ne _ _ _ _ _ hb).trans (reg_wr_ne _ _ _ _ _ hb)
  have hopen : x.flag (WL_CHK u w) WL_CHK.SENSE_OPEN = true := by
    rw [← hx]
    exact (flag_of_reg (holdPh_reg _ _ _) _).trans ((flag_wr_fld _ _ _ _ _ _ rfl rfl).trans (flag_wr_one s _ _ (by decide)))
  have hdrop : x.flag (WL_CHK u w) WL_CHK.DROP_OK = false := by
    rw [← hx]
    exact (flag_of_reg (holdPh_reg _ _ _) _).trans (flag_wr_zero _ _ _ (by decide))
  have hheld : { src := 20, tile := u, well := w } ∈ x.fault.held := by rw [← hx]; exact holdPh_mem _
  have hnow : x.fault.now = s.fault.now := by rw [← hx]; exact holdPh_now _ _
  have hemp : x.emptied u w = s.emptied u w := by
    have hmap (k : Nat) (hk : k ∈ fedClusters w) : x.mapState u k = s.mapState u k := by
      have hk := fedClusters_lt hk
      exact rd_of_reg (hreg _ (by simp only [PL_MAP, WL_CHK, wlBase, phBase]; omega)) _
    have hclass : x.rd (PL_WELL (16 * u + w)) PL_WELL.CLASS = s.rd (PL_WELL (16 * u + w)) PL_WELL.CLASS :=
      rd_of_reg (hreg _ (by have := (wellOk_lt s hwell).2; simp only [PL_WELL, WL_CHK, wlBase, phBase]; omega)) _
    rw [State.emptied, State.emptied, hclass]
    exact congrArg (_ && ·) (Bool.eq_iff_iff.mpr (by simp only [List.all_eq_true]; exact forall₂_congr fun k hk => by rw [hmap k hk]))
  have hchk (r b : Nat) (hb : b ≠ WL_TIE u w) : (x.setProtRest u w r).reg b = x.reg b := by
    unfold State.setProtRest
    dsimp only
    generalize max r _ = m
    split
    · rfl
    · exact reg_wr_ne _ _ _ _ _ hb
  have hne : WL_CHK u w ≠ WL_TIE u w := by simp only [WL_CHK, WL_TIE]; omega
  have hqx : ((x.setProtRest u w (x.sh u w).pr.want).capEvent u w).fault.now = [] :=
    (congrArg FaultX.now (setProtRest_fault _)).trans (hnow.trans hq)
  refine ⟨_, done_quiet _ (by rw [he]; exact hqx), ?_⟩
  rw [he]
  refine ⟨(flag_of_reg (hchk _ _ hne) _).trans hopen, (flag_of_reg (hchk _ _ hne) _).trans hdrop, ?_, fun hz => ?_, fun b hb => ?_⟩
  · show _ ∈ (x.setProtRest u w _).fault.held
    rw [setProtRest_fault]; exact hheld
  · exact setProtRest_want hopen (hemp.trans hz) _
  · simp only [List.mem_cons, List.not_mem_nil, or_false, not_or] at hb
    exact (hchk _ b hb.2).trans (hreg b hb.1)

end

end Sys2Proof.Machine

/-! PROOFS. In-field tests: due, deferred, overdue, and the return of a retired pump (R231, R234, R237). -/

namespace Sys2Proof.Machine

open Sys2Proof

section
variable {s : State} {t w : Nat}

/-! ### A test that becomes due (R231) -/

theorem makeDue_sets (s : State) (t w : Nat) : ((s.makeDue t w).te t w).dueAt = some s.ao ∧ (s.makeDue t w).rd (WL_TEST t w) WL_TEST.PASS = 0 ∧
    ((s.te t w).kind = 0 → (s.makeDue t w).rd (WL_TEST t w) WL_TEST.STATE = 1) ∧ State.sameBut [WL_TEST t w] s (s.makeDue t w) ∧
    (s.makeDue t w).fault = s.fault ∧ (s.makeDue t w).port = s.port := by
  have hx : ((((s.wr (WL_TEST t w) WL_TEST.PASS 0).updTe t w (fun x => { x with dueAt := some s.ao, shadowOk := false, overdue := false }))).te t w).dueAt = some s.ao :=
    congrArg TestX.dueAt (updTe_same (s.wr (WL_TEST t w) WL_TEST.PASS 0) t w (fun x => { x with dueAt := some s.ao, shadowOk := false, overdue := false }))
  have hpass : (s.wr (WL_TEST t w) WL_TEST.PASS 0).rd (WL_TEST t w) WL_TEST.PASS = 0 := rd_wr_same _ _ _ 0 rfl
  unfold State.makeDue
  dsimp only
  split
  next h =>
    refine ⟨hx, (rd_wr_fld _ _ _ _ _ _ rfl rfl).trans hpass, fun _ => rd_wr_same _ _ _ 1 rfl, fun b hb => ?_, rfl, rfl⟩
    have hb : b ≠ WL_TEST t w := by simpa using hb
    exact (reg_wr_ne _ _ _ _ _ hb).trans (reg_wr_ne _ _ _ _ _ hb)
  next h =>
    refine ⟨hx, hpass, fun h0 => absurd h0 h, fun b hb => ?_, rfl, rfl⟩
    exact reg_wr_ne _ _ _ _ _ (by simpa using hb)

/-- TEST_DUE. -/
theorem testDue_sets (u w : Nat) (s : State) (hq : s.quiet) (hv : s.voltedOk u w = true) (hd : (s.te u w).dueAt = none) :
    ∃ t, exec (.testDue u w) s = .next t ∧ (t.te u w).dueAt = some s.ao ∧ t.rd (WL_TEST u w) WL_TEST.PASS = 0 ∧
      ((s.te u w).kind = 0 → t.rd (WL_TEST u w) WL_TEST.STATE = 1) ∧ State.sameBut [WL_TEST u w] s t := by
  have he : s.testDue u w = s.makeDue u w := if_pos (by rw [hv, hd]; rfl)
  obtain ⟨h1, h2, h3, h4, h5, _⟩ := makeDue_sets s u w
  exact ⟨_, done_quiet _ (by rw [he, h5]; exact hq), by rw [he]; exact ⟨h1, h2, h3, h4⟩⟩

/-- TEST_REQ. -/
theorem testReq_sets (u w : Nat) (d : Word) (s : State) (hq : s.quiet) (ha : s.alone) (hw : w < 14) (ht : s.takes (WL_TEST u w) d)
    (hr : WL_TEST.REQ.get d = 1) : ∃ t, exec (.testReq u w d) s = .next t ∧ (t.te u w).dueAt = some s.ao ∧
      ((s.te u w).kind = 0 → t.rd (WL_TEST u w) WL_TEST.STATE = 1) ∧ State.sameBut [WL_TEST u w] s t ∧ t.port = (s.answered rOkay 0).port := by
  have he : s.testReqWrite u w d = (s.plainWrite (WL_TEST u w) d).makeDue u w := if_pos ⟨hr, hw⟩
  have hrest : { s.plainWrite (WL_TEST u w) d with regs := s.regs } = s := plainWrite_rest s _ _
  have hte : (s.plainWrite (WL_TEST u w) d).te u w = s.te u w := (congrArg (·.te u w) hrest :)
  have hao : (s.plainWrite (WL_TEST u w) d).ao = s.ao := by
    rw [State.ao, State.ao, plainWrite_reg s _ _ _ (by simp only [HD_AO_TIME, WL_TEST, wlBase, phBase]; omega)]
  obtain ⟨h1, h2, h3, h4, h5, h6⟩ := makeDue_sets (s.plainWrite (WL_TEST u w) d) u w
  clear h2
  have hfault : ((s.plainWrite (WL_TEST u w) d).makeDue u w).fault = s.fault := h5.trans (plainWrite_fault s _ _)
  have hport : ((s.plainWrite (WL_TEST u w) d).makeDue u w).port = s.port := h6.trans (plainWrite_port s _ _)
  clear h5 h6
  generalize (s.plainWrite (WL_TEST u w) d).makeDue u w = z at he h1 h3 h4 hfault hport
  rw [hte] at h3
  rw [hao] at h1
  refine ⟨_, hostOp_effect (show exec (.testReq u w d) s = hostOp s (WL_TEST u w) d (·.testReqWrite u w d) from rfl) ht he ?_ ?_, ?_⟩
  · show State.alone _
    rw [State.alone, hport]; exact ha
  · show FaultX.now _ = []
    rw [hfault]; exact hq
  · refine ⟨h1, h3, fun b hb => ?_, by rw [State.answered, State.answered, hport]⟩
    exact (h4 b hb).trans (plainWrite_reg s _ _ _ (by simpa using hb))

/-- TEST_DEFER_EXPIRY. -/
theorem testDefer_sets (u w : Nat) (s : State) (hq : s.quiet) (hv : s.voltedOk u w = true) (hd : (s.te u w).dueAt.isSome = true) :
    ∃ t, exec (.testDeferExpiry u w) s = .next t ∧ (t.te u w).shadowOk = true ∧ State.sameBut [] s t := by
  have he : s.testDeferExpiry u w = s.updTe u w (fun x => { x with shadowOk := true }) := if_pos (by rw [hv, hd]; rfl)
  refine ⟨_, done_quiet _ (by rw [he]; exact hq), ?_⟩
  rw [he]
  exact ⟨congrArg TestX.shadowOk (updTe_same s u w (fun x => { x with shadowOk := true })), fun _ _ => rfl⟩

/-- TEST_OVERDUE. -/
theorem testOverdue_sets (u w : Nat) (s : State) (hq : s.quiet) (hv : s.voltedOk u w = true) (hd : (s.te u w).dueAt.isSome = true)
    (hs : (s.te u w).shadowOk = true) (ho : (s.te u w).overdue = false) : ∃ t, exec (.testOverdue u w) s = .next t ∧ (t.te u w).overdue = true ∧
      (∃ r, t.fault.inflight = s.fault.inflight ++ [r] ∧ r.src = 22 ∧ r.tile = u ∧ r.well = w) ∧
      ((s.te u w).kind = 0 → t.rd (WL_TEST u w) WL_TEST.STATE = 3) ∧ State.sameBut [WL_TEST u w] s t := by
  have he : s.testOverdue u w = _ := if_pos (by rw [hv, hd, hs, ho]; rfl)
  have hover : ((s.updTe u w (fun x => { x with overdue := true })).te u w).overdue = true :=
    congrArg TestX.overdue (updTe_same s u w (fun x => { x with overdue := true }))
  by_cases hk : (s.te u w).kind = 0
  · rw [if_pos hk] at he
    refine ⟨_, done_quiet _ (by rw [he]; exact hq), ?_⟩
    rw [he]
    refine ⟨hover, ⟨_, rfl, rfl, rfl, rfl⟩, fun _ => rd_wr_same _ _ _ 3 rfl, fun b hb => reg_wr_ne _ _ _ _ _ (by simpa using hb)⟩
  · rw [if_neg hk] at he
    refine ⟨_, done_quiet _ (by rw [he]; exact hq), ?_⟩
    rw [he]
    exact ⟨hover, ⟨_, rfl, rfl, rfl, rfl⟩, fun h0 => absurd h0 hk, fun _ _ => rfl⟩

/-! ### The return of a retired pump (R237) -/

/-- RET_ARM. -/
theorem retArm_sets (u : Nat) (d : Word) (s : State) (hq : s.quiet) (ha : s.alone) (ht : s.takes (PH_RET_ARM u) d) :
    ∃ t, exec (.retArm u d) s = .next t ∧ t.rd (PH_RET_ARM u) PH_RET_ARM.SLOT = PH_RET_ARM.SLOT.get d ∧
      t.flag (PH_RET_ARM u) PH_RET_ARM.ARMED = decide (PH_RET_ARM.CODE.get d = 0xA5) ∧
      (t.tile u).armAt = (if PH_RET_ARM.CODE.get d = 0xA5 then some s.clk.ns else none) ∧ State.sameBut [PH_RET_ARM u] s t := by
  refine ⟨_, hostOp_effect (show exec (.retArm u d) s = hostOp s (PH_RET_ARM u) d (·.retArmWrite u d) from rfl) ht rfl ha hq, ?_⟩
  have hslot : (s.wr (PH_RET_ARM u) PH_RET_ARM.SLOT (PH_RET_ARM.SLOT.get d)).rd (PH_RET_ARM u) PH_RET_ARM.SLOT = PH_RET_ARM.SLOT.get d :=
    (rd_wr_same s _ _ _ rfl).trans (Nat.mod_eq_of_lt (BitVec.isLt _))
  refine ⟨(rd_wr_fld _ _ _ _ _ _ rfl rfl).trans hslot, flag_wrb_same _ _ _ _ rfl, ?_, fun b hb => ?_⟩
  · exact congrArg TileX.armAt (updTile_same _ u (fun x => { x with armAt := if PH_RET_ARM.CODE.get d = 0xA5 then some s.clk.ns else none }))
  · have hb : b ≠ PH_RET_ARM u := by simpa using hb
    exact (reg_wr_ne _ _ _ _ _ hb).trans (reg_wr_ne _ _ _ _ _ hb)

/-- RET_ARM_EXPIRY. -/
theorem retArm_expires (u : Nat) (s : State) (hq : s.quiet) (h : (s.tile u).armAt.isSome = true) : ∃ t, exec (.retArmExpiry u) s = .next t ∧
    t.flag (PH_RET_ARM u) PH_RET_ARM.ARMED = false ∧ (t.tile u).armAt = none ∧ State.sameBut [PH_RET_ARM u] s t := by
  have he : s.retArmExpiry u = (s.wr (PH_RET_ARM u) PH_RET_ARM.ARMED 0).updTile u (fun x => { x with armAt := none }) := if_pos h
  refine ⟨_, done_quiet _ (by rw [he]; exact hq), ?_⟩
  rw [he]
  exact ⟨flag_wr_zero s _ _ (by decide), congrArg TileX.armAt (updTile_same _ u (fun x => { x with armAt := none })),
    fun b hb => reg_wr_ne _ _ _ _ _ (by simpa using hb)⟩

/-- The pump is OFF again and waits for its test step; its slot is no longer armed. -/
theorem returnWrite_returns (u w p a : Nat) (d : Word) (s : State) (hr : PM_SVC.RETURN.get d = 1) (hs : s.service u w p = 3)
    (harm : s.flag (PH_RET_ARM u) PH_RET_ARM.ARMED = true) (hslot : s.rd (PH_RET_ARM u) PH_RET_ARM.SLOT = 4 * w + p) (hat : (s.tile u).armAt = some a)
    (hin : s.clk.ns ≤ a + 1000) : (s.returnWrite u w p d).service u w p = 0 ∧ ((s.returnWrite u w p d).pump u w p).returned = true ∧
      (s.returnWrite u w p d).flag (PH_RET_ARM u) PH_RET_ARM.ARMED = false := by
  have he : s.returnWrite u w p d = _ := if_pos ⟨hr, by rw [harm, hslot, hat]; simp [hin], hs⟩
  rw [he]
  have hside {b : Nat} (x : State) (hb : 0x100000 ≤ b) : (x.recordEvent (PM_SVC u w p) d).reg b = x.reg b :=
    record_plain_reg (ty := 9) 0 _ (by decide) (by decide) (off_sideRegs hb)
  have hrec (x : State) : (x.recordEvent (PM_SVC u w p) d).pumps = x.pumps :=
    (congrArg State.pumps (record_plain_rest (s := x) (ty := 9) 0 [d, BitVec.ofNat 64 (PM_SVC u w p % 2 ^ 24)] (by decide) (by decide)) :)
  refine ⟨?_, ?_, ?_⟩
  · refine (rd_of_reg (hside _ (by simp only [PM_STAT, wlBase, phBase]; omega)) _).trans ?_
    exact rd_wr_same _ _ _ 0 rfl
  · refine (congrArg PumpX.returned (congrArg (fun l => tget (fun _ => {}) l (4 * (16 * u + w) + p)) (hrec _))).trans ?_
    exact congrArg PumpX.returned (updPump_same _ u w p (fun q => { q with returned := true, lasting := false, faultAt := none }))
  · refine (flag_of_reg (hside _ (by simp only [PH_RET_ARM, phBase]; omega)) _).trans ?_
    refine (flag_wr_ne _ _ _ _ _ _ (by simp only [PH_RET_ARM, PM_STAT, wlBase]; omega)).trans ?_
    exact flag_wr_zero _ _ _ (by decide)

/-- RETURN_PUMP, in the 1 us after its slot was armed, and later. -/
theorem returnPump_answers (u w p a : Nat) (d : Word) (s : State) (ht : s.takes (PM_SVC u w p) d) (hr : PM_SVC.RETURN.get d = 1) (hs : s.service u w p = 3)
    (harm : s.flag (PH_RET_ARM u) PH_RET_ARM.ARMED = true) (hslot : s.rd (PH_RET_ARM u) PH_RET_ARM.SLOT = 4 * w + p) (hat : (s.tile u).armAt = some a) :
    (s.clk.ns ≤ a + 1000 → s.yieldsAnswered (.returnPump u w p d) (PM_SVC u w p) (fun t => t.service u w p = 0 ∧
      (t.pump u w p).returned = true ∧ t.flag (PH_RET_ARM u) PH_RET_ARM.ARMED = false)) ∧
    (a + 1000 < s.clk.ns → s.yieldsAnswered (.returnPump u w p d) (PM_SVC u w p) (fun t => t.service u w p = 3)) := by
  refine ⟨fun hin => yieldsAnswered_of_takes (f := (·.returnWrite u w p d)) rfl ht (returnWrite_returns u w p a d s hr hs harm hslot hat hin), fun hlate => ?_⟩
  have he : s.returnWrite u w p d = s.plainWrite (PM_SVC u w p) d := if_neg (by rw [hat]; simp [Nat.not_le.mpr hlate])
  refine yieldsAnswered_of_takes (f := (·.returnWrite u w p d)) rfl ht ?_
  rw [he]
  exact (rd_of_reg (plainWrite_reg s _ _ _ (by simp only [PM_STAT, PM_SVC]; omega)) _).trans hs

end

end Sys2Proof.Machine

/-! PROOFS. A test step that begins, and what a well that goes DRY leaves of it (R232, R233). -/

namespace Sys2Proof.Machine

open Sys2Proof

section
variable {s : State} {u w p : Nat}

/-! ### A step that begins -/

theorem nextTest_lt (h : s.nextTest u w = some p) : p < 4 := by
  unfold State.nextTest at h
  split at h
  next q hq =>
    obtain rfl : q = p := Option.some.inj h
    exact pumpsOf_lt s (List.mem_of_find?_eq_some hq)
  next => exact pumpsOf_lt s (List.mem_of_find?_eq_some h)

theorem updTe_mo (x : State) (f : TestX → TestX) : (x.updTe u w f).mo u w = x.mo u w := by simp [State.updTe, State.mo]

/-- The state in which a step has its pump out of service and its data set, before the trims are centred. -/
theorem testBegin_pump (s : State) (u w : Nat) {p k : Nat} (hp : p < 4) (hk : k < 4) (b : Bool) :
    (s.testBegin u w p k b).rd (WL_TEST u w) WL_TEST.VARIANT = k ∧ (s.testBegin u w p k b).flag (PM_LINK u w p) PM_LINK.PEN = false ∧
      ((s.testBegin u w p k b).pump u w p).measuring = true := by
  have hlast (c : Prop) [Decidable c] (x : State) (f : Motion → Motion) (a : Nat) : (if c then x.updMo u w f else x).reg a = x.reg a ∧
      (if c then x.updMo u w f else x).pump u w p = x.pump u w p := by
    split
    · exact ⟨rfl, rfl⟩
    · exact ⟨rfl, rfl⟩
  have hcentre (x : State) {a : Nat} (ha : ∀ v, a ≠ WL_SHARE u v) : (x.recentre u w).reg a = x.reg a ∧ (x.recentre u w).pump u w p = x.pump u w p :=
    ⟨recentre_reg x ha, (congrArg (·.pump u w p) (recentre_rest (w := w) (t := u) x) :)⟩
  have hlink : WL_TEST u w ≠ PM_LINK u w p := by simp only [WL_TEST, PM_LINK]; omega
  have hsvc : WL_TEST u w ≠ PM_SVC u w p := by simp only [WL_TEST, PM_SVC]; omega
  have htest (v : Nat) : WL_TEST u w ≠ WL_SHARE u v := by simp only [WL_TEST, WL_SHARE, wlBase]; omega
  rw [State.testBegin]
  refine ⟨(rd_of_reg ((hlast ..).1.trans (hcentre _ htest).1) _).trans ?_, ?_, ?_⟩
  · refine (rd_wr_ne _ _ _ _ _ _ hlink).trans ((rd_of_reg (bump_reg _ _ _ hsvc (off_sideRegs (by simp only [WL_TEST, wlBase, phBase]; omega))) _).trans ?_)
    exact (rd_wr_fld _ _ _ _ _ _ rfl rfl).trans ((rd_wr_same _ _ _ k rfl).trans (Nat.mod_eq_of_lt hk))
  · refine (flag_of_reg ((hlast ..).1.trans (hcentre _ fun v => ?_).1) _).trans (flag_wr_zero _ _ _ (by decide))
    simp only [PM_LINK, WL_SHARE, wlBase]
    omega
  · exact (congrArg PumpX.measuring ((hlast _ _ _ 0).2.trans (hcentre _ htest).2)).trans
      (congrArg PumpX.measuring (updPump_same _ u w p (fun q => { q with measuring := true, inTest := true })))

/-- A quiet-window step asks a well in voltage mode to leave it; another step leaves what the well is asked. -/
theorem testBegin_hyst (s : State) (u w p k : Nat) (b : Bool) : ((s.testBegin u w p k b).mo u w).hystReq =
    (if k = 1 ∧ s.stage u w = stVolt then true else (s.mo u w).hystReq) := by
  have hcentre (x : State) : (x.recentre u w).mo u w = x.mo u w := (congrArg (·.mo u w) (recentre_rest (w := w) (t := u) x) :)
  have hbegun (x : State) (a : Nat) (f : TestX → TestX) (g : PumpX → PumpX) : ((((x.bump a).wr (PM_LINK u w p) PM_LINK.PEN 0).updTe u w f).updPump u w p g).mo u w = x.mo u w := by
    have hbump : (x.bump a).mo u w = x.mo u w := (congrArg (·.mo u w) (bump_rest x a) :)
    exact (updTe_mo ((x.bump a).wr (PM_LINK u w p) PM_LINK.PEN 0) f).trans hbump
  rw [State.testBegin]
  split
  · exact congrArg Motion.hystReq (updMo_same _ u w (fun m => { m with hystReq := true }))
  · exact congrArg Motion.hystReq ((hcentre _).trans (hbegun _ _ _ _))

/-- QUIET_TEST_START (R232). -/
theorem quietTest_starts (u w p : Nat) (s : State) (hv : s.voltedOk u w = true) (hn : s.nextTest u w = some p) (hs : s.scheduled u w = true)
    (hq : s.quietOk u w = true) : s.yields (.quietTestStart u w) (fun t => t.rd (WL_TEST u w) WL_TEST.STATE = 2 ∧
      t.rd (WL_TEST u w) WL_TEST.VARIANT = 1 ∧ (t.te u w).kind = 1 ∧ (t.te u w).pump = p ∧ t.flag (PM_LINK u w p) PM_LINK.PEN = false ∧
      (t.pump u w p).measuring = true ∧ (s.stage u w = stVolt → (t.mo u w).hystReq = true) ∧
      (s.stage u w ≠ stVolt → (t.mo u w).hystReq = (s.mo u w).hystReq)) := by
  have he : s.quietStart u w = s.testBegin u w p 1 false := by
    rw [State.quietStart, hn]
    exact if_pos (by rw [hv, hs, hq]; rfl)
  refine ⟨s.quietStart u w, rfl, ?_⟩
  rw [he]
  obtain ⟨h1, h2, h3⟩ := testBegin_begins s u w (k := 1) (nextTest_lt hn) false
  obtain ⟨h4, h5, h6⟩ := testBegin_pump s u w (k := 1) (nextTest_lt hn) (by decide) false
  have h7 := testBegin_hyst s u w p 1 false
  refine ⟨h1, h4, h2, h3, h5, h6, fun hst => ?_, fun hst => ?_⟩
  · rw [h7, if_pos ⟨rfl, hst⟩]
  · rw [h7, if_neg fun h => hst h.2]

/-- SHADOW_TEST_START (R233). -/
theorem shadowTest_starts (u w p : Nat) (s : State) (hv : s.voltedOk u w = true) (hn : s.nextTest u w = some p) (hs : s.scheduled u w = true)
    (hok : (s.te u w).shadowOk = true ∨ (s.pump u w p).returned = true) (hf : s.shadowFit u w p = true) :
    s.yields (.shadowTestStart u w) (fun t => t.rd (WL_TEST u w) WL_TEST.STATE = 2 ∧ t.rd (WL_TEST u w) WL_TEST.VARIANT = 2 ∧
      (t.te u w).kind = 2 ∧ (t.te u w).pump = p ∧ t.flag (PM_LINK u w p) PM_LINK.PEN = false ∧ (t.pump u w p).measuring = true) := by
  have hmay : ((s.te u w).shadowOk || (s.pump u w p).returned) = true := Bool.or_eq_true_iff.mpr hok
  have he : s.shadowStart u w = s.testBegin u w p 2 false := by
    rw [State.shadowStart, hn]
    exact if_pos (by rw [hv, hs, hmay, hf]; rfl)
  refine ⟨s.shadowStart u w, rfl, ?_⟩
  rw [he]
  obtain ⟨h1, h2, h3⟩ := testBegin_begins s u w (k := 2) (nextTest_lt hn) false
  obtain ⟨h4, h5, h6⟩ := testBegin_pump s u w (k := 2) (nextTest_lt hn) (by decide) false
  exact ⟨h1, h4, h2, h3, h5, h6⟩

end

/-! ### What a well that goes DRY leaves of its test -/

section
variable {s : State} {t w p : Nat}

/-- The test data of a well and the pumps' data. -/
def State.testView (s : State) (t w : Nat) : TestX × List (Nat × PumpX) := (s.te t w, s.pumps)

theorem testView_eq {a b : State} (h1 : a.te t w = b.te t w) (h2 : a.pumps = b.pumps) : a.testView t w = b.testView t w := Prod.ext h1 h2

theorem te_updWell {v : Nat} (x : State) (f : WellX → WellX) (hf : ∀ y : WellX, (f y).te = y.te) :
    (x.setWell t v (f (x.well t v))).testView t w = x.testView t w := by
  refine testView_eq ?_ rfl
  simp only [State.te, well_setWell]
  split
  next e => rw [hf]; exact congrArg (fun n => (tget _ x.wells n).te) e.symm
  next => rfl

theorem untie_testView (v n : Nat) : (s.untie t v n).testView t w = s.testView t w := by
  have hsh (x : State) (f : ShareX → ShareX) : (x.updSh t v f).testView t w = x.testView t w := te_updWell x (fun y => { y with sh := f y.sh }) fun _ => rfl
  unfold State.untie
  dsimp only
  split_ifs
  · exact hsh _ _
  · split
    · exact hsh _ _
    · exact hsh _ _
  · rfl

theorem openTies_testView (v : Nat) : (s.openTies t v).testView t w = s.testView t w := by
  have hopen (x : State) (n : Nat) : (x.openTie t n).testView t w = x.testView t w := (untie_testView _ _).trans ((untie_testView _ _).trans rfl)
  unfold State.openTies
  split
  · refine each_keeps (·.testView t w) _ (fun u n => if u.tieOn t n then u.openTie t n else u) (fun u n => ?_) s
    split
    · exact hopen u n
    · rfl
  · rfl

theorem endTracks_testView (v : Nat) : (s.endTracks t v).testView t w = s.testView t w :=
  each_keeps (·.testView t w) _ (fun (u : State) f => ((u.wr (WL_TRACK t f) WL_TRACK.ACTIVE 0).wr (WL_PROF_STAT t f) WL_PROF_STAT.TRACKING 0).updMo t f
    (fun m => { m with v := 0, a := 0 })) (fun u f => te_updWell (v := f) ((u.wr (WL_TRACK t f) WL_TRACK.ACTIVE 0).wr (WL_PROF_STAT t f) WL_PROF_STAT.TRACKING 0)
      (fun y => { y with mo := { y.mo with v := 0, a := 0 } }) fun _ => rfl) s

theorem gateDry_testView (v : Nat) : (s.gateDry t v).testView t w = s.testView t w :=
  each_keeps (·.testView t w) _ (fun u k => u.gateOn t k PH_CLPWR.C_DRY) (fun _ _ => rfl) s

theorem takeMode_testView (v : Nat) : (s.takeMode t v).testView t w = s.testView t w := by
  have hlp (x : State) (f : Loop → Loop) : (x.updLp t v f).testView t w = x.testView t w := te_updWell x (fun y => { y with lp := f y.lp }) fun _ => rfl
  have hdone (x : State) : (x.modeDone t).testView t w = x.testView t w := by
    unfold State.modeDone
    split
    · split <;> rfl
    · rfl
  unfold State.takeMode
  split
  · split
    · exact (hdone _).trans (hlp _ _)
    · exact hlp _ _
  · rfl

theorem dryRetry_testView (v : Nat) : (s.dryRetry t v).testView t w = s.testView t w := by
  unfold State.dryRetry
  split
  · exact (congrArg (·.testView t w) (bump_rest s (PH_ENG_STAT t)) :)
  · rfl

theorem voteChange_testView (k : Nat) (f : State → State) (hf : (f s).testView t w = s.testView t w) : (s.voteChange t k f).testView t w = s.testView t w := by
  have hgrace (x : State) (v : Nat) (b : Bool) : (x.graceOf t v b).testView t w = x.testView t w := by
    unfold State.graceOf
    split_ifs
    · exact te_updWell x (fun y => { y with vo := { y.vo with graceAt := none } }) fun _ => rfl
    · exact te_updWell x (fun y => { y with vo := { y.vo with graceAt := some x.clk.ns } }) fun _ => rfl
    · rfl
  have hwant (x : State) (b : Bool) : (x.wantOf t k b).testView t w = x.testView t w := by
    unfold State.wantOf
    dsimp only
    split_ifs <;> rfl
  unfold State.voteChange
  dsimp only
  rw [hgrace, hgrace, hwant, hf]

theorem dryVotes_testView (v : Nat) : (s.dryVotes t v).testView t w = s.testView t w := by
  refine each_keeps (·.testView t w) _ (fun (u : State) k => u.voteChange t k (fun x => if v < 12 then x.setVotes t k 0 (u.cluster t k).retain else
    x.setVotes t k (u.cluster t k).run 0)) (fun u k => voteChange_testView k _ ?_) s
  split <;> rfl

theorem primeViewOf_testView (v : Nat) : (s.primeViewOf t v).testView t w = s.testView t w := by
  unfold State.primeViewOf
  split <;> rfl

theorem report_testView (v op : Nat) (ok : Bool) : (s.report t v op ok).testView t w = s.testView t w := by
  refine testView_eq (congrArg WellX.te (report_well op ok t v t w)) ?_
  refine each_keeps State.pumps _ _ (fun u n => ?_) s
  dsimp only
  split <;> rfl

/-- The gates, ties and followers of a well that goes DRY. -/
theorem dryGates_testView : (s.dryGates t w).testView t w = s.testView t w :=
  (endTracks_testView w).trans ((openTies_testView w).trans (gateDry_testView w))

theorem goDry_testView : (s.goDry t w).testView t w = ((s.dryGates t w).each ((s.dryGates t w).pumpsOf t w) (fun u p => u.pumpDry t w p)).testView t w := by
  have hset (x : State) (a : Motion) (b : Loop) (c : ShareX) : (x.setWell t w { x.well t w with mo := a, lp := b, sh := c }).testView t w = x.testView t w :=
    te_updWell x (fun y => { y with mo := a, lp := b, sh := c }) fun _ => rfl
  have hwr (x : State) (a : Nat) (f : Fld) (n : Nat) : (x.wr a f n).testView t w = x.testView t w := rfl
  have hsetReg (x : State) (a : Nat) (d : Word) : (x.setReg a d).testView t w = x.testView t w := rfl
  have hregs (x : State) : (x.dryRegs t w).testView t w = x.testView t w := by
    simp only [State.dryRegs, State.setStage, hwr, hsetReg]
  have hwake (x : State) (c : Bool) : (x.on c (·.wakeFail t w)).testView t w = x.testView t w := by
    cases c <;> rfl
  have hwrb (x : State) (b : Bool) : (x.wrb (WL_VOTE t w) WL_VOTE.VPARKED b).testView t w = x.testView t w := rfl
  have hcap (x : State) : (x.capEvent t w).testView t w = x.testView t w := rfl
  have hunhold (x : State) (r : Raise) : (x.unhold r).testView t w = x.testView t w := rfl
  simp only [State.goDry, hcap, report_testView, hunhold, hwake, primeViewOf_testView, hwrb, dryVotes_testView, hset, hregs, takeMode_testView,
    dryRetry_testView]
  rfl

end

end Sys2Proof.Machine

/-! PROOFS. The end of a test step (R232, R233, R235). -/

namespace Sys2Proof.Machine

open Sys2Proof

section
variable {s x : State} {t w p : Nat}

/-! ### A well whose test step is over -/

/-- No step runs on the well, none waits, and the pump is in none. -/
structure StepOver (t w p : Nat) (x : State) : Prop where
  kind : (x.te t w).kind = 0
  queued : (x.te t w).queued = none
  pump : (x.pump t w p).inTest = false

theorem StepOver.of_view {y : State} (h : StepOver t w p x) (hy : y.testView t w = x.testView t w) : StepOver t w p y := by
  have hte : y.te t w = x.te t w := congrArg Prod.fst hy
  have hpumps : y.pumps = x.pumps := congrArg Prod.snd hy
  exact ⟨by rw [hte]; exact h.kind, by rw [hte]; exact h.queued, by rw [State.pump, hpumps]; exact h.pump⟩

theorem StepOver.updPump (h : StepOver t w p x) (q : Nat) (f : PumpX → PumpX) (hf : ∀ y : PumpX, y.inTest = false → (f y).inTest = false) :
    StepOver t w p (x.updPump t w q f) := by
  refine ⟨h.kind, h.queued, ?_⟩
  by_cases hq : p = q
  · subst hq; rw [updPump_same]; exact hf _ h.pump
  · rw [updPump_ne _ _ _ _ _ _ _ _ (by omega)]; exact h.pump

theorem StepOver.penLow (h : StepOver t w p x) (q : Nat) : StepOver t w p (x.penLow t w q) := by
  have hcut : StepOver t w p (if ((x.wr (PM_LINK t w q) PM_LINK.PEN 0).wr (PM_STAT t w q) PM_STAT.REARM_PEND 0).inService t w q then
      ((x.wr (PM_LINK t w q) PM_LINK.PEN 0).wr (PM_STAT t w q) PM_STAT.REARM_PEND 0).setService t w q 0
      else (x.wr (PM_LINK t w q) PM_LINK.PEN 0).wr (PM_STAT t w q) PM_STAT.REARM_PEND 0) := by
    split
    · exact ⟨h.kind, h.queued, h.pump⟩
    · exact ⟨h.kind, h.queued, h.pump⟩
  exact hcut.updPump q (fun y => { y with pwmHeld := false, rearm := 0, ready := true, pulse := false, duty := 0, inTest := false, rises := false }) fun _ _ => rfl

theorem StepOver.wr (h : StepOver t w p x) (a : Nat) (f : Fld) (n : Nat) : StepOver t w p (x.wr a f n) := ⟨h.kind, h.queued, h.pump⟩

theorem StepOver.goDry (h : StepOver t w p x) : StepOver t w p (x.goDry t w) := by
  refine StepOver.of_view (each_holds (StepOver t w p) (fun u q => u.pumpDry t w q) (fun u q _ hu => (hu.penLow q).wr _ _ _) _ (h.of_view dryGates_testView)) goDry_testView

theorem holdPh_testView (x : State) (r : Raise) : (x.holdPh r).testView t w = x.testView t w := by
  unfold State.holdPh
  split <;> rfl

theorem wakeFail_testView (x : State) (v : Nat) : (x.wakeFail t v).testView t w = x.testView t w := rfl

theorem StepOver.unprime (h : StepOver t w p x) : StepOver t w p (x.unprime t w) := by
  have hset : StepOver t w p (x.setStage t w stDry) := ⟨h.kind, h.queued, h.pump⟩
  have hmo (y : State) (f : Motion → Motion) : (y.updMo t w f).testView t w = y.testView t w := te_updWell y (fun z => { z with mo := f z.mo }) fun _ => rfl
  unfold State.unprime
  split
  · refine StepOver.of_view (each_holds (StepOver t w p) (fun (u : State) q => u.updPump t w q (fun z => { z with measuring := false }))
      (fun u q _ hu => hu.updPump q (fun z => { z with measuring := false }) fun _ hz => hz) _ ?_) (primeViewOf_testView w)
    exact (((hset.of_view (endTracks_testView w)).wr _ _ _).wr _ _ _).of_view (hmo _ _)
  · exact h

theorem StepOver.retire (h : StepOver t w p x) (q reason : Nat) : StepOver t w p (x.retire t w q reason) := by
  by_cases hn : x.service t w q = 3
  · rw [State.retire, if_pos hn]; exact h
  · obtain ⟨f, hf, hcase⟩ := retire_cases (reason := reason) hn
    have hout : StepOver t w p ((x.pumpOut t w q reason).updPump t w q f) :=
      StepOver.updPump (((h.penLow q).wr _ _ _).wr _ _ _) q f fun y hy => (hf y).trans hy
    generalize (x.pumpOut t w q reason).updPump t w q f = y at hcase hout
    rcases hcase with hcase | hcase | hcase | hcase
    · rw [hcase]; exact hout
    · have hfree := hout.unprime
      rw [hcase]
      exact hfree.of_view (wakeFail_testView _ w)
    · rw [hcase]; exact hout.goDry
    · rw [hcase]
      exact hout.goDry.of_view (holdPh_testView _ _)

/-! ### A step leaves its pump and its well -/

theorem testLeave_reg (s : State) {t w b : Nat} (h1 : b ≠ WL_TEST t w) (h2 : b ≠ WL_SHARE t w) : (s.testLeave t w).reg b = s.reg b := by
  have hlast (c d : Prop) [Decidable c] [Decidable d] (y : State) (f g : Motion → Motion) :
      (if c then (if d then y.updMo t w f else y.updMo t w g) else y).reg b = y.reg b := by
    split_ifs <;> rfl
  rw [State.testLeave]
  exact (hlast _ _ _ _ _).trans ((wri_reg_ne _ _ _ _ _ h2).trans ((reg_wr_ne _ _ _ _ _ h1).trans (reg_wr_ne _ _ _ _ _ h1)))

theorem testLeave_over (s : State) (t w : Nat) (hq : (s.te t w).queued = none) : StepOver t w (s.te t w).pump (s.testLeave t w) ∧
    ((s.testLeave t w).pump t w (s.te t w).pump).follower = (s.pump t w (s.te t w).pump).follower ∧
    ((s.testLeave t w).pump t w (s.te t w).pump).returned = (s.pump t w (s.te t w).pump).returned := by
  have hmo (y : State) (f : Motion → Motion) : (y.updMo t w f).testView t w = y.testView t w := te_updWell y (fun z => { z with mo := f z.mo }) fun _ => rfl
  have hlast (c d : Prop) [Decidable c] [Decidable d] (y : State) (f g : Motion → Motion) :
      (if c then (if d then y.updMo t w f else y.updMo t w g) else y).testView t w = y.testView t w := by
    split_ifs
    · exact hmo _ _
    · exact hmo _ _
    · rfl
  generalize hp : (s.te t w).pump = p
  have hte (y : State) : ((y.updTe t w (fun z => { z with kind := 0, pump := 0, byTest := false, offsetOk := none })).updPump t w p
      (fun q => { q with measuring := false, inTest := false })).te t w = { y.te t w with kind := 0, pump := 0, byTest := false, offsetOk := none } :=
    updTe_same y t w (fun z => { z with kind := 0, pump := 0, byTest := false, offsetOk := none })
  have hpump (y : State) (f : TestX → TestX) : (((y.updTe t w f).updPump t w p (fun q => { q with measuring := false, inTest := false })).pump t w p).inTest = false ∧
      (((y.updTe t w f).updPump t w p (fun q => { q with measuring := false, inTest := false })).pump t w p).follower = (y.pump t w p).follower ∧
      (((y.updTe t w f).updPump t w p (fun q => { q with measuring := false, inTest := false })).pump t w p).returned = (y.pump t w p).returned := by
    rw [updPump_same]
    exact ⟨rfl, rfl, rfl⟩
  rw [State.testLeave]
  rw [hp]
  refine ⟨StepOver.of_view (x := State.wri _ _ _ _) ⟨?_, ?_, ?_⟩ (hlast _ _ _ _ _), ?_, ?_⟩
  · exact congrArg TestX.kind (hte _)
  · exact (congrArg TestX.queued (hte _)).trans hq
  · exact (hpump _ _).1
  · exact (congrArg (fun l => (tget (fun _ => ({} : PumpX)) l (4 * (16 * t + w) + p)).follower) (congrArg Prod.snd (hlast _ _ _ _ _))).trans
      ((hpump _ _).2.1)
  · exact (congrArg (fun l => (tget (fun _ => ({} : PumpX)) l (4 * (16 * t + w) + p)).returned) (congrArg Prod.snd (hlast _ _ _ _ _))).trans
      ((hpump _ _).2.2)

/-! ### The pump's result -/

/-- The result of a step is marked for its pump (R235). -/
def State.stepMarked (s : State) (t w p : Nat) (pass : Bool) : State :=
  (s.wr (WL_TEST t w) WL_TEST.PASS (setBit (s.rd (WL_TEST t w) WL_TEST.PASS) p pass)).wr (WL_TEST t w) WL_TEST.FAIL
    (setBit (s.rd (WL_TEST t w) WL_TEST.FAIL) p (!pass))

theorem setBit_self (v i : Nat) (b : Bool) : (setBit v i b).testBit i = b := by
  cases b
  · exact setBit_false v i
  · exact setBit_true v i

/-- What is said of a pump whose step has ended: its bits in PASS and FAIL. -/
structure StepMarked (t w p : Nat) (pass : Bool) (x : State) : Prop where
  passed : (x.rd (WL_TEST t w) WL_TEST.PASS).testBit p = pass
  failed : (x.rd (WL_TEST t w) WL_TEST.FAIL).testBit p = !pass

theorem StepMarked.of_reg {pass : Bool} {y : State} (h : StepMarked t w p pass x) (hy : y.reg (WL_TEST t w) = x.reg (WL_TEST t w)) : StepMarked t w p pass y :=
  ⟨by rw [rd_of_reg hy]; exact h.passed, by rw [rd_of_reg hy]; exact h.failed⟩

theorem stepMarked_marks (s : State) (t w : Nat) (hp : p < 4) (pass : Bool) : StepMarked t w p pass (s.stepMarked t w p pass) := by
  have hlt (f : Fld) (hw : f.width = 4) (b : Bool) : setBit (s.rd (WL_TEST t w) f) p b < 2 ^ f.width :=
    setBit_lt b (rd_lt s _ f) (by rw [hw]; exact hp)
  have hpass : (s.wr (WL_TEST t w) WL_TEST.PASS (setBit (s.rd (WL_TEST t w) WL_TEST.PASS) p pass)).rd (WL_TEST t w) WL_TEST.PASS =
      setBit (s.rd (WL_TEST t w) WL_TEST.PASS) p pass := (rd_wr_same _ _ _ _ rfl).trans (Nat.mod_eq_of_lt (hlt _ rfl _))
  constructor
  · rw [State.stepMarked, rd_wr_fld _ _ _ _ _ _ rfl rfl, hpass]
    exact setBit_self _ _ _
  · rw [State.stepMarked, rd_wr_same _ _ _ _ rfl, Nat.mod_eq_of_lt (hlt _ rfl _)]
    exact setBit_self _ _ _

/-- The test of the well may be complete with the step, and a TEST that runs it is told: neither touches the pump, nor its result. -/
structure StepTold (t w : Nat) (x y : State) : Prop where
  reg : ∀ b, b ≠ WL_TEST t w → y.reg b = x.reg b
  pass : y.rd (WL_TEST t w) WL_TEST.PASS = x.rd (WL_TEST t w) WL_TEST.PASS
  fail : y.rd (WL_TEST t w) WL_TEST.FAIL = x.rd (WL_TEST t w) WL_TEST.FAIL

theorem testComplete_over (h : StepOver t w p x) : StepOver t w p (x.testComplete t w) ∧ StepTold t w x (x.testComplete t w) := by
  unfold State.testComplete
  split
  · have hte : (((x.wr (WL_TEST t w) WL_TEST.STATE 0).updTe t w (fun y => { y with ageAt := x.ao, dueAt := none, overdue := false, shadowOk := false })).te t w).kind = (x.te t w).kind ∧
        (((x.wr (WL_TEST t w) WL_TEST.STATE 0).updTe t w (fun y => { y with ageAt := x.ao, dueAt := none, overdue := false, shadowOk := false })).te t w).queued =
          (x.te t w).queued := by
      rw [updTe_same]
      exact ⟨rfl, rfl⟩
    exact ⟨⟨hte.1.trans h.kind, hte.2.trans h.queued, h.pump⟩, fun b hb => reg_wr_ne _ _ _ _ _ hb, rd_wr_fld _ _ _ _ _ _ rfl rfl, rd_wr_fld _ _ _ _ _ _ rfl rfl⟩
  · exact ⟨h, fun _ _ => rfl, rfl, rfl⟩

theorem testTell_over (h : StepOver t w p x) (y : TestX) (ok : Bool) : StepOver t w p (x.testTell t w y ok) ∧ ∀ b, (x.testTell t w y ok).reg b = x.reg b := by
  unfold State.testTell
  split
  · exact ⟨h.of_view (report_testView _ _ _), fun b => report_reg _ _ _ _ _ b⟩
  · rw [State.testQueued, h.queued]
    exact ⟨h, fun _ => rfl⟩

/-- What a step's end, told or not, keeps of its pump. -/
theorem stepEnds {pass : Bool} (h : StepOver t w p x) (hm : StepMarked t w p pass x) (y : TestX) (ok : Bool) :
    StepOver t w p ((x.testComplete t w).testTell t w y ok) ∧ StepMarked t w p pass ((x.testComplete t w).testTell t w y ok) ∧
    ∀ b, b ≠ WL_TEST t w → ((x.testComplete t w).testTell t w y ok).reg b = x.reg b := by
  obtain ⟨hover, htold⟩ := testComplete_over h
  obtain ⟨hend, hreg⟩ := testTell_over hover y ok
  exact ⟨hend, StepMarked.of_reg ⟨by rw [htold.pass]; exact hm.passed, by rw [htold.fail]; exact hm.failed⟩ (hreg _), fun b hb => (hreg b).trans (htold.reg b hb)⟩

/-! ### The pump goes on, or is retired -/

theorem testLive_runs (h : StepOver t w p x) (hs : x.service t w p ≠ 3) :
    StepOver t w p (x.testLive t w p) ∧ (x.testLive t w p).service t w p = (if (x.pump t w p).follower && !(x.pump t w p).returned then 2 else 1) ∧
    (x.testLive t w p).flag (PM_LINK t w p) PM_LINK.PEN = true ∧ ∀ b, b ≠ PM_LINK t w p → b ≠ PM_STAT t w p → (x.testLive t w p).reg b = x.reg b := by
  have hb : x.testBack t w p = ((x.penRise t w p).setService t w p (if (x.pump t w p).follower && !(x.pump t w p).returned then 2 else 1)).updPump t w p
      (fun q => { q with follower := q.follower && !q.returned }) := if_neg hs
  rw [State.testLive, hb]
  have hrise : StepOver t w p (x.penRise t w p) := (h.wr _ _ _).updPump p (fun q => { q with measuring := false }) fun _ hy => hy
  refine ⟨((hrise.wr _ _ _).updPump p (fun q => { q with follower := q.follower && !q.returned }) fun _ hy => hy).updPump p
    (fun q => { q with returned := false, rises := q.rises || q.returned }) fun _ hy => hy, ?_, ?_, fun b h1 h2 => ?_⟩
  · refine (rd_wr_same _ _ _ _ rfl).trans (Nat.mod_eq_of_lt ?_)
    split <;> decide
  · exact (flag_wr_ne _ _ _ _ _ _ (link_ne_stat t w p p)).trans (flag_wr_one x _ _ (by decide))
  · exact (reg_wr_ne _ _ _ _ _ h2).trans (reg_wr_ne _ _ _ _ _ h1)

theorem dryClear_test (t : Nat) (hw : w < 15) : DryClear t w (WL_TEST t w) where
  side := off_sideRegs (by simp only [WL_TEST, wlBase, phBase]; omega)
  clpwr := by simp only [WL_TEST, wlBase, PH_CLPWR]; omega
  tie := by simp only [WL_TEST, wlBase, PH_TIE]; omega
  cist := by simp only [WL_TEST, wlBase, PH_CIST]; omega
  prime := by simp only [WL_TEST, wlBase, PH_PRIME]; omega
  eng := by simp only [WL_TEST, wlBase, PH_ENG_STAT]; omega
  win := by simp only [WL_TEST, wlBase, AD_WIN]; omega
  wtie := by simp only [WL_TEST, wlBase, WL_TIE]; omega
  track := by simp only [WL_TEST, wlBase, WL_TRACK]; omega
  prof := by simp only [WL_TEST, wlBase, WL_PROF_STAT]; omega
  well := by simp only [WL_TEST, List.mem_cons, List.not_mem_nil, or_false]; omega

theorem retire_test (hw : w < 15) (hp : p < 4) (reason : Nat) : (x.retire t w p reason).reg (WL_TEST t w) = x.reg (WL_TEST t w) := by
  have hne (r : Nat) (hr : r < 4) : WL_TEST t w ≠ PM_LINK t w r ∧ WL_TEST t w ≠ PM_STAT t w r := by simp only [WL_TEST, PM_LINK, PM_STAT]; omega
  refine retire_stands (fun d => d = x.reg (WL_TEST t w)) hw (dryClear_test t hw) (hne p hp).1 (hne p hp).2 (by simp only [WL_TEST, PM_SVC]; omega)
    (fun u r hr hu => ?_) rfl
  rw [pumpDry_reg u t w r _ (hne r hr).1 (hne r hr).2]
  exact hu

/-! ### TEST_STEP_END (R235) -/

/-- The gain a shadow step has measured is kept (R233). -/
def State.stepGain (s : State) (t w : Nat) : State :=
  if (s.te t w).kind = 2 then s.wr (PM_SVC t w (s.te t w).pump) PM_SVC.GAIN_MEAS (min 255 (s.gainRatio t w).toNat) else s

theorem stepGain_keeps (s : State) (t w : Nat) : (s.stepGain t w).testView t w = s.testView t w ∧
    ∀ b, b ≠ PM_SVC t w (s.te t w).pump → (s.stepGain t w).reg b = s.reg b := by
  unfold State.stepGain
  split
  · exact ⟨rfl, fun b hb => reg_wr_ne _ _ _ _ _ hb⟩
  · exact ⟨rfl, fun _ _ => rfl⟩

theorem testStep_ends (u w p : Nat) (s : State) (hv : s.voltedOk u w = true) (hok : (s.te u w).offsetOk.isSome = true)
    (hran : ((s.te u w).kind = 1 ∧ s.alonePeriods u < (s.te u w).steps) ∨ ((s.te u w).kind = 2 ∧ 17 ≤ (s.te u w).steps)) (hpump : (s.te u w).pump = p)
    (hp : p < 4) (hq : (s.te u w).queued = none) (hs : s.service u w p ≠ 3) :
    s.yields (.testStepEnd u w) (fun t => (t.te u w).kind = 0 ∧ (t.pump u w p).inTest = false ∧
      (t.rd (WL_TEST u w) WL_TEST.PASS).testBit p = s.testPass u w ∧ (t.rd (WL_TEST u w) WL_TEST.FAIL).testBit p = !s.testPass u w ∧
      (s.testPass u w = true → t.service u w p = (if (s.pump u w p).follower && !(s.pump u w p).returned then 2 else 1) ∧ t.flag (PM_LINK u w p) PM_LINK.PEN = true) ∧
      (s.testPass u w = false → t.service u w p = 3 ∧ t.rd (PM_SVC u w p) PM_SVC.REASON = 8)) := by
  have hw : w < 14 := ((voltedOk_iff s u w).mp hv).2
  have hend : s.testRan u w = true := by
    simp only [State.testRan, hok, Bool.true_and, Bool.or_eq_true, Bool.and_eq_true, beq_iff_eq, decide_eq_true_eq]
    exact hran
  subst hpump
  have he : s.testStepEnd u w = (State.testComplete (if s.testPass u w then (((s.stepGain u w).testLeave u w).stepMarked u w (s.te u w).pump (s.testPass u w)).testLive
      u w (s.te u w).pump else ((((s.stepGain u w).testLeave u w).stepMarked u w (s.te u w).pump (s.testPass u w)).updPump u w (s.te u w).pump
        (fun q => { q with returned := false })).retire u w (s.te u w).pump 8) u w).testTell u w (s.te u w) (s.testPass u w) := if_pos (by rw [hv, hend]; rfl)
  obtain ⟨hview, hgain⟩ := stepGain_keeps s u w
  have hte : (s.stepGain u w).te u w = s.te u w := congrArg Prod.fst hview
  have hpumps : (s.stepGain u w).pumps = s.pumps := congrArg Prod.snd hview
  obtain ⟨hover, hfol, hret⟩ := testLeave_over (s.stepGain u w) u w (by rw [hte]; exact hq)
  rw [hte] at hover hfol hret
  generalize hx : s.te u w = y at *
  generalize y.pump = p at *
  have hstat : PM_STAT u w p ≠ WL_TEST u w ∧ PM_STAT u w p ≠ WL_SHARE u w ∧ PM_STAT u w p ≠ PM_SVC u w p := by
    simp only [PM_STAT, WL_TEST, WL_SHARE, PM_SVC]; omega
  have hsvc : PM_SVC u w p ≠ WL_TEST u w := by simp only [PM_SVC, WL_TEST]; omega
  have hlink : PM_LINK u w p ≠ WL_TEST u w := by simp only [PM_LINK, WL_TEST]; omega
  have hmarkedService : (((s.stepGain u w).testLeave u w).stepMarked u w p (s.testPass u w)).service u w p = s.service u w p :=
    rd_of_reg ((reg_wr_ne _ _ _ _ _ hstat.1).trans ((reg_wr_ne _ _ _ _ _ hstat.1).trans ((testLeave_reg _ hstat.1 hstat.2.1).trans (hgain _ hstat.2.2)))) _
  have hmarkedOver : StepOver u w p (((s.stepGain u w).testLeave u w).stepMarked u w p (s.testPass u w)) := (hover.wr _ _ _).wr _ _ _
  have hmarked := stepMarked_marks ((s.stepGain u w).testLeave u w) u w hp (s.testPass u w)
  have hfol : ((((s.stepGain u w).testLeave u w).stepMarked u w p (s.testPass u w)).pump u w p).follower = (s.pump u w p).follower :=
    hfol.trans (congrArg (fun l => (tget (fun _ => ({} : PumpX)) l (4 * (16 * u + w) + p)).follower) hpumps)
  have hret : ((((s.stepGain u w).testLeave u w).stepMarked u w p (s.testPass u w)).pump u w p).returned = (s.pump u w p).returned :=
    hret.trans (congrArg (fun l => (tget (fun _ => ({} : PumpX)) l (4 * (16 * u + w) + p)).returned) hpumps)
  have hns : (((s.stepGain u w).testLeave u w).stepMarked u w p (s.testPass u w)).service u w p ≠ 3 := by rw [hmarkedService]; exact hs
  refine ⟨s.testStepEnd u w, rfl, ?_⟩
  rw [he]
  generalize ((s.stepGain u w).testLeave u w).stepMarked u w p (s.testPass u w) = z at *
  have hstat' : PM_STAT u w p ≠ WL_TEST u w := hstat.1
  cases hb : s.testPass u w with
  | true =>
    rw [hb] at hmarked
    obtain ⟨hlo, hls, hlp, hlr⟩ := testLive_runs hmarkedOver hns
    have hlm : StepMarked u w p true (z.testLive u w p) := StepMarked.of_reg hmarked (hlr _ hlink.symm hstat'.symm)
    obtain ⟨heo, hem, her⟩ := stepEnds hlo hlm y true
    rw [if_pos rfl]
    refine ⟨heo.kind, heo.pump, hem.passed, hem.failed, fun _ => ⟨?_, ?_⟩, fun h => by cases h⟩
    · rw [hfol, hret] at hls
      exact (rd_of_reg (her _ hstat') _).trans hls
    · exact (flag_of_reg (her _ hlink) _).trans hlp
  | false =>
    rw [hb] at hmarked
    have hgone : PumpGone u w p 8 ((z.updPump u w p (fun q => { q with returned := false })).retire u w p 8) := retire_gone (by omega) hp hns (by decide)
    have hro : StepOver u w p ((z.updPump u w p (fun q => { q with returned := false })).retire u w p 8) :=
      (hmarkedOver.updPump p (fun q => { q with returned := false }) fun _ h => h).retire p 8
    have hrm : StepMarked u w p false ((z.updPump u w p (fun q => { q with returned := false })).retire u w p 8) :=
      StepMarked.of_reg (x := z) hmarked (retire_test (by omega) hp 8)
    obtain ⟨heo, hem, her⟩ := stepEnds hro hrm y false
    rw [if_neg Bool.false_ne_true]
    refine ⟨heo.kind, heo.pump, hem.passed, hem.failed, (fun h => by cases h), fun _ => ⟨?_, ?_⟩⟩
    · exact (rd_of_reg (her _ hstat') _).trans hgone.service
    · exact (rd_of_reg (her _ hsvc) _).trans hgone.reason

/-- Settles O45: checks retire pumps and suspect connections, and tests become due, run, end, and return pumps. -/
theorem testsRun : Obligations.TestsRun := by
  unfold Obligations.TestsRun
  refine ⟨⟨pumpOpen_retires, fun u w p s hok hs hf => ⟨senseFollow_follows u w p s hok hs hf, fun r => senseFollow_retires u w p r s hok hs hf⟩,
    crackSuspect_sets, senseOpen_sets⟩, testDue_sets, fun u w d s hq ha _ hw ht hr => testReq_sets u w d s hq ha hw ht hr, testDefer_sets, quietTest_starts,
    shadowTest_starts, fun u w p s hv _ hok hran hpump hp hq hs => testStep_ends u w p s hv hok hran hpump hp hq hs, testOverdue_sets,
    fun u d s hq ha _ ht => retArm_sets u d s hq ha ht,
    fun u w p a d s _ _ _ ht hr hs harm hslot hat => returnPump_answers u w p a d s ht hr hs harm hslot hat, retArm_expires⟩

end

end Sys2Proof.Machine

/-! PROOFS. Notices: their rings, and what the collector makes of one (R190-R194, R303). -/

namespace Sys2Proof.Machine

open Sys2Proof

section
variable {s x : State} {t k n : Nat}

/-! ### The rings (R191, R192) -/

theorem setRing_ring (s : State) (t c : Nat) (l : List (BitVec 32)) : (s.setRing t c l).ring t c = l := by
  rw [State.ring, State.setRing, updDs_same]
  exact tget_tset_self _ _ _ _

/-- NOTICE_POST: into a ring with a free slot. -/
theorem noticePost_posts (u k n : Nat) (m : Word) (s : State) (hq : s.quiet) (hk : s.clusterOk u k = true) (hn : n < 128)
    (hl : (s.ring u (128 * k + n)).length < 4) : ∃ t, exec (.noticePost u k n m) s = .next t ∧
      t.ring u (128 * k + n) = s.ring u (128 * k + n) ++ [m.setWidth 32] ∧ State.sameBut [DS_NOTICE_STAT u] s t := by
  have he : s.noticePost u k n m = _ := if_pos (by rw [hk, decide_eq_true hn, decide_eq_true hl.le]; rfl)
  rw [if_neg hl.ne] at he
  have hring := setRing_ring s u (128 * k + n) (s.ring u (128 * k + n) ++ [m.setWidth 32])
  generalize hx : s.setRing u (128 * k + n) (s.ring u (128 * k + n) ++ [m.setWidth 32]) = x at he hring
  have hreg (b : Nat) : x.reg b = s.reg b := by rw [← hx]; rfl
  have hnow : x.fault.now = s.fault.now := by rw [← hx]; rfl
  split_ifs at he
  · refine ⟨_, done_quiet _ (by rw [he]; exact hnow.trans hq), ?_⟩
    rw [he]
    exact ⟨hring, fun b hb => (reg_wr_ne _ _ _ _ _ (by simpa using hb)).trans (hreg b)⟩
  · refine ⟨_, done_quiet _ (by rw [he]; exact hnow.trans hq), ?_⟩
    rw [he]
    exact ⟨hring, fun b _ => hreg b⟩

/-- The collector serves no ring out of its turn, and none while the Pumphouse is DORMANT. -/
theorem noticeCollect_waits (u k n : Nat) (s : State) (hq : s.quiet)
    (h : s.rd (PH_PWR u) PH_PWR.STATE ≠ 0 ∨ (s.nextRing u).map (·.1) ≠ some (128 * k + n)) : exec (.noticeCollect u k n) s = .next s := by
  have he : s.noticeCollect u k n = s := by
    unfold State.noticeCollect
    split
    next hrun =>
      split
      next c m l hnext =>
        refine if_neg fun hc => ?_
        simp only [Bool.and_eq_true, beq_iff_eq] at hrun
        refine h.elim (fun h => h hrun.2) fun h => h ?_
        rw [hnext, hc]
        rfl
      next => rfl
    next => rfl
  show done (s.noticeCollect u k n) = _
  rw [he]
  exact done_quiet s hq

/-- The state in which a notice has been taken from its ring. -/
def State.ringTaken (s : State) (t c : Nat) (l : List (BitVec 32)) : State := (s.setRing t c l).updDs t (fun d => { d with turn := c + 1 })

theorem ringTaken_ring (s : State) (t c : Nat) (l : List (BitVec 32)) : (s.ringTaken t c l).ring t c = l ∧ ((s.ringTaken t c l).ds t).turn = c + 1 := by
  refine ⟨?_, ?_⟩
  · rw [State.ring, State.ringTaken, updDs_same]
    exact setRing_ring s t c l
  · rw [State.ringTaken, updDs_same]

theorem ringTaken_branch (s : State) (t c : Nat) (l : List (BitVec 32)) (j id : Nat) : (s.ringTaken t c l).branch t j id = s.branch t j id := by
  rw [State.branch, State.ringTaken, updDs_same, State.setRing, updDs_same]
  rfl

theorem ringTaken_logged (s : State) (t c : Nat) (l : List (BitVec 32)) : ((s.ringTaken t c l).ds t).logged = (s.ds t).logged ∧
    ((s.ringTaken t c l).ds t).branchHolders = (s.ds t).branchHolders := by
  rw [State.ringTaken, updDs_same, State.setRing, updDs_same]
  exact ⟨rfl, rfl⟩

/-- NOTICE_COLLECT takes the notice at the head of the ring whose turn it is. -/
theorem noticeCollect_takes {c : Nat} {m : BitVec 32} {r : List (BitVec 32)} (hk : s.clusterOk t k = true) (hc : c = 128 * k + n)
    (hp : s.rd (PH_PWR t) PH_PWR.STATE = 0) (hnext : s.nextRing t = some (c, m :: r)) :
    s.noticeCollect t k n = (s.ringTaken t c r).handleNotice t k n m := by
  have hok : s.tileOk t = true := (Bool.and_eq_true_iff.mp hk).1
  have he : s.noticeCollect t k n = _ := if_pos (by rw [hok, hp]; rfl)
  rw [he, hnext]
  exact if_pos hc

/-! ### What a notice leaves of the rings -/

/-- The rings and the collector's turn. -/
def State.rings (s : State) (t : Nat) : List (Nat × List (BitVec 32)) × Nat := ((s.ds t).rings, (s.ds t).turn)

theorem rings_of_tiles (h : x.tiles = s.tiles) : x.rings t = s.rings t := by rw [State.rings, State.rings, ds_of_tiles h]

theorem rings_updDs (f : SliceX → SliceX) (h : ((f (s.ds t)).rings, (f (s.ds t)).turn) = ((s.ds t).rings, (s.ds t).turn)) : (s.updDs t f).rings t = s.rings t := by
  rw [State.rings, updDs_same]
  exact h

theorem bump_tiles (s : State) (a : Nat) : (s.bump a).tiles = s.tiles := (congrArg State.tiles (bump_rest s a) :)

theorem malformed_tiles : (s.malformed t).tiles = s.tiles := by
  unfold State.malformed
  dsimp only
  split <;> rfl

theorem charge_rings (l phys kind : Nat) (sh s1 : Bool) : (s.charge t l phys kind sh s1).rings t = s.rings t := by
  have honce (y : State) (seg pb : Nat) : (y.logOnce t l phys kind seg sh s1 pb).rings t = y.rings t := by
    unfold State.logOnce
    dsimp only
    split_ifs
    · rfl
    · exact (rings_of_tiles (logBreach_tiles ..)).trans rfl
    · rfl
    · exact (rings_of_tiles (logBreach_tiles ..)).trans (rings_updDs _ rfl)
  unfold State.charge
  dsimp only
  split
  · exact honce _ _ _
  · exact honce _ _ _

theorem branchNotice_rings (l id par alt : Nat) : (s.branchNotice t l id par alt).rings t = s.rings t := by
  unfold State.branchNotice
  dsimp only
  split
  · split
    · exact (charge_rings ..).trans (rings_of_tiles (bump_tiles _ _))
    · exact rings_of_tiles (bump_tiles _ _)
  · exact rings_updDs _ rfl

theorem collectBranch_rings (k id par alt : Nat) : (s.collectBranch t k id par alt).rings t = s.rings t := by
  unfold State.collectBranch
  dsimp only
  split
  · exact rings_of_tiles malformed_tiles
  · exact each_keeps (fun u => u.rings t) _ (fun u l => u.branchNotice t l id par alt) (fun _ _ => branchNotice_rings ..) s

theorem collectArrival_rings (c id par : Nat) : (s.collectArrival t c id par).rings t = s.rings t := by
  unfold State.collectArrival
  dsimp only
  split_ifs
  · exact rings_of_tiles malformed_tiles
  · exact rings_updDs _ rfl
  · exact (rings_of_tiles (bump_tiles _ _)).trans (rings_updDs _ rfl)
  · exact (rings_updDs _ rfl).trans (rings_updDs _ rfl)
  · exact (rings_updDs _ rfl).trans (rings_updDs _ rfl)

theorem voteChange_ds (k : Nat) (f : State → State) (hf : (f s).ds t = s.ds t) : (s.voteChange t k f).ds t = s.ds t := by
  have hgrace (y : State) (v : Nat) (b : Bool) : (y.graceOf t v b).ds t = y.ds t := by
    unfold State.graceOf
    split_ifs <;> rfl
  have hdue (y : State) (c : Prop) [Decidable c] (g : TileX → List Nat) : (if c then y.updTile t (fun z => { z with goffDue := g z }) else y).ds t = y.ds t := by
    split
    · exact (congrArg TileX.ds (updTile_same y t (fun z => { z with goffDue := g z }))).trans rfl
    · rfl
  have hwant (y : State) (b : Bool) : (y.wantOf t k b).ds t = y.ds t := by
    unfold State.wantOf
    dsimp only
    generalize hz : ite ((y.flag (PH_CLPWR t k) PH_CLPWR.GREQ_ONLY && (y.rd (PH_CLPWR t k) PH_CLPWR.RUN == 0)) = true) _ _ = z
    have hzd : z.ds t = y.ds t := by rw [← hz]; exact hdue _ _ _
    split_ifs
    · exact hzd
    · exact hzd
    · exact hzd
    · exact hzd
  unfold State.voteChange
  dsimp only
  rw [hgrace, hgrace, hwant, hf]

theorem wakeCluster_tiles (k : Nat) : (s.wakeCluster t k).tiles = s.tiles := by
  unfold State.wakeCluster
  dsimp only
  split_ifs
  · rfl
  · rfl
  · exact each_keeps State.tiles _ (fun u w => u.wr (WL_VOTE t w) WL_VOTE.WAKE_PEND 1) (fun _ _ => rfl) _
  · refine each_keeps State.tiles _ (fun u w => if u.stage t w = stPark then u.wr (WL_VOTE t w) WL_VOTE.WAKE_PEND 1
      else if u.stage t w = stDry then u.updVo t w (fun v => { v with wakeReq := true }) else u) (fun u w => ?_) _
    split_ifs <;> rfl
  · rfl
  · rfl
  · rfl

theorem collectVote_rings (i : Nat) (m : BitVec 32) : (s.collectVote t k i m).rings t = s.rings t := by
  have hset (y : State) (a b : BitVec 128) : (y.setVotes t k a b).ds t = y.ds t := ds_of_tiles rfl t
  have hcast (b c : Bool) : (s.castVote t k i b c).rings t = s.rings t := by
    have hds : (s.castVote t k i b c).ds t = s.ds t := by
      unfold State.castVote
      dsimp only
      refine voteChange_ds k _ ?_
      split
      · exact hset s _ _
      · exact hset s _ _
    rw [State.rings, State.rings, hds]
  unfold State.collectVote
  split
  · exact rings_of_tiles malformed_tiles
  · split
    · exact hcast _ _
    · exact hcast _ _
    · split
      · exact rings_of_tiles (wakeCluster_tiles _)
      · rfl

theorem handleNotice_rings (i : Nat) (m : BitVec 32) : (s.handleNotice t k i m).rings t = s.rings t := by
  unfold State.handleNotice
  dsimp only
  split
  · exact collectVote_rings i m
  · split
    · exact rings_of_tiles malformed_tiles
    · exact collectBranch_rings ..
  · split
    · exact rings_of_tiles malformed_tiles
    · exact collectArrival_rings ..
  · exact rings_of_tiles malformed_tiles

/-! ### A collected notice (R190, R303) -/

theorem handleNotice_malformed (i : Nat) {m : BitVec 32} (h : ebits m 31 30 = 3) : s.handleNotice t k i m = s.malformed t := by
  unfold State.handleNotice
  rw [h]
  rfl

theorem handleNotice_vote (i : Nat) {m : BitVec 32} (h : ebits m 31 30 = 0) (hb : voteBad m = false) (hk : ebits m 29 28 = 0) (hc : ebits m 27 27 = 1) :
    s.handleNotice t k i m = s.castVote t k i false true := by
  unfold State.handleNotice
  rw [h]
  show s.collectVote t k i m = _
  rw [State.collectVote, hb, hk, hc]
  rfl

theorem handleNotice_branch (i : Nat) {m : BitVec 32} (h : ebits m 31 30 = 1) (h1 : ebits m 20 18 = 0) (h2 : ebits m 15 0 = 0) :
    s.handleNotice t k i m = s.collectBranch t k (ebits m 29 22) (ebits m 21 21) (ebits m 17 16) := by
  unfold State.handleNotice
  rw [h, h1, h2]
  rfl

theorem malformed_counts (h : s.rd (DS_NOTICE_LATE t) DS_NOTICE_LATE.MALFORMED < 0xFFFF) :
    (s.malformed t).rd (DS_NOTICE_LATE t) DS_NOTICE_LATE.MALFORMED = s.rd (DS_NOTICE_LATE t) DS_NOTICE_LATE.MALFORMED + 1 := by
  unfold State.malformed
  dsimp only
  rw [if_pos h]
  exact (rd_wr_same _ _ _ _ rfl).trans (Nat.mod_eq_of_lt (by rw [show DS_NOTICE_LATE.MALFORMED.width = 16 from rfl]; omega))

theorem voteChange_run (k : Nat) (f : State → State) : ((s.voteChange t k f).cluster t k).run = ((f s).cluster t k).run := by
  have hgrace (y : State) (v : Nat) (b : Bool) : (y.graceOf t v b).cluster t k = y.cluster t k := by
    unfold State.graceOf
    split_ifs <;> rfl
  have hcl (y : State) (g : ClusterX → ClusterX) (hg : ∀ z, (g z).run = z.run) : ((y.updCl t k g).cluster t k).run = (y.cluster t k).run := by
    rw [updCl_same]; exact hg _
  have hdue (y : State) (c : Prop) [Decidable c] (g : TileX → TileX) : (if c then y.updTile t g else y).cluster t k = y.cluster t k := by
    split <;> rfl
  have hwant (y : State) (b : Bool) : ((y.wantOf t k b).cluster t k).run = (y.cluster t k).run := by
    unfold State.wantOf
    dsimp only
    generalize hz : ite ((y.flag (PH_CLPWR t k) PH_CLPWR.GREQ_ONLY && (y.rd (PH_CLPWR t k) PH_CLPWR.RUN == 0)) = true) _ _ = z
    have hzc : z.cluster t k = y.cluster t k := by rw [← hz]; exact hdue _ _ _
    split
    · split
      · exact (hcl _ (fun c => { c with lift := true }) fun _ => rfl).trans ((hcl z (fun c => { c with waking := false, graceBeat := none }) fun _ => rfl).trans
          (congrArg ClusterX.run hzc))
      · exact (hcl z (fun c => { c with waking := false, graceBeat := none }) fun _ => rfl).trans (congrArg ClusterX.run hzc)
    · split
      · exact (hcl z (fun c => { c with unwanted := y.clk.beat }) fun _ => rfl).trans (congrArg ClusterX.run hzc)
      · exact congrArg ClusterX.run hzc
  unfold State.voteChange
  dsimp only
  rw [hgrace, hgrace, hwant]

theorem castVote_run (i : Nat) : ((s.castVote t k i false true).cluster t k).run = (s.cluster t k).run ||| (1 <<< i) := by
  unfold State.castVote
  dsimp only
  rw [voteChange_run]
  exact congrArg ClusterX.run (updCl_same s t k (fun c => { c with run := (s.cluster t k).run ||| (1 <<< i), retain := (s.cluster t k).retain }))

/-- NOTICE_COLLECT: a malformed notice is counted, a RUN vote sets the core's bit. -/
theorem noticeCollect_acts (u k n c : Nat) (m : BitVec 32) (r : List (BitVec 32)) (s : State) (hk : s.clusterOk u k = true) (hc : c = 128 * k + n)
    (hp : s.rd (PH_PWR u) PH_PWR.STATE = 0) (hnext : s.nextRing u = some (c, m :: r)) : s.yields (.noticeCollect u k n) (fun t =>
      t.ring u c = r ∧ (t.ds u).turn = c + 1 ∧
      (ebits m 31 30 = 3 → s.rd (DS_NOTICE_LATE u) DS_NOTICE_LATE.MALFORMED < 0xFFFF →
        t.rd (DS_NOTICE_LATE u) DS_NOTICE_LATE.MALFORMED = s.rd (DS_NOTICE_LATE u) DS_NOTICE_LATE.MALFORMED + 1) ∧
      (ebits m 31 30 = 0 → voteBad m = false → ebits m 29 28 = 0 → ebits m 27 27 = 1 →
        (t.cluster u k).run = (s.cluster u k).run ||| (1 <<< n))) := by
  refine ⟨s.noticeCollect u k n, rfl, ?_⟩
  rw [noticeCollect_takes hk hc hp hnext]
  have hrings : ((s.ringTaken u c r).handleNotice u k n m).rings u = (s.ringTaken u c r).rings u := handleNotice_rings n m
  obtain ⟨hring, hturn⟩ := ringTaken_ring s u c r
  refine ⟨(congrArg (fun l => tget (fun _ => []) l c) (congrArg Prod.fst hrings)).trans hring, (congrArg Prod.snd hrings).trans hturn, fun h hlt => ?_,
    fun h hb hv hrun => ?_⟩
  · rw [handleNotice_malformed n h]
    exact malformed_counts hlt
  · rw [handleNotice_vote n h hb hv hrun]
    exact castVote_run n

end

end Sys2Proof.Machine

/-! PROOFS. What a breach writes: the log's entry, its place, the count and the raise (R198-R200). -/

namespace Sys2Proof.Machine

open Sys2Proof

section
variable {s x : State} {t : Nat}

/-! ### An entry of the log (R199) -/

/-- The word of a breach. -/
def breachWord (l phys kind seg : Nat) (shared side1 : Bool) (pbeat : Nat) : Word :=
  DS_BREACH.SEG.set (DS_BREACH.LOGICAL.set (DS_BREACH.PHYS.set (DS_BREACH.KIND.set (DS_BREACH.SHARED.set
    (DS_BREACH.SIDE.set (BitVec.ofNat 64 (pbeat % 2 ^ 32)) (b2n side1)) (b2n shared)) kind) phys) l) seg

section
variable (l phys kind seg : Nat) (shared side1 : Bool) (pb : Nat)

theorem breachWord_seg : DS_BREACH.SEG.get (breachWord l phys kind seg shared side1 pb) = seg % 2 ^ 18 := Fld.get_set _ _ _ rfl

theorem breachWord_logical : DS_BREACH.LOGICAL.get (breachWord l phys kind seg shared side1 pb) = l % 16 :=
  (Fld.get_set_ne _ _ _ _ rfl rfl).trans (Fld.get_set _ _ _ rfl)

theorem breachWord_phys : DS_BREACH.PHYS.get (breachWord l phys kind seg shared side1 pb) = phys % 16 :=
  (Fld.get_set_ne _ _ _ _ rfl rfl).trans ((Fld.get_set_ne _ _ _ _ rfl rfl).trans (Fld.get_set _ _ _ rfl))

theorem breachWord_kind : DS_BREACH.KIND.get (breachWord l phys kind seg shared side1 pb) = kind % 16 :=
  (Fld.get_set_ne _ _ _ _ rfl rfl).trans ((Fld.get_set_ne _ _ _ _ rfl rfl).trans ((Fld.get_set_ne _ _ _ _ rfl rfl).trans (Fld.get_set _ _ _ rfl)))

theorem breachWord_shared : DS_BREACH.SHARED.get (breachWord l phys kind seg shared side1 pb) = b2n shared :=
  (Fld.get_set_ne _ _ _ _ rfl rfl).trans ((Fld.get_set_ne _ _ _ _ rfl rfl).trans ((Fld.get_set_ne _ _ _ _ rfl rfl).trans
    ((Fld.get_set_ne _ _ _ _ rfl rfl).trans ((Fld.get_set _ _ _ rfl).trans (by cases shared <;> rfl)))))

theorem breachWord_side : DS_BREACH.SIDE.get (breachWord l phys kind seg shared side1 pb) = b2n side1 :=
  (Fld.get_set_ne _ _ _ _ rfl rfl).trans ((Fld.get_set_ne _ _ _ _ rfl rfl).trans ((Fld.get_set_ne _ _ _ _ rfl rfl).trans
    ((Fld.get_set_ne _ _ _ _ rfl rfl).trans ((Fld.get_set_ne _ _ _ _ rfl rfl).trans ((Fld.get_set _ _ _ rfl).trans (by cases side1 <;> rfl))))))

theorem breachWord_pbeat : DS_BREACH.PBEAT.get (breachWord l phys kind seg shared side1 pb) = pb % 2 ^ 32 := by
  refine (Fld.get_set_ne _ _ _ _ rfl rfl).trans ((Fld.get_set_ne _ _ _ _ rfl rfl).trans ((Fld.get_set_ne _ _ _ _ rfl rfl).trans
    ((Fld.get_set_ne _ _ _ _ rfl rfl).trans ((Fld.get_set_ne _ _ _ _ rfl rfl).trans ((Fld.get_set_ne _ _ _ _ rfl rfl).trans ?_)))))
  simp only [Fld.get, DS_BREACH.PBEAT, Fld.width, BitVec.extractLsb'_toNat, BitVec.toNat_ofNat, Nat.shiftRight_zero]
  omega

end

/-! ### The log -/

/-- What a breach logged for a word in state `s` leaves: the word at its place, the next place, the count and the raise. -/
structure Logs (t : Nat) (s x : State) (word : Word) (side1 : Bool) (r : Raise) : Prop where
  entry : x.reg (DS_BREACH t (s.rd (DS_BREACH_STAT t) DS_BREACH_STAT.NEXT)) = word
  next : x.rd (DS_BREACH_STAT t) DS_BREACH_STAT.NEXT = (s.rd (DS_BREACH_STAT t) DS_BREACH_STAT.NEXT + 1) % 16
  count : s.rd (DS_BREACH_STAT t) ctrCount + 1 < 0xFFFFFFFF → x.rd (DS_BREACH_STAT t) ctrCount = s.rd (DS_BREACH_STAT t) ctrCount + 1
  raised : side1 = false → r ∈ x.fault.inflight
  other : ∀ m, m < 16 → m ≠ s.rd (DS_BREACH_STAT t) DS_BREACH_STAT.NEXT → x.reg (DS_BREACH t m) = s.reg (DS_BREACH t m)

theorem breach_ne_stat {n : Nat} (hn : n < 16) : DS_BREACH t n ≠ DS_BREACH_STAT t ∧ DS_BREACH t n ∉ sideRegs :=
  ⟨by simp only [DS_BREACH, DS_BREACH_STAT]; omega, off_sideRegs (by simp only [DS_BREACH, phBase]; omega)⟩

theorem bump_low (a b : Nat) (f : Fld) (hf : f.ok = true) (h1 : ctrCount.apart f = true) (h2 : ctrSat.apart f = true) (hb : b ∉ sideRegs) :
    (s.bump a).rd b f = s.rd b f := by
  unfold State.bump
  dsimp only
  split_ifs
  · rfl
  · exact (rd_of_reg (stuck_reg _ _ _ hb) f).trans ((rd_wr_fld _ _ _ _ _ _ hf h2).trans (rd_wr_fld _ _ _ _ _ _ hf h1))
  · exact rd_wr_fld _ _ _ _ _ _ hf h1

theorem logBreach_logs (l phys kind seg : Nat) (shared side1 : Bool) (pb : Nat) :
    Logs t s (s.logBreach t l phys kind seg shared side1 pb) (breachWord l phys kind seg shared side1 pb) side1 { src := 14, tile := t, well := phys, sub := kind } := by
  have hlt := breachNext_lt s t
  generalize hn : s.rd (DS_BREACH_STAT t) DS_BREACH_STAT.NEXT = n at hlt
  generalize hy : (((s.setReg (DS_BREACH t n) (breachWord l phys kind seg shared side1 pb)).wr (DS_BREACH_STAT t) DS_BREACH_STAT.NEXT ((n + 1) % 16)).bump
    (DS_BREACH_STAT t)) = y
  have he : s.logBreach t l phys kind seg shared side1 pb = if side1 then y else y.raisePh { src := 14, tile := t, well := phys, sub := kind } := by
    rw [← hy, ← hn]; rfl
  obtain ⟨hne, hside⟩ := breach_ne_stat (t := t) hlt
  have hstat : DS_BREACH_STAT t ∉ sideRegs := off_sideRegs (by simp only [DS_BREACH_STAT, phBase]; omega)
  have hreg (b : Nat) : (s.logBreach t l phys kind seg shared side1 pb).reg b = y.reg b := by rw [he]; split <;> rfl
  have hbase (f : Fld) : (s.setReg (DS_BREACH t n) (breachWord l phys kind seg shared side1 pb)).rd (DS_BREACH_STAT t) f = s.rd (DS_BREACH_STAT t) f :=
    rd_setReg_ne s _ _ _ _ (Ne.symm hne)
  constructor
  · rw [hn, hreg, ← hy, bump_reg _ _ _ hne hside, reg_wr_ne _ _ _ _ _ hne, reg_setReg, if_pos rfl]
  · rw [rd_of_reg (hreg _), hn, ← hy, bump_low _ _ _ rfl rfl rfl hstat, rd_wr_same _ _ _ _ rfl]
    exact Nat.mod_eq_of_lt (Nat.mod_lt _ (by decide))
  · intro hc
    have hcnt : ((s.setReg (DS_BREACH t n) (breachWord l phys kind seg shared side1 pb)).wr (DS_BREACH_STAT t) DS_BREACH_STAT.NEXT ((n + 1) % 16)).rd
        (DS_BREACH_STAT t) ctrCount = s.rd (DS_BREACH_STAT t) ctrCount := (rd_wr_fld _ _ _ _ _ _ rfl rfl).trans (hbase _)
    rw [rd_of_reg (hreg _), ← hy, bump_counts _ _ (by rw [hcnt]; exact hc), rd_wr_same _ _ _ _ rfl, hcnt]
    exact Nat.mod_eq_of_lt (Nat.lt_trans hc (by decide))
  · intro h1
    rw [he, h1]
    exact List.mem_append_right _ (List.mem_singleton.mpr rfl)
  · intro m hm hmn
    obtain ⟨hne', hside'⟩ := breach_ne_stat (t := t) hm
    rw [hreg, ← hy, bump_reg _ _ _ hne' hside', reg_wr_ne _ _ _ _ _ hne', reg_setReg, if_neg (by rw [hn] at hmn; simp only [DS_BREACH]; omega)]

/-- A breach not yet logged of its well's outer period is logged (R198). -/
theorem logOnce_logs (l phys kind seg : Nat) (shared side1 : Bool) (pb : Nat) (hw : phys < 15 → (s.sh t phys).logged = [])
    (hds : 15 ≤ phys → (s.ds t).logged = []) : Logs t s (s.logOnce t l phys kind seg shared side1 pb) (breachWord l phys kind seg shared side1 pb) side1
      { src := 14, tile := t, well := phys, sub := kind } := by
  unfold State.logOnce
  dsimp only
  split
  next h =>
    rw [hw h, if_neg (by simp)]
    have hlog := logBreach_logs (s := s.updSh t phys (fun h => { h with logged := (kind, l, seg) :: h.logged })) (t := t) l phys kind seg shared side1 pb
    exact ⟨hlog.entry, hlog.next, hlog.count, hlog.raised, hlog.other⟩
  next h =>
    generalize s.beatNs * s.rd (PH_PWM t) PH_PWM.FREQ_KHZ / 8000000 = n
    rw [hds (by omega), if_neg (by simp)]
    have hlog := logBreach_logs (s := s.updDs t (fun d => { d with logged := (kind, l, seg, n) :: d.logged.filter (fun e => e.2.2.2 == n) })) (t := t) l phys kind seg
      shared side1 pb
    exact ⟨hlog.entry, hlog.next, hlog.count, hlog.raised, hlog.other⟩

theorem charge_logs (l phys kind : Nat) (shared side1 : Bool) (hw : phys < 15 → (s.sh t phys).logged = []) (hds : 15 ≤ phys → (s.ds t).logged = []) :
    Logs t s (s.charge t l phys kind shared side1) (breachWord l phys kind (s.stream t l).p.seg shared side1 (s.stream t l).pb) side1
      { src := 14, tile := t, well := phys, sub := kind } := by
  have hlog := logOnce_logs l phys kind (s.stream t l).p.seg shared side1 (s.stream t l).pb hw hds
  unfold State.charge
  dsimp only
  split
  · exact ⟨hlog.entry, hlog.next, hlog.count, hlog.raised, hlog.other⟩
  · exact hlog

/-- A breach of the well's player puts it in guard, with its playing logical wells (R200). -/
theorem charge_guard {w l : Nat} (kind : Nat) (shared : Bool) (hk : kind ≤ 4) (hw : w < 14) :
    ((s.charge t l w kind shared false).sh t w).guard =
      ((s.logOnce t l w kind (s.stream t l).p.seg shared false (s.stream t l).pb).logicalsOn t w).filter
        (fun j => ((s.logOnce t l w kind (s.stream t l).p.seg shared false (s.stream t l).pb).stream t j).live) := by
  unfold State.charge
  dsimp only
  rw [if_pos ⟨hk, rfl, hw⟩]
  generalize s.logOnce t l w kind (s.stream t l).p.seg shared false (s.stream t l).pb = y
  unfold State.enterGuard
  dsimp only
  generalize (y.logicalsOn t w).filter (fun j => (y.stream t j).live) = ls
  rw [updSh_same]

/-! ### A late branch notice (R193, R194) -/

theorem setBranch_decides (l id par alt : Nat) (h : (s.branch t l id).decided ≠ some par) :
    (if par = 0 then ((s.branchNotice t l id par alt).branch t l id).r0 else ((s.branchNotice t l id par alt).branch t l id).r1) =
      some (max alt ((if par = 0 then (s.branch t l id).r0 else (s.branch t l id).r1).getD 0)) := by
  unfold State.branchNotice
  dsimp only
  rw [if_neg h, setBranch_branch]
  split <;> rfl

theorem charge_branch (l phys kind : Nat) (shared side1 : Bool) (j id : Nat) : (s.charge t l phys kind shared side1).branch t j id = s.branch t j id := by
  have honce (y : State) (seg pb : Nat) : (y.logOnce t l phys kind seg shared side1 pb).branch t j id = y.branch t j id := by
    unfold State.logOnce
    dsimp only
    split_ifs
    · rfl
    · rw [State.branch, ds_of_tiles (logBreach_tiles ..)]; rfl
    · rfl
    · rw [State.branch, ds_of_tiles (logBreach_tiles ..), updDs_same]; rfl
  unfold State.charge
  dsimp only
  split
  · exact honce _ _ _
  · exact honce _ _ _

theorem noticeLate_clear : BreachClear t (DS_NOTICE_LATE t) where
  side := off_sideRegs (by simp only [DS_NOTICE_LATE, phBase]; omega)
  stat := by simp only [DS_NOTICE_LATE, DS_BREACH_STAT]; omega
  log n _ := by simp only [DS_NOTICE_LATE, DS_BREACH]; omega

theorem branchNotice_late (l id par alt : Nat) (h : (s.branch t l id).decided = some par) (hc : s.rd (DS_NOTICE_LATE t) ctrCount + 1 < 0xFFFFFFFF)
    (hlog : (s.ds t).logged = []) : (s.branchNotice t l id par alt).rd (DS_NOTICE_LATE t) ctrCount = s.rd (DS_NOTICE_LATE t) ctrCount + 1 ∧
      (s.branch t l id).played = ((s.branchNotice t l id par alt).branch t l id).played ∧
      ((s.branch t l id).played < min alt (s.branch t l id).nalt →
        (s.branchNotice t l id par alt).rd (DS_BREACH t (s.rd (DS_BREACH_STAT t) DS_BREACH_STAT.NEXT)) DS_BREACH.KIND = 5 ∧
        { src := 14, tile := t, well := 0xF, sub := 5 } ∈ (s.branchNotice t l id par alt).fault.inflight) := by
  have hstat : DS_BREACH_STAT t ≠ DS_NOTICE_LATE t := by simp only [DS_BREACH_STAT, DS_NOTICE_LATE]; omega
  have hcount : (s.bump (DS_NOTICE_LATE t)).rd (DS_NOTICE_LATE t) ctrCount = s.rd (DS_NOTICE_LATE t) ctrCount + 1 := by
    rw [bump_counts _ _ hc, rd_wr_same _ _ _ _ rfl]
    exact Nat.mod_eq_of_lt (Nat.lt_trans hc (by decide))
  have hds : (s.bump (DS_NOTICE_LATE t)).ds t = s.ds t := ds_of_tiles (bump_tiles _ _) t
  have hnext : (s.bump (DS_NOTICE_LATE t)).rd (DS_BREACH_STAT t) DS_BREACH_STAT.NEXT = s.rd (DS_BREACH_STAT t) DS_BREACH_STAT.NEXT :=
    rd_of_reg (bump_reg _ _ _ hstat (off_sideRegs (by simp only [DS_BREACH_STAT, phBase]; omega))) _
  have hb : (s.bump (DS_NOTICE_LATE t)).branch t l id = s.branch t l id := by rw [State.branch, hds, State.branch]
  unfold State.branchNotice
  dsimp only
  rw [if_pos h]
  generalize s.bump (DS_NOTICE_LATE t) = y at *
  split
  next hp =>
    have hlogs := charge_logs (s := y) (t := t) l 0xF bkLate false false (fun h => absurd h (by decide)) (fun _ => by rw [hds]; exact hlog)
    refine ⟨(rd_of_reg (charge_reg noticeLate_clear l 0xF bkLate false false) _).trans hcount, ?_, fun _ => ⟨?_, hlogs.raised rfl⟩⟩
    · rw [charge_branch, hb]
    · rw [← hnext, State.rd, hlogs.entry, breachWord_kind]
      rfl
  next hp => exact ⟨hcount, by rw [hb], fun h => absurd h hp⟩

/-- NOTICE_COLLECT of a branch notice for one logical well. -/
theorem noticeCollect_branch (u k n c l lk id par : Nat) (m : BitVec 32) (r : List (BitVec 32)) (s : State) (hk : s.clusterOk u k = true) (hc : c = 128 * k + n)
    (hp : s.rd (PH_PWR u) PH_PWR.STATE = 0) (hnext : s.nextRing u = some (c, m :: r)) (hm : ebits m 31 30 = 1) (h1 : ebits m 20 18 = 0) (h2 : ebits m 15 0 = 0)
    (hid : id = ebits m 29 22) (hpar : par = ebits m 21 21) (hlk : s.logicalAt u k = some lk)
    (hl : (logicalWells lk).filter (fun v => (s.ds u).branchHolders.contains (256 * v + id)) = [l]) :
    ((s.branch u l id).decided ≠ some par → s.yields (.noticeCollect u k n) (fun t =>
      (if par = 0 then (t.branch u l id).r0 else (t.branch u l id).r1) =
        some (max (ebits m 17 16) ((if par = 0 then (s.branch u l id).r0 else (s.branch u l id).r1).getD 0)))) ∧
    ((s.branch u l id).decided = some par → s.rd (DS_NOTICE_LATE u) ctrCount + 1 < 0xFFFFFFFF → (s.ds u).logged = [] →
      s.yields (.noticeCollect u k n) (fun t => t.rd (DS_NOTICE_LATE u) ctrCount = s.rd (DS_NOTICE_LATE u) ctrCount + 1 ∧
        (s.branch u l id).played = (t.branch u l id).played ∧
        ((s.branch u l id).played < min (ebits m 17 16) (s.branch u l id).nalt →
          t.rd (DS_BREACH u (s.rd (DS_BREACH_STAT u) DS_BREACH_STAT.NEXT)) DS_BREACH.KIND = 5 ∧
          { src := 14, tile := u, well := 0xF, sub := 5 } ∈ t.fault.inflight))) := by
  subst hid hpar
  have hbr := ringTaken_branch s u c r l (ebits m 29 22)
  obtain ⟨hlogged, hhold⟩ := ringTaken_logged s u c r
  have he : s.noticeCollect u k n = (s.ringTaken u c r).branchNotice u l (ebits m 29 22) (ebits m 21 21) (ebits m 17 16) := by
    have hlk' : (s.ringTaken u c r).logicalAt u k = some lk := hlk
    have hls : (((s.ringTaken u c r).logicalAt u k).elim [] logicalWells).filter
        (fun v => ((s.ringTaken u c r).ds u).branchHolders.contains (256 * v + ebits m 29 22)) = [l] := by rw [hlk', hhold]; exact hl
    rw [noticeCollect_takes hk hc hp hnext, handleNotice_branch n hm h1 h2]
    generalize s.ringTaken u c r = y at hls
    unfold State.collectBranch
    simp only [hls]
    rfl
  have hrd (b : Nat) (f : Fld) : (s.ringTaken u c r).rd b f = s.rd b f := rfl
  generalize s.ringTaken u c r = y at *
  refine ⟨fun hd => ⟨s.noticeCollect u k n, rfl, ?_⟩, fun hd hlt hlog => ⟨s.noticeCollect u k n, rfl, ?_⟩⟩
  · rw [he, ← hbr]
    exact setBranch_decides _ _ _ _ (by rw [hbr]; exact hd)
  · rw [he, ← hbr, ← hrd, ← hrd (DS_BREACH_STAT u)]
    exact branchNotice_late _ _ _ _ (by rw [hbr]; exact hd) (by rw [hrd]; exact hlt) (hlogged.trans hlog)

end

end Sys2Proof.Machine

/-! PROOFS. Holds and envelope checks of a playing slice (R120, R198-R200). -/

namespace Sys2Proof.Machine

open Sys2Proof

section
variable {s x : State} {t w l : Nat}

/-! ### The logical wells of a physical well -/

theorem logicalsOn_of_map (h : ∀ k, k < 96 → x.reg (PL_MAP (96 * t + k)) = s.reg (PL_MAP (96 * t + k))) (w : Nat) : x.logicalsOn t w = s.logicalsOn t w := by
  have hnum (l : Nat) : x.shareNum t l w = s.shareNum t l w := by
    unfold State.shareNum
    split
    · exact congrArg List.length (List.filter_congr fun k hk => by rw [State.logicalAt, State.logicalAt, rd_of_reg (h k (fedClusters_lt hk))])
    · rfl
  rw [State.logicalsOn, State.logicalsOn]
  exact List.filter_congr fun l _ => by rw [hnum]

theorem logicalsOn_lt (h : s.logicalsOn t w = [l]) : l < 14 := by
  have hmem : l ∈ s.logicalsOn t w := by rw [h]; exact List.mem_singleton.mpr rfl
  exact List.mem_range.mp (List.mem_of_mem_filter hmem)

theorem map_clear {k : Nat} (hk : k < 96) : BreachClear t (PL_MAP (96 * t + k)) where
  side := by simp only [sideRegs, PL_MAP, ER_STAT, IC_SAT_ADDR, IC_SRC, HD_PWR_STAT, List.mem_cons, List.not_mem_nil, or_false, not_or]; omega
  stat := by simp only [PL_MAP, DS_BREACH_STAT, phBase]; omega
  log n hn := by simp only [PL_MAP, DS_BREACH, phBase]; omega

/-- What a breach of one logical well becomes. -/
theorem breachWell_one (kind : Nat) (h : s.logicalsOn t w = [l]) : s.breachWell t w kind =
    (if (s.stream t l).live then s.charge t l w kind false (s.sideValper t w kind)
      else if kind = bkHold ∨ kind = bkWindow then s.logOnce t l w kind 0 false true 0 else s) := by
  unfold State.breachWell
  rw [h]
  rfl

/-! ### HOLD_ASSERT (R120, R199) -/

section
variable {dev : Int}

/-- A hold's own registers are not what a breach looks at. -/
theorem held_sees (hc : s.rd (WL_HOLD t w) WL_HOLD.HOLDS + 1 < 0xFFFFFFFF) : (s.held t w dev).logicalsOn t w = s.logicalsOn t w ∧
    (s.held t w dev).sideValper t w bkHold = s.sideValper t w bkHold := by
  have hsame := held_sameBut (dev := dev) hc
  have hrest : { s.held t w dev with regs := s.regs } = s := held_onlyRegs (dev := dev) hc
  have hreg (b : Nat) (hb : b ≠ WL_HOLD t w) : (s.held t w dev).reg b = s.reg b := hsame b (by simpa using hb)
  have hlog : (s.held t w dev).logicalsOn t w = s.logicalsOn t w :=
    logicalsOn_of_map (fun k hk => hreg _ (by simp only [PL_MAP, WL_HOLD, wlBase, phBase]; omega)) w
  have hclk : (s.held t w dev).clk = s.clk := (congrArg State.clk hrest :)
  have hds : (s.held t w dev).ds t = s.ds t := (congrArg (·.ds t) hrest :)
  have hsh : (s.held t w dev).sh t w = s.sh t w := (congrArg (·.sh t w) hrest :)
  have hcap : (s.held t w dev).reg (WL_CAP t w) = s.reg (WL_CAP t w) := hreg _ (by simp only [WL_CAP, WL_HOLD]; omega)
  have hcont : (s.held t w dev).rdi (WL_CAP t w) WL_CAP.CONT = s.rdi (WL_CAP t w) WL_CAP.CONT := by rw [State.rdi, State.rdi, hcap]
  have hns : (s.held t w dev).beatNs = s.beatNs := by rw [State.beatNs, State.beatNs, hclk]
  refine ⟨hlog, ?_⟩
  unfold State.sideValper State.restClose
  simp only [hlog, hds, hsh, rd_of_reg hcap, hcont, hns, true_or, if_true]

theorem holdAssert_charges (u w l seg b : Nat) (dev : Int) (s : State) (hc : s.compares u w = true) (hw : w < 14)
    (hd : dev < -(8 * s.rd (WL_WIN u w) WL_WIN.HOLD_TH : Nat)) (hh : s.flag (WL_HOLD u w) WL_HOLD.HOLD = false) (hr : (s.lp u w).relAt = none)
    (hn : s.rd (WL_HOLD u w) WL_HOLD.HOLDS + 1 < 0xFFFFFFFF) (hl : s.logicalsOn u w = [l]) (hlog : (s.sh u w).logged = [])
    (hcnt : s.rd (DS_BREACH_STAT u) ctrCount + 1 < 0xFFFFFFFF) (hseg : seg = (if (s.stream u l).live then (s.stream u l).p.seg else 0))
    (hb : b = s.rd (DS_BREACH_STAT u) DS_BREACH_STAT.NEXT) :
    s.yields (.holdAssert u w dev) (fun t => t.rd (DS_BREACH u b) DS_BREACH.SEG = seg % 2 ^ 18 ∧ t.rd (DS_BREACH u b) DS_BREACH.LOGICAL = l ∧
      t.rd (DS_BREACH u b) DS_BREACH.PHYS = w ∧ t.rd (DS_BREACH u b) DS_BREACH.KIND = 3 ∧ t.rd (DS_BREACH u b) DS_BREACH.SHARED = 0 ∧
      t.flag (DS_BREACH u b) DS_BREACH.SIDE = (!(s.stream u l).live || s.sideValper u w 3) ∧
      t.rd (DS_BREACH u b) DS_BREACH.PBEAT = (if (s.stream u l).live then (s.stream u l).pb % 2 ^ 32 else 0) ∧
      t.rd (DS_BREACH_STAT u) DS_BREACH_STAT.NEXT = (b + 1) % 16 ∧ t.rd (DS_BREACH_STAT u) ctrCount = s.rd (DS_BREACH_STAT u) ctrCount + 1 ∧
      ((s.stream u l).live = true → s.sideValper u w 3 = false → { src := 14, tile := u, well := w, sub := 3 } ∈ t.fault.inflight ∧
        (t.sh u w).guard = [l])) := by
  have hl14 := logicalsOn_lt hl
  have he : s.holdAssert u w dev = (s.held u w dev).breachWell u w bkHold := by
    rw [holdAssert_acts hc hd hh (fun r hr' => by rw [hr] at hr'; cases hr'), if_pos hw]
  obtain ⟨hylog, hyside⟩ := held_sees (dev := dev) (t := u) (w := w) hn
  have hrest : { s.held u w dev with regs := s.regs } = s := held_onlyRegs (dev := dev) hn
  have hstream : (s.held u w dev).stream u l = s.stream u l := (congrArg (·.stream u l) hrest :)
  have hsh : (s.held u w dev).sh u w = s.sh u w := (congrArg (·.sh u w) hrest :)
  have hstat (f : Fld) : (s.held u w dev).rd (DS_BREACH_STAT u) f = s.rd (DS_BREACH_STAT u) f :=
    rd_of_reg (held_sameBut (dev := dev) hn _ (by simp only [DS_BREACH_STAT, WL_HOLD, wlBase, List.mem_singleton]; omega)) f
  subst hb
  refine ⟨s.holdAssert u w dev, rfl, ?_⟩
  rw [he]
  generalize s.held u w dev = y at hylog hyside hstream hsh hstat
  rw [breachWell_one bkHold (hylog.trans hl), hstream, hyside]
  have hword (x : State) (side1 : Bool) (pb sg : Nat) (r : Raise) (h : Logs u y x (breachWord l w bkHold sg false side1 pb) side1 r) :
      x.rd (DS_BREACH u (s.rd (DS_BREACH_STAT u) DS_BREACH_STAT.NEXT)) DS_BREACH.SEG = sg % 2 ^ 18 ∧
      x.rd (DS_BREACH u (s.rd (DS_BREACH_STAT u) DS_BREACH_STAT.NEXT)) DS_BREACH.LOGICAL = l ∧
      x.rd (DS_BREACH u (s.rd (DS_BREACH_STAT u) DS_BREACH_STAT.NEXT)) DS_BREACH.PHYS = w ∧
      x.rd (DS_BREACH u (s.rd (DS_BREACH_STAT u) DS_BREACH_STAT.NEXT)) DS_BREACH.KIND = 3 ∧
      x.rd (DS_BREACH u (s.rd (DS_BREACH_STAT u) DS_BREACH_STAT.NEXT)) DS_BREACH.SHARED = 0 ∧
      x.flag (DS_BREACH u (s.rd (DS_BREACH_STAT u) DS_BREACH_STAT.NEXT)) DS_BREACH.SIDE = side1 ∧
      x.rd (DS_BREACH u (s.rd (DS_BREACH_STAT u) DS_BREACH_STAT.NEXT)) DS_BREACH.PBEAT = pb % 2 ^ 32 ∧
      x.rd (DS_BREACH_STAT u) DS_BREACH_STAT.NEXT = (s.rd (DS_BREACH_STAT u) DS_BREACH_STAT.NEXT + 1) % 16 ∧
      x.rd (DS_BREACH_STAT u) ctrCount = s.rd (DS_BREACH_STAT u) ctrCount + 1 := by
    have hentry := h.entry
    have hnext := h.next
    have hcount := h.count
    rw [hstat] at hentry hnext
    rw [hstat] at hcount
    refine ⟨?_, ?_, ?_, ?_, ?_, ?_, ?_, hnext, hcount hcnt⟩
    · rw [State.rd, hentry, breachWord_seg]
    · rw [State.rd, hentry, breachWord_logical, Nat.mod_eq_of_lt (by omega)]
    · rw [State.rd, hentry, breachWord_phys, Nat.mod_eq_of_lt (by omega)]
    · rw [State.rd, hentry, breachWord_kind]; rfl
    · rw [State.rd, hentry, breachWord_shared]; rfl
    · rw [State.flag, State.rd, hentry, breachWord_side]
      cases side1 <;> rfl
    · rw [State.rd, hentry, breachWord_pbeat]
  cases hlive : (s.stream u l).live with
  | true =>
    rw [hlive, if_pos rfl] at hseg
    rw [if_pos rfl, if_pos rfl]
    have hlogs := charge_logs (s := y) (t := u) l w bkHold false (s.sideValper u w bkHold) (fun _ => by rw [hsh]; exact hlog) (fun h => by omega)
    rw [hstream] at hlogs
    obtain ⟨h1, h2, h3, h4, h5, h6, h7, h8, h9⟩ := hword _ _ _ _ _ hlogs
    subst hseg
    refine ⟨h1, h2, h3, h4, h5, h6, h7, h8, h9, fun _ hside => ⟨hlogs.raised hside, ?_⟩⟩
    have hside : s.sideValper u w bkHold = false := hside
    rw [hside, charge_guard bkHold false (by decide) hw]
    have hone : (y.logOnce u l w bkHold (y.stream u l).p.seg false false (y.stream u l).pb).logicalsOn u w = [l] :=
      (logicalsOn_of_map (fun k hk => logOnce_reg (map_clear hk) ..) w).trans (hylog.trans hl)
    have hsame : (y.logOnce u l w bkHold (y.stream u l).p.seg false false (y.stream u l).pb).stream u l = s.stream u l :=
      (stream_of_ds (congrArg Prod.fst (logOnce_strands ..)) l).trans hstream
    rw [hone, List.filter_cons, hsame, hlive]
    rfl
  | false =>
    rw [hlive, if_neg Bool.false_ne_true] at hseg
    rw [if_neg Bool.false_ne_true, if_pos (Or.inl rfl : bkHold = bkHold ∨ bkHold = bkWindow), if_neg Bool.false_ne_true]
    have hlogs := logOnce_logs (s := y) (t := u) l w bkHold 0 false true 0 (fun _ => by rw [hsh]; exact hlog) (fun h => by omega)
    obtain ⟨h1, h2, h3, h4, h5, h6, h7, h8, h9⟩ := hword _ _ _ _ _ hlogs
    subst hseg
    exact ⟨h1, h2, h3, h4, h5, h6, h7, h8, h9, fun h => by cases h⟩

end

/-! ### The checks at a boundary (R198) -/

/-- The entry's place in the log is not reached again by as many entries. -/
structure LogStands (t n c j : Nat) (x : State) : Prop where
  entry : x.rd (DS_BREACH t n) ctrCount = c
  next : ∃ i, 1 ≤ i ∧ i ≤ j ∧ x.rd (DS_BREACH_STAT t) DS_BREACH_STAT.NEXT = (n + i) % 16

section
variable {n c j : Nat}

theorem LogStands.of_regs {y : State} (h : LogStands t n c j x) (hy : ∀ b, y.reg b = x.reg b) : LogStands t n c j y :=
  ⟨(rd_of_reg (hy _) _).trans h.entry, by obtain ⟨i, h1, h2, h3⟩ := h.next; exact ⟨i, h1, h2, (rd_of_reg (hy _) _).trans h3⟩⟩

theorem LogStands.mono (h : LogStands t n c j x) : LogStands t n c (j + 1) x := by
  obtain ⟨i, h1, h2, h3⟩ := h.next
  exact ⟨h.entry, i, h1, by omega, h3⟩

theorem LogStands.logs {y : State} {word : Word} {b : Bool} {r : Raise} (h : LogStands t n c j x) (hn : n < 16) (hj : j < 15) (hl : Logs t x y word b r) :
    LogStands t n c (j + 1) y := by
  obtain ⟨i, h1, h2, h3⟩ := h.next
  refine ⟨(rd_of_reg (hl.other n hn (by rw [h3]; omega)) _).trans h.entry, i + 1, by omega, by omega, ?_⟩
  rw [hl.next, h3]
  omega

theorem LogStands.logOnce (h : LogStands t n c j x) (hn : n < 16) (hj : j < 15) (l phys kind seg : Nat) (shared side1 : Bool) (pb : Nat) :
    LogStands t n c (j + 1) (x.logOnce t l phys kind seg shared side1 pb) := by
  have hmore (y : State) (hy : ∀ b, y.reg b = x.reg b) : LogStands t n c (j + 1) (y.logBreach t l phys kind seg shared side1 pb) :=
    (h.of_regs hy).logs hn hj (logBreach_logs ..)
  unfold State.logOnce
  dsimp only
  split_ifs
  · exact h.mono
  · exact hmore _ fun _ => rfl
  · exact h.mono
  · exact hmore _ fun _ => rfl

theorem LogStands.charge (h : LogStands t n c j x) (hn : n < 16) (hj : j < 15) (l phys kind : Nat) (shared side1 : Bool) :
    LogStands t n c (j + 1) (x.charge t l phys kind shared side1) := by
  have honce := h.logOnce hn hj l phys kind (x.stream t l).p.seg shared side1 (x.stream t l).pb
  unfold State.charge
  dsimp only
  split
  · exact honce.of_regs fun _ => rfl
  · exact honce

theorem LogStands.breachWell (h : LogStands t n c j x) (hn : n < 16) (hj : j < 15) (kind : Nat) (hl : x.logicalsOn t w = [l]) :
    LogStands t n c (j + 1) (x.breachWell t w kind) := by
  rw [breachWell_one kind hl]
  split
  · exact h.charge hn hj ..
  split
  · exact h.logOnce hn hj ..
  · exact h.mono

end

end

end Sys2Proof.Machine

/-! PROOFS. The envelope checks of a boundary (R198, R199). -/

namespace Sys2Proof.Machine

open Sys2Proof

section
variable {s x : State} {t w l n : Nat}

/-! ### What an abandoned test leaves of the log -/

/-- A bump of a counter raises the count of a register at most by one. -/
theorem bump_entry (s : State) (a : Nat) {b : Nat} (hb : b ∉ sideRegs) :
    (s.bump a).rd b ctrCount = s.rd b ctrCount ∨ (s.bump a).rd b ctrCount = s.rd b ctrCount + 1 := by
  by_cases h : b = a
  · subst h
    have hlt := rd_lt s b ctrCount
    rw [show ctrCount.width = 32 from rfl] at hlt
    unfold State.bump
    dsimp only
    split
    · exact .inl rfl
    next hne =>
      have hset : (s.wr b ctrCount (s.rd b ctrCount + 1)).rd b ctrCount = s.rd b ctrCount + 1 :=
        (rd_wr_same _ _ _ _ rfl).trans (Nat.mod_eq_of_lt (by rw [show ctrCount.width = 32 from rfl]; omega))
      split
      · exact .inr ((rd_of_reg (stuck_reg _ _ _ hb) _).trans ((rd_wr_fld _ _ _ _ _ _ rfl rfl).trans hset))
      · exact .inr hset
  · exact .inl (rd_of_reg (bump_reg s a b h hb) _)

theorem breach_ne_well (hn : n < 16) :
    DS_BREACH t n ≠ WL_TEST t w ∧ (∀ v, DS_BREACH t n ≠ WL_SHARE t v) ∧ DS_BREACH t n ∉ sideRegs := by
  refine ⟨by simp only [DS_BREACH, WL_TEST, wlBase]; omega, fun v => by simp only [DS_BREACH, WL_SHARE, wlBase]; omega,
    off_sideRegs (by simp only [DS_BREACH, phBase]; omega)⟩

theorem penLow_entry (q b : Nat) : (s.penLow t w q).rd b ctrCount = s.rd b ctrCount := by
  have hlow : ((s.wr (PM_LINK t w q) PM_LINK.PEN 0).wr (PM_STAT t w q) PM_STAT.REARM_PEND 0).rd b ctrCount = s.rd b ctrCount :=
    (rd_wr_fld _ _ _ _ _ _ rfl rfl).trans (rd_wr_fld _ _ _ _ _ _ rfl rfl)
  unfold State.penLow
  dsimp only
  split
  · exact (rd_wr_fld _ _ _ _ _ _ rfl rfl).trans hlow
  · exact hlow

theorem testBack_entry (q b : Nat) : (s.testBack t w q).rd b ctrCount = s.rd b ctrCount := by
  unfold State.testBack
  dsimp only
  split
  · rfl
  · exact (rd_wr_fld _ _ _ _ _ _ rfl rfl).trans (rd_wr_fld _ _ _ _ _ _ rfl rfl)

theorem testBegin_entry (q k : Nat) (c : Bool) (hn : n < 16) : (s.testBegin t w q k c).rd (DS_BREACH t n) ctrCount = s.rd (DS_BREACH t n) ctrCount ∨
    (s.testBegin t w q k c).rd (DS_BREACH t n) ctrCount = s.rd (DS_BREACH t n) ctrCount + 1 := by
  obtain ⟨htest, hshare, hside⟩ := breach_ne_well (t := t) (w := w) hn
  have hlast (d : Prop) [Decidable d] (y : State) (f : Motion → Motion) (b : Nat) : (if d then y.updMo t w f else y).reg b = y.reg b := by
    split <;> rfl
  have hset (y : State) (a : Nat) : (y.bump a).rd (DS_BREACH t n) ctrCount = y.rd (DS_BREACH t n) ctrCount ∨
      (y.bump a).rd (DS_BREACH t n) ctrCount = y.rd (DS_BREACH t n) ctrCount + 1 := bump_entry y a hside
  have hbase (p : Nat) : (((s.wr (WL_TEST t w) WL_TEST.STATE 2).wr (WL_TEST t w) WL_TEST.VARIANT k).wr (WL_TEST t w) WL_TEST.NEXT_PUMP p).rd (DS_BREACH t n) ctrCount =
      s.rd (DS_BREACH t n) ctrCount := (rd_wr_ne _ _ _ _ _ _ htest).trans ((rd_wr_ne _ _ _ _ _ _ htest).trans (rd_wr_ne _ _ _ _ _ _ htest))
  have hend (y : State) (f : TestX → TestX) (g : PumpX → PumpX) (d : Prop) [Decidable d] (h : Motion → Motion) :
      (if d then (((y.wr (PM_LINK t w q) PM_LINK.PEN 0).updTe t w f |>.updPump t w q g).recentre t w).updMo t w h
        else ((y.wr (PM_LINK t w q) PM_LINK.PEN 0).updTe t w f |>.updPump t w q g).recentre t w).rd (DS_BREACH t n) ctrCount = y.rd (DS_BREACH t n) ctrCount :=
    (rd_of_reg ((hlast _ _ _ _).trans (recentre_reg _ hshare)) _).trans (rd_wr_fld y _ _ _ _ _ rfl rfl)
  rw [State.testBegin]
  rw [hend, ← hbase q]
  exact hset _ _

theorem testTell_entry (y : TestX) (ok : Bool) (hn : n < 16) : (s.testTell t w y ok).rd (DS_BREACH t n) ctrCount = s.rd (DS_BREACH t n) ctrCount ∨
    (s.testTell t w y ok).rd (DS_BREACH t n) ctrCount = s.rd (DS_BREACH t n) ctrCount + 1 := by
  unfold State.testTell
  split
  · exact .inl (rd_of_reg (report_reg _ _ _ _ _ _) _)
  · unfold State.testQueued
    split
    next p _ =>
      split
      · exact .inl rfl
      dsimp only
      generalize (if s.stopped t then 0 else s.testKind t w p) = k
      split
      · exact .inl ((rd_of_reg (report_reg _ _ _ _ _ _) _).trans (rd_wr_ne _ _ _ _ _ _ (breach_ne_well hn).1))
      · exact testBegin_entry p k true hn
    · exact .inl rfl

/-- A test that is abandoned may count a step of another pump; of the log's entry it changes no more. -/
theorem testAbandon_entry (hn : n < 16) : (s.testAbandon t w).rd (DS_BREACH t n) ctrCount = s.rd (DS_BREACH t n) ctrCount ∨
    (s.testAbandon t w).rd (DS_BREACH t n) ctrCount = s.rd (DS_BREACH t n) ctrCount + 1 := by
  obtain ⟨htest, hshare, _⟩ := breach_ne_well (t := t) (w := w) hn
  have hleft (q v : Nat) : (((s.testLeave t w).wr (PM_ISNS t w q) PM_ISNS.OFFSET v).wr (WL_TEST t w) WL_TEST.ABANDONED 1).rd (DS_BREACH t n) ctrCount =
      s.rd (DS_BREACH t n) ctrCount :=
    (rd_wr_ne _ _ _ _ _ _ htest).trans ((rd_wr_fld _ _ _ _ _ _ rfl rfl).trans (rd_of_reg (testLeave_reg s htest (hshare w)) _))
  have hover (y : State) (hy : y.rd (DS_BREACH t n) ctrCount = s.rd (DS_BREACH t n) ctrCount) :
      (y.testTell t w (s.te t w) false).rd (DS_BREACH t n) ctrCount = s.rd (DS_BREACH t n) ctrCount ∨
        (y.testTell t w (s.te t w) false).rd (DS_BREACH t n) ctrCount = s.rd (DS_BREACH t n) ctrCount + 1 := by
    rw [← hy]
    exact testTell_entry _ _ hn
  unfold State.testAbandon
  dsimp only
  split
  · exact .inl rfl
  · split
    · exact hover _ ((penLow_entry _ _).trans (hleft _ _))
    · exact hover _ ((testBack_entry _ _).trans (hleft _ _))

/-! ### The count of an entry's word -/

theorem kind_of_count (x : Word) : DS_BREACH.KIND.get x = ctrCount.get x / 4 % 16 ∧ DS_BREACH.PHYS.get x = ctrCount.get x / 64 % 16 ∧
    DS_BREACH.SHARED.get x = ctrCount.get x / 2 % 2 := by
  have hx := x.isLt
  simp only [Fld.get, DS_BREACH.KIND, DS_BREACH.PHYS, DS_BREACH.SHARED, ctrCount, Fld.width, BitVec.extractLsb'_toNat, Nat.shiftRight_eq_div_pow]
  omega

/-! ### ENVELOPE checks at a boundary -/

theorem playOn_one (h : s.logicalsOn t w = [l]) (hl : (s.stream t l).live = true) : s.playOn t w = [l] := by
  rw [State.playOn, h, List.filter_cons, hl]
  rfl

theorem breachWell_map (kind : Nat) (hl : x.logicalsOn t w = [l]) : (x.breachWell t w kind).logicalsOn t w = [l] :=
  (logicalsOn_of_map (fun _ hk => breachWell_reg (map_clear hk) w kind) w).trans hl

/-- The log's next place as the first of a boundary's breaches takes it, of one playing logical well. -/
theorem current_stands {c : Nat} (hl : s.logicalsOn t w = [l]) (hlive : (s.stream t l).live = true) (hlog : (s.sh t w).logged = []) (hw : w < 14)
    (hc : c = ctrCount.get (breachWord l w bkCurrent (s.stream t l).p.seg false (s.sideValper t w bkCurrent) (s.stream t l).pb)) :
    LogStands t (s.rd (DS_BREACH_STAT t) DS_BREACH_STAT.NEXT) c 1 (s.breachWell t w bkCurrent) := by
  have hlogs := charge_logs (s := s) (t := t) l w bkCurrent false (s.sideValper t w bkCurrent) (fun _ => hlog) (fun h => by omega)
  rw [breachWell_one bkCurrent hl, hlive, if_pos rfl]
  exact ⟨by rw [hc, State.rd, hlogs.entry], 1, by omega, by omega, hlogs.next⟩

theorem envelopeCheck_logs (u w l : Nat) (edges : List (List Nat)) (s : State) (hw : w < 14) (hd : s.dsState u = dsPlaying) (hl : s.logicalsOn u w = [l])
    (hlive : (s.stream u l).live = true)
    (hi : (48 * (8 * s.rd (DS_CFG u) DS_CFG.I_TOL : Nat) + (8 * s.envelope u w envImax : Nat) : Int) < 48 * s.iW u w) (hlog : (s.sh u w).logged = []) :
    (s.envelopeCheck u w edges).rd (DS_BREACH u (s.rd (DS_BREACH_STAT u) DS_BREACH_STAT.NEXT)) DS_BREACH.KIND = 1 ∧
      (s.envelopeCheck u w edges).rd (DS_BREACH u (s.rd (DS_BREACH_STAT u) DS_BREACH_STAT.NEXT)) DS_BREACH.PHYS = w := by
  have hn := breachNext_lt s u
  obtain ⟨c, hc⟩ : ∃ c, c = ctrCount.get (breachWord l w bkCurrent (s.stream u l).p.seg false (s.sideValper u w bkCurrent) (s.stream u l).pb) := ⟨_, rfl⟩
  have hkind : c / 4 % 16 = 1 ∧ c / 64 % 16 = w ∧ c / 2 % 2 = 0 := by
    obtain ⟨h1, h2, h3⟩ := kind_of_count (breachWord l w bkCurrent (s.stream u l).p.seg false (s.sideValper u w bkCurrent) (s.stream u l).pb)
    rw [breachWord_kind] at h1
    rw [breachWord_phys] at h2
    rw [breachWord_shared] at h3
    rw [hc]
    exact ⟨h1.symm, h2.symm.trans (Nat.mod_eq_of_lt (by omega)), h3.symm⟩
  have hread (y : State) (hy : y.rd (DS_BREACH u (s.rd (DS_BREACH_STAT u) DS_BREACH_STAT.NEXT)) ctrCount = c ∨
      y.rd (DS_BREACH u (s.rd (DS_BREACH_STAT u) DS_BREACH_STAT.NEXT)) ctrCount = c + 1) :
      y.rd (DS_BREACH u (s.rd (DS_BREACH_STAT u) DS_BREACH_STAT.NEXT)) DS_BREACH.KIND = 1 ∧
        y.rd (DS_BREACH u (s.rd (DS_BREACH_STAT u) DS_BREACH_STAT.NEXT)) DS_BREACH.PHYS = w := by
    generalize DS_BREACH u (s.rd (DS_BREACH_STAT u) DS_BREACH_STAT.NEXT) = b at hy ⊢
    obtain ⟨h1, h2, _⟩ := kind_of_count (y.reg b)
    simp only [State.rd] at hy ⊢
    rw [h1, h2]
    rcases hy with hy | hy <;> rw [hy] <;> omega
  have hnow := playOn_one hl hlive
  -- the state that the checks start from: the pairs are remembered
  have hstart (f : ShareX → ShareX) (hf : ∀ h : ShareX, (f h).logged = h.logged ∧ (f h).fcast = h.fcast) :
      LogStands u (s.rd (DS_BREACH_STAT u) DS_BREACH_STAT.NEXT) c 1 ((s.updSh u w f).breachWell u w bkCurrent) ∧
        ((s.updSh u w f).breachWell u w bkCurrent).logicalsOn u w = [l] := by
    have hl' : (s.updSh u w f).logicalsOn u w = [l] := hl
    have hside : (s.updSh u w f).sideValper u w bkCurrent = s.sideValper u w bkCurrent := by
      unfold State.sideValper
      rw [updSh_same, (hf _).2]
      rfl
    refine ⟨current_stands hl' hlive (by rw [updSh_same, (hf _).1]; exact hlog) hw ?_, breachWell_map bkCurrent hl'⟩
    rw [hside]
    exact hc
  have hdidt (y : State) (h : LogStands u (s.rd (DS_BREACH_STAT u) DS_BREACH_STAT.NEXT) c 1 y ∧ y.logicalsOn u w = [l]) (b : Bool) :
      LogStands u (s.rd (DS_BREACH_STAT u) DS_BREACH_STAT.NEXT) c 2 (if b then y.breachWell u w bkDidt else y) ∧
        (if b then y.breachWell u w bkDidt else y).logicalsOn u w = [l] := by
    split
    · exact ⟨h.1.breachWell hn (by decide) bkDidt h.2, breachWell_map bkDidt h.2⟩
    · exact ⟨h.1.mono, h.2⟩
  unfold State.envelopeCheck
  dsimp only
  rw [if_pos ⟨hw, by rw [hnow]; exact List.cons_ne_nil _ _, hd⟩]
  have hcur : ((8 * s.envelope u w envImax : Nat) : Int) + 48 * ((8 * s.rd (DS_CFG u) DS_CFG.I_TOL : Nat) : Int) < 48 * s.iW u w := by omega
  rw [if_pos hcur]
  have htwo := hdidt _ (hstart (fun h => { h with lastPair := (s.pairCurrents u w edges).getLast? }) fun _ => ⟨rfl, rfl⟩)
    (s.didtBreak u w (steps2 ((s.sh u w).lastPair.elim (s.pairCurrents u w edges) (fun x => x :: s.pairCurrents u w edges))))
  generalize ite (s.didtBreak u w (steps2 ((s.sh u w).lastPair.elim (s.pairCurrents u w edges) (fun x => x :: s.pairCurrents u w edges))) = true) _ _ = y at htwo ⊢
  split
  · have hthree := htwo.1.breachWell hn (by decide) bkQuiet htwo.2
    refine hread _ ?_
    rw [← hthree.entry]
    exact testAbandon_entry hn
  · exact hread _ (.inl htwo.1.entry)

theorem envelopeCheck_passes (u w : Nat) (edges : List (List Nat)) (s : State)
    (hi : (48 * s.iW u w : Int) ≤ 48 * (8 * s.rd (DS_CFG u) DS_CFG.I_TOL : Nat) + (8 * s.envelope u w envImax : Nat)) (hq : s.quietWindow u w = false)
    (hd : s.didtBreak u w (steps2 ((s.sh u w).lastPair.elim (s.pairCurrents u w edges) (fun x => x :: s.pairCurrents u w edges))) = false) :
    State.sameBut [] s (s.envelopeCheck u w edges) := by
  intro b _
  unfold State.envelopeCheck
  dsimp only
  rw [hd, hq]
  have hcur : ¬ ((8 * s.envelope u w envImax : Nat) : Int) + 48 * ((8 * s.rd (DS_CFG u) DS_CFG.I_TOL : Nat) : Int) < 48 * s.iW u w := by omega
  rw [if_neg hcur, if_neg Bool.false_ne_true, if_neg (fun h : false = true ∧ _ => Bool.false_ne_true h.1)]
  split <;> rfl

end

end Sys2Proof.Machine

/-! PROOFS. Gates: completion, release, timeout and FORCE (R195-R197, R203, R204). -/

namespace Sys2Proof.Machine

open Sys2Proof

section
variable {s x : State} {t u id : Nat}

/-- What a run over a list of distinct places brings to one of them, where every other place leaves it. -/
theorem each_once {α β : Type} (π : State → β) (f : State → α → State) {l : List α} {a : α} {b : β} (ha : a ∈ l) (hl : l.Nodup)
    (hother : ∀ u, ∀ c ∈ l, c ≠ a → π (f u c) = π u) (hat : ∀ u, π u = π s → π (f u a) = b) : π (s.each l f) = b := by
  obtain ⟨l1, l2, rfl⟩ := List.append_of_mem ha
  obtain ⟨_, hnd, hdis⟩ := List.nodup_append.mp hl
  have h1 : ∀ c ∈ l1, c ≠ a := fun c hc => hdis c hc a List.mem_cons_self
  have h2 : ∀ c ∈ l2, c ≠ a := fun c hc hca => (List.nodup_cons.mp hnd).1 (hca ▸ hc)
  have hsplit : s.each (l1 ++ a :: l2) f = (f (s.each l1 f) a).each l2 f := by
    rw [State.each, List.foldl_append]
    rfl
  rw [hsplit, each_mem_keeps π l2 f (fun v c hc => hother v c (by simp [hc]) (h2 c hc))]
  exact hat _ (each_mem_keeps π l1 f (fun v c hc => hother v c (by simp [hc]) (h1 c hc)) s)

/-! ### The gates of a slice -/

theorem setGate_gate (g : GateX) : (s.setGate t id g).gate t id = g := by
  rw [State.gate, State.setGate, updDs_same]
  exact tget_tset_self _ _ _ _

theorem updGate_gate (f : GateX → GateX) : (s.updGate t id f).gate t id = f (s.gate t id) := setGate_gate _

/-- The gates of a tile's slice. -/
def State.gatesOf (s : State) (u : Nat) : List (Nat × GateX) := (s.ds u).gates

theorem gate_of_gates (h : x.gatesOf u = s.gatesOf u) (i : Nat) : x.gate u i = s.gate u i := by
  have h : (x.ds u).gates = (s.ds u).gates := h
  rw [State.gate, State.gate, h]

theorem gatesOf_tiles (h : x.tiles = s.tiles) : x.gatesOf u = s.gatesOf u := by rw [State.gatesOf, State.gatesOf, ds_of_tiles h]

theorem ds_updDs_ne (f : SliceX → SliceX) (h : u ≠ t) : (s.updDs t f).ds u = s.ds u := by
  simp only [State.ds, State.updDs, State.updTile, tile_setTile, if_neg h]

theorem gatesOf_updDs (f : SliceX → SliceX) (h : ∀ d, (f d).gates = d.gates) : (s.updDs t f).gatesOf u = s.gatesOf u := by
  by_cases hu : u = t
  · subst hu; rw [State.gatesOf, updDs_same]; exact h _
  · rw [State.gatesOf, ds_updDs_ne f hu, State.gatesOf]

theorem charge_gates (l phys kind : Nat) (sh s1 : Bool) : (s.charge t l phys kind sh s1).gatesOf u = s.gatesOf u := by
  have honce (y : State) (seg pb : Nat) : (y.logOnce t l phys kind seg sh s1 pb).gatesOf u = y.gatesOf u := by
    unfold State.logOnce
    dsimp only
    split_ifs
    · rfl
    · exact (gatesOf_tiles (logBreach_tiles ..)).trans rfl
    · rfl
    · exact (gatesOf_tiles (logBreach_tiles ..)).trans (gatesOf_updDs _ fun _ => rfl)
  unfold State.charge
  dsimp only
  split
  · exact honce _ _ _
  · exact honce _ _ _

theorem updStream_gates (l : Nat) (f : Stream → Stream) : (s.updStream t l f).gatesOf u = s.gatesOf u := gatesOf_updDs _ fun _ => rfl

theorem capBreach_gates (l b decay : Nat) (ws : List Nat) : (s.capBreach t l b decay ws).gatesOf u = s.gatesOf u := by
  unfold State.capBreach
  dsimp only
  refine (each_keeps (fun v => v.gatesOf u) ws _ (fun v w => ?_) _).trans (updStream_gates _ _)
  exact each_keeps (fun v => v.gatesOf u) _ _ (fun v l => charge_gates ..) v

theorem runA_gates (l : Nat) : ∀ (n limit : Nat) (s : State), (State.runA n limit t l s).gatesOf u = s.gatesOf u := by
  intro n
  induction n with
  | zero => exact fun _ _ => rfl
  | succ n ih =>
    intro limit s
    rw [State.runA]
    dsimp only
    split
    · rfl
    split
    · split
      · exact (ih _ _).trans (updStream_gates _ _)
      · rfl
    split
    · exact (ih _ _).trans (updStream_gates _ _)
    · refine (ih _ _).trans ?_
      split
      · exact updStream_gates _ _
      · exact (capBreach_gates _ _ _ _).trans (updStream_gates _ _)
    · exact (ih _ _).trans (updStream_gates _ _)
    · exact (ih _ _).trans (updStream_gates _ _)
    · exact (ih _ _).trans ((updStream_gates _ _).trans (gatesOf_updDs _ fun _ => rfl))
    · exact (ih _ _).trans (updStream_gates _ _)
    · exact (ih _ _).trans (updStream_gates _ _)
    · split
      · exact (ih _ _).trans (updStream_gates _ _)
      · exact updStream_gates _ _
    · split
      · exact (ih _ _).trans (updStream_gates _ _)
      · exact updStream_gates _ _
    · exact (ih _ _).trans (updStream_gates _ _)

/-! ### A completed round (R184, R196) -/

/-- A gate whose round completes with its release beat. -/
def GateX.completed (g : GateX) (br : Nat) : GateX := { g with
  c0 := if g.par = 0 then 0 else g.c0
  c1 := if g.par = 0 then g.c1 else 0
  donePar := some g.par
  par := 1 - g.par
  rel := g.rel ++ [br]
  full := false
  reported := false
  forced := false }

theorem completeGate_gates (br : Nat) : (s.completeGate t id br).gatesOf u = (s.updGate t id (·.completed br)).gatesOf u := by
  unfold State.completeGate
  dsimp only
  exact each_keeps (fun v => v.gatesOf u) _ (fun v l => v.moveA t l) (fun v l => runA_gates l _ _ v) _

theorem completeGate_gate (br : Nat) : (s.completeGate t id br).gate t id = (s.gate t id).completed br :=
  (gate_of_gates (completeGate_gates br) id).trans (updGate_gate _)

theorem completeGate_other (br : Nat) (h : u ≠ t) (i : Nat) : (s.completeGate t id br).gate u i = s.gate u i := by
  refine (gate_of_gates (completeGate_gates br) i).trans (gate_of_gates ?_ i)
  rw [State.gatesOf, State.updGate, State.setGate, ds_updDs_ne _ h, State.gatesOf]

theorem bindOrders_tiles : (s.bindOrders t id).tiles = s.tiles := by
  have horder (v : State) (o : Order) (n : Nat) : (v.orderStatus o n).tiles = v.tiles := by
    unfold State.orderStatus
    split <;> rfl
  have hmap (v : State) (a b n : Nat) : (v.setMapState a b n).tiles = v.tiles := (congrArg State.tiles (setMapState_rest v a b n) :)
  refine each_keeps State.tiles _ (fun v o => v.bindOrder o id) (fun v o => ?_) s
  unfold State.bindOrder
  dsimp only
  exact (horder _ _ _).trans ((hmap _ _ _ _).trans (hmap _ _ _ _))

/-- GATE_COMPLETE of a tile-scoped gate, and a FORCE that came when its round was complete. -/
theorem gateComplete_tile (u id : Nat) (e : Entry) (s : State) (he : s.gateEntry u id = some e) (hh : s.holdsGate u id = true) (hw : waferScope e = false)
    (hf : s.roundFull u id = true) :
    ((s.gate u id).forced = true → ebits e 13 0 ≤ (s.gate u id).count → s.yields (.gateComplete u id) (fun t => (t.gate u id).late = true)) ∧
    s.yields (.gateComplete u id) (fun t => (t.gate u id).par = 1 - (s.gate u id).par ∧
      (t.gate u id).donePar = some (s.gate u id).par ∧
      (t.gate u id).rel = (s.gate u id).rel ++ [s.clk.beat + ebits e 18 15] ∧ (t.gate u id).forced = false) := by
  have hc : s.gateComplete u id = (((s.forceLate u id).bindOrders u id).completeGate u id (s.clk.beat + ebits e 18 15)).applyPlay u := by
    rw [State.gateComplete, he]
    exact if_pos (by rw [hh, hw, hf]; rfl)
  have hgate : (s.gateComplete u id).gate u id = ((s.forceLate u id).gate u id).completed (s.clk.beat + ebits e 18 15) := by
    rw [hc, gate_of_gates (gatesOf_tiles applyPlay_tiles), completeGate_gate, gate_of_gates (gatesOf_tiles bindOrders_tiles)]
  have hlate : (s.forceLate u id).gate u id = s.gate u id ∨ (s.forceLate u id).gate u id = { s.gate u id with forced := false, late := true } := by
    unfold State.forceLate
    split
    · exact .inr (updGate_gate _)
    · exact .inl rfl
  refine ⟨fun hforced hcount => ⟨s.gateComplete u id, rfl, ?_⟩, s.gateComplete u id, rfl, ?_⟩
  · dsimp only
    have hfl : s.forceLate u id = s.updGate u id (fun g => { g with forced := false, late := true }) := if_pos (by
      rw [hforced, he, Option.any_some, decide_eq_true hcount]; rfl)
    rw [hgate, hfl, updGate_gate]
    rfl
  · dsimp only
    rw [hgate]
    rcases hlate with h | h
    · rw [h]; exact ⟨rfl, rfl, rfl, rfl⟩
    · rw [h]; exact ⟨rfl, rfl, rfl, rfl⟩

/-- A FORCE in a STOPPED slice completes the round at every scope. -/
theorem gateComplete_stopped (u id : Nat) (e : Entry) (s : State) (he : s.gateEntry u id = some e) (hf : s.forceable u id = true) (hd : s.dsState u = dsStopped)
    (hforced : (s.gate u id).forced = true) : s.yields (.gateComplete u id) (fun t => (t.gate u id).par = 1 - (s.gate u id).par ∧
      (t.gate u id).rel = (s.gate u id).rel ++ [s.clk.beat + gapEff e]) := by
  have hc : s.gateComplete u id = (s.bindOrders u id).completeGate u id (s.clk.beat + gapEff e) := by
    have hno : s.holdsGate u id = false := by
      rw [State.holdsGate, hd]
      simp [dsStopped, dsPlaying]
    rw [State.gateComplete, he]
    dsimp only
    rw [hno, hf, hd, hforced]
    rfl
  refine ⟨s.gateComplete u id, rfl, ?_⟩
  dsimp only
  rw [hc, completeGate_gate, gate_of_gates (gatesOf_tiles bindOrders_tiles)]
  exact ⟨rfl, rfl⟩

/-! ### Wafer-scoped gates (R196) -/

theorem bindOrders_none (h : s.plan.orders = []) : s.bindOrders t id = s := by
  unfold State.bindOrders
  rw [h]
  rfl

/-- What a tile notes of its complete round touches its gates alone. -/
theorem fillRound_gates (h : s.plan.orders = []) : (s.fillRound t id).plan = s.plan ∧ (s.fillRound t id).fault = s.fault ∧ ∀ b, (s.fillRound t id).reg b = s.reg b := by
  have hlate : (s.forceLate t id).plan = s.plan ∧ (s.forceLate t id).fault = s.fault ∧ ∀ b, (s.forceLate t id).reg b = s.reg b := by
    unfold State.forceLate
    split
    · exact ⟨rfl, rfl, fun _ => rfl⟩
    · exact ⟨rfl, rfl, fun _ => rfl⟩
  unfold State.fillRound
  split
  · exact ⟨rfl, rfl, fun _ => rfl⟩
  · rw [bindOrders_none (by rw [hlate.1]; exact h)]
    exact hlate

/-- WAFER_GATE_REPORT. -/
theorem waferGate_reports (u id : Nat) (e : Entry) (s : State) (hq : s.quiet) (he : s.gateEntry u id = some e) (hh : s.holdsGate u id = true)
    (hw : waferScope e = true) (hf : s.roundFull u id = true) (hr : (s.gate u id).reported = false) (ho : s.plan.orders = []) :
    ∃ t, exec (.waferGateReport u id) s = .next t ∧ (t.gate u id).reported = true ∧ State.sameBut [] s t := by
  obtain ⟨hplan, hfault, hreg⟩ := fillRound_gates (t := u) (id := id) ho
  have hc : s.waferGateReport u id = (s.fillRound u id).updGate u id (fun g => { g with reported := true }) := by
    have hhold : (s.fillRound u id).orderHolds u id = false := by rw [State.orderHolds, hplan, ho]; rfl
    rw [State.waferGateReport, he]
    dsimp only
    rw [if_pos (by rw [hh, hw, hf, hr]; rfl), hhold]
    rfl
  generalize s.fillRound u id = y at hc hfault hreg
  have hnow : y.fault.now = [] := by rw [hfault]; exact hq
  refine ⟨_, done_quiet _ (by rw [hc]; exact hnow), ?_⟩
  rw [hc]
  exact ⟨congrArg GateX.reported (updGate_gate (fun g => { g with reported := true })), fun b _ => hreg b⟩

/-- WAFER_GATE_COMPLETE: the gate is released at one beat on every tile that takes part. -/
theorem waferGate_completes (u id : Nat) (s : State) (hu : u ∈ s.gateTiles id) (hr : ∀ v ∈ s.gateTiles id, (s.gate v id).reported = true)
    (hs : s.gateSync id = false) : s.yields (.waferGateComplete id) (fun t => (t.gate u id).par = 1 - (s.gate u id).par ∧ (t.gate u id).reported = false ∧
      (t.gate u id).rel = (s.gate u id).rel ++ [s.clk.beat + max (s.waferGap id) 4]) := by
  have hc : s.waferGateComplete id = s.completeAll id (s.clk.beat + max (s.waferGap id) 4) := by
    unfold State.waferGateComplete
    dsimp only
    rw [if_pos ⟨List.ne_nil_of_mem hu, List.all_eq_true.mpr hr⟩, hs]
    rfl
  have hgate : (s.completeAll id (s.clk.beat + max (s.waferGap id) 4)).gate u id = (s.gate u id).completed (s.clk.beat + max (s.waferGap id) 4) := by
    have hnd : (s.gateTiles id).Nodup := (List.nodup_range (n := s.tileCount)).filter _
    refine each_once (fun v => v.gate u id) (fun v t => (v.completeGate t id (s.clk.beat + max (s.waferGap id) 4)).applyPlay t) hu hnd (fun v t _ ht => ?_)
      (fun v hv => ?_)
    · exact (gate_of_gates (gatesOf_tiles applyPlay_tiles) id).trans (completeGate_other _ (Ne.symm ht) id)
    · refine ((gate_of_gates (gatesOf_tiles applyPlay_tiles) id).trans (completeGate_gate _)).trans ?_
      rw [hv]
  refine ⟨s.waferGateComplete id, rfl, ?_⟩
  dsimp only
  rw [hc, hgate]
  exact ⟨rfl, rfl, rfl⟩

/-! ### Release, timeout, FORCE (R172, R196, R197, R204) -/

theorem each_goOn (ls : List Nat) (hnd : ls.Nodup) (f : Stream → Stream) {l : Nat} (hl : l ∈ ls) :
    (s.each ls (fun v l => v.updStream t l f)).stream t l = f (s.stream t l) := by
  refine each_once (fun v => v.stream t l) (fun v l => v.updStream t l f) hl hnd (fun v j _ hj => updStream_ne f (Ne.symm hj)) (fun v hv => ?_)
  rw [updStream_same, hv]

/-- The streams that wait for the gate's next release. -/
def State.gateWaits (s : State) (t id : Nat) : List Nat := (List.range 14).filter (fun l => (s.stream t l).p.gate == some id &&
  ((s.stream t l).st == 3 && decide ((s.stream t l).p.passedOf id = (s.gate t id).released)))

/-- The gate counts its release, and P of each of those streams goes on. -/
def State.gateResumed (s : State) (t id : Nat) : State :=
  (s.setGate t id { s.gate t id with released := (s.gate t id).released + 1 }).each (s.gateWaits t id) (fun u l => u.updStream t l (·.goOn id))

theorem gateRelease_eq {br : Nat} (hd : s.dsState u = dsPlaying) (hrel : (s.gate u id).rel[(s.gate u id).released]? = some br)
    (hbr : br ≤ s.clk.beat) (ho : s.orderHolds u id = false) (hrest : (s.gateWaits u id).any (fun l => s.restBeat u l s.clk.beat) = false) :
    ∃ ks, s.gateRelease u id = ((s.gateResumed u id).updDs u (fun d => { d with pulsed := ks })).gateHeld u := by
  have hstop : (s.dsState u == dsStopped) = false := by rw [hd]; rfl
  have hrest' : (((List.range 14).filter (fun l => (s.stream u l).p.gate == some id && (if (false : Bool) = true then (s.stream u l).st == 5 else
      (s.stream u l).st == 3 && decide ((s.stream u l).p.passedOf id = (s.gate u id).released)))).any (fun l => s.restBeat u l s.clk.beat)) = false := hrest
  refine ⟨(List.range 96).filter (fun k => (s.logicalAt u k).any (fun lk => (logicalWells lk).any (fun l => (s.gateWaits u id).contains l))), ?_⟩
  unfold State.gateRelease
  dsimp only
  rw [hrel]
  dsimp only
  rw [hstop, hrest', ho, decide_eq_true hbr, hd]
  rfl

/-- GATE_RELEASE. -/
theorem gateRelease_resumes (u id br : Nat) (s : State) (hq : s.quiet) (hd : s.dsState u = dsPlaying) (hrel : (s.gate u id).rel[(s.gate u id).released]? = some br)
    (hbr : br ≤ s.clk.beat) (ho : s.orderHolds u id = false) (hrest : ∀ l, l < 14 → s.restBeat u l s.clk.beat = false) :
    ∃ t, exec (.gateRelease u id) s = .next t ∧ (t.gate u id).released = (s.gate u id).released + 1 ∧
      (∀ l, l < 14 → (s.stream u l).st = 3 → (s.stream u l).p.gate = some id → (s.stream u l).p.passedOf id = (s.gate u id).released →
        (t.stream u l).st = 2 ∧ (t.stream u l).p.gate = none ∧ (t.stream u l).p.pc = (s.stream u l).p.pc + 1) ∧
      State.sameBut [] s t := by
  have hlt : ∀ l ∈ s.gateWaits u id, l < 14 := fun l hl => List.mem_range.mp (List.mem_of_mem_filter hl)
  have hnd : (s.gateWaits u id).Nodup := List.nodup_range.filter _
  have hnorest : (s.gateWaits u id).any (fun l => s.restBeat u l s.clk.beat) = false :=
    List.any_eq_false.mpr fun l hl => by rw [hrest l (hlt l hl)]; exact Bool.false_ne_true
  obtain ⟨ks, he⟩ := gateRelease_eq hd hrel hbr ho hnorest
  have hreg (b : Nat) : (s.gateResumed u id).reg b = s.reg b := each_keeps (fun v => v.reg b) _ (fun v l => v.updStream u l (·.goOn id)) (fun _ _ => rfl) _
  have hfault : (s.gateResumed u id).fault = s.fault := each_keeps State.fault _ (fun v l => v.updStream u l (·.goOn id)) (fun _ _ => rfl) _
  have hgate : (s.gateResumed u id).gate u id = { s.gate u id with released := (s.gate u id).released + 1 } :=
    (gate_of_gates (each_keeps (fun v => v.gatesOf u) _ (fun v l => v.updStream u l (·.goOn id)) (fun v l => updStream_gates l _) _) id).trans (setGate_gate _)
  have hstream (l : Nat) (hl : l ∈ s.gateWaits u id) : (s.gateResumed u id).stream u l = (s.stream u l).goOn id := by
    refine (each_goOn _ hnd (·.goOn id) hl).trans ?_
    rw [State.stream, State.setGate, updDs_same]
    rfl
  generalize s.gateResumed u id = y at *
  have hds : (y.updDs u (fun d => { d with pulsed := ks })).gatesOf u = y.gatesOf u ∧ ((y.updDs u (fun d => { d with pulsed := ks })).ds u).streams = (y.ds u).streams := by
    refine ⟨gatesOf_updDs _ fun _ => rfl, ?_⟩
    rw [updDs_same]
  have hnow : y.fault.now = [] := by rw [hfault]; exact hq
  refine ⟨_, done_quiet _ (by rw [he, gateHeld_now]; exact hnow), ?_⟩
  rw [he]
  refine ⟨congrArg GateX.released ((gate_of_gates hds.1 id).trans hgate), fun l hl hst hg hp => ?_, fun b _ => hreg b⟩
  have hwait : l ∈ s.gateWaits u id := List.mem_filter.mpr ⟨List.mem_range.mpr hl, by rw [hst, hg, hp]; simp⟩
  have hx : ((y.updDs u (fun d => { d with pulsed := ks })).gateHeld u).stream u l = (s.stream u l).goOn id := (stream_of_ds hds.2 l).trans (hstream l hwait)
  rw [hx]
  exact ⟨rfl, rfl, rfl⟩

/-- GATE_TIMEOUT of a round that is complete, or completes at the next boundary. -/
theorem gateTimeout_late (u w id : Nat) (s : State) (hq : s.quiet) (hg : (s.stream u w).p.gate = some id) (hc : s.completes u id (s.stream u w) = true) :
    exec (.gateTimeout u w) s = .next s := by
  have he : s.gateTimeout u w = s := by
    rw [State.gateTimeout, hg]
    exact if_neg (by rw [hc]; simp)
  show done (s.gateTimeout u w) = _
  rw [he]
  exact done_quiet s hq

/-- GATE_TIMEOUT marks the gate; the stream waits on. -/
theorem gateTimeout_marks (u w id : Nat) (s : State) (hq : s.quiet) (hok : s.tileOk u = true) (hst : (s.stream u w).st = 3) (hg : (s.stream u w).p.gate = some id)
    (hc : s.completes u id (s.stream u w) = false) : ∃ t, exec (.gateTimeout u w) s = .next t ∧ (t.gate u id).tmo = true ∧ t.stream u w = s.stream u w ∧
      { src := 15, tile := u, well := w, sub := id } ∈ t.fault.held ∧ State.sameBut [] s t := by
  have he : s.gateTimeout u w = (s.updGate u id (fun g => { g with tmo := true })).holdPh { src := 15, tile := u, well := w, sub := id } := by
    rw [State.gateTimeout, hg]
    exact if_pos (by rw [hok, hst, hc]; rfl)
  have htiles (v : State) (r : Raise) : (v.holdPh r).tiles = v.tiles := by
    unfold State.holdPh
    split <;> rfl
  have hgate : (s.updGate u id (fun g => { g with tmo := true })).gate u id = { s.gate u id with tmo := true } := updGate_gate _
  have hstream : (s.updGate u id (fun g => { g with tmo := true })).stream u w = s.stream u w := by
    rw [State.stream, State.updGate, State.setGate, updDs_same]; rfl
  refine ⟨_, done_quiet _ (by rw [he, holdPh_now]; exact hq), ?_⟩
  rw [he]
  refine ⟨?_, ?_, holdPh_mem _, fun b _ => holdPh_reg _ _ b⟩
  · rw [gate_of_gates (gatesOf_tiles (htiles _ _)), hgate]
  · rw [stream_of_ds (congrArg SliceX.streams (ds_of_tiles (htiles _ _) u)), hstream]

theorem recordEvent_reg (x : State) (a : Nat) (d : Word) {b : Nat} (hb : b ∉ sideRegs) : (x.recordEvent a d).reg b = x.reg b :=
  record_plain_reg (ty := 9) 0 _ (by decide) (by decide) hb

theorem recordEvent_tiles (x : State) (a : Nat) (d : Word) : (x.recordEvent a d).tiles = x.tiles :=
  (congrArg State.tiles (record_plain_rest (s := x) (ty := 9) 0 [d, BitVec.ofNat 64 (a % 2 ^ 24)] (by decide) (by decide)) :)

/-- FORCE. -/
theorem force_forces (u : Nat) (d : Word) (s : State) (ht : s.takes (DS_GATE_CTRL u) d) (hf : DS_GATE_CTRL.FORCE.get d = 1)
    (hh : s.forceable u (DS_GATE_CTRL.SEL.get d) = true) : s.yieldsAnswered (.force u d) (DS_GATE_CTRL u) (fun t =>
      t.rd (DS_GATE_CTRL u) DS_GATE_CTRL.SEL = DS_GATE_CTRL.SEL.get d ∧ (t.gate u (DS_GATE_CTRL.SEL.get d)).forced = true) := by
  have hx : exec (.force u d) s = execForce u d s := rfl
  refine yieldsAnswered_of_takes (hx.trans (Eq.refl (hostOp s (DS_GATE_CTRL u) d (·.gateCtrlWrite u d)))) ht ?_
  generalize hid : DS_GATE_CTRL.SEL.get d = id at hh ⊢
  have hlt : id < 2 ^ DS_GATE_CTRL.SEL.width := by rw [← hid]; exact BitVec.isLt _
  have hsel : (s.wr (DS_GATE_CTRL u) DS_GATE_CTRL.SEL id).rd (DS_GATE_CTRL u) DS_GATE_CTRL.SEL = id := (rd_wr_same _ _ _ _ rfl).trans (Nat.mod_eq_of_lt hlt)
  have hforce : (s.wr (DS_GATE_CTRL u) DS_GATE_CTRL.SEL id).forceable u id = true := by
    rw [← hh]
    have hctrl : HD_TOPO ≠ DS_GATE_CTRL u ∧ DS_STAT u ≠ DS_GATE_CTRL u := by simp only [HD_TOPO, DS_GATE_CTRL, DS_STAT, phBase]; omega
    unfold State.forceable State.tileOk State.tileCount State.dsState
    rw [rd_wr_ne _ _ _ _ _ _ hctrl.1, rd_wr_ne _ _ _ _ _ _ hctrl.2]
    rfl
  have hside : DS_GATE_CTRL u ∉ sideRegs ∧ HD_TOPO ∉ sideRegs ∧ DS_STAT u ∉ sideRegs :=
    ⟨off_sideRegs (by simp only [DS_GATE_CTRL, phBase]; omega), by decide, off_sideRegs (by simp only [DS_STAT, phBase]; omega)⟩
  have hset : s.gateCtrlWrite u d = (if ((s.wr (DS_GATE_CTRL u) DS_GATE_CTRL.SEL id).recordEvent (DS_GATE_CTRL u) d).forceable u id then
      ((s.wr (DS_GATE_CTRL u) DS_GATE_CTRL.SEL id).recordEvent (DS_GATE_CTRL u) d).updGate u id (fun g => { g with
        forced := true, late := g.full && (((s.wr (DS_GATE_CTRL u) DS_GATE_CTRL.SEL id).recordEvent (DS_GATE_CTRL u) d).dsState u == dsPlaying) })
      else (s.wr (DS_GATE_CTRL u) DS_GATE_CTRL.SEL id).recordEvent (DS_GATE_CTRL u) d) := by
    rw [← hid]
    exact if_pos hf
  generalize s.wr (DS_GATE_CTRL u) DS_GATE_CTRL.SEL id = z at hsel hforce hset
  have hds : (z.recordEvent (DS_GATE_CTRL u) d).ds u = z.ds u := ds_of_tiles (recordEvent_tiles _ _ _) u
  have hforceable : (z.recordEvent (DS_GATE_CTRL u) d).forceable u id = true := by
    rw [← hforce]
    unfold State.forceable State.tileOk State.tileCount State.dsState State.gateEntry
    rw [rd_of_reg (recordEvent_reg z _ d hside.2.1), rd_of_reg (recordEvent_reg z _ d hside.2.2), hds]
  rw [if_pos hforceable] at hset
  have hsel' := (rd_of_reg (recordEvent_reg z (DS_GATE_CTRL u) d hside.1) DS_GATE_CTRL.SEL).trans hsel
  generalize z.recordEvent (DS_GATE_CTRL u) d = y at hset hsel'
  rw [hset]
  exact ⟨hsel', congrArg GateX.forced (updGate_gate (fun g => { g with forced := true, late := g.full && (y.dsState u == dsPlaying) }))⟩

/-- Settles O43: notices are posted, collected and counted, breaches logged, and gates completed, released and forced. -/
theorem gatesRelease : Obligations.GatesRelease := by
  unfold Obligations.GatesRelease
  refine ⟨noticePost_posts, fun u k n c m r s hk _ hc hp hnext => noticeCollect_acts u k n c m r s hk hc hp hnext,
    fun u k n c l lk id par m r s hk _ hc hp hnext hm h1 h2 hid hpar hlk hl => noticeCollect_branch u k n c l lk id par m r s hk hc hp hnext hm h1 h2 hid hpar hlk hl,
    fun u w l seg b dev s hc hw hd hh hr hn hl hlog hcnt hseg hb => holdAssert_charges u w l seg b dev s hc hw hd hh hr hn hl hlog hcnt hseg hb,
    fun u w l edges s hw hd hl hlive => ⟨envelopeCheck_logs u w l edges s hw hd hl hlive, envelopeCheck_passes u w edges s⟩,
    noticeCollect_waits, gateComplete_tile, gateComplete_stopped, waferGate_reports, waferGate_completes, gateRelease_resumes, gateTimeout_late,
    gateTimeout_marks, fun u d s _ ht hf hh => force_forces u d s ht hf hh⟩

end

end Sys2Proof.Machine

/-! PROOFS. O39, the short clauses: a wait counted, a ramp resumed, an overload, a capability event, the target and the tile's input current. -/

namespace Sys2Proof.Machine

open Sys2Proof

section
variable {s u : State} {t w : Nat}

/-! ### Admission and ramps (R154, R155) -/

/-- A core well that has not met its conditions at eight boundaries, or does not meet them now, is not let in. -/
theorem primeAdmit_waits (u w : Nat) (s : State) (hq : s.quiet) (hw : w < 12) (hsafe : s.safeWell u w = false)
    (h : (s.mo u w).admitRun < 8 ∨ s.primeHead u w < s.inrush u w ∨
      TopoCist.INRUSH.geti (s.cistWord u (w / 4)) < s.inrushUse u (w / 4) + s.inrush u w) : exec (.primeAdmit u w) s = .next s := by
  have hno : (decide (8 ≤ (s.mo u w).admitRun) && s.admits u w && s.admitFirst u w && s.admitGap u w) = false := by
    rcases h with h | h | h
    · rw [decide_eq_false (not_le.mpr h), Bool.false_and, Bool.false_and, Bool.false_and]
    all_goals
      have ha : s.admits u w = false := by simp [State.admits, Nat.not_le.mpr hw, h]
      rw [ha, Bool.and_false, Bool.false_and, Bool.false_and]
  have he : s.primeAdmit u w = s := by
    unfold State.primeAdmit
    rw [hsafe, Bool.and_false, hno, if_neg (by decide : ¬(false = true)), if_neg (by decide : ¬(false = true)), if_neg (Nat.not_le.mpr hw)]
    split_ifs <;> rfl
  exact (done_quiet _ (by rw [he]; exact hq) : exec (.primeAdmit u w) s = .next (s.primeAdmit u w)).trans (by rw [he])

theorem admits_iff (hw : w < 12) : s.admits t w = true ↔ s.inrush t w ≤ s.primeHead t w ∧
    s.inrushUse t (w / 4) + s.inrush t w ≤ TopoCist.INRUSH.geti (s.cistWord t (w / 4)) := by
  simp [State.admits, Nat.not_le.mpr hw]

/-- A boundary of a well that waits counts towards its admission, or starts the count anew. -/
theorem waitStep_counts (u w : Nat) (s : State) (hw : w < 12) (hone : s.tracks u w = true ∨ (s.mo u w).oneCheck = false) :
    ((s.waitStep u w).mo u w).admitRun = (if s.inrush u w ≤ s.primeHead u w ∧
      s.inrushUse u (w / 4) + s.inrush u w ≤ TopoCist.INRUSH.geti (s.cistWord u (w / 4)) then (s.mo u w).admitRun + 1 else 0) := by
  have hrun : (if s.admits u w then (s.mo u w).admitRun + 1 else 0) = (if s.inrush u w ≤ s.primeHead u w ∧
      s.inrushUse u (w / 4) + s.inrush u w ≤ TopoCist.INRUSH.geti (s.cistWord u (w / 4)) then (s.mo u w).admitRun + 1 else 0) :=
    if_congr (admits_iff hw) rfl rfl
  rw [← hrun]
  unfold State.waitStep
  dsimp only
  split
  next hwait =>
    rw [if_neg fun hc => by simp [hwait.2, hc.1] at hone]
    simp
  next => simp

/-- PRIME_RESUME: a paused ramp goes on after eight boundaries with headroom. -/
theorem primeResume_resumes (u w : Nat) (s : State) (hq : s.quiet) (hs : s.stage u w = stPriming)
    (hp : s.flag (WL_PROF_STAT u w) WL_PROF_STAT.PAUSED = true) (hr : 8 ≤ (s.mo u w).headRun) (hf : (s.mo u w).trkFail = false) :
    ∃ t, exec (.primeResume u w) s = .next t ∧ t.flag (WL_PROF_STAT u w) WL_PROF_STAT.PAUSED = false ∧ (t.mo u w).headRun = 0 ∧
      State.sameBut [WL_PROF_STAT u w] s t := by
  have he : s.primeResume u w = (s.wr (WL_PROF_STAT u w) WL_PROF_STAT.PAUSED 0).updMo u w (fun m => { m with headRun := 0 }) :=
    if_pos (by rw [hs, hp, hf, decide_eq_true hr]; rfl)
  refine ⟨_, done_quiet _ (by rw [he]; exact hq), ?_⟩
  rw [he]
  refine ⟨flag_wr_zero s (WL_PROF_STAT u w) WL_PROF_STAT.PAUSED rfl, congrArg Motion.headRun (updMo_same _ _ _ _), fun b hb => ?_⟩
  exact reg_wr_ne s _ b _ _ (fun h => hb (h ▸ List.mem_cons_self ..))

/-! ### The excess timer's end (R208) -/

/-- The protective rest that `setProtRest` decides on for a deficit's `r` (R208, R217, R229, R297). -/
def State.restWanted (s : State) (t w r : Nat) : Nat :=
  max r (max (if (s.sh t w).ovlRest then 15 else 0) (if s.flag (WL_CHK t w) WL_CHK.SENSE_OPEN && !s.emptied t w then 8 else 0))

/-- A decided rest: shown in PROT_REST, and reported. -/
def State.restSet (s : State) (t w v : Nat) : State :=
  ((s.wr (WL_TIE t w) WL_TIE.PROT_REST v).updSh t w (fun h => { h with pr := h.pr.decide v s.clk.beat })).capEvent t w

theorem setProtRest_eq (s : State) (t w r : Nat) :
    s.setProtRest t w r = if s.restWanted t w r = (s.sh t w).pr.want then s else s.restSet t w (s.restWanted t w r) := rfl

theorem restSet_rd (s : State) (t w v : Nat) (g : Fld) (hg : g.ok = true) (ha : WL_TIE.PROT_REST.apart g = true) :
    (s.restSet t w v).rd (WL_TIE t w) g = s.rd (WL_TIE t w) g := rd_wr_fld s (WL_TIE t w) _ _ _ v hg ha

theorem restSet_reg (s : State) (t w v : Nat) {b : Nat} (hb : b ≠ WL_TIE t w) : (s.restSet t w v).reg b = s.reg b := reg_wr_ne s _ b _ _ hb

theorem restSet_want (s : State) (t w v : Nat) : ((s.restSet t w v).sh t w).pr.want = v :=
  (congrArg (fun h : ShareX => h.pr.want) (updSh_same (s.wr (WL_TIE t w) WL_TIE.PROT_REST v) t w (fun h => { h with pr := h.pr.decide v s.clk.beat }))).trans
    (rest_decided _ _ _)

theorem setProtRest_off {r b : Nat} (hb : b ≠ WL_TIE t w) : (s.setProtRest t w r).reg b = s.reg b := by
  rw [setProtRest_eq]
  split
  · rfl
  · exact restSet_reg s t w _ hb

theorem setProtRest_rd {r : Nat} (g : Fld) (hg : g.ok = true) (ha : WL_TIE.PROT_REST.apart g = true) :
    (s.setProtRest t w r).rd (WL_TIE t w) g = s.rd (WL_TIE t w) g := by
  rw [setProtRest_eq]
  split
  · rfl
  · exact restSet_rd s t w _ g hg ha

/-- The mark that an overload leaves: OVERLOAD, the rest it asks for and its raise (R208). -/
def State.overloadMarked (s : State) (t w : Nat) : State :=
  ((s.wr (WL_TIE t w) WL_TIE.OVERLOAD 1).updSh t w (fun h => { h with ovlRest := true, windowClean := false })).raisePh { src := 16, tile := t, well := w }

theorem overloadMarked_sh (s : State) (t w : Nat) : (s.overloadMarked t w).sh t w = { s.sh t w with ovlRest := true, windowClean := false } :=
  (updSh_same (s.wr (WL_TIE t w) WL_TIE.OVERLOAD 1) t w (fun h => { h with ovlRest := true, windowClean := false })).trans rfl

theorem overloadMarked_fault (s : State) (t w : Nat) :
    (s.overloadMarked t w).fault = { s.fault with inflight := s.fault.inflight ++ [{ src := 16, tile := t, well := w }] } := rfl

/-- WELL_OVERLOAD. -/
theorem wellOverload_marks (u w : Nat) (s : State) (hq : s.quiet) (hv : s.voltedOk u w = true) (hr : (s.sh u w).ovlRest = false) (hk : 0 < s.khz u)
    (hx : 2000000 * s.khz u ≤ (s.sh u w).excess) (hw15 : (s.sh u w).pr.want < 15) : ∃ t, exec (.wellOverload u w) s = .next t ∧
      t.flag (WL_TIE u w) WL_TIE.OVERLOAD = true ∧ t.rd (WL_TIE u w) WL_TIE.PROT_REST = 15 ∧
      t.fault.inflight = s.fault.inflight ++ [{ src := 16, tile := u, well := w }] ∧ State.sameBut [WL_TIE u w] s t := by
  have he : s.wellOverload u w = (s.overloadMarked u w).setProtRest u w 15 :=
    if_pos (by rw [hv, hr, decide_eq_true hk, decide_eq_true hx]; rfl)
  have hflag : (s.overloadMarked u w).flag (WL_TIE u w) WL_TIE.OVERLOAD = true := flag_wr_one s (WL_TIE u w) WL_TIE.OVERLOAD rfl
  have hreg (b : Nat) (hb : b ≠ WL_TIE u w) : (s.overloadMarked u w).reg b = s.reg b := reg_wr_ne s _ b _ _ hb
  have hsh := overloadMarked_sh s u w
  have hfault := overloadMarked_fault s u w
  generalize s.overloadMarked u w = x at he hsh hfault hflag hreg
  have hrest : x.restWanted u w 15 = 15 := by
    unfold State.restWanted
    rw [hsh]
    split_ifs <;> rfl
  have hset : x.setProtRest u w 15 = x.restSet u w 15 := by
    rw [setProtRest_eq, hrest]
    have hwant : (x.sh u w).pr.want = (s.sh u w).pr.want := by rw [hsh]
    exact if_neg (by omega)
  rw [hset] at he
  refine ⟨_, done_quiet _ (by rw [he]; exact (congrArg FaultX.now hfault).trans hq), ?_⟩
  rw [he]
  refine ⟨?_, rd_wr_same x (WL_TIE u w) WL_TIE.PROT_REST 15 rfl, congrArg FaultX.inflight hfault, fun b hb => ?_⟩
  · unfold State.flag at hflag ⊢
    rw [restSet_rd _ _ _ _ _ rfl rfl]
    exact hflag
  · have hb' : b ≠ WL_TIE u w := fun h => hb (h ▸ List.mem_cons_self ..)
    exact (restSet_reg _ _ _ _ hb').trans (hreg b hb')

/-! ### Capability events (R33, R291) -/

/-- A capability event waits while the Wellhead sleeps. -/
theorem capabilityEvent_sleeps (n : Nat) (s : State) (hq : s.quiet) (hs : s.clk.fast = .sleep) : exec (.capabilityEvent n) s = .next s := by
  have he : s.capabilityEvent n = s := if_pos hs
  exact (done_quiet _ (by rw [he]; exact hq) : exec (.capabilityEvent n) s = .next (s.capabilityEvent n)).trans (by rw [he])

/-- A source raises a well's class to EVACUATE. -/
theorem raiseWell_evacuates (s : State) {t w src : Nat} (h : s.wellClass t w < 3) :
    s.raiseWell t w 3 src 0 = (s.wr (PL_WELL (16 * t + w)) PL_WELL.CLASS 3).wr (PL_WELL (16 * t + w)) PL_WELL.SOURCE src := by
  unfold State.raiseWell
  rw [if_neg (fun h => absurd h.1 (by decide))]
  exact if_pos h

theorem evacuated_working (x : State) {t w k : Nat} (hk : k ∈ fedClusters w) (hm : x.mapState t k ∈ [0, 4, 5]) : x.evacuated t w = x := by
  refine if_neg fun hc => ?_
  have hall := List.all_eq_true.mp ((Bool.and_eq_true_iff.mp hc).2) k hk
  simp only [List.mem_cons, List.not_mem_nil, or_false] at hm
  rcases hm with h | h | h <;> simp [h] at hall

/-- A capability event with an open sense makes its well EVACUATE. -/
theorem capabilityEvent_classes (n e : Nat) (s : State) (hq : s.quiet) (he : s.capEvents[n]? = some e) (hlt : e < 4096) (hw : e % 16 < 14)
    (htile : s.tileOk (e / 16) = true) (hd : s.flag (WL_TIE (e / 16) (e % 16)) WL_TIE.DEFICIT = false)
    (hcrack : s.flag (WL_CHK (e / 16) (e % 16)) WL_CHK.CRACK = false) (hopen : s.flag (WL_CHK (e / 16) (e % 16)) WL_CHK.SENSE_OPEN = true)
    (hcls : s.wellClass (e / 16) (e % 16) < 3) (hfast : s.clk.fast ≠ .sleep)
    (hwork : ∃ k ∈ fedClusters (e % 16), s.mapState (e / 16) k ∈ [0, 4, 5]) : ∃ t, exec (.capabilityEvent n) s = .next t ∧
      t.capEvents = s.capEvents.eraseIdx n ∧ t.wellClass (e / 16) (e % 16) = 3 ∧ State.sameBut [PL_WELL e] s t := by
  obtain ⟨k, hk, hmap⟩ := hwork
  have hplace : 16 * (e / 16) + e % 16 = e := Nat.div_add_mod e 16
  have hthere : s.restart.capEvents = s.capEvents ∧ (∀ b, s.restart.reg b = s.reg b) ∧ s.restart.fault = s.fault := by
    unfold State.restart
    split <;> exact ⟨rfl, fun _ => rfl, rfl⟩
  obtain ⟨hcap, hregs, hfault⟩ := hthere
  have hrun : s.capabilityEvent n = s.restart.takeEvent n := if_neg hfast
  generalize s.restart = x at hcap hregs hfault hrun
  have hrd (a : Nat) (f : Fld) : x.rd a f = s.rd a f := rd_of_reg (hregs a) f
  have hflag (a : Nat) (f : Fld) : x.flag a f = s.flag a f := flag_of_reg (hregs a) f
  have hcls' : ({ x with capEvents := x.capEvents.eraseIdx n } : State).wellClass (e / 16) (e % 16) < 3 := (hrd _ _).trans_lt hcls
  have hstay : ((({ x with capEvents := x.capEvents.eraseIdx n } : State).wr (PL_WELL e) PL_WELL.CLASS 3).wr (PL_WELL e) PL_WELL.SOURCE 3).mapState
      (e / 16) k = s.mapState (e / 16) k :=
    (rd_wr_fld _ _ _ PL_WELL.SOURCE PL_MAP.STATE 3 rfl rfl).trans ((rd_wr_fld _ _ _ PL_WELL.CLASS PL_MAP.STATE 3 rfl rfl).trans (hrd _ _))
  have hclass : ({ x with capEvents := x.capEvents.eraseIdx n } : State).eventClass (e / 16) (e % 16) false =
      (({ x with capEvents := x.capEvents.eraseIdx n } : State).wr (PL_WELL e) PL_WELL.CLASS 3).wr (PL_WELL e) PL_WELL.SOURCE 3 := by
    unfold State.eventClass
    dsimp only
    have h1 : ({ x with capEvents := x.capEvents.eraseIdx n } : State).flag (WL_CHK (e / 16) (e % 16)) WL_CHK.CRACK = false := (hflag _ _).trans hcrack
    have h2 : ({ x with capEvents := x.capEvents.eraseIdx n } : State).flag (WL_CHK (e / 16) (e % 16)) WL_CHK.SENSE_OPEN = true := (hflag _ _).trans hopen
    rw [h1, h2, if_neg (by decide : ¬(false = true)), if_neg (by decide : ¬(false = true)), if_pos rfl, raiseWell_evacuates _ hcls', hplace]
    unfold State.on
    split
    · exact evacuated_working _ hk (by rw [hstay]; exact hmap)
    · rfl
  have htake : x.takeEvent n = (({ x with capEvents := x.capEvents.eraseIdx n } : State).wr (PL_WELL e) PL_WELL.CLASS 3).wr (PL_WELL e) PL_WELL.SOURCE 3 := by
    unfold State.takeEvent
    have htile' : x.tileOk (e / 16) = true := by
      rw [← htile]
      unfold State.tileOk State.tileCount
      rw [hrd]
    rw [hcap, he]
    dsimp only
    rw [Nat.mod_eq_of_lt hlt, if_pos ⟨hw, htile'⟩, decide_eq_false (by omega), hcap.symm, hclass, if_neg (by rw [hflag, hd]; decide)]
  rw [htake] at hrun
  refine ⟨_, done_quiet _ (by rw [hrun]; exact (congrArg FaultX.now hfault).trans hq), ?_⟩
  rw [hrun]
  refine ⟨congrArg (fun l => List.eraseIdx l n) hcap, ?_, fun b hb => ?_⟩
  · unfold State.wellClass
    rw [hplace, rd_wr_fld _ _ _ _ _ _ rfl rfl]
    exact rd_wr_same _ _ _ _ rfl
  · have hb' : b ≠ PL_WELL e := fun h => hb (h ▸ List.mem_cons_self ..)
    exact (reg_wr_ne _ _ b _ _ hb').trans ((reg_wr_ne _ _ b _ _ hb').trans (hregs b))

/-! ### The target (R116) -/

theorem loadLine_vTgt (u w : Nat) (s : State) (hg : s.groupWells u w = [w]) : ((s.loadLine u w).mo u w).vTgt =
    s.vcmd u w - roundDiv ((s.rd (WL_OUTER u w) WL_OUTER.R_LL : Int) * s.iW u w * 128) 125 + (s.lp u w).vPre := by
  unfold State.loadLine
  rw [hg]
  exact congrArg Motion.vTgt (updMo_same _ _ _ _)

/-! ### The tile's input current (R29) -/

theorem overInputRest_reg (p16 : Int) {b : Nat} (hb : b ≠ CG_TILE t) : (s.overInputRest t p16).reg b = s.reg b :=
  (reg_setReg s (CG_TILE t) b _).trans (if_neg hb)

theorem tileInput_means (u : Nat) (s : State) : (s.tileInput u).rd (PH_TILE_CAP u) PH_TILE_CAP.INPUT_A =
    pattern 16 ((List.range 15).foldl (fun (x : Int) w => x + meanI (s.well u w).tel.inHist) 0) := by
  generalize ha : (List.range 15).foldl (fun (x : Int) w => x + meanI (s.well u w).tel.inHist) 0 = a
  have hne : PH_TILE_CAP u ≠ CG_TILE u := by simp only [PH_TILE_CAP, CG_TILE, phBase]; omega
  have hset : (s.wri (PH_TILE_CAP u) PH_TILE_CAP.INPUT_A a).rd (PH_TILE_CAP u) PH_TILE_CAP.INPUT_A = pattern 16 a := by
    rw [wri_eq]
    exact (rd_wr_same _ _ _ _ rfl).trans (Nat.mod_eq_of_lt (pattern_lt 16 a))
  rw [← hset]
  refine rd_of_reg ?_ _
  unfold State.tileInput
  dsimp only
  rw [ha]
  split_ifs
  · exact overInputRest_reg _ hne
  · exact overInputRest_reg _ hne
  · rfl
  · rfl

end

end Sys2Proof.Machine

/-! PROOFS. O39, what a pump's sense edges give at a boundary (R86, R88). -/

namespace Sys2Proof.Machine

open Sys2Proof

section
variable {s u : State} {t w p n : Nat}

/-- CURRENT as the boundary decodes it: 0 in a fault period, kept where the count is implausible (R86, R88). -/
def State.decodedCurrent (s : State) (t w p n : Nat) : Int :=
  if s.faultPeriod t w p then 0 else if s.implausible t w p n then s.current t w p
  else senseCurrent (s.khz t) (s.rd (PM_LINK t w p) PM_LINK.GAIN) w 1 ((256 * n : Nat) - (s.pumpOffset t w p : Nat) : Int)

/-- The edges that count in AVG64, newest first. -/
def State.decodedHist (s : State) (t w p n : Nat) : List Nat :=
  ((if s.faultPeriod t w p then s.pumpOffset t w p else 256 * n) :: (s.pump t w p).hist).take (max 1 (s.n64 t))

def State.decodedAvg (s : State) (t w p n : Nat) : Int :=
  senseCurrent (s.khz t) (s.rd (PM_LINK t w p) PM_LINK.GAIN) w (max 1 (s.n64 t))
    ((s.decodedHist t w p n).foldl (fun (a : Int) x => a + ((x : Int) - (s.pumpOffset t w p : Int))) 0)

/-- PM_ISNS as the boundary forms it. -/
def State.isnsFormed (s : State) (t w p n : Nat) : State :=
  ((s.wr (PM_ISNS t w p) PM_ISNS.COUNT (min n 0x3FF)).wri (PM_ISNS t w p) PM_ISNS.CURRENT (s.decodedCurrent t w p n)).wri (PM_ISNS t w p) PM_ISNS.AVG64
    (s.decodedAvg t w p n)

theorem decodePump_eq (s : State) (t w p n : Nat) : s.decodePump t w p n =
    (if s.implausible t w p n then (s.isnsFormed t w p n).wr (PM_STAT t w p) PM_STAT.IMPLAUSIBLE 1 else s.isnsFormed t w p n).updPump t w p (fun q => { q with
      hist := s.decodedHist t w p n
      faultPeriod := false
      wirePeriod := false
      impl := (if s.implausible t w p n then (s.sh t w).outerN :: q.impl else q.impl).filter (fun i => (s.sh t w).outerN < i + max 1 (s.n64 t)) }) := rfl

theorem stat_ne_isns (t w p : Nat) : PM_ISNS t w p ≠ PM_STAT t w p := by simp only [PM_ISNS, PM_STAT]; omega

theorem decodePump_isns (s : State) (t w p n : Nat) : (s.decodePump t w p n).reg (PM_ISNS t w p) = (s.isnsFormed t w p n).reg (PM_ISNS t w p) := by
  rw [decodePump_eq]
  split
  · exact reg_wr_ne _ _ _ _ _ (stat_ne_isns t w p)
  · rfl

theorem decodePump_reg (s : State) (t w p n : Nat) {b : Nat} (h1 : b ≠ PM_ISNS t w p) (h2 : b ≠ PM_STAT t w p) :
    (s.decodePump t w p n).reg b = s.reg b := by
  have hformed : (s.isnsFormed t w p n).reg b = s.reg b :=
    (wri_reg_ne _ _ b _ _ h1).trans ((wri_reg_ne _ _ b _ _ h1).trans (reg_wr_ne s _ b _ _ h1))
  rw [decodePump_eq, ← hformed]
  split
  · exact reg_wr_ne _ _ _ _ _ h2
  · rfl

theorem decodePump_hist (s : State) (t w p n : Nat) : ((s.decodePump t w p n).pump t w p).hist = s.decodedHist t w p n := by
  rw [decodePump_eq, updPump_same]

/-- What a signed field reads after a write of it: its pattern. -/
theorem rd_wri_same (x : State) (a : Nat) (f : Fld) (v : Int) (hf : f.ok = true) : (x.wri a f v).rd a f = pattern f.width v :=
  (rd_wr_same x a f _ hf).trans (Nat.mod_eq_of_lt (pattern_lt _ _))

theorem rd_wri_fld (x : State) (a : Nat) (f g : Fld) (v : Int) (hg : g.ok = true) (h : f.apart g = true) : (x.wri a f v).rd a g = x.rd a g :=
  rd_wr_fld x a a f g _ hg h

theorem decodePump_current (s : State) (t w p n : Nat) :
    (s.decodePump t w p n).rd (PM_ISNS t w p) PM_ISNS.CURRENT = pattern 16 (s.decodedCurrent t w p n) :=
  (rd_of_reg (decodePump_isns s t w p n) _).trans ((rd_wri_fld _ _ _ _ _ rfl rfl).trans (rd_wri_same _ _ _ _ rfl))

theorem decodePump_avg (s : State) (t w p n : Nat) :
    (s.decodePump t w p n).rd (PM_ISNS t w p) PM_ISNS.AVG64 = pattern 16 (s.decodedAvg t w p n) :=
  (rd_of_reg (decodePump_isns s t w p n) _).trans (rd_wri_same _ _ _ _ rfl)

theorem decodePump_count (s : State) (t w p n : Nat) : (s.decodePump t w p n).rd (PM_ISNS t w p) PM_ISNS.COUNT = min n 0x3FF := by
  refine (rd_of_reg (decodePump_isns s t w p n) _).trans ((rd_wri_fld _ _ _ _ _ rfl rfl).trans ((rd_wri_fld _ _ _ _ _ rfl rfl).trans
    ((rd_wr_same _ _ _ _ rfl).trans (Nat.mod_eq_of_lt ?_))))
  exact lt_of_le_of_lt (Nat.min_le_right _ _) (by decide)

theorem decodePump_sum (l : List Nat) (off : Nat) :
    l.foldl (fun (a : Int) x => a + ((x : Int) - (off : Int))) 0 = (l.map (fun e => (e : Int) - (off : Int))).sum := by
  rw [List.sum_eq_foldl, List.foldl_map]

theorem signed_range (k v : Nat) (hk : 0 < k) : -(2 ^ (k - 1) : Nat) ≤ signed k v ∧ signed k v < (2 ^ (k - 1) : Nat) := by
  obtain ⟨m, rfl⟩ : ∃ m, k = m + 1 := ⟨k - 1, by omega⟩
  have hlt := Nat.mod_lt v (show 0 < 2 ^ (m + 1) by positivity)
  rw [Nat.pow_succ] at hlt
  unfold signed
  rw [Nat.add_sub_cancel, Nat.pow_succ]
  split <;> omega

/-- What the count of a pump's edges gives at a boundary. -/
theorem decodePump_forms (u w p n : Nat) (s v : State) (hv : v = s.decodePump u w p n) (hn : s.khz u * 8 / 1000 ≠ 0) :
    v.rd (PM_ISNS u w p) PM_ISNS.COUNT = min n 0x3FF ∧ State.sameBut [PM_ISNS u w p, PM_STAT u w p] s v ∧
    (v.pump u w p).hist = ((if s.faultPeriod u w p = true then s.pumpOffset u w p else 256 * n) :: (s.pump u w p).hist).take (s.khz u * 8 / 1000) ∧
    v.rd (PM_ISNS u w p) PM_ISNS.AVG64 = pattern 16 (senseCurrent (s.khz u) (s.rd (PM_LINK u w p) PM_LINK.GAIN) w (s.khz u * 8 / 1000)
      (((v.pump u w p).hist.map (fun e => (e : Int) - (s.pumpOffset u w p : Int))).sum)) ∧
    (s.faultPeriod u w p = true → v.current u w p = 0) ∧
    (s.faultPeriod u w p = false → s.implausible u w p n = true → v.current u w p = s.current u w p ∧
      v.flag (PM_STAT u w p) PM_STAT.IMPLAUSIBLE = true) ∧
    (s.faultPeriod u w p = false → s.implausible u w p n = false → v.rd (PM_ISNS u w p) PM_ISNS.CURRENT = pattern 16
      (senseCurrent (s.khz u) (s.rd (PM_LINK u w p) PM_LINK.GAIN) w 1 ((256 * n : Nat) - (s.pumpOffset u w p : Nat) : Int))) := by
  subst hv
  have hmax : max 1 (s.n64 u) = s.khz u * 8 / 1000 := max_eq_right (Nat.one_le_iff_ne_zero.mpr hn)
  have hread (h : s.decodedCurrent u w p n = s.current u w p ∨ s.decodedCurrent u w p n = 0) :
      (s.decodePump u w p n).current u w p = s.decodedCurrent u w p n := by
    have hrange : -32768 ≤ s.decodedCurrent u w p n ∧ s.decodedCurrent u w p n < 32768 := by
      rcases h with h | h <;> rw [h]
      · exact signed_range 16 _ (by decide)
      · decide
    show signed 16 ((s.decodePump u w p n).rd (PM_ISNS u w p) PM_ISNS.CURRENT) = _
    rw [decodePump_current]
    exact signed_pattern 16 _ (by decide) hrange.1 hrange.2
  refine ⟨decodePump_count .., fun b hb => ?_, ?_, ?_, fun hf => ?_, fun hf hi => ⟨?_, ?_⟩, fun hf hi => ?_⟩
  · simp only [List.mem_cons, List.not_mem_nil, or_false, not_or] at hb
    exact decodePump_reg s u w p n hb.1 hb.2
  · rw [decodePump_hist, State.decodedHist, hmax]
  · rw [decodePump_avg, decodePump_hist, State.decodedAvg, decodePump_sum, hmax]
  · have hc : s.decodedCurrent u w p n = 0 := if_pos hf
    rw [hread (.inr hc), hc]
  · have hc : s.decodedCurrent u w p n = s.current u w p := by rw [State.decodedCurrent, hf, hi]; rfl
    rw [hread (.inl hc), hc]
  · rw [decodePump_eq, if_pos hi]
    exact flag_wr_one (s.isnsFormed u w p n) (PM_STAT u w p) PM_STAT.IMPLAUSIBLE rfl
  · rw [decodePump_current, State.decodedCurrent, hf, hi]
    rfl

end

end Sys2Proof.Machine

/-! PROOFS. O39, a park that takes too long, and the parts of an outer boundary in their order. -/

namespace Sys2Proof.Machine

open Sys2Proof

section
variable {s u : State} {t w : Nat}

theorem untie_mo (v n x : Nat) : (s.untie t v n).mo t x = s.mo t x := by
  unfold State.untie
  dsimp only
  split_ifs
  · exact updSh_mo ..
  · split
    · exact updSh_mo ..
    · exact updSh_mo ..
  · rfl

theorem openTies_mo (v x : Nat) : (s.openTies t v).mo t x = s.mo t x := by
  unfold State.openTies
  split_ifs
  · refine each_keeps (fun u => u.mo t x) _ (fun u n => if u.tieOn t n then u.openTie t n else u) (fun u n => ?_) s
    split_ifs
    · exact (untie_mo ..).trans (untie_mo ..)
    · rfl
  · rfl

theorem penLow_mo (p x : Nat) : (s.penLow t w p).mo t x = s.mo t x := by
  unfold State.penLow
  dsimp only
  split_ifs <;> rfl

/-- With no tie closed at the well nothing opens. -/
theorem openTies_none (h : 12 ≤ w ∨ ∀ n ∈ wellTies w, s.tieOn t n = false) : s.openTies t w = s := by
  unfold State.openTies
  split_ifs with hw
  · have hoff := h.resolve_left (Nat.not_le.mpr hw)
    exact each_holds (fun u => u = s) (fun u n => if u.tieOn t n then u.openTie t n else u)
      (fun u n hn hu => by rw [hu, hoff n hn, if_neg (by decide)]) s rfl
  · rfl

theorem dropWell_mo : (s.dropWell t w).mo t w = { s.mo t w with dropPend := s.stage t w != stDry } := by
  unfold State.dropWell
  refine (updMo_same _ t w (fun m => { m with dropPend := s.stage t w != stDry })).trans ?_
  rw [openTies_mo, each_keeps (fun u => u.mo t w) _ (fun u p => u.penLow t w p) (fun u p => penLow_mo p w) s]

theorem parkTimeout_drops (u w p : Nat) (s : State) (hq : s.quiet) (hv : s.voltedOk u w = true) (hs : s.stage u w = stPark)
    (hd : (s.mo u w).dropPend = false) (hp : p < s.installed u w) : ∃ t, exec (.parkTimeout u w) s = .next t ∧
      t.flag (PM_LINK u w p) PM_LINK.PEN = false ∧ t.inService u w p = false ∧ (t.mo u w).dropPend = true ∧ (t.mo u w).parkTimedOut = true ∧
      ((12 ≤ w ∨ ∀ n ∈ wellTies w, s.tieOn u n = false) →
        State.sameBut ((List.range 4).flatMap (fun q => [PM_LINK u w q, PM_STAT u w q])) s t) := by
  have he : s.parkTimeout u w = (s.updMo u w (fun m => { m with parkTimedOut := true })).dropWell u w :=
    if_pos (by rw [hv, hs, hd]; rfl)
  have hmo := dropWell_mo (s := s.updMo u w (fun m => { m with parkTimedOut := true })) (t := u) (w := w)
  rw [updMo_same] at hmo
  have hout := dropWell_out (s := s.updMo u w (fun m => { m with parkTimedOut := true })) (t := u) ((voltedOk_iff s u w).mp hv).2 hp
  refine ⟨_, done_quiet _ (by rw [he, dropWell_fault]; exact hq), ?_⟩
  rw [he, hmo]
  refine ⟨hout.1, hout.2, ?_, rfl, fun hoff b hb => ?_⟩
  · have hst : (s.updMo u w (fun m => { m with parkTimedOut := true })).stage u w = stPark := hs
    rw [hst]
    rfl
  · have hkeep (q : Nat) (hq4 : q < 4) : b ≠ PM_LINK u w q ∧ b ≠ PM_STAT u w q := by
      have hnot := fun h => hb (List.mem_flatMap.mpr ⟨q, List.mem_range.mpr hq4, h⟩)
      simp only [List.mem_cons, List.not_mem_nil, or_false] at hnot
      exact not_or.mp hnot
    have hpens {a : Nat} (ha : ∀ q, q < 4 → a ≠ PM_LINK u w q ∧ a ≠ PM_STAT u w q) (x : State) :
        (x.each (x.pumpsOf u w) (fun v q => v.penLow u w q)).reg a = x.reg a :=
      each_mem_keeps (fun v => v.reg a) _ (fun v q => v.penLow u w q)
        (fun v q hmem => penLow_reg v u w q a (ha q (pumpsOf_lt x hmem)).1 (ha q (pumpsOf_lt x hmem)).2) x
    have htie (q : Nat) (_ : q < 4) : PH_TIE u ≠ PM_LINK u w q ∧ PH_TIE u ≠ PM_STAT u w q := by
      simp only [PH_TIE, PM_LINK, PM_STAT, wlBase]; omega
    unfold State.dropWell
    generalize hx : s.updMo u w (fun m => { m with parkTimedOut := true }) = x
    have hregs (a : Nat) : x.reg a = s.reg a := by rw [← hx]; rfl
    have hstill : 12 ≤ w ∨ ∀ n ∈ wellTies w, (x.each (x.pumpsOf u w) (fun v q => v.penLow u w q)).tieOn u n = false :=
      hoff.imp_right fun h n hn => by
        rw [← h n hn]
        unfold State.tieOn
        rw [rd_of_reg ((hpens htie x).trans (hregs _))]
    rw [openTies_none hstill]
    exact (hpens hkeep x).trans (hregs b)

/-- An outer boundary runs its parts in their order. -/
theorem outerEvaluation_parts (u w : Nat) (edges : List (List Nat)) (s a b c d : State) (hok : s.wellOk u w = true)
    (hawake : w = 14 ∨ s.rd (PH_PWR u) PH_PWR.STATE ≠ 1) (ha : a = (s.boundaryPeriod u w edges).boundaryFirst u w)
    (hb : b = (if a.wet u w = true then ((a.boundaryChecks u w).boundaryLoad u w).boundaryVolt u w else a.boundaryDry u w))
    (hc : c = b.boundaryTest u w) (hd : d = (if w < 14 then (c.primeStep u w).trackStep u w else c)) :
    exec (.outerEvaluation u w edges) s = .next (((d.tileInput u).lowPower u).dormant u).settle := by
  subst ha hb hc hd
  have he : s.outerEvaluation u w edges = _ := if_pos (by rw [hok]; simpa using hawake)
  exact congrArg (fun x : State => Host.Outcome.next x.settle) he

end

end Sys2Proof.Machine

/-! PROOFS. O39, the capability that a boundary forms (R23-R32). -/

namespace Sys2Proof.Machine

open Sys2Proof

/-! ### WL_CAP's word -/

/-- WL_CAP of a wet well, field by field (R26). -/
def wetWord (x : Word) (d st foll live fall rise : Nat) (k c : Int) : Word :=
  WL_CAP.CONT.seti (WL_CAP.PEAK.seti (WL_CAP.RISE.set (WL_CAP.FALL.set (WL_CAP.LIVE.set (WL_CAP.FOLLOW.set
    (WL_CAP.STATE.set (WL_CAP.DERATED.set x d) st) foll) live) fall) rise) k) c

section
variable (x : Word) (d st foll live fall rise : Nat) (k c : Int)

theorem wetWord_cont : WL_CAP.CONT.get (wetWord x d st foll live fall rise k c) = pattern 16 c :=
  (Fld.get_set _ _ _ rfl).trans (Nat.mod_eq_of_lt (pattern_lt _ _))

theorem wetWord_rise : WL_CAP.RISE.get (wetWord x d st foll live fall rise k c) = rise % 2 ^ 8 :=
  (Fld.get_set_ne _ _ _ _ rfl rfl).trans ((Fld.get_set_ne _ _ _ _ rfl rfl).trans (Fld.get_set _ _ _ rfl))

theorem wetWord_fall : WL_CAP.FALL.get (wetWord x d st foll live fall rise k c) = fall % 2 ^ 8 :=
  (Fld.get_set_ne _ _ _ _ rfl rfl).trans ((Fld.get_set_ne _ _ _ _ rfl rfl).trans ((Fld.get_set_ne _ _ _ _ rfl rfl).trans (Fld.get_set _ _ _ rfl)))

theorem wetWord_live : WL_CAP.LIVE.get (wetWord x d st foll live fall rise k c) = live % 2 ^ 4 :=
  (Fld.get_set_ne _ _ _ _ rfl rfl).trans ((Fld.get_set_ne _ _ _ _ rfl rfl).trans ((Fld.get_set_ne _ _ _ _ rfl rfl).trans
    ((Fld.get_set_ne _ _ _ _ rfl rfl).trans (Fld.get_set _ _ _ rfl))))

theorem wetWord_follow : WL_CAP.FOLLOW.get (wetWord x d st foll live fall rise k c) = foll % 2 ^ 4 :=
  (Fld.get_set_ne _ _ _ _ rfl rfl).trans ((Fld.get_set_ne _ _ _ _ rfl rfl).trans ((Fld.get_set_ne _ _ _ _ rfl rfl).trans
    ((Fld.get_set_ne _ _ _ _ rfl rfl).trans ((Fld.get_set_ne _ _ _ _ rfl rfl).trans (Fld.get_set _ _ _ rfl)))))

theorem wetWord_state : WL_CAP.STATE.get (wetWord x d st foll live fall rise k c) = st % 2 ^ 2 :=
  (Fld.get_set_ne _ _ _ _ rfl rfl).trans ((Fld.get_set_ne _ _ _ _ rfl rfl).trans ((Fld.get_set_ne _ _ _ _ rfl rfl).trans
    ((Fld.get_set_ne _ _ _ _ rfl rfl).trans ((Fld.get_set_ne _ _ _ _ rfl rfl).trans ((Fld.get_set_ne _ _ _ _ rfl rfl).trans (Fld.get_set _ _ _ rfl))))))

/-- WL_CAP of a DRY well holds no figure. -/
theorem dryWord_get (g : Fld) (hg : g.ok = true) (ha : WL_CAP.DERATED.apart g = true) : g.get (WL_CAP.DERATED.set 0 d) = 0 :=
  (Fld.get_set_ne _ _ _ _ hg ha).trans (by simp [Fld.get])

end

section
variable {s : State} {t w : Nat} {free : Bool}

/-- CONT and PEAK as a boundary forms them stay below the sum of the contributions, and above every bound of the limits. -/
theorem capBy_le (v : Int) (l : List (Option Int)) : capBy v l ≤ v := by
  induction l generalizing v with
  | nil => exact le_refl v
  | cons o l ih =>
    refine le_trans (ih _) ?_
    cases o with
    | none => exact le_refl v
    | some y => exact min_le_left v y

theorem le_capBy {lo : Int} (v : Int) (l : List (Option Int)) (hv : lo ≤ v) (hl : ∀ y, some y ∈ l → lo ≤ y) : lo ≤ capBy v l := by
  induction l generalizing v with
  | nil => exact hv
  | cons o l ih =>
    refine ih _ ?_ fun y hy => hl y (List.mem_cons_of_mem _ hy)
    cases o with
    | none => exact hv
    | some y => exact le_min hv (hl y List.mem_cons_self)

/-! ### The limits that stand (R27, R143) -/

theorem hystLimit_bound {y : Int} (h : s.hystLimit t w = some y) : 0 ≤ y := by
  unfold State.hystLimit at h
  split at h
  · rw [← Option.some.inj h]
    exact Int.natCast_nonneg _
  · cases h

theorem leastLimit_bound {a b : Option Int} {lo y : Int} (ha : ∀ z, a = some z → lo ≤ z) (hb : ∀ z, b = some z → lo ≤ z)
    (h : leastLimit a b = some y) : lo ≤ y := by
  cases a with
  | none => exact hb y h
  | some p =>
    cases b with
    | none => exact ha y h
    | some q =>
      rw [← Option.some.inj h]
      exact le_min (ha p rfl) (hb q rfl)

theorem limitNow_bound {y : Int} (h : s.limitNow t w = some y) : -32768 ≤ y := by
  refine leastLimit_bound (fun z hz => ?_) (fun z hz => leastLimit_bound (fun z hz => ?_) (fun z hz => ?_) hz) h
  · unfold State.mapLimit at hz
    dsimp only at hz
    split at hz
    · rw [← Option.some.inj hz]
      exact (signed_range 16 _ (by decide)).1
    · cases hz
  · unfold State.hostLimit at hz
    dsimp only at hz
    split at hz
    · cases hz
    next hpos =>
      rw [← Option.some.inj hz]
      omega
  · unfold State.localLimit at hz
    dsimp only at hz
    split at hz
    · rw [← Option.some.inj hz]
      omega
    · cases hz

/-! ### The contributions in force (R32) -/

/-- What a boundary takes over of a pump's contribution: a rise in voltage mode, and a returned pump's, wait. -/
def State.shareTaken (s : State) (t w p : Nat) (free : Bool) : Nat :=
  if (!free && (s.stage t w == stVolt)) || (s.pump t w p).rises then min (s.pump t w p).capIn (s.pumpShare t w p) else s.pumpShare t w p

theorem takeCaps_rest (s : State) (t w : Nat) (free : Bool) : { s.takeCaps t w free with wells := s.wells, pumps := s.pumps } = s := by
  have hpump (x : State) (p : Nat) (f : PumpX → PumpX) : ({ x.updPump t w p f with wells := s.wells, pumps := s.pumps } : State) =
      { x with wells := s.wells, pumps := s.pumps } := rfl
  exact each_keeps (fun u : State => ({ u with wells := s.wells, pumps := s.pumps } : State)) _ (fun u p => u.updPump t w p (fun q => { q with
    capIn := if (!free && (s.stage t w == stVolt)) || q.rises then min q.capIn (s.pumpShare t w p) else s.pumpShare t w p })) (fun u p => hpump u p _) s

theorem takeCaps_capIn {p : Nat} (hp : p < s.installed t w) : ((s.takeCaps t w free).pump t w p).capIn = s.shareTaken t w p free := by
  have hp4 := lt_of_lt_of_le hp (installed_le s t w)
  refine each_range_brings (fun u => u.pump t w p = s.pump t w p) (fun u => (u.pump t w p).capIn = s.shareTaken t w p free)
    (fun u p => u.updPump t w p (fun q => { q with
      capIn := if (!free && (s.stage t w == stVolt)) || q.rises then min q.capIn (s.pumpShare t w p) else s.pumpShare t w p }))
    hp (fun u hu => ?_) (fun u q _ hq hu => ?_) (fun u q _ hq hu => ?_) s rfl
  · rw [updPump_same, hu]
    rfl
  all_goals
    rw [updPump_ne _ _ _ _ _ _ _ _ (by omega)]
    exact hu

theorem takeCaps_limIn (s : State) (t w : Nat) (free : Bool) : ((s.takeCaps t w free).sh t w).limIn =
    (if !free && (s.stage t w == stVolt) then leastLimit (s.sh t w).limIn (s.limitNow t w) else s.limitNow t w) := by
  have hsh : (s.each (s.pumpsOf t w) (fun u p => u.updPump t w p (fun q => { q with
      capIn := if (!free && (s.stage t w == stVolt)) || q.rises then min q.capIn (s.pumpShare t w p) else s.pumpShare t w p }))).sh t w = s.sh t w :=
    each_keeps (fun u => u.sh t w) _ (fun u p => u.updPump t w p _) (fun _ _ => rfl) s
  unfold State.takeCaps
  dsimp only
  rw [updSh_same]
  dsimp only
  rw [hsh]

theorem takeCaps_iW (v : Nat) : (s.takeCaps t w free).iW t v = s.iW t v := by
  unfold State.iW State.takeCaps
  dsimp only
  rw [updSh_lp, each_keeps (fun u => u.lp t v) _ (fun u p => u.updPump t w p _) (fun _ _ => rfl) s]

/-! ### What the recomputation leaves -/

theorem recompute_rest (s : State) (t w : Nat) (free : Bool) :
    { s.recompute t w free with regs := s.regs, capEvents := s.capEvents } = { s.takeCaps t w free with regs := s.regs, capEvents := s.capEvents } := by
  unfold State.recompute
  dsimp only
  split_ifs <;> rfl

theorem recompute_cap (s : State) (t w : Nat) (free : Bool) : (s.recompute t w free).reg (WL_CAP t w) = (s.takeCaps t w free).capWord t w := by
  have hset (y : Word) : ((s.takeCaps t w free).setReg (WL_CAP t w) y).reg (WL_CAP t w) = y := by rw [reg_setReg, if_pos rfl]
  have hview (y : Word) (hw : w < 12) : (((s.takeCaps t w free).setReg (WL_CAP t w) y).cistView t (w / 4)).reg (WL_CAP t w) = y :=
    (cistView_reg _ _ _ _ (by simp only [WL_CAP, PH_CIST, wlBase]; omega)).trans (hset y)
  unfold State.recompute
  dsimp only
  split_ifs with h1 h2 h2
  · exact hview _ h2
  · exact hset _
  · exact hview _ h2
  · exact hset _

/-- PH_CIST of a core well's cistern is formed on the state with the new WL_CAP. -/
theorem recompute_cist (hw : w < 12) (b : Nat) : (s.recompute t w free).reg b =
    (((s.takeCaps t w free).setReg (WL_CAP t w) ((s.takeCaps t w free).capWord t w)).cistView t (w / 4)).reg b := by
  unfold State.recompute
  dsimp only
  rw [if_pos hw]
  split_ifs <;> rfl

/-! ### What the recomputation forms -/

/-- A function of the registers and the image alone is the same after the contributions are taken. -/
theorem takeCaps_sees {β : Type} (f : State → β) (h : ∀ (x : State) (a : List (Nat × WellX)) (b : List (Nat × PumpX)), f { x with wells := a, pumps := b } = f x)
    (s : State) (t w : Nat) (free : Bool) : f (s.takeCaps t w free) = f s := by
  rw [← h (s.takeCaps t w free) s.wells s.pumps, takeCaps_rest]

theorem capWord_dry (h : s.wet t w = false) : s.capWord t w = WL_CAP.DERATED.set 0 (b2n (s.derated t w)) := if_pos h

theorem capWord_wet (h : s.wet t w = true) : s.capWord t w = wetWord (s.reg (WL_CAP t w)) (b2n (s.derated t w)) (s.wellState t w)
    ((s.pumpsOf t w).filter (fun p => s.service t w p == 2)).length ((s.pumpsOf t w).filter (fun p => s.service t w p == 1)).length
    (s.slew t w).2 (s.slew t w).1 (s.capNow t w).2 (s.capNow t w).1 := if_neg (by rw [h]; decide)

theorem takeCaps_wet : (s.takeCaps t w free).wet t w = s.wet t w := takeCaps_sees (·.wet t w) (fun _ _ _ => rfl) s t w free

theorem filter_pumps_lt (f : Nat → Bool) : ((s.pumpsOf t w).filter f).length < 16 := by
  have h1 := List.length_filter_le f (s.pumpsOf t w)
  have h2 : (s.pumpsOf t w).length = s.installed t w := List.length_range
  have h3 := installed_le s t w
  omega

theorem wellState_lt : s.wellState t w < 4 := by
  unfold State.wellState
  dsimp only
  split_ifs <;> decide

theorem slew_lt : (s.slew t w).1 < 256 ∧ (s.slew t w).2 < 256 := by
  unfold State.slew
  dsimp only
  split_ifs
  · decide
  · exact ⟨lt_of_le_of_lt (min_le_left _ _) (by decide), lt_of_le_of_lt (min_le_left _ _) (by decide)⟩

theorem recompute_dry (h : s.wet t w = false) : (s.recompute t w free).cont t w = 0 ∧ (s.recompute t w free).peak t w = 0 ∧
    (s.recompute t w free).rd (WL_CAP t w) WL_CAP.STATE = 0 := by
  have hreg := (recompute_cap s t w free).trans (capWord_dry (takeCaps_wet.trans h))
  have hget (g : Fld) (hg : g.ok = true) (ha : WL_CAP.DERATED.apart g = true) : (s.recompute t w free).rd (WL_CAP t w) g = 0 := by
    unfold State.rd
    rw [hreg]
    exact dryWord_get _ g hg ha
  exact ⟨congrArg (signed 16) (hget WL_CAP.CONT rfl rfl), congrArg (signed 16) (hget WL_CAP.PEAK rfl rfl), hget WL_CAP.STATE rfl rfl⟩

theorem recompute_wet (h : s.wet t w = true) : (s.recompute t w free).rd (WL_CAP t w) WL_CAP.STATE = s.wellState t w ∧
    (s.recompute t w free).rd (WL_CAP t w) WL_CAP.RISE = (s.slew t w).1 ∧ (s.recompute t w free).rd (WL_CAP t w) WL_CAP.FALL = (s.slew t w).2 ∧
    (s.recompute t w free).rd (WL_CAP t w) WL_CAP.LIVE = ((s.pumpsOf t w).filter (fun p => s.service t w p == 1)).length ∧
    (s.recompute t w free).rd (WL_CAP t w) WL_CAP.FOLLOW = ((s.pumpsOf t w).filter (fun p => s.service t w p == 2)).length := by
  have hreg := (recompute_cap s t w free).trans (capWord_wet (takeCaps_wet.trans h))
  rw [takeCaps_sees (·.wellState t w) (fun _ _ _ => rfl), takeCaps_sees (·.slew t w) (fun _ _ _ => rfl),
    takeCaps_sees (fun x => ((x.pumpsOf t w).filter (fun p => x.service t w p == 2)).length) (fun _ _ _ => rfl),
    takeCaps_sees (fun x => ((x.pumpsOf t w).filter (fun p => x.service t w p == 1)).length) (fun _ _ _ => rfl)] at hreg
  unfold State.rd
  rw [hreg]
  exact ⟨(wetWord_state ..).trans (Nat.mod_eq_of_lt wellState_lt), (wetWord_rise ..).trans (Nat.mod_eq_of_lt slew_lt.1),
    (wetWord_fall ..).trans (Nat.mod_eq_of_lt slew_lt.2), (wetWord_live ..).trans (Nat.mod_eq_of_lt (filter_pumps_lt _)),
    (wetWord_follow ..).trans (Nat.mod_eq_of_lt (filter_pumps_lt _))⟩

/-! ### CONT (R27, R32) -/

theorem pumpShare_le (p : Nat) : s.pumpShare t w p ≤ 16 := by
  unfold State.pumpShare
  split <;> omega

theorem foldl_add_le (l : List Nat) (f : Nat → Nat) (b m : Nat) (h : ∀ p ∈ l, f p ≤ m) : l.foldl (fun n p => n + f p) b ≤ b + l.length * m := by
  induction l generalizing b with
  | nil => simp
  | cons p l ih =>
    have h1 := ih (b + f p) fun q hq => h q (List.mem_cons_of_mem _ hq)
    have h2 := h p List.mem_cons_self
    simp only [List.foldl_cons, List.length_cons, Nat.add_mul]
    omega

theorem pumpSum_le : s.pumpSum t w 1152 ≤ 4608 := by
  have hone (p : Nat) (_ : p ∈ s.pumpsOf t w) : s.pumpCap t w p 1152 ≤ 1152 := by
    have := pumpShare_le (s := s) (t := t) (w := w) p
    unfold State.pumpCap
    omega
  have hlen : (s.pumpsOf t w).length = s.installed t w := List.length_range
  have h := foldl_add_le (s.pumpsOf t w) (fun p => s.pumpCap t w p 1152) 0 1152 hone
  have h4 := installed_le s t w
  unfold State.pumpSum
  omega

/-- Where no rise waits, the contributions in force are the present ones. -/
theorem takeCaps_sum (hfree : free = true ∨ s.stage t w ≠ stVolt) (hr : ∀ p, p < 4 → (s.pump t w p).rises = false) :
    (s.takeCaps t w free).sumIn t w 1152 = s.pumpSum t w 1152 := by
  have hhold : (!free && (s.stage t w == stVolt)) = false := by
    rcases hfree with h | h
    · rw [h]; rfl
    · rw [beq_false_of_ne h, Bool.and_false]
  unfold State.sumIn State.pumpSum
  rw [takeCaps_sees (·.pumpsOf t w) (fun _ _ _ => rfl)]
  refine List.foldl_ext _ _ _ fun n p hp => ?_
  have hlt := List.mem_range.mp hp
  rw [takeCaps_capIn hlt, State.shareTaken, hhold, hr p (lt_of_lt_of_le hlt (installed_le s t w))]
  rfl

theorem recompute_cont (h : s.wet t w = true) (hfree : free = true ∨ s.stage t w ≠ stVolt) (hr : ∀ p, p < 4 → (s.pump t w p).rises = false) :
    (s.recompute t w free).cont t w = capBy (s.pumpSum t w 1152) [s.limitNow t w, s.hystLimit t w] := by
  have hhold : (!free && (s.stage t w == stVolt)) = false := by
    rcases hfree with h | h
    · rw [h]; rfl
    · rw [beq_false_of_ne h, Bool.and_false]
  have hcap : ((s.takeCaps t w free).capNow t w).1 = capBy (s.pumpSum t w 1152) [s.limitNow t w, s.hystLimit t w] := by
    unfold State.capNow
    dsimp only
    rw [takeCaps_sum hfree hr, takeCaps_limIn, hhold, takeCaps_sees (·.hystLimit t w) (fun _ _ _ => rfl)]
    rfl
  have hreg := (recompute_cap s t w free).trans (capWord_wet (takeCaps_wet.trans h))
  rw [hcap] at hreg
  have hsum : ((s.pumpSum t w 1152 : Nat) : Int) ≤ 4608 := by exact_mod_cast pumpSum_le
  have hlow : -32768 ≤ capBy (s.pumpSum t w 1152) [s.limitNow t w, s.hystLimit t w] := by
    refine le_capBy _ _ (by omega) fun y hy => ?_
    simp only [List.mem_cons, List.not_mem_nil, or_false] at hy
    rcases hy with hy | hy
    · exact limitNow_bound hy.symm
    · have := hystLimit_bound hy.symm
      omega
  have hhigh := capBy_le (s.pumpSum t w 1152) [s.limitNow t w, s.hystLimit t w]
  show signed 16 ((s.recompute t w free).rd (WL_CAP t w) WL_CAP.CONT) = _
  unfold State.rd
  rw [hreg, wetWord_cont]
  exact signed_pattern 16 _ (by decide) hlow (lt_of_le_of_lt (le_trans hhigh hsum) (by decide))

/-! ### The cistern (R31) -/

theorem recompute_sum (hw : w < 12) : (s.recompute t w free).rd (PH_CIST t (w / 4)) PH_CIST.SUM = pattern 16 (s.cistSum t (w / 4)) ∧
    (s.recompute t w free).rd (PH_CIST t (w / 4)) PH_CIST.HEADROOM = pattern 16 (min (s.cistLimit t (w / 4) - s.cistSum t (w / 4))
      ((cistWells (w / 4)).foldl (fun a j => a + ((s.recompute t w free).cont t j - s.iW t j)) 0)) := by
  generalize hz : (s.takeCaps t w free).setReg (WL_CAP t w) ((s.takeCaps t w free).capWord t w) = z
  have hreg (b : Nat) : (s.recompute t w free).reg b = (z.cistView t (w / 4)).reg b := by rw [← hz]; exact recompute_cist hw b
  have hiW (j : Nat) : z.iW t j = s.iW t j := by rw [← hz]; exact takeCaps_iW j
  have hsum : z.cistSum t (w / 4) = s.cistSum t (w / 4) := by
    unfold State.cistSum
    simp only [hiW]
  have hlim : z.cistLimit t (w / 4) = s.cistLimit t (w / 4) := by
    rw [← hz]
    exact takeCaps_sees (·.cistLimit t (w / 4)) (fun _ _ _ => rfl) s t w free
  have hcont (j : Nat) (hj : j < 16) : (s.recompute t w free).cont t j = z.cont t j := by
    show signed 16 ((s.recompute t w free).rd (WL_CAP t j) WL_CAP.CONT) = _
    rw [rd_of_reg ((hreg _).trans (cistView_reg _ _ _ _ (by simp only [WL_CAP, PH_CIST, wlBase]; omega)))]
    rfl
  have hroom : (cistWells (w / 4)).foldl (fun a j => a + ((s.recompute t w free).cont t j - s.iW t j)) 0 =
      (cistWells (w / 4)).foldl (fun a j => a + (z.cont t j - z.iW t j)) 0 := by
    refine List.foldl_ext _ _ _ fun a j hj => ?_
    have hj16 : j < 16 := by
      simp only [cistWells, List.mem_cons, List.not_mem_nil, or_false] at hj
      omega
    rw [hcont j hj16, hiW]
  rw [rd_of_reg (hreg _), rd_of_reg (hreg _), hroom, ← hsum, ← hlim]
  exact ⟨(rd_wri_fld _ _ _ _ _ rfl rfl).trans (rd_wri_same _ _ _ _ rfl), rd_wri_same _ _ _ _ rfl⟩

/-- The capability that a boundary forms. -/
theorem recompute_forms (u w : Nat) (free : Bool) (s v : State) (hv : v = s.recompute u w free) :
    (s.wet u w = false → v.cont u w = 0 ∧ v.peak u w = 0 ∧ v.rd (WL_CAP u w) WL_CAP.STATE = 0) ∧
    (s.wet u w = true → v.rd (WL_CAP u w) WL_CAP.STATE = s.wellState u w ∧ v.rd (WL_CAP u w) WL_CAP.RISE = (s.slew u w).1 ∧
      v.rd (WL_CAP u w) WL_CAP.FALL = (s.slew u w).2 ∧
      v.rd (WL_CAP u w) WL_CAP.LIVE = ((s.pumpsOf u w).filter (fun p => s.service u w p == 1)).length ∧
      v.rd (WL_CAP u w) WL_CAP.FOLLOW = ((s.pumpsOf u w).filter (fun p => s.service u w p == 2)).length) ∧
    (s.wet u w = true → free = true ∨ s.stage u w ≠ stVolt → (∀ p, p < 4 → (s.pump u w p).rises = false) →
      v.cont u w = capBy (s.pumpSum u w 1152) [s.limitNow u w, s.hystLimit u w]) ∧
    (free = false → s.stage u w = stVolt → (v.sh u w).limIn = leastLimit (s.sh u w).limIn (s.limitNow u w) ∧
      ∀ p, p < s.installed u w → (v.pump u w p).capIn = min (s.pump u w p).capIn (s.pumpShare u w p)) ∧
    (w < 12 → v.rd (PH_CIST u (w / 4)) PH_CIST.SUM = pattern 16 (s.cistSum u (w / 4)) ∧
      v.rd (PH_CIST u (w / 4)) PH_CIST.HEADROOM = pattern 16 (min (s.cistLimit u (w / 4) - s.cistSum u (w / 4))
        ((cistWells (w / 4)).foldl (fun a j => a + (v.cont u j - s.iW u j)) 0))) ∧
    State.sameBut [WL_CAP u w, PH_CIST u (w / 4)] s v := by
  subst hv
  refine ⟨recompute_dry, recompute_wet, recompute_cont, fun hfree hst => ?_, recompute_sum, fun b hb => ?_⟩
  · have hhold : (!free && (s.stage u w == stVolt)) = true := by rw [hfree, hst]; rfl
    have hsh : (s.recompute u w free).sh u w = (s.takeCaps u w free).sh u w := (congrArg (fun x : State => x.sh u w) (recompute_rest s u w free) :)
    refine ⟨by rw [hsh, takeCaps_limIn, hhold]; rfl, fun p hp => ?_⟩
    have hpump : (s.recompute u w free).pump u w p = (s.takeCaps u w free).pump u w p :=
      (congrArg (fun x : State => x.pump u w p) (recompute_rest s u w free) :)
    rw [hpump, takeCaps_capIn hp, State.shareTaken, hhold]
    rfl
  · simp only [List.mem_cons, List.not_mem_nil, or_false] at hb
    exact recompute_reg s u w free b (not_or.mp hb).1 (not_or.mp hb).2

end

end Sys2Proof.Machine

/-! PROOFS. O39, the trims of a well's own sharing group (R118, R206). -/

namespace Sys2Proof.Machine

open Sys2Proof

section
variable {s z : State} {t w : Nat}

/-- A state in which only the well's trims, and registers that no share reads, have moved. -/
structure TrimsMoved (t w : Nat) (s z : State) : Prop where
  reg : ∀ b, b ≠ WL_SHARE t w → z.reg b = s.reg b
  rest : s.onlyRegs z

theorem zeroTrims_moved (s : State) (t w : Nat) : TrimsMoved t w s (s.zeroTrims t w) where
  reg b hb := by
    refine each_keeps (fun u => u.reg b) _ (fun (u : State) p =>
      if (u.service t w p == 1) || (u.pump t w p).inTest then u else u.wri (WL_SHARE t w) (shareFld p) 0) (fun u p => ?_) s
    split
    · rfl
    · exact wri_reg_ne u _ _ _ _ hb
  rest := zeroTrims_rest

variable (h : TrimsMoved t w s z)
include h

theorem TrimsMoved.rd {b : Nat} (hb : b ≠ WL_SHARE t w) (f : Fld) : z.rd b f = s.rd b f := rd_of_reg (h.reg b hb) f

theorem TrimsMoved.tie (v : Nat) (f : Fld) : z.rd (WL_TIE t v) f = s.rd (WL_TIE t v) f :=
  h.rd (by simp only [WL_TIE, WL_SHARE, wlBase]; omega) f

theorem TrimsMoved.pump (p : Nat) : z.pump t w p = s.pump t w p := (congrArg (fun x : State => x.pump t w p) h.rest :)

theorem TrimsMoved.pumpsOf : z.pumpsOf t w = s.pumpsOf t w := (congrArg (fun x : State => x.pumpsOf t w) h.rest :)

theorem TrimsMoved.unloading : z.unloading t w = s.unloading t w := by
  unfold State.unloading State.tied
  rw [h.tie, h.tie]

theorem TrimsMoved.groupWells : z.groupWells t w = s.groupWells t w := by
  unfold State.groupWells State.tied
  have hcist (c : Nat) (hc : c < 16) : z.rd (PH_CIST t c) PH_CIST.TIES = s.rd (PH_CIST t c) PH_CIST.TIES :=
    h.rd (by simp only [PH_CIST, WL_SHARE, wlBase]; omega) _
  rw [h.tie, h.tie]
  split
  next hw =>
    have hf : (wellTies w).filter (fun n => bit (z.rd (PH_CIST t (n / 4)) PH_CIST.TIES) (n % 4)) =
        (wellTies w).filter (fun n => bit (s.rd (PH_CIST t (n / 4)) PH_CIST.TIES) (n % 4)) :=
      List.filter_congr fun n hn => by rw [hcist _ (by have := wellTies_lt hw.1 hn; omega)]
    rw [hf]
  next hw => rfl

theorem TrimsMoved.current (p : Nat) : z.current t w p = s.current t w p :=
  congrArg (fun d => PM_ISNS.CURRENT.geti d) (h.reg _ (by simp only [PM_ISNS, WL_SHARE]; omega))

theorem TrimsMoved.avg64 (p : Nat) : z.avg64 t w p = s.avg64 t w p :=
  congrArg (fun d => PM_ISNS.AVG64.geti d) (h.reg _ (by simp only [PM_ISNS, WL_SHARE]; omega))

theorem TrimsMoved.outer (f : Fld) : z.rd (WL_OUTER t w) f = s.rd (WL_OUTER t w) f := h.rd (by simp only [WL_OUTER, WL_SHARE]; omega) f

theorem TrimsMoved.ovlLim : z.ovlLim t w = s.ovlLim t w := by
  unfold State.ovlLim
  rw [h.rd (by simp only [WL_FRULE0, WL_SHARE]; omega)]

omit h

/-- The pumps that share a well's current: LIVE, not held, not in a test step (R118, R233). -/
def State.sharers (s : State) (t w : Nat) : List Nat :=
  (s.pumpsOf t w).filter (fun p => s.service t w p == 1 && !(s.pump t w p).pwmHeld && !(s.pump t w p).inTest)

theorem sharers_lt {p : Nat} (hp : p ∈ s.sharers t w) : p < 4 := pumpsOf_lt s (List.mem_filter.mp hp).1

theorem TrimsMoved.sharers (h : TrimsMoved t w s z) : z.sharers t w = s.sharers t w := by
  unfold State.sharers
  rw [h.pumpsOf]
  refine List.filter_congr fun p hp => ?_
  unfold State.service
  rw [h.pump, h.rd (by simp only [PM_STAT, WL_SHARE]; omega)]

theorem livePumps_one (s : State) (t w : Nat) : s.livePumps t [w] = (s.sharers t w).map (fun p => (w, p)) := by
  simp [State.livePumps, State.sharers]

/-- The trim of a sharer before it is centred. -/
def State.rawTrim (s z : State) (t w p : Nat) : Int :=
  z.trim t w p + shareErr (s.rd (WL_OUTER t w) WL_OUTER.K_SH) (s.sharers t w).length
    ((s.sharers t w).foldl (fun (a : Int) q => a + s.current t w q) 0) (s.current t w p) (s.avg64 t w p) (s.ovlLim t w)

/-- The raw trims of a well that shares alone. -/
theorem TrimsMoved.rawTrims (h : TrimsMoved t w s z) : z.rawTrims t w (z.livePumps t [w]) (z.sumCurrent t (z.livePumps t [w])) =
    (s.sharers t w).map (fun p => ((w, p), s.rawTrim z t w p)) := by
  have hsum : z.sumCurrent t (z.livePumps t [w]) = (s.sharers t w).foldl (fun (a : Int) q => a + s.current t w q) 0 := by
    unfold State.sumCurrent
    rw [livePumps_one, h.sharers, List.foldl_map]
    exact List.foldl_ext _ _ _ fun a q _ => by rw [h.current q]
  rw [hsum, livePumps_one, h.sharers]
  unfold State.rawTrims
  rw [List.map_map, List.length_map]
  refine List.map_congr_left fun p _ => ?_
  unfold State.rawTrim
  dsimp only [Function.comp]
  rw [h.outer, h.current p, h.avg64 p, h.ovlLim]

/-- A well that shares alone centres its own raw trims. -/
theorem share_alone (hg : s.groupWells t w = [w]) (hu : s.unloading t w = false)
    (hrole : ¬(s.rd (WL_TIE t w) WL_TIE.ROLE = 2 ∧ 2 ≤ s.rd (WL_TIE t w) WL_TIE.PHASE)) :
    s.share t w = (s.zeroTrims t w).centre t w ((s.sharers t w).map (fun p => ((w, p), s.rawTrim (s.zeroTrims t w) t w p))) := by
  have h := zeroTrims_moved s t w
  unfold State.share
  dsimp only
  rw [← h.rawTrims]
  generalize s.zeroTrims t w = z at h ⊢
  rw [if_neg (by rw [h.tie, h.tie]; exact hrole), h.groupWells, hg, h.unloading, hu]
  split <;> rfl

/-- The value that a sharer's trim takes: its raw trim, centred and clamped. -/
def State.centredTrim (s z : State) (t w p : Nat) : Int :=
  clampI (-(s.rd (WL_OUTER t w) WL_OUTER.SH_LIM : Int)) (s.rd (WL_OUTER t w) WL_OUTER.SH_LIM)
    (s.rawTrim z t w p - meanI ((s.sharers t w).map (s.rawTrim z t w)))

/-- The write of one centred trim. -/
def State.trimWritten (s z : State) (t w : Nat) (u : State) (e : (Nat × Nat) × Int) : State :=
  u.wri (WL_SHARE t e.1.1) (shareFld e.1.2) (clampI (-(s.rd (WL_OUTER t w) WL_OUTER.SH_LIM : Int)) (s.rd (WL_OUTER t w) WL_OUTER.SH_LIM)
    (e.2 - meanI ((s.sharers t w).map (s.rawTrim z t w))))

theorem TrimsMoved.centre (h : TrimsMoved t w s z) : z.centre t w ((s.sharers t w).map (fun p => ((w, p), s.rawTrim z t w p))) =
    z.each ((s.sharers t w).map (fun p => ((w, p), s.rawTrim z t w p))) (s.trimWritten z t w) := by
  unfold State.centre
  dsimp only
  rw [h.outer, List.map_map]
  rfl

theorem clampTrim_range (n : Nat) (hn : n < 256) (v : Int) : -32768 ≤ clampI (-(n : Int)) n v ∧ clampI (-(n : Int)) n v < 32768 := by
  unfold clampI
  omega

/-- A written trim reads back. -/
theorem trim_written {p : Nat} (hp : p < 4) (x : State) (v : Int) (h1 : -32768 ≤ v) (h2 : v < 32768) :
    (x.wri (WL_SHARE t w) (shareFld p) v).trim t w p = v := by
  have hwid : (shareFld p).width = 16 := by simp only [shareFld, Fld.width]; omega
  exact rdi_wri_same _ _ _ (shareFld_ok p hp).1 (shareFld_ok p hp).2 (by rw [hwid]; exact h1) (by rw [hwid]; exact h2)

theorem trimWritten_own {p : Nat} (hp : p < 4) (u : State) : (s.trimWritten z t w u ((w, p), s.rawTrim z t w p)).trim t w p = s.centredTrim z t w p := by
  have hr := clampTrim_range (s.rd (WL_OUTER t w) WL_OUTER.SH_LIM) (rd_lt s _ _) (s.rawTrim z t w p - meanI ((s.sharers t w).map (s.rawTrim z t w)))
  exact trim_written hp u _ hr.1 hr.2

theorem trimWritten_other {p q : Nat} (hp : p < 4) (hq : q < 4) (hqp : q ≠ p) (u : State) (v : Int) :
    (s.trimWritten z t w u ((w, q), v)).trim t w p = u.trim t w p := trim_other hp hq (fun _ => hqp) _

theorem TrimsMoved.sharer_trim (h : TrimsMoved t w s z) {p : Nat} (hp : p ∈ s.sharers t w) :
    (z.centre t w ((s.sharers t w).map (fun p => ((w, p), s.rawTrim z t w p)))).trim t w p = s.centredTrim z t w p := by
  rw [h.centre]
  have hp4 := sharers_lt hp
  refine each_list_brings (fun _ => True) (fun u => u.trim t w p = s.centredTrim z t w p) (s.trimWritten z t w)
    (fun u _ => trimWritten_own hp4 u) (fun _ _ _ _ => trivial) (fun u e he _ hu => ?_) (List.mem_map.mpr ⟨p, hp, rfl⟩) z trivial
  obtain ⟨q, hq, rfl⟩ := List.mem_map.mp he
  by_cases hqp : q = p
  · subst hqp
    exact trimWritten_own hp4 u
  · exact (trimWritten_other hp4 (sharers_lt hq) hqp u _).trans hu

theorem share_forms (u w : Nat) (s z : State) (g : List Nat) (raw : Nat → Int) (hgw : s.groupWells u w = [w]) (hu : s.unloading u w = false)
    (hrole : ¬(s.rd (WL_TIE u w) WL_TIE.ROLE = 2 ∧ 2 ≤ s.rd (WL_TIE u w) WL_TIE.PHASE)) (hz : z = s.zeroTrims u w) (hg : g = s.sharers u w)
    (hraw : raw = s.rawTrim z u w) :
    (∀ p ∈ g, (s.share u w).trim u w p = clampI (-(s.rd (WL_OUTER u w) WL_OUTER.SH_LIM : Int)) (s.rd (WL_OUTER u w) WL_OUTER.SH_LIM)
      (raw p - meanI (g.map raw))) ∧
    (∀ p, p < s.installed u w → s.service u w p ≠ 1 → (s.pump u w p).inTest = false → (s.share u w).trim u w p = 0) ∧
    State.sameBut [WL_SHARE u w] s (s.share u w) := by
  subst hz hg hraw
  have h := zeroTrims_moved s u w
  rw [share_alone hgw hu hrole]
  refine ⟨fun p hp => h.sharer_trim hp, fun p hp hs ht => ?_, fun b hb => ?_⟩
  · rw [← zeroTrims_trim hp hs ht, h.centre]
    refine each_mem_keeps (fun x => x.trim u w p) _ (s.trimWritten (s.zeroTrims u w) u w) (fun x e he => ?_) _
    obtain ⟨q, hq, rfl⟩ := List.mem_map.mp he
    refine trimWritten_other (lt_of_lt_of_le hp (installed_le s u w)) (sharers_lt hq) (fun hqp => ?_) x _
    subst hqp
    have hlive := (List.mem_filter.mp hq).2
    simp only [Bool.and_eq_true, beq_iff_eq] at hlive
    exact hs hlive.1.1
  · have hb' : b ≠ WL_SHARE u w := fun e => hb (e ▸ List.mem_cons_self ..)
    rw [← h.reg b hb', h.centre]
    refine each_mem_keeps (fun x => x.reg b) _ (s.trimWritten (s.zeroTrims u w) u w) (fun x e he => ?_) _
    obtain ⟨q, -, rfl⟩ := List.mem_map.mp he
    exact wri_reg_ne x _ _ _ _ hb'

end

end Sys2Proof.Machine

/-! PROOFS. O39, what a deficit's reaction at a boundary sees of the loads (R207, R210, R217). -/

namespace Sys2Proof.Machine

open Sys2Proof

/-- What marks a deficit and its cover leaves: everything but DEFICIT and COVER of the well, its quiet flags and the events on their way. -/
structure LoadKept (t w : Nat) (s x : State) : Prop where
  reg : ∀ b, b ≠ WL_TIE t w → x.reg b = s.reg b
  fld : ∀ b g, g.ok = true → WL_TIE.DEFICIT.apart g = true → WL_TIE.COVER.apart g = true → x.rd b g = s.rd b g
  sh : ∀ v, ∃ a b, x.sh t v = { s.sh t v with winQuiet := a, quietWin := b }
  mo : ∀ v, x.mo t v = s.mo t v
  lp : ∀ v, x.lp t v = s.lp t v
  te : ∀ v, x.te t v = s.te t v
  img : x.img = s.img
  fuses : x.fuses = s.fuses
  fault : x.fault = s.fault

namespace LoadKept

section
variable {s x : State} {t w : Nat}

/-- The quiet flags alone move in the well's sharing state. -/
theorem sh_updQuiet (s : State) (t w v : Nat) : ∃ a b, (s.updSh t w (fun h => { h with winQuiet := false, quietWin := false })).sh t v =
    { s.sh t v with winQuiet := a, quietWin := b } := by
  by_cases hv : v = w
  · subst hv
    exact ⟨false, false, updSh_same ..⟩
  · exact ⟨_, _, updSh_ne _ hv⟩

theorem updSh_te (s : State) (t w v : Nat) (f : ShareX → ShareX) : (s.updSh t w f).te t v = s.te t v := by
  by_cases hv : v = w
  · subst hv
    simp [State.updSh, State.te]
  · simp [State.updSh, State.te, hv]

theorem marked (s : State) (t w : Nat) (d : Bool) : LoadKept t w s (s.wrb (WL_TIE t w) WL_TIE.DEFICIT d) where
  reg b hb := reg_wr_ne s _ b _ _ hb
  fld b g hg h _ := rd_wr_fld s _ b _ g _ hg h
  sh _ := ⟨_, _, rfl⟩
  mo _ := rfl
  lp _ := rfl
  te _ := rfl
  img := rfl
  fuses := rfl
  fault := rfl

variable (h : LoadKept t w s x)
include h

theorem quieted : LoadKept t w s (x.updSh t w (fun h => { h with winQuiet := false, quietWin := false })) where
  reg := h.reg
  fld := h.fld
  sh v := by
    obtain ⟨a, b, hab⟩ := h.sh v
    obtain ⟨c, d, hcd⟩ := sh_updQuiet x t w v
    exact ⟨c, d, by rw [hcd, hab]⟩
  mo v := (updSh_mo ..).trans (h.mo v)
  lp v := (updSh_lp ..).trans (h.lp v)
  te v := (updSh_te ..).trans (h.te v)
  img := h.img
  fuses := h.fuses
  fault := h.fault

theorem told : LoadKept t w s (x.capEvent t w) := ⟨h.reg, h.fld, h.sh, h.mo, h.lp, h.te, h.img, h.fuses, h.fault⟩

theorem covered (c : Int) : LoadKept t w s (x.wri (WL_TIE t w) WL_TIE.COVER c) where
  reg b hb := (wri_reg_ne x _ b _ c hb).trans (h.reg b hb)
  fld b g hg h1 h2 := (rd_wr_fld x _ b _ g _ hg h2).trans (h.fld b g hg h1 h2)
  sh := h.sh
  mo := h.mo
  lp := h.lp
  te := h.te
  img := h.img
  fuses := h.fuses
  fault := h.fault

/-! ### Loads and capability -/

theorem tiePart (v : Nat) (g : Fld) (hg : g.ok = true) (h1 : WL_TIE.DEFICIT.apart g = true) (h2 : WL_TIE.COVER.apart g = true) :
    x.rd (WL_TIE t v) g = s.rd (WL_TIE t v) g := h.fld _ g hg h1 h2

theorem tied (v : Nat) : x.tied t v = s.tied t v := by
  unfold State.tied
  rw [h.tiePart v WL_TIE.PARTNER rfl rfl rfl]

theorem avgI (v : Nat) : x.avgI t v = s.avgI t v := by
  obtain ⟨a, b, hab⟩ := h.sh v
  unfold State.avgI
  rw [hab]

theorem loadF (v : Nat) : x.loadF t v = s.loadF t v := by
  obtain ⟨a, b, hab⟩ := h.sh v
  unfold State.loadF
  rw [h.avgI, hab]

theorem iW (v : Nat) : x.iW t v = s.iW t v := congrArg Loop.iW (h.lp v)

theorem cap (v : Nat) : x.reg (WL_CAP t v) = s.reg (WL_CAP t v) := h.reg _ (by simp only [WL_CAP, WL_TIE, wlBase]; omega)

theorem cont (v : Nat) : x.cont t v = s.cont t v := congrArg (fun d => WL_CAP.CONT.geti d) (h.cap v)

theorem peak (v : Nat) : x.peak t v = s.peak t v := congrArg (fun d => WL_CAP.PEAK.geti d) (h.cap v)

theorem cistLimit (c : Nat) : x.cistLimit t c = s.cistLimit t c := by
  unfold State.cistLimit State.cistWord
  rw [h.img]

theorem cistOver (c : Nat) : x.cistOver t c = s.cistOver t c := by
  unfold State.cistOver State.cistAvg
  simp only [h.cistLimit, h.avgI]

theorem othersF (v : Nat) : x.othersF t v = s.othersF t v := by
  unfold State.othersF
  simp only [h.cistOver, h.avgI, h.loadF]

theorem deficitF (v : Nat) : x.deficitF t v = s.deficitF t v := by
  unfold State.deficitF
  simp only [h.loadF, h.peak, h.iW]

theorem restMeets (v : Nat) (f c : Int) (r : Nat) : x.restMeets t v f c r = s.restMeets t v f c r := by
  unfold State.restMeets
  simp only [h.cont, h.othersF, h.cistLimit]

theorem roomOf (v : Nat) : x.roomOf t v = s.roomOf t v := by
  unfold State.roomOf
  rw [h.cont, h.loadF]

/-! ### Ties (R210, R217) -/

theorem pumpsOf (v : Nat) : x.pumpsOf t v = s.pumpsOf t v := by
  unfold State.pumpsOf State.installed State.topoWord
  rw [h.img, h.fuses]

theorem wet (v : Nat) : x.wet t v = s.wet t v := by
  unfold State.wet State.servicePumps
  rw [h.pumpsOf]
  refine congrArg (fun l : List Nat => !l.isEmpty) (List.filter_congr fun p hp => ?_)
  have hp4 := pumpsOf_lt s hp
  unfold State.inService State.service
  rw [rd_of_reg (h.reg _ (by simp only [PM_STAT, WL_TIE, wlBase]; omega))]

theorem stage (v : Nat) : x.stage t v = s.stage t v := rd_of_reg (h.reg _ (by simp only [WL_SETPT, WL_TIE, wlBase]; omega)) _

theorem tieFit (v : Nat) : x.tieFit t v = s.tieFit t v := by
  have hfault : x.flag (WL_TIE t v) WL_TIE.TIE_FAULT = s.flag (WL_TIE t v) WL_TIE.TIE_FAULT := by
    unfold State.flag
    rw [h.tiePart v WL_TIE.TIE_FAULT rfl rfl rfl]
  unfold State.tieFit
  rw [hfault, h.stage, h.wet, h.mo, h.te]

theorem tieAllowed (v n : Nat) (m : Bool) : x.tieAllowed t v n m = s.tieAllowed t v n m := by
  have hset (y : Nat) : x.rd (WL_SETPT t y) WL_SETPT.V_SET = s.rd (WL_SETPT t y) WL_SETPT.V_SET :=
    rd_of_reg (h.reg _ (by simp only [WL_SETPT, WL_TIE, wlBase]; omega)) _
  have hdv : x.rd (WL_FRULE1 t v) WL_FRULE1.TIE_DV = s.rd (WL_FRULE1 t v) WL_FRULE1.TIE_DV :=
    rd_of_reg (h.reg _ (by simp only [WL_FRULE1, WL_TIE, wlBase]; omega)) _
  have hen : x.tieEn t n = s.tieEn t n := by
    unfold State.tieEn State.cistWord
    rw [h.img]
  unfold State.tieAllowed
  simp only [hset, hdv, hen, h.tieFit, h.tied, h.cistOver]

theorem pickTie (v : Nat) (m : Bool) (above : Int) : x.pickTie t v m above = s.pickTie t v m above := by
  unfold State.pickTie
  simp only [h.tieAllowed, h.roomOf]

end

end LoadKept

section
variable {s x : State} {t w : Nat}

/-- Marking a deficit leaves the loads. -/
theorem deficitNoted_kept (s : State) (t w : Nat) : LoadKept t w s (s.deficitNoted t w) := by
  have hon : LoadKept t w s ((s.wrb (WL_TIE t w) WL_TIE.DEFICIT (s.hasDeficit t w)).on (s.hasDeficit t w)
      (·.updSh t w (fun h => { h with winQuiet := false, quietWin := false }))) := by
    unfold State.on
    split
    · exact (LoadKept.marked s t w _).quieted
    · exact LoadKept.marked s t w _
  unfold State.deficitNoted
  dsimp only
  split
  · exact hon.told
  · exact hon

theorem deficitNoted_flag (s : State) (t w : Nat) : (s.deficitNoted t w).flag (WL_TIE t w) WL_TIE.DEFICIT = s.hasDeficit t w := by
  have hset : (s.wrb (WL_TIE t w) WL_TIE.DEFICIT (s.hasDeficit t w)).flag (WL_TIE t w) WL_TIE.DEFICIT = s.hasDeficit t w :=
    flag_wrb_same s _ _ _ rfl
  unfold State.deficitNoted State.on
  dsimp only
  split_ifs <;> exact hset

end

end Sys2Proof.Machine

/-! PROOFS. O39, the reaction to a deficit: the tie that closes, and the rest (R211, R217). -/

namespace Sys2Proof.Machine

open Sys2Proof

section
variable {s x : State} {t w : Nat}

/-! ### The tie that closes -/

theorem tieOther_all : ∀ w, w < 12 → ∀ n ∈ wellTies w, tieOther n w ≠ w ∧ tieOther n w < 12 := by decide

theorem tieOther_apart {n : Nat} (hw : w < 12) (hn : n ∈ wellTies w) : tieOther n w ≠ w ∧ tieOther n w < 12 := tieOther_all w hw n hn

/-- The switch that is picked is one of the well's. -/
theorem pickTie_mem {m : Bool} {above : Int} {n : Nat} (h : s.pickTie t w m above = some n) : n ∈ wellTies w := by
  have hmem (k : Nat) (hk : k ∈ (wellTies w).filter (fun n => s.tieAllowed t w n m && decide (above < s.roomOf t (tieOther n w)))) : k ∈ wellTies w :=
    (List.mem_filter.mp hk).1
  unfold State.pickTie at h
  dsimp only at h
  split at h
  · cases h
  next a ha =>
    rw [← Option.some.inj h]
    exact hmem a (by rw [ha]; exact List.mem_cons_self)
  next a b l ha =>
    have h1 := hmem a (by rw [ha]; exact List.mem_cons_self)
    have h2 := hmem b (by rw [ha]; exact List.mem_cons_of_mem _ List.mem_cons_self)
    split_ifs at h <;> rw [← Option.some.inj h] <;> assumption

/-- What a rest and its cover leave of the well's tie. -/
structure TieKept (t w : Nat) (s x : State) : Prop where
  on : x.reg (PH_TIE t) = s.reg (PH_TIE t)
  fld : ∀ g, g.ok = true → WL_TIE.PROT_REST.apart g = true → WL_TIE.COVER.apart g = true → x.rd (WL_TIE t w) g = s.rd (WL_TIE t w) g

theorem TieKept.raisePh (h : TieKept t w s x) (r : Raise) : TieKept t w s (x.raisePh r) := ⟨h.on, h.fld⟩

theorem restReact_kept (s : State) (t w : Nat) : TieKept t w s (s.restReact t w) := by
  have hset (y : State) (r : Nat) (c : Int) (hy : y = s.wri (WL_TIE t w) WL_TIE.COVER c) (f : ShareX → ShareX) :
      TieKept t w s ((y.setProtRest t w r).updSh t w f) := by
    subst hy
    refine ⟨?_, fun g hg h1 h2 => ?_⟩
    · exact (setProtRest_off (phTie_ne_wlTie t t w rfl)).trans (wri_reg_ne s _ _ _ c (phTie_ne_wlTie t t w rfl))
    · exact (setProtRest_rd g hg h1).trans (rd_wr_fld s _ _ _ g _ hg h2)
  unfold State.restReact
  dsimp only
  split
  · exact hset _ _ _ rfl _
  · split
    · exact hset _ _ _ rfl _
    · exact (hset _ _ _ rfl _).raisePh _

/-- A switch of an untied well closes: it is driven, and the well leads its partner. -/
theorem closeTie_leads {n : Nat} (hw : w < 12) (hn : n ∈ wellTies w) (hu : s.tied t w = false) :
    (s.closeTie t w n).tieOn t n = true ∧ (s.closeTie t w n).rd (WL_TIE t w) WL_TIE.PARTNER = tieOther n w ∧
    (s.closeTie t w n).rd (WL_TIE t w) WL_TIE.ROLE = 1 ∧ (s.closeTie t w n).rd (WL_TIE t w) WL_TIE.PHASE = 1 ∧
    (s.closeTie t w n).flag (WL_TIE t w) WL_TIE.DEFICIT = s.flag (WL_TIE t w) WL_TIE.DEFICIT := by
  obtain ⟨hne, ho12⟩ := tieOther_apart hw hn
  have hn12 := wellTies_lt hw hn
  unfold State.closeTie
  dsimp only
  generalize tieOther n w = o at hne ho12 ⊢
  have hoff : WL_TIE t w ≠ WL_TIE t o := by simp only [WL_TIE, wlBase]; omega
  have hpt (v : Nat) : PH_TIE t ≠ WL_TIE t v := phTie_ne_wlTie t t v rfl
  have hfirst (g : Fld) : (((((s.wr (PH_TIE t) PH_TIE.ON (setBit (s.rd (PH_TIE t) PH_TIE.ON) n true)).wr (WL_TIE t o) WL_TIE.PARTNER w).wr
      (WL_TIE t o) WL_TIE.ROLE 2).wr (WL_TIE t o) WL_TIE.PHASE 1).updSh t o (fun h => { h with tie := some n })).rd (WL_TIE t w) g = s.rd (WL_TIE t w) g :=
    (rd_wr_ne _ _ _ _ _ _ hoff).trans ((rd_wr_ne _ _ _ _ _ _ hoff).trans ((rd_wr_ne _ _ _ _ _ _ hoff).trans (rd_wr_ne _ _ _ _ _ _ (hpt w).symm)))
  have hon : (((((s.wr (PH_TIE t) PH_TIE.ON (setBit (s.rd (PH_TIE t) PH_TIE.ON) n true)).wr (WL_TIE t o) WL_TIE.PARTNER w).wr
      (WL_TIE t o) WL_TIE.ROLE 2).wr (WL_TIE t o) WL_TIE.PHASE 1).updSh t o (fun h => { h with tie := some n })).tieOn t n = true := by
    unfold State.tieOn
    refine (congrArg (fun v => bit v n) ((rd_wr_ne _ _ _ _ _ _ (hpt o)).trans ((rd_wr_ne _ _ _ _ _ _ (hpt o)).trans ((rd_wr_ne _ _ _ _ _ _ (hpt o)).trans
      (rd_wr_setBit _ _ _ rfl hn12))))).trans (setBit_true _ _)
  generalize (((((s.wr (PH_TIE t) PH_TIE.ON (setBit (s.rd (PH_TIE t) PH_TIE.ON) n true)).wr (WL_TIE t o) WL_TIE.PARTNER w).wr
      (WL_TIE t o) WL_TIE.ROLE 2).wr (WL_TIE t o) WL_TIE.PHASE 1).updSh t o (fun h => { h with tie := some n })) = y at hfirst hon ⊢
  have hun : y.tied t w = false := by
    rw [← hu]
    unfold State.tied
    rw [hfirst]
  rw [if_neg (by rw [hun]; decide)]
  refine ⟨?_, ?_, ?_, rd_wr_same _ _ _ _ rfl, ?_⟩
  · rw [← hon]
    exact congrArg (fun d => bit (PH_TIE.ON.get d) n)
      ((reg_wr_ne _ _ _ _ _ (hpt w)).trans ((reg_wr_ne _ _ _ _ _ (hpt w)).trans (reg_wr_ne _ _ _ _ _ (hpt w))))
  · exact (rd_wr_fld _ _ _ _ _ _ rfl rfl).trans ((rd_wr_fld _ _ _ _ _ _ rfl rfl).trans ((rd_wr_same _ _ _ _ rfl).trans (Nat.mod_eq_of_lt (by
      show o < 16; omega))))
  · exact (rd_wr_fld _ _ _ _ _ _ rfl rfl).trans (rd_wr_same _ _ _ _ rfl)
  · exact congrArg (· == 1) ((rd_wr_fld _ _ _ _ _ _ rfl rfl).trans ((rd_wr_fld _ _ _ _ _ _ rfl rfl).trans ((rd_wr_fld _ _ _ _ _ _ rfl rfl).trans
      (hfirst WL_TIE.DEFICIT))))

/-! ### The reaction's branches -/

/-- The reaction of a well that is in no group. -/
theorem deficitReact_untied (hu : s.tied t w = false) : s.deficitReact t w =
    (if s.hasDeficit t w || (decide (w < 12) && s.cistOver t (w / 4)) then
      (if s.hasDeficit t w then (s.deficitNoted t w).deficitTie t w else s.deficitNoted t w).restReact t w
    else (s.deficitNoted t w).deficitPast t w) := by
  have hy : (s.deficitNoted t w).tied t w = false := ((deficitNoted_kept s t w).tied w).trans hu
  rw [deficitReact_eq]
  generalize s.deficitNoted t w = y at hy
  have hkeep : y.keepTie t w = y := if_neg (by unfold State.unloading; rw [hy, Bool.false_and]; exact fun h => absurd h.1 (by decide))
  unfold State.deficitActs
  rw [hy, Bool.false_and, hkeep, if_neg (by decide : ¬(false = true))]

theorem deficitTie_closes {n : Nat} (hw : w < 12) (hu : s.tied t w = false) (hp : s.pickTie t w false 0 = some n) : s.deficitTie t w = s.closeTie t w n := by
  unfold State.deficitTie
  rw [if_neg (Nat.not_le.mpr hw), hu, if_pos (by decide), hp]

theorem deficitTie_none (hu : s.tied t w = false) (hp : 12 ≤ w ∨ s.pickTie t w false 0 = none) : s.deficitTie t w = s := by
  unfold State.deficitTie
  split_ifs with h1 h2
  · rfl
  · rw [hp.resolve_left h1]
  · rw [hu] at h2
    exact absurd rfl h2
  all_goals rfl

/-- An untied well without a new tie has no cover. -/
theorem coverOf_none (hu : s.tied t w = false) (hn : (s.sh t w).newTie = none) : s.coverOf t w = 0 := by
  have hl : s.lender t w = none := by
    unfold State.lender
    rw [hn]
    exact if_neg fun h => by rw [hu] at h; exact absurd h.2.1 (by decide)
  unfold State.coverOf
  rw [hl]

end

end Sys2Proof.Machine

/-! PROOFS. O39, the protective rest that a deficit takes (R208, R217). -/

namespace Sys2Proof.Machine

open Sys2Proof

section
variable {s x : State} {t w : Nat}

/-- A well with neither an overload's rest nor an open sense rests as its deficit asks. -/
theorem restWanted_plain (hov : (s.sh t w).ovlRest = false) (hop : s.flag (WL_CHK t w) WL_CHK.SENSE_OPEN = false) (r : Nat) : s.restWanted t w r = r := by
  unfold State.restWanted
  rw [hov, hop]
  exact max_eq_left (Nat.zero_le r)

/-- PROT_REST shows the rest that is decided. -/
theorem setProtRest_shows (hwant : (s.sh t w).pr.want = s.rd (WL_TIE t w) WL_TIE.PROT_REST) {r : Nat} (hr : s.restWanted t w r = r) (hlt : r < 16) :
    (s.setProtRest t w r).rd (WL_TIE t w) WL_TIE.PROT_REST = r := by
  rw [setProtRest_eq, hr]
  split
  next h => exact hwant.symm.trans h.symm
  next => exact (rd_wr_same s (WL_TIE t w) WL_TIE.PROT_REST r rfl).trans (Nat.mod_eq_of_lt hlt)

theorem setProtRest_satur (r : Nat) : ((s.setProtRest t w r).sh t w).satur = (s.sh t w).satur := by
  rw [setProtRest_eq]
  split
  · rfl
  · exact (congrArg ShareX.satur (updSh_same (s.wr (WL_TIE t w) WL_TIE.PROT_REST _) t w (fun h => { h with pr := h.pr.decide _ s.clk.beat }))).trans rfl

/-- What the state needs for its rest to be what the deficit asks. -/
structure RestPlain (t w : Nat) (s : State) : Prop where
  load : (s.sh t w).ovlRest = false
  sense : s.flag (WL_CHK t w) WL_CHK.SENSE_OPEN = false
  want : (s.sh t w).pr.want = s.rd (WL_TIE t w) WL_TIE.PROT_REST

theorem RestPlain.kept (h : RestPlain t w s) (hx : LoadKept t w s x) : RestPlain t w x := by
  obtain ⟨a, b, hab⟩ := hx.sh w
  refine ⟨by rw [hab]; exact h.load, ?_, ?_⟩
  · exact (flag_of_reg (hx.reg _ (by simp only [WL_CHK, WL_TIE]; omega)) _).trans h.sense
  · rw [hab, hx.tiePart w WL_TIE.PROT_REST rfl rfl rfl]
    exact h.want

theorem RestPlain.wanted (h : RestPlain t w s) (r : Nat) : s.restWanted t w r = r := restWanted_plain h.load h.sense r

theorem RestPlain.shows (h : RestPlain t w s) {r : Nat} (hr : r < 16) : (s.setProtRest t w r).rd (WL_TIE t w) WL_TIE.PROT_REST = r :=
  setProtRest_shows h.want (h.wanted r) hr

/-- The least duty that meets both conditions is the one found. -/
theorem restFor_least {f c : Int} {r : Nat} (hr : r < 16) (hm : s.restMeets t w f c r = true) (hleast : ∀ q, q < r → s.restMeets t w f c q = false) :
    s.restFor t w f c = some r := by
  refine List.find?_range_eq_some.mpr ⟨hm, List.mem_range.mpr hr, fun q hq => ?_⟩
  rw [hleast q hq]
  rfl

theorem restFor_none {f c : Int} (h : ∀ r, r < 16 → s.restMeets t w f c r = false) : s.restFor t w f c = none := by
  refine List.find?_eq_none.mpr fun r hr => ?_
  rw [h r (List.mem_range.mp hr)]
  decide

/-- The duty found is the same under what leaves the loads. -/
theorem LoadKept.restFor (h : LoadKept t w s x) : x.restFor t w (x.deficitF t w) 0 = s.restFor t w (s.deficitF t w) 0 := by
  unfold State.restFor
  rw [h.deficitF]
  exact congrArg (fun f => (List.range 16).find? f) (funext fun r => h.restMeets w _ _ r)

/-! ### Cover and rest of an untied well -/

/-- The rest that is found is taken, and no fault raised. -/
theorem restReact_takes (hu : s.tied t w = false) (hn : (s.sh t w).newTie = none) (hp : RestPlain t w s) {r : Nat} (hr : r < 16)
    (hf : s.restFor t w (s.deficitF t w) 0 = some r) :
    (s.restReact t w).rd (WL_TIE t w) WL_TIE.PROT_REST = r ∧ (s.restReact t w).fault = s.fault := by
  have hkept : LoadKept t w s (s.wri (WL_TIE t w) WL_TIE.COVER 0) :=
    LoadKept.covered ⟨fun _ _ => rfl, fun _ _ _ _ _ => rfl, fun _ => ⟨_, _, rfl⟩, fun _ => rfl, fun _ => rfl, fun _ => rfl, rfl, rfl, rfl⟩ 0
  have hp' := hp.kept hkept
  have hf' := hkept.restFor.trans hf
  have hfault := hkept.fault
  unfold State.restReact
  dsimp only
  rw [coverOf_none hu hn]
  generalize s.wri (WL_TIE t w) WL_TIE.COVER 0 = y at hp' hf' hfault
  rw [hf']
  exact ⟨hp'.shows hr, (setProtRest_fault r).trans hfault⟩

/-- Where no duty meets both conditions the well rests at 15, and the overload is raised once. -/
theorem restReact_saturates (hu : s.tied t w = false) (hn : (s.sh t w).newTie = none) (hp : RestPlain t w s)
    (hf : s.restFor t w (s.deficitF t w) 0 = none) :
    (s.restReact t w).rd (WL_TIE t w) WL_TIE.PROT_REST = 15 ∧
    ((s.sh t w).satur = false → (s.restReact t w).fault.inflight = s.fault.inflight ++ [{ src := 16, tile := t, well := w }]) := by
  have hkept : LoadKept t w s (s.wri (WL_TIE t w) WL_TIE.COVER 0) :=
    LoadKept.covered ⟨fun _ _ => rfl, fun _ _ _ _ _ => rfl, fun _ => ⟨_, _, rfl⟩, fun _ => rfl, fun _ => rfl, fun _ => rfl, rfl, rfl, rfl⟩ 0
  have hp' := hp.kept hkept
  have hf' := hkept.restFor.trans hf
  have hsat : ((s.wri (WL_TIE t w) WL_TIE.COVER 0).sh t w).satur = (s.sh t w).satur := rfl
  have hfault := hkept.fault
  unfold State.restReact
  dsimp only
  rw [coverOf_none hu hn]
  generalize s.wri (WL_TIE t w) WL_TIE.COVER 0 = y at hp' hf' hfault hsat
  rw [hf']
  dsimp only
  have hset : ((y.setProtRest t w 15).updSh t w (fun h => { h with satur := true })).rd (WL_TIE t w) WL_TIE.PROT_REST = 15 ∧
      ((y.setProtRest t w 15).updSh t w (fun h => { h with satur := true })).fault = s.fault := ⟨hp'.shows (by decide), (setProtRest_fault 15).trans hfault⟩
  generalize (y.setProtRest t w 15).updSh t w (fun h => { h with satur := true }) = z at hset
  obtain ⟨hrest, hsame⟩ := hset
  refine ⟨?_, fun hs => ?_⟩
  · split
    · exact hrest
    · exact hrest
  · rw [if_neg (by rw [hsat, hs]; decide), ← hsame]
    rfl

/-- A well without a deficit in a cistern within its limit rests no longer for one. -/
theorem deficitPast_rests (hu : s.tied t w = false) (hn : (s.sh t w).newTie = none) (hp : RestPlain t w s) :
    (s.deficitPast t w).rd (WL_TIE t w) WL_TIE.PROT_REST = 0 ∧
    (s.deficitPast t w).flag (WL_TIE t w) WL_TIE.DEFICIT = s.flag (WL_TIE t w) WL_TIE.DEFICIT := by
  have hkept : LoadKept t w s (s.wri (WL_TIE t w) WL_TIE.COVER 0) :=
    LoadKept.covered ⟨fun _ _ => rfl, fun _ _ _ _ _ => rfl, fun _ => ⟨_, _, rfl⟩, fun _ => rfl, fun _ => rfl, fun _ => rfl, rfl, rfl, rfl⟩ 0
  have hp' := hp.kept hkept
  have hflag : (s.wri (WL_TIE t w) WL_TIE.COVER 0).flag (WL_TIE t w) WL_TIE.DEFICIT = s.flag (WL_TIE t w) WL_TIE.DEFICIT :=
    congrArg (· == 1) (rd_wr_fld s _ _ _ WL_TIE.DEFICIT _ rfl rfl)
  have hu' := (hkept.tied w).trans hu
  unfold State.deficitPast
  dsimp only
  rw [coverOf_none hu hn]
  generalize s.wri (WL_TIE t w) WL_TIE.COVER 0 = y at hp' hflag hu'
  have hun : ((y.setProtRest t w 0).updSh t w (fun h => { h with satur := false })).tied t w = false := by
    rw [← hu']
    exact congrArg (fun n => decide (w < 12) && (n != 0xF)) (setProtRest_rd WL_TIE.PARTNER rfl rfl)
  rw [hun, Bool.and_false, Bool.false_and, if_neg (by decide)]
  exact ⟨hp'.shows (by decide), (congrArg (· == 1) (setProtRest_rd WL_TIE.DEFICIT rfl rfl)).trans hflag⟩

theorem restReact_flag (s : State) (t w : Nat) : (s.restReact t w).flag (WL_TIE t w) WL_TIE.DEFICIT = s.flag (WL_TIE t w) WL_TIE.DEFICIT :=
  congrArg (· == 1) ((restReact_kept s t w).fld WL_TIE.DEFICIT rfl rfl rfl)

/-! ### The reaction of an untied well (R217) -/

theorem deficitReact_forms (u w : Nat) (s v : State) (hv : v = s.deficitReact u w) (hu : s.tied u w = false)
    (hn : (s.sh u w).newTie = none) (hov : (s.sh u w).ovlRest = false) (hop : s.flag (WL_CHK u w) WL_CHK.SENSE_OPEN = false)
    (hwant : (s.sh u w).pr.want = s.rd (WL_TIE u w) WL_TIE.PROT_REST) :
    v.flag (WL_TIE u w) WL_TIE.DEFICIT = s.hasDeficit u w ∧
    (∀ n, s.hasDeficit u w = true → w < 12 → s.pickTie u w false 0 = some n → v.tieOn u n = true ∧
      v.rd (WL_TIE u w) WL_TIE.PARTNER = tieOther n w ∧ v.rd (WL_TIE u w) WL_TIE.ROLE = 1 ∧ v.rd (WL_TIE u w) WL_TIE.PHASE = 1) ∧
    (∀ r, s.hasDeficit u w = true → (12 ≤ w ∨ s.pickTie u w false 0 = none) → r < 16 → s.restMeets u w (s.deficitF u w) 0 r = true →
      (∀ q, q < r → s.restMeets u w (s.deficitF u w) 0 q = false) → v.rd (WL_TIE u w) WL_TIE.PROT_REST = r ∧ v.fault = s.fault) ∧
    (s.hasDeficit u w = true → (12 ≤ w ∨ s.pickTie u w false 0 = none) → (∀ r, r < 16 → s.restMeets u w (s.deficitF u w) 0 r = false) →
      v.rd (WL_TIE u w) WL_TIE.PROT_REST = 15 ∧
      ((s.sh u w).satur = false → v.fault.inflight = s.fault.inflight ++ [{ src := 16, tile := u, well := w }])) ∧
    (s.hasDeficit u w = false → (12 ≤ w ∨ s.cistOver u (w / 4) = false) → v.rd (WL_TIE u w) WL_TIE.PROT_REST = 0) := by
  subst hv
  have hk := deficitNoted_kept s u w
  have hflag := deficitNoted_flag s u w
  have hplain : RestPlain u w (s.deficitNoted u w) := (RestPlain.mk hov hop hwant).kept hk
  have hnew : ((s.deficitNoted u w).sh u w).newTie = none ∧ ((s.deficitNoted u w).sh u w).satur = (s.sh u w).satur := by
    obtain ⟨a, b, hab⟩ := hk.sh w
    rw [hab]
    exact ⟨hn, rfl⟩
  have htied := (hk.tied w).trans hu
  have hpick := hk.pickTie w false 0
  rw [deficitReact_untied hu]
  generalize s.deficitNoted u w = y at hk hflag hplain hnew htied hpick
  have hdeficit (hd : s.hasDeficit u w = true) (f : State → Prop) (hf : f ((y.deficitTie u w).restReact u w)) :
      f (if s.hasDeficit u w || (decide (w < 12) && s.cistOver u (w / 4)) then
        (if s.hasDeficit u w then y.deficitTie u w else y).restReact u w else y.deficitPast u w) := by
    rw [hd, Bool.true_or, if_pos rfl, if_pos rfl]
    exact hf
  refine ⟨?_, fun n hd hw12 hp => ?_, fun r hd hp hr hm hleast => ?_, fun hd hp hno => ?_, fun hd ho => ?_⟩
  · rw [← hflag]
    split_ifs with h1 h2
    · rw [restReact_flag]
      by_cases hp : w < 12 ∧ ∃ n, y.pickTie u w false 0 = some n
      · obtain ⟨hw12, n, hp⟩ := hp
        rw [deficitTie_closes hw12 htied hp]
        exact (closeTie_leads hw12 (pickTie_mem hp) htied).2.2.2.2
      · rw [deficitTie_none htied (by
          by_cases hw12 : w < 12
          · exact .inr (Option.eq_none_iff_forall_ne_some.mpr fun n h => hp ⟨hw12, n, h⟩)
          · exact .inl (Nat.not_lt.mp hw12))]
    · exact restReact_flag _ _ _
    · exact (deficitPast_rests htied hnew.1 hplain).2
  · refine hdeficit hd (fun v => v.tieOn u n = true ∧ v.rd (WL_TIE u w) WL_TIE.PARTNER = tieOther n w ∧ v.rd (WL_TIE u w) WL_TIE.ROLE = 1 ∧
      v.rd (WL_TIE u w) WL_TIE.PHASE = 1) ?_
    rw [deficitTie_closes hw12 htied (hpick.trans hp)]
    obtain ⟨h1, h2, h3, h4, -⟩ := closeTie_leads hw12 (pickTie_mem hp) htied
    have hr := restReact_kept (y.closeTie u w n) u w
    exact ⟨(congrArg (fun d => bit (PH_TIE.ON.get d) n) hr.on).trans h1, (hr.fld _ rfl rfl rfl).trans h2, (hr.fld _ rfl rfl rfl).trans h3,
      (hr.fld _ rfl rfl rfl).trans h4⟩
  · refine hdeficit hd (fun v => v.rd (WL_TIE u w) WL_TIE.PROT_REST = r ∧ v.fault = s.fault) ?_
    rw [deficitTie_none htied (hp.imp_right hpick.trans), ← hk.fault]
    exact restReact_takes htied hnew.1 hplain hr (hk.restFor.trans (restFor_least hr hm hleast))
  · refine hdeficit hd (fun v => v.rd (WL_TIE u w) WL_TIE.PROT_REST = 15 ∧
      ((s.sh u w).satur = false → v.fault.inflight = s.fault.inflight ++ [{ src := 16, tile := u, well := w }])) ?_
    rw [deficitTie_none htied (hp.imp_right hpick.trans), ← hk.fault, ← hnew.2]
    exact restReact_saturates htied hnew.1 hplain (hk.restFor.trans (restFor_none hno))
  · have hfull : (decide (w < 12) && s.cistOver u (w / 4)) = false := by
      rcases ho with h | h
      · rw [decide_eq_false (Nat.not_lt.mpr h), Bool.false_and]
      · rw [h, Bool.and_false]
    rw [hd, hfull, if_neg (by decide)]
    exact (deficitPast_rests htied hnew.1 hplain).1

end

end Sys2Proof.Machine

/-! PROOFS. O39, the admission of a waiting well: its pumps in service and its ramp begun (R151, R153, R154). -/

namespace Sys2Proof.Machine

open Sys2Proof

section
variable {s : State} {t w p : Nat}

/-! ### A pump whose PEN rises -/

theorem penHigh_reg (s : State) (t w p : Nat) (de : Bool) {b : Nat} (h1 : b ≠ PM_LINK t w p) (h2 : b ≠ PM_STAT t w p) :
    (s.penHigh t w p de).reg b = s.reg b := by
  unfold State.penHigh
  split
  · rfl
  · exact (reg_wr_ne _ _ b _ _ h2).trans ((reg_wr_ne _ _ b _ _ h1).trans (reg_wr_ne s _ b _ _ h1))

/-- The service state that a pump takes as its PEN rises: a follower's, or LIVE. -/
def PumpIn (t w p live : Nat) (s : State) : Prop := s.service t w p = live ∧ s.flag (PM_LINK t w p) PM_LINK.PEN = true

theorem penHigh_in (hs : s.service t w p ≠ 3) (de : Bool) : PumpIn t w p (if (s.pump t w p).follower then 2 else 1) (s.penHigh t w p de) := by
  unfold State.penHigh
  rw [if_neg hs]
  refine ⟨(rd_wr_same _ _ _ _ rfl).trans (by split <;> rfl), ?_⟩
  have hpen : (s.penRise t w p).flag (PM_LINK t w p) PM_LINK.PEN = true := flag_wr_one s (PM_LINK t w p) PM_LINK.PEN rfl
  exact (congrArg (· == 1) ((rd_wr_ne _ _ _ _ _ _ (link_ne_stat t w p p)).trans (rd_wr_fld _ _ _ _ _ _ rfl rfl))).trans hpen

theorem PumpIn.of_reg {u : State} {live : Nat} (h : PumpIn t w p live s) (h1 : u.reg (PM_LINK t w p) = s.reg (PM_LINK t w p))
    (h2 : u.reg (PM_STAT t w p) = s.reg (PM_STAT t w p)) : PumpIn t w p live u := ⟨(rd_of_reg h2 _).trans h.1, (flag_of_reg h1 _).trans h.2⟩

theorem penHigh_follower (q : Nat) (de : Bool) (hq : q ≠ p) : (s.penHigh t w q de).pump t w p = s.pump t w p := by
  unfold State.penHigh
  split
  · rfl
  · exact updPump_ne (s.wr (PM_LINK t w q) PM_LINK.PEN 1) t w q t w p (fun q => { q with measuring := false }) (by omega)

/-- Every usable pump of a well whose ramp starts is in service. -/
theorem pumps_in (hp : p < s.installed t w) (hs : s.service t w p ≠ 3) :
    PumpIn t w p (if (s.pump t w p).follower then 2 else 1) (s.each (s.pumpsOf t w) (fun u p => u.penHigh t w p true)) := by
  have hp4 := lt_of_lt_of_le hp (installed_le s t w)
  refine each_range_brings (fun u => u.service t w p ≠ 3 ∧ u.pump t w p = s.pump t w p) (PumpIn t w p (if (s.pump t w p).follower then 2 else 1))
    (fun u p => u.penHigh t w p true) hp (fun u hu => ?_) (fun u q _ hqp hu => ?_) (fun u q _ hqp hu => ?_) s ⟨hs, rfl⟩
  · rw [← hu.2]
    exact penHigh_in hu.1 true
  · refine ⟨?_, (penHigh_follower q true hqp).trans hu.2⟩
    unfold State.service
    rw [rd_of_reg (penHigh_reg u t w q true (link_ne_stat t w q p).symm (stat_ne_stat hqp.symm))]
    exact hu.1
  · exact hu.of_reg (penHigh_reg u t w q true (link_ne_link hqp.symm) (link_ne_stat t w p q))
      (penHigh_reg u t w q true (link_ne_stat t w q p).symm (stat_ne_stat hqp.symm))

/-! ### The ramp that starts -/

/-- The pumps in service, and the ramp's registers and position. -/
def State.rampSet (s : State) (t w : Nat) : State :=
  ((((((s.setStage t w stPriming).each (s.pumpsOf t w) (fun u p => u.penHigh t w p true)).wr (WL_PROF_STAT t w) WL_PROF_STAT.SET 1).wr (WL_PROF_STAT t w)
    WL_PROF_STAT.SETTLED 0).wr (WL_PROF_STAT t w) WL_PROF_STAT.PAUSED 0).wr (WL_LOOP_STAT t w) WL_LOOP_STAT.RATE 3).wr (WL_PWM t w) WL_PWM.SRC 2

def State.rampPlaced (s : State) (t w : Nat) : State :=
  (((s.rampSet t w).updMo t w (fun m => { m with
    x := s.startX t w, v := 0, a := 0, admitRun := 0, headRun := 0, trkRun := 0, trkFail := false, reserved := s.reserves t w })).updLp
    t w (fun l => { l with period := 0, basePh := s.rd (WL_PWM t w) WL_PWM.BASE_PH })).motionView t w

theorem rampStart_eq (s : State) (t w : Nat) : s.rampStart t w = ((s.rampPlaced t w).recompute t w true).primeViewOf t w := rfl

theorem rampSet_reg {b : Nat} (h1 : b ≠ WL_PROF_STAT t w) (h2 : b ≠ WL_LOOP_STAT t w) (h3 : b ≠ WL_PWM t w) :
    (s.rampSet t w).reg b = ((s.setStage t w stPriming).each (s.pumpsOf t w) (fun u p => u.penHigh t w p true)).reg b :=
  (reg_wr_ne _ _ b _ _ h3).trans ((reg_wr_ne _ _ b _ _ h2).trans ((reg_wr_ne _ _ b _ _ h1).trans ((reg_wr_ne _ _ b _ _ h1).trans (reg_wr_ne _ _ b _ _ h1))))

theorem rampSet_in (hp : p < s.installed t w) (hs : s.service t w p ≠ 3) :
    PumpIn t w p (if (s.pump t w p).follower then 2 else 1) (s.rampSet t w) := by
  have hp4 := lt_of_lt_of_le hp (installed_le s t w)
  have hst : (s.setStage t w stPriming).service t w p ≠ 3 := by
    unfold State.service State.setStage
    rw [rd_wr_ne _ _ _ _ _ _ (by simp only [PM_STAT, WL_SETPT]; omega)]
    exact hs
  refine (pumps_in (s := s.setStage t w stPriming) hp hst).of_reg (rampSet_reg ?_ ?_ ?_) (rampSet_reg ?_ ?_ ?_)
  all_goals simp only [PM_LINK, PM_STAT, WL_PROF_STAT, WL_LOOP_STAT, WL_PWM]; omega

theorem rampSet_stage : (s.rampSet t w).stage t w = stPriming := by
  have hset : (s.setStage t w stPriming).stage t w = stPriming := stage_setStage s t w stPriming (by decide)
  have hpens : ((s.setStage t w stPriming).each (s.pumpsOf t w) (fun u p => u.penHigh t w p true)).reg (WL_SETPT t w) = (s.setStage t w stPriming).reg (WL_SETPT t w) := by
    refine each_mem_keeps (fun u => u.reg (WL_SETPT t w)) _ (fun u p => u.penHigh t w p true) (fun u p hp => ?_) _
    have hp4 := pumpsOf_lt s hp
    exact penHigh_reg u t w p true (by simp only [WL_SETPT, PM_LINK]; omega) (by simp only [WL_SETPT, PM_STAT]; omega)
  rw [← hset]
  refine rd_of_reg ((rampSet_reg ?_ ?_ ?_).trans hpens) _
  all_goals simp only [WL_SETPT, WL_PROF_STAT, WL_LOOP_STAT, WL_PWM]; omega

theorem rampSet_settled : (s.rampSet t w).flag (WL_PROF_STAT t w) WL_PROF_STAT.SETTLED = false := by
  unfold State.rampSet
  generalize ((s.setStage t w stPriming).each (s.pumpsOf t w) (fun u p => u.penHigh t w p true)).wr (WL_PROF_STAT t w) WL_PROF_STAT.SET 1 = y
  have hzero : (y.wr (WL_PROF_STAT t w) WL_PROF_STAT.SETTLED 0).flag (WL_PROF_STAT t w) WL_PROF_STAT.SETTLED = false := flag_wr_zero y _ _ rfl
  rw [← hzero]
  exact congrArg (· == 1) ((rd_wr_ne _ _ _ _ _ _ (by simp only [WL_PROF_STAT, WL_PWM]; omega)).trans ((rd_wr_ne _ _ _ _ _ _ (by
    simp only [WL_PROF_STAT, WL_LOOP_STAT]; omega)).trans (rd_wr_fld _ _ _ _ _ _ rfl rfl)))

/-- What a well shows whose ramp has begun. -/
structure RampBegun (t w : Nat) (x reserved : Int) (s : State) : Prop where
  stage : s.stage t w = stPriming
  settled : s.flag (WL_PROF_STAT t w) WL_PROF_STAT.SETTLED = false
  place : (s.mo t w).x = x
  rest : (s.mo t w).v = 0
  reserved : (s.mo t w).reserved = reserved

theorem rampPlaced_begun (s : State) (t w : Nat) : RampBegun t w (s.startX t w) (s.reserves t w) (s.rampPlaced t w) := by
  have hstage := rampSet_stage (s := s) (t := t) (w := w)
  have hset := rampSet_settled (s := s) (t := t) (w := w)
  unfold State.rampPlaced
  generalize s.rampSet t w = y at hstage hset
  have hmo : ((((y.updMo t w (fun m => { m with x := s.startX t w, v := 0, a := 0, admitRun := 0, headRun := 0, trkRun := 0, trkFail := false, reserved := s.reserves t w })).updLp
      t w (fun l => { l with period := 0, basePh := s.rd (WL_PWM t w) WL_PWM.BASE_PH })).motionView t w).mo t w) =
      { y.mo t w with x := s.startX t w, v := 0, a := 0, admitRun := 0, headRun := 0, trkRun := 0, trkFail := false, reserved := s.reserves t w } :=
    (updLp_mo (t := t) (w := w) (fun l => { l with period := 0, basePh := s.rd (WL_PWM t w) WL_PWM.BASE_PH }) w).trans (updMo_same ..)
  refine ⟨?_, ?_, by rw [hmo], by rw [hmo], by rw [hmo]⟩
  · rw [← hstage]
    exact (rd_wr_ne _ _ _ _ _ _ (by simp only [WL_SETPT, WL_PROF_STAT]; omega)).trans ((rd_wr_ne _ _ _ _ _ _ (by
      simp only [WL_SETPT, WL_PROF_STAT]; omega)).trans (rd_wr_fld _ _ _ _ _ _ rfl rfl))
  · rw [← hset]
    exact congrArg (· == 1) ((rd_wr_fld _ _ _ _ WL_PROF_STAT.SETTLED _ rfl rfl).trans ((rd_wr_fld _ _ _ _ WL_PROF_STAT.SETTLED _ rfl rfl).trans
      (rd_wr_ne _ _ _ _ _ _ (by simp only [WL_SETPT, WL_PROF_STAT]; omega))))

theorem rampPlaced_reg {b : Nat} (h1 : b ≠ WL_SETPT t w) (h2 : b ≠ WL_PROF_STAT t w) : (s.rampPlaced t w).reg b = (s.rampSet t w).reg b := by
  unfold State.rampPlaced
  generalize s.rampSet t w = y
  rw [motionView_reg h1 h2]
  rfl

theorem rampPlaced_in (hp : p < s.installed t w) (hs : s.service t w p ≠ 3) :
    PumpIn t w p (if (s.pump t w p).follower then 2 else 1) (s.rampPlaced t w) := by
  have hp4 := lt_of_lt_of_le hp (installed_le s t w)
  refine (rampSet_in hp hs).of_reg (rampPlaced_reg ?_ ?_) (rampPlaced_reg ?_ ?_)
  all_goals simp only [PM_LINK, PM_STAT, WL_SETPT, WL_PROF_STAT]; omega

/-! ### What follows on the ramp -/

theorem takeCaps_mo (free : Bool) (v : Nat) : (s.takeCaps t w free).mo t v = s.mo t v := by
  unfold State.takeCaps
  dsimp only
  rw [updSh_mo, each_keeps (fun u => u.mo t v) _ (fun u p => u.updPump t w p _) (fun _ _ => rfl) s]

theorem recompute_mo (free : Bool) (v : Nat) : (s.recompute t w free).mo t v = s.mo t v :=
  ((congrArg (fun x : State => x.mo t v) (recompute_rest s t w free) :)).trans (takeCaps_mo free v)

theorem primeViewOf_mo (v : Nat) : (s.primeViewOf t w).mo t v = s.mo t v := by
  unfold State.primeViewOf
  split <;> rfl

theorem rampStart_reg {b : Nat} (h1 : b ≠ WL_CAP t w) (h2 : b ≠ PH_CIST t (w / 4)) (h3 : ∀ c, c < 3 → b ≠ PH_PRIME t c) :
    (s.rampStart t w).reg b = (s.rampPlaced t w).reg b := (primeViewOf_reg _ t w b h3).trans (recompute_reg _ t w true b h1 h2)

theorem rampStart_begun : RampBegun t w (s.startX t w) (s.reserves t w) (s.rampStart t w) := by
  have hmo : (s.rampStart t w).mo t w = (s.rampPlaced t w).mo t w := (primeViewOf_mo w).trans (recompute_mo true w)
  obtain ⟨h1, h2, h3, h4, h5⟩ := rampPlaced_begun s t w
  refine ⟨(rd_of_reg (rampStart_reg ?_ ?_ fun c hc => ?_) _).trans h1, (flag_of_reg (rampStart_reg ?_ ?_ fun c hc => ?_) _).trans h2, by rw [hmo, h3], by rw [hmo, h4],
    by rw [hmo, h5]⟩
  all_goals simp only [WL_SETPT, WL_PROF_STAT, WL_CAP, PH_CIST, PH_PRIME, wlBase]; omega

theorem rampStart_in (hw : w < 15) (hp : p < s.installed t w) (hs : s.service t w p ≠ 3) :
    PumpIn t w p (if (s.pump t w p).follower then 2 else 1) (s.rampStart t w) := by
  have hp4 := lt_of_lt_of_le hp (installed_le s t w)
  refine (rampPlaced_in hp hs).of_reg (rampStart_reg ?_ ?_ fun c hc => ?_) (rampStart_reg ?_ ?_ fun c hc => ?_)
  all_goals simp only [PM_LINK, PM_STAT, WL_CAP, PH_CIST, PH_PRIME, wlBase]; omega

/-! ### Admission -/

theorem reserves_inrush (hw : w < 12) (hsafe : s.safeWell t w = false) (hf : s.followersOf t w = []) : s.reserves t w = s.inrush t w := by
  unfold State.reserves State.inrush
  rw [if_neg (by simp [hsafe, hw]), hf]
  rfl

/-- What the admission of a well without followers leaves of its ramp. -/
theorem letIn_alone (hf : s.followersOf t w = []) (hw : w < 14) : s.letIn t w =
    (if w < 12 then (s.rampStart t w).updTile t (fun x => { x with admitAt := (w / 4, s.clk.ns) :: x.admitAt.filter (fun e => e.1 ≠ w / 4) })
    else s.rampStart t w) := by
  unfold State.letIn
  rw [hf]
  exact if_neg (by omega)

theorem primeAdmit_lets (hok : s.wellOk t w = true) (hst : s.stage t w = stWait) (hsafe : s.safeWell t w = false) (htr : s.tracks t w = false)
    (hf : s.followersOf t w = []) (hstop : s.stopped t = false) (hcond : w = 12 ∨ w = 13 ∨ (w < 12 ∧ 8 ≤ (s.mo t w).admitRun ∧ s.admits t w = true ∧
      s.admitFirst t w = true ∧ s.admitGap t w = true)) : s.primeAdmit t w = s.letIn t w := by
  unfold State.primeAdmit
  rw [hstop, hok, hst, hsafe, htr, hf, Bool.false_and, if_neg (by decide), if_neg (by decide),
    if_pos (show (true && stWait == stWait && !false && ([] : List Nat).all (fun f => s.stage t f != stCal)) = true from rfl)]
  rcases hcond with rfl | rfl | ⟨hw, hrun, ha, hfirst, hgap⟩
  · exact if_pos (by decide)
  · exact if_pos (by decide)
  · rw [if_neg (Nat.not_le.mpr hw), ha, hfirst, hgap, decide_eq_true hrun]
    rfl

theorem primeAdmit_admits (u w p : Nat) (s : State) (hok : s.wellOk u w = true) (hst : s.stage u w = stWait) (hsafe : s.safeWell u w = false)
    (htr : s.tracks u w = false) (hf : s.followersOf u w = []) (hstop : s.stopped u = false) (hp : p < s.installed u w) (hs : s.service u w p ≠ 3)
    (hcond : w = 12 ∨ w = 13 ∨ (w < 12 ∧ 8 ≤ (s.mo u w).admitRun ∧ s.admits u w = true ∧ s.admitFirst u w = true ∧ s.admitGap u w = true)) :
    s.yields (.primeAdmit u w) (fun t => t.stage u w = stPriming ∧ t.service u w p = (if (s.pump u w p).follower then 2 else 1) ∧
      t.flag (PM_LINK u w p) PM_LINK.PEN = true ∧ (t.mo u w).x = s.startX u w ∧ (t.mo u w).v = 0 ∧
      t.flag (WL_PROF_STAT u w) WL_PROF_STAT.SETTLED = false ∧ (w < 12 → (t.mo u w).reserved = s.inrush u w)) := by
  have hw14 : w < 14 := by omega
  refine ⟨s.primeAdmit u w, rfl, ?_⟩
  obtain ⟨h1, h2, h3, h4, h5⟩ := rampStart_begun (s := s) (t := u) (w := w)
  obtain ⟨h6, h7⟩ := rampStart_in (by omega) hp hs
  rw [primeAdmit_lets hok hst hsafe htr hf hstop hcond, letIn_alone hf hw14]
  have hres (hw : w < 12) := h5.trans (reserves_inrush hw hsafe hf)
  split
  · exact ⟨h1, h6, h7, h3, h4, h2, hres⟩
  · exact ⟨h1, h6, h7, h3, h4, h2, hres⟩

end

end Sys2Proof.Machine

/-! PROOFS. O39, the two counts of an outer boundary, its own and its telemetry's, under the operations on pumps, ties and stages. -/

namespace Sys2Proof.Machine

open Sys2Proof

/-- The boundaries that a well has counted, and the outer periods in its telemetry's sums. -/
def State.gauge (s : State) (u w : Nat) : Nat × Nat := ((s.sh u w).outerN, (s.well u w).tel.n)

section
variable {s x : State} {t u v w : Nat}

/-! ### The elementary steps -/

theorem gauge_of_wells (h : x.wells = s.wells) : x.gauge u w = s.gauge u w := by
  unfold State.gauge State.sh State.well
  rw [h]

theorem gauge_of_onlyRegs (h : s.onlyRegs x) : x.gauge u w = s.gauge u w := gauge_of_wells (congrArg State.wells h :)

theorem gauge_setWell (y : WellX) (h1 : y.sh.outerN = (s.well t v).sh.outerN) (h2 : y.tel.n = (s.well t v).tel.n) :
    (s.setWell t v y).gauge u w = s.gauge u w := by
  unfold State.gauge State.sh
  rw [well_setWell]
  split
  next h =>
    have hsame : s.well u w = s.well t v := by unfold State.well; rw [h]
    rw [h1, h2, hsame]
  next => rfl

@[simp] theorem gauge_updSh (f : ShareX → ShareX) (hf : ∀ h, (f h).outerN = h.outerN) : (s.updSh t v f).gauge u w = s.gauge u w := gauge_setWell _ (hf _) rfl

@[simp] theorem gauge_wr (a : Nat) (f : Fld) (n : Nat) : (s.wr a f n).gauge u w = s.gauge u w := rfl
@[simp] theorem gauge_wrb (a : Nat) (f : Fld) (b : Bool) : (s.wrb a f b).gauge u w = s.gauge u w := rfl
@[simp] theorem gauge_wri (a : Nat) (f : Fld) (n : Int) : (s.wri a f n).gauge u w = s.gauge u w := rfl
@[simp] theorem gauge_setReg (a : Nat) (d : Word) : (s.setReg a d).gauge u w = s.gauge u w := rfl
@[simp] theorem gauge_setStage (n : Nat) : (s.setStage t v n).gauge u w = s.gauge u w := rfl
@[simp] theorem gauge_setService (p n : Nat) : (s.setService t v p n).gauge u w = s.gauge u w := rfl
@[simp] theorem gauge_updPump (p : Nat) (f : PumpX → PumpX) : (s.updPump t v p f).gauge u w = s.gauge u w := rfl
@[simp] theorem gauge_updCl (k : Nat) (f : ClusterX → ClusterX) : (s.updCl t k f).gauge u w = s.gauge u w := rfl
@[simp] theorem gauge_updTile (f : TileX → TileX) : (s.updTile t f).gauge u w = s.gauge u w := rfl
@[simp] theorem gauge_setSq (n : Nat) (q : SeqX) : (s.setSq n q).gauge u w = s.gauge u w := rfl
@[simp] theorem gauge_raisePh (r : Raise) : (s.raisePh r).gauge u w = s.gauge u w := rfl
@[simp] theorem gauge_unhold (r : Raise) : (s.unhold r).gauge u w = s.gauge u w := rfl
@[simp] theorem gauge_capEvent : (s.capEvent t v).gauge u w = s.gauge u w := rfl
@[simp] theorem gauge_capEventReg : (s.capEventReg t v).gauge u w = s.gauge u w := rfl
@[simp] theorem gauge_updMo (f : Motion → Motion) : (s.updMo t v f).gauge u w = s.gauge u w := gauge_setWell _ rfl rfl
@[simp] theorem gauge_updLp (f : Loop → Loop) : (s.updLp t v f).gauge u w = s.gauge u w := gauge_setWell _ rfl rfl
@[simp] theorem gauge_updTe (f : TestX → TestX) : (s.updTe t v f).gauge u w = s.gauge u w := gauge_setWell _ rfl rfl
@[simp] theorem gauge_updVo (f : VoteX → VoteX) : (s.updVo t v f).gauge u w = s.gauge u w := gauge_setWell _ rfl rfl

@[simp] theorem gauge_ite (c : Prop) [Decidable c] (a b : State) : (if c then a else b).gauge u w = if c then a.gauge u w else b.gauge u w :=
  apply_ite (fun z : State => z.gauge u w) c a b

theorem gauge_each {α : Type} (l : List α) (f : State → α → State) (h : ∀ y e, (f y e).gauge u w = y.gauge u w) : (s.each l f).gauge u w = s.gauge u w :=
  each_keeps (fun y => y.gauge u w) l f h s

@[simp] theorem gauge_holdPh (r : Raise) : (s.holdPh r).gauge u w = s.gauge u w := by
  unfold State.holdPh
  split <;> rfl

@[simp] theorem gauge_bump (a : Nat) : (s.bump a).gauge u w = s.gauge u w := gauge_of_wells (congrArg State.wells (bump_rest s a) :)

/-! ### Pumps, ties and stages -/

@[simp] theorem gauge_report (op : Nat) (ok : Bool) : (s.report t v op ok).gauge u w = s.gauge u w :=
  gauge_each _ _ fun y n => by simp

@[simp] theorem gauge_untie (n : Nat) : (s.untie t v n).gauge u w = s.gauge u w := by
  unfold State.untie
  dsimp only
  split_ifs
  · exact gauge_updSh _ fun _ => rfl
  · split
    · exact gauge_updSh _ fun _ => rfl
    · exact gauge_updSh _ fun _ => rfl
  · rfl

@[simp] theorem gauge_openTie (n : Nat) : (s.openTie t n).gauge u w = s.gauge u w := (gauge_untie n).trans (gauge_untie n)

@[simp] theorem gauge_openTies : (s.openTies t v).gauge u w = s.gauge u w := by
  unfold State.openTies
  split
  · exact gauge_each _ _ fun y n => by simp
  · rfl

@[simp] theorem gauge_startUnload (n : Nat) : (s.startUnload t n).gauge u w = s.gauge u w := by
  refine gauge_each [(tieWells n).1, (tieWells n).2] (fun (u : State) w =>
    if u.rd (WL_TIE t w) WL_TIE.PARTNER = tieOther n w then
      if u.rd (WL_TIE t w) WL_TIE.PHASE = 3 then u.updSh t w (fun x => { x with quietUnload := false })
      else (u.wr (WL_TIE t w) WL_TIE.PHASE 3).updSh t w (fun x => { x with quietUnload := false, lowRun := 0, unloadN := 0 })
    else u) fun y z => ?_
  split_ifs
  · exact gauge_updSh _ fun _ => rfl
  · exact gauge_updSh _ fun _ => rfl
  · rfl

@[simp] theorem gauge_unloadTies : (s.unloadTies t v).gauge u w = s.gauge u w := unloadTies_keeps (fun y => y.gauge u w) (fun _ n => gauge_startUnload n) v

@[simp] theorem gauge_penLow (p : Nat) : (s.penLow t v p).gauge u w = s.gauge u w := by
  unfold State.penLow
  dsimp only
  split <;> rfl

@[simp] theorem gauge_gateDry : (s.gateDry t v).gauge u w = s.gauge u w := gauge_each _ _ fun _ _ => rfl

@[simp] theorem gauge_endTracks : (s.endTracks t v).gauge u w = s.gauge u w := gauge_each _ _ fun _ _ => gauge_updMo _

@[simp] theorem gauge_primeViewOf : (s.primeViewOf t v).gauge u w = s.gauge u w := by
  unfold State.primeViewOf
  split <;> rfl

@[simp] theorem gauge_setPmd (b : Bool) : (s.setPmd t v b).gauge u w = s.gauge u w := gauge_each _ _ fun _ _ => rfl

@[simp] theorem gauge_unprime : (s.unprime t v).gauge u w = s.gauge u w := by
  have hm (y : State) (l : List Nat) : (y.each l (fun z p => z.updPump t v p (fun q => { q with measuring := false }))).gauge u w = y.gauge u w :=
    gauge_each _ _ fun _ _ => rfl
  unfold State.unprime
  split
  · simp [hm]
  · rfl

@[simp] theorem gauge_parkBegin (b : Bool) : (s.parkBegin t v b).gauge u w = s.gauge u w := by
  have hg (y : State) (l : List Nat) : (y.each l (fun z k => z.gateOn t k PH_CLPWR.C_DRY)).gauge u w = y.gauge u w := gauge_each _ _ fun _ _ => rfl
  unfold State.parkBegin
  simp [hg]

@[simp] theorem gauge_wakeFail : (s.wakeFail t v).gauge u w = s.gauge u w := rfl

@[simp] theorem gauge_parkSafe : (s.parkSafe t v).gauge u w = s.gauge u w := by
  unfold State.parkSafe
  simp

theorem gauge_parkDown (k : Nat) : (parkDown t k s).gauge u w = s.gauge u w := by
  induction k generalizing s with
  | zero => rfl
  | succ k ih =>
    have hdown : ((s.each (safeWells (k + 1)) (fun y v => y.parkSafe t v)).setSafe t (fun x => { x with step := k + 1 })).gauge u w = s.gauge u w :=
      gauge_each _ _ fun _ _ => gauge_parkSafe
    unfold parkDown
    dsimp only
    split
    · exact ih.trans hdown
    · exact hdown

@[simp] theorem gauge_safeAdvance : (s.safeAdvance t).gauge u w = s.gauge u w := by
  have hover (y : State) : y.safeOver.gauge u w = y.gauge u w := by
    unfold State.safeOver
    split <;> rfl
  unfold State.safeAdvance
  dsimp only
  split
  · exact (hover _).trans (gauge_parkDown _)
  · rfl

/-! ### A well that goes DRY -/

@[simp] theorem gauge_modeDone : (s.modeDone t).gauge u w = s.gauge u w := by
  unfold State.modeDone
  split
  · split <;> rfl
  · rfl

@[simp] theorem gauge_takeMode : (s.takeMode t v).gauge u w = s.gauge u w := by
  unfold State.takeMode
  split
  · split
    · exact gauge_modeDone.trans (gauge_updLp _)
    · exact gauge_updLp _
  · rfl

@[simp] theorem gauge_dryRetry : (s.dryRetry t v).gauge u w = s.gauge u w := by
  unfold State.dryRetry
  simp

@[simp] theorem gauge_graceOf (b : Bool) : (s.graceOf t v b).gauge u w = s.gauge u w := by
  unfold State.graceOf
  simp

@[simp] theorem gauge_wantOf (k : Nat) (b : Bool) : (s.wantOf t k b).gauge u w = s.gauge u w := by
  unfold State.wantOf
  simp

theorem gauge_voteChange (k : Nat) (f : State → State) (hf : (f s).gauge u w = s.gauge u w) : (s.voteChange t k f).gauge u w = s.gauge u w :=
  (gauge_graceOf _).trans ((gauge_graceOf _).trans ((gauge_wantOf _ _).trans hf))

@[simp] theorem gauge_dryVotes : (s.dryVotes t v).gauge u w = s.gauge u w :=
  gauge_each _ _ fun y k => gauge_voteChange k _ (by split <;> rfl)

/-- A well that goes DRY keeps both counts. -/
@[simp] theorem gauge_goDry : (s.goDry t v).gauge u w = s.gauge u w := by
  have hpumps (y : State) (l : List Nat) : (y.each l (fun z p => (z.penLow t v p).wr (PM_LINK t v p) PM_LINK.PMD 0)).gauge u w = y.gauge u w :=
    gauge_each _ _ fun _ _ => gauge_penLow _
  have hregs (y : State) : (y.dryRegs t v).gauge u w = y.gauge u w := by simp [State.dryRegs]
  have hclear (y : State) (m : Motion) (l : Loop) (th : Rest) (lim : Option Int) :
      (y.setWell t v { y.well t v with mo := m, lp := l, sh := { outerN := (y.sh t v).outerN, th := th, limIn := lim } }).gauge u w = y.gauge u w :=
    gauge_setWell _ rfl rfl
  unfold State.goDry State.on
  simp [hpumps, hregs, hclear]

@[simp] theorem gauge_retire (p reason : Nat) : (s.retire t v p reason).gauge u w = s.gauge u w := by
  unfold State.retire
  simp

end

end Sys2Proof.Machine

/-! PROOFS. O39, the two counts of an outer boundary under its checks, loads and tests. -/

namespace Sys2Proof.Machine

open Sys2Proof

section
variable {s x : State} {t u v w : Nat}

/-! ### In-field tests and splits (R216, R233, R235) -/

@[simp] theorem gauge_recentre : (s.recentre t v).gauge u w = s.gauge u w := gauge_of_onlyRegs (recentre_rest s)

@[simp] theorem gauge_testBegin (p k : Nat) (b : Bool) : (s.testBegin t v p k b).gauge u w = s.gauge u w := by
  unfold State.testBegin
  simp

@[simp] theorem gauge_testQueued : (s.testQueued t v).gauge u w = s.gauge u w := by
  unfold State.testQueued
  split
  · simp
  · rfl

@[simp] theorem gauge_testLeave : (s.testLeave t v).gauge u w = s.gauge u w := by
  unfold State.testLeave
  simp

@[simp] theorem gauge_testBack (p : Nat) : (s.testBack t v p).gauge u w = s.gauge u w := by
  unfold State.testBack State.penRise
  simp

@[simp] theorem gauge_testTell (y : TestX) (b : Bool) : (s.testTell t v y b).gauge u w = s.gauge u w := by
  unfold State.testTell
  simp

@[simp] theorem gauge_testAbandon : (s.testAbandon t v).gauge u w = s.gauge u w := by
  unfold State.testAbandon
  simp

@[simp] theorem gauge_testComplete : (s.testComplete t v).gauge u w = s.gauge u w := by
  unfold State.testComplete
  simp

@[simp] theorem gauge_trimStep : (s.trimStep t v).gauge u w = s.gauge u w := by
  unfold State.trimStep
  simp

@[simp] theorem gauge_shadowStep : (s.shadowStep t v).gauge u w = s.gauge u w := by
  unfold State.shadowStep
  simp

@[simp] theorem gauge_afterSplit : (s.afterSplit t v).gauge u w = s.gauge u w := by
  unfold State.afterSplit
  simp

theorem boundaryTest_gauge : (s.boundaryTest t v).gauge u w = s.gauge u w := by
  unfold State.boundaryTest
  simp

/-- The parts that waited for the boundary. -/
theorem boundaryFirst_gauge : (s.boundaryFirst t v).gauge u w = s.gauge u w := by
  have hretire (l : List Nat) : (s.each l (fun y p => if (y.pump t v p).retire ≠ 0 then y.retire t v p (y.pump t v p).retire else y)).gauge u w = s.gauge u w :=
    gauge_each _ _ fun y p => by simp
  unfold State.boundaryFirst
  dsimp only
  simp only [gauge_safeAdvance, gauge_testQueued, gauge_afterSplit, gauge_ite, gauge_goDry, hretire, ite_self]

/-! ### Checks (R222-R229) -/

@[simp] theorem gauge_sumCheck : (s.sumCheck t v).gauge u w = s.gauge u w := by
  have hopen (y : State) (l : List Nat) (c : Nat → Bool) :
      (y.each l (fun z p => z.updPump t v p (fun q => { q with openRun := if c p then q.openRun + 1 else 0 }))).gauge u w = y.gauge u w :=
    gauge_each _ _ fun _ _ => rfl
  unfold State.sumCheck
  simp [hopen]

@[simp] theorem gauge_learn : (s.learn t v).gauge u w = s.gauge u w := by
  unfold State.learn
  simp

@[simp] theorem gauge_senseNeg : (s.senseNeg t v).gauge u w = s.gauge u w := by
  unfold State.senseNeg State.on
  simp

@[simp] theorem gauge_unheld : (s.unheld t v).gauge u w = s.gauge u w := gauge_each _ _ fun _ _ => gauge_retire _ _

theorem boundaryChecks_gauge : (s.boundaryChecks t v).gauge u w = s.gauge u w := by
  have hretire (y : State) (l : List Nat) : (y.each l (fun z p => z.retire t v p 6)).gauge u w = y.gauge u w := gauge_each _ _ fun _ _ => gauge_retire _ _
  unfold State.boundaryChecks
  simp [hretire]

/-! ### Capability, breaches and ties (R32, R197, R205-R221) -/

@[simp] theorem gauge_takeCaps (b : Bool) : (s.takeCaps t v b).gauge u w = s.gauge u w := by
  have hpumps (l : List Nat) (f : Nat → PumpX → PumpX) : (s.each l (fun y p => y.updPump t v p (f p))).gauge u w = s.gauge u w := gauge_each _ _ fun _ _ => rfl
  unfold State.takeCaps
  simp [hpumps]

@[simp] theorem gauge_recompute (b : Bool) : (s.recompute t v b).gauge u w = s.gauge u w :=
  (gauge_of_wells ((congrArg State.wells (recompute_rest s t v b) :))).trans (gauge_takeCaps b)

@[simp] theorem gauge_logBreach (l phys kind seg : Nat) (a b : Bool) (n : Nat) : (s.logBreach t l phys kind seg a b n).gauge u w = s.gauge u w := by
  unfold State.logBreach
  simp

@[simp] theorem gauge_updDs (f : SliceX → SliceX) : (s.updDs t f).gauge u w = s.gauge u w := rfl

@[simp] theorem gauge_logOnce (l phys kind seg : Nat) (a b : Bool) (n : Nat) : (s.logOnce t l phys kind seg a b n).gauge u w = s.gauge u w := by
  unfold State.logOnce
  simp

@[simp] theorem gauge_charge (l phys kind : Nat) (a b : Bool) : (s.charge t l phys kind a b).gauge u w = s.gauge u w := by
  unfold State.charge State.enterGuard
  simp

@[simp] theorem gauge_breachWell (kind : Nat) : (s.breachWell t v kind).gauge u w = s.gauge u w :=
  gauge_each _ _ fun y l => by simp

@[simp] theorem gauge_updStream (l : Nat) (f : Stream → Stream) : (s.updStream t l f).gauge u w = s.gauge u w := rfl

@[simp] theorem gauge_capBreach (l b d : Nat) (ws : List Nat) : (s.capBreach t l b d ws).gauge u w = s.gauge u w := by
  have hlive (y : State) (z : Nat) (ls : List Nat) (m : Bool) : (y.each ls (fun v l => v.charge t l z bkCapability m true)).gauge u w = y.gauge u w :=
    gauge_each _ _ fun _ _ => gauge_charge ..
  unfold State.capBreach
  dsimp only
  refine (gauge_each ws _ fun y z => ?_).trans (gauge_updStream l _)
  exact (gauge_of_wells rfl).trans (hlive y z _ _)

@[simp] theorem gauge_recheckSteps : (s.recheckSteps t v).gauge u w = s.gauge u w := by
  unfold State.recheckSteps
  refine gauge_each _ _ fun y l => ?_
  refine gauge_each _ _ fun z e => ?_
  exact (gauge_capBreach ..).trans (gauge_updStream _ _)

@[simp] theorem gauge_mergeTie : (s.mergeTie t v).gauge u w = s.gauge u w := by
  unfold State.mergeTie
  dsimp only
  split
  · split
    · rfl
    · split
      · split
        · simp
        · rfl
      · simp
  · split
    · simp
    · rfl

@[simp] theorem gauge_regionOver : (s.regionOver t v).gauge u w = s.gauge u w := by
  unfold State.regionOver
  simp

@[simp] theorem gauge_excessStep : (s.excessStep t v).gauge u w = s.gauge u w := by
  unfold State.excessStep
  simp

@[simp] theorem gauge_cistFault (c : Nat) : (s.cistFault t c).gauge u w = s.gauge u w := by
  have hover : (s.each (cistWells c) (fun y v => y.wr (WL_TIE t v) WL_TIE.CIST_OVER 1)).gauge u w = s.gauge u w := gauge_each _ _ fun _ _ => rfl
  unfold State.cistFault
  simp [hover]

@[simp] theorem gauge_setProtRest (r : Nat) : (s.setProtRest t v r).gauge u w = s.gauge u w := by
  rw [setProtRest_eq]
  simp [State.restSet]

@[simp] theorem gauge_restReact : (s.restReact t v).gauge u w = s.gauge u w := by
  unfold State.restReact
  dsimp only
  split
  · simp
  · simp

@[simp] theorem gauge_closeTie (n : Nat) : (s.closeTie t v n).gauge u w = s.gauge u w := by
  unfold State.closeTie
  simp

@[simp] theorem gauge_deficitTie : (s.deficitTie t v).gauge u w = s.gauge u w := by
  unfold State.deficitTie
  dsimp only
  split_ifs
  · rfl
  · split
    · exact gauge_closeTie _
    · rfl
  · split
    · exact gauge_closeTie _
    · rfl
  · rfl
  · rfl

@[simp] theorem gauge_keepTie : (s.keepTie t v).gauge u w = s.gauge u w := by
  unfold State.keepTie
  split
  · exact gauge_each [v, s.rd (WL_TIE t v) WL_TIE.PARTNER] (fun (y : State) z =>
      (y.wr (WL_TIE t z) WL_TIE.PHASE 2).updSh t z (fun h => { h with quietUnload := false, lowRun := 0, unloadN := 0 })) fun _ _ => by simp
  · rfl

@[simp] theorem gauge_quietUnloads : (s.quietUnloads t v).gauge u w = s.gauge u w := by
  unfold State.quietUnloads
  simp

theorem gauge_deficitNoted : (s.deficitNoted t v).gauge u w = s.gauge u w := by
  unfold State.deficitNoted State.on
  simp

theorem gauge_deficitActs (d full : Bool) : (s.deficitActs t v d full).gauge u w = s.gauge u w := by
  have hpast : (s.deficitPast t v).gauge u w = s.gauge u w := by
    unfold State.deficitPast
    simp
  unfold State.deficitActs
  simp [hpast]

@[simp] theorem gauge_deficitReact : (s.deficitReact t v).gauge u w = s.gauge u w := by
  rw [deficitReact_eq]
  exact (gauge_deficitActs _ _).trans gauge_deficitNoted

theorem boundaryLoad_gauge : (s.boundaryLoad t v).gauge u w = s.gauge u w := by
  unfold State.boundaryLoad
  simp

theorem boundaryDry_gauge : (s.boundaryDry t v).gauge u w = s.gauge u w := by
  unfold State.boundaryDry
  simp

end

end Sys2Proof.Machine

/-! PROOFS. O39, an outer boundary counts itself and its telemetry; the obligation. -/

namespace Sys2Proof.Machine

open Sys2Proof

section
variable {s x : State} {t u v w : Nat}

/-! ### Regulation and priming at a boundary (R116, R154, R155) -/

theorem gauge_outerIssue : (s.outerIssue t v).gauge u w = s.gauge u w := by
  have htrims (y : State) (l : List (Nat × Word)) : (y.each l (fun z e => z.commitTrims t e)).gauge u w = y.gauge u w :=
    gauge_each _ _ fun z e => gauge_of_onlyRegs (commitTrims_rest z e)
  unfold State.outerIssue State.outerCommit State.on
  simp [htrims]

theorem boundaryVolt_gauge : (s.boundaryVolt t v).gauge u w = s.gauge u w := by
  have hissue (y : State) : (y.issueOuters t).gauge u w = y.gauge u w := by
    refine gauge_each _ _ fun z n => ?_
    split
    · exact gauge_outerIssue
    · rfl
  unfold State.boundaryVolt
  simp [hissue]

theorem gauge_primeFail : (s.primeFail t v).gauge u w = s.gauge u w := by
  refine gauge_each (v :: (s.followersOf t v).filter (fun f => s.stage t f == stCal || s.stage t f == stWait)) (fun (y : State) z =>
    (y.unprime t z).report t z 4 false) fun y z => ?_
  simp

theorem primeStep_gauge : (s.primeStep t v).gauge u w = s.gauge u w := by
  have hview (y : State) (c : Nat) : ((y.headView t c).primeView t c).gauge u w = y.gauge u w := rfl
  unfold State.primeStep State.waitStep State.rampStep
  simp [hview, gauge_primeFail]

theorem trackStep_gauge : (s.trackStep t v).gauge u w = s.gauge u w := by
  unfold State.trackStep
  simp

/-! ### The tile at a boundary -/

theorem tileInput_gauge : (s.tileInput t).gauge u w = s.gauge u w := by
  have hrest (y : State) (p : Int) : (y.overInputRest t p).gauge u w = y.gauge u w := rfl
  unfold State.tileInput
  simp [hrest]

theorem lowPower_gauge : (s.lowPower t).gauge u w = s.gauge u w := by
  have hbumps (l : List Nat) : (s.each l (fun y _ => y.bump (AD_STAT t))).gauge u w = s.gauge u w := gauge_each _ _ fun _ _ => gauge_bump _
  have hpower (y : State) : (y.power3 t).gauge u w = y.gauge u w := by
    unfold State.power3
    simp
  have hinj (y : State) : (y.startInj t).gauge u w = y.gauge u w := by
    unfold State.startInj
    dsimp only
    split
    · split
      · exact (hpower _).trans rfl
      · rfl
    · rfl
  have hsar (y : State) (f : SarX → SarX) : (y.updSar t f).gauge u w = y.gauge u w := rfl
  unfold State.lowPower
  simp only [gauge_ite, hinj, hpower, hsar, gauge_wr, hbumps, ite_self]

theorem dormant_gauge : (s.dormant t).gauge u w = s.gauge u w := by
  unfold State.dormant
  simp

/-! ### The outer period that ends -/

theorem boundarySense_gauge (edges : List (List Nat)) :
    (s.boundarySense t w edges).gauge t w = ((s.gauge t w).1 + 1, (s.gauge t w).2) := by
  have hcount : (s.updSh t w (fun h => { h with outerN := h.outerN + 1 })).gauge t w = ((s.gauge t w).1 + 1, (s.gauge t w).2) := by
    simp [State.gauge, State.updSh, State.sh]
  have hdecode (y : State) (l : List Nat) (f : Nat → Nat) : (y.each l (fun z p => z.decodePump t w p (f p))).gauge t w = y.gauge t w := by
    refine gauge_each _ _ fun z p => ?_
    rw [decodePump_eq]
    simp [State.isnsFormed]
  have hmeans (y : State) : (y.senseMeans t w).gauge t w = y.gauge t w := gauge_setWell _ rfl rfl
  have hfollow (y : State) : (y.followers t w).gauge t w = y.gauge t w := gauge_each _ _ fun _ _ => rfl
  have hcurrent (y : State) : (y.wellCurrent t w).gauge t w = y.gauge t w := by
    unfold State.wellCurrent
    simp
  unfold State.boundarySense
  dsimp only
  rw [hcurrent, hfollow, hmeans, hdecode, hcount]

theorem teleStep_gauge : (s.teleStep t w).gauge t w = ((s.gauge t w).1, (s.gauge t w).2 + 1) := by
  unfold State.teleStep
  dsimp only
  simp [State.gauge, State.sh]

theorem boundaryPeriod_gauge (edges : List (List Nat)) :
    (s.boundaryPeriod t w edges).gauge t w = ((s.gauge t w).1 + 1, (s.gauge t w).2 + 1) := by
  have htie (y : State) : (y.tieStep t w).gauge t w = y.gauge t w := by
    unfold State.tieStep
    simp
  have hduty (y : State) : (y.hystDuty t w).gauge t w = y.gauge t w := by
    unfold State.hystDuty
    simp
  have hcheck (y : State) : (y.envelopeCheck t w edges).gauge t w = y.gauge t w := by
    unfold State.envelopeCheck
    simp
  have hclear (y : State) : (y.clearOn t w).gauge t w = y.gauge t w := gauge_each _ _ fun _ _ => by simp
  have hlogged (y : State) : (y.updSh t w (fun h => if h.logged = [] then h else { h with logged := [] })).gauge t w = y.gauge t w :=
    gauge_updSh _ fun h => by split <;> rfl
  unfold State.boundaryPeriod
  dsimp only
  rw [hlogged, hclear, gauge_ite, hcheck, ite_self, teleStep_gauge, hduty, htie, boundarySense_gauge]

/-- An outer boundary counts itself, and the outer period in its telemetry. -/
theorem outerEvaluation_counts (u w : Nat) (edges : List (List Nat)) (s : State) (hok : s.wellOk u w = true)
    (hawake : w = 14 ∨ s.rd (PH_PWR u) PH_PWR.STATE ≠ 1) : s.yields (.outerEvaluation u w edges) (fun t =>
      (t.sh u w).outerN = (s.sh u w).outerN + 1 ∧ (t.well u w).tel.n = (s.well u w).tel.n + 1) := by
  refine ⟨s.outerEvaluation u w edges, rfl, ?_⟩
  have he : s.outerEvaluation u w edges = _ := if_pos (by rw [hok]; simpa using hawake)
  have hg : (s.outerEvaluation u w edges).gauge u w = ((s.gauge u w).1 + 1, (s.gauge u w).2 + 1) := by
    rw [he, dormant_gauge, lowPower_gauge, tileInput_gauge, gauge_ite, trackStep_gauge, primeStep_gauge, ite_self, boundaryTest_gauge, gauge_ite,
      boundaryVolt_gauge, boundaryLoad_gauge, boundaryChecks_gauge, boundaryDry_gauge, ite_self, boundaryFirst_gauge, boundaryPeriod_gauge]
  exact Prod.mk.inj hg

/-- Settles O39: admission and ramps, a park's timeout, the parts of an outer boundary and what each forms, overloads and capability events. -/
theorem primingAndLoad : Obligations.PrimingAndLoad := by
  unfold Obligations.PrimingAndLoad
  refine ⟨primeAdmit_admits, primeAdmit_waits, fun u w s hw _ hone => waitStep_counts u w s hw hone, primeResume_resumes, parkTimeout_drops,
    outerEvaluation_counts, outerEvaluation_parts, decodePump_forms, fun u w free s v hv _ => recompute_forms u w free s v hv, loadLine_vTgt,
    fun u w s z g raw hgw hu _ hrole hz hg hraw => share_forms u w s z g raw hgw hu hrole hz hg (by subst hz hg; exact hraw),
    fun u w s v hv _ => deficitReact_forms u w s v hv, tileInput_means, wellOverload_marks, capabilityEvent_classes, capabilityEvent_sleeps⟩

end

end Sys2Proof.Machine

/-! PROOFS. O28: a thermal limit that the image keys beyond its table lands in a well's WL_LIMIT, which acceptance does not leave as it was. -/

namespace Sys2Proof.Machine

open Sys2Proof

/-! ### What an acceptance of one tile leaves alone -/

/-- The registers that decide what acceptance does to a chip of one tile, and the WL_LIMIT that is not to change. -/
def imageWatched : List Nat :=
  [HD_TOPO, CL_JOB, CL_PORT 0, CL_PORT 1, CL_PORT 2, CL_PORT 3, ER_STAT, IC_SRC 144, DS_STAT 0, WL_LIMIT 0 0]

/-- Those registers, the clock and the fault collector. -/
def State.imageView (s : State) : List Word × Clk × FaultX := (imageWatched.map s.reg, s.clk, s.fault)

section
variable {s u : State} {t w : Nat} {m : Img}

theorem imageView_of_reg (h : ∀ b ∈ imageWatched, u.reg b = s.reg b) (hc : u.clk = s.clk) (hf : u.fault = s.fault) : u.imageView = s.imageView := by
  rw [State.imageView, hc, hf, List.map_congr_left h, State.imageView]

theorem imageView_reg (h : u.imageView = s.imageView) {b : Nat} (hb : b ∈ imageWatched) : u.reg b = s.reg b :=
  List.map_inj_left.mp (congrArg Prod.fst h) b hb

theorem imageView_clk (h : u.imageView = s.imageView) : u.clk = s.clk := congrArg (fun v => v.2.1) h
theorem imageView_fault (h : u.imageView = s.imageView) : u.fault = s.fault := congrArg (fun v => v.2.2) h

theorem setReg_imageView {a : Nat} (d : Word) (ha : a ∉ imageWatched) : (s.setReg a d).imageView = s.imageView :=
  imageView_of_reg (fun b hb => (reg_setReg s a b d).trans (if_neg fun (e : b = a) => ha (e ▸ hb))) rfl rfl

theorem wr_imageView {a : Nat} (f : Fld) (v : Nat) (ha : a ∉ imageWatched) : (s.wr a f v).imageView = s.imageView :=
  imageView_of_reg (fun b hb => reg_wr_ne s a b f v fun e => ha (e ▸ hb)) rfl rfl

/-- A field that takes the value it has changes nothing. -/
theorem wr_same_imageView {a : Nat} (f : Fld) (v : Nat) (h : f.set (s.reg a) v = s.reg a) : (s.wr a f v).imageView = s.imageView :=
  imageView_of_reg (fun b _ => (reg_wr s a b f v).trans (by
    split
    next e => rw [h, e]
    next => rfl)) rfl rfl

theorem setImage_imageView {a : Nat} (d : Word) (ha : a ∉ imageWatched) : (s.setImage a d).imageView = s.imageView := by
  unfold State.setImage
  split
  · exact setReg_imageView _ ha
  · rfl

theorem each_imageView {α : Type} (l : List α) (f : State → α → State) (h : ∀ u, ∀ e ∈ l, (f u e).imageView = u.imageView) (s : State) :
    (s.each l f).imageView = s.imageView := each_mem_keeps State.imageView l f h s

/-- Registers of tile 0 beside its DS_STAT and the WL_LIMIT of its well 0. -/
theorem offTile_unwatched {a : Nat} (h0 : 0x100000 ≤ a) (h1 : a ≠ 0x101011) (h2 : a ≠ 0x102001) : a ∉ imageWatched := by
  simp only [imageWatched, HD_TOPO, CL_JOB, CL_PORT, ER_STAT, IC_SRC, DS_STAT, WL_LIMIT, wlBase, phBase, List.mem_cons, List.not_mem_nil, or_false]
  omega

/-- Registers of a well's block beside WL_LIMIT. -/
theorem offWell_unwatched {k : Nat} (hw : w < 15) (hk : k < 0x100) (h : k ≠ 0x11) : wlBase 0 w + k ∉ imageWatched := by
  simp only [wlBase, phBase]
  exact offTile_unwatched (by omega) (by omega) (by omega)

/-! ### The parts of a tile's acceptance -/

theorem applyLoop_imageView (hw : w < 15) : (s.applyLoop m 0 w).imageView = s.imageView := by
  have hgain : ∀ (u : State) (i : Nat) (d : Word), i < 6 → (u.setImage (WL_GAIN 0 w i) d).imageView = u.imageView := fun u i d hi => by
    rw [WL_GAIN, Nat.add_assoc]
    exact setImage_imageView d (offWell_unwatched hw (by omega) (by omega))
  unfold State.applyLoop
  refine (setImage_imageView (a := WL_FRULE1 0 w) _ (offWell_unwatched hw (by decide) (by decide))).trans ?_
  refine (setImage_imageView (a := WL_FRULE0 0 w) _ (offWell_unwatched hw (by decide) (by decide))).trans ?_
  refine (setImage_imageView (a := WL_WIN 0 w) _ (offWell_unwatched hw (by decide) (by decide))).trans ?_
  refine (setImage_imageView (a := WL_OUTER 0 w) _ (offWell_unwatched hw (by decide) (by decide))).trans ?_
  refine (each_imageView _ _ (fun u i hi => ?_) _).trans (setImage_imageView (a := WL_EXP 0 w) _ (offWell_unwatched hw (by decide) (by decide)))
  have h3 : i < 3 := List.mem_range.mp hi
  exact (hgain _ (3 + i) _ (by omega)).trans (hgain u i _ (by omega))

theorem updPump_imageView (p : Nat) (f : PumpX → PumpX) : (s.updPump t w p f).imageView = s.imageView := imageView_of_reg (fun _ _ => rfl) rfl rfl

theorem setService_imageView {p : Nat} (hw : w < 15) (hp : p < 4) (v : Nat) : (s.setService 0 w p v).imageView = s.imageView := by
  refine wr_imageView _ _ ?_
  rw [PM_STAT, Nat.add_assoc]
  exact offWell_unwatched hw (by omega) (by omega)

theorem backToOff_imageView (hw : w < 15) : (s.backToOff 0 w).imageView = s.imageView := by
  refine each_imageView _ _ (fun u p hp => ?_) s
  have hp4 : p < 4 := lt_of_lt_of_le (List.mem_range.mp hp) (installed_le s 0 w)
  dsimp only
  split
  · exact (setService_imageView hw hp4 0).trans (updPump_imageView _ _)
  split
  · exact (setService_imageView hw hp4 1).trans (updPump_imageView _ _)
  · exact updPump_imageView _ _

theorem applyMotion_imageView (hw : w < 14) : (s.applyMotion m 0 w).imageView = s.imageView := by
  have hw15 : w < 15 := by omega
  unfold State.applyMotion
  refine (setImage_imageView (a := WL_VOTE_CFG 0 w) _ (offWell_unwatched hw15 (by decide) (by decide))).trans ?_
  refine (wr_imageView (a := WL_TRACK 0 w) _ _ (offWell_unwatched hw15 (by decide) (by decide))).trans ?_
  refine (wr_imageView (a := WL_SETPT 0 w) _ _ (offWell_unwatched hw15 (by decide) (by decide))).trans ?_
  refine (setImage_imageView (a := WL_MOTION1 0 w) _ (offWell_unwatched hw15 (by decide) (by decide))).trans ?_
  refine (setImage_imageView (a := WL_MOTION0 0 w) _ (offWell_unwatched hw15 (by decide) (by decide))).trans ?_
  refine each_imageView _ _ (fun u i hi => ?_) s
  have h3 : i < 3 := List.mem_range.mp hi
  rw [WL_PROF, Nat.add_assoc]
  exact setImage_imageView _ (offWell_unwatched hw15 (by omega) (by omega))

theorem setMapState_imageView {k : Nat} (hk : k < 96) (st : Nat) : (s.setMapState 0 k st).imageView = s.imageView := by
  have hmap : PL_MAP (96 * 0 + k) ∉ imageWatched := by
    simp only [imageWatched, HD_TOPO, CL_JOB, CL_PORT, ER_STAT, IC_SRC, DS_STAT, WL_LIMIT, wlBase, phBase, PL_MAP, List.mem_cons, List.not_mem_nil,
      or_false]
    omega
  have hpwr : PH_CLPWR 0 k ∉ imageWatched := by
    simp only [PH_CLPWR, phBase]
    exact offTile_unwatched (by omega) (by omega) (by omega)
  exact imageView_of_reg (fun b hb => setMapState_reg s 0 k st b (fun e => hmap (e ▸ hb)) fun e => hpwr (e ▸ hb))
    (congrArg (·.clk) (setMapState_rest s 0 k st) :) (congrArg (·.fault) (setMapState_rest s 0 k st) :)

theorem mapIdentity_imageView : (s.mapIdentity 0).imageView = s.imageView := by
  refine each_imageView _ _ (fun u k hk => ?_) s
  have hk96 : k < 96 := List.mem_range.mp hk
  have hmap : PL_MAP (96 * 0 + k) ∉ imageWatched := by
    simp only [imageWatched, HD_TOPO, CL_JOB, CL_PORT, ER_STAT, IC_SRC, DS_STAT, WL_LIMIT, wlBase, phBase, PL_MAP, List.mem_cons, List.not_mem_nil,
      or_false]
    omega
  dsimp only
  split
  · exact setMapState_imageView hk96 3
  split
  · exact (setMapState_imageView hk96 1).trans (wr_imageView _ _ hmap)
  · exact (setMapState_imageView hk96 _).trans (wr_imageView _ _ hmap)

theorem restartEngines_imageView : (s.restartEngines t).imageView = s.imageView := imageView_of_reg (fun _ _ => rfl) rfl rfl

theorem loadNco_imageView : (s.loadNco t).imageView = s.imageView := imageView_of_reg (fun _ _ => rfl) rfl rfl

/-- A tile takes its values; then the thermal limits the image keys to it. -/
theorem applyTile_limits : ∃ x : State, x.imageView = s.imageView ∧
    s.applyTile m 0 = x.each (m.recs 7 0 1) (fun u r => u.setImage (TH_LIM 0 r.key) (r.words.getD 0 0)) := by
  refine ⟨_, ?_, rfl⟩
  refine (setImage_imageView _ (by decide)).trans ((setImage_imageView _ (by decide)).trans ?_)
  refine (setImage_imageView _ (by decide)).trans ((wr_imageView _ _ (by decide)).trans ?_)
  refine (wr_imageView _ _ (by decide)).trans ((wr_imageView _ _ (by decide)).trans ?_)
  refine (wr_imageView _ _ (by decide)).trans ((wr_imageView _ _ (by decide)).trans ?_)
  refine (setImage_imageView _ (by decide)).trans ((each_imageView _ _ (fun u c hc => ?_) _).trans ?_)
  · have h3 : c < 3 := List.mem_range.mp hc
    refine wr_imageView _ _ ?_
    simp only [PH_CIST, phBase]
    exact offTile_unwatched (by omega) (by omega) (by omega)
  · exact loadNco_imageView.trans ((wr_imageView _ _ (by decide)).trans (wr_imageView _ _ (by decide)))

end

end Sys2Proof.Machine

/-! PROOFS. O28: acceptance of an image of one tile whose thermal limit is keyed to a WL_LIMIT. -/

namespace Sys2Proof.Machine

open Sys2Proof

/-! ### Acceptance of one tile, part by part -/

/-- A chip of one tile on which the parts of an acceptance touch little: its slice is UNBOUND, its ports are off, it is in no job, it records
nothing, and event 144 pends already. -/
structure State.oneTile (s : State) : Prop where
  topo : s.reg HD_TOPO = 0x01000000
  job : s.jobState = jbSolo
  ports : ∀ n, n < 4 → s.portState n = poOff
  noFlash : s.flag ER_STAT ER_STAT.NOFLASH = true
  pends : s.flag (IC_SRC 144) IC_SRC.PEND = true
  unbound : s.dsState 0 = dsUnbound

section
variable {s u : State} {m : Img}

theorem port_watched {n : Nat} (hn : n < 4) : CL_PORT n ∈ imageWatched := by
  interval_cases n <;> decide

theorem State.oneTile.of_view (hs : s.oneTile) (h : u.imageView = s.imageView) : u.oneTile where
  topo := (imageView_reg h (by decide)).trans hs.topo
  job := (rd_of_reg (imageView_reg h (by decide)) _).trans hs.job
  ports := fun n hn => (portState_of_reg (imageView_reg h (port_watched hn))).trans (hs.ports n hn)
  noFlash := (flag_of_reg (imageView_reg h (by decide)) _).trans hs.noFlash
  pends := (flag_of_reg (imageView_reg h (by decide)) _).trans hs.pends
  unbound := (rd_of_reg (imageView_reg h (by decide)) _).trans hs.unbound

theorem State.oneTile.tileCount (hs : s.oneTile) : s.tileCount = 1 := by
  rw [State.tileCount, State.rd, hs.topo]
  decide

theorem State.oneTile.allTiles (hs : s.oneTile) : s.allTiles = [0] := by
  rw [State.allTiles, hs.tileCount]
  rfl

/-- HD_TOPO takes the shape it has. -/
theorem topo_imageView (hs : s.oneTile) (f : Fld) (v : Nat) (h : f.set 0x01000000 v = (0x01000000 : Word)) : (s.wr HD_TOPO f v).imageView = s.imageView :=
  wr_same_imageView f v (by rw [hs.topo, h])

/-- With no lane enabled, ports that are off stay off. -/
theorem linkPorts_off (hl : s.img.lanes = 0) (hs : s.oneTile) : s.linkPorts = s := by
  have hstep : ∀ n, n < 4 → (if s.portOn n then (if s.portState n = poOff then s.clearPort n poDetect else s)
      else if s.portState n = poOff then s else s.clearPort n poOff) = s := fun n hn => by
    have hoff : s.portOn n = false := by simp [State.portOn, hl, bit]
    rw [hoff, if_neg Bool.false_ne_true, if_pos (hs.ports n hn)]
  have hlist : ∀ l : List Nat, (∀ n ∈ l, n < 4) → s.each l (fun u n =>
      if u.portOn n then (if u.portState n = poOff then u.clearPort n poDetect else u)
      else if u.portState n = poOff then u else u.clearPort n poOff) = s := by
    intro l
    induction l with
    | nil => exact fun _ => rfl
    | cons n l ih =>
      intro hl
      refine (congrArg (fun u : State => u.each l _) (hstep n (hl n List.mem_cons_self))).trans ?_
      exact ih fun k hk => hl k (List.mem_cons_of_mem _ hk)
  exact hlist (List.range 4) fun n hn => List.mem_range.mp hn

theorem linkIdentity_imageView (hs : s.oneTile) (inst prio : Nat) : (s.linkIdentity inst prio 0).imageView = s.imageView := by
  let x : State := { (s.wr CL_STAT CL_STAT.INSTANCE inst).wr CL_STAT CL_STAT.ROOT_PRIO prio with
    img := { ((s.wr CL_STAT CL_STAT.INSTANCE inst).wr CL_STAT CL_STAT.ROOT_PRIO prio).img with lanes := 0 } }
  have hx : x.imageView = s.imageView := (imageView_of_reg (fun _ _ => rfl) rfl rfl : x.imageView =
    ((s.wr CL_STAT CL_STAT.INSTANCE inst).wr CL_STAT CL_STAT.ROOT_PRIO prio).imageView).trans
      ((wr_imageView _ _ (by decide)).trans (wr_imageView _ _ (by decide)))
  have hone : x.oneTile := hs.of_view hx
  have hlink : s.linkIdentity inst prio 0 = x.linkPorts.leaveSoon true := rfl
  rw [hlink, linkPorts_off rfl hone, State.leaveSoon, if_pos hone.job, hx]

/-- The wafer's values, of an image that names no lanes and the shape the chip has. -/
theorem acceptWafer_imageView (hs : s.oneTile) (ht : imgTiles m.words = 1) (hr : imgRows m.words = 0) (hc : imgCols m.words = 0) (hi : m.ident = 0) :
    (s.acceptWafer m).imageView = s.imageView := by
  have h1 := topo_imageView hs HD_TOPO.TILES (imgTiles m.words) (by rw [ht]; decide)
  have h2 := topo_imageView (hs.of_view h1) HD_TOPO.ROWS (imgRows m.words) (by rw [hr]; decide)
  have h3 := topo_imageView ((hs.of_view h1).of_view h2) HD_TOPO.COLS (imgCols m.words) (by rw [hc]; decide)
  have h4 := topo_imageView (((hs.of_view h1).of_view h2).of_view h3) HD_TOPO.INSTANCE (idInstance.get m.ident) (by rw [hi]; decide)
  have hl : idLanes.get m.ident = 0 := by rw [hi]; decide
  have hrest := h4.trans (h3.trans (h2.trans h1))
  unfold State.acceptWafer
  dsimp only
  rw [hl]
  generalize (((s.wr HD_TOPO HD_TOPO.TILES (imgTiles m.words)).wr HD_TOPO HD_TOPO.ROWS (imgRows m.words)).wr HD_TOPO HD_TOPO.COLS
    (imgCols m.words)).wr HD_TOPO HD_TOPO.INSTANCE (idInstance.get m.ident) = x at hrest ⊢
  have hregs : ((((((x.wr HD_SB_STAT HD_SB_STAT.STATIC_ADDR (idStatic.get m.ident)).setImage CG_CFG0 (m.val 8 0xFF 1 0 0)).setImage CG_CFG1
      (m.val 8 0xFF 1 0 1)).setImage PL_CFG (m.val 9 0xFF 1 0 0)).wr CG_CAP CG_CAP.WAFER_LIM (m.waferLim s.fuses)).wr CG_CAL CG_CAL.K
      0x4000).imageView = s.imageView :=
    (wr_imageView _ _ (by decide)).trans ((wr_imageView _ _ (by decide)).trans ((setImage_imageView _ (by decide)).trans
      ((setImage_imageView _ (by decide)).trans ((setImage_imageView _ (by decide)).trans ((wr_imageView _ _ (by decide)).trans hrest)))))
  generalize (((((x.wr HD_SB_STAT HD_SB_STAT.STATIC_ADDR (idStatic.get m.ident)).setImage CG_CFG0 (m.val 8 0xFF 1 0 0)).setImage CG_CFG1
    (m.val 8 0xFF 1 0 1)).setImage PL_CFG (m.val 9 0xFF 1 0 0)).wr CG_CAP CG_CAP.WAFER_LIM (m.waferLim s.fuses)).wr CG_CAL CG_CAL.K 0x4000 = y at hregs ⊢
  let z : State := { y with
    sb := { y.sb with ibiList := idIbi.get m.ident }
    gov := { y.gov with skipWins := y.gov.skipWins ++ [y.clk.beat / 4096] } }
  have hz : z.imageView = s.imageView := (imageView_of_reg (fun _ _ => rfl) rfl rfl : z.imageView = y.imageView).trans hregs
  exact (linkIdentity_imageView (hs.of_view hz) _ _).trans hz

theorem acceptTables_imageView : (s.acceptTables m).imageView = s.imageView := imageView_of_reg (fun _ _ => rfl) rfl rfl

theorem acceptReactions_imageView : (s.acceptReactions m).imageView = s.imageView := by
  refine each_imageView _ _ (fun u n hn => ?_) s
  obtain ⟨k, hk, rfl⟩ := List.mem_map.mp hn
  have hk27 : k < 27 := List.mem_range.mp hk
  have hsrc : IC_SRC (5 + k) ∉ imageWatched := by
    simp only [imageWatched, HD_TOPO, CL_JOB, CL_PORT, ER_STAT, IC_SRC, DS_STAT, WL_LIMIT, wlBase, phBase, List.mem_cons, List.not_mem_nil, or_false]
    omega
  have hreact : FC_REACT (5 + k) ∉ imageWatched := by
    simp only [imageWatched, HD_TOPO, CL_JOB, CL_PORT, ER_STAT, IC_SRC, FC_REACT, DS_STAT, WL_LIMIT, wlBase, phBase, List.mem_cons, List.not_mem_nil,
      or_false]
    omega
  exact (wr_imageView _ _ hsrc).trans ((wr_imageView _ _ hsrc).trans (setImage_imageView _ hreact))

/-- A word set at WL_LIMIT, as the image's thermal limit of key 0x791 is. -/
theorem setImage_limit (hs : s.oneTile) (d : Word) : s.setImage (TH_LIM 0 0x791) d = s.setReg (WL_LIMIT 0 0) (d &&& 0xFFFF) := by
  have hrow : s.rowOf (TH_LIM 0 0x791) = some limitRow := by
    have hok : s.tileOk 0 = true := by rw [State.tileOk, hs.tileCount]; rfl
    have hplace : place (TH_LIM 0 0x791) = .well 0 0 0x11 := by decide
    simp only [State.rowOf, hplace, hok, if_true, hs.tileCount]
    decide
  have hrsv : ~~~(BitVec.ofNat 64 limitRow.rsv) = (0xFFFF : Word) := by decide
  rw [State.setImage, hrow]
  exact congrArg (fun x => s.setReg (WL_LIMIT 0 0) (d &&& x)) hrsv

/-- The tile's acceptance, of an image whose only thermal limit is keyed to WL_LIMIT of well 0. -/
theorem acceptTile_limit (hs : s.oneTile) {r : ImgRec} (hr : m.recs 7 0 1 = [r]) (hk : r.key = 0x791) :
    (s.acceptTile m 0).reg (WL_LIMIT 0 0) = r.words.getD 0 0 &&& 0xFFFF ∧ (s.acceptTile m 0).oneTile ∧
      (s.acceptTile m 0).clk = s.clk ∧ (s.acceptTile m 0).fault = s.fault := by
  have hun : s.unbindForImage 0 = s := by
    rw [State.unbindForImage, hs.unbound, if_neg (by decide), if_pos rfl]
  obtain ⟨x, hx, hlim⟩ := applyTile_limits (s := s) (m := m)
  have hview : (s.acceptTile m 0).imageView = (x.setReg (WL_LIMIT 0 0) (r.words.getD 0 0 &&& 0xFFFF)).imageView := by
    rw [← setImage_limit (hs.of_view hx), ← hk]
    unfold State.acceptTile
    rw [hun, hlim, hr]
    refine mapIdentity_imageView.trans (restartEngines_imageView.trans ?_)
    refine (each_imageView _ _ (fun u w hw => applyMotion_imageView (List.mem_range.mp hw)) _).trans ?_
    exact each_imageView _ _ (fun u w hw => (backToOff_imageView (List.mem_range.mp hw)).trans (applyLoop_imageView (List.mem_range.mp hw))) _
  have hset (b : Nat) (hb : b ∈ imageWatched) (hne : b ≠ WL_LIMIT 0 0) : (s.acceptTile m 0).reg b = s.reg b :=
    (imageView_reg hview hb).trans ((reg_setReg _ _ _ _).trans ((if_neg hne).trans (imageView_reg hx hb)))
  have hclk : (s.acceptTile m 0).clk = s.clk := (imageView_clk hview).trans ((setReg_clk x _ _).trans (imageView_clk hx))
  have hfault : (s.acceptTile m 0).fault = s.fault := (imageView_fault hview).trans ((setReg_fault x _ _).trans (imageView_fault hx))
  refine ⟨?_, ⟨?_, ?_, ?_, ?_, ?_, ?_⟩, hclk, hfault⟩
  · exact (imageView_reg hview (by decide)).trans ((reg_setReg _ _ _ _).trans (if_pos rfl))
  · exact (hset _ (by decide) (by decide)).trans hs.topo
  · exact (rd_of_reg (hset _ (by decide) (by decide)) _).trans hs.job
  · refine fun n hn => (portState_of_reg (hset _ (port_watched hn) ?_)).trans (hs.ports n hn)
    simp only [CL_PORT, WL_LIMIT, wlBase, phBase]
    omega
  · exact (flag_of_reg (hset _ (by decide) (by decide)) _).trans hs.noFlash
  · exact (flag_of_reg (hset _ (by decide) (by decide)) _).trans hs.pends
  · exact (rd_of_reg (hset _ (by decide) (by decide)) _).trans hs.unbound

end

end Sys2Proof.Machine

/-! PROOFS. O28: the image, the chip that accepts it, and the refutation. -/

namespace Sys2Proof.Machine

open Sys2Proof

section
variable {s : State} {m : Img}

/-! ### The end of an acceptance -/

/-- What follows the tile's acceptance: the registers of HD_IMG, a record that has no flash, event 144 once more. -/
theorem acceptEnd_leaves (hs : s.oneTile) (d : Word) (b : Nat) (l : List Word) {u : State}
    (hu : u = ((((s.minSpares.wr HD_IMG_STAT HD_IMG_STAT.ACCEPTED 1).setReg HD_IMG_ID d).wr HD_IMG_BUILD HD_IMG_BUILD.BUILD b).updLoad (fun l =>
      { l with passed := false }))) :
    ((u.record 6 0 l).pend 144).reg (WL_LIMIT 0 0) = s.reg (WL_LIMIT 0 0) ∧ ((u.record 6 0 l).pend 144).clk = s.clk ∧
      ((u.record 6 0 l).pend 144).fault = s.fault := by
  have hview : u.imageView = s.imageView := by
    rw [hu]
    refine (imageView_of_reg (fun _ _ => rfl) rfl rfl : _ = (((s.minSpares.wr HD_IMG_STAT HD_IMG_STAT.ACCEPTED 1).setReg HD_IMG_ID d).wr HD_IMG_BUILD
      HD_IMG_BUILD.BUILD b).imageView).trans ?_
    exact (wr_imageView _ _ (by decide)).trans ((setReg_imageView _ (by decide)).trans ((wr_imageView _ _ (by decide)).trans
      (wr_imageView _ _ (by decide))))
  have hone : u.oneTile := hs.of_view hview
  have hrec : u.record 6 0 l = u := by
    rw [State.record, State.enq, if_pos hone.noFlash]
    rfl
  have hpend : u.pend 144 = u.wr (IC_SRC 144) IC_SRC.OVR 1 := by
    have hlisted : ¬ (144 = 0 ∨ 511 < 144 ∨ listedSource 144 = false) := by decide
    rw [State.pend, if_neg hlisted, State.pendOnly, if_pos hone.pends, hone.pends]
    rfl
  rw [hrec, hpend]
  exact ⟨(reg_wr_ne _ _ _ _ _ (by decide)).trans (imageView_reg hview (by decide)), (wr_clk u _ _ _).trans (imageView_clk hview), (wr_fault u _ _ _).trans (imageView_fault hview)⟩

theorem each_singleton {α : Type} (a : α) (f : State → α → State) : s.each [a] f = f s a := rfl

/-- Acceptance of an image of one tile whose only thermal limit is keyed to WL_LIMIT of well 0: it writes that register, and raises nothing. -/
theorem acceptImage_limit (hs : s.oneTile) (hm : imgOf s.load.slot = m) (ht : imgTiles m.words = 1) (hr : imgRows m.words = 0)
    (hc : imgCols m.words = 0) (hi : m.ident = 0) (ha : imgAutoPrime m.words = 0) {r : ImgRec} (hrec : m.recs 7 0 1 = [r]) (hk : r.key = 0x791) :
    s.acceptImage.reg (WL_LIMIT 0 0) = r.words.getD 0 0 &&& 0xFFFF ∧ s.acceptImage.clk = s.clk ∧ s.acceptImage.fault = s.fault := by
  have hview : (((s.acceptWafer m).acceptTables m).acceptReactions m).imageView = s.imageView :=
    acceptReactions_imageView.trans (acceptTables_imageView.trans (acceptWafer_imageView hs ht hr hc hi))
  unfold State.acceptImage
  dsimp only
  rw [hm, if_pos ha]
  generalize ((s.acceptWafer m).acceptTables m).acceptReactions m = y at hview ⊢
  have hstat : (y.wr HD_IMG_STAT HD_IMG_STAT.STATE 4).imageView = s.imageView := (wr_imageView _ _ (by decide)).trans hview
  rw [(hs.of_view hview).allTiles, each_singleton]
  obtain ⟨hlim, hone, hclk, hfault⟩ := acceptTile_limit (hs.of_view hstat) hrec hk
  obtain ⟨hreg', hclk', hfault'⟩ := acceptEnd_leaves hone ((imgDigest m.words).extractLsb' 320 64) (imgBuild m.words) _ rfl
  exact ⟨hreg'.trans hlim, hclk'.trans (hclk.trans (imageView_clk hstat)), hfault'.trans (hfault.trans (imageView_fault hstat))⟩

/-! ### An image whose only record is a thermal limit of key 0x791 -/

/-- One tile, one wafer-scoped section of thermal limits, in it one record. -/
def strayWords : List Word := [0, 0x01000000, 0x01000000, 0x07FF000005000002, 0, 0x0107910000000001, 1]

theorem strayWords_recs : (imgOf strayWords).recs 7 0 1 = [⟨1, 0x791, 5, [1]⟩] := by decide

theorem acceptImage_stray (hs : s.oneTile) (hl : s.load.slot = strayWords) :
    s.acceptImage.reg (WL_LIMIT 0 0) = 1 ∧ s.acceptImage.clk = s.clk ∧ s.acceptImage.fault = s.fault :=
  acceptImage_limit hs (congrArg imgOf hl) (by decide) (by decide) (by decide) (by decide) (by decide) strayWords_recs rfl

/-! ### The counterexample -/

/-- A sleeping chip of one tile in APPLYING, with that image in its slot; event 144 pends, and the recorder has no flash. -/
def strayAccept : State :=
  { (((State.reset.setReg HD_TOPO 0x01000000).wr HD_IMG_STAT HD_IMG_STAT.STATE 3).wr ER_STAT ER_STAT.NOFLASH 1).wr (IC_SRC 144) IC_SRC.PEND 1 with
    clk := { fast := .sleep }
    load := { slot := strayWords } }

theorem strayAccept_oneTile : strayAccept.oneTile where
  topo := by decide
  job := by decide
  ports := by decide
  noFlash := by decide
  pends := by decide
  unbound := by decide

theorem strayAccept_silent : strayAccept.silent 0 = false := by decide

/-- It accepts the image and sleeps on. -/
theorem strayAccept_accepts : exec .imageAccept strayAccept = .next strayAccept.acceptImage := by
  have hx : exec .imageAccept strayAccept = .next strayAccept.imageAccept.settle := rfl
  have hall : strayAccept.allTiles.any (fun t => strayAccept.silent t) = false := by
    rw [strayAccept_oneTile.allTiles, List.any_cons, strayAccept_silent]
    rfl
  have hacc : strayAccept.imageAccept = strayAccept.acceptImage := by
    rw [State.imageAccept, if_pos (by decide), if_neg (by decide), hall, if_neg (by decide)]
  have hnow : strayAccept.acceptImage.fault.now = [] := by
    rw [(acceptImage_stray strayAccept_oneTile rfl).2.2]
    rfl
  rw [hx, hacc, settle_quiet _ hnow]

/-- Refutes O28: TH_LIM takes the image's word at whatever key its record has. The key 0x791 of a tile's thermal limits leads to WL_LIMIT of its
well 0, which acceptance is to leave as the host wrote it; the image here, in APPLYING, sets it to 1. -/
theorem not_imageApplies : ¬ Obligations.ImageApplies := by
  unfold Obligations.ImageApplies
  rintro ⟨-, -, -, h, -⟩
  have hsil : ∀ u, u < strayAccept.tileCount → strayAccept.silent u = false := fun u hu => by
    rw [strayAccept_oneTile.tileCount, Nat.lt_one_iff] at hu
    rw [hu]
    exact strayAccept_silent
  obtain ⟨u, hu, -, -, -, -, -, -, -, -, -, hwells, -⟩ := h strayAccept _ (by decide) rfl rfl hsil rfl
  obtain ⟨hlim, hclk, -⟩ := acceptImage_stray strayAccept_oneTile rfl
  have hsettle : u.settle = strayAccept.acceptImage := (Host.Outcome.next.inj (strayAccept_accepts.symm.trans hu)).symm
  have hasleep : u.settle.clk.fast = .sleep := by
    rw [hsettle, hclk]
    rfl
  have heff : u = strayAccept.acceptImage := (settle_asleep u hasleep).symm.trans hsettle
  obtain ⟨-, -, -, hkept⟩ := hwells 0 0 0 (by decide) (by decide) (by decide)
  rw [heff, hlim] at hkept
  exact absurd hkept (by decide)

end

end Sys2Proof.Machine
